-- ==== Sys2Proof/Word.lean ====
section
/-!
DEFINITION. The register word and byte of the module, and the plainest arithmetic on numbers of a stated width (R9, R10).
-/
namespace Sys2Proof

/-- A 32-bit register word (R10). -/
abbrev Word := BitVec 32

/-- An octet. -/
abbrev Byte := BitVec 8

end Sys2Proof
end

