-- ==== Sys2Proof/Machine/Base.lean ====
section
/-!
DEFINITION. Containers and small arithmetic shared by the whole model: sorted sparse maps, sorted sparse byte memory,
signed fields, clamping, exact division and square roots. All recursion is structural.
-/
namespace Sys2Proof.Machine

/-- A sparse map from numbers: keys strictly rising. A key that is absent has the default its user names. -/
abbrev SMap (α : Type) := List (Nat × α)

def SMap.get? {α : Type} : SMap α → Nat → Option α
  | [], _ => none
  | (k, v) :: m, i => if k = i then some v else SMap.get? m i

def SMap.getD {α : Type} (m : SMap α) (i : Nat) (d : α) : α := (SMap.get? m i).getD d

def SMap.erase {α : Type} (m : SMap α) (i : Nat) : SMap α := m.filter fun p => p.1 ≠ i

def SMap.insert {α : Type} : SMap α → Nat → α → SMap α
  | [], i, x => [(i, x)]
  | (k, v) :: m, i, x =>
    if i = k then (k, x) :: m
    else if i < k then (i, x) :: (k, v) :: m
    else (k, v) :: SMap.insert m i x

/-- Write `x` at `i`, keeping no entry that equals the default `d`: equal contents are equal lists. -/
def SMap.put {α : Type} [DecidableEq α] (d : α) (m : SMap α) (i : Nat) (x : α) : SMap α :=
  if x = d then SMap.erase m i else SMap.insert m i x

def SMap.modify {α : Type} (m : SMap α) (i : Nat) (f : α → α) : SMap α :=
  m.map (fun p => if p.1 = i then (p.1, f p.2) else p)

def SMap.keys {α : Type} (m : SMap α) : List Nat := m.map Prod.fst
def SMap.vals {α : Type} (m : SMap α) : List α := m.map Prod.snd

/-- The keys rise strictly. -/
def SMap.sorted {α : Type} : SMap α → Bool
  | [] => true
  | [_] => true
  | (a, _) :: (b, y) :: m => decide (a < b) && SMap.sorted ((b, y) :: m)

/-- Signed value of an unsigned field of `w` bits (two's complement). -/
def toInt (w v : Nat) : Int := if v < 2 ^ (w - 1) then (v : Int) else (v : Int) - 2 ^ w

/-- The `w`-bit two's complement pattern of an integer. -/
def ofInt (w : Nat) (z : Int) : Nat := (z % (2 ^ w : Int)).toNat

def clampI (lo hi z : Int) : Int := if z < lo then lo else if hi < z then hi else z
def clampN (lo hi n : Nat) : Nat := if n < lo then lo else if hi < n then hi else n
def satAdd (max a b : Nat) : Nat := if max < a + b then max else a + b

/-- Bits `[hi:lo]` of a number. -/
def bits (v hi lo : Nat) : Nat := (v / 2 ^ lo) % 2 ^ (hi - lo + 1)
def bit (v i : Nat) : Bool := (v / 2 ^ i) % 2 = 1
/-- Set or clear bit `i`. -/
def withBit (v i : Nat) (b : Bool) : Nat :=
  if bit v i = b then v else if b then v + 2 ^ i else v - 2 ^ i
def b2n (b : Bool) : Nat := if b then 1 else 0

/-- Floor division of integers, and rounding division with ties away from zero. -/
def fdiv (a b : Int) : Int := Int.fdiv a b
def rdiv (a b : Int) : Int :=
  if b = 0 then 0
  else
    let n := (2 * a.natAbs + b.natAbs) / (2 * b.natAbs)
    if (a < 0) = (b < 0) then (n : Int) else -(n : Int)

/-- Integer square root by bisection on the bits: the largest `r` with `r² ≤ n`, for `n < 4^bitsN`. -/
def isqrtAux (n : Nat) : Nat → Nat → Nat
  | 0, r => r
  | k + 1, r => let r' := r + 2 ^ k; isqrtAux n k (if r' * r' ≤ n then r' else r)
def isqrt (n : Nat) : Nat := isqrtAux n 64 0

/-! Sines and cosines in fixed point. -/

/-- The unit of the fixed-point numbers of sines and cosines, 2⁶⁴. -/
def geoOne : Int := 2 ^ 64
def geoMul (a b : Int) : Int := rdiv (a * b) geoOne
/-- Terms of a sine or cosine series from the `k`-th on. -/
def geoSeries (x2 : Int) : Nat → Int → Int → Int → Int
  | 0, _, _, acc => acc
  | n + 1, k, term, acc =>
    let term := -rdiv (geoMul term x2) (k * (k + 1))
    geoSeries x2 n (k + 2) term (acc + term)
def geoSin (x : Int) : Int := geoSeries (geoMul x x) 30 2 x x
def geoCos (x : Int) : Int := geoSeries (geoMul x x) 30 1 geoOne geoOne

def sumN (l : List Nat) : Nat := l.foldl (· + ·) 0
def sumI (l : List Int) : Int := l.foldl (· + ·) 0
def maxN (l : List Nat) : Nat := l.foldl max 0
def countP {α : Type} (p : α → Bool) (l : List α) : Nat := (l.filter p).length

/-- Insert keeping a list of numbers strictly rising. -/
def insertN : List Nat → Nat → List Nat
  | [], i => [i]
  | k :: l, i => if i = k then k :: l else if i < k then i :: k :: l else k :: insertN l i

def removeN (l : List Nat) (i : Nat) : List Nat := l.filter (· ≠ i)

/-- Replace the last element or a given position. -/
def setAt {α : Type} : List α → Nat → α → List α
  | [], _, _ => []
  | _ :: l, 0, x => x :: l
  | a :: l, n + 1, x => a :: setAt l n x

/-- First element that satisfies `p`, with its position. -/
def findIdxFrom {α : Type} (p : α → Bool) : List α → Nat → Option Nat
  | [], _ => none
  | a :: l, n => if p a then some n else findIdxFrom p l (n + 1)
def findIdx {α : Type} (p : α → Bool) (l : List α) : Option Nat := findIdxFrom p l 0

/-- Little-endian octets of a number (R11). -/
def leBytes : Nat → Nat → List Nat
  | 0, _ => []
  | k + 1, v => v % 256 :: leBytes k (v / 256)
def ofLe : List Nat → Nat
  | [] => 0
  | b :: bs => b % 256 + 256 * ofLe bs
/-- Little-endian 32-bit words of a list of octets. -/
def wordAt (l : List Nat) (k : Nat) : Nat := ofLe ((l.drop (4 * k)).take 4)
def u8 (l : List Nat) (k : Nat) : Nat := l.getD k 0
def u16 (l : List Nat) (k : Nat) : Nat := ofLe ((l.drop k).take 2)
def u32 (l : List Nat) (k : Nat) : Nat := ofLe ((l.drop k).take 4)

/-- Repeat a state transformer. -/
def iter {α : Type} (f : α → α) : Nat → α → α
  | 0, a => a
  | n + 1, a => iter f n (f a)

/-- The octets of 32-bit words, each little-endian (R10), and the words that octets spell. -/
def octetsOf (l : List Nat) : List Nat := l.flatMap (leBytes 4)
def wordsOf (l : List Nat) : List Nat := (List.range (l.length / 4)).map (wordAt l)

/-- The key of a data element: its area (Table 04.2) and its offset. -/
def areaKey (a off : Nat) : Nat := a * 2 ^ 20 + off

/-! ### The LFSR of the Gallery (R34) -/

/-- One step of the 32-bit Fibonacci LFSR x^32 + x^22 + x^2 + x + 1 (R34): the feedback bit enters at bit 0 (log entry 12). -/
def lfsrNext (v : Nat) : Nat :=
  let fb := (b2n (bit v 31) + b2n (bit v 21) + b2n (bit v 1) + b2n (bit v 0)) % 2
  (2 * v) % 2 ^ 32 + fb

/-- The image of a word under a linear map of 32-bit words, given by its columns. -/
def lfsrApply : List Nat → Nat → Nat
  | [], _ => 0
  | c :: m, v => Nat.xor (if v % 2 = 1 then c else 0) (lfsrApply m (v / 2))

/-- The columns of one step. -/
def lfsrCols : List Nat := (List.range 32).map fun i => lfsrNext (2 ^ i)

/-- n steps by squaring the map `m` of one step: a frame has 8,000,000 of them. -/
def lfsrJumpBy : Nat → List Nat → Nat → Nat → Nat
  | 0, _, _, v => v
  | k + 1, m, n, v =>
    if n = 0 then v
    else lfsrJumpBy k (m.map (lfsrApply m)) (n / 2) (if n % 2 = 1 then lfsrApply m v else v)

/-- n steps of the LFSR. -/
def lfsrJump (n v : Nat) : Nat := lfsrJumpBy (n.log2 + 1) lfsrCols n v

/-! ### CRC-32C (R213, R214) -/

/-- One bit of the reflected CRC-32C. -/
def crcBit (c : Nat) : Nat := if c % 2 = 1 then Nat.xor (c / 2) 0x82F63B78 else c / 2
def crcByte (c b : Nat) : Nat := iter crcBit 8 (Nat.xor c (b % 256))
/-- CRC-32C of a list of octets. -/
def crc32c (l : List Nat) : Nat := Nat.xor (l.foldl crcByte 0xFFFFFFFF) 0xFFFFFFFF

end Sys2Proof.Machine
end

