-- ==== Sys2Proof/Machine/Types.lean ====
section
/-!
DEFINITION. The names and the records that the commands and the state are made of: modes, roles, life-cycle states,
requesters, register fields, the program package, what the outside shows in a command's operands, and what the module emits.
-/
namespace Sys2Proof.Machine

/-- The modes (Table 02.4). -/
inductive Mode where
  | recovery | stop | run | hold | shadow | basic
  deriving DecidableEq, Repr

/-- The code of a mode (Table 02.4). -/
def Mode.code : Mode → Nat
  | .recovery => 0 | .stop => 1 | .run => 2 | .hold => 3 | .shadow => 4 | .basic => 5

def Mode.ofCode : Nat → Mode
  | 0 => .recovery | 1 => .stop | 2 => .run | 3 => .hold | 4 => .shadow | _ => .basic

/-- The pair role (SYS_ROLE.ROLE). -/
inductive Role where
  | solo | lead | follower
  deriving DecidableEq, Repr

def Role.code : Role → Nat
  | .solo => 0 | .lead => 1 | .follower => 2
def Role.ofCode : Nat → Role
  | 0 => .solo | 1 => .lead | _ => .follower

/-- The life-cycle states, in the order of their codes (SYS_LIFE.STATE). -/
inductive Life where
  | blank | provisioned | deployed | returned | scrapped
  deriving DecidableEq, Repr

def Life.code : Life → Nat
  | .blank => 0 | .provisioned => 1 | .deployed => 2 | .returned => 3 | .scrapped => 4
def Life.ofCode : Nat → Life
  | 0 => .blank | 1 => .provisioned | 2 => .deployed | 3 => .returned | _ => .scrapped

/-- Where the module stands between power-up and the end of operation (Table 02.9, R106, R108). `waitAlign`, `resolve` and
`enter` are steps 9, 10 and 11; `shutdown` is the sequence of R108, `halted` its end; `dead` is the hold of R593. -/
inductive Phase where
  | reset | waitAlign | resolve | enter | running | shutdown | halted | dead
  deriving DecidableEq, Repr

/-- Who accesses a register (R254): an engine of Table 01.1, a session context, or the unauthenticated SID 0 (R527). -/
inductive Requester where
  | engine (id : Nat)
  | session (ctx : Nat)
  | sid0
  deriving DecidableEq, Repr

/-- The number under which what a requester latched is kept (R254). -/
def Requester.key : Requester → Nat
  | .engine i => i
  | .session c => 64 + c
  | .sid0 => 1024

/-- Who a long operation reports to: nobody; a command-status register, by its address; a ticket slot of a section; a request
of a session (R633). -/
inductive Origin where
  | quiet
  | command (stat : Nat)
  | program (sect slot serial : Nat)
  | host (ctx seq : Nat)
  deriving DecidableEq, Repr

/-- The captured arguments of a service call (R199): WA, WB and the D block. -/
structure SvcArgs where
  wa : Word := 0
  wb : Word := 0
  d : List Word := []
  deriving DecidableEq, Repr

/-! ### Registers -/

/-- How the reset value of a field depends on its index (Tables 01.5, 01.11, 02.1 and 05.12). -/
inductive ResetKind where
  | plain | ticket (k : Nat) | quotaMin | quotaMax | limit | deadline | evac
  deriving DecidableEq, Repr

/-- A register field: byte address of its register, lowest bit, width, reset value, and the strides of its indices. -/
structure Fld where
  addr : Nat
  lo : Nat
  width : Nat
  rst : Nat
  s1 : Nat
  s2 : Nat
  kind : ResetKind
  deriving DecidableEq, Repr

/-- Access codes (Table 00.5); `lck` carries the modes in which the field may be written. -/
inductive Acc where
  | ro | rw | wo | w1c | rc | rws
  | lck (modes : List Mode)
  deriving DecidableEq, Repr

/-- A field of a register table: its access, whether reset keeps it, and the plain range of its value. -/
structure FieldDesc where
  fld : Fld
  acc : Acc
  kept : Bool
  range : Option (Int × Int)
  deriving DecidableEq, Repr

/-- A register of a register table: name, address of instance 0, strides and counts of its indices, and its fields. -/
structure RegDesc where
  name : String
  addr : Nat
  s1 : Nat
  n1 : Nat
  s2 : Nat
  n2 : Nat
  fields : List FieldDesc
  deriving DecidableEq, Repr

/-! ### What the module emits -/

/-- What leaves the module or is answered. -/
inductive OutKind where
  | value | fault | hxmReply | hxmComplete | spiReply | spiReady | cleatDown | cleatRetry | cleatApply | daliFrame
  | driveDown | beacon | commitFrame | exclusionFrame | mapannFrame | stopFrame | ackFrame | dataFrame | relayFrame
  | pwmDuty | dimOut | brake | shortTest
  | rover | heartbeat | y0Heartbeat | ptp | pps | trigPulse | meterPulse | arp | icmp | eth | rawFrame
  | spliceHeartbeat | copyRecord | commitMark | frameMark | copyAck | relinquish | spliceImage | roleOut | lanyardOut
  | keeper | resetOut | fix | gratuitousArp | obsForward
  deriving DecidableEq, Repr

structure Out where
  kind : OutKind
  args : List Int := []
  deriving DecidableEq, Repr

/-! ### Shared mechanisms (chapter 01) -/

/-- A Gallery or LPDDR4X access: read (`op` 0), write (1), with its requester, byte address and octets. `ecc` holds, word by word, what
the SECDED code of a word read finds (R28): 0 nothing, 1 a bit corrected, 2 an error it cannot correct; words not listed are good. -/
structure GalReq where
  req : Nat
  addr : Nat
  op : Nat
  data : List Nat := []
  len : Nat := 8
  ecc : List Nat := []
  deriving DecidableEq, Repr

/-- What else happens to a semaphore in the Gallery clock of its readers (R47): nothing, a release write, or the sideband of its owner. -/
inductive SemNow where
  | none_ | release (who : Requester) | abandon
  deriving DecidableEq, Repr

/-- A FIFO entry (R49 to R54): the two words and the packet tag. -/
structure FifoEntry where
  lo : Nat
  hi : Nat
  tag : Bool
  deriving DecidableEq, Repr

/-! ### Modes (chapter 02) -/

/-- The events of Table 02.6 that wait for a boundary. -/
inductive ModeEv where
  | start | stop | halt | resume | breakpoint | leaveBasic | enterBasic
  | escalation (cls : Nat) | skipEscalation | curatorFault | tamper
  | shutdown (orderly : Bool) | recover
  deriving DecidableEq, Repr

/-! ### The program (chapters 03 and 04) -/

inductive SlotSt where
  | free | issued | active | final
  deriving DecidableEq, Repr

inductive SectSt where
  | absent | waiting | executing | halted
  deriving DecidableEq, Repr

/-- An entry of the symbol table: identity, type, place, owning section and attributes. -/
structure Symbol where
  id : Nat
  typ : Nat := 0
  area : Nat
  off : Nat
  sect : Nat := 0
  tunable : Bool := false
  lo : Int := 0
  hi : Int := 0
  retained : Bool := false
  safety : Bool := false
  stopVal : Option Nat := none
  deriving DecidableEq, Repr

/-- A run of elements of one area that the section map assigns to one section (R122). -/
structure OwnRange where
  area : Nat
  first : Nat
  count : Nat
  sect : Nat
  deriving DecidableEq, Repr

/-- Where octets of a station lie in the images: octet `oct`, `n` octets; bits of I or Q from `off`, or a word of IW or QW. -/
structure StnMap where
  oct : Nat
  n : Nat
  area : Nat
  off : Nat
  deriving DecidableEq, Repr

/-- A planned station of the Cleat station map; `st` is 32 · port + address. -/
structure StationPlan where
  st : Nat
  o : Nat
  i : Nat
  wdog : Nat
  ins : List StnMap := []
  outs : List StnMap := []
  deriving DecidableEq, Repr

/-- A program package. `verified` is the verdict of signature and hashes (R111); `init` holds initial values keyed by
2^20 · area + offset; `links` gives the symbol identities of each section's link table. -/
structure Package where
  ident : Nat := 0
  verified : Bool := true
  len : Nat := 1
  code : List (List Nat) := []
  links : List (List Nat) := []
  symbols : List Symbol := []
  owns : List OwnRange := []
  init : SMap Nat := []
  stations : List StationPlan := []
  dBanks : Nat × Nat := (2, 3)
  deriving DecidableEq, Repr

/-! ### The lighting plane (chapter 05) -/

/-- A breakpoint of a recipe (Table 05.2): seconds of the day, ramp in seconds, shape, and eight targets. -/
structure Break where
  time : Nat
  ramp : Nat
  shape : Nat
  v : List Nat
  deriving DecidableEq, Repr

/-- A layer change (R227 to R235). An emergency or a Lanyard action carries the vector it sets; none is a clear, or a hold of
the recorded targets. -/
inductive LayerKind where
  | groupOrder (g mask : Nat) (v : List Nat)
  | groupRelease (g mask : Nat)
  | nodeOrder (n mask : Nat) (v : List Nat)
  | nodeRelease (n mask : Nat)
  | recipeSelect (g recipe : Nat)
  | recipeTarget (g : Nat) (v : List Nat)
  | recipeOff (g : Nat)
  | emergency (v : Option (List Nat)) (g : Option Nat)
  | overlayOn (g : Nat) (v : List Nat)
  | overlayOff (g : Nat)
  | clearProgram
  | lanyardOn (g : Nat) (v : Option (List Nat))
  | lanyardOff (g : Nat)
  | resync
  deriving DecidableEq, Repr

/-- States of a commit frame (Table 05.7); a frame that is withdrawn or closed is dropped from the list. -/
inductive TagPhase where
  | openT | deferred | effective
  deriving DecidableEq, Repr

/-- A part of a recipe table load (R224): recipes by number. -/
structure RecipePart where
  first : Bool
  last : Bool
  recipes : List (Nat × List Break)
  deriving DecidableEq, Repr

/-- The REPORT body of a luminaire node (Table 06.13). -/
structure LampRep where
  sent : Nat
  ftag : Nat
  fd : List Nat
  temp : Int := 0
  vstr : List Nat := []
  sstate : Nat := 0
  nshort : Nat := 0
  faults : Nat := 0
  fallback : Bool := false
  fitted : Nat := 255
  deriving DecidableEq, Repr

/-- A REPORT body: of a luminaire node, or of a sensor (frame, flags and six values). -/
inductive RepBody where
  | lamp (r : LampRep)
  | sensor (sent flags : Nat) (values : List Nat)
  deriving DecidableEq, Repr

/-! ### The node network (chapter 06) -/

/-- A frame as a radio receives it (R267, R278): whether its options and MIC are good, and its header. `noise` is energy in a
shared cell without a valid frame. -/
structure RxFrame where
  len : Nat := 0
  phyOk : Bool := true
  micOk : Bool := true
  typ : Nat
  ver : Nat := 1
  index : Nat := 0
  sess : Nat := 0
  seq : Nat := 0
  rssi : Nat := 0
  ackReq : Bool := false
  noise : Bool := false
  deriving DecidableEq, Repr

/-- A data-region frame (R273). -/
inductive DataTx where
  | grant (index start : Nat)
  | stage (node tag : Nat)
  | txn (index seq : Nat)
  | joinOffer (index : Nat)
  | block
  deriving DecidableEq, Repr

/-! ### Loops and hoists (chapter 07) -/

/-- The states of a hoist axis (Table 07.5). -/
inductive AxisSt where
  | disabled | releasing | holding | moving | paused | homing | stopping | engaging | fault
  deriving DecidableEq, Repr

/-- What one loop tick converts: string-sense codes by channel (R315); and the µs of its work on L0 and L1. -/
structure TickIn where
  sense : List (Nat × Nat) := []
  us0 : Nat := 0
  us1 : Nat := 0
  deriving DecidableEq, Repr

/-! ### Positioning (chapter 08) -/

/-- What a tracking channel shows (R352). `sat` is 256 · GNS_CH_ID.CONST + PRN; 0 where the channel is idle; its tracking state and CN0 in
the two bands. -/
structure ChanObs where
  ch : Nat
  sat : Nat
  stA : Nat
  stB : Nat
  cn0A : Nat
  cn0B : Nat
  ephem : Bool := true
  elev : Int := 45
  deriving DecidableEq, Repr

/-- Carrier lock in the band 1,575.42 MHz, and in the band 1,176.45 MHz. -/
def ChanObs.lockA (c : ChanObs) : Bool := decide (4 ≤ c.stA)
def ChanObs.lockB (c : ChanObs) : Bool := decide (4 ≤ c.stB)

/-- A cell of an MSM7 message that the module uses (R366). `sat` is 256 · system + number, `lock` the lock time that DF407
reports, ms. -/
structure RtcmCell where
  sat : Nat
  band : Nat
  lock : Nat
  half : Bool
  deriving DecidableEq, Repr

/-- An RTCM 3 frame of an OBS envelope (R363 to R366). -/
structure RtcmMsg where
  preamble : Nat := 0xD3
  reserved : Nat := 0
  crcOk : Bool := true
  lenOk : Bool := true
  typ : Nat
  station : Nat
  tow : Nat
  more : Bool
  cells : List RtcmCell := []
  deriving DecidableEq, Repr

/-- An OBS envelope: its SEQ and its RTCM frames. `bad`: its KIND, VER or LEN is wrong, or its body no whole number of frames (R361). -/
structure ObsEnv where
  seq : Nat
  msgs : List RtcmMsg
  bad : Bool := false
  deriving DecidableEq, Repr

/-- What the solver of R373 finds for a rover's epoch. Positions are ECEF millimetres, velocities mm/s. -/
structure SolIn where
  single : Bool := true
  ratio : Nat := 0
  unchanged : Bool := true
  nfix : Nat := 0
  nfix2 : Nat := 0
  rms : Nat := 0
  near : Bool := true
  nsat : Nat := 0
  sx : Int := 0
  sy : Int := 0
  sz : Int := 0
  fx : Int := 0
  fy : Int := 0
  fz : Int := 0
  x : Int := 0
  y : Int := 0
  z : Int := 0
  vx : Int := 0
  vy : Int := 0
  vz : Int := 0
  sigH : Nat := 0
  sigV : Nat := 0
  pdop : Nat := 0
  deriving DecidableEq, Repr

/-! ### Tracks (chapter 09) -/

/-- The STATUS body (Table 09.7). -/
structure StatusBody where
  flags : Nat := 0
  front : Nat
  rear : Nat
  offset : Nat := 0
  speed : Int := 0
  grantAck : Nat := 0
  task : Nat := 0xFFFF
  battery : Nat := 0
  fault : Nat := 0
  deriving DecidableEq, Repr

/-- A junction record of the track graph (Table 09.1). -/
structure Junction where
  e : Int := 0
  n : Int := 0
  u : Int := 0
  deriving DecidableEq, Repr

/-- A segment record of the track graph (Table 09.1). `dir`: 0 both, 1 A to B, 2 B to A. -/
structure Segment where
  ja : Nat
  jb : Nat
  len : Nat
  cap : Nat := 1
  dir : Nat := 0
  cor : Option Nat := none
  half : Nat := 0
  deriving DecidableEq, Repr

/-- A track graph (R389). -/
structure Graph where
  junctions : SMap Junction := []
  segments : SMap Segment := []
  deriving DecidableEq, Repr

/-! ### Time (chapter 10) -/

/-- What an Announce message carries (IEEE 1588-2019, R450). -/
structure Announce where
  prio1 : Nat := 128
  cls : Nat
  acc : Nat := 0xFE
  variance : Nat := 0
  prio2 : Nat := 128
  gm : Nat
  steps : Nat := 0
  sender : Nat
  domain : Nat := 0
  ptpTimescale : Bool := true
  utcOffset : Option Nat := none
  leap61 : Bool := false
  leap59 : Bool := false
  deriving DecidableEq, Repr

/-! ### Metering (chapter 11) -/

/-- One sample instant: the 28 converter codes, the gain each was taken at (coded as FIXGAIN), and
the time to the next sample in ns. -/
structure MSamp where
  codes : List Int
  gains : List Nat := []
  dt : Nat := 62500
  deriving DecidableEq, Repr

/-- What the windows of one feeder show (R480 to R484): RMS values, powers in µW and µvar, harmonic groups per channel, and how long
before the end of the frame their window completed, ns. -/
structure MeterWin where
  flock : Bool := false
  ref : Nat := 0
  freq : Nat := 0
  v : List Nat := [0, 0, 0]
  vll : List Nat := [0, 0, 0]
  i : List Nat := [0, 0, 0, 0]
  p : List Int := [0, 0, 0]
  q : List Int := [0, 0, 0]
  unbal : Nat := 0
  harm : Option (List (List Nat)) := none
  harmAgo : Nat := 0
  deriving DecidableEq, Repr

/-! ### Wired ports (chapter 12) -/

/-- The header of an HXM message as it reaches the module: session context, SEQ, octets of body, and whether it is malformed. -/
structure Hdr where
  ctx : Nat
  seq : Nat
  len : Nat := 0
  bad : Bool := false
  deriving DecidableEq, Repr

/-- What an HXM READ names: words of registers, or elements of a data area (R116). -/
inductive ReadTgt where
  | words (addr count : Nat)
  | area (area off count : Nat)
  deriving DecidableEq, Repr

/-- What an HXM WRITE carries: the octets of words for registers, each little-endian (R10), or a whole track graph (R389). -/
inductive WriteTgt where
  | words (addr : Nat) (octets : List Nat)
  | graph (g : Graph)
  deriving DecidableEq, Repr

/-- An HXM message (Table 12.3). -/
inductive HxmMsg where
  | read (t : ReadTgt)
  | write (t : WriteTgt)
  | service (code : Nat) (a : SvcArgs)
  | abort (seq : Nat)
  | logRead (first count : Nat)
  | vitrineRead (first count : Nat)
  | staging (node count : Nat)
  | changeSet (pairs : List (Nat × Nat))
  | recipe (p : RecipePart)
  | load (pkg : Package)
  | prepare | switch_ | discard | revert
  | forceSet (sym value : Nat)
  | forceClear (sym : Nat)
  | forceList
  | watchAdd (sym : Nat)
  | watchRemove (watch : Nat)
  | watchRead
  | dbgBreak (sect brk : Nat) (en : Bool) (pc : Nat)
  | dbgHalt
  | dbgStep (sect : Nat)
  | dbgRegs (sect : Nat)
  | report (first : Nat)
  | image (off : Nat) (data : List Nat)
  | campPart (radio off : Nat) (data : List Nat)
  | campStart (radio kind : Nat) (members : List Nat)
  | rawFrame (port : Nat) (frame : List Nat) (stamp : Bool) (at_ : Nat)
  deriving DecidableEq, Repr

/-- An Ethernet frame as a port receives it (R511 to R514). -/
structure EthFrame where
  src : Nat
  dst : Nat
  len : Nat
  vid : Option Nat := none
  pcp : Nat := 0
  cs7 : Bool := false
  bad : Bool := false
  own : Bool := false
  deriving DecidableEq, Repr

/-- A station's reply as it reaches the port (Table 12.1). -/
structure Reply where
  stat : Nat
  inputs : List Nat
  chk : Nat
  deriving DecidableEq, Repr

/-- What a station answers in one exchange: its regular slot first, then each retry slot it is given. `none` is a reply that
is missing or late; `some none` one whose CRC fails (R516). -/
structure CleatReply where
  st : Nat
  tries : List (Option (Option Reply))
  deriving DecidableEq, Repr

/-- The backward frame of a DALI query (R522). -/
inductive DaliAnswer where
  | none_ | frame (octet : Nat) | framing
  deriving DecidableEq, Repr

/-! ### Pairing (chapter 13) -/

/-- A Splice heartbeat (R542), with what the receiver finds of the conditions of R539. -/
structure Heartbeat where
  auth : Bool := true
  mode : Mode
  role : Role
  life : Life
  frame : Nat
  sync : Nat := 0
  copyfmt : Nat := 0
  prot : Bool := false
  unit : Nat := 0
  keyOk : Bool := true
  stopOk : Bool := true
  vipOk : Bool := true
  pkg : Nat := 0
  aligned : Bool := true
  deriving DecidableEq, Repr

/-! ### What start-up and a frame show -/

/-- Site configuration that MRAM holds and no command of the table writes: node slots (serial, group), sensor slots (serial,
sleeping, first word of IW), the serials of nodes that forward, and the role of each identity. -/
structure Site where
  nodes : List (Nat × Nat × Nat) := []
  sensors : List (Nat × Nat × Bool × Nat) := []
  relays : List Nat := []
  idents : List (Nat × Nat) := []
  graph : Graph := {}
  deriving DecidableEq, Repr

/-- What the ROM and the firmware find in steps 1 to 8 of start-up (Table 02.9). `fails` are the blocks that fail the reduced
check: the item of Table 14.7 and the place in it (a Gallery bank, an engine). -/
structure StartIn where
  recoveryLow : Bool := false
  shdnLow : Bool := false
  imageOk : List Bool := [true, true]
  codeOk : Bool := true
  plinthOk : Bool := true
  fails : List (Nat × Nat) := []
  seed : Nat := 1
  torn : Nat := 0
  crystal : Nat := 0
  tamper : Bool := false
  site : Option Site := none
  ms : Nat := 0
  vbatLow : Bool := false
  deriving DecidableEq, Repr

/-- What the lands show in the frame that ends: resistances of the LBT inputs in mΩ, converter samples, crystal periods, the
completion times of Table 14.6, the offsets to the spare, and the refresh of the ROLE_OUT keep-alive. -/
structure FrameIn where
  lbt : List Nat := []
  samples : List MSamp := []
  crystal : Nat := 328
  done : List Nat := []
  waits : List Nat := []
  keepAlive : Bool := true
  vbatLow : Bool := false
  deriving DecidableEq, Repr

end Sys2Proof.Machine
end

