-- ==== Sys2Proof/Machine/Parts.lean ====
section
/-!
DEFINITION. The parts of the machine's state, chapter by chapter: what the spec keeps that is no field of a register table.
-/
namespace Sys2Proof.Machine

/-! ### Engines, Gallery and shared mechanisms (chapter 01) -/

/-- A Gallery request that waits for its bank (R33): when it arrived, and what it does. -/
structure PendingReq where
  req : GalReq
  bank : Nat
  wait : Nat := 0
  deriving DecidableEq, Repr

/-- One FIFO (Tables 01.9 and 01.10): the entries held, oldest first, and what a pop last gave. The sticky flags and the
configuration are register fields. -/
structure Fifo where
  entries : List FifoEntry := []
  wptr : Nat := 0
  rptr : Nat := 0
  lowWord : Nat := 0
  lastLo : Nat := 0
  lastHi : Nat := 0
  lastTag : Bool := true
  dropping : Bool := false
  deriving DecidableEq, Repr

/-- A request in a session's sequence window (R59): its KIND, whether it is final and with what status, and its cached result. -/
structure SeqEntry where
  seq : Nat
  done : Bool := false
  fin : Nat := 0
  cached : Option (List Nat) := none
  kind : Nat := 0
  deriving DecidableEq, Repr

/-- A session context (R59 to R64, Table 01.11). `state`: 1 opening, 2 open, 3 closing. `recSeq` numbers the DTLS records of a rover's
session that the module has written (R553). -/
structure Session where
  typ : Nat
  state : Nat := 2
  peer : Nat := 0
  slot : Nat := 0
  width : Nat := 32
  high : Nat := 0
  window : List SeqEntry := []
  role : Nat := 0
  lastAt : Nat := 0
  key : List Nat := []
  recSeq : Nat := 0
  deriving DecidableEq, Repr

/-- The engines that RESET_N holds in reset until C0 has seeded the LFSR (R41): all but C0. -/
def resetMask : List Nat := (List.range 28).drop 1

/-- Shared mechanisms of chapter 01. `masked` holds the engines whose sideband is asserted (R37). `lfsrAt` is the Gallery clock at which
GAL_LFSR.STATE was last written or stepped (R34). `ddrTurn` and `ddrLeft` say whose turn the weighted round robin of
R30 stands at and how many accesses the turn still has (log entry 95). `semLast` is the last winner of R46: 22 after reset,
so that the first search begins at engine 0 (DESIGN CHOICE, log entry 91: the spec does not say where the pointer starts). -/
structure Gallery where
  masked : List Nat := []
  pending : List PendingReq := []
  lfsrAt : Nat := 0
  ddrTurn : Nat := 0
  ddrLeft : Nat := 4
  semLast : Nat := 22
  fifos : SMap Fifo := []
  sessions : SMap Session := []
  deriving DecidableEq, Repr

/-! ### The frame, the modes and start-up (chapter 02) -/

/-- What waits for a boundary to change the mode (Table 02.6), with the request it reports to. -/
structure ModeReq where
  ev : ModeEv
  by_ : Origin := .quiet
  at_ : Nat := 0
  deriving DecidableEq, Repr

/-- A Curator core (R84). `faultAt` is the module time of its fault while it is not running. -/
structure CoreSt where
  running : Bool := true
  ready : Bool := false
  faultAt : Nat := 0
  deriving DecidableEq, Repr

/-- The frame in progress and everything of chapter 02 that is no register field. `late` holds the classes that
have faulted in the frame, `periods` the slots and ticks they faulted in, `missed` what of that work is still to be left undone. `committing` holds while a boundary issues the calls of
a commit. -/
structure Frame where
  num : Nat := 0
  start : Nat := 0
  off : Nat := 0
  transitional : Bool := false
  realign : Option Nat := none
  late : List Nat := []
  periods : List (Nat × Nat) := []
  missed : List Nat := []
  runLen : SMap Nat := []
  modeReqs : List ModeReq := []
  c0 : CoreSt := {}
  c1 : CoreSt := {}
  orderlyFlag : Bool := false
  restartAfter : Bool := false
  plinthUnusable : Bool := false
  recoveryStrap : Bool := false
  committing : Bool := false
  phaseAt : Nat := 0
  deriving DecidableEq, Repr

/-! ### The segment program (chapters 03 and 04) -/

/-- A timer element (R186): done bit, running flag, previous input, elapsed milliseconds, sub-millisecond remainder in ns. -/
structure Timer where
  q : Bool := false
  running : Bool := false
  prev : Bool := false
  et : Nat := 0
  rem : Nat := 0
  deriving DecidableEq, Repr

/-- A counter element (R187). -/
structure Counter where
  cv : Word := 0
  done : Bool := false
  edge : Bool := false
  deriving DecidableEq, Repr

/-- A service call captured by SVC and queued for the commit point (R199). -/
structure QCall where
  code : Nat
  slot : Nat
  args : SvcArgs
  deriving DecidableEq, Repr

/-- A ticket slot (Table 04.10). `status` is what the call reports, `shown` what the status word holds. -/
structure Slot where
  st : SlotSt := .free
  serial : Nat := 0
  code : Nat := 0
  status : Nat := 1
  result : List Nat := []
  shown : Nat := 1
  deriving DecidableEq, Repr

/-- One section: its Plinth registers (Table 04.1), its uncommitted writes, and its accounts of the cycle. `passBrk`: the section
continues from the instruction at which a breakpoint halted it (R141). -/
structure Sect where
  st : SectSt := .absent
  ended : Bool := false
  bank : Nat := 0
  pc : Nat := 0
  ba : Bool := false
  bs : List Bool := []
  wa : Word := 0
  wb : Word := 0
  xi : Nat := 0
  cs : List Nat := []
  z : Bool := false
  n : Bool := false
  cy : Bool := false
  ov : Bool := false
  clk : Nat := 0
  endClk : Nat := 0
  work : SMap Nat := []
  wT : SMap Timer := []
  wC : SMap Counter := []
  scratch : SMap Nat := []
  queue : List QCall := []
  taken : Nat := 0
  refused : Nat := 0
  range : Nat := 0
  rangeTot : Nat := 0
  foreign : Bool := false
  trap : Option (Nat × Nat) := none
  trapRun : Nat := 0
  slots : SMap Slot := []
  lastSlot : Nat := 254
  serial : Nat := 0
  xblk : SMap Nat := []
  passBrk : Bool := false
  deriving DecidableEq, Repr

/-- A force of the force table (R160): the symbol, the value, and whether its change still waits for a boundary. -/
structure Force where
  sym : Nat
  value : Nat
  deriving DecidableEq, Repr

/-- A force change that waits for its boundary (R162). -/
structure ForceReq where
  sym : Nat
  value : Option Nat
  by_ : Origin
  deriving DecidableEq, Repr

/-- An operator change set that waits for its boundary (R150). -/
structure ChangeSet where
  pairs : List (Nat × Nat)
  by_ : Origin
  deriving DecidableEq, Repr

/-- A station of the Cleat plan as the module sees it (Table 03.2): `st` 0 ONLINE, 1 LOST, 2 SYNC, 3 ENABLE. -/
structure Station where
  st : Nat := 1
  stale : Bool := true
  safe : Bool := false
  statOct : Nat := 0
  inputs : List Nat := []
  diag : List Nat := []
  deriving DecidableEq, Repr

/-- A retained copy in MRAM (R145): its words, and in its header the cycle count and the CRC-32C of the words; `valid` once its header
is written; `fail` while it is the completed
save of a power-fail that the module has not come back from (R146, R147). -/
structure RetCopy where
  valid : Bool := false
  count : Nat := 0
  words : SMap Nat := []
  crc : Nat := 0
  fail : Bool := false
  deriving DecidableEq, Repr

/-- The program and its run (chapter 03). `areas` holds the committed areas, `inputs` the input image of the cycle, both
keyed by area code and offset; an absent key reads 0. `raw` holds I and IW as the stations gave them last, before forces; `under`
the program's own value of an output that a force replaces. `pre` holds T and the input image of the last commit
point where a latch without a commit has changed them since (R116). `deferred`: a realignment found the cycle still running. `retBase` is
the number of cycles committed before this start. `saveCount` is the cycle count of the commit point whose words a save takes, and
`saveAuto` says that its period asked for it. -/
structure Prog where
  pkg : Option Package := none
  prev : Option Package := none
  loaded : Option Package := none
  newPkg : Option Package := none
  sects : List Sect := [{}, {}, {}, {}]
  areas : SMap Nat := []
  inputs : SMap Nat := []
  timers : SMap Timer := []
  counters : SMap Counter := []
  running : Bool := false
  begun : Bool := false
  halted : Bool := false
  short : Bool := false
  first : Bool := false
  takeover : Bool := false
  afterSkip : Bool := false
  afterSwitch : Bool := false
  deferred : Bool := false
  deadlinePast : Bool := false
  skipRun : Nat := 0
  skipTot : Nat := 0
  cycles : Nat := 0
  lastLatch : Nat := 0
  heldTime : Nat := 0
  holdFrom : Nat := 0
  hit : Option (Nat × Nat) := none
  forces : List Force := []
  forceReqs : List ForceReq := []
  changes : List ChangeSet := []
  watches : List (Nat × Nat) := []
  watchVals : SMap Nat := []
  switchAt : Option Nat := none
  switchBy : Origin := .quiet
  loadBy : Origin := .quiet
  report : List Nat := []
  raw : SMap Nat := []
  pre : Option (SMap Timer × SMap Nat) := none
  under : SMap Nat := []
  stations : SMap Station := []
  ret0 : RetCopy := {}
  ret1 : RetCopy := {}
  saveDue : Bool := false
  saveAuto : Bool := false
  saveCount : Nat := 0
  saveBy : List Origin := []
  saveWords : SMap Nat := []
  sinceSave : Nat := 0
  retBase : Nat := 0
  deriving DecidableEq, Repr

/-! ### The lighting plane (chapter 05) -/

/-- A tentative entry of a node (Tables 05.5 and 05.13). `st`: 1 sent, 2 held, 3 retracting, 4 excluded. -/
structure Entry where
  tag : Nat
  kind : Nat
  ver : Nat := 0
  mask : Nat := 0
  fade : Nat := 0
  vals : List Nat := []
  lmax : List Nat := []
  st : Nat := 1
  uni : Bool := false
  deriving DecidableEq, Repr

/-- A committed entry the module keeps to judge reports (R255). -/
structure KeptEntry where
  tag : Nat
  at_ : Nat
  drives : List Nat
  deriving DecidableEq, Repr

/-- A luminaire node slot of the site configuration, with its calibration record and its image (Tables 05.1 and 05.9). `seen`: it
has reported since the plane started (R639); `cuAt`, `waitAt`: the frame that the last catch-up's effect boundary opened and its
instant, from which reports are waited for (R257). -/
structure Node where
  group : Nat := 0
  cal : List Nat := []
  ct : List Nat := [0, 0, 0, 0, 0, 0, 0, 0]
  cd : List Nat := [0, 0, 0, 0, 0, 0, 0, 0]
  fd : List Nat := [0, 0, 0, 0, 0, 0, 0, 0]
  src : List Nat := [0, 0, 0, 0, 0, 0, 0, 0]
  ctag : Nat := 0
  ftag : Nat := 0
  disc : Bool := true
  discAt : Nat := 0
  online : Bool := false
  fallback : Bool := false
  inherited : Bool := false
  stuck : Bool := false
  tries : Nat := 0
  nocal : Bool := false
  tempStale : Bool := false
  sat : Nat := 0
  excl : Nat := 0
  compLimit : Bool := false
  repAt : Nat := 0
  reported : Bool := false
  tboard : Nat := 0
  tempAt : Nat := 0
  tempEver : Bool := false
  vstr : List Nat := []
  nfault : Nat := 0
  nshort : Nat := 0
  sstate : Nat := 0
  entries : List Entry := []
  kept : List KeptEntry := []
  gain : List Nat := []
  lmaxC : List Nat := []
  newCal : Bool := false
  calSend : Bool := false
  radio : Nat := 0
  assoc : Nat := 0
  catchAt : Option Nat := none
  everCommitted : Bool := false
  seen : Bool := false
  cuAt : Nat := 0
  waitAt : Nat := 0
  lossTag : Option Nat := none
  fbTemp : Nat := 0
  fbSent : Bool := false
  heldCt : List Nat := []
  rep : Option LampRep := none
  deriving DecidableEq, Repr

/-- A layer change with its tag (R229). `old`: the group's recipe and its enable before an LGT.SELECT_RECIPE (R638). -/
structure LayerChange where
  tag : Nat
  at_ : Nat
  lead : Bool
  kind : LayerKind
  fade : Nat := 0
  by_ : Origin := .quiet
  old : Option (Nat × Nat) := none
  deriving DecidableEq, Repr

/-- A commit frame (Table 05.7). -/
structure TagSt where
  tag : Nat
  st : TagPhase := .openT
  deriving DecidableEq, Repr

/-- An exclusion carried in the commit records that name its tag (R241, Table 05.6). -/
structure Exclusion where
  group : Bool
  index : Nat
  radio : Nat
  tag : Nat
  ver : Nat
  deriving DecidableEq, Repr

/-- The lighting plane. `lastTau`: the recipe instant, in ms, of the frame evaluated last (R223); `imageAt`: the boundary at which
the node image was taken (R254). -/
structure Light where
  nodes : SMap Node := []
  recipes : SMap (List Break) := []
  recipes2 : SMap (List Break) := []
  recipeLoading : Bool := false
  recipeBy : Origin := .quiet
  inForce : SMap Nat := []
  groupOv : SMap (List (Option Nat)) := []
  nodeOv : SMap (List (Option Nat)) := []
  emerg : SMap (List Nat) := []
  overlay : SMap (List Nat) := []
  lanyard : SMap (Option (List Nat)) := []
  recipeOn : SMap Nat := []
  recipeTgt : SMap (List Nat) := []
  changes : List LayerChange := []
  tags : List TagSt := []
  excl : List Exclusion := []
  resyncTag : Option Nat := none
  running : Bool := false
  lastTz : Nat := 0
  lastTau : Option Int := none
  image : SMap Node := []
  imageAt : Nat := 0
  deriving DecidableEq, Repr

/-! ### The node network (chapter 06) -/

/-- A request on an association (R290 to R296), with the tag and version of what it stages or retracts, and the frame counter that its
repeats keep: `firstAt` is the event counter of its first attempt, none while it waits to be
sent; `lastAt` that of its last attempt or of its acknowledgement. -/
structure Txn where
  seq : Nat
  op : Nat
  by_ : Origin := .quiet
  firstAt : Option Nat := none
  lastAt : Nat := 0
  repeats : Nat := 0
  acked : Bool := false
  body : List Nat := []
  tag : Nat := 0
  ver : Nat := 0
  fcnt : Nat := 0
  deriving DecidableEq, Repr

/-- An association (R282, Table 06.20). `st`: 0 FREE, 1 JOINING, 2 ACTIVE, 3 QUARANTINE. `heard` and `since` are frame counts. `nonce`,
`modNonce`: the node's and the module's nonces, which with the radio name the node key (Table 14.3); `mapVer`, `supv`: the map version and the
supervision timeout the node was given; `acceptDue`: its JOIN_ACCEPT waits for a frame 0; `follow`: it stays awake after its next beacon
(R286); `grantK`: the REPORT period its last periodic grant lay in (R297). -/
structure Assoc where
  st : Nat := 0
  serial : Nat := 0
  sleeper : Bool := false
  sensor : Bool := false
  depth : Nat := 0
  slot : Nat := 0
  relay : Bool := false
  parent : Nat := 2047
  eSync : Nat := 0
  sess : Nat := 0
  seqD : Nat := 0
  seqU : Nat := 0
  upSeen : List Nat := []
  heard : Nat := 0
  since : Nat := 0
  ePpm : Int := 0
  bPpm : Nat := 640
  guard_ : Nat := 0
  rssi : Nat := 0
  misses : Nat := 0
  phaseP : Nat := 0
  phaseF : Nat := 0
  nonce : Nat := 0
  modNonce : Nat := 0
  key : List Nat := []
  mapVer : Nat := 0
  supv : Nat := 0
  acceptDue : Bool := false
  follow : Bool := false
  grantK : Nat := 0
  pendingUp : Bool := false
  lateAt : Option Nat := none
  calParts : SMap (List Nat) := []
  txns : List Txn := []
  deriving DecidableEq, Repr

/-- A staging message a radio sent, by its serial (R297): to a node slot, or to a group. -/
structure Staged where
  sser : Nat
  node : Option Nat
  group : Nat := 0
  tag : Nat
  ver : Nat := 0
  deriving DecidableEq, Repr

/-- A radio (Tables 06.1 and 06.17): event counter, active map and hop, the map change in progress, and what it has on the
air. `chgAt` is the event counter of the frame after which the new map takes effect at the next frame 0. `air` holds its
transmissions of the duty window: module time, µs, and whether the traffic is essential; `granted` the uplink time granted.
`shed` counts the kinds of traffic withheld, in the order of R299.
`shown` holds the associations as they stood at the last frame boundary (R306). `busy`: the free time that its transmissions and grants
take, µs from the start of the frame (R273). `beaconX`: the exclusions of its last beacon. `saved`, `fcntSave`: the association table and the
frame counter as MRAM holds them (R285). -/
structure Radio where
  e : Nat := 0
  eSave : Nat := 0
  mapLo : Nat := 0
  mapHi : Nat := 0
  seed : Nat := 0
  hop : Nat := 0
  newMapLo : Nat := 0
  newMapHi : Nat := 0
  newSeed : Nat := 0
  newHop : Nat := 0
  chgPending : Bool := false
  chgSilent : Bool := false
  remain : Nat := 0
  chgAt : Option Nat := none
  sser : Nat := 0
  fcnt : Nat := 0
  keyNo : Nat := 0
  air : List (Nat × Nat × Bool) := []
  granted : List (Nat × Nat) := []
  cells : Nat := 0
  sent : List Nat := []
  exclusions : List Exclusion := []
  realignedLeft : Nat := 0
  dutyOver : Bool := false
  shed : Nat := 0
  staged : List Staged := []
  assocs : SMap Assoc := []
  shown : SMap Assoc := []
  busy : List (Nat × Nat) := []
  beaconX : Nat := 0
  saved : SMap Assoc := []
  fcntSave : Nat := 0
  deriving DecidableEq, Repr

/-- A sensor slot of the site configuration, and the values its last report carried. -/
structure Sensor where
  serial : Nat := 0
  sleeping : Bool := false
  iw : Nat := 0
  values : List Nat := []
  flags : Nat := 0
  stale : Bool := false
  repAt : Nat := 0
  ever : Bool := false
  deriving DecidableEq, Repr

/-- A node firmware campaign of a radio (R301). `st` as NET_UPD.STATE. `todo` holds the blocks still to be multicast in this
pass; `done` the members whose image is complete, `short` those with blocks missing, `acts` those that answered UPD_ACTIVATE
with DONE; `frame` is the activation frame. -/
structure Campaign where
  st : Nat := 0
  ctx : Nat := 0
  number : Nat := 0
  kind : Nat := 0
  image : List Nat := []
  members : List Nat := []
  done : List Nat := []
  short : List Nat := []
  acts : List Nat := []
  todo : List Nat := []
  missing : List Nat := []
  pass : Nat := 0
  frame : Option Nat := none
  by_ : Origin := .quiet
  deriving DecidableEq, Repr

/-- The node network. `sessNo` keeps the last session number of each slot (sensor slots from 4,096 on); `relays` the serials of
nodes that forward; `eSaveAt` is the RTC time, in crystal periods, of the last save of E (R285). -/
structure Network where
  radios : List Radio := [{}, {}, {}, {}, {}, {}]
  serials : SMap Nat := []
  relays : List Nat := []
  sensors : SMap Sensor := []
  sessNo : SMap Nat := []
  campaigns : SMap Campaign := []
  campNo : Nat := 0
  stopCount : Nat := 0
  eSaveAt : Nat := 0
  deriving DecidableEq, Repr

/-! ### Local drive, loops and hoists (chapter 07) -/

/-- The fade of one colour channel of a local luminaire (R247, R311). -/
structure Fade where
  from_ : Nat := 0
  to_ : Nat := 0
  at_ : Nat := 0
  len : Nat := 0
  deriving DecidableEq, Repr

/-- A PWM channel: remainder and periods accounted in the frame (R309), sense judgement (R315), the gain of the last frame
boundary (R312), and the target its loop group gives it. -/
structure Pwm where
  acc : Nat := 0
  gain : Nat := 65536
  lmax : Nat := 65535
  samples : List Nat := []
  dutyMin : Nat := 0
  openRun : Nat := 0
  shortRun : Nat := 0
  okRun : Nat := 0
  lastMv : Nat := 0
  sampled : Bool := false
  done : Nat := 0
  tgt : Nat := 0
  sampleAt : Nat := 0
  deriving DecidableEq, Repr

/-- A control loop (R323 to R334). -/
structure LoopSt where
  closed : Bool := false
  i : Int := 0
  u : Int := 0
  v : Int := 0
  sp : Int := 0
  pvPrev : Int := 0
  held : Int := 0
  preload : Bool := false
  loss : Bool := false
  freeze : Bool := false
  safeOpen : Bool := false
  sampled : Bool := false
  sampleAt : Nat := 0
  pdf : Int := 0
  hist : List (Int × Bool) := []
  deriving DecidableEq, Repr

/-- One drive on a drive link (R345, R346). -/
structure Drive where
  got : Bool := false
  bad : Bool := false
  misses : Nat := 0
  fault : Bool := false
  ok : Bool := false
  pos : Int := 0
  stat : Nat := 0
  deriving DecidableEq, Repr

/-- A hoist axis (Table 07.5). Profile positions are in 1/2,000 counts, so that one generator step of 500 µs is exact. -/
structure Axis where
  st : AxisSt := .disabled
  p : Int := 0
  pPrev : Int := 0
  v : Int := 0
  vc : Int := 0
  pt : Int := 0
  vt : Int := 0
  i : Int := 0
  trq : Int := 0
  tgt : Int := 0
  offset : Int := 0
  speed : Int := 0
  acc : Int := 0
  homed : Bool := false
  enable : Bool := false
  brakeRel : Bool := false
  resetTicks : Nat := 0
  still : Nat := 0
  ticks : Nat := 0
  braking : Bool := false
  moveBy : Option Origin := none
  stopBy : List Origin := []
  homeBy : Option Origin := none
  deriving DecidableEq, Repr

/-- Local drive and loop engine. `axesDue`: the tick whose axes are still to be computed, at its 76 µs, and the engines that do so; `sentOn`: the
ports that sent a down frame in that tick. `slotAt`: the frame of the last test slot. -/
structure DriveSt where
  pwm : SMap Pwm := []
  fades : SMap Fade := []
  loops : SMap LoopSt := []
  axes : SMap Axis := []
  drives : SMap Drive := []
  tick : Nat := 0
  axesDue : Option (Nat × List Nat) := none
  sentOn : List Nat := []
  passOn : Bool := false
  passLand : Nat := 0
  passPairs : List (Nat × Nat) := []
  oldPairs : List (Nat × Nat) := []
  passBy : List Origin := []
  passWait : List Origin := []
  passAt : Nat := 0
  slotAt : Option Nat := none
  startPass : Bool := false
  deriving DecidableEq, Repr

/-! ### Positioning (chapter 08) -/

/-- A fix as the fix words and the FIX envelope carry it (Tables 08.7 and 08.8). `state` is the reported state of R376. -/
structure Fix where
  state : Nat := 0
  epoch : Nat := 0
  long : Bool := false
  slip : Bool := false
  half : Bool := false
  nsat : Nat := 0
  ratio : Nat := 0
  nfix : Nat := 0
  x : Int := 0
  y : Int := 0
  z : Int := 0
  e : Int := 0
  n : Int := 0
  u : Int := 0
  ve : Int := 0
  vn : Int := 0
  vu : Int := 0
  speed : Nat := 0
  sigH : Nat := 0
  sigV : Nat := 0
  pdop : Nat := 0
  fixedFor : Nat := 0
  deriving DecidableEq, Repr

/-- A rover as the positioning side sees it (R359 to R380). `filter`: 0 IDLE, 1 SINGLE, 2 FLOAT, 3 CANDIDATE, 4 FIXED. -/
structure RovPos where
  ctx : Option Nat := none
  filter : Nat := 0
  vcount : Nat := 0
  gap : Nat := 0
  fresh : Bool := false
  hasFix : Bool := false
  fix : Fix := {}
  closed : Bool := false
  accepted : Bool := false
  curEpoch : Nat := 0
  obs : List RtcmMsg := []
  locks : SMap Nat := []
  lockEpoch : Nat := 0
  slipNow : Bool := false
  halfNow : Bool := false
  sol : Option SolIn := none
  txSeq : Nat := 0
  deriving DecidableEq, Repr

/-- The receiver and the rovers' filters. `lost` holds the signals (2 · satellite + band) whose carrier lock the module's own
channels lost since the last epoch, `lostEpoch` those lost in the frames before it, `cutAt` the epoch whose cutoff was taken last, plus 1,
`epochAt` the epoch in progress, none after a re-step until the next epoch begins (R385), `solveLate` the superframe that had a SOLVE
deadline fault, `tick` the next tracking tick of the frame, `unsolved` the rovers whose epoch was not solved by the last fix boundary (R370). -/
structure Positioning where
  chans : SMap ChanObs := []
  rovers : SMap RovPos := []
  image : SMap (List Nat) := []
  lost : List Nat := []
  cutAt : Nat := 0
  own : Option (Int × Int × Int) := none
  surveyFrom : Nat := 0
  surveyN : Nat := 0
  surveyEpochs : Nat := 0
  surveySum : Int × Int × Int := (0, 0, 0)
  surveySq : Nat := 0
  solveLate : Option Nat := none
  unsolved : List Nat := []
  lostEpoch : List Nat := []
  epochAt : Option Nat := none
  tick : Nat := 0
  ephem : SMap Nat := []
  almanac : List Nat := []
  deriving DecidableEq, Repr


/-! ### Tracks, tasks and the Lanyard (chapter 09) -/

/-- A message to a rover that waits for its ACK (R414). -/
structure RovMsg where
  seq : Nat
  kind : Nat
  body : List Nat
  at_ : Nat
  deriving DecidableEq, Repr

/-- A reservation (R396, R400). -/
structure Resv where
  seg : Nat
  entered : Bool := false
  deriving DecidableEq, Repr

/-- A revocation that waits for its GRANT_ACK (R400). -/
structure Revoc where
  seg : Nat
  grant : Nat
  deriving DecidableEq, Repr

/-- What the allotter keeps of a rover (R391 to R414). `causes` has the bits of FLT_RV_STAT.CAUSES, INTRUSION as bit 0; `sent` the
reservations of its latest GRANT_NUM; `shed`: un-entered reservations off its route are still to be released. -/
structure RovFleet where
  inbox : List StatusBody := []
  arrived : List StatusBody := []
  st : Option StatusBody := none
  stAt : Nat := 0
  extra : Option Nat := none
  mismatch : Bool := false
  grantNum : Nat := 0
  routeId : Nat := 0
  dest : Nat := 0
  noRoute : Bool := false
  route : List Nat := []
  resv : List Resv := []
  revs : List Revoc := []
  causes : Nat := 0
  paused : Bool := false
  lost : Bool := false
  victim : Nat := 0
  heldAtChoice : List Nat := []
  backoffSegs : List Nat := []
  backoffEnd : Nat := 0
  waitsFor : Option Nat := none
  routeReq : Option (Nat × Nat) := none
  replan : Bool := false
  releaseReq : Bool := false
  releaseArr : Bool := false
  shed : Bool := false
  sent : List Resv := []
  seqOut : Nat := 0
  unacked : List RovMsg := []
  configAcked : Bool := false
  deriving DecidableEq, Repr

/-- A task (Tables 09.3 and 09.4). `st` as in Table 09.14: 1 QUEUED to 6 CANCELLED. -/
structure Task where
  prio : Nat
  auto_ : Bool
  cls : Nat
  dest : Nat
  action : Nat
  params : List Nat := []
  deadline : Nat := 0
  st : Nat := 1
  rover : Nat := 0
  code : Nat := 0
  queuedAt : Nat := 0
  offeredAt : Nat := 0
  finalAt : Nat := 0
  assignBy : Option Origin := none
  cancelBy : Option Origin := none
  deriving DecidableEq, Repr

/-- A knot (R405). -/
structure Knot where
  members : List Nat
  formedAt : Nat
  deriving DecidableEq, Repr

/-- A fleet service that waits for its ALLOT frame (R394, R406, R409, R411). `kind`: 0 hold, 1 release, 2 corridor close,
3 corridor open, 4 cancel, 5 resolve. -/
structure FleetAct where
  kind : Nat
  arg : Nat
  arg2 : Nat := 0
  ready : Bool := true
  by_ : Origin
  deriving DecidableEq, Repr

/-- The track graph and the allotter. -/
structure Fleet where
  graph : Graph := {}
  valid : Bool := false
  rovers : SMap RovFleet := []
  tasks : SMap Task := []
  waiting : List (Nat × Origin) := []
  knots : SMap Knot := []
  closed : List Nat := []
  acts : List FleetAct := []
  deriving DecidableEq, Repr

/-- The mailbox of Gallery bank 15 (R418). -/
structure Mailbox where
  num : Nat := 0
  mode : Nat := 0
  progReq : Bool := false
  modeReq : Bool := true
  deriving DecidableEq, Repr

/-- Y0 and the stop chain (R415 to R425). The causes, the filtered inputs and the outputs are register fields. `filtA` and `filtB` hold
the level of the last samples of a channel and how many there were; `key` is the working copy of the stop key in use, `prevKeyOctets` of
the one before it. -/
structure Lanyard where
  mbx : Mailbox := {}
  seen : Option Nat := none
  missed : Nat := 0
  discStopSeen : Bool := false
  differSince : Option Nat := none
  beatCount : Nat := 0
  y0Count : Nat := 0
  curatorAt : Option Nat := none
  prevKey : Nat := 0
  newKey : Option Nat := none
  newKeyAt : Nat := 0
  testNextB : Bool := false
  declBy : List Origin := []
  filtA : Bool × Nat := (false, 0)
  filtB : Bool × Nat := (false, 0)
  key : List Nat := []
  prevKeyOctets : List Nat := []
  deriving DecidableEq, Repr


/-! ### Time, triggers and the calendar (chapter 10) -/

/-- A trigger land (R455 to R458): the capture held, the program's edge count, the pending emission and the pulse. -/
structure Trig where
  valid : Bool := false
  falling : Bool := false
  stepped : Bool := false
  cap : Nat := 0
  strobeEnd : Nat := 0
  progCount : Nat := 0
  pend : Option (Nat × Origin) := none
  emitEnd : Nat := 0
  deriving DecidableEq, Repr

/-- A stamp of the transmit timestamp queue (R459). -/
structure Stamp where
  id : Nat
  port : Nat
  at_ : Nat
  deriving DecidableEq, Repr

/-- The real-time clock (R461 to R468): seconds since 2000-01-01 00:00:00, whether second 60 runs, and crystal periods. -/
structure RtcT where
  secs : Nat := 0
  in60 : Bool := false
  sub : Nat := 0
  deriving DecidableEq, Repr

/-- A requester's shadow of the RTC (R461). -/
structure RtcShadow where
  t : RtcT
  untilMono : Nat
  deriving DecidableEq, Repr

/-- The PTP ordinary clock (R450). Stamps are in ns. -/
structure PtpSt where
  parent : Option Announce := none
  parentAt : Nat := 0
  syncSeq : Option (Nat × Int × Int) := none
  t1 : Int := 0
  t2 : Int := 0
  syncCorr : Int := 0
  haveSync : Bool := false
  reqSeq : Nat := 0
  t3 : Option Int := none
  offs : List Int := []
  lastExch : Nat := 0
  txSyncSeq : Nat := 0
  txAnnSeq : Nat := 0
  deriving DecidableEq, Repr

/-- Module time (R430 to R449). `steps` is the sum of all steps since start, ns; rates have the unit 2⁻⁴⁸. -/
structure TimeSt where
  cBase : Nat := 0
  tBase : Nat := 0
  rhoF : Int := 0
  rhoS : Int := 0
  stepSum : Int := 0
  stepped : Bool := false
  gnssGood : Nat := 0
  gnssBad : Nat := 0
  resBad : Nat := 0
  offG : Int := 0
  offP : Int := 0
  discG : Bool := false
  discP : Bool := false
  ptpAcc : Nat := 0
  u0 : Nat := 0
  holdFrom : Nat := 0
  leapG : Option (Nat × Nat) := none
  leapP : Option (Nat × Nat) := none
  insFrom : Option Nat := none
  restep : Option Origin := none
  lastPps : Nat := 0
  ppsEnd : Nat := 0
  trigs : SMap Trig := []
  txq : List Stamp := []
  ptp : PtpSt := {}
  seeded : Bool := false
  deriving DecidableEq, Repr

/-- The battery-backed domain's clock. -/
structure RtcSt where
  t : RtcT := {}
  shadows : SMap RtcShadow := []
  trim : Int := 0
  trimAcc : Int := 0
  lockT : Option RtcT := none
  ownCommit : Option Nat := none
  lastDisc : Nat := 0
  lastDiff : Int := 0
  deriving DecidableEq, Repr


/-! ### Feeder metering (chapter 11) -/

/-- A frame whose samples are taken and whose results are not yet published (R486). `energy` gives, per feeder, the active
energy of the three phases in 2⁻⁴⁸ µW·ns, none where the phase is below the no-load limit (R490). `tai` and `mono` are the
instants of its end; `wins` are the windows that end in it (R481); `crossed`: a whole multiple of the demand interval in UTC lies in it; `age`:
frames that ended after it. -/
structure MFrame where
  num : Nat
  len : Nat
  partial_ : Bool
  tai : Nat
  mono : Nat
  tod : Bool
  crossed : Bool
  energy : List (List (Option Int)) := []
  clips : List Bool := []
  overs : List Bool := []
  gainChg : List Bool := []
  wins : List MeterWin := []
  age : Nat := 0
  deriving DecidableEq, Repr

/-- The demand interval of a feeder (R494). -/
structure Demand where
  from_ : Nat := 0
  aimp : Nat := 0
  bad : Bool := true
  last : Nat := 0
  deriving DecidableEq, Repr

/-- A feeder: accumulators and carried fractions of Table 11.4, demand, image block and the last harmonic window. `powers` are
the phase powers of the last published frame, µW; `lastQ` is in µvar, `lastS` in µVA. `sumE` and `sumT` are the net active energy and the time
since the last save. `hist` holds the increments of the frames last published, by frame number (R507). `lastV` holds the RMS voltages of the last
window, `harmFrom` the end of the last harmonic window on the converters' time scale (R480, R481). -/
structure Feeder where
  acc : List Nat := [0, 0, 0, 0, 0, 0, 0, 0, 0, 0, 0]
  frac : List Nat := [0, 0, 0, 0, 0, 0, 0, 0, 0, 0, 0]
  dem : Demand := {}
  block : List Nat := []
  valid : Bool := false
  powers : List Int := []
  lastQ : List Int := []
  lastS : Nat := 0
  harm : List (List Nat) := []
  harmAt : Option Nat := none
  pubAt : Nat := 0
  sumE : Int := 0
  sumT : Nat := 0
  hist : List (Nat × List Nat) := []
  thd : List Nat := []
  lastV : List Nat := []
  harmFrom : Option Nat := none
  deriving DecidableEq, Repr

/-- A pulse output (R496, R497). PENDING and OVERFLOW are register fields. -/
structure Pulse where
  residue : Nat := 0
  endAt : Nat := 0
  deriving DecidableEq, Repr

/-- A metering channel's account for automatic gain (R477). -/
structure MChan where
  lowFrames : Nat := 0
  switched : Bool := false
  delay : Nat := 0
  deriving DecidableEq, Repr

/-- A save copy of the meter save area (R501, R502). `kind`: 0 periodic, 1 flush. -/
structure SaveCopy where
  valid : Bool := false
  counter : Nat := 0
  kind : Nat := 0
  at_ : Nat := 0
  frame : Nat := 0
  acc : List (List Nat) := []
  frac : List (List Nat) := []
  dem : List Demand := []
  maxDem : List (Nat × Nat) := []
  pulses : List (Nat × Nat) := []
  meanP : List Int := []
  deriving DecidableEq, Repr

/-- A sample instant kept for the windows: its time on the converters' scale in ns, and the 28 delayed primary values. -/
structure MPoint where
  t : Nat
  y : List Int
  deriving DecidableEq, Repr

/-- The metering function. `points` are the samples of the last 400 ms, `raw` the last two before their delay (R476), and `clk` the end of
the last frame on the converters' time scale. `accTo` and `accNum` are the TAI instant up to which the accumulators account, and the frame. -/
structure Meter where
  running : Bool := false
  points : List MPoint := []
  raw : List (List Int) := []
  clk : Nat := 0
  feeders : List Feeder := [{}, {}, {}, {}]
  chans : SMap MChan := []
  pulses : List Pulse := [{}, {}, {}, {}, {}, {}, {}, {}]
  queue : List MFrame := []
  pubStat : Nat := 0
  pubSave : Nat := 0
  pubAt : Nat := 0
  accTo : Nat := 0
  accNum : Nat := 0
  lastSave : Nat := 0
  copy0 : SaveCopy := {}
  copy1 : SaveCopy := {}
  marker : Option Nat := none
  suspendedAt : Nat := 0
  resumeDue : Bool := false
  clearBy : Option Origin := none
  deriving DecidableEq, Repr


/-! ### Wired ports (chapter 12) -/

/-- A DALI transaction (R521, R522). `special` is the address octet of a special command; `again`: the second frame of a
send-twice command is due. -/
structure DaliTxn where
  addr : Nat := 255
  arc : Bool := false
  octet : Nat := 0
  twice : Bool := false
  special : Option Nat := none
  query : Bool := false
  by_ : Origin := .quiet
  tries : Nat := 1
  again : Bool := false
  begun : Bool := false
  deriving DecidableEq, Repr

/-- A DALI line (R521 to R524). `slotAt` is the start of the frame whose slot it used last. -/
structure DaliLine where
  queue : List DaliTxn := []
  stopArc : Bool := false
  slotAt : Nat := 0
  deriving DecidableEq, Repr

/-- An entry of the switch's address table (R512). -/
structure MacEntry where
  mac : Nat
  port : Nat
  at_ : Nat
  deriving DecidableEq, Repr

/-- The wired ports. `idents` gives the role of each identity of the site
configuration (R530). `got` holds the inputs that the exchange in progress brought, by station, `apply` the ports that send APPLY
at the boundary. `waitCmd` are the
requests of sessions that wait for a command: the address of its status register, the context and the SEQ. -/
structure Wired where
  macs : List MacEntry := []
  stormSec : Nat := 0
  stormCnt : SMap Nat := []
  storm : SMap Bool := []
  lines : List DaliLine := [{}, {}, {}, {}]
  idents : SMap Nat := []
  sids : SMap Nat := []
  spiResp : Option (List Int) := none
  spiRdy : Bool := false
  secretClean : Bool := false
  got : SMap (List Nat) := []
  apply : List Nat := []
  waitCmd : List (Nat × Nat × Nat) := []
  exchanged : Bool := false
  deriving DecidableEq, Repr

/-! ### The state copy (Table 13.2) -/

/-! ### Slots of the Strongroom (chapter 14) -/

/-- Where a slot's key comes from (R588): octets installed or public, a draw of the random source, or a parent and a label. -/
inductive KeyMat where
  | none_
  | octets (l : List Nat)
  | random (n : Nat)
  | derived (label : List Nat)
  deriving DecidableEq, Repr

/-- A Strongroom slot (Table 14.9). `root` is the root of the slot's tree, as KEY_STAT.ROOT codes it (R583, R586). -/
structure KeySlot where
  kind : Nat := 0
  master : Nat := 0
  paircore : Bool := false
  world : Nat := 0
  life : Nat := 0
  use_ : Nat := 0
  depth : Nat := 0
  fallback : Nat := 0
  size : Nat := 0
  rooted : Bool := false
  parent : Nat := 0
  uses : Nat := 0
  mat : KeyMat := .none_
  root : Nat := 0
  deriving DecidableEq, Repr

/-- What a copy record carries: the new value of a part of the state of Table 13.2. `write` is a section's uncommitted
working write, keyed by 2^20 · area + offset. -/
inductive CopyItem where
  | write (sect key value : Nat)
  | prog (p : Prog)
  | light (l : Light)
  | net (n : Network)
  | drive (d : DriveSt)
  | fleet (f : Fleet)
  | lanyard (active latched : Nat)
  | lanyardReset
  | meter (num : Nat) (fs : List Feeder) (ps : List Pulse)
  | session (ctx : Nat) (s : Session)
  | mode (m : Mode)
  | regs (l : List (Nat × Nat))
  | dali (l : List DaliLine)
  | keySlot (k : Nat) (x : KeySlot)
  deriving DecidableEq, Repr


/-! ### Paired operation and updates (chapter 13) -/

/-- An effect that waits for the Follower's acknowledgement (R548). `need` is the serial of the record it waits for. -/
structure HeldOut where
  need : Nat
  out : Out
  due : Option Nat := none
  deriving DecidableEq, Repr

/-- A flash bank (Tables 13.4 and 13.5, R564). `head` holds the first octets of the header. -/
structure Bank where
  st : Nat := 0
  gen : Nat := 0
  head : List Nat := []
  len : Nat := 0
  good : Bool := false
  pkgs : List (Option Package) := [none, none]
  newest : Nat := 0
  deriving DecidableEq, Repr

/-- The firmware banks and the activation in progress. `kind`: 0 none, 1 hitless, 2 restart, 3 pair. -/
structure Update where
  banks : List Bank := [{}, {}]
  active : Nat := 0
  kind : Nat := 0
  stage : Nat := 0
  by_ : Origin := .quiet
  imgBy : Origin := .quiet
  next : Nat := 0
  since : Option Nat := none
  c1Ready : Bool := false
  resetDue : Bool := false
  peerLeft : Bool := false
  deriving DecidableEq, Repr

/-- The Splice link (R541 to R562). Register fields hold what SPL_STAT and SPL_PEER show. `sent` is what the Lead's last record holds
(Table 13.2), and `formed` says that a pair has formed and slots 2 and 3 go with the next one (R590). -/
structure Splice where
  serial : Nat := 0
  unacked : List Nat := []
  held : List HeldOut := []
  hbAt : Nat := 0
  sent : List CopyItem := []
  formed : Bool := false
  hbSync : Nat := 0
  partnerLead : Bool := false
  recs : List CopyItem := []
  writes : List CopyItem := []
  relinquished : Bool := false
  takeAt : Option Nat := none
  swapAt : Option Nat := none
  swapBy : Origin := .quiet
  copied : Mode := .stop
  leadLast : Nat := 0
  leadLatch : Nat := 0
  loadMark : Nat := 0
  keep : Bool := false
  ledAt : Nat := 0
  deriving DecidableEq, Repr

/-! ### Keys, records and self-test (chapter 14) -/

/-- An operation in K0's queue (R587). -/
structure KeeperOp where
  engine : Nat
  secure : Bool
  slot : Nat
  op : Nat
  deriving DecidableEq, Repr

/-- A fused provisioning row (R579). -/
structure ProvRow where
  entropy : List Nat := []
  random : Nat := 0
  recovery : List Nat := []
  pkg : List Nat := []
  deriving DecidableEq, Repr

/-- The Keeper, the Strongroom and the fuses. `dsec`: 0 not drawn, 1 stored, 2 read path disabled, 3 blown; `secret` is the first of the
eight draws of the device secret. `cache` holds slots with their working copies, the last used in front. `fuse` is the
life-cycle state that fuse programming in progress reaches, `newRow` the row it fuses. `zeroised`: the session, Hitch, Y0 and
Splice keys of this run are gone (R591, R610); `rootGone`: the root working copy is cleared until the next start (R535). -/
structure Keys where
  life : Life := .blank
  killed : Bool := false
  dsec : Nat := 0
  rows : List ProvRow := []
  slots : SMap KeySlot := []
  installed2 : Bool := false
  cache : List (Nat × List Nat) := []
  secret : Nat := 0
  queue : List KeeperOp := []
  fuse : Option Life := none
  fuseBy : Origin := .quiet
  inp : List Nat := []
  label : List Nat := []
  out : List Nat := []
  scan : Bool := false
  zeroised : Bool := false
  rootGone : Bool := false
  newRow : Option ProvRow := none
  deriving DecidableEq, Repr

/-- A record of the Accession log (Table 14.5). -/
structure LogRec where
  acc : Nat
  optime : Nat
  pwrcyc : Nat
  sev : Nat
  source : Nat
  code : Nat
  frame : Nat
  payload : List Nat
  deriving DecidableEq, Repr

/-- A Vitrine entry (Table 14.6), its fields in the order of the table. -/
structure VitEntry where
  fnum : Nat := 0
  state : Nat := 0
  radio : Nat := 0
  done : List Nat := []
  consec : List Nat := []
  cause : Nat := 0
  cycnum : Nat := 0
  firstAcc : Nat := 0
  nrec : Nat := 0
  disc : Nat := 0
  unc : Nat := 0
  offset : Int := 0
  wait : List Nat := []
  ptot : List Int := []
  watch : List Nat := []
  deriving DecidableEq, Repr

/-- The Accession log and the Vitrine. `left` counts the frames to freezing once a trigger stands. -/
structure Records where
  queue : List LogRec := []
  held : List LogRec := []
  torn : Nat := 0
  optime : Nat := 0
  savedOptime : Nat := 0
  optimeRem : Nat := 0
  markAt : Nat := 0
  vit : List VitEntry := []
  left : Option Nat := none
  firstAcc : Nat := 0
  nrec : Nat := 0
  trigNow : Bool := false
  commitSent : Nat := 0
  deriving DecidableEq, Repr

/-- Self-test and repair (R603 to R609). `bad` names the blocks out of service: the item of Table 14.7 and the place in it. -/
structure SelfTest where
  bad : List (Nat × Nat) := []
  fuseEntries : Nat := 0
  deriving DecidableEq, Repr

end Sys2Proof.Machine
end

