-- ==== Sys2Proof/Syntax.lean ====
section
/-!
DEFINITION. The commands of the block: one constructor per row of spec/opcode_table.json, in the order of the table. Each
docstring names the rule the row rests on, and what its operands are where their names do not say it.
An operand that has a default says what else falls into the command's clock or goes with it; the default says that nothing does.
-/
namespace Sys2Proof

open Sys2Proof.Machine

/-- A command of the table of operations and events. -/
inductive Instr where
  /-- START_UP: R102, Table 02.9: steps 1 to 8; what the ROM and the firmware find on the way is the operand -/
  | startUp (x : StartIn)
  /-- TIME_WAIT_EXPIRY: R105 -/
  | timeWaitExpiry
  /-- ROLE_RESOLVE: R544: the listening window of step 10 ends, ROLE_IN at the level given -/
  | roleResolve (roleIn : Bool)
  /-- RESET: R618 -/
  | reset
  /-- VIN_LOSS: R621 -/
  | vinLoss
  /-- THERMAL_SHUTDOWN: R628 -/
  | thermalShutdown
  /-- POWER_FAIL: R502 -/
  | powerFail (at_ : Nat := 0) (samples : List MSamp := []) (hold : Bool := true)
  /-- POWER_RESTORE: R503 -/
  | powerRestore
  /-- FRAME_BOUNDARY: R70: the frame in progress ends; the operand holds what the lands show in it -/
  | frameBoundary (x : FrameIn)
  /-- DEADLINE_FAULT: R80, R81; period is the slot or tick of the frame -/
  | deadlineFault (cls engine : Nat) (period : Nat := 0)
  /-- CURATOR_FAULT: R84 -/
  | curatorFault (core : Nat)
  /-- CURATOR_READY: R84 -/
  | curatorReady (core : Nat)
  /-- CURATOR_RESTART_TIMEOUT: R84 -/
  | curatorRestartTimeout (core : Nat)
  /-- Y0_MODULE_RESET: R84 -/
  | y0ModuleReset
  /-- START: R100, SYS_CMD code 0x01 -/
  | start (who : Requester)
  /-- STOP: R89, SYS_CMD code 0x02 -/
  | stop (who : Requester)
  /-- HALT: R137, SYS_CMD code 0x03 -/
  | halt (who : Requester)
  /-- RESUME: R141, SYS_CMD code 0x04 -/
  | resume (who : Requester)
  /-- ENTER_BASIC: R89, SYS_CMD code 0x05 -/
  | enterBasic (who : Requester)
  /-- LEAVE_BASIC: R93, SYS_CMD code 0x06 -/
  | leaveBasic (who : Requester)
  /-- RECOVER: R89, SYS_CMD code 0x07 -/
  | recover (who : Requester) (confirm : Nat)
  /-- RESTART: R108, SYS_CMD code 0x08 -/
  | restart (who : Requester) (confirm : Nat)
  /-- SHUTDOWN: R108, SYS_CMD code 0x09 -/
  | shutdown (who : Requester) (confirm : Nat)
  /-- SHDN_REQ_FALL: R108 -/
  | shdnReqFall
  /-- SELF_TEST_COMPLETE: R603, R605, R606: the blocks that failed, each an item of Table 14.7 and a place in it, and the duration -/
  | selfTestComplete (found : List (Nat × Nat)) (ms : Nat)
  /-- GALLERY_ACCESS: R33: a draw on a bank, with the accesses that arrive in the clocks before it at the
  Gallery and, in `direct`, at the rest of the address map; beats the winner completes (R38) -/
  | galleryAccess (bank clocks : Nat) (arrivals : List GalReq) (beats : Nat) (direct : List GalReq)
  /-- SIDEBAND_ASSERT: R37 -/
  | sidebandAssert (engine : Nat)
  /-- DMA_DESCRIPTOR: R26; ecc is what the words read are found to be, as in an access -/
  | dmaDescriptor (writer dma src dst len : Nat) (ecc : List Nat := [])
  /-- SEM_ACQUIRE: R42, R46, R47: the readers of one clock, and what else happens to the semaphore in it -/
  | semAcquire (n : Nat) (readers : List Requester) (now : SemNow := .none_)
  /-- SEM_RELEASE: R44 -/
  | semRelease (n : Nat) (who : Requester) (w : Word)
  /-- SEM_FORCE: R48 -/
  | semForce (who : Requester) (w : Word)
  /-- FIF_PUSH_LO: R50: wide is the high word of a 64-bit store -/
  | fifPushLo (f engine : Nat) (lo : Word) (wide : Option Word)
  /-- FIF_PUSH_HI: R50 -/
  | fifPushHi (f engine : Nat) (hi : Word)
  /-- FIF_PUSH_HI_END: R50: wide is the low word of a 64-bit store -/
  | fifPushHiEnd (f engine : Nat) (hi : Word) (wide : Option Word)
  /-- FIF_POP_LO: R51, R53; push is the entry the producer commits in the same clock -/
  | fifPopLo (f engine : Nat) (wide : Bool) (push : Option FifoEntry := none)
  /-- FLUSH: R55, R56; push is the entry the producer commits in the same clock -/
  | flush (f engine : Nat) (push : Option FifoEntry := none)
  /-- DROP_PACKET: R54, R55; push is the entry the producer commits in the same clock -/
  | dropPacket (f engine : Nat) (push : Option FifoEntry := none)
  /-- FIF_CFG_WRITE: R58 -/
  | fifCfgWrite (f : Nat) (who : Requester) (w : Word)
  /-- SESSION_OPEN: R61 -/
  | sessionOpen (typ peer slot : Nat)
  /-- SESSION_CLOSE: R63 -/
  | sessionClose (ctx : Nat)
  /-- REGISTER_WRITE: R533, R634; others are the writes of the register that other requesters make in the same clock -/
  | registerWrite (who : Requester) (addr : Nat) (w : Word) (others : List (Requester × Word) := [])
  /-- RC_FIELD_READ: R15 -/
  | rcFieldRead (who : Requester) (addr : Nat)
  /-- FRM_NUM_LO_READ: R70 -/
  | frmNumLoRead (who : Requester)
  /-- COMMIT_DEADLINE: R133: the instant D_j of the slot in progress -/
  | commitDeadline
  /-- BREAKPOINT_HIT: R139 -/
  | breakpointHit (sect brk : Nat)
  /-- STEP: R140, PLX_DBG.STEP with PLX_DBG.SECT as it stands -/
  | step (who : Requester)
  /-- RETAINED_SAVE: R145: a save due is written, or stopped after cut words -/
  | retainedSave (cut : Option Nat)
  /-- LOAD_COMPLETE: R154 -/
  | loadComplete
  /-- NOP: R179, Table 04.5 -/
  | opNop (k : Nat)
  /-- LD: R179, Table 04.5 -/
  | opLd (k mode opnd wait : Nat)
  /-- LDN: R179, Table 04.5 -/
  | opLdn (k mode opnd wait : Nat)
  /-- AND: R179, Table 04.5 -/
  | opAnd (k mode opnd wait : Nat)
  /-- ANDN: R179, Table 04.5 -/
  | opAndn (k mode opnd wait : Nat)
  /-- OR: R179, Table 04.5 -/
  | opOr (k mode opnd wait : Nat)
  /-- ORN: R179, Table 04.5 -/
  | opOrn (k mode opnd wait : Nat)
  /-- XOR: R179, Table 04.5 -/
  | opXor (k mode opnd wait : Nat)
  /-- NOT: R179, Table 04.5 -/
  | opNot (k : Nat)
  /-- BOPEN: R184, Table 04.5 -/
  | opBopen (k : Nat)
  /-- BCAND: R184, Table 04.5 -/
  | opBcand (k : Nat)
  /-- BCOR: R184, Table 04.5 -/
  | opBcor (k : Nat)
  /-- EDGP: R185, Table 04.5 -/
  | opEdgp (k mode opnd wait : Nat)
  /-- EDGN: R185, Table 04.5 -/
  | opEdgn (k mode opnd wait : Nat)
  /-- ST: R179, Table 04.5 -/
  | opSt (k mode opnd wait : Nat)
  /-- STN: R179, Table 04.5 -/
  | opStn (k mode opnd wait : Nat)
  /-- SET: R179, Table 04.5 -/
  | opSet (k mode opnd wait : Nat)
  /-- RST: R179, Table 04.5 -/
  | opRst (k mode opnd wait : Nat)
  /-- STWC: R179, Table 04.5 -/
  | opStwc (k mode opnd wait : Nat)
  /-- TON: R186, Table 04.5 -/
  | opTon (k mode opnd wait : Nat)
  /-- TOF: R186, Table 04.5 -/
  | opTof (k mode opnd wait : Nat)
  /-- TP: R186, Table 04.5 -/
  | opTp (k mode opnd wait : Nat)
  /-- CTU: R187, Table 04.5 -/
  | opCtu (k mode opnd wait : Nat)
  /-- CTD: R187, Table 04.5 -/
  | opCtd (k mode opnd wait : Nat)
  /-- CLD: R187, Table 04.5 -/
  | opCld (k mode opnd wait : Nat)
  /-- LDW: R179, Table 04.5 -/
  | opLdw (k mode opnd wait : Nat)
  /-- STW: R179, Table 04.5 -/
  | opStw (k mode opnd wait : Nat)
  /-- SWP: R179, Table 04.5 -/
  | opSwp (k : Nat)
  /-- ADD: R188, Table 04.5 -/
  | opAdd (k mode opnd wait : Nat)
  /-- ADDS: R188, Table 04.5 -/
  | opAdds (k mode opnd wait : Nat)
  /-- SUB: R188, Table 04.5 -/
  | opSub (k mode opnd wait : Nat)
  /-- SUBS: R188, Table 04.5 -/
  | opSubs (k mode opnd wait : Nat)
  /-- MUL: R180, Table 04.5 -/
  | opMul (k mode opnd wait : Nat)
  /-- MULS: R188, Table 04.5 -/
  | opMuls (k mode opnd wait : Nat)
  /-- DIV: R189, Table 04.5 -/
  | opDiv (k mode opnd wait : Nat)
  /-- ANDW: R179, Table 04.5 -/
  | opAndw (k mode opnd wait : Nat)
  /-- ORW: R179, Table 04.5 -/
  | opOrw (k mode opnd wait : Nat)
  /-- XORW: R179, Table 04.5 -/
  | opXorw (k mode opnd wait : Nat)
  /-- SHL: R181, Table 04.5 -/
  | opShl (k mode opnd wait : Nat)
  /-- SHR: R181, Table 04.5 -/
  | opShr (k mode opnd wait : Nat)
  /-- CEQ: R180, Table 04.5 -/
  | opCeq (k mode opnd wait : Nat)
  /-- CNE: R180, Table 04.5 -/
  | opCne (k mode opnd wait : Nat)
  /-- CGT: R180, Table 04.5 -/
  | opCgt (k mode opnd wait : Nat)
  /-- CGE: R180, Table 04.5 -/
  | opCge (k mode opnd wait : Nat)
  /-- CLT: R180, Table 04.5 -/
  | opClt (k mode opnd wait : Nat)
  /-- CLE: R180, Table 04.5 -/
  | opCle (k mode opnd wait : Nat)
  /-- LDX: R179, Table 04.5 -/
  | opLdx (k mode opnd wait : Nat)
  /-- ADDX: R179, Table 04.5 -/
  | opAddx (k mode opnd wait : Nat)
  /-- JMP: R192, Table 04.5 -/
  | opJmp (k mode opnd wait : Nat)
  /-- JMPC: R192, Table 04.5 -/
  | opJmpc (k mode opnd wait : Nat)
  /-- JMPCN: R192, Table 04.5 -/
  | opJmpcn (k mode opnd wait : Nat)
  /-- CALL: R193, Table 04.5 -/
  | opCall (k mode opnd wait : Nat)
  /-- RET: R193, Table 04.5 -/
  | opRet (k : Nat)
  /-- TBL: R190, Table 04.5 -/
  | opTbl (k mode opnd wait : Nat)
  /-- MOVB: R191, Table 04.5 -/
  | opMovb (k mode opnd wait : Nat)
  /-- LDF: R183, Table 04.5 -/
  | opLdf (k mode opnd wait : Nat)
  /-- SVC: R199, Table 04.5 -/
  | opSvc (k mode opnd wait : Nat)
  /-- END: R194, Table 04.5 -/
  | opEnd (k : Nat)
  /-- REQ_STOP: R208, Table 04.9 -/
  | reqStop (o : Origin) (a : SvcArgs)
  /-- REQ_BASIC: R208, Table 04.9 -/
  | reqBasic (o : Origin) (a : SvcArgs)
  /-- PLX_ABORT: R205, Table 04.9 -/
  | plxAbort (o : Origin) (a : SvcArgs)
  /-- RETAIN_SAVE: R145, Table 04.9 -/
  | retainSave (o : Origin) (a : SvcArgs)
  /-- SET_GROUP: R232, Table 04.9 -/
  | setGroup (o : Origin) (a : SvcArgs)
  /-- RELEASE_GROUP: R229, Table 04.9 -/
  | releaseGroup (o : Origin) (a : SvcArgs)
  /-- SET_NODE: R232, Table 04.9 -/
  | setNode (o : Origin) (a : SvcArgs)
  /-- RELEASE_NODE: R229, Table 04.9 -/
  | releaseNode (o : Origin) (a : SvcArgs)
  /-- SELECT_RECIPE: R232, Table 04.9 -/
  | selectRecipe (o : Origin) (a : SvcArgs)
  /-- EMERGENCY: R227, Table 04.9 -/
  | emergency (o : Origin) (a : SvcArgs)
  /-- OVERLAY_PRESENCE: R233, Table 04.9 -/
  | overlayPresence (o : Origin) (a : SvcArgs)
  /-- READ_STAGING: R251, Table 04.9 -/
  | readStaging (o : Origin) (a : SvcArgs)
  /-- NODE_QUERY: R295, Table 04.9 -/
  | nodeQuery (o : Origin) (a : SvcArgs)
  /-- NODE_IDENTIFY: R295, Table 04.9 -/
  | nodeIdentify (o : Origin) (a : SvcArgs)
  /-- NODE_RESTART: R295, Table 04.9 -/
  | nodeRestart (o : Origin) (a : SvcArgs)
  /-- SHORT_TEST: R319, Table 04.9 -/
  | shortTest (o : Origin) (a : SvcArgs)
  /-- LOOP_OPEN: R329, Table 04.9 -/
  | loopOpen (o : Origin) (a : SvcArgs)
  /-- LOOP_CLOSE: R335, Table 04.9 -/
  | loopClose (o : Origin) (a : SvcArgs)
  /-- SET_COEF: R330, Table 04.9 -/
  | setCoef (o : Origin) (a : SvcArgs)
  /-- SET_SP: R208, Table 04.9 -/
  | setSp (o : Origin) (a : SvcArgs)
  /-- HOIST_MOVE: R342, Table 04.9 -/
  | hoistMove (o : Origin) (a : SvcArgs)
  /-- HOIST_STOP: R341, Table 04.9 -/
  | hoistStop (o : Origin) (a : SvcArgs)
  /-- HOIST_HOME: R341, Table 04.9 -/
  | hoistHome (o : Origin) (a : SvcArgs)
  /-- ROVER_STATUS: R382, Table 04.9 -/
  | roverStatus (o : Origin) (a : SvcArgs)
  /-- TASK_QUEUE: R407, Table 04.9 -/
  | taskQueue (o : Origin) (a : SvcArgs)
  /-- TASK_ASSIGN: R408, Table 04.9 -/
  | taskAssign (o : Origin) (a : SvcArgs)
  /-- TASK_CANCEL: R409, Table 04.9 -/
  | taskCancel (o : Origin) (a : SvcArgs)
  /-- ROVER_HOLD: R411, Table 04.9 -/
  | roverHold (o : Origin) (a : SvcArgs)
  /-- ROVER_RELEASE: R411, Table 04.9 -/
  | roverRelease (o : Origin) (a : SvcArgs)
  /-- KNOT_RESOLVE: R406, Table 04.9 -/
  | knotResolve (o : Origin) (a : SvcArgs)
  /-- CORRIDOR_CLOSE: R394, Table 04.9 -/
  | corridorClose (o : Origin) (a : SvcArgs)
  /-- CORRIDOR_OPEN: R394, Table 04.9 -/
  | corridorOpen (o : Origin) (a : SvcArgs)
  /-- DECLARE_STOP: R415, Table 04.9 -/
  | declareStop (o : Origin) (a : SvcArgs)
  /-- TRIG_ARM: R456, Table 04.9 -/
  | trigArm (o : Origin) (a : SvcArgs)
  /-- TRIG_EMIT: R457, Table 04.9 -/
  | trigEmit (o : Origin) (a : SvcArgs)
  /-- TRIG_READ: R456, Table 04.9 -/
  | trigRead (o : Origin) (a : SvcArgs)
  /-- CAL_READ: R469, Table 04.9 -/
  | calRead (o : Origin) (a : SvcArgs)
  /-- HARM_READ: R485, Table 04.9 -/
  | harmRead (o : Origin) (a : SvcArgs)
  /-- DEMAND_RESET: R495, Table 04.9 -/
  | demandReset (o : Origin) (a : SvcArgs)
  /-- STATION_DIAG: R519, Table 04.9 -/
  | stationDiag (o : Origin) (a : SvcArgs)
  /-- DALI_ARC: R522, Table 04.9 -/
  | daliArc (o : Origin) (a : SvcArgs)
  /-- DALI_CMD: R522, Table 04.9 -/
  | daliCmd (o : Origin) (a : SvcArgs)
  /-- DALI_QUERY: R522, Table 04.9 -/
  | daliQuery (o : Origin) (a : SvcArgs)
  /-- LOG_EVENT: R596, Table 04.9 -/
  | logEvent (o : Origin) (a : SvcArgs)
  /-- COMMIT_FRAME_WITHDRAW: R243, Table 05.7 -/
  | commitFrameWithdraw (tag : Nat)
  /-- COMMIT_FRAME_CLOSE: R243, Table 05.7 -/
  | commitFrameClose (tag : Nat)
  /-- NODE_REPORT: R255, R262, R289: association index of radio r -/
  | nodeReport (r index sess seq : Nat) (b : RepBody)
  /-- REPORT_WAIT_EXPIRY: R256, R257 -/
  | reportWaitExpiry (node : Nat)
  /-- TEMP_AGE_EXPIRY: R217 -/
  | tempAgeExpiry (node : Nat)
  /-- CAL_STORE: R213: LGT_CSEL written with WRITE = 1 -/
  | calStore (who : Requester) (w : Word)
  /-- CAL_LOAD: R213: LGT_CSEL written with WRITE = 0 -/
  | calLoad (who : Requester) (w : Word)
  /-- LGT_NSEL: R254 -/
  | lgtNsel (who : Requester) (w : Word)
  /-- LGT_SSEL: R254 -/
  | lgtSsel (who : Requester) (w : Word)
  /-- BEACON_TX: R276 -/
  | beaconTx (r : Nat)
  /-- STOP_FRAME_TX: R304 -/
  | stopFrameTx
  /-- EXCLUSION_TX: R275 -/
  | exclusionTx (r : Nat)
  /-- COMMIT_FRAME_TX: R274 -/
  | commitFrameTx (r : Nat)
  /-- MAPANN_TX: R271 -/
  | mapannTx (r : Nat)
  /-- MAP_CHANGE_EFFECT: R271 -/
  | mapChangeEffect (r : Nat)
  /-- MAPCHG_APPLY: R271 -/
  | mapchgApply (who : Requester) (r : Nat) (w : Word)
  /-- FRAME_RX: R278 -/
  | frameRx (r : Nat) (f : RxFrame)
  /-- JOIN_REQ: R283, Table 06.11 -/
  | joinReq (r serial kind nonce : Nat)
  /-- JOIN_CONFIRM: R278, R283: whether the MIC verifies, and the nonces -/
  | joinConfirm (r index : Nat) (micOk : Bool) (nonces : Bool := true)
  /-- JOIN_TIMEOUT: R283 -/
  | joinTimeout (r index : Nat)
  /-- SUPERVISION_TIMEOUT: R283 -/
  | supervisionTimeout (r index : Nat)
  /-- QUARANTINE_EXPIRY: R283 -/
  | quarantineExpiry (r index : Nat)
  /-- SLEEP_UPLINK: R286 to R288: offset in 1/16 µs, the PSDU, and the E of a beacon found in a search -/
  | sleepUplink (r index : Nat) (delta : Int) (octets : Nat) (search : Option Nat := none)
  /-- ACK_RX: R280 -/
  | ackRx (r index seq info : Nat)
  /-- MAC_REPEAT: R290 -/
  | macRepeat (r index seq : Nat)
  /-- TXN_RESEND: R290 -/
  | txnResend (r index seq : Nat)
  /-- TXN_TIMEOUT: R293 -/
  | txnTimeout (r index seq : Nat)
  /-- NODE_RESPONSE: R294 -/
  | nodeResponse (r index sess seq status : Nat) (body : List Nat)
  /-- NACK: R297 -/
  | nack (r index sess seq first last : Nat)
  /-- RELAY: R298 -/
  | relay (r index : Nat) (down : Bool) (octets : Nat)
  /-- CAMPAIGN_PART: R301 -/
  | campaignPart (h : Hdr) (radio off : Nat) (data : List Nat)
  /-- CAMPAIGN_START: R301 -/
  | campaignStart (h : Hdr) (radio kind : Nat) (members : List Nat)
  /-- CAMPAIGN_ACTIVATION: R302 -/
  | campaignActivation (radio : Nat)
  /-- LOOP_TICK: R321, Table 07.2 -/
  | loopTick (x : TickIn)
  /-- DRIVE_REPLY: R345, Table 07.8: good is that the check value matches -/
  | driveReply (p d : Nat) (pos : Int) (stat : Nat) (good : Bool)
  /-- DRIVE_LINK_FAULT: R346 -/
  | driveLinkFault (p d : Nat)
  /-- HOIST_BRAKE_RELEASE: R341 -/
  | hoistBrakeRelease (a : Nat)
  /-- HOIST_BRAKE_ENGAGE: R341 -/
  | hoistBrakeEngage (a : Nat)
  /-- AXIS_RESET: R341, LOP_AX_CMD.RESET -/
  | axisReset (who : Requester) (a : Nat)
  /-- LOP_OPEN: R329, LOP_CMD.OPEN -/
  | lopOpen (who : Requester) (l : Nat)
  /-- LOP_CLOSE: R335, LOP_CMD.CLOSE -/
  | lopClose (who : Requester) (l : Nat)
  /-- SHORT_TEST_SLOT: R317: the neighbouring lands read as shorted to the land under test -/
  | shortTestSlot (shorted : List Nat)
  /-- SHORT_PASS_START: R319 -/
  | shortPassStart
  /-- SHORT_CMD_GO: R319 -/
  | shortCmdGo (who : Requester)
  /-- TRACKING_TICK: R352: what the channels updated in this tick show -/
  | trackingTick (obs : List ChanObs)
  /-- OBS_ENVELOPE: R362, R364, R365 -/
  | obsEnvelope (r : Nat) (e : ObsEnv)
  /-- EPOCH_CUTOFF: R367, R436, R447: time residual and offset in ns; TAI − UTC and the pending leap second of the navigation data -/
  | epochCutoff (residual : Nat) (off : Int) (nav : Option (Nat × Nat))
  /-- ROVER_SOLUTION: R370 -/
  | roverSolution (r : Nat) (x : SolIn)
  /-- REF_GO: R357 -/
  | refGo (who : Requester) (w : Word)
  /-- SURVEY_COMPLETE: R356 -/
  | surveyComplete
  /-- ANT_STATE_CHANGE: R355: the bias current in mA, and whether it is at the limit -/
  | antStateChange (current : Nat) (limited : Bool)
  /-- ROVER_SESSION_OPEN: R359 -/
  | roverSessionOpen (cert slot : Nat)
  /-- GNS_FSEL: R386 -/
  | gnsFsel (who : Requester) (w : Word)
  /-- STATUS: R396, Table 09.7 -/
  | status (r seq : Nat) (b : StatusBody)
  /-- ROUTE_REQ: R395 -/
  | routeReq (r seq dest : Nat)
  /-- RELEASE_REQ: R414, Table 09.6 -/
  | releaseReq (r seq : Nat)
  /-- TASK_ACK: R408, Table 09.4 -/
  | taskAck (r seq task : Nat) (refuse : Bool)
  /-- TASK_END: R409, Table 09.4 -/
  | taskEnd (r seq task : Nat) (failed : Bool) (code : Nat)
  /-- ROVER_ACK: R414 -/
  | roverAck (r seq acked : Nat)
  /-- FLEET_RESEND: R414: the message of rover r that carries seq -/
  | fleetResend (r seq : Nat)
  /-- ROVER_LOST: R393 -/
  | roverLost (r : Nat)
  /-- TASK_OFFER_TIMEOUT: R407, Table 09.4 -/
  | taskOfferTimeout (t : Nat)
  /-- TASK_DEADLINE: R407, Table 09.4 -/
  | taskDeadline (t : Nat)
  /-- TASK_FREE: R410 -/
  | taskFree (t : Nat)
  /-- BACKOFF_EXPIRY: R404 -/
  | backoffExpiry (r : Nat)
  /-- ROVER_CMD_HOLD: R411, FLT_RV_CMD.HOLD -/
  | roverCmdHold (who : Requester) (r : Nat)
  /-- ROVER_CMD_RELEASE: R411, FLT_RV_CMD.RELEASE -/
  | roverCmdRelease (who : Requester) (r : Nat)
  /-- FORGET: R393, FLT_RV_CMD.FORGET -/
  | forget (who : Requester) (r confirm : Nat)
  /-- LANYARD_INPUT_CHANGE: R416: channel B or A, and the samples that Y0 takes of it -/
  | lanyardInputChange (b : Bool) (samples : List Bool)
  /-- LANYARD_DISCREPANCY: R415 -/
  | lanyardDiscrepancy
  /-- OUTPUT_TEST: R417: output B or A, and whether the readback is as expected -/
  | outputTest (b ok : Bool)
  /-- MAILBOX_READ: R418: whether the CRC-32C is good -/
  | mailboxRead (good : Bool)
  /-- MAILBOX_MISS: R415 -/
  | mailboxMiss
  /-- Y0_HEARTBEAT: R419 -/
  | y0Heartbeat
  /-- Y0_WATCHDOG: R415 -/
  | y0Watchdog
  /-- STP_DECLARE: R415, STP_CMD code 0x01 -/
  | stpDeclare (who : Requester) (confirm : Nat)
  /-- STP_RESET: R424, STP_CMD code 0x02 -/
  | stpReset (who : Requester) (confirm : Nat)
  /-- STOP_KEY_SWITCH: R421 -/
  | stopKeySwitch
  /-- SOURCE_QUALIFY: R436, Table 10.1: 1 GNSS, 2 PTP -/
  | sourceQualify (src : Nat)
  /-- SOURCE_DISQUALIFY: R436, Table 10.1 -/
  | sourceDisqualify (src : Nat)
  /-- RESTEP: R441, TIM_CMD code 0x01 -/
  | restep (who : Requester) (confirm : Nat)
  /-- PTP_SYNC_RX: R450: gm is the sender's clockIdentity; stamps and correction in ns -/
  | ptpSyncRx (seq : Nat) (gm : Nat) (t1 t2 corr : Int) (twoStep : Bool)
  /-- PTP_FOLLOW_UP_RX: R450 -/
  | ptpFollowUpRx (seq gm : Nat) (t1 corr : Int)
  /-- PTP_DELAY_REQ_TX: R450 -/
  | ptpDelayReqTx (t3 : Int)
  /-- PTP_DELAY_RESP_RX: R450 -/
  | ptpDelayRespRx (seq gm : Nat) (t4 corr : Int)
  /-- PTP_ANNOUNCE_RX: R450 -/
  | ptpAnnounceRx (a : Announce)
  /-- PTP_ANNOUNCE_TIMEOUT: R450 -/
  | ptpAnnounceTimeout
  /-- PTP_SYNC_TX: R450 -/
  | ptpSyncTx
  /-- PTP_ANNOUNCE_TX: R451 -/
  | ptpAnnounceTx
  /-- PTP_DELAY_REQ_RX: R450 -/
  | ptpDelayReqRx (seq source : Nat) (t4 : Int)
  /-- PTP_TC_FORWARD: R452, Table 10.3 -/
  | ptpTcForward (typ : Nat) (twoStep toB : Bool) (corr : Int) (residence : Int := 0)
  /-- PPS_PULSE: R445 -/
  | ppsPulse
  /-- LEAP_SECOND: R448 -/
  | leapSecond
  /-- TRIG_CAPTURE: R455: at_ is the instant, ns from the frame's start -/
  | trigCapture (t : Nat) (falling : Bool) (at_ : Nat)
  /-- TRIG_EMISSION: R457 -/
  | trigEmission (t : Nat)
  /-- TIM_TRIG_STAT_READ: R455 -/
  | timTrigStatRead (who : Requester) (t : Nat)
  /-- TIM_NOW_NS_READ: R433: at_ is the instant, ns from the frame's start -/
  | timNowNsRead (who : Requester) (at_ : Nat)
  /-- TX_TIMESTAMP: R459: at_ is the instant, ns from the frame's start -/
  | txTimestamp (id port at_ : Nat) (pop : Bool := false)
  /-- TXQ_POP: R459 -/
  | txqPop
  /-- RTC_SUBSEC_READ: R461 -/
  | rtcSubsecRead (who : Requester)
  /-- RTC_YEAR_READ: R461 -/
  | rtcYearRead (who : Requester)
  /-- RTC_FREEZE_EXPIRY: R461 -/
  | rtcFreezeExpiry (who : Requester)
  /-- RTC_COMMIT: R462 -/
  | rtcCommit (who : Requester)
  /-- RTC_TRIM_WINDOW: R464 -/
  | rtcTrimWindow
  /-- RTC_LEAP_ACT: R465 -/
  | rtcLeapAct
  /-- RTC_DISCIPLINE: R467 -/
  | rtcDiscipline
  /-- GAIN_DOWN: R477: the consecutive samples of the channel that reach 90 % of full code -/
  | gainDown (ch : Nat) (codes : List Int)
  /-- GAIN_UP: R477 -/
  | gainUp (ch : Nat)
  /-- METER_PUBLICATION: R486: doneAt is when the frame's quantities were computed, ns from the frame's start -/
  | meterPublication (doneAt : Nat)
  /-- METER_ESTIMATE: R487 -/
  | meterEstimate
  /-- METER_PERIODIC_SAVE: R501 -/
  | meterPeriodicSave
  /-- PULSE_EMIT: R497 -/
  | pulseEmit (p : Nat)
  /-- CLEAR_ALL: R493, MTR_CMD code 0x01 -/
  | clearAll (who : Requester) (confirm : Nat)
  /-- MTR_ACC_LO_READ: R492 -/
  | mtrAccLoRead (who : Requester) (f q : Nat)
  /-- MTR_ESEL: R489 -/
  | mtrEsel (who : Requester) (w : Word)
  /-- ETH_FRAME_RX: R512 -/
  | ethFrameRx (p : Nat) (f : EthFrame)
  /-- ARP_REQUEST: R513 -/
  | arpRequest (service : Bool) (ip : Word) (vid : Option Nat)
  /-- ICMP_ECHO: R513 -/
  | icmpEcho (service : Bool) (ip : Word) (vid : Option Nat) (id seq : Nat)
  /-- CLEAT_EXCHANGE: R515: what the stations answer, per station and attempt -/
  | cleatExchange (replies : List CleatReply)
  /-- DALI_SLOT: R521 -/
  | daliSlot (l : Nat) (collision : Bool) (answer : DaliAnswer)
  /-- DALI_POWER_LOSS: R523 -/
  | daliPowerLoss (l : Nat)
  /-- DALI_POWER_RESTORE: R523 -/
  | daliPowerRestore (l : Nat)
  /-- SPI_REQUEST: R525 -/
  | spiRequest (sid : Nat) (crcOk macOk : Bool) (h : Hdr) (m : HxmMsg)
  /-- SPI_RESPONSE_READ: R525 -/
  | spiResponseRead
  /-- OPEN: R526 -/
  | spiOpen (sid seq : Nat) (hostNonce moduleNonce : List Nat)
  /-- CLOSE: R526 -/
  | spiClose (sid seq : Nat)
  /-- HXM_HANDSHAKE: R530: good is that the handshake verifies; cloarn that the certificate chains to the provisioning CA key (R581) -/
  | hxmHandshake (service good cloarn : Bool) (ident : Nat)
  /-- HXM_IDLE_TIMEOUT: R530 -/
  | hxmIdleTimeout (ctx : Nat)
  /-- HXM_READ: R531, Table 12.3 -/
  | hxmRead (h : Hdr) (t : ReadTgt)
  /-- HXM_WRITE: R634, Table 12.3 -/
  | hxmWrite (h : Hdr) (t : WriteTgt)
  /-- HXM_SERVICE: R531, Table 12.3 -/
  | hxmService (h : Hdr) (code : Nat) (a : SvcArgs)
  /-- HXM_ABORT: R68, Table 12.3 -/
  | hxmAbort (h : Hdr) (seq : Nat)
  /-- LOG_READ: R599 -/
  | logRead (h : Hdr) (first count : Nat)
  /-- VITRINE_READ: R602 -/
  | vitrineRead (h : Hdr) (first count : Nat)
  /-- STAGING: R251 -/
  | staging (h : Hdr) (node count : Nat)
  /-- CHANGE_SET: R149: symbol identity and value -/
  | changeSet (h : Hdr) (pairs : List (Nat × Nat))
  /-- HXM_RECIPE: R224 -/
  | hxmRecipe (h : Hdr) (p : RecipePart)
  /-- LOAD: R154: the package that the parts carry -/
  | loadPart (h : Hdr) (pkg : Package)
  /-- PREPARE: R153 -/
  | prepare (h : Hdr)
  /-- SWITCH: R155 -/
  | switch_ (h : Hdr)
  /-- DISCARD: R153 -/
  | discard (h : Hdr)
  /-- REVERT: R153 -/
  | revert (h : Hdr)
  /-- FORCE_SET: R161 -/
  | forceSet (h : Hdr) (sym value : Nat)
  /-- FORCE_CLEAR: R161 -/
  | forceClear (h : Hdr) (sym : Nat)
  /-- FORCE_LIST: R161 -/
  | forceList (h : Hdr)
  /-- WATCH_ADD: R143 -/
  | watchAdd (h : Hdr) (sym : Nat)
  /-- WATCH_REMOVE: R143 -/
  | watchRemove (h : Hdr) (watch : Nat)
  /-- WATCH_READ: R143 -/
  | watchRead (h : Hdr)
  /-- DEBUG_BREAKPOINT: R139 -/
  | debugBreakpoint (h : Hdr) (sect brk : Nat) (en : Bool) (pc : Nat)
  /-- DEBUG_HALT: R137 -/
  | debugHalt (h : Hdr)
  /-- DEBUG_STEP: R140 -/
  | debugStep (h : Hdr) (sect : Nat)
  /-- DEBUG_READ_REGS: R172 -/
  | debugReadRegs (h : Hdr) (sect : Nat)
  /-- HXM_REPORT: R156 -/
  | hxmReport (h : Hdr) (first : Nat)
  /-- HXM_IMAGE: R567 -/
  | hxmImage (h : Hdr) (off : Nat) (data : List Nat)
  /-- RAW_FRAME: R531: at_ is the instant of departure, ns from the frame's start -/
  | rawFrame (h : Hdr) (port : Nat) (frame : List Nat) (stamp : Bool) (at_ : Nat)
  /-- OBS_SEL_WRITE: R535 -/
  | obsSelWrite (who : Requester) (k : Nat) (w : Word)
  /-- SPLICE_HEARTBEAT_TX: R542 -/
  | spliceHeartbeatTx
  /-- SPLICE_HEARTBEAT_RX: R542 -/
  | spliceHeartbeatRx (b : Heartbeat)
  /-- SPLICE_HEARTBEAT_LOST: R542 -/
  | spliceHeartbeatLost
  /-- COPY_RECORD_RX: R547; auth is R543 -/
  | copyRecordRx (serial : Nat) (auth : Bool) (x : CopyItem)
  /-- COMMIT_MARK_RX: R547 -/
  | commitMarkRx (serial : Nat)
  /-- FRAME_MARK_RX: R547 -/
  | frameMarkRx (serial num : Nat) (prot : Bool)
  /-- COPY_ACK_RX: R548 -/
  | copyAckRx (serial : Nat)
  /-- COPY_ACK_TIMEOUT: R550 -/
  | copyAckTimeout
  /-- FULL_STATE_APPLIED: R551 -/
  | fullStateApplied
  /-- LEAD_CONFLICT: R545 -/
  | leadConflict
  /-- RELINQUISH: R555 -/
  | relinquish
  /-- LEAD_LOSS_DETECT: R555: the instant of detection, µs from the frame's start -/
  | leadLossDetect (us : Nat)
  /-- TAKEOVER: R556 -/
  | takeover
  /-- SWAP: R561, SPL_CMD code 0x01 -/
  | swap (who : Requester) (confirm : Nat)
  /-- SWAP_BOUNDARY: R562 -/
  | swapBoundary
  /-- IMAGE_VERIFIED: R567 -/
  | imageVerified (blocksOk sigOk : Bool)
  /-- ACTIVATE_HITLESS: R569, UPD_CMD code 0x01 -/
  | activateHitless (who : Requester) (confirm : Nat)
  /-- UPDATE_C1_READY: R569 -/
  | updateC1Ready (ok : Bool := true)
  /-- UPDATE_SWITCH_BOUNDARY: R569 -/
  | updateSwitchBoundary
  /-- ACTIVATE_RESTART: R568, UPD_CMD code 0x02 -/
  | activateRestart (who : Requester) (confirm : Nat)
  /-- PAIR_UPDATE: R571, UPD_CMD code 0x03 -/
  | pairUpdate (who : Requester) (confirm : Nat)
  /-- UPD_COMMIT: R572, UPD_CMD code 0x04 -/
  | updCommit (who : Requester) (confirm : Nat)
  /-- UPD_ERASE: R572, UPD_CMD code 0x05 -/
  | updErase (who : Requester) (confirm : Nat)
  /-- BANK_CONFIRM_TIMEOUT: R572 -/
  | bankConfirmTimeout
  /-- RECOVERY_IMAGE_PART: R574 -/
  | recoveryImagePart (off : Nat) (data : List Nat) (blocksOk sigOk : Bool)
  /-- RECOVERY_RESET: R574 -/
  | recoveryReset
  /-- PROVISION: R579, KEY_CMD code 0x01 -/
  | provision (who : Requester) (confirm : Nat)
  /-- DEPLOY: R578, KEY_CMD code 0x02 -/
  | deploy (who : Requester) (confirm : Nat)
  /-- RETURN: R580, KEY_CMD code 0x03 -/
  | keyReturn (who : Requester) (confirm : Nat)
  /-- SCRAP: R577, KEY_CMD code 0x04 -/
  | scrap (who : Requester) (confirm : Nat)
  /-- FUSE_PROGRAM_COMPLETE: R578 -/
  | fuseProgramComplete
  /-- INSTALL: R589, KEY_CMD code 0x10 -/
  | keyInstall (who : Requester) (confirm : Nat)
  /-- GENERATE: R589, KEY_CMD code 0x11 -/
  | keyGenerate (who : Requester) (confirm : Nat)
  /-- DERIVE: R584, KEY_CMD code 0x12 -/
  | keyDerive (who : Requester) (confirm : Nat)
  /-- KEY_ERASE: R589, KEY_CMD code 0x13 -/
  | keyErase (who : Requester) (confirm : Nat)
  /-- IDENTITY_CSR: R589, KEY_CMD code 0x14 -/
  | identityCsr (who : Requester) (confirm : Nat)
  /-- KEEPER_REQUEST: R586: op is the bit number of the operation in KEY_SLOT_ATTR.USE -/
  | keeperRequest (engine : Nat) (secure : Bool) (slot op : Nat)
  /-- KEEPER_OP_COMPLETE: R587 -/
  | keeperOpComplete
  /-- TAMPER_EVENT: R591 -/
  | tamperEvent
  /-- TAMPER_LATCH: R592 -/
  | tamperLatch
  /-- LOG_RECORD_WRITE: R635; torn is that the supply fails within the write (R598) -/
  | logRecordWrite (torn : Bool)
  /-- LOG_SEL: R599 -/
  | logSel (who : Requester) (w : Word)
  /-- LOG_OPTIME_LO_READ: R595 -/
  | logOptimeLoRead (who : Requester)
  /-- TIME_MARK: R600 -/
  | timeMark
  /-- VITRINE_FREEZE: R602 -/
  | vitrineFreeze
  /-- FREEZE: R602, LOG_VIT_CMD code 0x01 -/
  | freeze (who : Requester)
  /-- UNFREEZE: R602, LOG_VIT_CMD code 0x02 -/
  | unfreeze (who : Requester)
  /-- FUSE_REPAIR: R609, BST_CMD code 0x01 -/
  | fuseRepair (who : Requester) (confirm : Nat)
  /-- SCAN_ENABLE: R610, BST_CMD code 0x02 -/
  | scanEnable (who : Requester) (confirm : Nat)
  /-- ROLE_IN_RISE: R559 -/
  | roleInRise
  /-- DATA_REGION_TX: R273 -/
  | dataRegionTx (r : Nat) (x : DataTx)
  /-- SENSOR_REPORT_STALE: R322 -/
  | sensorReportStale (sensor : Nat)
  /-- RTC_OSCILLATOR_STOP: R466: a retention failure of the domain, or a gap -/
  | rtcOscillatorStop (retention : Bool)
  /-- RTC_ROLLOVER: R463 -/
  | rtcRollover
  /-- LANYARD_OUTPUT_READBACK: R417: output B or A, and the level read back -/
  | lanyardOutputReadback (b level : Bool)
  /-- ETH_LINK_CHANGE: R511 -/
  | ethLinkChange (p : Nat) (up : Bool)
  deriving DecidableEq, Repr

end Sys2Proof
end

