-- ==== Sys2Proof/Config.lean ====
section
/-!
DEFINITION. What the spec leaves open: the free values. Each is an opaque constant without a body, so that nothing can be
proved of its value; a meaning applies it to the operands or to the counter `State.free`. Each is named in a log entry.
-/
namespace Sys2Proof.Config

/-- Random bits (K0's random source, R41, R579, R582, R589; join nonces, R283): draw `n`, 32 bits. -/
opaque random : Nat → Nat

/-- The slew that the proportional-integral servo of R440 sets for an offset in ns, in units of 2⁻⁴⁸; the module clips it. -/
opaque servoSlew : Nat → Int → Int

/-- The change of the learned frequency correction that the servo of R440 makes for an offset in ns, in units of 2⁻⁴⁸. -/
opaque servoFreq : Nat → Int → Int

/-- The correction of the learned frequency for the temperature of the TCXO in holdover (R443), in units of 2⁻⁴⁸: the spec states no model. -/
opaque holdoverFreq : Nat → Int

/-- The frequency uncertainty F learned while LOCKED (R442), LSB 0.1 ppb, before its lower bound. -/
opaque learnedF : Nat → Nat

/-- The trapezoidal profile generator (R338): position and velocity after one step of 500 µs, from position, velocity, target,
speed and acceleration. -/
opaque profile : Int → Int → Int → Int → Int → Int × Int

/-- The carry time of an engineering switch in µs (R156), which the firmware estimates by no stated rule: from the numbers of
variables carried and retyped. -/
opaque carryTime : Nat → Nat → Nat

/-- KiB of the state copy that the Splice link carried in a frame (SPL_COPY.LAST): the sizes of copy records are not stated. -/
opaque copiedKib : Nat → Nat

/-- ceil(log2 0), in the clocks of a TBL whose word 0 is 0 (Table 04.5). -/
opaque logOfZero : Nat

/-- UPD_STAT.PROGRESS within the verification and the activation, by frame number: the spec states no figure. -/
opaque percent : Nat → Nat

/-- Entries the repair fuses hold in all (R609). -/
opaque fuseCapacity : Nat

/-- Octets of the P-384 public key of a private key d (R589): the spec leaves the curve to its standard (log entry 33). -/
opaque publicKey : Nat → Nat → Nat

/-- The receiver's own position solution at an epoch, ECEF mm by axis (R353, R356): no command of the table carries it. -/
opaque ownFix : Nat → Nat → Int

/-- The value at an instant of a waveform given by points (instant, value), by interpolation (R476, R481: the spec names no method). -/
opaque interp : List (Nat × Int) → Nat → Int

/-- Where between two samples a zero crossing lies (R480), from their distance and their values; the model keeps it within. -/
opaque crossing : Nat → Int → Int → Nat

/-- The EUI-64 of a module, without its last octet: the module's own, and its partner's (Table 06.5). -/
opaque moduleEui : Bool → Nat

/-- Octets of the MAC of a heartbeat while no stop key is installed (R421): the spec states none. -/
opaque noKeyMac : List Nat → Nat → Nat

end Sys2Proof.Config
end

