-- ==== Sys2Proof/Machine/Fields.lean ====
section
/-!
DEFINITION. Every field of every register table of spec/ (chapters 01 to 14), under the spec's own names:
`F.<REGISTER>_<FIELD>` is the field of instance 0 of an array register, `Fld.at`/`Fld.at2` select an instance
(R15, and the register-map tables 01.6, 01.8, 01.10, 02.10, 02.12, 03.6, 05.11, 06.16, 06.18, 07.9, 07.11, 08.9,
09.12, 09.15, 10.4, 10.6, 11.7, 12.5, 13.8 and 14.8). The fourth number is the value after reset: the Reset column, the
first power-up value for a `ret` field, and 0 where the spec states none (log entries 1 to 4).
-/
namespace Sys2Proof.Machine.F

/-! SYS: block 0x00 -/
def SYS_MODE_DETAIL : Fld := ⟨0x0, 12, 4, 0, 0, 0, .plain⟩
def SYS_MODE_CAUSE : Fld := ⟨0x0, 8, 4, 0, 0, 0, .plain⟩
def SYS_MODE_PREV : Fld := ⟨0x0, 4, 3, 0, 0, 0, .plain⟩
def SYS_MODE_MODE : Fld := ⟨0x0, 0, 3, 0, 0, 0, .plain⟩
def SYS_ROLE_ROLE : Fld := ⟨0x4, 0, 2, 0, 0, 0, .plain⟩
def SYS_LIFE_STATE : Fld := ⟨0x8, 0, 3, 0, 0, 0, .plain⟩
def SYS_CMD_CONFIRM : Fld := ⟨0xC, 16, 16, 0, 0, 0, .plain⟩
def SYS_CMD_CODE : Fld := ⟨0xC, 0, 8, 0, 0, 0, .plain⟩
def SYS_CMD_STAT_CODE : Fld := ⟨0x10, 16, 8, 0, 0, 0, .plain⟩
def SYS_CMD_STAT_STATUS : Fld := ⟨0x10, 0, 16, 0, 0, 0, .plain⟩
def SYS_BOOT_TIME_WAIT : Fld := ⟨0x14, 8, 8, 30, 0, 0, .plain⟩
def SYS_BOOT_RUN_UNALIGNED : Fld := ⟨0x14, 1, 1, 0, 0, 0, .plain⟩
def SYS_BOOT_AUTORUN : Fld := ⟨0x14, 0, 1, 0, 0, 0, .plain⟩
def SYS_START_DURATION : Fld := ⟨0x18, 16, 16, 0, 0, 0, .plain⟩
def SYS_START_BANK : Fld := ⟨0x18, 4, 1, 0, 0, 0, .plain⟩
def SYS_START_BIST_STALE : Fld := ⟨0x18, 3, 1, 0, 0, 0, .plain⟩
def SYS_START_ORDERLY_PREV : Fld := ⟨0x18, 2, 1, 0, 0, 0, .plain⟩
def SYS_START_KIND : Fld := ⟨0x18, 0, 2, 0, 0, 0, .plain⟩
def SYS_SERIAL0_CHARS : Fld := ⟨0x20, 0, 32, 0, 0, 0, .plain⟩
def SYS_SERIAL1_CHARS : Fld := ⟨0x24, 0, 32, 0, 0, 0, .plain⟩
def SYS_SERIAL2_CHARS : Fld := ⟨0x28, 0, 32, 0, 0, 0, .plain⟩
def SYS_REV_GRADE : Fld := ⟨0x2C, 8, 1, 0, 0, 0, .plain⟩
def SYS_REV_REV : Fld := ⟨0x2C, 0, 8, 66, 0, 0, .plain⟩

/-! GAL: block 0x01 -/
def GAL_LFSR_STATE : Fld := ⟨0x10000, 0, 32, 1, 0, 0, .plain⟩
def GAL_ECC_DMA_REFUSED : Fld := ⟨0x10004, 24, 8, 0, 0, 0, .plain⟩
def GAL_ECC_UNCORR : Fld := ⟨0x10004, 16, 8, 0, 0, 0, .plain⟩
def GAL_ECC_CORR : Fld := ⟨0x10004, 0, 16, 0, 0, 0, .plain⟩
def GAL_TKT_TKT3 : Fld := ⟨0x10100, 24, 8, 0, 32, 4, .ticket 3⟩
def GAL_TKT_TKT2 : Fld := ⟨0x10100, 16, 8, 0, 32, 4, .ticket 2⟩
def GAL_TKT_TKT1 : Fld := ⟨0x10100, 8, 8, 0, 32, 4, .ticket 1⟩
def GAL_TKT_TKT0 : Fld := ⟨0x10100, 0, 8, 0, 32, 4, .ticket 0⟩
def GAL_BSTAT_DENIED : Fld := ⟨0x10400, 16, 16, 0, 4, 0, .plain⟩
def GAL_BSTAT_MAXWAIT : Fld := ⟨0x10400, 0, 16, 0, 4, 0, .plain⟩
def GAL_WAITMAX_MAXWAIT : Fld := ⟨0x10600, 0, 16, 0, 4, 0, .plain⟩
def GAL_SESS_SUM0_MGMT : Fld := ⟨0x18000, 16, 10, 0, 0, 0, .plain⟩
def GAL_SESS_SUM0_ROVER : Fld := ⟨0x18000, 0, 10, 0, 0, 0, .plain⟩
def GAL_SESS_SUM1_NODEUPD : Fld := ⟨0x18004, 16, 10, 0, 0, 0, .plain⟩
def GAL_SESS_SUM1_HOST : Fld := ⟨0x18004, 0, 10, 0, 0, 0, .plain⟩
def GAL_SESS_QUOTA_MAX : Fld := ⟨0x18010, 16, 10, 0, 4, 0, .quotaMax⟩
def GAL_SESS_QUOTA_MIN : Fld := ⟨0x18010, 0, 10, 0, 4, 0, .quotaMin⟩
def GAL_SESS_STATE_TYPE : Fld := ⟨0x1A000, 30, 2, 0, 16, 0, .plain⟩
def GAL_SESS_STATE_STATE : Fld := ⟨0x1A000, 28, 2, 0, 16, 0, .plain⟩
def GAL_SESS_STATE_PEER : Fld := ⟨0x1A000, 0, 16, 0, 16, 0, .plain⟩
def GAL_SESS_KEY_SLOT : Fld := ⟨0x1A004, 0, 8, 0, 16, 0, .plain⟩
def GAL_SESS_SEQ_HIGH : Fld := ⟨0x1A008, 0, 32, 0, 16, 0, .plain⟩
def GAL_SESS_WIN_CACHED : Fld := ⟨0x1A00C, 16, 5, 0, 16, 0, .plain⟩
def GAL_SESS_WIN_PENDING : Fld := ⟨0x1A00C, 0, 7, 0, 16, 0, .plain⟩

/-! SEM: block 0x02 -/
def SEM_SEMn_GRANTED : Fld := ⟨0x20000, 31, 1, 0, 4, 0, .plain⟩
def SEM_SEMn_HELD : Fld := ⟨0x20000, 30, 1, 0, 4, 0, .plain⟩
def SEM_SEMn_ABANDONED : Fld := ⟨0x20000, 29, 1, 0, 4, 0, .plain⟩
def SEM_SEMn_OWNER : Fld := ⟨0x20000, 0, 5, 31, 4, 0, .plain⟩
def SEM_PEEKn_WORD : Fld := ⟨0x20400, 0, 32, 31, 4, 0, .plain⟩
def SEM_FORCE_GO : Fld := ⟨0x20800, 31, 1, 0, 0, 0, .plain⟩
def SEM_FORCE_INDEX : Fld := ⟨0x20800, 0, 7, 0, 0, 0, .plain⟩
def SEM_ERR_ABANDONS : Fld := ⟨0x20804, 16, 16, 0, 0, 0, .plain⟩
def SEM_ERR_FOREIGN : Fld := ⟨0x20804, 0, 16, 0, 0, 0, .plain⟩

/-! FIF: block 0x03 -/
def FIF_PUSH_LO_DATA : Fld := ⟨0x30000, 0, 32, 0, 64, 0, .plain⟩
def FIF_PUSH_HI_DATA : Fld := ⟨0x30004, 0, 32, 0, 64, 0, .plain⟩
def FIF_PUSH_HI_END_DATA : Fld := ⟨0x30008, 0, 32, 0, 64, 0, .plain⟩
def FIF_POP_LO_DATA : Fld := ⟨0x30010, 0, 32, 0, 64, 0, .plain⟩
def FIF_POP_HI_DATA : Fld := ⟨0x30014, 0, 32, 0, 64, 0, .plain⟩
def FIF_CMD_FLUSH : Fld := ⟨0x30018, 1, 1, 0, 64, 0, .plain⟩
def FIF_CMD_DROP_PACKET : Fld := ⟨0x30018, 0, 1, 0, 64, 0, .plain⟩
def FIF_STAT_DEPTH : Fld := ⟨0x30020, 16, 11, 0, 64, 0, .plain⟩
def FIF_STAT_PRODUCER_RESET : Fld := ⟨0x30020, 7, 1, 0, 64, 0, .plain⟩
def FIF_STAT_FOREIGN : Fld := ⟨0x30020, 6, 1, 0, 64, 0, .plain⟩
def FIF_STAT_OVERFLOW : Fld := ⟨0x30020, 5, 1, 0, 64, 0, .plain⟩
def FIF_STAT_UNDERRUN : Fld := ⟨0x30020, 4, 1, 0, 64, 0, .plain⟩
def FIF_STAT_DROPPING : Fld := ⟨0x30020, 3, 1, 0, 64, 0, .plain⟩
def FIF_STAT_LAST_TAG : Fld := ⟨0x30020, 2, 1, 1, 64, 0, .plain⟩
def FIF_STAT_FULL : Fld := ⟨0x30020, 1, 1, 0, 64, 0, .plain⟩
def FIF_STAT_EMPTY : Fld := ⟨0x30020, 0, 1, 1, 64, 0, .plain⟩
def FIF_CFG_ENABLE : Fld := ⟨0x30024, 31, 1, 0, 64, 0, .plain⟩
def FIF_CFG_SIZE : Fld := ⟨0x30024, 24, 2, 0, 64, 0, .plain⟩
def FIF_CFG_CONSUMER : Fld := ⟨0x30024, 16, 5, 31, 64, 0, .plain⟩
def FIF_CFG_PRODUCER : Fld := ⟨0x30024, 8, 5, 31, 64, 0, .plain⟩
def FIF_PTR_WPTR : Fld := ⟨0x30028, 16, 11, 0, 64, 0, .plain⟩
def FIF_PTR_RPTR : Fld := ⟨0x30028, 0, 11, 0, 64, 0, .plain⟩

/-! FRM: block 0x04 -/
def FRM_NUM_LO_NUM : Fld := ⟨0x40000, 0, 32, 0, 0, 0, .plain⟩
def FRM_NUM_HI_NUM : Fld := ⟨0x40004, 0, 16, 0, 0, 0, .plain⟩
def FRM_PHASE_SF_PHASE : Fld := ⟨0x40008, 16, 4, 0, 0, 0, .plain⟩
def FRM_PHASE_OFFSET : Fld := ⟨0x40008, 0, 15, 0, 0, 0, .plain⟩
def FRM_STAT_REALIGNS : Fld := ⟨0x4000C, 8, 8, 0, 0, 0, .plain⟩
def FRM_STAT_BACKWARD : Fld := ⟨0x4000C, 2, 1, 0, 0, 0, .plain⟩
def FRM_STAT_TRANSITIONAL : Fld := ⟨0x4000C, 1, 1, 0, 0, 0, .plain⟩
def FRM_STAT_ALIGNED : Fld := ⟨0x4000C, 0, 1, 0, 0, 0, .plain⟩
def FRM_REALIGN_OLD_LO_NUM : Fld := ⟨0x40010, 0, 32, 0, 0, 0, .plain⟩
def FRM_REALIGN_OLD_HI_NUM : Fld := ⟨0x40014, 0, 16, 0, 0, 0, .plain⟩
def FRM_REALIGN_NEW_LO_NUM : Fld := ⟨0x40018, 0, 32, 0, 0, 0, .plain⟩
def FRM_REALIGN_NEW_HI_NUM : Fld := ⟨0x4001C, 0, 16, 0, 0, 0, .plain⟩
def FRM_DLAST_CLASS : Fld := ⟨0x40020, 28, 4, 0, 0, 0, .plain⟩
def FRM_DLAST_ENGINE : Fld := ⟨0x40020, 16, 5, 31, 0, 0, .plain⟩
def FRM_DLAST_FRAME : Fld := ⟨0x40020, 0, 16, 0, 0, 0, .plain⟩
def FRM_DCLS_LIMIT_LIMIT : Fld := ⟨0x40100, 0, 8, 0, 16, 0, .limit⟩
def FRM_DCLS_CONSEC_CONSEC : Fld := ⟨0x40104, 0, 16, 0, 16, 0, .plain⟩
def FRM_DCLS_TOTAL_TOTAL : Fld := ⟨0x40108, 0, 32, 0, 16, 0, .plain⟩
def FRM_DCLS_DEADLINE_DEADLINE : Fld := ⟨0x4010C, 0, 14, 9500, 16, 0, .deadline⟩

/-! PLX: block 0x05 -/
def PLX_STAT_SECT_MASK : Fld := ⟨0x50000, 28, 4, 0, 0, 0, .plain⟩
def PLX_STAT_BANK : Fld := ⟨0x50000, 24, 4, 0, 0, 0, .plain⟩
def PLX_STAT_PROG_VALID : Fld := ⟨0x50000, 15, 1, 0, 0, 0, .plain⟩
def PLX_STAT_RUNNING : Fld := ⟨0x50000, 14, 1, 0, 0, 0, .plain⟩
def PLX_STAT_HALTED : Fld := ⟨0x50000, 13, 1, 0, 0, 0, .plain⟩
def PLX_STAT_SHORT : Fld := ⟨0x50000, 12, 1, 0, 0, 0, .plain⟩
def PLX_STAT_FORCES : Fld := ⟨0x50000, 11, 1, 0, 0, 0, .plain⟩
def PLX_STAT_RETAIN_LOST : Fld := ⟨0x50000, 10, 1, 0, 0, 0, .plain⟩
def PLX_CYCLE_FORCE_CNT : Fld := ⟨0x50004, 8, 11, 0, 0, 0, .plain⟩
def PLX_CYCLE_LEN : Fld := ⟨0x50004, 0, 7, 0, 0, 0, .plain⟩
def PLX_CYCNUM_COUNT : Fld := ⟨0x50008, 0, 32, 0, 0, 0, .plain⟩
def PLX_SKIP_LIMIT : Fld := ⟨0x5000C, 28, 4, 3, 0, 0, .plain⟩
def PLX_SKIP_CONSEC : Fld := ⟨0x5000C, 16, 8, 0, 0, 0, .plain⟩
def PLX_SKIP_TOTAL : Fld := ⟨0x5000C, 0, 16, 0, 0, 0, .plain⟩
def PLX_LASTC_LATEST : Fld := ⟨0x50010, 20, 2, 0, 0, 0, .plain⟩
def PLX_LASTC_SPAN : Fld := ⟨0x50010, 0, 20, 0, 0, 0, .plain⟩
def PLX_PEAK_SPAN : Fld := ⟨0x50014, 0, 20, 0, 0, 0, .plain⟩
def PLX_RETAIN_EVERY : Fld := ⟨0x50018, 18, 7, 10, 0, 0, .plain⟩
def PLX_RETAIN_WORDS : Fld := ⟨0x50018, 0, 18, 0, 0, 0, .plain⟩
def PLX_RETAIN_AGE_AGE : Fld := ⟨0x5001C, 0, 32, 0, 0, 0, .plain⟩
def PLX_SECT_STATE_STATE : Fld := ⟨0x50040, 30, 2, 0, 16, 0, .plain⟩
def PLX_SECT_STATE_BANK : Fld := ⟨0x50040, 29, 1, 0, 16, 0, .plain⟩
def PLX_SECT_STATE_PC : Fld := ⟨0x50040, 0, 17, 0, 16, 0, .plain⟩
def PLX_SECT_FOREIGN_COUNT : Fld := ⟨0x50044, 0, 16, 0, 16, 0, .plain⟩
def PLX_SECT_ENDAT_US : Fld := ⟨0x50048, 0, 20, 0, 16, 0, .plain⟩
def PLX_CHG_STATE : Fld := ⟨0x50100, 29, 3, 0, 0, 0, .plain⟩
def PLX_CHG_OWNER : Fld := ⟨0x50100, 16, 10, 1023, 0, 0, .plain⟩
def PLX_CHG_STATUS : Fld := ⟨0x50100, 0, 16, 0, 0, 0, .plain⟩
def PLX_CHG_REP0_CARRIED : Fld := ⟨0x50104, 0, 32, 0, 0, 0, .plain⟩
def PLX_CHG_REP1_RETYPED : Fld := ⟨0x50108, 16, 16, 0, 0, 0, .plain⟩
def PLX_CHG_REP1_REMOVED : Fld := ⟨0x50108, 0, 16, 0, 0, 0, .plain⟩
def PLX_CHG_REP2_FORCES_DROPPED : Fld := ⟨0x5010C, 16, 10, 0, 0, 0, .plain⟩
def PLX_CHG_REP2_FORCES_KEPT : Fld := ⟨0x5010C, 0, 10, 0, 0, 0, .plain⟩
def PLX_CHG_REP3_CARRY_US : Fld := ⟨0x50110, 0, 12, 0, 0, 0, .plain⟩
def PLX_DBG_STEP : Fld := ⟨0x50200, 31, 1, 0, 0, 0, .plain⟩
def PLX_DBG_SECT : Fld := ⟨0x50200, 28, 2, 0, 0, 0, .plain⟩
def PLX_DBG_HIT : Fld := ⟨0x50200, 0, 8, 255, 0, 0, .plain⟩
def PLX_BRK_EN : Fld := ⟨0x50210, 31, 1, 0, 32, 4, .plain⟩
def PLX_BRK_ADDR : Fld := ⟨0x50210, 0, 17, 0, 32, 4, .plain⟩

/-! LGT: block 0x06 -/
def LGT_STAT_PLANE : Fld := ⟨0x60000, 29, 3, 0, 0, 0, .plain⟩
def LGT_STAT_EPOCH : Fld := ⟨0x60000, 16, 8, 0, 0, 0, .plain⟩
def LGT_STAT_TOD : Fld := ⟨0x60000, 4, 1, 0, 0, 0, .plain⟩
def LGT_STAT_LANYARD : Fld := ⟨0x60000, 3, 1, 0, 0, 0, .plain⟩
def LGT_STAT_EMERG : Fld := ⟨0x60000, 2, 1, 0, 0, 0, .plain⟩
def LGT_STAT_RESYNC : Fld := ⟨0x60000, 1, 1, 0, 0, 0, .plain⟩
def LGT_LEAD_FAST : Fld := ⟨0x60004, 16, 10, 20, 0, 0, .plain⟩
def LGT_LEAD_FRAMES : Fld := ⟨0x60004, 0, 10, 25, 0, 0, .plain⟩
def LGT_GRACE_TRIES : Fld := ⟨0x60008, 28, 4, 3, 0, 0, .plain⟩
def LGT_GRACE_CATCHUP : Fld := ⟨0x60008, 16, 5, 5, 0, 0, .plain⟩
def LGT_GRACE_GRACE : Fld := ⟨0x60008, 0, 6, 10, 0, 0, .plain⟩
def LGT_CONF_WAIT : Fld := ⟨0x6000C, 0, 13, 3200, 0, 0, .plain⟩
def LGT_COMP_TEMP_AGE : Fld := ⟨0x60010, 16, 16, 300, 0, 0, .plain⟩
def LGT_COMP_DEADBAND : Fld := ⟨0x60010, 0, 12, 64, 0, 0, .plain⟩
def LGT_RAMP_STEP : Fld := ⟨0x60014, 0, 12, 50, 0, 0, .plain⟩
def LGT_TZ_OFFSET : Fld := ⟨0x60018, 0, 16, 0, 0, 0, .plain⟩
def LGT_FB_TEMP_BAND : Fld := ⟨0x6001C, 16, 8, 8, 0, 0, .plain⟩
def LGT_FB_AFTER : Fld := ⟨0x6001C, 0, 13, 500, 0, 0, .plain⟩
def LGT_CNT0_COMMITS : Fld := ⟨0x60020, 0, 32, 0, 0, 0, .plain⟩
def LGT_CNT1_WITHDRAWN : Fld := ⟨0x60024, 24, 8, 0, 0, 0, .plain⟩
def LGT_CNT1_XOVER : Fld := ⟨0x60024, 16, 8, 0, 0, 0, .plain⟩
def LGT_CNT1_DEFERRED : Fld := ⟨0x60024, 0, 16, 0, 0, 0, .plain⟩
def LGT_CNT2_CATCHUPS : Fld := ⟨0x60030, 0, 32, 0, 0, 0, .plain⟩
def LGT_NODES_STUCK : Fld := ⟨0x60028, 16, 13, 0, 0, 0, .plain⟩
def LGT_NODES_DISC : Fld := ⟨0x60028, 0, 13, 0, 0, 0, .plain⟩
def LGT_RCP_SWITCH_PENDING : Fld := ⟨0x6002C, 31, 1, 0, 0, 0, .plain⟩
def LGT_RCP_STATUS : Fld := ⟨0x6002C, 0, 16, 0, 0, 0, .plain⟩
def LGT_EVAC_CH_HI : Fld := ⟨0x60040, 16, 16, 0, 4, 0, .plain⟩
def LGT_EVAC_CH_LO : Fld := ⟨0x60040, 0, 16, 0, 4, 0, .evac⟩
def LGT_NSEL_NODE : Fld := ⟨0x60080, 0, 12, 0, 0, 0, .plain⟩
def LGT_NWIN_WORD : Fld := ⟨0x60100, 0, 32, 0, 4, 0, .plain⟩
def LGT_SSEL_NODE : Fld := ⟨0x60180, 0, 12, 0, 0, 0, .plain⟩
def LGT_SWIN_WORD : Fld := ⟨0x60200, 0, 32, 0, 4, 0, .plain⟩
def LGT_CSEL_WRITE : Fld := ⟨0x60300, 31, 1, 0, 0, 0, .plain⟩
def LGT_CSEL_NODE : Fld := ⟨0x60300, 0, 12, 0, 0, 0, .plain⟩
def LGT_CSTAT_STATUS : Fld := ⟨0x60304, 0, 16, 0, 0, 0, .plain⟩
def LGT_CWIN_WORD : Fld := ⟨0x60380, 0, 32, 0, 4, 0, .plain⟩
def LGT_GRP_CFG_RECIPE_EN : Fld := ⟨0x61000, 31, 1, 0, 8, 0, .plain⟩
def LGT_GRP_CFG_LANYARD : Fld := ⟨0x61000, 28, 3, 0, 8, 0, .plain⟩
def LGT_GRP_CFG_RECIPE : Fld := ⟨0x61000, 16, 8, 0, 8, 0, .plain⟩
def LGT_GRP_CFG_FB_EN : Fld := ⟨0x61000, 15, 1, 0, 8, 0, .plain⟩
def LGT_GRP_CFG_FB_RECIPE : Fld := ⟨0x61000, 0, 8, 0, 8, 0, .plain⟩
def LGT_GRP_STAT_RECIPE_IN_FORCE : Fld := ⟨0x61004, 24, 8, 0, 8, 0, .plain⟩
def LGT_GRP_STAT_OVERRIDE : Fld := ⟨0x61004, 23, 1, 0, 8, 0, .plain⟩
def LGT_GRP_STAT_EMERG : Fld := ⟨0x61004, 22, 1, 0, 8, 0, .plain⟩
def LGT_GRP_STAT_LANYARD : Fld := ⟨0x61004, 21, 1, 0, 8, 0, .plain⟩
def LGT_GRP_STAT_OVERLAY : Fld := ⟨0x61004, 20, 1, 0, 8, 0, .plain⟩
def LGT_GRP_STAT_RECIPE_ACTIVE : Fld := ⟨0x61004, 19, 1, 0, 8, 0, .plain⟩
def LGT_GRP_STAT_MEMBERS : Fld := ⟨0x61004, 0, 13, 0, 8, 0, .plain⟩
def LGT_ZN_CFG_EN : Fld := ⟨0x68000, 31, 1, 0, 128, 0, .plain⟩
def LGT_ZN_CFG_HOLD : Fld := ⟨0x68000, 16, 8, 60, 128, 0, .plain⟩
def LGT_ZN_CFG_AHEAD : Fld := ⟨0x68000, 8, 8, 8, 128, 0, .plain⟩
def LGT_ZN_CFG_FADE : Fld := ⟨0x68000, 0, 8, 20, 128, 0, .plain⟩
def LGT_ZN_STAT_HOLD_LEFT : Fld := ⟨0x68004, 16, 16, 0, 128, 0, .plain⟩
def LGT_ZN_STAT_ROVERS : Fld := ⟨0x68004, 8, 8, 0, 128, 0, .plain⟩
def LGT_ZN_STAT_ROVER : Fld := ⟨0x68004, 3, 1, 0, 128, 0, .plain⟩
def LGT_ZN_STAT_PROG : Fld := ⟨0x68004, 2, 1, 0, 128, 0, .plain⟩
def LGT_ZN_STAT_STATE : Fld := ⟨0x68004, 0, 2, 0, 128, 0, .plain⟩
def LGT_ZN_GRP_V1 : Fld := ⟨0x68008, 31, 1, 0, 128, 4, .plain⟩
def LGT_ZN_GRP_GROUP1 : Fld := ⟨0x68008, 16, 10, 0, 128, 4, .plain⟩
def LGT_ZN_GRP_V0 : Fld := ⟨0x68008, 15, 1, 0, 128, 4, .plain⟩
def LGT_ZN_GRP_GROUP0 : Fld := ⟨0x68008, 0, 10, 0, 128, 4, .plain⟩
def LGT_ZN_SEG_V1 : Fld := ⟨0x68018, 31, 1, 0, 128, 4, .plain⟩
def LGT_ZN_SEG_SEG1 : Fld := ⟨0x68018, 16, 12, 0, 128, 4, .plain⟩
def LGT_ZN_SEG_V0 : Fld := ⟨0x68018, 15, 1, 0, 128, 4, .plain⟩
def LGT_ZN_SEG_SEG0 : Fld := ⟨0x68018, 0, 12, 0, 128, 4, .plain⟩
def LGT_ZN_SPEC_CH_HI : Fld := ⟨0x68038, 16, 16, 0, 128, 4, .plain⟩
def LGT_ZN_SPEC_CH_LO : Fld := ⟨0x68038, 0, 16, 0, 128, 4, .plain⟩

/-! NET: block 0x07 -/
def NET_TXN_TIMEOUT : Fld := ⟨0x70000, 16, 16, 200, 0, 0, .plain⟩
def NET_TXN_RESEND : Fld := ⟨0x70000, 8, 8, 40, 0, 0, .plain⟩
def NET_MAC_RETRIES : Fld := ⟨0x70004, 8, 8, 3, 0, 0, .plain⟩
def NET_MAC_SPACING : Fld := ⟨0x70004, 0, 8, 2, 0, 0, .plain⟩
def NET_SUPV_SUPV : Fld := ⟨0x70008, 0, 16, 95, 0, 0, .plain⟩
def NET_REPORT_PERIOD : Fld := ⟨0x7000C, 0, 16, 30, 0, 0, .plain⟩
def NET_RELAY_MAXDEPTH : Fld := ⟨0x70010, 0, 3, 0, 0, 0, .plain⟩
def NET_CNT0_TIMEOUTS : Fld := ⟨0x70014, 16, 16, 0, 0, 0, .plain⟩
def NET_CNT0_LATE : Fld := ⟨0x70014, 0, 16, 0, 0, 0, .plain⟩
def NET_CNT1_DUPLICATES : Fld := ⟨0x70018, 16, 16, 0, 0, 0, .plain⟩
def NET_CNT1_STALE : Fld := ⟨0x70018, 0, 16, 0, 0, 0, .plain⟩
def NET_CNT2_NACKS : Fld := ⟨0x7001C, 16, 16, 0, 0, 0, .plain⟩
def NET_CNT2_REFUSED : Fld := ⟨0x7001C, 8, 8, 0, 0, 0, .plain⟩
def NET_CNT2_JOINS : Fld := ⟨0x7001C, 0, 8, 0, 0, 0, .plain⟩
def NET_CNT3_DROPS : Fld := ⟨0x70020, 16, 16, 0, 0, 0, .plain⟩
def NET_CNT3_DRIFT_MISS : Fld := ⟨0x70020, 0, 16, 0, 0, 0, .plain⟩
def NET_ASEL_RADIO : Fld := ⟨0x70040, 16, 3, 0, 0, 0, .plain⟩
def NET_ASEL_INDEX : Fld := ⟨0x70040, 0, 11, 0, 0, 0, .plain⟩
def NET_UPD_STATE : Fld := ⟨0x70100, 29, 3, 0, 4, 0, .plain⟩
def NET_UPD_MEMBERS : Fld := ⟨0x70100, 16, 13, 0, 4, 0, .plain⟩
def NET_UPD_STATUS : Fld := ⟨0x70100, 0, 16, 0, 4, 0, .plain⟩
def NET_AWIN_WORD : Fld := ⟨0x70080, 0, 32, 0, 4, 0, .plain⟩

/-! RAD: block 0x08 -/
def RAD_CFG_EN : Fld := ⟨0x80000, 31, 1, 0, 256, 0, .plain⟩
def RAD_CFG_STOPHB : Fld := ⟨0x80000, 30, 1, 0, 256, 0, .plain⟩
def RAD_CFG_SLEEPERS : Fld := ⟨0x80000, 29, 1, 0, 256, 0, .plain⟩
def RAD_CFG_RELAY_EN : Fld := ⟨0x80000, 28, 1, 0, 256, 0, .plain⟩
def RAD_CFG_BAND : Fld := ⟨0x80000, 26, 2, 0, 256, 0, .plain⟩
def RAD_CFG_TXPWR : Fld := ⟨0x80000, 16, 8, 0, 256, 0, .plain⟩
def RAD_CFG_NETID : Fld := ⟨0x80000, 0, 16, 0, 256, 0, .plain⟩
def RAD_CHMAP_LO_MAP : Fld := ⟨0x80004, 0, 32, 0, 256, 0, .plain⟩
def RAD_CHMAP_HI_MAP : Fld := ⟨0x80008, 0, 32, 0, 256, 0, .plain⟩
def RAD_HOP_SEED : Fld := ⟨0x8000C, 16, 16, 0, 256, 0, .plain⟩
def RAD_HOP_STEP : Fld := ⟨0x8000C, 8, 8, 0, 256, 0, .plain⟩
def RAD_MAPCHG_APPLY : Fld := ⟨0x80010, 31, 1, 0, 256, 0, .plain⟩
def RAD_MAPCHG_PENDING : Fld := ⟨0x80010, 30, 1, 0, 256, 0, .plain⟩
def RAD_MAPCHG_REMAIN : Fld := ⟨0x80010, 16, 3, 0, 256, 0, .plain⟩
def RAD_MAPCHG_VERSION : Fld := ⟨0x80010, 0, 16, 0, 256, 0, .plain⟩
def RAD_STOPCH_CH : Fld := ⟨0x80014, 0, 6, 0, 256, 0, .plain⟩
def RAD_SCHED_SHARED : Fld := ⟨0x80018, 24, 3, 1, 256, 0, .plain⟩
def RAD_SCHED_PERIOD : Fld := ⟨0x80018, 16, 8, 60, 256, 0, .plain⟩
def RAD_SLEEP_GMAX : Fld := ⟨0x8001C, 22, 10, 300, 256, 0, .plain⟩
def RAD_SLEEP_G0 : Fld := ⟨0x8001C, 12, 10, 150, 256, 0, .plain⟩
def RAD_SLEEP_BMIN : Fld := ⟨0x8001C, 0, 8, 32, 256, 0, .plain⟩
def RAD_DUTY_WINDOW : Fld := ⟨0x80020, 16, 16, 3600, 256, 0, .plain⟩
def RAD_DUTY_LIMIT : Fld := ⟨0x80020, 0, 16, 10000, 256, 0, .plain⟩
def RAD_AIR_GRANTED : Fld := ⟨0x80024, 16, 16, 0, 256, 0, .plain⟩
def RAD_AIR_USED : Fld := ⟨0x80024, 0, 16, 0, 256, 0, .plain⟩
def RAD_STAT_CHANNEL : Fld := ⟨0x80028, 26, 6, 0, 256, 0, .plain⟩
def RAD_STAT_ASSOC : Fld := ⟨0x80028, 13, 11, 0, 256, 0, .plain⟩
def RAD_STAT_DUTY_OVER : Fld := ⟨0x80028, 4, 1, 0, 256, 0, .plain⟩
def RAD_STAT_SHED : Fld := ⟨0x80028, 3, 1, 0, 256, 0, .plain⟩
def RAD_STAT_MAPCHG : Fld := ⟨0x80028, 2, 1, 0, 256, 0, .plain⟩
def RAD_STAT_TX : Fld := ⟨0x80028, 1, 1, 0, 256, 0, .plain⟩
def RAD_STAT_RUNNING : Fld := ⟨0x80028, 0, 1, 0, 256, 0, .plain⟩
def RAD_E_E : Fld := ⟨0x8002C, 0, 32, 0, 256, 0, .plain⟩
def RAD_SSER_SSER : Fld := ⟨0x80030, 0, 16, 0, 256, 0, .plain⟩
def RAD_CNT0_MIC_FAIL : Fld := ⟨0x80034, 16, 16, 0, 256, 0, .plain⟩
def RAD_CNT0_PHY_ERR : Fld := ⟨0x80034, 0, 16, 0, 256, 0, .plain⟩
def RAD_CNT1_SHED : Fld := ⟨0x80038, 16, 16, 0, 256, 0, .plain⟩
def RAD_CNT1_CELL_BUSY : Fld := ⟨0x80038, 0, 16, 0, 256, 0, .plain⟩
def RAD_CNT2_RETRIES : Fld := ⟨0x8003C, 16, 16, 0, 256, 0, .plain⟩
def RAD_CNT2_NOACK : Fld := ⟨0x8003C, 0, 16, 0, 256, 0, .plain⟩

/-! DRV: block 0x09 -/
def DRV_STAT_PASSES : Fld := ⟨0x90000, 8, 8, 0, 0, 0, .plain⟩
def DRV_STAT_RUNNING : Fld := ⟨0x90000, 1, 1, 0, 0, 0, .plain⟩
def DRV_STAT_START_DONE : Fld := ⟨0x90000, 0, 1, 0, 0, 0, .plain⟩
def DRV_PWMCFG_STAGGER : Fld := ⟨0x90004, 16, 1, 1, 0, 0, .plain⟩
def DRV_PWMCFG_FREQ : Fld := ⟨0x90004, 0, 16, 25000, 0, 0, .plain⟩
def DRV_SHORTCFG_EVERY : Fld := ⟨0x90008, 0, 16, 3600, 0, 0, .plain⟩
def DRV_SHORT_PWM_LANDS : Fld := ⟨0x9000C, 0, 32, 0, 0, 0, .plain⟩
def DRV_SHORT_SNS_LANDS : Fld := ⟨0x90010, 0, 32, 0, 0, 0, .plain⟩
def DRV_SHORT_CMD_GO : Fld := ⟨0x90014, 0, 1, 0, 0, 0, .plain⟩
def DRV_CH_CFG_EN : Fld := ⟨0x90100, 31, 1, 0, 16, 0, .plain⟩
def DRV_CH_CFG_SRC : Fld := ⟨0x90100, 29, 2, 0, 16, 0, .plain⟩
def DRV_CH_CFG_STOPSEL : Fld := ⟨0x90100, 28, 1, 0, 16, 0, .plain⟩
def DRV_CH_CFG_LUM : Fld := ⟨0x90100, 25, 3, 0, 16, 0, .plain⟩
def DRV_CH_CFG_CH : Fld := ⟨0x90100, 22, 3, 0, 16, 0, .plain⟩
def DRV_CH_CFG_QWI : Fld := ⟨0x90100, 0, 13, 0, 16, 0, .plain⟩
def DRV_CH_VAL_FBDUTY : Fld := ⟨0x90104, 16, 16, 0, 16, 0, .plain⟩
def DRV_CH_VAL_STOPVAL : Fld := ⟨0x90104, 0, 16, 0, 16, 0, .plain⟩
def DRV_CH_SNS_SCALE : Fld := ⟨0x90108, 16, 16, 3200, 16, 0, .plain⟩
def DRV_CH_SNS_VOPEN : Fld := ⟨0x90108, 8, 8, 240, 16, 0, .plain⟩
def DRV_CH_SNS_VSHORT : Fld := ⟨0x90108, 0, 8, 8, 16, 0, .plain⟩
def DRV_CH_STAT_DUTY : Fld := ⟨0x9010C, 16, 16, 0, 16, 0, .plain⟩
def DRV_CH_STAT_VSTR : Fld := ⟨0x9010C, 8, 8, 0, 16, 0, .plain⟩
def DRV_CH_STAT_SSTATE : Fld := ⟨0x9010C, 6, 2, 3, 16, 0, .plain⟩
def DRV_CH_STAT_SHORTED : Fld := ⟨0x9010C, 5, 1, 0, 16, 0, .plain⟩
def DRV_CH_STAT_SAT : Fld := ⟨0x9010C, 4, 1, 0, 16, 0, .plain⟩
def DRV_CH_STAT_DIMMED : Fld := ⟨0x9010C, 3, 1, 0, 16, 0, .plain⟩
def DRV_CH_STAT_TEMP_STALE : Fld := ⟨0x9010C, 2, 1, 0, 16, 0, .plain⟩
def DRV_LBT_CFG_TYPE : Fld := ⟨0x90400, 30, 2, 0, 16, 0, .plain⟩
def DRV_LBT_CFG_OFFSET : Fld := ⟨0x90400, 0, 16, 0, 16, 0, .plain⟩
def DRV_LBT_PAR_BETA : Fld := ⟨0x90404, 16, 16, 3435, 16, 0, .plain⟩
def DRV_LBT_PAR_NOMRES : Fld := ⟨0x90404, 0, 16, 10000, 16, 0, .plain⟩
def DRV_LBT_VAL_STATE : Fld := ⟨0x90408, 30, 2, 3, 16, 0, .plain⟩
def DRV_LBT_VAL_TEMP : Fld := ⟨0x90408, 0, 16, 0, 16, 0, .plain⟩
def DRV_LUM_CFG_EN : Fld := ⟨0x90500, 31, 1, 0, 8, 0, .plain⟩
def DRV_LUM_CFG_LBT : Fld := ⟨0x90500, 28, 3, 0, 8, 0, .plain⟩
def DRV_LUM_CFG_SLOT : Fld := ⟨0x90500, 16, 12, 0, 8, 0, .plain⟩
def DRV_LUM_CFG_SAFEDIM : Fld := ⟨0x90500, 0, 16, 65535, 8, 0, .plain⟩
def DRV_LUM_STAT_DIM : Fld := ⟨0x90504, 0, 16, 65535, 8, 0, .plain⟩

/-! LOP: block 0x0A -/
def LOP_STAT_CLOSED : Fld := ⟨0xA0000, 16, 7, 0, 0, 0, .plain⟩
def LOP_STAT_FAULTED : Fld := ⟨0xA0000, 8, 7, 0, 0, 0, .plain⟩
def LOP_STAT_AXES : Fld := ⟨0xA0000, 0, 8, 0, 0, 0, .plain⟩
def LOP_LOAD_L1 : Fld := ⟨0xA0004, 16, 16, 0, 0, 0, .plain⟩
def LOP_LOAD_L0 : Fld := ⟨0xA0004, 0, 16, 0, 0, 0, .plain⟩
def LOP_CFG_EN : Fld := ⟨0xA1000, 31, 1, 0, 128, 0, .plain⟩
def LOP_CFG_AUTOCLOSE : Fld := ⟨0xA1000, 30, 1, 0, 128, 0, .plain⟩
def LOP_CFG_ROLE : Fld := ⟨0xA1000, 29, 1, 0, 128, 0, .plain⟩
def LOP_CFG_FAULTACT : Fld := ⟨0xA1000, 27, 2, 1, 128, 0, .plain⟩
def LOP_CFG_DIV : Fld := ⟨0xA1000, 13, 14, 80, 128, 0, .plain⟩
def LOP_CFG_PHASE : Fld := ⟨0xA1000, 0, 13, 0, 128, 0, .plain⟩
def LOP_SRC_PVK : Fld := ⟨0xA1004, 29, 3, 0, 128, 0, .plain⟩
def LOP_SRC_PVI : Fld := ⟨0xA1004, 16, 13, 0, 128, 0, .plain⟩
def LOP_SRC_FFK : Fld := ⟨0xA1004, 13, 3, 0, 128, 0, .plain⟩
def LOP_SRC_FFI : Fld := ⟨0xA1004, 0, 13, 0, 128, 0, .plain⟩
def LOP_LINK_SPK : Fld := ⟨0xA1008, 30, 2, 0, 128, 0, .plain⟩
def LOP_LINK_SPI : Fld := ⟨0xA1008, 17, 13, 0, 128, 0, .plain⟩
def LOP_LINK_ACTK : Fld := ⟨0xA1008, 15, 2, 0, 128, 0, .plain⟩
def LOP_LINK_ACTI : Fld := ⟨0xA1008, 10, 5, 0, 128, 0, .plain⟩
def LOP_KP_K : Fld := ⟨0xA100C, 0, 32, 0, 128, 0, .plain⟩
def LOP_KI_K : Fld := ⟨0xA1010, 0, 32, 0, 128, 0, .plain⟩
def LOP_KD_K : Fld := ⟨0xA1014, 0, 32, 0, 128, 0, .plain⟩
def LOP_KF_K : Fld := ⟨0xA1018, 0, 32, 0, 128, 0, .plain⟩
def LOP_OMIN_LIM : Fld := ⟨0xA101C, 0, 32, 0, 128, 0, .plain⟩
def LOP_OMAX_LIM : Fld := ⟨0xA1020, 0, 32, 65535, 128, 0, .plain⟩
def LOP_IMIN_LIM : Fld := ⟨0xA1024, 0, 32, 0, 128, 0, .plain⟩
def LOP_IMAX_LIM : Fld := ⟨0xA1028, 0, 32, 65535, 128, 0, .plain⟩
def LOP_FB_FB : Fld := ⟨0xA102C, 0, 32, 2147483648, 128, 0, .plain⟩
def LOP_MON_LOSS_N : Fld := ⟨0xA1030, 20, 12, 20, 128, 0, .plain⟩
def LOP_MON_FREEZE_M : Fld := ⟨0xA1030, 8, 12, 0, 128, 0, .plain⟩
def LOP_DBAND_VAL : Fld := ⟨0xA1034, 0, 32, 0, 128, 0, .plain⟩
def LOP_ETH_VAL : Fld := ⟨0xA1038, 0, 32, 0, 128, 0, .plain⟩
def LOP_TRACK_VAL : Fld := ⟨0xA103C, 0, 32, 0, 128, 0, .plain⟩
def LOP_SP_SP : Fld := ⟨0xA1040, 0, 32, 0, 128, 0, .plain⟩
def LOP_CMD_CLOSE : Fld := ⟨0xA1044, 1, 1, 0, 128, 0, .plain⟩
def LOP_CMD_OPEN : Fld := ⟨0xA1044, 0, 1, 0, 128, 0, .plain⟩
def LOP_STATE_FAULT_SEEN : Fld := ⟨0xA1048, 9, 1, 0, 128, 0, .plain⟩
def LOP_STATE_TRACKING : Fld := ⟨0xA1048, 8, 1, 0, 128, 0, .plain⟩
def LOP_STATE_ASAT : Fld := ⟨0xA1048, 7, 1, 0, 128, 0, .plain⟩
def LOP_STATE_ISAT : Fld := ⟨0xA1048, 6, 1, 0, 128, 0, .plain⟩
def LOP_STATE_OSAT_LO : Fld := ⟨0xA1048, 5, 1, 0, 128, 0, .plain⟩
def LOP_STATE_OSAT_HI : Fld := ⟨0xA1048, 4, 1, 0, 128, 0, .plain⟩
def LOP_STATE_FREEZE : Fld := ⟨0xA1048, 3, 1, 0, 128, 0, .plain⟩
def LOP_STATE_LOSS : Fld := ⟨0xA1048, 2, 1, 0, 128, 0, .plain⟩
def LOP_STATE_SELECTED : Fld := ⟨0xA1048, 1, 1, 0, 128, 0, .plain⟩
def LOP_STATE_CLOSED : Fld := ⟨0xA1048, 0, 1, 0, 128, 0, .plain⟩
def LOP_PV_VAL : Fld := ⟨0xA104C, 0, 32, 0, 128, 0, .plain⟩
def LOP_OUT_VAL : Fld := ⟨0xA1050, 0, 32, 0, 128, 0, .plain⟩
def LOP_INT_VAL : Fld := ⟨0xA1054, 0, 32, 0, 128, 0, .plain⟩
def LOP_DL_CFG_EN : Fld := ⟨0xA3000, 31, 1, 0, 32, 0, .plain⟩
def LOP_DL_CFG_PRESENT : Fld := ⟨0xA3000, 0, 4, 0, 32, 0, .plain⟩
def LOP_DL_STAT_OK : Fld := ⟨0xA3004, 0, 4, 0, 32, 0, .plain⟩
def LOP_DL_CNT_CRC_ERR : Fld := ⟨0xA3008, 16, 16, 0, 32, 0, .plain⟩
def LOP_DL_CNT_MISSED : Fld := ⟨0xA3008, 0, 16, 0, 32, 0, .plain⟩
def LOP_AX_CFG_EN : Fld := ⟨0xA4000, 31, 1, 0, 256, 0, .plain⟩
def LOP_AX_CFG_LANYARD_STOP : Fld := ⟨0xA4000, 30, 1, 1, 256, 0, .plain⟩
def LOP_AX_CFG_DIR : Fld := ⟨0xA4000, 29, 1, 0, 256, 0, .plain⟩
def LOP_AX_CPR_CPR : Fld := ⟨0xA4004, 0, 32, 4096, 256, 0, .plain⟩
def LOP_AX_PMIN_POS : Fld := ⟨0xA4008, 0, 32, 0, 256, 0, .plain⟩
def LOP_AX_PMAX_POS : Fld := ⟨0xA400C, 0, 32, 0, 256, 0, .plain⟩
def LOP_AX_KPP_K : Fld := ⟨0xA4010, 0, 32, 0, 256, 0, .plain⟩
def LOP_AX_KPV_K : Fld := ⟨0xA4014, 0, 32, 0, 256, 0, .plain⟩
def LOP_AX_KIV_K : Fld := ⟨0xA4018, 0, 32, 0, 256, 0, .plain⟩
def LOP_AX_TLIM_GRAV : Fld := ⟨0xA401C, 16, 16, 0, 256, 0, .plain⟩
def LOP_AX_TLIM_TLIM : Fld := ⟨0xA401C, 0, 16, 8192, 256, 0, .plain⟩
def LOP_AX_VLIM_VAL : Fld := ⟨0xA4020, 0, 32, 0, 256, 0, .plain⟩
def LOP_AX_QSTOP_VAL : Fld := ⟨0xA4024, 0, 32, 0, 256, 0, .plain⟩
def LOP_AX_HOMESPD_VAL : Fld := ⟨0xA402C, 0, 32, 0, 256, 0, .plain⟩
def LOP_AX_INPOS_INPOS : Fld := ⟨0xA4028, 16, 16, 16, 256, 0, .plain⟩
def LOP_AX_INPOS_VDEAD : Fld := ⟨0xA4028, 0, 16, 64, 256, 0, .plain⟩
def LOP_AX_HOMEPOS_POS : Fld := ⟨0xA4030, 0, 32, 0, 256, 0, .plain⟩
def LOP_AX_BRAKE_ENGAGE : Fld := ⟨0xA4034, 16, 16, 200, 256, 0, .plain⟩
def LOP_AX_BRAKE_RELEASE : Fld := ⟨0xA4034, 0, 16, 200, 256, 0, .plain⟩
def LOP_AX_CMD_RESET : Fld := ⟨0xA4038, 0, 1, 0, 256, 0, .plain⟩
def LOP_AX_POS_VAL : Fld := ⟨0xA4040, 0, 32, 0, 256, 0, .plain⟩
def LOP_AX_VEL_VAL : Fld := ⟨0xA4044, 0, 32, 0, 256, 0, .plain⟩
def LOP_AX_TGT_VAL : Fld := ⟨0xA4048, 0, 32, 0, 256, 0, .plain⟩
def LOP_AX_TRQ_VAL : Fld := ⟨0xA404C, 0, 32, 0, 256, 0, .plain⟩
def LOP_AX_STAT_TSAT : Fld := ⟨0xA4050, 11, 1, 0, 256, 0, .plain⟩
def LOP_AX_STAT_HOMED : Fld := ⟨0xA4050, 10, 1, 0, 256, 0, .plain⟩
def LOP_AX_STAT_STATE : Fld := ⟨0xA4050, 0, 4, 0, 256, 0, .plain⟩
def LOP_AX_FR_E1 : Fld := ⟨0xA8000, 16, 16, 0, 4096, 4, .plain⟩
def LOP_AX_FR_E0 : Fld := ⟨0xA8000, 0, 16, 0, 4096, 4, .plain⟩
def LOP_AX_CG_E1 : Fld := ⟨0xA8800, 16, 16, 0, 4096, 4, .plain⟩
def LOP_AX_CG_E0 : Fld := ⟨0xA8800, 0, 16, 0, 4096, 4, .plain⟩

/-! GNS: block 0x0B -/
def GNS_STAT_TRACK : Fld := ⟨0xB0000, 25, 7, 0, 0, 0, .plain⟩
def GNS_STAT_DUAL : Fld := ⟨0xB0000, 18, 7, 0, 0, 0, .plain⟩
def GNS_STAT_RX : Fld := ⟨0xB0000, 6, 2, 0, 0, 0, .plain⟩
def GNS_STAT_REF_OK : Fld := ⟨0xB0000, 5, 1, 0, 0, 0, .plain⟩
def GNS_STAT_ANT_FAULT : Fld := ⟨0xB0000, 4, 1, 0, 0, 0, .plain⟩
def GNS_STAT_RTK_ON : Fld := ⟨0xB0000, 3, 1, 0, 0, 0, .plain⟩
def GNS_CFG_GPS_EN : Fld := ⟨0xB0004, 31, 1, 1, 0, 0, .plain⟩
def GNS_CFG_GAL_EN : Fld := ⟨0xB0004, 30, 1, 1, 0, 0, .plain⟩
def GNS_CFG_BDS_EN : Fld := ⟨0xB0004, 29, 1, 1, 0, 0, .plain⟩
def GNS_CFG_QZS_EN : Fld := ⟨0xB0004, 28, 1, 1, 0, 0, .plain⟩
def GNS_CFG_ELEV_MASK : Fld := ⟨0xB0004, 8, 8, 10, 0, 0, .plain⟩
def GNS_CFG_CN0_MASK : Fld := ⟨0xB0004, 0, 8, 30, 0, 0, .plain⟩
def GNS_ANT_BIAS_EN : Fld := ⟨0xB0008, 31, 1, 1, 0, 0, .plain⟩
def GNS_ANT_VSEL : Fld := ⟨0xB0008, 30, 1, 0, 0, 0, .plain⟩
def GNS_ANT_CURRENT : Fld := ⟨0xB0008, 8, 8, 0, 0, 0, .plain⟩
def GNS_ANT_STATE : Fld := ⟨0xB0008, 0, 2, 3, 0, 0, .plain⟩
def GNS_RTK_RATIO : Fld := ⟨0xB000C, 24, 8, 30, 0, 0, .plain⟩
def GNS_RTK_VALID_N : Fld := ⟨0xB000C, 20, 4, 5, 0, 0, .plain⟩
def GNS_RTK_GAP_MAX : Fld := ⟨0xB000C, 12, 8, 10, 0, 0, .plain⟩
def GNS_RTK_CUTOFF : Fld := ⟨0xB000C, 6, 6, 40, 0, 0, .plain⟩
def GNS_RTK_MAXBASE : Fld := ⟨0xB000C, 0, 6, 10, 0, 0, .plain⟩
def GNS_REF_CFG_MODE : Fld := ⟨0xB0010, 30, 2, 0, 0, 0, .plain⟩
def GNS_REF_CFG_GO : Fld := ⟨0xB0010, 29, 1, 0, 0, 0, .plain⟩
def GNS_REF_CFG_SURVEY_MIN : Fld := ⟨0xB0010, 0, 16, 60, 0, 0, .plain⟩
def GNS_REF_STAT_STATE : Fld := ⟨0xB0014, 30, 2, 0, 0, 0, .plain⟩
def GNS_REF_STAT_SOURCE : Fld := ⟨0xB0014, 29, 1, 0, 0, 0, .plain⟩
def GNS_REF_STAT_SIGMA : Fld := ⟨0xB0014, 16, 12, 0, 0, 0, .plain⟩
def GNS_REF_STAT_PROGRESS : Fld := ⟨0xB0014, 0, 16, 0, 0, 0, .plain⟩
def GNS_REF_X_LO_POS : Fld := ⟨0xB0018, 0, 32, 0, 0, 0, .plain⟩
def GNS_REF_Y_LO_POS : Fld := ⟨0xB0020, 0, 32, 0, 0, 0, .plain⟩
def GNS_REF_Z_LO_POS : Fld := ⟨0xB0028, 0, 32, 0, 0, 0, .plain⟩
def GNS_REF_X_HI_POS : Fld := ⟨0xB001C, 0, 32, 0, 0, 0, .plain⟩
def GNS_REF_Y_HI_POS : Fld := ⟨0xB0024, 0, 32, 0, 0, 0, .plain⟩
def GNS_REF_Z_HI_POS : Fld := ⟨0xB002C, 0, 32, 0, 0, 0, .plain⟩
def GNS_ORG_LAT_LAT : Fld := ⟨0xB0030, 0, 32, 0, 0, 0, .plain⟩
def GNS_ORG_LON_LON : Fld := ⟨0xB0034, 0, 32, 0, 0, 0, .plain⟩
def GNS_ORG_H_H : Fld := ⟨0xB0038, 0, 32, 0, 0, 0, .plain⟩
def GNS_CNT0_EPOCHS : Fld := ⟨0xB0040, 16, 16, 0, 0, 0, .plain⟩
def GNS_CNT0_SOLVE_LATE : Fld := ⟨0xB0040, 0, 16, 0, 0, 0, .plain⟩
def GNS_CNT1_LATE_OBS : Fld := ⟨0xB0044, 16, 16, 0, 0, 0, .plain⟩
def GNS_CNT1_CRC_FAIL : Fld := ⟨0xB0044, 0, 16, 0, 0, 0, .plain⟩
def GNS_CNT2_UNSUPPORTED : Fld := ⟨0xB0048, 16, 16, 0, 0, 0, .plain⟩
def GNS_CNT2_REJECTED : Fld := ⟨0xB0048, 0, 16, 0, 0, 0, .plain⟩
def GNS_CNT3_SLIPS : Fld := ⟨0xB004C, 16, 16, 0, 0, 0, .plain⟩
def GNS_CNT3_FIX_LOSS : Fld := ⟨0xB004C, 0, 16, 0, 0, 0, .plain⟩
def GNS_FSEL_ROVER : Fld := ⟨0xB0080, 0, 6, 0, 0, 0, .plain⟩
def GNS_FWIN_WORD : Fld := ⟨0xB0100, 0, 32, 0, 4, 0, .plain⟩
def GNS_CH_ID_CONST : Fld := ⟨0xB0400, 29, 3, 0, 8, 0, .plain⟩
def GNS_CH_ID_ELEV : Fld := ⟨0xB0400, 8, 8, 0, 8, 0, .plain⟩
def GNS_CH_ID_PRN : Fld := ⟨0xB0400, 0, 8, 0, 8, 0, .plain⟩
def GNS_CH_STAT_CN0_L1 : Fld := ⟨0xB0404, 24, 8, 0, 8, 0, .plain⟩
def GNS_CH_STAT_CN0_L5 : Fld := ⟨0xB0404, 16, 8, 0, 8, 0, .plain⟩
def GNS_CH_STAT_USED : Fld := ⟨0xB0404, 8, 1, 0, 8, 0, .plain⟩
def GNS_CH_STAT_STATE_L5 : Fld := ⟨0xB0404, 4, 4, 0, 8, 0, .plain⟩
def GNS_CH_STAT_STATE_L1 : Fld := ⟨0xB0404, 0, 4, 0, 8, 0, .plain⟩
def GNS_RV_CFG_EN : Fld := ⟨0xB1000, 31, 1, 0, 16, 0, .plain⟩
def GNS_RV_CFG_STATION : Fld := ⟨0xB1000, 16, 12, 0, 16, 0, .plain⟩
def GNS_RV_CFG_CERT : Fld := ⟨0xB1000, 0, 16, 0, 16, 0, .plain⟩
def GNS_RV_STAT_SESSION : Fld := ⟨0xB1004, 31, 1, 0, 16, 0, .plain⟩
def GNS_RV_STAT_FILTER : Fld := ⟨0xB1004, 28, 3, 0, 16, 0, .plain⟩
def GNS_RV_STAT_CTX : Fld := ⟨0xB1004, 18, 10, 1023, 16, 0, .plain⟩
def GNS_RV_STAT_VCOUNT : Fld := ⟨0xB1004, 8, 8, 0, 16, 0, .plain⟩
def GNS_RV_STAT_LATENCY : Fld := ⟨0xB1004, 0, 8, 0, 16, 0, .plain⟩
def GNS_RV_CNT0_EPOCHS : Fld := ⟨0xB1008, 16, 16, 0, 16, 0, .plain⟩
def GNS_RV_CNT0_MISSED : Fld := ⟨0xB1008, 0, 16, 0, 16, 0, .plain⟩
def GNS_RV_CNT1_LATE : Fld := ⟨0xB100C, 16, 16, 0, 16, 0, .plain⟩
def GNS_RV_CNT1_DISCARDED : Fld := ⟨0xB100C, 0, 16, 0, 16, 0, .plain⟩

/-! FLT: block 0x0C -/
def FLT_STAT_ALLOT : Fld := ⟨0xC0000, 29, 3, 0, 0, 0, .plain⟩
def FLT_STAT_KNOTS : Fld := ⟨0xC0000, 22, 7, 0, 0, 0, .plain⟩
def FLT_STAT_SESSIONS : Fld := ⟨0xC0000, 15, 7, 0, 0, 0, .plain⟩
def FLT_STAT_TASKS : Fld := ⟨0xC0000, 0, 11, 0, 0, 0, .plain⟩
def FLT_CFG_LOOKAHEAD : Fld := ⟨0xC0004, 28, 4, 8, 0, 0, .plain⟩
def FLT_CFG_BACKOFF : Fld := ⟨0xC0004, 20, 8, 20, 0, 0, .plain⟩
def FLT_CFG_KEEP : Fld := ⟨0xC0004, 12, 8, 100, 0, 0, .plain⟩
def FLT_CFG_MISMATCH : Fld := ⟨0xC0004, 0, 12, 150, 0, 0, .plain⟩
def FLT_TMO_STATUS_TMO : Fld := ⟨0xC0008, 24, 8, 10, 0, 0, .plain⟩
def FLT_TMO_TASK_TMO : Fld := ⟨0xC0008, 16, 8, 50, 0, 0, .plain⟩
def FLT_TMO_RESEND : Fld := ⟨0xC0008, 8, 8, 10, 0, 0, .plain⟩
def FLT_GRAPH_VALID : Fld := ⟨0xC000C, 31, 1, 0, 0, 0, .plain⟩
def FLT_GRAPH_SEGMENTS : Fld := ⟨0xC000C, 16, 13, 0, 0, 0, .plain⟩
def FLT_GRAPH_JUNCTIONS : Fld := ⟨0xC000C, 0, 12, 0, 0, 0, .plain⟩
def FLT_CNT0_CYCLES : Fld := ⟨0xC0010, 16, 16, 0, 0, 0, .plain⟩
def FLT_CNT0_VICTIMS : Fld := ⟨0xC0010, 0, 16, 0, 0, 0, .plain⟩
def FLT_CNT1_KNOTS : Fld := ⟨0xC0014, 24, 8, 0, 0, 0, .plain⟩
def FLT_CNT1_INTRUSIONS : Fld := ⟨0xC0014, 16, 8, 0, 0, 0, .plain⟩
def FLT_CNT1_LATE : Fld := ⟨0xC0014, 0, 16, 0, 0, 0, .plain⟩
def FLT_RV_CFG_CLASS : Fld := ⟨0xC0100, 24, 8, 255, 16, 0, .plain⟩
def FLT_RV_CFG_PRIO : Fld := ⟨0xC0100, 16, 8, 0, 16, 0, .plain⟩
def FLT_RV_CFG_PATHS : Fld := ⟨0xC0100, 0, 2, 3, 16, 0, .plain⟩
def FLT_RV_CMD_CONFIRM : Fld := ⟨0xC0104, 16, 16, 0, 16, 0, .plain⟩
def FLT_RV_CMD_RELEASE : Fld := ⟨0xC0104, 2, 1, 0, 16, 0, .plain⟩
def FLT_RV_CMD_HOLD : Fld := ⟨0xC0104, 1, 1, 0, 16, 0, .plain⟩
def FLT_RV_CMD_FORGET : Fld := ⟨0xC0104, 0, 1, 0, 16, 0, .plain⟩
def FLT_RV_STAT_CAUSES : Fld := ⟨0xC0108, 26, 6, 0, 16, 0, .plain⟩
def FLT_RV_STAT_PAUSED : Fld := ⟨0xC0108, 25, 1, 0, 16, 0, .plain⟩
def FLT_RV_STAT_LOST : Fld := ⟨0xC0108, 24, 1, 0, 16, 0, .plain⟩
def FLT_RV_STAT_EPRIO : Fld := ⟨0xC0108, 16, 8, 0, 16, 0, .plain⟩
def FLT_RV_STAT_VICTIM_CNT : Fld := ⟨0xC0108, 8, 8, 0, 16, 0, .plain⟩
def FLT_RV_STAT_BACKOFF_LEFT : Fld := ⟨0xC0108, 0, 8, 0, 16, 0, .plain⟩
def FLT_KNOT_ACTIVE : Fld := ⟨0xC0800, 31, 1, 0, 16, 0, .plain⟩
def FLT_KNOT_MEMBERS : Fld := ⟨0xC0800, 24, 7, 0, 16, 0, .plain⟩
def FLT_KNOT_AGE : Fld := ⟨0xC0800, 0, 24, 0, 16, 0, .plain⟩
def FLT_KNOT_M0_ROVERS : Fld := ⟨0xC0804, 0, 32, 0, 16, 0, .plain⟩
def FLT_KNOT_M1_ROVERS : Fld := ⟨0xC0808, 0, 32, 0, 16, 0, .plain⟩
def FLT_COR_CLOSED : Fld := ⟨0xC1000, 31, 1, 0, 4, 0, .plain⟩
def FLT_COR_DEFINED : Fld := ⟨0xC1000, 30, 1, 0, 4, 0, .plain⟩
def FLT_COR_HOLDER : Fld := ⟨0xC1000, 24, 6, 0, 4, 0, .plain⟩
def FLT_COR_HELD : Fld := ⟨0xC1000, 23, 1, 0, 4, 0, .plain⟩
def FLT_COR_SEGMENTS : Fld := ⟨0xC1000, 0, 6, 0, 4, 0, .plain⟩

/-! STP: block 0x0D -/
def STP_STAT_DECLARED : Fld := ⟨0xD0000, 31, 1, 1, 0, 0, .plain⟩
def STP_STAT_OUT_A : Fld := ⟨0xD0000, 30, 1, 0, 0, 0, .plain⟩
def STP_STAT_OUT_B : Fld := ⟨0xD0000, 29, 1, 0, 0, 0, .plain⟩
def STP_STAT_IN_A : Fld := ⟨0xD0000, 28, 1, 0, 0, 0, .plain⟩
def STP_STAT_IN_B : Fld := ⟨0xD0000, 27, 1, 0, 0, 0, .plain⟩
def STP_STAT_HEALTHY : Fld := ⟨0xD0000, 26, 1, 0, 0, 0, .plain⟩
def STP_STAT_MBX_OK : Fld := ⟨0xD0000, 25, 1, 0, 0, 0, .plain⟩
def STP_STAT_INJECTING : Fld := ⟨0xD0000, 24, 1, 0, 0, 0, .plain⟩
def STP_STAT_KEYID : Fld := ⟨0xD0000, 16, 8, 0, 0, 0, .plain⟩
def STP_CAUSE_ACTIVE : Fld := ⟨0xD0004, 16, 9, 0, 0, 0, .plain⟩
def STP_CAUSE_LATCHED : Fld := ⟨0xD0004, 0, 9, 128, 0, 0, .plain⟩
def STP_CFG_FILT : Fld := ⟨0xD0008, 28, 4, 5, 0, 0, .plain⟩
def STP_CFG_DISC : Fld := ⟨0xD0008, 21, 7, 10, 0, 0, .plain⟩
def STP_CFG_MBX_MISS : Fld := ⟨0xD0008, 17, 4, 3, 0, 0, .plain⟩
def STP_CFG_OTEST : Fld := ⟨0xD0008, 8, 1, 1, 0, 0, .plain⟩
def STP_CFG_KEYSLOT : Fld := ⟨0xD0008, 0, 8, 0, 0, 0, .plain⟩
def STP_TMO_ETH_TMO : Fld := ⟨0xD000C, 16, 16, 10, 0, 0, .plain⟩
def STP_TMO_RAD_TMO : Fld := ⟨0xD000C, 8, 8, 3, 0, 0, .plain⟩
def STP_GRP_ADDR : Fld := ⟨0xD0010, 0, 32, 4026484502, 0, 0, .plain⟩
def STP_ETH_SEGMENT : Fld := ⟨0xD0014, 16, 16, 0, 0, 0, .plain⟩
def STP_ETH_PORT : Fld := ⟨0xD0014, 0, 16, 47122, 0, 0, .plain⟩
def STP_CMD_CONFIRM : Fld := ⟨0xD0018, 16, 16, 0, 0, 0, .plain⟩
def STP_CMD_CODE : Fld := ⟨0xD0018, 0, 8, 0, 0, 0, .plain⟩
def STP_CMD_STAT_CODE : Fld := ⟨0xD001C, 16, 8, 0, 0, 0, .plain⟩
def STP_CMD_STAT_STATUS : Fld := ⟨0xD001C, 0, 16, 0, 0, 0, .plain⟩
def STP_CNT_STOPS : Fld := ⟨0xD0020, 16, 16, 0, 0, 0, .plain⟩
def STP_CNT_RESETS : Fld := ⟨0xD0020, 8, 8, 0, 0, 0, .plain⟩
def STP_CNT_OTEST_FAIL : Fld := ⟨0xD0020, 0, 8, 0, 0, 0, .plain⟩
def STP_LAST_LO_FRAME : Fld := ⟨0xD0024, 0, 32, 0, 0, 0, .plain⟩
def STP_LAST_HI_FRAME : Fld := ⟨0xD0028, 0, 16, 0, 0, 0, .plain⟩

/-! TIM: block 0x0E -/
def TIM_STAT_STATE : Fld := ⟨0xE0000, 30, 2, 0, 0, 0, .plain⟩
def TIM_STAT_SRC : Fld := ⟨0xE0000, 28, 2, 0, 0, 0, .plain⟩
def TIM_STAT_GNSS_Q : Fld := ⟨0xE0000, 27, 1, 0, 0, 0, .plain⟩
def TIM_STAT_PTP_Q : Fld := ⟨0xE0000, 26, 1, 0, 0, 0, .plain⟩
def TIM_STAT_DISCORDANT : Fld := ⟨0xE0000, 25, 1, 0, 0, 0, .plain⟩
def TIM_STAT_TIME_VALID : Fld := ⟨0xE0000, 24, 1, 0, 0, 0, .plain⟩
def TIM_STAT_TOD : Fld := ⟨0xE0000, 23, 1, 0, 0, 0, .plain⟩
def TIM_STAT_SLEWING : Fld := ⟨0xE0000, 22, 1, 0, 0, 0, .plain⟩
def TIM_STAT_STEPS : Fld := ⟨0xE0000, 8, 8, 0, 0, 0, .plain⟩
def TIM_CFG_GNSS_DELAY : Fld := ⟨0xE0004, 16, 16, 0, 0, 0, .plain⟩
def TIM_CFG_SLEW : Fld := ⟨0xE0004, 8, 8, 100, 0, 0, .plain⟩
def TIM_CFG_GNSS_SRC : Fld := ⟨0xE0004, 1, 1, 1, 0, 0, .plain⟩
def TIM_CFG_PTP_SRC : Fld := ⟨0xE0004, 0, 1, 1, 0, 0, .plain⟩
def TIM_CMD_CONFIRM : Fld := ⟨0xE0008, 16, 16, 0, 0, 0, .plain⟩
def TIM_CMD_CODE : Fld := ⟨0xE0008, 0, 8, 0, 0, 0, .plain⟩
def TIM_CMD_STAT_CODE : Fld := ⟨0xE000C, 16, 8, 0, 0, 0, .plain⟩
def TIM_CMD_STAT_STATUS : Fld := ⟨0xE000C, 0, 16, 0, 0, 0, .plain⟩
def TIM_NOW_NS_NS : Fld := ⟨0xE0010, 0, 30, 0, 0, 0, .plain⟩
def TIM_NOW_SEC_LO_SEC : Fld := ⟨0xE0014, 0, 32, 0, 0, 0, .plain⟩
def TIM_NOW_SEC_HI_SEC : Fld := ⟨0xE0018, 0, 16, 0, 0, 0, .plain⟩
def TIM_UNC_U : Fld := ⟨0xE001C, 0, 32, 4294967295, 0, 0, .plain⟩
def TIM_SRCOFF_LO_OFF : Fld := ⟨0xE0020, 0, 32, 0, 0, 0, .plain⟩
def TIM_SRCOFF_HI_OFF : Fld := ⟨0xE0024, 0, 32, 0, 0, 0, .plain⟩
def TIM_RATE_FREQ : Fld := ⟨0xE0028, 0, 32, 0, 0, 0, .plain⟩
def TIM_SERVO_SLEW : Fld := ⟨0xE002C, 16, 16, 0, 0, 0, .plain⟩
def TIM_SERVO_FUNC : Fld := ⟨0xE002C, 0, 16, 100, 0, 0, .plain⟩
def TIM_HOLD_BOUND : Fld := ⟨0xE0030, 16, 16, 100, 0, 0, .plain⟩
def TIM_HOLD_AGE : Fld := ⟨0xE0030, 0, 16, 100, 0, 0, .plain⟩
def TIM_UTC_PENDING : Fld := ⟨0xE0034, 29, 2, 0, 0, 0, .plain⟩
def TIM_UTC_LSRC : Fld := ⟨0xE0034, 27, 2, 3, 0, 0, .plain⟩
def TIM_UTC_LEAP_CFG : Fld := ⟨0xE0034, 8, 8, 37, 0, 0, .plain⟩
def TIM_UTC_LEAP : Fld := ⟨0xE0034, 0, 8, 0, 0, 0, .plain⟩
def TIM_PPS_EN : Fld := ⟨0xE0038, 31, 1, 1, 0, 0, .plain⟩
def TIM_PPS_UNALIGNED : Fld := ⟨0xE0038, 30, 1, 0, 0, 0, .plain⟩
def TIM_PPS_POL : Fld := ⟨0xE0038, 29, 1, 0, 0, 0, .plain⟩
def TIM_PPS_WIDTH : Fld := ⟨0xE0038, 0, 16, 100, 0, 0, .plain⟩
def TIM_TXQ_OVERFLOW : Fld := ⟨0xE003C, 16, 16, 0, 0, 0, .plain⟩
def TIM_TXQ_DEPTH : Fld := ⟨0xE003C, 0, 6, 0, 0, 0, .plain⟩
def TIM_CNT_SRC_CHANGES : Fld := ⟨0xE0040, 16, 16, 0, 0, 0, .plain⟩
def TIM_CNT_DISCORD : Fld := ⟨0xE0040, 8, 8, 0, 0, 0, .plain⟩
def TIM_CNT_HOLDOVERS : Fld := ⟨0xE0040, 0, 8, 0, 0, 0, .plain⟩
def TIM_PTP_CFG_EN : Fld := ⟨0xE0080, 31, 1, 1, 0, 0, .plain⟩
def TIM_PTP_CFG_MASTER : Fld := ⟨0xE0080, 30, 1, 0, 0, 0, .plain⟩
def TIM_PTP_CFG_TRANSPORT : Fld := ⟨0xE0080, 29, 1, 0, 0, 0, .plain⟩
def TIM_PTP_CFG_TC_EN : Fld := ⟨0xE0080, 28, 1, 1, 0, 0, .plain⟩
def TIM_PTP_CFG_DOMAIN : Fld := ⟨0xE0080, 16, 8, 0, 0, 0, .plain⟩
def TIM_PTP_CFG_LOG_SYNC : Fld := ⟨0xE0080, 12, 4, 13, 0, 0, .plain⟩
def TIM_PTP_CFG_LOG_ANN : Fld := ⟨0xE0080, 8, 4, 1, 0, 0, .plain⟩
def TIM_PTP_CFG_ANN_TMO : Fld := ⟨0xE0080, 4, 4, 3, 0, 0, .plain⟩
def TIM_PTP_PRI_PRIORITY1 : Fld := ⟨0xE0084, 24, 8, 128, 0, 0, .plain⟩
def TIM_PTP_PRI_PRIORITY2 : Fld := ⟨0xE0084, 16, 8, 128, 0, 0, .plain⟩
def TIM_PTP_PRI_MAXCLASS : Fld := ⟨0xE0084, 8, 8, 7, 0, 0, .plain⟩
def TIM_PTP_STAT_PORT : Fld := ⟨0xE0088, 28, 4, 1, 0, 0, .plain⟩
def TIM_PTP_STAT_GM_CLASS : Fld := ⟨0xE0088, 16, 8, 0, 0, 0, .plain⟩
def TIM_PTP_STAT_STEPS_REMOVED : Fld := ⟨0xE0088, 8, 8, 0, 0, 0, .plain⟩
def TIM_PTP_GM_LO_ID : Fld := ⟨0xE008C, 0, 32, 0, 0, 0, .plain⟩
def TIM_PTP_GM_HI_ID : Fld := ⟨0xE0090, 0, 32, 0, 0, 0, .plain⟩
def TIM_PTP_DELAY_DELAY : Fld := ⟨0xE0094, 0, 32, 0, 0, 0, .plain⟩
def TIM_TRIG_CFG_MODE : Fld := ⟨0xE0100, 30, 2, 0, 16, 0, .plain⟩
def TIM_TRIG_CFG_EDGE : Fld := ⟨0xE0100, 28, 2, 3, 16, 0, .plain⟩
def TIM_TRIG_CFG_SF : Fld := ⟨0xE0100, 27, 1, 0, 16, 0, .plain⟩
def TIM_TRIG_CFG_POL : Fld := ⟨0xE0100, 26, 1, 0, 16, 0, .plain⟩
def TIM_TRIG_CFG_WIDTH : Fld := ⟨0xE0100, 0, 16, 1000, 16, 0, .plain⟩
def TIM_TRIG_STAT_COUNT : Fld := ⟨0xE0104, 24, 8, 0, 16, 0, .plain⟩
def TIM_TRIG_STAT_VALID : Fld := ⟨0xE0104, 23, 1, 0, 16, 0, .plain⟩
def TIM_TRIG_STAT_STEPPED : Fld := ⟨0xE0104, 22, 1, 0, 16, 0, .plain⟩
def TIM_TRIG_STAT_FALLING : Fld := ⟨0xE0104, 21, 1, 0, 16, 0, .plain⟩
def TIM_TRIG_STAT_PENDING : Fld := ⟨0xE0104, 20, 1, 0, 16, 0, .plain⟩
def TIM_TRIG_STAT_SEC_HI : Fld := ⟨0xE0104, 0, 16, 0, 16, 0, .plain⟩
def TIM_TRIG_SEC_SEC : Fld := ⟨0xE0108, 0, 32, 0, 16, 0, .plain⟩
def TIM_TRIG_NS_NS : Fld := ⟨0xE010C, 0, 30, 0, 16, 0, .plain⟩

/-! RTC: block 0x0F -/
def RTC_SUBSEC_COUNT : Fld := ⟨0xF0000, 0, 15, 0, 0, 0, .plain⟩
def RTC_SEC_SEC : Fld := ⟨0xF0004, 0, 6, 0, 0, 0, .plain⟩
def RTC_MIN_MIN : Fld := ⟨0xF0008, 0, 6, 0, 0, 0, .plain⟩
def RTC_HOUR_HOUR : Fld := ⟨0xF000C, 0, 5, 0, 0, 0, .plain⟩
def RTC_DAY_WEEKDAY : Fld := ⟨0xF0010, 8, 3, 5, 0, 0, .plain⟩
def RTC_DAY_DAY : Fld := ⟨0xF0010, 0, 5, 1, 0, 0, .plain⟩
def RTC_MONTH_MONTH : Fld := ⟨0xF0014, 0, 4, 1, 0, 0, .plain⟩
def RTC_YEAR_YEAR : Fld := ⟨0xF0018, 0, 12, 2000, 0, 0, .plain⟩
def RTC_W_SEC_VAL : Fld := ⟨0xF0024, 0, 6, 0, 0, 0, .plain⟩
def RTC_W_MIN_VAL : Fld := ⟨0xF0028, 0, 6, 0, 0, 0, .plain⟩
def RTC_W_HOUR_VAL : Fld := ⟨0xF002C, 0, 5, 0, 0, 0, .plain⟩
def RTC_W_DAY_VAL : Fld := ⟨0xF0030, 0, 5, 0, 0, 0, .plain⟩
def RTC_W_MONTH_VAL : Fld := ⟨0xF0034, 0, 4, 0, 0, 0, .plain⟩
def RTC_W_YEAR_VAL : Fld := ⟨0xF0038, 0, 12, 0, 0, 0, .plain⟩
def RTC_COMMIT_GO : Fld := ⟨0xF0040, 31, 1, 0, 0, 0, .plain⟩
def RTC_TRIM_PULSES : Fld := ⟨0xF0044, 0, 11, 0, 0, 0, .plain⟩
def RTC_LEAP_MODE : Fld := ⟨0xF0048, 0, 2, 0, 0, 0, .plain⟩
def RTC_STAT_LOCKOUT : Fld := ⟨0xF004C, 5, 1, 0, 0, 0, .plain⟩
def RTC_STAT_FROZEN : Fld := ⟨0xF004C, 4, 1, 0, 0, 0, .plain⟩
def RTC_STAT_VBAT_LOW : Fld := ⟨0xF004C, 3, 1, 0, 0, 0, .plain⟩
def RTC_STAT_BAD_DATE : Fld := ⟨0xF004C, 2, 1, 0, 0, 0, .plain⟩
def RTC_STAT_DISCIPLINED : Fld := ⟨0xF004C, 1, 1, 0, 0, 0, .plain⟩
def RTC_STAT_OSF : Fld := ⟨0xF004C, 0, 1, 1, 0, 0, .plain⟩
def RTC_CFG_DISCIPLINE : Fld := ⟨0xF0050, 0, 1, 1, 0, 0, .plain⟩

/-! MTR: block 0x10 -/
def MTR_STAT_RUN : Fld := ⟨0x100000, 31, 1, 0, 0, 0, .plain⟩
def MTR_STAT_SUSPENDED : Fld := ⟨0x100000, 30, 1, 0, 0, 0, .plain⟩
def MTR_STAT_VALID : Fld := ⟨0x100000, 0, 4, 0, 0, 0, .plain⟩
def MTR_CFG_FD_EN : Fld := ⟨0x100004, 28, 4, 0, 0, 0, .plain⟩
def MTR_CFG_NOMF : Fld := ⟨0x100004, 27, 1, 0, 0, 0, .plain⟩
def MTR_CFG_SUBGROUP : Fld := ⟨0x100004, 26, 1, 0, 0, 0, .plain⟩
def MTR_CFG_PAIR_ADOPT : Fld := ⟨0x100004, 25, 1, 1, 0, 0, .plain⟩
def MTR_AGS_GLITCH : Fld := ⟨0x100008, 28, 4, 2, 0, 0, .plain⟩
def MTR_AGS_UPHOLD : Fld := ⟨0x100008, 0, 8, 20, 0, 0, .plain⟩
def MTR_SAVE_AGE : Fld := ⟨0x10000C, 16, 16, 0, 0, 0, .plain⟩
def MTR_SAVE_KIND : Fld := ⟨0x10000C, 15, 1, 0, 0, 0, .plain⟩
def MTR_SAVE_COPY : Fld := ⟨0x10000C, 14, 1, 0, 0, 0, .plain⟩
def MTR_LOSS_KIND : Fld := ⟨0x100010, 30, 2, 0, 0, 0, .plain⟩
def MTR_LOSS_UNSAVED : Fld := ⟨0x100010, 0, 30, 0, 0, 0, .plain⟩
def MTR_GAP_GAP : Fld := ⟨0x100014, 0, 32, 0, 0, 0, .plain⟩
def MTR_LOSS_EST_MWH : Fld := ⟨0x100018, 0, 32, 0, 4, 0, .plain⟩
def MTR_DEM_MIN : Fld := ⟨0x100028, 0, 8, 15, 0, 0, .plain⟩
def MTR_CNT_EST_FRAMES : Fld := ⟨0x10002C, 16, 16, 0, 0, 0, .plain⟩
def MTR_CNT_GAIN_SW : Fld := ⟨0x10002C, 0, 16, 0, 0, 0, .plain⟩
def MTR_CMD_CONFIRM : Fld := ⟨0x100030, 16, 16, 0, 0, 0, .plain⟩
def MTR_CMD_CODE : Fld := ⟨0x100030, 0, 8, 0, 0, 0, .plain⟩
def MTR_CMD_STAT_CODE : Fld := ⟨0x100034, 16, 8, 0, 0, 0, .plain⟩
def MTR_CMD_STAT_STATUS : Fld := ⟨0x100034, 0, 16, 0, 0, 0, .plain⟩
def MTR_ESEL_FEEDER : Fld := ⟨0x100038, 0, 2, 0, 0, 0, .plain⟩
def MTR_EWIN_WORD : Fld := ⟨0x100040, 0, 32, 0, 4, 0, .plain⟩
def MTR_CH_CFG_GAINMODE : Fld := ⟨0x100200, 31, 1, 0, 16, 0, .plain⟩
def MTR_CH_CFG_FIXGAIN : Fld := ⟨0x100200, 29, 2, 0, 16, 0, .plain⟩
def MTR_CH_CFG_DELAY : Fld := ⟨0x100200, 0, 12, 0, 16, 0, .plain⟩
def MTR_CH_FS_FS : Fld := ⟨0x100204, 0, 32, 1000, 16, 0, .plain⟩
def MTR_CH_CAL_GCORR : Fld := ⟨0x100208, 16, 16, 0, 16, 0, .plain⟩
def MTR_CH_CAL_OFFSET : Fld := ⟨0x100208, 0, 16, 0, 16, 0, .plain⟩
def MTR_CH_STAT_GAIN : Fld := ⟨0x10020C, 30, 2, 0, 16, 0, .plain⟩
def MTR_CH_STAT_SPARE : Fld := ⟨0x10020C, 29, 1, 0, 16, 0, .plain⟩
def MTR_CH_STAT_OVER : Fld := ⟨0x10020C, 28, 1, 0, 16, 0, .plain⟩
def MTR_CH_STAT_CLIPS : Fld := ⟨0x10020C, 0, 16, 0, 16, 0, .plain⟩
def MTR_FD_MAXDEM_W : Fld := ⟨0x100800, 0, 32, 0, 16, 0, .plain⟩
def MTR_FD_MAXT_LO_SEC : Fld := ⟨0x100804, 0, 32, 0, 16, 0, .plain⟩
def MTR_FD_MAXT_HI_SEC : Fld := ⟨0x100808, 0, 16, 0, 16, 0, .plain⟩
def MTR_ACC_LO_WIN : Fld := ⟨0x101000, 0, 32, 0, 256, 8, .plain⟩
def MTR_ACC_HI_TOP : Fld := ⟨0x101004, 8, 8, 0, 256, 8, .plain⟩
def MTR_ACC_HI_WRAP : Fld := ⟨0x101004, 0, 8, 0, 256, 8, .plain⟩
def MTR_PUL_CFG_EN : Fld := ⟨0x102000, 31, 1, 0, 16, 0, .plain⟩
def MTR_PUL_CFG_POL : Fld := ⟨0x102000, 30, 1, 0, 16, 0, .plain⟩
def MTR_PUL_CFG_FEEDERS : Fld := ⟨0x102000, 26, 4, 0, 16, 0, .plain⟩
def MTR_PUL_CFG_Q : Fld := ⟨0x102000, 22, 4, 0, 16, 0, .plain⟩
def MTR_PUL_CFG_WIDTH : Fld := ⟨0x102000, 0, 8, 20, 16, 0, .plain⟩
def MTR_PUL_CONST_CONST : Fld := ⟨0x102004, 0, 24, 1000, 16, 0, .plain⟩
def MTR_PUL_STAT_PENDING : Fld := ⟨0x102008, 16, 16, 0, 16, 0, .plain⟩
def MTR_PUL_STAT_OVERFLOW : Fld := ⟨0x102008, 0, 16, 0, 16, 0, .plain⟩

/-! CLB: block 0x11 -/
def CLB_STAT_TX : Fld := ⟨0x110000, 0, 4, 0, 0, 0, .plain⟩
def CLB_CFG_RETRY : Fld := ⟨0x110004, 0, 2, 1, 0, 0, .plain⟩
def CLB_PORT_STAT_DURATION : Fld := ⟨0x110010, 16, 16, 0, 16, 0, .plain⟩
def CLB_PORT_STAT_STATIONS : Fld := ⟨0x110010, 0, 6, 0, 16, 0, .plain⟩
def CLB_PORT_CNT_CRC_ERR : Fld := ⟨0x110014, 16, 16, 0, 16, 0, .plain⟩
def CLB_PORT_CNT_MISSED : Fld := ⟨0x110014, 0, 16, 0, 16, 0, .plain⟩
def CLB_STN_CFG_PRESENT : Fld := ⟨0x110100, 31, 1, 0, 8, 0, .plain⟩
def CLB_STN_CFG_WDOG : Fld := ⟨0x110100, 16, 8, 0, 8, 0, .plain⟩
def CLB_STN_CFG_OUT : Fld := ⟨0x110100, 8, 8, 0, 8, 0, .plain⟩
def CLB_STN_CFG_IN : Fld := ⟨0x110100, 0, 8, 0, 8, 0, .plain⟩
def CLB_STN_STAT_STATE : Fld := ⟨0x110104, 30, 2, 1, 8, 0, .plain⟩
def CLB_STN_STAT_STAT : Fld := ⟨0x110104, 0, 8, 0, 8, 0, .plain⟩

/-! DAL: block 0x12 -/
def DAL_LINE_CFG_EN : Fld := ⟨0x120010, 31, 1, 0, 16, 0, .plain⟩
def DAL_LINE_CFG_STOPARC : Fld := ⟨0x120010, 0, 8, 255, 16, 0, .plain⟩
def DAL_LINE_STAT_POWER : Fld := ⟨0x120014, 31, 1, 0, 16, 0, .plain⟩
def DAL_LINE_STAT_QUEUE : Fld := ⟨0x120014, 0, 6, 0, 16, 0, .plain⟩
def DAL_LINE_CNT_COLLISIONS : Fld := ⟨0x120018, 16, 16, 0, 16, 0, .plain⟩
def DAL_LINE_CNT_NOANSWER : Fld := ⟨0x120018, 0, 16, 0, 16, 0, .plain⟩

/-! ETH: block 0x13 -/
def ETH_STAT_LINK : Fld := ⟨0x130000, 0, 3, 0, 0, 0, .plain⟩
def ETH_CFG_STORM : Fld := ⟨0x130004, 0, 16, 2000, 0, 0, .plain⟩
def ETH_IF_IP_ADDR : Fld := ⟨0x130010, 0, 32, 0, 16, 0, .plain⟩
def ETH_IF_MASK_ADDR : Fld := ⟨0x130014, 0, 32, 0, 16, 0, .plain⟩
def ETH_IF_GW_ADDR : Fld := ⟨0x130018, 0, 32, 0, 16, 0, .plain⟩
def ETH_IF_VLAN_TAG : Fld := ⟨0x13001C, 31, 1, 0, 16, 0, .plain⟩
def ETH_IF_VLAN_PCP : Fld := ⟨0x13001C, 12, 3, 0, 16, 0, .plain⟩
def ETH_IF_VLAN_VID : Fld := ⟨0x13001C, 0, 12, 0, 16, 0, .plain⟩
def ETH_PCNT_DROPS : Fld := ⟨0x130040, 16, 16, 0, 4, 0, .plain⟩
def ETH_PCNT_RX_ERR : Fld := ⟨0x130040, 0, 16, 0, 4, 0, .plain⟩

/-! HXM: block 0x14 -/
def HXM_STAT_SPI : Fld := ⟨0x140000, 8, 8, 0, 0, 0, .plain⟩
def HXM_STAT_ETH : Fld := ⟨0x140000, 0, 8, 0, 0, 0, .plain⟩
def HXM_CFG_IDLE : Fld := ⟨0x140004, 0, 16, 600, 0, 0, .plain⟩
def HXM_CNT_HANDSHAKE_FAIL : Fld := ⟨0x140008, 24, 8, 0, 0, 0, .plain⟩
def HXM_CNT_BAD : Fld := ⟨0x140008, 16, 8, 0, 0, 0, .plain⟩
def HXM_CNT_DUPLICATE : Fld := ⟨0x140008, 8, 8, 0, 0, 0, .plain⟩
def HXM_CNT_STALE : Fld := ⟨0x140008, 0, 8, 0, 0, 0, .plain⟩
def HXM_HOST_CFG_EN : Fld := ⟨0x14000C, 31, 1, 0, 0, 0, .plain⟩
def HXM_HOST_CFG_ROLE : Fld := ⟨0x14000C, 8, 2, 0, 0, 0, .plain⟩
def HXM_HOST_CFG_KEYSLOT : Fld := ⟨0x14000C, 0, 8, 0, 0, 0, .plain⟩
def HXM_HOST_STAT_MAC_FAIL : Fld := ⟨0x140010, 16, 16, 0, 0, 0, .plain⟩
def HXM_HOST_STAT_CRC_FAIL : Fld := ⟨0x140010, 0, 16, 0, 0, 0, .plain⟩

/-! OBS: block 0x15 -/
def OBS_SEL_EN : Fld := ⟨0x150000, 31, 1, 0, 4, 0, .plain⟩
def OBS_SEL_GROUP : Fld := ⟨0x150000, 5, 4, 0, 4, 0, .plain⟩
def OBS_SEL_SIGNAL : Fld := ⟨0x150000, 0, 5, 0, 4, 0, .plain⟩

/-! SPL: block 0x16 -/
def SPL_STAT_LINK : Fld := ⟨0x160000, 30, 2, 0, 0, 0, .plain⟩
def SPL_STAT_SYNC : Fld := ⟨0x160000, 28, 2, 0, 0, 0, .plain⟩
def SPL_STAT_ROLE_IN : Fld := ⟨0x160000, 27, 1, 0, 0, 0, .plain⟩
def SPL_STAT_ROLE_OUT : Fld := ⟨0x160000, 26, 1, 0, 0, 0, .plain⟩
def SPL_STAT_PARTNER_HB : Fld := ⟨0x160000, 25, 1, 0, 0, 0, .plain⟩
def SPL_STAT_ELIGIBLE : Fld := ⟨0x160000, 24, 1, 0, 0, 0, .plain⟩
def SPL_STAT_PROTECTED : Fld := ⟨0x160000, 23, 1, 0, 0, 0, .plain⟩
def SPL_STAT_REASON : Fld := ⟨0x160000, 8, 8, 0, 0, 0, .plain⟩
def SPL_CFG_PAIR : Fld := ⟨0x160004, 31, 1, 0, 0, 0, .plain⟩
def SPL_CFG_UNIT : Fld := ⟨0x160004, 30, 1, 0, 0, 0, .plain⟩
def SPL_CFG_KEYSLOT : Fld := ⟨0x160004, 16, 8, 0, 0, 0, .plain⟩
def SPL_CFG_HBMISS : Fld := ⟨0x160004, 8, 8, 20, 0, 0, .plain⟩
def SPL_CFG_RESOLVE : Fld := ⟨0x160004, 0, 8, 20, 0, 0, .plain⟩
def SPL_VIP_ADDR : Fld := ⟨0x160008, 0, 32, 0, 0, 0, .plain⟩
def SPL_CMD_CONFIRM : Fld := ⟨0x16000C, 16, 16, 0, 0, 0, .plain⟩
def SPL_CMD_CODE : Fld := ⟨0x16000C, 0, 8, 0, 0, 0, .plain⟩
def SPL_CMD_STAT_CODE : Fld := ⟨0x160010, 16, 8, 0, 0, 0, .plain⟩
def SPL_CMD_STAT_STATUS : Fld := ⟨0x160010, 0, 16, 0, 0, 0, .plain⟩
def SPL_COPY_LAST : Fld := ⟨0x160014, 16, 16, 0, 0, 0, .plain⟩
def SPL_COPY_PEAK : Fld := ⟨0x160014, 0, 16, 0, 0, 0, .plain⟩
def SPL_CNT_TAKEOVERS : Fld := ⟨0x160018, 24, 8, 0, 0, 0, .plain⟩
def SPL_CNT_SWAPS : Fld := ⟨0x160018, 16, 8, 0, 0, 0, .plain⟩
def SPL_CNT_HB_LOSS : Fld := ⟨0x160018, 8, 8, 0, 0, 0, .plain⟩
def SPL_CNT_AUTH_FAIL : Fld := ⟨0x160018, 0, 8, 0, 0, 0, .plain⟩
def SPL_LAST_LO_FRAME : Fld := ⟨0x16001C, 0, 32, 0, 0, 0, .plain⟩
def SPL_LAST_HI_FRAME : Fld := ⟨0x160020, 0, 16, 0, 0, 0, .plain⟩
def SPL_PEER_MODE : Fld := ⟨0x160024, 29, 3, 0, 0, 0, .plain⟩
def SPL_PEER_ROLE : Fld := ⟨0x160024, 27, 2, 0, 0, 0, .plain⟩
def SPL_PEER_LIFE : Fld := ⟨0x160024, 24, 3, 0, 0, 0, .plain⟩
def SPL_PEER_COPYFMT : Fld := ⟨0x160024, 0, 16, 0, 0, 0, .plain⟩
def SPL_IDLE_HOURS : Fld := ⟨0x160028, 0, 32, 0, 0, 0, .plain⟩

/-! UPD: block 0x17 -/
def UPD_STAT_STATE : Fld := ⟨0x170000, 28, 4, 0, 0, 0, .plain⟩
def UPD_STAT_ACTIVE : Fld := ⟨0x170000, 27, 1, 0, 0, 0, .plain⟩
def UPD_STAT_PROGRESS : Fld := ⟨0x170000, 16, 8, 0, 0, 0, .plain⟩
def UPD_STAT_STATUS : Fld := ⟨0x170000, 0, 16, 0, 0, 0, .plain⟩
def UPD_CFG_CONFIRM : Fld := ⟨0x170004, 0, 16, 3600, 0, 0, .plain⟩
def UPD_CMD_CONFIRM : Fld := ⟨0x170008, 16, 16, 0, 0, 0, .plain⟩
def UPD_CMD_CODE : Fld := ⟨0x170008, 0, 8, 0, 0, 0, .plain⟩
def UPD_CMD_STAT_CODE : Fld := ⟨0x17000C, 16, 8, 0, 0, 0, .plain⟩
def UPD_CMD_STAT_STATUS : Fld := ⟨0x17000C, 0, 16, 0, 0, 0, .plain⟩
def UPD_SECVER_SECVER : Fld := ⟨0x170010, 0, 8, 0, 0, 0, .plain⟩
def UPD_BANK_STATE_STATE : Fld := ⟨0x170040, 0, 3, 0, 16, 0, .plain⟩
def UPD_BANK_VER_VERSION : Fld := ⟨0x170044, 0, 32, 0, 16, 0, .plain⟩
def UPD_BANK_GEN_GEN : Fld := ⟨0x170048, 0, 32, 0, 16, 0, .plain⟩
def UPD_BANK_SEC_COPYFMT : Fld := ⟨0x17004C, 0, 16, 0, 16, 0, .plain⟩
def UPD_BANK_SEC_SECVER : Fld := ⟨0x17004C, 24, 8, 0, 16, 0, .plain⟩

/-! KEY: block 0x18 -/
def KEY_STAT_KILLED : Fld := ⟨0x180000, 31, 1, 0, 0, 0, .plain⟩
def KEY_STAT_LATCH : Fld := ⟨0x180000, 30, 1, 0, 0, 0, .plain⟩
def KEY_STAT_ROOT : Fld := ⟨0x180000, 28, 2, 0, 0, 0, .plain⟩
def KEY_STAT_ROWS : Fld := ⟨0x180000, 26, 2, 0, 0, 0, .plain⟩
def KEY_STAT_KAT_OK : Fld := ⟨0x180000, 25, 1, 0, 0, 0, .plain⟩
def KEY_STAT_CACHED : Fld := ⟨0x180000, 16, 8, 0, 0, 0, .plain⟩
def KEY_STAT_SLOTS : Fld := ⟨0x180000, 0, 9, 0, 0, 0, .plain⟩
def KEY_CMD_CONFIRM : Fld := ⟨0x180004, 16, 16, 0, 0, 0, .plain⟩
def KEY_CMD_CODE : Fld := ⟨0x180004, 0, 8, 0, 0, 0, .plain⟩
def KEY_CMD_STAT_CODE : Fld := ⟨0x180008, 16, 8, 0, 0, 0, .plain⟩
def KEY_CMD_STAT_STATUS : Fld := ⟨0x180008, 0, 16, 0, 0, 0, .plain⟩
def KEY_ARG_SLOT : Fld := ⟨0x18000C, 24, 8, 0, 0, 0, .plain⟩
def KEY_ARG_PARENT : Fld := ⟨0x18000C, 16, 8, 0, 0, 0, .plain⟩
def KEY_ARG_FROM_ROOT : Fld := ⟨0x18000C, 15, 1, 0, 0, 0, .plain⟩
def KEY_NEWATTR_ATTR : Fld := ⟨0x180010, 0, 32, 0, 0, 0, .plain⟩
def KEY_NEWUSE_USES : Fld := ⟨0x180014, 0, 16, 0, 0, 0, .plain⟩
def KEY_LABEL_OCT : Fld := ⟨0x180020, 0, 32, 0, 4, 0, .plain⟩
def KEY_IN_OCT : Fld := ⟨0x180100, 0, 32, 0, 4, 0, .plain⟩
def KEY_OUT_OCT : Fld := ⟨0x180200, 0, 32, 0, 4, 0, .plain⟩
def KEY_SLOT_ATTR_KIND : Fld := ⟨0x181000, 29, 3, 0, 8, 0, .plain⟩
def KEY_SLOT_ATTR_MASTER : Fld := ⟨0x181000, 24, 5, 0, 8, 0, .plain⟩
def KEY_SLOT_ATTR_PAIRCORE : Fld := ⟨0x181000, 23, 1, 0, 8, 0, .plain⟩
def KEY_SLOT_ATTR_WORLD : Fld := ⟨0x181000, 21, 2, 0, 8, 0, .plain⟩
def KEY_SLOT_ATTR_LIFE : Fld := ⟨0x181000, 16, 5, 0, 8, 0, .plain⟩
def KEY_SLOT_ATTR_USE : Fld := ⟨0x181000, 9, 7, 0, 8, 0, .plain⟩
def KEY_SLOT_ATTR_DEPTH : Fld := ⟨0x181000, 5, 4, 0, 8, 0, .plain⟩
def KEY_SLOT_ATTR_FALLBACK : Fld := ⟨0x181000, 3, 2, 0, 8, 0, .plain⟩
def KEY_SLOT_ATTR_SIZE : Fld := ⟨0x181000, 0, 3, 0, 8, 0, .plain⟩
def KEY_SLOT_USE_ROOTED : Fld := ⟨0x181004, 31, 1, 0, 8, 0, .plain⟩
def KEY_SLOT_USE_PARENT : Fld := ⟨0x181004, 16, 8, 0, 8, 0, .plain⟩
def KEY_SLOT_USE_USES : Fld := ⟨0x181004, 0, 16, 0, 8, 0, .plain⟩

/-! LOG: block 0x19 -/
def LOG_STAT_HELD : Fld := ⟨0x190000, 0, 17, 0, 0, 0, .plain⟩
def LOG_NEWEST_ACC : Fld := ⟨0x190004, 0, 32, 0, 0, 0, .plain⟩
def LOG_CNT_DROPPED : Fld := ⟨0x190008, 16, 16, 0, 0, 0, .plain⟩
def LOG_CNT_QDROP : Fld := ⟨0x190008, 8, 8, 0, 0, 0, .plain⟩
def LOG_CNT_TORN : Fld := ⟨0x190008, 0, 8, 0, 0, 0, .plain⟩
def LOG_SEV0_CRIT : Fld := ⟨0x19000C, 16, 16, 0, 0, 0, .plain⟩
def LOG_SEV0_ERROR : Fld := ⟨0x19000C, 0, 16, 0, 0, 0, .plain⟩
def LOG_SEV1_WARN : Fld := ⟨0x190010, 16, 16, 0, 0, 0, .plain⟩
def LOG_SEV1_INFO : Fld := ⟨0x190010, 0, 16, 0, 0, 0, .plain⟩
def LOG_OPTIME_LO_MS : Fld := ⟨0x190014, 0, 32, 0, 0, 0, .plain⟩
def LOG_OPTIME_HI_MS : Fld := ⟨0x190018, 0, 16, 0, 0, 0, .plain⟩
def LOG_PWRCYC_COUNT : Fld := ⟨0x19001C, 0, 32, 0, 0, 0, .plain⟩
def LOG_SEL_ACC : Fld := ⟨0x190020, 0, 32, 0, 0, 0, .plain⟩
def LOG_WIN_WORD : Fld := ⟨0x190040, 0, 32, 0, 4, 0, .plain⟩
def LOG_VIT_CFG_POST : Fld := ⟨0x190100, 8, 8, 50, 0, 0, .plain⟩
def LOG_VIT_CFG_TRIG : Fld := ⟨0x190100, 0, 5, 15, 0, 0, .plain⟩
def LOG_VIT_STAT_FROZEN : Fld := ⟨0x190104, 31, 1, 0, 0, 0, .plain⟩
def LOG_VIT_STAT_TRIGGER : Fld := ⟨0x190104, 28, 3, 0, 0, 0, .plain⟩
def LOG_VIT_STAT_NEWEST : Fld := ⟨0x190104, 12, 12, 0, 0, 0, .plain⟩
def LOG_VIT_STAT_MISSED : Fld := ⟨0x190104, 0, 8, 0, 0, 0, .plain⟩
def LOG_VIT_CMD_CODE : Fld := ⟨0x190108, 0, 8, 0, 0, 0, .plain⟩
def LOG_VIT_FRAME_LO_FRAME : Fld := ⟨0x19010C, 0, 32, 0, 0, 0, .plain⟩
def LOG_VIT_FRAME_HI_FRAME : Fld := ⟨0x190110, 0, 16, 0, 0, 0, .plain⟩

/-! BST: block 0x1A -/
def BST_STAT_LAST : Fld := ⟨0x1A0000, 30, 2, 0, 0, 0, .plain⟩
def BST_STAT_REPAIRED : Fld := ⟨0x1A0000, 29, 1, 0, 0, 0, .plain⟩
def BST_STAT_FAILED : Fld := ⟨0x1A0000, 28, 1, 0, 0, 0, .plain⟩
def BST_STAT_DURATION : Fld := ⟨0x1A0000, 0, 16, 0, 0, 0, .plain⟩
def BST_FAIL_ITEMS : Fld := ⟨0x1A0004, 0, 14, 0, 0, 0, .plain⟩
def BST_CMD_CONFIRM : Fld := ⟨0x1A0008, 16, 16, 0, 0, 0, .plain⟩
def BST_CMD_CODE : Fld := ⟨0x1A0008, 0, 8, 0, 0, 0, .plain⟩
def BST_CMD_STAT_CODE : Fld := ⟨0x1A000C, 16, 8, 0, 0, 0, .plain⟩
def BST_CMD_STAT_STATUS : Fld := ⟨0x1A000C, 0, 16, 0, 0, 0, .plain⟩
def BST_MOD_EN1 : Fld := ⟨0x1A0010, 31, 1, 0, 0, 0, .plain⟩
def BST_MOD_EN0 : Fld := ⟨0x1A0010, 15, 1, 0, 0, 0, .plain⟩
def BST_MOD_FUSED1 : Fld := ⟨0x1A0010, 30, 1, 0, 0, 0, .plain⟩
def BST_MOD_FUSED0 : Fld := ⟨0x1A0010, 14, 1, 0, 0, 0, .plain⟩
def BST_MOD_CH1 : Fld := ⟨0x1A0010, 24, 5, 0, 0, 0, .plain⟩
def BST_MOD_CH0 : Fld := ⟨0x1A0010, 8, 5, 0, 0, 0, .plain⟩
def BST_GROWS_FUSED : Fld := ⟨0x1A0040, 4, 4, 0, 4, 0, .plain⟩
def BST_GROWS_USED : Fld := ⟨0x1A0040, 0, 4, 0, 4, 0, .plain⟩
def BST_EROWS_FUSED : Fld := ⟨0x1A0080, 2, 2, 0, 4, 0, .plain⟩
def BST_EROWS_USED : Fld := ⟨0x1A0080, 0, 2, 0, 4, 0, .plain⟩

end Sys2Proof.Machine.F
end

