-- ==== Sys2Proof/Machine/RegTable.lean ====
section
/-!
DEFINITION. The register tables of spec/ as data: for each register its instances, and for each field its access code
(Table 00.5), whether reset keeps it (`ret`, `Fuse`, `Factory`), and the plain range its Meaning column states. Checks that
look at more than one field stand in Machine/Registers.lean.
-/
namespace Sys2Proof.Machine

def regsSys : List RegDesc := [
  ⟨"SYS_MODE", 0x0, 0, 1, 0, 1, [
    ⟨F.SYS_MODE_DETAIL, .ro, false, none⟩,
    ⟨F.SYS_MODE_CAUSE, .ro, false, none⟩,
    ⟨F.SYS_MODE_PREV, .ro, false, none⟩,
    ⟨F.SYS_MODE_MODE, .ro, false, none⟩]⟩,
  ⟨"SYS_ROLE", 0x4, 0, 1, 0, 1, [
    ⟨F.SYS_ROLE_ROLE, .ro, false, none⟩]⟩,
  ⟨"SYS_LIFE", 0x8, 0, 1, 0, 1, [
    ⟨F.SYS_LIFE_STATE, .ro, false, none⟩]⟩,
  ⟨"SYS_CMD", 0xC, 0, 1, 0, 1, [
    ⟨F.SYS_CMD_CONFIRM, .wo, false, none⟩,
    ⟨F.SYS_CMD_CODE, .wo, false, none⟩]⟩,
  ⟨"SYS_CMD_STAT", 0x10, 0, 1, 0, 1, [
    ⟨F.SYS_CMD_STAT_CODE, .ro, false, none⟩,
    ⟨F.SYS_CMD_STAT_STATUS, .ro, false, none⟩]⟩,
  ⟨"SYS_BOOT", 0x14, 0, 1, 0, 1, [
    ⟨F.SYS_BOOT_TIME_WAIT, .rw, true, none⟩,
    ⟨F.SYS_BOOT_RUN_UNALIGNED, .rw, true, none⟩,
    ⟨F.SYS_BOOT_AUTORUN, .rw, true, none⟩]⟩,
  ⟨"SYS_START", 0x18, 0, 1, 0, 1, [
    ⟨F.SYS_START_DURATION, .ro, false, none⟩,
    ⟨F.SYS_START_BANK, .ro, false, none⟩,
    ⟨F.SYS_START_BIST_STALE, .ro, false, none⟩,
    ⟨F.SYS_START_ORDERLY_PREV, .ro, false, none⟩,
    ⟨F.SYS_START_KIND, .ro, false, none⟩]⟩,
  ⟨"SYS_SERIAL0", 0x20, 0, 1, 0, 1, [
    ⟨F.SYS_SERIAL0_CHARS, .ro, true, none⟩]⟩,
  ⟨"SYS_SERIAL1", 0x24, 0, 1, 0, 1, [
    ⟨F.SYS_SERIAL1_CHARS, .ro, true, none⟩]⟩,
  ⟨"SYS_SERIAL2", 0x28, 0, 1, 0, 1, [
    ⟨F.SYS_SERIAL2_CHARS, .ro, true, none⟩]⟩,
  ⟨"SYS_REV", 0x2C, 0, 1, 0, 1, [
    ⟨F.SYS_REV_GRADE, .ro, true, none⟩,
    ⟨F.SYS_REV_REV, .ro, false, none⟩]⟩]

def regsGal : List RegDesc := [
  ⟨"GAL_LFSR", 0x10000, 0, 1, 0, 1, [
    ⟨F.GAL_LFSR_STATE, .lck [.stop, .recovery], false, none⟩]⟩,
  ⟨"GAL_ECC", 0x10004, 0, 1, 0, 1, [
    ⟨F.GAL_ECC_DMA_REFUSED, .rc, false, none⟩,
    ⟨F.GAL_ECC_UNCORR, .rc, false, none⟩,
    ⟨F.GAL_ECC_CORR, .rc, false, none⟩]⟩,
  ⟨"GAL_TKT", 0x10100, 32, 16, 4, 7, [
    ⟨F.GAL_TKT_TKT3, .lck [.stop], false, none⟩,
    ⟨F.GAL_TKT_TKT2, .lck [.stop], false, none⟩,
    ⟨F.GAL_TKT_TKT1, .lck [.stop], false, none⟩,
    ⟨F.GAL_TKT_TKT0, .lck [.stop], false, none⟩]⟩,
  ⟨"GAL_BSTAT", 0x10400, 4, 16, 0, 1, [
    ⟨F.GAL_BSTAT_DENIED, .rc, false, none⟩,
    ⟨F.GAL_BSTAT_MAXWAIT, .rc, false, none⟩]⟩,
  ⟨"GAL_WAITMAX", 0x10600, 4, 28, 0, 1, [
    ⟨F.GAL_WAITMAX_MAXWAIT, .rc, false, none⟩]⟩,
  ⟨"GAL_SESS_SUM0", 0x18000, 0, 1, 0, 1, [
    ⟨F.GAL_SESS_SUM0_MGMT, .ro, false, none⟩,
    ⟨F.GAL_SESS_SUM0_ROVER, .ro, false, none⟩]⟩,
  ⟨"GAL_SESS_SUM1", 0x18004, 0, 1, 0, 1, [
    ⟨F.GAL_SESS_SUM1_NODEUPD, .ro, false, none⟩,
    ⟨F.GAL_SESS_SUM1_HOST, .ro, false, none⟩]⟩,
  ⟨"GAL_SESS_QUOTA", 0x18010, 4, 4, 0, 1, [
    ⟨F.GAL_SESS_QUOTA_MAX, .lck [.stop], false, none⟩,
    ⟨F.GAL_SESS_QUOTA_MIN, .lck [.stop], false, none⟩]⟩,
  ⟨"GAL_SESS_STATE", 0x1A000, 16, 512, 0, 1, [
    ⟨F.GAL_SESS_STATE_TYPE, .ro, false, none⟩,
    ⟨F.GAL_SESS_STATE_STATE, .ro, false, none⟩,
    ⟨F.GAL_SESS_STATE_PEER, .ro, false, none⟩]⟩,
  ⟨"GAL_SESS_KEY", 0x1A004, 16, 512, 0, 1, [
    ⟨F.GAL_SESS_KEY_SLOT, .ro, false, none⟩]⟩,
  ⟨"GAL_SESS_SEQ", 0x1A008, 16, 512, 0, 1, [
    ⟨F.GAL_SESS_SEQ_HIGH, .ro, false, none⟩]⟩,
  ⟨"GAL_SESS_WIN", 0x1A00C, 16, 512, 0, 1, [
    ⟨F.GAL_SESS_WIN_CACHED, .ro, false, none⟩,
    ⟨F.GAL_SESS_WIN_PENDING, .ro, false, none⟩]⟩]

def regsSem : List RegDesc := [
  ⟨"SEM_SEMn", 0x20000, 4, 128, 0, 1, [
    ⟨F.SEM_SEMn_GRANTED, .ro, false, none⟩,
    ⟨F.SEM_SEMn_HELD, .ro, false, none⟩,
    ⟨F.SEM_SEMn_ABANDONED, .ro, false, none⟩,
    ⟨F.SEM_SEMn_OWNER, .ro, false, none⟩]⟩,
  ⟨"SEM_PEEKn", 0x20400, 4, 128, 0, 1, [
    ⟨F.SEM_PEEKn_WORD, .ro, false, none⟩]⟩,
  ⟨"SEM_FORCE", 0x20800, 0, 1, 0, 1, [
    ⟨F.SEM_FORCE_GO, .lck [.stop, .hold], false, none⟩,
    ⟨F.SEM_FORCE_INDEX, .lck [.stop, .hold], false, none⟩]⟩,
  ⟨"SEM_ERR", 0x20804, 0, 1, 0, 1, [
    ⟨F.SEM_ERR_ABANDONS, .rc, false, none⟩,
    ⟨F.SEM_ERR_FOREIGN, .rc, false, none⟩]⟩]

def regsFif : List RegDesc := [
  ⟨"FIF_PUSH_LO", 0x30000, 64, 64, 0, 1, [
    ⟨F.FIF_PUSH_LO_DATA, .wo, false, none⟩]⟩,
  ⟨"FIF_PUSH_HI", 0x30004, 64, 64, 0, 1, [
    ⟨F.FIF_PUSH_HI_DATA, .wo, false, none⟩]⟩,
  ⟨"FIF_PUSH_HI_END", 0x30008, 64, 64, 0, 1, [
    ⟨F.FIF_PUSH_HI_END_DATA, .wo, false, none⟩]⟩,
  ⟨"FIF_POP_LO", 0x30010, 64, 64, 0, 1, [
    ⟨F.FIF_POP_LO_DATA, .ro, false, none⟩]⟩,
  ⟨"FIF_POP_HI", 0x30014, 64, 64, 0, 1, [
    ⟨F.FIF_POP_HI_DATA, .ro, false, none⟩]⟩,
  ⟨"FIF_CMD", 0x30018, 64, 64, 0, 1, [
    ⟨F.FIF_CMD_FLUSH, .wo, false, none⟩,
    ⟨F.FIF_CMD_DROP_PACKET, .wo, false, none⟩]⟩,
  ⟨"FIF_STAT", 0x30020, 64, 64, 0, 1, [
    ⟨F.FIF_STAT_DEPTH, .ro, false, none⟩,
    ⟨F.FIF_STAT_PRODUCER_RESET, .rws, false, none⟩,
    ⟨F.FIF_STAT_FOREIGN, .rws, false, none⟩,
    ⟨F.FIF_STAT_OVERFLOW, .rws, false, none⟩,
    ⟨F.FIF_STAT_UNDERRUN, .rws, false, none⟩,
    ⟨F.FIF_STAT_DROPPING, .ro, false, none⟩,
    ⟨F.FIF_STAT_LAST_TAG, .ro, false, none⟩,
    ⟨F.FIF_STAT_FULL, .ro, false, none⟩,
    ⟨F.FIF_STAT_EMPTY, .ro, false, none⟩]⟩,
  ⟨"FIF_CFG", 0x30024, 64, 64, 0, 1, [
    ⟨F.FIF_CFG_ENABLE, .rw, false, none⟩,
    ⟨F.FIF_CFG_SIZE, .rw, false, some (0, 2)⟩,
    ⟨F.FIF_CFG_CONSUMER, .rw, false, none⟩,
    ⟨F.FIF_CFG_PRODUCER, .rw, false, none⟩]⟩,
  ⟨"FIF_PTR", 0x30028, 64, 64, 0, 1, [
    ⟨F.FIF_PTR_WPTR, .ro, false, none⟩,
    ⟨F.FIF_PTR_RPTR, .ro, false, none⟩]⟩]

def regsFrm : List RegDesc := [
  ⟨"FRM_NUM_LO", 0x40000, 0, 1, 0, 1, [
    ⟨F.FRM_NUM_LO_NUM, .ro, false, none⟩]⟩,
  ⟨"FRM_NUM_HI", 0x40004, 0, 1, 0, 1, [
    ⟨F.FRM_NUM_HI_NUM, .ro, false, none⟩]⟩,
  ⟨"FRM_PHASE", 0x40008, 0, 1, 0, 1, [
    ⟨F.FRM_PHASE_SF_PHASE, .ro, false, none⟩,
    ⟨F.FRM_PHASE_OFFSET, .ro, false, none⟩]⟩,
  ⟨"FRM_STAT", 0x4000C, 0, 1, 0, 1, [
    ⟨F.FRM_STAT_REALIGNS, .ro, false, none⟩,
    ⟨F.FRM_STAT_BACKWARD, .rws, false, none⟩,
    ⟨F.FRM_STAT_TRANSITIONAL, .ro, false, none⟩,
    ⟨F.FRM_STAT_ALIGNED, .ro, false, none⟩]⟩,
  ⟨"FRM_REALIGN_OLD_LO", 0x40010, 0, 1, 0, 1, [
    ⟨F.FRM_REALIGN_OLD_LO_NUM, .ro, false, none⟩]⟩,
  ⟨"FRM_REALIGN_OLD_HI", 0x40014, 0, 1, 0, 1, [
    ⟨F.FRM_REALIGN_OLD_HI_NUM, .ro, false, none⟩]⟩,
  ⟨"FRM_REALIGN_NEW_LO", 0x40018, 0, 1, 0, 1, [
    ⟨F.FRM_REALIGN_NEW_LO_NUM, .ro, false, none⟩]⟩,
  ⟨"FRM_REALIGN_NEW_HI", 0x4001C, 0, 1, 0, 1, [
    ⟨F.FRM_REALIGN_NEW_HI_NUM, .ro, false, none⟩]⟩,
  ⟨"FRM_DLAST", 0x40020, 0, 1, 0, 1, [
    ⟨F.FRM_DLAST_CLASS, .ro, false, none⟩,
    ⟨F.FRM_DLAST_ENGINE, .ro, false, none⟩,
    ⟨F.FRM_DLAST_FRAME, .ro, false, none⟩]⟩,
  ⟨"FRM_DCLS_LIMIT", 0x40100, 16, 10, 0, 1, [
    ⟨F.FRM_DCLS_LIMIT_LIMIT, .lck [.stop], false, none⟩]⟩,
  ⟨"FRM_DCLS_CONSEC", 0x40104, 16, 10, 0, 1, [
    ⟨F.FRM_DCLS_CONSEC_CONSEC, .ro, false, none⟩]⟩,
  ⟨"FRM_DCLS_TOTAL", 0x40108, 16, 10, 0, 1, [
    ⟨F.FRM_DCLS_TOTAL_TOTAL, .rc, false, none⟩]⟩,
  ⟨"FRM_DCLS_DEADLINE", 0x4010C, 16, 10, 0, 1, [
    ⟨F.FRM_DCLS_DEADLINE_DEADLINE, .lck [.stop], true, none⟩]⟩]

def regsPlx : List RegDesc := [
  ⟨"PLX_STAT", 0x50000, 0, 1, 0, 1, [
    ⟨F.PLX_STAT_SECT_MASK, .ro, false, none⟩,
    ⟨F.PLX_STAT_BANK, .ro, false, none⟩,
    ⟨F.PLX_STAT_PROG_VALID, .ro, false, none⟩,
    ⟨F.PLX_STAT_RUNNING, .ro, false, none⟩,
    ⟨F.PLX_STAT_HALTED, .ro, false, none⟩,
    ⟨F.PLX_STAT_SHORT, .ro, false, none⟩,
    ⟨F.PLX_STAT_FORCES, .ro, false, none⟩,
    ⟨F.PLX_STAT_RETAIN_LOST, .rws, false, none⟩]⟩,
  ⟨"PLX_CYCLE", 0x50004, 0, 1, 0, 1, [
    ⟨F.PLX_CYCLE_FORCE_CNT, .ro, false, none⟩,
    ⟨F.PLX_CYCLE_LEN, .ro, false, none⟩]⟩,
  ⟨"PLX_CYCNUM", 0x50008, 0, 1, 0, 1, [
    ⟨F.PLX_CYCNUM_COUNT, .ro, false, none⟩]⟩,
  ⟨"PLX_SKIP", 0x5000C, 0, 1, 0, 1, [
    ⟨F.PLX_SKIP_LIMIT, .lck [.stop], false, some (1, 15)⟩,
    ⟨F.PLX_SKIP_CONSEC, .ro, false, none⟩,
    ⟨F.PLX_SKIP_TOTAL, .rc, false, none⟩]⟩,
  ⟨"PLX_LASTC", 0x50010, 0, 1, 0, 1, [
    ⟨F.PLX_LASTC_LATEST, .ro, false, none⟩,
    ⟨F.PLX_LASTC_SPAN, .ro, false, none⟩]⟩,
  ⟨"PLX_PEAK", 0x50014, 0, 1, 0, 1, [
    ⟨F.PLX_PEAK_SPAN, .rc, false, none⟩]⟩,
  ⟨"PLX_RETAIN", 0x50018, 0, 1, 0, 1, [
    ⟨F.PLX_RETAIN_EVERY, .lck [.stop], false, some (1, 100)⟩,
    ⟨F.PLX_RETAIN_WORDS, .ro, false, none⟩]⟩,
  ⟨"PLX_RETAIN_AGE", 0x5001C, 0, 1, 0, 1, [
    ⟨F.PLX_RETAIN_AGE_AGE, .ro, false, none⟩]⟩,
  ⟨"PLX_SECT_STATE", 0x50040, 16, 4, 0, 1, [
    ⟨F.PLX_SECT_STATE_STATE, .ro, false, none⟩,
    ⟨F.PLX_SECT_STATE_BANK, .ro, false, none⟩,
    ⟨F.PLX_SECT_STATE_PC, .ro, false, none⟩]⟩,
  ⟨"PLX_SECT_FOREIGN", 0x50044, 16, 4, 0, 1, [
    ⟨F.PLX_SECT_FOREIGN_COUNT, .rc, false, none⟩]⟩,
  ⟨"PLX_SECT_ENDAT", 0x50048, 16, 4, 0, 1, [
    ⟨F.PLX_SECT_ENDAT_US, .ro, false, none⟩]⟩,
  ⟨"PLX_CHG", 0x50100, 0, 1, 0, 1, [
    ⟨F.PLX_CHG_STATE, .ro, false, none⟩,
    ⟨F.PLX_CHG_OWNER, .ro, false, none⟩,
    ⟨F.PLX_CHG_STATUS, .ro, false, none⟩]⟩,
  ⟨"PLX_CHG_REP0", 0x50104, 0, 1, 0, 1, [
    ⟨F.PLX_CHG_REP0_CARRIED, .ro, false, none⟩]⟩,
  ⟨"PLX_CHG_REP1", 0x50108, 0, 1, 0, 1, [
    ⟨F.PLX_CHG_REP1_RETYPED, .ro, false, none⟩,
    ⟨F.PLX_CHG_REP1_REMOVED, .ro, false, none⟩]⟩,
  ⟨"PLX_CHG_REP2", 0x5010C, 0, 1, 0, 1, [
    ⟨F.PLX_CHG_REP2_FORCES_DROPPED, .ro, false, none⟩,
    ⟨F.PLX_CHG_REP2_FORCES_KEPT, .ro, false, none⟩]⟩,
  ⟨"PLX_CHG_REP3", 0x50110, 0, 1, 0, 1, [
    ⟨F.PLX_CHG_REP3_CARRY_US, .ro, false, none⟩]⟩,
  ⟨"PLX_DBG", 0x50200, 0, 1, 0, 1, [
    ⟨F.PLX_DBG_STEP, .wo, false, none⟩,
    ⟨F.PLX_DBG_SECT, .rw, false, none⟩,
    ⟨F.PLX_DBG_HIT, .ro, false, none⟩]⟩,
  ⟨"PLX_BRK", 0x50210, 32, 4, 4, 8, [
    ⟨F.PLX_BRK_EN, .lck [.run, .stop, .hold], false, none⟩,
    ⟨F.PLX_BRK_ADDR, .lck [.run, .stop, .hold], false, none⟩]⟩]

def regsLgt : List RegDesc := [
  ⟨"LGT_STAT", 0x60000, 0, 1, 0, 1, [
    ⟨F.LGT_STAT_PLANE, .ro, false, none⟩,
    ⟨F.LGT_STAT_EPOCH, .ro, true, none⟩,
    ⟨F.LGT_STAT_TOD, .ro, false, none⟩,
    ⟨F.LGT_STAT_LANYARD, .ro, false, none⟩,
    ⟨F.LGT_STAT_EMERG, .ro, false, none⟩,
    ⟨F.LGT_STAT_RESYNC, .ro, false, none⟩]⟩,
  ⟨"LGT_LEAD", 0x60004, 0, 1, 0, 1, [
    ⟨F.LGT_LEAD_FAST, .lck [.stop], false, some (20, 1000)⟩,
    ⟨F.LGT_LEAD_FRAMES, .lck [.stop], false, some (20, 1000)⟩]⟩,
  ⟨"LGT_GRACE", 0x60008, 0, 1, 0, 1, [
    ⟨F.LGT_GRACE_TRIES, .lck [.stop], false, some (1, 15)⟩,
    ⟨F.LGT_GRACE_CATCHUP, .lck [.stop], false, some (3, 20)⟩,
    ⟨F.LGT_GRACE_GRACE, .lck [.stop], false, some (1, 63)⟩]⟩,
  ⟨"LGT_CONF", 0x6000C, 0, 1, 0, 1, [
    ⟨F.LGT_CONF_WAIT, .rw, false, some (100, 6000)⟩]⟩,
  ⟨"LGT_COMP", 0x60010, 0, 1, 0, 1, [
    ⟨F.LGT_COMP_TEMP_AGE, .rw, false, some (10, 3600)⟩,
    ⟨F.LGT_COMP_DEADBAND, .rw, false, none⟩]⟩,
  ⟨"LGT_RAMP", 0x60014, 0, 1, 0, 1, [
    ⟨F.LGT_RAMP_STEP, .lck [.stop], false, some (10, 4095)⟩]⟩,
  ⟨"LGT_TZ", 0x60018, 0, 1, 0, 1, [
    ⟨F.LGT_TZ_OFFSET, .rw, true, some (-840, 840)⟩]⟩,
  ⟨"LGT_FB", 0x6001C, 0, 1, 0, 1, [
    ⟨F.LGT_FB_TEMP_BAND, .rw, false, some (1, 40)⟩,
    ⟨F.LGT_FB_AFTER, .rw, false, some (100, 6000)⟩]⟩,
  ⟨"LGT_CNT0", 0x60020, 0, 1, 0, 1, [
    ⟨F.LGT_CNT0_COMMITS, .rc, false, none⟩]⟩,
  ⟨"LGT_CNT1", 0x60024, 0, 1, 0, 1, [
    ⟨F.LGT_CNT1_WITHDRAWN, .rc, false, none⟩,
    ⟨F.LGT_CNT1_XOVER, .rc, false, none⟩,
    ⟨F.LGT_CNT1_DEFERRED, .rc, false, none⟩]⟩,
  ⟨"LGT_CNT2", 0x60030, 0, 1, 0, 1, [
    ⟨F.LGT_CNT2_CATCHUPS, .rc, false, none⟩]⟩,
  ⟨"LGT_NODES", 0x60028, 0, 1, 0, 1, [
    ⟨F.LGT_NODES_STUCK, .ro, false, none⟩,
    ⟨F.LGT_NODES_DISC, .ro, false, none⟩]⟩,
  ⟨"LGT_RCP", 0x6002C, 0, 1, 0, 1, [
    ⟨F.LGT_RCP_SWITCH_PENDING, .ro, false, none⟩,
    ⟨F.LGT_RCP_STATUS, .ro, false, none⟩]⟩,
  ⟨"LGT_EVAC", 0x60040, 4, 4, 0, 1, [
    ⟨F.LGT_EVAC_CH_HI, .rw, false, none⟩,
    ⟨F.LGT_EVAC_CH_LO, .rw, false, none⟩]⟩,
  ⟨"LGT_NSEL", 0x60080, 0, 1, 0, 1, [
    ⟨F.LGT_NSEL_NODE, .rw, false, none⟩]⟩,
  ⟨"LGT_NWIN", 0x60100, 4, 32, 0, 1, [
    ⟨F.LGT_NWIN_WORD, .ro, false, none⟩]⟩,
  ⟨"LGT_SSEL", 0x60180, 0, 1, 0, 1, [
    ⟨F.LGT_SSEL_NODE, .rw, false, none⟩]⟩,
  ⟨"LGT_SWIN", 0x60200, 4, 40, 0, 1, [
    ⟨F.LGT_SWIN_WORD, .ro, false, none⟩]⟩,
  ⟨"LGT_CSEL", 0x60300, 0, 1, 0, 1, [
    ⟨F.LGT_CSEL_WRITE, .wo, false, none⟩,
    ⟨F.LGT_CSEL_NODE, .rw, false, none⟩]⟩,
  ⟨"LGT_CSTAT", 0x60304, 0, 1, 0, 1, [
    ⟨F.LGT_CSTAT_STATUS, .ro, false, none⟩]⟩,
  ⟨"LGT_CWIN", 0x60380, 4, 32, 0, 1, [
    ⟨F.LGT_CWIN_WORD, .rw, false, none⟩]⟩,
  ⟨"LGT_GRP_CFG", 0x61000, 8, 1024, 0, 1, [
    ⟨F.LGT_GRP_CFG_RECIPE_EN, .rw, false, none⟩,
    ⟨F.LGT_GRP_CFG_LANYARD, .rw, false, some (0, 3)⟩,
    ⟨F.LGT_GRP_CFG_RECIPE, .rw, false, none⟩,
    ⟨F.LGT_GRP_CFG_FB_EN, .rw, false, none⟩,
    ⟨F.LGT_GRP_CFG_FB_RECIPE, .rw, false, none⟩]⟩,
  ⟨"LGT_GRP_STAT", 0x61004, 8, 1024, 0, 1, [
    ⟨F.LGT_GRP_STAT_RECIPE_IN_FORCE, .ro, false, none⟩,
    ⟨F.LGT_GRP_STAT_OVERRIDE, .ro, false, none⟩,
    ⟨F.LGT_GRP_STAT_EMERG, .ro, false, none⟩,
    ⟨F.LGT_GRP_STAT_LANYARD, .ro, false, none⟩,
    ⟨F.LGT_GRP_STAT_OVERLAY, .ro, false, none⟩,
    ⟨F.LGT_GRP_STAT_RECIPE_ACTIVE, .ro, false, none⟩,
    ⟨F.LGT_GRP_STAT_MEMBERS, .ro, false, none⟩]⟩,
  ⟨"LGT_ZN_CFG", 0x68000, 128, 256, 0, 1, [
    ⟨F.LGT_ZN_CFG_EN, .rw, false, none⟩,
    ⟨F.LGT_ZN_CFG_HOLD, .rw, false, none⟩,
    ⟨F.LGT_ZN_CFG_AHEAD, .rw, false, none⟩,
    ⟨F.LGT_ZN_CFG_FADE, .rw, false, none⟩]⟩,
  ⟨"LGT_ZN_STAT", 0x68004, 128, 256, 0, 1, [
    ⟨F.LGT_ZN_STAT_HOLD_LEFT, .ro, false, none⟩,
    ⟨F.LGT_ZN_STAT_ROVERS, .ro, false, none⟩,
    ⟨F.LGT_ZN_STAT_ROVER, .ro, false, none⟩,
    ⟨F.LGT_ZN_STAT_PROG, .ro, false, none⟩,
    ⟨F.LGT_ZN_STAT_STATE, .ro, false, none⟩]⟩,
  ⟨"LGT_ZN_GRP", 0x68008, 128, 256, 4, 4, [
    ⟨F.LGT_ZN_GRP_V1, .rw, false, none⟩,
    ⟨F.LGT_ZN_GRP_GROUP1, .rw, false, none⟩,
    ⟨F.LGT_ZN_GRP_V0, .rw, false, none⟩,
    ⟨F.LGT_ZN_GRP_GROUP0, .rw, false, none⟩]⟩,
  ⟨"LGT_ZN_SEG", 0x68018, 128, 256, 4, 8, [
    ⟨F.LGT_ZN_SEG_V1, .rw, false, none⟩,
    ⟨F.LGT_ZN_SEG_SEG1, .rw, false, none⟩,
    ⟨F.LGT_ZN_SEG_V0, .rw, false, none⟩,
    ⟨F.LGT_ZN_SEG_SEG0, .rw, false, none⟩]⟩,
  ⟨"LGT_ZN_SPEC", 0x68038, 128, 256, 4, 4, [
    ⟨F.LGT_ZN_SPEC_CH_HI, .rw, false, none⟩,
    ⟨F.LGT_ZN_SPEC_CH_LO, .rw, false, none⟩]⟩]

def regsNet : List RegDesc := [
  ⟨"NET_TXN", 0x70000, 0, 1, 0, 1, [
    ⟨F.NET_TXN_TIMEOUT, .lck [.stop], false, some (20, 6000)⟩,
    ⟨F.NET_TXN_RESEND, .lck [.stop], false, some (5, 250)⟩]⟩,
  ⟨"NET_MAC", 0x70004, 0, 1, 0, 1, [
    ⟨F.NET_MAC_RETRIES, .lck [.stop], false, some (0, 15)⟩,
    ⟨F.NET_MAC_SPACING, .lck [.stop], false, some (1, 20)⟩]⟩,
  ⟨"NET_SUPV", 0x70008, 0, 1, 0, 1, [
    ⟨F.NET_SUPV_SUPV, .lck [.stop], false, some (10, 600)⟩]⟩,
  ⟨"NET_REPORT", 0x7000C, 0, 1, 0, 1, [
    ⟨F.NET_REPORT_PERIOD, .rw, false, some (5, 199)⟩]⟩,
  ⟨"NET_RELAY", 0x70010, 0, 1, 0, 1, [
    ⟨F.NET_RELAY_MAXDEPTH, .lck [.stop], false, none⟩]⟩,
  ⟨"NET_CNT0", 0x70014, 0, 1, 0, 1, [
    ⟨F.NET_CNT0_TIMEOUTS, .rc, false, none⟩,
    ⟨F.NET_CNT0_LATE, .rc, false, none⟩]⟩,
  ⟨"NET_CNT1", 0x70018, 0, 1, 0, 1, [
    ⟨F.NET_CNT1_DUPLICATES, .rc, false, none⟩,
    ⟨F.NET_CNT1_STALE, .rc, false, none⟩]⟩,
  ⟨"NET_CNT2", 0x7001C, 0, 1, 0, 1, [
    ⟨F.NET_CNT2_NACKS, .rc, false, none⟩,
    ⟨F.NET_CNT2_REFUSED, .rc, false, none⟩,
    ⟨F.NET_CNT2_JOINS, .rc, false, none⟩]⟩,
  ⟨"NET_CNT3", 0x70020, 0, 1, 0, 1, [
    ⟨F.NET_CNT3_DROPS, .rc, false, none⟩,
    ⟨F.NET_CNT3_DRIFT_MISS, .rc, false, none⟩]⟩,
  ⟨"NET_ASEL", 0x70040, 0, 1, 0, 1, [
    ⟨F.NET_ASEL_RADIO, .rw, false, some (0, 5)⟩,
    ⟨F.NET_ASEL_INDEX, .rw, false, none⟩]⟩,
  ⟨"NET_UPD", 0x70100, 4, 6, 0, 1, [
    ⟨F.NET_UPD_STATE, .ro, false, none⟩,
    ⟨F.NET_UPD_MEMBERS, .ro, false, none⟩,
    ⟨F.NET_UPD_STATUS, .ro, false, none⟩]⟩,
  ⟨"NET_AWIN", 0x70080, 4, 8, 0, 1, [
    ⟨F.NET_AWIN_WORD, .ro, false, none⟩]⟩]

def regsRad : List RegDesc := [
  ⟨"RAD_CFG", 0x80000, 256, 6, 0, 1, [
    ⟨F.RAD_CFG_EN, .lck [.stop], true, none⟩,
    ⟨F.RAD_CFG_STOPHB, .lck [.stop], true, none⟩,
    ⟨F.RAD_CFG_SLEEPERS, .lck [.stop], true, none⟩,
    ⟨F.RAD_CFG_RELAY_EN, .lck [.stop], true, none⟩,
    ⟨F.RAD_CFG_BAND, .lck [.stop], true, none⟩,
    ⟨F.RAD_CFG_TXPWR, .rw, true, none⟩,
    ⟨F.RAD_CFG_NETID, .lck [.stop], true, none⟩]⟩,
  ⟨"RAD_CHMAP_LO", 0x80004, 256, 6, 0, 1, [
    ⟨F.RAD_CHMAP_LO_MAP, .rw, true, none⟩]⟩,
  ⟨"RAD_CHMAP_HI", 0x80008, 256, 6, 0, 1, [
    ⟨F.RAD_CHMAP_HI_MAP, .rw, true, none⟩]⟩,
  ⟨"RAD_HOP", 0x8000C, 256, 6, 0, 1, [
    ⟨F.RAD_HOP_SEED, .rw, true, none⟩,
    ⟨F.RAD_HOP_STEP, .rw, true, none⟩]⟩,
  ⟨"RAD_MAPCHG", 0x80010, 256, 6, 0, 1, [
    ⟨F.RAD_MAPCHG_APPLY, .wo, false, none⟩,
    ⟨F.RAD_MAPCHG_PENDING, .ro, false, none⟩,
    ⟨F.RAD_MAPCHG_REMAIN, .ro, false, none⟩,
    ⟨F.RAD_MAPCHG_VERSION, .ro, true, none⟩]⟩,
  ⟨"RAD_STOPCH", 0x80014, 256, 6, 0, 1, [
    ⟨F.RAD_STOPCH_CH, .lck [.stop], true, none⟩]⟩,
  ⟨"RAD_SCHED", 0x80018, 256, 6, 0, 1, [
    ⟨F.RAD_SCHED_SHARED, .rw, false, some (0, 5)⟩,
    ⟨F.RAD_SCHED_PERIOD, .lck [.stop], false, some (10, 200)⟩]⟩,
  ⟨"RAD_SLEEP", 0x8001C, 256, 6, 0, 1, [
    ⟨F.RAD_SLEEP_GMAX, .rw, false, some (100, 500)⟩,
    ⟨F.RAD_SLEEP_G0, .rw, false, some (50, 500)⟩,
    ⟨F.RAD_SLEEP_BMIN, .rw, false, some (1, 255)⟩]⟩,
  ⟨"RAD_DUTY", 0x80020, 256, 6, 0, 1, [
    ⟨F.RAD_DUTY_WINDOW, .rw, false, some (60, 3600)⟩,
    ⟨F.RAD_DUTY_LIMIT, .rw, false, none⟩]⟩,
  ⟨"RAD_AIR", 0x80024, 256, 6, 0, 1, [
    ⟨F.RAD_AIR_GRANTED, .ro, false, none⟩,
    ⟨F.RAD_AIR_USED, .ro, false, none⟩]⟩,
  ⟨"RAD_STAT", 0x80028, 256, 6, 0, 1, [
    ⟨F.RAD_STAT_CHANNEL, .ro, false, none⟩,
    ⟨F.RAD_STAT_ASSOC, .ro, false, none⟩,
    ⟨F.RAD_STAT_DUTY_OVER, .ro, false, none⟩,
    ⟨F.RAD_STAT_SHED, .ro, false, none⟩,
    ⟨F.RAD_STAT_MAPCHG, .ro, false, none⟩,
    ⟨F.RAD_STAT_TX, .ro, false, none⟩,
    ⟨F.RAD_STAT_RUNNING, .ro, false, none⟩]⟩,
  ⟨"RAD_E", 0x8002C, 256, 6, 0, 1, [
    ⟨F.RAD_E_E, .ro, false, none⟩]⟩,
  ⟨"RAD_SSER", 0x80030, 256, 6, 0, 1, [
    ⟨F.RAD_SSER_SSER, .ro, false, none⟩]⟩,
  ⟨"RAD_CNT0", 0x80034, 256, 6, 0, 1, [
    ⟨F.RAD_CNT0_MIC_FAIL, .rc, false, none⟩,
    ⟨F.RAD_CNT0_PHY_ERR, .rc, false, none⟩]⟩,
  ⟨"RAD_CNT1", 0x80038, 256, 6, 0, 1, [
    ⟨F.RAD_CNT1_SHED, .rc, false, none⟩,
    ⟨F.RAD_CNT1_CELL_BUSY, .rc, false, none⟩]⟩,
  ⟨"RAD_CNT2", 0x8003C, 256, 6, 0, 1, [
    ⟨F.RAD_CNT2_RETRIES, .rc, false, none⟩,
    ⟨F.RAD_CNT2_NOACK, .rc, false, none⟩]⟩]

def regsDrv : List RegDesc := [
  ⟨"DRV_STAT", 0x90000, 0, 1, 0, 1, [
    ⟨F.DRV_STAT_PASSES, .ro, false, none⟩,
    ⟨F.DRV_STAT_RUNNING, .ro, false, none⟩,
    ⟨F.DRV_STAT_START_DONE, .ro, false, none⟩]⟩,
  ⟨"DRV_PWMCFG", 0x90004, 0, 1, 0, 1, [
    ⟨F.DRV_PWMCFG_STAGGER, .lck [.stop], false, none⟩,
    ⟨F.DRV_PWMCFG_FREQ, .lck [.stop], false, none⟩]⟩,
  ⟨"DRV_SHORTCFG", 0x90008, 0, 1, 0, 1, [
    ⟨F.DRV_SHORTCFG_EVERY, .rw, false, none⟩]⟩,
  ⟨"DRV_SHORT_PWM", 0x9000C, 0, 1, 0, 1, [
    ⟨F.DRV_SHORT_PWM_LANDS, .ro, false, none⟩]⟩,
  ⟨"DRV_SHORT_SNS", 0x90010, 0, 1, 0, 1, [
    ⟨F.DRV_SHORT_SNS_LANDS, .ro, false, none⟩]⟩,
  ⟨"DRV_SHORT_CMD", 0x90014, 0, 1, 0, 1, [
    ⟨F.DRV_SHORT_CMD_GO, .wo, false, none⟩]⟩,
  ⟨"DRV_CH_CFG", 0x90100, 16, 32, 0, 1, [
    ⟨F.DRV_CH_CFG_EN, .lck [.stop], false, none⟩,
    ⟨F.DRV_CH_CFG_SRC, .lck [.stop], false, none⟩,
    ⟨F.DRV_CH_CFG_STOPSEL, .lck [.stop], false, none⟩,
    ⟨F.DRV_CH_CFG_LUM, .lck [.stop], false, none⟩,
    ⟨F.DRV_CH_CFG_CH, .lck [.stop], false, none⟩,
    ⟨F.DRV_CH_CFG_QWI, .lck [.stop], false, none⟩]⟩,
  ⟨"DRV_CH_VAL", 0x90104, 16, 32, 0, 1, [
    ⟨F.DRV_CH_VAL_FBDUTY, .rw, false, none⟩,
    ⟨F.DRV_CH_VAL_STOPVAL, .rw, false, none⟩]⟩,
  ⟨"DRV_CH_SNS", 0x90108, 16, 32, 0, 1, [
    ⟨F.DRV_CH_SNS_SCALE, .rw, false, none⟩,
    ⟨F.DRV_CH_SNS_VOPEN, .rw, false, none⟩,
    ⟨F.DRV_CH_SNS_VSHORT, .rw, false, none⟩]⟩,
  ⟨"DRV_CH_STAT", 0x9010C, 16, 32, 0, 1, [
    ⟨F.DRV_CH_STAT_DUTY, .ro, false, none⟩,
    ⟨F.DRV_CH_STAT_VSTR, .ro, false, none⟩,
    ⟨F.DRV_CH_STAT_SSTATE, .ro, false, none⟩,
    ⟨F.DRV_CH_STAT_SHORTED, .ro, false, none⟩,
    ⟨F.DRV_CH_STAT_SAT, .ro, false, none⟩,
    ⟨F.DRV_CH_STAT_DIMMED, .ro, false, none⟩,
    ⟨F.DRV_CH_STAT_TEMP_STALE, .ro, false, none⟩]⟩,
  ⟨"DRV_LBT_CFG", 0x90400, 16, 8, 0, 1, [
    ⟨F.DRV_LBT_CFG_TYPE, .lck [.stop], false, some (0, 2)⟩,
    ⟨F.DRV_LBT_CFG_OFFSET, .lck [.stop], false, none⟩]⟩,
  ⟨"DRV_LBT_PAR", 0x90404, 16, 8, 0, 1, [
    ⟨F.DRV_LBT_PAR_BETA, .lck [.stop], false, some (1000, 6000)⟩,
    ⟨F.DRV_LBT_PAR_NOMRES, .lck [.stop], false, some (1000, 65535)⟩]⟩,
  ⟨"DRV_LBT_VAL", 0x90408, 16, 8, 0, 1, [
    ⟨F.DRV_LBT_VAL_STATE, .ro, false, none⟩,
    ⟨F.DRV_LBT_VAL_TEMP, .ro, false, none⟩]⟩,
  ⟨"DRV_LUM_CFG", 0x90500, 8, 8, 0, 1, [
    ⟨F.DRV_LUM_CFG_EN, .lck [.stop], false, none⟩,
    ⟨F.DRV_LUM_CFG_LBT, .lck [.stop], false, none⟩,
    ⟨F.DRV_LUM_CFG_SLOT, .lck [.stop], false, none⟩,
    ⟨F.DRV_LUM_CFG_SAFEDIM, .lck [.stop], false, none⟩]⟩,
  ⟨"DRV_LUM_STAT", 0x90504, 8, 8, 0, 1, [
    ⟨F.DRV_LUM_STAT_DIM, .ro, false, none⟩]⟩]

def regsLop : List RegDesc := [
  ⟨"LOP_STAT", 0xA0000, 0, 1, 0, 1, [
    ⟨F.LOP_STAT_CLOSED, .ro, false, none⟩,
    ⟨F.LOP_STAT_FAULTED, .ro, false, none⟩,
    ⟨F.LOP_STAT_AXES, .ro, false, none⟩]⟩,
  ⟨"LOP_LOAD", 0xA0004, 0, 1, 0, 1, [
    ⟨F.LOP_LOAD_L1, .rc, false, none⟩,
    ⟨F.LOP_LOAD_L0, .rc, false, none⟩]⟩,
  ⟨"LOP_CFG", 0xA1000, 128, 64, 0, 1, [
    ⟨F.LOP_CFG_EN, .lck [.stop], false, none⟩,
    ⟨F.LOP_CFG_AUTOCLOSE, .lck [.stop], false, none⟩,
    ⟨F.LOP_CFG_ROLE, .lck [.stop], false, none⟩,
    ⟨F.LOP_CFG_FAULTACT, .lck [.stop], false, none⟩,
    ⟨F.LOP_CFG_DIV, .lck [.stop], false, none⟩,
    ⟨F.LOP_CFG_PHASE, .lck [.stop], false, none⟩]⟩,
  ⟨"LOP_SRC", 0xA1004, 128, 64, 0, 1, [
    ⟨F.LOP_SRC_PVK, .lck [.stop], false, none⟩,
    ⟨F.LOP_SRC_PVI, .lck [.stop], false, none⟩,
    ⟨F.LOP_SRC_FFK, .lck [.stop], false, none⟩,
    ⟨F.LOP_SRC_FFI, .lck [.stop], false, none⟩]⟩,
  ⟨"LOP_LINK", 0xA1008, 128, 64, 0, 1, [
    ⟨F.LOP_LINK_SPK, .lck [.stop], false, none⟩,
    ⟨F.LOP_LINK_SPI, .lck [.stop], false, none⟩,
    ⟨F.LOP_LINK_ACTK, .lck [.stop], false, none⟩,
    ⟨F.LOP_LINK_ACTI, .lck [.stop], false, none⟩]⟩,
  ⟨"LOP_KP", 0xA100C, 128, 64, 0, 1, [
    ⟨F.LOP_KP_K, .rw, true, none⟩]⟩,
  ⟨"LOP_KI", 0xA1010, 128, 64, 0, 1, [
    ⟨F.LOP_KI_K, .rw, true, none⟩]⟩,
  ⟨"LOP_KD", 0xA1014, 128, 64, 0, 1, [
    ⟨F.LOP_KD_K, .rw, true, none⟩]⟩,
  ⟨"LOP_KF", 0xA1018, 128, 64, 0, 1, [
    ⟨F.LOP_KF_K, .rw, true, none⟩]⟩,
  ⟨"LOP_OMIN", 0xA101C, 128, 64, 0, 1, [
    ⟨F.LOP_OMIN_LIM, .rw, true, none⟩]⟩,
  ⟨"LOP_OMAX", 0xA1020, 128, 64, 0, 1, [
    ⟨F.LOP_OMAX_LIM, .rw, true, none⟩]⟩,
  ⟨"LOP_IMIN", 0xA1024, 128, 64, 0, 1, [
    ⟨F.LOP_IMIN_LIM, .rw, true, none⟩]⟩,
  ⟨"LOP_IMAX", 0xA1028, 128, 64, 0, 1, [
    ⟨F.LOP_IMAX_LIM, .rw, true, none⟩]⟩,
  ⟨"LOP_FB", 0xA102C, 128, 64, 0, 1, [
    ⟨F.LOP_FB_FB, .rw, true, none⟩]⟩,
  ⟨"LOP_MON", 0xA1030, 128, 64, 0, 1, [
    ⟨F.LOP_MON_LOSS_N, .rw, false, some (1, 4095)⟩,
    ⟨F.LOP_MON_FREEZE_M, .rw, false, none⟩]⟩,
  ⟨"LOP_DBAND", 0xA1034, 128, 64, 0, 1, [
    ⟨F.LOP_DBAND_VAL, .rw, false, none⟩]⟩,
  ⟨"LOP_ETH", 0xA1038, 128, 64, 0, 1, [
    ⟨F.LOP_ETH_VAL, .rw, false, none⟩]⟩,
  ⟨"LOP_TRACK", 0xA103C, 128, 64, 0, 1, [
    ⟨F.LOP_TRACK_VAL, .rw, false, none⟩]⟩,
  ⟨"LOP_SP", 0xA1040, 128, 64, 0, 1, [
    ⟨F.LOP_SP_SP, .rw, false, none⟩]⟩,
  ⟨"LOP_CMD", 0xA1044, 128, 64, 0, 1, [
    ⟨F.LOP_CMD_CLOSE, .wo, false, none⟩,
    ⟨F.LOP_CMD_OPEN, .wo, false, none⟩]⟩,
  ⟨"LOP_STATE", 0xA1048, 128, 64, 0, 1, [
    ⟨F.LOP_STATE_FAULT_SEEN, .rws, false, none⟩,
    ⟨F.LOP_STATE_TRACKING, .ro, false, none⟩,
    ⟨F.LOP_STATE_ASAT, .rws, false, none⟩,
    ⟨F.LOP_STATE_ISAT, .rws, false, none⟩,
    ⟨F.LOP_STATE_OSAT_LO, .rws, false, none⟩,
    ⟨F.LOP_STATE_OSAT_HI, .rws, false, none⟩,
    ⟨F.LOP_STATE_FREEZE, .ro, false, none⟩,
    ⟨F.LOP_STATE_LOSS, .ro, false, none⟩,
    ⟨F.LOP_STATE_SELECTED, .ro, false, none⟩,
    ⟨F.LOP_STATE_CLOSED, .ro, false, none⟩]⟩,
  ⟨"LOP_PV", 0xA104C, 128, 64, 0, 1, [
    ⟨F.LOP_PV_VAL, .ro, false, none⟩]⟩,
  ⟨"LOP_OUT", 0xA1050, 128, 64, 0, 1, [
    ⟨F.LOP_OUT_VAL, .ro, false, none⟩]⟩,
  ⟨"LOP_INT", 0xA1054, 128, 64, 0, 1, [
    ⟨F.LOP_INT_VAL, .ro, false, none⟩]⟩,
  ⟨"LOP_DL_CFG", 0xA3000, 32, 2, 0, 1, [
    ⟨F.LOP_DL_CFG_EN, .lck [.stop], false, none⟩,
    ⟨F.LOP_DL_CFG_PRESENT, .lck [.stop], false, none⟩]⟩,
  ⟨"LOP_DL_STAT", 0xA3004, 32, 2, 0, 1, [
    ⟨F.LOP_DL_STAT_OK, .ro, false, none⟩]⟩,
  ⟨"LOP_DL_CNT", 0xA3008, 32, 2, 0, 1, [
    ⟨F.LOP_DL_CNT_CRC_ERR, .rc, false, none⟩,
    ⟨F.LOP_DL_CNT_MISSED, .rc, false, none⟩]⟩,
  ⟨"LOP_AX_CFG", 0xA4000, 256, 8, 0, 1, [
    ⟨F.LOP_AX_CFG_EN, .lck [.stop], true, none⟩,
    ⟨F.LOP_AX_CFG_LANYARD_STOP, .lck [.stop], true, none⟩,
    ⟨F.LOP_AX_CFG_DIR, .lck [.stop], true, none⟩]⟩,
  ⟨"LOP_AX_CPR", 0xA4004, 256, 8, 0, 1, [
    ⟨F.LOP_AX_CPR_CPR, .rw, true, some (64, 16777216)⟩]⟩,
  ⟨"LOP_AX_PMIN", 0xA4008, 256, 8, 0, 1, [
    ⟨F.LOP_AX_PMIN_POS, .rw, true, none⟩]⟩,
  ⟨"LOP_AX_PMAX", 0xA400C, 256, 8, 0, 1, [
    ⟨F.LOP_AX_PMAX_POS, .rw, true, none⟩]⟩,
  ⟨"LOP_AX_KPP", 0xA4010, 256, 8, 0, 1, [
    ⟨F.LOP_AX_KPP_K, .rw, true, none⟩]⟩,
  ⟨"LOP_AX_KPV", 0xA4014, 256, 8, 0, 1, [
    ⟨F.LOP_AX_KPV_K, .rw, true, none⟩]⟩,
  ⟨"LOP_AX_KIV", 0xA4018, 256, 8, 0, 1, [
    ⟨F.LOP_AX_KIV_K, .rw, true, none⟩]⟩,
  ⟨"LOP_AX_TLIM", 0xA401C, 256, 8, 0, 1, [
    ⟨F.LOP_AX_TLIM_GRAV, .rw, true, none⟩,
    ⟨F.LOP_AX_TLIM_TLIM, .rw, true, some (1, 32767)⟩]⟩,
  ⟨"LOP_AX_VLIM", 0xA4020, 256, 8, 0, 1, [
    ⟨F.LOP_AX_VLIM_VAL, .rw, true, none⟩]⟩,
  ⟨"LOP_AX_QSTOP", 0xA4024, 256, 8, 0, 1, [
    ⟨F.LOP_AX_QSTOP_VAL, .rw, true, none⟩]⟩,
  ⟨"LOP_AX_HOMESPD", 0xA402C, 256, 8, 0, 1, [
    ⟨F.LOP_AX_HOMESPD_VAL, .rw, true, none⟩]⟩,
  ⟨"LOP_AX_INPOS", 0xA4028, 256, 8, 0, 1, [
    ⟨F.LOP_AX_INPOS_INPOS, .rw, true, none⟩,
    ⟨F.LOP_AX_INPOS_VDEAD, .rw, true, none⟩]⟩,
  ⟨"LOP_AX_HOMEPOS", 0xA4030, 256, 8, 0, 1, [
    ⟨F.LOP_AX_HOMEPOS_POS, .rw, true, none⟩]⟩,
  ⟨"LOP_AX_BRAKE", 0xA4034, 256, 8, 0, 1, [
    ⟨F.LOP_AX_BRAKE_ENGAGE, .rw, true, none⟩,
    ⟨F.LOP_AX_BRAKE_RELEASE, .rw, true, none⟩]⟩,
  ⟨"LOP_AX_CMD", 0xA4038, 256, 8, 0, 1, [
    ⟨F.LOP_AX_CMD_RESET, .wo, false, none⟩]⟩,
  ⟨"LOP_AX_POS", 0xA4040, 256, 8, 0, 1, [
    ⟨F.LOP_AX_POS_VAL, .ro, false, none⟩]⟩,
  ⟨"LOP_AX_VEL", 0xA4044, 256, 8, 0, 1, [
    ⟨F.LOP_AX_VEL_VAL, .ro, false, none⟩]⟩,
  ⟨"LOP_AX_TGT", 0xA4048, 256, 8, 0, 1, [
    ⟨F.LOP_AX_TGT_VAL, .ro, false, none⟩]⟩,
  ⟨"LOP_AX_TRQ", 0xA404C, 256, 8, 0, 1, [
    ⟨F.LOP_AX_TRQ_VAL, .ro, false, none⟩]⟩,
  ⟨"LOP_AX_STAT", 0xA4050, 256, 8, 0, 1, [
    ⟨F.LOP_AX_STAT_TSAT, .rws, false, none⟩,
    ⟨F.LOP_AX_STAT_HOMED, .ro, false, none⟩,
    ⟨F.LOP_AX_STAT_STATE, .ro, false, none⟩]⟩,
  ⟨"LOP_AX_FR", 0xA8000, 4096, 8, 4, 512, [
    ⟨F.LOP_AX_FR_E1, .rw, true, none⟩,
    ⟨F.LOP_AX_FR_E0, .rw, true, none⟩]⟩,
  ⟨"LOP_AX_CG", 0xA8800, 4096, 8, 4, 512, [
    ⟨F.LOP_AX_CG_E1, .rw, true, none⟩,
    ⟨F.LOP_AX_CG_E0, .rw, true, none⟩]⟩]

def regsGns : List RegDesc := [
  ⟨"GNS_STAT", 0xB0000, 0, 1, 0, 1, [
    ⟨F.GNS_STAT_TRACK, .ro, false, none⟩,
    ⟨F.GNS_STAT_DUAL, .ro, false, none⟩,
    ⟨F.GNS_STAT_RX, .ro, false, none⟩,
    ⟨F.GNS_STAT_REF_OK, .ro, false, none⟩,
    ⟨F.GNS_STAT_ANT_FAULT, .ro, false, none⟩,
    ⟨F.GNS_STAT_RTK_ON, .ro, false, none⟩]⟩,
  ⟨"GNS_CFG", 0xB0004, 0, 1, 0, 1, [
    ⟨F.GNS_CFG_GPS_EN, .lck [.stop], false, none⟩,
    ⟨F.GNS_CFG_GAL_EN, .lck [.stop], false, none⟩,
    ⟨F.GNS_CFG_BDS_EN, .lck [.stop], false, none⟩,
    ⟨F.GNS_CFG_QZS_EN, .lck [.stop], false, none⟩,
    ⟨F.GNS_CFG_ELEV_MASK, .lck [.stop], false, some (0, 30)⟩,
    ⟨F.GNS_CFG_CN0_MASK, .lck [.stop], false, some (20, 45)⟩]⟩,
  ⟨"GNS_ANT", 0xB0008, 0, 1, 0, 1, [
    ⟨F.GNS_ANT_BIAS_EN, .rw, true, none⟩,
    ⟨F.GNS_ANT_VSEL, .rw, true, none⟩,
    ⟨F.GNS_ANT_CURRENT, .ro, false, none⟩,
    ⟨F.GNS_ANT_STATE, .ro, false, none⟩]⟩,
  ⟨"GNS_RTK", 0xB000C, 0, 1, 0, 1, [
    ⟨F.GNS_RTK_RATIO, .lck [.stop], false, some (15, 100)⟩,
    ⟨F.GNS_RTK_VALID_N, .lck [.stop], false, some (1, 15)⟩,
    ⟨F.GNS_RTK_GAP_MAX, .lck [.stop], false, some (1, 100)⟩,
    ⟨F.GNS_RTK_CUTOFF, .lck [.stop], false, some (10, 60)⟩,
    ⟨F.GNS_RTK_MAXBASE, .lck [.stop], false, some (1, 10)⟩]⟩,
  ⟨"GNS_REF_CFG", 0xB0010, 0, 1, 0, 1, [
    ⟨F.GNS_REF_CFG_MODE, .lck [.stop], true, some (0, 2)⟩,
    ⟨F.GNS_REF_CFG_GO, .wo, false, none⟩,
    ⟨F.GNS_REF_CFG_SURVEY_MIN, .lck [.stop], true, some (10, 1440)⟩]⟩,
  ⟨"GNS_REF_STAT", 0xB0014, 0, 1, 0, 1, [
    ⟨F.GNS_REF_STAT_STATE, .ro, true, none⟩,
    ⟨F.GNS_REF_STAT_SOURCE, .ro, true, none⟩,
    ⟨F.GNS_REF_STAT_SIGMA, .ro, true, none⟩,
    ⟨F.GNS_REF_STAT_PROGRESS, .ro, false, none⟩]⟩,
  ⟨"GNS_REF_X_LO", 0xB0018, 0, 1, 0, 1, [
    ⟨F.GNS_REF_X_LO_POS, .lck [.stop], true, none⟩]⟩,
  ⟨"GNS_REF_Y_LO", 0xB0020, 0, 1, 0, 1, [
    ⟨F.GNS_REF_Y_LO_POS, .lck [.stop], true, none⟩]⟩,
  ⟨"GNS_REF_Z_LO", 0xB0028, 0, 1, 0, 1, [
    ⟨F.GNS_REF_Z_LO_POS, .lck [.stop], true, none⟩]⟩,
  ⟨"GNS_REF_X_HI", 0xB001C, 0, 1, 0, 1, [
    ⟨F.GNS_REF_X_HI_POS, .lck [.stop], true, none⟩]⟩,
  ⟨"GNS_REF_Y_HI", 0xB0024, 0, 1, 0, 1, [
    ⟨F.GNS_REF_Y_HI_POS, .lck [.stop], true, none⟩]⟩,
  ⟨"GNS_REF_Z_HI", 0xB002C, 0, 1, 0, 1, [
    ⟨F.GNS_REF_Z_HI_POS, .lck [.stop], true, none⟩]⟩,
  ⟨"GNS_ORG_LAT", 0xB0030, 0, 1, 0, 1, [
    ⟨F.GNS_ORG_LAT_LAT, .lck [.stop], true, some (-900000000, 900000000)⟩]⟩,
  ⟨"GNS_ORG_LON", 0xB0034, 0, 1, 0, 1, [
    ⟨F.GNS_ORG_LON_LON, .lck [.stop], true, some (-1800000000, 1800000000)⟩]⟩,
  ⟨"GNS_ORG_H", 0xB0038, 0, 1, 0, 1, [
    ⟨F.GNS_ORG_H_H, .lck [.stop], true, none⟩]⟩,
  ⟨"GNS_CNT0", 0xB0040, 0, 1, 0, 1, [
    ⟨F.GNS_CNT0_EPOCHS, .rc, false, none⟩,
    ⟨F.GNS_CNT0_SOLVE_LATE, .rc, false, none⟩]⟩,
  ⟨"GNS_CNT1", 0xB0044, 0, 1, 0, 1, [
    ⟨F.GNS_CNT1_LATE_OBS, .rc, false, none⟩,
    ⟨F.GNS_CNT1_CRC_FAIL, .rc, false, none⟩]⟩,
  ⟨"GNS_CNT2", 0xB0048, 0, 1, 0, 1, [
    ⟨F.GNS_CNT2_UNSUPPORTED, .rc, false, none⟩,
    ⟨F.GNS_CNT2_REJECTED, .rc, false, none⟩]⟩,
  ⟨"GNS_CNT3", 0xB004C, 0, 1, 0, 1, [
    ⟨F.GNS_CNT3_SLIPS, .rc, false, none⟩,
    ⟨F.GNS_CNT3_FIX_LOSS, .rc, false, none⟩]⟩,
  ⟨"GNS_FSEL", 0xB0080, 0, 1, 0, 1, [
    ⟨F.GNS_FSEL_ROVER, .rw, false, none⟩]⟩,
  ⟨"GNS_FWIN", 0xB0100, 4, 16, 0, 1, [
    ⟨F.GNS_FWIN_WORD, .ro, false, none⟩]⟩,
  ⟨"GNS_CH_ID", 0xB0400, 8, 96, 0, 1, [
    ⟨F.GNS_CH_ID_CONST, .ro, false, none⟩,
    ⟨F.GNS_CH_ID_ELEV, .ro, false, none⟩,
    ⟨F.GNS_CH_ID_PRN, .ro, false, none⟩]⟩,
  ⟨"GNS_CH_STAT", 0xB0404, 8, 96, 0, 1, [
    ⟨F.GNS_CH_STAT_CN0_L1, .ro, false, none⟩,
    ⟨F.GNS_CH_STAT_CN0_L5, .ro, false, none⟩,
    ⟨F.GNS_CH_STAT_USED, .ro, false, none⟩,
    ⟨F.GNS_CH_STAT_STATE_L5, .ro, false, none⟩,
    ⟨F.GNS_CH_STAT_STATE_L1, .ro, false, none⟩]⟩,
  ⟨"GNS_RV_CFG", 0xB1000, 16, 64, 0, 1, [
    ⟨F.GNS_RV_CFG_EN, .lck [.stop], true, none⟩,
    ⟨F.GNS_RV_CFG_STATION, .lck [.stop], true, none⟩,
    ⟨F.GNS_RV_CFG_CERT, .lck [.stop], true, none⟩]⟩,
  ⟨"GNS_RV_STAT", 0xB1004, 16, 64, 0, 1, [
    ⟨F.GNS_RV_STAT_SESSION, .ro, false, none⟩,
    ⟨F.GNS_RV_STAT_FILTER, .ro, false, none⟩,
    ⟨F.GNS_RV_STAT_CTX, .ro, false, none⟩,
    ⟨F.GNS_RV_STAT_VCOUNT, .ro, false, none⟩,
    ⟨F.GNS_RV_STAT_LATENCY, .ro, false, none⟩]⟩,
  ⟨"GNS_RV_CNT0", 0xB1008, 16, 64, 0, 1, [
    ⟨F.GNS_RV_CNT0_EPOCHS, .rc, false, none⟩,
    ⟨F.GNS_RV_CNT0_MISSED, .rc, false, none⟩]⟩,
  ⟨"GNS_RV_CNT1", 0xB100C, 16, 64, 0, 1, [
    ⟨F.GNS_RV_CNT1_LATE, .rc, false, none⟩,
    ⟨F.GNS_RV_CNT1_DISCARDED, .rc, false, none⟩]⟩]

def regsFlt : List RegDesc := [
  ⟨"FLT_STAT", 0xC0000, 0, 1, 0, 1, [
    ⟨F.FLT_STAT_ALLOT, .ro, false, none⟩,
    ⟨F.FLT_STAT_KNOTS, .ro, false, none⟩,
    ⟨F.FLT_STAT_SESSIONS, .ro, false, none⟩,
    ⟨F.FLT_STAT_TASKS, .ro, false, none⟩]⟩,
  ⟨"FLT_CFG", 0xC0004, 0, 1, 0, 1, [
    ⟨F.FLT_CFG_LOOKAHEAD, .lck [.stop], false, some (1, 8)⟩,
    ⟨F.FLT_CFG_BACKOFF, .lck [.stop], false, some (1, 255)⟩,
    ⟨F.FLT_CFG_KEEP, .lck [.stop], false, some (1, 255)⟩,
    ⟨F.FLT_CFG_MISMATCH, .lck [.stop], false, some (10, 4095)⟩]⟩,
  ⟨"FLT_TMO", 0xC0008, 0, 1, 0, 1, [
    ⟨F.FLT_TMO_STATUS_TMO, .lck [.stop], false, some (3, 255)⟩,
    ⟨F.FLT_TMO_TASK_TMO, .lck [.stop], false, some (10, 255)⟩,
    ⟨F.FLT_TMO_RESEND, .lck [.stop], false, some (5, 100)⟩]⟩,
  ⟨"FLT_GRAPH", 0xC000C, 0, 1, 0, 1, [
    ⟨F.FLT_GRAPH_VALID, .ro, true, none⟩,
    ⟨F.FLT_GRAPH_SEGMENTS, .ro, true, none⟩,
    ⟨F.FLT_GRAPH_JUNCTIONS, .ro, true, none⟩]⟩,
  ⟨"FLT_CNT0", 0xC0010, 0, 1, 0, 1, [
    ⟨F.FLT_CNT0_CYCLES, .rc, false, none⟩,
    ⟨F.FLT_CNT0_VICTIMS, .rc, false, none⟩]⟩,
  ⟨"FLT_CNT1", 0xC0014, 0, 1, 0, 1, [
    ⟨F.FLT_CNT1_KNOTS, .rc, false, none⟩,
    ⟨F.FLT_CNT1_INTRUSIONS, .rc, false, none⟩,
    ⟨F.FLT_CNT1_LATE, .rc, false, none⟩]⟩,
  ⟨"FLT_RV_CFG", 0xC0100, 16, 64, 0, 1, [
    ⟨F.FLT_RV_CFG_CLASS, .lck [.stop], false, none⟩,
    ⟨F.FLT_RV_CFG_PRIO, .lck [.stop], false, none⟩,
    ⟨F.FLT_RV_CFG_PATHS, .lck [.stop], false, some (1, 3)⟩]⟩,
  ⟨"FLT_RV_CMD", 0xC0104, 16, 64, 0, 1, [
    ⟨F.FLT_RV_CMD_CONFIRM, .wo, false, none⟩,
    ⟨F.FLT_RV_CMD_RELEASE, .wo, false, none⟩,
    ⟨F.FLT_RV_CMD_HOLD, .wo, false, none⟩,
    ⟨F.FLT_RV_CMD_FORGET, .wo, false, none⟩]⟩,
  ⟨"FLT_RV_STAT", 0xC0108, 16, 64, 0, 1, [
    ⟨F.FLT_RV_STAT_CAUSES, .ro, false, none⟩,
    ⟨F.FLT_RV_STAT_PAUSED, .ro, false, none⟩,
    ⟨F.FLT_RV_STAT_LOST, .ro, false, none⟩,
    ⟨F.FLT_RV_STAT_EPRIO, .ro, false, none⟩,
    ⟨F.FLT_RV_STAT_VICTIM_CNT, .ro, false, none⟩,
    ⟨F.FLT_RV_STAT_BACKOFF_LEFT, .ro, false, none⟩]⟩,
  ⟨"FLT_KNOT", 0xC0800, 16, 64, 0, 1, [
    ⟨F.FLT_KNOT_ACTIVE, .ro, false, none⟩,
    ⟨F.FLT_KNOT_MEMBERS, .ro, false, none⟩,
    ⟨F.FLT_KNOT_AGE, .ro, false, none⟩]⟩,
  ⟨"FLT_KNOT_M0", 0xC0804, 16, 64, 0, 1, [
    ⟨F.FLT_KNOT_M0_ROVERS, .ro, false, none⟩]⟩,
  ⟨"FLT_KNOT_M1", 0xC0808, 16, 64, 0, 1, [
    ⟨F.FLT_KNOT_M1_ROVERS, .ro, false, none⟩]⟩,
  ⟨"FLT_COR", 0xC1000, 4, 256, 0, 1, [
    ⟨F.FLT_COR_CLOSED, .ro, false, none⟩,
    ⟨F.FLT_COR_DEFINED, .ro, false, none⟩,
    ⟨F.FLT_COR_HOLDER, .ro, false, none⟩,
    ⟨F.FLT_COR_HELD, .ro, false, none⟩,
    ⟨F.FLT_COR_SEGMENTS, .ro, false, none⟩]⟩]

def regsStp : List RegDesc := [
  ⟨"STP_STAT", 0xD0000, 0, 1, 0, 1, [
    ⟨F.STP_STAT_DECLARED, .ro, false, none⟩,
    ⟨F.STP_STAT_OUT_A, .ro, false, none⟩,
    ⟨F.STP_STAT_OUT_B, .ro, false, none⟩,
    ⟨F.STP_STAT_IN_A, .ro, false, none⟩,
    ⟨F.STP_STAT_IN_B, .ro, false, none⟩,
    ⟨F.STP_STAT_HEALTHY, .ro, false, none⟩,
    ⟨F.STP_STAT_MBX_OK, .ro, false, none⟩,
    ⟨F.STP_STAT_INJECTING, .ro, false, none⟩,
    ⟨F.STP_STAT_KEYID, .ro, true, none⟩]⟩,
  ⟨"STP_CAUSE", 0xD0004, 0, 1, 0, 1, [
    ⟨F.STP_CAUSE_ACTIVE, .ro, false, none⟩,
    ⟨F.STP_CAUSE_LATCHED, .ro, false, none⟩]⟩,
  ⟨"STP_CFG", 0xD0008, 0, 1, 0, 1, [
    ⟨F.STP_CFG_FILT, .lck [.stop], false, some (1, 15)⟩,
    ⟨F.STP_CFG_DISC, .lck [.stop], false, some (1, 100)⟩,
    ⟨F.STP_CFG_MBX_MISS, .lck [.stop], false, some (2, 10)⟩,
    ⟨F.STP_CFG_OTEST, .lck [.stop], false, none⟩,
    ⟨F.STP_CFG_KEYSLOT, .lck [.stop], true, none⟩]⟩,
  ⟨"STP_TMO", 0xD000C, 0, 1, 0, 1, [
    ⟨F.STP_TMO_ETH_TMO, .lck [.stop], false, some (3, 100)⟩,
    ⟨F.STP_TMO_RAD_TMO, .lck [.stop], false, some (2, 20)⟩]⟩,
  ⟨"STP_GRP", 0xD0010, 0, 1, 0, 1, [
    ⟨F.STP_GRP_ADDR, .lck [.stop], false, some (3758096384, 4026531839)⟩]⟩,
  ⟨"STP_ETH", 0xD0014, 0, 1, 0, 1, [
    ⟨F.STP_ETH_SEGMENT, .lck [.stop], true, none⟩,
    ⟨F.STP_ETH_PORT, .lck [.stop], false, none⟩]⟩,
  ⟨"STP_CMD", 0xD0018, 0, 1, 0, 1, [
    ⟨F.STP_CMD_CONFIRM, .wo, false, none⟩,
    ⟨F.STP_CMD_CODE, .wo, false, none⟩]⟩,
  ⟨"STP_CMD_STAT", 0xD001C, 0, 1, 0, 1, [
    ⟨F.STP_CMD_STAT_CODE, .ro, false, none⟩,
    ⟨F.STP_CMD_STAT_STATUS, .ro, false, none⟩]⟩,
  ⟨"STP_CNT", 0xD0020, 0, 1, 0, 1, [
    ⟨F.STP_CNT_STOPS, .rc, false, none⟩,
    ⟨F.STP_CNT_RESETS, .rc, false, none⟩,
    ⟨F.STP_CNT_OTEST_FAIL, .rc, false, none⟩]⟩,
  ⟨"STP_LAST_LO", 0xD0024, 0, 1, 0, 1, [
    ⟨F.STP_LAST_LO_FRAME, .ro, false, none⟩]⟩,
  ⟨"STP_LAST_HI", 0xD0028, 0, 1, 0, 1, [
    ⟨F.STP_LAST_HI_FRAME, .ro, false, none⟩]⟩]

def regsTim : List RegDesc := [
  ⟨"TIM_STAT", 0xE0000, 0, 1, 0, 1, [
    ⟨F.TIM_STAT_STATE, .ro, false, none⟩,
    ⟨F.TIM_STAT_SRC, .ro, false, none⟩,
    ⟨F.TIM_STAT_GNSS_Q, .ro, false, none⟩,
    ⟨F.TIM_STAT_PTP_Q, .ro, false, none⟩,
    ⟨F.TIM_STAT_DISCORDANT, .ro, false, none⟩,
    ⟨F.TIM_STAT_TIME_VALID, .ro, false, none⟩,
    ⟨F.TIM_STAT_TOD, .ro, false, none⟩,
    ⟨F.TIM_STAT_SLEWING, .ro, false, none⟩,
    ⟨F.TIM_STAT_STEPS, .ro, false, none⟩]⟩,
  ⟨"TIM_CFG", 0xE0004, 0, 1, 0, 1, [
    ⟨F.TIM_CFG_GNSS_DELAY, .lck [.stop], true, some (0, 50000)⟩,
    ⟨F.TIM_CFG_SLEW, .lck [.stop], false, some (1, 100)⟩,
    ⟨F.TIM_CFG_GNSS_SRC, .lck [.stop], false, none⟩,
    ⟨F.TIM_CFG_PTP_SRC, .lck [.stop], false, none⟩]⟩,
  ⟨"TIM_CMD", 0xE0008, 0, 1, 0, 1, [
    ⟨F.TIM_CMD_CONFIRM, .wo, false, none⟩,
    ⟨F.TIM_CMD_CODE, .wo, false, none⟩]⟩,
  ⟨"TIM_CMD_STAT", 0xE000C, 0, 1, 0, 1, [
    ⟨F.TIM_CMD_STAT_CODE, .ro, false, none⟩,
    ⟨F.TIM_CMD_STAT_STATUS, .ro, false, none⟩]⟩,
  ⟨"TIM_NOW_NS", 0xE0010, 0, 1, 0, 1, [
    ⟨F.TIM_NOW_NS_NS, .ro, false, none⟩]⟩,
  ⟨"TIM_NOW_SEC_LO", 0xE0014, 0, 1, 0, 1, [
    ⟨F.TIM_NOW_SEC_LO_SEC, .ro, false, none⟩]⟩,
  ⟨"TIM_NOW_SEC_HI", 0xE0018, 0, 1, 0, 1, [
    ⟨F.TIM_NOW_SEC_HI_SEC, .ro, false, none⟩]⟩,
  ⟨"TIM_UNC", 0xE001C, 0, 1, 0, 1, [
    ⟨F.TIM_UNC_U, .ro, false, none⟩]⟩,
  ⟨"TIM_SRCOFF_LO", 0xE0020, 0, 1, 0, 1, [
    ⟨F.TIM_SRCOFF_LO_OFF, .ro, false, none⟩]⟩,
  ⟨"TIM_SRCOFF_HI", 0xE0024, 0, 1, 0, 1, [
    ⟨F.TIM_SRCOFF_HI_OFF, .ro, false, none⟩]⟩,
  ⟨"TIM_RATE", 0xE0028, 0, 1, 0, 1, [
    ⟨F.TIM_RATE_FREQ, .ro, true, none⟩]⟩,
  ⟨"TIM_SERVO", 0xE002C, 0, 1, 0, 1, [
    ⟨F.TIM_SERVO_SLEW, .ro, false, none⟩,
    ⟨F.TIM_SERVO_FUNC, .ro, true, none⟩]⟩,
  ⟨"TIM_HOLD", 0xE0030, 0, 1, 0, 1, [
    ⟨F.TIM_HOLD_BOUND, .rw, false, some (1, 10000)⟩,
    ⟨F.TIM_HOLD_AGE, .rw, false, some (0, 10000)⟩]⟩,
  ⟨"TIM_UTC", 0xE0034, 0, 1, 0, 1, [
    ⟨F.TIM_UTC_PENDING, .ro, false, none⟩,
    ⟨F.TIM_UTC_LSRC, .ro, false, none⟩,
    ⟨F.TIM_UTC_LEAP_CFG, .rw, true, none⟩,
    ⟨F.TIM_UTC_LEAP, .ro, false, none⟩]⟩,
  ⟨"TIM_PPS", 0xE0038, 0, 1, 0, 1, [
    ⟨F.TIM_PPS_EN, .rw, false, none⟩,
    ⟨F.TIM_PPS_UNALIGNED, .rw, false, none⟩,
    ⟨F.TIM_PPS_POL, .rw, false, none⟩,
    ⟨F.TIM_PPS_WIDTH, .rw, false, some (1, 900)⟩]⟩,
  ⟨"TIM_TXQ", 0xE003C, 0, 1, 0, 1, [
    ⟨F.TIM_TXQ_OVERFLOW, .rc, false, none⟩,
    ⟨F.TIM_TXQ_DEPTH, .ro, false, none⟩]⟩,
  ⟨"TIM_CNT", 0xE0040, 0, 1, 0, 1, [
    ⟨F.TIM_CNT_SRC_CHANGES, .rc, false, none⟩,
    ⟨F.TIM_CNT_DISCORD, .rc, false, none⟩,
    ⟨F.TIM_CNT_HOLDOVERS, .rc, false, none⟩]⟩,
  ⟨"TIM_PTP_CFG", 0xE0080, 0, 1, 0, 1, [
    ⟨F.TIM_PTP_CFG_EN, .lck [.stop], false, none⟩,
    ⟨F.TIM_PTP_CFG_MASTER, .lck [.stop], false, none⟩,
    ⟨F.TIM_PTP_CFG_TRANSPORT, .lck [.stop], false, none⟩,
    ⟨F.TIM_PTP_CFG_TC_EN, .lck [.stop], false, none⟩,
    ⟨F.TIM_PTP_CFG_DOMAIN, .lck [.stop], false, some (0, 127)⟩,
    ⟨F.TIM_PTP_CFG_LOG_SYNC, .lck [.stop], false, some (-4, 0)⟩,
    ⟨F.TIM_PTP_CFG_LOG_ANN, .lck [.stop], false, some (0, 3)⟩,
    ⟨F.TIM_PTP_CFG_ANN_TMO, .lck [.stop], false, some (2, 10)⟩]⟩,
  ⟨"TIM_PTP_PRI", 0xE0084, 0, 1, 0, 1, [
    ⟨F.TIM_PTP_PRI_PRIORITY1, .lck [.stop], false, none⟩,
    ⟨F.TIM_PTP_PRI_PRIORITY2, .lck [.stop], false, none⟩,
    ⟨F.TIM_PTP_PRI_MAXCLASS, .lck [.stop], false, some (6, 248)⟩]⟩,
  ⟨"TIM_PTP_STAT", 0xE0088, 0, 1, 0, 1, [
    ⟨F.TIM_PTP_STAT_PORT, .ro, false, none⟩,
    ⟨F.TIM_PTP_STAT_GM_CLASS, .ro, false, none⟩,
    ⟨F.TIM_PTP_STAT_STEPS_REMOVED, .ro, false, none⟩]⟩,
  ⟨"TIM_PTP_GM_LO", 0xE008C, 0, 1, 0, 1, [
    ⟨F.TIM_PTP_GM_LO_ID, .ro, false, none⟩]⟩,
  ⟨"TIM_PTP_GM_HI", 0xE0090, 0, 1, 0, 1, [
    ⟨F.TIM_PTP_GM_HI_ID, .ro, false, none⟩]⟩,
  ⟨"TIM_PTP_DELAY", 0xE0094, 0, 1, 0, 1, [
    ⟨F.TIM_PTP_DELAY_DELAY, .ro, false, none⟩]⟩,
  ⟨"TIM_TRIG_CFG", 0xE0100, 16, 4, 0, 1, [
    ⟨F.TIM_TRIG_CFG_MODE, .lck [.stop], false, none⟩,
    ⟨F.TIM_TRIG_CFG_EDGE, .rw, false, none⟩,
    ⟨F.TIM_TRIG_CFG_SF, .rw, false, none⟩,
    ⟨F.TIM_TRIG_CFG_POL, .rw, false, none⟩,
    ⟨F.TIM_TRIG_CFG_WIDTH, .rw, false, some (1, 50000)⟩]⟩,
  ⟨"TIM_TRIG_STAT", 0xE0104, 16, 4, 0, 1, [
    ⟨F.TIM_TRIG_STAT_COUNT, .rc, false, none⟩,
    ⟨F.TIM_TRIG_STAT_VALID, .ro, false, none⟩,
    ⟨F.TIM_TRIG_STAT_STEPPED, .ro, false, none⟩,
    ⟨F.TIM_TRIG_STAT_FALLING, .ro, false, none⟩,
    ⟨F.TIM_TRIG_STAT_PENDING, .ro, false, none⟩,
    ⟨F.TIM_TRIG_STAT_SEC_HI, .ro, false, none⟩]⟩,
  ⟨"TIM_TRIG_SEC", 0xE0108, 16, 4, 0, 1, [
    ⟨F.TIM_TRIG_SEC_SEC, .ro, false, none⟩]⟩,
  ⟨"TIM_TRIG_NS", 0xE010C, 16, 4, 0, 1, [
    ⟨F.TIM_TRIG_NS_NS, .ro, false, none⟩]⟩]

def regsRtc : List RegDesc := [
  ⟨"RTC_SUBSEC", 0xF0000, 0, 1, 0, 1, [
    ⟨F.RTC_SUBSEC_COUNT, .ro, true, none⟩]⟩,
  ⟨"RTC_SEC", 0xF0004, 0, 1, 0, 1, [
    ⟨F.RTC_SEC_SEC, .ro, true, none⟩]⟩,
  ⟨"RTC_MIN", 0xF0008, 0, 1, 0, 1, [
    ⟨F.RTC_MIN_MIN, .ro, true, none⟩]⟩,
  ⟨"RTC_HOUR", 0xF000C, 0, 1, 0, 1, [
    ⟨F.RTC_HOUR_HOUR, .ro, true, none⟩]⟩,
  ⟨"RTC_DAY", 0xF0010, 0, 1, 0, 1, [
    ⟨F.RTC_DAY_WEEKDAY, .ro, true, none⟩,
    ⟨F.RTC_DAY_DAY, .ro, true, none⟩]⟩,
  ⟨"RTC_MONTH", 0xF0014, 0, 1, 0, 1, [
    ⟨F.RTC_MONTH_MONTH, .ro, true, none⟩]⟩,
  ⟨"RTC_YEAR", 0xF0018, 0, 1, 0, 1, [
    ⟨F.RTC_YEAR_YEAR, .ro, true, none⟩]⟩,
  ⟨"RTC_W_SEC", 0xF0024, 0, 1, 0, 1, [
    ⟨F.RTC_W_SEC_VAL, .rw, false, none⟩]⟩,
  ⟨"RTC_W_MIN", 0xF0028, 0, 1, 0, 1, [
    ⟨F.RTC_W_MIN_VAL, .rw, false, none⟩]⟩,
  ⟨"RTC_W_HOUR", 0xF002C, 0, 1, 0, 1, [
    ⟨F.RTC_W_HOUR_VAL, .rw, false, none⟩]⟩,
  ⟨"RTC_W_DAY", 0xF0030, 0, 1, 0, 1, [
    ⟨F.RTC_W_DAY_VAL, .rw, false, none⟩]⟩,
  ⟨"RTC_W_MONTH", 0xF0034, 0, 1, 0, 1, [
    ⟨F.RTC_W_MONTH_VAL, .rw, false, none⟩]⟩,
  ⟨"RTC_W_YEAR", 0xF0038, 0, 1, 0, 1, [
    ⟨F.RTC_W_YEAR_VAL, .rw, false, none⟩]⟩,
  ⟨"RTC_COMMIT", 0xF0040, 0, 1, 0, 1, [
    ⟨F.RTC_COMMIT_GO, .wo, false, none⟩]⟩,
  ⟨"RTC_TRIM", 0xF0044, 0, 1, 0, 1, [
    ⟨F.RTC_TRIM_PULSES, .rw, true, some (-1023, 1023)⟩]⟩,
  ⟨"RTC_LEAP", 0xF0048, 0, 1, 0, 1, [
    ⟨F.RTC_LEAP_MODE, .rw, true, some (0, 2)⟩]⟩,
  ⟨"RTC_STAT", 0xF004C, 0, 1, 0, 1, [
    ⟨F.RTC_STAT_LOCKOUT, .ro, false, none⟩,
    ⟨F.RTC_STAT_FROZEN, .ro, false, none⟩,
    ⟨F.RTC_STAT_VBAT_LOW, .ro, false, none⟩,
    ⟨F.RTC_STAT_BAD_DATE, .rws, false, none⟩,
    ⟨F.RTC_STAT_DISCIPLINED, .ro, false, none⟩,
    ⟨F.RTC_STAT_OSF, .ro, true, none⟩]⟩,
  ⟨"RTC_CFG", 0xF0050, 0, 1, 0, 1, [
    ⟨F.RTC_CFG_DISCIPLINE, .rw, true, none⟩]⟩]

def regsMtr : List RegDesc := [
  ⟨"MTR_STAT", 0x100000, 0, 1, 0, 1, [
    ⟨F.MTR_STAT_RUN, .ro, false, none⟩,
    ⟨F.MTR_STAT_SUSPENDED, .ro, false, none⟩,
    ⟨F.MTR_STAT_VALID, .ro, false, none⟩]⟩,
  ⟨"MTR_CFG", 0x100004, 0, 1, 0, 1, [
    ⟨F.MTR_CFG_FD_EN, .lck [.stop], true, none⟩,
    ⟨F.MTR_CFG_NOMF, .lck [.stop], true, none⟩,
    ⟨F.MTR_CFG_SUBGROUP, .rw, false, none⟩,
    ⟨F.MTR_CFG_PAIR_ADOPT, .lck [.stop], false, none⟩]⟩,
  ⟨"MTR_AGS", 0x100008, 0, 1, 0, 1, [
    ⟨F.MTR_AGS_GLITCH, .lck [.stop], false, some (1, 8)⟩,
    ⟨F.MTR_AGS_UPHOLD, .lck [.stop], false, some (5, 100)⟩]⟩,
  ⟨"MTR_SAVE", 0x10000C, 0, 1, 0, 1, [
    ⟨F.MTR_SAVE_AGE, .ro, false, none⟩,
    ⟨F.MTR_SAVE_KIND, .ro, true, none⟩,
    ⟨F.MTR_SAVE_COPY, .ro, true, none⟩]⟩,
  ⟨"MTR_LOSS", 0x100010, 0, 1, 0, 1, [
    ⟨F.MTR_LOSS_KIND, .ro, false, none⟩,
    ⟨F.MTR_LOSS_UNSAVED, .ro, false, none⟩]⟩,
  ⟨"MTR_GAP", 0x100014, 0, 1, 0, 1, [
    ⟨F.MTR_GAP_GAP, .ro, false, none⟩]⟩,
  ⟨"MTR_LOSS_EST", 0x100018, 4, 4, 0, 1, [
    ⟨F.MTR_LOSS_EST_MWH, .ro, false, none⟩]⟩,
  ⟨"MTR_DEM", 0x100028, 0, 1, 0, 1, [
    ⟨F.MTR_DEM_MIN, .lck [.stop], false, none⟩]⟩,
  ⟨"MTR_CNT", 0x10002C, 0, 1, 0, 1, [
    ⟨F.MTR_CNT_EST_FRAMES, .rc, false, none⟩,
    ⟨F.MTR_CNT_GAIN_SW, .rc, false, none⟩]⟩,
  ⟨"MTR_CMD", 0x100030, 0, 1, 0, 1, [
    ⟨F.MTR_CMD_CONFIRM, .wo, false, none⟩,
    ⟨F.MTR_CMD_CODE, .wo, false, none⟩]⟩,
  ⟨"MTR_CMD_STAT", 0x100034, 0, 1, 0, 1, [
    ⟨F.MTR_CMD_STAT_CODE, .ro, false, none⟩,
    ⟨F.MTR_CMD_STAT_STATUS, .ro, false, none⟩]⟩,
  ⟨"MTR_ESEL", 0x100038, 0, 1, 0, 1, [
    ⟨F.MTR_ESEL_FEEDER, .rw, false, none⟩]⟩,
  ⟨"MTR_EWIN", 0x100040, 4, 64, 0, 1, [
    ⟨F.MTR_EWIN_WORD, .ro, false, none⟩]⟩,
  ⟨"MTR_CH_CFG", 0x100200, 16, 28, 0, 1, [
    ⟨F.MTR_CH_CFG_GAINMODE, .lck [.stop], false, none⟩,
    ⟨F.MTR_CH_CFG_FIXGAIN, .lck [.stop], false, none⟩,
    ⟨F.MTR_CH_CFG_DELAY, .lck [.stop], true, some (0, 2048)⟩]⟩,
  ⟨"MTR_CH_FS", 0x100204, 16, 28, 0, 1, [
    ⟨F.MTR_CH_FS_FS, .lck [.stop], true, some (1, 2147483647)⟩]⟩,
  ⟨"MTR_CH_CAL", 0x100208, 16, 28, 0, 1, [
    ⟨F.MTR_CH_CAL_GCORR, .lck [.stop], true, none⟩,
    ⟨F.MTR_CH_CAL_OFFSET, .lck [.stop], true, none⟩]⟩,
  ⟨"MTR_CH_STAT", 0x10020C, 16, 28, 0, 1, [
    ⟨F.MTR_CH_STAT_GAIN, .ro, false, none⟩,
    ⟨F.MTR_CH_STAT_SPARE, .ro, false, none⟩,
    ⟨F.MTR_CH_STAT_OVER, .ro, false, none⟩,
    ⟨F.MTR_CH_STAT_CLIPS, .rc, false, none⟩]⟩,
  ⟨"MTR_FD_MAXDEM", 0x100800, 16, 4, 0, 1, [
    ⟨F.MTR_FD_MAXDEM_W, .ro, true, none⟩]⟩,
  ⟨"MTR_FD_MAXT_LO", 0x100804, 16, 4, 0, 1, [
    ⟨F.MTR_FD_MAXT_LO_SEC, .ro, true, none⟩]⟩,
  ⟨"MTR_FD_MAXT_HI", 0x100808, 16, 4, 0, 1, [
    ⟨F.MTR_FD_MAXT_HI_SEC, .ro, true, none⟩]⟩,
  ⟨"MTR_ACC_LO", 0x101000, 256, 4, 8, 11, [
    ⟨F.MTR_ACC_LO_WIN, .ro, true, none⟩]⟩,
  ⟨"MTR_ACC_HI", 0x101004, 256, 4, 8, 11, [
    ⟨F.MTR_ACC_HI_TOP, .ro, true, none⟩,
    ⟨F.MTR_ACC_HI_WRAP, .ro, true, none⟩]⟩,
  ⟨"MTR_PUL_CFG", 0x102000, 16, 8, 0, 1, [
    ⟨F.MTR_PUL_CFG_EN, .lck [.stop], false, none⟩,
    ⟨F.MTR_PUL_CFG_POL, .lck [.stop], false, none⟩,
    ⟨F.MTR_PUL_CFG_FEEDERS, .lck [.stop], false, none⟩,
    ⟨F.MTR_PUL_CFG_Q, .lck [.stop], false, some (0, 10)⟩,
    ⟨F.MTR_PUL_CFG_WIDTH, .lck [.stop], false, some (1, 200)⟩]⟩,
  ⟨"MTR_PUL_CONST", 0x102004, 16, 8, 0, 1, [
    ⟨F.MTR_PUL_CONST_CONST, .lck [.stop], false, some (1, 16777215)⟩]⟩,
  ⟨"MTR_PUL_STAT", 0x102008, 16, 8, 0, 1, [
    ⟨F.MTR_PUL_STAT_PENDING, .ro, true, none⟩,
    ⟨F.MTR_PUL_STAT_OVERFLOW, .rc, false, none⟩]⟩]

def regsClb : List RegDesc := [
  ⟨"CLB_STAT", 0x110000, 0, 1, 0, 1, [
    ⟨F.CLB_STAT_TX, .ro, false, none⟩]⟩,
  ⟨"CLB_CFG", 0x110004, 0, 1, 0, 1, [
    ⟨F.CLB_CFG_RETRY, .lck [.stop], false, some (0, 3)⟩]⟩,
  ⟨"CLB_PORT_STAT", 0x110010, 16, 4, 0, 1, [
    ⟨F.CLB_PORT_STAT_DURATION, .ro, false, none⟩,
    ⟨F.CLB_PORT_STAT_STATIONS, .ro, false, none⟩]⟩,
  ⟨"CLB_PORT_CNT", 0x110014, 16, 4, 0, 1, [
    ⟨F.CLB_PORT_CNT_CRC_ERR, .rc, false, none⟩,
    ⟨F.CLB_PORT_CNT_MISSED, .rc, false, none⟩]⟩,
  ⟨"CLB_STN_CFG", 0x110100, 8, 128, 0, 1, [
    ⟨F.CLB_STN_CFG_PRESENT, .ro, false, none⟩,
    ⟨F.CLB_STN_CFG_WDOG, .ro, false, none⟩,
    ⟨F.CLB_STN_CFG_OUT, .ro, false, none⟩,
    ⟨F.CLB_STN_CFG_IN, .ro, false, none⟩]⟩,
  ⟨"CLB_STN_STAT", 0x110104, 8, 128, 0, 1, [
    ⟨F.CLB_STN_STAT_STATE, .ro, false, none⟩,
    ⟨F.CLB_STN_STAT_STAT, .ro, false, none⟩]⟩]

def regsDal : List RegDesc := [
  ⟨"DAL_LINE_CFG", 0x120010, 16, 4, 0, 1, [
    ⟨F.DAL_LINE_CFG_EN, .lck [.stop], false, none⟩,
    ⟨F.DAL_LINE_CFG_STOPARC, .lck [.stop], false, none⟩]⟩,
  ⟨"DAL_LINE_STAT", 0x120014, 16, 4, 0, 1, [
    ⟨F.DAL_LINE_STAT_POWER, .ro, false, none⟩,
    ⟨F.DAL_LINE_STAT_QUEUE, .ro, false, none⟩]⟩,
  ⟨"DAL_LINE_CNT", 0x120018, 16, 4, 0, 1, [
    ⟨F.DAL_LINE_CNT_COLLISIONS, .rc, false, none⟩,
    ⟨F.DAL_LINE_CNT_NOANSWER, .rc, false, none⟩]⟩]

def regsEth : List RegDesc := [
  ⟨"ETH_STAT", 0x130000, 0, 1, 0, 1, [
    ⟨F.ETH_STAT_LINK, .ro, false, none⟩]⟩,
  ⟨"ETH_CFG", 0x130004, 0, 1, 0, 1, [
    ⟨F.ETH_CFG_STORM, .lck [.stop], false, some (100, 65535)⟩]⟩,
  ⟨"ETH_IF_IP", 0x130010, 16, 2, 0, 1, [
    ⟨F.ETH_IF_IP_ADDR, .lck [.stop], true, none⟩]⟩,
  ⟨"ETH_IF_MASK", 0x130014, 16, 2, 0, 1, [
    ⟨F.ETH_IF_MASK_ADDR, .lck [.stop], true, none⟩]⟩,
  ⟨"ETH_IF_GW", 0x130018, 16, 2, 0, 1, [
    ⟨F.ETH_IF_GW_ADDR, .lck [.stop], true, none⟩]⟩,
  ⟨"ETH_IF_VLAN", 0x13001C, 16, 2, 0, 1, [
    ⟨F.ETH_IF_VLAN_TAG, .lck [.stop], true, none⟩,
    ⟨F.ETH_IF_VLAN_PCP, .lck [.stop], true, none⟩,
    ⟨F.ETH_IF_VLAN_VID, .lck [.stop], true, some (1, 4094)⟩]⟩,
  ⟨"ETH_PCNT", 0x130040, 4, 3, 0, 1, [
    ⟨F.ETH_PCNT_DROPS, .rc, false, none⟩,
    ⟨F.ETH_PCNT_RX_ERR, .rc, false, none⟩]⟩]

def regsHxm : List RegDesc := [
  ⟨"HXM_STAT", 0x140000, 0, 1, 0, 1, [
    ⟨F.HXM_STAT_SPI, .ro, false, none⟩,
    ⟨F.HXM_STAT_ETH, .ro, false, none⟩]⟩,
  ⟨"HXM_CFG", 0x140004, 0, 1, 0, 1, [
    ⟨F.HXM_CFG_IDLE, .rw, false, some (30, 3600)⟩]⟩,
  ⟨"HXM_CNT", 0x140008, 0, 1, 0, 1, [
    ⟨F.HXM_CNT_HANDSHAKE_FAIL, .rc, false, none⟩,
    ⟨F.HXM_CNT_BAD, .rc, false, none⟩,
    ⟨F.HXM_CNT_DUPLICATE, .rc, false, none⟩,
    ⟨F.HXM_CNT_STALE, .rc, false, none⟩]⟩,
  ⟨"HXM_HOST_CFG", 0x14000C, 0, 1, 0, 1, [
    ⟨F.HXM_HOST_CFG_EN, .lck [.stop], true, none⟩,
    ⟨F.HXM_HOST_CFG_ROLE, .lck [.stop], true, some (0, 2)⟩,
    ⟨F.HXM_HOST_CFG_KEYSLOT, .lck [.stop], true, none⟩]⟩,
  ⟨"HXM_HOST_STAT", 0x140010, 0, 1, 0, 1, [
    ⟨F.HXM_HOST_STAT_MAC_FAIL, .rc, false, none⟩,
    ⟨F.HXM_HOST_STAT_CRC_FAIL, .rc, false, none⟩]⟩]

def regsObs : List RegDesc := [
  ⟨"OBS_SEL", 0x150000, 4, 8, 0, 1, [
    ⟨F.OBS_SEL_EN, .rw, false, none⟩,
    ⟨F.OBS_SEL_GROUP, .rw, false, none⟩,
    ⟨F.OBS_SEL_SIGNAL, .rw, false, none⟩]⟩]

def regsSpl : List RegDesc := [
  ⟨"SPL_STAT", 0x160000, 0, 1, 0, 1, [
    ⟨F.SPL_STAT_LINK, .ro, false, none⟩,
    ⟨F.SPL_STAT_SYNC, .ro, false, none⟩,
    ⟨F.SPL_STAT_ROLE_IN, .ro, false, none⟩,
    ⟨F.SPL_STAT_ROLE_OUT, .ro, false, none⟩,
    ⟨F.SPL_STAT_PARTNER_HB, .ro, false, none⟩,
    ⟨F.SPL_STAT_ELIGIBLE, .ro, false, none⟩,
    ⟨F.SPL_STAT_PROTECTED, .ro, false, none⟩,
    ⟨F.SPL_STAT_REASON, .ro, false, none⟩]⟩,
  ⟨"SPL_CFG", 0x160004, 0, 1, 0, 1, [
    ⟨F.SPL_CFG_PAIR, .lck [.stop], true, none⟩,
    ⟨F.SPL_CFG_UNIT, .lck [.stop], true, none⟩,
    ⟨F.SPL_CFG_KEYSLOT, .lck [.stop], true, none⟩,
    ⟨F.SPL_CFG_HBMISS, .lck [.stop], false, some (5, 50)⟩,
    ⟨F.SPL_CFG_RESOLVE, .lck [.stop], false, some (5, 100)⟩]⟩,
  ⟨"SPL_VIP", 0x160008, 0, 1, 0, 1, [
    ⟨F.SPL_VIP_ADDR, .lck [.stop], true, none⟩]⟩,
  ⟨"SPL_CMD", 0x16000C, 0, 1, 0, 1, [
    ⟨F.SPL_CMD_CONFIRM, .wo, false, none⟩,
    ⟨F.SPL_CMD_CODE, .wo, false, none⟩]⟩,
  ⟨"SPL_CMD_STAT", 0x160010, 0, 1, 0, 1, [
    ⟨F.SPL_CMD_STAT_CODE, .ro, false, none⟩,
    ⟨F.SPL_CMD_STAT_STATUS, .ro, false, none⟩]⟩,
  ⟨"SPL_COPY", 0x160014, 0, 1, 0, 1, [
    ⟨F.SPL_COPY_LAST, .ro, false, none⟩,
    ⟨F.SPL_COPY_PEAK, .rc, false, none⟩]⟩,
  ⟨"SPL_CNT", 0x160018, 0, 1, 0, 1, [
    ⟨F.SPL_CNT_TAKEOVERS, .rc, false, none⟩,
    ⟨F.SPL_CNT_SWAPS, .rc, false, none⟩,
    ⟨F.SPL_CNT_HB_LOSS, .rc, false, none⟩,
    ⟨F.SPL_CNT_AUTH_FAIL, .rc, false, none⟩]⟩,
  ⟨"SPL_LAST_LO", 0x16001C, 0, 1, 0, 1, [
    ⟨F.SPL_LAST_LO_FRAME, .ro, false, none⟩]⟩,
  ⟨"SPL_LAST_HI", 0x160020, 0, 1, 0, 1, [
    ⟨F.SPL_LAST_HI_FRAME, .ro, false, none⟩]⟩,
  ⟨"SPL_PEER", 0x160024, 0, 1, 0, 1, [
    ⟨F.SPL_PEER_MODE, .ro, false, none⟩,
    ⟨F.SPL_PEER_ROLE, .ro, false, none⟩,
    ⟨F.SPL_PEER_LIFE, .ro, false, none⟩,
    ⟨F.SPL_PEER_COPYFMT, .ro, false, none⟩]⟩,
  ⟨"SPL_IDLE", 0x160028, 0, 1, 0, 1, [
    ⟨F.SPL_IDLE_HOURS, .ro, true, none⟩]⟩]

def regsUpd : List RegDesc := [
  ⟨"UPD_STAT", 0x170000, 0, 1, 0, 1, [
    ⟨F.UPD_STAT_STATE, .ro, false, none⟩,
    ⟨F.UPD_STAT_ACTIVE, .ro, false, none⟩,
    ⟨F.UPD_STAT_PROGRESS, .ro, false, none⟩,
    ⟨F.UPD_STAT_STATUS, .ro, false, none⟩]⟩,
  ⟨"UPD_CFG", 0x170004, 0, 1, 0, 1, [
    ⟨F.UPD_CFG_CONFIRM, .rw, false, some (60, 65535)⟩]⟩,
  ⟨"UPD_CMD", 0x170008, 0, 1, 0, 1, [
    ⟨F.UPD_CMD_CONFIRM, .wo, false, none⟩,
    ⟨F.UPD_CMD_CODE, .wo, false, none⟩]⟩,
  ⟨"UPD_CMD_STAT", 0x17000C, 0, 1, 0, 1, [
    ⟨F.UPD_CMD_STAT_CODE, .ro, false, none⟩,
    ⟨F.UPD_CMD_STAT_STATUS, .ro, false, none⟩]⟩,
  ⟨"UPD_SECVER", 0x170010, 0, 1, 0, 1, [
    ⟨F.UPD_SECVER_SECVER, .ro, true, none⟩]⟩,
  ⟨"UPD_BANK_STATE", 0x170040, 16, 2, 0, 1, [
    ⟨F.UPD_BANK_STATE_STATE, .ro, false, none⟩]⟩,
  ⟨"UPD_BANK_VER", 0x170044, 16, 2, 0, 1, [
    ⟨F.UPD_BANK_VER_VERSION, .ro, false, none⟩]⟩,
  ⟨"UPD_BANK_GEN", 0x170048, 16, 2, 0, 1, [
    ⟨F.UPD_BANK_GEN_GEN, .ro, false, none⟩]⟩,
  ⟨"UPD_BANK_SEC", 0x17004C, 16, 2, 0, 1, [
    ⟨F.UPD_BANK_SEC_COPYFMT, .ro, false, none⟩,
    ⟨F.UPD_BANK_SEC_SECVER, .ro, false, none⟩]⟩]

def regsKey : List RegDesc := [
  ⟨"KEY_STAT", 0x180000, 0, 1, 0, 1, [
    ⟨F.KEY_STAT_KILLED, .ro, true, none⟩,
    ⟨F.KEY_STAT_LATCH, .ro, true, none⟩,
    ⟨F.KEY_STAT_ROOT, .ro, false, none⟩,
    ⟨F.KEY_STAT_ROWS, .ro, true, none⟩,
    ⟨F.KEY_STAT_KAT_OK, .ro, false, none⟩,
    ⟨F.KEY_STAT_CACHED, .ro, false, none⟩,
    ⟨F.KEY_STAT_SLOTS, .ro, false, none⟩]⟩,
  ⟨"KEY_CMD", 0x180004, 0, 1, 0, 1, [
    ⟨F.KEY_CMD_CONFIRM, .wo, false, none⟩,
    ⟨F.KEY_CMD_CODE, .wo, false, none⟩]⟩,
  ⟨"KEY_CMD_STAT", 0x180008, 0, 1, 0, 1, [
    ⟨F.KEY_CMD_STAT_CODE, .ro, false, none⟩,
    ⟨F.KEY_CMD_STAT_STATUS, .ro, false, none⟩]⟩,
  ⟨"KEY_ARG", 0x18000C, 0, 1, 0, 1, [
    ⟨F.KEY_ARG_SLOT, .rw, false, none⟩,
    ⟨F.KEY_ARG_PARENT, .rw, false, none⟩,
    ⟨F.KEY_ARG_FROM_ROOT, .rw, false, none⟩]⟩,
  ⟨"KEY_NEWATTR", 0x180010, 0, 1, 0, 1, [
    ⟨F.KEY_NEWATTR_ATTR, .rw, false, none⟩]⟩,
  ⟨"KEY_NEWUSE", 0x180014, 0, 1, 0, 1, [
    ⟨F.KEY_NEWUSE_USES, .rw, false, some (1, 65535)⟩]⟩,
  ⟨"KEY_LABEL", 0x180020, 4, 8, 0, 1, [
    ⟨F.KEY_LABEL_OCT, .wo, false, none⟩]⟩,
  ⟨"KEY_IN", 0x180100, 4, 64, 0, 1, [
    ⟨F.KEY_IN_OCT, .wo, false, none⟩]⟩,
  ⟨"KEY_OUT", 0x180200, 4, 64, 0, 1, [
    ⟨F.KEY_OUT_OCT, .ro, false, none⟩]⟩,
  ⟨"KEY_SLOT_ATTR", 0x181000, 8, 256, 0, 1, [
    ⟨F.KEY_SLOT_ATTR_KIND, .ro, true, none⟩,
    ⟨F.KEY_SLOT_ATTR_MASTER, .ro, true, none⟩,
    ⟨F.KEY_SLOT_ATTR_PAIRCORE, .ro, true, none⟩,
    ⟨F.KEY_SLOT_ATTR_WORLD, .ro, true, none⟩,
    ⟨F.KEY_SLOT_ATTR_LIFE, .ro, true, none⟩,
    ⟨F.KEY_SLOT_ATTR_USE, .ro, true, none⟩,
    ⟨F.KEY_SLOT_ATTR_DEPTH, .ro, true, none⟩,
    ⟨F.KEY_SLOT_ATTR_FALLBACK, .ro, true, none⟩,
    ⟨F.KEY_SLOT_ATTR_SIZE, .ro, true, none⟩]⟩,
  ⟨"KEY_SLOT_USE", 0x181004, 8, 256, 0, 1, [
    ⟨F.KEY_SLOT_USE_ROOTED, .ro, true, none⟩,
    ⟨F.KEY_SLOT_USE_PARENT, .ro, true, none⟩,
    ⟨F.KEY_SLOT_USE_USES, .ro, true, none⟩]⟩]

def regsLog : List RegDesc := [
  ⟨"LOG_STAT", 0x190000, 0, 1, 0, 1, [
    ⟨F.LOG_STAT_HELD, .ro, true, none⟩]⟩,
  ⟨"LOG_NEWEST", 0x190004, 0, 1, 0, 1, [
    ⟨F.LOG_NEWEST_ACC, .ro, true, none⟩]⟩,
  ⟨"LOG_CNT", 0x190008, 0, 1, 0, 1, [
    ⟨F.LOG_CNT_DROPPED, .rc, false, none⟩,
    ⟨F.LOG_CNT_QDROP, .rc, false, none⟩,
    ⟨F.LOG_CNT_TORN, .ro, false, none⟩]⟩,
  ⟨"LOG_SEV0", 0x19000C, 0, 1, 0, 1, [
    ⟨F.LOG_SEV0_CRIT, .ro, true, none⟩,
    ⟨F.LOG_SEV0_ERROR, .ro, true, none⟩]⟩,
  ⟨"LOG_SEV1", 0x190010, 0, 1, 0, 1, [
    ⟨F.LOG_SEV1_WARN, .ro, true, none⟩,
    ⟨F.LOG_SEV1_INFO, .ro, true, none⟩]⟩,
  ⟨"LOG_OPTIME_LO", 0x190014, 0, 1, 0, 1, [
    ⟨F.LOG_OPTIME_LO_MS, .ro, true, none⟩]⟩,
  ⟨"LOG_OPTIME_HI", 0x190018, 0, 1, 0, 1, [
    ⟨F.LOG_OPTIME_HI_MS, .ro, true, none⟩]⟩,
  ⟨"LOG_PWRCYC", 0x19001C, 0, 1, 0, 1, [
    ⟨F.LOG_PWRCYC_COUNT, .ro, true, none⟩]⟩,
  ⟨"LOG_SEL", 0x190020, 0, 1, 0, 1, [
    ⟨F.LOG_SEL_ACC, .rw, false, none⟩]⟩,
  ⟨"LOG_WIN", 0x190040, 4, 16, 0, 1, [
    ⟨F.LOG_WIN_WORD, .ro, false, none⟩]⟩,
  ⟨"LOG_VIT_CFG", 0x190100, 0, 1, 0, 1, [
    ⟨F.LOG_VIT_CFG_POST, .rw, false, none⟩,
    ⟨F.LOG_VIT_CFG_TRIG, .rw, false, none⟩]⟩,
  ⟨"LOG_VIT_STAT", 0x190104, 0, 1, 0, 1, [
    ⟨F.LOG_VIT_STAT_FROZEN, .ro, true, none⟩,
    ⟨F.LOG_VIT_STAT_TRIGGER, .ro, true, none⟩,
    ⟨F.LOG_VIT_STAT_NEWEST, .ro, true, none⟩,
    ⟨F.LOG_VIT_STAT_MISSED, .rc, false, none⟩]⟩,
  ⟨"LOG_VIT_CMD", 0x190108, 0, 1, 0, 1, [
    ⟨F.LOG_VIT_CMD_CODE, .wo, false, none⟩]⟩,
  ⟨"LOG_VIT_FRAME_LO", 0x19010C, 0, 1, 0, 1, [
    ⟨F.LOG_VIT_FRAME_LO_FRAME, .ro, true, none⟩]⟩,
  ⟨"LOG_VIT_FRAME_HI", 0x190110, 0, 1, 0, 1, [
    ⟨F.LOG_VIT_FRAME_HI_FRAME, .ro, true, none⟩]⟩]

def regsBst : List RegDesc := [
  ⟨"BST_STAT", 0x1A0000, 0, 1, 0, 1, [
    ⟨F.BST_STAT_LAST, .ro, true, none⟩,
    ⟨F.BST_STAT_REPAIRED, .ro, true, none⟩,
    ⟨F.BST_STAT_FAILED, .ro, true, none⟩,
    ⟨F.BST_STAT_DURATION, .ro, true, none⟩]⟩,
  ⟨"BST_FAIL", 0x1A0004, 0, 1, 0, 1, [
    ⟨F.BST_FAIL_ITEMS, .ro, true, none⟩]⟩,
  ⟨"BST_CMD", 0x1A0008, 0, 1, 0, 1, [
    ⟨F.BST_CMD_CONFIRM, .wo, false, none⟩,
    ⟨F.BST_CMD_CODE, .wo, false, none⟩]⟩,
  ⟨"BST_CMD_STAT", 0x1A000C, 0, 1, 0, 1, [
    ⟨F.BST_CMD_STAT_CODE, .ro, false, none⟩,
    ⟨F.BST_CMD_STAT_STATUS, .ro, false, none⟩]⟩,
  ⟨"BST_MOD", 0x1A0010, 0, 1, 0, 1, [
    ⟨F.BST_MOD_EN1, .ro, true, none⟩,
    ⟨F.BST_MOD_EN0, .ro, true, none⟩,
    ⟨F.BST_MOD_FUSED1, .ro, true, none⟩,
    ⟨F.BST_MOD_FUSED0, .ro, true, none⟩,
    ⟨F.BST_MOD_CH1, .ro, true, none⟩,
    ⟨F.BST_MOD_CH0, .ro, true, none⟩]⟩,
  ⟨"BST_GROWS", 0x1A0040, 4, 16, 0, 1, [
    ⟨F.BST_GROWS_FUSED, .ro, true, none⟩,
    ⟨F.BST_GROWS_USED, .ro, true, none⟩]⟩,
  ⟨"BST_EROWS", 0x1A0080, 4, 24, 0, 1, [
    ⟨F.BST_EROWS_FUSED, .ro, true, none⟩,
    ⟨F.BST_EROWS_USED, .ro, true, none⟩]⟩]

/-- The registers of a block, by the block number of Table 01.4. -/
def blockRegs : Nat → List RegDesc
  | 0 => regsSys
  | 1 => regsGal
  | 2 => regsSem
  | 3 => regsFif
  | 4 => regsFrm
  | 5 => regsPlx
  | 6 => regsLgt
  | 7 => regsNet
  | 8 => regsRad
  | 9 => regsDrv
  | 10 => regsLop
  | 11 => regsGns
  | 12 => regsFlt
  | 13 => regsStp
  | 14 => regsTim
  | 15 => regsRtc
  | 16 => regsMtr
  | 17 => regsClb
  | 18 => regsDal
  | 19 => regsEth
  | 20 => regsHxm
  | 21 => regsObs
  | 22 => regsSpl
  | 23 => regsUpd
  | 24 => regsKey
  | 25 => regsLog
  | 26 => regsBst
  | _ => []

end Sys2Proof.Machine
end

