-- ==== Sys2Proof/Machine/State.lean ====
section
/-!
DEFINITION. The state of the module as plain data, the reasons a command can stop, and the state right after reset.
-/
namespace Sys2Proof.Machine

/-- Reasons a command stops with a fault. No command of this model does: every command of the table has an effect, or is
answered with a status, or changes nothing because its condition does not hold. -/
inductive Fault where
  /-- Raised by no meaning of this model; kept so that the type has a member. Safe: the machine would stop. -/
  | unreachable
  deriving DecidableEq, Repr

/-- Reasons a command is refused. -/
inductive Refusal where
  /-- Raised by Machine/Dispatch.lean for a command whose meaning is not written. Safe: the machine stops. -/
  | notModelled (mnemonic : String)
  deriving DecidableEq, Repr

/-- The state of the module. `regs` holds the register fields, keyed by 32 · (byte address of the register) + lowest bit of
the field; a key that is absent holds the field's reset value. `latch` holds what a requester latched in a window (R254),
keyed by 2048 · window + requester. `mem` is the memory behind the engine address map (Tables 01.2 and 01.3). `free` is the
model's own counter of the free values it has used. `out` is what the command in progress emits. `pending` is the queue of
commands. -/
@[ext]
structure State where
  phase : Phase := .reset
  mode : Mode := .stop
  role : Role := .solo
  regs : SMap Nat := []
  latch : SMap (List Nat) := []
  frame : Frame := {}
  gal : Gallery := {}
  prog : Prog := {}
  light : Light := {}
  net : Network := {}
  drv : DriveSt := {}
  pos : Positioning := {}
  fleet : Fleet := {}
  stp : Lanyard := {}
  time : TimeSt := {}
  rtc : RtcSt := {}
  meter : Meter := {}
  wired : Wired := {}
  spl : Splice := {}
  upd : Update := {}
  keys : Keys := {}
  recs : Records := {}
  bst : SelfTest := {}
  mem : List Host.Cell := []
  free : Nat := 0
  out : List Out := []
  pending : List Instr := []
  deriving DecidableEq, Repr

/-- The module right after RESET_N at its first power-up (R15, R618): every register field at the Reset column of its table
or at its first power-up value, nothing listed in memory, the queue empty. Values the spec does not give are log entries 1 to 6. -/
def State.reset : State := { gal := { masked := resetMask } }

end Sys2Proof.Machine
end

