-- ==== Sys2Proof/Machine/Regs.lean ====
section
/-!
DEFINITION. Register fields: the instance of an array field, reading and writing one field, and finding the register at an
address (R10, R15, R16, Table 00.5).
-/
namespace Sys2Proof.Machine

/-- Default tickets of requester `r` in bank `b` (Table 01.5). -/
def defaultTickets (b r : Nat) : Nat :=
  if r < 2 then 32 else if r < 6 then 48 else if r < 12 then 16 else if r < 16 then 24 else if r < 18 then 12
  else if r < 20 then 40 else if r < 22 then 24 else if r = 22 then 8
  else if r = 23 then (if b = 15 then 16 else 0) else if r < 28 then 16 else 0

/-- The reset value of instance (i, j) of a field. -/
def Fld.rstAt (f : Fld) (i j : Nat) : Nat :=
  match f.kind with
  | .plain => f.rst
  | .ticket k => defaultTickets i (4 * j + k)
  | .quotaMin => [4, 64, 0, 1].getD i 0
  | .quotaMax => [32, 64, 256, 4].getD i 0
  | .limit => [0, 4, 4, 2, 10, 3, 20, 8, 4, 0].getD i 0
  | .deadline => [9500, 7000, 8000, 1000, 0, 0, 0, 0, 2000, 10000].getD i 0
  | .evac => if i = 2 then 65535 else f.rst

/-- Instance (i, j) of an array field. -/
def Fld.at2 (f : Fld) (i j : Nat) : Fld :=
  { f with addr := f.addr + i * f.s1 + j * f.s2, rst := f.rstAt i j }

/-- Instance i of an array field. -/
def Fld.at (f : Fld) (i : Nat) : Fld := f.at2 i 0

/-- Where a field is kept in `State.regs`. -/
def Fld.key (f : Fld) : Nat := f.addr * 32 + f.lo

/-- The largest value of a field. -/
def Fld.max (f : Fld) : Nat := 2 ^ f.width - 1

/-- A register field as it stands. -/
def State.get (s : State) (f : Fld) : Nat := (SMap.get? s.regs f.key).getD f.rst

/-- A register field as a signed number. -/
def State.getI (s : State) (f : Fld) : Int := toInt f.width (s.get f)

def State.flag (s : State) (f : Fld) : Bool := s.get f ≠ 0

/-- Give a register field a value; a value equal to its reset value is not kept. -/
def State.put (s : State) (f : Fld) (v : Nat) : State :=
  { s with regs := SMap.put f.rst s.regs f.key (v % 2 ^ f.width) }

def State.putI (s : State) (f : Fld) (z : Int) : State := s.put f (ofInt f.width z)
def State.putB (s : State) (f : Fld) (b : Bool) : State := s.put f (b2n b)

/-- Add to a counting field, saturating at its largest value. -/
def State.add (s : State) (f : Fld) (n : Nat) : State := s.put f (satAdd f.max (s.get f) n)
def State.inc (s : State) (f : Fld) : State := s.add f 1

/-- The indices of the instance of a register that lies at an address. -/
def RegDesc.locate (r : RegDesc) (addr : Nat) : Option (Nat × Nat) :=
  if addr < r.addr then none
  else
    let d := addr - r.addr
    let i := if r.s1 = 0 then 0 else d / r.s1
    let e := d - i * r.s1
    let j := if r.s2 = 0 then 0 else e / r.s2
    if e = j * r.s2 && decide (i < r.n1) && decide (j < r.n2) then some (i, j) else none

def locateIn (addr : Nat) : List RegDesc → Option (RegDesc × Nat × Nat)
  | [] => none
  | r :: l => match r.locate addr with
    | some (i, j) => some (r, i, j)
    | none => locateIn addr l

/-- The register at an address, with its indices (R16). -/
def findReg (addr : Nat) : Option (RegDesc × Nat × Nat) := locateIn addr (blockRegs (addr / 65536))

end Sys2Proof.Machine
end

