-- ==== Sys2Proof/Machine/Views.lean ====
section
/-!
DEFINITION. Read-only register fields that show other parts of the state, and the word a register holds. A read through
these has no effect; reads that act stand in Machine/Registers.lean.
-/
namespace Sys2Proof.Machine

/-! ### Small readings of the state -/

/-- Module time, TAI ns (R71, R430). -/
def State.now (s : State) : Nat := s.frame.start + s.frame.off

/-- Monotonic time, ns (R432). -/
def State.mono (s : State) : Nat := (Int.ofNat s.now - s.time.stepSum).toNat

def State.num (s : State) : Nat := s.frame.num
def State.aligned (s : State) : Bool := s.flag F.FRM_STAT_ALIGNED

/-- A block that self-test took out of service (R606): an item of Table 14.7, and the place in it. -/
def State.bad (s : State) (item place : Nat) : Bool := s.bst.bad.contains (item, place)

/-- What a requester latched in a window (R254). -/
def State.latched (s : State) (win rk : Nat) : List Nat := SMap.getD s.latch (2048 * win + rk) []
def State.setLatch (s : State) (win rk : Nat) (l : List Nat) : State :=
  { s with latch := SMap.put [] s.latch (2048 * win + rk) l }

/-- UTC in ms at a TAI instant in ms (R448): held at 23:59:59.999 during an inserted second, LEAP one more after it. -/
def State.utcMs (s : State) (tai : Int) : Int :=
  let leap : Int := s.get F.TIM_UTC_LEAP
  match s.time.insFrom with
  | some t0 =>
    if tai < (t0 : Int) then tai - 1000 * leap
    else if tai < (t0 : Int) + 1000 then (t0 : Int) - 1 - 1000 * leap
    else tai - 1000 * (leap + 1)
  | none => tai - 1000 * leap

/-- The instant at which the frame in progress ends: 10 ms after its start, or at the realignment (R69, R75). -/
def State.frameEnd (s : State) : Nat :=
  match s.frame.realign with
  | some k => k * 10000000
  | none => s.frame.start + 10000000

/-- Numbers of the latched windows. -/
def Win.num : Nat := 1
def Win.node : Nat := 2
def Win.staging : Nat := 3
def Win.cal : Nat := 4
def Win.assoc : Nat := 5
def Win.fix : Nat := 6
def Win.sec : Nat := 7
def Win.log : Nat := 8
def Win.optime : Nat := 9
def Win.meter : Nat := 10
def Win.trig (t : Nat) : Nat := 16 + t
def Win.acc (f q : Nat) : Nat := 32 + 16 * f + q

/-- Entries a FIFO holds at most (FIF_CFG.SIZE). -/
def State.fifoCap (s : State) (f : Nat) : Nat := 256 * 2 ^ s.get (F.FIF_CFG_SIZE.at f)
def State.fifo (s : State) (f : Nat) : Fifo := SMap.getD s.gal.fifos f {}

def State.session (s : State) (c : Nat) : Option Session := SMap.get? s.gal.sessions c
/-- Contexts of a type in use. -/
def State.sessCount (s : State) (t : Nat) : Nat := countP (fun x => x.typ = t) (SMap.vals s.gal.sessions)
/-- Open sessions of a type. -/
def State.sessOpen (s : State) (t : Nat) : Nat :=
  countP (fun x => x.typ = t && x.state = 2) (SMap.vals s.gal.sessions)

def State.sect (s : State) (k : Nat) : Sect := s.prog.sects.getD k {}

def State.rover (s : State) (r : Nat) : RovFleet := SMap.getD s.fleet.rovers r {}
def State.rovPos (s : State) (r : Nat) : RovPos := SMap.getD s.pos.rovers r {}

/-- The task a rover has OFFERED or ACTIVE (Table 09.4). -/
def State.taskOf (s : State) (r : Nat) : Option (Nat × Task) :=
  s.fleet.tasks.find? (fun p => (p.2.st = 2 || p.2.st = 3) && p.2.rover = r)
def State.activeTask (s : State) (r : Nat) : Option (Nat × Task) :=
  s.fleet.tasks.find? (fun p => p.2.st = 3 && p.2.rover = r)

/-- Effective priority of a rover (R404). -/
def State.effPrio (s : State) (r : Nat) : Nat :=
  let base := match s.activeTask r with
    | some (_, t) => t.prio
    | none => s.get (F.FLT_RV_CFG_PRIO.at r)
  min 255 (base + (s.rover r).victim)

def State.segment (s : State) (g : Nat) : Option Segment := SMap.get? s.fleet.graph.segments g

/-- The segments a rover holds: reserved, or occupied as its latest STATUS reports (R391, R392). Occupied segments are FRONT,
REAR and the route's segments between them; a revoked segment counts as held until its revocation is confirmed (R400). -/
def RovFleet.occupied (r : RovFleet) : List Nat :=
  match r.st with
  | none => []
  | some b =>
    let path := match r.route.findIdx? (· = b.rear), r.route.findIdx? (· = b.front) with
      | some i, some j => (r.route.drop (min i j)).take (max i j - min i j + 1)
      | _, _ => []
    let l := b.front :: b.rear :: path ++ r.extra.toList
    l.eraseDups
def RovFleet.holds (r : RovFleet) : List Nat :=
  (r.resv.map Resv.seg ++ r.revs.map Revoc.seg ++ r.occupied).eraseDups

/-- The segments of a corridor, ascending. -/
def State.corridor (s : State) (c : Nat) : List Nat :=
  (s.fleet.graph.segments.filter (fun p => p.2.cor = some c)).map Prod.fst

/-- The rover that holds a corridor (R392). -/
def State.corHolder (s : State) (c : Nat) : Option Nat :=
  let segs := s.corridor c
  (s.fleet.rovers.find? (fun p => p.2.holds.any (fun g => segs.contains g))).map Prod.fst

/-- Superframes of exclusion left (R404). -/
def State.backoffLeft (s : State) (r : Nat) : Nat :=
  let v := s.rover r
  if v.backoffSegs = [] then 0 else min 255 ((v.backoffEnd - s.mono + 99999999) / 100000000)

def State.lifeCode (s : State) : Nat := s.keys.life.code

def State.bank (s : State) (b : Nat) : Bank := s.upd.banks.getD b {}
/-- Fields of a bank's image header (Table 13.5). -/
def Bank.copyfmt (b : Bank) : Nat := u16 b.head 6
def Bank.version (b : Bank) : Nat := u32 b.head 8
def Bank.secver (b : Bank) : Nat := u8 b.head 12

/-- A Follower is eligible for takeover (R554). -/
def State.eligible (s : State) : Bool :=
  s.role = .follower && s.mode = .shadow && s.phase = .running && s.get F.SPL_STAT_SYNC = 2 && s.aligned
    && (s.keys.life = .provisioned || s.keys.life = .deployed)
    && !s.frame.modeReqs.any (fun r => r.ev = .shutdown true || r.ev = .shutdown false)

def State.trig (s : State) (t : Nat) : Trig := SMap.getD s.time.trigs t {}

def State.keySlot (s : State) (k : Nat) : KeySlot := SMap.getD s.keys.slots k {}

def State.feeder (s : State) (f : Nat) : Feeder := s.meter.feeders.getD f {}

/-! ### The calendar (R463) -/

/-- Days from 2000-01-01 to the first day of a year. -/
def daysToYear (y : Nat) : Nat :=
  let n := y - 2000
  365 * n + (n + 3) / 4 - (n + 99) / 100 + (n + 399) / 400
def leapYear (y : Nat) : Bool := y % 4 = 0 && (y % 100 ≠ 0 || y % 400 = 0)
def monthLen (y m : Nat) : Nat :=
  if m = 2 then (if leapYear y then 29 else 28) else if m = 4 || m = 6 || m = 9 || m = 11 then 30 else 31

/-- Month and day from the day of the year, by counting months off. -/
def monthDay (y : Nat) : Nat → Nat → Nat → Nat × Nat
  | 0, m, d => (m, d)
  | k + 1, m, d => if d < monthLen y m then (m, d) else monthDay y k (m + 1) (d - monthLen y m)

/-- A date and time of day. -/
structure Civil where
  year : Nat
  month : Nat
  day : Nat
  hour : Nat
  min : Nat
  sec : Nat
  weekday : Nat
  deriving DecidableEq, Repr

/-- The civil date of seconds since 2000-01-01 00:00:00, a Saturday. -/
def civil (secs : Nat) : Civil :=
  let d := secs / 86400
  let t := secs % 86400
  let y0 := 2000 + d * 400 / 146097
  let y := if daysToYear (y0 + 1) ≤ d then y0 + 1 else if d < daysToYear y0 then y0 - 1 else y0
  let (m, k) := monthDay y 12 1 (d - daysToYear y)
  ⟨y, m, k + 1, t / 3600, t / 60 % 60, t % 60, (d + 5) % 7⟩

/-- Seconds since 2000-01-01 of a valid date. -/
def secsOf (y m d h mi sec : Nat) : Nat :=
  let days := daysToYear y + sumN ((List.range (m - 1)).map (fun k => monthLen y (k + 1))) + (d - 1)
  86400 * days + 3600 * h + 60 * mi + sec

/-- What the RTC registers RTC_SEC to RTC_YEAR show of a count: second, minute, hour, weekday, day, month, year. -/
def RtcT.civil (t : RtcT) : Civil :=
  let c := Machine.civil t.secs
  if t.in60 then { c with sec := 60 } else c

/-- The count a requester sees: its shadow while frozen, or the live count (R461). -/
def State.rtcSeen (s : State) (rk : Nat) : RtcT :=
  match SMap.get? s.rtc.shadows rk with
  | some x => if s.mono < x.untilMono then x.t else s.rtc.lockT.getD s.rtc.t
  | none => s.rtc.lockT.getD s.rtc.t
/-- A requester is frozen, until 1 s has passed (R461). -/
def State.frozen (s : State) (rk : Nat) : Bool :=
  match SMap.get? s.rtc.shadows rk with
  | some x => decide (s.mono < x.untilMono)
  | none => false

/-- The module disciplines the RTC (R467). -/
def State.disciplined (s : State) : Bool := s.flag F.RTC_CFG_DISCIPLINE && s.flag F.TIM_STAT_TIME_VALID

/-! ### Fields of the register tables that show other state -/

/-- The Gallery clock, 800 MHz, of the present instant. -/
def State.galClock (s : State) : Nat := s.mono * 4 / 5

/-- The LFSR at a Gallery clock not before that of its last step: it advances in every one (R34). -/
def State.lfsrAtClock (s : State) (c : Nat) : Nat := lfsrJump (c - s.gal.lfsrAt) (s.get F.GAL_LFSR_STATE)

/-- Octets as a word of a latched list of words. -/
def winWord (l : List Nat) (j : Nat) : Nat := l.getD j 0

def viewSys (s : State) : Nat → Nat → Option Nat
  | 0x0, 0 => some s.mode.code
  | 0x4, _ => some s.role.code
  | 0x8, _ => some s.lifeCode
  | _, _ => none

def viewGal (s : State) (i : Nat) : Nat → Nat → Option Nat
  | 0x0000, 0 => some (s.lfsrAtClock s.galClock)
  | 0x8000, 16 => some (s.sessCount 0)
  | 0x8000, 0 => some (s.sessCount 1)
  | 0x8004, 16 => some (s.sessCount 2)
  | 0x8004, 0 => some (s.sessCount 3)
  | 0xA000, 30 => (s.session i).map (·.typ)
  | 0xA000, 28 => (s.session i).map (·.state)
  | 0xA000, 0 => (s.session i).map (·.peer)
  | 0xA004, 0 => (s.session i).map (·.slot)
  | 0xA008, 0 => (s.session i).map (·.high)
  | 0xA00C, 16 => (s.session i).map (fun x => countP (fun e => e.cached.isSome) x.window)
  | 0xA00C, 0 => (s.session i).map (fun x => countP (fun e => !e.done) x.window)
  | _, _ => none

/-- SEM_PEEKn is one field with the layout of SEM_SEMn (R48). -/
def viewSem (s : State) (i : Nat) : Nat → Nat → Option Nat
  | 0x0, 30 => some (b2n (decide (s.get (F.SEM_SEMn_OWNER.at i) ≠ 31)))
  | 0x400, _ =>
    let o := s.get (F.SEM_SEMn_OWNER.at i)
    some (2 ^ 30 * b2n (decide (o ≠ 31)) + 2 ^ 29 * s.get (F.SEM_SEMn_ABANDONED.at i) + o)
  | _, _ => none

def viewFif (s : State) (i : Nat) : Nat → Nat → Option Nat
  | 0x14, _ => some (s.fifo i).lastHi
  | 0x20, 16 => some (s.fifo i).entries.length
  | 0x20, 3 => some (b2n (s.fifo i).dropping)
  | 0x20, 2 => some (b2n (s.fifo i).lastTag)
  | 0x20, 1 => some (b2n (decide ((s.fifo i).entries.length = s.fifoCap i)))
  | 0x20, 0 => some (b2n (decide ((s.fifo i).entries = [])))
  | 0x28, 16 => some (s.fifo i).wptr
  | 0x28, 0 => some (s.fifo i).rptr
  | _, _ => none

def viewFrm (s : State) (rk : Nat) : Nat → Nat → Option Nat
  | 0x0, _ => some (s.num % 2 ^ 32)
  | 0x4, 0 => some (winWord (s.latched Win.num rk) 0)
  | 0x8, 16 => some (s.num % 10)
  | 0x8, 0 => some (s.frame.off / 1000)
  | 0xC, 1 => some (b2n s.frame.transitional)
  | _, _ => none

def viewPlx (s : State) (i : Nat) : Nat → Nat → Option Nat
  | 0x0, 28 => some (sumN ((List.range 4).map (fun k => if (s.sect k).st = .absent then 0 else 2 ^ k)))
  | 0x0, 24 => some (sumN ((List.range 4).map (fun k => (s.sect k).bank % 2 * 2 ^ k)))
  | 0x0, 15 => some (b2n s.prog.pkg.isSome)
  | 0x0, 14 => some (b2n s.prog.running)
  | 0x0, 13 => some (b2n s.prog.halted)
  | 0x0, 12 => some (b2n s.prog.short)
  | 0x0, 11 => some (b2n (decide (s.prog.forces ≠ [])))
  | 0x4, 8 => some s.prog.forces.length
  | 0x4, 0 => some (match s.prog.pkg with | some p => p.len | none => 0)
  | 0x8, _ => some (s.prog.cycles % 2 ^ 32)
  | 0xC, 16 => some (min 255 s.prog.skipRun)
  | 0x40, 30 => some (match (s.sect i).st with | .absent => 0 | .waiting => 1 | .executing => 2 | .halted => 3)
  | 0x40, 29 => some (s.sect i).bank
  | 0x40, 0 => some (s.sect i).pc
  | 0x200, 0 => some (match s.prog.hit with | some (k, b) => 8 * k + b | none => 0xFF)
  | _, _ => none

def viewLgt (s : State) (rk i : Nat) : Nat → Nat → Option Nat
  | 0x28, 16 => some (countP (·.stuck) (SMap.vals s.light.nodes))
  | 0x28, 0 => some (countP (·.disc) (SMap.vals s.light.nodes))
  | 0x100, _ => some (winWord (s.latched Win.node rk) i)
  | 0x200, _ => some (winWord (s.latched Win.staging rk) i)
  | 0x380, _ => some (winWord (s.latched Win.cal rk) i)
  | 0x1004, 24 => some (SMap.getD s.light.inForce i 0)
  | 0x1004, 23 => some (b2n ((SMap.get? s.light.groupOv i).isSome
      || s.light.nodes.any (fun p => p.2.group = i && (SMap.get? s.light.nodeOv p.1).isSome)))
  | 0x1004, 22 => some (b2n (SMap.get? s.light.emerg i).isSome)
  | 0x1004, 21 => some (b2n (SMap.get? s.light.lanyard i).isSome)
  | 0x1004, 20 => some (b2n (SMap.get? s.light.overlay i).isSome)
  | 0x1004, 19 => some (b2n (SMap.get? s.light.recipeOn i).isSome)
  | 0x1004, 0 => some (countP (fun n => n.group = i) (SMap.vals s.light.nodes))
  | 0x0, 29 => some (if s.mode = .shadow then 4 else if !s.light.running then 0
      else match s.mode with | .stop => 1 | .run => 2 | .hold => 3 | _ => 0)
  | 0x0, 4 => some (s.get F.TIM_STAT_TOD)
  | 0x0, 3 => some (b2n (decide (s.light.lanyard ≠ [])))
  | 0x0, 2 => some (b2n (decide (s.light.emerg ≠ [])))
  | 0x0, 1 => some (b2n s.light.resyncTag.isSome)
  | _, _ => none

def State.radio (s : State) (r : Nat) : Radio := s.net.radios.getD r {}

/-- Transmit time, or uplink time granted, in the duty window, LSB 0.01 % (RAD_AIR). -/
def State.airUsed (s : State) (r : Nat) : Nat :=
  sumN ((s.radio r).air.map (fun p => p.2.1)) / (100 * Nat.max 1 (s.get (F.RAD_DUTY_WINDOW.at r)))
def State.airGranted (s : State) (r : Nat) : Nat :=
  sumN ((s.radio r).granted.map Prod.snd) / (100 * Nat.max 1 (s.get (F.RAD_DUTY_WINDOW.at r)))

def viewRad (s : State) (i : Nat) : Nat → Nat → Option Nat
  | 0x0, 26 => if 4 ≤ i then some 2 else none
  | 0x10, 30 => some (b2n (s.radio i).chgPending)
  | 0x10, 16 => some (s.radio i).remain
  | 0x24, 16 => some (min 65535 (s.airGranted i))
  | 0x24, 0 => some (min 65535 (s.airUsed i))
  | 0x28, 13 => some (countP (fun a => a.st = 2) (SMap.vals (s.radio i).assocs))
  | 0x28, 4 => some (b2n (s.radio i).dutyOver)
  | 0x28, 3 => some (b2n (decide (0 < (s.radio i).shed)))
  | 0x28, 2 => some (b2n (s.radio i).chgPending)
  | 0x2C, _ => some (s.radio i).e
  | 0x30, 0 => some (s.radio i).sser
  | _, _ => none

def viewNet (s : State) (rk i : Nat) : Nat → Nat → Option Nat
  | 0x80, _ => some (winWord (s.latched Win.assoc rk) i)
  | _, _ => none

def viewGns (s : State) (rk i : Nat) : Nat → Nat → Option Nat
  | 0x100, _ => some (winWord (s.latched Win.fix rk) i)
  | 0x1004, 31 => some (b2n (s.rovPos i).ctx.isSome)
  | 0x1004, 28 => some (s.rovPos i).filter
  | 0x1004, 18 => some (match (s.rovPos i).ctx with | some c => c | none => 1023)
  | 0x1004, 8 => some (s.rovPos i).vcount
  | _, _ => none

def knotMask (l : List Nat) (base : Nat) : Nat :=
  sumN ((l.filter (fun r => base ≤ r && r < base + 32)).map (fun r => 2 ^ (r - base)))

def viewFlt (s : State) (i : Nat) : Nat → Nat → Option Nat
  | 0x0, 29 => some (if s.phase ≠ .running then 0
      else match s.mode with | .stop => 1 | .run => 2 | .hold => 3 | .shadow => 4 | _ => 0)
  | 0x0, 22 => some s.fleet.knots.length
  | 0x0, 15 => some (s.sessOpen 1)
  | 0x0, 0 => some s.fleet.tasks.length
  | 0xC, 31 => some (b2n s.fleet.valid)
  | 0xC, 16 => some s.fleet.graph.segments.length
  | 0xC, 0 => some s.fleet.graph.junctions.length
  | 0x108, 26 => some (s.rover i).causes
  | 0x108, 25 => some (b2n (s.rover i).paused)
  | 0x108, 24 => some (b2n (s.rover i).lost)
  | 0x108, 16 => some (s.effPrio i)
  | 0x108, 8 => some (s.rover i).victim
  | 0x108, 0 => some (s.backoffLeft i)
  | 0x800, 31 => some (b2n (SMap.get? s.fleet.knots i).isSome)
  | 0x800, 24 => (SMap.get? s.fleet.knots i).map (fun k => k.members.length)
  | 0x800, 0 => (SMap.get? s.fleet.knots i).map (fun k => min (2 ^ 24 - 1) ((s.mono - k.formedAt) / 10000000))
  | 0x804, _ => (SMap.get? s.fleet.knots i).map (fun k => knotMask k.members 0)
  | 0x808, _ => (SMap.get? s.fleet.knots i).map (fun k => knotMask k.members 32)
  | 0x1000, 31 => some (b2n (s.fleet.closed.contains i))
  | 0x1000, 30 => some (b2n (decide (s.corridor i ≠ [])))
  | 0x1000, 24 => s.corHolder i
  | 0x1000, 23 => some (b2n (s.corHolder i).isSome)
  | 0x1000, 0 => some (s.corridor i).length
  | _, _ => none

def viewTim (s : State) (rk i : Nat) : Nat → Nat → Option Nat
  | 0x0, 22 => some (b2n (decide (s.time.rhoS ≠ 0)))
  | 0x10, 0 => some (s.now % 1000000000)
  | 0x14, _ => some (winWord (s.latched Win.sec rk) 0)
  | 0x18, 0 => some (winWord (s.latched Win.sec rk) 1)
  | 0x3C, 0 => some s.time.txq.length
  | 0x104, 23 => some (b2n (s.trig i).valid)
  | 0x104, 22 => some (b2n (s.trig i).stepped)
  | 0x104, 21 => some (b2n (s.trig i).falling)
  | 0x104, 20 => some (b2n (s.trig i).pend.isSome)
  | 0x104, 0 => some ((s.trig i).cap / 1000000000 / 2 ^ 32 % 2 ^ 16)
  | 0x108, _ => some (winWord (s.latched (Win.trig i) rk) 0)
  | 0x10C, 0 => some (winWord (s.latched (Win.trig i) rk) 1)
  | _, _ => none

def viewRtc (s : State) (rk : Nat) : Nat → Nat → Option Nat
  | 0x0, _ => some (s.rtc.lockT.getD s.rtc.t).sub
  | 0x4, _ => some (s.rtcSeen rk).civil.sec
  | 0x8, _ => some (s.rtcSeen rk).civil.min
  | 0xC, _ => some (s.rtcSeen rk).civil.hour
  | 0x10, 8 => some (s.rtcSeen rk).civil.weekday
  | 0x10, 0 => some (s.rtcSeen rk).civil.day
  | 0x14, _ => some (s.rtcSeen rk).civil.month
  | 0x18, _ => some (s.rtcSeen rk).civil.year
  | 0x4C, 1 => some (b2n s.disciplined)
  | 0x4C, 4 => some (b2n (s.frozen rk))
  | _, _ => none

def viewMtr (s : State) (rk i j : Nat) : Nat → Nat → Option Nat
  | 0x200, 31 => if i % 7 < 3 then some 1 else none
  | 0xC, 16 => some (min 65535 ((s.mono - s.meter.lastSave) / 1000000000))
  | 0x40, _ => some (winWord (s.latched Win.meter rk) i)
  | 0x1000, _ => some ((s.feeder i).acc.getD j 0 % 2 ^ 32)
  | 0x1004, 8 => some (winWord (s.latched (Win.acc i j) rk) 0 / 256 % 256)
  | 0x1004, 0 => some (winWord (s.latched (Win.acc i j) rk) 0 % 256)
  | _, _ => none

def State.plan (s : State) (st : Nat) : Option StationPlan :=
  match s.prog.pkg with
  | some p => p.stations.find? (fun x => x.st = st)
  | none => none

/-- The planned stations of a port, in ascending address. -/
def Package.port (k : Package) (p : Nat) : List StationPlan := k.stations.filter (fun x => x.st / 32 = p)

/-- The exchange duration of a port in µs, rounded up (R517), computed in sixths of a µs. -/
def exchangeTime (l : List StationPlan) (retry : Nat) : Nat :=
  if l = [] then 0
  else
    let down := (7 + sumN (l.map (fun x => 3 + x.o))) * 5
    let reply := sumN (l.map (fun x => 18 + (6 + x.i) * 5))
    let again := retry * (18 + (6 + maxN (l.map (·.i))) * 5 + (10 + maxN (l.map (·.o))) * 5)
    (down + reply + again + 30 + 5) / 6

def State.station (s : State) (st : Nat) : Station := SMap.getD s.prog.stations st {}

def viewClb (s : State) (i : Nat) : Nat → Nat → Option Nat
  | 0x0, 0 => some (match s.prog.pkg with
      | some p => if s.phase = .running && (s.mode = .run || s.mode = .stop || s.mode = .hold) then
          sumN ((List.range 4).map fun q => if p.port q = [] then 0 else 2 ^ q) else 0
      | none => 0)
  | 0x10, 16 => some (match s.prog.pkg with
      | some p => exchangeTime (p.port i) (s.get F.CLB_CFG_RETRY) | none => 0)
  | 0x10, 0 => some (match s.prog.pkg with | some p => (p.port i).length | none => 0)
  | 0x100, 31 => some (b2n (s.plan i).isSome)
  | 0x100, 16 => (s.plan i).map (·.wdog)
  | 0x100, 8 => (s.plan i).map (·.o)
  | 0x100, 0 => (s.plan i).map (·.i)
  | 0x104, 30 => (s.plan i).map (fun _ => (s.station i).st)
  | 0x104, 0 => (s.plan i).map (fun _ => (s.station i).statOct)
  | _, _ => none

def viewDal (s : State) (i : Nat) : Nat → Nat → Option Nat
  | 0x14, 0 => some (match s.wired.lines[i]? with | some l => l.queue.length | none => 0)
  | _, _ => none

def viewHxm (s : State) : Nat → Nat → Option Nat
  | 0x0, 8 => some (s.sessOpen 3)
  | 0x0, 0 => some (s.sessOpen 0)
  | _, _ => none

def viewSpl (s : State) : Nat → Nat → Option Nat
  | 0x0, 24 => some (b2n s.eligible)
  | _, _ => none

/-- Percent of the running step: of the image's octets received; within the other steps the spec gives no figure. -/
def State.updPercent (s : State) : Nat :=
  let b := s.bank (1 - s.upd.active)
  match s.get F.UPD_STAT_STATE with
  | 0 => 0
  | 1 => min 100 (100 * b.len / Nat.max 1 (65536 * u16 b.head 20))
  | 3 => 100
  | _ => Config.percent s.num % 101

def viewUpd (s : State) (i : Nat) : Nat → Nat → Option Nat
  | 0x0, 27 => some s.upd.active
  | 0x0, 16 => some (s.updPercent)
  | 0x40, _ => some (s.bank i).st
  | 0x44, _ => some (s.bank i).version
  | 0x48, _ => some (s.bank i).gen
  | 0x4C, 24 => some (s.bank i).secver
  | 0x4C, 0 => some (s.bank i).copyfmt
  | _, _ => none

def viewKey (s : State) (i : Nat) : Nat → Nat → Option Nat
  | 0x0, 31 => some (b2n s.keys.killed)
  | 0x0, 26 => some s.keys.rows.length
  | 0x0, 16 => some s.keys.cache.length
  | 0x0, 0 => some (countP (fun k => k.kind ≠ 0) (SMap.vals s.keys.slots))
  | 0x200, _ => some (ofLe ((s.keys.out.drop (4 * i)).take 4))
  | 0x1000, 29 => some (s.keySlot i).kind
  | 0x1000, 24 => some (s.keySlot i).master
  | 0x1000, 23 => some (b2n (s.keySlot i).paircore)
  | 0x1000, 21 => some (s.keySlot i).world
  | 0x1000, 16 => some (s.keySlot i).life
  | 0x1000, 9 => some (s.keySlot i).use_
  | 0x1000, 5 => some (s.keySlot i).depth
  | 0x1000, 3 => some (s.keySlot i).fallback
  | 0x1000, 0 => some (s.keySlot i).size
  | 0x1004, 31 => some (b2n (s.keySlot i).rooted)
  | 0x1004, 16 => some (s.keySlot i).parent
  | 0x1004, 0 => some (s.keySlot i).uses
  | _, _ => none

def viewLog (s : State) (rk i : Nat) : Nat → Nat → Option Nat
  | 0x0, 0 => some s.recs.held.length
  | 0xC, 16 => some (min 65535 (countP (fun r => r.sev = 3) s.recs.held))
  | 0xC, 0 => some (min 65535 (countP (fun r => r.sev = 2) s.recs.held))
  | 0x10, 16 => some (min 65535 (countP (fun r => r.sev = 1) s.recs.held))
  | 0x10, 0 => some (min 65535 (countP (fun r => r.sev = 0) s.recs.held))
  | 0x14, _ => some (s.recs.optime % 2 ^ 32)
  | 0x18, 0 => some (winWord (s.latched Win.optime rk) 0)
  | 0x40, _ => some (winWord (s.latched Win.log rk) i)
  | _, _ => none

def State.loop (s : State) (l : Nat) : LoopSt := SMap.getD s.drv.loops l {}
def State.axis (s : State) (a : Nat) : Axis := SMap.getD s.drv.axes a {}
def State.drive (s : State) (p d : Nat) : Drive := SMap.getD s.drv.drives (4 * p + d) {}

/-- The code of an axis state (LOP_AX_STAT.STATE). -/
def AxisSt.code : AxisSt → Nat
  | .disabled => 0 | .releasing => 1 | .holding => 2 | .moving => 3 | .paused => 4 | .homing => 5 | .stopping => 6
  | .engaging => 7 | .fault => 8

/-- An active state (R341). -/
def AxisSt.active : AxisSt → Bool
  | .holding | .moving | .paused | .homing | .stopping => true
  | _ => false

def viewDrv (s : State) : Nat → Nat → Option Nat
  | 0x0, 1 => some (b2n s.drv.passOn)
  | _, _ => none

def viewLop (s : State) (i : Nat) : Nat → Nat → Option Nat
  | 0x0, 16 => some (countP (fun p => p.2.closed) s.drv.loops)
  | 0x0, 8 => some (countP (fun p => p.2.loss || p.2.freeze) s.drv.loops)
  | 0x0, 0 => some (sumN ((s.drv.axes.filter (fun p => p.2.st.active)).map (fun p => 2 ^ p.1)))
  | 0x1048, 3 => some (b2n (s.loop i).freeze)
  | 0x1048, 2 => some (b2n (s.loop i).loss)
  | 0x1048, 0 => some (b2n (s.loop i).closed)
  | 0x104C, _ => some (ofInt 32 (s.loop i).pvPrev)
  | 0x1050, _ => some (ofInt 32 (s.loop i).u)
  | 0x1054, _ => some (ofInt 32 (s.loop i).i)
  | 0x3004, 0 => some (sumN ((List.range 4).map (fun d => 2 ^ d * b2n (s.drive i d).ok)))
  | 0x4040, _ => some (ofInt 32 (s.axis i).p)
  | 0x4044, _ => some (ofInt 32 (s.axis i).v)
  | 0x4048, _ => some (ofInt 32 (s.axis i).tgt)
  | 0x404C, _ => some (ofInt 32 (s.axis i).trq)
  | 0x4050, 10 => some (b2n (s.axis i).homed)
  | 0x4050, 0 => some (s.axis i).st.code
  | _, _ => none

/-- What a field of instance (i, j) shows to a requester, where it shows other state; `o` is the offset of instance 0. -/
def State.viewed (s : State) (rk blk i j o lo : Nat) : Option Nat :=
  match blk with
  | 0x00 => viewSys s o lo
  | 0x01 => viewGal s i o lo
  | 0x02 => viewSem s i o lo
  | 0x03 => viewFif s i o lo
  | 0x04 => viewFrm s rk o lo
  | 0x05 => viewPlx s i o lo
  | 0x06 => viewLgt s rk i o lo
  | 0x07 => viewNet s rk i o lo
  | 0x08 => viewRad s i o lo
  | 0x09 => viewDrv s o lo
  | 0x0A => viewLop s i o lo
  | 0x0B => viewGns s rk i o lo
  | 0x0C => viewFlt s i o lo
  | 0x0E => viewTim s rk i o lo
  | 0x0F => viewRtc s rk o lo
  | 0x10 => viewMtr s rk i j o lo
  | 0x11 => viewClb s i o lo
  | 0x12 => viewDal s i o lo
  | 0x14 => viewHxm s o lo
  | 0x16 => viewSpl s o lo
  | 0x17 => viewUpd s i o lo
  | 0x18 => viewKey s i o lo
  | 0x19 => viewLog s rk i o lo
  | _ => none

/-- One field of a register as a requester reads it: write-only fields read 0 (Table 00.5). -/
def State.fieldSeen (s : State) (rk i j : Nat) (d : FieldDesc) : Nat :=
  if d.acc = .wo then 0
  else match s.viewed rk (d.fld.addr / 65536) i j (d.fld.addr % 65536) d.fld.lo with
    | some v => v % 2 ^ d.fld.width
    | none => s.get (d.fld.at2 i j)

/-- The word a register shows; an address without a register reads 0 (R14, R16). -/
def State.word (s : State) (rk addr : Nat) : Nat :=
  match findReg addr with
  | none => 0
  | some (r, i, j) => sumN (r.fields.map (fun d => s.fieldSeen rk i j d * 2 ^ d.fld.lo))

end Sys2Proof.Machine
end

