-- ==== Sys2Proof/Machine/Kdf.lean ====
section
/-!
DEFINITION. Key derivation (R583 to R585): SHA-384, HMAC, and the counter mode of NIST SP 800-108.
-/
namespace Sys2Proof.Machine

/-! ### SHA-384 -/

/-- Big-endian octets of a number, and the number of big-endian octets. -/
def beBytes (k v : Nat) : List Nat := (leBytes k v).reverse
def ofBe (l : List Nat) : Nat := ofLe l.reverse

def shaK0 : List Nat := [
  0x428a2f98d728ae22, 0x7137449123ef65cd, 0xb5c0fbcfec4d3b2f, 0xe9b5dba58189dbbc,
  0x3956c25bf348b538, 0x59f111f1b605d019, 0x923f82a4af194f9b, 0xab1c5ed5da6d8118,
  0xd807aa98a3030242, 0x12835b0145706fbe, 0x243185be4ee4b28c, 0x550c7dc3d5ffb4e2,
  0x72be5d74f27b896f, 0x80deb1fe3b1696b1, 0x9bdc06a725c71235, 0xc19bf174cf692694]
def shaK1 : List Nat := [
  0xe49b69c19ef14ad2, 0xefbe4786384f25e3, 0x0fc19dc68b8cd5b5, 0x240ca1cc77ac9c65,
  0x2de92c6f592b0275, 0x4a7484aa6ea6e483, 0x5cb0a9dcbd41fbd4, 0x76f988da831153b5,
  0x983e5152ee66dfab, 0xa831c66d2db43210, 0xb00327c898fb213f, 0xbf597fc7beef0ee4,
  0xc6e00bf33da88fc2, 0xd5a79147930aa725, 0x06ca6351e003826f, 0x142929670a0e6e70]
def shaK2 : List Nat := [
  0x27b70a8546d22ffc, 0x2e1b21385c26c926, 0x4d2c6dfc5ac42aed, 0x53380d139d95b3df,
  0x650a73548baf63de, 0x766a0abb3c77b2a8, 0x81c2c92e47edaee6, 0x92722c851482353b,
  0xa2bfe8a14cf10364, 0xa81a664bbc423001, 0xc24b8b70d0f89791, 0xc76c51a30654be30,
  0xd192e819d6ef5218, 0xd69906245565a910, 0xf40e35855771202a, 0x106aa07032bbd1b8]
def shaK3 : List Nat := [
  0x19a4c116b8d2d0c8, 0x1e376c085141ab53, 0x2748774cdf8eeb99, 0x34b0bcb5e19b48a8,
  0x391c0cb3c5c95a63, 0x4ed8aa4ae3418acb, 0x5b9cca4f7763e373, 0x682e6ff3d6b2b8a3,
  0x748f82ee5defb2fc, 0x78a5636f43172f60, 0x84c87814a1f0ab72, 0x8cc702081a6439ec,
  0x90befffa23631e28, 0xa4506cebde82bde9, 0xbef9a3f7b2c67915, 0xc67178f2e372532b]
def shaK4 : List Nat := [
  0xca273eceea26619c, 0xd186b8c721c0c207, 0xeada7dd6cde0eb1e, 0xf57d4f7fee6ed178,
  0x06f067aa72176fba, 0x0a637dc5a2c898a6, 0x113f9804bef90dae, 0x1b710b35131c471b,
  0x28db77f523047d84, 0x32caab7b40c72493, 0x3c9ebe0a15c9bebc, 0x431d67c49c100d4c,
  0x4cc5d4becb3e42b6, 0x597f299cfc657e2a, 0x5fcb6fab3ad6faec, 0x6c44198c4a475817]
def shaK : List Nat := shaK0 ++ shaK1 ++ shaK2 ++ shaK3 ++ shaK4
def shaStart : List Nat := [
  0xcbbb9d5dc1059ed8, 0x629a292a367cd507, 0x9159015a3070dd17, 0x152fecd8f70e5939,
  0x67332667ffc00b31, 0x8eb44a8768581511, 0xdb0c2e0d64f98fa7, 0x47b5481dbefa4fa4]

def rotr64 (n x : Nat) : Nat := x / 2 ^ n + x % 2 ^ n * 2 ^ (64 - n)
def xor3 (a b c : Nat) : Nat := Nat.xor (Nat.xor a b) c
def add64 (l : List Nat) : Nat := sumN l % 2 ^ 64

/-- The message schedule: the next word from the last sixteen. -/
def shaNext (w : List Nat) : List Nat :=
  let p := fun k => w.getD (w.length - k) 0
  let s0 := xor3 (rotr64 1 (p 15)) (rotr64 8 (p 15)) (p 15 / 2 ^ 7)
  let s1 := xor3 (rotr64 19 (p 2)) (rotr64 61 (p 2)) (p 2 / 2 ^ 6)
  w ++ [add64 [p 16, s0, p 7, s1]]

/-- One round with its constant and its word of the schedule. -/
def shaRound (h : List Nat) (k : Nat × Nat) : List Nat :=
  match h with
  | [a, b, c, d, e, f, g, z] =>
    let s1 := xor3 (rotr64 14 e) (rotr64 18 e) (rotr64 41 e)
    let ch := Nat.xor (Nat.land e f) (Nat.land (2 ^ 64 - 1 - e) g)
    let t1 := add64 [z, s1, ch, k.1, k.2]
    let s0 := xor3 (rotr64 28 a) (rotr64 34 a) (rotr64 39 a)
    let maj := xor3 (Nat.land a b) (Nat.land a c) (Nat.land b c)
    [add64 [t1, s0, maj], a, b, c, add64 [d, t1], e, f, g]
  | _ => h

/-- One block of 128 octets. -/
def shaBlock (h : List Nat) (blk : List Nat) : List Nat :=
  let w := iter shaNext 64 ((List.range 16).map fun k => ofBe ((blk.drop (8 * k)).take 8))
  (h.zip ((shaK.zip w).foldl shaRound h)).map fun p => add64 [p.1, p.2]

/-- SHA-384 of a list of octets. -/
def sha384 (m : List Nat) : List Nat :=
  let pad := (240 - (m.length + 1) % 128) % 128
  let x := m ++ 0x80 :: List.replicate pad 0 ++ beBytes 16 (8 * m.length)
  let h := ((List.range (x.length / 128)).map fun k => (x.drop (128 * k)).take 128).foldl shaBlock shaStart
  (h.flatMap (beBytes 8)).take 48

/-- HMAC-SHA-384. -/
def hmac384 (key m : List Nat) : List Nat :=
  let k := (if 128 < key.length then sha384 key else key)
  let k := (k ++ List.replicate 128 0).take 128
  sha384 (k.map (Nat.xor 0x5C) ++ sha384 (k.map (Nat.xor 0x36) ++ m))

/-! ### Derivation (R584) -/

/-- A label of 32 octets, padded with 0. -/
def label32 (l : List Nat) : List Nat := (l ++ List.replicate 32 0).take 32

/-- SP 800-108 counter mode: one iteration, the counter 1, the label, a separator, an empty context, and L in bits. -/
def kdf (key label : List Nat) (bits_ : Nat) : List Nat :=
  (hmac384 key (beBytes 4 1 ++ label32 label ++ 0 :: beBytes 4 bits_)).take (bits_ / 8)

/-- The order of the P-384 group. -/
def p384Order : Nat :=
  0xFFFFFFFFFFFFFFFFFFFFFFFFFFFFFFFFFFFFFFFFFFFFFFFFC7634D81F4372DDF581A0DB248B0A77AECEC196ACCC52973

/-- A P-384 private key from 384 bits: d := (K mod (n − 1)) + 1. -/
def p384Private (k : List Nat) : List Nat := beBytes 48 (ofBe k % (p384Order - 1) + 1)


/-! ### Roots (Table 14.2) -/

/-- The root that stands selected: KEY_STAT.ROOT 0 none, 1 manufacturing, 2 owner, 3 recovery. -/
def State.rootNow (s : State) : Nat :=
  if s.keys.zeroised || s.keys.rootGone then 0
  else if s.mode = .recovery then (if s.keys.killed then 0 else 3)
  else match s.keys.life with
    | .blank => if s.keys.killed then 0 else 1
    | .returned => 1
    | .provisioned | .deployed => if s.keys.killed then 0 else 2
    | .scrapped => 0

/-- Octets drawn from K0's random source: `words` draws from draw `n` on. -/
def drawn (n words : Nat) : List Nat := (List.range words).flatMap fun k => leBytes 4 (Config.random (n + k))

/-- An ASCII text as octets. -/
def ascii (t : String) : List Nat := t.toList.map Char.toNat

/-- The device secret: 256 bits drawn at the first start (R582), and all ones when Scrapped (Table 14.1). -/
def State.deviceSecret (s : State) : List Nat := if s.keys.dsec = 3 then List.replicate 32 255 else drawn s.keys.secret 8

/-- The owner root label, fused in a provisioning row; rows are numbered from 1 (Table 14.1). -/
def ProvRow.rootLabel (r : ProvRow) (row : Nat) : List Nat := (sha384 (r.entropy ++ drawn r.random 8 ++ [row])).take 32

def State.rootLabel (s : State) : List Nat :=
  match s.rootNow with
  | 1 => ascii "HXS-MFG-ROOT"
  | 2 => (s.keys.rows.getLastD {}).rootLabel s.keys.rows.length
  | _ => ascii "HXS-RCV-ROOT"

/-- The working copy of the selected root; 256 bits long, as an HMAC key is (DEDUCED, log entry 117). -/
def State.rootKey (s : State) : List Nat := if s.rootNow = 0 then [] else kdf s.deviceSecret s.rootLabel 256

/-! ### Keys of the slots, and Table 14.3 -/

/-- Octets of a key of a size. -/
def keySize (n : Nat) : Nat := [16, 32, 48, 96].getD n 0

/-- A derived key of a size from its parent key and its label. -/
def derivedKey (parent label : List Nat) (size : Nat) : List Nat :=
  let k := kdf parent label (8 * keySize size)
  if size = 2 then p384Private k else k

/-- The working copy of a slot's key, computed on demand (R588); depth 8 is the deepest (R585). -/
def State.slotKey (s : State) : Nat → Nat → List Nat
  | 0, _ => []
  | n + 1, slot =>
    let k := s.keySlot slot
    match k.mat with
    | .none_ => []
    | .octets l => l
    | .random r => drawn r (keySize k.size / 4)
    | .derived label => derivedKey (if k.rooted then s.rootKey else s.slotKey n k.parent) label k.size
def State.workingKey (s : State) (slot : Nat) : List Nat := s.slotKey 9 slot

/-- The wrap key of a slot. -/
def State.wrapKey (s : State) (slot : Nat) : List Nat := kdf s.rootKey (ascii "WRAP" ++ [slot]) 256
/-- The install key of a node and the node key of an association. -/
def State.installKey (s : State) (serial : Nat) : List Nat := kdf (s.workingKey 2) (ascii "INST" ++ leBytes 8 serial) 128
def State.nodeKey (s : State) (serial nonce modNonce radio : Nat) : List Nat :=
  kdf (s.installKey serial) (ascii "NODE" ++ leBytes 4 nonce ++ leBytes 4 modNonce ++ [radio]) 128
/-- The network key of a radio at a generation. -/
def State.netKey (s : State) (radio gen : Nat) : List Nat := kdf (s.workingKey 3) (ascii "RNET" ++ [radio] ++ leBytes 4 gen) 128
/-- The session key of the host port. -/
def State.hostKey (s : State) (slot sid : Nat) (host modn : List Nat) : List Nat :=
  kdf (s.workingKey slot) (ascii "HS" ++ [sid, 0] ++ host ++ modn) 256

end Sys2Proof.Machine
end

