-- ==== Sys2Proof/Machine/Ops.lean ====
section
/-!
DEFINITION. The operations every meaning shares: status codes, what the module emits, the records of the Accession log, the
end of a long operation, the sequence window of a session, memory, free values.
-/
namespace Sys2Proof.Machine

/-- The outcome of a command. -/
abbrev Res := Host.Outcome State Fault Refusal

/-- What a service call answers: the state, the status and its result words. -/
abbrev SvcRes := State × Nat × List Nat

/-! ### Status codes (Tables 00.6, 02.8, 03.8, 04.12 and the block tables) -/

namespace St
def done : Nat := 0x0000
def pending : Nat := 0x0001
def aborted : Nat := 0x0002
def abortLate : Nat := 0x0003
def duplicate : Nat := 0x0004
def stale : Nat := 0x0005
def mode : Nat := 0x0006
def lifecycle : Nat := 0x0007
def access : Nat := 0x0008
def badArg : Nat := 0x0009
def timeout : Nat := 0x000A
def busy : Nat := 0x000B
def loopClosed : Nat := 0x000C
def confirm : Nat := 0x000D
def noProgram : Nat := 0x0080
def causeActive : Nat := 0x0081
def notAligned : Nat := 0x0082
def outOfLimits : Nat := 0x0501
def notTunable : Nat := 0x0502
def noSymbol : Nat := 0x0503
def notForceable : Nat := 0x0504
def changeActive : Nat := 0x0505
def bankInvalid : Nat := 0x0506
def carryTooLarge : Nat := 0x0507
def pairNotReady : Nat := 0x0508
def forceFull : Nat := 0x0509
def recipeInvalid : Nat := 0x0610
def zoneInvalid : Nat := 0x0611
def leadOrder : Nat := 0x0612
def nodeEmpty : Nat := 0x0613
def fallbackInvalid : Nat := 0x0614
def calInvalid : Nat := 0x0615
def slotConflict : Nat := 0x0901
def badRate : Nat := 0x0A01
def linkInvalid : Nat := 0x0A02
def axisDisabled : Nat := 0x0A03
def notHomed : Nat := 0x0A04
def outOfTravel : Nat := 0x0A05
def axisFault : Nat := 0x0A06
def axisBusy : Nat := 0x0A07
def graphInvalid : Nat := 0x0C01
def queueFull : Nat := 0x0C02
def roverBusy : Nat := 0x0C03
def taskRefused : Nat := 0x0C04
def taskFinal : Nat := 0x0C05
def notMember : Nat := 0x0C06
def noKnot : Nat := 0x0C07
def noRetreat : Nat := 0x0C08
def noRoute : Nat := 0x0C09
def notHealthy : Nat := 0x0D01
def causePersists : Nat := 0x0D02
def noSource : Nat := 0x0E01
def tooLate : Nat := 0x0E02
def trigMode : Nat := 0x0E03
def badDate : Nat := 0x0F01
def disciplined : Nat := 0x0F02
def feederOff : Nat := 0x1001
def noHarmonics : Nat := 0x1002
def stationAbsent : Nat := 0x1101
def daliCollision : Nat := 0x1201
def daliNoPower : Nat := 0x1202
def daliLineOff : Nat := 0x1203
def badMessage : Nat := 0x1401
def badFrame : Nat := 0x1402
def tooLarge : Nat := 0x1403
def notEligible : Nat := 0x1601
def axesActive : Nat := 0x1602
def notPaired : Nat := 0x1603
def imageInvalid : Nat := 0x1701
def rollback : Nat := 0x1702
def formatChange : Nat := 0x1703
def notReady : Nat := 0x1704
def updateActive : Nat := 0x1705
def slotEmpty : Nat := 0x1801
def slotOccupied : Nat := 0x1802
def keyExhausted : Nat := 0x1803
def depthExceeded : Nat := 0x1804
def killed : Nat := 0x1805
def noProvisionRow : Nat := 0x1806
def parentInUse : Nat := 0x1807
def fuseFull : Nat := 0x1A01
end St

/-- The confirmation value of the commands that need one. -/
def confirmValue : Nat := 0x5AFE

/-! ### Updates of the parts of the state -/

def State.modFrame (s : State) (f : Frame → Frame) : State := { s with frame := f s.frame }
def State.modGal (s : State) (f : Gallery → Gallery) : State := { s with gal := f s.gal }
def State.modProg (s : State) (f : Prog → Prog) : State := { s with prog := f s.prog }
def State.modLight (s : State) (f : Light → Light) : State := { s with light := f s.light }
def State.modNet (s : State) (f : Network → Network) : State := { s with net := f s.net }
def State.modDrv (s : State) (f : DriveSt → DriveSt) : State := { s with drv := f s.drv }
def State.modPos (s : State) (f : Positioning → Positioning) : State := { s with pos := f s.pos }
def State.modFleet (s : State) (f : Fleet → Fleet) : State := { s with fleet := f s.fleet }
def State.modStp (s : State) (f : Lanyard → Lanyard) : State := { s with stp := f s.stp }
def State.modTime (s : State) (f : TimeSt → TimeSt) : State := { s with time := f s.time }
def State.modRtc (s : State) (f : RtcSt → RtcSt) : State := { s with rtc := f s.rtc }
def State.modMeter (s : State) (f : Meter → Meter) : State := { s with meter := f s.meter }
def State.modWired (s : State) (f : Wired → Wired) : State := { s with wired := f s.wired }
def State.modSpl (s : State) (f : Splice → Splice) : State := { s with spl := f s.spl }
def State.modUpd (s : State) (f : Update → Update) : State := { s with upd := f s.upd }
def State.modKeys (s : State) (f : Keys → Keys) : State := { s with keys := f s.keys }
def State.modRecs (s : State) (f : Records → Records) : State := { s with recs := f s.recs }

/-! ### Frames and time -/

/-- Length of an ordinary frame, ns (R69). -/
def frameNs : Nat := 10000000

/-- A command that carries an instant takes effect there: the offset in the frame moves on to it, never back. -/
def State.atNs (s : State) (t : Nat) : State :=
  { s with frame := { s.frame with off := Nat.max s.frame.off t } }

/-- An instant of monotonic time lies before the end of the frame in progress: an event that it times can have come. -/
def State.past (s : State) (t : Nat) : Bool := decide (t ≤ s.mono - s.frame.off + (s.frameEnd - s.frame.start))

/-- Instant `m` of a grid of `sp` ns is issued in the frame in progress: it begins at least half a spacing before the frame's end (R453,
R454). -/
def State.issued (s : State) (sp m : Nat) : Bool := decide (m * sp + sp / 2 ≤ s.frameEnd - s.frame.start)

/-- A superframe in ns. -/
def superNs : Nat := 100000000

/-- The module runs: start-up has entered the first mode and no shutdown holds it. In Scrapped nothing does but the RTC, the Accession
log and the status service of the SPI host port (Table 02.7, note 2). -/
def State.live (s : State) : Bool := s.phase = .running && decide (s.keys.life ≠ .scrapped)

/-- An engine is out of reset (R37, R41). A requester that is no engine has no sideband. -/
def State.awake (s : State) (e : Nat) : Bool := !s.gal.masked.contains e

def Requester.awake (s : State) : Requester → Bool
  | .engine e => s.awake e
  | _ => true

/-- Modes in which the program, the plane and the rovers work under control of the module. -/
def Mode.active : Mode → Bool
  | .stop | .run | .hold => true
  | _ => false

/-- Cycles committed in all, over every start. -/
def Prog.total (p : Prog) : Nat := p.retBase + p.cycles

/-! ### Free values -/

/-- A fresh draw of K0's random source, 32 bits. -/
def State.draw (s : State) : Nat × State :=
  (Config.random s.free % 2 ^ 32, { s with free := s.free + 1 })

def State.tick (s : State) : State := { s with free := s.free + 1 }

/-! ### What the module emits (R548) -/

/-- What a Lead holds until its Follower has acknowledged (R548). -/
def heldKind : OutKind → Bool
  | .beacon | .commitFrame | .exclusionFrame | .mapannFrame | .ackFrame | .dataFrame | .relayFrame => true
  | .cleatDown | .cleatRetry | .cleatApply | .daliFrame | .driveDown => true
  | .hxmReply | .hxmComplete | .spiReply | .rover | .fix => true
  | _ => false

def State.emitNow (s : State) (k : OutKind) (l : List Int) : State := { s with out := s.out ++ [⟨k, l⟩] }

/-- Emit an effect; `due` is its scheduled instant, TAI ns, where it has one (R549). -/
def State.emitAt (s : State) (due : Option Nat) (k : OutKind) (l : List Int) : State :=
  if heldKind k && s.get F.SPL_STAT_PROTECTED = 1 && s.spl.unacked ≠ [] then
    { s with spl := { s.spl with held := s.spl.held ++ [⟨s.spl.serial, ⟨k, l⟩, due⟩] } }
  else s.emitNow k l

def State.emit (s : State) (k : OutKind) (l : List Int) : State := s.emitAt none k l

/-- The state with nothing emitted yet: every command begins so. -/
def State.begin (s : State) : State := { s with out := [] }

/-- The memory that keeps its contents over a reset: MRAM. -/
def keptCell (c : Host.Cell) : Bool := decide (0x20000000 ≤ c.1) && decide (c.1 < 0x21000000)

/-- The outcome of a command that does not access the memory behind the address map: the queue of commands and that memory stay
as they were. -/
def State.after (s r : State) : State := { r with pending := s.pending, mem := s.mem }
/-- The outcome of a command that may access that memory: the queue stays as it was. -/
def State.afterMem (s r : State) : State := { r with pending := s.pending }
/-- The outcome of a command that accesses no memory itself but may end in a reset of the module, which leaves MRAM alone of it. -/
def State.afterReset (s r : State) : State :=
  { r with
    pending := s.pending
    mem := if r.phase = .reset && s.phase ≠ .reset then s.mem.filter keptCell else s.mem }

/-- A command that does not access the memory behind the address map. -/
def State.act (s : State) (f : State → State) : Res := .next (s.after (f s.begin))
/-- A command that may access it. -/
def State.actMem (s : State) (f : State → State) : Res := .next (s.afterMem (f s.begin))
/-- A command that may end in a reset. -/
def State.actReset (s : State) (f : State → State) : Res := .next (s.afterReset (f s.begin))

/-- Do `f` when a condition holds, else leave the state (Table 00.4 ff.: a pair that no table lists changes nothing). -/
def State.when (s : State) (b : Bool) (f : State → State) : State := if b then f s else s

/-- What a register access answers: the requester, the status, and what was read. -/
def State.reply (s : State) (who : Requester) (st : Nat) (v : List Nat := []) : State :=
  s.emit .value (([who.key, st] ++ v).map Int.ofNat)

/-! ### The Accession log (R595 to R598) -/

/-- The number after an accession number (Table 14.5). -/
def nextAcc (n : Nat) : Nat := if n = 0 ∨ 2 ^ 32 - 1 ≤ n then 1 else n + 1

/-- A trigger of the Vitrine (R602): `bit_` in LOG_VIT_CFG.TRIG, `code` in TRIGGER; a command has no enable bit. -/
def State.vitTrigger (s : State) (bit_ : Option Nat) (code : Nat) : State :=
  let on := match bit_ with
    | some b => bit (s.get F.LOG_VIT_CFG_TRIG) b
    | none => true
  if !on then s
  else if s.flag F.LOG_VIT_STAT_FROZEN then s.inc F.LOG_VIT_STAT_MISSED
  else if s.recs.left.isSome then s
  else
    let s := s.put F.LOG_VIT_STAT_TRIGGER code
    let s := s.put F.LOG_VIT_FRAME_LO_FRAME (s.num % 2 ^ 32)
    let s := s.put F.LOG_VIT_FRAME_HI_FRAME (s.num / 2 ^ 32)
    { s with recs := { s.recs with left := some (s.get F.LOG_VIT_CFG_POST), trigNow := true } }

/-- A record enters the queue and takes the next accession number (R597). -/
def State.logRec (s : State) (sev source code : Nat) (payload : List Nat) : State :=
  if 256 ≤ s.recs.queue.length then s.inc F.LOG_CNT_QDROP
  else
    let n := nextAcc (s.get F.LOG_NEWEST_ACC)
    let fr := if s.mode = .recovery then 0xFFFF else s.num % 2 ^ 16
    let r : LogRec := ⟨n, s.recs.optime, s.get F.LOG_PWRCYC_COUNT, sev, source, code, fr, payload.take 40⟩
    let s := s.put F.LOG_NEWEST_ACC n
    let s := { s with recs := { s.recs with
      queue := s.recs.queue ++ [r], nrec := s.recs.nrec + 1,
      firstAcc := if s.recs.firstAcc = 0 then n else s.recs.firstAcc } }
    if sev = 3 then s.vitTrigger (some 0) 1 else s

/-- Severities (Table 14.5). -/
def Sev.info : Nat := 0
def Sev.warning : Nat := 1
def Sev.error : Nat := 2
def Sev.critical : Nat := 3

/-- A module record (R596): the register that reports the event, the kind of event, and the values the requiring statement
names, as octets. -/
def State.log (s : State) (sev kind : Nat) (f : Fld) (vals : List Nat) : State :=
  s.logRec sev (f.addr / 65536) (kind * 2 ^ 14 + f.addr % 65536 / 4) (leBytes 4 (s.word 0 f.addr) ++ vals)

/-- A module record of an event that no register reports (R596). -/
def State.logBlock (s : State) (sev kind blk : Nat) (vals : List Nat) : State :=
  s.logRec sev blk (kind * 2 ^ 14) (leBytes 4 0 ++ vals)

/-! ### On-time work (R81, R85) -/

/-- The modes in which a class can fault (Table 02.3). -/
def State.classFaults (s : State) (c : Nat) : Bool :=
  match s.mode with
  | .recovery => false
  | .stop | .hold => decide (1 ≤ c) && decide (c ≤ 9)
  | .run => decide (c ≤ 9)
  | .shadow => c = 4 || c = 6 || c = 8 || c = 9
  | .basic => c = 3 || c = 6 || c = 8 || c = 9

/-- On-time work ends a run of faults: one Info record with the length of the run. -/
def State.classOnTime (s : State) (c : Nat) : State :=
  let n := SMap.getD s.frame.runLen c 0
  let s := if n = 0 then s
    else (s.log Sev.info 1 (F.FRM_DCLS_CONSEC_CONSEC.at c) (leBytes 4 n)).modFrame fun f => { f with runLen := SMap.erase f.runLen c }
  s.put (F.FRM_DCLS_CONSEC_CONSEC.at c) 0

/-- The key under which `Frame.missed` holds a RADIO fault of a Hitch engine. -/
def radioLate (r : Nat) : Nat := 70 + r

/-- One on-time completion of a class's work in a slot or tick sets CONSEC to 0 (R81). -/
def State.onTime (s : State) (c : Nat) : State :=
  if !s.live || s.frame.transitional || !s.classFaults c then s else s.classOnTime c

/-- The key under which `Frame.missed` holds a TRACK or LOOP fault of one of the class's two engines. -/
def tickLate (c engine : Nat) : Nat := 8 * c + engine % 2
/-- A fault made engine 0 or 1 of a class miss the tick (Table 02.2): nothing of its work is done. -/
def State.tickMissed (s : State) (c engine : Nat) : Bool := s.frame.missed.contains (tickLate c engine)
/-- A tick of a class is over: work without a fault of either engine was on time. -/
def State.tickOver (s : State) (c : Nat) : State :=
  if s.tickMissed c 0 || s.tickMissed c 1 then
    s.modFrame fun x => { x with missed := removeN (removeN x.missed (tickLate c 0)) (tickLate c 1) }
  else s.onTime c

/-! ### Sessions and the sequence window (R59 to R63) -/

/-- The outcomes of R59. -/
inductive SeqClass where
  | accepted | pending | duplicate (cached : Option (List Nat)) | stale
  deriving DecidableEq, Repr

def Session.half (x : Session) : Nat := 2 ^ (x.width - 1)
/-- s > H in the arithmetic of the protocol. -/
def Session.above (x : Session) (q : Nat) : Bool :=
  let d := (q + 2 ^ x.width - x.high) % 2 ^ x.width
  decide (0 < d) && decide (d < x.half)
/-- How far a sequence number lies below H. -/
def Session.below (x : Session) (q : Nat) : Nat := (x.high + 2 ^ x.width - q) % 2 ^ x.width

/-- A fresh context, which has accepted nothing, takes any number as above H. -/
def Session.classify (x : Session) (q : Nat) : SeqClass :=
  if x.window = [] && x.high = 0 then .accepted
  else if x.above q then .accepted
  else if 63 < x.below q then .stale
  else match x.window.find? (fun e => e.seq = q) with
    | none => .accepted
    | some e => if e.done then .duplicate e.cached else .pending

/-- Take a number into the window: H follows. A request below the window stays known to the session, so that an abort can name its
operation (R68), until its number comes round again. -/
def Session.accept (x : Session) (q : Nat) (kind : Nat := 0) : Session :=
  let x := if x.above q || (x.window = [] && x.high = 0) then { x with high := q } else x
  { x with window := x.window.filter (fun e => e.seq ≠ q) ++ [({ seq := q, kind := kind } : SeqEntry)] }

/-- Keep the cached results of the last 16 completed requests. -/
def trimCache : List SeqEntry → Nat → List SeqEntry
  | [], _ => []
  | e :: l, n => if e.cached.isSome && decide (16 ≤ n) then { e with cached := none } :: trimCache l n
                 else e :: trimCache l (if e.cached.isSome then n + 1 else n)

def Session.complete (x : Session) (q : Nat) (res : List Nat) : Session :=
  match x.window.find? (fun e => e.seq = q) with
  | none => x
  | some e =>
    let l := x.window.filter (fun e => e.seq ≠ q)
    { x with window := (trimCache ((l ++ [{ e with done := true, fin := res.headD 0, cached := some res }]).reverse) 0).reverse }

/-- The KIND of a request of the window. -/
def Session.kindOf (x : Session) (q : Nat) : Nat := ((x.window.find? fun e => e.seq = q).map SeqEntry.kind).getD 0

def State.setSession (s : State) (c : Nat) (x : Session) : State :=
  { s with gal := { s.gal with sessions := SMap.insert s.gal.sessions c x } }

/-- The role of a requester: 0 MONITOR, 1 OPERATOR, 2 ENGINEERING; an engine acts as ENGINEERING, SID 0 as MONITOR (R527, R530). -/
def State.roleOf (s : State) : Requester → Nat
  | .engine _ => 2
  | .session c => (match s.session c with | some x => x.role | none => 0)
  | .sid0 => 0

/-- A write needs at least a role (R531); below it the requester is answered REJECTED_ACCESS. In Recovery no session writes
(R534). -/
def State.gate (s : State) (who : Requester) (least : Nat) (f : State → State) : State :=
  if s.roleOf who < least then s.reply who St.access
  else match who with
    | .engine _ => f s
    | _ => if s.live && decide (s.mode = .recovery) then s.reply who St.mode else f s

/-! ### Messages to a host (R11, R525, R530, Table 12.2) -/

/-- A message of the module over DTLS: VER, KIND, LEN, SEQ, and a body that begins with the status (R530). -/
def hxmMessage (kind q st : Nat) (body : List Nat) : List Nat :=
  [1, kind % 256] ++ leBytes 2 (2 + body.length) ++ leBytes 4 q ++ leBytes 2 st ++ body

/-- A response frame of the SPI host port: the MAC is under the session key, and 0 where no session has one, as for SID 0 (R525, R527).
LEN counts the body after the status, as in a request (DEDUCED, log entry 121). -/
def spiFrame (kind sid q st : Nat) (body : List Nat) (key : Option (List Nat)) : List Nat :=
  let l := [kind % 256, sid % 256] ++ leBytes 2 body.length ++ leBytes 4 q ++ leBytes 2 st ++ body
  let l := l ++ (match key with
    | some k => (hmac384 k l).take 16
    | none => List.replicate 16 0)
  l ++ leBytes 4 (crc32c l)

/-- A response for the SPI host port is ready: HOST_RDY rises (R525). -/
def State.spiReady (s : State) (args : List Int) : State :=
  (s.modWired fun w => { w with spiResp := some args, spiRdy := true }).emitNow .spiReady args

/-- A response frame: at once, or with the record that the Follower acknowledges (R548). -/
def State.spiSend (s : State) (l : List Nat) : State :=
  let args := l.map Int.ofNat
  if s.get F.SPL_STAT_PROTECTED = 1 && s.spl.unacked ≠ [] then s.emit .spiReply args else s.spiReady args

/-- The KIND of COMPLETE (Table 12.3). -/
def kindComplete : Nat := 0xFF

/-- A message to the host of a session, over DTLS or as a frame of the host port: its KIND, SEQ, status and result octets. -/
def State.hostSend (s : State) (c kind q st : Nat) (body : List Nat) : State :=
  match s.session c with
  | none => s
  | some x =>
    if x.typ = 3 then s.spiSend (spiFrame kind x.peer q st body (some x.key))
    else s.emit (if kind = kindComplete then .hxmComplete else .hxmReply) ((c : Int) :: (hxmMessage kind q st body).map Int.ofNat)

/-- The response to a request of a session: a final status ends the request, PENDING leaves it in progress. -/
def State.hostAnswer (s : State) (c q st : Nat) (body : List Nat) : State :=
  match s.session c with
  | none => s
  | some x =>
    (if st = St.pending then s else s.setSession c (x.complete q (st :: body))).hostSend c (x.kindOf q + 0x80) q st body

/-! ### Ticket slots and the end of a long operation (R203, R204, R532, R633) -/

def State.modSect (s : State) (k : Nat) (f : Sect → Sect) : State :=
  { s with prog := { s.prog with sects := setAt s.prog.sects k (f (s.prog.sects.getD k {})) } }

def Sect.modSlot (x : Sect) (k : Nat) (f : Slot → Slot) : Sect :=
  { x with slots := SMap.insert x.slots k (f (SMap.getD x.slots k {})) }

/-- The command-status registers (Table 00.6), by address. -/
def cmdStats : List Nat :=
  [F.SYS_CMD_STAT_STATUS, F.STP_CMD_STAT_STATUS, F.TIM_CMD_STAT_STATUS, F.MTR_CMD_STAT_STATUS, F.SPL_CMD_STAT_STATUS,
   F.UPD_CMD_STAT_STATUS, F.KEY_CMD_STAT_STATUS, F.BST_CMD_STAT_STATUS].map Fld.addr

/-- The status of the command-status register at an address. -/
def State.cmdFinal (s : State) (a st : Nat) : State :=
  if cmdStats.contains a then { s with regs := SMap.put 0 s.regs (a * 32) (st % 2 ^ 16) } else s

/-- A request of a session is final: COMPLETE carries its status and result. A session that closes discards them, and its context
is freed with the last of them (R63). -/
def State.sessionDone (s : State) (c q st : Nat) (body : List Nat) : State :=
  match s.session c with
  | none => s
  | some x =>
    let x := x.complete q (st :: body)
    if x.state ≠ 3 then (s.setSession c x).hostSend c kindComplete q st body
    else if x.window.all (·.done) then { s with gal := { s.gal with sessions := SMap.erase s.gal.sessions c } }
    else s.setSession c x

/-- Report a final status, and result words, to whoever asked for the operation: to a host as octets (R11). -/
def State.finish (s : State) (o : Origin) (st : Nat) (res : List Nat) : State :=
  match o with
  | .quiet => s
  | .command a =>
    let s := s.cmdFinal a st
    let l := s.wired.waitCmd.filter (fun p => p.1 = a)
    let s := s.modWired fun w => { w with waitCmd := w.waitCmd.filter fun p => p.1 ≠ a }
    l.foldl (fun s p => s.sessionDone p.2.1 p.2.2 st (octetsOf res)) s
  | .program k j n =>
    s.modSect k (fun x => x.modSlot j (fun y =>
      if y.serial = n && (y.st = .active || y.st = .issued) then { y with status := st, result := res, st := .final } else y))
  | .host c q => s.sessionDone c q st (octetsOf res)

/-- The answer to a request: a status that is final ends the operation; PENDING leaves it in progress. -/
def State.answer (s : State) (o : Origin) (st : Nat) (res : List Nat) : State :=
  match o with
  | .quiet => s.emit .value ((st :: res).map Int.ofNat)
  | .command a => s.cmdFinal a st
  | .program k j n =>
    if st = St.pending then
      s.modSect k (fun x => x.modSlot j (fun y => if y.serial = n && y.st = .issued then { y with st := .active } else y))
    else s.finish o st res
  | .host c q => s.hostAnswer c q st (octetsOf res)

/-- Write a command-status register: code and status. -/
def State.cmdStat (s : State) (code status : Fld) (c st : Nat) : State := (s.put code c).put status st

/-- Finish a list of operations alike. -/
def State.finishAll (s : State) (l : List Origin) (st : Nat) : State := l.foldl (fun s o => s.finish o st []) s

/-! ### Memory behind the engine address map (Tables 01.2 and 01.3) -/

/-- What a byte that nothing has written reads as. -/
def unlistedByte : BitVec 8 := 0

def memGet : List Host.Cell → Nat → BitVec 8
  | [], _ => unlistedByte
  | (a, b) :: m, x => if x = a then b else memGet m x

/-- Write one byte, keeping the addresses strictly rising and no byte equal to an unlisted one. -/
def memPut : List Host.Cell → Nat → BitVec 8 → List Host.Cell
  | [], x, v => if v = unlistedByte then [] else [(x, v)]
  | (a, b) :: m, x, v =>
    if x < a then (if v = unlistedByte then (a, b) :: m else (x, v) :: (a, b) :: m)
    else if x = a then (if v = unlistedByte then m else (x, v) :: m)
    else (a, b) :: memPut m x v

/-- The canonical form of memory. -/
def Memory.wf : List Host.Cell → Bool
  | [] => true
  | [(_, b)] => decide (b ≠ unlistedByte)
  | (a, b) :: (a', b') :: m => decide (b ≠ unlistedByte) && decide (a < a') && Memory.wf ((a', b') :: m)

def memWrite (m : List Host.Cell) (a : Nat) : List Nat → List Host.Cell
  | [] => m
  | v :: l => memWrite (memPut m a (BitVec.ofNat 8 v)) (a + 1) l

def memRead (m : List Host.Cell) (a : Nat) : Nat → List Nat
  | 0 => []
  | n + 1 => (memGet m a).toNat :: memRead m (a + 1) n

end Sys2Proof.Machine
end

