-- ==== Sys2Proof/Machine/Shared.lean ====
section
/-!
DEFINITION. Engines, Gallery and shared mechanisms (chapter 01): the lottery and its accesses, sidebands, DMA descriptors,
semaphores, FIFOs, and session contexts.
-/
namespace Sys2Proof.Machine

/-! ### The Gallery lottery (R28 to R41) -/

/-- Rotate a 32-bit word left. -/
def rotl32 (v n : Nat) : Nat := let k := n % 32; (v * 2 ^ k) % 2 ^ 32 + v / 2 ^ (32 - k) % 2 ^ k

/-- GAL_LFSR takes a value: it advances from here. -/
def State.lfsrWrite (s : State) (v : Nat) : State :=
  (s.put F.GAL_LFSR_STATE v).modGal fun g => { g with lfsrAt := Nat.max s.galClock g.lfsrAt }

/-- Tickets of requester r in bank b (GAL_TKT). -/
def State.tickets (s : State) (b r : Nat) : Nat :=
  let f := match r % 4 with
    | 0 => F.GAL_TKT_TKT0 | 1 => F.GAL_TKT_TKT1 | 2 => F.GAL_TKT_TKT2 | _ => F.GAL_TKT_TKT3
  s.get (f.at2 b (r / 4))

/-- The bank that holds an address of the Gallery (Table 01.2). -/
def galleryBank (a : Nat) : Option Nat :=
  if 0x10000000 ≤ a && a < 0x10800000 then some ((a - 0x10000000) / 0x80000) else none

/-- The LPDDR4X (Table 01.2). -/
def inDdr (a : Nat) : Bool := decide (0x80000000 ≤ a) && decide (a < 0xF0000000)

/-- The winner of a draw: tickets are added up in requester order until the draw is passed (R33). -/
def drawWinner (s : State) (b d : Nat) : List Nat → Nat → Option Nat
  | [], _ => none
  | r :: l, acc => let acc' := acc + s.tickets b r; if d < acc' then some r else drawWinner s b d l acc'

/-- A draw on bank b among the requesters given, ascending (R33), with the LFSR at `v`. -/
def State.lottery (s : State) (b v : Nat) (rs : List Nat) : Option Nat :=
  let t := sumN (rs.map (s.tickets b))
  drawWinner s b (rotl32 v (2 * b) * t / 2 ^ 32) rs 0

/-- An access-fault response to a requester. -/
def State.accessFault (s : State) (r a : Nat) : State := s.emit .fault [(r : Int), a]

/-- A request that its bank refuses: no tickets (R36). -/
def State.deny (s : State) (b r a : Nat) : State := (s.inc (F.GAL_BSTAT_DENIED.at b)).accessFault r a

/-- Who may access one octet outside the Gallery, and how (R30, R31, Table 01.2): LPDDR4X for C0, C1, S0–S3 and D0–D3, MRAM
for C0, C1, K0 and D0–D3 with writes to the Strongroom region from K0 only, the flash windows for reading. -/
def directAllowed (r a op : Nat) : Bool :=
  let dma := decide (24 ≤ r) && decide (r ≤ 27)
  if inDdr a then decide (r < 2) || (decide (12 ≤ r) && decide (r ≤ 15)) || dma
  else if 0x20000000 ≤ a && a < 0x21000000 then
    (decide (r < 2) || decide (r = 22) || dma)
      && (decide (op = 0) || !(decide (0x20C10000 ≤ a) && decide (a < 0x20C50000)) || decide (r = 22))
  else if 0x30000000 ≤ a && a < 0x34000000 then decide (op = 0)
  else false

/-- The rights of an access outside the Gallery of n octets: those of every octet it touches. No window or region of Table 01.3 that
decides rights is shorter than an access, so its ends decide. -/
def spanAllowed (r a n op : Nat) : Bool := directAllowed r a op && directAllowed r (a + (n - 1)) op

/-- In the Gallery Y0 reads bank 15, and does nothing else (R27). -/
def y0Allowed (r b op : Nat) : Bool := decide (r ≠ 23) || (decide (b = 15) && decide (op = 0))

/-! ### What the addresses hold (R176) -/

/-- The D word that an octet of the Gallery belongs to: D lies in the two banks that the package in force states, 131,072 words in each. -/
def State.dWordAt (s : State) (a : Nat) : Option Nat :=
  match galleryBank a, s.prog.pkg with
  | some b, some p =>
    let w := a % 0x80000 / 4
    if b = p.dBanks.1 then some w else if b = p.dBanks.2 then some (0x20000 + w) else none
  | _, _ => none

/-- The octet at an address: of a D word as it is committed, or of memory. -/
def State.octetAt (s : State) (a : Nat) : Nat :=
  match s.dWordAt a with
  | some o => SMap.getD s.prog.areas (areaKey 5 o) 0 / 2 ^ (8 * (a % 4)) % 256
  | none => (memGet s.mem a).toNat

/-- Put an octet at an address. -/
def State.putOctet (s : State) (a v : Nat) : State :=
  match s.dWordAt a with
  | some o =>
    let w := SMap.getD s.prog.areas (areaKey 5 o) 0
    let k := 2 ^ (8 * (a % 4))
    s.modProg fun p => { p with areas := SMap.put 0 p.areas (areaKey 5 o) (w - w / k % 256 * k + v % 256 * k) }
  | none => { s with mem := memPut s.mem a (BitVec.ofNat 8 v) }

def State.octetsAt (s : State) (a n : Nat) : List Nat := (List.range n).map fun k => s.octetAt (a + k)

def State.putOctets (s : State) (a : Nat) : List Nat → State
  | [] => s
  | v :: l => (s.putOctet a v).putOctets (a + 1) l

/-! ### An access (R28, R29, R35) -/

/-- The octets of a request that an access of `beats` beats moves, at most 8 (R35). -/
def GalReq.octs (q : GalReq) (beats : Nat) : Nat := min q.len (8 * min beats 8 - q.addr % 8)

/-- The words, by number from the first one touched, that an access of n octets at a reads: all of them, or those that a write covers
only in part (R29). -/
def wordsRead (a n op : Nat) : List Nat :=
  (List.range ((a % 8 + n + 7) / 8)).filter fun k =>
    decide (op = 0) || decide (a / 8 * 8 + 8 * k < a) || decide (a + n < a / 8 * 8 + 8 * k + 8)

/-- What the code finds in one word that requester r reads (R28): a corrected word is counted; an error that it cannot correct is
counted and recorded with the address and the requester. -/
def State.eccWord (s : State) (r a found : Nat) : State :=
  if found = 1 then s.inc F.GAL_ECC_CORR
  else if found = 2 then (s.inc F.GAL_ECC_UNCORR).log Sev.error 0 F.GAL_ECC_UNCORR (leBytes 4 a ++ [r])
  else s

/-- The words an access reads, and whether all of them were good or corrected. Only the Gallery and the LPDDR4X carry the code. -/
def State.eccRead (s : State) (r a n op : Nat) (ecc : List Nat) : State × Bool :=
  if (galleryBank a).isNone && !inDdr a then (s, true)
  else
    let ks := wordsRead a n op
    (ks.foldl (fun s k => s.eccWord r (a / 8 * 8 + 8 * k) (ecc.getD k 0)) s, ks.all fun k => ecc.getD k 0 ≠ 2)

/-- The access itself: `beats` 64-bit beats of it are performed (R35, R38), with what R28 finds in the words it reads. -/
def State.access (s : State) (q : GalReq) (beats : Nat) : State :=
  let n := q.octs beats
  let (s, good) := s.eccRead q.req q.addr n q.op q.ecc
  if !good then s.accessFault q.req q.addr
  else if q.op = 0 then
    s.emit .value ([(q.req : Int), 0, q.addr] ++ (s.octetsAt q.addr n).map Int.ofNat)
  else s.putOctets q.addr (q.data.take n)

/-- A request whose octets lie in two banks, or begin in the Gallery and end outside it, is no access. -/
def GalReq.whole (q : GalReq) : Bool := galleryBank q.addr = galleryBank (q.addr + (q.len - 1))

/-- A request that arrives: at a bank it waits for a draw, unless its requester is masked or has no tickets; elsewhere but at the LPDDR4X
it is performed or refused at once. -/
def State.arrive (s : State) (q : GalReq) : State :=
  if !s.awake q.req then s
  else if !q.whole then s.accessFault q.req q.addr
  else match galleryBank q.addr with
    | some b =>
      if !y0Allowed q.req b q.op then s.accessFault q.req q.addr
      else if s.tickets b q.req = 0 then s.deny b q.req q.addr
      else s.modGal fun g => { g with pending := g.pending ++ [{ req := q, bank := b }] }
    | none =>
      if !spanAllowed q.req q.addr q.len q.op then s.accessFault q.req q.addr
      else if inDdr q.addr then s else s.access q 8

/-! ### The LPDDR4X controller (R30) -/

/-- The requesters that the LPDDR4X controller serves in turn, with their weights. -/
def ddrRing : List (Nat × Nat) :=
  [(0, 4), (1, 4), (12, 2), (13, 2), (14, 2), (15, 2), (24, 1), (25, 1), (26, 1), (27, 1)]

/-- The turn passes to the next requester. -/
def State.ddrPass (s : State) : State :=
  s.modGal fun g =>
    let k := (g.ddrTurn + 1) % 10
    { g with
      ddrTurn := k
      ddrLeft := (ddrRing.getD k (0, 1)).2 }

/-- Weighted round robin over the accesses that wait: the requester whose turn it is has its next access served, up to its weight in a
turn; one that waits for nothing passes. -/
def State.ddrServe (s : State) : Nat → List GalReq → State
  | 0, _ => s
  | _, [] => s
  | k + 1, q :: l =>
    let r := (ddrRing.getD s.gal.ddrTurn (0, 1)).1
    match (q :: l).find? fun p => p.req = r with
    | some p =>
      if s.gal.ddrLeft = 0 then s.ddrPass.ddrServe k (q :: l)
      else ((s.modGal fun g => { g with ddrLeft := g.ddrLeft - 1 }).access p 8).ddrServe k ((q :: l).erase p)
    | none => s.ddrPass.ddrServe k (q :: l)

/-- The requests among those that arrive which the LPDDR4X controller takes. -/
def State.ddrTakes (s : State) (q : GalReq) : Bool :=
  s.awake q.req && q.whole && spanAllowed q.req q.addr q.len q.op && inDdr q.addr

/-! ### A draw (R33) -/

/-- A draw on a bank `clocks` clocks after the present instant or the last draw, and the winner's access (R33). -/
def State.gallery (s : State) (b clocks : Nat) (arrivals : List GalReq) (beats : Nat) : State :=
  let c := Nat.max s.galClock s.gal.lfsrAt + clocks
  let v := s.lfsrAtClock c
  let gone := c - s.gal.lfsrAt
  let s := s.put F.GAL_LFSR_STATE v
  let s : State := s.modGal fun g => { g with
    lfsrAt := c, pending := g.pending.map fun p => { p with wait := p.wait + gone } }
  let ddr := arrivals.filter s.ddrTakes
  let s := arrivals.foldl State.arrive s
  let s := s.ddrServe (11 * (ddr.length + 1)) ddr
  -- a count that has become 0 since the request arrived
  let s := (s.gal.pending.filter (fun p => p.bank = b && s.tickets b p.req.req = 0)).foldl (fun s p => s.deny b p.req.req p.req.addr) s
  let s := s.modGal fun g => { g with pending := g.pending.filter (fun p => !(p.bank = b && s.tickets b p.req.req = 0)) }
  let rs := (List.range 28).filter (fun r => s.gal.pending.any (fun p => p.bank = b && p.req.req = r))
  match s.lottery b v rs with
  | none => s
  | some r =>
    match s.gal.pending.find? (fun p => p.bank = b && p.req.req = r) with
    | none => s
    | some p =>
      let s := s.modGal fun g => { g with pending := g.pending.erase p }
      let s := s.put (F.GAL_BSTAT_MAXWAIT.at b) (min 65535 (Nat.max (s.get (F.GAL_BSTAT_MAXWAIT.at b)) p.wait))
      let s := s.put (F.GAL_WAITMAX_MAXWAIT.at r) (min 65535 (Nat.max (s.get (F.GAL_WAITMAX_MAXWAIT.at r)) p.wait))
      s.access p.req beats

def execGalleryAccess (bank clocks : Nat) (arrivals : List GalReq) (beats : Nat) (direct : List GalReq) (s : State) : Res :=
  s.actMem fun s => s.gallery bank clocks (arrivals ++ direct) beats

/-! ### Semaphores (R42 to R48) -/

/-- Release semaphore n and flag it as abandoned. -/
def State.semAbandon (s : State) (n : Nat) : State :=
  (s.put (F.SEM_SEMn_OWNER.at n) 31).putB (F.SEM_SEMn_ABANDONED.at n) true

/-- Every semaphore of an engine is abandoned (R45). -/
def State.semAbandonAll (s : State) (e : Nat) : State :=
  ((List.range 128).filter (fun n => s.get (F.SEM_SEMn_OWNER.at n) = e)).foldl
    (fun s n => (s.semAbandon n).inc F.SEM_ERR_ABANDONS) s

/-- The sideband of an engine asserts: it is masked, its requests go, its semaphores are abandoned, the FIFOs it fills are flagged
(R37, R45, R57). -/
def State.sideband (s : State) (e : Nat) : State :=
  let s := s.modGal fun g => { g with
    masked := insertN g.masked e, pending := g.pending.filter fun p => p.req.req ≠ e }
  let s := s.semAbandonAll e
  ((List.range 64).filter (fun f => s.get (F.FIF_CFG_PRODUCER.at f) = e)).foldl
    (fun s f => s.putB (F.FIF_STAT_PRODUCER_RESET.at f) true) s

/-- The sideband of an engine that is one (an owner 31 is none). -/
def State.sidebandHere (s : State) (e : Nat) : State := if e < 28 then s.sideband e else s

/-- The word a reader gets: GRANTED, HELD, ABANDONED and OWNER. -/
def semWord (granted abandoned : Bool) (owner : Nat) : Nat :=
  2 ^ 31 * b2n granted + 2 ^ 30 * b2n (decide (owner ≠ 31)) + 2 ^ 29 * b2n abandoned + owner

/-- The engine number of a requester that can acquire (R42, R43). -/
def Requester.acquirer : Requester → Option Nat
  | .engine e => if e ≤ 22 then some e else none
  | _ => none

/-- The first of the candidates at or above the engine after the last winner, wrapping from 22 to 0 (R46). -/
def semWinner (last : Nat) (cs : List Nat) : Option Nat :=
  ((List.range 23).map (fun k => (last + 1 + k) % 23)).find? (fun e => cs.contains e)

/-- Reads of SEM_SEMn in one clock (R42, R43, R46). -/
def State.semRead (s : State) (n : Nat) (readers : List Requester) : State :=
  let o := s.get (F.SEM_SEMn_OWNER.at n)
  let ab := s.flag (F.SEM_SEMn_ABANDONED.at n)
  let cs := readers.filterMap Requester.acquirer
  let win := if o = 31 then semWinner s.gal.semLast cs else none
  let s := match win with
    | some e =>
      let s := (s.put (F.SEM_SEMn_OWNER.at n) e).putB (F.SEM_SEMn_ABANDONED.at n) false
      s.modGal fun g => { g with semLast := e }
    | none => s
  let o' := s.get (F.SEM_SEMn_OWNER.at n)
  readers.foldl (fun s r =>
    let mine := r.acquirer = some o'
    s.reply r 0 [semWord mine (if mine && win.isSome then ab else s.flag (F.SEM_SEMn_ABANDONED.at n)) o']) s

/-- A release write (R44). -/
def State.semRelease (s : State) (n : Nat) (who : Requester) (w : Word) : State :=
  if !bit w.toNat 0 then s
  else if who.acquirer = some (s.get (F.SEM_SEMn_OWNER.at n)) then s.put (F.SEM_SEMn_OWNER.at n) 31
  else s.inc F.SEM_ERR_FOREIGN

/-- What else happens to semaphore n in the clock of its readers comes first (R47): a release write, or the sideband of its owner. -/
def State.semNow (s : State) (n : Nat) : SemNow → State
  | .none_ => s
  | .release who => s.semRelease n who 1
  | .abandon => s.sidebandHere (s.get (F.SEM_SEMn_OWNER.at n))

/-- An engine in reset reads nothing. -/
def execSemAcquire (n : Nat) (readers : List Requester) (s : State) (now : SemNow := .none_) : Res :=
  s.act fun s => let s := s.semNow n now; s.semRead n (readers.filter (Requester.awake s))

def execSemRelease (n : Nat) (who : Requester) (w : Word) (s : State) : Res :=
  s.act fun s => s.when (who.awake s) fun s => s.semRelease n who w

/-- SEM_FORCE (R48): the state after the write, and its status. A release so forced is not counted in SEM_ERR.ABANDONS (DESIGN CHOICE,
log entry 92: Table 01.8 counts abandonments, and R45 alone names them). -/
def State.semForce (s : State) (w : Word) : State × Nat :=
  if !s.live || (s.mode ≠ .stop && s.mode ≠ .hold) then (s, St.mode)
  else
    let s := s.put F.SEM_FORCE_INDEX (bits w.toNat 6 0)
    (if bit w.toNat 31 then s.semAbandon (bits w.toNat 6 0) else s, St.done)

def execSemForce (who : Requester) (w : Word) (s : State) : Res :=
  s.act fun s => s.when (who.awake s) fun s => s.gate who 1 fun s => let (s, st) := s.semForce w; s.reply who st

/-! ### FIFOs (R49 to R58) -/

def State.setFifo (s : State) (f : Nat) (x : Fifo) : State :=
  s.modGal fun g => { g with fifos := SMap.put {} g.fifos f x }

/-- A FIFO takes pushes, pops and commands while FIF_CFG.ENABLE is 1. -/
def State.fifoOn (s : State) (f : Nat) : Bool := s.flag (F.FIF_CFG_ENABLE.at f)

def State.fifoForeign (s : State) (f : Nat) : State := s.putB (F.FIF_STAT_FOREIGN.at f) true

/-- A push of a whole entry (R50, R53, R54): discarded while DROPPING, or at full. -/
def State.fifoPush (s : State) (f : Nat) (e : FifoEntry) : State :=
  let x := s.fifo f
  if x.dropping then s.setFifo f { x with dropping := !e.tag }
  else if x.entries.length = s.fifoCap f then s.putB (F.FIF_STAT_OVERFLOW.at f) true
  else s.setFifo f { x with entries := x.entries ++ [e], wptr := (x.wptr + 1) % (2 * s.fifoCap f) }

/-- Only the producer pushes (R49). -/
def State.byProducer (s : State) (f engine : Nat) (k : State → State) : State :=
  if !s.fifoOn f then s
  else if s.get (F.FIF_CFG_PRODUCER.at f) = engine then k s else s.fifoForeign f

def State.fifoPushLo (s : State) (f engine lo : Nat) (wide : Option Nat) : State :=
  s.byProducer f engine fun s =>
    let s := s.setFifo f { s.fifo f with lowWord := lo }
    match wide with
    | some hi => s.fifoPush f ⟨lo, hi, false⟩
    | none => s

def State.fifoPushHi (s : State) (f engine hi : Nat) (tag : Bool) (wide : Option Nat) : State :=
  s.byProducer f engine fun s =>
    let lo := wide.getD (s.fifo f).lowWord
    s.fifoPush f ⟨lo, hi, tag⟩

def execFifPushLo (f engine : Nat) (lo : Word) (wide : Option Word) (s : State) : Res :=
  s.act fun s => s.when (s.awake engine) fun s => s.fifoPushLo f engine lo.toNat (wide.map BitVec.toNat)
def execFifPushHi (f engine : Nat) (hi : Word) (s : State) : Res :=
  s.act fun s => s.when (s.awake engine) fun s => s.fifoPushHi f engine hi.toNat false none
def execFifPushHiEnd (f engine : Nat) (hi : Word) (wide : Option Word) (s : State) : Res :=
  s.act fun s => s.when (s.awake engine) fun s => s.fifoPushHi f engine hi.toNat true (wide.map BitVec.toNat)

/-- A pop (R51, R52): the words it returns. -/
def State.fifoPop (s : State) (f engine : Nat) : State × Nat × Nat :=
  if !s.fifoOn f then (s, 0, 0)
  else if s.get (F.FIF_CFG_CONSUMER.at f) ≠ engine then (s.fifoForeign f, 0, 0)
  else
    let x := s.fifo f
    match x.entries with
    | [] => (s.putB (F.FIF_STAT_UNDERRUN.at f) true, x.lastLo, x.lastHi)
    | e :: l =>
      (s.setFifo f { x with entries := l, rptr := (x.rptr + 1) % (2 * s.fifoCap f), lastLo := e.lo, lastHi := e.hi,
                            lastTag := e.tag }, e.lo, e.hi)

/-- The push, by the producer, of the clock of a pop or of a command. -/
def State.pushNow (s : State) (f : Nat) : Option FifoEntry → State
  | none => s
  | some e => if s.fifoOn f && s.awake (s.get (F.FIF_CFG_PRODUCER.at f)) then s.fifoPush f e else s

/-- A pop and a push of one clock: the depth is that at its start, so the pop goes first (Table 01.9). -/
def State.popPush (s : State) (f engine : Nat) (wide : Bool) (push : Option FifoEntry) : State :=
  let (t, lo, hi) := s.fifoPop f engine
  (t.pushNow f push).reply (.engine engine) 0 (if wide then [lo, hi] else [lo])

def execFifPopLo (f engine : Nat) (wide : Bool) (s : State) (push : Option FifoEntry := none) : Res :=
  s.act fun s => s.when (s.awake engine) fun s => s.popPush f engine wide push

/-- FLUSH (R56). -/
def State.fifoFlush (s : State) (f engine : Nat) : State :=
  if !s.fifoOn f then s
  else if engine < 2 || s.get (F.FIF_CFG_CONSUMER.at f) = engine then
    let x := s.fifo f
    s.setFifo f { x with entries := [], rptr := x.wptr, dropping := false, lastTag := true }
  else s.fifoForeign f

/-- An entry pushed in the clock of the command is held before it acts (R55). -/
def execFlush (f engine : Nat) (s : State) (push : Option FifoEntry := none) : Res :=
  s.act fun s => s.when (s.awake engine) fun s => (s.pushNow f push).fifoFlush f engine

/-- DROP_PACKET (R54). -/
def State.fifoDrop (s : State) (f engine : Nat) : State :=
  if !s.fifoOn f then s
  else if s.get (F.FIF_CFG_CONSUMER.at f) ≠ engine then s.fifoForeign f
  else
    let x := s.fifo f
    if x.lastTag then s
    else match findIdx FifoEntry.tag x.entries with
      | some i => s.setFifo f { x with entries := x.entries.drop (i + 1), rptr := (x.rptr + i + 1) % (2 * s.fifoCap f) }
      | none => s.setFifo f { x with entries := [], rptr := x.wptr, dropping := true }

def execDropPacket (f engine : Nat) (s : State) (push : Option FifoEntry := none) : Res :=
  s.act fun s => s.when (s.awake engine) fun s => (s.pushNow f push).fifoDrop f engine

/-- A write of FIF_CMD: FLUSH, then DROP_PACKET. -/
def State.fifoCmd (s : State) (f engine w : Nat) : State :=
  let s := if bit w 1 then s.fifoFlush f engine else s
  if bit w 0 then s.fifoDrop f engine else s

/-- A write of FIF_CFG (R58): the state after it, and its status. PRODUCER and CONSUMER take any value, 28 to 30 as well, which name no
engine (DESIGN CHOICE, log entry 93: no refusal of them is stated). -/
def State.fifoCfg (s : State) (f w : Nat) : State × Nat :=
  let en := bit w 31
  let size := bits w 25 24
  let cons := bits w 20 16
  let prod := bits w 12 8
  if size = 3 then (s, St.badArg)
  else if s.fifoOn f && !(size = s.get (F.FIF_CFG_SIZE.at f) && cons = s.get (F.FIF_CFG_CONSUMER.at f)
      && prod = s.get (F.FIF_CFG_PRODUCER.at f)) then (s, St.busy)
  else
    let enabling := en && !s.fifoOn f
    let s := (((s.putB (F.FIF_CFG_ENABLE.at f) en).put (F.FIF_CFG_SIZE.at f) size).put (F.FIF_CFG_CONSUMER.at f) cons).put
      (F.FIF_CFG_PRODUCER.at f) prod
    let x := s.fifo f
    let p := x.wptr % (2 * s.fifoCap f)
    (if enabling then s.setFifo f { x with entries := [], wptr := p, rptr := p } else s, St.done)

def execFifCfgWrite (f : Nat) (who : Requester) (w : Word) (s : State) : Res :=
  s.act fun s => s.when (who.awake s) fun s => s.gate who 1 fun s => let (s, st) := s.fifoCfg f w.toNat; s.reply who st

/-! ### Sidebands and DMA (R26, R37, R38, R45, R57) -/

/-- A restarted engine contends again. -/
def State.unmask (s : State) (e : Nat) : State := s.modGal fun g => { g with masked := removeN g.masked e }

/-- Curator firmware restarts the engines that their sidebands hold in reset (R37): at a frame boundary with a core running (DESIGN
CHOICE, log entry 94: the spec does not say when). The cores and P0–P3 have rules of their own (R84, R109). -/
def State.restartEngines (s : State) : State :=
  if s.frame.c0.running || s.frame.c1.running then
    s.modGal fun g => { g with masked := g.masked.filter fun e => decide (e < 6) }
  else s

def execSidebandAssert (engine : Nat) (s : State) : Res := s.act fun s => s.sideband engine

/-- Whether DMA requester d may read (op 0) or write (op 1) n octets at a: the state after a refusal, none where it may (R31, R36). -/
def State.dmaRefused (s : State) (d a n op : Nat) : Option State :=
  match galleryBank a with
  | some b => if s.tickets b d = 0 then some (s.deny b d a) else none
  | none => if spanAllowed d a n op then none else some (s.accessFault d a)

/-- The copy, piece by piece, each within one 64-bit word of its source and of its target: it ends at the first access that faults.
`ecc` lists what is found in the words of the source, the first of them at `base`. -/
def State.dmaCopy (s : State) (d base : Nat) (ecc : List Nat) : Nat → Nat → Nat → Nat → State
  | 0, _, _, _ => s
  | _, _, _, 0 => s
  | k + 1, src, dst, len =>
    let n := min len (min (8 - src % 8) (8 - dst % 8))
    match s.dmaRefused d src n 0 with
    | some t => t
    | none =>
      let found := if (galleryBank src).isSome || inDdr src then ecc.getD (src / 8 - base / 8) 0 else 0
      let s := if src = base || src % 8 = 0 then s.eccWord d (src / 8 * 8) found else s
      if found = 2 then s.accessFault d src
      else match s.dmaRefused d dst n 1 with
        | some t => t
        | none =>
          (s.putOctets dst (s.octetsAt src n)).dmaCopy d base ecc k (src + n) (dst + n) (len - n)

/-- A descriptor for a DMA requester (R26): from a Curator core it copies `len` octets; from any other engine it is counted. -/
def State.dma (s : State) (writer d src dst len : Nat) (ecc : List Nat) : State :=
  if !s.awake writer then s
  else if 2 ≤ writer then s.inc F.GAL_ECC_DMA_REFUSED
  else if d < 24 || 27 < d || !s.awake d then s
  else s.dmaCopy d src ecc len src dst len

def execDmaDescriptor (writer dma src dst len : Nat) (s : State) (ecc : List Nat := []) : Res :=
  s.actMem fun s => s.dma writer dma src dst len ecc

/-! ### Session contexts (R59 to R64) -/

def State.quotaMin (s : State) (t : Nat) : Nat := s.get (F.GAL_SESS_QUOTA_MIN.at t)
def State.quotaMax (s : State) (t : Nat) : Nat := s.get (F.GAL_SESS_QUOTA_MAX.at t)

/-- A context of type t may open (R61); in Recovery only context 0 is usable (R64). -/
def State.quotaOk (s : State) (t : Nat) : Bool :=
  let used := s.gal.sessions.length
  let others := sumN (((List.range 4).filter (· ≠ t)).map (fun u => s.quotaMin u - s.sessCount u))
  decide (s.sessCount t < s.quotaMax t) && decide (others < 512 - used)
    && (decide (s.mode ≠ .recovery) || decide (used = 0))

/-- The lowest free context. -/
def State.freeContext (s : State) : Nat :=
  ((List.range 512).find? (fun c => (s.session c).isNone)).getD 511

/-- Open a context: its number, or none where the quota refuses it (R61). -/
def State.openSession (s : State) (x : Session) : State × Option Nat :=
  if s.quotaOk x.typ then
    let c := s.freeContext
    (s.setSession c { x with lastAt := s.mono }, some c)
  else (s, none)

/-- SESSION_OPEN; in Recovery no session but the recovery session opens (R64). -/
def execSessionOpen (typ peer slot : Nat) (s : State) : Res :=
  s.act fun s =>
    if s.live && decide (s.mode = .recovery) then s.reply .sid0 St.busy else
    let (s, c) := s.openSession { typ := typ, peer := peer, slot := slot }
    match c with
    | some c => s.reply .sid0 St.done [c]
    | none => s.reply .sid0 St.busy

/-- Close a context (R63): its PENDING requests go on to their own commit points; the context is freed after the last of them. -/
def State.freeSession (s : State) (c : Nat) : State :=
  match s.session c with
  | none => s
  | some x =>
    if x.window.all (·.done) then s.modGal fun g => { g with sessions := SMap.erase g.sessions c }
    else s.setSession c { x with state := 3 }

/-- A write of GAL_SESS_QUOTA (R62); the mode is checked before. -/
def State.setQuota (s : State) (t min max : Nat) : State × Nat :=
  let sum := sumN ((List.range 4).map (fun u => if u = t then min else s.quotaMin u))
  if max < min || 512 < sum then (s, St.badArg)
  else ((s.put (F.GAL_SESS_QUOTA_MIN.at t) min).put (F.GAL_SESS_QUOTA_MAX.at t) max, St.done)

end Sys2Proof.Machine
end

