-- ==== Sys2Proof/Machine/Updates.lean ====
section
/-!
DEFINITION. Images, banks and activations of firmware (R563 to R574), but for what a takeover or a reset does with them.
-/
namespace Sys2Proof.Machine

/-! ### Banks and images (R563 to R566) -/

def State.setBank (s : State) (b : Nat) (x : Bank) : State := s.modUpd fun u => { u with banks := setAt u.banks b x }

/-! Bank states (UPD_BANK_STATE). -/

namespace BankSt
def erased : Nat := 0
def written : Nat := 1
def trial : Nat := 2
def tried : Nat := 3
def good : Nat := 4
def rejected : Nat := 5
end BankSt

/-! UPD_STAT.STATE. -/

namespace UpdSt
def idle : Nat := 0
def receiving : Nat := 1
def verifying : Nat := 2
def ready : Nat := 3
def activating : Nat := 4
end UpdSt

def State.inactiveBank (s : State) : Nat := 1 - s.upd.active
def State.highGen (s : State) : Nat := Nat.max (s.bank 0).gen (s.bank 1).gen

/-- MAGIC, FORMAT and REV are as Table 13.5 states. -/
def Bank.headOk (b : Bank) : Bool := b.head.take 6 = [0x48, 0x58, 0x49, 0x4D, 0x01, 0x42]

/-- The octets of the header that the module reads fields of. -/
def headKept : Nat := 2112

/-- The newest valid package of a bank. -/
def Bank.newestPkg (b : Bank) : Option Package :=
  let ok := fun (p : Option Package) => match p with | some p => p.verified | none => false
  let a := (b.pkgs.getD b.newest none)
  let c := (b.pkgs.getD (1 - b.newest) none)
  if ok a then a else if ok c then c else none

/-- An activation copies the newest valid package into the new bank's slots (R566). -/
def State.copyPackages (s : State) (b : Nat) : State :=
  s.setBank b { s.bank b with pkgs := [(s.bank (1 - b)).newestPkg, none], newest := 0 }

/-- A committed switch or a load writes the package into the older slot of the active bank (R154, R566). -/
def State.storePackage (s : State) (p : Package) : State :=
  let b := s.bank s.upd.active
  let k := if (b.pkgs.getD b.newest none).isSome then 1 - b.newest else b.newest
  s.setBank s.upd.active { b with pkgs := setAt b.pkgs k (some p), newest := k }

def State.updState (s : State) (st status : Nat) : State := (s.put F.UPD_STAT_STATE st).put F.UPD_STAT_STATUS status

/-- Write a part into a bank. -/
def Bank.write (b : Bank) (data : List Nat) : Bank :=
  { b with head := b.head ++ (data.map (· % 256)).take (headKept - b.head.length), len := b.len + data.length }

/-- The verdict of R563 on a received image: 0, IMAGE_INVALID, or ROLLBACK when SECVER alone fails. -/
def State.imageVerdict (s : State) (b : Bank) (blocksOk sigOk : Bool) : Nat :=
  if !b.headOk || !blocksOk || !sigOk then St.imageInvalid
  else if b.secver < s.get F.UPD_SECVER_SECVER then St.rollback
  else 0

/-! ### IMAGE parts (R567) -/

/-- One HXM IMAGE part. -/
def State.imagePart (s : State) (o : Origin) (off : Nat) (data : List Nat) : State × Nat :=
  let st := s.get F.UPD_STAT_STATE
  let b := s.inactiveBank
  if s.upd.kind ≠ 0 then (s, St.updateActive)
  else if st = UpdSt.verifying then (s, St.busy)
  else if 1024 < data.length then (s, St.badArg)
  else if off = 0 && data ≠ [] then
    let s := s.setBank b (Bank.write { gen := (s.bank b).gen } data)
    ((s.updState UpdSt.receiving St.pending).modUpd fun u => { u with next := data.length }, St.done)
  else if st ≠ UpdSt.receiving || off ≠ s.upd.next then (s, St.badArg)
  else if data = [] then
    ((s.updState UpdSt.verifying St.pending).modUpd fun u => { u with imgBy := o }, St.pending)
  else
    ((s.setBank b ((s.bank b).write data)).modUpd fun u => { u with next := off + data.length }, St.done)

/-- IMAGE_VERIFIED. -/
def State.imageVerified (s : State) (blocksOk sigOk : Bool) : State :=
  if s.get F.UPD_STAT_STATE ≠ UpdSt.verifying then s
  else
    let b := s.inactiveBank
    let x := s.bank b
    let v := s.imageVerdict x blocksOk sigOk
    let o := s.upd.imgBy
    let s := s.modUpd fun u => { u with imgBy := .quiet }
    let s := if v = 0 then (s.setBank b { x with st := BankSt.written }).updState UpdSt.ready St.done
      else (s.setBank b { gen := x.gen }).updState UpdSt.idle v
    s.finish o v []

def execImageVerified (blocksOk sigOk : Bool) (s : State) : Res := s.act fun s => s.imageVerified blocksOk sigOk

/-! ### UPD_CMD (R568 to R572) -/

def updStat : Nat := F.UPD_CMD_STAT_STATUS.addr

/-- A bank becomes GOOD; the counter UPD_SECVER is raised, and an older bank that falls below it is recorded (R572). -/
def State.bankGood (s : State) (b : Nat) : State :=
  let x := s.bank b
  let s := s.setBank b { x with st := BankSt.good, good := true }
  let s := s.put F.UPD_SECVER_SECVER (Nat.max (s.get F.UPD_SECVER_SECVER) x.secver)
  let y := s.bank (1 - b)
  if y.st ≠ BankSt.erased && y.secver < s.get F.UPD_SECVER_SECVER then
    s.log Sev.info 0 F.UPD_SECVER_SECVER [] else s

/-- The refusals common to the activations (R568). -/
def State.activateRefusal (s : State) (sameFormat : Bool) : Option Nat :=
  if s.upd.kind ≠ 0 then some St.updateActive
  else if s.get F.UPD_STAT_STATE ≠ UpdSt.ready then some St.notReady
  else if sameFormat && (s.bank s.inactiveBank).copyfmt ≠ (s.bank s.upd.active).copyfmt then some St.formatChange
  else none

/-- Begin an activation of a kind. -/
def State.beginUpdate (s : State) (kind : Nat) : State :=
  (s.updState UpdSt.activating St.pending).modUpd fun u => { u with
    kind := kind, stage := 1, by_ := .command updStat, c1Ready := false, peerLeft := false }

/-- A bank is set TRIAL with GEN = highest + 1. -/
def State.setTrial (s : State) (b : Nat) : State :=
  (s.copyPackages b).setBank b { (s.copyPackages b).bank b with st := BankSt.trial, gen := s.highGen + 1 }

/-- The reset of RESTART is the commit point of ACTIVATE_RESTART: the bank is set TRIAL there (R65, R568). -/
def State.trialAtReset (s : State) : State := if s.upd.kind = 2 then s.setTrial s.inactiveBank else s

/-- A request to change the mode waits for its boundary. -/
def State.modeReq (s : State) (ev : ModeEv) (by_ : Origin) : State :=
  s.modFrame fun f => { f with modeReqs := f.modeReqs ++ [{ ev := ev, by_ := by_, at_ := f.num }] }

/-- The Follower as its last heartbeat shows it: eligible (R554). -/
def State.partnerEligible (s : State) : Bool :=
  s.flag F.SPL_STAT_PARTNER_HB && s.spl.hbSync = 2 && s.get F.SPL_PEER_MODE = Mode.shadow.code
    && (s.get F.SPL_PEER_LIFE = Life.provisioned.code || s.get F.SPL_PEER_LIFE = Life.deployed.code)

/-- UPD_CMD: the state after the command, and its status. -/
def State.updCmd (s : State) (code confirm : Nat) : State × Nat :=
  let frames := s.mode = .stop || s.mode = .run || s.mode = .hold
  if !(1 ≤ code && code ≤ 5) then (s, St.badArg)
  else if code ≠ 4 && confirm ≠ confirmValue then (s, St.confirm)
  else if !s.live then (s, St.mode)
  else match code with
    | 1 =>
      if !frames then (s, St.mode)
      else match s.activateRefusal true with
        | some st => (s, st)
        | none => (s.beginUpdate 1, St.pending)
    | 2 =>
      match s.activateRefusal false with
      | some st => (s, st)
      | none => ((s.beginUpdate 2).modeReq (.shutdown false) .quiet, St.pending)
    | 3 =>
      if !frames then (s, St.mode)
      else if s.role ≠ .lead then (s, St.notPaired)
      else match s.activateRefusal true with
        | some st => (s, st)
        | none =>
          if !s.partnerEligible then (s, St.notEligible)
          else ((s.beginUpdate 3).emit .spliceImage [], St.pending)
    | 4 =>
      let a := s.upd.active
      if (s.bank a).st ≠ BankSt.tried then (s, St.notReady) else (s.bankGood a, St.done)
    | _ =>
      if s.upd.kind ≠ 0 then (s, St.updateActive)
      else
        -- a verification in progress ends with the image it judges
        let s := ((s.modUpd fun u => { u with imgBy := .quiet }).finish s.upd.imgBy St.aborted [])
        ((s.setBank s.inactiveBank { gen := (s.bank s.inactiveBank).gen }).updState UpdSt.idle St.done, St.done)

/-- A write of UPD_CMD: the status register follows. -/
def State.updCommand (s : State) (code confirm : Nat) : State × Nat :=
  let (s, st) := s.updCmd code confirm
  (s.cmdStat F.UPD_CMD_STAT_CODE F.UPD_CMD_STAT_STATUS code st, st)

def execActivateHitless (who : Requester) (confirm : Nat) (s : State) : Res :=
  s.act fun s => s.gate who 1 fun s => let (s, st) := s.updCommand 1 confirm; s.reply who st
def execActivateRestart (who : Requester) (confirm : Nat) (s : State) : Res :=
  s.act fun s => s.gate who 1 fun s => let (s, st) := s.updCommand 2 confirm; s.reply who st
def execPairUpdate (who : Requester) (confirm : Nat) (s : State) : Res :=
  s.act fun s => s.gate who 1 fun s => let (s, st) := s.updCommand 3 confirm; s.reply who st
def execUpdCommit (who : Requester) (confirm : Nat) (s : State) : Res :=
  s.act fun s => s.gate who 1 fun s => let (s, st) := s.updCommand 4 confirm; s.reply who st
def execUpdErase (who : Requester) (confirm : Nat) (s : State) : Res :=
  s.act fun s => s.gate who 1 fun s => let (s, st) := s.updCommand 5 confirm; s.reply who st

/-! ### The in-place update (Table 13.6) -/

/-- C1 leaves its reset and contends again. -/
def State.c1Runs (s : State) : State := (s.unmask 1).modFrame fun f => { f with c1 := { f.c1 with running := true, ready := true } }

/-- Steps 1 and 2 begin at the first frame boundary after the command (DESIGN CHOICE, log entry 122): C0 takes every Curator duty, and
C1 restarts into the new bank. -/
def State.updStep2 (s : State) : State :=
  if s.upd.kind = 1 && s.upd.stage = 1 then
    ((s.sideband 1).modFrame fun f => { f with c1 := { f.c1 with running := false, ready := false, faultAt := s.mono } }).modUpd fun u =>
      { u with stage := 2 }
  else s

/-- UPDATE_SWITCH_BOUNDARY: at B_u C1 takes every duty and the engines run their standby code; C0 restarts, abandoning its
semaphores. The switch boundary is a frame boundary: the command comes at the start of the frame. -/
def State.updSwitch (s : State) : State :=
  if s.upd.kind ≠ 1 || s.upd.stage ≠ 4 || s.frame.off ≠ 0 then s
  else
    let b := s.inactiveBank
    let g := s.highGen + 1
    let s := s.setBank b { s.bank b with st := BankSt.tried, gen := g }
    let o := s.upd.by_
    let s := s.modUpd fun u => { u with active := b, stage := 5, by_ := .quiet, since := some s.mono }
    let s := (s.sideband 0).modFrame fun f => { f with c0 := { f.c0 with running := false, ready := false, faultAt := s.mono } }
    (s.put F.UPD_STAT_STATUS St.done).finish o St.done []

def execUpdateSwitchBoundary (s : State) : Res := s.act State.updSwitch

/-- Step 5 ends when C0 takes its share again. -/
def State.updStep5 (s : State) : State :=
  if s.upd.kind = 1 && s.upd.stage = 5 && s.frame.c0.running then
    (s.put F.UPD_STAT_STATE UpdSt.idle).modUpd fun u => { u with kind := 0, stage := 0 }
  else s

/-- The frame boundary moves the in-place update on. -/
def State.updFrame (s : State) : State := s.updStep5.updStep2

/-- A Curator fault or an escalation starts the CONFIRM time anew (R572). -/
def State.trialRestart (s : State) : State := s.modUpd fun u => { u with since := some s.mono }

/-- BANK_CONFIRM_TIMEOUT (R572). -/
def State.bankConfirm (s : State) : State :=
  let a := s.upd.active
  let frames := s.mode = .stop || s.mode = .run || s.mode = .hold || s.mode = .shadow
  match s.upd.since with
  | some t =>
    if (s.bank a).st = BankSt.tried && s.live && frames && s.past (t + s.get F.UPD_CFG_CONFIRM * 1000000000) then s.bankGood a else s
  | none => s

def execBankConfirmTimeout (s : State) : Res := s.act State.bankConfirm

/-- An aborted pair update restarts the Follower into its previous bank; its new bank becomes REJECTED at that start (R565, R571). -/
def State.pairUpdateOff (s : State) : State := (s.modSpl fun x => { x with swapAt := none }).emit .spliceImage [0]

/-- End an activation without its commit: the new bank holds no packages, and C1 runs the old bank again (R570). -/
def State.updEnd (s : State) (st bankSt : Nat) : State :=
  let o := s.upd.by_
  let b := s.inactiveBank
  let s := if s.upd.kind = 1 && (s.upd.stage = 2 || s.upd.stage = 4) then (s.sideband 1).c1Runs else s
  let s := s.setBank b { s.bank b with st := bankSt, pkgs := [none, none], newest := 0 }
  let s := (s.updState (if bankSt = BankSt.written then UpdSt.ready else UpdSt.idle) st).modUpd fun u => { u with
    kind := 0, stage := 0, by_ := .quiet, c1Ready := false }
  s.finish o st []

/-- UPDATE_C1_READY: steps 1 to 3 are done; C1 runs the new firmware and waits for the switch boundary. A comparison or a
verification that failed (`ok` false) ends the activation (R570). -/
def State.c1Ready (s : State) (ok : Bool) : State :=
  if s.upd.kind ≠ 1 || s.upd.stage ≠ 2 then s
  else if !ok then s.updEnd St.imageInvalid BankSt.rejected
  else (s.c1Runs.copyPackages s.inactiveBank).modUpd fun u => { u with stage := 4, c1Ready := true }

def execUpdateC1Ready (s : State) (ok : Bool := true) : Res := s.act fun s => s.c1Ready ok

/-- An abort of a verification or of an activation before its commit point (R570, R571). -/
def State.abortUpdate (s : State) (o : Origin) : Option (State × Nat) :=
  if o = .quiet then none
  else if s.upd.imgBy = o then
    let b := s.inactiveBank
    let s := (s.setBank b { gen := (s.bank b).gen }).updState UpdSt.idle St.aborted
    some ((s.modUpd fun u => { u with imgBy := .quiet }).finish o St.aborted [], St.aborted)
  else if s.upd.by_ = o && s.upd.kind ≠ 0 then
    if s.upd.kind = 2 && !(s.frame.modeReqs.any (fun r => r.ev = .shutdown false)) then some (s, St.abortLate)
    else
      let s := s.modFrame fun f => { f with modeReqs :=
        if s.upd.kind = 2 then f.modeReqs.filter (fun r => !(r.ev = .shutdown false && r.by_ = .quiet)) else f.modeReqs }
      let s := if s.upd.kind = 3 then s.pairUpdateOff else s
      some (s.updEnd St.aborted BankSt.written, St.aborted)
  else none

/-! ### Recovery (R573, R574) -/

/-- The bank that the Recovery ROM writes: the one with the lower GEN, or A. -/
def State.recoveryBank (s : State) : Nat := if (s.bank 1).gen < (s.bank 0).gen then 1 else 0

/-- An IMAGE part in Recovery: written, or verified at its end. -/
def State.recoveryImage (s : State) (off : Nat) (data : List Nat) (blocksOk sigOk : Bool) : State × Nat :=
  let b := s.recoveryBank
  if s.mode ≠ .recovery || !s.live || s.upd.resetDue || (s.keys.killed && decide (s.keys.life ≠ .returned)) then (s, St.mode)
  else if 1024 < data.length then (s, St.badArg)
  else if off = 0 && data ≠ [] then
    ((s.setBank b (Bank.write { gen := (s.bank b).gen } data)).modUpd fun u => { u with next := data.length }, St.done)
  else if off ≠ s.upd.next || s.upd.next = 0 then (s, St.badArg)
  else if data ≠ [] then
    ((s.setBank b ((s.bank b).write data)).modUpd fun u => { u with next := off + data.length }, St.done)
  else
    let x := s.bank b
    let v := s.imageVerdict x blocksOk sigOk
    let s := s.modUpd fun u => { u with next := 0 }
    if v ≠ 0 then (s.setBank b { gen := x.gen }, v)
    else ((s.setBank b { x with st := BankSt.trial, gen := s.highGen + 1, pkgs := [none, none], newest := 0 }).modUpd
      fun u => { u with resetDue := true }, St.done)

def execRecoveryImagePart (off : Nat) (data : List Nat) (blocksOk sigOk : Bool) (s : State) : Res :=
  s.act fun s => let (s, st) := s.recoveryImage off data blocksOk sigOk; s.emit .value [st]

end Sys2Proof.Machine
end

