-- ==== Sys2Proof/Machine/Faults.lean ====
section
/-!
DEFINITION. Deadline faults and Curator faults (R79 to R86).
-/
namespace Sys2Proof.Machine

/-- A class that several engines or items share has faulted in a period already: the period counts once (R81). `period` numbers the slot
or tick within the frame; SOLVE has one period in a superframe. -/
def State.faultedAlready (s : State) (c period : Nat) : Bool :=
  if c = 5 then s.pos.solveLate = some (s.num / 10) else (c = 4 || c = 6 || c = 7) && s.frame.periods.contains (c, period)

/-- The counts of a fault (R80, R81). -/
def State.countFault (s : State) (c engine period : Nat) : State :=
  let s := (if s.faultedAlready c period then s else s.inc (F.FRM_DCLS_CONSEC_CONSEC.at c)).inc (F.FRM_DCLS_TOTAL_TOTAL.at c)
  let s := ((s.put F.FRM_DLAST_CLASS c).put F.FRM_DLAST_ENGINE engine).put F.FRM_DLAST_FRAME (s.num % 65536)
  s.modFrame fun f => { f with late := insertN f.late c, periods := f.periods ++ [(c, period)] }

/-- The first fault of a run writes a Warning record (R85). The length of the run counts its faulted periods, as CONSEC does (DEDUCED from
R81, log entry 97). -/
def State.runFault (s : State) (c : Nat) : State :=
  let n := SMap.getD s.frame.runLen c 0
  let s := if n = 0 then s.log Sev.warning 0 (F.FRM_DCLS_CONSEC_CONSEC.at c) [] else s
  s.modFrame fun f => { f with runLen := SMap.insert f.runLen c (n + 1) }

/-- What the late work of a tick or slot leaves undone (Table 02.2): the missed tick, the slot that passes unused, the epoch. -/
def State.missWork (s : State) (c engine : Nat) : State :=
  if c = 4 then s.modFrame fun f => { f with missed := insertN f.missed (radioLate (engine - 6)) }
  else if c = 5 then s.modPos fun p => { p with solveLate := some (s.num / 10) }
  else if c = 6 || c = 7 then s.modFrame fun f => { f with missed := insertN f.missed (tickLate c engine) }
  else s

/-- Escalation to Basic (R83), once. -/
def State.escalate (s : State) (c : Nat) : State :=
  let lim := s.get (F.FRM_DCLS_LIMIT_LIMIT.at c)
  if c = 0 || c = 9 || lim = 0 || s.get (F.FRM_DCLS_CONSEC_CONSEC.at c) ≤ lim || s.mode = .basic
      || s.frame.modeReqs.any (fun r => r.ev = .escalation c) then s
  else ((s.log Sev.error 2 (F.FRM_DCLS_CONSEC_CONSEC.at c) []).modeReq (.escalation c) .quiet).trialRestart

/-! ### Curator faults (R84) -/

def State.core (s : State) (k : Nat) : CoreSt := if k = 0 then s.frame.c0 else s.frame.c1
def State.setCore (s : State) (k : Nat) (x : CoreSt) : State :=
  s.modFrame fun f => if k = 0 then { f with c0 := x } else { f with c1 := x }

/-- A Curator fault: the core is held in reset and restarted by the other; Basic follows at the next frame boundary. -/
def State.curatorFault (s : State) (k : Nat) : State :=
  if 2 ≤ k || s.phase = .dead || s.phase = .halted || s.mode = .recovery || !(s.core k).running then s
  else
    let s := s.setCore k { running := false, ready := false, faultAt := s.mono }
    let s := (s.sideband k).log Sev.critical 0 (F.FRM_DCLS_TOTAL_TOTAL.at 9) []
    let s := s.trialRestart
    if s.mode = .basic then s else s.modeReq .curatorFault .quiet

def execCuratorFault (core : Nat) (s : State) : Res := s.act fun s => s.curatorFault core

/-- CURATOR_READY: the core runs again (C1 in an in-place update reports by UPDATE_C1_READY); it contends again, and takes its share at the next frame boundary. -/
def State.curatorReady (s : State) (k : Nat) : State :=
  if 2 ≤ k || (s.core k).running || (k = 1 && s.upd.kind = 1 && s.upd.stage = 2) then s
  else (s.setCore k { s.core k with running := true, ready := true }).unmask k

def execCuratorReady (core : Nat) (s : State) : Res := s.act fun s => s.curatorReady core

/-- CURATOR_RESTART_TIMEOUT: a core that has not reported ready within 1,500 ms is held in reset and restarted again. -/
def State.curatorTimeout (s : State) (k : Nat) : State :=
  if 2 ≤ k || (s.core k).running || (k = 1 && s.upd.kind = 1 && s.upd.stage = 2) || !s.past ((s.core k).faultAt + 1500000000) then s
  else (s.setCore k { s.core k with faultAt := s.mono }).sideband k

def execCuratorRestartTimeout (core : Nat) (s : State) : Res := s.act fun s => s.curatorTimeout core

/-! ### Deadline faults (R80 to R86) -/

/-- A deadline fault of a class by an engine: it is counted, logged and escalates; none is raised in a transitional frame (R76).
The late work itself has its outcome where that work is done (Table 02.2). -/
def State.deadlineFault (s : State) (c engine period : Nat) : State :=
  if !(s.live || s.phase = .shutdown) || s.frame.transitional || 10 ≤ c || !s.classFaults c then s
  else
    let again := s.faultedAlready c period
    let s := s.countFault c engine period
    if c = 9 then s.curatorFault engine
    else
      let s := s.missWork c engine
      (if again then s else s.runFault c).escalate c

def execDeadlineFault (cls engine : Nat) (s : State) (period : Nat := 0) : Res := s.act fun s => s.deadlineFault cls engine period

/-- The end of frame n: every class that runs in the mode and has not faulted has completed on time. SOLVE has its deadline at the
fix boundary; CYCLE at its commit deadlines. -/
def State.classesOnTime (s : State) : State :=
  if !s.live || s.frame.transitional then s
  else ([1, 2, 3, 4, 6, 7, 8, 9].filter fun c => s.classFaults c && !s.frame.late.contains c).foldl State.classOnTime s

/-- The SOLVE deadline, at a fix boundary (R80, R81, R370): a rover epoch not solved by then raises the fault of the superframe, by the
Surveyor engine of the rover; a superframe without one is on time. -/
def State.solveDeadline (s : State) : State :=
  if s.num % 10 ≠ 8 then s
  else match s.pos.unsolved with
    | r :: _ => if s.faultedAlready 5 0 then s else s.deadlineFault 5 (12 + r % 4) 0
    | [] => if s.faultedAlready 5 0 then s else s.onTime 5

end Sys2Proof.Machine
end

