-- ==== Sys2Proof/Machine/Lamp.lean ====
section
/-!
DEFINITION. Calibration records, temperature compensation, recipes in time, and the node image record (chapter 05, R210 to
R225, Tables 05.1, 05.2, 05.9 and 05.13).
-/
namespace Sys2Proof.Machine

/-! ### Calibration records (R213, R214) -/

/-- A calibration record as 32 words passes its CRC. -/
def calCrcOk (w : List Nat) : Bool :=
  decide (w.length = 32) && decide (crc32c ((w.take 31).flatMap (leBytes 4)) = w.getD 31 0)

def calFitted (w : List Nat) : Nat := bits (w.getD 2 0) 23 16
def calTRef (w : List Nat) : Int := toInt 16 (bits (w.getD 2 0) 15 0)
def calLmax (w : List Nat) (k : Nat) : Nat := bits (w.getD (7 + 2 * k) 0) 31 16
def calFlux (w : List Nat) (k : Nat) : Nat := bits (w.getD (7 + 2 * k) 0) 15 0
def calA2 (w : List Nat) (k : Nat) : Int := toInt 16 (bits (w.getD (8 + 2 * k) 0) 31 16)
def calA1 (w : List Nat) (k : Nat) : Int := toInt 16 (bits (w.getD (8 + 2 * k) 0) 15 0)

/-- A record that the module can use: CRC good, and no fitted channel with LMAX 0 (R214). -/
def calOk (w : List Nat) : Bool :=
  calCrcOk w && (List.range 8).all (fun k => !bit (calFitted w) k || decide (calLmax w k ≠ 0))

def Node.fitted (x : Node) : Nat := if x.nocal then 0xFF else calFitted x.cal
def Node.fit (x : Node) (k : Nat) : Bool := bit x.fitted k
def Node.lmax (x : Node) (k : Nat) : Nat := if x.nocal then 65535 else calLmax x.cal k

/-- The gain of channel k at a temperature difference, and whether it was limited (R215). -/
def gainOf (a1 a2 dt : Int) : Nat × Bool :=
  let f := 2 ^ 30 + a1 * dt * 64 + fdiv (a2 * dt * dt) 64
  let c := clampI (2 ^ 28) (2 ^ 32 - 1) f
  ((2 ^ 46 / c).toNat, decide (c ≠ f))

/-- The difference of the last valid temperature report from T_REF; 0 where there is none. -/
def Node.dTlast (x : Node) : Int := if x.tempEver then toInt 16 x.tboard - calTRef x.cal else 0

/-- dT of a node: 0 while its temperature is stale (R217). DESIGN CHOICE (log entry 106): before the first valid report there is no
T_board, dT is 0, and TEMP_STALE is set once TEMP_AGE has passed. -/
def Node.dT (x : Node) : Int := if x.tempStale then 0 else x.dTlast

def Node.gainAt (x : Node) (dt : Int) (k : Nat) : Nat × Bool :=
  if x.nocal then (65536, false) else gainOf (calA1 x.cal k) (calA2 x.cal k) dt

/-- Drive and saturation of a target (R216). -/
def driveOf (target g lmax : Nat) : Nat × Bool :=
  let raw := target * g / 65536
  (min raw lmax, decide (lmax < raw))

/-- The gains the module would order now, of all eight channels. -/
def Node.gains (x : Node) : List Nat := (List.range 8).map (fun k => (x.gainAt x.dT k).1)
def Node.lmaxs (x : Node) : List Nat := (List.range 8).map x.lmax

/-- The least target whose drive reaches `fd` (R639), found by bisection. -/
def leastTarget (g lmax fd : Nat) : Nat → Nat → Nat → Nat
  | 0, lo, _ => lo
  | n + 1, lo, hi =>
    let mid := (lo + hi) / 2
    if lo = hi then lo
    else if fd ≤ (driveOf mid g lmax).1 then leastTarget g lmax fd n lo mid else leastTarget g lmax fd n (mid + 1) hi
def targetFor (g lmax fd : Nat) : Nat := leastTarget g lmax fd 17 0 65535

/-! ### Recipes (R220 to R223) -/

/-- A recipe that R221 accepts. -/
def recipeOk (l : List Break) : Bool :=
  let times := l.map Break.time
  let nexts := times.drop 1 ++ [times.headD 0 + 86400]
  decide (1 ≤ l.length) && decide (l.length ≤ 96)
    && l.all (fun b => decide (b.time ≤ 86399) && decide (b.shape ≤ 2) && (decide (b.shape ≠ 0) || decide (b.ramp = 0))
        && b.v.all (fun x => decide (x < 65536)) && decide (b.v.length = 8))
    && (times.zip (times.drop 1)).all (fun p => decide (p.1 < p.2))
    && (l.zip nexts).all (fun p => decide (p.1.time + p.1.ramp ≤ p.2))

/-- A recipe that may serve as a fallback schedule (R260). -/
def fallbackOk (l : List Break) : Bool := decide (l.length ≤ 16) && l.all (fun b => decide (b.shape ≠ 2))

/-- A day in ms. -/
def dayMs : Nat := 86400000

/-- The recipe instant of frame t, in ms, where n is the frame in progress; recipe time is this modulo a day (R220). -/
def State.recipeInstant (s : State) (t : Nat) : Int :=
  let ms : Int := (s.frame.start / 1000000 : Nat) + 10 * ((t : Int) - s.num)
  s.utcMs ms + 60000 * s.getI F.LGT_TZ_OFFSET

/-- Recipe time in ms of frame t (R220). -/
def State.recipeTime (s : State) (t : Nat) : Nat := (s.recipeInstant t % (dayMs : Int)).toNat

/-- The breakpoint in force at recipe time τ: its position and the ms since it. -/
def breakAt (l : List Break) (tau : Nat) : Nat × Nat :=
  let i := match (l.map Break.time).reverse.findIdx? (fun x => decide (1000 * x ≤ tau)) with
    | some j => l.length - 1 - j
    | none => l.length - 1
  (i, (tau + dayMs - 1000 * ((l.map Break.time).getD i 0)) % dayMs)

/-! ### Double precision (R222): a value is a multiple of 2⁻¹²⁰, rounded to 53 significant bits, halves to even -/

/-- p ÷ q rounded to nearest, halves to even. -/
def halfEven (p q : Nat) : Nat :=
  let a := p / q
  let r := p % q
  if q < 2 * r || (2 * r = q && a % 2 = 1) then a + 1 else a

/-- p ÷ q, in units of 2⁻¹²⁰, as the nearest double. -/
def dbl (p q : Nat) : Nat :=
  let d := Nat.log2 (p / q) - 52
  halfEven p (q * 2 ^ d) * 2 ^ d

def dblOne : Nat := 2 ^ 120
def dblMul (a b : Nat) : Nat := dbl (a * b) dblOne

/-- π as a double. -/
def dblPi : Nat := 884279719003555 * 2 ^ 72

/-- cos θ by its series, everything in units of 2⁻¹²⁰: `th2` is θ². -/
def cosSeries (th2 : Int) : Nat → Nat → Int → Int → Int
  | 0, _, _, acc => acc
  | n + 1, m, term, acc =>
    let term' := -(rdiv (rdiv (term * th2) dblOne) (((2 * m + 1) * (2 * m + 2) : Nat) : Int))
    cosSeries th2 n (m + 1) term' (acc + term')

/-- cos θ as the nearest double (DEDUCED, log entry 113). -/
def dblCos (th : Nat) : Int :=
  let c := cosSeries (rdiv ((th : Int) * th) dblOne) 28 0 dblOne dblOne
  if c < 0 then -(dbl c.natAbs 1 : Int) else dbl c.natAbs 1

/-- The weight w of a ramp after `e` of `d` ms (R222). -/
def rampWeight (shape e d : Nat) : Nat :=
  if shape = 1 then dbl (e * dblOne) d
  else dbl (((dblOne : Int) - dblCos (dbl (dbl (dblPi * e) 1) d)).toNat) 2

/-- The target of channel k at recipe time τ (R222). -/
def recipeTarget (l : List Break) (tau k : Nat) : Nat :=
  let (i, e) := breakAt l tau
  match l[i]? with
  | none => 0
  | some b =>
    let from_ := ((l[(i + l.length - 1) % l.length]?).map (fun p => p.v.getD k 0)).getD 0
    let v := b.v.getD k 0
    let d := 1000 * b.ramp
    if b.shape = 0 || decide (d ≤ e) then v
    else
      let w := rampWeight b.shape e d
      let z := if from_ ≤ v then dbl (from_ * dblOne + dblMul ((v - from_) * dblOne) w) 1
        else dbl (from_ * dblOne - dblMul ((from_ - v) * dblOne) w) 1
      min 65535 ((2 * z + dblOne) / (2 * dblOne))

/-- The instant `x` ms after recipe midnight of some day lies after recipe instant `last` and at or before `now`. -/
def passes (last now : Int) (x : Nat) : Bool := decide (fdiv (last - x) dayMs < fdiv (now - x) dayMs)

/-- Frame t, at recipe instant `now`, is a recipe tag of the recipe (R223): a breakpoint or the end of a ramp lies after the instant
evaluated before it, or a ramp runs and t is a multiple of STEP. Where nothing was evaluated before, or the time did not advance, the
position is evaluated anew. -/
def isRecipeTag (l : List Break) (step : Nat) (last : Option Int) (now : Int) (t : Nat) : Bool :=
  match last with
  | none => true
  | some q =>
    let (i, e) := breakAt l (now % (dayMs : Int)).toNat
    decide (now ≤ q) || l.any (fun b => passes q now (1000 * b.time) || (decide (0 < b.ramp) && passes q now (1000 * (b.time + b.ramp))))
      || (match l[i]? with
        | some b => decide (e < 1000 * b.ramp) && t % step = 0
        | none => false)

/-- FADE of an entry at a recipe tag: the frames to the next recipe tag while a ramp runs (R223). -/
def recipeFade (l : List Break) (step tau t : Nat) : Nat :=
  let (i, e) := breakAt l tau
  match l[i]? with
  | none => 0
  | some b =>
    let d := 1000 * b.ramp
    if e < d then min 4095 (min (step - t % step) ((d - e + 9) / 10)) else 0

def State.recipe (s : State) (r : Nat) : List Break := SMap.getD s.light.recipes r []

/-- The recipe layer's targets of recipe r in frame t. -/
def State.recipeVec (s : State) (r t : Nat) : List Nat :=
  (List.range 8).map (recipeTarget (s.recipe r) (s.recipeTime t))
def State.recipeFadeAt (s : State) (r t : Nat) : Nat :=
  recipeFade (s.recipe r) (s.get F.LGT_RAMP_STEP) (s.recipeTime t) t
def State.recipeTagAt (s : State) (r t : Nat) : Bool :=
  isRecipeTag (s.recipe r) (s.get F.LGT_RAMP_STEP) s.light.lastTau (s.recipeInstant t) t

/-! ### Nodes -/

def State.node (s : State) (i : Nat) : Option Node := SMap.get? s.light.nodes i
def State.setNode (s : State) (i : Nat) (x : Node) : State :=
  s.modLight fun l => { l with nodes := SMap.insert l.nodes i x }
def State.modNode (s : State) (i : Nat) (f : Node → Node) : State :=
  s.modLight fun l => { l with nodes := SMap.modify l.nodes i f }

/-- The local luminaire that a slot is bound to (R311). -/
def State.localOf (s : State) (i : Nat) : Option Nat :=
  (List.range 8).find? (fun l => s.flag (F.DRV_LUM_CFG_EN.at l) && decide (s.get (F.DRV_LUM_CFG_SLOT.at l) = i))

/-- Two 16-bit values in a word, the higher channel first. -/
def pack16 (l : List Nat) (w : Nat) : Nat := l.getD (2 * w + 1) 0 * 65536 + l.getD (2 * w) 0

/-- PFLUX (Table 05.9). -/
def Node.pflux (x : Node) : Nat :=
  sumN ((List.range 8).map (fun k => if x.fit k then x.ct.getD k 0 * calFlux x.cal k else 0)) / 65535

/-- Entries the node may hold: sent or held. -/
def Entry.live (e : Entry) : Bool := e.st = 1 || e.st = 2

/-- The node image record of slot i as it stood at the last frame boundary (Table 05.9, R254). -/
def nodeImage (s : State) (x : Node) : List Nat :=
  let g := x.group
  let age := if x.reported then min 65535 ((s.light.imageAt - x.repAt) / 1000000000) else 65535
  let dage := if x.disc then min 65535 ((s.light.imageAt - x.discAt) / superNs) else 0
  let w16 := 2 ^ 31 * b2n x.disc + 2 ^ 30 * b2n x.online + 2 ^ 29 * b2n x.fallback + 2 ^ 28 * b2n x.inherited
    + 2 ^ 27 * b2n x.stuck + 2 ^ 26 * b2n x.catchAt.isSome + 2 ^ 25 * b2n x.nocal + 2 ^ 24 * b2n x.tempStale
    + 2 ^ 16 * x.sat + 2 ^ 8 * x.excl + b2n x.compLimit
  let w17 := sumN ((List.range 8).map (fun k => x.src.getD k 0 * 2 ^ (3 * k)))
  let held := countP Entry.live x.entries
  [pack16 x.ct 0, pack16 x.ct 1, pack16 x.ct 2, pack16 x.ct 3, pack16 x.cd 0, pack16 x.cd 1, pack16 x.cd 2, pack16 x.cd 3,
   pack16 x.fd 0, pack16 x.fd 1, pack16 x.fd 2, pack16 x.fd 3, x.ctag % 2 ^ 32, x.ctag / 2 ^ 32 % 65536,
   x.ftag % 2 ^ 32, x.ftag / 2 ^ 32 % 65536, w16, w17, age * 65536 + x.tboard % 65536,
   ofLe ((x.vstr.take 4)), ofLe ((x.vstr.drop 4).take 4),
   x.nfault % 64 * 2 ^ 23 + x.nshort * 65536 + x.sstate,
   2 ^ 24 * b2n (SMap.get? s.light.recipeOn g).isSome + 65536 * SMap.getD s.light.inForce g 0 + g,
   2 ^ 24 * held + 65536 * x.tries + dage, x.pflux, x.radio * 65536 + x.assoc, 0, 0, 0, 0, 0, 0]

/-- The ten words of an entry in the staging view (Table 05.13). -/
def entryWords (e : Entry) : List Nat :=
  let v := fun k => if bit e.mask k then e.vals.getD k 0 else 0
  let body := if e.kind = 1
    then [v 1 * 65536 + v 0, v 3 * 65536 + v 2, v 5 * 65536 + v 4, v 7 * 65536 + v 6, e.fade, 0, 0, 0]
    else [v 0, v 1, v 2, v 3, v 4, v 5, v 6, v 7]
  [e.tag % 2 ^ 32, e.st * 2 ^ 24 + e.kind * 2 ^ 20 + e.ver * 65536 + e.tag / 2 ^ 32 % 65536] ++ body

def insertByTag (e : Entry) : List Entry → List Entry
  | [] => [e]
  | x :: l => if e.tag < x.tag then e :: x :: l else x :: insertByTag e l
def sortByTag (l : List Entry) : List Entry := l.foldl (fun acc e => insertByTag e acc) []

/-- The staging view of a node: forty words (Table 05.13). The entries it holds come first where more than four are known. -/
def stagingView (x : Node) : List Nat :=
  let l := sortByTag ((x.entries.filter Entry.live ++ x.entries.filter fun e => e.st = 3 || e.st = 4).take 4)
  (l.flatMap entryWords ++ List.replicate 40 0).take 40

end Sys2Proof.Machine
end

