-- ==== Sys2Proof/Machine/Staging.lean ====
section
/-!
DEFINITION. The layers of the lighting plane and their changes, and staging (chapter 05, R226 to R241): what each node may hold for
the tags to come.
-/
namespace Sys2Proof.Machine

/-! ### Layers (R226 to R232) -/

/-- The five layers as they stand for one node. -/
structure NodeLayers where
  rcp : Option (List Nat) := none
  ovl : Option (List Nat) := none
  grp : List (Option Nat) := []
  nod : List (Option Nat) := []
  emg : Option (List Nat) := none
  lan : Option (Option (List Nat)) := none
  deriving DecidableEq, Repr

/-- The committed layers of node i of group g. -/
def State.layersOf (s : State) (g i : Nat) : NodeLayers :=
  { rcp := SMap.get? s.light.recipeTgt g, ovl := SMap.get? s.light.overlay g,
    grp := SMap.getD s.light.groupOv g [], nod := SMap.getD s.light.nodeOv i [],
    emg := SMap.get? s.light.emerg g, lan := SMap.get? s.light.lanyard g }

/-- Set, or release, the channels of a mask in an override. -/
def orderMask (mask : Nat) (v : List Nat) (l : List (Option Nat)) : List (Option Nat) :=
  (List.range 8).map (fun k => if bit mask k then some (v.getD k 0) else l.getD k none)
def releaseMask (mask : Nat) (l : List (Option Nat)) : List (Option Nat) :=
  let r := (List.range 8).map (fun k => if bit mask k then none else l.getD k none)
  if r.all Option.isNone then [] else r

/-- A layer change as node i of group g sees it. -/
def NodeLayers.apply (g i : Nat) (y : NodeLayers) : LayerKind → NodeLayers
  | .groupOrder h m v => if h = g then { y with grp := orderMask m v y.grp } else y
  | .groupRelease h m => if h = g then { y with grp := releaseMask m y.grp } else y
  | .nodeOrder n m v => if n = i then { y with nod := orderMask m v y.nod } else y
  | .nodeRelease n m => if n = i then { y with nod := releaseMask m y.nod } else y
  | .recipeSelect _ _ => y
  | .recipeTarget h v => if h = g then { y with rcp := some v } else y
  | .recipeOff h => if h = g then { y with rcp := none } else y
  | .emergency v (some h) => if h = g then { y with emg := v } else y
  | .emergency v none => { y with emg := v }
  | .overlayOn h v => if h = g then { y with ovl := some v } else y
  | .overlayOff h => if h = g then { y with ovl := none } else y
  | .lanyardOn h v => if h = g then { y with lan := some v } else y
  | .lanyardOff h => if h = g then { y with lan := none } else y
  | .clearProgram => { y with grp := [], nod := [], emg := none }
  | .resync => y

/-- Whether a change concerns node i of group g. -/
def LayerKind.touches (g i : Nat) : LayerKind → Bool
  | .groupOrder h _ _ | .groupRelease h _ | .recipeSelect h _ | .recipeTarget h _ | .recipeOff h
  | .overlayOn h _ | .overlayOff h | .lanyardOn h _ | .lanyardOff h => decide (h = g)
  | .nodeOrder n _ _ | .nodeRelease n _ => decide (n = i)
  | .emergency _ (some h) => decide (h = g)
  | .emergency _ none | .clearProgram | .resync => true

/-- The target of channel k of a node and the level that sets it: the highest active layer (R226, R227). The recipe layer covers
the fitted channels only. -/
def NodeLayers.target (y : NodeLayers) (x : Node) (k : Nat) : Option (Nat × Nat) :=
  match y.lan with
  | some (some v) => some (v.getD k 0, 5)
  | some none => some (x.heldCt.getD k 0, 5)
  | none => match y.emg with
    | some v => some (v.getD k 0, 4)
    | none => match y.nod.getD k none with
      | some v => some (v, 3)
      | none => match y.grp.getD k none with
        | some v => some (v, 3)
        | none => match y.ovl with
          | some v => some (v.getD k 0, 2)
          | none => if x.fit k then y.rcp.map (fun v => (v.getD k 0, 1)) else none

/-- The layers of a node with every change up to tag t. -/
def State.layersAt (s : State) (g i t : Nat) : NodeLayers :=
  (s.light.changes.filter (fun c => decide (c.tag ≤ t))).foldl (fun y c => y.apply g i c.kind) (s.layersOf g i)

/-! ### Changes and tags (R229, R243) -/

def State.leadOf (s : State) (lead : Bool) : Nat := if lead then s.get F.LGT_LEAD_FRAMES else s.get F.LGT_LEAD_FAST

def insertChange (c : LayerChange) : List LayerChange → List LayerChange
  | [] => [c]
  | x :: l => if c.tag < x.tag then c :: x :: l else x :: insertChange c l

def insertTag (t : TagSt) : List TagSt → List TagSt
  | [] => [t]
  | x :: l => if t.tag = x.tag then x :: l else if t.tag < x.tag then t :: x :: l else x :: insertTag t l

/-- A tag that has entries or changes is a commit frame (R242). -/
def State.ensureTag (s : State) (t : Nat) : State :=
  s.modLight fun l => { l with tags := insertTag { tag := t } l.tags }

/-- A layer change decided in frame n takes the tag n + lead (R229). -/
def State.changeAt (s : State) (n : Nat) (lead : Bool) (kind : LayerKind) (fade : Nat) (by_ : Origin)
    (old : Option (Nat × Nat) := none) : State :=
  let t := n + s.leadOf lead
  (s.modLight fun l => { l with changes := insertChange ⟨t, n, lead, kind, fade, by_, old⟩ l.changes }).ensureTag t

/-- The frame in which a request that arrives now is decided: program calls in the frame their commit opens, host requests in
the next frame (R229, R230). -/
def State.decideFrame (s : State) (o : Origin) : Nat :=
  match o with
  | .host _ _ => s.num + 1
  | _ => s.num

/-- LIGHT work of the frame in progress has met its deadline so far (R82). -/
def State.lightLate (s : State) : Bool := s.frame.late.contains 1

/-- The tags that the commit records of the frame in progress name, ascending (R242). -/
def State.namedTags (s : State) : List Nat :=
  let n := s.num
  let g := s.get F.LGT_GRACE_GRACE
  (s.light.tags.filter (fun t => decide (t.tag ≤ n + 1) && decide (n + 1 - t.tag ≤ g)
    && (decide (t.st = .effective) || (!s.lightLate && !s.frame.transitional)))).map TagSt.tag

/-- The abort cut-off of a tag has passed (R229). -/
def State.tagCut (s : State) (t : Nat) : Bool :=
  s.namedTags.contains t || s.light.tags.any (fun x => x.tag = t && decide (x.st = .effective))

/-- The decided recipe of a group: what its layer 1 shows once every pending change has acted. -/
def State.decidedRecipe (s : State) (g : Nat) : Option Nat :=
  s.light.changes.foldl (fun r c => match c.kind with
    | .recipeSelect h v => if h = g then some v else r
    | .recipeOff h => if h = g then none else r
    | _ => r) (SMap.get? s.light.recipeOn g)

/-- The layers of a group once every pending change has acted. -/
def State.decidedLayers (s : State) (g : Nat) : NodeLayers :=
  s.light.changes.foldl (fun y c => y.apply g 4096 c.kind) (s.layersOf g 4096)

/-! ### Entries of a node (R237 to R241) -/

/-- The channels whose value differs. -/
def diffMask (a b : List Nat) : Nat :=
  sumN ((List.range 8).map (fun k => if a.getD k 0 = b.getD k 0 then 0 else 2 ^ k))

def maskVals (mask : Nat) (v : List Nat) : List Nat := (List.range 8).map (fun k => if bit mask k then v.getD k 0 else 0)

/-- Targets with what an entry carries put over them. -/
def Entry.over (e : Entry) (v : List Nat) : List Nat :=
  (List.range 8).map (fun k => if bit e.mask k then e.vals.getD k 0 else v.getD k 0)

/-- Of two entries, the one that acts first: by tag, and of one tag the multicast before the unicast (R240). -/
def Entry.before (a b : Entry) : Bool := decide (a.tag < b.tag) || (a.tag = b.tag && !a.uni && b.uni)
def insertAct (e : Entry) : List Entry → List Entry
  | [] => [e]
  | x :: l => if e.before x then e :: x :: l else x :: insertAct e l

/-- The TARGET entries that a node may hold. -/
def Node.targets (x : Node) : List Entry := x.entries.filter (fun e => e.live && e.kind = 1)
def Node.entryAt (x : Node) (uni : Bool) (t : Nat) : Option Entry := x.targets.find? (fun e => e.uni = uni && e.tag = t)
def Node.liveCount (x : Node) : Nat := countP Entry.live x.entries

/-- The targets of the node's last staged or committed entry below tag t (R237). -/
def Node.baseAt (x : Node) (t : Nat) : List Nat :=
  ((x.targets.filter (fun e => decide (e.tag < t))).foldl (fun l e => insertAct e l) []).foldl (fun v e => e.over v) x.ct

/-- The targets of a node at tag t; a channel without an active layer keeps the target of the last entry (R226). -/
def State.vecAt (s : State) (i : Nat) (x : Node) (t : Nat) : List Nat :=
  let y := s.layersAt x.group i t
  (List.range 8).map (fun k => ((y.target x k).map Prod.fst).getD ((x.baseAt t).getD k 0))

/-- The version of the next entry of an addressee and tag (Table 05.5); entries that are gone keep their versions here. -/
def Node.nextVer (x : Node) (uni : Bool) (t : Nat) : Nat :=
  maxN ((x.entries.filter (fun e => e.uni = uni && e.tag = t)).map (fun e => e.ver + 1)) % 16

/-- Put an entry in the place of another. -/
def Node.swapEntry (x : Node) (e e' : Entry) : Node := { x with entries := x.entries.map (fun z => if z = e then e' else z) }

/-- A node takes a new entry; one that evaluation stages clears STUCK, and TRIES with it (R258). -/
def Node.takeEntry (x : Node) (e : Entry) (eval : Bool) : Node :=
  { x with entries := x.entries ++ [e], stuck := x.stuck && !eval, tries := if x.stuck && eval then 0 else x.tries }

def State.addExcl (s : State) (q : Exclusion) : State :=
  if s.light.excl.contains q then s else s.modLight fun l => { l with excl := l.excl ++ [q] }

/-- A unicast retraction of what one node holds, of a multicast entry too while its other members hold it: it waits for its
acknowledgement (R240). -/
def State.retractUni (s : State) (i : Nat) (e : Entry) : State :=
  s.modNode i fun x => x.swapEntry e { e with uni := true, st := 3 }

/-- A multicast retraction for every member: it is excluded on each radio that serves one of them (R241). -/
def State.retractMulti (s : State) (ms : List Nat) (e : Entry) : State :=
  ms.foldl (fun (s : State) i =>
    match s.node i with
    | none => s
    | some x => (s.setNode i (x.swapEntry e { e with st := 4 })).addExcl ⟨true, x.group, x.radio, e.tag, e.ver⟩) s

/-! ### What is decided anew for a node (R237, R239) -/

/-- The staging work of one node: `c` the least tag decided now, `now` the tags decided now, `tags` those to resolve. -/
structure StagePlan where
  c : Nat
  now : List Nat
  tags : List Nat
  deriving DecidableEq, Repr

/-- The tag orders every fitted channel: a resync (R249) or the node's catch-up (R257). -/
def State.fullTag (s : State) (x : Node) (t : Nat) : Bool := s.light.resyncTag = some t || x.catchAt = some t

/-- The plan of a node in the frame in progress. Changes of this frame and of the one before it are decided now; `from_` names an
earlier tag whose change was removed (R229). None where nothing is decided. -/
def State.stagePlan (s : State) (i : Nat) (x : Node) (from_ : Option Nat) : Option StagePlan :=
  let mine := s.light.changes.filter (fun c => c.kind.touches x.group i)
  let full := (s.light.resyncTag.toList.filter (fun t => !x.targets.any (fun e => e.tag = t)))
    ++ (x.catchAt.toList.filter (fun t => (x.entryAt true t).isNone))
  let now := (((mine.filter (fun c => decide (s.num ≤ c.at_ + 1))).map LayerChange.tag ++ full).filter
    (fun t => decide (s.num < t))).foldl insertN []
  match from_.toList ++ now with
  | [] => none
  | a :: l =>
    let c := l.foldl min a
    let due := mine.map LayerChange.tag ++ now
    let all := (x.targets.map Entry.tag ++ due.filter (fun t => now.contains t || decide (s.num + s.get F.LGT_GRACE_CATCHUP ≤ t))).foldl
      insertN []
    some ⟨c, now, all.filter (fun t => decide (c ≤ t))⟩

/-- FADE of a tag for a node: that of the last change of the tag; 0 at a resync or a catch-up. -/
def State.fadeAt (s : State) (i : Nat) (x : Node) (t : Nat) : Nat :=
  if s.fullTag x t then 0
  else ((s.light.changes.filter (fun c => c.tag = t && c.kind.touches x.group i)).getLast?.map LayerChange.fade).getD 0

/-- The channels that the entry of tag t carries: `keep` of one that stands, every fitted channel of a full tag, and what differs. -/
def State.wantMask (s : State) (i : Nat) (x : Node) (t keep : Nat) : Nat :=
  Nat.lor (Nat.lor keep (if s.fullTag x t then x.fitted else 0)) (diffMask (s.vecAt i x t) (x.baseAt t))

/-- The TARGET entry that a node should hold for tag t. -/
def State.want (s : State) (i : Nat) (x : Node) (t keep : Nat) : Entry :=
  let m := s.wantMask i x t keep
  { tag := t, kind := 1, mask := m, fade := s.fadeAt i x t, vals := maskVals m (s.vecAt i x t) }

/-- Entries of one content. -/
def Entry.same (a b : Entry) : Bool := a.mask = b.mask && a.vals = b.vals && a.fade = b.fade

/-- The entry that the most of a list ask for, the first of those. -/
def commonest (l : List Entry) : Option Entry :=
  let most := maxN (l.map (fun e => countP (fun z => e.same z) l))
  l.find? (fun e => countP (fun z => e.same z) l = most)

/-! ### Staging one tag (R237 to R239) -/

/-- The multicast entry of a tag for a group all of whose radio members `ms` are concerned: what the most of them ask for. A tag at c
stands and is only added to; a later one is retracted and replaced. -/
def State.stageMulti (s : State) (ms : List Nat) (t : Nat) (stands : Bool) : State :=
  let xs := ms.filterMap (fun i => (s.node i).map (fun x => (i, x)))
  match xs with
  | [] => s
  | (_, x0) :: _ =>
    let mc := x0.entryAt false t
    if xs.any (fun p => p.2.entryAt false t ≠ mc) then s
    else
      let keep := if stands then (mc.map Entry.mask).getD 0 else 0
      match commonest (xs.map (fun p => s.want p.1 p.2 t keep)) with
      | none => s
      | some w =>
        let new := { w with ver := maxN (xs.map (fun p => p.2.nextVer false t)) }
        let give := fun (s : State) => (ms.foldl (fun (s : State) i => s.modNode i fun x => x.takeEntry new (!s.fullTag x t)) s).ensureTag t
        match mc with
        | none => if w.mask = 0 || xs.any (fun p => decide (4 ≤ p.2.liveCount)) then s else give s
        | some e =>
          if stands then
            if e.mask = w.mask && e.vals = w.vals then s
            else give (ms.foldl (fun (s : State) i => s.modNode i fun x => x.swapEntry e { e with st := 0 }) s)
          else if e.same w then s
          else
            let s := s.retractMulti ms e
            if w.mask = 0 then s else give s

/-- What a node holds of tag t already where a new entry would be its fifth: the highest-tagged entry is retracted (R238). -/
def State.makeRoom (s : State) (i : Nat) (x : Node) : State :=
  match x.entries.find? (fun h => h.live && h.tag = maxN ((x.entries.filter Entry.live).map Entry.tag)) with
  | some h => s.retractUni i h
  | none => s

/-- The highest tag among the TARGET entries of a node. -/
def Node.topTag (x : Node) : Option Nat := match x.targets with | [] => none | l => some (maxN (l.map Entry.tag))

/-- The channels of a new entry after room was made: with what differs from the highest remaining entry (R238). -/
def State.roomMask (s : State) (i : Nat) (x : Node) (t m : Nat) : Nat :=
  Nat.lor (Nat.lor m (s.wantMask i x t 0))
    (match x.topTag with | some h => diffMask (s.vecAt i x t) (s.vecAt i x h) | none => 0)

/-- The unicast entry of a tag for a node: none where the multicast entry says all of it. `stands`: the tag is c; `now`: it is
decided now. -/
def State.stageUni (s : State) (i t : Nat) (stands now : Bool) : State :=
  match s.node i with
  | none => s
  | some x =>
    let mc := x.entryAt false t
    let uc := x.entryAt true t
    let v := s.vecAt i x t
    let keep := if stands then (uc.map Entry.mask).getD 0 else 0
    let w := s.want i x t keep
    let w := match mc with
      | none => w
      | some e =>
        if x.catchAt ≠ some t && keep = 0 && diffMask v (e.over (x.baseAt t)) = 0 && (stands || e.fade = w.fade) then
          { w with mask := 0, vals := [] }
        else
          let m := Nat.lor w.mask e.mask
          { w with mask := m, vals := maskVals m v }
    let eval := !s.fullTag x t
    let new := { w with uni := true, ver := x.nextVer true t }
    let give := fun (s : State) => (s.modNode i fun x => x.takeEntry new eval).ensureTag t
    match uc with
    | none =>
      if w.mask = 0 then s
      else if x.liveCount < 4 then give s
      else if !now then s
      else
        let s := s.makeRoom i x
        (s.modNode i fun x =>
          let m := s.roomMask i x t w.mask
          x.takeEntry { new with mask := m, vals := maskVals m v, ver := x.nextVer true t } eval).ensureTag t
    | some e =>
      if stands then
        if diffMask v (e.over ((mc.map (fun z => z.over (x.baseAt t))).getD (x.baseAt t))) = 0 then s
        else give (s.modNode i fun x => x.swapEntry e { e with st := 0 })
      else if e.same w then s
      else
        let s := s.retractUni i e
        if w.mask = 0 then s else give s

/-! ### GAIN entries (R218) -/

/-- Two orders of gain and LMAX say the same, within the dead band. -/
def gainsAgree (db : Nat) (fit : Nat → Bool) (g g0 l l0 : List Nat) : Bool :=
  (List.range 8).all (fun k => !fit k ||
    (decide (((g.getD k 65536 : Int) - (g0.getD k 65536 : Int)).natAbs ≤ db) && decide (l.getD k 65535 = l0.getD k 65535)))

/-- The last GAIN entry staged for a node. -/
def Node.lastGain (x : Node) : Option Entry := (sortByTag (x.entries.filter (fun e => e.kind = 2 && e.live))).getLast?

/-- A GAIN entry is due (R218): the new gain or LMAX differs from the committed one, or the record was replaced. DEDUCED (log entry
111): one that is staged already and orders the new values serves. -/
def gainDue (s : State) (x : Node) : Bool :=
  let db := s.get F.LGT_COMP_DEADBAND
  x.newCal || (!gainsAgree db x.fit x.gains x.gain x.lmaxs x.lmaxC
    && (match x.lastGain with | some e => !gainsAgree db x.fit x.gains e.vals x.lmaxs e.lmax | none => true))

/-- Stage a GAIN entry at tag t, unicast (R237, R238). -/
def State.giveGain (s : State) (i t : Nat) (g l : List Nat) : State :=
  match s.node i with
  | none => s
  | some x =>
    if x.entries.any (fun e => e.kind = 2 && e.live && e.tag = t) then s
    else
      let s := if x.liveCount < 4 then s else s.makeRoom i x
      (s.modNode i fun x => { x with
        newCal := false, entries := x.entries ++ [{ tag := t, kind := 2, ver := x.nextVer true t, mask := x.fitted, vals := maskVals x.fitted g,
                                                    lmax := maskVals x.fitted l, uni := true }] }).ensureTag t

/-- The GAIN entries of a node: with a resync the new gains, with a catch-up those committed at its tag (R257), else where one is due. -/
def State.stageGain (s : State) (i : Nat) : State :=
  match s.node i with
  | none => s
  | some x =>
    let s := s.setNode i { x with compLimit := !x.nocal && (List.range 8).any (fun k => x.fit k && (x.gainAt x.dT k).2) }
    let s := match s.light.resyncTag with
      | some t => if s.num < t then s.giveGain i t x.gains x.lmaxs else s
      | none => s
    let s := match x.catchAt with
      | some t =>
        if t ≤ s.num then s
        else match (sortByTag (x.entries.filter (fun e => e.kind = 2 && e.live && decide (e.tag < t)))).getLast? with
          | some e => s.giveGain i t e.vals e.lmax
          | none => s.giveGain i t ((List.range 8).map (fun k => x.gain.getD k 65536)) ((List.range 8).map (fun k => x.lmaxC.getD k 65535))
      | none => s
    match s.node i with
    | some x => if gainDue s x then s.giveGain i (s.num + s.leadOf true) x.gains x.lmaxs else s
    | none => s

/-! ### Staging a frame -/

/-- A tag that is not effective and has neither entries nor changes is no commit frame (R242). -/
def State.pruneTags (s : State) : State :=
  let used := s.light.changes.map LayerChange.tag ++ s.light.resyncTag.toList
    ++ (SMap.vals s.light.nodes).flatMap (fun x => (x.entries.filter Entry.live).map Entry.tag ++ x.catchAt.toList)
  s.modLight fun l => { l with tags := l.tags.filter (fun t => t.st = .effective || used.contains t.tag) }

/-- Stage one tag for the planned nodes of a group: by multicast where every radio member is concerned, then by unicast. -/
def State.stageTag (s : State) (plan : List (Nat × StagePlan)) (all : List Nat) (t : Nat) : State :=
  let here := plan.filter (fun p => p.2.tags.contains t)
  let multi := all ≠ [] && all.all (fun i => here.any (fun p => p.1 = i) && !(match s.node i with | some x => x.catchAt = some t | none => true))
  let s := if multi then s.stageMulti all t (here.any (fun p => p.2.c = t)) else s
  here.foldl (fun (s : State) p => s.stageUni p.1 t (p.2.c = t) (p.2.now.contains t)) s

/-- Stage for the planned nodes, group by group, each tag in ascending order; then their GAIN entries. -/
def State.stageAll (s : State) (plan : List (Nat × StagePlan)) (ids : List Nat) : State :=
  let groupOf := fun (i : Nat) => ((s.node i).map Node.group).getD 0
  let groups := (plan.map (fun p => groupOf p.1)).foldl insertN []
  let s := groups.foldl (fun (s : State) g =>
    let mine := plan.filter (fun p => groupOf p.1 = g)
    let all := (SMap.keys s.light.nodes).filter (fun i => groupOf i = g && (s.localOf i).isNone)
    ((mine.flatMap (fun p => p.2.tags)).foldl insertN []).foldl (fun (s : State) t => s.stageTag mine all t) s) s
  (ids.foldl State.stageGain s).pruneTags

def State.plansOf (s : State) (ns : SMap Node) (from_ : Option Nat) : List (Nat × StagePlan) :=
  ns.filterMap (fun p => (s.stagePlan p.1 p.2 from_).map (fun q => (p.1, q)))

/-- Stage everything, where `from_` names a tag whose change was removed. -/
def State.restageFrom (s : State) (from_ : Option Nat) : State :=
  s.stageAll (s.plansOf s.light.nodes from_) (SMap.keys s.light.nodes)
def State.restage (s : State) : State := s.restageFrom none

/-- Stage for one node. -/
def State.restageNode (s : State) (i : Nat) : State :=
  s.stageAll (s.plansOf (s.light.nodes.filter (fun p => p.1 = i)) none) [i]

end Sys2Proof.Machine
end

