-- ==== Sys2Proof/Machine/Lighting.lean ====
section
/-!
DEFINITION. The lighting command plane (chapter 05): commit frames and effect boundaries, plane start and stop, Lanyard actions, the
recipe layer, work-light zones, the judgement of reports, and catch-ups.
-/
namespace Sys2Proof.Machine

/-! ### Effect boundaries (R242, R243, R252) -/

/-- The place of the fade of channel k of a bound slot in `DriveSt.fades`. -/
def fadeKey (slot k : Nat) : Nat := 8 * slot + k

/-- Where a fade stands in frame n: linear, truncated toward its start (R247, R311). -/
def Fade.now (f : Fade) (n : Nat) : Nat :=
  if f.len = 0 || f.at_ + f.len ≤ n then f.to_
  else if n ≤ f.at_ then f.from_
  else
    let d := n - f.at_
    if f.from_ ≤ f.to_ then f.from_ + (f.to_ - f.from_) * d / f.len else f.from_ - (f.from_ - f.to_) * d / f.len

def State.fadeOf (s : State) (slot k : Nat) : Fade := SMap.getD s.drv.fades (fadeKey slot k) {}

/-- A layer change acts on the committed layers. -/
def Light.applyKind (l : Light) : LayerKind → Light
  | .groupOrder g m v => { l with groupOv := SMap.insert l.groupOv g (orderMask m v (SMap.getD l.groupOv g [])) }
  | .groupRelease g m => { l with groupOv := SMap.put [] l.groupOv g (releaseMask m (SMap.getD l.groupOv g [])) }
  | .nodeOrder n m v => { l with nodeOv := SMap.insert l.nodeOv n (orderMask m v (SMap.getD l.nodeOv n [])) }
  | .nodeRelease n m => { l with nodeOv := SMap.put [] l.nodeOv n (releaseMask m (SMap.getD l.nodeOv n [])) }
  | .recipeSelect g r => { l with inForce := SMap.put 0 l.inForce g r, recipeOn := SMap.insert l.recipeOn g r }
  | .recipeTarget g v => { l with recipeTgt := SMap.insert l.recipeTgt g v }
  | .recipeOff g => { l with recipeOn := SMap.erase l.recipeOn g, recipeTgt := SMap.erase l.recipeTgt g }
  | .emergency (some v) (some g) => { l with emerg := SMap.insert l.emerg g v }
  | .emergency none (some g) => { l with emerg := SMap.erase l.emerg g }
  | .emergency (some v) none => { l with emerg := (List.range 1024).map (fun g => (g, v)) }
  | .emergency none none => { l with emerg := [] }
  | .overlayOn g v => { l with overlay := SMap.insert l.overlay g v }
  | .overlayOff g => { l with overlay := SMap.erase l.overlay g }
  | .lanyardOn g v => { l with lanyard := SMap.insert l.lanyard g v }
  | .lanyardOff g => { l with lanyard := SMap.erase l.lanyard g }
  | .clearProgram => { l with groupOv := [], nodeOv := [], emerg := [] }
  | .resync => l

/-- Commit one entry of a node: targets or gains, and the drives that follow (R216, R247, R252); a channel that is not fitted has drive 0
and is never saturated (R212). -/
def Node.commit (x : Node) (e : Entry) : Node :=
  let take := fun k => bit e.mask k
  let x := if e.kind = 1 then
      { x with ct := (List.range 8).map (fun k => if take k then e.vals.getD k 0 else x.ct.getD k 0) }
    else { x with gain := e.vals, lmaxC := e.lmax }
  let dr := (List.range 8).map (fun k =>
    if x.fit k then driveOf (x.ct.getD k 0) (x.gain.getD k 65536) (x.lmaxC.getD k 65535) else (0, false))
  let redo := fun k => e.kind ≠ 1 || take k
  { x with cd := (List.range 8).map (fun k => if redo k then (dr.getD k (0, false)).1 else x.cd.getD k 0),
           sat := sumN ((List.range 8).map (fun k => 2 ^ k * b2n (if redo k then (dr.getD k (0, false)).2 else bit x.sat k))) }

/-- Channel k of a bound slot at an effect boundary (R247): a TARGET entry that carries it starts its fade from where it stands; a drive
that a GAIN entry alone changes applies at once. -/
def State.localFade (s : State) (slot k : Nat) (tg : List Entry) (drive : Nat) : State :=
  let f := s.fadeOf slot k
  let new := match (tg.filter (fun e => bit e.mask k)).getLast? with
    | some e => some ⟨f.now s.num, drive, s.num, e.fade⟩
    | none => if drive = f.to_ then none else some ⟨drive, drive, s.num, 0⟩
  match new with
  | some g => s.modDrv fun d => { d with fades := SMap.insert d.fades (fadeKey slot k) g }
  | none => s

/-- The effect boundary of tag t for one node, in the frame n that it opens. -/
def State.commitNode (s : State) (t i : Nat) (x : Node) : State :=
  let es := x.entries.filter (fun e => e.live && e.tag = t)
  let y := s.layersOf x.group i
  let src := (List.range 8).map (fun k => ((y.target x k).map Prod.snd).getD (x.src.getD k 0))
  if es = [] then s.setNode i { x with src := src, entries := x.entries.filter (fun e => e.live || decide (t < e.tag)) }
  else
    let tg := es.filter (fun e => e.kind = 1 && !e.uni) ++ es.filter (fun e => e.kind = 1 && e.uni)
    let gains := es.filter (fun e => e.kind = 2)
    let x' := (gains ++ tg).foldl Node.commit { x with src := src }
    let loc := s.localOf i
    let x' := { x' with
      ctag := t, inherited := false, everCommitted := true,
      entries := x.entries.filter (fun e => decide (t < e.tag)),
      catchAt := if x.catchAt = some t then none else x.catchAt,
      cuAt := if x.catchAt = some t then s.num else x.cuAt,
      waitAt := if x.catchAt = some t then s.mono else x.waitAt,
      kept := ((⟨t, s.num, x'.cd⟩ : KeptEntry) :: x.kept).take 4,
      ftag := if loc.isSome then t else x.ftag, fd := if loc.isSome then x'.cd else x.fd }
    let s := s.setNode i x'
    if loc.isNone then s else (List.range 8).foldl (fun s k => s.localFade i k tg (x'.cd.getD k 0)) s

/-- The effect boundary of a tag (R243): its layer changes act, its entries commit, its calls end DONE. -/
def State.commitTag (s : State) (t : Nat) : State :=
  let cs := s.light.changes.filter (fun c => c.tag = t)
  let s := s.modLight fun l => { cs.foldl (fun l c => l.applyKind c.kind) l with
    changes := l.changes.filter (fun c => c.tag ≠ t),
    resyncTag := if l.resyncTag = some t then none else l.resyncTag }
  let s := s.light.nodes.foldl (fun s p => s.commitNode t p.1 ((s.node p.1).getD p.2)) s
  s.finishAll (cs.map LayerChange.by_) St.done

/-- What the LIGHT work of the frame that ends makes effective at the boundary that opens frame n (Table 05.7): an OPEN tag n
when the work was on time, else it is DEFERRED; a DEFERRED tag within the window. -/
def State.judgeTags (s : State) (onTime : Bool) (n : Nat) : State :=
  let g := s.get F.LGT_GRACE_GRACE
  let eff := (s.light.tags.filter (fun t => onTime && decide (t.tag ≤ n) && decide (t.st ≠ .effective)
    && decide (n - t.tag ≤ g))).map TagSt.tag
  let nDef := countP (fun t => eff.contains t.tag && decide (t.st = .deferred)) s.light.tags
  let s := (s.add F.LGT_CNT0_COMMITS eff.length).add F.LGT_CNT1_DEFERRED nDef
  let s := s.modLight fun l => { l with tags := l.tags.map (fun t =>
    if eff.contains t.tag then { t with st := .effective }
    else if t.st = .openT && decide (t.tag ≤ n) then { t with st := .deferred } else t) }
  eff.foldl (fun s t => s.commitTag t) s

/-- A tag's changes are decided again in frame n, each with its layer's lead; its entries go without a retraction (R243,
R248). -/
def State.withdrawTag (s : State) (t n : Nat) : State :=
  let cs := s.light.changes.filter (fun c => c.tag = t)
  let s := s.modLight fun l => { l with
    changes := l.changes.filter (fun c => c.tag ≠ t), tags := l.tags.filter (fun x => x.tag ≠ t),
    excl := l.excl.filter (fun x => x.tag ≠ t),
    resyncTag := if l.resyncTag = some t then some (n + s.leadOf true) else l.resyncTag,
    nodes := l.nodes.map (fun p => (p.1, { p.2 with
      entries := p.2.entries.filter (fun e => e.tag ≠ t),
      catchAt := if p.2.catchAt = some t then some (n + s.get F.LGT_GRACE_CATCHUP) else p.2.catchAt })) }
  let s := (s.light.resyncTag.toList ++ (SMap.vals s.light.nodes).filterMap Node.catchAt).foldl (fun s t => s.ensureTag t) s
  cs.foldl (fun s c => s.changeAt n c.lead c.kind c.fade c.by_ c.old) s

/-- COMMIT_FRAME_WITHDRAW: a DEFERRED tag beyond the window (Table 05.7). -/
def State.withdrawFrame (s : State) (t : Nat) : State :=
  if s.light.tags.any (fun x => x.tag = t && decide (x.st = .deferred))
      && decide (s.get F.LGT_GRACE_GRACE < s.num + 1 - t) then
    (((s.inc F.LGT_CNT1_WITHDRAWN).log Sev.warning 3 F.LGT_CNT1_WITHDRAWN []).withdrawTag t s.num).restage
  else s

def execCommitFrameWithdraw (tag : Nat) (s : State) : Res := s.act fun s => s.withdrawFrame tag

/-- COMMIT_FRAME_CLOSE: an EFFECTIVE tag beyond the window is no longer named. -/
def State.closeFrame (s : State) (t : Nat) : State :=
  if s.light.tags.any (fun x => x.tag = t && decide (x.st = .effective))
      && decide (s.get F.LGT_GRACE_GRACE < s.num + 1 - t) then
    s.modLight fun l => { l with tags := l.tags.filter (fun x => x.tag ≠ t), excl := l.excl.filter (fun x => x.tag ≠ t) }
  else s

def execCommitFrameClose (tag : Nat) (s : State) : Res := s.act fun s => s.closeFrame tag

/-! ### Plane start, stop and realignment (R231, R236, R248, R249, R637) -/

def State.bumpEpoch (s : State) : State := s.put F.LGT_STAT_EPOCH ((s.get F.LGT_STAT_EPOCH + 1) % 256)

/-- The plane stops (R637): open and deferred tags stay unnamed, their calls end ABORTED. The layers that only Run evaluates are
empty from here on (R226). -/
def State.planeStop (s : State) : State :=
  let os := s.light.changes.map LayerChange.by_
  let s := s.modLight fun l => { l with running := false, changes := [], tags := [], excl := [], resyncTag := none, lastTau := none,
                                        groupOv := [], nodeOv := [], emerg := [],
                                        nodes := l.nodes.map (fun p => (p.1, { p.2 with entries := [], catchAt := none })) }
  s.finishAll os St.aborted

/-- Realignment (R248): every tag is withdrawn and its changes are decided again in frame k; the boundaries of kept entries
and fades move with the numbering. -/
def State.planeRealign (s : State) (old k : Nat) : State :=
  let tags := (s.light.tags.filter (fun t => decide (t.st ≠ .effective))).map TagSt.tag
  let s := tags.foldl (fun s t => s.withdrawTag t k) s.bumpEpoch
  let mv : Nat → Nat := fun a => (Int.ofNat a + ((k : Int) - (old + 1))).toNat
  let s := s.modLight fun l => { l with
    tags := l.tags.filter (fun t => decide (t.st ≠ .effective)), excl := [],
    nodes := l.nodes.map (fun p => (p.1, { p.2 with
      entries := [], cuAt := mv p.2.cuAt, kept := p.2.kept.map (fun e => { e with at_ := mv e.at_ }) })) }
  s.modDrv fun d => { d with fades := d.fades.map (fun p => (p.1, { p.2 with at_ := mv p.2.at_ })) }

/-- Entry into Stop at the boundary that opens frame s: layers 3 and 4 leave with tag s + LEAD (R231). -/
def State.planeProgramOff (s : State) : State := s.changeAt s.num true .clearProgram 0 .quiet

/-- A change of layer 3 or 4. -/
def LayerKind.ofProgram : LayerKind → Bool
  | .groupOrder _ _ _ | .groupRelease _ _ | .nodeOrder _ _ _ | .nodeRelease _ _ | .emergency _ _ | .clearProgram => true
  | .recipeSelect _ _ | .recipeTarget _ _ | .recipeOff _ | .overlayOn _ _ | .overlayOff _ | .lanyardOn _ _ | .lanyardOff _ | .resync => false

/-- START into Run: layers 3 and 4 are empty (R231); what of them still waited for its tag has no effect any more. -/
def State.planeProgramClear (s : State) : State :=
  s.modLight fun l => { l with
    groupOv := [], nodeOv := [], emerg := []
    changes := l.changes.map fun c => if c.kind.ofProgram then { c with kind := .resync } else c }

def clearPresence (s : State) : State :=
  (List.range 256).foldl (fun s z => if s.flag (F.LGT_ZN_STAT_PROG.at z) then s.put (F.LGT_ZN_STAT_PROG.at z) 0 else s) s

/-! ### Lanyard actions (R228) -/

/-- The four words of LGT_EVAC as eight targets. -/
def State.evac (s : State) : List Nat :=
  (List.range 8).map (fun k => if k % 2 = 0 then s.get (F.LGT_EVAC_CH_LO.at (k / 2)) else s.get (F.LGT_EVAC_CH_HI.at (k / 2)))

/-- The groups that some node belongs to or whose configuration is not all zero. -/
def State.groupsUsed (s : State) : List Nat :=
  let cfg := s.regs.filterMap (fun p =>
    let a := p.1 / 32
    if 0x61000 ≤ a && a < 0x63000 then some ((a - 0x61000) / 8) else none)
  (SMap.vals s.light.nodes).foldl (fun l x => insertN l x.group) (cfg.foldl insertN [])

/-- What LGT_GRP_CFG.LANYARD orders for a group. -/
def State.lanyardAction (s : State) (g : Nat) : Option (Option (List Nat)) :=
  match s.get (F.LGT_GRP_CFG_LANYARD.at g) with
  | 1 => some none
  | 2 => some (some s.evac)
  | 3 => some (some (List.replicate 8 0))
  | _ => none

/-- Stop is declared, in the frame in progress: the committed targets are recorded and layer 5 becomes active. -/
def State.planeLanyardOn (s : State) : State :=
  let s := s.modLight fun l => { l with nodes := l.nodes.map (fun p => (p.1, { p.2 with heldCt := p.2.ct })) }
  if !s.light.running then s
  else s.groupsUsed.foldl (fun s g => match s.lanyardAction g with
    | some v => s.changeAt s.num false (.lanyardOn g v) 0 .quiet
    | none => s) s

/-- The Lanyard is reset: layer 5 clears. -/
def State.planeLanyardOff (s : State) : State :=
  if !s.light.running then s
  else s.groupsUsed.foldl (fun s g =>
    if (s.decidedLayers g).lan.isSome then s.changeAt s.num false (.lanyardOff g) 0 .quiet else s) s

/-- A write of LGT_GRP_CFG.LANYARD while Stop stays declared is decided in the frame of the write. -/
def State.planeLanyardGroup (s : State) (g : Nat) : State :=
  if !s.flag F.STP_STAT_DECLARED || !s.light.running then s
  else match s.lanyardAction g with
    | some v => s.changeAt s.num false (.lanyardOn g v) 0 .quiet
    | none => if (s.decidedLayers g).lan.isSome then s.changeAt s.num false (.lanyardOff g) 0 .quiet else s

/-- Layer 5 of a group as the Lanyard stands, where the plane starts. -/
def State.planeLanyardSync (s : State) (g : Nat) : State :=
  if s.flag F.STP_STAT_DECLARED then s.planeLanyardGroup g
  else if (s.decidedLayers g).lan.isSome then s.changeAt s.num false (.lanyardOff g) 0 .quiet else s

/-- The plane starts in frame n (R249): a resync for every node; no node has committed or reported in it (R639); layer 5 stands as the
Lanyard does (R228). -/
def State.planeStart (s : State) : State :=
  let t := s.num + s.leadOf true
  let s := (s.bumpEpoch.modLight fun l => { l with
    running := true, resyncTag := some t
    nodes := l.nodes.map (fun p => (p.1, { p.2 with everCommitted := false, seen := false, inherited := false })) }).ensureTag t
  s.groupsUsed.foldl State.planeLanyardSync s

/-! ### The recipe layer (R220 to R225) -/

/-- Layer 1 of one group in frame n: it follows the configuration, and moves at recipe tags. DESIGN CHOICE (log entry 107): a group whose
configuration names a recipe that was never loaded has no layer 1. -/
def State.recipeGroup (s : State) (jump : Bool) (g : Nat) : State :=
  let n := s.num
  let t := n + s.leadOf true
  let r := s.get (F.LGT_GRP_CFG_RECIPE.at g)
  let on := s.flag (F.LGT_GRP_CFG_RECIPE_EN.at g) && s.flag F.TIM_STAT_TOD && decide (s.recipe r ≠ [])
  match s.decidedRecipe g with
  | some r0 =>
    if !on then s.changeAt n true (.recipeOff g) 0 .quiet
    else if r0 ≠ r then
      (s.changeAt n true (.recipeSelect g r) 0 .quiet).changeAt n true (.recipeTarget g (s.recipeVec r t)) (s.recipeFadeAt r t) .quiet
    else if jump || s.recipeTagAt r t || s.light.changes.any (fun c => c.tag = t && c.kind = .recipeSelect g r) then
      s.changeAt n true (.recipeTarget g (s.recipeVec r t)) (s.recipeFadeAt r t) .quiet
    else s
  | none =>
    if on then
      (s.changeAt n true (.recipeSelect g r) 0 .quiet).changeAt n true (.recipeTarget g (s.recipeVec r t)) (s.recipeFadeAt r t) .quiet
    else s

def State.recipeWork (s : State) : State :=
  let jump := decide (s.light.lastTz ≠ s.get F.LGT_TZ_OFFSET)
  let s := s.groupsUsed.foldl (fun s g => s.recipeGroup jump g) s
  let tau := if s.flag F.TIM_STAT_TOD then some (s.recipeInstant (s.num + s.leadOf true)) else none
  s.modLight fun l => { l with lastTz := s.get F.LGT_TZ_OFFSET, lastTau := tau }

/-! ### Work-light zones (R233 to R236) -/

def State.zoneGroups (s : State) (z : Nat) : List Nat :=
  (List.range 4).flatMap (fun j =>
    (if s.flag (F.LGT_ZN_GRP_V0.at2 z j) then [s.get (F.LGT_ZN_GRP_GROUP0.at2 z j)] else [])
      ++ (if s.flag (F.LGT_ZN_GRP_V1.at2 z j) then [s.get (F.LGT_ZN_GRP_GROUP1.at2 z j)] else []))
def State.zoneSegs (s : State) (z : Nat) : List Nat :=
  (List.range 8).flatMap (fun j =>
    (if s.flag (F.LGT_ZN_SEG_V0.at2 z j) then [s.get (F.LGT_ZN_SEG_SEG0.at2 z j)] else [])
      ++ (if s.flag (F.LGT_ZN_SEG_V1.at2 z j) then [s.get (F.LGT_ZN_SEG_SEG1.at2 z j)] else []))
def State.zoneSpec (s : State) (z : Nat) : List Nat :=
  (List.range 8).map (fun k =>
    if k % 2 = 0 then s.get (F.LGT_ZN_SPEC_CH_LO.at2 z (k / 2)) else s.get (F.LGT_ZN_SPEC_CH_HI.at2 z (k / 2)))

def State.segLen (s : State) (g : Nat) : Nat := ((s.segment g).map Segment.len).getD 0

/-- Distance in mm along the reserved segments to the first one of a set: the rest of the front segment, then whole segments. -/
def distTo (s : State) (segs : List Nat) : List Nat → Nat → Option Nat
  | [], _ => none
  | g :: l, d => if segs.contains g then some d else distTo s segs l (d + s.segLen g)

/-- Rover r is present for the segments of a zone with a lead of `ahead` seconds (R233). -/
def State.roverNear (s : State) (r ahead : Nat) (segs : List Nat) : Bool :=
  let p := s.rovPos r
  let v := s.rover r
  let occ := v.occupied
  if p.ctx.isNone || !p.hasFix then false
  else if 100 < s.num - p.fix.epoch || p.fix.state < 2 then
    decide (100 < s.num - p.fix.epoch) && (match v.st with | some b => segs.contains b.front | none => false)
  else if occ.any (fun g => segs.contains g) then true
  else match v.st with
    | none => false
    | some b =>
      let rest := s.segLen b.front - b.offset
      let ahead_ := (v.resv.map Resv.seg).filter (fun g => !occ.contains g)
      match distTo s segs ahead_ rest with
      | some d => decide (d ≤ ahead * Nat.max 200 p.fix.speed)
      | none => false

/-- Zones that are configured, or not idle. -/
def State.zonesUsed (s : State) : List Nat :=
  s.regs.foldl (fun l p =>
    let a := p.1 / 32
    if 0x68000 ≤ a && a < 0x70000 then insertN l ((a - 0x68000) / 128) else l) []

/-- One evaluation of a zone (Table 05.4); the rovers present are shown. -/
def State.zoneEval (s : State) (z : Nat) : State :=
  let st := F.LGT_ZN_STAT_STATE.at z
  let left := F.LGT_ZN_STAT_HOLD_LEFT.at z
  let en := s.flag (F.LGT_ZN_CFG_EN.at z)
  let segs := s.zoneSegs z
  let rovers := countP (fun r => s.roverNear r (s.get (F.LGT_ZN_CFG_AHEAD.at z)) segs) (SMap.keys s.pos.rovers)
  let s := (s.put (F.LGT_ZN_STAT_ROVERS.at z) rovers).putB (F.LGT_ZN_STAT_ROVER.at z) (decide (0 < rovers))
  let present := s.flag (F.LGT_ZN_STAT_PROG.at z) || decide (0 < rovers)
  match s.get st with
  | 0 => if present && en then s.put st 1 else s
  | 1 => if !en then s.put st 0
         else if present then s
         else (s.put st 2).put left (100 * s.get (F.LGT_ZN_CFG_HOLD.at z))
  | _ => if !en then (s.put st 0).put left 0
         else if present then s.put st 1
         else if s.get left = 0 then s.put st 0
         else s.put left (s.get left - 1)

/-- The overlay of a group: the spectrum of the lowest-numbered zone that is not idle (R235). -/
def State.zoneOverlay (s : State) (zs : List Nat) (g : Nat) : Option (Nat × List Nat) :=
  (zs.find? (fun z => decide (s.get (F.LGT_ZN_STAT_STATE.at z) ≠ 0) && (s.zoneGroups z).contains g)).map
    (fun z => (z, s.zoneSpec z))

def State.zoneWork (s : State) : State :=
  let zs := s.zonesUsed
  let before := zs.map (fun z => (z, s.get (F.LGT_ZN_STAT_STATE.at z)))
  let s := zs.foldl (fun s z => s.zoneEval z) s
  let moved := before.filter (fun p => decide ((p.2 = 0) ≠ (s.get (F.LGT_ZN_STAT_STATE.at p.1) = 0)))
  let groups := (zs.flatMap s.zoneGroups ++ SMap.keys s.light.overlay).foldl insertN []
  let fadeFor := fun g => ((moved.find? (fun p => (s.zoneGroups p.1).contains g)).map
    (fun p => s.get (F.LGT_ZN_CFG_FADE.at p.1))).getD 0
  groups.foldl (fun s g =>
    match s.zoneOverlay zs g, (s.decidedLayers g).ovl with
    | some (_, v), some w => if v = w then s else s.changeAt s.num true (.overlayOn g v) (fadeFor g) .quiet
    | some (_, v), none => s.changeAt s.num true (.overlayOn g v) (fadeFor g) .quiet
    | none, some _ => s.changeAt s.num true (.overlayOff g) (fadeFor g) .quiet
    | none, none => s) s

/-! ### Confirmed values and catch-ups (R255 to R258, R262, R639) -/

/-- The full frame number of a report from its low 16 bits: the latest one not after the frame in progress. -/
def State.fullFrame (s : State) (low : Nat) : Nat := s.num - (s.num + 65536 - low % 65536) % 65536

/-- Stage a catch-up (R257), or give up (R258). -/
def State.catchUp (s : State) (i : Nat) : State :=
  match s.node i with
  | none => s
  | some x =>
    if x.catchAt.isSome || x.stuck || !s.light.running then s
    else if s.get F.LGT_GRACE_TRIES ≤ x.tries then
      (s.setNode i { x with stuck := true }).log Sev.warning 0 F.LGT_NODES_STUCK []
    else
      let t := s.num + s.get F.LGT_GRACE_CATCHUP
      let s := (s.setNode i { x with catchAt := some t, tries := x.tries + 1 }).ensureTag t
      (s.restageNode i).inc F.LGT_CNT2_CATCHUPS

/-- DISC becomes 1, or stays so; where it becomes 1 a catch-up is staged (R256, R257). -/
def State.setDisc (s : State) (i : Nat) : State :=
  match s.node i with
  | none => s
  | some x => if x.disc then s else (s.setNode i { x with disc := true, discAt := s.mono }).catchUp i

/-- The judgement of R255: none where nothing is due. -/
def Node.consistent (x : Node) (sent ftagLow grace : Nat) (fd : List Nat) : Option Bool :=
  match x.kept.find? (fun e => decide (e.at_ + grace ≤ sent)) with
  | none => none
  | some need =>
    match x.kept.find? (fun e => e.tag % 2 ^ 32 = ftagLow && decide (e.at_ ≤ sent)) with
    | none => some false
    | some have_ =>
      some (decide (need.tag ≤ have_.tag)
        && (List.range 8).all (fun k => !x.fit k || bit x.excl k || decide (fd.getD k 0 = have_.drives.getD k 0)))

/-- Inherited values of a node whose first report comes before any entry took effect for it (R639). -/
def Node.inherit (x : Node) (r : LampRep) : Node :=
  let dt := toInt 16 (ofInt 16 r.temp) - calTRef x.cal
  let ct := (List.range 8).map (fun k =>
    if x.fit k && !bit x.excl k then targetFor (x.gainAt dt k).1 (x.lmax k) (r.fd.getD k 0) else 0)
  let cd := (List.range 8).map (fun k =>
    if x.fit k && !bit x.excl k then (driveOf (ct.getD k 0) (x.gainAt dt k).1 (x.lmax k)).1 else 0)
  let sat := sumN ((List.range 8).map (fun k => 2 ^ k * b2n (x.fit k && !bit x.excl k
    && (driveOf (ct.getD k 0) (x.gainAt dt k).1 (x.lmax k)).2)))
  { x with ct := ct, cd := cd, sat := sat, ctag := r.ftag, inherited := true }

/-- A report is taken at the frame boundary after it (R255, R256). -/
def State.confirmNode (s : State) (i : Nat) (x : Node) : State :=
  match x.rep with
  | none => s
  | some r =>
    let x := if !x.everCommitted && !x.seen then x.inherit r else x
    let sent := s.fullFrame r.sent
    let ftag := ((x.kept.find? (fun e => e.tag % 2 ^ 32 = r.ftag)).map KeptEntry.tag).getD r.ftag
    let x := { x with rep := none, seen := true, ftag := ftag, fd := r.fd, fallback := r.fallback, reported := true }
    let derated := bit r.faults 0 || bit r.faults 1
    let verdict := if derated then none else x.consistent sent r.ftag (s.get F.LGT_GRACE_GRACE) r.fd
    match verdict with
    | none => s.setNode i x
    | some true => s.setNode i { x with disc := !x.online, stuck := false, tries := 0 }
    | some false =>
      -- while DISC stays 1, only a report that follows the last catch-up's effect boundary brings a further one
      let s := s.setNode i x
      if !x.disc then s.setDisc i else if x.cuAt ≤ sent then s.catchUp i else s

def State.confirmAll (s : State) : State := s.light.nodes.foldl (fun s p => s.confirmNode p.1 ((s.node p.1).getD p.2)) s

/-- Record fault bits that appear or clear: one record for each, and one Info record when a fault clears (R262). -/
def State.nodeFaultLog (s : State) (i : Nat) (was now : Bool) (sev what : Nat) : State :=
  if was = now then s
  else if now then s.log sev 0 F.LGT_NODES_DISC (leBytes 2 i ++ leBytes 4 what)
  else s.log Sev.info 1 F.LGT_NODES_DISC (leBytes 2 i ++ leBytes 4 what)

/-- What a lamp report says of faults, temperature and strings (R217, R262, Table 05.10). -/
def State.nodeReported (s : State) (i : Nat) (x : Node) (r : LampRep) : State :=
  let open_ := fun k => decide (bits r.sstate (2 * k + 1) (2 * k) = 1)
  let short := fun k => decide (bits r.sstate (2 * k + 1) (2 * k) = 2)
  let wasOpen := fun k => decide (bits x.sstate (2 * k + 1) (2 * k) = 1)
  let wasShort := fun k => decide (bits x.sstate (2 * k + 1) (2 * k) = 2)
  let fault := fun b => bit r.faults b
  let excl := if fault 5 then 0xFF else sumN ((List.range 8).map (fun k => 2 ^ k * b2n (open_ k || short k
    || (decide (k < 7) && bit r.nshort k) || (decide (0 < k) && bit r.nshort (k - 1)))))
  let tempOk := !fault 3
  let x' := { x with
    excl := excl, nfault := r.faults % 64, nshort := r.nshort % 128, sstate := r.sstate, vstr := r.vstr, rep := some r,
    repAt := s.mono, tboard := if tempOk then ofInt 16 r.temp else x.tboard, tempAt := if tempOk then s.mono else x.tempAt,
    tempEver := x.tempEver || tempOk, tempStale := x.tempStale && !tempOk }
  let s := s.setNode i x'
  let s := (List.range 8).foldl (fun s k =>
    (s.nodeFaultLog i (wasOpen k) (open_ k) Sev.warning k).nodeFaultLog i (wasShort k) (short k) Sev.error (8 + k)) s
  let s := (List.range 7).foldl (fun s k => s.nodeFaultLog i (bit x.nshort k) (bit r.nshort k) Sev.error (16 + k)) s
  -- overtemperature, supply low, temperature sensor, calibration record, driver
  [(0, Sev.warning), (2, Sev.warning), (3, Sev.warning), (4, Sev.warning), (5, Sev.error)].foldl
    (fun s p => s.nodeFaultLog i (bit x.nfault p.1) (fault p.1) p.2 (24 + p.1)) s

/-- REPORT_WAIT_EXPIRY (R256, R257): LGT_CONF.WAIT frames without a report, counted from the last one, from the association, or from the
effect boundary of the last catch-up. -/
def State.reportWait (s : State) (i : Nat) : State :=
  match s.node i with
  | none => s
  | some x =>
    if s.past (Nat.max x.repAt x.waitAt + s.get F.LGT_CONF_WAIT * frameNs) && (s.localOf i).isNone then
      if x.disc then s.catchUp i else s.setDisc i
    else s

def execReportWaitExpiry (node : Nat) (s : State) : Res := s.act fun s => s.reportWait node

/-- TEMP_AGE_EXPIRY (R217). -/
def State.tempAge (s : State) (i : Nat) : State :=
  match s.node i with
  | none => s
  | some x =>
    if s.past (x.tempAt + s.get F.LGT_COMP_TEMP_AGE * 1000000000) then s.setNode i { x with tempStale := true } else s

def execTempAgeExpiry (node : Nat) (s : State) : Res := s.act fun s => s.tempAge node

/-! ### The work of one frame -/

/-- The boundary that opens frame n: judgement of tags, effects, confirmed values, and the node image (R243, R254, R255). A Follower's
plane is the Lead's, which the state copy brings (R250): it makes no tag effective. -/
def State.lightBoundary (s : State) (onTime : Bool) : State :=
  if !s.light.running then s
  else
    let s := if s.role = .follower then s else (s.judgeTags onTime s.num).confirmAll
    s.modLight fun l => { l with image := l.nodes, imageAt := s.mono }

/-- The frames of the switch-over gap had no LIGHT work that was on time: an OPEN tag that fell into them is DEFERRED (R250). -/
def State.planeTaken (s : State) : State :=
  s.modLight fun l => { l with tags := l.tags.map fun t => if t.st = .openT && decide (t.tag ≤ s.num) then { t with st := .deferred } else t }

/-- Unicast retractions that are not acknowledged by 0 µs of frame t − 1 are excluded (R241). -/
def State.excludeUnacked (s : State) : State :=
  s.light.nodes.foldl (fun s p =>
    let x := (s.node p.1).getD p.2
    let due := x.entries.filter (fun e => e.st = 3 && decide (e.tag ≤ s.num + 1))
    if due = [] then s
    else
      let s := s.setNode p.1 { x with entries := x.entries.map (fun e => if due.contains e then { e with st := 4 } else e) }
      s.modLight fun l => { l with excl := l.excl ++ due.map (fun e => ⟨false, x.assoc, x.radio, e.tag, e.ver⟩) }) s

/-- A staging loss that a node reported and that is unresolved at 0 µs of frame t − 1 (R257). -/
def State.lossWork (s : State) : State :=
  s.light.nodes.foldl (fun s p =>
    let x := (s.node p.1).getD p.2
    if x.lossTag = some (s.num + 1) then (s.setNode p.1 { x with lossTag := none }).catchUp p.1 else s) s

/-- The LIGHT work of frame n (R226, R230): recipe and zone changes, then staging, and what must be excluded. -/
def State.lightWork (s : State) : State :=
  if !s.light.running then s
  else ((s.recipeWork.zoneWork).lossWork.restage).excludeUnacked

/-- The table switch of a recipe load (R224). -/
def State.recipeSwitch (s : State) : State :=
  if !s.flag F.LGT_RCP_SWITCH_PENDING then s
  else
    let o := s.light.recipeBy
    let s := (s.put F.LGT_RCP_SWITCH_PENDING 0).put F.LGT_RCP_STATUS St.done
    let s := s.modLight fun l => { l with recipes := l.recipes2, recipes2 := [], recipeLoading := false, recipeBy := .quiet,
                                          nodes := l.nodes.map (fun p => (p.1, { p.2 with fbSent := false })) }
    s.finish o St.done []

/-- A selection that is removed before its commit point leaves no trace (R638): the group's configuration is as before it, unless it was
written since, and its recipe layer is decided again. -/
def State.unselect (s : State) (c : LayerChange) : State :=
  match c.kind, c.old with
  | .recipeSelect g r, some q =>
    let later := fun (d : LayerChange) => d.old.isSome && decide (c.tag ≤ d.tag) && (match d.kind with | .recipeSelect h _ => h = g | _ => false)
    let s :=
      if s.light.changes.any later then
        s.modLight fun l => { l with changes := l.changes.map fun d => if later d && d.old = some (r, 1) then { d with old := some q } else d }
      else if s.get (F.LGT_GRP_CFG_RECIPE.at g) = r && s.flag (F.LGT_GRP_CFG_RECIPE_EN.at g) then
        (s.put (F.LGT_GRP_CFG_RECIPE.at g) q.1).put (F.LGT_GRP_CFG_RECIPE_EN.at g) q.2
      else s
    let s := s.modLight fun l => { l with changes := l.changes.filter fun d => match d.kind with
      | .recipeTarget h _ => !(h = g && decide (c.tag ≤ d.tag))
      | _ => true }
    s.recipeGroup true g
  | _, _ => s

/-- A change that an abort reaches (R229): removed before its cut-off. -/
def State.abortLight (s : State) (o : Origin) : Option (State × Nat) :=
  match s.light.changes.find? (fun c => c.by_ = o) with
  | none => none
  | some c =>
    if s.tagCut c.tag then some (s, St.abortLate)
    else
      let s := (s.modLight fun l => { l with changes := l.changes.filter (fun x => x.by_ ≠ o) }).unselect c
      some ((s.finish o St.aborted []).restageFrom (some (c.tag - 1)), St.aborted)

/-! ### Windows of the LGT block (R213, R254) -/

/-- LGT_NSEL (R254). -/
def State.selNode (s : State) (rk w : Nat) : State :=
  let i := bits w 11 0
  let s := s.put F.LGT_NSEL_NODE i
  s.setLatch Win.node rk (match SMap.get? s.light.image i with
    | some x => nodeImage s x
    | none => List.replicate 32 0)

def execLgtNsel (who : Requester) (w : Word) (s : State) : Res :=
  s.act fun s => s.gate who 1 fun s => (s.selNode who.key w.toNat).reply who St.done

/-- LGT_SSEL (R254). -/
def State.selStaging (s : State) (rk w : Nat) : State :=
  let i := bits w 11 0
  let s := s.put F.LGT_SSEL_NODE i
  s.setLatch Win.staging rk (match SMap.get? s.light.image i with
    | some x => stagingView x
    | none => List.replicate 40 0)

def execLgtSsel (who : Requester) (w : Word) (s : State) : Res :=
  s.act fun s => s.gate who 1 fun s => (s.selStaging who.key w.toNat).reply who St.done

/-- LGT_CSEL with WRITE = 1 (R213): the record in the requester's LGT_CWIN is validated and stored; it goes to the node. -/
def State.calStore (s : State) (rk w : Nat) : State × Nat :=
  let i := bits w 11 0
  let rec_ := s.latched Win.cal rk
  match s.node i with
  | none => (s.put F.LGT_CSTAT_STATUS St.calInvalid, St.nodeEmpty)
  | some x =>
    if calOk rec_ then
      (((s.setNode i { x with cal := rec_, nocal := false, newCal := true, calSend := true }).put F.LGT_CSEL_NODE i).put
        F.LGT_CSTAT_STATUS St.done, St.done)
    else (s.put F.LGT_CSTAT_STATUS St.calInvalid, St.calInvalid)

/-- LGT_CSEL with WRITE = 0: the stored record goes to LGT_CWIN. -/
def State.calLoad (s : State) (rk w : Nat) : State :=
  let i := bits w 11 0
  let s := s.put F.LGT_CSEL_NODE i
  s.setLatch Win.cal rk (match s.node i with
    | some x => if x.cal = [] then List.replicate 32 0 else x.cal
    | none => List.replicate 32 0)

def execCalStore (who : Requester) (w : Word) (s : State) : Res :=
  s.act fun s => s.gate who 1 fun s => let (s, st) := s.calStore who.key w.toNat; s.reply who st
def execCalLoad (who : Requester) (w : Word) (s : State) : Res :=
  s.act fun s => s.gate who 1 fun s => (s.calLoad who.key w.toNat).reply who St.done

end Sys2Proof.Machine
end

