-- ==== Sys2Proof/Machine/Drive.lean ====
section
/-!
DEFINITION. Local drive (chapter 07, R308 to R319): lamp-board temperature inputs, PWM duties, string judgement, and the
neighbouring-pin test.
-/
namespace Sys2Proof.Machine

/-! ### Data areas and their keys (Table 04.2) -/

/-- A committed element of an area. -/
def State.area (s : State) (a off : Nat) : Nat := SMap.getD s.prog.areas (areaKey a off) 0
/-- An element of the input image. -/
def State.input (s : State) (a off : Nat) : Nat := SMap.getD s.prog.inputs (areaKey a off) 0

/-! ### Lamp-board temperature inputs (R316) -/

/-- Resistance of a PT1000 at t/16 °C in units of mΩ/(65,536·10⁹), by IEC 60751 (log entry 30). -/
def ptRes (t : Int) : Int :=
  let s : Int := 65536 * 10 ^ 9
  1000000 * s + 39083 * t * (s / 160) - 5775 * t * t * (s / 2560000)
    - (if t < 0 then 4183 * (t - 1600) * t * t * t else 0)

/-- The greatest t in sixteenths whose resistance is at most r mΩ, by bisection on −1,024 to 3,071. -/
def ptFind (r : Int) : Nat → Int → Int
  | 0, t => t
  | n + 1, t => let t' := t + 2 ^ n; ptFind r n (if ptRes t' ≤ r * (65536 * 10 ^ 9) then t' else t)
def ptTemp (r : Nat) : Int :=
  let t := ptFind r 12 (-1024)
  let x : Int := r * (65536 * 10 ^ 9)
  if ptRes (t + 1) - x < x - ptRes t then t + 1 else t

/-- Bits of the binary logarithm of a number in [1, 2), in units of 2⁻⁴⁰. -/
def log2Bits : Nat → Nat → Nat → Nat
  | 0, _, acc => acc
  | n + 1, x, acc =>
    let y := x * x / 2 ^ 60
    if 2 ^ 61 ≤ y then log2Bits n (y / 2) (2 * acc + 1) else log2Bits n y (2 * acc)
/-- ln(a/b) in units of 2⁻⁴⁰ for positive a, b. -/
def lnRatio (a b : Nat) : Int :=
  let x := a * 2 ^ 60 / b
  let e : Int := (Nat.log2 x : Int) - 60
  let m := if 0 ≤ e then x / 2 ^ e.toNat else x * 2 ^ (-e).toNat
  rdiv ((e * 2 ^ 40 + log2Bits 40 m 0) * 762123384786) (2 ^ 40)

/-- Temperature of an NTC in sixteenths of a °C: 1/T = 1/298.15 + ln(R/R₂₅)/B. -/
def ntcTemp (r nom beta : Nat) : Int :=
  if r = 0 then 2561
  else
    -- T in K = B·298.15 / (B + 298.15·ln)
    let den : Int := (beta : Int) * 100 * 2 ^ 40 + 29815 * lnRatio r (nom * 1000)
    if den ≤ 0 then 2561 else rdiv (16 * (beta : Int) * 29815 * 2 ^ 40) den - rdiv (27315 * 16) 100

/-- The state and the temperature of an input of resistance r mΩ (R316). STATE: 0 OK, 1 open, 2 short, 3 off. -/
def lbtConvert (typ r nom beta : Nat) : Nat × Int :=
  match typ with
  | 1 => let t := ptTemp r; if 2560 < t then (1, t) else if t < -880 then (2, t) else (0, t)
  | 2 => let t := ntcTemp r nom beta; if t < -880 then (1, t) else if 2560 < t then (2, t) else (0, t)
  | _ => (3, 0)

/-- The conversion of one input, and what it gives the slot bound to it (R311). -/
def State.lbtInput (s : State) (b r : Nat) : State :=
  let (st, t) := lbtConvert (if s.bad 9 b then 0 else s.get (F.DRV_LBT_CFG_TYPE.at b)) r (s.get (F.DRV_LBT_PAR_NOMRES.at b)) (s.get (F.DRV_LBT_PAR_BETA.at b))
  let t := clampI (-800) 2400 (t + s.getI (F.DRV_LBT_CFG_OFFSET.at b))
  let s := s.put (F.DRV_LBT_VAL_STATE.at b) st
  let s := if st = 0 then s.putI (F.DRV_LBT_VAL_TEMP.at b) t else s
  (List.range 8).foldl (fun s l =>
    if s.flag (F.DRV_LUM_CFG_EN.at l) && s.get (F.DRV_LUM_CFG_LBT.at l) = b then
      s.modNode (s.get (F.DRV_LUM_CFG_SLOT.at l)) fun x =>
        if st = 0 then { x with tboard := ofInt 16 t, tempStale := false, tempEver := true, tempAt := s.mono, online := true }
        else { x with tempStale := true, online := true }
    else s) s

/-- Every LBT input is converted once per frame; an input that nothing drives reads as open. -/
def State.lbtWork (s : State) (l : List Nat) : State :=
  (List.range 8).foldl (fun s b => s.lbtInput b (l.getD b (10 ^ 12))) s

/-! ### PWM (R308 to R314) -/

/-- The period in clocks of 2.5 ns (R308), and whether a frequency is accepted. -/
def pwmPeriod (freq : Nat) : Nat := (2 * 400000000 + freq) / (2 * freq)
def pwmFreqOk (freq : Nat) : Bool :=
  decide (500 ≤ freq) && decide (freq ≤ 40000) && decide (4000000 % pwmPeriod freq = 0)

def State.pwm (s : State) (c : Nat) : Pwm := SMap.getD s.drv.pwm c {}
def State.setPwm (s : State) (c : Nat) (x : Pwm) : State := s.modDrv fun d => { d with pwm := SMap.insert d.pwm c x }

def State.period (s : State) : Nat := pwmPeriod (s.get F.DRV_PWMCFG_FREQ)
/-- The clocks by which the periods of output c begin later. -/
def State.stagger (s : State) (c : Nat) : Nat := if s.flag F.DRV_PWMCFG_STAGGER then c * s.period / 32 else 0

/-- The on-time of one period and the remainder carried (R309). -/
def pwmStep (d p acc : Nat) : Nat × Nat := ((d * p + acc) / 65535, (d * p + acc) % 65535)

/-- Account the periods of output c that began before a clock of the frame, at the duty applied (R309, R310). -/
def State.pwmAccount (s : State) (c clk : Nat) : State :=
  let x := s.pwm c
  let p := s.period
  let g := s.stagger c
  let n := if clk ≤ g then 0 else (clk - g - 1) / p + 1
  let d := s.get (F.DRV_CH_STAT_DUTY.at c)
  if d = 0 && x.acc = 0 then (if n = x.done then s else s.setPwm c { x with done := n })
  else s.setPwm c { x with acc := (x.acc + (n - x.done) * d * p) % 65535, done := n }

/-- Put the duty of output c into effect: the periods so far are accounted first, and a change is shown outside. -/
def State.setDuty (s : State) (c d : Nat) : State :=
  if s.get (F.DRV_CH_STAT_DUTY.at c) = d then s
  else
    let s := s.pwmAccount c ((s.frame.off * 2 + 4) / 5)
    let s := s.put (F.DRV_CH_STAT_DUTY.at c) d
    let x := s.pwm c
    (s.setPwm c { x with dutyMin := min x.dutyMin d }).emit .pwmDuty [(c : Int), d]

/-- The local luminaire of a channel, its slot, and the node of that slot when it is bound. -/
def State.chLum (s : State) (c : Nat) : Nat := s.get (F.DRV_CH_CFG_LUM.at c)
def State.chSlot (s : State) (c : Nat) : Nat := s.get (F.DRV_LUM_CFG_SLOT.at (s.chLum c))
def State.chNode (s : State) (c : Nat) : Option Node :=
  if s.flag (F.DRV_LUM_CFG_EN.at (s.chLum c)) then s.node (s.chSlot c) else none

/-- The gain of the frame boundary for program- and loop-sourced channels (R312). -/
def State.pwmGain (s : State) (c : Nat) : State :=
  let src := s.get (F.DRV_CH_CFG_SRC.at c)
  if !s.flag (F.DRV_CH_CFG_EN.at c) || src < 2 then s
  else
    let l := s.chLum c
    let k := s.get (F.DRV_CH_CFG_CH.at c)
    let b := s.get (F.DRV_LUM_CFG_LBT.at l)
    let ok := s.get (F.DRV_LBT_VAL_STATE.at b) = 0
    let s := s.putB (F.DRV_CH_STAT_TEMP_STALE.at c) (!ok)
    let (g, lm) := match s.chNode c with
      | some x =>
        let dt := if ok then s.getI (F.DRV_LBT_VAL_TEMP.at b) - calTRef x.cal else 0
        if x.fit k then ((x.gainAt dt k).1, x.lmax k) else (0, 0)
      | none => (65536, 65535)
    s.setPwm c { s.pwm c with gain := g, lmax := lm }

/-- The drive of a channel and its saturation, by its source (R312). -/
def State.pwmDrive (s : State) (c : Nat) : Nat × Bool :=
  let x := s.pwm c
  match s.get (F.DRV_CH_CFG_SRC.at c) with
  | 0 => (0, false)
  | 1 =>
    let slot := s.chSlot c
    let k := s.get (F.DRV_CH_CFG_CH.at c)
    match s.chNode c with
    | some y => ((s.fadeOf slot k).now s.num, bit y.sat k)
    | none => (0, false)
  | 2 => driveOf (s.area 4 (s.get (F.DRV_CH_CFG_QWI.at c)) % 65536) x.gain x.lmax
  | _ => driveOf x.tgt x.gain x.lmax

/-- The duty of a channel in the mode in force (R313, R314, R106). -/
def State.pwmDuty (s : State) (c : Nat) : Nat :=
  let src := s.get (F.DRV_CH_CFG_SRC.at c)
  if !s.live || !s.flag F.DRV_STAT_START_DONE || !s.flag (F.DRV_CH_CFG_EN.at c)
      || bit (s.get F.DRV_SHORT_PWM_LANDS) c then 0
  else match s.mode with
    | .recovery | .shadow => 0
    | .basic => s.get (F.DRV_CH_VAL_FBDUTY.at c)
    | .stop =>
      if !s.flag (F.DRV_CH_CFG_STOPSEL.at c) then s.get (F.DRV_CH_VAL_STOPVAL.at c)
      else match src with
        | 0 => 0
        | 1 => (s.pwmDrive c).1
        | _ => s.get (F.DRV_CH_VAL_STOPVAL.at c)
    | .run | .hold => (s.pwmDrive c).1 * s.get (F.DRV_LUM_STAT_DIM.at (s.chLum c)) / 65535

/-- Every output follows its source. -/
def State.pwmUpdate (s : State) : State :=
  (List.range 32).foldl (fun s c =>
    if !s.flag (F.DRV_CH_CFG_EN.at c) && s.get (F.DRV_CH_STAT_DUTY.at c) = 0 then s
    else
      let s := s.setDuty c (s.pwmDuty c)
      let s := s.putB (F.DRV_CH_STAT_SAT.at c) (s.pwmDrive c).2
      s.putB (F.DRV_CH_STAT_DIMMED.at c) (decide (s.get (F.DRV_LUM_STAT_DIM.at (s.chLum c)) < 65535))) s

/-! ### String sense (R315) -/

/-- A conversion of a string-sense input in a loop tick: 12 bits over 1.2 V, taken only when the on-time is 2 µs or more. -/
def State.senseSample (s : State) (c code : Nat) : State :=
  let x := s.pwm c
  let on := (pwmStep (s.get (F.DRV_CH_STAT_DUTY.at c)) s.period x.acc).1
  if on < 800 then s
  else
    let mv := code * 1200 * s.get (F.DRV_CH_SNS_SCALE.at c) / (4096 * 64)
    let s := s.put (F.DRV_CH_STAT_VSTR.at c) (min 255 (mv / 250))
    s.setPwm c { x with samples := x.samples ++ [mv], lastMv := mv, sampleAt := s.mono }

/-- What a string state does to the bound slot (Table 05.10). -/
def State.stringState (s : State) (c st : Nat) : State :=
  let old := s.get (F.DRV_CH_STAT_SSTATE.at c)
  if old = st then s
  else
    let s := s.put (F.DRV_CH_STAT_SSTATE.at c) st
    match s.chNode c with
    | none => s
    | some x =>
      let k := s.get (F.DRV_CH_CFG_CH.at c)
      let i := s.chSlot c
      let ss := x.sstate - bits x.sstate (2 * k + 1) (2 * k) * 4 ^ k + st * 4 ^ k
      let shorted := s.flag (F.DRV_CH_STAT_SHORTED.at c)
      let s := s.setNode i { x with sstate := ss, excl := withBit x.excl k (decide (st = 1 || st = 2) || shorted) }
      let f := F.DRV_CH_STAT_SSTATE.at c
      -- a string that goes from one fault to the other clears the first
      let s := if old = 1 || old = 2 then s.log Sev.info 1 f (leBytes 2 i ++ leBytes 4 (8 * (old - 1) + k)) else s
      match st with
      | 1 => s.log Sev.warning 0 f (leBytes 2 i ++ leBytes 4 k)
      | 2 => s.log Sev.error 0 f (leBytes 2 i ++ leBytes 4 (8 + k))
      | _ => s

/-- The judgement of one channel over the frame that ended. -/
def State.judgeString (s : State) (c : Nat) : State :=
  let x := s.pwm c
  let y := { x with samples := [], sampled := decide (x.samples ≠ []) }
  let shortedSns := bit (s.get F.DRV_SHORT_SNS_LANDS) c
  let s := match s.chNode c with
    | some n =>
      let k := s.get (F.DRV_CH_CFG_CH.at c)
      s.setNode (s.chSlot c) { n with
        vstr := setAt ((n.vstr ++ List.replicate 8 0).take 8) k (s.get (F.DRV_CH_STAT_VSTR.at c)) }
    | none => s
  if x.dutyMin < 4096 || x.samples = [] || shortedSns then s.setPwm c y
  else
    let vo := 250 * s.get (F.DRV_CH_SNS_VOPEN.at c)
    let vs := 250 * s.get (F.DRV_CH_SNS_VSHORT.at c)
    let op := x.samples.all (fun v => decide (vo < v))
    let sh := x.samples.all (fun v => decide (v < vs))
    let y := { y with openRun := if op then min 3 (x.openRun + 1) else 0, shortRun := if sh then min 3 (x.shortRun + 1) else 0,
                      okRun := if op || sh then 0 else min 3 (x.okRun + 1) }
    let s := s.setPwm c y
    if y.openRun = 3 then s.stringState c 1 else if y.shortRun = 3 then s.stringState c 2
    else if y.okRun = 3 then s.stringState c 0 else s

def State.judgeStrings (s : State) : State :=
  (List.range 32).foldl (fun s c => if s.flag (F.DRV_CH_CFG_EN.at c) && !s.bad 8 c then s.judgeString c else s) s

/-- What the local drive does at a frame boundary, after the effect boundary and the commit: the frame's periods are closed,
gains and fades move, strings are judged. -/
def State.driveFrame (s : State) (lbt : List Nat) : State :=
  let s := s.lbtWork lbt
  let s := s.judgeStrings
  let s := ((List.range 32).foldl (fun s c => s.pwmGain c) s).pwmUpdate
  -- the duties that hold from the boundary on are where the frame's judgement starts
  s.modDrv fun d => { d with pwm := d.pwm.map fun p => (p.1, { p.2 with dutyMin := s.get (F.DRV_CH_STAT_DUTY.at p.1) }) }

/-- The periods of the frame that ends are accounted, and the count starts again (R308, R309); a transitional frame has its own length. -/
def State.pwmEndFrame (s : State) : State :=
  s.drv.pwm.foldl (fun s p =>
    let s := s.pwmAccount p.1 (((s.frameEnd - s.frame.start) * 2 + 4) / 5)
    s.setPwm p.1 { s.pwm p.1 with done := 0 }) s

/-! ### The neighbouring-pin test (R317 to R319) -/

/-- A pass begins. -/
def State.startPass (s : State) : State :=
  s.modDrv fun d => { d with passOn := true, passLand := 0, passPairs := [], passBy := d.passWait, passWait := [], passAt := s.mono }

/-- DRV lands that stand side by side in the land grid (R613): PWM lands in rows K and M, sense lands in rows L and N, columns 3 to 18. Lands are
numbered as a pass tests them. -/
def landNeighbours (a b : Nat) : Bool :=
  let row := fun (l : Nat) => if l < 32 then 2 * (l / 16) else 2 * ((l - 32) / 16) + 1
  let near := fun (x y : Nat) => decide (x + 1 = y) || decide (y + 1 = x)
  decide (a < 64) && decide (b < 64) && ((row a = row b && near (a % 16) (b % 16)) || (near (row a) (row b) && a % 16 = b % 16))

def pairMask (ps : List (Nat × Nat)) (base : Nat) : Nat :=
  sumN ((List.range 32).map (fun c => 2 ^ c * b2n (ps.any (fun p => p.1 = base + c || p.2 = base + c))))

/-- The pair in ascending order. -/
def orderPair (a b : Nat) : Nat × Nat := if a ≤ b then (a, b) else (b, a)

/-- Neighbouring colour channels of one bound slot that a pair of PWM lands shorts together: the slot and the lower channel. -/
def State.pairChannels (s : State) (p : Nat × Nat) : Option (Nat × Nat) :=
  if 32 ≤ p.1 || 32 ≤ p.2 then none
  else if s.chLum p.1 ≠ s.chLum p.2 || (s.chNode p.1).isNone then none
  else
    let a := s.get (F.DRV_CH_CFG_CH.at p.1)
    let b := s.get (F.DRV_CH_CFG_CH.at p.2)
    if a + 1 = b then some (s.chSlot p.1, a) else if b + 1 = a then some (s.chSlot p.1, b) else none

/-- A pass ends (R318). -/
def State.endPass (s : State) : State :=
  let ps := s.drv.passPairs
  let old := s.drv.oldPairs
  let was := fun c => bit (s.get F.DRV_SHORT_PWM_LANDS) c || bit (s.get F.DRV_SHORT_SNS_LANDS) c
  let wasL := (List.range 32).filter was
  let s := (s.put F.DRV_SHORT_PWM_LANDS (pairMask ps 0)).put F.DRV_SHORT_SNS_LANDS (pairMask ps 32)
  let is := fun c => bit (s.get F.DRV_SHORT_PWM_LANDS) c || bit (s.get F.DRV_SHORT_SNS_LANDS) c
  let s := (List.range 32).foldl (fun s c =>
    let s := s.putB (F.DRV_CH_STAT_SHORTED.at c) (is c)
    if is c then match s.chNode c with
      | some x => s.setNode (s.chSlot c) { x with excl := withBit x.excl (s.get (F.DRV_CH_CFG_CH.at c)) true }
      | none => s
    else if wasL.contains c then
      let s := match s.chNode c with
        | some x =>
          let st := s.get (F.DRV_CH_STAT_SSTATE.at c)
          s.setNode (s.chSlot c) { x with excl := withBit x.excl (s.get (F.DRV_CH_CFG_CH.at c)) (decide (st = 1 || st = 2)) }
        | none => s
      s.log Sev.info 1 (F.DRV_CH_STAT_SHORTED.at c) []
    else s) s
  let s := (List.range 8).foldl (fun s l =>
    if s.flag (F.DRV_LUM_CFG_EN.at l) then
      let slot := s.get (F.DRV_LUM_CFG_SLOT.at l)
      let ks := (ps.filterMap s.pairChannels).filter (fun q => q.1 = slot)
      s.modNode slot fun x => { x with nshort := sumN ((List.range 7).map (fun k => 2 ^ k * b2n (ks.any (fun q => q.2 = k)))) }
    else s) s
  let s := (ps.filter (fun p => !old.contains p)).foldl (fun s p =>
    s.log Sev.error 0 (if 32 ≤ p.1 then F.DRV_SHORT_SNS_LANDS else F.DRV_SHORT_PWM_LANDS) []) s
  let os := s.drv.passBy
  let s := (s.inc F.DRV_STAT_PASSES).put F.DRV_STAT_START_DONE 1
  let s := s.modDrv fun d => { d with passOn := false, passLand := 0, passPairs := [], oldPairs := ps, passBy := [] }
  let s := os.foldl (fun s o => s.finish o St.done [s.get F.DRV_SHORT_PWM_LANDS, s.get F.DRV_SHORT_SNS_LANDS]) s
  let s := if s.drv.passWait = [] then s else s.startPass
  s.pwmUpdate

/-- The modes in which passes run. -/
def State.passMode (s : State) : Bool :=
  s.live && (s.mode = .stop || s.mode = .run || s.mode = .hold || s.mode = .basic)

/-- One test slot, one in a frame: the neighbours that read as shorted to the land under test. -/
def State.testSlot (s : State) (shorted : List Nat) : State :=
  let shorted := shorted.filter (landNeighbours s.drv.passLand)
  if !s.drv.passOn || !s.passMode || s.drv.slotAt = some s.num || 8800000 < s.frame.off then s
  else
    let s := s.atNs 8800000
    let land := s.drv.passLand
    let ps := shorted.foldl (fun l x => let p := orderPair land x; if l.contains p then l else l ++ [p]) s.drv.passPairs
    let s := s.modDrv fun d => { d with passPairs := ps, passLand := land + 1, slotAt := some s.num }
    let s := s.emit .shortTest [(land : Int)]
    if land = 63 then s.endPass else s

def execShortTestSlot (shorted : List Nat) (s : State) : Res := s.act fun s => s.testSlot shorted

/-- SHORT_PASS_START (R319): the pass at start-up, and one every EVERY seconds. -/
def State.passDue (s : State) : State :=
  let every := s.get F.DRV_SHORTCFG_EVERY
  if s.drv.passOn then s
  else if s.passMode && (s.drv.startPass || (decide (every ≠ 0) && decide (every * 1000000000 ≤ s.mono - s.drv.passAt))) then
    s.startPass.modDrv fun d => { d with startPass := false }
  else s

def execShortPassStart (s : State) : Res := s.act fun s => s.passDue

/-- DRV_SHORT_CMD.GO (R319). -/
def State.shortGo (s : State) : State × Nat := if s.drv.passOn then (s, St.busy) else (s.startPass, St.done)

def execShortCmdGo (who : Requester) (s : State) : Res :=
  s.act fun s => s.gate who 1 fun s => let (s, st) := s.shortGo; s.reply who st

/-- DRV.SHORT_TEST (R319): the results of the first pass that starts after its issue. -/
def svcShortTest (s : State) (o : Origin) (_a : SvcArgs) : SvcRes :=
  let s := s.modDrv fun d => { d with passWait := d.passWait ++ [o] }
  (if s.drv.passOn then s else s.startPass, St.pending, [])

end Sys2Proof.Machine
end

