-- ==== Sys2Proof/Machine/Logic.lean ====
section
/-!
DEFINITION. The Holiravex logic set (chapter 04): data areas as a section sees them, operands, flags, and the meaning of every
opcode.
-/
namespace Sys2Proof.Machine

/-! ### Data areas (R122 to R125, R160, R173 to R178) -/

namespace Area
def i : Nat := 0
def q : Nat := 1
def m : Nat := 2
def iw : Nat := 3
def qw : Nat := 4
def d : Nat := 5
def k : Nat := 6
def t : Nat := 7
def c : Nat := 8
def s : Nat := 9
def l : Nat := 10
def n : Nat := 11
def f : Nat := 12
def e : Nat := 13
def x : Nat := 14
end Area

/-- Elements of an area (Table 04.2). -/
def areaSize : Nat → Nat
  | 0 => 32768 | 1 => 32768 | 2 => 65536 | 3 => 8192 | 4 => 8192 | 5 => 262144 | 6 => 65536 | 7 => 4096 | 8 => 2048
  | 9 => 4096 | 10 => 4096 | 11 => 131072 | 12 => 16384 | 13 => 4096 | 14 => 16384 | _ => 0

/-- The areas that lie in the Gallery (R176). -/
def galArea (area : Nat) : Bool := area = 5 || area = 11 || area = 12 || area = 13

/-- First word of the exchange areas (R125). -/
def exchBase : Nat := 0x3C000

/-- A section of the program in force. -/
def State.hasSect (s : State) (k : Nat) : Bool := (s.sect k).st ≠ .absent

/-- The section that owns an element of Q, QW, M, D, T or C (R122, R125). -/
def State.ownerOf (s : State) (area off : Nat) : Option Nat :=
  if area = 5 && decide (exchBase ≤ off) then some ((off - exchBase) / 0x1000)
  else match s.prog.pkg with
    | none => none
    | some p => (p.owns.find? (fun r => r.area = area && decide (r.first ≤ off) && decide (off < r.first + r.count))).map
        OwnRange.sect

/-- The symbol with an identity, in the program in force. -/
def State.symbol (s : State) (id : Nat) : Option Symbol :=
  match s.prog.pkg with
  | none => none
  | some p => p.symbols.find? (fun y => y.id = id)

/-- The forced value of an element (R160). -/
def State.forcedAt (s : State) (area off : Nat) : Option Nat :=
  (s.prog.forces.find? (fun f => match s.symbol f.sym with
    | some y => y.area = area && y.off = off
    | none => false)).map Force.value

/-- An access that R123 refuses is counted; the first in a cycle, of any section, writes a Warning record. -/
def State.foreignAccess (s : State) (k : Nat) : State :=
  let first := !s.prog.sects.any (·.foreign)
  let s := (s.inc (F.PLX_SECT_FOREIGN_COUNT.at k)).modSect k fun x => { x with foreign := true }
  if first then s.log Sev.warning 2 (F.PLX_SECT_FOREIGN_COUNT.at k) [] else s

/-- An access beyond the area (R178). -/
def State.rangeAccess (s : State) (k : Nat) : State :=
  s.modSect k fun x => { x with range := min 65535 (x.range + 1), rangeTot := min 65535 (x.rangeTot + 1) }

def State.committed (s : State) (area off : Nat) : Nat := SMap.getD s.prog.areas (areaKey area off) 0
def State.working (s : State) (k area off : Nat) : Nat :=
  (SMap.get? (s.sect k).work (areaKey area off)).getD ((SMap.get? s.prog.under (areaKey area off)).getD (s.committed area off))

def State.timerOf (s : State) (k i : Nat) : Timer := (SMap.get? (s.sect k).wT i).getD (SMap.getD s.prog.timers i {})
def State.counterOf (s : State) (k i : Nat) : Counter := (SMap.get? (s.sect k).wC i).getD (SMap.getD s.prog.counters i {})

/-- The status word of a slot, as the last input latch wrote it (R202). -/
def Slot.word (x : Slot) : Nat := x.shown
def State.sysWord (s : State) (off : Nat) : Nat :=
  if 1024 ≤ off && off < 2048 && off % 256 ≠ 255 then (SMap.getD (s.sect (off / 256 - 4)).slots (off % 256) {}).word
  else SMap.getD s.prog.inputs (areaKey 9 off) 0

/-- Read one element as section k sees it: a bit, or a word (R123 to R125, R160, R174, R178). -/
def State.readElem (s : State) (k : Nat) (word : Bool) (area off : Nat) : State × Nat :=
  if areaSize area ≤ off then (s.rangeAccess k, 0)
  else if area = 0 || area = 3 || area = 11 || area = 12 || area = 13 then (s, SMap.getD s.prog.inputs (areaKey area off) 0)
  else if area = 6 then (s, s.committed area off)
  else if area = 9 then (s, s.sysWord off)
  else if area = 10 then (s, SMap.getD (s.sect k).scratch off 0)
  else if area = 14 then (s, SMap.getD (s.sect k).xblk off 0)
  else
    let own := s.ownerOf area off
    if own = some k then
      if area = 7 then
        match s.forcedAt area off with
        | some v => (s, if word then v else b2n (decide (v ≠ 0)))
        | none => (s, if word then (s.timerOf k off).et else b2n (s.timerOf k off).q)
      else if area = 8 then
        match s.forcedAt area off with
        | some v => (s, if word then v else b2n (decide (v ≠ 0)))
        | none => (s, if word then (s.counterOf k off).cv.toNat else b2n (s.counterOf k off).done)
      else if area = 2 || area = 5 then (s, (s.forcedAt area off).getD (s.working k area off))
      else (s, s.working k area off)
    else if area = 1 || area = 4 then
      (if own.isNone then s.foreignAccess k else s, s.committed area off)
    else if area = 5 && decide (exchBase ≤ off) then
      (s, match own with
        | some o => if s.hasSect o then s.committed area off else 0
        | none => 0)
    else (s.foreignAccess k, 0)

/-- Write one element as section k may (R122, R123, R160, R178). -/
def State.writeElem (s : State) (k area off v : Nat) : State :=
  if areaSize area ≤ off then s.rangeAccess k
  else if area = 10 then s.modSect k fun x => { x with scratch := SMap.put 0 x.scratch off v }
  else if s.ownerOf area off ≠ some k then s.foreignAccess k
  else if (area = 2 || area = 5) && (s.forcedAt area off).isSome then s
  else s.modSect k fun x => { x with work := SMap.insert x.work (areaKey area off) v }

/-! ### Instruction words and operands (R177, Tables 04.3 and 04.4) -/

/-- The word of an instruction. -/
def opWord (opc mode opnd : Nat) : Nat := opc * 2 ^ 26 + mode * 2 ^ 24 + opnd

/-- The code of a section of the program in force. -/
def State.code (s : State) (k : Nat) : List Nat :=
  match s.prog.pkg with
  | some p => p.code.getD k []
  | none => []

/-- The area and offset of an operand in memory: direct, indexed, or through the link table. -/
def State.operand (s : State) (k mode opnd : Nat) : Option (Nat × Nat) :=
  match mode with
  | 0 => some (opnd / 2 ^ 20 % 16, opnd % 2 ^ 20)
  | 1 => some (opnd / 2 ^ 20 % 16, opnd % 2 ^ 20 + (s.sect k).xi)
  | 3 =>
    match s.prog.pkg with
    | none => none
    | some p => (s.symbol ((p.links.getD k []).getD opnd 0)).map (fun y => (y.area, y.off))
  | _ => none

/-- Add clocks to a section's account (Table 04.5). -/
def State.clocks (s : State) (k n : Nat) : State := s.modSect k fun x => { x with clk := x.clk + n }

/-- Section k reads the word from the Gallery: it lies within D, N, F or E, and in D it is one that k may read (R123, R125). -/
def State.readsGal (s : State) (k area off : Nat) : Bool :=
  galArea area && decide (off < areaSize area) && (area ≠ 5 || decide (exchBase ≤ off) || s.ownerOf 5 off = some k)

/-- Section k writes the word to the Gallery: a write that R123, R160 or R178 discards is none. -/
def State.writesGal (s : State) (k area off : Nat) : Bool :=
  area = 5 && decide (off < areaSize 5) && s.ownerOf 5 off = some k && (s.forcedAt 5 off).isNone

/-- The charge G of one word read or written, without its lottery wait: only words actually accessed are charged. -/
def State.chargeRead (s : State) (k area off : Nat) : State := if s.readsGal k area off then s.clocks k 2 else s
def State.chargeWrite (s : State) (k area off : Nat) : State := if s.writesGal k area off then s.clocks k 2 else s

/-- The lottery wait of the Gallery words that an instruction has accessed since `s`; none where it accessed none. -/
def State.waited (s t : State) (k wait : Nat) : State := if (s.sect k).clk < (t.sect k).clk then t.clocks k wait else t

/-- The bit of an operand. -/
def State.bitOp (s : State) (k mode opnd : Nat) : State × Bool :=
  match s.operand k mode opnd with
  | none => (s, false)
  | some (a, o) => let (s, v) := s.readElem k false a o; (s, decide (v % 2 = 1))

/-- The word of an operand; an immediate is sign-extended from 24 bits. -/
def State.wordOp (s : State) (k mode opnd wait : Nat) : State × Word :=
  if mode = 2 then (s, BitVec.ofInt 32 (toInt 24 opnd))
  else match s.operand k mode opnd with
    | none => (s, 0)
    | some (a, o) =>
      let (t, v) := s.readElem k true a o
      (s.waited (t.chargeRead k a o) k wait, BitVec.ofNat 32 v)

/-- Store to the operand. -/
def State.storeOp (s : State) (k mode opnd v : Nat) : State :=
  match s.operand k mode opnd with
  | none => s
  | some (a, o) => s.writeElem k a o v

/-! ### Issue of an instruction, and traps (R171, R194 to R197) -/

/-- A trap ends the section's execution for the cycle (R195, R196). -/
def State.trapAt (s : State) (k code pc : Nat) : State :=
  (s.modSect k fun x => { x with trap := some (code, pc), ended := true, pc := pc, endClk := x.clk }).vitTrigger (some 4) 5

/-- An enabled breakpoint stands at the section's instruction (R139). -/
def State.atBreak (s : State) (k : Nat) : Bool :=
  !(s.sect k).passBrk && (List.range 8).any (fun i => s.flag (F.PLX_BRK_EN.at2 k i)
    && decide (s.get (F.PLX_BRK_ADDR.at2 k i) = (s.sect k).pc))

/-- Execute what stands at a section's program counter: the counter moves on, then the instruction acts; beyond the last
instruction the section traps (R194). -/
def State.advance (s : State) (k : Nat) (f : State → State) : State :=
  let s := s.modSect k fun x => { x with pc := x.pc + 1, passBrk := false }
  let s := f s
  let x := s.sect k
  if !x.ended && decide ((s.code k).length ≤ x.pc) then s.trapAt k 5 x.pc else s

/-- A section executes an instruction: it runs in its window, and the word at its program counter is this instruction's. -/
def State.issue (s : State) (k opc mode opnd : Nat) (f : State → State) : State :=
  let x := s.sect k
  if s.live && decide (s.mode = .run) && decide (x.st = .executing) && !x.ended && !s.atBreak k
      && (s.code k)[x.pc]? = some (opWord opc mode opnd) then s.advance k f
  else s

/-- A trap at the instruction in progress. DESIGN CHOICE (log entry 104): the clocks of an instruction that traps are not charged. -/
def State.trapHere (s : State) (k code : Nat) : State := s.trapAt k code ((s.sect k).pc - 1)

/-! ### Flags and results (R180 to R183, R188) -/

def setWA (x : Sect) (v : Word) : Sect := { x with wa := v }
def setZN (x : Sect) (v : Word) : Sect := { x with z := decide (v = 0), n := v.msb }
def raiseOV (x : Sect) (b : Bool) : Sect := { x with ov := x.ov || b }

def minI32 : Int := -(2 ^ 31)
def maxI32 : Int := 2 ^ 31 - 1
def fitsI32 (z : Int) : Bool := decide (minI32 ≤ z) && decide (z ≤ maxI32)

/-- Arithmetic on WA: exact result, wrapped or clamped, with CY and OV (R181, R182, R188). -/
def arith (x : Sect) (z : Int) (sat cy : Bool) : Sect :=
  let v := BitVec.ofInt 32 (if sat then clampI minI32 maxI32 z else z)
  raiseOV { setZN (setWA x v) v with cy := cy } (!fitsI32 z)

def addFlags (x : Sect) (op : Word) (sat : Bool) : Sect :=
  arith x (x.wa.toInt + op.toInt) sat (decide (2 ^ 32 ≤ x.wa.toNat + op.toNat))
def subFlags (x : Sect) (op : Word) (sat : Bool) : Sect :=
  arith x (x.wa.toInt - op.toInt) sat (decide (x.wa.toNat < op.toNat))

/-- A compare: flags from the wrapped difference, borrow in CY; WA stays (R180, R181). -/
def compareFlags (x : Sect) (op : Word) (b : Bool) : Sect :=
  { setZN x (x.wa - op) with cy := decide (x.wa.toNat < op.toNat), ba := b }

def logicFlags (x : Sect) (v : Word) : Sect := setZN (setWA x v) v

/-! ### Bit instructions (R184, R185) -/

/-- A bit instruction that combines BA with its operand. -/
def State.bitInstr (s : State) (k mode opnd : Nat) (f : Bool → Bool → Bool) : State :=
  let (s, b) := s.bitOp k mode opnd
  (s.modSect k fun x => { x with ba := f x.ba b }).clocks k 1

/-- An instruction on the registers alone. -/
def State.regInstr (s : State) (k clk : Nat) (f : Sect → Sect) : State := (s.modSect k f).clocks k clk

def State.bopen (s : State) (k : Nat) : State :=
  if 16 ≤ (s.sect k).bs.length then s.trapHere k 1
  else s.regInstr k 1 fun x => { x with bs := x.ba :: x.bs }

def State.bclose (s : State) (k : Nat) (f : Bool → Bool → Bool) : State :=
  match (s.sect k).bs with
  | [] => s.trapHere k 2
  | b :: l => s.regInstr k 1 fun x => { x with ba := f b x.ba, bs := l }

/-- EDGP and EDGN: the operand is the edge memory. -/
def State.edge (s : State) (k mode opnd : Nat) (rising : Bool) : State :=
  let (s, m) := s.bitOp k mode opnd
  let ba := (s.sect k).ba
  let s := s.storeOp k mode opnd (b2n ba)
  s.regInstr k 2 fun x => { x with ba := if rising then ba && !m else m && !ba }

/-- ST, STN, SET and RST. -/
def State.bitStore (s : State) (k mode opnd : Nat) (v : Bool → Option Bool) : State :=
  (match v (s.sect k).ba with
   | some b => s.storeOp k mode opnd (b2n b)
   | none => s).clocks k 1

/-! ### Timers and counters (R186, R187) -/

/-- The preset of a timer: WA, and 0 when negative. -/
def timerPT (wa : Word) : Nat := if wa.msb then 0 else wa.toNat

def Timer.ton (t : Timer) (inp : Bool) (pt : Nat) : Timer :=
  let t := if !inp then { t with et := 0, rem := 0, running := false, q := false }
    else if !t.running then { t with running := true, et := 0, rem := 0, q := decide (pt = 0) }
    else { t with q := decide (pt ≤ t.et) }
  { t with prev := inp }

def Timer.tof (t : Timer) (inp : Bool) (pt : Nat) : Timer :=
  let t := if inp then { t with q := true, running := false, et := 0, rem := 0 }
    else if t.q && !t.running then { t with running := true, et := 0, rem := 0, q := decide (pt ≠ 0) }
    else if t.running && decide (pt ≤ t.et) then { t with q := false, running := false }
    else t
  { t with prev := inp }

def Timer.tp (t : Timer) (inp : Bool) (pt : Nat) : Timer :=
  let t := if inp && !t.prev && !t.q then { t with q := true, running := true, et := 0, rem := 0 } else t
  let t := if t.running && decide (pt ≤ t.et) then { t with q := false, running := false } else t
  let t := if !t.running && !inp then { t with et := 0, rem := 0 } else t
  { t with prev := inp }

/-- A timer instruction: on an element of its own; a forced element is left, and BA takes its forced done bit (R160). -/
def State.timerInstr (s : State) (k mode opnd : Nat) (f : Timer → Bool → Nat → Timer) : State :=
  match s.operand k mode opnd with
  | none => s
  | some (_, o) =>
    let x := s.sect k
    let pt := timerPT x.wa
    let s := if areaSize 7 ≤ o then (s.rangeAccess k).regInstr k 0 fun x => { x with ba := (f {} x.ba pt).q }
      else if s.ownerOf 7 o ≠ some k then (s.foreignAccess k).regInstr k 0 fun x => { x with ba := (f {} x.ba pt).q }
      else match s.forcedAt 7 o with
        | some v => s.regInstr k 0 fun x => { x with ba := decide (v ≠ 0) }
        | none =>
          let t := f (s.timerOf k o) x.ba pt
          s.regInstr k 0 fun x => { x with wT := SMap.insert x.wT o t, ba := t.q }
    s.clocks k 3

def Counter.up (c : Counter) (inp : Bool) (pv : Word) : Counter × Bool :=
  let rise := inp && !c.edge
  let held := rise && c.cv.toInt = maxI32
  let cv := if rise && !held then c.cv + 1 else c.cv
  ({ cv := cv, edge := inp, done := decide (pv.toInt ≤ cv.toInt) }, held)

def Counter.down (c : Counter) (inp : Bool) (_ : Word) : Counter × Bool :=
  let rise := inp && !c.edge
  let held := rise && c.cv.toInt = minI32
  let cv := if rise && !held then c.cv - 1 else c.cv
  ({ cv := cv, edge := inp, done := decide (cv.toInt ≤ 0) }, held)

/-- CTU and CTD: the count is held at its limit with OV; BA := done. -/
def State.counterInstr (s : State) (k mode opnd : Nat) (f : Counter → Bool → Word → Counter × Bool) : State :=
  match s.operand k mode opnd with
  | none => s
  | some (_, o) =>
    let x := s.sect k
    let s := if areaSize 8 ≤ o then (s.rangeAccess k).regInstr k 0 fun x => { x with ba := (f {} x.ba x.wa).1.done }
      else if s.ownerOf 8 o ≠ some k then (s.foreignAccess k).regInstr k 0 fun x => { x with ba := (f {} x.ba x.wa).1.done }
      else match s.forcedAt 8 o with
        | some v => s.regInstr k 0 fun x => { x with ba := decide (v ≠ 0) }
        | none =>
          let (c, held) := f (s.counterOf k o) x.ba x.wa
          s.regInstr k 0 fun x => raiseOV { x with wC := SMap.insert x.wC o c, ba := c.done } held
    s.clocks k 2

/-- CLD: the count follows WA when BA is 1; edge memory, done and BA stay. On a forced counter BA takes its forced done bit (R160). -/
def State.cld (s : State) (k mode opnd : Nat) : State :=
  match s.operand k mode opnd with
  | none => s
  | some (_, o) =>
    let x := s.sect k
    let mine := decide (o < areaSize 8) && s.ownerOf 8 o = some k
    let s := match (if mine then s.forcedAt 8 o else none) with
    | some v => s.modSect k fun x => { x with ba := decide (v ≠ 0) }
    | none =>
      if !x.ba then s
      else if areaSize 8 ≤ o then s.rangeAccess k
      else if !mine then s.foreignAccess k
      else
        let c := s.counterOf k o
        s.modSect k fun x => { x with wC := SMap.insert x.wC o { c with cv := x.wa } }
    s.clocks k 2

/-! ### Word instructions (R188 to R191) -/

/-- A word instruction on its operand. -/
def State.wordInstr (s : State) (k mode opnd wait clk : Nat) (f : Sect → Word → Sect) : State :=
  let (s, v) := s.wordOp k mode opnd wait
  (s.modSect k fun x => f x v).clocks k clk

/-- STW and STWC. -/
def State.wordStore (s : State) (k mode opnd wait : Nat) (cond : Bool) : State :=
  if cond && !(s.sect k).ba then s.clocks k 1
  else
    let s := match s.operand k mode opnd with
      | none => s
      | some (a, o) => s.waited ((s.writeElem k a o (s.sect k).wa.toNat).chargeWrite k a o) k wait
    s.clocks k 1

def mulRes (x : Sect) (op : Word) : Sect :=
  let p := x.wa.toInt * op.toInt
  let w := BitVec.ofInt 64 p
  raiseOV { x with
    wa := w.extractLsb' 0 32, wb := w.extractLsb' 32 32, z := decide (p = 0), n := decide (p < 0), cy := false } (!fitsI32 p)

def mulsRes (x : Sect) (op : Word) : Sect := arith x (x.wa.toInt * op.toInt) true false

def divRes (x : Sect) (op : Word) : Sect :=
  let a := x.wa.toInt
  let b := op.toInt
  if b = 0 then
    let v : Word := if 0 ≤ a then 0x7FFFFFFF else 0x80000000
    { setZN { x with wa := v, wb := 0 } v with cy := false, ov := true }
  else if a = minI32 ∧ b = -1 then
    { setZN { x with wa := 0x7FFFFFFF, wb := 0 } 0x7FFFFFFF with cy := false, ov := true }
  else
    let v := BitVec.ofInt 32 (Int.tdiv a b)
    { setZN { x with wa := v, wb := BitVec.ofInt 32 (Int.tmod a b) } v with cy := false }

/-- A shift by op[4:0]; CY is the last bit shifted out, 0 for a count of 0. -/
def shlRes (x : Sect) (op : Word) : Sect :=
  let n := op.toNat % 32
  let v := x.wa <<< n
  { logicFlags x v with cy := decide (n ≠ 0) && x.wa.getLsbD (32 - n) }
def shrRes (x : Sect) (op : Word) : Sect :=
  let n := op.toNat % 32
  let v := x.wa >>> n
  { logicFlags x v with cy := decide (n ≠ 0) && x.wa.getLsbD (n - 1) }

/-- What a table lookup finds (R190). -/
inductive TblRes where
  | malformed
  | clamped (y : Word)
  | between (z : Int)
  deriving DecidableEq, Repr

/-- Read word `w` of the table that starts at an operand, charging G. -/
def State.tblWord (s : State) (k area off w : Nat) : State × Word :=
  let (s, v) := s.readElem k true area (off + w)
  (s.chargeRead k area (off + w), BitVec.ofNat 32 v)

/-- The binary search of R190; `fuel` bounds its steps (n ≤ 256). -/
def State.tblSearch (s : State) (k area off : Nat) (x : Int) :
    Nat → Nat → Nat → Int → Int → State × Option (Nat × Nat × Int × Int)
  | 0, lo, hi, xl, xh => (s, some (lo, hi, xl, xh))
  | fuel + 1, lo, hi, xl, xh =>
    if hi - lo ≤ 1 then (s, some (lo, hi, xl, xh))
    else
      let mid := (lo + hi) / 2
      let (s, w) := s.tblWord k area off (1 + 2 * mid)
      let xm := w.toInt
      if xm ≤ xl || xh ≤ xm then (s, none)
      else if xm ≤ x then s.tblSearch k area off x fuel mid hi xm xh
      else s.tblSearch k area off x fuel lo mid xl xm

/-- The interpolated value: the product in 64 bits, the quotient truncated toward zero. DEDUCED (log entry 109): "64-bit" says that the
product of the two differences wraps at 64 bits, without which the result could not leave 32 bits. -/
def interpolate (ya yb x xa xb : Int) : Int := ya + Int.tdiv (toInt 64 (ofInt 64 ((yb - ya) * (x - xa)))) (xb - xa)

/-- The lookup, with the charge of the words it reads. -/
def State.tblLookup (s : State) (k area off : Nat) : State × Nat × TblRes :=
  let (s, nw) := s.tblWord k area off 0
  let n := nw.toNat
  if n < 2 || 256 < n then (s, n, .malformed)
  else
    let x := (s.sect k).wa.toInt
    let (s, w0) := s.tblWord k area off 1
    let x0 := w0.toInt
    if x ≤ x0 then
      let (s, y) := s.tblWord k area off 2
      (s, n, .clamped y)
    else
      let (s, wl) := s.tblWord k area off (1 + 2 * (n - 1))
      let xl := wl.toInt
      if xl ≤ x0 then (s, n, .malformed)
      else if xl ≤ x then
        let (s, y) := s.tblWord k area off (2 + 2 * (n - 1))
        (s, n, .clamped y)
      else
        match s.tblSearch k area off x 9 0 (n - 1) x0 xl with
        | (s, none) => (s, n, .malformed)
        | (s, some (lo, hi, xa, xb)) =>
          let (s, ya) := s.tblWord k area off (2 + 2 * lo)
          let (s, yb) := s.tblWord k area off (2 + 2 * hi)
          (s, n, .between (interpolate ya.toInt yb.toInt x xa xb))

/-- ceil(log2 n) of a 32-bit number; of 0 it has no value. -/
def clog2 (n : Nat) : Nat :=
  if n = 0 then Config.logOfZero else ((List.range 32).find? fun k => decide (n ≤ 2 ^ k)).getD 32

def State.tbl (s : State) (k mode opnd wait : Nat) : State :=
  match s.operand k mode opnd with
  | none => s
  | some (a, o) =>
    let (t, n, r) := s.tblLookup k a o
    let s := (s.waited t k wait).modSect k fun x => match r with
      | .malformed => { x with ov := true }
      | .clamped y => { setZN (setWA x y) y with cy := true }
      | .between z => arith x z true false
    s.clocks k (6 + 2 * clog2 n)

/-- Copy `n` words from an operand to D at XI, in ascending order. -/
def State.moveWords (s : State) (k area off xi : Nat) : Nat → State
  | 0 => s
  | n + 1 =>
    let (s, v) := s.readElem k true area off
    let s := (s.chargeRead k area off).writeElem k 5 xi v
    (s.chargeWrite k 5 xi).moveWords k area (off + 1) (xi + 1) n

/-- MOVB; a count outside 1–4,096 copies nothing, and no word is charged for it (DESIGN CHOICE, log entry 110). -/
def State.movb (s : State) (k mode opnd wait : Nat) : State :=
  let x := s.sect k
  let n := x.wb.toNat
  if n = 0 || 4096 < n then (s.rangeAccess k).clocks k 4
  else match s.operand k mode opnd with
    | none => s
    | some (a, o) => (s.waited (s.moveWords k a o x.xi n) k wait).clocks k (4 + n)

/-! ### Flow of control (R192 to R194) -/

def State.jump (s : State) (k target : Nat) (taken : Bool) : State :=
  s.regInstr k (if taken then 2 else 1) fun x => if taken then { x with pc := target } else x

def State.call (s : State) (k target : Nat) : State :=
  let x := s.sect k
  if 8 ≤ x.cs.length then s.trapHere k 3
  else s.regInstr k 2 fun x => { x with cs := x.pc :: x.cs, pc := target }

def State.ret (s : State) (k : Nat) : State :=
  match (s.sect k).cs with
  | [] => s.trapHere k 4
  | p :: l => s.regInstr k 2 fun x => { x with pc := p, cs := l }

def State.end_ (s : State) (k : Nat) : State :=
  (s.clocks k 1).modSect k fun x => { x with ended := true, endClk := x.clk }

/-! ### Service calls (R198 to R201, Table 04.8) -/

/-- The D words a service captures; none for a code that Table 04.9 does not list. -/
def svcD (code : Nat) : Option Nat :=
  match code with
  | 0x000001 | 0x000002 | 0x050001 | 0x050002 => some 0
  | 0x060001 | 0x060003 => some 8
  | 0x060002 | 0x060004 | 0x060005 | 0x060006 | 0x060007 | 0x060008 => some 0
  | 0x070001 | 0x070002 | 0x070003 | 0x090001 => some 0
  | 0x0A0003 => some 1
  | 0x0A0005 => some 2
  | 0x0A0001 | 0x0A0002 | 0x0A0004 | 0x0A0006 | 0x0A0007 | 0x0B0001 => some 0
  | 0x0C0001 => some 16
  | 0x0C0002 | 0x0C0003 | 0x0C0004 | 0x0C0005 | 0x0C0006 | 0x0C0007 | 0x0C0008 | 0x0D0001 => some 0
  | 0x0E0002 => some 3
  | 0x0E0001 | 0x0E0003 | 0x0F0001 | 0x100001 | 0x100002 | 0x110001 => some 0
  | 0x120001 => some 1
  | 0x120002 | 0x120003 => some 2
  | 0x190001 => some 10
  | _ => none

/-- The result words of a service (Table 04.9). -/
def svcX (code : Nat) : Nat :=
  match code with
  | 0x060008 => 40 | 0x070001 => 16 | 0x090001 => 2 | 0x0B0001 => 16 | 0x0C0001 => 1 | 0x0C0002 => 1 | 0x0E0003 => 4
  | 0x0F0001 => 8 | 0x100001 => 64 | 0x110001 => 8 | 0x120003 => 2
  | _ => 0

/-- A ticket that holds no slot. -/
def immTicket (k st : Nat) : Nat := k * 2 ^ 30 + 2 ^ 29 + 255 * 2 ^ 16 + st

/-- Read n words of D as the section sees them. -/
def State.readBlock (s : State) (k off : Nat) : Nat → State × List Word
  | 0 => (s, [])
  | n + 1 =>
    let (s, v) := s.readElem k true 5 off
    let (s, l) := (s.chargeRead k 5 off).readBlock k (off + 1) n
    (s, BitVec.ofNat 32 v :: l)

/-- The first free slot after the one last taken, wrapping from 254 to 0 (R201). -/
def Sect.freeSlot (x : Sect) : Option Nat :=
  ((List.range 255).map (fun d => (x.lastSlot + 1 + d) % 255)).find? (fun j => (SMap.getD x.slots j {}).st = .free)

/-- SVC. DESIGN CHOICE (log entry 105): a call refused BUSY has read its D block, and is charged for it, before the slot is looked for. -/
def State.svcIssue (s : State) (k code wait : Nat) : State :=
  let x := s.sect k
  let n := (svcD code).getD 0
  let refuse := fun (s : State) st => s.regInstr k 4 fun x =>
    { x with wa := BitVec.ofNat 32 (immTicket k st), ba := false, refused := x.refused + 1 }
  if n ≠ 0 && areaSize 5 < x.xi + n then refuse s St.badArg
  else
    let (t, d) := s.readBlock k x.xi n
    let s := s.waited t k wait
    match (if 64 ≤ x.taken then none else x.freeSlot) with
    | none => refuse s St.busy
    | some j =>
      let q := if 65535 ≤ x.serial then 1 else x.serial + 1
      s.regInstr k 4 fun x => { x.modSlot j (fun y => { y with
          st := .issued, serial := q, code := code, status := St.pending, result := [] }) with
        lastSlot := j, serial := q, taken := x.taken + 1,
        queue := x.queue ++ [{ code := code, slot := j, args := { wa := x.wa, wb := x.wb, d := d } }],
        wa := BitVec.ofNat 32 (k * 2 ^ 30 + j * 2 ^ 16 + q), ba := true }

/-! ### The opcodes (R179, Table 04.5) -/

def State.mNop (s : State) (k : Nat) : State := s.clocks k 1
def State.mLd (s : State) (k mode opnd : Nat) : State := s.bitInstr k mode opnd fun _ b => b
def State.mLdn (s : State) (k mode opnd : Nat) : State := s.bitInstr k mode opnd fun _ b => !b
def State.mAnd (s : State) (k mode opnd : Nat) : State := s.bitInstr k mode opnd fun a b => a && b
def State.mAndn (s : State) (k mode opnd : Nat) : State := s.bitInstr k mode opnd fun a b => a && !b
def State.mOr (s : State) (k mode opnd : Nat) : State := s.bitInstr k mode opnd fun a b => a || b
def State.mOrn (s : State) (k mode opnd : Nat) : State := s.bitInstr k mode opnd fun a b => a || !b
def State.mXor (s : State) (k mode opnd : Nat) : State := s.bitInstr k mode opnd fun a b => a != b
def State.mNot (s : State) (k : Nat) : State := s.regInstr k 1 fun x => { x with ba := !x.ba }
def State.mBcand (s : State) (k : Nat) : State := s.bclose k fun a b => a && b
def State.mBcor (s : State) (k : Nat) : State := s.bclose k fun a b => a || b
def State.mSt (s : State) (k mode opnd : Nat) : State := s.bitStore k mode opnd fun b => some b
def State.mStn (s : State) (k mode opnd : Nat) : State := s.bitStore k mode opnd fun b => some (!b)
def State.mSet (s : State) (k mode opnd : Nat) : State := s.bitStore k mode opnd fun b => if b then some true else none
def State.mRst (s : State) (k mode opnd : Nat) : State := s.bitStore k mode opnd fun b => if b then some false else none
def State.mLdw (s : State) (k mode opnd wait : Nat) : State := s.wordInstr k mode opnd wait 1 fun x v => logicFlags x v
def State.mSwp (s : State) (k : Nat) : State := s.regInstr k 1 fun x => { x with wa := x.wb, wb := x.wa }
def State.mAdd (s : State) (k mode opnd wait : Nat) : State := s.wordInstr k mode opnd wait 1 fun x v => addFlags x v false
def State.mAdds (s : State) (k mode opnd wait : Nat) : State := s.wordInstr k mode opnd wait 1 fun x v => addFlags x v true
def State.mSub (s : State) (k mode opnd wait : Nat) : State := s.wordInstr k mode opnd wait 1 fun x v => subFlags x v false
def State.mSubs (s : State) (k mode opnd wait : Nat) : State := s.wordInstr k mode opnd wait 1 fun x v => subFlags x v true
def State.mMul (s : State) (k mode opnd wait : Nat) : State := s.wordInstr k mode opnd wait 2 mulRes
def State.mMuls (s : State) (k mode opnd wait : Nat) : State := s.wordInstr k mode opnd wait 2 mulsRes
def State.mDiv (s : State) (k mode opnd wait : Nat) : State := s.wordInstr k mode opnd wait 18 divRes
def State.mAndw (s : State) (k mode opnd wait : Nat) : State :=
  s.wordInstr k mode opnd wait 1 fun x v => logicFlags x (x.wa &&& v)
def State.mOrw (s : State) (k mode opnd wait : Nat) : State :=
  s.wordInstr k mode opnd wait 1 fun x v => logicFlags x (x.wa ||| v)
def State.mXorw (s : State) (k mode opnd wait : Nat) : State :=
  s.wordInstr k mode opnd wait 1 fun x v => logicFlags x (x.wa ^^^ v)
def State.mShl (s : State) (k mode opnd wait : Nat) : State := s.wordInstr k mode opnd wait 1 shlRes
def State.mShr (s : State) (k mode opnd wait : Nat) : State := s.wordInstr k mode opnd wait 1 shrRes
/-- A compare instruction. -/
def State.mCmp (s : State) (k mode opnd wait : Nat) (f : Int → Int → Bool) : State :=
  s.wordInstr k mode opnd wait 1 fun x v => compareFlags x v (f x.wa.toInt v.toInt)
def State.mLdx (s : State) (k mode opnd wait : Nat) : State :=
  s.wordInstr k mode opnd wait 1 fun x v => { x with xi := v.toNat % 2 ^ 20 }
def State.mAddx (s : State) (k mode opnd wait : Nat) : State :=
  s.wordInstr k mode opnd wait 1 fun x v => { x with xi := (x.xi + v.toNat) % 2 ^ 20 }
def State.mLdf (s : State) (k opnd : Nat) : State :=
  s.regInstr k 1 fun x => { x with
    ba := (match opnd % 4 with | 0 => x.z | 1 => x.n | 2 => x.cy | _ => x.ov), ov := if bit opnd 2 then false else x.ov }

/-- What an opcode does, for a word fetched by STEP. -/
def State.opMeaning (s : State) (k opc mode opnd : Nat) : State :=
  match opc with
  | 0x00 => s.mNop k | 0x01 => s.mLd k mode opnd | 0x02 => s.mLdn k mode opnd | 0x03 => s.mAnd k mode opnd
  | 0x04 => s.mAndn k mode opnd | 0x05 => s.mOr k mode opnd | 0x06 => s.mOrn k mode opnd | 0x07 => s.mXor k mode opnd
  | 0x08 => s.mNot k | 0x09 => s.bopen k | 0x0A => s.mBcand k | 0x0B => s.mBcor k
  | 0x0C => s.edge k mode opnd true | 0x0D => s.edge k mode opnd false
  | 0x0E => s.mSt k mode opnd | 0x0F => s.mStn k mode opnd | 0x10 => s.mSet k mode opnd | 0x11 => s.mRst k mode opnd
  | 0x12 => s.wordStore k mode opnd 0 true
  | 0x13 => s.timerInstr k mode opnd Timer.ton | 0x14 => s.timerInstr k mode opnd Timer.tof
  | 0x15 => s.timerInstr k mode opnd Timer.tp
  | 0x16 => s.counterInstr k mode opnd Counter.up | 0x17 => s.counterInstr k mode opnd Counter.down
  | 0x18 => s.cld k mode opnd | 0x19 => s.mLdw k mode opnd 0 | 0x1A => s.wordStore k mode opnd 0 false
  | 0x1B => s.mSwp k | 0x1C => s.mAdd k mode opnd 0 | 0x1D => s.mAdds k mode opnd 0 | 0x1E => s.mSub k mode opnd 0
  | 0x1F => s.mSubs k mode opnd 0 | 0x20 => s.mMul k mode opnd 0 | 0x21 => s.mMuls k mode opnd 0
  | 0x22 => s.mDiv k mode opnd 0 | 0x23 => s.mAndw k mode opnd 0 | 0x24 => s.mOrw k mode opnd 0
  | 0x25 => s.mXorw k mode opnd 0 | 0x26 => s.mShl k mode opnd 0 | 0x27 => s.mShr k mode opnd 0
  | 0x28 => s.mCmp k mode opnd 0 (fun a b => decide (a = b)) | 0x29 => s.mCmp k mode opnd 0 (fun a b => decide (a ≠ b))
  | 0x2A => s.mCmp k mode opnd 0 (fun a b => decide (b < a)) | 0x2B => s.mCmp k mode opnd 0 (fun a b => decide (b ≤ a))
  | 0x2C => s.mCmp k mode opnd 0 (fun a b => decide (a < b)) | 0x2D => s.mCmp k mode opnd 0 (fun a b => decide (a ≤ b))
  | 0x2E => s.mLdx k mode opnd 0 | 0x2F => s.mAddx k mode opnd 0
  | 0x30 => s.jump k opnd true | 0x31 => s.jump k opnd (s.sect k).ba | 0x32 => s.jump k opnd (!(s.sect k).ba)
  | 0x33 => s.call k opnd | 0x34 => s.ret k | 0x35 => s.tbl k mode opnd 0 | 0x36 => s.movb k mode opnd 0
  | 0x37 => s.mLdf k opnd | 0x38 => s.svcIssue k opnd 0 | 0x39 => s.end_ k
  | _ => s

/-- No operand: MODE 0b10 with OPND 0. -/
def State.issue0 (s : State) (k opc : Nat) (f : State → State) : State := s.issue k opc 2 0 f

def execOpNop (k : Nat) (s : State) : Res := s.act fun s => s.issue0 k 0x00 fun s => s.mNop k
def execOpLd (k mode opnd _wait : Nat) (s : State) : Res := s.act fun s => s.issue k 0x01 mode opnd fun s => s.mLd k mode opnd
def execOpLdn (k mode opnd _wait : Nat) (s : State) : Res := s.act fun s => s.issue k 0x02 mode opnd fun s => s.mLdn k mode opnd
def execOpAnd (k mode opnd _wait : Nat) (s : State) : Res := s.act fun s => s.issue k 0x03 mode opnd fun s => s.mAnd k mode opnd
def execOpAndn (k mode opnd _wait : Nat) (s : State) : Res := s.act fun s => s.issue k 0x04 mode opnd fun s => s.mAndn k mode opnd
def execOpOr (k mode opnd _wait : Nat) (s : State) : Res := s.act fun s => s.issue k 0x05 mode opnd fun s => s.mOr k mode opnd
def execOpOrn (k mode opnd _wait : Nat) (s : State) : Res := s.act fun s => s.issue k 0x06 mode opnd fun s => s.mOrn k mode opnd
def execOpXor (k mode opnd _wait : Nat) (s : State) : Res := s.act fun s => s.issue k 0x07 mode opnd fun s => s.mXor k mode opnd
def execOpNot (k : Nat) (s : State) : Res := s.act fun s => s.issue0 k 0x08 fun s => s.mNot k
def execOpBopen (k : Nat) (s : State) : Res := s.act fun s => s.issue0 k 0x09 fun s => s.bopen k
def execOpBcand (k : Nat) (s : State) : Res := s.act fun s => s.issue0 k 0x0A fun s => s.mBcand k
def execOpBcor (k : Nat) (s : State) : Res := s.act fun s => s.issue0 k 0x0B fun s => s.mBcor k
def execOpEdgp (k mode opnd _wait : Nat) (s : State) : Res :=
  s.act fun s => s.issue k 0x0C mode opnd fun s => s.edge k mode opnd true
def execOpEdgn (k mode opnd _wait : Nat) (s : State) : Res :=
  s.act fun s => s.issue k 0x0D mode opnd fun s => s.edge k mode opnd false
def execOpSt (k mode opnd _wait : Nat) (s : State) : Res := s.act fun s => s.issue k 0x0E mode opnd fun s => s.mSt k mode opnd
def execOpStn (k mode opnd _wait : Nat) (s : State) : Res := s.act fun s => s.issue k 0x0F mode opnd fun s => s.mStn k mode opnd
def execOpSet (k mode opnd _wait : Nat) (s : State) : Res := s.act fun s => s.issue k 0x10 mode opnd fun s => s.mSet k mode opnd
def execOpRst (k mode opnd _wait : Nat) (s : State) : Res := s.act fun s => s.issue k 0x11 mode opnd fun s => s.mRst k mode opnd
def execOpStwc (k mode opnd wait : Nat) (s : State) : Res :=
  s.act fun s => s.issue k 0x12 mode opnd fun s => s.wordStore k mode opnd wait true
def execOpTon (k mode opnd _wait : Nat) (s : State) : Res :=
  s.act fun s => s.issue k 0x13 mode opnd fun s => s.timerInstr k mode opnd Timer.ton
def execOpTof (k mode opnd _wait : Nat) (s : State) : Res :=
  s.act fun s => s.issue k 0x14 mode opnd fun s => s.timerInstr k mode opnd Timer.tof
def execOpTp (k mode opnd _wait : Nat) (s : State) : Res :=
  s.act fun s => s.issue k 0x15 mode opnd fun s => s.timerInstr k mode opnd Timer.tp
def execOpCtu (k mode opnd _wait : Nat) (s : State) : Res :=
  s.act fun s => s.issue k 0x16 mode opnd fun s => s.counterInstr k mode opnd Counter.up
def execOpCtd (k mode opnd _wait : Nat) (s : State) : Res :=
  s.act fun s => s.issue k 0x17 mode opnd fun s => s.counterInstr k mode opnd Counter.down
def execOpCld (k mode opnd _wait : Nat) (s : State) : Res := s.act fun s => s.issue k 0x18 mode opnd fun s => s.cld k mode opnd
def execOpLdw (k mode opnd wait : Nat) (s : State) : Res :=
  s.act fun s => s.issue k 0x19 mode opnd fun s => s.mLdw k mode opnd wait
def execOpStw (k mode opnd wait : Nat) (s : State) : Res :=
  s.act fun s => s.issue k 0x1A mode opnd fun s => s.wordStore k mode opnd wait false
def execOpSwp (k : Nat) (s : State) : Res := s.act fun s => s.issue0 k 0x1B fun s => s.mSwp k
def execOpAdd (k mode opnd wait : Nat) (s : State) : Res :=
  s.act fun s => s.issue k 0x1C mode opnd fun s => s.mAdd k mode opnd wait
def execOpAdds (k mode opnd wait : Nat) (s : State) : Res :=
  s.act fun s => s.issue k 0x1D mode opnd fun s => s.mAdds k mode opnd wait
def execOpSub (k mode opnd wait : Nat) (s : State) : Res :=
  s.act fun s => s.issue k 0x1E mode opnd fun s => s.mSub k mode opnd wait
def execOpSubs (k mode opnd wait : Nat) (s : State) : Res :=
  s.act fun s => s.issue k 0x1F mode opnd fun s => s.mSubs k mode opnd wait
def execOpMul (k mode opnd wait : Nat) (s : State) : Res :=
  s.act fun s => s.issue k 0x20 mode opnd fun s => s.mMul k mode opnd wait
def execOpMuls (k mode opnd wait : Nat) (s : State) : Res :=
  s.act fun s => s.issue k 0x21 mode opnd fun s => s.mMuls k mode opnd wait
def execOpDiv (k mode opnd wait : Nat) (s : State) : Res :=
  s.act fun s => s.issue k 0x22 mode opnd fun s => s.mDiv k mode opnd wait
def execOpAndw (k mode opnd wait : Nat) (s : State) : Res :=
  s.act fun s => s.issue k 0x23 mode opnd fun s => s.mAndw k mode opnd wait
def execOpOrw (k mode opnd wait : Nat) (s : State) : Res :=
  s.act fun s => s.issue k 0x24 mode opnd fun s => s.mOrw k mode opnd wait
def execOpXorw (k mode opnd wait : Nat) (s : State) : Res :=
  s.act fun s => s.issue k 0x25 mode opnd fun s => s.mXorw k mode opnd wait
def execOpShl (k mode opnd wait : Nat) (s : State) : Res :=
  s.act fun s => s.issue k 0x26 mode opnd fun s => s.mShl k mode opnd wait
def execOpShr (k mode opnd wait : Nat) (s : State) : Res :=
  s.act fun s => s.issue k 0x27 mode opnd fun s => s.mShr k mode opnd wait
def execOpCeq (k mode opnd wait : Nat) (s : State) : Res :=
  s.act fun s => s.issue k 0x28 mode opnd fun s => s.mCmp k mode opnd wait fun a b => decide (a = b)
def execOpCne (k mode opnd wait : Nat) (s : State) : Res :=
  s.act fun s => s.issue k 0x29 mode opnd fun s => s.mCmp k mode opnd wait fun a b => decide (a ≠ b)
def execOpCgt (k mode opnd wait : Nat) (s : State) : Res :=
  s.act fun s => s.issue k 0x2A mode opnd fun s => s.mCmp k mode opnd wait fun a b => decide (b < a)
def execOpCge (k mode opnd wait : Nat) (s : State) : Res :=
  s.act fun s => s.issue k 0x2B mode opnd fun s => s.mCmp k mode opnd wait fun a b => decide (b ≤ a)
def execOpClt (k mode opnd wait : Nat) (s : State) : Res :=
  s.act fun s => s.issue k 0x2C mode opnd fun s => s.mCmp k mode opnd wait fun a b => decide (a < b)
def execOpCle (k mode opnd wait : Nat) (s : State) : Res :=
  s.act fun s => s.issue k 0x2D mode opnd fun s => s.mCmp k mode opnd wait fun a b => decide (a ≤ b)
def execOpLdx (k mode opnd wait : Nat) (s : State) : Res :=
  s.act fun s => s.issue k 0x2E mode opnd fun s => s.mLdx k mode opnd wait
def execOpAddx (k mode opnd wait : Nat) (s : State) : Res :=
  s.act fun s => s.issue k 0x2F mode opnd fun s => s.mAddx k mode opnd wait
def execOpJmp (k mode opnd _wait : Nat) (s : State) : Res := s.act fun s => s.issue k 0x30 mode opnd fun s => s.jump k opnd true
def execOpJmpc (k mode opnd _wait : Nat) (s : State) : Res :=
  s.act fun s => s.issue k 0x31 mode opnd fun s => s.jump k opnd (s.sect k).ba
def execOpJmpcn (k mode opnd _wait : Nat) (s : State) : Res :=
  s.act fun s => s.issue k 0x32 mode opnd fun s => s.jump k opnd (!(s.sect k).ba)
def execOpCall (k mode opnd _wait : Nat) (s : State) : Res := s.act fun s => s.issue k 0x33 mode opnd fun s => s.call k opnd
def execOpRet (k : Nat) (s : State) : Res := s.act fun s => s.issue0 k 0x34 fun s => s.ret k
def execOpTbl (k mode opnd wait : Nat) (s : State) : Res :=
  s.act fun s => s.issue k 0x35 mode opnd fun s => s.tbl k mode opnd wait
def execOpMovb (k mode opnd wait : Nat) (s : State) : Res :=
  s.act fun s => s.issue k 0x36 mode opnd fun s => s.movb k mode opnd wait
def execOpLdf (k mode opnd _wait : Nat) (s : State) : Res := s.act fun s => s.issue k 0x37 mode opnd fun s => s.mLdf k opnd
def execOpSvc (k mode opnd wait : Nat) (s : State) : Res :=
  s.act fun s => s.issue k 0x38 mode opnd fun s => s.svcIssue k opnd wait
def execOpEnd (k : Nat) (s : State) : Res := s.act fun s => s.issue0 k 0x39 fun s => s.end_ k

end Sys2Proof.Machine
end

