-- ==== Sys2Proof/Machine/Windows.lean ====
section
/-!
DEFINITION. The windows of feeder metering (R476, R480 to R483): delay by interpolation, the reference and its zero crossings, sliding and
harmonic windows of 2,048 points, and the quantities of Table 11.1. Times on the converters' scale are in 2⁻¹⁰ ns. What interpolation
gives between samples, and where between two samples a crossing lies, are free values; values round to nearest (log entry 116).
-/
namespace Sys2Proof.Machine

/-- The value at `u` of a waveform given by points: a point's own value at a point. -/
def waveAt (l : List (Nat × Int)) (u : Nat) : Int :=
  match l.find? fun p => decide (p.1 = u) with
  | some p => p.2
  | none => Config.interp l u

/-! ### Delay (R476) -/

/-- One channel of a frame delayed by `d` / 1,024 samples; `before` are the two samples before the frame. -/
def delayed (d : Nat) (before now : List Int) : List Int :=
  let pad := List.replicate (2 - before.length) ((before ++ now).headD 0)
  let l := pad ++ before ++ now
  let pts := ((List.range l.length).zip l).map fun p => (1024 * p.1, p.2)
  (List.range now.length).map fun i => waveAt pts (1024 * (i + 2) - d)

/-! ### Reference and crossings (R480) -/

/-- The lowest-numbered voltage whose RMS over the last window is 10 % of FS ÷ √2 or more: from the RMS values and the full scales. -/
def reference (rms fs : List Nat) : Option Nat :=
  (List.range 3).find? fun x => decide (rms.getD x 0 ≠ 0) && decide (fs.getD x 0 ^ 2 ≤ 200 * rms.getD x 0 ^ 2)

/-- Positive-going zero crossings: a sample at 0 is one itself, else it lies strictly between two samples. -/
def crossings : List (Nat × Int) → List Nat
  | (t0, y0) :: (t1, y1) :: l =>
    let rest := crossings ((t1, y1) :: l)
    if y0 < 0 && 0 ≤ y1 then
      (if y1 = 0 then t1 else t0 + 1 + Config.crossing (t1 - t0) y0 y1 % (t1 - t0 - 1)) :: rest
    else rest
  | _ => []

/-! ### A window -/

/-- The 2,048 points of a window of a waveform. -/
def resample (l : List (Nat × Int)) (from_ len : Nat) : List Int :=
  (List.range 2048).map fun j => waveAt l (from_ + j * len / 2048)

/-- The root of a mean square in 2⁻⁴⁸ mV², in mV to the nearest. -/
def rootMv (n : Nat) : Nat := (isqrt (4 * n) + 2 ^ 24) / 2 ^ 25
def sumSq (l : List Int) : Nat := (sumI (l.map fun x => x * x)).toNat
def rmsMv (l : List Int) : Nat := rootMv (sumSq l / 2048)

/-- cos and sin of 2π m / 2,048 in units of 2⁻⁶⁴. -/
def trigAt (m : Nat) : Int × Int :=
  let m : Int := if m < 1024 then m else (m : Int) - 2048
  let x := rdiv (m * 115904311329233965478) 2048
  (geoCos x, geoSin x)
def trig : List (Int × Int) := (List.range 2048).map trigAt

/-- DFT bin `k` of a window: Σ y cos and Σ y sin, in the unit of y. -/
def dftBin (l : List Int) (k : Nat) : Int × Int :=
  let z := (List.range 2048).map fun j => (l.getD j 0, trig.getD (k * j % 2048) (0, 0))
  (rdiv (sumI (z.map fun p => p.1 * p.2.1)) geoOne, rdiv (sumI (z.map fun p => p.1 * p.2.2)) geoOne)

/-- Active power of a phase in µW: the mean of v × i. -/
def activePower (v i : List Int) : Int := rdiv (sumI ((v.zip i).map fun p => p.1 * p.2)) (2048 * 2 ^ 48)
/-- Reactive power of a phase in µvar, from the fundamental bins: positive when current lags voltage. -/
def reactivePower (v i : Int × Int) : Int := rdiv (2 * (v.1 * i.2 - v.2 * i.1)) (2048 ^ 2 * 2 ^ 48)

/-- Negative-sequence over positive-sequence fundamental of three voltages, in 0.01 %. -/
def unbalance (a b c : Int × Int) : Nat :=
  let r3 : Int := isqrt (3 * 2 ^ 64)
  let re := (2 * a.1 - b.1 - c.1) * 2 ^ 32
  let im := -(2 * a.2 - b.2 - c.2) * 2 ^ 32
  -- j·√3·(V2 − V3), with V = A − jB
  let jr := r3 * (b.2 - c.2)
  let ji := r3 * (b.1 - c.1)
  let pos := ((re + jr) ^ 2 + (im + ji) ^ 2).toNat
  let neg := ((re - jr) ^ 2 + (im - ji) ^ 2).toNat
  if pos = 0 then 0 else (isqrt (4 * (neg * 100000000 / pos)) + 1) / 2

/-- Harmonic groups or subgroups 1 to 63 of a window of `n` periods, in mV or mA RMS, as IEC 61000-4-7 defines them (PRESUMED, log entry
116): a group halves the bins midway between two harmonics, a subgroup takes the harmonic with its two neighbours. -/
def groups (l : List Int) (n : Nat) (sub : Bool) : List Nat :=
  let sq := fun (k : Nat) => let c := dftBin l k; (c.1 * c.1 + c.2 * c.2).toNat
  (List.range 63).map fun h =>
    let k := n * (h + 1)
    let half := n / 2
    let twice :=
      if sub then 2 * (sq (k - 1) + sq k + sq (k + 1))
      else sq (k - half) + sq (k + half) + 2 * sumN ((List.range (2 * half - 1)).map fun j => sq (k + 1 + j - half))
    rootMv (twice / 2048 ^ 2)

/-! ### The windows of a frame (R481, R482) -/

/-- What a frame's end finds for a feeder: its windows, and where the last harmonic window ends. `pts` are the seven waveforms, `fs` the
full scales of the voltages, `last` the RMS values of the last window, `n` the periods of a window, `stop` the end of the frame. -/
def frameWindows (pts : List (List (Nat × Int))) (fs last : List Nat) (n stop : Nat) (sub : Bool) (harmFrom : Option Nat) :
    MeterWin × Option Nat :=
  let ch := fun k => pts.getD k []
  if ch 0 = [] then ({}, none)
  else
    let ref := reference last fs
    let cr := match ref with
      | some x => (crossings (ch x)).filter fun t => decide (t ≤ stop)
      | none => []
    let end_ := cr.getLastD stop
    let begin_ := (cr.reverse[n]?).getD end_
    let mHz := if begin_ < end_ then (2 * n * 1024 * 1000000000000 + (end_ - begin_)) / (2 * (end_ - begin_)) else 0
    let flock := decide (45000 ≤ mHz) && decide (mHz ≤ 65000)
    let len := if flock then end_ - begin_ else 200000000 * 1024
    let from_ := if flock then begin_ else stop - len
    let w := (List.range 7).map fun k => resample (ch k) from_ len
    let y := fun k => w.getD k []
    let f1 := (List.range 6).map fun k => dftBin (y k) n
    let bin := fun k => f1.getD k (0, 0)
    let diff := fun a b => rmsMv (((y a).zip (y b)).map fun p => p.1 - p.2)
    let due := match harmFrom with
      | some t => if flock then (cr.filter fun c => decide (t < c))[n - 1]?.map fun c => (t, c) else none
      | none => none
    let harm := due.map fun d => (List.range 7).map fun k => groups (resample (ch k) d.1 (d.2 - d.1)) n sub
    let win : MeterWin := {
      flock := flock, ref := ref.getD 0, freq := mHz
      v := (List.range 3).map fun k => rmsMv (y k)
      vll := [diff 0 1, diff 1 2, diff 2 0]
      i := (List.range 4).map fun k => rmsMv (y (k + 3))
      p := (List.range 3).map fun k => activePower (y k) (y (k + 3))
      q := (List.range 3).map fun k => reactivePower (bin k) (bin (k + 3))
      unbal := unbalance (bin 0) (bin 1) (bin 2)
      harm := harm
      harmAgo := (stop - (due.map Prod.snd).getD stop) / 1024 }
    (win, if !flock then none else match due with
      | some d => some d.2
      | none => some (harmFrom.getD end_))

end Sys2Proof.Machine
end

