-- ==== Sys2Proof/Machine/Metering.lean ====
section
/-!
DEFINITION. Feeder metering (chapter 11, R473 to R510): samples and gain, energy, publication and the meter image, demand,
pulse outputs, saves, and power-fail accounting.
-/
namespace Sys2Proof.Machine

/-- Full code of a converter (R474, R477). -/
def fullCode : Nat := 8388607
/-- 1 mWh in the unit of the energies, 2⁻⁴⁸ µW·ns. -/
def mwhUnit : Nat := 3600000000000000 * 2 ^ 48
/-- Accumulators count modulo 2^48 (R492). -/
def accMod : Nat := 2 ^ 48

def State.setFeeder (s : State) (f : Nat) (x : Feeder) : State :=
  s.modMeter fun m => { m with feeders := setAt m.feeders f x }
def State.feederOn (s : State) (f : Nat) : Bool := bit (s.get F.MTR_CFG_FD_EN) f
def isCurrent (ch : Nat) : Bool := decide (3 ≤ ch % 7)

/-! ### Samples (R473 to R479, R490) -/

/-- The primary value of a code at a gain, in 2⁻²⁴ mV or mA (R475). -/
def State.primary (s : State) (ch : Nat) (x : Int) (gain : Nat) : Int :=
  let off := s.getI (F.MTR_CH_CAL_OFFSET.at ch)
  let gc := s.getI (F.MTR_CH_CAL_GCORR.at ch)
  rdiv ((x - 16 * off) * s.get (F.MTR_CH_FS_FS.at ch) * (2 ^ 20 + gc) * 16) (fullCode * 4 ^ gain)

def MSamp.code (m : MSamp) (ch : Nat) : Int := m.codes.getD ch 0
def State.sampleGain (s : State) (m : MSamp) (ch : Nat) : Nat :=
  if isCurrent ch then (m.gains[ch]?).getD (s.get (F.MTR_CH_STAT_GAIN.at ch)) % 4 else 0

/-- The times Δt of the samples of a frame: the last runs to the boundary that ends it. -/
def sampleTimes : List MSamp → Nat → List Nat
  | [], _ => []
  | [_], left => [left]
  | m :: n :: l, left => m.dt :: sampleTimes (n :: l) (left - m.dt)

/-- The primary values of a sample (R475). -/
def State.primaries (s : State) (m : MSamp) : List Int :=
  (List.range 28).map fun ch => s.primary ch (m.code ch) (s.sampleGain m ch)

/-- The samples of a frame after the delay of R476, channel by channel: a change of DELAY counts from the next frame boundary on. -/
def State.delayedRows (s : State) (l : List (List Int)) : List (List Int) :=
  let chans := (List.range 28).map fun ch =>
    let d := ((SMap.get? s.meter.chans ch).map (·.delay)).getD (s.get (F.MTR_CH_CFG_DELAY.at ch))
    if d = 0 then l.map (·.getD ch 0) else delayed d (s.meter.raw.map (·.getD ch 0)) (l.map (·.getD ch 0))
  (List.range l.length).map fun i => chans.map (·.getD i 0)

/-- The active energy of a phase over a frame of delayed samples; none below the no-load limit of 0.0005 In = FS / 8,000 (R490). -/
def State.phaseEnergy (s : State) (f x : Nat) (rows : List (List Int)) (dts : List Nat) : Option Int :=
  let cv := 7 * f + x
  let ci := 7 * f + 3 + x
  let vi := rows.map fun y => (y.getD cv 0, y.getD ci 0)
  let sq := sumI (vi.map fun p => p.2 * p.2)
  let lim : Int := (s.get (F.MTR_CH_FS_FS.at ci) * 2 ^ 24 : Nat)
  if sq * 64000000 < lim * lim * (rows.length : Int) || rows = [] then none
  else some (sumI ((vi.zip dts).map fun p => p.1.1 * p.1.2 * (p.2 : Int)))

def isClipped (x : Int) : Bool := decide (fullCode ≤ x.natAbs)

/-- A channel at the end of a frame: clips, OVER, and the account of R477; a fixed gain follows its field. -/
def State.channelFrame (s : State) (ch : Nat) (l : List MSamp) : State :=
  let clips := countP (fun m => isClipped (m.code ch)) l
  let ovr := l.any fun m => isClipped (m.code ch) && decide (s.sampleGain m ch = 0)
  let low := l.all fun m => decide ((m.code ch).natAbs * 5 < fullCode)
  let s := (s.add (F.MTR_CH_STAT_CLIPS.at ch) clips).putB (F.MTR_CH_STAT_OVER.at ch) ovr
  let c := SMap.getD s.meter.chans ch {}
  let c : MChan := { c with lowFrames := if low then min 100 (c.lowFrames + 1) else 0, switched := false,
                            delay := s.get (F.MTR_CH_CFG_DELAY.at ch) }
  let s := s.modMeter fun m => { m with chans := SMap.put {} m.chans ch c }
  if isCurrent ch && s.flag (F.MTR_CH_CFG_GAINMODE.at ch) then
    s.put (F.MTR_CH_STAT_GAIN.at ch) (s.get (F.MTR_CH_CFG_FIXGAIN.at ch))
  else s

def State.setGain (s : State) (ch g : Nat) (low : Nat) : State :=
  let s := (s.put (F.MTR_CH_STAT_GAIN.at ch) g).inc F.MTR_CNT_GAIN_SW
  let c := SMap.getD s.meter.chans ch {}
  s.modMeter fun m => { m with chans := SMap.put {} m.chans ch { c with switched := true, lowFrames := low } }

/-- The channel switches its gain by itself. -/
def State.autoGain (s : State) (ch : Nat) : Bool :=
  s.meter.running && decide (ch < 28) && isCurrent ch && !s.flag (F.MTR_CH_CFG_GAINMODE.at ch)

/-- GAIN_DOWN (R477): GLITCH consecutive samples reach 90 % of full code. -/
def State.gainDown (s : State) (ch : Nat) (codes : List Int) : State :=
  let n := s.get F.MTR_AGS_GLITCH
  let run := (codes.reverse.take n).all fun x => decide (9 * fullCode ≤ 10 * x.natAbs)
  let g := s.get (F.MTR_CH_STAT_GAIN.at ch)
  if s.autoGain ch && n ≤ codes.length && run && 0 < g then s.setGain ch (g - 1) 0 else s

/-- GAIN_UP (R477): UPHOLD frames below 20 % of full code. -/
def State.gainUp (s : State) (ch : Nat) : State :=
  let c := SMap.getD s.meter.chans ch {}
  let g := s.get (F.MTR_CH_STAT_GAIN.at ch)
  if s.autoGain ch && s.get F.MTR_AGS_UPHOLD ≤ c.lowFrames && g < 3 then s.setGain ch (g + 1) c.lowFrames else s

def execGainDown (ch : Nat) (codes : List Int) (s : State) : Res := s.act fun s => s.gainDown ch codes
def execGainUp (ch : Nat) (s : State) : Res := s.act fun s => s.gainUp ch

/-! ### A frame ends (R486) -/

/-- A whole multiple of the demand interval in UTC lies in a span that ends at `stop`. -/
def State.demandCrossed (s : State) (start stop : Nat) : Bool :=
  let iv : Int := (s.get F.MTR_DEM_MIN * 60000 : Nat)
  decide (iv ≠ 0) && decide (fdiv (s.utcMs ((start / 1000000 : Nat) : Int)) iv ≠ fdiv (s.utcMs ((stop / 1000000 : Nat) : Int)) iv)

/-- A channel out of service reads 0 (R606). -/
def State.inService (s : State) (l : List MSamp) : List MSamp :=
  if (List.range 28).any fun ch => s.bad 0 ch then
    l.map fun m => { m with codes := (List.range 28).map fun ch => if s.bad 0 ch then 0 else m.code ch }
  else l

/-- The windows of an enabled feeder at the end of a frame (R481), and what the next frame needs of them. -/
def State.feederWindows (s : State) (f : Nat) : State × MeterWin :=
  if !s.feederOn f then (s, {})
  else
    let x := s.feeder f
    let pts := (List.range 7).map fun c => s.meter.points.map fun p => (1024 * p.t, p.y.getD (7 * f + c) 0)
    let fs := (List.range 3).map fun c => s.get (F.MTR_CH_FS_FS.at (7 * f + c))
    let n := if s.flag F.MTR_CFG_NOMF then 12 else 10
    let r := frameWindows pts fs x.lastV n (1024 * s.meter.clk) (s.flag F.MTR_CFG_SUBGROUP) x.harmFrom
    (s.setFeeder f { x with lastV := r.1.v, harmFrom := r.2 }, r.1)

/-- The points of a frame join those of the last 400 ms. -/
def State.addPoints (s : State) (raw rows : List (List Int)) (dts : List Nat) (len : Nat) : State :=
  let times := dts.foldl (fun (p : List Nat × Nat) d => (p.1 ++ [p.2], p.2 + d)) ([], s.meter.clk)
  let pts := (times.1.zip rows).map fun p => (⟨p.1, p.2⟩ : MPoint)
  s.modMeter fun m => { m with
    clk := m.clk + len
    raw := (m.raw ++ raw).drop ((m.raw ++ raw).length - 2)
    points := (m.points ++ pts).filter fun p => decide (m.clk + len ≤ p.t + 400000000) }

/-- The samples of a frame are taken: it joins the frames that wait for their publication. -/
def State.meterFrame (s : State) (num start len : Nat) (trans : Bool) (l : List MSamp) : State :=
  if !s.meter.running || s.flag F.MTR_STAT_SUSPENDED then s
  else
    let l := s.inService l
    let sw := (List.range 4).map fun f => (List.range 7).any fun c => (SMap.getD s.meter.chans (7 * f + c) {}).switched
    let clip := (List.range 4).map fun f => (List.range 7).any fun c => l.any fun m => isClipped (m.code (7 * f + c))
    let ovr := (List.range 4).map fun f => (List.range 7).any fun c =>
      l.any fun m => isClipped (m.code (7 * f + c)) && decide (s.sampleGain m (7 * f + c) = 0)
    let raw := l.map s.primaries
    let rows := s.delayedRows raw
    let dts := sampleTimes l len
    let en := (List.range 4).map fun f => (List.range 3).map fun x => s.phaseEnergy f x rows dts
    let s := s.addPoints raw rows dts len
    let (s, wins) := (List.range 4).foldl (fun (p : State × List MeterWin) f =>
      let (s, w) := p.1.feederWindows f
      (s, p.2 ++ [w])) (s, [])
    let x : MFrame := { num := num, len := len, partial_ := trans, tai := start + len,
                        mono := (Int.ofNat (start + len) - s.time.stepSum).toNat, tod := s.flag F.TIM_STAT_TOD,
                        crossed := s.demandCrossed start (start + len),
                        energy := en, clips := clip, overs := ovr, gainChg := sw, wins := wins }
    let s := s.modMeter fun m => { m with queue := m.queue.map (fun y => { y with age := y.age + 1 }) ++ [x] }
    (List.range 28).foldl (fun s ch => s.channelFrame ch l) s

/-- The converters' windows begin anew. -/
def State.windowsAnew (s : State) : State :=
  s.modMeter fun m => { m with
    points := [], raw := [], clk := 0, feeders := m.feeders.map fun (x : Feeder) => { x with lastV := [], harmFrom := none } }

/-- Metering resumes at the frame boundary after POWER_RESTORE (R503). -/
def State.meterResume (s : State) : State :=
  if !s.meter.resumeDue then s
  else
    let ms := (s.mono - s.meter.suspendedAt) / 1000000
    let s := ((s.windowsAnew).modMeter fun m => { m with resumeDue := false, queue := [] }).put F.MTR_STAT_SUSPENDED 0
    s.log Sev.info 0 F.MTR_STAT_RUN (leBytes 4 ms)

/-! ### Accumulators (R491) -/

/-- The increments of the eleven accumulators, in 2⁻⁴⁸ µW·ns: phase energies, Q total in µvar, S total in µVA, over `len` ns. -/
def increments (ph : List (Option Int)) (q : Int) (sv len : Nat) : List Nat :=
  let e := ph.map fun x => x.getD 0
  let tot := sumI e
  let pos := fun (z : Int) => z.toNat
  let qe := q * (len : Int) * 2 ^ 48
  [pos tot, pos (-tot), pos qe, pos (-qe), sv * len * 2 ^ 48] ++ e.map pos ++ e.map fun z => pos (-z)

def addIncrements (x : Feeder) (inc : List Nat) : Feeder :=
  let t := (x.frac.zip inc).map fun p => p.1 + p.2
  { x with acc := (x.acc.zip t).map (fun p => (p.1 + p.2 / mwhUnit) % accMod), frac := t.map (· % mwhUnit) }

/-- A pulse output takes the increment of its accumulators in mWh (R496, R497). -/
def State.pulseAdd (s : State) (p : Nat) (before : List Feeder) : State :=
  if !s.flag (F.MTR_PUL_CFG_EN.at p) then s
  else
    let q := s.get (F.MTR_PUL_CFG_Q.at p)
    let fs := (List.range 4).filter fun f => bit (s.get (F.MTR_PUL_CFG_FEEDERS.at p)) f
    let inc := sumN (fs.map fun f => ((s.feeder f).acc.getD q 0 + accMod - (before.getD f {}).acc.getD q 0) % accMod)
    let c := Nat.max 1 (s.get (F.MTR_PUL_CONST_CONST.at p))
    let x := s.meter.pulses.getD p {}
    let r := x.residue + inc
    let n := r / c
    let pend := s.get (F.MTR_PUL_STAT_PENDING.at p) + n
    let s := s.modMeter fun m => { m with pulses := setAt m.pulses p { x with residue := r % c } }
    (s.put (F.MTR_PUL_STAT_PENDING.at p) (min 65535 pend)).add (F.MTR_PUL_STAT_OVERFLOW.at p) (pend - 65535)

/-! ### Demand (R494, R495, R508) -/

/-- The demand interval of a feeder after a frame; `bad` marks an estimated frame. -/
def State.demandFrame (s : State) (f : Nat) (m : MFrame) (bad : Bool) : State :=
  let x := s.feeder f
  let d := x.dem
  let min_ := Nat.max 1 (s.get F.MTR_DEM_MIN)
  let bad := bad || d.bad
  let ends := m.partial_ || (if m.tod then m.crossed else decide (d.from_ + min_ * 60000000000 ≤ m.mono))
  if !ends then s.setFeeder f { x with dem := { d with bad := bad } }
  else
    let a := x.acc.getD 0 0
    let w := ((a + accMod - d.aimp) % accMod) * 60 / (min_ * 1000)
    let s := s.setFeeder f { x with dem := { from_ := m.mono, aimp := a, bad := m.partial_, last := w } }
    if !bad && !m.partial_ && s.get (F.MTR_FD_MAXDEM_W.at f) < w then
      let sec := m.tai / 1000000000
      ((s.put (F.MTR_FD_MAXDEM_W.at f) (min (2 ^ 32 - 1) w)).put (F.MTR_FD_MAXT_LO_SEC.at f) (sec % 2 ^ 32)).put
        (F.MTR_FD_MAXT_HI_SEC.at f) (sec / 2 ^ 32)
    else s

/-! ### Publication and the meter image (R482 to R488) -/

/-- THD of a harmonic window in 0.01 % (R484). -/
def thd (fs : Nat) (g : List Nat) : Nat :=
  let g1 := g.headD 0
  if 2 * g1 * g1 * 10000 < fs * fs || g1 = 0 then 0
  else isqrt (sumN ((g.tail).map fun x => x * x) * 100000000 / (g1 * g1))

/-- Powers of a window: P, Q, S of the phases; S in µVA. -/
def MeterWin.sPhase (w : MeterWin) (x : Nat) : Nat := w.v.getD x 0 * w.i.getD x 0
def vaOf (u : Nat) : Nat := (u + 500000) / 1000000
/-- Power factor, LSB 0.0001, signed as P (Table 11.1). -/
def pfOf (p : Int) (u : Nat) : Int := if u = 0 then 0 else rdiv (p * 10000) u
/-- A power in µW or µvar as a word of the image, in W or var. -/
def wattWord (p : Int) : Nat := ofInt 32 (rdiv p 1000000)

/-- The words of Table 11.3 that come from the accumulators and the demand. -/
def State.energyWords (s : State) (f : Nat) : List Nat :=
  let x := s.feeder f
  let a := fun q => x.acc.getD q 0
  let wrap := fun q => a q / 2 ^ 32 % 256
  [min (2 ^ 32 - 1) x.dem.last, s.get (F.MTR_FD_MAXDEM_W.at f), s.get (F.MTR_FD_MAXT_LO_SEC.at f)]
    ++ (List.range 5).map (fun q => a q % 2 ^ 32)
    ++ [wrap 0 + 2 ^ 8 * wrap 1 + 2 ^ 16 * wrap 2 + 2 ^ 24 * wrap 3, wrap 4]

/-- No channel of the feeder is out of service (R606). -/
def State.feederGood (s : State) (f : Nat) : Bool := !(List.range 7).any fun c => s.bad 0 (7 * f + c)

/-- The windows of a feeder with 0 for each channel out of service (R606). -/
def State.winInService (s : State) (f : Nat) (w : MeterWin) : MeterWin :=
  if s.feederGood f then w
  else
    let v := fun k => !s.bad 0 (7 * f + k)
    let both := fun k => v k && v (k + 3)
    { w with
      v := (List.range 3).map fun k => if v k then w.v.getD k 0 else 0
      i := (List.range 4).map fun k => if v (k + 3) then w.i.getD k 0 else 0
      p := (List.range 3).map fun k => if both k then w.p.getD k 0 else 0
      q := (List.range 3).map fun k => if both k then w.q.getD k 0 else 0
      harm := w.harm.map fun h => (List.range 7).map fun k => if v k then h.getD k [] else [] }

/-- The block of a feeder after a frame computed from samples. -/
def State.feederBlock (s : State) (f : Nat) (m : MFrame) (w : MeterWin) : List Nat :=
  let b := fun (l : List Bool) k => b2n (l.getD f false) * 2 ^ k
  let st := b2n (s.feederGood f) * 2 ^ 31 + b2n w.flock * 2 ^ 30 + b m.clips 28 + b m.overs 27 + b m.gainChg 26 + b2n m.partial_ * 2 ^ 25
    + w.ref % 4 * 2 ^ 22
  let freq := if w.flock then w.freq else if s.flag F.MTR_CFG_NOMF then 60000 else 50000
  let at3 := fun (l : List Nat) => (List.range 3).map fun k => l.getD k 0
  let i3 := fun (l : List Int) => (List.range 3).map fun k => wattWord (l.getD k 0)
  let sp := (List.range 3).map w.sPhase
  let p := sumI ((List.range 3).map fun k => w.p.getD k 0)
  let q := sumI ((List.range 3).map fun k => w.q.getD k 0)
  [st, m.num % 2 ^ 32, freq] ++ at3 w.v ++ at3 w.vll ++ (List.range 4).map (fun k => w.i.getD k 0)
    ++ i3 w.p ++ [wattWord p] ++ i3 w.q ++ [wattWord q] ++ sp.map vaOf ++ [vaOf (sumN sp)]
    ++ (List.range 3).map (fun k => ofInt 32 (pfOf (w.p.getD k 0) (w.sPhase k))) ++ [ofInt 32 (pfOf p (sumN sp))]
    ++ (List.range 7).map (fun k => (s.feeder f).thd.getD k 0) ++ [w.unbal] ++ s.energyWords f

/-- A harmonic window that completed with FLOCK is kept (R483, R485). -/
def State.harmonics (s : State) (f : Nat) (m : MFrame) (w : MeterWin) : State :=
  match w.harm with
  | some h =>
    if w.flock then
      let x := s.feeder f
      s.setFeeder f { x with
        harm := h, harmAt := some (m.mono - w.harmAgo),
        thd := (List.range 7).map fun c => thd (s.get (F.MTR_CH_FS_FS.at (7 * f + c))) (h.getD c []) }
    else s
  | none => s

/-- The energy of a frame enters the accumulators of a feeder. -/
def State.account (s : State) (f : Nat) (m : MFrame) (ph : List (Option Int)) (q : Int) (sv : Nat) : State :=
  let x := s.feeder f
  let inc := increments ph q sv m.len
  let x := addIncrements x inc
  s.setFeeder f { x with sumE := x.sumE + sumI (ph.map fun z => z.getD 0), sumT := x.sumT + m.len,
                         hist := (x.hist ++ [(m.num, inc)]).drop (x.hist.length - 7) }

/-- The total apparent power of a window, µVA. -/
def MeterWin.sTotal (w : MeterWin) : Nat := sumN ((List.range 3).map w.sPhase)

/-- A frame computed from its samples enters the accumulators; a phase below the no-load limit adds no reactive energy (R490, R491). -/
def State.accountFrame (s : State) (f : Nat) (m : MFrame) (w : MeterWin) : State :=
  let ph := m.energy.getD f []
  let q := sumI ((List.range 3).map fun k => if (ph.getD k none).isSome then w.q.getD k 0 else 0)
  s.account f m ph q w.sTotal

/-- One frame of one feeder computed from its samples. -/
def State.publishFeeder (s : State) (f : Nat) (m : MFrame) (w : MeterWin) : State :=
  if !s.feederOn f then s.setFeeder f { s.feeder f with block := [], valid := false }
  else
    let w := s.winInService f w
    let s := ((s.accountFrame f m w).harmonics f m w).demandFrame f m false
    let b := s.feederBlock f m w
    s.setFeeder f { s.feeder f with
      block := b, valid := s.feederGood f, powers := w.p, lastQ := w.q, lastS := w.sTotal, pubAt := s.mono }

/-- The accumulators account up to the end of the last of some frames. -/
def State.accounted (s : State) (l : List MFrame) : State :=
  match l.getLast? with
  | some m => s.modMeter fun x => { x with accTo := m.tai, accNum := m.num }
  | none => s

/-- One frame of one feeder replaced by an estimate (R487): the powers of the last published frame times its duration. -/
def State.estimateFeeder (s : State) (f : Nat) (m : MFrame) : State :=
  if !s.feederOn f then s
  else
    let x := s.feeder f
    let ph := (List.range 3).map fun k => some (x.powers.getD k 0 * (m.len : Int) * 2 ^ 48)
    let s := (s.account f m ph (sumI x.lastQ) x.lastS).demandFrame f m true
    let st := 2 ^ 29 + b2n m.partial_ * 2 ^ 25
    let b := [st, m.num % 2 ^ 32] ++ ((s.feeder f).block.drop 2).take 35 ++ s.energyWords f
    s.setFeeder f { s.feeder f with block := b, valid := false, pubAt := s.mono }

/-- The end of every publication: pulse residues, a CLEAR_ALL that is due, and what E:256 and E:257 hold. -/
def State.pubEnd (s : State) (before : List Feeder) : State :=
  let s := (List.range 8).foldl (fun s p => s.pulseAdd p before) s
  let s := match s.meter.clearBy with
    | none => s
    | some o =>
      let s : State := s.modMeter fun m => { m with
        clearBy := none,
        feeders := m.feeders.map fun (x : Feeder) =>
          { x with acc := ({} : Feeder).acc, frac := ({} : Feeder).frac, dem := { x.dem with aimp := 0 }, hist := [] },
        pulses := m.pulses.map fun (x : Pulse) => { x with residue := 0 } }
      let s := (List.range 4).foldl (fun (s : State) f => ((s.put (F.MTR_FD_MAXDEM_W.at f) 0).put (F.MTR_FD_MAXT_LO_SEC.at f) 0).put
        (F.MTR_FD_MAXT_HI_SEC.at f) 0) s
      let s := (List.range 8).foldl (fun (s : State) p => s.put (F.MTR_PUL_STAT_PENDING.at p) 0) s
      (s.finish o St.done []).log Sev.warning 3 F.MTR_CMD_STAT_STATUS []
  let s := s.put F.MTR_STAT_VALID (sumN ((List.range 4).map fun f => b2n ((s.feeder f).valid) * 2 ^ f))
  s.modMeter fun m => { m with pubStat := s.word 0 F.MTR_STAT_RUN.addr, pubSave := s.word 0 F.MTR_SAVE_AGE.addr, pubAt := s.mono }

/-- METER_PUBLICATION (R486, R487): at 2,000 µs the results of the frames that wait are published; a METER fault leaves them for
the next frame (R82), and so does work that is done later than that (Table 11.2). -/
def State.meterPublication (s : State) (doneAt : Nat) : State :=
  let l := s.meter.queue.filter fun m => decide (m.age < 3)
  if !s.meter.running || l = [] || s.frame.late.contains 8 || 2000000 < s.frame.off || 2000000 < doneAt then s
  else
    let before := s.meter.feeders
    let s := (s.atNs 2000000).modMeter fun m => { m with queue := m.queue.filter fun x => !l.contains x }
    let s := l.foldl (fun s m => (List.range 4).foldl (fun s f => s.publishFeeder f m (m.wins.getD f {})) s) s
    (s.accounted l).pubEnd before

def execMeterPublication (doneAt : Nat) (s : State) : Res := s.act fun s => s.meterPublication doneAt

/-- METER_ESTIMATE (R487). -/
def State.meterEstimate (s : State) : State :=
  let l := s.meter.queue.filter fun m => decide (3 ≤ m.age)
  if !s.meter.running || l = [] then s
  else
    let before := s.meter.feeders
    let s := s.modMeter fun m => { m with queue := m.queue.filter fun x => !l.contains x }
    let s := l.foldl (fun s m =>
      let s := (List.range 4).foldl (fun s f => s.estimateFeeder f m) s
      (s.inc F.MTR_CNT_EST_FRAMES).log Sev.warning 3 F.MTR_CNT_EST_FRAMES []) s
    (s.accounted l).pubEnd before

def execMeterEstimate (s : State) : Res := s.act State.meterEstimate

/-! ### Reads and services (R485, R489, R492, R495) -/

/-- MTR.HARM_READ (R485). -/
def svcHarmRead (s : State) (_ : Origin) (a : SvcArgs) : State × Nat × List Nat :=
  let f := a.wa.toNat
  let c := a.wb.toNat
  if 4 ≤ f || 7 ≤ c then (s, St.badArg, [])
  else if !s.feederOn f then (s, St.feederOff, [])
  else
    let x := s.feeder f
    match x.harmAt with
    | some t =>
      if t + 1000000000 < s.mono then (s, St.noHarmonics, [])
      else (s, St.done, x.thd.getD c 0 :: (List.range 63).map fun n => (x.harm.getD c []).getD n 0)
    | none => (s, St.noHarmonics, [])

/-- MTR.DEMAND_RESET (R495). -/
def svcDemandReset (s : State) (_ : Origin) (a : SvcArgs) : State × Nat × List Nat :=
  let f := a.wa.toNat
  if 4 ≤ f then (s, St.badArg, [])
  else if !s.feederOn f then (s, St.feederOff, [])
  else (((s.put (F.MTR_FD_MAXDEM_W.at f) 0).put (F.MTR_FD_MAXT_LO_SEC.at f) 0).put (F.MTR_FD_MAXT_HI_SEC.at f) 0, St.done, [])

/-- A write of MTR_ESEL latches the block for the requester (R489). -/
def State.writeEsel (s : State) (rk f : Nat) : State :=
  let s := s.put F.MTR_ESEL_FEEDER f
  let b := (s.feeder (f % 4)).block
  s.setLatch Win.meter rk ((List.range 64).map fun w => b.getD w 0)

def execMtrEsel (who : Requester) (w : Word) (s : State) : Res :=
  s.act fun s => s.gate who 1 fun s => (s.writeEsel who.key (w.toNat % 4)).reply who St.done

/-- A read of MTR_ACC_LO returns the window and latches MTR_ACC_HI (R492). -/
def State.readAcc (s : State) (rk f q : Nat) : State × Nat :=
  let a := (s.feeder f).acc.getD q 0
  (s.setLatch (Win.acc f q) rk [a / 2 ^ 32], a % 2 ^ 32)

def execMtrAccLoRead (who : Requester) (f q : Nat) (s : State) : Res :=
  s.act fun s => let (s, v) := s.readAcc who.key f q; s.reply who St.done [v]

/-- MTR_CMD: CLEAR_ALL (R493). -/
def State.mtrCmd (s : State) (code confirm : Nat) : State × Nat :=
  let r : State × Nat :=
    if code ≠ 1 then (s, St.badArg)
    else if confirm ≠ confirmValue then (s, St.confirm)
    else if s.keys.life ≠ .blank && s.keys.life ≠ .provisioned then (s, St.lifecycle)
    else if s.mode ≠ .stop || s.phase ≠ .running then (s, St.mode)
    else (s.modMeter fun m => { m with clearBy := some (.command F.MTR_CMD_STAT_STATUS.addr) }, St.pending)
  (r.1.cmdStat F.MTR_CMD_STAT_CODE F.MTR_CMD_STAT_STATUS code r.2, r.2)

def execClearAll (who : Requester) (confirm : Nat) (s : State) : Res :=
  s.act fun s => s.gate who 2 fun s => let (s, st) := s.mtrCmd 1 confirm; s.reply who st

/-! ### Pulse outputs (R497, R498) -/

/-- PULSE_EMIT: a pulse starts on the first whole millisecond that the spacing allows, if it lies in the frame in progress. -/
def State.pulseEmit (s : State) (p : Nat) : State :=
  let x := s.meter.pulses.getD p {}
  let w := s.get (F.MTR_PUL_CFG_WIDTH.at p)
  let ready := (Int.ofNat (x.endAt + w * 1000000) + s.time.stepSum).toNat
  let start := ((if x.endAt = 0 then s.now else Nat.max s.now ready) + 999999) / 1000000 * 1000000
  if 8 ≤ p || !s.meter.running || s.flag F.MTR_STAT_SUSPENDED || !s.flag (F.MTR_PUL_CFG_EN.at p) || s.mode = .recovery
      || s.get (F.MTR_PUL_STAT_PENDING.at p) = 0 || s.frameEnd ≤ start then s
  else
    let stop := (Int.ofNat (start + w * 1000000) - s.time.stepSum).toNat
    let s := s.atNs (start - s.frame.start)
    let s := s.modMeter fun m => { m with pulses := setAt m.pulses p { x with endAt := stop } }
    let s := s.put (F.MTR_PUL_STAT_PENDING.at p) (s.get (F.MTR_PUL_STAT_PENDING.at p) - 1)
    s.emitNow .meterPulse [(p : Int), start, w, s.get (F.MTR_PUL_CFG_POL.at p)]

def execPulseEmit (p : Nat) (s : State) : Res := s.act fun s => s.pulseEmit p

/-! ### Saving and power-fail (R501 to R505) -/

/-- A save of the metering state into a copy (R501, R502); the means are over the time since the previous save. -/
def State.meterSave (s : State) (copy kind : Nat) : State :=
  let mean := fun (x : Feeder) => if x.sumT = 0 then 0 else x.sumE / (1000000 * (x.sumT : Int) * 2 ^ 48)
  let c : SaveCopy := {
    valid := true, counter := Nat.max s.meter.copy0.counter s.meter.copy1.counter + 1, kind := kind
    at_ := if s.meter.accTo = 0 then s.frame.start else s.meter.accTo
    frame := if s.meter.accTo = 0 then s.num else s.meter.accNum
    acc := s.meter.feeders.map (·.acc), frac := s.meter.feeders.map (·.frac), dem := s.meter.feeders.map (·.dem),
    maxDem := (List.range 4).map fun f =>
      (s.get (F.MTR_FD_MAXDEM_W.at f), s.get (F.MTR_FD_MAXT_LO_SEC.at f) + 2 ^ 32 * s.get (F.MTR_FD_MAXT_HI_SEC.at f)),
    pulses := (List.range 8).map fun p => ((s.meter.pulses.getD p {}).residue, s.get (F.MTR_PUL_STAT_PENDING.at p)),
    meanP := s.meter.feeders.map mean }
  let s : State := s.modMeter fun m => { m with
    lastSave := s.mono, feeders := m.feeders.map fun (x : Feeder) => { x with sumE := 0, sumT := 0 } }
  let s : State := if copy = 0 then s.modMeter fun m => { m with copy0 := c } else s.modMeter fun m => { m with copy1 := c }
  (s.put F.MTR_SAVE_KIND kind).put F.MTR_SAVE_COPY copy

/-- The copy that does not hold the newest valid save. -/
def State.olderCopy (s : State) : Nat :=
  let a := s.meter.copy0
  let b := s.meter.copy1
  if !a.valid then 0 else if !b.valid then 1 else if a.counter < b.counter then 0 else 1

/-- METER_PERIODIC_SAVE (R501): at the first publication 60 s or more of monotonic time after the previous save. -/
def State.periodicSave (s : State) : State :=
  if s.meter.running && !s.flag F.MTR_STAT_SUSPENDED && s.meter.lastSave + 60000000000 ≤ s.meter.pubAt then
    s.meterSave s.olderCopy 0
  else s

def execMeterPeriodicSave (s : State) : Res := s.act State.periodicSave

/-- Metering is suspended: no energy accumulates, no pulse starts, the demand interval becomes partial (R488, R494, R502). -/
def State.meterSuspend (s : State) : State :=
  let s : State := s.modMeter fun m => { m with
    queue := [], suspendedAt := s.mono, resumeDue := false,
    feeders := m.feeders.map fun (x : Feeder) => { x with
      valid := false, dem := { x.dem with bad := true },
      block := match x.block with | [] => [] | w :: l => (w % 2 ^ 31 + (if bit w 24 then 0 else 2 ^ 24)) :: l } }
  (s.put F.MTR_STAT_SUSPENDED 1).put F.MTR_STAT_VALID 0

/-- The flush of R502, steps 2 to 5: the samples of the frames that wait are accounted, and a flush save is written. -/
def State.meterFlush (s : State) : State :=
  if s.flag F.MTR_STAT_SUSPENDED || !s.meter.running then s
  else
    let before := s.meter.feeders
    let l := s.meter.queue
    let s := l.foldl (fun s m => (List.range 4).foldl (fun s f =>
      if s.feederOn f then s.accountFrame f m (s.winInService f (m.wins.getD f {})) else s) s) s
    let s := (List.range 8).foldl (fun s p => s.pulseAdd p before) s
    ((s.accounted l).meterSave s.olderCopy 1).meterSuspend

/-- A flush that the hold-up does not last for: the copy it was writing fails its CRC, the other one stands (R501, R506). -/
def State.flushLost (s : State) : State :=
  if s.flag F.MTR_STAT_SUSPENDED || !s.meter.running then s
  else
    let copy := s.olderCopy
    (s.modMeter fun m => if copy = 0 then { m with copy0 := { m.copy0 with valid := false } }
      else { m with copy1 := { m.copy1 with valid := false } }).meterSuspend

/-- The newest valid copy. -/
def Meter.newest (m : Meter) : Option SaveCopy :=
  if m.copy0.valid && (!m.copy1.valid || decide (m.copy1.counter < m.copy0.counter)) then some m.copy0
  else if m.copy1.valid then some m.copy1 else none

/-- Step 7 of start-up (R505), with the gap to the first sample; module time has its seed. -/
def State.meterRestore (s : State) : State :=
  let lost := s.flag F.RTC_STAT_OSF
  let gapFrom := fun (t : Nat) => if lost then 2 ^ 32 - 1 else min (2 ^ 32 - 2) ((s.now - t) / 1000000000)
  match s.meter.newest with
  | none =>
    let s : State := s.modMeter fun m => { m with feeders := [{}, {}, {}, {}], pulses := [{}, {}, {}, {}, {}, {}, {}, {}] }
    ((((s.put F.MTR_LOSS_KIND 3).put F.MTR_LOSS_UNSAVED 0).put F.MTR_GAP_GAP (2 ^ 32 - 1)).log Sev.error 3 F.MTR_LOSS_KIND [])
  | some c =>
    let mark := s.meter.marker
    let (kind, unsaved, from_) :=
      match mark.filter fun t => decide (c.at_ < t) with
        | some t => (1, (t - c.at_) / 1000000, t)
        | none => if c.kind = 1 then (0, 0, c.at_) else (2, 60000, c.at_)
    let s : State := s.modMeter fun m => { m with
      feeders := (List.range 4).map fun f =>
        { acc := c.acc.getD f ({} : Feeder).acc, frac := c.frac.getD f ({} : Feeder).frac,
          dem := { c.dem.getD f {} with bad := true, from_ := s.mono } },
      pulses := (List.range 8).map fun p => { residue := (c.pulses.getD p (0, 0)).1 } }
    let s := (List.range 8).foldl (fun s p => s.put (F.MTR_PUL_STAT_PENDING.at p) (c.pulses.getD p (0, 0)).2) s
    let s := (List.range 4).foldl (fun s f =>
      let d := c.maxDem.getD f (0, 0)
      let s := ((s.put (F.MTR_FD_MAXDEM_W.at f) d.1).put (F.MTR_FD_MAXT_LO_SEC.at f) (d.2 % 2 ^ 32)).put
        (F.MTR_FD_MAXT_HI_SEC.at f) (d.2 / 2 ^ 32)
      s.putI (F.MTR_LOSS_EST_MWH.at f) (if kind = 0 then 0 else c.meanP.getD f 0 * unsaved / 3600)) s
    let s := ((s.put F.MTR_LOSS_KIND kind).put F.MTR_LOSS_UNSAVED (min (2 ^ 30 - 1) unsaved)).put F.MTR_GAP_GAP (gapFrom from_)
    if kind = 0 then s.log Sev.info 3 F.MTR_LOSS_KIND (leBytes 4 (s.get F.MTR_GAP_GAP))
    else s.log Sev.warning 3 F.MTR_LOSS_KIND (leBytes 4 unsaved ++ leBytes 4 (s.get F.MTR_GAP_GAP)
      ++ ((List.range 4).map fun f => leBytes 4 (s.get (F.MTR_LOSS_EST_MWH.at f))).flatten)

/-- Metering starts with the frame schedule (step 8), or stops in Recovery. -/
def State.meterRun (s : State) (on : Bool) : State :=
  let s : State := (s.windowsAnew).modMeter fun m => { m with running := on, queue := [], lastSave := s.mono, accTo := 0 }
  (s.putB F.MTR_STAT_RUN on).put F.MTR_STAT_SUSPENDED 0

/-! ### Pairs (R507) -/

/-- The Follower takes the Lead's values of publication m and adds its own increments of the frames after it. -/
def State.adoptMeter (s : State) (num : Nat) (fs : List Feeder) (ps : List Pulse) : State :=
  if !s.flag F.MTR_CFG_PAIR_ADOPT then s
  else
    let own := s.meter.feeders
    s.modMeter fun m => { m with
      feeders := (List.range 4).map fun f =>
        let x := own.getD f {}
        let y := fs.getD f {}
        (x.hist.filter fun p => decide (num < p.1)).foldl (fun z p => addIncrements z p.2)
          { x with acc := y.acc, frac := y.frac, dem := y.dem },
      pulses := (List.range 8).map fun p => { m.pulses.getD p {} with residue := (ps.getD p {}).residue } }

end Sys2Proof.Machine
end

