-- ==== Sys2Proof/Machine/Rovers.lean ====
section
/-!
DEFINITION. The rover side of chapter 09: messages to rovers and their repeats, hold causes, and what opening and closing a
rover session does to them (R411, R412, R414, R422, R425).
-/
namespace Sys2Proof.Machine

/-- Envelope kinds towards a rover (Table 09.6). -/
def Msg.route : Nat := 0x12
def Msg.grant : Nat := 0x13
def Msg.task : Nat := 0x15
def Msg.taskCancel : Nat := 0x18
def Msg.hold : Nat := 0x19
def Msg.config : Nat := 0x1A

/-- Allotment and tasks work, as Table 09.5 states for each of these modes. -/
def State.fleetOn (s : State) : Bool := s.live && (s.mode = .stop || s.mode = .run || s.mode = .hold)

def State.setRover (s : State) (r : Nat) (v : RovFleet) : State :=
  s.modFleet fun f => { f with rovers := SMap.put {} f.rovers r v }

/-- The session of a rover is open. -/
def State.rovOpen (s : State) (r : Nat) : Bool :=
  match (s.rovPos r).ctx with
  | some c => (match s.session c with | some x => decide (x.state = 2) | none => false)
  | none => false

/-- An envelope (Table 08.2): KIND, VER 0x01, the length of its body, SEQ, its body. -/
def envelope (kind q : Nat) (body : List Nat) : List Nat := [kind, 1] ++ leBytes 2 body.length ++ leBytes 4 q ++ body

/-- An envelope leaves in the next DTLS record of the rover's session (R359, R553). -/
def State.roverEmit (s : State) (k : OutKind) (r : Nat) (octets : List Nat) : State :=
  let s := match (s.rovPos r).ctx with
    | some c => (match s.session c with
      | some x => s.setSession c { x with recSeq := x.recSeq + 1 }
      | none => s)
    | none => s
  s.emit k ((r :: octets).map Int.ofNat)

/-- Send an envelope to a rover: its kind and its body; the SEQ it carries. -/
def State.roverSend (s : State) (r kind : Nat) (body : List Nat) : State × Nat :=
  if s.fleetOn && s.rovOpen r then
    let v := s.rover r
    let q := v.seqOut + 1
    ((s.setRover r { v with seqOut := q }).roverEmit .rover r (envelope kind q body), q)
  else (s, 0)

/-- Send an envelope that is repeated until the rover acknowledges it (R414). -/
def State.roverSendAcked (s : State) (r kind : Nat) (body : List Nat) : State :=
  let (s, q) := s.roverSend r kind body
  if q = 0 then s
  else
    let v := s.rover r
    s.setRover r { v with unacked := v.unacked ++ [⟨q, kind, body, s.mono⟩] }

/-! ### Hold causes (R411, R412, R425) -/

/-- Places of the causes in FLT_RV_STAT.CAUSES. -/
def Cause.intrusion : Nat := 0
def Cause.lanyard : Nat := 1
def Cause.knot : Nat := 2
def Cause.host : Nat := 3
def Cause.prog : Nat := 4
def Cause.mode : Nat := 5

/-- What HOLD tells the rover: 0 RELEASE, 1 IN_PLACE, 2 PAUSE. -/
def RovFleet.level (v : RovFleet) : Nat := if v.causes ≠ 0 then 1 else if v.paused then 2 else 0

/-- A rover is HELD (R411). -/
def RovFleet.held (v : RovFleet) : Bool := decide (v.causes ≠ 0)

def State.holdMsg (s : State) (r : Nat) : State :=
  let v := s.rover r
  s.roverSendAcked r Msg.hold [v.level, v.causes]

/-- Give a rover its causes and its pause; a change is told to it. -/
def State.setHold (s : State) (r causes : Nat) (paused : Bool) : State :=
  let v := s.rover r
  if v.causes = causes && v.paused = paused then s
  else (s.setRover r { v with causes := causes, paused := paused }).holdMsg r

def State.addCause (s : State) (r b : Nat) : State :=
  let v := s.rover r
  s.setHold r (withBit v.causes b true) v.paused
def State.clearCauses (s : State) (r : Nat) (bs : List Nat) : State :=
  let v := s.rover r
  s.setHold r (bs.foldl (fun c b => withBit c b false) v.causes) v.paused

/-- Every rover, by rover ID. -/
def roverIds : List Nat := List.range 64

def State.addCauseAll (s : State) (b : Nat) : State := roverIds.foldl (fun s r => s.addCause r b) s

/-- Entry into Stop: MODE for every rover (Table 09.5). -/
def State.fleetStop (s : State) : State := s.addCauseAll Cause.mode
/-- Entry into Hold: every rover is paused. -/
def State.fleetHold (s : State) : State := roverIds.foldl (fun s r => s.setHold r (s.rover r).causes true) s
/-- The first ALLOT frame of Run: MODE and the pause end. -/
def State.fleetRun (s : State) : State :=
  roverIds.foldl (fun s r => s.setHold r (withBit (s.rover r).causes Cause.mode false) false) s

/-- HOLD_ALL (Table 09.11): every rover in use is HELD or PAUSED. -/
def State.holdAll (s : State) : Bool :=
  let rs := roverIds.filter (fun r => s.flag (F.GNS_RV_CFG_EN.at r))
  decide (rs ≠ []) && rs.all (fun r => (s.rover r).held || (s.rover r).paused)

/-! ### Filters (Table 08.5) -/

/-- A rover's filter goes to IDLE. -/
def RovPos.idle (p : RovPos) : RovPos :=
  { p with filter := 0, vcount := 0, gap := 0, locks := [], sol := none, obs := [], closed := false, accepted := false }

/-- Every rover filter goes to IDLE (R357, R385, Table 08.5). -/
def State.filtersIdle (s : State) : State :=
  s.modPos fun p => { p with rovers := p.rovers.map fun q => (q.1, q.2.idle) }

/-- A re-step (R385): every filter goes to IDLE and the epoch in progress counts as missing. -/
def State.filtersRestep (s : State) : State := s.filtersIdle.modPos fun p => { p with epochAt := none }

/-! ### CONFIG and sessions (R421, R422) -/

/-- The radio that sends the stop frame (R304). -/
def State.stopRadio (s : State) : Option Nat := [4, 5].find? (fun r => s.flag (F.RAD_CFG_STOPHB.at r))

/-- A radio address: the EUI-64 of the module, or of its partner, with the radio's number as its last octet (Table 06.5). -/
def radioAddress (partner : Bool) (r : Nat) : List Nat := leBytes 7 (Config.moduleEui partner) ++ [r]

/-- The octets of a key of 128 bits. -/
def key16 (l : List Nat) : List Nat := (l ++ List.replicate 16 0).take 16

/-- What CONFIG carries (R422): the current and the previous KEYID with their keys, SEGMENT, group and port, stop channel, the stop radio
addresses of both modules, timeouts, supervised paths. Its layout is the model's choice (log entry 78). -/
def State.configBody (s : State) (r : Nat) : List Nat :=
  let cur := s.stp.newKey.getD (s.get F.STP_STAT_KEYID)
  let curKey := if s.stp.newKey.isSome then s.workingKey cur else s.stp.key
  let prev := if s.stp.newKey.isSome then s.get F.STP_STAT_KEYID else s.stp.prevKey
  let prevKey := if s.stp.newKey.isSome then s.stp.key else s.stp.prevKeyOctets
  let rad := s.stopRadio.getD 4
  [cur] ++ key16 curKey ++ [prev] ++ key16 prevKey ++ leBytes 2 (s.get F.STP_ETH_SEGMENT) ++ leBytes 4 (s.get F.STP_GRP_ADDR)
    ++ leBytes 2 (s.get F.STP_ETH_PORT) ++ [s.get (F.RAD_STOPCH_CH.at rad)] ++ radioAddress false rad ++ radioAddress true rad
    ++ leBytes 2 (s.get F.STP_TMO_ETH_TMO) ++ [s.get F.STP_TMO_RAD_TMO, s.get (F.FLT_RV_CFG_PATHS.at r)]

def State.sendConfig (s : State) (r : Nat) : State :=
  let s := s.setRover r { s.rover r with configAcked := false }
  s.roverSendAcked r Msg.config (s.configBody r)

/-- What CONFIG carries has changed: every open session gets it. -/
def State.configAll (s : State) : State :=
  (roverIds.filter s.rovOpen).foldl (fun s r => s.sendConfig r) s

/-- A rover's session has opened. -/
def State.fleetOpened (s : State) (r : Nat) : State :=
  let s := s.setRover r { s.rover r with seqOut := 0, unacked := [], configAcked := false }
  let s := s.sendConfig r
  if (s.rover r).level = 0 then s else s.holdMsg r

/-- A rover's session has closed: nothing waits for its ACK. -/
def State.fleetClosed (s : State) (r : Nat) : State :=
  s.setRover r { s.rover r with unacked := [], configAcked := false }

/-- FLEET_RESEND (R414): a message not acknowledged for FLT_TMO.RESEND frames goes out again with its SEQ. -/
def State.fleetResend (s : State) (r q : Nat) : State :=
  let v := s.rover r
  match v.unacked.find? (fun m => m.seq = q) with
  | none => s
  | some m =>
    if s.fleetOn && s.rovOpen r && s.past (m.at_ + s.get F.FLT_TMO_RESEND * frameNs) then
      let s := s.setRover r { v with unacked := v.unacked.map (fun x => if x.seq = q then { x with at_ := s.mono } else x) }
      s.roverEmit .rover r (envelope m.kind q m.body)
    else s

def execFleetResend (r seq : Nat) (s : State) : Res := s.act fun s => s.fleetResend r seq

/-- Take an envelope of a rover by R59, width 32: only an accepted one acts (R362, R414). -/
def State.fromRover (s : State) (r q : Nat) (k : State → State) : State :=
  match (s.rovPos r).ctx with
  | none => s
  | some c =>
    match s.session c with
    | none => s
    | some x =>
      if !s.live || decide (x.state ≠ 2) then s
      else match x.classify (q % 2 ^ 32) with
        | .accepted => k (s.setSession c (((x.accept (q % 2 ^ 32)).complete (q % 2 ^ 32) [])))
        | _ => s

/-- FLT_RV_CMD.HOLD and RELEASE (R411). -/
def State.roverHoldCmd (s : State) (r : Nat) : State := s.addCause r Cause.host
def State.roverReleaseCmd (s : State) (r : Nat) : State :=
  s.clearCauses r ([Cause.host, Cause.knot, Cause.intrusion] ++ (if s.flag F.STP_STAT_DECLARED then [] else [Cause.lanyard]))

def execRoverCmdHold (who : Requester) (r : Nat) (s : State) : Res :=
  s.act fun s => s.gate who 1 fun s => (s.roverHoldCmd r).reply who St.done
def execRoverCmdRelease (who : Requester) (r : Nat) (s : State) : Res :=
  s.act fun s => s.gate who 1 fun s => (s.roverReleaseCmd r).reply who St.done

end Sys2Proof.Machine
end

