-- ==== Sys2Proof/Machine/Time.lean ====
section
/-!
DEFINITION. Module time (chapter 10, R430 to R460): sources and their qualification, steps, slew and holdover, TIME_VALID and
TIME_PPS, leap seconds, PTP, trigger lands, and the transmit timestamp queue.
-/
namespace Sys2Proof.Machine

/-! ### The counter and the rates (R430) -/

/-- The frame schedule runs: from step 8 of start-up on, except in Recovery and in Scrapped. -/
def State.framesOn (s : State) : Bool :=
  decide (s.mode ≠ .recovery) && decide (s.keys.life ≠ .scrapped) &&
    (s.phase = .waitAlign || s.phase = .resolve || s.phase = .enter || s.phase = .running || s.phase = .shutdown)

/-- The counter C at the instant in progress: 400 MHz, at the applied rate. -/
def State.counter (s : State) : Nat :=
  let rho := s.time.rhoF + s.time.rhoS
  s.time.cBase + ((((s.now - s.time.tBase : Nat) : Int) * 2 ^ 49) / (5 * (2 ^ 48 + rho))).toNat

/-- Every change of the rate first re-bases the base pair to the current instant. -/
def State.setRates (s : State) (f sl : Int) : State :=
  let c := s.counter
  let s := s.modTime fun t => { t with cBase := c, tBase := s.now, rhoF := f, rhoS := sl }
  let s := s.putI F.TIM_RATE_FREQ (rdiv (f * 10 ^ 11) (2 ^ 48))
  s.putI F.TIM_SERVO_SLEW (rdiv (sl * 10 ^ 8) (2 ^ 48))

/-- The largest slew, TIM_CFG.SLEW ppm, in units of 2⁻⁴⁸. -/
def State.slewMax (s : State) : Int := (s.get F.TIM_CFG_SLEW : Int) * 2 ^ 48 / 1000000

/-! ### Sources (R435 to R438) -/

def State.qualified (s : State) (src : Nat) : Bool :=
  if src = 1 then s.flag F.TIM_STAT_GNSS_Q else s.flag F.TIM_STAT_PTP_Q
def State.admitted (s : State) (src : Nat) : Bool :=
  if src = 1 then s.flag F.TIM_CFG_GNSS_SRC else s.flag F.TIM_CFG_PTP_SRC
def State.offset (s : State) (src : Nat) : Int := if src = 1 then s.time.offG else s.time.offP

/-- A qualified source more than 1 s away after the first step is discordant (R437). -/
def State.discordant (s : State) (src : Nat) : Bool :=
  s.qualified src && s.time.stepped && decide (1000000000 < (s.offset src).natAbs)

/-- The best source that may be selected. -/
def State.bestSource (s : State) : Option Nat :=
  [1, 2].find? (fun k => s.qualified k && s.admitted k && !s.discordant k)
/-- The best qualified source that is admitted, discordant or not (R441). -/
def State.bestQualified (s : State) : Option Nat := [1, 2].find? (fun k => s.qualified k && s.admitted k)

/-- The bound that an IEEE 1588 clockAccuracy states, in ns (log entry 32). -/
def accuracyNs (a : Nat) : Nat :=
  if a < 0x17 then 2 ^ 32
  else ([1, 1, 1, 1, 1, 1, 1, 3, 10, 25, 100, 250, 1000, 2500, 10000, 25000, 100000, 250000, 1000000, 2500000, 10000000,
         25000000, 100000000, 250000000, 1000000000] : List Nat).getD (a - 0x17) (2 ^ 32)

/-- The uncertainty of a source (Table 10.1), ns. -/
def State.sourceUnc (s : State) (src : Nat) : Nat := if src = 1 then 50 else 250 + accuracyNs s.time.ptpAcc

/-- U (R442), ns, saturating. -/
def State.uncertainty (s : State) : Nat :=
  let st := s.get F.TIM_STAT_STATE
  if st = 1 then
    let src := s.get F.TIM_STAT_SRC
    min (2 ^ 32 - 1) (s.sourceUnc src + (s.offset src).natAbs)
  else if st = 2 then
    let h := s.mono - s.time.holdFrom
    min (2 ^ 32 - 1) (s.time.u0 + s.get F.TIM_SERVO_FUNC * h / 10 ^ 10 + s.get F.TIM_HOLD_AGE * h * h / (72 * 10 ^ 22))
  else 2 ^ 32 - 1

/-! ### Steps (R439, R441, R75) -/

/-- A time mark (R600): SOURCE 0x0E, CODE 0xC004, which names TIM_NOW_NS. -/
def State.timeMark (s : State) : State :=
  let ns := s.now % 1000000000
  (s.modRecs fun r => { r with markAt := r.optime }).logRec Sev.info 0x0E 0xC004
    (leBytes 4 ns ++ leBytes 6 (s.now / 1000000000) ++ leBytes 4 ns)

/-- Module time steps by d ns; the frame in progress becomes transitional and ends at the first k × 10 ms at least 2 ms on. -/
def State.stepTime (s : State) (d : Int) : State :=
  let before := s.now
  let start := ((s.frame.start : Int) + d).toNat
  let d : Int := (start : Int) - s.frame.start
  let t := start + s.frame.off
  let k := (t + 2000000 + 9999999) / 10000000
  let s := s.modFrame fun f => { f with start := start, realign := some k, transitional := true }
  let s := s.modTime fun x => { x with
    stepSum := x.stepSum + d, stepped := true, offG := x.offG - d, offP := x.offP - d, tBase := ((x.tBase : Int) + d).toNat
    trigs := x.trigs.map (fun p => (p.1, if p.2.valid then { p.2 with stepped := true } else p.2)) }
  let s := s.inc F.TIM_STAT_STEPS
  s.log Sev.info 3 F.TIM_STAT_STATE (leBytes 6 (before / 1000000000) ++ leBytes 4 (before % 1000000000)
    ++ leBytes 6 (t / 1000000000) ++ leBytes 4 (t % 1000000000)) |>.timeMark

/-- Select a source, or none. -/
def State.select (s : State) (src : Nat) : State :=
  let s := if s.get F.TIM_STAT_SRC = src then s else s.inc F.TIM_CNT_SRC_CHANGES
  s.put F.TIM_STAT_SRC src

/-- DISCORDANT (R437): a source newly discordant writes an Error record. -/
def State.discordEval (s : State) : State :=
  let g := s.discordant 1
  let p := s.discordant 2
  let was := s.time
  let s := s.modTime fun t => { t with discG := g, discP := p }
  let s := s.putB F.TIM_STAT_DISCORDANT (g || p)
  let rise := fun (s : State) (now old : Bool) =>
    if now && !old then (s.inc F.TIM_CNT_DISCORD).log Sev.error 0 F.TIM_STAT_STATE [] else s
  rise (rise s g was.discG) p was.discP

/-- LEAP, its source and PENDING (R447). -/
def State.utcEval (s : State) : State :=
  let (src, leap, pend) := match s.flag F.TIM_STAT_GNSS_Q, s.time.leapG, s.time.leapP with
    | true, some (l, p), _ => (1, l, p)
    | _, _, some (l, p) => (2, l, p)
    | _, _, none => (3, s.get F.TIM_UTC_LEAP_CFG, 0)
  ((s.put F.TIM_UTC_LSRC src).put F.TIM_UTC_LEAP leap).put F.TIM_UTC_PENDING pend

/-- The time state (Table 10.2). -/
def State.timeEval (s : State) : State :=
  let s := s.discordEval
  let s := match s.get F.TIM_STAT_STATE, s.bestSource with
    | 0, some src =>
      -- the first step of this start
      let s := s.stepTime (s.offset src)
      ((s.put F.TIM_STAT_STATE 1).select src).discordEval
    | 0, none => s
    | 1, some src => s.select src
    | 1, none =>
      let u := s.uncertainty
      let s := s.modTime fun t => { t with u0 := u, holdFrom := s.mono }
      ((s.inc F.TIM_CNT_HOLDOVERS).setRates s.time.rhoF 0).put F.TIM_STAT_STATE 2 |>.select 0
    | _, some src => (s.put F.TIM_STAT_STATE 1).select src
    | _, none => s
  let off := match s.bestQualified with | some k => ofInt 64 (s.offset k) | none => 0
  let s := (s.put F.TIM_SRCOFF_LO_OFF (off % 2 ^ 32)).put F.TIM_SRCOFF_HI_OFF (off / 2 ^ 32)
  (s.put F.TIM_UNC_U s.uncertainty).utcEval

/-- SOURCE_QUALIFY (Table 10.1). -/
def State.sourceQualify (s : State) (src : Nat) : State :=
  if !s.framesOn || s.qualified src then s
  else if src = 1 then
    if 10 ≤ s.time.gnssGood then (s.put F.TIM_STAT_GNSS_Q 1).timeEval else s
  else if src = 2 then
    let o := s.time.ptp.offs
    let span : Int := o.foldl max (o.headD 0) - o.foldl min (o.headD 0)
    match s.time.ptp.parent with
    | some a =>
      if s.get F.TIM_PTP_STAT_PORT = 9 && a.ptpTimescale && a.cls ≤ s.get F.TIM_PTP_PRI_MAXCLASS && 16 ≤ o.length
          && decide (span ≤ 1000) then (s.put F.TIM_STAT_PTP_Q 1).timeEval
      else s
    | none => s
  else s

/-- SOURCE_DISQUALIFY (Table 10.1). -/
def State.sourceDisqualify (s : State) (src : Nat) : State :=
  if !s.framesOn || !s.qualified src then s
  else if src = 1 then
    if 30 ≤ s.time.gnssBad || 10 ≤ s.time.resBad then (s.put F.TIM_STAT_GNSS_Q 0).timeEval else s
  else
    let bad := match s.time.ptp.parent with
      | some a => !a.ptpTimescale || decide (s.get F.TIM_PTP_PRI_MAXCLASS < a.cls)
      | none => true
    if s.get F.TIM_PTP_STAT_PORT ≠ 9 || bad || s.past (s.time.ptp.lastExch + 2000000000) then
      (s.put F.TIM_STAT_PTP_Q 0).timeEval
    else s

def execSourceQualify (src : Nat) (s : State) : Res := s.act fun s => s.sourceQualify src
def execSourceDisqualify (src : Nat) (s : State) : Res := s.act fun s => s.sourceDisqualify src

/-! ### RESTEP (R441) -/

/-- TIM_CMD: the state after it, and its status. -/
def State.timCmd (s : State) (code confirm : Nat) : State × Nat :=
  let r : State × Nat :=
    if code ≠ 1 then (s, St.badArg)
    else if confirm ≠ confirmValue then (s, St.confirm)
    else if s.mode ≠ .stop || s.phase ≠ .running then (s, St.mode)
    else if s.time.restep.isSome then (s, St.busy)
    else if s.bestQualified.isNone then (s, St.noSource)
    else (s.modTime fun t => { t with restep := some (.command F.TIM_CMD_STAT_STATUS.addr) }, St.pending)
  (r.1.cmdStat F.TIM_CMD_STAT_CODE F.TIM_CMD_STAT_STATUS code r.2, r.2)

def execRestep (who : Requester) (confirm : Nat) (s : State) : Res :=
  s.act fun s => s.gate who 2 fun s => let (s, st) := s.timCmd 1 confirm; s.reply who st

/-- Every pending emission of a TRIG land ends ABORTED (R441, R457). -/
def State.abortTrigs (s : State) : State :=
  let os := (SMap.vals s.time.trigs).filterMap (fun t => t.pend.map Prod.snd)
  (s.modTime fun x => { x with trigs := x.trigs.map fun p => (p.1, { p.2 with pend := none }) }).finishAll os St.aborted

/-- An accepted RESTEP at the first frame boundary after it. -/
def State.restepBoundary (s : State) : State :=
  match s.time.restep with
  | none => s
  | some o =>
    let s := s.modTime fun t => { t with restep := none }
    match s.bestQualified with
    | none => s.finish o St.noSource []
    | some src =>
      let s := (s.stepTime (s.offset src)).put F.TIM_STAT_STATE 1 |>.select src
      (s.filtersRestep.abortTrigs).finish o St.done []

/-! ### The time work of a frame (R440, R442, R444, R449) -/

/-- The servo of R440 while LOCKED: the offset shrinks by what was slewed in the frame that ended; new rates are set. In HOLDOVER the
learned frequency is corrected for the temperature (R443). -/
def State.servo (s : State) (len : Nat) : State :=
  let moved := rdiv (s.time.rhoS * (len : Int)) (2 ^ 48)
  let s := s.modTime fun t => { t with offG := t.offG - moved, offP := t.offP - moved }
  if s.get F.TIM_STAT_STATE = 2 then (s.setRates (s.time.rhoF + Config.holdoverFreq s.free) 0).tick
  else if s.get F.TIM_STAT_STATE ≠ 1 then s
  else
    let off := s.offset (s.get F.TIM_STAT_SRC)
    let m := s.slewMax
    let sl := clampI (-m) m (Config.servoSlew s.free off)
    let fr := s.time.rhoF + Config.servoFreq s.free off
    let func := Nat.max 20 (min 65535 (Config.learnedF s.free))
    ((s.setRates fr sl).tick).put F.TIM_SERVO_FUNC func

/-- TIME_VALID, evaluated at frame boundaries only (R444). -/
def State.validEval (s : State) : State :=
  s.putB F.TIM_STAT_TIME_VALID (s.framesOn && decide (s.get F.TIM_STAT_STATE ≠ 0)
    && decide (s.uncertainty ≤ 1000 * s.get F.TIM_HOLD_BOUND) && !s.flag F.TIM_STAT_DISCORDANT)

/-- TOD (R449). -/
def State.todEval (s : State) : State := s.putB F.TIM_STAT_TOD (s.aligned || s.time.seeded)

/-- An inserted second ends: LEAP increases (R448). -/
def State.leapEnd (s : State) : State :=
  match s.time.insFrom with
  | some t0 =>
    if (t0 + 1000) * 1000000 ≤ s.now then
      let up := Option.map (fun (p : Nat × Nat) => (p.1 + 1, 0))
      (s.modTime fun t => { t with insFrom := none, leapG := up t.leapG, leapP := up t.leapP }).utcEval
    else s
  | none => s

def State.setTrig (s : State) (t : Nat) (x : Trig) : State :=
  s.modTime fun y => { y with trigs := SMap.put {} y.trigs t x }

/-- The end of a pulse whose successor's edge falls at `edge`: it ends `gap` before that edge where it would last longer. -/
def pulseEnd (end_ edge gap : Nat) : Nat := if edge < end_ + gap then edge - gap else end_

/-- A strobe land's pulse at a frame boundary; the one before it ends 1 µs before this edge at the latest (R458). -/
def State.strobes (s : State) : State :=
  (List.range 4).foldl (fun s t =>
    if s.get (F.TIM_TRIG_CFG_MODE.at t) = 3 && (!s.flag (F.TIM_TRIG_CFG_SF.at t) || s.num % 10 = 0) then
      let w := s.get (F.TIM_TRIG_CFG_WIDTH.at t)
      let x := s.trig t
      (s.emitNow .trigPulse [(t : Int), s.now, w, s.get (F.TIM_TRIG_CFG_POL.at t), pulseEnd x.strobeEnd s.mono 1000]).setTrig t
        { x with strobeEnd := s.mono + 1000 * w }
    else s) s

/-- Time at a frame boundary; `len` is the length of the frame that ended, ns. -/
def State.timeFrame (s : State) (len : Nat) : State :=
  let s := s.restepBoundary.leapEnd.timeEval
  ((s.servo len).validEval.todEval).strobes

/-! ### TIME_PPS and leap seconds (R445, R446, R448) -/

/-- The first whole TAI second at or after the start of the frame in progress. -/
def State.wholeSecond (s : State) : Nat := (s.frame.start + 999999999) / 1000000000 * 1000000000

/-- TIME_PPS runs: in every mode but Recovery, from the first mode on (R445). -/
def State.ppsOn (s : State) : Bool :=
  s.framesOn && (s.phase = .running || s.phase = .shutdown) && s.flag F.TIM_PPS_EN && (s.aligned || s.flag F.TIM_PPS_UNALIGNED)

def State.ppsPulse (s : State) : State :=
  let w := s.wholeSecond
  let wm := (Int.ofNat w - s.time.stepSum).toNat
  if s.ppsOn && w < s.frameEnd && (s.time.lastPps = 0 || s.time.lastPps + 500000000 ≤ wm) then
    let cut := pulseEnd s.time.ppsEnd wm 1000000
    let width := s.get F.TIM_PPS_WIDTH
    let s := (s.atNs (w - s.frame.start)).modTime fun t => { t with lastPps := wm, ppsEnd := wm + 1000000 * width }
    s.emitNow .pps [(w : Int), width, s.get F.TIM_PPS_POL, cut]
  else s

def execPpsPulse (s : State) : Res := s.act State.ppsPulse

/-- LEAP_SECOND (R448): an inserted second begins at midnight UTC; a deleted one removes 23:59:59. -/
def State.leapSecond (s : State) : State :=
  let ms := s.utcMs ((s.frame.start / 1000000 : Nat) : Int)
  let day := (ms % (dayMs : Int)).toNat
  let pend := s.get F.TIM_UTC_PENDING
  let down := Option.map (fun (p : Nat × Nat) => (p.1 - 1, 0))
  if !s.framesOn || s.time.insFrom.isSome then s
  else if pend = 1 && (day < 10 || dayMs - 10 ≤ day) then
    let t0 := if day < 10 then s.frame.start / 1000000 - day else s.frame.start / 1000000 + (dayMs - day)
    s.modTime fun t => { t with insFrom := some t0 }
  else if pend = 2 && decide (dayMs - 1010 ≤ day) && decide (day < dayMs - 990) then
    (s.modTime fun t => { t with leapG := down t.leapG, leapP := down t.leapP }).utcEval
  else s

def execLeapSecond (s : State) : Res := s.act State.leapSecond

/-! ### The transmit timestamp queue (R459, R460) -/

/-- A stamp enters the queue: whether it was kept. -/
def State.pushStamp (s : State) (id port at_ : Nat) : State × Bool :=
  if 32 ≤ s.time.txq.length then (s.inc F.TIM_TXQ_OVERFLOW, false)
  else (s.modTime fun t => { t with txq := t.txq ++ [⟨id % 65536, port, at_⟩] }, true)

/-- Curator firmware drains one stamp. -/
def State.popStamp (s : State) : State :=
  match s.time.txq with
  | [] => s
  | x :: l =>
    (s.modTime fun t => { t with txq := l }).emit .value
      [(0 : Int), 0, x.id, x.port, x.at_ / 1000000000 % 2 ^ 48, x.at_ % 1000000000]

/-- TX_TIMESTAMP; a pop of the same clock acts first. -/
def execTxTimestamp (id port at_ : Nat) (s : State) (pop : Bool := false) : Res :=
  s.act fun s => (((s.atNs at_).when pop State.popStamp).pushStamp id port (s.frame.start + at_)).1

def execTxqPop (s : State) : Res := s.act State.popStamp

/-- TIM_NOW_NS (R433): the read latches the seconds for its requester. -/
def State.readNow (s : State) (rk : Nat) : State × Nat :=
  let sec := s.now / 1000000000
  (s.setLatch Win.sec rk [sec % 2 ^ 32, sec / 2 ^ 32 % 2 ^ 16], s.now % 1000000000)

def execTimNowNsRead (who : Requester) (at_ : Nat) (s : State) : Res :=
  s.act fun s => let (s, v) := (s.atNs at_).readNow who.key; s.reply who St.done [v]

/-! ### Trigger lands (R455 to R458) -/

/-- An edge on a land in capture mode. -/
def State.trigCapture (s : State) (t : Nat) (falling : Bool) (at_ : Nat) : State :=
  let e := s.get (F.TIM_TRIG_CFG_EDGE.at t)
  if s.framesOn && s.get (F.TIM_TRIG_CFG_MODE.at t) = 1 && (e = 2 || e = b2n falling) then
    let s := s.atNs at_
    let x := s.trig t
    let s := s.setTrig t { x with valid := true, falling := falling, stepped := false, cap := s.frame.start + at_
                                  progCount := min 65535 (x.progCount + 1) }
    s.inc (F.TIM_TRIG_STAT_COUNT.at t)
  else s

def execTrigCapture (t : Nat) (falling : Bool) (at_ : Nat) (s : State) : Res := s.act fun s => s.trigCapture t falling at_

/-- TIM_TRIG_STAT read: the count clears, SEC and NS are latched for the reader. -/
def State.readTrig (s : State) (rk t : Nat) : State × Nat :=
  let w := s.word rk (F.TIM_TRIG_STAT_COUNT.at t).addr
  let c := (s.trig t).cap
  ((s.put (F.TIM_TRIG_STAT_COUNT.at t) 0).setLatch (Win.trig t) rk [c / 1000000000 % 2 ^ 32, c % 1000000000], w)

def execTimTrigStatRead (who : Requester) (t : Nat) (s : State) : Res :=
  s.act fun s => let (s, w) := s.readTrig who.key t; s.reply who St.done [w]

/-- TRIG_EMISSION: the pulse of a pending emission whose instant lies in the frame in progress; its leading edge is the commit
point. -/
def State.trigEmission (s : State) (t : Nat) : State :=
  let x := s.trig t
  match x.pend with
  | some (at_, o) =>
    if s.framesOn && at_ < s.frameEnd then
      let w := s.get (F.TIM_TRIG_CFG_WIDTH.at t)
      let s := (s.atNs (at_ - s.frame.start)).setTrig t { x with pend := none, emitEnd := at_ + 1000 * w }
      (s.emitNow .trigPulse [(t : Int), at_, w, s.get (F.TIM_TRIG_CFG_POL.at t)]).finish o St.done []
    else s
  | none => s

def execTrigEmission (t : Nat) (s : State) : Res := s.act fun s => s.trigEmission t

/-- TIM.TRIG_ARM (R456). -/
def svcTrigArm (s : State) (_ : Origin) (a : SvcArgs) : State × Nat × List Nat :=
  let t := a.wa.toNat
  if 4 ≤ t || 4 ≤ a.wb.toNat then (s, St.badArg, [])
  else if s.get (F.TIM_TRIG_CFG_MODE.at t) ≠ 1 then (s, St.trigMode, [])
  else (s.put (F.TIM_TRIG_CFG_EDGE.at t) a.wb.toNat, St.done, [])

/-- TIM.TRIG_EMIT (R457). -/
def svcTrigEmit (s : State) (o : Origin) (a : SvcArgs) : State × Nat × List Nat :=
  let t := a.wa.toNat
  let w := fun k => (a.d.getD k 0).toNat
  let x := s.trig t
  let at_ := (w 0 + 2 ^ 32 * w 1) * 1000000000 + w 2
  if 4 ≤ t || 1000000000 ≤ w 2 then (s, St.badArg, [])
  else if s.get (F.TIM_TRIG_CFG_MODE.at t) ≠ 2 then (s, St.trigMode, [])
  else if x.pend.isSome || decide (at_ < x.emitEnd && s.now < x.emitEnd) then (s, St.busy, [])
  else if at_ < s.now + 1000000 then (s, St.tooLate, [])
  else (s.setTrig t { x with pend := some (at_, o) }, St.pending, [])

/-- TIM.TRIG_READ (R456). -/
def svcTrigRead (s : State) (_ : Origin) (a : SvcArgs) : State × Nat × List Nat :=
  let t := a.wa.toNat
  if 4 ≤ t then (s, St.badArg, [])
  else if s.get (F.TIM_TRIG_CFG_MODE.at t) ≠ 1 then (s, St.trigMode, [])
  else
    let x := s.trig t
    let sec := x.cap / 1000000000
    (s.setTrig t { x with progCount := 0 }, St.done,
      [sec % 2 ^ 32, sec / 2 ^ 32 % 2 ^ 16, x.cap % 1000000000,
       x.progCount * 65536 + 4 * b2n x.falling + 2 * b2n x.stepped + b2n x.valid])

/-- An abort of a pending emission (R457). -/
def State.abortTime (s : State) (o : Origin) : Option (State × Nat) :=
  match s.time.trigs.find? (fun p => match p.2.pend with | some (_, q) => decide (q = o) | none => false) with
  | some (t, x) => some ((s.setTrig t { x with pend := none }).finish o St.aborted [], St.aborted)
  | none => none

/-! ### PTP (R450 to R452, Table 10.3) -/

def State.modPtp (s : State) (f : PtpSt → PtpSt) : State := s.modTime fun t => { t with ptp := f t.ptp }
def State.ptpPort (s : State) : Nat := s.get F.TIM_PTP_STAT_PORT
/-- The ordinary clock runs. -/
def State.ptpOn (s : State) : Bool := s.framesOn && s.flag F.TIM_PTP_CFG_EN
/-- UNCALIBRATED or SLAVE. -/
def State.ptpSlave (s : State) : Bool := s.ptpOn && (s.ptpPort = 8 || s.ptpPort = 9)
def State.fromParent (s : State) (gm : Nat) : Bool :=
  match s.time.ptp.parent with | some a => decide (a.sender = gm) | none => false

/-- PTP_SYNC_RX. -/
def State.ptpSync (s : State) (seq gm : Nat) (t1 t2 corr : Int) (twoStep : Bool) : State :=
  if !s.ptpSlave || !s.fromParent gm then s
  else if twoStep then s.modPtp fun p => { p with syncSeq := some (seq, t2, corr) }
  else s.modPtp fun p => { p with syncSeq := none, t1 := t1, t2 := t2, syncCorr := corr, haveSync := true }

def execPtpSyncRx (seq : Nat) (gm : Nat) (t1 t2 corr : Int) (twoStep : Bool) (s : State) : Res :=
  s.act fun s => s.ptpSync seq gm t1 t2 corr twoStep

/-- PTP_FOLLOW_UP_RX: completes the two-step Sync of its sequence number. -/
def State.ptpFollowUp (s : State) (seq gm : Nat) (t1 corr : Int) : State :=
  if !s.ptpSlave || !s.fromParent gm then s
  else match s.time.ptp.syncSeq with
    | some (q, t2, c) =>
      if q = seq then s.modPtp fun p => { p with syncSeq := none, t1 := t1, t2 := t2, syncCorr := c + corr, haveSync := true } else s
    | none => s

def execPtpFollowUpRx (seq gm : Nat) (t1 corr : Int) (s : State) : Res := s.act fun s => s.ptpFollowUp seq gm t1 corr

/-- PTP message types (IEEE 1588). -/
def Ptp.sync : Int := 0
def Ptp.delayReq : Int := 1
def Ptp.followUp : Int := 8
def Ptp.delayResp : Int := 9
def Ptp.announce : Int := 11

/-- PTP_DELAY_REQ_TX: a request whose stamp is dropped is left out of the measurement (R460). -/
def State.ptpDelayReq (s : State) (t3 : Int) : State :=
  if !s.ptpSlave || !s.time.ptp.haveSync then s
  else
    let q := (s.time.ptp.reqSeq + 1) % 65536
    let (s, kept) := s.pushStamp q 0 t3.toNat
    (s.modPtp fun p => { p with reqSeq := q, t3 := if kept then some t3 else none }).emitNow .ptp [Ptp.delayReq, q]

def execPtpDelayReqTx (t3 : Int) (s : State) : Res := s.act fun s => s.ptpDelayReq t3

/-- PTP_DELAY_RESP_RX: a complete exchange gives the mean path delay and the offset. -/
def State.ptpDelayResp (s : State) (seq gm : Nat) (t4 corr : Int) : State :=
  let p := s.time.ptp
  match p.t3 with
  | some t3 =>
    if !s.ptpSlave || !s.fromParent gm || p.reqSeq ≠ seq || !p.haveSync then s
    else
      let down := p.t2 - p.t1 - p.syncCorr
      let up := t4 - t3 - corr
      let delay := (down + up) / 2
      let off := -(down - delay)
      let s := s.modTime fun t => { t with
        offP := off, ptp := { t.ptp with t3 := none, offs := (t.ptp.offs ++ [off]).drop (t.ptp.offs.length - 15), lastExch := s.mono } }
      (s.put F.TIM_PTP_STAT_PORT 9).put F.TIM_PTP_DELAY_DELAY (min (2 ^ 32 - 1) delay.toNat)
  | none => s

def execPtpDelayRespRx (seq gm : Nat) (t4 corr : Int) (s : State) : Res := s.act fun s => s.ptpDelayResp seq gm t4 corr

/-- What the module announces as a master (R451): clockClass, clockAccuracy, timeSource. -/
def State.masterClass (s : State) : Nat × Nat × Nat :=
  if s.get F.TIM_STAT_STATE = 1 && s.get F.TIM_STAT_SRC = 1 then (6, 0x21, 0x20)
  else if s.get F.TIM_STAT_STATE = 2 && s.flag F.TIM_STAT_TIME_VALID then (7, 0xFE, 0xA0)
  else (248, 0xFE, 0xA0)

/-- The module's own clockIdentity, from its serial number. -/
def State.ownClock (s : State) : Nat := s.get F.SYS_SERIAL0_CHARS + 2 ^ 32 * s.get F.SYS_SERIAL1_CHARS

/-- The data set the module would announce. -/
def State.ownAnnounce (s : State) : Announce :=
  let (c, a, _) := s.masterClass
  { prio1 := s.get F.TIM_PTP_PRI_PRIORITY1, cls := c, acc := a, prio2 := s.get F.TIM_PTP_PRI_PRIORITY2, gm := s.ownClock, sender := s.ownClock }

/-- The first of two data sets is better (IEEE 1588 data-set comparison). -/
def Announce.better (a b : Announce) : Bool :=
  if a.gm = b.gm then
    if a.steps ≠ b.steps then decide (a.steps < b.steps) else decide (a.sender < b.sender)
  else lexLess [a.prio1, a.cls, a.acc, a.variance, a.prio2, a.gm] [b.prio1, b.cls, b.acc, b.variance, b.prio2, b.gm]
where
  lexLess : List Nat → List Nat → Bool
    | x :: l, y :: m => if x = y then lexLess l m else decide (x < y)
    | _, _ => false

/-- What the registers show of the selected master. -/
def State.ptpShow (s : State) : State :=
  match s.time.ptp.parent with
  | some a =>
    let s := (s.put F.TIM_PTP_STAT_GM_CLASS a.cls).put F.TIM_PTP_STAT_STEPS_REMOVED (min 255 a.steps)
    (s.put F.TIM_PTP_GM_LO_ID (a.gm % 2 ^ 32)).put F.TIM_PTP_GM_HI_ID (a.gm / 2 ^ 32)
  | none =>
    (((s.put F.TIM_PTP_STAT_GM_CLASS 0).put F.TIM_PTP_STAT_STEPS_REMOVED 0).put F.TIM_PTP_GM_LO_ID 0).put F.TIM_PTP_GM_HI_ID 0

/-- PTP_ANNOUNCE_RX: the BMCA follows the best master; a new one is measured afresh. -/
def State.ptpAnnounce (s : State) (a : Announce) : State :=
  if !s.ptpOn || a.domain ≠ s.get F.TIM_PTP_CFG_DOMAIN || a.gm = s.ownClock then s
  else
    let same := s.fromParent a.sender
    let beats := match s.time.ptp.parent with | some p => a.better p | none => true
    let own := s.flag F.TIM_PTP_CFG_MASTER && s.ownAnnounce.better a
    if own then (if same then (s.modPtp fun p => { p with parent := none }).put F.TIM_PTP_STAT_PORT 6 |>.ptpShow else s)
    else if same || beats then
      let leap := a.utcOffset.map (fun u => (u, if a.leap61 then 1 else if a.leap59 then 2 else 0))
      let s := s.modTime fun t => { t with ptpAcc := a.acc, leapP := leap }
      let s := s.modPtp fun p =>
        if same then { p with parent := some a, parentAt := s.mono }
        else { p with parent := some a, parentAt := s.mono, haveSync := false, syncSeq := none, t3 := none, offs := [] }
      (if same then s else s.put F.TIM_PTP_STAT_PORT 8).ptpShow.utcEval
    else s

def execPtpAnnounceRx (a : Announce) (s : State) : Res := s.act fun s => s.ptpAnnounce a

/-- PTP_ANNOUNCE_TIMEOUT: without Announce messages for announceReceiptTimeout intervals the port listens, or becomes master. -/
def State.ptpAnnTimeout (s : State) : State :=
  let dt := s.get F.TIM_PTP_CFG_ANN_TMO * 2 ^ s.get F.TIM_PTP_CFG_LOG_ANN * 1000000000
  if s.ptpOn && s.ptpPort ≠ 6 && s.past (s.time.ptp.parentAt + dt) then
    let s := s.modTime fun t => { t with leapP := none }
    let s := s.modPtp fun p => { p with parent := none, haveSync := false, syncSeq := none, t3 := none, offs := [] }
    (s.put F.TIM_PTP_STAT_PORT (if s.flag F.TIM_PTP_CFG_MASTER then 6 else 4)).ptpShow.utcEval
  else s

def execPtpAnnounceTimeout (s : State) : Res := s.act State.ptpAnnTimeout

/-- PTP_SYNC_TX: two-step; without a stamp no Follow_Up (R460). -/
def State.ptpSyncTx (s : State) : State :=
  if !s.ptpOn || s.ptpPort ≠ 6 then s
  else
    let q := (s.time.ptp.txSyncSeq + 1) % 65536
    let (s, kept) := (s.modPtp fun p => { p with txSyncSeq := q }).pushStamp q 0 s.now
    let s := s.emitNow .ptp [Ptp.sync, q]
    if kept then s.emitNow .ptp [Ptp.followUp, q, s.now] else s

def execPtpSyncTx (s : State) : Res := s.act State.ptpSyncTx

/-- PTP_ANNOUNCE_TX (R451). -/
def State.ptpAnnounceTx (s : State) : State :=
  if !s.ptpOn || s.ptpPort ≠ 6 then s
  else
    let q := (s.time.ptp.txAnnSeq + 1) % 65536
    let (c, a, src) := s.masterClass
    (s.modPtp fun p => { p with txAnnSeq := q }).emitNow .ptp
      [Ptp.announce, q, c, a, src, s.get F.TIM_PTP_PRI_PRIORITY1, s.get F.TIM_PTP_PRI_PRIORITY2, s.get F.TIM_PTP_CFG_DOMAIN,
       s.get F.TIM_UTC_LEAP, s.get F.TIM_STAT_TOD, s.get F.TIM_UTC_PENDING]

def execPtpAnnounceTx (s : State) : Res := s.act State.ptpAnnounceTx

/-- PTP_DELAY_REQ_RX: a master answers with the receive stamp. -/
def execPtpDelayReqRx (seq source : Nat) (t4 : Int) (s : State) : Res :=
  s.act fun s => s.when (s.ptpOn && s.ptpPort = 6) fun s => s.emitNow .ptp [Ptp.delayResp, seq, source, t4]

/-- PTP_TC_FORWARD (R452, Table 10.3): the residence time is added to the correction field of a one-step Sync, of a Delay_Req and of the
Follow_Up of a two-step Sync; `toB` is the port it leaves by. -/
def execPtpTcForward (typ : Nat) (twoStep toB : Bool) (corr : Int) (s : State) (residence : Int := 0) : Res :=
  s.act fun s => s.when (s.framesOn && s.flag F.TIM_PTP_CFG_TC_EN) fun s =>
    let adds := (typ = 0 && !twoStep) || typ = 1 || typ = 8
    s.emitNow .ptp [(typ : Int), 1, b2n toB, if adds then corr + residence else corr]

/-- The ordinary clock at start (step 8) and after a change of TIM_PTP_CFG. -/
def State.ptpStart (s : State) : State :=
  s.put F.TIM_PTP_STAT_PORT (if s.flag F.TIM_PTP_CFG_EN then 4 else 3)

end Sys2Proof.Machine
end

