-- ==== Sys2Proof/Machine/Records.lean ====
section
/-!
DEFINITION. The Accession log and the Vitrine (chapter 14, R595 to R602, R635).
-/
namespace Sys2Proof.Machine

/-! ### Records in MRAM (Table 14.5) -/

/-- A record as 64 octets. -/
def LogRec.octets (r : LogRec) : List Nat :=
  let pay := (List.range 40).map fun k => r.payload.getD k 0 % 256
  let l := leBytes 4 r.acc ++ leBytes 6 r.optime ++ leBytes 4 r.pwrcyc ++ [r.sev, r.source] ++ leBytes 2 r.code
    ++ leBytes 2 r.frame ++ pay
  l ++ leBytes 4 (crc32c l)

/-- Records the log holds at most. -/
def logSlots : Nat := 65536

/-- The age of an accession number (R598). -/
def State.age (s : State) (n : Nat) : Nat :=
  let m := 2 ^ 32 - 1
  (s.get F.LOG_NEWEST_ACC % m + m - n % m) % m

/-- Leave out the oldest record of a severity: the list is in ascending order. -/
def dropOldest (sev : Nat) : List LogRec → List LogRec
  | [] => []
  | r :: l => if r.sev = sev then l else r :: dropOldest sev l

/-- LOG_RECORD_WRITE (R598, R635): the next queued record goes into a free slot, or over the oldest record of the lowest severity,
or is dropped. A write that supply loss cuts off tears its slot. -/
def State.recordWrite (s : State) (torn : Bool) : State :=
  match s.recs.queue with
  | [] => s
  | r :: l =>
    let s : State := s.modRecs fun x => { x with queue := l }
    if s.recs.held.length < logSlots then
      if torn then s.modRecs fun x => { x with torn := x.torn + 1 }
      else s.modRecs fun x => { x with held := x.held ++ [r] }
    else
      let low := (s.recs.held.map LogRec.sev).foldl min 3
      if low ≤ r.sev then
        let h := dropOldest low s.recs.held
        if torn then s.modRecs fun x => { x with held := h, torn := x.torn + 1 }
        else s.modRecs fun x => { x with held := h ++ [r] }
      else s.inc F.LOG_CNT_DROPPED

def execLogRecordWrite (torn : Bool) (s : State) : Res := s.act fun s => s.recordWrite torn

/-- Every queued record is written (R635): before a flush save completes, and before start-up and shutdown end. -/
def State.drainLog (s : State) : State := iter (fun s => s.recordWrite false) s.recs.queue.length s

/-- The records at or above an accession number, at most `n`, and the number to ask for next (R599). -/
def State.logFrom (s : State) (first n : Nat) : List LogRec × Nat :=
  if 2 ^ 31 < s.age first then ([], first)
  else
    let l := s.recs.held.filter fun r => decide (s.age r.acc ≤ s.age first)
    let t := l.take n
    let next := if n < l.length then (match t.getLast? with | some r => nextAcc r.acc | none => first)
      else nextAcc (s.get F.LOG_NEWEST_ACC)
    (t, next)

/-- A write of LOG_SEL (R599). -/
def State.writeLogSel (s : State) (rk n : Nat) : State :=
  let s := s.put F.LOG_SEL_ACC n
  let w := match (s.logFrom n 1).1 with
    | r :: _ => (List.range 16).map fun k => wordAt r.octets k
    | [] => []
  s.setLatch Win.log rk w

def execLogSel (who : Requester) (w : Word) (s : State) : Res :=
  s.act fun s => s.gate who 1 fun s => (s.writeLogSel who.key w.toNat).reply who St.done

/-- A read of LOG_OPTIME_LO latches the high bits. -/
def State.readOptime (s : State) (rk : Nat) : State × Nat :=
  (s.setLatch Win.optime rk [s.recs.optime / 2 ^ 32 % 2 ^ 16], s.recs.optime % 2 ^ 32)

def execLogOptimeLoRead (who : Requester) (s : State) : Res :=
  s.act fun s => let (s, v) := s.readOptime who.key; s.reply who St.done [v]

/-- OPTIME advances (R595): `ns` of monotonic time pass. -/
def State.optimeAdvance (s : State) (ns : Nat) : State :=
  let t := s.recs.optimeRem + ns
  s.modRecs fun r => { r with optime := r.optime + t / 1000000, optimeRem := t % 1000000 }

/-- TIME_MARK (R600): each 3,600,000 ms of OPTIME while LOCKED or HOLDOVER. -/
def execTimeMark (s : State) : Res :=
  s.act fun s => s.when (s.framesOn && decide (s.get F.TIM_STAT_STATE ≠ 0)
    && decide (s.recs.markAt + 3600000 ≤ s.recs.optime)) State.timeMark

/-- LOG.LOG_EVENT (R596, R597). -/
def svcLogEvent (s : State) (o : Origin) (a : SvcArgs) : State × Nat × List Nat :=
  let sev := a.wa.toNat
  let src := match o with | .program k _ _ => 0x80 + k | _ => 0x88
  if 3 ≤ sev then (s, St.badArg, [])
  else if 256 ≤ s.recs.queue.length then (s, St.busy, [])
  else (s.logRec sev src (a.wb.toNat % 65536) (((List.range 10).map fun k => leBytes 4 (a.d.getD k 0).toNat).flatten), St.done, [])

/-! ### The Vitrine (R601, R602) -/

/-- Entries of the ring. -/
def vitSize : Nat := 4096

/-- The class code of completion times: late, not due. -/
def vitLate : Nat := 0xFFFF

/-- The entry of the frame that ends (Table 14.6). -/
def State.vitEntry (s : State) (num : Nat) (fin : FrameIn) : VitEntry :=
  let off : Int := toInt 64 (s.get F.TIM_SRCOFF_LO_OFF + 2 ^ 32 * s.get F.TIM_SRCOFF_HI_OFF)
  { fnum := num
    state := s.mode.code % 8 + 8 * s.role.code + 32 * b2n s.aligned + 64 * s.get F.TIM_STAT_TIME_VALID
      + 128 * s.get F.STP_STAT_DECLARED
    radio := s.recs.commitSent % 64 + 64 * b2n s.recs.trigNow
    done := (List.range 10).map fun c => if s.frame.late.contains c then vitLate else fin.done.getD c 0xFFFE
    consec := (List.range 10).map fun c => s.get (F.FRM_DCLS_CONSEC_CONSEC.at c) % 256
    cause := s.get F.STP_CAUSE_ACTIVE
    cycnum := s.prog.cycles % 2 ^ 32
    firstAcc := s.recs.firstAcc
    nrec := min 65535 s.recs.nrec
    disc := countP (·.disc) (SMap.vals s.light.nodes)
    unc := s.get F.TIM_UNC_U
    offset := clampI (-(2 ^ 31)) (2 ^ 31 - 1) off
    wait := (List.range 16).map fun b => min 255 (fin.waits.getD b 0)
    ptot := (List.range 4).map fun f => toInt 32 ((s.feeder f).block.getD 16 0)
    watch := (List.range 39).map fun k => SMap.getD s.prog.watchVals k 0 }

/-- The entry for the frame that ends is written, and the frames to freezing are counted. -/
def State.vitFrame (s : State) (num : Nat) (fin : FrameIn) : State :=
  let r := s.recs
  let stopped := s.flag F.LOG_VIT_STAT_FROZEN || (r.left = some 0 && !r.trigNow)
  let s : State := if stopped || !(s.frame.c0.running || s.frame.c1.running) then s
    else (s.modRecs fun x => { x with vit := (s.vitEntry num fin :: x.vit).take vitSize }).put F.LOG_VIT_STAT_NEWEST
      ((s.get F.LOG_VIT_STAT_NEWEST + 1) % vitSize)
  s.modRecs fun x => { x with
    left := if x.trigNow then x.left else x.left.map (· - 1), trigNow := false, firstAcc := 0, nrec := 0, commitSent := 0 }

/-- VITRINE_FREEZE: the entry of frame t + POST is written. -/
def execVitrineFreeze (s : State) : Res :=
  s.act fun s => s.when (s.recs.left = some 0 && !s.recs.trigNow) fun s =>
    (s.modRecs fun x => { x with left := none }).put F.LOG_VIT_STAT_FROZEN 1

/-- LOG_VIT_CMD. -/
def State.vitCmd (s : State) (code : Nat) : State × Nat :=
  if code = 1 then (s.vitTrigger none 6, St.done)
  else if code = 2 then
    ((s.put F.LOG_VIT_STAT_FROZEN 0).log Sev.info 1 F.LOG_VIT_STAT_FROZEN [], St.done)
  else (s, St.badArg)

def execFreeze (who : Requester) (s : State) : Res :=
  s.act fun s => s.gate who 1 fun s => let (s, st) := s.vitCmd 1; s.reply who st
def execUnfreeze (who : Requester) (s : State) : Res :=
  s.act fun s => s.gate who 1 fun s => let (s, st) := s.vitCmd 2; s.reply who st

end Sys2Proof.Machine
end

