-- ==== Sys2Proof/Machine/Loops.lean ====
section
/-!
DEFINITION. The loop engine (chapter 07, R320 to R347): sources, the control law, min-select groups and cascades, opening and
closing, hoist axes, and the drive links.
-/
namespace Sys2Proof.Machine

/-! ### Sources (R322) -/

def State.setLoop (s : State) (l : Nat) (x : LoopSt) : State := s.modDrv fun d => { d with loops := SMap.insert d.loops l x }
def State.modLoop (s : State) (l : Nat) (f : LoopSt → LoopSt) : State := s.setLoop l (f (s.loop l))

def State.loopOn (s : State) (l : Nat) : Bool := s.flag (F.LOP_CFG_EN.at l)
def State.loopDiv (s : State) (l : Nat) : Nat := s.get (F.LOP_CFG_DIV.at l)

/-- Monotonic time at which the frame in progress began. -/
def State.monoFrame (s : State) : Nat := s.mono - s.frame.off

/-- The station that fills a word of IW, if one does. -/
def State.stationOfWord (s : State) (i : Nat) : Option Nat :=
  match s.prog.pkg with
  | none => none
  | some p => (p.stations.find? (fun x => x.ins.any (fun m => m.area = 3 && m.off = i))).map StationPlan.st

/-- A word of the meter image E as published (R488). -/
def State.meterWord (s : State) (i : Nat) : Nat :=
  if i < 256 then (s.feeder (i / 64)).block.getD (i % 64) 0
  else if i = 256 then s.meter.pubStat else if i = 257 then s.meter.pubSave else 0

/-- A loop source: its value, whether it is valid, and its timestamp in monotonic ns (Table 07.3). -/
def State.source (s : State) (kind i : Nat) : Int × Bool × Nat :=
  let w := fun n => toInt 32 (n % 2 ^ 32)
  match kind with
  | 0 => (0, true, s.mono)
  | 1 => (s.getI (F.DRV_LBT_VAL_TEMP.at (i % 8)), decide (s.get (F.DRV_LBT_VAL_STATE.at (i % 8)) = 0), s.monoFrame)
  | 2 => (((s.pwm (i % 32)).lastMv : Int), (s.pwm (i % 32)).sampled || decide ((s.pwm (i % 32)).samples ≠ []), (s.pwm (i % 32)).sampleAt)
  | 3 =>
    if 256 ≤ i then (w (s.meterWord i), true, s.meter.pubAt) else (w (s.meterWord i), (s.feeder (i / 64)).valid, (s.feeder (i / 64)).pubAt)
  | 4 => (w (s.input 3 i), (match s.stationOfWord i with | some k => !(s.station k).stale | none => true), s.prog.lastLatch)
  | 5 =>
    match SMap.get? s.net.sensors (i / 6) with
    | some x => ((x.values.getD (i % 6) 0 : Int), x.ever && !x.stale, x.repAt)
    | none => (0, false, 0)
  | 6 => ((s.loop (i % 64)).u, s.loopOn (i % 64), (s.loop (i % 64)).sampleAt)
  | _ => ((s.axis (i % 8)).p, decide ((s.axis (i % 8)).st ≠ .fault), s.mono)

/-- Age of a source in sample periods of loop l. -/
def State.sourceAge (s : State) (l ts : Nat) : Nat := (s.mono - ts) / (125000 * Nat.max 1 (s.loopDiv l))

/-! ### The control law (R323, R324, R332) -/

/-- sat() of R323, and whether it clamps. -/
def satI (z : Int) : Int × Bool := let c := clampI (-(2 ^ 31)) (2 ^ 31 - 1) z; (c, decide (c ≠ z))
def asr16 (z : Int) : Int := fdiv z 65536

def State.omin (s : State) (l : Nat) : Int := s.getI (F.LOP_OMIN_LIM.at l)
def State.omax (s : State) (l : Nat) : Int := s.getI (F.LOP_OMAX_LIM.at l)
def State.imin (s : State) (l : Nat) : Int := s.getI (F.LOP_IMIN_LIM.at l)
def State.imax (s : State) (l : Nat) : Int := s.getI (F.LOP_IMAX_LIM.at l)
/-- FB, where 0x8000_0000 stands for OMIN (R325). -/
def State.loopFb (s : State) (l : Nat) : Int :=
  if s.get (F.LOP_FB_FB.at l) = 0x80000000 then s.omin l else s.getI (F.LOP_FB_FB.at l)

def clipOut (s : State) (l : Nat) (v : Int) : Int := clampI (s.omin l) (s.omax l) v
def State.flagsOut (s : State) (l : Nat) (v : Int) : State :=
  let s := if s.omax l < v then s.putB (F.LOP_STATE_OSAT_HI.at l) true else s
  if v < s.omin l then s.putB (F.LOP_STATE_OSAT_LO.at l) true else s

/-- The loop whose setpoint is the output of loop l, if l is the outer loop of a cascade (R328). -/
def State.innerOf (s : State) (l : Nat) : Option Nat :=
  (List.range 64).find? (fun m => s.loopOn m && s.get (F.LOP_LINK_SPK.at m) = 1 && s.get (F.LOP_LINK_SPI.at m) % 64 = l)

/-- The setpoint of a loop (LOP_LINK.SPK). -/
def State.setpoint (s : State) (l : Nat) : Int :=
  let i := s.get (F.LOP_LINK_SPI.at l)
  match s.get (F.LOP_LINK_SPK.at l) with
  | 1 => (s.loop (i % 64)).u
  | 2 => toInt 32 (s.area 4 (i % 8192) % 2 ^ 32)
  | _ => s.getI (F.LOP_SP_SP.at l)

/-- The integrator moves only as its inner loop allows (R328). -/
def integralStep (s : State) (l : Nat) (old new : Int) : Int :=
  match s.innerOf l with
  | none => new
  | some m =>
    let y := s.loop m
    if !y.closed || y.loss || y.freeze then old
    else if y.u = s.omax m && old < new then old
    else if y.u = s.omin m && new < old then old
    else new

/-- One sample of a closed, unfaulted loop (R323), or the preload of R332. -/
def State.closedSample (s : State) (l : Nat) (pv ff : Int) : State :=
  let x := s.loop l
  let k := fun (f : Fld) => s.getI (f.at l)
  let (e, a1) := satI (x.sp - pv)
  let (p, a2) := satI (asr16 (k F.LOP_KP_K * e))
  let prev := if x.preload then pv else x.pvPrev
  let (d, a3) := satI (asr16 (k F.LOP_KD_K * (prev - pv)))
  let (f, a4) := satI (asr16 (k F.LOP_KF_K * ff))
  let (iRaw, a5) := if x.preload then (x.held - (p + d + f), false)
    else
      let (di, b1) := satI (asr16 (k F.LOP_KI_K * e))
      let (sum, b2) := satI (x.i + di)
      (integralStep s l x.i sum, b1 || b2)
  let i := clampI (s.imin l) (s.imax l) iRaw
  let (v, a6) := satI (p + i + d + f)
  let s := if a1 || a2 || a3 || a4 || a5 || a6 then s.putB (F.LOP_STATE_ASAT.at l) true else s
  let s := if i ≠ iRaw then s.putB (F.LOP_STATE_ISAT.at l) true else s
  let s := s.flagsOut l v
  s.setLoop l { x with i := i, v := v, u := clipOut s l v, pvPrev := pv, pdf := p + d + f, preload := false }

/-- The number of loops that name the same actuator (R325). -/
def State.groupOf (s : State) (l : Nat) : List Nat :=
  let ak := s.get (F.LOP_LINK_ACTK.at l)
  let ai := s.get (F.LOP_LINK_ACTI.at l)
  if ak = 0 then []
  else (List.range 64).filter (fun m => s.loopOn m && s.get (F.LOP_LINK_ACTK.at m) = ak && s.get (F.LOP_LINK_ACTI.at m) = ai)

/-- The safe value of an actuator (R326); a loop without one keeps its output. -/
def State.safeValue (s : State) (l : Nat) : Int :=
  let ai := s.get (F.LOP_LINK_ACTI.at l)
  match s.get (F.LOP_LINK_ACTK.at l) with
  | 1 => (s.get (F.DRV_CH_VAL_STOPVAL.at ai) : Int)
  | 2 => (s.get (F.DRV_LUM_CFG_SAFEDIM.at (ai % 8)) : Int)
  | _ => (s.loop l).u

/-! ### Feedback faults (R333, R334) -/

def maxI (l : List Int) : Int := match l with | [] => 0 | a :: t => t.foldl max a
def minI (l : List Int) : Int := match l with | [] => 0 | a :: t => t.foldl min a

/-- The history of the last FREEZE_M samples, and whether FREEZE stands over it. -/
def freezeJudge (was : Bool) (m : Nat) (dband : Int) (h : List (Int × Bool)) : Bool :=
  let band := maxI (h.map Prod.fst) - minI (h.map Prod.fst)
  if m = 0 then false
  else if was then decide (band ≤ dband)
  else decide (m ≤ h.length) && decide (band ≤ dband) && h.all Prod.snd

/-- LOSS and FREEZE at a sample, with their records. -/
def State.judgeLoop (s : State) (l : Nat) (valid : Bool) (age : Nat) (pv : Int) : State :=
  let x := s.loop l
  let m := s.get (F.LOP_MON_FREEZE_M.at l)
  let loss := !valid || decide (s.get (F.LOP_MON_LOSS_N.at l) < age)
  let e := x.sp - pv
  let h := if loss then x.hist else ((pv, decide (s.getI (F.LOP_ETH_VAL.at l) < |e|)) :: x.hist).take m
  let frz := freezeJudge x.freeze m (s.getI (F.LOP_DBAND_VAL.at l)) h
  let note := fun (s : State) (was now : Bool) (f : Fld) =>
    if was = now then s
    else if now then (s.putB (F.LOP_STATE_FAULT_SEEN.at l) true).log Sev.warning 0 f []
    else s.log Sev.info 1 f []
  let s := s.setLoop l { x with loss := loss, freeze := frz, hist := h }
  note (note s x.loss loss (F.LOP_STATE_LOSS.at l)) x.freeze frz (F.LOP_STATE_FREEZE.at l)

/-- One sample of a loop: sources, judgement, then the law or the fault action (R323, R329, R334). -/
def State.sampleLoop (s : State) (l : Nat) : State :=
  let x := s.loop l
  let (pv0, valid, ts) := s.source (s.get (F.LOP_SRC_PVK.at l)) (s.get (F.LOP_SRC_PVI.at l))
  let ff := (s.source (s.get (F.LOP_SRC_FFK.at l)) (s.get (F.LOP_SRC_FFI.at l))).1
  let pv := (satI pv0).1
  let s := s.setLoop l { x with sp := s.setpoint l, sampled := true, sampleAt := s.mono }
  let s := s.putB (F.LOP_STATE_TRACKING.at l) false
  let was := x.loss || x.freeze
  let s := s.judgeLoop l valid (s.sourceAge l ts) pv
  let y := s.loop l
  let faulted := y.loss || y.freeze
  let act := s.get (F.LOP_CFG_FAULTACT.at l)
  if !y.closed then s.setLoop l { y with pvPrev := pv }
  else if faulted then
    match act with
    | 0 => s.setLoop l { y with pvPrev := pv, held := y.u, preload := true }
    | 1 => s.setLoop l { y with pvPrev := pv, u := s.loopFb l, held := s.loopFb l, preload := true }
    | _ => s.setLoop l { y with pvPrev := pv, closed := false, safeOpen := true, held := y.u }
  else
    let s := if was then s.setLoop l { y with preload := true } else s
    s.closedSample l pv ff

/-! ### Min-select groups (R325, R327) -/

/-- The contribution of a member. -/
def State.contribution (s : State) (single : Bool) (l : Nat) : Int :=
  let x := s.loop l
  if !x.closed then x.held
  else if (x.loss || x.freeze) && !(single && s.get (F.LOP_CFG_FAULTACT.at l) = 0) then s.loopFb l
  else x.u

/-- Give an actuator its value. -/
def State.actuate (s : State) (ak ai : Nat) (v : Int) : State :=
  let n := (clampI 0 65535 v).toNat
  if ak = 1 then s.setPwm ai { s.pwm ai with tgt := n } else s.put (F.DRV_LUM_STAT_DIM.at (ai % 8)) n

/-- A member that did not give the least contribution is tracked (R327). -/
def State.trackLoop (s : State) (ug : Int) (l : Nat) : State :=
  let x := s.loop l
  let tr := s.getI (F.LOP_TRACK_VAL.at l)
  if x.sampled && x.closed && !x.loss && !x.freeze && decide (ug + tr < x.v) then
    let i := max (s.imin l) (x.i - (x.v - ug - tr))
    let v := (satI (x.pdf + i)).1
    (s.putB (F.LOP_STATE_TRACKING.at l) true).setLoop l { x with i := i, v := v, u := clipOut s l v }
  else s

/-- One group in a tick: the actuator takes the least contribution, or its safe value while a member is open under
OPEN_SAFE. -/
def State.groupOutput (s : State) (g : List Nat) : State :=
  match g with
  | [] => s
  | l0 :: _ =>
    let ak := s.get (F.LOP_LINK_ACTK.at l0)
    let ai := s.get (F.LOP_LINK_ACTI.at l0)
    if !g.any (fun l => (s.loop l).sampled) then s
    else if g.any (fun l => (s.loop l).safeOpen && !(s.loop l).closed) then s.actuate ak ai (s.safeValue l0)
    else
      let single := decide (g.length = 1)
      let cs := g.map (fun l => (l, s.contribution single l))
      let ug := minI (cs.map Prod.snd)
      let sel := ((cs.find? (fun p => p.2 = ug)).map Prod.fst).getD l0
      let s := g.foldl (fun s l => s.putB (F.LOP_STATE_SELECTED.at l) (decide (l = sel))) s
      let s := (g.filter (· ≠ sel)).foldl (fun s l => s.trackLoop ug l) s
      s.actuate ak ai ug

/-- The groups of the enabled loops, each named by its lowest loop. -/
def State.loopGroups (s : State) : List (List Nat) :=
  ((List.range 64).filter s.loopOn).filterMap (fun l =>
    let g := s.groupOf l
    if g.head? = some l then some g else none)

/-- The loops that sample in a tick: outer loops first, then ascending (Table 07.2). -/
def State.sampling (s : State) (tau : Nat) : List Nat :=
  let l := (List.range 64).filter (fun l => s.loopOn l && decide (tau % Nat.max 1 (s.loopDiv l) = s.get (F.LOP_CFG_PHASE.at l)))
  let outer := l.filter (fun l => (s.innerOf l).isSome)
  outer ++ l.filter (fun l => !outer.contains l)

/-! ### Opening and closing (R329 to R335) -/

def State.openLoop (s : State) (l : Nat) : State := s.modLoop l fun x => if x.closed then { x with closed := false, held := x.u } else x
def State.closeLoop (s : State) (l : Nat) : State :=
  s.modLoop l fun x => if x.closed then x else { x with closed := true, preload := true, safeOpen := false }

def svcLoopOpen (s : State) (_ : Origin) (a : SvcArgs) : SvcRes :=
  if 63 < a.wa.toNat then (s, St.badArg, []) else (s.openLoop a.wa.toNat, St.done, [])

/-- Loops close only in Run and Hold (R335). -/
def State.canClose (s : State) : Bool := s.mode = .run || s.mode = .hold

def svcLoopClose (s : State) (_ : Origin) (a : SvcArgs) : SvcRes :=
  if !s.canClose then (s, St.mode, [])
  else if 63 < a.wa.toNat then (s, St.badArg, [])
  else (s.closeLoop a.wa.toNat, St.done, [])

/-- The coefficient of index i of LOP.SET_COEF (R330). -/
def coefField (i : Nat) : Option Fld :=
  [F.LOP_KP_K, F.LOP_KI_K, F.LOP_KD_K, F.LOP_KF_K, F.LOP_OMIN_LIM, F.LOP_OMAX_LIM, F.LOP_IMIN_LIM, F.LOP_IMAX_LIM, F.LOP_FB_FB][i]?

def svcSetCoef (s : State) (_ : Origin) (a : SvcArgs) : SvcRes :=
  let l := a.wa.toNat
  match coefField a.wb.toNat with
  | none => (s, St.badArg, [])
  | some f =>
    if 63 < l then (s, St.badArg, [])
    else if (s.loop l).closed then (s, St.loopClosed, [])
    else (s.put (f.at l) ((a.d.getD 0 0).toNat), St.done, [])

def svcSetSp (s : State) (_ : Origin) (a : SvcArgs) : SvcRes :=
  if 63 < a.wa.toNat then (s, St.badArg, []) else (s.put (F.LOP_SP_SP.at a.wa.toNat) a.wb.toNat, St.done, [])

/-- LOP_CMD: OPEN, then CLOSE. -/
def State.lopCmd (s : State) (l w : Nat) : State × Nat :=
  if bit w 1 && !s.canClose then (s, St.mode)
  else
    let s := if bit w 0 then s.openLoop l else s
    (if bit w 1 then s.closeLoop l else s, St.done)

def execLopOpen (who : Requester) (l : Nat) (s : State) : Res :=
  s.act fun s => s.gate who 1 fun s => let (s, st) := s.lopCmd l 1; s.reply who st
def execLopClose (who : Requester) (l : Nat) (s : State) : Res :=
  s.act fun s => s.gate who 1 fun s => let (s, st) := s.lopCmd l 2; s.reply who st

/-- Entry into Stop or Basic: every loop opens, every actuator takes its safe value (R335). -/
def State.loopsSafe (s : State) : State :=
  ((List.range 64).filter s.loopOn).foldl (fun s l =>
    let v := s.safeValue l
    let s := s.modLoop l fun x => { x with closed := false, held := v }
    if s.get (F.LOP_LINK_ACTK.at l) = 0 then s
    else s.actuate (s.get (F.LOP_LINK_ACTK.at l)) (s.get (F.LOP_LINK_ACTI.at l)) v) s

/-- Entry into Run: loops with AUTOCLOSE close (R335). -/
def State.loopsAuto (s : State) : State :=
  ((List.range 64).filter (fun l => s.loopOn l && s.flag (F.LOP_CFG_AUTOCLOSE.at l))).foldl (fun s l =>
    let v := s.safeValue l
    s.modLoop l fun x => { x with closed := true, preload := true, safeOpen := false, held := v }) s

/-- A takeover: closed loops resume from their copied outputs (R336). -/
def State.loopsTaken (s : State) : State :=
  s.modDrv fun d => { d with loops := d.loops.map (fun p => (p.1, { p.2 with preload := p.2.closed, held := p.2.u })) }

/-! ### Hoist axes (R338 to R343) -/

def State.setAxis (s : State) (a : Nat) (x : Axis) : State := s.modDrv fun d => { d with axes := SMap.insert d.axes a x }
def State.axisOn (s : State) (a : Nat) : Bool := s.flag (F.LOP_AX_CFG_EN.at a)

/-- Entry e of the friction or cogging table of axis a. -/
def tableEntry (s : State) (lo hi : Fld) (a e : Nat) : Int :=
  s.getI ((if e % 2 = 0 then lo else hi).at2 a (e / 2))

/-- Friction feed-forward (R339). -/
def State.fric (s : State) (a : Nat) (p : Int) : Int :=
  let pmin := s.getI (F.LOP_AX_PMIN_POS.at a)
  let pmax := s.getI (F.LOP_AX_PMAX_POS.at a)
  let x := clampI 0 (1023 * 65536) (fdiv ((p - pmin) * 1023 * 65536) (pmax - pmin))
  let i := (x / 65536).toNat
  let f := fun e => tableEntry s F.LOP_AX_FR_E0 F.LOP_AX_FR_E1 a e
  f i + asr16 ((f (min (i + 1) 1023) - f i) * (x % 65536))

/-- Cogging feed-forward (R339). -/
def State.cog (s : State) (a : Nat) (p : Int) : Int :=
  let cpr : Int := s.get (F.LOP_AX_CPR_CPR.at a)
  let c := fdiv ((p % cpr) * 1024 * 65536) cpr
  let j := (c / 65536).toNat
  let f := fun e => tableEntry s F.LOP_AX_CG_E0 F.LOP_AX_CG_E1 a e
  f j + asr16 ((f ((j + 1) % 1024) - f j) * (c % 65536))

def signI (z : Int) : Int := if z < 0 then -1 else if z = 0 then 0 else 1

/-- The states in which the trajectory generator moves or holds the axis. -/
def AxisSt.controlled : AxisSt → Bool
  | .holding | .moving | .paused | .homing | .stopping | .engaging => true
  | _ => false

/-- A velocity held to the limits of R338 and R342: no further from the velocity before it than the acceleration allows in 500 µs, and
no faster than the move's speed or, while it slows from more, than before. -/
def profileLimit (v0 speed acc v : Int) : Int :=
  let top := max speed |v0|
  let d := (acc + 1999) / 2000
  clampI (v0 - d) (v0 + d) (clampI (-top) top v)

/-- One step of the trajectory generator, every fourth tick (R338); the profile itself is a free value within the limits
(log entry 31). -/
def State.trajectory (s : State) (a : Nat) (x : Axis) : Axis :=
  let qstop : Int := s.get (F.LOP_AX_QSTOP_VAL.at a)
  let go := fun (tgt speed acc : Int) => let r := Config.profile x.pt x.vt tgt speed acc; { x with pt := r.1, vt := profileLimit x.vt speed acc r.2 }
  let x' := match x.st with
    | .moving => go x.tgt x.speed x.acc
    | .homing => go (-(2 ^ 31)) (s.get (F.LOP_AX_HOMESPD_VAL.at a)) qstop
    | .paused | .stopping => go x.pt 0 x.acc
    | .engaging => go x.pt 0 qstop
    | _ => { x with vt := 0 }
  let vlim : Int := s.get (F.LOP_AX_VLIM_VAL.at a)
  { x' with vc := clampI (-vlim) vlim (x'.vt + asr16 (s.getI (F.LOP_AX_KPP_K.at a) * (x'.pt - x'.p))) }

/-- The velocity loop (R338): the torque, the integrator, and whether a clip acted. -/
def State.torque (s : State) (a : Nat) (x : Axis) : Axis × Bool :=
  let tlim : Int := s.get (F.LOP_AX_TLIM_TLIM.at a)
  let ev := x.vc - x.v
  let i0 := x.i + asr16 (s.getI (F.LOP_AX_KIV_K.at a) * ev)
  let i := clampI (-tlim) tlim i0
  let fr := if |x.vc| < (s.get (F.LOP_AX_INPOS_VDEAD.at a) : Int) then 0 else signI x.vc * s.fric a x.p
  let t0 := asr16 (s.getI (F.LOP_AX_KPV_K.at a) * ev) + i + s.getI (F.LOP_AX_TLIM_GRAV.at a) + fr + s.cog a x.p
  let t := clampI (-tlim) tlim t0
  ({ x with i := i, trq := t }, decide (i ≠ i0) || decide (t ≠ t0))

/-- Calls pending on an axis end alike. -/
def State.endCalls (s : State) (a st : Nat) : State :=
  let x := s.axis a
  let os := x.moveBy.toList ++ x.stopBy ++ x.homeBy.toList
  (s.setAxis a { x with moveBy := none, stopBy := [], homeBy := none }).finishAll os st

/-- An axis enters FAULT (Table 07.5). -/
def State.axisFail (s : State) (a : Nat) : State :=
  if (s.axis a).st = .fault then s
  else
    let s := s.endCalls a St.axisFault
    s.setAxis a { s.axis a with st := .fault, trq := 0, i := 0, vt := 0, vc := 0, enable := false, brakeRel := false, homed := false }

/-- Arrival, standstill, and the brake command of ENGAGING (Table 07.5): 20 ticks at rest. -/
def State.axisRest (s : State) (a : Nat) : State :=
  let x := s.axis a
  let vd : Int := s.get (F.LOP_AX_INPOS_VDEAD.at a)
  let slow := decide (|x.v| ≤ vd)
  let near := decide (|x.p - x.tgt| ≤ (s.get (F.LOP_AX_INPOS_INPOS.at a) : Int))
  let still := if slow && (decide (x.st ≠ .moving) || near) then min 20 (x.still + 1) else 0
  let x := { x with still := still }
  let s := s.setAxis a x
  if still < 20 then s
  else match x.st with
    | .moving =>
      (s.setAxis a { x with st := .holding, moveBy := none, still := 0 }).finishAll x.moveBy.toList St.done
    | .stopping =>
      (s.setAxis a { x with st := .holding, tgt := x.p, pt := x.p, stopBy := [], homeBy := none, still := 0 }).finishAll
        (x.stopBy ++ x.homeBy.toList) St.done
    | .engaging =>
      if x.braking then s else s.setAxis a { x with brakeRel := false, braking := true, ticks := 0, tgt := x.p }
    | _ => s

/-- One tick of one axis, at 76 µs of tick `j` from the position returned in it. -/
def State.axisTick (s : State) (j a : Nat) : State :=
  if !s.axisOn a then s
  else
    let x := s.axis a
    let x := { x with v := (x.p - x.pPrev) * 8000, pPrev := x.p, ticks := x.ticks + 1 }
    let x := if j % 4 = 0 && x.st.controlled then s.trajectory a x else x
    let (x, sat) := if x.st.controlled then s.torque a x
      else if x.st = .releasing then ({ x with trq := s.getI (F.LOP_AX_TLIM_GRAV.at a) }, false)
      else ({ x with trq := 0 }, false)
    let s := s.setAxis a x
    let s := if sat then s.putB (F.LOP_AX_STAT_TSAT.at a) true else s
    s.axisRest a

/-- The axes of the tick before are computed: its 76 µs have passed. -/
def State.axesCompute (s : State) : State :=
  match s.drv.axesDue with
  | none => s
  | some (j, es) =>
    let s : State := s.modDrv fun d => { d with axesDue := none }
    ((List.range 8).filter fun a => es.contains (a / 4)).foldl (fun s a => s.axisTick j a) s

/-- The Lanyard holds an axis (Table 07.5). -/
def State.axisHeld (s : State) (a : Nat) : Bool := s.flag (F.LOP_AX_CFG_LANYARD_STOP.at a) && s.flag F.STP_STAT_DECLARED

/-- An active axis goes to ENGAGING. -/
def State.axisEngage (s : State) (a : Nat) : State :=
  if !(s.axis a).st.active then
    if (s.axis a).st = .releasing then
      s.setAxis a { s.axis a with st := .engaging, braking := true, brakeRel := false, ticks := 0 }
    else s
  else
    let s := s.endCalls a St.aborted
    s.setAxis a { s.axis a with st := .engaging, still := 0, braking := false }

/-- Stop is declared: axes with LANYARD_STOP engage their brakes. -/
def State.axesLanyard (s : State) : State :=
  (List.range 8).foldl (fun s a => if s.flag (F.LOP_AX_CFG_LANYARD_STOP.at a) then s.axisEngage a else s) s
/-- Run and Hold are left. -/
def State.axesLeave (s : State) : State := (List.range 8).foldl (fun s a => s.axisEngage a) s
/-- Hold is entered: a moving axis pauses. -/
def State.axesPause (s : State) : State :=
  (List.range 8).foldl (fun s a =>
    if (s.axis a).st = .moving then s.setAxis a { s.axis a with st := .paused, still := 0 } else s) s
/-- RESUME: a paused axis goes on from standstill. -/
def State.axesResume (s : State) : State :=
  (List.range 8).foldl (fun s a =>
    if (s.axis a).st = .paused then s.setAxis a { s.axis a with st := .moving, still := 0 } else s) s

/-- At a frame boundary a disabled axis that may run is released (Table 07.5). -/
def State.axesFrame (s : State) : State :=
  (List.range 8).foldl (fun s a =>
    let d := s.drive (a / 4) (a % 4)
    if (s.axis a).st = .disabled && (s.mode = .run || s.mode = .hold) && s.axisOn a && bit d.stat 15 && d.ok && !d.fault
        && !s.axisHeld a then
      s.setAxis a { s.axis a with st := .releasing, enable := true, trq := s.getI (F.LOP_AX_TLIM_GRAV.at a), ticks := 0, i := 0, still := 0 }
    else s) s

/-- A new Lead's axes start disabled with the copied HOMED; their calls end ABORTED (R343). -/
def State.axesTaken (s : State) : State :=
  (List.range 8).foldl (fun s a =>
    if (SMap.get? s.drv.axes a).isNone then s
    else
      let s := s.endCalls a St.aborted
      s.setAxis a { s.axis a with st := .disabled, enable := false, brakeRel := false, trq := 0 }) s

def execHoistBrakeRelease (a : Nat) (s : State) : Res :=
  s.act fun s =>
    let x := s.axis a
    s.when (x.st = .releasing && decide (s.get (F.LOP_AX_BRAKE_RELEASE.at a) * 8 ≤ x.ticks)) fun s =>
      s.setAxis a { x with st := .holding, brakeRel := true, pt := x.p, vt := 0, tgt := x.p, still := 0 }

def execHoistBrakeEngage (a : Nat) (s : State) : Res :=
  s.act fun s =>
    let x := s.axis a
    s.when (x.st = .engaging && x.braking && decide (s.get (F.LOP_AX_BRAKE_ENGAGE.at a) * 8 ≤ x.ticks)) fun s =>
      s.setAxis a { x with st := .disabled, enable := false, trq := 0, braking := false, ticks := 0 }

/-- LOP_AX_CMD.RESET (Table 07.5). -/
def State.axisReset (s : State) (a : Nat) : State :=
  let d := s.drive (a / 4) (a % 4)
  if (s.axis a).st = .fault && !bit d.stat 12 && d.ok && !d.fault then
    s.setAxis a { s.axis a with st := .disabled, resetTicks := 8 }
  else s

def execAxisReset (who : Requester) (a : Nat) (s : State) : Res := s.act fun s => s.gate who 1 fun s => (s.axisReset a).reply who St.done

/-- HOIST_MOVE (R342, Table 07.5). -/
def svcHoistMove (s : State) (o : Origin) (b : SvcArgs) : SvcRes :=
  let a := b.wa.toNat
  let tgt := toInt 32 b.wb.toNat
  let speed := toInt 32 (b.d.getD 0 0).toNat
  let acc := toInt 32 (b.d.getD 1 0).toNat
  if 7 < a || speed ≤ 0 || acc ≤ 0 then (s, St.badArg, [])
  else
    let x := s.axis a
    if !x.st.active then (s, St.axisDisabled, [])
    else if x.st = .homing || x.st = .stopping then (s, St.axisBusy, [])
    else if !x.homed then (s, St.notHomed, [])
    else if tgt < s.getI (F.LOP_AX_PMIN_POS.at a) || s.getI (F.LOP_AX_PMAX_POS.at a) < tgt then (s, St.outOfTravel, [])
    else
      let s := s.finishAll x.moveBy.toList St.aborted
      let st := if x.st = .paused then .paused else .moving
      (s.setAxis a { x with st := st, tgt := tgt, speed := speed, acc := acc, moveBy := some o, still := 0 },
       St.pending, [])

/-- An axis decelerates to standstill: a move under way ends with the status given. -/
def State.axisStop (s : State) (a st : Nat) (quick : Bool) (by_ : List Origin) : State :=
  let x := s.axis a
  let acc := if quick || x.st = .homing then (s.get (F.LOP_AX_QSTOP_VAL.at a) : Int) else x.acc
  let homeEnd := if x.st = .homing then x.homeBy.toList else []
  let s := s.setAxis a { x with st := .stopping, acc := acc, moveBy := none, stopBy := x.stopBy ++ by_,
                                homeBy := if x.st = .homing then none else x.homeBy, still := 0 }
  s.finishAll (x.moveBy.toList ++ homeEnd) st

/-- HOIST_STOP (Table 07.5). -/
def svcHoistStop (s : State) (o : Origin) (b : SvcArgs) : SvcRes :=
  let a := b.wa.toNat
  if 7 < a then (s, St.badArg, [])
  else
    let x := s.axis a
    match x.st with
    | .holding => (s, St.done, [])
    | .moving | .paused | .homing => (s.axisStop a St.aborted false [o], St.pending, [])
    | .stopping => (s.setAxis a { x with stopBy := x.stopBy ++ [o] }, St.pending, [])
    | _ => (s, St.axisDisabled, [])

/-- HOIST_HOME (Table 07.5). -/
def svcHoistHome (s : State) (o : Origin) (b : SvcArgs) : SvcRes :=
  let a := b.wa.toNat
  if 7 < a then (s, St.badArg, [])
  else
    let x := s.axis a
    match x.st with
    | .holding => (s.setAxis a { x with st := .homing, homeBy := some o, still := 0 }, St.pending, [])
    | .moving | .paused | .homing | .stopping => (s, St.axisBusy, [])
    | _ => (s, St.axisDisabled, [])

/-- An abort of an axis call (R342): a move or a home stops, a stop goes on. -/
def State.abortAxis (s : State) (o : Origin) : Option (State × Nat) :=
  match s.drv.axes.find? (fun p => p.2.moveBy = some o || p.2.homeBy = some o || p.2.stopBy.contains o) with
  | none => none
  | some (a, x) =>
    if x.moveBy = some o then
      if x.st = .moving || x.st = .paused then some (s.axisStop a St.aborted false [], St.aborted)
      else some (((s.setAxis a { x with moveBy := none }).finish o St.aborted []), St.aborted)
    else if x.homeBy = some o then
      if x.st = .homing then some (s.axisStop a St.aborted false [], St.aborted)
      else some ((s.setAxis a { x with homeBy := none }).finish o St.aborted [], St.aborted)
    else some ((s.setAxis a { x with stopBy := x.stopBy.filter (· ≠ o) }).finish o St.aborted [], St.aborted)

/-! ### The drive link (R344 to R347) -/

def State.setDrive (s : State) (p d : Nat) (x : Drive) : State :=
  s.modDrv fun v => { v with drives := SMap.insert v.drives (4 * p + d) x }

/-- CRC-16 with polynomial 0x1021 and initial value 0xFFFF (R344). -/
def crc16Bit (c : Nat) : Nat := if 32768 ≤ c then Nat.xor ((2 * c) % 65536) 0x1021 else 2 * c
def crc16 (l : List Nat) : Nat := l.foldl (fun c b => iter crc16Bit 8 (Nat.xor c (b * 256))) 0xFFFF

/-- Torque and control octet of the drive of axis a (Table 07.7). -/
def State.axisCtl (s : State) (a : Nat) : Int × Nat :=
  let x := s.axis a
  if !s.axisOn a then (0, 0)
  else
    let t := if s.flag (F.LOP_AX_CFG_DIR.at a) then -x.trq else x.trq
    (t, 128 * b2n x.enable + 64 * b2n x.brakeRel + 32 * b2n (decide (0 < x.resetTicks)))

/-- A frame with its check value, over every octet after the first (R344). -/
def withCrc16 (l : List Nat) : List Nat := l ++ leBytes 2 (crc16 (l.drop 1))

/-- The octets of the down frame of port p (Table 07.7). -/
def State.downFrame (s : State) (p : Nat) : List Nat :=
  let body := leBytes 2 (s.num % 65536) ++ [s.drv.tick]
    ++ (List.range 4).flatMap (fun d => let (t, c) := s.axisCtl (4 * p + d); leBytes 2 (ofInt 16 t) ++ [c]) ++ [0]
  withCrc16 (0xA5 :: body)

/-- The modes in which the links send (R347). -/
def State.linkMode (s : State) : Bool :=
  s.live && (s.mode = .stop || s.mode = .run || s.mode = .hold || s.mode = .basic)

/-- At the start of a tick the down frames go out, and what the last tick's replies left out is counted (R345, R346). -/
def State.linkTick (s : State) (p : Nat) : State :=
  let sent := s.drv.sentOn.contains p
  if !s.linkMode || !s.flag (F.LOP_DL_CFG_EN.at p) then s.modDrv fun d => { d with sentOn := removeN d.sentOn p }
  else
    let s := (List.range 4).foldl (fun s d =>
      if !sent || !bit (s.get (F.LOP_DL_CFG_PRESENT.at p)) d then s
      else
        let x := s.drive p d
        if x.got then s.setDrive p d { x with got := false }
        else
          let s := s.setDrive p d { x with misses := min 3 (x.misses + 1), ok := false, bad := false }
          if x.bad then s else s.inc (F.LOP_DL_CNT_MISSED.at p)) s
    let s := (s.emitAt (some s.now) .driveDown ((p : Int) :: (s.downFrame p).map Int.ofNat)).modDrv fun d => { d with sentOn := insertN d.sentOn p }
    (List.range 4).foldl (fun s d =>
      let a := 4 * p + d
      if 0 < (s.axis a).resetTicks then s.setAxis a { s.axis a with resetTicks := (s.axis a).resetTicks - 1 } else s) s

/-- A reply of a drive (Table 07.8). -/
def State.driveReply (s : State) (p d : Nat) (pos : Int) (stat : Nat) (good : Bool) : State :=
  if !s.flag (F.LOP_DL_CFG_EN.at p) || !bit (s.get (F.LOP_DL_CFG_PRESENT.at p)) d then s
  else if !good then (s.setDrive p d { s.drive p d with bad := true }).inc (F.LOP_DL_CNT_CRC_ERR.at p)
  else
    let s := s.setDrive p d { s.drive p d with got := true, bad := false, misses := 0, fault := false, ok := true, pos := pos, stat := stat }
    let a := 4 * p + d
    if !s.axisOn a then s
    else
      let x := s.axis a
      let raw := if s.flag (F.LOP_AX_CFG_DIR.at a) then -pos else pos
      let s := s.setAxis a { x with p := raw + x.offset }
      let x := s.axis a
      if bit stat 12 || bit stat 11 then s.axisFail a
      else if x.st = .homing && bit stat 8 then
        let hp := s.getI (F.LOP_AX_HOMEPOS_POS.at a)
        let q : Int := s.get (F.LOP_AX_QSTOP_VAL.at a)
        s.setAxis a { x with st := .stopping, acc := q, offset := hp - raw, p := hp, pPrev := x.pPrev + (hp - x.p),
                             pt := x.pt + (hp - x.p), homed := true, still := 0 }
      else if (x.st = .moving && ((bit stat 10 && decide (0 < x.vt)) || (bit stat 9 && decide (x.vt < 0))))
          || (x.st = .homing && bit stat 9) then s.axisStop a St.outOfTravel true []
      else s

def execDriveReply (p d : Nat) (pos : Int) (stat : Nat) (good : Bool) (s : State) : Res :=
  s.act fun s => s.driveReply p d pos stat good

/-- A link fault: three ticks in a row without a good reply (R346). -/
def execDriveLinkFault (p d : Nat) (s : State) : Res :=
  s.act fun s =>
    let x := s.drive p d
    s.when (decide (3 ≤ x.misses)) fun s => (s.setDrive p d { x with fault := true, ok := false }).axisFail (4 * p + d)

/-! ### A tick (R321, Table 07.2) -/

/-- Loops run in Stop (open), Run and Hold. -/
def State.loopMode (s : State) : Bool := s.live && (s.mode = .stop || s.mode = .run || s.mode = .hold)

/-- A local luminaire that no loop group has as its actuator is not dimmed (R313). -/
def State.dimFree (s : State) : State :=
  (List.range 8).foldl (fun s l =>
    if s.get (F.DRV_LUM_STAT_DIM.at l) ≠ 65535 && !(List.range 64).any (fun m => s.loopOn m && s.get (F.LOP_LINK_ACTK.at m) = 2
        && s.get (F.LOP_LINK_ACTI.at m) % 8 = l) then s.put (F.DRV_LUM_STAT_DIM.at l) 65535 else s) s

/-- Tick j of the frame. An engine whose LOOP deadline was missed leaves its outputs; its link repeats its torques (R82). -/
def State.loopTick (s : State) (i : TickIn) : State :=
  let j := s.drv.tick
  if !s.issued 125000 j || !s.live then s
  else
    let s := (s.axesCompute).atNs (j * 125000)
    let s := (s.linkTick 0).linkTick 1
    let es := [0, 1].filter fun e => !s.tickMissed 7 e
    let s := s.tickOver 7
    let s := (s.put F.LOP_LOAD_L0 (min 65535 (Nat.max (s.get F.LOP_LOAD_L0) i.us0))).put F.LOP_LOAD_L1
      (min 65535 (Nat.max (s.get F.LOP_LOAD_L1) i.us1))
    let s := (i.sense.filter fun p => decide (p.1 < 32) && s.flag (F.DRV_CH_CFG_EN.at p.1)).foldl (fun s p => s.senseSample p.1 p.2) s
    let s := if !s.loopMode then s
      else
        let s := s.modDrv fun d => { d with loops := d.loops.map (fun p => (p.1, { p.2 with sampled := false })) }
        let s := ((s.sampling (80 * s.num + j)).filter fun l => es.contains (l / 32)).foldl (fun s l => s.sampleLoop l) s
        let s := if s.mode = .stop then s else s.loopGroups.foldl (fun s g => s.groupOutput g) s
        (s.dimFree).pwmUpdate
    s.modDrv fun d => { d with tick := j + 1, axesDue := some (j, es) }

def execLoopTick (i : TickIn) (s : State) : Res := s.act fun s => s.loopTick i

end Sys2Proof.Machine
end

