-- ==== Sys2Proof/Machine/Mac.lean ====
section
/-!
DEFINITION. AES-128 (FIPS 197) and AES-128-CMAC (NIST SP 800-38B), which the heartbeat of Table 09.11 names.
-/
namespace Sys2Proof.Machine

def aesS0 : List Nat := [
  0x63, 0x7c, 0x77, 0x7b, 0xf2, 0x6b, 0x6f, 0xc5, 0x30, 0x01, 0x67, 0x2b, 0xfe, 0xd7, 0xab, 0x76,
  0xca, 0x82, 0xc9, 0x7d, 0xfa, 0x59, 0x47, 0xf0, 0xad, 0xd4, 0xa2, 0xaf, 0x9c, 0xa4, 0x72, 0xc0]
def aesS1 : List Nat := [
  0xb7, 0xfd, 0x93, 0x26, 0x36, 0x3f, 0xf7, 0xcc, 0x34, 0xa5, 0xe5, 0xf1, 0x71, 0xd8, 0x31, 0x15,
  0x04, 0xc7, 0x23, 0xc3, 0x18, 0x96, 0x05, 0x9a, 0x07, 0x12, 0x80, 0xe2, 0xeb, 0x27, 0xb2, 0x75]
def aesS2 : List Nat := [
  0x09, 0x83, 0x2c, 0x1a, 0x1b, 0x6e, 0x5a, 0xa0, 0x52, 0x3b, 0xd6, 0xb3, 0x29, 0xe3, 0x2f, 0x84,
  0x53, 0xd1, 0x00, 0xed, 0x20, 0xfc, 0xb1, 0x5b, 0x6a, 0xcb, 0xbe, 0x39, 0x4a, 0x4c, 0x58, 0xcf]
def aesS3 : List Nat := [
  0xd0, 0xef, 0xaa, 0xfb, 0x43, 0x4d, 0x33, 0x85, 0x45, 0xf9, 0x02, 0x7f, 0x50, 0x3c, 0x9f, 0xa8,
  0x51, 0xa3, 0x40, 0x8f, 0x92, 0x9d, 0x38, 0xf5, 0xbc, 0xb6, 0xda, 0x21, 0x10, 0xff, 0xf3, 0xd2]
def aesS4 : List Nat := [
  0xcd, 0x0c, 0x13, 0xec, 0x5f, 0x97, 0x44, 0x17, 0xc4, 0xa7, 0x7e, 0x3d, 0x64, 0x5d, 0x19, 0x73,
  0x60, 0x81, 0x4f, 0xdc, 0x22, 0x2a, 0x90, 0x88, 0x46, 0xee, 0xb8, 0x14, 0xde, 0x5e, 0x0b, 0xdb]
def aesS5 : List Nat := [
  0xe0, 0x32, 0x3a, 0x0a, 0x49, 0x06, 0x24, 0x5c, 0xc2, 0xd3, 0xac, 0x62, 0x91, 0x95, 0xe4, 0x79,
  0xe7, 0xc8, 0x37, 0x6d, 0x8d, 0xd5, 0x4e, 0xa9, 0x6c, 0x56, 0xf4, 0xea, 0x65, 0x7a, 0xae, 0x08]
def aesS6 : List Nat := [
  0xba, 0x78, 0x25, 0x2e, 0x1c, 0xa6, 0xb4, 0xc6, 0xe8, 0xdd, 0x74, 0x1f, 0x4b, 0xbd, 0x8b, 0x8a,
  0x70, 0x3e, 0xb5, 0x66, 0x48, 0x03, 0xf6, 0x0e, 0x61, 0x35, 0x57, 0xb9, 0x86, 0xc1, 0x1d, 0x9e]
def aesS7 : List Nat := [
  0xe1, 0xf8, 0x98, 0x11, 0x69, 0xd9, 0x8e, 0x94, 0x9b, 0x1e, 0x87, 0xe9, 0xce, 0x55, 0x28, 0xdf,
  0x8c, 0xa1, 0x89, 0x0d, 0xbf, 0xe6, 0x42, 0x68, 0x41, 0x99, 0x2d, 0x0f, 0xb0, 0x54, 0xbb, 0x16]
/-- The substitution of an octet. -/
def aesSub (x : Nat) : Nat :=
  ([aesS0, aesS1, aesS2, aesS3, aesS4, aesS5, aesS6, aesS7].getD (x / 32) []).getD (x % 32) 0

/-- Multiplication by x in GF(2⁸). -/
def aesTime (x : Nat) : Nat := if x < 128 then 2 * x else Nat.xor (2 * x) 0x11B

/-- Two lists of octets, added bit by bit. -/
def xorL (a b : List Nat) : List Nat := (a.zip b).map fun p => Nat.xor p.1 p.2

/-- The columns of a state of 16 octets, each with its rows shifted. -/
def aesShift (s : List Nat) : List Nat := (List.range 16).map fun i => s.getD ((i + 4 * (i % 4)) % 16) 0

/-- One column mixed. -/
def aesCol (c : List Nat) : List Nat :=
  let a := fun k => c.getD (k % 4) 0
  (List.range 4).map fun i =>
    Nat.xor (Nat.xor (aesTime (a i)) (Nat.xor (aesTime (a (i + 1))) (a (i + 1)))) (Nat.xor (a (i + 2)) (a (i + 3)))
def aesMix (s : List Nat) : List Nat := [0, 4, 8, 12].flatMap fun k => aesCol ((s.drop k).take 4)

/-- The next round key, and the next round constant. -/
def aesNext (k : List Nat) (rc : Nat) : List Nat :=
  let t := ([13, 14, 15, 12].map fun i => aesSub (k.getD i 0))
  let w0 := xorL (k.take 4) (xorL t [rc, 0, 0, 0])
  let w1 := xorL ((k.drop 4).take 4) w0
  let w2 := xorL ((k.drop 8).take 4) w1
  w0 ++ w1 ++ w2 ++ xorL (k.drop 12) w2

/-- One round; the last one mixes no columns. -/
def aesRound (last : Bool) (p : List Nat × List Nat × Nat) : List Nat × List Nat × Nat :=
  let k := aesNext p.2.1 p.2.2
  let s := aesShift (p.1.map aesSub)
  (xorL (if last then s else aesMix s) k, k, aesTime p.2.2)

/-- AES-128 of one block of 16 octets. -/
def aes128 (key blk : List Nat) : List Nat := (aesRound true (iter (aesRound false) 9 (xorL blk key, key, 1))).1

/-- Doubling in GF(2¹²⁸), for the subkeys. -/
def cmacDouble (l : List Nat) : List Nat :=
  let v := ofLe l.reverse
  (leBytes 16 (if v < 2 ^ 127 then 2 * v else Nat.xor (2 * v % 2 ^ 128) 0x87)).reverse

/-- AES-128-CMAC of a list of octets. -/
def cmac (key m : List Nat) : List Nat :=
  let k1 := cmacDouble (aes128 key (List.replicate 16 0))
  let n := (m.length - 1) / 16
  let rest := m.drop (16 * n)
  let last := if rest.length = 16 then xorL rest k1 else xorL ((rest ++ 0x80 :: List.replicate 16 0).take 16) (cmacDouble k1)
  let x := (List.range n).foldl (fun x i => aes128 key (xorL x ((m.drop (16 * i)).take 16))) (List.replicate 16 0)
  aes128 key (xorL x last)

end Sys2Proof.Machine
end

