-- ==== Sys2Proof/Machine/Stop.lean ====
section
/-!
DEFINITION. The Lanyard: Y0, its inputs and outputs, the causes of Stop, the mailbox, heartbeats, declaration and reset of Stop,
and the stop key (R415 to R425).
-/
namespace Sys2Proof.Machine

/-- Bits of STP_CAUSE (Table 09.9). -/
def StopBit.inA : Nat := 0
def StopBit.inB : Nat := 1
def StopBit.discrepancy : Nat := 2
def StopBit.output : Nat := 3
def StopBit.curator : Nat := 4
def StopBit.program : Nat := 5
def StopBit.host : Nat := 6
def StopBit.mode : Nat := 7
def StopBit.y0Restart : Nat := 8

/-- Stop is declared. -/
def State.declared (s : State) : Bool := s.flag F.STP_STAT_DECLARED

/-- A Curator core holds BEAT and runs (R418). -/
def State.beatCore (s : State) : Bool := s.frame.c0.running || s.frame.c1.running

/-- After a tamper event outside Returned no stop heartbeat leaves (R593). -/
def State.mute (s : State) : Bool := s.keys.killed && decide (s.keys.life ≠ .returned)

/-- The STATE octet (Table 09.11). -/
def State.stopState (s : State) (y0 : Bool) : Nat :=
  b2n (s.declared || y0) + 2 * b2n s.holdAll + 4 * s.role.code + 16 * b2n y0

/-- The MAC under the stop key: the first 8 octets of the CMAC. -/
def State.stopMac (s : State) (l : List Nat) : List Nat :=
  if s.stp.key = [] then (List.range 8).map fun k => Config.noKeyMac l k % 256 else (cmac (key16 s.stp.key) l).take 8

/-- The body of a heartbeat (Table 09.11). -/
def State.beatBody (s : State) (y0 : Bool) (count fnum : Nat) : List Nat :=
  let l := [0x48, 0x58, 0x53, 0x42, 1, s.stopState y0] ++ leBytes 2 (s.get F.STP_ETH_SEGMENT) ++ [s.get F.STP_STAT_KEYID, 0]
    ++ leBytes 4 count ++ leBytes 6 fnum ++ leBytes 2 (s.get F.STP_CAUSE_ACTIVE) ++ [0, 0]
  l ++ s.stopMac l

/-- A heartbeat of the core that holds BEAT (R419). -/
def State.heartbeat (s : State) : State :=
  if s.mute then s
  else
    let c := (s.stp.beatCount + 1) % 2 ^ 32
    let s := s.modStp fun x => { x with beatCount := c }
    s.emitNow .heartbeat ((s.beatBody false c s.num).map Int.ofNat)

/-- The further heartbeat at a change of the declared state, where a core can send it. -/
def State.extraBeat (s : State) : State :=
  if s.live && decide (s.mode ≠ .recovery) && s.beatCore && !bit (s.get F.STP_CAUSE_ACTIVE) StopBit.curator then s.heartbeat else s

def State.healthUpdate (s : State) : State :=
  s.putB F.STP_STAT_HEALTHY (s.flag F.STP_STAT_IN_A && s.flag F.STP_STAT_IN_B
    && !bit (s.get F.STP_CAUSE_ACTIVE) StopBit.discrepancy)

def State.stopActive (s : State) (b : Nat) (on : Bool) : State :=
  s.put F.STP_CAUSE_ACTIVE (withBit (s.get F.STP_CAUSE_ACTIVE) b on)

/-- Both outputs as Y0 commands them. -/
def State.lanyardOuts (s : State) (permit : Bool) : State :=
  ((s.putB F.STP_STAT_OUT_A permit).putB F.STP_STAT_OUT_B permit).emitNow .lanyardOut [(b2n permit : Int), (b2n permit : Int)]

/-- Y0 declares Stop (R415): nothing where it stands already. -/
def State.declare (s : State) : State :=
  if s.declared then s
  else
    let s := s.put F.STP_STAT_DECLARED 1
    let s := s.lanyardOuts false
    let s := (s.inc F.STP_CNT_STOPS).put F.STP_LAST_LO_FRAME (s.num % 2 ^ 32)
    let s := s.put F.STP_LAST_HI_FRAME (s.num / 2 ^ 32)
    let s := s.addCauseAll Cause.lanyard
    let s := s.axesLanyard.planeLanyardOn
    (s.vitTrigger (some 2) 3).extraBeat

/-- A cause of Table 09.9 arises: it sets its LATCHED bit, and its ACTIVE bit where the condition persists. -/
def State.stopCause (s : State) (b : Nat) (hold : Bool) : State :=
  let s := s.put F.STP_CAUSE_LATCHED (withBit (s.get F.STP_CAUSE_LATCHED) b true)
  let s := if hold then s.stopActive b true else s
  s.declare

/-! ### Inputs (R416) -/

/-- The channels after a change: how long they differ, and the end of a discrepancy. -/
def State.channels (s : State) : State :=
  let a := s.flag F.STP_STAT_IN_A
  let b := s.flag F.STP_STAT_IN_B
  let disc := bit (s.get F.STP_CAUSE_ACTIVE) StopBit.discrepancy
  let s := s.modStp fun x => { x with
    differSince := if a = b then none else some (x.differSince.getD s.mono)
    discStopSeen := disc && (x.discStopSeen || (!a && !b)) }
  let s := if disc && s.stp.discStopSeen && a && b then
      (s.stopActive StopBit.discrepancy false).modStp fun x => { x with discStopSeen := false }
    else s
  s.healthUpdate

/-- A channel reads Stop or Permit after filtering. -/
def State.lanyardIn (s : State) (b permit : Bool) : State :=
  let f := if b then F.STP_STAT_IN_B else F.STP_STAT_IN_A
  let n := if b then StopBit.inB else StopBit.inA
  let s := (s.putB f permit).channels
  if permit then s.stopActive n false else s.stopCause n true

/-- One sample of a channel, every 100 µs: FILT samples of one level set what the channel reads. -/
def State.lanyardSample (s : State) (b x : Bool) : State :=
  let old := if b then s.stp.filtB else s.stp.filtA
  let n := if old.1 = x then min 16 (old.2 + 1) else 1
  let s := s.modStp fun y => if b then { y with filtB := (x, n) } else { y with filtA := (x, n) }
  let filt := s.get F.STP_CFG_FILT
  let reads := s.flag (if b then F.STP_STAT_IN_B else F.STP_STAT_IN_A)
  if n = filt || (decide (filt < n) && reads ≠ x) then s.lanyardIn b x else s

/-- LANYARD_INPUT_CHANGE: the samples that Y0 takes of a channel, in order. -/
def execLanyardInputChange (b : Bool) (samples : List Bool) (s : State) : Res :=
  s.act fun s => samples.foldl (fun s x => s.lanyardSample b x) s

/-- LANYARD_DISCREPANCY: the channels disagree for longer than DISC × 10 ms. -/
def State.discrepancy (s : State) : State :=
  match s.stp.differSince with
  | some t =>
    if s.past (t + s.get F.STP_CFG_DISC * frameNs) then
      let s := s.modStp fun x => { x with discStopSeen := false }
      (s.stopCause StopBit.discrepancy true).healthUpdate
    else s
  | none => s

def execLanyardDiscrepancy (s : State) : Res := s.act State.discrepancy

/-! ### Outputs (R417) -/

/-- The readback of an output: the cause OUTPUT stands while one differs from what Y0 commands. -/
def State.readback (s : State) (b level : Bool) : State :=
  let s := s.putB (if b then F.STP_STAT_OUT_B else F.STP_STAT_OUT_A) level
  if level = s.declared then s.stopCause StopBit.output true
  else if s.flag F.STP_STAT_OUT_A = !s.declared && s.flag F.STP_STAT_OUT_B = !s.declared then s.stopActive StopBit.output false
  else s

def execLanyardOutputReadback (b level : Bool) (s : State) : Res := s.act fun s => s.readback b level

/-- The output test: a permitting output is switched off for 300 µs, A and B in turn; its readback shows whether it went off. -/
def State.outputTest (s : State) (b ok : Bool) : State :=
  if !s.flag F.STP_CFG_OTEST || s.declared || b ≠ s.stp.testNextB then s
  else
    let s := (s.modStp fun x => { x with testNextB := !b }).emitNow .lanyardOut [(b2n b : Int), (b2n !b : Int)]
    let s := s.emitNow .lanyardOut [1, 1]
    if ok then s else (s.inc F.STP_CNT_OTEST_FAIL).stopCause StopBit.output true

def execOutputTest (b ok : Bool) (s : State) : Res := s.act fun s => s.outputTest b ok

/-- Y0 was restarted by its own watchdog. -/
def execY0Watchdog (s : State) : Res := s.act fun s => s.stopCause StopBit.y0Restart false

/-! ### Mailbox (R418) -/

/-- Y0's access to bank 15 is granted: it is out of reset, and holds tickets of the bank (R27, R36). -/
def State.y0Reads (s : State) : Bool := s.awake 23 && decide (s.get (F.GAL_TKT_TKT3.at2 15 5) ≠ 0)

/-- The core that holds BEAT writes the mailbox: frame number, mode, PROGRAM and MODE requests. For Y0 it has advanced where Y0 can read
it. -/
def State.writeMailbox (s : State) (prog : Bool) : State :=
  let n := if s.y0Reads then 0 else s.stp.missed + 1
  s.modStp fun x => { x with missed := n, mbx := ⟨s.num % 2 ^ 32, s.mode.code, prog, s.mode = .basic || s.mode = .recovery⟩ }

/-- Declarations that the program or the host asked for are complete. -/
def State.declDone (s : State) : State :=
  let l := s.stp.declBy
  (s.modStp fun x => { x with declBy := [] }).finishAll l St.done

/-- MAILBOX_READ: a mailbox that has advanced ends the cause CURATOR; Y0 has obeyed the requests in it as they were written. -/
def State.readMailbox (s : State) (good : Bool) : State :=
  let m := s.stp.mbx
  if !s.awake 23 then s
  -- the bank refuses an access without tickets (R36)
  else if !s.y0Reads then (s.inc (F.GAL_BSTAT_DENIED.at 15)).emit .fault [23, 0x10780000]
  else if !good then s
  else if s.stp.seen = some m.num then s.declDone
  else
    let s := s.modStp fun x => { x with seen := some m.num, curatorAt := none }
    (((s.put F.STP_STAT_MBX_OK 1).put F.STP_STAT_INJECTING 0).stopActive StopBit.curator false).declDone

def execMailboxRead (good : Bool) (s : State) : Res := s.act fun s => s.readMailbox good

/-- MAILBOX_MISS: the mailbox has not advanced for MBX_MISS frames. -/
def State.mailboxMiss (s : State) : State :=
  if s.stp.missed < s.get F.STP_CFG_MBX_MISS || bit (s.get F.STP_CAUSE_ACTIVE) StopBit.curator then s
  else
    let s := s.modStp fun x => { x with curatorAt := some s.mono }
    (s.put F.STP_STAT_MBX_OK 0).stopCause StopBit.curator true

def execMailboxMiss (s : State) : Res := s.act State.mailboxMiss

/-- Y0's own heartbeat while CURATOR is ACTIVE (R419): STATE.Y0 = 1, STOP = 1, FNUM extrapolated from the last mailbox. -/
def State.y0Beat (s : State) : State :=
  if !bit (s.get F.STP_CAUSE_ACTIVE) StopBit.curator || s.mute then s
  else
    let c := (s.stp.y0Count + 1) % 2 ^ 32
    let s := (s.modStp fun x => { x with y0Count := c }).put F.STP_STAT_INJECTING 1
    s.emitNow .y0Heartbeat ((s.beatBody true c (s.stp.mbx.num + s.stp.missed)).map Int.ofNat)

def execY0Heartbeat (s : State) : Res := s.act State.y0Beat

/-- The MODE cause while start-up, Basic, Recovery or a halt lasts. While both Curator cores are out no request of theirs reaches Y0
(R84, R418): it comes with the next mailbox. -/
def State.modeCause (s : State) : State :=
  if s.phase = .running && !s.beatCore then s
  else
  let s := s.modStp fun x => { x with mbx := { x.mbx with mode := s.mode.code, modeReq := s.mode = .basic || s.mode = .recovery } }
  if (s.phase = .running || s.phase = .shutdown) && (s.mode = .stop || s.mode = .run || s.mode = .hold || s.mode = .shadow) then
    s.stopActive StopBit.mode false
  else s.stopCause StopBit.mode true

/-- The BEAT work of a frame (R418, R419): the heartbeat and the mailbox, unless it was late or no core can do it. -/
def State.beatWork (s : State) (late : Bool) : State :=
  if s.mode = .recovery || !s.live then s
  else if late || !s.beatCore then s.modStp fun x => { x with missed := x.missed + 1 }
  else
    let s := (s.heartbeat).writeMailbox false
    let cause := s.mode = .basic || s.mode = .recovery
    if s.phase = .running && bit (s.get F.STP_CAUSE_ACTIVE) StopBit.mode ≠ cause then s.modeCause else s

/-! ### Declaration and reset (R415, R424, R425) -/

/-- STP.DECLARE_STOP: the mailbox carries the PROGRAM request, and Y0 declares Stop. -/
def svcDeclareStop (s : State) (o : Origin) (_ : SvcArgs) : SvcRes :=
  let s := s.writeMailbox true
  let s := s.modStp fun x => { x with declBy := x.declBy ++ [o] }
  (s.stopCause StopBit.program false, St.pending, [])

/-- What refuses a reset (R424). -/
def State.resetRefusal (s : State) : Option Nat :=
  if !s.flag F.STP_STAT_IN_A || !s.flag F.STP_STAT_IN_B || bit (s.get F.STP_CAUSE_ACTIVE) StopBit.discrepancy then
    some St.notHealthy
  else if s.get F.STP_CAUSE_ACTIVE ≠ 0 || !(s.mode = .stop || s.mode = .run || s.mode = .hold || s.mode = .shadow)
      || decide (s.phase ≠ .running) then some St.causePersists
  else none

/-- Y0 permits (R424). -/
def State.permit (s : State) : State :=
  let was := s.declared
  let s := (s.put F.STP_CAUSE_LATCHED 0).put F.STP_STAT_DECLARED 0
  let s := (s.lanyardOuts true).inc F.STP_CNT_RESETS
  let s := s.planeLanyardOff
  if was then s.extraBeat else s

/-- STP_CMD: the state after it, and its status. A reset that a Lead accepts goes to its Follower. -/
def State.stpCmd (s : State) (who : Requester) (code confirm : Nat) : State × Nat :=
  let r : State × Nat :=
    if code = 1 then (s.stopCause StopBit.host false, St.done)
    else if code ≠ 2 then (s, St.badArg)
    else match who with
      | .engine _ => (s, St.access)
      | _ =>
        if confirm ≠ confirmValue then (s, St.confirm)
        else match s.resetRefusal with
          | some st => (s, st)
          | none =>
            let s := s.permit
            (if s.role = .lead then s.emitNow .copyRecord [(0 : Int), 1] else s, St.done)
  (r.1.cmdStat F.STP_CMD_STAT_CODE F.STP_CMD_STAT_STATUS code r.2, r.2)

def execStpDeclare (who : Requester) (confirm : Nat) (s : State) : Res :=
  s.act fun s => s.gate who 2 fun s => let (s, st) := s.stpCmd who 1 confirm; s.reply who st
def execStpReset (who : Requester) (confirm : Nat) (s : State) : Res :=
  s.act fun s => s.gate who 2 fun s => let (s, st) := s.stpCmd who 2 confirm; s.reply who st

/-! ### The stop key (R421) -/

/-- A key for the stop function is installed, or another slot is named: every open rover session gets CONFIG first. -/
def State.stopKeyNew (s : State) (slot : Nat) : State :=
  (s.modStp fun x => { x with newKey := some slot, newKeyAt := s.mono }).configAll

/-- A start: K0 loads the working copy of the stop key; a key installed and not yet in effect stays due (R421). -/
def State.stopKeyStart (s : State) : State :=
  let id_ := s.get F.STP_STAT_KEYID
  let slot := s.get F.STP_CFG_KEYSLOT
  let key := s.workingKey id_
  s.modStp fun x => { x with key := key, newKey := if slot = id_ then none else some slot, newKeyAt := s.mono }

/-- STOP_KEY_SWITCH: at a superframe, once every open rover session has acknowledged its CONFIG, or 600 superframes after
installation. -/
def State.stopKeySwitch (s : State) : State :=
  match s.stp.newKey with
  | none => s
  | some k =>
    if s.num % 10 = 0 && (roverIds.all (fun r => !s.rovOpen r || (s.rover r).configAcked) || s.past (s.stp.newKeyAt + 600 * superNs)) then
      let old := s.get F.STP_STAT_KEYID
      let key := s.workingKey k
      (s.put F.STP_STAT_KEYID k).modStp fun x => { x with
        prevKey := old, prevKeyOctets := x.key, newKey := none, key := key }
    else s

def execStopKeySwitch (s : State) : Res := s.act State.stopKeySwitch

end Sys2Proof.Machine
end

