-- ==== Sys2Proof/Machine/Wired.lean ====
section
/-!
DEFINITION. The wired ports of chapter 12 but for HXM: the Ethernet switch and the module's own interfaces (R511 to R514), the
diagnostics of a Cleat station (R519), the DALI-2 lines (R520 to R524), and the observation lands (R535, R536).
-/
namespace Sys2Proof.Machine

/-! ### Ethernet (R511 to R514) -/

/-- The broadcast address. -/
def macBroadcast : Nat := 2 ^ 48 - 1
/-- A group address, broadcast among them. -/
def isGroupMac (m : Nat) : Bool := bit m 40

def State.ethDrop (s : State) (p : Nat) : State := s.inc (F.ETH_PCNT_DROPS.at p)
def State.ethErr (s : State) (p : Nat) : State := s.inc (F.ETH_PCNT_RX_ERR.at p)

/-- The entry of an address that has not aged out (R512). -/
def State.macPort (s : State) (m : Nat) : Option Nat :=
  (s.wired.macs.find? fun e => decide (e.mac = m) && decide (s.mono < e.at_ + 300000000000)).map MacEntry.port

/-- Learn the port of a source address: at most 1,024 entries. -/
def State.macLearn (s : State) (m p : Nat) : State :=
  let l := s.wired.macs.filter fun e => decide (e.mac ≠ m) && decide (s.mono < e.at_ + 300000000000)
  if isGroupMac m || 1024 ≤ l.length then s.modWired fun w => { w with macs := l }
  else s.modWired fun w => { w with macs := l ++ [⟨m, p, s.mono⟩] }

/-- The egress queue of a frame (R512): priority 7 and CS7 enter queue 3 (log entry 40). -/
def EthFrame.queue (f : EthFrame) : Nat := if f.pcp = 7 || f.cs7 then 3 else min 2 (f.pcp / 2)

/-- A frame leaves by a port. -/
def State.ethOut (s : State) (p : Nat) (f : EthFrame) : State :=
  s.emitNow .eth [(p : Int), f.queue, f.src, f.dst, f.len]

/-- Count a frame against the storm limit of its port in this second: whether it passes. -/
def State.stormPass (s : State) (p : Nat) : State × Bool :=
  let sec := s.now / 1000000000
  let s : State := if s.wired.stormSec = sec then s
    else s.modWired fun w => { w with stormSec := sec, stormCnt := [], storm := [] }
  let n := SMap.getD s.wired.stormCnt p 0 + 1
  let ovr := s.get F.ETH_CFG_STORM < n
  (s.modWired fun w => { w with stormCnt := SMap.put 0 w.stormCnt p n,
                                storm := if ovr then SMap.put false w.storm p true else w.storm }, !ovr)

/-- ETH_FRAME_RX: ports 0 and 1 are switched; the service port (2) is not. -/
def State.ethRx (s : State) (p : Nat) (f : EthFrame) : State :=
  let max := if f.vid.isSome then 1522 else 1518
  if !s.framesOn || 3 ≤ p then s
  else if f.bad || max < f.len then s.ethErr p
  else if p = 2 then s
  else
    let s := s.macLearn f.src p
    if f.own then s
    else match (if isGroupMac f.dst then none else s.macPort f.dst) with
      | some q => if q = p then s else s.ethOut q f
      | none =>
        let (s, pass) := s.stormPass p
        if pass then s.ethOut (1 - p) f else s.ethDrop p

def execEthFrameRx (p : Nat) (f : EthFrame) (s : State) : Res := s.act fun s => s.ethRx p f

/-- An interface accepts a frame with a tag (R514). -/
def State.vlanOk (s : State) (service : Bool) (vid : Option Nat) : Bool :=
  if service || !s.flag (F.ETH_IF_VLAN_TAG.at 0) then true
  else decide (vid = some (s.get (F.ETH_IF_VLAN_VID.at 0)))

/-- The module answers on an interface: in every mode; in Recovery only the service interface works (R534). -/
def State.ifOn (s : State) (service : Bool) : Bool := s.framesOn || (service && s.phase = .running)

/-- The IEEE 802.1Q tag of a frame that the module sends on an interface: the default priority and the VID (R514). -/
def State.vlanTag (s : State) (service : Bool) : List Int :=
  if service || !s.flag (F.ETH_IF_VLAN_TAG.at 0) then []
  else [(s.get (F.ETH_IF_VLAN_PCP.at 0) : Int), s.get (F.ETH_IF_VLAN_VID.at 0)]

/-- The module owns an address on an interface: its own, and on the site interface of a Lead or a Solo the segment's (R553). -/
def State.ownsIp (s : State) (service : Bool) (ip : Nat) : Bool :=
  decide (ip = s.get (F.ETH_IF_IP_ADDR.at (b2n service)))
    || (!service && s.role = .lead && decide (ip = s.get F.SPL_VIP_ADDR))

def execArpRequest (service : Bool) (ip : Word) (vid : Option Nat) (s : State) : Res :=
  s.act fun s => s.when (s.ifOn service && s.vlanOk service vid && s.ownsIp service ip.toNat) fun s =>
    s.emitNow .arp ([(b2n service : Int), ip.toNat] ++ s.vlanTag service)

def execIcmpEcho (service : Bool) (ip : Word) (vid : Option Nat) (id seq : Nat) (s : State) : Res :=
  s.act fun s => s.when (s.ifOn service && s.vlanOk service vid && s.ownsIp service ip.toNat) fun s =>
    s.emitNow .icmp ([(b2n service : Int), ip.toNat, id, seq] ++ s.vlanTag service)

/-- ETH_LINK_CHANGE. -/
def execEthLinkChange (p : Nat) (up : Bool) (s : State) : Res :=
  s.act fun s => s.when (decide (p < 3)) fun s => s.put F.ETH_STAT_LINK (withBit (s.get F.ETH_STAT_LINK) p up)

/-! ### Cleat diagnostics (R519) -/

/-- CLB.STATION_DIAG. -/
def svcStationDiag (s : State) (_ : Origin) (a : SvcArgs) : State × Nat × List Nat :=
  let st := a.wa.toNat
  if 128 ≤ st then (s, St.badArg, [])
  else match s.plan st with
    | none => (s, St.stationAbsent, [])
    | some p =>
      let x := s.station st
      (s, St.done, [x.st, x.diag.getD 0 0, x.diag.getD 1 0, x.statOct, p.wdog, 256 * p.o + p.i, 0, 0])

/-! ### DALI-2 lines (R520 to R524) -/

def State.line (s : State) (l : Nat) : DaliLine := s.wired.lines.getD l {}
def State.setLine (s : State) (l : Nat) (x : DaliLine) : State :=
  s.modWired fun w => { w with lines := setAt w.lines l x }

/-- The lines send in Stop, Run and Hold (Table 02.5). -/
def State.daliOn (s : State) : Bool :=
  (s.phase = .running || s.phase = .shutdown) && (s.mode = .stop || s.mode = .run || s.mode = .hold)

/-- A WB address: short, group or broadcast (R522). -/
def daliAddr (a : Nat) : Bool := decide (a < 80) || decide (a = 0xFF)

/-- A line's queue with a new transaction: those of the program in the order of R117 come before the host's, but for one that has
begun (R521). -/
def daliQueue (l : List DaliTxn) (t : DaliTxn) : List DaliTxn :=
  let hosts := fun (u : DaliTxn) => !u.begun && (match u.by_ with | .host _ _ => true | _ => false)
  if hosts t then l ++ [t] else l.filter (fun u => !hosts u) ++ t :: l.filter hosts

/-- A new transaction of a line. -/
def State.daliCall (s : State) (l : Nat) (t : DaliTxn) : State × Nat × List Nat :=
  let x := s.line l
  if !s.flag (F.DAL_LINE_CFG_EN.at l) then (s, St.daliLineOff, [])
  else if !s.flag (F.DAL_LINE_STAT_POWER.at l) then (s, St.daliNoPower, [])
  else if 32 ≤ x.queue.length then (s, St.busy, [])
  else (s.setLine l { x with queue := daliQueue x.queue t }, St.pending, [])

/-- DAL.DALI_ARC. -/
def svcDaliArc (s : State) (o : Origin) (a : SvcArgs) : State × Nat × List Nat :=
  let l := a.wa.toNat
  let b := a.wb.toNat
  let level := (a.d.getD 0 0).toNat
  if 4 ≤ l || !daliAddr b then (s, St.badArg, [])
  else s.daliCall l { addr := b, arc := true, octet := level % 256, by_ := o }

/-- DAL.DALI_CMD and DAL.DALI_QUERY. -/
def daliCommand (query : Bool) (s : State) (o : Origin) (a : SvcArgs) : State × Nat × List Nat :=
  let l := a.wa.toNat
  let b := a.wb.toNat
  let d0 := (a.d.getD 0 0).toNat
  let d1 := (a.d.getD 1 0).toNat
  let special := bit d1 1
  if 4 ≤ l || (!special && !daliAddr b) then (s, St.badArg, [])
  else s.daliCall l { addr := if special then 255 else b, octet := d0 % 256, twice := bit d1 0, query := query, by_ := o,
                      special := if special then some (d0 / 256 % 256) else none }

def svcDaliCmd (s : State) (o : Origin) (a : SvcArgs) : State × Nat × List Nat := daliCommand false s o a
def svcDaliQuery (s : State) (o : Origin) (a : SvcArgs) : State × Nat × List Nat := daliCommand true s o a

/-- The address octet of a forward frame (IEC 62386-102): selector bit 0 for an arc power level, 1 for a command. -/
def DaliTxn.addrOctet (t : DaliTxn) : Nat :=
  match t.special with
  | some x => x
  | none => (if t.addr = 0xFF then 0xFE else if t.addr < 64 then 2 * t.addr else 0x80 + 2 * (t.addr - 64)) + b2n (!t.arc)

/-- A transaction leaves its line's queue with a final status. -/
def State.daliEnd (s : State) (l : Nat) (t : DaliTxn) (st : Nat) (res : List Nat) : State :=
  let x := s.line l
  (s.setLine l { x with queue := x.queue.drop 1 }).finish t.by_ st res

/-- The first forward frame of a slot, of the transaction at the front of the queue. -/
def State.daliFront (s : State) (l : Nat) (t : DaliTxn) (collision : Bool) (ans : DaliAnswer) : State :=
  let x := s.line l
  let s := s.emit .daliFrame [(l : Int), t.addrOctet, t.octet]
  let again := fun (u : DaliTxn) (s : State) => s.setLine l { x with queue := u :: x.queue.drop 1 }
  if collision then
    let s := s.inc (F.DAL_LINE_CNT_COLLISIONS.at l)
    if 3 ≤ t.tries then s.daliEnd l t St.daliCollision [] else again { t with tries := t.tries + 1, begun := true } s
  else if t.twice && !t.again then again { t with again := true, begun := true, tries := 1 } s
  else if t.query then
    match ans with
    | .none_ => (s.inc (F.DAL_LINE_CNT_NOANSWER.at l)).daliEnd l t St.done [0, t.tries]
    | .frame o => s.daliEnd l t St.done [256 + o % 256, t.tries]
    | .framing => s.daliEnd l t St.done [0x300, t.tries]
  else s.daliEnd l t St.done []

/-- DALI_SLOT (R521, R523, R524): one transaction in the slot of the line that begins with the frame in progress. -/
def State.daliSlot (s : State) (l : Nat) (collision : Bool) (ans : DaliAnswer) : State :=
  let x := s.line l
  if 4 ≤ l || !s.daliOn || s.num % 4 ≠ l || x.slotAt = s.frame.start + 1 || !s.flag (F.DAL_LINE_STAT_POWER.at l) then s
  else
    let x := { x with slotAt := s.frame.start + 1 }
    let s := s.setLine l x
    if !s.flag (F.DAL_LINE_CFG_EN.at l) then
      (s.setLine l { x with queue := [], stopArc := false }).finishAll (x.queue.map DaliTxn.by_) St.daliLineOff
    else
      match x.queue.head?, x.stopArc with
      | some t, true =>
        if t.begun then s.daliFront l t collision ans
        else (s.setLine l { x with stopArc := false }).emit .daliFrame [(l : Int), 0xFE, s.get (F.DAL_LINE_CFG_STOPARC.at l)]
      | none, true => (s.setLine l { x with stopArc := false }).emit .daliFrame [(l : Int), 0xFE, s.get (F.DAL_LINE_CFG_STOPARC.at l)]
      | some t, false => s.daliFront l t collision ans
      | none, false => s

def execDaliSlot (l : Nat) (collision : Bool) (answer : DaliAnswer) (s : State) : Res :=
  s.act fun s => s.daliSlot l collision answer

/-- DALI_POWER_LOSS (R523). -/
def State.daliPowerLoss (s : State) (l : Nat) : State :=
  let x := s.line l
  ((s.put (F.DAL_LINE_STAT_POWER.at l) 0).setLine l { x with queue := [], stopArc := false }).finishAll (x.queue.map DaliTxn.by_) St.daliNoPower

def execDaliPowerLoss (l : Nat) (s : State) : Res :=
  s.act fun s => s.when (decide (l < 4) && s.flag (F.DAL_LINE_STAT_POWER.at l)) fun s => s.daliPowerLoss l
/-- DALI_POWER_RESTORE (R523). -/
def execDaliPowerRestore (l : Nat) (s : State) : Res :=
  s.act fun s => s.when (decide (l < 4)) fun s => s.put (F.DAL_LINE_STAT_POWER.at l) 1

/-- Entry into Stop (R524). -/
def State.daliStop (s : State) : State :=
  (List.range 4).foldl (fun s l =>
    let x := s.line l
    let (keep, gone) := x.queue.partition (·.begun)
    let arc := s.flag (F.DAL_LINE_CFG_EN.at l) && s.flag (F.DAL_LINE_STAT_POWER.at l) && decide (s.get (F.DAL_LINE_CFG_STOPARC.at l) ≠ 0xFF)
    (s.setLine l { x with queue := keep, stopArc := arc }).finishAll (gone.map DaliTxn.by_) St.aborted) s

/-- An abort of a DALI call: one that has begun is past its point of return. -/
def State.abortDali (s : State) (o : Origin) : Option (State × Nat) :=
  match (List.range 4).find? fun l => (s.line l).queue.any fun t => decide (t.by_ = o) with
  | none => none
  | some l =>
    let x := s.line l
    match x.queue.find? fun t => decide (t.by_ = o) with
    | some t =>
      if t.begun then some (s, St.abortLate)
      else some ((s.setLine l { x with queue := x.queue.filter fun u => !decide (u.by_ = o) }).finish o St.aborted [], St.aborted)
    | none => none

/-! ### Observation lands (R535, R536) -/

/-- A group may be selected in a life-cycle state. -/
def obsPermitted (g : Nat) (l : Life) : Bool :=
  match l with
  | .scrapped => false
  | .blank | .returned => true
  | .provisioned | .deployed => decide (g < 12)

/-- A write of OBS_SEL: the state after it, and its status. Before the first SECRET selection after each start the Strongroom's
working copies and the root working copies are cleared. -/
def State.obsWrite (s : State) (k : Nat) (w : Nat) : State × Nat :=
  let g := bits w 8 5
  if !obsPermitted g s.keys.life then (s, St.lifecycle)
  else
    let s : State := if 12 ≤ g && !s.wired.secretClean then
        ((s.modWired fun x => { x with secretClean := true }).modKeys fun x => { x with cache := [], rootGone := true }).put F.KEY_STAT_ROOT 0
      else s
    (((s.put (F.OBS_SEL_EN.at k) (bits w 31 31)).put (F.OBS_SEL_GROUP.at k) g).put (F.OBS_SEL_SIGNAL.at k) (bits w 4 0), St.done)

def execObsSelWrite (who : Requester) (k : Nat) (w : Word) (s : State) : Res :=
  s.act fun s => s.gate who 1 fun s =>
    if 8 ≤ k then s.reply who St.badArg else let (s, st) := s.obsWrite k w.toNat; s.reply who st

/-- A change of life-cycle state, and Basic through tamper: lands whose selection is not permitted go low. -/
def State.obsLife (s : State) : State :=
  (List.range 8).foldl (fun s k =>
    if obsPermitted (s.get (F.OBS_SEL_GROUP.at k)) s.keys.life then s else s.put (F.OBS_SEL_EN.at k) 0) s

end Sys2Proof.Machine
end

