-- ==== Sys2Proof/Machine/Keys.lean ====
section
/-!
DEFINITION. Life-cycle, keys and tamper (chapter 14, R577 to R594), and the self-test commands (R609, R610).
-/
namespace Sys2Proof.Machine

def State.selectRoot (s : State) : State := s.put F.KEY_STAT_ROOT s.rootNow

def State.setSlot (s : State) (k : Nat) (x : KeySlot) : State :=
  s.modKeys fun y => { y with slots := SMap.put {} y.slots k x }

/-! ### Reserved slots (Table 14.4) -/

/-- Operations, as bits of USE. -/
def KeyOp.load : Nat := 0
def KeyOp.verify : Nat := 1
def KeyOp.sign : Nat := 2
def KeyOp.decrypt : Nat := 3
def KeyOp.encrypt : Nat := 4
def KeyOp.mac : Nat := 5
def KeyOp.derive : Nat := 6

/-- Slot 0 at each start outside Recovery, slot 4 at each start in Recovery; slots with FALLBACK 2 are EMPTY at a start (R587). -/
def State.slotsAtStart (s : State) : State :=
  let s : State := s.modKeys fun k => { k with slots := k.slots.filter fun p => decide (p.2.fallback ≠ 2) }
  if s.rootNow = 0 then (s.setSlot 0 {}).setSlot 4 {}
  else if s.mode = .recovery then
    (s.setSlot 0 {}).setSlot 4 { kind := 3, world := 1, life := 31, use_ := 2 ^ KeyOp.sign, depth := 1, size := 2, rooted := true,
                                 mat := .derived [82, 67, 86, 73, 68], root := 3 }
  else
    (s.setSlot 4 {}).setSlot 0 { kind := 3, paircore := true, world := 1, life := 31, use_ := 2 ^ KeyOp.sign, depth := 1, size := 2,
                                 rooted := true, mat := .derived [73, 68, 78, 84], root := s.rootNow }

/-- The slots that PROVISION sets under the owner root: the owner package key and a drawn network master. -/
def State.provisionSlots (s : State) (pkg : List Nat) : State :=
  let n := s.free
  let s : State := ((s.setSlot 1 { kind := 4, paircore := true, world := 3, life := 31, use_ := 2 ^ KeyOp.verify, size := 3, mat := .octets pkg, root := 2 }).setSlot 3
    { kind := 2, paircore := true, world := 1, life := 31, use_ := 2 ^ KeyOp.derive, size := 1, mat := .random n, root := 2 })
  { s with free := n + 8 }

/-! ### The Keeper (R586, R587) -/

/-- The checks of R586, in order; none is refused. -/
def State.keeperCheck (s : State) (engine : Nat) (secure : Bool) (slot op : Nat) : Option Nat :=
  let k := s.keySlot slot
  let world := if secure then bit k.world 0 else bit k.world 1
  let master := decide (engine = k.master) || (k.paircore && decide (k.master < 2) && decide (engine < 2))
  if k.kind = 0 then some St.slotEmpty
  else if !bit k.life s.keys.life.code || s.rootNow = 0 || s.rootNow ≠ k.root then some St.lifecycle
  else if !world then some St.access
  else if !master then some St.access
  else if !bit k.use_ op then some St.access
  else if (k.fallback = 1 && k.uses = 0) || k.kind = 5 then some St.keyExhausted
  else none

def State.keeperOut (s : State) (engine slot op st : Nat) : State :=
  s.emitNow .keeper [(engine : Int), slot, op, st]

/-- KEEPER_REQUEST: an engine's request reaches K0; its ID comes from the FIFO sideband. -/
def State.keeperRequest (s : State) (engine : Nat) (secure : Bool) (slot op : Nat) : State :=
  if !s.awake 22 || !s.awake engine then s
  else match s.keeperCheck engine secure slot op with
    | some st => s.keeperOut engine slot op st
    | none => s.modKeys fun k => { k with queue := k.queue ++ [⟨engine, secure, slot, op⟩] }

def execKeeperRequest (engine : Nat) (secure : Bool) (slot op : Nat) (s : State) : Res :=
  s.act fun s => s.keeperRequest engine secure slot op

/-- A use of a slot: FALLBACK 1 counts down, and the use that brings it to 0 exhausts the key. -/
def State.keyUsed (s : State) (slot : Nat) : State :=
  let k := s.keySlot slot
  if k.fallback = 1 then
    if k.uses ≤ 1 then s.setSlot slot { k with uses := 0, kind := 5, mat := .none_ } else s.setSlot slot { k with uses := k.uses - 1 }
  else s

/-- The working copies cached: the last used in front, 32 at most (R588). -/
def State.cacheKey (s : State) (slot : Nat) : State :=
  let key := s.workingKey slot
  s.modKeys fun k => { k with cache := ((slot, key) :: k.cache.filter fun p => decide (p.1 ≠ slot)).take 32 }

/-- The working copy of a slot leaves the cache. -/
def State.uncache (s : State) (slot : Nat) : State :=
  s.modKeys fun k => { k with cache := k.cache.filter fun p => decide (p.1 ≠ slot) }

/-- KEEPER_OP_COMPLETE: K0 performs the oldest request; the commit point is the writing of its result. -/
def State.keeperComplete (s : State) : State :=
  match s.keys.queue with
  | [] => s
  | q :: l =>
    if !s.awake 22 then s
    else
      let s : State := s.modKeys fun k => { k with queue := l }
      match s.keeperCheck q.engine q.secure q.slot q.op with
      | some st => s.keeperOut q.engine q.slot q.op st
      | none =>
        let s := (s.cacheKey q.slot).keyUsed q.slot
        let s : State := if (s.keySlot q.slot).kind = 5 then s.uncache q.slot else s
        s.keeperOut q.engine q.slot q.op St.done

def execKeeperOpComplete (s : State) : Res := s.act State.keeperComplete

/-! ### KEY_CMD (R578, R589) -/

/-- KEY_IN and KEY_LABEL as octets. -/
def wordsOctets (l : List Nat) (n : Nat) : List Nat := ((List.range n).map fun k => leBytes 4 (l.getD k 0)).flatten
/-- A word of KEY_IN or KEY_LABEL is written; `n` words there are. -/
def putWord (l : List Nat) (n k w : Nat) : List Nat := (List.range n).map fun j => if j = k then w else l.getD j 0
def State.writeKeyIn (s : State) (k w : Nat) : State := s.modKeys fun x => { x with inp := putWord x.inp 64 k w }
def State.writeKeyLabel (s : State) (k w : Nat) : State := s.modKeys fun x => { x with label := putWord x.label 8 k w }
/-- They are cleared after each KEY_CMD (R611). -/
def State.clearKeyIn (s : State) : State := s.modKeys fun x => { x with inp := [], label := [] }

/-- The attributes KEY_NEWATTR and KEY_NEWUSE give; none where a field is refused. -/
def State.newSlot (s : State) (pub : Bool) : Option KeySlot :=
  let a := s.get F.KEY_NEWATTR_ATTR
  let k : KeySlot := { master := bits a 28 24, paircore := bit a 23, world := bits a 22 21, life := bits a 20 16, use_ := bits a 15 9,
                       fallback := bits a 4 3, size := bits a 2 0, uses := s.get F.KEY_NEWUSE_USES, root := s.rootNow }
  if k.world = 0 || k.fallback = 3 || 4 ≤ k.size || (k.size = 3 && !pub) || (k.fallback = 1 && k.uses = 0) then none
  else some { k with uses := if k.fallback = 1 then k.uses else 0 }

/-- A slot that a command may not name (R589). -/
def State.slotReserved (s : State) (slot code : Nat) : Bool :=
  slot = 0 || slot = 1 || slot = 3 || slot = 4 || (slot = 2 && !(code = 0x10 && !s.keys.installed2))

/-- A slot that holds the stop key is set anew (R421). -/
def State.slotSet (s : State) (slot : Nat) : State := if slot = s.get F.STP_CFG_KEYSLOT then s.stopKeyNew slot else s

/-- INSTALL. -/
def State.keyInstall (s : State) (slot : Nat) : State × Nat :=
  if (s.keySlot slot).kind ≠ 0 then (s, St.slotOccupied)
  else if slot = 2 then
    ((s.setSlot 2 { kind := 1, paircore := true, world := 1, life := 31, use_ := 2 ^ KeyOp.derive, size := 0,
                    mat := .octets ((wordsOctets s.keys.inp 4).take 16), root := s.rootNow }).modKeys fun k => { k with installed2 := true }, St.done)
  else match s.newSlot true with
    | none => (s, St.badArg)
    | some k =>
      let k : KeySlot := { k with kind := if k.size = 3 then 4 else 1, mat := .octets ((wordsOctets s.keys.inp 64).take (keySize k.size)) }
      ((s.setSlot slot k).slotSet slot, St.done)

/-- GENERATE. -/
def State.keyGenerate (s : State) (slot : Nat) : State × Nat :=
  if (s.keySlot slot).kind ≠ 0 then (s, St.slotOccupied)
  else match s.newSlot false with
    | none => (s, St.badArg)
    | some k =>
      let s : State := { s.setSlot slot { k with kind := 2, mat := .random s.free } with free := s.free + 12 }
      (s.slotSet slot, St.done)

/-- DERIVE: from the selected root, or from the parent slot, whose USE must allow it (R585, R586). REJECTED_ACCESS and REJECTED_LIFECYCLE of
the parent come before the other refusals (R634). -/
def State.keyDerive (s : State) (slot : Nat) : State × Nat :=
  let root := s.flag F.KEY_ARG_FROM_ROOT
  let parent := s.get F.KEY_ARG_PARENT
  let depth := if root then 1 else (s.keySlot parent).depth + 1
  let check := if root then none else s.keeperCheck 0 true parent KeyOp.derive
  let first := check = some St.access || check = some St.lifecycle
  if first then (s, check.getD 0)
  else if (s.keySlot slot).kind ≠ 0 then (s, St.slotOccupied)
  else match s.newSlot false, check with
    | none, _ => (s, St.badArg)
    | some _, some st => (s, st)
    | some k, none =>
      if 8 < depth then (s, St.depthExceeded)
      else
        let s := if root then s else s.keyUsed parent
        let k : KeySlot := { k with kind := 3, depth := depth, rooted := root, parent := if root then 0 else parent,
                                    mat := .derived (wordsOctets s.keys.label 8) }
        ((s.setSlot slot k).slotSet slot, St.done)

/-- ERASE. -/
def State.keyErase (s : State) (slot : Nat) : State × Nat :=
  if s.keys.slots.any fun p => p.2.kind = 3 && !p.2.rooted && p.2.parent = slot then (s, St.parentInUse)
  else ((s.setSlot slot {}).uncache slot, St.done)

/-- IDENTITY_CSR: the public key of the module identity, and a signature whose octets are free values (log entry 33). -/
def State.identityCsr (s : State) : State × Nat :=
  if (s.keySlot 0).kind = 0 then (s, St.slotEmpty)
  else
    let d := ofBe (s.workingKey 0)
    let n := s.free
    let l := (List.range 96).map (fun k => Config.publicKey d k % 256) ++ (List.range 96).map (fun k => Config.random (n + k) % 256)
    ({ s.modKeys fun k => { k with out := l } with free := n + 96 }, St.done)

/-- The life-cycle commands: the state they reach, or the refusal (Table 14.1, R99). -/
def State.lifeTarget (s : State) (code : Nat) : Life ⊕ Nat :=
  let l := s.keys.life
  let stop := decide (s.mode = .stop)
  let basic := decide (s.mode = .basic)
  let solo := decide (s.role = .solo)
  let cause := s.get F.SYS_MODE_CAUSE
  let leave := cause = 1 || cause = 2 || cause = 4 || cause = 5 || cause = 6
  if code = 1 then
    if l ≠ .blank && l ≠ .returned then .inr St.lifecycle
    else if !stop || !solo then .inr St.mode
    else if s.keys.killed then .inr St.killed
    else if 3 ≤ s.keys.rows.length then .inr St.noProvisionRow
    else .inl .provisioned
  else if code = 2 then
    if l ≠ .provisioned then .inr St.lifecycle else if !stop then .inr St.mode else .inl .deployed
  else if code = 3 then
    if l ≠ .provisioned && l ≠ .deployed then .inr St.lifecycle
    else if !(stop || (basic && leave)) || !solo then .inr St.mode
    else if s.keys.killed then .inr St.killed
    else .inl .returned
  else if l ≠ .blank && l ≠ .returned then .inr St.lifecycle
  else if !stop && !basic then .inr St.mode
  else .inl .scrapped

/-- A life-cycle command: fuse programming begins. -/
def State.lifeCmd (s : State) (code : Nat) : State × Nat :=
  if s.phase ≠ .running then (s, St.mode)
  else match s.lifeTarget code with
    | .inr st => (s, st)
    | .inl l =>
      if s.keys.fuse.isSome then (s, St.busy)
      else
        let inp := wordsOctets s.keys.inp 64
        let row : Option ProvRow := if code = 1 then
            some { entropy := inp.take 32, random := s.free, pkg := (inp.drop 32).take 96, recovery := (inp.drop 128).take 96 }
          else none
        let s : State := if code = 1 then { s with free := s.free + 8 } else s
        (s.modKeys fun k => { k with fuse := some l, fuseBy := .command F.KEY_CMD_STAT_STATUS.addr, newRow := row }, St.pending)

/-- KEY_CMD: the state after it, and its status. -/
def State.keyCmd (s : State) (code confirm : Nat) : State × Nat :=
  let slot := s.get F.KEY_ARG_SLOT
  let confirmed := !(code ≤ 4 || code = 0x13) || confirm = confirmValue
  let named := 0x10 ≤ code && code ≤ 0x13
  let r : State × Nat :=
    if code = 0 || (4 < code && code < 0x10) || 0x14 < code then (s, St.badArg)
    else if named && s.slotReserved slot code then (s, St.access)
    else if !confirmed then (s, St.confirm)
    else if code ≤ 4 then s.lifeCmd code
    else if s.rootNow = 0 then (s, St.lifecycle)
    else if code = 0x10 then s.keyInstall slot
    else if code = 0x11 then s.keyGenerate slot
    else if code = 0x12 then s.keyDerive slot
    else if code = 0x13 then s.keyErase slot
    else s.identityCsr
  ((r.1.clearKeyIn).cmdStat F.KEY_CMD_STAT_CODE F.KEY_CMD_STAT_STATUS code r.2, r.2)

/-- A KEY_CMD of a requester. -/
def State.keyCommand (s : State) (who : Requester) (code confirm : Nat) : State :=
  s.gate who 2 fun s => let (s, st) := s.keyCmd code confirm; s.reply who st

def execProvision (who : Requester) (confirm : Nat) (s : State) : Res := s.act fun s => s.keyCommand who 0x01 confirm
def execDeploy (who : Requester) (confirm : Nat) (s : State) : Res := s.act fun s => s.keyCommand who 0x02 confirm
def execKeyReturn (who : Requester) (confirm : Nat) (s : State) : Res := s.act fun s => s.keyCommand who 0x03 confirm
def execScrap (who : Requester) (confirm : Nat) (s : State) : Res := s.act fun s => s.keyCommand who 0x04 confirm
def execKeyInstall (who : Requester) (confirm : Nat) (s : State) : Res := s.act fun s => s.keyCommand who 0x10 confirm
def execKeyGenerate (who : Requester) (confirm : Nat) (s : State) : Res := s.act fun s => s.keyCommand who 0x11 confirm
def execKeyDerive (who : Requester) (confirm : Nat) (s : State) : Res := s.act fun s => s.keyCommand who 0x12 confirm
def execKeyErase (who : Requester) (confirm : Nat) (s : State) : Res := s.act fun s => s.keyCommand who 0x13 confirm
def execIdentityCsr (who : Requester) (confirm : Nat) (s : State) : Res := s.act fun s => s.keyCommand who 0x14 confirm

/-! ### Owner data (R580) -/

/-- The registers of the blocks whose fields the site configuration, the calibration, the loop and hoist data or the package
hold, and that reset keeps: RETURN and a strap return set them to their first power-up values. -/
def ownerBlocks : List Nat := [0x04, 0x05, 0x06, 0x07, 0x08, 0x09, 0x0A, 0x0B, 0x0C, 0x0D, 0x0E, 0x10, 0x11, 0x12, 0x13, 0x14, 0x16]

/-- Clear the Strongroom objects, retained D words, symbol and force tables, calibration, loop, hoist and site data, the meter
save area and the package slots of both banks. -/
def State.clearOwner (s : State) : State :=
  let s : State := s.modKeys fun k => { k with slots := [], installed2 := false, cache := [] }
  let s : State := { s with regs := s.regs.filter fun p =>
    let a := p.1 / 32
    !(ownerBlocks.contains (a / 65536) && (match findReg a with
      | some (r, _, _) => r.fields.any fun d => d.kept && decide (d.fld.lo = p.1 % 32)
      | none => false)) }
  let s : State := s.modProg fun _ => {}
  let s : State := s.modLight fun _ => {}
  let s : State := s.modNet fun _ => {}
  let s : State := (s.modFleet fun _ => {}).modPos fun p => { p with ephem := [], almanac := [] }
  let s : State := s.modMeter fun m => { m with copy0 := {}, copy1 := {}, marker := none }
  let s : State := s.modWired fun w => { w with idents := [] }
  s.modUpd fun u => { u with banks := u.banks.map fun (b : Bank) => { b with pkgs := [none, none] } }

/-- Fuse programming completes (R578): the new life-cycle state, and what its transition does. The restart follows. -/
def State.fuseDone (s : State) (l : Life) : State :=
  let by_ := s.keys.fuseBy
  let s := if l = .returned then s.clearOwner else s
  let s := match s.keys.newRow with
    | some r => (s.modKeys fun k => { k with rows := k.rows ++ [r], installed2 := false }).provisionSlots r.pkg
    | none => s
  let s : State := s.modKeys fun k => { k with
    life := l, fuse := none, newRow := none, fuseBy := .quiet, dsec := if l = .scrapped then 3 else k.dsec }
  let s := s.finish by_ St.done []
  (s.log Sev.warning 3 F.KEY_CMD_STAT_STATUS []).obsLife

/-! ### Tamper (R591 to R594) -/

/-- What K0 zeroises, and what ends with it: the operation in progress and the queue. -/
def State.zeroise (s : State) : State :=
  let q := s.keys.queue
  let s : State := s.modKeys fun k => { k with cache := [], queue := [], zeroised := true }
  let s : State := s.modGal fun g => { g with sessions := g.sessions.map fun p => (p.1, { p.2 with key := [] }) }
  -- the keys in the Hitch engines, and Y0's copies of the stop key
  let s : State := s.modNet fun n => { n with radios := n.radios.map fun x =>
    { x with assocs := x.assocs.map fun p => (p.1, { p.2 with key := [] }) } }
  let s : State := s.modStp fun x => { x with key := [], prevKeyOctets := [] }
  (q.foldl (fun s x => s.keeperOut x.engine x.slot x.op St.aborted) s).put F.KEY_STAT_ROOT 0

/-- A tamper event, but for what it does to mode and start-up. -/
def State.tamperKeys (s : State) : State :=
  ((s.zeroise).modKeys fun k => { k with killed := true }).log Sev.critical 0 F.KEY_STAT_KILLED []

/-- TAMPER_LATCH (R592): VIN is absent; the battery-backed domain sets the latch. -/
def execTamperLatch (s : State) : Res :=
  s.act fun s => s.when (s.phase = .reset) fun s => s.put F.KEY_STAT_LATCH 1

/-! ### Self-test commands (R609, R610) -/

/-- Fuse one soft repair, if an entry is left. -/
def State.fuseOne (s : State) (fused : Fld) (want : Nat) : State × Bool :=
  let have_ := s.get fused
  if want ≤ have_ then (s, true)
  else
    let left := Config.fuseCapacity - s.bst.fuseEntries
    let n := min (want - have_) left
    ({ s.put fused (have_ + n) with bst := { s.bst with fuseEntries := s.bst.fuseEntries + n } }, decide (n = want - have_))

/-- FUSE_REPAIR: every soft remap and spare assignment; the entries already written stand when they run out. -/
def State.fuseAll (s : State) : State × Nat :=
  let l := (List.range 16).map (fun b => (F.BST_GROWS_FUSED.at b, s.get (F.BST_GROWS_USED.at b)))
    ++ (List.range 24).map (fun e => (F.BST_EROWS_FUSED.at e, s.get (F.BST_EROWS_USED.at e)))
    ++ [(F.BST_MOD_FUSED0, s.get F.BST_MOD_EN0), (F.BST_MOD_FUSED1, s.get F.BST_MOD_EN1)]
  let (s, ok) := l.foldl (fun (p : State × Bool) q =>
    let (s, o) := p.1.fuseOne q.1 q.2
    (s, p.2 && o)) (s, true)
  (s, if ok then St.done else St.fuseFull)

/-- BST_CMD. -/
def State.bstCmd (s : State) (code confirm : Nat) : State × Nat :=
  let l := s.keys.life
  let r : State × Nat :=
    if code ≠ 1 && code ≠ 2 then (s, St.badArg)
    else if confirm ≠ confirmValue then (s, St.confirm)
    else if code = 1 then
      if l ≠ .returned then (s, St.lifecycle)
      else if s.mode ≠ .stop || s.phase ≠ .running then (s, St.mode)
      else s.fuseAll
    else if l ≠ .blank && l ≠ .returned then (s, St.lifecycle)
    else if (s.mode ≠ .stop && s.mode ≠ .basic) || s.phase ≠ .running then (s, St.mode)
    else
      let s : State := (s.zeroise).modKeys fun k => { k with dsec := if k.dsec = 1 then 2 else k.dsec, scan := true }
      ((s.stopCause StopBit.mode true).modFrame fun f => { f with orderlyFlag := false }, St.done)
  (r.1.cmdStat F.BST_CMD_STAT_CODE F.BST_CMD_STAT_STATUS code r.2, r.2)

def execFuseRepair (who : Requester) (confirm : Nat) (s : State) : Res :=
  s.act fun s => s.gate who 1 fun s => let (s, st) := s.bstCmd 1 confirm; s.reply who st
def execScanEnable (who : Requester) (confirm : Nat) (s : State) : Res :=
  s.act fun s => s.gate who 1 fun s => let (s, st) := s.bstCmd 2 confirm; s.reply who st

end Sys2Proof.Machine
end

