-- ==== Sys2Proof/Machine/Network.lean ====
section
/-!
DEFINITION. The node radios and the Bardan air protocol (chapter 06): event counters and hopping, the frames a radio sends,
associations, sleeping nodes, the transaction layer, relaying, airtime, and node firmware campaigns.
-/
namespace Sys2Proof.Machine

/-! ### Radios (R265 to R273) -/

def State.setRadio (s : State) (r : Nat) (x : Radio) : State :=
  { s with net := { s.net with radios := setAt s.net.radios r x } }
def State.modRadio (s : State) (r : Nat) (f : Radio → Radio) : State := s.setRadio r (f (s.radio r))

/-- The modes in which the radios run the whole timeline (R305). -/
def State.radiosRun (s : State) : Bool := s.live && (s.mode = .stop || s.mode = .run || s.mode = .hold)

/-- A radio in use that transmits. -/
def State.radioOn (s : State) (r : Nat) : Bool :=
  s.radiosRun && s.flag (F.RAD_CFG_EN.at r) && !bit (s.get F.BST_FAIL_ITEMS) (r + 1)

/-- A radio in use that receives: as above, and in Shadow. -/
def State.radioHears (s : State) (r : Nat) : Bool :=
  s.radioOn r || (s.live && decide (s.mode = .shadow) && s.flag (F.RAD_CFG_EN.at r)
    && !bit (s.get F.BST_FAIL_ITEMS) (r + 1))

def State.frame0 (s : State) : Bool := s.num % 10 = 0

/-- The PHY of a radio: 0 100 kb/s, 1 150 kb/s, 2 250 kb/s (Table 06.1). -/
def State.phy (s : State) (r : Nat) : Nat := if 4 ≤ r then 2 else if s.get (F.RAD_CFG_BAND.at r) = 0 then 0 else 1

/-- air(L), µs (R273). -/
def airTime (phy l : Nat) : Nat :=
  match phy with
  | 0 => (8 + l) * 80
  | 1 => ((12 + l) * 160 + 2) / 3
  | _ => (6 + l) * 32

/-- The channels of a band (Table 06.2). -/
def bandChannels (phy : Nat) : Nat := match phy with | 0 => 17 | 1 => 64 | _ => 16

def mapChannels (lo hi : Nat) : List Nat := (List.range 64).filter (fun c => if c < 32 then bit lo c else bit hi (c - 32))

/-- R270. -/
def mapValid (phy lo hi step : Nat) : Bool :=
  let ch := mapChannels lo hi
  let m := ch.length
  decide ((if phy = 2 then 2 else 3) ≤ m) && ch.all (fun c => decide (c < bandChannels phy))
    && decide (step ≠ 0) && decide (Nat.gcd step m = 1)

/-- The channel of the frame with event counter e under a map (R269); 0 where the map is empty. -/
def hopChannel (lo hi seed step e : Nat) : Nat :=
  let ch := mapChannels lo hi
  if ch = [] then 0 else ch.getD ((seed + e * step) % ch.length) 0

/-- The channel of the frame in progress on a radio. -/
def State.channelOf (s : State) (r : Nat) : Nat :=
  let x := s.radio r
  if s.stopRadio = some r && decide (s.num % 5 = 0) then s.get (F.RAD_STOPCH_CH.at r)
  else hopChannel x.mapLo x.mapHi x.seed x.hop x.e

/-- The channel of frame 0 of the next superframe; `last`: the frame in progress announces a map change with REMAIN = 0, so that the new map
takes effect there (Table 06.7, R271). -/
def State.nextChannel (s : State) (r : Nat) (last : Bool) : Nat :=
  let x := s.radio r
  if s.stopRadio = some r then s.get (F.RAD_STOPCH_CH.at r)
  else if last || x.chgAt.isSome then hopChannel x.newMapLo x.newMapHi x.newSeed x.newHop (x.e + 10)
  else hopChannel x.mapLo x.mapHi x.seed x.hop (x.e + 10)

/-- The frame's channel, and whether the timeline runs and the transmitter is enabled, as RAD_STAT shows them. -/
def State.radioStat (s : State) (r : Nat) : State :=
  let tx := s.radioOn r || (s.live && decide (s.mode = .basic) && s.flag (F.RAD_CFG_EN.at r) && s.stopRadio = some r && !s.mute)
  ((s.put (F.RAD_STAT_CHANNEL.at r) (s.channelOf r)).putB (F.RAD_STAT_TX.at r) tx).putB (F.RAD_STAT_RUNNING.at r)
    (s.radioHears r)

/-! ### Map changes (R270, R271) -/

/-- A write of RAD_MAPCHG.APPLY. -/
def State.mapApply (s : State) (r w : Nat) : State × Nat :=
  if !bit w 31 then (s, St.done)
  else
    let x := s.radio r
    let lo := s.get (F.RAD_CHMAP_LO_MAP.at r)
    let hi := s.get (F.RAD_CHMAP_HI_MAP.at r)
    let step := s.get (F.RAD_HOP_STEP.at r)
    if x.chgPending then (s, St.busy)
    else if !mapValid (s.phy r) lo hi step then (s, 0x0801)
    else
      let silent := s.mode = .stop
      (s.setRadio r { x with
        newMapLo := lo, newMapHi := hi, newSeed := s.get (F.RAD_HOP_SEED.at r), newHop := step, chgPending := true,
        chgSilent := silent, remain := if silent then 0 else 7, chgAt := if silent then some x.e else none }, St.done)

def execMapchgApply (who : Requester) (r : Nat) (w : Word) (s : State) : Res :=
  s.act fun s => s.gate who 1 fun s => let (s, st) := s.mapApply r w.toNat; s.reply who st

/-- MAP_CHANGE_EFFECT: at frame 0 of the superframe after the one that carried REMAIN = 0, or at the next frame 0 when applied
in Stop. -/
def State.mapEffect (s : State) (r : Nat) : State :=
  let x := s.radio r
  match x.chgAt with
  | none => s
  | some e0 =>
    if !s.frame0 || e0 = x.e then s
    else
      let s := s.setRadio r { x with
        mapLo := x.newMapLo, mapHi := x.newMapHi, seed := x.newSeed, hop := x.newHop, chgPending := false,
        chgSilent := false, remain := 0, chgAt := none
        assocs := x.assocs.map (fun p => (p.1, { p.2 with mapVer := (s.get (F.RAD_MAPCHG_VERSION.at r) + 1) % 65536 })) }
      let s := s.put (F.RAD_MAPCHG_VERSION.at r) ((s.get (F.RAD_MAPCHG_VERSION.at r) + 1) % 65536)
      s.put (F.RAD_STAT_CHANNEL.at r) (s.channelOf r)

def execMapChangeEffect (r : Nat) (s : State) : Res := s.act fun s => s.mapEffect r

/-! ### Airtime (R299) -/

/-- The window of RAD_DUTY, ns. -/
def State.dutyNs (s : State) (r : Nat) : Nat := s.get (F.RAD_DUTY_WINDOW.at r) * 1000000000

def State.addAir (s : State) (r us : Nat) (essential : Bool) : State :=
  s.modRadio r fun x => { x with air := x.air ++ [(s.mono, us, essential)] }

/-- Transmit a frame of `l` octets of PSDU that starts at `us` of the frame in progress. -/
def State.radioTx (s : State) (r l : Nat) (essential : Bool) (k : OutKind) (us : Nat) (args : List Int) : State :=
  (s.addAir r (airTime (s.phy r) l) essential).emitAt (some (s.now - s.frame.off + 1000 * us)) k ((r : Int) :: us :: args)

/-! ### Frames as octets (R11, Tables 06.5 to 06.9): what the PSDU holds before its MIC and FCS, in clear; MSEQ is left out (log entry 108) -/

/-- FC: TYPE, LONG, ACKREQ and VER. -/
def fcOctet (typ : Nat) (ackReq long : Bool) : Nat := 16 * typ + 8 * b2n long + 4 * b2n ackReq + 1

/-- A scheduled frame. -/
def scheduled (typ : Nat) (payload : List Nat) : List Int := (fcOctet typ false false :: payload).map Int.ofNat

/-- The association form: FC, ADDR, FCNT and the payload; `kind` 0 an association, 1 a group, 2 broadcast. -/
def assocForm (typ : Nat) (ackReq : Bool) (kind index fcnt : Nat) (payload : List Nat) : List Int :=
  (fcOctet typ ackReq false :: leBytes 2 (8192 * kind + index) ++ leBytes 4 fcnt ++ payload).map Int.ofNat

/-- The long form: FC, SERIAL, FCNT and the payload. -/
def longForm (typ serial fcnt : Nat) (payload : List Nat) : List Int :=
  (fcOctet typ false true :: leBytes 8 serial ++ leBytes 4 fcnt ++ payload).map Int.ofNat

/-- The next frame counter; a key is rolled where the counter would wrap (R278). -/
def Radio.nextFcnt (x : Radio) : Radio :=
  if 2 ^ 32 ≤ x.fcnt + 1 then { x with fcnt := 0, keyNo := x.keyNo + 1 } else { x with fcnt := x.fcnt + 1 }

/-- The largest PSDU (Table 06.2). -/
def maxPsdu (r : Nat) : Nat := if r < 4 then 255 else 127

/-- The time since the start of the frame in progress, µs, rounded up. -/
def State.usNow (s : State) : Nat := (s.frame.off + 999) / 1000

/-- A transmission from a to b µs keeps R277: in a transitional frame it starts by 9,850 µs and ends 250 µs before the boundary. -/
def State.endsInTime (s : State) (a b : Nat) : Bool :=
  !s.frame.transitional || (decide (a ≤ 9850) && decide (1000 * (b + 250) ≤ s.frameEnd - s.frame.start))

/-- A scheduled frame is sent once in a frame, and begins at its stated instant, within 2 µs (R272): a command that comes later sends
nothing. -/
def State.slotOnce (s : State) (r kind us l : Nat) (f : State → State) : State :=
  if (s.radio r).sent.contains kind || 1000 * us + 2000 < s.frame.off || !s.endsInTime us (us + airTime (s.phy r) l) then s
  else f ((s.atNs (1000 * us)).modRadio r fun x => { x with sent := x.sent ++ [kind] })

/-- The radio sheds the traffic of a rank: 1 campaign blocks, 2 service transactions, 3 REPORT grants, 4 STAGE_U, 5 STAGE. -/
def State.sheds (s : State) (r rank : Nat) : Bool :=
  let full := decide (s.get (F.RAD_DUTY_LIMIT.at r) ≤ s.airUsed r)
  full && decide (rank ≤ Nat.max 1 (s.radio r).shed)

/-- What leaves the window, and the kinds withheld, at a frame boundary: one more kind for each frame at or above the limit. -/
def State.dutyFrame (s : State) (r : Nat) : State :=
  let from_ := s.mono - s.dutyNs r
  let s := s.modRadio r fun x => { x with
    air := x.air.filter (fun p => decide (from_ < p.1)), granted := x.granted.filter (fun p => decide (from_ < p.1)) }
  let lim := s.get (F.RAD_DUTY_LIMIT.at r)
  let ess := sumN (((s.radio r).air.filter (fun p => p.2.2)).map (fun p => p.2.1)) / (100 * Nat.max 1 (s.get (F.RAD_DUTY_WINDOW.at r)))
  let over_ := decide (lim < ess)
  let was := (s.radio r).dutyOver
  let used := s.airUsed r
  let s := s.modRadio r fun x => { x with
    dutyOver := over_, shed := if used < lim then 0 else min 5 (x.shed + 1) }
  if over_ && !was then s.log Sev.warning 0 (F.RAD_STAT_DUTY_OVER.at r) [] else s

/-! ### Slots that a RADIO deadline fault lost (Table 02.3) -/

/-- Send in a slot, unless a RADIO fault makes it pass unused. A slot in which no Hitch engine has faulted is on-time work of the class. -/
def State.inSlot (s : State) (r : Nat) (f : State → State) : State :=
  if s.frame.missed.contains (radioLate r) then s.modFrame fun x => { x with missed := removeN x.missed (radioLate r) }
  else if s.frame.missed.any (fun k => decide (70 ≤ k)) then f s else (f s).onTime 4

/-! ### Exclusions and commit frames (R241, R242, R274, R275) -/

/-- The exclusions that the record of frame n carries or could carry on a radio: group exclusions first, then node exclusions,
each by ascending tag. -/
def State.exclusionsDue (s : State) (r : Nat) : List Exclusion :=
  let n := s.num
  let g := s.get F.LGT_GRACE_GRACE
  let xs := s.light.excl.filter (fun x => x.radio = r && decide (x.tag ≤ n + 1) && decide (n + 1 - x.tag ≤ g))
  let byTag := fun (l : List Exclusion) => ((List.range (g + 1)).map (fun d => l.filter (fun x => x.tag + g = n + 1 + d))).flatten
  byTag (xs.filter Exclusion.group) ++ byTag (xs.filter (fun x => !x.group))

/-- The Hitch engine builds the list at 0 µs of the frame. -/
def State.buildExclusions (s : State) : State :=
  if !s.radiosRun then s
  else (List.range 6).foldl (fun (s : State) r =>
    let due := s.exclusionsDue r
    s.modRadio r fun x => { x with exclusions := due.take 16 }) s

/-- The tags named in the record on a radio: those whose exclusions the list holds. -/
def State.namedOn (s : State) (r : Nat) : List Nat :=
  let due := s.exclusionsDue r
  let held := (s.radio r).exclusions
  s.namedTags.filter (fun t => (due.filter (fun x => x.tag = t)).all (fun x => held.contains x))

/-- The radio serves luminaire nodes (R274). -/
def State.servesLamps (s : State) (r : Nat) : Bool := (s.radio r).assocs.any (fun p => p.2.st = 2 && !p.2.sensor)

/-- An exclusion as it goes on the air, 3 octets. -/
def Exclusion.octets (n : Nat) (x : Exclusion) : List Nat :=
  leBytes 3 (2 ^ 21 * b2n x.group + 2 ^ 17 * (x.ver % 16) + 2 ^ 11 * ((n + 1 - x.tag) % 64) + x.index % 2 ^ 11)

def State.exclusionOctets (s : State) (r : Nat) : List Nat := ((s.radio r).exclusions.map (Exclusion.octets s.num)).flatten

/-- R274: the radio sends the commit frame of the frame in progress. -/
def State.commitDue (s : State) (r : Nat) : Bool :=
  s.radioOn r && s.servesLamps r && s.light.running && !s.frame.transitional
    && (s.namedOn r ≠ [] || (s.radio r).exclusions ≠ [] || s.frame0)

/-- COMMIT_FRAME_TX (Table 06.8). -/
def State.commitTx (s : State) (r : Nat) : State :=
  if !s.commitDue r then s
  else s.slotOnce r 1 7100 26 fun s => s.inSlot r fun s =>
    let x := s.radio r
    let n := s.num
    let mask := sumN ((s.namedOn r).map (fun t => 2 ^ (n + 1 - t)))
    let xc := x.exclusions.length
    let chk := crc32c (xc :: s.exclusionOctets r) % 65536
    let s := if 16 < (s.exclusionsDue r).length then s.inc F.LGT_CNT1_XOVER else s
    let s := s.modRecs fun q => { q with commitSent := withBit q.commitSent r true }
    s.radioTx r 26 true .commitFrame 7100 (scheduled 1 (leBytes 4 n ++ [s.get F.LGT_STAT_EPOCH % 256]
      ++ leBytes 2 (1024 * s.get F.LGT_GRACE_GRACE + 32 * xc) ++ leBytes 8 mask ++ leBytes 2 x.sser ++ leBytes 2 chk))

def execCommitFrameTx (r : Nat) (s : State) : Res := s.act fun s => s.commitTx r

/-- EXCLUSION_TX: in frames 1 to 9, ending at 7,050 µs. -/
def State.exclusionTx (s : State) (r : Nat) : State :=
  let x := s.radio r
  let l := 8 + 3 * x.exclusions.length
  let us := 7050 - airTime (s.phy r) l
  if !s.commitDue r || s.frame0 || x.exclusions = [] then s
  else s.slotOnce r 2 us l fun s => s.inSlot r fun s =>
    s.radioTx r l true .exclusionFrame us (scheduled 2 (x.exclusions.length :: s.exclusionOctets r))

def execExclusionTx (r : Nat) (s : State) : Res := s.act fun s => s.exclusionTx r

/-! ### Beacons, shared cells and map announcements (R271, R276, R277) -/

/-- The start of a radio's beacon, µs. -/
def State.beaconStart (s : State) (r : Nat) : Nat :=
  if s.stopRadio = some r then 250 + airTime (s.phy r) 18 + 250 else 250
def State.beaconEnd (s : State) (r : Nat) : Nat :=
  s.beaconStart r + airTime (s.phy r) (24 + 3 * (s.radio r).exclusions.length)

def State.cellTime (s : State) (r : Nat) : Nat := airTime (s.phy r) 16 + 250
/-- The end of c shared cells after a beacon that ends at b. -/
def State.cellsEnd (s : State) (r b c : Nat) : Nat := if c = 0 then b else b + 250 + c * s.cellTime r

/-- A MAPANN fits after c cells. -/
def State.mapFits (s : State) (r b c : Nat) : Bool := decide (s.cellsEnd r b c + 250 + airTime (s.phy r) 24 ≤ 7050)

/-- The shared cells of a frame 0 (R276): as many as wanted and as end by 7,050 µs, fewer where a MAPANN needs the room. -/
def State.sharedCells (s : State) (r b : Nat) : Nat :=
  let want := (List.range (s.get (F.RAD_SCHED_SHARED.at r) + 1)).filter (fun c => decide (s.cellsEnd r b c ≤ 7050))
  let x := s.radio r
  let fit := want.filter (fun c => s.mapFits r b c)
  if x.chgPending && !x.chgSilent && fit ≠ [] then maxN fit else maxN want

/-- A campaign runs on a radio (R303). -/
def State.campaign (s : State) (r : Nat) : Campaign := SMap.getD s.net.campaigns r {}
def Campaign.active (c : Campaign) : Bool := 1 ≤ c.st && c.st ≤ 3

/-- The MAPANN that follows this beacon announces REMAIN = 0. -/
def State.lastMapann (s : State) (r : Nat) : Bool :=
  let x := s.radio r
  let b := s.beaconEnd r
  x.chgPending && !x.chgSilent && x.chgAt.isNone && x.remain = 0 && s.mapFits r b (s.sharedCells r b)

/-- BEACON_TX (Table 06.7). -/
def State.beaconTx (s : State) (r : Nat) : State :=
  let us := s.beaconStart r
  let l := 24 + 3 * (s.radio r).exclusions.length
  if !s.radioOn r || !s.frame0 || s.frame.transitional then s
  else s.slotOnce r 0 us l fun s => s.inSlot r fun s =>
    let x := s.radio r
    let c := s.sharedCells r (s.beaconEnd r)
    let flags := 128 * b2n s.aligned + 64 * b2n x.chgPending + 32 * b2n (decide (0 < x.realignedLeft))
      + 16 * b2n (s.campaign r).active
    let next := s.nextChannel r (s.lastMapann r)
    let s := s.setRadio r { x with cells := c, realignedLeft := x.realignedLeft - 1, beaconX := x.exclusions.length }
    s.radioTx r l true .beacon us (scheduled 0 (leBytes 2 (s.get (F.RAD_CFG_NETID.at r)) ++ leBytes 4 x.e ++ leBytes 6 s.num
      ++ [s.get F.LGT_STAT_EPOCH % 256, flags, next, c, x.exclusions.length] ++ s.exclusionOctets r))

def execBeaconTx (r : Nat) (s : State) : Res := s.act fun s => s.beaconTx r

/-- MAPANN_TX: REMAIN runs from 7 to 0. -/
def State.mapannTx (s : State) (r : Nat) : State :=
  let x := s.radio r
  let cells := if x.sent.contains 0 then x.cells else 0
  let us := s.cellsEnd r (s.beaconEnd r) cells + 250
  if !s.radioOn r || !s.frame0 || !x.chgPending || x.chgSilent || x.chgAt.isSome || !s.mapFits r (s.beaconEnd r) cells then s
  else s.slotOnce r 4 us 24 fun s => s.inSlot r fun s =>
    let s := s.modRadio r fun x => if x.remain = 0 then { x with chgAt := some x.e } else { x with remain := x.remain - 1 }
    s.radioTx r 24 false .mapannFrame us (scheduled 4 ([x.remain] ++ leBytes 4 x.newMapLo ++ leBytes 4 x.newMapHi ++ leBytes 2 x.newSeed
      ++ [x.newHop] ++ leBytes 2 (s.get (F.RAD_MAPCHG_VERSION.at r) + 1)))

def execMapannTx (r : Nat) (s : State) : Res := s.act fun s => s.mapannTx r

/-! ### The stop frame (R304) -/

/-- STOP_FRAME_TX: in frames 0 and 5, in every mode but Recovery; none in Shadow (R305), none while muted (R593) or after the
keys are gone (R591, R610). -/
def State.stopFrame (s : State) : State :=
  match s.stopRadio with
  | none => s
  | some r =>
    if s.num % 5 ≠ 0 || !(s.radioOn r || (s.live && decide (s.mode = .basic) && s.flag (F.RAD_CFG_EN.at r))) || s.mute || s.keys.zeroised then s
    else s.slotOnce r 3 250 18 fun s => s.inSlot r fun s =>
      let s := s.modNet fun n => { n with stopCount := (n.stopCount + 1) % 2 ^ 32 }
      s.radioTx r 18 true .stopFrame 250 (scheduled 3 ([s.stopState false] ++ leBytes 4 s.net.stopCount ++ leBytes 6 s.num))

def execStopFrameTx (s : State) : Res := s.act State.stopFrame

/-! ### Associations (R266, R282, R283) -/

def State.assoc (s : State) (r i : Nat) : Assoc := SMap.getD (s.radio r).assocs i {}
def State.setAssoc (s : State) (r i : Nat) (a : Assoc) : State :=
  s.modRadio r fun x => { x with assocs := SMap.insert x.assocs i a }
def State.modAssoc (s : State) (r i : Nat) (f : Assoc → Assoc) : State := s.setAssoc r i (f (s.assoc r i))

/-- Frames since an event counter value. -/
def State.eSince (s : State) (r e0 : Nat) : Nat := ((s.radio r).e + 2 ^ 32 - e0) % 2 ^ 32

/-- Associations a radio may hold (Table 06.1). -/
def assocMax (r : Nat) : Nat := if r < 4 then 1536 else 512

/-- The slot of a serial: kind (true for a sensor) and number. -/
def State.slotOf (s : State) (serial : Nat) : Option (Bool × Nat) :=
  match s.net.serials.find? (fun p => p.2 = serial) with
  | some (i, _) => some (false, i)
  | none => match s.net.sensors.find? (fun p => p.2.serial = serial) with
    | some (i, _) => some (true, i)
    | none => none

def State.slotSleeps (s : State) : Bool × Nat → Bool
  | (true, i) => (SMap.getD s.net.sensors i {}).sleeping
  | (false, _) => false

/-- Sleeping nodes associated on a radio. -/
def State.sleepers (s : State) (r : Nat) : Nat := countP (fun a => a.sleeper && a.st ≠ 0) (SMap.vals (s.radio r).assocs)

/-- The depth at which a node would join in the frame in progress: 0 in a shared cell of frame 0; d in frame d through a relay
at depth d (R298), with that relay's index. -/
def State.joinDepth (s : State) (r : Nat) : Option (Nat × Nat) :=
  let x := s.radio r
  let d := s.num % 10
  if d = 0 then (if 0 < x.cells then some (0, 2047) else none)
  else if s.flag (F.RAD_CFG_RELAY_EN.at r) && decide (d ≤ s.get F.NET_RELAY_MAXDEPTH) then
    (x.assocs.find? (fun p => p.2.st = 2 && p.2.relay && p.2.depth + 1 = d)).map (fun p => (d, p.1))
  else none

/-- The association table and the frame counter go to MRAM at each change of an association's state (R285). -/
def State.saveTable (s : State) (r : Nat) : State := s.modRadio r fun x => { x with saved := x.assocs, fcntSave := x.fcnt }

/-- R266, R282; a luminaire slot that is bound to a local luminaire is not free (R311). -/
def State.joinOk (s : State) (r serial kind : Nat) : Bool :=
  let x := s.radio r
  decide (countP (fun a => a.st ≠ 0) (SMap.vals x.assocs) < assocMax r) &&
  (match s.slotOf serial with
   | none => false
   | some sl =>
     let sleeps := bit kind 0
     decide (sleeps = s.slotSleeps sl) && (sl.1 || (s.localOf sl.2).isNone) &&
     (!sleeps || (decide (4 ≤ r) && s.flag (F.RAD_CFG_SLEEPERS.at r)
       && decide (s.sleepers r < 9 * s.get (F.RAD_SCHED_PERIOD.at r)))))

/-- JOIN_REQ: a FREE index goes to JOINING; a refusal is silent and counted. -/
def State.joinReq (s : State) (r serial kind nonce : Nat) : State :=
  match s.joinDepth r with
  | none => s
  | some (d, parent) =>
    if !s.radioOn r then s
    else if !s.joinOk r serial kind then s.inc F.NET_CNT2_REFUSED
    else
      let x := s.radio r
      if x.assocs.any (fun p => p.2.st = 1 && p.2.serial = serial) then s
      else
        let i := ((List.range (assocMax r)).find? (fun i => (SMap.getD x.assocs i {}).st = 0)).getD 0
        let sl := (s.slotOf serial).getD (false, 0)
        (s.setAssoc r i {
          st := 1, serial := serial, sleeper := bit kind 0, sensor := sl.1, depth := d, slot := sl.2,
          relay := s.net.relays.contains serial, parent := parent, nonce := nonce, since := x.e, heard := x.e }).saveTable r

def execJoinReq (r serial kind nonce : Nat) (s : State) : Res := s.act fun s => s.joinReq r serial kind nonce

/-- An association goes to QUARANTINE; its node image is no longer ONLINE (Table 06.11, R256). -/
def State.quarantine (s : State) (r i : Nat) : State :=
  let a := s.assoc r i
  let s := (s.setAssoc r i { a with st := 3, since := (s.radio r).e }).saveTable r
  match s.node a.slot with
  | none => s
  | some x =>
    if a.sensor || x.radio ≠ r || x.assoc ≠ i then s
    else (s.setNode a.slot { x with online := false }).setDisc a.slot

/-- A sleep-cell phase (p, f) that no other sleeping node of the radio has (R286). -/
def State.freePhase (s : State) (r : Nat) : Nat × Nat :=
  let used := ((SMap.vals (s.radio r).assocs).filter (fun a => a.sleeper && a.st ≠ 0 && a.phaseF ≠ 0)).map
    (fun a => a.phaseP * 9 + a.phaseF)
  let k := ((List.range (9 * s.get (F.RAD_SCHED_PERIOD.at r))).find? (fun k => !used.contains (k + 1))).getD 0
  (k / 9, k % 9 + 1)

/-- A new request on an association, with the next down sequence (R289). -/
def State.request (s : State) (r i op : Nat) (body : List Nat) (o : Origin) (tag ver : Nat := 0) : State :=
  let a := s.assoc r i
  let q := (a.seqD + 1) % 65536
  s.setAssoc r i { a with seqD := q, txns := a.txns ++ [{ seq := q, op := op, by_ := o, body := body, tag := tag, ver := ver }] }

/-! ### Free time (R273, R297, R298) -/

/-- In frame d a relay at depth d repeats the beacon at 250 µs, and one shared cell follows it; the module keeps that time free (R298). -/
def State.relayTime (s : State) (r d : Nat) : List (Nat × Nat) :=
  if s.flag (F.RAD_CFG_RELAY_EN.at r) && decide (d ≤ s.get F.NET_RELAY_MAXDEPTH)
      && (s.radio r).assocs.any (fun p => p.2.st = 2 && p.2.relay && p.2.depth + 1 = d) then
    [(250, 500 + airTime (s.phy r) (24 + 3 * (s.radio r).beaconX) + s.cellTime r)]
  else []

/-- The sleep cell of frames 1 to 9. -/
def State.sleepTime (s : State) (r : Nat) : List (Nat × Nat) :=
  if s.flag (F.RAD_CFG_SLEEPERS.at r) && decide (4 ≤ r) then [(1200, 4200)] else []

def State.stopTime (s : State) (r n : Nat) : List (Nat × Nat) :=
  if s.stopRadio = some r && decide (n % 5 = 0) then [(0, 250 + airTime (s.phy r) 18)] else [(0, 250)]

/-- The scheduled positions of Table 06.3 in the frame in progress, µs. -/
def State.positions (s : State) (r : Nat) : List (Nat × Nat) :=
  let x := s.radio r
  let b := s.beaconEnd r
  let c := if x.sent.contains 0 then x.cells else s.sharedCells r b
  let first := if s.frame0 && !s.frame.transitional then
      [(0, s.cellsEnd r b c + (if x.chgPending && !x.chgSilent && s.mapFits r b c then 250 + airTime (s.phy r) 24 else 0))]
    else s.stopTime r s.num ++ (if s.frame0 then [] else s.sleepTime r ++ s.relayTime r (s.num % 10)
      ++ (if x.exclusions ≠ [] then [(7050 - airTime (s.phy r) (8 + 3 * x.exclusions.length), 7050)] else []))
  first ++ [(7050, 7050 + (if s.commitDue r then 2800 else 0)), (9850, 10000)]

/-- Those of the next frame, with the most exclusions it may carry where its record may name a tag, as they lie after the start of the
frame in progress. -/
def State.nextPositions (s : State) (r : Nat) : List (Nat × Nat) :=
  let n := s.num + 1
  let l := if n % 10 = 0 then [(0, 7050)]
    else s.stopTime r n ++ s.sleepTime r ++ s.relayTime r (n % 10)
      ++ (if s.light.tags.any (fun t => decide (t.tag ≤ n + 1)) then [(7050 - airTime (s.phy r) 56, 7050)] else [])
  (l ++ [(7050, 10000)]).map fun (p : Nat × Nat) => (10000 + p.1, 10000 + p.2)

/-- From a to b µs nothing of a list lies, and 7,050 µs is not crossed. -/
def timeFree (l : List (Nat × Nat)) (a b : Nat) : Bool :=
  l.all (fun p => decide (b ≤ p.1) || decide (p.2 ≤ a)) && (decide (b ≤ 7050) || decide (7050 ≤ a))

/-- The module may transmit, or grant, from a to b µs. -/
def State.freeAt (s : State) (r a b : Nat) : Bool :=
  if 10000 ≤ a then timeFree (s.nextPositions r ++ (s.radio r).busy) a b
  else timeFree (s.positions r ++ (s.radio r).busy) a b && decide (b ≤ 9850) && s.endsInTime a b

/-- The first free instant of the frame in progress, from `us` on, for a transmission of `len` µs that ends by `lim`. -/
def State.freeFrom (s : State) (r us len lim : Nat) : Option Nat :=
  let ends := ((s.positions r ++ (s.radio r).busy).map Prod.snd).filter (fun a => decide (us ≤ a))
  match (us :: ends).filter (fun a => decide (a + len ≤ lim) && s.freeAt r a (a + len)) with
  | [] => none
  | a :: l => some (l.foldl min a)

/-- Take time. -/
def State.takeTime (s : State) (r a b : Nat) : State := s.modRadio r fun x => { x with busy := x.busy ++ [(a, b)] }

/-- Place a frame of `l` octets in free time, from now on and by `lim`; where there is none, nothing is sent. -/
def State.placed (s : State) (r l lim : Nat) (f : Nat → State → State) : State :=
  let t := airTime (s.phy r) l
  match s.freeFrom r s.usNow t lim with
  | some a => f a (s.takeTime r a (a + t))
  | none => s

/-- Send a new frame of the association form. -/
def State.sendNew (s : State) (r us typ : Nat) (ackReq : Bool) (kind index : Nat) (payload : List Nat) : State :=
  let s := s.modRadio r Radio.nextFcnt
  s.radioTx r (14 + payload.length) false .dataFrame us (assocForm typ ackReq kind index (s.radio r).fcnt payload)

/-- JOIN_ACCEPT: map and hop setting, map version, E, supervision timeout, session number and sleep-cell phase, and the index of the network
key, whose octets go encrypted. -/
def State.joinAccept (s : State) (r i : Nat) : State :=
  let a := s.assoc r i
  let x := s.radio r
  match s.freeFrom r s.usNow (airTime (s.phy r) 60) 9850 with
  | none => s
  | some us =>
    let s := (s.takeTime r us (us + airTime (s.phy r) 60)).modRadio r Radio.nextFcnt
    let s := s.modAssoc r i fun a => { a with acceptDue := false }
    s.radioTx r 60 false .dataFrame us (longForm 12 a.serial (s.radio r).fcnt ([x.keyNo % 256] ++ leBytes 4 x.mapLo ++ leBytes 4 x.mapHi
      ++ leBytes 2 x.seed ++ [x.hop % 256] ++ leBytes 2 a.mapVer ++ leBytes 4 x.e ++ leBytes 2 a.supv ++ leBytes 2 a.sess
      ++ [a.phaseP % 256, a.phaseF % 256]))

/-- The periods of NET_REPORT.PERIOD that have begun for an association, spread over the period by its index (R297, log entry 115). -/
def State.grantPeriod (s : State) (r i : Nat) : Nat :=
  let p := 100 * Nat.max 1 (s.get F.NET_REPORT_PERIOD)
  ((s.radio r).e + p - i * p / assocMax r) / p

/-- JOIN_CONFIRM: the association becomes ACTIVE and JOIN_ACCEPT is sent, in this frame or in the next frame 0; the node's own record is
read (R213). -/
def State.joinConfirm (s : State) (r i : Nat) (micOk nonces : Bool) : State :=
  let a := s.assoc r i
  if !s.radioOn r then s
  else if !micOk then s.inc (F.RAD_CNT0_MIC_FAIL.at r)
  else if a.st ≠ 1 || !nonces then s
  else
    let same := ((List.range 6).map (fun q => ((s.radio q).assocs.filter (fun p => p.2.serial = a.serial
      && (p.2.st = 1 || p.2.st = 2) && !(q = r && p.1 = i))).map (fun p => (q, p.1)))).flatten
    let s := same.foldl (fun s p => s.quarantine p.1 p.2) s
    let key := a.slot + (if a.sensor then 4096 else 0)
    let n := (SMap.getD s.net.sessNo key 0 + 1) % 65536
    let s := s.modNet fun t => { t with sessNo := SMap.insert t.sessNo key n }
    let ph := if a.sleeper then s.freePhase r else (0, 0)
    let e := (s.radio r).e
    let key_ := s.nodeKey a.serial a.nonce a.modNonce r
    let s := s.setAssoc r i { a with
      key := key_
      st := 2, sess := n, seqD := 0, seqU := 0, upSeen := [], heard := e, since := e, eSync := e, ePpm := 0, bPpm := 640,
      guard_ := s.get (F.RAD_SLEEP_G0.at r), misses := 0, phaseP := ph.1, phaseF := ph.2, txns := [], calParts := []
      mapVer := s.get (F.RAD_MAPCHG_VERSION.at r), supv := s.get F.NET_SUPV_SUPV, acceptDue := true, follow := false
      grantK := s.grantPeriod r i }
    let s := ((s.inc F.NET_CNT2_JOINS).joinAccept r i).saveTable r
    if a.sensor then s
    else
      let s := s.modNode a.slot fun x => { x with
        online := true, radio := r, assoc := i, stuck := false, tries := 0, fbSent := false, waitAt := s.mono }
      (List.range 4).foldl (fun s k => s.request r i 0x12 [k] .quiet) s

def execJoinConfirm (r index : Nat) (micOk : Bool) (s : State) (nonces : Bool := true) : Res := s.act fun s => s.joinConfirm r index micOk nonces

/-- An index becomes FREE; what was still requested on it ends TIMEOUT. -/
def State.freeIndex (s : State) (r i : Nat) : State :=
  let os := (s.assoc r i).txns.map Txn.by_
  ((s.modRadio r fun x => { x with assocs := SMap.erase x.assocs i }).saveTable r).finishAll os St.timeout

def execJoinTimeout (r index : Nat) (s : State) : Res :=
  s.act fun s => s.when ((s.assoc r index).st = 1 && decide (100 ≤ s.eSince r (s.assoc r index).since)) fun s =>
    s.freeIndex r index

/-- SUPERVISION_TIMEOUT: AGE reaches SUPV. -/
def State.supervision (s : State) (r i : Nat) : State :=
  let a := s.assoc r i
  if a.st ≠ 2 || s.eSince r a.heard < 100 * s.get F.NET_SUPV_SUPV || !s.radioOn r then s
  else ((s.quarantine r i).inc F.NET_CNT3_DROPS).log Sev.warning 3 F.NET_CNT3_DROPS []

def execSupervisionTimeout (r index : Nat) (s : State) : Res := s.act fun s => s.supervision r index

def execQuarantineExpiry (r index : Nat) (s : State) : Res :=
  s.act fun s => s.when ((s.assoc r index).st = 3
    && decide (100 * s.get F.NET_SUPV_SUPV ≤ s.eSince r (s.assoc r index).since)) fun s => s.freeIndex r index

/-! ### Reception (R267, R278 to R280, R289) -/

/-- The outcomes of Table 06.14 for a sequence that arrives. -/
inductive UpClass where
  | fresh | repeated | stale
  deriving DecidableEq, Repr

def Assoc.classify (a : Assoc) (q : Nat) : UpClass :=
  let below := (a.seqU + 65536 - q % 65536) % 65536
  let above := (q + 65536 - a.seqU) % 65536
  if below ≤ 31 then (if a.upSeen.contains (q % 65536) then .repeated else .fresh)
  else if 1 ≤ above && above ≤ 32767 then .fresh
  else .stale

def Assoc.take (a : Assoc) (q : Nat) : Assoc :=
  let q := q % 65536
  let below := (a.seqU + 65536 - q) % 65536
  let h := if below ≤ 31 then a.seqU else q
  { a with seqU := h, upSeen := (a.upSeen ++ [q]).filter (fun x => decide ((h + 65536 - x) % 65536 ≤ 31)) }

/-- An authenticated frame from the node: AGE := 0. -/
def State.hear (s : State) (r i : Nat) : State := s.modAssoc r i fun a => { a with heard := (s.radio r).e }

/-- The turnaround before an acknowledgement, µs. -/
def ackTurn (r : Nat) : Nat := if 4 ≤ r then 192 else 250

/-- The module acknowledges a frame that ends now, with its MSEQ and ACKINFO (R280); `cell`: in a sleep cell, with the timing correction, e and
b (R286, R287). It transmits nothing in Shadow, and nothing that would break R273 or R277. -/
def State.sendAck (s : State) (r i mseq info : Nat) (cell : Option (List Int)) : State :=
  let a := s.usNow + ackTurn r
  let b := a + airTime (s.phy r) 5
  let ok := match cell with
    | some _ => decide (b ≤ 4200) && s.endsInTime a b
    | none => timeFree (s.positions r) a b && decide (b ≤ 9850) && s.endsInTime a b
  if s.radioOn r && ok then
    (s.takeTime r a b).radioTx r 5 true .ackFrame a ([(i : Int), (fcOctet 5 false false : Nat), (mseq % 256 : Nat), (info : Nat)] ++ cell.getD [])
  else s

/-- FRAME_RX: options, MIC, type and version, then the session of a DATA frame. -/
def State.frameRx (s : State) (r : Nat) (f : RxFrame) : State :=
  if !s.radioHears r then s
  else if f.noise then s.inc (F.RAD_CNT1_CELL_BUSY.at r)
  else if !f.phyOk || maxPsdu r < f.len then s.inc (F.RAD_CNT0_PHY_ERR.at r)
  else if !f.micOk || f.typ = 15 || f.ver ≠ 1 then s.inc (F.RAD_CNT0_MIC_FAIL.at r)
  else if f.typ ≠ 7 && f.typ ≠ 14 then s
  else
    let a := s.assoc r f.index
    if a.st ≠ 2 then s
    else if f.typ = 7 && f.sess ≠ a.sess then s.inc F.NET_CNT1_STALE
    else
      let s := (s.hear r f.index).modAssoc r f.index fun a => { a with rssi := f.rssi % 256 }
      if f.ackReq then s.sendAck r f.index f.seq 0 none else s

def execFrameRx (r : Nat) (f : RxFrame) (s : State) : Res := s.act fun s => s.frameRx r f

/-- A notification of a node: its session is checked and its sequence classified, then it acts. -/
def State.notification (s : State) (r i sess q : Nat) (f : State → Assoc → State) : State :=
  let a := s.assoc r i
  if !s.radioOn r || a.st ≠ 2 then s
  else if sess ≠ a.sess then s.inc F.NET_CNT1_STALE
  else match a.classify q with
    | .stale => (s.hear r i).inc F.NET_CNT1_STALE
    | .repeated => (s.hear r i).inc F.NET_CNT1_DUPLICATES
    | .fresh => f ((s.hear r i).modAssoc r i fun a => (a.take q)) a

/-- NODE_REPORT (R255, R262, Table 06.13). -/
def State.nodeReport (s : State) (r i sess q : Nat) (b : RepBody) : State :=
  s.notification r i sess q fun s a =>
    match b with
    | .lamp rep => if a.sensor then s else (match s.node a.slot with | some x => s.nodeReported a.slot x rep | none => s)
    | .sensor _ flags vals =>
      if !a.sensor then s
      else s.modNet fun n => { n with sensors := SMap.modify n.sensors a.slot fun x =>
        { x with values := (List.range 6).map (fun k => vals.getD k 0 % 65536), flags := flags % 256, stale := false,
                 repAt := s.mono, ever := true } }

def execNodeReport (r index sess seq : Nat) (b : RepBody) (s : State) : Res :=
  s.act fun s => s.nodeReport r index sess seq b

/-- The report period of a sensor, ns: of its sleep cell for a sleeping node, else NET_REPORT.PERIOD. -/
def State.sensorPeriod (s : State) (k : Nat) : Nat :=
  let x := SMap.getD s.net.sensors k {}
  if x.sleeping then
    match (List.range 6).find? (fun r => (s.radio r).assocs.any (fun p => p.2.sensor && p.2.slot = k && p.2.st = 2)) with
    | some r => s.get (F.RAD_SCHED_PERIOD.at r) * superNs
    | none => s.get (F.RAD_SCHED_PERIOD.at 4) * superNs
  else s.get F.NET_REPORT_PERIOD * 1000000000

/-- SENSOR_REPORT_STALE: 3 report periods without a report. -/
def State.sensorStale (s : State) (k : Nat) : State :=
  let x := SMap.getD s.net.sensors k {}
  if x.ever && s.past (x.repAt + 3 * s.sensorPeriod k) then
    s.modNet fun n => { n with sensors := SMap.modify n.sensors k fun x => { x with stale := true } }
  else s

def execSensorReportStale (sensor : Nat) (s : State) : Res := s.act fun s => s.sensorStale sensor

/-! ### Sleeping nodes and drift (R286 to R288) -/

/-- The sleep cell of the frame in progress belongs to this association. -/
def State.ownsCell (s : State) (r : Nat) (a : Assoc) : Bool :=
  a.sleeper && a.st = 2 && a.phaseF = s.num % 10 && s.num % 10 ≠ 0
    && decide (s.num / 10 % Nat.max 1 (s.get (F.RAD_SCHED_PERIOD.at r)) = a.phaseP)

/-- SLEEP_UPLINK (R286 to R288): `delta` is the offset in 1/16 µs, `octets` the PSDU, at most 36, and `search` the event counter of a beacon
that the node found in its search after it had missed one. The time since the last synchronisation, in ms, follows from E_SYNC (log entry
114), so that a quotient of the two has the unit 1/16 ppm. -/
def State.sleepUplink (s : State) (r i : Nat) (delta : Int) (octets : Nat) (search : Option Nat) : State :=
  let a := s.assoc r i
  let span := 10 * s.eSince r (search.getD a.eSync)
  if !s.radioHears r || !s.ownsCell r a || span = 0 || 36 < octets then s
  else
    let gmax := s.get (F.RAD_SLEEP_GMAX.at r)
    let g0 := s.get (F.RAD_SLEEP_G0.at r)
    let guard_ := fun (b : Nat) => min (16000 * g0 + b * span) (16000 * gmax)
    let off := delta * 1000 - a.ePpm * span
    if (guard_ a.bPpm : Int) < off.natAbs then s
    else
      let rr := rdiv off span
      let e := a.ePpm + rdiv rr 8
      let b := Nat.max (s.get (F.RAD_SLEEP_BMIN.at r)) (Nat.max (a.bPpm - a.bPpm / 16) (2 * rr.natAbs))
      let s := if search.isSome then s.inc F.NET_CNT3_DRIFT_MISS else s
      let now := (s.radio r).e
      let s := s.setAssoc r i { a with
        ePpm := clampI (-32768) 32767 e, bPpm := min 65535 b, guard_ := guard_ b / 16000, misses := 0, heard := now,
        eSync := if s.radioOn r then now else search.getD a.eSync
        follow := decide (a.txns ≠ []) && s.radioOn r }
      s.sendAck r i 0 (64 * b2n (a.txns ≠ [])) (some [-delta, e, b])

def execSleepUplink (r index : Nat) (delta : Int) (octets : Nat) (s : State) (search : Option Nat := none) : Res :=
  s.act fun s => s.sleepUplink r index delta octets search

/-! ### The transaction layer (R290 to R296) -/

def Assoc.txn (a : Assoc) (q : Nat) : Option Txn := a.txns.find? (fun t => t.seq = q)
def State.setTxn (s : State) (r i : Nat) (t : Txn) : State :=
  s.modAssoc r i fun a => { a with txns := a.txns.map (fun x => if x.seq = t.seq then t else x) }
def State.dropTxn (s : State) (r i q : Nat) : State :=
  s.modAssoc r i fun a => { a with txns := a.txns.filter (fun x => x.seq ≠ q) }

/-- The body of a request as octets (Table 06.12): staging records, retractions and fallback parts are octets already. -/
def Txn.bodyOctets (t : Txn) : List Nat :=
  let v := fun k => t.body.getD k 0
  if t.op = 0x13 then v 0 % 256 :: octetsOf (t.body.drop 1)
  else if t.op = 0x16 || t.op = 0x1B then leBytes 2 (v 0)
  else if t.op = 0x18 then leBytes 2 (v 0) ++ leBytes 4 (v 1) ++ leBytes 2 (v 2) ++ [v 3 % 256] ++ beBytes 48 (v 4)
  else if t.op = 0x1A then leBytes 4 (v 0)
  else t.body.map (· % 256)

/-- The DATA payload of a request: the transaction header and the body. -/
def Txn.payload (t : Txn) (sess : Nat) : List Nat := leBytes 2 sess ++ leBytes 2 t.seq ++ [t.op % 64] ++ t.bodyOctets

/-- The PSDU of a request: header forms of Table 06.5 and the transaction header. -/
def Txn.octets (t : Txn) : Nat := 19 + t.bodyOctets.length

/-- When a node can hear a downlink: a sleeping node only from its beacon to 7,050 µs of a frame 0 for which FOLLOW keeps it awake (R286). -/
def State.hearsBy (s : State) (a : Assoc) : Nat := if !a.sleeper then 9850 else if a.follow && s.frame0 then 7050 else 0

/-- Place the frame of a request; `fresh`: it is no MAC repeat, and takes a new frame counter (R290). -/
def State.txTxn (s : State) (r i : Nat) (t : Txn) (fresh : Bool) : State :=
  let a := s.assoc r i
  s.placed r t.octets (s.hearsBy a) fun us s =>
    let s := if fresh then s.modRadio r Radio.nextFcnt else s
    let t := if fresh then { t with fcnt := (s.radio r).fcnt } else t
    (s.setTxn r i t).radioTx r t.octets false .dataFrame us (assocForm 7 true 0 i t.fcnt (t.payload a.sess))

def Txn.rank (t : Txn) : Nat := if t.op = 0x10 || t.op = 0x11 then 4 else 2

/-- Send unless the duty limit withholds it. -/
def State.unlessShed (s : State) (r rank : Nat) (f : State → State) : State :=
  if s.sheds r rank then s.inc (F.RAD_CNT1_SHED.at r) else f s

/-- ACK_RX: MAC repeats stop; PENDING asks for an uplink grant. -/
def State.ackRx (s : State) (r i q info : Nat) : State :=
  let a := s.assoc r i
  if !s.radioOn r then s
  else match a.txn q with
    | none => s
    | some t =>
      if t.firstAt.isNone then s
      else
        let s := s.setTxn r i { t with acked := true, lastAt := (s.radio r).e }
        if bit info 7 then s.modAssoc r i fun a => { a with pendingUp := true } else s

def execAckRx (r index seq info : Nat) (s : State) : Res := s.act fun s => s.ackRx r index seq info

/-- The timeout boundary of a request has come (R293). -/
def State.txnExpired (s : State) (r : Nat) (t : Txn) : Bool :=
  match t.firstAt with
  | some e0 => decide (s.get F.NET_TXN_TIMEOUT ≤ s.eSince r e0)
  | none => false

/-- MAC_REPEAT (R290). -/
def State.macRepeat (s : State) (r i q : Nat) : State :=
  match (s.assoc r i).txn q with
  | none => s
  | some t =>
    if !s.radioOn r || t.firstAt.isNone || t.acked || s.get F.NET_MAC_RETRIES ≤ t.repeats || s.txnExpired r t
        || s.eSince r t.lastAt < s.get F.NET_MAC_SPACING then s
    else s.inSlot r fun s => s.unlessShed r t.rank fun s =>
      let u := s.txTxn r i { t with repeats := t.repeats + 1, lastAt := (s.radio r).e } false
      if u.net = s.net then s else u.inc (F.RAD_CNT2_RETRIES.at r)

def execMacRepeat (r index seq : Nat) (s : State) : Res := s.act fun s => s.macRepeat r index seq

/-- A series of attempts that ends without an acknowledgement is counted. -/
def State.seriesEnd (s : State) (r : Nat) (t : Txn) : State := if t.acked then s else s.inc (F.RAD_CNT2_NOACK.at r)

/-- TXN_RESEND: RESEND frames after the acknowledgement, or after the last attempt of a series without one. -/
def State.txnResend (s : State) (r i q : Nat) : State :=
  match (s.assoc r i).txn q with
  | none => s
  | some t =>
    if !s.radioOn r || t.firstAt.isNone || s.txnExpired r t || !(t.acked || decide (s.get F.NET_MAC_RETRIES ≤ t.repeats))
        || s.eSince r t.lastAt < s.get F.NET_TXN_RESEND then s
    else s.inSlot r fun s => s.unlessShed r t.rank fun s =>
      let u := s.txTxn r i { t with repeats := 0, acked := false, lastAt := (s.radio r).e } true
      if u.net = s.net then s else u.seriesEnd r t

def execTxnResend (r index seq : Nat) (s : State) : Res := s.act fun s => s.txnResend r index seq

/-! ### Node firmware campaigns (R301 to R303) -/

def State.setCampaign (s : State) (r : Nat) (c : Campaign) : State :=
  let s : State := s.modNet fun n => { n with campaigns := SMap.insert n.campaigns r c }
  (s.put (F.NET_UPD_STATE.at r) c.st).put (F.NET_UPD_MEMBERS.at r) (c.members.length - c.done.length)

/-- The octets of a block, and the number of blocks. -/
def blockSize (r : Nat) : Nat := if r < 4 then 128 else 64
def Campaign.blocks (c : Campaign) (r : Nat) : Nat := (c.image.length + blockSize r - 1) / blockSize r

/-- The ACTIVE association of a slot on one radio. -/
def State.assocOn (s : State) (r kind slot : Nat) : Option Nat :=
  ((s.radio r).assocs.find? (fun p => p.2.st = 2 && p.2.slot = slot && p.2.sensor = decide (kind = 1))).map Prod.fst

/-- Send a request to every member of a campaign. -/
def State.campaignAll (s : State) (r : Nat) (c : Campaign) (op : Nat) (bodies : List (List Nat)) : State :=
  c.members.foldl (fun s m => match s.assocOn r c.kind m with
    | none => s
    | some i => bodies.foldl (fun s b => s.request r i op b .quiet) s) s

/-- The campaign ends: its status, its session, and who asked. -/
def State.campaignEnd (s : State) (r st : Nat) : State :=
  let c := s.campaign r
  let s := (s.setCampaign r { c with st := 4, image := [], todo := [], missing := [], by_ := .quiet }).put (F.NET_UPD_STATUS.at r) st
  (s.freeSession c.ctx).finish c.by_ st []

/-- Some member's request of an operation is still outstanding. -/
def State.campaignWaits (s : State) (r op : Nat) : Bool :=
  (s.radio r).assocs.any (fun p => p.2.txns.any (fun t => t.op = op))

/-- Collecting: UPD_STATUS to every member, 256 blocks a request. -/
def State.campaignCollect (s : State) (r : Nat) : State :=
  let c := { s.campaign r with st := 2, missing := [], short := [] }
  let s := s.setCampaign r c
  s.campaignAll r c 0x19 ((List.range ((c.blocks r + 255) / 256)).map (fun k => [k]))

/-- When every UPD_STATUS is answered or timed out: another pass, or activation (R301, R302). -/
def State.campaignNext (s : State) (r : Nat) : State :=
  let c := s.campaign r
  if c.st ≠ 2 || s.campaignWaits r 0x19 then s
  else if c.missing ≠ [] && c.pass < 8 then
    s.setCampaign r { c with st := 1, todo := c.missing, missing := [], pass := c.pass + 1 }
  else
    let f := s.num + s.get F.LGT_LEAD_FRAMES + 100 + s.get F.NET_TXN_TIMEOUT
    let c := { c with st := 3, frame := some f, acts := [] }
    (s.setCampaign r c).campaignAll r c 0x1A [[f % 2 ^ 32]]

/-- A campaign part: octets of the image, in order. -/
def State.campaignPart (s : State) (r off : Nat) (data : List Nat) : State × Nat :=
  let c := s.campaign r
  if c.active then (s, 0x0704)
  else
    let have_ := if off = 0 then [] else c.image
    if off ≠ have_.length then (s, St.badArg)
    else (s.setCampaign r { c with image := have_ ++ data.map (· % 256) }, St.done)

/-- START: UPD_START to each member; the campaign is a long operation (R301, R303). -/
def State.campaignStart (s : State) (o : Origin) (r kind : Nat) (members : List Nat) : State × Nat :=
  let c := s.campaign r
  if c.active then (s, 0x0704)
  else if c.image = [] || members = [] || !s.flag (F.RAD_CFG_EN.at r) then (s, St.badArg)
  else
    let n := s.net.campNo + 1
    match s.openSession { typ := 2, peer := n % 65536 } with
    | (s, none) => (s, St.busy)
    | (s, some ctx) =>
      let s := s.modNet fun t => { t with campNo := n }
      let c : Campaign := { st := 1, ctx := ctx, number := n, kind := kind, image := c.image, members := members,
                            todo := List.range (c.blocks r), pass := 1, by_ := o }
      let s := (s.setCampaign r c).put (F.NET_UPD_STATUS.at r) St.pending
      (s.campaignAll r c 0x18 [[n % 65536, c.image.length, c.blocks r, blockSize r, ofBe (sha384 c.image)]], St.pending)

/-- CAMPAIGN_ACTIVATION: at B_F the members that answered DONE apply tag F, discard later entries, switch image and rejoin. -/
def State.campaignActivate (s : State) (r : Nat) : State :=
  let c := s.campaign r
  match c.frame with
  | none => s
  | some f =>
    if c.st ≠ 3 || s.num < f then s
    else
      let s := c.acts.foldl (fun s m => match s.assocOn r c.kind m with
        | none => s
        | some i =>
          let s := s.quarantine r i
          if c.kind = 1 then s
          else s.modNode m fun x => { x with entries := x.entries.filter (fun e => decide (e.tag ≤ f)) }) s
      s.campaignEnd r St.done

def execCampaignActivation (radio : Nat) (s : State) : Res := s.act fun s => s.campaignActivate radio

/-- An abort of a campaign before B_F: UPD_ABORT is sent and the nodes discard the stored blocks (R302). -/
def State.abortCampaign (s : State) (o : Origin) : Option (State × Nat) :=
  match (List.range 6).find? (fun r => (s.campaign r).active && (s.campaign r).by_ = o) with
  | none => none
  | some r =>
    let c := s.campaign r
    let s := s.modRadio r fun x => { x with assocs := x.assocs.map (fun p =>
      (p.1, { p.2 with txns := p.2.txns.filter (fun t => !(0x18 ≤ t.op && t.op ≤ 0x1A)) })) }
    some ((s.campaignAll r c 0x1B [[c.number % 65536]]).campaignEnd r St.aborted, St.aborted)

/-- What the campaign takes from a member's answer, or from its silence. -/
def State.campaignAnswer (s : State) (r i : Nat) (t : Txn) (st : Option Nat) (body : List Nat) : State :=
  let c := s.campaign r
  let a := s.assoc r i
  if !c.active || !c.members.contains a.slot then s
  else if t.op = 0x19 && c.st = 2 then
    let base := 256 * t.body.getD 0 0
    let miss := if st = some 0 then (List.range (min 256 (c.blocks r - base))).filter (fun k => bit (u8 body (k / 8)) (k % 8)) else []
    let clean := st = some 0 && miss = []
    let c := { c with missing := miss.foldl (fun l k => insertN l (base + k)) c.missing,
                      short := if clean then c.short else insertN c.short a.slot }
    let last := !(s.assoc r i).txns.any (fun x => x.op = 0x19)
    let c := if last then
        { c with done := if c.short.contains a.slot then removeN c.done a.slot else insertN c.done a.slot } else c
    (s.setCampaign r c).campaignNext r
  else if t.op = 0x1A && c.st = 3 && st = some 0 then s.setCampaign r { c with acts := insertN c.acts a.slot }
  else s

/-! ### The end of a request (R293 to R295) -/

/-- TXN_TIMEOUT: the request ends TIMEOUT and its repeats are cancelled. -/
def State.txnTimeout (s : State) (r i q : Nat) : State :=
  match (s.assoc r i).txn q with
  | none => s
  | some t =>
    if !s.txnExpired r t then s
    else
      let s := ((s.seriesEnd r t).dropTxn r i q).inc F.NET_CNT0_TIMEOUTS
      (s.campaignAnswer r i t none []).finish t.by_ St.timeout []

def execTxnTimeout (r index seq : Nat) (s : State) : Res := s.act fun s => s.txnTimeout r index seq

/-- A late response (R294): counted; the first of an association in each 60 s writes an Info record. -/
def State.lateResponse (s : State) (r i : Nat) : State :=
  let s := s.inc F.NET_CNT0_LATE
  let a := s.assoc r i
  let due := match a.lateAt with
    | none => true
    | some t => decide (t + 60000000000 ≤ s.mono)
  if due then (s.setAssoc r i { a with lateAt := some s.mono }).log Sev.info 3 F.NET_CNT0_LATE [] else s

/-- A node's calibration record is complete: a good one that differs replaces the stored one (R213). -/
def State.nodeCal (s : State) (slot : Nat) (parts : SMap (List Nat)) : State :=
  let w := ((List.range 4).map (fun k => (List.range 8).map (fun j => (SMap.getD parts k []).getD j 0))).flatten
  match s.node slot with
  | none => s
  | some x =>
    if calCrcOk w && x.cal ≠ w then
      (s.setNode slot { x with cal := w, nocal := !calOk w, newCal := true }).log Sev.info 3 F.LGT_NODES_DISC []
    else s

/-- What the module does when a node has answered DONE: it holds what STAGE_U carried, and no longer what RETRACT_U named. -/
def State.nodeDone (s : State) (r i : Nat) (t : Txn) (body : List Nat) : State :=
  let a := s.assoc r i
  if t.op = 0x10 then
    s.modNode a.slot fun x => { x with
      entries := x.entries.map (fun e => if e.tag = t.tag && e.st = 1 && decide (e.ver ≤ t.ver) then { e with st := 2 } else e),
      lossTag := if x.lossTag = some t.tag then none else x.lossTag }
  else if t.op = 0x11 then
    s.modNode a.slot fun x => { x with entries := x.entries.map (fun (e : Entry) =>
      if (e.st = 3 || e.st = 4) && e.uni && e.tag = t.tag && e.ver = t.ver then { e with st := 0 } else e) }
  else if t.op = 0x12 then
    let parts := SMap.insert a.calParts (t.body.getD 0 0) body
    let s := s.setAssoc r i { a with calParts := parts }
    if 4 ≤ parts.length then s.nodeCal a.slot parts else s
  else if t.op = 0x17 then s.quarantine r i
  else s

/-- NODE_RESPONSE (R294, R295): before the timeout boundary it completes its request. -/
def State.nodeResponse (s : State) (r i sess q status : Nat) (body : List Nat) : State :=
  let a := s.assoc r i
  if !s.radioOn r || a.st ≠ 2 then s
  else if sess ≠ a.sess then s.inc F.NET_CNT1_STALE
  else
    let s := s.hear r i
    match a.txn q with
    | none => s.lateResponse r i
    | some t =>
      if t.firstAt.isNone || s.txnExpired r t then s.lateResponse r i
      else
        let s := s.dropTxn r i q
        let s := if status = 0 then s.nodeDone r i t body else s
        let s := s.campaignAnswer r i t (some status) body
        if status = 0 then s.finish t.by_ St.done (if t.op = 0x15 then (List.range 16).map (fun k => body.getD k 0 % 2 ^ 32) else [])
        else s.finish t.by_ 0x0705 [status % 65536]

def execNodeResponse (r index sess seq status : Nat) (body : List Nat) (s : State) : Res :=
  s.act fun s => s.nodeResponse r index sess seq status body

/-- An abort of a node service before its response (R295). -/
def State.abortNode (s : State) (o : Origin) : Option (State × Nat) :=
  match ((List.range 6).map (fun r => ((s.radio r).assocs.filter (fun p => p.2.txns.any (fun t => t.by_ = o))).map
      (fun p => (r, p.1)))).flatten with
  | [] => none
  | (r, i) :: _ =>
    let s := s.modAssoc r i fun a => { a with txns := a.txns.filter (fun t => t.by_ ≠ o) }
    some (s.finish o St.aborted [], St.aborted)

/-! ### Services (R295) -/

/-- The ACTIVE association of a slot. -/
def State.assocOf (s : State) (kind slot : Nat) : Option (Nat × Nat) :=
  match (List.range 6).find? (fun r => (s.assocOn r kind slot).isSome) with
  | some r => (s.assocOn r kind slot).map (fun i => (r, i))
  | none => none

/-- A request to the node of a slot. -/
def State.askNode (s : State) (o : Origin) (kind slot op : Nat) (body : List Nat) : SvcRes :=
  match s.assocOf kind slot with
  | none => (s, 0x0702, [])
  | some (r, i) => (s.request r i op body o, St.pending, [])

def svcNodeQuery (s : State) (o : Origin) (a : SvcArgs) : SvcRes :=
  if 1 < a.wb.toNat || (if a.wb.toNat = 1 then 1024 else 4096) ≤ a.wa.toNat then (s, St.badArg, [])
  else s.askNode o a.wb.toNat a.wa.toNat 0x15 []
def svcNodeIdentify (s : State) (o : Origin) (a : SvcArgs) : SvcRes :=
  if 4096 ≤ a.wa.toNat || a.wb.toNat = 0 || 600 < a.wb.toNat then (s, St.badArg, [])
  else s.askNode o 0 a.wa.toNat 0x16 [a.wb.toNat]
def svcNodeRestart (s : State) (o : Origin) (a : SvcArgs) : SvcRes :=
  if 4096 ≤ a.wa.toNat then (s, St.badArg, []) else s.askNode o 0 a.wa.toNat 0x17 []

/-! ### Lighting traffic (R297) -/

/-- A staging record (Table 06.9): a retraction names its version, with MASK 0 and no values. -/
def Entry.record (e : Entry) : List Nat :=
  let gone := e.st = 3 || e.st = 4
  leBytes 4 e.tag ++ leBytes 3 ((if gone then 3 else e.kind) * 2 ^ 22 + e.ver % 16 * 2 ^ 18 + (if gone then 0 else e.fade % 4096 * 64))
    ++ [if gone then 0 else e.mask % 256]
    ++ (if gone then [] else ((List.range 8).filter (bit e.mask)).flatMap fun k =>
      if e.kind = 1 then leBytes 2 (e.vals.getD k 0) else leBytes 5 (e.vals.getD k 0 % 2 ^ 20 * 2 ^ 20 + e.lmax.getD k 0 % 2 ^ 16 * 16))

def topVer (es : List Entry) : Nat := maxN (es.map Entry.ver)

/-- Take the next staging serial of a radio. -/
def State.nextSerial (s : State) (r : Nat) (node : Option Nat) (group tag ver : Nat) : State × Nat :=
  let n := ((s.radio r).sser + 1) % 65536
  (s.modRadio r fun x => { x with
    sser := n, staged := x.staged.filter (fun m => decide (s.num < m.tag)) ++ [⟨n, node, group, tag, ver⟩] }, n)

/-- Ask a node to take, or to give up, entries of one tag: STAGE_U, RETRACT_U. -/
def State.stageAsk (s : State) (r i slot op tag : Nat) (es : List Entry) : State :=
  let (s, n) := s.nextSerial r (some slot) 0 tag (topVer es)
  s.request r i op (leBytes 2 n ++ es.flatMap Entry.record) .quiet tag (topVer es)

/-- NACK: what of the range concerns the node and is still more than CATCHUP frames ahead goes again by STAGE_U; the rest is left
to the catch-up. -/
def State.nack (s : State) (r i sess q first last : Nat) : State :=
  s.notification r i sess q fun s a =>
    let s := s.inc F.NET_CNT2_NACKS
    if a.sensor then s
    else match s.node a.slot with
      | none => s
      | some x =>
        let lost := (s.radio r).staged.filter (fun m => decide ((m.sser + 65536 - first % 65536) % 65536
            ≤ (last + 65536 - first % 65536) % 65536)
          && (m.node = some a.slot || (m.node = none && m.group = x.group)))
        let tags := (lost.map Staged.tag).filter (fun t => x.entries.any (fun e => e.live && e.tag = t))
        let ahead := s.num + s.get F.LGT_GRACE_CATCHUP
        let again := (tags.filter (fun t => decide (ahead < t))).foldl insertN []
        let s := again.foldl (fun (s : State) t => s.stageAsk r i a.slot 0x10 t (x.entries.filter (fun e => e.live && e.tag = t))) s
        match tags with
        | [] => s
        | t :: l =>
          let low := l.foldl min t
          s.modNode a.slot fun x => { x with lossTag := some (match x.lossTag with | some u => min u low | none => low) }

def execNack (r index sess seq first last : Nat) (s : State) : Res := s.act fun s => s.nack r index sess seq first last

/-- RELAY: a hop to or from a relayed node (R298). -/
def State.relay (s : State) (r i : Nat) (down : Bool) (octets : Nat) : State :=
  let a := s.assoc r i
  if !s.radioOn r || !s.flag (F.RAD_CFG_RELAY_EN.at r) || a.st ≠ 2 || a.depth = 0 || maxPsdu r < 14 + octets then s
  else if down then
    s.inSlot r fun s => s.unlessShed r 2 fun s => s.placed r (14 + octets) 9850 fun us s =>
      let s := s.modRadio r Radio.nextFcnt
      s.radioTx r (14 + octets) false .relayFrame us [a.parent, i, (s.radio r).fcnt, octets]
  else s.hear r a.parent |>.hear r i

def execRelay (r index : Nat) (down : Bool) (octets : Nat) (s : State) : Res := s.act fun s => s.relay r index down octets

/-! ### The data region (R273, R297) -/

/-- A grant at a start instant, units of 2 µs: the uplink of at most 64 octets lies in free time (R273, R297). -/
def State.grantFits (s : State) (r start : Nat) : Bool :=
  s.freeAt r (2 * start) (2 * start + airTime (s.phy r) 64)

/-- A REPORT is due of a listening node (R297): after an acknowledgement with PENDING, within 3 frames after the effect boundary of its
catch-up, or once in each period. -/
def State.grantDue (s : State) (r i : Nat) : Bool :=
  let a := s.assoc r i
  let caught := match s.node a.slot with
    | some x => !a.sensor && decide (0 < x.cuAt) && decide (x.cuAt ≤ s.num) && decide (s.num ≤ x.cuAt + 3)
    | none => false
  a.pendingUp || caught || a.grantK ≠ s.grantPeriod r i

/-- GRANT: one entry of an association index and a start instant. Nothing else is placed in the uplink's time, nor where its
acknowledgement may lie. -/
def State.grantTx (s : State) (r i start : Nat) : State :=
  let a := s.assoc r i
  if a.st ≠ 2 || a.sleeper || 8192 ≤ start || !s.grantDue r i then s
  else s.unlessShed r 3 fun old => old.placed r 18 (2 * start) fun us s =>
    if !s.grantFits r start then old
    else
      let s := s.takeTime r (2 * start) (2 * start + airTime (s.phy r) 64 + ackTurn r + airTime (s.phy r) 5)
      let s := s.setAssoc r i { a with pendingUp := false, grantK := s.grantPeriod r i }
      let s := s.modRadio r fun x => { x with granted := x.granted ++ [(s.mono, airTime (s.phy r) 64)] }
      s.sendNew r us 6 false 2 0 (1 :: leBytes 3 (8192 * i + start))

/-- A STAGE frame with what a group holds or gives up of a tag, once for each version; else the STAGE_U or RETRACT_U request for what the
node does. -/
def State.stageTx (s : State) (r slot tag : Nat) : State :=
  match s.node slot with
  | none => s
  | some x =>
    if x.radio ≠ r || !x.online || (s.localOf slot).isSome then s
    else
      let ms := x.entries.filter (fun e => !e.uni && e.tag = tag && (e.st = 1 || e.st = 4))
      let us := x.entries.filter (fun e => e.uni && e.tag = tag && e.st = 1)
      let rs := (x.entries.filter (fun e => e.uni && e.tag = tag && e.st = 3)).take 1
      let asked := fun op es => (s.assoc r x.assoc).txns.any (fun t => t.op = op && t.tag = tag && decide (topVer es ≤ t.ver))
      let recs := ms.flatMap Entry.record
      if ms ≠ [] && !(s.radio r).staged.any (fun m => m.node = none && m.group = x.group && m.tag = tag && decide (topVer ms ≤ m.ver)) then
        s.unlessShed r 5 fun s => s.placed r (16 + recs.length) 9850 fun a s =>
          let (s, n) := s.nextSerial r none x.group tag (topVer ms)
          s.sendNew r a 8 false 1 x.group (leBytes 2 n ++ recs)
      else if us ≠ [] && !asked 0x10 us then s.unlessShed r 4 fun s => s.stageAsk r x.assoc slot 0x10 tag us
      else if rs ≠ [] && !asked 0x11 rs then s.unlessShed r 4 fun s => s.stageAsk r x.assoc slot 0x11 tag rs
      else s

/-- JOIN_OFFER: the association index, the module's nonce and the instant granted for the JOIN_CONFIRM, in free time of the same frame, in units
of 2 µs. -/
def State.joinOffer (s : State) (r i : Nat) : State :=
  let a := s.assoc r i
  let t := airTime (s.phy r) 28
  s.placed r 28 9850 fun us s =>
    match s.freeFrom r ((us + t + 1) / 2 * 2) (t + 1) 9850 with
    | none => s
    | some g =>
      let (n, s) := s.draw
      let s := (s.setAssoc r i { a with modNonce := n }).takeTime r g (g + t + 1)
      let s := s.modRadio r Radio.nextFcnt
      s.radioTx r 28 false .dataFrame us (longForm 10 a.serial (s.radio r).fcnt (leBytes 2 i ++ leBytes 4 n ++ leBytes 2 ((g + 1) / 2)))

/-- DATA_REGION_TX. -/
def State.dataTx (s : State) (r : Nat) (d : DataTx) : State :=
  if !s.radioOn r then s
  else s.inSlot r fun s =>
    match d with
    | .grant i start => s.grantTx r i start
    | .stage slot tag => s.stageTx r slot tag
    | .txn i q =>
      let a := s.assoc r i
      match a.txn q with
      | none => s
      | some t =>
        let tooLate := t.op = 0x1A && (match (s.campaign r).frame with
          | some f => decide (f < s.num + s.get F.LGT_LEAD_FRAMES + 100)
          | none => true)
        if t.firstAt.isSome || a.st ≠ 2 || 4 ≤ countP (fun t => t.firstAt.isSome) a.txns || tooLate then s
        else s.unlessShed r t.rank fun s =>
          s.txTxn r i { t with firstAt := some (s.radio r).e, lastAt := (s.radio r).e } true
    | .joinOffer i =>
      let a := s.assoc r i
      if a.st = 2 && a.acceptDue && s.frame0 then s.joinAccept r i
      else if a.st ≠ 1 || s.num % 10 ≠ a.depth % 10 || s.eSince r a.since = 0 || 100 < s.eSince r a.since then s
      else s.joinOffer r i
    | .block =>
      let c := s.campaign r
      match c.todo with
      | k :: l =>
        if c.st ≠ 1 || s.campaignWaits r 0x18 then s
        else s.unlessShed r 1 fun s =>
          let data := (c.image.drop (k * blockSize r)).take (blockSize r)
          s.placed r (20 + data.length) 9850 fun us s =>
            let s := s.sendNew r us 13 false 1 1023 (leBytes 2 k ++ data ++ leBytes 4 (crc32c data))
            let s := s.setCampaign r { c with todo := l }
            if l = [] then s.campaignCollect r else s
      | [] => s

def execDataRegionTx (r : Nat) (x : DataTx) (s : State) : Res := s.act fun s => s.dataTx r x

/-! ### Fallback schedules and calibration records on the air (R213, R259) -/

/-- The bodies of FALLBACK for a node, four breakpoints each in the words of Table 05.2 with drives for targets; then AFTER and the
reference of frame and recipe time. The drives are those at the last reported board temperature. DESIGN CHOICE (log entry 112): a recipe
that R260 would refuse, as a table switch may bring, leaves the node without a schedule. -/
def State.fallbackBodies (s : State) (x : Node) : List (List Nat) :=
  let r := s.recipe (s.get (F.LGT_GRP_CFG_FB_RECIPE.at x.group))
  let l := if s.flag (F.LGT_GRP_CFG_FB_EN.at x.group) && fallbackOk r then r else []
  let drives := fun (b : Break) => (List.range 8).map (fun k =>
    if x.fit k then (driveOf (b.v.getD k 0) (x.gainAt x.dTlast k).1 (x.lmax k)).1 else 0)
  let one := fun (b : Break) => octetsOf ([b.ramp * 2 ^ 20 + b.shape * 2 ^ 18 + b.time] ++ (List.range 4).map (pack16 (drives b)))
  (List.range (Nat.max 1 ((l.length + 3) / 4))).map (fun p =>
    [p] ++ ((l.drop (4 * p)).take 4).flatMap one ++ leBytes 2 (s.get F.LGT_FB_AFTER) ++ leBytes 6 s.num ++ leBytes 4 (s.recipeTime s.num))

/-- A node's fallback schedule is due: it was not sent since it changed, or the board temperature has moved. -/
def State.fallbackDue (s : State) (x : Node) : Bool :=
  x.online && (!x.fbSent || decide (16 * s.get F.LGT_FB_TEMP_BAND < (toInt 16 x.tboard - toInt 16 x.fbTemp).natAbs))

/-- The requests that the lighting plane's records make in a frame. -/
def State.nodeTraffic (s : State) : State :=
  if !s.radiosRun then s
  else s.light.nodes.foldl (fun (s : State) p =>
    match s.node p.1 with
    | none => s
    | some x =>
      if !x.online then s
      else
        let s := if !x.calSend then s else
          (List.range 4).foldl (fun s k => s.request x.radio x.assoc 0x13 (k :: (x.cal.drop (8 * k)).take 8) .quiet)
            (s.modNode p.1 fun x => { x with calSend := false })
        if !s.fallbackDue x then s
        else
          (s.fallbackBodies x).foldl (fun s b => s.request x.radio x.assoc 0x14 b .quiet)
            (s.modNode p.1 fun x => { x with fbSent := true, fbTemp := x.tboard })) s

/-! ### The radios at a frame boundary (R268, R277, R285, R305) -/

/-- Crystal periods since 2000-01-01, the time with which E is saved. -/
def State.rtcPeriods (s : State) : Nat := s.rtc.t.secs * 32768 + s.rtc.t.sub

/-- The end of a frame for one radio: owned sleep cells without an uplink are counted, E advances. -/
def State.radioEnd (s : State) (r : Nat) : State :=
  let x := s.radio r
  let s := if !s.radioHears r then s else s.modRadio r fun y => { y with assocs := y.assocs.map (fun p =>
    (p.1, if s.ownsCell r p.2 && p.2.heard ≠ x.e then { p.2 with misses := min 255 (p.2.misses + 1) } else p.2)) }
  s.modRadio r fun y => { y with
    e := (y.e + 1) % 2 ^ 32, cells := 0, sent := [], exclusions := []
    busy := (y.busy.filter fun p => decide (10000 ≤ p.1)).map fun p => (p.1 - 10000, p.2 - 10000)
    assocs := if s.frame0 then y.assocs.map (fun p => (p.1, { p.2 with follow := false })) else y.assocs }

/-- The frame that ends, before the number advances. -/
def State.radiosEnd (s : State) : State := (List.range 6).foldl State.radioEnd s

/-- The frame that begins: channels, duty, and the save of E in frame 0. `realigned`: the boundary ends a transitional frame. -/
def State.radiosBegin (s : State) (realigned : Bool) : State :=
  let s := (List.range 6).foldl (fun (s : State) r =>
    let s := if realigned then s.modRadio r fun x => { x with realignedLeft := 10 } else s
    ((s.dutyFrame r).modRadio r fun x => { x with shown := x.assocs }).radioStat r) s
  let s := (List.range 6).foldl State.campaignNext s
  if s.frame0 then
    s.modNet fun n => { n with eSaveAt := s.rtcPeriods, radios := n.radios.map (fun x => { x with eSave := x.e }) }
  else s

/-- Frame counters advance by 2^24 at each start and at each takeover; a key is rolled when the counter would wrap (R278). -/
def Radio.jumpFcnt (x : Radio) : Radio :=
  if 2 ^ 32 ≤ x.fcnt + 2 ^ 24 then { x with fcnt := 0, keyNo := x.keyNo + 1 } else { x with fcnt := x.fcnt + 2 ^ 24 }

/-- Step 7 of start-up (R285): associations and frame counters as saved, E advanced by the whole frames of RTC time since its save, rounded to
nearest, unless the RTC has lost time; what was in progress is gone. -/
def State.netRestore (s : State) : State :=
  let gone := s.rtcPeriods - s.net.eSaveAt
  let k := if s.flag F.RTC_STAT_OSF then 0 else (gone * 100 * 2 + 32768) / 65536
  s.modNet fun n => { n with
    campaigns := [],
    radios := n.radios.map (fun x =>
      let e := (x.eSave + k) % 2 ^ 32
      { ({ x with fcnt := x.fcntSave }).jumpFcnt with
        e := e, cells := 0, sent := [], exclusions := [], busy := [], air := [], granted := [], shed := 0, dutyOver := false, staged := [],
        chgPending := false, chgSilent := false, remain := 0, chgAt := none,
        assocs := (x.saved.filter (fun p => p.2.st ≠ 1)).map (fun p => (p.1, { p.2 with txns := [], follow := false, heard := e })) }) }

/-- A takeover (R278, R296, Table 13.11): counters jump, down sequences advance by 64; requests that belong to no call are sent
again under their SEQ. -/
def State.netTakeover (s : State) : State :=
  s.modNet fun n => { n with radios := n.radios.map (fun x =>
    { x.jumpFcnt with sent := [], staged := [], busy := [], assocs := x.assocs.map (fun p =>
      (p.1, { p.2 with
        seqD := (p.2.seqD + 64) % 65536
        txns := (p.2.txns.filter fun t => t.by_ = .quiet).map fun (t : Txn) =>
          { t with firstAt := none, acked := false, repeats := 0 } })) }) }

/-- NET_ASEL (R306, Table 06.20): the association record as it stood at the last frame boundary. -/
def State.assocRecord (s : State) (r i : Nat) : List Nat :=
  let a := SMap.getD (s.radio r).shown i {}
  [ a.serial % 2 ^ 32, a.serial / 2 ^ 32 % 2 ^ 32,
    2 ^ 30 * a.st + 2 ^ 29 * b2n a.sleeper + 2 ^ 28 * b2n a.sensor + 2 ^ 25 * (a.depth % 8) + 2 ^ 13 * (a.slot % 4096)
      + 2 ^ 12 * b2n a.relay + a.parent % 2048,
    a.eSync, a.sess * 65536 + a.seqD, a.seqU * 65536 + min 65535 (s.eSince r a.heard / 100),
    ofInt 16 a.ePpm * 65536 + a.bPpm % 65536, 2 ^ 22 * (a.guard_ % 1024) + 2 ^ 8 * (a.rssi % 256) + a.misses % 256 ]

def State.selAssoc (s : State) (rk w : Nat) : State :=
  let r := bits w 18 16
  let i := bits w 10 0
  let s := (s.put F.NET_ASEL_RADIO r).put F.NET_ASEL_INDEX i
  s.setLatch Win.assoc rk (if 6 ≤ r || assocMax r ≤ i then List.replicate 8 0 else s.assocRecord r i)

end Sys2Proof.Machine
end

