-- ==== Sys2Proof/Machine/Orders.lean ====
section
/-!
DEFINITION. The lighting services (R227, R229, R232, R233, R251): LGT.SET_GROUP to LGT.READ_STAGING.
-/
namespace Sys2Proof.Machine

/-- The D block of an order: bits [15:0] of each word are targets, bits [27:16] of word 0 the fade; any other bit is a fault. -/
def orderArgs (d : List Word) : Option (List Nat × Nat) :=
  let w := fun k => (d.getD k 0).toNat
  if decide (w 0 / 2 ^ 28 = 0) && (List.range 8).all (fun k => decide (k = 0) || decide (w k / 2 ^ 16 = 0)) then
    some ((List.range 8).map (fun k => w k % 65536), bits (w 0) 27 16)
  else none

/-- A change ordered by a service: decided in its frame, PENDING until the effect boundary of its tag. -/
def State.orderChange (s : State) (o : Origin) (lead : Bool) (kind : LayerKind) (fade : Nat) (old : Option (Nat × Nat) := none) : SvcRes :=
  if !s.light.running then (s, St.mode, []) else (s.changeAt (s.decideFrame o) lead kind fade o old, St.pending, [])

def svcSetGroup (s : State) (o : Origin) (a : SvcArgs) : SvcRes :=
  match orderArgs a.d with
  | some (v, fade) =>
    if 1024 ≤ a.wa.toNat then (s, St.badArg, [])
    else s.orderChange o true (.groupOrder a.wa.toNat (a.wb.toNat % 256) v) fade
  | none => (s, St.badArg, [])

def svcReleaseGroup (s : State) (o : Origin) (a : SvcArgs) : SvcRes :=
  if 1024 ≤ a.wa.toNat then (s, St.badArg, [])
  else s.orderChange o true (.groupRelease a.wa.toNat (a.wb.toNat % 256)) 0

def svcSetNode (s : State) (o : Origin) (a : SvcArgs) : SvcRes :=
  match orderArgs a.d with
  | some (v, fade) =>
    if 4096 ≤ a.wa.toNat then (s, St.badArg, [])
    else if (s.node a.wa.toNat).isNone then (s, St.nodeEmpty, [])
    else s.orderChange o true (.nodeOrder a.wa.toNat (a.wb.toNat % 256) v) fade
  | none => (s, St.badArg, [])

def svcReleaseNode (s : State) (o : Origin) (a : SvcArgs) : SvcRes :=
  if 4096 ≤ a.wa.toNat then (s, St.badArg, [])
  else if (s.node a.wa.toNat).isNone then (s, St.nodeEmpty, [])
  else s.orderChange o true (.nodeRelease a.wa.toNat (a.wb.toNat % 256)) 0

/-- From the frame of its issue the group's configuration names the recipe; the recipe layer follows at the tag (R232). -/
def svcSelectRecipe (s : State) (o : Origin) (a : SvcArgs) : SvcRes :=
  let g := a.wa.toNat
  if 1024 ≤ g || 255 < a.wb.toNat then (s, St.badArg, [])
  else if !s.light.running then (s, St.mode, [])
  else
    let old := (s.get (F.LGT_GRP_CFG_RECIPE.at g), s.get (F.LGT_GRP_CFG_RECIPE_EN.at g))
    let s := (s.put (F.LGT_GRP_CFG_RECIPE.at g) a.wb.toNat).put (F.LGT_GRP_CFG_RECIPE_EN.at g) 1
    s.orderChange o true (.recipeSelect g a.wb.toNat) 0 (some old)

def svcEmergency (s : State) (o : Origin) (a : SvcArgs) : SvcRes :=
  let g := a.wb.toNat
  if 2 < a.wa.toNat || (1024 ≤ g && g ≠ 0xFFFF) then (s, St.badArg, [])
  else
    let v := match a.wa.toNat with
      | 0 => none
      | 1 => some [0, 0, 0, 0, 0, 0, 0, 0]
      | _ => some s.evac
    s.orderChange o false (.emergency v (if g = 0xFFFF then none else some g)) 0

def svcOverlayPresence (s : State) (_ : Origin) (a : SvcArgs) : SvcRes :=
  if 256 ≤ a.wa.toNat then (s, St.badArg, [])
  else (s.put (F.LGT_ZN_STAT_PROG.at a.wa.toNat) (a.wb.toNat % 2), St.done, [])

def svcReadStaging (s : State) (_ : Origin) (a : SvcArgs) : SvcRes :=
  if 4096 ≤ a.wa.toNat then (s, St.badArg, [])
  else match s.node a.wa.toNat with
    | some x => (s, St.done, stagingView x)
    | none => (s, St.nodeEmpty, [])

end Sys2Proof.Machine
end

