-- ==== Sys2Proof/Machine/Routes.lean ====
section
/-!
DEFINITION. The track graph (R389, R390), geometry of fixes against it (R391), and route planning (R395).
-/
namespace Sys2Proof.Machine

/-! ### The graph (Table 09.1) -/

def Graph.seg (g : Graph) (i : Nat) : Option Segment := SMap.get? g.segments i

def dist2 (a b : Junction) : Int := (a.e - b.e) ^ 2 + (a.n - b.n) ^ 2 + (a.u - b.u) ^ 2

/-- A segment record keeps Table 09.1. -/
def Graph.segOk (g : Graph) (i : Nat) (x : Segment) : Bool :=
  decide (i < 4096) && decide (x.ja ≠ x.jb) && decide (1 ≤ x.cap) && decide (x.cap ≤ 15) && decide (x.dir ≤ 2)
    && decide (x.half < 65536) && decide (x.len < 2 ^ 32)
    && (match x.cor with | some c => decide (c < 256) && decide (x.cap = 1) | none => true)
    && (match SMap.get? g.junctions x.ja, SMap.get? g.junctions x.jb with
        | some a, some b => decide (isqrt (dist2 a b).toNat ≤ x.len)
        | _, _ => false)

/-- The segments of a corridor, and how often a junction ends one of them. -/
def Graph.corSegs (g : Graph) (c : Nat) : List Segment := (SMap.vals g.segments).filter (fun x => x.cor = some c)
def degreeIn (l : List Segment) (j : Nat) : Nat := countP (fun x => x.ja = j) l + countP (fun x => x.jb = j) l

/-- Junctions reached from a set along a list of segments, in `n` rounds. -/
def spread (l : List Segment) : Nat → List Nat → List Nat
  | 0, js => js
  | n + 1, js => spread l n (l.foldl (fun js x =>
      if js.contains x.ja then insertN js x.jb else if js.contains x.jb then insertN js x.ja else js) js)

/-- One corridor: a single chain of 2 to 32 segments with exactly two end junctions (R390). -/
def Graph.corOk (g : Graph) (c : Nat) : Bool :=
  let l := g.corSegs c
  let js := l.foldl (fun js x => insertN (insertN js x.ja) x.jb) []
  decide (2 ≤ l.length) && decide (l.length ≤ 32)
    && js.all (fun j => degreeIn l j ≤ 2) && decide (countP (fun j => degreeIn l j = 1) js = 2)
    && (match l with | x :: _ => decide ((spread l l.length [x.ja]).length = js.length) | [] => false)

/-- A graph within the capacities of Table 00.1. -/
def Graph.fits (g : Graph) : Bool :=
  decide (g.segments.length ≤ 4096) && decide (g.junctions.length ≤ 2048)
    && g.segments.all (fun p => decide (p.1 < 4096)) && g.junctions.all (fun p => decide (p.1 < 2048))

/-- A graph that breaks no rule of R389, R390 and Table 09.1. -/
def Graph.ok (g : Graph) : Bool :=
  g.segments.all (fun p => g.segOk p.1 p.2)
    && g.junctions.all (fun p => decide (p.1 < 2048) && [p.2.e, p.2.n, p.2.u].all (fun z => decide (-(2 ^ 31) ≤ z) && decide (z < 2 ^ 31)))
    && (((SMap.vals g.segments).filterMap Segment.cor).eraseDups).all g.corOk
    && SMap.sorted g.segments && SMap.sorted g.junctions

/-! ### Fixes against centrelines (R391) -/

/-- The squared distance of a point from the straight line between two junctions, as a fraction (numerator, denominator). -/
def lineDist (p a b : Junction) : Int × Int :=
  let v2 := dist2 a b
  let dot := (p.e - a.e) * (b.e - a.e) + (p.n - a.n) * (b.n - a.n) + (p.u - a.u) * (b.u - a.u)
  if v2 ≤ 0 || dot ≤ 0 then (dist2 p a, 1)
  else if v2 ≤ dot then (dist2 p b, 1)
  else (dist2 p a * v2 - dot * dot, v2)

def Graph.distTo (g : Graph) (p : Junction) (i : Nat) : Option (Int × Int) :=
  match g.seg i with
  | none => none
  | some x => match SMap.get? g.junctions x.ja, SMap.get? g.junctions x.jb with
    | some a, some b => some (lineDist p a b)
    | _, _ => none

/-- The segment whose centreline lies nearest a point; of equal ones, the lowest. -/
def Graph.nearest (g : Graph) (p : Junction) : Option Nat :=
  (g.segments.foldl (fun (best : Option (Nat × Int × Int)) q =>
    match g.distTo p q.1, best with
    | some (n, d), some (_, n0, d0) => if n * d0 < n0 * d then some (q.1, n, d) else best
    | some (n, d), none => some (q.1, n, d)
    | none, _ => best) none).map Prod.fst

/-- A fixed fix lies more than FLT_CFG.MISMATCH from the centreline of FRONT: the segment that is nearest. -/
def State.mismatchOf (s : State) (r front : Nat) : Option Nat :=
  let p := s.rovPos r
  if !p.hasFix || p.fix.state ≠ 3 then none
  else
    let at_ : Junction := ⟨p.fix.e, p.fix.n, p.fix.u⟩
    match s.fleet.graph.distTo at_ front with
    | none => none
    | some (n, d) =>
      let m : Int := 10 * s.get F.FLT_CFG_MISMATCH
      if m * m * d < n then s.fleet.graph.nearest at_ else none

/-! ### Junctions and directions -/

/-- The junction that two segments share. -/
def Graph.shared (g : Graph) (a b : Nat) : Option Nat :=
  match g.seg a, g.seg b with
  | some x, some y => if x.ja = y.ja || x.ja = y.jb then some x.ja else if x.jb = y.ja || x.jb = y.jb then some x.jb else none
  | _, _ => none

/-- The other end of a segment. -/
def Segment.other (x : Segment) (j : Nat) : Nat := if x.ja = j then x.jb else x.ja
/-- A segment may be travelled from its end j. -/
def Segment.from_ (x : Segment) (j : Nat) : Bool := x.dir = 0 || (x.dir = 1 && x.ja = j) || (x.dir = 2 && x.jb = j)

/-- A segment may be entered from the segment before it. -/
def Graph.enter (g : Graph) (a b : Nat) : Bool :=
  match g.shared a b, g.seg b with
  | some j, some y => y.from_ j || (match g.seg a with | some x => (x.ja = y.other j || x.jb = y.other j) && y.from_ (y.other j) | none => false)
  | _, _ => false

/-- The ends at which a rover may leave FRONT: away from REAR or from the segment before FRONT on its route; where neither
tells, each end that DIR permits. -/
def State.exits (s : State) (r front rear : Nat) : List Nat :=
  let g := s.fleet.graph
  match g.seg front with
  | none => []
  | some x =>
    let before := if rear ≠ front then some rear
      else match (s.rover r).route.findIdx? (· = front) with
        | some (i + 1) => (s.rover r).route[i]?
        | _ => none
    match before.bind (fun b => g.shared b front) with
    | some j => [x.other j]
    | none => [x.ja, x.jb].filter (fun j => x.from_ (x.other j))

/-! ### Route planning (R395) -/

/-- A path found so far: its LENGTH, and its segments after FRONT. -/
structure Path where
  len : Nat
  segs : List Nat
  deriving DecidableEq, Repr

def lexLt : List Nat → List Nat → Bool
  | [], [] => false
  | [], _ :: _ => true
  | _ :: _, [] => false
  | a :: l, b :: m => if a = b then lexLt l m else decide (a < b)

/-- Less LENGTH, then fewer segments, then the lower sequence of segment numbers. -/
def Path.better (a b : Path) : Bool :=
  if a.len ≠ b.len then decide (a.len < b.len)
  else if a.segs.length ≠ b.segs.length then decide (a.segs.length < b.segs.length)
  else lexLt a.segs b.segs

/-- Offer a path to a junction. -/
def offer (m : SMap Path) (j : Nat) (p : Path) : SMap Path :=
  match SMap.get? m j with
  | some q => if p.better q then SMap.insert m j p else m
  | none => SMap.insert m j p

/-- One round over the segments a plan may use, in both directions that DIR permits. -/
def relax (segs : List (Nat × Segment)) (m : SMap Path) : SMap Path :=
  segs.foldl (fun m q =>
    let x := q.2
    let m := match SMap.get? m x.ja with
      | some p => if x.from_ x.ja then offer m x.jb ⟨p.len + x.len, p.segs ++ [q.1]⟩ else m
      | none => m
    match SMap.get? m x.jb with
    | some p => if x.from_ x.jb then offer m x.ja ⟨p.len + x.len, p.segs ++ [q.1]⟩ else m
    | none => m) m

/-- Rounds until nothing changes. -/
def relaxAll (segs : List (Nat × Segment)) : Nat → SMap Path → SMap Path
  | 0, m => m
  | n + 1, m => let m' := relax segs m; if m' = m then m else relaxAll segs n m'

/-- The best route of a rover to a junction without the segments in `excl`: LENGTH and segments, FRONT first. -/
def State.plan' (s : State) (r dest : Nat) (excl : List Nat) : Option Path :=
  match (s.rover r).st with
  | none => none
  | some b =>
    let g := s.fleet.graph
    let usable := g.segments.filter (fun q => decide (q.1 ≠ b.front) && !excl.contains q.1
      && (match q.2.cor with | some c => !s.fleet.closed.contains c | none => true))
    let start := (s.exits r b.front b.rear).foldl (fun m j => offer m j ⟨0, []⟩) []
    match SMap.get? (relaxAll usable (g.junctions.length + 1) start) dest with
    | some p => some ⟨p.len + ((g.seg b.front).map Segment.len).getD 0, b.front :: p.segs⟩
    | none => none

/-- The exclusions of R404 while they last. -/
def State.excluded (s : State) (r : Nat) : List Nat :=
  let v := s.rover r
  if s.mono < v.backoffEnd then v.backoffSegs else []

/-- Take a new route: the part from REAR to FRONT stays before it, and un-entered reservations off it are released. -/
def State.newRoute (s : State) (r dest : Nat) (path : List Nat) : State :=
  let v := s.rover r
  -- no reservation is released in a frame whose ALLOT work was late (Table 02.2): the next ALLOT frame releases them
  let late := s.frame.late.contains 2
  let trail := match v.st with
    | none => []
    | some b =>
      match v.route.findIdx? (· = b.rear), v.route.findIdx? (· = b.front) with
      | some i, some j => if i < j then (v.route.drop i).take (j - i) else []
      | _, _ => if b.rear = b.front then [] else [b.rear]
  let s := s.setRover r { v with
    route := trail ++ path, routeId := (v.routeId + 1) % 65536, dest := dest, noRoute := false, replan := false
    resv := v.resv.filter (fun q => q.entered || late || path.contains q.seg), shed := late }
  (s.roverSend r Msg.route (leBytes 2 0 ++ leBytes 2 ((v.routeId + 1) % 65536) ++ leBytes 2 path.length
    ++ path.flatMap (leBytes 2))).1

/-- No route exists: ROUTE says so and the old route stands. -/
def State.noRouteMsg (s : State) (r : Nat) : State :=
  let s := s.setRover r { s.rover r with noRoute := true, replan := false }
  (s.roverSend r Msg.route (leBytes 2 St.noRoute ++ leBytes 2 (s.rover r).routeId ++ leBytes 2 0)).1

/-- Route requests received before frame 8 of the superframe, and the routes of victims (R395, R404). -/
def State.planRover (s : State) (r : Nat) : State :=
  let v := s.rover r
  let due := match v.routeReq with | some (_, n) => decide (n % 10 < 8) || decide (n + 2 < s.num) | none => false
  match v.routeReq, due with
  | some (d, _), true =>
    let s := s.setRover r { v with routeReq := none }
    match s.plan' r d (s.excluded r) with
    | some p => s.newRoute r d p.segs
    | none => s.noRouteMsg r
  | _, _ =>
    if v.replan then
      match s.plan' r v.dest (s.excluded r) with
      | some p => if p.segs = v.route then s.setRover r { v with replan := false } else s.newRoute r v.dest p.segs
      | none => s.setRover r { v with replan := false }
    else s

end Sys2Proof.Machine
end

