-- ==== Sys2Proof/Machine/Tracks.lean ====
section
/-!
DEFINITION. The allotter and the tasks (R391 to R414): the work of one ALLOT frame, circular waits and knots, the messages of
rovers, and the fleet services.
-/
namespace Sys2Proof.Machine

/-! ### Units (R395, R396, R397) -/

def State.corOf (s : State) (g : Nat) : Option Nat := (s.segment g).bind Segment.cor

/-- Group the segments ahead into units: a run of segments of one corridor is one unit. -/
def State.units (s : State) : List Nat → List (List Nat)
  | [] => []
  | g :: l =>
    match s.corOf g, s.units l with
    | some c, (h :: u) :: us => if s.corOf h = some c then (g :: h :: u) :: us else [g] :: (h :: u) :: us
    | _, us => [g] :: us

/-- The segments of a route after FRONT. -/
def RovFleet.ahead (v : RovFleet) : List Nat :=
  match v.st with
  | none => []
  | some b => (v.route.dropWhile (· ≠ b.front)).drop 1

def RovFleet.granted (v : RovFleet) (g : Nat) : Bool := v.resv.any (fun q => q.seg = g)
def RovFleet.enteredSeg (v : RovFleet) (g : Nat) : Bool :=
  v.occupied.contains g || v.resv.any (fun q => q.seg = g && q.entered)

/-- The first unit of a rover's route that it has not been granted. -/
def State.nextUnit (s : State) (v : RovFleet) : Option (List Nat) :=
  (s.units v.ahead).find? (fun u => !u.all v.granted)

def rovKeys (s : State) : List Nat := SMap.keys s.fleet.rovers
def State.others (s : State) (r : Nat) : List RovFleet := (s.fleet.rovers.filter (fun p => p.1 ≠ r)).map Prod.snd

/-- DIR permits a run of segments, entered from `prev`. -/
def Graph.wayOk (g : Graph) (prev : Nat) : List Nat → Bool
  | [] => true
  | h :: l => g.enter prev h && g.wayOk h l

/-- A unit is free for rover r (R397, R404); `prev` is the segment before it. -/
def State.unitFree (s : State) (r prev : Nat) (u : List Nat) : Bool :=
  let os := s.others r
  u.all (fun g =>
    (match s.segment g with
      | none => false
      | some x => decide (countP (fun o => o.holds.contains g) os < x.cap)
        && (match x.cor with
            | some c => !s.fleet.closed.contains c && !os.any (fun o => o.holds.any (fun h => s.corOf h = some c))
            | none => true))
      && !os.any (fun o => o.revs.any (fun q => q.seg = g))
      && !(s.excluded r).contains g)
    && s.fleet.graph.wayOk prev u

/-! ### Steps 1 and 2 of an ALLOT frame (R391, R393, R400, R401) -/

def addResv (l : List Resv) (g : Nat) (e : Bool) : List Resv :=
  if l.any (fun q => q.seg = g) then l.map (fun q => if q.seg = g then { q with entered := q.entered || e } else q)
  else l ++ [⟨g, e⟩]

/-- Confirm the revocations that a STATUS acknowledges: a segment it shows occupied is restored as entered (R400). -/
def RovFleet.confirm (v : RovFleet) (ack : Nat) : RovFleet :=
  let occ := v.occupied
  let hit := v.revs.filter (fun q => q.grant ≤ ack)
  { v with
    revs := v.revs.filter (fun q => !(q.grant ≤ ack))
    resv := (hit.filter (fun q => occ.contains q.seg)).foldl (fun l q => addResv l q.seg true) v.resv }

/-- A rover occupies segments that it does not hold: it is an intruder (R401). -/
def State.intrude (s : State) (r : Nat) : State :=
  let v := s.rover r
  let bad := v.occupied.filter (fun g => !v.granted g && !v.revs.any (fun q => q.seg = g))
  if bad = [] then s
  else
    let s := s.setRover r { v with resv := bad.foldl (fun l g => addResv l g true) v.resv }
    let s := (s.inc F.FLT_CNT1_INTRUSIONS).log Sev.error 0 F.FLT_CNT1_INTRUSIONS []
    s.addCause r Cause.intrusion

/-- Apply one STATUS. -/
def State.applyStatus (s : State) (r : Nat) (b : StatusBody) : State :=
  let v := s.rover r
  let was := v.mismatch
  let near := s.mismatchOf r b.front
  let v : RovFleet := { v with st := some b, extra := near, mismatch := near.isSome }
  let occ := v.occupied
  let fresh := occ.any (fun g => !v.heldAtChoice.contains g)
  let v : RovFleet := { v with
    resv := v.resv.map (fun q => if occ.contains q.seg then { q with entered := true } else q)
    victim := if decide (v.victim ≠ 0) && fresh then 0 else v.victim }
  let s := s.setRover r (v.confirm b.grantAck)
  let s := if near.isSome && !was then s.logBlock Sev.warning 0 0x0C [] else s
  s.intrude r

/-- Steps 1 and 2 for one rover. -/
def State.allotStatus (s : State) (r : Nat) : State :=
  let l := (s.rover r).inbox
  let s := s.setRover r { s.rover r with inbox := [] }
  let s := l.foldl (fun s b => s.applyStatus r b) s
  let v := s.rover r
  let occ := v.occupied
  let keep := fun (q : Resv) => if q.entered then occ.contains q.seg || v.lost else !v.shed || v.route.contains q.seg
  let s := s.setRover r { v with resv := v.resv.filter keep, shed := false }
  let v := s.rover r
  if v.releaseReq then s.setRover r { v with releaseReq := false, resv := v.resv.filter (·.entered) } else s

/-! ### Step 3: circular waits (R402 to R405) -/

/-- The rovers that rover x waits for: those that hold a segment of its next unit. -/
def State.waits (s : State) (x : Nat) : List Nat :=
  match s.nextUnit (s.rover x) with
  | none => []
  | some u => (rovKeys s).filter (fun y => decide (y ≠ x) && (s.rover y).holds.any (fun g => u.contains g))

/-- A rover that neither is HELD nor PAUSED waits. -/
def State.waitsFree (s : State) (x : Nat) : List Nat :=
  let v := s.rover x
  if v.held || v.paused then [] else s.waits x

def succs (adj : SMap (List Nat)) (l : List Nat) : List Nat := l.foldl (fun a x => (SMap.getD adj x []).foldl insertN a) l
/-- Rovers reachable along waits, from the successors of x. -/
def reach (adj : SMap (List Nat)) (x : Nat) : List Nat :=
  iter (succs adj) adj.length ((SMap.getD adj x []).foldl insertN [])

/-- The strongly connected components of two or more rovers, each ascending. -/
def components (adj : SMap (List Nat)) : List (List Nat) :=
  let rs := SMap.keys adj
  let re := rs.map (fun x => (x, reach adj x))
  let comp := fun x => rs.filter (fun y => (SMap.getD re x []).contains y && (SMap.getD re y []).contains x)
  ((rs.map comp).filter (fun c => 2 ≤ c.length)).eraseDups

/-- The contested segments of member m: those it holds that another member waits for. -/
def State.contested (s : State) (c : List Nat) (m : Nat) : List Nat :=
  (s.rover m).holds.filter (fun g => c.any (fun x => decide (x ≠ m) &&
    (match s.nextUnit (s.rover x) with | some u => u.contains g | none => false)))

def State.qualifies (s : State) (c : List Nat) (m : Nat) : Bool :=
  let v := s.rover m
  (s.contested c m).all (fun g => !v.enteredSeg g) && decide (v.revs = [])

/-- Revoke every un-entered reservation of a rover (R400, R404). -/
def RovFleet.revoke (v : RovFleet) : RovFleet :=
  { v with
    resv := v.resv.filter (·.entered)
    revs := v.revs ++ (v.resv.filter (fun q => !q.entered)).map (fun q => ⟨q.seg, v.grantNum + 1⟩) }

/-- The member with the lowest effective priority; of equal ones, the highest rover ID. -/
def State.victimOf (s : State) (l : List Nat) : Option Nat :=
  l.foldl (fun (a : Option Nat) x => match a with
    | none => some x
    | some y => if s.effPrio x ≤ s.effPrio y then some x else some y) none

def State.makeVictim (s : State) (c : List Nat) (m : Nat) : State :=
  let v := s.rover m
  let con := s.contested c m
  let s := s.setRover m { v.revoke with
    victim := min 255 (v.victim + 1), heldAtChoice := v.holds, backoffSegs := con, replan := true
    backoffEnd := s.mono + s.get F.FLT_CFG_BACKOFF * superNs }
  s.inc F.FLT_CNT0_VICTIMS

/-- The lowest free knot number. -/
def State.freeKnot (s : State) : Nat := ((List.range 64).find? (fun k => (SMap.get? s.fleet.knots k).isNone)).getD 63

def State.formKnot (s : State) (c : List Nat) : State :=
  let k := s.freeKnot
  let s := s.modFleet fun f => { f with knots := SMap.insert f.knots k ⟨c, s.mono⟩ }
  let s := (s.inc F.FLT_CNT1_KNOTS).log Sev.error 0 (F.FLT_KNOT_ACTIVE.at k) c
  c.foldl (fun s m => s.addCause m Cause.knot) s

/-- A knot ends: its KNOT causes go. -/
def State.endKnot (s : State) (k : Nat) : State :=
  match SMap.get? s.fleet.knots k with
  | none => s
  | some x =>
    let s := s.modFleet fun f => { f with knots := SMap.erase f.knots k }
    let s := x.members.foldl (fun s m => s.clearCauses m [Cause.knot]) s
    s.log Sev.info 1 (F.FLT_KNOT_ACTIVE.at k) []

/-- The members of a knot still form a cycle. -/
def State.knotStands (s : State) (x : Knot) : Bool :=
  let adj := x.members.map (fun m => (m, (s.waits m).filter (fun y => x.members.contains y)))
  (components adj).any (fun c => c = x.members)

/-- One component: a victim, a knot, or neither while a revocation is pending. -/
def State.breakCycle (s : State) (c : List Nat) : State :=
  let s := s.inc F.FLT_CNT0_CYCLES
  if c.any (fun m => (s.rover m).revs ≠ []) then s
  else match s.victimOf (c.filter (s.qualifies c)) with
    | some m => s.makeVictim c m
    | none => s.formKnot c

def State.allotWaits (s : State) : State :=
  let s := (SMap.keys s.fleet.knots).foldl (fun s k => match SMap.get? s.fleet.knots k with
    | some x => if s.knotStands x then s else s.endKnot k
    | none => s) s
  let adj := (rovKeys s).map (fun x => (x, s.waitsFree x))
  (components adj).foldl (fun s c => s.breakCycle c) s

/-! ### Step 4: grants (R396, R397) -/

/-- Grant the next units of a route until LOOKAHEAD un-entered units are held or one is not free. -/
def State.grantUnits (s : State) (r : Nat) : List (List Nat) → Nat → Nat → State
  | [], _, _ => s
  | u :: us, prev, k =>
    let v := s.rover r
    if u.all v.granted then
      s.grantUnits r us (u.getLastD prev) (if u.all (fun g => !v.enteredSeg g) then k + 1 else k)
    else if s.get F.FLT_CFG_LOOKAHEAD ≤ k then s
    else if s.unitFree r prev u then
      let s := s.setRover r { v with
        resv := u.foldl (fun l g => addResv l g false) v.resv, revs := v.revs.filter (fun q => !u.contains q.seg) }
      s.grantUnits r us (u.getLastD prev) (k + 1)
    else s

def State.grantRover (s : State) (r : Nat) : State :=
  let v := s.rover r
  match v.st with
  | some b => if v.held || v.paused || v.lost then s else s.grantUnits r (s.units v.ahead) b.front 0
  | none => s

/-- Insert by descending effective priority, then ascending rover ID. -/
def State.byPrio (s : State) : List Nat → Nat → List Nat
  | [], r => [r]
  | a :: l, r => if s.effPrio a < s.effPrio r then r :: a :: l else a :: s.byPrio l r

def State.allotGrants (s : State) : State :=
  if s.flag F.STP_STAT_DECLARED then s
  else ((rovKeys s).foldl (fun l r => s.byPrio l r) []).foldl (fun s r => s.grantRover r) s

/-! ### Step 5: GRANT envelopes (R398, R399) -/

def State.grantEntry (s : State) (q : Resv) : Nat :=
  32768 * b2n q.entered + 16384 * b2n (s.corOf q.seg).isSome + q.seg % 4096

/-- The parts of a GRANT: at most 48 entries each, MORE on every part but the last. -/
def State.grantParts (s : State) (r : Nat) (num route : Nat) : Nat → Nat → List Nat → State
  | 0, _, _ => s
  | n + 1, part, es =>
    let now := es.take 48
    let rest := es.drop 48
    let s := (s.roverSend r Msg.grant ([r, now.length] ++ leBytes 4 num ++ leBytes 2 route
      ++ [128 * b2n (decide (rest ≠ [])) + part % 128, 0] ++ now.flatMap (leBytes 2))).1
    if rest = [] then s else s.grantParts r num route n (part + 1) rest

def State.sendGrant (s : State) (r : Nat) : State :=
  let v := s.rover r
  if v.resv = [] then s
  else
    let onRoute := (v.route.filterMap fun g => v.resv.find? fun q => q.seg = g).eraseDups
    let off := v.resv.filter fun q => !v.route.contains q.seg
    s.grantParts r v.grantNum v.routeId 128 0 ((off ++ onRoute).map s.grantEntry)

/-- GRANT_NUM rises with each change of a rover's grants, the mark ENTERED among them; the envelopes go out then, and in frame 0 of every
superframe. -/
def State.allotSend (s : State) : State :=
  (rovKeys s).foldl (fun s r =>
    let v := s.rover r
    let changed := decide (v.resv ≠ v.sent)
    let s := if changed then s.setRover r { v with grantNum := (v.grantNum + 1) % 2 ^ 32, sent := v.resv } else s
    if changed || s.num % 10 = 0 then s.sendGrant r else s) s

/-! ### Tasks (R407 to R410) -/

def State.task (s : State) (t : Nat) : Option Task := SMap.get? s.fleet.tasks t
def State.setTask (s : State) (t : Nat) (x : Task) : State :=
  s.modFleet fun f => { f with tasks := SMap.insert f.tasks t x }

/-- A rover is free for a task (R408). -/
def State.roverFree (s : State) (x : Task) (r : Nat) : Bool :=
  let v := s.rover r
  s.rovOpen r && !v.lost && !v.held && (s.taskOf r).isNone
    && decide (Nat.land (s.get (F.FLT_RV_CFG_CLASS.at r)) x.cls ≠ 0)

def taskWords (t : Nat) (x : Task) : List Nat :=
  leBytes 2 t ++ leBytes 4 (x.prio * 2 ^ 24 + b2n x.auto_ * 2 ^ 23 + x.cls * 2 ^ 15 + x.dest) ++ leBytes 4 x.action
    ++ ((List.range 8).map (fun k => x.params.getD k 0)).flatMap (leBytes 4) ++ leBytes 4 x.deadline

/-- Offer a task to a rover: QUEUED to OFFERED. -/
def State.offerTask (s : State) (t r : Nat) (o : Option Origin) : State :=
  match s.task t with
  | none => s
  | some x =>
    let s := s.setTask t { x with st := 2, rover := r, offeredAt := s.mono, assignBy := o }
    s.roverSendAcked r Msg.task (taskWords t x)

/-- The free rover with the shortest planned route to the task's destination; of equal ones, the lowest ID. -/
def State.bestRover (s : State) (x : Task) : Option Nat :=
  ((roverIds.filter (s.roverFree x)).foldl (fun (a : Option (Nat × Nat)) r =>
    match s.plan' r x.dest (s.excluded r), a with
    | some p, some (_, l) => if p.len < l then some (r, p.len) else a
    | some p, none => some (r, p.len)
    | none, _ => a) none).map Prod.fst

/-- Insert by descending PRIO, then ascending number. -/
def byTaskPrio (l : List (Nat × Task)) (p : Nat × Task) : List (Nat × Task) :=
  match l with
  | [] => [p]
  | q :: m => if q.2.prio < p.2.prio then p :: q :: m else q :: byTaskPrio m p

/-- Automatic assignment, in frames 8 and 9 (R408). -/
def State.autoAssign (s : State) : State :=
  let want := s.fleet.tasks.filter (fun p => p.2.st = 1 && (p.2.auto_ || s.fleet.waiting.any (fun q => q.1 = p.1)))
  (want.foldl byTaskPrio []).foldl (fun s p =>
    match s.bestRover p.2 with
    | none => s
    | some r =>
      let o := (s.fleet.waiting.find? (fun q => q.1 = p.1)).map Prod.snd
      let s := s.modFleet fun f => { f with waiting := f.waiting.filter (fun q => q.1 ≠ p.1) }
      s.offerTask p.1 r o) s

/-- A task becomes final; calls that wait for it end. -/
def State.endTask (s : State) (t st code : Nat) (cancelSt : Nat) : State :=
  match s.task t with
  | none => s
  | some x =>
    let ws := (s.fleet.waiting.filter (fun q => q.1 = t)).map Prod.snd
    let s := s.modFleet fun f => { f with waiting := f.waiting.filter (fun q => q.1 ≠ t) }
    let s := s.setTask t { x with st := st, code := code, finalAt := s.mono, assignBy := none, cancelBy := none }
    let s := s.finishAll (ws ++ x.assignBy.toList) St.taskFinal
    s.finishAll x.cancelBy.toList cancelSt

def State.sendTaskCancel (s : State) (r t : Nat) : State := s.roverSendAcked r Msg.taskCancel (leBytes 2 t)

/-- A TASK_ACK or TASK_END for a task that is no longer OFFERED or ACTIVE for the rover (R409). -/
def State.lateTask (s : State) (r t : Nat) : State := (s.inc F.FLT_CNT1_LATE).sendTaskCancel r t

def State.taskAck (s : State) (r t : Nat) (refuse : Bool) : State :=
  match s.task t with
  | some x =>
    if x.rover = r && x.st = 2 then
      if refuse then
        (s.setTask t { x with st := 1, rover := 0, assignBy := none }).finishAll x.assignBy.toList St.taskRefused
      else
        let s := s.setTask t { x with st := 3, assignBy := none }
        let s := s.setRover r { s.rover r with routeReq := some (x.dest, s.num) }
        x.assignBy.toList.foldl (fun s o => s.finish o St.done [r]) s
    else if x.rover = r && x.st = 3 then s
    else s.lateTask r t
  | none => s.lateTask r t

def State.taskEnd (s : State) (r t : Nat) (failed : Bool) (code : Nat) : State :=
  match s.task t with
  | some x =>
    if x.rover = r && x.st = 3 then s.endTask t (if failed then 5 else 4) code St.taskFinal
    else if x.rover = r && x.st = 2 then s
    else s.lateTask r t
  | none => s.lateTask r t

/-- Cancel a task at an ALLOT frame (Table 09.4). -/
def State.cancelAt (s : State) (t : Nat) (o : Origin) : State :=
  match s.task t with
  | none => s.finish o St.taskFinal []
  | some x =>
    if x.st = 1 || x.st = 2 then
      (s.endTask t 6 x.code St.done).finish o St.done []
    else if x.st = 3 then (s.setTask t { x with cancelBy := some o }).sendTaskCancel x.rover t
    else s.finish o St.taskFinal []

/-! ### Knots resolved by the program (R406) -/

/-- The lowest free segment beyond the far junction of REAR. -/
def State.beyond (s : State) (r : Nat) (b : StatusBody) (far : Nat) : Option Nat :=
  let near := s.fleet.graph.segments.filter (fun p => decide (p.1 ≠ b.rear) && decide (p.1 ≠ b.front) && (p.2.ja = far || p.2.jb = far) && p.2.from_ far)
  (near.find? (fun p => s.unitFree r b.rear [p.1])).map Prod.fst

/-- The far junction of REAR and whether REAR may be travelled towards it. -/
def State.farEnd (s : State) (r : Nat) (b : StatusBody) : Option Nat :=
  match s.fleet.graph.seg b.rear with
  | none => none
  | some x =>
    let fwd := if b.front = b.rear then s.exits r b.front b.rear else (s.fleet.graph.shared b.rear b.front).toList
    (fwd.map x.other).find? (fun j => x.from_ (x.other j))

/-- Grant a retreat. -/
def State.retreat (s : State) (k r : Nat) (o : Origin) : State :=
  match SMap.get? s.fleet.knots k with
  | none => s.finish o St.noKnot []
  | some x =>
    if !x.members.contains r then s.finish o St.notMember []
    else match (s.rover r).st with
      | none => s.finish o St.noRetreat []
      | some b =>
        match s.farEnd r b with
        | none => s.finish o St.noRetreat []
        | some far =>
          let onto := s.beyond r b far
          let s := s.endKnot k
          let v := (s.rover r).revoke
          let back := v.occupied.reverse.filter (fun g => g ≠ b.front && g ≠ b.rear)
          let path := ([b.front] ++ back ++ (if b.rear = b.front then [] else [b.rear]) ++ onto.toList)
          let s := s.setRover r { v with
            route := path, routeId := (v.routeId + 1) % 65536, resv := onto.toList.foldl (fun l g => addResv l g false) v.resv }
          let s := (s.roverSend r Msg.route (leBytes 2 0 ++ leBytes 2 ((v.routeId + 1) % 65536) ++ leBytes 2 path.length
            ++ path.flatMap (leBytes 2))).1
          s.finish o St.done []

/-! ### Services that commit at an ALLOT frame -/

/-- The rovers that a service names: one, or all with 0xFF. -/
def roversNamed (a : Nat) : List Nat := if a = 0xFF then roverIds else [a]

def State.fleetAct (s : State) (a : FleetAct) : State :=
  match a.kind with
  | 0 => ((roversNamed a.arg).foldl (fun s r => s.addCause r Cause.prog) s).finish a.by_ St.done []
  | 1 =>
    let l := Cause.prog :: (if s.flag F.STP_STAT_DECLARED then [] else [Cause.lanyard])
    ((roversNamed a.arg).foldl (fun s r => s.clearCauses r l) s).finish a.by_ St.done []
  | 2 => (s.modFleet fun f => { f with closed := insertN f.closed a.arg }).finish a.by_ St.done []
  | 3 => (s.modFleet fun f => { f with closed := removeN f.closed a.arg }).finish a.by_ St.done []
  | 4 => s.cancelAt a.arg a.by_
  | _ => s.retreat a.arg a.arg2 a.by_

/-- Calls of the program act at the ALLOT frame that their commit point opens, others at the next one. -/
def State.queueAct (s : State) (o : Origin) (kind arg arg2 : Nat) : State :=
  let ready := match o with | .program _ _ _ => true | _ => false
  s.modFleet fun f => { f with acts := f.acts ++ [⟨kind, arg, arg2, ready, o⟩] }

/-- The work of an ALLOT frame (Tables 09.2 and 09.5), with its effects complete at the frame's end. -/
def State.allotWork (s : State) : State :=
  if !s.fleetOn || s.frame.late.contains 2 then s
  else
    let s := if s.mode = .run then s.fleetRun else s
    let now := s.fleet.acts.filter (·.ready)
    let s := s.modFleet fun f => { f with acts := f.acts.filter (fun a => !a.ready) }
    let s := now.foldl (fun s a => s.fleetAct a) s
    let s := (rovKeys s).foldl (fun s r => s.allotStatus r) s
    let s := if s.mode = .run then s.allotWaits.allotGrants else s
    let s := (rovKeys s).foldl (fun s r => s.setRover r { s.rover r with waitsFor := (s.waitsFree r).head? }) s
    s.allotSend

/-- The end of a frame: ALLOT work, then, at the end of frame 9, routes and assignments; what came in this frame is for the next. -/
def State.fleetFrame (s : State) : State :=
  let s := s.allotWork
  let s := if s.fleetOn && s.num % 10 = 9 then
      -- in Hold tasks keep their states (Table 09.5)
      let s := (rovKeys s).foldl (fun s r => s.planRover r) s
      if s.mode = .hold then s else s.autoAssign
    else s
  s.modFleet fun f => { f with
    acts := f.acts.map (fun a => { a with ready := true })
    rovers := f.rovers.map (fun p => (p.1, { p.2 with
      inbox := p.2.inbox ++ p.2.arrived, arrived := [], releaseReq := p.2.releaseReq || p.2.releaseArr, releaseArr := false })) }

/-! ### Commands -/

def execStatus (r seq : Nat) (b : StatusBody) (s : State) : Res :=
  s.act fun s => s.fromRover r seq fun s =>
    s.when s.fleetOn fun s =>
      s.setRover r { s.rover r with arrived := (s.rover r).arrived ++ [b], stAt := s.mono, lost := false }

def execRouteReq (r seq dest : Nat) (s : State) : Res :=
  s.act fun s => s.fromRover r seq fun s =>
    s.when s.fleetOn fun s => s.setRover r { s.rover r with routeReq := some (dest, s.num) }

def execReleaseReq (r seq : Nat) (s : State) : Res :=
  s.act fun s => s.fromRover r seq fun s =>
    s.when s.fleetOn fun s => s.setRover r { s.rover r with releaseArr := true }

def execTaskAck (r seq task : Nat) (refuse : Bool) (s : State) : Res :=
  s.act fun s => s.fromRover r seq fun s => s.when s.fleetOn fun s => s.taskAck r task refuse

def execTaskEnd (r seq task : Nat) (failed : Bool) (code : Nat) (s : State) : Res :=
  s.act fun s => s.fromRover r seq fun s => s.when s.fleetOn fun s => s.taskEnd r task failed code

/-- The rover acknowledges a message: it is repeated no more; a TASK_CANCEL of an ACTIVE task takes effect (Table 09.4, R409). -/
def State.roverAcked (s : State) (r q : Nat) : State :=
  let v := s.rover r
  match v.unacked.find? (fun m => m.seq = q) with
  | none => s
  | some m =>
    let left := v.unacked.filter (fun x => x.seq ≠ q)
    let s := s.setRover r { v with
      unacked := left
      configAcked := if m.kind = Msg.config then !left.any (fun x => x.kind = Msg.config) else v.configAcked }
    if m.kind = Msg.taskCancel then
      let t := u16 m.body 0
      match s.task t with
      | some x =>
        if x.st = 3 && x.rover = r && x.cancelBy.isSome then s.endTask t 6 x.code St.done else s
      | none => s
    else s

def execRoverAck (r seq acked : Nat) (s : State) : Res :=
  s.act fun s => s.fromRover r seq fun s => s.when s.fleetOn fun s => s.roverAcked r acked

def execRoverLost (r : Nat) (s : State) : Res :=
  s.act fun s =>
    let v := s.rover r
    s.when (s.fleetOn && v.st.isSome && !v.lost && s.past (v.stAt + s.get F.FLT_TMO_STATUS_TMO * superNs)) fun s =>
      s.setRover r { v with lost := true }

def execTaskOfferTimeout (t : Nat) (s : State) : Res :=
  s.act fun s => match s.task t with
    | some x =>
      s.when (s.fleetOn && x.st = 2 && s.past (x.offeredAt + s.get F.FLT_TMO_TASK_TMO * superNs)) fun s =>
        (s.setTask t { x with st := 1, rover := 0, assignBy := none }).finishAll x.assignBy.toList St.timeout
    | none => s

def execTaskDeadline (t : Nat) (s : State) : Res :=
  s.act fun s => match s.task t with
    | some x =>
      s.when (decide (x.st ≤ 3) && decide (x.deadline ≠ 0) && s.past (x.queuedAt + x.deadline * 1000000000)) fun s =>
        let s := s.endTask t 5 0xFFFF St.taskFinal
        if x.st = 3 then s.sendTaskCancel x.rover t else s
    | none => s

def execTaskFree (t : Nat) (s : State) : Res :=
  s.act fun s => match s.task t with
    | some x =>
      s.when (decide (4 ≤ x.st) && s.past (x.finalAt + s.get F.FLT_CFG_KEEP * superNs)) fun s =>
        s.modFleet fun f => { f with tasks := SMap.erase f.tasks t }
    | none => s

def execBackoffExpiry (r : Nat) (s : State) : Res :=
  s.act fun s =>
    let v := s.rover r
    s.when (decide (v.backoffSegs ≠ []) && s.past v.backoffEnd) fun s =>
      s.setRover r { v with backoffSegs := [], backoffEnd := 0 }

/-- FLT_RV_CMD.FORGET (R393): the rover must be LOST; everything it holds is released. -/
def State.forgetRover (s : State) (r confirm : Nat) : State × Nat :=
  let v := s.rover r
  if confirm ≠ confirmValue then (s, St.confirm)
  else if !v.lost then (s, St.badArg)
  else (s.setRover r { v with st := none, extra := none, resv := [], revs := [], route := [], inbox := [], waitsFor := none }, St.done)

def execForget (who : Requester) (r confirm : Nat) (s : State) : Res :=
  s.act fun s => s.gate who 1 fun s => let (s, st) := s.forgetRover r confirm; s.reply who st

/-! ### Services (Table 04.9) -/

/-- FLT.TASK_QUEUE (R407, Table 09.3). -/
def svcTaskQueue (s : State) (_ : Origin) (a : SvcArgs) : SvcRes :=
  let w := fun k => (a.d.getD k 0).toNat
  if bits (w 0) 14 11 ≠ 0 || (List.range 5).any (fun k => w (11 + k) ≠ 0) then (s, St.badArg, [])
  else if 1024 ≤ s.fleet.tasks.length then (s, St.queueFull, [])
  else
    let t := ((List.range 1024).find? (fun t => (s.task t).isNone)).getD 0
    let x : Task := { prio := bits (w 0) 31 24, auto_ := bit (w 0) 23, cls := bits (w 0) 22 15, dest := bits (w 0) 10 0,
                      action := w 1, params := (List.range 8).map (fun k => w (2 + k)), deadline := w 10, queuedAt := s.mono }
    (s.setTask t x, St.done, [t])

/-- FLT.TASK_ASSIGN (R408). -/
def svcTaskAssign (s : State) (o : Origin) (a : SvcArgs) : SvcRes :=
  let t := a.wa.toNat
  let r := a.wb.toNat
  match s.task t with
  | none => (s, St.badArg, [])
  | some x =>
    if r ≠ 0xFF && 64 ≤ r then (s, St.badArg, [])
    else if 4 ≤ x.st then (s, St.taskFinal, [])
    else if x.st ≠ 1 then (s, St.busy, [])
    else if r = 0xFF then (s.modFleet fun f => { f with waiting := f.waiting ++ [(t, o)] }, St.pending, [])
    else if s.roverFree x r then (s.offerTask t r (some o), St.pending, [])
    else (s, St.roverBusy, [])

/-- FLT.TASK_CANCEL (R409, Table 09.4). -/
def svcTaskCancel (s : State) (o : Origin) (a : SvcArgs) : SvcRes :=
  let t := a.wa.toNat
  match s.task t with
  | none => (s, St.badArg, [])
  | some x =>
    if 4 ≤ x.st then (s, St.taskFinal, [])
    else if x.st = 3 then
      if x.cancelBy.isSome then (s, St.busy, [])
      else ((s.setTask t { x with cancelBy := some o }).sendTaskCancel x.rover t, St.pending, [])
    else (s.queueAct o 4 t 0, St.pending, [])

def svcRoverHold (s : State) (o : Origin) (a : SvcArgs) : SvcRes :=
  if 64 ≤ a.wa.toNat && a.wa.toNat ≠ 0xFF then (s, St.badArg, []) else (s.queueAct o 0 a.wa.toNat 0, St.pending, [])
def svcRoverRelease (s : State) (o : Origin) (a : SvcArgs) : SvcRes :=
  if 64 ≤ a.wa.toNat && a.wa.toNat ≠ 0xFF then (s, St.badArg, []) else (s.queueAct o 1 a.wa.toNat 0, St.pending, [])

/-- FLT.KNOT_RESOLVE (R406). -/
def svcKnotResolve (s : State) (o : Origin) (a : SvcArgs) : SvcRes :=
  match SMap.get? s.fleet.knots a.wa.toNat with
  | none => (s, St.noKnot, [])
  | some x => if x.members.contains a.wb.toNat then (s.queueAct o 5 a.wa.toNat a.wb.toNat, St.pending, []) else (s, St.notMember, [])

def svcCorridorClose (s : State) (o : Origin) (a : SvcArgs) : SvcRes :=
  if s.corridor a.wa.toNat = [] then (s, St.badArg, []) else (s.queueAct o 2 a.wa.toNat 0, St.pending, [])
def svcCorridorOpen (s : State) (o : Origin) (a : SvcArgs) : SvcRes :=
  if s.corridor a.wa.toNat = [] then (s, St.badArg, []) else (s.queueAct o 3 a.wa.toNat 0, St.pending, [])

/-- An abort of a fleet service before its commit point (R66). -/
def State.abortFleet (s : State) (o : Origin) : Option (State × Nat) :=
  if s.fleet.acts.any (fun a => a.by_ = o) then
    some ((s.modFleet fun f => { f with acts := f.acts.filter (fun a => a.by_ ≠ o) }).finish o St.aborted [], St.aborted)
  else if s.fleet.waiting.any (fun q => q.2 = o) then
    some ((s.modFleet fun f => { f with waiting := f.waiting.filter (fun q => q.2 ≠ o) }).finish o St.aborted [], St.aborted)
  else match s.fleet.tasks.find? (fun p => p.2.assignBy = some o || p.2.cancelBy = some o) with
    | none => none
    | some (t, x) =>
      if x.assignBy = some o then
        let s := (s.setTask t { x with st := 1, rover := 0, assignBy := none }).sendTaskCancel x.rover t
        some (s.finish o St.aborted [], St.aborted)
      else some ((s.setTask t { x with cancelBy := none }).finish o St.aborted [], St.aborted)

/-- At a takeover every pending fleet call ends ABORTED (R206). -/
def State.fleetTaken (s : State) : State :=
  let os := s.fleet.acts.map FleetAct.by_ ++ s.fleet.waiting.map Prod.snd
    ++ (SMap.vals s.fleet.tasks).flatMap (fun x => x.assignBy.toList ++ x.cancelBy.toList)
  let s := s.modFleet fun f => { f with
    acts := [], waiting := [], tasks := f.tasks.map (fun p => (p.1, { p.2 with assignBy := none, cancelBy := none })) }
  s.finishAll os St.aborted

/-! ### The fleet image (R427, Table 09.14) -/

def State.unenteredUnits (s : State) (v : RovFleet) : Nat :=
  countP (fun u => u.all v.granted && u.all (fun g => !v.enteredSeg g)) (s.units v.ahead)

def State.rvStatWord (s : State) (r : Nat) : Nat := s.word 0 (F.FLT_RV_STAT_CAUSES.at r).addr

/-- Words 0 to 7 of a rover. -/
def State.roverWords (s : State) (r : Nat) : List Nat :=
  let v := s.rover r
  let b := v.st.getD { front := 0, rear := 0 }
  let task := match s.taskOf r with | some (t, x) => if x.st = 3 then t else 0xFFFF | none => 0xFFFF
  [ s.rvStatWord r, b.front % 4096 * 65536 + b.rear % 4096, b.offset,
    ofInt 16 b.speed * 65536 + (match v.waitsFor with | some x => 32768 + x % 64 | none => 0),
    task * 65536 + min 15 (s.unenteredUnits v) * 16 + (if v.st.isSome then min 15 v.occupied.length else 0),
    v.grantNum, v.dest * 65536 + v.ahead.length, b.flags % 256 + b.battery % 256 * 256 + b.fault % 256 * 65536 ]

def State.taskImage (s : State) (x : Task) : List Nat :=
  [ x.st * 2 ^ 28 + x.prio * 2 ^ 20 + b2n x.auto_ * 2 ^ 19 + x.rover % 64 * 256, x.code % 65536 * 65536 + x.dest % 2048,
    (s.mono - x.queuedAt) / 1000000000 % 2 ^ 32, x.action ]

def State.segWord (s : State) (g : Nat) : Nat :=
  let hs := (s.fleet.rovers.filter (fun p => p.2.holds.contains g)).map Prod.fst
  let os := countP (fun p => p.2.st.isSome && p.2.occupied.contains g) s.fleet.rovers
  let ws := countP (fun p => p.2.waitsFor.isSome
    && (match s.nextUnit p.2 with | some u => u.contains g | none => false)) s.fleet.rovers
  let closed := match s.corOf g with | some c => s.fleet.closed.contains c | none => false
  b2n closed * 2 ^ 31 + min 15 hs.length * 2 ^ 26 + min 15 os * 2 ^ 22 + hs.headD 0 % 64 * 256 + min 63 ws

/-- The words of the fleet image beyond the fix words, by offset. -/
def State.fleetImage (s : State) : List (Nat × Nat) :=
  let at_ := fun base l => (List.range (List.length l)).map (fun k => (base + k, List.getD l k 0))
  ((rovKeys s).filter (· < 64)).flatMap (fun r => at_ (1024 + 16 * r) (s.roverWords r))
    ++ s.fleet.tasks.flatMap (fun p => at_ (2048 + 4 * p.1) (s.taskImage p.2))
    ++ s.fleet.graph.segments.map (fun p => (6144 + p.1, s.segWord p.1))
    ++ (SMap.keys s.fleet.knots).flatMap (fun k => at_ (10240 + 4 * k)
        [s.word 0 (F.FLT_KNOT_ACTIVE.at k).addr, s.word 0 (F.FLT_KNOT_M0_ROVERS.at k).addr, s.word 0 (F.FLT_KNOT_M1_ROVERS.at k).addr])
    ++ (((SMap.vals s.fleet.graph.segments).filterMap Segment.cor).foldl insertN []).map
        (fun c => (10496 + c, s.word 0 (F.FLT_COR_CLOSED.at c).addr))

end Sys2Proof.Machine
end

