-- ==== Sys2Proof/Machine/Positioning.lean ====
section
/-!
DEFINITION. Satellite positioning and rover fixes (chapter 08, R351 to R388): the receiver, the reference position, rover
sessions and their observations, the filters, the fix words and envelopes.
-/
namespace Sys2Proof.Machine

def St.roverUnknown : Nat := 0x0B01
def St.refImplausible : Nat := 0x0B02
def St.surveyActive : Nat := 0x0B03

/-! ### Local coordinates (R378) -/

/-- An angle of LSB 10⁻⁷ degrees in radians. -/
def geoRad (z : Int) : Int := rdiv (z * 57952155664616982739) 1800000000
/-- The ellipsoid WGS 84: semi-major axis in mm, and the square of the first eccentricity. -/
def geoA : Int := 6378137000
def geoE2 : Int := 123489514410299146

structure Origin3 where
  sp : Int
  cp : Int
  sl : Int
  cl : Int
  x : Int
  y : Int
  z : Int
  deriving DecidableEq, Repr

/-- The site origin (GNS_ORG_LAT, _LON, _H): its sines and cosines, and its ECEF coordinates in mm. -/
def State.origin (s : State) : Origin3 :=
  let p := geoRad (s.getI F.GNS_ORG_LAT_LAT)
  let l := geoRad (s.getI F.GNS_ORG_LON_LON)
  let h := s.getI F.GNS_ORG_H_H
  let sp := geoSin p
  let cp := geoCos p
  let sl := geoSin l
  let cl := geoCos l
  let w : Int := isqrt (((geoOne - geoMul geoE2 (geoMul sp sp)) * geoOne - 1).toNat)
  let n := rdiv (geoA * geoOne) w
  let r := geoMul (n + h) cp
  { sp := sp, cp := cp, sl := sl, cl := cl, x := geoMul r cl, y := geoMul r sl
    z := geoMul (rdiv (n * (geoOne - geoE2)) geoOne + h) sp }

/-- East, north and up of a vector in ECEF. -/
def Origin3.enu (o : Origin3) (x y z : Int) : Int × Int × Int :=
  (geoMul (-o.sl) x + geoMul o.cl y,
   rdiv (-(geoMul o.sp o.cl) * x - geoMul o.sp o.sl * y + o.cp * z) geoOne,
   rdiv (geoMul o.cp o.cl * x + geoMul o.cp o.sl * y + o.sp * z) geoOne)

/-! ### The reference position (R356, R357) -/

def State.refCoord (s : State) (lo hi : Fld) : Int := toInt 64 (s.get lo + 2 ^ 32 * s.get hi)
def State.refPos (s : State) : Int × Int × Int :=
  (s.refCoord F.GNS_REF_X_LO_POS F.GNS_REF_X_HI_POS, s.refCoord F.GNS_REF_Y_LO_POS F.GNS_REF_Y_HI_POS,
   s.refCoord F.GNS_REF_Z_LO_POS F.GNS_REF_Z_HI_POS)
def State.refValid (s : State) : Bool := s.get F.GNS_REF_STAT_STATE = 2
def State.surveying (s : State) : Bool := s.get F.GNS_REF_STAT_STATE = 1
def State.putRef (s : State) (p : Int × Int × Int) : State :=
  let put := fun (s : State) (lo hi : Fld) (z : Int) =>
    let v := ofInt 64 z
    (s.put lo (v % 2 ^ 32)).put hi (v / 2 ^ 32)
  put (put (put s F.GNS_REF_X_LO_POS F.GNS_REF_X_HI_POS p.1) F.GNS_REF_Y_LO_POS F.GNS_REF_Y_HI_POS p.2.1)
    F.GNS_REF_Z_LO_POS F.GNS_REF_Z_HI_POS p.2.2

def distSq (a b : Int × Int × Int) : Int :=
  (a.1 - b.1) * (a.1 - b.1) + (a.2.1 - b.2.1) * (a.2.1 - b.2.1) + (a.2.2 - b.2.2) * (a.2.2 - b.2.2)

/-- The state of the reference changes: REF_OK follows. -/
def State.putRefState (s : State) (st : Nat) : State :=
  (s.put F.GNS_REF_STAT_STATE st).putB F.GNS_STAT_REF_OK (decide (st = 2))

/-- A configured point that GO refuses (R357). -/
def State.refImplausible (s : State) : Bool :=
  let p := s.refPos
  let d := distSq p (0, 0, 0)
  decide (d < 6350000000 * 6350000000) || decide (6400000000 * 6400000000 < d)
    || (s.get F.GNS_STAT_RX = 3 && (match s.pos.own with | some o => decide (100000 * 100000 < distSq p o) | none => false))

/-- A write of GNS_REF_CFG: its fields, then GO. -/
def State.refWrite (s : State) (w : Nat) : State × Nat :=
  let mode := bits w 31 30
  let minutes := bits w 15 0
  if s.mode ≠ .stop then (s, St.mode)
  else if mode = 3 || minutes < 10 || 1440 < minutes then (s, St.badArg)
  else if bit w 29 && mode = 1 && s.refImplausible then (s, St.refImplausible)
  else
    let s := (s.put F.GNS_REF_CFG_MODE mode).put F.GNS_REF_CFG_SURVEY_MIN minutes
    if !bit w 29 then (if mode = 0 then s.putRefState 0 else s, St.done)
    else
      let s := if mode = 0 then s.putRefState 0
        else if mode = 1 then ((s.putRefState 2).put F.GNS_REF_STAT_SOURCE 0).put F.GNS_REF_STAT_SIGMA 0
        else
          let s : State := s.modPos fun p => { p with
            surveyFrom := s.mono, surveyN := 0, surveyEpochs := 0, surveySum := (0, 0, 0), surveySq := 0 }
          (s.putRefState 1).put F.GNS_REF_STAT_PROGRESS 0
      ((s.filtersIdle).log Sev.info 3 F.GNS_REF_STAT_STATE [], St.done)

def execRefGo (who : Requester) (w : Word) (s : State) : Res :=
  s.act fun s => s.gate who 1 fun s => let (s, st) := s.refWrite w.toNat; s.reply who st

/-- SURVEY_COMPLETE (R356): SURVEY_MIN minutes have elapsed and 90 % of the epochs contributed. -/
def State.surveyComplete (s : State) : State :=
  let p := s.pos
  let n : Int := p.surveyN
  if !s.surveying || n = 0 || s.mono < p.surveyFrom + s.get F.GNS_REF_CFG_SURVEY_MIN * 60000000000
      || 10 * p.surveyN < 9 * p.surveyEpochs then s
  else
    let m := (rdiv p.surveySum.1 n, rdiv p.surveySum.2.1 n, rdiv p.surveySum.2.2 n)
    let var := (rdiv (p.surveySq : Int) n - distSq m (0, 0, 0)).toNat
    let sigma := min 4095 (isqrt (var / p.surveyN) / 10)
    let s := (s.putRef m).putRefState 2
    let s := (s.put F.GNS_REF_STAT_SOURCE 1).put F.GNS_REF_STAT_SIGMA sigma
    (s.filtersIdle).log Sev.info 3 F.GNS_REF_STAT_STATE []

def execSurveyComplete (s : State) : Res := s.act State.surveyComplete

/-! ### The receiver (R351 to R355) -/

/-- The receiver runs: the front end is in service and the frame schedule runs. -/
def State.receiverOn (s : State) : Bool := s.framesOn && !bit (s.get F.BST_FAIL_ITEMS) 7

/-- A satellite's system is enabled (GNS_CFG). -/
def State.systemOn (s : State) (sat : Nat) : Bool :=
  match sat / 256 with
  | 1 => s.flag F.GNS_CFG_GPS_EN | 2 => s.flag F.GNS_CFG_GAL_EN | 3 => s.flag F.GNS_CFG_BDS_EN | 4 => s.flag F.GNS_CFG_QZS_EN
  | _ => false

/-- The site configuration holds an ephemeris of the satellite that is less than 2 h old by an RTC that is valid (R354). -/
def State.keptEphem (s : State) (sat : Nat) : Bool :=
  match SMap.get? s.pos.ephem sat with
  | some t => !s.flag F.RTC_STAT_OSF && decide (t ≤ s.rtc.t.secs) && decide (s.rtc.t.secs < t + 7200)
  | none => false

/-- What a channel has decoded goes into the site configuration: the satellite's ephemeris with its time, and its almanac (R354). -/
def State.keepEphem (s : State) (c : ChanObs) : State :=
  if c.ephem && (c.lockA || c.lockB) && c.sat ≠ 0 then
    s.modPos fun p => { p with ephem := SMap.insert p.ephem c.sat s.rtc.t.secs, almanac := insertN p.almanac c.sat }
  else s

/-- A channel whose satellite the module's solutions use: a band in lock at CN0_MASK or above, its ephemeris decoded or kept, above the
elevation mask, of an enabled system. -/
def State.usable (s : State) (c : ChanObs) : Bool :=
  let m := s.get F.GNS_CFG_CN0_MASK
  ((c.lockA && decide (m ≤ c.cn0A)) || (c.lockB && decide (m ≤ c.cn0B))) && (c.ephem || s.keptEphem c.sat)
    && decide ((s.get F.GNS_CFG_ELEV_MASK : Int) ≤ c.elev) && s.systemOn c.sat

/-- What the registers of a channel show. -/
def State.showChan (s : State) (c : ChanObs) : State :=
  let st := fun (x : Nat) => if c.sat = 0 then 0 else min 5 (max 1 x)
  let cn := fun (z : Nat) => if c.sat = 0 then 0 else min 255 z
  let k := c.ch
  let s := ((s.put (F.GNS_CH_ID_CONST.at k) (c.sat / 256)).put (F.GNS_CH_ID_PRN.at k) (c.sat % 256)).putI (F.GNS_CH_ID_ELEV.at k) c.elev
  let s := (s.put (F.GNS_CH_STAT_CN0_L1.at k) (cn c.cn0A)).put (F.GNS_CH_STAT_CN0_L5.at k) (cn c.cn0B)
  (s.put (F.GNS_CH_STAT_STATE_L1.at k) (st c.stA)).put (F.GNS_CH_STAT_STATE_L5.at k) (st c.stB)

/-- TRACKING_TICK: the channels whose integration ends. A tick that T0 or T1 missed keeps the last settings of its
channels (Table 02.2). -/
def State.trackingTick (s : State) (obs : List ChanObs) : State :=
  let m := s.pos.tick
  if !s.receiverOn || !s.issued 1000000 m then s
  else
    let s : State := (s.atNs (m * 1000000)).modPos fun p => { p with tick := m + 1 }
    let s := obs.foldl (fun s c =>
      if 96 ≤ c.ch || s.tickMissed 6 (c.ch / 48) then s
      else
        let old := SMap.get? s.pos.chans c.ch
        let gone := match old with
          | some o => (if o.lockA && !(c.lockA && c.sat = o.sat) then [2 * o.sat] else [])
              ++ (if o.lockB && !(c.lockB && c.sat = o.sat) then [2 * o.sat + 1] else [])
          | none => []
        ((s.modPos fun p => { p with chans := SMap.insert p.chans c.ch c, lost := gone.foldl insertN p.lost }).showChan c).keepEphem c) s
    let l := SMap.vals s.pos.chans
    ((s.put F.GNS_STAT_TRACK (countP (fun c => c.lockA || c.lockB) l)).put F.GNS_STAT_DUAL
      (countP (fun c => c.lockA && c.lockB) l)).tickOver 6

def execTrackingTick (obs : List ChanObs) (s : State) : Res := s.act fun s => s.trackingTick obs

/-- Rover epochs are solved (R371, R385): not in the superframe of a re-step, whose epoch is no longer in progress. -/
def State.rtkOn (s : State) : Bool :=
  s.live && s.aligned && decide (2 ≤ s.get F.GNS_STAT_RX) && (s.mode = .stop || s.mode = .run || s.mode = .hold || s.mode = .shadow)

/-- The epoch of a superframe: the receiver measures, its state follows, a survey takes its sample, and every rover's epoch
begins. -/
def State.epochStart (s : State) : State :=
  let l := SMap.vals s.pos.chans
  let n := countP s.usable l
  let rx := if !s.receiverOn then 0 else if 4 ≤ n then 3 else if 1 ≤ n && s.refValid then 2 else 1
  let s := s.put F.GNS_STAT_RX rx
  let s := l.foldl (fun s c => s.putB (F.GNS_CH_STAT_USED.at c.ch) (s.usable c && decide (2 ≤ rx))) s
  let k := s.free
  let own := (Config.ownFix k 0, Config.ownFix k 1, Config.ownFix k 2)
  let s : State := if rx = 3 then (s.modPos fun p => { p with own := some own }).tick
    else s.modPos fun p => { p with own := none }
  let s : State := if s.surveying then
      let s : State := s.modPos fun p => { p with surveyEpochs := p.surveyEpochs + 1 }
      let s : State := if rx = 3 then s.modPos fun p => { p with
          surveyN := p.surveyN + 1
          surveySum := (p.surveySum.1 + own.1, p.surveySum.2.1 + own.2.1, p.surveySum.2.2 + own.2.2)
          surveySq := p.surveySq + (distSq own (0, 0, 0)).toNat }
        else s
      s.put F.GNS_REF_STAT_PROGRESS ((s.mono - s.pos.surveyFrom) / 60000000000)
    else s
  let num := s.num
  let s : State := s.modPos fun p => { p with
    lostEpoch := p.lost
    lost := []
    epochAt := if s.frame.transitional then none else some num
    rovers := p.rovers.map fun (q : Nat × RovPos) =>
    (q.1, { q.2 with closed := false, accepted := false, obs := [], sol := none, slipNow := false, halfNow := false, curEpoch := num }) }
  s.putB F.GNS_STAT_RTK_ON s.rtkOn

/-- ANT_STATE_CHANGE (R355): the bias current in mA, and whether it is at the limit. -/
def State.antState (s : State) (current : Nat) (limited : Bool) : State :=
  let on := s.flag F.GNS_ANT_BIAS_EN
  let st := if !on then 3 else if limited then 2 else if current < 2 then 1 else 0
  let old := s.get F.GNS_ANT_STATE
  let s := (s.put F.GNS_ANT_CURRENT (if on then min 255 current else 0)).put F.GNS_ANT_STATE st
  let s := s.putB F.GNS_STAT_ANT_FAULT (st = 1 || st = 2)
  if st ≠ old && (st = 1 || st = 2) then s.log Sev.warning 0 F.GNS_ANT_STATE [] else s

def execAntStateChange (current : Nat) (limited : Bool) (s : State) : Res := s.act fun s => s.antState current limited

/-! ### Rover sessions (R359, R360) -/

def State.setRovPos (s : State) (r : Nat) (p : RovPos) : State :=
  s.modPos fun x => { x with rovers := SMap.put {} x.rovers r p }

/-- A rover's session ends: its filter goes to IDLE (Table 08.5). -/
def State.roverClosed (s : State) (r : Nat) : State :=
  (s.setRovPos r { (s.rovPos r).idle with ctx := none, txSeq := 0 }).fleetClosed r

/-- ROVER_SESSION_OPEN: the peer's identity names the rover; an open session closes first and its filter carries over. -/
def State.roverOpen (s : State) (cert slot : Nat) : State :=
  let ok := s.framesOn && s.phase = .running && s.role ≠ .follower && !s.keys.zeroised
  match roverIds.find? fun r => s.flag (F.GNS_RV_CFG_EN.at r) && decide (s.get (F.GNS_RV_CFG_CERT.at r) = cert) with
  | none => s.reply .sid0 St.roverUnknown
  | some r =>
    if !ok then s.reply .sid0 St.mode
    else
      let s := match (s.rovPos r).ctx with
        | some c => ((s.freeSession c).setRovPos r { s.rovPos r with ctx := none }).fleetClosed r
        | none => s
      match s.openSession { typ := 1, peer := r, slot := slot, width := 32 } with
      | (s, none) => s.reply .sid0 St.busy
      | (s, some c) =>
        let s := (s.setRovPos r { s.rovPos r with ctx := some c, txSeq := 0 }).fleetOpened r
        s.reply .sid0 St.done [c]

def execRoverSessionOpen (cert slot : Nat) (s : State) : Res := s.act fun s => s.roverOpen cert slot

/-! ### Observations (R361 to R367, R375) -/

/-- GPS time starts at this TAI millisecond: 1980-01-06 00:00:00 UTC. -/
def gpsEpochMs : Int := 315964819000
def weekMs : Int := 604800000

/-- The epoch a message names, as a TAI millisecond: the week nearest module time; BeiDou time is 14 s behind GPS time. -/
def State.obsEpoch (s : State) (m : RtcmMsg) : Int :=
  let tow : Int := m.tow + (if m.typ = 1127 then 14000 else 0)
  let now : Int := ((s.now / 1000000 : Nat) : Int) - gpsEpochMs
  let d := (tow - now) % weekMs
  let d := if weekMs / 2 < d then d - weekMs else d
  now + d + gpsEpochMs

/-- The epoch of the superframe in progress, as a frame number. -/
def State.curEpoch (s : State) : Nat := s.num - s.num % 10

/-- The epoch in progress began at its epoch instant and is solved (R371, R385). -/
def State.epochCounts (s : State) : Bool := s.rtkOn && s.pos.epochAt = some s.curEpoch

/-- A rover's epoch closes: slips and half-cycle cells are judged against the previous closed epoch. -/
def State.closeEpoch (s : State) (r : Nat) : State :=
  let p := s.rovPos r
  if p.closed then s
  else
    let cells := (p.obs.map RtcmMsg.cells).flatten
    let gap := (s.curEpoch - p.lockEpoch) * 10
    let slip := fun (c : RtcmCell) =>
      let k := 2 * c.sat + c.band % 2
      (match SMap.get? p.locks k with
        | some old => decide (c.lock < old) || decide (c.lock < gap)
        | none => false) || s.pos.lostEpoch.contains k
    let n := countP slip cells
    let locks := cells.foldl (fun l c => SMap.insert l (2 * c.sat + c.band % 2) c.lock) []
    let ms := (s.num - s.curEpoch) * 10 + s.frame.off / 1000000
    let p := if p.accepted then { p with
        closed := true, slipNow := decide (0 < n), halfNow := cells.any (·.half), locks := locks, lockEpoch := s.curEpoch }
      else { p with closed := true }
    let s := s.setRovPos r p
    if p.accepted && s.epochCounts then
      ((s.add F.GNS_CNT3_SLIPS n).inc (F.GNS_RV_CNT0_EPOCHS.at r)).put (F.GNS_RV_STAT_LATENCY.at r) (min 255 ms)
    else s.inc (F.GNS_RV_CNT0_MISSED.at r)

/-- One RTCM frame of an envelope (R363 to R367). -/
def State.rtcm (s : State) (r : Nat) (m : RtcmMsg) : State :=
  if m.preamble ≠ 0xD3 || m.reserved ≠ 0 || !m.crcOk || !m.lenOk then s.inc F.GNS_CNT1_CRC_FAIL
  else if m.typ ≠ 1077 && m.typ ≠ 1097 && m.typ ≠ 1117 && m.typ ≠ 1127 then s.inc F.GNS_CNT2_UNSUPPORTED
  else if m.station ≠ s.get (F.GNS_RV_CFG_STATION.at r) then s.inc F.GNS_CNT2_REJECTED
  else
    let e := s.obsEpoch m
    let cur : Int := (s.curEpoch : Int) * 10
    let late := fun (s : State) => (s.inc F.GNS_CNT1_LATE_OBS).inc (F.GNS_RV_CNT1_LATE.at r)
    if e % 100 ≠ 0 || cur < e then s.inc F.GNS_CNT2_REJECTED
    else if e < cur || (s.rovPos r).closed then late s
    else
      let p := s.rovPos r
      let s := s.setRovPos r { p with accepted := true, obs := p.obs ++ [m] }
      if m.more then s else s.closeEpoch r

/-- OBS_ENVELOPE: classified by R59; the Lead forwards what it accepts (R384). -/
def State.obsEnvelope (s : State) (r : Nat) (e : ObsEnv) : State :=
  let q := e.seq % 2 ^ 32
  if !s.live || s.mode = .basic || s.mode = .recovery || s.keys.zeroised then s
  else if e.bad || e.msgs = [] || 8 < e.msgs.length then s.inc (F.GNS_RV_CNT1_DISCARDED.at r)
  else match (s.rovPos r).ctx with
    | none => s
    | some c =>
      match s.session c with
      | none => s
      | some x =>
        if x.state ≠ 2 then s
        else match x.classify q with
          | .accepted =>
            let s := s.setSession c ((x.accept q).complete q [])
            let s := if s.role = .lead then s.emitNow .obsForward [(r : Int), q] else s
            e.msgs.foldl (fun s m => s.rtcm r m) s
          | .pending => s
          | _ => s.inc F.GNS_CNT2_REJECTED

def execObsEnvelope (r : Nat) (e : ObsEnv) (s : State) : Res :=
  s.act fun s => s.when (decide (r < 64)) fun s => s.obsEnvelope r e

/-- EPOCH_CUTOFF (R367): every open rover epoch closes. The receiver's time solution of the epoch is judged with it (Table 10.1):
its residual in ns, its offset, and the UTC parameters of the navigation data. -/
def State.epochCutoff (s : State) (residual : Nat) (off : Int) (nav : Option (Nat × Nat)) : State :=
  let at_ := s.num % 10 * 10000000 + s.frame.off
  let cut := s.get F.GNS_RTK_CUTOFF * 1000000
  if !s.receiverOn || s.pos.cutAt = s.curEpoch + 1 || at_ - s.frame.off + 10000000 < cut then s
  else
    let s : State := (s.atNs (cut - s.num % 10 * 10000000)).modPos fun p => { p with cutAt := s.curEpoch + 1 }
    let s := (roverIds.filter fun r => (s.rovPos r).ctx.isSome).foldl (fun s r => s.closeEpoch r) s
    let rx := s.get F.GNS_STAT_RX
    if rx < 2 then s.modTime fun t => { t with gnssGood := 0, resBad := 0, gnssBad := t.gnssBad + 1 }
    else
      let delay : Int := s.get F.TIM_CFG_GNSS_DELAY
      let s : State := s.modTime fun t => { t with
        gnssBad := 0
        gnssGood := if residual ≤ 1000 then t.gnssGood + 1 else 0
        resBad := if residual ≤ 1000 then 0 else t.resBad + 1
        offG := off + delay
        leapG := match nav with | some x => some x | none => t.leapG }
      s.utcEval

def execEpochCutoff (residual : Nat) (off : Int) (nav : Option (Nat × Nat)) (s : State) : Res :=
  s.act fun s => s.epochCutoff residual off nav

/-- ROVER_SOLUTION: a Surveyor engine finishes a closed epoch; after the fix boundary the solution is late and discarded (R370). -/
def State.roverSolution (s : State) (r : Nat) (x : SolIn) : State :=
  let p := s.rovPos r
  if s.epochCounts && p.closed && p.accepted && decide (s.num % 10 < 8) then s.setRovPos r { p with sol := some x } else s

def execRoverSolution (r : Nat) (x : SolIn) (s : State) : Res :=
  s.act fun s => s.when (decide (r < 64)) fun s => s.roverSolution r x

/-! ### The filter (R372 to R376, Table 08.5) -/

/-- The last three conditions of R373. -/
def fixedCheck (x : SolIn) : Bool := decide (5 ≤ x.nfix) && decide (3 ≤ x.nfix2) && decide (x.rms ≤ 15) && x.near
/-- R373. -/
def State.validation (s : State) (x : SolIn) : Bool := decide (s.get F.GNS_RTK_RATIO ≤ x.ratio) && x.unchanged && fixedCheck x

/-- The baseline exceeds MAXBASE. -/
def State.longBase (s : State) (x : SolIn) : Bool :=
  let m : Int := s.get F.GNS_RTK_MAXBASE * 1000000
  decide (m * m < distSq (x.sx, x.sy, x.sz) s.refPos)

/-- The filter state after a closed epoch with a single solution, VCOUNT, and whether integers were lost. -/
def State.filterNext (s : State) (p : RovPos) (x : SolIn) : Nat × Nat × Bool :=
  let n := s.get F.GNS_RTK_VALID_N
  let base := s.refValid && !s.longBase x && decide (5 ≤ x.nsat)
  match p.filter with
  | 0 => (1, 0, false)
  | 1 => if base then (2, 0, false) else (1, 0, false)
  | 2 =>
    if !base then (1, 0, false)
    else if s.validation x then (if n ≤ 1 then (4, 0, false) else (3, 1, false))
    else (2, 0, false)
  | 3 =>
    if !base then (1, 0, false)
    else if !s.validation x then (2, 0, false)
    else if p.vcount + 1 < n then (3, p.vcount + 1, false)
    else (4, 0, false)
  | _ => if !base then (1, 0, false) else if fixedCheck x then (4, 0, false) else (2, 0, true)

/-- The reported state of a filter state (R376). -/
def reported (f : Nat) : Nat := if f = 3 then 2 else if f = 4 then 3 else f

/-- The fix of an epoch. -/
def State.makeFix (s : State) (p : RovPos) (x : SolIn) (f : Nat) : Fix :=
  let st := reported f
  let (px, py, pz) := if st = 1 then (x.sx, x.sy, x.sz) else if st = 2 then (x.fx, x.fy, x.fz) else (x.x, x.y, x.z)
  let o := s.origin
  let (e, n, u) := o.enu (px - o.x) (py - o.y) (pz - o.z)
  let (ve, vn, vu) := o.enu x.vx x.vy x.vz
  { state := st, epoch := s.curEpoch, long := st = 1 && s.refValid && s.longBase x, slip := p.slipNow, half := p.halfNow
    nsat := x.nsat, ratio := if st = 1 then 0 else min 255 x.ratio, nfix := if st = 3 then x.nfix else 0
    x := px, y := py, z := pz, e := e, n := n, u := u, ve := ve, vn := vn, vu := vu
    speed := min 65535 (isqrt ((ve * ve + vn * vn).toNat)), sigH := min 65535 x.sigH, sigV := min 65535 x.sigV
    pdop := min 65535 x.pdop
    fixedFor := if st = 3 then (if p.fresh && p.fix.state = 3 then p.fix.fixedFor + 1 else 1) else 0 }

/-- An epoch without a fix counts as missing for the filter; GAP counts in IDLE too. -/
def State.roverMissing (s : State) (r : Nat) : State :=
  let p := { s.rovPos r with fresh := false }
  if p.filter = 0 ||  p.gap + 1 < s.get F.GNS_RTK_GAP_MAX then s.setRovPos r { p with gap := p.gap + 1 }
  else s.setRovPos r { p.idle with fresh := false, gap := p.gap + 1, closed := p.closed, accepted := p.accepted }

/-- The octets of a signed value, saturated to its field. -/
def satOctets (n : Nat) (z : Int) : List Nat :=
  leBytes n (ofInt (8 * n) (clampI (-(2 ^ (8 * n - 1))) (2 ^ (8 * n - 1) - 1) z))

/-- The FIX body (Table 08.8), with the values of the fix words. -/
def State.fixBody (s : State) (r : Nat) (x : Fix) : List Nat :=
  [r, x.state + 8 * b2n s.refValid + 16 * b2n x.long + 32 * b2n x.slip + 64 * b2n x.half] ++ leBytes 6 x.epoch
    ++ [min 255 x.nsat, min 255 x.nfix, x.ratio, 0] ++ satOctets 8 x.x ++ satOctets 8 x.y ++ satOctets 8 x.z
    ++ satOctets 4 x.e ++ satOctets 4 x.n ++ satOctets 4 x.u ++ satOctets 2 x.ve ++ satOctets 2 x.vn ++ satOctets 2 x.vu
    ++ leBytes 2 x.sigH ++ leBytes 2 x.sigV ++ leBytes 2 x.pdop ++ leBytes 4 (min 65535 x.fixedFor)

/-- The FIX envelope (R380), sent in Stop, Run and Hold. -/
def State.sendFix (s : State) (r : Nat) : State :=
  let p := s.rovPos r
  if s.fleetOn && s.rovOpen r then
    let q := p.txSeq + 1
    (s.setRovPos r { p with txSeq := q }).roverEmit .fix r (envelope 2 q (s.fixBody r p.fix))
  else s

/-- The fix boundary of one rover. -/
def State.roverFix (s : State) (r : Nat) : State :=
  let p := s.rovPos r
  if !s.epochCounts || !(p.closed && p.accepted) then s.roverMissing r
  else match p.sol with
    | none =>
      let s : State := (s.inc F.GNS_CNT0_SOLVE_LATE).modPos fun x => { x with unsolved := x.unsolved ++ [r] }
      s.roverMissing r
    | some x =>
      let s := s.inc F.GNS_CNT0_EPOCHS
      if !x.single then s.roverMissing r
      else
        let (f, v, lost) := s.filterNext p x
        let s := if lost then (s.inc F.GNS_CNT3_FIX_LOSS).log Sev.info 3 F.GNS_CNT3_FIX_LOSS [] else s
        let fx := s.makeFix p x f
        let s := s.setRovPos r { p with filter := f, vcount := v, gap := 0, fresh := true, hasFix := true, fix := fx, sol := none }
        s.sendFix r

/-- The fix boundary B_10s+8 (R368). -/
def State.fixBoundary (s : State) : State :=
  let s : State := s.modPos fun p => { p with unsolved := [] }
  (roverIds.filter fun r => (s.rovPos r).ctx.isSome || (s.rovPos r).hasFix).foldl (fun s r => s.roverFix r) s

/-! ### Fix words (R379, R382, R383, R386) -/

/-- The fix words of a rover as they stand, AGE computed now. In Basic only SESSION is shown. -/
def State.fixWords (s : State) (r : Nat) : List Nat :=
  let p := s.rovPos r
  let x := p.fix
  let sess := 2 ^ 31 * b2n (s.rovOpen r)
  if s.mode = .basic || !p.hasFix then sess :: List.replicate 15 0
  else
    let lim := fun (z : Int) => ofInt 16 (clampI (-32768) 32767 z)
    let pos := fun (z : Int) => ofInt 32 (clampI (-(2 ^ 31)) (2 ^ 31 - 1) z)
    let age := min 65535 ((s.num - x.epoch) / 10)
    [sess + 2 ^ 30 * b2n p.fresh + 2 ^ 29 * b2n s.refValid + 2 ^ 28 * b2n x.long + 2 ^ 27 * b2n x.slip + 2 ^ 26 * b2n x.half
       + 2 ^ 16 * min 255 x.nsat + 2 ^ 8 * x.ratio + 8 * min 31 x.nfix + x.state,
     x.epoch % 2 ^ 32, age * 65536 + x.epoch / 2 ^ 32 % 65536, pos x.e, pos x.n, pos x.u,
     lim x.vn * 65536 + lim x.ve, x.speed * 65536 + lim x.vu, x.sigV * 65536 + x.sigH,
     x.pdop * 65536 + min 65535 x.fixedFor, min 255 p.gap * 2 ^ 24, 0, 0, 0, 0, 0]

/-- The fix words as they stand at a frame boundary. -/
def State.fixImage (s : State) : State :=
  let m : SMap (List Nat) := (roverIds.filter fun r => (SMap.get? s.pos.rovers r).isSome).map fun r => (r, s.fixWords r)
  s.modPos fun p => { p with image := m }

/-- A write of GNS_FSEL (R386). -/
def State.writeFsel (s : State) (rk r : Nat) : State :=
  (s.put F.GNS_FSEL_ROVER r).setLatch Win.fix rk (SMap.getD s.pos.image r [])

def execGnsFsel (who : Requester) (w : Word) (s : State) : Res :=
  s.act fun s => s.gate who 1 fun s => (s.writeFsel who.key (w.toNat % 64)).reply who St.done

/-- GNS.ROVER_STATUS (R382). -/
def svcRoverStatus (s : State) (_ : Origin) (a : SvcArgs) : State × Nat × List Nat :=
  let r := a.wa.toNat
  if 64 ≤ r then (s, St.badArg, [])
  else
    let k := Requester.sid0.key
    (s, St.done, (s.fixWords r).take 11 ++ [s.word k (F.GNS_RV_STAT_SESSION.at r).addr, s.word k (F.GNS_RV_CNT0_EPOCHS.at r).addr,
      s.word k (F.GNS_RV_CNT1_LATE.at r).addr, 0, 0])

/-- Entry into Basic: every filter goes to IDLE. -/
def State.posBasic (s : State) : State :=
  (s.filtersIdle).modPos fun p => { p with rovers := p.rovers.map fun (q : Nat × RovPos) =>
    (q.1, { q.2 with hasFix := false, fresh := false, fix := {} }) }

end Sys2Proof.Machine
end

