-- ==== Sys2Proof/Machine/Rtc.lean ====
section
/-!
DEFINITION. The real-time clock in the battery-backed domain (R461 to R469): its count, trim and leap seconds, the commit, the
requesters' shadows, discipline by module time, and the lockout.
-/
namespace Sys2Proof.Machine

/-- Seconds from 1970-01-01 to 2000-01-01. -/
def rtcEpoch : Int := 946684800
/-- The last second the count shows before it passes to 2000 (R463): 2399-12-31 23:59:59. -/
def rtcLast : Nat := daysToYear 2400 * 86400 - 1
/-- Crystal periods of a trim window (R464). -/
def trimWindow : Int := 64 * 32768

/-- The second runs out on the last day of its month, at a time of day. -/
def monthEnd (secs tod : Nat) : Bool :=
  let c := civil secs
  decide (c.day = monthLen c.year c.month) && decide (secs % 86400 = tod)

/-- At the end of the second in progress RTC_LEAP_ACT is due (R465). -/
def State.rtcLeapDue (s : State) : Bool :=
  let t := s.rtc.t
  !t.in60 && ((s.get F.RTC_LEAP_MODE = 1 && monthEnd t.secs 86399) || (s.get F.RTC_LEAP_MODE = 2 && monthEnd t.secs 86398))

/-- At the end of the second in progress RTC_ROLLOVER is due (R463). -/
def State.rtcRollDue (s : State) : Bool := !s.rtcLeapDue && decide (s.rtc.t.secs = rtcLast)

/-- Crystal periods pass: the trim adds or removes its pulses evenly (R464). The count waits at the end of a second after which
a command of its own is due, and keeps what it could not count. -/
def State.rtcAdvance (s : State) (n : Nat) : State :=
  let r := s.rtc
  let acc := r.trimAcc + (n : Int) * r.trim
  let extra := fdiv acc trimWindow
  let sub := ((r.t.sub : Int) + n + extra).toNat
  let acc := acc - extra * trimWindow
  if sub < 32768 then s.modRtc fun r => { r with t := { r.t with sub := sub }, trimAcc := acc }
  else if s.rtcLeapDue || s.rtcRollDue then
    s.modRtc fun r => { r with t := { r.t with sub := 32767 }, trimAcc := acc + ((sub - 32767 : Nat) : Int) * trimWindow }
  else s.modRtc fun r => { r with t := ⟨r.t.secs + sub / 32768, false, sub % 32768⟩, trimAcc := acc }

/-- The second in progress ends within a frame. -/
def State.rtcSecondEnds (s : State) : Bool := decide (32767 ≤ s.rtc.t.sub + 400)

/-- RTC_LEAP_ACT (R465). -/
def State.rtcLeapAct (s : State) : State :=
  if !s.rtcLeapDue || !s.rtcSecondEnds then s
  else
    let ins := s.get F.RTC_LEAP_MODE = 1
    let last := s.rtc.t.secs + 2
    let s := s.put F.RTC_LEAP_MODE 0
    if ins then s.modRtc fun r => { r with t := ⟨r.t.secs, true, 0⟩ }
    else if rtcLast < last then (s.modRtc fun r => { r with t := ⟨0, false, 0⟩ }).put F.RTC_STAT_OSF 1
    else s.modRtc fun r => { r with t := ⟨last, false, 0⟩ }

/-- RTC_ROLLOVER (R463, R466). -/
def State.rtcRollover (s : State) : State :=
  if s.rtcRollDue && s.rtcSecondEnds then
    (s.modRtc fun r => { r with t := ⟨0, false, 0⟩ }).put F.RTC_STAT_OSF 1
  else s

/-- RTC_TRIM_WINDOW (R464). -/
def State.rtcTrimWindow (s : State) : State :=
  if s.rtc.t.secs % 64 = 0 && !s.rtc.t.in60 then s.modRtc fun r => { r with trim := s.getI F.RTC_TRIM_PULSES } else s

def execRtcTrimWindow (s : State) : Res := s.act State.rtcTrimWindow
def execRtcLeapAct (s : State) : Res := s.act State.rtcLeapAct
def execRtcRollover (s : State) : Res := s.act State.rtcRollover

/-- RTC_OSCILLATOR_STOP (R466); after a retention failure the count restarts. -/
def execRtcOscillatorStop (retention : Bool) (s : State) : Res :=
  s.act fun s =>
    let s := s.put F.RTC_STAT_OSF 1
    if retention then s.modRtc fun r => { r with t := {} } else s

/-! ### Commits (R462, R463) -/

/-- UTC of module time in ms since 2000-01-01 less the RTC's, negated: how far the RTC is ahead, ms. -/
def State.rtcDiff (s : State) : Int :=
  let utc := s.utcMs ((s.now / 1000000 : Nat) : Int) - 1000 * rtcEpoch
  (s.rtc.t.secs : Int) * 1000 + (s.rtc.t.sub * 1000 / 32768 : Nat) - utc

/-- The count takes a value: RTC_SUBSEC 0, OSF clear, the trim window restarts. -/
def State.rtcSet (s : State) (secs : Nat) : State :=
  let s := s.modRtc fun r => { r with t := ⟨secs, false, 0⟩, trim := s.getI F.RTC_TRIM_PULSES, trimAcc := 0 }
  let s := s.put F.RTC_STAT_OSF 0
  let d := s.rtcDiff
  s.modRtc fun r => { r with lastDiff := d }

/-- The staged date is valid as one set (R463). -/
def State.stagedValid (s : State) : Bool :=
  let y := s.get F.RTC_W_YEAR_VAL
  let m := s.get F.RTC_W_MONTH_VAL
  let d := s.get F.RTC_W_DAY_VAL
  decide (2000 ≤ y) && decide (y ≤ 2399) && decide (1 ≤ m) && decide (m ≤ 12) && decide (1 ≤ d) && decide (d ≤ monthLen y m)
    && decide (s.get F.RTC_W_HOUR_VAL ≤ 23) && decide (s.get F.RTC_W_MIN_VAL ≤ 59) && decide (s.get F.RTC_W_SEC_VAL ≤ 59)

/-- RTC_COMMIT.GO: the state after it, and its status. -/
def State.rtcCommit (s : State) : State × Nat :=
  if s.flag F.RTC_STAT_LOCKOUT then (s, St.busy)
  else if s.disciplined then (s, St.disciplined)
  else if !s.stagedValid then (s.put F.RTC_STAT_BAD_DATE 1, St.badDate)
  else (s.rtcSet (secsOf (s.get F.RTC_W_YEAR_VAL) (s.get F.RTC_W_MONTH_VAL) (s.get F.RTC_W_DAY_VAL)
    (s.get F.RTC_W_HOUR_VAL) (s.get F.RTC_W_MIN_VAL) (s.get F.RTC_W_SEC_VAL)), St.done)

def execRtcCommit (who : Requester) (s : State) : Res :=
  s.act fun s => s.gate who 1 fun s => let (s, st) := s.rtcCommit; s.reply who st

/-! ### Reads (R461, R469) -/

/-- A read of RTC_SUBSEC: a new snapshot, and its value. -/
def State.readSubsec (s : State) (rk : Nat) : State × Nat :=
  let t := s.rtc.lockT.getD s.rtc.t
  (s.modRtc fun r => { r with shadows := SMap.insert r.shadows rk ⟨t, s.mono + 1000000000⟩ }, t.sub)

/-- A read of RTC_YEAR ends the freeze. -/
def State.readYear (s : State) (rk : Nat) : State × Nat :=
  let y := (s.rtcSeen rk).civil.year
  (s.modRtc fun r => { r with shadows := SMap.erase r.shadows rk }, y)

def execRtcSubsecRead (who : Requester) (s : State) : Res :=
  s.act fun s => let (s, v) := s.readSubsec who.key; s.reply who St.done [v]
def execRtcYearRead (who : Requester) (s : State) : Res :=
  s.act fun s => let (s, v) := s.readYear who.key; s.reply who St.done [v]

/-- The freeze ends 1 s after the snapshot. -/
def execRtcFreezeExpiry (who : Requester) (s : State) : Res :=
  s.act fun s => match SMap.get? s.rtc.shadows who.key with
    | some x => s.when (s.past x.untilMono) fun s => s.modRtc fun r => { r with shadows := SMap.erase r.shadows who.key }
    | none => s

/-- RTC.CAL_READ (R469). -/
def svcCalRead (s : State) (_ : Origin) (_ : SvcArgs) : State × Nat × List Nat :=
  let t := s.rtc.lockT.getD s.rtc.t
  let c := t.civil
  (s, St.done, [t.sub, c.sec, c.min, c.hour, 256 * c.weekday + c.day, c.month, c.year,
    s.word Requester.sid0.key F.RTC_STAT_OSF.addr - 16 * b2n (s.frozen Requester.sid0.key)])

/-! ### Discipline (R467) -/

/-- RTC_DISCIPLINE: every 60 s of monotonic time the RTC is compared with UTC. The trim nulls the rate difference that the two
comparisons show. -/
def State.rtcDiscipline (s : State) : State :=
  if !s.disciplined || !s.past (s.rtc.lastDisc + 60000000000) then s
  else
    let d := s.rtcDiff
    let dt : Int := ((s.mono - s.rtc.lastDisc) / 1000000 : Nat)
    let step := if s.rtc.lastDisc = 0 || dt = 0 then 0 else rdiv ((d - s.rtc.lastDiff) * trimWindow) dt
    let trim := clampI (-1023) 1023 (s.getI F.RTC_TRIM_PULSES - step)
    let s := (s.putI F.RTC_TRIM_PULSES trim).put F.RTC_LEAP_MODE (s.get F.TIM_UTC_PENDING)
    let ms := s.utcMs ((s.now / 1000000 : Nat) : Int)
    let own : Option Nat := if 500 < d.natAbs then some (s.now + ((999 - ms % 1000).toNat + 1) * 1000000) else none
    s.modRtc fun r => { r with lastDisc := s.mono, lastDiff := d, ownCommit := own }

def execRtcDiscipline (s : State) : Res := s.act State.rtcDiscipline

/-- The module's own commit at its whole UTC second. -/
def State.ownCommit (s : State) : State :=
  match s.rtc.ownCommit with
  | some t =>
    if s.now < t then s
    else
      let s : State := s.modRtc fun r => { r with ownCommit := none }
      if s.flag F.RTC_STAT_LOCKOUT then s
      else
        let ms := s.utcMs ((t / 1000000 : Nat) : Int)
        let s := s.rtcSet ((ms / 1000 - rtcEpoch).toNat)
        let late := (s.now - t) * 32768 / 1000000000
        s.modRtc fun r => { r with t := { r.t with sub := late } }
  | none => s

/-- The RTC over one frame: the crystal's periods pass, and a commit of the module's own falls due. -/
def State.rtcFrame (s : State) (crystal : Nat) : State := (s.rtcAdvance crystal).ownCommit

/-! ### Lockout (R468) -/

/-- The interface locks: staged writes are discarded and reads return the values held. -/
def State.rtcLock (s : State) : State :=
  if s.flag F.RTC_STAT_LOCKOUT then s
  else
    let s := [F.RTC_W_SEC_VAL, F.RTC_W_MIN_VAL, F.RTC_W_HOUR_VAL, F.RTC_W_DAY_VAL, F.RTC_W_MONTH_VAL, F.RTC_W_YEAR_VAL].foldl
      (fun s f => s.put f 0) s
    (s.modRtc fun r => { r with lockT := some r.t, ownCommit := none }).put F.RTC_STAT_LOCKOUT 1

def State.rtcUnlock (s : State) : State := (s.modRtc fun r => { r with lockT := none }).put F.RTC_STAT_LOCKOUT 0

/-- The time that seeds module time at start (R434), TAI ns; 0 with OSF set. -/
def State.rtcSeed (s : State) : Nat :=
  if s.flag F.RTC_STAT_OSF then 0
  else ((s.rtc.t.secs : Int) + rtcEpoch + s.get F.TIM_UTC_LEAP_CFG).toNat * 1000000000 + s.rtc.t.sub * 1000000000 / 32768

end Sys2Proof.Machine
end

