-- ==== Sys2Proof/Machine/Services.lean ====
section
/-!
DEFINITION. Mode commands (R89 to R101), aborts (R66 to R68, R205, R638) and the service catalogue (R198 to R208).
-/
namespace Sys2Proof.Machine

/-! ### Mode commands (R89, R92, R93, R99, R100) -/

def sysStat : Nat := F.SYS_CMD_STAT_STATUS.addr

/-- The event of a code of SYS_CMD. -/
def sysEvent : Nat → Option ModeEv
  | 1 => some .start | 2 => some .stop | 3 => some .halt | 4 => some .resume | 5 => some .enterBasic
  | 6 => some .leaveBasic | 7 => some .recover | 8 => some (.shutdown false) | 9 => some (.shutdown true)
  | _ => none

/-- The codes that need a confirmation. -/
def sysConfirms (code : Nat) : Bool := 7 ≤ code && code ≤ 9

/-- Table 02.7: the life-cycle state admits the combination that the event leads to. -/
def State.lifeAllows (s : State) : ModeEv → Bool
  | .start | .resume | .halt => s.keys.life = .provisioned || s.keys.life = .deployed
  | .stop | .recover => decide (s.keys.life ≠ .scrapped)
  | _ => true

/-- Table 02.6 lists the event in the present mode. -/
def State.modeAllows (s : State) : ModeEv → Bool
  | .start => s.mode = .stop
  | .stop => s.mode = .run || s.mode = .hold
  | .halt | .breakpoint => s.mode = .run
  | .resume => s.mode = .hold
  | .leaveBasic => s.mode = .basic
  | .recover => s.mode = .stop || s.mode = .basic
  | .enterBasic | .escalation _ | .skipEscalation | .curatorFault =>
    s.mode = .stop || s.mode = .run || s.mode = .hold || s.mode = .shadow
  | .tamper | .shutdown _ => decide (s.mode ≠ .recovery)

def State.coresRun (s : State) : Bool := s.frame.c0.running && s.frame.c1.running

/-- What refuses a mode command, in the order of R634; none where it is accepted. -/
def State.sysJudge (s : State) (ev : ModeEv) : Option Nat :=
  let cause := s.get F.SYS_MODE_CAUSE
  if !s.lifeAllows ev then some St.lifecycle
  else if !s.live || !s.modeAllows ev then some St.mode
  else match ev with
    | .start =>
      if s.prog.pkg.isNone then some St.noProgram
      else if !s.aligned && !s.flag F.SYS_BOOT_RUN_UNALIGNED then some St.notAligned
      else none
    | .leaveBasic => if cause = 3 || cause = 4 || cause = 7 || !s.coresRun then some St.causeActive else none
    | _ => none

/-- A request for a mode, from a command or a service. -/
def State.sysRequest (s : State) (ev : ModeEv) (o : Origin) : State × Nat :=
  match s.sysJudge ev with
  | some st => (s, st)
  | none => (s.modeReq ev o, St.pending)

/-- Debug requests, HALT and RESUME (R142): in Provisioned from any management or host-port session, else from one of role
ENGINEERING. -/
def State.debugOk (s : State) : Requester → Bool
  | .session c =>
    match s.session c with
    | some x => (x.typ = 0 || x.typ = 3) && (decide (s.keys.life = .provisioned) || decide (2 ≤ x.role))
    | none => false
  | _ => false

/-- A requester may write a code of SYS_CMD (R531, R142). -/
def State.sysAccess (s : State) (who : Requester) (code : Nat) : Bool :=
  if code = 3 || code = 4 then s.debugOk who else decide (2 ≤ s.roleOf who)

/-- A new command takes the status register: an older one that is still PENDING reports to the session that waits for it. -/
def State.freeSysStat (s : State) : State :=
  let heir : Origin := match s.wired.waitCmd.find? (fun p => p.1 = sysStat) with
    | some (_, c, q) => .host c q
    | none => .quiet
  let s := s.modFrame fun f => { f with
    modeReqs := f.modeReqs.map fun r => if r.by_ = .command sysStat then { r with by_ := heir } else r }
  s.modWired fun w => { w with waitCmd := w.waitCmd.filter fun p => p.1 ≠ sysStat }

/-- A write of SYS_CMD: the state after it, and its status. -/
def State.sysCommand (s : State) (who : Requester) (code confirm : Nat) : State × Nat :=
  if !s.sysAccess who code then (s, St.access)
  else
    let s := s.freeSysStat
    let (s, st) : State × Nat := match sysEvent code with
      | none => (s, if s.phase = .shutdown then St.mode else St.badArg)
      | some ev => if sysConfirms code && confirm ≠ confirmValue then (s, St.confirm) else s.sysRequest ev (.command sysStat)
    (s.cmdStat F.SYS_CMD_STAT_CODE F.SYS_CMD_STAT_STATUS code st, st)

/-- A mode command and its answer. -/
def State.sysCmdRow (s : State) (who : Requester) (code confirm : Nat) : State :=
  let (s, st) := s.sysCommand who code confirm; s.reply who st

def execStart (who : Requester) (s : State) : Res := s.act fun s => s.sysCmdRow who 1 0
def execStop (who : Requester) (s : State) : Res := s.act fun s => s.sysCmdRow who 2 0
def execHalt (who : Requester) (s : State) : Res := s.act fun s => s.sysCmdRow who 3 0
def execResume (who : Requester) (s : State) : Res := s.act fun s => s.sysCmdRow who 4 0
def execEnterBasic (who : Requester) (s : State) : Res := s.act fun s => s.sysCmdRow who 5 0
def execLeaveBasic (who : Requester) (s : State) : Res := s.act fun s => s.sysCmdRow who 6 0
def execRecover (who : Requester) (confirm : Nat) (s : State) : Res := s.act fun s => s.sysCmdRow who 7 confirm
def execRestart (who : Requester) (confirm : Nat) (s : State) : Res := s.act fun s => s.sysCmdRow who 8 confirm
def execShutdown (who : Requester) (confirm : Nat) (s : State) : Res := s.act fun s => s.sysCmdRow who 9 confirm

/-- SHDN_REQ_FALL (R108): a falling edge asks for an orderly shutdown; it has no effect while one runs. -/
def State.shdnFall (s : State) : State :=
  if (s.sysJudge (.shutdown true)).isSome then s else s.modeReq (.shutdown true) .quiet

def execShdnReqFall (s : State) : Res := s.act State.shdnFall

/-! ### Aborts (R66 to R68, R205, R638) -/

/-- A change of PLX_CHG: state and status (Table 03.3). -/
def State.setChange (s : State) (st status : Nat) : State := (s.put F.PLX_CHG_STATE st).put F.PLX_CHG_STATUS status

/-- The engineering change's states. -/
def Chg.idle : Nat := 0
def Chg.loading : Nat := 1
def Chg.loaded : Nat := 2
def Chg.prepared : Nat := 3
def Chg.pending : Nat := 4

/-- A switch that waits for its boundary ends ABORTED: PREPARED again. -/
def State.switchAborted (s : State) : State :=
  if s.get F.PLX_CHG_STATE ≠ Chg.pending then s
  else
    let o := s.prog.switchBy
    let s := (s.setChange Chg.prepared St.aborted).modProg fun p => { p with switchAt := none, switchBy := .quiet }
    s.finish o St.aborted []

/-- An abort of an operation of the program, the drive side, the Lanyard or the Splice link. -/
def State.abortRest (s : State) (o : Origin) : Option (State × Nat) :=
  if s.light.recipeBy = o then
    let s := (s.put F.LGT_RCP_SWITCH_PENDING 0).put F.LGT_RCP_STATUS St.aborted
    let s := s.modLight fun l => { l with recipes2 := [], recipeLoading := false, recipeBy := .quiet }
    some (s.finish o St.aborted [], St.aborted)
  else if s.drv.passBy.contains o || s.drv.passWait.contains o then
    let s := s.modDrv fun d => { d with passBy := d.passBy.filter (· ≠ o), passWait := d.passWait.filter (· ≠ o) }
    some (s.finish o St.aborted [], St.aborted)
  else if s.prog.saveBy.contains o then
    -- the save stays due where another call or its period asks for it
    let s := s.modProg fun p =>
      let l := p.saveBy.filter (· ≠ o)
      if l = [] && !p.saveAuto then { p with saveBy := [], saveDue := false, saveWords := [] } else { p with saveBy := l }
    some (s.finish o St.aborted [], St.aborted)
  else if s.prog.changes.any (fun c => c.by_ = o) then
    let s := s.modProg fun p => { p with changes := p.changes.filter fun c => c.by_ ≠ o }
    some (s.finish o St.aborted [], St.aborted)
  else if s.prog.forceReqs.any (fun c => c.by_ = o) then
    let s := s.modProg fun p => { p with forceReqs := p.forceReqs.filter fun c => c.by_ ≠ o }
    some (s.finish o St.aborted [], St.aborted)
  else if s.prog.loadBy = o then
    let s := ((s.setChange Chg.idle St.aborted).put F.PLX_CHG_OWNER 1023).modProg fun p =>
      { p with loaded := none, newPkg := none, loadBy := .quiet }
    some (s.finish o St.aborted [], St.aborted)
  else if s.prog.switchBy = o then some (s.switchAborted, St.aborted)
  else if s.spl.swapBy = o then
    some ((s.modSpl fun x => { x with swapAt := none, swapBy := .quiet }).finish o St.aborted [], St.aborted)
  else if s.time.restep = some o then
    some ((s.modTime fun t => { t with restep := none }).finish o St.aborted [], St.aborted)
  else if s.keys.fuseBy = o then
    some ((s.modKeys fun k => { k with fuse := none, fuseBy := .quiet, newRow := none }).finish o St.aborted [], St.aborted)
  else if s.meter.clearBy = some o then
    some ((s.modMeter fun m => { m with clearBy := none }).finish o St.aborted [], St.aborted)
  else none

/-! ### Which event acts at a boundary (R90, R91) -/

/-- The rank of an event (R91); a takeover has rank 5, a planned swap 9. -/
def ModeEv.rank : ModeEv → Nat
  | .shutdown false => 0 | .tamper => 1 | .curatorFault => 2 | .escalation _ => 3 | .skipEscalation => 4
  | .enterBasic => 6 | .recover => 7 | .shutdown true => 8 | .stop => 10 | .halt => 11
  | .breakpoint => 12 | .resume => 13 | .leaveBasic => 14 | .start => 15

/-- An event that came before this boundary and takes effect at it. From Run, STOP, HALT, SHUTDOWN and RESTART wait for a cycle
boundary and the commit of the running cycle. -/
def State.evDue (s : State) (cycleEnd : Bool) (r : ModeReq) : Bool :=
  decide (r.at_ ≠ s.num) && s.modeAllows r.ev &&
    (match r.ev with
     | .stop | .halt | .shutdown _ => decide (s.mode ≠ .run) || (cycleEnd && !s.prog.begun)
     | _ => true)

/-- The event of a list that ranks first. -/
def firstRanked : List ModeReq → Option ModeReq
  | [] => none
  | r :: l => match firstRanked l with
    | some q => if q.ev.rank < r.ev.rank then some q else some r
    | none => some r

/-- A takeover falls due at this boundary (R555). -/
def State.takeDue (s : State) : Bool :=
  s.role = .follower && s.mode = .shadow && (match s.spl.takeAt with | some b => decide (b ≤ s.num) | none => false)

/-- A planned swap falls due at this boundary (R561). -/
def State.swapDue (s : State) : Bool :=
  s.role = .lead && s.mode.active && (match s.spl.swapAt with | some b => decide (b ≤ s.num) | none => false)

/-- The event that acts at this boundary: it ranks first of those due, and before a takeover or a planned swap of the boundary. -/
def State.modeWinner (s : State) (cycleEnd : Bool) : Option ModeReq :=
  match firstRanked (s.frame.modeReqs.filter fun r => s.evDue cycleEnd r) with
  | some r => if (if s.takeDue then 5 else if s.swapDue then 9 else 16) ≤ r.ev.rank then none else some r
  | none => none

/-! ### Aborts of mode commands -/

/-- An abort of a mode command before its boundary (R92). At the boundary where the request takes effect it comes too late (R67). -/
def State.abortMode (s : State) (o : Origin) : Option (State × Nat) :=
  if s.frame.modeReqs.any (fun r => r.by_ = o) then
    if s.frame.committing && (s.modeWinner true).any (fun r => r.by_ = o) then some (s, St.abortLate)
    else
      let s := s.modFrame fun f => { f with modeReqs := f.modeReqs.filter fun r => r.by_ ≠ o }
      some (s.finish o St.aborted [], St.aborted)
  else none

/-- Every function that knows operations in progress. -/
def aborters : List (State → Origin → Option (State × Nat)) :=
  [State.abortMode, State.abortRest, State.abortLight, State.abortAxis, State.abortFleet, State.abortTime, State.abortDali,
   State.abortNode, State.abortCampaign, State.abortUpdate]

/-- Abort an operation in progress: the state, and what the abort reports (R66, R67). An operation that nothing can stop any more
ends by itself. -/
def State.abortOp (s : State) (o : Origin) : State × Nat :=
  if o = .quiet then (s, St.badArg)
  else (aborters.findSome? fun f => f s o).getD (s, St.abortLate)

/-- PLX.ABORT (R205). -/
def svcAbort (s : State) (o : Origin) (a : SvcArgs) : SvcRes :=
  match o with
  | .program k _ _ =>
    let t := a.wa.toNat
    let slot := bits t 23 16
    let x := SMap.getD (s.sect k).slots slot {}
    if bits t 31 24 ≠ 64 * k || slot = 255 || bits t 15 0 = 0 || x.serial ≠ bits t 15 0 then (s, St.badArg, [])
    else match x.st with
      | .active => let (s, st) := s.abortOp (.program k slot x.serial); (s, st, [])
      | .issued => (s.modSect k fun y => y.modSlot slot fun z => { z with st := .final, status := St.aborted, result := [] },
          St.aborted, [])
      | _ => (s, if x.status = St.done then St.abortLate else St.aborted, [])
  | _ => (s, St.badArg, [])

/-! ### The catalogue (Table 04.9) -/

def svcReqStop (s : State) (o : Origin) (_ : SvcArgs) : SvcRes := let (s, st) := s.sysRequest .stop o; (s, st, [])
def svcReqBasic (s : State) (o : Origin) (_ : SvcArgs) : SvcRes := let (s, st) := s.sysRequest .enterBasic o; (s, st, [])

/-- The retained words of the package in force: keys of `Prog.areas`. -/
def Package.retained (p : Package) : List Nat :=
  (p.symbols.filter fun y => y.retained && decide (y.area = Area.d)).map fun y => areaKey y.area y.off

/-- The retained words as they stand at the last commit. -/
def State.retainedNow (s : State) : SMap Nat :=
  match s.prog.pkg with
  | none => []
  | some p => p.retained.foldl (fun (m : SMap Nat) k => SMap.insert m k (SMap.getD s.prog.areas k 0)) []

/-- A retained save of this commit point falls due (R145). -/
def State.saveDueNow (s : State) : State :=
  let w := s.retainedNow
  s.modProg fun p => { p with saveDue := true, saveWords := w, saveCount := p.total }

/-- PLX.RETAIN_SAVE. -/
def svcRetainSave (s : State) (o : Origin) (_ : SvcArgs) : SvcRes :=
  (s.saveDueNow.modProg fun p => { p with saveBy := p.saveBy ++ [o] }, St.pending, [])

/-- The service with a code. -/
def svcOf : Nat → Option (State → Origin → SvcArgs → SvcRes)
  | 0x000001 => some svcReqStop
  | 0x000002 => some svcReqBasic
  | 0x050001 => some svcAbort
  | 0x050002 => some svcRetainSave
  | 0x060001 => some svcSetGroup
  | 0x060002 => some svcReleaseGroup
  | 0x060003 => some svcSetNode
  | 0x060004 => some svcReleaseNode
  | 0x060005 => some svcSelectRecipe
  | 0x060006 => some svcEmergency
  | 0x060007 => some svcOverlayPresence
  | 0x060008 => some svcReadStaging
  | 0x070001 => some svcNodeQuery
  | 0x070002 => some svcNodeIdentify
  | 0x070003 => some svcNodeRestart
  | 0x090001 => some svcShortTest
  | 0x0A0001 => some svcLoopOpen
  | 0x0A0002 => some svcLoopClose
  | 0x0A0003 => some svcSetCoef
  | 0x0A0004 => some svcSetSp
  | 0x0A0005 => some svcHoistMove
  | 0x0A0006 => some svcHoistStop
  | 0x0A0007 => some svcHoistHome
  | 0x0B0001 => some svcRoverStatus
  | 0x0C0001 => some svcTaskQueue
  | 0x0C0002 => some svcTaskAssign
  | 0x0C0003 => some svcTaskCancel
  | 0x0C0004 => some svcRoverHold
  | 0x0C0005 => some svcRoverRelease
  | 0x0C0006 => some svcKnotResolve
  | 0x0C0007 => some svcCorridorClose
  | 0x0C0008 => some svcCorridorOpen
  | 0x0D0001 => some svcDeclareStop
  | 0x0E0001 => some svcTrigArm
  | 0x0E0002 => some svcTrigEmit
  | 0x0E0003 => some svcTrigRead
  | 0x0F0001 => some svcCalRead
  | 0x100001 => some svcHarmRead
  | 0x100002 => some svcDemandReset
  | 0x110001 => some svcStationDiag
  | 0x120001 => some svcDaliArc
  | 0x120002 => some svcDaliCmd
  | 0x120003 => some svcDaliQuery
  | 0x190001 => some svcLogEvent
  | _ => none

/-- The function that a service belongs to runs in the present mode (Table 02.5); orders of layers 3 and 4 act in Run only. -/
def State.svcRuns (s : State) (code : Nat) : Bool :=
  let frames := s.mode = .stop || s.mode = .run || s.mode = .hold
  match code / 65536 with
  | 0x05 => frames
  | 0x06 =>
    if code = 0x060008 then true
    else if code = 0x060005 || code = 0x060007 then frames
    else s.mode = .run
  | 0x07 | 0x0A | 0x12 => frames
  | 0x09 => s.passMode
  | 0x0C => s.fleetOn
  | _ => true

/-- A call of a service, by whoever calls it, and its answer (R199, R207, R531). -/
def State.callSvc (s : State) (o : Origin) (code : Nat) (a : SvcArgs) : State :=
  let denied := match o with
    | .host c _ => decide (s.roleOf (.session c) < 1)
    | _ => false
  if denied then s.answer o St.access []
  else match svcOf code with
    | none => s.answer o St.badArg []
    | some f =>
      if !s.live || s.mode = .recovery || !s.svcRuns code then s.answer o St.mode []
      else let (s, st, res) := f s o a; s.answer o st res

def execReqStop (o : Origin) (a : SvcArgs) (s : State) : Res := s.act fun s => s.callSvc o 0x000001 a
def execReqBasic (o : Origin) (a : SvcArgs) (s : State) : Res := s.act fun s => s.callSvc o 0x000002 a
def execPlxAbort (o : Origin) (a : SvcArgs) (s : State) : Res := s.act fun s => s.callSvc o 0x050001 a
def execRetainSave (o : Origin) (a : SvcArgs) (s : State) : Res := s.act fun s => s.callSvc o 0x050002 a
def execSetGroup (o : Origin) (a : SvcArgs) (s : State) : Res := s.act fun s => s.callSvc o 0x060001 a
def execReleaseGroup (o : Origin) (a : SvcArgs) (s : State) : Res := s.act fun s => s.callSvc o 0x060002 a
def execSetNode (o : Origin) (a : SvcArgs) (s : State) : Res := s.act fun s => s.callSvc o 0x060003 a
def execReleaseNode (o : Origin) (a : SvcArgs) (s : State) : Res := s.act fun s => s.callSvc o 0x060004 a
def execSelectRecipe (o : Origin) (a : SvcArgs) (s : State) : Res := s.act fun s => s.callSvc o 0x060005 a
def execEmergency (o : Origin) (a : SvcArgs) (s : State) : Res := s.act fun s => s.callSvc o 0x060006 a
def execOverlayPresence (o : Origin) (a : SvcArgs) (s : State) : Res := s.act fun s => s.callSvc o 0x060007 a
def execReadStaging (o : Origin) (a : SvcArgs) (s : State) : Res := s.act fun s => s.callSvc o 0x060008 a
def execNodeQuery (o : Origin) (a : SvcArgs) (s : State) : Res := s.act fun s => s.callSvc o 0x070001 a
def execNodeIdentify (o : Origin) (a : SvcArgs) (s : State) : Res := s.act fun s => s.callSvc o 0x070002 a
def execNodeRestart (o : Origin) (a : SvcArgs) (s : State) : Res := s.act fun s => s.callSvc o 0x070003 a
def execShortTest (o : Origin) (a : SvcArgs) (s : State) : Res := s.act fun s => s.callSvc o 0x090001 a
def execLoopOpen (o : Origin) (a : SvcArgs) (s : State) : Res := s.act fun s => s.callSvc o 0x0A0001 a
def execLoopClose (o : Origin) (a : SvcArgs) (s : State) : Res := s.act fun s => s.callSvc o 0x0A0002 a
def execSetCoef (o : Origin) (a : SvcArgs) (s : State) : Res := s.act fun s => s.callSvc o 0x0A0003 a
def execSetSp (o : Origin) (a : SvcArgs) (s : State) : Res := s.act fun s => s.callSvc o 0x0A0004 a
def execHoistMove (o : Origin) (a : SvcArgs) (s : State) : Res := s.act fun s => s.callSvc o 0x0A0005 a
def execHoistStop (o : Origin) (a : SvcArgs) (s : State) : Res := s.act fun s => s.callSvc o 0x0A0006 a
def execHoistHome (o : Origin) (a : SvcArgs) (s : State) : Res := s.act fun s => s.callSvc o 0x0A0007 a
def execRoverStatus (o : Origin) (a : SvcArgs) (s : State) : Res := s.act fun s => s.callSvc o 0x0B0001 a
def execTaskQueue (o : Origin) (a : SvcArgs) (s : State) : Res := s.act fun s => s.callSvc o 0x0C0001 a
def execTaskAssign (o : Origin) (a : SvcArgs) (s : State) : Res := s.act fun s => s.callSvc o 0x0C0002 a
def execTaskCancel (o : Origin) (a : SvcArgs) (s : State) : Res := s.act fun s => s.callSvc o 0x0C0003 a
def execRoverHold (o : Origin) (a : SvcArgs) (s : State) : Res := s.act fun s => s.callSvc o 0x0C0004 a
def execRoverRelease (o : Origin) (a : SvcArgs) (s : State) : Res := s.act fun s => s.callSvc o 0x0C0005 a
def execKnotResolve (o : Origin) (a : SvcArgs) (s : State) : Res := s.act fun s => s.callSvc o 0x0C0006 a
def execCorridorClose (o : Origin) (a : SvcArgs) (s : State) : Res := s.act fun s => s.callSvc o 0x0C0007 a
def execCorridorOpen (o : Origin) (a : SvcArgs) (s : State) : Res := s.act fun s => s.callSvc o 0x0C0008 a
def execDeclareStop (o : Origin) (a : SvcArgs) (s : State) : Res := s.act fun s => s.callSvc o 0x0D0001 a
def execTrigArm (o : Origin) (a : SvcArgs) (s : State) : Res := s.act fun s => s.callSvc o 0x0E0001 a
def execTrigEmit (o : Origin) (a : SvcArgs) (s : State) : Res := s.act fun s => s.callSvc o 0x0E0002 a
def execTrigRead (o : Origin) (a : SvcArgs) (s : State) : Res := s.act fun s => s.callSvc o 0x0E0003 a
def execCalRead (o : Origin) (a : SvcArgs) (s : State) : Res := s.act fun s => s.callSvc o 0x0F0001 a
def execHarmRead (o : Origin) (a : SvcArgs) (s : State) : Res := s.act fun s => s.callSvc o 0x100001 a
def execDemandReset (o : Origin) (a : SvcArgs) (s : State) : Res := s.act fun s => s.callSvc o 0x100002 a
def execStationDiag (o : Origin) (a : SvcArgs) (s : State) : Res := s.act fun s => s.callSvc o 0x110001 a
def execDaliArc (o : Origin) (a : SvcArgs) (s : State) : Res := s.act fun s => s.callSvc o 0x120001 a
def execDaliCmd (o : Origin) (a : SvcArgs) (s : State) : Res := s.act fun s => s.callSvc o 0x120002 a
def execDaliQuery (o : Origin) (a : SvcArgs) (s : State) : Res := s.act fun s => s.callSvc o 0x120003 a
def execLogEvent (o : Origin) (a : SvcArgs) (s : State) : Res := s.act fun s => s.callSvc o 0x190001 a

end Sys2Proof.Machine
end

