-- ==== Sys2Proof/Machine/Program.lean ====
section
/-!
DEFINITION. The program package (R109 to R112, R122, R177), bringing one into force, engineering change (R153 to R159, R163),
change sets (R149 to R152), forces (R160 to R164), watches (R143) and retained data (R144 to R148).
-/
namespace Sys2Proof.Machine

/-! ### When a package is valid (R111, R122, R129, R144, R177, R337) -/

/-- Word-readable areas (Table 04.2). -/
def wordAreas : List Nat := [3, 4, 5, 6, 7, 8, 9, 10, 11, 12, 13, 14]

/-- What Table 04.5 allows an opcode: whether it takes no operand, whether an immediate, and the areas of its operand. -/
structure OpRow where
  bare : Bool := false
  imm : Bool := false
  areas : List Nat := []

def opRow (opc : Nat) : Option OpRow :=
  match opc with
  | 0x00 | 0x08 | 0x09 | 0x0A | 0x0B | 0x1B | 0x34 | 0x39 => some { bare := true }
  | 0x01 | 0x02 | 0x03 | 0x04 | 0x05 | 0x06 | 0x07 => some { areas := [0, 1, 2, 7, 8] }
  | 0x0C | 0x0D => some { areas := [2] }
  | 0x0E | 0x0F | 0x10 | 0x11 => some { areas := [1, 2] }
  | 0x12 | 0x1A => some { areas := [4, 5, 10] }
  | 0x13 | 0x14 | 0x15 => some { areas := [7] }
  | 0x16 | 0x17 | 0x18 => some { areas := [8] }
  | 0x30 | 0x31 | 0x32 | 0x33 | 0x37 | 0x38 => some { imm := true }
  | 0x35 => some { areas := [5, 6] }
  | 0x36 => some { areas := wordAreas }
  | n => if n = 0x19 || (0x1C ≤ n && n ≤ 0x2F) then some { imm := true, areas := wordAreas } else none

/-- An immediate lies in the range its row states. -/
def immOk (opc opnd len : Nat) : Bool :=
  match opc with
  | 0x2E => decide (opnd < 2 ^ 20)
  | 0x30 | 0x31 | 0x32 | 0x33 => decide (opnd < len)
  | 0x37 => decide (opnd < 8)
  | 0x38 => (svcD opnd).isSome
  | _ => true

/-- R177 for one instruction word of a section of `len` instructions with the areas of its link table. -/
def instrOk (links : List (Option Nat)) (len w : Nat) : Bool :=
  let opc := w / 2 ^ 26
  let mode := bits w 25 24
  let opnd := w % 2 ^ 24
  let area := opnd / 2 ^ 20
  match opRow opc with
  | none => false
  | some r =>
    if r.bare then mode = 2 && opnd = 0
    else match mode with
      | 0 => r.areas.contains area && decide (opnd % 2 ^ 20 < areaSize area)
      | 1 => r.areas.contains area
      | 2 => r.imm && immOk opc opnd len
      | _ => match links.getD opnd none with
        | some a => r.areas.contains a
        | none => false

def Package.sym (p : Package) (id : Nat) : Option Symbol := p.symbols.find? (fun y => y.id = id)

/-- The sections that the package has code for. -/
def Package.has (p : Package) (k : Nat) : Bool := decide (k < 4) && decide (p.code.getD k [] ≠ [])

def Package.sectOk (p : Package) (k : Nat) : Bool :=
  let c := p.code.getD k []
  let links := (p.links.getD k []).map fun i => (p.sym i).map Symbol.area
  decide (c.length ≤ 131072) && decide (links.length ≤ 65536) && c.all (instrOk links c.length)

/-- The element after the last of a range that the map assigns: the exchange areas belong by R125, whatever the map says. -/
def OwnRange.stop (r : OwnRange) : Nat :=
  if r.area = Area.d then Nat.min (r.first + r.count) exchBase else r.first + r.count

/-- Two ranges share an element that the map assigns. -/
def OwnRange.meets (r q : OwnRange) : Bool :=
  r.area = q.area && decide (Nat.max r.first q.first < Nat.min r.stop q.stop)

/-- No element belongs to two sections (R122). -/
def ownsOk : List OwnRange → Bool
  | [] => true
  | r :: l => l.all (fun q => q.sect = r.sect || !r.meets q) && ownsOk l

/-- A Cleat station map as the bus allows it (Table 12.1, R337). -/
def StationPlan.ok (x : StationPlan) : Bool :=
  decide (x.st < 128) && decide (x.o ≤ 64) && decide (x.i ≤ 64) && decide (2 ≤ x.wdog) && decide (x.wdog ≤ 255)
    && x.ins.all (fun m => (m.area = 0 && decide (m.off + 8 * m.n ≤ 32768))
      || (m.area = 3 && decide (m.off < 7680) && decide (m.n ≤ 4)))
    && x.outs.all (fun m => (m.area = 1 && decide (m.off + 8 * m.n ≤ 32768)) || (m.area = 4 && decide (m.off < 8192) && decide (m.n ≤ 4)))

/-- The owner root that verifies packages is selected (R154). -/
def State.rootChosen (s : State) : Bool := s.keys.life = .provisioned || s.keys.life = .deployed

/-- A package is valid (R111). -/
def State.pkgOk (s : State) (p : Package) : Bool :=
  s.rootChosen && p.verified && decide (1 ≤ p.len) && decide (p.len ≤ 100) && decide (p.code.length ≤ 4)
    && (List.range 4).any p.has && (List.range 4).all p.sectOk && ownsOk p.owns
    && decide (p.retained.length ≤ 131072) && p.stations.all StationPlan.ok

/-- The station plan fits (R129): a port without stations takes no time. -/
def Package.planFits (p : Package) (deadline retry : Nat) : Bool :=
  (List.range 4).all fun q => p.port q = [] || decide (exchangeTime (p.port q) retry ≤ 10000 - deadline)

/-- The station plan fits under the DEADLINE and RETRY in force. -/
def State.planOk (s : State) (p : Package) : Bool :=
  p.planFits (s.get (F.FRM_DCLS_DEADLINE_DEADLINE.at 0)) (s.get F.CLB_CFG_RETRY)

/-- In a pair every station watchdog spans at least four frames (R130). -/
def State.watchdogsOk (s : State) (p : Package) : Bool :=
  !s.flag F.SPL_CFG_PAIR || p.stations.all fun x => decide (4 ≤ x.wdog * p.len)

/-! ### Bringing a package into force -/

/-- The values a package gives its elements at the start: D, K, M, Q, QW and the input words. -/
def Package.initial (p : Package) : SMap Nat := p.init.foldl (fun (m : SMap Nat) q => SMap.put 0 m q.1 q.2) []
def inputKey (k : Nat) : Bool := k / 2 ^ 20 = Area.i || k / 2 ^ 20 = Area.iw

/-- A station's octets as elements of the input images. -/
def stationInputs (x : StationPlan) (data : List Nat) (m : SMap Nat) : SMap Nat :=
  x.ins.foldl (fun (m : SMap Nat) y =>
    if y.area = Area.i then
      (List.range (8 * y.n)).foldl (fun (m : SMap Nat) j =>
        SMap.put 0 m (areaKey Area.i (y.off + j)) (data.getD (y.oct + j / 8) 0 / 2 ^ (j % 8) % 2)) m
    else SMap.put 0 m (areaKey Area.iw y.off) (ofLe ((data.drop y.oct).take y.n))) m

/-- The sections of a package, each waiting at its first instruction. Slots, result blocks and serials are kept (R206), and so is the
account of the cycle that ended, which the next input latch shows (R123, R197, R209). -/
def sectsFor (p : Package) (bank : Nat → Nat) (old : List Sect) : List Sect :=
  (List.range 4).map fun k =>
    let x : Sect := old.getD k {}
    { st := if p.has k then .waiting else .absent, bank := bank k
      slots := x.slots, lastSlot := x.lastSlot, serial := x.serial, xblk := x.xblk, rangeTot := x.rangeTot
      range := x.range, refused := x.refused, foreign := x.foreign, trap := x.trap, trapRun := x.trapRun }

/-- A Plinth engine without a section is held in reset and masked (R109). -/
def State.maskPlinth (s : State) : State :=
  (List.range 4).foldl (fun (s : State) k => if s.hasSect k then s.unmask (2 + k) else if s.gal.masked.contains (2 + k) then s else s.sideband (2 + k)) s

/-- Forces on symbols that the package lacks are not held (R163). -/
def State.dropForces (s : State) (p : Package) : State :=
  s.modProg fun x => { x with forces := x.forces.filter fun f => (p.sym f.sym).isSome }

/-- A forced element of M, D, T or C takes the forced value (R160). -/
def State.forceElem (s : State) (y : Symbol) (v : Nat) : State :=
  if y.area = Area.t then s.modProg fun p => { p with
    timers := SMap.insert p.timers y.off { SMap.getD p.timers y.off {} with et := v, rem := 0 }
    pre := p.pre.map fun q => (SMap.insert q.1 y.off { SMap.getD q.1 y.off {} with et := v, rem := 0 }, q.2) }
  else if y.area = Area.c then s.modProg fun p => { p with
    counters := SMap.insert p.counters y.off { SMap.getD p.counters y.off {} with cv := BitVec.ofNat 32 v } }
  else if y.area = Area.m || y.area = Area.d then s.modProg fun p => { p with areas := SMap.put 0 p.areas (areaKey y.area y.off) v }
  else s

def State.applyForces (s : State) : State :=
  s.prog.forces.foldl (fun (s : State) f => match s.symbol f.sym with
    | some y => s.forceElem y f.value
    | none => s) s

/-- A package comes into force with initial values, its code in bank 0 (R102 step 11, R154). -/
def State.installPkg (s : State) (p : Package) : State :=
  let s := s.modProg fun x => { x with
    pkg := some p, prev := none, loaded := none, newPkg := none, sects := sectsFor p (fun _ => 0) x.sects
    areas := p.initial.filter (fun q => !inputKey q.1), raw := p.initial.filter (fun q => inputKey q.1)
    under := [], inputs := [], pre := none, timers := [], counters := [], stations := []
    begun := false, running := false, halted := false, short := false, hit := none, deadlinePast := false, deferred := false }
  ((s.put F.PLX_RETAIN_WORDS p.retained.length).maskPlinth.dropForces p).applyForces

/-! ### Retained data (R144 to R148) -/

/-- Write a list of key and value pairs into the areas. -/
def State.putAreas (s : State) (l : SMap Nat) : State :=
  s.modProg fun p => { p with areas := l.foldl (fun (m : SMap Nat) q => SMap.put 0 m q.1 q.2) p.areas }

/-- The octets of retained words, in the order of their offsets. -/
def retOctets (w : SMap Nat) : List Nat := w.flatMap fun e => leBytes 4 e.2

/-- A complete copy: the header is written after the words it covers. -/
def RetCopy.whole (count : Nat) (w : SMap Nat) (fail : Bool) : RetCopy :=
  { valid := true, count := count, words := w, crc := crc32c (retOctets w), fail := fail }

/-- A copy whose header matches its words. -/
def RetCopy.ok (c : RetCopy) : Bool := c.valid && c.crc = crc32c (retOctets c.words)

/-- The newer valid copy. -/
def Prog.newerCopy (p : Prog) : Option RetCopy :=
  match p.ret0.ok, p.ret1.ok with
  | true, true => some (if p.ret0.count < p.ret1.count || (p.ret0.count = p.ret1.count && p.ret1.fail) then p.ret1 else p.ret0)
  | true, false => some p.ret0
  | false, true => some p.ret1
  | _, _ => none

/-- Put a copy into the older half of the region. -/
def Prog.putCopy (p : Prog) (c : RetCopy) : Prog :=
  let first := if !p.ret0.valid then true else if !p.ret1.valid then false else decide (p.ret0.count ≤ p.ret1.count)
  if first then { p with ret0 := c } else { p with ret1 := c }

/-- RETAINED_SAVE: the words, then the header; a save cut short leaves the other copy intact (R145). -/
def State.retainedSave (s : State) (cut : Option Nat) : State :=
  if !s.prog.saveDue then s
  else match cut with
    | some n => s.modProg fun p => p.putCopy { valid := false, words := p.saveWords.take n }
    | none =>
      let os := s.prog.saveBy
      let s := s.modProg fun p => { p.putCopy (RetCopy.whole p.saveCount p.saveWords false) with
        saveDue := false, saveAuto := false, saveBy := [], saveWords := [] }
      s.finishAll os St.done

def execRetainedSave (cut : Option Nat) (s : State) : Res := s.act fun s => s.retainedSave cut

/-- The save of the power-fail flush: the retained words of the last commit (R146). -/
def State.retainedFlush (s : State) : State :=
  if s.prog.pkg.isNone then s
  else
    let w := s.retainedNow
    s.modProg fun p => p.putCopy (RetCopy.whole p.total w true)

/-- PFW_N is high again without a restart: no copy is the save of a power-fail any more. -/
def State.retainedResume (s : State) : State := s.modProg fun p => { p with
  ret0 := { p.ret0 with fail := false }, ret1 := { p.ret1 with fail := false } }

/-- The words of a copy that the program in force declares RETAINED take their saved values (R147). -/
def State.restoreRetained (s : State) : State :=
  match s.prog.pkg with
  | none => s
  | some p =>
    let ks := p.retained
    match s.prog.newerCopy with
    | some c =>
      let s := s.put F.PLX_RETAIN_AGE_AGE (if c.fail then 0 else s.prog.retBase - c.count)
      (s.putAreas (c.words.filter fun q => ks.contains q.1)).retainedResume
    | none =>
      if ks = [] then s
      else (s.putB F.PLX_STAT_RETAIN_LOST true).log Sev.error 0 F.PLX_STAT_RETAIN_LOST []

/-! ### Loading (R110, R153, R154, R166) -/

/-- What a LOAD answers before it starts (Table 03.3, R153, R154). -/
def State.loadRefusal (s : State) : Option Nat :=
  let have_ := s.prog.pkg.isSome
  if s.get F.PLX_CHG_STATE ≠ Chg.idle || s.prog.newPkg.isSome then some St.changeActive
  else if have_ && !(s.mode = .run || s.mode = .stop || s.mode = .hold) then some St.mode
  else if !have_ && !decide (s.mode = .stop) then some St.mode
  else none

/-- LOAD: the code goes to the inactive banks, or to bank 0 while no package is in force; the previous program's banks are lost. -/
def State.load (s : State) (o : Origin) (c : Nat) (p : Package) : State × Nat :=
  match s.loadRefusal with
  | some st => (s, st)
  | none =>
    let s := (s.setChange Chg.loading St.pending).put F.PLX_CHG_OWNER c
    (s.modProg fun x => { x with loaded := some p, prev := none, loadBy := o }, St.pending)

def State.loadEnd (s : State) (chg st : Nat) (keep : Bool) : State :=
  let o := s.prog.loadBy
  let s := (s.setChange chg st).modProg fun x => { x with loaded := if keep then x.loaded else none, loadBy := .quiet }
  let s := if chg = Chg.idle then s.put F.PLX_CHG_OWNER 1023 else s
  s.finish o st []

/-- LOAD_COMPLETE (Table 03.3). Without a package in force the change is IDLE at once; its DONE waits for its commit point. -/
def State.loadComplete (s : State) : State :=
  match s.prog.loaded with
  | none => s
  | some p =>
    if s.get F.PLX_CHG_STATE ≠ Chg.loading then s
    else if !s.pkgOk p then s.loadEnd Chg.idle St.bankInvalid false
    else if !s.planOk p || !s.watchdogsOk p then s.loadEnd Chg.idle St.badArg false
    else if s.prog.pkg.isSome then (s.modSpl fun x => { x with loadMark := x.serial + 1 }).loadEnd Chg.loaded St.done true
    else ((s.storePackage p).put F.PLX_CHG_STATE Chg.idle).modProg fun x => { x with newPkg := some p, loaded := none }

def execLoadComplete (s : State) : Res := s.act State.loadComplete

/-- The first package comes into force at the frame boundary (R154). -/
def State.loadBoundary (s : State) : State :=
  match s.prog.newPkg with
  | none => s
  | some p => (s.installPkg p).loadEnd Chg.idle St.done false

/-! ### The switch (R153 to R159, R163) -/

/-- What becomes of the old program's variables: those carried, those retyped, and those removed (Table 03.4). -/
def carriedSyms (p q : Package) : List (Symbol × Symbol) :=
  p.symbols.filterMap fun y => match q.sym y.id with
    | some z => if z.typ = y.typ then some (y, z) else none
    | none => none
def retypedSyms (p q : Package) : List Nat :=
  (p.symbols.filter fun y => match q.sym y.id with | some z => decide (z.typ ≠ y.typ) | none => false).map Symbol.id
def removedSyms (p q : Package) : List Nat := (p.symbols.filter fun y => (q.sym y.id).isNone).map Symbol.id

/-- A force is kept (R163). -/
def forceKept (p q : Package) (f : Force) : Bool :=
  match p.sym f.sym, q.sym f.sym with
  | some y, some z => z.typ = y.typ && !z.safety
  | _, _ => false

/-- The switch report: its registers, and the list that REPORT returns: retyped (1), removed (2) and dropped forces (3). DESIGN CHOICE
(log entry 102): FORCES_KEPT, 10 bits, reads 1,023 where all 1,024 forces are kept. -/
def State.buildReport (s : State) (p q : Package) : State :=
  let c := (carriedSyms p q).length
  let rt := retypedSyms p q
  let rm := removedSyms p q
  let drop := (s.prog.forces.filter fun f => !forceKept p q f).map Force.sym
  let s := s.put F.PLX_CHG_REP0_CARRIED c
  let s := (s.put F.PLX_CHG_REP1_RETYPED (min 65535 rt.length)).put F.PLX_CHG_REP1_REMOVED (min 65535 rm.length)
  let s := (s.put F.PLX_CHG_REP2_FORCES_DROPPED (min 1023 drop.length)).put F.PLX_CHG_REP2_FORCES_KEPT
    (min 1023 (s.prog.forces.length - drop.length))
  let s := s.put F.PLX_CHG_REP3_CARRY_US (min 4095 (Config.carryTime c rt.length))
  s.modProg fun x => { x with
    report := rt.flatMap (fun i => [1, i]) ++ rm.flatMap (fun i => [2, i]) ++ drop.flatMap (fun i => [3, i]) }

/-- A session may continue the change: it owns it, or the change has no owner (R158). -/
def State.ownsChange (s : State) (c : Nat) : Bool := s.get F.PLX_CHG_OWNER = c || s.get F.PLX_CHG_OWNER = 1023

/-- The Follower holds the same package as the Lead (R166): it is in sync, its heartbeat is there, and it has acknowledged a copy made
since the LOAD completed. -/
def State.pairReady (s : State) : Bool :=
  s.role ≠ .lead || (s.spl.hbSync = 2 && s.flag F.SPL_STAT_PARTNER_HB && decide (s.spl.loadMark ≤ s.spl.serial)
    && s.spl.unacked.all fun u => decide (s.spl.loadMark < u))

/-- PREPARE. -/
def State.prepare (s : State) (c : Nat) : State × Nat :=
  match s.prog.pkg, s.prog.loaded with
  | none, _ => (s, St.mode)
  | some p, some q =>
    if s.get F.PLX_CHG_STATE ≠ Chg.loaded then (s, St.mode)
    else if !s.ownsChange c then (s, St.changeActive)
    else
      let n := (carriedSyms p q).length
      let st := if 2000 < Config.carryTime n (retypedSyms p q).length then St.carryTooLarge
        else if !s.pairReady then St.pairNotReady else St.done
      let s := s.put F.PLX_CHG_OWNER c
      if st = St.done then ((s.buildReport p q).setChange Chg.prepared st, st) else (s.put F.PLX_CHG_STATUS st, st)
  | some _, none => (s, St.mode)

/-- A switch waits for its boundary (R155). -/
def State.scheduleSwitch (s : State) (o : Origin) (c : Nat) : State :=
  let t := s.mono
  ((s.setChange Chg.pending St.pending).put F.PLX_CHG_OWNER c).modProg fun p => { p with switchAt := some t, switchBy := o }

/-- SWITCH. -/
def State.switchReq (s : State) (o : Origin) (c : Nat) : State × Nat :=
  if s.prog.pkg.isNone || s.get F.PLX_CHG_STATE ≠ Chg.prepared || !(s.mode = .run || s.mode = .stop) then (s, St.mode)
  else if !s.ownsChange c then (s, St.changeActive)
  else (s.scheduleSwitch o c, St.pending)

/-- REVERT: the previous banks become the change, and the switch back is scheduled. -/
def State.revertReq (s : State) (o : Origin) (c : Nat) : State × Nat :=
  match s.prog.pkg, s.prog.prev with
  | some p, some q =>
    if s.get F.PLX_CHG_STATE ≠ Chg.idle then (s, St.changeActive)
    else if !(s.mode = .run || s.mode = .stop) then (s, St.mode)
    else (((s.buildReport p q).modProg fun x => { x with loaded := some q, prev := none }).scheduleSwitch o c, St.pending)
  | _, _ => (s, if s.get F.PLX_CHG_STATE ≠ Chg.idle && s.prog.pkg.isSome then St.changeActive else St.mode)

/-- DISCARD. -/
def State.discard (s : State) (c : Nat) : State × Nat :=
  if s.get F.PLX_CHG_STATE ≠ Chg.loaded && s.get F.PLX_CHG_STATE ≠ Chg.prepared then (s, St.mode)
  else if !s.ownsChange c then (s, St.changeActive)
  else (((s.setChange Chg.idle St.done).put F.PLX_CHG_OWNER 1023).modProg fun x => { x with loaded := none }, St.done)

/-- Move the values of the carried variables to their places in the new program. -/
def carryMap (l : List (Symbol × Symbol)) (old new : SMap Nat) : SMap Nat :=
  l.foldl (fun (m : SMap Nat) y =>
    if y.1.area = Area.t || y.1.area = Area.c then m
    else SMap.put 0 m (areaKey y.2.area y.2.off) (SMap.getD old (areaKey y.1.area y.1.off) 0)) new

def carryElems {α : Type} (area : Nat) (l : List (Symbol × Symbol)) (old : SMap α) : SMap α :=
  l.foldl (fun (m : SMap α) y => if y.1.area ≠ area || y.2.area ≠ area then m else match SMap.get? old y.1.off with
    | some t => SMap.insert m y.2.off t
    | none => m) []

/-- The program's own values of outputs: those that a force hides. -/
def Prog.ownValues (p : Prog) : SMap Nat := p.under.foldl (fun (m : SMap Nat) q => SMap.put 0 m q.1 q.2) p.areas

/-- Output forces: the forced value is what is committed; the program's own value is kept beneath it (R160). -/
def State.forceOutputs (s : State) : State :=
  s.modProg fun p =>
    let own := p.ownValues
    let l := (p.forces.filterMap fun f => match p.pkg with
      | some k => (k.sym f.sym).map fun y => (y, f.value)
      | none => none).filter fun e => e.1.area = Area.q || e.1.area = Area.qw
    { p with
      under := l.foldl (fun (m : SMap Nat) e => SMap.insert m (areaKey e.1.area e.1.off) (SMap.getD own (areaKey e.1.area e.1.off) 0)) []
      areas := l.foldl (fun (m : SMap Nat) e => SMap.put 0 m (areaKey e.1.area e.1.off) e.2) own }

/-- The switch at its boundary (R121, R156, R157, R163). -/
def State.doSwitch (s : State) (p q : Package) : State :=
  let l := carriedSyms p q
  let s := s.buildReport p q
  let o := s.prog.switchBy
  let ini := q.initial
  let s := s.modProg fun x => { x with
    pkg := some q, prev := some p, loaded := none, switchAt := none, switchBy := .quiet
    sects := sectsFor q (fun k => 1 - (x.sects.getD k {}).bank) x.sects
    areas := carryMap (l.filter fun y => !inputKey (areaKey y.1.area 0)) x.ownValues (ini.filter fun e => !inputKey e.1)
    raw := carryMap (l.filter fun y => inputKey (areaKey y.1.area 0)) x.raw (ini.filter fun e => inputKey e.1)
    under := [], pre := none, timers := carryElems Area.t l x.timers, counters := carryElems Area.c l x.counters
    stations := x.stations.filter fun e => q.stations.any fun y => decide (y.st = e.1)
    forces := x.forces.filter (forceKept p q)
    afterSwitch := true }
  let s := s.modProg fun x => { x with
    raw := q.stations.foldl (fun (m : SMap Nat) y =>
      if (SMap.getD x.stations y.st {}).inputs = [] then m else stationInputs y (SMap.getD x.stations y.st {}).inputs m) x.raw }
  let s := ((s.put F.PLX_RETAIN_WORDS q.retained.length).maskPlinth.applyForces.forceOutputs).storePackage q
  (((s.setChange Chg.idle St.done).put F.PLX_CHG_OWNER 1023)).finish o St.done []

/-- The switch is due at a cycle boundary of both programs that follows the request by at least one frame, and at which the new
program's first cycle can start (R155). -/
def State.switchWork (s : State) (skipped : Bool) : State :=
  match s.prog.switchAt, s.prog.pkg, s.prog.loaded with
  | some t, some p, some q =>
    if s.get F.PLX_CHG_STATE = Chg.pending && !skipped && !s.prog.begun && s.num % p.len = 0 && s.num % q.len = 0
        && decide (t + frameNs ≤ s.mono) then s.doSwitch p q else s
  | _, _, _ => s

/-! ### Change sets (R149 to R152, R159) -/

/-- The value of a symbol as a number to compare with its limits. -/
def symInt (v : Nat) : Int := toInt 32 (v % 2 ^ 32)

/-- What refuses a change set: the first failure. -/
def State.changeRefusal (s : State) : List (Nat × Nat) → Option Nat
  | [] => none
  | (id, v) :: l =>
    match s.symbol id with
    | none => some St.noSymbol
    | some y =>
      if !y.tunable || (y.area ≠ Area.d && y.area ≠ Area.k) then some St.notTunable
      else if symInt v < y.lo || y.hi < symInt v then some St.outOfLimits
      else s.changeRefusal l

/-- CHANGE_SET. -/
def State.changeSet (s : State) (o : Origin) (pairs : List (Nat × Nat)) : State × Nat :=
  if !s.live || !(s.mode = .stop || s.mode = .run || s.mode = .hold) then (s, St.mode)
  else if pairs = [] || decide (64 < pairs.length) then (s, St.badArg)
  else match s.changeRefusal pairs with
    | some st => (s, st)
    | none => (s.modProg fun p => { p with changes := p.changes ++ [{ pairs := pairs, by_ := o }] }, St.pending)

/-- A set that falls due is checked against the program in force, and applied or refused whole; a forced element keeps its value (R160). -/
def State.applyChange (s : State) (c : ChangeSet) : State :=
  match s.changeRefusal c.pairs with
  | some st => s.finish c.by_ st []
  | none =>
    (c.pairs.foldl (fun (s : State) q => match s.symbol q.1 with
      | some y => if (s.forcedAt y.area y.off).isSome then s else s.putAreas [(areaKey y.area y.off, q.2 % 2 ^ 32)]
      | none => s) s).finish c.by_ St.done []

def State.changesDue (s : State) : State :=
  let l := s.prog.changes
  l.foldl State.applyChange (s.modProg fun p => { p with changes := [] })

/-! ### Forces (R160 to R164) -/

def forceable (a : Nat) : Bool := a = 0 || a = 1 || a = 2 || a = 3 || a = 4 || a = 5 || a = 7 || a = 8
def bitArea (a : Nat) : Bool := a = 0 || a = 1 || a = 2

/-- Symbols forced once every change that waits has been made. -/
def State.forcesToBe (s : State) : List Nat :=
  s.prog.forceReqs.foldl (fun (l : List Nat) r => if r.value.isSome then insertN l r.sym else removeN l r.sym)
    ((s.prog.forces.map Force.sym).foldl insertN [])

/-- FORCE set. -/
def State.forceSet (s : State) (o : Origin) (id v : Nat) : State × Nat :=
  if !s.live || !(s.mode = .stop || s.mode = .run || s.mode = .hold) then (s, St.mode)
  else match s.symbol id with
    | none => (s, St.noSymbol)
    | some y =>
      if y.safety || !forceable y.area then (s, St.notForceable)
      else if !s.forcesToBe.contains id && decide (1024 ≤ s.forcesToBe.length) then (s, St.forceFull)
      else
        let v := if bitArea y.area then v % 2 else v % 2 ^ 32
        (s.modProg fun p => { p with forceReqs := p.forceReqs ++ [{ sym := id, value := some v, by_ := o }] }, St.pending)

/-- FORCE clear. -/
def State.forceClear (s : State) (o : Origin) (id : Nat) : State × Nat :=
  if !s.live || !(s.mode = .stop || s.mode = .run || s.mode = .hold) then (s, St.mode)
  else match s.symbol id with
    | none => (s, St.noSymbol)
    | some _ =>
      if !s.forcesToBe.contains id then (s, St.done)
      else (s.modProg fun p => { p with forceReqs := p.forceReqs ++ [{ sym := id, value := none, by_ := o }] }, St.pending)

/-- One force change, checked against the program in force (R161): an element whose force is cleared keeps the forced value as its own. -/
def State.forceChange (s : State) (r : ForceReq) : State :=
  match s.symbol r.sym with
  | none => s.finish r.by_ St.noSymbol []
  | some y =>
    if r.value.isSome && (y.safety || !forceable y.area) then s.finish r.by_ St.notForceable [] else
    let old := s.prog.forces.find? fun f => f.sym = r.sym
    let s := match r.value, old with
      | some v, _ =>
        let s := s.modProg fun p => { p with
          forces := (p.forces.filter fun (f : Force) => f.sym ≠ r.sym) ++ [({ sym := r.sym, value := v } : Force)] }
        s.forceElem y v
      | none, some f => (s.forceElem y f.value).modProg fun p => { p with forces := p.forces.filter fun f => f.sym ≠ r.sym }
      | none, none => s
    s.finish r.by_ St.done []

def State.forcesDue (s : State) : State :=
  let l := s.prog.forceReqs
  l.foldl State.forceChange (s.modProg fun p => { p with forceReqs := [] })

/-! ### Watches (R143) -/

/-- The committed value of a symbol. -/
def State.symVal (s : State) (y : Symbol) : Nat :=
  if y.area = Area.t then (SMap.getD s.prog.timers y.off {}).et
  else if y.area = Area.c then (SMap.getD s.prog.counters y.off {}).cv.toNat
  else if y.area = Area.i || y.area = Area.iw || y.area = Area.n || y.area = Area.f || y.area = Area.e then s.input y.area y.off
  else if y.area = Area.s then s.sysWord y.off
  else s.committed y.area y.off

/-- Every watch is sampled at a commit point. -/
def State.sampleWatches (s : State) : State :=
  let v := s.prog.watches.filterMap fun w => (s.symbol w.2).map fun y => (w.1, s.symVal y)
  s.modProg fun p => { p with watchVals := v.foldl (fun (m : SMap Nat) q => SMap.insert m q.1 q.2) p.watchVals }

/-- WATCH add: the watch's number. -/
def State.watchAdd (s : State) (id : Nat) : State × Nat × List Nat :=
  if (s.symbol id).isNone then (s, St.noSymbol, [])
  else match (List.range 64).find? fun k => !s.prog.watches.any fun w => w.1 = k with
    | none => (s, St.busy, [])
    | some k => (s.modProg fun p => { p with watches := p.watches ++ [(k, id)], watchVals := SMap.erase p.watchVals k }, St.done, [k])

def State.watchRemove (s : State) (k : Nat) : State × Nat :=
  if s.prog.watches.any (fun w => w.1 = k) then
    (s.modProg fun p => { p with watches := p.watches.filter fun w => w.1 ≠ k, watchVals := SMap.erase p.watchVals k }, St.done)
  else (s, St.badArg)

def State.watchRead (s : State) : List Nat :=
  s.prog.watches.flatMap fun w => [w.1, w.2, SMap.getD s.prog.watchVals w.1 0]

end Sys2Proof.Machine
end

