-- ==== Sys2Proof/Machine/Cycle.lean ====
section
/-!
DEFINITION. The program cycle (R113 to R136), the Cleat exchange (R126 to R132, R515 to R518), breakpoints and stepping (R137 to
R142), and the input latch with the system words (R115, R169, R202 to R204, R209).
-/
namespace Sys2Proof.Machine

/-! ### The output image -/

/-- The length of a cycle in frames. -/
def State.cycLen (s : State) : Nat := match s.prog.pkg with | some p => Nat.max 1 p.len | none => 1

/-- Every section of the cycle in progress has reached END. -/
def State.allEnded (s : State) : Bool :=
  (List.range 4).all fun k => !s.hasSect k || (s.sect k).ended

/-- A key of M or D whose element is forced: what a section wrote to it before the force is discarded (R160). -/
def State.keptByForce (s : State) (key : Nat) : Bool :=
  let a := key / 2 ^ 20
  (a = Area.m || a = Area.d) && (s.forcedAt a (key % 2 ^ 20)).isSome

/-- The writes of the sections that commit: those of a trapped section do not (R196), nor those to a forced element. -/
def State.cycleWork (s : State) : SMap Nat :=
  (List.range 4).foldl (fun (m : SMap Nat) k =>
    if (s.sect k).trap.isSome then m else (s.sect k).work.foldl (fun (m : SMap Nat) q =>
      if s.keptByForce q.1 then m else SMap.put 0 m q.1 q.2) m) s.prog.ownValues

/-- A complete cycle waits for its boundary; a cycle whose commit a realignment deferred has no exchange before it (R636). -/
def State.commitUnit (s : State) : Bool :=
  s.mode = .run && s.prog.begun && s.prog.hit.isNone && s.allEnded && !s.prog.deferred

/-- The value of an output that an exchange carries (R126 to R128, R160). -/
def State.outValue (s : State) (work : Option (SMap Nat)) (area off : Nat) : Nat :=
  match s.forcedAt area off with
  | some v => if s.mode = .stop || work.isSome then v else s.committed area off
  | none =>
    if s.mode = .stop then
      match s.prog.pkg with
      | some p => ((p.symbols.find? fun y => y.area = area && y.off = off).bind Symbol.stopVal).getD 0
      | none => 0
    else match work with
      | some m => SMap.getD m (areaKey area off) 0
      | none => s.committed area off

/-- The output octets of a station. -/
def State.outOctets (s : State) (work : Option (SMap Nat)) (x : StationPlan) : List Nat :=
  (List.range x.o).map fun k =>
    match x.outs.find? fun m => decide (m.oct ≤ k) && decide (k < m.oct + m.n) with
    | none => 0
    | some m =>
      if m.area = Area.q then
        sumN ((List.range 8).map fun b => s.outValue work Area.q (m.off + 8 * (k - m.oct) + b) % 2 * 2 ^ b)
      else s.outValue work Area.qw m.off / 2 ^ (8 * (k - m.oct)) % 256

/-! ### The Cleat exchange (Tables 03.2 and 12.1) -/

/-- What the attempts of one exchange gave for a station: the good reply, CRC errors, missing replies, attempts left. -/
structure Attempt where
  st : Nat
  good : Option Reply := none
  crc : Nat := 0
  missing : Nat := 0
  left : List (Option (Option Reply)) := []

def Attempt.next (a : Attempt) : Attempt :=
  match a.left with
  | [] => { a with missing := a.missing + 1 }
  | none :: l => { a with missing := a.missing + 1, left := l }
  | some none :: l => { a with crc := a.crc + 1, left := l }
  | some (some r) :: l => { a with good := some r, left := l }

/-- The retry slots: each goes to the next failing station above the last one served, wrapping to the lowest (R516). -/
def retries : Nat → Option Nat → List Attempt → List Nat → List Attempt × List Nat
  | 0, _, l, sent => (l, sent)
  | n + 1, last, l, sent =>
    let fail := (l.filter fun a => a.good.isNone).map Attempt.st
    match (fail.filter fun x => match last with | some y => decide (y < x) | none => true) ++ fail with
    | [] => (l, sent)
    | x :: _ => retries n (some x) (l.map fun a => if a.st = x then a.next else a) (sent ++ [x])

def sliceCtl (x : Station) : Nat := (if x.st = 2 then 0x80 else 0) + (if x.st = 3 then 0x40 else 0) + (if x.st = 0 then 0x20 else 0)

/-- The next state of a station after an exchange (Table 03.2); `out` is what its slice carried. DESIGN CHOICE (log entry 100): the reply
that acknowledges ENABLE makes the station ONLINE, and SAFE is 0 from then on whatever that reply's STAT.SAFE; the next reply sets it. -/
def Station.after (x : Station) (out : List Nat) (a : Attempt) : Station × Option (List Nat) :=
  let x := { x with diag := [satAdd (2 ^ 32 - 1) (x.diag.getD 0 0) a.crc, satAdd (2 ^ 32 - 1) (x.diag.getD 1 0) a.missing] }
  match a.good with
  | none => ({ x with st := 1, stale := x.stale || decide (x.st = 0) }, none)
  | some r =>
    let safe := bit r.stat 7
    let x := { x with statOct := r.stat % 256 }
    match x.st with
    | 0 => ({ x with safe := safe }, some r.inputs)
    | 1 => ({ x with st := 2, safe := x.safe || safe }, none)
    | 2 => ({ x with st := if r.chk = crc16 out then 3 else 1, safe := x.safe || safe }, none)
    | _ => if bit r.stat 6 then ({ x with st := 0, safe := false }, some r.inputs) else ({ x with st := 1, safe := x.safe || safe }, none)

/-- The exchange of one port. -/
def State.exchangePort (s : State) (work : Option (SMap Nat)) (replies : List CleatReply) (p : Nat) (l : List StationPlan) : State :=
  let slice := fun (x : StationPlan) => [x.st % 32, sliceCtl (s.station x.st), x.wdog] ++ s.outOctets work x
  let fnum := (s.num + 1) % 65536
  let s0 := s
  let s := s.emitAt (some s.now) .cleatDown ((p :: withCrc16 ([0x96, fnum % 256, fnum / 256, s.cycLen, l.length] ++ l.flatMap slice)).map Int.ofNat)
  let first := l.map fun x => (({ st := x.st, left := ((replies.find? fun r => r.st = x.st).map CleatReply.tries).getD [] } : Attempt)).next
  let (res, again) := retries (s.get F.CLB_CFG_RETRY) none first []
  let s := again.foldl (fun (s : State) i => match l.find? fun x => x.st = i with
    | some x => s.emitAt (some s.now) .cleatRetry
        ((p :: withCrc16 ([0x96, fnum % 256, fnum / 256, s.cycLen, 1] ++ slice x)).map Int.ofNat)
    | none => s) s
  let s := (s.add (F.CLB_PORT_CNT_CRC_ERR.at p) (sumN (res.map Attempt.crc))).add (F.CLB_PORT_CNT_MISSED.at p) (sumN (res.map Attempt.missing))
  let s := l.foldl (fun (s : State) x => match res.find? fun a => a.st = x.st with
    | none => s
    | some a =>
      let (y, inp) := (s.station x.st).after (s0.outOctets work x) a
      let s := s.modProg fun q => { q with stations := SMap.insert q.stations x.st y }
      match inp with
      | some d => s.modWired fun w => { w with got := SMap.insert w.got x.st d }
      | none => s) s
  s.modWired fun w => { w with apply := insertN w.apply p }

/-- CLEAT_EXCHANGE: the exchange of the interval that ends at the next cycle boundary. -/
def State.exchange (s : State) (replies : List CleatReply) : State :=
  match s.prog.pkg with
  | none => s
  | some k =>
    let last := (s.num + 1) % s.cycLen = 0 || s.frame.realign.isSome
    if !s.live || !(s.mode = .run || s.mode = .stop || s.mode = .hold) || !last || s.wired.exchanged then s
    else
      let work := if s.commitUnit && !s.prog.deadlinePast then some s.cycleWork else none
      let s := s.modWired fun w => { w with exchanged := true }
      ((List.range 4).filter fun p => k.port p ≠ []).foldl (fun (s : State) p => s.exchangePort work replies p (k.port p)) s

def execCleatExchange (replies : List CleatReply) (s : State) : Res := s.act fun s => s.exchange replies

/-- At the boundary the ports send APPLY; the inputs collected enter the images, unless the boundary is skipped (R128, R515). -/
def State.applyExchange (s : State) (skipped : Bool) : State :=
  let s := s.wired.apply.foldl (fun (s : State) p => s.emit .cleatApply ((p :: withCrc16 [0x69, s.num % 256]).map Int.ofNat)) s
  let s := if skipped then s else s.wired.got.foldl (fun (s : State) e => match s.plan e.1 with
    | none => s
    | some x => s.modProg fun p => { p with
        stations := SMap.insert p.stations e.1 { SMap.getD p.stations e.1 {} with inputs := e.2, stale := false }
        raw := stationInputs x e.2 p.raw }) s
  s.modWired fun w => { w with apply := [], got := [], exchanged := false }

/-! ### Skips (R134 to R136) -/

/-- A boundary is skipped: it is counted, and at the limit the module enters Basic at the next frame boundary. -/
def State.countSkip (s : State) : State :=
  let n := s.prog.skipRun + 1
  let s := if n = 1 then s.log Sev.warning 0 F.PLX_SKIP_TOTAL [] else s
  let s := (s.inc F.PLX_SKIP_TOTAL).modProg fun p => { p with skipRun := n, skipTot := min 65535 (p.skipTot + 1), afterSkip := true }
  if s.get F.PLX_SKIP_LIMIT ≤ n && !s.frame.modeReqs.any (fun r => r.ev = .skipEscalation) then
    ((s.log Sev.error 2 F.PLX_SKIP_TOTAL []).modeReq .skipEscalation .quiet).trialRestart
  else s

/-- A cycle that completes by its deadline ends a run of skips and of CYCLE faults. -/
def State.cycleOnTime (s : State) : State :=
  let n := s.prog.skipRun
  let s := if n = 0 then s else (s.log Sev.info 1 F.PLX_SKIP_TOTAL (leBytes 4 n)).modProg fun p => { p with skipRun := 0 }
  s.classOnTime 0

/-! ### The commit (R114, R117, R121, R196) -/

/-- Issue the queued calls of a section: each ticket becomes ACTIVE with its call. -/
def State.issueCalls (s : State) (k : Nat) : State :=
  let l := (s.sect k).queue
  let s := s.modSect k fun x => { x with queue := [] }
  l.foldl (fun (s : State) q =>
    let y := SMap.getD (s.sect k).slots q.slot {}
    if y.st = .issued && y.code = q.code then s.callSvc (.program k q.slot y.serial) q.code q.args else s) s

/-- The tickets of calls that are never issued are void: ABORTED (R117, R196). -/
def State.voidCalls (s : State) (k : Nat) : State :=
  s.modSect k fun x => { x with
    queue := []
    slots := x.slots.map fun e => if e.2.st = .issued then (e.1, { e.2 with st := .final, status := St.aborted, result := [] }) else e }

/-- The record of a run of trapped cycles (R197). -/
def State.trapRecord (s : State) (k : Nat) : State :=
  let x := s.sect k
  match x.trap with
  | some (code, pc) =>
    let s := if x.trapRun = 0 then s.logBlock Sev.error 0 5 ([k, code] ++ leBytes 3 pc) else s
    s.modSect k fun y => { y with trapRun := y.trapRun + 1 }
  | none =>
    if x.trapRun = 0 then s
    else (s.logBlock Sev.info 1 5 (k :: leBytes 4 x.trapRun)).modSect k fun y => { y with trapRun := 0 }

/-- A clock count in µs. -/
def clkUs (n : Nat) : Nat := min (2 ^ 20 - 1) (n / 200)

/-- Commit the cycle: outputs pass through the output forces, every write becomes visible, the calls are issued, section 0 first. -/
def State.commit (s : State) : State :=
  let ks := (List.range 4).filter s.hasSect
  let work := s.cycleWork
  let ok := ks.filter fun k => (s.sect k).trap.isNone
  let s := s.modProg fun p => { p with
    areas := work, under := []
    pre := none
    timers := ok.foldl (fun (m : SMap Timer) k => (s.sect k).wT.foldl (fun (m : SMap Timer) e =>
      if (s.forcedAt Area.t e.1).isSome then m else SMap.insert m e.1 e.2) m) p.timers
    counters := ok.foldl (fun (m : SMap Counter) k => (s.sect k).wC.foldl (fun (m : SMap Counter) e =>
      if (s.forcedAt Area.c e.1).isSome then m else SMap.insert m e.1 e.2) m) p.counters }
  let s := s.forceOutputs
  let s := ks.foldl (fun (s : State) k =>
    let s := s.put (F.PLX_SECT_ENDAT_US.at k) (clkUs (s.sect k).endClk)
    let s := s.trapRecord k
    s.modSect k fun x => { x with st := .waiting, work := [], wT := [], wC := [] }) s
  let span := maxN (ks.map fun k => (s.sect k).endClk)
  let latest := (ks.filter fun k => (s.sect k).endClk = span).headD 0
  let s := (s.put F.PLX_LASTC_LATEST latest).put F.PLX_LASTC_SPAN (clkUs span)
  let s := s.put F.PLX_PEAK_SPAN (Nat.max (s.get F.PLX_PEAK_SPAN) (clkUs span))
  let s := s.modProg fun p => { p with
    begun := false, running := false, short := false, deadlinePast := false, deferred := false
    cycles := p.cycles + 1, sinceSave := p.sinceSave + 1 }
  let s := s.sampleWatches
  let s := if s.get F.PLX_RETAIN_EVERY ≤ s.prog.sinceSave then s.saveDueNow.modProg fun p => { p with sinceSave := 0, saveAuto := true } else s
  let s := if s.role = .lead then s.emitNow .commitMark [(s.num : Int)] else s
  ks.foldl (fun (s : State) k => if ok.contains k then s.issueCalls k else s.voidCalls k) s

/-- The cycle in progress is abandoned: nothing of it commits (R90, R138). -/
def State.abandonCycle (s : State) : State :=
  if !s.prog.begun then s
  else
    let ks := (List.range 4).filter s.hasSect
    let s := ks.foldl (fun (s : State) k => (s.voidCalls k).modSect k fun x => { x with st := .waiting, ended := false, pc := 0, work := [],
                                                                                        wT := [], wC := [], trap := none }) s
    s.modProg fun p => { p with begun := false, running := false, short := false, deadlinePast := false, deferred := false, hit := none }

/-- What a boundary does with the cycle in progress: it commits, is found running, or waits for a boundary of its own. The second
component says whether the boundary is skipped (R133, R134) or the cycle's commit is deferred by a realignment (R77, R119). -/
def State.cycleCommit (s : State) (realigned : Bool) : State × Bool :=
  if s.mode ≠ .run || !s.prog.begun || s.prog.hit.isSome then (s, false)
  else if realigned || s.prog.deferred then
    if s.allEnded then
      let on := !s.prog.deadlinePast
      ((if on then s.cycleOnTime else s).commit, false)
    else (s.modProg fun p => { p with deferred := true, deadlinePast := true }, false)
  else if s.num % s.cycLen ≠ 0 then (s, false)
  else if s.allEnded then
    if s.prog.deadlinePast then (s.commit.countSkip, true) else (s.cycleOnTime.commit, false)
  else ((s.modProg fun p => { p with deadlinePast := true }).countSkip, true)

/-- The exchange that ends at this boundary repeated the last commit, and its inputs are discarded: the cycle was not complete by the
commit deadline of a transitional frame, or its deferred commit still waits (R636). -/
def State.repeated (s : State) (realigned : Bool) : Bool :=
  s.mode = .run && s.prog.begun && s.prog.hit.isNone
    && ((realigned && (s.prog.deadlinePast || !s.allEnded)) || (s.prog.deferred && !s.allEnded))

/-! ### The input latch (R115, R118, R169, R186, R202 to R204, R209) -/

/-- A running timer takes the time between the latches; a forced one does not (R160), nor one that no section owns (R122). -/
def Timer.elapse (t : Timer) (ns : Nat) : Timer :=
  if !t.running then t
  else let n := t.rem + ns; { t with et := min (2 ^ 31 - 1) (t.et + n / 1000000), rem := n % 1000000 }

def State.advanceTimers (s : State) (ns : Nat) : State :=
  s.modProg fun p => { p with
    timers := p.timers.map fun e =>
      if (s.forcedAt Area.t e.1).isSome || (s.ownerOf Area.t e.1).isNone then e else (e.1, e.2.elapse ns) }

/-- The slots of a section at a latch: the status words, the result blocks of the calls that are final, and FREE after them. -/
def Sect.latchSlots (x : Sect) : Sect :=
  x.slots.foldl (fun (x : Sect) e =>
    let y := e.2
    let word := y.serial * 65536 + y.status % 65536
    match y.st with
    | .active => { x with slots := SMap.insert x.slots e.1 { y with shown := word } }
    | .final =>
      let n := svcX y.code
      let xb := if n = 0 then x.xblk else
        (List.range 64).foldl (fun (m : SMap Nat) j =>
          SMap.put 0 m (64 * e.1 + j) (if j < n then y.result.getD j 0 else 0)) x.xblk
      { x with slots := SMap.insert x.slots e.1 { y with shown := word, st := .free }, xblk := xb }
    | _ => x) x

def stnWord (x : Station) : Nat :=
  b2n (decide (x.st = 0)) + 2 * b2n x.stale + 4 * b2n x.safe + 8 * b2n (decide (x.st = 2) || decide (x.st = 3))

/-- The loop image in IW (Table 07.4). -/
def State.loopImage (s : State) : List (Nat × Nat) :=
  let reg := fun (f : Fld) => s.word 0 f.addr
  (SMap.keys s.drv.loops).flatMap (fun l =>
    [(7680 + 4 * l, ofInt 32 (s.loop l).pvPrev), (7681 + 4 * l, ofInt 32 (s.setpoint l)), (7682 + 4 * l, ofInt 32 (s.loop l).u),
     (7683 + 4 * l, reg (F.LOP_STATE_CLOSED.at l) % 65536)])
  ++ (SMap.keys s.drv.axes).flatMap (fun a =>
    [(7936 + 8 * a, reg (F.LOP_AX_POS_VAL.at a)), (7937 + 8 * a, reg (F.LOP_AX_VEL_VAL.at a)), (7938 + 8 * a, reg (F.LOP_AX_TGT_VAL.at a)),
     (7939 + 8 * a, reg (F.LOP_AX_TRQ_VAL.at a)), (7940 + 8 * a, reg (F.LOP_AX_STAT_STATE.at a)),
     (7941 + 8 * a, (s.drive (a / 4) (a % 4)).stat)])
  ++ [(8000, reg F.DRV_SHORT_PWM_LANDS), (8001, reg F.DRV_SHORT_SNS_LANDS)]
  ++ (List.range 8).flatMap (fun b => [(8002 + b, reg (F.DRV_LBT_VAL_TEMP.at b)), (8010 + b, reg (F.DRV_LUM_STAT_DIM.at b))])

/-- The words of each sensor slot that the site configuration maps into IW. -/
def State.sensorWords (s : State) : List (Nat × Nat) :=
  s.net.sensors.flatMap fun e => (List.range 6).map fun k => (e.2.iw + k, e.2.values.getD k 0)

/-- The system words of Tables 03.5 and 04.11 that are not status words of slots. -/
def State.sysWords (s : State) (elapsed : Nat) : List (Nat × Nat) :=
  let p := s.prog
  let flags := b2n p.first + 2 * b2n p.short + 4 * b2n p.afterSkip + 8 * b2n p.afterSwitch + 16 * b2n p.takeover
    + 32 * b2n (p.sects.any (·.foreign)) + 64 * b2n (decide (p.forces ≠ [])) + 128 * s.get F.PLX_STAT_RETAIN_LOST + 256 * b2n s.aligned
  [(0, s.num % 2 ^ 32), (1, s.num / 2 ^ 32), (2, s.cycLen), (3, min (2 ^ 32 - 1) elapsed), (4, flags),
   (5, p.skipTot * 65536 + min 255 p.skipRun), (6, p.cycles % 2 ^ 32)]
  ++ (match p.pkg with
      | some k => k.stations.map fun x => (128 + x.st, stnWord (s.station x.st))
      | none => [])
  ++ (List.range 4).flatMap (fun k =>
      let x := s.sect k
      [(256 + 8 * k, match x.trap with | some (c, pc) => c * 2 ^ 24 + pc % 2 ^ 17 | none => 0),
       (257 + 8 * k, x.rangeTot * 65536 + x.range),
       (258 + 8 * k, min 255 x.refused * 256 + min 255 (countP (fun e => decide (e.st ≠ .free)) (SMap.vals x.slots)))])

/-- The input image as it stands, before forces. -/
def State.inputImage (s : State) (elapsed : Nat) : SMap Nat :=
  let at_ := fun (a : Nat) (l : List (Nat × Nat)) (m : SMap Nat) =>
    l.foldl (fun (m : SMap Nat) e => SMap.put 0 m (areaKey a e.1) e.2) m
  let words := fun (base : Nat) (l : List Nat) => (List.range l.length).map fun k => (base + k, l.getD k 0)
  let m := at_ Area.iw (s.sensorWords ++ s.loopImage) s.prog.raw
  let m := at_ Area.s (s.sysWords elapsed) m
  let m := at_ Area.n (s.light.image.flatMap fun e => words (32 * e.1) (nodeImage s e.2)) m
  let m := at_ Area.f (s.pos.image.flatMap (fun e => words (16 * e.1) e.2) ++ s.fleetImage) m
  at_ Area.e ((List.range 258).map fun k => (k, s.meterWord k)) m

/-- Input forces replace the latched values. -/
def State.forceInputs (s : State) (m : SMap Nat) : SMap Nat :=
  s.prog.forces.foldl (fun (m : SMap Nat) f => match s.symbol f.sym with
    | some y => if y.area = Area.i || y.area = Area.iw then SMap.put 0 m (areaKey y.area y.off) f.value else m
    | none => m) m

/-- A section at its window: initial registers, nothing written (R171, R175). -/
def Sect.open_ (x : Sect) : Sect :=
  { x with
    st := .executing, ended := false, pc := 0, ba := false, bs := [], wa := 0, wb := 0, xi := 0, cs := [], z := false, n := false
    cy := false, ov := false, clk := 0, endClk := 0, work := [], wT := [], wC := [], scratch := [], queue := [], taken := 0
    refused := 0, range := 0, foreign := false, trap := none, passBrk := false }

/-- A section that the program lacks keeps no account of a cycle. -/
def Sect.idle (x : Sect) : Sect := { x with refused := 0, range := 0, foreign := false, trap := none }

/-- Latch the inputs, and start the cycle. S_ELAPSED counts from the previous executed latch, and timers the same time without that
spent in Hold (R118, R169). `committed`: a cycle committed at this boundary. -/
def State.startCycle (s : State) (short committed : Bool) : State :=
  let ns := if s.prog.lastLatch = 0 then 0 else s.mono - s.prog.lastLatch
  let before := s.prog.pre.getD (s.prog.timers, s.prog.inputs)
  let s := s.advanceTimers (ns - s.prog.heldTime)
  let s := s.modProg fun p => { p with
    short := short, sects := p.sects.map Sect.latchSlots, pre := if committed then none else some before }
  let m := s.forceInputs (s.inputImage (ns / 1000))
  s.modProg fun p => { p with
    inputs := m, sects := p.sects.map fun x => if x.st = .absent then x.idle else x.open_
    begun := true, running := true, first := false, takeover := false, afterSkip := false, afterSwitch := false
    deadlinePast := false, deferred := false, lastLatch := s.mono, heldTime := 0 }

/-- Whether a cycle starts at this boundary: in Run, with none in progress, at a cycle boundary, or after a realignment. -/
def State.cycleDue (s : State) (realigned : Bool) : Bool :=
  s.mode = .run && s.prog.pkg.isSome && !s.prog.begun && (s.num % s.cycLen = 0 || realigned)

/-! ### The commit deadline (R133) -/

/-- D_j, counted from the start of the frame: the class 0 DEADLINE, as far before the end of a transitional frame as before that of an
ordinary one (R636). -/
def State.commitNs (s : State) : Nat :=
  let d := 1000 * s.get (F.FRM_DCLS_DEADLINE_DEADLINE.at 0)
  if s.frame.transitional then s.frameEnd - s.frame.start - (frameNs - d) else d

/-- COMMIT_DEADLINE: at D_j a cycle that has not ended raises a CYCLE fault and goes on to END; one that has ended is on time. A
transitional frame has a commit deadline and no fault (R76, R636). -/
def State.commitDeadline (s : State) : State :=
  if !s.live || s.mode ≠ .run || !s.prog.begun || s.prog.hit.isSome || s.prog.deadlinePast || s.prog.deferred
      || ((s.num + 1) % s.cycLen ≠ 0 && !s.frame.transitional) then s
  else
    let s := s.atNs s.commitNs
    if s.allEnded then s.cycleOnTime
    else if s.frame.transitional then s.modProg fun p => { p with deadlinePast := true }
    else
      let k := ((List.range 4).find? fun k => s.hasSect k && !(s.sect k).ended).getD 0
      (s.modProg fun p => { p with deadlinePast := true }).deadlineFault 0 (2 + k) 0

def execCommitDeadline (s : State) : Res := s.act State.commitDeadline

/-! ### Breakpoints and stepping (R139 to R142) -/

/-- BREAKPOINT_HIT: a section stands at an enabled breakpoint; all sections halt, and Hold begins at the next frame boundary. -/
def State.breakpointHit (s : State) (k b : Nat) : State :=
  let x := s.sect k
  if !s.live || s.mode ≠ .run || !s.prog.begun || s.prog.hit.isSome || x.st ≠ .executing || x.ended || 8 ≤ b || 4 ≤ k
      || x.passBrk || !s.flag (F.PLX_BRK_EN.at2 k b) || s.get (F.PLX_BRK_ADDR.at2 k b) ≠ x.pc then s
  else
    let s := s.modProg fun p => { p with
      hit := some (k, b), halted := true, sects := p.sects.map fun x => if x.st = .executing then { x with st := .halted } else x }
    s.modeReq .breakpoint .quiet

def execBreakpointHit (sect brk : Nat) (s : State) : Res := s.act fun s => s.breakpointHit sect brk

/-- STEP (R140): one instruction of a section of a cycle that has halted. -/
def State.stepSect (s : State) (k : Nat) : State × Nat :=
  if !s.live || s.mode ≠ .hold || !s.prog.begun then (s, St.mode)
  else if !s.hasSect k then (s, St.badArg)
  else if (s.sect k).ended then (s, St.done)
  else match (s.code k)[(s.sect k).pc]? with
    | none => (s, St.done)
    | some w => (s.advance k fun s => s.opMeaning k (w / 2 ^ 26) (bits w 25 24) (w % 2 ^ 24), St.done)

def State.stepCmd (s : State) (who : Requester) : State × Nat :=
  if !s.debugOk who then (s, St.access) else s.stepSect (s.get F.PLX_DBG_SECT)

def execStep (who : Requester) (s : State) : Res := s.act fun s => let (s, st) := s.stepCmd who; s.reply who st

/-- The halted sections go on from where they stand (R141). -/
def State.resumeCycle (s : State) : State :=
  s.modProg fun p => { p with
    hit := none, halted := false, deadlinePast := false, deferred := false
    sects := p.sects.map fun x => if x.st = .halted then { x with st := .executing, passBrk := true } else x }

end Sys2Proof.Machine
end

