-- ==== Sys2Proof/Machine/Reset.lean ====
section
/-!
DEFINITION. What a reset keeps and what it clears (R15, R618), ROLE_OUT (R541), and the flush before a reset or a halt (R504).
-/
namespace Sys2Proof.Machine

/-- Register fields that keep their values over a reset (Table 00.5: ret, Factory and Fuse). -/
def keptField (key : Nat) : Bool :=
  match findReg (key / 32) with
  | some (r, _, _) => r.fields.any fun d => d.kept && decide (d.fld.lo = key % 32)
  | none => false

/-- A node slot of the site configuration with its calibration record; whether its association lives on is restored later. -/
def Node.kept_ (x : Node) : Node :=
  { group := x.group, cal := x.cal, nocal := x.nocal, newCal := x.cal ≠ [], online := x.online, radio := x.radio, assoc := x.assoc,
    waitAt := 0 }

/-- Reset (R618): every part but the battery-backed domain goes to its reset values; what MRAM, flash and fuses hold stays. -/
def State.hardReset (s : State) : State :=
  let out := s.emitNow .resetOut []
  { regs := s.regs.filter fun p => keptField p.1
    frame := { orderlyFlag := s.frame.orderlyFlag }
    gal := { masked := resetMask }
    prog := { ret0 := s.prog.ret0, ret1 := s.prog.ret1, retBase := s.prog.total, forces := s.prog.forces }
    light := { nodes := s.light.nodes.map fun p => (p.1, p.2.kept_), recipes := s.light.recipes }
    net := { s.net with sensors := s.net.sensors.map fun p => (p.1, { serial := p.2.serial, sleeping := p.2.sleeping, iw := p.2.iw }) }
    pos := { ephem := s.pos.ephem, almanac := s.pos.almanac }
    fleet := { graph := s.fleet.graph, valid := s.fleet.valid }
    time := { rhoF := s.time.rhoF }
    rtc := { s.rtc with shadows := [], lockT := none, lastDisc := 0, lastDiff := 0, ownCommit := none }
    meter := { copy0 := s.meter.copy0, copy1 := s.meter.copy1, marker := s.meter.marker }
    wired := { idents := s.wired.idents }
    upd := { banks := s.upd.banks, active := s.upd.active }
    keys := { s.keys with
      cache := [], queue := [], fuse := none, fuseBy := .quiet, inp := [], label := [], out := [], scan := false, zeroised := false, rootGone := false
      newRow := none, dsec := if s.keys.dsec = 2 then 1 else s.keys.dsec }
    recs := { held := s.recs.held, torn := s.recs.torn, optime := s.recs.optime, savedOptime := s.recs.savedOptime, vit := s.recs.vit, left := s.recs.left }
    bst := s.bst
    mem := s.mem.filter keptCell
    free := s.free
    out := out.out
    pending := s.pending }

/-- A reset of any cause: the Lanyard outputs fall to Stop and ROLE_OUT falls (R541, R618). -/
def State.toReset (s : State) : State :=
  let role := s.flag F.SPL_STAT_ROLE_OUT
  let s := (s.hardReset).emitNow .lanyardOut [0, 0]
  if role then s.emitNow .roleOut [0] else s

/-- The flush that RECOVER, RESTART and the orderly shutdown make (R504), with the log drained first (R635). -/
def State.flush (s : State) : State := s.meterFlush.drainLog.retainedFlush

/-! ### ROLE_OUT and RELINQUISH (R541, R559) -/

/-- ROLE_OUT as it should be now. -/
def State.roleWanted (s : State) : Bool :=
  s.role = .lead && s.live && decide (s.mode ≠ .basic) && decide (s.mode ≠ .recovery) && s.spl.keep

/-- ROLE_OUT follows. -/
def State.roleOut (s : State) : State :=
  let w := s.roleWanted
  if s.flag F.SPL_STAT_ROLE_OUT = w then s
  else (s.putB F.SPL_STAT_ROLE_OUT w).emitNow .roleOut [(b2n w : Int)]

end Sys2Proof.Machine
end

