-- ==== Sys2Proof/Machine/Modes.lean ====
section
/-!
DEFINITION. Mode transitions (R89 to R101, Table 02.6): what a change of mode does to each function (Table 02.5), which of several
events acts at a boundary, and the orderly shutdown (R108).
-/
namespace Sys2Proof.Machine

/-! ### Entering a mode (Tables 02.5 and 02.6) -/

/-- A planned swap that waits is called off (R561, R91). -/
def State.swapAborted (s : State) : State :=
  if s.spl.swapAt.isNone then s
  else
    let o := s.spl.swapBy
    let s := (s.modSpl fun x => { x with swapAt := none, swapBy := .quiet }).finish o St.aborted []
    if s.upd.kind = 3 then s.pairUpdateOff.updEnd St.aborted BankSt.written else s

/-- The mode register and what follows it everywhere: the MODE cause of the Lanyard, and ROLE_OUT. -/
def State.setMode (s : State) (m : Mode) : State :=
  let s := if s.phase = .running then s.put F.SYS_MODE_PREV s.mode.code else s
  let s : State := { s with mode := m, phase := .running }
  s.modeCause.roleOut

/-- What ends with the mode that is left. -/
def State.leaveMode (s : State) (m : Mode) : State :=
  let s := if s.mode = .hold then s.modProg fun p => { p with heldTime := p.heldTime + (s.mono - p.holdFrom), halted := false } else s
  let s := if (s.mode = .run || s.mode = .hold) && m ≠ .run && m ≠ .hold then s.axesLeave else s
  if m = .run || m = .hold then s else s.abandonCycle

/-- Entry into Stop. `started`: the plane starts with this entry. -/
def State.enterStop (s : State) (started : Bool) : State :=
  let s := (clearPresence s.loopsSafe).fleetStop.daliStop
  if started then s else s.planeProgramOff

/-- Entry into Run from Stop or at the end of start-up (R119, R231, R335). -/
def State.enterRun (s : State) : State :=
  ((s.planeProgramClear.loopsAuto.fleetRun).modProg fun p => { p with first := !p.takeover })

/-- RESUME (R141). -/
def State.enterRunAgain (s : State) : State := s.resumeCycle.axesResume.fleetRun

/-- Entry into Hold (R137, R139). -/
def State.enterHold (s : State) : State :=
  (s.axesPause.fleetHold).modProg fun p => { p with halted := true, holdFrom := s.mono }

/-- Entry into Basic (R90, R559, R637). -/
def State.enterBasic (s : State) : State :=
  let s := (clearPresence s.planeStop.loopsSafe).posBasic.switchAborted.swapAborted
  let s := s.vitTrigger (some 1) 2
  if s.role = .lead then s.emitNow .relinquish [] else s

/-- The plane runs in Stop, Run and Hold (R249). -/
def State.planeOn (s : State) : State := if s.light.running then s else s.planeStart

/-- A change of mode; `s.phase` is not running when start-up ends with it. -/
def State.enterMode (s : State) (m : Mode) : State :=
  let old := s.mode
  let was := s.phase = .running
  let plane := s.light.running
  let s := (if was then s.leaveMode m else s).setMode m
  let s := if m.active then s.planeOn else s
  match m with
  | .stop => s.enterStop (!plane)
  | .run => if was && old = .hold then s.enterRunAgain else s.enterRun
  | .hold => s.enterHold
  | .basic => s.enterBasic
  | .shadow | .recovery => s

/-- Basic with its cause; from Basic itself only the cause changes. -/
def State.toBasic (s : State) (cause detail : Nat) : State :=
  let s := (s.put F.SYS_MODE_CAUSE cause).put F.SYS_MODE_DETAIL detail
  if s.mode = .basic && s.phase = .running then s else s.enterMode .basic

/-! ### Shutdown and reset into Recovery (R108, R504) -/

/-- The sequence of R108 begins: from Run and Hold through Stop; a Lead gives up its role; the blocks go under test. -/
def State.beginShutdown (s : State) (orderly : Bool) (o : Origin) : State :=
  let s := if s.mode = .run || s.mode = .hold then s.enterMode .stop else s
  let s := (s.swapAborted).finish o St.done []
  let s := if s.role = .lead then s.emitNow .relinquish [] else s
  let s := s.flush
  let s := s.modFrame fun f => { f with restartAfter := !orderly, phaseAt := s.mono }
  ({ s with phase := .shutdown }).roleOut

/-- RECOVER: through reset; the start that follows runs the Recovery ROM. -/
def State.toRecovery (s : State) (o : Origin) : State :=
  ((s.finish o St.done []).flush.toReset).modFrame fun f => { f with recoveryStrap := true }

/-! ### Which event acts (R90, R91) -/

/-- One event takes effect. -/
def State.actMode (s : State) (r : ModeReq) : State :=
  match r.ev with
  | .start => (s.enterMode .run).finish r.by_ St.done []
  | .stop => (s.enterMode .stop).finish r.by_ St.done []
  | .halt | .breakpoint => (s.enterMode .hold).finish r.by_ St.done []
  | .resume => (s.enterMode .run).finish r.by_ St.done []
  | .leaveBasic =>
    if s.coresRun then (s.enterMode (if s.role = .follower then .shadow else .stop)).finish r.by_ St.done []
    else s.finish r.by_ St.causeActive []
  | .enterBasic => (s.toBasic 5 0).finish r.by_ St.done []
  | .escalation c => s.toBasic 1 c
  | .skipEscalation => s.toBasic 6 0
  | .curatorFault => s.toBasic 2 0
  | .tamper => (s.toBasic 3 0).obsLife
  | .shutdown orderly => s.beginShutdown orderly r.by_
  | .recover => s.toRecovery r.by_

/-- After an event has acted, or a takeover or a swap takes this boundary: commands that it supersedes, and those that the new mode
does not list, end ABORTED; other events stay while their condition holds. -/
def State.superseded (s : State) (due rest : List ModeReq) : State :=
  let here := s.live
  let gone := (due ++ rest).filter fun r => r.by_ ≠ .quiet && (due.contains r || !here || (decide (r.at_ ≠ s.num) && !s.modeAllows r.ev))
  let keep := (due ++ rest).filter fun r => here && !gone.contains r && (s.modeAllows r.ev || r.at_ = s.num)
  let s := s.modFrame fun f => { f with modeReqs := keep }
  s.finishAll (gone.map ModeReq.by_) St.aborted

/-- The mode at a frame boundary. -/
def State.modeBoundary (s : State) (cycleEnd : Bool) : State :=
  let reqs := s.frame.modeReqs
  let due := reqs.filter fun r => s.evDue cycleEnd r
  let other := reqs.filter fun r => !s.evDue cycleEnd r
  match s.modeWinner cycleEnd with
  | some r =>
    let t := (s.modFrame fun f => { f with modeReqs := [] }).actMode r
    if t.phase = .reset then t else t.superseded (due.filter (· ≠ r)) other
  | none => if reqs = [] then s else s.superseded due other

end Sys2Proof.Machine
end

