-- ==== Sys2Proof/Machine/Pairing.lean ====
section
/-!
DEFINITION. Paired operation (R539 to R562): heartbeats, the state copy, held effects, sync states, loss of the Lead, takeover and
planned swap.
-/
namespace Sys2Proof.Machine

/-- A pair is configured, and the life-cycle state admits it (R539, R544). -/
def State.paired (s : State) : Bool :=
  s.flag F.SPL_CFG_PAIR && (s.keys.life = .provisioned || s.keys.life = .deployed)

/-- The Splice link carries traffic: its keys exist, and firmware runs. -/
def State.linkUp (s : State) : Bool := s.framesOn && s.paired && !s.keys.zeroised && !s.mute

def State.ownFmt (s : State) : Nat := (s.bank s.upd.active).copyfmt
def State.ownPkg (s : State) : Nat := match s.prog.pkg with | some p => p.ident | none => 0

/-! ### Held effects (R548 to R550) -/

/-- A held effect whose instant has passed is not sent; a Cleat APPLY is (R549). -/
def State.tooOld (s : State) (h : HeldOut) : Bool :=
  match h.due with
  | some t => decide (t < s.now) && decide (h.out.kind ≠ .cleatApply)
  | none => false

/-- Release the held effects that a condition names. -/
def State.release (s : State) (ok : HeldOut → Bool) : State :=
  let l := s.spl.held.filter ok
  let s : State := s.modSpl fun x => { x with held := x.held.filter fun h => !ok h }
  l.foldl (fun (s : State) h =>
    if s.tooOld h then s
    else if h.out.kind = .spiReply then s.spiReady h.out.args
    else s.emitNow h.out.kind h.out.args) s

/-- COPY_ACK_RX: the Follower acknowledges the records up to a serial; every effect whose decision they hold is released. -/
def State.copyAck (s : State) (serial : Nat) : State :=
  if s.role ≠ .lead then s
  else
    let left := s.spl.unacked.filter fun u => decide (serial < u)
    (s.modSpl fun x => { x with unacked := left }).release fun h => left.all fun u => decide (h.need < u)

def execCopyAckRx (serial : Nat) (s : State) : Res := s.act fun s => s.copyAck serial

/-- PROTECTED falls (R550): every held effect goes at once, and an Error record is written. -/
def State.unprotect (s : State) : State :=
  if !s.flag F.SPL_STAT_PROTECTED then s
  else
    let s := (s.put F.SPL_STAT_PROTECTED 0).modSpl fun x => { x with unacked := [] }
    (s.release fun _ => true).log Sev.error 0 F.SPL_STAT_PROTECTED []

def execCopyAckTimeout (s : State) : Res :=
  s.act fun s => s.when (s.role = .lead && s.spl.unacked ≠ []) State.unprotect

/-! ### Heartbeats and sync states (R542, R551) -/

/-- SPLICE_HEARTBEAT_TX. -/
def State.splHeartbeat (s : State) : State :=
  if !s.linkUp then s
  else s.emitNow .spliceHeartbeat [s.mode.code, s.role.code, s.keys.life.code, s.num, s.get F.SPL_STAT_SYNC, s.ownFmt,
    if s.role = .lead then s.get F.SPL_STAT_PROTECTED else 0]

def execSpliceHeartbeatTx (s : State) : Res := s.act State.splHeartbeat

/-- The first check of R539 and Table 13.3 that fails, as SPL_STAT.REASON codes it; 0 where none does. -/
def State.hbReason (s : State) (b : Heartbeat) : Nat :=
  let good := fun (l : Life) => l = .provisioned || l = .deployed
  if !b.keyOk then 2
  else if b.copyfmt ≠ s.ownFmt then 3
  else if b.pkg ≠ s.ownPkg then 4
  else if b.unit = s.get F.SPL_CFG_UNIT then 5
  else if !good b.life || !good s.keys.life then 6
  else if !b.aligned || !s.aligned then 7
  else if b.frame ≠ s.num then 8
  else if !b.stopOk then 9
  else 0

/-- SYNCED is left (Table 13.3). -/
def State.toStale (s : State) : State :=
  if s.get F.SPL_STAT_SYNC ≠ 2 then s else (s.put F.SPL_STAT_SYNC 3).log Sev.error 1 F.SPL_STAT_SYNC []

/-- A Lead's heartbeat at a Follower. -/
def State.leadHeartbeat (s : State) (b : Heartbeat) : State :=
  match s.get F.SPL_STAT_SYNC with
  | 2 => if b.prot then s else s.toStale
  | 1 => s
  | _ =>
    let r := s.hbReason b
    if r = 0 && b.vipOk then
      ((s.put F.SPL_STAT_SYNC 1).put F.SPL_STAT_REASON 0).modSpl fun x => { x with recs := [], writes := [], relinquished := false }
    else (s.put F.SPL_STAT_SYNC 0).put F.SPL_STAT_REASON r

/-- The first cycle boundary at least two frames after acceptance. -/
def State.swapFrame (s : State) : Nat :=
  let l := s.cycLen
  (s.num + (if s.frame.off = 0 then 2 else 3) + l - 1) / l * l

/-- A pair update and a planned swap follow the Follower (R561, R571). -/
def State.followPartner (s : State) : State :=
  let ok := s.partnerEligible
  if s.upd.kind = 3 && s.spl.swapAt.isNone && (s.upd.stage = 1 || s.upd.stage = 2) then
    if !s.upd.peerLeft then (if ok then s else s.modUpd fun u => { u with peerLeft := true, stage := 2 })
    else if ok && s.mode.active && s.drv.axes.all (fun p => !p.2.st.active) then
      let n := s.swapFrame
      (s.modUpd fun u => { u with stage := 3 }).modSpl fun x => { x with swapAt := some n, swapBy := .quiet }
    else s
  else if s.spl.swapAt.isSome && !ok then s.swapAborted
  else s

/-- A Follower's heartbeat at its Lead: SYNC is shown, and PROTECTED returns when the Follower reports SYNCED (R550). A Follower that
reports SYNCING gets the full state, slots 2 and 3 with it (R590). -/
def State.followerHeartbeat (s : State) (b : Heartbeat) (old : Nat) : State :=
  let s := s.put F.SPL_STAT_SYNC b.sync
  let s := if b.sync = 2 && old ≠ 2 then s.put F.SPL_STAT_PROTECTED 1 else s
  let s := if b.sync = 1 && old ≠ 1 then s.modSpl fun x => { x with formed := true } else s
  s.followPartner

/-- SPLICE_HEARTBEAT_RX. -/
def State.splHeartbeatRx (s : State) (b : Heartbeat) : State :=
  if !s.linkUp then s
  else if !b.auth then s.inc F.SPL_CNT_AUTH_FAIL
  else
    let old := s.spl.hbSync
    let s := (s.put F.SPL_STAT_PARTNER_HB 1).put F.SPL_STAT_LINK 2
    let s := ((s.put F.SPL_PEER_MODE b.mode.code).put F.SPL_PEER_ROLE b.role.code).put F.SPL_PEER_LIFE b.life.code
    let s := (s.put F.SPL_PEER_COPYFMT b.copyfmt).modSpl fun x => { x with
      hbSync := b.sync, partnerLead := b.role = .lead, hbAt := s.mono }
    let s := if b.role = .lead && b.mode ≠ .basic then s.put F.SPL_STAT_ROLE_IN 1 else s
    -- the Lead's heartbeat is back: a loss that was detected is over (R555)
    let s := if b.role = .lead then s.modSpl fun x => { x with takeAt := if x.relinquished then x.takeAt else none } else s
    if s.role = .follower && b.role = .lead && s.live then s.leadHeartbeat b
    else if s.role = .lead && b.role = .follower && s.live then s.followerHeartbeat b old
    else s

def execSpliceHeartbeatRx (b : Heartbeat) (s : State) : Res := s.act fun s => s.splHeartbeatRx b

/-- SPLICE_HEARTBEAT_LOST: no valid heartbeat has arrived for SPL_CFG.HBMISS × 100 µs (R542). A Lead is no longer protected; a Follower's loss of sync with ROLE_IN high, or the loss of its Lead, is
found at the frame boundary or by LEAD_LOSS_DETECT. -/
def State.splHeartbeatLost (s : State) : State :=
  if !s.flag F.SPL_STAT_PARTNER_HB || !s.past (s.spl.hbAt + s.get F.SPL_CFG_HBMISS * 100000) then s
  else
    let s := (s.put F.SPL_STAT_PARTNER_HB 0).inc F.SPL_CNT_HB_LOSS
    if s.role = .lead then s.unprotect.followPartner else s

def execSpliceHeartbeatLost (s : State) : Res := s.act State.splHeartbeatLost

/-- The heartbeat is lost while ROLE_IN is high (Table 13.3), judged where the frame ends. -/
def State.syncFrame (s : State) : State :=
  if s.role = .follower && !s.flag F.SPL_STAT_PARTNER_HB && s.flag F.SPL_STAT_ROLE_IN then s.toStale else s

/-! ### The state copy (R546, R547, Table 13.2) -/

/-- A register field by its key, with the value that stands for an absent one. -/
def putKey (s : State) (key v : Nat) : State :=
  match findReg (key / 32) with
  | some (r, i, j) => match r.fields.find? fun d => decide (d.fld.lo = key % 32) with
    | some d => s.put (d.fld.at2 i j) v
    | none => s
  | none => s

/-- The program's state as the Lead copies it: the Follower keeps its own MRAM copies, takes the instant of a new latch by its own time
(R168), and masks the Plinth engines that have no section (R109). -/
def State.copyProg (s : State) (p : Prog) : State :=
  let latch := if p.lastLatch = s.spl.leadLatch then s.prog.lastLatch else s.mono - s.frame.off
  let s := match p.pkg with
    | some k => if s.prog.pkg = some k then s else s.storePackage k
    | none => s
  let s := (s.modSpl fun x => { x with leadLatch := p.lastLatch }).modProg fun q => { p with
    ret0 := q.ret0, ret1 := q.ret1, retBase := q.retBase, saveDue := q.saveDue, saveAuto := q.saveAuto, saveBy := [], saveWords := q.saveWords, saveCount := q.saveCount
    lastLatch := if p.lastLatch = 0 then 0 else latch, holdFrom := latch + (p.holdFrom - p.lastLatch) }
  s.maskPlinth

/-- A rover's session at the Follower (R553). -/
def State.copySession (s : State) (c : Nat) (x : Session) : State :=
  if x.typ ≠ 1 && x.typ ≠ 2 then s
  else
    let s := s.setSession c x
    if x.typ = 1 then s.modPos fun p => { p with
      rovers := SMap.insert p.rovers x.peer { SMap.getD p.rovers x.peer {} with ctx := some c } }
    else s

/-- The maximum demands, which a Follower adopts under MTR_CFG.PAIR_ADOPT only (R507). -/
def demandField (key : Nat) : Bool := decide (0x100800 ≤ key / 32) && decide (key / 32 < 0x100840)

/-- One item of the copy is applied. -/
def State.applyItem (s : State) (i : CopyItem) : State :=
  match i with
  | .write _ key v => s.putAreas [(key, v)]
  | .prog p => s.copyProg p
  | .light l => { s with light := l }
  | .net n => { s with net := n }
  | .drive d => s.modDrv fun x => { x with loops := d.loops, axes := d.axes, fades := d.fades }
  | .fleet f => { s with fleet := f }
  | .lanyard _ latched =>
    let was := s.get F.STP_CAUSE_LATCHED
    (List.range 9).foldl (fun (s : State) b => if bit latched b && !bit was b then s.stopCause b false else s) s
  | .lanyardReset => if s.resetRefusal.isNone then s.permit else s
  | .meter n fs ps => s.adoptMeter n fs ps
  | .session c x => s.copySession c x
  | .mode m => if m.active then s.modSpl fun x => { x with copied := m } else s
  | .regs l => l.foldl (fun (s : State) q => if demandField q.1 && !s.flag F.MTR_CFG_PAIR_ADOPT then s else putKey s q.1 q.2) s
  | .dali l => s.modWired fun w => { w with lines := l }
  | .keySlot k x => if k = 2 || k = 3 then s.modKeys fun y => { y with slots := SMap.put {} y.slots k x } else s

def State.applyRecs (s : State) : State :=
  let l := s.spl.recs
  l.foldl State.applyItem (s.modSpl fun x => { x with recs := [] })

/-- A record reaches the Follower: authenticated and acknowledged, or discarded (R543, R547). -/
def State.copyRx (s : State) (serial : Nat) (auth : Bool) (f : State → State) : State :=
  if s.role ≠ .follower || !s.linkUp then s
  else if !auth then s.inc F.SPL_CNT_AUTH_FAIL
  else (f s).emitNow .copyAck [(serial : Int)]

/-- COPY_RECORD_RX: working writes wait for their commit mark, the rest for the frame mark. -/
def State.copyRecord (s : State) (serial : Nat) (auth : Bool) (x : CopyItem) : State :=
  s.copyRx serial auth fun s => match x with
    | .write _ _ _ => s.modSpl fun y => { y with writes := y.writes ++ [x] }
    | _ => s.modSpl fun y => { y with recs := y.recs ++ [x] }

def execCopyRecordRx (serial : Nat) (auth : Bool) (x : CopyItem) (s : State) : Res := s.act fun s => s.copyRecord serial auth x

/-- COMMIT_MARK_RX. -/
def State.commitMark (s : State) (serial : Nat) : State :=
  s.copyRx serial true fun s =>
    let l := s.spl.writes
    l.foldl State.applyItem (s.modSpl fun x => { x with writes := [] })

def execCommitMarkRx (serial : Nat) (s : State) : Res := s.act fun s => s.commitMark serial

/-- FRAME_MARK_RX: the records of the frame are applied; a number unlike the Follower's own, or PROTECTED = 0, ends SYNCED. -/
def State.frameMark (s : State) (serial num : Nat) (prot : Bool) : State :=
  s.copyRx serial true fun s =>
    let s := s.applyRecs.modSpl fun x => { x with leadLast := num }
    if num ≠ s.num || !prot then s.toStale else s

def execFrameMarkRx (serial num : Nat) (prot : Bool) (s : State) : Res := s.act fun s => s.frameMark serial num prot

/-- FULL_STATE_APPLIED (Table 13.3). -/
def State.fullState (s : State) : State :=
  if s.role = .follower && s.get F.SPL_STAT_SYNC = 1 then
    (s.applyRecs.put F.SPL_STAT_SYNC 2).log Sev.info 0 F.SPL_STAT_SYNC []
  else s

def execFullStateApplied (s : State) : Res := s.act State.fullState

/-- The register fields that are copied: those of the program and the lighting plane, and the site configuration that reset keeps. -/
def copiedField (key : Nat) : Bool :=
  let b := key / 32 / 65536
  b = 0x05 || b = 0x06 || ([0x07, 0x08, 0x09, 0x0A, 0x0C, 0x0D, 0x10, 0x11, 0x12].contains b && keptField key)

/-- The state that the Lead copies, as it stands (Table 13.2): of a module in Hold, the halted state (R94); with the program its slots,
status words, result blocks and serial counters (R206). -/
def State.copyItems (s : State) : List CopyItem :=
  [.prog s.prog, .light s.light, .net s.net, .drive s.drv, .fleet s.fleet, .lanyard (s.get F.STP_CAUSE_ACTIVE) (s.get F.STP_CAUSE_LATCHED),
    .meter s.num s.meter.feeders s.meter.pulses, .mode s.mode, .regs (s.regs.filter fun p => copiedField p.1), .dali s.wired.lines]
    ++ ((s.gal.sessions.filter fun p => p.2.typ = 1 || p.2.typ = 2).map fun p => .session p.1 p.2)
    ++ (if s.spl.formed then [2, 3].map fun k => .keySlot k (s.keySlot k) else [])

/-- What a Lead sends at a frame boundary (R546): the records of the frame and its mark, which wait for their acknowledgement. -/
def State.pairFrame (s : State) : State :=
  let s := s.syncFrame
  let s := if s.role = .lead then (s.put F.SPL_IDLE_HOURS 0).modSpl fun x => { x with ledAt := s.mono }
    else if s.spl.ledAt + 3600000000000 ≤ s.mono then
      (s.inc F.SPL_IDLE_HOURS).modSpl fun x => { x with ledAt := x.ledAt + 3600000000000 }
    else s
  if s.role ≠ .lead || !s.linkUp || !s.live || !s.flag F.SPL_STAT_PARTNER_HB then s
  else
    let n := s.spl.serial + 1
    let k := Config.copiedKib s.free % 65536
    let l := s.copyItems
    let s := (s.modSpl fun x => { x with serial := n, unacked := x.unacked ++ [n], sent := l, formed := false }).tick
    let s := (s.put F.SPL_COPY_LAST k).put F.SPL_COPY_PEAK (Nat.max k (s.get F.SPL_COPY_PEAK))
    (s.emitNow .copyRecord [(n : Int)]).emitNow .frameMark [n, s.num, s.get F.SPL_STAT_PROTECTED]

/-! ### Takeover (R552 to R560) -/

/-- Every call that is PENDING in the copy ends ABORTED (R206). -/
def Sect.abortCalls (x : Sect) : Sect :=
  { x with
    queue := []
    slots := x.slots.map fun e =>
      if e.2.st = .issued || e.2.st = .active then (e.1, { e.2 with st := .final, status := St.aborted, result := [] }) else e }

/-- Operations of sessions and of program calls in the copy end ABORTED and are not carried out (R206, R552). -/
def State.takenOps (s : State) : State :=
  let s := s.modGal fun g => { g with sessions := g.sessions.filter fun p => p.2.typ = 1 || p.2.typ = 2 }
  let s := s.modWired fun w => { w with waitCmd := [], sids := [] }
  let s := s.modLight fun l => { l with
    changes := l.changes.filter fun c => c.by_ = .quiet
    recipeBy := .quiet, recipeLoading := false, recipes2 := []
    nodes := l.nodes.map fun p => (p.1, { p.2 with
      entries := p.2.entries.map fun (e : Entry) => if e.st = 2 then { e with st := 1 } else e }) }
  let s := s.put F.LGT_RCP_SWITCH_PENDING 0
  let s := (s.axesTaken.fleetTaken.netTakeover).modDrv fun d => { d with passBy := [], passWait := [] }
  let s := (s.net.campaigns.map fun p => p.2.by_).foldl (fun (s : State) o =>
    if o = .quiet then s else match s.abortCampaign o with | some (t, _) => t | none => s) s
  let s := s.modProg fun p => { p with changes := [], forceReqs := [], saveBy := [] }
  let s := s.switchAborted.put F.PLX_CHG_OWNER 1023
  let s := if s.get F.PLX_CHG_STATE = Chg.loading || s.prog.newPkg.isSome then
      (s.setChange Chg.idle St.aborted).modProg fun p => { p with loaded := none, newPkg := none, loadBy := .quiet }
    else s
  -- a DALI transaction of the copy is sent again from its first forward frame (Table 13.11)
  let s := s.modWired fun w => { w with lines := w.lines.map fun (l : DaliLine) =>
    { l with queue := l.queue.map fun (t : DaliTxn) => { t with begun := false, again := false, tries := 1, by_ := .quiet } } }
  s.modProg fun p => { p with sects := p.sects.map Sect.abortCalls }

/-- Rover envelopes, DTLS records and grants go on above the copied numbers (R553, Table 13.11). -/
def State.takenRovers (s : State) : State :=
  let s := s.modGal fun g => { g with sessions := g.sessions.map fun p =>
    (p.1, if p.2.typ = 1 then { p.2 with recSeq := p.2.recSeq + 2 ^ 20 } else p.2) }
  let s := s.modFleet fun f => { f with rovers := f.rovers.map fun p =>
    (p.1, { p.2 with seqOut := p.2.seqOut + 4096, grantNum := p.2.grantNum + 256 }) }
  s.modPos fun p => { p with rovers := p.rovers.map fun q => (q.1, { q.2 with txSeq := q.2.txSeq + 4096 }) }

/-- The Follower becomes Lead at this boundary in the mode last copied (R556, R558). No frame of a swap lacks its LIGHT work (R562). -/
def State.becomeLead (s : State) (swap : Bool) : State :=
  let m := s.spl.copied
  let last := s.spl.leadLast
  let s := s.applyRecs.modSpl fun x => { x with writes := [] }
  let s := s.abandonCycle
  let s := s.takenOps.takenRovers.loopsTaken
  let s : State := { s with role := .lead }
  let s := s.modSpl fun x => { x with
    takeAt := none, relinquished := false, keep := true, held := [], unacked := [], partnerLead := false, hbSync := 0, ledAt := s.mono }
  let s := s.setMode m
  let s := ((if swap then (s.judgeTags true s.num).confirmAll else s.planeTaken).planeOn).restage
  let s := s.modProg fun p => { p with
    takeover := true, first := false, halted := m = .hold, running := false, begun := false }
  let s := if m = .run then s.fleetRun else s
  let s := (s.put F.SPL_STAT_SYNC 0).put F.SPL_STAT_PROTECTED 0
  let s := (s.put F.SPL_LAST_LO_FRAME (s.num % 2 ^ 32)).put F.SPL_LAST_HI_FRAME (s.num / 2 ^ 32)
  let s := iter (fun (s : State) => s.emitNow .gratuitousArp [(s.get F.SPL_VIP_ADDR : Int)]) 3 s
  s.log Sev.error 3 F.SPL_LAST_LO_FRAME (leBytes 6 last)

/-- TAKEOVER, at the start of the frame that opens with the takeover boundary. -/
def State.takeover (s : State) : State :=
  if !s.takeDue || !s.live || s.flag F.SPL_STAT_ROLE_IN || (s.flag F.SPL_STAT_PARTNER_HB && !s.spl.relinquished) then s
  else ((s.becomeLead false).inc F.SPL_CNT_TAKEOVERS).vitTrigger (some 3) 4

def execTakeover (s : State) : Res := s.act State.takeover

/-- RELINQUISH: the message arrives. -/
def execRelinquish (s : State) : Res :=
  s.act fun s => s.when (s.role = .follower && s.linkUp) fun s => s.modSpl fun x => { x with relinquished := true }

/-- LEAD_LOSS_DETECT: ROLE_IN is low, and the heartbeat is lost or a RELINQUISH has arrived. -/
def State.leadLoss (s : State) (us : Nat) : State :=
  if s.role ≠ .follower || s.mode ≠ .shadow || !s.live || (s.flag F.SPL_STAT_PARTNER_HB && !s.spl.relinquished) || s.spl.takeAt.isSome then s
  else
    let s := (s.atNs (1000 * us)).put F.SPL_STAT_ROLE_IN 0
    if s.eligible then
      let n := if us < 9000 then s.num + 1 else s.num + 2
      s.modSpl fun x => { x with takeAt := some n }
    else s.log Sev.critical 0 F.SPL_STAT_ROLE_IN []

def execLeadLossDetect (us : Nat) (s : State) : Res := s.act fun s => s.leadLoss us

/-- LEAD_CONFLICT (R545): a Lead of unit 1 has read ROLE_IN high for 10 ms. -/
def State.leadConflict (s : State) : State :=
  if s.role ≠ .lead || s.get F.SPL_CFG_UNIT ≠ 1 || !s.live || !s.mode.active then s
  else ((s.put F.SPL_STAT_ROLE_IN 1).modeReq .enterBasic .quiet).log Sev.critical 0 F.SPL_STAT_ROLE_IN []

def execLeadConflict (s : State) : Res := s.act State.leadConflict

/-- ROLE_IN_RISE (R559): a Lead in Basic becomes Follower. -/
def State.roleInRise (s : State) : State :=
  let s := s.put F.SPL_STAT_ROLE_IN 1
  if s.role = .lead && s.mode = .basic && s.live then ({ s with role := .follower }).put F.SPL_STAT_SYNC 0 else s

def execRoleInRise (s : State) : Res := s.act State.roleInRise

/-! ### Planned swap (R561, R562) -/

def splStat : Nat := F.SPL_CMD_STAT_STATUS.addr

/-- SPL_CMD. -/
def State.splCmd (s : State) (code confirm : Nat) : State × Nat :=
  if code ≠ 1 then (s, St.badArg)
  else if confirm ≠ confirmValue then (s, St.confirm)
  else if !s.live || !s.mode.active then (s, St.mode)
  else if s.role ≠ .lead then (s, St.notPaired)
  else if !s.partnerEligible then (s, St.notEligible)
  else if s.drv.axes.any (fun p => p.2.st.active) then (s, St.axesActive)
  else if s.spl.swapAt.isSome then (s, St.busy)
  else
    let n := s.swapFrame
    (s.modSpl fun x => { x with swapAt := some n, swapBy := .command splStat }, St.pending)

def State.splCommand (s : State) (code confirm : Nat) : State × Nat :=
  let (s, st) := s.splCmd code confirm
  (s.cmdStat F.SPL_CMD_STAT_CODE F.SPL_CMD_STAT_STATUS code st, st)

def execSwap (who : Requester) (confirm : Nat) (s : State) : Res :=
  s.act fun s => s.gate who 1 fun s => let (s, st) := s.splCommand 1 confirm; s.reply who st

/-- The old Lead at B_s: its last cycle has committed and its APPLY has gone. In a pair update it then restarts into its own READY
bank (Table 13.7). -/
def State.swapOut (s : State) : State :=
  let o := s.spl.swapBy
  let s := s.release fun _ => true
  let s : State := { s with role := .follower }
  let s := s.modSpl fun x => { x with swapAt := none, swapBy := .quiet, unacked := [], hbSync := 0, partnerLead := false, copied := s.mode }
  let s := (s.roleOut.emitNow .relinquish []).enterMode .shadow
  let s := ((s.put F.SPL_STAT_SYNC 0).put F.SPL_STAT_PROTECTED 0).inc F.SPL_CNT_SWAPS
  let s := (s.put F.SPL_LAST_LO_FRAME (s.num % 2 ^ 32)).put F.SPL_LAST_HI_FRAME (s.num / 2 ^ 32)
  let s := s.finish o St.done []
  if s.upd.kind = 3 then
    let by_ := s.upd.by_
    let s := (s.put F.UPD_STAT_STATUS St.done).finish by_ St.done []
    (s.modUpd fun u => { u with kind := 2, stage := 1, by_ := .quiet, peerLeft := false }).modeReq (.shutdown false) .quiet
  else s

/-- The new Lead at B_s: its first cycle starts there, with the inputs that the copy holds. -/
def State.swapIn (s : State) : State :=
  let s := ((s.put F.SPL_STAT_ROLE_IN 0).becomeLead true).inc F.SPL_CNT_SWAPS
  if s.cycleDue false then s.startCycle false true else s

/-- SWAP_BOUNDARY, at the start of the frame that B_s opens. -/
def State.swapBoundary (s : State) : State :=
  if !s.live then s
  else if s.role = .lead then (if s.swapDue then s.swapOut else s)
  else if s.eligible && s.spl.relinquished then s.swapIn
  else s

def execSwapBoundary (s : State) : Res := s.act State.swapBoundary

end Sys2Proof.Machine
end

