-- ==== Sys2Proof/Machine/Startup.lean ====
section
/-!
DEFINITION. Start-up (Table 02.9, R102 to R107), the results of the self-test (R603 to R608), and the events that reset the module
or end its operation (R502, R503, R574, R578, R591 to R594, R608, R618, R621).
-/
namespace Sys2Proof.Machine

/-! ### Findings of the self-test and of the reduced check (R605 to R607) -/

/-- The places of Table 14.7 that serve P0 to P3: their code memories. -/
def servesPlinth (f : Nat × Nat) : Bool := f.1 = 11 && decide (2 ≤ f.2) && decide (f.2 ≤ 5)
/-- Items whose failure ends start-up. -/
def endsStart (f : Nat × Nat) : Bool := decide (10 ≤ f.1) && decide (f.1 ≤ 13)

/-- A channel shows that a spare serves it. -/
def State.spares (s : State) : State :=
  let one := fun (s : State) (en ch : Fld) => if s.flag en then s.putB (F.MTR_CH_STAT_SPARE.at (s.get ch)) true else s
  one (one s F.BST_MOD_EN0 F.BST_MOD_CH0) F.BST_MOD_EN1 F.BST_MOD_CH1

/-- A spare takes the place of a failed block. -/
def State.repaired (s : State) (f : Fld) : State := (s.put F.BST_STAT_REPAIRED 1).log Sev.warning 0 f []

/-- A failed block without a free spare goes out of service. -/
def State.outOfService (s : State) (f : Nat × Nat) : State :=
  if s.bad f.1 f.2 then s.put F.BST_STAT_FAILED 1
  else
    let s : State := { s with bst := { s.bst with bad := s.bst.bad ++ [f] } }
    let s := (s.put F.BST_FAIL_ITEMS (withBit (s.get F.BST_FAIL_ITEMS) f.1 true)).put F.BST_STAT_FAILED 1
    s.log Sev.error 0 F.BST_FAIL_ITEMS []

/-- One block that failed. -/
def State.bstFinding (s : State) (f : Nat × Nat) : State :=
  match f.1 with
  | 0 =>
    if !s.flag F.BST_MOD_EN0 then (((s.put F.BST_MOD_EN0 1).put F.BST_MOD_CH0 f.2).spares).repaired F.BST_MOD_EN0
    else if !s.flag F.BST_MOD_EN1 then (((s.put F.BST_MOD_EN1 1).put F.BST_MOD_CH1 f.2).spares).repaired F.BST_MOD_EN1
    else s.outOfService f
  | 10 => if s.get (F.BST_GROWS_USED.at f.2) < 4 then (s.inc (F.BST_GROWS_USED.at f.2)).repaired (F.BST_GROWS_USED.at f.2)
    else s.outOfService f
  | 11 => if s.get (F.BST_EROWS_USED.at f.2) < 2 then (s.inc (F.BST_EROWS_USED.at f.2)).repaired (F.BST_EROWS_USED.at f.2)
    else s.outOfService f
  | _ => s.outOfService f

/-- The findings of a test, and the record that summarises them. -/
def State.bstResult (s : State) (last ms : Nat) (found : List (Nat × Nat)) : State :=
  let s := (((s.put F.BST_STAT_LAST last).put F.BST_STAT_REPAIRED 0).put F.BST_STAT_FAILED 0).put F.BST_STAT_DURATION (min 65535 ms)
  let s := found.foldl State.bstFinding s
  let sev := if s.flag F.BST_STAT_FAILED then Sev.error else if s.flag F.BST_STAT_REPAIRED then Sev.warning else Sev.info
  s.log sev 3 F.BST_FAIL_ITEMS (leBytes 4 (s.word 0 F.BST_MOD_EN0.addr))

/-! ### Steps 1 to 3: straps, tamper, the image bank (R565, R573, R591 to R593, R617) -/

/-- The Recovery ROM may run (R98, R573, R593). -/
def State.recoveryAllowed (s : State) : Bool := decide (s.keys.life ≠ .scrapped) && !s.mute

/-- The module runs the Recovery ROM, or is held as before the first mode. Only an orderly shutdown is followed by a quick start, so
the flag of an earlier one does not outlast this run (DEDUCED, log entry 64). -/
def State.noStart (s : State) : State :=
  let s := s.modFrame fun f => { f with recoveryStrap := false, orderlyFlag := false }
  if s.recoveryAllowed then (((s.unmask 22).enterMode .recovery).selectRoot).slotsAtStart
  else ({ s with phase := .dead }).log Sev.critical 0 F.KEY_STAT_KILLED [] |>.drainLog

/-- Strap return (Table 14.1). -/
def State.strapReturn (s : State) : State :=
  ((s.clearOwner).modKeys fun k => { k with life := .returned }).obsLife

/-- The tamper latch, the lands and the mesh in step 2: the keys of this start are formed later. -/
def State.tamperAtStart (s : State) : State :=
  ((s.tamperKeys).modKeys fun k => { k with zeroised := false }).put F.KEY_STAT_LATCH 0

/-- Try the banks in order: the first valid one starts. -/
def State.tryBanks (s : State) (ok : List Bool) : List Nat → State × Option Nat
  | [] => (s, none)
  | b :: l =>
    let s := if (s.bank b).st = BankSt.trial then s.setBank b { s.bank b with st := BankSt.tried } else s
    let v := ok.getD b false
    if s.imageVerdict (s.bank b) v v = 0 then (s, some b)
    else (s.setBank b { s.bank b with st := BankSt.rejected }).tryBanks ok l

/-- The bank that starts (R565). -/
def State.selectBank (s : State) (ok : List Bool) : State × Option Nat :=
  let s := [0, 1].foldl (fun (s : State) b =>
    if (s.bank b).st = BankSt.tried then s.setBank b { s.bank b with st := BankSt.rejected } else s) s
  let cand := [0, 1].filter fun b => (s.bank b).st = BankSt.trial || (s.bank b).st = BankSt.good
  s.tryBanks ok (if (s.bank 0).gen < (s.bank 1).gen then cand.reverse else cand)

/-! ### Steps 4 to 8 -/

/-- The kind of a start (SYS_START.KIND). -/
def State.startKind (s : State) : Nat :=
  if s.keys.life = .blank && s.keys.dsec = 0 then 2 else if s.frame.orderlyFlag then 0 else 1

/-- Step 4 (R41, R107, R582, R595). -/
def State.startCurator (s : State) (i : StartIn) (bank kind : Nat) : State :=
  let seed := i.seed % 2 ^ 32
  -- K0 alone leaves reset before the seed is written (R41)
  let s := ((s.unmask 22).lfsrWrite (if seed = 0 then 1 else seed)).put F.LOG_PWRCYC_COUNT (s.get F.LOG_PWRCYC_COUNT + 1)
  let s := (s.modUpd fun u => { u with active := bank }).modKeys fun k =>
    if kind = 2 then { k with dsec := 1, secret := s.free } else k
  let s : State := if kind = 2 then { s with free := s.free + 8 } else s
  let s := (((s.put F.SYS_START_KIND kind).putB F.SYS_START_ORDERLY_PREV s.frame.orderlyFlag).put F.SYS_START_BANK bank).putB
    F.SYS_START_BIST_STALE (kind ≠ 0)
  s.modFrame fun f => { f with orderlyFlag := false }

/-- Step 5: a reduced start adds the findings of the reduced check to the repair table. -/
def State.startCheck (s : State) (i : StartIn) (kind : Nat) : State :=
  let s := if kind = 0 then s else s.bstResult 2 i.ms (i.fails.filter endsStart)
  (s.spares).putB F.KEY_STAT_KAT_OK (!s.bad 13 0)

/-- A site configuration within the capacities of Table 00.1, whose track graph breaks no rule of R389. -/
def Site.ok (x : Site) : Bool :=
  decide (x.nodes.length ≤ 4096) && x.nodes.all (fun n => decide (n.1 < 4096) && decide (n.2.2 < 1024))
    && decide (x.sensors.length ≤ 1024) && x.sensors.all (fun n => decide (n.1 < 1024))
    && x.graph.fits && x.graph.ok

/-- The site configuration that step 7 finds in place of the one of the last run. One beyond the capacities is refused, and the one in
force stays (R2). -/
def State.readSite (s : State) (x : Site) : State :=
  if !x.ok then s else
  let s := s.modLight fun l => { l with nodes := x.nodes.foldl (fun (m : SMap Node) n =>
    let old := SMap.getD l.nodes n.1 {}
    SMap.insert m n.1 { old with group := n.2.2, nocal := !calOk old.cal }) [] }
  let s := s.modNet fun n => { n with
    serials := x.nodes.foldl (fun (m : SMap Nat) y => SMap.insert m y.1 y.2.1) []
    relays := x.relays
    sensors := x.sensors.foldl (fun (m : SMap Sensor) y =>
      SMap.insert m y.1 { serial := y.2.1, sleeping := y.2.2.1, iw := y.2.2.2 }) [] }
  let s := s.modWired fun w => { w with idents := x.idents.foldl (fun (m : SMap Nat) y => SMap.insert m y.1 y.2) [] }
  s.modFleet fun f => { f with graph := x.graph, valid := decide (x.graph.segments ≠ []) }

/-- A luminaire node is in service while its association is ACTIVE. -/
def State.nodesOnline (s : State) : State :=
  s.modLight fun l => { l with nodes := l.nodes.map fun p =>
    (p.1, { p.2 with online := s.net.radios.any fun x => (SMap.vals x.assocs).any fun a => a.st = 2 && !a.sensor && a.slot = p.1 }) }

/-- Crystal periods without VIN: the count with its trim, the end of a month with a leap second pending, and the passage past
2399 (R463 to R466). -/
def State.rtcAway (s : State) (n : Nat) : State :=
  let r := s.rtc
  let acc := r.trimAcc + (n : Int) * r.trim
  let extra := fdiv acc trimWindow
  let sub := ((r.t.sub : Int) + n + extra).toNat
  let c := civil r.t.secs
  let last := secsOf c.year c.month (monthLen c.year c.month) 23 59 59
  let mode := s.get F.RTC_LEAP_MODE
  let t := r.t.secs + sub / 32768
  let ins := mode = 1 && !r.t.in60 && decide (last < t)
  let del := mode = 2 && decide (last ≤ t)
  let s := if ins || del then s.put F.RTC_LEAP_MODE 0 else s
  let t := if r.t.in60 && decide (r.t.secs < t) then t else if ins then t - 1 else if del then t + 1 else t
  let s := if rtcLast < t then s.put F.RTC_STAT_OSF 1 else s
  let now : RtcT := ⟨if rtcLast < t then t - (rtcLast + 1) else t, (ins && decide (t = last)) || (r.t.in60 && decide (t = r.t.secs)), sub % 32768⟩
  s.modRtc fun r => { r with t := now, trimAcc := acc - extra * trimWindow }

/-- Step 7: the log, what MRAM keeps, module time from the RTC (R434, R505, R595). -/
def State.startRestore (s : State) (i : StartIn) : State :=
  let s := s.modRecs fun r => { r with
    torn := r.torn + i.torn
    optime := Nat.max r.savedOptime (maxN (r.held.map LogRec.optime)) }
  let s := s.put F.LOG_CNT_TORN (min 255 s.recs.torn)
  let s := match i.site with
    | some x => s.readSite x
    | none => s
  let s := s.netRestore.nodesOnline
  let t := s.rtcSeed
  let s := s.modFrame fun f => { f with start := t / 10000000 * 10000000, off := t % 10000000, num := t / 10000000 }
  -- the clocks of the Gallery count on from the new origin of time
  let s := s.modGal fun g => { g with lfsrAt := s.galClock }
  let s := (s.modTime fun x => { x with tBase := t, stepSum := t, seeded := !s.flag F.RTC_STAT_OSF }).utcEval.todEval
  s.meterRestore

/-- Step 8: engines and time sources run, and the frame schedule (R74). -/
def State.startFrames (s : State) (i : StartIn) (kind bank : Nat) : State :=
  let s := (s.selectRoot).slotsAtStart.stopKeyStart
  let s := if s.keys.life = .scrapped then s else s.ptpStart.meterRun true
  -- every engine but P0–P3 leaves reset
  let s := s.modGal fun g => { g with masked := [2, 3, 4, 5] }
  let s := ((s.startPass).maskPlinth).rtcUnlock
  let s := s.putB F.RTC_STAT_VBAT_LOW i.vbatLow
  let s := (s.put F.SYS_START_DURATION (min 65535 i.ms)).log Sev.info 3 F.SYS_START_KIND
    (kind :: leBytes 2 (min 65535 i.ms) ++ [s.get F.SYS_START_ORDERLY_PREV])
  let s := if s.mute then s.log Sev.critical 0 F.KEY_STAT_KILLED [] else s
  let s := s.modUpd fun u => { u with since := if (s.bank bank).st = BankSt.tried then some s.mono else none }
  let s := s.modFrame fun f => { f with
    plinthUnusable := s.bst.bad.any servesPlinth, recoveryStrap := false, phaseAt := s.mono }
  (({ s with phase := .waitAlign }).modeCause).drainLog

/-- START_UP: steps 1 to 8 of Table 02.9. -/
def State.startUp (s : State) (i : StartIn) : State :=
  let s := s.rtcAway i.crystal
  let s := if i.tamper || s.flag F.KEY_STAT_LATCH then s.tamperAtStart else s
  let l := s.keys.life
  let back := s.keys.killed && i.recoveryLow && i.shdnLow && (l = .blank || l = .provisioned || l = .deployed)
  let s := if back then s.strapReturn else s
  if (i.recoveryLow || s.frame.recoveryStrap) && !back && s.recoveryAllowed then s.noStart
  else
    match s.selectBank i.imageOk with
    | (s, none) => s.noStart
    | (s, some b) =>
      let k := s.startKind
      let s := (s.startCurator i b k).startCheck i k
      if s.bst.bad.any (fun f => endsStart f && !servesPlinth f) || !i.codeOk then s.noStart
      else
        let s := s.startRestore i
        -- Plinth code that does not compare ends start-up in Basic (R104)
        let s := s.startFrames i k b
        if i.plinthOk then s else s.modFrame fun f => { f with plinthUnusable := true }

def execStartUp (i : StartIn) (s : State) : Res := s.act fun s => s.when (s.phase = .reset) fun s => s.startUp i

/-! ### Steps 9 and 10 (R105, R544) -/

/-- Step 10 begins; without a pair the role is Solo at once (R97). -/
def State.toResolve (s : State) : State :=
  if s.flag F.SPL_CFG_PAIR && (s.keys.life = .provisioned || s.keys.life = .deployed) then
    ({ s with phase := .resolve }).modFrame fun f => { f with phaseAt := s.mono }
  else
    let s := if s.flag F.SPL_CFG_PAIR then s.log Sev.warning 0 F.SPL_CFG_PAIR [] else s
    { s with role := .solo, phase := .enter }

def execTimeWaitExpiry (s : State) : Res :=
  s.act fun s => s.when (s.phase = .waitAlign && s.past (s.frame.phaseAt + s.get F.SYS_BOOT_TIME_WAIT * 1000000000)) State.toResolve

/-- ROLE_RESOLVE: the listening window ends. -/
def State.roleResolve (s : State) (roleIn : Bool) : State :=
  let s := s.putB F.SPL_STAT_ROLE_IN roleIn
  if s.spl.partnerLead then { s with role := .follower, phase := .enter }
  else if roleIn then ({ s with role := .follower, phase := .enter }).put F.SPL_STAT_SYNC 3
  else { s with role := .lead, phase := .enter }

def execRoleResolve (roleIn : Bool) (s : State) : Res :=
  s.act fun s => s.when (s.phase = .resolve
    && s.past (s.frame.phaseAt + s.get F.SPL_CFG_RESOLVE * 100000000 * (1 + s.get F.SPL_CFG_UNIT))) fun s => s.roleResolve roleIn

/-! ### Step 11 -/

/-- The newest package of the active bank comes into force, with its retained data and its forces (R147, R164, R566). -/
def State.startProgram (s : State) : State :=
  match (s.bank s.upd.active).newestPkg with
  | none => s
  | some p =>
    if !s.pkgOk p then s
    else if !s.planOk p then s.log Sev.error 0 F.PLX_STAT_PROG_VALID []
    else
      let s := (s.installPkg p).restoreRetained
      if s.prog.forces = [] then s
      else (s.applyForces).log Sev.warning 0 F.PLX_STAT_FORCES (leBytes 4 s.prog.forces.length)

/-- The first mode, at a frame boundary: the start decision. -/
def State.enterFirst (s : State) : State :=
  let s := s.startProgram
  let l := s.keys.life
  let s := s.modSpl fun x => { x with keep := true }
  let s := if l = .scrapped then s.toBasic 7 0
    else if s.mute || s.keys.zeroised then s.toBasic 3 0
    else if s.frame.plinthUnusable then s.toBasic 4 0
    else if s.role = .follower then s.enterMode .shadow
    else if s.prog.pkg.isSome && s.flag F.SYS_BOOT_AUTORUN && (l = .provisioned || l = .deployed)
        && (s.aligned || s.flag F.SYS_BOOT_RUN_UNALIGNED) then s.enterMode .run
    else s.enterMode .stop
  (s.modFrame fun f => { f with modeReqs := [] }).drainLog

/-! ### Reset, loss of supply, and what ends the operation -/

def execReset (s : State) : Res := s.actMem State.toReset
def execVinLoss (s : State) : Res := s.actMem fun s => s.rtcLock.toReset
/-- THERMAL_SHUTDOWN (R628): the next start is reduced, with ORDERLY_PREV 0. -/
def execThermalShutdown (s : State) : Res := s.actMem fun s => (s.modFrame fun f => { f with orderlyFlag := false }).toReset

/-- The self-test ends without its flag (R608). -/
def State.testEnded (s : State) : State :=
  if s.phase ≠ .shutdown then s
  else (({ s with phase := .halted }).modFrame fun f => { f with orderlyFlag := false, restartAfter := false }).modeCause

/-- POWER_FAIL (R468, R502, R608): the marker, the lockout of the RTC, and the flush. -/
def State.powerFail (s : State) (at_ : Nat) (samples : List MSamp) (hold : Bool) : State :=
  if !s.framesOn then s.rtcLock
  else
    let s := s.atNs at_
    let s := s.modMeter fun m => { m with marker := some s.now }
    let s := s.rtcLock
    -- the partial frame, up to the instant of recognition
    let s := if hold then (s.meterFrame s.num s.frame.start s.frame.off true samples).flush else s.drainLog.flushLost
    s.testEnded

/-- POWER_FAIL: `at_` ns into the frame PFW_N has been low for 20 µs; `samples` are those of the frame so far, and `hold` says that the
supply lasts until the flush is complete. -/
def execPowerFail (s : State) (at_ : Nat := 0) (samples : List MSamp := []) (hold : Bool := true) : Res :=
  s.act fun s => s.when (s.phase ≠ .reset) fun s => s.powerFail at_ samples hold

/-- POWER_RESTORE (R468, R503): VIN has been good for 20 ms with PFW_N high. -/
def execPowerRestore (s : State) : Res :=
  s.act fun s => s.when (s.phase ≠ .reset) fun s =>
    s.rtcUnlock.retainedResume.modMeter fun m => { m with resumeDue := s.flag F.MTR_STAT_SUSPENDED && s.framesOn }

/-- Y0_MODULE_RESET (R84): Y0 has declared Stop for want of a mailbox for 100 ms while neither core runs. -/
def execY0ModuleReset (s : State) : Res :=
  s.actMem fun s => match s.stp.curatorAt with
    | some t => s.when (s.past (t + 100000000) && !s.beatCore) State.toReset
    | none => s

/-- SELF_TEST_COMPLETE: the results, the flag, and the halt or the reset of RESTART (R107, R108, R607). -/
def State.selfTestComplete (s : State) (found : List (Nat × Nat)) (ms : Nat) : State :=
  let s : State := { s with bst := { s.bst with bad := [] } }
  let s := (s.put F.BST_FAIL_ITEMS 0).bstResult 1 ms found
  let s := ((s.put F.SYS_START_BIST_STALE 0).modFrame fun f => { f with orderlyFlag := !s.keys.scan }).drainLog
  if s.frame.restartAfter then s.trialAtReset.toReset else ({ s with phase := .halted }).modeCause

def execSelfTestComplete (found : List (Nat × Nat)) (ms : Nat) (s : State) : Res :=
  s.actReset fun s => s.when (s.phase = .shutdown) fun s => s.selfTestComplete found ms

/-- RECOVERY_RESET (R574): 100 ms after the response to the last part. -/
def execRecoveryReset (s : State) : Res :=
  s.actMem fun s => s.when (s.mode = .recovery && s.live && s.upd.resetDue) State.toReset

/-- FUSE_PROGRAM_COMPLETE (R578): the restart that follows is as by RESET_N, and the next start is reduced. -/
def execFuseProgramComplete (s : State) : Res :=
  s.actReset fun s => match s.keys.fuse with
    | some l => (((s.fuseDone l).drainLog).modFrame fun f => { f with orderlyFlag := false }).toReset
    | none => s

/-- Every session context ends with its key (R591). -/
def State.sessionsGone (s : State) : State :=
  let rs := roverIds.filter fun r => (s.rovPos r).ctx.isSome
  let s := s.modGal fun g => { g with sessions := [] }
  rs.foldl (fun (s : State) r => s.roverClosed r) s

/-- TAMPER_EVENT (R591 to R594, R608). -/
def State.tamperEvent (s : State) : State :=
  let s := s.sessionsGone.tamperKeys
  if s.phase = .running && s.mode = .recovery then s.toReset
  else if s.phase = .shutdown then ({ s.testEnded with mode := .basic }).put F.SYS_MODE_CAUSE 3 |>.modeCause
  else if s.live then s.modeReq .tamper .quiet
  else s

def execTamperEvent (s : State) : Res := s.actReset fun s => s.when (s.phase ≠ .reset) State.tamperEvent

end Sys2Proof.Machine
end

