-- ==== Sys2Proof/Machine/Frame.lean ====
section
/-!
DEFINITION. The frame boundary (R69 to R79): the end of a frame, the number of the next, realignment, and what happens at the boundary,
in the order of R121 where the rules give one.
-/
namespace Sys2Proof.Machine

/-- A frame boundary without a frame schedule, as in Recovery, in Scrapped or in a halt: time passes. A Scrapped module enters its Basic. -/
def State.boundaryOff (s : State) (i : FrameIn) : State :=
  let s := s.modFrame fun f => { f with num := f.num + 1, start := f.start + frameNs, off := 0 }
  let s := ((s.optimeAdvance frameNs).rtcFrame i.crystal).putB F.RTC_STAT_VBAT_LOW i.vbatLow
  if s.keys.life = .scrapped && s.phase = .waitAlign then s.enterFirst else s

/-- The work of the frame that ends (Table 02.1): its deadlines met, its Vitrine entry, the heartbeat and the mailbox, the allotter, the
samples of its metering, its PWM periods and its radio slots. -/
def State.frameEnds (s : State) (i : FrameIn) : State :=
  let f := s.frame
  let s := (s.modSpl fun x => { x with keep := i.keepAlive }).roleOut
  let s := (s.classesOnTime).vitFrame f.num i
  let s := ((s.beatWork (f.late.contains 3)).fleetFrame).declDone
  let s := s.meterFrame f.num f.start (s.frameEnd - f.start) f.transitional i.samples
  (s.axesCompute).pwmEndFrame.radiosEnd

/-- The realignment at B (R75, R78, R248): its record and registers, and what counts in frame numbers. `old` is the number of the
transitional frame. -/
def State.realigned (s : State) (old k : Nat) : State :=
  let s := (((s.put F.FRM_REALIGN_OLD_LO_NUM (old % 2 ^ 32)).put F.FRM_REALIGN_OLD_HI_NUM (old / 2 ^ 32)).put F.FRM_REALIGN_NEW_LO_NUM
    (k % 2 ^ 32)).put F.FRM_REALIGN_NEW_HI_NUM (k / 2 ^ 32)
  let s := (s.inc F.FRM_STAT_REALIGNS).put F.FRM_STAT_ALIGNED 1
  let back := decide (k < old + 1)
  let s := if back then s.put F.FRM_STAT_BACKWARD 1 else s
  let s := s.log (if back then Sev.error else Sev.info) 3 F.FRM_REALIGN_NEW_LO_NUM (leBytes 6 old ++ leBytes 6 k)
  let s := s.planeRealign old k
  let mv := fun (b : Nat) => b + k - (old + 1)
  let s := s.modSpl fun x => { x with takeAt := x.takeAt.map mv, swapAt := x.swapAt.map mv }
  s.modFrame fun f => { f with modeReqs := f.modeReqs.map fun r => { r with at_ := k + 2 ^ 60 } }

/-- The next frame begins: its number and start, clocks, positioning. -/
def State.nextFrame (s : State) (i : FrameIn) : State :=
  let old := s.num
  let stop := s.frameEnd
  let len := stop - s.frame.start
  let re := s.frame.realign
  let s := s.modFrame fun f => { f with
    num := re.getD (old + 1), start := stop, off := 0, realign := none, transitional := false, late := [], periods := [], missed := [] }
  let s := match re with
    | some k => s.realigned old k
    | none => s
  let s := ((s.optimeAdvance len).rtcFrame i.crystal).putB F.RTC_STAT_VBAT_LOW i.vbatLow
  let s := s.timeFrame len
  let s := if s.num % 10 = 0 then s.epochStart else if s.num % 10 = 8 then s.fixBoundary else s
  s.fixImage

/-- The program at the boundary, after the mode (R119 to R121, R150, R154, R155, R162). `ran`: the module ran the program before this
boundary, in Run or in Hold; `repeated`: the exchange of this boundary discards its inputs; `committed`: a cycle committed here. A
Follower takes all of it with the Lead's copy (R166, R167). DESIGN CHOICE (log entry 101): a boundary that opens a short cycle latches
an input image and so applies change sets, and not force changes, which wait for a cycle boundary. -/
def State.programBoundary (s : State) (ran realigned skipped repeated committed : Bool) : State :=
  if s.role = .follower then s else
  let s := ((s.applyExchange (skipped || repeated)).loadBoundary).switchWork skipped
  let edge := s.num % s.cycLen = 0
  let starts := ran && !skipped && s.cycleDue realigned && !s.swapDue
  let s := if starts || (s.mode = .stop && edge) then s.changesDue else s
  let s := if s.mode ≠ .run || edge then s.forcesDue else s
  if starts then s.startCycle (realigned && decide (s.num % s.cycLen ≠ 0)) committed else s

/-- What the boundary decides: effects of the lighting plane, the commit, the mode, the program. -/
def State.boundary (s : State) (lightOk realigned : Bool) : State :=
  let s := s.lightBoundary lightOk
  let begun := s.prog.begun
  let repeated := s.repeated realigned
  let ran := s.live && (s.mode = .run || s.mode = .hold)
  let (s, skipped) := (s.modFrame fun f => { f with committing := true }).cycleCommit realigned
  let s := s.modFrame fun f => { f with committing := false }
  let committed := begun && !s.prog.begun
  let ends := decide (s.num % s.cycLen = 0) || committed
  let s := match s.phase with
    | .running => s.modeBoundary ends
    | .waitAlign => if s.aligned then s.toResolve else s
    | .enter => s.enterFirst
    | _ => s
  if s.live then s.programBoundary ran realigned skipped repeated committed else s

/-- The work at 0 µs of the new frame: staging, radios, local drive, axes, metering, update, pair. -/
def State.frameBegins (s : State) (i : FrameIn) (realigned : Bool) : State :=
  let s := s.recipeSwitch.lightWork
  let s := (s.buildExclusions.nodeTraffic).radiosBegin realigned
  let s := if s.live then (s.driveFrame i.lbt).axesFrame else if s.phase = .shutdown then s else s.lbtWork i.lbt
  let s := (s.meterResume.updFrame).pairFrame
  (s.modDrv fun d => { d with tick := 0 }).modPos fun p => { p with tick := 0 }

/-- FRAME_BOUNDARY. -/
def State.frameBoundary (s : State) (i : FrameIn) : State :=
  if s.phase = .reset then s
  else if !s.framesOn then s.boundaryOff i
  else
    let lightOk := !s.frame.late.contains 1
    let re := s.frame.realign.isSome
    let s := ((s.frameEnds i).restartEngines.nextFrame i).solveDeadline.boundary lightOk re
    if s.framesOn then s.frameBegins i re else s

def execFrameBoundary (i : FrameIn) (s : State) : Res := s.actReset fun s => s.frameBoundary i

end Sys2Proof.Machine
end

