-- ==== Sys2Proof/Machine/Registers.lean ====
section
/-!
DEFINITION. Reading and writing registers: access codes (Table 00.5), the judgement of a write as a whole (R13, R634), and what
the registers of each block do when they are read or written.
-/
namespace Sys2Proof.Machine

/-! ### The judgement of a write -/

/-- What a word gives a field. -/
def Fld.sub (f : Fld) (w : Nat) : Nat := w / 2 ^ f.lo % 2 ^ f.width

/-- A write of a register: its description and indices, the word, and who writes. -/
structure RegWrite where
  r : RegDesc
  i : Nat
  j : Nat
  w : Nat
  who : Requester
  deriving DecidableEq, Repr

/-- Fields that are read-only for some indices: RAD_CFG.BAND of RAD4 and RAD5, MTR_CH_CFG.GAINMODE of voltage channels, the
limits of classes 0 and 9, the deadlines of every class but 0 (Tables 02.11, 06.19 and 11.8). -/
def FieldDesc.fixed (d : FieldDesc) (i : Nat) : Bool :=
  (d.fld.key = F.RAD_CFG_BAND.key && decide (4 ≤ i)) || (d.fld.key = F.MTR_CH_CFG_GAINMODE.key && decide (i % 7 < 3))
    || (d.fld.key = F.FRM_DCLS_LIMIT_LIMIT.key && (i = 0 || i = 9)) || (d.fld.key = F.FRM_DCLS_DEADLINE_DEADLINE.key && decide (i ≠ 0))

/-- A write that carries the present value of an LCK field is not a write to it (R13). -/
def State.changes (s : State) (x : RegWrite) (f : Fld) : Bool := f.sub x.w ≠ s.get (f.at2 x.i x.j)

/-- A value outside the range that the register table states. -/
def FieldDesc.outside (d : FieldDesc) (v : Nat) : Bool :=
  match d.range with
  | none => false
  | some (lo, hi) =>
    let z : Int := if lo < 0 then toInt d.fld.width v else v
    decide (z < lo) || decide (hi < z)

/-- The least role of a write (R531): 2 ENGINEERING, 1 OPERATOR. SYS_CMD and the debug registers have rules of their own (R142). -/
def writeRole (addr : Nat) : Nat :=
  if addr = 0x0000C then 0
  else if addr = 0xD0018 || addr = 0xE0008 || addr = 0x100030 || addr / 65536 = 0x18 then 2 else 1

/-- REJECTED_ACCESS: the role, and for breakpoints and STEP the rule of R142. SID 0 writes nothing (R527). -/
def State.writeAccess (s : State) (x : RegWrite) : Bool :=
  decide (x.who ≠ .sid0) && decide (writeRole x.r.addr ≤ s.roleOf x.who)
    && (x.r.addr ≠ 0x50210 || s.debugOk x.who) && (x.r.addr ≠ 0x50200 || !bit x.w 31 || s.debugOk x.who)

/-- The group and zone registers of the lighting plane, which are writable in every mode except Recovery (R263). -/
def groupReg (a : Nat) : Bool := decide (0x61000 ≤ a) && decide (a < 0x70000)

/-- REJECTED_MODE: an LCK field that would change outside its modes; in Recovery a session writes GAL_LFSR alone (R534), and nobody the
group and zone registers. -/
def State.writeMode (s : State) (x : RegWrite) : Bool :=
  (!(s.live && decide (s.mode = .recovery)) || (match x.who with
    | .engine _ => !groupReg x.r.addr
    | _ => x.r.addr = 0x10000))
    && x.r.fields.all fun d => match d.acc with
      | .lck modes => d.fixed x.i || !s.changes x d.fld || (s.live && modes.contains s.mode)
      | _ => true

/-- Every field that the write changes lies in its range. -/
def State.writeRange (s : State) (x : RegWrite) : Bool :=
  x.r.fields.all fun d => match d.acc with
    | .lck _ => d.fixed x.i || !s.changes x d.fld || !d.outside (d.fld.sub x.w)
    | .rw => !d.outside (d.fld.sub x.w)
    | _ => true

/-- The checks common to every register, in the order of R634. -/
def State.judge (s : State) (x : RegWrite) : Nat :=
  if !s.writeAccess x then St.access
  else if !s.writeMode x then St.mode
  else if !s.writeRange x then St.badArg
  else St.done

/-- The fields take the word by their access codes (Table 00.5). -/
def State.store (s : State) (x : RegWrite) : State :=
  x.r.fields.foldl (fun (s : State) d =>
    let f := d.fld.at2 x.i x.j
    let v := d.fld.sub x.w
    if d.fixed x.i then s
    else match d.acc with
      | .rw | .lck _ => s.put f v
      | .rws => s.put f (Nat.land (s.get f) v)
      | .w1c => s.put f (s.get f - Nat.land (s.get f) v)
      | .ro | .wo | .rc => s) s

def State.stored (s : State) (x : RegWrite) : State × Nat := (s.store x, St.done)

/-- Store, where a check of the owning chapter holds; else refuse. -/
def State.storeIf (s : State) (x : RegWrite) (ok : Bool) (st : Nat) : State × Nat := if ok then s.stored x else (s, st)

/-- The engine number under which a requester reaches a FIFO; a session has none (R49). -/
def Requester.bus : Requester → Nat
  | .engine e => e
  | _ => 32

/-! ### What a write does, block by block -/

def State.wrSys (s : State) (x : RegWrite) : State × Nat :=
  if x.r.addr = 0x0000C then s.sysCommand x.who (F.SYS_CMD_CODE.sub x.w) (F.SYS_CMD_CONFIRM.sub x.w) else s.stored x

/-- GAL_LFSR refuses 0; a quota is judged by R62. -/
def State.wrGal (s : State) (x : RegWrite) : State × Nat :=
  if x.r.addr = 0x10000 then if x.w = 0 then (s, St.badArg) else (s.lfsrWrite (F.GAL_LFSR_STATE.sub x.w), St.done)
  else if x.r.addr = 0x18010 then s.setQuota x.i (F.GAL_SESS_QUOTA_MIN.sub x.w) (F.GAL_SESS_QUOTA_MAX.sub x.w)
  else s.stored x

def State.wrSem (s : State) (x : RegWrite) : State × Nat :=
  if x.r.addr = 0x20000 then (s.semRelease x.i x.who (BitVec.ofNat 32 x.w), St.done)
  else if x.r.addr = 0x20800 && bit x.w 31 then s.semForce (BitVec.ofNat 32 x.w)
  else s.stored x

def State.wrFif (s : State) (x : RegWrite) : State × Nat :=
  let e := x.who.bus
  if x.r.addr = 0x30000 then (s.fifoPushLo x.i e x.w none, St.done)
  else if x.r.addr = 0x30004 then (s.fifoPushHi x.i e x.w false none, St.done)
  else if x.r.addr = 0x30008 then (s.fifoPushHi x.i e x.w true none, St.done)
  else if x.r.addr = 0x30018 then (s.fifoCmd x.i e x.w, St.done)
  else if x.r.addr = 0x30024 then s.fifoCfg x.i x.w
  else s.stored x

/-- The plans of the package in force and of a package loaded for a switch fit (R129). -/
def State.plansFit (s : State) (deadline retry : Nat) : Bool :=
  [s.prog.pkg, s.prog.newPkg, if s.get F.PLX_CHG_STATE = Chg.loading then none else s.prog.loaded].all fun p => match p with
    | some p => p.planFits deadline retry
    | none => true

/-- FRM_DCLS DEADLINE of class 0: 9,000 to 9,800 µs, and the station plans fit (R129, Table 02.11). -/
def State.wrFrm (s : State) (x : RegWrite) : State × Nat :=
  if x.r.addr = 0x4010C && x.i = 0 && s.changes x F.FRM_DCLS_DEADLINE_DEADLINE then
    let d := F.FRM_DCLS_DEADLINE_DEADLINE.sub x.w
    s.storeIf x (decide (9000 ≤ d) && decide (d ≤ 9800) && s.plansFit d (s.get F.CLB_CFG_RETRY)) St.badArg
  else s.stored x

/-- PLX_DBG: the section is stored, then STEP acts on it (R140). -/
def State.wrPlx (s : State) (x : RegWrite) : State × Nat :=
  if x.r.addr = 0x50200 && bit x.w 31 then
    let (t, st) := (s.store x).stepCmd x.who
    if st = St.done then (t, st) else (s, st)
  else s.stored x

/-- Nodes that a condition picks get their fallback schedule anew (R259). -/
def State.fbAgain (s : State) (p : Node → Bool) : State :=
  s.modLight fun l => { l with nodes := l.nodes.map fun q => (q.1, if p q.2 then { q.2 with fbSent := false } else q.2) }

/-- LGT_GRP_CFG: a fallback recipe keeps R260; a change of LANYARD acts while Stop stays declared (R228). -/
def State.wrGroup (s : State) (x : RegWrite) : State × Nat :=
  let fb := F.LGT_GRP_CFG_FB_RECIPE
  let en := F.LGT_GRP_CFG_FB_EN
  if en.sub x.w = 1 && !fallbackOk (SMap.getD s.light.recipes (fb.sub x.w) []) then (s, St.fallbackInvalid)
  else
    let t := s.store x
    let t := if s.changes x F.LGT_GRP_CFG_LANYARD then t.planeLanyardGroup x.i else t
    (if s.changes x fb || s.changes x en then t.fbAgain fun n => n.group = x.i else t, St.done)

def State.segDefined (s : State) (valid : Fld) (seg : Fld) (w : Nat) : Bool := valid.sub w = 0 || (s.segment (seg.sub w)).isSome

/-- The LGT registers (R213, R250, R254, R259, R263). -/
def State.wrLgt (s : State) (x : RegWrite) : State × Nat :=
  let a := x.r.addr
  let rk := x.who.key
  if a = 0x60004 then
    let fast := F.LGT_LEAD_FAST.sub x.w
    s.storeIf x (!(s.changes x F.LGT_LEAD_FAST || s.changes x F.LGT_LEAD_FRAMES) || decide (s.get F.LGT_GRACE_CATCHUP ≤ fast) && decide (fast ≤ F.LGT_LEAD_FRAMES.sub x.w)) St.leadOrder
  else if a = 0x60008 then
    if s.changes x F.LGT_GRACE_GRACE && F.LGT_GRACE_GRACE.sub x.w < 4 && s.flag F.SPL_CFG_PAIR then (s, St.badArg)
    else s.storeIf x (!s.changes x F.LGT_GRACE_CATCHUP || decide (F.LGT_GRACE_CATCHUP.sub x.w ≤ s.get F.LGT_LEAD_FAST)) St.leadOrder
  else if a = 0x60018 then
    let t := s.store x
    (if s.changes x F.LGT_TZ_OFFSET then t.fbAgain fun _ => true else t, St.done)
  else if a = 0x60080 then (s.selNode rk x.w, St.done)
  else if a = 0x60180 then (s.selStaging rk x.w, St.done)
  else if a = 0x60300 then if bit x.w 31 then s.calStore rk x.w else (s.calLoad rk x.w, St.done)
  else if a = 0x60380 then (s.setLatch Win.cal rk (putWord (s.latched Win.cal rk) 32 x.i x.w), St.done)
  else if a = 0x61000 then s.wrGroup x
  else if a = 0x68018 then
    s.storeIf x (s.segDefined F.LGT_ZN_SEG_V0 F.LGT_ZN_SEG_SEG0 x.w && s.segDefined F.LGT_ZN_SEG_V1 F.LGT_ZN_SEG_SEG1 x.w) St.zoneInvalid
  else s.stored x

/-- (RETRIES + 1) × SPACING stays below TIMEOUT (R291). -/
def budgetOk (retries spacing timeout : Nat) : Bool := decide ((retries + 1) * spacing < timeout)

/-- The NET registers (R291, R292, R298, R306). -/
def State.wrNet (s : State) (x : RegWrite) : State × Nat :=
  let a := x.r.addr
  if a = 0x70000 then
    let t := F.NET_TXN_TIMEOUT.sub x.w
    if t ≤ F.NET_TXN_RESEND.sub x.w then (s, St.badArg)
    else s.storeIf x (budgetOk (s.get F.NET_MAC_RETRIES) (s.get F.NET_MAC_SPACING) t) 0x0701
  else if a = 0x70004 then
    s.storeIf x (budgetOk (F.NET_MAC_RETRIES.sub x.w) (F.NET_MAC_SPACING.sub x.w) (s.get F.NET_TXN_TIMEOUT)) 0x0701
  else if a = 0x70008 then s.storeIf x (decide (3 * s.get F.NET_REPORT_PERIOD < F.NET_SUPV_SUPV.sub x.w)) 0x0706
  else if a = 0x7000C then s.storeIf x (decide (3 * F.NET_REPORT_PERIOD.sub x.w < s.get F.NET_SUPV_SUPV)) 0x0706
  else if a = 0x70010 then
    let d := F.NET_RELAY_MAXDEPTH.sub x.w
    s.storeIf x (!s.changes x F.NET_RELAY_MAXDEPTH || (decide (d < 5) && decide (d < s.get F.LGT_GRACE_GRACE))) 0x0703
  else if a = 0x70040 then
    if 6 ≤ F.NET_ASEL_RADIO.sub x.w || assocMax (F.NET_ASEL_RADIO.sub x.w) ≤ F.NET_ASEL_INDEX.sub x.w then (s, St.badArg)
    else (s.selAssoc x.who.key x.w, St.done)
  else s.stored x

/-- The essential floor of a radio's duty limit, LSB 0.01 % (Table 06.15). -/
def State.dutyFloor (s : State) (r : Nat) : Nat :=
  if s.phy r = 0 then 528 else if s.phy r = 1 then 395 else if s.flag (F.RAD_CFG_STOPHB.at r) then 352 else 198

/-- RAD_CFG: TXPWR lies in the range of Table 06.1, BAND 0 or 1; STOPHB and SLEEPERS for RAD4 and RAD5 alone, STOPHB on one
radio. -/
def State.radCfgOk (s : State) (x : RegWrite) : Bool :=
  let p := toInt 8 (F.RAD_CFG_TXPWR.sub x.w)
  let stop := F.RAD_CFG_STOPHB.sub x.w = 1
  decide (-10 ≤ p) && decide (p ≤ if x.i < 4 then 27 else 10)
    && (decide (4 ≤ x.i) || (decide (F.RAD_CFG_BAND.sub x.w ≤ 1) && !stop && F.RAD_CFG_SLEEPERS.sub x.w = 0))
    && !(stop && (List.range 6).any fun q => q ≠ x.i && s.flag (F.RAD_CFG_STOPHB.at q))

/-- What a write of a RAD register does to it (R271, R282, R300). -/
def State.wrRadio (s : State) (x : RegWrite) : State × Nat :=
  let a := x.r.addr
  if a = 0x80000 then s.storeIf x (s.radCfgOk x) St.badArg
  else if a = 0x80010 then s.mapApply x.i x.w
  else if a = 0x80018 then
    s.storeIf x (!s.changes x F.RAD_SCHED_PERIOD || decide (s.sleepers x.i ≤ 9 * F.RAD_SCHED_PERIOD.sub x.w)) 0x0803
  else if a = 0x8001C then s.storeIf x (decide (F.RAD_SLEEP_G0.sub x.w ≤ F.RAD_SLEEP_GMAX.sub x.w)) St.badArg
  else if a = 0x80020 then
    let l := F.RAD_DUTY_LIMIT.sub x.w
    if 10000 < l then (s, St.badArg) else s.storeIf x (decide (s.dutyFloor x.i ≤ l)) 0x0802
  else s.stored x

/-- The stop radio and its stop channel, which CONFIG carries. -/
def State.stopAir (s : State) : Option (Nat × Nat) := s.stopRadio.map fun r => (r, s.get (F.RAD_STOPCH_CH.at r))

/-- The RAD registers; a change of the stop radio or of its channel sends CONFIG (R422). -/
def State.wrRad (s : State) (x : RegWrite) : State × Nat :=
  let (t, st) := s.wrRadio x
  (if t.stopAir = s.stopAir then t else t.configAll, st)

/-- A slot that a radio association or another local luminaire uses (R311). -/
def State.slotTaken (s : State) (l slot : Nat) : Bool :=
  ((List.range 6).any fun r => (SMap.vals (s.radio r).assocs).any fun a => a.st ≠ 0 && !a.sensor && a.slot = slot)
    || (List.range 8).any fun m => m ≠ l && s.flag (F.DRV_LUM_CFG_EN.at m) && s.get (F.DRV_LUM_CFG_SLOT.at m) = slot

/-- The DRV registers (R308, R311, R319). -/
def State.wrDrv (s : State) (x : RegWrite) : State × Nat :=
  let a := x.r.addr
  if a = 0x90004 then
    s.storeIf x (!s.changes x F.DRV_PWMCFG_FREQ || pwmFreqOk (F.DRV_PWMCFG_FREQ.sub x.w)) St.badArg
  else if a = 0x90014 then if F.DRV_SHORT_CMD_GO.sub x.w = 1 then s.shortGo else (s, St.done)
  else if a = 0x90500 then
    let r := s.storeIf x (F.DRV_LUM_CFG_EN.sub x.w = 0 || !(s.changes x F.DRV_LUM_CFG_EN || s.changes x F.DRV_LUM_CFG_SLOT)
      || !s.slotTaken x.i (F.DRV_LUM_CFG_SLOT.sub x.w)) St.slotConflict
    -- ONLINE of a bound slot follows EN
    let bind := fun (on : Bool) (t s : State) => if s.flag (F.DRV_LUM_CFG_EN.at x.i) then
      t.modNode (s.get (F.DRV_LUM_CFG_SLOT.at x.i)) fun y => { y with online := on } else t
    if s.changes x F.DRV_LUM_CFG_EN || s.changes x F.DRV_LUM_CFG_SLOT then
      (bind true (bind false r.1 s) r.1, r.2) else r
  else s.stored x

/-- A sample divider: it divides 80, or is 80 × m with m dividing 100 (R320). -/
def divOk (d : Nat) : Bool := decide (0 < d) && (80 % d = 0 || (d % 80 = 0 && 100 % (d / 80) = 0))

/-- Min-select groups: at most 4 loops, all on one engine (R325). -/
def State.groupsOk (s : State) : Bool :=
  (List.range 64).all fun l =>
    let k := s.get (F.LOP_LINK_ACTK.at l)
    let i := s.get (F.LOP_LINK_ACTI.at l)
    let mates := (List.range 64).filter fun m => s.get (F.LOP_LINK_ACTK.at m) = k && s.get (F.LOP_LINK_ACTI.at m) = i
    k = 0 || (decide (mates.length ≤ 4) && mates.all fun m => m / 32 = l / 32)

/-- Cascades keep R328. -/
def State.cascadesOk (s : State) : Bool :=
  (List.range 64).all fun l =>
    if s.get (F.LOP_LINK_SPK.at l) = 1 then
      let o := s.get (F.LOP_LINK_SPI.at l) % 64
      let d := s.get (F.LOP_CFG_DIV.at l)
      let e := s.get (F.LOP_CFG_DIV.at o)
      decide (s.get (F.LOP_LINK_SPK.at o) ≠ 1) && o / 32 = l / 32 && decide (0 < d) && decide (0 < e) && e % d = 0
        && s.get (F.LOP_CFG_PHASE.at o) % d = s.get (F.LOP_CFG_PHASE.at l)
    else true

/-- A loop's configuration is stored where groups and cascades stand afterwards. -/
def State.linkIf (s : State) (x : RegWrite) : State × Nat :=
  let t := s.store x
  if t.groupsOk && t.cascadesOk then (t, St.done) else (s, St.linkInvalid)

/-- The registers that R330 shuts while a loop is closed, and those that R340 shuts unless an axis is DISABLED. -/
def coefRegs : List Nat := [0xA100C, 0xA1010, 0xA1014, 0xA1018, 0xA101C, 0xA1020, 0xA1024, 0xA1028, 0xA102C]
def axisRegs : List Nat :=
  [0xA4004, 0xA4008, 0xA400C, 0xA4010, 0xA4014, 0xA4018, 0xA401C, 0xA4020, 0xA4024, 0xA402C, 0xA8000, 0xA8800]

/-- PMIN stays below PMAX. -/
def State.travelOk (s : State) (x : RegWrite) : Bool :=
  let z := toInt 32 x.w
  if x.r.addr = 0xA4008 then decide (z < s.getI (F.LOP_AX_PMAX_POS.at x.i))
  else if x.r.addr = 0xA400C then decide (s.getI (F.LOP_AX_PMIN_POS.at x.i) < z)
  else true

/-- The LOP registers (R320, R325, R328, R330, R340). -/
def State.wrLop (s : State) (x : RegWrite) : State × Nat :=
  let a := x.r.addr
  if a = 0xA1000 then
    let d := F.LOP_CFG_DIV.sub x.w
    if s.changes x F.LOP_CFG_FAULTACT && F.LOP_CFG_FAULTACT.sub x.w = 3 then (s, St.badArg)
    else if (s.changes x F.LOP_CFG_DIV || s.changes x F.LOP_CFG_PHASE) && !(divOk d && decide (F.LOP_CFG_PHASE.sub x.w < d)) then
      (s, St.badRate)
    else s.linkIf x
  else if a = 0xA1008 then
    if F.LOP_LINK_SPK.sub x.w = 3 || F.LOP_LINK_ACTK.sub x.w = 3
        || (F.LOP_LINK_ACTK.sub x.w = 2 && decide (8 ≤ F.LOP_LINK_ACTI.sub x.w)) then (s, St.badArg)
    else s.linkIf x
  else if a = 0xA1034 || a = 0xA1038 || a = 0xA103C then s.storeIf x (!bit x.w 31) St.badArg
  else if a = 0xA1044 then s.lopCmd x.i x.w
  else if a = 0xA4038 then (if bit x.w 0 then s.axisReset x.i else s, St.done)
  else if coefRegs.contains a then s.storeIf x (!(s.loop x.i).closed) St.loopClosed
  else if axisRegs.contains a then
    if !s.travelOk x then (s, St.badArg) else s.storeIf x (decide ((s.axis x.i).st = .disabled)) St.loopClosed
  else s.stored x

/-- The GNS registers (R357, R386): a write of GNS_REF_CFG that changes nothing and carries no GO is none (R13). -/
def State.wrGns (s : State) (x : RegWrite) : State × Nat :=
  let a := x.r.addr
  if a = 0xB0010 then
    if bit x.w 29 || s.changes x F.GNS_REF_CFG_MODE || s.changes x F.GNS_REF_CFG_SURVEY_MIN then s.refWrite x.w else (s, St.done)
  else if 0xB0018 ≤ a && a ≤ 0xB002C then
    s.storeIf x (!(s.get F.GNS_REF_STAT_STATE = 1 && x.r.fields.any fun d => s.changes x d.fld)) St.surveyActive
  else if a = 0xB0080 then (s.writeFsel x.who.key (F.GNS_FSEL_ROVER.sub x.w), St.done)
  else s.stored x

/-- FLT_RV_CMD: FORGET, then HOLD, then RELEASE. -/
def State.rvCommand (s : State) (r w : Nat) : State × Nat :=
  let (t, st) : State × Nat := if bit w 0 then s.forgetRover r (F.FLT_RV_CMD_CONFIRM.sub w) else (s, St.done)
  if st ≠ St.done then (s, st)
  else
    let t := if bit w 1 then t.roverHoldCmd r else t
    (if bit w 2 then t.roverReleaseCmd r else t, St.done)

/-- The FLT registers: a change of PATHS sends CONFIG (R422). -/
def State.wrFlt (s : State) (x : RegWrite) : State × Nat :=
  if x.r.addr = 0xC0104 then s.rvCommand x.i x.w
  else if x.r.addr = 0xC0100 && s.changes x F.FLT_RV_CFG_PATHS then
    let t := s.store x
    (if t.rovOpen x.i then t.sendConfig x.i else t, St.done)
  else s.stored x

/-- The STP registers: what CONFIG carries goes out when it changes (R421, R422). -/
def State.wrStp (s : State) (x : RegWrite) : State × Nat :=
  let a := x.r.addr
  let moved := x.r.fields.any fun d => s.changes x d.fld
  if a = 0xD0018 then s.stpCmd x.who (F.STP_CMD_CODE.sub x.w) (F.STP_CMD_CONFIRM.sub x.w)
  else if a = 0xD0008 then
    let t := s.store x
    (if s.changes x F.STP_CFG_KEYSLOT then t.stopKeyNew (F.STP_CFG_KEYSLOT.sub x.w) else t, St.done)
  else if a = 0xD000C || a = 0xD0010 || a = 0xD0014 then ((s.store x).when moved State.configAll, St.done)
  else s.stored x

/-- A land left in strobe mode has WIDTH within half its strobe period (R458). -/
def strobeOk (w : Nat) : Bool :=
  F.TIM_TRIG_CFG_MODE.sub w ≠ 3
    || decide (F.TIM_TRIG_CFG_WIDTH.sub w ≤ if F.TIM_TRIG_CFG_SF.sub w = 1 then 50000 else 5000)

def State.wrTim (s : State) (x : RegWrite) : State × Nat :=
  let a := x.r.addr
  if a = 0xE0008 then s.timCmd (F.TIM_CMD_CODE.sub x.w) (F.TIM_CMD_CONFIRM.sub x.w)
  else if a = 0xE0080 then ((s.store x).when (x.r.fields.any fun d => s.changes x d.fld) State.ptpStart, St.done)
  else if a = 0xE0100 then s.storeIf x (strobeOk x.w) St.badArg
  else s.stored x

/-- The RTC registers (R462, R467, R468): while LOCKOUT is 1 writes are ignored; while the module disciplines the RTC the host sets
neither trim nor leap. -/
def State.wrRtc (s : State) (x : RegWrite) : State × Nat :=
  let a := x.r.addr
  if a = 0xF0040 then if F.RTC_COMMIT_GO.sub x.w = 1 then s.rtcCommit else (s, St.done)
  else if s.flag F.RTC_STAT_LOCKOUT then (s, St.done)
  else if a = 0xF0044 || a = 0xF0048 then s.storeIf x (!s.disciplined) St.disciplined
  else s.stored x

/-- An accepted write of a channel's settings leaves an Info record with the channel, the old and the new value (R509). -/
def State.wrChannel (s : State) (x : RegWrite) : State × Nat :=
  let a := x.r.addr + x.r.s1 * x.i
  let old := s.word x.who.key a
  let t := s.store x
  (t.log Sev.info 0 ⟨x.r.addr, 0, 32, 0, x.r.s1, 0, .plain⟩ ([x.i] ++ leBytes 4 old ++ leBytes 4 (t.word x.who.key a)), St.done)

def State.wrMtr (s : State) (x : RegWrite) : State × Nat :=
  let a := x.r.addr
  if a = 0x100030 then s.mtrCmd (F.MTR_CMD_CODE.sub x.w) (F.MTR_CMD_CONFIRM.sub x.w)
  else if a = 0x100028 then
    let m := F.MTR_DEM_MIN.sub x.w
    s.storeIf x (!s.changes x F.MTR_DEM_MIN || (decide (0 < m) && 60 % m = 0)) St.badArg
  else if a = 0x100038 then (s.writeEsel x.who.key (F.MTR_ESEL_FEEDER.sub x.w), St.done)
  else if a = 0x100200 || a = 0x100204 || a = 0x100208 then s.wrChannel x
  else s.stored x

/-- CLB_CFG.RETRY: the station plans fit (R129). -/
def State.wrClb (s : State) (x : RegWrite) : State × Nat :=
  if x.r.addr = 0x110004 then
    s.storeIf x (!s.changes x F.CLB_CFG_RETRY
      || s.plansFit (s.get (F.FRM_DCLS_DEADLINE_DEADLINE.at 0)) (F.CLB_CFG_RETRY.sub x.w)) St.badArg
  else s.stored x

def State.wrKey (s : State) (x : RegWrite) : State × Nat :=
  let a := x.r.addr
  if a = 0x180004 then s.keyCmd (F.KEY_CMD_CODE.sub x.w) (F.KEY_CMD_CONFIRM.sub x.w)
  else if a = 0x180020 then (s.writeKeyLabel x.i x.w, St.done)
  else if a = 0x180100 then (s.writeKeyIn x.i x.w, St.done)
  else s.stored x

def State.wrLog (s : State) (x : RegWrite) : State × Nat :=
  let a := x.r.addr
  if a = 0x190020 then (s.writeLogSel x.who.key x.w, St.done)
  else if a = 0x190108 then s.vitCmd (F.LOG_VIT_CMD_CODE.sub x.w)
  else s.stored x

/-- What an accepted write does. -/
def State.regEffect (s : State) (x : RegWrite) : State × Nat :=
  match x.r.addr / 65536 with
  | 0x00 => s.wrSys x
  | 0x01 => s.wrGal x
  | 0x02 => s.wrSem x
  | 0x03 => s.wrFif x
  | 0x04 => s.wrFrm x
  | 0x05 => s.wrPlx x
  | 0x06 => s.wrLgt x
  | 0x07 => s.wrNet x
  | 0x08 => s.wrRad x
  | 0x09 => s.wrDrv x
  | 0x0A => s.wrLop x
  | 0x0B => s.wrGns x
  | 0x0C => s.wrFlt x
  | 0x0D => s.wrStp x
  | 0x0E => s.wrTim x
  | 0x0F => s.wrRtc x
  | 0x10 => s.wrMtr x
  | 0x11 => s.wrClb x
  | 0x15 => if x.r.addr = 0x150000 then s.obsWrite x.i x.w else s.stored x
  | 0x16 => if x.r.addr = 0x16000C then s.splCommand (F.SPL_CMD_CODE.sub x.w) (F.SPL_CMD_CONFIRM.sub x.w) else s.stored x
  | 0x17 => if x.r.addr = 0x170008 then s.updCommand (F.UPD_CMD_CODE.sub x.w) (F.UPD_CMD_CONFIRM.sub x.w) else s.stored x
  | 0x18 => s.wrKey x
  | 0x19 => s.wrLog x
  | 0x1A => if x.r.addr = 0x1A0008 then s.bstCmd (F.BST_CMD_CODE.sub x.w) (F.BST_CMD_CONFIRM.sub x.w) else s.stored x
  | _ => s.stored x

/-- What an address without a register answers: the role comes before the address (R16, R32, R634). -/
def State.noRegStatus (s : State) (who : Requester) (addr : Nat) : Nat :=
  if who = .sid0 || s.roleOf who < writeRole addr then St.access
  else match who with
    | .engine _ => St.badArg
    | _ => if s.live && decide (s.mode = .recovery) then St.mode else St.badArg

/-- A write of a register: the state after it, and its status (R16, R32, R634). -/
def State.regWrite (s : State) (who : Requester) (addr w : Nat) : State × Nat :=
  match findReg addr with
  | none => (s, s.noRegStatus who addr)
  | some (r, i, j) =>
    let x : RegWrite := ⟨r, i, j, w, who⟩
    let st := s.judge x
    if st = St.done then s.regEffect x else (s, st)

/-- An engine at an address without a register gets an access-fault response (R32). -/
def State.noReg (s : State) (who : Requester) (addr : Nat) : State :=
  match who with
  | .engine e => s.accessFault e addr
  | _ => s.reply who St.badArg

/-- One requester's write, and its answer: an engine at an address without a register gets an access-fault response, and an engine in
reset writes nothing. -/
def State.writeRow (s : State) (addr : Nat) (p : Requester × Word) : State :=
  if !p.1.awake s then s
  else match p.1, findReg addr with
    | .engine e, none => s.accessFault e addr
    | _, _ => let (s, st) := s.regWrite p.1 addr p.2.toNat; s.reply p.1 st

/-- Put a write among those of its Gallery clock, which act in ascending order of session context (R533); an engine, which has no
context, comes before the sessions (DESIGN CHOICE, log entry 96). -/
def insertWrite (p : Requester × Word) : List (Requester × Word) → List (Requester × Word)
  | [] => [p]
  | q :: l => if p.1.key < q.1.key then p :: q :: l else q :: insertWrite p l

/-- The writes of a register in one clock. The service calls of a commit point belong to the command that commits, so a write that comes
after it in the queue acts after them. -/
def execRegisterWrite (who : Requester) (addr : Nat) (w : Word) (s : State) (others : List (Requester × Word) := []) : Res :=
  s.act fun s => (((who, w) :: others).foldr insertWrite []).foldl (fun s p => s.writeRow addr p) s

/-! ### Reads -/

/-- A read of FRM_NUM_LO latches the high bits for its requester (R70). -/
def State.readNum (s : State) (rk : Nat) : State × Nat :=
  (s.setLatch Win.num rk [s.num / 2 ^ 32 % 2 ^ 16], s.num % 2 ^ 32)

/-- A read of a semaphore register by one requester, and the word it gets (R42, R43). -/
def State.readSem (s : State) (n : Nat) (who : Requester) : State × Nat :=
  let free := s.get (F.SEM_SEMn_OWNER.at n) = 31
  let ab := s.flag (F.SEM_SEMn_ABANDONED.at n)
  let t : State := { s.semRead n [who] with out := s.out }
  let o := t.get (F.SEM_SEMn_OWNER.at n)
  let mine := who.acquirer = some o
  (t, semWord mine (if mine && free then ab else t.flag (F.SEM_SEMn_ABANDONED.at n)) o)

/-- The RC fields of a register clear (R15). -/
def State.clearRc (s : State) (r : RegDesc) (i j : Nat) : State :=
  r.fields.foldl (fun (s : State) d => if d.acc = .rc then s.put (d.fld.at2 i j) 0 else s) s

/-- A read of a register: the state after it, and the word; none where there is no register (R16, R32). -/
def State.regRead (s : State) (who : Requester) (addr : Nat) : State × Option Nat :=
  let rk := who.key
  let some_ : State × Nat → State × Option Nat := fun p => (p.1, some p.2)
  match findReg addr with
  | none => (s, none)
  | some (r, i, j) =>
    match r.addr with
    | 0x20000 => some_ (s.readSem i who)
    | 0x30010 => let (s, lo, _) := s.fifoPop i who.bus; (s, some lo)
    | 0x40000 => some_ (s.readNum rk)
    | 0xE0010 => some_ (s.readNow rk)
    | 0xE0104 => some_ (s.readTrig rk i)
    | 0xF0000 => some_ (s.readSubsec rk)
    | 0xF0018 => some_ (s.readYear rk)
    | 0x101000 => some_ (s.readAcc rk i j)
    | 0x190014 => some_ (s.readOptime rk)
    | _ => (s.clearRc r i j, some (s.word rk addr))

/-- A read of a register by a requester, and what it gets. -/
def State.readRow (s : State) (who : Requester) (addr : Nat) : State :=
  if !who.awake s then s else match s.regRead who addr with
  | (s, some v) => s.reply who St.done [v]
  | (s, none) => s.noReg who addr

def execRcFieldRead (who : Requester) (addr : Nat) (s : State) : Res := s.act fun s => s.readRow who addr
def execFrmNumLoRead (who : Requester) (s : State) : Res :=
  s.act fun s => s.when (who.awake s) fun s => let (s, v) := s.readNum who.key; s.reply who St.done [v]

end Sys2Proof.Machine
end

