-- ==== Sys2Proof/Machine/Hxm.lean ====
section
/-!
DEFINITION. The HXM protocol and the SPI host port (R525 to R534, Tables 12.2 and 12.3): sessions, the classification of requests,
and what each message does.
-/
namespace Sys2Proof.Machine

/-! ### Reads -/

/-- T and the input image as the last commit point showed them. -/
def Prog.shown (p : Prog) : SMap Timer × SMap Nat := p.pre.getD (p.timers, p.inputs)

/-- An element of a data area as the host reads it: the value at the last commit point (R116). -/
def State.areaVal (s : State) (a off : Nat) : Nat :=
  if a = Area.t then (SMap.getD s.prog.shown.1 off {}).et
  else if a = Area.i || a = Area.iw then SMap.getD s.prog.shown.2 (areaKey a off) 0
  else if a = Area.c then (SMap.getD s.prog.counters off {}).cv.toNat
  else if a = Area.n || a = Area.f || a = Area.e then s.input a off
  else if a = Area.s then s.sysWord off
  else s.committed a off

/-- Consecutive registers are read in ascending address; an address without a register spoils the request (R16, R32). -/
def State.regReads (s : State) (who : Requester) (addr : Nat) : Nat → State × Option (List Nat)
  | 0 => (s, some [])
  | n + 1 =>
    match s.regRead who addr with
    | (_, none) => (s, none)
    | (t, some v) =>
      match t.regReads who (addr + 4) n with
      | (u, some l) => (u, some (v :: l))
      | (_, none) => (s, none)

/-- READ: the octets of the words, each little-endian (R10). -/
def State.msgRead (s : State) (who : Requester) : ReadTgt → SvcRes
  | .words addr n =>
    match s.regReads who addr n with
      | (t, some l) => (t, St.done, octetsOf l)
      | (_, none) => (s, St.badArg, [])
  | .area a off n =>
    if areaSize a < off + n then (s, St.badArg, [])
    else (s, St.done, octetsOf ((List.range n).map fun k => s.areaVal a (off + k)))

/-- A READ that stays in the SYS block (R527, R534). -/
def ReadTgt.sysOnly : ReadTgt → Bool
  | .words addr n => decide (addr + 4 * n ≤ 65536)
  | .area _ _ _ => false

/-- LOG_READ (R599): the octets of the number to ask for next, and those of the records. -/
def State.msgLog (s : State) (first count : Nat) : SvcRes :=
  let (l, next) := s.logFrom first count
  (s, St.done, leBytes 4 next ++ l.flatMap LogRec.octets)

/-- A Vitrine entry as 256 octets (Table 14.6). -/
def VitEntry.octets (e : VitEntry) : List Nat :=
  let l := leBytes 6 e.fnum ++ [e.state % 256, e.radio % 256] ++ e.done.flatMap (leBytes 2) ++ e.consec.map (· % 256)
    ++ leBytes 2 e.cause ++ leBytes 4 e.cycnum ++ leBytes 4 e.firstAcc ++ leBytes 2 e.nrec ++ leBytes 2 e.disc ++ leBytes 4 e.unc
    ++ leBytes 4 (ofInt 32 e.offset) ++ e.wait.map (· % 256) ++ e.ptot.flatMap (fun z => leBytes 4 (ofInt 32 z)) ++ [0, 0, 0, 0]
    ++ e.watch.flatMap (leBytes 4)
  l ++ leBytes 4 (crc32c l)

/-- VITRINE_READ (R602): indices count back from the newest entry. -/
def State.msgVitrine (s : State) (first count : Nat) : SvcRes :=
  if 4096 ≤ first then (s, St.badArg, [])
  else (s, St.done, ((s.recs.vit.drop first).take count).flatMap VitEntry.octets)

/-- STAGING (R251): the staging view of each node, as it stood at the last frame boundary. -/
def State.msgStaging (s : State) (node count : Nat) : SvcRes :=
  if 4096 < node + count then (s, St.badArg, [])
  else (s, St.done, (List.range count).flatMap fun k => match SMap.get? s.light.image (node + k) with
    | some x => stagingView x
    | none => List.replicate 40 0)

/-- REPORT: the switch report from an index on, as pairs of a kind and a symbol. -/
def State.msgReport (s : State) (first : Nat) : SvcRes :=
  (s, St.done, (s.prog.report.drop (2 * first)).take 318)

/-! ### Writes -/

/-- The status register of a command register. -/
def cmdStatOf (addr : Nat) : Option Nat :=
  if addr = 0x0000C then some F.SYS_CMD_STAT_STATUS.addr
  else if addr = 0xD0018 then some F.STP_CMD_STAT_STATUS.addr
  else if addr = 0xE0008 then some F.TIM_CMD_STAT_STATUS.addr
  else if addr = 0x100030 then some F.MTR_CMD_STAT_STATUS.addr
  else if addr = 0x16000C then some F.SPL_CMD_STAT_STATUS.addr
  else if addr = 0x170008 then some F.UPD_CMD_STAT_STATUS.addr
  else if addr = 0x180004 then some F.KEY_CMD_STAT_STATUS.addr
  else if addr = 0x1A0008 then some F.BST_CMD_STAT_STATUS.addr
  else none

/-- Several words, in ascending address: the status of the first refused, PENDING where a command is, and its status register. -/
def State.regWrites (s : State) (who : Requester) (addr : Nat) : List Nat → State × Nat × Option Nat
  | [] => (s, St.done, none)
  | w :: l =>
    let (t, st) := s.regWrite who addr w
    if st = St.done || st = St.pending then
      let (u, st', p) := t.regWrites who (addr + 4) l
      if st' = St.done then (u, st, if st = St.pending then cmdStatOf addr else none) else (u, st', p)
    else (t, st, none)

/-- WRITE (R634): judged as a whole; a command that stays PENDING keeps the request PENDING (R532). A track graph is replaced whole,
in Stop (R389); one beyond the capacities of Table 00.1 ends BAD_ARGUMENT (R2). -/
def State.msgWrite (s : State) (c q : Nat) : WriteTgt → State × Nat
  | .words addr octets =>
    let ws := wordsOf octets
    let (t, st, p) := s.regWrites (.session c) addr ws
    if st = St.done then (t, st)
    else if st = St.pending then
      match p with
      | some a => (t.modWired fun w => { w with waitCmd := w.waitCmd ++ [(a, c, q)] }, st)
      | none => (t, st)
    else if ws.length = 1 then (t, st) else (s, st)
  | .graph g =>
    if !s.live || decide (s.mode ≠ .stop) then (s, St.mode)
    else if !g.fits then (s, St.badArg)
    else if g.ok then (s.modFleet fun f => { f with graph := g }, St.done)
    else (s, St.graphInvalid)

/-! ### Recipes (R224) -/

/-- A part of a recipe load: the last one starts validation, and the table waits for its switch. -/
def State.recipePart (s : State) (o : Origin) (p : RecipePart) : State × Nat :=
  let waits := s.flag F.LGT_RCP_SWITCH_PENDING
  if waits || (p.first && s.light.recipeLoading) then (s, St.busy)
  else if !p.first && !s.light.recipeLoading then (s, St.badArg)
  else
    let l := p.recipes.foldl (fun (m : SMap (List Break)) q => SMap.insert m q.1 q.2) (if p.first then [] else s.light.recipes2)
    if !p.last then (s.modLight fun x => { x with recipes2 := l, recipeLoading := true }, St.done)
    else if l.all fun q => decide (q.1 < 256) && recipeOk q.2 then
      let s := s.modLight fun x => { x with recipes2 := l, recipeLoading := true, recipeBy := o }
      ((s.put F.LGT_RCP_SWITCH_PENDING 1).put F.LGT_RCP_STATUS St.pending, St.pending)
    else
      let s := s.modLight fun x => { x with recipes2 := [], recipeLoading := false }
      (s.put F.LGT_RCP_STATUS St.recipeInvalid, St.recipeInvalid)

/-! ### Debugging (R137 to R142, R172) -/

/-- A breakpoint is a register of the PLX block; R142 has judged the role. -/
def State.msgBreak (s : State) (c sect brk : Nat) (en : Bool) (pc : Nat) : State × Nat :=
  if 4 ≤ sect || 8 ≤ brk || 2 ^ 17 ≤ pc then (s, St.badArg)
  else match findReg (F.PLX_BRK_EN.at2 sect brk).addr with
    | none => (s, St.badArg)
    | some (r, i, j) =>
      let x : RegWrite := ⟨r, i, j, 2 ^ 31 * b2n en + pc, .session c⟩
      if s.writeMode x then s.stored x else (s, St.mode)

/-- The registers of a halted section (Table 04.1). DESIGN CHOICE (log entry 103): their order in the answer is the program counter, BA, the
depth of BS and its values, WA and the rest as written here; Table 12.3 states none. -/
def Sect.regWords (x : Sect) : List Nat :=
  [x.pc, b2n x.ba, x.bs.length] ++ x.bs.map b2n ++ [x.wa.toNat, x.wb.toNat, x.xi, x.cs.length] ++ x.cs
    ++ [b2n x.z, b2n x.n, b2n x.cy, b2n x.ov]

def State.msgRegs (s : State) (sect : Nat) : SvcRes :=
  if 4 ≤ sect then (s, St.badArg, [])
  else if !s.prog.halted then (s, St.mode, [])
  else match (s.sect sect).st with
    | .absent => (s, St.badArg, [])
    -- HALT left the section at its first instruction, with initial values (R137, R171)
    | .waiting => (s, St.done, ({} : Sect).regWords)
    | _ => (s, St.done, (s.sect sect).regWords)

/-! ### Raw frames -/

/-- RAW_FRAME: the frame leaves a site port, and the completion carries its transmit stamp. -/
def State.msgRaw (s : State) (o : Origin) (port : Nat) (frame : List Nat) (stamp : Bool) (at_ : Nat) : State :=
  if 2 ≤ port || frame = [] then s.answer o St.badArg []
  else
    let s := (s.answer o St.pending []).atNs at_
    let t := s.now
    (s.emit .rawFrame ((port : Int) :: frame.map Int.ofNat)).finish o St.done
      (if stamp then [t / 1000000000 % 2 ^ 32, t / 1000000000 / 2 ^ 32, t % 1000000000] else [])

/-! ### Images -/

/-- IMAGE (R567); in Recovery the ROM takes it (R574), and the verdict on the whole image is free. -/
def State.msgImage (s : State) (o : Origin) (off : Nat) (data : List Nat) : State × Nat :=
  if s.mode = .recovery then
    let (v, s) := s.draw
    s.recoveryImage off data (bit v 0) (bit v 1)
  else s.imagePart o off data

/-! ### Aborts (R66 to R68) -/

/-- ABORT of a request of the session, whose window is that before this request. -/
def State.msgAbort (s : State) (x : Session) (c q : Nat) : State × Nat :=
  match x.window.find? fun e => e.seq = q with
  | none => (s, St.badArg)
  | some e =>
    if e.done then (s, if e.fin = St.done then St.abortLate else St.aborted)
    else
      let o : Origin := match s.wired.waitCmd.find? fun p => p.2 = (c, q) with
        | some p => .command p.1
        | none => .host c q
      s.abortOp o

/-! ### The message set (Table 12.3) -/

/-- The least role of a message: 0 MONITOR, 1 OPERATOR, 2 ENGINEERING. -/
def HxmMsg.least : HxmMsg → Nat
  | .read _ | .logRead _ _ | .vitrineRead _ _ | .staging _ _ | .report _ => 0
  | .write _ | .service _ _ | .abort _ | .changeSet _ | .recipe _ | .watchAdd _ | .watchRemove _ | .watchRead => 1
  | .load _ | .prepare | .switch_ | .discard | .revert | .forceSet _ _ | .forceClear _ | .forceList => 2
  | .dbgBreak _ _ _ _ | .dbgHalt | .dbgStep _ | .dbgRegs _ | .image _ _ | .campPart _ _ _ | .campStart _ _ _
  | .rawFrame _ _ _ _ => 2

/-- The KIND of a message (Table 12.3). -/
def HxmMsg.kind : HxmMsg → Nat
  | .read _ => 0x01
  | .write _ => 0x02
  | .service _ _ => 0x03
  | .abort _ => 0x04
  | .logRead _ _ => 0x05
  | .vitrineRead _ _ => 0x06
  | .staging _ _ => 0x07
  | .changeSet _ => 0x08
  | .recipe _ => 0x09
  | .load _ | .prepare | .switch_ | .discard | .revert => 0x0A
  | .forceSet _ _ | .forceClear _ | .forceList => 0x0B
  | .watchAdd _ | .watchRemove _ | .watchRead => 0x0C
  | .dbgBreak _ _ _ _ | .dbgHalt | .dbgStep _ | .dbgRegs _ => 0x0D
  | .report _ => 0x0E
  | .image _ _ => 0x0F
  | .campPart _ _ _ | .campStart _ _ _ => 0x10
  | .rawFrame _ _ _ _ => 0x11

/-- DEBUG requests, which R142 admits from every role in Provisioned. -/
def HxmMsg.debug : HxmMsg → Bool
  | .dbgBreak _ _ _ _ | .dbgHalt | .dbgStep _ | .dbgRegs _ => true
  | _ => false

/-- A write of SYS_CMD with HALT or RESUME, which R142 admits like a DEBUG request. -/
def HxmMsg.haltResume : HxmMsg → Bool
  | .write (.words 0x0000C l) => decide (l.length = 4) && (F.SYS_CMD_CODE.sub (wordAt l 0) = 3 || F.SYS_CMD_CODE.sub (wordAt l 0) = 4)
  | _ => false

/-- The counts of Table 12.3; a body with another is malformed (R531). -/
def HxmMsg.formed : HxmMsg → Bool
  | .read (.words _ n) | .read (.area _ _ n) => decide (1 ≤ n) && decide (n ≤ 256)
  | .write (.words _ l) => decide (l ≠ []) && l.length % 4 = 0 && decide (l.length ≤ 4 * 256)
  | .logRead _ n => decide (1 ≤ n) && decide (n ≤ 16)
  | .vitrineRead _ n => decide (1 ≤ n) && decide (n ≤ 4)
  | .staging _ n => decide (1 ≤ n) && decide (n ≤ 7)
  | _ => true

/-- What the recovery session accepts (R534). -/
def HxmMsg.inRecovery : HxmMsg → Bool
  | .read t => t.sysOnly
  | .logRead _ _ | .image _ _ => true
  | _ => false

/-- A session may send a message (R531). -/
def State.msgAccess (s : State) (c : Nat) (m : HxmMsg) : Bool :=
  if m.debug || m.haltResume then s.debugOk (.session c) else decide (m.least ≤ s.roleOf (.session c))

def State.ans (o : Origin) (r : State × Nat) : State := r.1.answer o r.2 []
def State.ansRes (o : Origin) (r : SvcRes) : State := r.1.answer o r.2.1 r.2.2
/-- The answer to a request whose result is octets. -/
def State.ansOct (c q : Nat) (r : SvcRes) : State := r.1.hostAnswer c q r.2.1 r.2.2

/-- What a message does, and its answer; a result of words goes out as their octets (R11). `x` is the session as it was before the request. -/
def State.msgDo (s : State) (x : Session) (c q : Nat) (m : HxmMsg) : State :=
  let o : Origin := .host c q
  match m with
  | .read t => State.ansOct c q (s.msgRead (.session c) t)
  | .write t => State.ans o (s.msgWrite c q t)
  | .service code a => s.callSvc o code a
  | .abort n => State.ans o (s.msgAbort x c (n % 2 ^ 32))
  | .logRead first count => State.ansOct c q (s.msgLog first count)
  | .vitrineRead first count => State.ansOct c q (s.msgVitrine first count)
  | .staging node count => State.ansRes o (s.msgStaging node count)
  | .changeSet l => State.ans o (s.changeSet o l)
  | .recipe p => State.ans o (s.recipePart o p)
  | .load p => State.ans o (s.load o c p)
  | .prepare => State.ans o (s.prepare c)
  | .switch_ => State.ans o (s.switchReq o c)
  | .discard => State.ans o (s.discard c)
  | .revert => State.ans o (s.revertReq o c)
  | .forceSet sym v => State.ans o (s.forceSet o sym v)
  | .forceClear sym => State.ans o (s.forceClear o sym)
  | .forceList => s.answer o St.done (s.prog.forces.flatMap fun f => [f.sym, f.value])
  | .watchAdd sym => State.ansRes o (s.watchAdd sym)
  | .watchRemove k => State.ans o (s.watchRemove k)
  | .watchRead => s.answer o St.done s.watchRead
  | .dbgBreak sect brk en pc => State.ans o (s.msgBreak c sect brk en pc)
  | .dbgHalt => State.ans o (s.sysRequest .halt o)
  | .dbgStep sect => State.ans o (s.stepSect sect)
  | .dbgRegs sect => State.ansRes o (s.msgRegs sect)
  | .report first => State.ansRes o (s.msgReport first)
  | .image off data => State.ans o (s.msgImage o off data)
  | .campPart r off data => State.ans o (s.campaignPart r off data)
  | .campStart r kind l => State.ans o (s.campaignStart o r kind l)
  | .rawFrame port frame stamp at_ => s.msgRaw o port frame stamp at_

/-- A request that the session accepts: its form, its size, the role, the mode; then its effect (R531, R534). -/
def State.msgJudged (s : State) (x : Session) (h : Hdr) (q : Nat) (m : HxmMsg) : State :=
  let o : Origin := .host h.ctx q
  if h.bad then (s.inc F.HXM_CNT_BAD).answer o St.badMessage []
  else if 1280 < h.len then (s.inc F.HXM_CNT_BAD).answer o St.tooLarge []
  else if !m.formed then (s.inc F.HXM_CNT_BAD).answer o St.badMessage []
  else if !s.msgAccess h.ctx m then s.answer o St.access []
  else if s.mode = .recovery && !m.inRecovery then s.answer o St.mode []
  else s.msgDo x h.ctx q m

/-- The body of DUPLICATE: the cached status and result, where one is cached. -/
def cachedBody : List Nat → List Nat
  | [] => []
  | st :: l => leBytes 2 st ++ l

/-- A message in a session: it is classified (R59), and executed once (R60). -/
def State.hxmRequest (s : State) (h : Hdr) (m : HxmMsg) : State :=
  match s.session h.ctx with
  | none => s
  | some x =>
    if !s.live || x.state ≠ 2 || (x.typ ≠ 0 && x.typ ≠ 3) then s
    else
      let q := h.seq % 2 ^ 32
      let x : Session := { x with lastAt := s.mono }
      let s := s.setSession h.ctx x
      match x.classify q with
      | .stale => (s.inc F.HXM_CNT_STALE).hostSend h.ctx (m.kind + 0x80) q St.stale []
      | .pending => s.hostSend h.ctx (m.kind + 0x80) q St.pending []
      | .duplicate l => (s.inc F.HXM_CNT_DUPLICATE).hostSend h.ctx (m.kind + 0x80) q St.duplicate (cachedBody (l.getD []))
      | .accepted => (s.setSession h.ctx (x.accept q m.kind)).msgJudged x h q m

def execHxmRead (h : Hdr) (t : ReadTgt) (s : State) : Res := s.act fun s => s.hxmRequest h (.read t)
def execHxmWrite (h : Hdr) (t : WriteTgt) (s : State) : Res := s.act fun s => s.hxmRequest h (.write t)
def execHxmService (h : Hdr) (code : Nat) (a : SvcArgs) (s : State) : Res := s.act fun s => s.hxmRequest h (.service code a)
def execHxmAbort (h : Hdr) (seq : Nat) (s : State) : Res := s.act fun s => s.hxmRequest h (.abort seq)
def execLogRead (h : Hdr) (first count : Nat) (s : State) : Res := s.act fun s => s.hxmRequest h (.logRead first count)
def execVitrineRead (h : Hdr) (first count : Nat) (s : State) : Res := s.act fun s => s.hxmRequest h (.vitrineRead first count)
def execStaging (h : Hdr) (node count : Nat) (s : State) : Res := s.act fun s => s.hxmRequest h (.staging node count)
def execChangeSet (h : Hdr) (pairs : List (Nat × Nat)) (s : State) : Res := s.act fun s => s.hxmRequest h (.changeSet pairs)
def execHxmRecipe (h : Hdr) (p : RecipePart) (s : State) : Res := s.act fun s => s.hxmRequest h (.recipe p)
def execLoadPart (h : Hdr) (pkg : Package) (s : State) : Res := s.act fun s => s.hxmRequest h (.load pkg)
def execPrepare (h : Hdr) (s : State) : Res := s.act fun s => s.hxmRequest h .prepare
def execSwitch (h : Hdr) (s : State) : Res := s.act fun s => s.hxmRequest h .switch_
def execDiscard (h : Hdr) (s : State) : Res := s.act fun s => s.hxmRequest h .discard
def execRevert (h : Hdr) (s : State) : Res := s.act fun s => s.hxmRequest h .revert
def execForceSet (h : Hdr) (sym value : Nat) (s : State) : Res := s.act fun s => s.hxmRequest h (.forceSet sym value)
def execForceClear (h : Hdr) (sym : Nat) (s : State) : Res := s.act fun s => s.hxmRequest h (.forceClear sym)
def execForceList (h : Hdr) (s : State) : Res := s.act fun s => s.hxmRequest h .forceList
def execWatchAdd (h : Hdr) (sym : Nat) (s : State) : Res := s.act fun s => s.hxmRequest h (.watchAdd sym)
def execWatchRemove (h : Hdr) (watch : Nat) (s : State) : Res := s.act fun s => s.hxmRequest h (.watchRemove watch)
def execWatchRead (h : Hdr) (s : State) : Res := s.act fun s => s.hxmRequest h .watchRead
def execDebugBreakpoint (h : Hdr) (sect brk : Nat) (en : Bool) (pc : Nat) (s : State) : Res :=
  s.act fun s => s.hxmRequest h (.dbgBreak sect brk en pc)
def execDebugHalt (h : Hdr) (s : State) : Res := s.act fun s => s.hxmRequest h .dbgHalt
def execDebugStep (h : Hdr) (sect : Nat) (s : State) : Res := s.act fun s => s.hxmRequest h (.dbgStep sect)
def execDebugReadRegs (h : Hdr) (sect : Nat) (s : State) : Res := s.act fun s => s.hxmRequest h (.dbgRegs sect)
def execHxmReport (h : Hdr) (first : Nat) (s : State) : Res := s.act fun s => s.hxmRequest h (.report first)
def execHxmImage (h : Hdr) (off : Nat) (data : List Nat) (s : State) : Res := s.act fun s => s.hxmRequest h (.image off data)
def execRawFrame (h : Hdr) (port : Nat) (frame : List Nat) (stamp : Bool) (at_ : Nat) (s : State) : Res :=
  s.act fun s => s.hxmRequest h (.rawFrame port frame stamp at_)
def execCampaignPart (h : Hdr) (radio off : Nat) (data : List Nat) (s : State) : Res :=
  s.act fun s => s.hxmRequest h (.campPart radio off data)
def execCampaignStart (h : Hdr) (radio kind : Nat) (members : List Nat) (s : State) : Res :=
  s.act fun s => s.hxmRequest h (.campStart radio kind members)

/-! ### Sessions (R61, R63, R158, R526, R529, R530) -/

/-- No secured session opens: after tamper, with the kill fuse blown outside Returned, or in a Scrapped module (R534, R593, Table 02.7). -/
def State.sealed (s : State) : Bool :=
  s.keys.zeroised || (s.keys.killed && decide (s.keys.life ≠ .returned)) || decide (s.keys.life = .scrapped)

/-- A session closes (R63): a rover's filter goes to IDLE, an engineering change loses its owner (R158). -/
def State.closeSession (s : State) (c : Nat) : State :=
  match s.session c with
  | none => s
  | some x =>
    let s := if x.typ = 1 then
        (match roverIds.find? fun r => (s.rovPos r).ctx = some c with
          | some r => s.roverClosed r
          | none => s)
      else if s.get F.PLX_CHG_OWNER = c then s.put F.PLX_CHG_OWNER 1023 else s
    let s : State := s.modWired fun w => { w with sids := w.sids.filter fun p => p.2 ≠ c }
    s.freeSession c

def execSessionClose (ctx : Nat) (s : State) : Res := s.act fun s => s.closeSession ctx

/-- A DTLS handshake (R529, R530, R534, R581): a management session, or a failure that takes no context. -/
def State.handshake (s : State) (service good cloarn : Bool) (ident : Nat) : State :=
  let role : Option Nat :=
    if !good || !s.live || s.sealed then none
    else if s.mode = .recovery then (if service then some 2 else none)
    else if s.keys.life = .blank || s.keys.life = .returned then (if cloarn then some 2 else none)
    else SMap.get? s.wired.idents ident
  match role with
  | none => (s.inc F.HXM_CNT_HANDSHAKE_FAIL).emit .value [St.access]
  | some r =>
    match s.openSession { typ := 0, peer := ident % 65536, role := r } with
    | (s, some c) => s.emit .value [St.done, c]
    | (s, none) => s.emit .value [St.busy]

def execHxmHandshake (service good cloarn : Bool) (ident : Nat) (s : State) : Res :=
  s.act fun s => s.handshake service good cloarn ident

def execHxmIdleTimeout (ctx : Nat) (s : State) : Res :=
  s.act fun s => match s.session ctx with
    | some x => s.when (x.typ = 0 && x.state = 2 && s.past (x.lastAt + s.get F.HXM_CFG_IDLE * 1000000000)) fun s => s.closeSession ctx
    | none => s

/-! ### The SPI host port -/

/-- The key of the session that an SID names. -/
def State.sidKey (s : State) (sid : Nat) : Option (List Nat) :=
  ((SMap.get? s.wired.sids sid).bind s.session).map Session.key

/-- A response frame that no session's window holds. -/
def State.spiAnswer (s : State) (kind sid seq st : Nat) (body : List Nat := []) : State :=
  s.spiSend (spiFrame (kind + 0x80) sid (seq % 2 ^ 32) st body (s.sidKey sid))

/-- SID 0 (R527). -/
def State.spiOpenRead (s : State) (m : HxmMsg) : SvcRes :=
  match m with
  | .read t => if t.sysOnly then s.msgRead .sid0 t else (s, St.access, [])
  | .logRead first count => s.msgLog first count
  | _ => (s, St.access, [])

/-- A request frame (R525 to R528, R534). -/
def State.spiRequest (s : State) (sid : Nat) (crcOk macOk : Bool) (h : Hdr) (m : HxmMsg) : State :=
  if s.phase ≠ .running then s
  else
    let s := s.modWired fun w => { w with spiResp := none, spiRdy := false }
    let reply := fun (s : State) (st : Nat) (res : List Nat) => s.spiAnswer m.kind sid h.seq st res
    if !crcOk then reply ((s.inc F.HXM_HOST_STAT_CRC_FAIL).inc F.HXM_CNT_BAD) St.badFrame []
    else if sid = 0 then
      if h.bad || !m.formed then reply (s.inc F.HXM_CNT_BAD) St.badMessage []
      else if 1280 < h.len then reply (s.inc F.HXM_CNT_BAD) St.tooLarge []
      else let (s, st, res) := s.spiOpenRead m; reply s st res
    else if s.sealed || (decide (s.mode ≠ .recovery) && !s.flag F.HXM_HOST_CFG_EN) then reply s St.access []
    else match SMap.get? s.wired.sids sid with
      | none => reply (s.inc F.HXM_HOST_STAT_MAC_FAIL) St.access []
      | some c =>
        if !macOk then reply (s.inc F.HXM_HOST_STAT_MAC_FAIL) St.access []
        else s.hxmRequest { h with ctx := c } m

def execSpiRequest (sid : Nat) (crcOk macOk : Bool) (h : Hdr) (m : HxmMsg) (s : State) : Res :=
  s.act fun s => s.spiRequest sid crcOk macOk h m

/-- The response is read: HOST_RDY falls. -/
def execSpiResponseRead (s : State) : Res :=
  s.act fun s => match s.wired.spiResp with
    | some l => (s.modWired fun w => { w with spiResp := none, spiRdy := false }).emitNow .value l
    | none => s

/-- The KINDs of OPEN and CLOSE (Table 12.3). -/
def kindOpen : Nat := 0x20
def kindClose : Nat := 0x21

/-- The session key of a host-port session: derived in the Strongroom, or refused (R526, R586). The spec names no key of the recovery
session on the host port: there it is a free value. -/
def State.openKey (s : State) (sid : Nat) (host nonce : List Nat) : State × (Nat ⊕ List Nat) :=
  let slot := s.get F.HXM_HOST_CFG_KEYSLOT
  if s.mode = .recovery then ({ s with free := s.free + 8 }, .inr (drawn s.free 8))
  else match s.keeperCheck 0 true slot KeyOp.derive with
    | some st => (s, .inl st)
    | none => (s.keyUsed slot, .inr (s.hostKey slot sid host nonce))

/-- OPEN (R526): a host-port session, with the role of HXM_HOST_CFG; a session of the same SID closes first. The response is under the
new session's key, and OPEN itself carries no MAC that could be judged (DEDUCED, log entry 121). -/
def State.spiOpen (s : State) (sid seq : Nat) (host nonce : List Nat) : State :=
  let recovery := decide (s.mode = .recovery)
  if !s.live then s
  else if sid = 0 || 4 < sid || s.sealed || s.keys.life = .blank || s.keys.life = .returned
      || (!recovery && !s.flag F.HXM_HOST_CFG_EN) then s.spiAnswer kindOpen sid seq St.access
  else match s.openKey sid host nonce with
    | (_, .inl st) => s.spiAnswer kindOpen sid seq st
    | (t, .inr key) =>
      let t := match SMap.get? t.wired.sids sid with
        | some c => t.closeSession c
        | none => t
      let role := if recovery then 2 else t.get F.HXM_HOST_CFG_ROLE
      match t.openSession { typ := 3, peer := sid, slot := t.get F.HXM_HOST_CFG_KEYSLOT, role := role, key := key } with
      | (t, some c) =>
        (t.modWired fun w => { w with sids := SMap.insert w.sids sid c }).spiAnswer kindOpen sid seq St.done nonce
      | (t, none) => t.spiAnswer kindOpen sid seq St.busy

def execSpiOpen (sid seq : Nat) (hostNonce moduleNonce : List Nat) (s : State) : Res :=
  s.act fun s => if hostNonce.length = 16 then s.spiOpen sid seq hostNonce ((moduleNonce.take 12).map (· % 256))
    else (s.inc F.HXM_CNT_BAD).spiAnswer kindOpen sid seq St.badMessage

/-- CLOSE frees the context; its response is under the key of the session that ends. -/
def execSpiClose (sid seq : Nat) (s : State) : Res :=
  s.act fun s => match SMap.get? s.wired.sids sid with
    | some c => (s.closeSession c).spiSend (spiFrame (kindClose + 0x80) sid (seq % 2 ^ 32) St.done [] (s.sidKey sid))
    | none => s.spiAnswer kindClose sid seq St.access

end Sys2Proof.Machine
end

