-- ==== Sys2Proof/Machine/Dispatch.lean ====
section
/-!
DEFINITION. One arm per command: a direct call of its meaning.
-/
namespace Sys2Proof.Machine

def exec (i : Instr) (s : State) : Host.Outcome State Fault Refusal :=
  match i with
  | .startUp x => Sys2Proof.Machine.execStartUp x s
  | .timeWaitExpiry => Sys2Proof.Machine.execTimeWaitExpiry s
  | .roleResolve roleIn => Sys2Proof.Machine.execRoleResolve roleIn s
  | .reset => Sys2Proof.Machine.execReset s
  | .vinLoss => Sys2Proof.Machine.execVinLoss s
  | .thermalShutdown => Sys2Proof.Machine.execThermalShutdown s
  | .powerFail at_ samples hold => Sys2Proof.Machine.execPowerFail s at_ samples hold
  | .powerRestore => Sys2Proof.Machine.execPowerRestore s
  | .frameBoundary x => Sys2Proof.Machine.execFrameBoundary x s
  | .deadlineFault cls engine period => Sys2Proof.Machine.execDeadlineFault cls engine s period
  | .curatorFault core => Sys2Proof.Machine.execCuratorFault core s
  | .curatorReady core => Sys2Proof.Machine.execCuratorReady core s
  | .curatorRestartTimeout core => Sys2Proof.Machine.execCuratorRestartTimeout core s
  | .y0ModuleReset => Sys2Proof.Machine.execY0ModuleReset s
  | .start who => Sys2Proof.Machine.execStart who s
  | .stop who => Sys2Proof.Machine.execStop who s
  | .halt who => Sys2Proof.Machine.execHalt who s
  | .resume who => Sys2Proof.Machine.execResume who s
  | .enterBasic who => Sys2Proof.Machine.execEnterBasic who s
  | .leaveBasic who => Sys2Proof.Machine.execLeaveBasic who s
  | .recover who confirm => Sys2Proof.Machine.execRecover who confirm s
  | .restart who confirm => Sys2Proof.Machine.execRestart who confirm s
  | .shutdown who confirm => Sys2Proof.Machine.execShutdown who confirm s
  | .shdnReqFall => Sys2Proof.Machine.execShdnReqFall s
  | .selfTestComplete found ms => Sys2Proof.Machine.execSelfTestComplete found ms s
  | .galleryAccess bank clocks arrivals beats direct => Sys2Proof.Machine.execGalleryAccess bank clocks arrivals beats direct s
  | .sidebandAssert engine => Sys2Proof.Machine.execSidebandAssert engine s
  | .dmaDescriptor writer dma src dst len ecc => Sys2Proof.Machine.execDmaDescriptor writer dma src dst len s ecc
  | .semAcquire n readers now => Sys2Proof.Machine.execSemAcquire n readers s now
  | .semRelease n who w => Sys2Proof.Machine.execSemRelease n who w s
  | .semForce who w => Sys2Proof.Machine.execSemForce who w s
  | .fifPushLo f engine lo wide => Sys2Proof.Machine.execFifPushLo f engine lo wide s
  | .fifPushHi f engine hi => Sys2Proof.Machine.execFifPushHi f engine hi s
  | .fifPushHiEnd f engine hi wide => Sys2Proof.Machine.execFifPushHiEnd f engine hi wide s
  | .fifPopLo f engine wide push => Sys2Proof.Machine.execFifPopLo f engine wide s push
  | .flush f engine push => Sys2Proof.Machine.execFlush f engine s push
  | .dropPacket f engine push => Sys2Proof.Machine.execDropPacket f engine s push
  | .fifCfgWrite f who w => Sys2Proof.Machine.execFifCfgWrite f who w s
  | .sessionOpen typ peer slot => Sys2Proof.Machine.execSessionOpen typ peer slot s
  | .sessionClose ctx => Sys2Proof.Machine.execSessionClose ctx s
  | .registerWrite who addr w others => Sys2Proof.Machine.execRegisterWrite who addr w s others
  | .rcFieldRead who addr => Sys2Proof.Machine.execRcFieldRead who addr s
  | .frmNumLoRead who => Sys2Proof.Machine.execFrmNumLoRead who s
  | .commitDeadline => Sys2Proof.Machine.execCommitDeadline s
  | .breakpointHit sect brk => Sys2Proof.Machine.execBreakpointHit sect brk s
  | .step who => Sys2Proof.Machine.execStep who s
  | .retainedSave cut => Sys2Proof.Machine.execRetainedSave cut s
  | .loadComplete => Sys2Proof.Machine.execLoadComplete s
  | .opNop k => Sys2Proof.Machine.execOpNop k s
  | .opLd k mode opnd wait => Sys2Proof.Machine.execOpLd k mode opnd wait s
  | .opLdn k mode opnd wait => Sys2Proof.Machine.execOpLdn k mode opnd wait s
  | .opAnd k mode opnd wait => Sys2Proof.Machine.execOpAnd k mode opnd wait s
  | .opAndn k mode opnd wait => Sys2Proof.Machine.execOpAndn k mode opnd wait s
  | .opOr k mode opnd wait => Sys2Proof.Machine.execOpOr k mode opnd wait s
  | .opOrn k mode opnd wait => Sys2Proof.Machine.execOpOrn k mode opnd wait s
  | .opXor k mode opnd wait => Sys2Proof.Machine.execOpXor k mode opnd wait s
  | .opNot k => Sys2Proof.Machine.execOpNot k s
  | .opBopen k => Sys2Proof.Machine.execOpBopen k s
  | .opBcand k => Sys2Proof.Machine.execOpBcand k s
  | .opBcor k => Sys2Proof.Machine.execOpBcor k s
  | .opEdgp k mode opnd wait => Sys2Proof.Machine.execOpEdgp k mode opnd wait s
  | .opEdgn k mode opnd wait => Sys2Proof.Machine.execOpEdgn k mode opnd wait s
  | .opSt k mode opnd wait => Sys2Proof.Machine.execOpSt k mode opnd wait s
  | .opStn k mode opnd wait => Sys2Proof.Machine.execOpStn k mode opnd wait s
  | .opSet k mode opnd wait => Sys2Proof.Machine.execOpSet k mode opnd wait s
  | .opRst k mode opnd wait => Sys2Proof.Machine.execOpRst k mode opnd wait s
  | .opStwc k mode opnd wait => Sys2Proof.Machine.execOpStwc k mode opnd wait s
  | .opTon k mode opnd wait => Sys2Proof.Machine.execOpTon k mode opnd wait s
  | .opTof k mode opnd wait => Sys2Proof.Machine.execOpTof k mode opnd wait s
  | .opTp k mode opnd wait => Sys2Proof.Machine.execOpTp k mode opnd wait s
  | .opCtu k mode opnd wait => Sys2Proof.Machine.execOpCtu k mode opnd wait s
  | .opCtd k mode opnd wait => Sys2Proof.Machine.execOpCtd k mode opnd wait s
  | .opCld k mode opnd wait => Sys2Proof.Machine.execOpCld k mode opnd wait s
  | .opLdw k mode opnd wait => Sys2Proof.Machine.execOpLdw k mode opnd wait s
  | .opStw k mode opnd wait => Sys2Proof.Machine.execOpStw k mode opnd wait s
  | .opSwp k => Sys2Proof.Machine.execOpSwp k s
  | .opAdd k mode opnd wait => Sys2Proof.Machine.execOpAdd k mode opnd wait s
  | .opAdds k mode opnd wait => Sys2Proof.Machine.execOpAdds k mode opnd wait s
  | .opSub k mode opnd wait => Sys2Proof.Machine.execOpSub k mode opnd wait s
  | .opSubs k mode opnd wait => Sys2Proof.Machine.execOpSubs k mode opnd wait s
  | .opMul k mode opnd wait => Sys2Proof.Machine.execOpMul k mode opnd wait s
  | .opMuls k mode opnd wait => Sys2Proof.Machine.execOpMuls k mode opnd wait s
  | .opDiv k mode opnd wait => Sys2Proof.Machine.execOpDiv k mode opnd wait s
  | .opAndw k mode opnd wait => Sys2Proof.Machine.execOpAndw k mode opnd wait s
  | .opOrw k mode opnd wait => Sys2Proof.Machine.execOpOrw k mode opnd wait s
  | .opXorw k mode opnd wait => Sys2Proof.Machine.execOpXorw k mode opnd wait s
  | .opShl k mode opnd wait => Sys2Proof.Machine.execOpShl k mode opnd wait s
  | .opShr k mode opnd wait => Sys2Proof.Machine.execOpShr k mode opnd wait s
  | .opCeq k mode opnd wait => Sys2Proof.Machine.execOpCeq k mode opnd wait s
  | .opCne k mode opnd wait => Sys2Proof.Machine.execOpCne k mode opnd wait s
  | .opCgt k mode opnd wait => Sys2Proof.Machine.execOpCgt k mode opnd wait s
  | .opCge k mode opnd wait => Sys2Proof.Machine.execOpCge k mode opnd wait s
  | .opClt k mode opnd wait => Sys2Proof.Machine.execOpClt k mode opnd wait s
  | .opCle k mode opnd wait => Sys2Proof.Machine.execOpCle k mode opnd wait s
  | .opLdx k mode opnd wait => Sys2Proof.Machine.execOpLdx k mode opnd wait s
  | .opAddx k mode opnd wait => Sys2Proof.Machine.execOpAddx k mode opnd wait s
  | .opJmp k mode opnd wait => Sys2Proof.Machine.execOpJmp k mode opnd wait s
  | .opJmpc k mode opnd wait => Sys2Proof.Machine.execOpJmpc k mode opnd wait s
  | .opJmpcn k mode opnd wait => Sys2Proof.Machine.execOpJmpcn k mode opnd wait s
  | .opCall k mode opnd wait => Sys2Proof.Machine.execOpCall k mode opnd wait s
  | .opRet k => Sys2Proof.Machine.execOpRet k s
  | .opTbl k mode opnd wait => Sys2Proof.Machine.execOpTbl k mode opnd wait s
  | .opMovb k mode opnd wait => Sys2Proof.Machine.execOpMovb k mode opnd wait s
  | .opLdf k mode opnd wait => Sys2Proof.Machine.execOpLdf k mode opnd wait s
  | .opSvc k mode opnd wait => Sys2Proof.Machine.execOpSvc k mode opnd wait s
  | .opEnd k => Sys2Proof.Machine.execOpEnd k s
  | .reqStop o a => Sys2Proof.Machine.execReqStop o a s
  | .reqBasic o a => Sys2Proof.Machine.execReqBasic o a s
  | .plxAbort o a => Sys2Proof.Machine.execPlxAbort o a s
  | .retainSave o a => Sys2Proof.Machine.execRetainSave o a s
  | .setGroup o a => Sys2Proof.Machine.execSetGroup o a s
  | .releaseGroup o a => Sys2Proof.Machine.execReleaseGroup o a s
  | .setNode o a => Sys2Proof.Machine.execSetNode o a s
  | .releaseNode o a => Sys2Proof.Machine.execReleaseNode o a s
  | .selectRecipe o a => Sys2Proof.Machine.execSelectRecipe o a s
  | .emergency o a => Sys2Proof.Machine.execEmergency o a s
  | .overlayPresence o a => Sys2Proof.Machine.execOverlayPresence o a s
  | .readStaging o a => Sys2Proof.Machine.execReadStaging o a s
  | .nodeQuery o a => Sys2Proof.Machine.execNodeQuery o a s
  | .nodeIdentify o a => Sys2Proof.Machine.execNodeIdentify o a s
  | .nodeRestart o a => Sys2Proof.Machine.execNodeRestart o a s
  | .shortTest o a => Sys2Proof.Machine.execShortTest o a s
  | .loopOpen o a => Sys2Proof.Machine.execLoopOpen o a s
  | .loopClose o a => Sys2Proof.Machine.execLoopClose o a s
  | .setCoef o a => Sys2Proof.Machine.execSetCoef o a s
  | .setSp o a => Sys2Proof.Machine.execSetSp o a s
  | .hoistMove o a => Sys2Proof.Machine.execHoistMove o a s
  | .hoistStop o a => Sys2Proof.Machine.execHoistStop o a s
  | .hoistHome o a => Sys2Proof.Machine.execHoistHome o a s
  | .roverStatus o a => Sys2Proof.Machine.execRoverStatus o a s
  | .taskQueue o a => Sys2Proof.Machine.execTaskQueue o a s
  | .taskAssign o a => Sys2Proof.Machine.execTaskAssign o a s
  | .taskCancel o a => Sys2Proof.Machine.execTaskCancel o a s
  | .roverHold o a => Sys2Proof.Machine.execRoverHold o a s
  | .roverRelease o a => Sys2Proof.Machine.execRoverRelease o a s
  | .knotResolve o a => Sys2Proof.Machine.execKnotResolve o a s
  | .corridorClose o a => Sys2Proof.Machine.execCorridorClose o a s
  | .corridorOpen o a => Sys2Proof.Machine.execCorridorOpen o a s
  | .declareStop o a => Sys2Proof.Machine.execDeclareStop o a s
  | .trigArm o a => Sys2Proof.Machine.execTrigArm o a s
  | .trigEmit o a => Sys2Proof.Machine.execTrigEmit o a s
  | .trigRead o a => Sys2Proof.Machine.execTrigRead o a s
  | .calRead o a => Sys2Proof.Machine.execCalRead o a s
  | .harmRead o a => Sys2Proof.Machine.execHarmRead o a s
  | .demandReset o a => Sys2Proof.Machine.execDemandReset o a s
  | .stationDiag o a => Sys2Proof.Machine.execStationDiag o a s
  | .daliArc o a => Sys2Proof.Machine.execDaliArc o a s
  | .daliCmd o a => Sys2Proof.Machine.execDaliCmd o a s
  | .daliQuery o a => Sys2Proof.Machine.execDaliQuery o a s
  | .logEvent o a => Sys2Proof.Machine.execLogEvent o a s
  | .commitFrameWithdraw tag => Sys2Proof.Machine.execCommitFrameWithdraw tag s
  | .commitFrameClose tag => Sys2Proof.Machine.execCommitFrameClose tag s
  | .nodeReport r index sess seq b => Sys2Proof.Machine.execNodeReport r index sess seq b s
  | .reportWaitExpiry node => Sys2Proof.Machine.execReportWaitExpiry node s
  | .tempAgeExpiry node => Sys2Proof.Machine.execTempAgeExpiry node s
  | .calStore who w => Sys2Proof.Machine.execCalStore who w s
  | .calLoad who w => Sys2Proof.Machine.execCalLoad who w s
  | .lgtNsel who w => Sys2Proof.Machine.execLgtNsel who w s
  | .lgtSsel who w => Sys2Proof.Machine.execLgtSsel who w s
  | .beaconTx r => Sys2Proof.Machine.execBeaconTx r s
  | .stopFrameTx => Sys2Proof.Machine.execStopFrameTx s
  | .exclusionTx r => Sys2Proof.Machine.execExclusionTx r s
  | .commitFrameTx r => Sys2Proof.Machine.execCommitFrameTx r s
  | .mapannTx r => Sys2Proof.Machine.execMapannTx r s
  | .mapChangeEffect r => Sys2Proof.Machine.execMapChangeEffect r s
  | .mapchgApply who r w => Sys2Proof.Machine.execMapchgApply who r w s
  | .frameRx r f => Sys2Proof.Machine.execFrameRx r f s
  | .joinReq r serial kind nonce => Sys2Proof.Machine.execJoinReq r serial kind nonce s
  | .joinConfirm r index micOk nonces => Sys2Proof.Machine.execJoinConfirm r index micOk s nonces
  | .joinTimeout r index => Sys2Proof.Machine.execJoinTimeout r index s
  | .supervisionTimeout r index => Sys2Proof.Machine.execSupervisionTimeout r index s
  | .quarantineExpiry r index => Sys2Proof.Machine.execQuarantineExpiry r index s
  | .sleepUplink r index delta octets search => Sys2Proof.Machine.execSleepUplink r index delta octets s search
  | .ackRx r index seq info => Sys2Proof.Machine.execAckRx r index seq info s
  | .macRepeat r index seq => Sys2Proof.Machine.execMacRepeat r index seq s
  | .txnResend r index seq => Sys2Proof.Machine.execTxnResend r index seq s
  | .txnTimeout r index seq => Sys2Proof.Machine.execTxnTimeout r index seq s
  | .nodeResponse r index sess seq status body => Sys2Proof.Machine.execNodeResponse r index sess seq status body s
  | .nack r index sess seq first last => Sys2Proof.Machine.execNack r index sess seq first last s
  | .relay r index down octets => Sys2Proof.Machine.execRelay r index down octets s
  | .campaignPart h radio off data => Sys2Proof.Machine.execCampaignPart h radio off data s
  | .campaignStart h radio kind members => Sys2Proof.Machine.execCampaignStart h radio kind members s
  | .campaignActivation radio => Sys2Proof.Machine.execCampaignActivation radio s
  | .loopTick x => Sys2Proof.Machine.execLoopTick x s
  | .driveReply p d pos stat good => Sys2Proof.Machine.execDriveReply p d pos stat good s
  | .driveLinkFault p d => Sys2Proof.Machine.execDriveLinkFault p d s
  | .hoistBrakeRelease a => Sys2Proof.Machine.execHoistBrakeRelease a s
  | .hoistBrakeEngage a => Sys2Proof.Machine.execHoistBrakeEngage a s
  | .axisReset who a => Sys2Proof.Machine.execAxisReset who a s
  | .lopOpen who l => Sys2Proof.Machine.execLopOpen who l s
  | .lopClose who l => Sys2Proof.Machine.execLopClose who l s
  | .shortTestSlot shorted => Sys2Proof.Machine.execShortTestSlot shorted s
  | .shortPassStart => Sys2Proof.Machine.execShortPassStart s
  | .shortCmdGo who => Sys2Proof.Machine.execShortCmdGo who s
  | .trackingTick obs => Sys2Proof.Machine.execTrackingTick obs s
  | .obsEnvelope r e => Sys2Proof.Machine.execObsEnvelope r e s
  | .epochCutoff residual off nav => Sys2Proof.Machine.execEpochCutoff residual off nav s
  | .roverSolution r x => Sys2Proof.Machine.execRoverSolution r x s
  | .refGo who w => Sys2Proof.Machine.execRefGo who w s
  | .surveyComplete => Sys2Proof.Machine.execSurveyComplete s
  | .antStateChange current limited => Sys2Proof.Machine.execAntStateChange current limited s
  | .roverSessionOpen cert slot => Sys2Proof.Machine.execRoverSessionOpen cert slot s
  | .gnsFsel who w => Sys2Proof.Machine.execGnsFsel who w s
  | .status r seq b => Sys2Proof.Machine.execStatus r seq b s
  | .routeReq r seq dest => Sys2Proof.Machine.execRouteReq r seq dest s
  | .releaseReq r seq => Sys2Proof.Machine.execReleaseReq r seq s
  | .taskAck r seq task refuse => Sys2Proof.Machine.execTaskAck r seq task refuse s
  | .taskEnd r seq task failed code => Sys2Proof.Machine.execTaskEnd r seq task failed code s
  | .roverAck r seq acked => Sys2Proof.Machine.execRoverAck r seq acked s
  | .fleetResend r seq => Sys2Proof.Machine.execFleetResend r seq s
  | .roverLost r => Sys2Proof.Machine.execRoverLost r s
  | .taskOfferTimeout t => Sys2Proof.Machine.execTaskOfferTimeout t s
  | .taskDeadline t => Sys2Proof.Machine.execTaskDeadline t s
  | .taskFree t => Sys2Proof.Machine.execTaskFree t s
  | .backoffExpiry r => Sys2Proof.Machine.execBackoffExpiry r s
  | .roverCmdHold who r => Sys2Proof.Machine.execRoverCmdHold who r s
  | .roverCmdRelease who r => Sys2Proof.Machine.execRoverCmdRelease who r s
  | .forget who r confirm => Sys2Proof.Machine.execForget who r confirm s
  | .lanyardInputChange b samples => Sys2Proof.Machine.execLanyardInputChange b samples s
  | .lanyardDiscrepancy => Sys2Proof.Machine.execLanyardDiscrepancy s
  | .outputTest b ok => Sys2Proof.Machine.execOutputTest b ok s
  | .mailboxRead good => Sys2Proof.Machine.execMailboxRead good s
  | .mailboxMiss => Sys2Proof.Machine.execMailboxMiss s
  | .y0Heartbeat => Sys2Proof.Machine.execY0Heartbeat s
  | .y0Watchdog => Sys2Proof.Machine.execY0Watchdog s
  | .stpDeclare who confirm => Sys2Proof.Machine.execStpDeclare who confirm s
  | .stpReset who confirm => Sys2Proof.Machine.execStpReset who confirm s
  | .stopKeySwitch => Sys2Proof.Machine.execStopKeySwitch s
  | .sourceQualify src => Sys2Proof.Machine.execSourceQualify src s
  | .sourceDisqualify src => Sys2Proof.Machine.execSourceDisqualify src s
  | .restep who confirm => Sys2Proof.Machine.execRestep who confirm s
  | .ptpSyncRx seq gm t1 t2 corr twoStep => Sys2Proof.Machine.execPtpSyncRx seq gm t1 t2 corr twoStep s
  | .ptpFollowUpRx seq gm t1 corr => Sys2Proof.Machine.execPtpFollowUpRx seq gm t1 corr s
  | .ptpDelayReqTx t3 => Sys2Proof.Machine.execPtpDelayReqTx t3 s
  | .ptpDelayRespRx seq gm t4 corr => Sys2Proof.Machine.execPtpDelayRespRx seq gm t4 corr s
  | .ptpAnnounceRx a => Sys2Proof.Machine.execPtpAnnounceRx a s
  | .ptpAnnounceTimeout => Sys2Proof.Machine.execPtpAnnounceTimeout s
  | .ptpSyncTx => Sys2Proof.Machine.execPtpSyncTx s
  | .ptpAnnounceTx => Sys2Proof.Machine.execPtpAnnounceTx s
  | .ptpDelayReqRx seq source t4 => Sys2Proof.Machine.execPtpDelayReqRx seq source t4 s
  | .ptpTcForward typ twoStep toB corr residence => Sys2Proof.Machine.execPtpTcForward typ twoStep toB corr s residence
  | .ppsPulse => Sys2Proof.Machine.execPpsPulse s
  | .leapSecond => Sys2Proof.Machine.execLeapSecond s
  | .trigCapture t falling at_ => Sys2Proof.Machine.execTrigCapture t falling at_ s
  | .trigEmission t => Sys2Proof.Machine.execTrigEmission t s
  | .timTrigStatRead who t => Sys2Proof.Machine.execTimTrigStatRead who t s
  | .timNowNsRead who at_ => Sys2Proof.Machine.execTimNowNsRead who at_ s
  | .txTimestamp id port at_ pop => Sys2Proof.Machine.execTxTimestamp id port at_ s pop
  | .txqPop => Sys2Proof.Machine.execTxqPop s
  | .rtcSubsecRead who => Sys2Proof.Machine.execRtcSubsecRead who s
  | .rtcYearRead who => Sys2Proof.Machine.execRtcYearRead who s
  | .rtcFreezeExpiry who => Sys2Proof.Machine.execRtcFreezeExpiry who s
  | .rtcCommit who => Sys2Proof.Machine.execRtcCommit who s
  | .rtcTrimWindow => Sys2Proof.Machine.execRtcTrimWindow s
  | .rtcLeapAct => Sys2Proof.Machine.execRtcLeapAct s
  | .rtcDiscipline => Sys2Proof.Machine.execRtcDiscipline s
  | .gainDown ch codes => Sys2Proof.Machine.execGainDown ch codes s
  | .gainUp ch => Sys2Proof.Machine.execGainUp ch s
  | .meterPublication doneAt => Sys2Proof.Machine.execMeterPublication doneAt s
  | .meterEstimate => Sys2Proof.Machine.execMeterEstimate s
  | .meterPeriodicSave => Sys2Proof.Machine.execMeterPeriodicSave s
  | .pulseEmit p => Sys2Proof.Machine.execPulseEmit p s
  | .clearAll who confirm => Sys2Proof.Machine.execClearAll who confirm s
  | .mtrAccLoRead who f q => Sys2Proof.Machine.execMtrAccLoRead who f q s
  | .mtrEsel who w => Sys2Proof.Machine.execMtrEsel who w s
  | .ethFrameRx p f => Sys2Proof.Machine.execEthFrameRx p f s
  | .arpRequest service ip vid => Sys2Proof.Machine.execArpRequest service ip vid s
  | .icmpEcho service ip vid id seq => Sys2Proof.Machine.execIcmpEcho service ip vid id seq s
  | .cleatExchange replies => Sys2Proof.Machine.execCleatExchange replies s
  | .daliSlot l collision answer => Sys2Proof.Machine.execDaliSlot l collision answer s
  | .daliPowerLoss l => Sys2Proof.Machine.execDaliPowerLoss l s
  | .daliPowerRestore l => Sys2Proof.Machine.execDaliPowerRestore l s
  | .spiRequest sid crcOk macOk h m => Sys2Proof.Machine.execSpiRequest sid crcOk macOk h m s
  | .spiResponseRead => Sys2Proof.Machine.execSpiResponseRead s
  | .spiOpen sid seq hostNonce moduleNonce => Sys2Proof.Machine.execSpiOpen sid seq hostNonce moduleNonce s
  | .spiClose sid seq => Sys2Proof.Machine.execSpiClose sid seq s
  | .hxmHandshake service good cloarn ident => Sys2Proof.Machine.execHxmHandshake service good cloarn ident s
  | .hxmIdleTimeout ctx => Sys2Proof.Machine.execHxmIdleTimeout ctx s
  | .hxmRead h t => Sys2Proof.Machine.execHxmRead h t s
  | .hxmWrite h t => Sys2Proof.Machine.execHxmWrite h t s
  | .hxmService h code a => Sys2Proof.Machine.execHxmService h code a s
  | .hxmAbort h seq => Sys2Proof.Machine.execHxmAbort h seq s
  | .logRead h first count => Sys2Proof.Machine.execLogRead h first count s
  | .vitrineRead h first count => Sys2Proof.Machine.execVitrineRead h first count s
  | .staging h node count => Sys2Proof.Machine.execStaging h node count s
  | .changeSet h pairs => Sys2Proof.Machine.execChangeSet h pairs s
  | .hxmRecipe h p => Sys2Proof.Machine.execHxmRecipe h p s
  | .loadPart h pkg => Sys2Proof.Machine.execLoadPart h pkg s
  | .prepare h => Sys2Proof.Machine.execPrepare h s
  | .switch_ h => Sys2Proof.Machine.execSwitch h s
  | .discard h => Sys2Proof.Machine.execDiscard h s
  | .revert h => Sys2Proof.Machine.execRevert h s
  | .forceSet h sym value => Sys2Proof.Machine.execForceSet h sym value s
  | .forceClear h sym => Sys2Proof.Machine.execForceClear h sym s
  | .forceList h => Sys2Proof.Machine.execForceList h s
  | .watchAdd h sym => Sys2Proof.Machine.execWatchAdd h sym s
  | .watchRemove h watch => Sys2Proof.Machine.execWatchRemove h watch s
  | .watchRead h => Sys2Proof.Machine.execWatchRead h s
  | .debugBreakpoint h sect brk en pc => Sys2Proof.Machine.execDebugBreakpoint h sect brk en pc s
  | .debugHalt h => Sys2Proof.Machine.execDebugHalt h s
  | .debugStep h sect => Sys2Proof.Machine.execDebugStep h sect s
  | .debugReadRegs h sect => Sys2Proof.Machine.execDebugReadRegs h sect s
  | .hxmReport h first => Sys2Proof.Machine.execHxmReport h first s
  | .hxmImage h off data => Sys2Proof.Machine.execHxmImage h off data s
  | .rawFrame h port frame stamp at_ => Sys2Proof.Machine.execRawFrame h port frame stamp at_ s
  | .obsSelWrite who k w => Sys2Proof.Machine.execObsSelWrite who k w s
  | .spliceHeartbeatTx => Sys2Proof.Machine.execSpliceHeartbeatTx s
  | .spliceHeartbeatRx b => Sys2Proof.Machine.execSpliceHeartbeatRx b s
  | .spliceHeartbeatLost => Sys2Proof.Machine.execSpliceHeartbeatLost s
  | .copyRecordRx serial auth x => Sys2Proof.Machine.execCopyRecordRx serial auth x s
  | .commitMarkRx serial => Sys2Proof.Machine.execCommitMarkRx serial s
  | .frameMarkRx serial num prot => Sys2Proof.Machine.execFrameMarkRx serial num prot s
  | .copyAckRx serial => Sys2Proof.Machine.execCopyAckRx serial s
  | .copyAckTimeout => Sys2Proof.Machine.execCopyAckTimeout s
  | .fullStateApplied => Sys2Proof.Machine.execFullStateApplied s
  | .leadConflict => Sys2Proof.Machine.execLeadConflict s
  | .relinquish => Sys2Proof.Machine.execRelinquish s
  | .leadLossDetect us => Sys2Proof.Machine.execLeadLossDetect us s
  | .takeover => Sys2Proof.Machine.execTakeover s
  | .swap who confirm => Sys2Proof.Machine.execSwap who confirm s
  | .swapBoundary => Sys2Proof.Machine.execSwapBoundary s
  | .imageVerified blocksOk sigOk => Sys2Proof.Machine.execImageVerified blocksOk sigOk s
  | .activateHitless who confirm => Sys2Proof.Machine.execActivateHitless who confirm s
  | .updateC1Ready ok => Sys2Proof.Machine.execUpdateC1Ready s ok
  | .updateSwitchBoundary => Sys2Proof.Machine.execUpdateSwitchBoundary s
  | .activateRestart who confirm => Sys2Proof.Machine.execActivateRestart who confirm s
  | .pairUpdate who confirm => Sys2Proof.Machine.execPairUpdate who confirm s
  | .updCommit who confirm => Sys2Proof.Machine.execUpdCommit who confirm s
  | .updErase who confirm => Sys2Proof.Machine.execUpdErase who confirm s
  | .bankConfirmTimeout => Sys2Proof.Machine.execBankConfirmTimeout s
  | .recoveryImagePart off data blocksOk sigOk => Sys2Proof.Machine.execRecoveryImagePart off data blocksOk sigOk s
  | .recoveryReset => Sys2Proof.Machine.execRecoveryReset s
  | .provision who confirm => Sys2Proof.Machine.execProvision who confirm s
  | .deploy who confirm => Sys2Proof.Machine.execDeploy who confirm s
  | .keyReturn who confirm => Sys2Proof.Machine.execKeyReturn who confirm s
  | .scrap who confirm => Sys2Proof.Machine.execScrap who confirm s
  | .fuseProgramComplete => Sys2Proof.Machine.execFuseProgramComplete s
  | .keyInstall who confirm => Sys2Proof.Machine.execKeyInstall who confirm s
  | .keyGenerate who confirm => Sys2Proof.Machine.execKeyGenerate who confirm s
  | .keyDerive who confirm => Sys2Proof.Machine.execKeyDerive who confirm s
  | .keyErase who confirm => Sys2Proof.Machine.execKeyErase who confirm s
  | .identityCsr who confirm => Sys2Proof.Machine.execIdentityCsr who confirm s
  | .keeperRequest engine secure slot op => Sys2Proof.Machine.execKeeperRequest engine secure slot op s
  | .keeperOpComplete => Sys2Proof.Machine.execKeeperOpComplete s
  | .tamperEvent => Sys2Proof.Machine.execTamperEvent s
  | .tamperLatch => Sys2Proof.Machine.execTamperLatch s
  | .logRecordWrite torn => Sys2Proof.Machine.execLogRecordWrite torn s
  | .logSel who w => Sys2Proof.Machine.execLogSel who w s
  | .logOptimeLoRead who => Sys2Proof.Machine.execLogOptimeLoRead who s
  | .timeMark => Sys2Proof.Machine.execTimeMark s
  | .vitrineFreeze => Sys2Proof.Machine.execVitrineFreeze s
  | .freeze who => Sys2Proof.Machine.execFreeze who s
  | .unfreeze who => Sys2Proof.Machine.execUnfreeze who s
  | .fuseRepair who confirm => Sys2Proof.Machine.execFuseRepair who confirm s
  | .scanEnable who confirm => Sys2Proof.Machine.execScanEnable who confirm s
  | .roleInRise => Sys2Proof.Machine.execRoleInRise s
  | .dataRegionTx r x => Sys2Proof.Machine.execDataRegionTx r x s
  | .sensorReportStale sensor => Sys2Proof.Machine.execSensorReportStale sensor s
  | .rtcOscillatorStop retention => Sys2Proof.Machine.execRtcOscillatorStop retention s
  | .rtcRollover => Sys2Proof.Machine.execRtcRollover s
  | .lanyardOutputReadback b level => Sys2Proof.Machine.execLanyardOutputReadback b level s
  | .ethLinkChange p up => Sys2Proof.Machine.execEthLinkChange p up s

end Sys2Proof.Machine
end

