-- ==== Sys2Proof/Safety.lean ====
section
/-!
DEFINITION. What a safe run is, in the terms the statements use: no command stops the machine, the memory keeps its canonical
form, the queue is served in order; and the conditions under which a section's instruction or a service call has its own effect.
-/
namespace Sys2Proof.Machine

/-- A step that goes on. -/
def Goes (s : State) : Prop := ∃ t, step s = .next t

/-- The invariant of every step: the memory behind the address map is in its canonical form. -/
def State.memOk (s : State) : Prop := Memory.wf s.mem = true

/-- Section k stands at an instruction in its window (R119, R139, R171): the module is in Run, the section executes and has not ended,
no breakpoint holds it, and the word at its program counter is the one given. -/
def State.canIssue (s : State) (k opc mode opnd : Nat) : Prop :=
  s.live = true ∧ s.mode = .run ∧ k < s.prog.sects.length ∧ (s.sect k).st = .executing ∧ (s.sect k).ended = false ∧
    s.atBreak k = false ∧ (s.code k)[(s.sect k).pc]? = some (opWord opc mode opnd)

/-- Another instruction follows the one at the program counter of section k; at the last one the section traps (R194). -/
def State.hasNext (s : State) (k : Nat) : Prop := (s.sect k).pc + 1 < (s.code k).length

/-- Both: the instruction has its own effect, and no trap follows it. -/
def State.runsOn (s : State) (k opc mode opnd : Nat) : Prop := s.canIssue k opc mode opnd ∧ s.hasNext k

/-- A section without its accounts of the cycle: clocks, and counts of accesses that R123 and R178 refuse. -/
def Sect.core (x : Sect) : Sect := { x with clk := 0, range := 0, rangeTot := 0, foreign := false, passBrk := false }

/-- An operand names an element that section k owns; no force holds it, or it is an output, whose force acts at the commit (R122,
R160). -/
def State.ownElem (s : State) (k mode opnd area off : Nat) : Prop :=
  s.operand k mode opnd = some (area, off) ∧ off < areaSize area ∧ s.ownerOf area off = some k ∧
    (s.forcedAt area off = none ∨ area = 1 ∨ area = 4)

/-- The number that section k reads at an element, as a word (R123 to R125, R160, R174). -/
def State.seen (s : State) (k area off : Nat) : Nat := (s.readElem k true area off).2

/-- Word w of the table at an operand, as section k sees it (R190). -/
def State.tblWordAt (s : State) (k area off w : Nat) : Word := BitVec.ofNat 32 (s.seen k area (off + w))

/-- The word, or the bit, that section k sees at an operand (R123 to R125, R174, R177). -/
def State.opVal (s : State) (k mode opnd : Nat) : Word := (s.wordOp k mode opnd 0).2
def State.opBit (s : State) (k mode opnd : Nat) : Bool := (s.bitOp k mode opnd).2

/-- A section of the program whose ticket slot is issued, or an open session of role OPERATOR or higher, calls a service that runs in the
present mode (R199, R207, R531, Table 02.5). -/
def State.canCall (s : State) (o : Origin) (code : Nat) : Prop :=
  s.live = true ∧ s.mode ≠ .recovery ∧ s.svcRuns code = true ∧
    match o with
    | .program k j n => k < s.prog.sects.length ∧ (SMap.getD (s.sect k).slots j {}).serial = n ∧
        (SMap.getD (s.sect k).slots j {}).st = .issued
    | .host c _ => ∃ x, s.session c = some x ∧ x.state = 2 ∧ 1 ≤ x.role
    | _ => False

/-- What a command emits has left the module, or waits for its Follower's acknowledgement (R548). -/
def State.sent (t : State) (k : OutKind) (l : List Int) : Prop := ⟨k, l⟩ ∈ t.out ∨ ∃ e ∈ t.spl.held, e.out = ⟨k, l⟩

/-- A message of a KIND for the host of a session has left: as an HXM message over DTLS, or as a response frame that the host port has
ready (R525, R530); or it waits for its Follower's acknowledgement. -/
def State.toHost (t : State) (c kind q st : Nat) (body : List Nat) : Prop :=
  ∃ x, t.session c = some x ∧
    if x.typ = 3 then
      let l := (spiFrame kind x.peer q st body (some x.key)).map Int.ofNat
      ⟨.spiReady, l⟩ ∈ t.out ∨ ∃ e ∈ t.spl.held, e.out = ⟨.spiReply, l⟩
    else t.sent (if kind = kindComplete then .hxmComplete else .hxmReply) ((c : Int) :: (hxmMessage kind q st body).map Int.ofNat)

/-- A request of a session has its response: its KIND with bit 7 set, a status and result octets (R530). -/
def State.answered (t : State) (c q st : Nat) (body : List Nat) : Prop :=
  ∃ x, t.session c = some x ∧ t.toHost c (x.kindOf q + 0x80) q st body

/-- A caller has been told a status, and with a final one the result words: a ticket slot holds them, or a response carries their octets
(R11, R203, R204, R532). -/
def State.told (t : State) (o : Origin) (st : Nat) (res : List Nat) : Prop :=
  match o with
  | .program k j n =>
    if st = St.pending then
      (SMap.getD (t.sect k).slots j {}).serial = n ∧ (SMap.getD (t.sect k).slots j {}).st = .active
    else { SMap.getD (t.sect k).slots j {} with code := 0, shown := 1 } = { st := .final, serial := n, status := st, result := res }
  | .host c q => t.answered c q st (octetsOf res)
  | _ => False

/-- A caller waits for the end of an operation: its ticket slot is active, or its session stands open (R203, R532). -/
def State.awaits (s : State) (o : Origin) : Prop :=
  match o with
  | .program k j n => k < s.prog.sects.length ∧ (SMap.getD (s.sect k).slots j {}).serial = n ∧
      (SMap.getD (s.sect k).slots j {}).st = .active
  | .host c _ => ∃ x, s.session c = some x ∧ x.state ≠ 3
  | _ => False

/-- An operation has ended for its caller: the ticket slot is final, or a completion carries the status and the result words. -/
def State.ended (t : State) (o : Origin) (st : Nat) (res : List Nat) : Prop :=
  match o with
  | .program k j n =>
    { SMap.getD (t.sect k).slots j {} with code := 0, shown := 1 } = { st := .final, serial := n, status := st, result := res }
  | .host c q => t.toHost c kindComplete q st (octetsOf res)
  | _ => False

/-- DMA requester d may read (op 0) or write (op 1) the octet at a: in the Gallery with tickets at its bank, elsewhere where Table 01.2
lets it (R26, R30, R31, R36). -/
def State.dmaMay (s : State) (d a op : Nat) : Prop :=
  match galleryBank a with
  | some b => s.tickets b d ≠ 0
  | none => directAllowed d a op = true

/-- One of the six radios, with its slot of this frame not lost to a RADIO fault (Tables 02.3 and 06.1). -/
def State.hasSlot (s : State) (r : Nat) : Prop :=
  r < 6 ∧ s.net.radios.length = 6 ∧ s.frame.missed.contains (radioLate r) = false

/-- A command that changes nothing. -/
def State.idle (s : State) (c : Instr) : Prop := ∃ t, exec c s = .next t ∧ { t with out := s.out } = s

/-- A command of the table carries an HXM message under a header (Table 12.3). -/
def HxmMsg.sentAs (m : HxmMsg) (h : Hdr) (c : Instr) : Prop :=
  match m with
  | .read t => c = .hxmRead h t
  | .write t => c = .hxmWrite h t
  | .service code a => c = .hxmService h code a
  | .abort seq => c = .hxmAbort h seq
  | .logRead first count => c = .logRead h first count
  | .vitrineRead first count => c = .vitrineRead h first count
  | .staging node count => c = .staging h node count
  | .changeSet pairs => c = .changeSet h pairs
  | .recipe p => c = .hxmRecipe h p
  | .load pkg => c = .loadPart h pkg
  | .prepare => c = .prepare h
  | .switch_ => c = .switch_ h
  | .discard => c = .discard h
  | .revert => c = .revert h
  | .forceSet sym value => c = .forceSet h sym value
  | .forceClear sym => c = .forceClear h sym
  | .forceList => c = .forceList h
  | .watchAdd sym => c = .watchAdd h sym
  | .watchRemove watch => c = .watchRemove h watch
  | .watchRead => c = .watchRead h
  | .dbgBreak sect brk en pc => c = .debugBreakpoint h sect brk en pc
  | .dbgHalt => c = .debugHalt h
  | .dbgStep sect => c = .debugStep h sect
  | .dbgRegs sect => c = .debugReadRegs h sect
  | .report first => c = .hxmReport h first
  | .image off data => c = .hxmImage h off data
  | .campPart r off data => c = .campaignPart h r off data
  | .campStart r kind l => c = .campaignStart h r kind l
  | .rawFrame port frame stamp at_ => c = .rawFrame h port frame stamp at_

/-- The number under which a request is known, and the caller it makes. -/
def Hdr.num (h : Hdr) : Nat := h.seq % 2 ^ 32
def Hdr.by_ (h : Hdr) : Origin := .host h.ctx h.num

/-- An open management or host-port session stands behind a request (R526, R529). -/
def State.askedBy (s : State) (h : Hdr) (x : Session) : Prop :=
  s.live = true ∧ s.session h.ctx = some x ∧ x.state = 2 ∧ (x.typ = 0 ∨ x.typ = 3)

/-- A message that its session takes, whose form, size, role and mode admit it (R59, R531, R534). -/
def State.canAsk (s : State) (h : Hdr) (m : HxmMsg) : Prop :=
  (∃ x, s.askedBy h x ∧ x.classify h.num = .accepted) ∧ h.bad = false ∧ h.len ≤ 1280 ∧ m.formed = true ∧
    s.msgAccess h.ctx m = true ∧ (s.mode = .recovery → m.inRecovery = true)

/-- The state once the session has taken a request's number and KIND (R59, R60). -/
def State.taken (s : State) (h : Hdr) (kind : Nat) : State :=
  match s.session h.ctx with
  | none => s.begin
  | some x => s.begin.setSession h.ctx ({ x with lastAt := s.mono }.accept h.num kind)

/-- A requester may write registers: its role, and not a session's in Recovery (R531, R534). -/
def State.mayWrite (s : State) (who : Requester) : Prop := 1 ≤ s.roleOf who ∧ (s.mode = .recovery → ∃ e, who = .engine e)

/-- An order of a layer has been decided: its caller waits, and the change stands at the tag that its lead gives (R229, R230). -/
def State.ordered (s t : State) (o : Origin) (lead : Bool) (kind : LayerKind) (fade : Nat) (old : Option (Nat × Nat) := none) : Prop :=
  t.told o St.pending [] ∧ ∀ c, c ∈ t.light.changes ↔ c ∈ s.light.changes ∨
    c = { tag := s.decideFrame o + s.leadOf lead, at_ := s.decideFrame o, lead := lead, kind := kind, fade := fade, by_ := o, old := old }

/-- All but the session contexts, and what is emitted or ready for the host port, is as before. -/
def State.onlyAnswers (t s : State) : Prop :=
  { t with
    gal := { t.gal with sessions := s.gal.sessions }, out := s.out, spl := { t.spl with held := s.spl.held }
    wired := { t.wired with spiResp := s.wired.spiResp, spiRdy := s.wired.spiRdy } } = s

/-- The module takes an envelope of a rover's open session (R59, R362, R414). -/
def State.hears (s : State) (r q : Nat) : Prop :=
  s.live = true ∧ ∃ c x, (s.rovPos r).ctx = some c ∧ s.session c = some x ∧ x.state = 2 ∧ x.classify (q % 2 ^ 32) = .accepted

/-- Nothing is held back for a Follower (R548): what the module emits leaves at once. -/
def State.unheld (s : State) : Prop := s.get F.SPL_STAT_PROTECTED = 0

end Sys2Proof.Machine
end

