-- ==== Sys2Proof/Certificates/Slice0/Obligations.lean ====
section
/-!
DEFINITION. The statements for the provers: what each family of commands does, and where it completes; and what holds of every
step. A statement that rests on a choice of the model names its log entry.
-/
open Sys2Proof Sys2Proof.Machine

/-- A read that finds a semaphore free gives it to the reader that wins, and clears the abandoned mark; a read that finds it
owned leaves it; its owner releases it, any other engine's release is counted; a release or an abandonment of the clock of a read comes
first; a forced release abandons it (R42 to R48). -/
def Obligations.SemaphoresChangeHands : Prop :=
  (∀ (s : State) (n e : Nat) (readers : List Requester), n < 128 → s.get (F.SEM_SEMn_OWNER.at n) = 31 →
    (∀ r ∈ readers, r.awake s = true) → semWinner s.gal.semLast (readers.filterMap Requester.acquirer) = some e →
    ∃ t, exec (.semAcquire n readers .none_) s = .next t ∧ t.get (F.SEM_SEMn_OWNER.at n) = e ∧
      t.get (F.SEM_SEMn_ABANDONED.at n) = 0 ∧ t.gal.semLast = e) ∧
  (∀ (s : State) (n : Nat) (readers : List Requester), s.get (F.SEM_SEMn_OWNER.at n) ≠ 31 →
    ∃ t, exec (.semAcquire n readers .none_) s = .next t ∧ t.regs = s.regs ∧ t.gal = s.gal) ∧
  (∀ (s : State) (n e : Nat) (who : Requester) (readers : List Requester), n < 128 →
    who.acquirer = some (s.get (F.SEM_SEMn_OWNER.at n)) → (∀ r ∈ readers, r.awake s = true) →
    semWinner s.gal.semLast (readers.filterMap Requester.acquirer) = some e →
    ∃ t, exec (.semAcquire n readers (.release who)) s = .next t ∧ t.get (F.SEM_SEMn_OWNER.at n) = e ∧
      t.get (F.SEM_SEMn_ABANDONED.at n) = 0 ∧ t.gal.semLast = e) ∧
  (∀ (s : State) (n e : Nat) (readers : List Requester), n < 128 → s.get (F.SEM_SEMn_OWNER.at n) < 28 →
    (∀ r ∈ readers, r.awake s = true ∧ r ≠ .engine (s.get (F.SEM_SEMn_OWNER.at n))) →
    semWinner s.gal.semLast (readers.filterMap Requester.acquirer) = some e →
    ∃ t, exec (.semAcquire n readers .abandon) s = .next t ∧ t.get (F.SEM_SEMn_OWNER.at n) = e ∧
      t.get (F.SEM_SEMn_ABANDONED.at n) = 0 ∧ t.gal.semLast = e ∧
      t.gal.masked = insertN s.gal.masked (s.get (F.SEM_SEMn_OWNER.at n))) ∧
  (∀ (s : State) (n : Nat) (who : Requester) (w : Word), n < 128 → who.awake s = true → bit w.toNat 0 = true →
    who.acquirer = some (s.get (F.SEM_SEMn_OWNER.at n)) →
    ∃ t, exec (.semRelease n who w) s = .next t ∧ t.get (F.SEM_SEMn_OWNER.at n) = 31 ∧
      (∀ m, m < 128 → m ≠ n → t.get (F.SEM_SEMn_OWNER.at m) = s.get (F.SEM_SEMn_OWNER.at m)) ∧
      t.get F.SEM_ERR_FOREIGN = s.get F.SEM_ERR_FOREIGN ∧ { t with regs := s.regs, out := s.out } = s) ∧
  (∀ (s : State) (n : Nat) (who : Requester) (w : Word), n < 128 → who.awake s = true → bit w.toNat 0 = true →
    who.acquirer ≠ some (s.get (F.SEM_SEMn_OWNER.at n)) →
    ∃ t, exec (.semRelease n who w) s = .next t ∧
      (∀ m, m < 128 → t.get (F.SEM_SEMn_OWNER.at m) = s.get (F.SEM_SEMn_OWNER.at m)) ∧
      { t with regs := s.regs, out := s.out } = s ∧
      t.get F.SEM_ERR_FOREIGN = satAdd F.SEM_ERR_FOREIGN.max (s.get F.SEM_ERR_FOREIGN) 1 % 2 ^ F.SEM_ERR_FOREIGN.width) ∧
  (∀ (s : State) (who : Requester) (w : Word), s.live = true → s.mode = .stop ∨ s.mode = .hold → who.awake s = true →
    1 ≤ s.roleOf who → bit w.toNat 31 = true →
    ∃ t, exec (.semForce who w) s = .next t ∧ t.get (F.SEM_SEMn_OWNER.at (bits w.toNat 6 0)) = 31 ∧
      t.get (F.SEM_SEMn_ABANDONED.at (bits w.toNat 6 0)) = 1)

/-- An enabled FIFO that is neither full nor dropping takes its producer's entry at the tail, its consumer takes the head, a flush
empties it, and a packet is dropped up to its end; a pop of the clock of a push goes first, and a flush or a drop of that clock last; a
configuration write to a disabled FIFO is stored (R49 to R58). -/
def Obligations.FifosKeepTheirOrder : Prop :=
  (∀ (s : State) (f e : Nat) (lo hi : Word), s.fifoOn f = true → s.awake e = true → s.get (F.FIF_CFG_PRODUCER.at f) = e →
    (s.fifo f).dropping = false → (s.fifo f).entries.length < s.fifoCap f →
    ∃ t, exec (.fifPushLo f e lo (some hi)) s = .next t ∧
      (t.fifo f).entries = (s.fifo f).entries ++ [⟨lo.toNat, hi.toNat, false⟩] ∧ t.regs = s.regs) ∧
  (∀ (s : State) (f e : Nat) (hi : Word), s.fifoOn f = true → s.awake e = true → s.get (F.FIF_CFG_PRODUCER.at f) = e →
    (s.fifo f).dropping = false → (s.fifo f).entries.length < s.fifoCap f →
    ∃ t, exec (.fifPushHi f e hi) s = .next t ∧
      (t.fifo f).entries = (s.fifo f).entries ++ [⟨(s.fifo f).lowWord, hi.toNat, false⟩] ∧ t.regs = s.regs) ∧
  (∀ (s : State) (f e : Nat) (hi : Word), s.fifoOn f = true → s.awake e = true → s.get (F.FIF_CFG_PRODUCER.at f) = e →
    (s.fifo f).dropping = false → (s.fifo f).entries.length < s.fifoCap f →
    ∃ t, exec (.fifPushHiEnd f e hi none) s = .next t ∧
      (t.fifo f).entries = (s.fifo f).entries ++ [⟨(s.fifo f).lowWord, hi.toNat, true⟩] ∧ t.regs = s.regs) ∧
  (∀ (s : State) (f e : Nat) (hi : Word), s.fifoOn f = true → s.awake e = true → s.get (F.FIF_CFG_PRODUCER.at f) = e →
    (s.fifo f).dropping = false → (s.fifo f).entries.length = s.fifoCap f →
    ∃ t, exec (.fifPushHi f e hi) s = .next t ∧ t.gal = s.gal ∧ t.get (F.FIF_STAT_OVERFLOW.at f) = 1) ∧
  (∀ (s : State) (f e : Nat) (wide : Bool) (x : FifoEntry) (l : List FifoEntry), s.fifoOn f = true → s.awake e = true →
    s.get (F.FIF_CFG_CONSUMER.at f) = e → (s.fifo f).entries = x :: l →
    ∃ t, exec (.fifPopLo f e wide none) s = .next t ∧ (t.fifo f).entries = l ∧ (t.fifo f).lastLo = x.lo ∧
      (t.fifo f).lastHi = x.hi ∧ t.regs = s.regs) ∧
  (∀ (s : State) (f e : Nat) (wide : Bool) (x y : FifoEntry) (l : List FifoEntry), s.fifoOn f = true → s.awake e = true →
    s.get (F.FIF_CFG_CONSUMER.at f) = e → s.awake (s.get (F.FIF_CFG_PRODUCER.at f)) = true → (s.fifo f).dropping = false →
    (s.fifo f).entries = x :: l → (s.fifo f).entries.length ≤ s.fifoCap f →
    ∃ t, exec (.fifPopLo f e wide (some y)) s = .next t ∧ (t.fifo f).entries = l ++ [y] ∧ (t.fifo f).lastLo = x.lo ∧
      (t.fifo f).lastHi = x.hi ∧ t.regs = s.regs) ∧
  (∀ (s : State) (f e : Nat) (push : Option FifoEntry), s.fifoOn f = true → s.awake e = true →
    e < 2 ∨ s.get (F.FIF_CFG_CONSUMER.at f) = e →
    ∃ t, exec (.flush f e push) s = .next t ∧ (t.fifo f).entries = [] ∧ (t.fifo f).rptr = (t.fifo f).wptr ∧
      (t.fifo f).dropping = false ∧ (push = none → t.regs = s.regs)) ∧
  (∀ (s : State) (f e i : Nat), s.fifoOn f = true → s.awake e = true → s.get (F.FIF_CFG_CONSUMER.at f) = e →
    (s.fifo f).lastTag = false → findIdx FifoEntry.tag (s.fifo f).entries = some i →
    ∃ t, exec (.dropPacket f e none) s = .next t ∧ (t.fifo f).entries = (s.fifo f).entries.drop (i + 1) ∧ t.regs = s.regs) ∧
  (∀ (s : State) (f : Nat) (who : Requester) (w : Word), s.fifoOn f = false → who.awake s = true → 1 ≤ s.roleOf who →
    s.mode ≠ .recovery → bits w.toNat 25 24 ≠ 3 →
    ∃ t, exec (.fifCfgWrite f who w) s = .next t ∧
      t.get (F.FIF_CFG_ENABLE.at f) = b2n (bit w.toNat 31) ∧ t.get (F.FIF_CFG_SIZE.at f) = bits w.toNat 25 24 ∧
      t.get (F.FIF_CFG_CONSUMER.at f) = bits w.toNat 20 16 ∧ t.get (F.FIF_CFG_PRODUCER.at f) = bits w.toNat 12 8)

/-- A sole requester at its bank, awake and with tickets there, wins the draw, and its write or read is performed, 8 octets to a beat at
most; without tickets it is counted and faulted; the LFSR has advanced once for every clock (R33 to R36). -/
def Obligations.GalleryServesTheWinner : Prop :=
  (∀ (s : State) (b clocks beats : Nat) (q : GalReq), b < 16 → s.memOk → s.gal.pending = [] → s.awake q.req = true →
    galleryBank q.addr = some b → q.whole = true → q.req < 28 → y0Allowed q.req b q.op = true → 0 < s.tickets b q.req → q.op ≠ 0 →
    q.len ≤ q.data.length → q.ecc = [] →
    ∃ t, exec (.galleryAccess b clocks [q] beats []) s = .next t ∧
      (∀ a, t.octetAt a = if q.addr ≤ a ∧ a < q.addr + q.octs beats then q.data.getD (a - q.addr) 0 % 256 else s.octetAt a) ∧
      t.get F.GAL_LFSR_STATE =
        iter lfsrNext (Nat.max s.galClock s.gal.lfsrAt + clocks - s.gal.lfsrAt) (s.get F.GAL_LFSR_STATE) % 2 ^ 32 ∧
      (∀ f : Fld, f.key ≠ F.GAL_LFSR_STATE.key → f.key ≠ (F.GAL_BSTAT_MAXWAIT.at b).key →
        f.key ≠ (F.GAL_WAITMAX_MAXWAIT.at q.req).key → t.get f = s.get f) ∧
      { t with
        mem := s.mem, prog := { t.prog with areas := s.prog.areas }, gal := { t.gal with lfsrAt := s.gal.lfsrAt }
        regs := s.regs, out := s.out } = s) ∧
  (∀ (s : State) (b clocks beats : Nat) (q : GalReq), b < 16 → s.gal.pending = [] → s.awake q.req = true →
    galleryBank q.addr = some b → q.whole = true → q.req < 28 → y0Allowed q.req b q.op = true → 0 < s.tickets b q.req → q.op = 0 →
    q.ecc = [] →
    ∃ t, exec (.galleryAccess b clocks [q] beats []) s = .next t ∧
      t.out = [⟨.value, [(q.req : Int), 0, q.addr] ++ (s.octetsAt q.addr (q.octs beats)).map Int.ofNat⟩] ∧
      { t with gal := { t.gal with lfsrAt := s.gal.lfsrAt }, regs := s.regs, out := s.out } = s) ∧
  (∀ (s : State) (b clocks beats : Nat) (q : GalReq), b < 16 → s.gal.pending = [] → s.awake q.req = true →
    galleryBank q.addr = some b → q.whole = true → q.req < 28 → y0Allowed q.req b q.op = true → s.tickets b q.req = 0 →
    ∃ t, exec (.galleryAccess b clocks [q] beats []) s = .next t ∧ t.out = [⟨.fault, [(q.req : Int), q.addr]⟩] ∧
      t.get (F.GAL_BSTAT_DENIED.at b) =
        satAdd F.GAL_BSTAT_DENIED.max (s.get (F.GAL_BSTAT_DENIED.at b)) 1 % 2 ^ F.GAL_BSTAT_DENIED.width ∧
      { t with gal := { t.gal with lfsrAt := s.gal.lfsrAt }, regs := s.regs, out := s.out } = s)

/-- A descriptor from a Curator core copies, octet by octet, where its DMA requester D0–D3 may read and write every octet (in the Gallery:
with tickets at the bank); a source word whose error cannot be corrected is counted, faults and ends the copy before it; one from any
other engine only counts; one for another requester does nothing (R26, R28, R31, R36).
A command whose own condition does not hold changes nothing: log entry 8. -/
def Obligations.DmaCopiesForCuratorsOnly : Prop :=
  (∀ (s : State) (e d src dst len : Nat), e < 2 → s.awake e = true → 24 ≤ d → d ≤ 27 → s.awake d = true → s.memOk →
    (∀ i, i < len → s.dmaMay d (src + i) 0) → (∀ i, i < len → s.dmaMay d (dst + i) 1) → src + len ≤ dst ∨ dst + len ≤ src →
    ∃ t, exec (.dmaDescriptor e d src dst len []) s = .next t ∧
      (∀ a, t.octetAt a = if dst ≤ a ∧ a < dst + len then s.octetAt (src + (a - dst)) else s.octetAt a) ∧ t.out = [] ∧
      { t with mem := s.mem, prog := { t.prog with areas := s.prog.areas }, out := s.out } = s) ∧
  (∀ (s : State) (e d src dst len : Nat) (ecc : List Nat), e < 2 → s.awake e = true → 24 ≤ d → d ≤ 27 → s.awake d = true →
    s.dmaMay d src 0 → (galleryBank src).isSome = true → src % 8 = 0 → 0 < len →
    ∃ t, exec (.dmaDescriptor e d src dst len (2 :: ecc)) s = .next t ∧
      t.get F.GAL_ECC_UNCORR = satAdd F.GAL_ECC_UNCORR.max (s.get F.GAL_ECC_UNCORR) 1 % 2 ^ F.GAL_ECC_UNCORR.width ∧
      t.sent .fault [(d : Int), src] ∧ ∀ a, t.octetAt a = s.octetAt a) ∧
  (∀ (s : State) (e d src dst len : Nat) (ecc : List Nat), 2 ≤ e → s.awake e = true →
    ∃ t, exec (.dmaDescriptor e d src dst len ecc) s = .next t ∧
      t.get F.GAL_ECC_DMA_REFUSED = satAdd F.GAL_ECC_DMA_REFUSED.max (s.get F.GAL_ECC_DMA_REFUSED) 1 % 2 ^ F.GAL_ECC_DMA_REFUSED.width ∧
      (∀ f : Fld, f.key ≠ F.GAL_ECC_DMA_REFUSED.key → t.get f = s.get f) ∧ { t with regs := s.regs, out := s.out } = s) ∧
  (∀ (s : State) (e d src dst len : Nat) (ecc : List Nat), e < 2 → d < 24 ∨ 27 < d ∨ s.awake d = false →
    s.idle (.dmaDescriptor e d src dst len ecc))

/-- An engine whose sideband asserts is masked at the Gallery, its requests go, every semaphore it owned is free and marked
abandoned, and every FIFO it produces shows the reset of its producer (R37, R45, R57). -/
def Obligations.SidebandMasksTheEngine : Prop :=
  ∀ (s : State) (e : Nat), e < 31 →
    ∃ t, exec (.sidebandAssert e) s = .next t ∧ t.gal.masked = insertN s.gal.masked e ∧
      t.gal.pending = s.gal.pending.filter (fun p => p.req.req ≠ e) ∧
      (∀ n, n < 128 → s.get (F.SEM_SEMn_OWNER.at n) = e →
        t.get (F.SEM_SEMn_OWNER.at n) = 31 ∧ t.get (F.SEM_SEMn_ABANDONED.at n) = 1) ∧
      (∀ n, n < 128 → s.get (F.SEM_SEMn_OWNER.at n) ≠ e → t.get (F.SEM_SEMn_OWNER.at n) = s.get (F.SEM_SEMn_OWNER.at n)) ∧
      (∀ f, f < 64 → s.get (F.FIF_CFG_PRODUCER.at f) = e → t.get (F.FIF_STAT_PRODUCER_RESET.at f) = 1) ∧
      { t with gal := s.gal, regs := s.regs, out := s.out } = s

/-- A context opens where the quota of its type allows it, as the lowest free one, with nothing accepted; it closes at once where no
request of it is in progress, and is left closing otherwise; in Recovery no context opens (R59 to R64). -/
def Obligations.SessionContextsOpenAndClose : Prop :=
  (∀ (s : State) (typ peer slot : Nat), s.live = true → s.mode ≠ .recovery → s.quotaOk typ = true →
    ∃ t, exec (.sessionOpen typ peer slot) s = .next t ∧
      t.session s.freeContext = some { typ := typ, peer := peer, slot := slot, lastAt := s.mono } ∧
      (∀ c, c ≠ s.freeContext → t.session c = s.session c) ∧ { t with gal := s.gal, out := s.out } = s) ∧
  (∀ (s : State) (typ peer slot : Nat), s.quotaOk typ = false ∨ (s.live = true ∧ s.mode = .recovery) →
    ∃ t, exec (.sessionOpen typ peer slot) s = .next t ∧ { t with out := s.out } = s) ∧
  (∀ (s : State) (c : Nat) (x : Session), s.session c = some x → x.window.all (·.done) = true →
    ∃ t, exec (.sessionClose c) s = .next t ∧ t.session c = none ∧ ∀ d, d ≠ c → t.session d = s.session d) ∧
  (∀ (s : State) (c : Nat) (x : Session), s.session c = some x → x.window.all (·.done) = false →
    ∃ t, exec (.sessionClose c) s = .next t ∧ t.session c = some { x with state := 3 } ∧
      ∀ d, d ≠ c → t.session d = s.session d)

/-- A register write that the judgement of R634 refuses is answered with its status and changes nothing; one that it accepts in a
block without effects of its own is stored by the access codes; a read clears the RC fields, and a read of FRM_NUM_LO latches the
high bits for its requester. At an address without a register an engine gets an access fault and another requester a refusal; an engine
in reset writes nothing; the writes of one clock act in ascending order of session context (R13 to R16, R32, R70, R533, R634, Table 00.5).
A command whose own condition does not hold changes nothing: log entry 8. -/
def Obligations.RegisterAccessIsJudgedThenDone : Prop :=
  (∀ (s : State) (who : Requester) (addr : Nat) (w : Word) (r : RegDesc) (i j : Nat), who.awake s = true → findReg addr = some (r, i, j) →
    s.judge ⟨r, i, j, w.toNat, who⟩ ≠ St.done →
    ∃ t, exec (.registerWrite who addr w []) s = .next t ∧
      t.out = [⟨.value, [(who.key : Int), s.judge ⟨r, i, j, w.toNat, who⟩]⟩] ∧ { t with out := s.out } = s) ∧
  (∀ (s : State) (who : Requester) (addr : Nat) (w : Word) (r : RegDesc) (i j : Nat), who.awake s = true → findReg addr = some (r, i, j) →
    s.judge ⟨r, i, j, w.toNat, who⟩ = St.done →
    r.addr / 65536 ∈ [0x12, 0x13, 0x14] ∨ (r.addr / 65536 = 0 ∧ r.addr ≠ 0x0000C) →
    ∃ t, exec (.registerWrite who addr w []) s = .next t ∧ t.regs = (s.store ⟨r, i, j, w.toNat, who⟩).regs ∧
      t.out = [⟨.value, [(who.key : Int), St.done]⟩] ∧ { t with regs := s.regs, out := s.out } = s) ∧
  (∀ (s : State) (addr e : Nat) (w : Word), findReg addr = none → s.awake e = true →
    ∃ t, exec (.registerWrite (.engine e) addr w []) s = .next t ∧ t.out = [⟨.fault, [(e : Int), addr]⟩] ∧ { t with out := s.out } = s) ∧
  (∀ (s : State) (addr c : Nat) (w : Word), findReg addr = none → writeRole addr ≤ s.roleOf (.session c) → s.mode ≠ .recovery →
    ∃ t, exec (.registerWrite (.session c) addr w []) s = .next t ∧
      t.out = [⟨.value, [((Requester.session c).key : Int), St.badArg]⟩] ∧ { t with out := s.out } = s) ∧
  (∀ (s : State) (addr e : Nat) (w : Word), s.awake e = false → s.idle (.registerWrite (.engine e) addr w [])) ∧
  (∀ (s : State) (addr c d : Nat) (v w : Word), c < d →
    exec (.registerWrite (.session d) addr w [(.session c, v)]) s = exec (.registerWrite (.session c) addr v [(.session d, w)]) s) ∧
  (∀ (s : State) (who : Requester) (addr : Nat) (r : RegDesc) (i j : Nat), who.awake s = true → findReg addr = some (r, i, j) →
    r.addr ∉ [0x20000, 0x30010, 0x40000, 0xE0010, 0xE0104, 0xF0000, 0xF0018, 0x101000, 0x190014] →
    ∃ t, exec (.rcFieldRead who addr) s = .next t ∧ t.regs = (s.clearRc r i j).regs ∧
      t.out = [⟨.value, [(who.key : Int), St.done, s.word who.key addr]⟩] ∧ { t with regs := s.regs, out := s.out } = s) ∧
  (∀ (s : State) (who : Requester), who.awake s = true →
    ∃ t, exec (.rcFieldRead who 0x20804) s = .next t ∧ t.get F.SEM_ERR_FOREIGN = 0 ∧ t.get F.SEM_ERR_ABANDONS = 0) ∧
  (∀ (s : State) (who : Requester), who.awake s = true →
    ∃ t, exec (.frmNumLoRead who) s = .next t ∧ t.latched Win.num who.key = [s.num / 2 ^ 32 % 2 ^ 16] ∧
      t.out = [⟨.value, [(who.key : Int), St.done, (s.num % 2 ^ 32 : Nat)]⟩] ∧ { t with latch := s.latch, out := s.out } = s)

/-- A reset of any cause takes the module to reset: what Table 00.5 keeps and MRAM stay, every other register field is at its reset
value, every other byte behind the address map reads as unlisted; every engine is in reset (R15, R41, R84, R574, R578, R618, R622, R628). -/
def Obligations.ResetKeepsOnlyWhatIsRetained : Prop :=
  (∀ (s : State) (c : Instr), c = .reset ∨ c = .thermalShutdown →
    ∃ t, exec c s = .next t ∧ t.phase = .reset ∧ t.mode = .stop ∧ t.mem = s.mem.filter keptCell ∧
      (∀ g : Fld, keptField g.key = true → t.get g = s.get g) ∧ (∀ g : Fld, keptField g.key = false → t.get g = g.rst) ∧
      t.prog.ret0 = s.prog.ret0 ∧ t.prog.ret1 = s.prog.ret1 ∧ t.prog.pkg = none ∧ t.prog.forces = s.prog.forces ∧
      t.light.recipes = s.light.recipes ∧ t.upd.banks = s.upd.banks ∧ t.keys.slots = s.keys.slots ∧ t.keys.life = s.keys.life ∧
      t.recs.held = s.recs.held ∧ t.recs.queue = [] ∧ t.rtc.t = s.rtc.t ∧ t.gal.sessions = [] ∧ t.gal.masked = resetMask ∧
      t.light.nodes = s.light.nodes.map (fun p => (p.1, p.2.kept_)) ∧ t.fleet.graph = s.fleet.graph ∧ t.pos.ephem = s.pos.ephem ∧
      t.pos.almanac = s.pos.almanac ∧ t.meter.copy0 = s.meter.copy0 ∧ t.meter.copy1 = s.meter.copy1 ∧
      (c = .thermalShutdown → t.frame.orderlyFlag = false) ∧ (c = .reset → t.frame.orderlyFlag = s.frame.orderlyFlag) ∧
      t.pending = s.pending) ∧
  (∀ (s : State),
    ∃ t, exec .vinLoss s = .next t ∧ t.phase = .reset ∧ t.mode = .stop ∧ t.mem = s.mem.filter keptCell ∧
      t.rtc.t = s.rtc.t ∧ t.keys.slots = s.keys.slots ∧ t.recs.held = s.recs.held ∧ t.gal.sessions = []) ∧
  (∀ (s : State) (t0 : Nat), s.stp.curatorAt = some t0 → s.past (t0 + 100000000) = true → s.beatCore = false →
    ∃ t, exec .y0ModuleReset s = .next t ∧ t.phase = .reset ∧ t.mem = s.mem.filter keptCell) ∧
  (∀ (s : State), s.live = true → s.mode = .recovery → s.upd.resetDue = true →
    ∃ t, exec .recoveryReset s = .next t ∧ t.phase = .reset ∧ t.mem = s.mem.filter keptCell ∧ t.upd.banks = s.upd.banks) ∧
  (∀ (s : State) (l : Life), s.keys.fuse = some l → s.phase ≠ .reset →
    ∃ t, exec .fuseProgramComplete s = .next t ∧ t.phase = .reset ∧ t.keys.life = l ∧ t.keys.fuse = none ∧
      t.frame.orderlyFlag = false ∧ t.mem = s.mem.filter keptCell)

/-- A start from reset ends waiting for alignment, in the Recovery ROM, or dead; the wait for alignment and the listening window end at
their times; a module without a pair is Solo, one that hears a Lead is Follower, else Lead (R97, R102 to R106, R544). -/
def Obligations.StartUpReachesItsNextPhase : Prop :=
  (∀ (s : State) (i : StartIn), s.phase = .reset →
    ∃ t, exec (.startUp i) s = .next t ∧
      (t.phase = .waitAlign ∨ (t.phase = .running ∧ t.mode = .recovery) ∨ t.phase = .dead) ∧ t.frame.recoveryStrap = false) ∧
  (∀ (s : State), s.phase = .waitAlign → s.past (s.frame.phaseAt + s.get F.SYS_BOOT_TIME_WAIT * 1000000000) = true →
    s.get F.SPL_CFG_PAIR = 0 →
    ∃ t, exec .timeWaitExpiry s = .next t ∧ t.phase = .enter ∧ t.role = .solo ∧
      { t with phase := s.phase, role := s.role, out := s.out } = s) ∧
  (∀ (s : State), s.phase = .waitAlign → s.past (s.frame.phaseAt + s.get F.SYS_BOOT_TIME_WAIT * 1000000000) = true →
    s.get F.SPL_CFG_PAIR ≠ 0 → s.keys.life = .provisioned ∨ s.keys.life = .deployed →
    ∃ t, exec .timeWaitExpiry s = .next t ∧ t.phase = .resolve ∧ t.frame.phaseAt = s.mono) ∧
  (∀ (s : State), s.phase = .waitAlign → s.past (s.frame.phaseAt + s.get F.SYS_BOOT_TIME_WAIT * 1000000000) = true →
    s.get F.SPL_CFG_PAIR ≠ 0 → s.keys.life ≠ .provisioned → s.keys.life ≠ .deployed →
    ∃ t, exec .timeWaitExpiry s = .next t ∧ t.phase = .enter ∧ t.role = .solo) ∧
  (∀ (s : State) (roleIn : Bool), s.phase = .resolve →
    s.past (s.frame.phaseAt + s.get F.SPL_CFG_RESOLVE * 100000000 * (1 + s.get F.SPL_CFG_UNIT)) = true →
    ∃ t, exec (.roleResolve roleIn) s = .next t ∧ t.phase = .enter ∧
      t.role = (if s.spl.partnerLead || roleIn then .follower else .lead) ∧ t.get F.SPL_STAT_ROLE_IN = b2n roleIn ∧
      (s.spl.partnerLead = false → roleIn = true → t.get F.SPL_STAT_SYNC = 3))

/-- Without a frame schedule a frame boundary still counts the frame, 10 ms long, and takes a Scrapped module to its Basic; the self-test
of a shutdown ends in the halt, or in a reset where a restart was commanded; a tamper event ends every session and asks for Basic, or
resets a module in Recovery; PFW_N locks the RTC and its return unlocks it (R69, R84, R108, R468, R503, R591, R594). -/
def Obligations.BoundariesAndPowerEvents : Prop :=
  (∀ (s : State) (i : FrameIn), s.framesOn = false → s.phase ≠ .reset → ¬(s.keys.life = .scrapped ∧ s.phase = .waitAlign) →
    ∃ t, exec (.frameBoundary i) s = .next t ∧ t.num = s.num + 1 ∧ t.frame.start = s.frame.start + 10000000 ∧ t.frame.off = 0 ∧
      t.phase = s.phase ∧ t.mode = s.mode ∧ t.mem = s.mem) ∧
  (∀ (s : State) (i : FrameIn), s.keys.life = .scrapped → s.phase = .waitAlign →
    ∃ t, exec (.frameBoundary i) s = .next t ∧ t.num = s.num + 1 ∧ t.phase = .running ∧ t.mode = .basic ∧ t.mem = s.mem) ∧
  (∀ (s : State) (found : List (Nat × Nat)) (ms : Nat), s.phase = .shutdown → s.frame.restartAfter = false →
    ∃ t, exec (.selfTestComplete found ms) s = .next t ∧ t.phase = .halted ∧ t.frame.orderlyFlag = !s.keys.scan ∧ t.mem = s.mem) ∧
  (∀ (s : State) (found : List (Nat × Nat)) (ms : Nat), s.phase = .shutdown → s.frame.restartAfter = true →
    ∃ t, exec (.selfTestComplete found ms) s = .next t ∧ t.phase = .reset ∧ t.frame.orderlyFlag = (!s.keys.scan) ∧
      t.mem = s.mem.filter keptCell) ∧
  (∀ (s : State), s.live = true → s.mode ≠ .recovery →
    ∃ t, exec .tamperEvent s = .next t ∧ t.gal.sessions = [] ∧ t.keys.killed = true ∧ t.keys.zeroised = true ∧ t.keys.cache = [] ∧
      t.frame.modeReqs = s.frame.modeReqs ++ [{ ev := .tamper, by_ := .quiet, at_ := s.num }]) ∧
  (∀ (s : State), s.phase = .running → s.mode = .recovery →
    ∃ t, exec .tamperEvent s = .next t ∧ t.phase = .reset ∧ t.keys.killed = true ∧ t.gal.sessions = []) ∧
  (∀ (s : State), s.phase = .shutdown →
    ∃ t, exec .tamperEvent s = .next t ∧ t.phase = .halted ∧ t.mode = .basic ∧ t.frame.orderlyFlag = false ∧ t.keys.killed = true) ∧
  (∀ (s : State) (at_ : Nat) (samples : List MSamp) (hold : Bool), s.phase ≠ .reset →
    ∃ t, exec (.powerFail at_ samples hold) s = .next t ∧ t.get F.RTC_STAT_LOCKOUT ≠ 0) ∧
  (∀ (s : State) (at_ : Nat) (samples : List MSamp) (hold : Bool), s.phase = .shutdown → s.framesOn = true →
    ∃ t, exec (.powerFail at_ samples hold) s = .next t ∧ t.phase = .halted ∧ t.frame.orderlyFlag = false) ∧
  (∀ (s : State), s.phase ≠ .reset →
    ∃ t, exec .powerRestore s = .next t ∧ t.get F.RTC_STAT_LOCKOUT = 0 ∧ t.rtc.lockT = none ∧
      t.meter.resumeDue = (s.flag F.MTR_STAT_SUSPENDED && s.framesOn) ∧
      { t with regs := s.regs, rtc := s.rtc, prog := s.prog, meter := s.meter, out := s.out } = s)

/-- A deadline fault of a class that runs in the mode is counted with its class and engine, and once in a period towards CONSEC; its slot
or tick is missed; a Curator core that faults is held in reset, masked, and Basic follows; it is ready again, or is restarted after
1,500 ms (R80 to R82, R84). -/
def Obligations.FaultsAreCountedAndHandled : Prop :=
  (∀ (s : State) (c e p : Nat), s.live = true ∨ s.phase = .shutdown → s.frame.transitional = false → c < 9 → s.classFaults c = true →
    e < 32 →
    ∃ t, exec (.deadlineFault c e p) s = .next t ∧ t.get F.FRM_DLAST_CLASS = c ∧ t.get F.FRM_DLAST_ENGINE = e ∧
      t.get F.FRM_DLAST_FRAME = s.num % 65536 ∧
      t.get (F.FRM_DCLS_TOTAL_TOTAL.at c) =
        satAdd F.FRM_DCLS_TOTAL_TOTAL.max (s.get (F.FRM_DCLS_TOTAL_TOTAL.at c)) 1 % 2 ^ F.FRM_DCLS_TOTAL_TOTAL.width ∧
      (s.faultedAlready c p = false → t.get (F.FRM_DCLS_CONSEC_CONSEC.at c) =
        satAdd F.FRM_DCLS_CONSEC_CONSEC.max (s.get (F.FRM_DCLS_CONSEC_CONSEC.at c)) 1 % 2 ^ F.FRM_DCLS_CONSEC_CONSEC.width) ∧
      (s.faultedAlready c p = true → t.get (F.FRM_DCLS_CONSEC_CONSEC.at c) = s.get (F.FRM_DCLS_CONSEC_CONSEC.at c)) ∧
      c ∈ t.frame.late ∧ (c = 4 → radioLate (e - 6) ∈ t.frame.missed) ∧ (c = 6 ∨ c = 7 → tickLate c e ∈ t.frame.missed)) ∧
  (∀ (s : State) (k : Nat), k < 2 → s.phase ≠ .dead → s.phase ≠ .halted → s.mode ≠ .recovery → s.mode ≠ .basic →
    (s.core k).running = true →
    ∃ t, exec (.curatorFault k) s = .next t ∧ t.core k = { running := false, ready := false, faultAt := s.mono } ∧
      t.gal.masked = insertN s.gal.masked k ∧
      t.frame.modeReqs = s.frame.modeReqs ++ [{ ev := .curatorFault, by_ := .quiet, at_ := s.num }]) ∧
  (∀ (s : State) (k : Nat), k < 2 → (s.core k).running = false → k = 0 ∨ s.upd.kind ≠ 1 ∨ s.upd.stage ≠ 2 →
    ∃ t, exec (.curatorReady k) s = .next t ∧ (t.core k).running = true ∧ t.gal.masked = removeN s.gal.masked k ∧
      { t with frame := s.frame, gal := s.gal, out := s.out } = s) ∧
  (∀ (s : State) (k : Nat), k < 2 → (s.core k).running = false → k = 0 ∨ s.upd.kind ≠ 1 ∨ s.upd.stage ≠ 2 →
    s.past ((s.core k).faultAt + 1500000000) = true →
    ∃ t, exec (.curatorRestartTimeout k) s = .next t ∧ (t.core k).faultAt = s.mono ∧ (t.core k).running = false ∧
      t.gal.masked = insertN s.gal.masked k)

/-- A mode command that its requester may give, in a mode and a life-cycle state that admit it, is PENDING: its event waits for its
boundary and the mode is as before; one that the confirmation, the life-cycle state or the mode does not admit, or that its requester may
not give, is refused and asks for nothing (R89 to R93, R99, R100, R108, R142, R634, Tables 02.6 and 02.7). -/
def Obligations.ModeCommandsWaitForTheirBoundary : Prop :=
  (∀ (s : State) (who : Requester) (c : Instr) (code confirm : Nat) (ev : ModeEv),
    (c, code, ev) ∈ [(.start who, 1, ModeEv.start), (.stop who, 2, .stop), (.halt who, 3, .halt), (.resume who, 4, .resume),
      (.enterBasic who, 5, .enterBasic), (.leaveBasic who, 6, .leaveBasic), (.recover who confirm, 7, .recover),
      (.restart who confirm, 8, .shutdown false), (.shutdown who confirm, 9, .shutdown true)] →
    (if code = 3 ∨ code = 4 then s.debugOk who = true else 2 ≤ s.roleOf who) → (7 ≤ code → confirm = 0x5AFE) →
    s.live = true → s.lifeAllows ev = true → s.modeAllows ev = true →
    (code = 1 → s.prog.pkg.isSome = true ∧ (s.get F.FRM_STAT_ALIGNED ≠ 0 ∨ s.get F.SYS_BOOT_RUN_UNALIGNED ≠ 0)) →
    (code = 6 → s.get F.SYS_MODE_CAUSE ∉ [3, 4, 7] ∧ s.coresRun = true) →
    ∃ t, exec c s = .next t ∧ t.get F.SYS_CMD_STAT_CODE = code ∧ t.get F.SYS_CMD_STAT_STATUS = St.pending ∧
      t.frame.modeReqs.getLast? = some { ev := ev, by_ := .command sysStat, at_ := s.num } ∧
      t.frame.modeReqs.length = s.frame.modeReqs.length + 1 ∧ t.mode = s.mode ∧ t.phase = s.phase ∧
      { t with frame := s.frame, regs := s.regs, wired := s.wired, out := s.out } = s) ∧
  (∀ (s : State) (who : Requester) (c : Instr) (confirm : Nat),
    c ∈ [.start who, .stop who, .enterBasic who, .leaveBasic who, .recover who confirm, .restart who confirm,
      .shutdown who confirm] → s.roleOf who < 2 →
    ∃ t, exec c s = .next t ∧ t.out = [⟨.value, [(who.key : Int), St.access]⟩] ∧ { t with out := s.out } = s) ∧
  (∀ (s : State) (who : Requester) (c : Instr) (code confirm st : Nat) (ev : ModeEv),
    (c, code, ev) ∈ [(.start who, 1, ModeEv.start), (.stop who, 2, .stop), (.halt who, 3, .halt), (.resume who, 4, .resume),
      (.enterBasic who, 5, .enterBasic), (.leaveBasic who, 6, .leaveBasic), (.recover who confirm, 7, .recover),
      (.restart who confirm, 8, .shutdown false), (.shutdown who confirm, 9, .shutdown true)] →
    (if code = 3 ∨ code = 4 then s.debugOk who = true else 2 ≤ s.roleOf who) →
    (7 ≤ code ∧ confirm ≠ 0x5AFE ∧ st = St.confirm) ∨
      ((7 ≤ code → confirm = 0x5AFE) ∧
        ((s.lifeAllows ev = false ∧ st = St.lifecycle) ∨
         (s.lifeAllows ev = true ∧ (s.live = false ∨ s.modeAllows ev = false) ∧ st = St.mode) ∨
         (s.lifeAllows ev = true ∧ s.live = true ∧ s.modeAllows ev = true ∧ code = 1 ∧ s.prog.pkg = none ∧ st = St.noProgram))) →
    ∃ t, exec c s = .next t ∧ t.get F.SYS_CMD_STAT_CODE = code ∧ t.get F.SYS_CMD_STAT_STATUS = st ∧
      t.out = [⟨.value, [(who.key : Int), st]⟩] ∧ t.frame.modeReqs.length = s.frame.modeReqs.length ∧
      { t with frame := s.frame, regs := s.regs, wired := s.wired, out := s.out } = s) ∧
  (∀ (s : State), s.live = true → s.mode ≠ .recovery →
    ∃ t, exec .shdnReqFall s = .next t ∧
      t.frame.modeReqs = s.frame.modeReqs ++ [{ ev := .shutdown true, by_ := .quiet, at_ := s.num }] ∧
      { t with frame := s.frame, out := s.out } = s)

/-- At the commit deadline a cycle that has ended ends a run of skips, one that has not is late, without a fault in a transitional frame; a breakpoint halts every section and asks
for Hold; STEP answers an ended section at once; a retained save that is complete leaves a valid copy of the words of its commit, and one cut short leaves the other copy (R133, R139, R140,
R145, R636). -/
def Obligations.CyclesEndHaltAndSave : Prop :=
  (∀ (s : State), s.live = true → s.mode = .run → s.prog.begun = true → s.prog.hit = none → s.prog.deadlinePast = false →
    s.prog.deferred = false → s.frame.transitional = false → (s.num + 1) % s.cycLen = 0 → s.allEnded = true →
    ∃ t, exec .commitDeadline s = .next t ∧ t.prog.skipRun = 0 ∧ t.prog.deadlinePast = false ∧
      t.get (F.FRM_DCLS_CONSEC_CONSEC.at 0) = 0) ∧
  (∀ (s : State), s.live = true → s.mode = .run → s.prog.begun = true → s.prog.hit = none → s.prog.deadlinePast = false →
    s.prog.deferred = false → s.frame.transitional = false → (s.num + 1) % s.cycLen = 0 → s.allEnded = false →
    ∃ t, exec .commitDeadline s = .next t ∧ t.prog.deadlinePast = true ∧ t.get F.FRM_DLAST_CLASS = 0 ∧ 0 ∈ t.frame.late ∧
      t.prog.begun = true ∧ t.prog.areas = s.prog.areas) ∧
  (∀ (s : State), s.live = true → s.mode = .run → s.prog.begun = true → s.prog.hit = none → s.prog.deadlinePast = false →
    s.prog.deferred = false → s.frame.transitional = true → s.allEnded = false →
    ∃ t, exec .commitDeadline s = .next t ∧ t.prog.deadlinePast = true ∧ t.regs = s.regs ∧ t.frame.late = s.frame.late) ∧
  (∀ (s : State) (k b : Nat), s.live = true → s.mode = .run → s.prog.begun = true → s.prog.hit = none → k < 4 → b < 8 →
    (s.sect k).st = .executing → (s.sect k).ended = false → (s.sect k).passBrk = false → s.get (F.PLX_BRK_EN.at2 k b) ≠ 0 →
    s.get (F.PLX_BRK_ADDR.at2 k b) = (s.sect k).pc →
    ∃ t, exec (.breakpointHit k b) s = .next t ∧ t.prog.hit = some (k, b) ∧ t.prog.halted = true ∧
      (∀ x ∈ t.prog.sects, x.st ≠ .executing) ∧
      t.frame.modeReqs = s.frame.modeReqs ++ [{ ev := .breakpoint, by_ := .quiet, at_ := s.num }] ∧
      { t with frame := s.frame, prog := s.prog, out := s.out } = s) ∧
  (∀ (s : State) (who : Requester) (k w : Nat), s.debugOk who = true → s.live = true → s.mode = .hold → s.prog.begun = true →
    k = s.get F.PLX_DBG_SECT → s.hasSect k = true → (s.sect k).ended = false → k < s.prog.sects.length →
    (s.code k)[(s.sect k).pc]? = some (opWord 0x1B 2 0) → s.hasNext k → w = (s.sect k).pc →
    ∃ t, exec (.step who) s = .next t ∧
      (t.sect k).core = { (s.sect k).core with wa := (s.sect k).wb, wb := (s.sect k).wa, pc := w + 1 } ∧
      t.out = [⟨.value, [(who.key : Int), St.done]⟩]) ∧
  (∀ (s : State) (who : Requester) (k : Nat), s.debugOk who = true → s.live = true → s.mode = .hold → s.prog.begun = true →
    k = s.get F.PLX_DBG_SECT → s.hasSect k = true → (s.sect k).ended = true →
    ∃ t, exec (.step who) s = .next t ∧ t.out = [⟨.value, [(who.key : Int), St.done]⟩] ∧ { t with out := s.out } = s) ∧
  (∀ (s : State), s.prog.saveDue = true →
    ∃ t, exec (.retainedSave none) s = .next t ∧ t.prog.saveDue = false ∧ t.prog.saveBy = [] ∧
      ∃ c ∈ [t.prog.ret0, t.prog.ret1], c.ok = true ∧ c.count = s.prog.saveCount ∧ c.words = s.prog.saveWords ∧ c.fail = false) ∧
  (∀ (s : State) (n : Nat), s.prog.saveDue = true →
    ∃ t, exec (.retainedSave (some n)) s = .next t ∧ (t.prog.ret0 = s.prog.ret0 ∨ t.prog.ret1 = s.prog.ret1) ∧
      t.prog.saveDue = true)

/-- A package whose verification and plan succeed is LOADED beside the one in force; without one in force the change is IDLE and the
package comes into force next; one that is not valid, or whose plan or watchdogs do not fit, leaves nothing; the Cleat exchange of a cycle's
last frame serves every port that has stations, loses a station that answers nothing and collects the inputs of one that is ONLINE (R110, R111, R126,
R128 to R131, R153, R154, Table 03.3).
A command whose own condition does not hold changes nothing: log entry 8. -/
def Obligations.PackagesLoadAndStationsAreServed : Prop :=
  (∀ (s : State) (p : Package) (c q : Nat), s.prog.loaded = some p → s.get F.PLX_CHG_STATE = Chg.loading → s.prog.loadBy = .host c q →
    s.pkgOk p = true → s.planOk p = true → s.watchdogsOk p = true → s.prog.pkg.isSome = true → s.awaits (.host c q) →
    ∃ t, exec .loadComplete s = .next t ∧ t.get F.PLX_CHG_STATE = Chg.loaded ∧ t.get F.PLX_CHG_STATUS = St.done ∧
      t.prog.loaded = some p ∧ t.prog.pkg = s.prog.pkg ∧ t.ended (.host c q) St.done []) ∧
  (∀ (s : State) (p : Package), s.prog.loaded = some p → s.get F.PLX_CHG_STATE = Chg.loading → s.pkgOk p = true →
    s.planOk p = true → s.watchdogsOk p = true → s.prog.pkg = none →
    ∃ t, exec .loadComplete s = .next t ∧ t.get F.PLX_CHG_STATE = Chg.idle ∧ t.prog.newPkg = some p ∧ t.prog.loaded = none ∧
      t.prog.pkg = none) ∧
  (∀ (s : State) (p : Package) (c q st : Nat), s.prog.loaded = some p → s.get F.PLX_CHG_STATE = Chg.loading → s.prog.loadBy = .host c q →
    (s.pkgOk p = false ∧ st = St.bankInvalid) ∨
      (s.pkgOk p = true ∧ (s.planOk p = false ∨ s.watchdogsOk p = false) ∧ st = St.badArg) → s.awaits (.host c q) →
    ∃ t, exec .loadComplete s = .next t ∧ t.get F.PLX_CHG_STATE = Chg.idle ∧ t.get F.PLX_CHG_STATUS = st ∧
      t.prog.loaded = none ∧ t.get F.PLX_CHG_OWNER = 1023 ∧ t.prog.pkg = s.prog.pkg ∧ t.prog.newPkg = s.prog.newPkg ∧
      t.ended (.host c q) st []) ∧
  (∀ (s : State) (p : Package) (replies : List CleatReply), s.prog.pkg = some p → s.live = true →
    s.mode = .run ∨ s.mode = .stop ∨ s.mode = .hold → (s.num + 1) % s.cycLen = 0 ∨ s.frame.realign.isSome = true →
    s.wired.exchanged = false →
    ∃ t, exec (.cleatExchange replies) s = .next t ∧ t.wired.exchanged = true ∧
      (∀ q, q < 4 → p.port q ≠ [] → q ∈ t.wired.apply ∧ ∃ l, t.sent .cleatDown ((q : Int) :: l)) ∧
      (∀ x q, q < 4 → x ∈ p.port q → replies.find? (fun r => r.st = x.st) = none → (t.station x.st).st = 1) ∧
      (∀ x q r a l, q < 4 → x ∈ p.port q → replies.find? (fun r => r.st = x.st) = some r → r.tries = some (some a) :: l →
        (s.station x.st).st = 0 → SMap.get? t.wired.got x.st = some a.inputs) ∧
      t.frame = s.frame ∧ t.prog.areas = s.prog.areas ∧ t.prog.inputs = s.prog.inputs ∧ t.prog.raw = s.prog.raw)

/-- The bit instructions: BA combines with the operand's bit, the program counter moves on, nothing else of the section changes but
its accounts; BOPEN, BCAND and BCOR use the bit stack, LDF reads a flag and clears OV on request (R184, Table 04.5). -/
def Obligations.BitInstructionsActOnBA : Prop :=
  (∀ (s : State) (k : Nat), s.runsOn k 0x00 2 0 →
    ∃ t, exec (.opNop k) s = .next t ∧ (t.sect k).core = { (s.sect k).core with pc := (s.sect k).pc + 1 } ∧
      (t.sect k).clk = (s.sect k).clk + 1) ∧
  (∀ (s : State) (k mode opnd wait : Nat), s.runsOn k 0x01 mode opnd →
    ∃ t, exec (.opLd k mode opnd wait) s = .next t ∧
      (t.sect k).core = { (s.sect k).core with ba := s.opBit k mode opnd, pc := (s.sect k).pc + 1 }) ∧
  (∀ (s : State) (k mode opnd wait : Nat), s.runsOn k 0x02 mode opnd →
    ∃ t, exec (.opLdn k mode opnd wait) s = .next t ∧
      (t.sect k).core = { (s.sect k).core with ba := !s.opBit k mode opnd, pc := (s.sect k).pc + 1 }) ∧
  (∀ (s : State) (k mode opnd wait : Nat), s.runsOn k 0x03 mode opnd →
    ∃ t, exec (.opAnd k mode opnd wait) s = .next t ∧
      (t.sect k).core = { (s.sect k).core with ba := (s.sect k).ba && s.opBit k mode opnd, pc := (s.sect k).pc + 1 }) ∧
  (∀ (s : State) (k mode opnd wait : Nat), s.runsOn k 0x04 mode opnd →
    ∃ t, exec (.opAndn k mode opnd wait) s = .next t ∧
      (t.sect k).core = { (s.sect k).core with ba := (s.sect k).ba && !s.opBit k mode opnd, pc := (s.sect k).pc + 1 }) ∧
  (∀ (s : State) (k mode opnd wait : Nat), s.runsOn k 0x05 mode opnd →
    ∃ t, exec (.opOr k mode opnd wait) s = .next t ∧
      (t.sect k).core = { (s.sect k).core with ba := (s.sect k).ba || s.opBit k mode opnd, pc := (s.sect k).pc + 1 }) ∧
  (∀ (s : State) (k mode opnd wait : Nat), s.runsOn k 0x06 mode opnd →
    ∃ t, exec (.opOrn k mode opnd wait) s = .next t ∧
      (t.sect k).core = { (s.sect k).core with ba := (s.sect k).ba || !s.opBit k mode opnd, pc := (s.sect k).pc + 1 }) ∧
  (∀ (s : State) (k mode opnd wait : Nat), s.runsOn k 0x07 mode opnd →
    ∃ t, exec (.opXor k mode opnd wait) s = .next t ∧
      (t.sect k).core = { (s.sect k).core with ba := (s.sect k).ba != s.opBit k mode opnd, pc := (s.sect k).pc + 1 }) ∧
  (∀ (s : State) (k : Nat), s.runsOn k 0x08 2 0 →
    ∃ t, exec (.opNot k) s = .next t ∧ (t.sect k).core = { (s.sect k).core with ba := !(s.sect k).ba, pc := (s.sect k).pc + 1 }) ∧
  (∀ (s : State) (k : Nat), s.runsOn k 0x09 2 0 → (s.sect k).bs.length < 16 →
    ∃ t, exec (.opBopen k) s = .next t ∧
      (t.sect k).core = { (s.sect k).core with bs := (s.sect k).ba :: (s.sect k).bs, pc := (s.sect k).pc + 1 }) ∧
  (∀ (s : State) (k : Nat) (b : Bool) (l : List Bool), s.runsOn k 0x0A 2 0 → (s.sect k).bs = b :: l →
    ∃ t, exec (.opBcand k) s = .next t ∧
      (t.sect k).core = { (s.sect k).core with ba := b && (s.sect k).ba, bs := l, pc := (s.sect k).pc + 1 }) ∧
  (∀ (s : State) (k : Nat) (b : Bool) (l : List Bool), s.runsOn k 0x0B 2 0 → (s.sect k).bs = b :: l →
    ∃ t, exec (.opBcor k) s = .next t ∧
      (t.sect k).core = { (s.sect k).core with ba := b || (s.sect k).ba, bs := l, pc := (s.sect k).pc + 1 }) ∧
  (∀ (s : State) (k mode opnd wait : Nat), s.runsOn k 0x37 mode opnd →
    ∃ t, exec (.opLdf k mode opnd wait) s = .next t ∧
      (t.sect k).core = { (s.sect k).core with
        ba := (match opnd % 4 with | 0 => (s.sect k).z | 1 => (s.sect k).n | 2 => (s.sect k).cy | _ => (s.sect k).ov)
        ov := if bit opnd 2 then false else (s.sect k).ov
        pc := (s.sect k).pc + 1 })

/-- Word instructions that move and combine: WA, Z and N follow the result, CY a shift's last bit out; SWP exchanges WA and WB, LDX
and ADDX set the index (R180, R188, Table 04.5). -/
def Obligations.WordLogicGivesResultAndFlags : Prop :=
  (∀ (s : State) (k mode opnd wait : Nat), s.runsOn k 0x19 mode opnd →
    ∃ t, exec (.opLdw k mode opnd wait) s = .next t ∧
      (t.sect k).core = { (s.sect k).core with
        wa := s.opVal k mode opnd, z := decide (s.opVal k mode opnd = 0), n := (s.opVal k mode opnd).msb, pc := (s.sect k).pc + 1 }) ∧
  (∀ (s : State) (k mode opnd wait : Nat) (v : Word), s.runsOn k 0x23 mode opnd → v = (s.sect k).wa &&& s.opVal k mode opnd →
    ∃ t, exec (.opAndw k mode opnd wait) s = .next t ∧
      (t.sect k).core = { (s.sect k).core with wa := v, z := decide (v = 0), n := v.msb, pc := (s.sect k).pc + 1 }) ∧
  (∀ (s : State) (k mode opnd wait : Nat) (v : Word), s.runsOn k 0x24 mode opnd → v = (s.sect k).wa ||| s.opVal k mode opnd →
    ∃ t, exec (.opOrw k mode opnd wait) s = .next t ∧
      (t.sect k).core = { (s.sect k).core with wa := v, z := decide (v = 0), n := v.msb, pc := (s.sect k).pc + 1 }) ∧
  (∀ (s : State) (k mode opnd wait : Nat) (v : Word), s.runsOn k 0x25 mode opnd → v = (s.sect k).wa ^^^ s.opVal k mode opnd →
    ∃ t, exec (.opXorw k mode opnd wait) s = .next t ∧
      (t.sect k).core = { (s.sect k).core with wa := v, z := decide (v = 0), n := v.msb, pc := (s.sect k).pc + 1 }) ∧
  (∀ (s : State) (k mode opnd wait n : Nat) (v : Word), s.runsOn k 0x26 mode opnd → n = (s.opVal k mode opnd).toNat % 32 →
    v = (s.sect k).wa <<< n →
    ∃ t, exec (.opShl k mode opnd wait) s = .next t ∧
      (t.sect k).core = { (s.sect k).core with
        wa := v, z := decide (v = 0), n := v.msb, cy := decide (n ≠ 0) && (s.sect k).wa.getLsbD (32 - n), pc := (s.sect k).pc + 1 }) ∧
  (∀ (s : State) (k mode opnd wait n : Nat) (v : Word), s.runsOn k 0x27 mode opnd → n = (s.opVal k mode opnd).toNat % 32 →
    v = (s.sect k).wa >>> n →
    ∃ t, exec (.opShr k mode opnd wait) s = .next t ∧
      (t.sect k).core = { (s.sect k).core with
        wa := v, z := decide (v = 0), n := v.msb, cy := decide (n ≠ 0) && (s.sect k).wa.getLsbD (n - 1), pc := (s.sect k).pc + 1 }) ∧
  (∀ (s : State) (k : Nat), s.runsOn k 0x1B 2 0 →
    ∃ t, exec (.opSwp k) s = .next t ∧
      (t.sect k).core = { (s.sect k).core with wa := (s.sect k).wb, wb := (s.sect k).wa, pc := (s.sect k).pc + 1 }) ∧
  (∀ (s : State) (k mode opnd wait : Nat), s.runsOn k 0x2E mode opnd →
    ∃ t, exec (.opLdx k mode opnd wait) s = .next t ∧
      (t.sect k).core = { (s.sect k).core with xi := (s.opVal k mode opnd).toNat % 2 ^ 20, pc := (s.sect k).pc + 1 }) ∧
  (∀ (s : State) (k mode opnd wait : Nat), s.runsOn k 0x2F mode opnd →
    ∃ t, exec (.opAddx k mode opnd wait) s = .next t ∧
      (t.sect k).core = { (s.sect k).core with
        xi := ((s.sect k).xi + (s.opVal k mode opnd).toNat) % 2 ^ 20, pc := (s.sect k).pc + 1 })

/-- Arithmetic on WA: the exact result wrapped or clamped, the carry or borrow in CY, a result beyond 32 bits in OV, which stays set;
a product fills WB:WA; a division truncates, its corners clamp (R181, R182, R188, R189). -/
def Obligations.ArithmeticGivesResultAndFlags : Prop :=
  (∀ (s : State) (k mode opnd wait : Nat) (v r : Word), s.runsOn k 0x1C mode opnd → v = s.opVal k mode opnd → r = (s.sect k).wa + v →
    ∃ t, exec (.opAdd k mode opnd wait) s = .next t ∧
      (t.sect k).core = { (s.sect k).core with
        wa := r, z := decide (r = 0), n := r.msb, cy := decide (2 ^ 32 ≤ (s.sect k).wa.toNat + v.toNat)
        ov := (s.sect k).ov || decide ((s.sect k).wa.toInt + v.toInt < -2 ^ 31 ∨ 2 ^ 31 ≤ (s.sect k).wa.toInt + v.toInt)
        pc := (s.sect k).pc + 1 }) ∧
  (∀ (s : State) (k mode opnd wait : Nat) (v r : Word), s.runsOn k 0x1D mode opnd → v = s.opVal k mode opnd →
    r.toInt = max (-2 ^ 31) (min (2 ^ 31 - 1) ((s.sect k).wa.toInt + v.toInt)) →
    ∃ t, exec (.opAdds k mode opnd wait) s = .next t ∧
      (t.sect k).core = { (s.sect k).core with
        wa := r, z := decide (r = 0), n := r.msb, cy := decide (2 ^ 32 ≤ (s.sect k).wa.toNat + v.toNat)
        ov := (s.sect k).ov || decide ((s.sect k).wa.toInt + v.toInt < -2 ^ 31 ∨ 2 ^ 31 ≤ (s.sect k).wa.toInt + v.toInt)
        pc := (s.sect k).pc + 1 }) ∧
  (∀ (s : State) (k mode opnd wait : Nat) (v r : Word), s.runsOn k 0x1E mode opnd → v = s.opVal k mode opnd → r = (s.sect k).wa - v →
    ∃ t, exec (.opSub k mode opnd wait) s = .next t ∧
      (t.sect k).core = { (s.sect k).core with
        wa := r, z := decide (r = 0), n := r.msb, cy := decide ((s.sect k).wa.toNat < v.toNat)
        ov := (s.sect k).ov || decide ((s.sect k).wa.toInt - v.toInt < -2 ^ 31 ∨ 2 ^ 31 ≤ (s.sect k).wa.toInt - v.toInt)
        pc := (s.sect k).pc + 1 }) ∧
  (∀ (s : State) (k mode opnd wait : Nat) (v r : Word), s.runsOn k 0x1F mode opnd → v = s.opVal k mode opnd →
    r.toInt = max (-2 ^ 31) (min (2 ^ 31 - 1) ((s.sect k).wa.toInt - v.toInt)) →
    ∃ t, exec (.opSubs k mode opnd wait) s = .next t ∧
      (t.sect k).core = { (s.sect k).core with
        wa := r, z := decide (r = 0), n := r.msb, cy := decide ((s.sect k).wa.toNat < v.toNat)
        ov := (s.sect k).ov || decide ((s.sect k).wa.toInt - v.toInt < -2 ^ 31 ∨ 2 ^ 31 ≤ (s.sect k).wa.toInt - v.toInt)
        pc := (s.sect k).pc + 1 }) ∧
  (∀ (s : State) (k mode opnd wait : Nat) (p : Int) (w : BitVec 64), s.runsOn k 0x20 mode opnd →
    p = (s.sect k).wa.toInt * (s.opVal k mode opnd).toInt → w = BitVec.ofInt 64 p →
    ∃ t, exec (.opMul k mode opnd wait) s = .next t ∧
      (t.sect k).core = { (s.sect k).core with
        wa := w.extractLsb' 0 32, wb := w.extractLsb' 32 32, z := decide (p = 0), n := decide (p < 0), cy := false
        ov := (s.sect k).ov || decide (p < -2 ^ 31 ∨ 2 ^ 31 ≤ p), pc := (s.sect k).pc + 1 }) ∧
  (∀ (s : State) (k mode opnd wait : Nat) (p : Int) (r : Word), s.runsOn k 0x21 mode opnd →
    p = (s.sect k).wa.toInt * (s.opVal k mode opnd).toInt → r.toInt = max (-2 ^ 31) (min (2 ^ 31 - 1) p) →
    ∃ t, exec (.opMuls k mode opnd wait) s = .next t ∧
      (t.sect k).core = { (s.sect k).core with
        wa := r, z := decide (r = 0), n := r.msb, cy := false
        ov := (s.sect k).ov || decide (p < -2 ^ 31 ∨ 2 ^ 31 ≤ p), pc := (s.sect k).pc + 1 }) ∧
  (∀ (s : State) (k mode opnd wait : Nat) (a b : Int) (q r : Word), s.runsOn k 0x22 mode opnd →
    a = (s.sect k).wa.toInt → b = (s.opVal k mode opnd).toInt → b ≠ 0 → ¬ (a = -2 ^ 31 ∧ b = -1) →
    q.toInt = Int.tdiv a b → r.toInt = Int.tmod a b →
    ∃ t, exec (.opDiv k mode opnd wait) s = .next t ∧
      (t.sect k).core = { (s.sect k).core with
        wa := q, wb := r, z := decide (q = 0), n := q.msb, cy := false, pc := (s.sect k).pc + 1 }) ∧
  (∀ (s : State) (k mode opnd wait : Nat) (r : Word), s.runsOn k 0x22 mode opnd → s.opVal k mode opnd = 0 →
    r = (if (s.sect k).wa.msb then 0x80000000 else 0x7FFFFFFF) →
    ∃ t, exec (.opDiv k mode opnd wait) s = .next t ∧
      (t.sect k).core = { (s.sect k).core with
        wa := r, wb := 0, z := false, n := r.msb, cy := false, ov := true, pc := (s.sect k).pc + 1 }) ∧
  (∀ (s : State) (k mode opnd wait : Nat), s.runsOn k 0x22 mode opnd → (s.sect k).wa = 0x80000000 →
    s.opVal k mode opnd = 0xFFFFFFFF →
    ∃ t, exec (.opDiv k mode opnd wait) s = .next t ∧
      (t.sect k).core = { (s.sect k).core with
        wa := 0x7FFFFFFF, wb := 0, z := false, n := false, cy := false, ov := true, pc := (s.sect k).pc + 1 })

/-- A compare sets BA by the signed comparison and the flags from the difference, and leaves WA (R180, R181, Table 04.5). -/
def Obligations.ComparesSetBAAndFlags : Prop :=
  ∀ (s : State) (k mode opnd wait : Nat) (a v : Word), a = (s.sect k).wa → v = s.opVal k mode opnd →
  (s.runsOn k 0x28 mode opnd → ∃ t, exec (.opCeq k mode opnd wait) s = .next t ∧
    (t.sect k).core = { (s.sect k).core with
      ba := decide (a = v), z := decide (a - v = 0), n := (a - v).msb, cy := decide (a.toNat < v.toNat), pc := (s.sect k).pc + 1 }) ∧
  (s.runsOn k 0x29 mode opnd → ∃ t, exec (.opCne k mode opnd wait) s = .next t ∧
    (t.sect k).core = { (s.sect k).core with
      ba := decide (a ≠ v), z := decide (a - v = 0), n := (a - v).msb, cy := decide (a.toNat < v.toNat), pc := (s.sect k).pc + 1 }) ∧
  (s.runsOn k 0x2A mode opnd → ∃ t, exec (.opCgt k mode opnd wait) s = .next t ∧
    (t.sect k).core = { (s.sect k).core with
      ba := decide (v.toInt < a.toInt), z := decide (a - v = 0), n := (a - v).msb, cy := decide (a.toNat < v.toNat), pc := (s.sect k).pc + 1 }) ∧
  (s.runsOn k 0x2B mode opnd → ∃ t, exec (.opCge k mode opnd wait) s = .next t ∧
    (t.sect k).core = { (s.sect k).core with
      ba := decide (v.toInt ≤ a.toInt), z := decide (a - v = 0), n := (a - v).msb, cy := decide (a.toNat < v.toNat), pc := (s.sect k).pc + 1 }) ∧
  (s.runsOn k 0x2C mode opnd → ∃ t, exec (.opClt k mode opnd wait) s = .next t ∧
    (t.sect k).core = { (s.sect k).core with
      ba := decide (a.toInt < v.toInt), z := decide (a - v = 0), n := (a - v).msb, cy := decide (a.toNat < v.toNat), pc := (s.sect k).pc + 1 }) ∧
  (s.runsOn k 0x2D mode opnd → ∃ t, exec (.opCle k mode opnd wait) s = .next t ∧
    (t.sect k).core = { (s.sect k).core with
      ba := decide (a.toInt ≤ v.toInt), z := decide (a - v = 0), n := (a - v).msb, cy := decide (a.toNat < v.toNat), pc := (s.sect k).pc + 1 })

/-- Stores to an element that the section owns enter its uncommitted writes, which commit with the cycle; SET and RST store only when BA
is 1, STWC likewise; EDGP and EDGN keep the edge memory there; L is scratch; a store to a foreign element is counted and writes
nothing (R122, R123, R174, R185). -/
def Obligations.StoresGoToTheSectionsOwnElements : Prop :=
  (∀ (s : State) (k mode opnd wait a o : Nat), s.ownElem k mode opnd a o → a ≠ 10 →
    (s.runsOn k 0x0E mode opnd → ∃ t, exec (.opSt k mode opnd wait) s = .next t ∧
      (t.sect k).core = { (s.sect k).core with
        work := SMap.insert (s.sect k).work (areaKey a o) (b2n (s.sect k).ba), pc := (s.sect k).pc + 1 }) ∧
    (s.runsOn k 0x0F mode opnd → ∃ t, exec (.opStn k mode opnd wait) s = .next t ∧
      (t.sect k).core = { (s.sect k).core with
        work := SMap.insert (s.sect k).work (areaKey a o) (b2n (!(s.sect k).ba)), pc := (s.sect k).pc + 1 }) ∧
    (s.runsOn k 0x10 mode opnd → ∃ t, exec (.opSet k mode opnd wait) s = .next t ∧
      (t.sect k).core = { (s.sect k).core with
        work := if (s.sect k).ba then SMap.insert (s.sect k).work (areaKey a o) 1 else (s.sect k).work, pc := (s.sect k).pc + 1 }) ∧
    (s.runsOn k 0x11 mode opnd → ∃ t, exec (.opRst k mode opnd wait) s = .next t ∧
      (t.sect k).core = { (s.sect k).core with
        work := if (s.sect k).ba then SMap.insert (s.sect k).work (areaKey a o) 0 else (s.sect k).work, pc := (s.sect k).pc + 1 }) ∧
    (s.runsOn k 0x12 mode opnd → ∃ t, exec (.opStwc k mode opnd wait) s = .next t ∧
      (t.sect k).core = { (s.sect k).core with
        work := if (s.sect k).ba then SMap.insert (s.sect k).work (areaKey a o) (s.sect k).wa.toNat else (s.sect k).work
        pc := (s.sect k).pc + 1 }) ∧
    (s.runsOn k 0x1A mode opnd → ∃ t, exec (.opStw k mode opnd wait) s = .next t ∧
      (t.sect k).core = { (s.sect k).core with
        work := SMap.insert (s.sect k).work (areaKey a o) (s.sect k).wa.toNat, pc := (s.sect k).pc + 1 }) ∧
    (s.runsOn k 0x0C mode opnd → ∃ t, exec (.opEdgp k mode opnd wait) s = .next t ∧
      (t.sect k).core = { (s.sect k).core with
        ba := (s.sect k).ba && !s.opBit k mode opnd
        work := SMap.insert (s.sect k).work (areaKey a o) (b2n (s.sect k).ba), pc := (s.sect k).pc + 1 }) ∧
    (s.runsOn k 0x0D mode opnd → ∃ t, exec (.opEdgn k mode opnd wait) s = .next t ∧
      (t.sect k).core = { (s.sect k).core with
        ba := s.opBit k mode opnd && !(s.sect k).ba
        work := SMap.insert (s.sect k).work (areaKey a o) (b2n (s.sect k).ba), pc := (s.sect k).pc + 1 })) ∧
  (∀ (s : State) (k mode opnd wait o : Nat), s.runsOn k 0x1A mode opnd → s.operand k mode opnd = some (10, o) → o < areaSize 10 →
    ∃ t, exec (.opStw k mode opnd wait) s = .next t ∧
      (t.sect k).core = { (s.sect k).core with
        scratch := SMap.put 0 (s.sect k).scratch o (s.sect k).wa.toNat, pc := (s.sect k).pc + 1 }) ∧
  (∀ (s : State) (k mode opnd wait a o : Nat), s.runsOn k 0x1A mode opnd → s.operand k mode opnd = some (a, o) → o < areaSize a →
    a ≠ 10 → s.ownerOf a o ≠ some k →
    ∃ t, exec (.opStw k mode opnd wait) s = .next t ∧ (t.sect k).core = { (s.sect k).core with pc := (s.sect k).pc + 1 } ∧
      (t.sect k).foreign = true) ∧
  (∀ (s : State) (k mode opnd wait a o v : Nat), s.runsOn k 0x1A mode opnd → s.operand k mode opnd = some (a, o) → o < areaSize a →
    a = 2 ∨ a = 5 → s.ownerOf a o = some k → s.forcedAt a o = some v →
    ∃ t, exec (.opStw k mode opnd wait) s = .next t ∧ (t.sect k).core = { (s.sect k).core with pc := (s.sect k).pc + 1 })

/-- A timer or counter instruction acts on an element of the section: the element follows its diagram with BA as input and WA as
preset, in the section's uncommitted elements, and BA takes the done bit; CLD loads the count; a forced element stays, and BA takes its forced done
bit (R160, R186, R187). -/
def Obligations.TimersAndCountersFollowTheirInput : Prop :=
  (∀ (s : State) (k mode opnd wait a o : Nat) (x : Timer), s.ownElem k mode opnd a o → a = 7 →
    (s.runsOn k 0x13 mode opnd → x = (s.timerOf k o).ton (s.sect k).ba (timerPT (s.sect k).wa) →
      ∃ t, exec (.opTon k mode opnd wait) s = .next t ∧
        (t.sect k).core = { (s.sect k).core with wT := SMap.insert (s.sect k).wT o x, ba := x.q, pc := (s.sect k).pc + 1 }) ∧
    (s.runsOn k 0x14 mode opnd → x = (s.timerOf k o).tof (s.sect k).ba (timerPT (s.sect k).wa) →
      ∃ t, exec (.opTof k mode opnd wait) s = .next t ∧
        (t.sect k).core = { (s.sect k).core with wT := SMap.insert (s.sect k).wT o x, ba := x.q, pc := (s.sect k).pc + 1 }) ∧
    (s.runsOn k 0x15 mode opnd → x = (s.timerOf k o).tp (s.sect k).ba (timerPT (s.sect k).wa) →
      ∃ t, exec (.opTp k mode opnd wait) s = .next t ∧
        (t.sect k).core = { (s.sect k).core with wT := SMap.insert (s.sect k).wT o x, ba := x.q, pc := (s.sect k).pc + 1 })) ∧
  (∀ (s : State) (k mode opnd wait a o : Nat) (v : Word) (rise : Bool), s.ownElem k mode opnd a o → a = 8 →
    rise = ((s.sect k).ba && !(s.counterOf k o).edge) →
    (s.runsOn k 0x16 mode opnd →
      v = (if rise && decide ((s.counterOf k o).cv ≠ 0x7FFFFFFF) then (s.counterOf k o).cv + 1 else (s.counterOf k o).cv) →
      ∃ t, exec (.opCtu k mode opnd wait) s = .next t ∧
        (t.sect k).core = { (s.sect k).core with
          wC := SMap.insert (s.sect k).wC o ⟨v, decide ((s.sect k).wa.toInt ≤ v.toInt), (s.sect k).ba⟩
          ba := decide ((s.sect k).wa.toInt ≤ v.toInt)
          ov := (s.sect k).ov || (rise && decide ((s.counterOf k o).cv = 0x7FFFFFFF)), pc := (s.sect k).pc + 1 }) ∧
    (s.runsOn k 0x17 mode opnd →
      v = (if rise && decide ((s.counterOf k o).cv ≠ 0x80000000) then (s.counterOf k o).cv - 1 else (s.counterOf k o).cv) →
      ∃ t, exec (.opCtd k mode opnd wait) s = .next t ∧
        (t.sect k).core = { (s.sect k).core with
          wC := SMap.insert (s.sect k).wC o ⟨v, decide (v.toInt ≤ 0), (s.sect k).ba⟩, ba := decide (v.toInt ≤ 0)
          ov := (s.sect k).ov || (rise && decide ((s.counterOf k o).cv = 0x80000000)), pc := (s.sect k).pc + 1 }) ∧
    (s.runsOn k 0x18 mode opnd →
      ∃ t, exec (.opCld k mode opnd wait) s = .next t ∧
        (t.sect k).core = { (s.sect k).core with
          wC := if (s.sect k).ba then SMap.insert (s.sect k).wC o { s.counterOf k o with cv := (s.sect k).wa } else (s.sect k).wC
          pc := (s.sect k).pc + 1 })) ∧
  (∀ (s : State) (k mode opnd wait a o v opc : Nat) (c : Instr), s.operand k mode opnd = some (a, o) → o < areaSize a →
    s.ownerOf a o = some k → s.forcedAt a o = some v →
    (a, opc, c) ∈ [(7, 0x13, Instr.opTon k mode opnd wait), (7, 0x14, .opTof k mode opnd wait), (7, 0x15, .opTp k mode opnd wait),
      (8, 0x16, .opCtu k mode opnd wait), (8, 0x17, .opCtd k mode opnd wait), (8, 0x18, .opCld k mode opnd wait)] →
    s.runsOn k opc mode opnd →
    ∃ t, exec c s = .next t ∧ (t.sect k).core = { (s.sect k).core with ba := decide (v ≠ 0), pc := (s.sect k).pc + 1 })

/-- Control moves within the section: jumps, calls that nest eight deep and their returns, END; a stack that is full or empty, and the
end of the code, trap (R192 to R196). -/
def Obligations.ControlFlowMovesTheCounter : Prop :=
  (∀ (s : State) (k mode opnd wait : Nat), opnd < (s.code k).length →
    (s.canIssue k 0x30 mode opnd → ∃ t, exec (.opJmp k mode opnd wait) s = .next t ∧
      (t.sect k).core = { (s.sect k).core with pc := opnd }) ∧
    (s.canIssue k 0x31 mode opnd → (s.sect k).ba = true → ∃ t, exec (.opJmpc k mode opnd wait) s = .next t ∧
      (t.sect k).core = { (s.sect k).core with pc := opnd }) ∧
    (s.runsOn k 0x31 mode opnd → (s.sect k).ba = false → ∃ t, exec (.opJmpc k mode opnd wait) s = .next t ∧
      (t.sect k).core = { (s.sect k).core with pc := (s.sect k).pc + 1 }) ∧
    (s.canIssue k 0x32 mode opnd → (s.sect k).ba = false → ∃ t, exec (.opJmpcn k mode opnd wait) s = .next t ∧
      (t.sect k).core = { (s.sect k).core with pc := opnd }) ∧
    (s.runsOn k 0x32 mode opnd → (s.sect k).ba = true → ∃ t, exec (.opJmpcn k mode opnd wait) s = .next t ∧
      (t.sect k).core = { (s.sect k).core with pc := (s.sect k).pc + 1 }) ∧
    (s.canIssue k 0x33 mode opnd → (s.sect k).cs.length < 8 → ∃ t, exec (.opCall k mode opnd wait) s = .next t ∧
      (t.sect k).core = { (s.sect k).core with cs := ((s.sect k).pc + 1) :: (s.sect k).cs, pc := opnd })) ∧
  (∀ (s : State) (k p : Nat) (l : List Nat), s.canIssue k 0x34 2 0 → (s.sect k).cs = p :: l → p < (s.code k).length →
    ∃ t, exec (.opRet k) s = .next t ∧ (t.sect k).core = { (s.sect k).core with cs := l, pc := p }) ∧
  (∀ (s : State) (k : Nat), s.canIssue k 0x39 2 0 →
    ∃ t, exec (.opEnd k) s = .next t ∧
      (t.sect k).core = { (s.sect k).core with ended := true, endClk := (s.sect k).clk + 1, pc := (s.sect k).pc + 1 }) ∧
  (∀ (s : State) (k mode opnd wait : Nat), s.canIssue k 0x33 mode opnd → (s.sect k).cs.length = 8 →
    ∃ t, exec (.opCall k mode opnd wait) s = .next t ∧ (t.sect k).trap = some (3, (s.sect k).pc) ∧ (t.sect k).ended = true) ∧
  (∀ (s : State) (k : Nat), s.canIssue k 0x34 2 0 → (s.sect k).cs = [] →
    ∃ t, exec (.opRet k) s = .next t ∧ (t.sect k).trap = some (4, (s.sect k).pc) ∧ (t.sect k).ended = true) ∧
  (∀ (s : State) (k : Nat), s.canIssue k 0x09 2 0 → (s.sect k).bs.length = 16 →
    ∃ t, exec (.opBopen k) s = .next t ∧ (t.sect k).trap = some (1, (s.sect k).pc) ∧ (t.sect k).ended = true) ∧
  (∀ (s : State) (k : Nat), s.canIssue k 0x00 2 0 → (s.sect k).pc + 1 = (s.code k).length →
    ∃ t, exec (.opNop k) s = .next t ∧ (t.sect k).trap = some (5, (s.sect k).pc + 1) ∧ (t.sect k).ended = true)

/-- A table lookup clamps at or below the first and at or above the last point, interpolates between two points of an ascending table (the product in 64
bits: log entry 109), and flags a malformed table; a block move copies WB words to D at XI in ascending order, where the section may write, and
a wrong count copies nothing; a service call takes the next free slot with its arguments as they stand and answers its ticket, or is refused
(R123, R160, R178, R190, R191, R198 to R201, Table 04.8). -/
def Obligations.TablesMovesAndCallsWork : Prop :=
  (∀ (s : State) (k mode opnd wait a o n : Nat), s.runsOn k 0x35 mode opnd → s.operand k mode opnd = some (a, o) →
    n = (s.tblWordAt k a o 0).toNat →
    (n < 2 ∨ 256 < n) ∨ (2 ≤ n ∧ n ≤ 256 ∧ (s.tblWordAt k a o 1).toInt < (s.sect k).wa.toInt ∧
      (s.tblWordAt k a o (2 * n - 1)).toInt ≤ (s.tblWordAt k a o 1).toInt) ∨
      (n = 3 ∧ (s.tblWordAt k a o 1).toInt < (s.sect k).wa.toInt ∧ (s.sect k).wa.toInt < (s.tblWordAt k a o 5).toInt ∧
        ((s.tblWordAt k a o 3).toInt ≤ (s.tblWordAt k a o 1).toInt ∨ (s.tblWordAt k a o 5).toInt ≤ (s.tblWordAt k a o 3).toInt)) →
    ∃ t, exec (.opTbl k mode opnd wait) s = .next t ∧
      (t.sect k).core = { (s.sect k).core with ov := true, pc := (s.sect k).pc + 1 }) ∧
  (∀ (s : State) (k mode opnd wait a o n : Nat) (y : Word), s.runsOn k 0x35 mode opnd → s.operand k mode opnd = some (a, o) →
    n = (s.tblWordAt k a o 0).toNat → 2 ≤ n → n ≤ 256 →
    ((s.sect k).wa.toInt ≤ (s.tblWordAt k a o 1).toInt ∧ y = s.tblWordAt k a o 2) ∨
      ((s.tblWordAt k a o 1).toInt < (s.tblWordAt k a o (2 * n - 1)).toInt ∧
        (s.tblWordAt k a o (2 * n - 1)).toInt ≤ (s.sect k).wa.toInt ∧ y = s.tblWordAt k a o (2 * n)) →
    ∃ t, exec (.opTbl k mode opnd wait) s = .next t ∧
      (t.sect k).core = { (s.sect k).core with
        wa := y, z := decide (y = 0), n := y.msb, cy := true, pc := (s.sect k).pc + 1 }) ∧
  (∀ (s : State) (k mode opnd wait a o n i : Nat) (x xa ya xb yb z : Int) (r : Word), s.runsOn k 0x35 mode opnd →
    s.operand k mode opnd = some (a, o) → n = (s.tblWordAt k a o 0).toNat → n ≤ 256 → i + 1 < n →
    (∀ j, j + 1 < n → (s.tblWordAt k a o (2 * j + 1)).toInt < (s.tblWordAt k a o (2 * j + 3)).toInt) →
    x = (s.sect k).wa.toInt → xa = (s.tblWordAt k a o (2 * i + 1)).toInt → ya = (s.tblWordAt k a o (2 * i + 2)).toInt →
    xb = (s.tblWordAt k a o (2 * i + 3)).toInt → yb = (s.tblWordAt k a o (2 * i + 4)).toInt →
    (s.tblWordAt k a o 1).toInt < x → xa ≤ x → x < xb → z = interpolate ya yb x xa xb →
    r.toInt = max (-2 ^ 31) (min (2 ^ 31 - 1) z) →
    ∃ t, exec (.opTbl k mode opnd wait) s = .next t ∧
      (t.sect k).core = { (s.sect k).core with
        wa := r, z := decide (r = 0), n := r.msb, cy := false, ov := (s.sect k).ov || decide (z < -2 ^ 31 ∨ 2 ^ 31 ≤ z)
        pc := (s.sect k).pc + 1 }) ∧
  (∀ x xa ya xb yb : Int, -2 ^ 63 ≤ (yb - ya) * (x - xa) → (yb - ya) * (x - xa) < 2 ^ 63 →
    interpolate ya yb x xa xb = ya + Int.tdiv ((yb - ya) * (x - xa)) (xb - xa)) ∧
  (∀ (s : State) (k mode opnd wait a o n xi : Nat), s.runsOn k 0x36 mode opnd → s.operand k mode opnd = some (a, o) →
    n = (s.sect k).wb.toNat → 1 ≤ n → n ≤ 4096 → xi = (s.sect k).xi → a ≠ 5 ∨ xi ≤ o ∨ o + n ≤ xi →
    ∃ t, exec (.opMovb k mode opnd wait) s = .next t ∧ (t.sect k).pc = (s.sect k).pc + 1 ∧
      ∀ i, i < n → SMap.get? (t.sect k).work (areaKey 5 (xi + i)) =
        if xi + i < areaSize 5 ∧ s.ownerOf 5 (xi + i) = some k ∧ s.forcedAt 5 (xi + i) = none then some (s.seen k a (o + i))
        else SMap.get? (s.sect k).work (areaKey 5 (xi + i))) ∧
  (∀ (s : State) (k mode opnd wait o n xi : Nat), s.runsOn k 0x36 mode opnd → s.operand k mode opnd = some (5, o) →
    n = (s.sect k).wb.toNat → 1 ≤ n → n ≤ 4096 → xi = (s.sect k).xi → o < xi → xi + n ≤ areaSize 5 →
    (∀ i, i < n → s.ownerOf 5 (xi + i) = some k ∧ s.forcedAt 5 (xi + i) = none) →
    ∃ t, exec (.opMovb k mode opnd wait) s = .next t ∧ (t.sect k).pc = (s.sect k).pc + 1 ∧
      ∀ i, i < n → SMap.get? (t.sect k).work (areaKey 5 (xi + i)) = some (s.seen k 5 (o + i % (xi - o)))) ∧
  (∀ (s : State) (k mode opnd wait : Nat), s.runsOn k 0x36 mode opnd → (s.sect k).wb = 0 ∨ 4096 < (s.sect k).wb.toNat →
    ∃ t, exec (.opMovb k mode opnd wait) s = .next t ∧ (t.sect k).core = { (s.sect k).core with pc := (s.sect k).pc + 1 } ∧
      (t.sect k).range = min 65535 ((s.sect k).range + 1)) ∧
  (∀ (s : State) (k mode opnd wait n j q : Nat), s.runsOn k 0x38 mode opnd → svcD opnd = some n →
    n = 0 ∨ (s.sect k).xi + n ≤ areaSize 5 → (s.sect k).taken < 64 → (s.sect k).freeSlot = some j →
    q = (if 65535 ≤ (s.sect k).serial then 1 else (s.sect k).serial + 1) →
    ∃ t, exec (.opSvc k mode opnd wait) s = .next t ∧
      (t.sect k).core = { (s.sect k).core with
        slots := SMap.insert (s.sect k).slots j { SMap.getD (s.sect k).slots j {} with
          st := .issued, serial := q, code := opnd, status := St.pending, result := [] }
        lastSlot := j, serial := q, taken := (s.sect k).taken + 1
        queue := (s.sect k).queue ++ [{ code := opnd, slot := j, args := {
          wa := (s.sect k).wa, wb := (s.sect k).wb
          d := (List.range n).map fun i => BitVec.ofNat 32 (s.seen k 5 ((s.sect k).xi + i)) } }]
        wa := BitVec.ofNat 32 (k * 2 ^ 30 + j * 2 ^ 16 + q), ba := true, pc := (s.sect k).pc + 1 }) ∧
  (∀ (s : State) (k mode opnd wait n st : Nat), s.runsOn k 0x38 mode opnd → svcD opnd = some n →
    (n ≠ 0 ∧ areaSize 5 < (s.sect k).xi + n ∧ st = 0x0009) ∨
      ((n = 0 ∨ (s.sect k).xi + n ≤ areaSize 5) ∧ (64 ≤ (s.sect k).taken ∨ (s.sect k).freeSlot = none) ∧ st = 0x000B) →
    ∃ t, exec (.opSvc k mode opnd wait) s = .next t ∧
      (t.sect k).core = { (s.sect k).core with
        wa := BitVec.ofNat 32 (k * 2 ^ 30 + 2 ^ 29 + 255 * 2 ^ 16 + st), ba := false, refused := (s.sect k).refused + 1
        pc := (s.sect k).pc + 1 })

/-- Whatever an instruction of the logic set does, it stays in its section: the other sections, the committed areas, timers and counters
do not change, nor any other part of the module but the count of refused accesses, the log and the Vitrine's trigger (R117, R122,
R123, R196). -/
def Obligations.LogicStaysInItsSection : Prop :=
  ∀ (s : State) (k mode opnd wait : Nat) (c : Instr),
    c ∈ [.opNop k, .opNot k, .opBopen k, .opBcand k, .opBcor k, .opSwp k, .opRet k, .opEnd k,
      .opLd k mode opnd wait, .opLdn k mode opnd wait, .opAnd k mode opnd wait, .opAndn k mode opnd wait, .opOr k mode opnd wait,
      .opOrn k mode opnd wait, .opXor k mode opnd wait, .opEdgp k mode opnd wait, .opEdgn k mode opnd wait, .opSt k mode opnd wait,
      .opStn k mode opnd wait, .opSet k mode opnd wait, .opRst k mode opnd wait, .opStwc k mode opnd wait, .opTon k mode opnd wait,
      .opTof k mode opnd wait, .opTp k mode opnd wait, .opCtu k mode opnd wait, .opCtd k mode opnd wait, .opCld k mode opnd wait,
      .opLdw k mode opnd wait, .opStw k mode opnd wait, .opAdd k mode opnd wait, .opAdds k mode opnd wait, .opSub k mode opnd wait,
      .opSubs k mode opnd wait, .opMul k mode opnd wait, .opMuls k mode opnd wait, .opDiv k mode opnd wait, .opAndw k mode opnd wait,
      .opOrw k mode opnd wait, .opXorw k mode opnd wait, .opShl k mode opnd wait, .opShr k mode opnd wait, .opCeq k mode opnd wait,
      .opCne k mode opnd wait, .opCgt k mode opnd wait, .opCge k mode opnd wait, .opClt k mode opnd wait, .opCle k mode opnd wait,
      .opLdx k mode opnd wait, .opAddx k mode opnd wait, .opJmp k mode opnd wait, .opJmpc k mode opnd wait, .opJmpcn k mode opnd wait,
      .opCall k mode opnd wait, .opTbl k mode opnd wait, .opMovb k mode opnd wait, .opLdf k mode opnd wait, .opSvc k mode opnd wait] →
    ∃ t, exec c s = .next t ∧ (∀ j, j ≠ k → t.sect j = s.sect j) ∧ { t.prog with sects := s.prog.sects } = s.prog ∧
      { t with prog := s.prog, regs := s.regs, recs := s.recs, out := s.out } = s

/-- A request acts once: one whose number is known and complete is answered DUPLICATE with the cached status and result, one in progress
PENDING, one more than 63 below the highest STALE; and one that is taken is refused for its form, its size, its role or the mode, in
that order, before it has any effect; each answer has the request's KIND with bit 7 set (R59, R60, R530, R531, R534, Table 12.3). -/
def Obligations.RequestsActOnceAndAreJudged : Prop :=
  ∀ (s : State) (h : Hdr) (m : HxmMsg) (c : Instr) (x : Session), m.sentAs h c → s.askedBy h x →
    (x.classify h.num = .stale →
      ∃ t, exec c s = .next t ∧ t.toHost h.ctx (m.kind + 0x80) h.num St.stale [] ∧
        t.get F.HXM_CNT_STALE = min 255 (s.get F.HXM_CNT_STALE + 1) ∧ ({ t with regs := s.regs } : State).onlyAnswers s) ∧
    (x.classify h.num = .pending →
      ∃ t, exec c s = .next t ∧ t.toHost h.ctx (m.kind + 0x80) h.num St.pending [] ∧ t.onlyAnswers s) ∧
    (∀ l, x.classify h.num = .duplicate l →
      ∃ t, exec c s = .next t ∧ t.toHost h.ctx (m.kind + 0x80) h.num St.duplicate (cachedBody (l.getD [])) ∧
        t.get F.HXM_CNT_DUPLICATE = min 255 (s.get F.HXM_CNT_DUPLICATE + 1) ∧ ({ t with regs := s.regs } : State).onlyAnswers s) ∧
    (x.width = 32 → (x.window ≠ [] ∨ x.high ≠ 0) → x.high < 2 ^ 32 →
      (x.classify h.num = .stale ↔ 63 < (x.high + 2 ^ 32 - h.num) % 2 ^ 32 ∧ 2 ^ 31 ≤ (h.num + 2 ^ 32 - x.high) % 2 ^ 32)) ∧
    (x.classify h.num = .accepted → ∀ st, st = (if h.bad = true then St.badMessage else if 1280 < h.len then St.tooLarge
        else if m.formed = false then St.badMessage else if s.msgAccess h.ctx m = false then St.access
        else if s.mode = .recovery ∧ m.inRecovery = false then St.mode else 0) → st ≠ 0 →
      ∃ t, exec c s = .next t ∧ t.toHost h.ctx (m.kind + 0x80) h.num st [] ∧ ({ t with regs := s.regs } : State).onlyAnswers s ∧
        ∃ y, (s.taken h m.kind).session h.ctx = some y ∧ t.session h.ctx = some (y.complete h.num [st]))

/-- Reads and writes of the host: data as the last commit left it, the logs, the staged values, and the switch report are returned as
octets and change nothing; a service call, and a write of one register, do what the module's own would; a write that is refused has no
effect, and a command that waits keeps its request; a track graph within its capacities is replaced in Stop; an abort of a request that has
ended answers ABORTED_LATE where it was done (R2, R10, R11, R66 to R68, R116, R251, R389, R532, R599, R602, R634, Table 12.3). -/
def Obligations.HostsReadWriteAndCall : Prop :=
  (∀ (s : State) (h : Hdr) (a off n : Nat), s.canAsk h (.read (.area a off n)) → off + n ≤ areaSize a →
    ∃ t, exec (.hxmRead h (.area a off n)) s = .next t ∧ t.onlyAnswers s ∧
      t.toHost h.ctx 0x81 h.num St.done (octetsOf ((List.range n).map fun k => s.areaVal a (off + k)))) ∧
  (∀ (s : State) (h : Hdr) (addr n : Nat) (u : State) (l : List Nat), s.canAsk h (.read (.words addr n)) →
    (s.taken h 0x01).regReads (.session h.ctx) addr n = (u, some l) →
    ∃ t, exec (.hxmRead h (.words addr n)) s = .next t ∧ t.toHost h.ctx 0x81 h.num St.done (octetsOf l) ∧ t.regs = u.regs) ∧
  (∀ (s : State) (h : Hdr) (addr n : Nat) (u : State), s.canAsk h (.read (.words addr n)) →
    (s.taken h 0x01).regReads (.session h.ctx) addr n = (u, none) →
    ∃ t, exec (.hxmRead h (.words addr n)) s = .next t ∧ t.toHost h.ctx 0x81 h.num St.badArg [] ∧ t.onlyAnswers s) ∧
  (∀ (s : State) (h : Hdr) (a off n : Nat), s.canAsk h (.read (.area a off n)) → areaSize a < off + n →
    ∃ t, exec (.hxmRead h (.area a off n)) s = .next t ∧ t.onlyAnswers s ∧ t.toHost h.ctx 0x81 h.num St.badArg []) ∧
  (∀ (s : State) (h : Hdr) (addr st : Nat) (w : Word) (u : State), s.canAsk h (.write (.words addr (leBytes 4 w.toNat))) →
    (s.taken h 0x02).regWrite (.session h.ctx) addr w.toNat = (u, st) → st ≠ St.pending →
    ∃ t, exec (.hxmWrite h (.words addr (leBytes 4 w.toNat))) s = .next t ∧ t.told h.by_ st [] ∧ t.regs = u.regs) ∧
  (∀ (s : State) (h : Hdr) (addr a : Nat) (w : Word) (u : State), s.canAsk h (.write (.words addr (leBytes 4 w.toNat))) →
    (s.taken h 0x02).regWrite (.session h.ctx) addr w.toNat = (u, St.pending) → cmdStatOf addr = some a →
    ∃ t, exec (.hxmWrite h (.words addr (leBytes 4 w.toNat))) s = .next t ∧ t.told h.by_ St.pending [] ∧ t.regs = u.regs ∧
      (a, h.ctx, h.num) ∈ t.wired.waitCmd) ∧
  (∀ (s : State) (h : Hdr) (addr st : Nat) (l : List Nat) (u : State) (p : Option Nat), s.canAsk h (.write (.words addr l)) →
    8 ≤ l.length → (s.taken h 0x02).regWrites (.session h.ctx) addr (wordsOf l) = (u, st, p) → st ≠ St.done → st ≠ St.pending →
    ∃ t, exec (.hxmWrite h (.words addr l)) s = .next t ∧ t.told h.by_ st [] ∧ t.onlyAnswers s) ∧
  (∀ (s : State) (h : Hdr) (g : Graph), s.canAsk h (.write (.graph g)) → s.mode = .stop →
    ∃ t, exec (.hxmWrite h (.graph g)) s = .next t ∧
      t.told h.by_ (if g.fits = false then St.badArg else if g.ok = true then St.done else St.graphInvalid) [] ∧
      t.fleet = (if g.fits = true ∧ g.ok = true then { s.fleet with graph := g } else s.fleet) ∧
      t.onlyAnswers { s with fleet := t.fleet }) ∧
  (∀ (s : State) (h : Hdr) (g : Graph), s.canAsk h (.write (.graph g)) → s.mode ≠ .stop →
    ∃ t, exec (.hxmWrite h (.graph g)) s = .next t ∧ t.told h.by_ St.mode [] ∧ t.onlyAnswers s) ∧
  (∀ (s : State) (h : Hdr) (a : SvcArgs) (code : Nat) (c : Instr), s.canAsk h (.service code a) →
    (code, c) ∈ [(0x000001, Instr.reqStop h.by_ a), (0x050002, .retainSave h.by_ a), (0x060001, .setGroup h.by_ a),
      (0x070001, .nodeQuery h.by_ a), (0x0A0004, .setSp h.by_ a), (0x0C0001, .taskQueue h.by_ a), (0x0D0001, .declareStop h.by_ a),
      (0x0E0001, .trigArm h.by_ a), (0x120001, .daliArc h.by_ a), (0x190001, .logEvent h.by_ a)] →
    ∃ t, exec (.hxmService h code a) s = .next t ∧ exec c (s.taken h 0x03) = .next t) ∧
  (∀ (s : State) (h : Hdr) (n : Nat) (x : Session), s.canAsk h (.abort n) → s.session h.ctx = some x →
    (x.window.find? fun e => e.seq = n % 2 ^ 32) = none →
    ∃ t, exec (.hxmAbort h n) s = .next t ∧ t.told h.by_ St.badArg [] ∧ t.onlyAnswers s) ∧
  (∀ (s : State) (h : Hdr) (n : Nat) (x : Session) (e : SeqEntry), s.canAsk h (.abort n) → s.session h.ctx = some x →
    (x.window.find? fun e => e.seq = n % 2 ^ 32) = some e → e.done = true →
    ∃ t, exec (.hxmAbort h n) s = .next t ∧ t.told h.by_ (if e.fin = St.done then St.abortLate else St.aborted) [] ∧
      t.onlyAnswers s) ∧
  (∀ (s : State) (h : Hdr) (n : Nat) (x : Session) (e : SeqEntry) (u : State) (st : Nat), s.canAsk h (.abort n) →
    s.session h.ctx = some x → (x.window.find? fun e => e.seq = n % 2 ^ 32) = some e → e.done = false →
    (∀ p ∈ s.wired.waitCmd, p.2 ≠ (h.ctx, n % 2 ^ 32)) → (s.taken h 0x04).abortOp (.host h.ctx (n % 2 ^ 32)) = (u, st) →
    st ≠ St.pending →
    ∃ t, exec (.hxmAbort h n) s = .next t ∧ t.told h.by_ st [] ∧ t.frame = u.frame ∧ t.prog = u.prog ∧ t.net = u.net) ∧
  (∀ (s : State) (h : Hdr) (first count : Nat), s.canAsk h (.logRead first count) →
    ∃ t, exec (.logRead h first count) s = .next t ∧ t.onlyAnswers s ∧
      t.toHost h.ctx 0x85 h.num St.done (leBytes 4 (s.logFrom first count).2 ++ (s.logFrom first count).1.flatMap LogRec.octets)) ∧
  (∀ (s : State) (h : Hdr) (first count : Nat), s.canAsk h (.vitrineRead first count) → first < 4096 →
    ∃ t, exec (.vitrineRead h first count) s = .next t ∧ t.onlyAnswers s ∧
      t.toHost h.ctx 0x86 h.num St.done (((s.recs.vit.drop first).take count).flatMap VitEntry.octets)) ∧
  (∀ (s : State) (h : Hdr) (node count : Nat), s.canAsk h (.staging node count) → node + count ≤ 4096 →
    ∃ t, exec (.staging h node count) s = .next t ∧ t.onlyAnswers s ∧
      ∃ l, t.told h.by_ St.done l ∧ l = (List.range count).flatMap fun k =>
        ((SMap.get? s.light.image (node + k)).map stagingView).getD (List.replicate 40 0)) ∧
  (∀ (s : State) (h : Hdr) (first : Nat), s.canAsk h (.report first) →
    ∃ t, exec (.hxmReport h first) s = .next t ∧ t.onlyAnswers s ∧
      t.told h.by_ St.done ((s.prog.report.drop (2 * first)).take 318))

/-- A change of the program goes through its states: LOAD brings a package into the inactive banks, PREPARE plans the switch, SWITCH and
REVERT wait for their boundary, DISCARD drops the package; change sets, recipes and images are taken or refused whole (R149 to
R159, R224, R301, R567).
A command whose own condition does not hold changes nothing: log entry 8. -/
def Obligations.ChangesOfTheProgramPassTheirStates : Prop :=
  (∀ (s : State) (h : Hdr) (pkg : Package), s.canAsk h (.load pkg) → s.get F.PLX_CHG_STATE = Chg.idle → s.prog.newPkg = none →
    (s.prog.pkg = none → s.mode = .stop) → s.mode = .run ∨ s.mode = .stop ∨ s.mode = .hold →
    ∃ t, exec (.loadPart h pkg) s = .next t ∧ t.told h.by_ St.pending [] ∧ t.get F.PLX_CHG_STATE = Chg.loading ∧
      t.prog = { s.prog with loaded := some pkg, prev := none, loadBy := h.by_ }) ∧
  (∀ (s : State) (h : Hdr) (pkg : Package), s.canAsk h (.load pkg) → s.get F.PLX_CHG_STATE ≠ Chg.idle →
    ∃ t, exec (.loadPart h pkg) s = .next t ∧ t.told h.by_ St.changeActive [] ∧ t.onlyAnswers s) ∧
  (∀ (s : State) (h : Hdr) (p q : Package) (big : Bool), s.canAsk h .prepare → s.prog.pkg = some p → s.prog.loaded = some q →
    s.get F.PLX_CHG_STATE = Chg.loaded → s.ownsChange h.ctx = true → h.ctx < 1024 → s.pairReady = true →
    big = decide (2000 < Config.carryTime (carriedSyms p q).length (retypedSyms p q).length) →
    ∃ t, exec (.prepare h) s = .next t ∧ t.told h.by_ (if big = true then St.carryTooLarge else St.done) [] ∧
      t.get F.PLX_CHG_STATE = (if big = true then Chg.loaded else Chg.prepared) ∧
      t.get F.PLX_CHG_STATUS = (if big = true then St.carryTooLarge else St.done) ∧ t.prog.pkg = some p ∧ t.prog.loaded = some q) ∧
  (∀ (s : State) (h : Hdr), s.canAsk h .switch_ → s.prog.pkg ≠ none → s.get F.PLX_CHG_STATE = Chg.prepared →
    s.mode = .run ∨ s.mode = .stop → s.ownsChange h.ctx = true →
    ∃ t, exec (.switch_ h) s = .next t ∧ t.told h.by_ St.pending [] ∧ t.get F.PLX_CHG_STATE = Chg.pending ∧
      t.prog = { s.prog with switchAt := some s.mono, switchBy := h.by_ }) ∧
  (∀ (s : State) (h : Hdr), s.canAsk h .switch_ → s.prog.pkg ≠ none → s.get F.PLX_CHG_STATE = Chg.prepared →
    s.mode = .run ∨ s.mode = .stop → s.ownsChange h.ctx = false →
    ∃ t, exec (.switch_ h) s = .next t ∧ t.told h.by_ St.changeActive [] ∧ t.onlyAnswers s) ∧
  (∀ (s : State) (h : Hdr), s.canAsk h .discard → s.get F.PLX_CHG_STATE = Chg.loaded ∨ s.get F.PLX_CHG_STATE = Chg.prepared →
    s.ownsChange h.ctx = true →
    ∃ t, exec (.discard h) s = .next t ∧ t.told h.by_ St.done [] ∧ t.get F.PLX_CHG_STATE = Chg.idle ∧
      t.get F.PLX_CHG_OWNER = 1023 ∧ t.prog = { s.prog with loaded := none }) ∧
  (∀ (s : State) (h : Hdr) (p q : Package), s.canAsk h .revert → s.prog.pkg = some p → s.prog.prev = some q →
    s.get F.PLX_CHG_STATE = Chg.idle → s.mode = .run ∨ s.mode = .stop →
    ∃ t, exec (.revert h) s = .next t ∧ t.told h.by_ St.pending [] ∧ t.get F.PLX_CHG_STATE = Chg.pending ∧
      t.prog.loaded = some q ∧ t.prog.prev = none ∧ t.prog.pkg = some p ∧ t.prog.switchAt = some s.mono) ∧
  (∀ (s : State) (h : Hdr) (l : List (Nat × Nat)), s.canAsk h (.changeSet l) →
    s.mode = .stop ∨ s.mode = .run ∨ s.mode = .hold → l ≠ [] → l.length ≤ 64 →
    ∃ t, exec (.changeSet h l) s = .next t ∧
      match s.changeRefusal l with
      | none => t.told h.by_ St.pending [] ∧ t.prog = { s.prog with changes := s.prog.changes ++ [{ pairs := l, by_ := h.by_ }] }
      | some st => t.told h.by_ st [] ∧ t.onlyAnswers s) ∧
  (∀ (s : State) (h : Hdr) (p : RecipePart) (l : SMap (List Break)), s.canAsk h (.recipe p) → p.first = true → p.last = true →
    s.get F.LGT_RCP_SWITCH_PENDING = 0 → s.light.recipeLoading = false →
    l = p.recipes.foldl (fun (m : SMap (List Break)) q => SMap.insert m q.1 q.2) [] →
    ∃ t, exec (.hxmRecipe h p) s = .next t ∧
      if (l.all fun q => decide (q.1 < 256) && recipeOk q.2) = true then
        t.told h.by_ St.pending [] ∧ t.get F.LGT_RCP_SWITCH_PENDING = 1 ∧ t.light.recipes2 = l ∧ t.light.recipes = s.light.recipes
      else t.told h.by_ St.recipeInvalid [] ∧ t.get F.LGT_RCP_SWITCH_PENDING = 0 ∧ t.light.recipes2 = []) ∧
  (∀ (s : State) (h : Hdr) (data : List Nat), s.canAsk h (.image 0 data) → s.mode ≠ .recovery → s.upd.kind = 0 →
    s.get F.UPD_STAT_STATE ≠ UpdSt.verifying → data ≠ [] → data.length ≤ 1024 →
    ∃ t, exec (.hxmImage h 0 data) s = .next t ∧ t.told h.by_ St.done [] ∧ t.get F.UPD_STAT_STATE = UpdSt.receiving ∧
      t.upd.next = data.length) ∧
  (∀ (s : State) (h : Hdr) (r off : Nat) (data : List Nat), s.canAsk h (.campPart r off data) → r < 6 →
    (s.campaign r).active = false → off = 0 ∨ off = (s.campaign r).image.length →
    ∃ t, exec (.campaignPart h r off data) s = .next t ∧ t.told h.by_ St.done [] ∧
      (t.campaign r).image = (if off = 0 then [] else (s.campaign r).image) ++ data.map (· % 256)) ∧
  (∀ (s : State) (h : Hdr) (r kind : Nat) (l : List Nat), s.canAsk h (.campStart r kind l) → r < 6 →
    (s.campaign r).active = false → (s.campaign r).image ≠ [] → l ≠ [] → s.get (F.RAD_CFG_EN.at r) ≠ 0 →
    (s.taken h 0x10).quotaOk 2 = true →
    ∃ t, exec (.campaignStart h r kind l) s = .next t ∧ t.told h.by_ St.pending [] ∧ t.get (F.NET_UPD_STATUS.at r) = St.pending ∧
      t.net.campNo = s.net.campNo + 1)

/-- Forces wait for their boundary, watches name committed values, a debug request halts, steps and reads the sections, and a raw frame
leaves its port and completes with its stamp (R137 to R143, R160 to R162, Table 12.3). -/
def Obligations.ForcesWatchesAndDebugging : Prop :=
  (∀ (s : State) (h : Hdr) (id v : Nat) (y : Symbol), s.canAsk h (.forceSet id v) → s.mode = .stop ∨ s.mode = .run ∨ s.mode = .hold →
    s.symbol id = some y →
    (y.safety = true ∨ forceable y.area = false →
      ∃ t, exec (.forceSet h id v) s = .next t ∧ t.told h.by_ St.notForceable [] ∧ t.onlyAnswers s) ∧
    (y.safety = false → forceable y.area = true → id ∈ s.forcesToBe ∨ s.forcesToBe.length < 1024 →
      ∃ t, exec (.forceSet h id v) s = .next t ∧ t.told h.by_ St.pending [] ∧
        t.prog = { s.prog with forceReqs := s.prog.forceReqs ++
          [{ sym := id, value := some (if bitArea y.area then v % 2 else v % 2 ^ 32), by_ := h.by_ }] }) ∧
    (y.safety = false → forceable y.area = true → id ∉ s.forcesToBe → 1024 ≤ s.forcesToBe.length →
      ∃ t, exec (.forceSet h id v) s = .next t ∧ t.told h.by_ St.forceFull [] ∧ t.onlyAnswers s)) ∧
  (∀ (s : State) (h : Hdr) (id : Nat) (y : Symbol), s.canAsk h (.forceClear id) → s.mode = .stop ∨ s.mode = .run ∨ s.mode = .hold →
    s.symbol id = some y → id ∈ s.forcesToBe →
    ∃ t, exec (.forceClear h id) s = .next t ∧ t.told h.by_ St.pending [] ∧
      t.prog = { s.prog with forceReqs := s.prog.forceReqs ++ [{ sym := id, value := none, by_ := h.by_ }] }) ∧
  (∀ (s : State) (h : Hdr), s.canAsk h .forceList →
    ∃ t, exec (.forceList h) s = .next t ∧ t.onlyAnswers s ∧
      t.told h.by_ St.done (s.prog.forces.flatMap fun f => [f.sym, f.value])) ∧
  (∀ (s : State) (h : Hdr) (id k : Nat) (y : Symbol), s.canAsk h (.watchAdd id) → s.symbol id = some y →
    k < 64 → (∀ w ∈ s.prog.watches, w.1 ≠ k) → (∀ j, j < k → ∃ w ∈ s.prog.watches, w.1 = j) →
    ∃ t, exec (.watchAdd h id) s = .next t ∧ t.told h.by_ St.done [k] ∧ t.prog.watches = s.prog.watches ++ [(k, id)] ∧
      t.prog.areas = s.prog.areas) ∧
  (∀ (s : State) (h : Hdr) (k id : Nat), s.canAsk h (.watchRemove k) → (k, id) ∈ s.prog.watches →
    ∃ t, exec (.watchRemove h k) s = .next t ∧ t.told h.by_ St.done [] ∧ ∀ w, w ∈ t.prog.watches ↔ w ∈ s.prog.watches ∧ w.1 ≠ k) ∧
  (∀ (s : State) (h : Hdr), s.canAsk h .watchRead →
    ∃ t, exec (.watchRead h) s = .next t ∧ t.onlyAnswers s ∧
      t.told h.by_ St.done (s.prog.watches.flatMap fun w => [w.1, w.2, SMap.getD s.prog.watchVals w.1 0])) ∧
  (∀ (s : State) (h : Hdr) (k b pc : Nat) (en : Bool), s.canAsk h (.dbgBreak k b en pc) →
    s.mode = .run ∨ s.mode = .stop ∨ s.mode = .hold → k < 4 → b < 8 →
    pc < 2 ^ 17 →
    ∃ t, exec (.debugBreakpoint h k b en pc) s = .next t ∧ t.told h.by_ St.done [] ∧ t.get (F.PLX_BRK_EN.at2 k b) = b2n en ∧
      t.get (F.PLX_BRK_ADDR.at2 k b) = pc) ∧
  (∀ (s : State) (h : Hdr), s.canAsk h .dbgHalt → s.mode = .run → s.lifeAllows .halt = true →
    ∃ t, exec (.debugHalt h) s = .next t ∧ t.told h.by_ St.pending [] ∧ t.mode = .run ∧
      t.frame.modeReqs = s.frame.modeReqs ++ [{ ev := .halt, by_ := h.by_, at_ := s.num }]) ∧
  (∀ (s : State) (h : Hdr), s.canAsk h .dbgHalt → s.lifeAllows .halt = true → s.mode ≠ .run →
    ∃ t, exec (.debugHalt h) s = .next t ∧ t.told h.by_ St.mode [] ∧ t.onlyAnswers s) ∧
  (∀ (s : State) (h : Hdr) (k : Nat), s.canAsk h (.dbgStep k) → s.mode = .hold → s.prog.begun = true → s.hasSect k = true →
    k < s.prog.sects.length → (s.sect k).ended = false → (s.code k)[(s.sect k).pc]? = some (opWord 0x1B 2 0) → s.hasNext k →
    ∃ t, exec (.debugStep h k) s = .next t ∧ t.told h.by_ St.done [] ∧
      (t.sect k).core = { (s.sect k).core with wa := (s.sect k).wb, wb := (s.sect k).wa, pc := (s.sect k).pc + 1 }) ∧
  (∀ (s : State) (h : Hdr) (k : Nat), s.canAsk h (.dbgRegs k) → k < 4 → s.prog.halted = true →
    (s.sect k).st = .executing ∨ (s.sect k).st = .halted →
    ∃ t, exec (.debugReadRegs h k) s = .next t ∧ t.told h.by_ St.done (s.sect k).regWords ∧ t.onlyAnswers s) ∧
  (∀ (s : State) (h : Hdr) (port at_ : Nat) (frame : List Nat) (stamp : Bool), s.canAsk h (.rawFrame port frame stamp at_) →
    port < 2 → frame ≠ [] →
    ∃ t, exec (.rawFrame h port frame stamp at_) s = .next t ∧ t.told h.by_ St.pending [] ∧
      t.sent .rawFrame ((port : Int) :: frame.map Int.ofNat) ∧ t.prog = s.prog ∧ t.regs = s.regs)

/-- Sessions open and close: a handshake gives a management session the role of its identity, or of ENGINEERING in Recovery and under
CLOARN; a failed one takes no context; an idle session closes; the host port opens a session with its configured role and a key of its
own, answers SID 0 the SYS registers and the log alone, and refuses a bad frame, MAC or SID; every response is a frame with its MAC and CRC
(R61, R63, R525 to R530, R534, R581, R586; the MAC of a response without a session, and LEN: log entry 121).
A command whose own condition does not hold changes nothing: log entry 8. -/
def Obligations.SessionsOpenAndClose : Prop :=
  (∀ (s : State) (service cloarn : Bool) (ident r : Nat), s.live = true → s.sealed = false → s.quotaOk 0 = true →
    (s.mode ≠ .recovery ∧ s.keys.life ≠ .blank ∧ s.keys.life ≠ .returned ∧ SMap.get? s.wired.idents ident = some r) ∨
      (s.mode = .recovery ∧ service = true ∧ r = 2) ∨
      (s.mode ≠ .recovery ∧ (s.keys.life = .blank ∨ s.keys.life = .returned) ∧ cloarn = true ∧ r = 2) →
    ∃ t, exec (.hxmHandshake service true cloarn ident) s = .next t ∧
      t.session s.freeContext = some { typ := 0, peer := ident % 65536, role := r, lastAt := s.mono } ∧
      (∀ c, c ≠ s.freeContext → t.session c = s.session c) ∧ { t with gal := s.gal, out := s.out } = s) ∧
  (∀ (s : State) (service good cloarn : Bool) (ident : Nat), good = false ∨ s.sealed = true →
    ∃ t, exec (.hxmHandshake service good cloarn ident) s = .next t ∧ t.gal = s.gal ∧
      t.get F.HXM_CNT_HANDSHAKE_FAIL = min 255 (s.get F.HXM_CNT_HANDSHAKE_FAIL + 1)) ∧
  (∀ (s : State) (c : Nat) (x : Session), s.session c = some x → x.typ = 0 → x.state = 2 →
    s.past (x.lastAt + s.get F.HXM_CFG_IDLE * 1000000000) = true → x.window.all (·.done) = true →
    ∃ t, exec (.hxmIdleTimeout c) s = .next t ∧ t.session c = none ∧ ∀ d, d ≠ c → t.session d = s.session d) ∧
  (∀ (s : State) (c : Nat) (x : Session), s.session c = some x →
    s.past (x.lastAt + s.get F.HXM_CFG_IDLE * 1000000000) = false → s.idle (.hxmIdleTimeout c)) ∧
  (∀ (s : State) (sid seq slot : Nat) (hn mn nonce key : List Nat), s.unheld → s.live = true → s.mode ≠ .recovery → 0 < sid → sid ≤ 4 →
    s.sealed = false → s.keys.life ≠ .blank → s.keys.life ≠ .returned → s.get F.HXM_HOST_CFG_EN ≠ 0 →
    slot = s.get F.HXM_HOST_CFG_KEYSLOT → s.keeperCheck 0 true slot KeyOp.derive = none → SMap.get? s.wired.sids sid = none →
    s.quotaOk 3 = true → hn.length = 16 → nonce = (mn.take 12).map (· % 256) → key = s.hostKey slot sid hn nonce →
    ∃ t, exec (.spiOpen sid seq hn mn) s = .next t ∧
      t.session s.freeContext = some
        { typ := 3, peer := sid, slot := slot, role := s.get F.HXM_HOST_CFG_ROLE, lastAt := s.mono, key := key } ∧
      SMap.get? t.wired.sids sid = some s.freeContext ∧
      t.wired.spiResp = some ((spiFrame 0xA0 sid (seq % 2 ^ 32) St.done nonce (some key)).map Int.ofNat) ∧ t.wired.spiRdy = true) ∧
  (∀ (s : State) (sid seq c : Nat) (x : Session), s.unheld → SMap.get? s.wired.sids sid = some c → s.session c = some x →
    x.typ = 3 → x.window.all (·.done) = true →
    ∃ t, exec (.spiClose sid seq) s = .next t ∧ t.session c = none ∧ SMap.get? t.wired.sids sid = none ∧
      t.wired.spiResp = some ((spiFrame 0xA1 sid (seq % 2 ^ 32) St.done [] (some x.key)).map Int.ofNat) ∧ t.wired.spiRdy = true) ∧
  (∀ (s : State) (macOk : Bool) (h : Hdr) (addr n : Nat) (u : State) (l : List Nat), s.unheld → s.phase = .running → h.bad = false →
    h.len ≤ 1280 → (HxmMsg.read (.words addr n)).formed = true → addr + 4 * n ≤ 65536 →
    s.regReads .sid0 addr n = (u, some l) →
    ∃ t, exec (.spiRequest 0 true macOk h (.read (.words addr n))) s = .next t ∧ t.wired.spiRdy = true ∧
      t.wired.spiResp = some ((spiFrame 0x81 0 h.num St.done (octetsOf l) (s.sidKey 0)).map Int.ofNat)) ∧
  (∀ (s : State) (macOk : Bool) (h : Hdr) (first count : Nat), s.unheld → s.phase = .running → h.bad = false → h.len ≤ 1280 →
    (HxmMsg.logRead first count).formed = true →
    ∃ t, exec (.spiRequest 0 true macOk h (.logRead first count)) s = .next t ∧ { t with wired := s.wired, out := s.out } = s ∧
      t.wired.spiResp = some ((spiFrame 0x85 0 h.num St.done
        (leBytes 4 (s.logFrom first count).2 ++ (s.logFrom first count).1.flatMap LogRec.octets) (s.sidKey 0)).map Int.ofNat)) ∧
  (∀ (s : State) (macOk : Bool) (h : Hdr) (m : HxmMsg), s.unheld → s.phase = .running → h.bad = false → h.len ≤ 1280 →
    m.formed = true → (∀ r, m = .read r → r.sysOnly = false) → (∀ a b, m ≠ .logRead a b) →
    ∃ t, exec (.spiRequest 0 true macOk h m) s = .next t ∧ { t with wired := s.wired, out := s.out } = s ∧
      t.wired.spiResp = some ((spiFrame (m.kind + 0x80) 0 h.num St.access [] (s.sidKey 0)).map Int.ofNat)) ∧
  (∀ (s : State) (sid : Nat) (macOk : Bool) (h : Hdr) (m : HxmMsg), s.unheld → s.phase = .running →
    ∃ t, exec (.spiRequest sid false macOk h m) s = .next t ∧
      t.wired.spiResp = some ((spiFrame (m.kind + 0x80) sid h.num St.badFrame [] (s.sidKey sid)).map Int.ofNat) ∧
      t.get F.HXM_HOST_STAT_CRC_FAIL = min 65535 (s.get F.HXM_HOST_STAT_CRC_FAIL + 1) ∧ t.gal = s.gal) ∧
  (∀ (s : State) (sid : Nat) (macOk : Bool) (h : Hdr) (m : HxmMsg), s.unheld → s.phase = .running → 0 < sid → s.sealed = false →
    s.mode = .recovery ∨ s.get F.HXM_HOST_CFG_EN ≠ 0 → SMap.get? s.wired.sids sid = none ∨ macOk = false →
    ∃ t, exec (.spiRequest sid true macOk h m) s = .next t ∧
      t.wired.spiResp = some ((spiFrame (m.kind + 0x80) sid h.num St.access [] (s.sidKey sid)).map Int.ofNat) ∧
      t.get F.HXM_HOST_STAT_MAC_FAIL = min 65535 (s.get F.HXM_HOST_STAT_MAC_FAIL + 1) ∧ t.gal = s.gal) ∧
  (∀ (s : State) (sid : Nat) (h : Hdr) (c : Nat) (x : Session), s.unheld → SMap.get? s.wired.sids sid = some c → s.session c = some x →
    x.typ = 3 → 0 < sid → s.sealed = false → s.mode ≠ .recovery → s.get F.HXM_HOST_CFG_EN ≠ 0 → s.canAsk { h with ctx := c } .watchRead →
    ∃ t, exec (.spiRequest sid true true h .watchRead) s = .next t ∧ t.wired.spiRdy = true ∧
      t.wired.spiResp = some ((spiFrame 0x8C x.peer h.num St.done
        (octetsOf (s.prog.watches.flatMap fun w => [w.1, w.2, SMap.getD s.prog.watchVals w.1 0])) (some x.key)).map Int.ofNat)) ∧
  (∀ (s : State) (l : List Int), s.wired.spiResp = some l →
    ∃ t, exec .spiResponseRead s = .next t ∧ t.out = [⟨.value, l⟩] ∧ t.wired = { s.wired with spiResp := none, spiRdy := false })

/-- An order of layers 1, 3 and 4 is decided in its frame and waits for its tag; presence and the staged values act at once; a malformed
order changes nothing (R207, R227, R229, R230, R232, R233, R251). -/
def Obligations.LightingOrdersAreDecidedInTheirFrame : Prop :=
  (∀ (s : State) (o : Origin) (a : SvcArgs) (v : List Nat) (fade : Nat), s.light.running = true → orderArgs a.d = some (v, fade) →
    (s.canCall o 0x060001 → a.wa.toNat < 1024 → ∃ t, exec (.setGroup o a) s = .next t ∧
      s.ordered t o true (.groupOrder a.wa.toNat (a.wb.toNat % 256) v) fade) ∧
    (s.canCall o 0x060003 → a.wa.toNat < 4096 → (s.node a.wa.toNat).isSome = true → ∃ t, exec (.setNode o a) s = .next t ∧
      s.ordered t o true (.nodeOrder a.wa.toNat (a.wb.toNat % 256) v) fade)) ∧
  (∀ (s : State) (o : Origin) (a : SvcArgs), s.light.running = true →
    (s.canCall o 0x060002 → a.wa.toNat < 1024 → ∃ t, exec (.releaseGroup o a) s = .next t ∧
      s.ordered t o true (.groupRelease a.wa.toNat (a.wb.toNat % 256)) 0) ∧
    (s.canCall o 0x060004 → a.wa.toNat < 4096 → (s.node a.wa.toNat).isSome = true → ∃ t, exec (.releaseNode o a) s = .next t ∧
      s.ordered t o true (.nodeRelease a.wa.toNat (a.wb.toNat % 256)) 0) ∧
    (s.canCall o 0x060005 → a.wa.toNat < 1024 → a.wb.toNat < 256 → ∃ t, exec (.selectRecipe o a) s = .next t ∧
      s.ordered t o true (.recipeSelect a.wa.toNat a.wb.toNat) 0
        (some (s.get (F.LGT_GRP_CFG_RECIPE.at a.wa.toNat), s.get (F.LGT_GRP_CFG_RECIPE_EN.at a.wa.toNat))) ∧
      t.get (F.LGT_GRP_CFG_RECIPE.at a.wa.toNat) = a.wb.toNat ∧ t.get (F.LGT_GRP_CFG_RECIPE_EN.at a.wa.toNat) = 1) ∧
    (s.canCall o 0x060006 → a.wa.toNat ≤ 2 → a.wb.toNat < 1024 ∨ a.wb.toNat = 0xFFFF → ∃ t, exec (.emergency o a) s = .next t ∧
      s.ordered t o false (.emergency
        (if a.wa.toNat = 0 then none else if a.wa.toNat = 1 then some (List.replicate 8 0) else some s.evac)
        (if a.wb.toNat = 0xFFFF then none else some a.wb.toNat)) 0)) ∧
  (∀ (s : State) (o : Origin) (a : SvcArgs), orderArgs a.d = none →
    (s.canCall o 0x060001 → ∃ t, exec (.setGroup o a) s = .next t ∧ t.told o St.badArg [] ∧ t.light = s.light) ∧
    (s.canCall o 0x060003 → ∃ t, exec (.setNode o a) s = .next t ∧ t.told o St.badArg [] ∧ t.light = s.light)) ∧
  (∀ (s : State) (o : Origin) (a : SvcArgs), s.canCall o 0x060007 → a.wa.toNat < 256 →
    ∃ t, exec (.overlayPresence o a) s = .next t ∧ t.told o St.done [] ∧ t.light = s.light ∧
      t.get (F.LGT_ZN_STAT_PROG.at a.wa.toNat) = a.wb.toNat % 2) ∧
  (∀ (s : State) (o : Origin) (a : SvcArgs) (x : Node), s.canCall o 0x060008 → a.wa.toNat < 4096 → s.node a.wa.toNat = some x →
    ∃ t, exec (.readStaging o a) s = .next t ∧ t.told o St.done (stagingView x) ∧ t.light = s.light ∧ t.regs = s.regs) ∧
  (∀ (s : State) (o : Origin) (a : SvcArgs), s.canCall o 0x060008 → a.wa.toNat < 4096 → s.node a.wa.toNat = none →
    ∃ t, exec (.readStaging o a) s = .next t ∧ t.told o St.nodeEmpty [] ∧ t.light = s.light)

/-- A service of the platform or of a node: REQ_STOP and REQ_BASIC wait for their mode, RETAIN_SAVE keeps the words of its commit, ABORT
ends a ticket that still can, LOG_EVENT enters the log, and a request to an associated node joins its queue, one to no node ends
(R66, R67, R145, R205, R206, R273, R597). -/
def Obligations.PlatformAndNodeServicesAct : Prop :=
  (∀ (s : State) (o : Origin) (a : SvcArgs), s.canCall o 0x000001 → s.mode = .run ∨ s.mode = .hold → s.lifeAllows .stop = true →
    ∃ t, exec (.reqStop o a) s = .next t ∧ t.told o St.pending [] ∧ t.mode = s.mode ∧
      t.frame.modeReqs = s.frame.modeReqs ++ [{ ev := .stop, by_ := o, at_ := s.num }]) ∧
  (∀ (s : State) (o : Origin) (a : SvcArgs), s.canCall o 0x000001 → s.mode = .stop → s.lifeAllows .stop = true →
    ∃ t, exec (.reqStop o a) s = .next t ∧ t.told o St.mode [] ∧ t.frame = s.frame) ∧
  (∀ (s : State) (o : Origin) (a : SvcArgs), s.canCall o 0x000002 → s.mode ≠ .basic →
    ∃ t, exec (.reqBasic o a) s = .next t ∧ t.told o St.pending [] ∧ t.mode = s.mode ∧
      t.frame.modeReqs = s.frame.modeReqs ++ [{ ev := .enterBasic, by_ := o, at_ := s.num }]) ∧
  (∀ (s : State) (o : Origin) (a : SvcArgs), s.canCall o 0x050002 →
    ∃ t, exec (.retainSave o a) s = .next t ∧ t.told o St.pending [] ∧ t.prog.saveDue = true ∧
      t.prog.saveBy = s.prog.saveBy ++ [o] ∧ t.prog.saveWords = s.retainedNow ∧ t.prog.areas = s.prog.areas) ∧
  (∀ (s : State) (k j n q : Nat) (a : SvcArgs) (x : Slot), s.canCall (.program k j n) 0x050001 → k < 4 → q < 255 → q ≠ j →
    0 < x.serial → x.serial < 65536 → a.wa.toNat = 64 * k * 2 ^ 24 + q * 2 ^ 16 + x.serial → x = SMap.getD (s.sect k).slots q {} →
    (x.st = .final → ∃ t, exec (.plxAbort (.program k j n) a) s = .next t ∧
      t.told (.program k j n) (if x.status = St.done then St.abortLate else St.aborted) []) ∧
    (x.st = .issued → ∃ t, exec (.plxAbort (.program k j n) a) s = .next t ∧ t.told (.program k j n) St.aborted [] ∧
      SMap.getD (t.sect k).slots q {} = { x with st := .final, status := St.aborted, result := [] })) ∧
  (∀ (s : State) (c q : Nat) (a : SvcArgs), s.canCall (.host c q) 0x050001 →
    ∃ t, exec (.plxAbort (.host c q) a) s = .next t ∧ t.told (.host c q) St.badArg [] ∧ t.onlyAnswers s) ∧
  (∀ (s : State) (o : Origin) (a : SvcArgs), s.canCall o 0x190001 → a.wa.toNat < 3 →
    (s.recs.queue.length < 256 → ∃ t r, exec (.logEvent o a) s = .next t ∧ t.told o St.done [] ∧
      t.recs.queue = s.recs.queue ++ [r] ∧ r.acc = nextAcc (s.get F.LOG_NEWEST_ACC) ∧ r.sev = a.wa.toNat ∧
      r.code = a.wb.toNat % 65536 ∧ r.payload = ((List.range 10).map fun k => leBytes 4 (a.d.getD k 0).toNat).flatten ∧
      r.source = (match o with | .program k _ _ => 0x80 + k | _ => 0x88)) ∧
    (256 ≤ s.recs.queue.length → ∃ t, exec (.logEvent o a) s = .next t ∧ t.told o St.busy [] ∧ t.recs = s.recs)) ∧
  (∀ (s : State) (o : Origin) (a : SvcArgs) (r i : Nat),
    (s.canCall o 0x070001 → a.wb.toNat ≤ 1 → a.wa.toNat < (if a.wb.toNat = 1 then 1024 else 4096) →
      s.assocOf a.wb.toNat a.wa.toNat = some (r, i) → ∃ t, exec (.nodeQuery o a) s = .next t ∧ t.told o St.pending [] ∧
        (t.assoc r i).txns = (s.assoc r i).txns ++
          [{ seq := ((s.assoc r i).seqD + 1) % 65536, op := 0x15, by_ := o, body := [] }]) ∧
    (s.canCall o 0x070002 → a.wa.toNat < 4096 → 0 < a.wb.toNat → a.wb.toNat ≤ 600 → s.assocOf 0 a.wa.toNat = some (r, i) →
      ∃ t, exec (.nodeIdentify o a) s = .next t ∧ t.told o St.pending [] ∧
        (t.assoc r i).txns = (s.assoc r i).txns ++
          [{ seq := ((s.assoc r i).seqD + 1) % 65536, op := 0x16, by_ := o, body := [a.wb.toNat] }]) ∧
    (s.canCall o 0x070003 → a.wa.toNat < 4096 → s.assocOf 0 a.wa.toNat = some (r, i) →
      ∃ t, exec (.nodeRestart o a) s = .next t ∧ t.told o St.pending [] ∧
        (t.assoc r i).txns = (s.assoc r i).txns ++
          [{ seq := ((s.assoc r i).seqD + 1) % 65536, op := 0x17, by_ := o, body := [] }]) ∧
    (s.canCall o 0x070003 → a.wa.toNat < 4096 → s.assocOf 0 a.wa.toNat = none →
      ∃ t, exec (.nodeRestart o a) s = .next t ∧ t.told o 0x0702 [] ∧ t.net = s.net))

/-- A tag that leaves its window is closed or withdrawn, and a withdrawn change is decided again with its own lead; a node that does not
report becomes discrepant and is caught up, one whose temperature is old is compensated no more; a calibration record is stored
only when it is valid; and the windows latch a node as the last boundary left it (R213, R214, R217, R242, R243, R254, R256, R257). -/
def Obligations.TagsNodesAndWindowsKeepTheirRules : Prop :=
  (∀ (s : State) (tag : Nat), s.get F.LGT_GRACE_GRACE < s.num + 1 - tag → (∃ x ∈ s.light.tags, x.tag = tag ∧ x.st = .effective) →
    ∃ t, exec (.commitFrameClose tag) s = .next t ∧
      t.light = { s.light with
        tags := s.light.tags.filter fun x => x.tag ≠ tag
        excl := s.light.excl.filter fun x => x.tag ≠ tag } ∧ { t with light := s.light, out := s.out } = s) ∧
  (∀ (s : State) (tag : Nat), s.num + 1 - tag ≤ s.get F.LGT_GRACE_GRACE →
    (∃ t, exec (.commitFrameClose tag) s = .next t ∧ { t with out := s.out } = s) ∧
    (∃ t, exec (.commitFrameWithdraw tag) s = .next t ∧ { t with out := s.out } = s)) ∧
  (∀ (s : State) (tag : Nat), s.get F.LGT_GRACE_GRACE < s.num + 1 - tag → (∃ x ∈ s.light.tags, x.tag = tag ∧ x.st = .deferred) →
    ∃ t, exec (.commitFrameWithdraw tag) s = .next t ∧
      t.get F.LGT_CNT1_WITHDRAWN = min 255 (s.get F.LGT_CNT1_WITHDRAWN + 1) ∧
      ∀ c ∈ s.light.changes, if c.tag = tag then
        ({ c with tag := s.num + s.leadOf c.lead, at_ := s.num } ∈ t.light.changes) else c ∈ t.light.changes) ∧
  (∀ (s : State) (i : Nat) (x : Node), s.node i = some x →
    s.past (Nat.max x.repAt x.waitAt + s.get F.LGT_CONF_WAIT * frameNs) = true → s.localOf i = none →
    ∃ t y, exec (.reportWaitExpiry i) s = .next t ∧ t.node i = some y ∧ y.disc = true ∧
      (s.light.running = true → x.catchAt = none → x.stuck = false → x.tries < s.get F.LGT_GRACE_TRIES →
        y.catchAt = some (s.num + s.get F.LGT_GRACE_CATCHUP) ∧ y.tries = x.tries + 1) ∧
      (s.light.running = true → x.catchAt = none → x.stuck = false → s.get F.LGT_GRACE_TRIES ≤ x.tries → y.stuck = true)) ∧
  (∀ (s : State) (i : Nat) (x : Node), s.node i = some x →
    (s.past (x.tempAt + s.get F.LGT_COMP_TEMP_AGE * 1000000000) = true →
      ∃ t, exec (.tempAgeExpiry i) s = .next t ∧ t.node i = some { x with tempStale := true } ∧
        ({ x with tempStale := true } : Node).dT = 0) ∧
    (s.past (x.tempAt + s.get F.LGT_COMP_TEMP_AGE * 1000000000) = false →
      ∃ t, exec (.tempAgeExpiry i) s = .next t ∧ { t with out := s.out } = s)) ∧
  (∀ (s : State) (who : Requester) (w : Word) (i : Nat) (x : Node), s.mayWrite who → i = w.toNat % 4096 → s.node i = some x →
    (calOk (s.latched Win.cal who.key) = true → ∃ t, exec (.calStore who w) s = .next t ∧
      t.node i = some { x with cal := s.latched Win.cal who.key, nocal := false, newCal := true, calSend := true } ∧
      t.get F.LGT_CSTAT_STATUS = St.done) ∧
    (calOk (s.latched Win.cal who.key) = false → ∃ t, exec (.calStore who w) s = .next t ∧ t.light = s.light ∧
      t.get F.LGT_CSTAT_STATUS = St.calInvalid) ∧
    (x.cal ≠ [] → ∃ t, exec (.calLoad who w) s = .next t ∧ t.latched Win.cal who.key = x.cal ∧ t.light = s.light)) ∧
  (∀ (s : State) (who : Requester) (w : Word) (i : Nat), s.mayWrite who → i = w.toNat % 4096 →
    (∃ t, exec (.lgtNsel who w) s = .next t ∧ t.get F.LGT_NSEL_NODE = i ∧ t.light = s.light ∧
      t.latched Win.node who.key = (match SMap.get? s.light.image i with
        | some x => nodeImage s x
        | none => List.replicate 32 0)) ∧
    (∃ t, exec (.lgtSsel who w) s = .next t ∧ t.get F.LGT_SSEL_NODE = i ∧ t.light = s.light ∧
      t.latched Win.staging who.key = (match SMap.get? s.light.image i with
        | some x => stagingView x
        | none => List.replicate 40 0)))

/-- Each scheduled frame of a radio is sent once, in its frame and only there: beacon and map announcement in frame 0, exclusions in
frames 1 to 9, the commit frame with the tags it names, and the stop frame in frames 0 and 5; a changed map is checked, announced, and
takes effect at a frame 0 (R269 to R271, R274 to R277, R304, R305).
A command whose own condition does not hold changes nothing: log entry 8. -/
def Obligations.RadiosSendTheirScheduledFrames : Prop :=
  (∀ (s : State) (r : Nat), s.hasSlot r → s.radioOn r = true → s.num % 10 = 0 → s.frame.transitional = false →
    (0 ∉ (s.radio r).sent → s.frame.off ≤ 1000 * s.beaconStart r + 2000 → ∃ t flags, exec (.beaconTx r) s = .next t ∧
      0 ∈ (t.radio r).sent ∧ (t.radio r).cells = s.sharedCells r (s.beaconEnd r) ∧
      t.sent .beacon ((r : Int) :: s.beaconStart r :: scheduled 0 (leBytes 2 (s.get (F.RAD_CFG_NETID.at r)) ++
        leBytes 4 (s.radio r).e ++ leBytes 6 s.num ++ [s.get F.LGT_STAT_EPOCH % 256, flags, s.nextChannel r (s.lastMapann r),
          s.sharedCells r (s.beaconEnd r), (s.radio r).exclusions.length] ++ s.exclusionOctets r))) ∧
    (0 ∈ (s.radio r).sent ∨ 1000 * s.beaconStart r + 2000 < s.frame.off → s.idle (.beaconTx r))) ∧
  (∀ (s : State) (r : Nat), s.num % 10 ≠ 0 ∨ s.radioOn r = false → s.idle (.beaconTx r) ∧ s.idle (.mapannTx r)) ∧
  (∀ (s : State) (r xc : Nat), s.hasSlot r → s.commitDue r = true → 1 ∉ (s.radio r).sent → s.frame.off ≤ 7102000 →
    xc = (s.radio r).exclusions.length →
    ∃ t, exec (.commitFrameTx r) s = .next t ∧ 1 ∈ (t.radio r).sent ∧
      t.sent .commitFrame ((r : Int) :: 7100 :: scheduled 1 (leBytes 4 s.num ++ [s.get F.LGT_STAT_EPOCH % 256] ++
        leBytes 2 (1024 * s.get F.LGT_GRACE_GRACE + 32 * xc) ++ leBytes 8 (sumN ((s.namedOn r).map fun x => 2 ^ (s.num + 1 - x))) ++
        leBytes 2 (s.radio r).sser ++ leBytes 2 (crc32c (xc :: s.exclusionOctets r) % 65536)))) ∧
  (∀ (s : State) (r : Nat), s.commitDue r = false → s.idle (.exclusionTx r) ∧ s.idle (.commitFrameTx r)) ∧
  (∀ (s : State) (r : Nat), 7102000 < s.frame.off → s.idle (.exclusionTx r) ∧ s.idle (.commitFrameTx r)) ∧
  (∀ (s : State) (r us : Nat), s.hasSlot r → s.commitDue r = true → s.num % 10 ≠ 0 → (s.radio r).exclusions ≠ [] →
    2 ∉ (s.radio r).sent → us = 7050 - airTime (s.phy r) (8 + 3 * (s.radio r).exclusions.length) → s.frame.off ≤ 1000 * us + 2000 →
    ∃ t, exec (.exclusionTx r) s = .next t ∧ 2 ∈ (t.radio r).sent ∧
      t.sent .exclusionFrame ((r : Int) :: us :: scheduled 2 ((s.radio r).exclusions.length :: s.exclusionOctets r))) ∧
  (∀ (s : State) (r c us : Nat), s.hasSlot r → s.radioOn r = true → s.num % 10 = 0 → (s.radio r).chgPending = true →
    (s.radio r).chgSilent = false → (s.radio r).chgAt = none → 4 ∉ (s.radio r).sent →
    c = (if (s.radio r).sent.contains 0 then (s.radio r).cells else 0) → s.mapFits r (s.beaconEnd r) c = true →
    us = s.cellsEnd r (s.beaconEnd r) c + 250 → s.frame.off ≤ 1000 * us + 2000 → s.endsInTime us (us + airTime (s.phy r) 24) = true →
    ∃ t, exec (.mapannTx r) s = .next t ∧ t.sent .mapannFrame ((r : Int) :: us :: scheduled 4 ([(s.radio r).remain] ++
        leBytes 4 (s.radio r).newMapLo ++ leBytes 4 (s.radio r).newMapHi ++ leBytes 2 (s.radio r).newSeed ++ [(s.radio r).newHop] ++
        leBytes 2 (s.get (F.RAD_MAPCHG_VERSION.at r) + 1))) ∧
      (if (s.radio r).remain = 0 then (t.radio r).chgAt = some (s.radio r).e
        else (t.radio r).remain = (s.radio r).remain - 1 ∧ (t.radio r).chgAt = none)) ∧
  (∀ (s : State) (r : Nat), s.hasSlot r → s.stopRadio = some r → s.num % 5 = 0 →
    s.radioOn r = true ∨ (s.live = true ∧ s.mode = .basic ∧ s.get (F.RAD_CFG_EN.at r) ≠ 0) → s.mute = false →
    s.keys.zeroised = false → 3 ∉ (s.radio r).sent → s.frame.off ≤ 252000 → s.endsInTime 250 (250 + airTime (s.phy r) 18) = true →
    ∃ t, exec .stopFrameTx s = .next t ∧ t.net.stopCount = (s.net.stopCount + 1) % 2 ^ 32 ∧
      t.sent .stopFrame ((r : Int) :: 250 :: scheduled 3 ([s.stopState false] ++ leBytes 4 ((s.net.stopCount + 1) % 2 ^ 32) ++
        leBytes 6 s.num))) ∧
  (∀ (s : State), s.mute = true ∨ s.keys.zeroised = true ∨ s.num % 5 ≠ 0 ∨ s.stopRadio = none ∨ 252000 < s.frame.off →
    s.idle .stopFrameTx) ∧
  (∀ (s : State) (who : Requester) (r : Nat) (w : Word), s.mayWrite who → s.hasSlot r → w.toNat / 2 ^ 31 = 1 →
    (s.radio r).chgPending = false →
    if mapValid (s.phy r) (s.get (F.RAD_CHMAP_LO_MAP.at r)) (s.get (F.RAD_CHMAP_HI_MAP.at r)) (s.get (F.RAD_HOP_STEP.at r)) = true
    then ∃ t, exec (.mapchgApply who r w) s = .next t ∧ t.out = [⟨.value, [(who.key : Int), St.done]⟩] ∧
      t.radio r = { s.radio r with
        newMapLo := s.get (F.RAD_CHMAP_LO_MAP.at r), newMapHi := s.get (F.RAD_CHMAP_HI_MAP.at r)
        newSeed := s.get (F.RAD_HOP_SEED.at r), newHop := s.get (F.RAD_HOP_STEP.at r), chgPending := true
        chgSilent := decide (s.mode = .stop), remain := if s.mode = .stop then 0 else 7
        chgAt := if s.mode = .stop then some (s.radio r).e else none }
    else ∃ t, exec (.mapchgApply who r w) s = .next t ∧ t.out = [⟨.value, [(who.key : Int), 0x0801]⟩] ∧
      { t with out := s.out } = s) ∧
  (∀ (s : State) (r e0 : Nat), s.hasSlot r → (s.radio r).chgAt = some e0 →
    (s.num % 10 = 0 → e0 ≠ (s.radio r).e → ∃ t, exec (.mapChangeEffect r) s = .next t ∧
      t.radio r = { s.radio r with
        mapLo := (s.radio r).newMapLo, mapHi := (s.radio r).newMapHi, seed := (s.radio r).newSeed, hop := (s.radio r).newHop
        chgPending := false, chgSilent := false, remain := 0, chgAt := none
        assocs := (s.radio r).assocs.map fun p =>
          (p.1, { p.2 with mapVer := (s.get (F.RAD_MAPCHG_VERSION.at r) + 1) % 65536 }) } ∧
      t.get (F.RAD_MAPCHG_VERSION.at r) = (s.get (F.RAD_MAPCHG_VERSION.at r) + 1) % 65536) ∧
    (s.num % 10 ≠ 0 ∨ e0 = (s.radio r).e → s.idle (.mapChangeEffect r)))

/-- An association is made and ends: a node that has a slot takes the lowest free index, is confirmed under a new session while its older
associations end, and goes to quarantine when it is silent for the supervision time; an index that has waited its time is free again
(R266, R282 to R285, Table 06.11).
A command whose own condition does not hold changes nothing: log entry 8. -/
def Obligations.AssociationsAreMadeAndEnd : Prop :=
  (∀ (s : State) (r serial kind nonce d p i : Nat) (sl : Bool × Nat), s.hasSlot r → s.joinDepth r = some (d, p) → s.radioOn r = true →
    s.joinOk r serial kind = true → s.slotOf serial = some sl →
    (∀ a ∈ SMap.vals (s.radio r).assocs, ¬ (a.st = 1 ∧ a.serial = serial)) → i < assocMax r → (s.assoc r i).st = 0 →
    (∀ j, j < i → (s.assoc r j).st ≠ 0) →
    ∃ t, exec (.joinReq r serial kind nonce) s = .next t ∧
      t.assoc r i = {
        st := 1, serial := serial, sleeper := kind % 2 = 1, sensor := sl.1, depth := d, slot := sl.2
        relay := s.net.relays.contains serial, parent := p, nonce := nonce, since := (s.radio r).e, heard := (s.radio r).e } ∧
      (∀ j, j ≠ i → t.assoc r j = s.assoc r j) ∧ { t with net := s.net, out := s.out } = s) ∧
  (∀ (s : State) (r serial kind nonce d p : Nat), s.joinDepth r = some (d, p) → s.radioOn r = true → s.joinOk r serial kind = false →
    ∃ t, exec (.joinReq r serial kind nonce) s = .next t ∧ t.net = s.net ∧
      t.get F.NET_CNT2_REFUSED = min 255 (s.get F.NET_CNT2_REFUSED + 1)) ∧
  (∀ (s : State) (r i : Nat) (a : Assoc), s.hasSlot r → s.radioOn r = true → a = s.assoc r i → a.st = 1 →
    ∃ t, exec (.joinConfirm r i true true) s = .next t ∧ (t.assoc r i).st = 2 ∧ (t.assoc r i).serial = a.serial ∧
      (t.assoc r i).sess = (SMap.getD s.net.sessNo (a.slot + if a.sensor then 4096 else 0) 0 + 1) % 65536 ∧
      (∀ q j, q < 6 → (q, j) ≠ (r, i) → (s.assoc q j).serial = a.serial → (s.assoc q j).st = 1 ∨ (s.assoc q j).st = 2 →
        (t.assoc q j).st = 3) ∧
      t.get F.NET_CNT2_JOINS = min 255 (s.get F.NET_CNT2_JOINS + 1) ∧
      ((t.assoc r i).acceptDue = true ∨ ∃ (us n : Nat) (l : List Nat), t.sent .dataFrame ((r : Int) :: us :: longForm 12 a.serial n l))) ∧
  (∀ (s : State) (r i : Nat) (good nonces : Bool), s.radioOn r = false ∨ (good = true ∧ ((s.assoc r i).st ≠ 1 ∨ nonces = false)) →
    s.idle (.joinConfirm r i good nonces)) ∧
  (∀ (s : State) (r i : Nat) (nonces : Bool), s.hasSlot r → s.radioOn r = true →
    ∃ t, exec (.joinConfirm r i false nonces) s = .next t ∧ t.net = s.net ∧
      t.get (F.RAD_CNT0_MIC_FAIL.at r) = min 65535 (s.get (F.RAD_CNT0_MIC_FAIL.at r) + 1)) ∧
  (∀ (s : State) (r i : Nat) (a : Assoc), s.hasSlot r → a = s.assoc r i →
    (a.st = 1 → 100 ≤ s.eSince r a.since → ∃ t, exec (.joinTimeout r i) s = .next t ∧ t.assoc r i = {}) ∧
    (a.st = 3 → 100 * s.get F.NET_SUPV_SUPV ≤ s.eSince r a.since →
      ∃ t, exec (.quarantineExpiry r i) s = .next t ∧ t.assoc r i = {}) ∧
    (a.st = 2 → s.radioOn r = true → 100 * s.get F.NET_SUPV_SUPV ≤ s.eSince r a.heard →
      ∃ t, exec (.supervisionTimeout r i) s = .next t ∧ t.assoc r i = { a with st := 3, since := (s.radio r).e } ∧
        t.get F.NET_CNT3_DROPS = min 65535 (s.get F.NET_CNT3_DROPS + 1) ∧
        (a.sensor = false → ∀ x, s.node a.slot = some x → x.radio = r → x.assoc = i →
          ∃ y, t.node a.slot = some y ∧ y.online = false ∧ y.disc = true)) ∧
    (a.st ≠ 1 ∨ s.eSince r a.since < 100 → s.idle (.joinTimeout r i)) ∧
    (a.st ≠ 3 ∨ s.eSince r a.since < 100 * s.get F.NET_SUPV_SUPV → s.idle (.quarantineExpiry r i)) ∧
    (a.st ≠ 2 ∨ s.eSince r a.heard < 100 * s.get F.NET_SUPV_SUPV → s.idle (.supervisionTimeout r i)))

/-- What a node sends is judged before it acts: its frame by options, MIC and session, a notification by its sequence, a response by its
request; a sensor's values, a lamp's report, a relayed hop and a sleeping node's clock drift are then taken (R255, R267, R280, R287
to R290, R294, R295, R297, R298).
A command whose own condition does not hold changes nothing: log entry 8. -/
def Obligations.NodesAreHeardOnce : Prop :=
  (∀ (s : State) (r : Nat) (f : RxFrame), s.hasSlot r → s.radioHears r = true → f.noise = false →
    (f.phyOk = false ∨ maxPsdu r < f.len → ∃ t, exec (.frameRx r f) s = .next t ∧ t.net = s.net ∧
      t.get (F.RAD_CNT0_PHY_ERR.at r) = min 65535 (s.get (F.RAD_CNT0_PHY_ERR.at r) + 1)) ∧
    (f.phyOk = true → f.len ≤ maxPsdu r → f.micOk = false ∨ f.typ = 15 ∨ f.ver ≠ 1 → ∃ t, exec (.frameRx r f) s = .next t ∧ t.net = s.net ∧
      t.get (F.RAD_CNT0_MIC_FAIL.at r) = min 65535 (s.get (F.RAD_CNT0_MIC_FAIL.at r) + 1)) ∧
    (f.phyOk = true → f.len ≤ maxPsdu r → f.micOk = true → f.ver = 1 → f.typ = 7 → (s.assoc r f.index).st = 2 → f.sess = (s.assoc r f.index).sess →
      ∃ t, exec (.frameRx r f) s = .next t ∧ (t.assoc r f.index).heard = (s.radio r).e ∧
        (t.assoc r f.index).rssi = f.rssi % 256 ∧
        (∀ a b : Nat, f.ackReq = true → s.radioOn r = true → a = s.usNow + ackTurn r → b = a + airTime (s.phy r) 5 →
          timeFree (s.positions r) a b = true → b ≤ 9850 → s.endsInTime a b = true →
          t.sent .ackFrame [(r : Int), a, f.index, (fcOctet 5 false false : Nat), (f.seq % 256 : Nat), 0]))) ∧
  (∀ (s : State) (r i sess q flags sent : Nat) (vals : List Nat) (a : Assoc) (x : Sensor), s.hasSlot r → a = s.assoc r i →
    s.radioOn r = true → a.st = 2 → a.sensor = true → SMap.get? s.net.sensors a.slot = some x →
    (sess = a.sess → a.classify q = .fresh →
      ∃ t, exec (.nodeReport r i sess q (.sensor sent flags vals)) s = .next t ∧
        (SMap.getD t.net.sensors a.slot {}).values = (List.range 6).map (fun k => vals.getD k 0 % 65536) ∧
        (SMap.getD t.net.sensors a.slot {}).stale = false ∧ q % 65536 ∈ (t.assoc r i).upSeen) ∧
    (sess = a.sess → a.classify q = .repeated →
      ∃ t, exec (.nodeReport r i sess q (.sensor sent flags vals)) s = .next t ∧ t.net.sensors = s.net.sensors ∧
        t.get F.NET_CNT1_DUPLICATES = min 65535 (s.get F.NET_CNT1_DUPLICATES + 1)) ∧
    (sess ≠ a.sess ∨ a.classify q = .stale →
      ∃ t, exec (.nodeReport r i sess q (.sensor sent flags vals)) s = .next t ∧ t.net.sensors = s.net.sensors ∧
        t.get F.NET_CNT1_STALE = min 65535 (s.get F.NET_CNT1_STALE + 1))) ∧
  (∀ (s : State) (r i q : Nat) (l : LampRep) (a : Assoc) (x : Node), s.hasSlot r → a = s.assoc r i → s.radioOn r = true →
    a.st = 2 → a.sensor = false → s.node a.slot = some x → a.classify q = .fresh →
    ∃ t y, exec (.nodeReport r i a.sess q (.lamp l)) s = .next t ∧ t.node a.slot = some y ∧ y.rep = some l ∧ y.repAt = s.mono ∧
      y.sstate = l.sstate ∧ y.nfault = l.faults % 64) ∧
  (∀ (s : State) (r i q info : Nat) (x : Txn), s.hasSlot r → s.radioOn r = true → (s.assoc r i).txn q = some x → x.firstAt.isSome = true →
    ∃ t, exec (.ackRx r i q info) s = .next t ∧ (t.assoc r i).txn q = some { x with acked := true, lastAt := (s.radio r).e }) ∧
  (∀ (s : State) (r i q status : Nat) (body : List Nat) (x : Txn) (a : Assoc), s.hasSlot r → s.radioOn r = true → a = s.assoc r i →
    a.st = 2 → a.txn q = some x → x.firstAt.isSome = true → s.txnExpired r x = false → x.op = 0x15 → s.awaits x.by_ →
    ∃ t, exec (.nodeResponse r i a.sess q status body) s = .next t ∧ (t.assoc r i).txn q = none ∧
      t.ended x.by_ (if status = 0 then St.done else 0x0705)
        (if status = 0 then (List.range 16).map (fun k => body.getD k 0 % 2 ^ 32) else [status % 65536])) ∧
  (∀ (s : State) (r i q status : Nat) (body : List Nat) (a : Assoc), s.hasSlot r → s.radioOn r = true → a = s.assoc r i →
    a.st = 2 → a.txn q = none →
    ∃ t, exec (.nodeResponse r i a.sess q status body) s = .next t ∧
      t.get F.NET_CNT0_LATE = min 65535 (s.get F.NET_CNT0_LATE + 1) ∧ t.light = s.light) ∧
  (∀ (s : State) (r i q first last : Nat) (a : Assoc), s.hasSlot r → s.radioOn r = true → a = s.assoc r i → a.st = 2 →
    a.classify q = .fresh → a.sensor = true →
    ∃ t, exec (.nack r i a.sess q first last) s = .next t ∧ t.light = s.light ∧
      t.get F.NET_CNT2_NACKS = min 65535 (s.get F.NET_CNT2_NACKS + 1)) ∧
  (∀ (s : State) (r i octets : Nat) (a : Assoc), s.hasSlot r → s.radioOn r = true → s.get (F.RAD_CFG_RELAY_EN.at r) ≠ 0 →
    a = s.assoc r i → a.st = 2 → a.depth ≠ 0 → 14 + octets ≤ maxPsdu r →
    (∀ us, s.sheds r 2 = false → s.freeFrom r s.usNow (airTime (s.phy r) (14 + octets)) 9850 = some us →
      ∃ t, exec (.relay r i true octets) s = .next t ∧
      t.sent .relayFrame [(r : Int), us, a.parent, i, (s.radio r).nextFcnt.fcnt, octets]) ∧
    (∃ t, exec (.relay r i false octets) s = .next t ∧ (t.assoc r i).heard = (s.radio r).e ∧
      (t.assoc r a.parent).heard = (s.radio r).e)) ∧
  (∀ (s : State) (r i octets span : Nat) (search : Option Nat) (delta off rr : Int) (a : Assoc), s.hasSlot r →
    s.radioHears r = true → a = s.assoc r i → s.ownsCell r a = true → octets ≤ 36 →
    span = 10 * s.eSince r (search.getD a.eSync) → 0 < span → off = delta * 1000 - a.ePpm * span → rr = rdiv off span →
    (off.natAbs ≤ min (16000 * s.get (F.RAD_SLEEP_G0.at r) + a.bPpm * span) (16000 * s.get (F.RAD_SLEEP_GMAX.at r)) →
      ∃ t, exec (.sleepUplink r i delta octets search) s = .next t ∧ (t.assoc r i).misses = 0 ∧
        t.get F.NET_CNT3_DRIFT_MISS = (if search.isSome then min 65535 (s.get F.NET_CNT3_DRIFT_MISS + 1) else s.get F.NET_CNT3_DRIFT_MISS) ∧
        (t.assoc r i).ePpm = clampI (-32768) 32767 (a.ePpm + rdiv rr 8) ∧
        (t.assoc r i).bPpm = min 65535 (max (s.get (F.RAD_SLEEP_BMIN.at r)) (max (a.bPpm - a.bPpm / 16) (2 * rr.natAbs)))) ∧
    (min (16000 * s.get (F.RAD_SLEEP_G0.at r) + a.bPpm * span) (16000 * s.get (F.RAD_SLEEP_GMAX.at r)) < off.natAbs →
      s.idle (.sleepUplink r i delta octets search))) ∧
  (∀ (s : State) (r i octets : Nat) (delta : Int) (search : Option Nat), 36 < octets ∨ s.ownsCell r (s.assoc r i) = false →
    s.idle (.sleepUplink r i delta octets search)) ∧
  (∀ (s : State) (k : Nat) (x : Sensor), SMap.get? s.net.sensors k = some x → x.ever = true →
    s.past (x.repAt + 3 * s.sensorPeriod k) = true →
    ∃ t, exec (.sensorReportStale k) s = .next t ∧ (SMap.getD t.net.sensors k {}).stale = true)

/-- A request to a node is sent when its frame has room, repeated until it is acknowledged or its repeats are used up, sent again when its
response does not come, and ends TIMEOUT at its boundary; a campaign ends at its activation frame (R289 to R293, R297, R299, R301,
R302).
A command whose own condition does not hold changes nothing: log entry 8. -/
def Obligations.RequestsAreRepeatedUntilTheyEnd : Prop :=
  (∀ (s : State) (r i q us : Nat) (x : Txn) (a : Assoc), s.hasSlot r → s.radioOn r = true → a = s.assoc r i → a.st = 2 →
    s.freeFrom r s.usNow (airTime (s.phy r) x.octets) (s.hearsBy a) = some us → a.txn q = some x → x.firstAt = none → countP (fun y => y.firstAt.isSome) a.txns < 4 → 
    (x.op = 0x1A → ∃ f, (s.campaign r).frame = some f ∧ s.num + s.get F.LGT_LEAD_FRAMES + 100 ≤ f) → s.sheds r x.rank = false →
    ∃ t, exec (.dataRegionTx r (.txn i q)) s = .next t ∧
      (t.assoc r i).txn q = some { x with
        firstAt := some (s.radio r).e, lastAt := (s.radio r).e, fcnt := (s.radio r).nextFcnt.fcnt } ∧
      t.sent .dataFrame ((r : Int) :: us :: assocForm 7 true 0 i (s.radio r).nextFcnt.fcnt (leBytes 2 a.sess ++ leBytes 2 x.seq ++
        [x.op % 64] ++ x.bodyOctets))) ∧
  (∀ (s : State) (r i start us : Nat) (a : Assoc), s.hasSlot r → s.radioOn r = true → a = s.assoc r i → a.st = 2 → a.sleeper = false →
    start < 8192 → s.sheds r 3 = false →
    (s.grantDue r i = true → s.freeFrom r s.usNow (airTime (s.phy r) 18) (2 * start) = some us →
      (s.takeTime r us (us + airTime (s.phy r) 18)).grantFits r start = true →
      ∃ t, exec (.dataRegionTx r (.grant i start)) s = .next t ∧ (t.assoc r i).pendingUp = false ∧
        t.sent .dataFrame ((r : Int) :: us :: assocForm 6 false 2 0 (s.radio r).nextFcnt.fcnt (1 :: leBytes 3 (8192 * i + start)))) ∧
    (s.grantDue r i = false → ∃ t, exec (.dataRegionTx r (.grant i start)) s = .next t ∧ t.net = s.net)) ∧
  (∀ (s : State) (r us k : Nat) (l data : List Nat), s.hasSlot r → s.radioOn r = true → (s.campaign r).st = 1 →
    (s.campaign r).todo = k :: l → l ≠ [] → s.campaignWaits r 0x18 = false → s.sheds r 1 = false →
    data = ((s.campaign r).image.drop (k * blockSize r)).take (blockSize r) →
    s.freeFrom r s.usNow (airTime (s.phy r) (20 + data.length)) 9850 = some us →
    ∃ t, exec (.dataRegionTx r .block) s = .next t ∧ (t.campaign r).todo = l ∧ (t.campaign r).st = 1 ∧
      t.sent .dataFrame ((r : Int) :: us :: assocForm 13 false 1 1023 (s.radio r).nextFcnt.fcnt
        (leBytes 2 k ++ data ++ leBytes 4 (crc32c data)))) ∧
  (∀ (s : State) (r i q : Nat) (x : Txn) (e0 : Nat), s.hasSlot r → s.radioOn r = true → (s.assoc r i).txn q = some x →
    x.firstAt = some e0 → s.txnExpired r x = false →
    (∀ us, s.freeFrom r s.usNow (airTime (s.phy r) x.octets) (s.hearsBy (s.assoc r i)) = some us → x.acked = false → x.repeats < s.get F.NET_MAC_RETRIES → s.get F.NET_MAC_SPACING ≤ s.eSince r x.lastAt →
      s.sheds r x.rank = false → ∃ t, exec (.macRepeat r i q) s = .next t ∧
        (t.assoc r i).txn q = some { x with repeats := x.repeats + 1, lastAt := (s.radio r).e } ∧
        t.sent .dataFrame ((r : Int) :: us :: assocForm 7 true 0 i x.fcnt (x.payload (s.assoc r i).sess)) ∧
        t.get (F.RAD_CNT2_RETRIES.at r) = min 65535 (s.get (F.RAD_CNT2_RETRIES.at r) + 1)) ∧
    (x.acked = true ∨ s.get F.NET_MAC_RETRIES ≤ x.repeats → s.idle (.macRepeat r i q)) ∧
    (∀ us, s.freeFrom r s.usNow (airTime (s.phy r) x.octets) (s.hearsBy (s.assoc r i)) = some us →
      x.acked = true ∨ s.get F.NET_MAC_RETRIES ≤ x.repeats → s.get F.NET_TXN_RESEND ≤ s.eSince r x.lastAt → s.sheds r x.rank = false →
      ∃ t, exec (.txnResend r i q) s = .next t ∧
        (t.assoc r i).txn q = some { x with
          repeats := 0, acked := false, lastAt := (s.radio r).e, fcnt := (s.radio r).nextFcnt.fcnt }) ∧
    (s.eSince r x.lastAt < s.get F.NET_TXN_RESEND → s.idle (.txnResend r i q)) ∧
    s.idle (.txnTimeout r i q)) ∧
  (∀ (s : State) (r i q : Nat) (x : Txn), s.hasSlot r → (s.assoc r i).txn q = some x → s.txnExpired r x = true → s.awaits x.by_ →
    (∀ p, (s.campaign p).by_ ≠ x.by_) →
    ∃ t, exec (.txnTimeout r i q) s = .next t ∧ t.ended x.by_ St.timeout [] ∧
      t.get F.NET_CNT0_TIMEOUTS = min 65535 (s.get F.NET_CNT0_TIMEOUTS + 1)) ∧
  (∀ (s : State) (r f : Nat), (s.campaign r).frame = some f → (s.campaign r).st = 3 → f ≤ s.num →
    ∃ t, exec (.campaignActivation r) s = .next t ∧ (t.campaign r).st = 4 ∧ (t.campaign r).image = []) ∧
  (∀ (s : State) (r : Nat), (s.campaign r).st ≠ 3 → s.idle (.campaignActivation r))

/-- A tick of the loop engine moves on through its frame; a closed, unfaulted loop gives its clipped sum of the four terms, each saturated;
loops open and close bumplessly and take coefficients only while they are open, and setpoints at any time (R321, R323, R329 to
R332, R335, Table 07.2).
A command whose own condition does not hold changes nothing: log entry 8. -/
def Obligations.LoopsAreSetAndSampled : Prop :=
  (∀ (s : State) (i : TickIn), s.live = true → s.issued 125000 s.drv.tick = true →
    ∃ t, exec (.loopTick i) s = .next t ∧ t.drv.tick = s.drv.tick + 1 ∧ t.prog.areas = s.prog.areas ∧
      t.drv.axesDue = some (s.drv.tick, [0, 1].filter fun e => !s.tickMissed 7 e) ∧
      t.get F.LOP_LOAD_L0 = min 65535 (max (s.get F.LOP_LOAD_L0) i.us0)) ∧
  (∀ (s : State) (i : TickIn), s.live = false ∨ s.issued 125000 s.drv.tick = false → s.idle (.loopTick i)) ∧
  (∀ (s : State) (l : Nat) (pv ff e p d f sum i v : Int) (x : LoopSt), l < 64 → x = s.loop l → x.preload = false → s.innerOf l = none →
    e = (satI (x.sp - pv)).1 → p = (satI (asr16 (s.getI (F.LOP_KP_K.at l) * e))).1 →
    d = (satI (asr16 (s.getI (F.LOP_KD_K.at l) * (x.pvPrev - pv)))).1 → f = (satI (asr16 (s.getI (F.LOP_KF_K.at l) * ff))).1 →
    sum = (satI (x.i + (satI (asr16 (s.getI (F.LOP_KI_K.at l) * e))).1)).1 → i = clampI (s.imin l) (s.imax l) sum →
    v = (satI (p + i + d + f)).1 →
    ((s.closedSample l pv ff).loop l).i = i ∧ ((s.closedSample l pv ff).loop l).v = v ∧
      ((s.closedSample l pv ff).loop l).u = clampI (s.omin l) (s.omax l) v ∧ ((s.closedSample l pv ff).loop l).pvPrev = pv) ∧
  (∀ (s : State) (o : Origin) (a : SvcArgs) (x : LoopSt), a.wa.toNat < 64 → x = s.loop a.wa.toNat →
    (s.canCall o 0x0A0001 → ∃ t, exec (.loopOpen o a) s = .next t ∧ t.told o St.done [] ∧
      t.loop a.wa.toNat = if x.closed then { x with closed := false, held := x.u } else x) ∧
    (s.canCall o 0x0A0002 → s.mode = .run ∨ s.mode = .hold → ∃ t, exec (.loopClose o a) s = .next t ∧ t.told o St.done [] ∧
      t.loop a.wa.toNat = if x.closed then x else { x with closed := true, preload := true, safeOpen := false }) ∧
    (s.canCall o 0x0A0002 → s.mode = .stop → ∃ t, exec (.loopClose o a) s = .next t ∧ t.told o St.mode [] ∧ t.drv = s.drv) ∧
    (∀ f, s.canCall o 0x0A0003 → coefField a.wb.toNat = some f → x.closed = false →
      ∃ t, exec (.setCoef o a) s = .next t ∧ t.told o St.done [] ∧ t.get (f.at a.wa.toNat) = (a.d.getD 0 0).toNat ∧ t.drv = s.drv) ∧
    (∀ f, s.canCall o 0x0A0003 → coefField a.wb.toNat = some f → x.closed = true →
      ∃ t, exec (.setCoef o a) s = .next t ∧ t.told o St.loopClosed [] ∧ t.regs = s.regs) ∧
    (s.canCall o 0x0A0004 → ∃ t, exec (.setSp o a) s = .next t ∧ t.told o St.done [] ∧
      t.get (F.LOP_SP_SP.at a.wa.toNat) = a.wb.toNat ∧ t.drv = s.drv)) ∧
  (∀ (s : State) (who : Requester) (l : Nat) (x : LoopSt), s.mayWrite who → l < 64 → x = s.loop l →
    (∃ t, exec (.lopOpen who l) s = .next t ∧ t.out = [⟨.value, [(who.key : Int), St.done]⟩] ∧
      t.loop l = if x.closed then { x with closed := false, held := x.u } else x) ∧
    (s.mode = .run ∨ s.mode = .hold → ∃ t, exec (.lopClose who l) s = .next t ∧
      t.out = [⟨.value, [(who.key : Int), St.done]⟩] ∧
      t.loop l = if x.closed then x else { x with closed := true, preload := true, safeOpen := false }) ∧
    (s.mode = .stop → ∃ t, exec (.lopClose who l) s = .next t ∧ t.out = [⟨.value, [(who.key : Int), St.mode]⟩] ∧
      { t with out := s.out } = s))

/-- A hoist axis moves only when it is homed and within its travel, stops, and homes from rest; its brake releases and engages after its
time; a drive's reply gives its position, and a fault of the drive or of its link takes the axis to FAULT, which only RESET
leaves (R342, R344 to R346, Table 07.5).
A command whose own condition does not hold changes nothing: log entry 8. -/
def Obligations.AxesMoveUnderTheirDrives : Prop :=
  (∀ (s : State) (o : Origin) (b : SvcArgs) (x : Axis) (tgt speed acc : Int), s.canCall o 0x0A0005 → b.wa.toNat < 8 →
    x = s.axis b.wa.toNat → tgt = toInt 32 b.wb.toNat → speed = toInt 32 (b.d.getD 0 0).toNat →
    acc = toInt 32 (b.d.getD 1 0).toNat → 0 < speed → 0 < acc → x.st = .holding ∨ x.st = .moving ∨ x.st = .paused →
    (x.homed = true → s.getI (F.LOP_AX_PMIN_POS.at b.wa.toNat) ≤ tgt → tgt ≤ s.getI (F.LOP_AX_PMAX_POS.at b.wa.toNat) →
      x.moveBy ≠ some o → ∃ t, exec (.hoistMove o b) s = .next t ∧ t.told o St.pending [] ∧
        t.axis b.wa.toNat = { x with
          st := if x.st = .paused then .paused else .moving
          tgt := tgt, speed := speed, acc := acc, moveBy := some o, still := 0 }) ∧
    (x.homed = false → ∃ t, exec (.hoistMove o b) s = .next t ∧ t.told o St.notHomed [] ∧ t.drv = s.drv) ∧
    (x.homed = true → tgt < s.getI (F.LOP_AX_PMIN_POS.at b.wa.toNat) ∨ s.getI (F.LOP_AX_PMAX_POS.at b.wa.toNat) < tgt →
      ∃ t, exec (.hoistMove o b) s = .next t ∧ t.told o St.outOfTravel [] ∧ t.drv = s.drv)) ∧
  (∀ (s : State) (o : Origin) (b : SvcArgs) (x : Axis), b.wa.toNat < 8 → x = s.axis b.wa.toNat →
    (s.canCall o 0x0A0006 → x.st = .holding → ∃ t, exec (.hoistStop o b) s = .next t ∧ t.told o St.done [] ∧ t.drv = s.drv) ∧
    (s.canCall o 0x0A0006 → x.st = .moving ∨ x.st = .paused → x.moveBy ≠ some o →
      ∃ t, exec (.hoistStop o b) s = .next t ∧ t.told o St.pending [] ∧
        t.axis b.wa.toNat = { x with st := .stopping, moveBy := none, stopBy := x.stopBy ++ [o], still := 0 }) ∧
    (s.canCall o 0x0A0006 → x.st = .stopping → ∃ t, exec (.hoistStop o b) s = .next t ∧ t.told o St.pending [] ∧
      t.axis b.wa.toNat = { x with stopBy := x.stopBy ++ [o] }) ∧
    (s.canCall o 0x0A0006 → x.st = .disabled → ∃ t, exec (.hoistStop o b) s = .next t ∧ t.told o St.axisDisabled [] ∧
      t.drv = s.drv) ∧
    (s.canCall o 0x0A0007 → x.st = .holding → ∃ t, exec (.hoistHome o b) s = .next t ∧ t.told o St.pending [] ∧
      t.axis b.wa.toNat = { x with st := .homing, homeBy := some o, still := 0 }) ∧
    (s.canCall o 0x0A0007 → x.st = .moving → ∃ t, exec (.hoistHome o b) s = .next t ∧ t.told o St.axisBusy [] ∧ t.drv = s.drv)) ∧
  (∀ (s : State) (a : Nat) (x : Axis), x = s.axis a →
    (x.st = .releasing → s.get (F.LOP_AX_BRAKE_RELEASE.at a) * 8 ≤ x.ticks →
      ∃ t, exec (.hoistBrakeRelease a) s = .next t ∧
        t.axis a = { x with st := .holding, brakeRel := true, pt := x.p, vt := 0, tgt := x.p, still := 0 }) ∧
    (x.st ≠ .releasing ∨ x.ticks < s.get (F.LOP_AX_BRAKE_RELEASE.at a) * 8 → s.idle (.hoistBrakeRelease a)) ∧
    (x.st = .engaging → x.braking = true → s.get (F.LOP_AX_BRAKE_ENGAGE.at a) * 8 ≤ x.ticks →
      ∃ t, exec (.hoistBrakeEngage a) s = .next t ∧
        t.axis a = { x with st := .disabled, enable := false, trq := 0, braking := false, ticks := 0 }) ∧
    (x.st ≠ .engaging ∨ x.braking = false → s.idle (.hoistBrakeEngage a))) ∧
  (∀ (s : State) (who : Requester) (a : Nat) (x : Axis) (d : Drive), s.mayWrite who → x = s.axis a → d = s.drive (a / 4) (a % 4) →
    (x.st = .fault → bit d.stat 12 = false → d.ok = true → d.fault = false →
      ∃ t, exec (.axisReset who a) s = .next t ∧ t.axis a = { x with st := .disabled, resetTicks := 8 }) ∧
    (x.st ≠ .fault ∨ bit d.stat 12 = true ∨ d.ok = false ∨ d.fault = true →
      s.idle (.axisReset who a))) ∧
  (∀ (s : State) (p d stat : Nat) (pos : Int) (x : Axis) (raw : Int), p < 2 → d < 4 → s.get (F.LOP_DL_CFG_EN.at p) ≠ 0 →
    bit (s.get (F.LOP_DL_CFG_PRESENT.at p)) d = true →
    (∃ t, exec (.driveReply p d pos stat false) s = .next t ∧ t.drv.axes = s.drv.axes ∧
      t.drive p d = { s.drive p d with bad := true } ∧
      t.get (F.LOP_DL_CNT_CRC_ERR.at p) = min 65535 (s.get (F.LOP_DL_CNT_CRC_ERR.at p) + 1)) ∧
    (∃ t, exec (.driveReply p d pos stat true) s = .next t ∧ (t.drive p d).ok = true ∧ (t.drive p d).fault = false ∧
      (t.drive p d).pos = pos ∧ (t.drive p d).stat = stat ∧ (t.drive p d).misses = 0) ∧
    (x = s.axis (4 * p + d) → s.axisOn (4 * p + d) = true →
      raw = (if s.get (F.LOP_AX_CFG_DIR.at (4 * p + d)) ≠ 0 then -pos else pos) →
      (bit stat 12 = true ∨ bit stat 11 = true → ∃ t, exec (.driveReply p d pos stat true) s = .next t ∧
        (t.axis (4 * p + d)).st = .fault) ∧
      (bit stat 12 = false → bit stat 11 = false → x.st = .holding → ∃ t, exec (.driveReply p d pos stat true) s = .next t ∧
        t.axis (4 * p + d) = { x with p := raw + x.offset }) ∧
      (bit stat 12 = false → bit stat 11 = false → x.st = .homing → bit stat 8 = true →
        ∃ t, exec (.driveReply p d pos stat true) s = .next t ∧ (t.axis (4 * p + d)).st = .stopping ∧
          (t.axis (4 * p + d)).homed = true ∧ (t.axis (4 * p + d)).p = s.getI (F.LOP_AX_HOMEPOS_POS.at (4 * p + d))))) ∧
  (∀ (s : State) (p d : Nat), p < 2 → d < 4 →
    (3 ≤ (s.drive p d).misses → ∃ t, exec (.driveLinkFault p d) s = .next t ∧ (t.drive p d).fault = true ∧
      (t.axis (4 * p + d)).st = .fault) ∧
    ((s.drive p d).misses < 3 → s.idle (.driveLinkFault p d)))

/-- A neighbouring-pin pass tests 64 lands one after another and gives its result to whoever waits for it; one starts when it is asked for
or due, and never two at once (R317 to R319).
A command whose own condition does not hold changes nothing: log entry 8. -/
def Obligations.ShortPassesRunOneAtATime : Prop :=
  (∀ (s : State) (l : List Nat), s.drv.passOn = true → s.passMode = true → s.drv.slotAt ≠ some s.num → s.frame.off ≤ 8800000 →
    (s.drv.passLand ≠ 63 →
      ∃ t, exec (.shortTestSlot l) s = .next t ∧ t.drv.passOn = true ∧ t.drv.passLand = s.drv.passLand + 1 ∧
        t.drv.slotAt = some s.num ∧
        (∀ p, p ∈ t.drv.passPairs ↔ p ∈ s.drv.passPairs ∨
          ∃ x ∈ l, landNeighbours s.drv.passLand x = true ∧ p = orderPair s.drv.passLand x) ∧
        ⟨.shortTest, [(s.drv.passLand : Int)]⟩ ∈ t.out ∧ t.regs = s.regs) ∧
    (s.drv.passLand = 63 → s.drv.passWait = [] →
      ∃ t, exec (.shortTestSlot l) s = .next t ∧ t.drv.passOn = false ∧ t.get F.DRV_STAT_START_DONE = 1 ∧
        (∀ p, p ∈ t.drv.oldPairs ↔ p ∈ s.drv.passPairs ∨ ∃ x ∈ l, landNeighbours 63 x = true ∧ p = orderPair 63 x) ∧
        (∀ o, s.drv.passBy = [o] → s.awaits o →
          t.ended o St.done [t.get F.DRV_SHORT_PWM_LANDS, t.get F.DRV_SHORT_SNS_LANDS])) ∧
    (s.drv.passLand = 63 → s.drv.passWait ≠ [] →
      ∃ t, exec (.shortTestSlot l) s = .next t ∧ t.drv.passOn = true ∧ t.drv.passLand = 0 ∧ t.drv.passBy = s.drv.passWait)) ∧
  (∀ (s : State) (l : List Nat), s.drv.passOn = false ∨ s.passMode = false ∨ s.drv.slotAt = some s.num ∨ 8800000 < s.frame.off →
    s.idle (.shortTestSlot l)) ∧
  (∀ (s : State), s.drv.passOn = false → s.passMode = true →
    s.drv.startPass = true ∨ (s.get F.DRV_SHORTCFG_EVERY ≠ 0 ∧
      s.get F.DRV_SHORTCFG_EVERY * 1000000000 ≤ s.mono - s.drv.passAt) →
    ∃ t, exec .shortPassStart s = .next t ∧ t.drv.passOn = true ∧ t.drv.passLand = 0 ∧ t.drv.passBy = s.drv.passWait ∧
      t.drv.passAt = s.mono ∧ { t with drv := s.drv, out := s.out } = s) ∧
  (∀ (s : State), s.drv.passOn = true ∨ s.passMode = false → s.idle .shortPassStart) ∧
  (∀ (s : State) (who : Requester), s.mayWrite who →
    (s.drv.passOn = false → ∃ t, exec (.shortCmdGo who) s = .next t ∧ t.drv.passOn = true ∧ t.drv.passBy = s.drv.passWait ∧
      t.out = [⟨.value, [(who.key : Int), St.done]⟩]) ∧
    (s.drv.passOn = true → ∃ t, exec (.shortCmdGo who) s = .next t ∧ t.out = [⟨.value, [(who.key : Int), St.busy]⟩] ∧
      { t with out := s.out } = s)) ∧
  (∀ (s : State) (o : Origin) (a : SvcArgs), s.canCall o 0x090001 →
    (s.drv.passOn = false → ∃ t, exec (.shortTest o a) s = .next t ∧ t.told o St.pending [] ∧ t.drv.passOn = true ∧
      t.drv.passBy = s.drv.passWait ++ [o] ∧ t.drv.passWait = []) ∧
    (s.drv.passOn = true → ∃ t, exec (.shortTest o a) s = .next t ∧ t.told o St.pending [] ∧
      t.drv.passWait = s.drv.passWait ++ [o] ∧ t.drv.passBy = s.drv.passBy))

/-- The receiver's channels follow their ticks; an observation message counts, closes its epoch or is refused by its header; the epoch
closes for every rover at the cutoff; a solution counts only in time; the antenna, the reference position and the fix words follow
their commands; a rover's session opens under its own entry (R352, R355 to R357, R359, R362 to R371, R382, R386).
A command whose own condition does not hold changes nothing: log entry 8. -/
def Obligations.PositioningFollowsItsEpochs : Prop :=
  (∀ (s : State) (c : ChanObs), s.receiverOn = true → s.issued 1000000 s.pos.tick = true → c.ch < 96 →
    (s.tickMissed 6 (c.ch / 48) = false →
      ∃ t, exec (.trackingTick [c]) s = .next t ∧ t.pos.tick = s.pos.tick + 1 ∧ SMap.get? t.pos.chans c.ch = some c ∧
        t.get (F.GNS_CH_STAT_STATE_L1.at c.ch) = (if c.sat = 0 then 0 else min 5 (max 1 c.stA)) ∧
        t.get (F.GNS_CH_STAT_STATE_L5.at c.ch) = (if c.sat = 0 then 0 else min 5 (max 1 c.stB)) ∧
        t.get (F.GNS_CH_STAT_CN0_L1.at c.ch) = (if c.sat = 0 then 0 else min 255 c.cn0A) ∧
        t.get (F.GNS_CH_STAT_CN0_L5.at c.ch) = (if c.sat = 0 then 0 else min 255 c.cn0B) ∧
        (c.ephem = true → c.lockA = true ∨ c.lockB = true → c.sat ≠ 0 → SMap.get? t.pos.ephem c.sat = some s.rtc.t.secs)) ∧
    (s.tickMissed 6 (c.ch / 48) = true →
      ∃ t, exec (.trackingTick [c]) s = .next t ∧ t.pos = { s.pos with tick := s.pos.tick + 1 })) ∧
  (∀ (s : State) (l : List ChanObs), s.receiverOn = false ∨ s.issued 1000000 s.pos.tick = false → s.idle (.trackingTick l)) ∧
  (∀ (s : State) (r : Nat) (q : Nat) (m : RtcmMsg), r < 64 → s.hears r q → s.mode ≠ .basic → s.mode ≠ .recovery →
    s.keys.zeroised = false →
    (m.preamble ≠ 0xD3 ∨ m.reserved ≠ 0 ∨ m.crcOk = false ∨ m.lenOk = false →
      ∃ t, exec (.obsEnvelope r ⟨q, [m], false⟩) s = .next t ∧ t.pos = s.pos ∧
        t.get F.GNS_CNT1_CRC_FAIL = min 65535 (s.get F.GNS_CNT1_CRC_FAIL + 1)) ∧
    (m.preamble = 0xD3 → m.reserved = 0 → m.crcOk = true → m.lenOk = true →
      (m.typ ≠ 1077 → m.typ ≠ 1097 → m.typ ≠ 1117 → m.typ ≠ 1127 →
        ∃ t, exec (.obsEnvelope r ⟨q, [m], false⟩) s = .next t ∧ t.pos = s.pos ∧
          t.get F.GNS_CNT2_UNSUPPORTED = min 65535 (s.get F.GNS_CNT2_UNSUPPORTED + 1)) ∧
      (m.typ = 1077 ∨ m.typ = 1097 ∨ m.typ = 1117 ∨ m.typ = 1127 →
        (m.station ≠ s.get (F.GNS_RV_CFG_STATION.at r) ∨ s.obsEpoch m % 100 ≠ 0 ∨ (s.curEpoch : Int) * 10 < s.obsEpoch m →
          ∃ t, exec (.obsEnvelope r ⟨q, [m], false⟩) s = .next t ∧ t.pos = s.pos ∧
            t.get F.GNS_CNT2_REJECTED = min 65535 (s.get F.GNS_CNT2_REJECTED + 1)) ∧
        (m.station = s.get (F.GNS_RV_CFG_STATION.at r) → s.obsEpoch m % 100 = 0 →
          (s.obsEpoch m < (s.curEpoch : Int) * 10 ∨ (s.obsEpoch m = (s.curEpoch : Int) * 10 ∧ (s.rovPos r).closed = true) →
            ∃ t, exec (.obsEnvelope r ⟨q, [m], false⟩) s = .next t ∧ t.pos = s.pos ∧
              t.get F.GNS_CNT1_LATE_OBS = min 65535 (s.get F.GNS_CNT1_LATE_OBS + 1) ∧
              t.get (F.GNS_RV_CNT1_LATE.at r) = min 65535 (s.get (F.GNS_RV_CNT1_LATE.at r) + 1)) ∧
          (s.obsEpoch m = (s.curEpoch : Int) * 10 → (s.rovPos r).closed = false →
            ∃ t, exec (.obsEnvelope r ⟨q, [m], false⟩) s = .next t ∧ (t.rovPos r).accepted = true ∧
              (t.rovPos r).obs = (s.rovPos r).obs ++ [m] ∧ (t.rovPos r).closed = !m.more))))) ∧
  (∀ (s : State) (r : Nat) (e : ObsEnv), r < 64 → s.live = true → s.mode ≠ .basic → s.mode ≠ .recovery →
    s.keys.zeroised = false → e.bad = true ∨ e.msgs = [] ∨ 8 < e.msgs.length →
    ∃ t, exec (.obsEnvelope r e) s = .next t ∧ t.pos = s.pos ∧
      t.get (F.GNS_RV_CNT1_DISCARDED.at r) = min 65535 (s.get (F.GNS_RV_CNT1_DISCARDED.at r) + 1)) ∧
  (∀ (s : State) (res : Nat) (off : Int) (nav : Option (Nat × Nat)), s.receiverOn = true → s.pos.cutAt ≠ s.curEpoch + 1 →
    s.get F.GNS_RTK_CUTOFF * 1000000 ≤ s.num % 10 * 10000000 + 10000000 →
    ∃ t, exec (.epochCutoff res off nav) s = .next t ∧ t.pos.cutAt = s.curEpoch + 1 ∧ t.pos.lost = s.pos.lost ∧
      (∀ r, r < 64 → (s.rovPos r).ctx.isSome = true → (t.rovPos r).closed = true)) ∧
  (∀ (s : State) (res : Nat) (off : Int) (nav : Option (Nat × Nat)),
    s.receiverOn = false ∨ s.pos.cutAt = s.curEpoch + 1 ∨ s.num % 10 * 10000000 + 10000000 < s.get F.GNS_RTK_CUTOFF * 1000000 →
    s.idle (.epochCutoff res off nav)) ∧
  (∀ (s : State) (r : Nat) (x : SolIn), r < 64 →
    (s.epochCounts = true → (s.rovPos r).closed = true → (s.rovPos r).accepted = true → s.num % 10 < 8 →
      ∃ t, exec (.roverSolution r x) s = .next t ∧ t.rovPos r = { s.rovPos r with sol := some x }) ∧
    (s.epochCounts = false ∨ (s.rovPos r).closed = false ∨ (s.rovPos r).accepted = false ∨ 8 ≤ s.num % 10 →
      s.idle (.roverSolution r x))) ∧
  (∀ (s : State) (mA : Nat) (lim : Bool), ∃ t, exec (.antStateChange mA lim) s = .next t ∧
    t.get F.GNS_ANT_STATE = (if s.get F.GNS_ANT_BIAS_EN = 0 then 3 else if lim = true then 2 else if mA < 2 then 1 else 0)) ∧
  (∀ (s : State) (who : Requester) (w : Word) (mode minutes : Nat), s.mayWrite who → mode = bits w.toNat 31 30 →
    minutes = bits w.toNat 15 0 →
    (s.mode ≠ .stop → ∃ t, exec (.refGo who w) s = .next t ∧ t.out = [⟨.value, [(who.key : Int), St.mode]⟩] ∧
      { t with out := s.out } = s) ∧
    (s.mode = .stop → mode = 3 ∨ minutes < 10 ∨ 1440 < minutes →
      ∃ t, exec (.refGo who w) s = .next t ∧ t.out = [⟨.value, [(who.key : Int), St.badArg]⟩] ∧ { t with out := s.out } = s) ∧
    (s.mode = .stop → mode = 0 → 10 ≤ minutes → minutes ≤ 1440 →
      ∃ t, exec (.refGo who w) s = .next t ∧ t.get F.GNS_REF_STAT_STATE = 0 ∧ t.get F.GNS_STAT_REF_OK = 0 ∧ t.refPos = s.refPos) ∧
    (s.mode = .stop → mode = 1 ∨ mode = 2 → 10 ≤ minutes → minutes ≤ 1440 → bit w.toNat 29 = false →
      ∃ t, exec (.refGo who w) s = .next t ∧ t.get F.GNS_REF_CFG_MODE = mode ∧ t.get F.GNS_REF_CFG_SURVEY_MIN = minutes ∧
        t.get F.GNS_REF_STAT_STATE = s.get F.GNS_REF_STAT_STATE ∧ t.pos = s.pos) ∧
    (s.mode = .stop → mode = 1 → 10 ≤ minutes → minutes ≤ 1440 → bit w.toNat 29 = true →
      (s.refImplausible = true → ∃ t, exec (.refGo who w) s = .next t ∧
        t.out = [⟨.value, [(who.key : Int), 0x0B02]⟩] ∧ { t with out := s.out } = s) ∧
      (s.refImplausible = false → ∃ t, exec (.refGo who w) s = .next t ∧ t.get F.GNS_REF_STAT_STATE = 2 ∧
        t.get F.GNS_STAT_REF_OK = 1 ∧ t.get F.GNS_REF_STAT_SOURCE = 0 ∧ t.refPos = s.refPos ∧
        (∀ r, (t.rovPos r).filter = 0))) ∧
    (s.mode = .stop → mode = 2 → 10 ≤ minutes → minutes ≤ 1440 → bit w.toNat 29 = true →
      ∃ t, exec (.refGo who w) s = .next t ∧ t.get F.GNS_REF_STAT_STATE = 1 ∧ t.get F.GNS_REF_CFG_SURVEY_MIN = minutes ∧
        t.pos.surveyFrom = s.mono ∧ t.pos.surveyN = 0 ∧ t.pos.surveyEpochs = 0)) ∧
  (∀ (s : State), s.get F.GNS_REF_STAT_STATE = 1 → s.pos.surveyN ≠ 0 →
    s.pos.surveyFrom + s.get F.GNS_REF_CFG_SURVEY_MIN * 60000000000 ≤ s.mono → 9 * s.pos.surveyEpochs ≤ 10 * s.pos.surveyN →
    ∃ t, exec .surveyComplete s = .next t ∧ t.get F.GNS_REF_STAT_STATE = 2 ∧ t.get F.GNS_REF_STAT_SOURCE = 1 ∧
      (∀ r, (t.rovPos r).filter = 0)) ∧
  (∀ (s : State), s.get F.GNS_REF_STAT_STATE ≠ 1 ∨ s.mono < s.pos.surveyFrom + s.get F.GNS_REF_CFG_SURVEY_MIN * 60000000000 ∨
    10 * s.pos.surveyN < 9 * s.pos.surveyEpochs → s.idle .surveyComplete) ∧
  (∀ (s : State) (cert slot : Nat), (∀ r, r < 64 → s.get (F.GNS_RV_CFG_EN.at r) ≠ 0 → s.get (F.GNS_RV_CFG_CERT.at r) ≠ cert) →
    ∃ t, exec (.roverSessionOpen cert slot) s = .next t ∧ t.out = [⟨.value, [(Requester.sid0.key : Int), 0x0B01]⟩] ∧
      { t with out := s.out } = s) ∧
  (∀ (s : State) (cert slot r n : Nat), r < 64 → s.get (F.GNS_RV_CFG_EN.at r) ≠ 0 → s.get (F.GNS_RV_CFG_CERT.at r) = cert →
    (∀ q, q < r → s.get (F.GNS_RV_CFG_EN.at q) ≠ 0 → s.get (F.GNS_RV_CFG_CERT.at q) ≠ cert) → s.framesOn = true →
    s.phase = .running → s.role ≠ .follower → s.keys.zeroised = false → (s.rovPos r).ctx = none →
    (s.openSession { typ := 1, peer := r, slot := slot, width := 32 }).2 = some n →
    ∃ t, exec (.roverSessionOpen cert slot) s = .next t ∧ (t.rovPos r).ctx = some n ∧ (t.rovPos r).txSeq = 0 ∧
      (t.rovPos r).filter = (s.rovPos r).filter ∧ ⟨.value, [(Requester.sid0.key : Int), St.done, n]⟩ ∈ t.out) ∧
  (∀ (s : State) (who : Requester) (w : Word), s.mayWrite who →
    ∃ t, exec (.gnsFsel who w) s = .next t ∧ t.get F.GNS_FSEL_ROVER = w.toNat % 64 ∧
      t.out = [⟨.value, [(who.key : Int), St.done]⟩]) ∧
  (∀ (s : State) (o : Origin) (a : SvcArgs), s.canCall o 0x0B0001 →
    (64 ≤ a.wa.toNat → ∃ t, exec (.roverStatus o a) s = .next t ∧ t.told o St.badArg [] ∧ t.pos = s.pos) ∧
    (a.wa.toNat < 64 → ∃ t l, exec (.roverStatus o a) s = .next t ∧ t.told o St.done ((s.fixWords a.wa.toNat).take 11 ++ l) ∧
      t.pos = s.pos))

/-- An accepted envelope of a rover is kept for its ALLOT frame, or changes its task; a message waits for its acknowledgement and is
repeated with its number; a silent rover is LOST and may be forgotten; an offer, a deadline, a final task and a backoff end in time; the
host holds and releases a rover (R393, R404, R407, R409 to R411, R414, Table 09.4).
A command whose own condition does not hold changes nothing: log entry 8. -/
def Obligations.RoversAndTheirTasksAreKept : Prop :=
  (∀ (s : State) (r q : Nat), s.hears r q → s.fleetOn = true →
    (∀ b, ∃ t, exec (.status r q b) s = .next t ∧
      t.rover r = { s.rover r with arrived := (s.rover r).arrived ++ [b], stAt := s.mono, lost := false } ∧
      (∀ j, j ≠ r → t.rover j = s.rover j) ∧ t.regs = s.regs) ∧
    (∀ d, ∃ t, exec (.routeReq r q d) s = .next t ∧ t.rover r = { s.rover r with routeReq := some (d, s.num) } ∧
      (∀ j, j ≠ r → t.rover j = s.rover j) ∧ t.regs = s.regs) ∧
    (∃ t, exec (.releaseReq r q) s = .next t ∧ t.rover r = { s.rover r with releaseArr := true } ∧ t.regs = s.regs) ∧
    (∀ k x, s.task k = some x → x.rover = r → x.st = 2 →
      (∃ t, exec (.taskAck r q k false) s = .next t ∧ t.task k = some { x with st := 3, assignBy := none } ∧
        (t.rover r).routeReq = some (x.dest, s.num) ∧ ∀ o, x.assignBy = some o → s.awaits o → t.ended o St.done [r]) ∧
      (∃ t, exec (.taskAck r q k true) s = .next t ∧ t.task k = some { x with st := 1, rover := 0, assignBy := none } ∧
        ∀ o, x.assignBy = some o → s.awaits o → t.ended o St.taskRefused [])) ∧
    (∀ k x code failed, s.task k = some x → x.rover = r → x.st = 3 →
      ∃ t, exec (.taskEnd r q k failed code) s = .next t ∧
        t.task k = some { x with
          st := if failed = true then 5 else 4, code := code, finalAt := s.mono, assignBy := none, cancelBy := none }) ∧
    (∀ k, (∀ x, s.task k = some x → x.rover ≠ r ∨ (x.st ≠ 2 ∧ x.st ≠ 3)) →
      (∀ f, ∃ t, exec (.taskAck r q k f) s = .next t ∧ t.fleet.tasks = s.fleet.tasks ∧
        t.get F.FLT_CNT1_LATE = min 65535 (s.get F.FLT_CNT1_LATE + 1)) ∧
      (∀ f code, ∃ t, exec (.taskEnd r q k f code) s = .next t ∧ t.fleet.tasks = s.fleet.tasks ∧
        t.get F.FLT_CNT1_LATE = min 65535 (s.get F.FLT_CNT1_LATE + 1))) ∧
    (∀ m, (s.rover r).unacked.find? (fun x => x.seq = m.seq) = some m →
      ∃ t, exec (.roverAck r q m.seq) s = .next t ∧
        (t.rover r).unacked = (s.rover r).unacked.filter (fun x => x.seq ≠ m.seq) ∧
        (∀ x, m.kind = Msg.taskCancel → s.task (u16 m.body 0) = some x → x.st = 3 → x.rover = r → x.cancelBy.isSome = true →
          t.task (u16 m.body 0) = some { x with st := 6, finalAt := s.mono, assignBy := none, cancelBy := none }))) ∧
  (∀ (s : State) (r q : Nat), ¬ s.hears r q →
    (∀ b, s.idle (.status r q b)) ∧ (∀ d, s.idle (.routeReq r q d)) ∧ s.idle (.releaseReq r q) ∧
      (∀ k f, s.idle (.taskAck r q k f)) ∧ (∀ k f code, s.idle (.taskEnd r q k f code)) ∧ ∀ a, s.idle (.roverAck r q a)) ∧
  (∀ (s : State) (r : Nat) (m : RovMsg), (s.rover r).unacked.find? (fun x => x.seq = m.seq) = some m → s.fleetOn = true →
    s.rovOpen r = true →
    (s.past (m.at_ + s.get F.FLT_TMO_RESEND * 10000000) = true →
      ∃ t, exec (.fleetResend r m.seq) s = .next t ∧ 
        t.sent .rover ((r :: envelope m.kind m.seq m.body).map Int.ofNat) ∧
        (t.rover r).unacked = (s.rover r).unacked.map (fun x => if x.seq = m.seq then { x with at_ := s.mono } else x) ∧
        t.regs = s.regs) ∧
    (s.past (m.at_ + s.get F.FLT_TMO_RESEND * 10000000) = false → s.idle (.fleetResend r m.seq))) ∧
  (∀ (s : State) (r : Nat), s.fleetOn = true → (s.rover r).st.isSome = true → (s.rover r).lost = false →
    (s.past ((s.rover r).stAt + s.get F.FLT_TMO_STATUS_TMO * 100000000) = true →
      ∃ t, exec (.roverLost r) s = .next t ∧ t.rover r = { s.rover r with lost := true } ∧
        { t with fleet := s.fleet, out := s.out } = s) ∧
    (s.past ((s.rover r).stAt + s.get F.FLT_TMO_STATUS_TMO * 100000000) = false → s.idle (.roverLost r))) ∧
  (∀ (s : State) (k : Nat) (x : Task), s.task k = some x →
    (s.fleetOn = true → x.st = 2 → s.past (x.offeredAt + s.get F.FLT_TMO_TASK_TMO * 100000000) = true →
      ∃ t, exec (.taskOfferTimeout k) s = .next t ∧ t.task k = some { x with st := 1, rover := 0, assignBy := none } ∧
        ∀ o, x.assignBy = some o → s.awaits o → t.ended o St.timeout []) ∧
    (x.st ≠ 2 → s.idle (.taskOfferTimeout k)) ∧
    (x.st ≤ 3 → x.deadline ≠ 0 → s.past (x.queuedAt + x.deadline * 1000000000) = true →
      ∃ t, exec (.taskDeadline k) s = .next t ∧
        t.task k = some { x with st := 5, code := 0xFFFF, finalAt := s.mono, assignBy := none, cancelBy := none }) ∧
    (4 ≤ x.st ∨ x.deadline = 0 → s.idle (.taskDeadline k)) ∧
    (4 ≤ x.st → s.past (x.finalAt + s.get F.FLT_CFG_KEEP * 100000000) = true →
      ∃ t, exec (.taskFree k) s = .next t ∧ t.fleet = { s.fleet with tasks := SMap.erase s.fleet.tasks k } ∧
        { t with fleet := s.fleet, out := s.out } = s) ∧
    (x.st < 4 → s.idle (.taskFree k))) ∧
  (∀ (s : State) (r : Nat), (s.rover r).backoffSegs ≠ [] →
    (s.past (s.rover r).backoffEnd = true → ∃ t, exec (.backoffExpiry r) s = .next t ∧
      t.rover r = { s.rover r with backoffSegs := [], backoffEnd := 0 } ∧ { t with fleet := s.fleet, out := s.out } = s) ∧
    (s.past (s.rover r).backoffEnd = false → s.idle (.backoffExpiry r))) ∧
  (∀ (s : State) (who : Requester) (r : Nat), s.mayWrite who →
    (∃ t, exec (.roverCmdHold who r) s = .next t ∧ (t.rover r).causes = withBit (s.rover r).causes Cause.host true ∧
      (t.rover r).resv = (s.rover r).resv ∧ ⟨.value, [(who.key : Int), St.done]⟩ ∈ t.out) ∧
    (∃ t, exec (.roverCmdRelease who r) s = .next t ∧ ⟨.value, [(who.key : Int), St.done]⟩ ∈ t.out ∧
      (t.rover r).causes = ([Cause.host, Cause.knot, Cause.intrusion] ++
        (if s.get F.STP_STAT_DECLARED ≠ 0 then [] else [Cause.lanyard])).foldl (fun c b => withBit c b false) (s.rover r).causes) ∧
    (∀ confirm, confirm ≠ 0x5AFE → ∃ t, exec (.forget who r confirm) s = .next t ∧
      t.out = [⟨.value, [(who.key : Int), St.confirm]⟩] ∧ { t with out := s.out } = s) ∧
    ((s.rover r).lost = false → ∃ t, exec (.forget who r 0x5AFE) s = .next t ∧
      t.out = [⟨.value, [(who.key : Int), St.badArg]⟩] ∧ { t with out := s.out } = s) ∧
    ((s.rover r).lost = true → ∃ t, exec (.forget who r 0x5AFE) s = .next t ∧ (t.rover r).resv = [] ∧ (t.rover r).revs = [] ∧
      (t.rover r).st = none ∧ (∀ j, j ≠ r → t.rover j = s.rover j) ∧ t.out = [⟨.value, [(who.key : Int), St.done]⟩]))

/-- The fleet services: a task is queued under the lowest free number, a free rover is offered it, and a hold, a release, a corridor, the
cancel of a task that is not active and a knot wait, as their callers do, for an ALLOT frame (R394, R406 to R409, R411). -/
def Obligations.FleetCallsWaitForTheirFrame : Prop :=
  (∀ (s : State) (o : Origin) (a : SvcArgs), s.canCall o 0x0C0001 → s.fleet.tasks.length < 1024 →
    bits (a.d.getD 0 0).toNat 14 11 = 0 → (∀ k, k < 5 → (a.d.getD (11 + k) 0).toNat = 0) →
    ∃ t k x, exec (.taskQueue o a) s = .next t ∧ t.told o St.done [k] ∧ t.task k = some x ∧ x.st = 1 ∧
      x.prio = bits (a.d.getD 0 0).toNat 31 24 ∧ x.dest = bits (a.d.getD 0 0).toNat 10 0 ∧ x.queuedAt = s.mono ∧
      (∀ j, j ≠ k → t.task j = s.task j) ∧ (∀ j, j < 1024 → s.task j = none → k ≤ j)) ∧
  (∀ (s : State) (o : Origin) (a : SvcArgs), s.canCall o 0x0C0001 → 1024 ≤ s.fleet.tasks.length →
    ∃ t, exec (.taskQueue o a) s = .next t ∧ t.told o St.queueFull [] ∧ t.fleet = s.fleet) ∧
  (∀ (s : State) (o : Origin) (a : SvcArgs) (x : Task), s.canCall o 0x0C0002 → s.task a.wa.toNat = some x →
    (4 ≤ x.st → ∃ t, exec (.taskAssign o a) s = .next t ∧ t.told o St.taskFinal [] ∧ t.fleet = s.fleet) ∧
    (x.st = 1 → a.wb.toNat = 0xFF → ∃ t, exec (.taskAssign o a) s = .next t ∧ t.told o St.pending [] ∧
      t.fleet = { s.fleet with waiting := s.fleet.waiting ++ [(a.wa.toNat, o)] }) ∧
    (x.st = 1 → a.wb.toNat < 64 → s.roverFree x a.wb.toNat = true →
      ∃ t, exec (.taskAssign o a) s = .next t ∧ t.told o St.pending [] ∧
        t.task a.wa.toNat = some { x with st := 2, rover := a.wb.toNat, offeredAt := s.mono, assignBy := some o }) ∧
    (x.st = 1 → a.wb.toNat < 64 → s.roverFree x a.wb.toNat = false →
      ∃ t, exec (.taskAssign o a) s = .next t ∧ t.told o St.roverBusy [] ∧ t.fleet = s.fleet)) ∧
  (∀ (s : State) (o : Origin) (a : SvcArgs) (x : Task), s.canCall o 0x0C0003 → s.task a.wa.toNat = some x →
    (4 ≤ x.st → ∃ t, exec (.taskCancel o a) s = .next t ∧ t.told o St.taskFinal [] ∧ t.fleet = s.fleet) ∧
    (x.st = 3 → x.cancelBy = none → ∃ t, exec (.taskCancel o a) s = .next t ∧ t.told o St.pending [] ∧
      t.task a.wa.toNat = some { x with cancelBy := some o }) ∧
    (x.st = 1 ∨ x.st = 2 → ∃ t z, exec (.taskCancel o a) s = .next t ∧ t.told o St.pending [] ∧
      t.fleet = { s.fleet with acts := s.fleet.acts ++ [⟨4, a.wa.toNat, 0, z, o⟩] })) ∧
  (∀ (s : State) (o : Origin) (a : SvcArgs), a.wa.toNat < 64 ∨ a.wa.toNat = 0xFF →
    (s.canCall o 0x0C0004 → ∃ t z, exec (.roverHold o a) s = .next t ∧ t.told o St.pending [] ∧
      t.fleet = { s.fleet with acts := s.fleet.acts ++ [⟨0, a.wa.toNat, 0, z, o⟩] }) ∧
    (s.canCall o 0x0C0005 → ∃ t z, exec (.roverRelease o a) s = .next t ∧ t.told o St.pending [] ∧
      t.fleet = { s.fleet with acts := s.fleet.acts ++ [⟨1, a.wa.toNat, 0, z, o⟩] })) ∧
  (∀ (s : State) (o : Origin) (a : SvcArgs), s.canCall o 0x0C0006 →
    (SMap.get? s.fleet.knots a.wa.toNat = none → ∃ t, exec (.knotResolve o a) s = .next t ∧ t.told o St.noKnot [] ∧
      t.fleet = s.fleet) ∧
    (∀ x, SMap.get? s.fleet.knots a.wa.toNat = some x → a.wb.toNat ∉ x.members →
      ∃ t, exec (.knotResolve o a) s = .next t ∧ t.told o St.notMember [] ∧ t.fleet = s.fleet) ∧
    (∀ x, SMap.get? s.fleet.knots a.wa.toNat = some x → a.wb.toNat ∈ x.members →
      ∃ t z, exec (.knotResolve o a) s = .next t ∧ t.told o St.pending [] ∧
        t.fleet = { s.fleet with acts := s.fleet.acts ++ [⟨5, a.wa.toNat, a.wb.toNat, z, o⟩] })) ∧
  (∀ (s : State) (o : Origin) (a : SvcArgs),
    (s.corridor a.wa.toNat = [] →
      (s.canCall o 0x0C0007 → ∃ t, exec (.corridorClose o a) s = .next t ∧ t.told o St.badArg [] ∧ t.fleet = s.fleet) ∧
      (s.canCall o 0x0C0008 → ∃ t, exec (.corridorOpen o a) s = .next t ∧ t.told o St.badArg [] ∧ t.fleet = s.fleet)) ∧
    (s.corridor a.wa.toNat ≠ [] →
      (s.canCall o 0x0C0007 → ∃ t z, exec (.corridorClose o a) s = .next t ∧ t.told o St.pending [] ∧
        t.fleet = { s.fleet with acts := s.fleet.acts ++ [⟨2, a.wa.toNat, 0, z, o⟩] }) ∧
      (s.canCall o 0x0C0008 → ∃ t z, exec (.corridorOpen o a) s = .next t ∧ t.told o St.pending [] ∧
        t.fleet = { s.fleet with acts := s.fleet.acts ++ [⟨3, a.wa.toNat, 0, z, o⟩] })))

/-- A channel of the Lanyard that reads Stop, a discrepancy, an output that differs from its command or fails its test, a restart of Y0, a
silent mailbox, the host and the program each latch their cause and declare Stop; the causes that persist hold their ACTIVE bit, and what
ends them clears it and nothing else (R415 to R418, Table 09.9).
A command whose own condition does not hold changes nothing: log entry 8. -/
def Obligations.StopIsDeclaredByItsCauses : Prop :=
  (∀ (s : State) (b x : Bool) (n k filt : Nat) (old : Bool × Nat), n = (if b = true then 1 else 0) →
    old = (if b = true then s.stp.filtB else s.stp.filtA) → k = (if old.1 = x then min 16 (old.2 + 1) else 1) →
    filt = s.get F.STP_CFG_FILT →
    (x = false → k = filt ∨ (filt < k ∧ s.get (if b = true then F.STP_STAT_IN_B else F.STP_STAT_IN_A) ≠ 0) →
      ∃ t, exec (.lanyardInputChange b [x]) s = .next t ∧ t.get (if b = true then F.STP_STAT_IN_B else F.STP_STAT_IN_A) = 0 ∧
      bit (t.get F.STP_CAUSE_ACTIVE) n = true ∧ bit (t.get F.STP_CAUSE_LATCHED) n = true ∧ t.get F.STP_STAT_DECLARED ≠ 0 ∧
      t.get F.STP_STAT_HEALTHY = 0 ∧
      (s.get F.STP_STAT_DECLARED = 0 → t.get F.STP_STAT_OUT_A = 0 ∧ t.get F.STP_STAT_OUT_B = 0 ∧
        t.get F.STP_CNT_STOPS = min 65535 (s.get F.STP_CNT_STOPS + 1) ∧ t.get F.STP_LAST_LO_FRAME = s.num % 2 ^ 32 ∧
        (∀ r, r < 64 → bit (t.rover r).causes Cause.lanyard = true))) ∧
    (x = true → k = filt ∨ (filt < k ∧ s.get (if b = true then F.STP_STAT_IN_B else F.STP_STAT_IN_A) = 0) →
      ∃ t, exec (.lanyardInputChange b [x]) s = .next t ∧ t.get (if b = true then F.STP_STAT_IN_B else F.STP_STAT_IN_A) = 1 ∧
      bit (t.get F.STP_CAUSE_ACTIVE) n = false ∧ t.get F.STP_CAUSE_LATCHED = s.get F.STP_CAUSE_LATCHED ∧
      t.get F.STP_STAT_DECLARED = s.get F.STP_STAT_DECLARED ∧ t.get F.STP_STAT_OUT_A = s.get F.STP_STAT_OUT_A ∧ t.fleet = s.fleet) ∧
    (k < filt → ∃ t, exec (.lanyardInputChange b [x]) s = .next t ∧ { t with stp := s.stp, out := s.out } = s ∧
      t.stp = if b = true then { s.stp with filtB := (x, k) } else { s.stp with filtA := (x, k) })) ∧
  (∀ (s : State) (b : Bool), s.idle (.lanyardInputChange b [])) ∧
  (∀ (s : State) (a : Nat), s.stp.differSince = some a →
    (s.past (a + s.get F.STP_CFG_DISC * 10000000) = true → ∃ t, exec .lanyardDiscrepancy s = .next t ∧
      bit (t.get F.STP_CAUSE_ACTIVE) 2 = true ∧ bit (t.get F.STP_CAUSE_LATCHED) 2 = true ∧ t.get F.STP_STAT_DECLARED ≠ 0 ∧
      t.get F.STP_STAT_HEALTHY = 0) ∧
    (s.past (a + s.get F.STP_CFG_DISC * 10000000) = false → s.idle .lanyardDiscrepancy)) ∧
  (∀ (s : State), s.stp.differSince = none → s.idle .lanyardDiscrepancy) ∧
  (∀ (s : State) (b level : Bool),
    (level = s.declared → ∃ t, exec (.lanyardOutputReadback b level) s = .next t ∧ bit (t.get F.STP_CAUSE_ACTIVE) 3 = true ∧
      bit (t.get F.STP_CAUSE_LATCHED) 3 = true ∧ t.get F.STP_STAT_DECLARED ≠ 0) ∧
    (level ≠ s.declared → s.get (if b = true then F.STP_STAT_OUT_A else F.STP_STAT_OUT_B) = b2n (!s.declared) →
      ∃ t, exec (.lanyardOutputReadback b level) s = .next t ∧ bit (t.get F.STP_CAUSE_ACTIVE) 3 = false ∧
        t.get (if b = true then F.STP_STAT_OUT_B else F.STP_STAT_OUT_A) = b2n level ∧
        t.get F.STP_STAT_DECLARED = s.get F.STP_STAT_DECLARED ∧ t.get F.STP_CAUSE_LATCHED = s.get F.STP_CAUSE_LATCHED)) ∧
  (∀ (s : State) (b : Bool), s.get F.STP_CFG_OTEST ≠ 0 → s.get F.STP_STAT_DECLARED = 0 → b = s.stp.testNextB →
    (∃ t, exec (.outputTest b true) s = .next t ∧ t.stp = { s.stp with testNextB := !b } ∧
      { t with stp := s.stp, out := s.out } = s ∧
      t.out = [⟨.lanyardOut, [(b2n b : Int), (b2n !b : Int)]⟩, ⟨.lanyardOut, [1, 1]⟩]) ∧
    (∃ t, exec (.outputTest b false) s = .next t ∧ bit (t.get F.STP_CAUSE_ACTIVE) 3 = true ∧
      bit (t.get F.STP_CAUSE_LATCHED) 3 = true ∧ t.get F.STP_STAT_DECLARED ≠ 0 ∧
      t.get F.STP_CNT_OTEST_FAIL = min 255 (s.get F.STP_CNT_OTEST_FAIL + 1))) ∧
  (∀ (s : State) (b ok : Bool), s.get F.STP_CFG_OTEST = 0 ∨ s.get F.STP_STAT_DECLARED ≠ 0 ∨ b ≠ s.stp.testNextB →
    s.idle (.outputTest b ok)) ∧
  (∀ (s : State), ∃ t, exec .y0Watchdog s = .next t ∧ bit (t.get F.STP_CAUSE_LATCHED) 8 = true ∧ t.get F.STP_STAT_DECLARED ≠ 0 ∧
    t.get F.STP_CAUSE_ACTIVE = s.get F.STP_CAUSE_ACTIVE) ∧
  (∀ (s : State), s.get F.STP_CFG_MBX_MISS ≤ s.stp.missed → bit (s.get F.STP_CAUSE_ACTIVE) 4 = false →
    ∃ t, exec .mailboxMiss s = .next t ∧ bit (t.get F.STP_CAUSE_ACTIVE) 4 = true ∧ bit (t.get F.STP_CAUSE_LATCHED) 4 = true ∧
      t.get F.STP_STAT_DECLARED ≠ 0 ∧ t.get F.STP_STAT_MBX_OK = 0) ∧
  (∀ (s : State), s.stp.missed < s.get F.STP_CFG_MBX_MISS ∨ bit (s.get F.STP_CAUSE_ACTIVE) 4 = true → s.idle .mailboxMiss) ∧
  (∀ (s : State), s.y0Reads = true → s.stp.seen ≠ some s.stp.mbx.num →
    ∃ t, exec (.mailboxRead true) s = .next t ∧ t.stp.seen = some s.stp.mbx.num ∧ t.get F.STP_STAT_MBX_OK = 1 ∧
      t.get F.STP_STAT_INJECTING = 0 ∧ bit (t.get F.STP_CAUSE_ACTIVE) 4 = false ∧ t.stp.declBy = [] ∧
      (∀ o, s.stp.declBy = [o] → s.awaits o → t.ended o St.done [])) ∧
  (∀ (s : State), s.y0Reads = true → s.idle (.mailboxRead false)) ∧
  (∀ (s : State) (good : Bool), s.awake 23 = true → s.y0Reads = false → ∃ t, exec (.mailboxRead good) s = .next t ∧
    t.get (F.GAL_BSTAT_DENIED.at 15) = min 65535 (s.get (F.GAL_BSTAT_DENIED.at 15) + 1) ∧ t.stp = s.stp ∧
    t.out = [⟨.fault, [23, 0x10780000]⟩]) ∧
  (∀ (s : State) (good : Bool), s.awake 23 = false → s.idle (.mailboxRead good)) ∧
  (∀ (s : State) (l : List Nat), bit (s.get F.STP_CAUSE_ACTIVE) 4 = true → s.mute = false →
    l = [0x48, 0x58, 0x53, 0x42, 1, s.stopState true] ++ leBytes 2 (s.get F.STP_ETH_SEGMENT) ++ [s.get F.STP_STAT_KEYID, 0] ++
      leBytes 4 ((s.stp.y0Count + 1) % 2 ^ 32) ++ leBytes 6 (s.stp.mbx.num + s.stp.missed) ++
      leBytes 2 (s.get F.STP_CAUSE_ACTIVE) ++ [0, 0] →
    ∃ t, exec .y0Heartbeat s = .next t ∧ t.get F.STP_STAT_INJECTING = 1 ∧ t.stp.y0Count = (s.stp.y0Count + 1) % 2 ^ 32 ∧
      t.out = [⟨.y0Heartbeat, (l ++ s.stopMac l).map Int.ofNat⟩]) ∧
  (∀ (s : State), bit (s.get F.STP_CAUSE_ACTIVE) 4 = false ∨ s.mute = true → s.idle .y0Heartbeat) ∧
  (∀ (s : State) (o : Origin) (a : SvcArgs), s.canCall o 0x0D0001 →
    ∃ t, exec (.declareStop o a) s = .next t ∧ t.told o St.pending [] ∧ t.get F.STP_STAT_DECLARED ≠ 0 ∧
      bit (t.get F.STP_CAUSE_LATCHED) 5 = true ∧ t.stp.declBy = s.stp.declBy ++ [o])

/-- STP_CMD: DECLARE latches HOST and declares Stop; RESET permits both outputs and clears what is latched only for the host, with its
confirmation, when both channels permit, no cause is active and the mode allows it; the causes of the rovers stay. The stop key changes
at a superframe (R421, R424, R425, Table 09.15).
A command whose own condition does not hold changes nothing: log entry 8. -/
def Obligations.StopIsResetByTheHostAlone : Prop :=
  (∀ (s : State) (who : Requester) (c : Nat), 2 ≤ s.roleOf who → s.mayWrite who →
    ∃ t, exec (.stpDeclare who c) s = .next t ∧ bit (t.get F.STP_CAUSE_LATCHED) 6 = true ∧ t.get F.STP_STAT_DECLARED ≠ 0 ∧
      t.get F.STP_CAUSE_ACTIVE = s.get F.STP_CAUSE_ACTIVE ∧ t.get F.STP_CMD_STAT_CODE = 1 ∧ t.get F.STP_CMD_STAT_STATUS = St.done ∧
      ⟨.value, [(who.key : Int), St.done]⟩ ∈ t.out) ∧
  (∀ (s : State) (who : Requester) (c : Nat), s.roleOf who < 2 →
    (∃ t, exec (.stpDeclare who c) s = .next t ∧ t.out = [⟨.value, [(who.key : Int), St.access]⟩] ∧ { t with out := s.out } = s) ∧
    (∃ t, exec (.stpReset who c) s = .next t ∧ t.out = [⟨.value, [(who.key : Int), St.access]⟩] ∧ { t with out := s.out } = s)) ∧
  (∀ (s : State) (e c : Nat), ∃ t, exec (.stpReset (.engine e) c) s = .next t ∧ t.get F.STP_CMD_STAT_STATUS = St.access ∧
    t.get F.STP_STAT_DECLARED = s.get F.STP_STAT_DECLARED ∧ t.get F.STP_CAUSE_LATCHED = s.get F.STP_CAUSE_LATCHED) ∧
  (∀ (s : State) (n : Nat) (who : Requester), who = .session n → 2 ≤ s.roleOf who → s.mode ≠ .recovery →
    (∀ c, c ≠ 0x5AFE → ∃ t, exec (.stpReset who c) s = .next t ∧ t.get F.STP_CMD_STAT_STATUS = St.confirm ∧
      t.get F.STP_STAT_DECLARED = s.get F.STP_STAT_DECLARED ∧ t.stp = s.stp) ∧
    (s.get F.STP_STAT_IN_A = 0 ∨ s.get F.STP_STAT_IN_B = 0 ∨ bit (s.get F.STP_CAUSE_ACTIVE) 2 = true →
      ∃ t, exec (.stpReset who 0x5AFE) s = .next t ∧ t.get F.STP_CMD_STAT_STATUS = St.notHealthy ∧
        t.get F.STP_STAT_DECLARED = s.get F.STP_STAT_DECLARED ∧ t.get F.STP_CAUSE_LATCHED = s.get F.STP_CAUSE_LATCHED) ∧
    (s.get F.STP_STAT_IN_A ≠ 0 → s.get F.STP_STAT_IN_B ≠ 0 → bit (s.get F.STP_CAUSE_ACTIVE) 2 = false →
      (s.get F.STP_CAUSE_ACTIVE ≠ 0 ∨ s.mode = .basic ∨ s.phase ≠ .running → ∃ t, exec (.stpReset who 0x5AFE) s = .next t ∧
        t.get F.STP_CMD_STAT_STATUS = St.causePersists ∧ t.get F.STP_STAT_DECLARED = s.get F.STP_STAT_DECLARED) ∧
      (s.get F.STP_CAUSE_ACTIVE = 0 → s.mode = .stop ∨ s.mode = .run ∨ s.mode = .hold ∨ s.mode = .shadow → s.phase = .running →
        ∃ t, exec (.stpReset who 0x5AFE) s = .next t ∧ t.get F.STP_CAUSE_LATCHED = 0 ∧ t.get F.STP_STAT_DECLARED = 0 ∧
          t.get F.STP_STAT_OUT_A = 1 ∧ t.get F.STP_STAT_OUT_B = 1 ∧
          t.get F.STP_CNT_RESETS = min 255 (s.get F.STP_CNT_RESETS + 1) ∧ t.get F.STP_CMD_STAT_CODE = 2 ∧
          t.get F.STP_CMD_STAT_STATUS = St.done ∧ t.fleet = s.fleet ∧ ⟨.lanyardOut, [1, 1]⟩ ∈ t.out ∧
          (s.role = .lead → ⟨.copyRecord, [0, 1]⟩ ∈ t.out)))) ∧
  (∀ (s : State) (k : Nat), s.stp.newKey = some k → s.num % 10 = 0 →
    (∀ r, r < 64 → s.rovOpen r = true → (s.rover r).configAcked = true) ∨ s.past (s.stp.newKeyAt + 60000000000) = true →
    ∃ t, exec .stopKeySwitch s = .next t ∧ t.get F.STP_STAT_KEYID = k % 256 ∧ t.stp.prevKey = s.get F.STP_STAT_KEYID ∧
      t.stp.prevKeyOctets = s.stp.key ∧ t.stp.key = s.workingKey k ∧ t.stp.newKey = none) ∧
  (∀ (s : State), s.stp.newKey = none ∨ s.num % 10 ≠ 0 → s.idle .stopKeySwitch)

/-- A source qualifies and is disqualified by Table 10.1; the first qualified source steps module time by its offset and is selected, and
when none is left the module holds over; RESTEP waits for its frame boundary; TIME_PPS gives the whole seconds and a leap second its
change of LEAP (R434 to R439, R441, R445 to R448).
A command whose own condition does not hold changes nothing: log entry 8. -/
def Obligations.TimeFollowsItsSources : Prop :=
  (∀ (s : State), s.framesOn = true → s.get F.TIM_STAT_GNSS_Q = 0 →
    (10 ≤ s.time.gnssGood → ∃ t, exec (.sourceQualify 1) s = .next t ∧ t.get F.TIM_STAT_GNSS_Q = 1 ∧ t.prog = s.prog ∧
      (s.get F.TIM_STAT_STATE = 0 → s.get F.TIM_CFG_GNSS_SRC ≠ 0 → s.time.stepped = false →
        0 ≤ (s.frame.start : Int) + s.time.offG →
        t.get F.TIM_STAT_STATE = 1 ∧ t.get F.TIM_STAT_SRC = 1 ∧ t.time.offG = 0 ∧ t.time.stepped = true ∧
          (t.frame.start : Int) = s.frame.start + s.time.offG ∧ t.frame.transitional = true ∧ t.mono = s.mono ∧
          t.get F.TIM_STAT_STEPS = min 255 (s.get F.TIM_STAT_STEPS + 1))) ∧
    (s.time.gnssGood < 10 → s.idle (.sourceQualify 1))) ∧
  (∀ (s : State) (src : Nat), s.framesOn = false ∨ s.qualified src = true → s.idle (.sourceQualify src)) ∧
  (∀ (s : State) (a : Announce), s.framesOn = true → s.get F.TIM_STAT_PTP_Q = 0 → s.time.ptp.parent = some a →
    s.get F.TIM_PTP_STAT_PORT = 9 → a.ptpTimescale = true → a.cls ≤ s.get F.TIM_PTP_PRI_MAXCLASS → 16 ≤ s.time.ptp.offs.length →
    (∀ x ∈ s.time.ptp.offs, ∀ y ∈ s.time.ptp.offs, x - y ≤ 1000) →
    ∃ t, exec (.sourceQualify 2) s = .next t ∧ t.get F.TIM_STAT_PTP_Q = 1 ∧ t.prog = s.prog) ∧
  (∀ (s : State), s.get F.TIM_STAT_PTP_Q = 0 →
    s.time.ptp.parent = none ∨ s.get F.TIM_PTP_STAT_PORT ≠ 9 ∨ s.time.ptp.offs.length < 16 → s.idle (.sourceQualify 2)) ∧
  (∀ (s : State), s.framesOn = true → s.get F.TIM_STAT_GNSS_Q ≠ 0 →
    (30 ≤ s.time.gnssBad ∨ 10 ≤ s.time.resBad → ∃ t, exec (.sourceDisqualify 1) s = .next t ∧ t.get F.TIM_STAT_GNSS_Q = 0 ∧
      (s.get F.TIM_STAT_STATE = 1 → s.get F.TIM_STAT_PTP_Q = 0 → t.get F.TIM_STAT_STATE = 2 ∧ t.get F.TIM_STAT_SRC = 0 ∧
        t.time.holdFrom = s.mono ∧ t.time.rhoS = 0 ∧ t.time.rhoF = s.time.rhoF ∧
        t.get F.TIM_CNT_HOLDOVERS = min 255 (s.get F.TIM_CNT_HOLDOVERS + 1))) ∧
    (s.time.gnssBad < 30 → s.time.resBad < 10 → s.idle (.sourceDisqualify 1))) ∧
  (∀ (s : State), s.framesOn = true → s.get F.TIM_STAT_PTP_Q ≠ 0 →
    (s.get F.TIM_PTP_STAT_PORT ≠ 9 ∨ s.time.ptp.parent = none ∨ s.past (s.time.ptp.lastExch + 2000000000) = true →
      ∃ t, exec (.sourceDisqualify 2) s = .next t ∧ t.get F.TIM_STAT_PTP_Q = 0) ∧
    (∀ a, s.get F.TIM_PTP_STAT_PORT = 9 → s.time.ptp.parent = some a → a.ptpTimescale = true →
      a.cls ≤ s.get F.TIM_PTP_PRI_MAXCLASS → s.past (s.time.ptp.lastExch + 2000000000) = false → s.idle (.sourceDisqualify 2))) ∧
  (∀ (s : State) (who : Requester), 2 ≤ s.roleOf who → s.mayWrite who →
    (∀ c, c ≠ 0x5AFE → ∃ t, exec (.restep who c) s = .next t ∧ t.get F.TIM_CMD_STAT_STATUS = St.confirm ∧ t.time = s.time) ∧
    (s.mode ≠ .stop → ∃ t, exec (.restep who 0x5AFE) s = .next t ∧ t.get F.TIM_CMD_STAT_STATUS = St.mode ∧ t.time = s.time) ∧
    (s.mode = .stop → s.phase = .running → s.time.restep = none →
      (s.bestQualified = none → ∃ t, exec (.restep who 0x5AFE) s = .next t ∧ t.get F.TIM_CMD_STAT_STATUS = St.noSource ∧
        t.time = s.time) ∧
      (s.bestQualified.isSome = true → ∃ t, exec (.restep who 0x5AFE) s = .next t ∧ t.get F.TIM_CMD_STAT_STATUS = St.pending ∧
        t.get F.TIM_CMD_STAT_CODE = 1 ∧ t.time.restep.isSome = true ∧
        t.out = [⟨.value, [(who.key : Int), St.pending]⟩]))) ∧
  (∀ (s : State) (wm : Nat), s.framesOn = true → s.phase = .running ∨ s.phase = .shutdown → s.get F.TIM_PPS_EN ≠ 0 →
    s.aligned = true ∨ s.get F.TIM_PPS_UNALIGNED ≠ 0 → s.wholeSecond < s.frameEnd →
    wm = ((s.wholeSecond : Int) - s.time.stepSum).toNat → s.time.lastPps = 0 ∨ s.time.lastPps + 500000000 ≤ wm →
    ∃ t c, exec .ppsPulse s = .next t ∧ t.out = [⟨.pps, [(s.wholeSecond : Int), s.get F.TIM_PPS_WIDTH, s.get F.TIM_PPS_POL, c]⟩] ∧
      t.time.lastPps = wm ∧ (s.time.ppsEnd + 1000000 ≤ wm → c = s.time.ppsEnd) ∧ t.regs = s.regs) ∧
  (∀ (s : State), s.framesOn = false ∨ (s.phase ≠ .running ∧ s.phase ≠ .shutdown) ∨ s.get F.TIM_PPS_EN = 0 ∨ s.frameEnd ≤ s.wholeSecond ∨
    (s.aligned = false ∧ s.get F.TIM_PPS_UNALIGNED = 0) → s.idle .ppsPulse) ∧
  (∀ (s : State) (day : Nat), s.framesOn = true → s.time.insFrom = none →
    (day : Int) = s.utcMs ((s.frame.start / 1000000 : Nat) : Int) % 86400000 →
    (s.get F.TIM_UTC_PENDING = 0 → s.idle .leapSecond) ∧
    (s.get F.TIM_UTC_PENDING = 1 → day < 10 → ∃ t, exec .leapSecond s = .next t ∧
      t.time.insFrom = some (s.frame.start / 1000000 - day) ∧ { t with time := s.time, out := s.out } = s) ∧
    (s.get F.TIM_UTC_PENDING = 1 → 86399990 ≤ day → ∃ t, exec .leapSecond s = .next t ∧
      t.time.insFrom = some (s.frame.start / 1000000 + (86400000 - day)) ∧ { t with time := s.time, out := s.out } = s) ∧
    (∀ l p, s.get F.TIM_UTC_PENDING = 2 → 86398990 ≤ day → day < 86399010 → s.get F.TIM_STAT_GNSS_Q ≠ 0 →
      s.time.leapG = some (l, p) → ∃ t, exec .leapSecond s = .next t ∧ t.get F.TIM_UTC_LEAP = (l - 1) % 256 ∧
        t.get F.TIM_UTC_PENDING = 0 ∧ t.get F.TIM_UTC_LSRC = 1))

/-- A trigger land captures and emits as it is configured; a stamp enters the queue or is counted as lost, and a pop gives the oldest; a
read of the time latches its seconds; the services arm, read and order an emission, and refuse what Table 04.9 names (R433, R455 to
R460).
A command whose own condition does not hold changes nothing: log entry 8. -/
def Obligations.TriggersAndStampsAreKept : Prop :=
  (∀ (s : State) (k a : Nat) (f : Bool), k < 4 → s.framesOn = true → s.get (F.TIM_TRIG_CFG_MODE.at k) = 1 →
    s.get (F.TIM_TRIG_CFG_EDGE.at k) = 2 ∨ s.get (F.TIM_TRIG_CFG_EDGE.at k) = b2n f →
    ∃ t, exec (.trigCapture k f a) s = .next t ∧ t.trig k = { s.trig k with
        valid := true, falling := f, stepped := false, cap := s.frame.start + a
        progCount := min 65535 ((s.trig k).progCount + 1) } ∧
      t.get (F.TIM_TRIG_STAT_COUNT.at k) = min 255 (s.get (F.TIM_TRIG_STAT_COUNT.at k) + 1) ∧
      (∀ j, j ≠ k → t.trig j = s.trig j)) ∧
  (∀ (s : State) (k a : Nat) (f : Bool), s.framesOn = false ∨ s.get (F.TIM_TRIG_CFG_MODE.at k) ≠ 1 ∨
    (s.get (F.TIM_TRIG_CFG_EDGE.at k) ≠ 2 ∧ s.get (F.TIM_TRIG_CFG_EDGE.at k) ≠ b2n f) → s.idle (.trigCapture k f a)) ∧
  (∀ (s : State) (k a : Nat) (o : Origin), (s.trig k).pend = some (a, o) → s.framesOn = true →
    (a < s.frameEnd → ∃ t, exec (.trigEmission k) s = .next t ∧
      t.trig k = { s.trig k with pend := none, emitEnd := a + 1000 * s.get (F.TIM_TRIG_CFG_WIDTH.at k) } ∧
      ⟨.trigPulse, [(k : Int), a, s.get (F.TIM_TRIG_CFG_WIDTH.at k), s.get (F.TIM_TRIG_CFG_POL.at k)]⟩ ∈ t.out ∧
      (s.awaits o → t.ended o St.done [])) ∧
    (s.frameEnd ≤ a → s.idle (.trigEmission k))) ∧
  (∀ (s : State) (k : Nat), (s.trig k).pend = none → s.idle (.trigEmission k)) ∧
  (∀ (s : State) (o : Origin) (b : SvcArgs) (k : Nat), k = b.wa.toNat →
    (4 ≤ k →
      (s.canCall o 0x0E0001 → ∃ t, exec (.trigArm o b) s = .next t ∧ t.told o St.badArg [] ∧ t.regs = s.regs) ∧
      (s.canCall o 0x0E0002 → ∃ t, exec (.trigEmit o b) s = .next t ∧ t.told o St.badArg [] ∧ t.time = s.time) ∧
      (s.canCall o 0x0E0003 → ∃ t, exec (.trigRead o b) s = .next t ∧ t.told o St.badArg [] ∧ t.time = s.time)) ∧
    (k < 4 → s.canCall o 0x0E0001 → b.wb.toNat < 4 →
      (s.get (F.TIM_TRIG_CFG_MODE.at k) ≠ 1 → ∃ t, exec (.trigArm o b) s = .next t ∧ t.told o St.trigMode [] ∧ t.regs = s.regs) ∧
      (s.get (F.TIM_TRIG_CFG_MODE.at k) = 1 → ∃ t, exec (.trigArm o b) s = .next t ∧ t.told o St.done [] ∧
        t.get (F.TIM_TRIG_CFG_EDGE.at k) = b.wb.toNat)) ∧
    (∀ at_, k < 4 → s.canCall o 0x0E0002 → (b.d.getD 2 0).toNat < 1000000000 →
      at_ = ((b.d.getD 0 0).toNat + 2 ^ 32 * (b.d.getD 1 0).toNat) * 1000000000 + (b.d.getD 2 0).toNat →
      (s.get (F.TIM_TRIG_CFG_MODE.at k) ≠ 2 → ∃ t, exec (.trigEmit o b) s = .next t ∧ t.told o St.trigMode [] ∧ t.time = s.time) ∧
      (s.get (F.TIM_TRIG_CFG_MODE.at k) = 2 →
        ((s.trig k).pend.isSome = true → ∃ t, exec (.trigEmit o b) s = .next t ∧ t.told o St.busy [] ∧ t.time = s.time) ∧
        ((s.trig k).pend = none → at_ < (s.trig k).emitEnd → s.now < (s.trig k).emitEnd →
          ∃ t, exec (.trigEmit o b) s = .next t ∧ t.told o St.busy [] ∧ t.time = s.time) ∧
        ((s.trig k).pend = none → (s.trig k).emitEnd ≤ s.now ∨ (s.trig k).emitEnd ≤ at_ →
          (at_ < s.now + 1000000 → ∃ t, exec (.trigEmit o b) s = .next t ∧ t.told o St.tooLate [] ∧ t.time = s.time) ∧
          (s.now + 1000000 ≤ at_ → ∃ t, exec (.trigEmit o b) s = .next t ∧ t.told o St.pending [] ∧
            t.trig k = { s.trig k with pend := some (at_, o) } ∧ t.regs = s.regs)))) ∧
    (k < 4 → s.canCall o 0x0E0003 → s.get (F.TIM_TRIG_CFG_MODE.at k) ≠ 1 → ∃ t, exec (.trigRead o b) s = .next t ∧
      t.told o St.trigMode [] ∧ t.time = s.time) ∧
    (k < 4 → s.canCall o 0x0E0003 → s.get (F.TIM_TRIG_CFG_MODE.at k) = 1 → ∃ t, exec (.trigRead o b) s = .next t ∧
      t.told o St.done [(s.trig k).cap / 1000000000 % 2 ^ 32, (s.trig k).cap / 1000000000 / 2 ^ 32 % 2 ^ 16,
        (s.trig k).cap % 1000000000, (s.trig k).progCount * 65536 + 4 * b2n (s.trig k).falling + 2 * b2n (s.trig k).stepped +
          b2n (s.trig k).valid] ∧
      t.trig k = { s.trig k with progCount := 0 })) ∧
  (∀ (s : State) (who : Requester) (k : Nat), k < 4 → ∃ t, exec (.timTrigStatRead who k) s = .next t ∧
    t.get (F.TIM_TRIG_STAT_COUNT.at k) = 0 ∧ t.trig k = s.trig k ∧
    t.latched (Win.trig k) who.key = [(s.trig k).cap / 1000000000 % 2 ^ 32, (s.trig k).cap % 1000000000]) ∧
  (∀ (s : State) (who : Requester) (a : Nat), s.frame.off ≤ a → ∃ t, exec (.timNowNsRead who a) s = .next t ∧
    t.out = [⟨.value, [(who.key : Int), St.done, ((s.frame.start + a) % 1000000000 : Nat)]⟩] ∧
    t.latched Win.sec who.key = [(s.frame.start + a) / 1000000000 % 2 ^ 32, (s.frame.start + a) / 1000000000 / 2 ^ 32 % 2 ^ 16] ∧
    t.regs = s.regs) ∧
  (∀ (s : State) (id port a : Nat),
    (s.time.txq.length < 32 → ∃ t, exec (.txTimestamp id port a false) s = .next t ∧
      t.time = { s.time with txq := s.time.txq ++ [⟨id % 65536, port, s.frame.start + a⟩] } ∧ t.regs = s.regs ∧ t.out = []) ∧
    (32 ≤ s.time.txq.length → ∃ t, exec (.txTimestamp id port a false) s = .next t ∧ t.time = s.time ∧
      t.get F.TIM_TXQ_OVERFLOW = min 65535 (s.get F.TIM_TXQ_OVERFLOW + 1)) ∧
    (∀ x l, s.time.txq = x :: l → l.length < 32 → ∃ t, exec (.txTimestamp id port a true) s = .next t ∧
      t.time = { s.time with txq := l ++ [⟨id % 65536, port, s.frame.start + a⟩] } ∧ t.regs = s.regs ∧
      t.out = [⟨.value, [0, 0, (x.id : Int), x.port, (x.at_ / 1000000000 % 2 ^ 48 : Nat), (x.at_ % 1000000000 : Nat)]⟩])) ∧
  (∀ (s : State) (x : Stamp) (l : List Stamp), s.time.txq = x :: l → ∃ t, exec .txqPop s = .next t ∧
    t.time = { s.time with txq := l } ∧ t.out = [⟨.value, [0, 0, (x.id : Int), x.port, (x.at_ / 1000000000 % 2 ^ 48 : Nat),
      (x.at_ % 1000000000 : Nat)]⟩] ∧ { t with time := s.time, out := s.out } = s) ∧
  (∀ (s : State), s.time.txq = [] → s.idle .txqPop)

/-- The PTP clock: a slave takes the Sync, Follow_Up and Delay_Resp of its parent alone, and a complete exchange gives its offset and path
delay; the best master becomes the parent, and silence ends it; a master sends, and answers, only as master; a transparent clock adds
the residence time (R450 to R452, R460, Table 10.3).
A command whose own condition does not hold changes nothing: log entry 8. -/
def Obligations.PtpFollowsItsMaster : Prop :=
  (∀ (s : State) (q gm : Nat) (t1 t2 c : Int), s.ptpSlave = true → s.fromParent gm = true →
    (∃ t, exec (.ptpSyncRx q gm t1 t2 c true) s = .next t ∧ t.time = { s.time with
      ptp := { s.time.ptp with syncSeq := some (q, t2, c) } } ∧ { t with time := s.time, out := s.out } = s) ∧
    (∃ t, exec (.ptpSyncRx q gm t1 t2 c false) s = .next t ∧ t.time = { s.time with ptp := { s.time.ptp with
      syncSeq := none, t1 := t1, t2 := t2, syncCorr := c, haveSync := true } } ∧ { t with time := s.time, out := s.out } = s) ∧
    (∀ c0, s.time.ptp.syncSeq = some (q, t2, c0) → ∃ t, exec (.ptpFollowUpRx q gm t1 c) s = .next t ∧
      t.time = { s.time with ptp := { s.time.ptp with
        syncSeq := none, t1 := t1, t2 := t2, syncCorr := c0 + c, haveSync := true } } ∧
      { t with time := s.time, out := s.out } = s) ∧
    (∀ t3 t4 down up, s.time.ptp.t3 = some t3 → s.time.ptp.reqSeq = q → s.time.ptp.haveSync = true →
      down = s.time.ptp.t2 - s.time.ptp.t1 - s.time.ptp.syncCorr → up = t4 - t3 - c →
      ∃ t, exec (.ptpDelayRespRx q gm t4 c) s = .next t ∧ t.get F.TIM_PTP_STAT_PORT = 9 ∧
        t.get F.TIM_PTP_DELAY_DELAY = min (2 ^ 32 - 1) ((down + up) / 2).toNat ∧ t.time.offP = (down + up) / 2 - down ∧
        t.time.ptp.t3 = none ∧ t.time.ptp.lastExch = s.mono)) ∧
  (∀ (s : State) (q gm : Nat) (t1 t2 c : Int) (two : Bool), s.ptpSlave = false ∨ s.fromParent gm = false →
    s.idle (.ptpSyncRx q gm t1 t2 c two) ∧ s.idle (.ptpFollowUpRx q gm t1 c) ∧ s.idle (.ptpDelayRespRx q gm t1 c)) ∧
  (∀ (s : State) (t3 : Int) (q : Nat), s.ptpSlave = true → s.time.ptp.haveSync = true → q = (s.time.ptp.reqSeq + 1) % 65536 →
    ∃ t, exec (.ptpDelayReqTx t3) s = .next t ∧ t.time.ptp.reqSeq = q ∧ t.out = [⟨.ptp, [Ptp.delayReq, (q : Int)]⟩] ∧
      t.time.ptp.t3 = if s.time.txq.length < 32 then some t3 else none) ∧
  (∀ (s : State) (t3 : Int), s.ptpSlave = false ∨ s.time.ptp.haveSync = false → s.idle (.ptpDelayReqTx t3)) ∧
  (∀ (s : State) (a : Announce), s.ptpOn = true → a.domain = s.get F.TIM_PTP_CFG_DOMAIN → a.gm ≠ s.ownClock →
    s.get F.TIM_PTP_CFG_MASTER = 0 →
    (s.time.ptp.parent = none → ∃ t, exec (.ptpAnnounceRx a) s = .next t ∧ t.time.ptp.parent = some a ∧
      t.get F.TIM_PTP_STAT_PORT = 8 ∧ t.time.ptp.offs = [] ∧ t.time.ptp.parentAt = s.mono ∧
      t.get F.TIM_PTP_GM_LO_ID = a.gm % 2 ^ 32) ∧
    (∀ p, s.time.ptp.parent = some p → p.sender = a.sender → ∃ t, exec (.ptpAnnounceRx a) s = .next t ∧
      t.time.ptp.parent = some a ∧ t.get F.TIM_PTP_STAT_PORT = s.get F.TIM_PTP_STAT_PORT ∧ t.time.ptp.offs = s.time.ptp.offs ∧
      t.time.ptpAcc = a.acc) ∧
    (∀ p, s.time.ptp.parent = some p → p.sender ≠ a.sender → a.better p = false → s.idle (.ptpAnnounceRx a))) ∧
  (∀ (s : State) (a : Announce), s.ptpOn = false ∨ a.domain ≠ s.get F.TIM_PTP_CFG_DOMAIN ∨ a.gm = s.ownClock →
    s.idle (.ptpAnnounceRx a)) ∧
  (∀ (s : State), s.ptpOn = true → s.ptpPort ≠ 6 →
    s.past (s.time.ptp.parentAt + s.get F.TIM_PTP_CFG_ANN_TMO * 2 ^ s.get F.TIM_PTP_CFG_LOG_ANN * 1000000000) = true →
    ∃ t, exec .ptpAnnounceTimeout s = .next t ∧ t.time.ptp.parent = none ∧ t.time.leapP = none ∧
      t.get F.TIM_PTP_STAT_PORT = if s.get F.TIM_PTP_CFG_MASTER ≠ 0 then 6 else 4) ∧
  (∀ (s : State), s.ptpOn = false ∨ s.ptpPort = 6 → s.idle .ptpAnnounceTimeout) ∧
  (∀ (s : State) (q : Nat), s.ptpOn = true → s.ptpPort = 6 →
    (q = (s.time.ptp.txSyncSeq + 1) % 65536 → s.time.txq.length < 32 → ∃ t, exec .ptpSyncTx s = .next t ∧
      t.time.ptp.txSyncSeq = q ∧ t.out = [⟨.ptp, [Ptp.sync, (q : Int)]⟩, ⟨.ptp, [Ptp.followUp, (q : Int), s.now]⟩]) ∧
    (q = (s.time.ptp.txSyncSeq + 1) % 65536 → 32 ≤ s.time.txq.length → ∃ t, exec .ptpSyncTx s = .next t ∧
      t.out = [⟨.ptp, [Ptp.sync, (q : Int)]⟩]) ∧
    (q = (s.time.ptp.txAnnSeq + 1) % 65536 → ∃ t l, exec .ptpAnnounceTx s = .next t ∧ t.time.ptp.txAnnSeq = q ∧
      t.out = [⟨.ptp, [Ptp.announce, (q : Int), s.masterClass.1, s.masterClass.2.1, s.masterClass.2.2] ++ l⟩]) ∧
    (∀ src t4, ∃ t, exec (.ptpDelayReqRx q src t4) s = .next t ∧ t.out = [⟨.ptp, [Ptp.delayResp, (q : Int), src, t4]⟩] ∧
      { t with out := s.out } = s)) ∧
  (∀ (s : State) (q src : Nat) (t4 : Int), s.ptpOn = false ∨ s.ptpPort ≠ 6 →
    s.idle .ptpSyncTx ∧ s.idle .ptpAnnounceTx ∧ s.idle (.ptpDelayReqRx q src t4)) ∧
  (∀ (s : State) (typ : Nat) (two b : Bool) (c r : Int),
    (s.framesOn = true → s.get F.TIM_PTP_CFG_TC_EN ≠ 0 →
      ((typ = 0 ∧ two = false) ∨ typ = 1 ∨ typ = 8 → ∃ t, exec (.ptpTcForward typ two b c r) s = .next t ∧
        t.out = [⟨.ptp, [(typ : Int), 1, (b2n b : Int), c + r]⟩] ∧ { t with out := s.out } = s) ∧
      ((typ = 0 ∧ two = true) ∨ (typ ≠ 0 ∧ typ ≠ 1 ∧ typ ≠ 8) → ∃ t, exec (.ptpTcForward typ two b c r) s = .next t ∧
        t.out = [⟨.ptp, [(typ : Int), 1, (b2n b : Int), c]⟩] ∧ { t with out := s.out } = s)) ∧
    (s.framesOn = false ∨ s.get F.TIM_PTP_CFG_TC_EN = 0 → s.idle (.ptpTcForward typ two b c r)))

/-- The real-time clock: a commit takes a valid date as one set and refuses any other, a disciplined clock and a lockout; a requester's
first read freezes its copy for a second; trim, leap second, the end of the count, discipline and a stopped oscillator act as the chapter
says (R461 to R469).
A command whose own condition does not hold changes nothing: log entry 8. -/
def Obligations.TheRtcKeepsItsDate : Prop :=
  (∀ (s : State) (who : Requester), s.mayWrite who →
    (s.get F.RTC_STAT_LOCKOUT ≠ 0 → ∃ t, exec (.rtcCommit who) s = .next t ∧
      t.out = [⟨.value, [(who.key : Int), St.busy]⟩] ∧ { t with out := s.out } = s) ∧
    (s.get F.RTC_STAT_LOCKOUT = 0 → s.disciplined = true → ∃ t, exec (.rtcCommit who) s = .next t ∧
      t.out = [⟨.value, [(who.key : Int), St.disciplined]⟩] ∧ { t with out := s.out } = s) ∧
    (s.get F.RTC_STAT_LOCKOUT = 0 → s.disciplined = false → s.stagedValid = false → ∃ t, exec (.rtcCommit who) s = .next t ∧
      t.get F.RTC_STAT_BAD_DATE = 1 ∧ t.rtc = s.rtc ∧ t.out = [⟨.value, [(who.key : Int), St.badDate]⟩]) ∧
    (s.get F.RTC_STAT_LOCKOUT = 0 → s.disciplined = false → s.stagedValid = true → ∃ t, exec (.rtcCommit who) s = .next t ∧
      t.rtc.t = ⟨secsOf (s.get F.RTC_W_YEAR_VAL) (s.get F.RTC_W_MONTH_VAL) (s.get F.RTC_W_DAY_VAL)
        (s.get F.RTC_W_HOUR_VAL) (s.get F.RTC_W_MIN_VAL) (s.get F.RTC_W_SEC_VAL), false, 0⟩ ∧ t.get F.RTC_STAT_OSF = 0 ∧
      t.rtc.trim = s.getI F.RTC_TRIM_PULSES ∧ t.rtc.shadows = s.rtc.shadows ∧ t.out = [⟨.value, [(who.key : Int), St.done]⟩])) ∧
  (∀ (s : State) (who : Requester),
    (∃ t, exec (.rtcSubsecRead who) s = .next t ∧ t.out = [⟨.value, [(who.key : Int), St.done, ((s.rtc.lockT.getD s.rtc.t).sub : Int)]⟩] ∧
      SMap.get? t.rtc.shadows who.key = some ⟨s.rtc.lockT.getD s.rtc.t, s.mono + 1000000000⟩ ∧
      (∀ k, k ≠ who.key → SMap.get? t.rtc.shadows k = SMap.get? s.rtc.shadows k) ∧
      { t with rtc := s.rtc, out := s.out } = s) ∧
    (∃ t, exec (.rtcYearRead who) s = .next t ∧ t.out = [⟨.value, [(who.key : Int), St.done, ((s.rtcSeen who.key).civil.year : Int)]⟩] ∧
      t.rtc.shadows = SMap.erase s.rtc.shadows who.key ∧ { t with rtc := s.rtc, out := s.out } = s) ∧
    (∀ x, SMap.get? s.rtc.shadows who.key = some x →
      (s.past x.untilMono = true → ∃ t, exec (.rtcFreezeExpiry who) s = .next t ∧
        t.rtc = { s.rtc with shadows := SMap.erase s.rtc.shadows who.key } ∧ { t with rtc := s.rtc, out := s.out } = s) ∧
      (s.past x.untilMono = false → s.idle (.rtcFreezeExpiry who)))) ∧
  (∀ (s : State),
    (s.rtc.t.secs % 64 = 0 → s.rtc.t.in60 = false → ∃ t, exec .rtcTrimWindow s = .next t ∧
      t.rtc = { s.rtc with trim := s.getI F.RTC_TRIM_PULSES } ∧ { t with rtc := s.rtc, out := s.out } = s) ∧
    (s.rtc.t.secs % 64 ≠ 0 → s.idle .rtcTrimWindow)) ∧
  (∀ (s : State), s.rtc.t.in60 = false → 32767 ≤ s.rtc.t.sub + 400 →
    (s.get F.RTC_LEAP_MODE = 1 → monthEnd s.rtc.t.secs 86399 = true → ∃ t, exec .rtcLeapAct s = .next t ∧
      t.rtc.t = ⟨s.rtc.t.secs, true, 0⟩ ∧ t.get F.RTC_LEAP_MODE = 0) ∧
    (s.get F.RTC_LEAP_MODE = 2 → monthEnd s.rtc.t.secs 86398 = true → s.rtc.t.secs + 2 ≤ rtcLast →
      ∃ t, exec .rtcLeapAct s = .next t ∧ t.rtc.t = ⟨s.rtc.t.secs + 2, false, 0⟩ ∧ t.get F.RTC_LEAP_MODE = 0) ∧
    (s.get F.RTC_LEAP_MODE = 0 → s.idle .rtcLeapAct ∧
      (s.rtc.t.secs = rtcLast → ∃ t, exec .rtcRollover s = .next t ∧ t.rtc.t = ⟨0, false, 0⟩ ∧ t.get F.RTC_STAT_OSF = 1)) ∧
    (s.rtc.t.secs ≠ rtcLast → s.idle .rtcRollover)) ∧
  (∀ (s : State), s.disciplined = true → s.past (s.rtc.lastDisc + 60000000000) = true →
    ∃ t, exec .rtcDiscipline s = .next t ∧ t.rtc.lastDisc = s.mono ∧ t.rtc.lastDiff = s.rtcDiff ∧ t.rtc.t = s.rtc.t ∧
      t.get F.RTC_LEAP_MODE = s.get F.TIM_UTC_PENDING % 4 ∧ (t.rtc.ownCommit.isSome = true ↔ 500 < s.rtcDiff.natAbs) ∧
      -1023 ≤ t.getI F.RTC_TRIM_PULSES ∧ t.getI F.RTC_TRIM_PULSES ≤ 1023) ∧
  (∀ (s : State), s.disciplined = false ∨ s.past (s.rtc.lastDisc + 60000000000) = false → s.idle .rtcDiscipline) ∧
  (∀ (s : State),
    (∃ t, exec (.rtcOscillatorStop false) s = .next t ∧ t.get F.RTC_STAT_OSF = 1 ∧ t.rtc = s.rtc) ∧
    (∃ t, exec (.rtcOscillatorStop true) s = .next t ∧ t.get F.RTC_STAT_OSF = 1 ∧ t.rtc.t = ⟨0, false, 0⟩)) ∧
  (∀ (s : State) (o : Origin) (a : SvcArgs) (c : Civil), s.canCall o 0x0F0001 → c = (s.rtc.lockT.getD s.rtc.t).civil →
    ∃ t l, exec (.calRead o a) s = .next t ∧ t.rtc = s.rtc ∧
      t.told o St.done ([(s.rtc.lockT.getD s.rtc.t).sub, c.sec, c.min, c.hour, 256 * c.weekday + c.day, c.month, c.year] ++ l))

/-- The frames that wait are published, or replaced by an estimate after four, and their energy enters the accumulators of an enabled
feeder; a save goes to the older copy; gain falls and rises under automatic control; a pulse counts one pending off; CLEAR_ALL, the reads
and the services act under their conditions (R477, R485 to R489, R491 to R493, R495, R497, R501).
A command whose own condition does not hold changes nothing: log entry 8. -/
def Obligations.MeteringAccountsItsFrames : Prop :=
  (∀ (s : State) (m : MFrame) (d : Nat), s.meter.running = true → s.meter.queue = [m] → m.age < 3 → 8 ∉ s.frame.late →
    s.frame.off ≤ 2000000 → d ≤ 2000000 → s.meter.feeders.length = 4 →
    ∃ t, exec (.meterPublication d) s = .next t ∧ t.meter.queue = [] ∧ t.frame.off = 2000000 ∧ t.meter.clearBy = none ∧
      t.meter.accTo = m.tai ∧ t.meter.accNum = m.num ∧
      ∀ f, f < 4 →
        (s.feederOn f = false → (t.feeder f).valid = false ∧ (t.feeder f).block = []) ∧
        (s.feederOn f = true → (t.feeder f).valid = s.feederGood f ∧ (t.feeder f).pubAt = t.mono ∧
          ∀ a r al rl e, s.meter.clearBy = none → (s.feeder f).acc = a :: al → (s.feeder f).frac = r :: rl →
            e = sumI ((m.energy.getD f []).map fun z => z.getD 0) →
            (t.feeder f).acc.head? = some ((a + (r + e.toNat) / mwhUnit) % accMod) ∧
              (t.feeder f).frac.head? = some ((r + e.toNat) % mwhUnit))) ∧
  (∀ (s : State) (d : Nat), s.meter.running = false ∨ (∀ m ∈ s.meter.queue, 3 ≤ m.age) ∨ 8 ∈ s.frame.late ∨
    2000000 < s.frame.off ∨ 2000000 < d → s.idle (.meterPublication d)) ∧
  (∀ (s : State) (m : MFrame), s.meter.running = true → s.meter.queue = [m] → 3 ≤ m.age → s.meter.feeders.length = 4 →
    ∃ t, exec .meterEstimate s = .next t ∧ t.meter.queue = [] ∧
      t.get F.MTR_CNT_EST_FRAMES = min 65535 (s.get F.MTR_CNT_EST_FRAMES + 1) ∧
      ∀ f, f < 4 → s.feederOn f = true → (t.feeder f).valid = false) ∧
  (∀ (s : State), s.meter.running = false ∨ (∀ m ∈ s.meter.queue, m.age < 3) → s.idle .meterEstimate) ∧
  (∀ (s : State), s.meter.running = true → s.get F.MTR_STAT_SUSPENDED = 0 → s.meter.lastSave + 60000000000 ≤ s.meter.pubAt →
    ∃ t c, exec .meterPeriodicSave s = .next t ∧ t.meter.lastSave = s.mono ∧ c.valid = true ∧
      c.at_ = (if s.meter.accTo = 0 then s.frame.start else s.meter.accTo) ∧
      c.frame = (if s.meter.accTo = 0 then s.num else s.meter.accNum) ∧
      c.counter = Nat.max s.meter.copy0.counter s.meter.copy1.counter + 1 ∧ c.acc = s.meter.feeders.map Feeder.acc ∧
      (if s.olderCopy = 0 then t.meter.copy0 = c ∧ t.meter.copy1 = s.meter.copy1
        else t.meter.copy1 = c ∧ t.meter.copy0 = s.meter.copy0)) ∧
  (∀ (s : State), s.meter.running = false ∨ s.get F.MTR_STAT_SUSPENDED ≠ 0 ∨ s.meter.pubAt < s.meter.lastSave + 60000000000 →
    s.idle .meterPeriodicSave) ∧
  (∀ (s : State) (ch g : Nat) (l : List Int), s.autoGain ch = true → g = s.get (F.MTR_CH_STAT_GAIN.at ch) →
    (0 < g → s.get F.MTR_AGS_GLITCH ≤ l.length → (∀ x ∈ l, 9 * fullCode ≤ 10 * x.natAbs) →
      ∃ t, exec (.gainDown ch l) s = .next t ∧ t.get (F.MTR_CH_STAT_GAIN.at ch) = (g - 1) % 4 ∧
        t.get F.MTR_CNT_GAIN_SW = min 65535 (s.get F.MTR_CNT_GAIN_SW + 1)) ∧
    (g = 0 ∨ l.length < s.get F.MTR_AGS_GLITCH → s.idle (.gainDown ch l)) ∧
    (g < 3 → s.get F.MTR_AGS_UPHOLD ≤ (SMap.getD s.meter.chans ch {}).lowFrames →
      ∃ t, exec (.gainUp ch) s = .next t ∧ t.get (F.MTR_CH_STAT_GAIN.at ch) = g + 1 ∧
        t.get F.MTR_CNT_GAIN_SW = min 65535 (s.get F.MTR_CNT_GAIN_SW + 1)) ∧
    (3 ≤ g ∨ (SMap.getD s.meter.chans ch {}).lowFrames < s.get F.MTR_AGS_UPHOLD → s.idle (.gainUp ch))) ∧
  (∀ (s : State) (ch : Nat) (l : List Int), s.autoGain ch = false → s.idle (.gainDown ch l) ∧ s.idle (.gainUp ch)) ∧
  (∀ (s : State) (p w start : Nat) (x : Pulse), p < 8 → x = s.meter.pulses.getD p {} → w = s.get (F.MTR_PUL_CFG_WIDTH.at p) →
    start = ((if x.endAt = 0 then s.now else Nat.max s.now (((x.endAt + w * 1000000 : Nat) : Int) + s.time.stepSum).toNat)
      + 999999) / 1000000 * 1000000 → s.meter.running = true → s.get F.MTR_STAT_SUSPENDED = 0 →
    s.get (F.MTR_PUL_CFG_EN.at p) ≠ 0 → s.mode ≠ .recovery →
    (s.get (F.MTR_PUL_STAT_PENDING.at p) ≠ 0 → start < s.frameEnd → ∃ t, exec (.pulseEmit p) s = .next t ∧
      t.get (F.MTR_PUL_STAT_PENDING.at p) = (s.get (F.MTR_PUL_STAT_PENDING.at p) - 1) % 65536 ∧
      t.out = [⟨.meterPulse, [(p : Int), start, w, s.get (F.MTR_PUL_CFG_POL.at p)]⟩]) ∧
    (s.get (F.MTR_PUL_STAT_PENDING.at p) = 0 ∨ s.frameEnd ≤ start → s.idle (.pulseEmit p))) ∧
  (∀ (s : State) (who : Requester), 2 ≤ s.roleOf who → s.mayWrite who →
    (∀ c, c ≠ 0x5AFE → ∃ t, exec (.clearAll who c) s = .next t ∧ t.get F.MTR_CMD_STAT_STATUS = St.confirm ∧ t.meter = s.meter) ∧
    (s.keys.life ≠ .blank → s.keys.life ≠ .provisioned → ∃ t, exec (.clearAll who 0x5AFE) s = .next t ∧
      t.get F.MTR_CMD_STAT_STATUS = St.lifecycle ∧ t.meter = s.meter) ∧
    (s.keys.life = .blank ∨ s.keys.life = .provisioned →
      (s.mode ≠ .stop → ∃ t, exec (.clearAll who 0x5AFE) s = .next t ∧ t.get F.MTR_CMD_STAT_STATUS = St.mode ∧ t.meter = s.meter) ∧
      (s.mode = .stop → s.phase = .running → ∃ t, exec (.clearAll who 0x5AFE) s = .next t ∧
        t.get F.MTR_CMD_STAT_STATUS = St.pending ∧ t.meter.clearBy.isSome = true ∧ t.meter.feeders = s.meter.feeders))) ∧
  (∀ (s : State) (who : Requester) (f q : Nat), ∃ t, exec (.mtrAccLoRead who f q) s = .next t ∧
    t.out = [⟨.value, [(who.key : Int), St.done, ((s.feeder f).acc.getD q 0 % 2 ^ 32 : Nat)]⟩] ∧
    t.latched (Win.acc f q) who.key = [(s.feeder f).acc.getD q 0 / 2 ^ 32] ∧ t.meter = s.meter) ∧
  (∀ (s : State) (who : Requester) (w : Word), s.mayWrite who → ∃ t, exec (.mtrEsel who w) s = .next t ∧
    t.get F.MTR_ESEL_FEEDER = w.toNat % 4 ∧ t.out = [⟨.value, [(who.key : Int), St.done]⟩] ∧ t.meter = s.meter ∧
    t.latched Win.meter who.key = (List.range 64).map fun k => (s.feeder (w.toNat % 4)).block.getD k 0) ∧
  (∀ (s : State) (o : Origin) (a : SvcArgs) (f c : Nat), s.canCall o 0x100001 → f = a.wa.toNat → c = a.wb.toNat →
    (4 ≤ f ∨ 7 ≤ c → ∃ t, exec (.harmRead o a) s = .next t ∧ t.told o St.badArg []) ∧
    (f < 4 → c < 7 → s.feederOn f = false → ∃ t, exec (.harmRead o a) s = .next t ∧ t.told o St.feederOff []) ∧
    (f < 4 → c < 7 → s.feederOn f = true → (s.feeder f).harmAt = none ∨ (∃ k, (s.feeder f).harmAt = some k ∧ k + 1000000000 < s.mono) →
      ∃ t, exec (.harmRead o a) s = .next t ∧ t.told o St.noHarmonics []) ∧
    (∀ k, f < 4 → c < 7 → s.feederOn f = true → (s.feeder f).harmAt = some k → s.mono ≤ k + 1000000000 →
      ∃ t, exec (.harmRead o a) s = .next t ∧ t.meter = s.meter ∧
        t.told o St.done ((s.feeder f).thd.getD c 0 :: (List.range 63).map fun n => ((s.feeder f).harm.getD c []).getD n 0))) ∧
  (∀ (s : State) (o : Origin) (a : SvcArgs) (f : Nat), s.canCall o 0x100002 → f = a.wa.toNat →
    (4 ≤ f → ∃ t, exec (.demandReset o a) s = .next t ∧ t.told o St.badArg [] ∧ t.regs = s.regs) ∧
    (f < 4 → s.feederOn f = false → ∃ t, exec (.demandReset o a) s = .next t ∧ t.told o St.feederOff [] ∧ t.regs = s.regs) ∧
    (f < 4 → s.feederOn f = true → ∃ t, exec (.demandReset o a) s = .next t ∧ t.told o St.done [] ∧
      t.get (F.MTR_FD_MAXDEM_W.at f) = 0 ∧ t.get (F.MTR_FD_MAXT_LO_SEC.at f) = 0 ∧ t.get (F.MTR_FD_MAXT_HI_SEC.at f) = 0 ∧
      t.meter = s.meter))

/-- The switch learns, forwards, floods within its storm limit and counts what it drops; the interfaces answer for their own addresses;
a station gives its diagnostics; a DALI line takes calls, sends one transaction in its slot, repeats what collided, and loses its queue
with its power (R511 to R514, R519 to R523, R553).
A command whose own condition does not hold changes nothing: log entry 8. -/
def Obligations.WiredPortsCarryTheirFrames : Prop :=
  (∀ (s : State) (p : Nat) (f : EthFrame), s.framesOn = true → p < 2 → f.bad = false →
    f.len ≤ (if f.vid.isSome = true then 1522 else 1518) →
    (isGroupMac f.src = false → s.wired.macs.length < 1024 → f.own = true → ∃ t, exec (.ethFrameRx p f) s = .next t ∧
      t.macPort f.src = some p ∧ t.out = [] ∧ t.regs = s.regs) ∧
    (∀ q, f.own = false → isGroupMac f.dst = false → f.dst ≠ f.src → s.macPort f.dst = some q →
      ∃ t, exec (.ethFrameRx p f) s = .next t ∧ t.regs = s.regs ∧
        t.out = if q = p then [] else [⟨.eth, [(q : Int), f.queue, f.src, f.dst, f.len]⟩]) ∧
    (∀ n, f.own = false → isGroupMac f.dst = true ∨ (f.dst ≠ f.src ∧ s.macPort f.dst = none) →
      n = (if s.wired.stormSec = s.now / 1000000000 then SMap.getD s.wired.stormCnt p 0 else 0) + 1 →
      (n ≤ s.get F.ETH_CFG_STORM → ∃ t, exec (.ethFrameRx p f) s = .next t ∧ t.regs = s.regs ∧
        t.out = [⟨.eth, [((1 - p : Nat) : Int), f.queue, f.src, f.dst, f.len]⟩]) ∧
      (s.get F.ETH_CFG_STORM < n → ∃ t, exec (.ethFrameRx p f) s = .next t ∧ t.out = [] ∧
        t.get (F.ETH_PCNT_DROPS.at p) = min 65535 (s.get (F.ETH_PCNT_DROPS.at p) + 1)))) ∧
  (∀ (s : State) (p : Nat) (f : EthFrame), s.framesOn = true → p < 3 →
    (f.bad = true ∨ (if f.vid.isSome = true then 1522 else 1518) < f.len → ∃ t, exec (.ethFrameRx p f) s = .next t ∧ t.out = [] ∧
      t.wired = s.wired ∧ t.get (F.ETH_PCNT_RX_ERR.at p) = min 65535 (s.get (F.ETH_PCNT_RX_ERR.at p) + 1))) ∧
  (∀ (s : State) (p : Nat) (f : EthFrame), s.framesOn = false ∨ 3 ≤ p ∨ (p = 2 ∧ f.bad = false ∧ f.len ≤ 1518) →
    s.idle (.ethFrameRx p f)) ∧
  (∀ (s : State) (sv : Bool) (ip : Word) (vid : Option Nat) (id q : Nat),
    (s.ifOn sv = true → s.vlanOk sv vid = true → s.ownsIp sv ip.toNat = true →
      (∃ t, exec (.arpRequest sv ip vid) s = .next t ∧ t.out = [⟨.arp, [(b2n sv : Int), ip.toNat] ++ s.vlanTag sv⟩] ∧ { t with out := s.out } = s) ∧
      (∃ t, exec (.icmpEcho sv ip vid id q) s = .next t ∧ t.out = [⟨.icmp, [(b2n sv : Int), ip.toNat, id, q] ++ s.vlanTag sv⟩] ∧
        { t with out := s.out } = s)) ∧
    (s.ifOn sv = false ∨ s.vlanOk sv vid = false ∨ s.ownsIp sv ip.toNat = false →
      s.idle (.arpRequest sv ip vid) ∧ s.idle (.icmpEcho sv ip vid id q))) ∧
  (∀ (s : State) (p : Nat) (up : Bool),
    (p < 3 → ∃ t, exec (.ethLinkChange p up) s = .next t ∧ bit (t.get F.ETH_STAT_LINK) p = up ∧
      (∀ j, j < 3 → j ≠ p → bit (t.get F.ETH_STAT_LINK) j = bit (s.get F.ETH_STAT_LINK) j)) ∧
    (3 ≤ p → s.idle (.ethLinkChange p up))) ∧
  (∀ (s : State) (o : Origin) (a : SvcArgs) (k : Nat), s.canCall o 0x110001 → k = a.wa.toNat →
    (128 ≤ k → ∃ t, exec (.stationDiag o a) s = .next t ∧ t.told o St.badArg []) ∧
    (k < 128 → s.plan k = none → ∃ t, exec (.stationDiag o a) s = .next t ∧ t.told o St.stationAbsent []) ∧
    (∀ p x, k < 128 → s.plan k = some p → x = s.station k → ∃ t, exec (.stationDiag o a) s = .next t ∧
      t.told o St.done [x.st, x.diag.getD 0 0, x.diag.getD 1 0, x.statOct, p.wdog, 256 * p.o + p.i, 0, 0])) ∧
  (∀ (s : State) (o : Origin) (a : SvcArgs) (l b : Nat), l = a.wa.toNat → b = a.wb.toNat →
    s.wired.lines.length = 4 → l < 4 → daliAddr b = true →
    (s.canCall o 0x120001 →
      (s.get (F.DAL_LINE_CFG_EN.at l) = 0 → ∃ t, exec (.daliArc o a) s = .next t ∧ t.told o St.daliLineOff [] ∧ t.wired = s.wired) ∧
      (s.get (F.DAL_LINE_CFG_EN.at l) ≠ 0 → s.get (F.DAL_LINE_STAT_POWER.at l) = 0 → ∃ t, exec (.daliArc o a) s = .next t ∧
        t.told o St.daliNoPower [] ∧ t.wired = s.wired) ∧
      (s.get (F.DAL_LINE_CFG_EN.at l) ≠ 0 → s.get (F.DAL_LINE_STAT_POWER.at l) ≠ 0 → 32 ≤ (s.line l).queue.length →
        ∃ t, exec (.daliArc o a) s = .next t ∧ t.told o St.busy [] ∧ t.wired = s.wired)) ∧
    (s.get (F.DAL_LINE_CFG_EN.at l) ≠ 0 → s.get (F.DAL_LINE_STAT_POWER.at l) ≠ 0 → (s.line l).queue.length < 32 →
      (s.canCall o 0x120001 → ∃ t, exec (.daliArc o a) s = .next t ∧ t.told o St.pending [] ∧
        (t.line l).queue = daliQueue (s.line l).queue { addr := b, arc := true, octet := (a.d.getD 0 0).toNat % 256, by_ := o }) ∧
      (∀ (sp : Bool) (x : DaliTxn), sp = bit (a.d.getD 1 0).toNat 1 → x = {
          addr := if sp = true then 255 else b, octet := (a.d.getD 0 0).toNat % 256, twice := bit (a.d.getD 1 0).toNat 0, by_ := o
          special := if sp = true then some ((a.d.getD 0 0).toNat / 256 % 256) else none } →
        (s.canCall o 0x120002 → ∃ t, exec (.daliCmd o a) s = .next t ∧ t.told o St.pending [] ∧
          (t.line l).queue = daliQueue (s.line l).queue x) ∧
        (s.canCall o 0x120003 → ∃ t, exec (.daliQuery o a) s = .next t ∧ t.told o St.pending [] ∧
          (t.line l).queue = daliQueue (s.line l).queue { x with query := true })))) ∧
  (∀ (s : State) (l : Nat) (ans : DaliAnswer) (t : DaliTxn) (rest : List DaliTxn), l < 4 → s.wired.lines.length = 4 →
    s.daliOn = true → s.num % 4 = l → (s.line l).slotAt ≠ s.frame.start + 1 → s.get (F.DAL_LINE_STAT_POWER.at l) ≠ 0 →
    s.get (F.DAL_LINE_CFG_EN.at l) ≠ 0 → (s.line l).queue = t :: rest → (s.line l).stopArc = false ∨ t.begun = true →
    (t.twice = false ∨ t.again = true → s.awaits t.by_ →
      (t.query = false → ∃ u, exec (.daliSlot l false ans) s = .next u ∧ u.sent .daliFrame [(l : Int), t.addrOctet, t.octet] ∧
        (u.line l).queue = rest ∧ u.ended t.by_ St.done []) ∧
      (∀ v, t.query = true → ans = .frame v → ∃ u, exec (.daliSlot l false ans) s = .next u ∧
        u.sent .daliFrame [(l : Int), t.addrOctet, t.octet] ∧ (u.line l).queue = rest ∧
        u.ended t.by_ St.done [256 + v % 256, t.tries]) ∧
      (t.query = true → ans = .framing → ∃ u, exec (.daliSlot l false ans) s = .next u ∧ (u.line l).queue = rest ∧
        u.ended t.by_ St.done [0x300, t.tries]) ∧
      (t.query = true → ans = .none_ → ∃ u, exec (.daliSlot l false ans) s = .next u ∧ (u.line l).queue = rest ∧
        u.ended t.by_ St.done [0, t.tries] ∧
        u.get (F.DAL_LINE_CNT_NOANSWER.at l) = min 65535 (s.get (F.DAL_LINE_CNT_NOANSWER.at l) + 1))) ∧
    (t.twice = true → t.again = false → ∃ u, exec (.daliSlot l false ans) s = .next u ∧
      (u.line l).queue = { t with again := true, begun := true, tries := 1 } :: rest) ∧
    (t.tries < 3 → ∃ u, exec (.daliSlot l true ans) s = .next u ∧
      (u.line l).queue = { t with tries := t.tries + 1, begun := true } :: rest ∧
      u.get (F.DAL_LINE_CNT_COLLISIONS.at l) = min 65535 (s.get (F.DAL_LINE_CNT_COLLISIONS.at l) + 1)) ∧
    (3 ≤ t.tries → s.awaits t.by_ → ∃ u, exec (.daliSlot l true ans) s = .next u ∧ (u.line l).queue = rest ∧
      u.ended t.by_ St.daliCollision [])) ∧
  (∀ (s : State) (l : Nat) (c : Bool) (ans : DaliAnswer), l < 4 → s.wired.lines.length = 4 → s.daliOn = true → s.num % 4 = l →
    (s.line l).slotAt ≠ s.frame.start + 1 → s.get (F.DAL_LINE_STAT_POWER.at l) ≠ 0 → s.get (F.DAL_LINE_CFG_EN.at l) ≠ 0 →
    (∀ x ∈ (s.line l).queue.head?, x.begun = false) → (s.line l).stopArc = true →
    ∃ t, exec (.daliSlot l c ans) s = .next t ∧ (t.line l).stopArc = false ∧ (t.line l).queue = (s.line l).queue ∧
      t.sent .daliFrame [(l : Int), 0xFE, s.get (F.DAL_LINE_CFG_STOPARC.at l)]) ∧
  (∀ (s : State) (l : Nat) (c : Bool) (ans : DaliAnswer), l < 4 → s.wired.lines.length = 4 → s.daliOn = true → s.num % 4 = l →
    (s.line l).slotAt ≠ s.frame.start + 1 → s.get (F.DAL_LINE_STAT_POWER.at l) ≠ 0 → s.get (F.DAL_LINE_CFG_EN.at l) = 0 →
    ∃ t, exec (.daliSlot l c ans) s = .next t ∧ (t.line l).queue = [] ∧ (t.line l).stopArc = false ∧
      ∀ x, (s.line l).queue = [x] → s.awaits x.by_ → t.ended x.by_ St.daliLineOff []) ∧
  (∀ (s : State) (l : Nat) (c : Bool) (ans : DaliAnswer), 4 ≤ l ∨ s.daliOn = false ∨ s.num % 4 ≠ l ∨
    (s.line l).slotAt = s.frame.start + 1 ∨ s.get (F.DAL_LINE_STAT_POWER.at l) = 0 → s.idle (.daliSlot l c ans)) ∧
  (∀ (s : State) (l : Nat), l < 4 → s.wired.lines.length = 4 →
    (s.get (F.DAL_LINE_STAT_POWER.at l) ≠ 0 → ∃ t, exec (.daliPowerLoss l) s = .next t ∧
      t.get (F.DAL_LINE_STAT_POWER.at l) = 0 ∧ (t.line l).queue = [] ∧
      (∀ x, (s.line l).queue = [x] → s.awaits x.by_ → t.ended x.by_ St.daliNoPower [])) ∧
    (s.get (F.DAL_LINE_STAT_POWER.at l) = 0 → s.idle (.daliPowerLoss l)) ∧
    (∃ t, exec (.daliPowerRestore l) s = .next t ∧ t.get (F.DAL_LINE_STAT_POWER.at l) = 1 ∧ t.wired = s.wired))

/-- A pair's modules beat, a beat that is not authentic is counted, and one that is shows the partner; a Follower starts, keeps or leaves
its synchronism by what its Lead's beats and marks say; copies wait for their mark and are acknowledged; an effect held back leaves with
its acknowledgement, or when protection ends (R539, R542, R543, R546 to R551, Table 13.3).
A command whose own condition does not hold changes nothing: log entry 8. -/
def Obligations.PairsFollowTheirLink : Prop :=
  (∀ (s : State), s.linkUp = true → ∃ t l, exec .spliceHeartbeatTx s = .next t ∧
    t.out = [⟨.spliceHeartbeat, [(s.mode.code : Int), s.role.code, s.keys.life.code, s.num] ++ l⟩] ∧ { t with out := s.out } = s) ∧
  (∀ (s : State) (b : Heartbeat), s.linkUp = false → s.idle .spliceHeartbeatTx ∧ s.idle (.spliceHeartbeatRx b)) ∧
  (∀ (s : State) (b : Heartbeat), s.linkUp = true → b.auth = false → ∃ t, exec (.spliceHeartbeatRx b) s = .next t ∧
    t.spl = s.spl ∧ t.get F.SPL_CNT_AUTH_FAIL = min 255 (s.get F.SPL_CNT_AUTH_FAIL + 1)) ∧
  (∀ (s : State) (b : Heartbeat), s.linkUp = true → b.auth = true →
    (∃ t, exec (.spliceHeartbeatRx b) s = .next t ∧ t.get F.SPL_STAT_PARTNER_HB = 1 ∧ t.get F.SPL_PEER_MODE = b.mode.code % 8 ∧
      t.get F.SPL_PEER_LIFE = b.life.code % 8 ∧ t.spl.hbSync = b.sync) ∧
    (s.role = .follower → b.role = .lead → s.live = true →
      (s.get F.SPL_STAT_SYNC = 2 → ∃ t, exec (.spliceHeartbeatRx b) s = .next t ∧
        t.get F.SPL_STAT_SYNC = if b.prot = true then 2 else 3) ∧
      (s.get F.SPL_STAT_SYNC = 0 ∨ s.get F.SPL_STAT_SYNC = 3 →
        (s.hbReason b = 0 → b.vipOk = true → ∃ t, exec (.spliceHeartbeatRx b) s = .next t ∧ t.get F.SPL_STAT_SYNC = 1 ∧
          t.get F.SPL_STAT_REASON = 0 ∧ t.spl.recs = [] ∧ t.spl.writes = []) ∧
        (s.hbReason b ≠ 0 → ∃ t, exec (.spliceHeartbeatRx b) s = .next t ∧ t.get F.SPL_STAT_SYNC = 0 ∧
          t.get F.SPL_STAT_REASON = s.hbReason b))) ∧
    (s.role = .lead → b.role = .follower → s.live = true → ∃ t, exec (.spliceHeartbeatRx b) s = .next t ∧
      t.get F.SPL_STAT_SYNC = b.sync % 4 ∧ (b.sync = 2 → s.spl.hbSync ≠ 2 → t.get F.SPL_STAT_PROTECTED = 1))) ∧
  (∀ (s : State), s.get F.SPL_STAT_PARTNER_HB ≠ 0 → s.past (s.spl.hbAt + s.get F.SPL_CFG_HBMISS * 100000) = true →
    ∃ t, exec .spliceHeartbeatLost s = .next t ∧
    t.get F.SPL_STAT_PARTNER_HB = 0 ∧ t.get F.SPL_CNT_HB_LOSS = min 255 (s.get F.SPL_CNT_HB_LOSS + 1) ∧
    (s.role = .lead → t.get F.SPL_STAT_PROTECTED = 0)) ∧
  (∀ (s : State), s.get F.SPL_STAT_PARTNER_HB = 0 ∨ s.past (s.spl.hbAt + s.get F.SPL_CFG_HBMISS * 100000) = false →
    s.idle .spliceHeartbeatLost) ∧
  (∀ (s : State) (n : Nat) (x : CopyItem), s.role = .follower → s.linkUp = true →
    (∃ t, exec (.copyRecordRx n false x) s = .next t ∧ t.spl = s.spl ∧ t.out = [] ∧
      t.get F.SPL_CNT_AUTH_FAIL = min 255 (s.get F.SPL_CNT_AUTH_FAIL + 1)) ∧
    (∃ t, exec (.copyRecordRx n true x) s = .next t ∧ t.out = [⟨.copyAck, [(n : Int)]⟩] ∧ t.prog = s.prog ∧ t.regs = s.regs ∧
      ((∃ a k v, x = .write a k v) → t.spl = { s.spl with writes := s.spl.writes ++ [x] }) ∧
      ((∀ a k v, x ≠ .write a k v) → t.spl = { s.spl with recs := s.spl.recs ++ [x] })) ∧
    (∃ t, exec (.commitMarkRx n) s = .next t ∧ t.spl.writes = [] ∧ ⟨.copyAck, [(n : Int)]⟩ ∈ t.out) ∧
    (∀ num prot, s.spl.recs = [] → s.get F.SPL_STAT_SYNC = 2 → ∃ t, exec (.frameMarkRx n num prot) s = .next t ∧
      t.spl.leadLast = num ∧ ⟨.copyAck, [(n : Int)]⟩ ∈ t.out ∧
      t.get F.SPL_STAT_SYNC = if num = s.num ∧ prot = true then 2 else 3)) ∧
  (∀ (s : State) (n num : Nat) (a p : Bool) (x : CopyItem), s.role ≠ .follower ∨ s.linkUp = false →
    s.idle (.copyRecordRx n a x) ∧ s.idle (.commitMarkRx n) ∧ s.idle (.frameMarkRx n num p)) ∧
  (∀ (s : State),
    (s.role = .follower → s.get F.SPL_STAT_SYNC = 1 → ∃ t, exec .fullStateApplied s = .next t ∧ t.get F.SPL_STAT_SYNC = 2 ∧
      t.spl.recs = []) ∧
    (s.role ≠ .follower ∨ s.get F.SPL_STAT_SYNC ≠ 1 → s.idle .fullStateApplied)) ∧
  (∀ (s : State) (n : Nat) (h : HeldOut), s.role = .lead → s.spl.held = [h] →
    (s.spl.unacked.filter (fun u => decide (n < u))).all (fun u => decide (h.need < u)) = true → s.tooOld h = false →
    h.out.kind ≠ .spiReply → ∃ t, exec (.copyAckRx n) s = .next t ∧ t.out = [h.out] ∧ t.spl.held = [] ∧
      t.spl.unacked = s.spl.unacked.filter (fun u => decide (n < u)) ∧ t.regs = s.regs) ∧
  (∀ (s : State) (n : Nat), s.role ≠ .lead → s.idle (.copyAckRx n) ∧ s.idle .copyAckTimeout) ∧
  (∀ (s : State), s.role = .lead → s.spl.unacked ≠ [] →
    (s.get F.SPL_STAT_PROTECTED ≠ 0 → ∃ t, exec .copyAckTimeout s = .next t ∧ t.get F.SPL_STAT_PROTECTED = 0 ∧
      t.spl.unacked = [] ∧ t.spl.held = []) ∧
    (s.get F.SPL_STAT_PROTECTED = 0 → s.idle .copyAckTimeout))

/-- The Lead changes: a Follower that has lost its Lead, and is eligible, takes over at its boundary in the mode last copied; a Lead of unit
1 in conflict asks for Basic, a Lead in Basic becomes Follower when ROLE_IN rises; a planned swap is refused or waits for its boundary, where
the roles change (R545, R552, R554 to R562).
A command whose own condition does not hold changes nothing: log entry 8. -/
def Obligations.LeadsAreTakenOverAndSwapped : Prop :=
  (∀ (s : State) (us : Nat), s.role = .follower → s.mode = .shadow → s.live = true → s.spl.takeAt = none →
    s.get F.SPL_STAT_PARTNER_HB = 0 ∨ s.spl.relinquished = true → ∃ t, exec (.leadLossDetect us) s = .next t ∧
      t.get F.SPL_STAT_ROLE_IN = 0 ∧ t.role = .follower ∧
      t.spl.takeAt = if s.eligible = true then some (if us < 9000 then s.num + 1 else s.num + 2) else none) ∧
  (∀ (s : State) (us : Nat), s.role ≠ .follower ∨ s.mode ≠ .shadow ∨ s.live = false ∨ s.spl.takeAt.isSome = true ∨
    (s.get F.SPL_STAT_PARTNER_HB ≠ 0 ∧ s.spl.relinquished = false) → s.idle (.leadLossDetect us)) ∧
  (∀ (s : State) (b : Nat), s.role = .follower → s.mode = .shadow → s.live = true → s.spl.takeAt = some b → b ≤ s.num →
    s.get F.SPL_STAT_ROLE_IN = 0 → s.get F.SPL_STAT_PARTNER_HB = 0 ∨ s.spl.relinquished = true → ∃ t, exec .takeover s = .next t ∧ t.role = .lead ∧ t.mode = s.spl.copied ∧
      t.get F.SPL_STAT_PROTECTED = 0 ∧ t.get F.SPL_STAT_SYNC = 0 ∧ t.get F.SPL_LAST_LO_FRAME = s.num % 2 ^ 32 ∧ t.spl.takeAt = none ∧
      ∃ v, ⟨.gratuitousArp, [v]⟩ ∈ t.out) ∧
  (∀ (s : State), s.role ≠ .follower ∨ s.mode ≠ .shadow ∨ s.spl.takeAt = none ∨ s.get F.SPL_STAT_ROLE_IN ≠ 0 ∨
    s.live = false ∨ (s.get F.SPL_STAT_PARTNER_HB ≠ 0 ∧ s.spl.relinquished = false) → s.idle .takeover) ∧
  (∀ (s : State),
    (s.role = .follower → s.linkUp = true → ∃ t, exec .relinquish s = .next t ∧
      t.spl = { s.spl with relinquished := true } ∧ { t with spl := s.spl, out := s.out } = s) ∧
    (s.role ≠ .follower ∨ s.linkUp = false → s.idle .relinquish)) ∧
  (∀ (s : State),
    (s.role = .lead → s.get F.SPL_CFG_UNIT = 1 → s.live = true → s.mode.active = true → ∃ t, exec .leadConflict s = .next t ∧
      t.get F.SPL_STAT_ROLE_IN = 1 ∧
      t.frame.modeReqs = s.frame.modeReqs ++ [{ ev := .enterBasic, by_ := .quiet, at_ := s.num }]) ∧
    (s.role ≠ .lead ∨ s.get F.SPL_CFG_UNIT ≠ 1 ∨ s.mode.active = false ∨ s.live = false → s.idle .leadConflict)) ∧
  (∀ (s : State),
    (s.role = .lead → s.mode = .basic → s.live = true → ∃ t, exec .roleInRise s = .next t ∧ t.role = .follower ∧
      t.get F.SPL_STAT_ROLE_IN = 1 ∧ t.get F.SPL_STAT_SYNC = 0) ∧
    (s.role ≠ .lead ∨ s.mode ≠ .basic ∨ s.live = false → ∃ t, exec .roleInRise s = .next t ∧ t.get F.SPL_STAT_ROLE_IN = 1 ∧
      { t with regs := s.regs, out := s.out } = s)) ∧
  (∀ (s : State) (who : Requester), s.mayWrite who →
    (∀ c, c ≠ 0x5AFE → ∃ t, exec (.swap who c) s = .next t ∧ t.get F.SPL_CMD_STAT_STATUS = St.confirm ∧ t.spl = s.spl) ∧
    (s.mode.active = false ∨ s.live = false → ∃ t, exec (.swap who 0x5AFE) s = .next t ∧ t.get F.SPL_CMD_STAT_STATUS = St.mode ∧ t.spl = s.spl) ∧
    (s.mode.active = true → s.live = true →
      (s.role ≠ .lead → ∃ t, exec (.swap who 0x5AFE) s = .next t ∧ t.get F.SPL_CMD_STAT_STATUS = St.notPaired ∧ t.spl = s.spl) ∧
      (s.role = .lead →
        (s.partnerEligible = false → ∃ t, exec (.swap who 0x5AFE) s = .next t ∧ t.get F.SPL_CMD_STAT_STATUS = St.notEligible ∧
          t.spl = s.spl) ∧
        (s.partnerEligible = true → (∃ p ∈ s.drv.axes, p.2.st.active = true) → ∃ t, exec (.swap who 0x5AFE) s = .next t ∧
          t.get F.SPL_CMD_STAT_STATUS = St.axesActive ∧ t.spl = s.spl) ∧
        (s.partnerEligible = true → (∀ p ∈ s.drv.axes, p.2.st.active = false) → s.spl.swapAt.isSome = true →
          ∃ t, exec (.swap who 0x5AFE) s = .next t ∧ t.get F.SPL_CMD_STAT_STATUS = St.busy ∧ t.spl = s.spl) ∧
        (s.partnerEligible = true → (∀ p ∈ s.drv.axes, p.2.st.active = false) → s.spl.swapAt = none →
          ∃ t n k, exec (.swap who 0x5AFE) s = .next t ∧ t.get F.SPL_CMD_STAT_STATUS = St.pending ∧
            t.spl = { s.spl with swapAt := some n, swapBy := .command splStat } ∧ k = (if s.frame.off = 0 then 2 else 3) ∧
            s.num + k ≤ n ∧ n % s.cycLen = 0 ∧ ∀ m, s.num + k ≤ m → m % s.cycLen = 0 → n ≤ m)))) ∧
  (∀ (s : State) (n : Nat), s.role = .lead → s.mode.active = true → s.live = true → s.spl.swapAt = some n →
    (n ≤ s.num → ∃ t, exec .swapBoundary s = .next t ∧ t.role = .follower ∧ t.mode = .shadow ∧ t.spl.swapAt = none ∧
      t.get F.SPL_STAT_PROTECTED = 0 ∧ t.get F.SPL_LAST_LO_FRAME = s.num % 2 ^ 32 ∧ ⟨.relinquish, []⟩ ∈ t.out) ∧
    (s.num < n → s.idle .swapBoundary)) ∧
  (∀ (s : State), s.role ≠ .lead → s.eligible = true → s.live = true →
    (s.spl.relinquished = true → ∃ t, exec .swapBoundary s = .next t ∧ t.role = .lead ∧ t.mode = s.spl.copied ∧
      t.get F.SPL_STAT_SYNC = 0) ∧
    (s.spl.relinquished = false → s.idle .swapBoundary))

/-- An image is verified into its bank or refused; an activation, a pair update, a commit and an erasure are refused or begin as UPD_CMD
says; the in-place update passes its steps; a tried bank becomes good in time; in Recovery an image goes to the lower bank (R563 to R574,
Table 13.6).
A command whose own condition does not hold changes nothing: log entry 8. -/
def Obligations.FirmwareIsReceivedAndActivated : Prop :=
  (∀ (s : State) (bk sg : Bool) (b : Nat) (x : Bank), s.upd.banks.length = 2 → s.upd.active < 2 → b = s.inactiveBank → x = s.bank b →
    s.get F.UPD_STAT_STATE = 2 →
    (s.imageVerdict x bk sg = 0 → ∃ t, exec (.imageVerified bk sg) s = .next t ∧ t.bank b = { x with st := 1 } ∧
      t.get F.UPD_STAT_STATE = 3 ∧ t.upd.imgBy = .quiet ∧ (s.awaits s.upd.imgBy → t.ended s.upd.imgBy St.done [])) ∧
    (s.imageVerdict x bk sg ≠ 0 → ∃ t, exec (.imageVerified bk sg) s = .next t ∧ t.bank b = { gen := x.gen } ∧
      t.get F.UPD_STAT_STATE = 0 ∧ t.upd.imgBy = .quiet ∧
      (s.awaits s.upd.imgBy → t.ended s.upd.imgBy (s.imageVerdict x bk sg) []))) ∧
  (∀ (s : State) (bk sg : Bool), s.get F.UPD_STAT_STATE ≠ 2 → s.idle (.imageVerified bk sg)) ∧
  (∀ (s : State) (who : Requester), s.mayWrite who → s.live = true →
    (∀ c, c ≠ 0x5AFE →
      (∃ t, exec (.activateHitless who c) s = .next t ∧ t.get F.UPD_CMD_STAT_STATUS = St.confirm ∧ t.upd = s.upd) ∧
      (∃ t, exec (.activateRestart who c) s = .next t ∧ t.get F.UPD_CMD_STAT_STATUS = St.confirm ∧ t.upd = s.upd) ∧
      (∃ t, exec (.pairUpdate who c) s = .next t ∧ t.get F.UPD_CMD_STAT_STATUS = St.confirm ∧ t.upd = s.upd) ∧
      (∃ t, exec (.updErase who c) s = .next t ∧ t.get F.UPD_CMD_STAT_STATUS = St.confirm ∧ t.upd = s.upd)) ∧
    (s.mode = .stop ∨ s.mode = .run ∨ s.mode = .hold →
      (∀ st, s.activateRefusal true = some st →
        ∃ t, exec (.activateHitless who 0x5AFE) s = .next t ∧ t.get F.UPD_CMD_STAT_STATUS = st % 65536 ∧ t.upd = s.upd) ∧
      (s.activateRefusal true = none →
        (∃ t, exec (.activateHitless who 0x5AFE) s = .next t ∧ t.get F.UPD_CMD_STAT_STATUS = St.pending ∧
          t.get F.UPD_STAT_STATE = 4 ∧ t.upd.kind = 1 ∧ t.upd.stage = 1 ∧ t.upd.banks = s.upd.banks) ∧
        (s.role = .lead → s.partnerEligible = true → ∃ t, exec (.pairUpdate who 0x5AFE) s = .next t ∧
          t.get F.UPD_CMD_STAT_STATUS = St.pending ∧ t.upd.kind = 3 ∧ t.get F.UPD_STAT_STATE = 4 ∧ t.sent .spliceImage []) ∧
        (s.role = .lead → s.partnerEligible = false → ∃ t, exec (.pairUpdate who 0x5AFE) s = .next t ∧
          t.get F.UPD_CMD_STAT_STATUS = St.notEligible ∧ t.upd = s.upd)) ∧
      (s.role ≠ .lead → ∃ t, exec (.pairUpdate who 0x5AFE) s = .next t ∧ t.get F.UPD_CMD_STAT_STATUS = St.notPaired ∧
        t.upd = s.upd)) ∧
    (∀ st, s.activateRefusal false = some st → ∃ t, exec (.activateRestart who 0x5AFE) s = .next t ∧
      t.get F.UPD_CMD_STAT_STATUS = st % 65536 ∧ t.upd = s.upd) ∧
    (s.activateRefusal false = none →
      ∃ t, exec (.activateRestart who 0x5AFE) s = .next t ∧ t.get F.UPD_CMD_STAT_STATUS = St.pending ∧ t.upd.kind = 2 ∧
        t.get F.UPD_STAT_STATE = 4 ∧ t.upd.banks = s.upd.banks ∧
        t.frame.modeReqs = s.frame.modeReqs ++ [{ ev := .shutdown false, by_ := .quiet, at_ := s.num }]) ∧
    (∀ c, (s.bank s.upd.active).st ≠ 3 → ∃ t, exec (.updCommit who c) s = .next t ∧
      t.get F.UPD_CMD_STAT_STATUS = St.notReady ∧ t.upd = s.upd) ∧
    (∀ c, s.upd.banks.length = 2 → s.upd.active < 2 → (s.bank s.upd.active).st = 3 → ∃ t, exec (.updCommit who c) s = .next t ∧
      t.get F.UPD_CMD_STAT_STATUS = St.done ∧ t.bank s.upd.active = { s.bank s.upd.active with st := 4, good := true } ∧
      t.get F.UPD_SECVER_SECVER = Nat.max (s.get F.UPD_SECVER_SECVER) (s.bank s.upd.active).secver % 256) ∧
    (s.upd.kind ≠ 0 → ∃ t, exec (.updErase who 0x5AFE) s = .next t ∧ t.get F.UPD_CMD_STAT_STATUS = St.updateActive ∧
      t.upd = s.upd) ∧
    (s.upd.kind = 0 → s.upd.banks.length = 2 → s.upd.active < 2 → ∃ t, exec (.updErase who 0x5AFE) s = .next t ∧
      t.get F.UPD_CMD_STAT_STATUS = St.done ∧ t.bank s.inactiveBank = { gen := (s.bank s.inactiveBank).gen } ∧
      t.get F.UPD_STAT_STATE = 0)) ∧
  (∀ (s : State),
    (s.upd.kind = 1 → s.upd.stage = 2 → s.upd.banks.length = 2 → s.upd.active < 2 →
      (∃ t, exec (.updateC1Ready true) s = .next t ∧ t.upd.stage = 4 ∧ t.upd.c1Ready = true ∧ t.upd.active = s.upd.active ∧
        t.bank s.inactiveBank = { s.bank s.inactiveBank with pkgs := [(s.bank s.upd.active).newestPkg, none], newest := 0 }) ∧
      (∃ t, exec (.updateC1Ready false) s = .next t ∧ t.upd.kind = 0 ∧ (t.bank s.inactiveBank).st = 5 ∧
        t.get F.UPD_STAT_STATUS = St.imageInvalid ∧ t.get F.UPD_STAT_STATE = 0 ∧ t.upd.active = s.upd.active)) ∧
    (∀ ok, s.upd.kind ≠ 1 ∨ s.upd.stage ≠ 2 → s.idle (.updateC1Ready ok)) ∧
    (s.upd.kind = 1 → s.upd.stage = 4 → s.frame.off = 0 → s.upd.banks.length = 2 → s.upd.active < 2 →
      ∃ t, exec .updateSwitchBoundary s = .next t ∧ t.upd.active = s.inactiveBank ∧ t.upd.stage = 5 ∧
        (t.bank s.inactiveBank).st = 3 ∧ (t.bank s.inactiveBank).gen = s.highGen + 1 ∧ t.frame.c0.running = false ∧
        (s.upd.by_ = .command updStat → t.get F.UPD_CMD_STAT_STATUS = St.done)) ∧
    (s.upd.kind ≠ 1 ∨ s.upd.stage ≠ 4 ∨ s.frame.off ≠ 0 → s.idle .updateSwitchBoundary)) ∧
  (∀ (s : State) (k : Nat), s.upd.since = some k → s.upd.banks.length = 2 → s.upd.active < 2 →
    ((s.bank s.upd.active).st = 3 → s.live = true → s.mode = .stop ∨ s.mode = .run ∨ s.mode = .hold ∨ s.mode = .shadow →
      s.past (k + s.get F.UPD_CFG_CONFIRM * 1000000000) = true → ∃ t, exec .bankConfirmTimeout s = .next t ∧
        t.bank s.upd.active = { s.bank s.upd.active with st := 4, good := true }) ∧
    ((s.bank s.upd.active).st ≠ 3 ∨ s.past (k + s.get F.UPD_CFG_CONFIRM * 1000000000) = false → s.idle .bankConfirmTimeout)) ∧
  (∀ (s : State) (off : Nat) (l : List Nat) (bk sg : Bool) (b : Nat), b = s.recoveryBank → s.upd.banks.length = 2 →
    (s.mode ≠ .recovery → ∃ t, exec (.recoveryImagePart off l bk sg) s = .next t ∧ t.out = [⟨.value, [(St.mode : Int)]⟩] ∧
      { t with out := s.out } = s) ∧
    (s.mode = .recovery → s.live = true → s.upd.resetDue = false → s.keys.killed = false ∨ s.keys.life = .returned →
      (1024 < l.length → ∃ t, exec (.recoveryImagePart off l bk sg) s = .next t ∧ t.out = [⟨.value, [(St.badArg : Int)]⟩] ∧
        { t with out := s.out } = s) ∧
      (off = 0 → l ≠ [] → l.length ≤ 1024 → ∃ t, exec (.recoveryImagePart off l bk sg) s = .next t ∧
        t.out = [⟨.value, [(St.done : Int)]⟩] ∧ t.bank b = Bank.write { gen := (s.bank b).gen } l ∧ t.upd.next = l.length) ∧
      (l.length ≤ 1024 → off ≠ s.upd.next ∨ s.upd.next = 0 → off ≠ 0 ∨ l = [] →
        ∃ t, exec (.recoveryImagePart off l bk sg) s = .next t ∧ t.out = [⟨.value, [(St.badArg : Int)]⟩] ∧
          { t with out := s.out } = s) ∧
      (off ≠ 0 → off = s.upd.next → l ≠ [] → l.length ≤ 1024 → ∃ t, exec (.recoveryImagePart off l bk sg) s = .next t ∧
        t.out = [⟨.value, [(St.done : Int)]⟩] ∧ t.bank b = (s.bank b).write l ∧ t.upd.next = off + l.length) ∧
      (off ≠ 0 → off = s.upd.next → l = [] →
        (s.imageVerdict (s.bank b) bk sg = 0 → ∃ t, exec (.recoveryImagePart off l bk sg) s = .next t ∧
          t.out = [⟨.value, [(St.done : Int)]⟩] ∧ (t.bank b).st = 2 ∧ (t.bank b).gen = s.highGen + 1 ∧
          (t.bank b).pkgs = [none, none] ∧ t.upd.resetDue = true) ∧
        (s.imageVerdict (s.bank b) bk sg ≠ 0 → ∃ t, exec (.recoveryImagePart off l bk sg) s = .next t ∧
          t.out = [⟨.value, [(s.imageVerdict (s.bank b) bk sg : Int)]⟩] ∧
          t.bank b = { gen := (s.bank b).gen } ∧ t.upd.resetDue = false))))

/-- KEY_CMD: each command wants ENGINEERING, and its confirmation where R578 and R589 ask for one; a life-cycle command is refused or begins
to program its fuses; a key is installed, generated, derived or erased in the slot that is named, and KEY_IN is cleared (R578, R579, R585,
R587, R589, R611, Tables 14.1 and 14.4). -/
def Obligations.KeyCommandsFollowTheirTables : Prop :=
  (∀ (s : State) (who : Requester) (c : Nat) (i : Instr), s.roleOf who < 2 →
    i ∈ [.provision who c, .deploy who c, .keyReturn who c, .scrap who c, .keyInstall who c, .keyGenerate who c, .keyDerive who c,
      .keyErase who c, .identityCsr who c] →
    ∃ t, exec i s = .next t ∧ t.out = [⟨.value, [(who.key : Int), St.access]⟩] ∧ { t with out := s.out } = s) ∧
  (∀ (s : State) (who : Requester) (c : Nat) (i : Instr), 2 ≤ s.roleOf who → s.mayWrite who → c ≠ 0x5AFE →
    i ∈ [.provision who c, .deploy who c, .keyReturn who c, .scrap who c] ∨ (i = .keyErase who c ∧ 4 < s.get F.KEY_ARG_SLOT) →
    ∃ t, exec i s = .next t ∧ t.get F.KEY_CMD_STAT_STATUS = St.confirm ∧ t.keys.slots = s.keys.slots ∧ t.keys.fuse = s.keys.fuse ∧
      t.keys.inp = []) ∧
  (∀ (s : State) (who : Requester) (n : Nat) (i : Instr), 2 ≤ s.roleOf who → s.mayWrite who → s.phase = .running →
    (n, i) ∈ [(1, .provision who 0x5AFE), (2, .deploy who 0x5AFE), (3, .keyReturn who 0x5AFE), (4, .scrap who 0x5AFE)] →
    (∀ st, s.lifeTarget n = .inr st → ∃ t, exec i s = .next t ∧ t.get F.KEY_CMD_STAT_STATUS = st % 65536 ∧
      t.keys.fuse = s.keys.fuse ∧ t.keys.life = s.keys.life) ∧
    (∀ l, s.lifeTarget n = .inl l → s.keys.fuse ≠ none → ∃ t, exec i s = .next t ∧ t.get F.KEY_CMD_STAT_STATUS = St.busy ∧
      t.keys.fuse = s.keys.fuse) ∧
    (∀ l, s.lifeTarget n = .inl l → s.keys.fuse = none → ∃ t, exec i s = .next t ∧ t.get F.KEY_CMD_STAT_STATUS = St.pending ∧
      t.keys.fuse = some l ∧ t.keys.life = s.keys.life ∧ (t.keys.newRow.isSome = true ↔ n = 1))) ∧
  (∀ (s : State),
    (s.lifeTarget 1 = .inl .provisioned ↔ (s.keys.life = .blank ∨ s.keys.life = .returned) ∧ s.mode = .stop ∧ s.role = .solo ∧
      s.keys.killed = false ∧ s.keys.rows.length < 3) ∧
    (s.lifeTarget 2 = .inl .deployed ↔ s.keys.life = .provisioned ∧ s.mode = .stop) ∧
    (s.keys.life = .blank ∨ s.keys.life = .returned → s.lifeTarget 2 = .inr St.lifecycle ∧ s.lifeTarget 3 = .inr St.lifecycle ∧
      (s.mode = .stop ∨ s.mode = .basic → s.lifeTarget 4 = .inl .scrapped)) ∧
    (s.keys.life = .provisioned ∨ s.keys.life = .deployed → s.lifeTarget 1 = .inr St.lifecycle ∧
      s.lifeTarget 4 = .inr St.lifecycle ∧ (s.mode = .stop → s.role = .solo → s.keys.killed = false →
        s.lifeTarget 3 = .inl .returned))) ∧
  (∀ (s : State) (who : Requester) (c slot : Nat), 2 ≤ s.roleOf who → s.mayWrite who → slot = s.get F.KEY_ARG_SLOT →
    (slot = 0 ∨ slot = 1 ∨ slot = 3 ∨ slot = 4 →
      (∃ t, exec (.keyInstall who c) s = .next t ∧ t.get F.KEY_CMD_STAT_STATUS = St.access ∧ t.keys.slots = s.keys.slots) ∧
      (∃ t, exec (.keyGenerate who c) s = .next t ∧ t.get F.KEY_CMD_STAT_STATUS = St.access ∧ t.keys.slots = s.keys.slots) ∧
      (∃ t, exec (.keyDerive who c) s = .next t ∧ t.get F.KEY_CMD_STAT_STATUS = St.access ∧ t.keys.slots = s.keys.slots) ∧
      (∃ t, exec (.keyErase who c) s = .next t ∧ t.get F.KEY_CMD_STAT_STATUS = St.access ∧ t.keys.slots = s.keys.slots)) ∧
    (s.rootNow = 0 → slot = 2 ∧ s.keys.installed2 = false ∨ 4 < slot → ∃ t, exec (.keyInstall who c) s = .next t ∧
      t.get F.KEY_CMD_STAT_STATUS = St.lifecycle ∧ t.keys.slots = s.keys.slots) ∧
    (s.rootNow = 0 → 4 < slot → ∀ i ∈ [.keyGenerate who c, .keyDerive who c, .keyErase who 0x5AFE, .identityCsr who c],
      ∃ t, exec i s = .next t ∧ t.get F.KEY_CMD_STAT_STATUS = St.lifecycle ∧ t.keys.slots = s.keys.slots) ∧
    (slot = 2 → s.rootNow ≠ 0 →
      (∃ t, exec (.keyDerive who c) s = .next t ∧ t.get F.KEY_CMD_STAT_STATUS = St.access ∧ t.keys.slots = s.keys.slots) ∧
      (∃ t, exec (.keyErase who c) s = .next t ∧ t.get F.KEY_CMD_STAT_STATUS = St.access ∧ t.keys.slots = s.keys.slots) ∧
      (∃ t, exec (.keyGenerate who c) s = .next t ∧ t.get F.KEY_CMD_STAT_STATUS = St.access ∧ t.keys.slots = s.keys.slots) ∧
      (s.keys.installed2 = true → ∃ t, exec (.keyInstall who c) s = .next t ∧ t.get F.KEY_CMD_STAT_STATUS = St.access ∧
        t.keys.slots = s.keys.slots) ∧
      (s.keys.installed2 = false → (s.keySlot 2).kind = 0 → ∃ t, exec (.keyInstall who c) s = .next t ∧
        t.get F.KEY_CMD_STAT_STATUS = St.done ∧ t.keys.installed2 = true ∧ (t.keySlot 2).use_ = 2 ^ KeyOp.derive ∧ (t.keySlot 2).root = s.rootNow ∧
        (t.keySlot 2).mat = .octets ((wordsOctets s.keys.inp 4).take 16))) ∧
    (4 < slot → s.rootNow ≠ 0 →
      ((s.keySlot slot).kind ≠ 0 →
        (∃ t, exec (.keyInstall who c) s = .next t ∧ t.get F.KEY_CMD_STAT_STATUS = St.slotOccupied ∧ t.keys.slots = s.keys.slots) ∧
        (∃ t, exec (.keyGenerate who c) s = .next t ∧ t.get F.KEY_CMD_STAT_STATUS = St.slotOccupied ∧ t.keys.slots = s.keys.slots) ∧
        (s.get F.KEY_ARG_FROM_ROOT ≠ 0 ∨ s.keeperCheck 0 true (s.get F.KEY_ARG_PARENT) KeyOp.derive ∉ [some St.access, some St.lifecycle] →
          ∃ t, exec (.keyDerive who c) s = .next t ∧ t.get F.KEY_CMD_STAT_STATUS = St.slotOccupied ∧ t.keys.slots = s.keys.slots)) ∧
      (∀ st, s.get F.KEY_ARG_FROM_ROOT = 0 → s.keeperCheck 0 true (s.get F.KEY_ARG_PARENT) KeyOp.derive = some st →
        st = St.access ∨ st = St.lifecycle ∨ ((s.keySlot slot).kind = 0 ∧ s.newSlot false ≠ none) →
        ∃ t, exec (.keyDerive who c) s = .next t ∧ t.get F.KEY_CMD_STAT_STATUS = st ∧ t.keys.slots = s.keys.slots) ∧
      ((s.keySlot slot).kind = 0 →
        (∀ k, s.newSlot true = some k → ∃ t, exec (.keyInstall who c) s = .next t ∧ t.get F.KEY_CMD_STAT_STATUS = St.done ∧
          t.keySlot slot = { k with
            kind := if k.size = 3 then 4 else 1, mat := .octets ((wordsOctets s.keys.inp 64).take (keySize k.size)) } ∧
          t.keys.inp = []) ∧
        (∀ k, s.newSlot false = some k → ∃ t, exec (.keyGenerate who c) s = .next t ∧ t.get F.KEY_CMD_STAT_STATUS = St.done ∧
          t.keySlot slot = { k with kind := 2, mat := .random s.free } ∧ t.free = s.free + 12) ∧
        (∀ k, s.newSlot false = some k → s.get F.KEY_ARG_FROM_ROOT ≠ 0 → ∃ t, exec (.keyDerive who c) s = .next t ∧
          t.get F.KEY_CMD_STAT_STATUS = St.done ∧ t.keySlot slot = { k with
            kind := 3, depth := 1, rooted := true, parent := 0, mat := .derived (wordsOctets s.keys.label 8) }) ∧
        (∀ k q, s.newSlot false = some k → s.get F.KEY_ARG_FROM_ROOT = 0 → q = s.get F.KEY_ARG_PARENT →
          s.keeperCheck 0 true q KeyOp.derive = none →
          ((s.keySlot q).depth < 8 → ∃ t, exec (.keyDerive who c) s = .next t ∧ t.get F.KEY_CMD_STAT_STATUS = St.done ∧
            t.keySlot slot = { k with kind := 3, depth := (s.keySlot q).depth + 1, rooted := false, parent := q,
                                      mat := .derived (wordsOctets s.keys.label 8) }) ∧
          (8 ≤ (s.keySlot q).depth → ∃ t, exec (.keyDerive who c) s = .next t ∧ t.get F.KEY_CMD_STAT_STATUS = St.depthExceeded ∧
            t.keys.slots = s.keys.slots)) ∧
        (s.newSlot false = none → ∃ t, exec (.keyGenerate who c) s = .next t ∧ t.get F.KEY_CMD_STAT_STATUS = St.badArg ∧
          t.keys.slots = s.keys.slots)) ∧
      ((∃ p ∈ s.keys.slots, p.2.kind = 3 ∧ p.2.rooted = false ∧ p.2.parent = slot) → ∃ t, exec (.keyErase who 0x5AFE) s = .next t ∧
        t.get F.KEY_CMD_STAT_STATUS = St.parentInUse ∧ t.keys.slots = s.keys.slots) ∧
      ((∀ p ∈ s.keys.slots, p.2.kind = 3 → p.2.rooted = true ∨ p.2.parent ≠ slot) → ∃ t, exec (.keyErase who 0x5AFE) s = .next t ∧
        t.get F.KEY_CMD_STAT_STATUS = St.done ∧ t.keySlot slot = {} ∧ (∀ p ∈ t.keys.cache, p.1 ≠ slot) ∧ (∀ j, j ≠ slot → t.keySlot j = s.keySlot j))) ∧
    (s.rootNow ≠ 0 → (s.keySlot 0).kind ≠ 0 → ∃ t, exec (.identityCsr who c) s = .next t ∧
      t.get F.KEY_CMD_STAT_STATUS = St.done ∧ t.keys.out.length = 192 ∧ t.keys.slots = s.keys.slots))

/-- K0 refuses a request as R586 orders its checks, or queues it and performs the oldest; a tamper input latches without the supply; the
self-test commands keep to their life-cycle states and modes; an observation land carries only what the life-cycle state permits (R536,
R586, R588, R592, R609, R610).
A command whose own condition does not hold changes nothing: log entry 8. -/
def Obligations.TheKeeperServesWhatItMay : Prop :=
  (∀ (s : State) (e slot op : Nat) (sec : Bool), 22 ∉ s.gal.masked → e ∉ s.gal.masked →
    (∀ st, s.keeperCheck e sec slot op = some st → ∃ t, exec (.keeperRequest e sec slot op) s = .next t ∧
      t.out = [⟨.keeper, [(e : Int), slot, op, st]⟩] ∧ { t with out := s.out } = s) ∧
    (s.keeperCheck e sec slot op = none → ∃ t, exec (.keeperRequest e sec slot op) s = .next t ∧
      t.keys = { s.keys with queue := s.keys.queue ++ [⟨e, sec, slot, op⟩] } ∧ { t with keys := s.keys, out := s.out } = s)) ∧
  (∀ (s : State) (e slot op : Nat) (sec : Bool), 22 ∈ s.gal.masked ∨ e ∈ s.gal.masked → s.idle (.keeperRequest e sec slot op)) ∧
  (∀ (s : State) (e slot op : Nat) (sec : Bool) (k : KeySlot), k = s.keySlot slot →
    (k.kind = 0 → s.keeperCheck e sec slot op = some St.slotEmpty) ∧
    (k.kind ≠ 0 → bit k.life s.keys.life.code = false ∨ s.rootNow = 0 ∨ s.rootNow ≠ k.root → s.keeperCheck e sec slot op = some St.lifecycle) ∧
    (k.kind ≠ 0 → bit k.life s.keys.life.code = true → s.rootNow ≠ 0 → s.rootNow = k.root →
      (bit k.world (if sec = true then 0 else 1) = false ∨ (e ≠ k.master ∧ (k.paircore = false ∨ 2 ≤ e)) ∨ bit k.use_ op = false →
        s.keeperCheck e sec slot op = some St.access) ∧
      (bit k.world (if sec = true then 0 else 1) = true → e = k.master → bit k.use_ op = true →
        k.kind = 5 ∨ (k.fallback = 1 ∧ k.uses = 0) → s.keeperCheck e sec slot op = some St.keyExhausted) ∧
      (bit k.world (if sec = true then 0 else 1) = true → e = k.master ∨ (k.paircore = true ∧ k.master < 2 ∧ e < 2) →
        bit k.use_ op = true → k.kind ≠ 5 → k.fallback ≠ 1 ∨ k.uses ≠ 0 → s.keeperCheck e sec slot op = none))) ∧
  (∀ (s : State) (q : KeeperOp) (l : List KeeperOp), s.keys.queue = q :: l → 22 ∉ s.gal.masked →
    (∀ st, s.keeperCheck q.engine q.secure q.slot q.op = some st → ∃ t, exec .keeperOpComplete s = .next t ∧
      t.keys = { s.keys with queue := l } ∧ t.out = [⟨.keeper, [(q.engine : Int), q.slot, q.op, st]⟩]) ∧
    (s.keeperCheck q.engine q.secure q.slot q.op = none → (s.keySlot q.slot).fallback ≠ 1 →
      ∃ t, exec .keeperOpComplete s = .next t ∧ t.keys.queue = l ∧ t.keys.slots = s.keys.slots ∧
        t.keys.cache.head? = some (q.slot, s.workingKey q.slot) ∧ t.out = [⟨.keeper, [(q.engine : Int), q.slot, q.op, St.done]⟩]) ∧
    (s.keeperCheck q.engine q.secure q.slot q.op = none → (s.keySlot q.slot).fallback = 1 →
      ∃ t, exec .keeperOpComplete s = .next t ∧ t.keys.queue = l ∧ (t.keySlot q.slot).uses = (s.keySlot q.slot).uses - 1 ∧
        ((s.keySlot q.slot).uses = 1 → (t.keySlot q.slot).kind = 5 ∧ ∀ p ∈ t.keys.cache, p.1 ≠ q.slot))) ∧
  (∀ (s : State), s.keys.queue = [] ∨ 22 ∈ s.gal.masked → s.idle .keeperOpComplete) ∧
  (∀ (s : State),
    (s.phase = .reset → ∃ t, exec .tamperLatch s = .next t ∧ t.get F.KEY_STAT_LATCH = 1 ∧ { t with regs := s.regs, out := s.out } = s) ∧
    (s.phase ≠ .reset → s.idle .tamperLatch)) ∧
  (∀ (s : State) (who : Requester), s.mayWrite who →
    (∀ c, c ≠ 0x5AFE →
      (∃ t, exec (.fuseRepair who c) s = .next t ∧ t.get F.BST_CMD_STAT_STATUS = St.confirm ∧ t.bst = s.bst) ∧
      (∃ t, exec (.scanEnable who c) s = .next t ∧ t.get F.BST_CMD_STAT_STATUS = St.confirm ∧ t.keys = s.keys)) ∧
    (s.keys.life ≠ .returned → ∃ t, exec (.fuseRepair who 0x5AFE) s = .next t ∧ t.get F.BST_CMD_STAT_STATUS = St.lifecycle ∧
      t.bst = s.bst) ∧
    (s.keys.life = .returned → s.mode ≠ .stop → ∃ t, exec (.fuseRepair who 0x5AFE) s = .next t ∧
      t.get F.BST_CMD_STAT_STATUS = St.mode ∧ t.bst = s.bst) ∧
    (s.keys.life = .returned → s.mode = .stop → s.phase = .running → s.bst.fuseEntries ≤ Config.fuseCapacity →
      ∃ t, exec (.fuseRepair who 0x5AFE) s = .next t ∧ s.bst.fuseEntries ≤ t.bst.fuseEntries ∧
        t.bst.fuseEntries ≤ Config.fuseCapacity ∧ t.keys = s.keys ∧
        (t.get F.BST_CMD_STAT_STATUS = St.done ∨ t.get F.BST_CMD_STAT_STATUS = St.fuseFull)) ∧
    (s.keys.life ≠ .blank → s.keys.life ≠ .returned → ∃ t, exec (.scanEnable who 0x5AFE) s = .next t ∧
      t.get F.BST_CMD_STAT_STATUS = St.lifecycle ∧ t.keys = s.keys) ∧
    (s.keys.life = .blank ∨ s.keys.life = .returned → s.mode = .stop ∨ s.mode = .basic → s.phase = .running →
      ∃ t, exec (.scanEnable who 0x5AFE) s = .next t ∧ t.get F.BST_CMD_STAT_STATUS = St.done ∧ t.keys.scan = true ∧
        t.keys.zeroised = true ∧ t.keys.queue = [] ∧ t.keys.cache = [] ∧ t.get F.STP_STAT_DECLARED ≠ 0 ∧
        bit (t.get F.STP_CAUSE_ACTIVE) 7 = true)) ∧
  (∀ (s : State) (who : Requester) (k : Nat) (w : Word), s.mayWrite who →
    (8 ≤ k → ∃ t, exec (.obsSelWrite who k w) s = .next t ∧ t.out = [⟨.value, [(who.key : Int), St.badArg]⟩] ∧
      { t with out := s.out } = s) ∧
    (k < 8 → obsPermitted (bits w.toNat 8 5) s.keys.life = false → ∃ t, exec (.obsSelWrite who k w) s = .next t ∧
      t.out = [⟨.value, [(who.key : Int), St.lifecycle]⟩] ∧ { t with out := s.out } = s) ∧
    (k < 8 → obsPermitted (bits w.toNat 8 5) s.keys.life = true → ∃ t, exec (.obsSelWrite who k w) s = .next t ∧
      t.get (F.OBS_SEL_EN.at k) = bits w.toNat 31 31 ∧ t.get (F.OBS_SEL_GROUP.at k) = bits w.toNat 8 5 ∧
      t.get (F.OBS_SEL_SIGNAL.at k) = bits w.toNat 4 0 ∧ t.out = [⟨.value, [(who.key : Int), St.done]⟩] ∧
      (12 ≤ bits w.toNat 8 5 → s.wired.secretClean = false → t.keys.cache = [] ∧ t.keys.rootGone = true ∧ t.rootNow = 0 ∧
        t.get F.KEY_STAT_ROOT = 0 ∧ t.wired.secretClean = true)))

/-- The next queued record goes to the log, over an older one of the lowest severity when the log is full, or is counted as dropped; a
selection latches a record, a read of OPTIME its high part; marks and the Vitrine's freezing keep their conditions (R595, R598 to R602,
R635).
A command whose own condition does not hold changes nothing: log entry 8. -/
def Obligations.RecordsAreWrittenInOrder : Prop :=
  (∀ (s : State) (r : LogRec) (l : List LogRec), s.recs.queue = r :: l →
    (s.recs.held.length < 65536 →
      (∃ t, exec (.logRecordWrite false) s = .next t ∧ t.recs = { s.recs with queue := l, held := s.recs.held ++ [r] } ∧
        { t with recs := s.recs, out := s.out } = s) ∧
      (∃ t, exec (.logRecordWrite true) s = .next t ∧ t.recs = { s.recs with queue := l, torn := s.recs.torn + 1 })) ∧
    (65536 ≤ s.recs.held.length →
      (∀ x, x ∈ s.recs.held → (∀ y ∈ s.recs.held, x.sev ≤ y.sev) → x.sev ≤ 3 →
        (r.sev < x.sev → ∃ t, exec (.logRecordWrite false) s = .next t ∧ t.recs = { s.recs with queue := l } ∧
          t.get F.LOG_CNT_DROPPED = min 65535 (s.get F.LOG_CNT_DROPPED + 1)) ∧
        (x.sev ≤ r.sev → ∃ t, exec (.logRecordWrite false) s = .next t ∧ t.regs = s.regs ∧
          t.recs = { s.recs with queue := l, held := dropOldest x.sev s.recs.held ++ [r] } ∧
          t.recs.held.length = s.recs.held.length) ∧
        (x.sev ≤ r.sev → ∃ t, exec (.logRecordWrite true) s = .next t ∧ t.regs = s.regs ∧
          t.recs = { s.recs with queue := l, held := dropOldest x.sev s.recs.held, torn := s.recs.torn + 1 })))) ∧
  (∀ (s : State) (torn : Bool), s.recs.queue = [] → s.idle (.logRecordWrite torn)) ∧
  (∀ (s : State) (who : Requester) (w : Word), s.mayWrite who → ∃ t, exec (.logSel who w) s = .next t ∧
    t.get F.LOG_SEL_ACC = w.toNat ∧ t.out = [⟨.value, [(who.key : Int), St.done]⟩] ∧ t.recs = s.recs ∧
    (∀ r m, s.logFrom w.toNat 1 = ([r], m) →
      t.latched Win.log who.key = (List.range 16).map fun k => wordAt r.octets k)) ∧
  (∀ (s : State) (who : Requester), ∃ t, exec (.logOptimeLoRead who) s = .next t ∧
    t.out = [⟨.value, [(who.key : Int), St.done, (s.recs.optime % 2 ^ 32 : Nat)]⟩] ∧
    t.latched Win.optime who.key = [s.recs.optime / 2 ^ 32 % 2 ^ 16] ∧ { t with latch := s.latch, out := s.out } = s) ∧
  (∀ (s : State),
    (s.framesOn = true → s.get F.TIM_STAT_STATE ≠ 0 → s.recs.markAt + 3600000 ≤ s.recs.optime → s.recs.queue.length < 256 →
      ∃ t r, exec .timeMark s = .next t ∧ t.recs.markAt = s.recs.optime ∧ t.recs.queue = s.recs.queue ++ [r] ∧ r.sev = 0 ∧
        r.source = 0x0E ∧ r.code = 0xC004 ∧ r.optime = s.recs.optime) ∧
    (s.framesOn = false ∨ s.get F.TIM_STAT_STATE = 0 ∨ s.recs.optime < s.recs.markAt + 3600000 → s.idle .timeMark)) ∧
  (∀ (s : State),
    (s.recs.left = some 0 → s.recs.trigNow = false → ∃ t, exec .vitrineFreeze s = .next t ∧ t.get F.LOG_VIT_STAT_FROZEN = 1 ∧
      t.recs = { s.recs with left := none }) ∧
    (s.recs.left ≠ some 0 ∨ s.recs.trigNow = true → s.idle .vitrineFreeze)) ∧
  (∀ (s : State) (who : Requester), s.mayWrite who →
    (s.get F.LOG_VIT_STAT_FROZEN = 0 → s.recs.left = none → ∃ t, exec (.freeze who) s = .next t ∧
      t.recs = { s.recs with left := some (s.get F.LOG_VIT_CFG_POST), trigNow := true } ∧ t.get F.LOG_VIT_STAT_TRIGGER = 6 ∧
      t.get F.LOG_VIT_FRAME_LO_FRAME = s.num % 2 ^ 32 ∧ t.out = [⟨.value, [(who.key : Int), St.done]⟩]) ∧
    (s.get F.LOG_VIT_STAT_FROZEN ≠ 0 → ∃ t, exec (.freeze who) s = .next t ∧ t.recs = s.recs ∧
      t.out = [⟨.value, [(who.key : Int), St.done]⟩]) ∧
    (∃ t, exec (.unfreeze who) s = .next t ∧ t.get F.LOG_VIT_STAT_FROZEN = 0 ∧
      t.out = [⟨.value, [(who.key : Int), St.done]⟩]))

/-- The memory behind the address map keeps its canonical form in every step, whatever command is served (log entry 5). -/
def Obligations.MemoryStaysCanonical : Prop :=
  ∀ (s t : State), s.memOk → step s = .next t → t.memOk

/-- After reset the queue is empty, memory lists nothing, every field holds its reset value: the Gallery's LFSR 1, every semaphore free,
Stop declared, not aligned, every FIFO disabled (R15, R41; log entries 1 to 6 for the values the spec does not give). -/
def Obligations.ResetHoldsItsValues : Prop :=
  State.reset.memOk ∧ State.reset.pending = [] ∧ State.reset.phase = .reset ∧ (∀ a, memGet State.reset.mem a = unlistedByte) ∧
    (∀ f : Fld, State.reset.get f = f.rst) ∧ State.reset.get F.GAL_LFSR_STATE = 1 ∧
    (∀ n, State.reset.get (F.SEM_SEMn_OWNER.at n) = 31) ∧ State.reset.get F.STP_STAT_DECLARED = 1 ∧
    State.reset.get F.FRM_STAT_ALIGNED = 0 ∧ (∀ f, State.reset.get (F.FIF_CFG_ENABLE.at f) = 0)

/-- A step serves the command at the front of the queue, with the queue's rest; on an empty queue the block idles (log entry 7). -/
def Obligations.StepServesTheFrontCommand : Prop :=
  (∀ (s : State) (c : Instr) (l : List Instr), step { s with pending := c :: l } = exec c { s with pending := l }) ∧
  (∀ (s : State), s.pending = [] → step s = .next s)

/-- Every command completes and leaves the queue alone, so the queue is served to its end in its order (log entry 7). -/
def Obligations.QueueIsServedInOrder : Prop :=
  (∀ (c : Instr) (s : State), ∃ t, exec c s = .next t ∧ t.pending = s.pending) ∧
  (∀ (l m : List Instr) (s : State), s.pending = l ++ m → ∃ t, Nat.iterate (fun r : Option State => r.bind fun s =>
    match step s with | .next t => some t | _ => none) l.length (some s) = some t ∧ t.pending = m)

/-- No command writes the memory behind the address map but a Gallery access and a DMA descriptor; a reset keeps of it what is retained,
and every other command leaves every byte (R26, Tables 01.2 and 01.3). -/
def Obligations.MemoryIsWrittenThroughTheGalleryAlone : Prop :=
  ∀ (c : Instr) (s t : State), exec c s = .next t →
    t.mem = s.mem ∨ (t.phase = .reset ∧ t.mem = s.mem.filter keptCell) ∨
      (∃ b clocks arr beats dir, c = .galleryAccess b clocks arr beats dir) ∨ (∃ e d src dst len ecc, c = .dmaDescriptor e d src dst len ecc)
end

