-- ==== Sys2Proof/Laws/Memory.lean ====
section
/-!
SUPPORT. Memory: every operation keeps the canonical form, and a byte reads as it was last written.
-/
namespace Sys2Proof.Machine

/-- Every address of a memory lies above a bound, no byte is an unlisted one, and the addresses rise. -/
def memAbove (a : Nat) : List Host.Cell → Prop
  | [] => True
  | (x, b) :: m => a < x ∧ b ≠ unlistedByte ∧ memAbove x m

theorem wf_cons_iff (a : Nat) (b : BitVec 8) (m : List Host.Cell) :
    Memory.wf ((a, b) :: m) = true ↔ b ≠ unlistedByte ∧ memAbove a m := by
  induction m generalizing a b with
  | nil => simp [Memory.wf, memAbove]
  | cons p m ih =>
    obtain ⟨x, y⟩ := p
    have := ih x y
    simp only [Memory.wf, Bool.and_eq_true, decide_eq_true_eq, memAbove, this]
    constructor
    · rintro ⟨⟨h1, h2⟩, h3, h4⟩; exact ⟨h1, h2, h3, h4⟩
    · rintro ⟨h1, h2, h3, h4⟩; exact ⟨⟨h1, h2⟩, h3, h4⟩

theorem memAbove_le {a b : Nat} (h : a ≤ b) : ∀ {m : List Host.Cell}, memAbove b m → memAbove a m
  | [], _ => trivial
  | (_, _) :: _, ⟨h1, h2, h3⟩ => ⟨Nat.lt_of_le_of_lt h h1, h2, h3⟩

theorem memAbove_memPut {a x : Nat} (v : BitVec 8) (hx : a < x) :
    ∀ {m : List Host.Cell}, memAbove a m → memAbove a (memPut m x v)
  | [], _ => by
    unfold memPut
    split
    · trivial
    · next h => exact ⟨hx, h, trivial⟩
  | (y, b) :: m, ⟨h1, h2, h3⟩ => by
    simp only [memPut]
    split
    · next hlt =>
      split
      · exact ⟨h1, h2, h3⟩
      · next hv => exact ⟨hx, hv, hlt, h2, h3⟩
    · next hge =>
      split
      · next heq =>
        subst heq
        split
        · exact memAbove_le (Nat.le_of_lt h1) h3
        · next hv => exact ⟨h1, hv, h3⟩
      · next hne =>
        exact ⟨h1, h2, memAbove_memPut v (by omega) h3⟩

/-- The canonical form is that of an empty memory, or of one whose addresses lie above nothing. -/
theorem wf_iff_shift (m : List Host.Cell) : Memory.wf m = true ↔ memAbove 0 (m.map fun c => (c.1 + 1, c.2)) := by
  cases m with
  | nil => simp [Memory.wf, memAbove]
  | cons p m =>
    obtain ⟨a, b⟩ := p
    rw [wf_cons_iff]
    have shift : ∀ (m : List Host.Cell) (a : Nat), memAbove a m ↔ memAbove (a + 1) (m.map fun c => (c.1 + 1, c.2)) := by
      intro m
      induction m with
      | nil => intro a; simp [memAbove]
      | cons q m ih => intro a; obtain ⟨x, y⟩ := q; simp only [List.map_cons, memAbove, ← ih x, Nat.add_lt_add_iff_right]
    simp only [List.map_cons, memAbove, ← shift m a]
    exact ⟨fun h => ⟨by omega, h⟩, fun h => h.2⟩

theorem memPut_shift (m : List Host.Cell) (x : Nat) (v : BitVec 8) :
    (memPut m x v).map (fun c => (c.1 + 1, c.2)) = memPut (m.map fun c => (c.1 + 1, c.2)) (x + 1) v := by
  induction m with
  | nil => simp only [memPut, List.map_nil]; split <;> simp
  | cons p m ih =>
    obtain ⟨a, b⟩ := p
    simp only [memPut, List.map_cons, Nat.add_lt_add_iff_right, Nat.add_right_cancel_iff]
    split
    · split <;> simp
    · split
      · split <;> simp
      · simp [ih]

/-- Writing one byte keeps the canonical form. -/
theorem wf_memPut (m : List Host.Cell) (x : Nat) (v : BitVec 8) (h : Memory.wf m = true) : Memory.wf (memPut m x v) = true := by
  rw [wf_iff_shift] at h ⊢
  rw [memPut_shift]
  exact memAbove_memPut v (by omega) h

/-- Writing a run of bytes keeps the canonical form. -/
theorem wf_memWrite (l : List Nat) : ∀ (m : List Host.Cell) (a : Nat), Memory.wf m = true → Memory.wf (memWrite m a l) = true := by
  induction l with
  | nil => intro m a h; exact h
  | cons v l ih => intro m a h; exact ih _ _ (wf_memPut m a _ h)

/-- Dropping cells keeps the canonical form. -/
theorem memAbove_filter (p : Host.Cell → Bool) : ∀ {m : List Host.Cell} {a : Nat}, memAbove a m → memAbove a (m.filter p)
  | [], _, _ => trivial
  | (x, b) :: m, a, ⟨h1, h2, h3⟩ => by
    simp only [List.filter_cons]
    split
    · exact ⟨h1, h2, memAbove_filter p h3⟩
    · exact memAbove_le (Nat.le_of_lt h1) (memAbove_filter p h3)

theorem wf_filter (p : Host.Cell → Bool) (m : List Host.Cell) (h : Memory.wf m = true) : Memory.wf (m.filter p) = true := by
  cases m with
  | nil => rfl
  | cons c m =>
    obtain ⟨a, b⟩ := c
    obtain ⟨h1, h2⟩ := (wf_cons_iff a b m).1 h
    simp only [List.filter_cons]
    split
    · exact (wf_cons_iff _ _ _).2 ⟨h1, memAbove_filter p h2⟩
    · have h3 := memAbove_filter p h2
      cases hm : m.filter p with
      | nil => rfl
      | cons d m' =>
        rw [hm] at h3
        obtain ⟨x, y⟩ := d
        exact (wf_cons_iff _ _ _).2 h3.2

/-- A byte reads as it was written; the canonical form matters for the unlisted byte alone. -/
theorem memGet_of_above {a x : Nat} (hx : x ≤ a) : ∀ {m : List Host.Cell}, memAbove a m → memGet m x = unlistedByte
  | [], _ => rfl
  | (y, b) :: m, ⟨h1, _, h3⟩ => by
    simp only [memGet]
    rw [if_neg (by omega)]
    exact memGet_of_above (by omega) h3

theorem memGet_memPut_self (v : BitVec 8) (x : Nat) : ∀ (m : List Host.Cell), Memory.wf m = true → memGet (memPut m x v) x = v
  | [], _ => by
    simp only [memPut]; split
    · next h => simp [memGet, h]
    · simp [memGet]
  | (a, b) :: m, h => by
    obtain ⟨h1, h2⟩ := (wf_cons_iff a b m).1 h
    simp only [memPut]
    split
    · next hlt =>
      split
      · next hv => rw [hv]; exact memGet_of_above (a := x) (Nat.le_refl x) (m := (a, b) :: m) ⟨hlt, h1, h2⟩
      · simp [memGet]
    · split
      · next heq =>
        subst heq
        split
        · next hv => rw [hv]; exact memGet_of_above (Nat.le_refl x) h2
        · simp [memGet]
      · next hne =>
        simp only [memGet]
        rw [if_neg hne]
        apply memGet_memPut_self v x m
        cases m with
        | nil => rfl
        | cons d m => obtain ⟨y, c⟩ := d; exact (wf_cons_iff _ _ _).2 h2.2

theorem memGet_memPut_ne (v : BitVec 8) {x y : Nat} (hne : y ≠ x) : ∀ (m : List Host.Cell), memGet (memPut m x v) y = memGet m y
  | [] => by
    simp only [memPut]; split
    · rfl
    · simp [memGet, hne]
  | (a, b) :: m => by
    simp only [memPut]
    split
    · split
      · rfl
      · simp [memGet, hne]
    · split
      · next heq =>
        subst heq
        split
        · simp [memGet, hne]
        · simp [memGet, hne]
      · simp only [memGet]; rw [memGet_memPut_ne v hne m]

end Sys2Proof.Machine
end

