-- ==== Sys2Proof/Laws/State.lean ====
section
/-!
SUPPORT. One lemma per field of the state per update, so that no proof unfolds a record update.
-/
namespace Sys2Proof.Machine

@[simp] theorem State.put_phase (s : State) (f : Fld) (v : Nat) : (s.put f v).phase = s.phase := rfl
@[simp] theorem State.put_mode (s : State) (f : Fld) (v : Nat) : (s.put f v).mode = s.mode := rfl
@[simp] theorem State.put_role (s : State) (f : Fld) (v : Nat) : (s.put f v).role = s.role := rfl
@[simp] theorem State.put_latch (s : State) (f : Fld) (v : Nat) : (s.put f v).latch = s.latch := rfl
@[simp] theorem State.put_frame (s : State) (f : Fld) (v : Nat) : (s.put f v).frame = s.frame := rfl
@[simp] theorem State.put_gal (s : State) (f : Fld) (v : Nat) : (s.put f v).gal = s.gal := rfl
@[simp] theorem State.put_prog (s : State) (f : Fld) (v : Nat) : (s.put f v).prog = s.prog := rfl
@[simp] theorem State.put_light (s : State) (f : Fld) (v : Nat) : (s.put f v).light = s.light := rfl
@[simp] theorem State.put_net (s : State) (f : Fld) (v : Nat) : (s.put f v).net = s.net := rfl
@[simp] theorem State.put_drv (s : State) (f : Fld) (v : Nat) : (s.put f v).drv = s.drv := rfl
@[simp] theorem State.put_pos (s : State) (f : Fld) (v : Nat) : (s.put f v).pos = s.pos := rfl
@[simp] theorem State.put_fleet (s : State) (f : Fld) (v : Nat) : (s.put f v).fleet = s.fleet := rfl
@[simp] theorem State.put_stp (s : State) (f : Fld) (v : Nat) : (s.put f v).stp = s.stp := rfl
@[simp] theorem State.put_time (s : State) (f : Fld) (v : Nat) : (s.put f v).time = s.time := rfl
@[simp] theorem State.put_rtc (s : State) (f : Fld) (v : Nat) : (s.put f v).rtc = s.rtc := rfl
@[simp] theorem State.put_meter (s : State) (f : Fld) (v : Nat) : (s.put f v).meter = s.meter := rfl
@[simp] theorem State.put_wired (s : State) (f : Fld) (v : Nat) : (s.put f v).wired = s.wired := rfl
@[simp] theorem State.put_spl (s : State) (f : Fld) (v : Nat) : (s.put f v).spl = s.spl := rfl
@[simp] theorem State.put_upd (s : State) (f : Fld) (v : Nat) : (s.put f v).upd = s.upd := rfl
@[simp] theorem State.put_keys (s : State) (f : Fld) (v : Nat) : (s.put f v).keys = s.keys := rfl
@[simp] theorem State.put_recs (s : State) (f : Fld) (v : Nat) : (s.put f v).recs = s.recs := rfl
@[simp] theorem State.put_bst (s : State) (f : Fld) (v : Nat) : (s.put f v).bst = s.bst := rfl
@[simp] theorem State.put_mem (s : State) (f : Fld) (v : Nat) : (s.put f v).mem = s.mem := rfl
@[simp] theorem State.put_free (s : State) (f : Fld) (v : Nat) : (s.put f v).free = s.free := rfl
@[simp] theorem State.put_out (s : State) (f : Fld) (v : Nat) : (s.put f v).out = s.out := rfl
@[simp] theorem State.put_pending (s : State) (f : Fld) (v : Nat) : (s.put f v).pending = s.pending := rfl

@[simp] theorem State.modFrame_phase (s : State) (g : Frame → Frame) : (s.modFrame g).phase = s.phase := rfl
@[simp] theorem State.modFrame_mode (s : State) (g : Frame → Frame) : (s.modFrame g).mode = s.mode := rfl
@[simp] theorem State.modFrame_role (s : State) (g : Frame → Frame) : (s.modFrame g).role = s.role := rfl
@[simp] theorem State.modFrame_regs (s : State) (g : Frame → Frame) : (s.modFrame g).regs = s.regs := rfl
@[simp] theorem State.modFrame_latch (s : State) (g : Frame → Frame) : (s.modFrame g).latch = s.latch := rfl
@[simp] theorem State.modFrame_gal (s : State) (g : Frame → Frame) : (s.modFrame g).gal = s.gal := rfl
@[simp] theorem State.modFrame_prog (s : State) (g : Frame → Frame) : (s.modFrame g).prog = s.prog := rfl
@[simp] theorem State.modFrame_light (s : State) (g : Frame → Frame) : (s.modFrame g).light = s.light := rfl
@[simp] theorem State.modFrame_net (s : State) (g : Frame → Frame) : (s.modFrame g).net = s.net := rfl
@[simp] theorem State.modFrame_drv (s : State) (g : Frame → Frame) : (s.modFrame g).drv = s.drv := rfl
@[simp] theorem State.modFrame_pos (s : State) (g : Frame → Frame) : (s.modFrame g).pos = s.pos := rfl
@[simp] theorem State.modFrame_fleet (s : State) (g : Frame → Frame) : (s.modFrame g).fleet = s.fleet := rfl
@[simp] theorem State.modFrame_stp (s : State) (g : Frame → Frame) : (s.modFrame g).stp = s.stp := rfl
@[simp] theorem State.modFrame_time (s : State) (g : Frame → Frame) : (s.modFrame g).time = s.time := rfl
@[simp] theorem State.modFrame_rtc (s : State) (g : Frame → Frame) : (s.modFrame g).rtc = s.rtc := rfl
@[simp] theorem State.modFrame_meter (s : State) (g : Frame → Frame) : (s.modFrame g).meter = s.meter := rfl
@[simp] theorem State.modFrame_wired (s : State) (g : Frame → Frame) : (s.modFrame g).wired = s.wired := rfl
@[simp] theorem State.modFrame_spl (s : State) (g : Frame → Frame) : (s.modFrame g).spl = s.spl := rfl
@[simp] theorem State.modFrame_upd (s : State) (g : Frame → Frame) : (s.modFrame g).upd = s.upd := rfl
@[simp] theorem State.modFrame_keys (s : State) (g : Frame → Frame) : (s.modFrame g).keys = s.keys := rfl
@[simp] theorem State.modFrame_recs (s : State) (g : Frame → Frame) : (s.modFrame g).recs = s.recs := rfl
@[simp] theorem State.modFrame_bst (s : State) (g : Frame → Frame) : (s.modFrame g).bst = s.bst := rfl
@[simp] theorem State.modFrame_mem (s : State) (g : Frame → Frame) : (s.modFrame g).mem = s.mem := rfl
@[simp] theorem State.modFrame_free (s : State) (g : Frame → Frame) : (s.modFrame g).free = s.free := rfl
@[simp] theorem State.modFrame_out (s : State) (g : Frame → Frame) : (s.modFrame g).out = s.out := rfl
@[simp] theorem State.modFrame_pending (s : State) (g : Frame → Frame) : (s.modFrame g).pending = s.pending := rfl
@[simp] theorem State.modFrame_frame (s : State) (g : Frame → Frame) : (s.modFrame g).frame = g s.frame := rfl
@[simp] theorem State.modFrame_get (s : State) (g : Frame → Frame) (h : Fld) : (s.modFrame g).get h = s.get h := rfl

@[simp] theorem State.modGal_phase (s : State) (g : Gallery → Gallery) : (s.modGal g).phase = s.phase := rfl
@[simp] theorem State.modGal_mode (s : State) (g : Gallery → Gallery) : (s.modGal g).mode = s.mode := rfl
@[simp] theorem State.modGal_role (s : State) (g : Gallery → Gallery) : (s.modGal g).role = s.role := rfl
@[simp] theorem State.modGal_regs (s : State) (g : Gallery → Gallery) : (s.modGal g).regs = s.regs := rfl
@[simp] theorem State.modGal_latch (s : State) (g : Gallery → Gallery) : (s.modGal g).latch = s.latch := rfl
@[simp] theorem State.modGal_frame (s : State) (g : Gallery → Gallery) : (s.modGal g).frame = s.frame := rfl
@[simp] theorem State.modGal_prog (s : State) (g : Gallery → Gallery) : (s.modGal g).prog = s.prog := rfl
@[simp] theorem State.modGal_light (s : State) (g : Gallery → Gallery) : (s.modGal g).light = s.light := rfl
@[simp] theorem State.modGal_net (s : State) (g : Gallery → Gallery) : (s.modGal g).net = s.net := rfl
@[simp] theorem State.modGal_drv (s : State) (g : Gallery → Gallery) : (s.modGal g).drv = s.drv := rfl
@[simp] theorem State.modGal_pos (s : State) (g : Gallery → Gallery) : (s.modGal g).pos = s.pos := rfl
@[simp] theorem State.modGal_fleet (s : State) (g : Gallery → Gallery) : (s.modGal g).fleet = s.fleet := rfl
@[simp] theorem State.modGal_stp (s : State) (g : Gallery → Gallery) : (s.modGal g).stp = s.stp := rfl
@[simp] theorem State.modGal_time (s : State) (g : Gallery → Gallery) : (s.modGal g).time = s.time := rfl
@[simp] theorem State.modGal_rtc (s : State) (g : Gallery → Gallery) : (s.modGal g).rtc = s.rtc := rfl
@[simp] theorem State.modGal_meter (s : State) (g : Gallery → Gallery) : (s.modGal g).meter = s.meter := rfl
@[simp] theorem State.modGal_wired (s : State) (g : Gallery → Gallery) : (s.modGal g).wired = s.wired := rfl
@[simp] theorem State.modGal_spl (s : State) (g : Gallery → Gallery) : (s.modGal g).spl = s.spl := rfl
@[simp] theorem State.modGal_upd (s : State) (g : Gallery → Gallery) : (s.modGal g).upd = s.upd := rfl
@[simp] theorem State.modGal_keys (s : State) (g : Gallery → Gallery) : (s.modGal g).keys = s.keys := rfl
@[simp] theorem State.modGal_recs (s : State) (g : Gallery → Gallery) : (s.modGal g).recs = s.recs := rfl
@[simp] theorem State.modGal_bst (s : State) (g : Gallery → Gallery) : (s.modGal g).bst = s.bst := rfl
@[simp] theorem State.modGal_mem (s : State) (g : Gallery → Gallery) : (s.modGal g).mem = s.mem := rfl
@[simp] theorem State.modGal_free (s : State) (g : Gallery → Gallery) : (s.modGal g).free = s.free := rfl
@[simp] theorem State.modGal_out (s : State) (g : Gallery → Gallery) : (s.modGal g).out = s.out := rfl
@[simp] theorem State.modGal_pending (s : State) (g : Gallery → Gallery) : (s.modGal g).pending = s.pending := rfl
@[simp] theorem State.modGal_gal (s : State) (g : Gallery → Gallery) : (s.modGal g).gal = g s.gal := rfl
@[simp] theorem State.modGal_get (s : State) (g : Gallery → Gallery) (h : Fld) : (s.modGal g).get h = s.get h := rfl

@[simp] theorem State.modProg_phase (s : State) (g : Prog → Prog) : (s.modProg g).phase = s.phase := rfl
@[simp] theorem State.modProg_mode (s : State) (g : Prog → Prog) : (s.modProg g).mode = s.mode := rfl
@[simp] theorem State.modProg_role (s : State) (g : Prog → Prog) : (s.modProg g).role = s.role := rfl
@[simp] theorem State.modProg_regs (s : State) (g : Prog → Prog) : (s.modProg g).regs = s.regs := rfl
@[simp] theorem State.modProg_latch (s : State) (g : Prog → Prog) : (s.modProg g).latch = s.latch := rfl
@[simp] theorem State.modProg_frame (s : State) (g : Prog → Prog) : (s.modProg g).frame = s.frame := rfl
@[simp] theorem State.modProg_gal (s : State) (g : Prog → Prog) : (s.modProg g).gal = s.gal := rfl
@[simp] theorem State.modProg_light (s : State) (g : Prog → Prog) : (s.modProg g).light = s.light := rfl
@[simp] theorem State.modProg_net (s : State) (g : Prog → Prog) : (s.modProg g).net = s.net := rfl
@[simp] theorem State.modProg_drv (s : State) (g : Prog → Prog) : (s.modProg g).drv = s.drv := rfl
@[simp] theorem State.modProg_pos (s : State) (g : Prog → Prog) : (s.modProg g).pos = s.pos := rfl
@[simp] theorem State.modProg_fleet (s : State) (g : Prog → Prog) : (s.modProg g).fleet = s.fleet := rfl
@[simp] theorem State.modProg_stp (s : State) (g : Prog → Prog) : (s.modProg g).stp = s.stp := rfl
@[simp] theorem State.modProg_time (s : State) (g : Prog → Prog) : (s.modProg g).time = s.time := rfl
@[simp] theorem State.modProg_rtc (s : State) (g : Prog → Prog) : (s.modProg g).rtc = s.rtc := rfl
@[simp] theorem State.modProg_meter (s : State) (g : Prog → Prog) : (s.modProg g).meter = s.meter := rfl
@[simp] theorem State.modProg_wired (s : State) (g : Prog → Prog) : (s.modProg g).wired = s.wired := rfl
@[simp] theorem State.modProg_spl (s : State) (g : Prog → Prog) : (s.modProg g).spl = s.spl := rfl
@[simp] theorem State.modProg_upd (s : State) (g : Prog → Prog) : (s.modProg g).upd = s.upd := rfl
@[simp] theorem State.modProg_keys (s : State) (g : Prog → Prog) : (s.modProg g).keys = s.keys := rfl
@[simp] theorem State.modProg_recs (s : State) (g : Prog → Prog) : (s.modProg g).recs = s.recs := rfl
@[simp] theorem State.modProg_bst (s : State) (g : Prog → Prog) : (s.modProg g).bst = s.bst := rfl
@[simp] theorem State.modProg_mem (s : State) (g : Prog → Prog) : (s.modProg g).mem = s.mem := rfl
@[simp] theorem State.modProg_free (s : State) (g : Prog → Prog) : (s.modProg g).free = s.free := rfl
@[simp] theorem State.modProg_out (s : State) (g : Prog → Prog) : (s.modProg g).out = s.out := rfl
@[simp] theorem State.modProg_pending (s : State) (g : Prog → Prog) : (s.modProg g).pending = s.pending := rfl
@[simp] theorem State.modProg_prog (s : State) (g : Prog → Prog) : (s.modProg g).prog = g s.prog := rfl
@[simp] theorem State.modProg_get (s : State) (g : Prog → Prog) (h : Fld) : (s.modProg g).get h = s.get h := rfl

@[simp] theorem State.modLight_phase (s : State) (g : Light → Light) : (s.modLight g).phase = s.phase := rfl
@[simp] theorem State.modLight_mode (s : State) (g : Light → Light) : (s.modLight g).mode = s.mode := rfl
@[simp] theorem State.modLight_role (s : State) (g : Light → Light) : (s.modLight g).role = s.role := rfl
@[simp] theorem State.modLight_regs (s : State) (g : Light → Light) : (s.modLight g).regs = s.regs := rfl
@[simp] theorem State.modLight_latch (s : State) (g : Light → Light) : (s.modLight g).latch = s.latch := rfl
@[simp] theorem State.modLight_frame (s : State) (g : Light → Light) : (s.modLight g).frame = s.frame := rfl
@[simp] theorem State.modLight_gal (s : State) (g : Light → Light) : (s.modLight g).gal = s.gal := rfl
@[simp] theorem State.modLight_prog (s : State) (g : Light → Light) : (s.modLight g).prog = s.prog := rfl
@[simp] theorem State.modLight_net (s : State) (g : Light → Light) : (s.modLight g).net = s.net := rfl
@[simp] theorem State.modLight_drv (s : State) (g : Light → Light) : (s.modLight g).drv = s.drv := rfl
@[simp] theorem State.modLight_pos (s : State) (g : Light → Light) : (s.modLight g).pos = s.pos := rfl
@[simp] theorem State.modLight_fleet (s : State) (g : Light → Light) : (s.modLight g).fleet = s.fleet := rfl
@[simp] theorem State.modLight_stp (s : State) (g : Light → Light) : (s.modLight g).stp = s.stp := rfl
@[simp] theorem State.modLight_time (s : State) (g : Light → Light) : (s.modLight g).time = s.time := rfl
@[simp] theorem State.modLight_rtc (s : State) (g : Light → Light) : (s.modLight g).rtc = s.rtc := rfl
@[simp] theorem State.modLight_meter (s : State) (g : Light → Light) : (s.modLight g).meter = s.meter := rfl
@[simp] theorem State.modLight_wired (s : State) (g : Light → Light) : (s.modLight g).wired = s.wired := rfl
@[simp] theorem State.modLight_spl (s : State) (g : Light → Light) : (s.modLight g).spl = s.spl := rfl
@[simp] theorem State.modLight_upd (s : State) (g : Light → Light) : (s.modLight g).upd = s.upd := rfl
@[simp] theorem State.modLight_keys (s : State) (g : Light → Light) : (s.modLight g).keys = s.keys := rfl
@[simp] theorem State.modLight_recs (s : State) (g : Light → Light) : (s.modLight g).recs = s.recs := rfl
@[simp] theorem State.modLight_bst (s : State) (g : Light → Light) : (s.modLight g).bst = s.bst := rfl
@[simp] theorem State.modLight_mem (s : State) (g : Light → Light) : (s.modLight g).mem = s.mem := rfl
@[simp] theorem State.modLight_free (s : State) (g : Light → Light) : (s.modLight g).free = s.free := rfl
@[simp] theorem State.modLight_out (s : State) (g : Light → Light) : (s.modLight g).out = s.out := rfl
@[simp] theorem State.modLight_pending (s : State) (g : Light → Light) : (s.modLight g).pending = s.pending := rfl
@[simp] theorem State.modLight_light (s : State) (g : Light → Light) : (s.modLight g).light = g s.light := rfl
@[simp] theorem State.modLight_get (s : State) (g : Light → Light) (h : Fld) : (s.modLight g).get h = s.get h := rfl

@[simp] theorem State.modNet_phase (s : State) (g : Network → Network) : (s.modNet g).phase = s.phase := rfl
@[simp] theorem State.modNet_mode (s : State) (g : Network → Network) : (s.modNet g).mode = s.mode := rfl
@[simp] theorem State.modNet_role (s : State) (g : Network → Network) : (s.modNet g).role = s.role := rfl
@[simp] theorem State.modNet_regs (s : State) (g : Network → Network) : (s.modNet g).regs = s.regs := rfl
@[simp] theorem State.modNet_latch (s : State) (g : Network → Network) : (s.modNet g).latch = s.latch := rfl
@[simp] theorem State.modNet_frame (s : State) (g : Network → Network) : (s.modNet g).frame = s.frame := rfl
@[simp] theorem State.modNet_gal (s : State) (g : Network → Network) : (s.modNet g).gal = s.gal := rfl
@[simp] theorem State.modNet_prog (s : State) (g : Network → Network) : (s.modNet g).prog = s.prog := rfl
@[simp] theorem State.modNet_light (s : State) (g : Network → Network) : (s.modNet g).light = s.light := rfl
@[simp] theorem State.modNet_drv (s : State) (g : Network → Network) : (s.modNet g).drv = s.drv := rfl
@[simp] theorem State.modNet_pos (s : State) (g : Network → Network) : (s.modNet g).pos = s.pos := rfl
@[simp] theorem State.modNet_fleet (s : State) (g : Network → Network) : (s.modNet g).fleet = s.fleet := rfl
@[simp] theorem State.modNet_stp (s : State) (g : Network → Network) : (s.modNet g).stp = s.stp := rfl
@[simp] theorem State.modNet_time (s : State) (g : Network → Network) : (s.modNet g).time = s.time := rfl
@[simp] theorem State.modNet_rtc (s : State) (g : Network → Network) : (s.modNet g).rtc = s.rtc := rfl
@[simp] theorem State.modNet_meter (s : State) (g : Network → Network) : (s.modNet g).meter = s.meter := rfl
@[simp] theorem State.modNet_wired (s : State) (g : Network → Network) : (s.modNet g).wired = s.wired := rfl
@[simp] theorem State.modNet_spl (s : State) (g : Network → Network) : (s.modNet g).spl = s.spl := rfl
@[simp] theorem State.modNet_upd (s : State) (g : Network → Network) : (s.modNet g).upd = s.upd := rfl
@[simp] theorem State.modNet_keys (s : State) (g : Network → Network) : (s.modNet g).keys = s.keys := rfl
@[simp] theorem State.modNet_recs (s : State) (g : Network → Network) : (s.modNet g).recs = s.recs := rfl
@[simp] theorem State.modNet_bst (s : State) (g : Network → Network) : (s.modNet g).bst = s.bst := rfl
@[simp] theorem State.modNet_mem (s : State) (g : Network → Network) : (s.modNet g).mem = s.mem := rfl
@[simp] theorem State.modNet_free (s : State) (g : Network → Network) : (s.modNet g).free = s.free := rfl
@[simp] theorem State.modNet_out (s : State) (g : Network → Network) : (s.modNet g).out = s.out := rfl
@[simp] theorem State.modNet_pending (s : State) (g : Network → Network) : (s.modNet g).pending = s.pending := rfl
@[simp] theorem State.modNet_net (s : State) (g : Network → Network) : (s.modNet g).net = g s.net := rfl
@[simp] theorem State.modNet_get (s : State) (g : Network → Network) (h : Fld) : (s.modNet g).get h = s.get h := rfl

@[simp] theorem State.modDrv_phase (s : State) (g : DriveSt → DriveSt) : (s.modDrv g).phase = s.phase := rfl
@[simp] theorem State.modDrv_mode (s : State) (g : DriveSt → DriveSt) : (s.modDrv g).mode = s.mode := rfl
@[simp] theorem State.modDrv_role (s : State) (g : DriveSt → DriveSt) : (s.modDrv g).role = s.role := rfl
@[simp] theorem State.modDrv_regs (s : State) (g : DriveSt → DriveSt) : (s.modDrv g).regs = s.regs := rfl
@[simp] theorem State.modDrv_latch (s : State) (g : DriveSt → DriveSt) : (s.modDrv g).latch = s.latch := rfl
@[simp] theorem State.modDrv_frame (s : State) (g : DriveSt → DriveSt) : (s.modDrv g).frame = s.frame := rfl
@[simp] theorem State.modDrv_gal (s : State) (g : DriveSt → DriveSt) : (s.modDrv g).gal = s.gal := rfl
@[simp] theorem State.modDrv_prog (s : State) (g : DriveSt → DriveSt) : (s.modDrv g).prog = s.prog := rfl
@[simp] theorem State.modDrv_light (s : State) (g : DriveSt → DriveSt) : (s.modDrv g).light = s.light := rfl
@[simp] theorem State.modDrv_net (s : State) (g : DriveSt → DriveSt) : (s.modDrv g).net = s.net := rfl
@[simp] theorem State.modDrv_pos (s : State) (g : DriveSt → DriveSt) : (s.modDrv g).pos = s.pos := rfl
@[simp] theorem State.modDrv_fleet (s : State) (g : DriveSt → DriveSt) : (s.modDrv g).fleet = s.fleet := rfl
@[simp] theorem State.modDrv_stp (s : State) (g : DriveSt → DriveSt) : (s.modDrv g).stp = s.stp := rfl
@[simp] theorem State.modDrv_time (s : State) (g : DriveSt → DriveSt) : (s.modDrv g).time = s.time := rfl
@[simp] theorem State.modDrv_rtc (s : State) (g : DriveSt → DriveSt) : (s.modDrv g).rtc = s.rtc := rfl
@[simp] theorem State.modDrv_meter (s : State) (g : DriveSt → DriveSt) : (s.modDrv g).meter = s.meter := rfl
@[simp] theorem State.modDrv_wired (s : State) (g : DriveSt → DriveSt) : (s.modDrv g).wired = s.wired := rfl
@[simp] theorem State.modDrv_spl (s : State) (g : DriveSt → DriveSt) : (s.modDrv g).spl = s.spl := rfl
@[simp] theorem State.modDrv_upd (s : State) (g : DriveSt → DriveSt) : (s.modDrv g).upd = s.upd := rfl
@[simp] theorem State.modDrv_keys (s : State) (g : DriveSt → DriveSt) : (s.modDrv g).keys = s.keys := rfl
@[simp] theorem State.modDrv_recs (s : State) (g : DriveSt → DriveSt) : (s.modDrv g).recs = s.recs := rfl
@[simp] theorem State.modDrv_bst (s : State) (g : DriveSt → DriveSt) : (s.modDrv g).bst = s.bst := rfl
@[simp] theorem State.modDrv_mem (s : State) (g : DriveSt → DriveSt) : (s.modDrv g).mem = s.mem := rfl
@[simp] theorem State.modDrv_free (s : State) (g : DriveSt → DriveSt) : (s.modDrv g).free = s.free := rfl
@[simp] theorem State.modDrv_out (s : State) (g : DriveSt → DriveSt) : (s.modDrv g).out = s.out := rfl
@[simp] theorem State.modDrv_pending (s : State) (g : DriveSt → DriveSt) : (s.modDrv g).pending = s.pending := rfl
@[simp] theorem State.modDrv_drv (s : State) (g : DriveSt → DriveSt) : (s.modDrv g).drv = g s.drv := rfl
@[simp] theorem State.modDrv_get (s : State) (g : DriveSt → DriveSt) (h : Fld) : (s.modDrv g).get h = s.get h := rfl

@[simp] theorem State.modPos_phase (s : State) (g : Positioning → Positioning) : (s.modPos g).phase = s.phase := rfl
@[simp] theorem State.modPos_mode (s : State) (g : Positioning → Positioning) : (s.modPos g).mode = s.mode := rfl
@[simp] theorem State.modPos_role (s : State) (g : Positioning → Positioning) : (s.modPos g).role = s.role := rfl
@[simp] theorem State.modPos_regs (s : State) (g : Positioning → Positioning) : (s.modPos g).regs = s.regs := rfl
@[simp] theorem State.modPos_latch (s : State) (g : Positioning → Positioning) : (s.modPos g).latch = s.latch := rfl
@[simp] theorem State.modPos_frame (s : State) (g : Positioning → Positioning) : (s.modPos g).frame = s.frame := rfl
@[simp] theorem State.modPos_gal (s : State) (g : Positioning → Positioning) : (s.modPos g).gal = s.gal := rfl
@[simp] theorem State.modPos_prog (s : State) (g : Positioning → Positioning) : (s.modPos g).prog = s.prog := rfl
@[simp] theorem State.modPos_light (s : State) (g : Positioning → Positioning) : (s.modPos g).light = s.light := rfl
@[simp] theorem State.modPos_net (s : State) (g : Positioning → Positioning) : (s.modPos g).net = s.net := rfl
@[simp] theorem State.modPos_drv (s : State) (g : Positioning → Positioning) : (s.modPos g).drv = s.drv := rfl
@[simp] theorem State.modPos_fleet (s : State) (g : Positioning → Positioning) : (s.modPos g).fleet = s.fleet := rfl
@[simp] theorem State.modPos_stp (s : State) (g : Positioning → Positioning) : (s.modPos g).stp = s.stp := rfl
@[simp] theorem State.modPos_time (s : State) (g : Positioning → Positioning) : (s.modPos g).time = s.time := rfl
@[simp] theorem State.modPos_rtc (s : State) (g : Positioning → Positioning) : (s.modPos g).rtc = s.rtc := rfl
@[simp] theorem State.modPos_meter (s : State) (g : Positioning → Positioning) : (s.modPos g).meter = s.meter := rfl
@[simp] theorem State.modPos_wired (s : State) (g : Positioning → Positioning) : (s.modPos g).wired = s.wired := rfl
@[simp] theorem State.modPos_spl (s : State) (g : Positioning → Positioning) : (s.modPos g).spl = s.spl := rfl
@[simp] theorem State.modPos_upd (s : State) (g : Positioning → Positioning) : (s.modPos g).upd = s.upd := rfl
@[simp] theorem State.modPos_keys (s : State) (g : Positioning → Positioning) : (s.modPos g).keys = s.keys := rfl
@[simp] theorem State.modPos_recs (s : State) (g : Positioning → Positioning) : (s.modPos g).recs = s.recs := rfl
@[simp] theorem State.modPos_bst (s : State) (g : Positioning → Positioning) : (s.modPos g).bst = s.bst := rfl
@[simp] theorem State.modPos_mem (s : State) (g : Positioning → Positioning) : (s.modPos g).mem = s.mem := rfl
@[simp] theorem State.modPos_free (s : State) (g : Positioning → Positioning) : (s.modPos g).free = s.free := rfl
@[simp] theorem State.modPos_out (s : State) (g : Positioning → Positioning) : (s.modPos g).out = s.out := rfl
@[simp] theorem State.modPos_pending (s : State) (g : Positioning → Positioning) : (s.modPos g).pending = s.pending := rfl
@[simp] theorem State.modPos_pos (s : State) (g : Positioning → Positioning) : (s.modPos g).pos = g s.pos := rfl
@[simp] theorem State.modPos_get (s : State) (g : Positioning → Positioning) (h : Fld) : (s.modPos g).get h = s.get h := rfl

@[simp] theorem State.modFleet_phase (s : State) (g : Fleet → Fleet) : (s.modFleet g).phase = s.phase := rfl
@[simp] theorem State.modFleet_mode (s : State) (g : Fleet → Fleet) : (s.modFleet g).mode = s.mode := rfl
@[simp] theorem State.modFleet_role (s : State) (g : Fleet → Fleet) : (s.modFleet g).role = s.role := rfl
@[simp] theorem State.modFleet_regs (s : State) (g : Fleet → Fleet) : (s.modFleet g).regs = s.regs := rfl
@[simp] theorem State.modFleet_latch (s : State) (g : Fleet → Fleet) : (s.modFleet g).latch = s.latch := rfl
@[simp] theorem State.modFleet_frame (s : State) (g : Fleet → Fleet) : (s.modFleet g).frame = s.frame := rfl
@[simp] theorem State.modFleet_gal (s : State) (g : Fleet → Fleet) : (s.modFleet g).gal = s.gal := rfl
@[simp] theorem State.modFleet_prog (s : State) (g : Fleet → Fleet) : (s.modFleet g).prog = s.prog := rfl
@[simp] theorem State.modFleet_light (s : State) (g : Fleet → Fleet) : (s.modFleet g).light = s.light := rfl
@[simp] theorem State.modFleet_net (s : State) (g : Fleet → Fleet) : (s.modFleet g).net = s.net := rfl
@[simp] theorem State.modFleet_drv (s : State) (g : Fleet → Fleet) : (s.modFleet g).drv = s.drv := rfl
@[simp] theorem State.modFleet_pos (s : State) (g : Fleet → Fleet) : (s.modFleet g).pos = s.pos := rfl
@[simp] theorem State.modFleet_stp (s : State) (g : Fleet → Fleet) : (s.modFleet g).stp = s.stp := rfl
@[simp] theorem State.modFleet_time (s : State) (g : Fleet → Fleet) : (s.modFleet g).time = s.time := rfl
@[simp] theorem State.modFleet_rtc (s : State) (g : Fleet → Fleet) : (s.modFleet g).rtc = s.rtc := rfl
@[simp] theorem State.modFleet_meter (s : State) (g : Fleet → Fleet) : (s.modFleet g).meter = s.meter := rfl
@[simp] theorem State.modFleet_wired (s : State) (g : Fleet → Fleet) : (s.modFleet g).wired = s.wired := rfl
@[simp] theorem State.modFleet_spl (s : State) (g : Fleet → Fleet) : (s.modFleet g).spl = s.spl := rfl
@[simp] theorem State.modFleet_upd (s : State) (g : Fleet → Fleet) : (s.modFleet g).upd = s.upd := rfl
@[simp] theorem State.modFleet_keys (s : State) (g : Fleet → Fleet) : (s.modFleet g).keys = s.keys := rfl
@[simp] theorem State.modFleet_recs (s : State) (g : Fleet → Fleet) : (s.modFleet g).recs = s.recs := rfl
@[simp] theorem State.modFleet_bst (s : State) (g : Fleet → Fleet) : (s.modFleet g).bst = s.bst := rfl
@[simp] theorem State.modFleet_mem (s : State) (g : Fleet → Fleet) : (s.modFleet g).mem = s.mem := rfl
@[simp] theorem State.modFleet_free (s : State) (g : Fleet → Fleet) : (s.modFleet g).free = s.free := rfl
@[simp] theorem State.modFleet_out (s : State) (g : Fleet → Fleet) : (s.modFleet g).out = s.out := rfl
@[simp] theorem State.modFleet_pending (s : State) (g : Fleet → Fleet) : (s.modFleet g).pending = s.pending := rfl
@[simp] theorem State.modFleet_fleet (s : State) (g : Fleet → Fleet) : (s.modFleet g).fleet = g s.fleet := rfl
@[simp] theorem State.modFleet_get (s : State) (g : Fleet → Fleet) (h : Fld) : (s.modFleet g).get h = s.get h := rfl

@[simp] theorem State.modStp_phase (s : State) (g : Lanyard → Lanyard) : (s.modStp g).phase = s.phase := rfl
@[simp] theorem State.modStp_mode (s : State) (g : Lanyard → Lanyard) : (s.modStp g).mode = s.mode := rfl
@[simp] theorem State.modStp_role (s : State) (g : Lanyard → Lanyard) : (s.modStp g).role = s.role := rfl
@[simp] theorem State.modStp_regs (s : State) (g : Lanyard → Lanyard) : (s.modStp g).regs = s.regs := rfl
@[simp] theorem State.modStp_latch (s : State) (g : Lanyard → Lanyard) : (s.modStp g).latch = s.latch := rfl
@[simp] theorem State.modStp_frame (s : State) (g : Lanyard → Lanyard) : (s.modStp g).frame = s.frame := rfl
@[simp] theorem State.modStp_gal (s : State) (g : Lanyard → Lanyard) : (s.modStp g).gal = s.gal := rfl
@[simp] theorem State.modStp_prog (s : State) (g : Lanyard → Lanyard) : (s.modStp g).prog = s.prog := rfl
@[simp] theorem State.modStp_light (s : State) (g : Lanyard → Lanyard) : (s.modStp g).light = s.light := rfl
@[simp] theorem State.modStp_net (s : State) (g : Lanyard → Lanyard) : (s.modStp g).net = s.net := rfl
@[simp] theorem State.modStp_drv (s : State) (g : Lanyard → Lanyard) : (s.modStp g).drv = s.drv := rfl
@[simp] theorem State.modStp_pos (s : State) (g : Lanyard → Lanyard) : (s.modStp g).pos = s.pos := rfl
@[simp] theorem State.modStp_fleet (s : State) (g : Lanyard → Lanyard) : (s.modStp g).fleet = s.fleet := rfl
@[simp] theorem State.modStp_time (s : State) (g : Lanyard → Lanyard) : (s.modStp g).time = s.time := rfl
@[simp] theorem State.modStp_rtc (s : State) (g : Lanyard → Lanyard) : (s.modStp g).rtc = s.rtc := rfl
@[simp] theorem State.modStp_meter (s : State) (g : Lanyard → Lanyard) : (s.modStp g).meter = s.meter := rfl
@[simp] theorem State.modStp_wired (s : State) (g : Lanyard → Lanyard) : (s.modStp g).wired = s.wired := rfl
@[simp] theorem State.modStp_spl (s : State) (g : Lanyard → Lanyard) : (s.modStp g).spl = s.spl := rfl
@[simp] theorem State.modStp_upd (s : State) (g : Lanyard → Lanyard) : (s.modStp g).upd = s.upd := rfl
@[simp] theorem State.modStp_keys (s : State) (g : Lanyard → Lanyard) : (s.modStp g).keys = s.keys := rfl
@[simp] theorem State.modStp_recs (s : State) (g : Lanyard → Lanyard) : (s.modStp g).recs = s.recs := rfl
@[simp] theorem State.modStp_bst (s : State) (g : Lanyard → Lanyard) : (s.modStp g).bst = s.bst := rfl
@[simp] theorem State.modStp_mem (s : State) (g : Lanyard → Lanyard) : (s.modStp g).mem = s.mem := rfl
@[simp] theorem State.modStp_free (s : State) (g : Lanyard → Lanyard) : (s.modStp g).free = s.free := rfl
@[simp] theorem State.modStp_out (s : State) (g : Lanyard → Lanyard) : (s.modStp g).out = s.out := rfl
@[simp] theorem State.modStp_pending (s : State) (g : Lanyard → Lanyard) : (s.modStp g).pending = s.pending := rfl
@[simp] theorem State.modStp_stp (s : State) (g : Lanyard → Lanyard) : (s.modStp g).stp = g s.stp := rfl
@[simp] theorem State.modStp_get (s : State) (g : Lanyard → Lanyard) (h : Fld) : (s.modStp g).get h = s.get h := rfl

@[simp] theorem State.modTime_phase (s : State) (g : TimeSt → TimeSt) : (s.modTime g).phase = s.phase := rfl
@[simp] theorem State.modTime_mode (s : State) (g : TimeSt → TimeSt) : (s.modTime g).mode = s.mode := rfl
@[simp] theorem State.modTime_role (s : State) (g : TimeSt → TimeSt) : (s.modTime g).role = s.role := rfl
@[simp] theorem State.modTime_regs (s : State) (g : TimeSt → TimeSt) : (s.modTime g).regs = s.regs := rfl
@[simp] theorem State.modTime_latch (s : State) (g : TimeSt → TimeSt) : (s.modTime g).latch = s.latch := rfl
@[simp] theorem State.modTime_frame (s : State) (g : TimeSt → TimeSt) : (s.modTime g).frame = s.frame := rfl
@[simp] theorem State.modTime_gal (s : State) (g : TimeSt → TimeSt) : (s.modTime g).gal = s.gal := rfl
@[simp] theorem State.modTime_prog (s : State) (g : TimeSt → TimeSt) : (s.modTime g).prog = s.prog := rfl
@[simp] theorem State.modTime_light (s : State) (g : TimeSt → TimeSt) : (s.modTime g).light = s.light := rfl
@[simp] theorem State.modTime_net (s : State) (g : TimeSt → TimeSt) : (s.modTime g).net = s.net := rfl
@[simp] theorem State.modTime_drv (s : State) (g : TimeSt → TimeSt) : (s.modTime g).drv = s.drv := rfl
@[simp] theorem State.modTime_pos (s : State) (g : TimeSt → TimeSt) : (s.modTime g).pos = s.pos := rfl
@[simp] theorem State.modTime_fleet (s : State) (g : TimeSt → TimeSt) : (s.modTime g).fleet = s.fleet := rfl
@[simp] theorem State.modTime_stp (s : State) (g : TimeSt → TimeSt) : (s.modTime g).stp = s.stp := rfl
@[simp] theorem State.modTime_rtc (s : State) (g : TimeSt → TimeSt) : (s.modTime g).rtc = s.rtc := rfl
@[simp] theorem State.modTime_meter (s : State) (g : TimeSt → TimeSt) : (s.modTime g).meter = s.meter := rfl
@[simp] theorem State.modTime_wired (s : State) (g : TimeSt → TimeSt) : (s.modTime g).wired = s.wired := rfl
@[simp] theorem State.modTime_spl (s : State) (g : TimeSt → TimeSt) : (s.modTime g).spl = s.spl := rfl
@[simp] theorem State.modTime_upd (s : State) (g : TimeSt → TimeSt) : (s.modTime g).upd = s.upd := rfl
@[simp] theorem State.modTime_keys (s : State) (g : TimeSt → TimeSt) : (s.modTime g).keys = s.keys := rfl
@[simp] theorem State.modTime_recs (s : State) (g : TimeSt → TimeSt) : (s.modTime g).recs = s.recs := rfl
@[simp] theorem State.modTime_bst (s : State) (g : TimeSt → TimeSt) : (s.modTime g).bst = s.bst := rfl
@[simp] theorem State.modTime_mem (s : State) (g : TimeSt → TimeSt) : (s.modTime g).mem = s.mem := rfl
@[simp] theorem State.modTime_free (s : State) (g : TimeSt → TimeSt) : (s.modTime g).free = s.free := rfl
@[simp] theorem State.modTime_out (s : State) (g : TimeSt → TimeSt) : (s.modTime g).out = s.out := rfl
@[simp] theorem State.modTime_pending (s : State) (g : TimeSt → TimeSt) : (s.modTime g).pending = s.pending := rfl
@[simp] theorem State.modTime_time (s : State) (g : TimeSt → TimeSt) : (s.modTime g).time = g s.time := rfl
@[simp] theorem State.modTime_get (s : State) (g : TimeSt → TimeSt) (h : Fld) : (s.modTime g).get h = s.get h := rfl

@[simp] theorem State.modRtc_phase (s : State) (g : RtcSt → RtcSt) : (s.modRtc g).phase = s.phase := rfl
@[simp] theorem State.modRtc_mode (s : State) (g : RtcSt → RtcSt) : (s.modRtc g).mode = s.mode := rfl
@[simp] theorem State.modRtc_role (s : State) (g : RtcSt → RtcSt) : (s.modRtc g).role = s.role := rfl
@[simp] theorem State.modRtc_regs (s : State) (g : RtcSt → RtcSt) : (s.modRtc g).regs = s.regs := rfl
@[simp] theorem State.modRtc_latch (s : State) (g : RtcSt → RtcSt) : (s.modRtc g).latch = s.latch := rfl
@[simp] theorem State.modRtc_frame (s : State) (g : RtcSt → RtcSt) : (s.modRtc g).frame = s.frame := rfl
@[simp] theorem State.modRtc_gal (s : State) (g : RtcSt → RtcSt) : (s.modRtc g).gal = s.gal := rfl
@[simp] theorem State.modRtc_prog (s : State) (g : RtcSt → RtcSt) : (s.modRtc g).prog = s.prog := rfl
@[simp] theorem State.modRtc_light (s : State) (g : RtcSt → RtcSt) : (s.modRtc g).light = s.light := rfl
@[simp] theorem State.modRtc_net (s : State) (g : RtcSt → RtcSt) : (s.modRtc g).net = s.net := rfl
@[simp] theorem State.modRtc_drv (s : State) (g : RtcSt → RtcSt) : (s.modRtc g).drv = s.drv := rfl
@[simp] theorem State.modRtc_pos (s : State) (g : RtcSt → RtcSt) : (s.modRtc g).pos = s.pos := rfl
@[simp] theorem State.modRtc_fleet (s : State) (g : RtcSt → RtcSt) : (s.modRtc g).fleet = s.fleet := rfl
@[simp] theorem State.modRtc_stp (s : State) (g : RtcSt → RtcSt) : (s.modRtc g).stp = s.stp := rfl
@[simp] theorem State.modRtc_time (s : State) (g : RtcSt → RtcSt) : (s.modRtc g).time = s.time := rfl
@[simp] theorem State.modRtc_meter (s : State) (g : RtcSt → RtcSt) : (s.modRtc g).meter = s.meter := rfl
@[simp] theorem State.modRtc_wired (s : State) (g : RtcSt → RtcSt) : (s.modRtc g).wired = s.wired := rfl
@[simp] theorem State.modRtc_spl (s : State) (g : RtcSt → RtcSt) : (s.modRtc g).spl = s.spl := rfl
@[simp] theorem State.modRtc_upd (s : State) (g : RtcSt → RtcSt) : (s.modRtc g).upd = s.upd := rfl
@[simp] theorem State.modRtc_keys (s : State) (g : RtcSt → RtcSt) : (s.modRtc g).keys = s.keys := rfl
@[simp] theorem State.modRtc_recs (s : State) (g : RtcSt → RtcSt) : (s.modRtc g).recs = s.recs := rfl
@[simp] theorem State.modRtc_bst (s : State) (g : RtcSt → RtcSt) : (s.modRtc g).bst = s.bst := rfl
@[simp] theorem State.modRtc_mem (s : State) (g : RtcSt → RtcSt) : (s.modRtc g).mem = s.mem := rfl
@[simp] theorem State.modRtc_free (s : State) (g : RtcSt → RtcSt) : (s.modRtc g).free = s.free := rfl
@[simp] theorem State.modRtc_out (s : State) (g : RtcSt → RtcSt) : (s.modRtc g).out = s.out := rfl
@[simp] theorem State.modRtc_pending (s : State) (g : RtcSt → RtcSt) : (s.modRtc g).pending = s.pending := rfl
@[simp] theorem State.modRtc_rtc (s : State) (g : RtcSt → RtcSt) : (s.modRtc g).rtc = g s.rtc := rfl
@[simp] theorem State.modRtc_get (s : State) (g : RtcSt → RtcSt) (h : Fld) : (s.modRtc g).get h = s.get h := rfl

@[simp] theorem State.modMeter_phase (s : State) (g : Meter → Meter) : (s.modMeter g).phase = s.phase := rfl
@[simp] theorem State.modMeter_mode (s : State) (g : Meter → Meter) : (s.modMeter g).mode = s.mode := rfl
@[simp] theorem State.modMeter_role (s : State) (g : Meter → Meter) : (s.modMeter g).role = s.role := rfl
@[simp] theorem State.modMeter_regs (s : State) (g : Meter → Meter) : (s.modMeter g).regs = s.regs := rfl
@[simp] theorem State.modMeter_latch (s : State) (g : Meter → Meter) : (s.modMeter g).latch = s.latch := rfl
@[simp] theorem State.modMeter_frame (s : State) (g : Meter → Meter) : (s.modMeter g).frame = s.frame := rfl
@[simp] theorem State.modMeter_gal (s : State) (g : Meter → Meter) : (s.modMeter g).gal = s.gal := rfl
@[simp] theorem State.modMeter_prog (s : State) (g : Meter → Meter) : (s.modMeter g).prog = s.prog := rfl
@[simp] theorem State.modMeter_light (s : State) (g : Meter → Meter) : (s.modMeter g).light = s.light := rfl
@[simp] theorem State.modMeter_net (s : State) (g : Meter → Meter) : (s.modMeter g).net = s.net := rfl
@[simp] theorem State.modMeter_drv (s : State) (g : Meter → Meter) : (s.modMeter g).drv = s.drv := rfl
@[simp] theorem State.modMeter_pos (s : State) (g : Meter → Meter) : (s.modMeter g).pos = s.pos := rfl
@[simp] theorem State.modMeter_fleet (s : State) (g : Meter → Meter) : (s.modMeter g).fleet = s.fleet := rfl
@[simp] theorem State.modMeter_stp (s : State) (g : Meter → Meter) : (s.modMeter g).stp = s.stp := rfl
@[simp] theorem State.modMeter_time (s : State) (g : Meter → Meter) : (s.modMeter g).time = s.time := rfl
@[simp] theorem State.modMeter_rtc (s : State) (g : Meter → Meter) : (s.modMeter g).rtc = s.rtc := rfl
@[simp] theorem State.modMeter_wired (s : State) (g : Meter → Meter) : (s.modMeter g).wired = s.wired := rfl
@[simp] theorem State.modMeter_spl (s : State) (g : Meter → Meter) : (s.modMeter g).spl = s.spl := rfl
@[simp] theorem State.modMeter_upd (s : State) (g : Meter → Meter) : (s.modMeter g).upd = s.upd := rfl
@[simp] theorem State.modMeter_keys (s : State) (g : Meter → Meter) : (s.modMeter g).keys = s.keys := rfl
@[simp] theorem State.modMeter_recs (s : State) (g : Meter → Meter) : (s.modMeter g).recs = s.recs := rfl
@[simp] theorem State.modMeter_bst (s : State) (g : Meter → Meter) : (s.modMeter g).bst = s.bst := rfl
@[simp] theorem State.modMeter_mem (s : State) (g : Meter → Meter) : (s.modMeter g).mem = s.mem := rfl
@[simp] theorem State.modMeter_free (s : State) (g : Meter → Meter) : (s.modMeter g).free = s.free := rfl
@[simp] theorem State.modMeter_out (s : State) (g : Meter → Meter) : (s.modMeter g).out = s.out := rfl
@[simp] theorem State.modMeter_pending (s : State) (g : Meter → Meter) : (s.modMeter g).pending = s.pending := rfl
@[simp] theorem State.modMeter_meter (s : State) (g : Meter → Meter) : (s.modMeter g).meter = g s.meter := rfl
@[simp] theorem State.modMeter_get (s : State) (g : Meter → Meter) (h : Fld) : (s.modMeter g).get h = s.get h := rfl

@[simp] theorem State.modWired_phase (s : State) (g : Wired → Wired) : (s.modWired g).phase = s.phase := rfl
@[simp] theorem State.modWired_mode (s : State) (g : Wired → Wired) : (s.modWired g).mode = s.mode := rfl
@[simp] theorem State.modWired_role (s : State) (g : Wired → Wired) : (s.modWired g).role = s.role := rfl
@[simp] theorem State.modWired_regs (s : State) (g : Wired → Wired) : (s.modWired g).regs = s.regs := rfl
@[simp] theorem State.modWired_latch (s : State) (g : Wired → Wired) : (s.modWired g).latch = s.latch := rfl
@[simp] theorem State.modWired_frame (s : State) (g : Wired → Wired) : (s.modWired g).frame = s.frame := rfl
@[simp] theorem State.modWired_gal (s : State) (g : Wired → Wired) : (s.modWired g).gal = s.gal := rfl
@[simp] theorem State.modWired_prog (s : State) (g : Wired → Wired) : (s.modWired g).prog = s.prog := rfl
@[simp] theorem State.modWired_light (s : State) (g : Wired → Wired) : (s.modWired g).light = s.light := rfl
@[simp] theorem State.modWired_net (s : State) (g : Wired → Wired) : (s.modWired g).net = s.net := rfl
@[simp] theorem State.modWired_drv (s : State) (g : Wired → Wired) : (s.modWired g).drv = s.drv := rfl
@[simp] theorem State.modWired_pos (s : State) (g : Wired → Wired) : (s.modWired g).pos = s.pos := rfl
@[simp] theorem State.modWired_fleet (s : State) (g : Wired → Wired) : (s.modWired g).fleet = s.fleet := rfl
@[simp] theorem State.modWired_stp (s : State) (g : Wired → Wired) : (s.modWired g).stp = s.stp := rfl
@[simp] theorem State.modWired_time (s : State) (g : Wired → Wired) : (s.modWired g).time = s.time := rfl
@[simp] theorem State.modWired_rtc (s : State) (g : Wired → Wired) : (s.modWired g).rtc = s.rtc := rfl
@[simp] theorem State.modWired_meter (s : State) (g : Wired → Wired) : (s.modWired g).meter = s.meter := rfl
@[simp] theorem State.modWired_spl (s : State) (g : Wired → Wired) : (s.modWired g).spl = s.spl := rfl
@[simp] theorem State.modWired_upd (s : State) (g : Wired → Wired) : (s.modWired g).upd = s.upd := rfl
@[simp] theorem State.modWired_keys (s : State) (g : Wired → Wired) : (s.modWired g).keys = s.keys := rfl
@[simp] theorem State.modWired_recs (s : State) (g : Wired → Wired) : (s.modWired g).recs = s.recs := rfl
@[simp] theorem State.modWired_bst (s : State) (g : Wired → Wired) : (s.modWired g).bst = s.bst := rfl
@[simp] theorem State.modWired_mem (s : State) (g : Wired → Wired) : (s.modWired g).mem = s.mem := rfl
@[simp] theorem State.modWired_free (s : State) (g : Wired → Wired) : (s.modWired g).free = s.free := rfl
@[simp] theorem State.modWired_out (s : State) (g : Wired → Wired) : (s.modWired g).out = s.out := rfl
@[simp] theorem State.modWired_pending (s : State) (g : Wired → Wired) : (s.modWired g).pending = s.pending := rfl
@[simp] theorem State.modWired_wired (s : State) (g : Wired → Wired) : (s.modWired g).wired = g s.wired := rfl
@[simp] theorem State.modWired_get (s : State) (g : Wired → Wired) (h : Fld) : (s.modWired g).get h = s.get h := rfl

@[simp] theorem State.modSpl_phase (s : State) (g : Splice → Splice) : (s.modSpl g).phase = s.phase := rfl
@[simp] theorem State.modSpl_mode (s : State) (g : Splice → Splice) : (s.modSpl g).mode = s.mode := rfl
@[simp] theorem State.modSpl_role (s : State) (g : Splice → Splice) : (s.modSpl g).role = s.role := rfl
@[simp] theorem State.modSpl_regs (s : State) (g : Splice → Splice) : (s.modSpl g).regs = s.regs := rfl
@[simp] theorem State.modSpl_latch (s : State) (g : Splice → Splice) : (s.modSpl g).latch = s.latch := rfl
@[simp] theorem State.modSpl_frame (s : State) (g : Splice → Splice) : (s.modSpl g).frame = s.frame := rfl
@[simp] theorem State.modSpl_gal (s : State) (g : Splice → Splice) : (s.modSpl g).gal = s.gal := rfl
@[simp] theorem State.modSpl_prog (s : State) (g : Splice → Splice) : (s.modSpl g).prog = s.prog := rfl
@[simp] theorem State.modSpl_light (s : State) (g : Splice → Splice) : (s.modSpl g).light = s.light := rfl
@[simp] theorem State.modSpl_net (s : State) (g : Splice → Splice) : (s.modSpl g).net = s.net := rfl
@[simp] theorem State.modSpl_drv (s : State) (g : Splice → Splice) : (s.modSpl g).drv = s.drv := rfl
@[simp] theorem State.modSpl_pos (s : State) (g : Splice → Splice) : (s.modSpl g).pos = s.pos := rfl
@[simp] theorem State.modSpl_fleet (s : State) (g : Splice → Splice) : (s.modSpl g).fleet = s.fleet := rfl
@[simp] theorem State.modSpl_stp (s : State) (g : Splice → Splice) : (s.modSpl g).stp = s.stp := rfl
@[simp] theorem State.modSpl_time (s : State) (g : Splice → Splice) : (s.modSpl g).time = s.time := rfl
@[simp] theorem State.modSpl_rtc (s : State) (g : Splice → Splice) : (s.modSpl g).rtc = s.rtc := rfl
@[simp] theorem State.modSpl_meter (s : State) (g : Splice → Splice) : (s.modSpl g).meter = s.meter := rfl
@[simp] theorem State.modSpl_wired (s : State) (g : Splice → Splice) : (s.modSpl g).wired = s.wired := rfl
@[simp] theorem State.modSpl_upd (s : State) (g : Splice → Splice) : (s.modSpl g).upd = s.upd := rfl
@[simp] theorem State.modSpl_keys (s : State) (g : Splice → Splice) : (s.modSpl g).keys = s.keys := rfl
@[simp] theorem State.modSpl_recs (s : State) (g : Splice → Splice) : (s.modSpl g).recs = s.recs := rfl
@[simp] theorem State.modSpl_bst (s : State) (g : Splice → Splice) : (s.modSpl g).bst = s.bst := rfl
@[simp] theorem State.modSpl_mem (s : State) (g : Splice → Splice) : (s.modSpl g).mem = s.mem := rfl
@[simp] theorem State.modSpl_free (s : State) (g : Splice → Splice) : (s.modSpl g).free = s.free := rfl
@[simp] theorem State.modSpl_out (s : State) (g : Splice → Splice) : (s.modSpl g).out = s.out := rfl
@[simp] theorem State.modSpl_pending (s : State) (g : Splice → Splice) : (s.modSpl g).pending = s.pending := rfl
@[simp] theorem State.modSpl_spl (s : State) (g : Splice → Splice) : (s.modSpl g).spl = g s.spl := rfl
@[simp] theorem State.modSpl_get (s : State) (g : Splice → Splice) (h : Fld) : (s.modSpl g).get h = s.get h := rfl

@[simp] theorem State.modUpd_phase (s : State) (g : Update → Update) : (s.modUpd g).phase = s.phase := rfl
@[simp] theorem State.modUpd_mode (s : State) (g : Update → Update) : (s.modUpd g).mode = s.mode := rfl
@[simp] theorem State.modUpd_role (s : State) (g : Update → Update) : (s.modUpd g).role = s.role := rfl
@[simp] theorem State.modUpd_regs (s : State) (g : Update → Update) : (s.modUpd g).regs = s.regs := rfl
@[simp] theorem State.modUpd_latch (s : State) (g : Update → Update) : (s.modUpd g).latch = s.latch := rfl
@[simp] theorem State.modUpd_frame (s : State) (g : Update → Update) : (s.modUpd g).frame = s.frame := rfl
@[simp] theorem State.modUpd_gal (s : State) (g : Update → Update) : (s.modUpd g).gal = s.gal := rfl
@[simp] theorem State.modUpd_prog (s : State) (g : Update → Update) : (s.modUpd g).prog = s.prog := rfl
@[simp] theorem State.modUpd_light (s : State) (g : Update → Update) : (s.modUpd g).light = s.light := rfl
@[simp] theorem State.modUpd_net (s : State) (g : Update → Update) : (s.modUpd g).net = s.net := rfl
@[simp] theorem State.modUpd_drv (s : State) (g : Update → Update) : (s.modUpd g).drv = s.drv := rfl
@[simp] theorem State.modUpd_pos (s : State) (g : Update → Update) : (s.modUpd g).pos = s.pos := rfl
@[simp] theorem State.modUpd_fleet (s : State) (g : Update → Update) : (s.modUpd g).fleet = s.fleet := rfl
@[simp] theorem State.modUpd_stp (s : State) (g : Update → Update) : (s.modUpd g).stp = s.stp := rfl
@[simp] theorem State.modUpd_time (s : State) (g : Update → Update) : (s.modUpd g).time = s.time := rfl
@[simp] theorem State.modUpd_rtc (s : State) (g : Update → Update) : (s.modUpd g).rtc = s.rtc := rfl
@[simp] theorem State.modUpd_meter (s : State) (g : Update → Update) : (s.modUpd g).meter = s.meter := rfl
@[simp] theorem State.modUpd_wired (s : State) (g : Update → Update) : (s.modUpd g).wired = s.wired := rfl
@[simp] theorem State.modUpd_spl (s : State) (g : Update → Update) : (s.modUpd g).spl = s.spl := rfl
@[simp] theorem State.modUpd_keys (s : State) (g : Update → Update) : (s.modUpd g).keys = s.keys := rfl
@[simp] theorem State.modUpd_recs (s : State) (g : Update → Update) : (s.modUpd g).recs = s.recs := rfl
@[simp] theorem State.modUpd_bst (s : State) (g : Update → Update) : (s.modUpd g).bst = s.bst := rfl
@[simp] theorem State.modUpd_mem (s : State) (g : Update → Update) : (s.modUpd g).mem = s.mem := rfl
@[simp] theorem State.modUpd_free (s : State) (g : Update → Update) : (s.modUpd g).free = s.free := rfl
@[simp] theorem State.modUpd_out (s : State) (g : Update → Update) : (s.modUpd g).out = s.out := rfl
@[simp] theorem State.modUpd_pending (s : State) (g : Update → Update) : (s.modUpd g).pending = s.pending := rfl
@[simp] theorem State.modUpd_upd (s : State) (g : Update → Update) : (s.modUpd g).upd = g s.upd := rfl
@[simp] theorem State.modUpd_get (s : State) (g : Update → Update) (h : Fld) : (s.modUpd g).get h = s.get h := rfl

@[simp] theorem State.modKeys_phase (s : State) (g : Keys → Keys) : (s.modKeys g).phase = s.phase := rfl
@[simp] theorem State.modKeys_mode (s : State) (g : Keys → Keys) : (s.modKeys g).mode = s.mode := rfl
@[simp] theorem State.modKeys_role (s : State) (g : Keys → Keys) : (s.modKeys g).role = s.role := rfl
@[simp] theorem State.modKeys_regs (s : State) (g : Keys → Keys) : (s.modKeys g).regs = s.regs := rfl
@[simp] theorem State.modKeys_latch (s : State) (g : Keys → Keys) : (s.modKeys g).latch = s.latch := rfl
@[simp] theorem State.modKeys_frame (s : State) (g : Keys → Keys) : (s.modKeys g).frame = s.frame := rfl
@[simp] theorem State.modKeys_gal (s : State) (g : Keys → Keys) : (s.modKeys g).gal = s.gal := rfl
@[simp] theorem State.modKeys_prog (s : State) (g : Keys → Keys) : (s.modKeys g).prog = s.prog := rfl
@[simp] theorem State.modKeys_light (s : State) (g : Keys → Keys) : (s.modKeys g).light = s.light := rfl
@[simp] theorem State.modKeys_net (s : State) (g : Keys → Keys) : (s.modKeys g).net = s.net := rfl
@[simp] theorem State.modKeys_drv (s : State) (g : Keys → Keys) : (s.modKeys g).drv = s.drv := rfl
@[simp] theorem State.modKeys_pos (s : State) (g : Keys → Keys) : (s.modKeys g).pos = s.pos := rfl
@[simp] theorem State.modKeys_fleet (s : State) (g : Keys → Keys) : (s.modKeys g).fleet = s.fleet := rfl
@[simp] theorem State.modKeys_stp (s : State) (g : Keys → Keys) : (s.modKeys g).stp = s.stp := rfl
@[simp] theorem State.modKeys_time (s : State) (g : Keys → Keys) : (s.modKeys g).time = s.time := rfl
@[simp] theorem State.modKeys_rtc (s : State) (g : Keys → Keys) : (s.modKeys g).rtc = s.rtc := rfl
@[simp] theorem State.modKeys_meter (s : State) (g : Keys → Keys) : (s.modKeys g).meter = s.meter := rfl
@[simp] theorem State.modKeys_wired (s : State) (g : Keys → Keys) : (s.modKeys g).wired = s.wired := rfl
@[simp] theorem State.modKeys_spl (s : State) (g : Keys → Keys) : (s.modKeys g).spl = s.spl := rfl
@[simp] theorem State.modKeys_upd (s : State) (g : Keys → Keys) : (s.modKeys g).upd = s.upd := rfl
@[simp] theorem State.modKeys_recs (s : State) (g : Keys → Keys) : (s.modKeys g).recs = s.recs := rfl
@[simp] theorem State.modKeys_bst (s : State) (g : Keys → Keys) : (s.modKeys g).bst = s.bst := rfl
@[simp] theorem State.modKeys_mem (s : State) (g : Keys → Keys) : (s.modKeys g).mem = s.mem := rfl
@[simp] theorem State.modKeys_free (s : State) (g : Keys → Keys) : (s.modKeys g).free = s.free := rfl
@[simp] theorem State.modKeys_out (s : State) (g : Keys → Keys) : (s.modKeys g).out = s.out := rfl
@[simp] theorem State.modKeys_pending (s : State) (g : Keys → Keys) : (s.modKeys g).pending = s.pending := rfl
@[simp] theorem State.modKeys_keys (s : State) (g : Keys → Keys) : (s.modKeys g).keys = g s.keys := rfl
@[simp] theorem State.modKeys_get (s : State) (g : Keys → Keys) (h : Fld) : (s.modKeys g).get h = s.get h := rfl

@[simp] theorem State.modRecs_phase (s : State) (g : Records → Records) : (s.modRecs g).phase = s.phase := rfl
@[simp] theorem State.modRecs_mode (s : State) (g : Records → Records) : (s.modRecs g).mode = s.mode := rfl
@[simp] theorem State.modRecs_role (s : State) (g : Records → Records) : (s.modRecs g).role = s.role := rfl
@[simp] theorem State.modRecs_regs (s : State) (g : Records → Records) : (s.modRecs g).regs = s.regs := rfl
@[simp] theorem State.modRecs_latch (s : State) (g : Records → Records) : (s.modRecs g).latch = s.latch := rfl
@[simp] theorem State.modRecs_frame (s : State) (g : Records → Records) : (s.modRecs g).frame = s.frame := rfl
@[simp] theorem State.modRecs_gal (s : State) (g : Records → Records) : (s.modRecs g).gal = s.gal := rfl
@[simp] theorem State.modRecs_prog (s : State) (g : Records → Records) : (s.modRecs g).prog = s.prog := rfl
@[simp] theorem State.modRecs_light (s : State) (g : Records → Records) : (s.modRecs g).light = s.light := rfl
@[simp] theorem State.modRecs_net (s : State) (g : Records → Records) : (s.modRecs g).net = s.net := rfl
@[simp] theorem State.modRecs_drv (s : State) (g : Records → Records) : (s.modRecs g).drv = s.drv := rfl
@[simp] theorem State.modRecs_pos (s : State) (g : Records → Records) : (s.modRecs g).pos = s.pos := rfl
@[simp] theorem State.modRecs_fleet (s : State) (g : Records → Records) : (s.modRecs g).fleet = s.fleet := rfl
@[simp] theorem State.modRecs_stp (s : State) (g : Records → Records) : (s.modRecs g).stp = s.stp := rfl
@[simp] theorem State.modRecs_time (s : State) (g : Records → Records) : (s.modRecs g).time = s.time := rfl
@[simp] theorem State.modRecs_rtc (s : State) (g : Records → Records) : (s.modRecs g).rtc = s.rtc := rfl
@[simp] theorem State.modRecs_meter (s : State) (g : Records → Records) : (s.modRecs g).meter = s.meter := rfl
@[simp] theorem State.modRecs_wired (s : State) (g : Records → Records) : (s.modRecs g).wired = s.wired := rfl
@[simp] theorem State.modRecs_spl (s : State) (g : Records → Records) : (s.modRecs g).spl = s.spl := rfl
@[simp] theorem State.modRecs_upd (s : State) (g : Records → Records) : (s.modRecs g).upd = s.upd := rfl
@[simp] theorem State.modRecs_keys (s : State) (g : Records → Records) : (s.modRecs g).keys = s.keys := rfl
@[simp] theorem State.modRecs_bst (s : State) (g : Records → Records) : (s.modRecs g).bst = s.bst := rfl
@[simp] theorem State.modRecs_mem (s : State) (g : Records → Records) : (s.modRecs g).mem = s.mem := rfl
@[simp] theorem State.modRecs_free (s : State) (g : Records → Records) : (s.modRecs g).free = s.free := rfl
@[simp] theorem State.modRecs_out (s : State) (g : Records → Records) : (s.modRecs g).out = s.out := rfl
@[simp] theorem State.modRecs_pending (s : State) (g : Records → Records) : (s.modRecs g).pending = s.pending := rfl
@[simp] theorem State.modRecs_recs (s : State) (g : Records → Records) : (s.modRecs g).recs = g s.recs := rfl
@[simp] theorem State.modRecs_get (s : State) (g : Records → Records) (h : Fld) : (s.modRecs g).get h = s.get h := rfl

@[simp] theorem State.emitNow_phase (s : State) (k : OutKind) (l : List Int) : (s.emitNow k l).phase = s.phase := rfl
@[simp] theorem State.emitNow_mode (s : State) (k : OutKind) (l : List Int) : (s.emitNow k l).mode = s.mode := rfl
@[simp] theorem State.emitNow_role (s : State) (k : OutKind) (l : List Int) : (s.emitNow k l).role = s.role := rfl
@[simp] theorem State.emitNow_regs (s : State) (k : OutKind) (l : List Int) : (s.emitNow k l).regs = s.regs := rfl
@[simp] theorem State.emitNow_latch (s : State) (k : OutKind) (l : List Int) : (s.emitNow k l).latch = s.latch := rfl
@[simp] theorem State.emitNow_frame (s : State) (k : OutKind) (l : List Int) : (s.emitNow k l).frame = s.frame := rfl
@[simp] theorem State.emitNow_gal (s : State) (k : OutKind) (l : List Int) : (s.emitNow k l).gal = s.gal := rfl
@[simp] theorem State.emitNow_prog (s : State) (k : OutKind) (l : List Int) : (s.emitNow k l).prog = s.prog := rfl
@[simp] theorem State.emitNow_light (s : State) (k : OutKind) (l : List Int) : (s.emitNow k l).light = s.light := rfl
@[simp] theorem State.emitNow_net (s : State) (k : OutKind) (l : List Int) : (s.emitNow k l).net = s.net := rfl
@[simp] theorem State.emitNow_drv (s : State) (k : OutKind) (l : List Int) : (s.emitNow k l).drv = s.drv := rfl
@[simp] theorem State.emitNow_pos (s : State) (k : OutKind) (l : List Int) : (s.emitNow k l).pos = s.pos := rfl
@[simp] theorem State.emitNow_fleet (s : State) (k : OutKind) (l : List Int) : (s.emitNow k l).fleet = s.fleet := rfl
@[simp] theorem State.emitNow_stp (s : State) (k : OutKind) (l : List Int) : (s.emitNow k l).stp = s.stp := rfl
@[simp] theorem State.emitNow_time (s : State) (k : OutKind) (l : List Int) : (s.emitNow k l).time = s.time := rfl
@[simp] theorem State.emitNow_rtc (s : State) (k : OutKind) (l : List Int) : (s.emitNow k l).rtc = s.rtc := rfl
@[simp] theorem State.emitNow_meter (s : State) (k : OutKind) (l : List Int) : (s.emitNow k l).meter = s.meter := rfl
@[simp] theorem State.emitNow_wired (s : State) (k : OutKind) (l : List Int) : (s.emitNow k l).wired = s.wired := rfl
@[simp] theorem State.emitNow_spl (s : State) (k : OutKind) (l : List Int) : (s.emitNow k l).spl = s.spl := rfl
@[simp] theorem State.emitNow_upd (s : State) (k : OutKind) (l : List Int) : (s.emitNow k l).upd = s.upd := rfl
@[simp] theorem State.emitNow_keys (s : State) (k : OutKind) (l : List Int) : (s.emitNow k l).keys = s.keys := rfl
@[simp] theorem State.emitNow_recs (s : State) (k : OutKind) (l : List Int) : (s.emitNow k l).recs = s.recs := rfl
@[simp] theorem State.emitNow_bst (s : State) (k : OutKind) (l : List Int) : (s.emitNow k l).bst = s.bst := rfl
@[simp] theorem State.emitNow_mem (s : State) (k : OutKind) (l : List Int) : (s.emitNow k l).mem = s.mem := rfl
@[simp] theorem State.emitNow_free (s : State) (k : OutKind) (l : List Int) : (s.emitNow k l).free = s.free := rfl
@[simp] theorem State.emitNow_pending (s : State) (k : OutKind) (l : List Int) : (s.emitNow k l).pending = s.pending := rfl
@[simp] theorem State.emitNow_out (s : State) (k : OutKind) (l : List Int) : (s.emitNow k l).out = s.out ++ [⟨k, l⟩] := rfl
@[simp] theorem State.emitNow_get (s : State) (k : OutKind) (l : List Int) (h : Fld) : (s.emitNow k l).get h = s.get h := rfl

@[simp] theorem State.atNs_phase (s : State) (n : Nat) : (s.atNs n).phase = s.phase := rfl
@[simp] theorem State.atNs_mode (s : State) (n : Nat) : (s.atNs n).mode = s.mode := rfl
@[simp] theorem State.atNs_role (s : State) (n : Nat) : (s.atNs n).role = s.role := rfl
@[simp] theorem State.atNs_regs (s : State) (n : Nat) : (s.atNs n).regs = s.regs := rfl
@[simp] theorem State.atNs_latch (s : State) (n : Nat) : (s.atNs n).latch = s.latch := rfl
@[simp] theorem State.atNs_gal (s : State) (n : Nat) : (s.atNs n).gal = s.gal := rfl
@[simp] theorem State.atNs_prog (s : State) (n : Nat) : (s.atNs n).prog = s.prog := rfl
@[simp] theorem State.atNs_light (s : State) (n : Nat) : (s.atNs n).light = s.light := rfl
@[simp] theorem State.atNs_net (s : State) (n : Nat) : (s.atNs n).net = s.net := rfl
@[simp] theorem State.atNs_drv (s : State) (n : Nat) : (s.atNs n).drv = s.drv := rfl
@[simp] theorem State.atNs_pos (s : State) (n : Nat) : (s.atNs n).pos = s.pos := rfl
@[simp] theorem State.atNs_fleet (s : State) (n : Nat) : (s.atNs n).fleet = s.fleet := rfl
@[simp] theorem State.atNs_stp (s : State) (n : Nat) : (s.atNs n).stp = s.stp := rfl
@[simp] theorem State.atNs_time (s : State) (n : Nat) : (s.atNs n).time = s.time := rfl
@[simp] theorem State.atNs_rtc (s : State) (n : Nat) : (s.atNs n).rtc = s.rtc := rfl
@[simp] theorem State.atNs_meter (s : State) (n : Nat) : (s.atNs n).meter = s.meter := rfl
@[simp] theorem State.atNs_wired (s : State) (n : Nat) : (s.atNs n).wired = s.wired := rfl
@[simp] theorem State.atNs_spl (s : State) (n : Nat) : (s.atNs n).spl = s.spl := rfl
@[simp] theorem State.atNs_upd (s : State) (n : Nat) : (s.atNs n).upd = s.upd := rfl
@[simp] theorem State.atNs_keys (s : State) (n : Nat) : (s.atNs n).keys = s.keys := rfl
@[simp] theorem State.atNs_recs (s : State) (n : Nat) : (s.atNs n).recs = s.recs := rfl
@[simp] theorem State.atNs_bst (s : State) (n : Nat) : (s.atNs n).bst = s.bst := rfl
@[simp] theorem State.atNs_mem (s : State) (n : Nat) : (s.atNs n).mem = s.mem := rfl
@[simp] theorem State.atNs_free (s : State) (n : Nat) : (s.atNs n).free = s.free := rfl
@[simp] theorem State.atNs_out (s : State) (n : Nat) : (s.atNs n).out = s.out := rfl
@[simp] theorem State.atNs_pending (s : State) (n : Nat) : (s.atNs n).pending = s.pending := rfl
@[simp] theorem State.atNs_get (s : State) (n : Nat) (h : Fld) : (s.atNs n).get h = s.get h := rfl

@[simp] theorem State.begin_phase (s : State) : s.begin.phase = s.phase := rfl
@[simp] theorem State.begin_mode (s : State) : s.begin.mode = s.mode := rfl
@[simp] theorem State.begin_role (s : State) : s.begin.role = s.role := rfl
@[simp] theorem State.begin_regs (s : State) : s.begin.regs = s.regs := rfl
@[simp] theorem State.begin_latch (s : State) : s.begin.latch = s.latch := rfl
@[simp] theorem State.begin_frame (s : State) : s.begin.frame = s.frame := rfl
@[simp] theorem State.begin_gal (s : State) : s.begin.gal = s.gal := rfl
@[simp] theorem State.begin_prog (s : State) : s.begin.prog = s.prog := rfl
@[simp] theorem State.begin_light (s : State) : s.begin.light = s.light := rfl
@[simp] theorem State.begin_net (s : State) : s.begin.net = s.net := rfl
@[simp] theorem State.begin_drv (s : State) : s.begin.drv = s.drv := rfl
@[simp] theorem State.begin_pos (s : State) : s.begin.pos = s.pos := rfl
@[simp] theorem State.begin_fleet (s : State) : s.begin.fleet = s.fleet := rfl
@[simp] theorem State.begin_stp (s : State) : s.begin.stp = s.stp := rfl
@[simp] theorem State.begin_time (s : State) : s.begin.time = s.time := rfl
@[simp] theorem State.begin_rtc (s : State) : s.begin.rtc = s.rtc := rfl
@[simp] theorem State.begin_meter (s : State) : s.begin.meter = s.meter := rfl
@[simp] theorem State.begin_wired (s : State) : s.begin.wired = s.wired := rfl
@[simp] theorem State.begin_spl (s : State) : s.begin.spl = s.spl := rfl
@[simp] theorem State.begin_upd (s : State) : s.begin.upd = s.upd := rfl
@[simp] theorem State.begin_keys (s : State) : s.begin.keys = s.keys := rfl
@[simp] theorem State.begin_recs (s : State) : s.begin.recs = s.recs := rfl
@[simp] theorem State.begin_bst (s : State) : s.begin.bst = s.bst := rfl
@[simp] theorem State.begin_mem (s : State) : s.begin.mem = s.mem := rfl
@[simp] theorem State.begin_free (s : State) : s.begin.free = s.free := rfl
@[simp] theorem State.begin_pending (s : State) : s.begin.pending = s.pending := rfl
@[simp] theorem State.begin_out (s : State) : s.begin.out = [] := rfl
@[simp] theorem State.begin_get (s : State) (h : Fld) : s.begin.get h = s.get h := rfl

@[simp] theorem State.tick_phase (s : State) : s.tick.phase = s.phase := rfl
@[simp] theorem State.tick_mode (s : State) : s.tick.mode = s.mode := rfl
@[simp] theorem State.tick_role (s : State) : s.tick.role = s.role := rfl
@[simp] theorem State.tick_regs (s : State) : s.tick.regs = s.regs := rfl
@[simp] theorem State.tick_latch (s : State) : s.tick.latch = s.latch := rfl
@[simp] theorem State.tick_frame (s : State) : s.tick.frame = s.frame := rfl
@[simp] theorem State.tick_gal (s : State) : s.tick.gal = s.gal := rfl
@[simp] theorem State.tick_prog (s : State) : s.tick.prog = s.prog := rfl
@[simp] theorem State.tick_light (s : State) : s.tick.light = s.light := rfl
@[simp] theorem State.tick_net (s : State) : s.tick.net = s.net := rfl
@[simp] theorem State.tick_drv (s : State) : s.tick.drv = s.drv := rfl
@[simp] theorem State.tick_pos (s : State) : s.tick.pos = s.pos := rfl
@[simp] theorem State.tick_fleet (s : State) : s.tick.fleet = s.fleet := rfl
@[simp] theorem State.tick_stp (s : State) : s.tick.stp = s.stp := rfl
@[simp] theorem State.tick_time (s : State) : s.tick.time = s.time := rfl
@[simp] theorem State.tick_rtc (s : State) : s.tick.rtc = s.rtc := rfl
@[simp] theorem State.tick_meter (s : State) : s.tick.meter = s.meter := rfl
@[simp] theorem State.tick_wired (s : State) : s.tick.wired = s.wired := rfl
@[simp] theorem State.tick_spl (s : State) : s.tick.spl = s.spl := rfl
@[simp] theorem State.tick_upd (s : State) : s.tick.upd = s.upd := rfl
@[simp] theorem State.tick_keys (s : State) : s.tick.keys = s.keys := rfl
@[simp] theorem State.tick_recs (s : State) : s.tick.recs = s.recs := rfl
@[simp] theorem State.tick_bst (s : State) : s.tick.bst = s.bst := rfl
@[simp] theorem State.tick_mem (s : State) : s.tick.mem = s.mem := rfl
@[simp] theorem State.tick_out (s : State) : s.tick.out = s.out := rfl
@[simp] theorem State.tick_pending (s : State) : s.tick.pending = s.pending := rfl
@[simp] theorem State.tick_free (s : State) : s.tick.free = s.free + 1 := rfl
@[simp] theorem State.tick_get (s : State) (h : Fld) : s.tick.get h = s.get h := rfl

@[simp] theorem State.setSession_phase (s : State) (c : Nat) (x : Session) : (s.setSession c x).phase = s.phase := rfl
@[simp] theorem State.setSession_mode (s : State) (c : Nat) (x : Session) : (s.setSession c x).mode = s.mode := rfl
@[simp] theorem State.setSession_role (s : State) (c : Nat) (x : Session) : (s.setSession c x).role = s.role := rfl
@[simp] theorem State.setSession_regs (s : State) (c : Nat) (x : Session) : (s.setSession c x).regs = s.regs := rfl
@[simp] theorem State.setSession_latch (s : State) (c : Nat) (x : Session) : (s.setSession c x).latch = s.latch := rfl
@[simp] theorem State.setSession_frame (s : State) (c : Nat) (x : Session) : (s.setSession c x).frame = s.frame := rfl
@[simp] theorem State.setSession_prog (s : State) (c : Nat) (x : Session) : (s.setSession c x).prog = s.prog := rfl
@[simp] theorem State.setSession_light (s : State) (c : Nat) (x : Session) : (s.setSession c x).light = s.light := rfl
@[simp] theorem State.setSession_net (s : State) (c : Nat) (x : Session) : (s.setSession c x).net = s.net := rfl
@[simp] theorem State.setSession_drv (s : State) (c : Nat) (x : Session) : (s.setSession c x).drv = s.drv := rfl
@[simp] theorem State.setSession_pos (s : State) (c : Nat) (x : Session) : (s.setSession c x).pos = s.pos := rfl
@[simp] theorem State.setSession_fleet (s : State) (c : Nat) (x : Session) : (s.setSession c x).fleet = s.fleet := rfl
@[simp] theorem State.setSession_stp (s : State) (c : Nat) (x : Session) : (s.setSession c x).stp = s.stp := rfl
@[simp] theorem State.setSession_time (s : State) (c : Nat) (x : Session) : (s.setSession c x).time = s.time := rfl
@[simp] theorem State.setSession_rtc (s : State) (c : Nat) (x : Session) : (s.setSession c x).rtc = s.rtc := rfl
@[simp] theorem State.setSession_meter (s : State) (c : Nat) (x : Session) : (s.setSession c x).meter = s.meter := rfl
@[simp] theorem State.setSession_wired (s : State) (c : Nat) (x : Session) : (s.setSession c x).wired = s.wired := rfl
@[simp] theorem State.setSession_spl (s : State) (c : Nat) (x : Session) : (s.setSession c x).spl = s.spl := rfl
@[simp] theorem State.setSession_upd (s : State) (c : Nat) (x : Session) : (s.setSession c x).upd = s.upd := rfl
@[simp] theorem State.setSession_keys (s : State) (c : Nat) (x : Session) : (s.setSession c x).keys = s.keys := rfl
@[simp] theorem State.setSession_recs (s : State) (c : Nat) (x : Session) : (s.setSession c x).recs = s.recs := rfl
@[simp] theorem State.setSession_bst (s : State) (c : Nat) (x : Session) : (s.setSession c x).bst = s.bst := rfl
@[simp] theorem State.setSession_mem (s : State) (c : Nat) (x : Session) : (s.setSession c x).mem = s.mem := rfl
@[simp] theorem State.setSession_free (s : State) (c : Nat) (x : Session) : (s.setSession c x).free = s.free := rfl
@[simp] theorem State.setSession_out (s : State) (c : Nat) (x : Session) : (s.setSession c x).out = s.out := rfl
@[simp] theorem State.setSession_pending (s : State) (c : Nat) (x : Session) : (s.setSession c x).pending = s.pending := rfl
@[simp] theorem State.setSession_gal (s : State) (c : Nat) (x : Session) : (s.setSession c x).gal = { s.gal with sessions := SMap.insert s.gal.sessions c x } := rfl
@[simp] theorem State.setSession_get (s : State) (c : Nat) (x : Session) (h : Fld) : (s.setSession c x).get h = s.get h := rfl

@[simp] theorem State.modSect_phase (s : State) (k : Nat) (g : Sect → Sect) : (s.modSect k g).phase = s.phase := rfl
@[simp] theorem State.modSect_mode (s : State) (k : Nat) (g : Sect → Sect) : (s.modSect k g).mode = s.mode := rfl
@[simp] theorem State.modSect_role (s : State) (k : Nat) (g : Sect → Sect) : (s.modSect k g).role = s.role := rfl
@[simp] theorem State.modSect_regs (s : State) (k : Nat) (g : Sect → Sect) : (s.modSect k g).regs = s.regs := rfl
@[simp] theorem State.modSect_latch (s : State) (k : Nat) (g : Sect → Sect) : (s.modSect k g).latch = s.latch := rfl
@[simp] theorem State.modSect_frame (s : State) (k : Nat) (g : Sect → Sect) : (s.modSect k g).frame = s.frame := rfl
@[simp] theorem State.modSect_gal (s : State) (k : Nat) (g : Sect → Sect) : (s.modSect k g).gal = s.gal := rfl
@[simp] theorem State.modSect_light (s : State) (k : Nat) (g : Sect → Sect) : (s.modSect k g).light = s.light := rfl
@[simp] theorem State.modSect_net (s : State) (k : Nat) (g : Sect → Sect) : (s.modSect k g).net = s.net := rfl
@[simp] theorem State.modSect_drv (s : State) (k : Nat) (g : Sect → Sect) : (s.modSect k g).drv = s.drv := rfl
@[simp] theorem State.modSect_pos (s : State) (k : Nat) (g : Sect → Sect) : (s.modSect k g).pos = s.pos := rfl
@[simp] theorem State.modSect_fleet (s : State) (k : Nat) (g : Sect → Sect) : (s.modSect k g).fleet = s.fleet := rfl
@[simp] theorem State.modSect_stp (s : State) (k : Nat) (g : Sect → Sect) : (s.modSect k g).stp = s.stp := rfl
@[simp] theorem State.modSect_time (s : State) (k : Nat) (g : Sect → Sect) : (s.modSect k g).time = s.time := rfl
@[simp] theorem State.modSect_rtc (s : State) (k : Nat) (g : Sect → Sect) : (s.modSect k g).rtc = s.rtc := rfl
@[simp] theorem State.modSect_meter (s : State) (k : Nat) (g : Sect → Sect) : (s.modSect k g).meter = s.meter := rfl
@[simp] theorem State.modSect_wired (s : State) (k : Nat) (g : Sect → Sect) : (s.modSect k g).wired = s.wired := rfl
@[simp] theorem State.modSect_spl (s : State) (k : Nat) (g : Sect → Sect) : (s.modSect k g).spl = s.spl := rfl
@[simp] theorem State.modSect_upd (s : State) (k : Nat) (g : Sect → Sect) : (s.modSect k g).upd = s.upd := rfl
@[simp] theorem State.modSect_keys (s : State) (k : Nat) (g : Sect → Sect) : (s.modSect k g).keys = s.keys := rfl
@[simp] theorem State.modSect_recs (s : State) (k : Nat) (g : Sect → Sect) : (s.modSect k g).recs = s.recs := rfl
@[simp] theorem State.modSect_bst (s : State) (k : Nat) (g : Sect → Sect) : (s.modSect k g).bst = s.bst := rfl
@[simp] theorem State.modSect_mem (s : State) (k : Nat) (g : Sect → Sect) : (s.modSect k g).mem = s.mem := rfl
@[simp] theorem State.modSect_free (s : State) (k : Nat) (g : Sect → Sect) : (s.modSect k g).free = s.free := rfl
@[simp] theorem State.modSect_out (s : State) (k : Nat) (g : Sect → Sect) : (s.modSect k g).out = s.out := rfl
@[simp] theorem State.modSect_pending (s : State) (k : Nat) (g : Sect → Sect) : (s.modSect k g).pending = s.pending := rfl
@[simp] theorem State.modSect_get (s : State) (k : Nat) (g : Sect → Sect) (h : Fld) : (s.modSect k g).get h = s.get h := rfl

@[simp] theorem State.setLatch_phase (s : State) (w r : Nat) (l : List Nat) : (s.setLatch w r l).phase = s.phase := rfl
@[simp] theorem State.setLatch_mode (s : State) (w r : Nat) (l : List Nat) : (s.setLatch w r l).mode = s.mode := rfl
@[simp] theorem State.setLatch_role (s : State) (w r : Nat) (l : List Nat) : (s.setLatch w r l).role = s.role := rfl
@[simp] theorem State.setLatch_regs (s : State) (w r : Nat) (l : List Nat) : (s.setLatch w r l).regs = s.regs := rfl
@[simp] theorem State.setLatch_frame (s : State) (w r : Nat) (l : List Nat) : (s.setLatch w r l).frame = s.frame := rfl
@[simp] theorem State.setLatch_gal (s : State) (w r : Nat) (l : List Nat) : (s.setLatch w r l).gal = s.gal := rfl
@[simp] theorem State.setLatch_prog (s : State) (w r : Nat) (l : List Nat) : (s.setLatch w r l).prog = s.prog := rfl
@[simp] theorem State.setLatch_light (s : State) (w r : Nat) (l : List Nat) : (s.setLatch w r l).light = s.light := rfl
@[simp] theorem State.setLatch_net (s : State) (w r : Nat) (l : List Nat) : (s.setLatch w r l).net = s.net := rfl
@[simp] theorem State.setLatch_drv (s : State) (w r : Nat) (l : List Nat) : (s.setLatch w r l).drv = s.drv := rfl
@[simp] theorem State.setLatch_pos (s : State) (w r : Nat) (l : List Nat) : (s.setLatch w r l).pos = s.pos := rfl
@[simp] theorem State.setLatch_fleet (s : State) (w r : Nat) (l : List Nat) : (s.setLatch w r l).fleet = s.fleet := rfl
@[simp] theorem State.setLatch_stp (s : State) (w r : Nat) (l : List Nat) : (s.setLatch w r l).stp = s.stp := rfl
@[simp] theorem State.setLatch_time (s : State) (w r : Nat) (l : List Nat) : (s.setLatch w r l).time = s.time := rfl
@[simp] theorem State.setLatch_rtc (s : State) (w r : Nat) (l : List Nat) : (s.setLatch w r l).rtc = s.rtc := rfl
@[simp] theorem State.setLatch_meter (s : State) (w r : Nat) (l : List Nat) : (s.setLatch w r l).meter = s.meter := rfl
@[simp] theorem State.setLatch_wired (s : State) (w r : Nat) (l : List Nat) : (s.setLatch w r l).wired = s.wired := rfl
@[simp] theorem State.setLatch_spl (s : State) (w r : Nat) (l : List Nat) : (s.setLatch w r l).spl = s.spl := rfl
@[simp] theorem State.setLatch_upd (s : State) (w r : Nat) (l : List Nat) : (s.setLatch w r l).upd = s.upd := rfl
@[simp] theorem State.setLatch_keys (s : State) (w r : Nat) (l : List Nat) : (s.setLatch w r l).keys = s.keys := rfl
@[simp] theorem State.setLatch_recs (s : State) (w r : Nat) (l : List Nat) : (s.setLatch w r l).recs = s.recs := rfl
@[simp] theorem State.setLatch_bst (s : State) (w r : Nat) (l : List Nat) : (s.setLatch w r l).bst = s.bst := rfl
@[simp] theorem State.setLatch_mem (s : State) (w r : Nat) (l : List Nat) : (s.setLatch w r l).mem = s.mem := rfl
@[simp] theorem State.setLatch_free (s : State) (w r : Nat) (l : List Nat) : (s.setLatch w r l).free = s.free := rfl
@[simp] theorem State.setLatch_out (s : State) (w r : Nat) (l : List Nat) : (s.setLatch w r l).out = s.out := rfl
@[simp] theorem State.setLatch_pending (s : State) (w r : Nat) (l : List Nat) : (s.setLatch w r l).pending = s.pending := rfl
@[simp] theorem State.setLatch_get (s : State) (w r : Nat) (l : List Nat) (h : Fld) : (s.setLatch w r l).get h = s.get h := rfl

@[simp] theorem State.after_phase (s r : State) : (s.after r).phase = r.phase := rfl
@[simp] theorem State.after_mode (s r : State) : (s.after r).mode = r.mode := rfl
@[simp] theorem State.after_role (s r : State) : (s.after r).role = r.role := rfl
@[simp] theorem State.after_regs (s r : State) : (s.after r).regs = r.regs := rfl
@[simp] theorem State.after_latch (s r : State) : (s.after r).latch = r.latch := rfl
@[simp] theorem State.after_frame (s r : State) : (s.after r).frame = r.frame := rfl
@[simp] theorem State.after_gal (s r : State) : (s.after r).gal = r.gal := rfl
@[simp] theorem State.after_prog (s r : State) : (s.after r).prog = r.prog := rfl
@[simp] theorem State.after_light (s r : State) : (s.after r).light = r.light := rfl
@[simp] theorem State.after_net (s r : State) : (s.after r).net = r.net := rfl
@[simp] theorem State.after_drv (s r : State) : (s.after r).drv = r.drv := rfl
@[simp] theorem State.after_pos (s r : State) : (s.after r).pos = r.pos := rfl
@[simp] theorem State.after_fleet (s r : State) : (s.after r).fleet = r.fleet := rfl
@[simp] theorem State.after_stp (s r : State) : (s.after r).stp = r.stp := rfl
@[simp] theorem State.after_time (s r : State) : (s.after r).time = r.time := rfl
@[simp] theorem State.after_rtc (s r : State) : (s.after r).rtc = r.rtc := rfl
@[simp] theorem State.after_meter (s r : State) : (s.after r).meter = r.meter := rfl
@[simp] theorem State.after_wired (s r : State) : (s.after r).wired = r.wired := rfl
@[simp] theorem State.after_spl (s r : State) : (s.after r).spl = r.spl := rfl
@[simp] theorem State.after_upd (s r : State) : (s.after r).upd = r.upd := rfl
@[simp] theorem State.after_keys (s r : State) : (s.after r).keys = r.keys := rfl
@[simp] theorem State.after_recs (s r : State) : (s.after r).recs = r.recs := rfl
@[simp] theorem State.after_bst (s r : State) : (s.after r).bst = r.bst := rfl
@[simp] theorem State.after_free (s r : State) : (s.after r).free = r.free := rfl
@[simp] theorem State.after_out (s r : State) : (s.after r).out = r.out := rfl
@[simp] theorem State.after_pending (s r : State) : (s.after r).pending = s.pending := rfl
@[simp] theorem State.after_get (s r : State) (h : Fld) : (s.after r).get h = r.get h := rfl
@[simp] theorem State.after_mem (s r : State) : (s.after r).mem = s.mem := rfl

@[simp] theorem State.afterMem_phase (s r : State) : (s.afterMem r).phase = r.phase := rfl
@[simp] theorem State.afterMem_mode (s r : State) : (s.afterMem r).mode = r.mode := rfl
@[simp] theorem State.afterMem_role (s r : State) : (s.afterMem r).role = r.role := rfl
@[simp] theorem State.afterMem_regs (s r : State) : (s.afterMem r).regs = r.regs := rfl
@[simp] theorem State.afterMem_latch (s r : State) : (s.afterMem r).latch = r.latch := rfl
@[simp] theorem State.afterMem_frame (s r : State) : (s.afterMem r).frame = r.frame := rfl
@[simp] theorem State.afterMem_gal (s r : State) : (s.afterMem r).gal = r.gal := rfl
@[simp] theorem State.afterMem_prog (s r : State) : (s.afterMem r).prog = r.prog := rfl
@[simp] theorem State.afterMem_light (s r : State) : (s.afterMem r).light = r.light := rfl
@[simp] theorem State.afterMem_net (s r : State) : (s.afterMem r).net = r.net := rfl
@[simp] theorem State.afterMem_drv (s r : State) : (s.afterMem r).drv = r.drv := rfl
@[simp] theorem State.afterMem_pos (s r : State) : (s.afterMem r).pos = r.pos := rfl
@[simp] theorem State.afterMem_fleet (s r : State) : (s.afterMem r).fleet = r.fleet := rfl
@[simp] theorem State.afterMem_stp (s r : State) : (s.afterMem r).stp = r.stp := rfl
@[simp] theorem State.afterMem_time (s r : State) : (s.afterMem r).time = r.time := rfl
@[simp] theorem State.afterMem_rtc (s r : State) : (s.afterMem r).rtc = r.rtc := rfl
@[simp] theorem State.afterMem_meter (s r : State) : (s.afterMem r).meter = r.meter := rfl
@[simp] theorem State.afterMem_wired (s r : State) : (s.afterMem r).wired = r.wired := rfl
@[simp] theorem State.afterMem_spl (s r : State) : (s.afterMem r).spl = r.spl := rfl
@[simp] theorem State.afterMem_upd (s r : State) : (s.afterMem r).upd = r.upd := rfl
@[simp] theorem State.afterMem_keys (s r : State) : (s.afterMem r).keys = r.keys := rfl
@[simp] theorem State.afterMem_recs (s r : State) : (s.afterMem r).recs = r.recs := rfl
@[simp] theorem State.afterMem_bst (s r : State) : (s.afterMem r).bst = r.bst := rfl
@[simp] theorem State.afterMem_mem (s r : State) : (s.afterMem r).mem = r.mem := rfl
@[simp] theorem State.afterMem_free (s r : State) : (s.afterMem r).free = r.free := rfl
@[simp] theorem State.afterMem_out (s r : State) : (s.afterMem r).out = r.out := rfl
@[simp] theorem State.afterMem_pending (s r : State) : (s.afterMem r).pending = s.pending := rfl
@[simp] theorem State.afterMem_get (s r : State) (h : Fld) : (s.afterMem r).get h = r.get h := rfl

@[simp] theorem State.afterReset_phase (s r : State) : (s.afterReset r).phase = r.phase := rfl
@[simp] theorem State.afterReset_mode (s r : State) : (s.afterReset r).mode = r.mode := rfl
@[simp] theorem State.afterReset_role (s r : State) : (s.afterReset r).role = r.role := rfl
@[simp] theorem State.afterReset_regs (s r : State) : (s.afterReset r).regs = r.regs := rfl
@[simp] theorem State.afterReset_latch (s r : State) : (s.afterReset r).latch = r.latch := rfl
@[simp] theorem State.afterReset_frame (s r : State) : (s.afterReset r).frame = r.frame := rfl
@[simp] theorem State.afterReset_gal (s r : State) : (s.afterReset r).gal = r.gal := rfl
@[simp] theorem State.afterReset_prog (s r : State) : (s.afterReset r).prog = r.prog := rfl
@[simp] theorem State.afterReset_light (s r : State) : (s.afterReset r).light = r.light := rfl
@[simp] theorem State.afterReset_net (s r : State) : (s.afterReset r).net = r.net := rfl
@[simp] theorem State.afterReset_drv (s r : State) : (s.afterReset r).drv = r.drv := rfl
@[simp] theorem State.afterReset_pos (s r : State) : (s.afterReset r).pos = r.pos := rfl
@[simp] theorem State.afterReset_fleet (s r : State) : (s.afterReset r).fleet = r.fleet := rfl
@[simp] theorem State.afterReset_stp (s r : State) : (s.afterReset r).stp = r.stp := rfl
@[simp] theorem State.afterReset_time (s r : State) : (s.afterReset r).time = r.time := rfl
@[simp] theorem State.afterReset_rtc (s r : State) : (s.afterReset r).rtc = r.rtc := rfl
@[simp] theorem State.afterReset_meter (s r : State) : (s.afterReset r).meter = r.meter := rfl
@[simp] theorem State.afterReset_wired (s r : State) : (s.afterReset r).wired = r.wired := rfl
@[simp] theorem State.afterReset_spl (s r : State) : (s.afterReset r).spl = r.spl := rfl
@[simp] theorem State.afterReset_upd (s r : State) : (s.afterReset r).upd = r.upd := rfl
@[simp] theorem State.afterReset_keys (s r : State) : (s.afterReset r).keys = r.keys := rfl
@[simp] theorem State.afterReset_recs (s r : State) : (s.afterReset r).recs = r.recs := rfl
@[simp] theorem State.afterReset_bst (s r : State) : (s.afterReset r).bst = r.bst := rfl
@[simp] theorem State.afterReset_free (s r : State) : (s.afterReset r).free = r.free := rfl
@[simp] theorem State.afterReset_out (s r : State) : (s.afterReset r).out = r.out := rfl
@[simp] theorem State.afterReset_pending (s r : State) : (s.afterReset r).pending = s.pending := rfl
@[simp] theorem State.afterReset_get (s r : State) (h : Fld) : (s.afterReset r).get h = r.get h := rfl

@[simp] theorem State.putB_eq (s : State) (f : Fld) (b : Bool) : s.putB f b = s.put f (b2n b) := rfl
@[simp] theorem State.putI_eq (s : State) (f : Fld) (z : Int) : s.putI f z = s.put f (ofInt f.width z) := rfl
@[simp] theorem State.inc_eq (s : State) (f : Fld) : s.inc f = s.put f (satAdd f.max (s.get f) 1) := rfl
@[simp] theorem State.add_eq (s : State) (f : Fld) (n : Nat) : s.add f n = s.put f (satAdd f.max (s.get f) n) := rfl
@[simp] theorem State.flag_eq (s : State) (f : Fld) : s.flag f = decide (s.get f ≠ 0) := rfl
@[simp] theorem State.draw_snd (s : State) : s.draw.2 = s.tick := rfl
@[simp] theorem State.live_iff (s : State) : s.live = true ↔ s.phase = .running ∧ s.keys.life ≠ .scrapped := by simp [State.live]

end Sys2Proof.Machine
end

