-- ==== Sys2Proof/Laws/Regs.lean ====
section
/-!
SUPPORT. Sparse maps and register fields: what was put at a place is read there, and every other place stays.
-/
namespace Sys2Proof.Machine

theorem SMap.get?_insert_self {α : Type} (m : SMap α) (i : Nat) (x : α) : SMap.get? (SMap.insert m i x) i = some x := by
  induction m with
  | nil => simp [SMap.insert, SMap.get?]
  | cons p m ih =>
    obtain ⟨k, v⟩ := p
    by_cases h : i = k
    · simp [SMap.insert, SMap.get?, h]
    · by_cases h2 : i < k
      · simp [SMap.insert, SMap.get?, h, h2]
      · simpa [SMap.insert, SMap.get?, h, h2, Ne.symm h] using ih

theorem SMap.get?_insert_ne {α : Type} (m : SMap α) (i j : Nat) (x : α) (h : j ≠ i) :
    SMap.get? (SMap.insert m i x) j = SMap.get? m j := by
  induction m with
  | nil => simp [SMap.insert, SMap.get?, Ne.symm h]
  | cons p m ih =>
    obtain ⟨k, v⟩ := p
    by_cases h1 : i = k
    · subst h1; simp [SMap.insert, SMap.get?, Ne.symm h]
    · by_cases h2 : i < k
      · simp [SMap.insert, SMap.get?, h1, h2, Ne.symm h]
      · by_cases h3 : k = j
        · subst h3; simp [SMap.insert, SMap.get?, h1, h2]
        · simpa [SMap.insert, SMap.get?, h1, h2, h3] using ih

theorem SMap.get?_erase_self {α : Type} (m : SMap α) (i : Nat) : SMap.get? (SMap.erase m i) i = none := by
  unfold SMap.erase
  induction m with
  | nil => rfl
  | cons p m ih =>
    obtain ⟨k, v⟩ := p
    by_cases h : k = i
    · simpa [h] using ih
    · simpa [h, SMap.get?] using ih

theorem SMap.get?_erase_ne {α : Type} (m : SMap α) (i j : Nat) (h : j ≠ i) :
    SMap.get? (SMap.erase m i) j = SMap.get? m j := by
  unfold SMap.erase
  induction m with
  | nil => rfl
  | cons p m ih =>
    obtain ⟨k, v⟩ := p
    by_cases h1 : k = i
    · subst h1; simpa [SMap.get?, Ne.symm h] using ih
    · by_cases h2 : k = j
      · subst h2; simp [h1, SMap.get?]
      · simpa [h1, h2, SMap.get?] using ih

theorem SMap.getD_put_self {α : Type} [DecidableEq α] (d : α) (m : SMap α) (i : Nat) (x : α) :
    (SMap.get? (SMap.put d m i x) i).getD d = x := by
  unfold SMap.put
  split
  · next h => simp [SMap.get?_erase_self, h]
  · simp [SMap.get?_insert_self]

theorem SMap.get?_put_ne {α : Type} [DecidableEq α] (d : α) (m : SMap α) (i j : Nat) (x : α) (h : j ≠ i) :
    SMap.get? (SMap.put d m i x) j = SMap.get? m j := by
  unfold SMap.put
  split
  · exact SMap.get?_erase_ne m i j h
  · exact SMap.get?_insert_ne m i j x h

@[simp] theorem State.get_put_self (s : State) (f : Fld) (v : Nat) : (s.put f v).get f = v % 2 ^ f.width := by
  simp only [State.get, State.put]
  exact SMap.getD_put_self _ _ _ _

/-- Fields at different places are different cells of `regs`. -/
theorem State.get_put_ne (s : State) (f g : Fld) (v : Nat) (h : g.key ≠ f.key) : (s.put f v).get g = s.get g := by
  simp only [State.get, State.put]
  rw [SMap.get?_put_ne _ _ _ _ _ h]

/-- Reading a field looks at `regs` alone. -/
theorem State.get_of_regs {s t : State} (h : t.regs = s.regs) (f : Fld) : t.get f = s.get f := by
  simp only [State.get, h]

end Sys2Proof.Machine
end

