-- ==== Sys2Proof/Laws/Shared.lean ====
section
/-!
SUPPORT. What the shared operations leave alone: emitting, answering, finishing, records of the log. One lemma per operation and field.
-/
namespace Sys2Proof.Machine

/-- A projection that every step of a fold keeps is kept by the fold. -/
theorem foldl_keeps {α β γ : Type} (p : α → γ) (f : α → β → α) (h : ∀ a b, p (f a b) = p a) (l : List β) (a : α) :
    p (l.foldl f a) = p a := by
  induction l generalizing a with
  | nil => rfl
  | cons b l ih => rw [List.foldl_cons, ih, h]

/-- A projection that a transformer keeps is kept by its repetition. -/
theorem iter_keeps {α γ : Type} (p : α → γ) (f : α → α) (h : ∀ a, p (f a) = p a) (n : Nat) (a : α) : p (iter f n a) = p a := by
  induction n generalizing a with
  | zero => rfl
  | succ n ih => rw [iter, ih, h]

@[simp] theorem State.emitAt_phase (s : State) (d : Option Nat) (k : OutKind) (l : List Int) : (s.emitAt d k l).phase = s.phase := by
  unfold State.emitAt; split <;> rfl
@[simp] theorem State.emitAt_mode (s : State) (d : Option Nat) (k : OutKind) (l : List Int) : (s.emitAt d k l).mode = s.mode := by
  unfold State.emitAt; split <;> rfl
@[simp] theorem State.emitAt_role (s : State) (d : Option Nat) (k : OutKind) (l : List Int) : (s.emitAt d k l).role = s.role := by
  unfold State.emitAt; split <;> rfl
@[simp] theorem State.emitAt_regs (s : State) (d : Option Nat) (k : OutKind) (l : List Int) : (s.emitAt d k l).regs = s.regs := by
  unfold State.emitAt; split <;> rfl
@[simp] theorem State.emitAt_latch (s : State) (d : Option Nat) (k : OutKind) (l : List Int) : (s.emitAt d k l).latch = s.latch := by
  unfold State.emitAt; split <;> rfl
@[simp] theorem State.emitAt_frame (s : State) (d : Option Nat) (k : OutKind) (l : List Int) : (s.emitAt d k l).frame = s.frame := by
  unfold State.emitAt; split <;> rfl
@[simp] theorem State.emitAt_gal (s : State) (d : Option Nat) (k : OutKind) (l : List Int) : (s.emitAt d k l).gal = s.gal := by
  unfold State.emitAt; split <;> rfl
@[simp] theorem State.emitAt_prog (s : State) (d : Option Nat) (k : OutKind) (l : List Int) : (s.emitAt d k l).prog = s.prog := by
  unfold State.emitAt; split <;> rfl
@[simp] theorem State.emitAt_light (s : State) (d : Option Nat) (k : OutKind) (l : List Int) : (s.emitAt d k l).light = s.light := by
  unfold State.emitAt; split <;> rfl
@[simp] theorem State.emitAt_net (s : State) (d : Option Nat) (k : OutKind) (l : List Int) : (s.emitAt d k l).net = s.net := by
  unfold State.emitAt; split <;> rfl
@[simp] theorem State.emitAt_drv (s : State) (d : Option Nat) (k : OutKind) (l : List Int) : (s.emitAt d k l).drv = s.drv := by
  unfold State.emitAt; split <;> rfl
@[simp] theorem State.emitAt_pos (s : State) (d : Option Nat) (k : OutKind) (l : List Int) : (s.emitAt d k l).pos = s.pos := by
  unfold State.emitAt; split <;> rfl
@[simp] theorem State.emitAt_fleet (s : State) (d : Option Nat) (k : OutKind) (l : List Int) : (s.emitAt d k l).fleet = s.fleet := by
  unfold State.emitAt; split <;> rfl
@[simp] theorem State.emitAt_stp (s : State) (d : Option Nat) (k : OutKind) (l : List Int) : (s.emitAt d k l).stp = s.stp := by
  unfold State.emitAt; split <;> rfl
@[simp] theorem State.emitAt_time (s : State) (d : Option Nat) (k : OutKind) (l : List Int) : (s.emitAt d k l).time = s.time := by
  unfold State.emitAt; split <;> rfl
@[simp] theorem State.emitAt_rtc (s : State) (d : Option Nat) (k : OutKind) (l : List Int) : (s.emitAt d k l).rtc = s.rtc := by
  unfold State.emitAt; split <;> rfl
@[simp] theorem State.emitAt_meter (s : State) (d : Option Nat) (k : OutKind) (l : List Int) : (s.emitAt d k l).meter = s.meter := by
  unfold State.emitAt; split <;> rfl
@[simp] theorem State.emitAt_wired (s : State) (d : Option Nat) (k : OutKind) (l : List Int) : (s.emitAt d k l).wired = s.wired := by
  unfold State.emitAt; split <;> rfl
@[simp] theorem State.emitAt_upd (s : State) (d : Option Nat) (k : OutKind) (l : List Int) : (s.emitAt d k l).upd = s.upd := by
  unfold State.emitAt; split <;> rfl
@[simp] theorem State.emitAt_keys (s : State) (d : Option Nat) (k : OutKind) (l : List Int) : (s.emitAt d k l).keys = s.keys := by
  unfold State.emitAt; split <;> rfl
@[simp] theorem State.emitAt_recs (s : State) (d : Option Nat) (k : OutKind) (l : List Int) : (s.emitAt d k l).recs = s.recs := by
  unfold State.emitAt; split <;> rfl
@[simp] theorem State.emitAt_bst (s : State) (d : Option Nat) (k : OutKind) (l : List Int) : (s.emitAt d k l).bst = s.bst := by
  unfold State.emitAt; split <;> rfl
@[simp] theorem State.emitAt_mem (s : State) (d : Option Nat) (k : OutKind) (l : List Int) : (s.emitAt d k l).mem = s.mem := by
  unfold State.emitAt; split <;> rfl
@[simp] theorem State.emitAt_free (s : State) (d : Option Nat) (k : OutKind) (l : List Int) : (s.emitAt d k l).free = s.free := by
  unfold State.emitAt; split <;> rfl
@[simp] theorem State.emitAt_pending (s : State) (d : Option Nat) (k : OutKind) (l : List Int) : (s.emitAt d k l).pending = s.pending := by
  unfold State.emitAt; split <;> rfl

@[simp] theorem State.emitAt_get (s : State) (d : Option Nat) (k : OutKind) (l : List Int) (h : Fld) : (s.emitAt d k l).get h = s.get h := by
  simp [State.get]

@[simp] theorem State.emit_phase (s : State) (k : OutKind) (l : List Int) : (s.emit k l).phase = s.phase := by
  simp [State.emit]
@[simp] theorem State.emit_mode (s : State) (k : OutKind) (l : List Int) : (s.emit k l).mode = s.mode := by
  simp [State.emit]
@[simp] theorem State.emit_role (s : State) (k : OutKind) (l : List Int) : (s.emit k l).role = s.role := by
  simp [State.emit]
@[simp] theorem State.emit_regs (s : State) (k : OutKind) (l : List Int) : (s.emit k l).regs = s.regs := by
  simp [State.emit]
@[simp] theorem State.emit_latch (s : State) (k : OutKind) (l : List Int) : (s.emit k l).latch = s.latch := by
  simp [State.emit]
@[simp] theorem State.emit_frame (s : State) (k : OutKind) (l : List Int) : (s.emit k l).frame = s.frame := by
  simp [State.emit]
@[simp] theorem State.emit_gal (s : State) (k : OutKind) (l : List Int) : (s.emit k l).gal = s.gal := by
  simp [State.emit]
@[simp] theorem State.emit_prog (s : State) (k : OutKind) (l : List Int) : (s.emit k l).prog = s.prog := by
  simp [State.emit]
@[simp] theorem State.emit_light (s : State) (k : OutKind) (l : List Int) : (s.emit k l).light = s.light := by
  simp [State.emit]
@[simp] theorem State.emit_net (s : State) (k : OutKind) (l : List Int) : (s.emit k l).net = s.net := by
  simp [State.emit]
@[simp] theorem State.emit_drv (s : State) (k : OutKind) (l : List Int) : (s.emit k l).drv = s.drv := by
  simp [State.emit]
@[simp] theorem State.emit_pos (s : State) (k : OutKind) (l : List Int) : (s.emit k l).pos = s.pos := by
  simp [State.emit]
@[simp] theorem State.emit_fleet (s : State) (k : OutKind) (l : List Int) : (s.emit k l).fleet = s.fleet := by
  simp [State.emit]
@[simp] theorem State.emit_stp (s : State) (k : OutKind) (l : List Int) : (s.emit k l).stp = s.stp := by
  simp [State.emit]
@[simp] theorem State.emit_time (s : State) (k : OutKind) (l : List Int) : (s.emit k l).time = s.time := by
  simp [State.emit]
@[simp] theorem State.emit_rtc (s : State) (k : OutKind) (l : List Int) : (s.emit k l).rtc = s.rtc := by
  simp [State.emit]
@[simp] theorem State.emit_meter (s : State) (k : OutKind) (l : List Int) : (s.emit k l).meter = s.meter := by
  simp [State.emit]
@[simp] theorem State.emit_wired (s : State) (k : OutKind) (l : List Int) : (s.emit k l).wired = s.wired := by
  simp [State.emit]
@[simp] theorem State.emit_upd (s : State) (k : OutKind) (l : List Int) : (s.emit k l).upd = s.upd := by
  simp [State.emit]
@[simp] theorem State.emit_keys (s : State) (k : OutKind) (l : List Int) : (s.emit k l).keys = s.keys := by
  simp [State.emit]
@[simp] theorem State.emit_recs (s : State) (k : OutKind) (l : List Int) : (s.emit k l).recs = s.recs := by
  simp [State.emit]
@[simp] theorem State.emit_bst (s : State) (k : OutKind) (l : List Int) : (s.emit k l).bst = s.bst := by
  simp [State.emit]
@[simp] theorem State.emit_mem (s : State) (k : OutKind) (l : List Int) : (s.emit k l).mem = s.mem := by
  simp [State.emit]
@[simp] theorem State.emit_free (s : State) (k : OutKind) (l : List Int) : (s.emit k l).free = s.free := by
  simp [State.emit]
@[simp] theorem State.emit_pending (s : State) (k : OutKind) (l : List Int) : (s.emit k l).pending = s.pending := by
  simp [State.emit]

@[simp] theorem State.emit_get (s : State) (k : OutKind) (l : List Int) (h : Fld) : (s.emit k l).get h = s.get h := by
  simp [State.get]

@[simp] theorem State.reply_phase (s : State) (w : Requester) (st : Nat) (v : List Nat) : (s.reply w st v).phase = s.phase := by
  simp [State.reply]
@[simp] theorem State.reply_mode (s : State) (w : Requester) (st : Nat) (v : List Nat) : (s.reply w st v).mode = s.mode := by
  simp [State.reply]
@[simp] theorem State.reply_role (s : State) (w : Requester) (st : Nat) (v : List Nat) : (s.reply w st v).role = s.role := by
  simp [State.reply]
@[simp] theorem State.reply_regs (s : State) (w : Requester) (st : Nat) (v : List Nat) : (s.reply w st v).regs = s.regs := by
  simp [State.reply]
@[simp] theorem State.reply_latch (s : State) (w : Requester) (st : Nat) (v : List Nat) : (s.reply w st v).latch = s.latch := by
  simp [State.reply]
@[simp] theorem State.reply_frame (s : State) (w : Requester) (st : Nat) (v : List Nat) : (s.reply w st v).frame = s.frame := by
  simp [State.reply]
@[simp] theorem State.reply_gal (s : State) (w : Requester) (st : Nat) (v : List Nat) : (s.reply w st v).gal = s.gal := by
  simp [State.reply]
@[simp] theorem State.reply_prog (s : State) (w : Requester) (st : Nat) (v : List Nat) : (s.reply w st v).prog = s.prog := by
  simp [State.reply]
@[simp] theorem State.reply_light (s : State) (w : Requester) (st : Nat) (v : List Nat) : (s.reply w st v).light = s.light := by
  simp [State.reply]
@[simp] theorem State.reply_net (s : State) (w : Requester) (st : Nat) (v : List Nat) : (s.reply w st v).net = s.net := by
  simp [State.reply]
@[simp] theorem State.reply_drv (s : State) (w : Requester) (st : Nat) (v : List Nat) : (s.reply w st v).drv = s.drv := by
  simp [State.reply]
@[simp] theorem State.reply_pos (s : State) (w : Requester) (st : Nat) (v : List Nat) : (s.reply w st v).pos = s.pos := by
  simp [State.reply]
@[simp] theorem State.reply_fleet (s : State) (w : Requester) (st : Nat) (v : List Nat) : (s.reply w st v).fleet = s.fleet := by
  simp [State.reply]
@[simp] theorem State.reply_stp (s : State) (w : Requester) (st : Nat) (v : List Nat) : (s.reply w st v).stp = s.stp := by
  simp [State.reply]
@[simp] theorem State.reply_time (s : State) (w : Requester) (st : Nat) (v : List Nat) : (s.reply w st v).time = s.time := by
  simp [State.reply]
@[simp] theorem State.reply_rtc (s : State) (w : Requester) (st : Nat) (v : List Nat) : (s.reply w st v).rtc = s.rtc := by
  simp [State.reply]
@[simp] theorem State.reply_meter (s : State) (w : Requester) (st : Nat) (v : List Nat) : (s.reply w st v).meter = s.meter := by
  simp [State.reply]
@[simp] theorem State.reply_wired (s : State) (w : Requester) (st : Nat) (v : List Nat) : (s.reply w st v).wired = s.wired := by
  simp [State.reply]
@[simp] theorem State.reply_upd (s : State) (w : Requester) (st : Nat) (v : List Nat) : (s.reply w st v).upd = s.upd := by
  simp [State.reply]
@[simp] theorem State.reply_keys (s : State) (w : Requester) (st : Nat) (v : List Nat) : (s.reply w st v).keys = s.keys := by
  simp [State.reply]
@[simp] theorem State.reply_recs (s : State) (w : Requester) (st : Nat) (v : List Nat) : (s.reply w st v).recs = s.recs := by
  simp [State.reply]
@[simp] theorem State.reply_bst (s : State) (w : Requester) (st : Nat) (v : List Nat) : (s.reply w st v).bst = s.bst := by
  simp [State.reply]
@[simp] theorem State.reply_mem (s : State) (w : Requester) (st : Nat) (v : List Nat) : (s.reply w st v).mem = s.mem := by
  simp [State.reply]
@[simp] theorem State.reply_free (s : State) (w : Requester) (st : Nat) (v : List Nat) : (s.reply w st v).free = s.free := by
  simp [State.reply]
@[simp] theorem State.reply_pending (s : State) (w : Requester) (st : Nat) (v : List Nat) : (s.reply w st v).pending = s.pending := by
  simp [State.reply]

@[simp] theorem State.reply_get (s : State) (w : Requester) (st : Nat) (v : List Nat) (h : Fld) : (s.reply w st v).get h = s.get h := by
  simp [State.get]

@[simp] theorem State.vitTrigger_phase (s : State) (b : Option Nat) (c : Nat) : (s.vitTrigger b c).phase = s.phase := by
  simp only [State.vitTrigger]; repeat' split
  all_goals simp
@[simp] theorem State.vitTrigger_mode (s : State) (b : Option Nat) (c : Nat) : (s.vitTrigger b c).mode = s.mode := by
  simp only [State.vitTrigger]; repeat' split
  all_goals simp
@[simp] theorem State.vitTrigger_role (s : State) (b : Option Nat) (c : Nat) : (s.vitTrigger b c).role = s.role := by
  simp only [State.vitTrigger]; repeat' split
  all_goals simp
@[simp] theorem State.vitTrigger_latch (s : State) (b : Option Nat) (c : Nat) : (s.vitTrigger b c).latch = s.latch := by
  simp only [State.vitTrigger]; repeat' split
  all_goals simp
@[simp] theorem State.vitTrigger_frame (s : State) (b : Option Nat) (c : Nat) : (s.vitTrigger b c).frame = s.frame := by
  simp only [State.vitTrigger]; repeat' split
  all_goals simp
@[simp] theorem State.vitTrigger_gal (s : State) (b : Option Nat) (c : Nat) : (s.vitTrigger b c).gal = s.gal := by
  simp only [State.vitTrigger]; repeat' split
  all_goals simp
@[simp] theorem State.vitTrigger_prog (s : State) (b : Option Nat) (c : Nat) : (s.vitTrigger b c).prog = s.prog := by
  simp only [State.vitTrigger]; repeat' split
  all_goals simp
@[simp] theorem State.vitTrigger_light (s : State) (b : Option Nat) (c : Nat) : (s.vitTrigger b c).light = s.light := by
  simp only [State.vitTrigger]; repeat' split
  all_goals simp
@[simp] theorem State.vitTrigger_net (s : State) (b : Option Nat) (c : Nat) : (s.vitTrigger b c).net = s.net := by
  simp only [State.vitTrigger]; repeat' split
  all_goals simp
@[simp] theorem State.vitTrigger_drv (s : State) (b : Option Nat) (c : Nat) : (s.vitTrigger b c).drv = s.drv := by
  simp only [State.vitTrigger]; repeat' split
  all_goals simp
@[simp] theorem State.vitTrigger_pos (s : State) (b : Option Nat) (c : Nat) : (s.vitTrigger b c).pos = s.pos := by
  simp only [State.vitTrigger]; repeat' split
  all_goals simp
@[simp] theorem State.vitTrigger_fleet (s : State) (b : Option Nat) (c : Nat) : (s.vitTrigger b c).fleet = s.fleet := by
  simp only [State.vitTrigger]; repeat' split
  all_goals simp
@[simp] theorem State.vitTrigger_stp (s : State) (b : Option Nat) (c : Nat) : (s.vitTrigger b c).stp = s.stp := by
  simp only [State.vitTrigger]; repeat' split
  all_goals simp
@[simp] theorem State.vitTrigger_time (s : State) (b : Option Nat) (c : Nat) : (s.vitTrigger b c).time = s.time := by
  simp only [State.vitTrigger]; repeat' split
  all_goals simp
@[simp] theorem State.vitTrigger_rtc (s : State) (b : Option Nat) (c : Nat) : (s.vitTrigger b c).rtc = s.rtc := by
  simp only [State.vitTrigger]; repeat' split
  all_goals simp
@[simp] theorem State.vitTrigger_meter (s : State) (b : Option Nat) (c : Nat) : (s.vitTrigger b c).meter = s.meter := by
  simp only [State.vitTrigger]; repeat' split
  all_goals simp
@[simp] theorem State.vitTrigger_wired (s : State) (b : Option Nat) (c : Nat) : (s.vitTrigger b c).wired = s.wired := by
  simp only [State.vitTrigger]; repeat' split
  all_goals simp
@[simp] theorem State.vitTrigger_spl (s : State) (b : Option Nat) (c : Nat) : (s.vitTrigger b c).spl = s.spl := by
  simp only [State.vitTrigger]; repeat' split
  all_goals simp
@[simp] theorem State.vitTrigger_upd (s : State) (b : Option Nat) (c : Nat) : (s.vitTrigger b c).upd = s.upd := by
  simp only [State.vitTrigger]; repeat' split
  all_goals simp
@[simp] theorem State.vitTrigger_keys (s : State) (b : Option Nat) (c : Nat) : (s.vitTrigger b c).keys = s.keys := by
  simp only [State.vitTrigger]; repeat' split
  all_goals simp
@[simp] theorem State.vitTrigger_bst (s : State) (b : Option Nat) (c : Nat) : (s.vitTrigger b c).bst = s.bst := by
  simp only [State.vitTrigger]; repeat' split
  all_goals simp
@[simp] theorem State.vitTrigger_mem (s : State) (b : Option Nat) (c : Nat) : (s.vitTrigger b c).mem = s.mem := by
  simp only [State.vitTrigger]; repeat' split
  all_goals simp
@[simp] theorem State.vitTrigger_free (s : State) (b : Option Nat) (c : Nat) : (s.vitTrigger b c).free = s.free := by
  simp only [State.vitTrigger]; repeat' split
  all_goals simp
@[simp] theorem State.vitTrigger_out (s : State) (b : Option Nat) (c : Nat) : (s.vitTrigger b c).out = s.out := by
  simp only [State.vitTrigger]; repeat' split
  all_goals simp
@[simp] theorem State.vitTrigger_pending (s : State) (b : Option Nat) (c : Nat) : (s.vitTrigger b c).pending = s.pending := by
  simp only [State.vitTrigger]; repeat' split
  all_goals simp

@[simp] theorem State.logRec_phase (s : State) (a b c : Nat) (l : List Nat) : (s.logRec a b c l).phase = s.phase := by
  simp only [State.logRec]; repeat' split
  all_goals simp
@[simp] theorem State.logRec_mode (s : State) (a b c : Nat) (l : List Nat) : (s.logRec a b c l).mode = s.mode := by
  simp only [State.logRec]; repeat' split
  all_goals simp
@[simp] theorem State.logRec_role (s : State) (a b c : Nat) (l : List Nat) : (s.logRec a b c l).role = s.role := by
  simp only [State.logRec]; repeat' split
  all_goals simp
@[simp] theorem State.logRec_latch (s : State) (a b c : Nat) (l : List Nat) : (s.logRec a b c l).latch = s.latch := by
  simp only [State.logRec]; repeat' split
  all_goals simp
@[simp] theorem State.logRec_frame (s : State) (a b c : Nat) (l : List Nat) : (s.logRec a b c l).frame = s.frame := by
  simp only [State.logRec]; repeat' split
  all_goals simp
@[simp] theorem State.logRec_gal (s : State) (a b c : Nat) (l : List Nat) : (s.logRec a b c l).gal = s.gal := by
  simp only [State.logRec]; repeat' split
  all_goals simp
@[simp] theorem State.logRec_prog (s : State) (a b c : Nat) (l : List Nat) : (s.logRec a b c l).prog = s.prog := by
  simp only [State.logRec]; repeat' split
  all_goals simp
@[simp] theorem State.logRec_light (s : State) (a b c : Nat) (l : List Nat) : (s.logRec a b c l).light = s.light := by
  simp only [State.logRec]; repeat' split
  all_goals simp
@[simp] theorem State.logRec_net (s : State) (a b c : Nat) (l : List Nat) : (s.logRec a b c l).net = s.net := by
  simp only [State.logRec]; repeat' split
  all_goals simp
@[simp] theorem State.logRec_drv (s : State) (a b c : Nat) (l : List Nat) : (s.logRec a b c l).drv = s.drv := by
  simp only [State.logRec]; repeat' split
  all_goals simp
@[simp] theorem State.logRec_pos (s : State) (a b c : Nat) (l : List Nat) : (s.logRec a b c l).pos = s.pos := by
  simp only [State.logRec]; repeat' split
  all_goals simp
@[simp] theorem State.logRec_fleet (s : State) (a b c : Nat) (l : List Nat) : (s.logRec a b c l).fleet = s.fleet := by
  simp only [State.logRec]; repeat' split
  all_goals simp
@[simp] theorem State.logRec_stp (s : State) (a b c : Nat) (l : List Nat) : (s.logRec a b c l).stp = s.stp := by
  simp only [State.logRec]; repeat' split
  all_goals simp
@[simp] theorem State.logRec_time (s : State) (a b c : Nat) (l : List Nat) : (s.logRec a b c l).time = s.time := by
  simp only [State.logRec]; repeat' split
  all_goals simp
@[simp] theorem State.logRec_rtc (s : State) (a b c : Nat) (l : List Nat) : (s.logRec a b c l).rtc = s.rtc := by
  simp only [State.logRec]; repeat' split
  all_goals simp
@[simp] theorem State.logRec_meter (s : State) (a b c : Nat) (l : List Nat) : (s.logRec a b c l).meter = s.meter := by
  simp only [State.logRec]; repeat' split
  all_goals simp
@[simp] theorem State.logRec_wired (s : State) (a b c : Nat) (l : List Nat) : (s.logRec a b c l).wired = s.wired := by
  simp only [State.logRec]; repeat' split
  all_goals simp
@[simp] theorem State.logRec_spl (s : State) (a b c : Nat) (l : List Nat) : (s.logRec a b c l).spl = s.spl := by
  simp only [State.logRec]; repeat' split
  all_goals simp
@[simp] theorem State.logRec_upd (s : State) (a b c : Nat) (l : List Nat) : (s.logRec a b c l).upd = s.upd := by
  simp only [State.logRec]; repeat' split
  all_goals simp
@[simp] theorem State.logRec_keys (s : State) (a b c : Nat) (l : List Nat) : (s.logRec a b c l).keys = s.keys := by
  simp only [State.logRec]; repeat' split
  all_goals simp
@[simp] theorem State.logRec_bst (s : State) (a b c : Nat) (l : List Nat) : (s.logRec a b c l).bst = s.bst := by
  simp only [State.logRec]; repeat' split
  all_goals simp
@[simp] theorem State.logRec_mem (s : State) (a b c : Nat) (l : List Nat) : (s.logRec a b c l).mem = s.mem := by
  simp only [State.logRec]; repeat' split
  all_goals simp
@[simp] theorem State.logRec_free (s : State) (a b c : Nat) (l : List Nat) : (s.logRec a b c l).free = s.free := by
  simp only [State.logRec]; repeat' split
  all_goals simp
@[simp] theorem State.logRec_out (s : State) (a b c : Nat) (l : List Nat) : (s.logRec a b c l).out = s.out := by
  simp only [State.logRec]; repeat' split
  all_goals simp
@[simp] theorem State.logRec_pending (s : State) (a b c : Nat) (l : List Nat) : (s.logRec a b c l).pending = s.pending := by
  simp only [State.logRec]; repeat' split
  all_goals simp

@[simp] theorem State.log_phase (s : State) (a b : Nat) (h : Fld) (l : List Nat) : (s.log a b h l).phase = s.phase := by
  simp [State.log]
@[simp] theorem State.log_mode (s : State) (a b : Nat) (h : Fld) (l : List Nat) : (s.log a b h l).mode = s.mode := by
  simp [State.log]
@[simp] theorem State.log_role (s : State) (a b : Nat) (h : Fld) (l : List Nat) : (s.log a b h l).role = s.role := by
  simp [State.log]
@[simp] theorem State.log_latch (s : State) (a b : Nat) (h : Fld) (l : List Nat) : (s.log a b h l).latch = s.latch := by
  simp [State.log]
@[simp] theorem State.log_frame (s : State) (a b : Nat) (h : Fld) (l : List Nat) : (s.log a b h l).frame = s.frame := by
  simp [State.log]
@[simp] theorem State.log_gal (s : State) (a b : Nat) (h : Fld) (l : List Nat) : (s.log a b h l).gal = s.gal := by
  simp [State.log]
@[simp] theorem State.log_prog (s : State) (a b : Nat) (h : Fld) (l : List Nat) : (s.log a b h l).prog = s.prog := by
  simp [State.log]
@[simp] theorem State.log_light (s : State) (a b : Nat) (h : Fld) (l : List Nat) : (s.log a b h l).light = s.light := by
  simp [State.log]
@[simp] theorem State.log_net (s : State) (a b : Nat) (h : Fld) (l : List Nat) : (s.log a b h l).net = s.net := by
  simp [State.log]
@[simp] theorem State.log_drv (s : State) (a b : Nat) (h : Fld) (l : List Nat) : (s.log a b h l).drv = s.drv := by
  simp [State.log]
@[simp] theorem State.log_pos (s : State) (a b : Nat) (h : Fld) (l : List Nat) : (s.log a b h l).pos = s.pos := by
  simp [State.log]
@[simp] theorem State.log_fleet (s : State) (a b : Nat) (h : Fld) (l : List Nat) : (s.log a b h l).fleet = s.fleet := by
  simp [State.log]
@[simp] theorem State.log_stp (s : State) (a b : Nat) (h : Fld) (l : List Nat) : (s.log a b h l).stp = s.stp := by
  simp [State.log]
@[simp] theorem State.log_time (s : State) (a b : Nat) (h : Fld) (l : List Nat) : (s.log a b h l).time = s.time := by
  simp [State.log]
@[simp] theorem State.log_rtc (s : State) (a b : Nat) (h : Fld) (l : List Nat) : (s.log a b h l).rtc = s.rtc := by
  simp [State.log]
@[simp] theorem State.log_meter (s : State) (a b : Nat) (h : Fld) (l : List Nat) : (s.log a b h l).meter = s.meter := by
  simp [State.log]
@[simp] theorem State.log_wired (s : State) (a b : Nat) (h : Fld) (l : List Nat) : (s.log a b h l).wired = s.wired := by
  simp [State.log]
@[simp] theorem State.log_spl (s : State) (a b : Nat) (h : Fld) (l : List Nat) : (s.log a b h l).spl = s.spl := by
  simp [State.log]
@[simp] theorem State.log_upd (s : State) (a b : Nat) (h : Fld) (l : List Nat) : (s.log a b h l).upd = s.upd := by
  simp [State.log]
@[simp] theorem State.log_keys (s : State) (a b : Nat) (h : Fld) (l : List Nat) : (s.log a b h l).keys = s.keys := by
  simp [State.log]
@[simp] theorem State.log_bst (s : State) (a b : Nat) (h : Fld) (l : List Nat) : (s.log a b h l).bst = s.bst := by
  simp [State.log]
@[simp] theorem State.log_mem (s : State) (a b : Nat) (h : Fld) (l : List Nat) : (s.log a b h l).mem = s.mem := by
  simp [State.log]
@[simp] theorem State.log_free (s : State) (a b : Nat) (h : Fld) (l : List Nat) : (s.log a b h l).free = s.free := by
  simp [State.log]
@[simp] theorem State.log_out (s : State) (a b : Nat) (h : Fld) (l : List Nat) : (s.log a b h l).out = s.out := by
  simp [State.log]
@[simp] theorem State.log_pending (s : State) (a b : Nat) (h : Fld) (l : List Nat) : (s.log a b h l).pending = s.pending := by
  simp [State.log]

@[simp] theorem State.logBlock_phase (s : State) (a b c : Nat) (l : List Nat) : (s.logBlock a b c l).phase = s.phase := by
  simp [State.logBlock]
@[simp] theorem State.logBlock_mode (s : State) (a b c : Nat) (l : List Nat) : (s.logBlock a b c l).mode = s.mode := by
  simp [State.logBlock]
@[simp] theorem State.logBlock_role (s : State) (a b c : Nat) (l : List Nat) : (s.logBlock a b c l).role = s.role := by
  simp [State.logBlock]
@[simp] theorem State.logBlock_latch (s : State) (a b c : Nat) (l : List Nat) : (s.logBlock a b c l).latch = s.latch := by
  simp [State.logBlock]
@[simp] theorem State.logBlock_frame (s : State) (a b c : Nat) (l : List Nat) : (s.logBlock a b c l).frame = s.frame := by
  simp [State.logBlock]
@[simp] theorem State.logBlock_gal (s : State) (a b c : Nat) (l : List Nat) : (s.logBlock a b c l).gal = s.gal := by
  simp [State.logBlock]
@[simp] theorem State.logBlock_prog (s : State) (a b c : Nat) (l : List Nat) : (s.logBlock a b c l).prog = s.prog := by
  simp [State.logBlock]
@[simp] theorem State.logBlock_light (s : State) (a b c : Nat) (l : List Nat) : (s.logBlock a b c l).light = s.light := by
  simp [State.logBlock]
@[simp] theorem State.logBlock_net (s : State) (a b c : Nat) (l : List Nat) : (s.logBlock a b c l).net = s.net := by
  simp [State.logBlock]
@[simp] theorem State.logBlock_drv (s : State) (a b c : Nat) (l : List Nat) : (s.logBlock a b c l).drv = s.drv := by
  simp [State.logBlock]
@[simp] theorem State.logBlock_pos (s : State) (a b c : Nat) (l : List Nat) : (s.logBlock a b c l).pos = s.pos := by
  simp [State.logBlock]
@[simp] theorem State.logBlock_fleet (s : State) (a b c : Nat) (l : List Nat) : (s.logBlock a b c l).fleet = s.fleet := by
  simp [State.logBlock]
@[simp] theorem State.logBlock_stp (s : State) (a b c : Nat) (l : List Nat) : (s.logBlock a b c l).stp = s.stp := by
  simp [State.logBlock]
@[simp] theorem State.logBlock_time (s : State) (a b c : Nat) (l : List Nat) : (s.logBlock a b c l).time = s.time := by
  simp [State.logBlock]
@[simp] theorem State.logBlock_rtc (s : State) (a b c : Nat) (l : List Nat) : (s.logBlock a b c l).rtc = s.rtc := by
  simp [State.logBlock]
@[simp] theorem State.logBlock_meter (s : State) (a b c : Nat) (l : List Nat) : (s.logBlock a b c l).meter = s.meter := by
  simp [State.logBlock]
@[simp] theorem State.logBlock_wired (s : State) (a b c : Nat) (l : List Nat) : (s.logBlock a b c l).wired = s.wired := by
  simp [State.logBlock]
@[simp] theorem State.logBlock_spl (s : State) (a b c : Nat) (l : List Nat) : (s.logBlock a b c l).spl = s.spl := by
  simp [State.logBlock]
@[simp] theorem State.logBlock_upd (s : State) (a b c : Nat) (l : List Nat) : (s.logBlock a b c l).upd = s.upd := by
  simp [State.logBlock]
@[simp] theorem State.logBlock_keys (s : State) (a b c : Nat) (l : List Nat) : (s.logBlock a b c l).keys = s.keys := by
  simp [State.logBlock]
@[simp] theorem State.logBlock_bst (s : State) (a b c : Nat) (l : List Nat) : (s.logBlock a b c l).bst = s.bst := by
  simp [State.logBlock]
@[simp] theorem State.logBlock_mem (s : State) (a b c : Nat) (l : List Nat) : (s.logBlock a b c l).mem = s.mem := by
  simp [State.logBlock]
@[simp] theorem State.logBlock_free (s : State) (a b c : Nat) (l : List Nat) : (s.logBlock a b c l).free = s.free := by
  simp [State.logBlock]
@[simp] theorem State.logBlock_out (s : State) (a b c : Nat) (l : List Nat) : (s.logBlock a b c l).out = s.out := by
  simp [State.logBlock]
@[simp] theorem State.logBlock_pending (s : State) (a b c : Nat) (l : List Nat) : (s.logBlock a b c l).pending = s.pending := by
  simp [State.logBlock]

@[simp] theorem State.cmdFinal_phase (s : State) (a st : Nat) : (s.cmdFinal a st).phase = s.phase := by
  unfold State.cmdFinal; split <;> rfl
@[simp] theorem State.cmdFinal_mode (s : State) (a st : Nat) : (s.cmdFinal a st).mode = s.mode := by
  unfold State.cmdFinal; split <;> rfl
@[simp] theorem State.cmdFinal_role (s : State) (a st : Nat) : (s.cmdFinal a st).role = s.role := by
  unfold State.cmdFinal; split <;> rfl
@[simp] theorem State.cmdFinal_latch (s : State) (a st : Nat) : (s.cmdFinal a st).latch = s.latch := by
  unfold State.cmdFinal; split <;> rfl
@[simp] theorem State.cmdFinal_frame (s : State) (a st : Nat) : (s.cmdFinal a st).frame = s.frame := by
  unfold State.cmdFinal; split <;> rfl
@[simp] theorem State.cmdFinal_gal (s : State) (a st : Nat) : (s.cmdFinal a st).gal = s.gal := by
  unfold State.cmdFinal; split <;> rfl
@[simp] theorem State.cmdFinal_prog (s : State) (a st : Nat) : (s.cmdFinal a st).prog = s.prog := by
  unfold State.cmdFinal; split <;> rfl
@[simp] theorem State.cmdFinal_light (s : State) (a st : Nat) : (s.cmdFinal a st).light = s.light := by
  unfold State.cmdFinal; split <;> rfl
@[simp] theorem State.cmdFinal_net (s : State) (a st : Nat) : (s.cmdFinal a st).net = s.net := by
  unfold State.cmdFinal; split <;> rfl
@[simp] theorem State.cmdFinal_drv (s : State) (a st : Nat) : (s.cmdFinal a st).drv = s.drv := by
  unfold State.cmdFinal; split <;> rfl
@[simp] theorem State.cmdFinal_pos (s : State) (a st : Nat) : (s.cmdFinal a st).pos = s.pos := by
  unfold State.cmdFinal; split <;> rfl
@[simp] theorem State.cmdFinal_fleet (s : State) (a st : Nat) : (s.cmdFinal a st).fleet = s.fleet := by
  unfold State.cmdFinal; split <;> rfl
@[simp] theorem State.cmdFinal_stp (s : State) (a st : Nat) : (s.cmdFinal a st).stp = s.stp := by
  unfold State.cmdFinal; split <;> rfl
@[simp] theorem State.cmdFinal_time (s : State) (a st : Nat) : (s.cmdFinal a st).time = s.time := by
  unfold State.cmdFinal; split <;> rfl
@[simp] theorem State.cmdFinal_rtc (s : State) (a st : Nat) : (s.cmdFinal a st).rtc = s.rtc := by
  unfold State.cmdFinal; split <;> rfl
@[simp] theorem State.cmdFinal_meter (s : State) (a st : Nat) : (s.cmdFinal a st).meter = s.meter := by
  unfold State.cmdFinal; split <;> rfl
@[simp] theorem State.cmdFinal_wired (s : State) (a st : Nat) : (s.cmdFinal a st).wired = s.wired := by
  unfold State.cmdFinal; split <;> rfl
@[simp] theorem State.cmdFinal_spl (s : State) (a st : Nat) : (s.cmdFinal a st).spl = s.spl := by
  unfold State.cmdFinal; split <;> rfl
@[simp] theorem State.cmdFinal_upd (s : State) (a st : Nat) : (s.cmdFinal a st).upd = s.upd := by
  unfold State.cmdFinal; split <;> rfl
@[simp] theorem State.cmdFinal_keys (s : State) (a st : Nat) : (s.cmdFinal a st).keys = s.keys := by
  unfold State.cmdFinal; split <;> rfl
@[simp] theorem State.cmdFinal_recs (s : State) (a st : Nat) : (s.cmdFinal a st).recs = s.recs := by
  unfold State.cmdFinal; split <;> rfl
@[simp] theorem State.cmdFinal_bst (s : State) (a st : Nat) : (s.cmdFinal a st).bst = s.bst := by
  unfold State.cmdFinal; split <;> rfl
@[simp] theorem State.cmdFinal_mem (s : State) (a st : Nat) : (s.cmdFinal a st).mem = s.mem := by
  unfold State.cmdFinal; split <;> rfl
@[simp] theorem State.cmdFinal_free (s : State) (a st : Nat) : (s.cmdFinal a st).free = s.free := by
  unfold State.cmdFinal; split <;> rfl
@[simp] theorem State.cmdFinal_out (s : State) (a st : Nat) : (s.cmdFinal a st).out = s.out := by
  unfold State.cmdFinal; split <;> rfl
@[simp] theorem State.cmdFinal_pending (s : State) (a st : Nat) : (s.cmdFinal a st).pending = s.pending := by
  unfold State.cmdFinal; split <;> rfl

@[simp] theorem State.spiReady_phase (s : State) (l : List Int) : (s.spiReady l).phase = s.phase := by
  rfl
@[simp] theorem State.spiReady_mode (s : State) (l : List Int) : (s.spiReady l).mode = s.mode := by
  rfl
@[simp] theorem State.spiReady_role (s : State) (l : List Int) : (s.spiReady l).role = s.role := by
  rfl
@[simp] theorem State.spiReady_regs (s : State) (l : List Int) : (s.spiReady l).regs = s.regs := by
  rfl
@[simp] theorem State.spiReady_latch (s : State) (l : List Int) : (s.spiReady l).latch = s.latch := by
  rfl
@[simp] theorem State.spiReady_frame (s : State) (l : List Int) : (s.spiReady l).frame = s.frame := by
  rfl
@[simp] theorem State.spiReady_gal (s : State) (l : List Int) : (s.spiReady l).gal = s.gal := by
  rfl
@[simp] theorem State.spiReady_prog (s : State) (l : List Int) : (s.spiReady l).prog = s.prog := by
  rfl
@[simp] theorem State.spiReady_light (s : State) (l : List Int) : (s.spiReady l).light = s.light := by
  rfl
@[simp] theorem State.spiReady_net (s : State) (l : List Int) : (s.spiReady l).net = s.net := by
  rfl
@[simp] theorem State.spiReady_drv (s : State) (l : List Int) : (s.spiReady l).drv = s.drv := by
  rfl
@[simp] theorem State.spiReady_pos (s : State) (l : List Int) : (s.spiReady l).pos = s.pos := by
  rfl
@[simp] theorem State.spiReady_fleet (s : State) (l : List Int) : (s.spiReady l).fleet = s.fleet := by
  rfl
@[simp] theorem State.spiReady_stp (s : State) (l : List Int) : (s.spiReady l).stp = s.stp := by
  rfl
@[simp] theorem State.spiReady_time (s : State) (l : List Int) : (s.spiReady l).time = s.time := by
  rfl
@[simp] theorem State.spiReady_rtc (s : State) (l : List Int) : (s.spiReady l).rtc = s.rtc := by
  rfl
@[simp] theorem State.spiReady_meter (s : State) (l : List Int) : (s.spiReady l).meter = s.meter := by
  rfl
@[simp] theorem State.spiReady_spl (s : State) (l : List Int) : (s.spiReady l).spl = s.spl := by
  rfl
@[simp] theorem State.spiReady_upd (s : State) (l : List Int) : (s.spiReady l).upd = s.upd := by
  rfl
@[simp] theorem State.spiReady_keys (s : State) (l : List Int) : (s.spiReady l).keys = s.keys := by
  rfl
@[simp] theorem State.spiReady_recs (s : State) (l : List Int) : (s.spiReady l).recs = s.recs := by
  rfl
@[simp] theorem State.spiReady_bst (s : State) (l : List Int) : (s.spiReady l).bst = s.bst := by
  rfl
@[simp] theorem State.spiReady_mem (s : State) (l : List Int) : (s.spiReady l).mem = s.mem := by
  rfl
@[simp] theorem State.spiReady_free (s : State) (l : List Int) : (s.spiReady l).free = s.free := by
  rfl
@[simp] theorem State.spiReady_pending (s : State) (l : List Int) : (s.spiReady l).pending = s.pending := by
  rfl

@[simp] theorem State.spiReady_get (s : State) (l : List Int) (h : Fld) : (s.spiReady l).get h = s.get h := by
  simp [State.get]

@[simp] theorem State.spiSend_phase (s : State) (l : List Nat) : (s.spiSend l).phase = s.phase := by
  unfold State.spiSend; dsimp only; split <;> simp
@[simp] theorem State.spiSend_mode (s : State) (l : List Nat) : (s.spiSend l).mode = s.mode := by
  unfold State.spiSend; dsimp only; split <;> simp
@[simp] theorem State.spiSend_role (s : State) (l : List Nat) : (s.spiSend l).role = s.role := by
  unfold State.spiSend; dsimp only; split <;> simp
@[simp] theorem State.spiSend_regs (s : State) (l : List Nat) : (s.spiSend l).regs = s.regs := by
  unfold State.spiSend; dsimp only; split <;> simp
@[simp] theorem State.spiSend_latch (s : State) (l : List Nat) : (s.spiSend l).latch = s.latch := by
  unfold State.spiSend; dsimp only; split <;> simp
@[simp] theorem State.spiSend_frame (s : State) (l : List Nat) : (s.spiSend l).frame = s.frame := by
  unfold State.spiSend; dsimp only; split <;> simp
@[simp] theorem State.spiSend_gal (s : State) (l : List Nat) : (s.spiSend l).gal = s.gal := by
  unfold State.spiSend; dsimp only; split <;> simp
@[simp] theorem State.spiSend_prog (s : State) (l : List Nat) : (s.spiSend l).prog = s.prog := by
  unfold State.spiSend; dsimp only; split <;> simp
@[simp] theorem State.spiSend_light (s : State) (l : List Nat) : (s.spiSend l).light = s.light := by
  unfold State.spiSend; dsimp only; split <;> simp
@[simp] theorem State.spiSend_net (s : State) (l : List Nat) : (s.spiSend l).net = s.net := by
  unfold State.spiSend; dsimp only; split <;> simp
@[simp] theorem State.spiSend_drv (s : State) (l : List Nat) : (s.spiSend l).drv = s.drv := by
  unfold State.spiSend; dsimp only; split <;> simp
@[simp] theorem State.spiSend_pos (s : State) (l : List Nat) : (s.spiSend l).pos = s.pos := by
  unfold State.spiSend; dsimp only; split <;> simp
@[simp] theorem State.spiSend_fleet (s : State) (l : List Nat) : (s.spiSend l).fleet = s.fleet := by
  unfold State.spiSend; dsimp only; split <;> simp
@[simp] theorem State.spiSend_stp (s : State) (l : List Nat) : (s.spiSend l).stp = s.stp := by
  unfold State.spiSend; dsimp only; split <;> simp
@[simp] theorem State.spiSend_time (s : State) (l : List Nat) : (s.spiSend l).time = s.time := by
  unfold State.spiSend; dsimp only; split <;> simp
@[simp] theorem State.spiSend_rtc (s : State) (l : List Nat) : (s.spiSend l).rtc = s.rtc := by
  unfold State.spiSend; dsimp only; split <;> simp
@[simp] theorem State.spiSend_meter (s : State) (l : List Nat) : (s.spiSend l).meter = s.meter := by
  unfold State.spiSend; dsimp only; split <;> simp
@[simp] theorem State.spiSend_upd (s : State) (l : List Nat) : (s.spiSend l).upd = s.upd := by
  unfold State.spiSend; dsimp only; split <;> simp
@[simp] theorem State.spiSend_keys (s : State) (l : List Nat) : (s.spiSend l).keys = s.keys := by
  unfold State.spiSend; dsimp only; split <;> simp
@[simp] theorem State.spiSend_recs (s : State) (l : List Nat) : (s.spiSend l).recs = s.recs := by
  unfold State.spiSend; dsimp only; split <;> simp
@[simp] theorem State.spiSend_bst (s : State) (l : List Nat) : (s.spiSend l).bst = s.bst := by
  unfold State.spiSend; dsimp only; split <;> simp
@[simp] theorem State.spiSend_mem (s : State) (l : List Nat) : (s.spiSend l).mem = s.mem := by
  unfold State.spiSend; dsimp only; split <;> simp
@[simp] theorem State.spiSend_free (s : State) (l : List Nat) : (s.spiSend l).free = s.free := by
  unfold State.spiSend; dsimp only; split <;> simp
@[simp] theorem State.spiSend_pending (s : State) (l : List Nat) : (s.spiSend l).pending = s.pending := by
  unfold State.spiSend; dsimp only; split <;> simp

@[simp] theorem State.spiSend_get (s : State) (l : List Nat) (h : Fld) : (s.spiSend l).get h = s.get h := by
  simp [State.get]

@[simp] theorem State.hostSend_phase (s : State) (c kind q st : Nat) (body : List Nat) : (s.hostSend c kind q st body).phase = s.phase := by
  unfold State.hostSend; repeat' split
  all_goals simp
@[simp] theorem State.hostSend_mode (s : State) (c kind q st : Nat) (body : List Nat) : (s.hostSend c kind q st body).mode = s.mode := by
  unfold State.hostSend; repeat' split
  all_goals simp
@[simp] theorem State.hostSend_role (s : State) (c kind q st : Nat) (body : List Nat) : (s.hostSend c kind q st body).role = s.role := by
  unfold State.hostSend; repeat' split
  all_goals simp
@[simp] theorem State.hostSend_regs (s : State) (c kind q st : Nat) (body : List Nat) : (s.hostSend c kind q st body).regs = s.regs := by
  unfold State.hostSend; repeat' split
  all_goals simp
@[simp] theorem State.hostSend_latch (s : State) (c kind q st : Nat) (body : List Nat) : (s.hostSend c kind q st body).latch = s.latch := by
  unfold State.hostSend; repeat' split
  all_goals simp
@[simp] theorem State.hostSend_frame (s : State) (c kind q st : Nat) (body : List Nat) : (s.hostSend c kind q st body).frame = s.frame := by
  unfold State.hostSend; repeat' split
  all_goals simp
@[simp] theorem State.hostSend_gal (s : State) (c kind q st : Nat) (body : List Nat) : (s.hostSend c kind q st body).gal = s.gal := by
  unfold State.hostSend; repeat' split
  all_goals simp
@[simp] theorem State.hostSend_prog (s : State) (c kind q st : Nat) (body : List Nat) : (s.hostSend c kind q st body).prog = s.prog := by
  unfold State.hostSend; repeat' split
  all_goals simp
@[simp] theorem State.hostSend_light (s : State) (c kind q st : Nat) (body : List Nat) : (s.hostSend c kind q st body).light = s.light := by
  unfold State.hostSend; repeat' split
  all_goals simp
@[simp] theorem State.hostSend_net (s : State) (c kind q st : Nat) (body : List Nat) : (s.hostSend c kind q st body).net = s.net := by
  unfold State.hostSend; repeat' split
  all_goals simp
@[simp] theorem State.hostSend_drv (s : State) (c kind q st : Nat) (body : List Nat) : (s.hostSend c kind q st body).drv = s.drv := by
  unfold State.hostSend; repeat' split
  all_goals simp
@[simp] theorem State.hostSend_pos (s : State) (c kind q st : Nat) (body : List Nat) : (s.hostSend c kind q st body).pos = s.pos := by
  unfold State.hostSend; repeat' split
  all_goals simp
@[simp] theorem State.hostSend_fleet (s : State) (c kind q st : Nat) (body : List Nat) : (s.hostSend c kind q st body).fleet = s.fleet := by
  unfold State.hostSend; repeat' split
  all_goals simp
@[simp] theorem State.hostSend_stp (s : State) (c kind q st : Nat) (body : List Nat) : (s.hostSend c kind q st body).stp = s.stp := by
  unfold State.hostSend; repeat' split
  all_goals simp
@[simp] theorem State.hostSend_time (s : State) (c kind q st : Nat) (body : List Nat) : (s.hostSend c kind q st body).time = s.time := by
  unfold State.hostSend; repeat' split
  all_goals simp
@[simp] theorem State.hostSend_rtc (s : State) (c kind q st : Nat) (body : List Nat) : (s.hostSend c kind q st body).rtc = s.rtc := by
  unfold State.hostSend; repeat' split
  all_goals simp
@[simp] theorem State.hostSend_meter (s : State) (c kind q st : Nat) (body : List Nat) : (s.hostSend c kind q st body).meter = s.meter := by
  unfold State.hostSend; repeat' split
  all_goals simp
@[simp] theorem State.hostSend_upd (s : State) (c kind q st : Nat) (body : List Nat) : (s.hostSend c kind q st body).upd = s.upd := by
  unfold State.hostSend; repeat' split
  all_goals simp
@[simp] theorem State.hostSend_keys (s : State) (c kind q st : Nat) (body : List Nat) : (s.hostSend c kind q st body).keys = s.keys := by
  unfold State.hostSend; repeat' split
  all_goals simp
@[simp] theorem State.hostSend_recs (s : State) (c kind q st : Nat) (body : List Nat) : (s.hostSend c kind q st body).recs = s.recs := by
  unfold State.hostSend; repeat' split
  all_goals simp
@[simp] theorem State.hostSend_bst (s : State) (c kind q st : Nat) (body : List Nat) : (s.hostSend c kind q st body).bst = s.bst := by
  unfold State.hostSend; repeat' split
  all_goals simp
@[simp] theorem State.hostSend_mem (s : State) (c kind q st : Nat) (body : List Nat) : (s.hostSend c kind q st body).mem = s.mem := by
  unfold State.hostSend; repeat' split
  all_goals simp
@[simp] theorem State.hostSend_free (s : State) (c kind q st : Nat) (body : List Nat) : (s.hostSend c kind q st body).free = s.free := by
  unfold State.hostSend; repeat' split
  all_goals simp
@[simp] theorem State.hostSend_pending (s : State) (c kind q st : Nat) (body : List Nat) : (s.hostSend c kind q st body).pending = s.pending := by
  unfold State.hostSend; repeat' split
  all_goals simp

@[simp] theorem State.hostSend_get (s : State) (c kind q st : Nat) (body : List Nat) (h : Fld) : (s.hostSend c kind q st body).get h = s.get h := by
  simp [State.get]

@[simp] theorem State.hostAnswer_phase (s : State) (c q st : Nat) (body : List Nat) : (s.hostAnswer c q st body).phase = s.phase := by
  unfold State.hostAnswer; repeat' split
  all_goals simp
@[simp] theorem State.hostAnswer_mode (s : State) (c q st : Nat) (body : List Nat) : (s.hostAnswer c q st body).mode = s.mode := by
  unfold State.hostAnswer; repeat' split
  all_goals simp
@[simp] theorem State.hostAnswer_role (s : State) (c q st : Nat) (body : List Nat) : (s.hostAnswer c q st body).role = s.role := by
  unfold State.hostAnswer; repeat' split
  all_goals simp
@[simp] theorem State.hostAnswer_regs (s : State) (c q st : Nat) (body : List Nat) : (s.hostAnswer c q st body).regs = s.regs := by
  unfold State.hostAnswer; repeat' split
  all_goals simp
@[simp] theorem State.hostAnswer_latch (s : State) (c q st : Nat) (body : List Nat) : (s.hostAnswer c q st body).latch = s.latch := by
  unfold State.hostAnswer; repeat' split
  all_goals simp
@[simp] theorem State.hostAnswer_frame (s : State) (c q st : Nat) (body : List Nat) : (s.hostAnswer c q st body).frame = s.frame := by
  unfold State.hostAnswer; repeat' split
  all_goals simp
@[simp] theorem State.hostAnswer_prog (s : State) (c q st : Nat) (body : List Nat) : (s.hostAnswer c q st body).prog = s.prog := by
  unfold State.hostAnswer; repeat' split
  all_goals simp
@[simp] theorem State.hostAnswer_light (s : State) (c q st : Nat) (body : List Nat) : (s.hostAnswer c q st body).light = s.light := by
  unfold State.hostAnswer; repeat' split
  all_goals simp
@[simp] theorem State.hostAnswer_net (s : State) (c q st : Nat) (body : List Nat) : (s.hostAnswer c q st body).net = s.net := by
  unfold State.hostAnswer; repeat' split
  all_goals simp
@[simp] theorem State.hostAnswer_drv (s : State) (c q st : Nat) (body : List Nat) : (s.hostAnswer c q st body).drv = s.drv := by
  unfold State.hostAnswer; repeat' split
  all_goals simp
@[simp] theorem State.hostAnswer_pos (s : State) (c q st : Nat) (body : List Nat) : (s.hostAnswer c q st body).pos = s.pos := by
  unfold State.hostAnswer; repeat' split
  all_goals simp
@[simp] theorem State.hostAnswer_fleet (s : State) (c q st : Nat) (body : List Nat) : (s.hostAnswer c q st body).fleet = s.fleet := by
  unfold State.hostAnswer; repeat' split
  all_goals simp
@[simp] theorem State.hostAnswer_stp (s : State) (c q st : Nat) (body : List Nat) : (s.hostAnswer c q st body).stp = s.stp := by
  unfold State.hostAnswer; repeat' split
  all_goals simp
@[simp] theorem State.hostAnswer_time (s : State) (c q st : Nat) (body : List Nat) : (s.hostAnswer c q st body).time = s.time := by
  unfold State.hostAnswer; repeat' split
  all_goals simp
@[simp] theorem State.hostAnswer_rtc (s : State) (c q st : Nat) (body : List Nat) : (s.hostAnswer c q st body).rtc = s.rtc := by
  unfold State.hostAnswer; repeat' split
  all_goals simp
@[simp] theorem State.hostAnswer_meter (s : State) (c q st : Nat) (body : List Nat) : (s.hostAnswer c q st body).meter = s.meter := by
  unfold State.hostAnswer; repeat' split
  all_goals simp
@[simp] theorem State.hostAnswer_upd (s : State) (c q st : Nat) (body : List Nat) : (s.hostAnswer c q st body).upd = s.upd := by
  unfold State.hostAnswer; repeat' split
  all_goals simp
@[simp] theorem State.hostAnswer_keys (s : State) (c q st : Nat) (body : List Nat) : (s.hostAnswer c q st body).keys = s.keys := by
  unfold State.hostAnswer; repeat' split
  all_goals simp
@[simp] theorem State.hostAnswer_recs (s : State) (c q st : Nat) (body : List Nat) : (s.hostAnswer c q st body).recs = s.recs := by
  unfold State.hostAnswer; repeat' split
  all_goals simp
@[simp] theorem State.hostAnswer_bst (s : State) (c q st : Nat) (body : List Nat) : (s.hostAnswer c q st body).bst = s.bst := by
  unfold State.hostAnswer; repeat' split
  all_goals simp
@[simp] theorem State.hostAnswer_mem (s : State) (c q st : Nat) (body : List Nat) : (s.hostAnswer c q st body).mem = s.mem := by
  unfold State.hostAnswer; repeat' split
  all_goals simp
@[simp] theorem State.hostAnswer_free (s : State) (c q st : Nat) (body : List Nat) : (s.hostAnswer c q st body).free = s.free := by
  unfold State.hostAnswer; repeat' split
  all_goals simp
@[simp] theorem State.hostAnswer_pending (s : State) (c q st : Nat) (body : List Nat) : (s.hostAnswer c q st body).pending = s.pending := by
  unfold State.hostAnswer; repeat' split
  all_goals simp

@[simp] theorem State.hostAnswer_get (s : State) (c q st : Nat) (body : List Nat) (h : Fld) : (s.hostAnswer c q st body).get h = s.get h := by
  simp [State.get]

@[simp] theorem State.sessionDone_phase (s : State) (c q st : Nat) (body : List Nat) : (s.sessionDone c q st body).phase = s.phase := by
  unfold State.sessionDone; repeat' split
  all_goals first | rfl | (dsimp only; repeat' split) <;> simp
@[simp] theorem State.sessionDone_mode (s : State) (c q st : Nat) (body : List Nat) : (s.sessionDone c q st body).mode = s.mode := by
  unfold State.sessionDone; repeat' split
  all_goals first | rfl | (dsimp only; repeat' split) <;> simp
@[simp] theorem State.sessionDone_role (s : State) (c q st : Nat) (body : List Nat) : (s.sessionDone c q st body).role = s.role := by
  unfold State.sessionDone; repeat' split
  all_goals first | rfl | (dsimp only; repeat' split) <;> simp
@[simp] theorem State.sessionDone_regs (s : State) (c q st : Nat) (body : List Nat) : (s.sessionDone c q st body).regs = s.regs := by
  unfold State.sessionDone; repeat' split
  all_goals first | rfl | (dsimp only; repeat' split) <;> simp
@[simp] theorem State.sessionDone_latch (s : State) (c q st : Nat) (body : List Nat) : (s.sessionDone c q st body).latch = s.latch := by
  unfold State.sessionDone; repeat' split
  all_goals first | rfl | (dsimp only; repeat' split) <;> simp
@[simp] theorem State.sessionDone_frame (s : State) (c q st : Nat) (body : List Nat) : (s.sessionDone c q st body).frame = s.frame := by
  unfold State.sessionDone; repeat' split
  all_goals first | rfl | (dsimp only; repeat' split) <;> simp
@[simp] theorem State.sessionDone_prog (s : State) (c q st : Nat) (body : List Nat) : (s.sessionDone c q st body).prog = s.prog := by
  unfold State.sessionDone; repeat' split
  all_goals first | rfl | (dsimp only; repeat' split) <;> simp
@[simp] theorem State.sessionDone_light (s : State) (c q st : Nat) (body : List Nat) : (s.sessionDone c q st body).light = s.light := by
  unfold State.sessionDone; repeat' split
  all_goals first | rfl | (dsimp only; repeat' split) <;> simp
@[simp] theorem State.sessionDone_net (s : State) (c q st : Nat) (body : List Nat) : (s.sessionDone c q st body).net = s.net := by
  unfold State.sessionDone; repeat' split
  all_goals first | rfl | (dsimp only; repeat' split) <;> simp
@[simp] theorem State.sessionDone_drv (s : State) (c q st : Nat) (body : List Nat) : (s.sessionDone c q st body).drv = s.drv := by
  unfold State.sessionDone; repeat' split
  all_goals first | rfl | (dsimp only; repeat' split) <;> simp
@[simp] theorem State.sessionDone_pos (s : State) (c q st : Nat) (body : List Nat) : (s.sessionDone c q st body).pos = s.pos := by
  unfold State.sessionDone; repeat' split
  all_goals first | rfl | (dsimp only; repeat' split) <;> simp
@[simp] theorem State.sessionDone_fleet (s : State) (c q st : Nat) (body : List Nat) : (s.sessionDone c q st body).fleet = s.fleet := by
  unfold State.sessionDone; repeat' split
  all_goals first | rfl | (dsimp only; repeat' split) <;> simp
@[simp] theorem State.sessionDone_stp (s : State) (c q st : Nat) (body : List Nat) : (s.sessionDone c q st body).stp = s.stp := by
  unfold State.sessionDone; repeat' split
  all_goals first | rfl | (dsimp only; repeat' split) <;> simp
@[simp] theorem State.sessionDone_time (s : State) (c q st : Nat) (body : List Nat) : (s.sessionDone c q st body).time = s.time := by
  unfold State.sessionDone; repeat' split
  all_goals first | rfl | (dsimp only; repeat' split) <;> simp
@[simp] theorem State.sessionDone_rtc (s : State) (c q st : Nat) (body : List Nat) : (s.sessionDone c q st body).rtc = s.rtc := by
  unfold State.sessionDone; repeat' split
  all_goals first | rfl | (dsimp only; repeat' split) <;> simp
@[simp] theorem State.sessionDone_meter (s : State) (c q st : Nat) (body : List Nat) : (s.sessionDone c q st body).meter = s.meter := by
  unfold State.sessionDone; repeat' split
  all_goals first | rfl | (dsimp only; repeat' split) <;> simp
@[simp] theorem State.sessionDone_upd (s : State) (c q st : Nat) (body : List Nat) : (s.sessionDone c q st body).upd = s.upd := by
  unfold State.sessionDone; repeat' split
  all_goals first | rfl | (dsimp only; repeat' split) <;> simp
@[simp] theorem State.sessionDone_keys (s : State) (c q st : Nat) (body : List Nat) : (s.sessionDone c q st body).keys = s.keys := by
  unfold State.sessionDone; repeat' split
  all_goals first | rfl | (dsimp only; repeat' split) <;> simp
@[simp] theorem State.sessionDone_recs (s : State) (c q st : Nat) (body : List Nat) : (s.sessionDone c q st body).recs = s.recs := by
  unfold State.sessionDone; repeat' split
  all_goals first | rfl | (dsimp only; repeat' split) <;> simp
@[simp] theorem State.sessionDone_bst (s : State) (c q st : Nat) (body : List Nat) : (s.sessionDone c q st body).bst = s.bst := by
  unfold State.sessionDone; repeat' split
  all_goals first | rfl | (dsimp only; repeat' split) <;> simp
@[simp] theorem State.sessionDone_mem (s : State) (c q st : Nat) (body : List Nat) : (s.sessionDone c q st body).mem = s.mem := by
  unfold State.sessionDone; repeat' split
  all_goals first | rfl | (dsimp only; repeat' split) <;> simp
@[simp] theorem State.sessionDone_free (s : State) (c q st : Nat) (body : List Nat) : (s.sessionDone c q st body).free = s.free := by
  unfold State.sessionDone; repeat' split
  all_goals first | rfl | (dsimp only; repeat' split) <;> simp
@[simp] theorem State.sessionDone_pending (s : State) (c q st : Nat) (body : List Nat) : (s.sessionDone c q st body).pending = s.pending := by
  unfold State.sessionDone; repeat' split
  all_goals first | rfl | (dsimp only; repeat' split) <;> simp

@[simp] theorem State.sessionDone_get (s : State) (c q st : Nat) (body : List Nat) (h : Fld) :
    (s.sessionDone c q st body).get h = s.get h := by
  simp [State.get]

@[simp] theorem State.finish_phase (s : State) (o : Origin) (st : Nat) (r : List Nat) : (s.finish o st r).phase = s.phase := by
  cases o with
  | quiet => rfl
  | command a =>
    simp only [State.finish]
    refine (foldl_keeps (fun s => State.phase s) _ ?_ _ _).trans (by simp)
    intro a b; simp
  | program k j n => simp [State.finish]
  | host c q =>
    simp [State.finish]
@[simp] theorem State.finish_mode (s : State) (o : Origin) (st : Nat) (r : List Nat) : (s.finish o st r).mode = s.mode := by
  cases o with
  | quiet => rfl
  | command a =>
    simp only [State.finish]
    refine (foldl_keeps (fun s => State.mode s) _ ?_ _ _).trans (by simp)
    intro a b; simp
  | program k j n => simp [State.finish]
  | host c q =>
    simp [State.finish]
@[simp] theorem State.finish_role (s : State) (o : Origin) (st : Nat) (r : List Nat) : (s.finish o st r).role = s.role := by
  cases o with
  | quiet => rfl
  | command a =>
    simp only [State.finish]
    refine (foldl_keeps (fun s => State.role s) _ ?_ _ _).trans (by simp)
    intro a b; simp
  | program k j n => simp [State.finish]
  | host c q =>
    simp [State.finish]
@[simp] theorem State.finish_latch (s : State) (o : Origin) (st : Nat) (r : List Nat) : (s.finish o st r).latch = s.latch := by
  cases o with
  | quiet => rfl
  | command a =>
    simp only [State.finish]
    refine (foldl_keeps (fun s => State.latch s) _ ?_ _ _).trans (by simp)
    intro a b; simp
  | program k j n => simp [State.finish]
  | host c q =>
    simp [State.finish]
@[simp] theorem State.finish_frame (s : State) (o : Origin) (st : Nat) (r : List Nat) : (s.finish o st r).frame = s.frame := by
  cases o with
  | quiet => rfl
  | command a =>
    simp only [State.finish]
    refine (foldl_keeps (fun s => State.frame s) _ ?_ _ _).trans (by simp)
    intro a b; simp
  | program k j n => simp [State.finish]
  | host c q =>
    simp [State.finish]
@[simp] theorem State.finish_light (s : State) (o : Origin) (st : Nat) (r : List Nat) : (s.finish o st r).light = s.light := by
  cases o with
  | quiet => rfl
  | command a =>
    simp only [State.finish]
    refine (foldl_keeps (fun s => State.light s) _ ?_ _ _).trans (by simp)
    intro a b; simp
  | program k j n => simp [State.finish]
  | host c q =>
    simp [State.finish]
@[simp] theorem State.finish_net (s : State) (o : Origin) (st : Nat) (r : List Nat) : (s.finish o st r).net = s.net := by
  cases o with
  | quiet => rfl
  | command a =>
    simp only [State.finish]
    refine (foldl_keeps (fun s => State.net s) _ ?_ _ _).trans (by simp)
    intro a b; simp
  | program k j n => simp [State.finish]
  | host c q =>
    simp [State.finish]
@[simp] theorem State.finish_drv (s : State) (o : Origin) (st : Nat) (r : List Nat) : (s.finish o st r).drv = s.drv := by
  cases o with
  | quiet => rfl
  | command a =>
    simp only [State.finish]
    refine (foldl_keeps (fun s => State.drv s) _ ?_ _ _).trans (by simp)
    intro a b; simp
  | program k j n => simp [State.finish]
  | host c q =>
    simp [State.finish]
@[simp] theorem State.finish_pos (s : State) (o : Origin) (st : Nat) (r : List Nat) : (s.finish o st r).pos = s.pos := by
  cases o with
  | quiet => rfl
  | command a =>
    simp only [State.finish]
    refine (foldl_keeps (fun s => State.pos s) _ ?_ _ _).trans (by simp)
    intro a b; simp
  | program k j n => simp [State.finish]
  | host c q =>
    simp [State.finish]
@[simp] theorem State.finish_fleet (s : State) (o : Origin) (st : Nat) (r : List Nat) : (s.finish o st r).fleet = s.fleet := by
  cases o with
  | quiet => rfl
  | command a =>
    simp only [State.finish]
    refine (foldl_keeps (fun s => State.fleet s) _ ?_ _ _).trans (by simp)
    intro a b; simp
  | program k j n => simp [State.finish]
  | host c q =>
    simp [State.finish]
@[simp] theorem State.finish_stp (s : State) (o : Origin) (st : Nat) (r : List Nat) : (s.finish o st r).stp = s.stp := by
  cases o with
  | quiet => rfl
  | command a =>
    simp only [State.finish]
    refine (foldl_keeps (fun s => State.stp s) _ ?_ _ _).trans (by simp)
    intro a b; simp
  | program k j n => simp [State.finish]
  | host c q =>
    simp [State.finish]
@[simp] theorem State.finish_time (s : State) (o : Origin) (st : Nat) (r : List Nat) : (s.finish o st r).time = s.time := by
  cases o with
  | quiet => rfl
  | command a =>
    simp only [State.finish]
    refine (foldl_keeps (fun s => State.time s) _ ?_ _ _).trans (by simp)
    intro a b; simp
  | program k j n => simp [State.finish]
  | host c q =>
    simp [State.finish]
@[simp] theorem State.finish_rtc (s : State) (o : Origin) (st : Nat) (r : List Nat) : (s.finish o st r).rtc = s.rtc := by
  cases o with
  | quiet => rfl
  | command a =>
    simp only [State.finish]
    refine (foldl_keeps (fun s => State.rtc s) _ ?_ _ _).trans (by simp)
    intro a b; simp
  | program k j n => simp [State.finish]
  | host c q =>
    simp [State.finish]
@[simp] theorem State.finish_meter (s : State) (o : Origin) (st : Nat) (r : List Nat) : (s.finish o st r).meter = s.meter := by
  cases o with
  | quiet => rfl
  | command a =>
    simp only [State.finish]
    refine (foldl_keeps (fun s => State.meter s) _ ?_ _ _).trans (by simp)
    intro a b; simp
  | program k j n => simp [State.finish]
  | host c q =>
    simp [State.finish]
@[simp] theorem State.finish_upd (s : State) (o : Origin) (st : Nat) (r : List Nat) : (s.finish o st r).upd = s.upd := by
  cases o with
  | quiet => rfl
  | command a =>
    simp only [State.finish]
    refine (foldl_keeps (fun s => State.upd s) _ ?_ _ _).trans (by simp)
    intro a b; simp
  | program k j n => simp [State.finish]
  | host c q =>
    simp [State.finish]
@[simp] theorem State.finish_keys (s : State) (o : Origin) (st : Nat) (r : List Nat) : (s.finish o st r).keys = s.keys := by
  cases o with
  | quiet => rfl
  | command a =>
    simp only [State.finish]
    refine (foldl_keeps (fun s => State.keys s) _ ?_ _ _).trans (by simp)
    intro a b; simp
  | program k j n => simp [State.finish]
  | host c q =>
    simp [State.finish]
@[simp] theorem State.finish_recs (s : State) (o : Origin) (st : Nat) (r : List Nat) : (s.finish o st r).recs = s.recs := by
  cases o with
  | quiet => rfl
  | command a =>
    simp only [State.finish]
    refine (foldl_keeps (fun s => State.recs s) _ ?_ _ _).trans (by simp)
    intro a b; simp
  | program k j n => simp [State.finish]
  | host c q =>
    simp [State.finish]
@[simp] theorem State.finish_bst (s : State) (o : Origin) (st : Nat) (r : List Nat) : (s.finish o st r).bst = s.bst := by
  cases o with
  | quiet => rfl
  | command a =>
    simp only [State.finish]
    refine (foldl_keeps (fun s => State.bst s) _ ?_ _ _).trans (by simp)
    intro a b; simp
  | program k j n => simp [State.finish]
  | host c q =>
    simp [State.finish]
@[simp] theorem State.finish_mem (s : State) (o : Origin) (st : Nat) (r : List Nat) : (s.finish o st r).mem = s.mem := by
  cases o with
  | quiet => rfl
  | command a =>
    simp only [State.finish]
    refine (foldl_keeps (fun s => State.mem s) _ ?_ _ _).trans (by simp)
    intro a b; simp
  | program k j n => simp [State.finish]
  | host c q =>
    simp [State.finish]
@[simp] theorem State.finish_free (s : State) (o : Origin) (st : Nat) (r : List Nat) : (s.finish o st r).free = s.free := by
  cases o with
  | quiet => rfl
  | command a =>
    simp only [State.finish]
    refine (foldl_keeps (fun s => State.free s) _ ?_ _ _).trans (by simp)
    intro a b; simp
  | program k j n => simp [State.finish]
  | host c q =>
    simp [State.finish]
@[simp] theorem State.finish_pending (s : State) (o : Origin) (st : Nat) (r : List Nat) : (s.finish o st r).pending = s.pending := by
  cases o with
  | quiet => rfl
  | command a =>
    simp only [State.finish]
    refine (foldl_keeps (fun s => State.pending s) _ ?_ _ _).trans (by simp)
    intro a b; simp
  | program k j n => simp [State.finish]
  | host c q =>
    simp [State.finish]

@[simp] theorem State.answer_phase (s : State) (o : Origin) (st : Nat) (r : List Nat) : (s.answer o st r).phase = s.phase := by
  unfold State.answer; repeat' split
  all_goals simp
@[simp] theorem State.answer_mode (s : State) (o : Origin) (st : Nat) (r : List Nat) : (s.answer o st r).mode = s.mode := by
  unfold State.answer; repeat' split
  all_goals simp
@[simp] theorem State.answer_role (s : State) (o : Origin) (st : Nat) (r : List Nat) : (s.answer o st r).role = s.role := by
  unfold State.answer; repeat' split
  all_goals simp
@[simp] theorem State.answer_latch (s : State) (o : Origin) (st : Nat) (r : List Nat) : (s.answer o st r).latch = s.latch := by
  unfold State.answer; repeat' split
  all_goals simp
@[simp] theorem State.answer_frame (s : State) (o : Origin) (st : Nat) (r : List Nat) : (s.answer o st r).frame = s.frame := by
  unfold State.answer; repeat' split
  all_goals simp
@[simp] theorem State.answer_light (s : State) (o : Origin) (st : Nat) (r : List Nat) : (s.answer o st r).light = s.light := by
  unfold State.answer; repeat' split
  all_goals simp
@[simp] theorem State.answer_net (s : State) (o : Origin) (st : Nat) (r : List Nat) : (s.answer o st r).net = s.net := by
  unfold State.answer; repeat' split
  all_goals simp
@[simp] theorem State.answer_drv (s : State) (o : Origin) (st : Nat) (r : List Nat) : (s.answer o st r).drv = s.drv := by
  unfold State.answer; repeat' split
  all_goals simp
@[simp] theorem State.answer_pos (s : State) (o : Origin) (st : Nat) (r : List Nat) : (s.answer o st r).pos = s.pos := by
  unfold State.answer; repeat' split
  all_goals simp
@[simp] theorem State.answer_fleet (s : State) (o : Origin) (st : Nat) (r : List Nat) : (s.answer o st r).fleet = s.fleet := by
  unfold State.answer; repeat' split
  all_goals simp
@[simp] theorem State.answer_stp (s : State) (o : Origin) (st : Nat) (r : List Nat) : (s.answer o st r).stp = s.stp := by
  unfold State.answer; repeat' split
  all_goals simp
@[simp] theorem State.answer_time (s : State) (o : Origin) (st : Nat) (r : List Nat) : (s.answer o st r).time = s.time := by
  unfold State.answer; repeat' split
  all_goals simp
@[simp] theorem State.answer_rtc (s : State) (o : Origin) (st : Nat) (r : List Nat) : (s.answer o st r).rtc = s.rtc := by
  unfold State.answer; repeat' split
  all_goals simp
@[simp] theorem State.answer_meter (s : State) (o : Origin) (st : Nat) (r : List Nat) : (s.answer o st r).meter = s.meter := by
  unfold State.answer; repeat' split
  all_goals simp
@[simp] theorem State.answer_upd (s : State) (o : Origin) (st : Nat) (r : List Nat) : (s.answer o st r).upd = s.upd := by
  unfold State.answer; repeat' split
  all_goals simp
@[simp] theorem State.answer_keys (s : State) (o : Origin) (st : Nat) (r : List Nat) : (s.answer o st r).keys = s.keys := by
  unfold State.answer; repeat' split
  all_goals simp
@[simp] theorem State.answer_recs (s : State) (o : Origin) (st : Nat) (r : List Nat) : (s.answer o st r).recs = s.recs := by
  unfold State.answer; repeat' split
  all_goals simp
@[simp] theorem State.answer_bst (s : State) (o : Origin) (st : Nat) (r : List Nat) : (s.answer o st r).bst = s.bst := by
  unfold State.answer; repeat' split
  all_goals simp
@[simp] theorem State.answer_mem (s : State) (o : Origin) (st : Nat) (r : List Nat) : (s.answer o st r).mem = s.mem := by
  unfold State.answer; repeat' split
  all_goals simp
@[simp] theorem State.answer_free (s : State) (o : Origin) (st : Nat) (r : List Nat) : (s.answer o st r).free = s.free := by
  unfold State.answer; repeat' split
  all_goals simp
@[simp] theorem State.answer_pending (s : State) (o : Origin) (st : Nat) (r : List Nat) : (s.answer o st r).pending = s.pending := by
  unfold State.answer; repeat' split
  all_goals simp

@[simp] theorem State.finishAll_phase (s : State) (l : List Origin) (st : Nat) : (s.finishAll l st).phase = s.phase := by
  simp only [State.finishAll]; exact foldl_keeps (fun s => State.phase s) _ (by intros; simp) _ _
@[simp] theorem State.finishAll_mode (s : State) (l : List Origin) (st : Nat) : (s.finishAll l st).mode = s.mode := by
  simp only [State.finishAll]; exact foldl_keeps (fun s => State.mode s) _ (by intros; simp) _ _
@[simp] theorem State.finishAll_role (s : State) (l : List Origin) (st : Nat) : (s.finishAll l st).role = s.role := by
  simp only [State.finishAll]; exact foldl_keeps (fun s => State.role s) _ (by intros; simp) _ _
@[simp] theorem State.finishAll_latch (s : State) (l : List Origin) (st : Nat) : (s.finishAll l st).latch = s.latch := by
  simp only [State.finishAll]; exact foldl_keeps (fun s => State.latch s) _ (by intros; simp) _ _
@[simp] theorem State.finishAll_frame (s : State) (l : List Origin) (st : Nat) : (s.finishAll l st).frame = s.frame := by
  simp only [State.finishAll]; exact foldl_keeps (fun s => State.frame s) _ (by intros; simp) _ _
@[simp] theorem State.finishAll_light (s : State) (l : List Origin) (st : Nat) : (s.finishAll l st).light = s.light := by
  simp only [State.finishAll]; exact foldl_keeps (fun s => State.light s) _ (by intros; simp) _ _
@[simp] theorem State.finishAll_net (s : State) (l : List Origin) (st : Nat) : (s.finishAll l st).net = s.net := by
  simp only [State.finishAll]; exact foldl_keeps (fun s => State.net s) _ (by intros; simp) _ _
@[simp] theorem State.finishAll_drv (s : State) (l : List Origin) (st : Nat) : (s.finishAll l st).drv = s.drv := by
  simp only [State.finishAll]; exact foldl_keeps (fun s => State.drv s) _ (by intros; simp) _ _
@[simp] theorem State.finishAll_pos (s : State) (l : List Origin) (st : Nat) : (s.finishAll l st).pos = s.pos := by
  simp only [State.finishAll]; exact foldl_keeps (fun s => State.pos s) _ (by intros; simp) _ _
@[simp] theorem State.finishAll_fleet (s : State) (l : List Origin) (st : Nat) : (s.finishAll l st).fleet = s.fleet := by
  simp only [State.finishAll]; exact foldl_keeps (fun s => State.fleet s) _ (by intros; simp) _ _
@[simp] theorem State.finishAll_stp (s : State) (l : List Origin) (st : Nat) : (s.finishAll l st).stp = s.stp := by
  simp only [State.finishAll]; exact foldl_keeps (fun s => State.stp s) _ (by intros; simp) _ _
@[simp] theorem State.finishAll_time (s : State) (l : List Origin) (st : Nat) : (s.finishAll l st).time = s.time := by
  simp only [State.finishAll]; exact foldl_keeps (fun s => State.time s) _ (by intros; simp) _ _
@[simp] theorem State.finishAll_rtc (s : State) (l : List Origin) (st : Nat) : (s.finishAll l st).rtc = s.rtc := by
  simp only [State.finishAll]; exact foldl_keeps (fun s => State.rtc s) _ (by intros; simp) _ _
@[simp] theorem State.finishAll_meter (s : State) (l : List Origin) (st : Nat) : (s.finishAll l st).meter = s.meter := by
  simp only [State.finishAll]; exact foldl_keeps (fun s => State.meter s) _ (by intros; simp) _ _
@[simp] theorem State.finishAll_upd (s : State) (l : List Origin) (st : Nat) : (s.finishAll l st).upd = s.upd := by
  simp only [State.finishAll]; exact foldl_keeps (fun s => State.upd s) _ (by intros; simp) _ _
@[simp] theorem State.finishAll_keys (s : State) (l : List Origin) (st : Nat) : (s.finishAll l st).keys = s.keys := by
  simp only [State.finishAll]; exact foldl_keeps (fun s => State.keys s) _ (by intros; simp) _ _
@[simp] theorem State.finishAll_recs (s : State) (l : List Origin) (st : Nat) : (s.finishAll l st).recs = s.recs := by
  simp only [State.finishAll]; exact foldl_keeps (fun s => State.recs s) _ (by intros; simp) _ _
@[simp] theorem State.finishAll_bst (s : State) (l : List Origin) (st : Nat) : (s.finishAll l st).bst = s.bst := by
  simp only [State.finishAll]; exact foldl_keeps (fun s => State.bst s) _ (by intros; simp) _ _
@[simp] theorem State.finishAll_mem (s : State) (l : List Origin) (st : Nat) : (s.finishAll l st).mem = s.mem := by
  simp only [State.finishAll]; exact foldl_keeps (fun s => State.mem s) _ (by intros; simp) _ _
@[simp] theorem State.finishAll_free (s : State) (l : List Origin) (st : Nat) : (s.finishAll l st).free = s.free := by
  simp only [State.finishAll]; exact foldl_keeps (fun s => State.free s) _ (by intros; simp) _ _
@[simp] theorem State.finishAll_pending (s : State) (l : List Origin) (st : Nat) : (s.finishAll l st).pending = s.pending := by
  simp only [State.finishAll]; exact foldl_keeps (fun s => State.pending s) _ (by intros; simp) _ _

/-- A final status reaches the command-status registers alone. -/
theorem State.cmdFinal_get (s : State) (a st : Nat) (f : Fld) (h : ∀ b ∈ cmdStats, f.key ≠ b * 32) :
    (s.cmdFinal a st).get f = s.get f := by
  unfold State.cmdFinal
  split
  · rename_i hc
    have hk := h a (by simpa using hc)
    simp only [State.get]
    rw [SMap.get?_put_ne _ _ _ _ _ hk]
  · rfl
theorem State.finish_get (s : State) (o : Origin) (st : Nat) (r : List Nat) (f : Fld) (h : ∀ b ∈ cmdStats, f.key ≠ b * 32) :
    (s.finish o st r).get f = s.get f := by
  cases o with
  | quiet => rfl
  | command a =>
    simp only [State.finish]
    refine (foldl_keeps (fun s => State.get s f) _ ?_ _ _).trans (State.cmdFinal_get s a st f h)
    intro t b; exact State.sessionDone_get _ _ _ _ _ _
  | program k j n => rfl
  | host c q =>
    exact State.sessionDone_get _ _ _ _ _ _
theorem State.finishAll_get (s : State) (l : List Origin) (st : Nat) (f : Fld) (h : ∀ b ∈ cmdStats, f.key ≠ b * 32) :
    (s.finishAll l st).get f = s.get f := by
  simp only [State.finishAll]; exact foldl_keeps (fun s => State.get s f) _ (fun a o => State.finish_get a o st [] f h) _ _

@[simp] theorem State.recordWrite_phase (s : State) (b : Bool) : (s.recordWrite b).phase = s.phase := by
  simp only [State.recordWrite]; repeat' split
  all_goals simp
@[simp] theorem State.recordWrite_mode (s : State) (b : Bool) : (s.recordWrite b).mode = s.mode := by
  simp only [State.recordWrite]; repeat' split
  all_goals simp
@[simp] theorem State.recordWrite_role (s : State) (b : Bool) : (s.recordWrite b).role = s.role := by
  simp only [State.recordWrite]; repeat' split
  all_goals simp
@[simp] theorem State.recordWrite_latch (s : State) (b : Bool) : (s.recordWrite b).latch = s.latch := by
  simp only [State.recordWrite]; repeat' split
  all_goals simp
@[simp] theorem State.recordWrite_frame (s : State) (b : Bool) : (s.recordWrite b).frame = s.frame := by
  simp only [State.recordWrite]; repeat' split
  all_goals simp
@[simp] theorem State.recordWrite_gal (s : State) (b : Bool) : (s.recordWrite b).gal = s.gal := by
  simp only [State.recordWrite]; repeat' split
  all_goals simp
@[simp] theorem State.recordWrite_prog (s : State) (b : Bool) : (s.recordWrite b).prog = s.prog := by
  simp only [State.recordWrite]; repeat' split
  all_goals simp
@[simp] theorem State.recordWrite_light (s : State) (b : Bool) : (s.recordWrite b).light = s.light := by
  simp only [State.recordWrite]; repeat' split
  all_goals simp
@[simp] theorem State.recordWrite_net (s : State) (b : Bool) : (s.recordWrite b).net = s.net := by
  simp only [State.recordWrite]; repeat' split
  all_goals simp
@[simp] theorem State.recordWrite_drv (s : State) (b : Bool) : (s.recordWrite b).drv = s.drv := by
  simp only [State.recordWrite]; repeat' split
  all_goals simp
@[simp] theorem State.recordWrite_pos (s : State) (b : Bool) : (s.recordWrite b).pos = s.pos := by
  simp only [State.recordWrite]; repeat' split
  all_goals simp
@[simp] theorem State.recordWrite_fleet (s : State) (b : Bool) : (s.recordWrite b).fleet = s.fleet := by
  simp only [State.recordWrite]; repeat' split
  all_goals simp
@[simp] theorem State.recordWrite_stp (s : State) (b : Bool) : (s.recordWrite b).stp = s.stp := by
  simp only [State.recordWrite]; repeat' split
  all_goals simp
@[simp] theorem State.recordWrite_time (s : State) (b : Bool) : (s.recordWrite b).time = s.time := by
  simp only [State.recordWrite]; repeat' split
  all_goals simp
@[simp] theorem State.recordWrite_rtc (s : State) (b : Bool) : (s.recordWrite b).rtc = s.rtc := by
  simp only [State.recordWrite]; repeat' split
  all_goals simp
@[simp] theorem State.recordWrite_meter (s : State) (b : Bool) : (s.recordWrite b).meter = s.meter := by
  simp only [State.recordWrite]; repeat' split
  all_goals simp
@[simp] theorem State.recordWrite_wired (s : State) (b : Bool) : (s.recordWrite b).wired = s.wired := by
  simp only [State.recordWrite]; repeat' split
  all_goals simp
@[simp] theorem State.recordWrite_spl (s : State) (b : Bool) : (s.recordWrite b).spl = s.spl := by
  simp only [State.recordWrite]; repeat' split
  all_goals simp
@[simp] theorem State.recordWrite_upd (s : State) (b : Bool) : (s.recordWrite b).upd = s.upd := by
  simp only [State.recordWrite]; repeat' split
  all_goals simp
@[simp] theorem State.recordWrite_keys (s : State) (b : Bool) : (s.recordWrite b).keys = s.keys := by
  simp only [State.recordWrite]; repeat' split
  all_goals simp
@[simp] theorem State.recordWrite_bst (s : State) (b : Bool) : (s.recordWrite b).bst = s.bst := by
  simp only [State.recordWrite]; repeat' split
  all_goals simp
@[simp] theorem State.recordWrite_mem (s : State) (b : Bool) : (s.recordWrite b).mem = s.mem := by
  simp only [State.recordWrite]; repeat' split
  all_goals simp
@[simp] theorem State.recordWrite_free (s : State) (b : Bool) : (s.recordWrite b).free = s.free := by
  simp only [State.recordWrite]; repeat' split
  all_goals simp
@[simp] theorem State.recordWrite_out (s : State) (b : Bool) : (s.recordWrite b).out = s.out := by
  simp only [State.recordWrite]; repeat' split
  all_goals simp
@[simp] theorem State.recordWrite_pending (s : State) (b : Bool) : (s.recordWrite b).pending = s.pending := by
  simp only [State.recordWrite]; repeat' split
  all_goals simp

@[simp] theorem State.drainLog_phase (s : State) : s.drainLog.phase = s.phase := by
  simp only [State.drainLog]; exact iter_keeps (fun s => State.phase s) _ (by intros; simp) _ _
@[simp] theorem State.drainLog_mode (s : State) : s.drainLog.mode = s.mode := by
  simp only [State.drainLog]; exact iter_keeps (fun s => State.mode s) _ (by intros; simp) _ _
@[simp] theorem State.drainLog_role (s : State) : s.drainLog.role = s.role := by
  simp only [State.drainLog]; exact iter_keeps (fun s => State.role s) _ (by intros; simp) _ _
@[simp] theorem State.drainLog_latch (s : State) : s.drainLog.latch = s.latch := by
  simp only [State.drainLog]; exact iter_keeps (fun s => State.latch s) _ (by intros; simp) _ _
@[simp] theorem State.drainLog_frame (s : State) : s.drainLog.frame = s.frame := by
  simp only [State.drainLog]; exact iter_keeps (fun s => State.frame s) _ (by intros; simp) _ _
@[simp] theorem State.drainLog_gal (s : State) : s.drainLog.gal = s.gal := by
  simp only [State.drainLog]; exact iter_keeps (fun s => State.gal s) _ (by intros; simp) _ _
@[simp] theorem State.drainLog_prog (s : State) : s.drainLog.prog = s.prog := by
  simp only [State.drainLog]; exact iter_keeps (fun s => State.prog s) _ (by intros; simp) _ _
@[simp] theorem State.drainLog_light (s : State) : s.drainLog.light = s.light := by
  simp only [State.drainLog]; exact iter_keeps (fun s => State.light s) _ (by intros; simp) _ _
@[simp] theorem State.drainLog_net (s : State) : s.drainLog.net = s.net := by
  simp only [State.drainLog]; exact iter_keeps (fun s => State.net s) _ (by intros; simp) _ _
@[simp] theorem State.drainLog_drv (s : State) : s.drainLog.drv = s.drv := by
  simp only [State.drainLog]; exact iter_keeps (fun s => State.drv s) _ (by intros; simp) _ _
@[simp] theorem State.drainLog_pos (s : State) : s.drainLog.pos = s.pos := by
  simp only [State.drainLog]; exact iter_keeps (fun s => State.pos s) _ (by intros; simp) _ _
@[simp] theorem State.drainLog_fleet (s : State) : s.drainLog.fleet = s.fleet := by
  simp only [State.drainLog]; exact iter_keeps (fun s => State.fleet s) _ (by intros; simp) _ _
@[simp] theorem State.drainLog_stp (s : State) : s.drainLog.stp = s.stp := by
  simp only [State.drainLog]; exact iter_keeps (fun s => State.stp s) _ (by intros; simp) _ _
@[simp] theorem State.drainLog_time (s : State) : s.drainLog.time = s.time := by
  simp only [State.drainLog]; exact iter_keeps (fun s => State.time s) _ (by intros; simp) _ _
@[simp] theorem State.drainLog_rtc (s : State) : s.drainLog.rtc = s.rtc := by
  simp only [State.drainLog]; exact iter_keeps (fun s => State.rtc s) _ (by intros; simp) _ _
@[simp] theorem State.drainLog_meter (s : State) : s.drainLog.meter = s.meter := by
  simp only [State.drainLog]; exact iter_keeps (fun s => State.meter s) _ (by intros; simp) _ _
@[simp] theorem State.drainLog_wired (s : State) : s.drainLog.wired = s.wired := by
  simp only [State.drainLog]; exact iter_keeps (fun s => State.wired s) _ (by intros; simp) _ _
@[simp] theorem State.drainLog_spl (s : State) : s.drainLog.spl = s.spl := by
  simp only [State.drainLog]; exact iter_keeps (fun s => State.spl s) _ (by intros; simp) _ _
@[simp] theorem State.drainLog_upd (s : State) : s.drainLog.upd = s.upd := by
  simp only [State.drainLog]; exact iter_keeps (fun s => State.upd s) _ (by intros; simp) _ _
@[simp] theorem State.drainLog_keys (s : State) : s.drainLog.keys = s.keys := by
  simp only [State.drainLog]; exact iter_keeps (fun s => State.keys s) _ (by intros; simp) _ _
@[simp] theorem State.drainLog_bst (s : State) : s.drainLog.bst = s.bst := by
  simp only [State.drainLog]; exact iter_keeps (fun s => State.bst s) _ (by intros; simp) _ _
@[simp] theorem State.drainLog_mem (s : State) : s.drainLog.mem = s.mem := by
  simp only [State.drainLog]; exact iter_keeps (fun s => State.mem s) _ (by intros; simp) _ _
@[simp] theorem State.drainLog_free (s : State) : s.drainLog.free = s.free := by
  simp only [State.drainLog]; exact iter_keeps (fun s => State.free s) _ (by intros; simp) _ _
@[simp] theorem State.drainLog_out (s : State) : s.drainLog.out = s.out := by
  simp only [State.drainLog]; exact iter_keeps (fun s => State.out s) _ (by intros; simp) _ _
@[simp] theorem State.drainLog_pending (s : State) : s.drainLog.pending = s.pending := by
  simp only [State.drainLog]; exact iter_keeps (fun s => State.pending s) _ (by intros; simp) _ _

end Sys2Proof.Machine
end

