-- ==== Sys2Proof/Laws/Access.lean ====
section
/-!
SUPPORT. What an access to the Gallery, the LPDDR4X or MRAM can do: an octet that is put reads back, every other octet of memory stays,
the canonical form of memory is kept, and the code found in the words that are read touches no memory.
-/
namespace Sys2Proof.Machine

/-! ### Octets -/

/-- Putting an octet keeps the canonical form. -/
theorem State.wf_putOctet (s : State) (a v : Nat) (h : Memory.wf s.mem = true) : Memory.wf (s.putOctet a v).mem = true := by
  unfold State.putOctet
  split
  · exact h
  · exact wf_memPut _ _ _ h

theorem State.wf_putOctets (l : List Nat) : ∀ (s : State) (a : Nat), Memory.wf s.mem = true → Memory.wf (s.putOctets a l).mem = true := by
  induction l with
  | nil => exact fun _ _ h => h
  | cons v l ih => exact fun s a h => ih _ _ (s.wf_putOctet a v h)

/-- Which octets are D words of the program does not change when an octet is put. -/
@[simp] theorem State.putOctet_dWordAt (s : State) (a v x : Nat) : (s.putOctet a v).dWordAt x = s.dWordAt x := by
  unfold State.putOctet
  split <;> rfl

/-- An octet of memory reads back as it was put (R35). -/
theorem State.octetAt_putOctet_self (s : State) (a v : Nat) (h : Memory.wf s.mem = true) (d : s.dWordAt a = none) :
    (s.putOctet a v).octetAt a = v % 256 := by
  have e : (s.putOctet a v).mem = memPut s.mem a (BitVec.ofNat 8 v) := by unfold State.putOctet; rw [d]
  unfold State.octetAt
  rw [State.putOctet_dWordAt, d]
  simp only [e]
  rw [memGet_memPut_self _ _ _ h, BitVec.toNat_ofNat]

/-- Every other octet of memory stays. -/
theorem State.octetAt_putOctet_ne (s : State) (a v x : Nat) (hne : x ≠ a) (d : s.dWordAt x = none) :
    (s.putOctet a v).octetAt x = s.octetAt x := by
  unfold State.octetAt
  rw [State.putOctet_dWordAt, d]
  dsimp only
  unfold State.putOctet
  split
  · rfl
  · dsimp only
    rw [memGet_memPut_ne _ hne]

/-! ### An access -/

@[simp] theorem State.eccWord_mem (s : State) (r a f : Nat) : (s.eccWord r a f).mem = s.mem := by
  unfold State.eccWord
  repeat' split
  all_goals simp

@[simp] theorem State.eccWord_pending (s : State) (r a f : Nat) : (s.eccWord r a f).pending = s.pending := by
  unfold State.eccWord
  repeat' split
  all_goals simp

/-- What the code finds is counted and recorded; memory stays as it is (R28). -/
@[simp] theorem State.eccRead_mem (s : State) (r a n op : Nat) (ecc : List Nat) : (s.eccRead r a n op ecc).1.mem = s.mem := by
  unfold State.eccRead
  split
  · rfl
  · exact foldl_keeps (fun s => State.mem s) _ (fun _ _ => State.eccWord_mem _ _ _ _) _ _

/-- An access that only reads leaves memory as it is. -/
theorem State.access_read_mem (s : State) (q : GalReq) (beats : Nat) (h : q.op = 0) : (s.access q beats).mem = s.mem := by
  unfold State.access
  dsimp only
  split
  · simp [State.accessFault]
  · simp [h]

/-- An access keeps the canonical form of memory. -/
theorem State.wf_access (s : State) (q : GalReq) (beats : Nat) (h : Memory.wf s.mem = true) :
    Memory.wf (s.access q beats).mem = true := by
  by_cases g : q.op = 0
  · rw [s.access_read_mem q beats g]; exact h
  · unfold State.access
    dsimp only
    split
    · simpa [State.accessFault] using h
    · exact State.wf_putOctets _ _ _ (by simpa using h)

end Sys2Proof.Machine
end

