-- ==== Sys2Proof/Laws/Slots.lean ====
section
/-!
SUPPORT. What the placing of radio transmissions can do: a frame of the schedule is sent once or not at all, and a frame placed in free
time takes an instant that is free.
-/
namespace Sys2Proof.Machine

theorem foldl_min_mem : ∀ (l : List Nat) (a : Nat), l.foldl min a = a ∨ l.foldl min a ∈ l
  | [], _ => .inl rfl
  | b :: l, a => by
    rw [List.foldl_cons]
    rcases foldl_min_mem l (min a b) with h | h
    · rcases Nat.le_total a b with g | g
      · left; rw [h, Nat.min_eq_left g]
      · right; rw [h, Nat.min_eq_right g]; exact List.mem_cons_self
    · right; exact List.mem_cons_of_mem _ h

/-- The instant that is chosen is free, and the transmission ends by its limit (R273). -/
theorem State.freeFrom_spec (s : State) (r us len lim a : Nat) (h : s.freeFrom r us len lim = some a) :
    a + len ≤ lim ∧ s.freeAt r a (a + len) = true := by
  unfold State.freeFrom at h
  dsimp only at h
  split at h
  · cases h
  · next b l e =>
    have m : a ∈ b :: l := by
      rw [← Option.some.inj h]
      rcases foldl_min_mem l b with g | g
      · rw [g]; exact List.mem_cons_self
      · exact List.mem_cons_of_mem _ g
    rw [← e, List.mem_filter] at m
    simpa using m.2

/-- A frame of the schedule: nothing, or the frame once, marked as sent, at its instant (R272, R277). -/
theorem State.slotOnce_cases (s : State) (r kind us l : Nat) (f : State → State) :
    s.slotOnce r kind us l f = s ∨
    ((s.radio r).sent.contains kind = false ∧ s.frame.off ≤ 1000 * us + 2000 ∧
      s.slotOnce r kind us l f = f ((s.atNs (1000 * us)).modRadio r fun x => { x with sent := x.sent ++ [kind] })) := by
  unfold State.slotOnce
  split
  · exact .inl rfl
  · next h =>
    simp only [Bool.or_eq_true, decide_eq_true_eq, not_or] at h
    exact .inr ⟨by simpa using h.1.1, Nat.le_of_not_lt h.1.2, rfl⟩

/-- A frame in free time: nothing, or the frame at an instant that was free, its time taken. -/
theorem State.placed_cases (s : State) (r l lim : Nat) (f : Nat → State → State) :
    s.placed r l lim f = s ∨
    ∃ a, a + airTime (s.phy r) l ≤ lim ∧ s.freeAt r a (a + airTime (s.phy r) l) = true ∧
      s.placed r l lim f = f a (s.takeTime r a (a + airTime (s.phy r) l)) := by
  unfold State.placed
  dsimp only
  split
  · next a h => exact .inr ⟨a, (s.freeFrom_spec _ _ _ _ _ h).1, (s.freeFrom_spec _ _ _ _ _ h).2, rfl⟩
  · exact .inl rfl

end Sys2Proof.Machine
end

