-- ==== Sys2Proof/Tests/Scenes.lean ====
section
/-! SUPPORT. The small states that the tests and the witnesses start from. -/

namespace Sys2Proof.Tests
open Sys2Proof.Machine

/-- The module in its frame schedule, in a mode. -/
def live (m : Mode) : State := { phase := .running, mode := m, mem := [(0x10000008, 7)], gal := { sessions := [(3, { typ := 0, role := 2 }), (9, {typ := 3, role := 1})] } }
/-- A FIFO 5, enabled, from engine 7 to engine 0, with entries. -/
def fifo5 (l : List FifoEntry) : State :=
  ((((live .stop).put (F.FIF_CFG_ENABLE.at 5) 1).put (F.FIF_CFG_PRODUCER.at 5) 7).put (F.FIF_CFG_CONSUMER.at 5) 9).setFifo 5 { entries := l, lastTag := false, wptr := l.length }
def full5 : State := fifo5 ((List.range 256).map fun i => ⟨i, i, false⟩)
def w (opc mode opnd : Nat) : Nat := opWord opc mode opnd
/-- A package whose section 1 has SWP, END, section 0 END; owns M 0..15, Q 0..15, D 0..99, T0-3, C0-3, QW to section 1. -/
def pkc (c1 : List Nat) : Package :=
  { ident := 7, code := [[w 0x39 2 0], c1], links := [[], [40, 41]],
    symbols := [{id := 40, area := 2, off := 3}, {id := 41, area := 5, off := 9, tunable := true, lo := -5, hi := 100, typ := 3}],
    owns := [⟨1, 0, 16, 1⟩, ⟨2, 0, 16, 1⟩, ⟨5, 0, 4000, 1⟩, ⟨7, 0, 4, 1⟩, ⟨8, 0, 4, 1⟩, ⟨4, 0, 16, 1⟩, ⟨2, 16, 4, 0⟩, ⟨5, 4000, 10, 0⟩] }
def pk1 : Package := pkc [w 0x1B 2 0, w 0x39 2 0]
def pst : Package := { pk1 with stations := [⟨33, 2, 2, 4, [⟨0, 1, 0, 8⟩], [⟨0, 1, 1, 0⟩]⟩] }
def keyed : Keys := { life := .provisioned, rows := [{}] }
/-- In Run, section 1 executing in the package. -/
def inRun (p : Package) (x : Sect) : State :=
  { live .run with keys := keyed, prog := { pkg := some p, begun := true, running := true, sects := [{st := .executing, ended := true}, { x with st := .executing }, {}, {}] } }
def inHold (p : Package) (x : Sect) : State :=
  { live .hold with keys := keyed, prog := { pkg := some p, begun := true, running := true, halted := true, sects := [{st := .halted, ended := true}, { x with st := .halted }, {}, {}] } }
def opS (opc mode opnd : Nat) (x : Sect) : State := inRun (pkc [w opc mode opnd, w 0x39 2 0]) x
/-- direct operand -/
def dir (a o : Nat) : Nat := a * 2 ^ 20 + o
/-- An engineering session 3, an operator's 9. -/
def hd (q : Nat) : Hdr := { ctx := 3, seq := q, len := 8 }
def withSess (s : State) (x : Session) : State := s.setSession 3 x
def oP : Origin := .program 1 0 5
def oH : Origin := .host 3 101
/-- The same state, in which section 1's slot 0 holds an issued call of serial 5, and session 3 takes requests. -/
def calls (s : State) : State := { s with prog := { s.prog with sects := [{st := .executing}, {st := .executing, slots := [(0, {st := .issued, serial := 5, code := 9})]}, {}, {}] } }
def awaitsP (s : State) : State := { s with prog := { s.prog with sects := [{st := .executing}, {st := .executing, slots := [(0, {st := .active, serial := 5, code := 9})]}, {}, {}] } }
/-- Radio 1 in use, in frame n. -/
def rs (n : Nat) (x : Radio) : State :=
  let s : State := { live .run with frame := {num := n, start := 1000000000 * n}, net := { radios := [{}, x, {}, {}, {}, {}], serials := [(5, 99), (6, 98)], sensors := [(3, {serial := 77})] }, light := {running := true, nodes := [(5, {radio := 1, assoc := 7, online := true})]} }
  (s.put (F.RAD_CFG_EN.at 1) 1).put (F.RAD_CFG_RELAY_EN.at 1) 1
/-- Radio 5, with sleepers. -/
def rs5 (n : Nat) (x : Radio) : State :=
  let s : State := { live .run with frame := {num := n, start := 1000000000 * n}, net := { radios := [{}, {}, {}, {}, {}, x], serials := [(5, 99)], sensors := [(3, {serial := 77, sleeping := true})] } }
  (s.put (F.RAD_CFG_EN.at 5) 1).put (F.RAD_CFG_SLEEPERS.at 5) 1

/-! ### The conditions of the statements, as what the kernel can evaluate -/

theorem canIssue_of {s : State} {k opc mode opnd : Nat}
    (h : s.live = true ∧ s.mode = .run ∧ k < s.prog.sects.length ∧ (s.sect k).st = .executing ∧ (s.sect k).ended = false ∧
      s.atBreak k = false ∧ (s.code k)[(s.sect k).pc]? = some (opWord opc mode opnd)) : s.canIssue k opc mode opnd := h

theorem hasNext_of {s : State} {k : Nat} (h : (s.sect k).pc + 1 < (s.code k).length) : s.hasNext k := h

theorem runsOn_of {s : State} {k opc mode opnd : Nat} (h : s.canIssue k opc mode opnd) (g : s.hasNext k) : s.runsOn k opc mode opnd :=
  ⟨h, g⟩

theorem ownElem_of {s : State} {k mode opnd area off : Nat}
    (h : s.operand k mode opnd = some (area, off) ∧ off < areaSize area ∧ s.ownerOf area off = some k ∧
      (s.forcedAt area off = none ∨ area = 1 ∨ area = 4)) : s.ownElem k mode opnd area off := h

theorem canCall_program {s : State} {k j n code : Nat}
    (h : s.live = true ∧ s.mode ≠ .recovery ∧ s.svcRuns code = true ∧ k < s.prog.sects.length ∧
      (SMap.getD (s.sect k).slots j {}).serial = n ∧ (SMap.getD (s.sect k).slots j {}).st = .issued) :
    s.canCall (.program k j n) code := h

theorem awaits_program {s : State} {k j n : Nat}
    (h : k < s.prog.sects.length ∧ (SMap.getD (s.sect k).slots j {}).serial = n ∧
      (SMap.getD (s.sect k).slots j {}).st = .active) : s.awaits (.program k j n) := h

theorem mayWrite_engine {s : State} {e : Nat} : s.mayWrite (.engine e) := ⟨Nat.le_succ 1, fun _ => ⟨e, rfl⟩⟩

theorem mayWrite_of {s : State} {who : Requester} (h : 1 ≤ s.roleOf who ∧ s.mode ≠ .recovery) : s.mayWrite who :=
  ⟨h.1, fun g => absurd g h.2⟩

theorem hasSlot_of {s : State} {r : Nat}
    (h : r < 6 ∧ s.net.radios.length = 6 ∧ s.frame.missed.contains (radioLate r) = false) : s.hasSlot r := h

/-- What holds of an optional value that is there. -/
theorem all_some {α : Type} {P : α → Prop} [DecidablePred P] {e : Option α} (h : e.all (fun x => decide (P x)) = true) :
    ∀ x, e = some x → P x := by
  rintro x rfl
  simpa using h

theorem exists_some {α : Type} {P : α → Prop} [DecidablePred P] {e : Option α} (h : e.any (fun x => decide (P x)) = true) :
    ∃ x, e = some x ∧ P x := by
  cases e with
  | none => simp at h
  | some x => exact ⟨x, rfl, by simpa using h⟩

theorem canCall_host {s : State} {c q code : Nat} (h : s.live = true ∧ s.mode ≠ .recovery ∧ s.svcRuns code = true)
    (o : (s.session c).any (fun x => decide (x.state = 2 ∧ 1 ≤ x.role)) = true) : s.canCall (.host c q) code :=
  ⟨h.1, h.2.1, h.2.2, exists_some o⟩

theorem awaits_host {s : State} {c q : Nat} (o : (s.session c).any (fun x => decide (x.state ≠ 3)) = true) : s.awaits (.host c q) :=
  exists_some o

theorem unheld_of {s : State} (h : s.get F.SPL_STAT_PROTECTED = 0) : s.unheld := h

theorem askedBy_of {s : State} {h : Hdr} {x : Session}
    (g : s.live = true ∧ s.session h.ctx = some x ∧ x.state = 2 ∧ (x.typ = 0 ∨ x.typ = 3)) : s.askedBy h x := g

theorem canAsk_of {s : State} {h : Hdr} {m : HxmMsg} (p : s.live = true)
    (o : (s.session h.ctx).any (fun x => decide ((x.state = 2 ∧ (x.typ = 0 ∨ x.typ = 3)) ∧ x.classify h.num = .accepted)) = true)
    (g : h.bad = false ∧ h.len ≤ 1280 ∧ m.formed = true ∧ s.msgAccess h.ctx m = true)
    (r : s.mode = .recovery → m.inRecovery = true) : s.canAsk h m := by
  obtain ⟨x, e, f, c⟩ := exists_some (P := fun x : Session => (x.state = 2 ∧ (x.typ = 0 ∨ x.typ = 3)) ∧ x.classify h.num = .accepted) o
  exact ⟨⟨x, ⟨p, e, f.1, f.2⟩, c⟩, g.1, g.2.1, g.2.2.1, g.2.2.2, r⟩

theorem hears_of {s : State} {r q c : Nat} (p : s.live = true) (e : (s.rovPos r).ctx = some c)
    (o : (s.session c).any (fun x => decide (x.state = 2 ∧ x.classify (q % 2 ^ 32) = .accepted)) = true) : s.hears r q := by
  obtain ⟨x, f, g⟩ := exists_some (P := fun x : Session => x.state = 2 ∧ x.classify (q % 2 ^ 32) = .accepted) o
  exact ⟨p, c, x, e, f, g.1, g.2⟩

theorem not_hears_of {s : State} {r q : Nat} (h : s.live = false) : ¬ s.hears r q := fun g => absurd g.1 (by rw [h]; decide)

theorem memOk_of {s : State} (h : Memory.wf s.mem = true) : s.memOk := h

theorem dmaMay_of {s : State} {d a op : Nat}
    (h : (match galleryBank a with
      | some b => decide (s.tickets b d ≠ 0)
      | none => directAllowed d a op) = true) : s.dmaMay d a op := by
  unfold State.dmaMay
  split at h <;> simp_all

theorem dmaMay_all {s : State} {d a op n : Nat}
    (h : (List.range n).all (fun i => match galleryBank (a + i) with
      | some b => decide (s.tickets b d ≠ 0)
      | none => directAllowed d (a + i) op) = true) : ∀ i < n, s.dmaMay d (a + i) op := fun i g =>
  dmaMay_of (List.all_eq_true.1 h i (List.mem_range.2 g))

theorem all_below {n : Nat} {P : Nat → Prop} [DecidablePred P] (h : (List.range (n - 1)).all (fun j => decide (P j)) = true) :
    ∀ j, j + 1 < n → P j := fun j g => by
  simpa using List.all_eq_true.1 h j (List.mem_range.2 (Nat.lt_sub_of_add_lt g))

end Sys2Proof.Tests
end

