-- ==== Sys2Proof/WellFormed.lean ====
section
/-!
DEFINITION. Which operands a command may carry: every index within the range that the tables of the spec give it (Table 00.1,
Table 01.1 and the register maps), every field within its width.
-/
namespace Sys2Proof

open Sys2Proof.Machine

/-- A requester: an engine of Table 01.1, or a session context (R59). -/
def Machine.Requester.wf : Requester → Bool
  | .engine e => decide (e < 28)
  | .session c => decide (c < 512)
  | .sid0 => true

/-- Who a service reports to: a section's ticket slot, or a request of a session. -/
def Machine.Origin.wf : Origin → Bool
  | .quiet => true
  | .command a => decide (a < 0x200000)
  | .program k j _ => decide (k < 4) && decide (j < 255)
  | .host c q => decide (c < 512) && decide (q < 2 ^ 32)

/-- An HXM header: an Ethernet or host-port context and a 32-bit SEQ (Table 12.2). -/
def Machine.Hdr.wf (h : Hdr) : Bool := decide (h.ctx < 512) && decide (h.seq < 2 ^ 32)

/-- A Gallery access: a requester of Table 01.1, a read or a write, and octets that lie in 1 to 8 consecutive 64-bit beats (R35). -/
def Machine.GalReq.wf (q : GalReq) : Bool :=
  decide (q.req < 28) && decide (q.op < 2) && decide (1 ≤ q.len) && decide (q.addr % 8 + q.len ≤ 64) && decide (q.addr + q.len ≤ 2 ^ 32)
    && (decide (q.op = 0) || decide (q.data.length = q.len)) && q.data.all (fun b => decide (b < 256)) && q.ecc.all fun e => decide (e < 3)

def Machine.SemNow.wf : SemNow → Bool
  | .release who => who.wf
  | .none_ | .abandon => true

def Machine.FifoEntry.wf (e : FifoEntry) : Bool := decide (e.lo < 2 ^ 32) && decide (e.hi < 2 ^ 32)

/-- The four fields of an operand-carrying instruction: section, mode and operand of the word, and the lottery wait. -/
def opWf (k mode opnd : Nat) : Bool := decide (k < 4) && decide (mode < 4) && decide (opnd < 2 ^ 24)

/-- The operands of a command lie in their ranges. -/
def Instr.wf : Instr → Bool
  | .startUp _ => true
  | .timeWaitExpiry => true
  | .roleResolve _ => true
  | .reset => true
  | .vinLoss => true
  | .thermalShutdown => true
  | .powerFail at_ samples _ => decide (at_ < 22000000) && decide (samples.length ≤ 320)
  | .powerRestore => true
  | .frameBoundary _ => true
  | .deadlineFault cls engine period => decide (cls < 10) && decide (engine < 28) && decide (period < 65536)
  | .curatorFault core => decide (core < 2)
  | .curatorReady core => decide (core < 2)
  | .curatorRestartTimeout core => decide (core < 2)
  | .y0ModuleReset => true
  | .start who => who.wf
  | .stop who => who.wf
  | .halt who => who.wf
  | .resume who => who.wf
  | .enterBasic who => who.wf
  | .leaveBasic who => who.wf
  | .recover who confirm => who.wf && decide (confirm < 65536)
  | .restart who confirm => who.wf && decide (confirm < 65536)
  | .shutdown who confirm => who.wf && decide (confirm < 65536)
  | .shdnReqFall => true
  | .selfTestComplete found _ => found.all fun p => decide (p.1 < 14)
  | .galleryAccess bank _ arrivals beats direct => decide (bank < 16) && decide (1 ≤ beats) && decide (beats ≤ 8) && arrivals.all GalReq.wf &&
      direct.all GalReq.wf
  | .sidebandAssert engine => decide (engine < 28)
  | .dmaDescriptor writer dma _ _ _ ecc => decide (writer < 28) && decide (24 ≤ dma) && decide (dma < 28) && ecc.all (fun e => decide (e < 3))
  | .semAcquire n readers now => decide (n < 128) && readers.all Requester.wf && now.wf
  | .semRelease n who _ => decide (n < 128) && who.wf
  | .semForce who _ => who.wf
  | .fifPushLo f engine _ _ => decide (f < 64) && decide (engine < 28)
  | .fifPushHi f engine _ => decide (f < 64) && decide (engine < 28)
  | .fifPushHiEnd f engine _ _ => decide (f < 64) && decide (engine < 28)
  | .fifPopLo f engine _ push => push.all FifoEntry.wf && decide (f < 64) && decide (engine < 28)
  | .flush f engine push => push.all FifoEntry.wf && decide (f < 64) && decide (engine < 28)
  | .dropPacket f engine push => push.all FifoEntry.wf && decide (f < 64) && decide (engine < 28)
  | .fifCfgWrite f who _ => decide (f < 64) && who.wf
  | .sessionOpen typ peer slot => decide (typ < 4) && decide (peer < 65536) && decide (slot < 256)
  | .sessionClose ctx => decide (ctx < 512)
  | .registerWrite who addr _ others => who.wf && decide (addr < 2097152) && others.all (fun p => p.1.wf)
  | .rcFieldRead who addr => who.wf && decide (addr < 2097152)
  | .frmNumLoRead who => who.wf
  | .commitDeadline => true
  | .breakpointHit sect brk => decide (sect < 4) && decide (brk < 8)
  | .step who => who.wf
  | .retainedSave _ => true
  | .loadComplete => true
  | .opNop k => decide (k < 4)
  | .opLd k mode opnd _ => opWf k mode opnd
  | .opLdn k mode opnd _ => opWf k mode opnd
  | .opAnd k mode opnd _ => opWf k mode opnd
  | .opAndn k mode opnd _ => opWf k mode opnd
  | .opOr k mode opnd _ => opWf k mode opnd
  | .opOrn k mode opnd _ => opWf k mode opnd
  | .opXor k mode opnd _ => opWf k mode opnd
  | .opNot k => decide (k < 4)
  | .opBopen k => decide (k < 4)
  | .opBcand k => decide (k < 4)
  | .opBcor k => decide (k < 4)
  | .opEdgp k mode opnd _ => opWf k mode opnd
  | .opEdgn k mode opnd _ => opWf k mode opnd
  | .opSt k mode opnd _ => opWf k mode opnd
  | .opStn k mode opnd _ => opWf k mode opnd
  | .opSet k mode opnd _ => opWf k mode opnd
  | .opRst k mode opnd _ => opWf k mode opnd
  | .opStwc k mode opnd _ => opWf k mode opnd
  | .opTon k mode opnd _ => opWf k mode opnd
  | .opTof k mode opnd _ => opWf k mode opnd
  | .opTp k mode opnd _ => opWf k mode opnd
  | .opCtu k mode opnd _ => opWf k mode opnd
  | .opCtd k mode opnd _ => opWf k mode opnd
  | .opCld k mode opnd _ => opWf k mode opnd
  | .opLdw k mode opnd _ => opWf k mode opnd
  | .opStw k mode opnd _ => opWf k mode opnd
  | .opSwp k => decide (k < 4)
  | .opAdd k mode opnd _ => opWf k mode opnd
  | .opAdds k mode opnd _ => opWf k mode opnd
  | .opSub k mode opnd _ => opWf k mode opnd
  | .opSubs k mode opnd _ => opWf k mode opnd
  | .opMul k mode opnd _ => opWf k mode opnd
  | .opMuls k mode opnd _ => opWf k mode opnd
  | .opDiv k mode opnd _ => opWf k mode opnd
  | .opAndw k mode opnd _ => opWf k mode opnd
  | .opOrw k mode opnd _ => opWf k mode opnd
  | .opXorw k mode opnd _ => opWf k mode opnd
  | .opShl k mode opnd _ => opWf k mode opnd
  | .opShr k mode opnd _ => opWf k mode opnd
  | .opCeq k mode opnd _ => opWf k mode opnd
  | .opCne k mode opnd _ => opWf k mode opnd
  | .opCgt k mode opnd _ => opWf k mode opnd
  | .opCge k mode opnd _ => opWf k mode opnd
  | .opClt k mode opnd _ => opWf k mode opnd
  | .opCle k mode opnd _ => opWf k mode opnd
  | .opLdx k mode opnd _ => opWf k mode opnd
  | .opAddx k mode opnd _ => opWf k mode opnd
  | .opJmp k mode opnd _ => opWf k mode opnd
  | .opJmpc k mode opnd _ => opWf k mode opnd
  | .opJmpcn k mode opnd _ => opWf k mode opnd
  | .opCall k mode opnd _ => opWf k mode opnd
  | .opRet k => decide (k < 4)
  | .opTbl k mode opnd _ => opWf k mode opnd
  | .opMovb k mode opnd _ => opWf k mode opnd
  | .opLdf k mode opnd _ => opWf k mode opnd
  | .opSvc k mode opnd _ => opWf k mode opnd
  | .opEnd k => decide (k < 4)
  | .reqStop o _ => o.wf
  | .reqBasic o _ => o.wf
  | .plxAbort o _ => o.wf
  | .retainSave o _ => o.wf
  | .setGroup o _ => o.wf
  | .releaseGroup o _ => o.wf
  | .setNode o _ => o.wf
  | .releaseNode o _ => o.wf
  | .selectRecipe o _ => o.wf
  | .emergency o _ => o.wf
  | .overlayPresence o _ => o.wf
  | .readStaging o _ => o.wf
  | .nodeQuery o _ => o.wf
  | .nodeIdentify o _ => o.wf
  | .nodeRestart o _ => o.wf
  | .shortTest o _ => o.wf
  | .loopOpen o _ => o.wf
  | .loopClose o _ => o.wf
  | .setCoef o _ => o.wf
  | .setSp o _ => o.wf
  | .hoistMove o _ => o.wf
  | .hoistStop o _ => o.wf
  | .hoistHome o _ => o.wf
  | .roverStatus o _ => o.wf
  | .taskQueue o _ => o.wf
  | .taskAssign o _ => o.wf
  | .taskCancel o _ => o.wf
  | .roverHold o _ => o.wf
  | .roverRelease o _ => o.wf
  | .knotResolve o _ => o.wf
  | .corridorClose o _ => o.wf
  | .corridorOpen o _ => o.wf
  | .declareStop o _ => o.wf
  | .trigArm o _ => o.wf
  | .trigEmit o _ => o.wf
  | .trigRead o _ => o.wf
  | .calRead o _ => o.wf
  | .harmRead o _ => o.wf
  | .demandReset o _ => o.wf
  | .stationDiag o _ => o.wf
  | .daliArc o _ => o.wf
  | .daliCmd o _ => o.wf
  | .daliQuery o _ => o.wf
  | .logEvent o _ => o.wf
  | .commitFrameWithdraw tag => decide (tag < 281474976710656)
  | .commitFrameClose tag => decide (tag < 281474976710656)
  | .nodeReport r index sess seq _ => decide (r < 6) && decide (index < 2047) && decide (sess < 65536) && decide (seq < 4294967296)
  | .reportWaitExpiry node => decide (node < 4096)
  | .tempAgeExpiry node => decide (node < 4096)
  | .calStore who _ => who.wf
  | .calLoad who _ => who.wf
  | .lgtNsel who _ => who.wf
  | .lgtSsel who _ => who.wf
  | .beaconTx r => decide (r < 6)
  | .stopFrameTx => true
  | .exclusionTx r => decide (r < 6)
  | .commitFrameTx r => decide (r < 6)
  | .mapannTx r => decide (r < 6)
  | .mapChangeEffect r => decide (r < 6)
  | .mapchgApply who r _ => who.wf && decide (r < 6)
  | .frameRx r _ => decide (r < 6)
  | .joinReq r serial kind nonce => decide (r < 6) && decide (serial < 18446744073709551616) && decide (kind < 2) && decide (nonce < 18446744073709551616)
  | .joinConfirm r index _ _ => decide (r < 6) && decide (index < 2047)
  | .joinTimeout r index => decide (r < 6) && decide (index < 2047)
  | .supervisionTimeout r index => decide (r < 6) && decide (index < 2047)
  | .quarantineExpiry r index => decide (r < 6) && decide (index < 2047)
  | .sleepUplink r index _ _ _ => decide (r < 6) && decide (index < 2047)
  | .ackRx r index seq info => decide (r < 6) && decide (index < 2047) && decide (seq < 4294967296) && decide (info < 65536)
  | .macRepeat r index seq => decide (r < 6) && decide (index < 2047) && decide (seq < 4294967296)
  | .txnResend r index seq => decide (r < 6) && decide (index < 2047) && decide (seq < 4294967296)
  | .txnTimeout r index seq => decide (r < 6) && decide (index < 2047) && decide (seq < 4294967296)
  | .nodeResponse r index sess seq stat _ => decide (r < 6) && decide (index < 2047) && decide (sess < 65536) && decide (seq < 4294967296) && decide (stat < 256)
  | .nack r index sess seq first _ => decide (r < 6) && decide (index < 2047) && decide (sess < 65536) && decide (seq < 4294967296) && decide (first < 4294967296)
  | .relay r index _ _ => decide (r < 6) && decide (index < 2047)
  | .campaignPart h radio _ _ => h.wf && decide (radio < 6)
  | .campaignStart h radio kind _ => h.wf && decide (radio < 6) && decide (kind < 2)
  | .campaignActivation radio => decide (radio < 6)
  | .loopTick _ => true
  | .driveReply p d _ stat _ => decide (p < 2) && decide (d < 4) && decide (stat < 256)
  | .driveLinkFault p d => decide (p < 2) && decide (d < 4)
  | .hoistBrakeRelease a => decide (a < 8)
  | .hoistBrakeEngage a => decide (a < 8)
  | .axisReset who a => who.wf && decide (a < 8)
  | .lopOpen who l => who.wf && decide (l < 32)
  | .lopClose who l => who.wf && decide (l < 32)
  | .shortTestSlot _ => true
  | .shortPassStart => true
  | .shortCmdGo who => who.wf
  | .trackingTick _ => true
  | .obsEnvelope r _ => decide (r < 64)
  | .epochCutoff _ _ _ => true
  | .roverSolution r _ => decide (r < 64)
  | .refGo who _ => who.wf
  | .surveyComplete => true
  | .antStateChange _ _ => true
  | .roverSessionOpen cert slot => decide (cert < 1024) && decide (slot < 256)
  | .gnsFsel who _ => who.wf
  | .status r seq _ => decide (r < 64) && decide (seq < 4294967296)
  | .routeReq r seq dest => decide (r < 64) && decide (seq < 4294967296) && decide (dest < 4096)
  | .releaseReq r seq => decide (r < 64) && decide (seq < 4294967296)
  | .taskAck r seq task _ => decide (r < 64) && decide (seq < 4294967296) && decide (task < 1024)
  | .taskEnd r seq task _ code => decide (r < 64) && decide (seq < 4294967296) && decide (task < 1024) && decide (code < 256)
  | .roverAck r seq acked => decide (r < 64) && decide (seq < 4294967296) && decide (acked < 4294967296)
  | .fleetResend r seq => decide (r < 64) && decide (seq < 4294967296)
  | .roverLost r => decide (r < 64)
  | .taskOfferTimeout t => decide (t < 1024)
  | .taskDeadline t => decide (t < 1024)
  | .taskFree t => decide (t < 1024)
  | .backoffExpiry r => decide (r < 64)
  | .roverCmdHold who r => who.wf && decide (r < 64)
  | .roverCmdRelease who r => who.wf && decide (r < 64)
  | .forget who r confirm => who.wf && decide (r < 64) && decide (confirm < 65536)
  | .lanyardInputChange _ _ => true
  | .lanyardDiscrepancy => true
  | .outputTest _ _ => true
  | .mailboxRead _ => true
  | .mailboxMiss => true
  | .y0Heartbeat => true
  | .y0Watchdog => true
  | .stpDeclare who confirm => who.wf && decide (confirm < 65536)
  | .stpReset who confirm => who.wf && decide (confirm < 65536)
  | .stopKeySwitch => true
  | .sourceQualify src => (src == 1 || src == 2)
  | .sourceDisqualify src => (src == 1 || src == 2)
  | .restep who confirm => who.wf && decide (confirm < 65536)
  | .ptpSyncRx seq gm _ _ _ _ => decide (seq < 4294967296) && decide (gm < 18446744073709551616)
  | .ptpFollowUpRx seq gm _ _ => decide (seq < 4294967296) && decide (gm < 18446744073709551616)
  | .ptpDelayReqTx _ => true
  | .ptpDelayRespRx seq gm _ _ => decide (seq < 4294967296) && decide (gm < 18446744073709551616)
  | .ptpAnnounceRx _ => true
  | .ptpAnnounceTimeout => true
  | .ptpSyncTx => true
  | .ptpAnnounceTx => true
  | .ptpDelayReqRx seq _ _ => decide (seq < 4294967296)
  | .ptpTcForward typ _ _ _ _ => decide (typ < 16)
  | .ppsPulse => true
  | .leapSecond => true
  | .trigCapture t _ at_ => decide (t < 4) && decide (at_ < 22000000)
  | .trigEmission t => decide (t < 4)
  | .timTrigStatRead who t => who.wf && decide (t < 4)
  | .timNowNsRead who at_ => who.wf && decide (at_ < 22000000)
  | .txTimestamp id port at_ _ => decide (id < 4294967296) && decide (port < 3) && decide (at_ < 22000000)
  | .txqPop => true
  | .rtcSubsecRead who => who.wf
  | .rtcYearRead who => who.wf
  | .rtcFreezeExpiry who => who.wf
  | .rtcCommit who => who.wf
  | .rtcTrimWindow => true
  | .rtcLeapAct => true
  | .rtcDiscipline => true
  | .gainDown ch _ => decide (ch < 28)
  | .gainUp ch => decide (ch < 28)
  | .meterPublication doneAt => decide (doneAt < 22000000)
  | .meterEstimate => true
  | .meterPeriodicSave => true
  | .pulseEmit p => decide (p < 8)
  | .clearAll who confirm => who.wf && decide (confirm < 65536)
  | .mtrAccLoRead who f q => who.wf && decide (f < 4) && decide (q < 11)
  | .mtrEsel who _ => who.wf
  | .ethFrameRx p _ => decide (p < 3)
  | .arpRequest _ _ _ => true
  | .icmpEcho _ _ _ id seq => decide (id < 4294967296) && decide (seq < 4294967296)
  | .cleatExchange _ => true
  | .daliSlot l _ _ => decide (l < 4)
  | .daliPowerLoss l => decide (l < 4)
  | .daliPowerRestore l => decide (l < 4)
  | .spiRequest sid _ _ h _ => decide (sid < 5) && h.wf
  | .spiResponseRead => true
  | .spiOpen sid seq _ _ => decide (sid < 5) && decide (seq < 4294967296)
  | .spiClose sid seq => decide (sid < 5) && decide (seq < 4294967296)
  | .hxmHandshake _ _ _ ident => decide (ident < 65536)
  | .hxmIdleTimeout ctx => decide (ctx < 512)
  | .hxmRead h _ => h.wf
  | .hxmWrite h _ => h.wf
  | .hxmService h code _ => h.wf && decide (code < 4294967296)
  | .hxmAbort h seq => h.wf && decide (seq < 4294967296)
  | .logRead h first count => h.wf && decide (first < 4294967296) && decide (count < 257)
  | .vitrineRead h first count => h.wf && decide (first < 4294967296) && decide (count < 257)
  | .staging h node count => h.wf && decide (node < 4096) && decide (count < 257)
  | .changeSet h _ => h.wf
  | .hxmRecipe h _ => h.wf
  | .loadPart h _ => h.wf
  | .prepare h => h.wf
  | .switch_ h => h.wf
  | .discard h => h.wf
  | .revert h => h.wf
  | .forceSet h sym _ => h.wf && decide (sym < 4294967296)
  | .forceClear h sym => h.wf && decide (sym < 4294967296)
  | .forceList h => h.wf
  | .watchAdd h sym => h.wf && decide (sym < 4294967296)
  | .watchRemove h watch => h.wf && decide (watch < 64)
  | .watchRead h => h.wf
  | .debugBreakpoint h sect brk _ _ => h.wf && decide (sect < 4) && decide (brk < 8)
  | .debugHalt h => h.wf
  | .debugStep h sect => h.wf && decide (sect < 4)
  | .debugReadRegs h sect => h.wf && decide (sect < 4)
  | .hxmReport h first => h.wf && decide (first < 4294967296)
  | .hxmImage h _ _ => h.wf
  | .rawFrame h port _ _ at_ => h.wf && decide (port < 3) && decide (at_ < 22000000)
  | .obsSelWrite who k _ => who.wf && decide (k < 4)
  | .spliceHeartbeatTx => true
  | .spliceHeartbeatRx _ => true
  | .spliceHeartbeatLost => true
  | .copyRecordRx serial _ _ => decide (serial < 18446744073709551616)
  | .commitMarkRx serial => decide (serial < 18446744073709551616)
  | .frameMarkRx serial num _ => decide (serial < 18446744073709551616) && decide (num < 281474976710656)
  | .copyAckRx serial => decide (serial < 18446744073709551616)
  | .copyAckTimeout => true
  | .fullStateApplied => true
  | .leadConflict => true
  | .relinquish => true
  | .leadLossDetect us => decide (us < 22000)
  | .takeover => true
  | .swap who confirm => who.wf && decide (confirm < 65536)
  | .swapBoundary => true
  | .imageVerified _ _ => true
  | .activateHitless who confirm => who.wf && decide (confirm < 65536)
  | .updateC1Ready _ => true
  | .updateSwitchBoundary => true
  | .activateRestart who confirm => who.wf && decide (confirm < 65536)
  | .pairUpdate who confirm => who.wf && decide (confirm < 65536)
  | .updCommit who confirm => who.wf && decide (confirm < 65536)
  | .updErase who confirm => who.wf && decide (confirm < 65536)
  | .bankConfirmTimeout => true
  | .recoveryImagePart _ _ _ _ => true
  | .recoveryReset => true
  | .provision who confirm => who.wf && decide (confirm < 65536)
  | .deploy who confirm => who.wf && decide (confirm < 65536)
  | .keyReturn who confirm => who.wf && decide (confirm < 65536)
  | .scrap who confirm => who.wf && decide (confirm < 65536)
  | .fuseProgramComplete => true
  | .keyInstall who confirm => who.wf && decide (confirm < 65536)
  | .keyGenerate who confirm => who.wf && decide (confirm < 65536)
  | .keyDerive who confirm => who.wf && decide (confirm < 65536)
  | .keyErase who confirm => who.wf && decide (confirm < 65536)
  | .identityCsr who confirm => who.wf && decide (confirm < 65536)
  | .keeperRequest engine _ slot op => decide (engine < 28) && decide (slot < 256) && decide (op < 7)
  | .keeperOpComplete => true
  | .tamperEvent => true
  | .tamperLatch => true
  | .logRecordWrite _ => true
  | .logSel who _ => who.wf
  | .logOptimeLoRead who => who.wf
  | .timeMark => true
  | .vitrineFreeze => true
  | .freeze who => who.wf
  | .unfreeze who => who.wf
  | .fuseRepair who confirm => who.wf && decide (confirm < 65536)
  | .scanEnable who confirm => who.wf && decide (confirm < 65536)
  | .roleInRise => true
  | .dataRegionTx r _ => decide (r < 6)
  | .sensorReportStale sensor => decide (sensor < 1024)
  | .rtcOscillatorStop _ => true
  | .rtcRollover => true
  | .lanyardOutputReadback _ _ => true
  | .ethLinkChange p _ => decide (p < 3)

end Sys2Proof
end

