-- ==== Sys2Proof/Tests/Slice0.lean ====
section
/-!
SUPPORT. Tests: the range checks of well-formedness (one ill-formed command for each check), words and values of the spec's own worked
examples, one step from a small state, and the witnesses of the statements that speak of every command.
-/

namespace Sys2Proof.Tests.Slice0
open Sys2Proof Sys2Proof.Machine Sys2Proof.Tests
set_option Elab.async false

/-! ### One ill-formed command for each check of `Instr.wf` -/

theorem test_wf_refuses_1 : ([
    .powerFail 22000000 [] false, .powerFail 0 ((List.replicate 321 { codes := [] })) false, .deadlineFault 10 0 0,
    .deadlineFault 0 28 0, .deadlineFault 0 0 65536, .curatorFault 2, .curatorReady 2, .curatorRestartTimeout 2, .start (.engine 28),
    .stop (.engine 28), .halt (.engine 28), .resume (.engine 28), .enterBasic (.engine 28), .leaveBasic (.engine 28),
    .recover (.engine 28) 0, .recover .sid0 65536, .restart (.engine 28) 0, .restart .sid0 65536, .shutdown (.engine 28) 0,
    .shutdown .sid0 65536, .selfTestComplete ([(14, 0)]) 0, .galleryAccess 16 0 [] 1 [], .galleryAccess 0 0 [] 0 [],
    .galleryAccess 0 0 [] 9 [], .galleryAccess 0 0 ([{ req := 28, addr := 0, op := 0 }]) 1 [],
    .galleryAccess 0 0 ([{ req := 0, addr := 0, op := 2 }]) 1 []] : List Instr).all (fun c => !c.wf) = true := by
  decide +kernel

theorem test_wf_refuses_2 : ([
    .galleryAccess 0 0 ([{ req := 0, addr := 0, op := 0, len := 0 }]) 1 [],
    .galleryAccess 0 0 ([{ req := 0, addr := 1, op := 0, len := 64 }]) 1 [],
    .galleryAccess 0 0 ([{ req := 0, addr := 0xFFFFFFFE, op := 0, len := 3 }]) 1 [],
    .galleryAccess 0 0 ([{ req := 0, addr := 0, op := 1, len := 2, data := [1] }]) 1 [],
    .galleryAccess 0 0 ([{ req := 0, addr := 0, op := 1, len := 1, data := [256] }]) 1 [],
    .galleryAccess 0 0 ([{ req := 0, addr := 0, op := 0, ecc := [3] }]) 1 [],
    .galleryAccess 0 0 [] 1 ([{ req := 28, addr := 0, op := 0 }]), .sidebandAssert 28, .dmaDescriptor 28 24 0 0 0 [],
    .dmaDescriptor 0 23 0 0 0 [], .dmaDescriptor 0 28 0 0 0 [], .dmaDescriptor 0 24 0 0 0 [3], .semAcquire 128 [] .none_,
    .semAcquire 0 ([.engine 28]) .none_, .semAcquire 0 [] (.release (.engine 28)), .semRelease 128 .sid0 0,
    .semRelease 0 (.engine 28) 0, .semForce (.engine 28) 0, .fifPushLo 64 0 0 none, .fifPushLo 0 28 0 none, .fifPushHi 64 0 0,
    .fifPushHi 0 28 0, .fifPushHiEnd 64 0 0 none, .fifPushHiEnd 0 28 0 none, .fifPopLo 0 0 false (some ⟨0x100000000, 0, false⟩),
    .fifPopLo 0 0 false (some ⟨0, 0x100000000, false⟩)] : List Instr).all (fun c => !c.wf) = true := by
  decide +kernel

theorem test_wf_refuses_3 : ([
    .fifPopLo 64 0 false none, .fifPopLo 0 28 false none, .flush 0 0 (some ⟨0x100000000, 0, false⟩),
    .flush 0 0 (some ⟨0, 0x100000000, false⟩), .flush 64 0 none, .flush 0 28 none, .dropPacket 0 0 (some ⟨0x100000000, 0, false⟩),
    .dropPacket 0 0 (some ⟨0, 0x100000000, false⟩), .dropPacket 64 0 none, .dropPacket 0 28 none, .fifCfgWrite 64 .sid0 0,
    .fifCfgWrite 0 (.engine 28) 0, .sessionOpen 4 0 0, .sessionOpen 0 65536 0, .sessionOpen 0 0 256, .sessionClose 512,
    .registerWrite (.engine 28) 0 0 [], .registerWrite .sid0 2097152 0 [], .registerWrite .sid0 0 0 ([(.engine 28, 0)]),
    .rcFieldRead (.engine 28) 0, .rcFieldRead .sid0 2097152, .frmNumLoRead (.engine 28), .breakpointHit 4 0, .breakpointHit 0 8,
    .step (.engine 28), .opNop 4] : List Instr).all (fun c => !c.wf) = true := by
  decide +kernel

theorem test_wf_refuses_4 : ([
    .opLd 4 0 0 0, .opLd 0 4 0 0, .opLd 0 0 16777216 0, .opLdn 4 0 0 0, .opLdn 0 4 0 0, .opLdn 0 0 16777216 0, .opAnd 4 0 0 0,
    .opAnd 0 4 0 0, .opAnd 0 0 16777216 0, .opAndn 4 0 0 0, .opAndn 0 4 0 0, .opAndn 0 0 16777216 0, .opOr 4 0 0 0, .opOr 0 4 0 0,
    .opOr 0 0 16777216 0, .opOrn 4 0 0 0, .opOrn 0 4 0 0, .opOrn 0 0 16777216 0, .opXor 4 0 0 0, .opXor 0 4 0 0, .opXor 0 0 16777216 0,
    .opNot 4, .opBopen 4, .opBcand 4, .opBcor 4, .opEdgp 4 0 0 0] : List Instr).all (fun c => !c.wf) = true := by
  decide +kernel

theorem test_wf_refuses_5 : ([
    .opEdgp 0 4 0 0, .opEdgp 0 0 16777216 0, .opEdgn 4 0 0 0, .opEdgn 0 4 0 0, .opEdgn 0 0 16777216 0, .opSt 4 0 0 0, .opSt 0 4 0 0,
    .opSt 0 0 16777216 0, .opStn 4 0 0 0, .opStn 0 4 0 0, .opStn 0 0 16777216 0, .opSet 4 0 0 0, .opSet 0 4 0 0, .opSet 0 0 16777216 0,
    .opRst 4 0 0 0, .opRst 0 4 0 0, .opRst 0 0 16777216 0, .opStwc 4 0 0 0, .opStwc 0 4 0 0, .opStwc 0 0 16777216 0, .opTon 4 0 0 0,
    .opTon 0 4 0 0, .opTon 0 0 16777216 0, .opTof 4 0 0 0, .opTof 0 4 0 0, .opTof 0 0 16777216 0] : List Instr).all (fun c => !c.wf) = true := by
  decide +kernel

theorem test_wf_refuses_6 : ([
    .opTp 4 0 0 0, .opTp 0 4 0 0, .opTp 0 0 16777216 0, .opCtu 4 0 0 0, .opCtu 0 4 0 0, .opCtu 0 0 16777216 0, .opCtd 4 0 0 0,
    .opCtd 0 4 0 0, .opCtd 0 0 16777216 0, .opCld 4 0 0 0, .opCld 0 4 0 0, .opCld 0 0 16777216 0, .opLdw 4 0 0 0, .opLdw 0 4 0 0,
    .opLdw 0 0 16777216 0, .opStw 4 0 0 0, .opStw 0 4 0 0, .opStw 0 0 16777216 0, .opSwp 4, .opAdd 4 0 0 0, .opAdd 0 4 0 0,
    .opAdd 0 0 16777216 0, .opAdds 4 0 0 0, .opAdds 0 4 0 0, .opAdds 0 0 16777216 0, .opSub 4 0 0 0] : List Instr).all (fun c => !c.wf) = true := by
  decide +kernel

theorem test_wf_refuses_7 : ([
    .opSub 0 4 0 0, .opSub 0 0 16777216 0, .opSubs 4 0 0 0, .opSubs 0 4 0 0, .opSubs 0 0 16777216 0, .opMul 4 0 0 0, .opMul 0 4 0 0,
    .opMul 0 0 16777216 0, .opMuls 4 0 0 0, .opMuls 0 4 0 0, .opMuls 0 0 16777216 0, .opDiv 4 0 0 0, .opDiv 0 4 0 0,
    .opDiv 0 0 16777216 0, .opAndw 4 0 0 0, .opAndw 0 4 0 0, .opAndw 0 0 16777216 0, .opOrw 4 0 0 0, .opOrw 0 4 0 0,
    .opOrw 0 0 16777216 0, .opXorw 4 0 0 0, .opXorw 0 4 0 0, .opXorw 0 0 16777216 0, .opShl 4 0 0 0, .opShl 0 4 0 0,
    .opShl 0 0 16777216 0] : List Instr).all (fun c => !c.wf) = true := by
  decide +kernel

theorem test_wf_refuses_8 : ([
    .opShr 4 0 0 0, .opShr 0 4 0 0, .opShr 0 0 16777216 0, .opCeq 4 0 0 0, .opCeq 0 4 0 0, .opCeq 0 0 16777216 0, .opCne 4 0 0 0,
    .opCne 0 4 0 0, .opCne 0 0 16777216 0, .opCgt 4 0 0 0, .opCgt 0 4 0 0, .opCgt 0 0 16777216 0, .opCge 4 0 0 0, .opCge 0 4 0 0,
    .opCge 0 0 16777216 0, .opClt 4 0 0 0, .opClt 0 4 0 0, .opClt 0 0 16777216 0, .opCle 4 0 0 0, .opCle 0 4 0 0,
    .opCle 0 0 16777216 0, .opLdx 4 0 0 0, .opLdx 0 4 0 0, .opLdx 0 0 16777216 0, .opAddx 4 0 0 0, .opAddx 0 4 0 0] : List Instr).all (fun c => !c.wf) = true := by
  decide +kernel

theorem test_wf_refuses_9 : ([
    .opAddx 0 0 16777216 0, .opJmp 4 0 0 0, .opJmp 0 4 0 0, .opJmp 0 0 16777216 0, .opJmpc 4 0 0 0, .opJmpc 0 4 0 0,
    .opJmpc 0 0 16777216 0, .opJmpcn 4 0 0 0, .opJmpcn 0 4 0 0, .opJmpcn 0 0 16777216 0, .opCall 4 0 0 0, .opCall 0 4 0 0,
    .opCall 0 0 16777216 0, .opRet 4, .opTbl 4 0 0 0, .opTbl 0 4 0 0, .opTbl 0 0 16777216 0, .opMovb 4 0 0 0, .opMovb 0 4 0 0,
    .opMovb 0 0 16777216 0, .opLdf 4 0 0 0, .opLdf 0 4 0 0, .opLdf 0 0 16777216 0, .opSvc 4 0 0 0, .opSvc 0 4 0 0,
    .opSvc 0 0 16777216 0] : List Instr).all (fun c => !c.wf) = true := by
  decide +kernel

theorem test_wf_refuses_10 : ([
    .opEnd 4, .reqStop (.program 4 0 0) {}, .reqBasic (.program 4 0 0) {}, .plxAbort (.program 4 0 0) {},
    .retainSave (.program 4 0 0) {}, .setGroup (.program 4 0 0) {}, .releaseGroup (.program 4 0 0) {}, .setNode (.program 4 0 0) {},
    .releaseNode (.program 4 0 0) {}, .selectRecipe (.program 4 0 0) {}, .emergency (.program 4 0 0) {},
    .overlayPresence (.program 4 0 0) {}, .readStaging (.program 4 0 0) {}, .nodeQuery (.program 4 0 0) {},
    .nodeIdentify (.program 4 0 0) {}, .nodeRestart (.program 4 0 0) {}, .shortTest (.program 4 0 0) {}, .loopOpen (.program 4 0 0) {},
    .loopClose (.program 4 0 0) {}, .setCoef (.program 4 0 0) {}, .setSp (.program 4 0 0) {}, .hoistMove (.program 4 0 0) {},
    .hoistStop (.program 4 0 0) {}, .hoistHome (.program 4 0 0) {}, .roverStatus (.program 4 0 0) {}, .taskQueue (.program 4 0 0) {}] : List Instr).all (fun c => !c.wf) = true := by
  decide +kernel

theorem test_wf_refuses_11 : ([
    .taskAssign (.program 4 0 0) {}, .taskCancel (.program 4 0 0) {}, .roverHold (.program 4 0 0) {},
    .roverRelease (.program 4 0 0) {}, .knotResolve (.program 4 0 0) {}, .corridorClose (.program 4 0 0) {},
    .corridorOpen (.program 4 0 0) {}, .declareStop (.program 4 0 0) {}, .trigArm (.program 4 0 0) {}, .trigEmit (.program 4 0 0) {},
    .trigRead (.program 4 0 0) {}, .calRead (.program 4 0 0) {}, .harmRead (.program 4 0 0) {}, .demandReset (.program 4 0 0) {},
    .stationDiag (.program 4 0 0) {}, .daliArc (.program 4 0 0) {}, .daliCmd (.program 4 0 0) {}, .daliQuery (.program 4 0 0) {},
    .logEvent (.program 4 0 0) {}, .commitFrameWithdraw 281474976710656, .commitFrameClose 281474976710656,
    .nodeReport 6 0 0 0 (.sensor 0 0 []), .nodeReport 0 2047 0 0 (.sensor 0 0 []), .nodeReport 0 0 65536 0 (.sensor 0 0 []),
    .nodeReport 0 0 0 4294967296 (.sensor 0 0 []), .reportWaitExpiry 4096] : List Instr).all (fun c => !c.wf) = true := by
  decide +kernel

theorem test_wf_refuses_12 : ([
    .tempAgeExpiry 4096, .calStore (.engine 28) 0, .calLoad (.engine 28) 0, .lgtNsel (.engine 28) 0, .lgtSsel (.engine 28) 0,
    .beaconTx 6, .exclusionTx 6, .commitFrameTx 6, .mapannTx 6, .mapChangeEffect 6, .mapchgApply (.engine 28) 0 0,
    .mapchgApply .sid0 6 0, .frameRx 6 ({ typ := 0 }), .joinReq 6 0 0 0, .joinReq 0 18446744073709551616 0 0, .joinReq 0 0 2 0,
    .joinReq 0 0 0 18446744073709551616, .joinConfirm 6 0 false false, .joinConfirm 0 2047 false false, .joinTimeout 6 0,
    .joinTimeout 0 2047, .supervisionTimeout 6 0, .supervisionTimeout 0 2047, .quarantineExpiry 6 0, .quarantineExpiry 0 2047,
    .sleepUplink 6 0 0 0 none] : List Instr).all (fun c => !c.wf) = true := by
  decide +kernel

theorem test_wf_refuses_13 : ([
    .sleepUplink 0 2047 0 0 none, .ackRx 6 0 0 0, .ackRx 0 2047 0 0, .ackRx 0 0 4294967296 0, .ackRx 0 0 0 65536, .macRepeat 6 0 0,
    .macRepeat 0 2047 0, .macRepeat 0 0 4294967296, .txnResend 6 0 0, .txnResend 0 2047 0, .txnResend 0 0 4294967296,
    .txnTimeout 6 0 0, .txnTimeout 0 2047 0, .txnTimeout 0 0 4294967296, .nodeResponse 6 0 0 0 0 [], .nodeResponse 0 2047 0 0 0 [],
    .nodeResponse 0 0 65536 0 0 [], .nodeResponse 0 0 0 4294967296 0 [], .nodeResponse 0 0 0 0 256 [], .nack 6 0 0 0 0 0,
    .nack 0 2047 0 0 0 0, .nack 0 0 65536 0 0 0, .nack 0 0 0 4294967296 0 0, .nack 0 0 0 0 4294967296 0, .relay 6 0 false 0,
    .relay 0 2047 false 0] : List Instr).all (fun c => !c.wf) = true := by
  decide +kernel

theorem test_wf_refuses_14 : ([
    .campaignPart ⟨512, 0, 0, false⟩ 0 0 [], .campaignPart ⟨0, 0, 0, false⟩ 6 0 [], .campaignStart ⟨512, 0, 0, false⟩ 0 0 [],
    .campaignStart ⟨0, 0, 0, false⟩ 6 0 [], .campaignStart ⟨0, 0, 0, false⟩ 0 2 [], .campaignActivation 6, .driveReply 2 0 0 0 false,
    .driveReply 0 4 0 0 false, .driveReply 0 0 0 256 false, .driveLinkFault 2 0, .driveLinkFault 0 4, .hoistBrakeRelease 8,
    .hoistBrakeEngage 8, .axisReset (.engine 28) 0, .axisReset .sid0 8, .lopOpen (.engine 28) 0, .lopOpen .sid0 32,
    .lopClose (.engine 28) 0, .lopClose .sid0 32, .shortCmdGo (.engine 28), .obsEnvelope 64 ⟨0, [], false⟩, .roverSolution 64 {},
    .refGo (.engine 28) 0, .roverSessionOpen 1024 0, .roverSessionOpen 0 256, .gnsFsel (.engine 28) 0] : List Instr).all (fun c => !c.wf) = true := by
  decide +kernel

theorem test_wf_refuses_15 : ([
    .status 64 0 ({ front := 0, rear := 0 }), .status 0 4294967296 ({ front := 0, rear := 0 }), .routeReq 64 0 0,
    .routeReq 0 4294967296 0, .routeReq 0 0 4096, .releaseReq 64 0, .releaseReq 0 4294967296, .taskAck 64 0 0 false,
    .taskAck 0 4294967296 0 false, .taskAck 0 0 1024 false, .taskEnd 64 0 0 false 0, .taskEnd 0 4294967296 0 false 0,
    .taskEnd 0 0 1024 false 0, .taskEnd 0 0 0 false 256, .roverAck 64 0 0, .roverAck 0 4294967296 0, .roverAck 0 0 4294967296,
    .fleetResend 64 0, .fleetResend 0 4294967296, .roverLost 64, .taskOfferTimeout 1024, .taskDeadline 1024, .taskFree 1024,
    .backoffExpiry 64, .roverCmdHold (.engine 28) 0, .roverCmdHold .sid0 64] : List Instr).all (fun c => !c.wf) = true := by
  decide +kernel

theorem test_wf_refuses_16 : ([
    .roverCmdRelease (.engine 28) 0, .roverCmdRelease .sid0 64, .forget (.engine 28) 0 0, .forget .sid0 64 0, .forget .sid0 0 65536,
    .stpDeclare (.engine 28) 0, .stpDeclare .sid0 65536, .stpReset (.engine 28) 0, .stpReset .sid0 65536, .sourceQualify 3,
    .sourceDisqualify 3, .restep (.engine 28) 0, .restep .sid0 65536, .ptpSyncRx 4294967296 0 0 0 0 false,
    .ptpSyncRx 0 18446744073709551616 0 0 0 false, .ptpFollowUpRx 4294967296 0 0 0, .ptpFollowUpRx 0 18446744073709551616 0 0,
    .ptpDelayRespRx 4294967296 0 0 0, .ptpDelayRespRx 0 18446744073709551616 0 0, .ptpDelayReqRx 4294967296 0 0,
    .ptpTcForward 16 false false 0 0, .trigCapture 4 false 0, .trigCapture 0 false 22000000, .trigEmission 4,
    .timTrigStatRead (.engine 28) 0, .timTrigStatRead .sid0 4] : List Instr).all (fun c => !c.wf) = true := by
  decide +kernel

theorem test_wf_refuses_17 : ([
    .timNowNsRead (.engine 28) 0, .timNowNsRead .sid0 22000000, .txTimestamp 4294967296 0 0 false, .txTimestamp 0 3 0 false,
    .txTimestamp 0 0 22000000 false, .rtcSubsecRead (.engine 28), .rtcYearRead (.engine 28), .rtcFreezeExpiry (.engine 28),
    .rtcCommit (.engine 28), .gainDown 28 [], .gainUp 28, .meterPublication 22000000, .pulseEmit 8, .clearAll (.engine 28) 0,
    .clearAll .sid0 65536, .mtrAccLoRead (.engine 28) 0 0, .mtrAccLoRead .sid0 4 0, .mtrAccLoRead .sid0 0 11, .mtrEsel (.engine 28) 0,
    .ethFrameRx 3 ({ src := 0, dst := 0, len := 0 }), .icmpEcho false 0 none 4294967296 0, .icmpEcho false 0 none 0 4294967296,
    .daliSlot 4 false .none_, .daliPowerLoss 4, .daliPowerRestore 4, .spiRequest 5 false false ⟨0, 0, 0, false⟩ .watchRead] : List Instr).all (fun c => !c.wf) = true := by
  decide +kernel

theorem test_wf_refuses_18 : ([
    .spiRequest 0 false false ⟨512, 0, 0, false⟩ .watchRead, .spiOpen 5 0 [] [], .spiOpen 0 4294967296 [] [], .spiClose 5 0,
    .spiClose 0 4294967296, .hxmHandshake false false false 65536, .hxmIdleTimeout 512, .hxmRead ⟨512, 0, 0, false⟩ (.words 0 0),
    .hxmWrite ⟨512, 0, 0, false⟩ (.words 0 []), .hxmService ⟨512, 0, 0, false⟩ 0 {}, .hxmService ⟨0, 0, 0, false⟩ 4294967296 {},
    .hxmAbort ⟨512, 0, 0, false⟩ 0, .hxmAbort ⟨0, 0, 0, false⟩ 4294967296, .logRead ⟨512, 0, 0, false⟩ 0 0,
    .logRead ⟨0, 0, 0, false⟩ 4294967296 0, .logRead ⟨0, 0, 0, false⟩ 0 257, .vitrineRead ⟨512, 0, 0, false⟩ 0 0,
    .vitrineRead ⟨0, 0, 0, false⟩ 4294967296 0, .vitrineRead ⟨0, 0, 0, false⟩ 0 257, .staging ⟨512, 0, 0, false⟩ 0 0,
    .staging ⟨0, 0, 0, false⟩ 4096 0, .staging ⟨0, 0, 0, false⟩ 0 257, .changeSet ⟨512, 0, 0, false⟩ [],
    .hxmRecipe ⟨512, 0, 0, false⟩ ⟨false, false, []⟩, .loadPart ⟨512, 0, 0, false⟩ {}, .prepare ⟨512, 0, 0, false⟩] : List Instr).all (fun c => !c.wf) = true := by
  decide +kernel

theorem test_wf_refuses_19 : ([
    .switch_ ⟨512, 0, 0, false⟩, .discard ⟨512, 0, 0, false⟩, .revert ⟨512, 0, 0, false⟩, .forceSet ⟨512, 0, 0, false⟩ 0 0,
    .forceSet ⟨0, 0, 0, false⟩ 4294967296 0, .forceClear ⟨512, 0, 0, false⟩ 0, .forceClear ⟨0, 0, 0, false⟩ 4294967296,
    .forceList ⟨512, 0, 0, false⟩, .watchAdd ⟨512, 0, 0, false⟩ 0, .watchAdd ⟨0, 0, 0, false⟩ 4294967296,
    .watchRemove ⟨512, 0, 0, false⟩ 0, .watchRemove ⟨0, 0, 0, false⟩ 64, .watchRead ⟨512, 0, 0, false⟩,
    .debugBreakpoint ⟨512, 0, 0, false⟩ 0 0 false 0, .debugBreakpoint ⟨0, 0, 0, false⟩ 4 0 false 0,
    .debugBreakpoint ⟨0, 0, 0, false⟩ 0 8 false 0, .debugHalt ⟨512, 0, 0, false⟩, .debugStep ⟨512, 0, 0, false⟩ 0,
    .debugStep ⟨0, 0, 0, false⟩ 4, .debugReadRegs ⟨512, 0, 0, false⟩ 0, .debugReadRegs ⟨0, 0, 0, false⟩ 4,
    .hxmReport ⟨512, 0, 0, false⟩ 0, .hxmReport ⟨0, 0, 0, false⟩ 4294967296, .hxmImage ⟨512, 0, 0, false⟩ 0 [],
    .rawFrame ⟨512, 0, 0, false⟩ 0 [] false 0, .rawFrame ⟨0, 0, 0, false⟩ 3 [] false 0] : List Instr).all (fun c => !c.wf) = true := by
  decide +kernel

theorem test_wf_refuses_20 : ([
    .rawFrame ⟨0, 0, 0, false⟩ 0 [] false 22000000, .obsSelWrite (.engine 28) 0 0, .obsSelWrite .sid0 4 0,
    .copyRecordRx 18446744073709551616 false (.prog {}), .commitMarkRx 18446744073709551616, .frameMarkRx 18446744073709551616 0 false,
    .frameMarkRx 0 281474976710656 false, .copyAckRx 18446744073709551616, .leadLossDetect 22000, .swap (.engine 28) 0,
    .swap .sid0 65536, .activateHitless (.engine 28) 0, .activateHitless .sid0 65536, .activateRestart (.engine 28) 0,
    .activateRestart .sid0 65536, .pairUpdate (.engine 28) 0, .pairUpdate .sid0 65536, .updCommit (.engine 28) 0,
    .updCommit .sid0 65536, .updErase (.engine 28) 0, .updErase .sid0 65536, .provision (.engine 28) 0, .provision .sid0 65536,
    .deploy (.engine 28) 0, .deploy .sid0 65536, .keyReturn (.engine 28) 0] : List Instr).all (fun c => !c.wf) = true := by
  decide +kernel

theorem test_wf_refuses_21 : ([
    .keyReturn .sid0 65536, .scrap (.engine 28) 0, .scrap .sid0 65536, .keyInstall (.engine 28) 0, .keyInstall .sid0 65536,
    .keyGenerate (.engine 28) 0, .keyGenerate .sid0 65536, .keyDerive (.engine 28) 0, .keyDerive .sid0 65536, .keyErase (.engine 28) 0,
    .keyErase .sid0 65536, .identityCsr (.engine 28) 0, .identityCsr .sid0 65536, .keeperRequest 28 false 0 0,
    .keeperRequest 0 false 256 0, .keeperRequest 0 false 0 7, .logSel (.engine 28) 0, .logOptimeLoRead (.engine 28),
    .freeze (.engine 28), .unfreeze (.engine 28), .fuseRepair (.engine 28) 0, .fuseRepair .sid0 65536, .scanEnable (.engine 28) 0,
    .scanEnable .sid0 65536, .dataRegionTx 6 .block, .sensorReportStale 1024] : List Instr).all (fun c => !c.wf) = true := by
  decide +kernel

theorem test_wf_refuses_22 : ([
    .ethLinkChange 3 false] : List Instr).all (fun c => !c.wf) = true := by
  decide +kernel

/-- The same kind of command within its ranges is well formed. -/
theorem test_wf_accepts : ([.deadlineFault 9 27 0, .semAcquire 127 [.engine 27] (.release .sid0), .sourceQualify 2, .selfTestComplete [(13, 0)] 0,
    .opLdw 3 3 0xFFFFFF 0] : List Instr).all Instr.wf = true := by
  decide +kernel

/-! ### Words and values of the spec's worked examples -/

/-- The words of the worked example of 04_logic_set.md, built from opcode, mode and operand (R178). -/
theorem test_worked_example_words :
    [opWord 0x19 2 3000, opWord 0x01 0 419, opWord 0x13 0 (dir 7 14), opWord 0x0C 0 (dir 2 2048), opWord 0x32 2 11,
      opWord 0x2E 2 0x1000, opWord 0x1B 2 0, opWord 0x38 2 0x060001, opWord 0x1A 0 (dir 5 0x1010), opWord 0x27 2 16,
      opWord 0x23 2 0xFF, opWord 0x19 1 (dir 9 1024), opWord 0x28 0 (dir 10 2), opWord 0x39 2 0] =
    [0x66000BB8, 0x040001A3, 0x4C70000E, 0x30200800, 0xCA00000B, 0xBA001000, 0x6E000000, 0xE2060001, 0x68501010, 0x9E000010,
      0x8E0000FF, 0x65900400, 0xA0A00002, 0xE6000000] := by
  decide +kernel

/-- The section registers that a command leaves, on the section that ran. -/
def sectAfter (c : Instr) (s : State) : Option Sect :=
  match exec c s with
  | .next t => some (t.sect 1)
  | _ => none

/-- Index 0 of the example: PT := 3,000. -/
theorem test_ldw_immediate : (sectAfter (.opLdw 1 2 3000 0) (opS 0x19 2 3000 { wa := 9 })).map (fun x => (x.wa, x.pc)) = some (3000, 1) := by
  decide +kernel

/-- Indices 11 to 13: SHR and ANDW give slot 5 of ticket 0x0005_02A7. -/
theorem test_shr_gives_the_slot : (sectAfter (.opShr 1 2 16 0) (opS 0x27 2 16 { wa := 0x000502A7 })).map (·.wa) = some 5 := by
  decide +kernel

/-- Index 25: the status half of 0x02A7_0001 is PENDING (1). -/
theorem test_andw_gives_the_status :
    (sectAfter (.opAndw 1 2 0xFFFF 0) (opS 0x23 2 0xFFFF { wa := 0x02A70001 })).map (fun x => (x.wa, x.z)) = some (1, false) := by
  decide +kernel

/-- Index 26: DONE is status 0. -/
theorem test_ceq_zero : (sectAfter (.opCeq 1 2 0 0) (opS 0x28 2 0 { wa := 0, ba := false })).map (·.ba) = some true := by
  decide +kernel

/-- Index 7: SWP exchanges WA and WB. -/
theorem test_swp : (sectAfter (.opSwp 1) (opS 0x1B 2 0 { wa := 212, wb := 0x18 })).map (fun x => (x.wa, x.wb)) = some (0x18, 212) := by
  decide +kernel

/-- The PWM example of 07_drive_and_loops.md: duty 36,985 of a drive of 58,796 dimmed at 41,225; period 10,000 clocks at 40,000 Hz; the
first period is high for 5,643 clocks and carries 35,995. -/
theorem test_pwm_example : 58796 * 41225 / 65535 = 36985 ∧ pwmPeriod 40000 = 10000 ∧ pwmStep 36985 10000 0 = (5643, 35995) := by
  decide +kernel

/-- SHA-384 of "abc", as FIPS 180 prints it. -/
theorem test_sha384 : ofBe (sha384 (ascii "abc")) =
    0xcb00753f45a35e8bb5a03d699ac65007272c32ab0eded1631a8b605a43ff5bed8086072ba1e7cc2358baeca134c825a7 := by
  decide +kernel

/-! ### One step -/

/-- Reset empties the queue and leaves the start-up phase. -/
theorem test_step_serves_the_front : (match step { State.reset with pending := [.reset, .timeWaitExpiry] } with
    | .next t => decide (t.pending = [.timeWaitExpiry])
    | _ => false) = true := by
  decide +kernel

theorem test_step_idles : step State.reset = .next State.reset := rfl

/-- The table gives no row bits: no word spells a command. -/
theorem test_no_word_spells_a_command (n v : Nat) : decodeTableWord n v = none := rfl

/-! ### Witnesses of the statements about every command -/

theorem wit_MemoryStaysCanonical : ∃ s t : State, s.memOk ∧ step s = .next t :=
  ⟨live .run, live .run, memOk_of (by decide +kernel), rfl⟩

theorem wit_StepServesTheFrontCommand : ∃ s : State, s.pending = [] := ⟨State.reset, rfl⟩

theorem wit_QueueIsServedInOrder : ∃ (l m : List Instr) (s : State), s.pending = l ++ m :=
  ⟨[.reset], [.timeWaitExpiry], { State.reset with pending := [.reset, .timeWaitExpiry] }, rfl⟩

theorem wit_MemoryIsWrittenThroughTheGalleryAlone : ∃ (c : Instr) (s t : State), exec c s = .next t :=
  ⟨.semRelease 0 .sid0 1, State.reset, _, rfl⟩

end Sys2Proof.Tests.Slice0
end

