-- ==== Sys2Proof/Tests/WitnessDrive.lean ====
section
/-! SUPPORT. Witnesses: for each statement, states and operands that meet the hypotheses of its clauses together. -/

namespace Sys2Proof.Tests.Drive
open Sys2Proof Sys2Proof.Machine Sys2Proof.Tests
set_option Elab.async false
set_option linter.unusedTactic false
set_option linter.unreachableTactic false

def dr (m : Mode) (d : DriveSt) : State := calls { live m with drv := d }
def ls (x : LoopSt) (m : Mode := .run) : State := ((((((dr m {loops := [(63, x)]}).put (F.LOP_KP_K.at 63) 0x18000).put
    (F.LOP_KI_K.at 63) 0x8000).put (F.LOP_KD_K.at 63) 0xFFFF0000).put (F.LOP_KF_K.at 63) 5000).put (F.LOP_OMAX_LIM.at 63) 40).put
    (F.LOP_IMAX_LIM.at 63) 100

theorem wit_LoopsAreSetAndSampled :
  (∃ (s : State), s.live = true ∧ s.issued 125000 s.drv.tick = true) ∧
  (∃ (s : State), s.live = false ∨ s.issued 125000 s.drv.tick = false) ∧
  (∃ (s : State) (l : Nat), l < 64 ∧ (s.loop l).preload = false ∧ s.innerOf l = none) ∧
  (∃ (s : State) (o : Origin) (a : SvcArgs), BitVec.toNat a.wa < 64 ∧ s.canCall o 655361) ∧
  (∃ (s : State) (o : Origin) (a : SvcArgs), BitVec.toNat a.wa < 64 ∧ s.canCall o 655362 ∧ (s.mode = Mode.run ∨ s.mode =
      Mode.hold)) ∧
  (∃ (s : State) (o : Origin) (a : SvcArgs), BitVec.toNat a.wa < 64 ∧ s.canCall o 655362 ∧ s.mode = Mode.stop) ∧
  (∃ (s : State) (o : Origin) (a : SvcArgs) (f : Fld), coefField (BitVec.toNat a.wb) = some f ∧ BitVec.toNat a.wa < 64 ∧
      s.canCall o 655363 ∧ (s.loop (BitVec.toNat a.wa)).closed = false) ∧
  (∃ (s : State) (o : Origin) (a : SvcArgs) (f : Fld), coefField (BitVec.toNat a.wb) = some f ∧ BitVec.toNat a.wa < 64 ∧
      s.canCall o 655363 ∧ (s.loop (BitVec.toNat a.wa)).closed = true) ∧
  (∃ (s : State) (o : Origin) (a : SvcArgs), BitVec.toNat a.wa < 64 ∧ s.canCall o 655364) ∧
  (∃ (s : State) (who : Requester) (l : Nat), s.mayWrite who ∧ l < 64) ∧
  (∃ (s : State) (who : Requester) (l : Nat), s.mayWrite who ∧ l < 64 ∧ (s.mode = Mode.run ∨ s.mode = Mode.hold)) ∧
  (∃ (s : State) (who : Requester) (l : Nat), s.mayWrite who ∧ l < 64 ∧ s.mode = Mode.stop) := by
  refine ⟨⟨((ls {closed := true}).put (F.LOP_CFG_EN.at 63) 1), ?_⟩,
    ⟨(dr .run {tick := 80}), ?_⟩,
    ⟨(ls {sp := 100, i := 5, pvPrev := 4, closed := true}), (63), ?_⟩,
    ⟨(ls {closed := true, u := 9}), (oP), ({wa := 63}), ?_⟩,
    ⟨(ls {} .hold), (oP), ({wa := 63}), ?_⟩,
    ⟨(ls {} .stop), (oP), ({wa := 63}), ?_⟩,
    ⟨(ls {}), (oP), ({wa := 63, wb := 0, d := [7]}), ((coefField (BitVec.toNat (({wa := 63, wb := 0, d := [7]}) :
        SvcArgs).wb)).get (by decide +kernel)), ?_⟩,
    ⟨(ls {closed := true}), (oP), ({wa := 63, wb := 1, d := [7]}), ((coefField (BitVec.toNat (({wa := 63, wb := 1, d := [7]}) :
        SvcArgs).wb)).get (by decide +kernel)), ?_⟩,
    ⟨(ls {closed := true}), (oP), ({wa := 63, wb := 0xFFFFFFFF}), ?_⟩,
    ⟨(ls {closed := true, u := 9}), (.session 9), (63), ?_⟩,
    ⟨(ls {}), (.session 9), (63), ?_⟩,
    ⟨(ls {} .stop), (.session 9), (63), ?_⟩⟩
  all_goals
    repeat' first
      | (unfold HxmMsg.sentAs; rfl)
      | decide +kernel
      | exact mayWrite_engine
      | (apply mayWrite_of; decide +kernel)
      | (apply canCall_program; decide +kernel)
      | (apply canCall_host <;> decide +kernel)
      | (apply canIssue_of; decide +kernel)
      | (apply hasNext_of; decide +kernel)
      | apply runsOn_of
      | (apply ownElem_of; decide +kernel)
      | (apply awaits_program; decide +kernel)
      | (apply awaits_host; decide +kernel)
      | (apply unheld_of; decide +kernel)
      | (apply hasSlot_of; decide +kernel)
      | (apply askedBy_of; decide +kernel)
      | (apply canAsk_of <;> decide +kernel)
      | (apply hears_of (c := 12) <;> decide +kernel)
      | (apply not_hears_of; decide +kernel)
      | (apply memOk_of; decide +kernel)
      | (apply all_below; decide +kernel)
      | (intro _ h; cases h; done)
      | (intro _ _ h; cases h; done)
      | (apply dmaMay_of; decide +kernel)
      | (apply dmaMay_all; decide +kernel)
      | (apply exists_some; decide +kernel)
      | (apply all_some; decide +kernel)
      | apply And.intro
      | exact rfl
      | (intro _ h; exact absurd (show Origin.quiet = _ from h) (by decide +kernel))

theorem wit_AxesMoveUnderTheirDrives :
  (∃ (s : State) (o : Origin) (b : SvcArgs), s.canCall o 655365 ∧ BitVec.toNat b.wa < 8 ∧ 0 < toInt 32 (BitVec.toNat (b.d.getD 0
      0)) ∧ 0 < toInt 32 (BitVec.toNat (b.d.getD 1 0)) ∧ ((s.axis (BitVec.toNat b.wa)).st = AxisSt.holding ∨ (s.axis
      (BitVec.toNat b.wa)).st = AxisSt.moving ∨ (s.axis (BitVec.toNat b.wa)).st = AxisSt.paused) ∧ (s.axis (BitVec.toNat
      b.wa)).homed = true ∧ s.getI (F.LOP_AX_PMIN_POS.at (BitVec.toNat b.wa)) ≤ toInt 32 (BitVec.toNat b.wb) ∧ toInt 32
      (BitVec.toNat b.wb) ≤ s.getI (F.LOP_AX_PMAX_POS.at (BitVec.toNat b.wa)) ∧ (s.axis (BitVec.toNat b.wa)).moveBy ≠ some o) ∧
  (∃ (s : State) (o : Origin) (b : SvcArgs), s.canCall o 655365 ∧ BitVec.toNat b.wa < 8 ∧ 0 < toInt 32 (BitVec.toNat (b.d.getD 0
      0)) ∧ 0 < toInt 32 (BitVec.toNat (b.d.getD 1 0)) ∧ ((s.axis (BitVec.toNat b.wa)).st = AxisSt.holding ∨ (s.axis
      (BitVec.toNat b.wa)).st = AxisSt.moving ∨ (s.axis (BitVec.toNat b.wa)).st = AxisSt.paused) ∧ (s.axis (BitVec.toNat
      b.wa)).homed = false) ∧
  (∃ (s : State) (o : Origin) (b : SvcArgs), s.canCall o 655365 ∧ BitVec.toNat b.wa < 8 ∧ 0 < toInt 32 (BitVec.toNat (b.d.getD 0
      0)) ∧ 0 < toInt 32 (BitVec.toNat (b.d.getD 1 0)) ∧ ((s.axis (BitVec.toNat b.wa)).st = AxisSt.holding ∨ (s.axis
      (BitVec.toNat b.wa)).st = AxisSt.moving ∨ (s.axis (BitVec.toNat b.wa)).st = AxisSt.paused) ∧ (s.axis (BitVec.toNat
      b.wa)).homed = true ∧ (toInt 32 (BitVec.toNat b.wb) < s.getI (F.LOP_AX_PMIN_POS.at (BitVec.toNat b.wa)) ∨ s.getI
      (F.LOP_AX_PMAX_POS.at (BitVec.toNat b.wa)) < toInt 32 (BitVec.toNat b.wb))) ∧
  (∃ (s : State) (o : Origin) (b : SvcArgs), BitVec.toNat b.wa < 8 ∧ s.canCall o 655366 ∧ (s.axis (BitVec.toNat b.wa)).st =
      AxisSt.holding) ∧
  (∃ (s : State) (o : Origin) (b : SvcArgs), BitVec.toNat b.wa < 8 ∧ s.canCall o 655366 ∧ ((s.axis (BitVec.toNat b.wa)).st =
      AxisSt.moving ∨ (s.axis (BitVec.toNat b.wa)).st = AxisSt.paused) ∧ (s.axis (BitVec.toNat b.wa)).moveBy ≠ some o) ∧
  (∃ (s : State) (o : Origin) (b : SvcArgs), BitVec.toNat b.wa < 8 ∧ s.canCall o 655366 ∧ (s.axis (BitVec.toNat b.wa)).st =
      AxisSt.stopping) ∧
  (∃ (s : State) (o : Origin) (b : SvcArgs), BitVec.toNat b.wa < 8 ∧ s.canCall o 655366 ∧ (s.axis (BitVec.toNat b.wa)).st =
      AxisSt.disabled) ∧
  (∃ (s : State) (o : Origin) (b : SvcArgs), BitVec.toNat b.wa < 8 ∧ s.canCall o 655367 ∧ (s.axis (BitVec.toNat b.wa)).st =
      AxisSt.holding) ∧
  (∃ (s : State) (o : Origin) (b : SvcArgs), BitVec.toNat b.wa < 8 ∧ s.canCall o 655367 ∧ (s.axis (BitVec.toNat b.wa)).st =
      AxisSt.moving) ∧
  (∃ (s : State) (a : Nat), (s.axis a).st = AxisSt.releasing ∧ s.get (F.LOP_AX_BRAKE_RELEASE.at a) * 8 ≤ (s.axis a).ticks) ∧
  (∃ (s : State) (a : Nat), (s.axis a).st ≠ AxisSt.releasing ∨ (s.axis a).ticks < s.get (F.LOP_AX_BRAKE_RELEASE.at a) * 8) ∧
  (∃ (s : State) (a : Nat), (s.axis a).st = AxisSt.engaging ∧ (s.axis a).braking = true ∧ s.get (F.LOP_AX_BRAKE_ENGAGE.at a) * 8
      ≤ (s.axis a).ticks) ∧
  (∃ (s : State) (a : Nat), (s.axis a).st ≠ AxisSt.engaging ∨ (s.axis a).braking = false) ∧
  (∃ (s : State) (who : Requester) (a : Nat), s.mayWrite who ∧ (s.axis a).st = AxisSt.fault ∧ bit (s.drive (a / 4) (a % 4)).stat
      12 = false ∧ (s.drive (a / 4) (a % 4)).ok = true ∧ (s.drive (a / 4) (a % 4)).fault = false) ∧
  (∃ (s : State) (who : Requester) (a : Nat), s.mayWrite who ∧ ((s.axis a).st ≠ AxisSt.fault ∨ bit (s.drive (a / 4) (a % 4)).stat
      12 = true ∨ (s.drive (a / 4) (a % 4)).ok = false ∨ (s.drive (a / 4) (a % 4)).fault = true)) ∧
  (∃ (s : State) (p : Nat) (d : Nat), p < 2 ∧ d < 4 ∧ s.get (F.LOP_DL_CFG_EN.at p) ≠ 0 ∧ bit (s.get (F.LOP_DL_CFG_PRESENT.at p))
      d = true) ∧
  (∃ (s : State) (p : Nat) (d : Nat) (stat : Nat), p < 2 ∧ d < 4 ∧ s.get (F.LOP_DL_CFG_EN.at p) ≠ 0 ∧ bit (s.get
      (F.LOP_DL_CFG_PRESENT.at p)) d = true ∧ s.axisOn (4 * p + d) = true ∧ (bit stat 12 = true ∨ bit stat 11 = true)) ∧
  (∃ (s : State) (p : Nat) (d : Nat) (stat : Nat), p < 2 ∧ d < 4 ∧ s.get (F.LOP_DL_CFG_EN.at p) ≠ 0 ∧ bit (s.get
      (F.LOP_DL_CFG_PRESENT.at p)) d = true ∧ s.axisOn (4 * p + d) = true ∧ bit stat 12 = false ∧ bit stat 11 = false ∧ (s.axis
      (4 * p + d)).st = AxisSt.holding) ∧
  (∃ (s : State) (p : Nat) (d : Nat) (stat : Nat), p < 2 ∧ d < 4 ∧ s.get (F.LOP_DL_CFG_EN.at p) ≠ 0 ∧ bit (s.get
      (F.LOP_DL_CFG_PRESENT.at p)) d = true ∧ s.axisOn (4 * p + d) = true ∧ bit stat 12 = false ∧ bit stat 11 = false ∧ (s.axis
      (4 * p + d)).st = AxisSt.homing ∧ bit stat 8 = true) ∧
  (∃ (s : State) (p : Nat) (d : Nat), p < 2 ∧ d < 4 ∧ 3 ≤ (s.drive p d).misses) ∧
  (∃ (s : State) (p : Nat) (d : Nat), p < 2 ∧ d < 4 ∧ (s.drive p d).misses < 3) := by
  refine ⟨⟨(let s := dr .run {axes := [(7, {st := .holding, homed := true})], drives := [(7, {ok := true, got := true})]};
      ((((s.put (F.LOP_AX_PMIN_POS.at 7) 0xFFFFFF00).put (F.LOP_AX_PMAX_POS.at 7) 5000).put (F.LOP_AX_CFG_EN.at 7) 1).put
      (F.LOP_DL_CFG_EN.at 1) 1).put (F.LOP_DL_CFG_PRESENT.at 1) 8), (oP), ({wa := 7, wb := 0xFFFFFF00, d := [100, 50]}), ?_⟩,
    ⟨(let s := dr .run {axes := [(7, {st := .holding})], drives := [(7, {ok := true, got := true})]}; ((((s.put
        (F.LOP_AX_PMIN_POS.at 7) 0xFFFFFF00).put (F.LOP_AX_PMAX_POS.at 7) 5000).put (F.LOP_AX_CFG_EN.at 7) 1).put
        (F.LOP_DL_CFG_EN.at 1) 1).put (F.LOP_DL_CFG_PRESENT.at 1) 8), (oP), ({wa := 7, wb := 0xFFFFFF00, d := [100, 50]}), ?_⟩,
    ⟨(let s := dr .run {axes := [(7, {st := .holding, homed := true})], drives := [(7, {ok := true, got := true})]}; ((((s.put
        (F.LOP_AX_PMIN_POS.at 7) 0xFFFFFF00).put (F.LOP_AX_PMAX_POS.at 7) 5000).put (F.LOP_AX_CFG_EN.at 7) 1).put
        (F.LOP_DL_CFG_EN.at 1) 1).put (F.LOP_DL_CFG_PRESENT.at 1) 8), (oP), ({wa := 7, wb := 5001, d := [100, 50]}), ?_⟩,
    ⟨(let s := dr .run {axes := [(7, {st := .holding})], drives := [(7, {ok := true, got := true})]}; ((((s.put
        (F.LOP_AX_PMIN_POS.at 7) 0xFFFFFF00).put (F.LOP_AX_PMAX_POS.at 7) 5000).put (F.LOP_AX_CFG_EN.at 7) 1).put
        (F.LOP_DL_CFG_EN.at 1) 1).put (F.LOP_DL_CFG_PRESENT.at 1) 8), (oP), ({wa := 7, wb := 0xFFFFFF00, d := [100, 50]}), ?_⟩,
    ⟨(let s := dr .run {axes := [(7, {st := .moving, moveBy := some (.host 9 4)})], drives := [(7, {ok := true, got := true})]};
        ((((s.put (F.LOP_AX_PMIN_POS.at 7) 0xFFFFFF00).put (F.LOP_AX_PMAX_POS.at 7) 5000).put (F.LOP_AX_CFG_EN.at 7) 1).put
        (F.LOP_DL_CFG_EN.at 1) 1).put (F.LOP_DL_CFG_PRESENT.at 1) 8), (oP), ({wa := 7, wb := 0xFFFFFF00, d := [100, 50]}), ?_⟩,
    ⟨(let s := dr .run {axes := [(7, {st := .stopping})], drives := [(7, {ok := true, got := true})]}; ((((s.put
        (F.LOP_AX_PMIN_POS.at 7) 0xFFFFFF00).put (F.LOP_AX_PMAX_POS.at 7) 5000).put (F.LOP_AX_CFG_EN.at 7) 1).put
        (F.LOP_DL_CFG_EN.at 1) 1).put (F.LOP_DL_CFG_PRESENT.at 1) 8), (oP), ({wa := 7, wb := 0xFFFFFF00, d := [100, 50]}), ?_⟩,
    ⟨(let s := dr .run {axes := [(7, {st := .disabled})], drives := [(7, {ok := true, got := true})]}; ((((s.put
        (F.LOP_AX_PMIN_POS.at 7) 0xFFFFFF00).put (F.LOP_AX_PMAX_POS.at 7) 5000).put (F.LOP_AX_CFG_EN.at 7) 1).put
        (F.LOP_DL_CFG_EN.at 1) 1).put (F.LOP_DL_CFG_PRESENT.at 1) 8), (oP), ({wa := 7, wb := 0xFFFFFF00, d := [100, 50]}), ?_⟩,
    ⟨(let s := dr .run {axes := [(7, {st := .holding})], drives := [(7, {ok := true, got := true})]}; ((((s.put
        (F.LOP_AX_PMIN_POS.at 7) 0xFFFFFF00).put (F.LOP_AX_PMAX_POS.at 7) 5000).put (F.LOP_AX_CFG_EN.at 7) 1).put
        (F.LOP_DL_CFG_EN.at 1) 1).put (F.LOP_DL_CFG_PRESENT.at 1) 8), (oP), ({wa := 7, wb := 0xFFFFFF00, d := [100, 50]}), ?_⟩,
    ⟨(let s := dr .run {axes := [(7, {st := .moving})], drives := [(7, {ok := true, got := true})]}; ((((s.put
        (F.LOP_AX_PMIN_POS.at 7) 0xFFFFFF00).put (F.LOP_AX_PMAX_POS.at 7) 5000).put (F.LOP_AX_CFG_EN.at 7) 1).put
        (F.LOP_DL_CFG_EN.at 1) 1).put (F.LOP_DL_CFG_PRESENT.at 1) 8), (oP), ({wa := 7, wb := 0xFFFFFF00, d := [100, 50]}), ?_⟩,
    ⟨(let s := dr .run {axes := [(7, {st := .releasing, ticks := 999999, p := 5})], drives := [(7, {ok := true, got := true})]};
        ((((s.put (F.LOP_AX_PMIN_POS.at 7) 0xFFFFFF00).put (F.LOP_AX_PMAX_POS.at 7) 5000).put (F.LOP_AX_CFG_EN.at 7) 1).put
        (F.LOP_DL_CFG_EN.at 1) 1).put (F.LOP_DL_CFG_PRESENT.at 1) 8), (7), ?_⟩,
    ⟨(let s := dr .run {axes := [(7, {st := .releasing})], drives := [(7, {ok := true, got := true})]}; ((((s.put
        (F.LOP_AX_PMIN_POS.at 7) 0xFFFFFF00).put (F.LOP_AX_PMAX_POS.at 7) 5000).put (F.LOP_AX_CFG_EN.at 7) 1).put
        (F.LOP_DL_CFG_EN.at 1) 1).put (F.LOP_DL_CFG_PRESENT.at 1) 8), (7), ?_⟩,
    ⟨(let s := dr .run {axes := [(7, {st := .engaging, braking := true, ticks := 999999})], drives := [(7, {ok := true, got := true})]}; ((((s.put (F.LOP_AX_PMIN_POS.at 7) 0xFFFFFF00).put (F.LOP_AX_PMAX_POS.at 7) 5000).put (F.LOP_AX_CFG_EN.at 7) 1).put (F.LOP_DL_CFG_EN.at 1) 1).put (F.LOP_DL_CFG_PRESENT.at 1) 8), (7), ?_⟩,
    ⟨(let s := dr .run {axes := [(7, {st := .engaging})], drives := [(7, {ok := true, got := true})]}; ((((s.put
        (F.LOP_AX_PMIN_POS.at 7) 0xFFFFFF00).put (F.LOP_AX_PMAX_POS.at 7) 5000).put (F.LOP_AX_CFG_EN.at 7) 1).put
        (F.LOP_DL_CFG_EN.at 1) 1).put (F.LOP_DL_CFG_PRESENT.at 1) 8), (7), ?_⟩,
    ⟨(let s := dr .run {axes := [(7, {st := .fault})], drives := [(7, {ok := true, got := true})]}; ((((s.put
        (F.LOP_AX_PMIN_POS.at 7) 0xFFFFFF00).put (F.LOP_AX_PMAX_POS.at 7) 5000).put (F.LOP_AX_CFG_EN.at 7) 1).put
        (F.LOP_DL_CFG_EN.at 1) 1).put (F.LOP_DL_CFG_PRESENT.at 1) 8), (.session 9), (7), ?_⟩,
    ⟨(let s := dr .run {axes := [(7, {st := .holding})], drives := [(7, {ok := true, got := true})]}; ((((s.put
        (F.LOP_AX_PMIN_POS.at 7) 0xFFFFFF00).put (F.LOP_AX_PMAX_POS.at 7) 5000).put (F.LOP_AX_CFG_EN.at 7) 1).put
        (F.LOP_DL_CFG_EN.at 1) 1).put (F.LOP_DL_CFG_PRESENT.at 1) 8), (.engine 1), (7), ?_⟩,
    ⟨(let s := dr .run {axes := [(7, {st := .holding})], drives := [(7, {ok := true, got := true})]}; ((((s.put
        (F.LOP_AX_PMIN_POS.at 7) 0xFFFFFF00).put (F.LOP_AX_PMAX_POS.at 7) 5000).put (F.LOP_AX_CFG_EN.at 7) 1).put
        (F.LOP_DL_CFG_EN.at 1) 1).put (F.LOP_DL_CFG_PRESENT.at 1) 8), (1), (3), ?_⟩,
    ⟨(let s := dr .run {axes := [(7, {st := .holding, moveBy := some oH})], drives := [(7, {ok := true, got := true})]};
        ((((s.put (F.LOP_AX_PMIN_POS.at 7) 0xFFFFFF00).put (F.LOP_AX_PMAX_POS.at 7) 5000).put (F.LOP_AX_CFG_EN.at 7) 1).put
        (F.LOP_DL_CFG_EN.at 1) 1).put (F.LOP_DL_CFG_PRESENT.at 1) 8), (1), (3), (0x1000), ?_⟩,
    ⟨(let s := dr .run {axes := [(7, {st := .holding, offset := 4, p := 7})], drives := [(7, {ok := true, got := true})]};
        ((((s.put (F.LOP_AX_PMIN_POS.at 7) 0xFFFFFF00).put (F.LOP_AX_PMAX_POS.at 7) 5000).put (F.LOP_AX_CFG_EN.at 7) 1).put
        (F.LOP_DL_CFG_EN.at 1) 1).put (F.LOP_DL_CFG_PRESENT.at 1) 8), (1), (3), (0), ?_⟩,
    ⟨(let s := dr .run {axes := [(7, {st := .homing, homeBy := some oH})], drives := [(7, {ok := true, got := true})]}; ((((s.put
        (F.LOP_AX_PMIN_POS.at 7) 0xFFFFFF00).put (F.LOP_AX_PMAX_POS.at 7) 5000).put (F.LOP_AX_CFG_EN.at 7) 1).put
        (F.LOP_DL_CFG_EN.at 1) 1).put (F.LOP_DL_CFG_PRESENT.at 1) 8), (1), (3), (0x100), ?_⟩,
    ⟨(dr .run {axes := [(7, {st := .moving, moveBy := some oP})], drives := [(7, {misses := 3})]}), (1), (3), ?_⟩,
    ⟨(dr .run {drives := [(7, {misses := 2})]}), (1), (3), ?_⟩⟩
  all_goals
    repeat' first
      | (unfold HxmMsg.sentAs; rfl)
      | decide +kernel
      | exact mayWrite_engine
      | (apply mayWrite_of; decide +kernel)
      | (apply canCall_program; decide +kernel)
      | (apply canCall_host <;> decide +kernel)
      | (apply canIssue_of; decide +kernel)
      | (apply hasNext_of; decide +kernel)
      | apply runsOn_of
      | (apply ownElem_of; decide +kernel)
      | (apply awaits_program; decide +kernel)
      | (apply awaits_host; decide +kernel)
      | (apply unheld_of; decide +kernel)
      | (apply hasSlot_of; decide +kernel)
      | (apply askedBy_of; decide +kernel)
      | (apply canAsk_of <;> decide +kernel)
      | (apply hears_of (c := 12) <;> decide +kernel)
      | (apply not_hears_of; decide +kernel)
      | (apply memOk_of; decide +kernel)
      | (apply all_below; decide +kernel)
      | (intro _ h; cases h; done)
      | (intro _ _ h; cases h; done)
      | (apply dmaMay_of; decide +kernel)
      | (apply dmaMay_all; decide +kernel)
      | (apply exists_some; decide +kernel)
      | (apply all_some; decide +kernel)
      | apply And.intro
      | exact rfl
      | (intro _ h; exact absurd (show Origin.quiet = _ from h) (by decide +kernel))

theorem wit_ShortPassesRunOneAtATime :
  (∃ (s : State), s.drv.passOn = true ∧ s.passMode = true ∧ s.drv.slotAt ≠ some s.num ∧ s.frame.off ≤ 8800000 ∧ s.drv.passLand ≠
      63) ∧
  (∃ (s : State), s.drv.passOn = true ∧ s.passMode = true ∧ s.drv.slotAt ≠ some s.num ∧ s.frame.off ≤ 8800000 ∧ s.drv.passLand =
      63 ∧ s.drv.passWait = []) ∧
  (∃ (s : State), s.drv.passOn = true ∧ s.passMode = true ∧ s.drv.slotAt ≠ some s.num ∧ s.frame.off ≤ 8800000 ∧ s.drv.passLand =
      63 ∧ s.drv.passWait ≠ []) ∧
  (∃ (s : State), s.drv.passOn = false ∨ s.passMode = false ∨ s.drv.slotAt = some s.num ∨ 8800000 < s.frame.off) ∧
  (∃ (s : State), s.drv.passOn = false ∧ s.passMode = true ∧ (s.drv.startPass = true ∨ s.get F.DRV_SHORTCFG_EVERY ≠ 0 ∧ s.get
      F.DRV_SHORTCFG_EVERY * 1000000000 ≤ s.mono - s.drv.passAt)) ∧
  (∃ (s : State), s.drv.passOn = true ∨ s.passMode = false) ∧
  (∃ (s : State) (who : Requester), s.mayWrite who ∧ s.drv.passOn = false) ∧
  (∃ (s : State) (who : Requester), s.mayWrite who ∧ s.drv.passOn = true) ∧
  (∃ (s : State) (o : Origin), s.canCall o 589825 ∧ s.drv.passOn = false) ∧
  (∃ (s : State) (o : Origin), s.canCall o 589825 ∧ s.drv.passOn = true) := by
  refine ⟨⟨(dr .run {passOn := true, passLand := 62, passPairs := [(1,2)]}), ?_⟩,
    ⟨(dr .run {passOn := true, passLand := 63, passPairs := [(1,2)]}), ?_⟩,
    ⟨(dr .run {passOn := true, passLand := 63, passPairs := [(1,2)], passWait := [oH]}), ?_⟩,
    ⟨(dr .run {}), ?_⟩,
    ⟨(dr .run {startPass := true, passWait := [oH]}), ?_⟩,
    ⟨(dr .run {passOn := true}), ?_⟩,
    ⟨(dr .run {passWait := [oH]}), (.session 9), ?_⟩,
    ⟨(dr .run {passOn := true}), (.session 9), ?_⟩,
    ⟨(dr .run {passWait := [.host 3 4]}), (oP), ?_⟩,
    ⟨(dr .run {passOn := true, passWait := [.host 3 4]}), (oP), ?_⟩⟩
  all_goals
    repeat' first
      | (unfold HxmMsg.sentAs; rfl)
      | decide +kernel
      | exact mayWrite_engine
      | (apply mayWrite_of; decide +kernel)
      | (apply canCall_program; decide +kernel)
      | (apply canCall_host <;> decide +kernel)
      | (apply canIssue_of; decide +kernel)
      | (apply hasNext_of; decide +kernel)
      | apply runsOn_of
      | (apply ownElem_of; decide +kernel)
      | (apply awaits_program; decide +kernel)
      | (apply awaits_host; decide +kernel)
      | (apply unheld_of; decide +kernel)
      | (apply hasSlot_of; decide +kernel)
      | (apply askedBy_of; decide +kernel)
      | (apply canAsk_of <;> decide +kernel)
      | (apply hears_of (c := 12) <;> decide +kernel)
      | (apply not_hears_of; decide +kernel)
      | (apply memOk_of; decide +kernel)
      | (apply all_below; decide +kernel)
      | (intro _ h; cases h; done)
      | (intro _ _ h; cases h; done)
      | (apply dmaMay_of; decide +kernel)
      | (apply dmaMay_all; decide +kernel)
      | (apply exists_some; decide +kernel)
      | (apply all_some; decide +kernel)
      | apply And.intro
      | exact rfl
      | (intro _ h; exact absurd (show Origin.quiet = _ from h) (by decide +kernel))

end Sys2Proof.Tests.Drive
end

