-- ==== Sys2Proof/Tests/WitnessGallery.lean ====
section
/-! SUPPORT. Witnesses: for each statement, states and operands that meet the hypotheses of its clauses together. -/

namespace Sys2Proof.Tests.Gallery
open Sys2Proof Sys2Proof.Machine Sys2Proof.Tests
set_option Elab.async false
set_option linter.unusedTactic false
set_option linter.unreachableTactic false

def tick (s : State) (b e : Nat) : State := s.put ((if e % 4 = 0 then F.GAL_TKT_TKT0 else if e % 4 = 2 then F.GAL_TKT_TKT2 else
    F.GAL_TKT_TKT3).at2 b (e / 4)) 3
def masked (s : State) (e : Nat) : State := s.modGal fun g => { g with masked := [e] }

theorem wit_SemaphoresChangeHands :
  (∃ (s : State) (n : Nat) (e : Nat) (readers : List Requester), semWinner s.gal.semLast (List.filterMap Requester.acquirer
      readers) = some e ∧ n < 128 ∧ s.get (F.SEM_SEMn_OWNER.at n) = 31 ∧ (∀ r ∈ readers, Requester.awake s r = true)) ∧
  (∃ (s : State) (n : Nat), s.get (F.SEM_SEMn_OWNER.at n) ≠ 31) ∧
  (∃ (s : State) (n : Nat) (e : Nat) (who : Requester) (readers : List Requester), semWinner s.gal.semLast (List.filterMap
      Requester.acquirer readers) = some e ∧ n < 128 ∧ who.acquirer = some (s.get (F.SEM_SEMn_OWNER.at n)) ∧ (∀ r ∈ readers,
      Requester.awake s r = true)) ∧
  (∃ (s : State) (n : Nat) (e : Nat) (readers : List Requester), semWinner s.gal.semLast (List.filterMap Requester.acquirer
      readers) = some e ∧ n < 128 ∧ s.get (F.SEM_SEMn_OWNER.at n) < 28 ∧ (∀ r ∈ readers, Requester.awake s r = true ∧ r ≠
      Requester.engine (s.get (F.SEM_SEMn_OWNER.at n)))) ∧
  (∃ (s : State) (n : Nat) (who : Requester) (w : Word), n < 128 ∧ Requester.awake s who = true ∧ bit (BitVec.toNat w) 0 = true ∧
      who.acquirer = some (s.get (F.SEM_SEMn_OWNER.at n))) ∧
  (∃ (s : State) (n : Nat) (who : Requester) (w : Word), n < 128 ∧ Requester.awake s who = true ∧ bit (BitVec.toNat w) 0 = true ∧
      who.acquirer ≠ some (s.get (F.SEM_SEMn_OWNER.at n))) ∧
  (∃ (s : State) (who : Requester) (w : Word), s.live = true ∧ (s.mode = Mode.stop ∨ s.mode = Mode.hold) ∧ Requester.awake s who
      = true ∧ 1 ≤ s.roleOf who ∧ bit (BitVec.toNat w) 31 = true) := by
  refine ⟨⟨(live .stop), 127, 3, [.engine 3, .engine 5], ?_⟩,
    ⟨(({} : State).put (F.SEM_SEMn_OWNER.at 4) 2), 4, ?_⟩,
    ⟨(({} : State).put (F.SEM_SEMn_OWNER.at 4) 2), 4, 4, (.engine 2), [.engine 9, .engine 4], ?_⟩,
    ⟨(({} : State).put (F.SEM_SEMn_OWNER.at 4) 2), 4, 4, [.engine 9, .engine 4], ?_⟩,
    ⟨(({} : State).put (F.SEM_SEMn_OWNER.at 4) 2), 4, (.engine 2), 1, ?_⟩,
    ⟨(({} : State).put (F.SEM_SEMn_OWNER.at 4) 2), 4, (.engine 3), 1, ?_⟩,
    ⟨(live .stop), (.engine 3), 0x8000007F, ?_⟩⟩
  all_goals
    repeat' first
      | (unfold HxmMsg.sentAs; rfl)
      | decide +kernel
      | exact mayWrite_engine
      | (apply mayWrite_of; decide +kernel)
      | (apply canCall_program; decide +kernel)
      | (apply canCall_host <;> decide +kernel)
      | (apply canIssue_of; decide +kernel)
      | (apply hasNext_of; decide +kernel)
      | apply runsOn_of
      | (apply ownElem_of; decide +kernel)
      | (apply awaits_program; decide +kernel)
      | (apply awaits_host; decide +kernel)
      | (apply unheld_of; decide +kernel)
      | (apply hasSlot_of; decide +kernel)
      | (apply askedBy_of; decide +kernel)
      | (apply canAsk_of <;> decide +kernel)
      | (apply hears_of (c := 12) <;> decide +kernel)
      | (apply not_hears_of; decide +kernel)
      | (apply memOk_of; decide +kernel)
      | (apply all_below; decide +kernel)
      | (intro _ h; cases h; done)
      | (intro _ _ h; cases h; done)
      | (apply dmaMay_of; decide +kernel)
      | (apply dmaMay_all; decide +kernel)
      | (apply exists_some; decide +kernel)
      | (apply all_some; decide +kernel)
      | apply And.intro
      | exact rfl
      | (intro _ h; exact absurd (show Origin.quiet = _ from h) (by decide +kernel))

theorem wit_FifosKeepTheirOrder :
  (∃ (s : State) (f : Nat), s.fifoOn f = true ∧ s.awake (s.get (F.FIF_CFG_PRODUCER.at f)) = true ∧ (s.fifo f).dropping = false ∧
      (s.fifo f).entries.length < s.fifoCap f) ∧
  (∃ (s : State) (f : Nat), s.fifoOn f = true ∧ s.awake (s.get (F.FIF_CFG_PRODUCER.at f)) = true ∧ (s.fifo f).dropping = false ∧
      (s.fifo f).entries.length = s.fifoCap f) ∧
  (∃ (s : State) (f : Nat) (x : FifoEntry) (l : List FifoEntry), s.fifoOn f = true ∧ s.awake (s.get (F.FIF_CFG_CONSUMER.at f)) =
      true ∧ (s.fifo f).entries = x :: l) ∧
  (∃ (s : State) (f : Nat) (x : FifoEntry) (l : List FifoEntry), s.fifoOn f = true ∧ s.awake (s.get (F.FIF_CFG_CONSUMER.at f)) =
      true ∧ s.awake (s.get (F.FIF_CFG_PRODUCER.at f)) = true ∧ (s.fifo f).dropping = false ∧ (s.fifo f).entries = x :: l ∧
      (s.fifo f).entries.length ≤ s.fifoCap f) ∧
  (∃ (s : State) (f : Nat) (e : Nat), s.fifoOn f = true ∧ s.awake e = true ∧ (e < 2 ∨ s.get (F.FIF_CFG_CONSUMER.at f) = e)) ∧
  (∃ (s : State) (f : Nat) (i : Nat), findIdx FifoEntry.tag (s.fifo f).entries = some i ∧ s.fifoOn f = true ∧ s.awake (s.get
      (F.FIF_CFG_CONSUMER.at f)) = true ∧ (s.fifo f).lastTag = false) ∧
  (∃ (s : State) (f : Nat) (who : Requester) (w : Word), s.fifoOn f = false ∧ Requester.awake s who = true ∧ 1 ≤ s.roleOf who ∧
      s.mode ≠ Mode.recovery ∧ bits (BitVec.toNat w) 25 24 ≠ 3) := by
  refine ⟨⟨(fifo5 []), 5, ?_⟩,
    ⟨full5, 5, ?_⟩,
    ⟨(fifo5 [⟨3,4,true⟩]), 5, ⟨3,4,true⟩, [], ?_⟩,
    ⟨(fifo5 [⟨3,4,true⟩]), 5, ⟨3,4,true⟩, [], ?_⟩,
    ⟨(fifo5 [⟨3,4,true⟩]), 5, 1, ?_⟩,
    ⟨(fifo5 [⟨3,4,false⟩,⟨3,4,true⟩,⟨5,6,false⟩]), 5, 1, ?_⟩,
    ⟨(live .stop), 63, (.engine 0), 0x82040500, ?_⟩⟩
  all_goals
    repeat' first
      | (unfold HxmMsg.sentAs; rfl)
      | decide +kernel
      | exact mayWrite_engine
      | (apply mayWrite_of; decide +kernel)
      | (apply canCall_program; decide +kernel)
      | (apply canCall_host <;> decide +kernel)
      | (apply canIssue_of; decide +kernel)
      | (apply hasNext_of; decide +kernel)
      | apply runsOn_of
      | (apply ownElem_of; decide +kernel)
      | (apply awaits_program; decide +kernel)
      | (apply awaits_host; decide +kernel)
      | (apply unheld_of; decide +kernel)
      | (apply hasSlot_of; decide +kernel)
      | (apply askedBy_of; decide +kernel)
      | (apply canAsk_of <;> decide +kernel)
      | (apply hears_of (c := 12) <;> decide +kernel)
      | (apply not_hears_of; decide +kernel)
      | (apply memOk_of; decide +kernel)
      | (apply all_below; decide +kernel)
      | (intro _ h; cases h; done)
      | (intro _ _ h; cases h; done)
      | (apply dmaMay_of; decide +kernel)
      | (apply dmaMay_all; decide +kernel)
      | (apply exists_some; decide +kernel)
      | (apply all_some; decide +kernel)
      | apply And.intro
      | exact rfl
      | (intro _ h; exact absurd (show Origin.quiet = _ from h) (by decide +kernel))

theorem wit_GalleryServesTheWinner :
  (∃ (s : State) (b : Nat) (q : GalReq), galleryBank q.addr = some b ∧ b < 16 ∧ s.memOk ∧ s.gal.pending = [] ∧ s.awake q.req =
      true ∧ q.whole = true ∧ q.req < 28 ∧ y0Allowed q.req b q.op = true ∧ 0 < s.tickets b q.req ∧ q.op ≠ 0 ∧ q.len ≤
      q.data.length ∧ q.ecc = []) ∧
  (∃ (s : State) (b : Nat) (q : GalReq), galleryBank q.addr = some b ∧ b < 16 ∧ s.gal.pending = [] ∧ s.awake q.req = true ∧
      q.whole = true ∧ q.req < 28 ∧ y0Allowed q.req b q.op = true ∧ 0 < s.tickets b q.req ∧ q.op = 0 ∧ q.ecc = []) ∧
  (∃ (s : State) (b : Nat) (q : GalReq), galleryBank q.addr = some b ∧ b < 16 ∧ s.gal.pending = [] ∧ s.awake q.req = true ∧
      q.whole = true ∧ q.req < 28 ∧ y0Allowed q.req b q.op = true ∧ s.tickets b q.req = 0) := by
  refine ⟨⟨(tick (live .run) 15 0), 15, ⟨0, 0x10780000, 1, [1,2,3,4,5,6,7,8], 8, []⟩, ?_⟩,
    ⟨(tick (live .run) 0 0), 0, ⟨0, 0x10000008, 0, [], 8, []⟩, ?_⟩,
    ⟨((live .run).put (F.GAL_TKT_TKT3.at2 0 0) 0), 0, ⟨3, 0x10000008, 0, [], 8, []⟩, ?_⟩⟩
  all_goals
    repeat' first
      | (unfold HxmMsg.sentAs; rfl)
      | decide +kernel
      | exact mayWrite_engine
      | (apply mayWrite_of; decide +kernel)
      | (apply canCall_program; decide +kernel)
      | (apply canCall_host <;> decide +kernel)
      | (apply canIssue_of; decide +kernel)
      | (apply hasNext_of; decide +kernel)
      | apply runsOn_of
      | (apply ownElem_of; decide +kernel)
      | (apply awaits_program; decide +kernel)
      | (apply awaits_host; decide +kernel)
      | (apply unheld_of; decide +kernel)
      | (apply hasSlot_of; decide +kernel)
      | (apply askedBy_of; decide +kernel)
      | (apply canAsk_of <;> decide +kernel)
      | (apply hears_of (c := 12) <;> decide +kernel)
      | (apply not_hears_of; decide +kernel)
      | (apply memOk_of; decide +kernel)
      | (apply all_below; decide +kernel)
      | (intro _ h; cases h; done)
      | (intro _ _ h; cases h; done)
      | (apply dmaMay_of; decide +kernel)
      | (apply dmaMay_all; decide +kernel)
      | (apply exists_some; decide +kernel)
      | (apply all_some; decide +kernel)
      | apply And.intro
      | exact rfl
      | (intro _ h; exact absurd (show Origin.quiet = _ from h) (by decide +kernel))

theorem wit_DmaCopiesForCuratorsOnly :
  (∃ (s : State) (e : Nat) (d : Nat) (src : Nat) (dst : Nat) (len : Nat), e < 2 ∧ s.awake e = true ∧ 24 ≤ d ∧ d ≤ 27 ∧ s.awake d
      = true ∧ s.memOk ∧ (∀ i < len, s.dmaMay d (src + i) 0) ∧ (∀ i < len, s.dmaMay d (dst + i) 1) ∧ (src + len ≤ dst ∨ dst + len
      ≤ src)) ∧
  (∃ (s : State) (e : Nat) (d : Nat) (src : Nat) (len : Nat), e < 2 ∧ s.awake e = true ∧ 24 ≤ d ∧ d ≤ 27 ∧ s.awake d = true ∧
      s.dmaMay d src 0 ∧ (galleryBank src).isSome = true ∧ src % 8 = 0 ∧ 0 < len) ∧
  (∃ (s : State) (e : Nat), 2 ≤ e ∧ s.awake e = true) ∧
  (∃ (s : State) (e : Nat) (d : Nat), e < 2 ∧ (d < 24 ∨ 27 < d ∨ s.awake d = false)) := by
  refine ⟨⟨(tick (live .run) 0 24), 1, 24, 0x10000008, 0x10000100, 4, ?_⟩,
    ⟨(tick (live .run) 0 24), 1, 24, 0x10000008, 4, ?_⟩,
    ⟨(live .run), 2, ?_⟩,
    ⟨(live .run), 0, 23, ?_⟩⟩
  all_goals
    repeat' first
      | (unfold HxmMsg.sentAs; rfl)
      | decide +kernel
      | exact mayWrite_engine
      | (apply mayWrite_of; decide +kernel)
      | (apply canCall_program; decide +kernel)
      | (apply canCall_host <;> decide +kernel)
      | (apply canIssue_of; decide +kernel)
      | (apply hasNext_of; decide +kernel)
      | apply runsOn_of
      | (apply ownElem_of; decide +kernel)
      | (apply awaits_program; decide +kernel)
      | (apply awaits_host; decide +kernel)
      | (apply unheld_of; decide +kernel)
      | (apply hasSlot_of; decide +kernel)
      | (apply askedBy_of; decide +kernel)
      | (apply canAsk_of <;> decide +kernel)
      | (apply hears_of (c := 12) <;> decide +kernel)
      | (apply not_hears_of; decide +kernel)
      | (apply memOk_of; decide +kernel)
      | (apply all_below; decide +kernel)
      | (intro _ h; cases h; done)
      | (intro _ _ h; cases h; done)
      | (apply dmaMay_of; decide +kernel)
      | (apply dmaMay_all; decide +kernel)
      | (apply exists_some; decide +kernel)
      | (apply all_some; decide +kernel)
      | apply And.intro
      | exact rfl
      | (intro _ h; exact absurd (show Origin.quiet = _ from h) (by decide +kernel))

theorem wit_SidebandMasksTheEngine :
  (∃ (e : Nat), e < 31) := by
  refine ⟨7, ?_⟩
  all_goals
    repeat' first
      | (unfold HxmMsg.sentAs; rfl)
      | decide +kernel
      | exact mayWrite_engine
      | (apply mayWrite_of; decide +kernel)
      | (apply canCall_program; decide +kernel)
      | (apply canCall_host <;> decide +kernel)
      | (apply canIssue_of; decide +kernel)
      | (apply hasNext_of; decide +kernel)
      | apply runsOn_of
      | (apply ownElem_of; decide +kernel)
      | (apply awaits_program; decide +kernel)
      | (apply awaits_host; decide +kernel)
      | (apply unheld_of; decide +kernel)
      | (apply hasSlot_of; decide +kernel)
      | (apply askedBy_of; decide +kernel)
      | (apply canAsk_of <;> decide +kernel)
      | (apply hears_of (c := 12) <;> decide +kernel)
      | (apply not_hears_of; decide +kernel)
      | (apply memOk_of; decide +kernel)
      | (apply all_below; decide +kernel)
      | (intro _ h; cases h; done)
      | (intro _ _ h; cases h; done)
      | (apply dmaMay_of; decide +kernel)
      | (apply dmaMay_all; decide +kernel)
      | (apply exists_some; decide +kernel)
      | (apply all_some; decide +kernel)
      | apply And.intro
      | exact rfl
      | (intro _ h; exact absurd (show Origin.quiet = _ from h) (by decide +kernel))

theorem wit_SessionContextsOpenAndClose :
  (∃ (s : State) (typ : Nat), s.live = true ∧ s.mode ≠ Mode.recovery ∧ s.quotaOk typ = true) ∧
  (∃ (s : State) (typ : Nat), s.quotaOk typ = false ∨ s.live = true ∧ s.mode = Mode.recovery) ∧
  (∃ (s : State) (c : Nat) (x : Session), s.session c = some x ∧ ((x.window.all fun x => x.done) = true)) ∧
  (∃ (s : State) (c : Nat) (x : Session), s.session c = some x ∧ ((x.window.all fun x => x.done) = false)) := by
  refine ⟨⟨(live .stop), 1, ?_⟩,
    ⟨(live .recovery), 1, ?_⟩,
    ⟨(live .stop), 3, ((((live .stop) : State).session (3 : Nat)).get (by decide +kernel)), ?_⟩,
    ⟨((live .stop).setSession 3 {typ := 0, window := [{seq := 1}]}), 3, (((((live .stop).setSession 3
        {typ := 0, window := [{seq := 1}]}) : State).session (3 : Nat)).get (by decide +kernel)), ?_⟩⟩
  all_goals
    repeat' first
      | (unfold HxmMsg.sentAs; rfl)
      | decide +kernel
      | exact mayWrite_engine
      | (apply mayWrite_of; decide +kernel)
      | (apply canCall_program; decide +kernel)
      | (apply canCall_host <;> decide +kernel)
      | (apply canIssue_of; decide +kernel)
      | (apply hasNext_of; decide +kernel)
      | apply runsOn_of
      | (apply ownElem_of; decide +kernel)
      | (apply awaits_program; decide +kernel)
      | (apply awaits_host; decide +kernel)
      | (apply unheld_of; decide +kernel)
      | (apply hasSlot_of; decide +kernel)
      | (apply askedBy_of; decide +kernel)
      | (apply canAsk_of <;> decide +kernel)
      | (apply hears_of (c := 12) <;> decide +kernel)
      | (apply not_hears_of; decide +kernel)
      | (apply memOk_of; decide +kernel)
      | (apply all_below; decide +kernel)
      | (intro _ h; cases h; done)
      | (intro _ _ h; cases h; done)
      | (apply dmaMay_of; decide +kernel)
      | (apply dmaMay_all; decide +kernel)
      | (apply exists_some; decide +kernel)
      | (apply all_some; decide +kernel)
      | apply And.intro
      | exact rfl
      | (intro _ h; exact absurd (show Origin.quiet = _ from h) (by decide +kernel))

theorem wit_RegisterAccessIsJudgedThenDone :
  (∃ (s : State) (who : Requester) (addr : Nat) (w : Word) (r : RegDesc) (i : Nat) (j : Nat), Requester.awake s who = true ∧
      findReg addr = some (r, i, j) ∧ s.judge { r := r, i := i, j := j, w := BitVec.toNat w, who := who } ≠ St.done) ∧
  (∃ (s : State) (who : Requester) (addr : Nat) (w : Word) (r : RegDesc) (i : Nat) (j : Nat), Requester.awake s who = true ∧
      findReg addr = some (r, i, j) ∧ s.judge { r := r, i := i, j := j, w := BitVec.toNat w, who := who } = St.done ∧ (r.addr /
      65536 ∈ [18, 19, 20] ∨ r.addr / 65536 = 0 ∧ r.addr ≠ 12)) ∧
  (∃ (s : State) (addr : Nat) (e : Nat), findReg addr = none ∧ s.awake e = true) ∧
  (∃ (s : State) (addr : Nat) (c : Nat), findReg addr = none ∧ writeRole addr ≤ s.roleOf (Requester.session c) ∧ s.mode ≠
      Mode.recovery) ∧
  (∃ (s : State) (e : Nat), s.awake e = false) ∧
  (∃ (c : Nat) (d : Nat), c < d) ∧
  (∃ (s : State) (who : Requester) (addr : Nat) (r : RegDesc) (i : Nat) (j : Nat), Requester.awake s who = true ∧ findReg addr =
      some (r, i, j) ∧ r.addr ∉ [131072, 196624, 262144, 917520, 917764, 983040, 983064, 1052672, 1638420]) ∧
  (∃ (s : State) (who : Requester), Requester.awake s who = true) := by
  refine ⟨⟨(live .run), (.engine 0), 0x10000, 0, ((findReg 0x10000).get (by decide +kernel)).1, 0, 0, ?_⟩,
    ⟨(live .run), (.engine 0), 0x130000, 0, ((findReg 0x130000).get (by decide +kernel)).1, 0, 0, ?_⟩,
    ⟨(live .run), 0x1FFFFC, 0, ?_⟩,
    ⟨(live .run), 0x1FFFFC, 3, ?_⟩,
    ⟨(masked (live .run) 2), 2, ?_⟩,
    ⟨3, 9, ?_⟩,
    ⟨(live .run), (.engine 0), 0x30020, ((findReg 0x30020).get (by decide +kernel)).1, 0, 0, ?_⟩,
    ⟨((live .run).put F.SEM_ERR_FOREIGN 3), (.engine 0), ?_⟩⟩
  all_goals
    repeat' first
      | (unfold HxmMsg.sentAs; rfl)
      | decide +kernel
      | exact mayWrite_engine
      | (apply mayWrite_of; decide +kernel)
      | (apply canCall_program; decide +kernel)
      | (apply canCall_host <;> decide +kernel)
      | (apply canIssue_of; decide +kernel)
      | (apply hasNext_of; decide +kernel)
      | apply runsOn_of
      | (apply ownElem_of; decide +kernel)
      | (apply awaits_program; decide +kernel)
      | (apply awaits_host; decide +kernel)
      | (apply unheld_of; decide +kernel)
      | (apply hasSlot_of; decide +kernel)
      | (apply askedBy_of; decide +kernel)
      | (apply canAsk_of <;> decide +kernel)
      | (apply hears_of (c := 12) <;> decide +kernel)
      | (apply not_hears_of; decide +kernel)
      | (apply memOk_of; decide +kernel)
      | (apply all_below; decide +kernel)
      | (intro _ h; cases h; done)
      | (intro _ _ h; cases h; done)
      | (apply dmaMay_of; decide +kernel)
      | (apply dmaMay_all; decide +kernel)
      | (apply exists_some; decide +kernel)
      | (apply all_some; decide +kernel)
      | apply And.intro
      | exact rfl
      | (intro _ h; exact absurd (show Origin.quiet = _ from h) (by decide +kernel))

end Sys2Proof.Tests.Gallery
end

