-- ==== Sys2Proof/Tests/WitnessHxm.lean ====
section
/-! SUPPORT. Witnesses: for each statement, states and operands that meet the hypotheses of its clauses together. -/

namespace Sys2Proof.Tests.Hxm
open Sys2Proof Sys2Proof.Machine Sys2Proof.Tests
set_option Elab.async false
set_option linter.unusedTactic false
set_option linter.unreachableTactic false
set_option maxRecDepth 4000



theorem wit_RadiosSendTheirScheduledFrames :
  (∃ (s : State) (r : Nat), s.hasSlot r ∧ s.radioOn r = true ∧ s.num % 10 = 0 ∧ s.frame.transitional = false ∧ 0 ∉ (s.radio
      r).sent ∧ s.frame.off ≤ 1000 * s.beaconStart r + 2000) ∧
  (∃ (s : State) (r : Nat), s.hasSlot r ∧ s.radioOn r = true ∧ s.num % 10 = 0 ∧ s.frame.transitional = false ∧ (0 ∈ (s.radio
      r).sent ∨ 1000 * s.beaconStart r + 2000 < s.frame.off)) ∧
  (∃ (s : State) (r : Nat), s.num % 10 ≠ 0 ∨ s.radioOn r = false) ∧
  (∃ (s : State) (r : Nat), s.hasSlot r ∧ s.commitDue r = true ∧ 1 ∉ (s.radio r).sent ∧ s.frame.off ≤ 7102000) ∧
  (∃ (s : State) (r : Nat), s.commitDue r = false) ∧
  (∃ (s : State), 7102000 < s.frame.off) ∧
  (∃ (s : State) (r : Nat), s.hasSlot r ∧ s.commitDue r = true ∧ s.num % 10 ≠ 0 ∧ (s.radio r).exclusions ≠ [] ∧ 2 ∉ (s.radio
      r).sent ∧ s.frame.off ≤ 1000 * (7050 - airTime (s.phy r) (8 + 3 * (s.radio r).exclusions.length)) + 2000) ∧
  (∃ (s : State) (r : Nat), s.hasSlot r ∧ s.radioOn r = true ∧ s.num % 10 = 0 ∧ (s.radio r).chgPending = true ∧ (s.radio
      r).chgSilent = false ∧ (s.radio r).chgAt = none ∧ 4 ∉ (s.radio r).sent ∧ (s.mapFits r (s.beaconEnd r) (if (s.radio
      r).sent.contains 0 = true then (s.radio r).cells else 0) = true) ∧ (s.frame.off ≤ 1000 * (s.cellsEnd r (s.beaconEnd r) (if
      (s.radio r).sent.contains 0 = true then (s.radio r).cells else 0) + 250) + 2000) ∧ (s.endsInTime (s.cellsEnd r (s.beaconEnd
      r) (if (s.radio r).sent.contains 0 = true then (s.radio r).cells else 0) + 250) (s.cellsEnd r (s.beaconEnd r) (if (s.radio
      r).sent.contains 0 = true then (s.radio r).cells else 0) + 250 + airTime (s.phy r) 24) = true)) ∧
  (∃ (s : State) (r : Nat), s.stopRadio = some r ∧ s.hasSlot r ∧ s.num % 5 = 0 ∧ (s.radioOn r = true ∨ s.live = true ∧ s.mode =
      Mode.basic ∧ s.get (F.RAD_CFG_EN.at r) ≠ 0) ∧ s.mute = false ∧ s.keys.zeroised = false ∧ 3 ∉ (s.radio r).sent ∧ s.frame.off
      ≤ 252000 ∧ s.endsInTime 250 (250 + airTime (s.phy r) 18) = true) ∧
  (∃ (s : State), s.mute = true ∨ s.keys.zeroised = true ∨ s.num % 5 ≠ 0 ∨ s.stopRadio = none ∨ 252000 < s.frame.off) ∧
  (∃ (s : State) (who : Requester) (r : Nat) (w : Word), s.mayWrite who ∧ s.hasSlot r ∧ BitVec.toNat w / 2 ^ 31 = 1 ∧ (s.radio
      r).chgPending = false) ∧
  (∃ (s : State) (r : Nat) (e0 : Nat), (s.radio r).chgAt = some e0 ∧ s.hasSlot r ∧ s.num % 10 = 0 ∧ e0 ≠ (s.radio r).e) ∧
  (∃ (s : State) (r : Nat) (e0 : Nat), (s.radio r).chgAt = some e0 ∧ s.hasSlot r ∧ (s.num % 10 ≠ 0 ∨ e0 = (s.radio r).e)) := by
  refine ⟨⟨(rs 1000 {e := 50}), (1), ?_⟩,
    ⟨(rs 1000 {sent := [0]}), (1), ?_⟩,
    ⟨(rs 1001 {}), (1), ?_⟩,
    ⟨(let s := rs 1000 {assocs := [(7, {st := 2, slot := 5, serial := 99, sess := 4})]};
        {s with light := {s.light with tags := [⟨1001, .openT⟩, ⟨999, .effective⟩]}}), (1), ?_⟩,
    ⟨(rs 1001 {assocs := [(7, {st := 2, slot := 5, serial := 99, sess := 4})]}), (1), ?_⟩,
    ⟨(let s := rs 1001 {}; {s with frame := {s.frame with off := 7102001}}), ?_⟩,
    ⟨(rs 1003
        {assocs := [(7, {st := 2, slot := 5, serial := 99, sess := 4})], exclusions := [⟨false, 3, 1, 1004, 0⟩, ⟨true, 4, 1, 1003, 2⟩]}), (1), ?_⟩,
    ⟨(rs 1000 {chgPending := true, remain := 0, newMapLo := 7, newHop := 1, sent := [0], cells := 0}), (1), ?_⟩,
    ⟨((rs5 1005 {}).put (F.RAD_CFG_STOPHB.at 5) 1), (5), ?_⟩,
    ⟨(rs 1001 {}), ?_⟩,
    ⟨(((rs 1001 {}).put (F.RAD_CHMAP_LO_MAP.at 1) 0).put (F.RAD_HOP_STEP.at 1) 1), (.session 9), (1), (0x80000000), ?_⟩,
    ⟨(rs 1010 {e := 1010, chgAt := some 1000, newMapLo := 3, newHop := 2, newSeed := 4, chgPending := true}), (1), (1000), ?_⟩,
    ⟨(rs 1010 {e := 1000, chgAt := some 1000, chgPending := true}), (1), (1000), ?_⟩⟩
  all_goals
    repeat' first
      | (unfold HxmMsg.sentAs; rfl)
      | decide +kernel
      | exact mayWrite_engine
      | (apply mayWrite_of; decide +kernel)
      | (apply canCall_program; decide +kernel)
      | (apply canCall_host <;> decide +kernel)
      | (apply canIssue_of; decide +kernel)
      | (apply hasNext_of; decide +kernel)
      | apply runsOn_of
      | (apply ownElem_of; decide +kernel)
      | (apply awaits_program; decide +kernel)
      | (apply awaits_host; decide +kernel)
      | (apply unheld_of; decide +kernel)
      | (apply hasSlot_of; decide +kernel)
      | (apply askedBy_of; decide +kernel)
      | (apply canAsk_of <;> decide +kernel)
      | (apply hears_of (c := 12) <;> decide +kernel)
      | (apply not_hears_of; decide +kernel)
      | (apply memOk_of; decide +kernel)
      | (apply all_below; decide +kernel)
      | (intro _ h; cases h; done)
      | (intro _ _ h; cases h; done)
      | (apply dmaMay_of; decide +kernel)
      | (apply dmaMay_all; decide +kernel)
      | (apply exists_some; decide +kernel)
      | (apply all_some; decide +kernel)
      | apply And.intro
      | exact rfl
      | (intro _ h; exact absurd (show Origin.quiet = _ from h) (by decide +kernel))

theorem wit_AssociationsAreMadeAndEnd :
  (∃ (s : State) (r : Nat) (serial : Nat) (kind : Nat) (d : Nat) (p : Nat) (i : Nat) (sl : Bool × Nat), s.slotOf serial = some sl
      ∧ s.hasSlot r ∧ s.joinDepth r = some (d, p) ∧ s.radioOn r = true ∧ s.joinOk r serial kind = true ∧ (∀ a ∈ (s.radio
      r).assocs.vals, ¬(a.st = 1 ∧ a.serial = serial)) ∧ i < assocMax r ∧ (s.assoc r i).st = 0 ∧ (∀ j < i, (s.assoc r j).st ≠ 0))
      ∧
  (∃ (s : State) (r : Nat) (serial : Nat) (kind : Nat) (d : Nat) (p : Nat), s.joinDepth r = some (d, p) ∧ s.radioOn r = true ∧
      s.joinOk r serial kind = false) ∧
  (∃ (s : State) (r : Nat) (i : Nat), s.hasSlot r ∧ s.radioOn r = true ∧ (s.assoc r i).st = 1) ∧
  (∃ (s : State) (r : Nat) (i : Nat) (good : Bool) (nonces : Bool), s.radioOn r = false ∨ good = true ∧ ((s.assoc r i).st ≠ 1 ∨
      nonces = false)) ∧
  (∃ (s : State) (r : Nat), s.hasSlot r ∧ s.radioOn r = true) ∧
  (∃ (s : State) (r : Nat) (i : Nat), s.hasSlot r ∧ (s.assoc r i).st = 1 ∧ 100 ≤ s.eSince r (s.assoc r i).since) ∧
  (∃ (s : State) (r : Nat) (i : Nat), s.hasSlot r ∧ (s.assoc r i).st = 3 ∧ 100 * s.get F.NET_SUPV_SUPV ≤ s.eSince r (s.assoc r
      i).since) ∧
  (∃ (s : State) (r : Nat) (i : Nat), s.hasSlot r ∧ (s.assoc r i).st = 2 ∧ s.radioOn r = true ∧ 100 * s.get F.NET_SUPV_SUPV ≤
      s.eSince r (s.assoc r i).heard) ∧
  (∃ (s : State) (r : Nat) (i : Nat), s.hasSlot r ∧ ((s.assoc r i).st ≠ 1 ∨ s.eSince r (s.assoc r i).since < 100)) ∧
  (∃ (s : State) (r : Nat) (i : Nat), s.hasSlot r ∧ ((s.assoc r i).st ≠ 3 ∨ s.eSince r (s.assoc r i).since < 100 * s.get
      F.NET_SUPV_SUPV)) ∧
  (∃ (s : State) (r : Nat) (i : Nat), s.hasSlot r ∧ ((s.assoc r i).st ≠ 2 ∨ s.eSince r (s.assoc r i).heard < 100 * s.get
      F.NET_SUPV_SUPV)) := by
  refine ⟨⟨(rs 1000 {cells := 3, assocs := [(0, {st := 2})]}), (1), (99), (0), (0), (2047), (1), ((false, 5)), ?_⟩,
    ⟨(rs 1000 {cells := 3}), (1), (1), (0), (0), (2047), ?_⟩,
    ⟨(let s := rs 1000 {assocs := [(0, {st := 1, serial := 99, slot := 5}), (4, {st := 2, serial := 99, slot := 5}), (6, {st := 1, serial := 99})]}; {s with net := {s.net with radios := s.net.radios.set 3 {assocs := [(9, {st := 2, serial := 99, slot := 5})]}}}), (1), (0), ?_⟩,
    ⟨(rs 1000 {assocs := [(0, {st := 1})]}), 1, 0, true, false, ?_⟩,
    ⟨(rs 1000 {assocs := [(0, {st := 1})]}), 1, ?_⟩,
    ⟨(rs 1000 {e := 100, assocs := [(0, {st := 1})]}), (1), (0), ?_⟩,
    ⟨(rs 1000 {e := 99999999, assocs := [(0, {st := 3})]}), (1), (0), ?_⟩,
    ⟨(rs 1000 {e := 99999999, assocs := [(7, {st := 2, slot := 5, serial := 99, txns := [{seq := 4, op := 0x15, by_ := oH}]})]}),
        (1), (7), ?_⟩,
    ⟨(rs 1000 {e := 99, assocs := [(0, {st := 1})]}), (1), (0), ?_⟩,
    ⟨(rs 1000 {e := 99, assocs := [(0, {st := 3})]}), (1), (0), ?_⟩,
    ⟨(rs 1000 {e := 99, assocs := [(0, {st := 2})]}), (1), (0), ?_⟩⟩
  all_goals
    repeat' first
      | (unfold HxmMsg.sentAs; rfl)
      | decide +kernel
      | exact mayWrite_engine
      | (apply mayWrite_of; decide +kernel)
      | (apply canCall_program; decide +kernel)
      | (apply canCall_host <;> decide +kernel)
      | (apply canIssue_of; decide +kernel)
      | (apply hasNext_of; decide +kernel)
      | apply runsOn_of
      | (apply ownElem_of; decide +kernel)
      | (apply awaits_program; decide +kernel)
      | (apply awaits_host; decide +kernel)
      | (apply unheld_of; decide +kernel)
      | (apply hasSlot_of; decide +kernel)
      | (apply askedBy_of; decide +kernel)
      | (apply canAsk_of <;> decide +kernel)
      | (apply hears_of (c := 12) <;> decide +kernel)
      | (apply not_hears_of; decide +kernel)
      | (apply memOk_of; decide +kernel)
      | (apply all_below; decide +kernel)
      | (intro _ h; cases h; done)
      | (intro _ _ h; cases h; done)
      | (apply dmaMay_of; decide +kernel)
      | (apply dmaMay_all; decide +kernel)
      | (apply exists_some; decide +kernel)
      | (apply all_some; decide +kernel)
      | apply And.intro
      | exact rfl
      | (intro _ h; exact absurd (show Origin.quiet = _ from h) (by decide +kernel))

theorem wit_NodesAreHeardOnce :
  (∃ (s : State) (r : Nat) (f : RxFrame), s.hasSlot r ∧ s.radioHears r = true ∧ f.noise = false ∧ (f.phyOk = false ∨ maxPsdu r <
      f.len)) ∧
  (∃ (s : State) (r : Nat) (f : RxFrame), s.hasSlot r ∧ s.radioHears r = true ∧ f.noise = false ∧ f.phyOk = true ∧ f.len ≤
      maxPsdu r ∧ (f.micOk = false ∨ f.typ = 15 ∨ f.ver ≠ 1)) ∧
  (∃ (s : State) (r : Nat) (f : RxFrame), s.hasSlot r ∧ s.radioHears r = true ∧ f.noise = false ∧ f.phyOk = true ∧ f.len ≤
      maxPsdu r ∧ f.micOk = true ∧ f.ver = 1 ∧ f.typ = 7 ∧ (s.assoc r f.index).st = 2 ∧ f.sess = (s.assoc r f.index).sess) ∧
  (∃ (s : State) (r : Nat) (i : Nat) (q : Nat) (x : Sensor), s.net.sensors.get? (s.assoc r i).slot = some x ∧ s.hasSlot r ∧
      s.radioOn r = true ∧ (s.assoc r i).st = 2 ∧ (s.assoc r i).sensor = true ∧ (s.assoc r i).classify q = UpClass.fresh) ∧
  (∃ (s : State) (r : Nat) (i : Nat) (q : Nat) (x : Sensor), s.net.sensors.get? (s.assoc r i).slot = some x ∧ s.hasSlot r ∧
      s.radioOn r = true ∧ (s.assoc r i).st = 2 ∧ (s.assoc r i).sensor = true ∧ (s.assoc r i).classify q = UpClass.repeated) ∧
  (∃ (s : State) (r : Nat) (i : Nat) (sess : Nat) (q : Nat) (x : Sensor), s.net.sensors.get? (s.assoc r i).slot = some x ∧
      s.hasSlot r ∧ s.radioOn r = true ∧ (s.assoc r i).st = 2 ∧ (s.assoc r i).sensor = true ∧ (sess ≠ (s.assoc r i).sess ∨
      (s.assoc r i).classify q = UpClass.stale)) ∧
  (∃ (s : State) (r : Nat) (i : Nat) (q : Nat) (x : Node), s.node (s.assoc r i).slot = some x ∧ s.hasSlot r ∧ s.radioOn r = true
      ∧ (s.assoc r i).st = 2 ∧ (s.assoc r i).sensor = false ∧ (s.assoc r i).classify q = UpClass.fresh) ∧
  (∃ (s : State) (r : Nat) (i : Nat) (q : Nat) (x : Txn), (s.assoc r i).txn q = some x ∧ s.hasSlot r ∧ s.radioOn r = true ∧
      x.firstAt.isSome = true) ∧
  (∃ (s : State) (r : Nat) (i : Nat) (q : Nat) (x : Txn), (s.assoc r i).txn q = some x ∧ s.hasSlot r ∧ s.radioOn r = true ∧
      (s.assoc r i).st = 2 ∧ x.firstAt.isSome = true ∧ s.txnExpired r x = false ∧ x.op = 21 ∧ s.awaits x.by_) ∧
  (∃ (s : State) (r : Nat) (i : Nat) (q : Nat), s.hasSlot r ∧ s.radioOn r = true ∧ (s.assoc r i).st = 2 ∧ (s.assoc r i).txn q =
      none) ∧
  (∃ (s : State) (r : Nat) (i : Nat) (q : Nat), s.hasSlot r ∧ s.radioOn r = true ∧ (s.assoc r i).st = 2 ∧ (s.assoc r i).classify
      q = UpClass.fresh ∧ (s.assoc r i).sensor = true) ∧
  (∃ (s : State) (r : Nat) (i : Nat) (octets : Nat) (us : Nat), s.freeFrom r s.usNow (airTime (s.phy r) (14 + octets)) 9850 =
      some us ∧ s.hasSlot r ∧ s.radioOn r = true ∧ s.get (F.RAD_CFG_RELAY_EN.at r) ≠ 0 ∧ (s.assoc r i).st = 2 ∧ (s.assoc r
      i).depth ≠ 0 ∧ 14 + octets ≤ maxPsdu r ∧ s.sheds r 2 = false) ∧
  (∃ (s : State) (r : Nat) (i : Nat) (octets : Nat), s.hasSlot r ∧ s.radioOn r = true ∧ s.get (F.RAD_CFG_RELAY_EN.at r) ≠ 0 ∧
      (s.assoc r i).st = 2 ∧ (s.assoc r i).depth ≠ 0 ∧ 14 + octets ≤ maxPsdu r) ∧
  (∃ (s : State) (r : Nat) (i : Nat) (octets : Nat) (search : Option Nat) (delta : Int), s.hasSlot r ∧ s.radioHears r = true ∧
      s.ownsCell r (s.assoc r i) = true ∧ octets ≤ 36 ∧ 0 < 10 * s.eSince r (search.getD (s.assoc r i).eSync) ∧ (delta * 1000 -
      (s.assoc r i).ePpm * ↑(10 * s.eSince r (search.getD (s.assoc r i).eSync))).natAbs ≤ min (16000 * s.get (F.RAD_SLEEP_G0.at
      r) + (s.assoc r i).bPpm * (10 * s.eSince r (search.getD (s.assoc r i).eSync))) (16000 * s.get (F.RAD_SLEEP_GMAX.at r))) ∧
  (∃ (s : State) (r : Nat) (i : Nat) (octets : Nat) (search : Option Nat) (delta : Int), s.hasSlot r ∧ s.radioHears r = true ∧
      s.ownsCell r (s.assoc r i) = true ∧ octets ≤ 36 ∧ 0 < 10 * s.eSince r (search.getD (s.assoc r i).eSync) ∧ min (16000 *
      s.get (F.RAD_SLEEP_G0.at r) + (s.assoc r i).bPpm * (10 * s.eSince r (search.getD (s.assoc r i).eSync))) (16000 * s.get
      (F.RAD_SLEEP_GMAX.at r)) < (delta * 1000 - (s.assoc r i).ePpm * ↑(10 * s.eSince r (search.getD (s.assoc r
      i).eSync))).natAbs) ∧
  (∃ (s : State) (r : Nat) (i : Nat) (octets : Nat), 36 < octets ∨ s.ownsCell r (s.assoc r i) = false) ∧
  (∃ (s : State) (k : Nat) (x : Sensor), s.net.sensors.get? k = some x ∧ x.ever = true ∧ s.past (x.repAt + 3 * s.sensorPeriod k)
      = true) := by
  refine ⟨⟨(rs 1000 {}), (1), ({typ := 7, phyOk := false}), ?_⟩,
    ⟨(rs 1000 {}), (1), ({typ := 7, micOk := false}), ?_⟩,
    ⟨(rs 1000 {e := 4, assocs := [(7, {st := 2, slot := 5, serial := 99, sess := 4})]}), (1),
        ({typ := 7, index := 7, sess := 4, seq := 3, rssi := 300, ackReq := true}), ?_⟩,
    ⟨(rs 1000 {assocs := [(2, {st := 2, sensor := true, slot := 3, sess := 9, seqU := 5, upSeen := [5]})]}), (1), (2), (65540),
        ((((rs 1000 {assocs := [(2, {st := 2, sensor := true, slot := 3, sess := 9, seqU := 5, upSeen := [5]})]}) :
        State).net.sensors.get? (((rs 1000
        {assocs := [(2, {st := 2, sensor := true, slot := 3, sess := 9, seqU := 5, upSeen := [5]})]}) : State).assoc ((1) : Nat)
        ((2) : Nat)).slot).get (by decide +kernel)), ?_⟩,
    ⟨(rs 1000 {assocs := [(2, {st := 2, sensor := true, slot := 3, sess := 9, seqU := 5, upSeen := [5]})]}), (1), (2), (5),
        ((((rs 1000 {assocs := [(2, {st := 2, sensor := true, slot := 3, sess := 9, seqU := 5, upSeen := [5]})]}) :
        State).net.sensors.get? (((rs 1000
        {assocs := [(2, {st := 2, sensor := true, slot := 3, sess := 9, seqU := 5, upSeen := [5]})]}) : State).assoc ((1) : Nat)
        ((2) : Nat)).slot).get (by decide +kernel)), ?_⟩,
    ⟨(rs 1000 {assocs := [(2, {st := 2, sensor := true, slot := 3, sess := 9, seqU := 5, upSeen := [5]})]}), (1), (2), (9),
        (65500), ((((rs 1000 {assocs := [(2, {st := 2, sensor := true, slot := 3, sess := 9, seqU := 5, upSeen := [5]})]}) :
        State).net.sensors.get? (((rs 1000
        {assocs := [(2, {st := 2, sensor := true, slot := 3, sess := 9, seqU := 5, upSeen := [5]})]}) : State).assoc ((1) : Nat)
        ((2) : Nat)).slot).get (by decide +kernel)), ?_⟩,
    ⟨(rs 1000 {assocs := [(7, {st := 2, slot := 5, serial := 99, sess := 4})]}), (1), (7), (5), ((((rs 1000
        {assocs := [(7, {st := 2, slot := 5, serial := 99, sess := 4})]}) : State).node (((rs 1000
        {assocs := [(7, {st := 2, slot := 5, serial := 99, sess := 4})]}) : State).assoc ((1) : Nat) ((7) : Nat)).slot).get (by
        decide +kernel)), ?_⟩,
    ⟨(rs 1000
        {e := 5, assocs := [(7, {st := 2, slot := 5, serial := 99, sess := 4, txns := [{seq := 9, op := 0x15, by_ := oH, firstAt := some 3, lastAt := 4}]})]}), (1), (7), (9), (((((rs 1000 {e := 5, assocs := [(7, {st := 2, slot := 5, serial := 99, sess := 4, txns := [{seq := 9, op := 0x15, by_ := oH, firstAt := some 3, lastAt := 4}]})]}) : State).assoc ((1) : Nat) ((7) : Nat)).txn ((9) : Nat)).get (by decide +kernel)), ?_⟩,
    ⟨(rs 1000
        {e := 5, assocs := [(7, {st := 2, slot := 5, serial := 99, sess := 4, txns := [{seq := 9, op := 0x15, by_ := oH, firstAt := some 3, lastAt := 4}]})]}), (1), (7), (9), ({seq := 9, op := 0x15, by_ := oH, firstAt := some 3, lastAt := 4}), ?_⟩,
    ⟨(rs 1000
        {e := 5, assocs := [(7, {st := 2, slot := 5, serial := 99, sess := 4, txns := [{seq := 9, op := 0x15, by_ := oH, firstAt := some 3, lastAt := 4}]})]}), (1), (7), (8), ?_⟩,
    ⟨(rs 1000 {assocs := [(2, {st := 2, sensor := true, slot := 3, sess := 9, seqU := 5, upSeen := [5]})]}), (1), (2), (6), ?_⟩,
    ⟨(rs 1002 {e := 7, assocs := [(2, {st := 2, depth := 2, parent := 7}), (7, {st := 2, depth := 1})]}), (1), (2), (40), ((((rs
        1002 {e := 7, assocs := [(2, {st := 2, depth := 2, parent := 7}), (7, {st := 2, depth := 1})]}) : State).freeFrom ((1) :
        Nat) ((rs 1002 {e := 7, assocs := [(2, {st := 2, depth := 2, parent := 7}), (7, {st := 2, depth := 1})]}) : State).usNow
        (airTime (((rs 1002 {e := 7, assocs := [(2, {st := 2, depth := 2, parent := 7}), (7, {st := 2, depth := 1})]}) :
        State).phy ((1) : Nat)) (14 + ((40) : Nat))) 9850).get (by decide +kernel)), ?_⟩,
    ⟨(rs 1002 {e := 7, assocs := [(2, {st := 2, depth := 2, parent := 7}), (7, {st := 2, depth := 1})]}), (1), (2), (40), ?_⟩,
    ⟨(let p := 100 % Nat.max 1 ((rs5 1002 {}).get (F.RAD_SCHED_PERIOD.at 5)); rs5 1002
        {e := 510, assocs := [(2, {st := 2, sleeper := true, phaseF := 2, phaseP := p, ePpm := 3, eSync := 500})]}), 5, 2, 36,
        none, (160), ?_⟩,
    ⟨(let p := 100 % Nat.max 1 ((rs5 1002 {}).get (F.RAD_SCHED_PERIOD.at 5)); rs5 1002
        {e := 501, assocs := [(2, {st := 2, sleeper := true, phaseF := 2, phaseP := p, ePpm := 3, eSync := 500})]}), 5, 2, 36,
        none, (100000), ?_⟩,
    ⟨(let p := 100 % Nat.max 1 ((rs5 1002 {}).get (F.RAD_SCHED_PERIOD.at 5)); rs5 1002
        {e := 501, assocs := [(2, {st := 2, sleeper := true, phaseF := 2, phaseP := p, ePpm := 3, eSync := 500})]}), 5, 2, 37,
        ?_⟩,
    ⟨(let s := rs 1000 {}; {s with net := {s.net with sensors := [(3, {serial := 77, ever := true})]}}), (3),
        ((((let s := rs 1000 {}; {s with net := {s.net with sensors := [(3, {serial := 77, ever := true})]}}) :
        State).net.sensors.get? ((3) : Nat)).get (by decide +kernel)), ?_⟩⟩
  all_goals
    repeat' first
      | (unfold HxmMsg.sentAs; rfl)
      | decide +kernel
      | exact mayWrite_engine
      | (apply mayWrite_of; decide +kernel)
      | (apply canCall_program; decide +kernel)
      | (apply canCall_host <;> decide +kernel)
      | (apply canIssue_of; decide +kernel)
      | (apply hasNext_of; decide +kernel)
      | apply runsOn_of
      | (apply ownElem_of; decide +kernel)
      | (apply awaits_program; decide +kernel)
      | (apply awaits_host; decide +kernel)
      | (apply unheld_of; decide +kernel)
      | (apply hasSlot_of; decide +kernel)
      | (apply askedBy_of; decide +kernel)
      | (apply canAsk_of <;> decide +kernel)
      | (apply hears_of (c := 12) <;> decide +kernel)
      | (apply not_hears_of; decide +kernel)
      | (apply memOk_of; decide +kernel)
      | (apply all_below; decide +kernel)
      | (intro _ h; cases h; done)
      | (intro _ _ h; cases h; done)
      | (apply dmaMay_of; decide +kernel)
      | (apply dmaMay_all; decide +kernel)
      | (apply exists_some; decide +kernel)
      | (apply all_some; decide +kernel)
      | apply And.intro
      | exact rfl
      | (intro _ h; exact absurd (show Origin.quiet = _ from h) (by decide +kernel))

theorem wit_RequestsAreRepeatedUntilTheyEnd :
  (∃ (s : State) (r : Nat) (i : Nat) (q : Nat) (us : Nat) (x : Txn), s.freeFrom r s.usNow (airTime (s.phy r) x.octets) (s.hearsBy
      (s.assoc r i)) = some us ∧ (s.assoc r i).txn q = some x ∧ s.hasSlot r ∧ s.radioOn r = true ∧ (s.assoc r i).st = 2 ∧
      x.firstAt = none ∧ (countP (fun y => y.firstAt.isSome) (s.assoc r i).txns < 4) ∧ (x.op = 26 → ∃ f, (s.campaign r).frame =
      some f ∧ s.num + s.get F.LGT_LEAD_FRAMES + 100 ≤ f) ∧ s.sheds r x.rank = false) ∧
  (∃ (s : State) (r : Nat) (i : Nat) (start : Nat) (us : Nat), s.freeFrom r s.usNow (airTime (s.phy r) 18) (2 * start) = some us
      ∧ s.hasSlot r ∧ s.radioOn r = true ∧ (s.assoc r i).st = 2 ∧ (s.assoc r i).sleeper = false ∧ start < 8192 ∧ s.sheds r 3 =
      false ∧ s.grantDue r i = true ∧ (s.takeTime r us (us + airTime (s.phy r) 18)).grantFits r start = true) ∧
  (∃ (s : State) (r : Nat) (i : Nat) (start : Nat), s.hasSlot r ∧ s.radioOn r = true ∧ (s.assoc r i).st = 2 ∧ (s.assoc r
      i).sleeper = false ∧ start < 8192 ∧ s.sheds r 3 = false ∧ s.grantDue r i = false) ∧
  (∃ (s : State) (r : Nat) (us : Nat) (k : Nat) (l : List Nat), s.freeFrom r s.usNow (airTime (s.phy r) (20 + (List.take
      (blockSize r) (List.drop (k * blockSize r) (s.campaign r).image)).length)) 9850 = some us ∧ s.hasSlot r ∧ s.radioOn r =
      true ∧ (s.campaign r).st = 1 ∧ (s.campaign r).todo = k :: l ∧ l ≠ [] ∧ s.campaignWaits r 24 = false ∧ s.sheds r 1 = false) ∧
  (∃ (s : State) (r : Nat) (i : Nat) (q : Nat) (x : Txn) (e0 : Nat) (us : Nat), (s.assoc r i).txn q = some x ∧ x.firstAt = some
      e0 ∧ s.freeFrom r s.usNow (airTime (s.phy r) x.octets) (s.hearsBy (s.assoc r i)) = some us ∧ s.hasSlot r ∧ s.radioOn r =
      true ∧ s.txnExpired r x = false ∧ x.acked = false ∧ x.repeats < s.get F.NET_MAC_RETRIES ∧ s.get F.NET_MAC_SPACING ≤
      s.eSince r x.lastAt ∧ s.sheds r x.rank = false) ∧
  (∃ (s : State) (r : Nat) (i : Nat) (q : Nat) (x : Txn) (e0 : Nat), (s.assoc r i).txn q = some x ∧ x.firstAt = some e0 ∧
      s.hasSlot r ∧ s.radioOn r = true ∧ s.txnExpired r x = false ∧ (x.acked = true ∨ s.get F.NET_MAC_RETRIES ≤ x.repeats)) ∧
  (∃ (s : State) (r : Nat) (i : Nat) (q : Nat) (x : Txn) (e0 : Nat) (us : Nat), (s.assoc r i).txn q = some x ∧ x.firstAt = some
      e0 ∧ s.freeFrom r s.usNow (airTime (s.phy r) x.octets) (s.hearsBy (s.assoc r i)) = some us ∧ s.hasSlot r ∧ s.radioOn r =
      true ∧ s.txnExpired r x = false ∧ (x.acked = true ∨ s.get F.NET_MAC_RETRIES ≤ x.repeats) ∧ s.get F.NET_TXN_RESEND ≤
      s.eSince r x.lastAt ∧ s.sheds r x.rank = false) ∧
  (∃ (s : State) (r : Nat) (i : Nat) (q : Nat) (x : Txn) (e0 : Nat), (s.assoc r i).txn q = some x ∧ x.firstAt = some e0 ∧
      s.hasSlot r ∧ s.radioOn r = true ∧ s.txnExpired r x = false ∧ s.eSince r x.lastAt < s.get F.NET_TXN_RESEND) ∧
  (∃ (s : State) (r : Nat) (i : Nat) (q : Nat) (x : Txn) (e0 : Nat), (s.assoc r i).txn q = some x ∧ x.firstAt = some e0 ∧
      s.hasSlot r ∧ s.radioOn r = true ∧ s.txnExpired r x = false) ∧
  (∃ (s : State) (r : Nat) (i : Nat) (q : Nat) (x : Txn), (s.assoc r i).txn q = some x ∧ s.hasSlot r ∧ s.txnExpired r x = true ∧
      s.awaits x.by_ ∧ (∀ (p : Nat), (s.campaign p).by_ ≠ x.by_)) ∧
  (∃ (s : State) (r : Nat) (f : Nat), (s.campaign r).frame = some f ∧ (s.campaign r).st = 3 ∧ f ≤ s.num) ∧
  (∃ (s : State) (r : Nat), (s.campaign r).st ≠ 3) := by
  refine ⟨⟨(rs 1003
      {e := 5, assocs := [(7, {st := 2, slot := 5, serial := 99, sess := 4, txns := [{seq := 9, op := 0x15, by_ := oH, body := [3,4]}]})]}), 1, 7, 9, ((((rs 1003 {e := 5, assocs := [(7, {st := 2, slot := 5, serial := 99, sess := 4, txns := [{seq := 9, op := 0x15, by_ := oH, body := [3,4]}]})]}) : State).freeFrom (1 : Nat) ((rs 1003 {e := 5, assocs := [(7, {st := 2, slot := 5, serial := 99, sess := 4, txns := [{seq := 9, op := 0x15, by_ := oH, body := [3,4]}]})]}) : State).usNow (airTime (((rs 1003 {e := 5, assocs := [(7, {st := 2, slot := 5, serial := 99, sess := 4, txns := [{seq := 9, op := 0x15, by_ := oH, body := [3,4]}]})]}) : State).phy (1 : Nat)) (({seq := 9, op := 0x15, by_ := oH, body := [3,4]}) : Txn).octets) (((rs 1003 {e := 5, assocs := [(7, {st := 2, slot := 5, serial := 99, sess := 4, txns := [{seq := 9, op := 0x15, by_ := oH, body := [3,4]}]})]}) : State).hearsBy (((rs 1003 {e := 5, assocs := [(7, {st := 2, slot := 5, serial := 99, sess := 4, txns := [{seq := 9, op := 0x15, by_ := oH, body := [3,4]}]})]}) : State).assoc (1 : Nat) (7 : Nat)))).get (by decide +kernel)), ({seq := 9, op := 0x15, by_ := oH, body := [3,4]}), ?_⟩,
    ⟨(rs 1003
        {e := 5, assocs := [(7, {st := 2, slot := 5, serial := 99, sess := 4, pendingUp := true, txns := [{seq := 9, op := 0x15, by_ := oH, body := [3,4]}]})]}), 1, 7, 5400, ((((rs 1003 {e := 5, assocs := [(7, {st := 2, slot := 5, serial := 99, sess := 4, pendingUp := true, txns := [{seq := 9, op := 0x15, by_ := oH, body := [3,4]}]})]}) : State).freeFrom (1 : Nat) ((rs 1003 {e := 5, assocs := [(7, {st := 2, slot := 5, serial := 99, sess := 4, pendingUp := true, txns := [{seq := 9, op := 0x15, by_ := oH, body := [3,4]}]})]}) : State).usNow (airTime (((rs 1003 {e := 5, assocs := [(7, {st := 2, slot := 5, serial := 99, sess := 4, pendingUp := true, txns := [{seq := 9, op := 0x15, by_ := oH, body := [3,4]}]})]}) : State).phy (1 : Nat)) 18) (2 * (5400 : Nat))).get (by decide +kernel)), ?_⟩,
    ⟨(rs 1003
        {e := 5, assocs := [(7, {st := 2, slot := 5, serial := 99, sess := 4, txns := [{seq := 9, op := 0x15, by_ := oH, body := [3,4]}]})]}), 1, 7, 5400, ?_⟩,
    ⟨(let s := (rs 1003 {e := 5}).put (F.RAD_CFG_BAND.at 1) 1;
        {s with net := {s.net with campaigns := [(1, {st := 1, todo := [0, 1], image := [7,7,7]})]}}), 1,
        ((((let s := (rs 1003 {e := 5}).put (F.RAD_CFG_BAND.at 1) 1;
        {s with net := {s.net with campaigns := [(1, {st := 1, todo := [0, 1], image := [7,7,7]})]}}) : State).freeFrom (1 : Nat)
        ((let s := (rs 1003 {e := 5}).put (F.RAD_CFG_BAND.at 1) 1;
        {s with net := {s.net with campaigns := [(1, {st := 1, todo := [0, 1], image := [7,7,7]})]}}) : State).usNow (airTime
        (((let s := (rs 1003 {e := 5}).put (F.RAD_CFG_BAND.at 1) 1;
        {s with net := {s.net with campaigns := [(1, {st := 1, todo := [0, 1], image := [7,7,7]})]}}) : State).phy (1 : Nat)) (20
        + (List.take (blockSize (1 : Nat)) (List.drop ((0 : Nat) * blockSize (1 : Nat))
        (((let s := (rs 1003 {e := 5}).put (F.RAD_CFG_BAND.at 1) 1;
        {s with net := {s.net with campaigns := [(1, {st := 1, todo := [0, 1], image := [7,7,7]})]}}) : State).campaign (1 :
        Nat)).image)).length)) 9850).get (by decide +kernel)), 0, [1], ?_⟩,
    ⟨(rs 1003
        {e := 50, assocs := [(7, {st := 2, slot := 5, serial := 99, sess := 4, txns := [{seq := 9, op := 0x15, by_ := oH, firstAt := some 3, lastAt := 4, repeats := 0, acked := false}]})]}), (1), (7), (9), ({seq := 9, op := 0x15, by_ := oH, firstAt := some 3, lastAt := 4, repeats := 0, acked := false}), (3), ((((rs 1003 {e := 50, assocs := [(7, {st := 2, slot := 5, serial := 99, sess := 4, txns := [{seq := 9, op := 0x15, by_ := oH, firstAt := some 3, lastAt := 4, repeats := 0, acked := false}]})]}) : State).freeFrom ((1) : Nat) ((rs 1003 {e := 50, assocs := [(7, {st := 2, slot := 5, serial := 99, sess := 4, txns := [{seq := 9, op := 0x15, by_ := oH, firstAt := some 3, lastAt := 4, repeats := 0, acked := false}]})]}) : State).usNow (airTime (((rs 1003 {e := 50, assocs := [(7, {st := 2, slot := 5, serial := 99, sess := 4, txns := [{seq := 9, op := 0x15, by_ := oH, firstAt := some 3, lastAt := 4, repeats := 0, acked := false}]})]}) : State).phy ((1) : Nat)) (({seq := 9, op := 0x15, by_ := oH, firstAt := some 3, lastAt := 4, repeats := 0, acked := false}) : Txn).octets) (((rs 1003 {e := 50, assocs := [(7, {st := 2, slot := 5, serial := 99, sess := 4, txns := [{seq := 9, op := 0x15, by_ := oH, firstAt := some 3, lastAt := 4, repeats := 0, acked := false}]})]}) : State).hearsBy (((rs 1003 {e := 50, assocs := [(7, {st := 2, slot := 5, serial := 99, sess := 4, txns := [{seq := 9, op := 0x15, by_ := oH, firstAt := some 3, lastAt := 4, repeats := 0, acked := false}]})]}) : State).assoc ((1) : Nat) ((7) : Nat)))).get (by decide +kernel)), ?_⟩,
    ⟨(rs 1003
        {e := 50, assocs := [(7, {st := 2, slot := 5, serial := 99, sess := 4, txns := [{seq := 9, op := 0x15, by_ := oH, firstAt := some 3, lastAt := 4, repeats := 0, acked := true}]})]}), (1), (7), (9), ({seq := 9, op := 0x15, by_ := oH, firstAt := some 3, lastAt := 4, repeats := 0, acked := true}), (3), ?_⟩,
    ⟨(rs 1003
        {e := 150, assocs := [(7, {st := 2, slot := 5, serial := 99, sess := 4, txns := [{seq := 9, op := 0x15, by_ := oH, firstAt := some 3, lastAt := 4, repeats := 7, acked := false}]})]}), (1), (7), (9), ({seq := 9, op := 0x15, by_ := oH, firstAt := some 3, lastAt := 4, repeats := 7, acked := false}), (3), ((((rs 1003 {e := 150, assocs := [(7, {st := 2, slot := 5, serial := 99, sess := 4, txns := [{seq := 9, op := 0x15, by_ := oH, firstAt := some 3, lastAt := 4, repeats := 7, acked := false}]})]}) : State).freeFrom ((1) : Nat) ((rs 1003 {e := 150, assocs := [(7, {st := 2, slot := 5, serial := 99, sess := 4, txns := [{seq := 9, op := 0x15, by_ := oH, firstAt := some 3, lastAt := 4, repeats := 7, acked := false}]})]}) : State).usNow (airTime (((rs 1003 {e := 150, assocs := [(7, {st := 2, slot := 5, serial := 99, sess := 4, txns := [{seq := 9, op := 0x15, by_ := oH, firstAt := some 3, lastAt := 4, repeats := 7, acked := false}]})]}) : State).phy ((1) : Nat)) (({seq := 9, op := 0x15, by_ := oH, firstAt := some 3, lastAt := 4, repeats := 7, acked := false}) : Txn).octets) (((rs 1003 {e := 150, assocs := [(7, {st := 2, slot := 5, serial := 99, sess := 4, txns := [{seq := 9, op := 0x15, by_ := oH, firstAt := some 3, lastAt := 4, repeats := 7, acked := false}]})]}) : State).hearsBy (((rs 1003 {e := 150, assocs := [(7, {st := 2, slot := 5, serial := 99, sess := 4, txns := [{seq := 9, op := 0x15, by_ := oH, firstAt := some 3, lastAt := 4, repeats := 7, acked := false}]})]}) : State).assoc ((1) : Nat) ((7) : Nat)))).get (by decide +kernel)), ?_⟩,
    ⟨(rs 1003
        {e := 5, assocs := [(7, {st := 2, slot := 5, serial := 99, sess := 4, txns := [{seq := 9, op := 0x15, by_ := oH, firstAt := some 3, lastAt := 4, repeats := 7, acked := false}]})]}), (1), (7), (9), ({seq := 9, op := 0x15, by_ := oH, firstAt := some 3, lastAt := 4, repeats := 7, acked := false}), (3), ?_⟩,
    ⟨(rs 1003
        {e := 50, assocs := [(7, {st := 2, slot := 5, serial := 99, sess := 4, txns := [{seq := 9, op := 0x15, by_ := oH, firstAt := some 3, lastAt := 4, repeats := 0, acked := false}]})]}), (1), (7), (9), ({seq := 9, op := 0x15, by_ := oH, firstAt := some 3, lastAt := 4, repeats := 0, acked := false}), (3), ?_⟩,
    ⟨(rs 1003
        {e := 3000000, assocs := [(7, {st := 2, slot := 5, serial := 99, sess := 4, txns := [{seq := 9, op := 0x15, by_ := oH, firstAt := some 3, lastAt := 4, repeats := 0, acked := false}]})]}), (1), (7), (9), ({seq := 9, op := 0x15, by_ := oH, firstAt := some 3, lastAt := 4, repeats := 0, acked := false}), ?_⟩,
    ⟨(let s := rs 1003 {}; {s with net := {s.net with campaigns := [(1, {st := 3, frame := some 1003, image := [1]})]}}), (1),
        (1003), ?_⟩,
    ⟨(rs 1003 {}), (1), ?_⟩⟩
  all_goals
    repeat' first
      | (unfold HxmMsg.sentAs; rfl)
      | decide +kernel
      | exact mayWrite_engine
      | (apply mayWrite_of; decide +kernel)
      | (apply canCall_program; decide +kernel)
      | (apply canCall_host <;> decide +kernel)
      | (apply canIssue_of; decide +kernel)
      | (apply hasNext_of; decide +kernel)
      | apply runsOn_of
      | (apply ownElem_of; decide +kernel)
      | (apply awaits_program; decide +kernel)
      | (apply awaits_host; decide +kernel)
      | (apply unheld_of; decide +kernel)
      | (apply hasSlot_of; decide +kernel)
      | (apply askedBy_of; decide +kernel)
      | (apply canAsk_of <;> decide +kernel)
      | (apply hears_of (c := 12) <;> decide +kernel)
      | (apply not_hears_of; decide +kernel)
      | (apply memOk_of; decide +kernel)
      | (apply all_below; decide +kernel)
      | (intro _ h; cases h; done)
      | (intro _ _ h; cases h; done)
      | (apply dmaMay_of; decide +kernel)
      | (apply dmaMay_all; decide +kernel)
      | (apply exists_some; decide +kernel)
      | (apply all_some; decide +kernel)
      | apply And.intro
      | exact rfl
      | (intro _ h; exact absurd (show Origin.quiet = _ from h) (by decide +kernel))

end Sys2Proof.Tests.Hxm
end

