-- ==== Sys2Proof/Tests/WitnessKeys.lean ====
section
/-! SUPPORT. Witnesses: for each statement, states and operands that meet the hypotheses of its clauses together. -/

namespace Sys2Proof.Tests.Keys
open Sys2Proof Sys2Proof.Machine Sys2Proof.Tests
set_option Elab.async false
set_option linter.unusedTactic false
set_option linter.unreachableTactic false

def fl (s : State) (l : List (Fld × Nat)) : State := l.foldl (fun (s : State) p => s.put p.1 p.2) s
def ks (x : Keys) (l : List (Fld × Nat) := []) (m : Mode := .stop) : State := fl (calls
    { live m with frame := {num := 1003, start := 10030000000}, keys := x }) l
def rc (x : Records) (l : List (Fld × Nat) := []) (m : Mode := .stop) : State := fl (calls
    { live m with frame := {num := 1003, start := 10030000000}, recs := x }) l
def rr (a sev : Nat) : LogRec := ⟨a, 4, 5, sev, 3, 6, 7, [8]⟩
def fullLog (q : Nat) : State := rc {queue := [rr 5 q], held := List.replicate 65536 (rr 7 2)}
theorem fullLog_held (q : Nat) : 65536 ≤ (fullLog q).recs.held.length ∧ rr 7 2 ∈ (fullLog q).recs.held ∧
    ∀ y ∈ (fullLog q).recs.held, (rr 7 2).sev ≤ y.sev := by
  have e : (fullLog q).recs.held = List.replicate 65536 (rr 7 2) := rfl
  rw [e]
  exact ⟨by rw [List.length_replicate], List.mem_replicate.2 ⟨by decide, rfl⟩, fun y h => by rw [List.eq_of_mem_replicate h]⟩

theorem wit_KeyCommandsFollowTheirTables :
  (∃ (s : State) (who : Requester) (c : Nat) (i : Instr), s.roleOf who < 2 ∧ i ∈ [Instr.provision who c, Instr.deploy who c,
      Instr.keyReturn who c, Instr.scrap who c, Instr.keyInstall who c, Instr.keyGenerate who c, Instr.keyDerive who c,
      Instr.keyErase who c, Instr.identityCsr who c]) ∧
  (∃ (s : State) (who : Requester) (c : Nat) (i : Instr), 2 ≤ s.roleOf who ∧ s.mayWrite who ∧ c ≠ 23294 ∧ (i ∈ [Instr.provision
      who c, Instr.deploy who c, Instr.keyReturn who c, Instr.scrap who c] ∨ i = Instr.keyErase who c ∧ 4 < s.get
      F.KEY_ARG_SLOT)) ∧
  (∃ (s : State) (who : Requester) (n : Nat) (i : Instr) (st : Nat), 2 ≤ s.roleOf who ∧ s.mayWrite who ∧ s.phase = Phase.running
      ∧ (n, i) ∈ [(1, Instr.provision who 23294), (2, Instr.deploy who 23294), (3, Instr.keyReturn who 23294), (4, Instr.scrap
      who 23294)] ∧ s.lifeTarget n = Sum.inr st) ∧
  (∃ (s : State) (who : Requester) (n : Nat) (i : Instr) (l : Life), 2 ≤ s.roleOf who ∧ s.mayWrite who ∧ s.phase = Phase.running
      ∧ (n, i) ∈ [(1, Instr.provision who 23294), (2, Instr.deploy who 23294), (3, Instr.keyReturn who 23294), (4, Instr.scrap
      who 23294)] ∧ s.lifeTarget n = Sum.inl l ∧ s.keys.fuse ≠ none) ∧
  (∃ (s : State) (who : Requester) (n : Nat) (i : Instr) (l : Life), 2 ≤ s.roleOf who ∧ s.mayWrite who ∧ s.phase = Phase.running
      ∧ (n, i) ∈ [(1, Instr.provision who 23294), (2, Instr.deploy who 23294), (3, Instr.keyReturn who 23294), (4, Instr.scrap
      who 23294)] ∧ s.lifeTarget n = Sum.inl l ∧ s.keys.fuse = none) ∧
  (∃ (s : State), s.keys.life = Life.blank ∨ s.keys.life = Life.returned) ∧
  (∃ (s : State), (s.keys.life = Life.blank ∨ s.keys.life = Life.returned) ∧ (s.mode = Mode.stop ∨ s.mode = Mode.basic)) ∧
  (∃ (s : State), s.keys.life = Life.provisioned ∨ s.keys.life = Life.deployed) ∧
  (∃ (s : State), (s.keys.life = Life.provisioned ∨ s.keys.life = Life.deployed) ∧ s.mode = Mode.stop ∧ s.role = Role.solo ∧
      s.keys.killed = false) ∧
  (∃ (s : State) (who : Requester), 2 ≤ s.roleOf who ∧ s.mayWrite who ∧ (s.get F.KEY_ARG_SLOT = 0 ∨ s.get F.KEY_ARG_SLOT = 1 ∨
      s.get F.KEY_ARG_SLOT = 3 ∨ s.get F.KEY_ARG_SLOT = 4)) ∧
  (∃ (s : State) (who : Requester), 2 ≤ s.roleOf who ∧ s.mayWrite who ∧ s.rootNow = 0 ∧ (s.get F.KEY_ARG_SLOT = 2 ∧
      s.keys.installed2 = false ∨ 4 < s.get F.KEY_ARG_SLOT)) ∧
  (∃ (s : State) (who : Requester) (c : Nat) (i : Instr), 2 ≤ s.roleOf who ∧ s.mayWrite who ∧ s.rootNow = 0 ∧ 4 < s.get
      F.KEY_ARG_SLOT ∧ i ∈ [Instr.keyGenerate who c, Instr.keyDerive who c, Instr.keyErase who 23294, Instr.identityCsr who c]) ∧
  (∃ (s : State) (who : Requester), 2 ≤ s.roleOf who ∧ s.mayWrite who ∧ s.get F.KEY_ARG_SLOT = 2 ∧ s.rootNow ≠ 0) ∧
  (∃ (s : State) (who : Requester), 2 ≤ s.roleOf who ∧ s.mayWrite who ∧ s.get F.KEY_ARG_SLOT = 2 ∧ s.rootNow ≠ 0 ∧
      s.keys.installed2 = true) ∧
  (∃ (s : State) (who : Requester), 2 ≤ s.roleOf who ∧ s.mayWrite who ∧ s.get F.KEY_ARG_SLOT = 2 ∧ s.rootNow ≠ 0 ∧
      s.keys.installed2 = false ∧ (s.keySlot 2).kind = 0) ∧
  (∃ (s : State) (who : Requester), 2 ≤ s.roleOf who ∧ s.mayWrite who ∧ 4 < s.get F.KEY_ARG_SLOT ∧ s.rootNow ≠ 0 ∧ (s.keySlot
      (s.get F.KEY_ARG_SLOT)).kind ≠ 0) ∧
  (∃ (s : State) (who : Requester), 2 ≤ s.roleOf who ∧ s.mayWrite who ∧ 4 < s.get F.KEY_ARG_SLOT ∧ s.rootNow ≠ 0 ∧ (s.keySlot
      (s.get F.KEY_ARG_SLOT)).kind ≠ 0 ∧ (s.get F.KEY_ARG_FROM_ROOT ≠ 0 ∨ s.keeperCheck 0 true (s.get F.KEY_ARG_PARENT)
      KeyOp.derive ∉ [some St.access, some St.lifecycle])) ∧
  (∃ (s : State) (who : Requester) (st : Nat), s.keeperCheck 0 true (s.get F.KEY_ARG_PARENT) KeyOp.derive = some st ∧ 2 ≤
      s.roleOf who ∧ s.mayWrite who ∧ 4 < s.get F.KEY_ARG_SLOT ∧ s.rootNow ≠ 0 ∧ s.get F.KEY_ARG_FROM_ROOT = 0 ∧ (st = St.access
      ∨ st = St.lifecycle ∨ (s.keySlot (s.get F.KEY_ARG_SLOT)).kind = 0 ∧ s.newSlot false ≠ none)) ∧
  (∃ (s : State) (who : Requester) (k : KeySlot), s.newSlot true = some k ∧ 2 ≤ s.roleOf who ∧ s.mayWrite who ∧ 4 < s.get
      F.KEY_ARG_SLOT ∧ s.rootNow ≠ 0 ∧ (s.keySlot (s.get F.KEY_ARG_SLOT)).kind = 0) ∧
  (∃ (s : State) (who : Requester) (k : KeySlot), s.newSlot false = some k ∧ 2 ≤ s.roleOf who ∧ s.mayWrite who ∧ 4 < s.get
      F.KEY_ARG_SLOT ∧ s.rootNow ≠ 0 ∧ (s.keySlot (s.get F.KEY_ARG_SLOT)).kind = 0) ∧
  (∃ (s : State) (who : Requester) (k : KeySlot), s.newSlot false = some k ∧ 2 ≤ s.roleOf who ∧ s.mayWrite who ∧ 4 < s.get
      F.KEY_ARG_SLOT ∧ s.rootNow ≠ 0 ∧ (s.keySlot (s.get F.KEY_ARG_SLOT)).kind = 0 ∧ s.get F.KEY_ARG_FROM_ROOT ≠ 0) ∧
  (∃ (s : State) (who : Requester) (k : KeySlot), s.newSlot false = some k ∧ 2 ≤ s.roleOf who ∧ s.mayWrite who ∧ 4 < s.get
      F.KEY_ARG_SLOT ∧ s.rootNow ≠ 0 ∧ (s.keySlot (s.get F.KEY_ARG_SLOT)).kind = 0 ∧ s.get F.KEY_ARG_FROM_ROOT = 0 ∧
      s.keeperCheck 0 true (s.get F.KEY_ARG_PARENT) KeyOp.derive = none ∧ (s.keySlot (s.get F.KEY_ARG_PARENT)).depth < 8) ∧
  (∃ (s : State) (who : Requester) (k : KeySlot), s.newSlot false = some k ∧ 2 ≤ s.roleOf who ∧ s.mayWrite who ∧ 4 < s.get
      F.KEY_ARG_SLOT ∧ s.rootNow ≠ 0 ∧ (s.keySlot (s.get F.KEY_ARG_SLOT)).kind = 0 ∧ s.get F.KEY_ARG_FROM_ROOT = 0 ∧
      s.keeperCheck 0 true (s.get F.KEY_ARG_PARENT) KeyOp.derive = none ∧ 8 ≤ (s.keySlot (s.get F.KEY_ARG_PARENT)).depth) ∧
  (∃ (s : State) (who : Requester), 2 ≤ s.roleOf who ∧ s.mayWrite who ∧ 4 < s.get F.KEY_ARG_SLOT ∧ s.rootNow ≠ 0 ∧ (s.keySlot
      (s.get F.KEY_ARG_SLOT)).kind = 0 ∧ s.newSlot false = none) ∧
  (∃ (s : State) (who : Requester), 2 ≤ s.roleOf who ∧ s.mayWrite who ∧ 4 < s.get F.KEY_ARG_SLOT ∧ s.rootNow ≠ 0 ∧ (∃ p ∈
      s.keys.slots, p.2.kind = 3 ∧ p.2.rooted = false ∧ p.2.parent = s.get F.KEY_ARG_SLOT)) ∧
  (∃ (s : State) (who : Requester), 2 ≤ s.roleOf who ∧ s.mayWrite who ∧ 4 < s.get F.KEY_ARG_SLOT ∧ s.rootNow ≠ 0 ∧ (∀ p ∈
      s.keys.slots, p.2.kind = 3 → p.2.rooted = true ∨ p.2.parent ≠ s.get F.KEY_ARG_SLOT)) ∧
  (∃ (s : State) (who : Requester), 2 ≤ s.roleOf who ∧ s.mayWrite who ∧ s.rootNow ≠ 0 ∧ (s.keySlot 0).kind ≠ 0) := by
  refine ⟨⟨(ks {life := .provisioned, rows := [{}], inp := [1,2,3], slots := [(9, {kind := 1})]}), (.session 9), (0x5AFE),
      (.provision (.session 9) 0x5AFE), ?_⟩,
    ⟨(ks ({life := .provisioned, rows := [{}], inp := [1,2,3], slots := [(9, {kind := 1})]}) [] .stop), (.session 3), (4),
        (.provision (.session 3) 4), ?_⟩,
    ⟨(ks ({life := .blank, rows := [{}], inp := [1,2,3], slots := [(9, {kind := 1})], killed := true}) [(F.SYS_MODE_CAUSE, 4)]
        .stop), (.session 3), (1), (.provision (.session 3) 0x5AFE), (match (ks
        ({life := .blank, rows := [{}], inp := [1,2,3], slots := [(9, {kind := 1})], killed := true}) [(F.SYS_MODE_CAUSE, 4)]
        .stop).lifeTarget 1 with | .inr v => v | .inl _ => 0), ?_⟩,
    ⟨(let s := ks ({life := .blank, rows := [{}], inp := [1,2,3], slots := [(9, {kind := 1})], killed := false}) [(F.SYS_MODE_CAUSE, 4)] .stop; {s with keys := {s.keys with fuse := some .returned}}), (.session 3), (1), (.provision (.session 3) 0x5AFE), (.provisioned), ?_⟩,
    ⟨(ks ({life := .blank, rows := [{}], inp := [1,2,3], slots := [(9, {kind := 1})], killed := false}) [(F.SYS_MODE_CAUSE, 4)]
        .stop), (.session 3), (1), (.provision (.session 3) 0x5AFE), (.provisioned), ?_⟩,
    ⟨({ks ({life := .blank, rows := [{}], inp := [1,2,3], slots := [(9, {kind := 1})], killed := false}) [] .stop with role := .solo}), ?_⟩,
    ⟨({ks ({life := .blank, rows := [{}], inp := [1,2,3], slots := [(9, {kind := 1})], killed := false}) [] .stop with role := .solo}), ?_⟩,
    ⟨({ks ({life := .provisioned, rows := [{}], inp := [1,2,3], slots := [(9, {kind := 1})], killed := false}) [] .stop with role := .solo}), ?_⟩,
    ⟨({ks ({life := .provisioned, rows := [{}], inp := [1,2,3], slots := [(9, {kind := 1})], killed := false}) [] .stop with role := .solo}), ?_⟩,
    ⟨(ks ({life := .provisioned, rows := [{}], inp := [1,2,3], slots := [(9, {kind := 1})]}) [(F.KEY_ARG_SLOT, 0)] .stop),
        (.session 3), ?_⟩,
    ⟨(ks {life := .scrapped, rows := [{}], inp := [1,2,3], slots := [(9, {kind := 1, root := 2, world := 3, life := 31, use_ := 64, mat := .octets [1,2,3]})]} [(F.KEY_ARG_SLOT, 2), (F.KEY_ARG_FROM_ROOT, 0), (F.KEY_ARG_PARENT, 0)]), (.session 3), ?_⟩,
    ⟨(ks {life := .scrapped, rows := [{}], inp := [1,2,3], slots := [(9, {kind := 1, root := 2, world := 3, life := 31, use_ := 64, mat := .octets [1,2,3]})]} [(F.KEY_ARG_SLOT, 6), (F.KEY_ARG_FROM_ROOT, 0), (F.KEY_ARG_PARENT, 0)]), (.session 3), 4, (.keyGenerate (.session 3) 4), ?_⟩,
    ⟨(ks {life := .provisioned, rows := [{}], inp := [1,2,3], slots := [(9, {kind := 1, root := 2, world := 3, life := 31, use_ := 64, mat := .octets [1,2,3]})]} [(F.KEY_ARG_SLOT, 2), (F.KEY_ARG_FROM_ROOT, 0), (F.KEY_ARG_PARENT, 9)]), (.session 3), ?_⟩,
    ⟨(ks {life := .provisioned, rows := [{}], inp := (List.range 64), installed2 := true} [(F.KEY_ARG_SLOT, 2)] .stop), (.session
        3), ?_⟩,
    ⟨(ks {life := .provisioned, rows := [{}], inp := (List.range 64), slots := [(9, {kind := 2})]} [(F.KEY_ARG_SLOT, 2)] .stop),
        (.session 3), ?_⟩,
    ⟨(ks {life := .provisioned, rows := [{}], inp := (List.range 96), label := [1,2,3], slots := [(9, {kind := 1}), (12, {kind := 3, parent := 0}), (13, {kind := 3, parent := 77, rooted := true})]} [(F.KEY_ARG_SLOT, 9), (F.KEY_ARG_FROM_ROOT, 1), (F.KEY_NEWATTR_ATTR, 310377985), (F.KEY_NEWUSE_USES, 5)] .stop), (.session 3), ?_⟩,
    ⟨(ks {life := .provisioned, rows := [{}], inp := (List.range 96), label := [1,2,3], slots := [(9, {kind := 1}), (12, {kind := 3, parent := 0}), (13, {kind := 3, parent := 77, rooted := true})]} [(F.KEY_ARG_SLOT, 9), (F.KEY_ARG_FROM_ROOT, 1), (F.KEY_NEWATTR_ATTR, 310377985), (F.KEY_NEWUSE_USES, 5)] .stop), (.session 3), ?_⟩,
    ⟨(ks {life := .provisioned, rows := [{}], inp := [1,2,3], slots := [(9, {kind := 1, root := 2, world := 3, life := 31, use_ := 64, mat := .octets [1,2,3]})]} [(F.KEY_ARG_SLOT, 6), (F.KEY_ARG_FROM_ROOT, 0), (F.KEY_ARG_PARENT, 8), (F.KEY_NEWATTR_ATTR, 310377984), (F.KEY_NEWUSE_USES, 5)]), (.session 3), ((((ks {life := .provisioned, rows := [{}], inp := [1,2,3], slots := [(9, {kind := 1, root := 2, world := 3, life := 31, use_ := 64, mat := .octets [1,2,3]})]} [(F.KEY_ARG_SLOT, 6), (F.KEY_ARG_FROM_ROOT, 0), (F.KEY_ARG_PARENT, 8), (F.KEY_NEWATTR_ATTR, 310377984), (F.KEY_NEWUSE_USES, 5)]) : State).keeperCheck 0 true (((ks {life := .provisioned, rows := [{}], inp := [1,2,3], slots := [(9, {kind := 1, root := 2, world := 3, life := 31, use_ := 64, mat := .octets [1,2,3]})]} [(F.KEY_ARG_SLOT, 6), (F.KEY_ARG_FROM_ROOT, 0), (F.KEY_ARG_PARENT, 8), (F.KEY_NEWATTR_ATTR, 310377984), (F.KEY_NEWUSE_USES, 5)]) : State).get F.KEY_ARG_PARENT) KeyOp.derive).get (by decide +kernel)), ?_⟩,
    ⟨(ks {life := .provisioned, rows := [{}], inp := (List.range 96), label := [1,2,3], slots := [(9, {kind := 0}), (12, {kind := 3, parent := 0}), (13, {kind := 3, parent := 77, rooted := true})]} [(F.KEY_ARG_SLOT, 9), (F.KEY_ARG_FROM_ROOT, 1), (F.KEY_NEWATTR_ATTR, 310377984), (F.KEY_NEWUSE_USES, 5)] .stop), (.session 3), ((((ks {life := .provisioned, rows := [{}], inp := (List.range 96), label := [1,2,3], slots := [(9, {kind := 0}), (12, {kind := 3, parent := 0}), (13, {kind := 3, parent := 77, rooted := true})]} [(F.KEY_ARG_SLOT, 9), (F.KEY_ARG_FROM_ROOT, 1), (F.KEY_NEWATTR_ATTR, 310377984), (F.KEY_NEWUSE_USES, 5)] .stop) : State).newSlot true).get (by decide +kernel)), ?_⟩,
    ⟨(ks {life := .provisioned, rows := [{}], inp := (List.range 96), label := [1,2,3], slots := [(9, {kind := 0}), (12, {kind := 3, parent := 0}), (13, {kind := 3, parent := 77, rooted := true})]} [(F.KEY_ARG_SLOT, 9), (F.KEY_ARG_FROM_ROOT, 1), (F.KEY_NEWATTR_ATTR, 310377984), (F.KEY_NEWUSE_USES, 5)] .stop), (.session 3), ((((ks {life := .provisioned, rows := [{}], inp := (List.range 96), label := [1,2,3], slots := [(9, {kind := 0}), (12, {kind := 3, parent := 0}), (13, {kind := 3, parent := 77, rooted := true})]} [(F.KEY_ARG_SLOT, 9), (F.KEY_ARG_FROM_ROOT, 1), (F.KEY_NEWATTR_ATTR, 310377984), (F.KEY_NEWUSE_USES, 5)] .stop) : State).newSlot false).get (by decide +kernel)), ?_⟩,
    ⟨(ks {life := .provisioned, rows := [{}], inp := (List.range 96), label := [1,2,3], slots := [(9, {kind := 0}), (12, {kind := 3, parent := 0}), (13, {kind := 3, parent := 77, rooted := true})]} [(F.KEY_ARG_SLOT, 9), (F.KEY_ARG_FROM_ROOT, 1), (F.KEY_NEWATTR_ATTR, 310377984), (F.KEY_NEWUSE_USES, 5)] .stop), (.session 3), ((((ks {life := .provisioned, rows := [{}], inp := (List.range 96), label := [1,2,3], slots := [(9, {kind := 0}), (12, {kind := 3, parent := 0}), (13, {kind := 3, parent := 77, rooted := true})]} [(F.KEY_ARG_SLOT, 9), (F.KEY_ARG_FROM_ROOT, 1), (F.KEY_NEWATTR_ATTR, 310377984), (F.KEY_NEWUSE_USES, 5)] .stop) : State).newSlot false).get (by decide +kernel)), ?_⟩,
    ⟨(ks {life := .provisioned, rows := [{}], inp := [1,2,3], slots := [(9, {kind := 1, root := 2, world := 3, life := 31, use_ := 64, mat := .octets [1,2,3]})]} [(F.KEY_ARG_SLOT, 6), (F.KEY_ARG_FROM_ROOT, 0), (F.KEY_ARG_PARENT, 9), (F.KEY_NEWATTR_ATTR, 310377984), (F.KEY_NEWUSE_USES, 5)]), (.session 3), ((((ks {life := .provisioned, rows := [{}], inp := [1,2,3], slots := [(9, {kind := 1, root := 2, world := 3, life := 31, use_ := 64, mat := .octets [1,2,3]})]} [(F.KEY_ARG_SLOT, 6), (F.KEY_ARG_FROM_ROOT, 0), (F.KEY_ARG_PARENT, 9), (F.KEY_NEWATTR_ATTR, 310377984), (F.KEY_NEWUSE_USES, 5)]) : State).newSlot false).get (by decide +kernel)), ?_⟩,
    ⟨(ks {life := .provisioned, rows := [{}], inp := [1,2,3], slots := [(9, {kind := 1, root := 2, world := 3, life := 31, use_ := 64, depth := 8, mat := .octets [1,2,3]})]} [(F.KEY_ARG_SLOT, 6), (F.KEY_ARG_FROM_ROOT, 0), (F.KEY_ARG_PARENT, 9), (F.KEY_NEWATTR_ATTR, 310377984), (F.KEY_NEWUSE_USES, 5)]), (.session 3), ((((ks {life := .provisioned, rows := [{}], inp := [1,2,3], slots := [(9, {kind := 1, root := 2, world := 3, life := 31, use_ := 64, depth := 8, mat := .octets [1,2,3]})]} [(F.KEY_ARG_SLOT, 6), (F.KEY_ARG_FROM_ROOT, 0), (F.KEY_ARG_PARENT, 9), (F.KEY_NEWATTR_ATTR, 310377984), (F.KEY_NEWUSE_USES, 5)]) : State).newSlot false).get (by decide +kernel)), ?_⟩,
    ⟨(ks {life := .provisioned, rows := [{}], inp := (List.range 96), label := [1,2,3], slots := [(9, {kind := 0}), (12, {kind := 3, parent := 0}), (13, {kind := 3, parent := 77, rooted := true})]} [(F.KEY_ARG_SLOT, 9), (F.KEY_ARG_FROM_ROOT, 1), (F.KEY_NEWATTR_ATTR, 310377987), (F.KEY_NEWUSE_USES, 5)] .stop), (.session 3), ?_⟩,
    ⟨(ks {life := .provisioned, rows := [{}], inp := (List.range 96), label := [1,2,3], slots := [(9, {kind := 1}), (12, {kind := 3, parent := 9}), (13, {kind := 3, parent := 77, rooted := true})]} [(F.KEY_ARG_SLOT, 9), (F.KEY_ARG_FROM_ROOT, 1), (F.KEY_NEWATTR_ATTR, 310377985), (F.KEY_NEWUSE_USES, 5)] .stop), (.session 3), ?_⟩,
    ⟨(ks {life := .provisioned, rows := [{}], inp := (List.range 96), label := [1,2,3], slots := [(9, {kind := 1}), (12, {kind := 3, parent := 8}), (13, {kind := 3, parent := 77, rooted := true})]} [(F.KEY_ARG_SLOT, 9), (F.KEY_ARG_FROM_ROOT, 1), (F.KEY_NEWATTR_ATTR, 310377985), (F.KEY_NEWUSE_USES, 5)] .stop), (.session 3), ?_⟩,
    ⟨(ks {life := .provisioned, rows := [{}], slots := [(0, {kind := 1})]}), (.session 3), ?_⟩⟩
  all_goals
    repeat' first
      | (unfold HxmMsg.sentAs; rfl)
      | decide +kernel
      | exact mayWrite_engine
      | (apply mayWrite_of; decide +kernel)
      | (apply canCall_program; decide +kernel)
      | (apply canCall_host <;> decide +kernel)
      | (apply canIssue_of; decide +kernel)
      | (apply hasNext_of; decide +kernel)
      | apply runsOn_of
      | (apply ownElem_of; decide +kernel)
      | (apply awaits_program; decide +kernel)
      | (apply awaits_host; decide +kernel)
      | (apply unheld_of; decide +kernel)
      | (apply hasSlot_of; decide +kernel)
      | (apply askedBy_of; decide +kernel)
      | (apply canAsk_of <;> decide +kernel)
      | (apply hears_of (c := 12) <;> decide +kernel)
      | (apply not_hears_of; decide +kernel)
      | (apply memOk_of; decide +kernel)
      | (apply all_below; decide +kernel)
      | (intro _ h; cases h; done)
      | (intro _ _ h; cases h; done)
      | (apply dmaMay_of; decide +kernel)
      | (apply dmaMay_all; decide +kernel)
      | (apply exists_some; decide +kernel)
      | (apply all_some; decide +kernel)
      | apply And.intro
      | exact rfl
      | (intro _ h; exact absurd (show Origin.quiet = _ from h) (by decide +kernel))

theorem wit_TheKeeperServesWhatItMay :
  (∃ (s : State) (e : Nat) (slot : Nat) (op : Nat) (sec : Bool) (st : Nat), s.keeperCheck e sec slot op = some st ∧ 22 ∉
      s.gal.masked ∧ e ∉ s.gal.masked) ∧
  (∃ (s : State) (e : Nat) (slot : Nat) (op : Nat) (sec : Bool), 22 ∉ s.gal.masked ∧ e ∉ s.gal.masked ∧ s.keeperCheck e sec slot
      op = none) ∧
  (∃ (s : State) (e : Nat), 22 ∈ s.gal.masked ∨ e ∈ s.gal.masked) ∧
  (∃ (s : State) (slot : Nat), (s.keySlot slot).kind = 0) ∧
  (∃ (s : State) (slot : Nat), (s.keySlot slot).kind ≠ 0 ∧ (bit (s.keySlot slot).life s.keys.life.code = false ∨ s.rootNow = 0 ∨
      s.rootNow ≠ (s.keySlot slot).root)) ∧
  (∃ (s : State) (e : Nat) (slot : Nat) (op : Nat) (sec : Bool), (s.keySlot slot).kind ≠ 0 ∧ bit (s.keySlot slot).life
      s.keys.life.code = true ∧ s.rootNow ≠ 0 ∧ s.rootNow = (s.keySlot slot).root ∧ (bit (s.keySlot slot).world (if sec = true
      then 0 else 1) = false ∨ e ≠ (s.keySlot slot).master ∧ ((s.keySlot slot).paircore = false ∨ 2 ≤ e) ∨ bit (s.keySlot
      slot).use_ op = false)) ∧
  (∃ (s : State) (slot : Nat) (op : Nat) (sec : Bool), (s.keySlot slot).kind ≠ 0 ∧ bit (s.keySlot slot).life s.keys.life.code =
      true ∧ s.rootNow ≠ 0 ∧ s.rootNow = (s.keySlot slot).root ∧ (bit (s.keySlot slot).world (if sec = true then 0 else 1) =
      true) ∧ bit (s.keySlot slot).use_ op = true ∧ ((s.keySlot slot).kind = 5 ∨ (s.keySlot slot).fallback = 1 ∧ (s.keySlot
      slot).uses = 0)) ∧
  (∃ (s : State) (e : Nat) (slot : Nat) (op : Nat) (sec : Bool), (s.keySlot slot).kind ≠ 0 ∧ bit (s.keySlot slot).life
      s.keys.life.code = true ∧ s.rootNow ≠ 0 ∧ s.rootNow = (s.keySlot slot).root ∧ (bit (s.keySlot slot).world (if sec = true
      then 0 else 1) = true) ∧ (e = (s.keySlot slot).master ∨ (s.keySlot slot).paircore = true ∧ (s.keySlot slot).master < 2 ∧ e
      < 2) ∧ bit (s.keySlot slot).use_ op = true ∧ (s.keySlot slot).kind ≠ 5 ∧ ((s.keySlot slot).fallback ≠ 1 ∨ (s.keySlot
      slot).uses ≠ 0)) ∧
  (∃ (s : State) (q : KeeperOp) (l : List KeeperOp) (st : Nat), s.keeperCheck q.engine q.secure q.slot q.op = some st ∧
      s.keys.queue = q :: l ∧ 22 ∉ s.gal.masked) ∧
  (∃ (s : State) (q : KeeperOp) (l : List KeeperOp), s.keys.queue = q :: l ∧ 22 ∉ s.gal.masked ∧ s.keeperCheck q.engine q.secure
      q.slot q.op = none ∧ (s.keySlot q.slot).fallback ≠ 1) ∧
  (∃ (s : State) (q : KeeperOp) (l : List KeeperOp), s.keys.queue = q :: l ∧ 22 ∉ s.gal.masked ∧ s.keeperCheck q.engine q.secure
      q.slot q.op = none ∧ (s.keySlot q.slot).fallback = 1) ∧
  (∃ (s : State), s.keys.queue = [] ∨ 22 ∈ s.gal.masked) ∧
  (∃ (s : State), s.phase = Phase.reset) ∧
  (∃ (s : State), s.phase ≠ Phase.reset) ∧
  (∃ (s : State) (who : Requester) (c : Nat), s.mayWrite who ∧ c ≠ 23294) ∧
  (∃ (s : State) (who : Requester), s.mayWrite who ∧ s.keys.life ≠ Life.returned) ∧
  (∃ (s : State) (who : Requester), s.mayWrite who ∧ s.keys.life = Life.returned ∧ s.mode ≠ Mode.stop) ∧
  (∃ (s : State) (who : Requester), s.mayWrite who ∧ s.keys.life = Life.returned ∧ s.mode = Mode.stop ∧ s.phase = Phase.running ∧
      s.bst.fuseEntries ≤ Config.fuseCapacity) ∧
  (∃ (s : State) (who : Requester), s.mayWrite who ∧ s.keys.life ≠ Life.blank ∧ s.keys.life ≠ Life.returned) ∧
  (∃ (s : State) (who : Requester), s.mayWrite who ∧ (s.keys.life = Life.blank ∨ s.keys.life = Life.returned) ∧ (s.mode =
      Mode.stop ∨ s.mode = Mode.basic) ∧ s.phase = Phase.running) ∧
  (∃ (s : State) (who : Requester) (k : Nat), s.mayWrite who ∧ 8 ≤ k) ∧
  (∃ (s : State) (who : Requester) (k : Nat) (w : Word), s.mayWrite who ∧ k < 8 ∧ obsPermitted (bits (BitVec.toNat w) 8 5)
      s.keys.life = false) ∧
  (∃ (s : State) (who : Requester) (k : Nat) (w : Word), s.mayWrite who ∧ k < 8 ∧ obsPermitted (bits (BitVec.toNat w) 8 5)
      s.keys.life = true) := by
  refine ⟨⟨(ks
      {life := .provisioned, rows := [{}], slots := [(9, {kind := 0, master := 7, paircore := true, world := 1, life := 0x1F, use_ := 0x10, root := 2, fallback := 0, uses := 0})], queue := [⟨7, false, 9, 4⟩]}), (7), (9), (4), (true), ((((ks {life := .provisioned, rows := [{}], slots := [(9, {kind := 0, master := 7, paircore := true, world := 1, life := 0x1F, use_ := 0x10, root := 2, fallback := 0, uses := 0})], queue := [⟨7, false, 9, 4⟩]}) : State).keeperCheck ((7) : Nat) ((true) : Bool) ((9) : Nat) ((4) : Nat)).get (by decide +kernel)), ?_⟩,
    ⟨(ks {life := .provisioned, rows := [{}], slots := [(9, {kind := 1, master := 7, paircore := true, world := 1, life := 0x1F, use_ := 0x10, root := 2, fallback := 0, uses := 0})], queue := [⟨7, false, 9, 4⟩]}), (7), (9), (4), (true), ?_⟩,
    ⟨({ks {life := .provisioned, rows := [{}], slots := [(9, {kind := 1, master := 7, paircore := true, world := 3, life := 0x1F, use_ := 0x10, root := 2, fallback := 0, uses := 0})], queue := [⟨7, false, 9, 4⟩]} with gal := {masked := [22]}}), (7), ?_⟩,
    ⟨(ks {life := .provisioned, rows := [{}], slots := [(9, {kind := 0, master := 7, paircore := true, world := 1, life := 0x1F, use_ := 0x10, root := 2, fallback := 0, uses := 0})], queue := [⟨7, false, 9, 4⟩]}), (9), ?_⟩,
    ⟨(let s := ks {life := .provisioned, rows := [{}], slots := [(9, {kind := 1, master := 7, paircore := true, world := 1, life := 0x1F, use_ := 0x10, root := 2, fallback := 0, uses := 0})], queue := [⟨7, false, 9, 4⟩]}; {s with keys := {s.keys with zeroised := true}}), (9), ?_⟩,
    ⟨(ks {life := .provisioned, rows := [{}], slots := [(9, {kind := 1, master := 7, paircore := true, world := 1, life := 0x1F, use_ := 0x10, root := 2, fallback := 0, uses := 0})], queue := [⟨7, false, 9, 4⟩]}), (7), (9), (3), (true), ?_⟩,
    ⟨(ks {life := .provisioned, rows := [{}], slots := [(9, {kind := 1, root := 2, master := 7, world := 3, life := 0x1F, use_ := 0x10, fallback := 1, uses := 0})]}), 9, 4, true, ?_⟩,
    ⟨(ks {life := .provisioned, rows := [{}], slots := [(9, {kind := 1, master := 7, paircore := true, world := 1, life := 0x1F, use_ := 0x10, root := 2, fallback := 0, uses := 0})], queue := [⟨7, false, 9, 4⟩]}), (7), (9), (4), (true), ?_⟩,
    ⟨({(ks {life := .provisioned, rows := [{}], slots := [(9, {kind := 0, master := 7, paircore := true, world := 1, life := 0x1F, use_ := 0x10, root := 2, fallback := 0, uses := 0})], queue := [⟨7, false, 9, 4⟩]}) with keys := {(ks {life := .provisioned, rows := [{}], slots := [(9, {kind := 0, master := 7, paircore := true, world := 1, life := 0x1F, use_ := 0x10, root := 2, fallback := 0, uses := 0})], queue := [⟨7, false, 9, 4⟩]}).keys with queue := [⟨7, true, 9, 4⟩, ⟨7, true, 9, 4⟩]}}), (⟨7, true, 9, 4⟩), ([⟨7, true, 9, 4⟩]), (((({(ks {life := .provisioned, rows := [{}], slots := [(9, {kind := 0, master := 7, paircore := true, world := 1, life := 0x1F, use_ := 0x10, root := 2, fallback := 0, uses := 0})], queue := [⟨7, false, 9, 4⟩]}) with keys := {(ks {life := .provisioned, rows := [{}], slots := [(9, {kind := 0, master := 7, paircore := true, world := 1, life := 0x1F, use_ := 0x10, root := 2, fallback := 0, uses := 0})], queue := [⟨7, false, 9, 4⟩]}).keys with queue := [⟨7, true, 9, 4⟩, ⟨7, true, 9, 4⟩]}}) : State).keeperCheck ((⟨7, true, 9, 4⟩) : KeeperOp).engine ((⟨7, true, 9, 4⟩) : KeeperOp).secure ((⟨7, true, 9, 4⟩) : KeeperOp).slot ((⟨7, true, 9, 4⟩) : KeeperOp).op).get (by decide +kernel)), ?_⟩,
    ⟨({(ks {life := .provisioned, rows := [{}], slots := [(9, {kind := 1, master := 7, paircore := true, world := 1, life := 0x1F, use_ := 0x10, root := 2, fallback := 0, uses := 0})], queue := [⟨7, false, 9, 4⟩]}) with keys := {(ks {life := .provisioned, rows := [{}], slots := [(9, {kind := 1, master := 7, paircore := true, world := 1, life := 0x1F, use_ := 0x10, root := 2, fallback := 0, uses := 0})], queue := [⟨7, false, 9, 4⟩]}).keys with queue := [⟨7, true, 9, 4⟩, ⟨7, true, 9, 4⟩]}}), (⟨7, true, 9, 4⟩), ([⟨7, true, 9, 4⟩]), ?_⟩,
    ⟨({(ks {life := .provisioned, rows := [{}], slots := [(9, {kind := 1, master := 7, paircore := true, world := 1, life := 0x1F, use_ := 0x10, root := 2, fallback := 1, uses := 1})], queue := [⟨7, false, 9, 4⟩]}) with keys := {(ks {life := .provisioned, rows := [{}], slots := [(9, {kind := 1, master := 7, paircore := true, world := 1, life := 0x1F, use_ := 0x10, root := 2, fallback := 1, uses := 1})], queue := [⟨7, false, 9, 4⟩]}).keys with queue := [⟨7, true, 9, 4⟩, ⟨7, true, 9, 4⟩]}}), (⟨7, true, 9, 4⟩), ([⟨7, true, 9, 4⟩]), ?_⟩,
    ⟨({ks {life := .provisioned, rows := [{}], slots := [(9, {kind := 1, master := 7, paircore := true, world := 3, life := 0x1F, use_ := 0x10, root := 2, fallback := 0, uses := 0})], queue := [⟨7, false, 9, 4⟩]} with gal := {masked := [22]}}), ?_⟩,
    ⟨(State.reset), ?_⟩,
    ⟨(ks {}), ?_⟩,
    ⟨(ks {} [] .stop), (.session 9), (4), ?_⟩,
    ⟨(ks {life := .blank}), (.session 9), ?_⟩,
    ⟨(ks {life := .returned} [] .run), (.session 9), ?_⟩,
    ⟨(ks {life := .returned}), (.session 9), ⟨mayWrite_of (by decide +kernel), rfl, rfl, rfl, Nat.zero_le _⟩⟩,
    ⟨(ks {life := .provisioned}), (.session 9), ?_⟩,
    ⟨(ks {life := .blank, queue := [⟨7, false, 9, 4⟩], cache := [(4, [])], rows := [{}], slots := [(9, {kind := 1})]}
        [(F.STP_STAT_DECLARED, 0)] .stop), (.session 9), ?_⟩,
    ⟨(ks {}), (.session 9), (8), ?_⟩,
    ⟨({ks {life := .scrapped, cache := [(4, [])]} with phase := .running}), (.session 9), (7), (0), ?_⟩,
    ⟨({ks {life := .blank, cache := [(4, [])]} with phase := .running}), (.session 9), (7), (0), ?_⟩⟩
  all_goals
    repeat' first
      | (unfold HxmMsg.sentAs; rfl)
      | decide +kernel
      | exact mayWrite_engine
      | (apply mayWrite_of; decide +kernel)
      | (apply canCall_program; decide +kernel)
      | (apply canCall_host <;> decide +kernel)
      | (apply canIssue_of; decide +kernel)
      | (apply hasNext_of; decide +kernel)
      | apply runsOn_of
      | (apply ownElem_of; decide +kernel)
      | (apply awaits_program; decide +kernel)
      | (apply awaits_host; decide +kernel)
      | (apply unheld_of; decide +kernel)
      | (apply hasSlot_of; decide +kernel)
      | (apply askedBy_of; decide +kernel)
      | (apply canAsk_of <;> decide +kernel)
      | (apply hears_of (c := 12) <;> decide +kernel)
      | (apply not_hears_of; decide +kernel)
      | (apply memOk_of; decide +kernel)
      | (apply all_below; decide +kernel)
      | (intro _ h; cases h; done)
      | (intro _ _ h; cases h; done)
      | (apply dmaMay_of; decide +kernel)
      | (apply dmaMay_all; decide +kernel)
      | (apply exists_some; decide +kernel)
      | (apply all_some; decide +kernel)
      | apply And.intro
      | exact rfl
      | (intro _ h; exact absurd (show Origin.quiet = _ from h) (by decide +kernel))

theorem wit_RecordsAreWrittenInOrder :
  (∃ (s : State) (r : LogRec) (l : List LogRec), s.recs.queue = r :: l ∧ s.recs.held.length < 65536) ∧
  (∃ (s : State) (r : LogRec) (l : List LogRec) (x : LogRec), s.recs.queue = r :: l ∧ 65536 ≤ s.recs.held.length ∧ x ∈
      s.recs.held ∧ (∀ y ∈ s.recs.held, x.sev ≤ y.sev) ∧ x.sev ≤ 3 ∧ r.sev < x.sev) ∧
  (∃ (s : State) (r : LogRec) (l : List LogRec) (x : LogRec), s.recs.queue = r :: l ∧ 65536 ≤ s.recs.held.length ∧ x ∈
      s.recs.held ∧ (∀ y ∈ s.recs.held, x.sev ≤ y.sev) ∧ x.sev ≤ 3 ∧ x.sev ≤ r.sev) ∧
  (∃ (s : State), s.recs.queue = []) ∧
  (∃ (s : State) (who : Requester), s.mayWrite who) ∧
  (∃ (s : State), s.framesOn = true ∧ s.get F.TIM_STAT_STATE ≠ 0 ∧ s.recs.markAt + 3600000 ≤ s.recs.optime ∧ s.recs.queue.length
      < 256) ∧
  (∃ (s : State), s.framesOn = false ∨ s.get F.TIM_STAT_STATE = 0 ∨ s.recs.optime < s.recs.markAt + 3600000) ∧
  (∃ (s : State), s.recs.left = some 0 ∧ s.recs.trigNow = false) ∧
  (∃ (s : State), s.recs.left ≠ some 0 ∨ s.recs.trigNow = true) ∧
  (∃ (s : State) (who : Requester), s.mayWrite who ∧ s.get F.LOG_VIT_STAT_FROZEN = 0 ∧ s.recs.left = none) ∧
  (∃ (s : State) (who : Requester), s.mayWrite who ∧ s.get F.LOG_VIT_STAT_FROZEN ≠ 0) := by
  refine ⟨⟨(rc {queue := [rr 5 2, rr 6 1], held := []}), (rr 5 2), ([rr 6 1]), ?_⟩,
    ⟨(fullLog 1), (rr 5 1), ([]), (rr 7 2), ⟨rfl, (fullLog_held 1).1, (fullLog_held 1).2.1, (fullLog_held 1).2.2, by decide, by
        decide⟩⟩,
    ⟨(fullLog 2), (rr 5 2), ([]), (rr 7 2), ⟨rfl, (fullLog_held 2).1, (fullLog_held 2).2.1, (fullLog_held 2).2.2, by decide, by
        decide⟩⟩,
    ⟨(rc {}), ?_⟩,
    ⟨(rc {held := [rr 1 0, rr 2 3]} [(F.LOG_NEWEST_ACC, 2)]), (.session 9), ?_⟩,
    ⟨(rc {optime := 7200000, markAt := 3600000, queue := List.replicate 0 (rr 5 3)} [(F.TIM_STAT_STATE, 1)]), ?_⟩,
    ⟨(rc {optime := 7200000, markAt := 3600001} [(F.TIM_STAT_STATE, 1)]), ?_⟩,
    ⟨(rc {left := some 0}), ?_⟩,
    ⟨(rc {left := some 1}), ?_⟩,
    ⟨(rc {} [(F.LOG_VIT_CFG_POST, 30)]), (.session 9), ?_⟩,
    ⟨(rc {} [(F.LOG_VIT_STAT_FROZEN, 1)]), (.session 9), ?_⟩⟩
  all_goals
    repeat' first
      | (unfold HxmMsg.sentAs; rfl)
      | decide +kernel
      | exact mayWrite_engine
      | (apply mayWrite_of; decide +kernel)
      | (apply canCall_program; decide +kernel)
      | (apply canCall_host <;> decide +kernel)
      | (apply canIssue_of; decide +kernel)
      | (apply hasNext_of; decide +kernel)
      | apply runsOn_of
      | (apply ownElem_of; decide +kernel)
      | (apply awaits_program; decide +kernel)
      | (apply awaits_host; decide +kernel)
      | (apply unheld_of; decide +kernel)
      | (apply hasSlot_of; decide +kernel)
      | (apply askedBy_of; decide +kernel)
      | (apply canAsk_of <;> decide +kernel)
      | (apply hears_of (c := 12) <;> decide +kernel)
      | (apply not_hears_of; decide +kernel)
      | (apply memOk_of; decide +kernel)
      | (apply all_below; decide +kernel)
      | (intro _ h; cases h; done)
      | (intro _ _ h; cases h; done)
      | (apply dmaMay_of; decide +kernel)
      | (apply dmaMay_all; decide +kernel)
      | (apply exists_some; decide +kernel)
      | (apply all_some; decide +kernel)
      | apply And.intro
      | exact rfl
      | (intro _ h; exact absurd (show Origin.quiet = _ from h) (by decide +kernel))

end Sys2Proof.Tests.Keys
end

