-- ==== Sys2Proof/Tests/WitnessLighting.lean ====
section
/-! SUPPORT. Witnesses: for each statement, states and operands that meet the hypotheses of its clauses together. -/

namespace Sys2Proof.Tests.Lighting
open Sys2Proof Sys2Proof.Machine Sys2Proof.Tests
set_option Elab.async false
set_option linter.unusedTactic false
set_option linter.unreachableTactic false

def sw : Session :=
    {typ := 0, role := 2, high := 100, window := [{seq := 99, done := true, fin := 1, cached := some [0, 7]}, {seq := 100}]}
def s1 (m : Mode) : State := {inRun pk1 {wa := 3, wb := 4} with mode := m, keys := keyed}
def s2 (m : Mode) : State := withSess (s1 m) sw
def sl : State :=
    {s2 .run with recs := {held := [⟨5,1,2,3,4,5,6,[7]⟩,⟨6,1,2,3,4,5,6,[7]⟩], vit := [{fnum := 9},{fnum := 10}]}, prog := {(s2 .run).prog with report := [4,1,5,2]}, light := {image := [(3, {group := 2})]}}
def ch (m : Mode) (st own : Nat) (g : Prog → Prog) : State := let s := ((s2 m).put F.PLX_CHG_STATE st).put F.PLX_CHG_OWNER own;
    {s with prog := g s.prog}
def sp : State :=
    ((({s1 .run with wired := {idents := [(8, 2)], sids := []}, keys := {keyed with slots := [(4, {kind := 1, world := 3, life := 31, use_ := 64, root := 2, mat := .octets [1,2,3]})]}}).put F.HXM_HOST_CFG_EN 1).put F.HXM_HOST_CFG_KEYSLOT 4).put F.HXM_HOST_CFG_ROLE 1
def sp2 : State := {sp with wired := {sids := [(2, 9)]}}

theorem wit_RequestsActOnceAndAreJudged :
  (∃ (s : State) (h : Hdr) (m : HxmMsg) (c : Instr) (x : Session), m.sentAs h c ∧ s.askedBy h x ∧ x.classify h.num =
      SeqClass.stale) ∧
  (∃ (s : State) (h : Hdr) (m : HxmMsg) (c : Instr) (x : Session), m.sentAs h c ∧ s.askedBy h x ∧ x.classify h.num =
      SeqClass.pending) ∧
  (∃ (s : State) (h : Hdr) (m : HxmMsg) (c : Instr) (x : Session) (l : Option (List Nat)), m.sentAs h c ∧ s.askedBy h x ∧
      x.classify h.num = SeqClass.duplicate l) ∧
  (∃ (s : State) (h : Hdr) (m : HxmMsg) (c : Instr) (x : Session), m.sentAs h c ∧ s.askedBy h x ∧ x.width = 32 ∧ (x.window ≠ [] ∨
      x.high ≠ 0) ∧ x.high < 2 ^ 32) ∧
  (∃ (s : State) (h : Hdr) (m : HxmMsg) (c : Instr) (x : Session), m.sentAs h c ∧ s.askedBy h x ∧ x.classify h.num =
      SeqClass.accepted ∧ ((if h.bad = true then St.badMessage else if 1280 < h.len then St.tooLarge else if m.formed = false
      then St.badMessage else if s.msgAccess h.ctx m = false then St.access else if s.mode = Mode.recovery ∧ m.inRecovery = false
      then St.mode else 0) ≠ 0)) := by
  refine ⟨⟨(s2 .run), (hd 36), .watchRead, (.watchRead (hd 36)), sw, ?_⟩,
    ⟨(s2 .run), (hd 100), .watchRead, (.watchRead (hd 100)), sw, ?_⟩,
    ⟨(s2 .run), (hd 99), .watchRead, (.watchRead (hd 99)), sw, [0,7], ?_⟩,
    ⟨(s2 .run), (hd 37), .watchRead, (.watchRead (hd 37)), sw, ?_⟩,
    ⟨(s2 .run), ({hd 101 with bad := true}), .watchRead, (.watchRead {hd 101 with bad := true}), sw, ?_⟩⟩
  all_goals
    repeat' first
      | (unfold HxmMsg.sentAs; rfl)
      | decide +kernel
      | exact mayWrite_engine
      | (apply mayWrite_of; decide +kernel)
      | (apply canCall_program; decide +kernel)
      | (apply canCall_host <;> decide +kernel)
      | (apply canIssue_of; decide +kernel)
      | (apply hasNext_of; decide +kernel)
      | apply runsOn_of
      | (apply ownElem_of; decide +kernel)
      | (apply awaits_program; decide +kernel)
      | (apply awaits_host; decide +kernel)
      | (apply unheld_of; decide +kernel)
      | (apply hasSlot_of; decide +kernel)
      | (apply askedBy_of; decide +kernel)
      | (apply canAsk_of <;> decide +kernel)
      | (apply hears_of (c := 12) <;> decide +kernel)
      | (apply not_hears_of; decide +kernel)
      | (apply memOk_of; decide +kernel)
      | (apply all_below; decide +kernel)
      | (intro _ h; cases h; done)
      | (intro _ _ h; cases h; done)
      | (apply dmaMay_of; decide +kernel)
      | (apply dmaMay_all; decide +kernel)
      | (apply exists_some; decide +kernel)
      | (apply all_some; decide +kernel)
      | apply And.intro
      | exact rfl
      | (intro _ h; exact absurd (show Origin.quiet = _ from h) (by decide +kernel))

theorem wit_HostsReadWriteAndCall :
  (∃ (s : State) (h : Hdr) (a : Nat) (off : Nat) (n : Nat), s.canAsk h (HxmMsg.read (ReadTgt.area a off n)) ∧ off + n ≤ areaSize
      a) ∧
  (∃ (s : State) (h : Hdr) (addr : Nat) (n : Nat) (u : State) (l : List Nat), s.canAsk h (HxmMsg.read (ReadTgt.words addr n)) ∧
      (s.taken h 1).regReads (Requester.session h.ctx) addr n = (u, some l)) ∧
  (∃ (s : State) (h : Hdr) (addr : Nat) (n : Nat) (u : State), s.canAsk h (HxmMsg.read (ReadTgt.words addr n)) ∧ (s.taken h
      1).regReads (Requester.session h.ctx) addr n = (u, none)) ∧
  (∃ (s : State) (h : Hdr) (a : Nat) (off : Nat) (n : Nat), s.canAsk h (HxmMsg.read (ReadTgt.area a off n)) ∧ areaSize a < off +
      n) ∧
  (∃ (s : State) (h : Hdr) (addr : Nat) (st : Nat) (w : Word) (u : State), s.canAsk h (HxmMsg.write (WriteTgt.words addr (leBytes
      4 (BitVec.toNat w)))) ∧ (s.taken h 2).regWrite (Requester.session h.ctx) addr (BitVec.toNat w) = (u, st) ∧ st ≠ St.pending)
      ∧
  (∃ (s : State) (h : Hdr) (addr : Nat) (a : Nat) (w : Word) (u : State), cmdStatOf addr = some a ∧ s.canAsk h (HxmMsg.write
      (WriteTgt.words addr (leBytes 4 (BitVec.toNat w)))) ∧ (s.taken h 2).regWrite (Requester.session h.ctx) addr (BitVec.toNat
      w) = (u, St.pending)) ∧
  (∃ (s : State) (h : Hdr) (addr : Nat) (st : Nat) (l : List Nat) (u : State) (p : Option Nat), s.canAsk h (HxmMsg.write
      (WriteTgt.words addr l)) ∧ 8 ≤ l.length ∧ (s.taken h 2).regWrites (Requester.session h.ctx) addr (wordsOf l) = (u, st, p) ∧
      st ≠ St.done ∧ st ≠ St.pending) ∧
  (∃ (s : State) (h : Hdr) (g : Machine.Graph), s.canAsk h (HxmMsg.write (WriteTgt.graph g)) ∧ s.mode = Mode.stop) ∧
  (∃ (s : State) (h : Hdr) (g : Machine.Graph), s.canAsk h (HxmMsg.write (WriteTgt.graph g)) ∧ s.mode ≠ Mode.stop) ∧
  (∃ (s : State) (h : Hdr) (a : SvcArgs) (code : Nat) (c : Instr), s.canAsk h (HxmMsg.service code a) ∧ (code, c) ∈ [(1,
      Instr.reqStop h.by_ a), (327682, Instr.retainSave h.by_ a), (393217, Instr.setGroup h.by_ a), (458753, Instr.nodeQuery
      h.by_ a), (655364, Instr.setSp h.by_ a), (786433, Instr.taskQueue h.by_ a), (851969, Instr.declareStop h.by_ a), (917505,
      Instr.trigArm h.by_ a), (1179649, Instr.daliArc h.by_ a), (1638401, Instr.logEvent h.by_ a)]) ∧
  (∃ (s : State) (h : Hdr) (n : Nat) (x : Session), s.session h.ctx = some x ∧ s.canAsk h (HxmMsg.abort n) ∧ (List.find? (fun e
      => decide (e.seq = n % 2 ^ 32)) x.window = none)) ∧
  (∃ (s : State) (h : Hdr) (n : Nat) (x : Session) (e : SeqEntry), s.session h.ctx = some x ∧ (List.find? (fun e => decide (e.seq
      = n % 2 ^ 32)) x.window = some e) ∧ s.canAsk h (HxmMsg.abort n) ∧ e.done = true) ∧
  (∃ (s : State) (h : Hdr) (n : Nat) (x : Session) (e : SeqEntry) (u : State) (st : Nat), s.session h.ctx = some x ∧ (List.find?
      (fun e => decide (e.seq = n % 2 ^ 32)) x.window = some e) ∧ s.canAsk h (HxmMsg.abort n) ∧ e.done = false ∧ (∀ p ∈
      s.wired.waitCmd, p.2 ≠ (h.ctx, n % 2 ^ 32)) ∧ (s.taken h 4).abortOp (Origin.host h.ctx (n % 2 ^ 32)) = (u, st) ∧ st ≠
      St.pending) ∧
  (∃ (s : State) (h : Hdr) (first : Nat) (count : Nat), s.canAsk h (HxmMsg.logRead first count)) ∧
  (∃ (s : State) (h : Hdr) (first : Nat) (count : Nat), s.canAsk h (HxmMsg.vitrineRead first count) ∧ first < 4096) ∧
  (∃ (s : State) (h : Hdr) (node : Nat) (count : Nat), s.canAsk h (HxmMsg.staging node count) ∧ node + count ≤ 4096) ∧
  (∃ (s : State) (h : Hdr) (first : Nat), s.canAsk h (HxmMsg.report first)) := by
  refine ⟨⟨(s2 .run), (hd 101), 5, 3, 4, ?_⟩,
    ⟨(s2 .run), (hd 101), 0x40000, 2, (((s2 .run).taken (hd 101) 1).regReads (.session 3) 0x40000 2).1, (((s2 .run).taken (hd
        101) 1).regReads (.session 3) 0x40000 2).2.get!, ?_⟩,
    ⟨(s2 .run), (hd 101), 0x1FFF00, 2, (((s2 .run).taken (hd 101) 1).regReads (.session 3) 0x1FFF00 2).1, ?_⟩,
    ⟨(s2 .run), (hd 101), 7, 4095, 2, ?_⟩,
    ⟨(s2 .run), (hd 101), 0x130000, (((s2 .run).taken (hd 101) 2).regWrite (.session 3) 0x130000 1).2, 1, (((s2 .run).taken (hd
        101) 2).regWrite (.session 3) 0x130000 1).1, ?_⟩,
    ⟨(s2 .run), (hd 101), 0xC, sysStat, 2, (((s2 .run).taken (hd 101) 2).regWrite (.session 3) 0xC 2).1, ?_⟩,
    ⟨(s2 .run), (hd 101), 0x1FFF00, (((s2 .run).taken (hd 101) 2).regWrites (.session 3) 0x1FFF00 (wordsOf
        [1,0,0,0,2,0,0,0])).2.1, [1,0,0,0,2,0,0,0], (((s2 .run).taken (hd 101) 2).regWrites (.session 3) 0x1FFF00 (wordsOf
        [1,0,0,0,2,0,0,0])).1, (((s2 .run).taken (hd 101) 2).regWrites (.session 3) 0x1FFF00 (wordsOf [1,0,0,0,2,0,0,0])).2.2,
        ?_⟩,
    ⟨(s2 .stop), (hd 101), {}, ?_⟩,
    ⟨(s2 .run), (hd 101), {}, ?_⟩,
    ⟨(s2 .run), (hd 101), {wa := 1}, 0x000001, (.reqStop (hd 101).by_ {wa := 1}), ?_⟩,
    ⟨(s2 .run), (hd 101), 55, sw, ?_⟩,
    ⟨(s2 .run), (hd 101), 99, sw, {seq := 99, done := true, fin := 1, cached := some [0, 7]}, ?_⟩,
    ⟨(s2 .run), (hd 101), 100, sw, {seq := 100}, (((s2 .run).taken (hd 101) 4).abortOp (.host 3 100)).1, (((s2 .run).taken (hd
        101) 4).abortOp (.host 3 100)).2, ?_⟩,
    ⟨sl, (hd 101), 5, 16, ?_⟩,
    ⟨sl, (hd 101), 1, 4, ?_⟩,
    ⟨sl, (hd 101), 2, 7, ?_⟩,
    ⟨sl, (hd 101), 1, ?_⟩⟩
  all_goals
    repeat' first
      | (unfold HxmMsg.sentAs; rfl)
      | decide +kernel
      | exact mayWrite_engine
      | (apply mayWrite_of; decide +kernel)
      | (apply canCall_program; decide +kernel)
      | (apply canCall_host <;> decide +kernel)
      | (apply canIssue_of; decide +kernel)
      | (apply hasNext_of; decide +kernel)
      | apply runsOn_of
      | (apply ownElem_of; decide +kernel)
      | (apply awaits_program; decide +kernel)
      | (apply awaits_host; decide +kernel)
      | (apply unheld_of; decide +kernel)
      | (apply hasSlot_of; decide +kernel)
      | (apply askedBy_of; decide +kernel)
      | (apply canAsk_of <;> decide +kernel)
      | (apply hears_of (c := 12) <;> decide +kernel)
      | (apply not_hears_of; decide +kernel)
      | (apply memOk_of; decide +kernel)
      | (apply all_below; decide +kernel)
      | (intro _ h; cases h; done)
      | (intro _ _ h; cases h; done)
      | (apply dmaMay_of; decide +kernel)
      | (apply dmaMay_all; decide +kernel)
      | (apply exists_some; decide +kernel)
      | (apply all_some; decide +kernel)
      | apply And.intro
      | exact rfl
      | (intro _ h; exact absurd (show Origin.quiet = _ from h) (by decide +kernel))

theorem wit_ChangesOfTheProgramPassTheirStates :
  (∃ (s : State) (h : Hdr) (pkg : Package), s.canAsk h (HxmMsg.load pkg) ∧ s.get F.PLX_CHG_STATE = Chg.idle ∧ s.prog.newPkg =
      none ∧ (s.prog.pkg = none → s.mode = Mode.stop) ∧ (s.mode = Mode.run ∨ s.mode = Mode.stop ∨ s.mode = Mode.hold)) ∧
  (∃ (s : State) (h : Hdr) (pkg : Package), s.canAsk h (HxmMsg.load pkg) ∧ s.get F.PLX_CHG_STATE ≠ Chg.idle) ∧
  (∃ (s : State) (h : Hdr) (p : Package) (q : Package), s.prog.pkg = some p ∧ s.prog.loaded = some q ∧ s.canAsk h HxmMsg.prepare
      ∧ s.get F.PLX_CHG_STATE = Chg.loaded ∧ s.ownsChange h.ctx = true ∧ h.ctx < 1024 ∧ s.pairReady = true) ∧
  (∃ (s : State) (h : Hdr), s.canAsk h HxmMsg.switch_ ∧ s.prog.pkg ≠ none ∧ s.get F.PLX_CHG_STATE = Chg.prepared ∧ (s.mode =
      Mode.run ∨ s.mode = Mode.stop) ∧ s.ownsChange h.ctx = true) ∧
  (∃ (s : State) (h : Hdr), s.canAsk h HxmMsg.switch_ ∧ s.prog.pkg ≠ none ∧ s.get F.PLX_CHG_STATE = Chg.prepared ∧ (s.mode =
      Mode.run ∨ s.mode = Mode.stop) ∧ s.ownsChange h.ctx = false) ∧
  (∃ (s : State) (h : Hdr), s.canAsk h HxmMsg.discard ∧ (s.get F.PLX_CHG_STATE = Chg.loaded ∨ s.get F.PLX_CHG_STATE =
      Chg.prepared) ∧ s.ownsChange h.ctx = true) ∧
  (∃ (s : State) (h : Hdr) (p : Package) (q : Package), s.prog.pkg = some p ∧ s.prog.prev = some q ∧ s.canAsk h HxmMsg.revert ∧
      s.get F.PLX_CHG_STATE = Chg.idle ∧ (s.mode = Mode.run ∨ s.mode = Mode.stop)) ∧
  (∃ (s : State) (h : Hdr) (l : List (Nat × Nat)), s.canAsk h (HxmMsg.changeSet l) ∧ (s.mode = Mode.stop ∨ s.mode = Mode.run ∨
      s.mode = Mode.hold) ∧ l ≠ [] ∧ l.length ≤ 64) ∧
  (∃ (s : State) (h : Hdr) (p : RecipePart), s.canAsk h (HxmMsg.recipe p) ∧ p.first = true ∧ p.last = true ∧ s.get
      F.LGT_RCP_SWITCH_PENDING = 0 ∧ s.light.recipeLoading = false) ∧
  (∃ (s : State) (h : Hdr) (data : List Nat), s.canAsk h (HxmMsg.image 0 data) ∧ s.mode ≠ Mode.recovery ∧ s.upd.kind = 0 ∧ s.get
      F.UPD_STAT_STATE ≠ UpdSt.verifying ∧ data ≠ [] ∧ data.length ≤ 1024) ∧
  (∃ (s : State) (h : Hdr) (r : Nat) (off : Nat) (data : List Nat), s.canAsk h (HxmMsg.campPart r off data) ∧ r < 6 ∧ (s.campaign
      r).active = false ∧ (off = 0 ∨ off = (s.campaign r).image.length)) ∧
  (∃ (s : State) (h : Hdr) (r : Nat) (kind : Nat) (l : List Nat), s.canAsk h (HxmMsg.campStart r kind l) ∧ r < 6 ∧ (s.campaign
      r).active = false ∧ (s.campaign r).image ≠ [] ∧ l ≠ [] ∧ s.get (F.RAD_CFG_EN.at r) ≠ 0 ∧ (s.taken h 16).quotaOk 2 = true)
      := by
  refine ⟨⟨(ch .run 0 1023 id), (hd 101), pst, ?_⟩,
    ⟨(ch .run Chg.loaded 1023 id), (hd 101), pst, ?_⟩,
    ⟨(ch .run Chg.loaded 3 fun p => {p with loaded := some pst}), (hd 101), pk1, pst, ?_⟩,
    ⟨(ch .run Chg.prepared 3 fun p => {p with loaded := some pst}), (hd 101), ?_⟩,
    ⟨(ch .stop Chg.prepared 4 fun p => {p with loaded := some pst}), (hd 101), ?_⟩,
    ⟨(ch .stop Chg.prepared 3 fun p => {p with loaded := some pst}), (hd 101), ?_⟩,
    ⟨(ch .stop Chg.idle 1023 fun p => {p with prev := some pst}), (hd 101), pk1, pst, ?_⟩,
    ⟨(ch .stop Chg.idle 1023 id), (hd 101), [(41, 5)], ?_⟩,
    ⟨(s2 .stop), (hd 101), ⟨true, true, [(3, [⟨0,0,0,[1,2,3,4,5,6,7,8]⟩])]⟩, ?_⟩,
    ⟨(s2 .stop), (hd 101), (List.replicate 1024 5), ?_⟩,
    ⟨(s2 .stop), (hd 101), 5, 0, [300, 2], ?_⟩,
    ⟨({s2 .stop with net := {campaigns := [(5, {image := [1,2]})]}}.put (F.RAD_CFG_EN.at 5) 1), (hd 101), 5, 0, [3], ?_⟩⟩
  all_goals
    repeat' first
      | (unfold HxmMsg.sentAs; rfl)
      | decide +kernel
      | exact mayWrite_engine
      | (apply mayWrite_of; decide +kernel)
      | (apply canCall_program; decide +kernel)
      | (apply canCall_host <;> decide +kernel)
      | (apply canIssue_of; decide +kernel)
      | (apply hasNext_of; decide +kernel)
      | apply runsOn_of
      | (apply ownElem_of; decide +kernel)
      | (apply awaits_program; decide +kernel)
      | (apply awaits_host; decide +kernel)
      | (apply unheld_of; decide +kernel)
      | (apply hasSlot_of; decide +kernel)
      | (apply askedBy_of; decide +kernel)
      | (apply canAsk_of <;> decide +kernel)
      | (apply hears_of (c := 12) <;> decide +kernel)
      | (apply not_hears_of; decide +kernel)
      | (apply memOk_of; decide +kernel)
      | (apply all_below; decide +kernel)
      | (intro _ h; cases h; done)
      | (intro _ _ h; cases h; done)
      | (apply dmaMay_of; decide +kernel)
      | (apply dmaMay_all; decide +kernel)
      | (apply exists_some; decide +kernel)
      | (apply all_some; decide +kernel)
      | apply And.intro
      | exact rfl
      | (intro _ h; exact absurd (show Origin.quiet = _ from h) (by decide +kernel))

theorem wit_ForcesWatchesAndDebugging :
  (∃ (s : State) (h : Hdr) (id : Nat) (v : Nat) (y : Machine.Symbol), s.symbol id = some y ∧ s.canAsk h (HxmMsg.forceSet id v) ∧
      (s.mode = Mode.stop ∨ s.mode = Mode.run ∨ s.mode = Mode.hold) ∧ (y.safety = true ∨ forceable y.area = false)) ∧
  (∃ (s : State) (h : Hdr) (id : Nat) (v : Nat) (y : Machine.Symbol), s.symbol id = some y ∧ s.canAsk h (HxmMsg.forceSet id v) ∧
      (s.mode = Mode.stop ∨ s.mode = Mode.run ∨ s.mode = Mode.hold) ∧ y.safety = false ∧ forceable y.area = true ∧ (id ∈
      s.forcesToBe ∨ s.forcesToBe.length < 1024)) ∧
  (∃ (s : State) (h : Hdr) (id : Nat) (v : Nat) (y : Machine.Symbol), s.symbol id = some y ∧ s.canAsk h (HxmMsg.forceSet id v) ∧
      (s.mode = Mode.stop ∨ s.mode = Mode.run ∨ s.mode = Mode.hold) ∧ y.safety = false ∧ forceable y.area = true ∧ id ∉
      s.forcesToBe ∧ 1024 ≤ s.forcesToBe.length) ∧
  (∃ (s : State) (h : Hdr) (id : Nat) (y : Machine.Symbol), s.symbol id = some y ∧ s.canAsk h (HxmMsg.forceClear id) ∧ (s.mode =
      Mode.stop ∨ s.mode = Mode.run ∨ s.mode = Mode.hold) ∧ id ∈ s.forcesToBe) ∧
  (∃ (s : State) (h : Hdr), s.canAsk h HxmMsg.forceList) ∧
  (∃ (s : State) (h : Hdr) (id : Nat) (k : Nat) (y : Machine.Symbol), s.symbol id = some y ∧ s.canAsk h (HxmMsg.watchAdd id) ∧ k
      < 64 ∧ (∀ w ∈ s.prog.watches, w.1 ≠ k) ∧ (∀ j < k, ∃ w ∈ s.prog.watches, w.1 = j)) ∧
  (∃ (s : State) (h : Hdr) (k : Nat) (id : Nat), s.canAsk h (HxmMsg.watchRemove k) ∧ (k, id) ∈ s.prog.watches) ∧
  (∃ (s : State) (h : Hdr), s.canAsk h HxmMsg.watchRead) ∧
  (∃ (s : State) (h : Hdr) (k : Nat) (b : Nat) (pc : Nat) (en : Bool), s.canAsk h (HxmMsg.dbgBreak k b en pc) ∧ (s.mode =
      Mode.run ∨ s.mode = Mode.stop ∨ s.mode = Mode.hold) ∧ k < 4 ∧ b < 8 ∧ pc < 2 ^ 17) ∧
  (∃ (s : State) (h : Hdr), s.canAsk h HxmMsg.dbgHalt ∧ s.mode = Mode.run ∧ s.lifeAllows ModeEv.halt = true) ∧
  (∃ (s : State) (h : Hdr), s.canAsk h HxmMsg.dbgHalt ∧ s.lifeAllows ModeEv.halt = true ∧ s.mode ≠ Mode.run) ∧
  (∃ (s : State) (h : Hdr) (k : Nat), s.canAsk h (HxmMsg.dbgStep k) ∧ s.mode = Mode.hold ∧ s.prog.begun = true ∧ s.hasSect k =
      true ∧ k < s.prog.sects.length ∧ (s.sect k).ended = false ∧ (s.code k)[(s.sect k).pc]? = some (opWord 27 2 0) ∧ s.hasNext
      k) ∧
  (∃ (s : State) (h : Hdr) (k : Nat), s.canAsk h (HxmMsg.dbgRegs k) ∧ k < 4 ∧ s.prog.halted = true ∧ ((s.sect k).st =
      SectSt.executing ∨ (s.sect k).st = SectSt.halted)) ∧
  (∃ (s : State) (h : Hdr) (port : Nat) (at_ : Nat) (frame : List Nat) (stamp : Bool), s.canAsk h (HxmMsg.rawFrame port frame
      stamp at_) ∧ port < 2 ∧ frame ≠ []) := by
  refine ⟨⟨({s2 .run with prog := {pkg := some {pk1 with symbols := [{id := 9, area := 6, off := 3}]}}}), (hd 101), 9, 5,
      (((({s2 .run with prog := {pkg := some {pk1 with symbols := [{id := 9, area := 6, off := 3}]}}}) : State).symbol (9 :
      Nat)).get (by decide +kernel)), ?_⟩,
    ⟨(s2 .run), (hd 101), 40, 5, ((((s2 .run) : State).symbol (40 : Nat)).get (by decide +kernel)), ?_⟩,
    ⟨({s2 .run with prog := {pkg := some pk1, forces := (List.range 1024).map fun i => ⟨1123 - i, 0⟩}}), (hd 101), 41, 5,
        (((({s2 .run with prog := {pkg := some pk1, forces := (List.range 1024).map fun i => ⟨1123 - i, 0⟩}}) : State).symbol (41
        : Nat)).get (by decide +kernel)), ?_⟩,
    ⟨({s2 .run with prog := {pkg := some pk1, forces := [⟨41, 3⟩]}}), (hd 101), 41,
        (((({s2 .run with prog := {pkg := some pk1, forces := [⟨41, 3⟩]}}) : State).symbol (41 : Nat)).get (by decide +kernel)),
        ?_⟩,
    ⟨({s2 .run with prog := {pkg := some pk1, forces := [⟨41, 3⟩]}}), (hd 101), ?_⟩,
    ⟨({s2 .run with prog := {pkg := some pk1, watches := [(0, 41)]}}), (hd 101), 40, 1,
        (((({s2 .run with prog := {pkg := some pk1, watches := [(0, 41)]}}) : State).symbol (40 : Nat)).get (by decide +kernel)),
        ?_⟩,
    ⟨({s2 .run with prog := {pkg := some pk1, watches := [(0, 41)]}}), (hd 101), 0, 41, ?_⟩,
    ⟨({s2 .run with prog := {pkg := some pk1, watches := [(0, 41)], watchVals := [(0, 8)]}}), (hd 101), ?_⟩,
    ⟨(s2 .run), (hd 101), 3, 7, 0x1FFFF, true, ?_⟩,
    ⟨(s2 .run), (hd 101), ?_⟩,
    ⟨(s2 .stop), (hd 101), ?_⟩,
    ⟨(withSess (inHold pk1 {wa := 3}) sw), (hd 101), 1, ?_⟩,
    ⟨(withSess (inHold pk1 {wa := 3}) sw), (hd 101), 1, ?_⟩,
    ⟨(s2 .run), (hd 101), 1, 5, [1,2,3], true, ?_⟩⟩
  all_goals
    repeat' first
      | (unfold HxmMsg.sentAs; rfl)
      | decide +kernel
      | exact mayWrite_engine
      | (apply mayWrite_of; decide +kernel)
      | (apply canCall_program; decide +kernel)
      | (apply canCall_host <;> decide +kernel)
      | (apply canIssue_of; decide +kernel)
      | (apply hasNext_of; decide +kernel)
      | apply runsOn_of
      | (apply ownElem_of; decide +kernel)
      | (apply awaits_program; decide +kernel)
      | (apply awaits_host; decide +kernel)
      | (apply unheld_of; decide +kernel)
      | (apply hasSlot_of; decide +kernel)
      | (apply askedBy_of; decide +kernel)
      | (apply canAsk_of <;> decide +kernel)
      | (apply hears_of (c := 12) <;> decide +kernel)
      | (apply not_hears_of; decide +kernel)
      | (apply memOk_of; decide +kernel)
      | (apply all_below; decide +kernel)
      | (intro _ h; cases h; done)
      | (intro _ _ h; cases h; done)
      | (apply dmaMay_of; decide +kernel)
      | (apply dmaMay_all; decide +kernel)
      | (apply exists_some; decide +kernel)
      | (apply all_some; decide +kernel)
      | apply And.intro
      | exact rfl
      | (intro _ h; exact absurd (show Origin.quiet = _ from h) (by decide +kernel))

theorem wit_SessionsOpenAndClose :
  (∃ (s : State) (service : Bool) (cloarn : Bool) (ident : Nat) (r : Nat), s.live = true ∧ s.sealed = false ∧ s.quotaOk 0 = true
      ∧ (s.mode ≠ Mode.recovery ∧ s.keys.life ≠ Life.blank ∧ s.keys.life ≠ Life.returned ∧ s.wired.idents.get? ident = some r ∨
      s.mode = Mode.recovery ∧ service = true ∧ r = 2 ∨ s.mode ≠ Mode.recovery ∧ (s.keys.life = Life.blank ∨ s.keys.life =
      Life.returned) ∧ cloarn = true ∧ r = 2)) ∧
  (∃ (s : State) (good : Bool), good = false ∨ s.sealed = true) ∧
  (∃ (s : State) (c : Nat) (x : Session), s.session c = some x ∧ x.typ = 0 ∧ x.state = 2 ∧ s.past (x.lastAt + s.get
      F.HXM_CFG_IDLE * 1000000000) = true ∧ ((x.window.all fun x => x.done) = true)) ∧
  (∃ (s : State) (c : Nat) (x : Session), s.session c = some x ∧ s.past (x.lastAt + s.get F.HXM_CFG_IDLE * 1000000000) = false) ∧
  (∃ (s : State) (sid : Nat) (hn : List Nat), s.unheld ∧ s.live = true ∧ s.mode ≠ Mode.recovery ∧ 0 < sid ∧ sid ≤ 4 ∧ s.sealed =
      false ∧ s.keys.life ≠ Life.blank ∧ s.keys.life ≠ Life.returned ∧ s.get F.HXM_HOST_CFG_EN ≠ 0 ∧ s.keeperCheck 0 true (s.get
      F.HXM_HOST_CFG_KEYSLOT) KeyOp.derive = none ∧ s.wired.sids.get? sid = none ∧ s.quotaOk 3 = true ∧ hn.length = 16) ∧
  (∃ (s : State) (sid : Nat) (c : Nat) (x : Session), s.wired.sids.get? sid = some c ∧ s.session c = some x ∧ s.unheld ∧ x.typ =
      3 ∧ ((x.window.all fun x => x.done) = true)) ∧
  (∃ (s : State) (h : Hdr) (addr : Nat) (n : Nat) (u : State) (l : List Nat), s.unheld ∧ s.phase = Phase.running ∧ h.bad = false
      ∧ h.len ≤ 1280 ∧ (HxmMsg.read (ReadTgt.words addr n)).formed = true ∧ addr + 4 * n ≤ 65536 ∧ s.regReads Requester.sid0 addr
      n = (u, some l)) ∧
  (∃ (s : State) (h : Hdr) (first : Nat) (count : Nat), s.unheld ∧ s.phase = Phase.running ∧ h.bad = false ∧ h.len ≤ 1280 ∧
      (HxmMsg.logRead first count).formed = true) ∧
  (∃ (s : State) (h : Hdr) (m : HxmMsg), s.unheld ∧ s.phase = Phase.running ∧ h.bad = false ∧ h.len ≤ 1280 ∧ m.formed = true ∧ (∀
      (r : ReadTgt), m = HxmMsg.read r → r.sysOnly = false) ∧ (∀ (a b : Nat), m ≠ HxmMsg.logRead a b)) ∧
  (∃ (s : State), s.unheld ∧ s.phase = Phase.running) ∧
  (∃ (s : State) (sid : Nat) (macOk : Bool), s.unheld ∧ s.phase = Phase.running ∧ 0 < sid ∧ s.sealed = false ∧ (s.mode =
      Mode.recovery ∨ s.get F.HXM_HOST_CFG_EN ≠ 0) ∧ (s.wired.sids.get? sid = none ∨ macOk = false)) ∧
  (∃ (s : State) (sid : Nat) (h : Hdr) (c : Nat) (x : Session), s.wired.sids.get? sid = some c ∧ s.session c = some x ∧ s.unheld
      ∧ x.typ = 3 ∧ 0 < sid ∧ s.sealed = false ∧ s.mode ≠ Mode.recovery ∧ s.get F.HXM_HOST_CFG_EN ≠ 0 ∧ s.canAsk
      { ctx := c, seq := h.seq, len := h.len, bad := h.bad } HxmMsg.watchRead) ∧
  (∃ (s : State) (l : List Int), s.wired.spiResp = some l) := by
  refine ⟨⟨sp, true, true, 8, 2, ?_⟩,
    ⟨sp, false, ?_⟩,
    ⟨({sp with frame := {start := 1000000000000}}), 3, (((({sp with frame := {start := 1000000000000}}) : State).session (3 :
        Nat)).get (by decide +kernel)), ?_⟩,
    ⟨(sp.put F.HXM_CFG_IDLE 5), 3, ((((sp.put F.HXM_CFG_IDLE 5) : State).session (3 : Nat)).get (by decide +kernel)), ?_⟩,
    ⟨sp, 4, (List.replicate 16 1), ?_⟩,
    ⟨sp2, 2, 9, (((sp2 : State).session (9 : Nat)).get (by decide +kernel)), ?_⟩,
    ⟨sp2, (hd 4), 0x10, 2, (sp2.regReads .sid0 0x10 2).1, (sp2.regReads .sid0 0x10 2).2.get!, ?_⟩,
    ⟨sp2, (hd 4), 0, 3, ?_⟩,
    ⟨sp2, (hd 4), .prepare, ?_⟩,
    ⟨sp2, ?_⟩,
    ⟨sp2, 2, false, ?_⟩,
    ⟨sp2, 2, (hd 4), 9, (((sp2 : State).session (9 : Nat)).get (by decide +kernel)), ?_⟩,
    ⟨({sp2 with wired := {spiResp := some [1,2], spiRdy := true}}), [1,2], ?_⟩⟩
  all_goals
    repeat' first
      | (unfold HxmMsg.sentAs; rfl)
      | decide +kernel
      | exact mayWrite_engine
      | (apply mayWrite_of; decide +kernel)
      | (apply canCall_program; decide +kernel)
      | (apply canCall_host <;> decide +kernel)
      | (apply canIssue_of; decide +kernel)
      | (apply hasNext_of; decide +kernel)
      | apply runsOn_of
      | (apply ownElem_of; decide +kernel)
      | (apply awaits_program; decide +kernel)
      | (apply awaits_host; decide +kernel)
      | (apply unheld_of; decide +kernel)
      | (apply hasSlot_of; decide +kernel)
      | (apply askedBy_of; decide +kernel)
      | (apply canAsk_of <;> decide +kernel)
      | (apply hears_of (c := 12) <;> decide +kernel)
      | (apply not_hears_of; decide +kernel)
      | (apply memOk_of; decide +kernel)
      | (apply all_below; decide +kernel)
      | (intro _ h; cases h; done)
      | (intro _ _ h; cases h; done)
      | (apply dmaMay_of; decide +kernel)
      | (apply dmaMay_all; decide +kernel)
      | (apply exists_some; decide +kernel)
      | (apply all_some; decide +kernel)
      | apply And.intro
      | exact rfl
      | (intro _ h; exact absurd (show Origin.quiet = _ from h) (by decide +kernel))

end Sys2Proof.Tests.Lighting
end

