-- ==== Sys2Proof/Tests/WitnessLogic.lean ====
section
/-! SUPPORT. Witnesses: for each statement, states and operands that meet the hypotheses of its clauses together. -/

namespace Sys2Proof.Tests.Logic
open Sys2Proof Sys2Proof.Machine Sys2Proof.Tests
set_option Elab.async false
set_option linter.unusedTactic false
set_option linter.unreachableTactic false



theorem wit_BitInstructionsActOnBA :
  (∃ (s : State) (k : Nat), s.runsOn k 0 2 0) ∧
  (∃ (s : State) (k : Nat) (mode : Nat) (opnd : Nat), s.runsOn k 1 mode opnd) ∧
  (∃ (s : State) (k : Nat) (mode : Nat) (opnd : Nat), s.runsOn k 2 mode opnd) ∧
  (∃ (s : State) (k : Nat) (mode : Nat) (opnd : Nat), s.runsOn k 3 mode opnd) ∧
  (∃ (s : State) (k : Nat) (mode : Nat) (opnd : Nat), s.runsOn k 4 mode opnd) ∧
  (∃ (s : State) (k : Nat) (mode : Nat) (opnd : Nat), s.runsOn k 5 mode opnd) ∧
  (∃ (s : State) (k : Nat) (mode : Nat) (opnd : Nat), s.runsOn k 6 mode opnd) ∧
  (∃ (s : State) (k : Nat) (mode : Nat) (opnd : Nat), s.runsOn k 7 mode opnd) ∧
  (∃ (s : State) (k : Nat), s.runsOn k 8 2 0) ∧
  (∃ (s : State) (k : Nat), s.runsOn k 9 2 0 ∧ (s.sect k).bs.length < 16) ∧
  (∃ (s : State) (k : Nat) (b : Bool) (l : List Bool), s.runsOn k 10 2 0 ∧ (s.sect k).bs = b :: l) ∧
  (∃ (s : State) (k : Nat) (b : Bool) (l : List Bool), s.runsOn k 11 2 0 ∧ (s.sect k).bs = b :: l) ∧
  (∃ (s : State) (k : Nat) (mode : Nat) (opnd : Nat), s.runsOn k 55 mode opnd) := by
  refine ⟨⟨(opS 0x00 2 (0) {}), (1), ?_⟩,
    ⟨(opS 0x01 0 (dir 2 3) {ba := true, work := [(areaKey 2 3, 0)], ov := true}), (1), (0), (dir 2 3), ?_⟩,
    ⟨(opS 0x02 0 (dir 2 3) {ba := true, work := [(areaKey 2 3, 0)], ov := true}), (1), (0), (dir 2 3), ?_⟩,
    ⟨(opS 0x03 0 (dir 2 3) {ba := true, work := [(areaKey 2 3, 0)], ov := true}), (1), (0), (dir 2 3), ?_⟩,
    ⟨(opS 0x04 0 (dir 2 3) {ba := true, work := [(areaKey 2 3, 0)], ov := true}), (1), (0), (dir 2 3), ?_⟩,
    ⟨(opS 0x05 0 (dir 2 3) {ba := true, work := [(areaKey 2 3, 0)], ov := true}), (1), (0), (dir 2 3), ?_⟩,
    ⟨(opS 0x06 0 (dir 2 3) {ba := true, work := [(areaKey 2 3, 0)], ov := true}), (1), (0), (dir 2 3), ?_⟩,
    ⟨(opS 0x07 0 (dir 2 3) {ba := true, work := [(areaKey 2 3, 0)], ov := true}), (1), (0), (dir 2 3), ?_⟩,
    ⟨(opS 0x08 2 (0) {ba := true}), (1), ?_⟩,
    ⟨(opS 0x09 2 (0) {ba := true, bs := [false]}), (1), ?_⟩,
    ⟨(opS 0x0A 2 (0) {ba := true, bs := [false]}), (1), (false), ([]), ?_⟩,
    ⟨(opS 0x0B 2 (0) {ba := true, bs := [false, true]}), (1), (false), ([true]), ?_⟩,
    ⟨(opS 0x37 2 (0) {ba := true, ov := true, z := true, cy := true}), (1), (2), (0), ?_⟩⟩
  all_goals
    repeat' first
      | (unfold HxmMsg.sentAs; rfl)
      | decide +kernel
      | exact mayWrite_engine
      | (apply mayWrite_of; decide +kernel)
      | (apply canCall_program; decide +kernel)
      | (apply canCall_host <;> decide +kernel)
      | (apply canIssue_of; decide +kernel)
      | (apply hasNext_of; decide +kernel)
      | apply runsOn_of
      | (apply ownElem_of; decide +kernel)
      | (apply awaits_program; decide +kernel)
      | (apply awaits_host; decide +kernel)
      | (apply unheld_of; decide +kernel)
      | (apply hasSlot_of; decide +kernel)
      | (apply askedBy_of; decide +kernel)
      | (apply canAsk_of <;> decide +kernel)
      | (apply hears_of (c := 12) <;> decide +kernel)
      | (apply not_hears_of; decide +kernel)
      | (apply memOk_of; decide +kernel)
      | (apply all_below; decide +kernel)
      | (intro _ h; cases h; done)
      | (intro _ _ h; cases h; done)
      | (apply dmaMay_of; decide +kernel)
      | (apply dmaMay_all; decide +kernel)
      | (apply exists_some; decide +kernel)
      | (apply all_some; decide +kernel)
      | apply And.intro
      | exact rfl
      | (intro _ h; exact absurd (show Origin.quiet = _ from h) (by decide +kernel))

theorem wit_WordLogicGivesResultAndFlags :
  (∃ (s : State) (k : Nat) (mode : Nat) (opnd : Nat), s.runsOn k 25 mode opnd) ∧
  (∃ (s : State) (k : Nat) (mode : Nat) (opnd : Nat), s.runsOn k 35 mode opnd) ∧
  (∃ (s : State) (k : Nat) (mode : Nat) (opnd : Nat), s.runsOn k 36 mode opnd) ∧
  (∃ (s : State) (k : Nat) (mode : Nat) (opnd : Nat), s.runsOn k 37 mode opnd) ∧
  (∃ (s : State) (k : Nat) (mode : Nat) (opnd : Nat), s.runsOn k 38 mode opnd) ∧
  (∃ (s : State) (k : Nat) (mode : Nat) (opnd : Nat), s.runsOn k 39 mode opnd) ∧
  (∃ (s : State) (k : Nat), s.runsOn k 27 2 0) ∧
  (∃ (s : State) (k : Nat) (mode : Nat) (opnd : Nat), s.runsOn k 46 mode opnd) ∧
  (∃ (s : State) (k : Nat) (mode : Nat) (opnd : Nat), s.runsOn k 47 mode opnd) := by
  refine ⟨⟨(opS 0x19 0 (dir 5 2) {wa := 0, wb := 5, xi := 7, work := [(areaKey 5 2, 0)]}), (1), (0), (dir 5 2), ?_⟩,
    ⟨(opS 0x23 0 (dir 5 2) {wa := 0, wb := 5, xi := 7, work := [(areaKey 5 2, 0)]}), (1), (0), (dir 5 2), ?_⟩,
    ⟨(opS 0x24 0 (dir 5 2) {wa := 0, wb := 5, xi := 7, work := [(areaKey 5 2, 0)]}), (1), (0), (dir 5 2), ?_⟩,
    ⟨(opS 0x25 0 (dir 5 2) {wa := 0, wb := 5, xi := 7, work := [(areaKey 5 2, 0)]}), (1), (0), (dir 5 2), ?_⟩,
    ⟨(opS 0x26 0 (dir 5 2) {wa := 0, wb := 5, xi := 7, work := [(areaKey 5 2, 0)]}), (1), (0), (dir 5 2), ?_⟩,
    ⟨(opS 0x27 0 (dir 5 2) {wa := 0, wb := 5, xi := 7, work := [(areaKey 5 2, 0)]}), (1), (0), (dir 5 2), ?_⟩,
    ⟨(opS 0x1B 2 (0) {wa := 3, wb := 9}), (1), ?_⟩,
    ⟨(opS 0x2E 0 (dir 5 2) {wa := 0, wb := 5, xi := 7, work := [(areaKey 5 2, 0)]}), (1), (0), (dir 5 2), ?_⟩,
    ⟨(opS 0x2F 0 (dir 5 2) {wa := 0, wb := 5, xi := 7, work := [(areaKey 5 2, 0)]}), (1), (0), (dir 5 2), ?_⟩⟩
  all_goals
    repeat' first
      | (unfold HxmMsg.sentAs; rfl)
      | decide +kernel
      | exact mayWrite_engine
      | (apply mayWrite_of; decide +kernel)
      | (apply canCall_program; decide +kernel)
      | (apply canCall_host <;> decide +kernel)
      | (apply canIssue_of; decide +kernel)
      | (apply hasNext_of; decide +kernel)
      | apply runsOn_of
      | (apply ownElem_of; decide +kernel)
      | (apply awaits_program; decide +kernel)
      | (apply awaits_host; decide +kernel)
      | (apply unheld_of; decide +kernel)
      | (apply hasSlot_of; decide +kernel)
      | (apply askedBy_of; decide +kernel)
      | (apply canAsk_of <;> decide +kernel)
      | (apply hears_of (c := 12) <;> decide +kernel)
      | (apply not_hears_of; decide +kernel)
      | (apply memOk_of; decide +kernel)
      | (apply all_below; decide +kernel)
      | (intro _ h; cases h; done)
      | (intro _ _ h; cases h; done)
      | (apply dmaMay_of; decide +kernel)
      | (apply dmaMay_all; decide +kernel)
      | (apply exists_some; decide +kernel)
      | (apply all_some; decide +kernel)
      | apply And.intro
      | exact rfl
      | (intro _ h; exact absurd (show Origin.quiet = _ from h) (by decide +kernel))

theorem wit_ArithmeticGivesResultAndFlags :
  (∃ (s : State) (k : Nat) (mode : Nat) (opnd : Nat), s.runsOn k 28 mode opnd) ∧
  (∃ (s : State) (k : Nat) (mode : Nat) (opnd : Nat) (r : Word), s.runsOn k 29 mode opnd ∧ BitVec.toInt r = max (-2 ^ 31) (min (2
      ^ 31 - 1) (BitVec.toInt (s.sect k).wa + BitVec.toInt (s.opVal k mode opnd)))) ∧
  (∃ (s : State) (k : Nat) (mode : Nat) (opnd : Nat), s.runsOn k 30 mode opnd) ∧
  (∃ (s : State) (k : Nat) (mode : Nat) (opnd : Nat) (r : Word), s.runsOn k 31 mode opnd ∧ BitVec.toInt r = max (-2 ^ 31) (min (2
      ^ 31 - 1) (BitVec.toInt (s.sect k).wa - BitVec.toInt (s.opVal k mode opnd)))) ∧
  (∃ (s : State) (k : Nat) (mode : Nat) (opnd : Nat), s.runsOn k 32 mode opnd) ∧
  (∃ (s : State) (k : Nat) (mode : Nat) (opnd : Nat) (r : Word), s.runsOn k 33 mode opnd ∧ BitVec.toInt r = max (-2 ^ 31) (min (2
      ^ 31 - 1) (BitVec.toInt (s.sect k).wa * BitVec.toInt (s.opVal k mode opnd)))) ∧
  (∃ (s : State) (k : Nat) (mode : Nat) (opnd : Nat) (q : Word) (r : Word), s.runsOn k 34 mode opnd ∧ BitVec.toInt (s.opVal k
      mode opnd) ≠ 0 ∧ (¬(BitVec.toInt (s.sect k).wa = -2 ^ 31 ∧ BitVec.toInt (s.opVal k mode opnd) = -1)) ∧ BitVec.toInt q =
      (BitVec.toInt (s.sect k).wa).tdiv (BitVec.toInt (s.opVal k mode opnd)) ∧ BitVec.toInt r = (BitVec.toInt (s.sect k).wa).tmod
      (BitVec.toInt (s.opVal k mode opnd))) ∧
  (∃ (s : State) (k : Nat) (mode : Nat) (opnd : Nat), s.runsOn k 34 mode opnd ∧ s.opVal k mode opnd = 0) ∧
  (∃ (s : State) (k : Nat) (mode : Nat) (opnd : Nat), s.runsOn k 34 mode opnd ∧ (s.sect k).wa = 2147483648 ∧ s.opVal k mode opnd
      = 4294967295) := by
  refine ⟨⟨(opS 0x1C 0 (dir 5 2) {wa := 0, wb := 5, xi := 7, work := [(areaKey 5 2, 0)]}), (1), (0), (dir 5 2), ?_⟩,
    ⟨(opS 0x1D 0 (dir 5 2) {wa := 0, work := [(areaKey 5 2, 0)]}), (1), (0), (dir 5 2), (0x0), ?_⟩,
    ⟨(opS 0x1E 0 (dir 5 2) {wa := 0, wb := 5, xi := 7, work := [(areaKey 5 2, 0)]}), (1), (0), (dir 5 2), ?_⟩,
    ⟨(opS 0x1F 0 (dir 5 2) {wa := 0, work := [(areaKey 5 2, 0)]}), (1), (0), (dir 5 2), (0x0), ?_⟩,
    ⟨(opS 0x20 0 (dir 5 2) {wa := 0, work := [(areaKey 5 2, 0)]}), (1), (0), (dir 5 2), ?_⟩,
    ⟨(opS 0x21 0 (dir 5 2) {wa := 0, work := [(areaKey 5 2, 0)]}), (1), (0), (dir 5 2), (0x0), ?_⟩,
    ⟨(opS 0x22 0 (dir 5 2) {wa := 0, work := [(areaKey 5 2, 1)]}), (1), (0), (dir 5 2), (0x0), (0x0), ?_⟩,
    ⟨(opS 0x22 0 (dir 5 2) {wa := 0, work := [(areaKey 5 2, 0)]}), (1), (0), (dir 5 2), ?_⟩,
    ⟨(opS 0x22 0 (dir 5 2) {wa := 0x80000000, work := [(areaKey 5 2, 0xFFFFFFFF)]}), (1), (0), (dir 5 2), ?_⟩⟩
  all_goals
    repeat' first
      | (unfold HxmMsg.sentAs; rfl)
      | decide +kernel
      | exact mayWrite_engine
      | (apply mayWrite_of; decide +kernel)
      | (apply canCall_program; decide +kernel)
      | (apply canCall_host <;> decide +kernel)
      | (apply canIssue_of; decide +kernel)
      | (apply hasNext_of; decide +kernel)
      | apply runsOn_of
      | (apply ownElem_of; decide +kernel)
      | (apply awaits_program; decide +kernel)
      | (apply awaits_host; decide +kernel)
      | (apply unheld_of; decide +kernel)
      | (apply hasSlot_of; decide +kernel)
      | (apply askedBy_of; decide +kernel)
      | (apply canAsk_of <;> decide +kernel)
      | (apply hears_of (c := 12) <;> decide +kernel)
      | (apply not_hears_of; decide +kernel)
      | (apply memOk_of; decide +kernel)
      | (apply all_below; decide +kernel)
      | (intro _ h; cases h; done)
      | (intro _ _ h; cases h; done)
      | (apply dmaMay_of; decide +kernel)
      | (apply dmaMay_all; decide +kernel)
      | (apply exists_some; decide +kernel)
      | (apply all_some; decide +kernel)
      | apply And.intro
      | exact rfl
      | (intro _ h; exact absurd (show Origin.quiet = _ from h) (by decide +kernel))

theorem wit_ComparesSetBAAndFlags :
  (∃ (s : State) (k : Nat) (mode : Nat) (opnd : Nat), s.runsOn k 40 mode opnd) ∧
  (∃ (s : State) (k : Nat) (mode : Nat) (opnd : Nat), s.runsOn k 41 mode opnd) ∧
  (∃ (s : State) (k : Nat) (mode : Nat) (opnd : Nat), s.runsOn k 42 mode opnd) ∧
  (∃ (s : State) (k : Nat) (mode : Nat) (opnd : Nat), s.runsOn k 43 mode opnd) ∧
  (∃ (s : State) (k : Nat) (mode : Nat) (opnd : Nat), s.runsOn k 44 mode opnd) ∧
  (∃ (s : State) (k : Nat) (mode : Nat) (opnd : Nat), s.runsOn k 45 mode opnd) := by
  refine ⟨⟨(opS 0x28 0 (dir 5 2) {wa := 0, work := [(areaKey 5 2, 1)]}), (1), (0), (dir 5 2), ?_⟩,
    ⟨(opS 0x29 0 (dir 5 2) {wa := 0, work := [(areaKey 5 2, 1)]}), (1), (0), (dir 5 2), ?_⟩,
    ⟨(opS 0x2A 0 (dir 5 2) {wa := 0, work := [(areaKey 5 2, 1)]}), (1), (0), (dir 5 2), ?_⟩,
    ⟨(opS 0x2B 0 (dir 5 2) {wa := 0, work := [(areaKey 5 2, 1)]}), (1), (0), (dir 5 2), ?_⟩,
    ⟨(opS 0x2C 0 (dir 5 2) {wa := 0, work := [(areaKey 5 2, 1)]}), (1), (0), (dir 5 2), ?_⟩,
    ⟨(opS 0x2D 0 (dir 5 2) {wa := 0, work := [(areaKey 5 2, 1)]}), (1), (0), (dir 5 2), ?_⟩⟩
  all_goals
    repeat' first
      | (unfold HxmMsg.sentAs; rfl)
      | decide +kernel
      | exact mayWrite_engine
      | (apply mayWrite_of; decide +kernel)
      | (apply canCall_program; decide +kernel)
      | (apply canCall_host <;> decide +kernel)
      | (apply canIssue_of; decide +kernel)
      | (apply hasNext_of; decide +kernel)
      | apply runsOn_of
      | (apply ownElem_of; decide +kernel)
      | (apply awaits_program; decide +kernel)
      | (apply awaits_host; decide +kernel)
      | (apply unheld_of; decide +kernel)
      | (apply hasSlot_of; decide +kernel)
      | (apply askedBy_of; decide +kernel)
      | (apply canAsk_of <;> decide +kernel)
      | (apply hears_of (c := 12) <;> decide +kernel)
      | (apply not_hears_of; decide +kernel)
      | (apply memOk_of; decide +kernel)
      | (apply all_below; decide +kernel)
      | (intro _ h; cases h; done)
      | (intro _ _ h; cases h; done)
      | (apply dmaMay_of; decide +kernel)
      | (apply dmaMay_all; decide +kernel)
      | (apply exists_some; decide +kernel)
      | (apply all_some; decide +kernel)
      | apply And.intro
      | exact rfl
      | (intro _ h; exact absurd (show Origin.quiet = _ from h) (by decide +kernel))

theorem wit_StoresGoToTheSectionsOwnElements :
  (∃ (s : State) (k : Nat) (mode : Nat) (opnd : Nat) (a : Nat) (o : Nat), s.ownElem k mode opnd a o ∧ a ≠ 10 ∧ s.runsOn k 14 mode
      opnd) ∧
  (∃ (s : State) (k : Nat) (mode : Nat) (opnd : Nat) (a : Nat) (o : Nat), s.ownElem k mode opnd a o ∧ a ≠ 10 ∧ s.runsOn k 15 mode
      opnd) ∧
  (∃ (s : State) (k : Nat) (mode : Nat) (opnd : Nat) (a : Nat) (o : Nat), s.ownElem k mode opnd a o ∧ a ≠ 10 ∧ s.runsOn k 16 mode
      opnd) ∧
  (∃ (s : State) (k : Nat) (mode : Nat) (opnd : Nat) (a : Nat) (o : Nat), s.ownElem k mode opnd a o ∧ a ≠ 10 ∧ s.runsOn k 17 mode
      opnd) ∧
  (∃ (s : State) (k : Nat) (mode : Nat) (opnd : Nat) (a : Nat) (o : Nat), s.ownElem k mode opnd a o ∧ a ≠ 10 ∧ s.runsOn k 18 mode
      opnd) ∧
  (∃ (s : State) (k : Nat) (mode : Nat) (opnd : Nat) (a : Nat) (o : Nat), s.ownElem k mode opnd a o ∧ a ≠ 10 ∧ s.runsOn k 26 mode
      opnd) ∧
  (∃ (s : State) (k : Nat) (mode : Nat) (opnd : Nat) (a : Nat) (o : Nat), s.ownElem k mode opnd a o ∧ a ≠ 10 ∧ s.runsOn k 12 mode
      opnd) ∧
  (∃ (s : State) (k : Nat) (mode : Nat) (opnd : Nat) (a : Nat) (o : Nat), s.ownElem k mode opnd a o ∧ a ≠ 10 ∧ s.runsOn k 13 mode
      opnd) ∧
  (∃ (s : State) (k : Nat) (mode : Nat) (opnd : Nat) (o : Nat), s.runsOn k 26 mode opnd ∧ s.operand k mode opnd = some (10, o) ∧
      o < areaSize 10) ∧
  (∃ (s : State) (k : Nat) (mode : Nat) (opnd : Nat) (a : Nat) (o : Nat), s.runsOn k 26 mode opnd ∧ s.operand k mode opnd = some
      (a, o) ∧ o < areaSize a ∧ a ≠ 10 ∧ s.ownerOf a o ≠ some k) ∧
  (∃ (s : State) (k : Nat) (mode : Nat) (opnd : Nat) (a : Nat) (o : Nat) (v : Nat), s.ownerOf a o = some k ∧ s.forcedAt a o =
      some v ∧ s.runsOn k 26 mode opnd ∧ s.operand k mode opnd = some (a, o) ∧ o < areaSize a ∧ (a = 2 ∨ a = 5)) := by
  refine ⟨⟨(opS 0x0E 0 (dir 1 3) {ba := true, wa := 77, work := [(areaKey 1 3, 0)]}), (1), (0), (dir 1 3), (1), (3), ?_⟩,
    ⟨(opS 0x0F 0 (dir 2 3) {ba := true, wa := 77, work := [(areaKey 2 3, 0)]}), (1), (0), (dir 2 3), (2), (3), ?_⟩,
    ⟨(opS 0x10 0 (dir 2 3) {ba := true, wa := 77, work := [(areaKey 2 3, 0)]}), (1), (0), (dir 2 3), (2), (3), ?_⟩,
    ⟨(opS 0x11 0 (dir 1 3) {ba := true, wa := 77, work := [(areaKey 1 3, 0)]}), (1), (0), (dir 1 3), (1), (3), ?_⟩,
    ⟨(opS 0x12 0 (dir 5 3) {ba := true, wa := 77, work := [(areaKey 5 3, 0)]}), (1), (0), (dir 5 3), (5), (3), ?_⟩,
    ⟨(opS 0x1A 0 (dir 4 3) {ba := true, wa := 77, work := [(areaKey 4 3, 0)]}), (1), (0), (dir 4 3), (4), (3), ?_⟩,
    ⟨(opS 0x0C 0 (dir 2 3) {ba := true, wa := 77, work := [(areaKey 2 3, 0)]}), (1), (0), (dir 2 3), (2), (3), ?_⟩,
    ⟨(opS 0x0D 0 (dir 2 3) {ba := true, wa := 77, work := [(areaKey 2 3, 0)]}), (1), (0), (dir 2 3), (2), (3), ?_⟩,
    ⟨(opS 0x1A 0 (dir 10 4095) {wa := 3}), (1), (0), (dir 10 4095), (4095), ?_⟩,
    ⟨(opS 0x1A 0 (dir 5 4001) {wa := 3}), (1), (0), (dir 5 4001), (5), (4001), ?_⟩,
    ⟨(let s := opS 0x1A 3 (1) {wa := 3}; {s with prog := {s.prog with forces := [⟨41, 55⟩]}}), (1), (3), (1), (5), (9), (55), ?_⟩⟩
  all_goals
    repeat' first
      | (unfold HxmMsg.sentAs; rfl)
      | decide +kernel
      | exact mayWrite_engine
      | (apply mayWrite_of; decide +kernel)
      | (apply canCall_program; decide +kernel)
      | (apply canCall_host <;> decide +kernel)
      | (apply canIssue_of; decide +kernel)
      | (apply hasNext_of; decide +kernel)
      | apply runsOn_of
      | (apply ownElem_of; decide +kernel)
      | (apply awaits_program; decide +kernel)
      | (apply awaits_host; decide +kernel)
      | (apply unheld_of; decide +kernel)
      | (apply hasSlot_of; decide +kernel)
      | (apply askedBy_of; decide +kernel)
      | (apply canAsk_of <;> decide +kernel)
      | (apply hears_of (c := 12) <;> decide +kernel)
      | (apply not_hears_of; decide +kernel)
      | (apply memOk_of; decide +kernel)
      | (apply all_below; decide +kernel)
      | (intro _ h; cases h; done)
      | (intro _ _ h; cases h; done)
      | (apply dmaMay_of; decide +kernel)
      | (apply dmaMay_all; decide +kernel)
      | (apply exists_some; decide +kernel)
      | (apply all_some; decide +kernel)
      | apply And.intro
      | exact rfl
      | (intro _ h; exact absurd (show Origin.quiet = _ from h) (by decide +kernel))

theorem wit_TimersAndCountersFollowTheirInput :
  (∃ (s : State) (k : Nat) (mode : Nat) (opnd : Nat) (o : Nat), s.ownElem k mode opnd 7 o ∧ s.runsOn k 19 mode opnd) ∧
  (∃ (s : State) (k : Nat) (mode : Nat) (opnd : Nat) (o : Nat), s.ownElem k mode opnd 7 o ∧ s.runsOn k 20 mode opnd) ∧
  (∃ (s : State) (k : Nat) (mode : Nat) (opnd : Nat) (o : Nat), s.ownElem k mode opnd 7 o ∧ s.runsOn k 21 mode opnd) ∧
  (∃ (s : State) (k : Nat) (mode : Nat) (opnd : Nat) (o : Nat), s.ownElem k mode opnd 8 o ∧ s.runsOn k 22 mode opnd) ∧
  (∃ (s : State) (k : Nat) (mode : Nat) (opnd : Nat) (o : Nat), s.ownElem k mode opnd 8 o ∧ s.runsOn k 23 mode opnd) ∧
  (∃ (s : State) (k : Nat) (mode : Nat) (opnd : Nat) (o : Nat), s.ownElem k mode opnd 8 o ∧ s.runsOn k 24 mode opnd) ∧
  (∃ (s : State) (k : Nat) (mode : Nat) (opnd : Nat) (wait : Nat) (a : Nat) (o : Nat) (v : Nat) (opc : Nat) (c : Instr),
      s.ownerOf a o = some k ∧ s.forcedAt a o = some v ∧ s.operand k mode opnd = some (a, o) ∧ o < areaSize a ∧ (a, opc, c) ∈
      [(7, 19, Instr.opTon k mode opnd wait), (7, 20, Instr.opTof k mode opnd wait), (7, 21, Instr.opTp k mode opnd wait), (8,
      22, Instr.opCtu k mode opnd wait), (8, 23, Instr.opCtd k mode opnd wait), (8, 24, Instr.opCld k mode opnd wait)] ∧ s.runsOn
      k opc mode opnd) := by
  refine ⟨⟨(opS 0x13 0 (dir 7 3) {ba := true, wa := 5, wT := [(3, {})]}), (1), (0), (dir 7 3), (3), ?_⟩,
    ⟨(opS 0x14 0 (dir 7 3) {ba := true, wa := 5, wT := [(3, {})]}), (1), (0), (dir 7 3), (3), ?_⟩,
    ⟨(opS 0x15 0 (dir 7 3) {ba := true, wa := 5, wT := [(3, {})]}), (1), (0), (dir 7 3), (3), ?_⟩,
    ⟨(opS 0x16 0 (dir 8 3) {ba := true, wa := 5, wC := [(3, {})]}), (1), (0), (dir 8 3), (3), ?_⟩,
    ⟨(opS 0x17 0 (dir 8 3) {ba := true, wa := 5, wC := [(3, {})]}), (1), (0), (dir 8 3), (3), ?_⟩,
    ⟨(opS 0x18 0 (dir 8 3) {ba := true, wa := 5, wC := [(3, {})]}), (1), (0), (dir 8 3), (3), ?_⟩,
    ⟨(let s := opS 0x13 0 (dir 7 3) {ba := true, wa := 5};
        {s with prog := {s.prog with forces := [⟨40, 7⟩], pkg := s.prog.pkg.map fun p => {p with symbols := [{id := 40, area := 7, off := 3}]}}}), 1, 0, (dir 7 3), 2, 7, 3, 7, 0x13, (.opTon 1 0 (dir 7 3) 2), ?_⟩⟩
  all_goals
    repeat' first
      | (unfold HxmMsg.sentAs; rfl)
      | decide +kernel
      | exact mayWrite_engine
      | (apply mayWrite_of; decide +kernel)
      | (apply canCall_program; decide +kernel)
      | (apply canCall_host <;> decide +kernel)
      | (apply canIssue_of; decide +kernel)
      | (apply hasNext_of; decide +kernel)
      | apply runsOn_of
      | (apply ownElem_of; decide +kernel)
      | (apply awaits_program; decide +kernel)
      | (apply awaits_host; decide +kernel)
      | (apply unheld_of; decide +kernel)
      | (apply hasSlot_of; decide +kernel)
      | (apply askedBy_of; decide +kernel)
      | (apply canAsk_of <;> decide +kernel)
      | (apply hears_of (c := 12) <;> decide +kernel)
      | (apply not_hears_of; decide +kernel)
      | (apply memOk_of; decide +kernel)
      | (apply all_below; decide +kernel)
      | (intro _ h; cases h; done)
      | (intro _ _ h; cases h; done)
      | (apply dmaMay_of; decide +kernel)
      | (apply dmaMay_all; decide +kernel)
      | (apply exists_some; decide +kernel)
      | (apply all_some; decide +kernel)
      | apply And.intro
      | exact rfl
      | (intro _ h; exact absurd (show Origin.quiet = _ from h) (by decide +kernel))

theorem wit_ControlFlowMovesTheCounter :
  (∃ (s : State) (k : Nat) (mode : Nat) (opnd : Nat), opnd < (s.code k).length ∧ s.canIssue k 48 mode opnd) ∧
  (∃ (s : State) (k : Nat) (mode : Nat) (opnd : Nat), opnd < (s.code k).length ∧ s.canIssue k 49 mode opnd ∧ (s.sect k).ba =
      true) ∧
  (∃ (s : State) (k : Nat) (mode : Nat) (opnd : Nat), opnd < (s.code k).length ∧ s.runsOn k 49 mode opnd ∧ (s.sect k).ba = false)
      ∧
  (∃ (s : State) (k : Nat) (mode : Nat) (opnd : Nat), opnd < (s.code k).length ∧ s.canIssue k 50 mode opnd ∧ (s.sect k).ba =
      false) ∧
  (∃ (s : State) (k : Nat) (mode : Nat) (opnd : Nat), opnd < (s.code k).length ∧ s.runsOn k 50 mode opnd ∧ (s.sect k).ba = true) ∧
  (∃ (s : State) (k : Nat) (mode : Nat) (opnd : Nat), opnd < (s.code k).length ∧ s.canIssue k 51 mode opnd ∧ (s.sect k).cs.length
      < 8) ∧
  (∃ (s : State) (k : Nat) (p : Nat) (l : List Nat), s.canIssue k 52 2 0 ∧ (s.sect k).cs = p :: l ∧ p < (s.code k).length) ∧
  (∃ (s : State) (k : Nat), s.canIssue k 57 2 0) ∧
  (∃ (s : State) (k : Nat) (mode : Nat) (opnd : Nat), s.canIssue k 51 mode opnd ∧ (s.sect k).cs.length = 8) ∧
  (∃ (s : State) (k : Nat), s.canIssue k 52 2 0 ∧ (s.sect k).cs = []) ∧
  (∃ (s : State) (k : Nat), s.canIssue k 9 2 0 ∧ (s.sect k).bs.length = 16) ∧
  (∃ (s : State) (k : Nat), s.canIssue k 0 2 0 ∧ (s.sect k).pc + 1 = (s.code k).length) := by
  refine ⟨⟨(opS 0x30 2 (0) {}), (1), (2), (0), ?_⟩,
    ⟨(opS 0x31 2 (0) {ba := true}), (1), (2), (0), ?_⟩,
    ⟨(opS 0x31 2 (0) {}), (1), (2), (0), ?_⟩,
    ⟨(opS 0x32 2 (0) {}), (1), (2), (0), ?_⟩,
    ⟨(opS 0x32 2 (0) {ba := true}), (1), (2), (0), ?_⟩,
    ⟨(opS 0x33 2 (0) {cs := [0]}), (1), (2), (0), ?_⟩,
    ⟨(opS 0x34 2 (0) {cs := [1, 0]}), (1), (1), ([0]), ?_⟩,
    ⟨(opS 0x39 2 (0) {clk := 8}), (1), ?_⟩,
    ⟨(opS 0x33 2 (1) {cs := [0,0,0,0,0,0,0,0]}), (1), (2), (1), ?_⟩,
    ⟨(opS 0x34 2 (0) {}), (1), ?_⟩,
    ⟨(opS 0x09 2 (0) {bs := List.replicate 16 true}), (1), ?_⟩,
    ⟨(inRun (pkc [w 0 2 0]) {}), (1), ?_⟩⟩
  all_goals
    repeat' first
      | (unfold HxmMsg.sentAs; rfl)
      | decide +kernel
      | exact mayWrite_engine
      | (apply mayWrite_of; decide +kernel)
      | (apply canCall_program; decide +kernel)
      | (apply canCall_host <;> decide +kernel)
      | (apply canIssue_of; decide +kernel)
      | (apply hasNext_of; decide +kernel)
      | apply runsOn_of
      | (apply ownElem_of; decide +kernel)
      | (apply awaits_program; decide +kernel)
      | (apply awaits_host; decide +kernel)
      | (apply unheld_of; decide +kernel)
      | (apply hasSlot_of; decide +kernel)
      | (apply askedBy_of; decide +kernel)
      | (apply canAsk_of <;> decide +kernel)
      | (apply hears_of (c := 12) <;> decide +kernel)
      | (apply not_hears_of; decide +kernel)
      | (apply memOk_of; decide +kernel)
      | (apply all_below; decide +kernel)
      | (intro _ h; cases h; done)
      | (intro _ _ h; cases h; done)
      | (apply dmaMay_of; decide +kernel)
      | (apply dmaMay_all; decide +kernel)
      | (apply exists_some; decide +kernel)
      | (apply all_some; decide +kernel)
      | apply And.intro
      | exact rfl
      | (intro _ h; exact absurd (show Origin.quiet = _ from h) (by decide +kernel))

theorem wit_TablesMovesAndCallsWork :
  (∃ (s : State) (k : Nat) (mode : Nat) (opnd : Nat) (a : Nat) (o : Nat), s.runsOn k 53 mode opnd ∧ s.operand k mode opnd = some
      (a, o) ∧ ((BitVec.toNat (s.tblWordAt k a o 0) < 2 ∨ 256 < BitVec.toNat (s.tblWordAt k a o 0)) ∨ 2 ≤ BitVec.toNat
      (s.tblWordAt k a o 0) ∧ BitVec.toNat (s.tblWordAt k a o 0) ≤ 256 ∧ BitVec.toInt (s.tblWordAt k a o 1) < BitVec.toInt
      (s.sect k).wa ∧ BitVec.toInt (s.tblWordAt k a o (2 * BitVec.toNat (s.tblWordAt k a o 0) - 1)) ≤ BitVec.toInt (s.tblWordAt k
      a o 1) ∨ BitVec.toNat (s.tblWordAt k a o 0) = 3 ∧ BitVec.toInt (s.tblWordAt k a o 1) < BitVec.toInt (s.sect k).wa ∧
      BitVec.toInt (s.sect k).wa < BitVec.toInt (s.tblWordAt k a o 5) ∧ (BitVec.toInt (s.tblWordAt k a o 3) ≤ BitVec.toInt
      (s.tblWordAt k a o 1) ∨ BitVec.toInt (s.tblWordAt k a o 5) ≤ BitVec.toInt (s.tblWordAt k a o 3)))) ∧
  (∃ (s : State) (k : Nat) (mode : Nat) (opnd : Nat) (a : Nat) (o : Nat) (y : Word), s.runsOn k 53 mode opnd ∧ s.operand k mode
      opnd = some (a, o) ∧ 2 ≤ BitVec.toNat (s.tblWordAt k a o 0) ∧ BitVec.toNat (s.tblWordAt k a o 0) ≤ 256 ∧ (BitVec.toInt
      (s.sect k).wa ≤ BitVec.toInt (s.tblWordAt k a o 1) ∧ y = s.tblWordAt k a o 2 ∨ BitVec.toInt (s.tblWordAt k a o 1) <
      BitVec.toInt (s.tblWordAt k a o (2 * BitVec.toNat (s.tblWordAt k a o 0) - 1)) ∧ BitVec.toInt (s.tblWordAt k a o (2 *
      BitVec.toNat (s.tblWordAt k a o 0) - 1)) ≤ BitVec.toInt (s.sect k).wa ∧ y = s.tblWordAt k a o (2 * BitVec.toNat
      (s.tblWordAt k a o 0)))) ∧
  (∃ (s : State) (k : Nat) (mode : Nat) (opnd : Nat) (a : Nat) (o : Nat) (i : Nat) (r : Word), s.runsOn k 53 mode opnd ∧
      s.operand k mode opnd = some (a, o) ∧ BitVec.toNat (s.tblWordAt k a o 0) ≤ 256 ∧ i + 1 < BitVec.toNat (s.tblWordAt k a o 0)
      ∧ (∀ (j : Nat), j + 1 < BitVec.toNat (s.tblWordAt k a o 0) → BitVec.toInt (s.tblWordAt k a o (2 * j + 1)) < BitVec.toInt
      (s.tblWordAt k a o (2 * j + 3))) ∧ BitVec.toInt (s.tblWordAt k a o 1) < BitVec.toInt (s.sect k).wa ∧ BitVec.toInt
      (s.tblWordAt k a o (2 * i + 1)) ≤ BitVec.toInt (s.sect k).wa ∧ BitVec.toInt (s.sect k).wa < BitVec.toInt (s.tblWordAt k a o
      (2 * i + 3)) ∧ BitVec.toInt r = max (-2 ^ 31) (min (2 ^ 31 - 1) (interpolate (BitVec.toInt (s.tblWordAt k a o (2 * i + 2)))
      (BitVec.toInt (s.tblWordAt k a o (2 * i + 4))) (BitVec.toInt (s.sect k).wa) (BitVec.toInt (s.tblWordAt k a o (2 * i + 1)))
      (BitVec.toInt (s.tblWordAt k a o (2 * i + 3)))))) ∧
  (∃ (x : Int) (xa : Int) (ya : Int) (yb : Int), -2 ^ 63 ≤ (yb - ya) * (x - xa) ∧ (yb - ya) * (x - xa) < 2 ^ 63) ∧
  (∃ (s : State) (k : Nat) (mode : Nat) (opnd : Nat) (a : Nat) (o : Nat), s.runsOn k 54 mode opnd ∧ s.operand k mode opnd = some
      (a, o) ∧ 1 ≤ BitVec.toNat (s.sect k).wb ∧ BitVec.toNat (s.sect k).wb ≤ 4096 ∧ (a ≠ 5 ∨ (s.sect k).xi ≤ o ∨ o + BitVec.toNat
      (s.sect k).wb ≤ (s.sect k).xi)) ∧
  (∃ (s : State) (k : Nat) (mode : Nat) (opnd : Nat) (o : Nat), s.runsOn k 54 mode opnd ∧ s.operand k mode opnd = some (5, o) ∧ 1
      ≤ BitVec.toNat (s.sect k).wb ∧ BitVec.toNat (s.sect k).wb ≤ 4096 ∧ o < (s.sect k).xi ∧ (s.sect k).xi + BitVec.toNat (s.sect
      k).wb ≤ areaSize 5 ∧ (∀ i < BitVec.toNat (s.sect k).wb, s.ownerOf 5 ((s.sect k).xi + i) = some k ∧ s.forcedAt 5 ((s.sect
      k).xi + i) = none)) ∧
  (∃ (s : State) (k : Nat) (mode : Nat) (opnd : Nat), s.runsOn k 54 mode opnd ∧ ((s.sect k).wb = 0 ∨ 4096 < BitVec.toNat (s.sect
      k).wb)) ∧
  (∃ (s : State) (k : Nat) (mode : Nat) (opnd : Nat) (n : Nat) (j : Nat), svcD opnd = some n ∧ (s.sect k).freeSlot = some j ∧
      s.runsOn k 56 mode opnd ∧ (n = 0 ∨ (s.sect k).xi + n ≤ areaSize 5) ∧ (s.sect k).taken < 64) ∧
  (∃ (s : State) (k : Nat) (mode : Nat) (opnd : Nat) (n : Nat) (st : Nat), svcD opnd = some n ∧ s.runsOn k 56 mode opnd ∧ (n ≠ 0
      ∧ areaSize 5 < (s.sect k).xi + n ∧ st = 9 ∨ (n = 0 ∨ (s.sect k).xi + n ≤ areaSize 5) ∧ (64 ≤ (s.sect k).taken ∨ (s.sect
      k).freeSlot = none) ∧ st = 11)) := by
  refine ⟨⟨(opS 0x35 0 (dir 5 100) {work := [(areaKey 5 100, 1)]}), (1), (0), (dir 5 100), (5), (100), ?_⟩,
    ⟨(opS 0x35 0 (dir 5 100)
        {wa := 3, work := [(areaKey 5 100, 2), (areaKey 5 101, 3), (areaKey 5 102, 7), (areaKey 5 103, 9), (areaKey 5 104, 11)]}), (1), (0), (dir 5 100), (5), (100), 7, ?_⟩,
    ⟨(opS 0x35 0 (dir 5 100)
        {wa := 5, work := [(areaKey 5 100, 2), (areaKey 5 101, 3), (areaKey 5 102, 7), (areaKey 5 103, 9), (areaKey 5 104, 0xFFFFFF00)]}), (1), (0), (dir 5 100), (5), (100), 0, (0xFFFFFFB0), ?_⟩,
    ⟨5, 3, 7, (-256), ?_⟩,
    ⟨(opS 0x36 0 (dir 3 5) {wb := 3, xi := 50}), 1, 0, (dir 3 5), 3, 5, ?_⟩,
    ⟨(opS 0x36 0 (dir 5 50) {wb := 5, xi := 52, work := [(areaKey 5 50, 8), (areaKey 5 51, 9)]}), 1, 0, (dir 5 50), 50, ?_⟩,
    ⟨(opS 0x36 0 (dir 5 50) {wb := 4097, xi := 52}), 1, 0, (dir 5 50), ?_⟩,
    ⟨(opS 0x38 2 (0x0E0001) {wa := 2, wb := 3, xi := 50}), (1), (2), (0x0E0001), (0), (0), ?_⟩,
    ⟨(opS 0x38 2 (0x0E0001) {taken := 64, ba := true}), (1), (2), (0x0E0001), (0), 0x000B, ?_⟩⟩
  all_goals
    repeat' first
      | (unfold HxmMsg.sentAs; rfl)
      | decide +kernel
      | exact mayWrite_engine
      | (apply mayWrite_of; decide +kernel)
      | (apply canCall_program; decide +kernel)
      | (apply canCall_host <;> decide +kernel)
      | (apply canIssue_of; decide +kernel)
      | (apply hasNext_of; decide +kernel)
      | apply runsOn_of
      | (apply ownElem_of; decide +kernel)
      | (apply awaits_program; decide +kernel)
      | (apply awaits_host; decide +kernel)
      | (apply unheld_of; decide +kernel)
      | (apply hasSlot_of; decide +kernel)
      | (apply askedBy_of; decide +kernel)
      | (apply canAsk_of <;> decide +kernel)
      | (apply hears_of (c := 12) <;> decide +kernel)
      | (apply not_hears_of; decide +kernel)
      | (apply memOk_of; decide +kernel)
      | (apply all_below; decide +kernel)
      | (intro _ h; cases h; done)
      | (intro _ _ h; cases h; done)
      | (apply dmaMay_of; decide +kernel)
      | (apply dmaMay_all; decide +kernel)
      | (apply exists_some; decide +kernel)
      | (apply all_some; decide +kernel)
      | apply And.intro
      | exact rfl
      | (intro _ h; exact absurd (show Origin.quiet = _ from h) (by decide +kernel))

theorem wit_LogicStaysInItsSection : ∃ (k mode opnd wait : Nat) (c : Instr), c ∈ ([.opNop k, .opNot k, .opBopen k, .opBcand k,
    .opBcor k, .opSwp k, .opRet k, .opEnd k,
      .opLd k mode opnd wait, .opLdn k mode opnd wait, .opAnd k mode opnd wait, .opAndn k mode opnd wait, .opOr k mode opnd wait,
      .opOrn k mode opnd wait, .opXor k mode opnd wait, .opEdgp k mode opnd wait, .opEdgn k mode opnd wait, .opSt k mode opnd
          wait,
      .opStn k mode opnd wait, .opSet k mode opnd wait, .opRst k mode opnd wait, .opStwc k mode opnd wait, .opTon k mode opnd
          wait,
      .opTof k mode opnd wait, .opTp k mode opnd wait, .opCtu k mode opnd wait, .opCtd k mode opnd wait, .opCld k mode opnd wait,
      .opLdw k mode opnd wait, .opStw k mode opnd wait, .opAdd k mode opnd wait, .opAdds k mode opnd wait, .opSub k mode opnd
          wait,
      .opSubs k mode opnd wait, .opMul k mode opnd wait, .opMuls k mode opnd wait, .opDiv k mode opnd wait, .opAndw k mode opnd
          wait,
      .opOrw k mode opnd wait, .opXorw k mode opnd wait, .opShl k mode opnd wait, .opShr k mode opnd wait, .opCeq k mode opnd
          wait,
      .opCne k mode opnd wait, .opCgt k mode opnd wait, .opCge k mode opnd wait, .opClt k mode opnd wait, .opCle k mode opnd wait,
      .opLdx k mode opnd wait, .opAddx k mode opnd wait, .opJmp k mode opnd wait, .opJmpc k mode opnd wait, .opJmpcn k mode opnd
          wait,
      .opCall k mode opnd wait, .opTbl k mode opnd wait, .opMovb k mode opnd wait, .opLdf k mode opnd wait, .opSvc k mode opnd
          wait] : List Instr) :=
  ⟨1, 2, 0, 3, .opNop 1, List.mem_cons_self⟩

end Sys2Proof.Tests.Logic
end

