-- ==== Sys2Proof/Tests/WitnessNetwork.lean ====
section
/-! SUPPORT. Witnesses: for each statement, states and operands that meet the hypotheses of its clauses together. -/

namespace Sys2Proof.Tests.Network
open Sys2Proof Sys2Proof.Machine Sys2Proof.Tests
set_option Elab.async false
set_option linter.unusedTactic false
set_option linter.unreachableTactic false

def lt (m : Mode) : State := calls
    { live m with frame := {num := 1000, start := 10000000000}, light := {running := true, nodes := [(5, {group := 2, cal := [1,2,3]}), (6, {})], image := [(5, {group := 3})]} }
def ar (l : List Word) : SvcArgs := {wa := 5, wb := 0xFF, d := l}
def arg : SvcArgs := ar [0x00051234, 2, 3, 4, 5, 6, 7, 65535]
def bad : SvcArgs := ar [0x10051234]

theorem wit_LightingOrdersAreDecidedInTheirFrame :
  (∃ (s : State) (o : Origin) (a : SvcArgs) (v : List Nat) (fade : Nat), s.light.running = true ∧ orderArgs a.d = some (v, fade)
      ∧ s.canCall o 393217 ∧ BitVec.toNat a.wa < 1024) ∧
  (∃ (s : State) (o : Origin) (a : SvcArgs) (v : List Nat) (fade : Nat), s.light.running = true ∧ orderArgs a.d = some (v, fade)
      ∧ s.canCall o 393219 ∧ BitVec.toNat a.wa < 4096 ∧ (s.node (BitVec.toNat a.wa)).isSome = true) ∧
  (∃ (s : State) (o : Origin) (a : SvcArgs), s.light.running = true ∧ s.canCall o 393218 ∧ BitVec.toNat a.wa < 1024) ∧
  (∃ (s : State) (o : Origin) (a : SvcArgs), s.light.running = true ∧ s.canCall o 393220 ∧ BitVec.toNat a.wa < 4096 ∧ (s.node
      (BitVec.toNat a.wa)).isSome = true) ∧
  (∃ (s : State) (o : Origin) (a : SvcArgs), s.light.running = true ∧ s.canCall o 393221 ∧ BitVec.toNat a.wa < 1024 ∧
      BitVec.toNat a.wb < 256) ∧
  (∃ (s : State) (o : Origin) (a : SvcArgs), s.light.running = true ∧ s.canCall o 393222 ∧ BitVec.toNat a.wa ≤ 2 ∧ (BitVec.toNat
      a.wb < 1024 ∨ BitVec.toNat a.wb = 65535)) ∧
  (∃ (s : State) (o : Origin) (a : SvcArgs), orderArgs a.d = none ∧ s.canCall o 393217) ∧
  (∃ (s : State) (o : Origin) (a : SvcArgs), orderArgs a.d = none ∧ s.canCall o 393219) ∧
  (∃ (s : State) (o : Origin) (a : SvcArgs), s.canCall o 393223 ∧ BitVec.toNat a.wa < 256) ∧
  (∃ (s : State) (o : Origin) (a : SvcArgs) (x : Node), s.node (BitVec.toNat a.wa) = some x ∧ s.canCall o 393224 ∧ BitVec.toNat
      a.wa < 4096) ∧
  (∃ (s : State) (o : Origin) (a : SvcArgs), s.canCall o 393224 ∧ BitVec.toNat a.wa < 4096 ∧ s.node (BitVec.toNat a.wa) = none)
      := by
  refine ⟨⟨(lt .run), (oP), (arg), (((orderArgs arg.d).get!).1), (((orderArgs arg.d).get!).2), ?_⟩,
    ⟨(lt .run), (oP), (arg), (((orderArgs arg.d).get!).1), (((orderArgs arg.d).get!).2), ?_⟩,
    ⟨(lt .run), (oP), (arg), ?_⟩,
    ⟨(lt .run), (oP), (arg), ?_⟩,
    ⟨(lt .run), (oP), ({arg with wb := 255}), ?_⟩,
    ⟨(lt .run), (oP), ({arg with wa := 0, wb := 0xFFFF}), ?_⟩,
    ⟨(lt .run), (oP), (bad), ?_⟩,
    ⟨(lt .run), (oP), (bad), ?_⟩,
    ⟨(lt .stop), (oP), ({arg with wa := 255}), ?_⟩,
    ⟨(lt .stop), (oP), (arg), ((((lt .stop) : State).node (BitVec.toNat ((arg) : SvcArgs).wa)).get (by decide +kernel)), ?_⟩,
    ⟨(lt .basic), (oP), ({arg with wa := 4095}), ?_⟩⟩
  all_goals
    repeat' first
      | (unfold HxmMsg.sentAs; rfl)
      | decide +kernel
      | exact mayWrite_engine
      | (apply mayWrite_of; decide +kernel)
      | (apply canCall_program; decide +kernel)
      | (apply canCall_host <;> decide +kernel)
      | (apply canIssue_of; decide +kernel)
      | (apply hasNext_of; decide +kernel)
      | apply runsOn_of
      | (apply ownElem_of; decide +kernel)
      | (apply awaits_program; decide +kernel)
      | (apply awaits_host; decide +kernel)
      | (apply unheld_of; decide +kernel)
      | (apply hasSlot_of; decide +kernel)
      | (apply askedBy_of; decide +kernel)
      | (apply canAsk_of <;> decide +kernel)
      | (apply hears_of (c := 12) <;> decide +kernel)
      | (apply not_hears_of; decide +kernel)
      | (apply memOk_of; decide +kernel)
      | (apply all_below; decide +kernel)
      | (intro _ h; cases h; done)
      | (intro _ _ h; cases h; done)
      | (apply dmaMay_of; decide +kernel)
      | (apply dmaMay_all; decide +kernel)
      | (apply exists_some; decide +kernel)
      | (apply all_some; decide +kernel)
      | apply And.intro
      | exact rfl
      | (intro _ h; exact absurd (show Origin.quiet = _ from h) (by decide +kernel))

theorem wit_PlatformAndNodeServicesAct :
  (∃ (s : State) (o : Origin), s.canCall o 1 ∧ (s.mode = Mode.run ∨ s.mode = Mode.hold) ∧ s.lifeAllows ModeEv.stop = true) ∧
  (∃ (s : State) (o : Origin), s.canCall o 1 ∧ s.mode = Mode.stop ∧ s.lifeAllows ModeEv.stop = true) ∧
  (∃ (s : State) (o : Origin), s.canCall o 2 ∧ s.mode ≠ Mode.basic) ∧
  (∃ (s : State) (o : Origin), s.canCall o 327682) ∧
  (∃ (s : State) (k : Nat) (j : Nat) (n : Nat) (q : Nat) (a : SvcArgs), s.canCall (Origin.program k j n) 327681 ∧ k < 4 ∧ q < 255
      ∧ q ≠ j ∧ 0 < ((s.sect k).slots.getD q { }).serial ∧ ((s.sect k).slots.getD q { }).serial < 65536 ∧ BitVec.toNat a.wa = 64
      * k * 2 ^ 24 + q * 2 ^ 16 + ((s.sect k).slots.getD q { }).serial ∧ ((s.sect k).slots.getD q { }).st = SlotSt.final) ∧
  (∃ (s : State) (k : Nat) (j : Nat) (n : Nat) (q : Nat) (a : SvcArgs), s.canCall (Origin.program k j n) 327681 ∧ k < 4 ∧ q < 255
      ∧ q ≠ j ∧ 0 < ((s.sect k).slots.getD q { }).serial ∧ ((s.sect k).slots.getD q { }).serial < 65536 ∧ BitVec.toNat a.wa = 64
      * k * 2 ^ 24 + q * 2 ^ 16 + ((s.sect k).slots.getD q { }).serial ∧ ((s.sect k).slots.getD q { }).st = SlotSt.issued) ∧
  (∃ (s : State) (c : Nat) (q : Nat), s.canCall (Origin.host c q) 327681) ∧
  (∃ (s : State) (o : Origin) (a : SvcArgs), s.canCall o 1638401 ∧ BitVec.toNat a.wa < 3 ∧ s.recs.queue.length < 256) ∧
  (∃ (s : State) (o : Origin) (a : SvcArgs), s.canCall o 1638401 ∧ BitVec.toNat a.wa < 3 ∧ 256 ≤ s.recs.queue.length) ∧
  (∃ (s : State) (o : Origin) (a : SvcArgs) (r : Nat) (i : Nat), s.canCall o 458753 ∧ BitVec.toNat a.wb ≤ 1 ∧ (BitVec.toNat a.wa
      < if BitVec.toNat a.wb = 1 then 1024 else 4096) ∧ s.assocOf (BitVec.toNat a.wb) (BitVec.toNat a.wa) = some (r, i)) ∧
  (∃ (s : State) (o : Origin) (a : SvcArgs) (r : Nat) (i : Nat), s.canCall o 458754 ∧ BitVec.toNat a.wa < 4096 ∧ 0 < BitVec.toNat
      a.wb ∧ BitVec.toNat a.wb ≤ 600 ∧ s.assocOf 0 (BitVec.toNat a.wa) = some (r, i)) ∧
  (∃ (s : State) (o : Origin) (a : SvcArgs) (r : Nat) (i : Nat), s.canCall o 458755 ∧ BitVec.toNat a.wa < 4096 ∧ s.assocOf 0
      (BitVec.toNat a.wa) = some (r, i)) ∧
  (∃ (s : State) (o : Origin) (a : SvcArgs), s.canCall o 458755 ∧ BitVec.toNat a.wa < 4096 ∧ s.assocOf 0 (BitVec.toNat a.wa) =
      none) := by
  refine ⟨⟨({lt .run with keys := keyed}), (oP), ?_⟩,
    ⟨({lt .stop with keys := keyed}), (oP), ?_⟩,
    ⟨(lt .run), (oP), ?_⟩,
    ⟨(lt .run), (oP), ?_⟩,
    ⟨(let s := lt .run;
        {s with prog := {s.prog with sects := [{st := .executing}, {st := .executing, slots := [(0, {st := .issued, serial := 5, code := 9}), (3, {st := .final, serial := 8, status := 1})]}, {}, {}]}}), (1), (0), (5), (3), ({wa := BitVec.ofNat 32 (64*2^24 + 3 * 65536 + 8)}), ?_⟩,
    ⟨(let s := lt .run;
        {s with prog := {s.prog with sects := [{st := .executing}, {st := .executing, slots := [(0, {st := .issued, serial := 5, code := 9}), (3, {st := .issued, serial := 8, code := 0x0A0004})]}, {}, {}]}}), (1), (0), (5), (3), ({wa := BitVec.ofNat 32 (64*2^24 + 3 * 65536 + 8)}), ?_⟩,
    ⟨(lt .run), (3), (101), ?_⟩,
    ⟨(lt .run), (oP), ({arg with wa := 2}), ?_⟩,
    ⟨({lt .run with recs := {queue := List.replicate 256 ⟨5,1,2,3,4,5,6,[7]⟩}}), (oP), ({arg with wa := 2}), ?_⟩,
    ⟨(let s : State :=
        {lt .run with net := {radios := [{}, {assocs := [(7, {st := 2, slot := 5, serial := 99, seqD := 65535})]}, {}, {}, {}, {}], serials := [(5, 99)]}, light := {nodes := [(5, {radio := 1, assoc := 7, online := true})]}}; s.put (F.RAD_CFG_EN.at 1) 1), (oP), ({arg with wb := 0}), (1), (7), ?_⟩,
    ⟨(let s : State :=
        {lt .run with net := {radios := [{}, {assocs := [(7, {st := 2, slot := 5, serial := 99, seqD := 65535})]}, {}, {}, {}, {}], serials := [(5, 99)]}, light := {nodes := [(5, {radio := 1, assoc := 7, online := true})]}}; s.put (F.RAD_CFG_EN.at 1) 1), (oP), ({arg with wb := 600}), (1), (7), ?_⟩,
    ⟨(let s : State :=
        {lt .run with net := {radios := [{}, {assocs := [(7, {st := 2, slot := 5, serial := 99, seqD := 65535})]}, {}, {}, {}, {}], serials := [(5, 99)]}, light := {nodes := [(5, {radio := 1, assoc := 7, online := true})]}}; s.put (F.RAD_CFG_EN.at 1) 1), (oP), ({arg with wb := 600}), (1), (7), ?_⟩,
    ⟨(let s : State :=
        {lt .run with net := {radios := [{}, {assocs := [(7, {st := 2, slot := 5, serial := 99, seqD := 65535})]}, {}, {}, {}, {}], serials := [(5, 99)]}, light := {nodes := [(5, {radio := 1, assoc := 7, online := true})]}}; s.put (F.RAD_CFG_EN.at 1) 1), (oP), ({arg with wa := 6}), ?_⟩⟩
  all_goals
    repeat' first
      | (unfold HxmMsg.sentAs; rfl)
      | decide +kernel
      | exact mayWrite_engine
      | (apply mayWrite_of; decide +kernel)
      | (apply canCall_program; decide +kernel)
      | (apply canCall_host <;> decide +kernel)
      | (apply canIssue_of; decide +kernel)
      | (apply hasNext_of; decide +kernel)
      | apply runsOn_of
      | (apply ownElem_of; decide +kernel)
      | (apply awaits_program; decide +kernel)
      | (apply awaits_host; decide +kernel)
      | (apply unheld_of; decide +kernel)
      | (apply hasSlot_of; decide +kernel)
      | (apply askedBy_of; decide +kernel)
      | (apply canAsk_of <;> decide +kernel)
      | (apply hears_of (c := 12) <;> decide +kernel)
      | (apply not_hears_of; decide +kernel)
      | (apply memOk_of; decide +kernel)
      | (apply all_below; decide +kernel)
      | (intro _ h; cases h; done)
      | (intro _ _ h; cases h; done)
      | (apply dmaMay_of; decide +kernel)
      | (apply dmaMay_all; decide +kernel)
      | (apply exists_some; decide +kernel)
      | (apply all_some; decide +kernel)
      | apply And.intro
      | exact rfl
      | (intro _ h; exact absurd (show Origin.quiet = _ from h) (by decide +kernel))

theorem wit_TagsNodesAndWindowsKeepTheirRules :
  (∃ (s : State) (tag : Nat), s.get F.LGT_GRACE_GRACE < s.num + 1 - tag ∧ (∃ x ∈ s.light.tags, x.tag = tag ∧ x.st =
      TagPhase.effective)) ∧
  (∃ (s : State) (tag : Nat), s.num + 1 - tag ≤ s.get F.LGT_GRACE_GRACE) ∧
  (∃ (s : State) (tag : Nat), s.get F.LGT_GRACE_GRACE < s.num + 1 - tag ∧ (∃ x ∈ s.light.tags, x.tag = tag ∧ x.st =
      TagPhase.deferred)) ∧
  (∃ (s : State) (i : Nat) (x : Node), s.node i = some x ∧ s.past (x.repAt.max x.waitAt + s.get F.LGT_CONF_WAIT * frameNs) = true
      ∧ s.localOf i = none) ∧
  (∃ (s : State) (i : Nat) (x : Node), s.node i = some x ∧ s.past (x.tempAt + s.get F.LGT_COMP_TEMP_AGE * 1000000000) = true) ∧
  (∃ (s : State) (i : Nat) (x : Node), s.node i = some x ∧ s.past (x.tempAt + s.get F.LGT_COMP_TEMP_AGE * 1000000000) = false) ∧
  (∃ (s : State) (who : Requester) (w : Word) (x : Node), s.node (BitVec.toNat w % 4096) = some x ∧ s.mayWrite who ∧ calOk
      (s.latched Win.cal who.key) = true) ∧
  (∃ (s : State) (who : Requester) (w : Word) (x : Node), s.node (BitVec.toNat w % 4096) = some x ∧ s.mayWrite who ∧ calOk
      (s.latched Win.cal who.key) = false) ∧
  (∃ (s : State) (who : Requester) (w : Word) (x : Node), s.node (BitVec.toNat w % 4096) = some x ∧ s.mayWrite who ∧ x.cal ≠ []) ∧
  (∃ (s : State) (who : Requester), s.mayWrite who) := by
  refine ⟨⟨(let s := lt .run;
      {s with light := {s.light with tags := [⟨900, .effective⟩, ⟨901, .deferred⟩], changes := [⟨901, 800, true, .resync, 0, .quiet, none⟩, ⟨1003, 800, true, .resync, 0, .quiet, some (3, 4)⟩]}}), (900), ?_⟩,
    ⟨(let s := lt .run;
        {s with light := {s.light with tags := [⟨900, .effective⟩, ⟨901, .deferred⟩], changes := [⟨901, 800, true, .resync, 0, .quiet, none⟩, ⟨1003, 800, true, .resync, 0, .quiet, some (3, 4)⟩]}}), (1001), ?_⟩,
    ⟨(let s := lt .run;
        {s with light := {s.light with tags := [⟨900, .effective⟩, ⟨901, .deferred⟩], changes := [⟨901, 800, true, .resync, 0, .quiet, none⟩, ⟨1003, 800, true, .resync, 0, .quiet, some (3, 4)⟩]}}), (901), ?_⟩,
    ⟨({lt .run with frame := {num := 1000, start := 10000000000000}}), (5),
        (((({lt .run with frame := {num := 1000, start := 10000000000000}}) : State).node ((5) : Nat)).get (by decide +kernel)),
        ?_⟩,
    ⟨({lt .run with frame := {start := 10000000000000}}), (5), (((({lt .run with frame := {start := 10000000000000}}) :
        State).node ((5) : Nat)).get (by decide +kernel)), ?_⟩,
    ⟨(lt .run), (5), ((((lt .run) : State).node ((5) : Nat)).get (by decide +kernel)), ?_⟩,
    ⟨(let w := List.replicate 31 0; (lt .run).setLatch Win.cal 73 (w ++ [crc32c (w.flatMap (leBytes 4))])), (.session 9), (5),
        ((((let w := List.replicate 31 0; (lt .run).setLatch Win.cal 73 (w ++ [crc32c (w.flatMap (leBytes 4))])) : State).node
        (BitVec.toNat ((5) : Word) % 4096)).get (by decide +kernel)), ?_⟩,
    ⟨(lt .run), (.session 9), (5), ((((lt .run) : State).node (BitVec.toNat ((5) : Word) % 4096)).get (by decide +kernel)), ?_⟩,
    ⟨(lt .run), (.engine 0), (5), ((((lt .run) : State).node (BitVec.toNat ((5) : Word) % 4096)).get (by decide +kernel)), ?_⟩,
    ⟨(lt .run), (.engine 0), ?_⟩⟩
  all_goals
    repeat' first
      | (unfold HxmMsg.sentAs; rfl)
      | decide +kernel
      | exact mayWrite_engine
      | (apply mayWrite_of; decide +kernel)
      | (apply canCall_program; decide +kernel)
      | (apply canCall_host <;> decide +kernel)
      | (apply canIssue_of; decide +kernel)
      | (apply hasNext_of; decide +kernel)
      | apply runsOn_of
      | (apply ownElem_of; decide +kernel)
      | (apply awaits_program; decide +kernel)
      | (apply awaits_host; decide +kernel)
      | (apply unheld_of; decide +kernel)
      | (apply hasSlot_of; decide +kernel)
      | (apply askedBy_of; decide +kernel)
      | (apply canAsk_of <;> decide +kernel)
      | (apply hears_of (c := 12) <;> decide +kernel)
      | (apply not_hears_of; decide +kernel)
      | (apply memOk_of; decide +kernel)
      | (apply all_below; decide +kernel)
      | (intro _ h; cases h; done)
      | (intro _ _ h; cases h; done)
      | (apply dmaMay_of; decide +kernel)
      | (apply dmaMay_all; decide +kernel)
      | (apply exists_some; decide +kernel)
      | (apply all_some; decide +kernel)
      | apply And.intro
      | exact rfl
      | (intro _ h; exact absurd (show Origin.quiet = _ from h) (by decide +kernel))

end Sys2Proof.Tests.Network
end

