-- ==== Sys2Proof/Tests/WitnessPairs.lean ====
section
/-! SUPPORT. Witnesses: for each statement, states and operands that meet the hypotheses of its clauses together. -/

namespace Sys2Proof.Tests.Pairs
open Sys2Proof Sys2Proof.Machine Sys2Proof.Tests
set_option Elab.async false
set_option linter.unusedTactic false
set_option linter.unreachableTactic false

def fl (s : State) (l : List (Fld × Nat)) : State := l.foldl (fun (s : State) p => s.put p.1 p.2) s
def pr (r : Role) (m : Mode) (x : Splice := {}) (l : List (Fld × Nat) := []) : State := fl (calls
    { live m with role := r, frame := {num := 1003, start := 10030000000}, keys := {life := .provisioned, rows := [{}]}, spl := x }) ([(F.SPL_CFG_PAIR, 1), (F.SPL_CFG_UNIT, 1), (F.FRM_STAT_ALIGNED, 1)] ++ l)
def hb (r : Role) (m : Mode) (y : Nat) (p : Bool) : Heartbeat :=
    {mode := m, role := r, life := .provisioned, frame := 1003, sync := y, prot := p, unit := 0}
def up (u : Update) (l : List (Fld × Nat) := []) (m : Mode := .run) (r : Role := .solo) : State := {pr r m {} l with upd := u}
def hd0 : List Nat := [0x48, 0x58, 0x49, 0x4D, 0x01, 0x42, 0, 0, 5, 0, 0, 0, 9, 0]
def bk : Bank := {st := 4, gen := 6, head := hd0, len := 14, good := true}
def hO (n : Nat) : HeldOut := {need := n, out := ⟨.hxmReply, [3, 5, 0]⟩}

theorem wit_PairsFollowTheirLink :
  (∃ (s : State), s.linkUp = true) ∧
  (∃ (s : State), s.linkUp = false) ∧
  (∃ (s : State) (b : Heartbeat), s.linkUp = true ∧ b.auth = false) ∧
  (∃ (s : State) (b : Heartbeat), s.linkUp = true ∧ b.auth = true) ∧
  (∃ (s : State) (b : Heartbeat), s.linkUp = true ∧ b.auth = true ∧ s.role = Role.follower ∧ b.role = Role.lead ∧ s.live = true ∧
      s.get F.SPL_STAT_SYNC = 2) ∧
  (∃ (s : State) (b : Heartbeat), s.linkUp = true ∧ b.auth = true ∧ s.role = Role.follower ∧ b.role = Role.lead ∧ s.live = true ∧
      (s.get F.SPL_STAT_SYNC = 0 ∨ s.get F.SPL_STAT_SYNC = 3) ∧ s.hbReason b = 0 ∧ b.vipOk = true) ∧
  (∃ (s : State) (b : Heartbeat), s.linkUp = true ∧ b.auth = true ∧ s.role = Role.follower ∧ b.role = Role.lead ∧ s.live = true ∧
      (s.get F.SPL_STAT_SYNC = 0 ∨ s.get F.SPL_STAT_SYNC = 3) ∧ s.hbReason b ≠ 0) ∧
  (∃ (s : State) (b : Heartbeat), s.linkUp = true ∧ b.auth = true ∧ s.role = Role.lead ∧ b.role = Role.follower ∧ s.live = true) ∧
  (∃ (s : State), s.get F.SPL_STAT_PARTNER_HB ≠ 0 ∧ s.past (s.spl.hbAt + s.get F.SPL_CFG_HBMISS * 100000) = true) ∧
  (∃ (s : State), s.get F.SPL_STAT_PARTNER_HB = 0 ∨ s.past (s.spl.hbAt + s.get F.SPL_CFG_HBMISS * 100000) = false) ∧
  (∃ (s : State), s.role = Role.follower ∧ s.linkUp = true) ∧
  (∃ (s : State), s.role = Role.follower ∧ s.linkUp = true ∧ s.spl.recs = [] ∧ s.get F.SPL_STAT_SYNC = 2) ∧
  (∃ (s : State), s.role ≠ Role.follower ∨ s.linkUp = false) ∧
  (∃ (s : State), s.role = Role.follower ∧ s.get F.SPL_STAT_SYNC = 1) ∧
  (∃ (s : State), s.role ≠ Role.follower ∨ s.get F.SPL_STAT_SYNC ≠ 1) ∧
  (∃ (s : State) (n : Nat) (h : HeldOut), s.role = Role.lead ∧ s.spl.held = [h] ∧ (((List.filter (fun u => decide (n < u))
      s.spl.unacked).all fun u => decide (h.need < u)) = true) ∧ s.tooOld h = false ∧ h.out.kind ≠ OutKind.spiReply) ∧
  (∃ (s : State), s.role ≠ Role.lead) ∧
  (∃ (s : State), s.role = Role.lead ∧ s.spl.unacked ≠ [] ∧ s.get F.SPL_STAT_PROTECTED ≠ 0) ∧
  (∃ (s : State), s.role = Role.lead ∧ s.spl.unacked ≠ [] ∧ s.get F.SPL_STAT_PROTECTED = 0) := by
  refine ⟨⟨(pr .lead .run), ?_⟩,
    ⟨(pr .solo .run {} [(F.SPL_CFG_PAIR, 0)]), ?_⟩,
    ⟨(let s := pr .lead .run; (s.put F.SPL_STAT_SYNC 2).put F.SPL_STAT_PARTNER_HB 1),
        ({hb .lead .shadow 0 true with auth := false}), ?_⟩,
    ⟨(let s := pr .lead .run; (s.put F.SPL_STAT_SYNC 0).put F.SPL_STAT_PARTNER_HB 1), (hb .lead .shadow 0 true), ?_⟩,
    ⟨(pr .follower .shadow {} [(F.SPL_STAT_SYNC, 2)]), (hb .lead .run 0 true), ?_⟩,
    ⟨(pr .follower .shadow {recs := [.prog {}], writes := [.prog {}]} [(F.SPL_STAT_SYNC, 0)]), (hb .lead .run 0 true), ?_⟩,
    ⟨(pr .follower .shadow {} [(F.SPL_STAT_SYNC, 0)]), ({hb .lead .run 0 true with keyOk := false}), ?_⟩,
    ⟨(pr .lead .run {hbSync := 0, unacked := [3]}), (hb .follower .shadow 0 true), ?_⟩,
    ⟨(fl (pr .lead .run) [(F.SPL_STAT_PARTNER_HB, 1), (F.SPL_STAT_PROTECTED, 0), (F.SPL_STAT_SYNC, 2), (F.SPL_CNT_HB_LOSS,
        255)]), ?_⟩,
    ⟨(pr .lead .run), ?_⟩,
    ⟨(pr .follower .shadow {recs := [.prog {}], writes := [.write 0 4 5], copied := .run}), ?_⟩,
    ⟨(pr .follower .shadow {recs := [], writes := [.write 0 4 5], copied := .run} [(F.SPL_STAT_SYNC, 2)]), ?_⟩,
    ⟨(pr .lead .run), ?_⟩,
    ⟨(pr .follower .shadow {recs := [.write 1 5 7], writes := [.write 0 4 5], copied := .run} [(F.SPL_STAT_SYNC, 1)]), ?_⟩,
    ⟨(pr .lead .run {} [(F.SPL_STAT_SYNC, 1)]), ?_⟩,
    ⟨(pr .lead .run {unacked := [4,5,6], held := [hO 5]}), (5), (hO 5), ?_⟩,
    ⟨(pr .follower .shadow), ?_⟩,
    ⟨(pr .lead .run {unacked := [4,5,6], held := [hO 5, {need := 3, out := ⟨.spiReply, [4]⟩}]} [(F.SPL_STAT_PROTECTED, 1)]), ?_⟩,
    ⟨(pr .lead .run {unacked := [4,5,6]}), ?_⟩⟩
  all_goals
    repeat' first
      | (unfold HxmMsg.sentAs; rfl)
      | decide +kernel
      | exact mayWrite_engine
      | (apply mayWrite_of; decide +kernel)
      | (apply canCall_program; decide +kernel)
      | (apply canCall_host <;> decide +kernel)
      | (apply canIssue_of; decide +kernel)
      | (apply hasNext_of; decide +kernel)
      | apply runsOn_of
      | (apply ownElem_of; decide +kernel)
      | (apply awaits_program; decide +kernel)
      | (apply awaits_host; decide +kernel)
      | (apply unheld_of; decide +kernel)
      | (apply hasSlot_of; decide +kernel)
      | (apply askedBy_of; decide +kernel)
      | (apply canAsk_of <;> decide +kernel)
      | (apply hears_of (c := 12) <;> decide +kernel)
      | (apply not_hears_of; decide +kernel)
      | (apply memOk_of; decide +kernel)
      | (apply all_below; decide +kernel)
      | (intro _ h; cases h; done)
      | (intro _ _ h; cases h; done)
      | (apply dmaMay_of; decide +kernel)
      | (apply dmaMay_all; decide +kernel)
      | (apply exists_some; decide +kernel)
      | (apply all_some; decide +kernel)
      | apply And.intro
      | exact rfl
      | (intro _ h; exact absurd (show Origin.quiet = _ from h) (by decide +kernel))

theorem wit_LeadsAreTakenOverAndSwapped :
  (∃ (s : State), s.role = Role.follower ∧ s.mode = Mode.shadow ∧ s.live = true ∧ s.spl.takeAt = none ∧ (s.get
      F.SPL_STAT_PARTNER_HB = 0 ∨ s.spl.relinquished = true)) ∧
  (∃ (s : State), s.role ≠ Role.follower ∨ s.mode ≠ Mode.shadow ∨ s.live = false ∨ s.spl.takeAt.isSome = true ∨ s.get
      F.SPL_STAT_PARTNER_HB ≠ 0 ∧ s.spl.relinquished = false) ∧
  (∃ (s : State) (b : Nat), s.spl.takeAt = some b ∧ s.role = Role.follower ∧ s.mode = Mode.shadow ∧ s.live = true ∧ b ≤ s.num ∧
      s.get F.SPL_STAT_ROLE_IN = 0 ∧ (s.get F.SPL_STAT_PARTNER_HB = 0 ∨ s.spl.relinquished = true)) ∧
  (∃ (s : State), s.role ≠ Role.follower ∨ s.mode ≠ Mode.shadow ∨ s.spl.takeAt = none ∨ s.get F.SPL_STAT_ROLE_IN ≠ 0 ∨ s.live =
      false ∨ s.get F.SPL_STAT_PARTNER_HB ≠ 0 ∧ s.spl.relinquished = false) ∧
  (∃ (s : State), s.role = Role.follower ∧ s.linkUp = true) ∧
  (∃ (s : State), s.role ≠ Role.follower ∨ s.linkUp = false) ∧
  (∃ (s : State), s.role = Role.lead ∧ s.get F.SPL_CFG_UNIT = 1 ∧ s.live = true ∧ s.mode.active = true) ∧
  (∃ (s : State), s.role ≠ Role.lead ∨ s.get F.SPL_CFG_UNIT ≠ 1 ∨ s.mode.active = false ∨ s.live = false) ∧
  (∃ (s : State), s.role = Role.lead ∧ s.mode = Mode.basic ∧ s.live = true) ∧
  (∃ (s : State), s.role ≠ Role.lead ∨ s.mode ≠ Mode.basic ∨ s.live = false) ∧
  (∃ (s : State) (who : Requester) (c : Nat), s.mayWrite who ∧ c ≠ 23294) ∧
  (∃ (s : State) (who : Requester), s.mayWrite who ∧ (s.mode.active = false ∨ s.live = false)) ∧
  (∃ (s : State) (who : Requester), s.mayWrite who ∧ s.mode.active = true ∧ s.live = true ∧ s.role ≠ Role.lead) ∧
  (∃ (s : State) (who : Requester), s.mayWrite who ∧ s.mode.active = true ∧ s.live = true ∧ s.role = Role.lead ∧
      s.partnerEligible = false) ∧
  (∃ (s : State) (who : Requester), s.mayWrite who ∧ s.mode.active = true ∧ s.live = true ∧ s.role = Role.lead ∧
      s.partnerEligible = true ∧ (∃ p ∈ s.drv.axes, p.2.st.active = true)) ∧
  (∃ (s : State) (who : Requester), s.mayWrite who ∧ s.mode.active = true ∧ s.live = true ∧ s.role = Role.lead ∧
      s.partnerEligible = true ∧ (∀ p ∈ s.drv.axes, p.2.st.active = false) ∧ s.spl.swapAt.isSome = true) ∧
  (∃ (s : State) (who : Requester), s.mayWrite who ∧ s.mode.active = true ∧ s.live = true ∧ s.role = Role.lead ∧
      s.partnerEligible = true ∧ (∀ p ∈ s.drv.axes, p.2.st.active = false) ∧ s.spl.swapAt = none) ∧
  (∃ (s : State) (n : Nat), s.spl.swapAt = some n ∧ s.role = Role.lead ∧ s.mode.active = true ∧ s.live = true ∧ n ≤ s.num) ∧
  (∃ (s : State) (n : Nat), s.spl.swapAt = some n ∧ s.role = Role.lead ∧ s.mode.active = true ∧ s.live = true ∧ s.num < n) ∧
  (∃ (s : State), s.role ≠ Role.lead ∧ s.eligible = true ∧ s.live = true ∧ s.spl.relinquished = true) ∧
  (∃ (s : State), s.role ≠ Role.lead ∧ s.eligible = true ∧ s.live = true ∧ s.spl.relinquished = false) := by
  refine ⟨⟨(pr .follower .shadow {} []), ?_⟩,
    ⟨(pr .lead .run), ?_⟩,
    ⟨(pr .follower .shadow {takeAt := some 1003, copied := .run} [(F.SPL_STAT_SYNC, 2)]), (1003), ?_⟩,
    ⟨(pr .follower .shadow), ?_⟩,
    ⟨(pr .follower .shadow), ?_⟩,
    ⟨(pr .lead .run), ?_⟩,
    ⟨({pr .lead .run with frame := {num := 7, modeReqs := [{ev := .enterBasic, by_ := .quiet, at_ := 5}]}}), ?_⟩,
    ⟨(pr .lead .run {} [(F.SPL_CFG_UNIT, 0)]), ?_⟩,
    ⟨(pr .lead .basic {} [(F.SPL_STAT_SYNC, 2)]), ?_⟩,
    ⟨(pr .lead .run), ?_⟩,
    ⟨(pr .lead .run), (.session 9), (5), ?_⟩,
    ⟨(pr .lead .basic), (.session 9), ?_⟩,
    ⟨(pr .solo .run), (.session 9), ?_⟩,
    ⟨(pr .lead .run), (.session 9), ?_⟩,
    ⟨({pr .lead .run {hbSync := 2} [(F.SPL_STAT_PARTNER_HB, 1), (F.SPL_PEER_MODE, Mode.shadow.code), (F.SPL_PEER_LIFE, Life.provisioned.code)] with drv := {axes := [(5, {st := .moving})]}}), (.session 9), ?_⟩,
    ⟨(pr .lead .run {hbSync := 2, swapAt := some 1010} [(F.SPL_STAT_PARTNER_HB, 1), (F.SPL_PEER_MODE, Mode.shadow.code),
        (F.SPL_PEER_LIFE, Life.provisioned.code)]), (.session 9), ?_⟩,
    ⟨({pr .lead .run {hbSync := 2} [(F.SPL_STAT_PARTNER_HB, 1), (F.SPL_PEER_MODE, Mode.shadow.code), (F.SPL_PEER_LIFE, Life.provisioned.code)] with frame := {num := 1}, drv := {axes := [(5, {st := .fault})]}, prog := {(calls (live .run)).prog with pkg := some {pk1 with len := 7}}}), (.session 9), ?_⟩,
    ⟨(pr .lead .run {swapAt := some 1003, swapBy := .command splStat, hbSync := 2, unacked := [3], held := [hO 3]}
        [(F.SPL_STAT_PARTNER_HB, 1), (F.SPL_PEER_MODE, Mode.shadow.code), (F.SPL_PEER_LIFE, Life.provisioned.code),
        (F.SPL_STAT_PROTECTED, 1)]), (1003), ?_⟩,
    ⟨(pr .lead .run {swapAt := some 1004}), (1004), ?_⟩,
    ⟨(pr .follower .shadow {relinquished := true, copied := .run} [(F.SPL_STAT_SYNC, 2)]), ?_⟩,
    ⟨(pr .follower .shadow {} [(F.SPL_STAT_SYNC, 2)]), ?_⟩⟩
  all_goals
    repeat' first
      | (unfold HxmMsg.sentAs; rfl)
      | decide +kernel
      | exact mayWrite_engine
      | (apply mayWrite_of; decide +kernel)
      | (apply canCall_program; decide +kernel)
      | (apply canCall_host <;> decide +kernel)
      | (apply canIssue_of; decide +kernel)
      | (apply hasNext_of; decide +kernel)
      | apply runsOn_of
      | (apply ownElem_of; decide +kernel)
      | (apply awaits_program; decide +kernel)
      | (apply awaits_host; decide +kernel)
      | (apply unheld_of; decide +kernel)
      | (apply hasSlot_of; decide +kernel)
      | (apply askedBy_of; decide +kernel)
      | (apply canAsk_of <;> decide +kernel)
      | (apply hears_of (c := 12) <;> decide +kernel)
      | (apply not_hears_of; decide +kernel)
      | (apply memOk_of; decide +kernel)
      | (apply all_below; decide +kernel)
      | (intro _ h; cases h; done)
      | (intro _ _ h; cases h; done)
      | (apply dmaMay_of; decide +kernel)
      | (apply dmaMay_all; decide +kernel)
      | (apply exists_some; decide +kernel)
      | (apply all_some; decide +kernel)
      | apply And.intro
      | exact rfl
      | (intro _ h; exact absurd (show Origin.quiet = _ from h) (by decide +kernel))

theorem wit_FirmwareIsReceivedAndActivated :
  (∃ (s : State) (bk : Bool) (sg : Bool), s.upd.banks.length = 2 ∧ s.upd.active < 2 ∧ s.get F.UPD_STAT_STATE = 2 ∧ s.imageVerdict
      (s.bank s.inactiveBank) bk sg = 0) ∧
  (∃ (s : State) (bk : Bool) (sg : Bool), s.upd.banks.length = 2 ∧ s.upd.active < 2 ∧ s.get F.UPD_STAT_STATE = 2 ∧ s.imageVerdict
      (s.bank s.inactiveBank) bk sg ≠ 0) ∧
  (∃ (s : State), s.get F.UPD_STAT_STATE ≠ 2) ∧
  (∃ (s : State) (who : Requester) (c : Nat), s.mayWrite who ∧ s.live = true ∧ c ≠ 23294) ∧
  (∃ (s : State) (who : Requester) (st : Nat), s.activateRefusal true = some st ∧ s.mayWrite who ∧ s.live = true ∧ (s.mode =
      Mode.stop ∨ s.mode = Mode.run ∨ s.mode = Mode.hold)) ∧
  (∃ (s : State) (who : Requester), s.mayWrite who ∧ s.live = true ∧ (s.mode = Mode.stop ∨ s.mode = Mode.run ∨ s.mode =
      Mode.hold) ∧ s.activateRefusal true = none) ∧
  (∃ (s : State) (who : Requester), s.mayWrite who ∧ s.live = true ∧ (s.mode = Mode.stop ∨ s.mode = Mode.run ∨ s.mode =
      Mode.hold) ∧ s.activateRefusal true = none ∧ s.role = Role.lead ∧ s.partnerEligible = true) ∧
  (∃ (s : State) (who : Requester), s.mayWrite who ∧ s.live = true ∧ (s.mode = Mode.stop ∨ s.mode = Mode.run ∨ s.mode =
      Mode.hold) ∧ s.activateRefusal true = none ∧ s.role = Role.lead ∧ s.partnerEligible = false) ∧
  (∃ (s : State) (who : Requester), s.mayWrite who ∧ s.live = true ∧ (s.mode = Mode.stop ∨ s.mode = Mode.run ∨ s.mode =
      Mode.hold) ∧ s.role ≠ Role.lead) ∧
  (∃ (s : State) (who : Requester) (st : Nat), s.activateRefusal false = some st ∧ s.mayWrite who ∧ s.live = true) ∧
  (∃ (s : State) (who : Requester), s.mayWrite who ∧ s.live = true ∧ s.activateRefusal false = none) ∧
  (∃ (s : State) (who : Requester), s.mayWrite who ∧ s.live = true ∧ (s.bank s.upd.active).st ≠ 3) ∧
  (∃ (s : State) (who : Requester), s.mayWrite who ∧ s.live = true ∧ s.upd.banks.length = 2 ∧ s.upd.active < 2 ∧ (s.bank
      s.upd.active).st = 3) ∧
  (∃ (s : State) (who : Requester), s.mayWrite who ∧ s.live = true ∧ s.upd.kind ≠ 0) ∧
  (∃ (s : State) (who : Requester), s.mayWrite who ∧ s.live = true ∧ s.upd.kind = 0 ∧ s.upd.banks.length = 2 ∧ s.upd.active < 2) ∧
  (∃ (s : State), s.upd.kind = 1 ∧ s.upd.stage = 2 ∧ s.upd.banks.length = 2 ∧ s.upd.active < 2) ∧
  (∃ (s : State), s.upd.kind ≠ 1 ∨ s.upd.stage ≠ 2) ∧
  (∃ (s : State), s.upd.kind = 1 ∧ s.upd.stage = 4 ∧ s.frame.off = 0 ∧ s.upd.banks.length = 2 ∧ s.upd.active < 2) ∧
  (∃ (s : State), s.upd.kind ≠ 1 ∨ s.upd.stage ≠ 4 ∨ s.frame.off ≠ 0) ∧
  (∃ (s : State) (k : Nat), s.upd.since = some k ∧ s.upd.banks.length = 2 ∧ s.upd.active < 2 ∧ (s.bank s.upd.active).st = 3 ∧
      s.live = true ∧ (s.mode = Mode.stop ∨ s.mode = Mode.run ∨ s.mode = Mode.hold ∨ s.mode = Mode.shadow) ∧ s.past (k + s.get
      F.UPD_CFG_CONFIRM * 1000000000) = true) ∧
  (∃ (s : State) (k : Nat), s.upd.since = some k ∧ s.upd.banks.length = 2 ∧ s.upd.active < 2 ∧ ((s.bank s.upd.active).st ≠ 3 ∨
      s.past (k + s.get F.UPD_CFG_CONFIRM * 1000000000) = false)) ∧
  (∃ (s : State), s.upd.banks.length = 2 ∧ s.mode ≠ Mode.recovery) ∧
  (∃ (s : State) (l : List Nat), s.upd.banks.length = 2 ∧ s.mode = Mode.recovery ∧ s.live = true ∧ s.upd.resetDue = false ∧
      (s.keys.killed = false ∨ s.keys.life = Life.returned) ∧ 1024 < l.length) ∧
  (∃ (s : State) (l : List Nat), s.upd.banks.length = 2 ∧ s.mode = Mode.recovery ∧ s.live = true ∧ s.upd.resetDue = false ∧
      (s.keys.killed = false ∨ s.keys.life = Life.returned) ∧ l ≠ [] ∧ l.length ≤ 1024) ∧
  (∃ (s : State) (off : Nat) (l : List Nat), s.upd.banks.length = 2 ∧ s.mode = Mode.recovery ∧ s.live = true ∧ s.upd.resetDue =
      false ∧ (s.keys.killed = false ∨ s.keys.life = Life.returned) ∧ l.length ≤ 1024 ∧ (off ≠ s.upd.next ∨ s.upd.next = 0) ∧
      (off ≠ 0 ∨ l = [])) ∧
  (∃ (s : State) (l : List Nat), s.upd.banks.length = 2 ∧ s.mode = Mode.recovery ∧ s.live = true ∧ s.upd.resetDue = false ∧
      (s.keys.killed = false ∨ s.keys.life = Life.returned) ∧ s.upd.next ≠ 0 ∧ l ≠ [] ∧ l.length ≤ 1024) ∧
  (∃ (s : State) (bk : Bool) (sg : Bool), s.upd.banks.length = 2 ∧ s.mode = Mode.recovery ∧ s.live = true ∧ s.upd.resetDue =
      false ∧ (s.keys.killed = false ∨ s.keys.life = Life.returned) ∧ s.upd.next ≠ 0 ∧ s.imageVerdict (s.bank s.recoveryBank) bk
      sg = 0) ∧
  (∃ (s : State) (bk : Bool) (sg : Bool), s.upd.banks.length = 2 ∧ s.mode = Mode.recovery ∧ s.live = true ∧ s.upd.resetDue =
      false ∧ (s.keys.killed = false ∨ s.keys.life = Life.returned) ∧ s.upd.next ≠ 0 ∧ s.imageVerdict (s.bank s.recoveryBank) bk
      sg ≠ 0) := by
  refine ⟨⟨(awaitsP (up {banks := [{bk with st := 4}, {bk with gen := 4, st := 4}], active := 0, imgBy := .quiet}
      [(F.UPD_STAT_STATE, 2)])), (true), (true), ?_⟩,
    ⟨(awaitsP (up {banks := [{bk with st := 4}, {bk with gen := 4, st := 4}], active := 0, imgBy := .quiet} [(F.UPD_STAT_STATE,
        2)])), (false), (true), ?_⟩,
    ⟨(up {}), ?_⟩,
    ⟨(up {} [] .run), (.session 9), (4), ?_⟩,
    ⟨(up {kind := 1} [] .run), (.session 9), ((((up {kind := 1} [] .run) : State).activateRefusal true).get (by decide +kernel)),
        ?_⟩,
    ⟨(up {banks := [{bk with st := 4}, {bk with gen := 4, st := 1}], active := 0} [(F.UPD_STAT_STATE, 3)] .run), (.session 9),
        ?_⟩,
    ⟨({up {banks := [{bk with st := 4}, {bk with gen := 4, st := 1}], active := 0} [(F.UPD_STAT_STATE, 3), (F.SPL_STAT_SYNC, 2), (F.SPL_STAT_PARTNER_HB, 1), (F.SPL_PEER_MODE, Mode.shadow.code), (F.SPL_PEER_LIFE, Life.provisioned.code)] .run .lead with spl := {hbSync := 2}}), (.session 9), ?_⟩,
    ⟨(up {banks := [{bk with st := 4}, {bk with gen := 4, st := 1}], active := 0} [(F.UPD_STAT_STATE, 3), (F.SPL_STAT_SYNC, 1)]
        .run .lead), (.session 9), ?_⟩,
    ⟨(up {banks := [{bk with st := 4}, {bk with gen := 4, st := 1}], active := 0} [(F.UPD_STAT_STATE, 3)] .run), (.session 9),
        ?_⟩,
    ⟨(up {kind := 2} [] .basic), (.session 9), ((((up {kind := 2} [] .basic) : State).activateRefusal false).get (by
        decide +kernel)), ?_⟩,
    ⟨(up {banks := [{bk with st := 4}, {bk with gen := 4, st := 1}], active := 0} [(F.UPD_STAT_STATE, 3)] .run), (.session 9),
        ?_⟩,
    ⟨(up {banks := [{bk with st := 4}, {bk with gen := 4, st := 1}], active := 0} [] .run), (.session 9), ?_⟩,
    ⟨(up {banks := [{bk with st := 3}, {bk with gen := 4, st := 3}], active := 0} [] .run), (.session 9), ?_⟩,
    ⟨(up {kind := 1, banks := [{bk with st := 3}, {bk with gen := 4, st := 3}], active := 0} [] .run), (.session 9), ?_⟩,
    ⟨(up {banks := [{bk with st := 4}, {bk with gen := 4, st := 4}], active := 0} [] .run), (.session 9), ?_⟩,
    ⟨(up {kind := 1, stage := 2, active := 0, banks := [{bk with st := 4}, {bk with gen := 4, st := 1}]}), ?_⟩,
    ⟨(up {kind := 1, stage := 4}), ?_⟩,
    ⟨(up {kind := 1, stage := 4, by_ := .command updStat, c1Ready := true, banks := [{bk with st := 4}, {bk with gen := 4, st := 1}], active := 0} [(F.UPD_STAT_STATE, 4)]), ?_⟩,
    ⟨(up {}), ?_⟩,
    ⟨(up {banks := [{bk with st := 3}, {bk with gen := 4, st := 3}], active := 0, since := some 5} [(F.UPD_CFG_CONFIRM, 4)]
        .run), (5), ?_⟩,
    ⟨(up {banks := [{bk with st := 4}, {bk with gen := 4, st := 4}], active := 0, since := some 5} [(F.UPD_CFG_CONFIRM, 4)]),
        (5), ?_⟩,
    ⟨(up {}), ?_⟩,
    ⟨(up {banks := [{bk with gen := 7}, bk], next := 14} [] .recovery), (List.replicate 1025 5), ?_⟩,
    ⟨(up {banks := [{bk with gen := 7}, bk], next := 14} [] .recovery), ([4,5]), ?_⟩,
    ⟨(up {banks := [{bk with gen := 7}, bk], next := 14} [] .recovery), (15), ([4,5]), ?_⟩,
    ⟨(up {banks := [{bk with gen := 7}, bk], next := 14} [] .recovery), ([4,5]), ?_⟩,
    ⟨(up {banks := [{bk with gen := 7}, bk], next := 14} [] .recovery), (true), (true), ?_⟩,
    ⟨(up {banks := [{bk with gen := 7}, bk], next := 14} [] .recovery), (true), (false), ?_⟩⟩
  all_goals
    repeat' first
      | (unfold HxmMsg.sentAs; rfl)
      | decide +kernel
      | exact mayWrite_engine
      | (apply mayWrite_of; decide +kernel)
      | (apply canCall_program; decide +kernel)
      | (apply canCall_host <;> decide +kernel)
      | (apply canIssue_of; decide +kernel)
      | (apply hasNext_of; decide +kernel)
      | apply runsOn_of
      | (apply ownElem_of; decide +kernel)
      | (apply awaits_program; decide +kernel)
      | (apply awaits_host; decide +kernel)
      | (apply unheld_of; decide +kernel)
      | (apply hasSlot_of; decide +kernel)
      | (apply askedBy_of; decide +kernel)
      | (apply canAsk_of <;> decide +kernel)
      | (apply hears_of (c := 12) <;> decide +kernel)
      | (apply not_hears_of; decide +kernel)
      | (apply memOk_of; decide +kernel)
      | (apply all_below; decide +kernel)
      | (intro _ h; cases h; done)
      | (intro _ _ h; cases h; done)
      | (apply dmaMay_of; decide +kernel)
      | (apply dmaMay_all; decide +kernel)
      | (apply exists_some; decide +kernel)
      | (apply all_some; decide +kernel)
      | apply And.intro
      | exact rfl
      | (intro _ h; exact absurd (show Origin.quiet = _ from h) (by decide +kernel))

end Sys2Proof.Tests.Pairs
end

