-- ==== Sys2Proof/Tests/WitnessPorts.lean ====
section
/-! SUPPORT. Witnesses: for each statement, states and operands that meet the hypotheses of its clauses together. -/

namespace Sys2Proof.Tests.Ports
open Sys2Proof Sys2Proof.Machine Sys2Proof.Tests
set_option Elab.async false
set_option linter.unusedTactic false
set_option linter.unreachableTactic false

def fl (s : State) (l : List (Fld × Nat)) : State := l.foldl (fun (s : State) p => s.put p.1 p.2) s
def base (m : Mode) (n : Nat := 1003) : State := calls
    ({ live m with frame := {num := n, start := 10000000 * n}, keys := {life := .provisioned, rows := [{}]} })
def mtS (x : Meter) (l : List (Fld × Nat) := []) (m : Mode := .run) (n : Nat := 1003) : State := fl {base m n with meter := x} l
def wi (x : Wired) (l : List (Fld × Nat) := []) (m : Mode := .run) (n : Nat := 1003) : State := fl {base m n with wired := x} l
def ln (x : DaliLine) (pw : Nat := 1) (en : Nat := 1) (m : Mode := .run) (n : Nat := 1003) : State := wi
    {lines := [{}, {}, {}, x]} [(F.DAL_LINE_CFG_EN.at 3, en), (F.DAL_LINE_STAT_POWER.at 3, pw), (F.DAL_LINE_CFG_STOPARC.at 3,
    77)] m n
def mf (n : Nat) (b : Bool := false) (w : List MeterWin := []) : MFrame :=
    {num := n, len := 10000000, partial_ := false, tai := 10000000 * n, mono := 10000000 * n, tod := true, crossed := b, energy := [[some (5 * 10^32), some (-3), none], [some (-7 * 10^33), none, none]], clips := [true], wins := w, age := 1002 - n}
def fd : Feeder :=
    {acc := [2^48 - 1, 5, 6, 7, 0, 0, 0, 0, 0, 0, 0], frac := [mwhUnit - 1, 0, 0, 0, 0, 0, 0, 0, 0, 0, 0], block := [4], valid := true}

theorem wit_MeteringAccountsItsFrames :
  (∃ (s : State) (m : MFrame) (d : Nat), s.meter.running = true ∧ s.meter.queue = [m] ∧ m.age < 3 ∧ 8 ∉ s.frame.late ∧
      s.frame.off ≤ 2000000 ∧ d ≤ 2000000 ∧ s.meter.feeders.length = 4) ∧
  (∃ (s : State) (d : Nat), s.meter.running = false ∨ (∀ m ∈ s.meter.queue, 3 ≤ m.age) ∨ 8 ∈ s.frame.late ∨ 2000000 < s.frame.off
      ∨ 2000000 < d) ∧
  (∃ (s : State) (m : MFrame), s.meter.running = true ∧ s.meter.queue = [m] ∧ 3 ≤ m.age ∧ s.meter.feeders.length = 4) ∧
  (∃ (s : State), s.meter.running = false ∨ ∀ m ∈ s.meter.queue, m.age < 3) ∧
  (∃ (s : State), s.meter.running = true ∧ s.get F.MTR_STAT_SUSPENDED = 0 ∧ s.meter.lastSave + 60000000000 ≤ s.meter.pubAt) ∧
  (∃ (s : State), s.meter.running = false ∨ s.get F.MTR_STAT_SUSPENDED ≠ 0 ∨ s.meter.pubAt < s.meter.lastSave + 60000000000) ∧
  (∃ (s : State) (ch : Nat) (l : List Int), s.autoGain ch = true ∧ 0 < s.get (F.MTR_CH_STAT_GAIN.at ch) ∧ s.get F.MTR_AGS_GLITCH
      ≤ l.length ∧ (∀ x ∈ l, 9 * fullCode ≤ 10 * x.natAbs)) ∧
  (∃ (s : State) (ch : Nat) (l : List Int), s.autoGain ch = true ∧ (s.get (F.MTR_CH_STAT_GAIN.at ch) = 0 ∨ l.length < s.get
      F.MTR_AGS_GLITCH)) ∧
  (∃ (s : State) (ch : Nat), s.autoGain ch = true ∧ s.get (F.MTR_CH_STAT_GAIN.at ch) < 3 ∧ s.get F.MTR_AGS_UPHOLD ≤
      (s.meter.chans.getD ch { }).lowFrames) ∧
  (∃ (s : State) (ch : Nat), s.autoGain ch = true ∧ (3 ≤ s.get (F.MTR_CH_STAT_GAIN.at ch) ∨ (s.meter.chans.getD ch { }).lowFrames
      < s.get F.MTR_AGS_UPHOLD)) ∧
  (∃ (s : State) (ch : Nat), s.autoGain ch = false) ∧
  (∃ (s : State) (p : Nat), p < 8 ∧ s.meter.running = true ∧ s.get F.MTR_STAT_SUSPENDED = 0 ∧ s.get (F.MTR_PUL_CFG_EN.at p) ≠ 0 ∧
      s.mode ≠ Mode.recovery ∧ s.get (F.MTR_PUL_STAT_PENDING.at p) ≠ 0 ∧ (((if (s.meter.pulses.getD p { }).endAt = 0 then s.now
      else s.now.max (↑((s.meter.pulses.getD p { }).endAt + s.get (F.MTR_PUL_CFG_WIDTH.at p) * 1000000) + s.time.stepSum).toNat)
      + 999999) / 1000000 * 1000000 < s.frameEnd)) ∧
  (∃ (s : State) (p : Nat), p < 8 ∧ s.meter.running = true ∧ s.get F.MTR_STAT_SUSPENDED = 0 ∧ s.get (F.MTR_PUL_CFG_EN.at p) ≠ 0 ∧
      s.mode ≠ Mode.recovery ∧ (s.get (F.MTR_PUL_STAT_PENDING.at p) = 0 ∨ s.frameEnd ≤ ((if (s.meter.pulses.getD p { }).endAt = 0
      then s.now else s.now.max (↑((s.meter.pulses.getD p { }).endAt + s.get (F.MTR_PUL_CFG_WIDTH.at p) * 1000000) +
      s.time.stepSum).toNat) + 999999) / 1000000 * 1000000)) ∧
  (∃ (s : State) (who : Requester) (c : Nat), 2 ≤ s.roleOf who ∧ s.mayWrite who ∧ c ≠ 23294) ∧
  (∃ (s : State) (who : Requester), 2 ≤ s.roleOf who ∧ s.mayWrite who ∧ s.keys.life ≠ Life.blank ∧ s.keys.life ≠
      Life.provisioned) ∧
  (∃ (s : State) (who : Requester), 2 ≤ s.roleOf who ∧ s.mayWrite who ∧ (s.keys.life = Life.blank ∨ s.keys.life =
      Life.provisioned) ∧ s.mode ≠ Mode.stop) ∧
  (∃ (s : State) (who : Requester), 2 ≤ s.roleOf who ∧ s.mayWrite who ∧ (s.keys.life = Life.blank ∨ s.keys.life =
      Life.provisioned) ∧ s.mode = Mode.stop ∧ s.phase = Phase.running) ∧
  (∃ (s : State) (who : Requester), s.mayWrite who) ∧
  (∃ (s : State) (o : Origin) (a : SvcArgs), s.canCall o 1048577 ∧ (4 ≤ BitVec.toNat a.wa ∨ 7 ≤ BitVec.toNat a.wb)) ∧
  (∃ (s : State) (o : Origin) (a : SvcArgs), s.canCall o 1048577 ∧ BitVec.toNat a.wa < 4 ∧ BitVec.toNat a.wb < 7 ∧ s.feederOn
      (BitVec.toNat a.wa) = false) ∧
  (∃ (s : State) (o : Origin) (a : SvcArgs), s.canCall o 1048577 ∧ BitVec.toNat a.wa < 4 ∧ BitVec.toNat a.wb < 7 ∧ s.feederOn
      (BitVec.toNat a.wa) = true ∧ ((s.feeder (BitVec.toNat a.wa)).harmAt = none ∨ ∃ k, (s.feeder (BitVec.toNat a.wa)).harmAt =
      some k ∧ k + 1000000000 < s.mono)) ∧
  (∃ (s : State) (o : Origin) (a : SvcArgs) (k : Nat), (s.feeder (BitVec.toNat a.wa)).harmAt = some k ∧ s.canCall o 1048577 ∧
      BitVec.toNat a.wa < 4 ∧ BitVec.toNat a.wb < 7 ∧ s.feederOn (BitVec.toNat a.wa) = true ∧ s.mono ≤ k + 1000000000) ∧
  (∃ (s : State) (o : Origin) (a : SvcArgs), s.canCall o 1048578 ∧ 4 ≤ BitVec.toNat a.wa) ∧
  (∃ (s : State) (o : Origin) (a : SvcArgs), s.canCall o 1048578 ∧ BitVec.toNat a.wa < 4 ∧ s.feederOn (BitVec.toNat a.wa) =
      false) ∧
  (∃ (s : State) (o : Origin) (a : SvcArgs), s.canCall o 1048578 ∧ BitVec.toNat a.wa < 4 ∧ s.feederOn (BitVec.toNat a.wa) = true)
      := by
  refine ⟨⟨(mtS {running := true, queue := [mf 1002 true], feeders := [fd, fd, {}, fd]} [(F.MTR_CFG_FD_EN, 15),
      (F.MTR_CNT_EST_FRAMES, 65535)]), (mf 1002 true), 1999999, ?_⟩,
    ⟨(mtS {}), 5, ?_⟩,
    ⟨(mtS {running := true, queue := [mf 999], feeders := [fd, fd, {}, fd]} [(F.MTR_CFG_FD_EN, 15), (F.MTR_CNT_EST_FRAMES,
        65535)]), (mf 999), ?_⟩,
    ⟨(mtS {}), ?_⟩,
    ⟨(mtS {running := true, pubAt := 70030000000, accTo := 70020000000, accNum := 7002, feeders := [fd, fd, {}, fd]} [] .run
        7003), ?_⟩,
    ⟨(mtS {}), ?_⟩,
    ⟨(mtS {running := true} [(F.MTR_CH_STAT_GAIN.at 3, 1), (F.MTR_AGS_GLITCH, 2), (F.MTR_AGS_UPHOLD, 5)]), (3), ([fullCode,
        -8388607]), ?_⟩,
    ⟨(mtS {running := true} [(F.MTR_CH_STAT_GAIN.at 3, 0), (F.MTR_AGS_GLITCH, 2), (F.MTR_AGS_UPHOLD, 5)]), (3), ([fullCode,
        -8388607]), ?_⟩,
    ⟨(mtS {running := true, chans := [(3, {lowFrames := 5})]} [(F.MTR_CH_STAT_GAIN.at 3, 0), (F.MTR_AGS_GLITCH, 2),
        (F.MTR_AGS_UPHOLD, 5)]), (3), ?_⟩,
    ⟨(mtS {running := true, chans := [(3, {lowFrames := 5})]} [(F.MTR_CH_STAT_GAIN.at 3, 3), (F.MTR_AGS_GLITCH, 2),
        (F.MTR_AGS_UPHOLD, 5)]), (3), ?_⟩,
    ⟨(mtS {}), (3), ?_⟩,
    ⟨(mtS {running := true, pulses := [{},{},{},{},{},{},{},{endAt := 0}]} [(F.MTR_PUL_CFG_EN.at 7, 1), (F.MTR_PUL_CFG_WIDTH.at
        7, 30), (F.MTR_PUL_CFG_POL.at 7, 1), (F.MTR_PUL_STAT_PENDING.at 7, 1), (F.MTR_STAT_SUSPENDED, 0)]), (7), ?_⟩,
    ⟨(mtS {running := true, pulses := [{},{},{},{},{},{},{},{endAt := 0}]} [(F.MTR_PUL_CFG_EN.at 7, 1), (F.MTR_PUL_CFG_WIDTH.at
        7, 30), (F.MTR_PUL_CFG_POL.at 7, 1), (F.MTR_PUL_STAT_PENDING.at 7, 0), (F.MTR_STAT_SUSPENDED, 0)]), (7), ?_⟩,
    ⟨(mtS {} [] .run), (.session 3), (4), ?_⟩,
    ⟨({mtS {} [] .stop with keys := {life := .deployed, rows := [{}]}}), (.session 3), ?_⟩,
    ⟨(mtS {}), (.session 3), ?_⟩,
    ⟨(mtS {} [] .stop), (.session 3), ?_⟩,
    ⟨(mtS {feeders := [fd, fd, {}, fd]}), (.session 9), ?_⟩,
    ⟨(mtS {}), (oP), ({wa := 4}), ?_⟩,
    ⟨(mtS {} [(F.MTR_CFG_FD_EN, 0), (F.MTR_CNT_EST_FRAMES, 65535)]), (oP), ({wa := 1}), ?_⟩,
    ⟨(mtS {} [(F.MTR_CFG_FD_EN, 15), (F.MTR_CNT_EST_FRAMES, 65535)]), (oP), ({wa := 3, wb := 6}), ?_⟩,
    ⟨(mtS
        {running := true, feeders := [fd, {harmAt := some 9030000000, thd := [1,2,3,4,5,6,7], harm := [[1,2],[3],[5],[7,8],[],[],(List.range 63)]}, {}, fd]} [(F.MTR_CFG_FD_EN, 15), (F.MTR_CNT_EST_FRAMES, 65535)]), (oP), ({wa := 1, wb := 0}), (9030000000), ?_⟩,
    ⟨(mtS {}), (oP), ({wa := 4}), ?_⟩,
    ⟨(mtS {} [(F.MTR_CFG_FD_EN, 4), (F.MTR_CNT_EST_FRAMES, 65535)]), (oP), ({wa := 3}), ?_⟩,
    ⟨(mtS {} [(F.MTR_CFG_FD_EN, 15), (F.MTR_FD_MAXDEM_W.at 3, 9), (F.MTR_FD_MAXT_LO_SEC.at 3, 9)]), (oP), ({wa := 3}), ?_⟩⟩
  all_goals
    repeat' first
      | (unfold HxmMsg.sentAs; rfl)
      | decide +kernel
      | exact mayWrite_engine
      | (apply mayWrite_of; decide +kernel)
      | (apply canCall_program; decide +kernel)
      | (apply canCall_host <;> decide +kernel)
      | (apply canIssue_of; decide +kernel)
      | (apply hasNext_of; decide +kernel)
      | apply runsOn_of
      | (apply ownElem_of; decide +kernel)
      | (apply awaits_program; decide +kernel)
      | (apply awaits_host; decide +kernel)
      | (apply unheld_of; decide +kernel)
      | (apply hasSlot_of; decide +kernel)
      | (apply askedBy_of; decide +kernel)
      | (apply canAsk_of <;> decide +kernel)
      | (apply hears_of (c := 12) <;> decide +kernel)
      | (apply not_hears_of; decide +kernel)
      | (apply memOk_of; decide +kernel)
      | (apply all_below; decide +kernel)
      | (intro _ h; cases h; done)
      | (intro _ _ h; cases h; done)
      | (apply dmaMay_of; decide +kernel)
      | (apply dmaMay_all; decide +kernel)
      | (apply exists_some; decide +kernel)
      | (apply all_some; decide +kernel)
      | apply And.intro
      | exact rfl
      | (intro _ h; exact absurd (show Origin.quiet = _ from h) (by decide +kernel))

theorem wit_WiredPortsCarryTheirFrames :
  (∃ (s : State) (p : Nat) (f : EthFrame), s.framesOn = true ∧ p < 2 ∧ f.bad = false ∧ (f.len ≤ if f.vid.isSome = true then 1522
      else 1518) ∧ isGroupMac f.src = false ∧ s.wired.macs.length < 1024 ∧ f.own = true) ∧
  (∃ (s : State) (p : Nat) (f : EthFrame) (q : Nat), s.macPort f.dst = some q ∧ s.framesOn = true ∧ p < 2 ∧ f.bad = false ∧
      (f.len ≤ if f.vid.isSome = true then 1522 else 1518) ∧ f.own = false ∧ isGroupMac f.dst = false ∧ f.dst ≠ f.src) ∧
  (∃ (s : State) (p : Nat) (f : EthFrame), s.framesOn = true ∧ p < 2 ∧ f.bad = false ∧ (f.len ≤ if f.vid.isSome = true then 1522
      else 1518) ∧ f.own = false ∧ (isGroupMac f.dst = true ∨ f.dst ≠ f.src ∧ s.macPort f.dst = none) ∧ ((if s.wired.stormSec =
      s.now / 1000000000 then s.wired.stormCnt.getD p 0 else 0) + 1 ≤ s.get F.ETH_CFG_STORM)) ∧
  (∃ (s : State) (p : Nat) (f : EthFrame), s.framesOn = true ∧ p < 2 ∧ f.bad = false ∧ (f.len ≤ if f.vid.isSome = true then 1522
      else 1518) ∧ f.own = false ∧ (isGroupMac f.dst = true ∨ f.dst ≠ f.src ∧ s.macPort f.dst = none) ∧ (s.get F.ETH_CFG_STORM <
      (if s.wired.stormSec = s.now / 1000000000 then s.wired.stormCnt.getD p 0 else 0) + 1)) ∧
  (∃ (s : State) (p : Nat) (f : EthFrame), s.framesOn = true ∧ p < 3 ∧ (f.bad = true ∨ (if f.vid.isSome = true then 1522 else
      1518) < f.len)) ∧
  (∃ (s : State) (p : Nat) (f : EthFrame), s.framesOn = false ∨ 3 ≤ p ∨ p = 2 ∧ f.bad = false ∧ f.len ≤ 1518) ∧
  (∃ (s : State) (sv : Bool) (ip : Word) (vid : Option Nat), s.ifOn sv = true ∧ s.vlanOk sv vid = true ∧ s.ownsIp sv
      (BitVec.toNat ip) = true) ∧
  (∃ (s : State) (sv : Bool) (ip : Word) (vid : Option Nat), s.ifOn sv = false ∨ s.vlanOk sv vid = false ∨ s.ownsIp sv
      (BitVec.toNat ip) = false) ∧
  (∃ (p : Nat), p < 3) ∧
  (∃ (p : Nat), 3 ≤ p) ∧
  (∃ (s : State) (o : Origin) (a : SvcArgs), s.canCall o 1114113 ∧ 128 ≤ BitVec.toNat a.wa) ∧
  (∃ (s : State) (o : Origin) (a : SvcArgs), s.canCall o 1114113 ∧ BitVec.toNat a.wa < 128 ∧ s.plan (BitVec.toNat a.wa) = none) ∧
  (∃ (s : State) (o : Origin) (a : SvcArgs) (p : StationPlan), s.plan (BitVec.toNat a.wa) = some p ∧ s.canCall o 1114113 ∧
      BitVec.toNat a.wa < 128) ∧
  (∃ (s : State) (o : Origin) (a : SvcArgs), s.wired.lines.length = 4 ∧ BitVec.toNat a.wa < 4 ∧ daliAddr (BitVec.toNat a.wb) =
      true ∧ s.canCall o 1179649 ∧ s.get (F.DAL_LINE_CFG_EN.at (BitVec.toNat a.wa)) = 0) ∧
  (∃ (s : State) (o : Origin) (a : SvcArgs), s.wired.lines.length = 4 ∧ BitVec.toNat a.wa < 4 ∧ daliAddr (BitVec.toNat a.wb) =
      true ∧ s.canCall o 1179649 ∧ s.get (F.DAL_LINE_CFG_EN.at (BitVec.toNat a.wa)) ≠ 0 ∧ s.get (F.DAL_LINE_STAT_POWER.at
      (BitVec.toNat a.wa)) = 0) ∧
  (∃ (s : State) (o : Origin) (a : SvcArgs), s.wired.lines.length = 4 ∧ BitVec.toNat a.wa < 4 ∧ daliAddr (BitVec.toNat a.wb) =
      true ∧ s.canCall o 1179649 ∧ s.get (F.DAL_LINE_CFG_EN.at (BitVec.toNat a.wa)) ≠ 0 ∧ s.get (F.DAL_LINE_STAT_POWER.at
      (BitVec.toNat a.wa)) ≠ 0 ∧ 32 ≤ (s.line (BitVec.toNat a.wa)).queue.length) ∧
  (∃ (s : State) (o : Origin) (a : SvcArgs), s.wired.lines.length = 4 ∧ BitVec.toNat a.wa < 4 ∧ daliAddr (BitVec.toNat a.wb) =
      true ∧ s.get (F.DAL_LINE_CFG_EN.at (BitVec.toNat a.wa)) ≠ 0 ∧ s.get (F.DAL_LINE_STAT_POWER.at (BitVec.toNat a.wa)) ≠ 0 ∧
      (s.line (BitVec.toNat a.wa)).queue.length < 32 ∧ s.canCall o 1179649) ∧
  (∃ (s : State) (o : Origin) (a : SvcArgs), s.wired.lines.length = 4 ∧ BitVec.toNat a.wa < 4 ∧ daliAddr (BitVec.toNat a.wb) =
      true ∧ s.get (F.DAL_LINE_CFG_EN.at (BitVec.toNat a.wa)) ≠ 0 ∧ s.get (F.DAL_LINE_STAT_POWER.at (BitVec.toNat a.wa)) ≠ 0 ∧
      (s.line (BitVec.toNat a.wa)).queue.length < 32 ∧ s.canCall o 1179650) ∧
  (∃ (s : State) (o : Origin) (a : SvcArgs), s.wired.lines.length = 4 ∧ BitVec.toNat a.wa < 4 ∧ daliAddr (BitVec.toNat a.wb) =
      true ∧ s.get (F.DAL_LINE_CFG_EN.at (BitVec.toNat a.wa)) ≠ 0 ∧ s.get (F.DAL_LINE_STAT_POWER.at (BitVec.toNat a.wa)) ≠ 0 ∧
      (s.line (BitVec.toNat a.wa)).queue.length < 32 ∧ s.canCall o 1179651) ∧
  (∃ (s : State) (t : DaliTxn) (rest : List DaliTxn), s.num % 4 < 4 ∧ s.wired.lines.length = 4 ∧ s.daliOn = true ∧ (s.line (s.num
      % 4)).slotAt ≠ s.frame.start + 1 ∧ s.get (F.DAL_LINE_STAT_POWER.at (s.num % 4)) ≠ 0 ∧ s.get (F.DAL_LINE_CFG_EN.at (s.num %
      4)) ≠ 0 ∧ (s.line (s.num % 4)).queue = t :: rest ∧ ((s.line (s.num % 4)).stopArc = false ∨ t.begun = true) ∧ (t.twice =
      false ∨ t.again = true) ∧ s.awaits t.by_ ∧ t.query = false) ∧
  (∃ (s : State) (t : DaliTxn) (rest : List DaliTxn), s.num % 4 < 4 ∧ s.wired.lines.length = 4 ∧ s.daliOn = true ∧ (s.line (s.num
      % 4)).slotAt ≠ s.frame.start + 1 ∧ s.get (F.DAL_LINE_STAT_POWER.at (s.num % 4)) ≠ 0 ∧ s.get (F.DAL_LINE_CFG_EN.at (s.num %
      4)) ≠ 0 ∧ (s.line (s.num % 4)).queue = t :: rest ∧ ((s.line (s.num % 4)).stopArc = false ∨ t.begun = true) ∧ (t.twice =
      false ∨ t.again = true) ∧ s.awaits t.by_ ∧ t.query = true) ∧
  (∃ (s : State) (t : DaliTxn) (rest : List DaliTxn), s.num % 4 < 4 ∧ s.wired.lines.length = 4 ∧ s.daliOn = true ∧ (s.line (s.num
      % 4)).slotAt ≠ s.frame.start + 1 ∧ s.get (F.DAL_LINE_STAT_POWER.at (s.num % 4)) ≠ 0 ∧ s.get (F.DAL_LINE_CFG_EN.at (s.num %
      4)) ≠ 0 ∧ (s.line (s.num % 4)).queue = t :: rest ∧ ((s.line (s.num % 4)).stopArc = false ∨ t.begun = true) ∧ t.twice = true
      ∧ t.again = false) ∧
  (∃ (s : State) (t : DaliTxn) (rest : List DaliTxn), s.num % 4 < 4 ∧ s.wired.lines.length = 4 ∧ s.daliOn = true ∧ (s.line (s.num
      % 4)).slotAt ≠ s.frame.start + 1 ∧ s.get (F.DAL_LINE_STAT_POWER.at (s.num % 4)) ≠ 0 ∧ s.get (F.DAL_LINE_CFG_EN.at (s.num %
      4)) ≠ 0 ∧ (s.line (s.num % 4)).queue = t :: rest ∧ ((s.line (s.num % 4)).stopArc = false ∨ t.begun = true) ∧ t.tries < 3) ∧
  (∃ (s : State) (t : DaliTxn) (rest : List DaliTxn), s.num % 4 < 4 ∧ s.wired.lines.length = 4 ∧ s.daliOn = true ∧ (s.line (s.num
      % 4)).slotAt ≠ s.frame.start + 1 ∧ s.get (F.DAL_LINE_STAT_POWER.at (s.num % 4)) ≠ 0 ∧ s.get (F.DAL_LINE_CFG_EN.at (s.num %
      4)) ≠ 0 ∧ (s.line (s.num % 4)).queue = t :: rest ∧ ((s.line (s.num % 4)).stopArc = false ∨ t.begun = true) ∧ 3 ≤ t.tries ∧
      s.awaits t.by_) ∧
  (∃ (s : State), s.num % 4 < 4 ∧ s.wired.lines.length = 4 ∧ s.daliOn = true ∧ (s.line (s.num % 4)).slotAt ≠ s.frame.start + 1 ∧
      s.get (F.DAL_LINE_STAT_POWER.at (s.num % 4)) ≠ 0 ∧ s.get (F.DAL_LINE_CFG_EN.at (s.num % 4)) ≠ 0 ∧ (∀ x ∈ (s.line (s.num %
      4)).queue.head?, x.begun = false) ∧ (s.line (s.num % 4)).stopArc = true) ∧
  (∃ (s : State), s.num % 4 < 4 ∧ s.wired.lines.length = 4 ∧ s.daliOn = true ∧ (s.line (s.num % 4)).slotAt ≠ s.frame.start + 1 ∧
      s.get (F.DAL_LINE_STAT_POWER.at (s.num % 4)) ≠ 0 ∧ s.get (F.DAL_LINE_CFG_EN.at (s.num % 4)) = 0) ∧
  (∃ (s : State) (l : Nat), 4 ≤ l ∨ s.daliOn = false ∨ s.num % 4 ≠ l ∨ (s.line l).slotAt = s.frame.start + 1 ∨ s.get
      (F.DAL_LINE_STAT_POWER.at l) = 0) ∧
  (∃ (s : State) (l : Nat), l < 4 ∧ s.wired.lines.length = 4 ∧ s.get (F.DAL_LINE_STAT_POWER.at l) ≠ 0) ∧
  (∃ (s : State) (l : Nat), l < 4 ∧ s.wired.lines.length = 4 ∧ s.get (F.DAL_LINE_STAT_POWER.at l) = 0) ∧
  (∃ (s : State) (l : Nat), l < 4 ∧ s.wired.lines.length = 4) := by
  refine ⟨⟨(wi {macs := [⟨7, 1, 10000000000⟩, ⟨9, 0, 5⟩, ⟨8, 0, 10000000000⟩], stormSec := 10, stormCnt := [(0, 1), (1, 1)]}),
      (0), ({src := 5, dst := 7, len := 1518, vid := none, own := true}), ?_⟩,
    ⟨(wi {macs := [⟨7, 1, 10000000000⟩, ⟨9, 0, 5⟩, ⟨8, 0, 10000000000⟩], stormSec := 10, stormCnt := [(0, 1), (1, 1)]}), (0),
        ({src := 5, dst := 7, len := 1518, vid := none, pcp := 7}), (1), ?_⟩,
    ⟨(wi ({macs := [⟨7, 1, 10000000000⟩, ⟨9, 0, 5⟩, ⟨8, 0, 10000000000⟩], stormSec := 10, stormCnt := [(0, 9), (1, 9)]})
        [(F.ETH_CFG_STORM, 10)]), (0), ({src := 5, dst := 2^41-1, len := 1518, vid := none, cs7 := true}), ?_⟩,
    ⟨(wi ({macs := [⟨7, 1, 10000000000⟩, ⟨9, 0, 5⟩, ⟨8, 0, 10000000000⟩], stormSec := 10, stormCnt := [(0, 10), (1, 10)]})
        [(F.ETH_CFG_STORM, 10), (F.ETH_PCNT_DROPS.at 0, 65535)]), (0), ({src := 5, dst := 2^41-1, len := 1518, vid := none}), ?_⟩,
    ⟨(wi {macs := [⟨7, 1, 10000000000⟩, ⟨9, 0, 5⟩, ⟨8, 0, 10000000000⟩], stormSec := 10, stormCnt := [(0, 1), (1, 1)]}), (0),
        ({src := 5, dst := 7, len := 60, bad := true}), ?_⟩,
    ⟨(State.reset), (0), ({src := 5, dst := 7, len := 60, bad := true}), ?_⟩,
    ⟨(fl (base .run) [(F.ETH_IF_IP_ADDR.at 0, 5), (F.ETH_IF_IP_ADDR.at 1, 6), (F.SPL_VIP_ADDR, 7), (F.ETH_IF_VLAN_TAG.at 0, 0),
        (F.ETH_IF_VLAN_VID.at 0, 44)]), (false), (5), (none), ?_⟩,
    ⟨(fl (base .recovery) [(F.ETH_IF_IP_ADDR.at 0, 5), (F.ETH_IF_IP_ADDR.at 1, 6), (F.SPL_VIP_ADDR, 7), (F.ETH_IF_VLAN_TAG.at 0,
        0), (F.ETH_IF_VLAN_VID.at 0, 44)]), (false), (5), (none), ?_⟩,
    ⟨(0), ?_⟩,
    ⟨(3), ?_⟩,
    ⟨(wi {}), (oP), ({wa := 128}), ?_⟩,
    ⟨(wi {}), (oP), ({wa := 127}), ?_⟩,
    ⟨({wi {} with prog := {(wi {}).prog with pkg := some pst, stations := [(33, {st := 2, diag := [6,7], statOct := 4})]}}),
        (oP), ({wa := 33}),
        (((({wi {} with prog := {(wi {}).prog with pkg := some pst, stations := [(33, {st := 2, diag := [6,7], statOct := 4})]}})
        : State).plan (BitVec.toNat (({wa := 33}) : SvcArgs).wa)).get (by decide +kernel)), ?_⟩,
    ⟨(ln {} 1 0), (oP), ({wa := 3, wb := 0, d := [0xABCD1234, 0]}), ?_⟩,
    ⟨(ln {} 0 1), (oP), ({wa := 3, wb := 0, d := [0xABCD1234, 0]}), ?_⟩,
    ⟨(ln {queue := List.replicate 32 {}}), (oP), ({wa := 3, wb := 0, d := [0xABCD1234, 0]}), ?_⟩,
    ⟨(ln {queue := List.replicate 31 {}} 1 1 .stop), (oP), ({wa := 3, wb := 0, d := [0xABCD1234, 0]}), ?_⟩,
    ⟨(ln {queue := List.replicate 31 {}}), (oP), ({wa := 3, wb := 0, d := [0xABCD1234, 0]}), ?_⟩,
    ⟨(ln {queue := List.replicate 31 {}}), (oP), ({wa := 3, wb := 0, d := [0xABCD1234, 0]}), ?_⟩,
    ⟨(awaitsP (ln {queue := [{by_ := oP}, {}]})), ({by_ := oP}), ([{}]), ?_⟩,
    ⟨(awaitsP (ln {queue := [{by_ := oP, query := true}, {}]})), ({by_ := oP, query := true}), ([{}]), ?_⟩,
    ⟨(awaitsP (ln {queue := [{by_ := oP, twice := true}, {}]})), ({by_ := oP, twice := true}), ([{}]), ?_⟩,
    ⟨(awaitsP (ln {queue := [{by_ := oP, tries := 1}, {}]})), ({by_ := oP, tries := 1}), ([{}]), ?_⟩,
    ⟨(awaitsP (ln {queue := [{by_ := oP, tries := 3}, {}]})), ({by_ := oP, tries := 3}), ([{}]), ?_⟩,
    ⟨(ln {stopArc := true}), ?_⟩,
    ⟨(ln {stopArc := true} 1 0), ?_⟩,
    ⟨(ln {stopArc := true}), (4), ?_⟩,
    ⟨(awaitsP (ln {queue := [{by_ := oP}], stopArc := true})), (3), ?_⟩,
    ⟨(ln {} 0), (3), ?_⟩,
    ⟨(ln {} 0), (3), ?_⟩⟩
  all_goals
    repeat' first
      | (unfold HxmMsg.sentAs; rfl)
      | decide +kernel
      | exact mayWrite_engine
      | (apply mayWrite_of; decide +kernel)
      | (apply canCall_program; decide +kernel)
      | (apply canCall_host <;> decide +kernel)
      | (apply canIssue_of; decide +kernel)
      | (apply hasNext_of; decide +kernel)
      | apply runsOn_of
      | (apply ownElem_of; decide +kernel)
      | (apply awaits_program; decide +kernel)
      | (apply awaits_host; decide +kernel)
      | (apply unheld_of; decide +kernel)
      | (apply hasSlot_of; decide +kernel)
      | (apply askedBy_of; decide +kernel)
      | (apply canAsk_of <;> decide +kernel)
      | (apply hears_of (c := 12) <;> decide +kernel)
      | (apply not_hears_of; decide +kernel)
      | (apply memOk_of; decide +kernel)
      | (apply all_below; decide +kernel)
      | (intro _ h; cases h; done)
      | (intro _ _ h; cases h; done)
      | (apply dmaMay_of; decide +kernel)
      | (apply dmaMay_all; decide +kernel)
      | (apply exists_some; decide +kernel)
      | (apply all_some; decide +kernel)
      | apply And.intro
      | exact rfl
      | (intro _ h; exact absurd (show Origin.quiet = _ from h) (by decide +kernel))

end Sys2Proof.Tests.Ports
end

