-- ==== Sys2Proof/Tests/WitnessProgram.lean ====
section
/-! SUPPORT. Witnesses: for each statement, states and operands that meet the hypotheses of its clauses together. -/

namespace Sys2Proof.Tests.Program
open Sys2Proof Sys2Proof.Machine Sys2Proof.Tests
set_option Elab.async false
set_option linter.unusedTactic false
set_option linter.unreachableTactic false

def s0 : State := ((live .run).put F.PLX_CHG_OWNER 3).put F.SYS_BOOT_TIME_WAIT 7
def sv : State := {live .run with keys := keyed, prog := {pkg := some pk1}}

theorem wit_ResetKeepsOnlyWhatIsRetained :
  (∃ (c : Instr), c = Instr.reset ∨ c = Instr.thermalShutdown) ∧
  (∃ (s : State) (t0 : Nat), s.stp.curatorAt = some t0 ∧ s.past (t0 + 100000000) = true ∧ s.beatCore = false) ∧
  (∃ (s : State), s.live = true ∧ s.mode = Mode.recovery ∧ s.upd.resetDue = true) ∧
  (∃ (s : State) (l : Life), s.keys.fuse = some l ∧ s.phase ≠ Phase.reset) := by
  refine ⟨⟨.reset, ?_⟩,
    ⟨({ s0 with stp := {curatorAt := some 5}, frame := {start := 200000000, c0 := {running := false}, c1 := {running := false}}}), 5, ?_⟩,
    ⟨({live .recovery with upd := {resetDue := true}}), ?_⟩,
    ⟨({s0 with keys := {fuse := some .returned}}), .returned, ?_⟩⟩
  all_goals
    repeat' first
      | (unfold HxmMsg.sentAs; rfl)
      | decide +kernel
      | exact mayWrite_engine
      | (apply mayWrite_of; decide +kernel)
      | (apply canCall_program; decide +kernel)
      | (apply canCall_host <;> decide +kernel)
      | (apply canIssue_of; decide +kernel)
      | (apply hasNext_of; decide +kernel)
      | apply runsOn_of
      | (apply ownElem_of; decide +kernel)
      | (apply awaits_program; decide +kernel)
      | (apply awaits_host; decide +kernel)
      | (apply unheld_of; decide +kernel)
      | (apply hasSlot_of; decide +kernel)
      | (apply askedBy_of; decide +kernel)
      | (apply canAsk_of <;> decide +kernel)
      | (apply hears_of (c := 12) <;> decide +kernel)
      | (apply not_hears_of; decide +kernel)
      | (apply memOk_of; decide +kernel)
      | (apply all_below; decide +kernel)
      | (intro _ h; cases h; done)
      | (intro _ _ h; cases h; done)
      | (apply dmaMay_of; decide +kernel)
      | (apply dmaMay_all; decide +kernel)
      | (apply exists_some; decide +kernel)
      | (apply all_some; decide +kernel)
      | apply And.intro
      | exact rfl
      | (intro _ h; exact absurd (show Origin.quiet = _ from h) (by decide +kernel))

theorem wit_StartUpReachesItsNextPhase :
  (∃ (s : State), s.phase = Phase.reset) ∧
  (∃ (s : State), s.phase = Phase.waitAlign ∧ s.past (s.frame.phaseAt + s.get F.SYS_BOOT_TIME_WAIT * 1000000000) = true ∧ s.get
      F.SPL_CFG_PAIR = 0) ∧
  (∃ (s : State), s.phase = Phase.waitAlign ∧ s.past (s.frame.phaseAt + s.get F.SYS_BOOT_TIME_WAIT * 1000000000) = true ∧ s.get
      F.SPL_CFG_PAIR ≠ 0 ∧ (s.keys.life = Life.provisioned ∨ s.keys.life = Life.deployed)) ∧
  (∃ (s : State), s.phase = Phase.waitAlign ∧ s.past (s.frame.phaseAt + s.get F.SYS_BOOT_TIME_WAIT * 1000000000) = true ∧ s.get
      F.SPL_CFG_PAIR ≠ 0 ∧ s.keys.life ≠ Life.provisioned ∧ s.keys.life ≠ Life.deployed) ∧
  (∃ (s : State), s.phase = Phase.resolve ∧ s.past (s.frame.phaseAt + s.get F.SPL_CFG_RESOLVE * 100000000 * (1 + s.get
      F.SPL_CFG_UNIT)) = true) := by
  refine ⟨⟨({}), ?_⟩,
    ⟨({phase := .waitAlign, frame := {start := 0x10000000000000}}), ?_⟩,
    ⟨(({phase := .waitAlign, frame := {start := 0x10000000000000}, keys := keyed} : State).put F.SPL_CFG_PAIR 1), ?_⟩,
    ⟨(({phase := .waitAlign, frame := {start := 0x10000000000000}} : State).put F.SPL_CFG_PAIR 1), ?_⟩,
    ⟨({phase := .resolve, frame := {start := 0x10000000000000}}), ?_⟩⟩
  all_goals
    repeat' first
      | (unfold HxmMsg.sentAs; rfl)
      | decide +kernel
      | exact mayWrite_engine
      | (apply mayWrite_of; decide +kernel)
      | (apply canCall_program; decide +kernel)
      | (apply canCall_host <;> decide +kernel)
      | (apply canIssue_of; decide +kernel)
      | (apply hasNext_of; decide +kernel)
      | apply runsOn_of
      | (apply ownElem_of; decide +kernel)
      | (apply awaits_program; decide +kernel)
      | (apply awaits_host; decide +kernel)
      | (apply unheld_of; decide +kernel)
      | (apply hasSlot_of; decide +kernel)
      | (apply askedBy_of; decide +kernel)
      | (apply canAsk_of <;> decide +kernel)
      | (apply hears_of (c := 12) <;> decide +kernel)
      | (apply not_hears_of; decide +kernel)
      | (apply memOk_of; decide +kernel)
      | (apply all_below; decide +kernel)
      | (intro _ h; cases h; done)
      | (intro _ _ h; cases h; done)
      | (apply dmaMay_of; decide +kernel)
      | (apply dmaMay_all; decide +kernel)
      | (apply exists_some; decide +kernel)
      | (apply all_some; decide +kernel)
      | apply And.intro
      | exact rfl
      | (intro _ h; exact absurd (show Origin.quiet = _ from h) (by decide +kernel))

theorem wit_BoundariesAndPowerEvents :
  (∃ (s : State), s.framesOn = false ∧ s.phase ≠ Phase.reset ∧ (¬(s.keys.life = Life.scrapped ∧ s.phase = Phase.waitAlign))) ∧
  (∃ (s : State), s.keys.life = Life.scrapped ∧ s.phase = Phase.waitAlign) ∧
  (∃ (s : State), s.phase = Phase.shutdown ∧ s.frame.restartAfter = false) ∧
  (∃ (s : State), s.phase = Phase.shutdown ∧ s.frame.restartAfter = true) ∧
  (∃ (s : State), s.live = true ∧ s.mode ≠ Mode.recovery) ∧
  (∃ (s : State), s.phase = Phase.running ∧ s.mode = Mode.recovery) ∧
  (∃ (s : State), s.phase = Phase.shutdown) ∧
  (∃ (s : State), s.phase ≠ Phase.reset) ∧
  (∃ (s : State), s.phase = Phase.shutdown ∧ s.framesOn = true) := by
  refine ⟨⟨(live .recovery), ?_⟩,
    ⟨({live .stop with phase := .waitAlign, keys := {life := .scrapped}}), ?_⟩,
    ⟨({live .run with phase := .shutdown}), ?_⟩,
    ⟨({live .run with phase := .shutdown, frame := {restartAfter := true}}), ?_⟩,
    ⟨(live .run), ?_⟩,
    ⟨(live .recovery), ?_⟩,
    ⟨({live .run with phase := .shutdown}), ?_⟩,
    ⟨(live .recovery), ?_⟩,
    ⟨({live .run with phase := .shutdown}), ?_⟩⟩
  all_goals
    repeat' first
      | (unfold HxmMsg.sentAs; rfl)
      | decide +kernel
      | exact mayWrite_engine
      | (apply mayWrite_of; decide +kernel)
      | (apply canCall_program; decide +kernel)
      | (apply canCall_host <;> decide +kernel)
      | (apply canIssue_of; decide +kernel)
      | (apply hasNext_of; decide +kernel)
      | apply runsOn_of
      | (apply ownElem_of; decide +kernel)
      | (apply awaits_program; decide +kernel)
      | (apply awaits_host; decide +kernel)
      | (apply unheld_of; decide +kernel)
      | (apply hasSlot_of; decide +kernel)
      | (apply askedBy_of; decide +kernel)
      | (apply canAsk_of <;> decide +kernel)
      | (apply hears_of (c := 12) <;> decide +kernel)
      | (apply not_hears_of; decide +kernel)
      | (apply memOk_of; decide +kernel)
      | (apply all_below; decide +kernel)
      | (intro _ h; cases h; done)
      | (intro _ _ h; cases h; done)
      | (apply dmaMay_of; decide +kernel)
      | (apply dmaMay_all; decide +kernel)
      | (apply exists_some; decide +kernel)
      | (apply all_some; decide +kernel)
      | apply And.intro
      | exact rfl
      | (intro _ h; exact absurd (show Origin.quiet = _ from h) (by decide +kernel))

theorem wit_FaultsAreCountedAndHandled :
  (∃ (s : State) (c : Nat) (e : Nat), (s.live = true ∨ s.phase = Phase.shutdown) ∧ s.frame.transitional = false ∧ c < 9 ∧
      s.classFaults c = true ∧ e < 32) ∧
  (∃ (s : State) (k : Nat), k < 2 ∧ s.phase ≠ Phase.dead ∧ s.phase ≠ Phase.halted ∧ s.mode ≠ Mode.recovery ∧ s.mode ≠ Mode.basic
      ∧ (s.core k).running = true) ∧
  (∃ (s : State) (k : Nat), k < 2 ∧ (s.core k).running = false ∧ (k = 0 ∨ s.upd.kind ≠ 1 ∨ s.upd.stage ≠ 2)) ∧
  (∃ (s : State) (k : Nat), k < 2 ∧ (s.core k).running = false ∧ (k = 0 ∨ s.upd.kind ≠ 1 ∨ s.upd.stage ≠ 2) ∧ s.past ((s.core
      k).faultAt + 1500000000) = true) := by
  refine ⟨⟨(live .run), 0, 31, ?_⟩,
    ⟨(live .run), 0, ?_⟩,
    ⟨({live .run with frame := {c1 := {running := false}}, gal := {masked := [1]}}), 1, ?_⟩,
    ⟨({live .run with frame := {start := 2000000000, c1 := {running := false}}, gal := {masked := [1]}}), 1, ?_⟩⟩
  all_goals
    repeat' first
      | (unfold HxmMsg.sentAs; rfl)
      | decide +kernel
      | exact mayWrite_engine
      | (apply mayWrite_of; decide +kernel)
      | (apply canCall_program; decide +kernel)
      | (apply canCall_host <;> decide +kernel)
      | (apply canIssue_of; decide +kernel)
      | (apply hasNext_of; decide +kernel)
      | apply runsOn_of
      | (apply ownElem_of; decide +kernel)
      | (apply awaits_program; decide +kernel)
      | (apply awaits_host; decide +kernel)
      | (apply unheld_of; decide +kernel)
      | (apply hasSlot_of; decide +kernel)
      | (apply askedBy_of; decide +kernel)
      | (apply canAsk_of <;> decide +kernel)
      | (apply hears_of (c := 12) <;> decide +kernel)
      | (apply not_hears_of; decide +kernel)
      | (apply memOk_of; decide +kernel)
      | (apply all_below; decide +kernel)
      | (intro _ h; cases h; done)
      | (intro _ _ h; cases h; done)
      | (apply dmaMay_of; decide +kernel)
      | (apply dmaMay_all; decide +kernel)
      | (apply exists_some; decide +kernel)
      | (apply all_some; decide +kernel)
      | apply And.intro
      | exact rfl
      | (intro _ h; exact absurd (show Origin.quiet = _ from h) (by decide +kernel))

theorem wit_ModeCommandsWaitForTheirBoundary :
  (∃ (s : State) (who : Requester) (c : Instr) (code : Nat) (confirm : Nat) (ev : ModeEv), (c, code, ev) ∈ [(Instr.start who, 1,
      ModeEv.start), (Instr.stop who, 2, ModeEv.stop), (Instr.halt who, 3, ModeEv.halt), (Instr.resume who, 4, ModeEv.resume),
      (Instr.enterBasic who, 5, ModeEv.enterBasic), (Instr.leaveBasic who, 6, ModeEv.leaveBasic), (Instr.recover who confirm, 7,
      ModeEv.recover), (Instr.restart who confirm, 8, ModeEv.shutdown false), (Instr.shutdown who confirm, 9, ModeEv.shutdown
      true)] ∧ (if code = 3 ∨ code = 4 then s.debugOk who = true else 2 ≤ s.roleOf who) ∧ (7 ≤ code → confirm = 23294) ∧ s.live =
      true ∧ s.lifeAllows ev = true ∧ s.modeAllows ev = true ∧ (code = 1 → s.prog.pkg.isSome = true ∧ (s.get F.FRM_STAT_ALIGNED ≠
      0 ∨ s.get F.SYS_BOOT_RUN_UNALIGNED ≠ 0)) ∧ (code = 6 → s.get F.SYS_MODE_CAUSE ∉ [3, 4, 7] ∧ s.coresRun = true)) ∧
  (∃ (s : State) (who : Requester) (c : Instr) (confirm : Nat), c ∈ [Instr.start who, Instr.stop who, Instr.enterBasic who,
      Instr.leaveBasic who, Instr.recover who confirm, Instr.restart who confirm, Instr.shutdown who confirm] ∧ s.roleOf who < 2)
      ∧
  (∃ (s : State) (who : Requester) (c : Instr) (code : Nat) (confirm : Nat) (st : Nat) (ev : ModeEv), (c, code, ev) ∈
      [(Instr.start who, 1, ModeEv.start), (Instr.stop who, 2, ModeEv.stop), (Instr.halt who, 3, ModeEv.halt), (Instr.resume who,
      4, ModeEv.resume), (Instr.enterBasic who, 5, ModeEv.enterBasic), (Instr.leaveBasic who, 6, ModeEv.leaveBasic),
      (Instr.recover who confirm, 7, ModeEv.recover), (Instr.restart who confirm, 8, ModeEv.shutdown false), (Instr.shutdown who
      confirm, 9, ModeEv.shutdown true)] ∧ (if code = 3 ∨ code = 4 then s.debugOk who = true else 2 ≤ s.roleOf who) ∧ (7 ≤ code ∧
      confirm ≠ 23294 ∧ st = St.confirm ∨ (7 ≤ code → confirm = 23294) ∧ (s.lifeAllows ev = false ∧ st = St.lifecycle ∨
      s.lifeAllows ev = true ∧ (s.live = false ∨ s.modeAllows ev = false) ∧ st = St.mode ∨ s.lifeAllows ev = true ∧ s.live = true
      ∧ s.modeAllows ev = true ∧ code = 1 ∧ s.prog.pkg = none ∧ st = St.noProgram))) ∧
  (∃ (s : State), s.live = true ∧ s.mode ≠ Mode.recovery) := by
  refine ⟨⟨({sv with mode := .stop}.put F.SYS_BOOT_RUN_UNALIGNED 1), (.engine 0), (.start (.engine 0)), 1, 0, .start, ?_⟩,
    ⟨(sv), (.session 9), (.start (.session 9)), 0, ?_⟩,
    ⟨(sv), (.session 3), (.shutdown (.session 3) 1), 9, 1, St.confirm, (.shutdown true), ?_⟩,
    ⟨(sv), ?_⟩⟩
  all_goals
    repeat' first
      | (unfold HxmMsg.sentAs; rfl)
      | decide +kernel
      | exact mayWrite_engine
      | (apply mayWrite_of; decide +kernel)
      | (apply canCall_program; decide +kernel)
      | (apply canCall_host <;> decide +kernel)
      | (apply canIssue_of; decide +kernel)
      | (apply hasNext_of; decide +kernel)
      | apply runsOn_of
      | (apply ownElem_of; decide +kernel)
      | (apply awaits_program; decide +kernel)
      | (apply awaits_host; decide +kernel)
      | (apply unheld_of; decide +kernel)
      | (apply hasSlot_of; decide +kernel)
      | (apply askedBy_of; decide +kernel)
      | (apply canAsk_of <;> decide +kernel)
      | (apply hears_of (c := 12) <;> decide +kernel)
      | (apply not_hears_of; decide +kernel)
      | (apply memOk_of; decide +kernel)
      | (apply all_below; decide +kernel)
      | (intro _ h; cases h; done)
      | (intro _ _ h; cases h; done)
      | (apply dmaMay_of; decide +kernel)
      | (apply dmaMay_all; decide +kernel)
      | (apply exists_some; decide +kernel)
      | (apply all_some; decide +kernel)
      | apply And.intro
      | exact rfl
      | (intro _ h; exact absurd (show Origin.quiet = _ from h) (by decide +kernel))

theorem wit_CyclesEndHaltAndSave :
  (∃ (s : State), s.live = true ∧ s.mode = Mode.run ∧ s.prog.begun = true ∧ s.prog.hit = none ∧ s.prog.deadlinePast = false ∧
      s.prog.deferred = false ∧ s.frame.transitional = false ∧ (s.num + 1) % s.cycLen = 0 ∧ s.allEnded = true) ∧
  (∃ (s : State), s.live = true ∧ s.mode = Mode.run ∧ s.prog.begun = true ∧ s.prog.hit = none ∧ s.prog.deadlinePast = false ∧
      s.prog.deferred = false ∧ s.frame.transitional = false ∧ (s.num + 1) % s.cycLen = 0 ∧ s.allEnded = false) ∧
  (∃ (s : State), s.live = true ∧ s.mode = Mode.run ∧ s.prog.begun = true ∧ s.prog.hit = none ∧ s.prog.deadlinePast = false ∧
      s.prog.deferred = false ∧ s.frame.transitional = true ∧ s.allEnded = false) ∧
  (∃ (s : State) (k : Nat) (b : Nat), s.live = true ∧ s.mode = Mode.run ∧ s.prog.begun = true ∧ s.prog.hit = none ∧ k < 4 ∧ b < 8
      ∧ (s.sect k).st = SectSt.executing ∧ (s.sect k).ended = false ∧ (s.sect k).passBrk = false ∧ s.get (F.PLX_BRK_EN.at2 k b) ≠
      0 ∧ s.get (F.PLX_BRK_ADDR.at2 k b) = (s.sect k).pc) ∧
  (∃ (s : State) (who : Requester), s.debugOk who = true ∧ s.live = true ∧ s.mode = Mode.hold ∧ s.prog.begun = true ∧ s.hasSect
      (s.get F.PLX_DBG_SECT) = true ∧ (s.sect (s.get F.PLX_DBG_SECT)).ended = false ∧ s.get F.PLX_DBG_SECT < s.prog.sects.length
      ∧ (s.code (s.get F.PLX_DBG_SECT))[(s.sect (s.get F.PLX_DBG_SECT)).pc]? = some (opWord 27 2 0) ∧ s.hasNext (s.get
      F.PLX_DBG_SECT)) ∧
  (∃ (s : State) (who : Requester), s.debugOk who = true ∧ s.live = true ∧ s.mode = Mode.hold ∧ s.prog.begun = true ∧ s.hasSect
      (s.get F.PLX_DBG_SECT) = true ∧ (s.sect (s.get F.PLX_DBG_SECT)).ended = true) ∧
  (∃ (s : State), s.prog.saveDue = true) := by
  refine ⟨⟨(inRun pk1 {ended := true}), ?_⟩,
    ⟨(inRun pk1 {}), ?_⟩,
    ⟨({ inRun pk1 {} with frame := {transitional := true}}), ?_⟩,
    ⟨(((inRun pk1 {pc := 1}).put (F.PLX_BRK_EN.at2 1 7) 1).put (F.PLX_BRK_ADDR.at2 1 7) 1), 1, 7, ?_⟩,
    ⟨((inHold pk1 {wa := 3, wb := 4}).put F.PLX_DBG_SECT 1), (.session 9), ?_⟩,
    ⟨((inHold pk1 {ended := true}).put F.PLX_DBG_SECT 1), (.session 9), ?_⟩,
    ⟨({live .run with prog := {saveDue := true, saveWords := [(3, 4)], cycles := 9}}), ?_⟩⟩
  all_goals
    repeat' first
      | (unfold HxmMsg.sentAs; rfl)
      | decide +kernel
      | exact mayWrite_engine
      | (apply mayWrite_of; decide +kernel)
      | (apply canCall_program; decide +kernel)
      | (apply canCall_host <;> decide +kernel)
      | (apply canIssue_of; decide +kernel)
      | (apply hasNext_of; decide +kernel)
      | apply runsOn_of
      | (apply ownElem_of; decide +kernel)
      | (apply awaits_program; decide +kernel)
      | (apply awaits_host; decide +kernel)
      | (apply unheld_of; decide +kernel)
      | (apply hasSlot_of; decide +kernel)
      | (apply askedBy_of; decide +kernel)
      | (apply canAsk_of <;> decide +kernel)
      | (apply hears_of (c := 12) <;> decide +kernel)
      | (apply not_hears_of; decide +kernel)
      | (apply memOk_of; decide +kernel)
      | (apply all_below; decide +kernel)
      | (intro _ h; cases h; done)
      | (intro _ _ h; cases h; done)
      | (apply dmaMay_of; decide +kernel)
      | (apply dmaMay_all; decide +kernel)
      | (apply exists_some; decide +kernel)
      | (apply all_some; decide +kernel)
      | apply And.intro
      | exact rfl
      | (intro _ h; exact absurd (show Origin.quiet = _ from h) (by decide +kernel))

theorem wit_PackagesLoadAndStationsAreServed :
  (∃ (s : State) (p : Package) (c : Nat) (q : Nat), s.prog.loaded = some p ∧ s.get F.PLX_CHG_STATE = Chg.loading ∧ s.prog.loadBy
      = Origin.host c q ∧ s.pkgOk p = true ∧ s.planOk p = true ∧ s.watchdogsOk p = true ∧ s.prog.pkg.isSome = true ∧ s.awaits
      (Origin.host c q)) ∧
  (∃ (s : State) (p : Package), s.prog.loaded = some p ∧ s.get F.PLX_CHG_STATE = Chg.loading ∧ s.pkgOk p = true ∧ s.planOk p =
      true ∧ s.watchdogsOk p = true ∧ s.prog.pkg = none) ∧
  (∃ (s : State) (p : Package) (c : Nat) (q : Nat) (st : Nat), s.prog.loaded = some p ∧ s.get F.PLX_CHG_STATE = Chg.loading ∧
      s.prog.loadBy = Origin.host c q ∧ (s.pkgOk p = false ∧ st = St.bankInvalid ∨ s.pkgOk p = true ∧ (s.planOk p = false ∨
      s.watchdogsOk p = false) ∧ st = St.badArg) ∧ s.awaits (Origin.host c q)) ∧
  (∃ (s : State) (p : Package), s.prog.pkg = some p ∧ s.live = true ∧ (s.mode = Mode.run ∨ s.mode = Mode.stop ∨ s.mode =
      Mode.hold) ∧ ((s.num + 1) % s.cycLen = 0 ∨ s.frame.realign.isSome = true) ∧ s.wired.exchanged = false) := by
  refine ⟨⟨({live .run with keys := keyed, prog := {pkg := some pk1, loaded := some pst, loadBy := .host 3 2}}.put
      F.PLX_CHG_STATE Chg.loading), pst, 3, 2, ?_⟩,
    ⟨({live .run with keys := keyed, prog := {loaded := some pst, loadBy := .host 3 2}}.put F.PLX_CHG_STATE Chg.loading), pst,
        ?_⟩,
    ⟨({live .run with prog := {loaded := some pst, loadBy := .host 3 2}}.put F.PLX_CHG_STATE Chg.loading), pst, 3, 2,
        St.bankInvalid, ?_⟩,
    ⟨(inRun pst {}), pst, ?_⟩⟩
  all_goals
    repeat' first
      | (unfold HxmMsg.sentAs; rfl)
      | decide +kernel
      | exact mayWrite_engine
      | (apply mayWrite_of; decide +kernel)
      | (apply canCall_program; decide +kernel)
      | (apply canCall_host <;> decide +kernel)
      | (apply canIssue_of; decide +kernel)
      | (apply hasNext_of; decide +kernel)
      | apply runsOn_of
      | (apply ownElem_of; decide +kernel)
      | (apply awaits_program; decide +kernel)
      | (apply awaits_host; decide +kernel)
      | (apply unheld_of; decide +kernel)
      | (apply hasSlot_of; decide +kernel)
      | (apply askedBy_of; decide +kernel)
      | (apply canAsk_of <;> decide +kernel)
      | (apply hears_of (c := 12) <;> decide +kernel)
      | (apply not_hears_of; decide +kernel)
      | (apply memOk_of; decide +kernel)
      | (apply all_below; decide +kernel)
      | (intro _ h; cases h; done)
      | (intro _ _ h; cases h; done)
      | (apply dmaMay_of; decide +kernel)
      | (apply dmaMay_all; decide +kernel)
      | (apply exists_some; decide +kernel)
      | (apply all_some; decide +kernel)
      | apply And.intro
      | exact rfl
      | (intro _ h; exact absurd (show Origin.quiet = _ from h) (by decide +kernel))

end Sys2Proof.Tests.Program
end

