-- ==== Sys2Proof/Tests/WitnessRovers.lean ====
section
/-! SUPPORT. Witnesses: for each statement, states and operands that meet the hypotheses of its clauses together. -/

namespace Sys2Proof.Tests.Rovers
open Sys2Proof Sys2Proof.Machine Sys2Proof.Tests
set_option Elab.async false
set_option linter.unusedTactic false
set_option linter.unreachableTactic false

def ps (n : Nat) (p : RovPos) (c : SMap ChanObs := []) (cut : Nat := 0) (m : Mode := .run) : State := ((calls
    ((({ live m with frame := {num := n, start := 10000000 * n}, pos := { chans := c, rovers := [(6, p)], cutAt := cut } }).setSession 12 {typ := 1, peer := 6, state := 2, role := 0}).put (F.GNS_RV_CFG_STATION.at 6) 77)).put (F.GNS_RV_CFG_EN.at 6) 1).put F.FRM_STAT_ALIGNED 1
def cx : RovPos := {ctx := some 12, curEpoch := 1000, filter := 3}
def fs (v : RovFleet) (tasks : SMap Task := []) (m : Mode := .run) (n : Nat := 1000) : State :=
  let s := ps n cx [] 0 m
  { s with fleet := { rovers := [(6, v)], tasks := tasks, knots := [(0, ⟨[6, 9], 4⟩)], graph := { segments := [(3, {ja := 0, jb := 1, len := 5000, cor := some 4})] } } }
def tk : Task := {prio := 4, auto_ := false, cls := 255, dest := 7, action := 3, rover := 6, queuedAt := 1}
def gcfg (s : State) : State := (((s.put F.FLT_TMO_RESEND 5).put F.FLT_TMO_STATUS_TMO 5).put F.FLT_TMO_TASK_TMO 5).put
    F.FLT_CFG_KEEP 5

theorem wit_PositioningFollowsItsEpochs :
  (∃ (s : State) (c : ChanObs), s.receiverOn = true ∧ s.issued 1000000 s.pos.tick = true ∧ c.ch < 96 ∧ s.tickMissed 6 (c.ch / 48)
      = false) ∧
  (∃ (s : State) (c : ChanObs), s.receiverOn = true ∧ s.issued 1000000 s.pos.tick = true ∧ c.ch < 96 ∧ s.tickMissed 6 (c.ch / 48)
      = true) ∧
  (∃ (s : State), s.receiverOn = false ∨ s.issued 1000000 s.pos.tick = false) ∧
  (∃ (s : State) (r : Nat) (q : Nat) (m : RtcmMsg), r < 64 ∧ s.hears r q ∧ s.mode ≠ Mode.basic ∧ s.mode ≠ Mode.recovery ∧
      s.keys.zeroised = false ∧ (m.preamble ≠ 211 ∨ m.reserved ≠ 0 ∨ m.crcOk = false ∨ m.lenOk = false)) ∧
  (∃ (s : State) (r : Nat) (q : Nat) (m : RtcmMsg), r < 64 ∧ s.hears r q ∧ s.mode ≠ Mode.basic ∧ s.mode ≠ Mode.recovery ∧
      s.keys.zeroised = false ∧ m.preamble = 211 ∧ m.reserved = 0 ∧ m.crcOk = true ∧ m.lenOk = true ∧ m.typ ≠ 1077 ∧ m.typ ≠ 1097
      ∧ m.typ ≠ 1117 ∧ m.typ ≠ 1127) ∧
  (∃ (s : State) (r : Nat) (q : Nat) (m : RtcmMsg), r < 64 ∧ s.hears r q ∧ s.mode ≠ Mode.basic ∧ s.mode ≠ Mode.recovery ∧
      s.keys.zeroised = false ∧ m.preamble = 211 ∧ m.reserved = 0 ∧ m.crcOk = true ∧ m.lenOk = true ∧ (m.typ = 1077 ∨ m.typ =
      1097 ∨ m.typ = 1117 ∨ m.typ = 1127) ∧ (m.station ≠ s.get (F.GNS_RV_CFG_STATION.at r) ∨ s.obsEpoch m % 100 ≠ 0 ∨ ↑s.curEpoch
      * 10 < s.obsEpoch m)) ∧
  (∃ (s : State) (r : Nat) (q : Nat) (m : RtcmMsg), r < 64 ∧ s.hears r q ∧ s.mode ≠ Mode.basic ∧ s.mode ≠ Mode.recovery ∧
      s.keys.zeroised = false ∧ m.preamble = 211 ∧ m.reserved = 0 ∧ m.crcOk = true ∧ m.lenOk = true ∧ (m.typ = 1077 ∨ m.typ =
      1097 ∨ m.typ = 1117 ∨ m.typ = 1127) ∧ m.station = s.get (F.GNS_RV_CFG_STATION.at r) ∧ s.obsEpoch m % 100 = 0 ∧ (s.obsEpoch
      m < ↑s.curEpoch * 10 ∨ s.obsEpoch m = ↑s.curEpoch * 10 ∧ (s.rovPos r).closed = true)) ∧
  (∃ (s : State) (r : Nat) (q : Nat) (m : RtcmMsg), r < 64 ∧ s.hears r q ∧ s.mode ≠ Mode.basic ∧ s.mode ≠ Mode.recovery ∧
      s.keys.zeroised = false ∧ m.preamble = 211 ∧ m.reserved = 0 ∧ m.crcOk = true ∧ m.lenOk = true ∧ (m.typ = 1077 ∨ m.typ =
      1097 ∨ m.typ = 1117 ∨ m.typ = 1127) ∧ m.station = s.get (F.GNS_RV_CFG_STATION.at r) ∧ s.obsEpoch m % 100 = 0 ∧ s.obsEpoch m
      = ↑s.curEpoch * 10 ∧ (s.rovPos r).closed = false) ∧
  (∃ (s : State) (r : Nat) (e : ObsEnv), r < 64 ∧ s.live = true ∧ s.mode ≠ Mode.basic ∧ s.mode ≠ Mode.recovery ∧ s.keys.zeroised
      = false ∧ (e.bad = true ∨ e.msgs = [] ∨ 8 < e.msgs.length)) ∧
  (∃ (s : State), s.receiverOn = true ∧ s.pos.cutAt ≠ s.curEpoch + 1 ∧ s.get F.GNS_RTK_CUTOFF * 1000000 ≤ s.num % 10 * 10000000 +
      10000000) ∧
  (∃ (s : State), s.receiverOn = false ∨ s.pos.cutAt = s.curEpoch + 1 ∨ s.num % 10 * 10000000 + 10000000 < s.get F.GNS_RTK_CUTOFF
      * 1000000) ∧
  (∃ (s : State) (r : Nat), r < 64 ∧ s.epochCounts = true ∧ (s.rovPos r).closed = true ∧ (s.rovPos r).accepted = true ∧ s.num %
      10 < 8) ∧
  (∃ (s : State) (r : Nat), r < 64 ∧ (s.epochCounts = false ∨ (s.rovPos r).closed = false ∨ (s.rovPos r).accepted = false ∨ 8 ≤
      s.num % 10)) ∧
  (∃ (s : State) (who : Requester), s.mayWrite who ∧ s.mode ≠ Mode.stop) ∧
  (∃ (s : State) (who : Requester) (w : Word), s.mayWrite who ∧ s.mode = Mode.stop ∧ (bits (BitVec.toNat w) 31 30 = 3 ∨ bits
      (BitVec.toNat w) 15 0 < 10 ∨ 1440 < bits (BitVec.toNat w) 15 0)) ∧
  (∃ (s : State) (who : Requester) (w : Word), s.mayWrite who ∧ s.mode = Mode.stop ∧ bits (BitVec.toNat w) 31 30 = 0 ∧ 10 ≤ bits
      (BitVec.toNat w) 15 0 ∧ bits (BitVec.toNat w) 15 0 ≤ 1440) ∧
  (∃ (s : State) (who : Requester) (w : Word), s.mayWrite who ∧ s.mode = Mode.stop ∧ (bits (BitVec.toNat w) 31 30 = 1 ∨ bits
      (BitVec.toNat w) 31 30 = 2) ∧ 10 ≤ bits (BitVec.toNat w) 15 0 ∧ bits (BitVec.toNat w) 15 0 ≤ 1440 ∧ bit (BitVec.toNat w) 29
      = false) ∧
  (∃ (s : State) (who : Requester) (w : Word), s.mayWrite who ∧ s.mode = Mode.stop ∧ bits (BitVec.toNat w) 31 30 = 1 ∧ 10 ≤ bits
      (BitVec.toNat w) 15 0 ∧ bits (BitVec.toNat w) 15 0 ≤ 1440 ∧ bit (BitVec.toNat w) 29 = true ∧ s.refImplausible = true) ∧
  (∃ (s : State) (who : Requester) (w : Word), s.mayWrite who ∧ s.mode = Mode.stop ∧ bits (BitVec.toNat w) 31 30 = 1 ∧ 10 ≤ bits
      (BitVec.toNat w) 15 0 ∧ bits (BitVec.toNat w) 15 0 ≤ 1440 ∧ bit (BitVec.toNat w) 29 = true ∧ s.refImplausible = false) ∧
  (∃ (s : State) (who : Requester) (w : Word), s.mayWrite who ∧ s.mode = Mode.stop ∧ bits (BitVec.toNat w) 31 30 = 2 ∧ 10 ≤ bits
      (BitVec.toNat w) 15 0 ∧ bits (BitVec.toNat w) 15 0 ≤ 1440 ∧ bit (BitVec.toNat w) 29 = true) ∧
  (∃ (s : State), s.get F.GNS_REF_STAT_STATE = 1 ∧ s.pos.surveyN ≠ 0 ∧ s.pos.surveyFrom + s.get F.GNS_REF_CFG_SURVEY_MIN *
      60000000000 ≤ s.mono ∧ 9 * s.pos.surveyEpochs ≤ 10 * s.pos.surveyN) ∧
  (∃ (s : State), s.get F.GNS_REF_STAT_STATE ≠ 1 ∨ s.mono < s.pos.surveyFrom + s.get F.GNS_REF_CFG_SURVEY_MIN * 60000000000 ∨ 10
      * s.pos.surveyN < 9 * s.pos.surveyEpochs) ∧
  (∃ (s : State) (cert : Nat), ∀ r < 64, s.get (F.GNS_RV_CFG_EN.at r) ≠ 0 → s.get (F.GNS_RV_CFG_CERT.at r) ≠ cert) ∧
  (∃ (s : State) (slot : Nat) (r : Nat) (n : Nat), (s.openSession { typ := 1, peer := r, slot := slot }).2 = some n ∧ r < 64 ∧
      s.get (F.GNS_RV_CFG_EN.at r) ≠ 0 ∧ (∀ q < r, s.get (F.GNS_RV_CFG_EN.at q) ≠ 0 → s.get (F.GNS_RV_CFG_CERT.at q) ≠ s.get
      (F.GNS_RV_CFG_CERT.at r)) ∧ s.framesOn = true ∧ s.phase = Phase.running ∧ s.role ≠ Role.follower ∧ s.keys.zeroised = false
      ∧ (s.rovPos r).ctx = none) ∧
  (∃ (s : State) (who : Requester), s.mayWrite who) ∧
  (∃ (s : State) (o : Origin) (a : SvcArgs), s.canCall o 720897 ∧ 64 ≤ BitVec.toNat a.wa) ∧
  (∃ (s : State) (o : Origin) (a : SvcArgs), s.canCall o 720897 ∧ BitVec.toNat a.wa < 64) := by
  refine ⟨⟨({ (ps 1000 cx) with pos := {(ps 1000 cx).pos with chans := []} }),
      ({ch := 95, sat := 300, stA := 4, stB := 3, cn0A := 300, cn0B := 7}), ?_⟩,
    ⟨({ps 1000 cx with frame := {num := 1000, start := 10000000000, missed := [tickLate 6 1]}}),
        ({ch := 95, sat := 300, stA := 4, stB := 3, cn0A := 1, cn0B := 7}), ?_⟩,
    ⟨({ps 1000 cx with phase := .reset}), ?_⟩,
    ⟨(ps 1007 cx), (6), (0), ({typ := 1077, station := 77, tow := 345591000, more := false, preamble := 0}), ?_⟩,
    ⟨(ps 1007 cx), (6), (0), ({typ := 1005, station := 77, tow := 345591000, more := false}), ?_⟩,
    ⟨(ps 1007 cx), (6), (0), ({typ := 1077, station := 78, tow := 345591000, more := false}), ?_⟩,
    ⟨(ps 1007 cx), (6), (0), ({typ := 1077, station := 77, tow := 345590900, more := false}), ?_⟩,
    ⟨(ps 1007 cx), (6), (0), ({typ := 1077, station := 77, tow := 345591000, more := true, cells := [⟨260, 1, 40, true⟩]}), ?_⟩,
    ⟨(ps 1007 cx), (6), ({seq := 0, msgs := []}), ?_⟩,
    ⟨(ps 1007
        {cx with accepted := true, obs := [{typ := 1077, station := 77, tow := 0, more := true, cells := [⟨260, 1, 40, true⟩]}]}
        [(3, {ch := 3, sat := 301, stA := 4, stB := 5, cn0A := 40, cn0B := 7})]), ?_⟩,
    ⟨(ps 1007 cx [] 1001), ?_⟩,
    ⟨(let s := ((ps 1007 {cx with closed := true, accepted := true}).put F.GNS_STAT_RX 2);
        {s with pos := {s.pos with epochAt := some 1000}}), (6), ?_⟩,
    ⟨(((ps 1008 {cx with closed := true, accepted := true}).put F.GNS_STAT_RX 2)), (6), ?_⟩,
    ⟨(ps 1007 cx), (.session 3), ?_⟩,
    ⟨((ps 1007 cx [] 0 .stop)), (.session 3), (BitVec.ofNat 32 3758096444), ?_⟩,
    ⟨(ps 1000 cx [] 0 .stop), (.session 9), (BitVec.ofNat 32 10), ?_⟩,
    ⟨(ps 1000 cx [] 0 .stop), (.session 9), (BitVec.ofNat 32 (2^30 + 10)), ?_⟩,
    ⟨((ps 1007 cx [] 0 .stop)), (.session 3), (BitVec.ofNat 32 1610612796), ?_⟩,
    ⟨(((((ps 1007 cx [] 0 .stop)).putRef (4000000000, 3000000000, 3940000000)))), (.session 3), (BitVec.ofNat 32 1610612746), ?_⟩,
    ⟨((ps 1007 cx [] 0 .stop)), (.session 3), (BitVec.ofNat 32 2684354570), ?_⟩,
    ⟨(let s := ((({ps 1007 cx with pos := {rovers := [(6, cx)], surveyFrom := 4, surveyN := 10, surveyEpochs := 10, surveySum := (50, 20, -7), surveySq := 900}}).put F.GNS_REF_STAT_STATE 1).put F.GNS_REF_CFG_SURVEY_MIN 0); s), ?_⟩,
    ⟨(ps 1007 cx), ?_⟩,
    ⟨(ps 1007 cx), (55), ?_⟩,
    ⟨((ps 1007 {filter := 3}).put (F.GNS_RV_CFG_CERT.at 6) 55), (4), (6), (0), ?_⟩,
    ⟨(ps 1007 cx), (.session 9), ?_⟩,
    ⟨(ps 1007 cx), (oP), ({wa := 64}), ?_⟩,
    ⟨(ps 1007 cx), (oP), ({wa := 63}), ?_⟩⟩
  all_goals
    repeat' first
      | (unfold HxmMsg.sentAs; rfl)
      | decide +kernel
      | exact mayWrite_engine
      | (apply mayWrite_of; decide +kernel)
      | (apply canCall_program; decide +kernel)
      | (apply canCall_host <;> decide +kernel)
      | (apply canIssue_of; decide +kernel)
      | (apply hasNext_of; decide +kernel)
      | apply runsOn_of
      | (apply ownElem_of; decide +kernel)
      | (apply awaits_program; decide +kernel)
      | (apply awaits_host; decide +kernel)
      | (apply unheld_of; decide +kernel)
      | (apply hasSlot_of; decide +kernel)
      | (apply askedBy_of; decide +kernel)
      | (apply canAsk_of <;> decide +kernel)
      | (apply hears_of (c := 12) <;> decide +kernel)
      | (apply not_hears_of; decide +kernel)
      | (apply memOk_of; decide +kernel)
      | (apply all_below; decide +kernel)
      | (intro _ h; cases h; done)
      | (intro _ _ h; cases h; done)
      | (apply dmaMay_of; decide +kernel)
      | (apply dmaMay_all; decide +kernel)
      | (apply exists_some; decide +kernel)
      | (apply all_some; decide +kernel)
      | apply And.intro
      | exact rfl
      | (intro _ h; exact absurd (show Origin.quiet = _ from h) (by decide +kernel))

theorem wit_RoversAndTheirTasksAreKept :
  (∃ (s : State) (r : Nat) (q : Nat), s.hears r q ∧ s.fleetOn = true) ∧
  (∃ (s : State) (q : Nat) (k : Nat) (x : Machine.Task), s.task k = some x ∧ s.hears x.rover q ∧ s.fleetOn = true ∧ x.st = 2) ∧
  (∃ (s : State) (q : Nat) (k : Nat) (x : Machine.Task), s.task k = some x ∧ s.hears x.rover q ∧ s.fleetOn = true ∧ x.st = 3) ∧
  (∃ (s : State) (r : Nat) (q : Nat) (k : Nat), s.hears r q ∧ s.fleetOn = true ∧ (∀ (x : Machine.Task), s.task k = some x →
      x.rover ≠ r ∨ x.st ≠ 2 ∧ x.st ≠ 3)) ∧
  (∃ (s : State) (r : Nat) (q : Nat) (m : RovMsg), (List.find? (fun x => decide (x.seq = m.seq)) (s.rover r).unacked = some m) ∧
      s.hears r q ∧ s.fleetOn = true) ∧
  (∃ (s : State) (r : Nat) (q : Nat), ¬s.hears r q) ∧
  (∃ (s : State) (r : Nat) (m : RovMsg), (List.find? (fun x => decide (x.seq = m.seq)) (s.rover r).unacked = some m) ∧ s.fleetOn
      = true ∧ s.rovOpen r = true ∧ s.past (m.at_ + s.get F.FLT_TMO_RESEND * 10000000) = true) ∧
  (∃ (s : State) (r : Nat) (m : RovMsg), (List.find? (fun x => decide (x.seq = m.seq)) (s.rover r).unacked = some m) ∧ s.fleetOn
      = true ∧ s.rovOpen r = true ∧ s.past (m.at_ + s.get F.FLT_TMO_RESEND * 10000000) = false) ∧
  (∃ (s : State) (r : Nat), s.fleetOn = true ∧ (s.rover r).st.isSome = true ∧ (s.rover r).lost = false ∧ s.past ((s.rover r).stAt
      + s.get F.FLT_TMO_STATUS_TMO * 100000000) = true) ∧
  (∃ (s : State) (r : Nat), s.fleetOn = true ∧ (s.rover r).st.isSome = true ∧ (s.rover r).lost = false ∧ s.past ((s.rover r).stAt
      + s.get F.FLT_TMO_STATUS_TMO * 100000000) = false) ∧
  (∃ (s : State) (k : Nat) (x : Machine.Task), s.task k = some x ∧ s.fleetOn = true ∧ x.st = 2 ∧ s.past (x.offeredAt + s.get
      F.FLT_TMO_TASK_TMO * 100000000) = true) ∧
  (∃ (s : State) (k : Nat) (x : Machine.Task), s.task k = some x ∧ x.st ≠ 2) ∧
  (∃ (s : State) (k : Nat) (x : Machine.Task), s.task k = some x ∧ x.st ≤ 3 ∧ x.deadline ≠ 0 ∧ s.past (x.queuedAt + x.deadline *
      1000000000) = true) ∧
  (∃ (s : State) (k : Nat) (x : Machine.Task), s.task k = some x ∧ (4 ≤ x.st ∨ x.deadline = 0)) ∧
  (∃ (s : State) (k : Nat) (x : Machine.Task), s.task k = some x ∧ 4 ≤ x.st ∧ s.past (x.finalAt + s.get F.FLT_CFG_KEEP *
      100000000) = true) ∧
  (∃ (s : State) (k : Nat) (x : Machine.Task), s.task k = some x ∧ x.st < 4) ∧
  (∃ (s : State) (r : Nat), (s.rover r).backoffSegs ≠ [] ∧ s.past (s.rover r).backoffEnd = true) ∧
  (∃ (s : State) (r : Nat), (s.rover r).backoffSegs ≠ [] ∧ s.past (s.rover r).backoffEnd = false) ∧
  (∃ (s : State) (who : Requester), s.mayWrite who) ∧
  (∃ (s : State) (who : Requester) (confirm : Nat), s.mayWrite who ∧ confirm ≠ 23294) ∧
  (∃ (s : State) (who : Requester) (r : Nat), s.mayWrite who ∧ (s.rover r).lost = false) ∧
  (∃ (s : State) (who : Requester) (r : Nat), s.mayWrite who ∧ (s.rover r).lost = true) := by
  refine ⟨⟨(fs {arrived := [{front := 3, rear := 4}], lost := true, routeReq := some (4, 9)} [] .run), (6), (0), ?_⟩,
    ⟨(awaitsP (fs {arrived := [{front := 3, rear := 4}], lost := true, routeReq := some (4, 9)} [(8,
        {tk with st := 2, assignBy := none, cancelBy := none, deadline := 9}), (9, {tk with rover := 5, st := 2})] .run)), (0),
        (8), ((((awaitsP (fs {arrived := [{front := 3, rear := 4}], lost := true, routeReq := some (4, 9)} [(8,
        {tk with st := 2, assignBy := none, cancelBy := none, deadline := 9}), (9, {tk with rover := 5, st := 2})] .run)) :
        State).task ((8) : Nat)).get (by decide +kernel)), ?_⟩,
    ⟨(awaitsP (fs {arrived := [{front := 3, rear := 4}], lost := true, routeReq := some (4, 9)} [(8,
        {tk with st := 3, assignBy := none, cancelBy := none, deadline := 9}), (9, {tk with rover := 5, st := 2})] .run)), (0),
        (8), ((((awaitsP (fs {arrived := [{front := 3, rear := 4}], lost := true, routeReq := some (4, 9)} [(8,
        {tk with st := 3, assignBy := none, cancelBy := none, deadline := 9}), (9, {tk with rover := 5, st := 2})] .run)) :
        State).task ((8) : Nat)).get (by decide +kernel)), ?_⟩,
    ⟨(awaitsP (fs {arrived := [{front := 3, rear := 4}], lost := true, routeReq := some (4, 9)} [(8,
        {tk with st := 3, assignBy := none, cancelBy := none, deadline := 9}), (9, {tk with rover := 5, st := 2})] .run)), (6),
        (0), (9), ?_⟩,
    ⟨(awaitsP (fs {unacked := [⟨4, 3, [], 0⟩, ⟨5, Msg.taskCancel, [8, 0, 0], 5⟩, ⟨6, 3, [], 0⟩]} [(8,
        {tk with st := 3, cancelBy := none})] .run)), (6), (0), (⟨5, Msg.taskCancel, [8, 0, 0], 5⟩), ?_⟩,
    ⟨({fs {} with phase := .shutdown}), (6), (0), ?_⟩,
    ⟨(gcfg (fs
        {unacked := [⟨4, 3, [], 0⟩, ⟨5, 9, [8, 0, 0], 5⟩, ⟨6, 3, [], 0⟩], st := some {front := 3, rear := 4}, stAt := 5, backoffSegs := [3], backoffEnd := 5, causes := 0xFFFF, resv := [⟨3, true⟩]})), (6), (⟨5, 9, [8, 0, 0], 5⟩), ?_⟩,
    ⟨(gcfg (fs
        {unacked := [⟨4, 3, [], 0⟩, ⟨5, 9, [8, 0, 0], 2^50⟩, ⟨6, 3, [], 0⟩], st := some {front := 3, rear := 4}, stAt := 2^50, backoffSegs := [3], backoffEnd := 2^50, causes := 0xFFFF, resv := [⟨3, true⟩]})), (6), (⟨5, 9, [8, 0, 0], 2^50⟩), ?_⟩,
    ⟨(gcfg (fs
        {unacked := [⟨4, 3, [], 0⟩, ⟨5, 9, [8, 0, 0], 5⟩, ⟨6, 3, [], 0⟩], st := some {front := 3, rear := 4}, stAt := 5, backoffSegs := [3], backoffEnd := 5, causes := 0xFFFF, resv := [⟨3, true⟩]})), (6), ?_⟩,
    ⟨(gcfg (fs
        {unacked := [⟨4, 3, [], 0⟩, ⟨5, 9, [8, 0, 0], 2^50⟩, ⟨6, 3, [], 0⟩], st := some {front := 3, rear := 4}, stAt := 2^50, backoffSegs := [3], backoffEnd := 2^50, causes := 0xFFFF, resv := [⟨3, true⟩]})), (6), ?_⟩,
    ⟨(gcfg (awaitsP (fs {} [(8, {tk with st := 2, assignBy := none, cancelBy := none, deadline := 3}), (9,
        {tk with rover := 5, st := 2})] .run))), (8), ((((gcfg (awaitsP (fs {} [(8,
        {tk with st := 2, assignBy := none, cancelBy := none, deadline := 3}), (9, {tk with rover := 5, st := 2})] .run))) :
        State).task ((8) : Nat)).get (by decide +kernel)), ?_⟩,
    ⟨(gcfg (awaitsP (fs {} [(8, {tk with st := 1, assignBy := none, cancelBy := none, deadline := 0}), (9,
        {tk with rover := 5, st := 2})] .run))), (8), ((((gcfg (awaitsP (fs {} [(8,
        {tk with st := 1, assignBy := none, cancelBy := none, deadline := 0}), (9, {tk with rover := 5, st := 2})] .run))) :
        State).task ((8) : Nat)).get (by decide +kernel)), ?_⟩,
    ⟨(gcfg (awaitsP (fs {} [(8, {tk with st := 1, assignBy := none, cancelBy := none, deadline := 3}), (9,
        {tk with rover := 5, st := 2})] .run))), (8), ((((gcfg (awaitsP (fs {} [(8,
        {tk with st := 1, assignBy := none, cancelBy := none, deadline := 3}), (9, {tk with rover := 5, st := 2})] .run))) :
        State).task ((8) : Nat)).get (by decide +kernel)), ?_⟩,
    ⟨(gcfg (awaitsP (fs {} [(8, {tk with st := 4, assignBy := none, cancelBy := none, deadline := 3}), (9,
        {tk with rover := 5, st := 2})] .run))), (8), ((((gcfg (awaitsP (fs {} [(8,
        {tk with st := 4, assignBy := none, cancelBy := none, deadline := 3}), (9, {tk with rover := 5, st := 2})] .run))) :
        State).task ((8) : Nat)).get (by decide +kernel)), ?_⟩,
    ⟨(gcfg (awaitsP (fs {} [(8, {tk with st := 4, assignBy := none, cancelBy := none, deadline := 3}), (9,
        {tk with rover := 5, st := 2})] .run))), (8), ((((gcfg (awaitsP (fs {} [(8,
        {tk with st := 4, assignBy := none, cancelBy := none, deadline := 3}), (9, {tk with rover := 5, st := 2})] .run))) :
        State).task ((8) : Nat)).get (by decide +kernel)), ?_⟩,
    ⟨(gcfg (awaitsP (fs {} [(8, {tk with st := 1, assignBy := none, cancelBy := none, deadline := 3}), (9,
        {tk with rover := 5, st := 2})] .run))), (8), ((((gcfg (awaitsP (fs {} [(8,
        {tk with st := 1, assignBy := none, cancelBy := none, deadline := 3}), (9, {tk with rover := 5, st := 2})] .run))) :
        State).task ((8) : Nat)).get (by decide +kernel)), ?_⟩,
    ⟨(gcfg (fs
        {unacked := [⟨4, 3, [], 0⟩, ⟨5, 9, [8, 0, 0], 5⟩, ⟨6, 3, [], 0⟩], st := some {front := 3, rear := 4}, stAt := 5, backoffSegs := [3], backoffEnd := 5, causes := 0xFFFF, resv := [⟨3, true⟩]})), (6), ?_⟩,
    ⟨(gcfg (fs
        {unacked := [⟨4, 3, [], 0⟩, ⟨5, 9, [8, 0, 0], 2^50⟩, ⟨6, 3, [], 0⟩], st := some {front := 3, rear := 4}, stAt := 2^50, backoffSegs := [3], backoffEnd := 2^50, causes := 0xFFFF, resv := [⟨3, true⟩]})), (6), ?_⟩,
    ⟨(gcfg (fs
        {unacked := [⟨4, 3, [], 0⟩, ⟨5, 9, [8, 0, 0], 5⟩, ⟨6, 3, [], 0⟩], st := some {front := 3, rear := 4}, stAt := 5, backoffSegs := [3], backoffEnd := 5, causes := 0xFFFF, resv := [⟨3, true⟩]})), (.session 9), ?_⟩,
    ⟨(gcfg (fs
        {unacked := [⟨4, 3, [], 0⟩, ⟨5, 9, [8, 0, 0], 5⟩, ⟨6, 3, [], 0⟩], st := some {front := 3, rear := 4}, stAt := 5, backoffSegs := [3], backoffEnd := 5, causes := 0xFFFF, resv := [⟨3, true⟩]})), (.session 9), (4), ?_⟩,
    ⟨(gcfg (fs
        {unacked := [⟨4, 3, [], 0⟩, ⟨5, 9, [8, 0, 0], 5⟩, ⟨6, 3, [], 0⟩], st := some {front := 3, rear := 4}, stAt := 5, backoffSegs := [3], backoffEnd := 5, causes := 0xFFFF, resv := [⟨3, true⟩]})), (.session 9), (6), ?_⟩,
    ⟨(fs {lost := true, resv := [⟨3, true⟩], st := some {front := 3, rear := 4}, revs := [⟨3, 4⟩]}), (.session 9), (6), ?_⟩⟩
  all_goals
    repeat' first
      | (unfold HxmMsg.sentAs; rfl)
      | decide +kernel
      | exact mayWrite_engine
      | (apply mayWrite_of; decide +kernel)
      | (apply canCall_program; decide +kernel)
      | (apply canCall_host <;> decide +kernel)
      | (apply canIssue_of; decide +kernel)
      | (apply hasNext_of; decide +kernel)
      | apply runsOn_of
      | (apply ownElem_of; decide +kernel)
      | (apply awaits_program; decide +kernel)
      | (apply awaits_host; decide +kernel)
      | (apply unheld_of; decide +kernel)
      | (apply hasSlot_of; decide +kernel)
      | (apply askedBy_of; decide +kernel)
      | (apply canAsk_of <;> decide +kernel)
      | (apply hears_of (c := 12) <;> decide +kernel)
      | (apply not_hears_of; decide +kernel)
      | (apply memOk_of; decide +kernel)
      | (apply all_below; decide +kernel)
      | (intro _ h; cases h; done)
      | (intro _ _ h; cases h; done)
      | (apply dmaMay_of; decide +kernel)
      | (apply dmaMay_all; decide +kernel)
      | (apply exists_some; decide +kernel)
      | (apply all_some; decide +kernel)
      | apply And.intro
      | exact rfl
      | (intro _ h; exact absurd (show Origin.quiet = _ from h) (by decide +kernel))

theorem wit_FleetCallsWaitForTheirFrame :
  (∃ (s : State) (o : Origin) (a : SvcArgs), s.canCall o 786433 ∧ List.length s.fleet.tasks < 1024 ∧ bits (BitVec.toNat (a.d.getD
      0 0)) 14 11 = 0 ∧ (∀ k < 5, BitVec.toNat (a.d.getD (11 + k) 0) = 0)) ∧
  (∃ (s : State) (o : Origin), s.canCall o 786433 ∧ 1024 ≤ List.length s.fleet.tasks) ∧
  (∃ (s : State) (o : Origin) (a : SvcArgs) (x : Machine.Task), s.task (BitVec.toNat a.wa) = some x ∧ s.canCall o 786434 ∧ 4 ≤
      x.st) ∧
  (∃ (s : State) (o : Origin) (a : SvcArgs) (x : Machine.Task), s.task (BitVec.toNat a.wa) = some x ∧ s.canCall o 786434 ∧ x.st =
      1 ∧ BitVec.toNat a.wb = 255) ∧
  (∃ (s : State) (o : Origin) (a : SvcArgs) (x : Machine.Task), s.task (BitVec.toNat a.wa) = some x ∧ s.canCall o 786434 ∧ x.st =
      1 ∧ BitVec.toNat a.wb < 64 ∧ s.roverFree x (BitVec.toNat a.wb) = true) ∧
  (∃ (s : State) (o : Origin) (a : SvcArgs) (x : Machine.Task), s.task (BitVec.toNat a.wa) = some x ∧ s.canCall o 786434 ∧ x.st =
      1 ∧ BitVec.toNat a.wb < 64 ∧ s.roverFree x (BitVec.toNat a.wb) = false) ∧
  (∃ (s : State) (o : Origin) (a : SvcArgs) (x : Machine.Task), s.task (BitVec.toNat a.wa) = some x ∧ s.canCall o 786435 ∧ 4 ≤
      x.st) ∧
  (∃ (s : State) (o : Origin) (a : SvcArgs) (x : Machine.Task), s.task (BitVec.toNat a.wa) = some x ∧ s.canCall o 786435 ∧ x.st =
      3 ∧ x.cancelBy = none) ∧
  (∃ (s : State) (o : Origin) (a : SvcArgs) (x : Machine.Task), s.task (BitVec.toNat a.wa) = some x ∧ s.canCall o 786435 ∧ (x.st
      = 1 ∨ x.st = 2)) ∧
  (∃ (s : State) (o : Origin) (a : SvcArgs), (BitVec.toNat a.wa < 64 ∨ BitVec.toNat a.wa = 255) ∧ s.canCall o 786436) ∧
  (∃ (s : State) (o : Origin) (a : SvcArgs), (BitVec.toNat a.wa < 64 ∨ BitVec.toNat a.wa = 255) ∧ s.canCall o 786437) ∧
  (∃ (s : State) (o : Origin) (a : SvcArgs), s.canCall o 786438 ∧ s.fleet.knots.get? (BitVec.toNat a.wa) = none) ∧
  (∃ (s : State) (o : Origin) (a : SvcArgs) (x : Knot), s.fleet.knots.get? (BitVec.toNat a.wa) = some x ∧ s.canCall o 786438 ∧
      BitVec.toNat a.wb ∉ x.members) ∧
  (∃ (s : State) (o : Origin) (a : SvcArgs) (x : Knot), s.fleet.knots.get? (BitVec.toNat a.wa) = some x ∧ s.canCall o 786438 ∧
      BitVec.toNat a.wb ∈ x.members) ∧
  (∃ (s : State) (o : Origin) (a : SvcArgs), s.corridor (BitVec.toNat a.wa) = [] ∧ s.canCall o 786439) ∧
  (∃ (s : State) (o : Origin) (a : SvcArgs), s.corridor (BitVec.toNat a.wa) = [] ∧ s.canCall o 786440) ∧
  (∃ (s : State) (o : Origin) (a : SvcArgs), s.corridor (BitVec.toNat a.wa) ≠ [] ∧ s.canCall o 786439) ∧
  (∃ (s : State) (o : Origin) (a : SvcArgs), s.corridor (BitVec.toNat a.wa) ≠ [] ∧ s.canCall o 786440) := by
  refine ⟨⟨(((fs {} [(0, tk), (1, tk), (8, {tk with st := 2, cancelBy := none})]).put (F.FLT_RV_CFG_CLASS.at 6) 3)), (oP),
      ({d := [BitVec.ofNat 32 0x0A800407, 3, 4, 5]}), ?_⟩,
    ⟨(fs {} ((List.range 1024).map fun i => (i, tk))), (oP), ?_⟩,
    ⟨(((fs {} [(0, tk), (1, tk), (8, {tk with st := 4, cancelBy := none})]).put (F.FLT_RV_CFG_CLASS.at 6) 3)), (oP),
        ({wa := 8, wb := 6}), ((((((fs {} [(0, tk), (1, tk), (8, {tk with st := 4, cancelBy := none})]).put
        (F.FLT_RV_CFG_CLASS.at 6) 3)) : State).task (BitVec.toNat (({wa := 8, wb := 6}) : SvcArgs).wa)).get (by decide +kernel)),
        ?_⟩,
    ⟨(((fs {} [(0, tk), (1, tk), (8, {tk with st := 1, cancelBy := none})]).put (F.FLT_RV_CFG_CLASS.at 6) 3)), (oP),
        ({wa := 8, wb := 255}), ((((((fs {} [(0, tk), (1, tk), (8, {tk with st := 1, cancelBy := none})]).put
        (F.FLT_RV_CFG_CLASS.at 6) 3)) : State).task (BitVec.toNat (({wa := 8, wb := 255}) : SvcArgs).wa)).get (by
        decide +kernel)), ?_⟩,
    ⟨(((fs {} [(8, tk)]).put (F.FLT_RV_CFG_CLASS.at 6) 3)), (oP), ({wa := 8, wb := 6}), ((((((fs {} [(8, tk)]).put
        (F.FLT_RV_CFG_CLASS.at 6) 3)) : State).task (BitVec.toNat (({wa := 8, wb := 6}) : SvcArgs).wa)).get (by decide +kernel)),
        ?_⟩,
    ⟨(((fs {} [(0, tk), (1, tk), (8, {tk with st := 1, cancelBy := none})]).put (F.FLT_RV_CFG_CLASS.at 6) 3)), (oP),
        ({wa := 8, wb := 5}), ((((((fs {} [(0, tk), (1, tk), (8, {tk with st := 1, cancelBy := none})]).put
        (F.FLT_RV_CFG_CLASS.at 6) 3)) : State).task (BitVec.toNat (({wa := 8, wb := 5}) : SvcArgs).wa)).get (by decide +kernel)),
        ?_⟩,
    ⟨(((fs {} [(0, tk), (1, tk), (8, {tk with st := 4, cancelBy := none})]).put (F.FLT_RV_CFG_CLASS.at 6) 3)), (oP),
        ({wa := 8, wb := 6}), ((((((fs {} [(0, tk), (1, tk), (8, {tk with st := 4, cancelBy := none})]).put
        (F.FLT_RV_CFG_CLASS.at 6) 3)) : State).task (BitVec.toNat (({wa := 8, wb := 6}) : SvcArgs).wa)).get (by decide +kernel)),
        ?_⟩,
    ⟨(((fs {} [(0, tk), (1, tk), (8, {tk with st := 3, cancelBy := none})]).put (F.FLT_RV_CFG_CLASS.at 6) 3)), (oP),
        ({wa := 8, wb := 6}), ((((((fs {} [(0, tk), (1, tk), (8, {tk with st := 3, cancelBy := none})]).put
        (F.FLT_RV_CFG_CLASS.at 6) 3)) : State).task (BitVec.toNat (({wa := 8, wb := 6}) : SvcArgs).wa)).get (by decide +kernel)),
        ?_⟩,
    ⟨(((fs {} [(0, tk), (1, tk), (8, {tk with st := 1, cancelBy := none})]).put (F.FLT_RV_CFG_CLASS.at 6) 3)), (oP), ({wa := 8}),
        ((((((fs {} [(0, tk), (1, tk), (8, {tk with st := 1, cancelBy := none})]).put (F.FLT_RV_CFG_CLASS.at 6) 3)) : State).task
        (BitVec.toNat (({wa := 8}) : SvcArgs).wa)).get (by decide +kernel)), ?_⟩,
    ⟨(((fs {} []).put (F.FLT_RV_CFG_CLASS.at 6) 3)), (oP), ({wa := 6}), ?_⟩,
    ⟨(((fs {} []).put (F.FLT_RV_CFG_CLASS.at 6) 3)), (oP), ({wa := 6}), ?_⟩,
    ⟨(fs {}), (oP), ({wa := 1, wb := 6}), ?_⟩,
    ⟨(fs {}), (oP), ({wa := 0, wb := 7}), ((((fs {}) : State).fleet.knots.get? (BitVec.toNat (({wa := 0, wb := 7}) :
        SvcArgs).wa)).get (by decide +kernel)), ?_⟩,
    ⟨(fs {}), (oP), ({wa := 0, wb := 9}), ((((fs {}) : State).fleet.knots.get? (BitVec.toNat (({wa := 0, wb := 9}) :
        SvcArgs).wa)).get (by decide +kernel)), ?_⟩,
    ⟨(fs {}), (oP), ({wa := 3}), ?_⟩,
    ⟨(fs {}), (oP), ({wa := 3}), ?_⟩,
    ⟨(fs {}), (oP), ({wa := 4}), ?_⟩,
    ⟨(fs {}), (oP), ({wa := 4}), ?_⟩⟩
  all_goals
    repeat' first
      | (unfold HxmMsg.sentAs; rfl)
      | decide +kernel
      | exact mayWrite_engine
      | (apply mayWrite_of; decide +kernel)
      | (apply canCall_program; decide +kernel)
      | (apply canCall_host <;> decide +kernel)
      | (apply canIssue_of; decide +kernel)
      | (apply hasNext_of; decide +kernel)
      | apply runsOn_of
      | (apply ownElem_of; decide +kernel)
      | (apply awaits_program; decide +kernel)
      | (apply awaits_host; decide +kernel)
      | (apply unheld_of; decide +kernel)
      | (apply hasSlot_of; decide +kernel)
      | (apply askedBy_of; decide +kernel)
      | (apply canAsk_of <;> decide +kernel)
      | (apply hears_of (c := 12) <;> decide +kernel)
      | (apply not_hears_of; decide +kernel)
      | (apply memOk_of; decide +kernel)
      | (apply all_below; decide +kernel)
      | (intro _ h; cases h; done)
      | (intro _ _ h; cases h; done)
      | (apply dmaMay_of; decide +kernel)
      | (apply dmaMay_all; decide +kernel)
      | (apply exists_some; decide +kernel)
      | (apply all_some; decide +kernel)
      | apply And.intro
      | exact rfl
      | (intro _ h; exact absurd (show Origin.quiet = _ from h) (by decide +kernel))

end Sys2Proof.Tests.Rovers
end

