-- ==== Sys2Proof/Tests/WitnessStop.lean ====
section
/-! SUPPORT. Witnesses: for each statement, states and operands that meet the hypotheses of its clauses together. -/

namespace Sys2Proof.Tests.Stop
open Sys2Proof Sys2Proof.Machine Sys2Proof.Tests
set_option Elab.async false
set_option linter.unusedTactic false
set_option linter.unreachableTactic false

def b0 (m : Mode := .run) : State := calls ({ live m with keys := {rows := [{}], life := .provisioned} })
def fl (s : State) (l : List (Fld × Nat)) : State := l.foldl (fun (s : State) p => s.put p.1 p.2) s
def b1 (m : Mode := .run) : State := fl (b0 m) [(F.STP_STAT_IN_A, 1), (F.STP_STAT_IN_B, 1), (F.STP_STAT_OUT_A, 1),
    (F.STP_STAT_OUT_B, 1), (F.STP_STAT_DECLARED, 0)]

theorem wit_StopIsDeclaredByItsCauses :
  (∃ (s : State) (b : Bool), (if (if b = true then s.stp.filtB else s.stp.filtA).1 = false then min 16 ((if b = true then
      s.stp.filtB else s.stp.filtA).2 + 1) else 1) = s.get F.STP_CFG_FILT ∨ (s.get F.STP_CFG_FILT < if (if b = true then
      s.stp.filtB else s.stp.filtA).1 = false then min 16 ((if b = true then s.stp.filtB else s.stp.filtA).2 + 1) else 1) ∧ s.get
      (if b = true then F.STP_STAT_IN_B else F.STP_STAT_IN_A) ≠ 0) ∧
  (∃ (s : State) (b : Bool), (if (if b = true then s.stp.filtB else s.stp.filtA).1 = true then min 16 ((if b = true then
      s.stp.filtB else s.stp.filtA).2 + 1) else 1) = s.get F.STP_CFG_FILT ∨ (s.get F.STP_CFG_FILT < if (if b = true then
      s.stp.filtB else s.stp.filtA).1 = true then min 16 ((if b = true then s.stp.filtB else s.stp.filtA).2 + 1) else 1) ∧ s.get
      (if b = true then F.STP_STAT_IN_B else F.STP_STAT_IN_A) = 0) ∧
  (∃ (s : State) (b : Bool) (x : Bool), (if (if b = true then s.stp.filtB else s.stp.filtA).1 = x then min 16 ((if b = true then
      s.stp.filtB else s.stp.filtA).2 + 1) else 1) < s.get F.STP_CFG_FILT) ∧
  (∃ (s : State) (a : Nat), s.stp.differSince = some a ∧ s.past (a + s.get F.STP_CFG_DISC * 10000000) = true) ∧
  (∃ (s : State) (a : Nat), s.stp.differSince = some a ∧ s.past (a + s.get F.STP_CFG_DISC * 10000000) = false) ∧
  (∃ (s : State), s.stp.differSince = none) ∧
  (∃ (s : State) (b : Bool) (level : Bool), level ≠ s.declared ∧ (s.get (if b = true then F.STP_STAT_OUT_A else F.STP_STAT_OUT_B)
      = b2n !s.declared)) ∧
  (∃ (s : State), s.get F.STP_CFG_OTEST ≠ 0 ∧ s.get F.STP_STAT_DECLARED = 0) ∧
  (∃ (s : State) (b : Bool), s.get F.STP_CFG_OTEST = 0 ∨ s.get F.STP_STAT_DECLARED ≠ 0 ∨ b ≠ s.stp.testNextB) ∧
  (∃ (s : State), s.get F.STP_CFG_MBX_MISS ≤ s.stp.missed ∧ bit (s.get F.STP_CAUSE_ACTIVE) 4 = false) ∧
  (∃ (s : State), s.stp.missed < s.get F.STP_CFG_MBX_MISS ∨ bit (s.get F.STP_CAUSE_ACTIVE) 4 = true) ∧
  (∃ (s : State), s.y0Reads = true ∧ s.stp.seen ≠ some s.stp.mbx.num) ∧
  (∃ (s : State), s.y0Reads = true) ∧
  (∃ (s : State), s.awake 23 = true ∧ s.y0Reads = false) ∧
  (∃ (s : State), s.awake 23 = false) ∧
  (∃ (s : State), bit (s.get F.STP_CAUSE_ACTIVE) 4 = true ∧ s.mute = false) ∧
  (∃ (s : State), bit (s.get F.STP_CAUSE_ACTIVE) 4 = false ∨ s.mute = true) ∧
  (∃ (s : State) (o : Origin), s.canCall o 851969) := by
  refine ⟨⟨(let s := (b0); {s with stp := {s.stp with filtB := (false, s.get F.STP_CFG_FILT - 1)}}), true, ?_⟩,
    ⟨(let s := (b0); {s with stp := {s.stp with filtB := (true, s.get F.STP_CFG_FILT - 1)}}), true, ?_⟩,
    ⟨(let s := (b0); {s with stp := {s.stp with filtB := (true, 4)}}.put F.STP_CFG_FILT 3), true, false, ?_⟩,
    ⟨(fl {(b0) with stp := {differSince := some 5}} [(F.STP_CFG_DISC, 0)]), (5), ?_⟩,
    ⟨(fl {(b0) with stp := {differSince := some (2^60)}} [(F.STP_CFG_DISC, 2)]), (2^60), ?_⟩,
    ⟨(b0), ?_⟩,
    ⟨(fl (b0) [(F.STP_STAT_DECLARED, 0), (F.STP_STAT_OUT_A, 1 - 0),(F.STP_STAT_OUT_B, 1- 0), (F.STP_CAUSE_ACTIVE, 8)]), (true),
        (true), ?_⟩,
    ⟨(fl {(b0) with stp := {testNextB := true}} [(F.STP_CFG_OTEST, 1), (F.STP_STAT_DECLARED, 0)]), ?_⟩,
    ⟨(fl {(b0) with stp := {testNextB := true}} [(F.STP_CFG_OTEST, 0)]), (true), ?_⟩,
    ⟨(fl {(b0) with stp := {missed := 3}} [(F.STP_CFG_MBX_MISS, 3),(F.STP_CAUSE_ACTIVE, 0)]), ?_⟩,
    ⟨(fl {(b0) with stp := {missed := 2}} [(F.STP_CFG_MBX_MISS, 3),(F.STP_CAUSE_ACTIVE, 0)]), ?_⟩,
    ⟨(fl {(awaitsP (b0)) with stp := {mbx := {num := 6, modeReq := false}, seen := some 5, declBy := []}} [(F.STP_CAUSE_ACTIVE,
        16)]), ?_⟩,
    ⟨(b0), ?_⟩,
    ⟨((b1).put (F.GAL_TKT_TKT3.at2 15 5) 0), ?_⟩,
    ⟨(State.reset), ?_⟩,
    ⟨(fl (b0) [(F.STP_CAUSE_ACTIVE, 16)]), ?_⟩,
    ⟨(fl (b0) [(F.STP_CAUSE_ACTIVE, 0)]), ?_⟩,
    ⟨(b0), (oP), ?_⟩⟩
  all_goals
    repeat' first
      | (unfold HxmMsg.sentAs; rfl)
      | decide +kernel
      | exact mayWrite_engine
      | (apply mayWrite_of; decide +kernel)
      | (apply canCall_program; decide +kernel)
      | (apply canCall_host <;> decide +kernel)
      | (apply canIssue_of; decide +kernel)
      | (apply hasNext_of; decide +kernel)
      | apply runsOn_of
      | (apply ownElem_of; decide +kernel)
      | (apply awaits_program; decide +kernel)
      | (apply awaits_host; decide +kernel)
      | (apply unheld_of; decide +kernel)
      | (apply hasSlot_of; decide +kernel)
      | (apply askedBy_of; decide +kernel)
      | (apply canAsk_of <;> decide +kernel)
      | (apply hears_of (c := 12) <;> decide +kernel)
      | (apply not_hears_of; decide +kernel)
      | (apply memOk_of; decide +kernel)
      | (apply all_below; decide +kernel)
      | (intro _ h; cases h; done)
      | (intro _ _ h; cases h; done)
      | (apply dmaMay_of; decide +kernel)
      | (apply dmaMay_all; decide +kernel)
      | (apply exists_some; decide +kernel)
      | (apply all_some; decide +kernel)
      | apply And.intro
      | exact rfl
      | (intro _ h; exact absurd (show Origin.quiet = _ from h) (by decide +kernel))

theorem wit_StopIsResetByTheHostAlone :
  (∃ (s : State) (who : Requester), 2 ≤ s.roleOf who ∧ s.mayWrite who) ∧
  (∃ (s : State) (who : Requester), s.roleOf who < 2) ∧
  (∃ (s : State) (n : Nat) (c : Nat), 2 ≤ s.roleOf (Requester.session n) ∧ s.mode ≠ Mode.recovery ∧ c ≠ 23294) ∧
  (∃ (s : State) (n : Nat), 2 ≤ s.roleOf (Requester.session n) ∧ s.mode ≠ Mode.recovery ∧ (s.get F.STP_STAT_IN_A = 0 ∨ s.get
      F.STP_STAT_IN_B = 0 ∨ bit (s.get F.STP_CAUSE_ACTIVE) 2 = true)) ∧
  (∃ (s : State) (n : Nat), 2 ≤ s.roleOf (Requester.session n) ∧ s.mode ≠ Mode.recovery ∧ s.get F.STP_STAT_IN_A ≠ 0 ∧ s.get
      F.STP_STAT_IN_B ≠ 0 ∧ bit (s.get F.STP_CAUSE_ACTIVE) 2 = false ∧ (s.get F.STP_CAUSE_ACTIVE ≠ 0 ∨ s.mode = Mode.basic ∨
      s.phase ≠ Phase.running)) ∧
  (∃ (s : State) (n : Nat), 2 ≤ s.roleOf (Requester.session n) ∧ s.mode ≠ Mode.recovery ∧ s.get F.STP_STAT_IN_A ≠ 0 ∧ s.get
      F.STP_STAT_IN_B ≠ 0 ∧ bit (s.get F.STP_CAUSE_ACTIVE) 2 = false ∧ s.get F.STP_CAUSE_ACTIVE = 0 ∧ (s.mode = Mode.stop ∨
      s.mode = Mode.run ∨ s.mode = Mode.hold ∨ s.mode = Mode.shadow) ∧ s.phase = Phase.running) ∧
  (∃ (s : State) (k : Nat), s.stp.newKey = some k ∧ s.num % 10 = 0 ∧ ((∀ r < 64, s.rovOpen r = true → (s.rover r).configAcked =
      true) ∨ s.past (s.stp.newKeyAt + 60000000000) = true)) ∧
  (∃ (s : State), s.stp.newKey = none ∨ s.num % 10 ≠ 0) := by
  refine ⟨⟨(b0), (.engine 3), ?_⟩,
    ⟨(b0), (.session 9), ?_⟩,
    ⟨(b0), (3), (4), ?_⟩,
    ⟨(fl (b0) [(F.STP_STAT_IN_A, 0)]), (3), ?_⟩,
    ⟨(fl (b0) [(F.STP_STAT_IN_A, 1),(F.STP_STAT_IN_B, 1),(F.STP_CAUSE_ACTIVE, 0x8)]), (3), ?_⟩,
    ⟨(fl (b0) [(F.STP_STAT_IN_A, 1),(F.STP_STAT_IN_B, 1),(F.STP_CAUSE_ACTIVE, 0x0), (F.STP_STAT_DECLARED, 1),
        (F.STP_CAUSE_LATCHED, 0xFFF)]), (3), ?_⟩,
    ⟨({(b0) with frame := {num := 10}, stp := {newKey := some 300, newKeyAt := 4}}), (300), ?_⟩,
    ⟨(b0), ?_⟩⟩
  all_goals
    repeat' first
      | (unfold HxmMsg.sentAs; rfl)
      | decide +kernel
      | exact mayWrite_engine
      | (apply mayWrite_of; decide +kernel)
      | (apply canCall_program; decide +kernel)
      | (apply canCall_host <;> decide +kernel)
      | (apply canIssue_of; decide +kernel)
      | (apply hasNext_of; decide +kernel)
      | apply runsOn_of
      | (apply ownElem_of; decide +kernel)
      | (apply awaits_program; decide +kernel)
      | (apply awaits_host; decide +kernel)
      | (apply unheld_of; decide +kernel)
      | (apply hasSlot_of; decide +kernel)
      | (apply askedBy_of; decide +kernel)
      | (apply canAsk_of <;> decide +kernel)
      | (apply hears_of (c := 12) <;> decide +kernel)
      | (apply not_hears_of; decide +kernel)
      | (apply memOk_of; decide +kernel)
      | (apply all_below; decide +kernel)
      | (intro _ h; cases h; done)
      | (intro _ _ h; cases h; done)
      | (apply dmaMay_of; decide +kernel)
      | (apply dmaMay_all; decide +kernel)
      | (apply exists_some; decide +kernel)
      | (apply all_some; decide +kernel)
      | apply And.intro
      | exact rfl
      | (intro _ h; exact absurd (show Origin.quiet = _ from h) (by decide +kernel))

end Sys2Proof.Tests.Stop
end

