-- ==== Sys2Proof/Tests/WitnessTime.lean ====
section
/-! SUPPORT. Witnesses: for each statement, states and operands that meet the hypotheses of its clauses together. -/

namespace Sys2Proof.Tests.Time
open Sys2Proof Sys2Proof.Machine Sys2Proof.Tests
set_option Elab.async false
set_option linter.unusedTactic false
set_option linter.unreachableTactic false

def fl (s : State) (l : List (Fld × Nat)) : State := l.foldl (fun (s : State) p => s.put p.1 p.2) s
def ts (x : TimeSt) (l : List (Fld × Nat) := []) (m : Mode := .run) (n : Nat := 1003) : State := fl (calls
    ({ live m with time := x, frame := {num := n, start := 10000000 * n} })) l
def big (x : TimeSt) (l : List (Fld × Nat) := []) (m : Mode := .run) : State := ts x l m 5000
def an : Announce := {gm := 55, sender := 66, cls := 6, acc := 0x21, utcOffset := some 37}
def rt (x : RtcSt) (l : List (Fld × Nat) := []) : State := {ts {} l with rtc := x}

theorem wit_TimeFollowsItsSources :
  (∃ (s : State), s.framesOn = true ∧ s.get F.TIM_STAT_GNSS_Q = 0 ∧ 10 ≤ s.time.gnssGood) ∧
  (∃ (s : State), s.framesOn = true ∧ s.get F.TIM_STAT_GNSS_Q = 0 ∧ s.time.gnssGood < 10) ∧
  (∃ (s : State) (src : Nat), s.framesOn = false ∨ s.qualified src = true) ∧
  (∃ (s : State) (a : Announce), s.time.ptp.parent = some a ∧ s.framesOn = true ∧ s.get F.TIM_STAT_PTP_Q = 0 ∧ s.get
      F.TIM_PTP_STAT_PORT = 9 ∧ a.ptpTimescale = true ∧ a.cls ≤ s.get F.TIM_PTP_PRI_MAXCLASS ∧ 16 ≤ s.time.ptp.offs.length ∧ (∀ x
      ∈ s.time.ptp.offs, ∀ y ∈ s.time.ptp.offs, x - y ≤ 1000)) ∧
  (∃ (s : State), s.get F.TIM_STAT_PTP_Q = 0 ∧ (s.time.ptp.parent = none ∨ s.get F.TIM_PTP_STAT_PORT ≠ 9 ∨ s.time.ptp.offs.length
      < 16)) ∧
  (∃ (s : State), s.framesOn = true ∧ s.get F.TIM_STAT_GNSS_Q ≠ 0 ∧ (30 ≤ s.time.gnssBad ∨ 10 ≤ s.time.resBad)) ∧
  (∃ (s : State), s.framesOn = true ∧ s.get F.TIM_STAT_GNSS_Q ≠ 0 ∧ s.time.gnssBad < 30 ∧ s.time.resBad < 10) ∧
  (∃ (s : State), s.framesOn = true ∧ s.get F.TIM_STAT_PTP_Q ≠ 0 ∧ (s.get F.TIM_PTP_STAT_PORT ≠ 9 ∨ s.time.ptp.parent = none ∨
      s.past (s.time.ptp.lastExch + 2000000000) = true)) ∧
  (∃ (s : State) (a : Announce), s.time.ptp.parent = some a ∧ s.framesOn = true ∧ s.get F.TIM_STAT_PTP_Q ≠ 0 ∧ s.get
      F.TIM_PTP_STAT_PORT = 9 ∧ a.ptpTimescale = true ∧ a.cls ≤ s.get F.TIM_PTP_PRI_MAXCLASS ∧ s.past (s.time.ptp.lastExch +
      2000000000) = false) ∧
  (∃ (s : State) (who : Requester) (c : Nat), 2 ≤ s.roleOf who ∧ s.mayWrite who ∧ c ≠ 23294) ∧
  (∃ (s : State) (who : Requester), 2 ≤ s.roleOf who ∧ s.mayWrite who ∧ s.mode ≠ Mode.stop) ∧
  (∃ (s : State) (who : Requester), 2 ≤ s.roleOf who ∧ s.mayWrite who ∧ s.mode = Mode.stop ∧ s.phase = Phase.running ∧
      s.time.restep = none ∧ s.bestQualified = none) ∧
  (∃ (s : State) (who : Requester), 2 ≤ s.roleOf who ∧ s.mayWrite who ∧ s.mode = Mode.stop ∧ s.phase = Phase.running ∧
      s.time.restep = none ∧ s.bestQualified.isSome = true) ∧
  (∃ (s : State), s.framesOn = true ∧ (s.phase = Phase.running ∨ s.phase = Phase.shutdown) ∧ s.get F.TIM_PPS_EN ≠ 0 ∧ (s.aligned
      = true ∨ s.get F.TIM_PPS_UNALIGNED ≠ 0) ∧ s.wholeSecond < s.frameEnd ∧ (s.time.lastPps = 0 ∨ s.time.lastPps + 500000000 ≤
      (↑s.wholeSecond - s.time.stepSum).toNat)) ∧
  (∃ (s : State), s.framesOn = false ∨ s.phase ≠ Phase.running ∧ s.phase ≠ Phase.shutdown ∨ s.get F.TIM_PPS_EN = 0 ∨ s.frameEnd ≤
      s.wholeSecond ∨ s.aligned = false ∧ s.get F.TIM_PPS_UNALIGNED = 0) ∧
  (∃ (s : State) (day : Nat), s.framesOn = true ∧ s.time.insFrom = none ∧ ↑day = s.utcMs ↑(s.frame.start / 1000000) % 86400000 ∧
      s.get F.TIM_UTC_PENDING = 0) ∧
  (∃ (s : State) (day : Nat), s.framesOn = true ∧ s.time.insFrom = none ∧ ↑day = s.utcMs ↑(s.frame.start / 1000000) % 86400000 ∧
      s.get F.TIM_UTC_PENDING = 1 ∧ day < 10) ∧
  (∃ (s : State) (day : Nat), s.framesOn = true ∧ s.time.insFrom = none ∧ ↑day = s.utcMs ↑(s.frame.start / 1000000) % 86400000 ∧
      s.get F.TIM_UTC_PENDING = 1 ∧ 86399990 ≤ day) ∧
  (∃ (s : State) (day : Nat) (l : Nat) (p : Nat), s.framesOn = true ∧ s.time.insFrom = none ∧ ↑day = s.utcMs ↑(s.frame.start /
      1000000) % 86400000 ∧ s.get F.TIM_UTC_PENDING = 2 ∧ 86398990 ≤ day ∧ day < 86399010 ∧ s.get F.TIM_STAT_GNSS_Q ≠ 0 ∧
      s.time.leapG = some (l, p)) := by
  refine ⟨⟨(ts {gnssGood := 10, offG := 0, stepped := true} [(F.TIM_CFG_GNSS_SRC, 1), (F.TIM_CFG_PTP_SRC, 1)]), ?_⟩,
    ⟨(ts {gnssGood := 9}), ?_⟩,
    ⟨({ts {} with phase := .reset}), (1), ?_⟩,
    ⟨(ts {stepped := true, offP := 0, ptp := {parent := some an, offs := List.replicate 16 7, lastExch := 3}}
        [(F.TIM_PTP_STAT_PORT, 9), (F.TIM_PTP_PRI_MAXCLASS, 6), (F.TIM_CFG_GNSS_SRC, 1), (F.TIM_CFG_PTP_SRC, 1)]), (an), ?_⟩,
    ⟨(ts {}), ?_⟩,
    ⟨(big {gnssBad := 30, rhoS := 7, rhoF := 9, offP := 77} [(F.TIM_STAT_GNSS_Q, 1), (F.TIM_STAT_STATE, 0), (F.TIM_STAT_SRC, 1),
        (F.TIM_STAT_PTP_Q, 0), (F.TIM_CFG_GNSS_SRC, 1), (F.TIM_CFG_PTP_SRC, 1)]), ?_⟩,
    ⟨(ts {gnssBad := 29, resBad := 9} [(F.TIM_STAT_GNSS_Q, 1), (F.TIM_STAT_STATE, 0), (F.TIM_STAT_SRC, 1), (F.TIM_STAT_PTP_Q,
        0)]), ?_⟩,
    ⟨(ts {} [(F.TIM_STAT_PTP_Q, 1), (F.TIM_STAT_STATE, 0), (F.TIM_STAT_SRC, 1), (F.TIM_STAT_GNSS_Q, 0)]), ?_⟩,
    ⟨(ts {ptp := {parent := some an, lastExch := 10000000000}} [(F.TIM_PTP_STAT_PORT, 9), (F.TIM_PTP_PRI_MAXCLASS, 6),
        (F.TIM_STAT_PTP_Q, 1), (F.TIM_STAT_STATE, 0), (F.TIM_STAT_SRC, 1), (F.TIM_STAT_GNSS_Q, 0)]), (an), ?_⟩,
    ⟨(ts {} [] .run), (.session 3), (4), ?_⟩,
    ⟨(ts {}), (.session 3), ?_⟩,
    ⟨(ts {} [] .stop), (.session 3), ?_⟩,
    ⟨(ts {} [(F.TIM_STAT_GNSS_Q, 1),(F.TIM_CFG_GNSS_SRC, 1), (F.TIM_CFG_PTP_SRC, 1)] .stop), (.session 3), ?_⟩,
    ⟨(ts {stepSum := 6, ppsEnd := 10^20} [(F.TIM_PPS_EN, 1), (F.TIM_PPS_POL, 1), (F.TIM_PPS_WIDTH, 5), (F.TIM_PPS_UNALIGNED, 0),
        (F.FRM_STAT_ALIGNED, 1)] .run 1000), ?_⟩,
    ⟨(ts {} [(F.TIM_PPS_EN, 1), (F.TIM_PPS_POL, 1), (F.TIM_PPS_WIDTH, 5), (F.TIM_PPS_UNALIGNED, 0), (F.FRM_STAT_ALIGNED, 1)]
        .basic 1101), ?_⟩,
    ⟨(ts {} [(F.TIM_UTC_PENDING, 0), (F.TIM_UTC_LEAP, 37), (F.TIM_STAT_GNSS_Q, 1)] .run 8643700), (0), ?_⟩,
    ⟨(ts {} [(F.TIM_UTC_PENDING, 1), (F.TIM_UTC_LEAP, 37), (F.TIM_STAT_GNSS_Q, 1)] .run 8643700), (0), ?_⟩,
    ⟨(ts {} [(F.TIM_UTC_PENDING, 1), (F.TIM_UTC_LEAP, 37), (F.TIM_STAT_GNSS_Q, 1)] .run 8643699), (86399990), ?_⟩,
    ⟨(ts {leapG := some (37, 2)} [(F.TIM_UTC_PENDING, 2), (F.TIM_UTC_LEAP, 37), (F.TIM_STAT_GNSS_Q, 1)] .run 8643600),
        (86399000), (37), (2), ?_⟩⟩
  all_goals
    repeat' first
      | (unfold HxmMsg.sentAs; rfl)
      | decide +kernel
      | exact mayWrite_engine
      | (apply mayWrite_of; decide +kernel)
      | (apply canCall_program; decide +kernel)
      | (apply canCall_host <;> decide +kernel)
      | (apply canIssue_of; decide +kernel)
      | (apply hasNext_of; decide +kernel)
      | apply runsOn_of
      | (apply ownElem_of; decide +kernel)
      | (apply awaits_program; decide +kernel)
      | (apply awaits_host; decide +kernel)
      | (apply unheld_of; decide +kernel)
      | (apply hasSlot_of; decide +kernel)
      | (apply askedBy_of; decide +kernel)
      | (apply canAsk_of <;> decide +kernel)
      | (apply hears_of (c := 12) <;> decide +kernel)
      | (apply not_hears_of; decide +kernel)
      | (apply memOk_of; decide +kernel)
      | (apply all_below; decide +kernel)
      | (intro _ h; cases h; done)
      | (intro _ _ h; cases h; done)
      | (apply dmaMay_of; decide +kernel)
      | (apply dmaMay_all; decide +kernel)
      | (apply exists_some; decide +kernel)
      | (apply all_some; decide +kernel)
      | apply And.intro
      | exact rfl
      | (intro _ h; exact absurd (show Origin.quiet = _ from h) (by decide +kernel))

theorem wit_TriggersAndStampsAreKept :
  (∃ (s : State) (k : Nat) (f : Bool), k < 4 ∧ s.framesOn = true ∧ s.get (F.TIM_TRIG_CFG_MODE.at k) = 1 ∧ (s.get
      (F.TIM_TRIG_CFG_EDGE.at k) = 2 ∨ s.get (F.TIM_TRIG_CFG_EDGE.at k) = b2n f)) ∧
  (∃ (s : State) (k : Nat) (f : Bool), s.framesOn = false ∨ s.get (F.TIM_TRIG_CFG_MODE.at k) ≠ 1 ∨ s.get (F.TIM_TRIG_CFG_EDGE.at
      k) ≠ 2 ∧ s.get (F.TIM_TRIG_CFG_EDGE.at k) ≠ b2n f) ∧
  (∃ (s : State) (k : Nat) (a : Nat) (o : Origin), (s.trig k).pend = some (a, o) ∧ s.framesOn = true ∧ a < s.frameEnd) ∧
  (∃ (s : State) (k : Nat) (a : Nat) (o : Origin), (s.trig k).pend = some (a, o) ∧ s.framesOn = true ∧ s.frameEnd ≤ a) ∧
  (∃ (s : State) (k : Nat), (s.trig k).pend = none) ∧
  (∃ (s : State) (o : Origin) (b : SvcArgs), 4 ≤ BitVec.toNat b.wa ∧ s.canCall o 917505) ∧
  (∃ (s : State) (o : Origin) (b : SvcArgs), 4 ≤ BitVec.toNat b.wa ∧ s.canCall o 917506) ∧
  (∃ (s : State) (o : Origin) (b : SvcArgs), 4 ≤ BitVec.toNat b.wa ∧ s.canCall o 917507) ∧
  (∃ (s : State) (o : Origin) (b : SvcArgs), BitVec.toNat b.wa < 4 ∧ s.canCall o 917505 ∧ BitVec.toNat b.wb < 4 ∧ s.get
      (F.TIM_TRIG_CFG_MODE.at (BitVec.toNat b.wa)) ≠ 1) ∧
  (∃ (s : State) (o : Origin) (b : SvcArgs), BitVec.toNat b.wa < 4 ∧ s.canCall o 917505 ∧ BitVec.toNat b.wb < 4 ∧ s.get
      (F.TIM_TRIG_CFG_MODE.at (BitVec.toNat b.wa)) = 1) ∧
  (∃ (s : State) (o : Origin) (b : SvcArgs), BitVec.toNat b.wa < 4 ∧ s.canCall o 917506 ∧ BitVec.toNat (b.d.getD 2 0) <
      1000000000 ∧ s.get (F.TIM_TRIG_CFG_MODE.at (BitVec.toNat b.wa)) ≠ 2) ∧
  (∃ (s : State) (o : Origin) (b : SvcArgs), BitVec.toNat b.wa < 4 ∧ s.canCall o 917506 ∧ BitVec.toNat (b.d.getD 2 0) <
      1000000000 ∧ s.get (F.TIM_TRIG_CFG_MODE.at (BitVec.toNat b.wa)) = 2 ∧ (s.trig (BitVec.toNat b.wa)).pend.isSome = true) ∧
  (∃ (s : State) (o : Origin) (b : SvcArgs), BitVec.toNat b.wa < 4 ∧ s.canCall o 917506 ∧ BitVec.toNat (b.d.getD 2 0) <
      1000000000 ∧ s.get (F.TIM_TRIG_CFG_MODE.at (BitVec.toNat b.wa)) = 2 ∧ (s.trig (BitVec.toNat b.wa)).pend = none ∧
      (BitVec.toNat (b.d.getD 0 0) + 2 ^ 32 * BitVec.toNat (b.d.getD 1 0)) * 1000000000 + BitVec.toNat (b.d.getD 2 0) < (s.trig
      (BitVec.toNat b.wa)).emitEnd ∧ s.now < (s.trig (BitVec.toNat b.wa)).emitEnd) ∧
  (∃ (s : State) (o : Origin) (b : SvcArgs), BitVec.toNat b.wa < 4 ∧ s.canCall o 917506 ∧ BitVec.toNat (b.d.getD 2 0) <
      1000000000 ∧ s.get (F.TIM_TRIG_CFG_MODE.at (BitVec.toNat b.wa)) = 2 ∧ (s.trig (BitVec.toNat b.wa)).pend = none ∧ ((s.trig
      (BitVec.toNat b.wa)).emitEnd ≤ s.now ∨ (s.trig (BitVec.toNat b.wa)).emitEnd ≤ (BitVec.toNat (b.d.getD 0 0) + 2 ^ 32 *
      BitVec.toNat (b.d.getD 1 0)) * 1000000000 + BitVec.toNat (b.d.getD 2 0)) ∧ (BitVec.toNat (b.d.getD 0 0) + 2 ^ 32 *
      BitVec.toNat (b.d.getD 1 0)) * 1000000000 + BitVec.toNat (b.d.getD 2 0) < s.now + 1000000) ∧
  (∃ (s : State) (o : Origin) (b : SvcArgs), BitVec.toNat b.wa < 4 ∧ s.canCall o 917506 ∧ BitVec.toNat (b.d.getD 2 0) <
      1000000000 ∧ s.get (F.TIM_TRIG_CFG_MODE.at (BitVec.toNat b.wa)) = 2 ∧ (s.trig (BitVec.toNat b.wa)).pend = none ∧ ((s.trig
      (BitVec.toNat b.wa)).emitEnd ≤ s.now ∨ (s.trig (BitVec.toNat b.wa)).emitEnd ≤ (BitVec.toNat (b.d.getD 0 0) + 2 ^ 32 *
      BitVec.toNat (b.d.getD 1 0)) * 1000000000 + BitVec.toNat (b.d.getD 2 0)) ∧ s.now + 1000000 ≤ (BitVec.toNat (b.d.getD 0 0) +
      2 ^ 32 * BitVec.toNat (b.d.getD 1 0)) * 1000000000 + BitVec.toNat (b.d.getD 2 0)) ∧
  (∃ (s : State) (o : Origin) (b : SvcArgs), BitVec.toNat b.wa < 4 ∧ s.canCall o 917507 ∧ s.get (F.TIM_TRIG_CFG_MODE.at
      (BitVec.toNat b.wa)) ≠ 1) ∧
  (∃ (s : State) (o : Origin) (b : SvcArgs), BitVec.toNat b.wa < 4 ∧ s.canCall o 917507 ∧ s.get (F.TIM_TRIG_CFG_MODE.at
      (BitVec.toNat b.wa)) = 1) ∧
  (∃ (k : Nat), k < 4) ∧
  (∃ (s : State) (a : Nat), s.frame.off ≤ a) ∧
  (∃ (s : State), s.time.txq.length < 32) ∧
  (∃ (s : State), 32 ≤ s.time.txq.length) ∧
  (∃ (s : State) (x : Stamp) (l : List Stamp), s.time.txq = x :: l ∧ l.length < 32) ∧
  (∃ (s : State) (x : Stamp) (l : List Stamp), s.time.txq = x :: l) ∧
  (∃ (s : State), s.time.txq = []) := by
  refine ⟨⟨(ts {trigs := [(3, {stepped := true, progCount := 65535})]} [(F.TIM_TRIG_CFG_MODE.at 3, 1), (F.TIM_TRIG_CFG_EDGE.at 3,
      2), (F.TIM_TRIG_STAT_COUNT.at 3, 255)] .run), (3), (true), ?_⟩,
    ⟨(ts {trigs := [(3, {})]} [(F.TIM_TRIG_CFG_MODE.at 3, 1), (F.TIM_TRIG_CFG_EDGE.at 3, 0)] .run), (3), (true), ?_⟩,
    ⟨(awaitsP (ts {trigs := [(3, {emitEnd := 5, pend := some (10030000000, oP)})]} [(F.TIM_TRIG_CFG_MODE.at 3, 2),
        (F.TIM_TRIG_CFG_WIDTH.at 3, 7)] .run)), (3), (10030000000), (oP), ?_⟩,
    ⟨(awaitsP (ts {trigs := [(3, {emitEnd := 5, pend := some (10040000000, oP)})]} [(F.TIM_TRIG_CFG_MODE.at 3, 2),
        (F.TIM_TRIG_CFG_WIDTH.at 3, 7)] .run)), (3), (10040000000), (oP), ?_⟩,
    ⟨(ts {}), (3), ?_⟩,
    ⟨(ts {}), (oP), ({wa := 4}), ?_⟩,
    ⟨(ts {}), (oP), ({wa := 4}), ?_⟩,
    ⟨(ts {}), (oP), ({wa := 4}), ?_⟩,
    ⟨(ts {trigs := [(3, {})]} [] .run), (oP), ({wa := 3, wb := 2}), ?_⟩,
    ⟨(ts {trigs := [(3, {})]} [(F.TIM_TRIG_CFG_MODE.at 3, 1)] .run), (oP), ({wa := 3, wb := 3}), ?_⟩,
    ⟨(ts {trigs := [(3, {})]} [(F.TIM_TRIG_CFG_MODE.at 3, 1)] .run), (oP), ({wa := 3, d := [11,0,999999999]}), ?_⟩,
    ⟨(ts {trigs := [(3, {pend := some (4, oH)})]} [(F.TIM_TRIG_CFG_MODE.at 3, 2)] .run), (oP), ({wa := 3, d := [11,0,5]}), ?_⟩,
    ⟨(ts {trigs := [(3, {emitEnd := 10^13})]} [(F.TIM_TRIG_CFG_MODE.at 3, 2)] .run), (oP), ({wa := 3, d := [10,0,30999999]}), ?_⟩,
    ⟨(ts {trigs := [(3, {})]} [(F.TIM_TRIG_CFG_MODE.at 3, 2)] .run), (oP), ({wa := 3, d := [10,0,30999999]}), ?_⟩,
    ⟨(ts {trigs := [(3, {emitEnd := 10030000000})]} [(F.TIM_TRIG_CFG_MODE.at 3, 2)] .run), (oP),
        ({wa := 3, d := [10,0,31000000]}), ?_⟩,
    ⟨(ts {trigs := [(3, {})]} [(F.TIM_TRIG_CFG_MODE.at 3, 2)] .run), (oP), ({wa := 3}), ?_⟩,
    ⟨(ts {trigs := [(3, {cap := 5000000000000000007, valid := true, falling := true, stepped := true, progCount := 65535})]}
        [(F.TIM_TRIG_CFG_MODE.at 3, 1)] .run), (oP), ({wa := 3}), ?_⟩,
    ⟨(3), ?_⟩,
    ⟨(ts {}), (9999999), ?_⟩,
    ⟨(State.reset), ?_⟩,
    ⟨(ts {txq := List.replicate 32 ⟨4, 5, 6⟩}), ?_⟩,
    ⟨(ts {txq := List.replicate 32 ⟨4, 5, 6⟩}), ⟨4, 5, 6⟩, (List.replicate 31 ⟨4, 5, 6⟩), ?_⟩,
    ⟨(ts {txq := [⟨4, 5, 6000000007⟩, ⟨4, 5, 6⟩]}), (⟨4, 5, 6000000007⟩), ([⟨4, 5, 6⟩]), ?_⟩,
    ⟨(ts {}), ?_⟩⟩
  all_goals
    repeat' first
      | (unfold HxmMsg.sentAs; rfl)
      | decide +kernel
      | exact mayWrite_engine
      | (apply mayWrite_of; decide +kernel)
      | (apply canCall_program; decide +kernel)
      | (apply canCall_host <;> decide +kernel)
      | (apply canIssue_of; decide +kernel)
      | (apply hasNext_of; decide +kernel)
      | apply runsOn_of
      | (apply ownElem_of; decide +kernel)
      | (apply awaits_program; decide +kernel)
      | (apply awaits_host; decide +kernel)
      | (apply unheld_of; decide +kernel)
      | (apply hasSlot_of; decide +kernel)
      | (apply askedBy_of; decide +kernel)
      | (apply canAsk_of <;> decide +kernel)
      | (apply hears_of (c := 12) <;> decide +kernel)
      | (apply not_hears_of; decide +kernel)
      | (apply memOk_of; decide +kernel)
      | (apply all_below; decide +kernel)
      | (intro _ h; cases h; done)
      | (intro _ _ h; cases h; done)
      | (apply dmaMay_of; decide +kernel)
      | (apply dmaMay_all; decide +kernel)
      | (apply exists_some; decide +kernel)
      | (apply all_some; decide +kernel)
      | apply And.intro
      | exact rfl
      | (intro _ h; exact absurd (show Origin.quiet = _ from h) (by decide +kernel))

theorem wit_PtpFollowsItsMaster :
  (∃ (s : State) (gm : Nat), s.ptpSlave = true ∧ s.fromParent gm = true) ∧
  (∃ (s : State) (q : Nat) (gm : Nat) (t2 : Int) (c0 : Int), s.ptpSlave = true ∧ s.fromParent gm = true ∧ s.time.ptp.syncSeq =
      some (q, t2, c0)) ∧
  (∃ (s : State) (gm : Nat) (t3 : Int), s.time.ptp.t3 = some t3 ∧ s.ptpSlave = true ∧ s.fromParent gm = true ∧
      s.time.ptp.haveSync = true) ∧
  (∃ (s : State) (gm : Nat), s.ptpSlave = false ∨ s.fromParent gm = false) ∧
  (∃ (s : State), s.ptpSlave = true ∧ s.time.ptp.haveSync = true) ∧
  (∃ (s : State), s.ptpSlave = false ∨ s.time.ptp.haveSync = false) ∧
  (∃ (s : State) (a : Announce), s.ptpOn = true ∧ a.domain = s.get F.TIM_PTP_CFG_DOMAIN ∧ a.gm ≠ s.ownClock ∧ s.get
      F.TIM_PTP_CFG_MASTER = 0 ∧ s.time.ptp.parent = none) ∧
  (∃ (s : State) (a : Announce) (p : Announce), s.time.ptp.parent = some p ∧ s.ptpOn = true ∧ a.domain = s.get
      F.TIM_PTP_CFG_DOMAIN ∧ a.gm ≠ s.ownClock ∧ s.get F.TIM_PTP_CFG_MASTER = 0 ∧ p.sender = a.sender) ∧
  (∃ (s : State) (a : Announce) (p : Announce), s.time.ptp.parent = some p ∧ s.ptpOn = true ∧ a.domain = s.get
      F.TIM_PTP_CFG_DOMAIN ∧ a.gm ≠ s.ownClock ∧ s.get F.TIM_PTP_CFG_MASTER = 0 ∧ p.sender ≠ a.sender ∧ a.better p = false) ∧
  (∃ (s : State) (a : Announce), s.ptpOn = false ∨ a.domain ≠ s.get F.TIM_PTP_CFG_DOMAIN ∨ a.gm = s.ownClock) ∧
  (∃ (s : State), s.ptpOn = true ∧ s.ptpPort ≠ 6 ∧ s.past (s.time.ptp.parentAt + s.get F.TIM_PTP_CFG_ANN_TMO * 2 ^ s.get
      F.TIM_PTP_CFG_LOG_ANN * 1000000000) = true) ∧
  (∃ (s : State), s.ptpOn = false ∨ s.ptpPort = 6) ∧
  (∃ (s : State), s.ptpOn = true ∧ s.ptpPort = 6 ∧ s.time.txq.length < 32) ∧
  (∃ (s : State), s.ptpOn = true ∧ s.ptpPort = 6 ∧ 32 ≤ s.time.txq.length) ∧
  (∃ (s : State), s.ptpOn = true ∧ s.ptpPort = 6) ∧
  (∃ (s : State), s.ptpOn = false ∨ s.ptpPort ≠ 6) ∧
  (∃ (s : State) (typ : Nat) (two : Bool), s.framesOn = true ∧ s.get F.TIM_PTP_CFG_TC_EN ≠ 0 ∧ (typ = 0 ∧ two = false ∨ typ = 1 ∨
      typ = 8)) ∧
  (∃ (s : State) (typ : Nat) (two : Bool), s.framesOn = true ∧ s.get F.TIM_PTP_CFG_TC_EN ≠ 0 ∧ (typ = 0 ∧ two = true ∨ typ ≠ 0 ∧
      typ ≠ 1 ∧ typ ≠ 8)) ∧
  (∃ (s : State), s.framesOn = false ∨ s.get F.TIM_PTP_CFG_TC_EN = 0) := by
  refine ⟨⟨(ts { ptp := {parent := some an}} [(F.TIM_PTP_CFG_EN, 1), (F.TIM_PTP_CFG_DOMAIN, 0), (F.SYS_SERIAL0_CHARS, 77),
      (F.TIM_PTP_STAT_PORT, 8)] .run), (66), ?_⟩,
    ⟨(ts { ptp := {parent := some an, syncSeq := some (5, 100, 3), t3 := some 200, reqSeq := 5, haveSync := true, t1 := 20, t2 := 90, syncCorr := -2, offs := List.replicate 20 4}} [(F.TIM_PTP_CFG_EN, 1), (F.TIM_PTP_CFG_DOMAIN, 0), (F.SYS_SERIAL0_CHARS, 77), (F.TIM_PTP_STAT_PORT, 8)] .run), (5), (66), (100), (3), ?_⟩,
    ⟨(ts { ptp := {parent := some an, syncSeq := some (5, 100, 3), t3 := some 200, reqSeq := 5, haveSync := true, t1 := 20, t2 := 90, syncCorr := -2, offs := List.replicate 20 4}} [(F.TIM_PTP_CFG_EN, 1), (F.TIM_PTP_CFG_DOMAIN, 0), (F.SYS_SERIAL0_CHARS, 77), (F.TIM_PTP_STAT_PORT, 8),(F.TIM_PTP_PRI_MAXCLASS, 6)] .run), (66), (200), ?_⟩,
    ⟨(ts { ptp := {parent := some an}} [(F.TIM_PTP_CFG_EN, 1), (F.TIM_PTP_CFG_DOMAIN, 0), (F.SYS_SERIAL0_CHARS, 77),
        (F.TIM_PTP_STAT_PORT, 6)] .run), (66), ?_⟩,
    ⟨(ts { ptp := {parent := some an, syncSeq := some (5, 100, 3), t3 := some 200, reqSeq := 5, haveSync := true, t1 := 20, t2 := 90, syncCorr := -2, offs := List.replicate 20 4}} [(F.TIM_PTP_CFG_EN, 1), (F.TIM_PTP_CFG_DOMAIN, 0), (F.SYS_SERIAL0_CHARS, 77), (F.TIM_PTP_STAT_PORT, 8)] .run), ?_⟩,
    ⟨(ts { ptp := {}} [(F.TIM_PTP_CFG_EN, 1), (F.TIM_PTP_CFG_DOMAIN, 0), (F.SYS_SERIAL0_CHARS, 77), (F.TIM_PTP_STAT_PORT, 8)]
        .run), ?_⟩,
    ⟨(ts { ptp := {offs := [3], parentAt := 4}} [(F.TIM_PTP_CFG_EN, 1), (F.TIM_PTP_CFG_DOMAIN, 0), (F.SYS_SERIAL0_CHARS, 77),
        (F.TIM_PTP_STAT_PORT, 4)] .run), (an), ?_⟩,
    ⟨(ts { ptp := {offs := [3], parent := some {an with cls := 5}}} [(F.TIM_PTP_CFG_EN, 1), (F.TIM_PTP_CFG_DOMAIN, 0),
        (F.SYS_SERIAL0_CHARS, 77), (F.TIM_PTP_STAT_PORT, 4)] .run), (an), ((((ts
        { ptp := {offs := [3], parent := some {an with cls := 5}}} [(F.TIM_PTP_CFG_EN, 1), (F.TIM_PTP_CFG_DOMAIN, 0),
        (F.SYS_SERIAL0_CHARS, 77), (F.TIM_PTP_STAT_PORT, 4)] .run) : State).time.ptp.parent).get (by decide +kernel)), ?_⟩,
    ⟨(ts { ptp := {offs := [3], parent := some {an with cls := 5, sender := 4}}} [(F.TIM_PTP_CFG_EN, 1), (F.TIM_PTP_CFG_DOMAIN,
        0), (F.SYS_SERIAL0_CHARS, 77), (F.TIM_PTP_STAT_PORT, 4)] .run), (an), ((((ts
        { ptp := {offs := [3], parent := some {an with cls := 5, sender := 4}}} [(F.TIM_PTP_CFG_EN, 1), (F.TIM_PTP_CFG_DOMAIN,
        0), (F.SYS_SERIAL0_CHARS, 77), (F.TIM_PTP_STAT_PORT, 4)] .run) : State).time.ptp.parent).get (by decide +kernel)), ?_⟩,
    ⟨(ts { ptp := {}} [(F.TIM_PTP_CFG_EN, 1), (F.TIM_PTP_CFG_DOMAIN, 0), (F.SYS_SERIAL0_CHARS, 77), (F.TIM_PTP_STAT_PORT, 4)]
        .run), ({an with domain := 4}), ?_⟩,
    ⟨(ts { ptp := {parent := some an, parentAt := 3}} [(F.TIM_PTP_CFG_EN, 1), (F.TIM_PTP_CFG_DOMAIN, 0), (F.SYS_SERIAL0_CHARS,
        77), (F.TIM_PTP_STAT_PORT, 4),(F.TIM_PTP_CFG_ANN_TMO, 3),(F.TIM_PTP_CFG_LOG_ANN, 1), (F.TIM_PTP_CFG_MASTER, 0),
        (F.TIM_STAT_PTP_Q, 1), (F.TIM_STAT_STATE, 1), (F.TIM_STAT_SRC, 2)] .run), ?_⟩,
    ⟨(ts { ptp := {}} [(F.TIM_PTP_CFG_EN, 1), (F.TIM_PTP_CFG_DOMAIN, 0), (F.SYS_SERIAL0_CHARS, 77), (F.TIM_PTP_STAT_PORT, 6)]
        .run), ?_⟩,
    ⟨(ts { ptp := {txSyncSeq := 65535, txAnnSeq := 8}} [(F.TIM_PTP_CFG_EN, 1), (F.TIM_PTP_CFG_DOMAIN, 0), (F.SYS_SERIAL0_CHARS,
        77), (F.TIM_PTP_STAT_PORT, 6)] .run), ?_⟩,
    ⟨(ts {txq := List.replicate 32 ⟨4, 5, 6⟩,  ptp := {txSyncSeq := 65535, txAnnSeq := 8}} [(F.TIM_PTP_CFG_EN, 1),
        (F.TIM_PTP_CFG_DOMAIN, 0), (F.SYS_SERIAL0_CHARS, 77), (F.TIM_PTP_STAT_PORT, 6)] .run), ?_⟩,
    ⟨(ts { ptp := {txSyncSeq := 65535, txAnnSeq := 8}} [(F.TIM_PTP_CFG_EN, 1), (F.TIM_PTP_CFG_DOMAIN, 0), (F.SYS_SERIAL0_CHARS,
        77), (F.TIM_PTP_STAT_PORT, 6)] .run), ?_⟩,
    ⟨(ts { ptp := {}} [(F.TIM_PTP_CFG_EN, 1), (F.TIM_PTP_CFG_DOMAIN, 0), (F.SYS_SERIAL0_CHARS, 77), (F.TIM_PTP_STAT_PORT, 8)]
        .run), ?_⟩,
    ⟨(ts {} [(F.TIM_PTP_CFG_TC_EN, 1)]), 8, (true), ?_⟩,
    ⟨(ts {} [(F.TIM_PTP_CFG_TC_EN, 1)]), 0, (true), ?_⟩,
    ⟨(ts {} [(F.TIM_PTP_CFG_TC_EN, 0)]), ?_⟩⟩
  all_goals
    repeat' first
      | (unfold HxmMsg.sentAs; rfl)
      | decide +kernel
      | exact mayWrite_engine
      | (apply mayWrite_of; decide +kernel)
      | (apply canCall_program; decide +kernel)
      | (apply canCall_host <;> decide +kernel)
      | (apply canIssue_of; decide +kernel)
      | (apply hasNext_of; decide +kernel)
      | apply runsOn_of
      | (apply ownElem_of; decide +kernel)
      | (apply awaits_program; decide +kernel)
      | (apply awaits_host; decide +kernel)
      | (apply unheld_of; decide +kernel)
      | (apply hasSlot_of; decide +kernel)
      | (apply askedBy_of; decide +kernel)
      | (apply canAsk_of <;> decide +kernel)
      | (apply hears_of (c := 12) <;> decide +kernel)
      | (apply not_hears_of; decide +kernel)
      | (apply memOk_of; decide +kernel)
      | (apply all_below; decide +kernel)
      | (intro _ h; cases h; done)
      | (intro _ _ h; cases h; done)
      | (apply dmaMay_of; decide +kernel)
      | (apply dmaMay_all; decide +kernel)
      | (apply exists_some; decide +kernel)
      | (apply all_some; decide +kernel)
      | apply And.intro
      | exact rfl
      | (intro _ h; exact absurd (show Origin.quiet = _ from h) (by decide +kernel))

theorem wit_TheRtcKeepsItsDate :
  (∃ (s : State) (who : Requester), s.mayWrite who ∧ s.get F.RTC_STAT_LOCKOUT ≠ 0) ∧
  (∃ (s : State) (who : Requester), s.mayWrite who ∧ s.get F.RTC_STAT_LOCKOUT = 0 ∧ s.disciplined = true) ∧
  (∃ (s : State) (who : Requester), s.mayWrite who ∧ s.get F.RTC_STAT_LOCKOUT = 0 ∧ s.disciplined = false ∧ s.stagedValid =
      false) ∧
  (∃ (s : State) (who : Requester), s.mayWrite who ∧ s.get F.RTC_STAT_LOCKOUT = 0 ∧ s.disciplined = false ∧ s.stagedValid = true)
      ∧
  (∃ (s : State) (who : Requester) (x : RtcShadow), s.rtc.shadows.get? who.key = some x ∧ s.past x.untilMono = true) ∧
  (∃ (s : State) (who : Requester) (x : RtcShadow), s.rtc.shadows.get? who.key = some x ∧ s.past x.untilMono = false) ∧
  (∃ (s : State), s.rtc.t.secs % 64 = 0 ∧ s.rtc.t.in60 = false) ∧
  (∃ (s : State), s.rtc.t.secs % 64 ≠ 0) ∧
  (∃ (s : State), s.rtc.t.in60 = false ∧ 32767 ≤ s.rtc.t.sub + 400 ∧ s.get F.RTC_LEAP_MODE = 1 ∧ monthEnd s.rtc.t.secs 86399 =
      true) ∧
  (∃ (s : State), s.rtc.t.in60 = false ∧ 32767 ≤ s.rtc.t.sub + 400 ∧ s.get F.RTC_LEAP_MODE = 2 ∧ monthEnd s.rtc.t.secs 86398 =
      true ∧ s.rtc.t.secs + 2 ≤ rtcLast) ∧
  (∃ (s : State), s.rtc.t.in60 = false ∧ 32767 ≤ s.rtc.t.sub + 400 ∧ s.get F.RTC_LEAP_MODE = 0) ∧
  (∃ (s : State), s.rtc.t.in60 = false ∧ 32767 ≤ s.rtc.t.sub + 400 ∧ s.get F.RTC_LEAP_MODE = 0 ∧ s.rtc.t.secs = rtcLast) ∧
  (∃ (s : State), s.rtc.t.in60 = false ∧ 32767 ≤ s.rtc.t.sub + 400 ∧ s.rtc.t.secs ≠ rtcLast) ∧
  (∃ (s : State), s.disciplined = true ∧ s.past (s.rtc.lastDisc + 60000000000) = true) ∧
  (∃ (s : State), s.disciplined = false ∨ s.past (s.rtc.lastDisc + 60000000000) = false) ∧
  (∃ (s : State) (o : Origin), s.canCall o 983041) := by
  refine ⟨⟨(rt {} [(F.RTC_STAT_LOCKOUT, 1)]), (.session 9), ?_⟩,
    ⟨(rt {} [(F.RTC_CFG_DISCIPLINE, 1), (F.TIM_STAT_TIME_VALID, 1)]), (.session 9), ?_⟩,
    ⟨(rt {shadows := [(3, ⟨{}, 5⟩)]} [(F.RTC_W_YEAR_VAL, 2399), (F.RTC_W_MONTH_VAL, 2), (F.RTC_W_DAY_VAL, 29), (F.RTC_W_HOUR_VAL,
        23), (F.RTC_W_MIN_VAL, 59), (F.RTC_W_SEC_VAL, 59), (F.RTC_STAT_OSF, 1), (F.RTC_TRIM_PULSES, 0x7FF)]), (.session 9), ?_⟩,
    ⟨(rt {shadows := [(3, ⟨{}, 5⟩)], trimAcc := 4} [(F.RTC_W_YEAR_VAL, 2399), (F.RTC_W_MONTH_VAL, 2), (F.RTC_W_DAY_VAL, 28),
        (F.RTC_W_HOUR_VAL, 23), (F.RTC_W_MIN_VAL, 59), (F.RTC_W_SEC_VAL, 59), (F.RTC_STAT_OSF, 1), (F.RTC_TRIM_PULSES, 0x7FF)]),
        (.session 9), ?_⟩,
    ⟨(rt {shadows := [(3, ⟨{}, 5⟩), (64+3, ⟨{}, 6⟩), (0, ⟨⟨7, true, 3⟩, 6⟩), (1024, ⟨{}, 6⟩)]}), (.session 3), ((((rt
        {shadows := [(3, ⟨{}, 5⟩), (64+3, ⟨{}, 6⟩), (0, ⟨⟨7, true, 3⟩, 6⟩), (1024, ⟨{}, 6⟩)]}) : State).rtc.shadows.get?
        ((.session 3) : Requester).key).get (by decide +kernel)), ?_⟩,
    ⟨(rt {shadows := [(3, ⟨{}, 5⟩), (64+3, ⟨{}, 10^20⟩), (0, ⟨⟨7, true, 3⟩, 10^20⟩), (1024, ⟨{}, 10^20⟩)]}), (.session 3), ((((rt
        {shadows := [(3, ⟨{}, 5⟩), (64+3, ⟨{}, 10^20⟩), (0, ⟨⟨7, true, 3⟩, 10^20⟩), (1024, ⟨{}, 10^20⟩)]}) :
        State).rtc.shadows.get? ((.session 3) : Requester).key).get (by decide +kernel)), ?_⟩,
    ⟨(rt {t := ⟨6400, false, 77⟩, trim := 4, trimAcc := 7} [(F.RTC_TRIM_PULSES, 0x7FF)]), ?_⟩,
    ⟨(rt {t := ⟨6401, false, 77⟩}), ?_⟩,
    ⟨(rt {t := ⟨86400*31-1, false, 32400⟩} [(F.RTC_LEAP_MODE, 1)]), ?_⟩,
    ⟨(rt {t := ⟨86400*31-2, false, 32400⟩} [(F.RTC_LEAP_MODE, 2)]), ?_⟩,
    ⟨(rt {t := ⟨86400*31-1, false, 32400⟩}), ?_⟩,
    ⟨(rt {t := ⟨rtcLast, false, 32400⟩}), ?_⟩,
    ⟨(rt {t := ⟨86400*31-1, false, 32400⟩}), ?_⟩,
    ⟨({ts {} [(F.RTC_CFG_DISCIPLINE, 1), (F.TIM_STAT_TIME_VALID, 1), (F.TIM_UTC_PENDING, 0)] .run 94668485000 with rtc := {t := ⟨5000, false, 7⟩, lastDisc := 0, lastDiff := 4, ownCommit := some 4}}), ?_⟩,
    ⟨(rt {}), ?_⟩,
    ⟨(rt {t := ⟨5000, true, 77⟩}), (oP), ?_⟩⟩
  all_goals
    repeat' first
      | (unfold HxmMsg.sentAs; rfl)
      | decide +kernel
      | exact mayWrite_engine
      | (apply mayWrite_of; decide +kernel)
      | (apply canCall_program; decide +kernel)
      | (apply canCall_host <;> decide +kernel)
      | (apply canIssue_of; decide +kernel)
      | (apply hasNext_of; decide +kernel)
      | apply runsOn_of
      | (apply ownElem_of; decide +kernel)
      | (apply awaits_program; decide +kernel)
      | (apply awaits_host; decide +kernel)
      | (apply unheld_of; decide +kernel)
      | (apply hasSlot_of; decide +kernel)
      | (apply askedBy_of; decide +kernel)
      | (apply canAsk_of <;> decide +kernel)
      | (apply hears_of (c := 12) <;> decide +kernel)
      | (apply not_hears_of; decide +kernel)
      | (apply memOk_of; decide +kernel)
      | (apply all_below; decide +kernel)
      | (intro _ h; cases h; done)
      | (intro _ _ h; cases h; done)
      | (apply dmaMay_of; decide +kernel)
      | (apply dmaMay_all; decide +kernel)
      | (apply exists_some; decide +kernel)
      | (apply all_some; decide +kernel)
      | apply And.intro
      | exact rfl
      | (intro _ h; exact absurd (show Origin.quiet = _ from h) (by decide +kernel))

end Sys2Proof.Tests.Time
end

/-!
Semaphores (R42 to R48). First the places of the fields that a semaphore command writes, then one rule per operation (a read, a release,
an abandonment, a forced release), then O1.
-/
namespace Sys2Proof.Machine

/-! ### The fields of the SEM block -/

@[simp] theorem semOwner_key (n : Nat) : (F.SEM_SEMn_OWNER.at n).key = 4194304 + 128 * n := by
  simp only [Fld.at, Fld.at2, Fld.key, F.SEM_SEMn_OWNER]; omega

@[simp] theorem semAbandoned_key (n : Nat) : (F.SEM_SEMn_ABANDONED.at n).key = 4194333 + 128 * n := by
  simp only [Fld.at, Fld.at2, Fld.key, F.SEM_SEMn_ABANDONED]; omega

@[simp] theorem semErrForeign_key : F.SEM_ERR_FOREIGN.key = 4259968 := rfl

@[simp] theorem semErrAbandons_key : F.SEM_ERR_ABANDONS.key = 4259984 := rfl

theorem semOwner_key_lt_fifProducerReset_key {n : Nat} (hn : n < 128) (f : Nat) :
    (F.SEM_SEMn_OWNER.at n).key < (F.FIF_STAT_PRODUCER_RESET.at f).key := by
  rw [semOwner_key]; simp only [Fld.at, Fld.at2, Fld.key, F.FIF_STAT_PRODUCER_RESET]; omega

@[simp] theorem semOwner_width (n : Nat) : (F.SEM_SEMn_OWNER.at n).width = 5 := rfl

@[simp] theorem semAbandoned_width (n : Nat) : (F.SEM_SEMn_ABANDONED.at n).width = 1 := rfl

@[simp] theorem semOwner_put_semAbandoned (s : State) (n m v : Nat) :
    (s.put (F.SEM_SEMn_ABANDONED.at m) v).get (F.SEM_SEMn_OWNER.at n) = s.get (F.SEM_SEMn_OWNER.at n) :=
  s.get_put_ne _ _ _ (by simp only [semOwner_key, semAbandoned_key]; omega)

theorem semOwner_put_semOwner_ne (s : State) {n m : Nat} (v : Nat) (h : m ≠ n) :
    (s.put (F.SEM_SEMn_OWNER.at n) v).get (F.SEM_SEMn_OWNER.at m) = s.get (F.SEM_SEMn_OWNER.at m) :=
  s.get_put_ne _ _ _ (by simp only [semOwner_key]; omega)

theorem semOwner_put_semErrForeign (s : State) {n : Nat} (v : Nat) (hn : n < 128) :
    (s.put F.SEM_ERR_FOREIGN v).get (F.SEM_SEMn_OWNER.at n) = s.get (F.SEM_SEMn_OWNER.at n) :=
  s.get_put_ne _ _ _ (by simp only [semOwner_key, semErrForeign_key]; omega)

theorem semOwner_put_semErrAbandons (s : State) {n : Nat} (v : Nat) (hn : n < 128) :
    (s.put F.SEM_ERR_ABANDONS v).get (F.SEM_SEMn_OWNER.at n) = s.get (F.SEM_SEMn_OWNER.at n) :=
  s.get_put_ne _ _ _ (by simp only [semOwner_key, semErrAbandons_key]; omega)

theorem semErrForeign_put_semOwner (s : State) {n : Nat} (v : Nat) (hn : n < 128) :
    (s.put (F.SEM_SEMn_OWNER.at n) v).get F.SEM_ERR_FOREIGN = s.get F.SEM_ERR_FOREIGN :=
  s.get_put_ne _ _ _ (by simp only [semOwner_key, semErrForeign_key]; omega)

/-! ### A read (R42, R46) -/

/-- The search of R46 stays among the engines that can acquire. -/
theorem semWinner_lt {last e : Nat} {cs : List Nat} (h : semWinner last cs = some e) : e < 23 := by
  have he := List.mem_of_find?_eq_some h
  obtain ⟨k, -, rfl⟩ := List.mem_map.1 he
  exact Nat.mod_lt _ (by decide)

/-- A free semaphore goes to the winner, and its abandoned mark goes (R42, R45, R46). -/
theorem semRead_of_winner (s : State) {n e : Nat} {readers : List Requester} (free : s.get (F.SEM_SEMn_OWNER.at n) = 31)
    (win : semWinner s.gal.semLast (readers.filterMap Requester.acquirer) = some e) :
    (s.semRead n readers).get (F.SEM_SEMn_OWNER.at n) = e ∧ (s.semRead n readers).get (F.SEM_SEMn_ABANDONED.at n) = 0 ∧
      (s.semRead n readers).gal = { s.gal with semLast := e } := by
  have lt : e % 32 = e := Nat.mod_eq_of_lt (Nat.lt_trans (semWinner_lt win) (by decide))
  unfold State.semRead
  simp only [free, win, if_true]
  refine ⟨?_, ?_, ?_⟩
  · rw [foldl_keeps (fun t : State => t.get (F.SEM_SEMn_OWNER.at n)) _ (fun _ _ => State.reply_get ..)]
    simp [lt]
  · rw [foldl_keeps (fun t : State => t.get (F.SEM_SEMn_ABANDONED.at n)) _ (fun _ _ => State.reply_get ..)]
    simp [b2n]
  · rw [foldl_keeps State.gal _ (fun _ _ => State.reply_gal ..)]
    simp

/-- A semaphore that is owned stays as it is (R42). -/
theorem semRead_of_owned (s : State) {n : Nat} (readers : List Requester) (owned : s.get (F.SEM_SEMn_OWNER.at n) ≠ 31) :
    (s.semRead n readers).regs = s.regs ∧ (s.semRead n readers).gal = s.gal := by
  unfold State.semRead
  simp only [if_neg owned]
  exact ⟨foldl_keeps State.regs _ (fun _ _ => State.reply_regs ..) _ _, foldl_keeps State.gal _ (fun _ _ => State.reply_gal ..) _ _⟩

/-! ### What comes first in the clock of a read (R44, R45, R47) -/

theorem semRelease_of_owner (s : State) {n : Nat} {who : Requester} {w : Word} (go : bit w.toNat 0 = true)
    (own : who.acquirer = some (s.get (F.SEM_SEMn_OWNER.at n))) : s.semRelease n who w = s.put (F.SEM_SEMn_OWNER.at n) 31 := by
  simp [State.semRelease, go, own]

theorem semRelease_of_foreign (s : State) {n : Nat} {who : Requester} {w : Word} (go : bit w.toNat 0 = true)
    (foreign : who.acquirer ≠ some (s.get (F.SEM_SEMn_OWNER.at n))) : s.semRelease n who w = s.inc F.SEM_ERR_FOREIGN := by
  simp [State.semRelease, go, foreign]

@[simp] theorem semAbandon_semOwner_self (s : State) (n : Nat) : (s.semAbandon n).get (F.SEM_SEMn_OWNER.at n) = 31 := by
  simp [State.semAbandon]

@[simp] theorem semAbandon_semAbandoned_self (s : State) (n : Nat) : (s.semAbandon n).get (F.SEM_SEMn_ABANDONED.at n) = 1 := by
  simp [State.semAbandon, b2n]

theorem semAbandon_semOwner_ne (s : State) {n m : Nat} (h : m ≠ n) :
    (s.semAbandon n).get (F.SEM_SEMn_OWNER.at m) = s.get (F.SEM_SEMn_OWNER.at m) := by
  simp [State.semAbandon, semOwner_put_semOwner_ne s 31 h]

/-- Of a list of semaphores that are abandoned and counted, each is free; the others keep their owners. -/
theorem foldl_semAbandon_semOwner {n : Nat} (hn : n < 128) (l : List Nat) (s : State) :
    (l.foldl (fun s m => (s.semAbandon m).inc F.SEM_ERR_ABANDONS) s).get (F.SEM_SEMn_OWNER.at n) =
      if n ∈ l then 31 else s.get (F.SEM_SEMn_OWNER.at n) := by
  induction l generalizing s with
  | nil => simp
  | cons m l ih =>
    rw [List.foldl_cons, ih, State.inc_eq, semOwner_put_semErrAbandons _ _ hn]
    by_cases h : n = m
    · subst h; simp
    · simp [h, semAbandon_semOwner_ne s h]

/-- Every semaphore of the engine is free, and no other changes hands (R45). -/
theorem semAbandonAll_semOwner (s : State) (e : Nat) {n : Nat} (hn : n < 128) :
    (s.semAbandonAll e).get (F.SEM_SEMn_OWNER.at n) =
      if s.get (F.SEM_SEMn_OWNER.at n) = e then 31 else s.get (F.SEM_SEMn_OWNER.at n) := by
  unfold State.semAbandonAll
  rw [foldl_semAbandon_semOwner hn]
  simp [hn]

@[simp] theorem semAbandonAll_gal (s : State) (e : Nat) : (s.semAbandonAll e).gal = s.gal := by
  unfold State.semAbandonAll
  exact foldl_keeps State.gal _ (by intros; rfl) _ _

/-- The sideband masks its engine and drops its requests; the rest of the Gallery stays (R37). -/
theorem sideband_gal (s : State) (e : Nat) :
    (s.sideband e).gal =
      { s.gal with masked := insertN s.gal.masked e, pending := s.gal.pending.filter fun p => p.req.req ≠ e } := by
  unfold State.sideband
  refine (foldl_keeps State.gal _ (by intros; rfl) _ _).trans ?_
  rw [semAbandonAll_gal]
  rfl

/-- The sideband frees what its engine owns (R45). -/
theorem sideband_semOwner (s : State) (e : Nat) {n : Nat} (hn : n < 128) :
    (s.sideband e).get (F.SEM_SEMn_OWNER.at n) =
      if s.get (F.SEM_SEMn_OWNER.at n) = e then 31 else s.get (F.SEM_SEMn_OWNER.at n) := by
  unfold State.sideband
  refine (foldl_keeps (fun t : State => t.get (F.SEM_SEMn_OWNER.at n)) _ ?_ _ _).trans (semAbandonAll_semOwner _ e hn)
  exact fun t f => t.get_put_ne _ _ _ (semOwner_key_lt_fifProducerReset_key hn f).ne

theorem mem_insertN {a x : Nat} {l : List Nat} : a ∈ insertN l x ↔ a = x ∨ a ∈ l := by
  induction l with
  | nil => simp [insertN]
  | cons k l ih =>
    simp only [insertN]
    split
    · next h => simp [h]
    · split
      · simp
      · simp [ih, or_left_comm]

/-- Only its own engine goes into reset (R37). -/
theorem sideband_awake (s : State) {e : Nat} {r : Requester} (h : r ≠ .engine e) : r.awake (s.sideband e) = r.awake s := by
  cases r with
  | engine i =>
    have hi : i ≠ e := fun c => h (congrArg _ c)
    simp [Requester.awake, State.awake, sideband_gal, mem_insertN, hi]
  | session _ => rfl
  | sid0 => rfl

/-! ### The commands -/

theorem exec_semAcquire_eq (s : State) (n : Nat) (readers : List Requester) (now : SemNow) :
    exec (.semAcquire n readers now) s = execSemAcquire n readers s now := rfl

theorem exec_semRelease_eq (s : State) (n : Nat) (who : Requester) (w : Word) :
    exec (.semRelease n who w) s = execSemRelease n who w s := rfl

theorem exec_semForce_eq (s : State) (who : Requester) (w : Word) : exec (.semForce who w) s = execSemForce who w s := rfl

@[simp] theorem begin_awake (s : State) (r : Requester) : r.awake s.begin = r.awake s := by cases r <;> rfl

/-- A read once the clock's release or abandonment has come first (R47): a semaphore free by then goes to the winner. -/
theorem exec_semAcquire_of_winner {s t : State} {n e : Nat} {readers : List Requester} {now : SemNow}
    (hnow : s.begin.semNow n now = t) (free : t.get (F.SEM_SEMn_OWNER.at n) = 31) (up : ∀ r ∈ readers, r.awake t = true)
    (win : semWinner t.gal.semLast (readers.filterMap Requester.acquirer) = some e) :
    ∃ u, exec (.semAcquire n readers now) s = .next u ∧ u.get (F.SEM_SEMn_OWNER.at n) = e ∧
      u.get (F.SEM_SEMn_ABANDONED.at n) = 0 ∧ u.gal = { t.gal with semLast := e } := by
  subst hnow
  have all : readers.filter (Requester.awake (s.begin.semNow n now)) = readers := List.filter_eq_self.2 up
  refine ⟨s.after ((s.begin.semNow n now).semRead n readers), ?_, semRead_of_winner _ free win⟩
  simp only [exec_semAcquire_eq, execSemAcquire, State.act, all]

/-- A read of a semaphore that is owned leaves the registers and the Gallery (R42). -/
theorem exec_semAcquire_of_owned (s : State) {n : Nat} (readers : List Requester) (owned : s.get (F.SEM_SEMn_OWNER.at n) ≠ 31) :
    ∃ t, exec (.semAcquire n readers .none_) s = .next t ∧ t.regs = s.regs ∧ t.gal = s.gal :=
  ⟨_, exec_semAcquire_eq .., semRead_of_owned s.begin (readers.filter (Requester.awake s.begin)) owned⟩

/-- A release write of an engine that is out of reset is the release alone. -/
theorem exec_semRelease_of_awake (s : State) (n : Nat) {who : Requester} (w : Word) (up : who.awake s = true) :
    exec (.semRelease n who w) s = .next (s.after (s.begin.semRelease n who w)) := by
  simp only [exec_semRelease_eq, execSemRelease, State.act, State.when, begin_awake, up, if_true]

/-- A requester that may write passes the gate, outside Recovery (R531, R534). -/
theorem gate_of_not_recovery (s : State) {who : Requester} {least : Nat} (f : State → State) (role : least ≤ s.roleOf who)
    (mode : s.mode ≠ .recovery) : s.gate who least f = f s := by
  unfold State.gate
  rw [if_neg (Nat.not_lt.2 role)]
  cases who <;> simp [mode]

/-- A forced release in Stop or Hold abandons the semaphore it names (R48). -/
theorem semForce_of_stop_or_hold (s : State) {w : Word} (live : s.live = true) (mode : s.mode = .stop ∨ s.mode = .hold)
    (go : bit w.toNat 31 = true) :
    s.semForce w = ((s.put F.SEM_FORCE_INDEX (bits w.toNat 6 0)).semAbandon (bits w.toNat 6 0), St.done) := by
  rcases mode with mode | mode <;> simp only [State.semForce, live, mode, go] <;> rfl

/-- Settles O1: a read after what comes first in its clock is `exec_semAcquire_of_winner`, for each of the three things that can. -/
theorem semaphoresChangeHands : Obligations.SemaphoresChangeHands := by
  refine ⟨?free, ?owned, ?release, ?abandon, ?own, ?foreign, ?force⟩
  case free =>
    intro s n e readers _ free up win
    obtain ⟨t, ht, owner, mark, gal⟩ := exec_semAcquire_of_winner (s := s) (now := .none_) rfl free up win
    exact ⟨t, ht, owner, mark, by rw [gal]⟩
  case owned => exact fun s n readers owned => exec_semAcquire_of_owned s readers owned
  case release =>
    intro s n e who readers _ own up win
    have hnow : s.begin.semNow n (.release who) = s.begin.put (F.SEM_SEMn_OWNER.at n) 31 :=
      semRelease_of_owner s.begin (by decide) own
    obtain ⟨t, ht, owner, mark, gal⟩ := exec_semAcquire_of_winner hnow (by simp) up win
    exact ⟨t, ht, owner, mark, by rw [gal]⟩
  case abandon =>
    intro s n e readers hn engine up win
    have hnow : s.begin.semNow n .abandon = s.begin.sideband (s.get (F.SEM_SEMn_OWNER.at n)) := if_pos engine
    have free := sideband_semOwner s.begin (s.get (F.SEM_SEMn_OWNER.at n)) hn
    rw [State.begin_get, if_pos rfl] at free
    obtain ⟨t, ht, owner, mark, gal⟩ := exec_semAcquire_of_winner hnow free
      (fun r hr => (sideband_awake s.begin (up r hr).2).trans (up r hr).1) (by rw [sideband_gal]; exact win)
    rw [sideband_gal] at gal
    exact ⟨t, ht, owner, mark, by rw [gal], by rw [gal]; rfl⟩
  case own =>
    intro s n who w hn up go own
    refine ⟨_, exec_semRelease_of_awake s n w up, ?_⟩
    rw [semRelease_of_owner s.begin go own]
    exact ⟨by simp, fun m _ hm => semOwner_put_semOwner_ne s.begin 31 hm, semErrForeign_put_semOwner s.begin 31 hn, rfl⟩
  case foreign =>
    intro s n who w hn up go foreign
    refine ⟨_, exec_semRelease_of_awake s n w up, ?_⟩
    rw [semRelease_of_foreign s.begin go foreign]
    exact ⟨fun m hm => semOwner_put_semErrForeign s.begin _ hm, rfl, by simp⟩
  case force =>
    intro s who w live mode up role go
    have notRecovery : s.begin.mode ≠ .recovery := by rcases mode with mode | mode <;> simp [mode]
    refine ⟨_, exec_semForce_eq s who w, ?_⟩
    simp only [State.when, begin_awake, up, if_true, gate_of_not_recovery s.begin _ role notRecovery,
      semForce_of_stop_or_hold s.begin live mode go]
    simp

end Sys2Proof.Machine

/-!
How a section executes an instruction (R171 to R178, R194, R195): the section that a state holds, what an operand's read can do, and one
rule for every instruction, `act_issue_of_canIssue`. It asks what the instruction does to the section and that the counter stays in the
code; the arithmetic, the timers and counters and the flow of control are then a rule per instruction.
-/
namespace Sys2Proof.Machine

/-! ### The section that a state holds -/

theorem setAt_eq_set {α : Type} (l : List α) (k : Nat) (x : α) : setAt l k x = l.set k x := by
  induction l generalizing k with
  | nil => rfl
  | cons a l ih =>
    cases k with
    | zero => rfl
    | succ k => exact congrArg (a :: ·) (ih k)

@[simp] theorem State.modSect_sects_length (s : State) (k : Nat) (g : Sect → Sect) :
    (s.modSect k g).prog.sects.length = s.prog.sects.length := by
  simp [State.modSect, setAt_eq_set]

theorem State.sect_modSect (s : State) {k : Nat} (g : Sect → Sect) (hk : k < s.prog.sects.length) :
    (s.modSect k g).sect k = g (s.sect k) := by
  simp [State.sect, State.modSect, setAt_eq_set, hk]

theorem State.modSect_congr {s : State} {k : Nat} {g g' : Sect → Sect} (h : g (s.sect k) = g' (s.sect k)) :
    s.modSect k g = s.modSect k g' :=
  congrArg (fun x => { s with prog := { s.prog with sects := setAt s.prog.sects k x } }) h

/-- What an update keeps of a section stays in every section. -/
theorem State.sect_modSect_keeps {α : Type} (p : Sect → α) (s : State) (k j : Nat) {g : Sect → Sect} (hg : ∀ x, p (g x) = p x) :
    p ((s.modSect k g).sect j) = p (s.sect j) := by
  simp only [State.sect, State.modSect, setAt_eq_set, List.getD_eq_getElem?_getD, List.getElem?_set]
  split
  · next h =>
    subst h
    split
    · exact hg _
    · next out => rw [List.getElem?_eq_none (Nat.le_of_not_lt out)]
  · rfl

/-- A section's code is that of the program in force. -/
theorem State.code_of_pkg {s t : State} (h : t.prog.pkg = s.prog.pkg) (k : Nat) : t.code k = s.code k := by
  simp only [State.code, h]

theorem Sect.pc_of_core {x y : Sect} (h : x.core = y.core) : x.pc = y.pc := show x.core.pc = y.core.pc by rw [h]

theorem Sect.ended_of_core {x y : Sect} (h : x.core = y.core) : x.ended = y.ended := show x.core.ended = y.core.ended by rw [h]

theorem Sect.trap_of_core {x y : Sect} (h : x.core = y.core) : x.trap = y.trap := show x.core.trap = y.core.trap by rw [h]

/-! ### What an access charges and counts -/

/-- For section k, `t` differs from `s` in the accounts of the cycle alone; it is in the same program. -/
structure State.Charged (k : Nat) (s t : State) : Prop where
  pkg : t.prog.pkg = s.prog.pkg
  sects : t.prog.sects.length = s.prog.sects.length
  core : (t.sect k).core = (s.sect k).core

theorem State.Charged.refl (k : Nat) (s : State) : Charged k s s := ⟨rfl, rfl, rfl⟩

theorem State.Charged.symm {k : Nat} {s t : State} (st : Charged k s t) : Charged k t s :=
  ⟨st.pkg.symm, st.sects.symm, st.core.symm⟩

theorem State.Charged.trans {k : Nat} {s t u : State} (st : Charged k s t) (tu : Charged k t u) : Charged k s u :=
  ⟨tu.pkg.trans st.pkg, tu.sects.trans st.sects, tu.core.trans st.core⟩

theorem State.Charged.ite {k : Nat} {s t u : State} {c : Prop} [Decidable c] (st : Charged k s t) (su : Charged k s u) :
    Charged k s (if c then t else u) := by
  split <;> assumption

theorem State.charged_of_prog {s t : State} (k : Nat) (h : t.prog = s.prog) : Charged k s t :=
  ⟨by rw [h], by rw [h], by simp only [State.sect, h]⟩

theorem State.charged_modSect (s : State) (k : Nat) {g : Sect → Sect} (hg : ∀ x, (g x).core = x.core) : Charged k s (s.modSect k g) :=
  ⟨rfl, s.modSect_sects_length k g, s.sect_modSect_keeps Sect.core k k hg⟩

/-- An instruction does the same to the section after a charge as before it. -/
theorem State.Charged.modSect {k : Nat} {s t : State} {g : Sect → Sect} (st : Charged k s t) (hk : k < s.prog.sects.length)
    (hg : ∀ x, (g x).core = g x.core) : Charged k (s.modSect k g) (t.modSect k g) := by
  refine ⟨st.pkg, by simpa using st.sects, ?_⟩
  rw [t.sect_modSect g (st.sects ▸ hk), s.sect_modSect g hk, hg, hg, st.core]

theorem State.charged_clocks (s : State) (k n : Nat) : Charged k s (s.clocks k n) := s.charged_modSect k fun _ => rfl

theorem State.charged_regInstr (s : State) (k n : Nat) (g : Sect → Sect) : Charged k (s.modSect k g) (s.regInstr k n g) :=
  (s.modSect k g).charged_clocks k n

theorem State.charged_rangeAccess (s : State) (k : Nat) : Charged k s (s.rangeAccess k) := s.charged_modSect k fun _ => rfl

theorem State.charged_foreignAccess (s : State) (k : Nat) : Charged k s (s.foreignAccess k) := by
  have marked : Charged k s ((s.inc (F.PLX_SECT_FOREIGN_COUNT.at k)).modSect k fun x => { x with foreign := true }) :=
    (State.charged_of_prog k rfl : Charged k s (s.inc (F.PLX_SECT_FOREIGN_COUNT.at k))).trans (State.charged_modSect _ k fun _ => rfl)
  exact .ite (marked.trans (State.charged_of_prog k (State.log_prog ..))) marked

theorem State.charged_chargeRead (s : State) (k a o : Nat) : Charged k s (s.chargeRead k a o) :=
  .ite (s.charged_clocks k 2) (.refl k s)

theorem State.charged_waited (s t : State) (k wait : Nat) : Charged k t (s.waited t k wait) :=
  .ite (t.charged_clocks k wait) (.refl k t)

/-! ### What a read can do -/

/-- A read leaves the state, or counts an access beyond the area or to a foreign element (R123, R178). -/
theorem State.charged_readElem (s : State) (k : Nat) (word : Bool) (a o : Nat) : Charged k s (s.readElem k word a o).1 := by
  have same := State.Charged.refl k s
  have beyond := s.charged_rangeAccess k
  have foreign := s.charged_foreignAccess k
  unfold State.readElem
  cases s.forcedAt a o <;> simp only [apply_ite Prod.fst, ite_self]
  all_goals repeat' first | assumption | apply State.Charged.ite

theorem State.charged_wordOp (s : State) (k mode opnd wait : Nat) : Charged k s (s.wordOp k mode opnd wait).1 := by
  unfold State.wordOp
  split
  · exact .refl k s
  · split
    · exact .refl k s
    · exact (s.charged_readElem k true _ _).trans ((State.charged_chargeRead ..).trans (State.charged_waited ..))

/-! ### The state in which an instruction acts -/

/-- The state in which an instruction of section k acts: nothing is emitted yet, and the counter has moved on past it (R171). -/
def State.onward (s : State) (k : Nat) : State := s.begin.modSect k fun x => { x with pc := x.pc + 1, passBrk := false }

@[simp] theorem State.onward_sects_length (s : State) (k : Nat) : (s.onward k).prog.sects.length = s.prog.sects.length :=
  s.begin.modSect_sects_length k _

theorem State.onward_sect (s : State) {k : Nat} (hk : k < s.prog.sects.length) :
    (s.onward k).sect k = { s.sect k with pc := (s.sect k).pc + 1, passBrk := false } :=
  s.begin.sect_modSect _ hk

/-- Of every section all but the counter and the mark of a breakpoint stands. -/
theorem State.onward_keeps {α : Type} (p : Sect → α) (s : State) (k j : Nat)
    (hp : ∀ x : Sect, p { x with pc := x.pc + 1, passBrk := false } = p x) : p ((s.onward k).sect j) = p (s.sect j) :=
  s.begin.sect_modSect_keeps p k j hp

@[simp] theorem State.onward_ownerOf (s : State) (k a o : Nat) : (s.onward k).ownerOf a o = s.ownerOf a o := rfl

@[simp] theorem State.onward_forcedAt (s : State) (k a o : Nat) : (s.onward k).forcedAt a o = s.forcedAt a o := rfl

@[simp] theorem State.onward_committed (s : State) (k a o : Nat) : (s.onward k).committed a o = s.committed a o := rfl

@[simp] theorem State.onward_operand (s : State) (k j mode opnd : Nat) : (s.onward k).operand j mode opnd = s.operand j mode opnd := by
  simp only [State.operand, s.onward_keeps Sect.xi k j fun _ => rfl]
  rfl

@[simp] theorem State.onward_working (s : State) (k j a o : Nat) : (s.onward k).working j a o = s.working j a o := by
  simp only [State.working, s.onward_keeps Sect.work k j fun _ => rfl]
  rfl

@[simp] theorem State.onward_timerOf (s : State) (k j i : Nat) : (s.onward k).timerOf j i = s.timerOf j i := by
  simp only [State.timerOf, s.onward_keeps Sect.wT k j fun _ => rfl]
  rfl

@[simp] theorem State.onward_counterOf (s : State) (k j i : Nat) : (s.onward k).counterOf j i = s.counterOf j i := by
  simp only [State.counterOf, s.onward_keeps Sect.wC k j fun _ => rfl]
  rfl

@[simp] theorem State.onward_hasSect (s : State) (k j : Nat) : (s.onward k).hasSect j = s.hasSect j := by
  simp only [State.hasSect, s.onward_keeps Sect.st k j fun _ => rfl]

@[simp] theorem State.onward_sysWord (s : State) (k o : Nat) : (s.onward k).sysWord o = s.sysWord o := by
  simp only [State.sysWord, s.onward_keeps Sect.slots k _ fun _ => rfl]
  rfl

/-- A read sees there what it sees before the instruction (R123 to R125, R160, R174). -/
@[simp] theorem State.onward_readElem_snd (s : State) (k j : Nat) (word : Bool) (a o : Nat) :
    ((s.onward k).readElem j word a o).2 = (s.readElem j word a o).2 := by
  have inputs : (s.onward k).prog.inputs = s.prog.inputs := rfl
  unfold State.readElem
  simp only [inputs, s.onward_keeps Sect.scratch k j fun _ => rfl, s.onward_keeps Sect.xblk k j fun _ => rfl,
    State.onward_committed, State.onward_sysWord, State.onward_ownerOf, State.onward_forcedAt, State.onward_timerOf,
    State.onward_counterOf, State.onward_working, State.onward_hasSect]
  cases s.forcedAt a o <;> simp only [apply_ite Prod.snd]

@[simp] theorem State.onward_wordOp_snd (s : State) (k mode opnd wait : Nat) :
    ((s.onward k).wordOp k mode opnd wait).2 = s.opVal k mode opnd := by
  simp only [State.opVal, State.wordOp, State.onward_operand]
  split
  · rfl
  · split
    · rfl
    · simp

/-! ### One rule for every instruction -/

theorem State.canIssue.sect_lt {s : State} {k opc mode opnd : Nat} (h : s.canIssue k opc mode opnd) : k < s.prog.sects.length := by
  obtain ⟨-, -, hk, -⟩ := h
  exact hk

theorem State.runsOn.sect_lt {s : State} {k opc mode opnd : Nat} (h : s.runsOn k opc mode opnd) : k < s.prog.sects.length :=
  h.1.sect_lt

/-- An instruction that a section can issue acts; then the section traps if it stands beyond its code and has not ended (R171, R194). -/
theorem State.act_issue_eq {s : State} {k opc mode opnd : Nat} (f : State → State) (h : s.canIssue k opc mode opnd) :
    s.act (fun s => s.issue k opc mode opnd f) = .next (s.after
      (if !((f (s.onward k)).sect k).ended && decide (((f (s.onward k)).code k).length ≤ ((f (s.onward k)).sect k).pc) then
        (f (s.onward k)).trapAt k 5 ((f (s.onward k)).sect k).pc
      else f (s.onward k))) := by
  obtain ⟨live, run, -, executing, ended, brk, word⟩ := h
  have may : (s.live && decide (s.mode = .run) && decide ((s.sect k).st = .executing) && !(s.sect k).ended && !s.atBreak k
      && decide ((s.code k)[(s.sect k).pc]? = some (opWord opc mode opnd))) = true := by
    simp [live, run, executing, ended, brk, word]
  have issued : s.begin.issue k opc mode opnd f = s.begin.advance k f := if_pos may
  exact congrArg (fun t => Host.Outcome.next (s.after t)) issued

/-- What an instruction does to the section: `g` at the counter that has moved on, and its charges, if the section then has ended or
stands within its code. -/
theorem State.act_issue_of_canIssue {s : State} {k opc mode opnd : Nat} {f : State → State} {g : Sect → Sect} {x : Sect}
    (h : s.canIssue k opc mode opnd) (act : Charged k ((s.onward k).modSect k g) (f (s.onward k)))
    (core : (g { s.sect k with pc := (s.sect k).pc + 1, passBrk := false }).core = x)
    (stay : x.ended = true ∨ x.pc < (s.code k).length) :
    ∃ t, s.act (fun s => s.issue k opc mode opnd f) = .next t ∧ (t.sect k).core = x := by
  have hk := h.sect_lt
  have done : ((f (s.onward k)).sect k).core = x := by
    rw [act.core, State.sect_modSect _ g (by simpa using hk), s.onward_sect hk, core]
  have code : (f (s.onward k)).code k = s.code k := State.code_of_pkg act.pkg k
  have ended : ((f (s.onward k)).sect k).ended = x.ended := by rw [← done]; rfl
  have pc : ((f (s.onward k)).sect k).pc = x.pc := by rw [← done]; rfl
  refine ⟨_, State.act_issue_eq f h, ?_⟩
  rw [if_neg (by rw [ended, pc, code]; rcases stay with e | lt <;> simp [*])]
  exact done

/-- The same at an instruction after which another follows, if it leaves the counter. -/
theorem State.act_issue_of_runsOn {s : State} {k opc mode opnd : Nat} {f : State → State} {g : Sect → Sect} {x : Sect}
    (h : s.runsOn k opc mode opnd) (act : Charged k ((s.onward k).modSect k g) (f (s.onward k)))
    (core : (g { s.sect k with pc := (s.sect k).pc + 1, passBrk := false }).core = x) (pc : x.pc = (s.sect k).pc + 1) :
    ∃ t, s.act (fun s => s.issue k opc mode opnd f) = .next t ∧ (t.sect k).core = x :=
  State.act_issue_of_canIssue h.1 act core (.inr (pc ▸ h.2))

theorem State.charged_trapAt (s : State) (k code pc : Nat) :
    Charged k (s.modSect k fun x => { x with trap := some (code, pc), ended := true, pc := pc, endClk := x.clk }) (s.trapAt k code pc) :=
  State.charged_of_prog k (State.vitTrigger_prog ..)

/-- A trap at the instruction: the section ends there with the trap's code (R195). -/
theorem State.act_issue_of_trap {s : State} {k opc mode opnd code : Nat} {f : State → State}
    (h : s.canIssue k opc mode opnd) (act : f (s.onward k) = (s.onward k).trapHere k code) :
    ∃ t, s.act (fun s => s.issue k opc mode opnd f) = .next t ∧ (t.sect k).trap = some (code, (s.sect k).pc) ∧
      (t.sect k).ended = true := by
  have trapped : f (s.onward k) = (s.onward k).trapAt k code (s.sect k).pc := by
    rw [act, State.trapHere, s.onward_sect h.sect_lt]; rfl
  obtain ⟨t, ht, core⟩ := State.act_issue_of_canIssue h (trapped ▸ State.charged_trapAt _ k code _) rfl (.inl rfl)
  exact ⟨t, ht, Sect.trap_of_core core, Sect.ended_of_core core⟩

/-- An instruction that is the last of the code and leaves the counter is followed by the trap RUN_OFF (R194, log entry 68). -/
theorem State.act_issue_of_last {s : State} {k opc mode opnd : Nat} {f : State → State}
    (h : s.canIssue k opc mode opnd) (act : Charged k (s.onward k) (f (s.onward k))) (last : (s.sect k).pc + 1 = (s.code k).length) :
    ∃ t, s.act (fun s => s.issue k opc mode opnd f) = .next t ∧ (t.sect k).trap = some (5, (s.sect k).pc + 1) ∧
      (t.sect k).ended = true := by
  obtain ⟨-, -, hk, -, running, -⟩ := id h
  have core := act.core
  rw [s.onward_sect hk] at core
  have pc : ((f (s.onward k)).sect k).pc = (s.sect k).pc + 1 := Sect.pc_of_core core
  have ended : ((f (s.onward k)).sect k).ended = (s.sect k).ended := (Sect.ended_of_core core).trans rfl
  have code : (f (s.onward k)).code k = s.code k := State.code_of_pkg act.pkg k
  have trap := ((f (s.onward k)).charged_trapAt k 5 ((s.sect k).pc + 1)).core
  rw [State.sect_modSect _ _ (by simpa [act.sects] using hk)] at trap
  refine ⟨_, State.act_issue_eq f h, ?_⟩
  rw [if_pos (by simp [ended, pc, code, running, last]), pc]
  exact ⟨Sect.trap_of_core trap, Sect.ended_of_core trap⟩

end Sys2Proof.Machine

/-!
Word arithmetic (R180 to R182, R188, R189). The result and the flags of each operation as an equation, then O17.
-/
namespace Sys2Proof.Machine

/-! ### A word instruction -/

/-- A word instruction does its operation on the section, at the word of its operand; the reads are charged. -/
theorem State.charged_wordInstr {s : State} {k : Nat} (mode opnd wait clk : Nat) {f : Sect → Word → Sect}
    (hk : k < s.prog.sects.length) (hf : ∀ x v, (f x v).core = f x.core v) :
    Charged k (s.modSect k fun x => f x (s.wordOp k mode opnd wait).2) (s.wordInstr k mode opnd wait clk f) :=
  ((s.charged_wordOp k mode opnd wait).modSect hk fun x => hf x _).trans (State.charged_clocks ..)

theorem State.act_wordInstr {s : State} {k opc mode opnd wait clk : Nat} {f : Sect → Word → Sect} {x : Sect}
    (h : s.runsOn k opc mode opnd) (hf : ∀ x v, (f x v).core = f x.core v)
    (core : f { (s.sect k).core with pc := (s.sect k).pc + 1 } (s.opVal k mode opnd) = x) (pc : x.pc = (s.sect k).pc + 1) :
    ∃ t, s.act (fun s => s.issue k opc mode opnd fun s => s.wordInstr k mode opnd wait clk f) = .next t ∧ (t.sect k).core = x := by
  refine State.act_issue_of_runsOn h (State.charged_wordInstr mode opnd wait clk ?_ hf) ?_ pc
  · simpa using h.sect_lt
  · rw [hf, State.onward_wordOp_snd]
    exact core

/-! ### Results and flags -/

theorem not_fitsI32 (z : Int) : (!fitsI32 z) = decide (z < -2 ^ 31 ∨ 2 ^ 31 ≤ z) := by
  rw [fitsI32, minI32, maxI32, ← Bool.decide_and, ← decide_not, decide_eq_decide]
  omega

theorem clampI_eq (z : Int) : clampI minI32 maxI32 z = max (-2 ^ 31) (min (2 ^ 31 - 1) z) := by
  simp only [clampI, minI32, maxI32]
  omega

/-- Arithmetic on WA gives its result with Z and N, the carry, and an OV that stays (R182, R188). -/
theorem arith_eq (x : Sect) {z : Int} {sat cy : Bool} {r : Word} (hr : BitVec.ofInt 32 (if sat then clampI minI32 maxI32 z else z) = r) :
    arith x z sat cy = { x with
      wa := r, z := decide (r = 0), n := r.msb, cy := cy, ov := x.ov || decide (z < -2 ^ 31 ∨ 2 ^ 31 ≤ z) } := by
  subst hr
  simp only [arith, raiseOV, not_fitsI32]
  rfl

/-- A saturating form gives the word whose value is the clamped result (R188). -/
theorem arith_saturating (x : Sect) {z : Int} (cy : Bool) {r : Word} (hr : r.toInt = max (-2 ^ 31) (min (2 ^ 31 - 1) z)) :
    arith x z true cy = { x with
      wa := r, z := decide (r = 0), n := r.msb, cy := cy, ov := x.ov || decide (z < -2 ^ 31 ∨ 2 ^ 31 ≤ z) } :=
  arith_eq x (by rw [if_pos rfl, clampI_eq, ← hr, BitVec.ofInt_toInt])

theorem ofInt_toInt_add (a v : Word) : BitVec.ofInt 32 (a.toInt + v.toInt) = a + v := by
  rw [BitVec.ofInt_add, BitVec.ofInt_toInt, BitVec.ofInt_toInt]

theorem ofInt_toInt_sub (a v : Word) : BitVec.ofInt 32 (a.toInt - v.toInt) = a - v := by
  rw [Int.sub_eq_add_neg, BitVec.ofInt_add, BitVec.ofInt_neg, BitVec.ofInt_toInt, BitVec.ofInt_toInt, BitVec.sub_eq_add_neg]

theorem mulRes_eq (x : Sect) (v : Word) {p : Int} {w : BitVec 64} (hp : p = x.wa.toInt * v.toInt) (hw : w = BitVec.ofInt 64 p) :
    mulRes x v = { x with
      wa := w.extractLsb' 0 32, wb := w.extractLsb' 32 32, z := decide (p = 0), n := decide (p < 0), cy := false
      ov := x.ov || decide (p < -2 ^ 31 ∨ 2 ^ 31 ≤ p) } := by
  subst hw hp
  simp only [mulRes, raiseOV, not_fitsI32]

/-! ### Division (R189) -/

theorem divRes_core (x : Sect) (v : Word) : (divRes x v).core = divRes x.core v := by
  unfold divRes
  dsimp only [Sect.core]
  split
  · rfl
  · split <;> rfl

/-- A quotient truncates, and the remainder has the sign of the dividend. -/
theorem divRes_of_ne_zero (x : Sect) {v q r : Word} (ne : v.toInt ≠ 0) (fits : ¬(x.wa.toInt = -2 ^ 31 ∧ v.toInt = -1))
    (hq : q.toInt = Int.tdiv x.wa.toInt v.toInt) (hr : r.toInt = Int.tmod x.wa.toInt v.toInt) :
    divRes x v = { x with wa := q, wb := r, z := decide (q = 0), n := q.msb, cy := false } := by
  unfold divRes
  rw [if_neg ne, if_neg (c := x.wa.toInt = minI32 ∧ v.toInt = -1) fits, ← hq, ← hr, BitVec.ofInt_toInt, BitVec.ofInt_toInt]
  rfl

/-- Division by 0 gives the largest word of the dividend's sign. -/
theorem divRes_zero (x : Sect) {v r : Word} (hv : v = 0) (hr : r = if x.wa.msb then 0x80000000 else 0x7FFFFFFF) :
    divRes x v = { x with wa := r, wb := 0, z := false, n := r.msb, cy := false, ov := true } := by
  subst hv hr
  unfold divRes
  rw [if_pos (by rfl), BitVec.msb_eq_toInt]
  by_cases neg : x.wa.toInt < 0
  · simp only [neg, Int.not_le.2 neg, decide_true, if_true, if_false]; rfl
  · simp only [neg, Int.not_lt.1 neg, decide_false, if_true]; rfl

/-- The quotient of the least word by -1 does not fit, and clamps. -/
theorem divRes_overflow (x : Sect) {v : Word} (hx : x.wa = 0x80000000) (hv : v = 0xFFFFFFFF) :
    divRes x v = { x with wa := 0x7FFFFFFF, wb := 0, z := false, n := false, cy := false, ov := true } := by
  unfold divRes
  rw [hx, hv, if_neg (by decide), if_pos (by decide)]
  rfl

/-- Settles O17: each clause is `act_wordInstr` at the equation of its operation. -/
theorem arithmeticGivesResultAndFlags : Obligations.ArithmeticGivesResultAndFlags := by
  refine ⟨?add, ?adds, ?sub, ?subs, ?mul, ?muls, ?div, ?divZero, ?divOverflow⟩
  case add =>
    rintro s k mode opnd wait v r h rfl rfl
    exact State.act_wordInstr h (fun _ _ => rfl) (arith_eq _ (ofInt_toInt_add _ _)) rfl
  case adds =>
    rintro s k mode opnd wait v r h rfl hr
    exact State.act_wordInstr h (fun _ _ => rfl) (arith_saturating _ _ hr) rfl
  case sub =>
    rintro s k mode opnd wait v r h rfl rfl
    exact State.act_wordInstr h (fun _ _ => rfl) (arith_eq _ (ofInt_toInt_sub _ _)) rfl
  case subs =>
    rintro s k mode opnd wait v r h rfl hr
    exact State.act_wordInstr h (fun _ _ => rfl) (arith_saturating _ _ hr) rfl
  case mul =>
    intro s k mode opnd wait p w h hp hw
    exact State.act_wordInstr h (fun _ _ => rfl) (mulRes_eq _ _ hp hw) rfl
  case muls =>
    rintro s k mode opnd wait p r h rfl hr
    exact State.act_wordInstr h (fun _ _ => rfl) (arith_saturating _ _ hr) rfl
  case div =>
    rintro s k mode opnd wait a b q r h rfl rfl ne fits hq hr
    exact State.act_wordInstr h divRes_core (divRes_of_ne_zero _ ne fits hq hr) rfl
  case divZero =>
    intro s k mode opnd wait r h zero hr
    exact State.act_wordInstr h divRes_core (divRes_zero _ zero hr) rfl
  case divOverflow =>
    intro s k mode opnd wait h least minusOne
    exact State.act_wordInstr h divRes_core (divRes_overflow _ least minusOne) rfl

end Sys2Proof.Machine

/-!
Timers and counters (R160, R186, R187). What a timer or counter instruction does on an element of the section, free or
forced, then O20.
-/
namespace Sys2Proof.Machine

/-- An operand names an element of T or C that section k owns (R122, R178). -/
structure State.Names (s : State) (k mode opnd area off : Nat) : Prop where
  operand : s.operand k mode opnd = some (area, off)
  lt : off < areaSize area
  own : s.ownerOf area off = some k

theorem State.Names.onward {s : State} {k mode opnd area off : Nat} (h : s.Names k mode opnd area off) :
    (s.onward k).Names k mode opnd area off :=
  ⟨(s.onward_operand ..).trans h.operand, h.lt, h.own⟩

/-- No force holds a timer or a counter that `ownElem` names: it is no output. -/
theorem State.ownElem.names {s : State} {k mode opnd area off : Nat} (h : s.ownElem k mode opnd area off) (noOutput : 5 < area) :
    s.Names k mode opnd area off ∧ s.forcedAt area off = none := by
  obtain ⟨operand, lt, own, free | output⟩ := h
  · exact ⟨⟨operand, lt, own⟩, free⟩
  · omega

/-! ### Timers -/

/-- The element follows its diagram, and BA takes the done bit. -/
def runTimer (o : Nat) (t : Timer) (x : Sect) : Sect := { x with wT := SMap.insert x.wT o t, ba := t.q }

/-- BA takes the forced done bit of an element (R160). -/
def takeForced (v : Nat) (x : Sect) : Sect := { x with ba := decide (v ≠ 0) }

theorem State.charged_timerInstr {s : State} {k mode opnd o : Nat} (f : Timer → Bool → Nat → Timer)
    (names : s.Names k mode opnd 7 o) :
    Charged k (s.modSect k ((s.forcedAt 7 o).elim (runTimer o (f (s.timerOf k o) (s.sect k).ba (timerPT (s.sect k).wa))) takeForced))
      (s.timerInstr k mode opnd f) := by
  simp only [State.timerInstr, names.operand, if_neg (Nat.not_le.2 names.lt), names.own, ne_eq, not_true_eq_false, if_false]
  cases s.forcedAt 7 o <;> exact (State.charged_regInstr ..).trans (State.charged_clocks ..)

/-! ### Counters -/

/-- The element takes its count, and BA the done bit; a count held at its limit raises OV. -/
def runCounter (o : Nat) (c : Counter × Bool) (x : Sect) : Sect :=
  raiseOV { x with wC := SMap.insert x.wC o c.1, ba := c.1.done } c.2

/-- With BA at 1 the element takes WA as its count (R187). -/
def loadCounter (o : Nat) (c : Counter) (x : Sect) : Sect :=
  { x with wC := if x.ba then SMap.insert x.wC o { c with cv := x.wa } else x.wC }

theorem State.charged_counterInstr {s : State} {k mode opnd o : Nat} (f : Counter → Bool → Word → Counter × Bool)
    (names : s.Names k mode opnd 8 o) :
    Charged k (s.modSect k ((s.forcedAt 8 o).elim (runCounter o (f (s.counterOf k o) (s.sect k).ba (s.sect k).wa)) takeForced))
      (s.counterInstr k mode opnd f) := by
  simp only [State.counterInstr, names.operand, if_neg (Nat.not_le.2 names.lt), names.own, ne_eq, not_true_eq_false, if_false]
  cases s.forcedAt 8 o <;> exact (State.charged_regInstr ..).trans (State.charged_clocks ..)

theorem State.charged_loadCounter (s : State) (k o : Nat) (c : Counter) :
    Charged k (s.modSect k (loadCounter o c))
      (if !(s.sect k).ba then s else s.modSect k fun x => { x with wC := SMap.insert x.wC o { c with cv := x.wa } }) := by
  cases hb : (s.sect k).ba
  · have stays : loadCounter o c (s.sect k) = id (s.sect k) := by
      unfold loadCounter; rw [if_neg (by simp [hb])]; rfl
    rw [State.modSect_congr stays]
    exact (s.charged_modSect k fun _ => rfl).symm
  · have loads : s.modSect k (loadCounter o c) = s.modSect k fun x => { x with wC := SMap.insert x.wC o { c with cv := x.wa } } :=
      State.modSect_congr (by unfold loadCounter; rw [if_pos hb])
    rw [loads]
    exact .refl ..

theorem State.charged_cld {s : State} {k mode opnd o : Nat} (names : s.Names k mode opnd 8 o) :
    Charged k (s.modSect k ((s.forcedAt 8 o).elim (loadCounter o (s.counterOf k o)) takeForced)) (s.cld k mode opnd) := by
  simp only [State.cld, names.operand, names.lt, names.own, if_neg (Nat.not_le.2 names.lt)]
  cases s.forcedAt 8 o
  · exact (s.charged_loadCounter k o _).trans (State.charged_clocks ..)
  · exact State.charged_clocks ..

theorem toInt_eq_maxI32 {v : Word} : v.toInt = maxI32 ↔ v = 0x7FFFFFFF := BitVec.toInt_inj (y := 0x7FFFFFFF)

theorem toInt_eq_minI32 {v : Word} : v.toInt = minI32 ↔ v = 0x80000000 := BitVec.toInt_inj (y := 0x80000000)

/-- A rising edge adds 1, but at the limit, where the count is held (R187). -/
theorem Counter.up_eq (c : Counter) (inp : Bool) (pv : Word) {v : Word} {rise : Bool} (hr : rise = (inp && !c.edge))
    (hv : v = if rise && decide (c.cv ≠ 0x7FFFFFFF) then c.cv + 1 else c.cv) :
    c.up inp pv = (⟨v, decide (pv.toInt ≤ v.toInt), inp⟩, rise && decide (c.cv = 0x7FFFFFFF)) := by
  subst hv hr
  simp only [Counter.up, toInt_eq_maxI32]
  cases inp && !c.edge <;> simp

theorem Counter.down_eq (c : Counter) (inp : Bool) (pv : Word) {v : Word} {rise : Bool} (hr : rise = (inp && !c.edge))
    (hv : v = if rise && decide (c.cv ≠ 0x80000000) then c.cv - 1 else c.cv) :
    c.down inp pv = (⟨v, decide (v.toInt ≤ 0), inp⟩, rise && decide (c.cv = 0x80000000)) := by
  subst hv hr
  simp only [Counter.down, toInt_eq_minI32]
  cases inp && !c.edge <;> simp

/-! ### The clauses -/

section
variable {s : State} {k mode opnd a o opc : Nat}

/-- An instruction on an element that no force holds. -/
theorem State.act_issue_of_free {f : State → State} {g : Sect → Sect} {x : Sect} (h : s.runsOn k opc mode opnd)
    (free : s.forcedAt a o = none) (act : Charged k ((s.onward k).modSect k (((s.onward k).forcedAt a o).elim g takeForced))
      (f (s.onward k)))
    (core : (g { s.sect k with pc := (s.sect k).pc + 1, passBrk := false }).core = x) (pc : x.pc = (s.sect k).pc + 1) :
    ∃ t, s.act (fun s => s.issue k opc mode opnd f) = .next t ∧ (t.sect k).core = x := by
  rw [State.onward_forcedAt, free] at act
  exact State.act_issue_of_runsOn h act core pc

theorem State.act_timerInstr {f : Timer → Bool → Nat → Timer} {t : Timer} (own : s.ownElem k mode opnd 7 o)
    (h : s.runsOn k opc mode opnd) (ht : t = f (s.timerOf k o) (s.sect k).ba (timerPT (s.sect k).wa)) :
    ∃ u, s.act (fun s => s.issue k opc mode opnd fun s => s.timerInstr k mode opnd f) = .next u ∧
      (u.sect k).core = { (s.sect k).core with wT := SMap.insert (s.sect k).wT o t, ba := t.q, pc := (s.sect k).pc + 1 } := by
  obtain ⟨names, free⟩ := own.names (by decide)
  have act := State.charged_timerInstr f names.onward
  rw [s.onward_sect h.sect_lt, State.onward_timerOf, ← ht] at act
  exact State.act_issue_of_free h free act rfl rfl

theorem State.act_counterInstr {f : Counter → Bool → Word → Counter × Bool} {c : Counter} {held : Bool}
    (own : s.ownElem k mode opnd 8 o) (h : s.runsOn k opc mode opnd)
    (hc : f (s.counterOf k o) (s.sect k).ba (s.sect k).wa = (c, held)) :
    ∃ u, s.act (fun s => s.issue k opc mode opnd fun s => s.counterInstr k mode opnd f) = .next u ∧
      (u.sect k).core = { (s.sect k).core with
        wC := SMap.insert (s.sect k).wC o c, ba := c.done, ov := (s.sect k).ov || held, pc := (s.sect k).pc + 1 } := by
  obtain ⟨names, free⟩ := own.names (by decide)
  have act := State.charged_counterInstr f names.onward
  rw [s.onward_sect h.sect_lt, State.onward_counterOf, hc] at act
  exact State.act_issue_of_free h free act rfl rfl

theorem State.act_cld (own : s.ownElem k mode opnd 8 o) (h : s.runsOn k opc mode opnd) :
    ∃ u, s.act (fun s => s.issue k opc mode opnd fun s => s.cld k mode opnd) = .next u ∧
      (u.sect k).core = { (s.sect k).core with
        wC := if (s.sect k).ba then SMap.insert (s.sect k).wC o { s.counterOf k o with cv := (s.sect k).wa } else (s.sect k).wC
        pc := (s.sect k).pc + 1 } := by
  obtain ⟨names, free⟩ := own.names (by decide)
  have act := State.charged_cld names.onward
  rw [State.onward_counterOf] at act
  exact State.act_issue_of_free h free act rfl rfl

/-- An instruction on an element that a force holds (R160). -/
theorem State.act_issue_of_forced {f : State → State} {g : Sect → Sect} {v : Nat} (h : s.runsOn k opc mode opnd)
    (forced : s.forcedAt a o = some v)
    (act : Charged k ((s.onward k).modSect k (((s.onward k).forcedAt a o).elim g takeForced)) (f (s.onward k))) :
    ∃ u, s.act (fun s => s.issue k opc mode opnd f) = .next u ∧
      (u.sect k).core = { (s.sect k).core with ba := decide (v ≠ 0), pc := (s.sect k).pc + 1 } := by
  rw [State.onward_forcedAt, forced] at act
  exact State.act_issue_of_runsOn h act rfl rfl

end

/-- Settles O20: a free element of the section follows its diagram, a forced one stays. -/
theorem timersAndCountersFollowTheirInput : Obligations.TimersAndCountersFollowTheirInput := by
  refine ⟨?timers, ?counters, ?forced⟩
  case timers =>
    rintro s k mode opnd wait a o x own rfl
    exact ⟨State.act_timerInstr own, State.act_timerInstr own, State.act_timerInstr own⟩
  case counters =>
    rintro s k mode opnd wait a o v rise own rfl hr
    refine ⟨fun h hv => ?up, fun h hv => ?down, fun h => ?load⟩
    case up => exact State.act_counterInstr own h (Counter.up_eq _ _ _ hr hv)
    case down => exact State.act_counterInstr own h (Counter.down_eq _ _ _ hr hv)
    case load => exact State.act_cld own h
  case forced =>
    intro s k mode opnd wait a o v opc c operand lt own forced mem h
    have names := State.Names.onward ⟨operand, lt, own⟩
    simp only [List.mem_cons, Prod.mk.injEq, List.not_mem_nil, or_false] at mem
    obtain ⟨rfl, rfl, rfl⟩ | ⟨rfl, rfl, rfl⟩ | ⟨rfl, rfl, rfl⟩ |
      ⟨rfl, rfl, rfl⟩ | ⟨rfl, rfl, rfl⟩ | ⟨rfl, rfl, rfl⟩ := mem
    · exact State.act_issue_of_forced h forced (State.charged_timerInstr Timer.ton names)
    · exact State.act_issue_of_forced h forced (State.charged_timerInstr Timer.tof names)
    · exact State.act_issue_of_forced h forced (State.charged_timerInstr Timer.tp names)
    · exact State.act_issue_of_forced h forced (State.charged_counterInstr Counter.up names)
    · exact State.act_issue_of_forced h forced (State.charged_counterInstr Counter.down names)
    · exact State.act_issue_of_forced h forced (State.charged_cld names)

end Sys2Proof.Machine

/-!
Flow of control (R184, R192 to R195). What a jump, a call, a return and END do to the section, and the traps, then O21.
-/
namespace Sys2Proof.Machine

/-! ### Jumps, calls, returns and END -/

theorem State.charged_jump_taken (s : State) (k target : Nat) :
    Charged k (s.modSect k fun x => { x with pc := target }) (s.jump k target true) := State.charged_regInstr ..

theorem State.charged_jump_not_taken (s : State) (k target : Nat) : Charged k (s.modSect k id) (s.jump k target false) :=
  State.charged_regInstr ..

theorem State.charged_call (s : State) {k target : Nat} (room : (s.sect k).cs.length < 8) :
    Charged k (s.modSect k fun x => { x with cs := x.pc :: x.cs, pc := target }) (s.call k target) := by
  simp only [State.call, if_neg (Nat.not_le.2 room)]
  exact State.charged_regInstr ..

theorem State.charged_ret (s : State) {k p : Nat} {l : List Nat} (top : (s.sect k).cs = p :: l) :
    Charged k (s.modSect k fun x => { x with pc := p, cs := l }) (s.ret k) := by
  simp only [State.ret, top]
  exact State.charged_regInstr ..

/-- END takes the clocks spent, its own among them, as the section's account of the cycle. -/
theorem State.charged_end (s : State) {k : Nat} (hk : k < s.prog.sects.length) :
    Charged k (s.modSect k fun x => { x with ended := true, endClk := x.clk + 1 }) (s.end_ k) := by
  have spent := s.sect_modSect (fun x => { x with clk := x.clk + 1 }) hk
  refine ⟨rfl, by simp [State.end_, State.clocks], ?_⟩
  rw [State.end_, State.clocks, State.sect_modSect _ _ (by simpa using hk), spent, State.sect_modSect _ _ hk]
  rfl

/-! ### Full and empty stacks -/

theorem State.call_full (s : State) {k : Nat} (target : Nat) (full : (s.sect k).cs.length = 8) : s.call k target = s.trapHere k 3 := by
  simp only [State.call, full, Nat.le_refl, if_true]

theorem State.ret_empty (s : State) {k : Nat} (empty : (s.sect k).cs = []) : s.ret k = s.trapHere k 4 := by
  simp only [State.ret, empty]

theorem State.bopen_full (s : State) {k : Nat} (full : (s.sect k).bs.length = 16) : s.bopen k = s.trapHere k 1 := by
  simp only [State.bopen, full, Nat.le_refl, if_true]

/-! ### The clauses -/

section
variable {s : State} {k opc mode opnd target : Nat} {taken : State → Bool}

theorem State.act_jump_taken (h : s.canIssue k opc mode opnd) (ht : taken (s.onward k) = true) (lt : target < (s.code k).length) :
    ∃ t, s.act (fun s => s.issue k opc mode opnd fun s => s.jump k target (taken s)) = .next t ∧
      (t.sect k).core = { (s.sect k).core with pc := target } :=
  State.act_issue_of_canIssue h (by simpa only [ht] using State.charged_jump_taken ..) rfl (.inr lt)

theorem State.act_jump_not_taken (h : s.runsOn k opc mode opnd) (ht : taken (s.onward k) = false) :
    ∃ t, s.act (fun s => s.issue k opc mode opnd fun s => s.jump k target (taken s)) = .next t ∧
      (t.sect k).core = { (s.sect k).core with pc := (s.sect k).pc + 1 } :=
  State.act_issue_of_runsOn h (by simpa only [ht] using State.charged_jump_not_taken ..) rfl rfl

end

/-- Settles O21: each clause is the rule of its instruction, or its trap. -/
theorem controlFlowMovesTheCounter : Obligations.ControlFlowMovesTheCounter := by
  refine ⟨?moves, ?ret, ?end_, ?callFull, ?retEmpty, ?bopenFull, ?runOff⟩
  case moves =>
    intro s k mode opnd wait lt
    have ba := s.onward_keeps Sect.ba k k fun _ => rfl
    have cs := s.onward_keeps Sect.cs k k fun _ => rfl
    refine ⟨fun h => ?jmp, fun h hb => ?jmpc, fun h hb => ?jmpcStays, fun h hb => ?jmpcn, fun h hb => ?jmpcnStays, fun h room => ?call⟩
    case jmp => exact State.act_jump_taken h (taken := fun _ => true) rfl lt
    case jmpc => exact State.act_jump_taken h (taken := fun s => (s.sect k).ba) (ba.trans hb) lt
    case jmpcStays => exact State.act_jump_not_taken h (taken := fun s => (s.sect k).ba) (ba.trans hb)
    case jmpcn => exact State.act_jump_taken h (taken := fun s => !(s.sect k).ba) (by simp [ba, hb]) lt
    case jmpcnStays => exact State.act_jump_not_taken h (taken := fun s => !(s.sect k).ba) (by simp [ba, hb])
    case call => exact State.act_issue_of_canIssue h (State.charged_call _ (by rw [cs]; exact room)) rfl (.inr lt)
  case ret =>
    intro s k p l h top lt
    have cs := s.onward_keeps Sect.cs k k fun _ => rfl
    exact State.act_issue_of_canIssue h (State.charged_ret _ (cs.trans top)) rfl (.inr lt)
  case end_ =>
    intro s k h
    exact State.act_issue_of_canIssue h (State.charged_end _ (by simpa using h.sect_lt)) rfl (.inl rfl)
  case callFull =>
    intro s k mode opnd wait h full
    have cs := s.onward_keeps Sect.cs k k fun _ => rfl
    exact State.act_issue_of_trap h (State.call_full _ opnd (by rw [cs]; exact full))
  case retEmpty =>
    intro s k h empty
    have cs := s.onward_keeps Sect.cs k k fun _ => rfl
    exact State.act_issue_of_trap h (State.ret_empty _ (cs.trans empty))
  case bopenFull =>
    intro s k h full
    have bs := s.onward_keeps Sect.bs k k fun _ => rfl
    exact State.act_issue_of_trap h (State.bopen_full _ (by rw [bs]; exact full))
  case runOff =>
    intro s k h last
    exact State.act_issue_of_last h (State.charged_clocks ..) last

end Sys2Proof.Machine

section

/-! The theorems of this part are elaborated one after another: the text is long, and every thread of the elaborator reserves a stack of its own. -/

set_option Elab.async false

/-!
Every step (log entries 5 and 7). How a command can end, what a Gallery access and a DMA descriptor do to memory, then O56, O57, O58,
O59 and O60.
-/
namespace Sys2Proof.Machine

/-! ### The stages of a draw (R33) -/

/-- The clock of a draw has come: the LFSR stands at its value there, and what waits has waited on (R33, R34). -/
def State.drawClock (s : State) (clocks : Nat) : State :=
  (s.put F.GAL_LFSR_STATE (s.lfsrAtClock (Nat.max s.galClock s.gal.lfsrAt + clocks))).modGal fun g => { g with
    lfsrAt := Nat.max s.galClock s.gal.lfsrAt + clocks
    pending := g.pending.map fun p => { p with wait := p.wait + (Nat.max s.galClock s.gal.lfsrAt + clocks - s.gal.lfsrAt) } }

/-- What arrives is taken, and the LPDDR4X controller serves its own (R30). -/
def State.drawArrivals (s : State) (arrivals : List GalReq) : State :=
  (arrivals.foldl State.arrive s).ddrServe (11 * ((arrivals.filter s.ddrTakes).length + 1)) (arrivals.filter s.ddrTakes)

/-- A request at the bank whose tickets are gone is refused (R36). -/
def State.drawDenials (s : State) (b : Nat) : State :=
  let t := (s.gal.pending.filter fun p => p.bank = b && s.tickets b p.req.req = 0).foldl (fun s p => s.deny b p.req.req p.req.addr) s
  t.modGal fun g => { g with pending := g.pending.filter fun p => !(p.bank = b && t.tickets b p.req.req = 0) }

/-- The requesters that wait at a bank. -/
def State.waiting (s : State) (b : Nat) : List Nat :=
  (List.range 28).filter fun r => s.gal.pending.any fun p => p.bank = b && p.req.req = r

/-- A winner waits no longer, and the longest wait of its bank and its requester is kept. -/
def State.drawTake (s : State) (b r : Nat) (p : PendingReq) : State :=
  let s := s.modGal fun g => { g with pending := g.pending.erase p }
  let s := s.put (F.GAL_BSTAT_MAXWAIT.at b) (min 65535 (Nat.max (s.get (F.GAL_BSTAT_MAXWAIT.at b)) p.wait))
  s.put (F.GAL_WAITMAX_MAXWAIT.at r) (min 65535 (Nat.max (s.get (F.GAL_WAITMAX_MAXWAIT.at r)) p.wait))

/-- The draw of the LFSR's value `v`. -/
def State.drawWin (s : State) (b v beats : Nat) : State :=
  match s.lottery b v (s.waiting b) with
  | none => s
  | some r => match s.gal.pending.find? fun p => p.bank = b && p.req.req = r with
    | none => s
    | some p => (s.drawTake b r p).access p.req beats

theorem State.gallery_eq (s : State) (b clocks : Nat) (arrivals : List GalReq) (beats : Nat) :
    s.gallery b clocks arrivals beats = (((s.drawClock clocks).drawArrivals arrivals).drawDenials b).drawWin b
      (s.lfsrAtClock (Nat.max s.galClock s.gal.lfsrAt + clocks)) beats := rfl

/-! ### Memory under a Gallery access -/

@[simp] theorem State.accessFault_mem (s : State) (r a : Nat) : (s.accessFault r a).mem = s.mem := State.emit_mem ..

@[simp] theorem State.deny_mem (s : State) (b r a : Nat) : (s.deny b r a).mem = s.mem := State.accessFault_mem ..

theorem State.memOk_of_mem {s t : State} (h : s.memOk) (e : t.mem = s.mem) : t.memOk := by
  unfold State.memOk at *
  rwa [e]

theorem State.memOk_access {s : State} (h : s.memOk) (q : GalReq) (beats : Nat) : (s.access q beats).memOk :=
  State.wf_access s q beats h

theorem State.memOk_arrive {s : State} (h : s.memOk) (q : GalReq) : (s.arrive q).memOk := by
  unfold State.arrive
  repeat' split
  all_goals first | exact State.memOk_access h _ _ | exact State.memOk_of_mem h (by simp)

theorem State.memOk_ddrServe (n : Nat) : ∀ {s : State} (l : List GalReq), s.memOk → (s.ddrServe n l).memOk := by
  induction n with
  | zero => exact fun _ h => h
  | succ n ih =>
    intro s l h
    cases l with
    | nil => exact h
    | cons q l =>
      simp only [State.ddrServe]
      repeat' split
      · exact ih _ h
      · exact ih _ (State.memOk_access (s := s.modGal _) h _ _)
      · exact ih _ h

theorem foldl_memOk {α : Type} {f : State → α → State} (hf : ∀ s a, s.memOk → (f s a).memOk) (l : List α) :
    ∀ {s : State}, s.memOk → (l.foldl f s).memOk := by
  induction l with
  | nil => exact fun h => h
  | cons a l ih => exact fun h => ih (hf _ a h)

theorem State.memOk_drawArrivals {s : State} (h : s.memOk) (l : List GalReq) : (s.drawArrivals l).memOk :=
  State.memOk_ddrServe _ _ (foldl_memOk (fun _ q hs => State.memOk_arrive hs q) l h)

theorem State.drawDenials_mem (s : State) (b : Nat) : (s.drawDenials b).mem = s.mem := by
  unfold State.drawDenials
  exact foldl_keeps State.mem _ (fun _ _ => State.deny_mem ..) _ _

@[simp] theorem State.drawTake_mem (s : State) (b r : Nat) (p : PendingReq) : (s.drawTake b r p).mem = s.mem := by
  simp [State.drawTake]

theorem State.memOk_drawWin {s : State} (h : s.memOk) (b v beats : Nat) : (s.drawWin b v beats).memOk := by
  unfold State.drawWin
  repeat' split
  · exact h
  · exact h
  · exact State.memOk_access (State.memOk_of_mem h (State.drawTake_mem ..)) _ _

theorem State.memOk_gallery {s : State} (h : s.memOk) (b clocks : Nat) (arrivals : List GalReq) (beats : Nat) :
    (s.gallery b clocks arrivals beats).memOk := by
  rw [State.gallery_eq]
  refine State.memOk_drawWin (State.memOk_of_mem (State.memOk_drawArrivals (s := s.drawClock clocks) ?_ arrivals) (State.drawDenials_mem ..)) ..
  exact h

/-! ### Memory under a DMA descriptor -/

/-- A refusal of a DMA access leaves memory. -/
theorem State.dmaRefused_mem {s t : State} {d a n op : Nat} (h : s.dmaRefused d a n op = some t) : t.mem = s.mem := by
  unfold State.dmaRefused at h
  split at h <;> split at h <;> cases h <;> simp

theorem State.memOk_dmaCopy (d base : Nat) (ecc : List Nat) (k : Nat) :
    ∀ {s : State} (src dst len : Nat), s.memOk → (s.dmaCopy d base ecc k src dst len).memOk := by
  induction k with
  | zero => exact fun _ _ _ h => h
  | succ k ih =>
    intro s src dst len h
    cases len with
    | zero => exact h
    | succ len =>
      simp only [State.dmaCopy]
      split
      · next refused => exact State.memOk_of_mem h (State.dmaRefused_mem refused)
      · generalize (if (galleryBank src).isSome || inDdr src then ecc.getD (src / 8 - base / 8) 0 else 0) = found
        generalize hu : (if src = base || src % 8 = 0 then s.eccWord d (src / 8 * 8) found else s) = u
        have hu' : u.memOk := by rw [← hu]; split <;> exact State.memOk_of_mem h (by simp)
        split
        · exact State.memOk_of_mem hu' (by simp)
        · split
          · next refused => exact State.memOk_of_mem hu' (State.dmaRefused_mem refused)
          · exact ih _ _ _ (State.wf_putOctets _ _ _ hu')

theorem State.memOk_dma {s : State} (h : s.memOk) (writer d src dst len : Nat) (ecc : List Nat) :
    (s.dma writer d src dst len ecc).memOk := by
  unfold State.dma
  repeat' split
  · exact h
  · exact h
  · exact h
  · exact State.memOk_dmaCopy _ _ _ _ _ _ _ h

/-! ### A reset -/

/-- A reset of any cause: MRAM stays of memory. -/
theorem State.toReset_phase_mem (s : State) : s.toReset.phase = .reset ∧ s.toReset.mem = s.mem.filter keptCell := by
  unfold State.toReset
  dsimp only
  split <;> exact ⟨rfl, rfl⟩

@[simp] theorem State.rtcLock_mem (s : State) : s.rtcLock.mem = s.mem := by
  unfold State.rtcLock
  split
  · rfl
  · exact foldl_keeps State.mem _ (fun _ _ => State.put_mem ..) _ _

/-! ### How a command can end -/

/-- What a command may do to memory: nothing; what a reset clears; or what a Gallery access or a DMA descriptor does. -/
inductive Ends (s : State) : Instr → Res → Prop
  | act (c : Instr) (f : State → State) : Ends s c (s.act f)
  | actReset (c : Instr) (f : State → State) : Ends s c (s.actReset f)
  | actMem (c : Instr) (f : State → State)
    (h : (f s.begin).mem = s.mem ∨ ((f s.begin).phase = .reset ∧ (f s.begin).mem = s.mem.filter keptCell)) : Ends s c (s.actMem f)
  | gallery (b clocks beats : Nat) (arrivals direct : List GalReq) :
    Ends s (.galleryAccess b clocks arrivals beats direct) (s.actMem fun s => s.gallery b clocks (arrivals ++ direct) beats)
  | dma (writer d src dst len : Nat) (ecc : List Nat) :
    Ends s (.dmaDescriptor writer d src dst len ecc) (s.actMem fun s => s.dma writer d src dst len ecc)

/-- A reset under a condition leaves memory, or keeps MRAM of it. -/
theorem when_toReset_mem (s : State) (b : Bool) : (s.when b State.toReset).mem = s.mem ∨
    ((s.when b State.toReset).phase = .reset ∧ (s.when b State.toReset).mem = s.mem.filter keptCell) := by
  cases b
  · exact .inl rfl
  · exact .inr s.toReset_phase_mem

theorem exec_ends (c : Instr) (s : State) : Ends s c (exec c s) := by
  unfold exec
  cases c with
  | galleryAccess => exact .gallery ..
  | dmaDescriptor => exact .dma ..
  | reset => exact .actMem _ _ (.inr s.begin.toReset_phase_mem)
  | vinLoss => exact .actMem _ _ (.inr (State.rtcLock_mem s.begin ▸ s.begin.rtcLock.toReset_phase_mem))
  | thermalShutdown => exact .actMem _ _ (.inr (State.toReset_phase_mem _))
  | y0ModuleReset =>
    refine .actMem _ _ ?_
    split
    · exact when_toReset_mem s.begin _
    · exact .inl rfl
  | recoveryReset => exact .actMem _ _ (when_toReset_mem s.begin _)
  | selfTestComplete => exact .actReset ..
  | fuseProgramComplete => exact .actReset ..
  | tamperEvent => exact .actReset ..
  | frameBoundary => exact .actReset ..
  | _ => exact .act ..

/-- Every command completes and leaves the queue (log entry 7). -/
theorem exec_next (c : Instr) (s : State) : ∃ t, exec c s = .next t ∧ t.pending = s.pending := by
  have ends := exec_ends c s
  generalize exec c s = r at ends ⊢
  cases ends <;> exact ⟨_, rfl, rfl⟩

theorem afterReset_mem_cases (s r : State) : (s.afterReset r).mem = s.mem ∨
    ((s.afterReset r).phase = .reset ∧ (s.afterReset r).mem = s.mem.filter keptCell) := by
  unfold State.afterReset
  dsimp only
  split
  · next h => exact .inr ⟨by simp_all, rfl⟩
  · exact .inl rfl

theorem memOk_exec {c : Instr} {s t : State} (h : s.memOk) (ht : exec c s = .next t) : t.memOk := by
  have kept : ∀ {r : State}, r.mem = s.mem ∨ (r.phase = .reset ∧ r.mem = s.mem.filter keptCell) → r.memOk := by
    rintro r (e | ⟨-, e⟩)
    · exact State.memOk_of_mem h e
    · unfold State.memOk; rw [e]; exact wf_filter _ _ h
  have ends := exec_ends c s
  rw [ht] at ends
  generalize hr : Host.Outcome.next t = r at ends
  cases ends with
  | act c f => cases hr; exact h
  | actReset c f => cases hr; exact kept (afterReset_mem_cases s _)
  | actMem c f hf => cases hr; exact State.memOk_of_mem (kept hf) (State.afterMem_mem ..)
  | gallery => cases hr; exact State.memOk_of_mem (State.memOk_gallery (s := s.begin) h ..) (State.afterMem_mem ..)
  | dma => cases hr; exact State.memOk_of_mem (State.memOk_dma (s := s.begin) h ..) (State.afterMem_mem ..)

/-- Settles O56: a step executes one command, and `memOk_exec` holds of each. -/
theorem memoryStaysCanonical : Obligations.MemoryStaysCanonical := by
  intro s t h ht
  unfold step at ht
  split at ht
  · cases ht; exact h
  · next c l _ => exact memOk_exec (s := { s with pending := l }) h ht

/-- Settles O57: a register that nothing has written holds its reset value. -/
theorem resetHoldsItsValues : Obligations.ResetHoldsItsValues := by
  have fresh : ∀ f : Fld, State.reset.get f = f.rst := fun _ => rfl
  refine ⟨rfl, rfl, rfl, fun _ => rfl, fresh, ?lfsr, ?sem, ?stop, ?aligned, ?fifo⟩
  case lfsr => exact fresh _
  case sem => exact fun n => fresh _
  case stop => exact fresh _
  case aligned => exact fresh _
  case fifo => exact fun f => fresh _

/-- Settles O58: both are the definition of a step. -/
theorem stepServesTheFrontCommand : Obligations.StepServesTheFrontCommand := by
  refine ⟨fun s c l => rfl, fun s empty => ?_⟩
  unfold step
  rw [empty]

/-- A step takes the front command off the queue. -/
theorem step_of_cons {c : Instr} {l : List Instr} {s : State} (h : s.pending = c :: l) : ∃ t, step s = .next t ∧ t.pending = l := by
  obtain ⟨t, ht, rest⟩ := exec_next c { s with pending := l }
  exact ⟨t, by unfold step; rw [h]; exact ht, rest⟩

/-- Settles O59: by induction on the part of the queue that is served. -/
theorem queueIsServedInOrder : Obligations.QueueIsServedInOrder := by
  refine ⟨exec_next, fun l m => ?_⟩
  induction l with
  | nil => exact fun s h => ⟨s, rfl, h⟩
  | cons c l ih =>
    intro s h
    obtain ⟨t, ht, rest⟩ := step_of_cons h
    obtain ⟨u, hu, done⟩ := ih t rest
    refine ⟨u, ?_, done⟩
    rw [List.length_cons, Nat.iterate, Option.bind_some, ht]
    exact hu

/-- Settles O60: `exec_ends` names the commands that access memory. -/
theorem memoryIsWrittenThroughTheGalleryAlone : Obligations.MemoryIsWrittenThroughTheGalleryAlone := by
  intro c s t ht
  have ends := exec_ends c s
  rw [ht] at ends
  generalize hr : Host.Outcome.next t = r at ends
  cases ends with
  | act c f => cases hr; exact .inl rfl
  | actReset c f => cases hr; exact (afterReset_mem_cases s _).imp_right .inl
  | actMem c f hf => cases hr; exact hf.imp_right .inl
  | gallery b clocks beats arrivals direct => exact .inr (.inr (.inl ⟨_, _, _, _, _, rfl⟩))
  | dma => exact .inr (.inr (.inr ⟨_, _, _, _, _, _, rfl⟩))

end Sys2Proof.Machine

/-!
Bit and word instructions (R180, R181, R184, R188). O15, O16 and O18 from the rule of `act_issue_of_runsOn`.
-/
namespace Sys2Proof.Machine

/-! ### Bit instructions -/

theorem State.charged_bitOp (s : State) (k mode opnd : Nat) : Charged k s (s.bitOp k mode opnd).1 := by
  unfold State.bitOp
  split
  · exact .refl k s
  · exact s.charged_readElem k false _ _

@[simp] theorem State.onward_bitOp_snd (s : State) (k mode opnd : Nat) : ((s.onward k).bitOp k mode opnd).2 = s.opBit k mode opnd := by
  simp only [State.opBit, State.bitOp, State.onward_operand]
  split
  · rfl
  · simp

/-- A bit instruction combines BA with the bit of its operand. -/
theorem State.charged_bitInstr {s : State} {k : Nat} (mode opnd : Nat) (f : Bool → Bool → Bool) (hk : k < s.prog.sects.length) :
    Charged k (s.modSect k fun x => { x with ba := f x.ba (s.bitOp k mode opnd).2 }) (s.bitInstr k mode opnd f) :=
  ((s.charged_bitOp k mode opnd).modSect (g := fun x => { x with ba := f x.ba (s.bitOp k mode opnd).2 }) hk fun _ => rfl).trans
    (State.charged_clocks ..)

theorem State.act_bitInstr {s : State} {k opc mode opnd : Nat} (f : Bool → Bool → Bool) (h : s.runsOn k opc mode opnd) :
    ∃ t, s.act (fun s => s.issue k opc mode opnd fun s => s.bitInstr k mode opnd f) = .next t ∧
      (t.sect k).core = { (s.sect k).core with ba := f (s.sect k).ba (s.opBit k mode opnd), pc := (s.sect k).pc + 1 } := by
  refine State.act_issue_of_runsOn h (State.charged_bitInstr mode opnd f ?_) ?_ rfl
  · simpa using h.sect_lt
  · rw [State.onward_bitOp_snd]
    rfl

/-! ### Instructions on the registers alone -/

theorem State.act_regInstr {s : State} {k opc mode opnd clk : Nat} {g : Sect → Sect} {x : Sect} (h : s.runsOn k opc mode opnd)
    (core : (g { s.sect k with pc := (s.sect k).pc + 1, passBrk := false }).core = x) (pc : x.pc = (s.sect k).pc + 1) :
    ∃ t, s.act (fun s => s.issue k opc mode opnd fun s => s.regInstr k clk g) = .next t ∧ (t.sect k).core = x :=
  State.act_issue_of_runsOn h (State.charged_regInstr ..) core pc

/-- NOP: the counter moves on, and a clock is charged. -/
theorem State.act_nop {s : State} {k : Nat} (h : s.runsOn k 0x00 2 0) :
    ∃ t, s.act (fun s => s.issue0 k 0x00 fun s => s.mNop k) = .next t ∧
      (t.sect k).core = { (s.sect k).core with pc := (s.sect k).pc + 1 } ∧ (t.sect k).clk = (s.sect k).clk + 1 := by
  have hk : k < (s.onward k).prog.sects.length := by simpa using h.sect_lt
  have done : ((s.onward k).clocks k 1).sect k =
      { s.sect k with pc := (s.sect k).pc + 1, passBrk := false, clk := (s.sect k).clk + 1 } := by
    rw [State.clocks, State.sect_modSect _ _ hk, s.onward_sect h.sect_lt]
  have inside : ¬((!(s.sect k).ended && decide ((s.code k).length ≤ (s.sect k).pc + 1)) = true) := by
    simp [Nat.not_le.2 h.2]
  have code : ((s.onward k).clocks k 1).code k = s.code k := State.code_of_pkg rfl k
  refine ⟨_, State.act_issue_eq _ h.1, ?_⟩
  simp only [State.mNop, done, code, inside]
  exact ⟨congrArg Sect.core done, congrArg Sect.clk done⟩

theorem State.charged_bopen {s : State} {k : Nat} (room : (s.sect k).bs.length < 16) :
    Charged k (s.modSect k fun x => { x with bs := x.ba :: x.bs }) (s.bopen k) := by
  simp only [State.bopen, if_neg (Nat.not_le.2 room)]
  exact State.charged_regInstr ..

theorem State.charged_bclose {s : State} {k : Nat} {b : Bool} {l : List Bool} (f : Bool → Bool → Bool) (top : (s.sect k).bs = b :: l) :
    Charged k (s.modSect k fun x => { x with ba := f b x.ba, bs := l }) (s.bclose k f) := by
  simp only [State.bclose, top]
  exact State.charged_regInstr ..

theorem State.act_bclose {s : State} {k opc : Nat} {b : Bool} {l : List Bool} (f : Bool → Bool → Bool) (h : s.runsOn k opc 2 0)
    (top : (s.sect k).bs = b :: l) :
    ∃ t, s.act (fun s => s.issue0 k opc fun s => s.bclose k f) = .next t ∧
      (t.sect k).core = { (s.sect k).core with ba := f b (s.sect k).ba, bs := l, pc := (s.sect k).pc + 1 } :=
  State.act_issue_of_runsOn h (State.charged_bclose f ((s.onward_keeps Sect.bs k k fun _ => rfl).trans top)) rfl rfl

/-- Settles O15: the bit of an operand is `act_bitInstr`, the registers alone `act_regInstr`, the bit stack `act_bclose`. -/
theorem bitInstructionsActOnBA : Obligations.BitInstructionsActOnBA := by
  refine ⟨?nop, ?ld, ?ldn, ?and_, ?andn, ?or_, ?orn, ?xor_, ?not_, ?bopen, ?bcand, ?bcor, ?ldf⟩
  case nop => exact fun s k h => State.act_nop h
  case ld => exact fun s k mode opnd _ h => State.act_bitInstr (fun _ b => b) h
  case ldn => exact fun s k mode opnd _ h => State.act_bitInstr (fun _ b => !b) h
  case and_ => exact fun s k mode opnd _ h => State.act_bitInstr (fun a b => a && b) h
  case andn => exact fun s k mode opnd _ h => State.act_bitInstr (fun a b => a && !b) h
  case or_ => exact fun s k mode opnd _ h => State.act_bitInstr (fun a b => a || b) h
  case orn => exact fun s k mode opnd _ h => State.act_bitInstr (fun a b => a || !b) h
  case xor_ => exact fun s k mode opnd _ h => State.act_bitInstr (fun a b => a != b) h
  case not_ => exact fun s k h => State.act_regInstr h rfl rfl
  case bopen =>
    intro s k h room
    have bs := s.onward_keeps Sect.bs k k fun _ => rfl
    exact State.act_issue_of_runsOn h (State.charged_bopen (by rw [bs]; exact room)) rfl rfl
  case bcand => exact fun s k b l h top => State.act_bclose (fun a b => a && b) h top
  case bcor => exact fun s k b l h top => State.act_bclose (fun a b => a || b) h top
  case ldf => exact fun s k mode opnd _ h => State.act_regInstr h rfl rfl

/-- Settles O16: each clause is `act_wordInstr` at its operation, whose flags are those of the result by definition. -/
theorem wordLogicGivesResultAndFlags : Obligations.WordLogicGivesResultAndFlags := by
  refine ⟨?ldw, ?andw, ?orw, ?xorw, ?shl, ?shr, ?swp, ?ldx, ?addx⟩
  case ldw => exact fun s k mode opnd wait h => State.act_wordInstr h (fun _ _ => rfl) rfl rfl
  case andw =>
    rintro s k mode opnd wait v h rfl
    exact State.act_wordInstr h (fun _ _ => rfl) rfl rfl
  case orw =>
    rintro s k mode opnd wait v h rfl
    exact State.act_wordInstr h (fun _ _ => rfl) rfl rfl
  case xorw =>
    rintro s k mode opnd wait v h rfl
    exact State.act_wordInstr h (fun _ _ => rfl) rfl rfl
  case shl =>
    rintro s k mode opnd wait n v h rfl rfl
    exact State.act_wordInstr h (fun _ _ => rfl) rfl rfl
  case shr =>
    rintro s k mode opnd wait n v h rfl rfl
    exact State.act_wordInstr h (fun _ _ => rfl) rfl rfl
  case swp => exact fun s k h => State.act_regInstr h rfl rfl
  case ldx => exact fun s k mode opnd wait h => State.act_wordInstr h (fun _ _ => rfl) rfl rfl
  case addx => exact fun s k mode opnd wait h => State.act_wordInstr h (fun _ _ => rfl) rfl rfl

/-! ### Compares (R180, R181) -/

theorem State.act_compare {s : State} {k opc mode opnd wait : Nat} {f : Int → Int → Bool} {a v : Word} {b : Bool}
    (h : s.runsOn k opc mode opnd) (ha : a = (s.sect k).wa) (hv : v = s.opVal k mode opnd) (hb : f a.toInt v.toInt = b) :
    ∃ t, s.act (fun s => s.issue k opc mode opnd fun s => s.mCmp k mode opnd wait f) = .next t ∧
      (t.sect k).core = { (s.sect k).core with
        ba := b, z := decide (a - v = 0), n := (a - v).msb, cy := decide (a.toNat < v.toNat), pc := (s.sect k).pc + 1 } := by
  subst ha hv hb
  exact State.act_wordInstr h (fun _ _ => rfl) rfl rfl

/-- Settles O18: words are equal where their signed values are. -/
theorem comparesSetBAAndFlags : Obligations.ComparesSetBAAndFlags := by
  intro s k mode opnd wait a v ha hv
  have same : (a.toInt = v.toInt) = (a = v) := propext BitVec.toInt_inj
  refine ⟨fun h => ?ceq, fun h => ?cne, fun h => ?cgt, fun h => ?cge, fun h => ?clt, fun h => ?cle⟩
  case ceq => exact State.act_compare h ha hv (by simp only [same])
  case cne => exact State.act_compare h ha hv (by simp only [ne_eq, same])
  case cgt => exact State.act_compare h ha hv rfl
  case cge => exact State.act_compare h ha hv rfl
  case clt => exact State.act_compare h ha hv rfl
  case cle => exact State.act_compare h ha hv rfl

end Sys2Proof.Machine

/-!
Stores (R122, R123, R160, R174, R178, R185). What a store does to an element of the section, to scratch and to a foreign element, then
O19.
-/
namespace Sys2Proof.Machine

/-! ### Writing an element -/

/-- The uncommitted write of an element. -/
def putWork (key v : Nat) (x : Sect) : Sect := { x with work := SMap.insert x.work key v }

theorem State.ownElem.onward {s : State} {k mode opnd a o : Nat} (h : s.ownElem k mode opnd a o) : (s.onward k).ownElem k mode opnd a o :=
  ⟨(s.onward_operand ..).trans h.1, h.2⟩

theorem State.writeElem_of_own {s : State} {k mode opnd a o : Nat} (h : s.ownElem k mode opnd a o) (notL : a ≠ 10) (v : Nat) :
    s.writeElem k a o v = s.modSect k (putWork (areaKey a o) v) := by
  obtain ⟨-, lt, own, free⟩ := h
  have unforced : ¬(((decide (a = 2) || decide (a = 5)) && (s.forcedAt a o).isSome) = true) := by
    rcases free with free | rfl | rfl <;> simp_all
  unfold State.writeElem
  rw [if_neg (Nat.not_le.2 lt), if_neg notL, if_neg (not_not.2 own), if_neg unforced]
  rfl

theorem State.storeOp_of_own {s : State} {k mode opnd a o : Nat} (h : s.ownElem k mode opnd a o) (notL : a ≠ 10) (v : Nat) :
    s.storeOp k mode opnd v = s.modSect k (putWork (areaKey a o) v) := by
  simp only [State.storeOp, h.1, State.writeElem_of_own h notL]

/-- Reading an element of the section leaves the state. -/
theorem State.readElem_fst_of_own {s : State} {k a o : Nat} (lt : o < areaSize a) (own : s.ownerOf a o = some k) (word : Bool) :
    (s.readElem k word a o).1 = s := by
  unfold State.readElem
  rw [if_neg (Nat.not_le.2 lt)]
  simp only [own, if_true]
  cases s.forcedAt a o <;> simp only [apply_ite Prod.fst, ite_self]

theorem State.bitOp_of_own {s : State} {k mode opnd a o : Nat} (h : s.ownElem k mode opnd a o) :
    s.bitOp k mode opnd = (s, s.opBit k mode opnd) := by
  obtain ⟨operand, lt, own, -⟩ := h
  have stays : (s.bitOp k mode opnd).1 = s := by
    simp only [State.bitOp, operand]
    exact State.readElem_fst_of_own lt own false
  exact Prod.ext stays rfl

/-! ### The instructions that store -/

theorem State.charged_bitStore {s : State} {k mode opnd a o : Nat} (h : s.ownElem k mode opnd a o) (notL : a ≠ 10)
    (v : Bool → Option Bool) :
    Charged k (s.modSect k ((v (s.sect k).ba).elim id fun b => putWork (areaKey a o) (b2n b))) (s.bitStore k mode opnd v) := by
  unfold State.bitStore
  cases v (s.sect k).ba with
  | none => exact (s.charged_modSect k fun _ => rfl).symm.trans (State.charged_clocks ..)
  | some b =>
    dsimp only
    rw [State.storeOp_of_own h notL]
    exact State.charged_clocks ..

theorem State.act_bitStore {s : State} {k opc mode opnd a o : Nat} {v : Bool → Option Bool} {b : Bool} {x : Sect}
    (own : s.ownElem k mode opnd a o) (notL : a ≠ 10) (h : s.runsOn k opc mode opnd) (hb : (s.sect k).ba = b)
    (core : (((v b).elim id fun b => putWork (areaKey a o) (b2n b))
      { s.sect k with pc := (s.sect k).pc + 1, passBrk := false }).core = x) (pc : x.pc = (s.sect k).pc + 1) :
    ∃ t, s.act (fun s => s.issue k opc mode opnd fun s => s.bitStore k mode opnd v) = .next t ∧ (t.sect k).core = x := by
  have act := State.charged_bitStore own.onward notL v
  rw [s.onward_keeps Sect.ba k k fun _ => rfl, hb] at act
  exact State.act_issue_of_runsOn h act core pc

theorem State.charged_chargeWrite (s : State) (k a o : Nat) : Charged k s (s.chargeWrite k a o) := by
  unfold State.chargeWrite
  exact .ite (s.charged_clocks k 2) (.refl k s)

/-- STW, and STWC with BA at 1: what the write does, and what it is charged. -/
theorem State.charged_wordStore {s : State} {k mode opnd a o wait : Nat} {cond : Bool} (operand : s.operand k mode opnd = some (a, o))
    (go : (cond && !(s.sect k).ba) = false) :
    Charged k (s.writeElem k a o (s.sect k).wa.toNat) (s.wordStore k mode opnd wait cond) := by
  simp only [State.wordStore, go, operand]
  exact (State.charged_chargeWrite ..).trans ((State.charged_waited ..).trans (State.charged_clocks ..))

/-- STWC with BA at 0 stores nothing. -/
theorem State.charged_wordStore_skipped {s : State} {k mode opnd wait : Nat} {cond : Bool} (skip : (cond && !(s.sect k).ba) = true) :
    Charged k (s.modSect k id) (s.wordStore k mode opnd wait cond) := by
  simp only [State.wordStore, skip, if_true]
  exact (s.charged_modSect k fun _ => rfl).symm.trans (State.charged_clocks ..)

/-- Two changes of a section are the one of both. -/
theorem State.charged_modSect_modSect (s : State) {k : Nat} (hk : k < s.prog.sects.length) (f g : Sect → Sect) :
    Charged k (s.modSect k fun x => g (f x)) ((s.modSect k f).modSect k g) := by
  refine ⟨rfl, by simp, ?_⟩
  rw [State.sect_modSect _ _ hk, State.sect_modSect _ _ (by simpa using hk), State.sect_modSect _ _ hk]

theorem State.charged_edge {s : State} {k mode opnd a o : Nat} (own : s.ownElem k mode opnd a o) (notL : a ≠ 10) (rising : Bool)
    (hk : k < s.prog.sects.length) :
    Charged k (s.modSect k fun x => { putWork (areaKey a o) (b2n (s.sect k).ba) x with
      ba := if rising then (s.sect k).ba && !s.opBit k mode opnd else s.opBit k mode opnd && !(s.sect k).ba })
      (s.edge k mode opnd rising) := by
  simp only [State.edge, State.bitOp_of_own own, State.storeOp_of_own own notL]
  exact (s.charged_modSect_modSect hk (putWork (areaKey a o) (b2n (s.sect k).ba)) fun x => { x with
    ba := if rising then (s.sect k).ba && !s.opBit k mode opnd else s.opBit k mode opnd && !(s.sect k).ba }).trans
    (State.charged_clocks ..)

theorem State.act_edge {s : State} {k opc mode opnd a o : Nat} (rising : Bool) (own : s.ownElem k mode opnd a o) (notL : a ≠ 10)
    (h : s.runsOn k opc mode opnd) :
    ∃ t, s.act (fun s => s.issue k opc mode opnd fun s => s.edge k mode opnd rising) = .next t ∧
      (t.sect k).core = { (s.sect k).core with
        ba := if rising then (s.sect k).ba && !s.opBit k mode opnd else s.opBit k mode opnd && !(s.sect k).ba
        work := SMap.insert (s.sect k).work (areaKey a o) (b2n (s.sect k).ba), pc := (s.sect k).pc + 1 } := by
  have act := State.charged_edge own.onward notL rising (by simpa using h.sect_lt)
  have seen : (s.onward k).opBit k mode opnd = s.opBit k mode opnd := State.onward_bitOp_snd ..
  rw [s.onward_keeps Sect.ba k k fun _ => rfl, seen] at act
  exact State.act_issue_of_runsOn h act rfl rfl

/-! ### An instruction whose state is wanted whole -/

/-- An instruction after which another follows is done as it acts. -/
theorem State.act_issue_done {s : State} {k opc mode opnd : Nat} {f : State → State} (h : s.runsOn k opc mode opnd)
    (pkg : (f (s.onward k)).prog.pkg = s.prog.pkg) (pc : ((f (s.onward k)).sect k).pc = (s.sect k).pc + 1) :
    s.act (fun s => s.issue k opc mode opnd f) = .next (s.after (f (s.onward k))) := by
  have inside : ¬((f (s.onward k)).code k).length ≤ (s.sect k).pc + 1 := by
    rw [State.code_of_pkg pkg]
    exact Nat.not_le.2 h.2
  rw [State.act_issue_eq f h.1, pc, if_neg (by simp [inside])]

theorem State.Charged.pc_onward {s t : State} {k : Nat} (h : Charged k (s.onward k) t) (hk : k < s.prog.sects.length) :
    (t.sect k).pc = (s.sect k).pc + 1 := by
  rw [Sect.pc_of_core h.core, s.onward_sect hk]

/-- The count of a foreign access marks the section for the cycle (R123). -/
theorem State.foreignAccess_foreign (s : State) {k : Nat} (hk : k < s.prog.sects.length) : ((s.foreignAccess k).sect k).foreign = true := by
  have marked := (s.inc (F.PLX_SECT_FOREIGN_COUNT.at k)).sect_modSect (fun x => { x with foreign := true }) hk
  unfold State.foreignAccess
  dsimp only
  split
  · simp only [State.sect, State.log_prog]
    exact congrArg Sect.foreign marked
  · exact congrArg Sect.foreign marked

theorem State.sect_clocks_keeps {α : Type} (p : Sect → α) (s : State) (k n : Nat) (hp : ∀ x : Sect, p { x with clk := x.clk + n } = p x) :
    p ((s.clocks k n).sect k) = p (s.sect k) :=
  s.sect_modSect_keeps p k k hp

/-- The charges of a word store leave what they do not count. -/
theorem State.wordStore_foreign {s : State} {k mode opnd a o wait : Nat} (operand : s.operand k mode opnd = some (a, o)) :
    ((s.wordStore k mode opnd wait false).sect k).foreign = ((s.writeElem k a o (s.sect k).wa.toNat).sect k).foreign := by
  have spent : ∀ (t : State) n, ((t.clocks k n).sect k).foreign = (t.sect k).foreign :=
    fun t n => t.sect_clocks_keeps Sect.foreign k n fun _ => rfl
  have written : ∀ t : State, ((t.chargeWrite k a o).sect k).foreign = (t.sect k).foreign := by
    intro t; unfold State.chargeWrite; split <;> simp only [spent]
  have waited : ∀ t : State, ((s.waited t k wait).sect k).foreign = (t.sect k).foreign := by
    intro t; unfold State.waited; split <;> simp only [spent]
  simp only [State.wordStore, operand, Bool.false_and, Bool.false_eq_true, if_false, spent, waited, written]

theorem State.writeElem_of_foreign {s : State} {k a o : Nat} (lt : o < areaSize a) (notL : a ≠ 10) (other : s.ownerOf a o ≠ some k) (v : Nat) :
    s.writeElem k a o v = s.foreignAccess k := by
  unfold State.writeElem
  rw [if_neg (Nat.not_le.2 lt), if_neg notL, if_pos other]

/-- Settles O19: the element's write by `charged_bitStore`, `charged_wordStore` and `charged_edge`. -/
theorem storesGoToTheSectionsOwnElements : Obligations.StoresGoToTheSectionsOwnElements := by
  refine ⟨?own, ?scratch, ?foreign, ?forced⟩
  case own =>
    intro s k mode opnd wait a o own notL
    have ba := s.onward_keeps Sect.ba k k fun _ => rfl
    have wa := s.onward_keeps Sect.wa k k fun _ => rfl
    refine ⟨fun h => ?st, fun h => ?stn, fun h => ?set_, fun h => ?rst, fun h => ?stwc, fun h => ?stw, fun h => ?edgp, fun h => ?edgn⟩
    case st => exact State.act_bitStore own notL h rfl rfl rfl
    case stn => exact State.act_bitStore own notL h rfl rfl rfl
    case set_ =>
      by_cases hb : (s.sect k).ba = true
      · exact State.act_bitStore own notL h hb (by rw [if_pos hb]; rfl) rfl
      · exact State.act_bitStore own notL h (Bool.not_eq_true _ ▸ hb) (by rw [if_neg hb]; rfl) rfl
    case rst =>
      by_cases hb : (s.sect k).ba = true
      · exact State.act_bitStore own notL h hb (by rw [if_pos hb]; rfl) rfl
      · exact State.act_bitStore own notL h (Bool.not_eq_true _ ▸ hb) (by rw [if_neg hb]; rfl) rfl
    case stwc =>
      by_cases hb : (s.sect k).ba = true
      · have act := State.charged_wordStore (wait := wait) (cond := true) own.onward.1 (by simp [ba, hb])
        rw [State.writeElem_of_own own.onward notL, wa] at act
        exact State.act_issue_of_runsOn h act (by rw [if_pos hb]; rfl) rfl
      · exact State.act_issue_of_runsOn h (State.charged_wordStore_skipped (by simp [ba, hb])) (by rw [if_neg hb]; rfl) rfl
    case stw =>
      have act := State.charged_wordStore (wait := wait) (cond := false) own.onward.1 rfl
      rw [State.writeElem_of_own own.onward notL, wa] at act
      exact State.act_issue_of_runsOn h act rfl rfl
    case edgp => exact State.act_edge true own notL h
    case edgn => exact State.act_edge false own notL h
  case scratch =>
    intro s k mode opnd wait o h operand lt
    have act := State.charged_wordStore (wait := wait) (cond := false) ((s.onward_operand k k mode opnd).trans operand) rfl
    have write : (s.onward k).writeElem k 10 o (s.sect k).wa.toNat =
        (s.onward k).modSect k fun x => { x with scratch := SMap.put 0 x.scratch o (s.sect k).wa.toNat } := by
      unfold State.writeElem
      rw [if_neg (Nat.not_le.2 lt), if_pos rfl]
    rw [s.onward_keeps Sect.wa k k fun _ => rfl, write] at act
    exact State.act_issue_of_runsOn h act rfl rfl
  case foreign =>
    intro s k mode opnd wait a o h operand lt notL other
    have there := (s.onward_operand k k mode opnd).trans operand
    have hk : k < (s.onward k).prog.sects.length := by simpa using h.sect_lt
    have act := State.charged_wordStore (wait := wait) (cond := false) there rfl
    have mark := State.wordStore_foreign (wait := wait) there
    rw [State.writeElem_of_foreign (s := s.onward k) lt notL other] at act mark
    have whole := ((s.onward k).charged_foreignAccess k).trans act
    refine ⟨_, State.act_issue_done h whole.pkg (whole.pc_onward h.sect_lt), ?_, ?_⟩
    · refine (whole.core).trans ?_
      rw [s.onward_sect h.sect_lt]
      rfl
    · exact mark.trans ((s.onward k).foreignAccess_foreign hk)
  case forced =>
    intro s k mode opnd wait a o v h operand lt bitOrWord own forced
    have act := State.charged_wordStore (wait := wait) (cond := false) ((s.onward_operand k k mode opnd).trans operand) rfl
    have write : ∀ w, (s.onward k).writeElem k a o w = s.onward k := by
      intro w
      have notL : a ≠ 10 := by omega
      unfold State.writeElem
      rw [if_neg (Nat.not_le.2 lt), if_neg notL, if_neg (by simp [own]), if_pos (by simp [forced]; omega)]
    rw [write] at act
    exact State.act_issue_of_runsOn (g := id) h (((s.onward k).charged_modSect k fun _ => rfl).symm.trans act) rfl rfl

end Sys2Proof.Machine

/-!
Table lookups, block moves and service calls (R190, R191, R198 to R201). What a section reads while its own accounts and uncommitted
writes change, then the three instructions and O22.
-/
namespace Sys2Proof.Machine

/-! ### What a run of accesses leaves alone -/

/-- `t` differs from `s` in what `p` forgets of its sections, and outside the program. -/
structure State.SameBut (p : Sect → Sect) (s t : State) : Prop where
  rest : { t.prog with sects := [] } = { s.prog with sects := [] }
  sects : t.prog.sects.length = s.prog.sects.length
  sect : ∀ j, p (t.sect j) = p (s.sect j)

/-- A section without its accounts and its uncommitted writes. -/
def Sect.unwritten (x : Sect) : Sect := { x.core with work := [] }

theorem State.SameBut.refl (p : Sect → Sect) (s : State) : SameBut p s s := ⟨rfl, rfl, fun _ => rfl⟩

theorem State.SameBut.trans {p : Sect → Sect} {s t u : State} (st : SameBut p s t) (tu : SameBut p t u) : SameBut p s u :=
  ⟨tu.rest.trans st.rest, tu.sects.trans st.sects, fun j => (tu.sect j).trans (st.sect j)⟩

theorem State.SameBut.ite {p : Sect → Sect} {s t u : State} {c : Prop} [Decidable c] (st : SameBut p s t) (su : SameBut p s u) :
    SameBut p s (if c then t else u) := by
  split <;> assumption

theorem State.SameBut.of_core {s t : State} (h : SameBut Sect.core s t) : SameBut Sect.unwritten s t :=
  ⟨h.rest, h.sects, fun j => by unfold Sect.unwritten; rw [h.sect j]⟩

/-- What the program keeps besides its sections is the same. -/
theorem State.SameBut.prog_eq {α : Type} {p : Sect → Sect} {s t : State} (h : SameBut p s t) (f : Prog → α)
    (hf : ∀ x : Prog, f { x with sects := [] } = f x) : f t.prog = f s.prog := by
  rw [← hf t.prog, h.rest, hf]

theorem State.SameBut.sect_eq {α : Type} {p : Sect → Sect} {s t : State} (h : SameBut p s t) (j : Nat) (f : Sect → α)
    (hf : ∀ x : Sect, f (p x) = f x) : f (t.sect j) = f (s.sect j) := by
  rw [← hf (t.sect j), h.sect j, hf]

theorem State.SameBut.charged {s t : State} (h : SameBut Sect.core s t) (k : Nat) : Charged k s t :=
  ⟨h.prog_eq Prog.pkg fun _ => rfl, h.sects, h.sect k⟩

theorem State.sameBut_of_prog {s t : State} (p : Sect → Sect) (h : t.prog = s.prog) : SameBut p s t :=
  ⟨by rw [h], by rw [h], fun j => by simp only [State.sect, h]⟩

theorem State.sameBut_modSect {p : Sect → Sect} (s : State) (k : Nat) {g : Sect → Sect} (hg : ∀ x, p (g x) = p x) :
    SameBut p s (s.modSect k g) :=
  ⟨rfl, s.modSect_sects_length k g, fun j => s.sect_modSect_keeps p k j hg⟩

theorem State.sameBut_clocks (s : State) (k n : Nat) : SameBut Sect.core s (s.clocks k n) := s.sameBut_modSect k fun _ => rfl

theorem State.sameBut_rangeAccess (s : State) (k : Nat) : SameBut Sect.core s (s.rangeAccess k) := s.sameBut_modSect k fun _ => rfl

theorem State.sameBut_foreignAccess (s : State) (k : Nat) : SameBut Sect.core s (s.foreignAccess k) := by
  have marked : SameBut Sect.core s ((s.inc (F.PLX_SECT_FOREIGN_COUNT.at k)).modSect k fun x => { x with foreign := true }) :=
    (State.sameBut_of_prog _ rfl : SameBut Sect.core s (s.inc (F.PLX_SECT_FOREIGN_COUNT.at k))).trans (State.sameBut_modSect _ k fun _ => rfl)
  exact .ite (marked.trans (State.sameBut_of_prog _ (State.log_prog ..))) marked

theorem State.sameBut_chargeRead (s : State) (k a o : Nat) : SameBut Sect.core s (s.chargeRead k a o) :=
  .ite (s.sameBut_clocks k 2) (.refl _ s)

theorem State.sameBut_chargeWrite (s : State) (k a o : Nat) : SameBut Sect.core s (s.chargeWrite k a o) :=
  .ite (s.sameBut_clocks k 2) (.refl _ s)

theorem State.sameBut_waited (s t : State) (k wait : Nat) : SameBut Sect.core t (s.waited t k wait) :=
  .ite (t.sameBut_clocks k wait) (.refl _ t)

/-- A read counts at most an access that is refused. -/
theorem State.readElem_fst_cases (s : State) (k : Nat) (word : Bool) (a o : Nat) :
    (s.readElem k word a o).1 = s ∨ (s.readElem k word a o).1 = s.rangeAccess k ∨ (s.readElem k word a o).1 = s.foreignAccess k := by
  unfold State.readElem
  cases s.forcedAt a o <;> simp only [apply_ite Prod.fst, ite_self]
  all_goals (repeat' split) <;> simp only [true_or, or_true]

theorem State.sameBut_readElem (s : State) (k : Nat) (word : Bool) (a o : Nat) : SameBut Sect.core s (s.readElem k word a o).1 := by
  rcases s.readElem_fst_cases k word a o with h | h | h <;> rw [h]
  · exact .refl _ s
  · exact s.sameBut_rangeAccess k
  · exact s.sameBut_foreignAccess k

/-! ### Reads -/

/-- A section reads the same where the committed elements, the other sections' tickets, and its own uncommitted write of the element are
the same. -/
theorem State.readElem_snd_of_sameBut {s t : State} {k a o : Nat} (h : SameBut Sect.unwritten s t)
    (work : o < areaSize a → SMap.get? (t.sect k).work (areaKey a o) = SMap.get? (s.sect k).work (areaKey a o)) (word : Bool) :
    (t.readElem k word a o).2 = (s.readElem k word a o).2 := by
  by_cases out : areaSize a ≤ o
  · simp only [State.readElem, out, if_true]
  have pkg : t.prog.pkg = s.prog.pkg := h.prog_eq Prog.pkg fun _ => rfl
  have inputs : t.prog.inputs = s.prog.inputs := h.prog_eq Prog.inputs fun _ => rfl
  have areas : t.prog.areas = s.prog.areas := h.prog_eq Prog.areas fun _ => rfl
  have under : t.prog.under = s.prog.under := h.prog_eq Prog.under fun _ => rfl
  have forces : t.prog.forces = s.prog.forces := h.prog_eq Prog.forces fun _ => rfl
  have timers : t.prog.timers = s.prog.timers := h.prog_eq Prog.timers fun _ => rfl
  have counters : t.prog.counters = s.prog.counters := h.prog_eq Prog.counters fun _ => rfl
  have st : ∀ j, (t.sect j).st = (s.sect j).st := fun j => h.sect_eq j Sect.st fun _ => rfl
  have slots : ∀ j, (t.sect j).slots = (s.sect j).slots := fun j => h.sect_eq j Sect.slots fun _ => rfl
  have scratch : (t.sect k).scratch = (s.sect k).scratch := h.sect_eq k Sect.scratch fun _ => rfl
  have xblk : (t.sect k).xblk = (s.sect k).xblk := h.sect_eq k Sect.xblk fun _ => rfl
  have wT : (t.sect k).wT = (s.sect k).wT := h.sect_eq k Sect.wT fun _ => rfl
  have wC : (t.sect k).wC = (s.sect k).wC := h.sect_eq k Sect.wC fun _ => rfl
  have forced : t.forcedAt a o = s.forcedAt a o := by simp only [State.forcedAt, State.symbol, pkg, forces]
  have owner : t.ownerOf a o = s.ownerOf a o := by simp only [State.ownerOf, pkg]
  unfold State.readElem
  simp only [inputs, State.committed, areas, State.sysWord, slots, scratch, xblk, owner, forced, State.timerOf, wT, timers,
    State.counterOf, wC, counters, State.working, under, State.hasSect, st, work (Nat.not_le.1 out)]
  cases s.forcedAt a o <;> simp only [apply_ite Prod.snd] <;> rfl

theorem State.seen_of_sameBut {s t : State} (h : SameBut Sect.core s t) (k a o : Nat) : t.seen k a o = s.seen k a o :=
  State.readElem_snd_of_sameBut h.of_core (fun _ => by rw [show (t.sect k).work = (s.sect k).work from h.sect_eq k Sect.work fun _ => rfl]) true

@[simp] theorem State.onward_seen (s : State) (k a o : Nat) : (s.onward k).seen k a o = s.seen k a o := State.onward_readElem_snd ..

@[simp] theorem State.onward_tblWordAt (s : State) (k a o w : Nat) : (s.onward k).tblWordAt k a o w = s.tblWordAt k a o w := by
  simp only [State.tblWordAt, State.onward_seen]

/-! ### Table lookups (R190) -/

/-- A word of a table is read as it stood before the lookup; the reads are charged. -/
theorem State.SameBut.tblWord {s t : State} (h : SameBut Sect.core s t) (k a o w : Nat) :
    ∃ u, t.tblWord k a o w = (u, s.tblWordAt k a o w) ∧ SameBut Sect.core s u := by
  refine ⟨(t.tblWord k a o w).1, Prod.ext rfl ?_, ?_⟩
  · exact congrArg (BitVec.ofNat 32) (State.seen_of_sameBut h k a (o + w))
  · exact h.trans ((t.sameBut_readElem k true a (o + w)).trans (State.sameBut_chargeRead ..))

/-- The x of point j of the table at an operand. -/
def State.tblX (s : State) (k a o j : Nat) : Int := (s.tblWordAt k a o (2 * j + 1)).toInt

theorem State.tblX_lt_of_ascending {s : State} {k a o n : Nat} (asc : ∀ j, j + 1 < n → s.tblX k a o j < s.tblX k a o (j + 1))
    {p q : Nat} (pq : p < q) (qn : q < n) : s.tblX k a o p < s.tblX k a o q := by
  induction q, pq using Nat.le_induction with
  | base => exact asc p qn
  | succ q _ ih => exact (ih (by omega)).trans (asc q qn)

/-- The binary search of an ascending table ends at the two points around x. -/
theorem State.tblSearch_of_ascending {s : State} {k a o n i : Nat} {x : Int}
    (asc : ∀ j, j + 1 < n → s.tblX k a o j < s.tblX k a o (j + 1)) (lo_x : s.tblX k a o i ≤ x) (x_hi : x < s.tblX k a o (i + 1))
    (fuel : Nat) : ∀ {lo hi : Nat} {t : State}, SameBut Sect.core s t → lo ≤ i → i < hi → hi < n → hi - lo ≤ 2 ^ fuel →
      ∃ u, t.tblSearch k a o x fuel lo hi (s.tblX k a o lo) (s.tblX k a o hi) =
        (u, some (i, i + 1, s.tblX k a o i, s.tblX k a o (i + 1))) ∧ SameBut Sect.core s u := by
  induction fuel with
  | zero =>
    intro lo hi t same loi ihi hin width
    obtain ⟨rfl, rfl⟩ : lo = i ∧ hi = i + 1 := by omega
    exact ⟨t, rfl, same⟩
  | succ fuel ih =>
    intro lo hi t same loi ihi hin width
    by_cases near : hi - lo ≤ 1
    · obtain ⟨rfl, rfl⟩ : lo = i ∧ hi = i + 1 := by omega
      exact ⟨t, by simp only [State.tblSearch, near, if_true], same⟩
    obtain ⟨u, word, same⟩ := same.tblWord k a o (1 + 2 * ((lo + hi) / 2))
    have xm : (s.tblWordAt k a o (1 + 2 * ((lo + hi) / 2))).toInt = s.tblX k a o ((lo + hi) / 2) := by
      rw [State.tblX, Nat.add_comm 1]
    have above : s.tblX k a o lo < s.tblX k a o ((lo + hi) / 2) := State.tblX_lt_of_ascending asc (by omega) (by omega)
    have below : s.tblX k a o ((lo + hi) / 2) < s.tblX k a o hi := State.tblX_lt_of_ascending asc (by omega) hin
    rw [Nat.pow_succ] at width
    simp only [State.tblSearch, if_neg near, word, xm, Int.not_le.2 above, Int.not_le.2 below, decide_false, Bool.or_self,
      Bool.false_eq_true, if_false]
    by_cases go : s.tblX k a o ((lo + hi) / 2) ≤ x
    · have mid : (lo + hi) / 2 ≤ i := by
        by_contra past
        rcases Nat.lt_or_ge (i + 1) ((lo + hi) / 2) with lt | ge
        · exact absurd (State.tblX_lt_of_ascending asc lt (by omega)) (by omega)
        · obtain e : (lo + hi) / 2 = i + 1 := by omega
          rw [e] at go
          omega
      rw [if_pos go]
      exact ih same mid ihi hin (by omega)
    · have mid : i < (lo + hi) / 2 := by
        by_contra before
        rcases Nat.lt_or_ge ((lo + hi) / 2) i with lt | ge
        · exact absurd (State.tblX_lt_of_ascending asc lt (by omega)) (by omega)
        · obtain e : (lo + hi) / 2 = i := by omega
          rw [e] at go
          omega
      rw [if_neg go]
      exact ih same loi mid (by omega) (by omega)

/-- What a lookup's result does to the section. -/
def takeTbl : TblRes → Sect → Sect
  | .malformed, x => { x with ov := true }
  | .clamped y, x => { setZN (setWA x y) y with cy := true }
  | .between z, x => arith x z true false

theorem takeTbl_core (r : TblRes) (x : Sect) : (takeTbl r x).core = takeTbl r x.core := by cases r <;> rfl

/-- TBL, by the result of its lookup. -/
theorem State.act_tbl {s : State} {k mode opnd wait a o n : Nat} {r : TblRes} {x : Sect} (h : s.runsOn k 0x35 mode opnd)
    (operand : s.operand k mode opnd = some (a, o))
    (lookup : ∃ u, (s.onward k).tblLookup k a o = (u, n, r) ∧ SameBut Sect.core (s.onward k) u)
    (core : takeTbl r { (s.sect k).core with pc := (s.sect k).pc + 1 } = x) (pc : x.pc = (s.sect k).pc + 1) :
    ∃ t, exec (.opTbl k mode opnd wait) s = .next t ∧ (t.sect k).core = x := by
  obtain ⟨u, found, same⟩ := lookup
  have act : Charged k ((s.onward k).modSect k (takeTbl r)) ((s.onward k).tbl k mode opnd wait) := by
    simp only [State.tbl, State.onward_operand, operand, found]
    refine Charged.trans ?_ (State.charged_clocks ..)
    convert Charged.modSect ((same.charged k).trans (State.charged_waited ..)) (g := takeTbl r) (by simpa using h.sect_lt) (takeTbl_core r)
      using 2
    cases r <;> rfl
  exact State.act_issue_of_runsOn h act ((takeTbl_core ..).trans core) pc

section
variable {s : State} {k a o n : Nat} (hn : n = (s.tblWordAt k a o 0).toNat)
include hn

/-- A count that is none of a table is malformed. -/
theorem State.tblLookup_of_badCount (bad : n < 2 ∨ 256 < n) : ∃ u, s.tblLookup k a o = (u, n, .malformed) ∧ SameBut Sect.core s u := by
  obtain ⟨u, word, same⟩ := (SameBut.refl Sect.core s).tblWord k a o 0
  exact ⟨u, by simp only [State.tblLookup, word, ← hn, bad, decide_eq_true_eq, Bool.or_eq_true, if_true], same⟩

/-- At or below the first point the lookup gives its y. -/
theorem State.tblLookup_first (two : 2 ≤ n) (most : n ≤ 256) (low : (s.sect k).wa.toInt ≤ (s.tblWordAt k a o 1).toInt) :
    ∃ u, s.tblLookup k a o = (u, n, .clamped (s.tblWordAt k a o 2)) ∧ SameBut Sect.core s u := by
  obtain ⟨u0, word0, same0⟩ := (SameBut.refl Sect.core s).tblWord k a o 0
  obtain ⟨u1, word1, same1⟩ := same0.tblWord k a o 1
  obtain ⟨u2, word2, same2⟩ := same1.tblWord k a o 2
  have wa : (u0.sect k).wa = (s.sect k).wa := same0.sect_eq k Sect.wa fun _ => rfl
  refine ⟨u2, ?_, same2⟩
  simp only [State.tblLookup, word0, word1, word2, ← hn, wa, low, Nat.not_lt.2 two, Nat.not_lt.2 most, decide_false, Bool.or_self,
    Bool.false_eq_true, if_false, if_true]

/-- Above the first point the lookup reads the last. -/
theorem State.tblLookup_above (two : 2 ≤ n) (most : n ≤ 256) (above : (s.tblWordAt k a o 1).toInt < (s.sect k).wa.toInt) :
    ∃ u, SameBut Sect.core s u ∧ s.tblLookup k a o =
      (if s.tblX k a o (n - 1) ≤ s.tblX k a o 0 then (u, n, TblRes.malformed)
      else if s.tblX k a o (n - 1) ≤ (s.sect k).wa.toInt then
        ((u.tblWord k a o (2 + 2 * (n - 1))).1, n, .clamped (u.tblWord k a o (2 + 2 * (n - 1))).2)
      else match u.tblSearch k a o (s.sect k).wa.toInt 9 0 (n - 1) (s.tblX k a o 0) (s.tblX k a o (n - 1)) with
        | (s, none) => (s, n, .malformed)
        | (t, some (lo, hi, xa, xb)) =>
          let (t, ya) := t.tblWord k a o (2 + 2 * lo)
          let (t, yb) := t.tblWord k a o (2 + 2 * hi)
          (t, n, .between (interpolate ya.toInt yb.toInt (s.sect k).wa.toInt xa xb))) := by
  obtain ⟨u0, word0, same0⟩ := (SameBut.refl Sect.core s).tblWord k a o 0
  obtain ⟨u1, word1, same1⟩ := same0.tblWord k a o 1
  obtain ⟨u, word, same⟩ := same1.tblWord k a o (1 + 2 * (n - 1))
  have wa : (u0.sect k).wa = (s.sect k).wa := same0.sect_eq k Sect.wa fun _ => rfl
  have last : (s.tblWordAt k a o (1 + 2 * (n - 1))).toInt = s.tblX k a o (n - 1) := by rw [State.tblX, Nat.add_comm 1]
  refine ⟨u, same, ?_⟩
  simp only [State.tblLookup, word0, word1, word, ← hn, wa, Int.not_le.2 above, Nat.not_lt.2 two, Nat.not_lt.2 most, decide_false,
    Bool.or_self, Bool.false_eq_true, if_false, last]
  rfl

/-- Points whose ends do not ascend are malformed. -/
theorem State.tblLookup_of_badEnds (two : 2 ≤ n) (most : n ≤ 256) (above : (s.tblWordAt k a o 1).toInt < (s.sect k).wa.toInt)
    (bad : s.tblX k a o (n - 1) ≤ s.tblX k a o 0) : ∃ u, s.tblLookup k a o = (u, n, .malformed) ∧ SameBut Sect.core s u := by
  obtain ⟨u, same, lookup⟩ := State.tblLookup_above hn two most above
  exact ⟨u, by rw [lookup, if_pos bad], same⟩

/-- At or above the last point the lookup gives its y. -/
theorem State.tblLookup_last (two : 2 ≤ n) (most : n ≤ 256) (asc : s.tblX k a o 0 < s.tblX k a o (n - 1))
    (high : s.tblX k a o (n - 1) ≤ (s.sect k).wa.toInt) :
    ∃ u, s.tblLookup k a o = (u, n, .clamped (s.tblWordAt k a o (2 * n))) ∧ SameBut Sect.core s u := by
  obtain ⟨u, same, lookup⟩ := State.tblLookup_above hn two most (asc.trans_le high)
  obtain ⟨v, word, same⟩ := same.tblWord k a o (2 + 2 * (n - 1))
  refine ⟨v, ?_, same⟩
  rw [lookup, if_neg (Int.not_le.2 asc), if_pos high, word, show 2 + 2 * (n - 1) = 2 * n by omega]

/-- A middle point of three outside its neighbours is malformed. -/
theorem State.tblLookup_of_badMiddle (three : n = 3) (above : s.tblX k a o 0 < (s.sect k).wa.toInt)
    (below : (s.sect k).wa.toInt < s.tblX k a o 2) (bad : s.tblX k a o 1 ≤ s.tblX k a o 0 ∨ s.tblX k a o 2 ≤ s.tblX k a o 1) :
    ∃ u, s.tblLookup k a o = (u, n, .malformed) ∧ SameBut Sect.core s u := by
  obtain ⟨u, same, lookup⟩ := State.tblLookup_above hn (by omega) (by omega) above
  obtain ⟨v, word, same⟩ := same.tblWord k a o 3
  subst three
  have search : u.tblSearch k a o (s.sect k).wa.toInt 9 0 2 (s.tblX k a o 0) (s.tblX k a o 2) = (v, none) := by
    simp only [State.tblSearch, word, State.tblX] at bad ⊢
    simp [bad]
  refine ⟨v, ?_, same⟩
  rw [lookup, if_neg (by simp only [Nat.reduceSub]; omega), if_neg (by simp only [Nat.reduceSub]; omega)]
  simp only [Nat.reduceSub, search]

/-- Between two points of an ascending table the lookup interpolates. -/
theorem State.tblLookup_between {i : Nat} (most : n ≤ 256) (inside : i + 1 < n)
    (asc : ∀ j, j + 1 < n → s.tblX k a o j < s.tblX k a o (j + 1)) (above : s.tblX k a o 0 < (s.sect k).wa.toInt)
    (lo : s.tblX k a o i ≤ (s.sect k).wa.toInt) (hi : (s.sect k).wa.toInt < s.tblX k a o (i + 1)) :
    ∃ u, s.tblLookup k a o = (u, n, .between (interpolate (s.tblWordAt k a o (2 * i + 2)).toInt (s.tblWordAt k a o (2 * i + 4)).toInt
      (s.sect k).wa.toInt (s.tblX k a o i) (s.tblX k a o (i + 1)))) ∧ SameBut Sect.core s u := by
  have ends : s.tblX k a o 0 < s.tblX k a o (n - 1) := State.tblX_lt_of_ascending asc (by omega) (by omega)
  have last : (s.sect k).wa.toInt < s.tblX k a o (n - 1) := by
    rcases Nat.lt_or_ge (i + 1) (n - 1) with lt | ge
    · exact hi.trans (State.tblX_lt_of_ascending asc lt (by omega))
    · have next : n - 1 = i + 1 := by omega
      rw [next]
      exact hi
  obtain ⟨u, same, lookup⟩ := State.tblLookup_above hn (by omega) most above
  obtain ⟨v, search, same⟩ := State.tblSearch_of_ascending asc lo hi 9 (hi := n - 1) same (Nat.zero_le i) (by omega) (by omega) (by omega)
  obtain ⟨w, ya, same⟩ := same.tblWord k a o (2 + 2 * i)
  obtain ⟨z, yb, same⟩ := same.tblWord k a o (2 + 2 * (i + 1))
  refine ⟨z, ?_, same⟩
  rw [lookup, if_neg (Int.not_le.2 ends), if_neg (Int.not_le.2 last)]
  simp only [search, ya, yb]
  rw [Nat.add_comm 2 (2 * i), show 2 + 2 * (i + 1) = 2 * i + 4 by omega]

end

/-- Within 64 bits the product of the differences does not wrap. -/
theorem interpolate_of_fits {x xa ya xb yb : Int} (lo : -2 ^ 63 ≤ (yb - ya) * (x - xa)) (hi : (yb - ya) * (x - xa) < 2 ^ 63) :
    interpolate ya yb x xa xb = ya + Int.tdiv ((yb - ya) * (x - xa)) (xb - xa) := by
  have wraps : toInt 64 (ofInt 64 ((yb - ya) * (x - xa))) = (yb - ya) * (x - xa) := by
    generalize (yb - ya) * (x - xa) = p at lo hi
    unfold toInt ofInt
    split <;> omega
  rw [interpolate, wraps]

/-! ### Block moves (R191) -/

/-- One word of a block move. -/
def State.moveWord (s : State) (k a o xi : Nat) : State :=
  (((s.readElem k true a o).1.chargeRead k a o).writeElem k 5 xi (s.readElem k true a o).2).chargeWrite k 5 xi

theorem State.moveWords_succ (s : State) (k a o xi n : Nat) :
    s.moveWords k a o xi (n + 1) = (s.moveWord k a o xi).moveWords k a (o + 1) (xi + 1) n := rfl

theorem State.moveWords_succ_last (s : State) (k a o xi n : Nat) :
    s.moveWords k a o xi (n + 1) = (s.moveWords k a o xi n).moveWord k a (o + n) (xi + n) := by
  induction n generalizing s o xi with
  | zero => rfl
  | succ n ih =>
    rw [State.moveWords_succ, ih, State.moveWords_succ s k a o xi n, Nat.add_right_comm o, Nat.add_right_comm xi]
    rfl

/-- Section k may write the word of D at an offset (R122, R160, R178). -/
def State.mayPut (s : State) (k off : Nat) : Prop :=
  off < areaSize 5 ∧ s.ownerOf 5 off = some k ∧ s.forcedAt 5 off = none

/-- After n words: D at XI holds the value of each word where the section may write it, and every other uncommitted write stays. -/
structure State.Moved (s : State) (k xi : Nat) (v : Nat → Nat) (n : Nat) (t : State) : Prop where
  same : SameBut Sect.unwritten s t
  put : ∀ i, i < n → s.mayPut k (xi + i) → SMap.get? (t.sect k).work (areaKey 5 (xi + i)) = some (v i)
  barred : ∀ i, i < n → ¬ s.mayPut k (xi + i) →
    SMap.get? (t.sect k).work (areaKey 5 (xi + i)) = SMap.get? (s.sect k).work (areaKey 5 (xi + i))
  others : ∀ key, (∀ i, i < n → s.mayPut k (xi + i) → key ≠ areaKey 5 (xi + i)) →
    SMap.get? (t.sect k).work key = SMap.get? (s.sect k).work key

theorem State.mayPut_of_sameBut {s t : State} (h : SameBut Sect.unwritten s t) (k off : Nat) : t.mayPut k off ↔ s.mayPut k off := by
  have pkg : t.prog.pkg = s.prog.pkg := h.prog_eq Prog.pkg fun _ => rfl
  have forces : t.prog.forces = s.prog.forces := h.prog_eq Prog.forces fun _ => rfl
  simp only [State.mayPut, State.ownerOf, State.forcedAt, State.symbol, pkg, forces]

theorem State.writeElem_of_mayPut {s : State} {k off : Nat} (may : s.mayPut k off) (v : Nat) :
    s.writeElem k 5 off v = s.modSect k (putWork (areaKey 5 off) v) := by
  obtain ⟨lt, own, free⟩ := may
  unfold State.writeElem
  rw [if_neg (Nat.not_le.2 lt), if_neg (by decide), if_neg (not_not.2 own), if_neg (by simp [free])]
  rfl

/-- A write that the section may not make counts at most an access. -/
theorem State.sameBut_writeElem_of_not_mayPut {s : State} {k off : Nat} (may : ¬ s.mayPut k off) (v : Nat) :
    SameBut Sect.core s (s.writeElem k 5 off v) := by
  unfold State.writeElem
  split
  · exact s.sameBut_rangeAccess k
  next lt =>
  rw [if_neg (by decide)]
  split
  · exact s.sameBut_foreignAccess k
  next own =>
  rw [if_pos]
  · exact .refl _ s
  · by_contra free
    exact may ⟨Nat.not_le.1 lt, not_not.1 own, by simpa using free⟩

theorem areaKey_inj {a o b p : Nat} (ho : o < 2 ^ 20) (hp : p < 2 ^ 20) (h : areaKey a o = areaKey b p) : a = b ∧ o = p := by
  unfold areaKey at h
  omega

theorem State.mayPut.lt {s : State} {k off : Nat} (h : s.mayPut k off) : off < 2 ^ 20 := Nat.lt_trans h.1 (by decide)

theorem State.Moved.moveWord {s t : State} {k xi n a o : Nat} {v : Nat → Nat} (h : s.Moved k xi v n t) (hk : k < s.prog.sects.length)
    (read : (t.readElem k true a o).2 = v n) : s.Moved k xi v (n + 1) (t.moveWord k a o (xi + n)) := by
  have before : SameBut Sect.core t ((t.readElem k true a o).1.chargeRead k a o) :=
    (t.sameBut_readElem k true a o).trans (State.sameBut_chargeRead ..)
  have after : ∀ u : State, SameBut Sect.core u (u.chargeWrite k 5 (xi + n)) := fun u => u.sameBut_chargeWrite k 5 _
  have work : ∀ {u w : State}, SameBut Sect.core u w → (w.sect k).work = (u.sect k).work :=
    fun same => same.sect_eq k Sect.work fun _ => rfl
  unfold State.moveWord
  rw [read]
  generalize (t.readElem k true a o).1.chargeRead k a o = r at before
  have may : r.mayPut k (xi + n) ↔ s.mayPut k (xi + n) := State.mayPut_of_sameBut (h.same.trans before.of_core) k _
  by_cases put : s.mayPut k (xi + n)
  · rw [State.writeElem_of_mayPut (may.2 put)]
    have rk : k < r.prog.sects.length := by rw [before.sects, h.same.sects]; exact hk
    have there : (((r.modSect k (putWork (areaKey 5 (xi + n)) (v n))).chargeWrite k 5 (xi + n)).sect k).work =
        SMap.insert (t.sect k).work (areaKey 5 (xi + n)) (v n) := by
      rw [work (after _), State.sect_modSect _ _ rk, ← work before]
      rfl
    have apart : ∀ i, i < n → s.mayPut k (xi + i) → areaKey 5 (xi + i) ≠ areaKey 5 (xi + n) := by
      intro i lt hi e
      have := (areaKey_inj hi.lt put.lt e).2
      omega
    refine ⟨h.same.trans (before.of_core.trans ((r.sameBut_modSect k (g := putWork _ _) fun _ => rfl).trans (after _).of_core)), ?_, ?_, ?_⟩
    · intro i lt hi
      rw [there]
      rcases Nat.lt_or_ge i n with lt' | ge
      · rw [SMap.get?_insert_ne _ _ _ _ (apart i lt' hi)]
        exact h.put i lt' hi
      · obtain rfl : i = n := by omega
        exact SMap.get?_insert_self ..
    · intro i lt hi
      have lt' : i < n := by
        rcases Nat.lt_or_ge i n with lt' | ge
        · exact lt'
        · obtain rfl : i = n := by omega
          exact absurd put hi
      rw [there]
      by_cases e : areaKey 5 (xi + i) = areaKey 5 (xi + n)
      · exact absurd (show xi + i = xi + n by unfold areaKey at e; omega) (by omega)
      · rw [SMap.get?_insert_ne _ _ _ _ e]
        exact h.barred i lt' hi
    · intro key hkey
      rw [there, SMap.get?_insert_ne _ _ _ _ (hkey n (by omega) put)]
      exact h.others key fun i lt => hkey i (by omega)
  · have whole : SameBut Sect.core t ((r.writeElem k 5 (xi + n) (v n)).chargeWrite k 5 (xi + n)) :=
      before.trans ((State.sameBut_writeElem_of_not_mayPut (fun m => put (may.1 m)) _).trans (after _))
    refine ⟨h.same.trans whole.of_core, ?_, ?_, ?_⟩
    · intro i lt hi
      rw [work whole]
      refine h.put i (Nat.lt_of_le_of_ne (by omega) ?_) hi
      rintro rfl
      exact put hi
    · intro i lt hi
      rw [work whole]
      rcases Nat.lt_or_ge i n with lt' | ge
      · exact h.barred i lt' hi
      · obtain rfl : i = n := by omega
        exact h.others _ fun j lj hj e => put (by
          have same : xi + i = xi + j := by unfold areaKey at e; omega
          exact same ▸ hj)
    · intro key hkey
      rw [work whole]
      exact h.others key fun i lt => hkey i (by omega)

/-- A block move whose reads are the values `v`. -/
theorem State.moved_moveWords {s : State} {k a o xi n : Nat} {v : Nat → Nat} (hk : k < s.prog.sects.length)
    (read : ∀ i t, i < n → s.Moved k xi v i t → (t.readElem k true a (o + i)).2 = v i) :
    s.Moved k xi v n (s.moveWords k a o xi n) := by
  induction n with
  | zero => exact ⟨.refl _ s, nofun, nofun, fun _ _ => rfl⟩
  | succ n ih =>
    have h := ih fun i t lt => read i t (by omega)
    rw [State.moveWords_succ_last]
    exact h.moveWord hk (read n _ (by omega) h)

theorem areaSize_le (a : Nat) : areaSize a ≤ 2 ^ 18 := by
  unfold areaSize
  split <;> decide

/-- Words that the move does not write before it reads them are read as they stood. -/
theorem State.Moved.read_apart {s t : State} {k xi n a o : Nat} {v : Nat → Nat} (h : s.Moved k xi v n t)
    (apart : a ≠ 5 ∨ ∀ i, i < n → xi + i ≠ o) : (t.readElem k true a o).2 = s.seen k a o := by
  refine State.readElem_snd_of_sameBut h.same (fun lt => h.others _ fun i li put e => ?_) true
  obtain ⟨rfl, there⟩ := areaKey_inj (Nat.lt_of_lt_of_le lt ((areaSize_le a).trans (by decide))) put.lt e
  rcases apart with ne | ne
  · exact ne rfl
  · exact ne i li there.symm

/-- A word that the move has written is read as it was written. -/
theorem State.Moved.read_back {s t : State} {k xi n i : Nat} {v : Nat → Nat} (h : s.Moved k xi v n t) (li : i < n)
    (put : s.mayPut k (xi + i)) : (t.readElem k true 5 (xi + i)).2 = v i := by
  obtain ⟨lt, own, free⟩ := (State.mayPut_of_sameBut h.same k _).2 put
  simp only [State.readElem, Nat.not_le.2 lt, own, free, State.working, h.put i li put]
  rfl

/-- MOVB with a count within its range (R191). -/
theorem State.act_movb {s : State} {k mode opnd wait a o n xi : Nat} {v : Nat → Nat} (h : s.runsOn k 0x36 mode opnd)
    (operand : s.operand k mode opnd = some (a, o)) (hn : n = (s.sect k).wb.toNat) (one : 1 ≤ n) (most : n ≤ 4096)
    (hxi : xi = (s.sect k).xi)
    (read : ∀ i t, i < n → (s.onward k).Moved k xi v i t → (t.readElem k true a (o + i)).2 = v i) :
    ∃ t, exec (.opMovb k mode opnd wait) s = .next t ∧ (t.sect k).pc = (s.sect k).pc + 1 ∧
      ∃ u, (s.onward k).Moved k xi v n u ∧ (t.sect k).work = (u.sect k).work := by
  have hk : k < (s.onward k).prog.sects.length := by simpa using h.sect_lt
  have moved := State.moved_moveWords hk read
  have wb : ((s.onward k).sect k).wb = (s.sect k).wb := s.onward_keeps Sect.wb k k fun _ => rfl
  have hxi' : ((s.onward k).sect k).xi = (s.sect k).xi := s.onward_keeps Sect.xi k k fun _ => rfl
  have act : (s.onward k).movb k mode opnd wait =
      ((s.onward k).waited ((s.onward k).moveWords k a o xi n) k wait).clocks k (4 + n) := by
    have count : ¬((n = 0 || decide (4096 < n)) = true) := by simp; omega
    simp only [State.movb, wb, ← hn, count, hxi', ← hxi, State.onward_operand, operand]
    rfl
  have charges := ((s.onward k).sameBut_waited ((s.onward k).moveWords k a o xi n) k wait).trans (State.sameBut_clocks _ k (4 + n))
  rw [← act] at charges
  have whole := moved.same.trans charges.of_core
  have pc : (((s.onward k).movb k mode opnd wait).sect k).pc = (s.sect k).pc + 1 := by
    rw [whole.sect_eq k Sect.pc fun _ => rfl, s.onward_sect h.sect_lt]
  exact ⟨_, State.act_issue_done h (whole.prog_eq Prog.pkg fun _ => rfl) pc, pc, _, moved, charges.sect_eq k Sect.work fun _ => rfl⟩

/-! ### Service calls (R199 to R201) -/

/-- The D block of a call is read as it stands; its words are charged. -/
theorem State.SameBut.readBlock {s : State} (k : Nat) (n : Nat) : ∀ {t : State} (o : Nat), SameBut Sect.core s t →
    ∃ u, t.readBlock k o n = (u, (List.range n).map fun i => BitVec.ofNat 32 (s.seen k 5 (o + i))) ∧ SameBut Sect.core s u := by
  induction n with
  | zero => exact fun o h => ⟨_, rfl, h⟩
  | succ n ih =>
    intro t o h
    obtain ⟨u, rest, same⟩ := ih (o + 1) (h.trans ((t.sameBut_readElem k true 5 o).trans (State.sameBut_chargeRead _ k 5 o)))
    have first : (t.readElem k true 5 o).2 = s.seen k 5 o := State.seen_of_sameBut h k 5 o
    refine ⟨u, ?_, same⟩
    simp only [State.readBlock, rest, first, List.range_succ_eq_map, List.map_cons, List.map_map]
    congr 2
    exact List.map_congr_left fun i _ => by simp only [Function.comp, Nat.add_assoc, Nat.add_comm 1]

/-- A call that is taken: its slot, its ticket and its place in the queue. -/
def takeCall (k code j q : Nat) (d : List Word) (x : Sect) : Sect :=
  { x.modSlot j (fun y => { y with st := .issued, serial := q, code := code, status := St.pending, result := [] }) with
    lastSlot := j, serial := q, taken := x.taken + 1
    queue := x.queue ++ [{ code := code, slot := j, args := { wa := x.wa, wb := x.wb, d := d } }]
    wa := BitVec.ofNat 32 (k * 2 ^ 30 + j * 2 ^ 16 + q), ba := true }

/-- A call that is refused with a status. -/
def refuseCall (k st : Nat) (x : Sect) : Sect :=
  { x with wa := BitVec.ofNat 32 (immTicket k st), ba := false, refused := x.refused + 1 }

/-- SVC with its D block inside the area: the slot that is free, or none. -/
theorem State.charged_svcIssue {s : State} {k code wait n : Nat} (hk : k < s.prog.sects.length) (hn : svcD code = some n)
    (fits : n = 0 ∨ (s.sect k).xi + n ≤ areaSize 5) :
    Charged k (s.modSect k (match (if 64 ≤ (s.sect k).taken then none else (s.sect k).freeSlot) with
      | none => refuseCall k St.busy
      | some j => takeCall k code j (if 65535 ≤ (s.sect k).serial then 1 else (s.sect k).serial + 1)
          ((List.range n).map fun i => BitVec.ofNat 32 (s.seen k 5 ((s.sect k).xi + i)))))
      (s.svcIssue k code wait) := by
  obtain ⟨u, block, same⟩ := (SameBut.refl Sect.core s).readBlock k n (s.sect k).xi
  have inside : ¬((n ≠ 0 && decide (areaSize 5 < (s.sect k).xi + n)) = true) := by simp; omega
  have charges := (same.charged k).trans (State.charged_waited s u k wait)
  simp only [State.svcIssue, hn, Option.getD_some, inside, block]
  cases (if 64 ≤ (s.sect k).taken then none else (s.sect k).freeSlot) with
  | none => exact (charges.modSect (g := refuseCall k St.busy) hk fun _ => rfl).trans (State.charged_clocks ..)
  | some j => exact (charges.modSect (g := takeCall k code j _ _) hk fun _ => rfl).trans (State.charged_clocks ..)

/-- SVC with a D block that leaves the area. -/
theorem State.charged_svcIssue_beyond {s : State} {k code wait n : Nat} (hn : svcD code = some n) (some_ : n ≠ 0)
    (beyond : areaSize 5 < (s.sect k).xi + n) :
    Charged k (s.modSect k (refuseCall k St.badArg)) (s.svcIssue k code wait) := by
  simp only [State.svcIssue, hn, Option.getD_some, some_, beyond, ne_eq, not_false_eq_true]
  exact State.charged_regInstr ..

/-- Settles O22: a lookup by what it finds, a move by the values that it reads, a call by the slot it takes. -/
theorem tablesMovesAndCallsWork : Obligations.TablesMovesAndCallsWork := by
  refine ⟨?malformed, ?clamped, ?between, ?product, ?movb, ?overlap, ?count, ?call, ?refused⟩
  case malformed =>
    intro s k mode opnd wait a o n h operand hn bad
    have wa : ((s.onward k).sect k).wa = (s.sect k).wa := s.onward_keeps Sect.wa k k fun _ => rfl
    have hn' : n = ((s.onward k).tblWordAt k a o 0).toNat := by rw [State.onward_tblWordAt]; exact hn
    refine State.act_tbl (n := n) (r := .malformed) h operand ?_ rfl rfl
    rcases bad with bad | ⟨two, most, above, ends⟩ | ⟨three, above, below, middle⟩
    · exact State.tblLookup_of_badCount hn' bad
    · refine State.tblLookup_of_badEnds hn' two most (by simpa [wa] using above) ?_
      rw [State.tblX, State.tblX, show 2 * (n - 1) + 1 = 2 * n - 1 by omega]
      simpa using ends
    · exact State.tblLookup_of_badMiddle hn' three (by simpa [State.tblX, wa] using above) (by simpa [State.tblX, wa] using below)
        (by simpa [State.tblX] using middle)
  case clamped =>
    intro s k mode opnd wait a o n y h operand hn two most ends
    have wa : ((s.onward k).sect k).wa = (s.sect k).wa := s.onward_keeps Sect.wa k k fun _ => rfl
    have hn' : n = ((s.onward k).tblWordAt k a o 0).toNat := by rw [State.onward_tblWordAt]; exact hn
    refine State.act_tbl (n := n) (r := .clamped y) h operand ?_ rfl rfl
    rcases ends with ⟨low, rfl⟩ | ⟨asc, high, rfl⟩
    · rw [← s.onward_tblWordAt k a o 2]
      exact State.tblLookup_first hn' two most (by simpa [wa] using low)
    · have last : 2 * n - 1 = 2 * (n - 1) + 1 := by omega
      rw [last] at asc high
      rw [← s.onward_tblWordAt k a o (2 * n)]
      exact State.tblLookup_last hn' two most (by simpa [State.tblX] using asc) (by simpa [State.tblX, wa] using high)
  case between =>
    rintro s k mode opnd wait a o n i x xa ya xb yb z r h operand hn most inside asc rfl rfl rfl rfl rfl above lo hi rfl hr
    have wa : ((s.onward k).sect k).wa = (s.sect k).wa := s.onward_keeps Sect.wa k k fun _ => rfl
    have hn' : n = ((s.onward k).tblWordAt k a o 0).toNat := by rw [State.onward_tblWordAt]; exact hn
    refine State.act_tbl h operand (State.tblLookup_between hn' most inside (i := i) ?_ ?_ ?_ ?_) ?_ rfl
    · simp only [State.tblX, State.onward_tblWordAt]
      exact asc
    · simpa [State.tblX, wa] using above
    · simpa [State.tblX, wa] using lo
    · simp only [State.tblX, State.onward_tblWordAt, wa]
      exact hi
    · simp only [State.tblX, State.onward_tblWordAt, wa]
      exact arith_saturating _ _ hr
  case product => exact fun x xa ya xb yb => interpolate_of_fits
  case movb =>
    intro s k mode opnd wait a o n xi h operand hn one most hxi apart
    obtain ⟨t, ht, pc, u, moved, work⟩ := State.act_movb (wait := wait) (v := fun i => s.seen k a (o + i)) h operand hn one most hxi
      fun i t li m => (m.read_apart (apart.imp_right fun _ j _ => by omega)).trans (s.onward_seen ..)
    refine ⟨t, ht, pc, fun i li => ?_⟩
    rw [work]
    split
    · next may => exact moved.put i li may
    · next may => exact (moved.barred i li may).trans (by rw [s.onward_keeps Sect.work k k fun _ => rfl])
  case overlap =>
    intro s k mode opnd wait o n xi h operand hn one most hxi before inside may
    have may' : ∀ i, i < n → (s.onward k).mayPut k (xi + i) := fun i li => ⟨by omega, may i li⟩
    obtain ⟨t, ht, pc, u, moved, work⟩ := State.act_movb (wait := wait) (v := fun i => s.seen k 5 (o + i % (xi - o))) h operand hn one most
      hxi fun i t li m => by
        rcases Nat.lt_or_ge i (xi - o) with lt | ge
        · rw [Nat.mod_eq_of_lt lt]
          exact (m.read_apart (.inr fun j _ => by omega)).trans (s.onward_seen ..)
        · have back := m.read_back (i := i - (xi - o)) (by omega) (may' _ (by omega))
          rw [show xi + (i - (xi - o)) = o + i by omega] at back
          rw [back, Nat.mod_eq_sub_mod ge]
    exact ⟨t, ht, pc, fun i li => by rw [work]; exact moved.put i li (may' i li)⟩
  case count =>
    intro s k mode opnd wait h bad
    have wb : ((s.onward k).sect k).wb = (s.sect k).wb := s.onward_keeps Sect.wb k k fun _ => rfl
    have hk : k < (s.onward k).prog.sects.length := by simpa using h.sect_lt
    have act : (s.onward k).movb k mode opnd wait = ((s.onward k).rangeAccess k).clocks k 4 := by
      have none_ : ((s.sect k).wb.toNat = 0 || decide (4096 < (s.sect k).wb.toNat)) = true := by
        rcases bad with zero | many <;> simp [*]
      simp only [State.movb, wb, none_, if_true]
    have whole := ((s.onward k).charged_rangeAccess k).trans (State.charged_clocks _ k 4)
    refine ⟨_, State.act_issue_done h (act ▸ whole.pkg) (act ▸ whole.pc_onward h.sect_lt), ?_, ?_⟩ <;> simp only [act]
    · exact whole.core.trans (by rw [s.onward_sect h.sect_lt]; rfl)
    · refine (State.sect_clocks_keeps Sect.range _ k 4 fun _ => rfl).trans ?_
      rw [State.rangeAccess, State.sect_modSect _ _ hk, s.onward_sect h.sect_lt]
  case call =>
    rintro s k mode opnd wait n j q h hn fits taken free rfl
    have hk : k < (s.onward k).prog.sects.length := by simpa using h.sect_lt
    have sect := s.onward_sect h.sect_lt
    have act := State.charged_svcIssue (wait := wait) hk hn (by rw [sect]; exact fits)
    rw [sect] at act
    simp only [if_neg (Nat.not_le.2 taken), State.onward_seen] at act
    have slot : Sect.freeSlot { s.sect k with pc := (s.sect k).pc + 1, passBrk := false } = some j := free
    rw [slot] at act
    exact State.act_issue_of_runsOn h act rfl rfl
  case refused =>
    intro s k mode opnd wait n st h hn why
    have hk : k < (s.onward k).prog.sects.length := by simpa using h.sect_lt
    have sect := s.onward_sect h.sect_lt
    rcases why with ⟨some_, beyond, rfl⟩ | ⟨fits, full, rfl⟩
    · exact State.act_issue_of_runsOn h (State.charged_svcIssue_beyond hn some_ (by rw [sect]; exact beyond)) rfl rfl
    · have act := State.charged_svcIssue (wait := wait) hk hn (by rw [sect]; exact fits)
      have none_ : (if 64 ≤ (s.sect k).taken then none else Sect.freeSlot { s.sect k with pc := (s.sect k).pc + 1, passBrk := false }) =
          none := by
        rcases full with many | none_
        · rw [if_pos many]
        · rw [show Sect.freeSlot { s.sect k with pc := (s.sect k).pc + 1, passBrk := false } = none from none_, ite_self]
      rw [sect] at act
      rw [none_] at act
      exact State.act_issue_of_runsOn h act rfl rfl

end Sys2Proof.Machine

/-! ### Chapter 01: registers, sidebands, session contexts -/

namespace Sys2Proof.Machine

/-! ### Records of the log leave every field of the other blocks -/

/-- A field of the LOG block, the only one whose fields a record of the Accession log changes. -/
def Fld.inLog (f : Fld) : Bool := decide (f.key / 2 ^ 21 = 0x19)

theorem Fld.key_ne_of_inLog {f g : Fld} (hf : f.inLog = false) (hg : g.inLog = true) : f.key ≠ g.key := by
  intro h
  rw [Fld.inLog, h] at hf
  exact absurd (hf.symm.trans hg) (by decide)

theorem State.get_put_inLog (s : State) {f g : Fld} (v : Nat) (hf : f.inLog = false) (hg : g.inLog = true) :
    (s.put g v).get f = s.get f := s.get_put_ne _ _ _ (Fld.key_ne_of_inLog hf hg)

theorem State.vitTrigger_get (s : State) (b : Option Nat) (c : Nat) {f : Fld} (hf : f.inLog = false) :
    (s.vitTrigger b c).get f = s.get f := by
  unfold State.vitTrigger
  extract_lets on
  clear_value on
  split
  · rfl
  · split
    · rw [State.inc_eq, s.get_put_inLog _ hf (by decide)]
    · split
      · rfl
      · show (((s.put _ _).put _ _).put _ _).get f = _
        rw [State.get_put_inLog _ _ hf (by decide), State.get_put_inLog _ _ hf (by decide),
          State.get_put_inLog _ _ hf (by decide)]

theorem State.logRec_get (s : State) (sev src code : Nat) (p : List Nat) {f : Fld} (hf : f.inLog = false) :
    (s.logRec sev src code p).get f = s.get f := by
  unfold State.logRec
  dsimp only
  split
  · rw [State.inc_eq, s.get_put_inLog _ hf (by decide)]
  · split
    · rw [State.vitTrigger_get _ _ _ hf]
      exact s.get_put_inLog _ hf (by decide)
    · exact s.get_put_inLog _ hf (by decide)

theorem State.log_get (s : State) (sev kind : Nat) (g : Fld) (vals : List Nat) {f : Fld} (hf : f.inLog = false) :
    (s.log sev kind g vals).get f = s.get f := s.logRec_get _ _ _ _ hf

theorem State.logBlock_get (s : State) (sev kind blk : Nat) (vals : List Nat) {f : Fld} (hf : f.inLog = false) :
    (s.logBlock sev kind blk vals).get f = s.get f := s.logRec_get _ _ _ _ hf

/-! ### What is not held back is emitted at once (R548) -/

theorem State.emit_of_not_held (s : State) {k : OutKind} (l : List Int) (hk : heldKind k = false) : s.emit k l = s.emitNow k l := by
  simp [State.emit, State.emitAt, hk]

theorem State.reply_eq (s : State) (who : Requester) (st : Nat) (v : List Nat) :
    s.reply who st v = s.emitNow .value (([who.key, st] ++ v).map Int.ofNat) := s.emit_of_not_held _ rfl

@[simp] theorem State.reply_spl (s : State) (who : Requester) (st : Nat) (v : List Nat) : (s.reply who st v).spl = s.spl := by
  rw [State.reply_eq, State.emitNow_spl]

@[simp] theorem State.reply_out (s : State) (who : Requester) (st : Nat) (v : List Nat) :
    (s.reply who st v).out = s.out ++ [⟨.value, ([who.key, st] ++ v).map Int.ofNat⟩] := by
  rw [State.reply_eq, State.emitNow_out]

/-! ### Session contexts (R59 to R64) -/

@[simp] theorem State.session_setSession_self (s : State) (c : Nat) (x : Session) : (s.setSession c x).session c = some x :=
  SMap.get?_insert_self _ _ _

theorem State.session_setSession_ne (s : State) {c d : Nat} (x : Session) (h : d ≠ c) :
    (s.setSession c x).session d = s.session d := SMap.get?_insert_ne _ _ _ _ h

/-- Reading a context looks at the Gallery's part alone. -/
theorem State.session_of_gal {s t : State} (h : t.gal = s.gal) (c : Nat) : t.session c = s.session c := by
  simp only [State.session, h]

/-- A context whose requests have all ended is freed at once (R63). -/
theorem State.freeSession_of_done (s : State) {c : Nat} {x : Session} (h : s.session c = some x)
    (done : x.window.all (·.done) = true) :
    s.freeSession c = s.modGal fun g => { g with sessions := SMap.erase g.sessions c } := by
  simp only [State.freeSession, h, done, if_true]

/-- A context with a request in progress is left closing (R63). -/
theorem State.freeSession_of_pending (s : State) {c : Nat} {x : Session} (h : s.session c = some x)
    (done : x.window.all (·.done) = false) : s.freeSession c = s.setSession c { x with state := 3 } := by
  simp only [State.freeSession, h, done]; rfl

@[simp] theorem State.roverClosed_gal (s : State) (r : Nat) : (s.roverClosed r).gal = s.gal := rfl

/-- What a closing session leaves behind outside the Gallery is settled before its context is freed. -/
theorem State.closeSession_eq (s : State) {c : Nat} {x : Session} (h : s.session c = some x) :
    ∃ u : State, u.gal = s.gal ∧ s.closeSession c = u.freeSession c := by
  unfold State.closeSession
  simp only [h]
  refine ⟨_, ?_, rfl⟩
  rw [State.modWired_gal]
  split
  · split
    · rw [State.roverClosed_gal]
    · rfl
  · split
    · rw [State.put_gal]
    · rfl

/-- A session that closes leaves every other context as it is, and its own freed or closing (R63). -/
theorem exec_sessionClose (s : State) {c : Nat} {x : Session} (h : s.session c = some x) :
    ∃ t, exec (.sessionClose c) s = .next t ∧
      t.session c = (if x.window.all (·.done) = true then none else some { x with state := 3 }) ∧
      ∀ d, d ≠ c → t.session d = s.session d := by
  obtain ⟨u, hu, eq⟩ := s.begin.closeSession_eq h
  have hx : u.session c = some x := (State.session_of_gal hu c).trans h
  have others : ∀ d, u.session d = s.session d := fun d => State.session_of_gal hu d
  refine ⟨s.after (s.begin.closeSession c), rfl, ?_, fun d hd => ?_⟩
  · rw [State.session_of_gal (State.after_gal ..), eq]
    by_cases done : x.window.all (·.done) = true
    · rw [if_pos done, u.freeSession_of_done hx done]
      exact SMap.get?_erase_self _ _
    · rw [if_neg done, u.freeSession_of_pending hx (Bool.not_eq_true _ ▸ done)]
      exact u.session_setSession_self _ _
  · rw [State.session_of_gal (State.after_gal ..), eq, ← others d]
    by_cases done : x.window.all (·.done) = true
    · rw [u.freeSession_of_done hx done]
      exact SMap.get?_erase_ne _ _ _ hd
    · rw [u.freeSession_of_pending hx (Bool.not_eq_true _ ▸ done), u.session_setSession_ne _ hd]

/-- Outside Recovery a context opens where its quota allows it, as the lowest free one (R61). -/
theorem exec_sessionOpen_of_quotaOk (s : State) (typ peer slot : Nat) (mode : (s.live && decide (s.mode = .recovery)) = false)
    (quota : s.quotaOk typ = true) :
    exec (.sessionOpen typ peer slot) s = .next (s.after
      ((s.begin.setSession s.freeContext { typ := typ, peer := peer, slot := slot, lastAt := s.mono }).reply .sid0 St.done
        [s.freeContext])) := by
  have mode' : (s.begin.live && decide (s.begin.mode = .recovery)) = false := mode
  have quota' : s.begin.quotaOk typ = true := quota
  unfold exec
  simp only [execSessionOpen, State.act, mode', Bool.false_eq_true, if_false, State.openSession, quota', if_true]
  rfl

/-- Where it opens none, the module answers BUSY and changes nothing (R61, R64). -/
theorem exec_sessionOpen_of_refused (s : State) (typ peer slot : Nat)
    (h : s.quotaOk typ = false ∨ (s.live = true ∧ s.mode = .recovery)) :
    exec (.sessionOpen typ peer slot) s = .next (s.after (s.begin.reply .sid0 St.busy)) := by
  unfold exec
  simp only [execSessionOpen, State.act, State.openSession]
  split
  · rfl
  · next hn =>
    have quota : s.begin.quotaOk typ = false := h.resolve_right fun ⟨l, m⟩ => hn (by
      show (s.live && decide (s.mode = .recovery)) = true
      rw [l, decide_eq_true m]; rfl)
    simp only [quota, Bool.false_eq_true, if_false]

/-- Settles O6: the context that opens is the lowest free one, and a close takes effect at once or when the last request ends. -/
theorem sessionContextsOpenAndClose : Obligations.SessionContextsOpenAndClose := by
  unfold Obligations.SessionContextsOpenAndClose
  refine ⟨fun s typ peer slot live mode quota => ?_, fun s typ peer slot h => ?_, fun s c x h done => ?_, fun s c x h done => ?_⟩
  · refine ⟨_, exec_sessionOpen_of_quotaOk s typ peer slot (by simp [mode]) quota, ?_, fun c hc => ?_, ?_⟩
    · rw [State.session_of_gal (State.after_gal ..), State.session_of_gal (State.reply_gal ..), State.session_setSession_self]
    · rw [State.session_of_gal (State.after_gal ..), State.session_of_gal (State.reply_gal ..), State.session_setSession_ne _ _ hc]
      rfl
    · rw [State.reply_eq]; rfl
  · refine ⟨_, exec_sessionOpen_of_refused s typ peer slot h, ?_⟩
    rw [State.reply_eq]; rfl
  · simpa [done] using exec_sessionClose s h
  · simpa [done] using exec_sessionClose s h

/-! ### The sideband of an engine (R37, R45, R57) -/

/-- A fold that writes one value to the field of each index leaves that value in each of them. -/
theorem State.get_foldl_putB (fld : Nat → Fld) (inj : ∀ a b, a ≠ b → (fld a).key ≠ (fld b).key) (l : List Nat) (s : State) (b : Bool)
    (n : Nat) :
    (l.foldl (fun s k => s.putB (fld k) b) s).get (fld n) = if n ∈ l then b2n b % 2 ^ (fld n).width else s.get (fld n) := by
  induction l generalizing s with
  | nil => simp
  | cons a l ih =>
    rw [List.foldl_cons, ih, State.putB_eq]
    by_cases h : n = a
    · subst h; simp
    · simp [h, s.get_put_ne _ _ _ (inj n a h)]

theorem fifProducerReset_key (f : Nat) : (F.FIF_STAT_PRODUCER_RESET.at f).key = 6292487 + 2048 * f := by
  simp only [Fld.at, Fld.at2, Fld.key, F.FIF_STAT_PRODUCER_RESET]; omega

theorem fifCfgProducer_key (f : Nat) : (F.FIF_CFG_PRODUCER.at f).key = 6292616 + 2048 * f := by
  simp only [Fld.at, Fld.at2, Fld.key, F.FIF_CFG_PRODUCER]; omega

/-- Of a list of semaphores that are abandoned and counted, each is marked. -/
theorem foldl_semAbandon_semAbandoned {n : Nat} (hn : n < 128) (l : List Nat) (s : State) :
    (l.foldl (fun s m => (s.semAbandon m).inc F.SEM_ERR_ABANDONS) s).get (F.SEM_SEMn_ABANDONED.at n) =
      if n ∈ l then 1 else s.get (F.SEM_SEMn_ABANDONED.at n) := by
  induction l generalizing s with
  | nil => simp
  | cons m l ih =>
    rw [List.foldl_cons, ih, State.inc_eq, State.get_put_ne _ _ _ _ (by rw [semAbandoned_key, semErrAbandons_key]; omega)]
    by_cases h : n = m
    · subst h; simp
    · have hne : (s.semAbandon m).get (F.SEM_SEMn_ABANDONED.at n) = s.get (F.SEM_SEMn_ABANDONED.at n) := by
        simp only [State.semAbandon, State.putB_eq]
        rw [State.get_put_ne _ _ _ _ (by simp only [semAbandoned_key]; omega),
          State.get_put_ne _ _ _ _ (by simp only [semAbandoned_key, semOwner_key]; omega)]
      simp [h, hne]

/-- Abandoning leaves the fields of the FIFOs. -/
theorem semAbandonAll_get_of_fif (s : State) (e : Nat) {f : Fld} (hf : 4260000 < f.key) : (s.semAbandonAll e).get f = s.get f := by
  unfold State.semAbandonAll
  generalize hl : (List.range 128).filter (fun n => s.get (F.SEM_SEMn_OWNER.at n) = e) = l
  have small : ∀ n ∈ l, n < 128 := fun n hn => by
    subst hl; exact List.mem_range.1 (List.mem_filter.1 hn).1
  clear hl
  induction l generalizing s with
  | nil => rfl
  | cons m l ih =>
    have hm := small m (List.mem_cons_self ..)
    rw [List.foldl_cons, ih _ fun n hn => small n (List.mem_cons_of_mem _ hn)]
    simp only [State.semAbandon, State.inc_eq, State.putB_eq]
    rw [State.get_put_ne _ _ _ _ (by rw [semErrAbandons_key]; omega),
      State.get_put_ne _ _ _ _ (by rw [semAbandoned_key]; omega), State.get_put_ne _ _ _ _ (by rw [semOwner_key]; omega)]

/-- The sideband marks the semaphores that its engine owns. -/
theorem sideband_semAbandoned (s : State) (e : Nat) {n : Nat} (hn : n < 128) (own : s.get (F.SEM_SEMn_OWNER.at n) = e) :
    (s.sideband e).get (F.SEM_SEMn_ABANDONED.at n) = 1 := by
  unfold State.sideband
  refine (foldl_keeps (fun t : State => t.get (F.SEM_SEMn_ABANDONED.at n)) _ ?_ _ _).trans ?_
  · exact fun t f => t.get_put_ne _ _ _ (by rw [semAbandoned_key, fifProducerReset_key]; omega)
  · unfold State.semAbandonAll
    rw [foldl_semAbandon_semAbandoned hn]
    simp [hn, own]

/-- The sideband flags the FIFOs that its engine fills. -/
theorem sideband_fifProducerReset (s : State) (e : Nat) {f : Nat} (hf : f < 64) (own : s.get (F.FIF_CFG_PRODUCER.at f) = e) :
    (s.sideband e).get (F.FIF_STAT_PRODUCER_RESET.at f) = 1 := by
  unfold State.sideband
  have inj : ∀ a b, a ≠ b → (F.FIF_STAT_PRODUCER_RESET.at a).key ≠ (F.FIF_STAT_PRODUCER_RESET.at b).key := fun a b h => by
    simp only [fifProducerReset_key]; omega
  refine (State.get_foldl_putB F.FIF_STAT_PRODUCER_RESET.at inj _ _ true f).trans (if_pos ?_)
  refine List.mem_filter.2 ⟨List.mem_range.2 hf, decide_eq_true ?_⟩
  exact (semAbandonAll_get_of_fif _ _ (by rw [fifCfgProducer_key]; omega)).trans own

/-- A state but for its registers and the Gallery's part. -/
def State.outsideGallery (s : State) : State := { s with regs := [], gal := {} }

/-- Abandonments and marks leave the rest of the state. -/
theorem sideband_outsideGallery (s : State) (e : Nat) : (s.sideband e).outsideGallery = s.outsideGallery := by
  unfold State.sideband State.semAbandonAll
  refine (foldl_keeps State.outsideGallery _ ?_ _ _).trans ((foldl_keeps State.outsideGallery _ ?_ _ _).trans rfl)
  · exact fun _ _ => rfl
  · exact fun _ _ => rfl

theorem State.eq_of_outsideGallery {s t : State} (h : t.outsideGallery = s.outsideGallery) :
    { t with gal := s.gal, regs := s.regs } = s :=
  congrArg (fun u : State => { u with gal := s.gal, regs := s.regs }) h

/-- Settles O5: the mask and the dropped requests come first, then the semaphores, then the FIFOs. -/
theorem sidebandMasksTheEngine : Obligations.SidebandMasksTheEngine := by
  unfold Obligations.SidebandMasksTheEngine
  intro s e _
  refine ⟨s.after (s.begin.sideband e), rfl, ?_, ?_, fun n hn own => ⟨?_, ?_⟩, fun n hn other => ?_, fun f hf own => ?_, ?_⟩
  · rw [State.after_gal, sideband_gal]; rfl
  · rw [State.after_gal, sideband_gal]; rfl
  · rw [State.after_get, sideband_semOwner _ _ hn]; exact if_pos own
  · rw [State.after_get]; exact sideband_semAbandoned _ _ hn own
  · rw [State.after_get, sideband_semOwner _ _ hn]; exact if_neg other
  · rw [State.after_get]; exact sideband_fifProducerReset _ _ hf own
  · have h := State.eq_of_outsideGallery (sideband_outsideGallery s.begin e)
    exact congrArg (fun u : State => { u with out := s.out, pending := s.pending, mem := s.mem }) h

/-! ### Writes and reads of registers (R13 to R16, R32, R70, R533, R634) -/

/-- Reading a window looks at the latches alone (R254). -/
theorem State.latched_of_latch {s t : State} (h : t.latch = s.latch) (win rk : Nat) : t.latched win rk = s.latched win rk := by
  simp only [State.latched, h]

@[simp] theorem State.latched_setLatch_self (s : State) (win rk : Nat) (l : List Nat) :
    (s.setLatch win rk l).latched win rk = l := SMap.getD_put_self (α := List Nat) _ _ _ _

/-- A state but for its registers. -/
def State.outsideRegs (s : State) : State := { s with regs := [] }

theorem State.eq_of_outsideRegs {s t : State} (h : t.outsideRegs = s.outsideRegs) : { t with regs := s.regs } = s :=
  congrArg (fun u : State => { u with regs := s.regs }) h

theorem State.store_outsideRegs (s : State) (x : RegWrite) : (s.store x).outsideRegs = s.outsideRegs := by
  unfold State.store
  refine foldl_keeps State.outsideRegs _ (fun t d => ?_) _ _
  dsimp only
  split
  · rfl
  · split <;> rfl

theorem State.clearRc_outsideRegs (s : State) (r : RegDesc) (i j : Nat) : (s.clearRc r i j).outsideRegs = s.outsideRegs := by
  unfold State.clearRc
  refine foldl_keeps State.outsideRegs _ (fun t d => ?_) _ _
  split <;> rfl

/-- Storing looks at nothing that a command emits. -/
theorem State.store_begin (s : State) (x : RegWrite) : s.begin.store x = (s.store x).begin := by
  unfold State.store
  refine List.foldl_hom State.begin fun t d => ?_
  dsimp only
  split
  · rfl
  · cases d.acc <;> rfl

theorem State.clearRc_begin (s : State) (r : RegDesc) (i j : Nat) : s.begin.clearRc r i j = (s.clearRc r i j).begin := by
  unfold State.clearRc
  refine List.foldl_hom State.begin fun t d => ?_
  split <;> rfl

/-- The writes of one clock, from the state in which the command begins. -/
theorem exec_registerWrite_eq (s : State) (who : Requester) (addr : Nat) (w : Word) (l : List (Requester × Word)) :
    exec (.registerWrite who addr w l) s =
      .next (s.after ((((who, w) :: l).foldr insertWrite []).foldl (fun s p => s.writeRow addr p) s.begin)) := rfl

theorem exec_registerWrite_one (s : State) (who : Requester) (addr : Nat) (w : Word) :
    exec (.registerWrite who addr w []) s = .next (s.after (s.begin.writeRow addr (who, w))) := rfl

theorem exec_rcFieldRead_eq (s : State) (who : Requester) (addr : Nat) :
    exec (.rcFieldRead who addr) s = .next (s.after (s.begin.readRow who addr)) := rfl

/-- A write to a register by a requester that is out of reset is judged, done and answered. -/
theorem State.writeRow_of_reg (s : State) {who : Requester} {addr : Nat} (w : Word) {r : RegDesc} {i j : Nat}
    (up : who.awake s = true) (reg : findReg addr = some (r, i, j)) :
    s.writeRow addr (who, w) =
      if s.judge ⟨r, i, j, w.toNat, who⟩ = St.done then
        (s.regEffect ⟨r, i, j, w.toNat, who⟩).1.reply who (s.regEffect ⟨r, i, j, w.toNat, who⟩).2
      else s.reply who (s.judge ⟨r, i, j, w.toNat, who⟩) := by
  have h : s.writeRow addr (who, w) =
      (s.regWrite who addr w.toNat).1.reply who (s.regWrite who addr w.toNat).2 := by
    unfold State.writeRow
    simp only [up, reg]
    cases who <;> rfl
  rw [h]
  simp only [State.regWrite, reg]
  split <;> rfl

/-- The blocks whose registers have no effect of their own store what is written. -/
theorem State.regEffect_of_plain_block (s : State) (x : RegWrite)
    (h : x.r.addr / 65536 ∈ [0x12, 0x13, 0x14] ∨ (x.r.addr / 65536 = 0 ∧ x.r.addr ≠ 0x0000C)) : s.regEffect x = s.stored x := by
  unfold State.regEffect
  rcases h with h | ⟨h, cmd⟩
  · simp only [List.mem_cons, List.not_mem_nil, or_false] at h
    rcases h with h | h | h <;> rw [h] <;> rfl
  · rw [h]
    exact if_neg cmd

/-- An engine at an address without a register gets an access fault (R32). -/
theorem State.writeRow_of_no_reg_engine (s : State) {addr e : Nat} (w : Word) (up : s.awake e = true) (reg : findReg addr = none) :
    s.writeRow addr (.engine e, w) = s.accessFault e addr := by
  have up' : (Requester.engine e).awake s = true := up
  simp only [State.writeRow, up', reg, Bool.not_true, Bool.false_eq_true, if_false]

/-- Another requester there is refused (R16, R634). -/
theorem State.writeRow_of_no_reg_session (s : State) {addr c : Nat} (w : Word) (role : writeRole addr ≤ s.roleOf (.session c))
    (mode : s.mode ≠ .recovery) (reg : findReg addr = none) :
    s.writeRow addr (.session c, w) = s.reply (.session c) St.badArg := by
  have st : s.noRegStatus (.session c) addr = St.badArg := by
    simp [State.noRegStatus, Nat.not_lt.2 role, mode]
  simp only [State.writeRow, Requester.awake, State.regWrite, reg, st, Bool.not_true, Bool.false_eq_true, if_false]

theorem State.writeRow_of_reset (s : State) {who : Requester} (addr : Nat) (w : Word) (down : who.awake s = false) :
    s.writeRow addr (who, w) = s := by
  simp only [State.writeRow, down, Bool.not_false, if_true]

/-- The registers whose reads do more than clear. -/
def actingReads : List Nat := [0x20000, 0x30010, 0x40000, 0xE0010, 0xE0104, 0xF0000, 0xF0018, 0x101000, 0x190014]

/-- A read clears the RC fields of its register (R15). -/
theorem State.readRow_of_reg (s : State) {who : Requester} {addr : Nat} {r : RegDesc} {i j : Nat} (up : who.awake s = true)
    (reg : findReg addr = some (r, i, j)) (plain : r.addr ∉ actingReads) :
    s.readRow who addr = (s.clearRc r i j).reply who St.done [s.word who.key addr] := by
  have h : s.regRead who addr = (s.clearRc r i j, some (s.word who.key addr)) := by
    simp only [actingReads, List.mem_cons, List.not_mem_nil, or_false, not_or] at plain
    obtain ⟨h1, h2, h3, h4, h5, h6, h7, h8, h9⟩ := plain
    simp only [State.regRead, reg]
  simp only [State.readRow, up, Bool.not_true, Bool.false_eq_true, if_false, h]

/-- Settles O7: what R634 refuses is answered, what it accepts is stored, and a read clears or latches. -/
theorem registerAccessIsJudgedThenDone : Obligations.RegisterAccessIsJudgedThenDone := by
  unfold Obligations.RegisterAccessIsJudgedThenDone
  refine ⟨fun s who addr w r i j up reg refused => ?_, fun s who addr w r i j up reg accepted plain => ?_, fun s addr e w reg up => ?_,
    fun s addr c w reg role mode => ?_, fun s addr e w down => ?_, fun s addr c d v w hcd => ?_,
    fun s who addr r i j up reg plain => ?_, fun s who up => ?_, fun s who up => ?_⟩
  · have row := s.begin.writeRow_of_reg w ((begin_awake s who).trans up) reg
    rw [if_neg (show s.begin.judge ⟨r, i, j, w.toNat, who⟩ ≠ St.done from refused)] at row
    refine ⟨_, by rw [exec_registerWrite_one, row], ?_, ?_⟩
    · rw [State.after_out, State.reply_out]; rfl
    · rw [State.reply_eq]; rfl
  · have row := s.begin.writeRow_of_reg w ((begin_awake s who).trans up) reg
    rw [if_pos (show s.begin.judge ⟨r, i, j, w.toNat, who⟩ = St.done from accepted), State.regEffect_of_plain_block _ _ plain,
      State.stored, State.store_begin] at row
    refine ⟨_, by rw [exec_registerWrite_one, row], ?_, ?_, ?_⟩
    · rw [State.after_regs, State.reply_regs]; rfl
    · rw [State.after_out, State.reply_out]; rfl
    · rw [State.reply_eq]
      exact congrArg (fun u : State => { u with out := s.out, pending := s.pending, mem := s.mem })
        (State.eq_of_outsideRegs (s.store_outsideRegs ⟨r, i, j, w.toNat, who⟩))
  · refine ⟨_, by rw [exec_registerWrite_one, s.begin.writeRow_of_no_reg_engine w up reg], ?_, ?_⟩ <;>
      rw [State.accessFault, State.emit_of_not_held _ _ rfl] <;> rfl
  · refine ⟨_, by rw [exec_registerWrite_one, s.begin.writeRow_of_no_reg_session w role mode reg], ?_, ?_⟩
    · rw [State.after_out, State.reply_out]; rfl
    · rw [State.reply_eq]; rfl
  · exact ⟨s.after s.begin, by rw [exec_registerWrite_one, s.begin.writeRow_of_reset addr w (who := .engine e) down], rfl⟩
  · have lt : (Requester.session c).key < (Requester.session d).key := Nat.add_lt_add_left hcd 64
    have order : ([(.session d, w), (.session c, v)] : List (Requester × Word)).foldr insertWrite [] =
        [(.session c, v), (.session d, w)].foldr insertWrite [] := by
      simp only [List.foldr_cons, List.foldr_nil, insertWrite, if_neg (Nat.lt_asymm lt), if_pos lt]
    rw [exec_registerWrite_eq, exec_registerWrite_eq, order]
  · have row := s.begin.readRow_of_reg ((begin_awake s who).trans up) reg plain
    rw [State.clearRc_begin] at row
    refine ⟨_, by rw [exec_rcFieldRead_eq, row], ?_, ?_, ?_⟩
    · rw [State.after_regs, State.reply_regs]; rfl
    · rw [State.after_out, State.reply_out]; rfl
    · rw [State.reply_eq]
      exact congrArg (fun u : State => { u with out := s.out, pending := s.pending, mem := s.mem })
        (State.eq_of_outsideRegs (s.clearRc_outsideRegs r i j))
  · have row := s.begin.readRow_of_reg (addr := 0x20804) ((begin_awake s who).trans up) rfl (by decide)
    refine ⟨_, by rw [exec_rcFieldRead_eq, row], ?_, ?_⟩
    · rw [State.after_get, State.reply_get]
      exact State.get_put_self _ _ _
    · rw [State.after_get, State.reply_get]
      exact (State.get_put_ne _ _ _ _ (by decide)).trans (State.get_put_self _ _ _)
  · refine ⟨s.after ((s.begin.readNum who.key).1.reply who St.done [(s.begin.readNum who.key).2]), ?_, ?_, ?_, ?_⟩
    · have up' : who.awake s.begin = true := (begin_awake s who).trans up
      unfold exec
      simp only [execFrmNumLoRead, State.act, State.when, up', if_true]
    · rw [State.latched_of_latch (State.after_latch ..), State.latched_of_latch (State.reply_latch ..)]
      exact s.begin.latched_setLatch_self _ _ _
    · rw [State.after_out, State.reply_out]; rfl
    · rw [State.reply_eq]; rfl

end Sys2Proof.Machine

/-! ### What an operation leaves: the parts of the state that it may change -/

namespace Sys2Proof.Machine

/-- The parts of the state for the accounts of what an operation changes: the fields of `State`, with the session contexts, the ticket
slots, the held effects, the waiting command statuses, the mode requests, the offset in the frame and the Curator cores apart, and the
register fields by block, with the command-status registers apart; `wild` stands for a write of a field whose index nothing bounds. -/
inductive Part where
  | phase | mode | role | latch | frame | modeReqs | offset | cores | gal | sessions | prog | slots | light | net | drv | pos | fleet | stp
  | time | rtc | meter | wired | asked | spl | held | upd | keys | recs | bst | mem | free | out | pending | regs
  | cmdStat | block (b : Nat) | wild
  deriving DecidableEq

/-- The part that a register field belongs to. -/
def Fld.part (f : Fld) : Part := if cmdStats.any (fun a => f.key == a * 32) then .cmdStat else .block (f.key / 2 ^ 21)

/-- The program without its ticket slots. -/
def Prog.noSlots (p : Prog) : Prog := { p with sects := p.sects.map fun x => { x with slots := [] } }

/-- The frame's part without the mode requests, the offset and the cores. -/
def Frame.rest (x : Frame) : Frame := { x with modeReqs := [], off := 0, c0 := {}, c1 := {} }

/-- Two states agree on a part, its register fields apart. -/
def Part.same (s t : State) : Part → Prop
  | .phase => t.phase = s.phase
  | .mode => t.mode = s.mode
  | .role => t.role = s.role
  | .latch => t.latch = s.latch
  | .frame => t.frame.rest = s.frame.rest
  | .cores => t.frame.c0 = s.frame.c0 ∧ t.frame.c1 = s.frame.c1
  | .modeReqs => t.frame.modeReqs = s.frame.modeReqs
  | .offset => t.frame.off = s.frame.off
  | .gal => { t.gal with sessions := [] } = { s.gal with sessions := [] }
  | .sessions => t.gal.sessions = s.gal.sessions
  | .prog => t.prog.noSlots = s.prog.noSlots
  | .slots => t.prog.sects.map Sect.slots = s.prog.sects.map Sect.slots
  | .light => t.light = s.light
  | .net => t.net = s.net
  | .drv => t.drv = s.drv
  | .pos => t.pos = s.pos
  | .fleet => t.fleet = s.fleet
  | .stp => t.stp = s.stp
  | .time => t.time = s.time
  | .rtc => t.rtc = s.rtc
  | .meter => t.meter = s.meter
  | .wired => { t.wired with waitCmd := [], spiResp := none, spiRdy := false } =
      { s.wired with waitCmd := [], spiResp := none, spiRdy := false }
  | .asked => t.wired.waitCmd = s.wired.waitCmd ∧ t.wired.spiResp = s.wired.spiResp ∧ t.wired.spiRdy = s.wired.spiRdy
  | .spl => { t.spl with held := [] } = { s.spl with held := [] }
  | .held => t.spl.held = s.spl.held
  | .upd => t.upd = s.upd
  | .keys => t.keys = s.keys
  | .recs => t.recs = s.recs
  | .bst => t.bst = s.bst
  | .mem => t.mem = s.mem
  | .free => t.free = s.free
  | .out => t.out = s.out
  | .pending => t.pending = s.pending
  | .regs => t.regs = s.regs
  | .cmdStat => True
  | .block _ => True
  | .wild => True

/-- State t differs from s in the parts D at most. -/
structure Within (D : List Part) (s t : State) : Prop where
  same : ∀ c, c ∉ D → c.same s t
  fields : .wild ∉ D → ∀ f : Fld, f.part ∉ D → t.get f = s.get f

theorem Part.same_refl (s : State) (c : Part) : c.same s s := by
  cases c <;> simp [Part.same]

theorem Part.same_trans {s t u : State} {c : Part} (h : c.same s t) (k : c.same t u) : c.same s u := by
  cases c with
  | asked => exact ⟨k.1.trans h.1, k.2.1.trans h.2.1, k.2.2.trans h.2.2⟩
  | cores => exact ⟨k.1.trans h.1, k.2.trans h.2⟩
  | cmdStat | block _ | wild => trivial
  | _ => exact Eq.trans k h

theorem Part.same_symm {s t : State} {c : Part} (h : c.same s t) : c.same t s := by
  cases c with
  | asked => exact ⟨h.1.symm, h.2.1.symm, h.2.2.symm⟩
  | cores => exact ⟨h.1.symm, h.2.symm⟩
  | cmdStat | block _ | wild => trivial
  | _ => exact Eq.symm h

@[simp] theorem Within.refl (D : List Part) (s : State) : Within D s s := ⟨fun c _ => c.same_refl s, fun _ _ _ => rfl⟩

theorem Within.trans {D : List Part} {s t u : State} (h : Within D s t) (k : Within D t u) : Within D s u :=
  ⟨fun c hc => Part.same_trans (h.same c hc) (k.same c hc), fun w f hf => (k.fields w f hf).trans (h.fields w f hf)⟩

theorem Within.symm {D : List Part} {s t : State} (h : Within D s t) : Within D t s :=
  ⟨fun c hc => Part.same_symm (h.same c hc), fun w f hf => (h.fields w f hf).symm⟩

theorem Within.mono {D E : List Part} {s t : State} (h : Within D s t) (sub : ∀ c ∈ D, c ∈ E) : Within E s t :=
  ⟨fun c hc => h.same c fun m => hc (sub c m), fun w f hf => h.fields (fun m => w (sub _ m)) f fun m => hf (sub _ m)⟩

/-- A field outside the parts keeps its value. -/
theorem Within.get {D : List Part} {s t : State} (h : Within D s t) {f : Fld} (hf : f.part ∉ D := by decide)
    (hw : .wild ∉ D := by decide) : t.get f = s.get f := h.fields hw f hf

theorem Within.phase {D : List Part} {s t : State} (h : Within D s t) (hp : .phase ∉ D := by decide) : t.phase = s.phase := (h.same _ hp)

theorem Within.mode {D : List Part} {s t : State} (h : Within D s t) (hp : .mode ∉ D := by decide) : t.mode = s.mode := (h.same _ hp)

theorem Within.role {D : List Part} {s t : State} (h : Within D s t) (hp : .role ∉ D := by decide) : t.role = s.role := (h.same _ hp)

theorem Within.latch {D : List Part} {s t : State} (h : Within D s t) (hp : .latch ∉ D := by decide) : t.latch = s.latch := (h.same _ hp)

theorem Within.light {D : List Part} {s t : State} (h : Within D s t) (hp : .light ∉ D := by decide) : t.light = s.light := (h.same _ hp)

theorem Within.net {D : List Part} {s t : State} (h : Within D s t) (hp : .net ∉ D := by decide) : t.net = s.net := (h.same _ hp)

theorem Within.drv {D : List Part} {s t : State} (h : Within D s t) (hp : .drv ∉ D := by decide) : t.drv = s.drv := (h.same _ hp)

theorem Within.pos {D : List Part} {s t : State} (h : Within D s t) (hp : .pos ∉ D := by decide) : t.pos = s.pos := (h.same _ hp)

theorem Within.fleet {D : List Part} {s t : State} (h : Within D s t) (hp : .fleet ∉ D := by decide) : t.fleet = s.fleet := (h.same _ hp)

theorem Within.stp {D : List Part} {s t : State} (h : Within D s t) (hp : .stp ∉ D := by decide) : t.stp = s.stp := (h.same _ hp)

theorem Within.time {D : List Part} {s t : State} (h : Within D s t) (hp : .time ∉ D := by decide) : t.time = s.time := (h.same _ hp)

theorem Within.rtc {D : List Part} {s t : State} (h : Within D s t) (hp : .rtc ∉ D := by decide) : t.rtc = s.rtc := (h.same _ hp)

theorem Within.meter {D : List Part} {s t : State} (h : Within D s t) (hp : .meter ∉ D := by decide) : t.meter = s.meter := (h.same _ hp)

theorem Within.upd {D : List Part} {s t : State} (h : Within D s t) (hp : .upd ∉ D := by decide) : t.upd = s.upd := (h.same _ hp)

theorem Within.keys {D : List Part} {s t : State} (h : Within D s t) (hp : .keys ∉ D := by decide) : t.keys = s.keys := (h.same _ hp)

theorem Within.recs {D : List Part} {s t : State} (h : Within D s t) (hp : .recs ∉ D := by decide) : t.recs = s.recs := (h.same _ hp)

theorem Within.bst {D : List Part} {s t : State} (h : Within D s t) (hp : .bst ∉ D := by decide) : t.bst = s.bst := (h.same _ hp)

theorem Within.mem {D : List Part} {s t : State} (h : Within D s t) (hp : .mem ∉ D := by decide) : t.mem = s.mem := (h.same _ hp)

theorem Within.free {D : List Part} {s t : State} (h : Within D s t) (hp : .free ∉ D := by decide) : t.free = s.free := (h.same _ hp)

theorem Within.out {D : List Part} {s t : State} (h : Within D s t) (hp : .out ∉ D := by decide) : t.out = s.out := (h.same _ hp)

theorem Within.pending {D : List Part} {s t : State} (h : Within D s t) (hp : .pending ∉ D := by decide) : t.pending = s.pending := (h.same _ hp)

theorem Within.regs {D : List Part} {s t : State} (h : Within D s t) (hp : .regs ∉ D := by decide) : t.regs = s.regs := (h.same _ hp)

theorem Within.sessions {D : List Part} {s t : State} (h : Within D s t) (hp : .sessions ∉ D := by decide) :
    t.gal.sessions = s.gal.sessions := (h.same _ hp)

theorem Within.gal_but_sessions {D : List Part} {s t : State} (h : Within D s t) (hp : .gal ∉ D := by decide) :
    { t.gal with sessions := [] } = { s.gal with sessions := [] } := (h.same _ hp)

theorem Within.masked {D : List Part} {s t : State} (h : Within D s t) (hp : .gal ∉ D := by decide) : t.gal.masked = s.gal.masked :=
  (congrArg Gallery.masked (h.same _ hp) :)

theorem Within.modeReqs {D : List Part} {s t : State} (h : Within D s t) (hp : .modeReqs ∉ D := by decide) :
    t.frame.modeReqs = s.frame.modeReqs := (h.same _ hp)

theorem Within.cores {D : List Part} {s t : State} (h : Within D s t) (hp : .cores ∉ D := by decide) :
    t.frame.c0 = s.frame.c0 ∧ t.frame.c1 = s.frame.c1 := h.same _ hp

theorem Within.offset {D : List Part} {s t : State} (h : Within D s t) (hp : .offset ∉ D := by decide) :
    t.frame.off = s.frame.off := h.same _ hp

/-- A fact of the frame's part that is neither a mode request nor the offset nor a core. -/
theorem Within.frame_proj {α : Type} (p : Frame → α) (hf : ∀ x : Frame, p x.rest = p x) {D : List Part}
    {s t : State} (h : Within D s t) (hp : .frame ∉ D := by decide) : p t.frame = p s.frame := by
  rw [← hf t.frame, ← hf s.frame]
  exact congrArg p (h.same _ hp)

theorem Within.num {D : List Part} {s t : State} (h : Within D s t) (hp : .frame ∉ D := by decide) : t.num = s.num :=
  h.frame_proj Frame.num (fun _ => rfl) hp

/-- The whole of the frame's part. -/
theorem Within.frame_eq {D : List Part} {s t : State} (h : Within D s t) (hp : .frame ∉ D := by decide)
    (hm : .modeReqs ∉ D := by decide) (ho : .offset ∉ D := by decide) (hc : .cores ∉ D := by decide) : t.frame = s.frame := by
  have rest : t.frame.rest = s.frame.rest := h.same _ hp
  have reqs := h.modeReqs hm
  have off := h.offset ho
  obtain ⟨c0, c1⟩ := h.cores hc
  cases ht : t.frame
  cases hs : s.frame
  simp_all [Frame.rest]

/-- The whole of the Gallery's part. -/
theorem Within.gal_eq {D : List Part} {s t : State} (h : Within D s t) (hp : .gal ∉ D := by decide)
    (hs : .sessions ∉ D := by decide) : t.gal = s.gal := by
  have rest := h.gal_but_sessions hp
  have sess := h.sessions hs
  cases ht : t.gal
  cases hs : s.gal
  simp_all

/-- A fact of the program's part that is no ticket slot. -/
theorem Within.prog_proj {α : Type} (p : Prog → α) (hf : ∀ x : Prog, p x.noSlots = p x) {D : List Part}
    {s t : State} (h : Within D s t) (hp : .prog ∉ D := by decide) : p t.prog = p s.prog := by
  rw [← hf t.prog, ← hf s.prog]
  exact congrArg p (h.same _ hp)

theorem Within.spl_proj {α : Type} (p : Splice → α) (hf : ∀ x : Splice, p { x with held := [] } = p x) {D : List Part}
    {s t : State} (h : Within D s t) (hp : .spl ∉ D := by decide) : p t.spl = p s.spl := by
  rw [← hf t.spl, ← hf s.spl]
  exact congrArg p (h.same _ hp)

theorem Within.session {D : List Part} {s t : State} (h : Within D s t) (c : Nat) (hp : .sessions ∉ D := by decide) :
    t.session c = s.session c := by
  simp only [State.session, h.sessions hp]

/-- A step that stays within the parts does not count. -/
theorem Within.step_iff {D : List Part} {s t u : State} (h : Within D t u) : Within D s u ↔ Within D s t :=
  ⟨fun k => k.trans h.symm, fun k => k.trans h⟩

theorem Within.foldl {α : Type} {D : List Part} {f : State → α → State} {l : List α} {s t : State} (h : Within D s t)
    (hf : ∀ u, ∀ x ∈ l, Within D u (f u x)) : Within D s (l.foldl f t) := by
  induction l generalizing t with
  | nil => exact h
  | cons x l ih => exact ih (h.trans (hf t x (List.mem_cons_self ..))) fun u y hy => hf u y (List.mem_cons_of_mem _ hy)

/-- An operation that leaves the registers is judged by the other parts. -/
theorem Within.of_same {D : List Part} {s t : State} (regs : t.regs = s.regs) (h : ∀ c, c ∉ D → c.same s t) : Within D s t :=
  ⟨h, fun _ f _ => State.get_of_regs regs f⟩

/-! ### The operations on one part -/

/-- The part of a field is that of its place. -/
theorem Fld.part_of_key {f g : Fld} (h : g.key = f.key) : g.part = f.part := by simp only [Fld.part, h]

/-- The block of an indexed field is that of its address. -/
theorem Fld.part_at2 (f : Fld) (i j : Nat) {b : Nat} (hlo : f.lo < 32) (hb : (f.addr + i * f.s1 + j * f.s2) / 65536 = b)
    (hc : ∀ a ∈ cmdStats, f.addr + i * f.s1 + j * f.s2 ≠ a) : (f.at2 i j).part = .block b := by
  have key : (f.at2 i j).key = (f.addr + i * f.s1 + j * f.s2) * 32 + f.lo := rfl
  rw [Fld.part, if_neg, key, show ((f.addr + i * f.s1 + j * f.s2) * 32 + f.lo) / 2 ^ 21 = b by omega]
  intro h
  obtain ⟨a, ha, e⟩ := List.any_eq_true.1 h
  have e := eq_of_beq e
  rw [key] at e
  exact hc a ha (by omega)

theorem Fld.part_at (f : Fld) (i : Nat) {b : Nat} (hlo : f.lo < 32) (hb : (f.addr + i * f.s1) / 65536 = b)
    (hc : ∀ a ∈ cmdStats, f.addr + i * f.s1 ≠ a) : (f.at i).part = .block b :=
  f.part_at2 i 0 hlo (by simpa using hb) (by simpa using hc)

/-- A field of a block without a command-status register. -/
theorem Fld.part_eq_block {f : Fld} {b : Nat} (h : f.key / 2 ^ 21 = b) (hb : b ∉ [0, 13, 14, 16, 22, 23, 24, 26]) :
    f.part = .block b := by
  rw [Fld.part, if_neg, h]
  intro hc
  obtain ⟨a, ha, e⟩ := List.any_eq_true.1 hc
  have key := eq_of_beq e
  have blk : ∀ x ∈ cmdStats, x * 32 / 2 ^ 21 ∈ [0, 13, 14, 16, 22, 23, 24, 26] := by decide
  exact hb (h ▸ key ▸ blk a ha)

theorem within_put {D : List Part} (s : State) {f : Fld} (v : Nat) (hr : .regs ∈ D) (hf : f.part ∈ D) : Within D s (s.put f v) := by
  refine ⟨fun c hc => ?_, fun _ g hg => s.get_put_ne _ _ _ fun h => hg (Fld.part_of_key h ▸ hf)⟩
  cases c with
  | regs => exact absurd hr hc
  | asked => exact ⟨rfl, rfl, rfl⟩
  | cores => exact ⟨rfl, rfl⟩
  | cmdStat | block _ | wild => trivial
  | _ => rfl

@[simp] theorem Within.put_iff {D : List Part} {s t : State} {f : Fld} {v : Nat} (hr : .regs ∈ D) (hf : f.part ∈ D) :
    Within D s (t.put f v) ↔ Within D s t := (within_put t v hr hf).step_iff

theorem within_modFrame {D : List Part} (s : State) (g : Frame → Frame) (h0 : .frame ∈ D) (h1 : .modeReqs ∈ D) (h2 : .offset ∈ D)
    (h3 : .cores ∈ D) : Within D s (s.modFrame g) := by
  refine .of_same rfl fun c hc => ?_
  cases c with
  | frame => exact absurd h0 hc
  | modeReqs => exact absurd h1 hc
  | offset => exact absurd h2 hc
  | cores => exact absurd h3 hc
  | asked => exact ⟨rfl, rfl, rfl⟩
  | cmdStat | block _ | wild => trivial
  | _ => rfl

@[simp] theorem Within.modFrame_iff {D : List Part} {s t : State} {g : Frame → Frame} (h0 : .frame ∈ D) (h1 : .modeReqs ∈ D)
    (h2 : .offset ∈ D) (h3 : .cores ∈ D) : Within D s (t.modFrame g) ↔ Within D s t := (within_modFrame t g h0 h1 h2 h3).step_iff

theorem within_modGal {D : List Part} (s : State) (g : Gallery → Gallery) (h0 : .gal ∈ D) (h1 : .sessions ∈ D) :
    Within D s (s.modGal g) := by
  refine .of_same rfl fun c hc => ?_
  cases c with
  | gal => exact absurd h0 hc
  | sessions => exact absurd h1 hc
  | asked => exact ⟨rfl, rfl, rfl⟩
  | cores => exact ⟨rfl, rfl⟩
  | cmdStat | block _ | wild => trivial
  | _ => rfl

@[simp] theorem Within.modGal_iff {D : List Part} {s t : State} {g : Gallery → Gallery} (h0 : .gal ∈ D) (h1 : .sessions ∈ D) :
    Within D s (t.modGal g) ↔ Within D s t := (within_modGal t g h0 h1).step_iff

theorem within_modProg {D : List Part} (s : State) (g : Prog → Prog) (h0 : .prog ∈ D) (h1 : .slots ∈ D) :
    Within D s (s.modProg g) := by
  refine .of_same rfl fun c hc => ?_
  cases c with
  | prog => exact absurd h0 hc
  | slots => exact absurd h1 hc
  | asked => exact ⟨rfl, rfl, rfl⟩
  | cores => exact ⟨rfl, rfl⟩
  | cmdStat | block _ | wild => trivial
  | _ => rfl

@[simp] theorem Within.modProg_iff {D : List Part} {s t : State} {g : Prog → Prog} (h0 : .prog ∈ D) (h1 : .slots ∈ D) :
    Within D s (t.modProg g) ↔ Within D s t := (within_modProg t g h0 h1).step_iff

theorem within_modLight {D : List Part} (s : State) (g : Light → Light) (h0 : .light ∈ D) :
    Within D s (s.modLight g) := by
  refine .of_same rfl fun c hc => ?_
  cases c with
  | light => exact absurd h0 hc
  | asked => exact ⟨rfl, rfl, rfl⟩
  | cores => exact ⟨rfl, rfl⟩
  | cmdStat | block _ | wild => trivial
  | _ => rfl

@[simp] theorem Within.modLight_iff {D : List Part} {s t : State} {g : Light → Light} (h0 : .light ∈ D) :
    Within D s (t.modLight g) ↔ Within D s t := (within_modLight t g h0).step_iff

theorem within_modNet {D : List Part} (s : State) (g : Network → Network) (h0 : .net ∈ D) :
    Within D s (s.modNet g) := by
  refine .of_same rfl fun c hc => ?_
  cases c with
  | net => exact absurd h0 hc
  | asked => exact ⟨rfl, rfl, rfl⟩
  | cores => exact ⟨rfl, rfl⟩
  | cmdStat | block _ | wild => trivial
  | _ => rfl

@[simp] theorem Within.modNet_iff {D : List Part} {s t : State} {g : Network → Network} (h0 : .net ∈ D) :
    Within D s (t.modNet g) ↔ Within D s t := (within_modNet t g h0).step_iff

theorem within_modDrv {D : List Part} (s : State) (g : DriveSt → DriveSt) (h0 : .drv ∈ D) :
    Within D s (s.modDrv g) := by
  refine .of_same rfl fun c hc => ?_
  cases c with
  | drv => exact absurd h0 hc
  | asked => exact ⟨rfl, rfl, rfl⟩
  | cores => exact ⟨rfl, rfl⟩
  | cmdStat | block _ | wild => trivial
  | _ => rfl

@[simp] theorem Within.modDrv_iff {D : List Part} {s t : State} {g : DriveSt → DriveSt} (h0 : .drv ∈ D) :
    Within D s (t.modDrv g) ↔ Within D s t := (within_modDrv t g h0).step_iff

theorem within_modPos {D : List Part} (s : State) (g : Positioning → Positioning) (h0 : .pos ∈ D) :
    Within D s (s.modPos g) := by
  refine .of_same rfl fun c hc => ?_
  cases c with
  | pos => exact absurd h0 hc
  | asked => exact ⟨rfl, rfl, rfl⟩
  | cores => exact ⟨rfl, rfl⟩
  | cmdStat | block _ | wild => trivial
  | _ => rfl

@[simp] theorem Within.modPos_iff {D : List Part} {s t : State} {g : Positioning → Positioning} (h0 : .pos ∈ D) :
    Within D s (t.modPos g) ↔ Within D s t := (within_modPos t g h0).step_iff

theorem within_modFleet {D : List Part} (s : State) (g : Fleet → Fleet) (h0 : .fleet ∈ D) :
    Within D s (s.modFleet g) := by
  refine .of_same rfl fun c hc => ?_
  cases c with
  | fleet => exact absurd h0 hc
  | asked => exact ⟨rfl, rfl, rfl⟩
  | cores => exact ⟨rfl, rfl⟩
  | cmdStat | block _ | wild => trivial
  | _ => rfl

@[simp] theorem Within.modFleet_iff {D : List Part} {s t : State} {g : Fleet → Fleet} (h0 : .fleet ∈ D) :
    Within D s (t.modFleet g) ↔ Within D s t := (within_modFleet t g h0).step_iff

theorem within_modStp {D : List Part} (s : State) (g : Lanyard → Lanyard) (h0 : .stp ∈ D) :
    Within D s (s.modStp g) := by
  refine .of_same rfl fun c hc => ?_
  cases c with
  | stp => exact absurd h0 hc
  | asked => exact ⟨rfl, rfl, rfl⟩
  | cores => exact ⟨rfl, rfl⟩
  | cmdStat | block _ | wild => trivial
  | _ => rfl

@[simp] theorem Within.modStp_iff {D : List Part} {s t : State} {g : Lanyard → Lanyard} (h0 : .stp ∈ D) :
    Within D s (t.modStp g) ↔ Within D s t := (within_modStp t g h0).step_iff

theorem within_modTime {D : List Part} (s : State) (g : TimeSt → TimeSt) (h0 : .time ∈ D) :
    Within D s (s.modTime g) := by
  refine .of_same rfl fun c hc => ?_
  cases c with
  | time => exact absurd h0 hc
  | asked => exact ⟨rfl, rfl, rfl⟩
  | cores => exact ⟨rfl, rfl⟩
  | cmdStat | block _ | wild => trivial
  | _ => rfl

@[simp] theorem Within.modTime_iff {D : List Part} {s t : State} {g : TimeSt → TimeSt} (h0 : .time ∈ D) :
    Within D s (t.modTime g) ↔ Within D s t := (within_modTime t g h0).step_iff

theorem within_modRtc {D : List Part} (s : State) (g : RtcSt → RtcSt) (h0 : .rtc ∈ D) :
    Within D s (s.modRtc g) := by
  refine .of_same rfl fun c hc => ?_
  cases c with
  | rtc => exact absurd h0 hc
  | asked => exact ⟨rfl, rfl, rfl⟩
  | cores => exact ⟨rfl, rfl⟩
  | cmdStat | block _ | wild => trivial
  | _ => rfl

@[simp] theorem Within.modRtc_iff {D : List Part} {s t : State} {g : RtcSt → RtcSt} (h0 : .rtc ∈ D) :
    Within D s (t.modRtc g) ↔ Within D s t := (within_modRtc t g h0).step_iff

theorem within_modMeter {D : List Part} (s : State) (g : Meter → Meter) (h0 : .meter ∈ D) :
    Within D s (s.modMeter g) := by
  refine .of_same rfl fun c hc => ?_
  cases c with
  | meter => exact absurd h0 hc
  | asked => exact ⟨rfl, rfl, rfl⟩
  | cores => exact ⟨rfl, rfl⟩
  | cmdStat | block _ | wild => trivial
  | _ => rfl

@[simp] theorem Within.modMeter_iff {D : List Part} {s t : State} {g : Meter → Meter} (h0 : .meter ∈ D) :
    Within D s (t.modMeter g) ↔ Within D s t := (within_modMeter t g h0).step_iff

theorem within_modWired {D : List Part} (s : State) (g : Wired → Wired) (h0 : .wired ∈ D) (h1 : .asked ∈ D) :
    Within D s (s.modWired g) := by
  refine .of_same rfl fun c hc => ?_
  cases c with
  | wired => exact absurd h0 hc
  | asked => exact absurd h1 hc
  | cores => exact ⟨rfl, rfl⟩
  | cmdStat | block _ | wild => trivial
  | _ => rfl

@[simp] theorem Within.modWired_iff {D : List Part} {s t : State} {g : Wired → Wired} (h0 : .wired ∈ D) (h1 : .asked ∈ D) :
    Within D s (t.modWired g) ↔ Within D s t := (within_modWired t g h0 h1).step_iff

theorem within_modSpl {D : List Part} (s : State) (g : Splice → Splice) (h0 : .spl ∈ D) (h1 : .held ∈ D) :
    Within D s (s.modSpl g) := by
  refine .of_same rfl fun c hc => ?_
  cases c with
  | spl => exact absurd h0 hc
  | held => exact absurd h1 hc
  | asked => exact ⟨rfl, rfl, rfl⟩
  | cores => exact ⟨rfl, rfl⟩
  | cmdStat | block _ | wild => trivial
  | _ => rfl

@[simp] theorem Within.modSpl_iff {D : List Part} {s t : State} {g : Splice → Splice} (h0 : .spl ∈ D) (h1 : .held ∈ D) :
    Within D s (t.modSpl g) ↔ Within D s t := (within_modSpl t g h0 h1).step_iff

theorem within_modUpd {D : List Part} (s : State) (g : Update → Update) (h0 : .upd ∈ D) :
    Within D s (s.modUpd g) := by
  refine .of_same rfl fun c hc => ?_
  cases c with
  | upd => exact absurd h0 hc
  | asked => exact ⟨rfl, rfl, rfl⟩
  | cores => exact ⟨rfl, rfl⟩
  | cmdStat | block _ | wild => trivial
  | _ => rfl

@[simp] theorem Within.modUpd_iff {D : List Part} {s t : State} {g : Update → Update} (h0 : .upd ∈ D) :
    Within D s (t.modUpd g) ↔ Within D s t := (within_modUpd t g h0).step_iff

theorem within_modKeys {D : List Part} (s : State) (g : Keys → Keys) (h0 : .keys ∈ D) :
    Within D s (s.modKeys g) := by
  refine .of_same rfl fun c hc => ?_
  cases c with
  | keys => exact absurd h0 hc
  | asked => exact ⟨rfl, rfl, rfl⟩
  | cores => exact ⟨rfl, rfl⟩
  | cmdStat | block _ | wild => trivial
  | _ => rfl

@[simp] theorem Within.modKeys_iff {D : List Part} {s t : State} {g : Keys → Keys} (h0 : .keys ∈ D) :
    Within D s (t.modKeys g) ↔ Within D s t := (within_modKeys t g h0).step_iff

theorem within_modRecs {D : List Part} (s : State) (g : Records → Records) (h0 : .recs ∈ D) :
    Within D s (s.modRecs g) := by
  refine .of_same rfl fun c hc => ?_
  cases c with
  | recs => exact absurd h0 hc
  | asked => exact ⟨rfl, rfl, rfl⟩
  | cores => exact ⟨rfl, rfl⟩
  | cmdStat | block _ | wild => trivial
  | _ => rfl

@[simp] theorem Within.modRecs_iff {D : List Part} {s t : State} {g : Records → Records} (h0 : .recs ∈ D) :
    Within D s (t.modRecs g) ↔ Within D s t := (within_modRecs t g h0).step_iff

theorem within_emitNow {D : List Part} (s : State) (k : OutKind) (l : List Int) (h0 : .out ∈ D) :
    Within D s (s.emitNow k l) := by
  refine .of_same rfl fun c hc => ?_
  cases c with
  | out => exact absurd h0 hc
  | asked => exact ⟨rfl, rfl, rfl⟩
  | cores => exact ⟨rfl, rfl⟩
  | cmdStat | block _ | wild => trivial
  | _ => rfl

@[simp] theorem Within.emitNow_iff {D : List Part} {s t : State} {k : OutKind} {l : List Int} (h0 : .out ∈ D) :
    Within D s (t.emitNow k l) ↔ Within D s t := (within_emitNow t k l h0).step_iff

theorem within_atNs {D : List Part} (s : State) (n : Nat) (h0 : .offset ∈ D) :
    Within D s (s.atNs n) := by
  refine .of_same rfl fun c hc => ?_
  cases c with
  | offset => exact absurd h0 hc
  | asked => exact ⟨rfl, rfl, rfl⟩
  | cores => exact ⟨rfl, rfl⟩
  | cmdStat | block _ | wild => trivial
  | _ => rfl

@[simp] theorem Within.atNs_iff {D : List Part} {s t : State} {n : Nat} (h0 : .offset ∈ D) :
    Within D s (t.atNs n) ↔ Within D s t := (within_atNs t n h0).step_iff

theorem within_tick {D : List Part} (s : State) (h0 : .free ∈ D) :
    Within D s (s.tick) := by
  refine .of_same rfl fun c hc => ?_
  cases c with
  | free => exact absurd h0 hc
  | asked => exact ⟨rfl, rfl, rfl⟩
  | cores => exact ⟨rfl, rfl⟩
  | cmdStat | block _ | wild => trivial
  | _ => rfl

@[simp] theorem Within.tick_iff {D : List Part} {s t : State} (h0 : .free ∈ D) :
    Within D s (t.tick) ↔ Within D s t := (within_tick t h0).step_iff

theorem within_setSession {D : List Part} (s : State) (c : Nat) (x : Session) (h0 : .sessions ∈ D) :
    Within D s (s.setSession c x) := by
  refine .of_same rfl fun c hc => ?_
  cases c with
  | sessions => exact absurd h0 hc
  | asked => exact ⟨rfl, rfl, rfl⟩
  | cores => exact ⟨rfl, rfl⟩
  | cmdStat | block _ | wild => trivial
  | _ => rfl

@[simp] theorem Within.setSession_iff {D : List Part} {s t : State} {c : Nat} {x : Session} (h0 : .sessions ∈ D) :
    Within D s (t.setSession c x) ↔ Within D s t := (within_setSession t c x h0).step_iff

theorem within_setLatch {D : List Part} (s : State) (w r : Nat) (l : List Nat) (h0 : .latch ∈ D) :
    Within D s (s.setLatch w r l) := by
  refine .of_same rfl fun c hc => ?_
  cases c with
  | latch => exact absurd h0 hc
  | asked => exact ⟨rfl, rfl, rfl⟩
  | cores => exact ⟨rfl, rfl⟩
  | cmdStat | block _ | wild => trivial
  | _ => rfl

@[simp] theorem Within.setLatch_iff {D : List Part} {s t : State} {w r : Nat} {l : List Nat} (h0 : .latch ∈ D) :
    Within D s (t.setLatch w r l) ↔ Within D s t := (within_setLatch t w r l h0).step_iff

theorem within_begin {D : List Part} (s : State) (h0 : .out ∈ D) :
    Within D s (s.begin) := by
  refine .of_same rfl fun c hc => ?_
  cases c with
  | out => exact absurd h0 hc
  | asked => exact ⟨rfl, rfl, rfl⟩
  | cores => exact ⟨rfl, rfl⟩
  | cmdStat | block _ | wild => trivial
  | _ => rfl

@[simp] theorem Within.begin_iff {D : List Part} {s t : State} (h0 : .out ∈ D) :
    Within D s (t.begin) ↔ Within D s t := (within_begin t h0).step_iff


/-- A write of a field whose index nothing bounds. -/
theorem within_put_wild {D : List Part} (s : State) (f : Fld) (v : Nat) (hr : .regs ∈ D) (hw : .wild ∈ D) : Within D s (s.put f v) := by
  refine ⟨fun c hc => ?_, fun w => absurd hw w⟩
  cases c with
  | regs => exact absurd hr hc
  | asked => exact ⟨rfl, rfl, rfl⟩
  | cores => exact ⟨rfl, rfl⟩
  | cmdStat | block _ | wild => trivial
  | _ => rfl

theorem Within.put_wild_iff {D : List Part} {s t : State} {f : Fld} {v : Nat} (hr : .regs ∈ D) (hw : .wild ∈ D) :
    Within D s (t.put f v) ↔ Within D s t := (within_put_wild t f v hr hw).step_iff

theorem within_mode_phase {D : List Part} (s : State) (m : Mode) (p : Phase) (hm : .mode ∈ D) (hp : .phase ∈ D) :
    Within D s { s with mode := m, phase := p } := by
  refine .of_same rfl fun c hc => ?_
  cases c with
  | mode => exact absurd hm hc
  | phase => exact absurd hp hc
  | asked => exact ⟨rfl, rfl, rfl⟩
  | cores => exact ⟨rfl, rfl⟩
  | cmdStat | block _ | wild => trivial
  | _ => rfl

theorem within_phase {D : List Part} (s : State) (p : Phase) (hp : .phase ∈ D) : Within D s { s with phase := p } := by
  refine .of_same rfl fun c hc => ?_
  cases c with
  | phase => exact absurd hp hc
  | asked => exact ⟨rfl, rfl, rfl⟩
  | cores => exact ⟨rfl, rfl⟩
  | cmdStat | block _ | wild => trivial
  | _ => rfl

/-! ### Ticket slots -/

theorem map_setAt {α β : Type} (g : α → β) : ∀ (l : List α) (k : Nat) (x : α), (setAt l k x).map g = setAt (l.map g) k (g x)
  | [], _, _ => rfl
  | _ :: _, 0, _ => rfl
  | _ :: l, k + 1, x => congrArg (_ :: ·) (map_setAt g l k x)

theorem setAt_getD {α : Type} (d : α) : ∀ (l : List α) (k : Nat), setAt l k (l.getD k d) = l
  | [], _ => rfl
  | _ :: _, 0 => rfl
  | a :: l, k + 1 => congrArg (a :: ·) (setAt_getD d l k)

/-- An update of one section that keeps a projection of it keeps that projection of all. -/
theorem map_setAt_keeps {α β : Type} (g : α → β) (d : α) (l : List α) (k : Nat) (f : α → α) (hf : ∀ x, g (f x) = g x) :
    (setAt l k (f (l.getD k d))).map g = l.map g := by
  rw [map_setAt, hf, ← map_setAt, setAt_getD]

/-- A change of a section's ticket slots. -/
theorem within_modSect_slots {D : List Part} (s : State) (k : Nat) {f : Sect → Sect}
    (hf : ∀ x : Sect, { f x with slots := [] } = { x with slots := [] }) (h0 : .slots ∈ D) : Within D s (s.modSect k f) := by
  refine .of_same rfl fun c hc => ?_
  cases c with
  | slots => exact absurd h0 hc
  | prog => exact congrArg (fun l => { s.prog with sects := l }) (map_setAt_keeps (fun x : Sect => { x with slots := [] }) {} s.prog.sects k f hf)
  | asked => exact ⟨rfl, rfl, rfl⟩
  | cores => exact ⟨rfl, rfl⟩
  | cmdStat | block _ | wild => trivial
  | _ => rfl

theorem within_modSlot {D : List Part} (s : State) (k j : Nat) (f : Slot → Slot) (h0 : .slots ∈ D) :
    Within D s (s.modSect k fun x => x.modSlot j f) := within_modSect_slots s k (fun _ => rfl) h0

/-- A change of a section that leaves its ticket slots. -/
theorem within_modSect {D : List Part} (s : State) (k : Nat) {f : Sect → Sect} (hf : ∀ x, (f x).slots = x.slots) (h0 : .prog ∈ D) :
    Within D s (s.modSect k f) := by
  refine .of_same rfl fun c hc => ?_
  cases c with
  | prog => exact absurd h0 hc
  | slots => exact map_setAt_keeps Sect.slots {} s.prog.sects k f hf
  | asked => exact ⟨rfl, rfl, rfl⟩
  | cores => exact ⟨rfl, rfl⟩
  | cmdStat | block _ | wild => trivial
  | _ => rfl

@[simp] theorem Within.modSlot_iff {D : List Part} {s t : State} {k j : Nat} {f : Slot → Slot} (h0 : .slots ∈ D) :
    Within D s (t.modSect k fun x => x.modSlot j f) ↔ Within D s t := (within_modSlot t k j f h0).step_iff

@[simp] theorem Within.modSect_iff {D : List Part} {s t : State} {k : Nat} {f : Sect → Sect} (h0 : .prog ∈ D) (h1 : .slots ∈ D) :
    Within D s (t.modSect k f) ↔ Within D s t :=
  Within.modProg_iff (g := fun p => { p with sects := setAt p.sects k (f (p.sects.getD k {})) }) h0 h1

/-- A change of the session contexts alone. -/
theorem within_modGal_sessions {D : List Part} (s : State) {g : Gallery → Gallery}
    (hg : ∀ x : Gallery, { g x with sessions := [] } = { x with sessions := [] }) (h0 : .sessions ∈ D) : Within D s (s.modGal g) := by
  refine .of_same rfl fun c hc => ?_
  cases c with
  | sessions => exact absurd h0 hc
  | gal => exact hg s.gal
  | asked => exact ⟨rfl, rfl, rfl⟩
  | cores => exact ⟨rfl, rfl⟩
  | cmdStat | block _ | wild => trivial
  | _ => rfl

/-- A change of the Gallery's part that leaves the session contexts. -/
theorem within_modGal_rest {D : List Part} (s : State) {g : Gallery → Gallery} (hg : ∀ x : Gallery, (g x).sessions = x.sessions)
    (h0 : .gal ∈ D) : Within D s (s.modGal g) := by
  refine .of_same rfl fun c hc => ?_
  cases c with
  | gal => exact absurd h0 hc
  | sessions => exact hg s.gal
  | asked => exact ⟨rfl, rfl, rfl⟩
  | cores => exact ⟨rfl, rfl⟩
  | cmdStat | block _ | wild => trivial
  | _ => rfl

/-- A change of the mode requests alone. -/
theorem within_modFrame_modeReqs {D : List Part} (s : State) {g : Frame → Frame}
    (hg : ∀ x : Frame, ∃ l, g x = { x with modeReqs := l }) (h0 : .modeReqs ∈ D) : Within D s (s.modFrame g) := by
  obtain ⟨l, hl⟩ := hg s.frame
  have eq : s.modFrame g = s.modFrame fun x => { x with modeReqs := l } := by simp only [State.modFrame, hl]
  rw [eq]
  refine .of_same rfl fun c hc => ?_
  cases c with
  | modeReqs => exact absurd h0 hc
  | asked => exact ⟨rfl, rfl, rfl⟩
  | cores => exact ⟨rfl, rfl⟩
  | cmdStat | block _ | wild => trivial
  | _ => rfl

/-- A change of the frame's part that leaves the mode requests, the offset and the cores. -/
theorem within_modFrame_rest {D : List Part} (s : State) {g : Frame → Frame} (hm : ∀ x : Frame, (g x).modeReqs = x.modeReqs)
    (ho : ∀ x : Frame, (g x).off = x.off) (hk : ∀ x : Frame, (g x).c0 = x.c0 ∧ (g x).c1 = x.c1) (h0 : .frame ∈ D) :
    Within D s (s.modFrame g) := by
  refine .of_same rfl fun c hc => ?_
  cases c with
  | frame => exact absurd h0 hc
  | modeReqs => exact hm s.frame
  | offset => exact ho s.frame
  | cores => exact hk s.frame
  | asked => exact ⟨rfl, rfl, rfl⟩
  | cmdStat | block _ | wild => trivial
  | _ => rfl

/-- A change of the Curator cores alone. -/
theorem within_modFrame_cores {D : List Part} (s : State) {g : Frame → Frame}
    (hg : ∀ x : Frame, ∃ a b, g x = { x with c0 := a, c1 := b }) (h0 : .cores ∈ D) : Within D s (s.modFrame g) := by
  obtain ⟨a, b, h⟩ := hg s.frame
  have eq : s.modFrame g = s.modFrame fun x => { x with c0 := a, c1 := b } := by simp only [State.modFrame, h]
  rw [eq]
  refine .of_same rfl fun c hc => ?_
  cases c with
  | cores => exact absurd h0 hc
  | asked => exact ⟨rfl, rfl, rfl⟩
  | cmdStat | block _ | wild => trivial
  | _ => rfl

/-- A change of what the host port has ready, or of who waits for a command status. -/
theorem within_modWired_asked {D : List Part} (s : State) {g : Wired → Wired}
    (hg : ∀ x : Wired, { g x with waitCmd := [], spiResp := none, spiRdy := false } =
      { x with waitCmd := [], spiResp := none, spiRdy := false }) (h0 : .asked ∈ D) : Within D s (s.modWired g) := by
  refine .of_same rfl fun c hc => ?_
  cases c with
  | asked => exact absurd h0 hc
  | cores => exact ⟨rfl, rfl⟩
  | wired => exact hg s.wired
  | cmdStat | block _ | wild => trivial
  | _ => rfl

/-! ### The shared operations -/

/-- What an effect that is emitted or held changes. -/
abbrev emitParts : List Part := [.out, .held]
/-- What a record of the log changes. -/
abbrev logParts : List Part := [.recs, .regs, .block 0x19]
/-- What a message to a host changes. -/
abbrev sendParts : List Part := [.out, .held, .asked]
/-- What the end of an operation changes. -/
abbrev finishParts : List Part := [.sessions, .slots, .cmdStat, .regs, .out, .held, .asked]

theorem within_emitAt {D : List Part} (s : State) (due : Option Nat) (k : OutKind) (l : List Int) (h : ∀ c ∈ emitParts, c ∈ D) :
    Within D s (s.emitAt due k l) := by
  have hout : .out ∈ D := h _ (by decide)
  have hheld : .held ∈ D := h _ (by decide)
  unfold State.emitAt
  split
  · refine .of_same rfl fun c hc => ?_
    cases c with
    | held => exact absurd hheld hc
    | asked => exact ⟨rfl, rfl, rfl⟩
    | cores => exact ⟨rfl, rfl⟩
    | cmdStat | block _ | wild => trivial
    | _ => rfl
  · exact within_emitNow s k l hout

theorem within_emit {D : List Part} (s : State) (k : OutKind) (l : List Int) (h : ∀ c ∈ emitParts, c ∈ D) : Within D s (s.emit k l) :=
  within_emitAt s none k l h

theorem within_reply {D : List Part} (s : State) (who : Requester) (st : Nat) (v : List Nat) (h : .out ∈ D) :
    Within D s (s.reply who st v) := by
  rw [State.reply_eq]; exact within_emitNow s _ _ h

theorem within_vitTrigger {D : List Part} (s : State) (b : Option Nat) (c : Nat) (h : ∀ c ∈ logParts, c ∈ D) :
    Within D s (s.vitTrigger b c) := by
  have hr : .regs ∈ D := h _ (by decide)
  have hb : .block 0x19 ∈ D := h _ (by decide)
  have hrec : .recs ∈ D := h _ (by decide)
  unfold State.vitTrigger
  extract_lets on
  clear_value on
  split
  · exact .refl _ _
  · split
    · exact within_put s _ hr hb
    · split
      · exact .refl _ _
      · have shown := ((within_put s (f := F.LOG_VIT_STAT_TRIGGER) c hr hb).trans
          (within_put _ (f := F.LOG_VIT_FRAME_LO_FRAME) (s.num % 2 ^ 32) hr hb)).trans
          (within_put _ (f := F.LOG_VIT_FRAME_HI_FRAME) (s.num / 2 ^ 32) hr hb)
        refine shown.trans (.of_same rfl fun c hc => ?_)
        cases c with
        | recs => exact absurd hrec hc
        | asked => exact ⟨rfl, rfl, rfl⟩
        | cores => exact ⟨rfl, rfl⟩
        | cmdStat | block _ | wild => trivial
        | _ => rfl

theorem within_logRec {D : List Part} (s : State) (sev src code : Nat) (p : List Nat) (h : ∀ c ∈ logParts, c ∈ D) :
    Within D s (s.logRec sev src code p) := by
  have hr : .regs ∈ D := h _ (by decide)
  have hb : .block 0x19 ∈ D := h _ (by decide)
  have hrec : .recs ∈ D := h _ (by decide)
  unfold State.logRec
  dsimp only
  split
  · exact within_put s _ hr hb
  · have entered := (within_put s (f := F.LOG_NEWEST_ACC) (nextAcc (s.get F.LOG_NEWEST_ACC)) hr hb).trans
      (within_modRecs _ (fun x => { x with
        queue := x.queue ++ [⟨nextAcc (s.get F.LOG_NEWEST_ACC), s.recs.optime, s.get F.LOG_PWRCYC_COUNT, sev, src, code,
          if s.mode = .recovery then 0xFFFF else s.num % 2 ^ 16, p.take 40⟩]
        nrec := x.nrec + 1
        firstAcc := if x.firstAcc = 0 then nextAcc (s.get F.LOG_NEWEST_ACC) else x.firstAcc }) hrec)
    split
    · exact entered.trans (within_vitTrigger _ _ _ h)
    · exact entered

theorem within_log {D : List Part} (s : State) (sev kind : Nat) (f : Fld) (vals : List Nat) (h : ∀ c ∈ logParts, c ∈ D) :
    Within D s (s.log sev kind f vals) := within_logRec s _ _ _ _ h

theorem within_logBlock {D : List Part} (s : State) (sev kind blk : Nat) (vals : List Nat) (h : ∀ c ∈ logParts, c ∈ D) :
    Within D s (s.logBlock sev kind blk vals) := within_logRec s _ _ _ _ h

theorem within_recordWrite {D : List Part} (s : State) (b : Bool) (h : ∀ c ∈ logParts, c ∈ D) : Within D s (s.recordWrite b) := by
  have hr : .regs ∈ D := h _ (by decide)
  have hb : .block 0x19 ∈ D := h _ (by decide)
  have hrec : .recs ∈ D := h _ (by decide)
  unfold State.recordWrite
  split
  · exact .refl _ _
  · dsimp only
    repeat' split
    · exact (within_modRecs s _ hrec).trans (within_modRecs _ _ hrec)
    · exact (within_modRecs s _ hrec).trans (within_modRecs _ _ hrec)
    · exact (within_modRecs s _ hrec).trans (within_modRecs _ _ hrec)
    · exact (within_modRecs s _ hrec).trans (within_modRecs _ _ hrec)
    · exact (within_modRecs s _ hrec).trans (within_put _ _ hr hb)

theorem within_iter {D : List Part} {f : State → State} (hf : ∀ u, Within D u (f u)) (n : Nat) : ∀ s, Within D s (iter f n s) := by
  induction n with
  | zero => exact fun s => .refl D s
  | succ n ih => exact fun s => (hf s).trans (ih (f s))

theorem within_drainLog {D : List Part} (s : State) (h : ∀ c ∈ logParts, c ∈ D) : Within D s s.drainLog :=
  within_iter (fun u => within_recordWrite u false h) _ s

theorem within_cmdFinal {D : List Part} (s : State) (a st : Nat) (hr : .regs ∈ D) (hc : .cmdStat ∈ D) : Within D s (s.cmdFinal a st) := by
  by_cases ha : cmdStats.contains a = true
  · have eq : s.cmdFinal a st = s.put ⟨a, 0, 16, 0, 0, 0, .plain⟩ st := by
      unfold State.cmdFinal
      rw [if_pos ha]
      rfl
    rw [eq]
    refine within_put s st hr ?_
    have hp : (⟨a, 0, 16, 0, 0, 0, .plain⟩ : Fld).part = .cmdStat := by
      rw [Fld.part, if_pos]
      exact List.any_eq_true.2 ⟨a, List.contains_iff_mem.1 ha, by simp [Fld.key]⟩
    exact hp ▸ hc
  · rw [State.cmdFinal, if_neg ha]
    exact .refl _ _

theorem within_spiSend {D : List Part} (s : State) (l : List Nat) (h : ∀ c ∈ sendParts, c ∈ D) : Within D s (s.spiSend l) := by
  unfold State.spiSend
  dsimp only
  split
  · exact within_emit s _ _ fun c hc => h c (by revert c; decide)
  · exact (within_modWired_asked s (g := fun w => { w with spiResp := some (l.map Int.ofNat), spiRdy := true }) (fun _ => rfl)
      (h _ (by decide))).trans (within_emitNow _ _ _ (h _ (by decide)))

theorem within_hostSend {D : List Part} (s : State) (c kind q st : Nat) (body : List Nat) (h : ∀ c ∈ sendParts, c ∈ D) :
    Within D s (s.hostSend c kind q st body) := by
  unfold State.hostSend
  split
  · exact .refl _ _
  · split
    · exact within_spiSend s _ h
    · exact within_emit s _ _ fun c hc => h c (by revert c; decide)

theorem within_sessionDone {D : List Part} (s : State) (c q st : Nat) (body : List Nat) (h : ∀ c ∈ sendParts, c ∈ D)
    (hs : .sessions ∈ D) : Within D s (s.sessionDone c q st body) := by
  unfold State.sessionDone
  split
  · exact .refl _ _
  · dsimp only
    split
    · exact (within_setSession s _ _ hs).trans (within_hostSend _ _ _ _ _ _ h)
    · split
      · exact within_modGal_sessions s (g := fun g => { g with sessions := SMap.erase g.sessions c }) (fun _ => rfl) hs
      · exact within_setSession s _ _ hs

theorem within_finish {D : List Part} (s : State) (o : Origin) (st : Nat) (r : List Nat) (h : ∀ c ∈ finishParts, c ∈ D) :
    Within D s (s.finish o st r) := by
  have hs : .sessions ∈ D := h _ (by decide)
  have send : ∀ c ∈ sendParts, c ∈ D := fun c hc => h c (by revert c; decide)
  unfold State.finish
  split
  · exact .refl _ _
  · refine .foldl ?_ fun u x _ => within_sessionDone u _ _ _ _ send hs
    exact (within_cmdFinal s _ _ (h _ (by decide)) (h _ (by decide))).trans
      (within_modWired_asked _ (fun _ => rfl) (h _ (by decide)))
  · exact within_modSlot s _ _ _ (h _ (by decide))
  · exact within_sessionDone s _ _ _ _ send hs

theorem within_finishAll {D : List Part} (s : State) (l : List Origin) (st : Nat) (h : ∀ c ∈ finishParts, c ∈ D) :
    Within D s (s.finishAll l st) := .foldl (.refl _ _) fun u o _ => within_finish u o st [] h

theorem within_hostAnswer {D : List Part} (s : State) (c q st : Nat) (body : List Nat) (h : ∀ c ∈ sendParts, c ∈ D)
    (hs : .sessions ∈ D) : Within D s (s.hostAnswer c q st body) := by
  unfold State.hostAnswer
  split
  · exact .refl _ _
  · split
    · exact within_hostSend s _ _ _ _ _ h
    · exact (within_setSession s _ _ hs).trans (within_hostSend _ _ _ _ _ _ h)

theorem within_answer {D : List Part} (s : State) (o : Origin) (st : Nat) (r : List Nat) (h : ∀ c ∈ finishParts, c ∈ D) :
    Within D s (s.answer o st r) := by
  unfold State.answer
  split
  · exact within_emit s _ _ fun c hc => h c (by revert c; decide)
  · exact within_cmdFinal s _ _ (h _ (by decide)) (h _ (by decide))
  · split
    · exact within_modSlot s _ _ _ (h _ (by decide))
    · exact within_finish s _ _ _ h
  · exact within_hostAnswer s _ _ _ _ (fun c hc => h c (by revert c; decide)) (h _ (by decide))

/-! ### The same, as rules for what stays within the parts -/

@[simp] theorem Within.emitAt_iff {D : List Part} {s t : State} {due : Option Nat} {k : OutKind} {l : List Int} (h : ∀ c ∈ emitParts, c ∈ D) :
    Within D s (t.emitAt due k l) ↔ Within D s t := (within_emitAt t due k l h).step_iff

@[simp] theorem Within.emit_iff {D : List Part} {s t : State} {k : OutKind} {l : List Int} (h : ∀ c ∈ emitParts, c ∈ D) :
    Within D s (t.emit k l) ↔ Within D s t := (within_emit t k l h).step_iff

@[simp] theorem Within.reply_iff {D : List Part} {s t : State} {who : Requester} {st : Nat} {v : List Nat} (h : .out ∈ D) :
    Within D s (t.reply who st v) ↔ Within D s t := (within_reply t who st v h).step_iff

@[simp] theorem Within.vitTrigger_iff {D : List Part} {s t : State} {b : Option Nat} {c : Nat} (h : ∀ c ∈ logParts, c ∈ D) :
    Within D s (t.vitTrigger b c) ↔ Within D s t := (within_vitTrigger t b c h).step_iff

@[simp] theorem Within.logRec_iff {D : List Part} {s t : State} {sev src code : Nat} {p : List Nat} (h : ∀ c ∈ logParts, c ∈ D) :
    Within D s (t.logRec sev src code p) ↔ Within D s t := (within_logRec t sev src code p h).step_iff

@[simp] theorem Within.log_iff {D : List Part} {s t : State} {sev kind : Nat} {f : Fld} {vals : List Nat} (h : ∀ c ∈ logParts, c ∈ D) :
    Within D s (t.log sev kind f vals) ↔ Within D s t := (within_log t sev kind f vals h).step_iff

@[simp] theorem Within.logBlock_iff {D : List Part} {s t : State} {sev kind blk : Nat} {vals : List Nat} (h : ∀ c ∈ logParts, c ∈ D) :
    Within D s (t.logBlock sev kind blk vals) ↔ Within D s t := (within_logBlock t sev kind blk vals h).step_iff

@[simp] theorem Within.drainLog_iff {D : List Part} {s t : State} (h : ∀ c ∈ logParts, c ∈ D) :
    Within D s (t.drainLog) ↔ Within D s t := (within_drainLog t h).step_iff

@[simp] theorem Within.hostSend_iff {D : List Part} {s t : State} {c kind q st : Nat} {body : List Nat} (h : ∀ c ∈ sendParts, c ∈ D) :
    Within D s (t.hostSend c kind q st body) ↔ Within D s t := (within_hostSend t c kind q st body h).step_iff

@[simp] theorem Within.sessionDone_iff {D : List Part} {s t : State} {c q st : Nat} {body : List Nat} (h : ∀ c ∈ sendParts, c ∈ D) (hs : .sessions ∈ D) :
    Within D s (t.sessionDone c q st body) ↔ Within D s t := (within_sessionDone t c q st body h hs).step_iff

@[simp] theorem Within.hostAnswer_iff {D : List Part} {s t : State} {c q st : Nat} {body : List Nat} (h : ∀ c ∈ sendParts, c ∈ D) (hs : .sessions ∈ D) :
    Within D s (t.hostAnswer c q st body) ↔ Within D s t := (within_hostAnswer t c q st body h hs).step_iff

@[simp] theorem Within.finish_iff {D : List Part} {s t : State} {o : Origin} {st : Nat} {r : List Nat} (h : ∀ c ∈ finishParts, c ∈ D) :
    Within D s (t.finish o st r) ↔ Within D s t := (within_finish t o st r h).step_iff

@[simp] theorem Within.answer_iff {D : List Part} {s t : State} {o : Origin} {st : Nat} {r : List Nat} (h : ∀ c ∈ finishParts, c ∈ D) :
    Within D s (t.answer o st r) ↔ Within D s t := (within_answer t o st r h).step_iff

@[simp] theorem Within.finishAll_iff {D : List Part} {s t : State} {l : List Origin} {st : Nat} (h : ∀ c ∈ finishParts, c ∈ D) :
    Within D s (t.finishAll l st) ↔ Within D s t := (within_finishAll t l st h).step_iff

end Sys2Proof.Machine

/-! ### What declaring Stop changes (R415) -/

namespace Sys2Proof.Machine

/-- What a message to a rover changes. -/
abbrev roverParts : List Part := [.fleet, .sessions, .out, .held]

theorem within_setRover (s : State) (r : Nat) (v : RovFleet) : Within [.fleet] s (s.setRover r v) := by
  simp [State.setRover]

@[simp] theorem Within.setRover_iff {D : List Part} {s t : State} {r : Nat} {v : RovFleet} (h : ∀ c ∈ [.fleet], c ∈ D) :
    Within D s (t.setRover r v) ↔ Within D s t := ((within_setRover t r v).mono h).step_iff

theorem within_roverEmit (s : State) (k : OutKind) (r : Nat) (l : List Nat) : Within roverParts s (s.roverEmit k r l) := by
  unfold State.roverEmit
  dsimp only
  split
  · split <;> simp (disch := decide)
  · simp (disch := decide)

@[simp] theorem Within.roverEmit_iff {D : List Part} {s t : State} {k : OutKind} {r : Nat} {l : List Nat} (h : ∀ c ∈ roverParts, c ∈ D) :
    Within D s (t.roverEmit k r l) ↔ Within D s t := ((within_roverEmit t k r l).mono h).step_iff

theorem within_roverSend (s : State) (r kind : Nat) (l : List Nat) : Within roverParts s (s.roverSend r kind l).1 := by
  unfold State.roverSend
  split <;> simp (disch := decide)

@[simp] theorem Within.roverSend_iff {D : List Part} {s t : State} {r kind : Nat} {l : List Nat} (h : ∀ c ∈ roverParts, c ∈ D) :
    Within D s (t.roverSend r kind l).1 ↔ Within D s t := ((within_roverSend t r kind l).mono h).step_iff

theorem within_roverSendAcked (s : State) (r kind : Nat) (l : List Nat) : Within roverParts s (s.roverSendAcked r kind l) := by
  unfold State.roverSendAcked
  dsimp only
  split <;> simp (disch := decide)

@[simp] theorem Within.roverSendAcked_iff {D : List Part} {s t : State} {r kind : Nat} {l : List Nat} (h : ∀ c ∈ roverParts, c ∈ D) :
    Within D s (t.roverSendAcked r kind l) ↔ Within D s t := ((within_roverSendAcked t r kind l).mono h).step_iff

theorem within_setHold (s : State) (r causes : Nat) (paused : Bool) : Within roverParts s (s.setHold r causes paused) := by
  unfold State.setHold
  dsimp only
  split <;> simp (disch := decide) [State.holdMsg]

@[simp] theorem Within.setHold_iff {D : List Part} {s t : State} {r causes : Nat} {paused : Bool} (h : ∀ c ∈ roverParts, c ∈ D) :
    Within D s (t.setHold r causes paused) ↔ Within D s t := ((within_setHold t r causes paused).mono h).step_iff

theorem within_addCauseAll (s : State) (b : Nat) : Within roverParts s (s.addCauseAll b) := by
  refine .foldl (.refl _ _) fun u r _ => within_setHold u r _ _

@[simp] theorem Within.addCauseAll_iff {D : List Part} {s t : State} {b : Nat} (h : ∀ c ∈ roverParts, c ∈ D) :
    Within D s (t.addCauseAll b) ↔ Within D s t := ((within_addCauseAll t b).mono h).step_iff

/-- What the end of the calls of an axis changes. -/
abbrev axisParts : List Part := .drv :: finishParts

theorem within_setAxis (s : State) (a : Nat) (x : Axis) : Within [.drv] s (s.setAxis a x) := by
  simp [State.setAxis]

@[simp] theorem Within.setAxis_iff {D : List Part} {s t : State} {a : Nat} {x : Axis} (h : ∀ c ∈ [.drv], c ∈ D) :
    Within D s (t.setAxis a x) ↔ Within D s t := ((within_setAxis t a x).mono h).step_iff

theorem within_endCalls (s : State) (a st : Nat) : Within axisParts s (s.endCalls a st) := by
  unfold State.endCalls
  simp (disch := decide)

@[simp] theorem Within.endCalls_iff {D : List Part} {s t : State} {a st : Nat} (h : ∀ c ∈ axisParts, c ∈ D) :
    Within D s (t.endCalls a st) ↔ Within D s t := ((within_endCalls t a st).mono h).step_iff

theorem within_axisEngage (s : State) (a : Nat) : Within axisParts s (s.axisEngage a) := by
  unfold State.axisEngage
  dsimp only
  split
  · split <;> simp (disch := decide)
  · simp (disch := decide)

@[simp] theorem Within.axisEngage_iff {D : List Part} {s t : State} {a : Nat} (h : ∀ c ∈ axisParts, c ∈ D) :
    Within D s (t.axisEngage a) ↔ Within D s t := ((within_axisEngage t a).mono h).step_iff

theorem within_axesLanyard (s : State) : Within axisParts s (s.axesLanyard) := by
  refine .foldl (.refl _ _) fun u a _ => ?_
  split <;> simp (disch := decide)

@[simp] theorem Within.axesLanyard_iff {D : List Part} {s t : State} (h : ∀ c ∈ axisParts, c ∈ D) :
    Within D s (t.axesLanyard) ↔ Within D s t := ((within_axesLanyard t).mono h).step_iff

theorem within_changeAt (s : State) (n : Nat) (lead : Bool) (kind : LayerKind) (fade : Nat) (by_ : Origin) (old : Option (Nat × Nat)) : Within [.light] s (s.changeAt n lead kind fade by_ old) := by
  simp [State.changeAt, State.ensureTag]

@[simp] theorem Within.changeAt_iff {D : List Part} {s t : State} {n : Nat} {lead : Bool} {kind : LayerKind} {fade : Nat} {by_ : Origin} {old : Option (Nat × Nat)} (h : ∀ c ∈ [.light], c ∈ D) :
    Within D s (t.changeAt n lead kind fade by_ old) ↔ Within D s t := ((within_changeAt t n lead kind fade by_ old).mono h).step_iff

theorem within_planeLanyardOn (s : State) : Within [.light] s (s.planeLanyardOn) := by
  unfold State.planeLanyardOn
  dsimp only
  split
  · simp
  · refine .foldl (by simp) fun u g _ => ?_
    split <;> simp

@[simp] theorem Within.planeLanyardOn_iff {D : List Part} {s t : State} (h : ∀ c ∈ [.light], c ∈ D) :
    Within D s (t.planeLanyardOn) ↔ Within D s t := ((within_planeLanyardOn t).mono h).step_iff

theorem within_lanyardOuts (s : State) (permit : Bool) : Within [.regs, .block 0x0D, .out] s (s.lanyardOuts permit) := by
  simp (disch := decide) [State.lanyardOuts]

@[simp] theorem Within.lanyardOuts_iff {D : List Part} {s t : State} {permit : Bool} (h : ∀ c ∈ [.regs, .block 0x0D, .out], c ∈ D) :
    Within D s (t.lanyardOuts permit) ↔ Within D s t := ((within_lanyardOuts t permit).mono h).step_iff

theorem within_extraBeat (s : State) : Within [.stp, .out] s (s.extraBeat) := by
  unfold State.extraBeat State.heartbeat
  split
  · split <;> simp (disch := decide)
  · simp

@[simp] theorem Within.extraBeat_iff {D : List Part} {s t : State} (h : ∀ c ∈ [.stp, .out], c ∈ D) :
    Within D s (t.extraBeat) ↔ Within D s t := ((within_extraBeat t).mono h).step_iff

/-- What a declaration of Stop changes. -/
abbrev declareParts : List Part :=
  [.regs, .block 0x0D, .block 0x19, .recs, .stp, .fleet, .drv, .light, .sessions, .slots, .cmdStat, .out, .held, .asked]

theorem within_declare (s : State) : Within declareParts s (s.declare) := by
  unfold State.declare
  split <;> simp (disch := decide)

@[simp] theorem Within.declare_iff {D : List Part} {s t : State} (h : ∀ c ∈ declareParts, c ∈ D) :
    Within D s (t.declare) ↔ Within D s t := ((within_declare t).mono h).step_iff

theorem within_stopCause (s : State) (b : Nat) (hold : Bool) : Within declareParts s (s.stopCause b hold) := by
  unfold State.stopCause State.stopActive
  dsimp only
  split <;> simp (disch := decide)

@[simp] theorem Within.stopCause_iff {D : List Part} {s t : State} {b : Nat} {hold : Bool} (h : ∀ c ∈ declareParts, c ∈ D) :
    Within D s (t.stopCause b hold) ↔ Within D s t := ((within_stopCause t b hold).mono h).step_iff

theorem within_modeCause (s : State) : Within declareParts s (s.modeCause) := by
  unfold State.modeCause State.stopActive
  dsimp only
  split
  · simp
  · split <;> simp (disch := decide)

@[simp] theorem Within.modeCause_iff {D : List Part} {s t : State} (h : ∀ c ∈ declareParts, c ∈ D) :
    Within D s (t.modeCause) ↔ Within D s t := ((within_modeCause t).mono h).step_iff

end Sys2Proof.Machine

/-! ### Chapters 02 and 15: reset, start-up, boundaries, faults -/

namespace Sys2Proof.Machine

/-! ### A reset of any cause (Table 00.5, R618) -/

theorem SMap.get?_filter {α : Type} (p : Nat → Bool) (m : SMap α) (i : Nat) :
    SMap.get? (m.filter fun x => p x.1) i = if p i = true then SMap.get? m i else none := by
  induction m with
  | nil => simp [SMap.get?]
  | cons x m ih =>
    obtain ⟨k, v⟩ := x
    by_cases hk : p k = true
    · by_cases h : k = i
      · subst h; simp [SMap.get?, hk]
      · simpa [SMap.get?, hk, h] using ih
    · by_cases h : k = i
      · subst h; simpa [SMap.get?, hk] using ih
      · simpa [SMap.get?, hk, h] using ih

/-- A reset is the hard reset of R618 with what the outputs show of it. -/
theorem State.toReset_eq (s : State) : ∃ o, s.toReset = { s.hardReset with out := o } := by
  unfold State.toReset
  dsimp only
  split <;> exact ⟨_, rfl⟩

/-- The registers of a state in reset. -/
theorem State.get_of_reset {s t : State} (h : t.regs = s.regs.filter fun p => keptField p.1) (g : Fld) :
    t.get g = if keptField g.key = true then s.get g else g.rst := by
  simp only [State.get, h, SMap.get?_filter keptField]
  split <;> rfl

/-- The lockout of the RTC stops what the registers show, not the count (R468). -/
@[simp] theorem State.rtcLock_t (s : State) : s.rtcLock.rtc.t = s.rtc.t := by
  unfold State.rtcLock
  split
  · rfl
  · rfl

@[simp] theorem State.rtcLock_keys (s : State) : s.rtcLock.keys = s.keys := by
  unfold State.rtcLock
  split
  · rfl
  · exact foldl_keeps State.keys _ (fun _ _ => State.put_keys ..) _ _

@[simp] theorem State.rtcLock_recs (s : State) : s.rtcLock.recs = s.recs := by
  unfold State.rtcLock
  split
  · rfl
  · exact foldl_keeps State.recs _ (fun _ _ => State.put_recs ..) _ _

@[simp] theorem State.obsLife_keys (s : State) : s.obsLife.keys = s.keys := by
  unfold State.obsLife
  refine foldl_keeps State.keys _ (fun t k => ?_) _ _
  split <;> rfl

/-- Fuses that are programmed give the module its life-cycle state (R578). -/
theorem State.fuseDone_keys_life (s : State) (l : Life) : (s.fuseDone l).keys.life = l := by
  simp [State.fuseDone]

/-- Settles O8: whatever the cause, the state is that of the hard reset. -/
theorem resetKeepsOnlyWhatIsRetained : Obligations.ResetKeepsOnlyWhatIsRetained := by
  unfold Obligations.ResetKeepsOnlyWhatIsRetained
  refine ⟨fun s c hc => ?_, fun s => ?_, fun s t0 at_ due stopped => ?_, fun s live mode due => ?_, fun s l fuse phase => ?_⟩
  · rcases hc with rfl | rfl
    · obtain ⟨o, h⟩ := s.begin.toReset_eq
      refine ⟨s.afterMem { s.begin.hardReset with out := o }, by rw [← h]; rfl, ?_⟩
      refine ⟨rfl, rfl, rfl, fun g hg => ?_, fun g hg => ?_, rfl, rfl, rfl, rfl, rfl, rfl, rfl, rfl, rfl, rfl, rfl, rfl, rfl, rfl, rfl,
        rfl, rfl, rfl, rfl, nofun, fun _ => rfl, rfl⟩
      · exact (State.get_of_reset (s := s) rfl g).trans (if_pos hg)
      · exact (State.get_of_reset (s := s) rfl g).trans (if_neg (by simp [hg]))
    · obtain ⟨o, h⟩ := (s.begin.modFrame fun f => { f with orderlyFlag := false }).toReset_eq
      refine ⟨s.afterMem { (s.begin.modFrame fun f => { f with orderlyFlag := false }).hardReset with out := o }, by rw [← h]; rfl, ?_⟩
      refine ⟨rfl, rfl, rfl, fun g hg => ?_, fun g hg => ?_, rfl, rfl, rfl, rfl, rfl, rfl, rfl, rfl, rfl, rfl, rfl, rfl, rfl, rfl, rfl,
        rfl, rfl, rfl, rfl, fun _ => rfl, nofun, rfl⟩
      · exact (State.get_of_reset (s := s) rfl g).trans (if_pos hg)
      · exact (State.get_of_reset (s := s) rfl g).trans (if_neg (by simp [hg]))
  · obtain ⟨o, h⟩ := s.begin.rtcLock.toReset_eq
    refine ⟨s.afterMem { s.begin.rtcLock.hardReset with out := o }, by rw [← h]; rfl, rfl, rfl, ?_, s.begin.rtcLock_t, ?_, ?_, rfl⟩
    · exact (congrArg (List.filter keptCell) s.begin.rtcLock_mem :)
    · exact (congrArg Keys.slots s.begin.rtcLock_keys :)
    · exact (congrArg Records.held s.begin.rtcLock_recs :)
  · obtain ⟨o, h⟩ := s.begin.toReset_eq
    refine ⟨s.afterMem { s.begin.hardReset with out := o }, ?_, rfl, rfl⟩
    have go : (s.begin.past (t0 + 100000000) && !s.begin.beatCore) = true := by
      rw [show s.begin.past _ = true from due, show s.begin.beatCore = false from stopped]; rfl
    rw [← h]
    unfold exec
    simp only [execY0ModuleReset, State.actMem, State.begin_stp, at_, State.when, go, if_true]
  · obtain ⟨o, h⟩ := s.begin.toReset_eq
    refine ⟨s.afterMem { s.begin.hardReset with out := o }, ?_, rfl, rfl, rfl⟩
    have go : (decide (s.begin.mode = .recovery) && s.begin.live && s.begin.upd.resetDue) = true := by
      rw [show s.begin.mode = .recovery from mode, show s.begin.live = true from live, show s.begin.upd.resetDue = true from due]; rfl
    rw [← h]
    unfold exec
    simp only [execRecoveryReset, State.actMem, State.when, go, if_true]
  · obtain ⟨o, h⟩ := (((s.begin.fuseDone l).drainLog).modFrame fun f => { f with orderlyFlag := false }).toReset_eq
    have fuse' : s.begin.keys.fuse = some l := fuse
    refine ⟨s.afterReset { (((s.begin.fuseDone l).drainLog).modFrame fun f => { f with orderlyFlag := false }).hardReset with out := o },
      ?_, rfl, ?_, rfl, rfl, ?_⟩
    · rw [← h]
      unfold exec
      simp only [execFuseProgramComplete, State.actReset, fuse']
    · exact (congrArg Keys.life (State.drainLog_keys _)).trans (s.begin.fuseDone_keys_life l)
    · exact if_pos (by simp [phase]; rfl)

/-! ### Entering a mode (R99 to R101) -/

theorem within_axesLeave (s : State) : Within axisParts s (s.axesLeave) := by
  exact .foldl (.refl _ _) fun u a _ => within_axisEngage u a

@[simp] theorem Within.axesLeave_iff {D : List Part} {s t : State} (h : ∀ c ∈ axisParts, c ∈ D) :
    Within D s (t.axesLeave) ↔ Within D s t := ((within_axesLeave t).mono h).step_iff

theorem within_voidCalls (s : State) (k : Nat) : Within [.prog, .slots] s (s.voidCalls k) := by
  simp [State.voidCalls]

@[simp] theorem Within.voidCalls_iff {D : List Part} {s t : State} {k : Nat} (h : ∀ c ∈ [.prog, .slots], c ∈ D) :
    Within D s (t.voidCalls k) ↔ Within D s t := ((within_voidCalls t k).mono h).step_iff

theorem within_abandonCycle (s : State) : Within [.prog, .slots] s (s.abandonCycle) := by
  unfold State.abandonCycle
  dsimp only
  split
  · simp
  · rw [Within.modProg_iff (by decide) (by decide)]
    exact .foldl (.refl _ _) fun u k _ => by simp

@[simp] theorem Within.abandonCycle_iff {D : List Part} {s t : State} (h : ∀ c ∈ [.prog, .slots], c ∈ D) :
    Within D s (t.abandonCycle) ↔ Within D s t := ((within_abandonCycle t).mono h).step_iff

/-- What ends with a mode. -/
abbrev leaveParts : List Part := [.prog, .drv, .sessions, .slots, .cmdStat, .regs, .out, .held, .asked]

theorem within_leaveMode (s : State) (m : Mode) : Within leaveParts s (s.leaveMode m) := by
  unfold State.leaveMode
  dsimp only
  repeat' split
  all_goals simp (disch := decide)

@[simp] theorem Within.leaveMode_iff {D : List Part} {s t : State} {m : Mode} (h : ∀ c ∈ leaveParts, c ∈ D) :
    Within D s (t.leaveMode m) ↔ Within D s t := ((within_leaveMode t m).mono h).step_iff

theorem within_roleOut (s : State) : Within [.regs, .block 0x16, .out] s (s.roleOut) := by
  unfold State.roleOut
  dsimp only
  split <;> simp (disch := decide)

@[simp] theorem Within.roleOut_iff {D : List Part} {s t : State} (h : ∀ c ∈ [.regs, .block 0x16, .out], c ∈ D) :
    Within D s (t.roleOut) ↔ Within D s t := ((within_roleOut t).mono h).step_iff

/-- What follows the mode register. -/
abbrev setModeParts : List Part := [.phase, .mode, .block 0, .block 0x16] ++ declareParts

/-- The mode register takes the mode, and the module runs. -/
theorem State.setMode_mode (s : State) (m : Mode) :
    (s.setMode m).mode = m ∧ (s.setMode m).phase = .running ∧ Within setModeParts s (s.setMode m) := by
  unfold State.setMode
  extract_lets u v
  have hu : Within setModeParts s u := by
    unfold u
    split <;> simp (disch := decide)
  have hv : Within setModeParts u v := within_mode_phase u m .running (by decide) (by decide)
  have after : Within ([.block 0x16] ++ declareParts) v v.modeCause.roleOut := by simp (disch := decide)
  exact ⟨after.mode, after.phase, (hu.trans hv).trans (after.mono (by decide))⟩

@[simp] theorem State.setMode_isMode (s : State) (m : Mode) : (s.setMode m).mode = m := (s.setMode_mode m).1

@[simp] theorem State.setMode_runs (s : State) (m : Mode) : (s.setMode m).phase = .running := (s.setMode_mode m).2.1

@[simp] theorem Within.setMode_iff {D : List Part} {s t : State} {m : Mode} (h : ∀ c ∈ setModeParts, c ∈ D) :
    Within D s (t.setMode m) ↔ Within D s t := ((t.setMode_mode m).2.2.mono h).step_iff

/-! ### Start-up (R97, R98, R102 to R106, R544) -/

theorem within_slotsAtStart (s : State) : Within [.keys] s (s.slotsAtStart) := by
  unfold State.slotsAtStart State.setSlot
  dsimp only
  repeat' split
  all_goals simp

@[simp] theorem Within.slotsAtStart_iff {D : List Part} {s t : State} (h : ∀ c ∈ [.keys], c ∈ D) :
    Within D s (t.slotsAtStart) ↔ Within D s t := ((within_slotsAtStart t).mono h).step_iff

/-- The Recovery ROM runs, or the module is held as before its first mode; the strap has been obeyed (R98, R573). -/
theorem State.noStart_phase (s : State) :
    ((s.noStart.phase = .running ∧ s.noStart.mode = .recovery) ∨ s.noStart.phase = .dead) ∧ s.noStart.frame.recoveryStrap = false := by
  unfold State.noStart
  extract_lets u
  have strap : u.frame.recoveryStrap = false := rfl
  clear_value u
  split
  · have entered : (u.unmask 22).enterMode .recovery =
        (if u.phase = .running then (u.unmask 22).leaveMode .recovery else u.unmask 22).setMode .recovery := rfl
    rw [entered]
    generalize hv : (if u.phase = .running then (u.unmask 22).leaveMode .recovery else u.unmask 22) = v
    have left : Within (.gal :: leaveParts) u v := by
      subst hv
      split <;> simp (disch := decide) [State.unmask]
    have rest : Within [.keys, .regs, .block 0x18] (v.setMode .recovery) ((v.setMode .recovery).selectRoot.slotsAtStart) := by
      simp (disch := decide) [State.selectRoot]
    have all : Within ([.keys, .block 0x18, .gal] ++ leaveParts ++ setModeParts) u ((v.setMode .recovery).selectRoot.slotsAtStart) :=
      ((left.mono (by decide)).trans (by simp (disch := decide))).trans (rest.mono (by decide))
    exact ⟨.inl ⟨rest.phase.trans (v.setMode_runs _), rest.mode.trans (v.setMode_isMode _)⟩,
      (all.frame_proj Frame.recoveryStrap (fun _ => rfl)).trans strap⟩
  · have held : Within logParts { u with phase := .dead } (({ u with phase := .dead }).log Sev.critical 0 F.KEY_STAT_KILLED []).drainLog := by
      simp (disch := decide)
    exact ⟨.inr held.phase, (held.frame_proj Frame.recoveryStrap (fun _ => rfl)).trans strap⟩

/-- The frame schedule runs, and the module waits for alignment (R74, R105). -/
theorem State.startFrames_phase (s : State) (i : StartIn) (kind bank : Nat) :
    (s.startFrames i kind bank).phase = .waitAlign ∧ (s.startFrames i kind bank).frame.recoveryStrap = false := by
  unfold State.startFrames
  extract_lets _ _ _ _ _ _ _ _ v
  have strap : v.frame.recoveryStrap = false := rfl
  clear_value v
  have begun : Within declareParts { v with phase := .waitAlign } (({ v with phase := .waitAlign }).modeCause).drainLog := by
    simp (disch := decide)
  exact ⟨begun.phase, (begun.frame_proj Frame.recoveryStrap (fun _ => rfl)).trans strap⟩

/-- A start ends waiting for alignment, in the Recovery ROM, or dead (R97 to R104). -/
theorem State.startUp_phase (s : State) (i : StartIn) :
    ((s.startUp i).phase = .waitAlign ∨ ((s.startUp i).phase = .running ∧ (s.startUp i).mode = .recovery) ∨ (s.startUp i).phase = .dead) ∧
      (s.startUp i).frame.recoveryStrap = false := by
  have rom : ∀ u : State, (u.noStart.phase = .waitAlign ∨ (u.noStart.phase = .running ∧ u.noStart.mode = .recovery) ∨
      u.noStart.phase = .dead) ∧ u.noStart.frame.recoveryStrap = false := fun u => ⟨.inr u.noStart_phase.1, u.noStart_phase.2⟩
  unfold State.startUp
  extract_lets a b l back c
  split
  · exact rom _
  · split
    · exact rom _
    · next u bank _ =>
      extract_lets k checked restored framed
      split
      · exact rom _
      · have waits : framed.phase = .waitAlign ∧ framed.frame.recoveryStrap = false := restored.startFrames_phase i k bank
        clear_value framed
        split
        · exact ⟨.inl waits.1, waits.2⟩
        · exact ⟨.inl waits.1, waits.2⟩

/-! ### The wait for alignment and the listening window -/

theorem exec_startUp_of_reset (s : State) (i : StartIn) (phase : s.phase = .reset) :
    exec (.startUp i) s = .next (s.after (s.begin.startUp i)) := by
  have phase' : s.begin.phase = .reset := phase
  unfold exec
  simp only [execStartUp, State.act, State.when, phase', decide_true, if_true]

theorem exec_timeWaitExpiry_of_due (s : State) (phase : s.phase = .waitAlign)
    (due : s.past (s.frame.phaseAt + s.get F.SYS_BOOT_TIME_WAIT * 1000000000) = true) :
    exec .timeWaitExpiry s = .next (s.after s.begin.toResolve) := by
  have go : (decide (s.begin.phase = .waitAlign) &&
      s.begin.past (s.begin.frame.phaseAt + s.begin.get F.SYS_BOOT_TIME_WAIT * 1000000000)) = true := by
    show (decide (s.phase = .waitAlign) && s.past (s.frame.phaseAt + s.get F.SYS_BOOT_TIME_WAIT * 1000000000)) = true
    rw [due, phase]; rfl
  unfold exec
  simp only [execTimeWaitExpiry, State.act, State.when, go, if_true]

theorem exec_roleResolve_of_due (s : State) (roleIn : Bool) (phase : s.phase = .resolve)
    (due : s.past (s.frame.phaseAt + s.get F.SPL_CFG_RESOLVE * 100000000 * (1 + s.get F.SPL_CFG_UNIT)) = true) :
    exec (.roleResolve roleIn) s = .next (s.after (s.begin.roleResolve roleIn)) := by
  have go : (decide (s.begin.phase = .resolve) &&
      s.begin.past (s.begin.frame.phaseAt + s.begin.get F.SPL_CFG_RESOLVE * 100000000 * (1 + s.begin.get F.SPL_CFG_UNIT))) = true := by
    show (decide (s.phase = .resolve) &&
      s.past (s.frame.phaseAt + s.get F.SPL_CFG_RESOLVE * 100000000 * (1 + s.get F.SPL_CFG_UNIT))) = true
    rw [due, phase]; rfl
  unfold exec
  simp only [execRoleResolve, State.act, State.when, go, if_true]

/-- Settles O9: each phase of the start leads to its next one. -/
theorem startUpReachesItsNextPhase : Obligations.StartUpReachesItsNextPhase := by
  unfold Obligations.StartUpReachesItsNextPhase
  refine ⟨fun s i phase => ?_, fun s phase due pair => ?_, fun s phase due pair life => ?_, fun s phase due pair prov depl => ?_,
    fun s roleIn phase due => ?_⟩
  · exact ⟨_, exec_startUp_of_reset s i phase, s.begin.startUp_phase i⟩
  · have solo : s.begin.toResolve = { s.begin with role := .solo, phase := .enter } := by
      simp [State.toResolve, pair]
    refine ⟨_, exec_timeWaitExpiry_of_due s phase due, ?_, ?_, ?_⟩ <;> rw [solo] <;> rfl
  · have waits : s.begin.toResolve = ({ s.begin with phase := .resolve }).modFrame fun f => { f with phaseAt := s.mono } := by
      rcases life with life | life <;> simp [State.toResolve, pair, life] <;> rfl
    refine ⟨_, exec_timeWaitExpiry_of_due s phase due, ?_, ?_⟩ <;> rw [waits] <;> rfl
  · have solo : s.begin.toResolve = { s.begin.log Sev.warning 0 F.SPL_CFG_PAIR [] with role := .solo, phase := .enter } := by
      simp [State.toResolve, pair, prov, depl]
    refine ⟨_, exec_timeWaitExpiry_of_due s phase due, ?_, ?_⟩ <;> rw [solo] <;> rfl
  · refine ⟨_, exec_roleResolve_of_due s roleIn phase due, ?_⟩
    have seen : (s.begin.putB F.SPL_STAT_ROLE_IN roleIn).get F.SPL_STAT_ROLE_IN = b2n roleIn := by
      rw [State.putB_eq, State.get_put_self]
      cases roleIn <;> rfl
    have partner : (s.begin.putB F.SPL_STAT_ROLE_IN roleIn).spl.partnerLead = s.spl.partnerLead := rfl
    unfold State.roleResolve
    simp only [partner]
    cases s.spl.partnerLead
    · cases roleIn
      · exact ⟨rfl, rfl, seen, nofun⟩
      · refine ⟨rfl, rfl, (State.get_put_ne { s.begin.putB F.SPL_STAT_ROLE_IN true with role := .follower, phase := .enter }
          F.SPL_STAT_SYNC F.SPL_STAT_ROLE_IN 3 (by decide)).trans seen, fun _ _ => ?_⟩
        exact State.get_put_self { s.begin.putB F.SPL_STAT_ROLE_IN true with role := .follower, phase := .enter } F.SPL_STAT_SYNC 3
    · exact ⟨rfl, rfl, seen, nofun⟩

end Sys2Proof.Machine

/-! ### Chapters 02, 10, 11 and 14: boundaries, the end of a shutdown, tamper and power fail -/

namespace Sys2Proof.Machine

/-! ### A boundary without a frame schedule (R69) -/

theorem within_optimeAdvance (s : State) (ns : Nat) : Within [.recs] s (s.optimeAdvance ns) := by
  simp [State.optimeAdvance]

@[simp] theorem Within.optimeAdvance_iff {D : List Part} {s t : State} {ns : Nat} (h : ∀ c ∈ [.recs], c ∈ D) :
    Within D s (t.optimeAdvance ns) ↔ Within D s t := ((within_optimeAdvance t ns).mono h).step_iff

theorem within_rtcAdvance (s : State) (n : Nat) : Within [.rtc] s (s.rtcAdvance n) := by
  unfold State.rtcAdvance
  dsimp only
  repeat' split
  all_goals exact within_modRtc s _ (by decide)

@[simp] theorem Within.rtcAdvance_iff {D : List Part} {s t : State} {n : Nat} (h : ∀ c ∈ [.rtc], c ∈ D) :
    Within D s (t.rtcAdvance n) ↔ Within D s t := ((within_rtcAdvance t n).mono h).step_iff

theorem within_ownCommit (s : State) : Within [.rtc, .regs, .block 0x0F] s (s.ownCommit) := by
  unfold State.ownCommit
  split
  · split
    · simp
    · dsimp only
      split <;> simp (disch := decide) [State.rtcSet]
  · simp

@[simp] theorem Within.ownCommit_iff {D : List Part} {s t : State} (h : ∀ c ∈ [.rtc, .regs, .block 0x0F], c ∈ D) :
    Within D s (t.ownCommit) ↔ Within D s t := ((within_ownCommit t).mono h).step_iff

theorem within_rtcFrame (s : State) (n : Nat) : Within [.rtc, .regs, .block 0x0F] s (s.rtcFrame n) := by
  simp (disch := decide) [State.rtcFrame]

@[simp] theorem Within.rtcFrame_iff {D : List Part} {s t : State} {n : Nat} (h : ∀ c ∈ [.rtc, .regs, .block 0x0F], c ∈ D) :
    Within D s (t.rtcFrame n) ↔ Within D s t := ((within_rtcFrame t n).mono h).step_iff

/-! ### Entering Basic (R90, R559, R637) -/

theorem zoneProg_part {z : Nat} (hz : z < 256) : (F.LGT_ZN_STAT_PROG.at z).part = .block 6 := by
  refine Fld.part_at _ _ (by decide) (by simp only [F.LGT_ZN_STAT_PROG]; omega) fun a ha => ?_
  simp only [F.LGT_ZN_STAT_PROG]
  have far : ∀ x ∈ cmdStats, x < 0x60000 ∨ 0x70000 ≤ x := by decide
  have := far a ha
  omega

theorem within_clearPresence (s : State) : Within [.regs, .block 6] s (clearPresence s) := by
  refine .foldl (.refl _ _) fun u z hz => ?_
  split
  · exact within_put u 0 (by decide) (by rw [zoneProg_part (List.mem_range.1 hz)]; decide)
  · simp

@[simp] theorem Within.clearPresence_iff {D : List Part} {s t : State} (h : ∀ c ∈ [Part.regs, .block 6], c ∈ D) :
    Within D s (clearPresence t) ↔ Within D s t := ((within_clearPresence t).mono h).step_iff

theorem within_planeStop (s : State) : Within (.light :: finishParts) s (s.planeStop) := by
  simp (disch := decide) [State.planeStop]

@[simp] theorem Within.planeStop_iff {D : List Part} {s t : State} (h : ∀ c ∈ (.light :: finishParts), c ∈ D) :
    Within D s (t.planeStop) ↔ Within D s t := ((within_planeStop t).mono h).step_iff

theorem lumStatDim_part (i : Nat) : (F.DRV_LUM_STAT_DIM.at (i % 8)).part = .block 9 := by
  have all : ∀ k < 8, (F.DRV_LUM_STAT_DIM.at k).part = .block 9 := by decide
  exact all _ (Nat.mod_lt _ (by decide))

theorem within_actuate (s : State) (ak ai : Nat) (v : Int) : Within [.drv, .regs, .block 9] s (s.actuate ak ai v) := by
  unfold State.actuate State.setPwm
  dsimp only
  split
  · simp
  · exact within_put s _ (by decide) (by rw [lumStatDim_part]; decide)

@[simp] theorem Within.actuate_iff {D : List Part} {s t : State} {ak ai : Nat} {v : Int} (h : ∀ c ∈ [.drv, .regs, .block 9], c ∈ D) :
    Within D s (t.actuate ak ai v) ↔ Within D s t := ((within_actuate t ak ai v).mono h).step_iff

theorem within_loopsSafe (s : State) : Within [.drv, .regs, .block 9] s (s.loopsSafe) := by
  refine .foldl (.refl _ _) fun u l _ => ?_
  dsimp only
  split <;> simp (disch := decide) [State.modLoop, State.setLoop]

@[simp] theorem Within.loopsSafe_iff {D : List Part} {s t : State} (h : ∀ c ∈ [.drv, .regs, .block 9], c ∈ D) :
    Within D s (t.loopsSafe) ↔ Within D s t := ((within_loopsSafe t).mono h).step_iff

theorem within_posBasic (s : State) : Within [.pos] s (s.posBasic) := by
  simp (disch := decide) [State.posBasic, State.filtersIdle]

@[simp] theorem Within.posBasic_iff {D : List Part} {s t : State} (h : ∀ c ∈ [.pos], c ∈ D) :
    Within D s (t.posBasic) ↔ Within D s t := ((within_posBasic t).mono h).step_iff

theorem within_switchAborted (s : State) : Within (.prog :: .block 5 :: finishParts) s (s.switchAborted) := by
  unfold State.switchAborted State.setChange
  dsimp only
  split
  · simp
  · simp (disch := decide)

@[simp] theorem Within.switchAborted_iff {D : List Part} {s t : State} (h : ∀ c ∈ (.prog :: .block 5 :: finishParts), c ∈ D) :
    Within D s (t.switchAborted) ↔ Within D s t := ((within_switchAborted t).mono h).step_iff

/-- What the sideband of an engine changes. -/
abbrev sidebandParts : List Part := [.gal, .regs, .block 2, .block 3]

theorem within_semAbandonAll (s : State) (e : Nat) : Within [.regs, .block 2] s (s.semAbandonAll e) := by
  refine .foldl (.refl _ _) fun u n hn => ?_
  have small : n < 128 := List.mem_range.1 (List.mem_filter.1 hn).1
  have owner : (F.SEM_SEMn_OWNER.at n).part = .block 2 := Fld.part_eq_block (by rw [semOwner_key]; omega) (by decide)
  have mark : (F.SEM_SEMn_ABANDONED.at n).part = .block 2 := Fld.part_eq_block (by rw [semAbandoned_key]; omega) (by decide)
  rw [State.inc_eq, Within.put_iff (by decide) (by decide), State.semAbandon, State.putB_eq,
    Within.put_iff (by decide) (by rw [mark]; decide), Within.put_iff (by decide) (by rw [owner]; decide)]
  exact .refl _ _

@[simp] theorem Within.semAbandonAll_iff {D : List Part} {s t : State} {e : Nat} (h : ∀ c ∈ [.regs, .block 2], c ∈ D) :
    Within D s (t.semAbandonAll e) ↔ Within D s t := ((within_semAbandonAll t e).mono h).step_iff

theorem within_sideband (s : State) (e : Nat) : Within sidebandParts s (s.sideband e) := by
  unfold State.sideband
  have first : Within sidebandParts s (s.modGal fun g => { g with
      masked := insertN g.masked e, pending := g.pending.filter fun p => p.req.req ≠ e }) :=
    within_modGal_rest s (fun _ => rfl) (by decide)
  refine .foldl (first.trans ((within_semAbandonAll _ e).mono (by decide))) fun u f hf => ?_
  have small : f < 64 := List.mem_range.1 (List.mem_filter.1 hf).1
  exact within_put u _ (by decide) (by rw [Fld.part_eq_block (b := 3) (by rw [fifProducerReset_key]; omega) (by decide)]; decide)

@[simp] theorem Within.sideband_iff {D : List Part} {s t : State} {e : Nat} (h : ∀ c ∈ sidebandParts, c ∈ D) :
    Within D s (t.sideband e) ↔ Within D s t := ((within_sideband t e).mono h).step_iff

theorem within_unmask {D : List Part} (s : State) (e : Nat) (h : .gal ∈ D) : Within D s (s.unmask e) :=
  within_modGal_rest s (fun _ => rfl) h

@[simp] theorem Within.unmask_iff {D : List Part} {s t : State} {e : Nat} (h : .gal ∈ D) :
    Within D s (t.unmask e) ↔ Within D s t := (within_unmask t e h).step_iff

theorem within_c1Runs (s : State) : Within [.gal, .cores] s (s.c1Runs) := by
  exact (within_unmask s 1 (by decide)).trans (within_modFrame_cores _ (fun x => ⟨_, _, rfl⟩) (by decide))

@[simp] theorem Within.c1Runs_iff {D : List Part} {s t : State} (h : ∀ c ∈ [.gal, .cores], c ∈ D) :
    Within D s (t.c1Runs) ↔ Within D s t := ((within_c1Runs t).mono h).step_iff

/-- What the end of an update changes. -/
abbrev updParts : List Part := [.upd, .gal, .cores, .block 2, .block 3, .block 0x17] ++ finishParts

theorem within_updEnd (s : State) (st bankSt : Nat) : Within updParts s (s.updEnd st bankSt) := by
  unfold State.updEnd State.setBank State.updState
  extract_lets o b u bank v w
  have hu : Within updParts s u := by
    unfold u
    split <;> simp (disch := decide)
  refine hu.trans ?_
  simp (disch := decide) [v, w]

@[simp] theorem Within.updEnd_iff {D : List Part} {s t : State} {st bankSt : Nat} (h : ∀ c ∈ updParts, c ∈ D) :
    Within D s (t.updEnd st bankSt) ↔ Within D s t := ((within_updEnd t st bankSt).mono h).step_iff

theorem within_swapAborted (s : State) : Within (.spl :: updParts) s (s.swapAborted) := by
  unfold State.swapAborted State.pairUpdateOff
  dsimp only
  split
  · simp
  · split <;> simp (disch := decide)

@[simp] theorem Within.swapAborted_iff {D : List Part} {s t : State} (h : ∀ c ∈ (.spl :: updParts), c ∈ D) :
    Within D s (t.swapAborted) ↔ Within D s t := ((within_swapAborted t).mono h).step_iff

/-- What the entry into Basic changes, beside the mode. -/
abbrev basicParts : List Part :=
  [.block 6, .block 9, .block 5, .light, .drv, .pos, .prog, .spl, .recs, .block 0x19] ++ updParts

theorem within_enterBasic (s : State) : Within basicParts s (s.enterBasic) := by
  unfold State.enterBasic
  dsimp only
  split <;> simp (disch := decide)

@[simp] theorem Within.enterBasic_iff {D : List Part} {s t : State} (h : ∀ c ∈ basicParts, c ∈ D) :
    Within D s (t.enterBasic) ↔ Within D s t := ((within_enterBasic t).mono h).step_iff

/-- What a change to Basic changes. -/
abbrev toBasicParts : List Part := leaveParts ++ setModeParts ++ basicParts

theorem State.enterMode_basic (s : State) :
    (s.enterMode .basic).mode = .basic ∧ (s.enterMode .basic).phase = .running ∧ Within toBasicParts s (s.enterMode .basic) := by
  have eq : s.enterMode .basic = ((if s.phase = .running then s.leaveMode .basic else s).setMode .basic).enterBasic := rfl
  rw [eq]
  generalize hu : (if s.phase = .running then s.leaveMode .basic else s) = u
  have left : Within toBasicParts s u := by
    subst hu
    split <;> simp (disch := decide)
  exact ⟨(within_enterBasic _).mode.trans (u.setMode_isMode _), (within_enterBasic _).phase.trans (u.setMode_runs _),
    (Within.enterBasic_iff (by decide)).2 ((Within.setMode_iff (by decide)).2 left)⟩

/-- Basic with its cause, in a module that runs (R90). -/
theorem State.toBasic_mode (s : State) (cause detail : Nat) :
    (s.toBasic cause detail).mode = .basic ∧ (s.toBasic cause detail).phase = .running ∧
      Within toBasicParts s (s.toBasic cause detail) := by
  unfold State.toBasic
  extract_lets u
  have hu : Within toBasicParts s u := by
    unfold u
    simp (disch := decide)
  split
  · next h =>
    simp only [Bool.and_eq_true, decide_eq_true_eq] at h
    exact ⟨h.1, h.2, hu⟩
  · exact ⟨u.enterMode_basic.1, u.enterMode_basic.2.1, hu.trans u.enterMode_basic.2.2⟩

theorem within_maskPlinth (s : State) : Within sidebandParts s (s.maskPlinth) := by
  refine .foldl (.refl _ _) fun u k _ => ?_
  split
  · simp
  · split <;> simp (disch := decide)

@[simp] theorem Within.maskPlinth_iff {D : List Part} {s t : State} (h : ∀ c ∈ sidebandParts, c ∈ D) :
    Within D s (t.maskPlinth) ↔ Within D s t := ((within_maskPlinth t).mono h).step_iff

theorem within_forceElem (s : State) (y : Symbol) (v : Nat) : Within [.prog, .slots] s (s.forceElem y v) := by
  unfold State.forceElem
  repeat' split
  all_goals simp

@[simp] theorem Within.forceElem_iff {D : List Part} {s t : State} {y : Symbol} {v : Nat} (h : ∀ c ∈ [.prog, .slots], c ∈ D) :
    Within D s (t.forceElem y v) ↔ Within D s t := ((within_forceElem t y v).mono h).step_iff

theorem within_applyForces (s : State) : Within [.prog, .slots] s (s.applyForces) := by
  refine .foldl (.refl _ _) fun u f _ => ?_
  split <;> simp (disch := decide)

@[simp] theorem Within.applyForces_iff {D : List Part} {s t : State} (h : ∀ c ∈ [.prog, .slots], c ∈ D) :
    Within D s (t.applyForces) ↔ Within D s t := ((within_applyForces t).mono h).step_iff

/-- What bringing a package into force changes. -/
abbrev installParts : List Part := [.prog, .slots, .block 5] ++ sidebandParts

theorem within_installPkg (s : State) (p : Package) : Within installParts s (s.installPkg p) := by
  simp (disch := decide) [State.installPkg, State.dropForces]

@[simp] theorem Within.installPkg_iff {D : List Part} {s t : State} {p : Package} (h : ∀ c ∈ installParts, c ∈ D) :
    Within D s (t.installPkg p) ↔ Within D s t := ((within_installPkg t p).mono h).step_iff

theorem within_restoreRetained (s : State) : Within ([.prog, .slots, .block 5] ++ logParts) s (s.restoreRetained) := by
  unfold State.restoreRetained State.putAreas State.retainedResume
  dsimp only
  split
  · simp
  · split
    · simp (disch := decide)
    · split <;> simp (disch := decide)

@[simp] theorem Within.restoreRetained_iff {D : List Part} {s t : State} (h : ∀ c ∈ ([.prog, .slots, .block 5] ++ logParts), c ∈ D) :
    Within D s (t.restoreRetained) ↔ Within D s t := ((within_restoreRetained t).mono h).step_iff

theorem within_startProgram (s : State) : Within (installParts ++ logParts) s (s.startProgram) := by
  unfold State.startProgram
  split
  · simp
  · dsimp only
    repeat' split
    all_goals simp (disch := decide)

@[simp] theorem Within.startProgram_iff {D : List Part} {s t : State} (h : ∀ c ∈ (installParts ++ logParts), c ∈ D) :
    Within D s (t.startProgram) ↔ Within D s t := ((within_startProgram t).mono h).step_iff

/-- A Scrapped module enters its Basic (Table 02.7). -/
theorem State.enterFirst_of_scrapped (s : State) (life : s.keys.life = .scrapped) :
    s.enterFirst.mode = .basic ∧ s.enterFirst.phase = .running ∧
      Within (.modeReqs :: installParts ++ toBasicParts) s s.enterFirst := by
  unfold State.enterFirst
  extract_lets u l v w
  have hv : Within (.spl :: .held :: installParts ++ logParts) s v := by
    unfold v u
    simp (disch := decide)
  have hl : l = .scrapped := (congrArg Keys.life ((within_startProgram s).keys (by decide)) :).trans life
  have hw : w = v.toBasic 7 0 := by
    unfold w
    rw [if_pos hl]
  obtain ⟨mode, phase, basic⟩ := v.toBasic_mode 7 0
  rw [hw]
  have last : Within (.modeReqs :: logParts) (v.toBasic 7 0)
      ((v.toBasic 7 0).modFrame fun f => { f with modeReqs := [] }).drainLog :=
    (within_modFrame_modeReqs _ (fun x => ⟨_, rfl⟩) (by decide)).trans (within_drainLog _ (by decide))
  exact ⟨last.mode.trans mode, last.phase.trans phase,
    ((hv.mono (by decide)).trans (basic.mono (by decide))).trans (last.mono (by decide))⟩

/-- The frame that begins without a frame schedule: its number, its start, the clocks. -/
def State.frameOff (s : State) (i : FrameIn) : State :=
  (((s.modFrame fun f => { f with num := f.num + 1, start := f.start + frameNs, off := 0 }).optimeAdvance frameNs).rtcFrame i.crystal).putB
    F.RTC_STAT_VBAT_LOW i.vbatLow

theorem State.frameOff_within (s : State) (i : FrameIn) :
    Within [.recs, .rtc, .regs, .block 0x0F] (s.modFrame fun f => { f with num := f.num + 1, start := f.start + frameNs, off := 0 })
      (s.frameOff i) := by
  simp (disch := decide) [State.frameOff]

theorem State.boundaryOff_eq (s : State) (i : FrameIn) :
    s.boundaryOff i = if (decide ((s.frameOff i).keys.life = .scrapped) && decide ((s.frameOff i).phase = .waitAlign)) = true then
      (s.frameOff i).enterFirst else s.frameOff i := rfl

/-! ### The self-test (R107, R605 to R607) -/

/-- What the findings of a test change; a finding may name any place. -/
abbrev bstParts : List Part := [.bst, .wild] ++ logParts

theorem within_bst (s : State) (x : SelfTest) : Within [.bst] s { s with bst := x } := by
  refine .of_same rfl fun c hc => ?_
  cases c with
  | bst => exact absurd (by decide) hc
  | asked => exact ⟨rfl, rfl, rfl⟩
  | cores => exact ⟨rfl, rfl⟩
  | cmdStat | block _ | wild => trivial
  | _ => rfl

theorem within_spares (s : State) : Within [.regs, .wild] s (s.spares) := by
  unfold State.spares
  dsimp only
  split <;> split <;> simp (disch := decide) [Within.put_wild_iff]

@[simp] theorem Within.spares_iff {D : List Part} {s t : State} (h : ∀ c ∈ [.regs, .wild], c ∈ D) :
    Within D s (t.spares) ↔ Within D s t := ((within_spares t).mono h).step_iff

theorem within_repaired (s : State) (f : Fld) : Within bstParts s (s.repaired f) := by
  simp (disch := decide) [State.repaired, Within.put_wild_iff]

@[simp] theorem Within.repaired_iff {D : List Part} {s t : State} {f : Fld} (h : ∀ c ∈ bstParts, c ∈ D) :
    Within D s (t.repaired f) ↔ Within D s t := ((within_repaired t f).mono h).step_iff

theorem within_outOfService (s : State) (f : Nat × Nat) : Within bstParts s (s.outOfService f) := by
  unfold State.outOfService
  dsimp only
  split
  · simp (disch := decide) [Within.put_wild_iff]
  · refine ((within_bst s { s.bst with bad := s.bst.bad ++ [f] }).mono (by decide)).trans ?_
    simp (disch := decide) [Within.put_wild_iff]

@[simp] theorem Within.outOfService_iff {D : List Part} {s t : State} {f : Nat × Nat} (h : ∀ c ∈ bstParts, c ∈ D) :
    Within D s (t.outOfService f) ↔ Within D s t := ((within_outOfService t f).mono h).step_iff

theorem within_bstFinding (s : State) (f : Nat × Nat) : Within bstParts s (s.bstFinding f) := by
  unfold State.bstFinding
  repeat' split
  all_goals simp (disch := decide) [Within.put_wild_iff]

@[simp] theorem Within.bstFinding_iff {D : List Part} {s t : State} {f : Nat × Nat} (h : ∀ c ∈ bstParts, c ∈ D) :
    Within D s (t.bstFinding f) ↔ Within D s t := ((within_bstFinding t f).mono h).step_iff

theorem within_bstResult (s : State) (last ms : Nat) (found : List (Nat × Nat)) : Within bstParts s (s.bstResult last ms found) := by
  unfold State.bstResult
  extract_lets u v sev
  rw [Within.log_iff (by decide)]
  refine .foldl ?_ fun u f _ => within_bstFinding u f
  simp (disch := decide) [u, Within.put_wild_iff]

@[simp] theorem Within.bstResult_iff {D : List Part} {s t : State} {last ms : Nat} {found : List (Nat × Nat)} (h : ∀ c ∈ bstParts, c ∈ D) :
    Within D s (t.bstResult last ms found) ↔ Within D s t := ((within_bstResult t last ms found).mono h).step_iff

/-! ### Power fail (R468, R502 to R504) -/

theorem within_setFeeder (s : State) (f : Nat) (x : Feeder) : Within [.meter] s (s.setFeeder f x) := by
  simp [State.setFeeder]

@[simp] theorem Within.setFeeder_iff {D : List Part} {s t : State} {f : Nat} {x : Feeder} (h : ∀ c ∈ [.meter], c ∈ D) :
    Within D s (t.setFeeder f x) ↔ Within D s t := ((within_setFeeder t f x).mono h).step_iff

theorem within_feederWindows (s : State) (f : Nat) : Within [.meter] s (s.feederWindows f).1 := by
  unfold State.feederWindows
  split <;> simp (disch := decide)

@[simp] theorem Within.feederWindows_iff {D : List Part} {s t : State} {f : Nat} (h : ∀ c ∈ [.meter], c ∈ D) :
    Within D s (t.feederWindows f).1 ↔ Within D s t := ((within_feederWindows t f).mono h).step_iff

theorem mtrChStat_part {ch : Nat} (h : ch < 28) : (F.MTR_CH_STAT_CLIPS.at ch).part = .block 0x10 ∧
    (F.MTR_CH_STAT_OVER.at ch).part = .block 0x10 ∧ (F.MTR_CH_STAT_GAIN.at ch).part = .block 0x10 := by
  have all : ∀ k < 28, (F.MTR_CH_STAT_CLIPS.at k).part = .block 0x10 ∧ (F.MTR_CH_STAT_OVER.at k).part = .block 0x10 ∧
      (F.MTR_CH_STAT_GAIN.at k).part = .block 0x10 := by decide
  exact all ch h

theorem mtrPulStat_part {p : Nat} (h : p < 8) : (F.MTR_PUL_STAT_PENDING.at p).part = .block 0x10 ∧
    (F.MTR_PUL_STAT_OVERFLOW.at p).part = .block 0x10 := by
  have all : ∀ k < 8, (F.MTR_PUL_STAT_PENDING.at k).part = .block 0x10 ∧ (F.MTR_PUL_STAT_OVERFLOW.at k).part = .block 0x10 := by decide
  exact all p h

/-- What the work of metering changes. -/
abbrev meterParts : List Part := [.meter, .regs, .block 0x10]

theorem within_channelFrame (s : State) {ch : Nat} (l : List MSamp) (hch : ch < 28) : Within meterParts s (s.channelFrame ch l) := by
  obtain ⟨clips, shows, gain⟩ := mtrChStat_part hch
  have counted : Within meterParts s ((s.add (F.MTR_CH_STAT_CLIPS.at ch) (countP (fun m => isClipped (m.code ch)) l)).putB
      (F.MTR_CH_STAT_OVER.at ch) (l.any fun m => isClipped (m.code ch) && decide (s.sampleGain m ch = 0))) :=
    (within_put (D := meterParts) s _ (by decide) (by rw [clips]; decide)).trans (within_put _ _ (by decide) (by rw [shows]; decide))
  unfold State.channelFrame
  extract_lets _ _ _ u _ _ v
  split
  · exact (Within.put_iff (by decide) (by rw [gain]; decide)).2 ((Within.modMeter_iff (by decide)).2 counted)
  · exact (Within.modMeter_iff (by decide)).2 counted

/-- A fold of pairs whose first component each step keeps within the parts. -/
theorem Within.foldl_fst {α β : Type} {D : List Part} {f : State × β → α → State × β} {l : List α} {s : State} {p : State × β}
    (h : Within D s p.1) (hf : ∀ q, ∀ x ∈ l, Within D q.1 (f q x).1) : Within D s (l.foldl f p).1 := by
  induction l generalizing p with
  | nil => exact h
  | cons x l ih => exact ih (h.trans (hf p x (List.mem_cons_self ..))) fun q y hy => hf q y (List.mem_cons_of_mem _ hy)

theorem within_addPoints (s : State) (raw rows : List (List Int)) (dts : List Nat) (len : Nat) : Within [.meter] s (s.addPoints raw rows dts len) := by
  simp [State.addPoints]

@[simp] theorem Within.addPoints_iff {D : List Part} {s t : State} {raw rows : List (List Int)} {dts : List Nat} {len : Nat} (h : ∀ c ∈ [.meter], c ∈ D) :
    Within D s (t.addPoints raw rows dts len) ↔ Within D s t := ((within_addPoints t raw rows dts len).mono h).step_iff

/-- The windows of the four feeders of a frame, one after another. -/
def State.meterWindows (s : State) : State × List MeterWin := (List.range 4).foldl (fun (p : State × List MeterWin) f =>
  let (s, w) := p.1.feederWindows f
  (s, p.2 ++ [w])) (s, [])

theorem within_meterWindows (s : State) : Within [.meter] s (s.meterWindows).1 := by
  exact Within.foldl_fst (p := (s, [])) (.refl _ _) fun q f _ => within_feederWindows q.1 f

@[simp] theorem Within.meterWindows_iff {D : List Part} {s t : State} (h : ∀ c ∈ [.meter], c ∈ D) :
    Within D s (t.meterWindows).1 ↔ Within D s t := ((within_meterWindows t).mono h).step_iff

theorem within_meterFrame (s : State) (num start len : Nat) (trans : Bool) (l : List MSamp) : Within meterParts s (s.meterFrame num start len trans l) := by
  unfold State.meterFrame
  split
  · simp
  · extract_lets l sw clip ovr raw rows dts en u
    have hu : Within meterParts s u.meterWindows.1 := by
      simp (disch := decide) [u]
    change Within meterParts s (match u.meterWindows with | (v, wins) => _)
    refine .foldl ?_ fun v ch hch => within_channelFrame v l (List.mem_range.1 hch)
    exact hu.trans (within_modMeter _ _ (by decide))

@[simp] theorem Within.meterFrame_iff {D : List Part} {s t : State} {num start len : Nat} {trans : Bool} {l : List MSamp} (h : ∀ c ∈ meterParts, c ∈ D) :
    Within D s (t.meterFrame num start len trans l) ↔ Within D s t := ((within_meterFrame t num start len trans l).mono h).step_iff

theorem within_meterSuspend (s : State) : Within meterParts s (s.meterSuspend) := by
  simp (disch := decide) [State.meterSuspend]

@[simp] theorem Within.meterSuspend_iff {D : List Part} {s t : State} (h : ∀ c ∈ meterParts, c ∈ D) :
    Within D s (t.meterSuspend) ↔ Within D s t := ((within_meterSuspend t).mono h).step_iff

theorem within_meterSave (s : State) (copy kind : Nat) : Within meterParts s (s.meterSave copy kind) := by
  unfold State.meterSave
  dsimp only
  split <;> simp (disch := decide)

@[simp] theorem Within.meterSave_iff {D : List Part} {s t : State} {copy kind : Nat} (h : ∀ c ∈ meterParts, c ∈ D) :
    Within D s (t.meterSave copy kind) ↔ Within D s t := ((within_meterSave t copy kind).mono h).step_iff

theorem within_accounted (s : State) (l : List MFrame) : Within [.meter] s (s.accounted l) := by
  unfold State.accounted
  split <;> simp

@[simp] theorem Within.accounted_iff {D : List Part} {s t : State} {l : List MFrame} (h : ∀ c ∈ [.meter], c ∈ D) :
    Within D s (t.accounted l) ↔ Within D s t := ((within_accounted t l).mono h).step_iff

theorem within_pulseAdd (s : State) {p : Nat} (before : List Feeder) (hp : p < 8) : Within meterParts s (s.pulseAdd p before) := by
  obtain ⟨pending, lost⟩ := mtrPulStat_part hp
  unfold State.pulseAdd
  split
  · exact .refl _ _
  · exact ((within_modMeter (D := meterParts) s _ (by decide)).trans (within_put _ _ (by decide) (by rw [pending]; decide))).trans
      (within_put _ _ (by decide) (by rw [lost]; decide))

theorem within_meterFlush (s : State) : Within meterParts s (s.meterFlush) := by
  unfold State.meterFlush
  split
  · simp
  · extract_lets before l u v
    rw [Within.meterSuspend_iff (by decide), Within.meterSave_iff (by decide), Within.accounted_iff (by decide)]
    refine .foldl (.foldl (.refl _ _) fun w m _ => .foldl (.refl _ _) fun x f _ => ?_) fun w p hp =>
      within_pulseAdd w before (List.mem_range.1 hp)
    split
    · exact (within_setFeeder x _ _).mono (by decide)
    · exact .refl _ _

@[simp] theorem Within.meterFlush_iff {D : List Part} {s t : State} (h : ∀ c ∈ meterParts, c ∈ D) :
    Within D s (t.meterFlush) ↔ Within D s t := ((within_meterFlush t).mono h).step_iff

/-- What the flush at the end of a supply changes. -/
abbrev flushParts : List Part := [.prog, .slots] ++ meterParts ++ logParts

theorem within_flush (s : State) : Within flushParts s (s.flush) := by
  unfold State.flush State.retainedFlush
  split <;> simp (disch := decide)

@[simp] theorem Within.flush_iff {D : List Part} {s t : State} (h : ∀ c ∈ flushParts, c ∈ D) :
    Within D s (t.flush) ↔ Within D s t := ((within_flush t).mono h).step_iff

theorem within_flushLost (s : State) : Within meterParts s (s.flushLost) := by
  unfold State.flushLost
  split
  · simp
  · dsimp only
    simp (disch := decide)

@[simp] theorem Within.flushLost_iff {D : List Part} {s t : State} (h : ∀ c ∈ meterParts, c ∈ D) :
    Within D s (t.flushLost) ↔ Within D s t := ((within_flushLost t).mono h).step_iff

/-! ### Tamper (R591 to R594) -/

theorem State.sessionsGone_sessions (s : State) : s.sessionsGone.gal.sessions = [] := by
  have gal : s.sessionsGone.gal = { s.gal with sessions := [] } :=
    foldl_keeps State.gal (fun (s : State) r => s.roverClosed r) (fun _ _ => State.roverClosed_gal ..) _ _
  rw [gal]

theorem within_sessionsGone (s : State) : Within [.gal, .sessions, .pos, .fleet] s (s.sessionsGone) := by
  unfold State.sessionsGone
  refine .foldl (by simp) fun u r _ => ?_
  simp (disch := decide) [State.roverClosed, State.fleetClosed, State.setRovPos]

@[simp] theorem Within.sessionsGone_iff {D : List Part} {s t : State} (h : ∀ c ∈ [.gal, .sessions, .pos, .fleet], c ∈ D) :
    Within D s (t.sessionsGone) ↔ Within D s t := ((within_sessionsGone t).mono h).step_iff

theorem within_keeperOuts (l : List KeeperOp) (s : State) :
    Within [.out] s (l.foldl (fun s x => s.keeperOut x.engine x.slot x.op St.aborted) s) :=
  .foldl (.refl _ _) fun u x _ => by simp [State.keeperOut]

theorem State.zeroise_keys (s : State) : s.zeroise.keys = { s.keys with cache := [], queue := [], zeroised := true } := by
  unfold State.zeroise
  dsimp only
  rw [State.put_keys, (within_keeperOuts _ _).keys]
  rfl

theorem State.zeroise_sessions (s : State) (h : s.gal.sessions = []) : s.zeroise.gal.sessions = [] := by
  unfold State.zeroise
  dsimp only
  rw [State.put_gal, (within_keeperOuts _ _).sessions]
  show s.gal.sessions.map _ = []
  rw [h]; rfl

/-- What K0's zeroisation changes. -/
abbrev tamperParts : List Part := [.keys, .gal, .sessions, .net, .stp, .block 0x18, .out] ++ logParts

theorem within_zeroise (s : State) : Within tamperParts s (s.zeroise) := by
  unfold State.zeroise
  dsimp only
  rw [Within.put_iff (by decide) (by decide)]
  refine .foldl ?_ fun u x _ => ?_
  · simp (disch := decide)
  · simp (disch := decide) [State.keeperOut]

@[simp] theorem Within.zeroise_iff {D : List Part} {s t : State} (h : ∀ c ∈ tamperParts, c ∈ D) :
    Within D s (t.zeroise) ↔ Within D s t := ((within_zeroise t).mono h).step_iff

theorem within_tamperKeys (s : State) : Within tamperParts s (s.tamperKeys) := by
  simp (disch := decide) [State.tamperKeys]

@[simp] theorem Within.tamperKeys_iff {D : List Part} {s t : State} (h : ∀ c ∈ tamperParts, c ∈ D) :
    Within D s (t.tamperKeys) ↔ Within D s t := ((within_tamperKeys t).mono h).step_iff

theorem State.tamperKeys_keys (s : State) :
    s.tamperKeys.keys = { s.keys with cache := [], queue := [], zeroised := true, killed := true } := by
  unfold State.tamperKeys
  rw [State.log_keys, State.modKeys_keys, State.zeroise_keys]

theorem State.tamperKeys_sessions (s : State) (h : s.gal.sessions = []) : s.tamperKeys.gal.sessions = [] := by
  unfold State.tamperKeys
  rw [State.log_gal, State.modKeys_gal, State.zeroise_sessions s h]

/-- What a tamper event does at once: sessions and keys are gone. -/
def State.tampered (s : State) : State := s.sessionsGone.tamperKeys

theorem State.tampered_parts (s : State) : s.tampered.gal.sessions = [] ∧
    s.tampered.keys = { s.keys with cache := [], queue := [], zeroised := true, killed := true } ∧
    Within (.pos :: .fleet :: tamperParts) s s.tampered := by
  refine ⟨State.tamperKeys_sessions _ s.sessionsGone_sessions, ?_, ?_⟩
  · unfold State.tampered
    rw [State.tamperKeys_keys, (within_sessionsGone s).keys]
  · unfold State.tampered
    simp (disch := decide)

theorem State.tamperEvent_eq (s : State) : s.tamperEvent =
    if (decide (s.tampered.phase = .running) && decide (s.tampered.mode = .recovery)) = true then s.tampered.toReset
    else if s.tampered.phase = .shutdown then (({ s.tampered.testEnded with mode := .basic }).put F.SYS_MODE_CAUSE 3).modeCause
    else if s.tampered.live = true then s.tampered.modeReq .tamper .quiet
    else s.tampered := rfl

theorem exec_tamperEvent_of_phase (s : State) (phase : s.phase ≠ .reset) :
    exec .tamperEvent s = .next (s.afterReset s.begin.tamperEvent) := by
  have phase' : s.begin.phase ≠ .reset := phase
  unfold exec
  simp only [execTamperEvent, State.actReset, State.when, phase', ne_eq, not_false_eq_true, decide_true, if_true]

/-- The self-test of a shutdown ends without its flag, in a halt (R608). -/
theorem State.testEnded_of_shutdown (s : State) (phase : s.phase = .shutdown) :
    s.testEnded.phase = .halted ∧ s.testEnded.frame.orderlyFlag = false ∧
      Within (.phase :: .frame :: declareParts) s s.testEnded := by
  have eq : s.testEnded =
      (({ s with phase := .halted }).modFrame fun f => { f with orderlyFlag := false, restartAfter := false }).modeCause := by
    simp only [State.testEnded, phase, ne_eq, not_true_eq_false, if_false]
  have cause := within_modeCause (({ s with phase := .halted }).modFrame fun f => { f with orderlyFlag := false, restartAfter := false })
  have halt : Within (.phase :: .frame :: declareParts) s { s with phase := .halted } := within_phase s .halted (by decide)
  have flags : Within (.phase :: .frame :: declareParts) { s with phase := .halted }
      (({ s with phase := .halted }).modFrame fun f => { f with orderlyFlag := false, restartAfter := false }) :=
    within_modFrame_rest _ (fun _ => rfl) (fun _ => rfl) (fun _ => ⟨rfl, rfl⟩) (by decide)
  rw [eq]
  exact ⟨cause.phase, cause.frame_proj Frame.orderlyFlag (fun _ => rfl), (halt.trans flags).trans (cause.mono (by decide))⟩

theorem State.testEnded_of_not_shutdown (s : State) (phase : s.phase ≠ .shutdown) : s.testEnded = s := by
  simp only [State.testEnded, phase, ne_eq, not_false_eq_true, if_true]

/-! ### PFW_N (R468, R503) -/

/-- A locked RTC shows LOCKOUT (R468). -/
theorem State.rtcLock_lockout (s : State) : s.rtcLock.get F.RTC_STAT_LOCKOUT ≠ 0 := by
  by_cases h : s.flag F.RTC_STAT_LOCKOUT = true
  · rw [State.rtcLock, if_pos h]
    exact of_decide_eq_true h
  · rw [State.rtcLock, if_neg h]
    dsimp only
    rw [State.get_put_self]
    decide

theorem within_rtcLock (s : State) : Within [.rtc, .regs, .block 0x0F] s (s.rtcLock) := by
  unfold State.rtcLock
  split
  · simp
  · simp (disch := decide)

@[simp] theorem Within.rtcLock_iff {D : List Part} {s t : State} (h : ∀ c ∈ [.rtc, .regs, .block 0x0F], c ∈ D) :
    Within D s (t.rtcLock) ↔ Within D s t := ((within_rtcLock t).mono h).step_iff

/-- What PFW_N leaves to do before the self-test's flag: the marker, the lockout, the flush. -/
def State.powerSaved (s : State) (at_ : Nat) (samples : List MSamp) (hold : Bool) : State :=
  let t := ((s.atNs at_).modMeter fun m => { m with marker := some (s.atNs at_).now }).rtcLock
  if hold then (t.meterFrame t.num t.frame.start t.frame.off true samples).flush else t.drainLog.flushLost

theorem State.powerSaved_parts (s : State) (at_ : Nat) (samples : List MSamp) (hold : Bool) :
    (s.powerSaved at_ samples hold).get F.RTC_STAT_LOCKOUT ≠ 0 ∧
      Within (.offset :: .rtc :: .block 0x0F :: flushParts) s (s.powerSaved at_ samples hold) := by
  unfold State.powerSaved
  extract_lets t
  have locked : t.get F.RTC_STAT_LOCKOUT ≠ 0 := State.rtcLock_lockout _
  have ht : Within (.offset :: .rtc :: .block 0x0F :: flushParts) s t := by
    unfold t
    simp (disch := decide)
  clear_value t
  split
  · have saved : Within flushParts t (t.meterFrame t.num t.frame.start t.frame.off true samples).flush := by simp (disch := decide)
    exact ⟨saved.get (f := F.RTC_STAT_LOCKOUT) ▸ locked, ht.trans (saved.mono (by decide))⟩
  · have saved : Within flushParts t t.drainLog.flushLost := by simp (disch := decide)
    exact ⟨saved.get (f := F.RTC_STAT_LOCKOUT) ▸ locked, ht.trans (saved.mono (by decide))⟩

theorem State.powerFail_eq (s : State) (at_ : Nat) (samples : List MSamp) (hold : Bool) :
    s.powerFail at_ samples hold = if s.framesOn = true then (s.powerSaved at_ samples hold).testEnded else s.rtcLock := by
  unfold State.powerFail State.powerSaved
  cases s.framesOn <;> rfl

theorem exec_powerFail_of_phase (s : State) (at_ : Nat) (samples : List MSamp) (hold : Bool) (phase : s.phase ≠ .reset) :
    exec (.powerFail at_ samples hold) s = .next (s.after (s.begin.powerFail at_ samples hold)) := by
  have phase' : s.begin.phase ≠ .reset := phase
  unfold exec
  simp only [execPowerFail, State.act, State.when, phase', ne_eq, not_false_eq_true, decide_true, if_true]

/-! ### The boundaries and the end of a shutdown -/

theorem State.afterReset_mem_of_phase {s r : State} (h : r.phase ≠ .reset) : (s.afterReset r).mem = s.mem := by
  simp [State.afterReset, h]

theorem State.afterReset_mem_of_reset {s r : State} (h : r.phase = .reset) (hs : s.phase ≠ .reset) :
    (s.afterReset r).mem = s.mem.filter keptCell := by
  simp [State.afterReset, h, hs]

/-- The test of a shutdown with its results: what follows is the halt, or the reset of RESTART. -/
def State.tested (s : State) (found : List (Nat × Nat)) (ms : Nat) : State :=
  let u : State := { s with bst := { s.bst with bad := [] } }
  let v := (u.put F.BST_FAIL_ITEMS 0).bstResult 1 ms found
  ((v.put F.SYS_START_BIST_STALE 0).modFrame fun f => { f with orderlyFlag := !v.keys.scan }).drainLog

theorem State.tested_parts (s : State) (found : List (Nat × Nat)) (ms : Nat) :
    (s.tested found ms).frame = { s.frame with orderlyFlag := !s.keys.scan } ∧ Within (.frame :: bstParts) s (s.tested found ms) := by
  unfold State.tested
  extract_lets _ u v
  have hv : Within bstParts s v := by
    refine ((within_bst s { s.bst with bad := [] }).mono (by decide)).trans ?_
    unfold v
    exact (Within.bstResult_iff (by decide)).2 (within_put_wild u F.BST_FAIL_ITEMS 0 (by decide) (by decide))
  have drained := within_drainLog (D := logParts)
    ((v.put F.SYS_START_BIST_STALE 0).modFrame fun f => { f with orderlyFlag := !v.keys.scan }) (by decide)
  have flags : Within (.frame :: bstParts) v ((v.put F.SYS_START_BIST_STALE 0).modFrame fun f => { f with orderlyFlag := !v.keys.scan }) :=
    (within_put_wild (D := .frame :: bstParts) v F.SYS_START_BIST_STALE 0 (by decide) (by decide)).trans
      (within_modFrame_rest _ (fun _ => rfl) (fun _ => rfl) (fun _ => ⟨rfl, rfl⟩) (by decide))
  refine ⟨drained.frame_eq.trans ?_, ((hv.mono (by decide)).trans flags).trans (drained.mono (by decide))⟩
  rw [State.modFrame_frame, State.put_frame, hv.frame_eq, hv.keys]

theorem State.selfTestComplete_eq (s : State) (found : List (Nat × Nat)) (ms : Nat) :
    s.selfTestComplete found ms = if (s.tested found ms).frame.restartAfter = true then (s.tested found ms).trialAtReset.toReset
      else ({ s.tested found ms with phase := .halted }).modeCause := rfl

theorem exec_frameBoundary_eq (s : State) (i : FrameIn) :
    exec (.frameBoundary i) s = .next (s.afterReset (s.begin.frameBoundary i)) := rfl

theorem exec_selfTestComplete_of_shutdown (s : State) (found : List (Nat × Nat)) (ms : Nat) (phase : s.phase = .shutdown) :
    exec (.selfTestComplete found ms) s = .next (s.afterReset (s.begin.selfTestComplete found ms)) := by
  have phase' : s.begin.phase = .shutdown := phase
  unfold exec
  simp only [execSelfTestComplete, State.actReset, State.when, phase', decide_true, if_true]

theorem State.frameBoundary_of_framesOff (s : State) (i : FrameIn) (off : s.framesOn = false) (phase : s.phase ≠ .reset) :
    s.frameBoundary i = s.boundaryOff i := by
  rw [State.frameBoundary, if_neg phase, off, Bool.not_false, if_pos rfl]

/-- The frame that begins without a schedule. -/
theorem State.frameOff_frame (s : State) (i : FrameIn) :
    (s.frameOff i).frame = { s.frame with num := s.frame.num + 1, start := s.frame.start + frameNs, off := 0 } :=
  (s.frameOff_within i).frame_eq

/-- R69 without a schedule: time alone passes. -/
theorem exec_frameBoundary_of_framesOff (s : State) (i : FrameIn) (off : s.framesOn = false) (phase : s.phase ≠ .reset)
    (waits : ¬(s.keys.life = .scrapped ∧ s.phase = .waitAlign)) :
    exec (.frameBoundary i) s = .next (s.afterReset (s.begin.frameOff i)) := by
  have w := s.begin.frameOff_within i
  have stays : (decide ((s.begin.frameOff i).keys.life = .scrapped) && decide ((s.begin.frameOff i).phase = .waitAlign)) = false := by
    rw [w.keys, w.phase, Bool.and_eq_false_iff, decide_eq_false_iff_not, decide_eq_false_iff_not]
    exact Decidable.not_and_iff_not_or_not.1 waits
  rw [exec_frameBoundary_eq, s.begin.frameBoundary_of_framesOff i off phase, State.boundaryOff_eq, stays]
  rfl

/-- A Scrapped module that waits enters its Basic at the boundary. -/
theorem exec_frameBoundary_of_scrapped (s : State) (i : FrameIn) (life : s.keys.life = .scrapped) (phase : s.phase = .waitAlign) :
    exec (.frameBoundary i) s = .next (s.afterReset (s.begin.frameOff i).enterFirst) := by
  have w := s.begin.frameOff_within i
  have life' : (s.begin.frameOff i).keys.life = .scrapped := by rw [w.keys]; exact life
  have phase' : (s.begin.frameOff i).phase = .waitAlign := by rw [w.phase]; exact phase
  have off : s.begin.framesOn = false := by simp [State.framesOn, life]
  rw [exec_frameBoundary_eq, s.begin.frameBoundary_of_framesOff i off (by rw [State.begin_phase, phase]; decide),
    State.boundaryOff_eq, life', phase']
  rfl

theorem frameBoundary_scrapped_parts (s : State) (i : FrameIn) (life : s.keys.life = .scrapped) :
    (s.begin.frameOff i).enterFirst.mode = .basic ∧ (s.begin.frameOff i).enterFirst.phase = .running ∧
      (s.begin.frameOff i).enterFirst.num = s.num + 1 := by
  have life' : (s.begin.frameOff i).keys.life = .scrapped := by rw [(s.begin.frameOff_within i).keys]; exact life
  obtain ⟨mode, run, first⟩ := (s.begin.frameOff i).enterFirst_of_scrapped life'
  refine ⟨mode, run, ?_⟩
  rw [first.num, State.num, s.begin.frameOff_frame]
  rfl

/-- The end of a shutdown's test. -/
theorem State.selfTestComplete_of_halt (s : State) (found : List (Nat × Nat)) (ms : Nat) (stays : s.frame.restartAfter = false) :
    (s.selfTestComplete found ms).phase = .halted ∧ (s.selfTestComplete found ms).frame.orderlyFlag = !s.keys.scan := by
  obtain ⟨flag, w⟩ := s.tested_parts found ms
  have again : (s.tested found ms).frame.restartAfter = false := by rw [flag]; exact stays
  have cause := within_modeCause { s.tested found ms with phase := .halted }
  rw [State.selfTestComplete_eq, again]
  exact ⟨cause.phase, (cause.frame_proj Frame.orderlyFlag (fun _ => rfl)).trans (congrArg Frame.orderlyFlag flag :)⟩

theorem State.toReset_orderlyFlag (s : State) : s.toReset.frame.orderlyFlag = s.frame.orderlyFlag := by
  obtain ⟨o, h⟩ := s.toReset_eq
  rw [h]; rfl

theorem State.toReset_keys_killed (s : State) : s.toReset.keys.killed = s.keys.killed := by
  obtain ⟨o, h⟩ := s.toReset_eq
  rw [h]; rfl

theorem State.toReset_sessions (s : State) : s.toReset.gal.sessions = [] := by
  obtain ⟨o, h⟩ := s.toReset_eq
  rw [h]; rfl

@[simp] theorem State.trialAtReset_frame (s : State) : s.trialAtReset.frame = s.frame := by
  unfold State.trialAtReset
  split <;> rfl

/-- RESTART ends in a reset (R108). -/
theorem State.selfTestComplete_of_restart (s : State) (found : List (Nat × Nat)) (ms : Nat) (again : s.frame.restartAfter = true) :
    (s.selfTestComplete found ms).phase = .reset ∧ (s.selfTestComplete found ms).frame.orderlyFlag = !s.keys.scan := by
  obtain ⟨flag, -⟩ := s.tested_parts found ms
  have again' : (s.tested found ms).frame.restartAfter = true := by rw [flag]; exact again
  rw [State.selfTestComplete_eq, if_pos again', State.toReset_orderlyFlag, State.trialAtReset_frame, flag]
  exact ⟨(State.toReset_phase_mem _).1, rfl⟩

/-- A tamper event in a module that runs outside Recovery ends its sessions and asks for Basic. -/
theorem State.tamperEvent_of_live (s : State) (live : s.live = true) (mode : s.mode ≠ .recovery) :
    s.tamperEvent = s.tampered.modeReq .tamper .quiet := by
  obtain ⟨-, keys, w⟩ := s.tampered_parts
  obtain ⟨run, life⟩ := (s.live_iff).1 live
  have run' : s.tampered.phase = .running := w.phase.trans run
  have live' : s.tampered.live = true := (s.tampered.live_iff).2 ⟨run', by rw [keys]; exact life⟩
  rw [State.tamperEvent_eq, w.mode, run', live']
  simp [mode]

theorem State.tamperEvent_of_recovery (s : State) (run : s.phase = .running) (mode : s.mode = .recovery) :
    s.tamperEvent = s.tampered.toReset := by
  obtain ⟨-, -, w⟩ := s.tampered_parts
  rw [State.tamperEvent_eq, w.mode, w.phase, run, mode]
  rfl

theorem State.tamperEvent_of_shutdown (s : State) (phase : s.phase = .shutdown) :
    s.tamperEvent.phase = .halted ∧ s.tamperEvent.mode = .basic ∧ s.tamperEvent.frame.orderlyFlag = false ∧
      s.tamperEvent.keys.killed = true := by
  obtain ⟨-, keys, w⟩ := s.tampered_parts
  have phase' : s.tampered.phase = .shutdown := w.phase.trans phase
  have eq : s.tamperEvent = (({ s.tampered.testEnded with mode := .basic }).put F.SYS_MODE_CAUSE 3).modeCause := by
    rw [State.tamperEvent_eq, phase']
    rfl
  obtain ⟨halt, flag, ended⟩ := s.tampered.testEnded_of_shutdown phase'
  have cause := within_modeCause (({ s.tampered.testEnded with mode := .basic }).put F.SYS_MODE_CAUSE 3)
  rw [eq, cause.phase, cause.mode, cause.keys]
  refine ⟨halt, rfl, (cause.frame_proj Frame.orderlyFlag (fun _ => rfl)).trans flag, ?_⟩
  show s.tampered.testEnded.keys.killed = true
  rw [ended.keys, keys]

/-- The state once VIN is good again. -/
def State.powerRestored (s : State) : State :=
  s.after (s.begin.rtcUnlock.retainedResume.modMeter fun m => { m with resumeDue := s.flag F.MTR_STAT_SUSPENDED && s.framesOn })

theorem State.powerRestored_parts (s : State) : s.powerRestored.get F.RTC_STAT_LOCKOUT = 0 ∧ s.powerRestored.rtc.lockT = none ∧
    s.powerRestored.meter.resumeDue = (s.flag F.MTR_STAT_SUSPENDED && s.framesOn) ∧
    { s.powerRestored with regs := s.regs, rtc := s.rtc, prog := s.prog, meter := s.meter, out := s.out } = s := by
  refine ⟨?_, ?_, ?_, ?_⟩
  · rw [State.powerRestored, State.after_get, State.modMeter_get, State.retainedResume, State.modProg_get, State.rtcUnlock,
      State.get_put_self]
    decide
  · rw [State.powerRestored, State.after_rtc, State.modMeter_rtc, State.retainedResume, State.modProg_rtc, State.rtcUnlock,
      State.put_rtc]
    rfl
  · rw [State.powerRestored, State.after_meter, State.modMeter_meter]
  · unfold State.powerRestored State.retainedResume State.rtcUnlock
    ext1 <;> simp

theorem exec_powerRestore_of_phase (s : State) (phase : s.phase ≠ .reset) :
    exec .powerRestore s = .next s.powerRestored := by
  have phase' : s.begin.phase ≠ .reset := phase
  unfold exec
  simp only [execPowerRestore, State.act, State.when, phase', ne_eq, not_false_eq_true, decide_true, if_true]
  rfl

/-- Settles O10: without a schedule a boundary is time alone; the other events go through the halt, the reset or a mode request. -/
theorem boundariesAndPowerEvents : Obligations.BoundariesAndPowerEvents := by
  unfold Obligations.BoundariesAndPowerEvents
  refine ⟨fun s i off phase waits => ?_, fun s i life phase => ?_, fun s found ms phase stays => ?_, fun s found ms phase again => ?_,
    fun s live mode => ?_, fun s phase mode => ?_, fun s phase => ?_, fun s at_ samples hold phase => ?_,
    fun s at_ samples hold phase on => ?_, fun s phase => ?_⟩
  · have w := s.begin.frameOff_within i
    have frame := s.begin.frameOff_frame i
    refine ⟨_, exec_frameBoundary_of_framesOff s i off phase waits, ?_, ?_, ?_, w.phase, w.mode,
      State.afterReset_mem_of_phase (w.phase ▸ phase)⟩
    · exact (congrArg Frame.num frame :)
    · exact (congrArg Frame.start frame :)
    · exact (congrArg Frame.off frame :)
  · obtain ⟨mode, run, num⟩ := frameBoundary_scrapped_parts s i life
    refine ⟨_, exec_frameBoundary_of_scrapped s i life phase, ?_, ?_, ?_, State.afterReset_mem_of_phase (by rw [run]; decide)⟩
    · rw [State.num, State.afterReset_frame]; exact num
    · rw [State.afterReset_phase]; exact run
    · rw [State.afterReset_mode]; exact mode
  · obtain ⟨halt, flag⟩ := s.begin.selfTestComplete_of_halt found ms stays
    refine ⟨_, exec_selfTestComplete_of_shutdown s found ms phase, ?_⟩
    rw [State.afterReset_phase, State.afterReset_frame]
    exact ⟨halt, flag, State.afterReset_mem_of_phase (by rw [halt]; decide)⟩
  · obtain ⟨reset, flag⟩ := s.begin.selfTestComplete_of_restart found ms again
    refine ⟨_, exec_selfTestComplete_of_shutdown s found ms phase, ?_⟩
    rw [State.afterReset_phase, State.afterReset_frame]
    exact ⟨reset, flag, State.afterReset_mem_of_reset reset (by rw [phase]; decide)⟩
  · obtain ⟨gone, keys, w⟩ := s.begin.tampered_parts
    have up : s.phase ≠ .reset := by rw [((s.live_iff).1 live).1]; decide
    refine ⟨_, exec_tamperEvent_of_phase s up, ?_⟩
    rw [s.begin.tamperEvent_of_live live mode, State.afterReset_gal, State.afterReset_keys, State.afterReset_frame, State.modeReq,
      State.modFrame_gal, State.modFrame_keys, State.modFrame_frame, keys]
    refine ⟨gone, rfl, rfl, rfl, ?_⟩
    show s.begin.tampered.frame.modeReqs ++ [{ ev := .tamper, by_ := .quiet, at_ := s.begin.tampered.num }] = _
    rw [w.modeReqs, w.num]
    rfl
  · obtain ⟨-, keys, -⟩ := s.begin.tampered_parts
    refine ⟨_, exec_tamperEvent_of_phase s (by rw [phase]; decide), ?_⟩
    rw [s.begin.tamperEvent_of_recovery phase mode]
    rw [State.afterReset_phase, State.afterReset_keys, State.afterReset_gal, State.toReset_keys_killed, keys]
    exact ⟨(State.toReset_phase_mem _).1, rfl, State.toReset_sessions _⟩
  · refine ⟨_, exec_tamperEvent_of_phase s (by rw [phase]; decide), ?_⟩
    rw [State.afterReset_phase, State.afterReset_keys, State.afterReset_mode, State.afterReset_frame]
    exact s.begin.tamperEvent_of_shutdown phase
  · refine ⟨_, exec_powerFail_of_phase s at_ samples hold phase, ?_⟩
    rw [State.after_get, State.powerFail_eq]
    obtain ⟨locked, w⟩ := s.begin.powerSaved_parts at_ samples hold
    split
    · by_cases down : (s.begin.powerSaved at_ samples hold).phase = .shutdown
      · rw [(State.testEnded_of_shutdown _ down).2.2.get]
        exact locked
      · rw [State.testEnded_of_not_shutdown _ down]
        exact locked
    · exact State.rtcLock_lockout _
  · obtain ⟨-, w⟩ := s.begin.powerSaved_parts at_ samples hold
    refine ⟨_, exec_powerFail_of_phase s at_ samples hold (by rw [phase]; decide), ?_⟩
    have down : (s.begin.powerSaved at_ samples hold).phase = .shutdown := w.phase.trans phase
    obtain ⟨halt, flag, -⟩ := State.testEnded_of_shutdown _ down
    rw [State.powerFail_eq, if_pos (show s.begin.framesOn = true from on), State.after_phase, State.after_frame]
    exact ⟨halt, flag⟩
  · exact ⟨_, exec_powerRestore_of_phase s phase, s.powerRestored_parts⟩

end Sys2Proof.Machine

/-! ### Chapter 02: deadline faults and Curator faults (R80 to R86) -/

namespace Sys2Proof.Machine

/-! ### Deadline faults -/

theorem dclsTotal_key (c : Nat) : (F.FRM_DCLS_TOTAL_TOTAL.at c).key = 8397056 + 512 * c := by
  simp only [Fld.at, Fld.at2, Fld.key, F.FRM_DCLS_TOTAL_TOTAL]; omega

theorem dclsConsec_key (c : Nat) : (F.FRM_DCLS_CONSEC_CONSEC.at c).key = 8396928 + 512 * c := by
  simp only [Fld.at, Fld.at2, Fld.key, F.FRM_DCLS_CONSEC_CONSEC]; omega

theorem dlast_keys : F.FRM_DLAST_CLASS.key = 8389660 ∧ F.FRM_DLAST_ENGINE.key = 8389648 ∧ F.FRM_DLAST_FRAME.key = 8389632 := by decide

/-- The counts of a class after a fault of it, and what FRM_DLAST shows (R80, R81). -/
theorem State.countFault_counts (s : State) (c e p : Nat) :
    (s.countFault c e p).get (F.FRM_DCLS_TOTAL_TOTAL.at c) =
        satAdd F.FRM_DCLS_TOTAL_TOTAL.max (s.get (F.FRM_DCLS_TOTAL_TOTAL.at c)) 1 % 2 ^ F.FRM_DCLS_TOTAL_TOTAL.width ∧
      (s.countFault c e p).get (F.FRM_DCLS_CONSEC_CONSEC.at c) =
        (if s.faultedAlready c p = true then s.get (F.FRM_DCLS_CONSEC_CONSEC.at c)
          else satAdd F.FRM_DCLS_CONSEC_CONSEC.max (s.get (F.FRM_DCLS_CONSEC_CONSEC.at c)) 1 % 2 ^ F.FRM_DCLS_CONSEC_CONSEC.width) := by
  obtain ⟨kc, ke, kf⟩ := dlast_keys
  unfold State.countFault
  dsimp only
  rw [State.modFrame_get, State.modFrame_get]
  constructor
  · rw [State.get_put_ne _ _ _ _ (by rw [dclsTotal_key, kf]; omega), State.get_put_ne _ _ _ _ (by rw [dclsTotal_key, ke]; omega),
      State.get_put_ne _ _ _ _ (by rw [dclsTotal_key, kc]; omega), State.inc_eq, State.get_put_self]
    split
    · rfl
    · rw [State.inc_eq, State.get_put_ne _ _ _ _ (by rw [dclsTotal_key, dclsConsec_key]; omega)]
      rfl
  · rw [State.get_put_ne _ _ _ _ (by rw [dclsConsec_key, kf]; omega), State.get_put_ne _ _ _ _ (by rw [dclsConsec_key, ke]; omega),
      State.get_put_ne _ _ _ _ (by rw [dclsConsec_key, kc]; omega), State.inc_eq,
      State.get_put_ne _ _ _ _ (by rw [dclsTotal_key, dclsConsec_key]; omega)]
    split
    · rfl
    · rw [State.inc_eq, State.get_put_self]
      rfl

theorem State.countFault_dlast (s : State) {c e : Nat} (p : Nat) (hc : c < 9) (he : e < 32) :
    (s.countFault c e p).get F.FRM_DLAST_CLASS = c ∧ (s.countFault c e p).get F.FRM_DLAST_ENGINE = e ∧
      (s.countFault c e p).get F.FRM_DLAST_FRAME = s.num % 65536 := by
  unfold State.countFault
  dsimp only
  have num : ∀ u : State, u.frame = s.frame → u.num = s.num := fun u h => congrArg Frame.num h
  refine ⟨?_, ?_, ?_⟩
  · rw [State.modFrame_get, State.get_put_ne _ _ _ _ (by decide), State.get_put_ne _ _ _ _ (by decide), State.get_put_self]
    exact Nat.mod_eq_of_lt (by show c < 16; omega)
  · rw [State.modFrame_get, State.get_put_ne _ _ _ _ (by decide), State.get_put_self]
    exact Nat.mod_eq_of_lt (by show e < 32; omega)
  · rw [State.modFrame_get, State.get_put_self, num _ (by split <;> simp)]
    exact Nat.mod_mod _ _

theorem State.countFault_late (s : State) (c e p : Nat) : c ∈ (s.countFault c e p).frame.late := mem_insertN.2 (.inl rfl)

/-- What handling a fault changes once it is counted. -/
abbrev handleParts : List Part := [.frame, .modeReqs, .offset, .cores, .pos, .upd] ++ logParts

theorem within_missWork (s : State) (c engine : Nat) : Within handleParts s (s.missWork c engine) := by
  unfold State.missWork
  repeat' split
  all_goals simp (disch := decide)

@[simp] theorem Within.missWork_iff {D : List Part} {s t : State} {c engine : Nat} (h : ∀ c ∈ handleParts, c ∈ D) :
    Within D s (t.missWork c engine) ↔ Within D s t := ((within_missWork t c engine).mono h).step_iff

theorem within_runFault (s : State) (c : Nat) : Within handleParts s (s.runFault c) := by
  unfold State.runFault
  dsimp only
  split <;> simp (disch := decide)

@[simp] theorem Within.runFault_iff {D : List Part} {s t : State} {c : Nat} (h : ∀ c ∈ handleParts, c ∈ D) :
    Within D s (t.runFault c) ↔ Within D s t := ((within_runFault t c).mono h).step_iff

theorem within_escalate (s : State) (c : Nat) : Within handleParts s (s.escalate c) := by
  unfold State.escalate
  dsimp only
  split <;> simp (disch := decide) [State.modeReq, State.trialRestart]

@[simp] theorem Within.escalate_iff {D : List Part} {s t : State} {c : Nat} (h : ∀ c ∈ handleParts, c ∈ D) :
    Within D s (t.escalate c) ↔ Within D s t := ((within_escalate t c).mono h).step_iff

theorem State.runFault_frame (s : State) (c : Nat) : ∃ l, (s.runFault c).frame = { s.frame with runLen := l } := by
  unfold State.runFault
  dsimp only
  split
  · exact ⟨_, by rw [State.modFrame_frame, State.log_frame]⟩
  · exact ⟨_, by rw [State.modFrame_frame]⟩

theorem State.escalate_frame (s : State) (c : Nat) : ∃ l, (s.escalate c).frame = { s.frame with modeReqs := l } := by
  unfold State.escalate
  dsimp only
  split
  · exact ⟨_, rfl⟩
  · exact ⟨_, by rw [State.trialRestart, State.modUpd_frame, State.modeReq, State.modFrame_frame, State.log_frame]⟩

theorem State.missWork_frame (s : State) (c e : Nat) : (s.missWork c e).frame.late = s.frame.late ∧
    (c = 4 → radioLate (e - 6) ∈ (s.missWork c e).frame.missed) ∧
    (c = 6 ∨ c = 7 → tickLate c e ∈ (s.missWork c e).frame.missed) := by
  unfold State.missWork
  split
  · next h => exact ⟨rfl, fun _ => mem_insertN.2 (.inl rfl), fun h' => by omega⟩
  · next h4 =>
    split
    · next h5 => exact ⟨rfl, fun h' => absurd h' h4, fun h' => by omega⟩
    · split
      · exact ⟨rfl, fun h' => absurd h' h4, fun _ => mem_insertN.2 (.inl rfl)⟩
      · next h67 => exact ⟨rfl, fun h' => absurd h' h4, fun h' => absurd (by simpa using h') h67⟩

/-- A fault of a class below BOOT is counted, its work is missed, and it may escalate. -/
theorem State.deadlineFault_of_counted (s : State) {c : Nat} (e p : Nat) (up : s.live = true ∨ s.phase = .shutdown)
    (steady : s.frame.transitional = false) (hc : c < 9) (faults : s.classFaults c = true) :
    s.deadlineFault c e p = ((if s.faultedAlready c p = true then (s.countFault c e p).missWork c e
      else ((s.countFault c e p).missWork c e).runFault c).escalate c) := by
  have go : (!(s.live || decide (s.phase = .shutdown)) || s.frame.transitional || decide (10 ≤ c) || !s.classFaults c) = false := by
    rcases up with up | up <;> simp [up, steady, faults] <;> omega
  unfold State.deadlineFault
  dsimp only
  rw [go, if_neg (by decide), if_neg (by omega)]

theorem State.deadlineFault_parts (s : State) {c : Nat} (e p : Nat) (up : s.live = true ∨ s.phase = .shutdown)
    (steady : s.frame.transitional = false) (hc : c < 9) (faults : s.classFaults c = true) :
    Within handleParts (s.countFault c e p) (s.deadlineFault c e p) ∧ c ∈ (s.deadlineFault c e p).frame.late ∧
      (c = 4 → radioLate (e - 6) ∈ (s.deadlineFault c e p).frame.missed) ∧
      (c = 6 ∨ c = 7 → tickLate c e ∈ (s.deadlineFault c e p).frame.missed) := by
  obtain ⟨late, radio, tick⟩ := (s.countFault c e p).missWork_frame c e
  have counted := s.countFault_late c e p
  rw [s.deadlineFault_of_counted e p up steady hc faults]
  generalize hu : (if s.faultedAlready c p = true then (s.countFault c e p).missWork c e
    else ((s.countFault c e p).missWork c e).runFault c) = u
  have missed : u.frame.late = (s.countFault c e p).frame.late ∧ u.frame.missed = ((s.countFault c e p).missWork c e).frame.missed ∧
      Within handleParts (s.countFault c e p) u := by
    subst hu
    split
    · exact ⟨late, rfl, within_missWork _ _ _⟩
    · obtain ⟨l, h⟩ := ((s.countFault c e p).missWork c e).runFault_frame c
      rw [h]
      exact ⟨late, rfl, (within_missWork _ _ _).trans (within_runFault _ _)⟩
  obtain ⟨ulate, umissed, w⟩ := missed
  obtain ⟨l, h⟩ := u.escalate_frame c
  rw [h]
  refine ⟨w.trans (within_escalate _ _), ?_, fun h4 => ?_, fun h67 => ?_⟩
  · show c ∈ u.frame.late
    rw [ulate]; exact counted
  · show _ ∈ u.frame.missed
    rw [umissed]; exact radio h4
  · show _ ∈ u.frame.missed
    rw [umissed]; exact tick h67

theorem dcls_part {c : Nat} (hc : c < 9) : (F.FRM_DCLS_TOTAL_TOTAL.at c).part = .block 4 ∧ (F.FRM_DCLS_CONSEC_CONSEC.at c).part = .block 4 :=
  ⟨Fld.part_eq_block (by rw [dclsTotal_key]; omega) (by decide), Fld.part_eq_block (by rw [dclsConsec_key]; omega) (by decide)⟩

/-! ### The Curator cores (R84) -/

@[simp] theorem State.core_setCore (s : State) {k : Nat} (x : CoreSt) : (s.setCore k x).core k = x := by
  by_cases h : k = 0 <;> simp [State.core, State.setCore, h]

theorem State.core_of_frame {s t : State} (h : t.frame.c0 = s.frame.c0 ∧ t.frame.c1 = s.frame.c1) (k : Nat) : t.core k = s.core k := by
  simp only [State.core, h.1, h.2]

theorem within_setCore (s : State) (k : Nat) (x : CoreSt) : Within [.cores] s (s.setCore k x) := by
  by_cases h : k = 0
  · subst h; exact within_modFrame_cores s (fun y => ⟨x, y.c1, rfl⟩) (by decide)
  · refine within_modFrame_cores s (fun y => ⟨y.c0, x, ?_⟩) (by decide)
    simp only [if_neg h]

theorem exec_curatorFault_eq (s : State) (k : Nat) : exec (.curatorFault k) s = .next (s.after (s.begin.curatorFault k)) := rfl

theorem exec_curatorReady_eq (s : State) (k : Nat) : exec (.curatorReady k) s = .next (s.after (s.begin.curatorReady k)) := rfl

theorem exec_curatorRestartTimeout_eq (s : State) (k : Nat) :
    exec (.curatorRestartTimeout k) s = .next (s.after (s.begin.curatorTimeout k)) := rfl

/-- Not the core that an in-place update restarts. -/
theorem not_updating {s : State} {k : Nat} (h : k = 0 ∨ s.upd.kind ≠ 1 ∨ s.upd.stage ≠ 2) :
    (decide (k = 1) && decide (s.upd.kind = 1) && decide (s.upd.stage = 2)) = false := by
  rcases h with h | h | h <;> simp [h]

/-- A core that faults is held in reset and masked, and Basic is asked for. -/
theorem State.curatorFault_parts (s : State) {k : Nat} (hk : k < 2) (dead : s.phase ≠ .dead) (halted : s.phase ≠ .halted)
    (recovery : s.mode ≠ .recovery) (basic : s.mode ≠ .basic) (run : (s.core k).running = true) :
    (s.curatorFault k).core k = { running := false, ready := false, faultAt := s.mono } ∧
      (s.curatorFault k).gal.masked = insertN s.gal.masked k ∧
      (s.curatorFault k).frame.modeReqs = s.frame.modeReqs ++ [{ ev := .curatorFault, by_ := .quiet, at_ := s.num }] := by
  have go : (decide (2 ≤ k) || decide (s.phase = .dead) || decide (s.phase = .halted) || decide (s.mode = .recovery) || !(s.core k).running)
      = false := by
    simp [dead, halted, recovery, run]; omega
  generalize hu : (((s.setCore k { running := false, ready := false, faultAt := s.mono }).sideband k).log Sev.critical 0
    (F.FRM_DCLS_TOTAL_TOTAL.at 9) []).trialRestart = u
  have w : Within (.upd :: sidebandParts ++ logParts) (s.setCore k { running := false, ready := false, faultAt := s.mono }) u := by
    subst hu
    simp (disch := decide) [State.trialRestart]
  have wc := within_setCore s k { running := false, ready := false, faultAt := s.mono }
  have stays : u.mode ≠ .basic := by rw [w.mode, wc.mode]; exact basic
  have masked : u.gal.masked = insertN s.gal.masked k := by
    rw [← hu, State.trialRestart, State.modUpd_gal, State.log_gal, sideband_gal]
    rfl
  have eq : s.curatorFault k = u.modeReq .curatorFault .quiet := by
    unfold State.curatorFault
    rw [go, if_neg (by decide)]
    dsimp only
    rw [hu, if_neg stays]
  rw [eq]
  refine ⟨?_, masked, ?_⟩
  · exact (State.core_of_frame w.cores k).trans (s.core_setCore _)
  · show u.frame.modeReqs ++ [{ ev := .curatorFault, by_ := .quiet, at_ := u.num }] = _
    rw [w.modeReqs, w.num, wc.modeReqs, wc.num]

theorem exec_deadlineFault_eq (s : State) (c e p : Nat) :
    exec (.deadlineFault c e p) s = .next (s.after (s.begin.deadlineFault c e p)) := rfl

/-- Settles O11: the counts come before what follows a fault, and the sideband holds the core. -/
theorem faultsAreCountedAndHandled : Obligations.FaultsAreCountedAndHandled := by
  unfold Obligations.FaultsAreCountedAndHandled
  refine ⟨fun s c e p up steady hc faults he => ?_, fun s k hk dead halted recovery basic run => ?_, fun s k hk out idle => ?_,
    fun s k hk out idle due => ?_⟩
  · obtain ⟨w, late, radio, tick⟩ := s.begin.deadlineFault_parts e p up steady hc faults
    obtain ⟨cls, eng, frm⟩ := s.begin.countFault_dlast p hc he
    obtain ⟨total, consec⟩ := s.begin.countFault_counts c e p
    obtain ⟨ptotal, pconsec⟩ := dcls_part hc
    refine ⟨_, exec_deadlineFault_eq s c e p, ?_⟩
    simp only [State.after_get, State.after_frame]
    rw [w.get, w.get, w.get, w.get (by rw [ptotal]; decide), w.get (by rw [pconsec]; decide), cls, eng, frm, total, consec]
    exact ⟨rfl, rfl, rfl, rfl, fun first => if_neg (Bool.eq_false_iff.1 first), fun again => if_pos again, late, radio, tick⟩
  · exact ⟨_, exec_curatorFault_eq s k, s.begin.curatorFault_parts hk dead halted recovery basic run⟩
  · have go : (decide (2 ≤ k) || (s.begin.core k).running ||
        (decide (k = 1) && decide (s.begin.upd.kind = 1) && decide (s.begin.upd.stage = 2))) = false := by
      rw [show (s.begin.core k).running = false from out, not_updating (s := s.begin) idle]
      simp; omega
    have eq : s.begin.curatorReady k = (s.begin.setCore k { s.core k with running := true, ready := true }).unmask k := by
      unfold State.curatorReady
      rw [go]; rfl
    refine ⟨_, exec_curatorReady_eq s k, ?_⟩
    rw [eq]
    refine ⟨?_, rfl, rfl⟩
    exact congrArg CoreSt.running (s.begin.core_setCore _)
  · have go : (decide (2 ≤ k) || (s.begin.core k).running ||
        (decide (k = 1) && decide (s.begin.upd.kind = 1) && decide (s.begin.upd.stage = 2)) ||
        !s.begin.past ((s.begin.core k).faultAt + 1500000000)) = false := by
      rw [show (s.begin.core k).running = false from out, not_updating (s := s.begin) idle,
        show s.begin.past ((s.begin.core k).faultAt + 1500000000) = true from due]
      simp; omega
    have eq : s.begin.curatorTimeout k = (s.begin.setCore k { s.core k with faultAt := s.mono }).sideband k := by
      unfold State.curatorTimeout
      rw [go]; rfl
    have w := within_sideband (s.begin.setCore k { s.core k with faultAt := s.mono }) k
    have core : ((s.begin.setCore k { s.core k with faultAt := s.mono }).sideband k).core k = { s.core k with faultAt := s.mono } :=
      (State.core_of_frame w.cores k).trans (s.begin.core_setCore _)
    refine ⟨_, exec_curatorRestartTimeout_eq s k, ?_⟩
    rw [eq]
    exact ⟨(congrArg CoreSt.faultAt core :), (congrArg CoreSt.running core :).trans out, (congrArg Gallery.masked (sideband_gal _ k) :)⟩

end Sys2Proof.Machine

/-!
### Mode commands (O12)

A command of SYS_CMD is judged on the state that it finds: freeing the status register and emptying the outputs touch nothing that the judgement reads.
-/
namespace Sys2Proof.Machine

/-- The commands of SYS_CMD with their codes and events. -/
def sysCommands (who : Requester) (confirm : Nat) : List (Instr × Nat × ModeEv) :=
  [(.start who, 1, ModeEv.start), (.stop who, 2, .stop), (.halt who, 3, .halt), (.resume who, 4, .resume),
    (.enterBasic who, 5, .enterBasic), (.leaveBasic who, 6, .leaveBasic), (.recover who confirm, 7, .recover),
    (.restart who confirm, 8, .shutdown false), (.shutdown who confirm, 9, .shutdown true)]

/-- The confirmation that reaches SYS_CMD: a code that needs none carries 0. -/
def sysConfirmOf (code confirm : Nat) : Nat := if 7 ≤ code then confirm else 0

/-- Each command of SYS_CMD writes its code, and its event is that code's. -/
theorem sysCommands_spec {who : Requester} {c : Instr} {code confirm : Nat} {ev : ModeEv} (h : (c, code, ev) ∈ sysCommands who confirm)
    (s : State) : exec c s = .next (s.after (s.begin.sysCmdRow who code (sysConfirmOf code confirm))) ∧
      sysEvent code = some ev ∧ 1 ≤ code ∧ code ≤ 9 := by
  simp only [sysCommands, List.mem_cons, Prod.mk.injEq, List.not_mem_nil, or_false] at h
  rcases h with ⟨rfl, rfl, rfl⟩ | ⟨rfl, rfl, rfl⟩ | ⟨rfl, rfl, rfl⟩ | ⟨rfl, rfl, rfl⟩ | ⟨rfl, rfl, rfl⟩ | ⟨rfl, rfl, rfl⟩ |
    ⟨rfl, rfl, rfl⟩ | ⟨rfl, rfl, rfl⟩ | ⟨rfl, rfl, rfl⟩ <;> exact ⟨rfl, rfl, by decide, by decide⟩

/-- The code and status that SYS_CMD_STAT shows, and the answer to the requester. -/
def State.sysAnswered (s : State) (who : Requester) (code st : Nat) : State :=
  (s.cmdStat F.SYS_CMD_STAT_CODE F.SYS_CMD_STAT_STATUS code st).reply who st

theorem State.sysAnswered_code (s : State) (who : Requester) {code : Nat} (st : Nat) (h : code ≤ 9) :
    (s.sysAnswered who code st).get F.SYS_CMD_STAT_CODE = code := by
  unfold State.sysAnswered State.cmdStat
  rw [State.reply_get, State.get_put_ne _ _ _ _ (by decide), State.get_put_self]
  exact Nat.mod_eq_of_lt (lt_of_le_of_lt h (by decide))

theorem State.sysAnswered_status (s : State) (who : Requester) (code : Nat) {st : Nat} (h : st < 65536) :
    (s.sysAnswered who code st).get F.SYS_CMD_STAT_STATUS = st := by
  unfold State.sysAnswered State.cmdStat
  rw [State.reply_get, State.get_put_self]
  exact Nat.mod_eq_of_lt (lt_of_lt_of_le h (by decide))

@[simp] theorem State.sysAnswered_mode (s : State) (who : Requester) (code st : Nat) : (s.sysAnswered who code st).mode = s.mode :=
  State.reply_mode ..

@[simp] theorem State.sysAnswered_phase (s : State) (who : Requester) (code st : Nat) : (s.sysAnswered who code st).phase = s.phase :=
  State.reply_phase ..

@[simp] theorem State.sysAnswered_waiting (s : State) (who : Requester) (code st : Nat) : (s.sysAnswered who code st).frame = s.frame :=
  State.reply_frame ..

/-- A command that its requester may not give is refused with nothing done. -/
theorem State.sysCmdRow_of_no_access (s : State) (who : Requester) (code confirm : Nat) (h : s.sysAccess who code = false) :
    s.sysCmdRow who code confirm = s.reply who St.access := by
  unfold State.sysCmdRow State.sysCommand
  simp [h]

/-- A command whose confirmation is missing, or which the judgement refuses, answers that status. -/
theorem State.sysCmdRow_refused (s : State) (who : Requester) (code confirm : Nat) {st : Nat} {ev : ModeEv}
    (may : s.sysAccess who code = true) (hev : sysEvent code = some ev)
    (h : (sysConfirms code && decide (confirm ≠ confirmValue)) = true ∧ st = St.confirm ∨
      (sysConfirms code && decide (confirm ≠ confirmValue)) = false ∧ s.freeSysStat.sysJudge ev = some st) :
    s.sysCmdRow who code confirm = s.freeSysStat.sysAnswered who code st := by
  unfold State.sysCmdRow State.sysCommand State.sysRequest State.sysAnswered
  rcases h with ⟨hc, rfl⟩ | ⟨hc, hj⟩ <;> simp only [may, hev, hc] <;> simp [*]

/-- A command that the judgement accepts asks for its event and is PENDING. -/
theorem State.sysCmdRow_accepted (s : State) (who : Requester) (code confirm : Nat) {ev : ModeEv}
    (may : s.sysAccess who code = true) (hev : sysEvent code = some ev)
    (hc : (sysConfirms code && decide (confirm ≠ confirmValue)) = false) (hj : s.freeSysStat.sysJudge ev = none) :
    s.sysCmdRow who code confirm =
      (s.freeSysStat.modeReq ev (.command sysStat)).sysAnswered who code St.pending := by
  unfold State.sysCmdRow State.sysCommand State.sysRequest State.sysAnswered
  simp only [may, hev, hc, hj, Bool.not_true, Bool.false_eq_true, if_false]

/-- Freeing the status register re-addresses the waiting events and adds none. -/
theorem State.freeSysStat_modeReqs_length (s : State) : s.freeSysStat.frame.modeReqs.length = s.frame.modeReqs.length :=
  List.length_map ..

/-- Answering a command changes SYS_CMD_STAT and the outputs. -/
theorem State.sysAnswered_frame (s : State) (who : Requester) (code st : Nat) :
    { (s.sysAnswered who code st) with regs := s.regs, out := s.out } = s := by
  unfold State.sysAnswered
  rw [State.reply_eq]
  rfl

/-- Freeing the status register changes who waits for it. -/
theorem State.freeSysStat_frame (s : State) : { s.freeSysStat with frame := s.frame, wired := s.wired } = s := rfl

theorem State.freeSysStat_modeReq_frame (s : State) (ev : ModeEv) (o : Origin) :
    { (s.freeSysStat.modeReq ev o) with frame := s.frame, wired := s.wired } = s := rfl

/-- What a mode command leaves: the waiting events, SYS_CMD_STAT, the requests that wait for it and the answer are put aside. -/
theorem State.sysAnswered_begin_frame {s u : State} (who : Requester) (code st : Nat)
    (h : { u with frame := s.begin.frame, wired := s.begin.wired } = s.begin) :
    { (s.after (u.sysAnswered who code st)) with frame := s.frame, regs := s.regs, wired := s.wired, out := s.out } = s := by
  calc { (s.after (u.sysAnswered who code st)) with frame := s.frame, regs := s.regs, wired := s.wired, out := s.out }
    _ = { { (u.sysAnswered who code st) with regs := u.regs, out := u.out } with
            frame := s.frame, regs := s.regs, wired := s.wired, out := s.out, pending := s.pending, mem := s.mem } := rfl
    _ = { { u with frame := s.begin.frame, wired := s.begin.wired } with
            regs := s.regs, out := s.out, pending := s.pending, mem := s.mem } := by
          rw [State.sysAnswered_frame]; rfl
    _ = s := by rw [h]; rfl

/-- The judgement reads nothing that freeing the status register or emptying the outputs changes. -/
theorem State.sysJudge_begin_free (s : State) (ev : ModeEv) : s.begin.freeSysStat.sysJudge ev = s.sysJudge ev := by
  cases ev <;> rfl

theorem State.sysJudge_eq_none {s : State} {ev : ModeEv} (up : s.live = true) (life : s.lifeAllows ev = true)
    (mode : s.modeAllows ev = true)
    (start : ev = .start → s.prog.pkg.isSome = true ∧ (s.get F.FRM_STAT_ALIGNED ≠ 0 ∨ s.get F.SYS_BOOT_RUN_UNALIGNED ≠ 0))
    (leave : ev = .leaveBasic → s.get F.SYS_MODE_CAUSE ∉ [3, 4, 7] ∧ s.coresRun = true) : s.sysJudge ev = none := by
  unfold State.sysJudge
  simp only [up, life, mode, Bool.not_true, Bool.or_self, Bool.false_eq_true, if_false]
  cases ev with
  | start =>
    obtain ⟨pkg, al⟩ := start rfl
    have hp : s.prog.pkg.isNone = false := by cases hq : s.prog.pkg <;> simp_all
    simp only [hp, Bool.false_eq_true, if_false, State.aligned, State.flag_eq]
    rcases al with al | al <;> simp [al]
  | leaveBasic =>
    obtain ⟨cause, run⟩ := leave rfl
    simp only [List.mem_cons, List.not_mem_nil, or_false, not_or] at cause
    simp [cause, run]
  | _ => rfl

theorem State.sysJudge_eq_some {s : State} {ev : ModeEv} {st : Nat}
    (h : (s.lifeAllows ev = false ∧ st = St.lifecycle) ∨
      (s.lifeAllows ev = true ∧ (s.live = false ∨ s.modeAllows ev = false) ∧ st = St.mode) ∨
      (s.lifeAllows ev = true ∧ s.live = true ∧ s.modeAllows ev = true ∧ ev = .start ∧ s.prog.pkg = none ∧ st = St.noProgram)) :
    s.sysJudge ev = some st := by
  unfold State.sysJudge
  rcases h with ⟨life, rfl⟩ | ⟨life, no | no, rfl⟩ | ⟨life, up, mode, rfl, pkg, rfl⟩
  · simp [life]
  · simp [life, no]
  · simp [life, no]
  · simp [life, up, mode, pkg]

theorem sysConfirmOf_missing {code confirm : Nat} (h : 1 ≤ code ∧ code ≤ 9) :
    (sysConfirms code && decide (sysConfirmOf code confirm ≠ confirmValue)) = decide (7 ≤ code ∧ confirm ≠ 0x5AFE) := by
  unfold sysConfirms sysConfirmOf
  by_cases h7 : 7 ≤ code <;> simp [h7, h.2, confirmValue]

/-- R531 and R142 in the statement's terms. -/
theorem State.sysAccess_of_role {s : State} {who : Requester} {code : Nat}
    (h : if code = 3 ∨ code = 4 then s.debugOk who = true else 2 ≤ s.roleOf who) : s.begin.sysAccess who code = true := by
  show s.sysAccess who code = true
  unfold State.sysAccess
  split at h <;> simp_all

theorem sysEvent_start {code : Nat} {ev : ModeEv} (h : sysEvent code = some ev) : ev = .start ↔ code = 1 := by
  unfold sysEvent at h
  split at h <;> simp_all <;> subst h <;> simp

theorem sysEvent_leave {code : Nat} {ev : ModeEv} (h : sysEvent code = some ev) : ev = .leaveBasic ↔ code = 6 := by
  unfold sysEvent at h
  split at h <;> simp_all <;> subst h <;> simp

/-- The accepted commands. -/
theorem modeCommand_pending (s : State) (who : Requester) (c : Instr) (code confirm : Nat) (ev : ModeEv)
    (hc : (c, code, ev) ∈ sysCommands who confirm)
    (role : if code = 3 ∨ code = 4 then s.debugOk who = true else 2 ≤ s.roleOf who) (conf : 7 ≤ code → confirm = 0x5AFE)
    (hj : s.sysJudge ev = none) :
    ∃ t, exec c s = .next t ∧ t.get F.SYS_CMD_STAT_CODE = code ∧ t.get F.SYS_CMD_STAT_STATUS = St.pending ∧
      t.frame.modeReqs.getLast? = some { ev := ev, by_ := .command sysStat, at_ := s.num } ∧
      t.frame.modeReqs.length = s.frame.modeReqs.length + 1 ∧ t.mode = s.mode ∧ t.phase = s.phase ∧
      { t with frame := s.frame, regs := s.regs, wired := s.wired, out := s.out } = s := by
  obtain ⟨run, hev, lo, hi⟩ := sysCommands_spec hc s
  have missing : decide (7 ≤ code ∧ confirm ≠ 0x5AFE) = false := by simp; exact conf
  have eq := s.begin.sysCmdRow_accepted who code (sysConfirmOf code confirm) (State.sysAccess_of_role role) hev
    ((sysConfirmOf_missing ⟨lo, hi⟩).trans missing) ((s.sysJudge_begin_free ev).trans hj)
  set u := s.begin.freeSysStat.modeReq ev (.command sysStat) with hu
  refine ⟨_, run, ?_⟩
  rw [eq]
  simp only [State.after_get, State.after_frame, State.after_mode, State.after_phase, State.sysAnswered_mode,
    State.sysAnswered_phase, State.sysAnswered_waiting]
  refine ⟨u.sysAnswered_code who _ hi, u.sysAnswered_status who _ (by decide), List.getLast?_concat .., ?_, rfl, rfl, ?_⟩
  · exact (List.length_append ..).trans (congrArg (· + 1) s.freeSysStat_modeReqs_length)
  · exact State.sysAnswered_begin_frame (s := s) (u := u) who code St.pending (s.begin.freeSysStat_modeReq_frame ev _)

/-- The refused commands. -/
theorem modeCommand_refused (s : State) (who : Requester) (c : Instr) (code confirm st : Nat) (ev : ModeEv)
    (hc : (c, code, ev) ∈ sysCommands who confirm)
    (role : if code = 3 ∨ code = 4 then s.debugOk who = true else 2 ≤ s.roleOf who) (small : st < 65536)
    (h : (7 ≤ code ∧ confirm ≠ 0x5AFE ∧ st = St.confirm) ∨ ((7 ≤ code → confirm = 0x5AFE) ∧ s.sysJudge ev = some st)) :
    ∃ t, exec c s = .next t ∧ t.get F.SYS_CMD_STAT_CODE = code ∧ t.get F.SYS_CMD_STAT_STATUS = st ∧
      t.out = [⟨.value, [(who.key : Int), st]⟩] ∧ t.frame.modeReqs.length = s.frame.modeReqs.length ∧
      { t with frame := s.frame, regs := s.regs, wired := s.wired, out := s.out } = s := by
  obtain ⟨run, hev, lo, hi⟩ := sysCommands_spec hc s
  have eq := s.begin.sysCmdRow_refused who code (sysConfirmOf code confirm) (st := st) (State.sysAccess_of_role role) hev (by
    rw [sysConfirmOf_missing ⟨lo, hi⟩, s.sysJudge_begin_free ev]
    rcases h with ⟨h7, bad, rfl⟩ | ⟨good, hj⟩
    · exact .inl ⟨by simp [h7, bad], rfl⟩
    · exact .inr ⟨by simp; exact good, hj⟩)
  set u := s.begin.freeSysStat with hu
  refine ⟨_, run, ?_⟩
  rw [eq]
  simp only [State.after_get, State.after_frame, State.after_out, State.sysAnswered_waiting]
  refine ⟨u.sysAnswered_code who _ hi, u.sysAnswered_status who _ small, (State.reply_out ..).trans ?_,
    s.begin.freeSysStat_modeReqs_length, ?_⟩
  · rfl
  · exact State.sysAnswered_begin_frame who code _ s.begin.freeSysStat_frame

theorem modeCommand_no_access (s : State) (who : Requester) (c : Instr) (confirm : Nat)
    (hc : c ∈ [.start who, .stop who, .enterBasic who, .leaveBasic who, .recover who confirm, .restart who confirm,
      .shutdown who confirm]) (role : s.roleOf who < 2) :
    ∃ t, exec c s = .next t ∧ t.out = [⟨.value, [(who.key : Int), St.access]⟩] ∧ { t with out := s.out } = s := by
  obtain ⟨code, ev, hm, h3, h4⟩ : ∃ code ev, (c, code, ev) ∈ sysCommands who confirm ∧ code ≠ 3 ∧ code ≠ 4 := by
    simp only [List.mem_cons, List.not_mem_nil, or_false] at hc
    rcases hc with rfl | rfl | rfl | rfl | rfl | rfl | rfl
    · exact ⟨1, .start, by simp [sysCommands]⟩
    · exact ⟨2, .stop, by simp [sysCommands]⟩
    · exact ⟨5, .enterBasic, by simp [sysCommands]⟩
    · exact ⟨6, .leaveBasic, by simp [sysCommands]⟩
    · exact ⟨7, .recover, by simp [sysCommands]⟩
    · exact ⟨8, .shutdown false, by simp [sysCommands]⟩
    · exact ⟨9, .shutdown true, by simp [sysCommands]⟩
  have no : s.begin.sysAccess who code = false := by
    show s.sysAccess who code = false
    unfold State.sysAccess
    simp [h3, h4]; omega
  refine ⟨_, (sysCommands_spec hm s).1, ?_⟩
  rw [State.sysCmdRow_of_no_access _ _ _ _ no, State.reply_eq]
  exact ⟨rfl, rfl⟩

/-- Settles O12: a command is refused by access, then by its confirmation, then by the judgement; what is left is PENDING. -/
theorem modeCommandsWaitForTheirBoundary : Obligations.ModeCommandsWaitForTheirBoundary := by
  unfold Obligations.ModeCommandsWaitForTheirBoundary
  refine ⟨fun s who c code confirm ev hc role conf up life mode start leave => ?_,
    fun s who c confirm hc role => modeCommand_no_access s who c confirm hc role,
    fun s who c code confirm st ev hc role h => ?_, fun s up mode => ?_⟩
  · obtain ⟨-, hev, -⟩ := sysCommands_spec hc s
    exact modeCommand_pending s who c code confirm ev hc role conf
      (State.sysJudge_eq_none up life mode (fun e => start ((sysEvent_start hev).1 e)) (fun e => leave ((sysEvent_leave hev).1 e)))
  · obtain ⟨-, hev, -⟩ := sysCommands_spec hc s
    have small : st < 65536 := by
      rcases h with ⟨-, -, rfl⟩ | ⟨-, ⟨-, rfl⟩ | ⟨-, -, rfl⟩ | ⟨-, -, -, -, -, rfl⟩⟩ <;> decide
    refine modeCommand_refused s who c code confirm st ev hc role small (h.imp_right fun ⟨conf, why⟩ => ⟨conf, ?_⟩)
    refine State.sysJudge_eq_some (why.imp_right (Or.imp_right fun ⟨life, up, mode, one, pkg, e⟩ => ?_))
    exact ⟨life, up, mode, (sysEvent_start hev).2 one, pkg, e⟩
  · have judge : s.begin.sysJudge (.shutdown true) = none :=
      State.sysJudge_eq_none (s := s.begin) (ev := .shutdown true) up rfl (decide_eq_true mode)
        (fun e => nomatch e) (fun e => nomatch e)
    refine ⟨_, (rfl : exec .shdnReqFall s = .next (s.after s.begin.shdnFall)), ?_⟩
    unfold State.shdnFall
    rw [judge]
    exact ⟨rfl, rfl⟩

end Sys2Proof.Machine

/-! ### Commit deadlines, breakpoints, STEP and retained saves (O13) -/
namespace Sys2Proof.Machine

theorem exec_commitDeadline_eq (s : State) : exec .commitDeadline s = .next (s.after s.begin.commitDeadline) := rfl

theorem exec_breakpointHit_eq (s : State) (k b : Nat) : exec (.breakpointHit k b) s = .next (s.after (s.begin.breakpointHit k b)) := rfl

theorem exec_retainedSave_eq (s : State) (cut : Option Nat) :
    exec (.retainedSave cut) s = .next (s.after (s.begin.retainedSave cut)) := rfl

theorem exec_step_eq (s : State) (who : Requester) :
    exec (.step who) s = .next (s.after ((s.begin.stepCmd who).1.reply who (s.begin.stepCmd who).2)) := rfl

/-! ### The commit deadline (R133) -/

/-- What the commit deadline of a cycle asks for. -/
structure State.AtDeadline (s : State) : Prop where
  live : s.live = true
  run : s.mode = .run
  begun : s.prog.begun = true
  noHit : s.prog.hit = none
  open_ : s.prog.deadlinePast = false
  notDeferred : s.prog.deferred = false
  last : (s.num + 1) % s.cycLen = 0 ∨ s.frame.transitional = true

theorem State.AtDeadline.commitDeadline_eq {s : State} (h : s.AtDeadline) :
    s.commitDeadline =
      if (s.atNs s.commitNs).allEnded then (s.atNs s.commitNs).cycleOnTime
      else if s.frame.transitional then (s.atNs s.commitNs).modProg fun p => { p with deadlinePast := true }
      else ((s.atNs s.commitNs).modProg fun p => { p with deadlinePast := true }).deadlineFault 0
        (2 + ((List.range 4).find? fun k => (s.atNs s.commitNs).hasSect k && !((s.atNs s.commitNs).sect k).ended).getD 0) 0 := by
  have go : (!s.live || decide (s.mode ≠ .run) || !s.prog.begun || s.prog.hit.isSome || s.prog.deadlinePast || s.prog.deferred
      || (decide ((s.num + 1) % s.cycLen ≠ 0) && !s.frame.transitional)) = false := by
    have hl := h.last
    simp only [h.live, h.run, h.begun, h.noHit, h.open_, h.notDeferred]
    rcases hl with e | e <;> simp [e]
  unfold State.commitDeadline
  rw [go]
  rfl

theorem State.cycleOnTime_skipRun (s : State) : s.cycleOnTime.prog.skipRun = 0 ∧ s.cycleOnTime.prog.deadlinePast = s.prog.deadlinePast := by
  have kept : ∀ u : State, (u.classOnTime 0).prog = u.prog := by
    intro u
    unfold State.classOnTime
    dsimp only
    split
    · rfl
    · exact State.log_prog ..
  unfold State.cycleOnTime
  dsimp only
  rw [kept]
  split
  · next h => exact ⟨h, rfl⟩
  · simp

theorem State.cycleOnTime_consec (s : State) : s.cycleOnTime.get (F.FRM_DCLS_CONSEC_CONSEC.at 0) = 0 := by
  unfold State.cycleOnTime State.classOnTime
  exact (State.get_put_self ..).trans (Nat.zero_mod _)

/-- The engine of a CYCLE fault is that of a section. -/
theorem find_sect_lt (p : Nat → Bool) : 2 + ((List.range 4).find? p).getD 0 < 32 := by
  cases h : (List.range 4).find? p with
  | none => decide
  | some k =>
    have := List.mem_range.1 (List.mem_of_find?_eq_some h)
    show 2 + k < 32
    omega

/-! ### STEP (R140) -/

/-- SWP as a debugger steps it. -/
theorem State.stepSect_swp {s : State} {k : Nat} (live : s.live = true) (hold : s.mode = .hold) (begun : s.prog.begun = true)
    (has : s.hasSect k = true) (running : (s.sect k).ended = false) (hk : k < s.prog.sects.length)
    (word : (s.code k)[(s.sect k).pc]? = some (opWord 0x1B 2 0)) (next : s.hasNext k) :
    s.begin.stepSect k = ((s.onward k).mSwp k, St.done) := by
  have acted : Charged k ((s.onward k).modSect k fun x => { x with wa := x.wb, wb := x.wa }) ((s.onward k).mSwp k) :=
    State.charged_regInstr ..
  have core : (((s.onward k).mSwp k).sect k).core =
      { (s.sect k).core with wa := (s.sect k).wb, wb := (s.sect k).wa, pc := (s.sect k).pc + 1 } := by
    rw [acted.core, State.sect_modSect _ _ (by simpa using hk), s.onward_sect hk]
    rfl
  have code : ((s.onward k).mSwp k).code k = s.code k := State.code_of_pkg acted.pkg k
  have pc : (((s.onward k).mSwp k).sect k).pc = (s.sect k).pc + 1 := congrArg Sect.pc core
  have stays : s.begin.advance k (fun s => s.mSwp k) = (s.onward k).mSwp k := by
    show (if !(((s.onward k).mSwp k).sect k).ended && decide ((((s.onward k).mSwp k).code k).length ≤ (((s.onward k).mSwp k).sect k).pc)
      then ((s.onward k).mSwp k).trapAt k 5 (((s.onward k).mSwp k).sect k).pc else (s.onward k).mSwp k) = _
    rw [code, pc, if_neg]
    simp [Nat.not_le.2 next]
  have go : (!s.begin.live || decide (s.begin.mode ≠ .hold) || !s.begin.prog.begun) = false := by
    show (!s.live || decide (s.mode ≠ .hold) || !s.prog.begun) = false
    simp [live, hold, begun]
  unfold State.stepSect
  rw [go, if_neg (by decide), if_neg (by rw [show s.begin.hasSect k = true from has]; decide),
    if_neg (by rw [show (s.begin.sect k).ended = false from running]; decide),
    show (s.begin.code k)[(s.begin.sect k).pc]? = some (opWord 0x1B 2 0) from word]
  exact congrArg (·, St.done) stays

theorem State.stepCmd_eq {s : State} {who : Requester} (may : s.debugOk who = true) :
    s.begin.stepCmd who = s.begin.stepSect (s.get F.PLX_DBG_SECT) := by
  unfold State.stepCmd
  rw [show s.begin.debugOk who = true from may]
  rfl

/-! ### Retained saves (R145) -/

theorem RetCopy.ok_whole (n : Nat) (w : SMap Nat) (f : Bool) : (RetCopy.whole n w f).ok = true := by
  simp [RetCopy.ok, RetCopy.whole]

/-- A copy goes to one half of the region, and the other half stands. -/
theorem Prog.putCopy_cases (p : Prog) (c : RetCopy) :
    p.putCopy c = { p with ret0 := c } ∨ p.putCopy c = { p with ret1 := c } := by
  unfold Prog.putCopy
  extract_lets first
  cases first
  · exact .inr rfl
  · exact .inl rfl

/-- Settles O13: the deadline by whether the cycle has ended, the halt, the step and the save each by its own rule. -/
theorem cyclesEndHaltAndSave : Obligations.CyclesEndHaltAndSave := by
  unfold Obligations.CyclesEndHaltAndSave
  refine ⟨fun s live run begun hit past deferred steady last ended => ?_, fun s live run begun hit past deferred steady last late => ?_,
    fun s live run begun hit past deferred trans late => ?_, fun s k b live run begun hit hk hb st ended brk en addr => ?_,
    fun s who k w may live hold begun hd has ended hk word next hw => ?_, fun s who k may live hold begun hd has ended => ?_,
    fun s due => ?_, fun s n due => ?_⟩
  · have h : s.begin.AtDeadline := ⟨live, run, begun, hit, past, deferred, .inl last⟩
    refine ⟨_, exec_commitDeadline_eq s, ?_⟩
    rw [h.commitDeadline_eq, if_pos (show (s.begin.atNs s.begin.commitNs).allEnded = true from ended)]
    obtain ⟨skip, dl⟩ := (s.begin.atNs s.begin.commitNs).cycleOnTime_skipRun
    simp only [State.after_prog, State.after_get]
    exact ⟨skip, dl.trans past, State.cycleOnTime_consec _⟩
  · have h : s.begin.AtDeadline := ⟨live, run, begun, hit, past, deferred, .inl last⟩
    refine ⟨_, exec_commitDeadline_eq s, ?_⟩
    rw [h.commitDeadline_eq, if_neg (by rw [show (s.begin.atNs s.begin.commitNs).allEnded = false from late]; decide),
      if_neg (by rw [show s.begin.frame.transitional = false from steady]; decide)]
    set u := (s.begin.atNs s.begin.commitNs).modProg fun p => { p with deadlinePast := true } with hu
    have faults : u.classFaults 0 = true := by
      unfold State.classFaults
      rw [show u.mode = .run from run]
      rfl
    generalize he : 2 + ((List.range 4).find? fun k => (s.begin.atNs s.begin.commitNs).hasSect k &&
      !((s.begin.atNs s.begin.commitNs).sect k).ended).getD 0 = e
    have small : e < 32 := he ▸ find_sect_lt _
    obtain ⟨w, counted, -⟩ := u.deadlineFault_parts (c := 0) e 0 (.inl live) steady (by decide) faults
    have cls := (u.countFault_dlast 0 (by decide : 0 < 9) small).1
    have prog : ∀ {α : Type} (p : Prog → α), (∀ x : Prog, p x.noSlots = p x) →
        p (u.deadlineFault 0 e 0).prog = p (u.countFault 0 e 0).prog := fun p hp => w.prog_proj p hp
    have same : (u.countFault 0 e 0).prog = u.prog := by
      unfold State.countFault
      dsimp only
      split <;> simp
    simp only [State.after_prog, State.after_get, State.after_frame]
    refine ⟨?_, ?_, counted, ?_, ?_⟩
    · rw [prog (·.deadlinePast) fun _ => rfl, same]; rfl
    · rw [w.get, cls]
    · rw [prog (·.begun) fun _ => rfl, same]; exact begun
    · rw [prog (·.areas) fun _ => rfl, same]; rfl
  · have h : s.begin.AtDeadline := ⟨live, run, begun, hit, past, deferred, .inr trans⟩
    refine ⟨_, exec_commitDeadline_eq s, ?_⟩
    rw [h.commitDeadline_eq, if_neg (by rw [show (s.begin.atNs s.begin.commitNs).allEnded = false from late]; decide),
      if_pos (show s.begin.frame.transitional = true from trans)]
    exact ⟨rfl, rfl, rfl⟩
  · have go : (!s.begin.live || decide (s.begin.mode ≠ .run) || !s.begin.prog.begun || s.begin.prog.hit.isSome ||
        decide ((s.begin.sect k).st ≠ .executing) || (s.begin.sect k).ended || decide (8 ≤ b) || decide (4 ≤ k) ||
        (s.begin.sect k).passBrk || !s.begin.flag (F.PLX_BRK_EN.at2 k b) ||
        decide (s.begin.get (F.PLX_BRK_ADDR.at2 k b) ≠ (s.begin.sect k).pc)) = false := by
      show (!s.live || decide (s.mode ≠ .run) || !s.prog.begun || s.prog.hit.isSome ||
        decide ((s.sect k).st ≠ .executing) || (s.sect k).ended || decide (8 ≤ b) || decide (4 ≤ k) ||
        (s.sect k).passBrk || !s.flag (F.PLX_BRK_EN.at2 k b) || decide (s.get (F.PLX_BRK_ADDR.at2 k b) ≠ (s.sect k).pc)) = false
      simp [live, run, begun, hit, st, ended, brk, en, addr]
      omega
    refine ⟨_, exec_breakpointHit_eq s k b, ?_⟩
    unfold State.breakpointHit
    dsimp only
    rw [go, if_neg (by decide)]
    refine ⟨rfl, rfl, fun x hx => ?_, rfl, rfl⟩
    obtain ⟨y, -, rfl⟩ := List.mem_map.1 (show x ∈ s.prog.sects.map _ from hx)
    by_cases e : y.st = .executing <;> simp [e]
  · subst hd hw
    refine ⟨_, exec_step_eq s who, ?_⟩
    rw [State.stepCmd_eq may, State.stepSect_swp live hold begun has ended hk word next]
    have acted : State.Charged (s.get F.PLX_DBG_SECT) ((s.onward (s.get F.PLX_DBG_SECT)).modSect (s.get F.PLX_DBG_SECT)
        fun x => { x with wa := x.wb, wb := x.wa }) ((s.onward (s.get F.PLX_DBG_SECT)).mSwp (s.get F.PLX_DBG_SECT)) :=
      State.charged_regInstr ..
    rw [State.reply_eq]
    refine ⟨?_, rfl⟩
    refine Eq.trans (acted.core :) ?_
    rw [State.sect_modSect _ _ (by simpa using hk), s.onward_sect hk]
    rfl
  · subst hd
    have answer : s.begin.stepSect (s.get F.PLX_DBG_SECT) = (s.begin, St.done) := by
      have go : (!s.begin.live || decide (s.begin.mode ≠ .hold) || !s.begin.prog.begun) = false := by
        show (!s.live || decide (s.mode ≠ .hold) || !s.prog.begun) = false
        simp [live, hold, begun]
      unfold State.stepSect
      rw [go, if_neg (by decide), if_neg (by rw [show s.begin.hasSect _ = true from has]; decide),
        if_pos (show (s.begin.sect _).ended = true from ended)]
    refine ⟨_, exec_step_eq s who, ?_⟩
    rw [State.stepCmd_eq may, answer, State.reply_eq]
    exact ⟨rfl, rfl⟩
  · refine ⟨_, exec_retainedSave_eq s none, ?_⟩
    have due' : (!s.begin.prog.saveDue) = false := by rw [show s.begin.prog.saveDue = true from due]; rfl
    unfold State.retainedSave
    rw [due', if_neg (by decide)]
    dsimp only
    have proj : ∀ {α : Type} (p : Prog → α), (∀ x : Prog, p x.noSlots = p x) → ∀ u : State,
        p (u.finishAll s.begin.prog.saveBy St.done).prog = p u.prog := fun p hp u =>
        (within_finishAll (D := finishParts) u _ _ fun _ h => h).prog_proj p hp
    simp only [State.after_prog]
    rw [proj (·.saveDue) fun _ => rfl, proj (·.saveBy) fun _ => rfl, proj (fun p => [p.ret0, p.ret1]) fun _ => rfl]
    refine ⟨rfl, rfl, RetCopy.whole s.prog.saveCount s.prog.saveWords false, ?_, RetCopy.ok_whole _ _ _, rfl, rfl, rfl⟩
    rcases s.prog.putCopy_cases (RetCopy.whole s.prog.saveCount s.prog.saveWords false) with e | e
    all_goals simp [e]
  · refine ⟨_, exec_retainedSave_eq s (some n), ?_⟩
    have due' : (!s.begin.prog.saveDue) = false := by rw [show s.begin.prog.saveDue = true from due]; rfl
    unfold State.retainedSave
    rw [due', if_neg (by decide)]
    simp only [State.after_prog, State.modProg_prog, State.begin_prog]
    rcases s.prog.putCopy_cases { valid := false, words := s.prog.saveWords.take n } with e | e
    · rw [e]; exact ⟨.inr rfl, due⟩
    · rw [e]; exact ⟨.inl rfl, due⟩

end Sys2Proof.Machine

/-!
### Answers: what a caller is told, and what a host is sent

An answer reaches whoever waits for it: a ticket slot, or a session, whose responses leave at once or are held for the Follower (R203, R204, R530, R532,
R548).
-/
namespace Sys2Proof.Machine

/-! ### What is emitted has left or is held -/

theorem State.emitAt_sent (s : State) (due : Option Nat) (k : OutKind) (l : List Int) : (s.emitAt due k l).sent k l := by
  unfold State.emitAt State.sent
  split
  · exact .inr ⟨_, List.mem_append_right _ (List.mem_singleton.2 rfl), rfl⟩
  · exact .inl (List.mem_append_right _ (List.mem_singleton.2 rfl))

theorem State.emit_sent (s : State) (k : OutKind) (l : List Int) : (s.emit k l).sent k l := s.emitAt_sent none k l

/-- State t has sent all that s has. -/
structure State.Grows (s t : State) : Prop where
  out : ∀ o ∈ s.out, o ∈ t.out
  held : ∀ e ∈ s.spl.held, e ∈ t.spl.held

@[simp] theorem State.Grows.refl (s : State) : Grows s s := ⟨fun _ h => h, fun _ h => h⟩

theorem State.Grows.trans {s t u : State} (h : Grows s t) (k : Grows t u) : Grows s u :=
  ⟨fun o ho => k.out o (h.out o ho), fun e he => k.held e (h.held e he)⟩

theorem State.Grows.sent {s t : State} (h : Grows s t) {k : OutKind} {l : List Int} (hs : s.sent k l) : t.sent k l :=
  hs.imp (h.out _) fun ⟨e, he, eq⟩ => ⟨e, h.held e he, eq⟩

/-- What leaves the outputs and the held effects sends nothing and takes nothing back. -/
theorem State.grows_of_eq {s t : State} (ho : t.out = s.out) (hh : t.spl.held = s.spl.held) : Grows s t :=
  ⟨fun _ h => ho ▸ h, fun _ h => hh ▸ h⟩

theorem Within.grows {D : List Part} {s t : State} (h : Within D s t) (ho : .out ∉ D := by decide) (hh : .held ∉ D := by decide) :
    State.Grows s t := State.grows_of_eq (h.out ho) (h.same _ hh)

theorem State.grows_emitNow (s : State) (k : OutKind) (l : List Int) : Grows s (s.emitNow k l) :=
  ⟨fun _ h => List.mem_append_left _ h, fun _ h => h⟩

theorem State.grows_emitAt (s : State) (due : Option Nat) (k : OutKind) (l : List Int) : Grows s (s.emitAt due k l) := by
  unfold State.emitAt
  split
  · exact ⟨fun _ h => h, fun _ h => List.mem_append_left _ h⟩
  · exact s.grows_emitNow k l

theorem State.grows_emit (s : State) (k : OutKind) (l : List Int) : Grows s (s.emit k l) := s.grows_emitAt none k l

theorem State.grows_foldl {α : Type} {f : State → α → State} (hf : ∀ u x, Grows u (f u x)) (l : List α) (s : State) :
    Grows s (l.foldl f s) := by
  induction l generalizing s with
  | nil => exact .refl s
  | cons x l ih => exact (hf s x).trans (ih _)

/-! ### Sessions -/

/-- The number and the KIND of an entry of the window. -/
def SeqEntry.name (e : SeqEntry) : Nat × Nat := (e.seq, e.kind)

theorem trimCache_names (l : List SeqEntry) (n : Nat) : (trimCache l n).map SeqEntry.name = l.map SeqEntry.name := by
  induction l generalizing n with
  | nil => rfl
  | cons e l ih =>
    unfold trimCache
    split
    · exact congrArg (e.name :: ·) (ih n)
    · exact congrArg (e.name :: ·) (ih _)

theorem Session.kindOf_eq (x : Session) (q : Nat) :
    x.kindOf q = (((x.window.map SeqEntry.name).find? fun p => decide (p.1 = q)).map Prod.snd).getD 0 := by
  unfold Session.kindOf
  rw [List.find?_map, Option.map_map]
  rfl

/-- Ending a request keeps what the module writes to the host. -/
theorem Session.complete_head (x : Session) (q : Nat) (res : List Nat) :
    (x.complete q res).typ = x.typ ∧ (x.complete q res).peer = x.peer ∧ (x.complete q res).key = x.key ∧
      (x.complete q res).state = x.state := by
  unfold Session.complete
  split <;> exact ⟨rfl, rfl, rfl, rfl⟩

/-- A request keeps its KIND when it ends. -/
theorem Session.kindOf_complete (x : Session) (q : Nat) (res : List Nat) : (x.complete q res).kindOf q = x.kindOf q := by
  unfold Session.complete
  cases h : x.window.find? (fun e => decide (e.seq = q)) with
  | none => rfl
  | some e =>
    have hq : e.seq = q := by simpa using List.find?_some h
    have others : ((x.window.filter fun e => decide (e.seq ≠ q)).map SeqEntry.name).find? (fun p => decide (p.1 = q)) = none := by
      rw [List.find?_eq_none]
      intro p hp
      obtain ⟨a, ha, rfl⟩ := List.mem_map.1 hp
      show ¬decide (a.seq = q) = true
      simpa using (List.mem_filter.1 ha).2
    rw [Session.kindOf_eq]
    simp only [List.map_reverse, trimCache_names, List.reverse_reverse, List.map_append, List.map_singleton, List.find?_append, others]
    simp [SeqEntry.name, hq, Session.kindOf, h]

/-! ### What a host is sent -/

theorem State.grows_spiSend (s : State) (l : List Nat) : Grows s (s.spiSend l) := by
  unfold State.spiSend
  dsimp only
  split
  · exact s.grows_emit _ _
  · exact (State.grows_of_eq rfl rfl : Grows s (s.modWired _)).trans (State.grows_emitNow _ _ _)

theorem State.grows_hostSend (s : State) (c kind q st : Nat) (body : List Nat) : Grows s (s.hostSend c kind q st body) := by
  unfold State.hostSend
  split
  · exact .refl s
  · split
    · exact s.grows_spiSend _
    · exact s.grows_emit _ _

theorem State.spiSend_sent (s : State) (l : List Nat) : ⟨.spiReady, l.map Int.ofNat⟩ ∈ (s.spiSend l).out ∨
    ∃ e ∈ (s.spiSend l).spl.held, e.out = ⟨.spiReply, l.map Int.ofNat⟩ := by
  unfold State.spiSend
  dsimp only
  split
  · next h =>
    refine .inr ⟨⟨s.spl.serial, _, none⟩, ?_, rfl⟩
    unfold State.emit State.emitAt
    rw [if_pos (by simpa [heldKind] using h)]
    exact List.mem_append_right _ (List.mem_singleton.2 rfl)
  · exact .inl (List.mem_append_right _ (List.mem_singleton.2 rfl))

@[simp] theorem State.hostSend_session (s : State) (c kind q st : Nat) (body : List Nat) (d : Nat) :
    (s.hostSend c kind q st body).session d = s.session d := State.session_of_gal (State.hostSend_gal ..) d

/-- A message to the host of a session. -/
theorem State.hostSend_toHost (s : State) {c : Nat} {x : Session} (kind q st : Nat) (body : List Nat) (h : s.session c = some x) :
    (s.hostSend c kind q st body).toHost c kind q st body := by
  refine ⟨x, (s.hostSend_session ..).trans h, ?_⟩
  unfold State.hostSend
  rw [h]
  dsimp only
  split
  · exact s.spiSend_sent _
  · exact s.emit_sent _ _

/-- A later effect takes no message back from the host of a session that stands. -/
theorem State.toHost_of_grows {s t : State} {c kind q st : Nat} {body : List Nat} (g : Grows s t) (hc : t.session c = s.session c)
    (h : s.toHost c kind q st body) : t.toHost c kind q st body := by
  obtain ⟨x, hx, h⟩ := h
  refine ⟨x, hc.trans hx, ?_⟩
  split
  · next ht =>
    rw [if_pos ht] at h
    exact h.imp (g.out _) fun ⟨e, he, eq⟩ => ⟨e, g.held e he, eq⟩
  · next ht =>
    rw [if_neg ht] at h
    exact g.sent h

/-- The answer to a request of a session that stands. -/
theorem State.hostAnswer_answered (s : State) {c : Nat} {x : Session} (q st : Nat) (body : List Nat) (h : s.session c = some x) :
    (s.hostAnswer c q st body).answered c q st body := by
  unfold State.hostAnswer
  rw [h]
  dsimp only
  split
  · exact ⟨x, (s.hostSend_session ..).trans h, s.hostSend_toHost _ _ _ _ h⟩
  · have hs := s.session_setSession_self c (x.complete q (st :: body))
    refine ⟨_, (State.hostSend_session ..).trans hs, ?_⟩
    rw [x.kindOf_complete]
    exact State.hostSend_toHost _ _ _ _ _ hs

/-- The completion of a request of a session that stands and is not closing. -/
theorem State.sessionDone_toHost (s : State) {c : Nat} {x : Session} (q st : Nat) (body : List Nat) (h : s.session c = some x)
    (stands : x.state ≠ 3) : (s.sessionDone c q st body).toHost c kindComplete q st body := by
  unfold State.sessionDone
  rw [h]
  dsimp only
  rw [if_pos (by rw [(x.complete_head q _).2.2.2]; exact stands)]
  exact State.hostSend_toHost _ _ _ _ _ (s.session_setSession_self c _)

/-! ### Ticket slots -/

theorem SMap.getD_insert_self {α : Type} (m : SMap α) (i : Nat) (x d : α) : SMap.getD (SMap.insert m i x) i d = x := by
  rw [SMap.getD, SMap.get?_insert_self]
  rfl

theorem SMap.getD_insert_ne {α : Type} (m : SMap α) {i j : Nat} (x d : α) (h : j ≠ i) :
    SMap.getD (SMap.insert m i x) j d = SMap.getD m j d := by
  rw [SMap.getD, SMap.get?_insert_ne _ _ _ _ h]
  rfl

/-- Slot j of section k. -/
def State.ticket (s : State) (k j : Nat) : Slot := SMap.getD (s.sect k).slots j {}

theorem State.ticket_modSlot (s : State) {k : Nat} (j : Nat) (f : Slot → Slot) (hk : k < s.prog.sects.length) :
    (s.modSect k fun x => x.modSlot j f).ticket k j = f (s.ticket k j) := by
  unfold State.ticket
  rw [s.sect_modSect _ hk]
  exact SMap.getD_insert_self ..

theorem State.ticket_modSlot_ne (s : State) {k : Nat} {j i : Nat} (f : Slot → Slot) (hk : k < s.prog.sects.length) (h : i ≠ j) :
    (s.modSect k fun x => x.modSlot j f).ticket k i = s.ticket k i := by
  unfold State.ticket
  rw [s.sect_modSect _ hk]
  exact SMap.getD_insert_ne _ _ _ h

/-! ### Who can be told -/

/-- A caller whom an answer reaches. -/
def State.canTell (s : State) (o : Origin) : Prop :=
  match o with
  | .program k j n => k < s.prog.sects.length ∧ (s.ticket k j).serial = n ∧ (s.ticket k j).st = .issued
  | .host c _ => ∃ x, s.session c = some x
  | _ => False

theorem State.canCall.canTell {s : State} {o : Origin} {code : Nat} (h : s.canCall o code) : s.canTell o := by
  obtain ⟨-, -, -, h⟩ := h
  cases o with
  | host c q => obtain ⟨x, hx, -⟩ := h; exact ⟨x, hx⟩
  | program k j n => exact h
  | quiet | command a => exact h

/-- A slot that ends. -/
def Slot.ended (y : Slot) (n st : Nat) (res : List Nat) : Slot :=
  if y.serial = n && (y.st = .active || y.st = .issued) then { y with status := st, result := res, st := .final } else y

theorem State.finish_program (s : State) (k j n st : Nat) (res : List Nat) :
    s.finish (.program k j n) st res = s.modSect k fun x => x.modSlot j fun y => y.ended n st res := rfl

theorem Slot.ended_final {y : Slot} {n : Nat} (st : Nat) (res : List Nat) (hn : y.serial = n) (h : y.st = .active ∨ y.st = .issued) :
    { y.ended n st res with code := 0, shown := 1 } = ({ st := .final, serial := n, status := st, result := res } : Slot) := by
  unfold Slot.ended
  rw [if_pos (by rcases h with h | h <;> simp [hn, h]), hn]

theorem State.finish_program_ended {s : State} {k j n : Nat} (st : Nat) (res : List Nat) (hk : k < s.prog.sects.length)
    (hn : (s.ticket k j).serial = n) (h : (s.ticket k j).st = .active ∨ (s.ticket k j).st = .issued) :
    { (s.finish (.program k j n) st res).ticket k j with code := 0, shown := 1 } =
      ({ st := .final, serial := n, status := st, result := res } : Slot) := by
  rw [s.finish_program, s.ticket_modSlot j _ hk]
  exact Slot.ended_final st res hn h

/-- An answer reaches its caller (R203, R204, R532). -/
theorem State.answer_told {s : State} {o : Origin} (st : Nat) (res : List Nat) (h : s.canTell o) : (s.answer o st res).told o st res := by
  cases o with
  | quiet | command a => exact h.elim
  | host c q =>
    obtain ⟨x, hx⟩ := h
    exact s.hostAnswer_answered q st _ hx
  | program k j n =>
    obtain ⟨hk, hn, hi⟩ := h
    unfold State.answer State.told
    dsimp only
    split
    · show ((s.modSect k fun x => x.modSlot j _).ticket k j).serial = n ∧ ((s.modSect k fun x => x.modSlot j _).ticket k j).st = .active
      rw [s.ticket_modSlot j _ hk, if_pos (by simp [hn, hi])]
      exact ⟨hn, rfl⟩
    · exact State.finish_program_ended st res hk hn (.inr hi)

/-- The end of an operation reaches whoever waits for it. -/
theorem State.finish_ended {s : State} {o : Origin} (st : Nat) (res : List Nat) (h : s.awaits o) : (s.finish o st res).ended o st res := by
  cases o with
  | quiet | command a => exact h.elim
  | host c q =>
    obtain ⟨x, hx, stands⟩ := h
    exact s.sessionDone_toHost q st _ hx stands
  | program k j n =>
    obtain ⟨hk, hn, hi⟩ := h
    exact State.finish_program_ended st res hk hn (.inl hi)

/-! ### Telling and later effects -/

theorem Within.slots {D : List Part} {s t : State} (h : Within D s t) (hp : .slots ∉ D := by decide) :
    t.prog.sects.map Sect.slots = s.prog.sects.map Sect.slots := h.same _ hp

theorem Within.sects_length {D : List Part} {s t : State} (h : Within D s t) (hp : .slots ∉ D := by decide) :
    t.prog.sects.length = s.prog.sects.length := by
  simpa using congrArg List.length (h.slots hp)

theorem State.slots_of_map {s t : State} (h : t.prog.sects.map Sect.slots = s.prog.sects.map Sect.slots) (k : Nat) :
    (t.sect k).slots = (s.sect k).slots := by
  have slots : ∀ u : State, (u.sect k).slots = (u.prog.sects.map Sect.slots).getD k [] := fun u => by
    unfold State.sect
    rw [List.getD_eq_getElem?_getD, List.getD_eq_getElem?_getD, List.getElem?_map]
    cases u.prog.sects[k]? <;> rfl
  rw [slots t, slots s, h]

theorem Within.ticket {D : List Part} {s t : State} (h : Within D s t) (k j : Nat) (hp : .slots ∉ D := by decide) :
    t.ticket k j = s.ticket k j := by
  simp only [State.ticket, State.slots_of_map (h.slots hp) k]

theorem Within.canTell {D : List Part} {s t : State} (w : Within D s t) {o : Origin} (h : s.canTell o) (hp : .slots ∉ D := by decide)
    (hs : .sessions ∉ D := by decide) : t.canTell o := by
  cases o with
  | quiet | command a => exact h
  | host c q =>
    obtain ⟨x, hx⟩ := h
    exact ⟨x, (w.session c hs).trans hx⟩
  | program k j n =>
    obtain ⟨hk, hn, hi⟩ := h
    refine ⟨(w.sects_length hp).symm ▸ hk, ?_, ?_⟩ <;> rw [w.ticket k j hp] <;> assumption

theorem Within.awaits {D : List Part} {s t : State} (w : Within D s t) {o : Origin} (h : s.awaits o) (hp : .slots ∉ D := by decide)
    (hs : .sessions ∉ D := by decide) : t.awaits o := by
  cases o with
  | quiet | command a => exact h
  | host c q =>
    obtain ⟨x, hx, hst⟩ := h
    exact ⟨x, (w.session c hs).trans hx, hst⟩
  | program k j n =>
    obtain ⟨hk, hn, hi⟩ := h
    have slot : t.ticket k j = s.ticket k j := w.ticket k j hp
    exact ⟨(w.sects_length hp).symm ▸ hk, (congrArg Slot.serial slot).trans hn, (congrArg Slot.st slot).trans hi⟩

/-- What a caller has been told stands in a later state with the same sessions and slots. -/
theorem State.told_of_grows {s t : State} {o : Origin} {st : Nat} {res : List Nat} (g : Grows s t)
    (sessions : t.gal.sessions = s.gal.sessions) (slots : t.prog.sects.map Sect.slots = s.prog.sects.map Sect.slots)
    (h : s.told o st res) : t.told o st res := by
  have session : ∀ c, t.session c = s.session c := fun c => by simp only [State.session, sessions]
  cases o with
  | quiet | command a => exact h
  | host c q =>
    obtain ⟨x, hx, h⟩ := h
    exact ⟨x, (session c).trans hx, State.toHost_of_grows g (session c) h⟩
  | program k j n =>
    unfold State.told at h ⊢
    simp only [State.slots_of_map slots k]
    exact h

theorem State.ended_of_grows {s t : State} {o : Origin} {st : Nat} {res : List Nat} (g : Grows s t)
    (sessions : t.gal.sessions = s.gal.sessions) (slots : t.prog.sects.map Sect.slots = s.prog.sects.map Sect.slots)
    (h : s.ended o st res) : t.ended o st res := by
  have session : ∀ c, t.session c = s.session c := fun c => by simp only [State.session, sessions]
  cases o with
  | quiet | command a => exact h
  | host c q => exact State.toHost_of_grows g (session c) h
  | program k j n =>
    unfold State.ended at h ⊢
    simp only [State.slots_of_map slots k]
    exact h

/-- A later step that touches no session, slot or output leaves what was told. -/
theorem Within.told {D : List Part} {s t : State} (w : Within D s t) {o : Origin} {st : Nat} {res : List Nat} (h : s.told o st res)
    (hp : .slots ∉ D := by decide) (hs : .sessions ∉ D := by decide) (ho : .out ∉ D := by decide) (hh : .held ∉ D := by decide) :
    t.told o st res := State.told_of_grows (w.grows ho hh) (w.sessions hs) (w.slots hp) h

theorem Within.ended {D : List Part} {s t : State} (w : Within D s t) {o : Origin} {st : Nat} {res : List Nat} (h : s.ended o st res)
    (hp : .slots ∉ D := by decide) (hs : .sessions ∉ D := by decide) (ho : .out ∉ D := by decide) (hh : .held ∉ D := by decide) :
    t.ended o st res := State.ended_of_grows (w.grows ho hh) (w.sessions hs) (w.slots hp) h

@[simp] theorem State.after_told (s u : State) (o : Origin) (st : Nat) (res : List Nat) :
    (s.after u).told o st res ↔ u.told o st res := by cases o <;> exact Iff.rfl

@[simp] theorem State.after_ended (s u : State) (o : Origin) (st : Nat) (res : List Nat) :
    (s.after u).ended o st res ↔ u.ended o st res := by cases o <;> exact Iff.rfl

@[simp] theorem State.after_toHost (s u : State) (c kind q st : Nat) (body : List Nat) :
    (s.after u).toHost c kind q st body ↔ u.toHost c kind q st body := Iff.rfl

@[simp] theorem State.after_sent (s u : State) (k : OutKind) (l : List Int) : (s.after u).sent k l ↔ u.sent k l := Iff.rfl

/-! ### Calls of services -/

/-- A call that may act does what its service does, and answers its caller. -/
theorem State.callSvc_eq {s : State} {o : Origin} {code : Nat} {f : State → Origin → SvcArgs → SvcRes} (a : SvcArgs)
    (may : s.canCall o code) (hf : svcOf code = some f) :
    s.begin.callSvc o code a = (f s.begin o a).1.answer o (f s.begin o a).2.1 (f s.begin o a).2.2 := by
  obtain ⟨up, mode, runs, who⟩ := may
  unfold State.callSvc
  rw [hf]
  have go : (!s.begin.live || decide (s.begin.mode = .recovery) || !s.begin.svcRuns code) = false := by
    show (!s.live || decide (s.mode = .recovery) || !s.svcRuns code) = false
    simp [up, mode, runs]
  cases o with
  | quiet | command a => exact who.elim
  | program k j n =>
    dsimp only
    rw [go, if_neg (by decide), if_neg (by decide)]
  | host c q =>
    obtain ⟨x, hx, -, hr⟩ := who
    have role : decide (s.begin.roleOf (.session c) < 1) = false := by
      have : s.begin.session c = some x := hx
      simp [State.roleOf, this]
      omega
    dsimp only
    rw [role, if_neg (by decide), go, if_neg (by decide)]

/-- A service call that answers: the caller is told, and what the service left stands but for the answer. -/
theorem State.callSvc_told {s : State} {o : Origin} {code : Nat} {f : State → Origin → SvcArgs → SvcRes} {a : SvcArgs} {u : State}
    {st : Nat} {res : List Nat} {D : List Part} (may : s.canCall o code) (hf : svcOf code = some f) (hu : f s.begin o a = (u, st, res))
    (w : Within D s.begin u) (hp : .slots ∉ D := by decide) (hs : .sessions ∉ D := by decide) :
    s.begin.callSvc o code a = u.answer o st res ∧ (u.answer o st res).told o st res := by
  rw [State.callSvc_eq a may hf, hu]
  exact ⟨rfl, State.answer_told _ _ (w.canTell (may.canTell : s.canTell o) hp hs)⟩

end Sys2Proof.Machine

/-! ### Packages and the Cleat exchange (O14) -/
namespace Sys2Proof.Machine

theorem exec_loadComplete_eq (s : State) : exec .loadComplete s = .next (s.after s.begin.loadComplete) := rfl

theorem exec_cleatExchange_eq (s : State) (replies : List CleatReply) :
    exec (.cleatExchange replies) s = .next (s.after (s.begin.exchange replies)) := rfl

/-! ### The end of a load (R111, R154) -/

/-- The end of a load before its caller is told. -/
def State.loadSettled (s : State) (chg st : Nat) (keep : Bool) : State :=
  let s := (s.setChange chg st).modProg fun x => { x with loaded := if keep then x.loaded else none, loadBy := .quiet }
  if chg = Chg.idle then s.put F.PLX_CHG_OWNER 1023 else s

theorem State.loadEnd_eq (s : State) (chg st : Nat) (keep : Bool) :
    s.loadEnd chg st keep = (s.loadSettled chg st keep).finish s.prog.loadBy st [] := rfl

theorem State.loadSettled_prog (s : State) (chg st : Nat) (keep : Bool) :
    (s.loadSettled chg st keep).prog = { s.prog with loaded := if keep then s.prog.loaded else none, loadBy := .quiet } := by
  unfold State.loadSettled
  dsimp only
  split <;> rfl

theorem State.loadSettled_gal (s : State) (chg st : Nat) (keep : Bool) : (s.loadSettled chg st keep).gal = s.gal := by
  unfold State.loadSettled
  dsimp only
  split <;> rfl

theorem State.loadSettled_state (s : State) {chg st : Nat} (keep : Bool) (hc : chg < 8) (hst : st < 65536) :
    (s.loadSettled chg st keep).get F.PLX_CHG_STATE = chg ∧ (s.loadSettled chg st keep).get F.PLX_CHG_STATUS = st := by
  have state : ∀ u : State, (u.setChange chg st).get F.PLX_CHG_STATE = chg := fun u => by
    unfold State.setChange
    rw [State.get_put_ne _ _ _ _ (by decide), State.get_put_self]
    exact Nat.mod_eq_of_lt (lt_of_lt_of_le hc (by decide))
  have status : ∀ u : State, (u.setChange chg st).get F.PLX_CHG_STATUS = st := fun u => by
    unfold State.setChange
    rw [State.get_put_self]
    exact Nat.mod_eq_of_lt (lt_of_lt_of_le hst (by decide))
  unfold State.loadSettled
  dsimp only
  split
  · exact ⟨(State.get_put_ne _ _ _ _ (by decide)).trans (state s), (State.get_put_ne _ _ _ _ (by decide)).trans (status s)⟩
  · exact ⟨state s, status s⟩

theorem State.loadSettled_owner (s : State) (st : Nat) (keep : Bool) : (s.loadSettled Chg.idle st keep).get F.PLX_CHG_OWNER = 1023 :=
  State.get_put_self _ _ _

/-- The end of a load for its host. -/
theorem State.loadEnd_parts {s : State} {chg st c q : Nat} (keep : Bool) (hc : chg < 8) (hst : st < 65536)
    (by_ : s.prog.loadBy = .host c q) (waits : s.awaits (.host c q)) :
    (s.loadEnd chg st keep).get F.PLX_CHG_STATE = chg ∧ (s.loadEnd chg st keep).get F.PLX_CHG_STATUS = st ∧
      (chg = Chg.idle → (s.loadEnd chg st keep).get F.PLX_CHG_OWNER = 1023) ∧
      (s.loadEnd chg st keep).prog.loaded = (if keep then s.prog.loaded else none) ∧
      (s.loadEnd chg st keep).prog.pkg = s.prog.pkg ∧ (s.loadEnd chg st keep).prog.newPkg = s.prog.newPkg ∧
      (s.loadEnd chg st keep).ended (.host c q) st [] := by
  have w : Within finishParts (s.loadSettled chg st keep) (s.loadEnd chg st keep) := within_finish _ _ _ _ fun _ h => h
  obtain ⟨state, status⟩ := s.loadSettled_state keep hc hst
  have prog := s.loadSettled_prog chg st keep
  refine ⟨w.get.trans state, w.get.trans status, fun h => w.get.trans (h ▸ s.loadSettled_owner st keep), ?_, ?_, ?_, ?_⟩
  · rw [w.prog_proj (·.loaded) fun _ => rfl, prog]
  · rw [w.prog_proj (·.pkg) fun _ => rfl, prog]
  · rw [w.prog_proj (·.newPkg) fun _ => rfl, prog]
  · rw [State.loadEnd_eq, by_]
    refine State.finish_ended st [] ?_
    obtain ⟨x, hx, stands⟩ := waits
    exact ⟨x, (State.session_of_gal (s.loadSettled_gal chg st keep) c).trans hx, stands⟩

/-! ### The attempts of an exchange (R516) -/

/-- What holds of the attempts stands if a further attempt of a failing station keeps it. -/
theorem retries_invariant {P : List Attempt → Prop}
    (h : ∀ l x, P l → (∃ a ∈ l, a.good = none ∧ a.st = x) → P (l.map fun a => if a.st = x then a.next else a)) (n : Nat) :
    ∀ (last : Option Nat) (l : List Attempt) (sent : List Nat), P l → P (retries n last l sent).1 := by
  induction n with
  | zero => exact fun _ _ _ hl => hl
  | succ n ih =>
    intro last l sent hl
    unfold retries
    dsimp only
    split
    · exact hl
    · next x rest e =>
      refine ih _ _ _ (h l x hl ?_)
      have mem : x ∈ (l.filter fun a => a.good.isNone).map Attempt.st := by
        have : x ∈ _ ++ _ := e ▸ List.mem_cons_self ..
        rcases List.mem_append.1 this with m | m
        · exact (List.mem_filter.1 m).1
        · exact m
      obtain ⟨a, ha, rfl⟩ := List.mem_map.1 mem
      obtain ⟨ha, none⟩ := List.mem_filter.1 ha
      exact ⟨a, ha, by simpa using none, rfl⟩

@[simp] theorem Attempt.next_st (a : Attempt) : a.next.st = a.st := by
  unfold Attempt.next
  split <;> rfl

theorem retries_st (n : Nat) (last : Option Nat) (l : List Attempt) (sent : List Nat) :
    (retries n last l sent).1.map Attempt.st = l.map Attempt.st := by
  refine retries_invariant (P := fun k => k.map Attempt.st = l.map Attempt.st) (fun k x hk _ => ?_) n last l sent rfl
  rw [← hk, List.map_map]
  refine List.map_congr_left fun a _ => ?_
  by_cases e : a.st = x <;> simp [e]

/-- A station that has answered nothing. -/
def Attempt.silent (a : Attempt) : Prop := a.good = none ∧ a.left = []

theorem Attempt.silent_next {a : Attempt} (h : a.silent) : a.next.silent := by
  obtain ⟨good, left⟩ := h
  unfold Attempt.next
  rw [left]
  exact ⟨good, rfl⟩

theorem retries_silent {y : Nat} {l : List Attempt} (h : ∀ a ∈ l, a.st = y → a.silent) (n : Nat) (last : Option Nat) (sent : List Nat) :
    ∀ a ∈ (retries n last l sent).1, a.st = y → a.silent := by
  refine retries_invariant (P := fun k => ∀ a ∈ k, a.st = y → a.silent) (fun k x hk _ a ha hy => ?_) n last l sent h
  obtain ⟨b, hb, rfl⟩ := List.mem_map.1 ha
  split at hy
  · next e => rw [if_pos e]; exact Attempt.silent_next (hk b hb (b.next_st ▸ hy))
  · next e => rw [if_neg e]; exact hk b hb hy

theorem retries_good {y : Nat} {r : Reply} {l : List Attempt} (h : ∀ a ∈ l, a.st = y → a.good = some r) (n : Nat) (last : Option Nat)
    (sent : List Nat) : ∀ a ∈ (retries n last l sent).1, a.st = y → a.good = some r := by
  refine retries_invariant (P := fun k => ∀ a ∈ k, a.st = y → a.good = some r) (fun k x hk fails a ha hy => ?_) n last l sent h
  obtain ⟨b, hb, rfl⟩ := List.mem_map.1 ha
  obtain ⟨c, hc, cg, cst⟩ := fails
  split at hy
  · next e =>
    have := hk c hc (by rw [cst, ← e, ← b.next_st, hy])
    rw [cg] at this
    cases this
  · next e => rw [if_neg e]; exact hk b hb hy

/-! ### One port (R126 to R128, Table 03.2) -/

/-- The slice that a station gets. -/
def State.sliceOf (s : State) (work : Option (SMap Nat)) (x : StationPlan) : List Nat :=
  [x.st % 32, sliceCtl (s.station x.st), x.wdog] ++ s.outOctets work x

/-- The first attempt of each station of a port. -/
def firstAttempts (replies : List CleatReply) (l : List StationPlan) : List Attempt :=
  l.map fun x => (({ st := x.st, left := ((replies.find? fun r => r.st = x.st).map CleatReply.tries).getD [] } : Attempt)).next

/-- The attempts of each station of a port, and the stations that were asked again. -/
def State.attempts (s : State) (replies : List CleatReply) (l : List StationPlan) : List Attempt × List Nat :=
  retries (s.get F.CLB_CFG_RETRY) none (firstAttempts replies l) []

/-- What the exchange makes of one station. -/
def State.tally (s0 : State) (work : Option (SMap Nat)) (res : List Attempt) (s : State) (x : StationPlan) : State :=
  match res.find? fun a => a.st = x.st with
  | none => s
  | some a =>
    let (y, inp) := (s.station x.st).after (s0.outOctets work x) a
    let s := s.modProg fun q => { q with stations := SMap.insert q.stations x.st y }
    match inp with
    | some d => s.modWired fun w => { w with got := SMap.insert w.got x.st d }
    | none => s

/-- The frames of a port and its counts. -/
def State.exchangeFrames (s : State) (work : Option (SMap Nat)) (replies : List CleatReply) (p : Nat) (l : List StationPlan) : State :=
  let fnum := (s.num + 1) % 65536
  let s0 := s
  let s := s.emitAt (some s.now) .cleatDown
    ((p :: withCrc16 ([0x96, fnum % 256, fnum / 256, s.cycLen, l.length] ++ l.flatMap (s0.sliceOf work))).map Int.ofNat)
  let res := s.attempts replies l
  let s := res.2.foldl (fun (s : State) i => match l.find? fun x => x.st = i with
    | some x => s.emitAt (some s.now) .cleatRetry
        ((p :: withCrc16 ([0x96, fnum % 256, fnum / 256, s.cycLen, 1] ++ s0.sliceOf work x)).map Int.ofNat)
    | none => s) s
  (s.add (F.CLB_PORT_CNT_CRC_ERR.at p) (sumN (res.1.map Attempt.crc))).add (F.CLB_PORT_CNT_MISSED.at p) (sumN (res.1.map Attempt.missing))

theorem State.exchangePort_eq (s : State) (work : Option (SMap Nat)) (replies : List CleatReply) (p : Nat) (l : List StationPlan) :
    ∃ res, res = (retries (s.get F.CLB_CFG_RETRY) none (firstAttempts replies l) []).1 ∧
    s.exchangePort work replies p l =
      (l.foldl (s.tally work res) (s.exchangeFrames work replies p l)).modWired fun w => { w with apply := insertN w.apply p } := by
  refine ⟨_, rfl, ?_⟩
  have kept : ∀ due k args, (s.emitAt due k args).get F.CLB_CFG_RETRY = s.get F.CLB_CFG_RETRY := fun due k args => State.emitAt_get ..
  unfold State.exchangePort State.exchangeFrames State.attempts
  simp only [kept]
  rfl

theorem State.exchangeFrames_kept {α : Type} (p : State → α) (hput : ∀ (s : State) f v, p (s.put f v) = p s)
    (hemit : ∀ (s : State) due k args, p (s.emitAt due k args) = p s) (s : State) (work : Option (SMap Nat)) (replies : List CleatReply)
    (i : Nat) (l : List StationPlan) : p (s.exchangeFrames work replies i l) = p s := by
  unfold State.exchangeFrames
  dsimp only
  rw [State.add_eq, State.add_eq, hput, hput, foldl_keeps p _ fun u x => by split; exacts [hemit .., rfl], hemit]

theorem State.grows_put (s : State) (f : Fld) (v : Nat) : Grows s (s.put f v) := State.grows_of_eq rfl rfl

theorem State.exchangeFrames_sent (s : State) (work : Option (SMap Nat)) (replies : List CleatReply) (i : Nat) (l : List StationPlan) :
    Grows s (s.exchangeFrames work replies i l) ∧ ∃ args, (s.exchangeFrames work replies i l).sent .cleatDown ((i : Int) :: args) := by
  unfold State.exchangeFrames
  dsimp only
  rw [State.add_eq, State.add_eq]
  have rest : ∀ (u : State) (m : List Nat) (g : State → Nat → State) f v f' v', (∀ w x, Grows w (g w x)) →
      Grows u (((m.foldl g u).put f v).put f' v') := fun u m g f v f' v' hg =>
    ((State.grows_foldl hg m u).trans (State.grows_put _ _ _)).trans (State.grows_put _ _ _)
  have again := rest (s.emitAt (some s.now) .cleatDown
      ((i :: withCrc16 ([0x96, (s.num + 1) % 65536 % 256, (s.num + 1) % 65536 / 256, s.cycLen, l.length] ++
        l.flatMap (s.sliceOf work))).map Int.ofNat))
  refine ⟨(s.grows_emitAt ..).trans (again _ _ _ _ _ _ fun u x => ?_), _, (again _ _ _ _ _ _ fun u x => ?_).sent (s.emitAt_sent ..)⟩
  all_goals
    split
    · exact u.grows_emitAt ..
    · exact .refl u

/-- What one station's tally leaves. -/
theorem State.tally_kept {α : Type} (p : State → α) (hst : ∀ (s : State) (i : Nat) (y : Station), p (s.modProg fun q => { q with stations := SMap.insert q.stations i y }) = p s)
    (hgot : ∀ (s : State) (i : Nat) (d : List Nat), p (s.modWired fun w => { w with got := SMap.insert w.got i d }) = p s) (s0 : State) (work : Option (SMap Nat))
    (res : List Attempt) (s : State) (x : StationPlan) : p (s0.tally work res s x) = p s := by
  unfold State.tally
  split
  · rfl
  · dsimp only
    split
    · exact (hgot ..).trans (hst ..)
    · exact hst ..

theorem State.station_insert (s : State) (i j : Nat) (y : Station) :
    (s.modProg fun q => { q with stations := SMap.insert q.stations i y }).station j = if j = i then y else s.station j := by
  unfold State.station
  simp only [State.modProg_prog]
  split
  · next h => subst h; exact SMap.getD_insert_self ..
  · next h => exact SMap.getD_insert_ne _ _ _ h

/-- The tally of another station leaves this one; its own gives it what `Station.after` says. -/
theorem State.tally_station (s0 : State) (work : Option (SMap Nat)) (res : List Attempt) (s : State) (x : StationPlan) (j : Nat) :
    (j ≠ x.st → (s0.tally work res s x).station j = s.station j ∧
      SMap.get? (s0.tally work res s x).wired.got j = SMap.get? s.wired.got j) ∧
    ∀ a, res.find? (fun a => a.st = x.st) = some a →
      (s0.tally work res s x).station x.st = ((s.station x.st).after (s0.outOctets work x) a).1 ∧
      ∀ d, ((s.station x.st).after (s0.outOctets work x) a).2 = some d → SMap.get? (s0.tally work res s x).wired.got x.st = some d := by
  have wired : ∀ (u : State) g, (u.modWired g).station = u.station := fun _ _ => rfl
  refine ⟨fun hj => ?_, fun a ha => ?_⟩
  · unfold State.tally
    split
    · exact ⟨rfl, rfl⟩
    · dsimp only
      split
      · refine ⟨by rw [wired, State.station_insert, if_neg hj], ?_⟩
        exact SMap.get?_insert_ne _ _ _ _ hj
      · exact ⟨by rw [State.station_insert, if_neg hj], rfl⟩
  · unfold State.tally
    rw [ha]
    dsimp only
    split
    · next d hd =>
      refine ⟨by rw [wired, State.station_insert, if_pos rfl], fun e he => ?_⟩
      rw [hd] at he
      exact (SMap.get?_insert_self _ _ _).trans he
    · next hd =>
      refine ⟨by rw [State.station_insert, if_pos rfl], fun e he => ?_⟩
      rw [hd] at he
      cases he

theorem Station.after_silent (x : Station) (out : List Nat) {a : Attempt} (h : a.good = none) : (x.after out a).1.st = 1 := by
  unfold Station.after
  rw [h]

theorem Station.after_online (x : Station) (out : List Nat) {a : Attempt} {r : Reply} (h : a.good = some r) (on : x.st = 0) :
    (x.after out a).1.st = 0 ∧ (x.after out a).2 = some r.inputs := by
  unfold Station.after
  rw [h]
  dsimp only
  rw [on]
  exact ⟨rfl, rfl⟩

/-- Something that one element of a list brings about, and no other undoes, holds after the list; R is what it needs. -/
theorem foldl_reach {α β : Type} {f : β → α → β} {R Q : β → Prop} {x : α} {l : List α} (hR : ∀ s y, y ∈ l → R s → R (f s y))
    (hQ : ∀ s y, y ∈ l → R s → Q s → Q (f s y)) (hx : x ∈ l) (hit : ∀ s, R s → Q (f s x)) {s : β} (h : R s) : Q (l.foldl f s) := by
  have stays : ∀ (m : List α) (s : β), (∀ y ∈ m, y ∈ l) → R s → Q s → Q (m.foldl f s) := by
    intro m
    induction m with
    | nil => exact fun _ _ _ h => h
    | cons y m ih =>
      intro s sub hr hq
      have my := sub y (List.mem_cons_self ..)
      exact ih _ (fun z hz => sub z (List.mem_cons_of_mem _ hz)) (hR s y my hr) (hQ s y my hr hq)
  have go : ∀ (m : List α) (s : β), (∀ y ∈ m, y ∈ l) → x ∈ m → R s → Q (m.foldl f s) := by
    intro m
    induction m with
    | nil => exact fun _ _ hm => nomatch hm
    | cons y m ih =>
      intro s sub hm hr
      have sub' : ∀ z ∈ m, z ∈ l := fun z hz => sub z (List.mem_cons_of_mem _ hz)
      rcases List.mem_cons.1 hm with rfl | hm
      · exact stays m _ sub' (hR s _ hx hr) (hit s hr)
      · exact ih _ sub' hm (hR s y (sub y (List.mem_cons_self ..)) hr)
  exact go l s (fun _ h => h) hx h

/-- What a fold keeps of each of its elements. -/
theorem foldl_inv {α β : Type} {f : β → α → β} {R : β → Prop} {l : List α} (hR : ∀ s y, y ∈ l → R s → R (f s y)) {s : β} (h : R s) :
    R (l.foldl f s) := by
  induction l generalizing s with
  | nil => exact h
  | cons y l ih => exact ih (fun s z hz => hR s z (List.mem_cons_of_mem _ hz)) (hR s y (List.mem_cons_self ..) h)

theorem mem_firstAttempts {replies : List CleatReply} {l : List StationPlan} {a : Attempt} (h : a ∈ firstAttempts replies l) :
    ∃ x ∈ l, a.st = x.st ∧ a = (({ st := x.st, left := ((replies.find? fun r => r.st = x.st).map CleatReply.tries).getD [] } : Attempt)).next := by
  obtain ⟨x, hx, rfl⟩ := List.mem_map.1 h
  exact ⟨x, hx, Attempt.next_st _, rfl⟩

/-- The attempts of a station that answers nothing. -/
theorem firstAttempts_silent {replies : List CleatReply} (l : List StationPlan) {y : Nat} (no : replies.find? (fun r => r.st = y) = none) :
    ∀ a ∈ firstAttempts replies l, a.st = y → a.silent := by
  intro a ha hy
  obtain ⟨x, -, hst, rfl⟩ := mem_firstAttempts ha
  rw [hy] at hst
  subst hst
  rw [no]
  exact Attempt.silent_next ⟨rfl, rfl⟩

/-- The attempts of a station that answers at once. -/
theorem firstAttempts_good {replies : List CleatReply} (l : List StationPlan) {y : Nat} {r : CleatReply} {a : Reply}
    {more : List (Option (Option Reply))} (yes : replies.find? (fun r => r.st = y) = some r) (first : r.tries = some (some a) :: more) :
    ∀ b ∈ firstAttempts replies l, b.st = y → b.good = some a := by
  intro b hb hy
  obtain ⟨x, -, hst, rfl⟩ := mem_firstAttempts hb
  rw [hy] at hst
  subst hst
  rw [yes]
  show Attempt.good (Attempt.next { st := x.st, left := r.tries }) = some a
  rw [first]
  rfl

/-- A station of the port is among its attempts. -/
theorem find_attempt {replies : List CleatReply} {l : List StationPlan} {x : StationPlan} (hx : x ∈ l) (n : Nat) :
    ∃ a, (retries n none (firstAttempts replies l) []).1.find? (fun a => a.st = x.st) = some a ∧
      a ∈ (retries n none (firstAttempts replies l) []).1 ∧ a.st = x.st := by
  have mem : x.st ∈ (retries n none (firstAttempts replies l) []).1.map Attempt.st := by
    rw [retries_st, firstAttempts, List.map_map]
    exact List.mem_map.2 ⟨x, hx, Attempt.next_st _⟩
  obtain ⟨b, hb, hst⟩ := List.mem_map.1 mem
  cases h : (retries n none (firstAttempts replies l) []).1.find? (fun a => a.st = x.st) with
  | none => exact absurd (List.find?_eq_none.1 h b hb) (by simp [hst])
  | some a => exact ⟨a, rfl, List.mem_of_find?_eq_some h, by simpa using List.find?_some h⟩

/-- A station that answers nothing is lost (R130). -/
theorem State.exchangePort_silent (s : State) (work : Option (SMap Nat)) {replies : List CleatReply} (p : Nat) (l : List StationPlan) {y : Nat}
    (no : replies.find? (fun r => r.st = y) = none) (h : (∃ x ∈ l, x.st = y) ∨ (s.station y).st = 1) :
    ((s.exchangePort work replies p l).station y).st = 1 := by
  obtain ⟨res, hres, eq⟩ := s.exchangePort_eq work replies p l
  rw [eq]
  show ((l.foldl (s.tally work res) (s.exchangeFrames work replies p l)).station y).st = 1
  have silent : ∀ a ∈ res, a.st = y → a.silent := hres ▸ retries_silent (firstAttempts_silent l no) _ _ _
  have own : ∀ u : State, ∀ x ∈ l, x.st = y → ((s.tally work res u x).station y).st = 1 := by
    rintro u x hx rfl
    obtain ⟨a, ha, mem, st⟩ := find_attempt (replies := replies) hx (s.get F.CLB_CFG_RETRY)
    rw [← hres] at ha mem
    rw [((s.tally_station work res u x x.st).2 a ha).1]
    exact Station.after_silent _ _ (silent a mem st).1
  have step : ∀ u : State, ∀ x ∈ l, (u.station y).st = 1 → ((s.tally work res u x).station y).st = 1 := by
    intro u x hx hu
    by_cases e : x.st = y
    · exact own u x hx e
    · rw [((s.tally_station work res u x y).1 (Ne.symm e)).1]; exact hu
  rcases h with ⟨x, hx, e⟩ | h
  · exact foldl_reach (R := fun _ => True) (Q := fun u : State => (u.station y).st = 1) (fun _ _ _ _ => trivial)
      (fun u z hz _ hu => step u z hz hu) hx (fun u _ => own u x hx e) trivial
  · refine foldl_inv (R := fun u : State => (u.station y).st = 1) step ?_
    rw [State.exchangeFrames_kept (fun u => u.station y) (fun _ _ _ => rfl)
      (fun u due k args => by unfold State.station; rw [State.emitAt_prog])]
    exact h

/-- A station ONLINE whose first answer is good stays so, and its inputs are collected (R128). -/
theorem State.exchangePort_online (s : State) (work : Option (SMap Nat)) {replies : List CleatReply} (p : Nat) (l : List StationPlan)
    {y : Nat} {r : CleatReply} {a : Reply} {more : List (Option (Option Reply))} (yes : replies.find? (fun r => r.st = y) = some r)
    (first : r.tries = some (some a) :: more) (on : (s.station y).st = 0) :
    ((s.exchangePort work replies p l).station y).st = 0 ∧
      ((∃ x ∈ l, x.st = y) ∨ SMap.get? s.wired.got y = some a.inputs →
        SMap.get? (s.exchangePort work replies p l).wired.got y = some a.inputs) := by
  obtain ⟨res, hres, eq⟩ := s.exchangePort_eq work replies p l
  rw [eq]
  show ((l.foldl (s.tally work res) (s.exchangeFrames work replies p l)).station y).st = 0 ∧
    (_ → SMap.get? (l.foldl (s.tally work res) (s.exchangeFrames work replies p l)).wired.got y = some a.inputs)
  have good : ∀ b ∈ res, b.st = y → b.good = some a := hres ▸ retries_good (firstAttempts_good l yes first) _ _ _
  have own : ∀ u : State, ∀ x ∈ l, x.st = y → (u.station y).st = 0 → ((s.tally work res u x).station y).st = 0 ∧
      SMap.get? (s.tally work res u x).wired.got y = some a.inputs := by
    rintro u x hx rfl hu
    obtain ⟨b, hb, mem, st⟩ := find_attempt (replies := replies) hx (s.get F.CLB_CFG_RETRY)
    rw [← hres] at hb mem
    obtain ⟨zero, inputs⟩ := Station.after_online (u.station x.st) (s.outOctets work x) (good b mem st) hu
    obtain ⟨station, got⟩ := (s.tally_station work res u x x.st).2 b hb
    exact ⟨by rw [station]; exact zero, got _ inputs⟩
  have step : ∀ u : State, ∀ x ∈ l, (u.station y).st = 0 → ((s.tally work res u x).station y).st = 0 := by
    intro u x hx hu
    by_cases e : x.st = y
    · exact (own u x hx e hu).1
    · rw [((s.tally_station work res u x y).1 (Ne.symm e)).1]; exact hu
  have keep : ∀ u : State, ∀ x ∈ l, (u.station y).st = 0 → SMap.get? u.wired.got y = some a.inputs →
      SMap.get? (s.tally work res u x).wired.got y = some a.inputs := by
    intro u x hx hu hg
    by_cases e : x.st = y
    · exact (own u x hx e hu).2
    · rw [((s.tally_station work res u x y).1 (Ne.symm e)).2]; exact hg
  have start : ((s.exchangeFrames work replies p l).station y).st = 0 := by
    rw [State.exchangeFrames_kept (fun u => u.station y) (fun _ _ _ => rfl)
      (fun u due k args => by unfold State.station; rw [State.emitAt_prog])]
    exact on
  refine ⟨foldl_inv (R := fun u : State => (u.station y).st = 0) step start, fun h => ?_⟩
  rcases h with ⟨x, hx, e⟩ | h
  · exact foldl_reach (R := fun u : State => (u.station y).st = 0)
      (Q := fun u : State => SMap.get? u.wired.got y = some a.inputs) step keep hx (fun u hu => (own u x hx e hu).2) start
  · refine (foldl_inv (R := fun u : State => (u.station y).st = 0 ∧ SMap.get? u.wired.got y = some a.inputs)
      (fun u x hx hu => ⟨step u x hx hu.1, keep u x hx hu.1 hu.2⟩) ⟨start, ?_⟩).2
    rw [State.exchangeFrames_kept (fun u => u.wired) (fun _ _ _ => rfl) (fun u due k args => State.emitAt_wired ..)]
    exact h

/-- The exchange of a port sends its frame, and the port waits for APPLY. -/
theorem State.exchangePort_sent (s : State) (work : Option (SMap Nat)) (replies : List CleatReply) (p : Nat) (l : List StationPlan) :
    Grows s (s.exchangePort work replies p l) ∧ (∃ args, (s.exchangePort work replies p l).sent .cleatDown ((p : Int) :: args)) ∧
      p ∈ (s.exchangePort work replies p l).wired.apply ∧
      ∀ q ∈ s.wired.apply, q ∈ (s.exchangePort work replies p l).wired.apply := by
  obtain ⟨res, -, eq⟩ := s.exchangePort_eq work replies p l
  rw [eq]
  obtain ⟨g, args, sent⟩ := s.exchangeFrames_sent work replies p l
  have fold : Grows (s.exchangeFrames work replies p l) (l.foldl (s.tally work res) (s.exchangeFrames work replies p l)) :=
    State.grows_foldl (fun u x => State.grows_of_eq (s.tally_kept State.out (fun _ _ _ => rfl) (fun _ _ _ => rfl) _ _ _ _)
      (s.tally_kept (fun u => u.spl.held) (fun _ _ _ => rfl) (fun _ _ _ => rfl) _ _ _ _)) _ _
  have last := State.grows_of_eq (s := l.foldl (s.tally work res) (s.exchangeFrames work replies p l))
    (t := (l.foldl (s.tally work res) (s.exchangeFrames work replies p l)).modWired fun w => { w with apply := insertN w.apply p }) rfl rfl
  have apply : (l.foldl (s.tally work res) (s.exchangeFrames work replies p l)).wired.apply = s.wired.apply := by
    rw [foldl_keeps (fun u : State => u.wired.apply) _ fun u x => s.tally_kept (fun u => u.wired.apply) (fun _ _ _ => rfl) (fun _ _ _ => rfl) _ _ _ _]
    exact State.exchangeFrames_kept (fun u => u.wired.apply) (fun _ _ _ => rfl) (fun u due k args => by rw [State.emitAt_wired]) ..
  refine ⟨(g.trans fold).trans last, ⟨args, (fold.trans last).sent sent⟩, ?_, fun q hq => ?_⟩
  · exact mem_insertN.2 (.inl rfl)
  · exact mem_insertN.2 (.inr (apply ▸ hq))

/-- What the exchange of a port leaves of the frame, the areas and the images. -/
theorem State.exchangePort_kept {α : Type} (p : State → α) (hput : ∀ (s : State) f v, p (s.put f v) = p s)
    (hemit : ∀ (s : State) due k args, p (s.emitAt due k args) = p s)
    (hst : ∀ (s : State) (i : Nat) (y : Station), p (s.modProg fun q => { q with stations := SMap.insert q.stations i y }) = p s)
    (hw : ∀ (s : State) (g : Wired → Wired), (∀ w, (g w).exchanged = w.exchanged) → p (s.modWired g) = p s) (s : State) (work : Option (SMap Nat))
    (replies : List CleatReply) (i : Nat) (l : List StationPlan) : p (s.exchangePort work replies i l) = p s := by
  obtain ⟨res, -, eq⟩ := s.exchangePort_eq work replies i l
  rw [eq]
  refine (hw _ (fun w => { w with apply := insertN w.apply i }) fun _ => rfl).trans ?_
  rw [foldl_keeps p _ fun u x => s.tally_kept p hst (fun s i d => hw s (fun w => { w with got := SMap.insert w.got i d }) fun _ => rfl) _ _ _ _, State.exchangeFrames_kept p hput hemit]

/-! ### The statement -/

/-- The ports of a package that have stations. -/
def Package.ports (k : Package) : List Nat := (List.range 4).filter fun p => k.port p ≠ []

theorem State.exchange_eq {s : State} {k : Package} (replies : List CleatReply) (pkg : s.prog.pkg = some k) (up : s.live = true)
    (mode : s.mode = .run ∨ s.mode = .stop ∨ s.mode = .hold) (last : (s.num + 1) % s.cycLen = 0 ∨ s.frame.realign.isSome = true)
    (first : s.wired.exchanged = false) :
    ∃ work, s.exchange replies = k.ports.foldl (fun (s : State) p => s.exchangePort work replies p (k.port p))
      (s.modWired fun w => { w with exchanged := true }) := by
  have go : (!s.live || !(decide (s.mode = .run) || decide (s.mode = .stop) || decide (s.mode = .hold)) ||
      !(decide ((s.num + 1) % s.cycLen = 0) || s.frame.realign.isSome) || s.wired.exchanged) = false := by
    rcases mode with m | m | m <;> rcases last with h | h <;> simp [up, m, h, first]
  refine ⟨if s.commitUnit && !s.prog.deadlinePast then some s.cycleWork else none, ?_⟩
  unfold State.exchange
  rw [pkg]
  dsimp only
  rw [go]
  rfl

theorem Package.mem_ports {k : Package} {q : Nat} (hq : q < 4) (h : k.port q ≠ []) : q ∈ k.ports :=
  List.mem_filter.2 ⟨List.mem_range.2 hq, by simpa using h⟩

/-- Settles O14: the end of a load by its case, and the exchange by folds over the ports and their stations. -/
theorem packagesLoadAndStationsAreServed : Obligations.PackagesLoadAndStationsAreServed := by
  unfold Obligations.PackagesLoadAndStationsAreServed
  refine ⟨fun s p c q load st by_ ok plan wd some_ waits => ?_, fun s p load st ok plan wd none_ => ?_,
    fun s p c q st load cst by_ why waits => ?_, fun s p replies pkg up mode last first => ?_⟩
  · have eq : s.begin.loadComplete = (s.begin.modSpl fun x => { x with loadMark := x.serial + 1 }).loadEnd Chg.loaded St.done true := by
      unfold State.loadComplete
      rw [show s.begin.prog.loaded = some p from load]
      dsimp only
      rw [if_neg (show ¬(s.begin.get F.PLX_CHG_STATE ≠ Chg.loading) from fun h => h st), if_neg (by rw [show s.begin.pkgOk p = true from ok]; decide),
        if_neg (by rw [show s.begin.planOk p = true from plan, show s.begin.watchdogsOk p = true from wd]; decide), if_pos (show s.begin.prog.pkg.isSome = true from some_)]
    obtain ⟨state, status, -, loaded, pkg, -, told⟩ := State.loadEnd_parts (s := s.begin.modSpl fun x => { x with loadMark := x.serial + 1 })
      (chg := Chg.loaded) (st := St.done) true (by decide) (by decide) by_ waits
    refine ⟨_, exec_loadComplete_eq s, ?_⟩
    rw [eq]
    simp only [State.after_get, State.after_prog, State.after_ended]
    exact ⟨state, status, loaded.trans load, pkg, told⟩
  · have eq : s.begin.loadComplete =
        ((s.begin.storePackage p).put F.PLX_CHG_STATE Chg.idle).modProg fun x => { x with newPkg := some p, loaded := none } := by
      unfold State.loadComplete
      rw [show s.begin.prog.loaded = some p from load]
      dsimp only
      rw [if_neg (show ¬(s.begin.get F.PLX_CHG_STATE ≠ Chg.loading) from fun h => h st), if_neg (by rw [show s.begin.pkgOk p = true from ok]; decide),
        if_neg (by rw [show s.begin.planOk p = true from plan, show s.begin.watchdogsOk p = true from wd]; decide),
        if_neg (by rw [show s.begin.prog.pkg = none from none_]; decide)]
    refine ⟨_, exec_loadComplete_eq s, ?_⟩
    rw [eq]
    refine ⟨?_, rfl, rfl, ?_⟩
    · rw [State.after_get, State.modProg_get]
      exact State.get_put_self ..
    · exact none_
  · have eq : s.begin.loadComplete = s.begin.loadEnd Chg.idle st false := by
      unfold State.loadComplete
      rw [show s.begin.prog.loaded = some p from load]
      dsimp only
      rw [if_neg (show ¬(s.begin.get F.PLX_CHG_STATE ≠ Chg.loading) from fun h => h cst)]
      rcases why with ⟨bad, rfl⟩ | ⟨ok, bad, rfl⟩
      · rw [if_pos (by rw [show s.begin.pkgOk p = false from bad]; decide)]
      · rw [if_neg (by rw [show s.begin.pkgOk p = true from ok]; decide), if_pos]
        rcases bad with bad | bad
        · rw [show s.begin.planOk p = false from bad]; rfl
        · rw [show s.begin.watchdogsOk p = false from bad]; simp
    have small : st < 65536 := by rcases why with ⟨-, rfl⟩ | ⟨-, -, rfl⟩ <;> decide
    obtain ⟨state, status, owner, loaded, pkg, newPkg, told⟩ := State.loadEnd_parts (s := s.begin) (chg := Chg.idle) (st := st) false
      (by decide) small by_ waits
    refine ⟨_, exec_loadComplete_eq s, ?_⟩
    rw [eq]
    simp only [State.after_get, State.after_prog, State.after_ended]
    exact ⟨state, status, loaded, owner rfl, pkg, newPkg, told⟩
  · obtain ⟨work, eq⟩ := State.exchange_eq (s := s.begin) replies pkg up mode last first
    refine ⟨_, exec_cleatExchange_eq s replies, ?_⟩
    rw [eq]
    set s1 := s.begin.modWired fun w => { w with exchanged := true } with hs1
    set f := fun (s : State) i => s.exchangePort work replies i (p.port i) with hf
    have kept : ∀ {α : Type} (g : State → α), (∀ (s : State) f v, g (s.put f v) = g s) →
        (∀ (s : State) due k args, g (s.emitAt due k args) = g s) →
        (∀ (s : State) (i : Nat) (y : Station), g (s.modProg fun q => { q with stations := SMap.insert q.stations i y }) = g s) →
        (∀ (s : State) (w : Wired → Wired), (∀ x, (w x).exchanged = x.exchanged) → g (s.modWired w) = g s) →
        g (p.ports.foldl f s1) = g s1 := fun g h1 h2 h3 h4 =>
      foldl_keeps g f (fun u i => State.exchangePort_kept g h1 h2 h3 h4 u work replies i (p.port i)) _ _
    have station0 : ∀ y, s1.station y = s.station y := fun _ => rfl
    refine ⟨?_, fun q hq some_ => ?_, fun x q hq hx no => ?_, fun x q r a l hq hx yes tries on => ?_, ?_, ?_, ?_, ?_⟩
    · exact kept (fun u => u.wired.exchanged) (fun _ _ _ => rfl) (fun u _ _ _ => by rw [State.emitAt_wired]) (fun _ _ _ => rfl)
        (fun u w h => h u.wired)
    · rw [State.after_wired]
      simp only [State.after_sent]
      refine foldl_reach (R := fun _ => True) (f := f) (Q := fun u : State => q ∈ u.wired.apply ∧ ∃ l, u.sent .cleatDown ((q : Int) :: l))
        (fun _ _ _ _ => trivial) (fun u i _ _ hu => ?_) (Package.mem_ports hq some_) (fun u _ => ?_) trivial
      · obtain ⟨g, -, -, apply⟩ := u.exchangePort_sent work replies i (p.port i)
        obtain ⟨h, args, sent⟩ := hu
        exact ⟨apply q h, args, g.sent sent⟩
      · obtain ⟨-, sent, apply, -⟩ := u.exchangePort_sent work replies q (p.port q)
        exact ⟨apply, sent⟩
    · exact foldl_reach (R := fun _ => True) (f := f) (Q := fun u : State => (u.station x.st).st = 1) (fun _ _ _ _ => trivial)
        (fun u i _ _ hu => u.exchangePort_silent work i (p.port i) no (.inr hu)) (Package.mem_ports hq (List.ne_nil_of_mem hx))
        (fun u _ => u.exchangePort_silent work q (p.port q) no (.inl ⟨x, hx, rfl⟩)) trivial
    · exact foldl_reach (R := fun u : State => (u.station x.st).st = 0) (f := f)
        (Q := fun u : State => SMap.get? u.wired.got x.st = some a.inputs)
        (fun u i _ hu => (u.exchangePort_online work i (p.port i) yes tries hu).1)
        (fun u i _ hu hg => (u.exchangePort_online work i (p.port i) yes tries hu).2 (.inr hg))
        (Package.mem_ports hq (List.ne_nil_of_mem hx))
        (fun u hu => (u.exchangePort_online work q (p.port q) yes tries hu).2 (.inl ⟨x, hx, rfl⟩)) on
    · exact kept State.frame (fun _ _ _ => rfl) (fun u _ _ _ => State.emitAt_frame ..) (fun _ _ _ => rfl) (fun _ _ _ => rfl)
    · exact kept (fun u => u.prog.areas) (fun _ _ _ => rfl) (fun u _ _ _ => by rw [State.emitAt_prog]) (fun _ _ _ => rfl) (fun _ _ _ => rfl)
    · exact kept (fun u => u.prog.inputs) (fun _ _ _ => rfl) (fun u _ _ _ => by rw [State.emitAt_prog]) (fun _ _ _ => rfl) (fun _ _ _ => rfl)
    · exact kept (fun u => u.prog.raw) (fun _ _ _ => rfl) (fun u _ _ _ => by rw [State.emitAt_prog]) (fun _ _ _ => rfl) (fun _ _ _ => rfl)

end Sys2Proof.Machine

/-!
### Requests of a host (O24)

Every message passes one gate: its session classifies its number, then its form, size, role and mode are judged, and only then does it act. The lemmas
here give the state in which it acts and what its host is told.
-/
namespace Sys2Proof.Machine

/-! ### What only answers -/

/-- The state without the session contexts and without what is emitted or ready for the host port. -/
def State.mask (t : State) : State :=
  { t with
    gal := { t.gal with sessions := [] }, out := [], spl := { t.spl with held := [] }
    wired := { t.wired with spiResp := none, spiRdy := false } }

theorem State.onlyAnswers_iff {s t : State} : t.onlyAnswers s ↔ t.mask = s.mask := by
  constructor
  · intro h
    exact (congrArg State.mask h :)
  · intro h
    exact (congrArg (fun u : State => { u with
      gal := { u.gal with sessions := s.gal.sessions }, out := s.out, spl := { u.spl with held := s.spl.held }
      wired := { u.wired with spiResp := s.wired.spiResp, spiRdy := s.wired.spiRdy } }) h :)

@[simp] theorem State.mask_begin (s : State) : s.begin.mask = s.mask := rfl

@[simp] theorem State.mask_setSession (s : State) (c : Nat) (x : Session) : (s.setSession c x).mask = s.mask := rfl

@[simp] theorem State.mask_emitAt (s : State) (due : Option Nat) (k : OutKind) (l : List Int) : (s.emitAt due k l).mask = s.mask := by
  unfold State.emitAt
  split <;> rfl

@[simp] theorem State.mask_emit (s : State) (k : OutKind) (l : List Int) : (s.emit k l).mask = s.mask := s.mask_emitAt none k l

@[simp] theorem State.mask_spiSend (s : State) (l : List Nat) : (s.spiSend l).mask = s.mask := by
  unfold State.spiSend
  dsimp only
  split
  · exact s.mask_emit _ _
  · rfl

@[simp] theorem State.mask_hostSend (s : State) (c kind q st : Nat) (body : List Nat) : (s.hostSend c kind q st body).mask = s.mask := by
  unfold State.hostSend
  split
  · rfl
  · split
    · exact s.mask_spiSend _
    · exact s.mask_emit _ _

@[simp] theorem State.mask_hostAnswer (s : State) (c q st : Nat) (body : List Nat) : (s.hostAnswer c q st body).mask = s.mask := by
  unfold State.hostAnswer
  split
  · rfl
  · rw [State.mask_hostSend]
    split <;> rfl

@[simp] theorem State.mask_answer_host (s : State) (c q st : Nat) (res : List Nat) : (s.answer (.host c q) st res).mask = s.mask :=
  s.mask_hostAnswer c q st _

/-- Of a host's answer the parts that are neither sessions nor outputs read as before. -/
theorem State.mask_after (s t : State) (hp : t.pending = s.pending) (hm : t.mem = s.mem) : (s.after t).mask = t.mask := by
  show { t.mask with pending := s.pending, mem := s.mem } = t.mask
  rw [← hp, ← hm]
  rfl

/-- The answer to a host is all that a command which leaves the rest does. -/
theorem State.onlyAnswers_after {s t : State} (h : t.mask = s.mask) : (s.after t).onlyAnswers s :=
  State.onlyAnswers_iff.2 ((s.mask_after t (congrArg State.pending h :) (congrArg State.mem h :)).trans h)

/-- The same where fields of the register map changed as well. -/
theorem State.onlyAnswers_after_regs {s t : State} (h : { t.mask with regs := s.regs } = s.mask) :
    ({ s.after t with regs := s.regs } : State).onlyAnswers s := by
  have := State.onlyAnswers_after (s := s) (t := { t with regs := s.regs }) h
  exact this

theorem State.mask_put_regs (s : State) (f : Fld) (v : Nat) : { (s.put f v).mask with regs := s.regs } = s.mask := rfl

/-! ### The session takes a request -/

theorem Session.kindOf_accept (x : Session) (q kind : Nat) : (x.accept q kind).kindOf q = kind := by
  have others : (x.window.filter fun e => decide (e.seq ≠ q)).find? (fun e => decide (e.seq = q)) = none := by
    rw [List.find?_eq_none]
    intro e he
    simpa using (List.mem_filter.1 he).2
  have window : (x.accept q kind).window = (x.window.filter fun e => decide (e.seq ≠ q)) ++ [({ seq := q, kind := kind } : SeqEntry)] := by
    unfold Session.accept
    dsimp only
    split <;> rfl
  unfold Session.kindOf
  rw [window, List.find?_append, others]
  simp

theorem Session.accept_head (x : Session) (q kind : Nat) :
    (x.accept q kind).typ = x.typ ∧ (x.accept q kind).peer = x.peer ∧ (x.accept q kind).key = x.key ∧
      (x.accept q kind).state = x.state ∧ (x.accept q kind).role = x.role := by
  unfold Session.accept
  dsimp only
  split <;> exact ⟨rfl, rfl, rfl, rfl, rfl⟩

/-- Reading the clock does not change how a session classifies a number. -/
theorem Session.classify_at (x : Session) (t q : Nat) : ({ x with lastAt := t } : Session).classify q = x.classify q := rfl

theorem exec_sentAs {m : HxmMsg} {h : Hdr} {c : Instr} (hm : m.sentAs h c) (s : State) :
    exec c s = .next (s.after (s.begin.hxmRequest h m)) := by
  cases m <;> (cases hm; rfl)

/-- The session's context while it takes a request. -/
def Session.taking (x : Session) (s : State) (h : Hdr) (kind : Nat) : Session := { x with lastAt := s.mono }.accept h.num kind

theorem State.taken_eq {s : State} {h : Hdr} {x : Session} (hx : s.session h.ctx = some x) (kind : Nat) :
    s.taken h kind = s.begin.setSession h.ctx (x.taking s h kind) := by
  unfold State.taken
  rw [hx]
  rfl

theorem State.taken_session {s : State} {h : Hdr} {x : Session} (hx : s.session h.ctx = some x) (kind : Nat) :
    (s.taken h kind).session h.ctx = some (x.taking s h kind) := by
  rw [State.taken_eq hx]
  exact State.session_setSession_self ..

@[simp] theorem State.taken_mask (s : State) (h : Hdr) (kind : Nat) : (s.taken h kind).mask = s.mask := by
  unfold State.taken
  split <;> rfl

theorem State.within_taken (s : State) (h : Hdr) (kind : Nat) : Within [.sessions] s.begin (s.taken h kind) := by
  unfold State.taken
  split
  · exact .refl _ _
  · exact within_setSession _ _ _ (by decide)

theorem State.askedBy.go {s : State} {h : Hdr} {x : Session} (a : s.askedBy h x) :
    (!s.live || decide (x.state ≠ 2) || (decide (x.typ ≠ 0) && decide (x.typ ≠ 3))) = false := by
  obtain ⟨up, -, st, typ⟩ := a
  rcases typ with t | t <;> simp [up, st, t]

/-- What a message comes to, by its number. -/
theorem State.hxmRequest_eq {s : State} {h : Hdr} {x : Session} (a : s.askedBy h x) (m : HxmMsg) :
    s.begin.hxmRequest h m =
      match x.classify h.num with
      | .stale => ((s.begin.setSession h.ctx { x with lastAt := s.mono }).inc F.HXM_CNT_STALE).hostSend h.ctx (m.kind + 0x80) h.num St.stale []
      | .pending => (s.begin.setSession h.ctx { x with lastAt := s.mono }).hostSend h.ctx (m.kind + 0x80) h.num St.pending []
      | .duplicate l => ((s.begin.setSession h.ctx { x with lastAt := s.mono }).inc F.HXM_CNT_DUPLICATE).hostSend h.ctx (m.kind + 0x80) h.num
          St.duplicate (cachedBody (l.getD []))
      | .accepted => (((s.begin.setSession h.ctx { x with lastAt := s.mono }).setSession h.ctx (x.taking s h m.kind))).msgJudged
          { x with lastAt := s.mono } h h.num m := by
  unfold State.hxmRequest
  rw [show s.begin.session h.ctx = some x from a.2.1]
  dsimp only
  rw [show (!s.begin.live || decide (x.state ≠ 2) || (decide (x.typ ≠ 0) && decide (x.typ ≠ 3))) = false from a.go]
  rfl

theorem SMap.insert_insert {α : Type} (m : SMap α) (i : Nat) (x y : α) : SMap.insert (SMap.insert m i x) i y = SMap.insert m i y := by
  induction m with
  | nil => simp [SMap.insert]
  | cons p m ih =>
    obtain ⟨k, v⟩ := p
    by_cases h : i = k
    · simp [SMap.insert, h]
    · by_cases h2 : i < k
      · simp [SMap.insert, h, h2]
      · simp [SMap.insert, h, h2, ih]

theorem State.setSession_setSession (s : State) (c : Nat) (x y : Session) : (s.setSession c x).setSession c y = s.setSession c y := by
  unfold State.setSession
  simp only [SMap.insert_insert]

/-- An accepted request is judged in the state that has taken it. -/
theorem State.hxmRequest_accepted {s : State} {h : Hdr} {x : Session} (a : s.askedBy h x) (m : HxmMsg)
    (acc : x.classify h.num = .accepted) :
    s.begin.hxmRequest h m = (s.taken h m.kind).msgJudged { x with lastAt := s.mono } h h.num m := by
  rw [State.hxmRequest_eq a, acc]
  dsimp only
  rw [State.setSession_setSession, ← State.taken_eq a.2.1]

/-! ### Answers to requests -/

theorem State.hostAnswer_session {s : State} {c : Nat} {x : Session} (q : Nat) {st : Nat} (body : List Nat) (h : s.session c = some x)
    (final : st ≠ St.pending) : (s.hostAnswer c q st body).session c = some (x.complete q (st :: body)) := by
  unfold State.hostAnswer
  rw [h]
  dsimp only
  rw [if_neg final, State.hostSend_session, State.session_setSession_self]

/-- The answer to a request goes under its KIND with bit 7 set (R530). -/
theorem State.hostAnswer_toHost {s : State} {c : Nat} {x : Session} (q st : Nat) (body : List Nat) (h : s.session c = some x) :
    (s.hostAnswer c q st body).toHost c (x.kindOf q + 0x80) q st body := by
  obtain ⟨y, hy, told⟩ := s.hostAnswer_answered q st body h
  have kind : y.kindOf q = x.kindOf q := by
    by_cases e : st = St.pending
    · unfold State.hostAnswer at hy
      rw [h] at hy
      dsimp only at hy
      rw [if_pos e, State.hostSend_session, h] at hy
      exact congrArg (Session.kindOf · q) (Option.some.inj hy).symm
    · rw [State.hostAnswer_session q body h e] at hy
      rw [← Option.some.inj hy, Session.kindOf_complete]
  rw [← kind]
  exact told

theorem State.taking_kindOf (x : Session) (s : State) (h : Hdr) (kind : Nat) : (x.taking s h kind).kindOf h.num = kind :=
  Session.kindOf_accept _ _ _

/-! ### The judgement (R531, R534) -/

/-- What refuses a message, in the order of R531; 0 where nothing does. -/
def State.refusal (s : State) (h : Hdr) (m : HxmMsg) : Nat :=
  if h.bad = true then St.badMessage else if 1280 < h.len then St.tooLarge
  else if m.formed = false then St.badMessage else if s.msgAccess h.ctx m = false then St.access
  else if s.mode = .recovery ∧ m.inRecovery = false then St.mode else 0

/-- Whether a session may send a message does not change when it takes one. -/
theorem State.msgAccess_taken {s : State} {h : Hdr} {x : Session} (hx : s.session h.ctx = some x) (kind : Nat) (m : HxmMsg) :
    (s.taken h kind).msgAccess h.ctx m = s.msgAccess h.ctx m := by
  have ht := State.taken_session hx kind
  obtain ⟨typ, -, -, -, role⟩ := ({ x with lastAt := s.mono } : Session).accept_head h.num kind
  have typ : (x.taking s h kind).typ = x.typ := typ
  have role : (x.taking s h kind).role = x.role := role
  have keys : (s.taken h kind).keys = s.keys := (s.within_taken h kind).keys
  unfold State.msgAccess State.debugOk State.roleOf
  simp only [ht, hx, typ, role, keys]

/-- A refused message answers its status; a malformed one is counted. -/
theorem State.msgJudged_refused {s : State} {h : Hdr} {m : HxmMsg} {x y : Session} (hx : s.session h.ctx = some y)
    (bad : s.refusal h m ≠ 0) :
    (s.taken h m.kind).msgJudged x h h.num m = (s.taken h m.kind).answer h.by_ (s.refusal h m) [] ∨
      (s.taken h m.kind).msgJudged x h h.num m = ((s.taken h m.kind).inc F.HXM_CNT_BAD).answer h.by_ (s.refusal h m) [] := by
  have mode : (s.taken h m.kind).mode = s.mode := (s.within_taken h m.kind).mode
  unfold State.refusal at bad ⊢
  unfold State.msgJudged
  rw [State.msgAccess_taken hx, mode]
  by_cases h1 : h.bad = true
  · simp only [if_pos h1]; exact .inr rfl
  by_cases h2 : 1280 < h.len
  · simp only [if_neg h1, if_pos h2]; exact .inr rfl
  by_cases h3 : m.formed = false
  · simp only [if_neg h1, if_neg h2, h3]; exact .inr rfl
  by_cases h4 : s.msgAccess h.ctx m = false
  · simp only [if_neg h1, if_neg h2, if_neg h3, h4, Bool.not_eq_false] at h3 ⊢
    simp only [h3]; exact .inl rfl
  by_cases h5 : s.mode = .recovery ∧ m.inRecovery = false
  · simp only [Bool.not_eq_false] at h3 h4
    simp only [if_neg h1, if_neg h2, h3, h4, h5.1, h5.2]; exact .inl rfl
  · simp only [if_neg h1, if_neg h2, if_neg h3, if_neg h4, if_neg h5] at bad
    exact absurd rfl bad

theorem State.msgJudged_accepted {s : State} {h : Hdr} {m : HxmMsg} {x y : Session} (hx : s.session h.ctx = some y)
    (good : h.bad = false) (size : h.len ≤ 1280) (formed : m.formed = true) (access : s.msgAccess h.ctx m = true)
    (mode : s.mode = .recovery → m.inRecovery = true) :
    (s.taken h m.kind).msgJudged x h h.num m = (s.taken h m.kind).msgDo x h.ctx h.num m := by
  have hm : (s.taken h m.kind).mode = s.mode := (s.within_taken h m.kind).mode
  have h5 : (decide (s.mode = .recovery) && !m.inRecovery) = false := by
    by_cases e : s.mode = .recovery
    · simp [mode e]
    · simp [e]
  unfold State.msgJudged
  rw [State.msgAccess_taken hx, hm, h5, access, formed, good, if_neg (by decide), if_neg (Nat.not_lt.2 size), if_neg (by decide),
    if_neg (by decide), if_neg (by decide)]

/-- A message that its session takes acts in the state that has taken it. -/
theorem exec_canAsk {s : State} {h : Hdr} {m : HxmMsg} {c : Instr} (hm : m.sentAs h c) (may : s.canAsk h m) :
    ∃ x, s.session h.ctx = some x ∧ x.state = 2 ∧
      exec c s = .next (s.after ((s.taken h m.kind).msgDo { x with lastAt := s.mono } h.ctx h.num m)) := by
  obtain ⟨⟨x, asked, acc⟩, good, size, formed, access, mode⟩ := may
  refine ⟨x, asked.2.1, asked.2.2.1, ?_⟩
  rw [exec_sentAs hm, State.hxmRequest_accepted asked m acc,
    State.msgJudged_accepted asked.2.1 good size formed access mode]

/-! ### The statement -/

/-- An answer to a request in the state that has taken it, or in one that differs by a count. -/
theorem State.answer_taken {s u : State} {h : Hdr} {x : Session} {kind : Nat} (hu : u.session h.ctx = some (x.taking s h kind))
    (st : Nat) (res : List Nat) : (u.answer h.by_ st res).toHost h.ctx (kind + 0x80) h.num st (octetsOf res) := by
  have := State.hostAnswer_toHost (s := u) h.num st (octetsOf res) hu
  rw [State.taking_kindOf] at this
  exact this

theorem State.get_inc_byte (s : State) {f : Fld} (max : f.max = 255) (width : f.width = 8) :
    (s.inc f).get f = min 255 (s.get f + 1) := by
  rw [State.inc_eq, State.get_put_self, max, width]
  unfold satAdd
  split <;> omega

/-- R59: what lies more than 63 below the highest number is stale. -/
theorem Session.classify_stale_iff {x : Session} {q : Nat} (width : x.width = 32) (used : x.window ≠ [] ∨ x.high ≠ 0)
    (hq : q < 2 ^ 32) (hh : x.high < 2 ^ 32) :
    x.classify q = .stale ↔ 63 < (x.high + 2 ^ 32 - q) % 2 ^ 32 ∧ 2 ^ 31 ≤ (q + 2 ^ 32 - x.high) % 2 ^ 32 := by
  have fresh : ¬(x.window = [] ∧ x.high = 0) := fun h => used.elim (· h.1) (· h.2)
  have above : x.above q = decide (0 < (q + 2 ^ 32 - x.high) % 2 ^ 32 ∧ (q + 2 ^ 32 - x.high) % 2 ^ 32 < 2 ^ 31) := by
    simp [Session.above, Session.half, width]
  have below : x.below q = (x.high + 2 ^ 32 - q) % 2 ^ 32 := by simp [Session.below, width]
  have apart : (q + 2 ^ 32 - x.high) % 2 ^ 32 = 0 → (x.high + 2 ^ 32 - q) % 2 ^ 32 = 0 := by omega
  have fresh' : (decide (x.window = []) && decide (x.high = 0)) = false := by simpa using fresh
  unfold Session.classify
  rw [above, below, fresh']
  generalize (q + 2 ^ 32 - x.high) % 2 ^ 32 = up at apart ⊢
  generalize (x.high + 2 ^ 32 - q) % 2 ^ 32 = down at apart ⊢
  rw [if_neg (by decide)]
  by_cases ha : 0 < up ∧ up < 2 ^ 31
  · rw [if_pos (decide_eq_true ha)]
    exact ⟨nofun, fun h => absurd ha.2 (Nat.not_lt.2 h.2)⟩
  · rw [if_neg (by rw [decide_eq_true_iff]; exact ha)]
    by_cases hb : 63 < down
    · rw [if_pos hb]
      exact ⟨fun _ => ⟨hb, by omega⟩, fun _ => rfl⟩
    · rw [if_neg hb]
      refine ⟨fun h => ?_, fun h => absurd h.1 hb⟩
      split at h
      · cases h
      · split at h <;> cases h

/-- Settles O24: the session's classification, and the judgement of what it takes. -/
theorem requestsActOnceAndAreJudged : Obligations.RequestsActOnceAndAreJudged := by
  unfold Obligations.RequestsActOnceAndAreJudged
  intro s h m c x hm asked
  have run := exec_sentAs hm s
  rw [State.hxmRequest_eq asked] at run
  have session := s.begin.session_setSession_self h.ctx { x with lastAt := s.mono }
  refine ⟨fun cls => ?_, fun cls => ?_, fun l cls => ?_, fun width used high => ?_, fun acc st hst bad => ?_⟩
  · rw [cls] at run
    refine ⟨_, run, ?_, ?_, ?_⟩
    · exact State.hostSend_toHost _ _ _ _ _ session
    · rw [State.after_get, State.hostSend_get, State.get_inc_byte _ rfl rfl]
      rfl
    · refine State.onlyAnswers_after_regs ?_
      rw [State.mask_hostSend]
      rfl
  · rw [cls] at run
    refine ⟨_, run, ?_, ?_⟩
    · exact State.hostSend_toHost _ _ _ _ _ session
    · refine State.onlyAnswers_after ?_
      rw [State.mask_hostSend]
      rfl
  · rw [cls] at run
    refine ⟨_, run, ?_, ?_, ?_⟩
    · exact State.hostSend_toHost _ _ _ _ _ session
    · rw [State.after_get, State.hostSend_get, State.get_inc_byte _ rfl rfl]
      rfl
    · refine State.onlyAnswers_after_regs ?_
      rw [State.mask_hostSend]
      rfl
  · exact Session.classify_stale_iff width used (Nat.mod_lt _ (by decide)) high
  · have hst : st = s.refusal h m := hst
    subst hst
    have run := exec_sentAs hm s
    rw [State.hxmRequest_accepted asked m acc] at run
    have ht := State.taken_session asked.2.1 m.kind
    have final : s.refusal h m ≠ St.pending := by
      unfold State.refusal
      repeat' split
      all_goals decide
    rcases State.msgJudged_refused (x := { x with lastAt := s.mono }) asked.2.1 bad with e | e
    all_goals
      rw [e] at run
      refine ⟨_, run, (State.after_toHost ..).2 (State.answer_taken (s := s) (x := x) (kind := m.kind) (by exact ht) _ []), State.onlyAnswers_after_regs ?_, _, ht,
        State.hostAnswer_session h.num (octetsOf []) ht final⟩
      rw [Hdr.by_, State.mask_answer_host]
    · rw [State.taken_mask]
      rfl
    · rw [State.inc_eq]
      exact (congrArg (fun u : State => { u with regs := s.regs }) (s.taken_mask h m.kind) :)

end Sys2Proof.Machine

/-! ### Changes of the program, recipes, images and campaigns (O26) -/
namespace Sys2Proof.Machine

/-! ### A request that answers a status -/

/-- A message that its session takes acts in a state that differs from the one before by that session's context alone. -/
theorem exec_ask {s : State} {h : Hdr} {m : HxmMsg} {c : Instr} (hm : m.sentAs h c) (may : s.canAsk h m) :
    ∃ x y, s.session h.ctx = some x ∧ x.state = 2 ∧ y.state = 2 ∧ s.taken h m.kind = s.begin.setSession h.ctx y ∧
      exec c s = .next (s.after ((s.begin.setSession h.ctx y).msgDo { x with lastAt := s.mono } h.ctx h.num m)) := by
  obtain ⟨x, hx, st, run⟩ := exec_canAsk hm may
  refine ⟨x, x.taking s h m.kind, hx, st, ?_, State.taken_eq hx _, ?_⟩
  · exact (({ x with lastAt := s.mono } : Session).accept_head h.num m.kind).2.2.2.1.trans st
  · rw [run, State.taken_eq hx]

/-- The caller behind a request whose context stands. -/
theorem State.canTell_host {u : State} {h : Hdr} (stands : (u.session h.ctx).isSome = true) : u.canTell h.by_ :=
  Option.isSome_iff_exists.1 stands

/-- A request that comes to an answer: the host is told, and but for the answer the state is the one that the request left. -/
theorem State.answered_told {s u : State} {h : Hdr} (st : Nat) (res : List Nat) (stands : (u.session h.ctx).isSome = true) :
    (s.after (u.answer h.by_ st res)).told h.by_ st res ∧ (s.after (u.answer h.by_ st res)).mask = (s.after u).mask := by
  refine ⟨(State.after_told ..).2 (State.answer_told st res (State.canTell_host stands)), ?_⟩
  have := State.mask_answer_host u h.ctx h.num st res
  exact (congrArg (fun t : State => { t with pending := s.pending, mem := s.mem }) this :)

/-- A request that comes to an answer in a state which differs from v by sessions and outputs alone. -/
theorem exec_answers {s v : State} {h : Hdr} {m : HxmMsg} {c : Instr} {st : Nat} {res : List Nat} (hm : m.sentAs h c) (may : s.canAsk h m)
    (acts : ∀ x y, y.state = 2 → ∃ u, (s.begin.setSession h.ctx y).msgDo x h.ctx h.num m = u.answer h.by_ st res ∧
      (u.session h.ctx).isSome = true ∧ (s.after u).mask = v.mask) :
    ∃ t, exec c s = .next t ∧ t.told h.by_ st res ∧ t.mask = v.mask := by
  obtain ⟨x, y, -, -, hy, -, run⟩ := exec_ask hm may
  obtain ⟨u, act, stands, same⟩ := acts { x with lastAt := s.mono } y hy
  rw [act] at run
  obtain ⟨told, mask⟩ := State.answered_told (s := s) st res stands
  exact ⟨_, run, told, mask.trans same⟩

/-- A request that comes to an answer in a state of which P holds. -/
theorem exec_answers_of {s : State} {h : Hdr} {m : HxmMsg} {c : Instr} {st : Nat} {res : List Nat} {P : State → Prop} (hm : m.sentAs h c)
    (may : s.canAsk h m) (acts : ∀ x y, y.state = 2 → ∃ u, (s.begin.setSession h.ctx y).msgDo x h.ctx h.num m = u.answer h.by_ st res ∧
      (u.session h.ctx).isSome = true ∧ P u) :
    ∃ t u, exec c s = .next t ∧ t.told h.by_ st res ∧ P u ∧ t.mask = (s.after u).mask := by
  obtain ⟨x, y, -, -, hy, -, run⟩ := exec_ask hm may
  obtain ⟨u, act, stands, holds⟩ := acts { x with lastAt := s.mono } y hy
  rw [act] at run
  obtain ⟨told, mask⟩ := State.answered_told (s := s) st res stands
  exact ⟨_, u, run, told, holds, mask⟩

/-- A request that only answers. -/
theorem exec_only_answers {s : State} {h : Hdr} {m : HxmMsg} {c : Instr} {st : Nat} {res : List Nat} (hm : m.sentAs h c) (may : s.canAsk h m)
    (acts : ∀ x y, y.state = 2 →
      (s.begin.setSession h.ctx y).msgDo x h.ctx h.num m = (s.begin.setSession h.ctx y).answer h.by_ st res) :
    ∃ t, exec c s = .next t ∧ t.told h.by_ st res ∧ t.onlyAnswers s := by
  obtain ⟨t, run, told, mask⟩ := exec_answers (v := s) hm may fun x y hy =>
    ⟨_, acts x y hy, by rw [State.session_setSession_self]; rfl, rfl⟩
  exact ⟨t, run, told, State.onlyAnswers_iff.2 mask⟩

theorem State.prog_of_mask {t v : State} (h : t.mask = v.mask) : t.prog = v.prog := (congrArg State.prog h :)
theorem State.regs_of_mask {t v : State} (h : t.mask = v.mask) : t.regs = v.regs := (congrArg State.regs h :)
theorem State.light_of_mask {t v : State} (h : t.mask = v.mask) : t.light = v.light := (congrArg State.light h :)
theorem State.upd_of_mask {t v : State} (h : t.mask = v.mask) : t.upd = v.upd := (congrArg State.upd h :)
theorem State.net_of_mask {t v : State} (h : t.mask = v.mask) : t.net = v.net := (congrArg State.net h :)
theorem State.frame_of_mask {t v : State} (h : t.mask = v.mask) : t.frame = v.frame := (congrArg State.frame h :)
theorem State.fleet_of_mask {t v : State} (h : t.mask = v.mask) : t.fleet = v.fleet := (congrArg State.fleet h :)
theorem State.get_of_mask {t v : State} (h : t.mask = v.mask) (f : Fld) : t.get f = v.get f := State.get_of_regs (State.regs_of_mask h) f

/-! ### The states of a change (Table 03.3) -/

theorem State.setChange_status (s : State) (chg : Nat) {st : Nat} (hst : st < 65536) :
    (s.setChange chg st).get F.PLX_CHG_STATUS = st := by
  unfold State.setChange
  rw [State.get_put_self]
  exact Nat.mod_eq_of_lt (lt_of_lt_of_le hst (by decide))

theorem State.setChange_state (s : State) {chg : Nat} (st : Nat) (hc : chg < 8) : (s.setChange chg st).get F.PLX_CHG_STATE = chg := by
  unfold State.setChange
  rw [State.get_put_ne _ _ _ _ (by decide), State.get_put_self]
  exact Nat.mod_eq_of_lt (lt_of_lt_of_le hc (by decide))

/-- A change that has an owner. -/
theorem State.ownedChange_state (s : State) {chg : Nat} (st c : Nat) (hc : chg < 8) :
    ((s.setChange chg st).put F.PLX_CHG_OWNER c).get F.PLX_CHG_STATE = chg :=
  (State.get_put_ne _ _ _ _ (by decide)).trans (s.setChange_state st hc)

theorem loadPart_accepted (s : State) (h : Hdr) (pkg : Package) (may : s.canAsk h (.load pkg)) (idle : s.get F.PLX_CHG_STATE = Chg.idle)
    (fresh : s.prog.newPkg = none) (first : s.prog.pkg = none → s.mode = .stop) (mode : s.mode = .run ∨ s.mode = .stop ∨ s.mode = .hold) :
    ∃ t, exec (.loadPart h pkg) s = .next t ∧ t.told h.by_ St.pending [] ∧ t.get F.PLX_CHG_STATE = Chg.loading ∧
      t.prog = { s.prog with loaded := some pkg, prev := none, loadBy := h.by_ } := by
  have go : s.loadRefusal = none := by
    unfold State.loadRefusal
    cases hp : s.prog.pkg with
    | none => simp [idle, fresh, first hp]
    | some p => rcases mode with e | e | e <;> simp [idle, fresh, e]
  obtain ⟨t, run, told, mask⟩ := exec_answers (st := St.pending) (res := [])
    (v := ((s.setChange Chg.loading St.pending).put F.PLX_CHG_OWNER h.ctx).modProg
      fun x => { x with loaded := some pkg, prev := none, loadBy := h.by_ }) (m := HxmMsg.load pkg) rfl may fun x y hy => by
    refine ⟨(((s.begin.setSession h.ctx y).setChange Chg.loading St.pending).put F.PLX_CHG_OWNER h.ctx).modProg
      fun x => { x with loaded := some pkg, prev := none, loadBy := h.by_ }, ?_, ?_, rfl⟩
    · show State.ans h.by_ ((s.begin.setSession h.ctx y).load h.by_ h.ctx pkg) = _
      unfold State.load
      rw [show (s.begin.setSession h.ctx y).loadRefusal = none from go]
      rfl
    · show ((s.begin.setSession h.ctx y).session h.ctx).isSome = true
      rw [State.session_setSession_self]; rfl
  refine ⟨t, run, told, ?_, State.prog_of_mask mask⟩
  rw [State.get_of_mask mask, State.modProg_get]
  exact s.ownedChange_state _ _ (by decide)

theorem loadPart_refused (s : State) (h : Hdr) (pkg : Package) (may : s.canAsk h (.load pkg)) (busy : s.get F.PLX_CHG_STATE ≠ Chg.idle) :
    ∃ t, exec (.loadPart h pkg) s = .next t ∧ t.told h.by_ St.changeActive [] ∧ t.onlyAnswers s := by
  have go : s.loadRefusal = some St.changeActive := by
    unfold State.loadRefusal
    simp [busy]
  refine exec_only_answers (m := HxmMsg.load pkg) rfl may fun x y _ => ?_
  show State.ans h.by_ ((s.begin.setSession h.ctx y).load h.by_ h.ctx pkg) = _
  unfold State.load
  rw [show (s.begin.setSession h.ctx y).loadRefusal = some St.changeActive from go]
  rfl

@[simp] theorem State.setChange_prog (s : State) (chg st : Nat) : (s.setChange chg st).prog = s.prog := rfl
@[simp] theorem State.setChange_gal (s : State) (chg st : Nat) : (s.setChange chg st).gal = s.gal := rfl

theorem State.mono_of {s t : State} (hf : t.frame = s.frame) (ht : t.time = s.time) : t.mono = s.mono := by
  unfold State.mono State.now
  rw [hf, ht]

/-- The report of a plan changes neither the packages nor the session contexts. -/
theorem State.buildReport_parts (s : State) (p q : Package) : (s.buildReport p q).gal = s.gal ∧
    (s.buildReport p q).prog.pkg = s.prog.pkg ∧ (s.buildReport p q).prog.loaded = s.prog.loaded ∧ (s.buildReport p q).mono = s.mono := by
  refine ⟨?_, ?_, ?_, State.mono_of ?_ ?_⟩ <;>
    simp only [State.buildReport, State.modProg_gal, State.put_gal, State.modProg_prog, State.put_prog, State.modProg_frame,
      State.put_frame, State.modProg_time, State.put_time]

theorem prepare_told (s : State) (h : Hdr) (p q : Package) (big : Bool) (may : s.canAsk h .prepare) (pkg : s.prog.pkg = some p)
    (loaded : s.prog.loaded = some q) (state : s.get F.PLX_CHG_STATE = Chg.loaded) (own : s.ownsChange h.ctx = true)
    (ready : s.pairReady = true)
    (hbig : big = decide (2000 < Config.carryTime (carriedSyms p q).length (retypedSyms p q).length)) :
    ∃ t, exec (.prepare h) s = .next t ∧ t.told h.by_ (if big = true then St.carryTooLarge else St.done) [] ∧
      t.get F.PLX_CHG_STATE = (if big = true then Chg.loaded else Chg.prepared) ∧
      t.get F.PLX_CHG_STATUS = (if big = true then St.carryTooLarge else St.done) ∧ t.prog.pkg = some p ∧ t.prog.loaded = some q := by
  have eq : ∀ y, (s.begin.setSession h.ctx y).prepare h.ctx =
      if big then (((s.begin.setSession h.ctx y).put F.PLX_CHG_OWNER h.ctx).put F.PLX_CHG_STATUS St.carryTooLarge, St.carryTooLarge)
      else ((((s.begin.setSession h.ctx y).put F.PLX_CHG_OWNER h.ctx).buildReport p q).setChange Chg.prepared St.done, St.done) := by
    intro y
    unfold State.prepare
    rw [show (s.begin.setSession h.ctx y).prog.pkg = some p from pkg, show (s.begin.setSession h.ctx y).prog.loaded = some q from loaded]
    dsimp only
    rw [if_neg (show ¬((s.begin.setSession h.ctx y).get F.PLX_CHG_STATE ≠ Chg.loaded) from fun e => e state),
      if_neg (by rw [show (s.begin.setSession h.ctx y).ownsChange h.ctx = true from own]; decide),
      show (s.begin.setSession h.ctx y).pairReady = true from ready]
    subst hbig
    by_cases e : 2000 < Config.carryTime (carriedSyms p q).length (retypedSyms p q).length
    · simp only [e, if_true, decide_true]
      rw [if_neg (by decide)]
    · simp [e]
  have stands : ∀ y, ((s.begin.setSession h.ctx y).session h.ctx).isSome = true := fun y => by
    rw [State.session_setSession_self]; rfl
  cases big with
  | true =>
    obtain ⟨t, u, run, told, ⟨state', status, prog⟩, mask⟩ := exec_answers_of (st := St.carryTooLarge) (res := []) (m := HxmMsg.prepare)
      (c := .prepare h) (P := fun u => u.get F.PLX_CHG_STATE = Chg.loaded ∧ u.get F.PLX_CHG_STATUS = St.carryTooLarge ∧ u.prog = s.prog)
      rfl may fun x y hy => by
      refine ⟨_, congrArg (State.ans h.by_) (eq y), stands y, ?_, ?_, rfl⟩
      · rw [if_pos rfl, State.get_put_ne _ _ _ _ (by decide), State.get_put_ne _ _ _ _ (by decide)]
        exact state
      · rw [if_pos rfl, State.get_put_self]
        rfl
    have prog := (State.prog_of_mask mask).trans prog
    exact ⟨t, run, told, (State.get_of_mask mask _).trans state', (State.get_of_mask mask _).trans status, prog ▸ pkg, prog ▸ loaded⟩
  | false =>
    obtain ⟨t, u, run, told, ⟨state', status, pkg', loaded'⟩, mask⟩ := exec_answers_of (st := St.done) (res := []) (m := HxmMsg.prepare)
      (c := .prepare h) (P := fun u => u.get F.PLX_CHG_STATE = Chg.prepared ∧ u.get F.PLX_CHG_STATUS = St.done ∧
        u.prog.pkg = some p ∧ u.prog.loaded = some q)
      rfl may fun x y hy => by
      obtain ⟨gal, pkg', loaded', -⟩ := ((s.begin.setSession h.ctx y).put F.PLX_CHG_OWNER h.ctx).buildReport_parts p q
      refine ⟨_, congrArg (State.ans h.by_) (eq y), ?_, ?_, ?_, ?_, ?_⟩
      · rw [if_neg (by decide), State.session_of_gal (State.setChange_gal ..), State.session_of_gal gal]
        exact stands y
      · exact State.setChange_state _ _ (by decide)
      · exact State.setChange_status _ _ (by decide)
      · rw [if_neg (by decide), State.setChange_prog]; exact pkg'.trans pkg
      · rw [if_neg (by decide), State.setChange_prog]; exact loaded'.trans loaded
    exact ⟨t, run, told, (State.get_of_mask mask _).trans state', (State.get_of_mask mask _).trans status,
      (congrArg (·.pkg) (State.prog_of_mask mask) :).trans pkg', (congrArg (·.loaded) (State.prog_of_mask mask) :).trans loaded'⟩

/-- A SWITCH finds a plan and a mode that it may wait in. -/
theorem State.switchReq_eq {u : State} (o : Origin) (c : Nat) (pkg : u.prog.pkg ≠ none) (state : u.get F.PLX_CHG_STATE = Chg.prepared)
    (mode : u.mode = .run ∨ u.mode = .stop) :
    u.switchReq o c = if u.ownsChange c then (u.scheduleSwitch o c, St.pending) else (u, St.changeActive) := by
  have go : (u.prog.pkg.isNone || decide (u.get F.PLX_CHG_STATE ≠ Chg.prepared) || !(decide (u.mode = .run) || decide (u.mode = .stop))) = false := by
    have hp : u.prog.pkg.isNone = false := by cases h : u.prog.pkg <;> simp_all
    rcases mode with e | e <;> simp [hp, state, e]
  unfold State.switchReq
  rw [go]
  cases u.ownsChange c <;> rfl

theorem switch_accepted (s : State) (h : Hdr) (may : s.canAsk h .switch_) (pkg : s.prog.pkg ≠ none)
    (state : s.get F.PLX_CHG_STATE = Chg.prepared) (mode : s.mode = .run ∨ s.mode = .stop) (own : s.ownsChange h.ctx = true) :
    ∃ t, exec (.switch_ h) s = .next t ∧ t.told h.by_ St.pending [] ∧ t.get F.PLX_CHG_STATE = Chg.pending ∧
      t.prog = { s.prog with switchAt := some s.mono, switchBy := h.by_ } := by
  obtain ⟨t, run, told, mask⟩ := exec_answers (st := St.pending) (res := []) (v := s.scheduleSwitch h.by_ h.ctx)
    (m := HxmMsg.switch_) rfl may fun x y hy => by
    refine ⟨(s.begin.setSession h.ctx y).scheduleSwitch h.by_ h.ctx, ?_, ?_, rfl⟩
    · show State.ans h.by_ ((s.begin.setSession h.ctx y).switchReq h.by_ h.ctx) = _
      rw [State.switchReq_eq (u := s.begin.setSession h.ctx y) h.by_ h.ctx pkg state mode,
        if_pos (show (s.begin.setSession h.ctx y).ownsChange h.ctx = true from own)]
      rfl
    · show ((s.begin.setSession h.ctx y).session h.ctx).isSome = true
      rw [State.session_setSession_self]; rfl
  refine ⟨t, run, told, ?_, State.prog_of_mask mask⟩
  rw [State.get_of_mask mask, State.scheduleSwitch, State.modProg_get]
  exact s.ownedChange_state _ _ (by decide)

theorem switch_refused (s : State) (h : Hdr) (may : s.canAsk h .switch_) (pkg : s.prog.pkg ≠ none)
    (state : s.get F.PLX_CHG_STATE = Chg.prepared) (mode : s.mode = .run ∨ s.mode = .stop) (own : s.ownsChange h.ctx = false) :
    ∃ t, exec (.switch_ h) s = .next t ∧ t.told h.by_ St.changeActive [] ∧ t.onlyAnswers s := by
  refine exec_only_answers (m := HxmMsg.switch_) rfl may fun x y _ => ?_
  show State.ans h.by_ ((s.begin.setSession h.ctx y).switchReq h.by_ h.ctx) = _
  rw [State.switchReq_eq (u := s.begin.setSession h.ctx y) h.by_ h.ctx pkg state mode,
    if_neg (by rw [show (s.begin.setSession h.ctx y).ownsChange h.ctx = false from own]; decide)]
  rfl

theorem discard_told (s : State) (h : Hdr) (may : s.canAsk h .discard)
    (state : s.get F.PLX_CHG_STATE = Chg.loaded ∨ s.get F.PLX_CHG_STATE = Chg.prepared) (own : s.ownsChange h.ctx = true) :
    ∃ t, exec (.discard h) s = .next t ∧ t.told h.by_ St.done [] ∧ t.get F.PLX_CHG_STATE = Chg.idle ∧
      t.get F.PLX_CHG_OWNER = 1023 ∧ t.prog = { s.prog with loaded := none } := by
  obtain ⟨t, run, told, mask⟩ := exec_answers (st := St.done) (res := [])
    (v := ((s.setChange Chg.idle St.done).put F.PLX_CHG_OWNER 1023).modProg fun x => { x with loaded := none })
    (m := HxmMsg.discard) rfl may fun x y hy => by
    refine ⟨(((s.begin.setSession h.ctx y).setChange Chg.idle St.done).put F.PLX_CHG_OWNER 1023).modProg fun x => { x with loaded := none },
      ?_, ?_, rfl⟩
    · show State.ans h.by_ ((s.begin.setSession h.ctx y).discard h.ctx) = _
      have go : (decide ((s.begin.setSession h.ctx y).get F.PLX_CHG_STATE ≠ Chg.loaded) &&
          decide ((s.begin.setSession h.ctx y).get F.PLX_CHG_STATE ≠ Chg.prepared)) = false := by
        show (decide (s.get F.PLX_CHG_STATE ≠ Chg.loaded) && decide (s.get F.PLX_CHG_STATE ≠ Chg.prepared)) = false
        rcases state with e | e <;> simp [e]
      unfold State.discard
      rw [go, if_neg (by decide), if_neg (by rw [show (s.begin.setSession h.ctx y).ownsChange h.ctx = true from own]; decide)]
      rfl
    · show ((s.begin.setSession h.ctx y).session h.ctx).isSome = true
      rw [State.session_setSession_self]; rfl
  refine ⟨t, run, told, ?_, ?_, State.prog_of_mask mask⟩
  · rw [State.get_of_mask mask, State.modProg_get]
    exact s.ownedChange_state _ _ (by decide)
  · rw [State.get_of_mask mask, State.modProg_get, State.get_put_self]
    rfl

theorem revert_told (s : State) (h : Hdr) (p q : Package) (may : s.canAsk h .revert) (pkg : s.prog.pkg = some p)
    (prev : s.prog.prev = some q) (state : s.get F.PLX_CHG_STATE = Chg.idle) (mode : s.mode = .run ∨ s.mode = .stop) :
    ∃ t, exec (.revert h) s = .next t ∧ t.told h.by_ St.pending [] ∧ t.get F.PLX_CHG_STATE = Chg.pending ∧
      t.prog.loaded = some q ∧ t.prog.prev = none ∧ t.prog.pkg = some p ∧ t.prog.switchAt = some s.mono := by
  have go : (!(decide (s.mode = .run) || decide (s.mode = .stop))) = false := by rcases mode with e | e <;> simp [e]
  have eq : ∀ y, (s.begin.setSession h.ctx y).revertReq h.by_ h.ctx =
      ((((s.begin.setSession h.ctx y).buildReport p q).modProg fun x => { x with loaded := some q, prev := none }).scheduleSwitch h.by_ h.ctx,
        St.pending) := fun y => by
    unfold State.revertReq
    rw [show (s.begin.setSession h.ctx y).prog.pkg = some p from pkg, show (s.begin.setSession h.ctx y).prog.prev = some q from prev]
    dsimp only
    rw [if_neg (show ¬((s.begin.setSession h.ctx y).get F.PLX_CHG_STATE ≠ Chg.idle) from fun e => e state),
      show (!(decide ((s.begin.setSession h.ctx y).mode = .run) || decide ((s.begin.setSession h.ctx y).mode = .stop))) = false from go,
      if_neg (by decide)]
  obtain ⟨t, u, run, told, ⟨state', parts⟩, mask⟩ := exec_answers_of (st := St.pending) (res := []) (m := HxmMsg.revert)
    (c := .revert h) (P := fun u => u.get F.PLX_CHG_STATE = Chg.pending ∧ u.prog.loaded = some q ∧ u.prog.prev = none ∧
      u.prog.pkg = some p ∧ u.prog.switchAt = some s.mono) rfl may fun x y hy => by
    obtain ⟨gal, pkg', -, mono⟩ := (s.begin.setSession h.ctx y).buildReport_parts p q
    have eq := eq y
    generalize (s.begin.setSession h.ctx y).buildReport p q = w at gal pkg' mono eq
    refine ⟨_, congrArg (State.ans h.by_) eq, ?_, ?_, rfl, rfl, pkg'.trans pkg, congrArg some mono⟩
    · exact (congrArg Option.isSome (State.session_of_gal gal h.ctx)).trans (by rw [State.session_setSession_self]; rfl)
    · rw [State.scheduleSwitch, State.modProg_get]
      exact State.ownedChange_state _ _ _ (by decide)
  refine ⟨t, run, told, (State.get_of_mask mask _).trans state', ?_⟩
  rw [State.prog_of_mask mask]
  exact parts

theorem changeSet_told (s : State) (h : Hdr) (l : List (Nat × Nat)) (may : s.canAsk h (.changeSet l))
    (mode : s.mode = .stop ∨ s.mode = .run ∨ s.mode = .hold) (some_ : l ≠ []) (few : l.length ≤ 64) :
    ∃ t, exec (.changeSet h l) s = .next t ∧
      match s.changeRefusal l with
      | none => t.told h.by_ St.pending [] ∧ t.prog = { s.prog with changes := s.prog.changes ++ [{ pairs := l, by_ := h.by_ }] }
      | some st => t.told h.by_ st [] ∧ t.onlyAnswers s := by
  obtain ⟨⟨-, ⟨up, -⟩, -⟩, -⟩ := id may
  have refusal : ∀ (y : Session) l, (s.begin.setSession h.ctx y).changeRefusal l = s.changeRefusal l := by
    intro y l
    induction l with
    | nil => rfl
    | cons p l ih =>
      unfold State.changeRefusal
      rw [ih]
      rfl
  have go : (!s.live || !(decide (s.mode = .stop) || decide (s.mode = .run) || decide (s.mode = .hold))) = false := by
    rcases mode with e | e | e <;> simp [up, e]
  have size : (decide (l = []) || decide (64 < l.length)) = false := by simp [some_]; omega
  have eq : ∀ y, (s.begin.setSession h.ctx y).changeSet h.by_ l = (s.changeRefusal l).elim
      ((s.begin.setSession h.ctx y).modProg fun p => { p with changes := p.changes ++ [{ pairs := l, by_ := h.by_ }] }, St.pending)
      fun st => (s.begin.setSession h.ctx y, st) := by
    intro y
    unfold State.changeSet
    rw [show (!(s.begin.setSession h.ctx y).live || !(decide ((s.begin.setSession h.ctx y).mode = .stop) ||
      decide ((s.begin.setSession h.ctx y).mode = .run) || decide ((s.begin.setSession h.ctx y).mode = .hold))) = false from go, size,
      if_neg (by decide), if_neg (by decide), refusal y l]
    cases s.changeRefusal l <;> rfl
  cases hr : s.changeRefusal l with
  | none =>
    obtain ⟨t, run, told, mask⟩ := exec_answers (st := St.pending) (res := [])
      (v := s.modProg fun p => { p with changes := p.changes ++ [{ pairs := l, by_ := h.by_ }] })
      (m := HxmMsg.changeSet l) rfl may fun x y hy => by
      refine ⟨(s.begin.setSession h.ctx y).modProg fun p => { p with changes := p.changes ++ [{ pairs := l, by_ := h.by_ }] }, ?_, ?_, rfl⟩
      · show State.ans h.by_ ((s.begin.setSession h.ctx y).changeSet h.by_ l) = _
        rw [eq y, hr]
        rfl
      · show ((s.begin.setSession h.ctx y).session h.ctx).isSome = true
        rw [State.session_setSession_self]; rfl
    exact ⟨t, run, told, State.prog_of_mask mask⟩
  | some st =>
    refine exec_only_answers (m := HxmMsg.changeSet l) rfl may fun x y _ => ?_
    show State.ans h.by_ ((s.begin.setSession h.ctx y).changeSet h.by_ l) = _
    rw [eq y, hr]
    rfl

/-! ### Recipes (R224) -/

theorem recipe_told (s : State) (h : Hdr) (p : RecipePart) (l : SMap (List Break)) (may : s.canAsk h (.recipe p)) (first : p.first = true)
    (last : p.last = true) (free : s.get F.LGT_RCP_SWITCH_PENDING = 0) (fresh : s.light.recipeLoading = false)
    (hl : l = p.recipes.foldl (fun (m : SMap (List Break)) q => SMap.insert m q.1 q.2) []) :
    ∃ t, exec (.hxmRecipe h p) s = .next t ∧
      if (l.all fun q => decide (q.1 < 256) && recipeOk q.2) = true then
        t.told h.by_ St.pending [] ∧ t.get F.LGT_RCP_SWITCH_PENDING = 1 ∧ t.light.recipes2 = l ∧ t.light.recipes = s.light.recipes
      else t.told h.by_ St.recipeInvalid [] ∧ t.get F.LGT_RCP_SWITCH_PENDING = 0 ∧ t.light.recipes2 = [] := by
  have eq : ∀ y, (s.begin.setSession h.ctx y).recipePart h.by_ p =
      if (l.all fun q => decide (q.1 < 256) && recipeOk q.2) then
        ((((s.begin.setSession h.ctx y).modLight fun x => { x with recipes2 := l, recipeLoading := true, recipeBy := h.by_ }).put
          F.LGT_RCP_SWITCH_PENDING 1).put F.LGT_RCP_STATUS St.pending, St.pending)
      else ((((s.begin.setSession h.ctx y).modLight fun x => { x with recipes2 := [], recipeLoading := false }).put
        F.LGT_RCP_STATUS St.recipeInvalid), St.recipeInvalid) := by
    intro y
    have waits : (s.begin.setSession h.ctx y).flag F.LGT_RCP_SWITCH_PENDING = false := by
      show s.flag F.LGT_RCP_SWITCH_PENDING = false
      simp [free]
    unfold State.recipePart
    rw [waits, show (s.begin.setSession h.ctx y).light.recipeLoading = false from fresh, first, last]
    dsimp only
    subst hl
    rfl
  by_cases ok : (l.all fun q => decide (q.1 < 256) && recipeOk q.2) = true
  · obtain ⟨t, run, told, mask⟩ := exec_answers (st := St.pending) (res := [])
      (v := ((s.modLight fun x => { x with recipes2 := l, recipeLoading := true, recipeBy := h.by_ }).put
          F.LGT_RCP_SWITCH_PENDING 1).put F.LGT_RCP_STATUS St.pending) (m := HxmMsg.recipe p) rfl may fun x y hy => by
      refine ⟨(((s.begin.setSession h.ctx y).modLight fun x => { x with recipes2 := l, recipeLoading := true, recipeBy := h.by_ }).put
          F.LGT_RCP_SWITCH_PENDING 1).put F.LGT_RCP_STATUS St.pending, ?_, ?_, rfl⟩
      · show State.ans h.by_ ((s.begin.setSession h.ctx y).recipePart h.by_ p) = _
        rw [eq y, if_pos ok]
        rfl
      · show ((s.begin.setSession h.ctx y).session h.ctx).isSome = true
        rw [State.session_setSession_self]; rfl
    refine ⟨t, run, ?_⟩
    rw [if_pos ok]
    refine ⟨told, ?_, ?_, ?_⟩
    · rw [State.get_of_mask mask, State.get_put_ne _ _ _ _ (by decide), State.get_put_self]
      rfl
    · rw [State.light_of_mask mask]; rfl
    · rw [State.light_of_mask mask]; rfl
  · obtain ⟨t, run, told, mask⟩ := exec_answers (st := St.recipeInvalid) (res := [])
      (v := (s.modLight fun x => { x with recipes2 := [], recipeLoading := false }).put F.LGT_RCP_STATUS St.recipeInvalid)
      (m := HxmMsg.recipe p) rfl may fun x y hy => by
      refine ⟨((s.begin.setSession h.ctx y).modLight fun x => { x with recipes2 := [], recipeLoading := false }).put
          F.LGT_RCP_STATUS St.recipeInvalid, ?_, ?_, rfl⟩
      · show State.ans h.by_ ((s.begin.setSession h.ctx y).recipePart h.by_ p) = _
        rw [eq y, if_neg ok]
        rfl
      · show ((s.begin.setSession h.ctx y).session h.ctx).isSome = true
        rw [State.session_setSession_self]; rfl
    refine ⟨t, run, ?_⟩
    rw [if_neg ok]
    refine ⟨told, ?_, ?_⟩
    · rw [State.get_of_mask mask, State.get_put_ne _ _ _ _ (by decide), State.modLight_get]
      exact free
    · rw [State.light_of_mask mask]; rfl

/-! ### Images and campaigns (R301, R567) -/

theorem image_told (s : State) (h : Hdr) (data : List Nat) (may : s.canAsk h (.image 0 data)) (mode : s.mode ≠ .recovery) (idle : s.upd.kind = 0)
    (free : s.get F.UPD_STAT_STATE ≠ UpdSt.verifying) (some_ : data ≠ []) (few : data.length ≤ 1024) :
    ∃ t, exec (.hxmImage h 0 data) s = .next t ∧ t.told h.by_ St.done [] ∧ t.get F.UPD_STAT_STATE = UpdSt.receiving ∧
      t.upd.next = data.length := by
  obtain ⟨t, run, told, mask⟩ := exec_answers (st := St.done) (res := [])
    (v := ((s.setBank s.inactiveBank (Bank.write { gen := (s.bank s.inactiveBank).gen } data)).updState UpdSt.receiving St.pending).modUpd
      fun u => { u with next := data.length }) (m := HxmMsg.image 0 data) rfl may fun x y hy => by
    refine ⟨(((s.begin.setSession h.ctx y).setBank s.inactiveBank (Bank.write { gen := (s.bank s.inactiveBank).gen } data)).updState
      UpdSt.receiving St.pending).modUpd fun u => { u with next := data.length }, ?_, ?_, rfl⟩
    · show State.ans h.by_ ((s.begin.setSession h.ctx y).msgImage h.by_ 0 data) = _
      unfold State.msgImage State.imagePart
      rw [if_neg (show ¬(s.begin.setSession h.ctx y).mode = .recovery from mode)]
      dsimp only
      rw [if_neg (show ¬((s.begin.setSession h.ctx y).upd.kind ≠ 0) from fun e => e idle),
        if_neg (show ¬(s.begin.setSession h.ctx y).get F.UPD_STAT_STATE = UpdSt.verifying from free), if_neg (Nat.not_lt.2 few),
        if_pos (by simp [some_])]
      rfl
    · show ((s.begin.setSession h.ctx y).session h.ctx).isSome = true
      rw [State.session_setSession_self]; rfl
  refine ⟨t, run, told, ?_, ?_⟩
  · rw [State.get_of_mask mask, State.modUpd_get, State.updState, State.get_put_ne _ _ _ _ (by decide), State.get_put_self]
    rfl
  · rw [State.upd_of_mask mask]; rfl

theorem State.setCampaign_campaign (s : State) (r : Nat) (c : Campaign) : (s.setCampaign r c).campaign r = c :=
  SMap.getD_insert_self ..

theorem campaignPart_told (s : State) (h : Hdr) (r off : Nat) (data : List Nat) (may : s.canAsk h (.campPart r off data))
    (idle : (s.campaign r).active = false) (next : off = 0 ∨ off = (s.campaign r).image.length) :
    ∃ t, exec (.campaignPart h r off data) s = .next t ∧ t.told h.by_ St.done [] ∧
      (t.campaign r).image = (if off = 0 then [] else (s.campaign r).image) ++ data.map (· % 256) := by
  have fits : ¬(off ≠ (if off = 0 then [] else (s.campaign r).image).length) := by
    rcases next with e | e
    · simp [e]
    · by_cases z : off = 0
      · simp [z]
      · simpa [z] using e
  obtain ⟨t, run, told, mask⟩ := exec_answers (st := St.done) (res := [])
    (v := s.setCampaign r { s.campaign r with image := (if off = 0 then [] else (s.campaign r).image) ++ data.map (· % 256) })
    (m := HxmMsg.campPart r off data) rfl may fun x y hy => by
    refine ⟨(s.begin.setSession h.ctx y).setCampaign r
      { s.campaign r with image := (if off = 0 then [] else (s.campaign r).image) ++ data.map (· % 256) }, ?_, ?_, rfl⟩
    · show State.ans h.by_ ((s.begin.setSession h.ctx y).campaignPart r off data) = _
      unfold State.campaignPart
      dsimp only
      rw [show (s.begin.setSession h.ctx y).campaign r = s.campaign r from rfl, idle, if_neg (by decide), if_neg fits]
      rfl
    · show ((s.begin.setSession h.ctx y).session h.ctx).isSome = true
      rw [State.session_setSession_self]; rfl
  refine ⟨t, run, told, ?_⟩
  have same : ∀ v : State, t.net = v.net → t.campaign r = v.campaign r := fun v e => by
    unfold State.campaign
    rw [e]
  rw [same _ (State.net_of_mask mask), State.setCampaign_campaign]

/-- Requests to the members of a campaign touch the network's part alone. -/
theorem State.campaignAll_kept {α : Type} (p : State → α) (hp : ∀ (s : State) r x, p (s.setRadio r x) = p s) (s : State) (r : Nat)
    (c : Campaign) (op : Nat) (bodies : List (List Nat)) : p (s.campaignAll r c op bodies) = p s := by
  unfold State.campaignAll
  refine foldl_keeps p _ (fun u m => ?_) _ _
  split
  · rfl
  · exact foldl_keeps p _ (fun w b => hp ..) _ _

theorem campaignStart_told (s : State) (h : Hdr) (r kind : Nat) (l : List Nat) (may : s.canAsk h (.campStart r kind l))
    (idle : (s.campaign r).active = false) (image : (s.campaign r).image ≠ []) (some_ : l ≠ []) (on : s.get (F.RAD_CFG_EN.at r) ≠ 0)
    (quota : (s.taken h 0x10).quotaOk 2 = true) :
    ∃ t, exec (.campaignStart h r kind l) s = .next t ∧ t.told h.by_ St.pending [] ∧ t.get (F.NET_UPD_STATUS.at r) = St.pending ∧
      t.net.campNo = s.net.campNo + 1 := by
  obtain ⟨x, y, -, -, hy, taken, run⟩ := exec_ask (m := .campStart r kind l) rfl may
  have quota : (s.begin.setSession h.ctx y).quotaOk 2 = true := taken ▸ quota
  generalize hv : s.begin.setSession h.ctx y = v at *
  have camp : v.campaign r = s.campaign r := by rw [← hv]; rfl
  have flag : (!v.flag (F.RAD_CFG_EN.at r)) = false := by
    rw [← hv]
    show (!s.flag (F.RAD_CFG_EN.at r)) = false
    simp [on]
  have campNo : v.net.campNo = s.net.campNo := by rw [← hv]; rfl
  have stands : (v.session h.ctx).isSome = true := by rw [← hv, State.session_setSession_self]; rfl
  have act : ∃ u, v.campaignStart h.by_ r kind l = (u, St.pending) ∧ (u.session h.ctx).isSome = true ∧
      u.get (F.NET_UPD_STATUS.at r) = St.pending ∧ u.net.campNo = s.net.campNo + 1 := by
    unfold State.campaignStart
    dsimp only
    rw [camp, idle, if_neg (by decide), flag, if_neg (by simp [image, some_])]
    unfold State.openSession
    rw [if_pos quota]
    refine ⟨_, rfl, ?_, ?_, ?_⟩
    · rw [State.campaignAll_kept (fun u => (u.session h.ctx).isSome) fun _ _ _ => rfl]
      show ((v.setSession v.freeContext _).session h.ctx).isSome = true
      by_cases e : h.ctx = v.freeContext
      · rw [← e, State.session_setSession_self]; rfl
      · rw [State.session_setSession_ne _ _ e]; exact stands
    · rw [State.campaignAll_kept (fun u => u.get (F.NET_UPD_STATUS.at r)) fun _ _ _ => rfl, State.get_put_self]
      rfl
    · rw [State.campaignAll_kept (fun u => u.net.campNo) fun _ _ _ => rfl]
      exact congrArg (· + 1) campNo
  obtain ⟨u, eq, stand, status, number⟩ := act
  have run : exec (.campaignStart h r kind l) s = .next (s.after (u.answer h.by_ St.pending [])) := by
    rw [run]
    show Host.Outcome.next (s.after (State.ans h.by_ (v.campaignStart h.by_ r kind l))) = _
    rw [eq]
    rfl
  obtain ⟨told, mask⟩ := State.answered_told (s := s) (u := u) (h := h) St.pending [] stand
  exact ⟨_, run, told, (State.get_of_mask mask _).trans status, (congrArg (·.campNo) (State.net_of_mask mask) :).trans number⟩

/-- Settles O26: each request by its own state, where it may act and where it may not. -/
theorem changesOfTheProgramPassTheirStates : Obligations.ChangesOfTheProgramPassTheirStates := by
  unfold Obligations.ChangesOfTheProgramPassTheirStates
  exact ⟨loadPart_accepted, loadPart_refused,
    fun s h p q big may pkg loaded state own _ ready hbig => prepare_told s h p q big may pkg loaded state own ready hbig,
    switch_accepted, switch_refused, discard_told, revert_told, changeSet_told, recipe_told, image_told,
    fun s h r off data may _ idle next => campaignPart_told s h r off data may idle next,
    fun s h r kind l may _ idle image some_ on quota => campaignStart_told s h r kind l may idle image some_ on quota⟩

end Sys2Proof.Machine

/-! ### Forces, watches, debug requests and raw frames (O27) -/
namespace Sys2Proof.Machine

/-- A context that has just been stored stands. -/
theorem State.stored_stands (u : State) (c : Nat) (y : Session) : ((u.setSession c y).session c).isSome = true := by
  rw [State.session_setSession_self]
  rfl

/-- A request that changes the program's part alone. -/
theorem exec_answers_prog {s : State} {h : Hdr} {m : HxmMsg} {c : Instr} {st : Nat} {res : List Nat} (g : Prog → Prog) (hm : m.sentAs h c)
    (may : s.canAsk h m) (acts : ∀ x y, y.state = 2 →
      (s.begin.setSession h.ctx y).msgDo x h.ctx h.num m = ((s.begin.setSession h.ctx y).modProg g).answer h.by_ st res) :
    ∃ t, exec c s = .next t ∧ t.told h.by_ st res ∧ t.prog = g s.prog := by
  obtain ⟨t, run, told, mask⟩ := exec_answers (v := s.modProg g) hm may fun x y hy =>
    ⟨_, acts x y hy, State.stored_stands s.begin h.ctx y, rfl⟩
  exact ⟨t, run, told, State.prog_of_mask mask⟩

/-! ### Forces (R160 to R162) -/

/-- The mode in which forces are asked for. -/
theorem forceMode {s : State} (up : s.live = true) (mode : s.mode = .stop ∨ s.mode = .run ∨ s.mode = .hold) :
    (!s.live || !(decide (s.mode = .stop) || decide (s.mode = .run) || decide (s.mode = .hold))) = false := by
  rcases mode with e | e | e <;> simp [up, e]

theorem State.canAsk.live {s : State} {h : Hdr} {m : HxmMsg} (may : s.canAsk h m) : s.live = true := by
  obtain ⟨⟨-, ⟨up, -⟩, -⟩, -⟩ := may
  exact up

/-- What a force on a symbol comes to. -/
theorem State.forceSet_eq {s : State} {id v : Nat} {y : Symbol} (o : Origin) (up : s.live = true)
    (mode : s.mode = .stop ∨ s.mode = .run ∨ s.mode = .hold) (sym : s.symbol id = some y) :
    s.forceSet o id v = if y.safety || !forceable y.area then (s, St.notForceable)
      else if !s.forcesToBe.contains id && decide (1024 ≤ s.forcesToBe.length) then (s, St.forceFull)
      else (s.modProg fun p => { p with forceReqs := p.forceReqs ++
        [{ sym := id, value := some (if bitArea y.area then v % 2 else v % 2 ^ 32), by_ := o }] }, St.pending) := by
  unfold State.forceSet
  rw [forceMode up mode, sym]
  rfl

theorem forceSet_told (s : State) (h : Hdr) (id v : Nat) (y : Symbol) (may : s.canAsk h (.forceSet id v))
    (mode : s.mode = .stop ∨ s.mode = .run ∨ s.mode = .hold) (sym : s.symbol id = some y) :
    (y.safety = true ∨ forceable y.area = false →
      ∃ t, exec (.forceSet h id v) s = .next t ∧ t.told h.by_ St.notForceable [] ∧ t.onlyAnswers s) ∧
    (y.safety = false → forceable y.area = true → id ∈ s.forcesToBe ∨ s.forcesToBe.length < 1024 →
      ∃ t, exec (.forceSet h id v) s = .next t ∧ t.told h.by_ St.pending [] ∧
        t.prog = { s.prog with forceReqs := s.prog.forceReqs ++
          [{ sym := id, value := some (if bitArea y.area then v % 2 else v % 2 ^ 32), by_ := h.by_ }] }) ∧
    (y.safety = false → forceable y.area = true → id ∉ s.forcesToBe → 1024 ≤ s.forcesToBe.length →
      ∃ t, exec (.forceSet h id v) s = .next t ∧ t.told h.by_ St.forceFull [] ∧ t.onlyAnswers s) := by
  have eq : ∀ z, (s.begin.setSession h.ctx z).forceSet h.by_ id v = _ := fun z =>
    State.forceSet_eq (s := s.begin.setSession h.ctx z) (v := v) h.by_ may.live mode sym
  have toBe : ∀ z, (s.begin.setSession h.ctx z).forcesToBe = s.forcesToBe := fun _ => rfl
  simp only [toBe] at eq
  refine ⟨fun no => ?_, fun safe area room => ?_, fun safe area new full => ?_⟩
  · refine exec_only_answers (m := .forceSet id v) rfl may fun x z _ => ?_
    show State.ans h.by_ ((s.begin.setSession h.ctx z).forceSet h.by_ id v) = _
    rw [eq z, if_pos (by rcases no with e | e <;> simp [e])]
    rfl
  · refine exec_answers_prog (m := .forceSet id v) (fun p => { p with forceReqs := p.forceReqs ++
      [{ sym := id, value := some (if bitArea y.area then v % 2 else v % 2 ^ 32), by_ := h.by_ }] }) rfl may fun x z _ => ?_
    show State.ans h.by_ ((s.begin.setSession h.ctx z).forceSet h.by_ id v) = _
    have go : (!s.forcesToBe.contains id && decide (1024 ≤ s.forcesToBe.length)) = false := by
      rcases room with e | e
      · simp [e]
      · simp; omega
    rw [eq z, if_neg (by simp [safe, area]), go]
    rfl
  · refine exec_only_answers (m := .forceSet id v) rfl may fun x z _ => ?_
    show State.ans h.by_ ((s.begin.setSession h.ctx z).forceSet h.by_ id v) = _
    rw [eq z, if_neg (by simp [safe, area]), if_pos (by simp [new, full])]
    rfl

theorem forceClear_told (s : State) (h : Hdr) (id : Nat) (y : Symbol) (may : s.canAsk h (.forceClear id))
    (mode : s.mode = .stop ∨ s.mode = .run ∨ s.mode = .hold) (sym : s.symbol id = some y) (there : id ∈ s.forcesToBe) :
    ∃ t, exec (.forceClear h id) s = .next t ∧ t.told h.by_ St.pending [] ∧
      t.prog = { s.prog with forceReqs := s.prog.forceReqs ++ [{ sym := id, value := none, by_ := h.by_ }] } := by
  refine exec_answers_prog (m := .forceClear id) (fun p => { p with forceReqs := p.forceReqs ++
    [{ sym := id, value := none, by_ := h.by_ }] }) rfl may fun x z _ => ?_
  show State.ans h.by_ ((s.begin.setSession h.ctx z).forceClear h.by_ id) = _
  unfold State.forceClear
  rw [forceMode (s := s.begin.setSession h.ctx z) may.live mode, show (s.begin.setSession h.ctx z).symbol id = some y from sym]
  dsimp only
  rw [show (s.begin.setSession h.ctx z).forcesToBe.contains id = true from by
    show s.forcesToBe.contains id = true
    simpa using there]
  rfl

/-! ### Watches (R143) -/

theorem find_first {p : Nat → Bool} {k n : Nat} (hk : k < n) (yes : p k = true) (no : ∀ j, j < k → p j = false) :
    (List.range n).find? p = some k := by
  rw [List.find?_range_eq_some]
  exact ⟨yes, List.mem_range.2 hk, fun j hj => by simp [no j hj]⟩

theorem watchAdd_told (s : State) (h : Hdr) (id k : Nat) (y : Symbol) (may : s.canAsk h (.watchAdd id)) (sym : s.symbol id = some y)
    (hk : k < 64) (free : ∀ w ∈ s.prog.watches, w.1 ≠ k) (low : ∀ j, j < k → ∃ w ∈ s.prog.watches, w.1 = j) :
    ∃ t, exec (.watchAdd h id) s = .next t ∧ t.told h.by_ St.done [k] ∧ t.prog.watches = s.prog.watches ++ [(k, id)] ∧
      t.prog.areas = s.prog.areas := by
  have first : ((List.range 64).find? fun k => !s.prog.watches.any fun w => decide (w.1 = k)) = some k := by
    refine find_first hk ?_ fun j hj => ?_
    · simpa using free
    · obtain ⟨w, hw, rfl⟩ := low j hj
      simpa using ⟨w.2, hw⟩
  obtain ⟨t, run, told, prog⟩ := exec_answers_prog (m := .watchAdd id) (c := .watchAdd h id) (st := St.done) (res := [k])
    (fun p => { p with watches := p.watches ++ [(k, id)], watchVals := SMap.erase p.watchVals k }) rfl may fun x z _ => by
    show State.ansRes h.by_ ((s.begin.setSession h.ctx z).watchAdd id) = _
    unfold State.watchAdd
    rw [show (s.begin.setSession h.ctx z).symbol id = some y from sym, if_neg (by simp),
      show ((List.range 64).find? fun k => !(s.begin.setSession h.ctx z).prog.watches.any fun w => decide (w.1 = k)) = some k from first]
    rfl
  exact ⟨t, run, told, by rw [prog], by rw [prog]⟩

theorem watchRemove_told (s : State) (h : Hdr) (k id : Nat) (may : s.canAsk h (.watchRemove k)) (there : (k, id) ∈ s.prog.watches) :
    ∃ t, exec (.watchRemove h k) s = .next t ∧ t.told h.by_ St.done [] ∧ ∀ w, w ∈ t.prog.watches ↔ w ∈ s.prog.watches ∧ w.1 ≠ k := by
  obtain ⟨t, run, told, prog⟩ := exec_answers_prog (m := .watchRemove k) (c := .watchRemove h k) (st := St.done) (res := [])
    (fun p => { p with watches := p.watches.filter fun w => w.1 ≠ k, watchVals := SMap.erase p.watchVals k }) rfl may fun x z _ => by
    show State.ans h.by_ ((s.begin.setSession h.ctx z).watchRemove k) = _
    unfold State.watchRemove
    rw [if_pos (show ((s.begin.setSession h.ctx z).prog.watches.any fun w => decide (w.1 = k)) = true from
      List.any_eq_true.2 ⟨_, there, by simp⟩)]
    rfl
  refine ⟨t, run, told, fun w => ?_⟩
  rw [prog]
  simp

/-! ### Debug requests (R137 to R142) -/

/-- PLX_BRK as the register map describes it (Table 03.7). -/
def brkReg : RegDesc :=
  ⟨"PLX_BRK", 0x50210, 32, 4, 4, 8,
    [⟨F.PLX_BRK_EN, .lck [.run, .stop, .hold], false, none⟩, ⟨F.PLX_BRK_ADDR, .lck [.run, .stop, .hold], false, none⟩]⟩

theorem findReg_brk {k b : Nat} (hk : k < 4) (hb : b < 8) :
    ∃ r, findReg (F.PLX_BRK_EN.at2 k b).addr = some (r, k, b) ∧
      r.fields = [⟨F.PLX_BRK_EN, .lck [.run, .stop, .hold], false, none⟩, ⟨F.PLX_BRK_ADDR, .lck [.run, .stop, .hold], false, none⟩] ∧
      r.addr = 0x50210 := by
  refine ⟨brkReg, ?_, rfl, rfl⟩
  interval_cases k <;> interval_cases b <;> rfl

theorem brk_keys (k b : Nat) : (F.PLX_BRK_EN.at2 k b).key ≠ (F.PLX_BRK_ADDR.at2 k b).key := by
  simp only [Fld.at2, Fld.key, F.PLX_BRK_EN, F.PLX_BRK_ADDR]
  omega

/-- A breakpoint is stored where the mode admits it. -/
theorem State.msgBreak_eq {s : State} {k b pc : Nat} (c : Nat) (en : Bool) (up : s.live = true)
    (mode : s.mode = .run ∨ s.mode = .stop ∨ s.mode = .hold) (hk : k < 4) (hb : b < 8) (hpc : pc < 2 ^ 17) :
    s.msgBreak c k b en pc = ((s.put (F.PLX_BRK_EN.at2 k b) (b2n en)).put (F.PLX_BRK_ADDR.at2 k b) pc, St.done) := by
  obtain ⟨r, reg, fields, addr⟩ := findReg_brk hk hb
  have en_sub : F.PLX_BRK_EN.sub (2 ^ 31 * b2n en + pc) = b2n en := by
    simp only [Fld.sub, F.PLX_BRK_EN]
    cases en <;> simp [b2n] <;> omega
  have pc_sub : F.PLX_BRK_ADDR.sub (2 ^ 31 * b2n en + pc) = pc := by
    simp only [Fld.sub, F.PLX_BRK_ADDR]
    cases en <;> simp [b2n] <;> omega
  have modes : ∀ d : FieldDesc, d.acc = .lck [.run, .stop, .hold] → ∀ x : RegWrite,
      (d.fixed x.i || !s.changes x d.fld || (s.live && [Mode.run, .stop, .hold].contains s.mode)) = true := by
    intro d _ x
    rcases mode with e | e | e <;> simp [up, e]
  have may : s.writeMode ⟨r, k, b, 2 ^ 31 * b2n en + pc, .session c⟩ = true := by
    unfold State.writeMode
    rw [fields]
    have : (s.live && decide (s.mode = .recovery)) = false := by rcases mode with e | e | e <;> simp [e]
    rw [this]
    simp only [List.all_cons, List.all_nil, Bool.not_false, Bool.true_or, Bool.true_and, Bool.and_true]
    rw [modes ⟨F.PLX_BRK_EN, .lck [.run, .stop, .hold], false, none⟩ rfl ⟨r, k, b, 2 ^ 31 * b2n en + pc, .session c⟩,
      modes ⟨F.PLX_BRK_ADDR, .lck [.run, .stop, .hold], false, none⟩ rfl ⟨r, k, b, 2 ^ 31 * b2n en + pc, .session c⟩]
    rfl
  have free : ∀ i, FieldDesc.fixed ⟨F.PLX_BRK_EN, .lck [.run, .stop, .hold], false, none⟩ i = false ∧
      FieldDesc.fixed ⟨F.PLX_BRK_ADDR, .lck [.run, .stop, .hold], false, none⟩ i = false := fun i => ⟨rfl, rfl⟩
  have store : s.stored ⟨r, k, b, 2 ^ 31 * b2n en + pc, .session c⟩ =
      ((s.put (F.PLX_BRK_EN.at2 k b) (b2n en)).put (F.PLX_BRK_ADDR.at2 k b) pc, St.done) := by
    unfold State.stored State.store
    rw [fields]
    simp only [List.foldl_cons, List.foldl_nil, (free k).1, (free k).2, en_sub, pc_sub]
    rfl
  have size : (decide (4 ≤ k) || decide (8 ≤ b) || decide (2 ^ 17 ≤ pc)) = false := by simp; omega
  unfold State.msgBreak
  rw [size, reg]
  dsimp only
  rw [may, store]
  rfl

theorem debugBreakpoint_told (s : State) (h : Hdr) (k b pc : Nat) (en : Bool) (may : s.canAsk h (.dbgBreak k b en pc))
    (mode : s.mode = .run ∨ s.mode = .stop ∨ s.mode = .hold) (hk : k < 4) (hb : b < 8) (hpc : pc < 2 ^ 17) :
    ∃ t, exec (.debugBreakpoint h k b en pc) s = .next t ∧ t.told h.by_ St.done [] ∧ t.get (F.PLX_BRK_EN.at2 k b) = b2n en ∧
      t.get (F.PLX_BRK_ADDR.at2 k b) = pc := by
  obtain ⟨t, run, told, mask⟩ := exec_answers (m := .dbgBreak k b en pc) (c := .debugBreakpoint h k b en pc) (st := St.done) (res := [])
    (v := (s.put (F.PLX_BRK_EN.at2 k b) (b2n en)).put (F.PLX_BRK_ADDR.at2 k b) pc) rfl may fun x z _ => by
    refine ⟨((s.begin.setSession h.ctx z).put (F.PLX_BRK_EN.at2 k b) (b2n en)).put (F.PLX_BRK_ADDR.at2 k b) pc, ?_,
      State.stored_stands s.begin h.ctx z, rfl⟩
    show State.ans h.by_ ((s.begin.setSession h.ctx z).msgBreak h.ctx k b en pc) = _
    rw [State.msgBreak_eq (s := s.begin.setSession h.ctx z) h.ctx en may.live mode hk hb hpc]
    rfl
  refine ⟨t, run, told, ?_, ?_⟩
  · rw [State.get_of_mask mask, State.get_put_ne _ _ _ _ (brk_keys k b), State.get_put_self]
    cases en <;> rfl
  · rw [State.get_of_mask mask, State.get_put_self]
    exact Nat.mod_eq_of_lt hpc

theorem debugHalt_accepted (s : State) (h : Hdr) (may : s.canAsk h .dbgHalt) (mode : s.mode = .run) (life : s.lifeAllows .halt = true) :
    ∃ t, exec (.debugHalt h) s = .next t ∧ t.told h.by_ St.pending [] ∧ t.mode = .run ∧
      t.frame.modeReqs = s.frame.modeReqs ++ [{ ev := .halt, by_ := h.by_, at_ := s.num }] := by
  obtain ⟨t, run, told, mask⟩ := exec_answers (m := .dbgHalt) (c := .debugHalt h) (st := St.pending) (res := [])
    (v := s.modeReq .halt h.by_) rfl may fun x z _ => by
    refine ⟨(s.begin.setSession h.ctx z).modeReq .halt h.by_, ?_, State.stored_stands s.begin h.ctx z, rfl⟩
    show State.ans h.by_ ((s.begin.setSession h.ctx z).sysRequest .halt h.by_) = _
    have judge : (s.begin.setSession h.ctx z).sysJudge .halt = none :=
      State.sysJudge_eq_none (s := s.begin.setSession h.ctx z) (ev := .halt) may.live life (decide_eq_true mode) nofun nofun
    unfold State.sysRequest
    rw [judge]
    rfl
  exact ⟨t, run, told, (congrArg State.mode mask :).trans mode, by rw [State.frame_of_mask mask]; rfl⟩

theorem debugHalt_refused (s : State) (h : Hdr) (may : s.canAsk h .dbgHalt) (life : s.lifeAllows .halt = true) (mode : s.mode ≠ .run) :
    ∃ t, exec (.debugHalt h) s = .next t ∧ t.told h.by_ St.mode [] ∧ t.onlyAnswers s := by
  refine exec_only_answers (m := .dbgHalt) rfl may fun x z _ => ?_
  show State.ans h.by_ ((s.begin.setSession h.ctx z).sysRequest .halt h.by_) = _
  have judge : (s.begin.setSession h.ctx z).sysJudge .halt = some St.mode :=
    State.sysJudge_eq_some (s := s.begin.setSession h.ctx z) (.inr (.inl ⟨life, .inr (decide_eq_false mode), rfl⟩))
  unfold State.sysRequest
  rw [judge]
  rfl

/-- SWP as a debugger steps it, in any state. -/
theorem State.stepSect_swp_core {s : State} {k : Nat} (live : s.live = true) (hold : s.mode = .hold) (begun : s.prog.begun = true)
    (has : s.hasSect k = true) (running : (s.sect k).ended = false) (hk : k < s.prog.sects.length)
    (word : (s.code k)[(s.sect k).pc]? = some (opWord 0x1B 2 0)) (next : s.hasNext k) :
    ∃ u, s.begin.stepSect k = (u, St.done) ∧ u.gal = s.gal ∧
      (u.sect k).core = { (s.sect k).core with wa := (s.sect k).wb, wb := (s.sect k).wa, pc := (s.sect k).pc + 1 } := by
  refine ⟨_, State.stepSect_swp live hold begun has running hk word next, rfl, ?_⟩
  have acted : State.Charged k ((s.onward k).modSect k fun x => { x with wa := x.wb, wb := x.wa }) ((s.onward k).mSwp k) :=
    State.charged_regInstr ..
  rw [acted.core, State.sect_modSect _ _ (by simpa using hk), s.onward_sect hk]
  rfl

theorem debugStep_told (s : State) (h : Hdr) (k : Nat) (may : s.canAsk h (.dbgStep k)) (hold : s.mode = .hold) (begun : s.prog.begun = true)
    (has : s.hasSect k = true) (hk : k < s.prog.sects.length) (running : (s.sect k).ended = false)
    (word : (s.code k)[(s.sect k).pc]? = some (opWord 0x1B 2 0)) (next : s.hasNext k) :
    ∃ t, exec (.debugStep h k) s = .next t ∧ t.told h.by_ St.done [] ∧
      (t.sect k).core = { (s.sect k).core with wa := (s.sect k).wb, wb := (s.sect k).wa, pc := (s.sect k).pc + 1 } := by
  obtain ⟨t, u, run, told, core, mask⟩ := exec_answers_of (m := .dbgStep k) (c := .debugStep h k) (st := St.done) (res := [])
    (P := fun u => (u.sect k).core = { (s.sect k).core with wa := (s.sect k).wb, wb := (s.sect k).wa, pc := (s.sect k).pc + 1 })
    rfl may fun x z _ => by
    obtain ⟨u, eq, gal, core⟩ := State.stepSect_swp_core (s := s.begin.setSession h.ctx z) may.live hold begun has running hk word next
    refine ⟨u, ?_, ?_, core⟩
    · show State.ans h.by_ ((s.begin.setSession h.ctx z).stepSect k) = _
      exact congrArg (State.ans h.by_) eq
    · rw [State.session_of_gal gal]
      exact State.stored_stands ..
  refine ⟨t, run, told, ?_⟩
  unfold State.sect at core ⊢
  rw [State.prog_of_mask mask]
  exact core

theorem debugReadRegs_told (s : State) (h : Hdr) (k : Nat) (may : s.canAsk h (.dbgRegs k)) (hk : k < 4) (halted : s.prog.halted = true)
    (st : (s.sect k).st = .executing ∨ (s.sect k).st = .halted) :
    ∃ t, exec (.debugReadRegs h k) s = .next t ∧ t.told h.by_ St.done (s.sect k).regWords ∧ t.onlyAnswers s := by
  refine exec_only_answers (m := .dbgRegs k) rfl may fun x z _ => ?_
  show State.ansRes h.by_ ((s.begin.setSession h.ctx z).msgRegs k) = _
  have go : (!(s.begin.setSession h.ctx z).prog.halted) = false := by
    show (!s.prog.halted) = false
    rw [halted]; rfl
  unfold State.msgRegs
  rw [if_neg (Nat.not_le.2 hk), go, if_neg (by decide), show (s.begin.setSession h.ctx z).sect k = s.sect k from rfl]
  rcases st with e | e <;> rw [e] <;> rfl

/-! ### Raw frames -/

/-- The completion of a request leaves the response that went before it. -/
theorem State.sessionDone_told {s : State} {c q st st' : Nat} {res : List Nat} {x : Session} (body : List Nat) (hx : s.session c = some x)
    (stands : x.state ≠ 3) (h : s.told (.host c q) st res) : (s.sessionDone c q st' body).told (.host c q) st res := by
  obtain ⟨y, hy, z, hz, told⟩ := h
  rw [hx] at hy hz
  cases hy
  cases hz
  obtain ⟨typ, peer, key, state⟩ := x.complete_head q (st' :: body)
  have eq : s.sessionDone c q st' body = (s.setSession c (x.complete q (st' :: body))).hostSend c kindComplete q st' body := by
    unfold State.sessionDone
    rw [hx]
    dsimp only
    rw [if_pos (by rw [state]; exact stands)]
  have grows : State.Grows s (s.sessionDone c q st' body) := by
    rw [eq]
    exact (State.grows_of_eq rfl rfl : State.Grows s (s.setSession c _)).trans (State.grows_hostSend ..)
  have session : (s.sessionDone c q st' body).session c = some (x.complete q (st' :: body)) := by
    rw [eq, State.hostSend_session, State.session_setSession_self]
  refine ⟨_, session, _, session, ?_⟩
  rw [x.kindOf_complete, typ, peer, key]
  split
  · next e =>
    rw [if_pos e] at told
    exact told.imp (grows.out _) fun ⟨e, he, eq⟩ => ⟨e, grows.held e he, eq⟩
  · next e =>
    rw [if_neg e] at told
    exact grows.sent told

@[simp] theorem State.mask_sessionDone {s : State} {c q st : Nat} (body : List Nat) : (s.sessionDone c q st body).mask = s.mask := by
  unfold State.sessionDone
  split
  · rfl
  · dsimp only
    split
    · rw [State.mask_hostSend, State.mask_setSession]
    · split
      · rfl
      · exact State.mask_setSession ..

theorem rawFrame_told (s : State) (h : Hdr) (port at_ : Nat) (frame : List Nat) (stamp : Bool) (may : s.canAsk h (.rawFrame port frame stamp at_))
    (hp : port < 2) (hf : frame ≠ []) :
    ∃ t, exec (.rawFrame h port frame stamp at_) s = .next t ∧ t.told h.by_ St.pending [] ∧
      t.sent .rawFrame ((port : Int) :: frame.map Int.ofNat) ∧ t.prog = s.prog ∧ t.regs = s.regs := by
  obtain ⟨x, y, -, -, hy, -, run⟩ := exec_ask (m := .rawFrame port frame stamp at_) (c := .rawFrame h port frame stamp at_) rfl may
  generalize hv : s.begin.setSession h.ctx y = v at run
  have hvs : v.session h.ctx = some y := by rw [← hv, State.session_setSession_self]
  have vprog : v.prog = s.prog := by rw [← hv]; rfl
  have vregs : v.regs = s.regs := by rw [← hv]; rfl
  have go : (decide (2 ≤ port) || decide (frame = [])) = false := by simp [hf]; omega
  have run : ∃ body, exec (.rawFrame h port frame stamp at_) s = .next (s.after
      ((((v.answer h.by_ St.pending []).atNs at_).emit .rawFrame ((port : Int) :: frame.map Int.ofNat)).sessionDone h.ctx h.num St.done body)) := by
    have acts : ∃ body, v.msgRaw h.by_ port frame stamp at_ =
        (((v.answer h.by_ St.pending []).atNs at_).emit .rawFrame ((port : Int) :: frame.map Int.ofNat)).sessionDone h.ctx h.num St.done body := by
      unfold State.msgRaw
      rw [go]
      exact ⟨_, rfl⟩
    obtain ⟨body, eq⟩ := acts
    exact ⟨body, run.trans (congrArg (fun u => Host.Outcome.next (s.after u)) eq)⟩
  obtain ⟨body, run⟩ := run
  have session : (v.answer h.by_ St.pending []).session h.ctx = some y := by
    show (v.hostAnswer h.ctx h.num St.pending _).session h.ctx = some y
    unfold State.hostAnswer
    rw [hvs]
    exact (State.hostSend_session ..).trans hvs
  have told : (v.answer h.by_ St.pending []).told h.by_ St.pending [] := State.answer_told _ _ ⟨y, hvs⟩
  have amask : (v.answer h.by_ St.pending []).mask = v.mask := State.mask_answer_host ..
  generalize v.answer h.by_ St.pending [] = a at session told amask run
  have emitted : State.Grows (a.atNs at_) ((a.atNs at_).emit .rawFrame ((port : Int) :: frame.map Int.ofNat)) := State.grows_emit ..
  have sent := (a.atNs at_).emit_sent .rawFrame ((port : Int) :: frame.map Int.ofNat)
  have esession : ((a.atNs at_).emit .rawFrame ((port : Int) :: frame.map Int.ofNat)).session h.ctx = some y := by
    rw [State.session_of_gal (State.emit_gal ..)]
    exact session
  have etold : ((a.atNs at_).emit .rawFrame ((port : Int) :: frame.map Int.ofNat)).told h.by_ St.pending [] :=
    State.told_of_grows ((State.grows_of_eq rfl rfl : State.Grows a (a.atNs at_)).trans emitted)
      (congrArg Gallery.sessions (State.emit_gal ..) :) (congrArg (fun p => p.sects.map Sect.slots) (State.emit_prog ..) :) told
  generalize hu : (a.atNs at_).emit .rawFrame ((port : Int) :: frame.map Int.ofNat) = u at emitted sent esession etold run
  have umask : u.prog = s.prog ∧ u.regs = s.regs := by
    subst hu
    exact ⟨(State.emit_prog ..).trans ((State.prog_of_mask amask).trans vprog),
      (State.emit_regs ..).trans ((State.regs_of_mask amask).trans vregs)⟩
  have final : State.Grows u (u.sessionDone h.ctx h.num St.done body) := by
    unfold State.sessionDone
    rw [esession]
    dsimp only
    rw [if_pos (by rw [(y.complete_head h.num _).2.2.2, hy]; decide)]
    exact (State.grows_of_eq rfl rfl : State.Grows u (u.setSession h.ctx _)).trans (State.grows_hostSend ..)
  have mask := State.mask_sessionDone (s := u) (c := h.ctx) (q := h.num) (st := St.done) body
  refine ⟨_, run, (State.after_told ..).2 (State.sessionDone_told body esession (by rw [hy]; decide) etold), final.sent sent, ?_, ?_⟩
  · exact (State.prog_of_mask mask).trans umask.1
  · exact (State.regs_of_mask mask).trans umask.2

theorem State.msgDo_forceList (u : State) (x : Session) (c q : Nat) :
    u.msgDo x c q .forceList = u.answer (.host c q) St.done (u.prog.forces.flatMap fun f => [f.sym, f.value]) := rfl

theorem State.msgDo_watchRead (u : State) (x : Session) (c q : Nat) : u.msgDo x c q .watchRead = u.answer (.host c q) St.done u.watchRead := rfl

/-- Settles O27: the requests one by one. -/
theorem forcesWatchesAndDebugging : Obligations.ForcesWatchesAndDebugging := by
  unfold Obligations.ForcesWatchesAndDebugging
  refine ⟨forceSet_told, forceClear_told, fun s h may => ?_, watchAdd_told, watchRemove_told, fun s h may => ?_, debugBreakpoint_told,
    debugHalt_accepted, debugHalt_refused, debugStep_told, debugReadRegs_told, rawFrame_told⟩
  · obtain ⟨t, run, told, only⟩ := exec_only_answers (m := .forceList) (c := .forceList h) (st := St.done)
      (res := s.prog.forces.flatMap fun f => [f.sym, f.value]) rfl may fun x z _ => by
      rw [State.msgDo_forceList, Hdr.by_]; rfl
    exact ⟨t, run, only, told⟩
  · obtain ⟨t, run, told, only⟩ := exec_only_answers (m := .watchRead) (c := .watchRead h) (st := St.done)
      (res := s.prog.watches.flatMap fun w => [w.1, w.2, SMap.getD s.prog.watchVals w.1 0]) rfl may fun x z _ => by
      rw [State.msgDo_watchRead, Hdr.by_]; rfl
    exact ⟨t, run, only, told⟩

end Sys2Proof.Machine

/-! ### Sessions of the host port (O28) -/
namespace Sys2Proof.Machine

/-- A state in which the host port's table names SID 1 twice: for the open context 5, and behind it for context 6. -/
def doubledSid : State :=
  { gal := { sessions := [(5, { typ := 3, peer := 1 })] }, wired := { sids := [(1, 5), (1, 6)] } }

/-- CLOSE takes context 5 out of the table, and the second entry stands. -/
theorem spiClose_doubledSid : ∃ u, exec (.spiClose 1 0) doubledSid = .next u ∧ SMap.get? u.wired.sids 1 = some 6 :=
  ⟨_, rfl, rfl⟩

/-- Refutes O28: closing a context removes its entries from the table of SIDs, so an SID that a second entry names stays in it. The state
`doubledSid` holds such an entry, and after the CLOSE of SID 1 its table still gives context 6. -/
theorem not_sessionsOpenAndClose : ¬ Obligations.SessionsOpenAndClose := by
  unfold Obligations.SessionsOpenAndClose
  rintro ⟨-, -, -, -, -, close, -⟩
  obtain ⟨t, run, -, gone, -⟩ := close doubledSid 1 0 5 { typ := 3, peer := 1 } rfl rfl rfl rfl rfl
  obtain ⟨u, run', stays⟩ := spiClose_doubledSid
  rw [run] at run'
  cases run'
  rw [gone] at stays
  cases stays

end Sys2Proof.Machine

/-! ### An abort that ends its own session (O25) -/
namespace Sys2Proof.Machine

/-- A management session whose window holds request 7 above its highest number 5, and a campaign that this request started under that
session's own context. -/
def ownCampaign : State :=
  { phase := .running, mode := .stop
    gal := { sessions := [(3, { typ := 0, role := 2, high := 5, window := [{ seq := 7, kind := 0x10 }] })] }
    net := { campaigns := [(0, { st := 1, ctx := 3, by_ := .host 3 7 })] } }

/-- Request 7 again, as an abort of request 7. -/
def ownAbort : Hdr := { ctx := 3, seq := 7, len := 8 }

/-- The abort ends the campaign: its context closes, and with the end of the campaign's request the last of the window is done. -/
theorem ownAbort_closes : ∃ u, exec (.hxmAbort ownAbort 7) ownCampaign = .next u ∧ u.session 3 = none := ⟨_, rfl, rfl⟩

/-- Its status is ABORTED. -/
theorem ownAbort_status :
    ∃ u, (ownCampaign.taken ownAbort 0x04).abortOp (.host ownAbort.ctx (7 % 2 ^ 32)) = (u, St.aborted) := ⟨_, rfl⟩

/-- A request whose number is above the highest of its session is accepted, whatever its window holds. -/
theorem ownAbort_canAsk : ownCampaign.canAsk ownAbort (.abort 7) :=
  ⟨⟨{ typ := 0, role := 2, high := 5, window := [{ seq := 7, kind := 0x10 }] }, ⟨rfl, rfl, rfl, .inl rfl⟩, by decide⟩,
    rfl, by decide, rfl, by decide, nofun⟩

/-- Refutes O25: the session of `ownCampaign` has its request 7 in its window above its highest number, so that the abort of request 7 may
itself be request 7. It ends the campaign and closes the context, and no answer is possible in a context that is gone. -/
theorem not_hostsReadWriteAndCall : ¬ Obligations.HostsReadWriteAndCall := by
  unfold Obligations.HostsReadWriteAndCall
  rintro ⟨-, -, -, -, -, -, -, -, -, -, -, -, abort, -⟩
  obtain ⟨u, status⟩ := ownAbort_status
  obtain ⟨t, run, answered, -⟩ := abort ownCampaign ownAbort 7 _ _ u St.aborted ownAbort_canAsk rfl rfl rfl nofun status (by decide)
  obtain ⟨v, run', closed⟩ := ownAbort_closes
  rw [run] at run'
  cases run'
  obtain ⟨x, opened, -⟩ : ∃ x, t.session 3 = some x ∧ _ := answered
  rw [closed] at opened
  cases opened

end Sys2Proof.Machine

/-! ### Services that answer; the lighting services (O29) -/
namespace Sys2Proof.Machine

/-- What a step to its end may change by telling its caller. -/
abbrev tellParts : List Part := [.mem, .pending, .sessions, .slots, .out, .held, .asked]

theorem within_after (s u : State) : Within tellParts u (s.after u) := by
  refine .of_same rfl fun c hc => ?_
  cases c with
  | mem | pending => exact absurd (by decide) hc
  | asked => exact ⟨rfl, rfl, rfl⟩
  | cores => exact ⟨rfl, rfl⟩
  | cmdStat | block _ | wild => trivial
  | _ => exact rfl

/-- Telling a caller leaves the registers. -/
theorem State.answer_within {s : State} {o : Origin} (st : Nat) (res : List Nat) (h : s.canTell o) :
    Within tellParts s (s.answer o st res) := by
  cases o with
  | quiet | command a => exact h.elim
  | host c q => exact within_hostAnswer s _ _ _ _ (by decide) (by decide)
  | program k j n =>
    unfold State.answer
    dsimp only
    split
    · exact within_modSlot s _ _ _ (by decide)
    · exact within_modSlot s _ _ _ (by decide)

/-- A service call that answers a caller whom the service leaves within reach. -/
theorem State.act_callSvc_of {s : State} {o : Origin} {code : Nat} {f : State → Origin → SvcArgs → SvcRes} {a : SvcArgs} {u : State}
    {st : Nat} {res : List Nat} (may : s.canCall o code) (hf : svcOf code = some f) (hu : f s.begin o a = (u, st, res))
    (tells : u.canTell o) :
    ∃ t, (s.act fun s => s.callSvc o code a) = .next t ∧ t.told o st res ∧ Within tellParts u t := by
  have eq : s.begin.callSvc o code a = u.answer o st res := by rw [State.callSvc_eq a may hf, hu]
  refine ⟨s.after (u.answer o st res), congrArg (fun t => Host.Outcome.next (s.after t)) eq,
    (State.after_told ..).2 (State.answer_told _ _ tells), ?_⟩
  exact (State.answer_within st res tells).trans (within_after ..)

/-- A service call that answers: its caller is told, and what the service left stands but for the answer. -/
theorem State.act_callSvc {s : State} {o : Origin} {code : Nat} {f : State → Origin → SvcArgs → SvcRes} {a : SvcArgs} {u : State}
    {st : Nat} {res : List Nat} {D : List Part} (may : s.canCall o code) (hf : svcOf code = some f) (hu : f s.begin o a = (u, st, res))
    (w : Within D s.begin u) (hp : .slots ∉ D := by decide) (hs : .sessions ∉ D := by decide) :
    ∃ t, (s.act fun s => s.callSvc o code a) = .next t ∧ t.told o st res ∧ Within tellParts u t :=
  State.act_callSvc_of may hf hu (w.canTell (may.canTell : s.begin.canTell o) hp hs)

theorem mem_insertChange (c d : LayerChange) (l : List LayerChange) : d ∈ insertChange c l ↔ d ∈ l ∨ d = c := by
  induction l with
  | nil => simp [insertChange]
  | cons x l ih =>
    unfold insertChange
    split
    · simp [or_comm]
    · simp [ih, or_assoc]

/-- What a change adds. -/
theorem State.changeAt_changes (s : State) (n : Nat) (lead : Bool) (kind : LayerKind) (fade : Nat) (o : Origin) (old : Option (Nat × Nat))
    (c : LayerChange) :
    c ∈ (s.changeAt n lead kind fade o old).light.changes ↔ c ∈ s.light.changes ∨ c = ⟨n + s.leadOf lead, n, lead, kind, fade, o, old⟩ :=
  mem_insertChange _ _ _

/-- An order taken by its service stands for its caller. -/
theorem State.ordered_of_call {s u : State} {o : Origin} {code : Nat} {f : State → Origin → SvcArgs → SvcRes} {a : SvcArgs} {lead : Bool}
    {kind : LayerKind} {fade : Nat} {old : Option (Nat × Nat)} {D : List Part} (may : s.canCall o code) (hf : svcOf code = some f)
    (hu : f s.begin o a = u.orderChange o lead kind fade old) (w : Within D s.begin u) (on : u.light = s.light)
    (same : s.light.running = true) (num : u.num = s.num) (leads : u.leadOf lead = s.leadOf lead) (hp : .slots ∉ D := by decide)
    (hs : .sessions ∉ D := by decide) :
    ∃ t, (s.act fun s => s.callSvc o code a) = .next t ∧ s.ordered t o lead kind fade old ∧ t.regs = u.regs := by
  have run : u.light.running = true := (congrArg Light.running on).trans same
  have frame : u.decideFrame o = s.decideFrame o := by cases o <;> simp [State.decideFrame, num]
  have res : f s.begin o a = (u.changeAt (u.decideFrame o) lead kind fade o old, St.pending, []) := by
    rw [hu, State.orderChange, run]
    rfl
  have wide : Within (.light :: D) s.begin (u.changeAt (u.decideFrame o) lead kind fade o old) :=
    (w.mono fun _ => List.mem_cons_of_mem _).trans ((within_changeAt ..).mono (by simp))
  obtain ⟨t, run, told, tw⟩ := State.act_callSvc may hf res wide (by simpa using hp) (by simpa using hs)
  refine ⟨t, run, ⟨told, fun c => ?_⟩, tw.regs⟩
  rw [tw.light, State.changeAt_changes, on, frame, leads]

theorem groupRecipe_key (g : Nat) : (F.LGT_GRP_CFG_RECIPE.at g).key = 12713984 + 16 + 256 * g := by
  simp only [F.LGT_GRP_CFG_RECIPE, Fld.at, Fld.at2, Fld.key]
  omega

theorem groupRecipeEn_key (g : Nat) : (F.LGT_GRP_CFG_RECIPE_EN.at g).key = 12713984 + 31 + 256 * g := by
  simp only [F.LGT_GRP_CFG_RECIPE_EN, Fld.at, Fld.at2, Fld.key]
  omega

/-- The orders of layers 3 and 4 of a group and of a node. -/
theorem setGroup_ordered {s : State} {o : Origin} {a : SvcArgs} {v : List Nat} {fade : Nat} (run : s.light.running = true)
    (args : orderArgs a.d = some (v, fade)) (may : s.canCall o 0x060001) (g : a.wa.toNat < 1024) :
    ∃ t, exec (.setGroup o a) s = .next t ∧ s.ordered t o true (.groupOrder a.wa.toNat (a.wb.toNat % 256) v) fade := by
  have res : svcSetGroup s.begin o a = s.begin.orderChange o true (.groupOrder a.wa.toNat (a.wb.toNat % 256) v) fade := by
    rw [svcSetGroup, args]
    exact if_neg (by omega)
  obtain ⟨t, go, ordered, -⟩ := State.ordered_of_call may rfl res (.refl [] _) rfl run rfl rfl
  exact ⟨t, go, ordered⟩

theorem releaseGroup_ordered {s : State} {o : Origin} {a : SvcArgs} (run : s.light.running = true) (may : s.canCall o 0x060002)
    (g : a.wa.toNat < 1024) :
    ∃ t, exec (.releaseGroup o a) s = .next t ∧ s.ordered t o true (.groupRelease a.wa.toNat (a.wb.toNat % 256)) 0 := by
  have res : svcReleaseGroup s.begin o a = s.begin.orderChange o true (.groupRelease a.wa.toNat (a.wb.toNat % 256)) 0 :=
    if_neg (by omega)
  obtain ⟨t, go, ordered, -⟩ := State.ordered_of_call may rfl res (.refl [] _) rfl run rfl rfl
  exact ⟨t, go, ordered⟩

theorem setNode_ordered {s : State} {o : Origin} {a : SvcArgs} {v : List Nat} {fade : Nat} (run : s.light.running = true)
    (args : orderArgs a.d = some (v, fade)) (may : s.canCall o 0x060003) (g : a.wa.toNat < 4096) (node : (s.node a.wa.toNat).isSome = true) :
    ∃ t, exec (.setNode o a) s = .next t ∧ s.ordered t o true (.nodeOrder a.wa.toNat (a.wb.toNat % 256) v) fade := by
  have res : svcSetNode s.begin o a = s.begin.orderChange o true (.nodeOrder a.wa.toNat (a.wb.toNat % 256) v) fade := by
    have known : (s.begin.node a.wa.toNat).isNone ≠ true := by
      show (s.node a.wa.toNat).isNone ≠ true
      simpa [Option.isSome_iff_ne_none] using node
    rw [svcSetNode, args]
    dsimp only
    rw [if_neg (by omega), if_neg known]
  obtain ⟨t, go, ordered, -⟩ := State.ordered_of_call may rfl res (.refl [] _) rfl run rfl rfl
  exact ⟨t, go, ordered⟩

theorem releaseNode_ordered {s : State} {o : Origin} {a : SvcArgs} (run : s.light.running = true) (may : s.canCall o 0x060004)
    (g : a.wa.toNat < 4096) (node : (s.node a.wa.toNat).isSome = true) :
    ∃ t, exec (.releaseNode o a) s = .next t ∧ s.ordered t o true (.nodeRelease a.wa.toNat (a.wb.toNat % 256)) 0 := by
  have res : svcReleaseNode s.begin o a = s.begin.orderChange o true (.nodeRelease a.wa.toNat (a.wb.toNat % 256)) 0 := by
    have known : (s.begin.node a.wa.toNat).isNone ≠ true := by
      show (s.node a.wa.toNat).isNone ≠ true
      simpa [Option.isSome_iff_ne_none] using node
    rw [svcReleaseNode, if_neg (by omega), if_neg known]
  obtain ⟨t, go, ordered, -⟩ := State.ordered_of_call may rfl res (.refl [] _) rfl run rfl rfl
  exact ⟨t, go, ordered⟩

/-- The recipe of a group is named at once, and its change waits (R232). -/
theorem selectRecipe_ordered {s : State} {o : Origin} {a : SvcArgs} (run : s.light.running = true) (may : s.canCall o 0x060005)
    (g : a.wa.toNat < 1024) (r : a.wb.toNat < 256) :
    ∃ t, exec (.selectRecipe o a) s = .next t ∧
      s.ordered t o true (.recipeSelect a.wa.toNat a.wb.toNat) 0
        (some (s.get (F.LGT_GRP_CFG_RECIPE.at a.wa.toNat), s.get (F.LGT_GRP_CFG_RECIPE_EN.at a.wa.toNat))) ∧
      t.get (F.LGT_GRP_CFG_RECIPE.at a.wa.toNat) = a.wb.toNat ∧ t.get (F.LGT_GRP_CFG_RECIPE_EN.at a.wa.toNat) = 1 := by
  let u := (s.begin.put (F.LGT_GRP_CFG_RECIPE.at a.wa.toNat) a.wb.toNat).put (F.LGT_GRP_CFG_RECIPE_EN.at a.wa.toNat) 1
  have res : svcSelectRecipe s.begin o a = u.orderChange o true (.recipeSelect a.wa.toNat a.wb.toNat) 0
      (some (s.get (F.LGT_GRP_CFG_RECIPE.at a.wa.toNat), s.get (F.LGT_GRP_CFG_RECIPE_EN.at a.wa.toNat))) := by
    have fits : ¬((decide (1024 ≤ a.wa.toNat) || decide (255 < a.wb.toNat)) = true) := by simp; omega
    have on : ¬((!s.begin.light.running) = true) := by
      show ¬((!s.light.running) = true)
      simp [run]
    exact (if_neg fits).trans (if_neg on)
  have w : Within [.regs, .block 6, .wild] s.begin u :=
    (Within.put_wild_iff (by decide) (by decide)).2 ((Within.put_wild_iff (by decide) (by decide)).2 (.refl _ _))
  have leads : u.leadOf true = s.leadOf true := by
    have key : F.LGT_LEAD_FRAMES.key < 12713984 := by decide
    show u.get _ = s.get _
    rw [State.get_put_ne _ _ _ _ (by rw [groupRecipeEn_key]; omega), State.get_put_ne _ _ _ _ (by rw [groupRecipe_key]; omega)]
    rfl
  obtain ⟨t, go, ordered, regs⟩ := State.ordered_of_call may rfl res w rfl run rfl leads
  refine ⟨t, go, ordered, ?_, ?_⟩ <;> rw [State.get, regs, ← State.get]
  · rw [State.get_put_ne _ _ _ _ (by rw [groupRecipeEn_key, groupRecipe_key]; omega), State.get_put_self]
    exact Nat.mod_eq_of_lt r
  · exact State.get_put_self ..

theorem emergency_ordered {s : State} {o : Origin} {a : SvcArgs} (run : s.light.running = true) (may : s.canCall o 0x060006)
    (v : a.wa.toNat ≤ 2) (g : a.wb.toNat < 1024 ∨ a.wb.toNat = 0xFFFF) :
    ∃ t, exec (.emergency o a) s = .next t ∧
      s.ordered t o false (.emergency
        (if a.wa.toNat = 0 then none else if a.wa.toNat = 1 then some (List.replicate 8 0) else some s.evac)
        (if a.wb.toNat = 0xFFFF then none else some a.wb.toNat)) 0 := by
  have res : svcEmergency s.begin o a = s.begin.orderChange o false (.emergency
      (if a.wa.toNat = 0 then none else if a.wa.toNat = 1 then some (List.replicate 8 0) else some s.evac)
      (if a.wb.toNat = 0xFFFF then none else some a.wb.toNat)) 0 := by
    have ok : ¬((decide (2 < a.wa.toNat) || (decide (1024 ≤ a.wb.toNat) && decide (a.wb.toNat ≠ 0xFFFF))) = true) := by simp; omega
    refine (if_neg ok).trans ?_
    rcases (by omega : a.wa.toNat = 0 ∨ a.wa.toNat = 1 ∨ a.wa.toNat = 2) with h | h | h <;> rw [h] <;> rfl
  obtain ⟨t, go, ordered, -⟩ := State.ordered_of_call may rfl res (.refl [] _) rfl run rfl rfl
  exact ⟨t, go, ordered⟩

/-- Settles O29: each lighting service leaves a change at the tag of its lead for its caller, or answers at once. -/
theorem lightingOrdersAreDecidedInTheirFrame : Obligations.LightingOrdersAreDecidedInTheirFrame := by
  unfold Obligations.LightingOrdersAreDecidedInTheirFrame
  refine ⟨fun s o a v fade run args => ⟨setGroup_ordered run args, setNode_ordered run args⟩,
    fun s o a run => ⟨releaseGroup_ordered run, releaseNode_ordered run, selectRecipe_ordered run, emergency_ordered run⟩,
    fun s o a none_ => ⟨fun may => ?_, fun may => ?_⟩, fun s o a may zone => ?_, fun s o a x may fits node => ?_,
    fun s o a may fits node => ?_⟩
  · have res : svcSetGroup s.begin o a = (s.begin, St.badArg, []) := by rw [svcSetGroup, none_]
    obtain ⟨t, go, told, w⟩ := State.act_callSvc may rfl res (.refl [] _)
    exact ⟨t, go, told, w.light⟩
  · have res : svcSetNode s.begin o a = (s.begin, St.badArg, []) := by rw [svcSetNode, none_]
    obtain ⟨t, go, told, w⟩ := State.act_callSvc may rfl res (.refl [] _)
    exact ⟨t, go, told, w.light⟩
  · have res : svcOverlayPresence s.begin o a = (s.begin.put (F.LGT_ZN_STAT_PROG.at a.wa.toNat) (a.wb.toNat % 2), St.done, []) :=
      if_neg (by omega)
    have put : Within [.regs, .wild] s.begin (s.begin.put (F.LGT_ZN_STAT_PROG.at a.wa.toNat) (a.wb.toNat % 2)) :=
      (Within.put_wild_iff (by decide) (by decide)).2 (.refl _ _)
    obtain ⟨t, go, told, w⟩ := State.act_callSvc may rfl res put
    refine ⟨t, go, told, w.light, ?_⟩
    rw [State.get, w.regs, ← State.get, State.get_put_self]
    exact Nat.mod_mod ..
  · have res : svcReadStaging s.begin o a = (s.begin, St.done, stagingView x) := by
      have node : s.begin.node a.wa.toNat = some x := node
      rw [svcReadStaging, if_neg (by omega), node]
    obtain ⟨t, go, told, w⟩ := State.act_callSvc may rfl res (.refl [] _)
    exact ⟨t, go, told, w.light, w.regs⟩
  · have res : svcReadStaging s.begin o a = (s.begin, St.nodeEmpty, []) := by
      have node : s.begin.node a.wa.toNat = none := node
      rw [svcReadStaging, if_neg (by omega), node]
    obtain ⟨t, go, told, w⟩ := State.act_callSvc may rfl res (.refl [] _)
    exact ⟨t, go, told, w.light⟩

end Sys2Proof.Machine

/-! ### Services of the platform and of the nodes (O30) -/
namespace Sys2Proof.Machine

/-! ### Associations of a radio -/

theorem State.radio_setRadio (s : State) {r : Nat} (x : Radio) (h : r < s.net.radios.length) : (s.setRadio r x).radio r = x := by
  simp [State.radio, State.setRadio, setAt_eq_set, h]

theorem State.assoc_setAssoc (s : State) {r : Nat} (i : Nat) (a : Assoc) (h : r < s.net.radios.length) :
    (s.setAssoc r i a).assoc r i = a := by
  rw [State.assoc, State.setAssoc, State.modRadio, State.radio_setRadio _ _ h]
  exact SMap.getD_insert_self ..

/-- A radio that holds an association is one of the module's. -/
theorem State.radio_exists {s : State} {r kind slot i : Nat} (h : s.assocOn r kind slot = some i) : r < s.net.radios.length := by
  by_contra out
  have none_ : s.radio r = {} := by simp [State.radio, List.getElem?_eq_none (Nat.le_of_not_lt out)]
  rw [State.assocOn, none_] at h
  cases h

theorem State.assocOf_radio {s : State} {kind slot r i : Nat} (h : s.assocOf kind slot = some (r, i)) : r < s.net.radios.length := by
  unfold State.assocOf at h
  split at h
  · next q _ =>
    obtain ⟨j, on, eq⟩ := Option.map_eq_some_iff.1 h
    cases eq
    exact State.radio_exists on
  · cases h

/-- A request joins the queue of its association. -/
theorem State.request_txns (s : State) {r : Nat} (i op : Nat) (body : List Nat) (o : Origin) (h : r < s.net.radios.length) :
    ((s.request r i op body o).assoc r i).txns =
      (s.assoc r i).txns ++ [{ seq := ((s.assoc r i).seqD + 1) % 65536, op := op, by_ := o, body := body }] := by
  rw [State.request, State.assoc_setAssoc _ _ _ h]

theorem within_request (s : State) (r i op : Nat) (body : List Nat) (o : Origin) : Within [.net] s (s.request r i op body o) := by
  refine .of_same rfl fun c hc => ?_
  cases c with
  | net => exact absurd (by decide) hc
  | asked => exact ⟨rfl, rfl, rfl⟩
  | cores => exact ⟨rfl, rfl⟩
  | cmdStat | block _ | wild => trivial
  | _ => exact rfl

/-- A service that asks an associated node. -/
theorem askNode_queued {s : State} {o : Origin} {code : Nat} {f : State → Origin → SvcArgs → SvcRes} {a : SvcArgs}
    {kind slot op r i : Nat} {body : List Nat} (may : s.canCall o code) (hf : svcOf code = some f)
    (hu : f s.begin o a = s.begin.askNode o kind slot op body) (node : s.assocOf kind slot = some (r, i)) :
    ∃ t, (s.act fun s => s.callSvc o code a) = .next t ∧ t.told o St.pending [] ∧
      (t.assoc r i).txns = (s.assoc r i).txns ++ [{ seq := ((s.assoc r i).seqD + 1) % 65536, op := op, by_ := o, body := body }] := by
  have res : f s.begin o a = (s.begin.request r i op body o, St.pending, []) := by
    have node : s.begin.assocOf kind slot = some (r, i) := node
    rw [hu, State.askNode, node]
  obtain ⟨t, run, told, w⟩ := State.act_callSvc may hf res (within_request ..)
  refine ⟨t, run, told, ?_⟩
  simp only [State.assoc, State.radio, w.net]
  exact s.begin.request_txns i op body o (State.assocOf_radio node)

/-! ### Mode requests, saves, and records -/

theorem within_modeReq (s : State) (ev : ModeEv) (o : Origin) : Within [.modeReqs] s (s.modeReq ev o) := by
  refine .of_same rfl fun c hc => ?_
  cases c with
  | modeReqs => exact absurd (by decide) hc
  | asked => exact ⟨rfl, rfl, rfl⟩
  | cores => exact ⟨rfl, rfl⟩
  | cmdStat | block _ | wild => trivial
  | _ => exact rfl

/-- A service that asks for a mode, where nothing refuses it. -/
theorem sysRequest_pending {s : State} {o : Origin} {code : Nat} {f : State → Origin → SvcArgs → SvcRes} {a : SvcArgs} {ev : ModeEv}
    (may : s.canCall o code) (hf : svcOf code = some f)
    (hu : f s.begin o a = ((s.begin.sysRequest ev o).1, (s.begin.sysRequest ev o).2, []))
    (judge : s.begin.sysJudge ev = none) :
    ∃ t, (s.act fun s => s.callSvc o code a) = .next t ∧ t.told o St.pending [] ∧ t.mode = s.mode ∧
      t.frame.modeReqs = s.frame.modeReqs ++ [{ ev := ev, by_ := o, at_ := s.num }] := by
  have res : f s.begin o a = (s.begin.modeReq ev o, St.pending, []) := by rw [hu, State.sysRequest, judge]
  obtain ⟨t, run, told, w⟩ := State.act_callSvc may hf res (within_modeReq ..)
  exact ⟨t, run, told, w.mode, w.modeReqs⟩

theorem reqStop_pending {s : State} {o : Origin} {a : SvcArgs} (may : s.canCall o 0x000001) (mode : s.mode = .run ∨ s.mode = .hold)
    (life : s.lifeAllows .stop = true) :
    ∃ t, exec (.reqStop o a) s = .next t ∧ t.told o St.pending [] ∧ t.mode = s.mode ∧
      t.frame.modeReqs = s.frame.modeReqs ++ [{ ev := .stop, by_ := o, at_ := s.num }] := by
  have admits : s.begin.modeAllows .stop = true := by
    show (decide (s.mode = .run) || decide (s.mode = .hold)) = true
    simpa using mode
  exact sysRequest_pending may rfl rfl (State.sysJudge_eq_none may.1 life admits nofun nofun)

theorem reqStop_refused {s : State} {o : Origin} {a : SvcArgs} (may : s.canCall o 0x000001) (mode : s.mode = .stop)
    (life : s.lifeAllows .stop = true) :
    ∃ t, exec (.reqStop o a) s = .next t ∧ t.told o St.mode [] ∧ t.frame = s.frame := by
  have admits : s.begin.modeAllows .stop = false := by
    show (decide (s.mode = .run) || decide (s.mode = .hold)) = false
    simp [mode]
  have judge : s.begin.sysJudge .stop = some St.mode := State.sysJudge_eq_some (.inr (.inl ⟨life, .inr admits, rfl⟩))
  have res : svcReqStop s.begin o a = (s.begin, St.mode, []) := by rw [svcReqStop, State.sysRequest, judge]
  obtain ⟨t, run, told, w⟩ := State.act_callSvc may rfl res (.refl [] _)
  exact ⟨t, run, told, w.frame_eq⟩

theorem reqBasic_pending {s : State} {o : Origin} {a : SvcArgs} (may : s.canCall o 0x000002) (mode : s.mode ≠ .basic) :
    ∃ t, exec (.reqBasic o a) s = .next t ∧ t.told o St.pending [] ∧ t.mode = s.mode ∧
      t.frame.modeReqs = s.frame.modeReqs ++ [{ ev := .enterBasic, by_ := o, at_ := s.num }] := by
  obtain ⟨up, serves, -⟩ := id may
  have admits : s.begin.modeAllows .enterBasic = true := by
    show (decide (s.mode = .stop) || decide (s.mode = .run) || decide (s.mode = .hold) || decide (s.mode = .shadow)) = true
    cases h : s.mode <;> simp [h] at mode serves ⊢
  exact sysRequest_pending may rfl rfl (State.sysJudge_eq_none up rfl admits nofun nofun)

/-- A change of the program that leaves its sections. -/
theorem within_modProg_of_sects (s : State) {g : Prog → Prog} (hg : ∀ p, (g p).sects = p.sects) : Within [.prog] s (s.modProg g) := by
  refine .of_same rfl fun c hc => ?_
  cases c with
  | prog => exact absurd (by decide) hc
  | slots => exact congrArg (List.map Sect.slots) (hg s.prog)
  | asked => exact ⟨rfl, rfl, rfl⟩
  | cores => exact ⟨rfl, rfl⟩
  | cmdStat | block _ | wild => trivial
  | _ => exact rfl

/-- A save keeps the words as its call found them. -/
theorem retainSave_pending {s : State} {o : Origin} {a : SvcArgs} (may : s.canCall o 0x050002) :
    ∃ t, exec (.retainSave o a) s = .next t ∧ t.told o St.pending [] ∧ t.prog.saveDue = true ∧
      t.prog.saveBy = s.prog.saveBy ++ [o] ∧ t.prog.saveWords = s.retainedNow ∧ t.prog.areas = s.prog.areas := by
  have w : Within [.prog] s.begin (s.begin.saveDueNow.modProg fun p => { p with saveBy := p.saveBy ++ [o] }) :=
    (within_modProg_of_sects _ (g := fun p => { p with saveDue := true, saveWords := s.begin.retainedNow, saveCount := p.total })
      fun _ => rfl).trans (within_modProg_of_sects _ fun _ => rfl)
  obtain ⟨t, run, told, tw⟩ := State.act_callSvc (f := svcRetainSave) may rfl rfl w
  exact ⟨t, run, told, tw.prog_proj Prog.saveDue fun _ => rfl, tw.prog_proj Prog.saveBy fun _ => rfl,
    tw.prog_proj Prog.saveWords fun _ => rfl, tw.prog_proj Prog.areas fun _ => rfl⟩

theorem length_leBytes (n v : Nat) : (leBytes n v).length = n := by
  induction n generalizing v with
  | zero => rfl
  | succ n ih => simp [leBytes, ih]

/-- The octets of a log event's ten words. -/
theorem length_flatten_leBytes (n k : Nat) (g : Nat → Nat) : (((List.range k).map fun i => leBytes n (g i)).flatten).length = k * n := by
  simp [List.length_flatten, Function.comp_def, length_leBytes]

theorem State.vitTrigger_queue (s : State) (b : Option Nat) (c : Nat) : (s.vitTrigger b c).recs.queue = s.recs.queue := by
  unfold State.vitTrigger
  dsimp only
  repeat' split
  all_goals rfl

/-- A record that the queue has room for joins it. -/
theorem State.logRec_queue {s : State} (sev src code : Nat) (l : List Nat) (room : s.recs.queue.length < 256) :
    ∃ r, (s.logRec sev src code l).recs.queue = s.recs.queue ++ [r] ∧ r.acc = nextAcc (s.get F.LOG_NEWEST_ACC) ∧ r.sev = sev ∧
      r.source = src ∧ r.code = code ∧ r.payload = l.take 40 := by
  unfold State.logRec
  rw [if_neg (by omega)]
  dsimp only
  split
  · exact ⟨_, State.vitTrigger_queue .., rfl, rfl, rfl, rfl, rfl⟩
  · exact ⟨_, rfl, rfl, rfl, rfl, rfl, rfl⟩

/-- The source of a record that a service enters. -/
def sourceOf (o : Origin) : Nat := match o with | .program k _ _ => 0x80 + k | _ => 0x88

theorem logEvent_queued {s : State} {o : Origin} {a : SvcArgs} (may : s.canCall o 0x190001) (sev : a.wa.toNat < 3)
    (room : s.recs.queue.length < 256) :
    ∃ t r, exec (.logEvent o a) s = .next t ∧ t.told o St.done [] ∧
      t.recs.queue = s.recs.queue ++ [r] ∧ r.acc = nextAcc (s.get F.LOG_NEWEST_ACC) ∧ r.sev = a.wa.toNat ∧
      r.code = a.wb.toNat % 65536 ∧ r.payload = ((List.range 10).map fun k => leBytes 4 (a.d.getD k 0).toNat).flatten ∧
      r.source = sourceOf o := by
  have res : svcLogEvent s.begin o a = (s.begin.logRec a.wa.toNat (sourceOf o) (a.wb.toNat % 65536)
      (((List.range 10).map fun k => leBytes 4 (a.d.getD k 0).toNat).flatten), St.done, []) :=
    (if_neg (by omega)).trans (if_neg (show ¬256 ≤ s.recs.queue.length by omega))
  have w := within_logRec (D := logParts) s.begin a.wa.toNat (sourceOf o) (a.wb.toNat % 65536)
    (((List.range 10).map fun k => leBytes 4 (a.d.getD k 0).toNat).flatten) (by decide)
  obtain ⟨t, run, told, tw⟩ := State.act_callSvc may rfl res w
  obtain ⟨r, queue, acc, hsev, src, code, payload⟩ := State.logRec_queue (s := s.begin) a.wa.toNat (sourceOf o) (a.wb.toNat % 65536)
    (((List.range 10).map fun k => leBytes 4 (a.d.getD k 0).toNat).flatten) room
  refine ⟨t, r, run, told, (congrArg Records.queue tw.recs).trans queue, acc, hsev, code, payload.trans ?_, src⟩
  exact List.take_of_length_le (length_flatten_leBytes 4 10 _).le

theorem logEvent_busy {s : State} {o : Origin} {a : SvcArgs} (may : s.canCall o 0x190001) (sev : a.wa.toNat < 3)
    (full : 256 ≤ s.recs.queue.length) : ∃ t, exec (.logEvent o a) s = .next t ∧ t.told o St.busy [] ∧ t.recs = s.recs := by
  have res : svcLogEvent s.begin o a = (s.begin, St.busy, []) :=
    (if_neg (by omega)).trans (if_pos (show 256 ≤ s.recs.queue.length from full))
  obtain ⟨t, run, told, w⟩ := State.act_callSvc may rfl res (.refl [] _)
  exact ⟨t, run, told, w.recs⟩

/-! ### Aborts of a ticket of the same section -/

/-- The ticket that a word names: section, slot and serial (R203). -/
theorem ticket_bits {k q n : Nat} (hk : k < 4) (hq : q < 255) (hn : n < 65536) :
    bits (64 * k * 2 ^ 24 + q * 2 ^ 16 + n) 31 24 = 64 * k ∧ bits (64 * k * 2 ^ 24 + q * 2 ^ 16 + n) 23 16 = q ∧
      bits (64 * k * 2 ^ 24 + q * 2 ^ 16 + n) 15 0 = n := by
  simp only [bits]
  omega

/-- PLX.ABORT of another ticket of the section looks at the state of its slot. -/
theorem svcAbort_ticket (s : State) {k j n q : Nat} {a : SvcArgs} {x : Slot} (hk : k < 4) (hq : q < 255) (h0 : 0 < x.serial)
    (hn : x.serial < 65536) (named : a.wa.toNat = 64 * k * 2 ^ 24 + q * 2 ^ 16 + x.serial) (slot : x = s.ticket k q) :
    (x.st = .final → svcAbort s (.program k j n) a = (s, if x.status = St.done then St.abortLate else St.aborted, [])) ∧
    (x.st = .issued → svcAbort s (.program k j n) a =
      (s.modSect k fun y => y.modSlot q fun z => { z with st := .final, status := St.aborted, result := [] }, St.aborted, [])) := by
  obtain ⟨sect, num, serial⟩ := ticket_bits (n := x.serial) hk hq hn
  have known : ¬((decide (bits a.wa.toNat 31 24 ≠ 64 * k) || decide (bits a.wa.toNat 23 16 = 255) || decide (bits a.wa.toNat 15 0 = 0) ||
      decide ((s.ticket k (bits a.wa.toNat 23 16)).serial ≠ bits a.wa.toNat 15 0)) = true) := by
    rw [named, sect, num, serial, ← slot]
    simp
    omega
  have num : bits a.wa.toNat 23 16 = q := by rw [named, num]
  have at_ : s.ticket k (bits a.wa.toNat 23 16) = x := by rw [num, slot]
  constructor <;> intro st <;> refine (if_neg known).trans ?_ <;> dsimp only
  · show (match (s.ticket k (bits a.wa.toNat 23 16)).st with | .active => _ | .issued => _ | _ => _) = _
    rw [at_, st]
    show (s, if (s.ticket k (bits a.wa.toNat 23 16)).status = St.done then St.abortLate else St.aborted, []) = _
    rw [at_]
  · show (match (s.ticket k (bits a.wa.toNat 23 16)).st with | .active => _ | .issued => _ | _ => _) = _
    rw [at_, st, num]

theorem plxAbort_ticket {s : State} {k j n q : Nat} {a : SvcArgs} {x : Slot} (may : s.canCall (.program k j n) 0x050001) (hk : k < 4)
    (hq : q < 255) (hqj : q ≠ j) (h0 : 0 < x.serial) (hn : x.serial < 65536)
    (named : a.wa.toNat = 64 * k * 2 ^ 24 + q * 2 ^ 16 + x.serial) (slot : x = s.ticket k q) :
    (x.st = .final → ∃ t, exec (.plxAbort (.program k j n) a) s = .next t ∧
      t.told (.program k j n) (if x.status = St.done then St.abortLate else St.aborted) []) ∧
    (x.st = .issued → ∃ t, exec (.plxAbort (.program k j n) a) s = .next t ∧ t.told (.program k j n) St.aborted [] ∧
      SMap.getD (t.sect k).slots q {} = { x with st := .final, status := St.aborted, result := [] }) := by
  obtain ⟨final, issued⟩ := svcAbort_ticket s.begin (j := j) (n := n) hk hq h0 hn named slot
  refine ⟨fun st => ?_, fun st => ?_⟩
  · obtain ⟨t, run, told, -⟩ := State.act_callSvc may rfl (final st) (.refl [] _)
    exact ⟨t, run, told⟩
  · obtain ⟨inside, mine, waits⟩ : s.canTell (.program k j n) := may.canTell
    let u := s.begin.modSect k fun y => y.modSlot q fun z => { z with st := .final, status := St.aborted, result := [] }
    have other : u.ticket k j = s.ticket k j := State.ticket_modSlot_ne _ _ inside hqj.symm
    have len : k < u.prog.sects.length := by
      show k < (setAt _ _ _).length
      rw [setAt_eq_set, List.length_set]
      exact inside
    have eq : s.begin.callSvc (.program k j n) 0x050001 a = u.answer (.program k j n) St.aborted [] := by
      rw [State.callSvc_eq a may rfl, issued st]
    refine ⟨_, congrArg (fun t => Host.Outcome.next (s.after t)) eq, ?_, ?_⟩
    · exact (State.after_told ..).2 (State.answer_told _ _ ⟨len, other ▸ mine, other ▸ waits⟩)
    · show (u.answer (.program k j n) St.aborted []).ticket k q = _
      have ends : u.answer (.program k j n) St.aborted [] = u.modSect k fun x => x.modSlot j fun y => y.ended n St.aborted [] := rfl
      rw [ends, State.ticket_modSlot_ne _ _ len hqj]
      exact (State.ticket_modSlot _ _ _ inside).trans (congrArg (fun z : Slot => { z with st := .final, status := St.aborted, result := [] })
        slot.symm)

/-- A host's PLX.ABORT names no ticket. -/
theorem plxAbort_host {s : State} {c q : Nat} {a : SvcArgs} (may : s.canCall (.host c q) 0x050001) :
    ∃ t, exec (.plxAbort (.host c q) a) s = .next t ∧ t.told (.host c q) St.badArg [] ∧ t.onlyAnswers s := by
  obtain ⟨eq, told⟩ := State.callSvc_told (f := svcAbort) (a := a) may rfl rfl (.refl [] _)
  refine ⟨_, congrArg (fun t => Host.Outcome.next (s.after t)) eq, (State.after_told ..).2 told, ?_⟩
  exact State.onlyAnswers_after (State.mask_answer_host ..)

/-- Settles O30: each service of the platform does its own part, and one of a node puts its request into the queue of the association. -/
theorem platformAndNodeServicesAct : Obligations.PlatformAndNodeServicesAct := by
  unfold Obligations.PlatformAndNodeServicesAct
  refine ⟨fun _ _ _ => reqStop_pending, fun _ _ _ => reqStop_refused, fun _ _ _ => reqBasic_pending, fun _ _ _ => retainSave_pending,
    fun _ _ _ _ _ _ _ => plxAbort_ticket, fun _ _ _ _ => plxAbort_host,
    fun _ _ _ may sev => ⟨logEvent_queued may sev, logEvent_busy may sev⟩,
    fun s o a r i => ⟨fun may kind slot node => ?_, fun may slot lo hi node => ?_, fun may slot node => ?_, fun may slot none_ => ?_⟩⟩
  · exact askNode_queued may rfl (if_neg (by simp; omega)) node
  · exact askNode_queued may rfl (if_neg (by simp; omega)) node
  · exact askNode_queued may rfl (if_neg (by omega)) node
  · have res : svcNodeRestart s.begin o a = (s.begin, 0x0702, []) := by
      have node : s.begin.assocOf 0 a.wa.toNat = none := none_
      rw [svcNodeRestart, if_neg (by omega), State.askNode, node]
    obtain ⟨t, run, told, w⟩ := State.act_callSvc may rfl res (.refl [] _)
    exact ⟨t, run, told, w.net⟩

end Sys2Proof.Machine

/-! ### Tags, nodes and windows of the lighting plane (O31) -/
namespace Sys2Proof.Machine

/-! ### What staging leaves (R237 to R241) -/

/-- What staging leaves of a node that is not given up: its discrepancy, how far it has been caught up, and its association. -/
def Node.standing (x : Node) : Bool × Bool × Nat × Option Nat × Bool := (x.disc, x.stuck, x.tries, x.catchAt, x.online)

/-- State t differs from s by staging alone, seen from node i. -/
structure Stages (i : Nat) (s t : State) : Prop where
  changes : t.light.changes = s.light.changes
  rest : { t with light := s.light } = s
  node : ∀ x, s.node i = some x → x.stuck = false → ∃ y, t.node i = some y ∧ y.standing = x.standing

theorem Stages.refl (i : Nat) (s : State) : Stages i s s := ⟨rfl, rfl, fun x h _ => ⟨x, h, rfl⟩⟩

theorem Stages.trans {i : Nat} {s t u : State} (h : Stages i s t) (k : Stages i t u) : Stages i s u := by
  refine ⟨k.changes.trans h.changes, ?_, fun x hx live => ?_⟩
  · rw [← h.rest]
    exact congrArg (fun v : State => { v with light := s.light }) k.rest
  · obtain ⟨y, hy, ey⟩ := h.node x hx live
    obtain ⟨z, hz, ez⟩ := k.node y hy ((congrArg (fun p => p.2.1) ey).trans live)
    exact ⟨z, hz, ez.trans ey⟩

theorem Stages.foldl {α : Type} {i : Nat} {f : State → α → State} (hf : ∀ u a, Stages i u (f u a)) (l : List α) (s : State) :
    Stages i s (l.foldl f s) := by
  induction l generalizing s with
  | nil => exact .refl i s
  | cons a l ih => exact (hf s a).trans (ih _)

theorem Stages.ite {i : Nat} {s t u : State} {c : Prop} [Decidable c] (h : Stages i s t) (k : Stages i s u) :
    Stages i s (if c then t else u) := by
  split
  · exact h
  · exact k

/-- A change of the plane's tags and exclusions. -/
theorem stages_modLight (i : Nat) (s : State) {g : Light → Light} (hn : ∀ l, (g l).nodes = l.nodes) (hc : ∀ l, (g l).changes = l.changes) :
    Stages i s (s.modLight g) :=
  ⟨hc s.light, rfl, fun x hx _ => ⟨x, (congrArg (SMap.get? · i) (hn s.light)).trans hx, rfl⟩⟩

theorem stages_ensureTag (i : Nat) (s : State) (t : Nat) : Stages i s (s.ensureTag t) := stages_modLight i s (fun _ => rfl) fun _ => rfl

theorem stages_addExcl (i : Nat) (s : State) (q : Exclusion) : Stages i s (s.addExcl q) := by
  unfold State.addExcl
  split
  · exact .refl i s
  · exact stages_modLight i s (fun _ => rfl) fun _ => rfl

theorem stages_pruneTags (i : Nat) (s : State) : Stages i s s.pruneTags := by
  unfold State.pruneTags
  exact stages_modLight i s (fun _ => rfl) fun _ => rfl

theorem stages_setNode (i : Nat) {s : State} {j : Nat} {x z : Node} (hx : s.node j = some x) (hz : z.standing = x.standing) :
    Stages i s (s.setNode j z) := by
  refine ⟨rfl, rfl, fun y hy _ => ?_⟩
  by_cases e : i = j
  · subst e
    rw [hx] at hy
    cases hy
    exact ⟨z, SMap.get?_insert_self .., hz⟩
  · exact ⟨y, (SMap.get?_insert_ne _ _ _ _ e).trans hy, rfl⟩

theorem SMap.get?_modify {α : Type} (m : SMap α) (i j : Nat) (f : α → α) :
    SMap.get? (SMap.modify m i f) j = (SMap.get? m j).map fun x => if j = i then f x else x := by
  induction m with
  | nil => rfl
  | cons p m ih =>
    obtain ⟨k, v⟩ := p
    by_cases h : k = i <;> by_cases g : k = j <;> simp_all [SMap.modify, SMap.get?]

theorem stages_modNode (i : Nat) (s : State) (j : Nat) {f : Node → Node} (hf : ∀ x, x.stuck = false → (f x).standing = x.standing) :
    Stages i s (s.modNode j f) := by
  refine ⟨rfl, rfl, fun x hx live => ⟨if i = j then f x else x, ?_, ?_⟩⟩
  · have got : SMap.get? s.light.nodes i = some x := hx
    show SMap.get? (SMap.modify s.light.nodes j f) i = _
    rw [SMap.get?_modify, got]
    rfl
  · split
    · exact hf x live
    · rfl

theorem Node.takeEntry_standing (e : Entry) (eval : Bool) {x : Node} (live : x.stuck = false) :
    (x.takeEntry e eval).standing = x.standing := by
  simp [Node.takeEntry, Node.standing, live]

theorem stages_takeEntry (i : Nat) (s : State) (j : Nat) (e : Node → Entry) (eval : Node → Bool) (t : Nat) :
    Stages i s ((s.modNode j fun x => x.takeEntry (e x) (eval x)).ensureTag t) :=
  (stages_modNode i s j fun _ live => Node.takeEntry_standing _ _ live).trans (stages_ensureTag ..)

theorem stages_swapEntry (i : Nat) (s : State) (j : Nat) (e e' : Entry) : Stages i s (s.modNode j fun x => x.swapEntry e e') :=
  stages_modNode i s j fun _ _ => rfl

theorem stages_retractMulti (i : Nat) (s : State) (ms : List Nat) (e : Entry) : Stages i s (s.retractMulti ms e) := by
  refine .foldl (fun u j => ?_) ms s
  split
  · exact .refl i u
  · next x hx => exact (stages_setNode (z := x.swapEntry e { e with st := 4 }) i hx rfl).trans (stages_addExcl ..)

theorem stages_makeRoom (i : Nat) (s : State) (j : Nat) (x : Node) : Stages i s (s.makeRoom j x) := by
  unfold State.makeRoom
  split
  · exact stages_swapEntry ..
  · exact .refl i s

theorem stages_stageMulti (i : Nat) (s : State) (ms : List Nat) (t : Nat) (stands : Bool) : Stages i s (s.stageMulti ms t stands) := by
  have give : ∀ (u : State) (e : Entry) (ev : State → Node → Bool),
      Stages i u ((ms.foldl (fun (s : State) i => s.modNode i fun x => x.takeEntry e (ev s x)) u).ensureTag t) := fun u e ev =>
    (Stages.foldl (fun _ _ => stages_modNode i _ _ fun _ live => Node.takeEntry_standing _ _ live) ms u).trans (stages_ensureTag ..)
  unfold State.stageMulti
  dsimp only
  split
  · exact .refl i s
  · split
    · exact .refl i s
    · split
      · exact .refl i s
      · split
        · split
          · exact .refl i s
          · exact give _ _ fun s x => !s.fullTag x t
        · split
          · split
            · exact .refl i s
            · exact (Stages.foldl (fun _ _ => stages_swapEntry ..) ms s).trans (give _ _ fun s x => !s.fullTag x t)
          · split
            · exact .refl i s
            · split
              · exact stages_retractMulti ..
              · exact (stages_retractMulti ..).trans (give _ _ fun s x => !s.fullTag x t)

theorem stages_stageUni (i : Nat) (s : State) (j t : Nat) (stands now : Bool) : Stages i s (s.stageUni j t stands now) := by
  unfold State.stageUni
  split
  · exact .refl i s
  · next x hx =>
    dsimp only
    cases x.entryAt true t with
    | none =>
      exact .ite (.refl i s) (.ite (stages_takeEntry i s j _ _ t) (.ite (.refl i s)
        ((stages_makeRoom i s j x).trans (stages_takeEntry i _ j _ _ t))))
    | some e =>
      refine .ite (.ite (.refl i s) ((stages_swapEntry ..).trans (stages_takeEntry i _ j _ _ t))) (.ite (.refl i s) ?_)
      exact .ite (stages_swapEntry ..) ((stages_swapEntry ..).trans (stages_takeEntry i _ j _ _ t))

theorem stages_giveGain (i : Nat) (s : State) (j t : Nat) (g l : List Nat) : Stages i s (s.giveGain j t g l) := by
  unfold State.giveGain
  split
  · exact .refl i s
  · split
    · exact .refl i s
    · dsimp only
      refine .trans ?_ ((stages_modNode i _ _ ?_).trans (stages_ensureTag ..))
      · split
        · exact .refl i s
        · exact stages_makeRoom ..
      · exact fun _ _ => rfl

theorem stages_stageGain (i : Nat) (s : State) (j : Nat) : Stages i s (s.stageGain j) := by
  unfold State.stageGain
  split
  · exact .refl i s
  · next x hx =>
    extract_lets s1 s2 s3
    have one : Stages i s s1 := stages_setNode i hx rfl
    have two : Stages i s1 s2 := by
      show Stages i s1 (match s1.light.resyncTag with | some t => _ | none => _)
      split
      · split
        · exact stages_giveGain ..
        · exact .refl ..
      · exact .refl ..
    have three : Stages i s2 s3 := by
      show Stages i s2 (match x.catchAt with | some t => _ | none => _)
      split
      · split
        · exact .refl ..
        · split <;> exact stages_giveGain ..
      · exact .refl ..
    refine (one.trans (two.trans three)).trans ?_
    split
    · split
      · exact stages_giveGain ..
      · exact .refl ..
    · exact .refl ..

theorem stages_stageTag (i : Nat) (s : State) (plan : List (Nat × StagePlan)) (all : List Nat) (t : Nat) :
    Stages i s (s.stageTag plan all t) := by
  unfold State.stageTag
  extract_lets here multi s1
  refine .trans ?_ (.foldl (fun u p => stages_stageUni ..) _ _)
  show Stages i s (if _ then _ else _)
  split
  · exact stages_stageMulti ..
  · exact .refl ..

theorem stages_stageAll (i : Nat) (s : State) (plan : List (Nat × StagePlan)) (ids : List Nat) : Stages i s (s.stageAll plan ids) := by
  unfold State.stageAll
  extract_lets groupOf groups s1
  refine .trans (.foldl (fun u g => ?_) groups s) ((Stages.foldl (fun u j => stages_stageGain ..) ids s1).trans (stages_pruneTags ..))
  exact .foldl (fun v t => stages_stageTag ..) _ u

theorem Stages.get {i : Nat} {s t : State} (h : Stages i s t) (f : Fld) : t.get f = s.get f :=
  (congrArg (fun v : State => v.get f) h.rest :)

/-! ### Tags beyond their window (R242, R243) -/

/-- A step that leaves a state as it stands. -/
theorem State.idle_act (s : State) {f : State → State} (h : f s.begin = s.begin) :
    ∃ t, s.act f = .next t ∧ { t with out := s.out } = s :=
  ⟨s.after s.begin, congrArg (fun u => Host.Outcome.next (s.after u)) h, rfl⟩

theorem any_tag {l : List TagSt} {tag : Nat} {st : TagPhase} (h : ∃ x ∈ l, x.tag = tag ∧ x.st = st) :
    l.any (fun x => decide (x.tag = tag) && decide (x.st = st)) = true := by
  obtain ⟨x, hx, ht, hs⟩ := h
  exact List.any_eq_true.2 ⟨x, hx, by simp [ht, hs]⟩

/-- A tag within its window is neither closed nor withdrawn. -/
theorem frames_within_window (s : State) (tag : Nat) (within : s.num + 1 - tag ≤ s.get F.LGT_GRACE_GRACE) :
    (∃ t, exec (.commitFrameClose tag) s = .next t ∧ { t with out := s.out } = s) ∧
    (∃ t, exec (.commitFrameWithdraw tag) s = .next t ∧ { t with out := s.out } = s) := by
  have near : decide (s.begin.get F.LGT_GRACE_GRACE < s.begin.num + 1 - tag) = false := by
    show decide (s.get F.LGT_GRACE_GRACE < s.num + 1 - tag) = false
    simpa using within
  constructor <;> refine s.idle_act ?_
  · show s.begin.closeFrame tag = s.begin
    rw [State.closeFrame, near, Bool.and_false, if_neg (by decide)]
  · show s.begin.withdrawFrame tag = s.begin
    rw [State.withdrawFrame, near, Bool.and_false, if_neg (by decide)]

theorem commitFrame_closed (s : State) (tag : Nat) (past : s.get F.LGT_GRACE_GRACE < s.num + 1 - tag)
    (eff : ∃ x ∈ s.light.tags, x.tag = tag ∧ x.st = .effective) :
    ∃ t, exec (.commitFrameClose tag) s = .next t ∧
      t.light = { s.light with
        tags := s.light.tags.filter fun x => x.tag ≠ tag
        excl := s.light.excl.filter fun x => x.tag ≠ tag } ∧ { t with light := s.light, out := s.out } = s := by
  have go : (s.begin.light.tags.any (fun x => decide (x.tag = tag) && decide (x.st = .effective)) &&
      decide (s.begin.get F.LGT_GRACE_GRACE < s.begin.num + 1 - tag)) = true :=
    Bool.and_eq_true_iff.2 ⟨any_tag eff, decide_eq_true past⟩
  have eq : s.begin.closeFrame tag = s.begin.modLight fun l => { l with
      tags := l.tags.filter (fun x => x.tag ≠ tag), excl := l.excl.filter (fun x => x.tag ≠ tag) } := if_pos go
  exact ⟨_, congrArg (fun u => Host.Outcome.next (s.after u)) eq, rfl, rfl⟩

theorem State.ensureTags_changes (l : List Nat) (s : State) : (l.foldl (fun s t => s.ensureTag t) s).light.changes = s.light.changes := by
  induction l generalizing s with
  | nil => rfl
  | cons t l ih => exact ih _

/-- The state but for the lighting plane. -/
def State.unlit (s : State) : State := { s with light := {} }

theorem State.leadOf_of_unlit {s t : State} (h : t.unlit = s.unlit) (lead : Bool) : t.leadOf lead = s.leadOf lead :=
  (congrArg (fun v : State => v.leadOf lead) h :)

theorem State.ensureTags_unlit (l : List Nat) (s : State) : (l.foldl (fun s t => s.ensureTag t) s).unlit = s.unlit := by
  induction l generalizing s with
  | nil => rfl
  | cons t l ih => exact ih _

/-- A change as it is decided again in frame n. -/
def State.redecided (s : State) (n : Nat) (c : LayerChange) : LayerChange := { c with tag := n + s.leadOf c.lead, at_ := n }

theorem State.changesAt_changes (n : Nat) (l : List LayerChange) (s : State) (d : LayerChange) :
    d ∈ (l.foldl (fun s c => s.changeAt n c.lead c.kind c.fade c.by_ c.old) s).light.changes ↔
      d ∈ s.light.changes ∨ ∃ c ∈ l, d = s.redecided n c := by
  induction l generalizing s with
  | nil => simp
  | cons c l ih =>
    rw [List.foldl_cons, ih, State.changeAt_changes]
    have same : (s.changeAt n c.lead c.kind c.fade c.by_ c.old).redecided n = s.redecided n := rfl
    rw [same, or_assoc]
    exact or_congr_right (by simp [State.redecided])

/-- Withdrawing a tag: its changes are decided again, and the others stand. -/
theorem State.withdrawTag_changes (s : State) (tag n : Nat) (c : LayerChange) (h : c ∈ s.light.changes) :
    (if c.tag = tag then s.redecided n c else c) ∈ (s.withdrawTag tag n).light.changes := by
  unfold State.withdrawTag
  extract_lets cs s1 s2
  have two : s2.light.changes = s1.light.changes := State.ensureTags_changes _ _
  have lead : s2.unlit = s.unlit := State.ensureTags_unlit _ _
  refine (State.changesAt_changes ..).2 ?_
  split
  · next e =>
    refine .inr ⟨c, List.mem_filter.2 ⟨h, decide_eq_true e⟩, ?_⟩
    simp only [State.redecided, State.leadOf_of_unlit lead]
  · next e => exact .inl (two ▸ List.mem_filter.2 ⟨h, decide_eq_true e⟩)

theorem State.withdrawTag_unlit (s : State) (tag n : Nat) : (s.withdrawTag tag n).unlit = s.unlit := by
  unfold State.withdrawTag
  extract_lets cs s1 s2
  have two : s2.unlit = s.unlit := State.ensureTags_unlit _ _
  rw [← two]
  generalize s2 = u
  clear_value cs
  induction cs generalizing u with
  | nil => rfl
  | cons c l ih => exact ih _

theorem commitFrame_withdrawn (s : State) (tag : Nat) (past : s.get F.LGT_GRACE_GRACE < s.num + 1 - tag)
    (defer : ∃ x ∈ s.light.tags, x.tag = tag ∧ x.st = .deferred) :
    ∃ t, exec (.commitFrameWithdraw tag) s = .next t ∧
      t.get F.LGT_CNT1_WITHDRAWN = min 255 (s.get F.LGT_CNT1_WITHDRAWN + 1) ∧
      ∀ c ∈ s.light.changes, if c.tag = tag then
        ({ c with tag := s.num + s.leadOf c.lead, at_ := s.num } ∈ t.light.changes) else c ∈ t.light.changes := by
  have go : (s.begin.light.tags.any (fun x => decide (x.tag = tag) && decide (x.st = .deferred)) &&
      decide (s.begin.get F.LGT_GRACE_GRACE < s.begin.num + 1 - tag)) = true :=
    Bool.and_eq_true_iff.2 ⟨any_tag defer, decide_eq_true past⟩
  let u := (s.begin.inc F.LGT_CNT1_WITHDRAWN).log Sev.warning 3 F.LGT_CNT1_WITHDRAWN []
  have eq : s.begin.withdrawFrame tag = (u.withdrawTag tag s.num).restage := if_pos go
  have staged : Stages 0 (u.withdrawTag tag s.num) (u.withdrawTag tag s.num).restage := stages_stageAll ..
  refine ⟨_, congrArg (fun u => Host.Outcome.next (s.after u)) eq, ?_, fun c hc => ?_⟩
  · rw [State.after_get, staged.get]
    have counted : (u.withdrawTag tag s.num).get F.LGT_CNT1_WITHDRAWN = u.get F.LGT_CNT1_WITHDRAWN :=
      (congrArg (fun v : State => v.get F.LGT_CNT1_WITHDRAWN) (u.withdrawTag_unlit tag s.num) :)
    rw [counted, State.log_get _ _ _ _ _ (by decide)]
    exact State.get_inc_byte s.begin rfl rfl
  · have light : u.light = s.light := State.log_light ..
    have lead : ∀ b, u.leadOf b = s.leadOf b := fun b => by
      unfold State.leadOf
      split <;> rw [State.log_get _ _ _ _ _ (by decide), State.inc_eq, State.get_put_ne _ _ _ _ (by decide)] <;> rfl
    have moved := u.withdrawTag_changes tag s.num c (light ▸ hc)
    rw [← staged.changes] at moved
    split
    · next e =>
      rw [if_pos e, State.redecided, lead] at moved
      exact moved
    · next e =>
      rw [if_neg e] at moved
      exact moved

/-! ### Nodes that do not report (R217, R256 to R258) -/

theorem State.node_setNode_self (s : State) (i : Nat) (x : Node) : (s.setNode i x).node i = some x := SMap.get?_insert_self ..

/-- What a catch-up leaves of a node. -/
theorem State.catchUp_node {s : State} {i : Nat} {x : Node} (hx : s.node i = some x) :
    ∃ y, (s.catchUp i).node i = some y ∧ y.disc = x.disc ∧ y.online = x.online ∧
      (s.light.running = true → x.catchAt = none → x.stuck = false → x.tries < s.get F.LGT_GRACE_TRIES →
        y.catchAt = some (s.num + s.get F.LGT_GRACE_CATCHUP) ∧ y.tries = x.tries + 1) ∧
      (s.light.running = true → x.catchAt = none → x.stuck = false → s.get F.LGT_GRACE_TRIES ≤ x.tries → y.stuck = true) := by
  unfold State.catchUp
  rw [hx]
  dsimp only
  split
  · next idle =>
    refine ⟨x, hx, rfl, rfl, fun run at_ live => ?_, fun run at_ live => ?_⟩ <;>
    · rw [run, at_, live] at idle
      cases idle
  · next act =>
    have live : x.stuck = false := by
      cases h : x.stuck with
      | false => rfl
      | true => rw [h] at act; simp at act
    split
    · next many =>
      refine ⟨{ x with stuck := true }, ?_, rfl, rfl, fun _ _ _ few => absurd few (by omega), fun _ _ _ _ => rfl⟩
      simp only [State.node, State.log_light]
      exact s.node_setNode_self i { x with stuck := true }
    · next few =>
      let u := (s.setNode i { x with catchAt := some (s.num + s.get F.LGT_GRACE_CATCHUP), tries := x.tries + 1 }).ensureTag
        (s.num + s.get F.LGT_GRACE_CATCHUP)
      have staged : Stages i u (u.restageNode i) := stages_stageAll ..
      obtain ⟨y, hy, same⟩ := staged.node _ (s.node_setNode_self i _) live
      simp only [Node.standing, Prod.mk.injEq] at same
      obtain ⟨disc, -, tries, at_, online⟩ := same
      exact ⟨y, hy, disc, online, fun _ _ _ _ => ⟨at_, tries⟩, fun _ _ _ many => absurd many few⟩

theorem reportWait_discrepant (s : State) (i : Nat) (x : Node) (hx : s.node i = some x)
    (silent : s.past (Nat.max x.repAt x.waitAt + s.get F.LGT_CONF_WAIT * frameNs) = true) (radio : s.localOf i = none) :
    ∃ t y, exec (.reportWaitExpiry i) s = .next t ∧ t.node i = some y ∧ y.disc = true ∧
      (s.light.running = true → x.catchAt = none → x.stuck = false → x.tries < s.get F.LGT_GRACE_TRIES →
        y.catchAt = some (s.num + s.get F.LGT_GRACE_CATCHUP) ∧ y.tries = x.tries + 1) ∧
      (s.light.running = true → x.catchAt = none → x.stuck = false → s.get F.LGT_GRACE_TRIES ≤ x.tries → y.stuck = true) := by
  have node : s.begin.node i = some x := hx
  have due : (s.begin.past (Nat.max x.repAt x.waitAt + s.begin.get F.LGT_CONF_WAIT * frameNs) && (s.begin.localOf i).isNone) = true :=
    Bool.and_eq_true_iff.2 ⟨silent, (congrArg Option.isNone radio :)⟩
  cases hd : x.disc with
  | true =>
    have eq : s.begin.reportWait i = s.begin.catchUp i := by
      rw [State.reportWait, node]
      dsimp only
      rw [if_pos due, if_pos hd]
    obtain ⟨y, hy, disc, -, facts⟩ := State.catchUp_node node
    exact ⟨_, y, congrArg (fun u => Host.Outcome.next (s.after u)) eq, hy, disc.trans hd, facts⟩
  | false =>
    have eq : s.begin.reportWait i = (s.begin.setNode i { x with disc := true, discAt := s.mono }).catchUp i := by
      have off : ¬x.disc = true := by simp [hd]
      rw [State.reportWait, node]
      dsimp only
      rw [if_pos due, if_neg off, State.setDisc, node]
      exact if_neg off
    obtain ⟨y, hy, disc, -, facts⟩ := State.catchUp_node (s.begin.node_setNode_self i { x with disc := true, discAt := s.mono })
    exact ⟨_, y, congrArg (fun u => Host.Outcome.next (s.after u)) eq, hy, disc, facts⟩

theorem tempAge_expiry (s : State) (i : Nat) (x : Node) (hx : s.node i = some x) :
    (s.past (x.tempAt + s.get F.LGT_COMP_TEMP_AGE * 1000000000) = true →
      ∃ t, exec (.tempAgeExpiry i) s = .next t ∧ t.node i = some { x with tempStale := true } ∧
        ({ x with tempStale := true } : Node).dT = 0) ∧
    (s.past (x.tempAt + s.get F.LGT_COMP_TEMP_AGE * 1000000000) = false →
      ∃ t, exec (.tempAgeExpiry i) s = .next t ∧ { t with out := s.out } = s) := by
  have node : s.begin.node i = some x := hx
  have eq : s.begin.tempAge i = if s.past (x.tempAt + s.get F.LGT_COMP_TEMP_AGE * 1000000000) = true then
      s.begin.setNode i { x with tempStale := true } else s.begin := by
    rw [State.tempAge, node]
    rfl
  constructor <;> intro h <;> rw [h] at eq
  · refine ⟨_, congrArg (fun u => Host.Outcome.next (s.after u)) eq, s.begin.node_setNode_self i _, ?_⟩
    simp [Node.dT]
  · exact s.idle_act (f := fun s => s.tempAge i) eq

/-! ### Registers with a window (R213, R214, R254) -/

/-- A requester that may write registers passes the gate of a register that any role may write. -/
theorem State.gate_open {s : State} {who : Requester} (may : s.mayWrite who) (f : State → State) : s.begin.gate who 1 f = f s.begin := by
  obtain ⟨role, recovery⟩ := may
  unfold State.gate
  rw [if_neg (by show ¬s.roleOf who < 1; omega)]
  cases who with
  | engine e => rfl
  | session c | sid0 =>
    have serves : s.mode ≠ .recovery := fun h => by obtain ⟨e, he⟩ := recovery h; cases he
    exact if_neg (by show ¬((s.live && decide (s.mode = .recovery)) = true); simp [serves])

theorem State.setLatch_latched (s : State) (win rk : Nat) {l : List Nat} (some_ : l ≠ []) : (s.setLatch win rk l).latched win rk = l := by
  unfold State.setLatch State.latched
  rw [SMap.put, if_neg some_]
  exact SMap.getD_insert_self ..

theorem bits_low (w : Word) : bits w.toNat 11 0 = w.toNat % 4096 := by
  simp [bits]

theorem State.calStore_valid {s : State} {rk w : Nat} {x : Node} (hx : s.node (bits w 11 0) = some x) (ok : calOk (s.latched Win.cal rk) = true) :
    s.calStore rk w = (((s.setNode (bits w 11 0) { x with cal := s.latched Win.cal rk, nocal := false, newCal := true, calSend := true }).put
      F.LGT_CSEL_NODE (bits w 11 0)).put F.LGT_CSTAT_STATUS St.done, St.done) := by
  rw [State.calStore, hx]
  exact if_pos ok

theorem State.calStore_invalid {s : State} {rk w : Nat} {x : Node} (hx : s.node (bits w 11 0) = some x)
    (bad : calOk (s.latched Win.cal rk) = false) :
    s.calStore rk w = (s.put F.LGT_CSTAT_STATUS St.calInvalid, St.calInvalid) := by
  rw [State.calStore, hx]
  exact if_neg (by rw [bad]; decide)

theorem calibration_windows (s : State) (who : Requester) (w : Word) (i : Nat) (x : Node) (may : s.mayWrite who) (hi : i = w.toNat % 4096)
    (hx : s.node i = some x) :
    (calOk (s.latched Win.cal who.key) = true → ∃ t, exec (.calStore who w) s = .next t ∧
      t.node i = some { x with cal := s.latched Win.cal who.key, nocal := false, newCal := true, calSend := true } ∧
      t.get F.LGT_CSTAT_STATUS = St.done) ∧
    (calOk (s.latched Win.cal who.key) = false → ∃ t, exec (.calStore who w) s = .next t ∧ t.light = s.light ∧
      t.get F.LGT_CSTAT_STATUS = St.calInvalid) ∧
    (x.cal ≠ [] → ∃ t, exec (.calLoad who w) s = .next t ∧ t.latched Win.cal who.key = x.cal ∧ t.light = s.light) := by
  have index : bits w.toNat 11 0 = i := (bits_low w).trans hi.symm
  have node : s.begin.node (bits w.toNat 11 0) = some x := index ▸ hx
  have store : ∀ {u st}, s.begin.calStore who.key w.toNat = (u, st) →
      exec (.calStore who w) s = .next (s.after (u.reply who st)) := fun {u st} h => by
    refine congrArg (fun u => Host.Outcome.next (s.after u)) ((State.gate_open may _).trans ?_)
    rw [h]
  refine ⟨fun ok => ⟨_, store (State.calStore_valid node ok), ?_, ?_⟩, fun bad => ⟨_, store (State.calStore_invalid node bad), ?_, ?_⟩,
    fun some_ => ⟨_, congrArg (fun u => Host.Outcome.next (s.after u)) (State.gate_open may _), ?_, ?_⟩⟩
  · rw [index, State.node, State.after_light, State.reply_light]
    exact s.begin.node_setNode_self i _
  · rw [State.after_get, State.reply_get, State.get_put_self]
    decide
  · rw [State.after_light, State.reply_light]
    rfl
  · rw [State.after_get, State.reply_get, State.get_put_self]
    decide
  · rw [State.latched, State.after_latch, State.reply_latch, ← State.latched, State.calLoad]
    have node : (s.begin.put F.LGT_CSEL_NODE (bits w.toNat 11 0)).node (bits w.toNat 11 0) = some x := node
    rw [node]
    dsimp only
    rw [if_neg some_]
    exact State.setLatch_latched _ _ _ some_
  · rw [State.after_light, State.reply_light]
    rfl

theorem stagingView_ne_nil (x : Node) : stagingView x ≠ [] := by
  intro h
  have := congrArg List.length h
  simp [stagingView] at this

/-- A node's windows latch it as the last boundary left it. -/
theorem node_windows (s : State) (who : Requester) (w : Word) (i : Nat) (may : s.mayWrite who) (hi : i = w.toNat % 4096) :
    (∃ t, exec (.lgtNsel who w) s = .next t ∧ t.get F.LGT_NSEL_NODE = i ∧ t.light = s.light ∧
      t.latched Win.node who.key = (match SMap.get? s.light.image i with
        | some x => nodeImage s x
        | none => List.replicate 32 0)) ∧
    (∃ t, exec (.lgtSsel who w) s = .next t ∧ t.get F.LGT_SSEL_NODE = i ∧ t.light = s.light ∧
      t.latched Win.staging who.key = (match SMap.get? s.light.image i with
        | some x => stagingView x
        | none => List.replicate 40 0)) := by
  have index : bits w.toNat 11 0 = i := (bits_low w).trans hi.symm
  have small : i % 4096 = i := by rw [hi, Nat.mod_mod]
  constructor <;>
    refine ⟨_, congrArg (fun u => Host.Outcome.next (s.after u)) (State.gate_open may _), ?_, ?_, ?_⟩ <;>
    simp only [State.latched, State.after_get, State.after_light, State.after_latch, State.reply_get, State.reply_light, State.reply_latch]
  · exact ((State.get_put_self ..).trans (congrArg (· % 4096) index)).trans small
  · rfl
  · rw [State.selNode, index]
    refine (State.setLatch_latched _ _ _ ?_).trans ?_
    · split
      · exact List.cons_ne_nil _ _
      · decide
    · rfl
  · exact ((State.get_put_self ..).trans (congrArg (· % 4096) index)).trans small
  · rfl
  · rw [State.selStaging, index]
    refine (State.setLatch_latched _ _ _ ?_).trans ?_
    · split
      · exact stagingView_ne_nil _
      · decide
    · rfl

/-- Settles O31: a tag beyond its window is closed or withdrawn, staging keeps what a node's standing is, and the windows latch it. -/
theorem tagsNodesAndWindowsKeepTheirRules : Obligations.TagsNodesAndWindowsKeepTheirRules := by
  unfold Obligations.TagsNodesAndWindowsKeepTheirRules
  exact ⟨commitFrame_closed, frames_within_window, commitFrame_withdrawn, reportWait_discrepant, tempAge_expiry, calibration_windows,
    node_windows⟩

end Sys2Proof.Machine

/-! ### Radios: slots, transmissions and associations (chapter 06) -/
namespace Sys2Proof.Machine

/-! ### One radio -/

@[simp] theorem State.setRadio_length (s : State) (r : Nat) (x : Radio) : (s.setRadio r x).net.radios.length = s.net.radios.length := by
  simp [State.setRadio, setAt_eq_set]

@[simp] theorem State.modRadio_length (s : State) (r : Nat) (f : Radio → Radio) : (s.modRadio r f).net.radios.length = s.net.radios.length :=
  s.setRadio_length r _

theorem State.radio_modRadio (s : State) {r : Nat} (f : Radio → Radio) (h : r < s.net.radios.length) :
    (s.modRadio r f).radio r = f (s.radio r) := s.radio_setRadio _ h

theorem State.radio_setRadio_ne (s : State) {r q : Nat} (x : Radio) (h : q ≠ r) : (s.setRadio r x).radio q = s.radio q := by
  simp [State.radio, State.setRadio, setAt_eq_set, h.symm]

theorem State.radio_of_net {s t : State} (h : t.net = s.net) (r : Nat) : t.radio r = s.radio r := by
  rw [State.radio, State.radio, h]

theorem State.hasSlot.radio {s : State} {r : Nat} (h : s.hasSlot r) : r < s.net.radios.length := by
  obtain ⟨hr, len, -⟩ := h
  omega

/-! ### Slots (Table 02.3, R272) -/

/-- What the good end of a slot may change. -/
abbrev slotParts : List Part := [.frame, .recs, .regs, .block 0x19, .block 4]

theorem within_onTime_radio (s : State) : Within slotParts s (s.onTime 4) := by
  have consec : (F.FRM_DCLS_CONSEC_CONSEC.at 4).part = .block 4 := by decide
  unfold State.onTime
  split
  · exact .refl _ _
  · unfold State.classOnTime
    dsimp only
    refine .trans ?_ (within_put _ _ (by decide) (by rw [consec]; decide))
    split
    · exact .refl _ _
    · exact (within_log _ _ _ _ _ (by decide)).trans
        (within_modFrame_rest _ (fun _ => rfl) (fun _ => rfl) (fun _ => ⟨rfl, rfl⟩) (by decide))

/-- In a slot that no fault of its radio has lost, what is sent is sent, and the class may count it as on time. -/
theorem State.inSlot_within {s : State} {r : Nat} (f : State → State) (h : s.frame.missed.contains (radioLate r) = false) :
    Within slotParts (f s) (s.inSlot r f) := by
  unfold State.inSlot
  rw [h, if_neg (by decide)]
  split
  · exact .refl _ _
  · exact within_onTime_radio _

/-- The state in which a frame of the schedule is sent: at its instant, and marked as sent. -/
def State.fired (s : State) (r kind us : Nat) : State := (s.atNs (1000 * us)).modRadio r fun x => { x with sent := x.sent ++ [kind] }

theorem State.slotOnce_go {s : State} {r kind us l : Nat} (f : State → State) (fresh : kind ∉ (s.radio r).sent)
    (early : s.frame.off ≤ 1000 * us + 2000) (ends : s.endsInTime us (us + airTime (s.phy r) l) = true) :
    s.slotOnce r kind us l f = f (s.fired r kind us) := by
  refine if_neg ?_
  rw [ends]
  simpa [fresh] using early

theorem State.slotOnce_late {s : State} {r kind us l : Nat} (f : State → State)
    (h : kind ∈ (s.radio r).sent ∨ 1000 * us + 2000 < s.frame.off) : s.slotOnce r kind us l f = s := by
  refine if_pos ?_
  rcases h with h | h <;> simp [h]

theorem State.radio_fired (s : State) {r : Nat} (kind us : Nat) (h : r < s.net.radios.length) :
    (s.fired r kind us).radio r = { s.radio r with sent := (s.radio r).sent ++ [kind] } := State.radio_modRadio _ _ h

@[simp] theorem State.fired_length (s : State) (r kind us : Nat) : (s.fired r kind us).net.radios.length = s.net.radios.length :=
  State.modRadio_length ..

theorem State.endsInTime_of_regular {s : State} (h : s.frame.transitional = false) (a b : Nat) : s.endsInTime a b = true := by
  simp [State.endsInTime, h]

/-! ### Transmissions -/

theorem State.radioTx_sent (s : State) (r l : Nat) (e : Bool) (k : OutKind) (us : Nat) (args : List Int) :
    (s.radioTx r l e k us args).sent k ((r : Int) :: us :: args) := State.emitAt_sent ..

theorem State.radioTx_net (s : State) (r l : Nat) (e : Bool) (k : OutKind) (us : Nat) (args : List Int) :
    (s.radioTx r l e k us args).net = (s.addAir r (airTime (s.phy r) l) e).net := State.emitAt_net ..

/-- A radio after a transmission: only its airtime differs. -/
theorem State.radioTx_radio (s : State) {r : Nat} (l : Nat) (e : Bool) (k : OutKind) (us : Nat) (args : List Int)
    (h : r < s.net.radios.length) :
    (s.radioTx r l e k us args).radio r =
      { s.radio r with air := (s.radio r).air ++ [(s.mono, airTime (s.phy r) l, e)] } := by
  rw [State.radio_of_net (State.radioTx_net ..), State.addAir, State.radio_modRadio _ _ h]

/-- What is sent in a slot has left, and the radio stands as the sending leaves it. -/
theorem Within.sent {D : List Part} {s t : State} (w : Within D s t) {k : OutKind} {l : List Int} (h : s.sent k l)
    (ho : .out ∉ D := by decide) (hh : .held ∉ D := by decide) : t.sent k l := (w.grows ho hh).sent h

theorem Within.radio {D : List Part} {s t : State} (w : Within D s t) (r : Nat) (h : .net ∉ D := by decide) : t.radio r = s.radio r :=
  State.radio_of_net (w.net h) r

/-! ### The schedule of frame 0 and of the records (R241, R242, R274 to R277) -/

section Fired
variable {s : State} {r : Nat} (h : r < s.net.radios.length) (kind us : Nat)
include h

theorem State.fired_exclusions : ((s.fired r kind us).radio r).exclusions = (s.radio r).exclusions := by rw [s.radio_fired _ _ h]

theorem State.fired_exclusionOctets : (s.fired r kind us).exclusionOctets r = s.exclusionOctets r := by
  rw [State.exclusionOctets, State.fired_exclusions h]
  rfl

theorem State.fired_beaconEnd : (s.fired r kind us).beaconEnd r = s.beaconEnd r := by
  rw [State.beaconEnd, State.fired_exclusions h]
  rfl

theorem State.fired_sharedCells (b : Nat) : (s.fired r kind us).sharedCells r b = s.sharedCells r b := by
  simp only [State.sharedCells, s.radio_fired _ _ h]
  rfl

theorem State.fired_lastMapann : (s.fired r kind us).lastMapann r = s.lastMapann r := by
  simp only [State.lastMapann, State.fired_beaconEnd h, State.fired_sharedCells h, s.radio_fired _ _ h]
  rfl

theorem State.fired_nextChannel (last : Bool) : (s.fired r kind us).nextChannel r last = s.nextChannel r last := by
  simp only [State.nextChannel, s.radio_fired _ _ h]
  rfl

theorem State.fired_namedOn : (s.fired r kind us).namedOn r = s.namedOn r := by
  simp only [State.namedOn, State.fired_exclusions h]
  rfl

end Fired

end Sys2Proof.Machine

/-! ### Scheduled frames and map changes (O32) -/
namespace Sys2Proof.Machine

/-- What the good end of a slot, and the end of its command, may change. -/
abbrev firedParts : List Part := slotParts ++ tellParts.filter (· ∉ [.out, .held, .sessions, .slots, .asked])

theorem within_after_rest (s u : State) : Within [.mem, .pending] u (s.after u) := by
  refine .of_same rfl fun c hc => ?_
  cases c with
  | mem | pending => exact absurd (by decide) hc
  | asked => exact ⟨rfl, rfl, rfl⟩
  | cores => exact ⟨rfl, rfl⟩
  | cmdStat | block _ | wild => trivial
  | _ => exact rfl

/-- A frame of the schedule that is due goes out once, in its slot. -/
theorem State.fires {s : State} {r kind us l : Nat} {f g : State → State} (slot : s.hasSlot r)
    (hg : g s.begin = s.begin.slotOnce r kind us l fun s => s.inSlot r f) (fresh : kind ∉ (s.radio r).sent)
    (early : s.frame.off ≤ 1000 * us + 2000) (ends : s.endsInTime us (us + airTime (s.phy r) l) = true) :
    ∃ t, s.act g = .next t ∧ Within firedParts (f (s.begin.fired r kind us)) t := by
  have go : g s.begin = (s.begin.fired r kind us).inSlot r f := hg.trans (State.slotOnce_go (s := s.begin) _ fresh early ends)
  refine ⟨_, congrArg (fun u => Host.Outcome.next (s.after u)) go, ?_⟩
  have open_ : (s.begin.fired r kind us).frame.missed.contains (radioLate r) = false := slot.2.2
  exact ((State.inSlot_within f open_).mono (by decide)).trans ((within_after_rest ..).mono (by decide))

theorem State.idle_of {s : State} {c : Instr} {f : State → State} (hc : exec c s = s.act f) (h : f s.begin = s.begin) : s.idle c := by
  obtain ⟨t, run, same⟩ := s.idle_act h
  exact ⟨t, hc.trans run, same⟩

theorem State.fired_off {s : State} {r kind us : Nat} : (s.fired r kind us).num = s.num := rfl

/-! ### Beacons -/

theorem beaconTx_sent (s : State) (r : Nat) (slot : s.hasSlot r) (on : s.radioOn r = true) (zero : s.num % 10 = 0)
    (regular : s.frame.transitional = false) (fresh : 0 ∉ (s.radio r).sent) (early : s.frame.off ≤ 1000 * s.beaconStart r + 2000) :
    ∃ t flags, exec (.beaconTx r) s = .next t ∧
      0 ∈ (t.radio r).sent ∧ (t.radio r).cells = s.sharedCells r (s.beaconEnd r) ∧
      t.sent .beacon ((r : Int) :: s.beaconStart r :: scheduled 0 (leBytes 2 (s.get (F.RAD_CFG_NETID.at r)) ++
        leBytes 4 (s.radio r).e ++ leBytes 6 s.num ++ [s.get F.LGT_STAT_EPOCH % 256, flags, s.nextChannel r (s.lastMapann r),
          s.sharedCells r (s.beaconEnd r), (s.radio r).exclusions.length] ++ s.exclusionOctets r)) := by
  have len : r < s.begin.net.radios.length := slot.radio
  have due : ¬((!s.begin.radioOn r || !s.begin.frame0 || s.begin.frame.transitional) = true) := by
    have zero : s.begin.frame0 = true := decide_eq_true zero
    have on : s.begin.radioOn r = true := on
    simp [zero, on, regular]
  obtain ⟨t, run, w⟩ := State.fires slot (g := fun s => s.beaconTx r) (if_neg due) fresh early (State.endsInTime_of_regular regular _ _)
  simp only [State.fired_beaconEnd len, State.fired_sharedCells len, State.fired_lastMapann len, State.fired_nextChannel len,
    s.begin.radio_fired _ _ len] at w
  have inside : ∀ x : Radio, (((s.begin.fired r 0 (s.begin.beaconStart r)).setRadio r x).radio r) = x := fun x =>
    State.radio_setRadio _ _ (by simpa using len)
  have radio := (w.radio r).trans (State.radioTx_radio _ _ _ _ _ _ (by simpa using len))
  rw [inside] at radio
  have sent := w.sent (State.radioTx_sent ..)
  rw [State.exclusionOctets, inside] at sent
  refine ⟨t, _, run, ?_, ?_, sent⟩ <;> rw [radio]
  · exact List.mem_append_right _ (List.mem_singleton.2 rfl)
  · rfl

theorem beaconTx_idle (s : State) (r : Nat) (h : 0 ∈ (s.radio r).sent ∨ 1000 * s.beaconStart r + 2000 < s.frame.off) :
    s.idle (.beaconTx r) := by
  refine State.idle_of (f := fun s => s.beaconTx r) rfl ?_
  unfold State.beaconTx
  dsimp only
  split
  · rfl
  · exact State.slotOnce_late _ h

/-- Outside frame 0, and where its radio is off, nothing of frame 0 is sent. -/
theorem frame0_idle (s : State) (r : Nat) (h : s.num % 10 ≠ 0 ∨ s.radioOn r = false) :
    s.idle (.beaconTx r) ∧ s.idle (.mapannTx r) := by
  have off : (!s.begin.radioOn r || !s.begin.frame0) = true := by
    rcases h with h | h
    · have : s.begin.frame0 = false := decide_eq_false h
      simp [this]
    · have : s.begin.radioOn r = false := h
      simp [this]
  constructor
  · refine State.idle_of (f := fun s => s.beaconTx r) rfl (if_pos ?_)
    rw [off, Bool.true_or]
  · refine State.idle_of (f := fun s => s.mapannTx r) rfl (if_pos ?_)
    rw [off]
    simp

/-! ### Commit frames and exclusions -/

theorem State.commitDue_regular {s : State} {r : Nat} (h : s.commitDue r = true) : s.frame.transitional = false := by
  simp only [State.commitDue, Bool.and_eq_true, Bool.not_eq_true'] at h
  obtain ⟨⟨-, h⟩, -⟩ := h
  exact h

theorem commitFrameTx_sent (s : State) (r xc : Nat) (slot : s.hasSlot r) (due : s.commitDue r = true) (fresh : 1 ∉ (s.radio r).sent)
    (early : s.frame.off ≤ 7102000) (hx : xc = (s.radio r).exclusions.length) :
    ∃ t, exec (.commitFrameTx r) s = .next t ∧ 1 ∈ (t.radio r).sent ∧
      t.sent .commitFrame ((r : Int) :: 7100 :: scheduled 1 (leBytes 4 s.num ++ [s.get F.LGT_STAT_EPOCH % 256] ++
        leBytes 2 (1024 * s.get F.LGT_GRACE_GRACE + 32 * xc) ++ leBytes 8 (sumN ((s.namedOn r).map fun x => 2 ^ (s.num + 1 - x))) ++
        leBytes 2 (s.radio r).sser ++ leBytes 2 (crc32c (xc :: s.exclusionOctets r) % 65536))) := by
  subst hx
  have len : r < s.begin.net.radios.length := slot.radio
  have go : ¬((!s.begin.commitDue r) = true) := by
    have due : s.begin.commitDue r = true := due
    simp [due]
  obtain ⟨t, run, w⟩ := State.fires slot (g := fun s => s.commitTx r) (if_neg go) fresh (by omega)
    (State.endsInTime_of_regular (State.commitDue_regular due) _ _)
  simp only [State.fired_namedOn len, State.fired_exclusionOctets len, s.begin.radio_fired _ _ len] at w
  let u := s.begin.fired r 1 7100
  have counted : ∀ v : State, v = (if 16 < (u.exclusionsDue r).length then u.inc F.LGT_CNT1_XOVER else u) →
      v.net = u.net ∧ v.num = u.num ∧ v.get F.LGT_STAT_EPOCH = s.get F.LGT_STAT_EPOCH ∧ v.get F.LGT_GRACE_GRACE = s.get F.LGT_GRACE_GRACE := by
    rintro v rfl
    split
    · exact ⟨rfl, rfl, State.get_put_ne _ _ _ _ (by decide), State.get_put_ne _ _ _ _ (by decide)⟩
    · exact ⟨rfl, rfl, rfl, rfl⟩
  obtain ⟨net, -, epoch, grace⟩ := counted _ rfl
  generalize (if 16 < (u.exclusionsDue r).length then u.inc F.LGT_CNT1_XOVER else u) = v at w net epoch grace
  have sent := w.sent (State.radioTx_sent ..)
  rw [State.modRecs_get, State.modRecs_get, epoch, grace] at sent
  have there : r < (v.modRecs fun q => { q with commitSent := withBit q.commitSent r true }).net.radios.length := by
    show r < v.net.radios.length
    rw [net]
    simpa [u] using len
  have radio := (w.radio r).trans (State.radioTx_radio _ _ _ _ _ _ there)
  refine ⟨t, run, ?_, sent⟩
  rw [radio]
  show 1 ∈ (v.radio r).sent
  rw [State.radio_of_net net, s.begin.radio_fired _ _ len]
  exact List.mem_append_right _ (List.mem_singleton.2 rfl)

theorem records_not_due (s : State) (r : Nat) (h : s.commitDue r = false) : s.idle (.exclusionTx r) ∧ s.idle (.commitFrameTx r) := by
  have no : (!s.begin.commitDue r) = true := by
    have h : s.begin.commitDue r = false := h
    simp [h]
  constructor
  · exact State.idle_of (f := fun s => s.exclusionTx r) rfl (if_pos (by rw [no]; simp))
  · exact State.idle_of (f := fun s => s.commitTx r) rfl (if_pos no)

theorem records_late (s : State) (r : Nat) (h : 7102000 < s.frame.off) : s.idle (.exclusionTx r) ∧ s.idle (.commitFrameTx r) := by
  constructor
  · refine State.idle_of (f := fun s => s.exclusionTx r) rfl ?_
    unfold State.exclusionTx
    dsimp only
    split
    · rfl
    · exact State.slotOnce_late _ (.inr (by show _ < s.frame.off; omega))
  · refine State.idle_of (f := fun s => s.commitTx r) rfl ?_
    unfold State.commitTx
    split
    · rfl
    · exact State.slotOnce_late _ (.inr (by show _ < s.frame.off; omega))

theorem exclusionTx_sent (s : State) (r us : Nat) (slot : s.hasSlot r) (due : s.commitDue r = true) (later : s.num % 10 ≠ 0)
    (some_ : (s.radio r).exclusions ≠ []) (fresh : 2 ∉ (s.radio r).sent)
    (hus : us = 7050 - airTime (s.phy r) (8 + 3 * (s.radio r).exclusions.length)) (early : s.frame.off ≤ 1000 * us + 2000) :
    ∃ t, exec (.exclusionTx r) s = .next t ∧ 2 ∈ (t.radio r).sent ∧
      t.sent .exclusionFrame ((r : Int) :: us :: scheduled 2 ((s.radio r).exclusions.length :: s.exclusionOctets r)) := by
  subst hus
  have len : r < s.begin.net.radios.length := slot.radio
  have go : ¬((!s.begin.commitDue r || s.begin.frame0 || decide ((s.begin.radio r).exclusions = [])) = true) := by
    have due : s.begin.commitDue r = true := due
    have later : s.begin.frame0 = false := decide_eq_false later
    have some_ : (s.begin.radio r).exclusions ≠ [] := some_
    simp [due, later, some_]
  obtain ⟨t, run, w⟩ := State.fires slot (g := fun s => s.exclusionTx r) (if_neg go) fresh early
    (State.endsInTime_of_regular (State.commitDue_regular due) _ _)
  simp only [State.fired_exclusionOctets len] at w
  have radio := (w.radio r).trans (State.radioTx_radio _ _ _ _ _ _ (by simpa using len))
  refine ⟨t, run, ?_, w.sent (State.radioTx_sent ..)⟩
  rw [radio, s.begin.radio_fired _ _ len]
  exact List.mem_append_right _ (List.mem_singleton.2 rfl)

/-! ### Map announcements and the stop frame -/

theorem mapannTx_sent (s : State) (r c us : Nat) (slot : s.hasSlot r) (on : s.radioOn r = true) (zero : s.num % 10 = 0)
    (pends : (s.radio r).chgPending = true) (aloud : (s.radio r).chgSilent = false) (open_ : (s.radio r).chgAt = none)
    (fresh : 4 ∉ (s.radio r).sent) (hc : c = (if (s.radio r).sent.contains 0 then (s.radio r).cells else 0))
    (fits : s.mapFits r (s.beaconEnd r) c = true) (hus : us = s.cellsEnd r (s.beaconEnd r) c + 250) (early : s.frame.off ≤ 1000 * us + 2000)
    (ends : s.endsInTime us (us + airTime (s.phy r) 24) = true) :
    ∃ t, exec (.mapannTx r) s = .next t ∧ t.sent .mapannFrame ((r : Int) :: us :: scheduled 4 ([(s.radio r).remain] ++
        leBytes 4 (s.radio r).newMapLo ++ leBytes 4 (s.radio r).newMapHi ++ leBytes 2 (s.radio r).newSeed ++ [(s.radio r).newHop] ++
        leBytes 2 (s.get (F.RAD_MAPCHG_VERSION.at r) + 1))) ∧
      (if (s.radio r).remain = 0 then (t.radio r).chgAt = some (s.radio r).e
        else (t.radio r).remain = (s.radio r).remain - 1 ∧ (t.radio r).chgAt = none) := by
  subst hc hus
  have len : r < s.begin.net.radios.length := slot.radio
  have go : ¬((!s.begin.radioOn r || !s.begin.frame0 || !(s.begin.radio r).chgPending || (s.begin.radio r).chgSilent ||
      (s.begin.radio r).chgAt.isSome || !s.begin.mapFits r (s.begin.beaconEnd r)
        (if (s.begin.radio r).sent.contains 0 then (s.begin.radio r).cells else 0)) = true) := by
    have on : s.begin.radioOn r = true := on
    have zero : s.begin.frame0 = true := decide_eq_true zero
    have x : s.begin.radio r = s.radio r := rfl
    have fits : s.begin.mapFits r (s.begin.beaconEnd r) (if (s.radio r).sent.contains 0 then (s.radio r).cells else 0) = true := fits
    rw [x, on, zero, pends, aloud, open_, fits]
    decide
  obtain ⟨t, run, w⟩ := State.fires slot (g := fun s => s.mapannTx r) (if_neg go) fresh early ends
  have there : ∀ f, r < ((s.begin.fired r 4 (s.cellsEnd r (s.beaconEnd r)
      (if (s.radio r).sent.contains 0 then (s.radio r).cells else 0) + 250)).modRadio r f).net.radios.length := fun f => by simpa using len
  have radio := (w.radio r).trans (State.radioTx_radio _ _ _ _ _ _ (there _))
  rw [State.radio_modRadio _ _ (by simpa using len), s.begin.radio_fired _ _ len] at radio
  refine ⟨t, run, w.sent (State.radioTx_sent ..), ?_⟩
  rw [radio]
  have remain : (s.begin.radio r).remain = (s.radio r).remain := rfl
  dsimp only
  rw [remain]
  split
  · rfl
  · exact ⟨rfl, open_⟩

theorem stopFrameTx_sent (s : State) (r : Nat) (slot : s.hasSlot r) (mine : s.stopRadio = some r) (frame : s.num % 5 = 0)
    (on : s.radioOn r = true ∨ (s.live = true ∧ s.mode = .basic ∧ s.get (F.RAD_CFG_EN.at r) ≠ 0)) (loud : s.mute = false)
    (keys : s.keys.zeroised = false) (fresh : 3 ∉ (s.radio r).sent) (early : s.frame.off ≤ 252000)
    (ends : s.endsInTime 250 (250 + airTime (s.phy r) 18) = true) :
    ∃ t, exec .stopFrameTx s = .next t ∧ t.net.stopCount = (s.net.stopCount + 1) % 2 ^ 32 ∧
      t.sent .stopFrame ((r : Int) :: 250 :: scheduled 3 ([s.stopState false] ++ leBytes 4 ((s.net.stopCount + 1) % 2 ^ 32) ++
        leBytes 6 s.num)) := by
  have go : ¬((decide (s.begin.num % 5 ≠ 0) || !(s.begin.radioOn r || (s.begin.live && decide (s.begin.mode = .basic) &&
      s.begin.flag (F.RAD_CFG_EN.at r))) || s.begin.mute || s.begin.keys.zeroised) = true) := by
    have frame : s.begin.num % 5 = 0 := frame
    have sends : (s.begin.radioOn r || (s.begin.live && decide (s.begin.mode = .basic) && s.begin.flag (F.RAD_CFG_EN.at r))) = true := by
      show (s.radioOn r || (s.live && decide (s.mode = .basic) && s.flag (F.RAD_CFG_EN.at r))) = true
      rcases on with on | ⟨up, mode, en⟩
      · rw [on, Bool.true_or]
      · simp [up, mode, en]
    have loud : s.begin.mute = false := loud
    have keys : s.begin.keys.zeroised = false := keys
    rw [frame, sends, loud, keys]
    decide
  have hg : s.begin.stopFrame = s.begin.slotOnce r 3 250 18 fun s => s.inSlot r fun s =>
      let s := s.modNet fun n => { n with stopCount := (n.stopCount + 1) % 2 ^ 32 }
      s.radioTx r 18 true .stopFrame 250 (scheduled 3 ([s.stopState false] ++ leBytes 4 s.net.stopCount ++ leBytes 6 s.num)) := by
    have mine : s.begin.stopRadio = some r := mine
    unfold State.stopFrame
    rw [mine]
    exact if_neg go
  obtain ⟨t, run, w⟩ := State.fires slot (g := State.stopFrame) hg fresh early ends
  refine ⟨t, run, ?_, w.sent (State.radioTx_sent ..)⟩
  rw [w.net, State.radioTx_net]
  rfl

theorem stopFrameTx_idle (s : State) (h : s.mute = true ∨ s.keys.zeroised = true ∨ s.num % 5 ≠ 0 ∨ s.stopRadio = none ∨
    252000 < s.frame.off) : s.idle .stopFrameTx := by
  refine State.idle_of (f := State.stopFrame) rfl ?_
  unfold State.stopFrame
  split
  · rfl
  · next r hr =>
    split
    · rfl
    · next go =>
      have go : ¬((decide (s.num % 5 ≠ 0) || !(s.radioOn r || (s.live && decide (s.mode = .basic) && s.flag (F.RAD_CFG_EN.at r))) ||
        s.mute || s.keys.zeroised) = true) := go
      simp only [Bool.or_eq_true, not_or, decide_eq_true_eq] at go
      obtain ⟨⟨⟨frame, -⟩, loud⟩, keys⟩ := go
      have hr : s.stopRadio = some r := hr
      rcases h with h | h | h | h | h
      · exact absurd h loud
      · exact absurd h keys
      · exact absurd h frame
      · rw [hr] at h; cases h
      · exact State.slotOnce_late _ (.inr (by show _ < s.frame.off; omega))

/-! ### Map changes (R270, R271) -/

theorem bit_top (w : Word) (h : w.toNat / 2 ^ 31 = 1) : bit w.toNat 31 = true := by
  unfold bit
  rw [h]
  rfl

theorem mapchg_applied (s : State) (who : Requester) (r : Nat) (w : Word) (may : s.mayWrite who) (slot : s.hasSlot r)
    (top : w.toNat / 2 ^ 31 = 1) (free : (s.radio r).chgPending = false) :
    if mapValid (s.phy r) (s.get (F.RAD_CHMAP_LO_MAP.at r)) (s.get (F.RAD_CHMAP_HI_MAP.at r)) (s.get (F.RAD_HOP_STEP.at r)) = true
    then ∃ t, exec (.mapchgApply who r w) s = .next t ∧ t.out = [⟨.value, [(who.key : Int), St.done]⟩] ∧
      t.radio r = { s.radio r with
        newMapLo := s.get (F.RAD_CHMAP_LO_MAP.at r), newMapHi := s.get (F.RAD_CHMAP_HI_MAP.at r)
        newSeed := s.get (F.RAD_HOP_SEED.at r), newHop := s.get (F.RAD_HOP_STEP.at r), chgPending := true
        chgSilent := decide (s.mode = .stop), remain := if s.mode = .stop then 0 else 7
        chgAt := if s.mode = .stop then some (s.radio r).e else none }
    else ∃ t, exec (.mapchgApply who r w) s = .next t ∧ t.out = [⟨.value, [(who.key : Int), 0x0801]⟩] ∧
      { t with out := s.out } = s := by
  have set : ¬((!bit w.toNat 31) = true) := by simp [bit_top w top]
  have free : ¬(s.begin.radio r).chgPending = true := by
    show ¬(s.radio r).chgPending = true
    simp [free]
  have run : ∀ {u st}, s.begin.mapApply r w.toNat = (u, st) → exec (.mapchgApply who r w) s = .next (s.after (u.reply who st)) := fun {u st} h => by
    refine congrArg (fun u => Host.Outcome.next (s.after u)) ((State.gate_open may _).trans ?_)
    rw [h]
  split
  · next valid =>
    have eq : s.begin.mapApply r w.toNat = (s.begin.setRadio r { s.radio r with
        newMapLo := s.get (F.RAD_CHMAP_LO_MAP.at r), newMapHi := s.get (F.RAD_CHMAP_HI_MAP.at r)
        newSeed := s.get (F.RAD_HOP_SEED.at r), newHop := s.get (F.RAD_HOP_STEP.at r), chgPending := true
        chgSilent := decide (s.mode = .stop), remain := if s.mode = .stop then 0 else 7
        chgAt := if s.mode = .stop then some (s.radio r).e else none }, St.done) := by
      have valid : ¬((!mapValid (s.begin.phy r) (s.begin.get (F.RAD_CHMAP_LO_MAP.at r)) (s.begin.get (F.RAD_CHMAP_HI_MAP.at r))
          (s.begin.get (F.RAD_HOP_STEP.at r))) = true) := by
        show ¬((!mapValid (s.phy r) (s.get (F.RAD_CHMAP_LO_MAP.at r)) (s.get (F.RAD_CHMAP_HI_MAP.at r)) (s.get (F.RAD_HOP_STEP.at r))) = true)
        simp [valid]
      refine (if_neg set).trans ((if_neg free).trans ((if_neg valid).trans ?_))
      by_cases stop : s.mode = .stop <;> simp [stop, State.begin] <;> rfl
    refine ⟨_, run eq, ?_, ?_⟩
    · rw [State.after_out, State.reply_out]
      rfl
    · rw [State.radio, State.after_net, State.reply_net, ← State.radio]
      exact State.radio_setRadio _ _ slot.radio
  · next bad =>
    have eq : s.begin.mapApply r w.toNat = (s.begin, 0x0801) := by
      refine (if_neg set).trans ((if_neg free).trans (if_pos ?_))
      show (!mapValid (s.phy r) (s.get (F.RAD_CHMAP_LO_MAP.at r)) (s.get (F.RAD_CHMAP_HI_MAP.at r)) (s.get (F.RAD_HOP_STEP.at r))) = true
      simpa using bad
    refine ⟨_, run eq, ?_, ?_⟩
    · rw [State.after_out, State.reply_out]
      rfl
    · rw [State.reply_eq]
      rfl

theorem mapChange_effect (s : State) (r e0 : Nat) (slot : s.hasSlot r) (waits : (s.radio r).chgAt = some e0) :
    (s.num % 10 = 0 → e0 ≠ (s.radio r).e → ∃ t, exec (.mapChangeEffect r) s = .next t ∧
      t.radio r = { s.radio r with
        mapLo := (s.radio r).newMapLo, mapHi := (s.radio r).newMapHi, seed := (s.radio r).newSeed, hop := (s.radio r).newHop
        chgPending := false, chgSilent := false, remain := 0, chgAt := none
        assocs := (s.radio r).assocs.map fun p =>
          (p.1, { p.2 with mapVer := (s.get (F.RAD_MAPCHG_VERSION.at r) + 1) % 65536 }) } ∧
      t.get (F.RAD_MAPCHG_VERSION.at r) = (s.get (F.RAD_MAPCHG_VERSION.at r) + 1) % 65536) ∧
    (s.num % 10 ≠ 0 ∨ e0 = (s.radio r).e → s.idle (.mapChangeEffect r)) := by
  have waits : (s.begin.radio r).chgAt = some e0 := waits
  constructor
  · intro zero other
    have go : ¬((!s.begin.frame0 || decide (e0 = (s.begin.radio r).e)) = true) := by
      have zero : s.begin.frame0 = true := decide_eq_true zero
      have other : decide (e0 = (s.begin.radio r).e) = false := decide_eq_false other
      simp [zero, other]
    let v := (s.begin.setRadio r { s.radio r with
      mapLo := (s.radio r).newMapLo, mapHi := (s.radio r).newMapHi, seed := (s.radio r).newSeed, hop := (s.radio r).newHop
      chgPending := false, chgSilent := false, remain := 0, chgAt := none
      assocs := (s.radio r).assocs.map fun p =>
        (p.1, { p.2 with mapVer := (s.get (F.RAD_MAPCHG_VERSION.at r) + 1) % 65536 }) }).put (F.RAD_MAPCHG_VERSION.at r)
        ((s.get (F.RAD_MAPCHG_VERSION.at r) + 1) % 65536)
    have eq : s.begin.mapEffect r = v.put (F.RAD_STAT_CHANNEL.at r) (v.channelOf r) := by
      unfold State.mapEffect
      dsimp only
      rw [waits]
      exact if_neg go
    refine ⟨_, congrArg (fun u => Host.Outcome.next (s.after u)) eq, State.radio_setRadio _ _ slot.radio, ?_⟩
    rw [State.after_get, State.get_put_ne _ _ _ _ ?_, State.get_put_self]
    · exact Nat.mod_mod ..
    · simp only [F.RAD_MAPCHG_VERSION, F.RAD_STAT_CHANNEL, Fld.at, Fld.at2, Fld.key]
      omega
  · intro h
    refine State.idle_of (f := fun s => s.mapEffect r) rfl ?_
    unfold State.mapEffect
    dsimp only
    rw [waits]
    refine if_pos ?_
    rcases h with h | h
    · have : s.begin.frame0 = false := decide_eq_false h
      simp [this]
    · have : e0 = (s.begin.radio r).e := h
      simp [this]

/-- Settles O32: each scheduled frame leaves at its instant and is marked as sent; a map change passes its states. -/
theorem radiosSendTheirScheduledFrames : Obligations.RadiosSendTheirScheduledFrames := by
  unfold Obligations.RadiosSendTheirScheduledFrames
  exact ⟨fun s r slot on zero regular => ⟨beaconTx_sent s r slot on zero regular, beaconTx_idle s r⟩, frame0_idle, commitFrameTx_sent,
    records_not_due, records_late, exclusionTx_sent, mapannTx_sent, stopFrameTx_sent, stopFrameTx_idle, mapchg_applied, mapChange_effect⟩

end Sys2Proof.Machine

/-! ### Associations (O33) -/
namespace Sys2Proof.Machine

/-! ### Associations of the radios -/

theorem State.assoc_modRadio (s : State) (r : Nat) {f : Radio → Radio} (hf : ∀ x, (f x).assocs = x.assocs) (q j : Nat) :
    (s.modRadio r f).assoc q j = s.assoc q j := by
  by_cases e : q = r
  · subst e
    by_cases h : q < s.net.radios.length
    · rw [State.assoc, State.radio_modRadio _ _ h, hf]
      rfl
    · simp [State.assoc, State.radio, State.modRadio, State.setRadio, setAt_eq_set, h]
  · rw [State.assoc, State.modRadio, State.radio_setRadio_ne _ _ e]
    rfl

theorem State.assoc_setAssoc_ne (s : State) {r i q j : Nat} (a : Assoc) (hr : r < s.net.radios.length) (h : (q, j) ≠ (r, i)) :
    (s.setAssoc r i a).assoc q j = s.assoc q j := by
  by_cases e : q = r
  · subst e
    have hj : j ≠ i := fun e => h (by rw [e])
    rw [State.assoc, State.setAssoc, State.radio_modRadio _ _ hr]
    exact SMap.getD_insert_ne _ _ _ hj
  · rw [State.assoc, State.setAssoc, State.modRadio, State.radio_setRadio_ne _ _ e]
    rfl

@[simp] theorem State.saveTable_assoc (s : State) (r q j : Nat) : (s.saveTable r).assoc q j = s.assoc q j :=
  s.assoc_modRadio r (f := fun x => { x with saved := x.assocs, fcntSave := x.fcnt }) (fun _ => rfl) q j

@[simp] theorem State.setAssoc_length (s : State) (r i : Nat) (a : Assoc) : (s.setAssoc r i a).net.radios.length = s.net.radios.length :=
  State.modRadio_length ..

@[simp] theorem State.saveTable_length (s : State) (r : Nat) : (s.saveTable r).net.radios.length = s.net.radios.length :=
  State.modRadio_length ..

theorem State.assoc_of_net {s t : State} (h : t.net = s.net) (r i : Nat) : t.assoc r i = s.assoc r i := by
  rw [State.assoc, State.assoc, State.radio_of_net h]

theorem within_setRadio (s : State) (r : Nat) (x : Radio) : Within [.net] s (s.setRadio r x) := by
  refine .of_same rfl fun c hc => ?_
  cases c with
  | net => exact absurd (by decide) hc
  | asked => exact ⟨rfl, rfl, rfl⟩
  | cores => exact ⟨rfl, rfl⟩
  | cmdStat | block _ | wild => trivial
  | _ => exact rfl

theorem within_modRadio (s : State) (r : Nat) (f : Radio → Radio) : Within [.net] s (s.modRadio r f) := within_setRadio ..
theorem within_setAssoc (s : State) (r i : Nat) (a : Assoc) : Within [.net] s (s.setAssoc r i a) := within_setRadio ..
theorem within_saveTable (s : State) (r : Nat) : Within [.net] s (s.saveTable r) := within_setRadio ..

/-! ### Joining -/

/-- The first index that is free. -/
theorem find_free {n i : Nat} {p : Nat → Bool} (hi : i < n) (free : p i = true) (first : ∀ j, j < i → p j = false) :
    (List.range n).find? p = some i := by
  rw [List.find?_range_eq_some]
  exact ⟨free, List.mem_range.2 hi, fun j hj => by simp [first j hj]⟩

theorem joinReq_joins (s : State) (r serial kind nonce d p i : Nat) (sl : Bool × Nat) (slot : s.hasSlot r)
    (depth : s.joinDepth r = some (d, p)) (on : s.radioOn r = true) (ok : s.joinOk r serial kind = true) (hsl : s.slotOf serial = some sl)
    (new : ∀ a ∈ SMap.vals (s.radio r).assocs, ¬ (a.st = 1 ∧ a.serial = serial)) (hi : i < assocMax r) (free : (s.assoc r i).st = 0)
    (first : ∀ j, j < i → (s.assoc r j).st ≠ 0) :
    ∃ t, exec (.joinReq r serial kind nonce) s = .next t ∧
      t.assoc r i = {
        st := 1, serial := serial, sleeper := kind % 2 = 1, sensor := sl.1, depth := d, slot := sl.2
        relay := s.net.relays.contains serial, parent := p, nonce := nonce, since := (s.radio r).e, heard := (s.radio r).e } ∧
      (∀ j, j ≠ i → t.assoc r j = s.assoc r j) ∧ { t with net := s.net, out := s.out } = s := by
  let a : Assoc := {
    st := 1, serial := serial, sleeper := bit kind 0, sensor := sl.1, depth := d, slot := sl.2
    relay := s.net.relays.contains serial, parent := p, nonce := nonce, since := (s.radio r).e, heard := (s.radio r).e }
  have fresh : ¬((s.radio r).assocs.any (fun p => decide (p.2.st = 1) && decide (p.2.serial = serial)) = true) := by
    intro h
    obtain ⟨p, hp, hh⟩ := List.any_eq_true.1 h
    refine new p.2 (List.mem_map.2 ⟨p, hp, rfl⟩) ?_
    simpa using hh
  have index : (List.range (assocMax r)).find? (fun i => decide ((SMap.getD (s.radio r).assocs i {}).st = 0)) = some i :=
    find_free hi (decide_eq_true free) fun j hj => decide_eq_false (first j hj)
  have eq : s.begin.joinReq r serial kind nonce = (s.begin.setAssoc r i a).saveTable r := by
    have depth : s.begin.joinDepth r = some (d, p) := depth
    have hsl : s.begin.slotOf serial = some sl := hsl
    have on : s.begin.radioOn r = true := on
    have ok : s.begin.joinOk r serial kind = true := ok
    have index : (List.range (assocMax r)).find? (fun i => decide ((SMap.getD (s.begin.radio r).assocs i {}).st = 0)) = some i := index
    unfold State.joinReq
    rw [depth]
    dsimp only
    rw [on, ok, hsl, index, if_neg (by decide), if_neg (by decide)]
    exact if_neg fresh
  have len : r < s.begin.net.radios.length := slot.radio
  refine ⟨_, congrArg (fun u => Host.Outcome.next (s.after u)) eq, ?_, fun j hj => ?_, rfl⟩
  · rw [State.assoc_of_net (State.after_net ..), State.saveTable_assoc, State.assoc_setAssoc _ _ _ len]
    simp [a, bit]
  · rw [State.assoc_of_net (State.after_net ..), State.saveTable_assoc,
      State.assoc_setAssoc_ne _ _ len (by simpa using hj)]
    rfl

theorem joinReq_refused (s : State) (r serial kind nonce d p : Nat) (depth : s.joinDepth r = some (d, p)) (on : s.radioOn r = true)
    (ok : s.joinOk r serial kind = false) :
    ∃ t, exec (.joinReq r serial kind nonce) s = .next t ∧ t.net = s.net ∧
      t.get F.NET_CNT2_REFUSED = min 255 (s.get F.NET_CNT2_REFUSED + 1) := by
  have eq : s.begin.joinReq r serial kind nonce = s.begin.inc F.NET_CNT2_REFUSED := by
    have depth : s.begin.joinDepth r = some (d, p) := depth
    have on : s.begin.radioOn r = true := on
    have ok : s.begin.joinOk r serial kind = false := ok
    unfold State.joinReq
    rw [depth]
    dsimp only
    rw [on, ok, if_neg (by decide), if_pos (by decide)]
  exact ⟨_, congrArg (fun u => Host.Outcome.next (s.after u)) eq, rfl, State.get_inc_byte s.begin rfl rfl⟩

theorem joinConfirm_idle (s : State) (r i : Nat) (good nonces : Bool)
    (h : s.radioOn r = false ∨ (good = true ∧ ((s.assoc r i).st ≠ 1 ∨ nonces = false))) : s.idle (.joinConfirm r i good nonces) := by
  refine State.idle_of (f := fun s => s.joinConfirm r i good nonces) rfl ?_
  unfold State.joinConfirm
  dsimp only
  rcases h with off | ⟨rfl, h⟩
  · exact if_pos (show (!s.radioOn r) = true by simp [off])
  · split
    · rfl
    · rw [if_neg (by decide), if_pos]
      show (decide ((s.assoc r i).st ≠ 1) || !nonces) = true
      rcases h with h | h <;> simp [h]

theorem State.get_inc_word (s : State) {f : Fld} (max : f.max = 65535) (width : f.width = 16) :
    (s.inc f).get f = min 65535 (s.get f + 1) := by
  rw [State.inc_eq, State.get_put_self, max, width]
  unfold satAdd
  split <;> omega

theorem joinConfirm_forged (s : State) (r i : Nat) (nonces : Bool) (on : s.radioOn r = true) :
    ∃ t, exec (.joinConfirm r i false nonces) s = .next t ∧ t.net = s.net ∧
      t.get (F.RAD_CNT0_MIC_FAIL.at r) = min 65535 (s.get (F.RAD_CNT0_MIC_FAIL.at r) + 1) := by
  have eq : s.begin.joinConfirm r i false nonces = s.begin.inc (F.RAD_CNT0_MIC_FAIL.at r) := by
    have on : s.begin.radioOn r = true := on
    unfold State.joinConfirm
    dsimp only
    rw [on, if_neg (by decide)]
    rfl
  exact ⟨_, congrArg (fun u => Host.Outcome.next (s.after u)) eq, rfl, State.get_inc_word s.begin rfl rfl⟩

/-! ### Quarantine -/

theorem Stages.within {i : Nat} {s t : State} (h : Stages i s t) : Within [.light] s t := by
  have back : Within [.light] t { t with light := s.light } := within_modLight t (fun _ => s.light) (by decide)
  rw [h.rest] at back
  exact back.symm

/-- What a catch-up may change. -/
abbrev catchParts : List Part := [.light, .recs, .regs, .block 0x19, .block 6]

theorem within_setNode (s : State) (i : Nat) (x : Node) : Within [.light] s (s.setNode i x) := within_modLight s _ (by decide)

theorem within_catchUp (s : State) (i : Nat) : Within catchParts s (s.catchUp i) := by
  unfold State.catchUp
  split
  · exact .refl _ _
  · split
    · exact .refl _ _
    · split
      · exact ((within_setNode ..).mono (by decide)).trans (within_log _ _ _ _ _ (by decide))
      · refine .trans ?_ (within_put _ _ (by decide) (by decide))
        exact (((within_setNode ..).trans (stages_ensureTag 0 _ _).within).trans (stages_stageAll 0 _ _ _).within).mono (by decide)

theorem within_setDisc (s : State) (i : Nat) : Within catchParts s (s.setDisc i) := by
  unfold State.setDisc
  split
  · exact .refl _ _
  · split
    · exact .refl _ _
    · exact ((within_setNode ..).mono (by decide)).trans (within_catchUp ..)

/-- The association in quarantine, before its node image follows. -/
def State.quarantined (s : State) (r i : Nat) : State :=
  (s.setAssoc r i { s.assoc r i with st := 3, since := (s.radio r).e }).saveTable r

theorem State.quarantine_cases (s : State) (r i : Nat) :
    s.quarantine r i = s.quarantined r i ∨
      ∃ x, (s.quarantined r i).node (s.assoc r i).slot = some x ∧
        s.quarantine r i = ((s.quarantined r i).setNode (s.assoc r i).slot { x with online := false }).setDisc (s.assoc r i).slot := by
  unfold State.quarantine State.quarantined
  dsimp only
  split
  · exact .inl rfl
  · next x hx =>
    split
    · exact .inl rfl
    · exact .inr ⟨x, hx, rfl⟩

theorem within_quarantined (s : State) (r i : Nat) : Within catchParts (s.quarantined r i) (s.quarantine r i) := by
  rcases s.quarantine_cases r i with h | ⟨x, -, h⟩ <;> rw [h]
  · exact .refl _ _
  · exact ((within_setNode ..).mono (by decide)).trans (within_setDisc ..)

theorem within_quarantine (s : State) (r i : Nat) : Within (.net :: catchParts) s (s.quarantine r i) :=
  (((within_setAssoc ..).trans (within_saveTable ..)).mono (by decide)).trans ((within_quarantined ..).mono (by decide))

@[simp] theorem State.quarantine_length (s : State) (r i : Nat) : (s.quarantine r i).net.radios.length = s.net.radios.length := by
  rw [(within_quarantined s r i).net]
  simp [State.quarantined]

theorem State.quarantine_assoc (s : State) {r : Nat} (i : Nat) (h : r < s.net.radios.length) :
    (s.quarantine r i).assoc r i = { s.assoc r i with st := 3, since := (s.radio r).e } := by
  rw [State.assoc_of_net (within_quarantined s r i).net, State.quarantined, State.saveTable_assoc, State.assoc_setAssoc _ _ _ h]

theorem State.quarantine_assoc_ne (s : State) {r i q j : Nat} (hr : r < s.net.radios.length) (h : (q, j) ≠ (r, i)) :
    (s.quarantine r i).assoc q j = s.assoc q j := by
  rw [State.assoc_of_net (within_quarantined s r i).net, State.quarantined, State.saveTable_assoc, State.assoc_setAssoc_ne _ _ hr h]

/-! ### Confirming (R282 to R284) -/

/-- A list of associations goes to quarantine. -/
def State.quarantineAll (s : State) (l : List (Nat × Nat)) : State := l.foldl (fun s p => s.quarantine p.1 p.2) s

section QuarantineAll
variable {l : List (Nat × Nat)}

theorem within_quarantineAll (s : State) : Within (.net :: catchParts) s (s.quarantineAll l) :=
  .foldl (.refl _ _) fun u p _ => within_quarantine u p.1 p.2

@[simp] theorem State.quarantineAll_length (s : State) : (s.quarantineAll l).net.radios.length = s.net.radios.length := by
  induction l generalizing s with
  | nil => rfl
  | cons p l ih => exact (ih _).trans (s.quarantine_length p.1 p.2)

/-- All of the list are in quarantine, and what was there stays. -/
theorem State.quarantineAll_assoc (s : State) (inside : ∀ p ∈ l, p.1 < s.net.radios.length) {q j : Nat}
    (h : (q, j) ∈ l ∨ (s.assoc q j).st = 3) : ((s.quarantineAll l).assoc q j).st = 3 := by
  induction l generalizing s with
  | nil => exact h.elim nofun id
  | cons p l ih =>
    have hp := inside p List.mem_cons_self
    refine ih (s.quarantine p.1 p.2) (fun x hx => by simpa using inside x (List.mem_cons_of_mem _ hx)) ?_
    by_cases e : (q, j) = p
    · subst e
      exact .inr (congrArg Assoc.st (s.quarantine_assoc j hp))
    · rw [s.quarantine_assoc_ne hp (by simpa using e)]
      exact h.imp_left fun m => (List.mem_cons.1 m).resolve_left e

end QuarantineAll

/-- What the end of a confirmation leaves of an association, and all others as they were. -/
structure Confirms (r i : Nat) (s t : State) : Prop where
  others : ∀ q j, (q, j) ≠ (r, i) → t.assoc q j = s.assoc q j
  own : (t.assoc r i).st = (s.assoc r i).st ∧ (t.assoc r i).serial = (s.assoc r i).serial ∧ (t.assoc r i).sess = (s.assoc r i).sess
  due : (t.assoc r i).acceptDue = (s.assoc r i).acceptDue
  length : t.net.radios.length = s.net.radios.length

theorem Confirms.refl (r i : Nat) (s : State) : Confirms r i s s := ⟨fun _ _ _ => rfl, ⟨rfl, rfl, rfl⟩, rfl, rfl⟩

theorem Confirms.trans {r i : Nat} {s t u : State} (h : Confirms r i s t) (k : Confirms r i t u) : Confirms r i s u :=
  ⟨fun q j e => (k.others q j e).trans (h.others q j e),
    ⟨k.own.1.trans h.own.1, k.own.2.1.trans h.own.2.1, k.own.2.2.trans h.own.2.2⟩, k.due.trans h.due, k.length.trans h.length⟩

theorem confirms_of_net {r i : Nat} {s t : State} (h : t.net = s.net) : Confirms r i s t := by
  have same := fun q j => State.assoc_of_net h q j
  exact ⟨fun q j _ => same q j, by rw [same]; exact ⟨rfl, rfl, rfl⟩, by rw [same], by rw [h]⟩

theorem confirms_modRadio {r i : Nat} (s : State) (q : Nat) {f : Radio → Radio} (hf : ∀ x, (f x).assocs = x.assocs) :
    Confirms r i s (s.modRadio q f) := by
  have same := fun p j => s.assoc_modRadio q hf p j
  exact ⟨fun q j _ => same q j, by rw [same]; exact ⟨rfl, rfl, rfl⟩, by rw [same], s.modRadio_length q f⟩

theorem confirms_request {r i : Nat} (s : State) (op : Nat) (body : List Nat) (o : Origin) (hr : r < s.net.radios.length) :
    Confirms r i s (s.request r i op body o) := by
  have self : (s.request r i op body o).assoc r i = _ := State.assoc_setAssoc _ _ _ hr
  exact ⟨fun q j e => State.assoc_setAssoc_ne _ _ hr e, by rw [self]; exact ⟨rfl, rfl, rfl⟩, by rw [self],
    State.setAssoc_length ..⟩

@[simp] theorem State.addAir_assoc (s : State) (r us : Nat) (e : Bool) (q j : Nat) : (s.addAir r us e).assoc q j = s.assoc q j :=
  s.assoc_modRadio r (f := fun x => { x with air := x.air ++ [(s.mono, us, e)] }) (fun _ => rfl) q j

@[simp] theorem State.radioTx_assoc (s : State) (r l : Nat) (e : Bool) (k : OutKind) (us : Nat) (args : List Int) (q j : Nat) :
    (s.radioTx r l e k us args).assoc q j = s.assoc q j := by
  rw [State.assoc_of_net (State.radioTx_net ..), State.addAir_assoc]

@[simp] theorem State.radioTx_length (s : State) (r l : Nat) (e : Bool) (k : OutKind) (us : Nat) (args : List Int) :
    (s.radioTx r l e k us args).net.radios.length = s.net.radios.length := by
  rw [State.radioTx_net, State.addAir, State.modRadio_length]

/-- JOIN_ACCEPT goes out where there is room; else it stays due. -/
theorem State.joinAccept_cases (s : State) {r i : Nat} (hr : r < s.net.radios.length) (due : (s.assoc r i).acceptDue = true) :
    (∀ q j, (q, j) ≠ (r, i) → (s.joinAccept r i).assoc q j = s.assoc q j) ∧
    (((s.joinAccept r i).assoc r i).st = (s.assoc r i).st ∧ ((s.joinAccept r i).assoc r i).serial = (s.assoc r i).serial ∧
      ((s.joinAccept r i).assoc r i).sess = (s.assoc r i).sess) ∧
    (s.joinAccept r i).net.radios.length = s.net.radios.length ∧
    (((s.joinAccept r i).assoc r i).acceptDue = true ∨
      ∃ (us n : Nat) (l : List Nat), (s.joinAccept r i).sent .dataFrame ((r : Int) :: us :: longForm 12 (s.assoc r i).serial n l)) := by
  unfold State.joinAccept
  dsimp only
  split
  · exact ⟨fun _ _ _ => rfl, ⟨rfl, rfl, rfl⟩, rfl, .inl due⟩
  · next us _ =>
    have first := (confirms_modRadio (r := r) (i := i) s r
        (f := fun x => { x with busy := x.busy ++ [(us, us + airTime (s.phy r) 60)] }) fun _ => rfl).trans
      (confirms_modRadio _ r (f := Radio.nextFcnt) fun x => by unfold Radio.nextFcnt; split <;> rfl)
    change Confirms r i s ((s.takeTime r us (us + airTime (s.phy r) 60)).modRadio r Radio.nextFcnt) at first
    generalize (s.takeTime r us (us + airTime (s.phy r) 60)).modRadio r Radio.nextFcnt = u at first ⊢
    have hu : r < u.net.radios.length := by rw [first.length]; exact hr
    have self : (u.modAssoc r i fun a => { a with acceptDue := false }).assoc r i = { u.assoc r i with acceptDue := false } :=
      State.assoc_setAssoc _ _ _ hu
    refine ⟨fun q j e => ?_, ?_, ?_, .inr ⟨us, _, _, State.radioTx_sent ..⟩⟩
    · rw [State.radioTx_assoc]
      exact (State.assoc_setAssoc_ne _ _ hu e).trans (first.others q j e)
    · rw [State.radioTx_assoc, self]
      exact first.own
    · rw [State.radioTx_length]
      exact (State.setAssoc_length ..).trans first.length

/-- The older associations of a serial, but for the one that is confirmed. -/
def State.olderOf (s : State) (r i : Nat) (serial : Nat) : List (Nat × Nat) :=
  ((List.range 6).map (fun q => ((s.radio q).assocs.filter (fun p => p.2.serial = serial
    && (p.2.st = 1 || p.2.st = 2) && !(q = r && p.1 = i))).map (fun p => (q, p.1)))).flatten

theorem SMap.mem_of_get? {α : Type} {m : SMap α} {i : Nat} {x : α} (h : SMap.get? m i = some x) : (i, x) ∈ m := by
  induction m with
  | nil => cases h
  | cons p m ih =>
    obtain ⟨k, v⟩ := p
    unfold SMap.get? at h
    split at h
    · next e => subst e; cases h; exact List.mem_cons_self
    · exact List.mem_cons_of_mem _ (ih h)

theorem State.assoc_mem {s : State} {q j : Nat} (h : (s.assoc q j).st ≠ 0) : (j, s.assoc q j) ∈ (s.radio q).assocs := by
  unfold State.assoc SMap.getD at h ⊢
  cases e : SMap.get? (s.radio q).assocs j with
  | none => rw [e] at h; exact absurd rfl h
  | some x => exact SMap.mem_of_get? e

theorem State.mem_olderOf {s : State} {r i q j : Nat} {serial : Nat} (hq : q < 6) (other : (q, j) ≠ (r, i))
    (same : (s.assoc q j).serial = serial) (st : (s.assoc q j).st = 1 ∨ (s.assoc q j).st = 2) : (q, j) ∈ s.olderOf r i serial := by
  unfold State.olderOf
  refine List.mem_flatten.2 ⟨_, List.mem_map.2 ⟨q, List.mem_range.2 hq, rfl⟩, List.mem_map.2 ⟨(j, s.assoc q j), ?_, rfl⟩⟩
  refine List.mem_filter.2 ⟨State.assoc_mem (by omega), ?_⟩
  have other : ¬q = r ∨ ¬j = i := not_and_or.1 fun ⟨e, f⟩ => other (by rw [e, f])
  rcases st with st | st <;> simpa [same, st] using other

theorem State.olderOf_radio {s : State} {r i serial : Nat} {p : Nat × Nat} (h : p ∈ s.olderOf r i serial) : p.1 < 6 := by
  obtain ⟨l, hl, hp⟩ := List.mem_flatten.1 h
  obtain ⟨q, hq, rfl⟩ := List.mem_map.1 hl
  obtain ⟨a, -, rfl⟩ := List.mem_map.1 hp
  exact List.mem_range.1 hq

/-- What a good confirmation makes of its association. -/
def State.confirmed (s u : State) (r i : Nat) (n : Nat) : Assoc :=
  let a := s.assoc r i
  let ph := if a.sleeper then u.freePhase r else (0, 0)
  let e := (u.radio r).e
  { a with
    key := u.nodeKey a.serial a.nonce a.modNonce r
    st := 2, sess := n, seqD := 0, seqU := 0, upSeen := [], heard := e, since := e, eSync := e, ePpm := 0, bPpm := 640,
    guard_ := u.get (F.RAD_SLEEP_G0.at r), misses := 0, phaseP := ph.1, phaseF := ph.2, txns := [], calParts := []
    mapVer := u.get (F.RAD_MAPCHG_VERSION.at r), supv := u.get F.NET_SUPV_SUPV, acceptDue := true, follow := false
    grantK := u.grantPeriod r i }

/-- The session key of an association's slot. -/
def Assoc.sessKey (a : Assoc) : Nat := a.slot + (if a.sensor then 4096 else 0)

/-- The state at JOIN_ACCEPT: the older associations of the serial are in quarantine, and the association has its new session. -/
def State.confirming (s : State) (r i : Nat) : State :=
  let u := s.quarantineAll (s.olderOf r i (s.assoc r i).serial)
  let n := (SMap.getD u.net.sessNo (s.assoc r i).sessKey 0 + 1) % 65536
  let v := u.modNet fun t => { t with sessNo := SMap.insert t.sessNo (s.assoc r i).sessKey n }
  (v.setAssoc r i (s.confirmed v r i n)).inc F.NET_CNT2_JOINS

/-- The node image of a lamp that has joined. -/
def Node.joined (x : Node) (r i at_ : Nat) : Node :=
  { x with online := true, radio := r, assoc := i, stuck := false, tries := 0, fbSent := false, waitAt := at_ }

/-- The node image of a confirmed lamp, and what its record's read asks for. -/
def State.confirmedNode (s : State) (r i : Nat) (a : Assoc) : State :=
  if a.sensor then s
  else (List.range 4).foldl (fun s k => s.request r i 0x12 [k] .quiet) (s.modNode a.slot fun x => x.joined r i s.mono)

theorem State.joinConfirm_eq {s : State} {r i : Nat} (on : s.radioOn r = true) (st : (s.assoc r i).st = 1) :
    s.joinConfirm r i true true = (((s.confirming r i).joinAccept r i).saveTable r).confirmedNode r i (s.assoc r i) := by
  unfold State.joinConfirm
  dsimp only
  rw [on, st, if_neg (by decide), if_neg (by decide), if_neg (by decide)]
  rfl

theorem State.quarantineAll_sessNo (s : State) (l : List (Nat × Nat)) : (s.quarantineAll l).net.sessNo = s.net.sessNo := by
  induction l generalizing s with
  | nil => rfl
  | cons p l ih => exact (ih _).trans (congrArg (fun n => n.sessNo) (within_quarantined s p.1 p.2).net :)

theorem State.confirming_length (s : State) (r i : Nat) : (s.confirming r i).net.radios.length = s.net.radios.length :=
  (State.setAssoc_length ..).trans (s.quarantineAll_length)

section Confirming
variable {s : State} {r i : Nat} (slot : s.hasSlot r)
include slot

theorem State.confirming_assoc :
    ((s.confirming r i).assoc r i).st = 2 ∧ ((s.confirming r i).assoc r i).serial = (s.assoc r i).serial ∧
      ((s.confirming r i).assoc r i).sess = (SMap.getD s.net.sessNo (s.assoc r i).sessKey 0 + 1) % 65536 ∧
      ((s.confirming r i).assoc r i).acceptDue = true := by
  have len : r < (s.quarantineAll (s.olderOf r i (s.assoc r i).serial)).net.radios.length := by simpa using slot.radio
  have self : (s.confirming r i).assoc r i = _ := State.assoc_setAssoc _ _ _ len
  rw [self, s.quarantineAll_sessNo]
  exact ⟨rfl, rfl, rfl, rfl⟩

theorem State.confirming_older {q j : Nat} (hq : q < 6) (other : (q, j) ≠ (r, i)) (same : (s.assoc q j).serial = (s.assoc r i).serial)
    (st : (s.assoc q j).st = 1 ∨ (s.assoc q j).st = 2) : ((s.confirming r i).assoc q j).st = 3 := by
  have len : r < (s.quarantineAll (s.olderOf r i (s.assoc r i).serial)).net.radios.length := by simpa using slot.radio
  have apart : (s.confirming r i).assoc q j = _ := State.assoc_setAssoc_ne _ _ len other
  rw [apart]
  refine s.quarantineAll_assoc (fun p hp => ?_) (.inl (State.mem_olderOf hq other same st))
  have := State.olderOf_radio hp
  obtain ⟨-, six, -⟩ := slot
  omega

end Confirming

theorem State.confirming_joins (s : State) (r i : Nat) :
    (s.confirming r i).get F.NET_CNT2_JOINS = min 255 (s.get F.NET_CNT2_JOINS + 1) := by
  have kept : (s.quarantineAll (s.olderOf r i (s.assoc r i).serial)).get F.NET_CNT2_JOINS = s.get F.NET_CNT2_JOINS :=
    (within_quarantineAll s).get
  exact (State.get_inc_byte _ rfl rfl).trans (by rw [← kept]; rfl)

theorem within_joinAccept (s : State) (r i : Nat) : Within [.net, .out, .held] s (s.joinAccept r i) := by
  unfold State.joinAccept
  dsimp only
  split
  · exact .refl _ _
  · unfold State.radioTx
    refine .trans ?_ (within_emitAt _ _ _ _ (by decide))
    exact (((within_modRadio ..).trans (within_modRadio ..)).trans ((within_setAssoc ..).trans (within_modRadio ..))).mono (by decide)

theorem within_modNode (s : State) (i : Nat) (f : Node → Node) : Within [.light] s (s.modNode i f) := within_modLight s _ (by decide)

/-- What follows a confirmation sends nothing, and leaves the associations confirmed. -/
theorem State.confirmedNode_keeps (s : State) {r i : Nat} (a : Assoc) (hr : r < s.net.radios.length) :
    Confirms r i s (s.confirmedNode r i a) ∧ Within [.net, .light] s (s.confirmedNode r i a) := by
  unfold State.confirmedNode
  split
  · exact ⟨.refl _ _ _, .refl _ _⟩
  · have reads : ∀ (l : List Nat) (u : State), r < u.net.radios.length →
        Confirms r i u (l.foldl (fun s k => s.request r i 0x12 [k] .quiet) u) ∧
          Within [.net, .light] u (l.foldl (fun s k => s.request r i 0x12 [k] .quiet) u) := by
      intro l
      induction l with
      | nil => exact fun u _ => ⟨.refl _ _ _, .refl _ _⟩
      | cons k l ih =>
        intro u hu
        have one := confirms_request (i := i) u 0x12 [k] .quiet hu
        obtain ⟨c, w⟩ := ih _ (by rw [one.length]; exact hu)
        exact ⟨one.trans c, ((within_request ..).mono (by decide)).trans w⟩
    obtain ⟨c, w⟩ := reads (List.range 4) (s.modNode a.slot fun x => x.joined r i s.mono) hr
    exact ⟨(confirms_of_net (s := s) (t := s.modNode a.slot fun x => x.joined r i s.mono) rfl).trans c, ((within_modNode ..).mono (by decide)).trans w⟩

theorem joinConfirm_confirms (s : State) (r i : Nat) (a : Assoc) (slot : s.hasSlot r) (on : s.radioOn r = true) (ha : a = s.assoc r i)
    (joining : a.st = 1) :
    ∃ t, exec (.joinConfirm r i true true) s = .next t ∧ (t.assoc r i).st = 2 ∧ (t.assoc r i).serial = a.serial ∧
      (t.assoc r i).sess = (SMap.getD s.net.sessNo (a.slot + if a.sensor then 4096 else 0) 0 + 1) % 65536 ∧
      (∀ q j, q < 6 → (q, j) ≠ (r, i) → (s.assoc q j).serial = a.serial → (s.assoc q j).st = 1 ∨ (s.assoc q j).st = 2 →
        (t.assoc q j).st = 3) ∧
      t.get F.NET_CNT2_JOINS = min 255 (s.get F.NET_CNT2_JOINS + 1) ∧
      ((t.assoc r i).acceptDue = true ∨ ∃ (us n : Nat) (l : List Nat), t.sent .dataFrame ((r : Int) :: us :: longForm 12 a.serial n l)) := by
  subst ha
  have slot : s.begin.hasSlot r := slot
  have len : r < (s.begin.confirming r i).net.radios.length := by
    rw [State.confirming_length]
    exact slot.radio
  obtain ⟨st, serial, sess, due⟩ := State.confirming_assoc (i := i) slot
  obtain ⟨others, ⟨st1, serial1, sess1⟩, length1, answer⟩ := (s.begin.confirming r i).joinAccept_cases len due
  have saved : Confirms r i ((s.begin.confirming r i).joinAccept r i) (((s.begin.confirming r i).joinAccept r i).saveTable r) :=
    confirms_modRadio _ r (f := fun x => { x with saved := x.assocs, fcntSave := x.fcnt }) fun _ => rfl
  obtain ⟨ends, ew⟩ := State.confirmedNode_keeps (r := r) (i := i) (((s.begin.confirming r i).joinAccept r i).saveTable r) (s.assoc r i)
    (by rw [saved.length, length1]; exact len)
  have last := saved.trans ends
  have w : Within [.net, .light] ((s.begin.confirming r i).joinAccept r i) _ := ((within_saveTable ..).mono (by decide)).trans ew
  refine ⟨_, congrArg (fun u => Host.Outcome.next (s.after u)) (State.joinConfirm_eq (s := s.begin) on joining), ?_, ?_, ?_, ?_, ?_, ?_⟩
  · exact last.own.1.trans (st1.trans st)
  · exact last.own.2.1.trans (serial1.trans serial)
  · exact last.own.2.2.trans (sess1.trans sess)
  · intro q j hq other same older
    exact (congrArg Assoc.st ((last.others q j other).trans (others q j other))).trans (State.confirming_older slot hq other same older)
  · rw [State.after_get]
    exact w.get.trans ((within_joinAccept ..).get.trans (s.begin.confirming_joins r i))
  · rw [serial] at answer
    rcases answer with still | ⟨us, n, l, sent⟩
    · exact .inl (last.due.trans still)
    · exact .inr ⟨us, n, l, w.sent sent⟩

/-! ### Silence (R266, R284, R285) -/

/-- A free index, as the table shows it. -/
theorem State.freeIndex_assoc (s : State) {r : Nat} (i : Nat) (h : r < s.net.radios.length) : (s.freeIndex r i).assoc r i = {} := by
  unfold State.freeIndex
  rw [State.assoc_of_net (within_finishAll (D := finishParts) _ _ _ (by decide)).net, State.saveTable_assoc, State.assoc,
    State.radio_modRadio _ _ h]
  unfold SMap.getD
  rw [SMap.get?_erase_self]
  rfl

theorem State.when_true {s : State} {b : Bool} (f : State → State) (h : b = true) : s.when b f = f s := if_pos h
theorem State.when_false {s : State} {b : Bool} (f : State → State) (h : b = false) : s.when b f = s := if_neg (by simp [h])

/-- An index that is freed. -/
theorem State.frees {s : State} {r i : Nat} {b : Bool} (slot : s.hasSlot r) (h : b = true) :
    ∃ t, (Host.Outcome.next (s.after (s.begin.when b fun s => s.freeIndex r i)) : Res) = .next t ∧ t.assoc r i = {} := by
  refine ⟨_, rfl, ?_⟩
  rw [State.when_true _ h, State.assoc_of_net (State.after_net ..)]
  exact s.begin.freeIndex_assoc i slot.radio

theorem State.setDisc_node {s : State} {i : Nat} {x : Node} (hx : s.node i = some x) :
    ∃ y, (s.setDisc i).node i = some y ∧ y.online = x.online ∧ y.disc = true := by
  unfold State.setDisc
  rw [hx]
  dsimp only
  split
  · next disc => exact ⟨x, hx, rfl, disc⟩
  · obtain ⟨y, hy, disc, online, -⟩ := State.catchUp_node (s.node_setNode_self i { x with disc := true, discAt := s.mono })
    exact ⟨y, hy, online, disc⟩

/-- The node image of an association that goes to quarantine. -/
theorem State.quarantine_node {s : State} {r i : Nat} {x : Node} (lamp : (s.assoc r i).sensor = false)
    (hx : s.node (s.assoc r i).slot = some x) (radio : x.radio = r) (index : x.assoc = i) :
    ∃ y, (s.quarantine r i).node (s.assoc r i).slot = some y ∧ y.online = false ∧ y.disc = true := by
  have eq : s.quarantine r i =
      ((s.quarantined r i).setNode (s.assoc r i).slot { x with online := false }).setDisc (s.assoc r i).slot := by
    have hx : (s.quarantined r i).node (s.assoc r i).slot = some x := hx
    unfold State.quarantine
    dsimp only
    rw [show ((s.setAssoc r i { s.assoc r i with st := 3, since := (s.radio r).e }).saveTable r).node (s.assoc r i).slot = some x from hx]
    exact if_neg (by simp [lamp, radio, index])
  rw [eq]
  exact State.setDisc_node (State.node_setNode_self ..)

theorem associations_expire (s : State) (r i : Nat) (a : Assoc) (slot : s.hasSlot r) (ha : a = s.assoc r i) :
    (a.st = 1 → 100 ≤ s.eSince r a.since → ∃ t, exec (.joinTimeout r i) s = .next t ∧ t.assoc r i = {}) ∧
    (a.st = 3 → 100 * s.get F.NET_SUPV_SUPV ≤ s.eSince r a.since →
      ∃ t, exec (.quarantineExpiry r i) s = .next t ∧ t.assoc r i = {}) ∧
    (a.st = 2 → s.radioOn r = true → 100 * s.get F.NET_SUPV_SUPV ≤ s.eSince r a.heard →
      ∃ t, exec (.supervisionTimeout r i) s = .next t ∧ t.assoc r i = { a with st := 3, since := (s.radio r).e } ∧
        t.get F.NET_CNT3_DROPS = min 65535 (s.get F.NET_CNT3_DROPS + 1) ∧
        (a.sensor = false → ∀ x, s.node a.slot = some x → x.radio = r → x.assoc = i →
          ∃ y, t.node a.slot = some y ∧ y.online = false ∧ y.disc = true)) ∧
    (a.st ≠ 1 ∨ s.eSince r a.since < 100 → s.idle (.joinTimeout r i)) ∧
    (a.st ≠ 3 ∨ s.eSince r a.since < 100 * s.get F.NET_SUPV_SUPV → s.idle (.quarantineExpiry r i)) ∧
    (a.st ≠ 2 ∨ s.eSince r a.heard < 100 * s.get F.NET_SUPV_SUPV → s.idle (.supervisionTimeout r i)) := by
  subst ha
  have join : ∀ b, b = (decide ((s.assoc r i).st = 1) && decide (100 ≤ s.eSince r (s.assoc r i).since)) →
      exec (.joinTimeout r i) s = .next (s.after (s.begin.when b fun s => s.freeIndex r i)) := by rintro b rfl; rfl
  have quar : ∀ b, b = (decide ((s.assoc r i).st = 3) && decide (100 * s.get F.NET_SUPV_SUPV ≤ s.eSince r (s.assoc r i).since)) →
      exec (.quarantineExpiry r i) s = .next (s.after (s.begin.when b fun s => s.freeIndex r i)) := by rintro b rfl; rfl
  refine ⟨fun st age => ?_, fun st age => ?_, fun st on age => ?_, fun h => ?_, fun h => ?_, fun h => ?_⟩
  · rw [join true (by simp [st, age])]
    exact State.frees slot rfl
  · rw [quar true (by simp [st, age])]
    exact State.frees slot rfl
  · have eq : s.begin.supervision r i = ((s.begin.quarantine r i).inc F.NET_CNT3_DROPS).log Sev.warning 3 F.NET_CNT3_DROPS [] := by
      refine if_neg ?_
      show ¬(decide ((s.assoc r i).st ≠ 2) || decide (s.eSince r (s.assoc r i).heard < 100 * s.get F.NET_SUPV_SUPV) || !s.radioOn r) = true
      simp [st, on, age]
    refine ⟨_, congrArg (fun u => Host.Outcome.next (s.after u)) eq, ?_, ?_, fun lamp x hx radio index => ?_⟩
    · rw [State.assoc_of_net (State.after_net ..), State.assoc_of_net (State.log_net ..)]
      exact s.begin.quarantine_assoc i slot.radio
    · rw [State.after_get, State.log_get _ _ _ _ _ (by decide), State.get_inc_word _ rfl rfl, (within_quarantine ..).get]
      rfl
    · obtain ⟨y, hy, online, disc⟩ := State.quarantine_node (s := s.begin) lamp hx radio index
      refine ⟨y, ?_, online, disc⟩
      rw [State.node, State.after_light, State.log_light]
      exact hy
  · refine ⟨_, join false ?_, rfl⟩
    rcases h with h | h <;> simp [h]
  · refine ⟨_, quar false ?_, rfl⟩
    rcases h with h | h <;> simp [h]
  · refine State.idle_of (f := fun s => s.supervision r i) rfl (if_pos ?_)
    show (decide ((s.assoc r i).st ≠ 2) || decide (s.eSince r (s.assoc r i).heard < 100 * s.get F.NET_SUPV_SUPV) || !s.radioOn r) = true
    rcases h with h | h <;> simp [h]

/-- Settles O33: an association takes the lowest free index, is confirmed as its older ones go to quarantine, and ends in silence. -/
theorem associationsAreMadeAndEnd : Obligations.AssociationsAreMadeAndEnd := by
  unfold Obligations.AssociationsAreMadeAndEnd
  exact ⟨joinReq_joins, joinReq_refused, joinConfirm_confirms, joinConfirm_idle, fun s r i nonces _ on => joinConfirm_forged s r i nonces on,
    associations_expire⟩

end Sys2Proof.Machine

/-! ### What a node sends (O34) -/
namespace Sys2Proof.Machine

/-! ### Associations and the time that is free -/

theorem State.assoc_modAssoc (s : State) {r : Nat} (i : Nat) (f : Assoc → Assoc) (h : r < s.net.radios.length) :
    (s.modAssoc r i f).assoc r i = f (s.assoc r i) := State.assoc_setAssoc _ _ _ h

theorem State.assoc_modAssoc_ne (s : State) {r i q j : Nat} (f : Assoc → Assoc) (hr : r < s.net.radios.length) (h : (q, j) ≠ (r, i)) :
    (s.modAssoc r i f).assoc q j = s.assoc q j := State.assoc_setAssoc_ne _ _ hr h

@[simp] theorem State.modAssoc_length (s : State) (r i : Nat) (f : Assoc → Assoc) :
    (s.modAssoc r i f).net.radios.length = s.net.radios.length := State.setAssoc_length ..

@[simp] theorem State.hear_length (s : State) (r i : Nat) : (s.hear r i).net.radios.length = s.net.radios.length := State.setAssoc_length ..

theorem State.hear_assoc (s : State) {r : Nat} (i : Nat) (h : r < s.net.radios.length) :
    (s.hear r i).assoc r i = { s.assoc r i with heard := (s.radio r).e } := State.assoc_modAssoc _ _ _ h

theorem within_modAssoc (s : State) (r i : Nat) (f : Assoc → Assoc) : Within [.net] s (s.modAssoc r i f) := within_setRadio ..
theorem within_hear (s : State) (r i : Nat) : Within [.net] s (s.hear r i) := within_setRadio ..

/-- A new value at a key shows what the old one showed. -/
theorem SMap.any_insert {α : Type} {m : SMap α} {i : Nat} {x y : α} {p : Nat × α → Bool} (h : SMap.get? m i = some y)
    (same : p (i, x) = p (i, y)) : (SMap.insert m i x).any p = m.any p := by
  induction m with
  | nil => cases h
  | cons q m ih =>
    obtain ⟨k, v⟩ := q
    by_cases e : k = i
    · subst e
      have : v = y := by simpa [SMap.get?] using h
      subst this
      simp [SMap.insert, same]
    · have rest : SMap.get? m i = some y := by simpa [SMap.get?, e] using h
      have e' : ¬i = k := fun f => e f.symm
      by_cases lt : i < k
      · rw [SMap.insert, if_neg e', if_pos lt, List.any_cons, same]
        cases hp : p (i, y) with
        | false => rfl
        | true => exact (List.any_eq_true.2 ⟨_, SMap.mem_of_get? h, hp⟩).symm
      · rw [SMap.insert, if_neg e', if_neg lt, List.any_cons, List.any_cons, ih rest]

/-- What the schedule asks of an association. -/
def Assoc.place (a : Assoc) : Nat × Bool × Bool × Nat := (a.st, a.sensor, a.relay, a.depth)

theorem State.get_assoc {s : State} {r i : Nat} (h : (s.assoc r i).st ≠ 0) : SMap.get? (s.radio r).assocs i = some (s.assoc r i) := by
  unfold State.assoc SMap.getD at h ⊢
  cases e : SMap.get? (s.radio r).assocs i with
  | none => rw [e] at h; exact absurd rfl h
  | some x => rfl

/-- The times of the schedule follow from where the associations stand. -/
theorem State.setAssoc_positions (s : State) {r i : Nat} {a : Assoc} (hr : r < s.net.radios.length) (known : (s.assoc r i).st ≠ 0)
    (place : a.place = (s.assoc r i).place) : (s.setAssoc r i a).positions r = s.positions r := by
  simp only [Assoc.place, Prod.mk.injEq] at place
  obtain ⟨st, sensor, relay, depth⟩ := place
  have radio : (s.setAssoc r i a).radio r = { s.radio r with assocs := SMap.insert (s.radio r).assocs i a } :=
    State.radio_modRadio _ _ hr
  have lamps : (s.setAssoc r i a).servesLamps r = s.servesLamps r := by
    rw [State.servesLamps, radio]
    exact SMap.any_insert (State.get_assoc known) (by simp [st, sensor])
  have relays : ∀ d, (s.setAssoc r i a).relayTime r d = s.relayTime r d := fun d => by
    have any : ((s.setAssoc r i a).radio r).assocs.any (fun p => decide (p.2.st = 2) && p.2.relay && decide (p.2.depth + 1 = d)) =
        (s.radio r).assocs.any (fun p => decide (p.2.st = 2) && p.2.relay && decide (p.2.depth + 1 = d)) := by
      rw [radio]
      exact SMap.any_insert (State.get_assoc known) (by simp [st, relay, depth])
    simp only [State.relayTime, any]
    rw [radio]
    rfl
  have shared : ∀ b, (s.setAssoc r i a).sharedCells r b = s.sharedCells r b := fun b => by
    simp only [State.sharedCells, radio]
    rfl
  have begins : (s.setAssoc r i a).beaconEnd r = s.beaconEnd r := by
    rw [State.beaconEnd, radio]
    rfl
  have named : (s.setAssoc r i a).namedOn r = s.namedOn r := by
    simp only [State.namedOn, radio]
    rfl
  have due : (s.setAssoc r i a).commitDue r = s.commitDue r := by
    simp only [State.commitDue, lamps, named, radio]
    rfl
  simp only [State.positions, shared, begins, due, relays, radio]
  rfl

theorem State.modAssoc_positions (s : State) {r i : Nat} {f : Assoc → Assoc} (hr : r < s.net.radios.length) (known : (s.assoc r i).st ≠ 0)
    (place : ∀ a, (f a).place = a.place) : (s.modAssoc r i f).positions r = s.positions r :=
  s.setAssoc_positions hr known (place _)

/-! ### Frames (R267, R279, R280) -/

theorem State.sendAck_assoc (s : State) (r i m info : Nat) (cell : Option (List Int)) (q j : Nat) :
    (s.sendAck r i m info cell).assoc q j = s.assoc q j := by
  unfold State.sendAck
  extract_lets a b ok
  split
  · rw [State.radioTx_assoc]
    exact s.assoc_modRadio r (f := fun x => { x with busy := x.busy ++ [(a, b)] }) (fun _ => rfl) q j
  · rfl

theorem within_sendAck (s : State) (r i m info : Nat) (cell : Option (List Int)) :
    Within [.net, .out, .held] s (s.sendAck r i m info cell) := by
  unfold State.sendAck
  extract_lets a b ok
  split
  · unfold State.radioTx
    exact (((within_modRadio ..).trans (within_modRadio ..)).mono (by decide)).trans (within_emitAt _ _ _ _ (by decide))
  · exact .refl _ _

/-- An acknowledgement that keeps R273 and R277 goes out. -/
theorem State.sendAck_sent {s : State} {r a b : Nat} (i m info : Nat) (on : s.radioOn r = true) (ha : a = s.usNow + ackTurn r)
    (hb : b = a + airTime (s.phy r) 5) (free : timeFree (s.positions r) a b = true) (early : b ≤ 9850) (ends : s.endsInTime a b = true) :
    (s.sendAck r i m info none).sent .ackFrame [(r : Int), a, i, (fcOctet 5 false false : Nat), (m % 256 : Nat), info] := by
  subst ha hb
  unfold State.sendAck
  dsimp only
  rw [if_pos (by simp [on, free, early, ends])]
  exact State.radioTx_sent ..

theorem frameRx_judged (s : State) (r : Nat) (f : RxFrame) (slot : s.hasSlot r) (hears : s.radioHears r = true) (quiet : f.noise = false) :
    (f.phyOk = false ∨ maxPsdu r < f.len → ∃ t, exec (.frameRx r f) s = .next t ∧ t.net = s.net ∧
      t.get (F.RAD_CNT0_PHY_ERR.at r) = min 65535 (s.get (F.RAD_CNT0_PHY_ERR.at r) + 1)) ∧
    (f.phyOk = true → f.len ≤ maxPsdu r → f.micOk = false ∨ f.typ = 15 ∨ f.ver ≠ 1 → ∃ t, exec (.frameRx r f) s = .next t ∧ t.net = s.net ∧
      t.get (F.RAD_CNT0_MIC_FAIL.at r) = min 65535 (s.get (F.RAD_CNT0_MIC_FAIL.at r) + 1)) ∧
    (f.phyOk = true → f.len ≤ maxPsdu r → f.micOk = true → f.ver = 1 → f.typ = 7 → (s.assoc r f.index).st = 2 → f.sess = (s.assoc r f.index).sess →
      ∃ t, exec (.frameRx r f) s = .next t ∧ (t.assoc r f.index).heard = (s.radio r).e ∧
        (t.assoc r f.index).rssi = f.rssi % 256 ∧
        (∀ a b : Nat, f.ackReq = true → s.radioOn r = true → a = s.usNow + ackTurn r → b = a + airTime (s.phy r) 5 →
          timeFree (s.positions r) a b = true → b ≤ 9850 → s.endsInTime a b = true →
          t.sent .ackFrame [(r : Int), a, f.index, (fcOctet 5 false false : Nat), (f.seq % 256 : Nat), 0])) := by
  have len : r < s.begin.net.radios.length := slot.radio
  have hears : ¬((!s.begin.radioHears r) = true) := by
    have : s.begin.radioHears r = true := hears
    simp [this]
  have quiet : ¬f.noise = true := by simp [quiet]
  refine ⟨fun bad => ?_, fun phy size bad => ?_, fun phy size mic ver typ st sess => ?_⟩
  · have eq : s.begin.frameRx r f = s.begin.inc (F.RAD_CNT0_PHY_ERR.at r) := by
      refine (if_neg hears).trans ((if_neg quiet).trans (if_pos ?_))
      rcases bad with h | h <;> simp [h]
    exact ⟨_, congrArg (fun u => Host.Outcome.next (s.after u)) eq, rfl, State.get_inc_word s.begin rfl rfl⟩
  · have options : ¬((!f.phyOk || decide (maxPsdu r < f.len)) = true) := by simp [phy]; omega
    have eq : s.begin.frameRx r f = s.begin.inc (F.RAD_CNT0_MIC_FAIL.at r) := by
      refine (if_neg hears).trans ((if_neg quiet).trans ((if_neg options).trans (if_pos ?_)))
      rcases bad with h | h | h <;> simp [h]
    exact ⟨_, congrArg (fun u => Host.Outcome.next (s.after u)) eq, rfl, State.get_inc_word s.begin rfl rfl⟩
  · have options : ¬((!f.phyOk || decide (maxPsdu r < f.len)) = true) := by simp [phy]; omega
    have good : ¬((!f.micOk || decide (f.typ = 15) || decide (f.ver ≠ 1)) = true) := by simp [mic, ver, typ]
    have data : ¬((decide (f.typ ≠ 7) && decide (f.typ ≠ 14)) = true) := by simp [typ]
    let u := (s.begin.hear r f.index).modAssoc r f.index fun a => { a with rssi := f.rssi % 256 }
    have eq : s.begin.frameRx r f = if f.ackReq = true then u.sendAck r f.index f.seq 0 none else u := by
      have active : ¬(s.begin.assoc r f.index).st ≠ 2 := fun h => h st
      have mine : ¬((decide (f.typ = 7) && decide (f.sess ≠ (s.begin.assoc r f.index).sess)) = true) := by
        have : f.sess = (s.begin.assoc r f.index).sess := sess
        simp [this]
      exact (if_neg hears).trans ((if_neg quiet).trans ((if_neg options).trans ((if_neg good).trans ((if_neg data).trans
        ((if_neg active).trans (if_neg mine))))))
    have heard : u.assoc r f.index = { s.assoc r f.index with heard := (s.radio r).e, rssi := f.rssi % 256 } := by
      rw [State.assoc_modAssoc _ _ _ (by simpa using len), State.hear_assoc _ _ len]
      rfl
    have same : (if f.ackReq = true then u.sendAck r f.index f.seq 0 none else u).assoc r f.index = u.assoc r f.index := by
      split
      · exact State.sendAck_assoc ..
      · rfl
    refine ⟨_, congrArg (fun u => Host.Outcome.next (s.after u)) eq, ?_, ?_, fun a b ack on ha hb free early ends => ?_⟩
    · rw [State.assoc_of_net (State.after_net ..), same, heard]
    · rw [State.assoc_of_net (State.after_net ..), same, heard]
    · rw [if_pos ack]
      have hearing : (s.begin.hear r f.index).positions r = s.begin.positions r :=
        State.modAssoc_positions _ len (by show (s.assoc r f.index).st ≠ 0; omega) fun _ => rfl
      have known : ((s.begin.hear r f.index).assoc r f.index).st ≠ 0 := by
        rw [State.hear_assoc _ _ len]
        show (s.assoc r f.index).st ≠ 0
        omega
      have positions : u.positions r = s.begin.positions r :=
        ((s.begin.hear r f.index).modAssoc_positions (f := fun a => { a with rssi := f.rssi % 256 }) (by simpa using len) known
          fun _ => rfl).trans hearing
      have free : timeFree (u.positions r) a b = true := by
        rw [positions]
        exact free
      have sent := State.sendAck_sent (s := u) f.index f.seq 0 on ha hb free early ends
      rw [Nat.cast_zero] at sent
      exact (State.after_sent ..).2 sent

/-! ### Notifications (R255, R289, Table 06.14) -/

section Notification
variable {s : State} {r i sess q : Nat} {f : State → Assoc → State} (on : s.radioOn r = true) (st : (s.assoc r i).st = 2)
include on st

theorem State.notification_fresh (same : sess = (s.assoc r i).sess) (fresh : (s.assoc r i).classify q = .fresh) :
    s.notification r i sess q f = f ((s.hear r i).modAssoc r i fun a => a.take q) (s.assoc r i) := by
  unfold State.notification
  dsimp only
  rw [on, st, if_neg (by decide), if_neg (fun h => h same), fresh]

theorem State.notification_repeated (same : sess = (s.assoc r i).sess) (again : (s.assoc r i).classify q = .repeated) :
    s.notification r i sess q f = (s.hear r i).inc F.NET_CNT1_DUPLICATES := by
  unfold State.notification
  dsimp only
  rw [on, st, if_neg (by decide), if_neg (fun h => h same), again]

theorem State.notification_stale (old : sess ≠ (s.assoc r i).sess ∨ (s.assoc r i).classify q = .stale) :
    s.notification r i sess q f = s.inc F.NET_CNT1_STALE ∨ s.notification r i sess q f = (s.hear r i).inc F.NET_CNT1_STALE := by
  unfold State.notification
  dsimp only
  rw [on, st, if_neg (by decide)]
  split
  · exact .inl rfl
  · next same =>
    rw [old.resolve_left same]
    exact .inr rfl

end Notification

/-- A sequence that is taken is one of those seen. -/
theorem Assoc.take_seen (a : Assoc) (q : Nat) : q % 65536 ∈ (a.take q).upSeen := by
  refine List.mem_filter.2 ⟨List.mem_append_right _ (List.mem_singleton.2 rfl), decide_eq_true ?_⟩
  split <;> omega

theorem sensorReport_judged (s : State) (r i sess q flags sent : Nat) (vals : List Nat) (a : Assoc) (x : Sensor) (slot : s.hasSlot r)
    (ha : a = s.assoc r i) (on : s.radioOn r = true) (st : a.st = 2) (sensor : a.sensor = true) (hx : SMap.get? s.net.sensors a.slot = some x) :
    (sess = a.sess → a.classify q = .fresh →
      ∃ t, exec (.nodeReport r i sess q (.sensor sent flags vals)) s = .next t ∧
        (SMap.getD t.net.sensors a.slot {}).values = (List.range 6).map (fun k => vals.getD k 0 % 65536) ∧
        (SMap.getD t.net.sensors a.slot {}).stale = false ∧ q % 65536 ∈ (t.assoc r i).upSeen) ∧
    (sess = a.sess → a.classify q = .repeated →
      ∃ t, exec (.nodeReport r i sess q (.sensor sent flags vals)) s = .next t ∧ t.net.sensors = s.net.sensors ∧
        t.get F.NET_CNT1_DUPLICATES = min 65535 (s.get F.NET_CNT1_DUPLICATES + 1)) ∧
    (sess ≠ a.sess ∨ a.classify q = .stale →
      ∃ t, exec (.nodeReport r i sess q (.sensor sent flags vals)) s = .next t ∧ t.net.sensors = s.net.sensors ∧
        t.get F.NET_CNT1_STALE = min 65535 (s.get F.NET_CNT1_STALE + 1)) := by
  subst ha
  have len : r < s.begin.net.radios.length := slot.radio
  have on : s.begin.radioOn r = true := on
  have run : ∀ {u}, s.begin.nodeReport r i sess q (.sensor sent flags vals) = u →
      exec (.nodeReport r i sess q (.sensor sent flags vals)) s = .next (s.after u) := fun h =>
    congrArg (fun u => Host.Outcome.next (s.after u)) h
  refine ⟨fun same fresh => ?_, fun same again => ?_, fun old => ?_⟩
  · let u := (s.begin.hear r i).modAssoc r i fun a => a.take q
    let y : Sensor → Sensor := fun x =>
      { x with values := (List.range 6).map (fun k => vals.getD k 0 % 65536), flags := flags % 256, stale := false,
               repAt := u.mono, ever := true }
    have eq : s.begin.nodeReport r i sess q (.sensor sent flags vals) =
        u.modNet fun n => { n with sensors := SMap.modify n.sensors (s.assoc r i).slot y } := by
      refine (State.notification_fresh on st same fresh).trans (if_neg ?_)
      show ¬(!(s.assoc r i).sensor) = true
      simp [sensor]
    have got : SMap.getD (SMap.modify s.net.sensors (s.assoc r i).slot y) (s.assoc r i).slot {} = y x := by
      rw [SMap.getD, SMap.get?_modify, hx]
      simp
    refine ⟨_, run eq, congrArg Sensor.values got, congrArg Sensor.stale got, ?_⟩
    have seen : u.assoc r i = ((s.begin.hear r i).assoc r i).take q := State.assoc_modAssoc _ _ _ (by simpa using len)
    show q % 65536 ∈ (u.assoc r i).upSeen
    rw [seen]
    exact Assoc.take_seen ..
  · exact ⟨_, run (State.notification_repeated on st same again), rfl, State.get_inc_word (s.begin.hear r i) rfl rfl⟩
  · rcases State.notification_stale (f := fun s a => if !a.sensor then s else s.modNet fun n => { n with
        sensors := SMap.modify n.sensors a.slot fun x => { x with
          values := (List.range 6).map (fun k => vals.getD k 0 % 65536), flags := flags % 256, stale := false,
          repAt := s.mono, ever := true } }) on st old with eq | eq
    · exact ⟨_, run eq, rfl, State.get_inc_word s.begin rfl rfl⟩
    · exact ⟨_, run eq, rfl, State.get_inc_word (s.begin.hear r i) rfl rfl⟩

theorem State.nodeFaultLog_light (s : State) (i : Nat) (was now : Bool) (sev what : Nat) :
    (s.nodeFaultLog i was now sev what).light = s.light := by
  unfold State.nodeFaultLog
  split
  · rfl
  · split <;> exact State.log_light ..

/-- A lamp's report is kept for the boundary. -/
theorem State.nodeReported_node (s : State) (i : Nat) (x : Node) (l : LampRep) :
    ∃ y, (s.nodeReported i x l).node i = some y ∧ y.rep = some l ∧ y.repAt = s.mono ∧ y.sstate = l.sstate ∧ y.nfault = l.faults % 64 := by
  unfold State.nodeReported
  extract_lets open_ short wasOpen wasShort fault excl tempOk x' s1 s2 s3
  have two : s2.light = s1.light := foldl_keeps State.light _ (fun u k => by simp only [State.nodeFaultLog_light]) _ _
  have three : s3.light = s2.light := foldl_keeps State.light _ (fun u k => by simp only [State.nodeFaultLog_light]) _ _
  refine ⟨x', ?_, rfl, rfl, rfl, rfl⟩
  rw [State.node, foldl_keeps State.light _ (fun u k => by simp only [State.nodeFaultLog_light]) _ _, three, two]
  exact s.node_setNode_self i x'

theorem lampReport_kept (s : State) (r i q : Nat) (l : LampRep) (a : Assoc) (x : Node) (ha : a = s.assoc r i)
    (on : s.radioOn r = true) (st : a.st = 2) (lamp : a.sensor = false) (hx : s.node a.slot = some x) (fresh : a.classify q = .fresh) :
    ∃ t y, exec (.nodeReport r i a.sess q (.lamp l)) s = .next t ∧ t.node a.slot = some y ∧ y.rep = some l ∧ y.repAt = s.mono ∧
      y.sstate = l.sstate ∧ y.nfault = l.faults % 64 := by
  subst ha
  have on : s.begin.radioOn r = true := on
  let u := (s.begin.hear r i).modAssoc r i fun a => a.take q
  have hx : u.node (s.assoc r i).slot = some x := hx
  have eq : s.begin.nodeReport r i (s.assoc r i).sess q (.lamp l) = u.nodeReported (s.assoc r i).slot x l := by
    refine (State.notification_fresh on st rfl fresh).trans ((if_neg (show ¬(s.assoc r i).sensor = true by simp [lamp])).trans ?_)
    show (match u.node (s.assoc r i).slot with | some x => u.nodeReported (s.assoc r i).slot x l | none => u) = _
    rw [hx]
  obtain ⟨y, hy, facts⟩ := u.nodeReported_node (s.assoc r i).slot x l
  exact ⟨_, y, congrArg (fun u => Host.Outcome.next (s.after u)) eq, hy, facts⟩

/-! ### Requests (R290, R293 to R295) -/

theorem Assoc.txn_seq {a : Assoc} {q : Nat} {x : Txn} (h : a.txn q = some x) : x.seq = q := by
  simpa using List.find?_some h

/-- A request that is put in the place of its own. -/
theorem Assoc.txn_set {a : Assoc} {q : Nat} {x t : Txn} (h : a.txn q = some x) (ht : t.seq = q) :
    (a.txns.map fun y => if y.seq = t.seq then t else y).find? (fun y => decide (y.seq = q)) = some t := by
  have same : (fun y : Txn => decide (y.seq = q)) ∘ (fun y => if y.seq = t.seq then t else y) = fun y => decide (y.seq = q) := by
    funext y
    dsimp only [Function.comp]
    split
    · next e => rw [e]
    · rfl
  rw [List.find?_map, same]
  have found : a.txns.find? (fun y => decide (y.seq = q)) = some x := h
  rw [found, Option.map_some, if_pos ((Assoc.txn_seq h).trans ht.symm)]

theorem Assoc.txn_drop (a : Assoc) (q : Nat) : ({ a with txns := a.txns.filter fun x => x.seq ≠ q } : Assoc).txn q = none := by
  refine List.find?_eq_none.2 fun x hx => ?_
  simpa using (List.mem_filter.1 hx).2

theorem State.setTxn_txn {s : State} {r i q : Nat} {x t : Txn} (hr : r < s.net.radios.length) (h : (s.assoc r i).txn q = some x)
    (ht : t.seq = q) : ((s.setTxn r i t).assoc r i).txn q = some t := by
  rw [State.setTxn, State.assoc_modAssoc _ _ _ hr]
  exact Assoc.txn_set h ht

theorem ackRx_acknowledged (s : State) (r i q info : Nat) (x : Txn) (slot : s.hasSlot r) (on : s.radioOn r = true)
    (hx : (s.assoc r i).txn q = some x) (sent : x.firstAt.isSome = true) :
    ∃ t, exec (.ackRx r i q info) s = .next t ∧ (t.assoc r i).txn q = some { x with acked := true, lastAt := (s.radio r).e } := by
  let y : Txn := { x with acked := true, lastAt := (s.radio r).e }
  let u := s.begin.setTxn r i y
  have eq : s.begin.ackRx r i q info = if bit info 7 = true then u.modAssoc r i fun a => { a with pendingUp := true } else u := by
    have hx : (s.begin.assoc r i).txn q = some x := hx
    have on : s.begin.radioOn r = true := on
    have first : x.firstAt.isNone = false := by simpa using sent
    unfold State.ackRx
    dsimp only
    rw [on, if_neg (by decide), hx]
    dsimp only
    rw [first, if_neg (by decide)]
    rfl
  have len : r < s.begin.net.radios.length := slot.radio
  have set : (u.assoc r i).txn q = some y := State.setTxn_txn (s := s.begin) len hx (show x.seq = q from Assoc.txn_seq hx)
  refine ⟨_, congrArg (fun u => Host.Outcome.next (s.after u)) eq, ?_⟩
  rw [State.assoc_of_net (State.after_net ..)]
  split
  · rw [State.assoc_modAssoc _ _ _ (by simpa [u, State.setTxn] using len)]
    exact set
  · exact set

/-- A node answers a query: its request is gone, and its caller has the answer. -/
theorem nodeResponse_ends (s : State) (r i q status : Nat) (body : List Nat) (x : Txn) (a : Assoc) (slot : s.hasSlot r)
    (on : s.radioOn r = true) (ha : a = s.assoc r i) (st : a.st = 2) (hx : a.txn q = some x) (sent : x.firstAt.isSome = true)
    (early : s.txnExpired r x = false) (query : x.op = 0x15) (waits : s.awaits x.by_) :
    ∃ t, exec (.nodeResponse r i a.sess q status body) s = .next t ∧ (t.assoc r i).txn q = none ∧
      t.ended x.by_ (if status = 0 then St.done else 0x0705)
        (if status = 0 then (List.range 16).map (fun k => body.getD k 0 % 2 ^ 32) else [status % 65536]) := by
  subst ha
  have len : r < s.begin.net.radios.length := slot.radio
  let u := (s.begin.hear r i).dropTxn r i q
  have expired : (s.begin.hear r i).txnExpired r x = false := by
    have e : ((s.begin.hear r i).radio r).e = (s.radio r).e := by
      rw [State.hear, State.modAssoc, State.setAssoc, State.radio_modRadio _ _ len]
      rfl
    have same : (s.begin.hear r i).txnExpired r x = s.txnExpired r x := by
      unfold State.txnExpired State.eSince
      rw [e]
      rfl
    rw [same, early]
  have answers : u.campaignAnswer r i x (some status) body = u := by
    unfold State.campaignAnswer
    dsimp only
    rw [query]
    split
    · rfl
    · exact (if_neg (by simp)).trans (if_neg (by simp))
  have done : u.nodeDone r i x body = u := by
    unfold State.nodeDone
    dsimp only
    rw [query]
    rfl
  have eq : s.begin.nodeResponse r i (s.assoc r i).sess q status body = u.finish x.by_ (if status = 0 then St.done else 0x0705)
      (if status = 0 then (List.range 16).map (fun k => body.getD k 0 % 2 ^ 32) else [status % 65536]) := by
    have on : s.begin.radioOn r = true := on
    have st : (s.begin.assoc r i).st = 2 := st
    have hx : (s.begin.assoc r i).txn q = some x := hx
    have first : x.firstAt.isNone = false := by simpa using sent
    unfold State.nodeResponse
    dsimp only
    rw [on, st, if_neg (by decide), if_neg (fun h => h rfl), hx]
    dsimp only
    rw [first, expired, if_neg (by decide), done, ite_self, answers, query, if_pos rfl]
    split <;> rfl
  have awaits : u.awaits x.by_ := Within.awaits (s := s.begin) ((within_hear ..).trans (within_modAssoc ..)) waits
  refine ⟨_, congrArg (fun u => Host.Outcome.next (s.after u)) eq, ?_, (State.after_ended ..).2 (State.finish_ended _ _ awaits)⟩
  rw [State.assoc_of_net (State.after_net ..), State.assoc_of_net (within_finish (D := finishParts) _ _ _ _ (by decide)).net]
  show (((s.begin.hear r i).dropTxn r i q).assoc r i).txn q = none
  rw [State.dropTxn, State.assoc_modAssoc _ _ _ (by simpa using len)]
  exact Assoc.txn_drop ..

theorem nodeResponse_late (s : State) (r i q status : Nat) (body : List Nat) (a : Assoc) (on : s.radioOn r = true) (ha : a = s.assoc r i)
    (st : a.st = 2) (none_ : a.txn q = none) :
    ∃ t, exec (.nodeResponse r i a.sess q status body) s = .next t ∧
      t.get F.NET_CNT0_LATE = min 65535 (s.get F.NET_CNT0_LATE + 1) ∧ t.light = s.light := by
  subst ha
  have eq : s.begin.nodeResponse r i (s.assoc r i).sess q status body = (s.begin.hear r i).lateResponse r i := by
    have on : s.begin.radioOn r = true := on
    have st : (s.begin.assoc r i).st = 2 := st
    have none_ : (s.begin.assoc r i).txn q = none := none_
    unfold State.nodeResponse
    dsimp only
    rw [on, st, if_neg (by decide), if_neg (fun h => h rfl), none_]
  have late : ∀ u : State, (u.lateResponse r i).get F.NET_CNT0_LATE = min 65535 (u.get F.NET_CNT0_LATE + 1) ∧
      (u.lateResponse r i).light = u.light := fun u => by
    have counted : (u.inc F.NET_CNT0_LATE).get F.NET_CNT0_LATE = min 65535 (u.get F.NET_CNT0_LATE + 1) := State.get_inc_word u rfl rfl
    unfold State.lateResponse
    extract_lets v a due
    split
    · exact ⟨(State.log_get _ _ _ _ _ (by decide)).trans counted, State.log_light ..⟩
    · exact ⟨counted, rfl⟩
  obtain ⟨count, light⟩ := late (s.begin.hear r i)
  exact ⟨_, congrArg (fun u => Host.Outcome.next (s.after u)) eq, (State.after_get ..).trans count, light⟩

theorem nack_counted (s : State) (r i q first last : Nat) (a : Assoc) (on : s.radioOn r = true) (ha : a = s.assoc r i) (st : a.st = 2)
    (fresh : a.classify q = .fresh) (sensor : a.sensor = true) :
    ∃ t, exec (.nack r i a.sess q first last) s = .next t ∧ t.light = s.light ∧
      t.get F.NET_CNT2_NACKS = min 65535 (s.get F.NET_CNT2_NACKS + 1) := by
  subst ha
  have on : s.begin.radioOn r = true := on
  let u := (s.begin.hear r i).modAssoc r i fun a => a.take q
  have eq : s.begin.nack r i (s.assoc r i).sess q first last = u.inc F.NET_CNT2_NACKS :=
    (State.notification_fresh on st rfl fresh).trans (if_pos sensor)
  exact ⟨_, congrArg (fun u => Host.Outcome.next (s.after u)) eq, rfl, State.get_inc_word u rfl rfl⟩

/-! ### Relays (R298) -/

/-- A frame that has room is placed, and its time is taken. -/
theorem State.placed_go {s : State} {r l lim us : Nat} (f : Nat → State → State)
    (h : s.freeFrom r s.usNow (airTime (s.phy r) l) lim = some us) :
    s.placed r l lim f = f us (s.takeTime r us (us + airTime (s.phy r) l)) := by
  unfold State.placed
  dsimp only
  rw [h]

theorem State.unlessShed_go {s : State} {r rank : Nat} (f : State → State) (h : s.sheds r rank = false) : s.unlessShed r rank f = f s :=
  if_neg (by simp [h])

/-- A radio once time has been taken and the frame counter has moved on. -/
theorem State.nextFcnt_radio (s : State) {r : Nat} (a b : Nat) (h : r < s.net.radios.length) :
    (((s.takeTime r a b).modRadio r Radio.nextFcnt).radio r).fcnt = (s.radio r).nextFcnt.fcnt := by
  rw [State.radio_modRadio _ _ (by simpa [State.takeTime] using h), State.takeTime, State.radio_modRadio _ _ h]
  unfold Radio.nextFcnt
  dsimp only
  split <;> rfl

/-- A command of a slot that is not lost. -/
theorem State.inSlot_acts {s : State} {r : Nat} {f g : State → State} (slot : s.hasSlot r) (hg : g s.begin = s.begin.inSlot r f) :
    ∃ t, s.act g = .next t ∧ Within firedParts (f s.begin) t := by
  refine ⟨_, congrArg (fun u => Host.Outcome.next (s.after u)) hg, ?_⟩
  have open_ : s.begin.frame.missed.contains (radioLate r) = false := slot.2.2
  exact ((State.inSlot_within f open_).mono (by decide)).trans ((within_after_rest ..).mono (by decide))

theorem relay_hops (s : State) (r i octets : Nat) (a : Assoc) (slot : s.hasSlot r) (on : s.radioOn r = true)
    (en : s.get (F.RAD_CFG_RELAY_EN.at r) ≠ 0) (ha : a = s.assoc r i) (st : a.st = 2) (deep : a.depth ≠ 0) (size : 14 + octets ≤ maxPsdu r) :
    (∀ us, s.sheds r 2 = false → s.freeFrom r s.usNow (airTime (s.phy r) (14 + octets)) 9850 = some us →
      ∃ t, exec (.relay r i true octets) s = .next t ∧
      t.sent .relayFrame [(r : Int), us, a.parent, i, (s.radio r).nextFcnt.fcnt, octets]) ∧
    (∃ t, exec (.relay r i false octets) s = .next t ∧ (t.assoc r i).heard = (s.radio r).e ∧
      (t.assoc r a.parent).heard = (s.radio r).e) := by
  subst ha
  have len : r < s.begin.net.radios.length := slot.radio
  have go : ¬((!s.begin.radioOn r || !s.begin.flag (F.RAD_CFG_RELAY_EN.at r) || decide ((s.begin.assoc r i).st ≠ 2) ||
      decide ((s.begin.assoc r i).depth = 0) || decide (maxPsdu r < 14 + octets)) = true) := by
    have on : s.begin.radioOn r = true := on
    have en : s.begin.flag (F.RAD_CFG_RELAY_EN.at r) = true := decide_eq_true en
    have st : (s.begin.assoc r i).st = 2 := st
    have deep : (s.begin.assoc r i).depth ≠ 0 := deep
    rw [on, en]
    simp [st, deep, size]
  constructor
  · intro us sheds free
    have hg : s.begin.relay r i true octets = s.begin.inSlot r fun s' => s'.unlessShed r 2 fun s' => s'.placed r (14 + octets) 9850 fun us s' =>
        (s'.modRadio r Radio.nextFcnt).radioTx r (14 + octets) false .relayFrame us
          [(s.assoc r i).parent, i, ((s'.modRadio r Radio.nextFcnt).radio r).fcnt, octets] := (if_neg go).trans rfl
    obtain ⟨t, run, w⟩ := State.inSlot_acts (g := fun s => s.relay r i true octets) slot hg
    rw [State.unlessShed_go _ (show s.begin.sheds r 2 = false from sheds),
      State.placed_go _ (show s.begin.freeFrom r s.begin.usNow (airTime (s.begin.phy r) (14 + octets)) 9850 = some us from free)] at w
    have sent := w.sent (State.radioTx_sent ..)
    rw [State.nextFcnt_radio _ _ _ len] at sent
    exact ⟨t, run, sent⟩
  · have eq : s.begin.relay r i false octets = (s.begin.hear r (s.assoc r i).parent).hear r i := (if_neg go).trans rfl
    have one := s.begin.hear_assoc (r := r) (s.assoc r i).parent len
    have two := (s.begin.hear r (s.assoc r i).parent).hear_assoc i (by simpa using len)
    have e : ((s.begin.hear r (s.assoc r i).parent).radio r).e = (s.radio r).e := by
      rw [State.hear, State.modAssoc, State.setAssoc, State.radio_modRadio _ _ len]
      rfl
    refine ⟨_, congrArg (fun u => Host.Outcome.next (s.after u)) eq, ?_, ?_⟩ <;> rw [State.assoc_of_net (State.after_net ..)]
    · rw [two]
      exact e
    · by_cases same : (s.assoc r i).parent = i
      · rw [same] at two e ⊢
        rw [two]
        exact e
      · have other := State.assoc_modAssoc_ne (s.begin.hear r (s.assoc r i).parent) (r := r) (i := i) (q := r) (j := (s.assoc r i).parent)
          (fun a => { a with heard := ((s.begin.hear r (s.assoc r i).parent).radio r).e }) (by simpa using len) (by simpa using same)
        exact (congrArg Assoc.heard other).trans (congrArg Assoc.heard one)

/-! ### Sleeping nodes (R286 to R288) -/

theorem sleepUplink_idle (s : State) (r i octets : Nat) (delta : Int) (search : Option Nat)
    (h : 36 < octets ∨ s.ownsCell r (s.assoc r i) = false) : s.idle (.sleepUplink r i delta octets search) := by
  refine State.idle_of (f := fun s => s.sleepUplink r i delta octets search) rfl (if_pos ?_)
  rcases h with h | h
  · simp [h]
  · have h : s.begin.ownsCell r (s.begin.assoc r i) = false := h
    simp [h]

theorem sleepUplink_tracks (s : State) (r i octets span : Nat) (search : Option Nat) (delta off rr : Int) (a : Assoc) (slot : s.hasSlot r)
    (hears : s.radioHears r = true) (ha : a = s.assoc r i) (owns : s.ownsCell r a = true) (size : octets ≤ 36)
    (hspan : span = 10 * s.eSince r (search.getD a.eSync)) (pos : 0 < span) (hoff : off = delta * 1000 - a.ePpm * span) (hrr : rr = rdiv off span) :
    (off.natAbs ≤ min (16000 * s.get (F.RAD_SLEEP_G0.at r) + a.bPpm * span) (16000 * s.get (F.RAD_SLEEP_GMAX.at r)) →
      ∃ t, exec (.sleepUplink r i delta octets search) s = .next t ∧ (t.assoc r i).misses = 0 ∧
        t.get F.NET_CNT3_DRIFT_MISS = (if search.isSome then min 65535 (s.get F.NET_CNT3_DRIFT_MISS + 1) else s.get F.NET_CNT3_DRIFT_MISS) ∧
        (t.assoc r i).ePpm = clampI (-32768) 32767 (a.ePpm + rdiv rr 8) ∧
        (t.assoc r i).bPpm = min 65535 (max (s.get (F.RAD_SLEEP_BMIN.at r)) (max (a.bPpm - a.bPpm / 16) (2 * rr.natAbs)))) ∧
    (min (16000 * s.get (F.RAD_SLEEP_G0.at r) + a.bPpm * span) (16000 * s.get (F.RAD_SLEEP_GMAX.at r)) < off.natAbs →
      s.idle (.sleepUplink r i delta octets search)) := by
  subst ha hspan hrr hoff
  have len : r < s.begin.net.radios.length := slot.radio
  have go : ¬((!s.begin.radioHears r || !s.begin.ownsCell r (s.begin.assoc r i) ||
      decide (10 * s.begin.eSince r (search.getD (s.begin.assoc r i).eSync) = 0) || decide (36 < octets)) = true) := by
    have hears : s.begin.radioHears r = true := hears
    have owns : s.begin.ownsCell r (s.begin.assoc r i) = true := owns
    have pos : 0 < 10 * s.begin.eSince r (search.getD (s.begin.assoc r i).eSync) := pos
    rw [hears, owns]
    simp
    omega
  constructor
  · intro near
    obtain ⟨v, y, info, cell, eq, hv, misses, ePpm, bPpm⟩ : ∃ (v : State) (y : Assoc) (info : Nat) (cell : Option (List Int)),
        s.begin.sleepUplink r i delta octets search = (v.setAssoc r i y).sendAck r i 0 info cell ∧
        v = (if search.isSome then s.begin.inc F.NET_CNT3_DRIFT_MISS else s.begin) ∧ y.misses = 0 ∧
        y.ePpm = clampI (-32768) 32767 ((s.assoc r i).ePpm + rdiv (rdiv (delta * 1000 - (s.assoc r i).ePpm *
          ↑(10 * s.eSince r (search.getD (s.assoc r i).eSync))) ↑(10 * s.eSince r (search.getD (s.assoc r i).eSync))) 8) ∧
        y.bPpm = min 65535 (max (s.get (F.RAD_SLEEP_BMIN.at r)) (max ((s.assoc r i).bPpm - (s.assoc r i).bPpm / 16)
          (2 * (rdiv (delta * 1000 - (s.assoc r i).ePpm * ↑(10 * s.eSince r (search.getD (s.assoc r i).eSync)))
            ↑(10 * s.eSince r (search.getD (s.assoc r i).eSync))).natAbs))) :=
      ⟨_, _, _, _, (if_neg go).trans ((if_neg (not_lt.2 (Int.ofNat_le.2 near))).trans rfl), rfl, rfl, rfl, rfl⟩
    have lenv : r < v.net.radios.length := by
      rw [hv]
      split <;> exact len
    refine ⟨_, congrArg (fun u => Host.Outcome.next (s.after u)) eq, ?_, ?_, ?_, ?_⟩
    · rw [State.assoc_of_net (State.after_net ..), State.sendAck_assoc, State.assoc_setAssoc _ _ _ lenv, misses]
    · rw [State.after_get, (within_sendAck ..).get, (within_setAssoc ..).get, hv]
      split
      · exact State.get_inc_word s.begin rfl rfl
      · rfl
    · rw [State.assoc_of_net (State.after_net ..), State.sendAck_assoc, State.assoc_setAssoc _ _ _ lenv, ePpm]
    · rw [State.assoc_of_net (State.after_net ..), State.sendAck_assoc, State.assoc_setAssoc _ _ _ lenv, bPpm]
  · intro far
    exact State.idle_of (f := fun s => s.sleepUplink r i delta octets search) rfl ((if_neg go).trans (if_pos (Int.ofNat_lt.2 far)))

theorem sensor_stale (s : State) (k : Nat) (x : Sensor) (hx : SMap.get? s.net.sensors k = some x) (ever : x.ever = true)
    (past : s.past (x.repAt + 3 * s.sensorPeriod k) = true) :
    ∃ t, exec (.sensorReportStale k) s = .next t ∧ (SMap.getD t.net.sensors k {}).stale = true := by
  have got : SMap.getD s.begin.net.sensors k {} = x := by
    show (SMap.get? s.net.sensors k).getD {} = x
    rw [hx]
    rfl
  have eq : s.begin.sensorStale k = s.begin.modNet fun n => { n with sensors := SMap.modify n.sensors k fun x => { x with stale := true } } := by
    unfold State.sensorStale
    dsimp only
    rw [got]
    have past : s.begin.past (x.repAt + 3 * s.begin.sensorPeriod k) = true := past
    exact if_pos (by rw [ever, past]; rfl)
  refine ⟨_, congrArg (fun u => Host.Outcome.next (s.after u)) eq, ?_⟩
  show (SMap.getD (SMap.modify s.net.sensors k fun x => { x with stale := true }) k {}).stale = true
  rw [SMap.getD, SMap.get?_modify, hx]
  simp

/-- Settles O34: what a node sends is judged in its order, and only then heard. -/
theorem nodesAreHeardOnce : Obligations.NodesAreHeardOnce := by
  unfold Obligations.NodesAreHeardOnce
  exact ⟨frameRx_judged, sensorReport_judged, fun s r i q l a x _ => lampReport_kept s r i q l a x, ackRx_acknowledged, nodeResponse_ends,
    fun s r i q status body a _ => nodeResponse_late s r i q status body a, fun s r i q first last a _ => nack_counted s r i q first last a,
    relay_hops, sleepUplink_tracks, sleepUplink_idle, sensor_stale⟩

end Sys2Proof.Machine

/-! ### Requests to nodes, and campaigns (O35) -/
namespace Sys2Proof.Machine

/-- A radio whose time has been taken and whose counter has moved on holds the same associations. -/
theorem State.placing_assoc (s : State) (r a b q j : Nat) :
    ((s.takeTime r a b).modRadio r Radio.nextFcnt).assoc q j = s.assoc q j :=
  ((s.takeTime r a b).assoc_modRadio r (f := Radio.nextFcnt) (fun x => by unfold Radio.nextFcnt; split <;> rfl) q j).trans
    (s.assoc_modRadio r (f := fun x => { x with busy := x.busy ++ [(a, b)] }) (fun _ => rfl) q j)

theorem State.takeTime_assoc (s : State) (r a b q j : Nat) : (s.takeTime r a b).assoc q j = s.assoc q j :=
  s.assoc_modRadio r (f := fun x => { x with busy := x.busy ++ [(a, b)] }) (fun _ => rfl) q j

@[simp] theorem State.takeTime_length (s : State) (r a b : Nat) : (s.takeTime r a b).net.radios.length = s.net.radios.length :=
  State.modRadio_length ..

/-! ### The frame of a request (R290) -/

/-- A request as it goes on the air: one that is no repeat takes the next frame counter. -/
def State.stamped (s : State) (r : Nat) (t : Txn) (fresh : Bool) : Txn :=
  if fresh then { t with fcnt := (s.radio r).nextFcnt.fcnt } else t

/-- The radio of a request's frame, before the frame. -/
def State.counting (s : State) (r us len : Nat) (fresh : Bool) : State :=
  if fresh then (s.takeTime r us (us + len)).modRadio r Radio.nextFcnt else s.takeTime r us (us + len)

theorem State.counting_assoc (s : State) (r us len : Nat) (fresh : Bool) (q j : Nat) :
    (s.counting r us len fresh).assoc q j = s.assoc q j := by
  unfold State.counting
  split
  · exact s.placing_assoc ..
  · exact s.takeTime_assoc ..

@[simp] theorem State.counting_length (s : State) (r us len : Nat) (fresh : Bool) :
    (s.counting r us len fresh).net.radios.length = s.net.radios.length := by
  unfold State.counting
  split <;> simp

section Placed
variable {s : State} {r i q us : Nat} {x t : Txn} (hr : r < s.net.radios.length)
  (room : s.freeFrom r s.usNow (airTime (s.phy r) t.octets) (s.hearsBy (s.assoc r i)) = some us)

theorem State.stamped_eq (t : Txn) (fresh : Bool) (a b : Nat) (hr : r < s.net.radios.length) :
    (if fresh then { t with fcnt := (((s.takeTime r a b).modRadio r Radio.nextFcnt).radio r).fcnt } else t) = s.stamped r t fresh := by
  rw [s.nextFcnt_radio _ _ hr]
  rfl

include hr room

theorem State.txTxn_eq (fresh : Bool) :
    s.txTxn r i t fresh = ((s.counting r us (airTime (s.phy r) t.octets) fresh).setTxn r i (s.stamped r t fresh)).radioTx r
      t.octets false .dataFrame us (assocForm 7 true 0 i (s.stamped r t fresh).fcnt (t.payload (s.assoc r i).sess)) := by
  unfold State.txTxn
  dsimp only
  rw [State.placed_go _ room]
  cases fresh with
  | false => rfl
  | true =>
    have fcnt := s.nextFcnt_radio us (us + airTime (s.phy r) t.octets) hr
    simp only [if_true, fcnt]
    rfl

theorem State.txTxn_sent (fresh : Bool) : (s.txTxn r i t fresh).sent .dataFrame
    ((r : Int) :: us :: assocForm 7 true 0 i (s.stamped r t fresh).fcnt (t.payload (s.assoc r i).sess)) := by
  rw [State.txTxn_eq hr room]
  exact State.radioTx_sent ..

theorem State.txTxn_txn (fresh : Bool) (hx : (s.assoc r i).txn q = some x) (ht : t.seq = q) :
    ((s.txTxn r i t fresh).assoc r i).txn q = some (s.stamped r t fresh) := by
  rw [State.txTxn_eq hr room, State.radioTx_assoc]
  refine State.setTxn_txn (x := x) (by simpa using hr) ?_ ?_
  · rw [State.counting_assoc]
    exact hx
  · unfold State.stamped
    split <;> exact ht

/-- The airtime of the frame is counted. -/
theorem State.txTxn_air (fresh : Bool) : (s.txTxn r i t fresh).net ≠ s.net := by
  intro same
  have air := congrArg (fun n => (n.radios.getD r {}).air.length) same
  have len : r < ((s.counting r us (airTime (s.phy r) t.octets) fresh).setTxn r i (s.stamped r t fresh)).net.radios.length := by
    simpa [State.setTxn] using hr
  have counted : (((s.counting r us (airTime (s.phy r) t.octets) fresh).setTxn r i (s.stamped r t fresh)).radio r).air = (s.radio r).air := by
    have one : ∀ u : State, r < u.net.radios.length → ∀ y, ((u.setTxn r i y).radio r).air = (u.radio r).air := fun u hu y => by
      rw [State.setTxn, State.modAssoc, State.setAssoc, State.radio_modRadio _ _ hu]
    rw [one _ (by simpa using hr)]
    unfold State.counting
    split
    · rw [State.radio_modRadio _ _ (by simpa using hr), State.takeTime, State.radio_modRadio _ _ hr]
      unfold Radio.nextFcnt
      split <;> rfl
    · rw [State.takeTime, State.radio_modRadio _ _ hr]
  have after : ((s.txTxn r i t fresh).net.radios.getD r {}).air.length = (s.radio r).air.length + 1 := by
    show ((s.txTxn r i t fresh).radio r).air.length = _
    rw [State.txTxn_eq hr room, State.radioTx_radio _ _ _ _ _ _ len, ← counted, List.length_append]
    rfl
  have before : (s.net.radios.getD r {}).air.length = (s.radio r).air.length := rfl
  omega

theorem within_txTxn (fresh : Bool) : Within [.net, .out, .held] s (s.txTxn r i t fresh) := by
  rw [State.txTxn_eq hr room]
  have count : Within [.net] s (s.counting r us (airTime (s.phy r) t.octets) fresh) := by
    unfold State.counting
    split
    · exact (within_modRadio ..).trans (within_modRadio ..)
    · exact within_modRadio ..
  unfold State.radioTx
  exact (((count.trans (within_modAssoc ..)).trans (within_modRadio ..)).mono (by decide)).trans (within_emitAt _ _ _ _ (by decide))

end Placed

/-! ### New frames -/

/-- A change of a radio that leaves a part of every radio. -/
theorem State.radio_keeps {α : Type} (p : Radio → α) (s : State) (q r : Nat) {f : Radio → Radio} (hf : ∀ x, p (f x) = p x) :
    p ((s.modRadio q f).radio r) = p (s.radio r) := by
  by_cases e : r = q
  · subst e
    by_cases h : r < s.net.radios.length
    · rw [State.radio_modRadio _ _ h, hf]
    · simp [State.radio, State.modRadio, State.setRadio, setAt_eq_set, h]
  · rw [State.modRadio, State.radio_setRadio_ne _ _ e]

theorem Radio.nextFcnt_of_fcnt {x y : Radio} (h : x.fcnt = y.fcnt) : x.nextFcnt.fcnt = y.nextFcnt.fcnt := by
  unfold Radio.nextFcnt
  rw [h]
  split <;> rfl

theorem State.sendNew_sent (s : State) {r : Nat} (us typ : Nat) (ack : Bool) (kind index : Nat) (payload : List Nat)
    (hr : r < s.net.radios.length) : (s.sendNew r us typ ack kind index payload).sent .dataFrame
      ((r : Int) :: us :: assocForm typ ack kind index (s.radio r).nextFcnt.fcnt payload) := by
  have sent := State.radioTx_sent (s.modRadio r Radio.nextFcnt) r (14 + payload.length) false .dataFrame us
    (assocForm typ ack kind index ((s.modRadio r Radio.nextFcnt).radio r).fcnt payload)
  rw [State.radio_modRadio _ _ hr] at sent
  unfold State.sendNew
  dsimp only
  rw [State.radio_modRadio _ _ hr]
  exact sent

theorem State.sendNew_assoc (s : State) (r us typ : Nat) (ack : Bool) (kind index : Nat) (payload : List Nat) (q j : Nat) :
    (s.sendNew r us typ ack kind index payload).assoc q j = s.assoc q j :=
  (State.radioTx_assoc ..).trans (s.assoc_modRadio r (f := Radio.nextFcnt) (fun x => by unfold Radio.nextFcnt; split <;> rfl) q j)

theorem State.takeTime_fcnt (s : State) (r a b : Nat) : ((s.takeTime r a b).radio r).fcnt = (s.radio r).fcnt :=
  State.radio_keeps Radio.fcnt s r r (f := fun x => { x with busy := x.busy ++ [(a, b)] }) fun _ => rfl

/-- A frame sent once an association and its radio have been noted. -/
theorem State.noted_sent (s : State) {r i us typ kind index : Nat} {a : Assoc} {g : Radio → Radio} {ack : Bool} {payload : List Nat} {x : Radio}
    (hr : r < s.net.radios.length) (hx : (s.radio r).fcnt = x.fcnt) (hf : ∀ x, (g x).fcnt = x.fcnt) :
    (((s.setAssoc r i a).modRadio r g).sendNew r us typ ack kind index payload).sent .dataFrame
      ((r : Int) :: us :: assocForm typ ack kind index x.nextFcnt.fcnt payload) := by
  have fcnt : (((s.setAssoc r i a).modRadio r g).radio r).nextFcnt.fcnt = x.nextFcnt.fcnt :=
    Radio.nextFcnt_of_fcnt ((State.radio_keeps Radio.fcnt _ r r hf).trans
      ((State.radio_keeps Radio.fcnt s r r (f := fun x => { x with assocs := SMap.insert x.assocs i a }) fun _ => rfl).trans hx))
  rw [← fcnt]
  exact State.sendNew_sent _ _ _ _ _ _ _ (by simpa using hr)

theorem State.noted_assoc (s : State) {r i us typ kind index : Nat} {a : Assoc} {g : Radio → Radio} {ack : Bool} {payload : List Nat}
    (hr : r < s.net.radios.length) (ha : ∀ x, (g x).assocs = x.assocs) :
    (((s.setAssoc r i a).modRadio r g).sendNew r us typ ack kind index payload).assoc r i = a := by
  rw [State.sendNew_assoc, State.assoc_modRadio _ _ ha, State.assoc_setAssoc _ _ _ hr]

/-! ### The data region (R289, R297) -/

/-- A command of the data region that its radio serves. -/
theorem dataTx_acts {s : State} {r : Nat} {d : DataTx} {f : State → State} (slot : s.hasSlot r)
    (hf : s.begin.dataTx r d = s.begin.inSlot r f) : ∃ t, exec (.dataRegionTx r d) s = .next t ∧ Within firedParts (f s.begin) t :=
  State.inSlot_acts (g := fun s => s.dataTx r d) slot hf

theorem dataTx_txn (s : State) (r i q us : Nat) (x : Txn) (a : Assoc) (slot : s.hasSlot r) (on : s.radioOn r = true) (ha : a = s.assoc r i)
    (st : a.st = 2) (room : s.freeFrom r s.usNow (airTime (s.phy r) x.octets) (s.hearsBy a) = some us) (hx : a.txn q = some x)
    (new : x.firstAt = none) (few : countP (fun y => y.firstAt.isSome) a.txns < 4)
    (time : x.op = 0x1A → ∃ f, (s.campaign r).frame = some f ∧ s.num + s.get F.LGT_LEAD_FRAMES + 100 ≤ f) (sheds : s.sheds r x.rank = false) :
    ∃ t, exec (.dataRegionTx r (.txn i q)) s = .next t ∧
      (t.assoc r i).txn q = some { x with
        firstAt := some (s.radio r).e, lastAt := (s.radio r).e, fcnt := (s.radio r).nextFcnt.fcnt } ∧
      t.sent .dataFrame ((r : Int) :: us :: assocForm 7 true 0 i (s.radio r).nextFcnt.fcnt (leBytes 2 a.sess ++ leBytes 2 x.seq ++
        [x.op % 64] ++ x.bodyOctets)) := by
  subst ha
  have len : r < s.begin.net.radios.length := slot.radio
  have on' : ¬((!s.begin.radioOn r) = true) := by
    have on : s.begin.radioOn r = true := on
    simp [on]
  obtain ⟨t, run, w⟩ := dataTx_acts slot (d := .txn i q) (if_neg on')
  let y : Txn := { x with firstAt := some (s.radio r).e, lastAt := (s.radio r).e }
  have hx : (s.begin.assoc r i).txn q = some x := hx
  dsimp only at w
  rw [hx] at w
  dsimp only at w
  have few : ¬4 ≤ countP (fun t => t.firstAt.isSome) (s.begin.assoc r i).txns := not_le.2 few
  have st : (s.begin.assoc r i).st = 2 := st
  rw [if_neg ?go, State.unlessShed_go _ (show s.begin.sheds r x.rank = false from sheds)] at w
  case go =>
    simp only [new, st, few, Option.isSome_none, ne_eq, not_true_eq_false, decide_false, Bool.or_self, Bool.false_or, Bool.and_eq_true,
      decide_eq_true_eq]
    rintro ⟨op, late⟩
    obtain ⟨f, hf, room⟩ := time op
    rw [show (s.begin.campaign r).frame = some f from hf] at late
    exact absurd (of_decide_eq_true late) (not_lt.2 room)
  have room : s.begin.freeFrom r s.begin.usNow (airTime (s.begin.phy r) y.octets) (s.begin.hearsBy (s.begin.assoc r i)) = some us := room
  refine ⟨t, run, ?_, w.sent (State.txTxn_sent len room true)⟩
  rw [State.assoc_of_net w.net]
  exact State.txTxn_txn len room true hx (show x.seq = q from Assoc.txn_seq hx)

theorem grantTx_granted (s : State) (r i start us : Nat) (a : Assoc) (slot : s.hasSlot r) (on : s.radioOn r = true) (ha : a = s.assoc r i)
    (st : a.st = 2) (awake : a.sleeper = false) (near : start < 8192) (sheds : s.sheds r 3 = false) :
    (s.grantDue r i = true → s.freeFrom r s.usNow (airTime (s.phy r) 18) (2 * start) = some us →
      (s.takeTime r us (us + airTime (s.phy r) 18)).grantFits r start = true →
      ∃ t, exec (.dataRegionTx r (.grant i start)) s = .next t ∧ (t.assoc r i).pendingUp = false ∧
        t.sent .dataFrame ((r : Int) :: us :: assocForm 6 false 2 0 (s.radio r).nextFcnt.fcnt (1 :: leBytes 3 (8192 * i + start)))) ∧
    (s.grantDue r i = false → ∃ t, exec (.dataRegionTx r (.grant i start)) s = .next t ∧ t.net = s.net) := by
  subst ha
  have len : r < s.begin.net.radios.length := slot.radio
  have on' : ¬((!s.begin.radioOn r) = true) := by
    have on : s.begin.radioOn r = true := on
    simp [on]
  have st : (s.begin.assoc r i).st = 2 := st
  have awake : (s.begin.assoc r i).sleeper = false := awake
  have near : ¬8192 ≤ start := not_le.2 near
  obtain ⟨t, run, w⟩ := dataTx_acts slot (d := .grant i start) (if_neg on')
  constructor
  · intro due room fits
    have due : s.begin.grantDue r i = true := due
    have go : ¬((decide ((s.begin.assoc r i).st ≠ 2) || (s.begin.assoc r i).sleeper || decide (8192 ≤ start) || !s.begin.grantDue r i) = true) := by
      simp [st, awake, near, due]
    have fits : ¬((!(s.begin.takeTime r us (us + airTime (s.begin.phy r) 18)).grantFits r start) = true) := by
      have fits : (s.begin.takeTime r us (us + airTime (s.begin.phy r) 18)).grantFits r start = true := fits
      simp [fits]
    dsimp only at w
    unfold State.grantTx at w
    dsimp only at w
    rw [if_neg go, State.unlessShed_go _ (show s.begin.sheds r 3 = false from sheds),
      State.placed_go _ (show s.begin.freeFrom r s.begin.usNow (airTime (s.begin.phy r) 18) (2 * start) = some us from room), if_neg fits] at w
    refine ⟨t, run, ?_, w.sent ?_⟩
    · rw [State.assoc_of_net w.net, State.noted_assoc _ (by simpa using len) ?_]
      exact fun _ => rfl
    · refine State.noted_sent _ (by simpa using len) ((State.takeTime_fcnt ..).trans (State.takeTime_fcnt ..)) ?_
      exact fun _ => rfl
  · intro idle
    refine ⟨t, run, ?_⟩
    dsimp only at w
    rw [w.net]
    have stop : (decide ((s.begin.assoc r i).st ≠ 2) || (s.begin.assoc r i).sleeper || decide (8192 ≤ start) || !s.begin.grantDue r i) = true := by
      have idle : s.begin.grantDue r i = false := idle
      simp [idle]
    exact (congrArg State.net (show s.begin.grantTx r i start = s.begin from if_pos stop) :)

/-! ### Campaigns (R301, R302) -/

theorem State.freeSession_net (s : State) (c : Nat) : (s.freeSession c).net = s.net := by
  unfold State.freeSession
  split
  · rfl
  · split <;> rfl

theorem State.setCampaign_self (s : State) (r : Nat) (c : Campaign) : (s.setCampaign r c).campaign r = c := by
  unfold State.campaign State.setCampaign
  exact SMap.getD_insert_self ..

theorem within_setCampaign (s : State) (r : Nat) (c : Campaign) : Within [.net, .regs, .wild] s (s.setCampaign r c) := by
  unfold State.setCampaign
  dsimp only
  exact (Within.put_wild_iff (by decide) (by decide)).2 ((Within.put_wild_iff (by decide) (by decide)).2
    (within_modNet _ _ (by decide)))

theorem dataTx_block (s : State) (r us k : Nat) (l data : List Nat) (slot : s.hasSlot r) (on : s.radioOn r = true)
    (st : (s.campaign r).st = 1) (todo : (s.campaign r).todo = k :: l) (more : l ≠ []) (ready : s.campaignWaits r 0x18 = false)
    (sheds : s.sheds r 1 = false) (hdata : data = ((s.campaign r).image.drop (k * blockSize r)).take (blockSize r))
    (room : s.freeFrom r s.usNow (airTime (s.phy r) (20 + data.length)) 9850 = some us) :
    ∃ t, exec (.dataRegionTx r .block) s = .next t ∧ (t.campaign r).todo = l ∧ (t.campaign r).st = 1 ∧
      t.sent .dataFrame ((r : Int) :: us :: assocForm 13 false 1 1023 (s.radio r).nextFcnt.fcnt
        (leBytes 2 k ++ data ++ leBytes 4 (crc32c data))) := by
  have len : r < s.begin.net.radios.length := slot.radio
  have on' : ¬((!s.begin.radioOn r) = true) := by
    have on : s.begin.radioOn r = true := on
    simp [on]
  obtain ⟨t, run, w⟩ := dataTx_acts slot (d := .block) (if_neg on')
  have todo : (s.begin.campaign r).todo = k :: l := todo
  have go : ¬((decide ((s.begin.campaign r).st ≠ 1) || s.begin.campaignWaits r 0x18) = true) := by
    have st : (s.begin.campaign r).st = 1 := st
    have ready : s.begin.campaignWaits r 0x18 = false := ready
    simp [st, ready]
  dsimp only at w
  rw [todo] at w
  dsimp only at w
  have hdata : List.take (blockSize r) (List.drop (k * blockSize r) (s.begin.campaign r).image) = data := hdata.symm
  rw [if_neg go, State.unlessShed_go _ (show s.begin.sheds r 1 = false from sheds), hdata,
    State.placed_go _ (show s.begin.freeFrom r s.begin.usNow (airTime (s.begin.phy r) (20 + data.length)) 9850 = some us from room),
    if_neg more] at w
  have campaign : t.campaign r = { s.campaign r with todo := l } := by
    rw [State.campaign, w.net]
    exact State.setCampaign_self ..
  have sent := (State.sendNew_sent (s.begin.takeTime r us (us + airTime (s.begin.phy r) (20 + data.length))) us 13 false 1 1023
    (leBytes 2 k ++ data ++ leBytes 4 (crc32c data)) (by simpa using len))
  rw [Radio.nextFcnt_of_fcnt (State.takeTime_fcnt ..)] at sent
  exact ⟨t, run, congrArg Campaign.todo campaign, (congrArg Campaign.st campaign).trans st, w.sent ((within_setCampaign ..).sent sent)⟩

theorem campaignActivation_idle (s : State) (r : Nat) (st : (s.campaign r).st ≠ 3) : s.idle (.campaignActivation r) := by
  refine State.idle_of (f := fun s => s.campaignActivate r) rfl ?_
  have st : (s.begin.campaign r).st ≠ 3 := st
  unfold State.campaignActivate
  dsimp only
  split
  · rfl
  · exact if_pos (by simp [st])

theorem campaignActivation_ends (s : State) (r f : Nat) (frame : (s.campaign r).frame = some f) (st : (s.campaign r).st = 3)
    (due : f ≤ s.num) : ∃ t, exec (.campaignActivation r) s = .next t ∧ (t.campaign r).st = 4 ∧ (t.campaign r).image = [] := by
  have ends : ∀ (u : State) (v : Nat), ((u.campaignEnd r v).campaign r).st = 4 ∧ ((u.campaignEnd r v).campaign r).image = [] := fun u v => by
    unfold State.campaignEnd
    dsimp only
    rw [State.campaign, State.finish_net, State.freeSession_net, State.put_net]
    refine (fun c (h : c = _) => h ▸ ⟨rfl, rfl⟩ : ∀ c : Campaign, c = _ → c.st = 4 ∧ c.image = []) _ (u.setCampaign_self r _)
  have go : ¬((decide ((s.begin.campaign r).st ≠ 3) || decide (s.begin.num < f)) = true) := by
    have st : (s.begin.campaign r).st = 3 := st
    have due : ¬s.begin.num < f := not_lt.2 due
    simp [st, due]
  obtain ⟨u, eq⟩ : ∃ u : State, s.begin.campaignActivate r = u.campaignEnd r St.done := by
    unfold State.campaignActivate
    dsimp only
    rw [show (s.begin.campaign r).frame = some f from frame]
    exact ⟨_, if_neg go⟩
  exact ⟨_, congrArg (fun u => Host.Outcome.next (s.after u)) eq, ends ..⟩

theorem Fld.at_key (f : Fld) (i : Nat) : (f.at i).key = (f.addr + i * f.s1) * 32 + f.lo := by
  simp [Fld.at, Fld.at2, Fld.key]

theorem within_inc {D : List Part} (s : State) {f : Fld} (hr : .regs ∈ D) (hf : f.part ∈ D) : Within D s (s.inc f) :=
  within_put s _ hr hf

theorem radioCounter_part {f : Fld} (r : Nat) (hr : r < 6) (hlo : f.lo < 32) (ha : f.addr = 0x8003C) (h1 : f.s1 = 256) :
    (f.at r).part = .block 8 := by
  refine f.part_at r hlo (by rw [ha, h1]; omega) ?_
  rw [ha, h1]
  interval_cases r <;> decide

/-- What the answers of a campaign change: it, the requests of its members, and its registers. -/
structure CampaignStep (s t : State) : Prop where
  rest : Within [.net, .regs, .wild] s t
  timeouts : t.get F.NET_CNT0_TIMEOUTS = s.get F.NET_CNT0_TIMEOUTS

theorem CampaignStep.refl (s : State) : CampaignStep s s := ⟨.refl .., rfl⟩

theorem CampaignStep.trans {s t u : State} (h : CampaignStep s t) (h' : CampaignStep t u) : CampaignStep s u :=
  ⟨h.rest.trans h'.rest, h'.timeouts.trans h.timeouts⟩

theorem CampaignStep.of_net {s t : State} (h : Within [.net] s t) : CampaignStep s t := ⟨h.mono (by decide), h.get⟩

theorem CampaignStep.set (s : State) (r : Nat) (c : Campaign) : CampaignStep s (s.setCampaign r c) := by
  refine ⟨within_setCampaign .., ?_⟩
  unfold State.setCampaign
  dsimp only
  rw [State.get_put_ne _ _ _ _ ?_, State.get_put_ne _ _ _ _ ?_]
  · rfl
  · rw [Fld.at_key]
    simp only [Fld.key, F.NET_CNT0_TIMEOUTS, F.NET_UPD_STATE]
    omega
  · rw [Fld.at_key]
    simp only [Fld.key, F.NET_CNT0_TIMEOUTS, F.NET_UPD_MEMBERS]
    omega

theorem within_foldl {α : Type} {D : List Part} {f : State → α → State} (h : ∀ s a, Within D s (f s a)) (l : List α) (s : State) :
    Within D s (l.foldl f s) := by
  induction l generalizing s with
  | nil => exact .refl ..
  | cons a l ih => exact (h s a).trans (ih _)

theorem within_campaignAll (s : State) (r : Nat) (c : Campaign) (op : Nat) (bodies : List (List Nat)) :
    Within [.net] s (s.campaignAll r c op bodies) := by
  refine within_foldl (fun s m => ?_) _ _
  split
  · exact .refl ..
  · exact within_foldl (fun s b => within_request ..) _ _

theorem campaignNext_step (s : State) (r : Nat) : CampaignStep s (s.campaignNext r) := by
  unfold State.campaignNext
  dsimp only
  split
  · exact .refl _
  · split
    · exact .set ..
    · exact (CampaignStep.set ..).trans (.of_net (within_campaignAll ..))

theorem campaignAnswer_step (s : State) (r i : Nat) (t : Txn) (st : Option Nat) (body : List Nat) :
    CampaignStep s (s.campaignAnswer r i t st body) := by
  unfold State.campaignAnswer
  dsimp only
  split
  · exact .refl _
  · split
    · exact (CampaignStep.set ..).trans (campaignNext_step ..)
    · split
      · exact .set ..
      · exact .refl _

/-! ### Repeats and the end of a request (R290, R293, R296) -/

theorem seriesEnd_net (s : State) (r : Nat) (x : Txn) : (s.seriesEnd r x).net = s.net := by
  unfold State.seriesEnd
  split <;> rfl

theorem macRepeat_frame (s : State) (r i q us : Nat) (x : Txn) (e0 : Nat) (slot : s.hasSlot r) (on : s.radioOn r = true)
    (hx : (s.assoc r i).txn q = some x) (first : x.firstAt = some e0) (live : s.txnExpired r x = false)
    (room : s.freeFrom r s.usNow (airTime (s.phy r) x.octets) (s.hearsBy (s.assoc r i)) = some us) (open_ : x.acked = false)
    (few : x.repeats < s.get F.NET_MAC_RETRIES) (spaced : s.get F.NET_MAC_SPACING ≤ s.eSince r x.lastAt) (sheds : s.sheds r x.rank = false) :
    ∃ t, exec (.macRepeat r i q) s = .next t ∧
      (t.assoc r i).txn q = some { x with repeats := x.repeats + 1, lastAt := (s.radio r).e } ∧
      t.sent .dataFrame ((r : Int) :: us :: assocForm 7 true 0 i x.fcnt (x.payload (s.assoc r i).sess)) ∧
      t.get (F.RAD_CNT2_RETRIES.at r) = min 65535 (s.get (F.RAD_CNT2_RETRIES.at r) + 1) := by
  have len : r < s.begin.net.radios.length := slot.radio
  have eq : s.begin.macRepeat r i q = s.begin.inSlot r fun s => s.unlessShed r x.rank fun s =>
      let u := s.txTxn r i { x with repeats := x.repeats + 1, lastAt := (s.radio r).e } false
      if u.net = s.net then s else u.inc (F.RAD_CNT2_RETRIES.at r) := by
    unfold State.macRepeat
    rw [show (s.begin.assoc r i).txn q = some x from hx]
    refine if_neg ?_
    have on : s.begin.radioOn r = true := on
    have few : decide (s.begin.get F.NET_MAC_RETRIES ≤ x.repeats) = false := decide_eq_false (not_le.2 few)
    have live : s.begin.txnExpired r x = false := live
    have spaced : decide (s.begin.eSince r x.lastAt < s.begin.get F.NET_MAC_SPACING) = false := decide_eq_false (not_lt.2 spaced)
    simp only [on, first, open_, few, live, spaced, Option.isNone_some]
    decide
  obtain ⟨t, run, w⟩ := State.inSlot_acts (g := fun s => s.macRepeat r i q) slot eq
  let y : Txn := { x with repeats := x.repeats + 1, lastAt := (s.radio r).e }
  have room : s.begin.freeFrom r s.begin.usNow (airTime (s.begin.phy r) y.octets) (s.begin.hearsBy (s.begin.assoc r i)) = some us := room
  rw [State.unlessShed_go _ (show s.begin.sheds r x.rank = false from sheds)] at w
  dsimp only at w
  have counted : (s.begin.txTxn r i y false).net ≠ s.begin.net := State.txTxn_air len room false
  rw [show ({ x with repeats := x.repeats + 1, lastAt := (s.begin.radio r).e } : Txn) = y from rfl, if_neg counted] at w
  have kept : (s.begin.txTxn r i y false).get (F.RAD_CNT2_RETRIES.at r) = s.get (F.RAD_CNT2_RETRIES.at r) :=
    (within_txTxn len room false).get (by rw [radioCounter_part r slot.1 (by decide) rfl rfl]; decide)
  refine ⟨t, run, ?_, ?_, ?_⟩
  · rw [State.assoc_of_net w.net]
    exact State.txTxn_txn len room false (show (s.begin.assoc r i).txn q = some x from hx) (show x.seq = q from Assoc.txn_seq hx)
  · exact w.sent ((within_put_wild (D := [.regs, .wild]) _ _ _ (by decide) (by decide)).sent (State.txTxn_sent len room false))
  · rw [w.get (by rw [radioCounter_part r slot.1 (by decide) rfl rfl]; decide), State.get_inc_word _ rfl rfl, kept]

theorem txnResend_frame (s : State) (r i q us : Nat) (x : Txn) (e0 : Nat) (slot : s.hasSlot r) (on : s.radioOn r = true)
    (hx : (s.assoc r i).txn q = some x) (first : x.firstAt = some e0) (live : s.txnExpired r x = false)
    (room : s.freeFrom r s.usNow (airTime (s.phy r) x.octets) (s.hearsBy (s.assoc r i)) = some us)
    (done : x.acked = true ∨ s.get F.NET_MAC_RETRIES ≤ x.repeats) (due : s.get F.NET_TXN_RESEND ≤ s.eSince r x.lastAt)
    (sheds : s.sheds r x.rank = false) :
    ∃ t, exec (.txnResend r i q) s = .next t ∧ (t.assoc r i).txn q = some { x with
      repeats := 0, acked := false, lastAt := (s.radio r).e, fcnt := (s.radio r).nextFcnt.fcnt } := by
  have len : r < s.begin.net.radios.length := slot.radio
  have eq : s.begin.txnResend r i q = s.begin.inSlot r fun s => s.unlessShed r x.rank fun s =>
      let u := s.txTxn r i { x with repeats := 0, acked := false, lastAt := (s.radio r).e } true
      if u.net = s.net then s else u.seriesEnd r x := by
    unfold State.txnResend
    rw [show (s.begin.assoc r i).txn q = some x from hx]
    refine if_neg ?_
    have on : s.begin.radioOn r = true := on
    have live : s.begin.txnExpired r x = false := live
    have due : decide (s.begin.eSince r x.lastAt < s.begin.get F.NET_TXN_RESEND) = false := decide_eq_false (not_lt.2 due)
    have done : x.acked = true ∨ decide (s.begin.get F.NET_MAC_RETRIES ≤ x.repeats) = true := done.imp_right decide_eq_true
    rcases done with h | h <;> simp only [on, first, live, due, h, Option.isNone_some, Bool.or_true, Bool.true_or] <;> decide
  obtain ⟨t, run, w⟩ := State.inSlot_acts (g := fun s => s.txnResend r i q) slot eq
  let y : Txn := { x with repeats := 0, acked := false, lastAt := (s.radio r).e }
  have room : s.begin.freeFrom r s.begin.usNow (airTime (s.begin.phy r) y.octets) (s.begin.hearsBy (s.begin.assoc r i)) = some us := room
  rw [State.unlessShed_go _ (show s.begin.sheds r x.rank = false from sheds)] at w
  dsimp only at w
  have counted : (s.begin.txTxn r i y true).net ≠ s.begin.net := State.txTxn_air len room true
  rw [show ({ x with repeats := 0, acked := false, lastAt := (s.begin.radio r).e } : Txn) = y from rfl, if_neg counted] at w
  refine ⟨t, run, ?_⟩
  rw [State.assoc_of_net (w.net.trans (seriesEnd_net ..))]
  exact State.txTxn_txn len room true (show (s.begin.assoc r i).txn q = some x from hx) (show x.seq = q from Assoc.txn_seq hx)

theorem txnTimeout_ends (s : State) (r i q : Nat) (x : Txn) (slot : s.hasSlot r) (hx : (s.assoc r i).txn q = some x)
    (late : s.txnExpired r x = true) (waits : s.awaits x.by_) :
    ∃ t, exec (.txnTimeout r i q) s = .next t ∧ t.ended x.by_ St.timeout [] ∧
      t.get F.NET_CNT0_TIMEOUTS = min 65535 (s.get F.NET_CNT0_TIMEOUTS + 1) := by
  have hx : (s.begin.assoc r i).txn q = some x := hx
  have go : ¬((!s.begin.txnExpired r x) = true) := by
    have late : s.begin.txnExpired r x = true := late
    simp [late]
  have eq : s.begin.txnTimeout r i q = ((((s.begin.seriesEnd r x).dropTxn r i q).inc F.NET_CNT0_TIMEOUTS).campaignAnswer r i x none []).finish
      x.by_ St.timeout [] := by
    unfold State.txnTimeout
    rw [hx]
    exact if_neg go
  have series : Within [.regs, .block 8] s.begin (s.begin.seriesEnd r x) := by
    unfold State.seriesEnd
    split
    · exact .refl ..
    · exact within_inc _ (by decide) (by rw [radioCounter_part r slot.1 (by decide) rfl rfl]; decide)
  have drop : Within [.net] (s.begin.seriesEnd r x) ((s.begin.seriesEnd r x).dropTxn r i q) := within_modAssoc ..
  have step := campaignAnswer_step (((s.begin.seriesEnd r x).dropTxn r i q).inc F.NET_CNT0_TIMEOUTS) r i x none []
  have before : Within [.regs, .block 8, .block 7, .net] s.begin (((s.begin.seriesEnd r x).dropTxn r i q).inc F.NET_CNT0_TIMEOUTS) :=
    ((series.mono (by decide)).trans (drop.mono (by decide))).trans (within_inc _ (by decide) (by decide))
  have waits : s.begin.awaits x.by_ := waits
  refine ⟨_, congrArg (fun u => Host.Outcome.next (s.after u)) eq, ?_, ?_⟩
  · exact (State.after_ended ..).2 (State.finish_ended _ _ (step.rest.awaits (before.awaits waits)))
  · show (State.finish ..).get _ = _
    rw [State.finish_get _ _ _ _ _ (by decide), step.timeouts, State.get_inc_word _ rfl rfl, drop.get, series.get]
    rfl

/-- Settles O35: each command's frame, counter and end, by the radio's slot and by what a campaign's answers change. -/
theorem requestsAreRepeatedUntilTheyEnd : Obligations.RequestsAreRepeatedUntilTheyEnd := by
  unfold Obligations.RequestsAreRepeatedUntilTheyEnd
  refine ⟨dataTx_txn, grantTx_granted, dataTx_block, ?_, fun s r i q x slot hx late waits _ => txnTimeout_ends s r i q x slot hx late waits,
    campaignActivation_ends, campaignActivation_idle⟩
  intro s r i q x e0 slot on hx first live
  refine ⟨fun us room open_ few spaced sheds => macRepeat_frame s r i q us x e0 slot on hx first live room open_ few spaced sheds,
    fun done => ?_, fun us room done due sheds => txnResend_frame s r i q us x e0 slot on hx first live room done due sheds,
    fun early => ?_, ?_⟩
  · refine State.idle_of (f := fun s => s.macRepeat r i q) rfl ?_
    have hx : (s.begin.assoc r i).txn q = some x := hx
    have done : x.acked = true ∨ decide (s.begin.get F.NET_MAC_RETRIES ≤ x.repeats) = true := done.imp_right decide_eq_true
    unfold State.macRepeat
    rw [hx]
    exact if_pos (by rcases done with h | h <;> simp only [h, Bool.or_true, Bool.true_or])
  · refine State.idle_of (f := fun s => s.txnResend r i q) rfl ?_
    have hx : (s.begin.assoc r i).txn q = some x := hx
    have early : decide (s.begin.eSince r x.lastAt < s.begin.get F.NET_TXN_RESEND) = true := decide_eq_true early
    unfold State.txnResend
    rw [hx]
    exact if_pos (by simp only [early, Bool.or_true])
  · refine State.idle_of (f := fun s => s.txnTimeout r i q) rfl ?_
    have hx : (s.begin.assoc r i).txn q = some x := hx
    have live : s.begin.txnExpired r x = false := live
    unfold State.txnTimeout
    rw [hx]
    exact if_pos (by simp [live])

end Sys2Proof.Machine

/-! ### The loop engine (O36) -/
namespace Sys2Proof.Machine

/-! ### A tick -/

/-- What every part of a tick leaves: the committed areas, the load of engine 7 and the ticks that were missed. -/
structure TickRest (s t : State) : Prop where
  areas : t.prog.areas = s.prog.areas
  load : t.get F.LOP_LOAD_L0 = s.get F.LOP_LOAD_L0
  missed : t.frame.missed = s.frame.missed

theorem TickRest.refl (s : State) : TickRest s s := ⟨rfl, rfl, rfl⟩

theorem TickRest.trans {s t u : State} (h : TickRest s t) (k : TickRest t u) : TickRest s u :=
  ⟨k.areas.trans h.areas, k.load.trans h.load, k.missed.trans h.missed⟩

theorem TickRest.of_within {D : List Part} {s t : State} (h : Within D s t) (hp : .prog ∉ D := by decide) (hf : .frame ∉ D := by decide)
    (hb : .block 10 ∉ D := by decide) (hw : .wild ∉ D := by decide) : TickRest s t :=
  ⟨h.prog_proj Prog.areas (fun _ => rfl) hp, h.get hb hw, h.frame_proj Frame.missed (fun _ => rfl) hf⟩

theorem TickRest.put (s : State) (f : Fld) (v : Nat) (h : F.LOP_LOAD_L0.key ≠ f.key) : TickRest s (s.put f v) :=
  ⟨rfl, s.get_put_ne _ _ _ h, rfl⟩

/-- A field of the loop and axis registers, whatever its index. -/
theorem TickRest.put_at (s : State) {f : Fld} (i v : Nat) (h : F.LOP_LOAD_L0.key < f.key) : TickRest s (s.put (f.at i) v) := by
  refine .put _ _ _ ?_
  have key : f.key = f.addr * 32 + f.lo := rfl
  rw [Fld.at_key]
  have := Nat.zero_le (i * f.s1)
  omega

/-- A field of the drive registers. -/
theorem TickRest.put_drive (s : State) {f : Fld} (i v : Nat) (hi : i < 32) (ha : f.addr + 32 * f.s1 < 0xA0000) (hl : f.lo < 32) :
    TickRest s (s.put (f.at i) v) := by
  refine .put _ _ _ ?_
  rw [Fld.at_key]
  have := Nat.mul_le_mul_right f.s1 hi.le
  have key : F.LOP_LOAD_L0.key = 0xA0004 * 32 := rfl
  omega

theorem TickRest.foldl {α : Type} {f : State → α → State} {l : List α} (s : State) (h : ∀ u, ∀ x ∈ l, TickRest u (f u x)) :
    TickRest s (l.foldl f s) := by
  induction l generalizing s with
  | nil => exact .refl _
  | cons x l ih => exact (h s x (List.mem_cons_self ..)).trans (ih _ fun u y hy => h u y (List.mem_cons_of_mem _ hy))

theorem TickRest.log (s : State) (sev ev : Nat) (f : Fld) (l : List Nat) : TickRest s (s.log sev ev f l) :=
  .of_within (within_log s _ _ _ _ (D := logParts) (by decide))

theorem TickRest.setLoop (s : State) (l : Nat) (x : LoopSt) : TickRest s (s.setLoop l x) := ⟨rfl, rfl, rfl⟩

theorem TickRest.setPwm (s : State) (c : Nat) (x : Pwm) : TickRest s (s.setPwm c x) := ⟨rfl, rfl, rfl⟩

theorem TickRest.setDrive (s : State) (p d : Nat) (x : Drive) : TickRest s (s.setDrive p d x) := ⟨rfl, rfl, rfl⟩

theorem TickRest.setAxis (s : State) (a : Nat) (x : Axis) : TickRest s (s.setAxis a x) := ⟨rfl, rfl, rfl⟩

theorem TickRest.modDrv (s : State) (f : DriveSt → DriveSt) : TickRest s (s.modDrv f) := ⟨rfl, rfl, rfl⟩

theorem TickRest.finishAll (s : State) (os : List Origin) (st : Nat) : TickRest s (s.finishAll os st) :=
  .of_within (within_finishAll s _ _ (D := finishParts) (by decide))

theorem TickRest.ite {c : Prop} [Decidable c] {s t u : State} (h : TickRest s t) (k : TickRest s u) : TickRest s (if c then t else u) := by
  split
  · exact h
  · exact k

theorem axisRest_rest (s : State) (a : Nat) : TickRest s (s.axisRest a) := by
  unfold State.axisRest
  extract_lets x vd slow near still y u
  clear_value still
  refine (TickRest.setAxis s a y).trans (.ite (.refl _) ?_)
  split
  · exact (TickRest.setAxis ..).trans (.finishAll ..)
  · exact (TickRest.setAxis ..).trans (.finishAll ..)
  · exact .ite (.refl _) (.setAxis ..)
  · exact .refl _

theorem axisTick_rest (s : State) (j a : Nat) : TickRest s (s.axisTick j a) := by
  unfold State.axisTick
  dsimp only
  refine .ite (.refl _) (TickRest.trans ?_ (axisRest_rest ..))
  exact (TickRest.setAxis ..).trans (.ite (.put_at _ _ _ (by decide)) (.refl _))

theorem axesCompute_rest (s : State) : TickRest s s.axesCompute := by
  unfold State.axesCompute
  split
  · exact .refl _
  · exact (TickRest.modDrv ..).trans (.foldl _ fun u a _ => axisTick_rest ..)

theorem linkTick_rest (s : State) (p : Nat) : TickRest s (s.linkTick p) := by
  unfold State.linkTick
  dsimp only
  refine .ite (.modDrv ..) ?_
  refine .trans (.trans (.trans (.foldl _ fun u d _ => ?_) (.of_within (within_emitAt (D := emitParts) _ _ _ _ (by decide)))) (.modDrv ..))
    (.foldl _ fun u d _ => .ite (.setAxis ..) (.refl _))
  refine .ite (.refl _) (.ite (.setDrive ..) ?_)
  exact (TickRest.setDrive ..).trans (.ite (.refl _) (.put_at _ _ _ (by decide)))

theorem senseSample_rest (s : State) (c code : Nat) (hc : c < 32) : TickRest s (s.senseSample c code) := by
  unfold State.senseSample
  dsimp only
  exact .ite (.refl _) ((TickRest.put_drive _ _ _ hc (by decide) (by decide)).trans (.setPwm ..))

theorem judgeLoop_rest (s : State) (l : Nat) (valid : Bool) (age : Nat) (pv : Int) : TickRest s (s.judgeLoop l valid age pv) := by
  have note : ∀ (u : State) (was now : Bool) (f : Fld), TickRest u (if was = now then u
      else if now then (u.putB (F.LOP_STATE_FAULT_SEEN.at l) true).log Sev.warning 0 f [] else u.log Sev.info 1 f []) := fun u was now f =>
    .ite (.refl _) (.ite ((TickRest.put_at _ _ _ (by decide)).trans (.log ..)) (.log ..))
  unfold State.judgeLoop
  dsimp only
  exact ((TickRest.setLoop s l _).trans (note ..)).trans (note ..)

theorem flagsOut_rest (s : State) (l : Nat) (v : Int) : TickRest s (s.flagsOut l v) := by
  unfold State.flagsOut
  dsimp only
  exact (TickRest.ite (.put_at _ _ _ (by decide)) (.refl _)).trans (.ite (.put_at _ _ _ (by decide)) (.refl _))

theorem closedSample_rest (s : State) (l : Nat) (pv ff : Int) : TickRest s (s.closedSample l pv ff) := by
  unfold State.closedSample
  dsimp only
  refine .trans (.trans (.trans ?_ (.ite (.put_at _ _ _ (by decide)) (.refl _))) (flagsOut_rest ..)) (.setLoop ..)
  exact .ite (.put_at _ _ _ (by decide)) (.refl _)

theorem sampleLoop_rest (s : State) (l : Nat) : TickRest s (s.sampleLoop l) := by
  unfold State.sampleLoop
  dsimp only
  generalize judged : State.judgeLoop _ l _ _ _ = u
  have rest : TickRest s u := judged ▸ ((TickRest.setLoop ..).trans (.put_at _ (f := F.LOP_STATE_TRACKING) _ _ (by decide))).trans
    (judgeLoop_rest ..)
  refine rest.trans ?_
  refine .ite (.setLoop ..) (.ite ?_ (.trans (.ite (.setLoop ..) (.refl _)) (closedSample_rest ..)))
  split <;> exact .setLoop ..

theorem actuate_rest (s : State) (ak ai : Nat) (v : Int) : TickRest s (s.actuate ak ai v) := by
  unfold State.actuate
  exact .ite (.setPwm ..) (.put_drive _ _ _ (by omega) (by decide) (by decide))

theorem trackLoop_rest (s : State) (ug : Int) (l : Nat) : TickRest s (s.trackLoop ug l) := by
  unfold State.trackLoop
  exact .ite ((TickRest.put_at _ _ _ (by decide)).trans (.setLoop ..)) (.refl _)

theorem groupOutput_rest (s : State) (g : List Nat) : TickRest s (s.groupOutput g) := by
  unfold State.groupOutput
  cases g with
  | nil => exact .refl _
  | cons l0 l =>
    refine .ite (.refl _) (.ite (actuate_rest ..) ?_)
    refine .trans (.trans (.foldl s fun u k _ => ?_) (.foldl _ fun u k _ => trackLoop_rest u _ k)) (actuate_rest ..)
    exact .put_at _ _ _ (by decide)

theorem dimFree_rest (s : State) : TickRest s s.dimFree :=
  .foldl _ fun u l hl => .ite (.put_drive _ (f := F.DRV_LUM_STAT_DIM) _ _ (by have := List.mem_range.1 hl; omega) (by decide) (by decide)) (.refl _)

theorem setDuty_rest (s : State) (c d : Nat) (hc : c < 32) : TickRest s (s.setDuty c d) := by
  have account : ∀ n, TickRest s (s.pwmAccount c n) := fun n => by
    unfold State.pwmAccount
    exact .ite (.ite (.refl _) (.setPwm ..)) (.setPwm ..)
  unfold State.setDuty
  dsimp only
  refine .ite (.refl _) (TickRest.trans ?_ (.of_within (within_emit (D := emitParts) _ _ _ (by decide))))
  refine .trans ?_ (.setPwm ..)
  exact (account _).trans (.put_drive _ (f := F.DRV_CH_STAT_DUTY) _ _ hc (by decide) (by decide))

theorem pwmUpdate_rest (s : State) : TickRest s s.pwmUpdate := by
  refine .foldl _ fun u c hc => ?_
  have hc : c < 32 := List.mem_range.1 hc
  refine .ite (.refl _) (.trans ?_ (.put_drive _ (f := F.DRV_CH_STAT_DIMMED) _ _ hc (by decide) (by decide)))
  refine .trans ?_ (.put_drive _ (f := F.DRV_CH_STAT_SAT) _ _ hc (by decide) (by decide))
  exact setDuty_rest _ _ _ hc

/-- The account of a tick's class leaves areas and load. -/
theorem tickOver_rest (s : State) : (s.tickOver 7).prog.areas = s.prog.areas ∧ (s.tickOver 7).get F.LOP_LOAD_L0 = s.get F.LOP_LOAD_L0 := by
  have time : TickRest s (s.onTime 7) := by
    have consec : TickRest s (s.classOnTime 7) := by
      unfold State.classOnTime
      dsimp only
      refine .trans ?_ (.put _ (F.FRM_DCLS_CONSEC_CONSEC.at 7) _ (by decide))
      exact .ite (.refl _) ((TickRest.log ..).trans ⟨rfl, rfl, rfl⟩)
    unfold State.onTime
    exact .ite (.refl _) consec
  unfold State.tickOver
  split
  · exact ⟨rfl, rfl⟩
  · exact ⟨time.areas, time.load⟩

/-- The links of a tick, with the axes of the tick before. -/
def State.tickLinks (s : State) : State := (((s.axesCompute).atNs (s.drv.tick * 125000)).linkTick 0).linkTick 1

theorem TickRest.atNs (s : State) (n : Nat) : TickRest s (s.atNs n) := ⟨rfl, rfl, rfl⟩

theorem tickLinks_rest (s : State) : TickRest s s.tickLinks :=
  (((axesCompute_rest s).trans (.atNs _ _)).trans (linkTick_rest _ 0)).trans (linkTick_rest _ 1)

/-- A tick after its links: the loads, the string samples and the loops. -/
theorem loopTick_eq (s : State) (i : TickIn) (live : s.live = true) (due : s.issued 125000 s.drv.tick = true) :
    ∃ u, s.loopTick i = u.modDrv (fun d => { d with
        tick := s.drv.tick + 1, axesDue := some (s.drv.tick, [0, 1].filter fun e => !s.tickLinks.tickMissed 7 e) }) ∧
      TickRest (((s.tickLinks.tickOver 7).put F.LOP_LOAD_L0 (min 65535 (Nat.max ((s.tickLinks.tickOver 7).get F.LOP_LOAD_L0) i.us0)))) u := by
  have go : ¬((!s.issued 125000 s.drv.tick || !s.live) = true) := by simp [live, due]
  unfold State.loopTick
  extract_lets j first links es done loads sensed cleared sampled grouped looped
  refine ⟨looped, if_neg go, ?_⟩
  have load : TickRest (done.put F.LOP_LOAD_L0 (min 65535 (Nat.max (done.get F.LOP_LOAD_L0) i.us0))) loads := .put _ _ _ (by decide)
  have sense : TickRest loads sensed := .foldl _ fun u p hp => senseSample_rest _ _ _ <| by
    have := (List.mem_filter.1 hp).2
    simp at this
    exact this.1
  refine (load.trans sense).trans (.ite (.refl _) ?_)
  have hcleared : TickRest sensed cleared := .modDrv ..
  have hsampled : TickRest cleared sampled := .foldl _ fun u l _ => sampleLoop_rest ..
  have hgrouped : TickRest sampled grouped := .ite (.refl _) (.foldl _ fun u g _ => groupOutput_rest ..)
  exact ((hcleared.trans hsampled).trans hgrouped).trans ((dimFree_rest _).trans (pwmUpdate_rest _))

theorem loopTick_moves (s : State) (i : TickIn) (live : s.live = true) (due : s.issued 125000 s.drv.tick = true) :
    ∃ t, exec (.loopTick i) s = .next t ∧ t.drv.tick = s.drv.tick + 1 ∧ t.prog.areas = s.prog.areas ∧
      t.drv.axesDue = some (s.drv.tick, [0, 1].filter fun e => !s.tickMissed 7 e) ∧
      t.get F.LOP_LOAD_L0 = min 65535 (max (s.get F.LOP_LOAD_L0) i.us0) := by
  obtain ⟨u, eq, rest⟩ := loopTick_eq s.begin i live due
  have links := tickLinks_rest s.begin
  obtain ⟨areas, load⟩ := tickOver_rest s.begin.tickLinks
  refine ⟨_, congrArg (fun u => Host.Outcome.next (s.after u)) eq, rfl, rest.areas.trans (areas.trans links.areas), ?_, ?_⟩
  · unfold State.tickMissed
    rw [links.missed]
    rfl
  · show u.get _ = _
    rw [rest.load, State.get_put_self, load, links.load]
    exact Nat.mod_eq_of_lt (by show min 65535 _ < 2 ^ 16; omega)

/-! ### A closed sample (R323) -/

theorem State.loop_setLoop (s : State) (l : Nat) (x : LoopSt) : (s.setLoop l x).loop l = x := by
  unfold State.loop State.setLoop
  exact SMap.getD_insert_self ..

/-- A flag of a loop leaves the output limits. -/
theorem State.omin_put (s : State) {f : Fld} (l v : Nat) (h : (F.LOP_OMIN_LIM.at l).key ≠ f.key) : (s.put f v).omin l = s.omin l := by
  unfold State.omin State.getI
  rw [s.get_put_ne _ _ _ h]

theorem State.omax_put (s : State) {f : Fld} (l v : Nat) (h : (F.LOP_OMAX_LIM.at l).key ≠ f.key) : (s.put f v).omax l = s.omax l := by
  unfold State.omax State.getI
  rw [s.get_put_ne _ _ _ h]

/-- Two states with the same output limits of a loop. -/
def SameLimits (l : Nat) (s t : State) : Prop := t.omin l = s.omin l ∧ t.omax l = s.omax l

theorem SameLimits.stateFlag (l : Nat) (s : State) (c : Prop) [Decidable c] {f : Fld} (b : Bool) (ha : f.addr = 0xA1048) (hs : f.s1 = 128)
    (hl : f.lo < 32) : SameLimits l s (if c then s.putB (f.at l) b else s) := by
  have key : (f.at l).key = (0xA1048 + l * 128) * 32 + f.lo := by rw [Fld.at_key, ha, hs]
  split
  · refine ⟨s.omin_put _ _ ?_, s.omax_put _ _ ?_⟩ <;> rw [key, Fld.at_key]
    · show (0xA101C + l * 128) * 32 + 0 ≠ _
      omega
    · show (0xA1020 + l * 128) * 32 + 0 ≠ _
      omega
  · exact ⟨rfl, rfl⟩

theorem SameLimits.trans {l : Nat} {s t u : State} (h : SameLimits l s t) (k : SameLimits l t u) : SameLimits l s u :=
  ⟨k.1.trans h.1, k.2.trans h.2⟩

theorem closedSample_law (s : State) (l : Nat) (pv ff e p d f sum i v : Int) (x : LoopSt) (hx : x = s.loop l) (running : x.preload = false)
    (outer : s.innerOf l = none) (he : e = (satI (x.sp - pv)).1) (hp : p = (satI (asr16 (s.getI (F.LOP_KP_K.at l) * e))).1)
    (hd : d = (satI (asr16 (s.getI (F.LOP_KD_K.at l) * (x.pvPrev - pv)))).1) (hf : f = (satI (asr16 (s.getI (F.LOP_KF_K.at l) * ff))).1)
    (hsum : sum = (satI (x.i + (satI (asr16 (s.getI (F.LOP_KI_K.at l) * e))).1)).1) (hi : i = clampI (s.imin l) (s.imax l) sum)
    (hv : v = (satI (p + i + d + f)).1) :
    ((s.closedSample l pv ff).loop l).i = i ∧ ((s.closedSample l pv ff).loop l).v = v ∧
      ((s.closedSample l pv ff).loop l).u = clampI (s.omin l) (s.omax l) v ∧ ((s.closedSample l pv ff).loop l).pvPrev = pv := by
  subst hx
  have step : ∀ old new, integralStep s l old new = new := fun old new => by
    unfold integralStep
    rw [outer]
  have limits : ∀ (a b : Prop) [Decidable a] [Decidable b] (w : Int), SameLimits l s
      (State.flagsOut (if b then State.putB (if a then s.putB (F.LOP_STATE_ASAT.at l) true else s) (F.LOP_STATE_ISAT.at l) true
        else if a then s.putB (F.LOP_STATE_ASAT.at l) true else s) l w) := fun a b _ _ w =>
    (((SameLimits.stateFlag l s a (f := F.LOP_STATE_ASAT) true rfl rfl (by decide)).trans
      (.stateFlag l _ b (f := F.LOP_STATE_ISAT) true rfl rfl (by decide))).trans
      (.stateFlag l _ _ (f := F.LOP_STATE_OSAT_HI) true rfl rfl (by decide))).trans
      (.stateFlag l _ _ (f := F.LOP_STATE_OSAT_LO) true rfl rfl (by decide))
  unfold State.closedSample
  dsimp only
  simp only [running, Bool.false_eq_true, if_false, step]
  rw [State.loop_setLoop]
  dsimp only
  rw [← he, ← hp, ← hd, ← hf, ← hsum, ← hi, ← hv]
  refine ⟨rfl, rfl, ?_, rfl⟩
  unfold clipOut
  rw [(limits ..).1, (limits ..).2]

/-! ### Services and commands of a loop (R330 to R335) -/

theorem Within.loop {D : List Part} {s t : State} (w : Within D s t) (l : Nat) (hp : .drv ∉ D := by decide) : t.loop l = s.loop l := by
  rw [State.loop, w.drv hp, ← State.loop]

theorem within_setLoop (s : State) (l : Nat) (x : LoopSt) : Within [.drv] s (s.setLoop l x) := by
  unfold State.setLoop
  exact within_modDrv _ _ (by decide)

theorem coefField_width {i : Nat} {f : Fld} (h : coefField i = some f) : f.width = 32 := by
  have all : ∀ g ∈ [F.LOP_KP_K, F.LOP_KI_K, F.LOP_KD_K, F.LOP_KF_K, F.LOP_OMIN_LIM, F.LOP_OMAX_LIM, F.LOP_IMIN_LIM, F.LOP_IMAX_LIM,
      F.LOP_FB_FB], g.width = 32 := by decide
  exact all f (List.mem_of_getElem? h)

/-- The word that a register of a loop takes whole. -/
theorem get_put_word (s : State) (f : Fld) (l : Nat) (v : Word) (h : f.width = 32) : (s.put (f.at l) v.toNat).get (f.at l) = v.toNat := by
  rw [State.get_put_self, show (f.at l).width = 32 from h]
  exact Nat.mod_eq_of_lt v.isLt

theorem loopServices (s : State) (o : Origin) (a : SvcArgs) (x : LoopSt) (hl : a.wa.toNat < 64) (hx : x = s.loop a.wa.toNat) :
    (s.canCall o 0x0A0001 → ∃ t, exec (.loopOpen o a) s = .next t ∧ t.told o St.done [] ∧
      t.loop a.wa.toNat = if x.closed then { x with closed := false, held := x.u } else x) ∧
    (s.canCall o 0x0A0002 → s.mode = .run ∨ s.mode = .hold → ∃ t, exec (.loopClose o a) s = .next t ∧ t.told o St.done [] ∧
      t.loop a.wa.toNat = if x.closed then x else { x with closed := true, preload := true, safeOpen := false }) ∧
    (s.canCall o 0x0A0002 → s.mode = .stop → ∃ t, exec (.loopClose o a) s = .next t ∧ t.told o St.mode [] ∧ t.drv = s.drv) ∧
    (∀ f, s.canCall o 0x0A0003 → coefField a.wb.toNat = some f → x.closed = false →
      ∃ t, exec (.setCoef o a) s = .next t ∧ t.told o St.done [] ∧ t.get (f.at a.wa.toNat) = (a.d.getD 0 0).toNat ∧ t.drv = s.drv) ∧
    (∀ f, s.canCall o 0x0A0003 → coefField a.wb.toNat = some f → x.closed = true →
      ∃ t, exec (.setCoef o a) s = .next t ∧ t.told o St.loopClosed [] ∧ t.regs = s.regs) ∧
    (s.canCall o 0x0A0004 → ∃ t, exec (.setSp o a) s = .next t ∧ t.told o St.done [] ∧
      t.get (F.LOP_SP_SP.at a.wa.toNat) = a.wb.toNat ∧ t.drv = s.drv) := by
  have few : ¬63 < a.wa.toNat := by omega
  have coef : ∀ f, coefField a.wb.toNat = some f → svcSetCoef s.begin o a = if (s.loop a.wa.toNat).closed then (s.begin, St.loopClosed, [])
      else (s.begin.put (f.at a.wa.toNat) (a.d.getD 0 0).toNat, St.done, []) := fun f hf => by
    unfold svcSetCoef
    dsimp only
    rw [hf]
    exact if_neg few
  refine ⟨fun may => ?_, fun may runs => ?_, fun may stops => ?_, fun f may hf open_ => ?_, fun f may hf closed => ?_, fun may => ?_⟩
  · obtain ⟨t, run, told, w⟩ := State.act_callSvc (f := svcLoopOpen) may rfl (if_neg few) (within_setLoop ..)
    refine ⟨t, run, told, ?_⟩
    rw [w.loop, hx]
    exact State.loop_setLoop ..
  · have can : ¬((!s.begin.canClose) = true) := by
      have can : s.begin.canClose = true := by rcases runs with h | h <;> simp [State.canClose, h]
      simp [can]
    obtain ⟨t, run, told, w⟩ := State.act_callSvc (f := svcLoopClose) may rfl ((if_neg can).trans (if_neg few)) (within_setLoop ..)
    refine ⟨t, run, told, ?_⟩
    rw [w.loop, hx]
    exact State.loop_setLoop ..
  · have cannot : (!s.begin.canClose) = true := by simp [State.canClose, stops]
    obtain ⟨t, run, told, w⟩ := State.act_callSvc (f := svcLoopClose) may rfl (if_pos cannot) (.refl [] _)
    exact ⟨t, run, told, w.drv⟩
  · have res := coef f hf
    rw [← hx, open_, if_neg Bool.false_ne_true] at res
    obtain ⟨t, run, told, w⟩ := State.act_callSvc may rfl res (within_put_wild (D := [.regs, .wild]) _ _ _ (by decide) (by decide))
    refine ⟨t, run, told, ?_, w.drv⟩
    rw [State.get, w.regs, ← State.get]
    exact get_put_word _ _ _ _ (coefField_width hf)
  · have res := coef f hf
    rw [← hx, closed, if_pos rfl] at res
    obtain ⟨t, run, told, w⟩ := State.act_callSvc may rfl res (.refl [] _)
    exact ⟨t, run, told, w.regs⟩
  · obtain ⟨t, run, told, w⟩ := State.act_callSvc (f := svcSetSp) may rfl (if_neg few)
      (within_put_wild (D := [.regs, .wild]) _ _ _ (by decide) (by decide))
    refine ⟨t, run, told, ?_, w.drv⟩
    rw [State.get, w.regs, ← State.get]
    exact get_put_word _ _ _ _ rfl

theorem loopCommands (s : State) (who : Requester) (l : Nat) (x : LoopSt) (may : s.mayWrite who) (hx : x = s.loop l) :
    (∃ t, exec (.lopOpen who l) s = .next t ∧ t.out = [⟨.value, [(who.key : Int), St.done]⟩] ∧
      t.loop l = if x.closed then { x with closed := false, held := x.u } else x) ∧
    (s.mode = .run ∨ s.mode = .hold → ∃ t, exec (.lopClose who l) s = .next t ∧
      t.out = [⟨.value, [(who.key : Int), St.done]⟩] ∧
      t.loop l = if x.closed then x else { x with closed := true, preload := true, safeOpen := false }) ∧
    (s.mode = .stop → ∃ t, exec (.lopClose who l) s = .next t ∧ t.out = [⟨.value, [(who.key : Int), St.mode]⟩] ∧
      { t with out := s.out } = s) := by
  have opening : ∀ {u : State} {st : Nat}, s.begin.lopCmd l 1 = (u, st) → exec (.lopOpen who l) s = .next (s.after (u.reply who st)) :=
    fun h => by
      refine congrArg (fun u => Host.Outcome.next (s.after u)) ((State.gate_open may _).trans ?_)
      rw [h]
  have closing : ∀ {u : State} {st : Nat}, s.begin.lopCmd l 2 = (u, st) → exec (.lopClose who l) s = .next (s.after (u.reply who st)) :=
    fun h => by
      refine congrArg (fun u => Host.Outcome.next (s.after u)) ((State.gate_open may _).trans ?_)
      rw [h]
  have replied : ∀ (u : State) (st : Nat), (u.reply who st).loop l = u.loop l := fun u st => by
    rw [State.loop, State.reply_drv, ← State.loop]
  have opens : s.begin.lopCmd l 1 = (s.begin.openLoop l, St.done) := rfl
  refine ⟨⟨_, opening opens, State.reply_out .., ?_⟩, fun runs => ?_, fun stops => ?_⟩
  · rw [hx]
    exact (replied _ St.done).trans (State.loop_setLoop ..)
  · have can : s.begin.canClose = true := by rcases runs with h | h <;> simp [State.canClose, h]
    have closes : s.begin.lopCmd l 2 = (s.begin.closeLoop l, St.done) := by
      unfold State.lopCmd
      rw [can]
      rfl
    refine ⟨_, closing closes, State.reply_out .., ?_⟩
    rw [hx]
    exact (replied _ St.done).trans (State.loop_setLoop ..)
  · have cannot : s.begin.canClose = false := by simp [State.canClose, stops]
    have refused : s.begin.lopCmd l 2 = (s.begin, St.mode) := by
      unfold State.lopCmd
      rw [cannot]
      rfl
    refine ⟨_, closing refused, State.reply_out .., ?_⟩
    rw [State.reply_eq]
    rfl

/-- Settles O36: what each part of a tick leaves, the law with its limits, and the loop that each service and command changes. -/
theorem loopsAreSetAndSampled : Obligations.LoopsAreSetAndSampled := by
  unfold Obligations.LoopsAreSetAndSampled
  refine ⟨loopTick_moves, fun s i h => ?_, fun s l pv ff e p d f sum i v x _ => closedSample_law s l pv ff e p d f sum i v x,
    loopServices, fun s who l x may _ hx => loopCommands s who l x may hx⟩
  refine State.idle_of (f := fun s => s.loopTick i) rfl (if_pos ?_)
  have h : s.begin.live = false ∨ s.begin.issued 125000 s.begin.drv.tick = false := h
  rcases h with h | h <;> simp only [h, Bool.not_false, Bool.or_true, Bool.true_or]

end Sys2Proof.Machine

/-! ### Hoist axes (O37) -/
namespace Sys2Proof.Machine

/-! ### A caller whom the end of another operation leaves within reach -/

/-- A context that is open. -/
def State.stands (s : State) (c : Nat) : Prop := ∃ x, s.session c = some x ∧ x.state ≠ 3

theorem State.sessionDone_stands {s : State} {d : Nat} (c q st : Nat) (body : List Nat) (h : s.stands d) : (s.sessionDone c q st body).stands d := by
  obtain ⟨x, hx, open_⟩ := h
  unfold State.sessionDone
  split
  · exact ⟨x, hx, open_⟩
  · next y hy =>
    dsimp only
    have state : (y.complete q (st :: body)).state = y.state := (y.complete_head q _).2.2.2
    by_cases e : d = c
    · subst e
      obtain rfl : y = x := Option.some.inj (hy.symm.trans hx)
      rw [if_pos (by rw [state]; exact open_)]
      exact ⟨_, (State.hostSend_session ..).trans (s.session_setSession_self ..), by rw [state]; exact open_⟩
    · split
      · exact ⟨x, (State.hostSend_session ..).trans ((s.session_setSession_ne _ e).trans hx), open_⟩
      · split
        · exact ⟨x, (SMap.get?_erase_ne _ _ _ e).trans hx, open_⟩
        · exact ⟨x, (s.session_setSession_ne _ e).trans hx, open_⟩

theorem State.stands_of_sessions {s t : State} {c : Nat} (h : t.gal.sessions = s.gal.sessions) : t.stands c ↔ s.stands c := by
  simp only [State.stands, State.session, h]

theorem State.finish_stands {s : State} {d : Nat} (o : Origin) (st : Nat) (res : List Nat) (h : s.stands d) : (s.finish o st res).stands d := by
  cases o with
  | quiet => exact h
  | host c q => exact State.sessionDone_stands _ _ _ _ h
  | program k j n => exact h
  | command a =>
    have start : ((s.cmdFinal a st).modWired fun w => { w with waitCmd := w.waitCmd.filter fun p => decide (p.1 ≠ a) }).stands d :=
      (State.stands_of_sessions (by unfold State.cmdFinal State.modWired; split <;> rfl)).2 h
    unfold State.finish
    dsimp only
    generalize List.filter (fun p : Nat × Nat × Nat => decide (p.1 = a)) _ = l
    generalize State.modWired _ _ = u at start ⊢
    induction l generalizing u with
    | nil => exact start
    | cons p l ih => exact ih _ (State.sessionDone_stands _ _ _ _ start)

theorem State.sect_modSect_ne (s : State) {k i : Nat} (g : Sect → Sect) (h : i ≠ k) : (s.modSect k g).sect i = s.sect i := by
  simp [State.sect, State.modSect, setAt_eq_set, List.getD_eq_getElem?_getD, h.symm]

theorem State.finish_command_prog (s : State) (a st : Nat) (res : List Nat) : (s.finish (.command a) st res).prog = s.prog := by
  unfold State.finish
  dsimp only
  refine (foldl_keeps State.prog _ (fun u p => State.sessionDone_prog ..) _ _).trans ?_
  unfold State.cmdFinal State.modWired
  split <;> rfl

/-- The end of another operation leaves the slot of a call. -/
theorem State.finish_ticket (s : State) (o : Origin) (st : Nat) (res : List Nat) {k j n : Nat} (hk : k < s.prog.sects.length)
    (hn : (s.ticket k j).serial = n) (ne : o ≠ .program k j n) : (s.finish o st res).ticket k j = s.ticket k j := by
  cases o with
  | quiet => rfl
  | command a => rw [State.ticket, State.sect, s.finish_command_prog]; rfl
  | host c q => rw [State.ticket, State.sect, State.finish, State.sessionDone_prog]; rfl
  | program k' j' n' =>
    rw [State.finish_program]
    by_cases hk' : k = k'
    · subst hk'
      by_cases hj : j = j'
      · subst hj
        rw [State.ticket_modSlot _ _ _ hk]
        have other : (s.ticket k j).serial ≠ n' := by
          rintro rfl
          exact ne (by rw [hn])
        unfold Slot.ended
        rw [if_neg (by simp [other])]
      · exact s.ticket_modSlot_ne _ hk hj
    · rw [State.ticket, s.sect_modSect_ne _ hk']
      rfl

/-- A caller that an answer will still reach when other operations end. -/
def State.listens (s : State) (o : Origin) : Prop :=
  match o with
  | .program k j n => k < s.prog.sects.length ∧ (s.ticket k j).serial = n ∧ (s.ticket k j).st = .issued
  | .host c _ => s.stands c
  | _ => False

theorem State.listens.canTell {s : State} {o : Origin} (h : s.listens o) : s.canTell o := by
  cases o with
  | quiet | command a => exact h
  | program k j n => exact h
  | host c q => obtain ⟨x, hx, -⟩ := h; exact ⟨x, hx⟩

theorem State.canCall.listens {s : State} {o : Origin} {code : Nat} (h : s.canCall o code) : s.listens o := by
  obtain ⟨-, -, -, h⟩ := h
  cases o with
  | quiet | command a => exact h
  | program k j n => exact h
  | host c q =>
    obtain ⟨x, hx, open_, -⟩ := h
    exact ⟨x, hx, by rw [open_]; decide⟩

theorem State.finish_sects_length (s : State) (o : Origin) (st : Nat) (res : List Nat) :
    (s.finish o st res).prog.sects.length = s.prog.sects.length := by
  cases o with
  | quiet => rfl
  | command a => rw [s.finish_command_prog]
  | host c q => rw [State.finish, State.sessionDone_prog]
  | program k j n => exact s.modSect_sects_length ..

theorem State.finish_listens {s : State} {o p : Origin} (st : Nat) (res : List Nat) (ne : p ≠ o) (h : s.listens o) : (s.finish p st res).listens o := by
  cases o with
  | quiet | command a => exact h.elim
  | host c q => exact State.finish_stands _ _ _ h
  | program k j n =>
    obtain ⟨hk, hn, hi⟩ := h
    have slot := s.finish_ticket p st res hk hn ne
    exact ⟨by rw [State.finish_sects_length]; exact hk, by rw [slot]; exact hn, by rw [slot]; exact hi⟩

theorem State.finishAll_listens {s : State} {o : Origin} {os : List Origin} (st : Nat) (ne : ∀ p ∈ os, p ≠ o) (h : s.listens o) :
    (s.finishAll os st).listens o := by
  unfold State.finishAll
  induction os generalizing s with
  | nil => exact h
  | cons p os ih =>
    exact ih (fun q hq => ne q (List.mem_cons_of_mem _ hq)) (State.finish_listens st [] (ne p (List.mem_cons_self ..)) h)

/-! ### Services of an axis (R342, Table 07.5) -/

theorem State.axis_of_drv {s t : State} (h : t.drv = s.drv) (a : Nat) : t.axis a = s.axis a := by rw [State.axis, h, ← State.axis]

theorem State.axis_setAxis (s : State) (a : Nat) (x : Axis) : (s.setAxis a x).axis a = x := by
  unfold State.axis State.setAxis
  exact SMap.getD_insert_self ..

/-- A move under way that another caller waits for. -/
theorem moveBy_ne {x : Axis} {o : Origin} (h : x.moveBy ≠ some o) : ∀ p ∈ x.moveBy.toList, p ≠ o := by
  intro p hp e
  exact h (e ▸ Option.mem_toList.1 hp)

theorem hoistMove_judged (s : State) (o : Origin) (b : SvcArgs) (x : Axis) (tgt speed acc : Int) (may : s.canCall o 0x0A0005)
    (axis : b.wa.toNat < 8) (hx : x = s.axis b.wa.toNat) (htgt : tgt = toInt 32 b.wb.toNat) (hspeed : speed = toInt 32 (b.d.getD 0 0).toNat)
    (hacc : acc = toInt 32 (b.d.getD 1 0).toNat) (fast : 0 < speed) (eager : 0 < acc) (ready : x.st = .holding ∨ x.st = .moving ∨ x.st = .paused) :
    (x.homed = true → s.getI (F.LOP_AX_PMIN_POS.at b.wa.toNat) ≤ tgt → tgt ≤ s.getI (F.LOP_AX_PMAX_POS.at b.wa.toNat) →
      x.moveBy ≠ some o → ∃ t, exec (.hoistMove o b) s = .next t ∧ t.told o St.pending [] ∧
        t.axis b.wa.toNat = { x with
          st := if x.st = .paused then .paused else .moving
          tgt := tgt, speed := speed, acc := acc, moveBy := some o, still := 0 }) ∧
    (x.homed = false → ∃ t, exec (.hoistMove o b) s = .next t ∧ t.told o St.notHomed [] ∧ t.drv = s.drv) ∧
    (x.homed = true → tgt < s.getI (F.LOP_AX_PMIN_POS.at b.wa.toNat) ∨ s.getI (F.LOP_AX_PMAX_POS.at b.wa.toNat) < tgt →
      ∃ t, exec (.hoistMove o b) s = .next t ∧ t.told o St.outOfTravel [] ∧ t.drv = s.drv) := by
  have args : ¬((decide (7 < b.wa.toNat) || decide (speed ≤ 0) || decide (acc ≤ 0)) = true) := by simp; omega
  have active : ¬((!x.st.active) = true) := by rcases ready with h | h | h <;> simp [h, AxisSt.active]
  have idle : ¬((decide (x.st = .homing) || decide (x.st = .stopping)) = true) := by rcases ready with h | h | h <;> simp [h]
  have hx : x = s.begin.axis b.wa.toNat := hx
  have open_ : svcHoistMove s.begin o b = if !x.homed then (s.begin, St.notHomed, [])
      else if tgt < s.begin.getI (F.LOP_AX_PMIN_POS.at b.wa.toNat) || s.begin.getI (F.LOP_AX_PMAX_POS.at b.wa.toNat) < tgt then (s.begin, St.outOfTravel, [])
      else (((s.begin.finishAll x.moveBy.toList St.aborted).setAxis b.wa.toNat { x with
        st := if x.st = .paused then .paused else .moving
        tgt := tgt, speed := speed, acc := acc, moveBy := some o, still := 0 }), St.pending, []) := by
    unfold svcHoistMove
    dsimp only
    rw [← htgt, ← hspeed, ← hacc, ← hx, if_neg args, if_neg active, if_neg idle]
  refine ⟨fun homed low high other => ?_, fun lost => ?_, fun homed out => ?_⟩
  · have within_ : ¬((decide (tgt < s.begin.getI (F.LOP_AX_PMIN_POS.at b.wa.toNat)) ||
        decide (s.begin.getI (F.LOP_AX_PMAX_POS.at b.wa.toNat) < tgt)) = true) := by
      have low : s.begin.getI (F.LOP_AX_PMIN_POS.at b.wa.toNat) ≤ tgt := low
      have high : tgt ≤ s.begin.getI (F.LOP_AX_PMAX_POS.at b.wa.toNat) := high
      simp [not_lt.2 low, not_lt.2 high]
    rw [if_neg (by simp [homed]), if_neg within_] at open_
    have listens : s.begin.listens o := may.listens
    have tells := (State.finishAll_listens St.aborted (moveBy_ne other) listens).canTell
    obtain ⟨t, run, told, w⟩ := State.act_callSvc_of may rfl open_ ((within_setAxis ..).canTell tells)
    exact ⟨t, run, told, (State.axis_of_drv w.drv _).trans (State.axis_setAxis ..)⟩
  · rw [lost, if_pos (by decide)] at open_
    obtain ⟨t, run, told, w⟩ := State.act_callSvc may rfl open_ (.refl [] _)
    exact ⟨t, run, told, w.drv⟩
  · have out : (decide (tgt < s.begin.getI (F.LOP_AX_PMIN_POS.at b.wa.toNat)) ||
        decide (s.begin.getI (F.LOP_AX_PMAX_POS.at b.wa.toNat) < tgt)) = true := by
      rcases out with h | h
      · exact Bool.or_eq_true_iff.2 (.inl (decide_eq_true h))
      · exact Bool.or_eq_true_iff.2 (.inr (decide_eq_true h))
    rw [if_neg (by simp [homed]), if_pos out] at open_
    obtain ⟨t, run, told, w⟩ := State.act_callSvc may rfl open_ (.refl [] _)
    exact ⟨t, run, told, w.drv⟩

theorem hoistServices (s : State) (o : Origin) (b : SvcArgs) (x : Axis) (axis : b.wa.toNat < 8) (hx : x = s.axis b.wa.toNat) :
    (s.canCall o 0x0A0006 → x.st = .holding → ∃ t, exec (.hoistStop o b) s = .next t ∧ t.told o St.done [] ∧ t.drv = s.drv) ∧
    (s.canCall o 0x0A0006 → x.st = .moving ∨ x.st = .paused → x.moveBy ≠ some o →
      ∃ t, exec (.hoistStop o b) s = .next t ∧ t.told o St.pending [] ∧
        t.axis b.wa.toNat = { x with st := .stopping, moveBy := none, stopBy := x.stopBy ++ [o], still := 0 }) ∧
    (s.canCall o 0x0A0006 → x.st = .stopping → ∃ t, exec (.hoistStop o b) s = .next t ∧ t.told o St.pending [] ∧
      t.axis b.wa.toNat = { x with stopBy := x.stopBy ++ [o] }) ∧
    (s.canCall o 0x0A0006 → x.st = .disabled → ∃ t, exec (.hoistStop o b) s = .next t ∧ t.told o St.axisDisabled [] ∧
      t.drv = s.drv) ∧
    (s.canCall o 0x0A0007 → x.st = .holding → ∃ t, exec (.hoistHome o b) s = .next t ∧ t.told o St.pending [] ∧
      t.axis b.wa.toNat = { x with st := .homing, homeBy := some o, still := 0 }) ∧
    (s.canCall o 0x0A0007 → x.st = .moving → ∃ t, exec (.hoistHome o b) s = .next t ∧ t.told o St.axisBusy [] ∧ t.drv = s.drv) := by
  have few : ¬7 < b.wa.toNat := by omega
  have hx : s.begin.axis b.wa.toNat = x := hx.symm
  have stays : ∀ {code : Nat} {f : State → Origin → SvcArgs → SvcRes} {st : Nat}, s.canCall o code → svcOf code = some f →
      f s.begin o b = (s.begin, st, []) → ∃ t, (s.act fun s => s.callSvc o code b) = .next t ∧ t.told o st [] ∧ t.drv = s.drv :=
    fun may hf res => by
      obtain ⟨t, run, told, w⟩ := State.act_callSvc may hf res (.refl [] _)
      exact ⟨t, run, told, w.drv⟩
  have sets : ∀ {code : Nat} {f : State → Origin → SvcArgs → SvcRes} {y : Axis}, s.canCall o code → svcOf code = some f →
      f s.begin o b = (s.begin.setAxis b.wa.toNat y, St.pending, []) →
      ∃ t, (s.act fun s => s.callSvc o code b) = .next t ∧ t.told o St.pending [] ∧ t.axis b.wa.toNat = y :=
    fun may hf res => by
      obtain ⟨t, run, told, w⟩ := State.act_callSvc may hf res (within_setAxis ..)
      exact ⟨t, run, told, (State.axis_of_drv w.drv _).trans (State.axis_setAxis ..)⟩
  refine ⟨fun may st => stays may rfl (f := svcHoistStop) ?_, fun may st other => ?_, fun may st => sets may rfl (f := svcHoistStop) ?_,
    fun may st => stays may rfl (f := svcHoistStop) ?_, fun may st => sets may rfl (f := svcHoistHome) ?_,
    fun may st => stays may rfl (f := svcHoistHome) ?_⟩
  · unfold svcHoistStop
    dsimp only
    rw [hx, if_neg few, st]
  · have res : svcHoistStop s.begin o b = (s.begin.axisStop b.wa.toNat St.aborted false [o], St.pending, []) := by
      unfold svcHoistStop
      dsimp only
      rw [hx, if_neg few]
      rcases st with h | h <;> rw [h]
    have homing : x.st ≠ .homing := by rcases st with h | h <;> rw [h] <;> decide
    have stopped : s.begin.axisStop b.wa.toNat St.aborted false [o] = (s.begin.setAxis b.wa.toNat
        { x with st := .stopping, moveBy := none, stopBy := x.stopBy ++ [o], still := 0 }).finishAll x.moveBy.toList St.aborted := by
      unfold State.axisStop
      dsimp only
      rw [hx]
      simp [homing]
    rw [stopped] at res
    have listens : s.begin.listens o := may.listens
    have tells := (State.finishAll_listens St.aborted (moveBy_ne other) (s := s.begin.setAxis b.wa.toNat
      { x with st := .stopping, moveBy := none, stopBy := x.stopBy ++ [o], still := 0 }) (by cases o <;> exact listens)).canTell
    obtain ⟨t, run, told, w⟩ := State.act_callSvc_of may rfl res tells
    refine ⟨t, run, told, ?_⟩
    rw [State.axis_of_drv w.drv, State.axis_of_drv (State.finishAll_drv ..)]
    exact State.axis_setAxis ..
  · unfold svcHoistStop
    dsimp only
    rw [hx, if_neg few, st]
  · unfold svcHoistStop
    dsimp only
    rw [hx, if_neg few, st]
  · unfold svcHoistHome
    dsimp only
    rw [hx, if_neg few, st]
  · unfold svcHoistHome
    dsimp only
    rw [hx, if_neg few, st]

/-! ### Brakes, RESET, and the drive link (R344 to R346, Table 07.5) -/

theorem axisBrakes (s : State) (a : Nat) (x : Axis) (hx : x = s.axis a) :
    (x.st = .releasing → s.get (F.LOP_AX_BRAKE_RELEASE.at a) * 8 ≤ x.ticks →
      ∃ t, exec (.hoistBrakeRelease a) s = .next t ∧
        t.axis a = { x with st := .holding, brakeRel := true, pt := x.p, vt := 0, tgt := x.p, still := 0 }) ∧
    (x.st ≠ .releasing ∨ x.ticks < s.get (F.LOP_AX_BRAKE_RELEASE.at a) * 8 → s.idle (.hoistBrakeRelease a)) ∧
    (x.st = .engaging → x.braking = true → s.get (F.LOP_AX_BRAKE_ENGAGE.at a) * 8 ≤ x.ticks →
      ∃ t, exec (.hoistBrakeEngage a) s = .next t ∧
        t.axis a = { x with st := .disabled, enable := false, trq := 0, braking := false, ticks := 0 }) ∧
    (x.st ≠ .engaging ∨ x.braking = false → s.idle (.hoistBrakeEngage a)) := by
  subst hx
  have acts : ∀ {f : State → State} {y : Axis}, f s.begin = s.begin.setAxis a y → ∃ t, s.act f = .next t ∧ t.axis a = y := fun {f y} h =>
    ⟨_, congrArg (fun u => Host.Outcome.next (s.after u)) h, s.begin.axis_setAxis a y⟩
  refine ⟨fun st late => acts (if_pos ?_), fun h => State.idle_of rfl (f := fun s => s.when _ _) (if_neg ?_),
    fun st braking late => acts (if_pos ?_), fun h => State.idle_of rfl (f := fun s => s.when _ _) (if_neg ?_)⟩
  · have late : s.begin.get (F.LOP_AX_BRAKE_RELEASE.at a) * 8 ≤ (s.begin.axis a).ticks := late
    have st : (s.begin.axis a).st = .releasing := st
    simp only [st, late, decide_true, Bool.and_true]
  · have h : (s.begin.axis a).st ≠ .releasing ∨ (s.begin.axis a).ticks < s.begin.get (F.LOP_AX_BRAKE_RELEASE.at a) * 8 := h
    rcases h with h | h
    · simp only [h, decide_false, Bool.false_and, Bool.false_eq_true, not_false_iff]
    · simp only [not_le.2 h, decide_false, Bool.and_false, Bool.false_eq_true, not_false_iff]
  · have late : s.begin.get (F.LOP_AX_BRAKE_ENGAGE.at a) * 8 ≤ (s.begin.axis a).ticks := late
    have st : (s.begin.axis a).st = .engaging := st
    have braking : (s.begin.axis a).braking = true := braking
    simp only [st, braking, late, decide_true, Bool.and_true]
  · have h : (s.begin.axis a).st ≠ .engaging ∨ (s.begin.axis a).braking = false := h
    rcases h with h | h <;> simp [h]

theorem axisReset_judged (s : State) (who : Requester) (a : Nat) (x : Axis) (d : Drive) (may : s.mayWrite who) (hx : x = s.axis a)
    (hd : d = s.drive (a / 4) (a % 4)) :
    (x.st = .fault → bit d.stat 12 = false → d.ok = true → d.fault = false →
      ∃ t, exec (.axisReset who a) s = .next t ∧ t.axis a = { x with st := .disabled, resetTicks := 8 }) ∧
    (x.st ≠ .fault ∨ bit d.stat 12 = true ∨ d.ok = false ∨ d.fault = true →
      s.idle (.axisReset who a)) := by
  subst hx hd
  have eq : exec (.axisReset who a) s = .next (s.after ((s.begin.axisReset a).reply who St.done)) :=
    congrArg (fun u => Host.Outcome.next (s.after u)) (State.gate_open may _)
  constructor
  · intro fault clear ok link
    have resets : s.begin.axisReset a = s.begin.setAxis a { s.begin.axis a with st := .disabled, resetTicks := 8 } := by
      refine if_pos ?_
      have fault : (s.begin.axis a).st = .fault := fault
      have clear : bit (s.begin.drive (a / 4) (a % 4)).stat 12 = false := clear
      have ok : (s.begin.drive (a / 4) (a % 4)).ok = true := ok
      have link : (s.begin.drive (a / 4) (a % 4)).fault = false := link
      simp only [fault, clear, ok, link]
      decide
    rw [resets] at eq
    exact ⟨_, eq, (State.axis_of_drv (State.reply_drv _ who St.done []) a).trans (s.begin.axis_setAxis a _)⟩
  · intro h
    have keeps : s.begin.axisReset a = s.begin := by
      refine if_neg ?_
      have h : (s.begin.axis a).st ≠ .fault ∨ bit (s.begin.drive (a / 4) (a % 4)).stat 12 = true ∨
        (s.begin.drive (a / 4) (a % 4)).ok = false ∨ (s.begin.drive (a / 4) (a % 4)).fault = true := h
      rcases h with h | h | h | h <;> simp [h]
    rw [keeps, State.reply_eq] at eq
    exact ⟨_, eq, rfl⟩

theorem State.drive_setDrive (s : State) (p d : Nat) (x : Drive) : (s.setDrive p d x).drive p d = x := by
  unfold State.drive State.setDrive
  exact SMap.getD_insert_self ..

theorem State.setAxis_drive (s : State) (a : Nat) (x : Axis) (p d : Nat) : (s.setAxis a x).drive p d = s.drive p d := rfl

theorem State.setDrive_axis (s : State) (p d : Nat) (x : Drive) (a : Nat) : (s.setDrive p d x).axis a = s.axis a := rfl

theorem State.finishAll_drive (s : State) (l : List Origin) (st p d : Nat) : (s.finishAll l st).drive p d = s.drive p d := by
  rw [State.drive, State.finishAll_drv, ← State.drive]

/-- An axis that fails is in FAULT, and its drive is as before. -/
theorem axisFail_fault (s : State) (a : Nat) : ((s.axisFail a).axis a).st = .fault ∧ ∀ p d, (s.axisFail a).drive p d = s.drive p d := by
  unfold State.axisFail
  split
  · next h => exact ⟨h, fun _ _ => rfl⟩
  · refine ⟨by rw [State.axis_setAxis], fun p d => ?_⟩
    rw [State.setAxis_drive, State.endCalls, State.finishAll_drive]
    rfl

theorem axisStop_drive (s : State) (a st : Nat) (quick : Bool) (l : List Origin) (p d : Nat) : (s.axisStop a st quick l).drive p d = s.drive p d := by
  unfold State.axisStop
  rw [State.finishAll_drive]
  rfl

/-- The drive as a good reply leaves it. -/
def Drive.replied (x : Drive) (pos : Int) (stat : Nat) : Drive :=
  { x with got := true, bad := false, misses := 0, fault := false, ok := true, pos := pos, stat := stat }

/-- What a good reply does to its axis: the position, then FAULT, the end of homing, or the end of the travel (Table 07.8). -/
def State.axisReply (s : State) (a : Nat) (raw : Int) (stat : Nat) : State :=
  let s := s.setAxis a { s.axis a with p := raw + (s.axis a).offset }
  let x := s.axis a
  if bit stat 12 || bit stat 11 then s.axisFail a
  else if x.st = .homing && bit stat 8 then
    let hp := s.getI (F.LOP_AX_HOMEPOS_POS.at a)
    let q : Int := s.get (F.LOP_AX_QSTOP_VAL.at a)
    s.setAxis a { x with st := .stopping, acc := q, offset := hp - raw, p := hp, pPrev := x.pPrev + (hp - x.p),
                         pt := x.pt + (hp - x.p), homed := true, still := 0 }
  else if (x.st = .moving && ((bit stat 10 && decide (0 < x.vt)) || (bit stat 9 && decide (x.vt < 0))))
      || (x.st = .homing && bit stat 9) then s.axisStop a St.outOfTravel true []
  else s

section Reply
variable {s : State} {p d : Nat} (en : s.flag (F.LOP_DL_CFG_EN.at p) = true) (present : bit (s.get (F.LOP_DL_CFG_PRESENT.at p)) d = true)
include en present

theorem driveReply_bad (stat : Nat) (pos : Int) :
    s.driveReply p d pos stat false = (s.setDrive p d { s.drive p d with bad := true }).inc (F.LOP_DL_CNT_CRC_ERR.at p) :=
  (if_neg (by rw [en, present]; decide)).trans (if_pos rfl)

theorem driveReply_good (stat : Nat) (pos : Int) : s.driveReply p d pos stat true =
    if !s.axisOn (4 * p + d) then s.setDrive p d ((s.drive p d).replied pos stat)
    else (s.setDrive p d ((s.drive p d).replied pos stat)).axisReply (4 * p + d)
      (if s.flag (F.LOP_AX_CFG_DIR.at (4 * p + d)) then -pos else pos) stat :=
  (if_neg (by rw [en, present]; decide)).trans (if_neg (by decide))

end Reply

theorem axisReply_drive (s : State) (a : Nat) (raw : Int) (stat p d : Nat) : (s.axisReply a raw stat).drive p d = s.drive p d := by
  unfold State.axisReply
  dsimp only
  split
  · exact (axisFail_fault _ _).2 p d
  · split
    · rfl
    · split
      · exact axisStop_drive ..
      · rfl

theorem axisReply_fault (s : State) (a : Nat) (raw : Int) (stat : Nat) (h : bit stat 12 = true ∨ bit stat 11 = true) :
    ((s.axisReply a raw stat).axis a).st = .fault := by
  unfold State.axisReply
  dsimp only
  rw [if_pos (by rcases h with h | h <;> simp [h])]
  exact (axisFail_fault _ _).1

section Reply
variable {s : State} {a stat : Nat} {raw : Int} {x : Axis} (hx : s.axis a = x) (no12 : bit stat 12 = false) (no11 : bit stat 11 = false)
include hx no12 no11

theorem axisReply_holding (st : x.st = .holding) : (s.axisReply a raw stat).axis a = { x with p := raw + x.offset } := by
  unfold State.axisReply
  dsimp only
  rw [State.axis_setAxis, hx, if_neg (by rw [no12, no11]; decide), if_neg (by rw [st]; simp), if_neg (by rw [st]; simp)]
  exact State.axis_setAxis ..

theorem axisReply_homing (st : x.st = .homing) (switch : bit stat 8 = true) : ((s.axisReply a raw stat).axis a).st = .stopping ∧
    ((s.axisReply a raw stat).axis a).homed = true ∧ ((s.axisReply a raw stat).axis a).p = s.getI (F.LOP_AX_HOMEPOS_POS.at a) := by
  unfold State.axisReply
  dsimp only
  rw [State.axis_setAxis, hx, if_neg (by rw [no12, no11]; decide), if_pos (by rw [st, switch]; decide), State.axis_setAxis]
  exact ⟨rfl, rfl, rfl⟩

end Reply

theorem driveReply_taken (s : State) (p d stat : Nat) (pos : Int) (x : Axis) (raw : Int) (_ : p < 2) (_ : d < 4)
    (en : s.get (F.LOP_DL_CFG_EN.at p) ≠ 0) (present : bit (s.get (F.LOP_DL_CFG_PRESENT.at p)) d = true) :
    (∃ t, exec (.driveReply p d pos stat false) s = .next t ∧ t.drv.axes = s.drv.axes ∧
      t.drive p d = { s.drive p d with bad := true } ∧
      t.get (F.LOP_DL_CNT_CRC_ERR.at p) = min 65535 (s.get (F.LOP_DL_CNT_CRC_ERR.at p) + 1)) ∧
    (∃ t, exec (.driveReply p d pos stat true) s = .next t ∧ (t.drive p d).ok = true ∧ (t.drive p d).fault = false ∧
      (t.drive p d).pos = pos ∧ (t.drive p d).stat = stat ∧ (t.drive p d).misses = 0) ∧
    (x = s.axis (4 * p + d) → s.axisOn (4 * p + d) = true →
      raw = (if s.get (F.LOP_AX_CFG_DIR.at (4 * p + d)) ≠ 0 then -pos else pos) →
      (bit stat 12 = true ∨ bit stat 11 = true → ∃ t, exec (.driveReply p d pos stat true) s = .next t ∧
        (t.axis (4 * p + d)).st = .fault) ∧
      (bit stat 12 = false → bit stat 11 = false → x.st = .holding → ∃ t, exec (.driveReply p d pos stat true) s = .next t ∧
        t.axis (4 * p + d) = { x with p := raw + x.offset }) ∧
      (bit stat 12 = false → bit stat 11 = false → x.st = .homing → bit stat 8 = true →
        ∃ t, exec (.driveReply p d pos stat true) s = .next t ∧ (t.axis (4 * p + d)).st = .stopping ∧
          (t.axis (4 * p + d)).homed = true ∧ (t.axis (4 * p + d)).p = s.getI (F.LOP_AX_HOMEPOS_POS.at (4 * p + d)))) := by
  have en : s.begin.flag (F.LOP_DL_CFG_EN.at p) = true := decide_eq_true en
  have present : bit (s.begin.get (F.LOP_DL_CFG_PRESENT.at p)) d = true := present
  have good := driveReply_good en present stat pos
  refine ⟨⟨_, congrArg (fun u => Host.Outcome.next (s.after u)) (driveReply_bad en present stat pos), rfl, State.drive_setDrive .., ?_⟩,
    ⟨_, congrArg (fun u => Host.Outcome.next (s.after u)) good, ?_⟩, fun hx on hraw => ?_⟩
  · exact State.get_inc_word _ rfl rfl
  · have drive : (if !s.begin.axisOn (4 * p + d) then s.begin.setDrive p d ((s.begin.drive p d).replied pos stat)
        else (s.begin.setDrive p d ((s.begin.drive p d).replied pos stat)).axisReply (4 * p + d)
          (if s.begin.flag (F.LOP_AX_CFG_DIR.at (4 * p + d)) then -pos else pos) stat).drive p d = (s.begin.drive p d).replied pos stat := by
      split
      · exact State.drive_setDrive ..
      · exact (axisReply_drive ..).trans (State.drive_setDrive ..)
    exact (fun (y : Drive) (h : y = _) => h ▸ ⟨rfl, rfl, rfl, rfl, rfl⟩ :
      ∀ y : Drive, y = (s.begin.drive p d).replied pos stat → y.ok = true ∧ y.fault = false ∧ y.pos = pos ∧ y.stat = stat ∧ y.misses = 0) _ drive
  · have dir : (if s.begin.flag (F.LOP_AX_CFG_DIR.at (4 * p + d)) then -pos else pos) = raw := by
      rw [hraw]
      show (if decide (s.get (F.LOP_AX_CFG_DIR.at (4 * p + d)) ≠ 0) = true then -pos else pos) = _
      simp only [decide_eq_true_eq]
    have on : s.begin.axisOn (4 * p + d) = true := on
    rw [on, if_neg (by decide), dir] at good
    have hx : (s.begin.setDrive p d ((s.begin.drive p d).replied pos stat)).axis (4 * p + d) = x := hx.symm
    exact ⟨fun h => ⟨_, congrArg (fun u => Host.Outcome.next (s.after u)) good, axisReply_fault _ _ _ _ h⟩,
      fun no12 no11 st => ⟨_, congrArg (fun u => Host.Outcome.next (s.after u)) good, axisReply_holding hx no12 no11 st⟩,
      fun no12 no11 st switch => ⟨_, congrArg (fun u => Host.Outcome.next (s.after u)) good, axisReply_homing hx no12 no11 st switch⟩⟩

theorem driveLinkFault_fails (s : State) (p d : Nat) (_ : p < 2) (_ : d < 4) :
    (3 ≤ (s.drive p d).misses → ∃ t, exec (.driveLinkFault p d) s = .next t ∧ (t.drive p d).fault = true ∧
      (t.axis (4 * p + d)).st = .fault) ∧
    ((s.drive p d).misses < 3 → s.idle (.driveLinkFault p d)) := by
  refine ⟨fun h => ⟨_, congrArg (fun u => Host.Outcome.next (s.after u)) (if_pos (decide_eq_true h)), ?_, (axisFail_fault _ _).1⟩,
    fun h => State.idle_of rfl (f := fun s => s.when _ _) (if_neg fun late => absurd (of_decide_eq_true late) (not_le.2 h))⟩
  show (State.drive (State.axisFail _ _) p d).fault = true
  rw [(axisFail_fault _ _).2, State.drive_setDrive]

/-- Settles O37: each service, brake event and reply of an axis, with what the end of another caller's move leaves. -/
theorem axesMoveUnderTheirDrives : Obligations.AxesMoveUnderTheirDrives := by
  unfold Obligations.AxesMoveUnderTheirDrives
  exact ⟨hoistMove_judged, hoistServices, axisBrakes, axisReset_judged, driveReply_taken, driveLinkFault_fails⟩

end Sys2Proof.Machine

/-! ### Neighbouring-pin passes (O38) -/
namespace Sys2Proof.Machine

/-! ### What the outputs leave of a pass -/

/-- What an update of the PWM outputs leaves of a pass and of its callers. -/
structure PassRest (s t : State) : Prop where
  pwmLands : t.get F.DRV_SHORT_PWM_LANDS = s.get F.DRV_SHORT_PWM_LANDS
  snsLands : t.get F.DRV_SHORT_SNS_LANDS = s.get F.DRV_SHORT_SNS_LANDS
  done : t.get F.DRV_STAT_START_DONE = s.get F.DRV_STAT_START_DONE
  pass : { t.drv with pwm := [] } = { s.drv with pwm := [] }
  grows : State.Grows s t
  sessions : t.gal.sessions = s.gal.sessions
  slots : t.prog.sects.map Sect.slots = s.prog.sects.map Sect.slots

theorem PassRest.refl (s : State) : PassRest s s := ⟨rfl, rfl, rfl, rfl, .refl s, rfl, rfl⟩

theorem PassRest.trans {s t u : State} (h : PassRest s t) (k : PassRest t u) : PassRest s u :=
  ⟨k.pwmLands.trans h.pwmLands, k.snsLands.trans h.snsLands, k.done.trans h.done, k.pass.trans h.pass, h.grows.trans k.grows,
    k.sessions.trans h.sessions, k.slots.trans h.slots⟩

theorem PassRest.ite {c : Prop} [Decidable c] {s t u : State} (h : PassRest s t) (k : PassRest s u) : PassRest s (if c then t else u) := by
  split
  · exact h
  · exact k

theorem PassRest.passOn {s t : State} (h : PassRest s t) : t.drv.passOn = s.drv.passOn := (congrArg DriveSt.passOn h.pass :)

theorem PassRest.passLand {s t : State} (h : PassRest s t) : t.drv.passLand = s.drv.passLand := (congrArg DriveSt.passLand h.pass :)

theorem PassRest.passBy {s t : State} (h : PassRest s t) : t.drv.passBy = s.drv.passBy := (congrArg DriveSt.passBy h.pass :)

theorem PassRest.oldPairs {s t : State} (h : PassRest s t) : t.drv.oldPairs = s.drv.oldPairs := (congrArg DriveSt.oldPairs h.pass :)

/-- A field of the drive registers behind those of a pass. -/
theorem PassRest.put_at (s : State) {f : Fld} (i v : Nat) (ha : 0x90014 < f.addr) : PassRest s (s.put (f.at i) v) := by
  have key : (f.at i).key = (f.addr + i * f.s1) * 32 + f.lo := Fld.at_key f i
  refine ⟨s.get_put_ne _ _ _ ?_, s.get_put_ne _ _ _ ?_, s.get_put_ne _ _ _ ?_, rfl, State.grows_of_eq rfl rfl, rfl, rfl⟩ <;> rw [key]
  · show 0x9000C * 32 + 0 ≠ _
    omega
  · show 0x90010 * 32 + 0 ≠ _
    omega
  · show 0x90000 * 32 + 0 ≠ _
    omega

theorem PassRest.setPwm (s : State) (c : Nat) (x : Pwm) : PassRest s (s.setPwm c x) :=
  ⟨rfl, rfl, rfl, rfl, State.grows_of_eq rfl rfl, rfl, rfl⟩

theorem PassRest.emit (s : State) (k : OutKind) (l : List Int) : PassRest s (s.emit k l) := by
  have w := within_emit (D := emitParts) s k l (by decide)
  exact ⟨w.get, w.get, w.get, by rw [w.drv], s.grows_emit k l, w.sessions, w.slots⟩

theorem setDuty_pass (s : State) (c d : Nat) : PassRest s (s.setDuty c d) := by
  have account : ∀ n, PassRest s (s.pwmAccount c n) := fun n => by
    unfold State.pwmAccount
    exact .ite (.ite (.refl _) (.setPwm ..)) (.setPwm ..)
  unfold State.setDuty
  refine .ite (.refl _) (.trans ?_ (.emit ..))
  refine .trans ?_ (.setPwm ..)
  exact (account _).trans (.put_at _ (f := F.DRV_CH_STAT_DUTY) _ _ (by decide))

theorem pwmUpdate_pass (s : State) : PassRest s s.pwmUpdate := by
  unfold State.pwmUpdate
  generalize List.range 32 = l
  induction l generalizing s with
  | nil => exact .refl _
  | cons c l ih =>
    refine .trans ?_ (ih _)
    refine .ite (.refl _) (.trans ?_ (.put_at _ (f := F.DRV_CH_STAT_DIMMED) _ _ (by decide)))
    exact (setDuty_pass ..).trans (.put_at _ (f := F.DRV_CH_STAT_SAT) _ _ (by decide))

/-! ### The end of a pass (R318) -/

/-- What a pass changes of the drive's state when it ends. -/
def DriveSt.passEnded (d : DriveSt) (ps : List (Nat × Nat)) : DriveSt :=
  { d with passOn := false, passLand := 0, passPairs := [], oldPairs := ps, passBy := [] }

/-- The results of a pass for whoever waits for them. -/
def State.passTold (s : State) (os : List Origin) : State :=
  os.foldl (fun s o => s.finish o St.done [s.get F.DRV_SHORT_PWM_LANDS, s.get F.DRV_SHORT_SNS_LANDS]) s

theorem shorted_part {c : Nat} (hc : c < 32) : (F.DRV_CH_STAT_SHORTED.at c).part = .block 9 := by
  refine Fld.part_eq_block ?_ (by decide)
  rw [Fld.at_key]
  show ((0x9010C + c * 16) * 32 + 5) / 2 ^ 21 = 9
  omega

abbrev passParts : List Part := [.light, .regs, .block 9, .recs, .block 0x19]

theorem endPass_eq (s : State) : ∃ u, Within passParts s u ∧ u.get F.DRV_STAT_START_DONE = 1 ∧ s.endPass = State.pwmUpdate
    (if ((u.modDrv fun d => d.passEnded s.drv.passPairs).passTold s.drv.passBy).drv.passWait = []
      then (u.modDrv fun d => d.passEnded s.drv.passPairs).passTold s.drv.passBy
      else ((u.modDrv fun d => d.passEnded s.drv.passPairs).passTold s.drv.passBy).startPass) := by
  unfold State.endPass
  extract_lets ps old was wasL shorts is marked nodes logged os counted closed told
  have hshorts : Within passParts s shorts :=
    (within_put _ _ (by decide) (by decide)).trans (within_put _ _ (by decide) (by decide))
  have hmarked : Within passParts shorts marked := .foldl (.refl ..) fun u c hc => by
    have shorted := shorted_part (List.mem_range.1 hc)
    dsimp only
    refine (within_put u (b2n (is c)) (by decide) (by rw [shorted]; decide)).trans ?_
    split
    · split
      · exact (within_setNode ..).mono (by decide)
      · exact .refl ..
    · split
      · refine .trans ?_ (within_log _ _ _ _ _ (by decide))
        split
        · exact (within_setNode ..).mono (by decide)
        · exact .refl ..
      · exact .refl ..
  have hnodes : Within passParts marked nodes := .foldl (.refl ..) fun u l _ => by
    split
    · exact (within_modNode ..).mono (by decide)
    · exact .refl ..
  have hlogged : Within passParts nodes logged := .foldl (.refl ..) fun u p _ => within_log _ _ _ _ _ (by decide)
  have hcounted : Within passParts logged counted := (within_inc _ (by decide) (by decide)).trans (within_put _ _ (by decide) (by decide))
  have before := ((hshorts.trans hmarked).trans hnodes).trans hlogged
  have hos : os = s.drv.passBy := congrArg DriveSt.passBy before.drv
  refine ⟨counted, before.trans hcounted, ?_, ?_⟩
  · exact (logged.inc F.DRV_STAT_PASSES).get_put_self F.DRV_STAT_START_DONE 1
  · rw [← hos]
    rfl

theorem State.passTold_drv (s : State) (os : List Origin) : (s.passTold os).drv = s.drv :=
  foldl_keeps State.drv _ (fun _ _ => State.finish_drv ..) os s

theorem State.passTold_get (s : State) (os : List Origin) {f : Fld} (h : ∀ b ∈ cmdStats, f.key ≠ b * 32) : (s.passTold os).get f = s.get f :=
  foldl_keeps (fun u => State.get u f) _ (fun _ _ => State.finish_get _ _ _ _ _ h) os s

/-- The end of a pass that nobody waits behind: it is over, its results are told. -/
theorem endPass_over (s : State) (quiet : s.drv.passWait = []) : s.endPass.drv.passOn = false ∧ s.endPass.get F.DRV_STAT_START_DONE = 1 ∧
    s.endPass.drv.oldPairs = s.drv.passPairs ∧ ∀ o, s.drv.passBy = [o] → s.awaits o →
      s.endPass.ended o St.done [s.endPass.get F.DRV_SHORT_PWM_LANDS, s.endPass.get F.DRV_SHORT_SNS_LANDS] := by
  obtain ⟨u, w, done, eq⟩ := endPass_eq s
  have drv : ((u.modDrv fun d => d.passEnded s.drv.passPairs).passTold s.drv.passBy).drv = s.drv.passEnded s.drv.passPairs := by
    rw [State.passTold_drv, ← w.drv]
    rfl
  rw [if_pos (by rw [drv]; exact quiet)] at eq
  rw [eq]
  generalize told : (u.modDrv fun d => d.passEnded s.drv.passPairs).passTold s.drv.passBy = v at drv
  have rest := pwmUpdate_pass v
  refine ⟨by rw [rest.passOn, drv]; rfl, ?_, by rw [rest.oldPairs, drv]; rfl, fun o by_ waits => ?_⟩
  · rw [rest.done, ← told, State.passTold_get _ _ (by decide)]
    exact done
  · have waits : (u.modDrv fun d => d.passEnded s.drv.passPairs).awaits o :=
      (within_modDrv (D := [.drv]) _ _ (by decide)).awaits (w.awaits waits)
    have finished := State.finish_ended St.done [u.get F.DRV_SHORT_PWM_LANDS, u.get F.DRV_SHORT_SNS_LANDS] waits
    have eqv : v = (u.modDrv fun d => d.passEnded s.drv.passPairs).finish o St.done
        [u.get F.DRV_SHORT_PWM_LANDS, u.get F.DRV_SHORT_SNS_LANDS] := by rw [← told, by_]; rfl
    have pwm : v.get F.DRV_SHORT_PWM_LANDS = u.get F.DRV_SHORT_PWM_LANDS := by rw [eqv, State.finish_get _ _ _ _ _ (by decide)]; rfl
    have sns : v.get F.DRV_SHORT_SNS_LANDS = u.get F.DRV_SHORT_SNS_LANDS := by rw [eqv, State.finish_get _ _ _ _ _ (by decide)]; rfl
    rw [rest.pwmLands, rest.snsLands, pwm, sns]
    exact State.ended_of_grows rest.grows rest.sessions rest.slots (eqv ▸ finished)

/-- The end of a pass behind which others wait: the next one starts for them. -/
theorem endPass_next (s : State) (next : s.drv.passWait ≠ []) : s.endPass.drv.passOn = true ∧ s.endPass.drv.passLand = 0 ∧
    s.endPass.drv.passBy = s.drv.passWait := by
  obtain ⟨u, w, -, eq⟩ := endPass_eq s
  have drv : ((u.modDrv fun d => d.passEnded s.drv.passPairs).passTold s.drv.passBy).drv = s.drv.passEnded s.drv.passPairs := by
    rw [State.passTold_drv, ← w.drv]
    rfl
  rw [if_neg (by rw [drv]; exact next)] at eq
  rw [eq]
  generalize (u.modDrv fun d => d.passEnded s.drv.passPairs).passTold s.drv.passBy = v at drv
  have rest := pwmUpdate_pass v.startPass
  refine ⟨by rw [rest.passOn]; rfl, by rw [rest.passLand]; rfl, rest.passBy.trans ?_⟩
  show v.drv.passWait = _
  rw [drv]
  rfl

/-! ### A test slot (R317) -/

theorem mem_foldl_pairs (land : Nat) (l : List Nat) (ps : List (Nat × Nat)) (p : Nat × Nat) :
    p ∈ l.foldl (fun l x => let p := orderPair land x; if l.contains p then l else l ++ [p]) ps ↔ p ∈ ps ∨ ∃ x ∈ l, p = orderPair land x := by
  induction l generalizing ps with
  | nil => simp
  | cons x l ih =>
    rw [List.foldl_cons, ih]
    dsimp only
    split
    · next h =>
      have known : orderPair land x ∈ ps := List.contains_iff_mem.1 h
      constructor
      · rintro (h | ⟨y, hy, e⟩)
        · exact .inl h
        · exact .inr ⟨y, List.mem_cons_of_mem _ hy, e⟩
      · rintro (h | ⟨y, hy, e⟩)
        · exact .inl h
        · rcases List.mem_cons.1 hy with rfl | hy
          · exact .inl (e ▸ known)
          · exact .inr ⟨y, hy, e⟩
    · rw [List.mem_append, List.mem_singleton]
      simp [or_assoc]

/-- The state of the drive after a slot, the end of its pass apart. -/
def State.slotTested (s : State) (l : List Nat) : State :=
  let s := s.atNs 8800000
  let land := s.drv.passLand
  let ps := (l.filter (landNeighbours land)).foldl (fun l x => let p := orderPair land x; if l.contains p then l else l ++ [p]) s.drv.passPairs
  (s.modDrv fun d => { d with passPairs := ps, passLand := land + 1, slotAt := some s.num }).emitNow .shortTest [(land : Int)]

section Slot
variable {s : State} (l : List Nat) (on : s.drv.passOn = true) (mode : s.passMode = true) (first : s.drv.slotAt ≠ some s.num)
  (early : s.frame.off ≤ 8800000)
include on mode first early

theorem testSlot_eq : s.testSlot l = if s.drv.passLand = 63 then (s.slotTested l).endPass else s.slotTested l := by
  have go : ¬((!s.drv.passOn || !s.passMode || decide (s.drv.slotAt = some s.num) || decide (8800000 < s.frame.off)) = true) := by
    simp [on, mode, first, early]
  have emits : ∀ u : State, u.emit .shortTest [(s.drv.passLand : Int)] = u.emitNow .shortTest [(s.drv.passLand : Int)] :=
    fun u => u.emit_of_not_held _ rfl
  unfold State.testSlot
  refine (if_neg go).trans ?_
  dsimp only
  rw [show (s.atNs 8800000).drv.passLand = s.drv.passLand from rfl, emits]
  rfl

end Slot

theorem slotTested_mem (s : State) (l : List Nat) (p : Nat × Nat) : p ∈ (s.slotTested l).drv.passPairs ↔
    p ∈ s.drv.passPairs ∨ ∃ x ∈ l, landNeighbours s.drv.passLand x = true ∧ p = orderPair s.drv.passLand x := by
  refine (mem_foldl_pairs s.drv.passLand _ s.drv.passPairs p).trans ?_
  simp only [List.mem_filter, and_assoc]
  rfl

theorem shortTestSlot_tests (s : State) (l : List Nat) (on : s.drv.passOn = true) (mode : s.passMode = true)
    (first : s.drv.slotAt ≠ some s.num) (early : s.frame.off ≤ 8800000) :
    (s.drv.passLand ≠ 63 →
      ∃ t, exec (.shortTestSlot l) s = .next t ∧ t.drv.passOn = true ∧ t.drv.passLand = s.drv.passLand + 1 ∧
        t.drv.slotAt = some s.num ∧
        (∀ p, p ∈ t.drv.passPairs ↔ p ∈ s.drv.passPairs ∨
          ∃ x ∈ l, landNeighbours s.drv.passLand x = true ∧ p = orderPair s.drv.passLand x) ∧
        ⟨.shortTest, [(s.drv.passLand : Int)]⟩ ∈ t.out ∧ t.regs = s.regs) ∧
    (s.drv.passLand = 63 → s.drv.passWait = [] →
      ∃ t, exec (.shortTestSlot l) s = .next t ∧ t.drv.passOn = false ∧ t.get F.DRV_STAT_START_DONE = 1 ∧
        (∀ p, p ∈ t.drv.oldPairs ↔ p ∈ s.drv.passPairs ∨ ∃ x ∈ l, landNeighbours 63 x = true ∧ p = orderPair 63 x) ∧
        (∀ o, s.drv.passBy = [o] → s.awaits o →
          t.ended o St.done [t.get F.DRV_SHORT_PWM_LANDS, t.get F.DRV_SHORT_SNS_LANDS])) ∧
    (s.drv.passLand = 63 → s.drv.passWait ≠ [] →
      ∃ t, exec (.shortTestSlot l) s = .next t ∧ t.drv.passOn = true ∧ t.drv.passLand = 0 ∧ t.drv.passBy = s.drv.passWait) := by
  have eq := testSlot_eq (s := s.begin) l on mode first early
  refine ⟨fun more => ?_, fun last quiet => ?_, fun last next => ?_⟩
  · rw [if_neg (show s.begin.drv.passLand ≠ 63 from more)] at eq
    refine ⟨_, congrArg (fun u => Host.Outcome.next (s.after u)) eq, on, rfl, rfl, slotTested_mem s.begin l, ?_, rfl⟩
    exact List.mem_append_right _ (List.mem_singleton.2 rfl)
  · rw [if_pos (show s.begin.drv.passLand = 63 from last)] at eq
    obtain ⟨off, done, pairs, told⟩ := endPass_over (s.begin.slotTested l) quiet
    refine ⟨_, congrArg (fun u => Host.Outcome.next (s.after u)) eq, ?_, ?_, fun p => ?_, fun o by_ waits => ?_⟩
    · rw [State.after_drv, off]
    · rw [State.after_get, done]
    · rw [State.after_drv, pairs, slotTested_mem, show s.begin.drv.passLand = 63 from last]
      rfl
    · have waits : (s.begin.slotTested l).awaits o := by cases o <;> exact waits
      rw [State.after_ended, State.after_get, State.after_get]
      exact told o by_ waits
  · rw [if_pos (show s.begin.drv.passLand = 63 from last)] at eq
    obtain ⟨on, land, by_⟩ := endPass_next (s.begin.slotTested l) next
    refine ⟨_, congrArg (fun u => Host.Outcome.next (s.after u)) eq, ?_, ?_, ?_⟩ <;> rw [State.after_drv]
    · exact on
    · exact land
    · exact by_

theorem shortTestSlot_idle (s : State) (l : List Nat)
    (h : s.drv.passOn = false ∨ s.passMode = false ∨ s.drv.slotAt = some s.num ∨ 8800000 < s.frame.off) : s.idle (.shortTestSlot l) := by
  refine State.idle_of (f := fun s => s.testSlot l) rfl (if_pos ?_)
  have h : s.begin.drv.passOn = false ∨ s.begin.passMode = false ∨ decide (s.begin.drv.slotAt = some s.begin.num) = true ∨
      decide (8800000 < s.begin.frame.off) = true := h.imp_right (Or.imp_right (Or.imp decide_eq_true decide_eq_true))
  rcases h with h | h | h | h <;> simp only [h, Bool.not_false, Bool.true_or, Bool.or_true]

/-! ### The start of a pass (R319) -/

theorem shortPassStart_starts (s : State) (off : s.drv.passOn = false) (mode : s.passMode = true)
    (due : s.drv.startPass = true ∨ (s.get F.DRV_SHORTCFG_EVERY ≠ 0 ∧ s.get F.DRV_SHORTCFG_EVERY * 1000000000 ≤ s.mono - s.drv.passAt)) :
    ∃ t, exec .shortPassStart s = .next t ∧ t.drv.passOn = true ∧ t.drv.passLand = 0 ∧ t.drv.passBy = s.drv.passWait ∧
      t.drv.passAt = s.mono ∧ { t with drv := s.drv, out := s.out } = s := by
  have eq : s.begin.passDue = s.begin.startPass.modDrv fun d => { d with startPass := false } := by
    have mode : s.begin.passMode = true := mode
    have off : s.begin.drv.passOn = false := off
    refine (if_neg (by rw [off]; decide)).trans (if_pos ?_)
    rw [mode, Bool.true_and]
    rcases due with h | ⟨h, late⟩
    · exact Bool.or_eq_true_iff.2 (.inl h)
    · exact Bool.or_eq_true_iff.2 (.inr (Bool.and_eq_true_iff.2 ⟨decide_eq_true h, decide_eq_true late⟩))
  refine ⟨s.after (s.begin.startPass.modDrv fun d => { d with startPass := false }), ?_, rfl, rfl, rfl, ?_, ?_⟩
  rotate_left
  · rfl
  · cases s; rfl
  exact congrArg (fun u => Host.Outcome.next (s.after u)) eq

theorem shortPassStart_idle (s : State) (h : s.drv.passOn = true ∨ s.passMode = false) : s.idle .shortPassStart := by
  refine State.idle_of (f := fun s => s.passDue) rfl ?_
  have h : s.begin.drv.passOn = true ∨ s.begin.passMode = false := h
  unfold State.passDue
  dsimp only
  rcases h with h | h
  · rw [if_pos h]
  · rw [h]
    split <;> rfl

/-- Settles O38: a slot's pairs, what the end of a pass tells and leaves, and the starts that find no pass under way. -/
theorem shortPassesRunOneAtATime : Obligations.ShortPassesRunOneAtATime := by
  unfold Obligations.ShortPassesRunOneAtATime
  refine ⟨shortTestSlot_tests, shortTestSlot_idle, shortPassStart_starts, shortPassStart_idle, fun s who may => ⟨fun off => ?_, fun on => ?_⟩,
    fun s o a may => ⟨fun off => ?_, fun on => ?_⟩⟩
  · have go : s.begin.shortGo = (s.begin.startPass, St.done) := if_neg (by rw [show s.begin.drv.passOn = false from off]; decide)
    have eq : exec (.shortCmdGo who) s = .next (s.after (s.begin.startPass.reply who St.done)) := by
      refine congrArg (fun u => Host.Outcome.next (s.after u)) ((State.gate_open may _).trans ?_)
      rw [go]
    refine ⟨_, eq, ?_, ?_, State.reply_out ..⟩ <;> rw [State.after_drv, State.reply_drv] <;> rfl
  · have go : s.begin.shortGo = (s.begin, St.busy) := if_pos on
    have eq : exec (.shortCmdGo who) s = .next (s.after (s.begin.reply who St.busy)) := by
      refine congrArg (fun u => Host.Outcome.next (s.after u)) ((State.gate_open may _).trans ?_)
      rw [go]
    rw [State.reply_eq] at eq
    exact ⟨_, eq, rfl, by cases s; rfl⟩
  · have res : svcShortTest s.begin o a = ((s.begin.modDrv fun d => { d with passWait := d.passWait ++ [o] }).startPass, St.pending, []) :=
      congrArg (fun u => (u, St.pending, [])) (if_neg (by show ¬s.drv.passOn = true; rw [off]; decide))
    obtain ⟨t, run, told, w⟩ := State.act_callSvc may rfl res (D := [.drv])
      ((within_modDrv _ _ (by decide)).trans (within_modDrv _ _ (by decide)))
    refine ⟨t, run, told, ?_, ?_, ?_⟩ <;> rw [w.drv] <;> rfl
  · have res : svcShortTest s.begin o a = (s.begin.modDrv fun d => { d with passWait := d.passWait ++ [o] }, St.pending, []) :=
      congrArg (fun u => (u, St.pending, [])) (if_pos on)
    obtain ⟨t, run, told, w⟩ := State.act_callSvc may rfl res (D := [.drv]) (within_modDrv _ _ (by decide))
    refine ⟨t, run, told, ?_, ?_⟩ <;> rw [w.drv] <;> rfl

end Sys2Proof.Machine

/-! ### Positioning (O39) -/
namespace Sys2Proof.Machine

/-! ### Fields of one index -/

/-- Two fields of one array are different cells at every index. -/
theorem State.get_put_at_ne (s : State) {f g : Fld} (i v : Nat) (hs : f.s1 = g.s1) (hk : f.key ≠ g.key) :
    (s.put (g.at i) v).get (f.at i) = s.get (f.at i) := by
  refine s.get_put_ne _ _ _ ?_
  rw [Fld.at_key, Fld.at_key, hs]
  intro h
  apply hk
  unfold Fld.key
  omega

/-- A single field below an array is none of its cells. -/
theorem State.get_put_below (s : State) {f g : Fld} (i v : Nat) (h : g.key < f.key) : (s.put g v).get (f.at i) = s.get (f.at i) := by
  refine s.get_put_ne _ _ _ ?_
  have key : f.key = f.addr * 32 + f.lo := rfl
  rw [Fld.at_key]
  have := Nat.zero_le (i * f.s1)
  omega

theorem State.get_put_above (s : State) {f g : Fld} (i v : Nat) (h : f.key < g.key) : (s.put (g.at i) v).get f = s.get f := by
  refine s.get_put_ne _ _ _ ?_
  have key : g.key = g.addr * 32 + g.lo := rfl
  rw [Fld.at_key]
  have := Nat.zero_le (i * g.s1)
  omega

/-! ### The receiver's channels (R352, R354) -/

theorem onTime_get (s : State) {c : Nat} {f : Fld} (hc : f.key ≠ (F.FRM_DCLS_CONSEC_CONSEC.at c).key) (hf : f.inLog = false) :
    (s.onTime c).get f = s.get f := by
  unfold State.onTime
  split
  · rfl
  · unfold State.classOnTime
    dsimp only
    rw [State.get_put_ne _ _ _ _ hc]
    split
    · rfl
    · exact s.log_get _ _ _ _ hf

theorem tickOver_get (s : State) {c : Nat} {f : Fld} (hc : f.key ≠ (F.FRM_DCLS_CONSEC_CONSEC.at c).key) (hf : f.inLog = false) :
    (s.tickOver c).get f = s.get f := by
  unfold State.tickOver
  split
  · rfl
  · exact onTime_get s hc hf

theorem State.onTime_pos (s : State) (c : Nat) : (s.onTime c).pos = s.pos := by
  unfold State.onTime
  split
  · rfl
  · unfold State.classOnTime
    dsimp only
    split
    · rfl
    · exact (within_log s _ _ _ _ (D := logParts) (by decide)).pos

theorem State.tickOver_pos (s : State) (c : Nat) : (s.tickOver c).pos = s.pos := by
  unfold State.tickOver
  split
  · rfl
  · exact s.onTime_pos c

/-- A tick of the tracking engines before its channels, and after them. -/
def State.tickStarted (s : State) : State := (s.atNs (s.pos.tick * 1000000)).modPos fun p => { p with tick := s.pos.tick + 1 }

def State.tickCounted (s : State) : State :=
  let l := SMap.vals s.pos.chans
  ((s.put F.GNS_STAT_TRACK (countP (fun c => c.lockA || c.lockB) l)).put F.GNS_STAT_DUAL (countP (fun c => c.lockA && c.lockB) l)).tickOver 6

/-- A channel whose observation has been taken. -/
def State.channelTaken (s : State) (c : ChanObs) (lost : List Nat) : State :=
  ((s.modPos fun p => { p with chans := SMap.insert p.chans c.ch c, lost := lost }).showChan c).keepEphem c

theorem trackingTick_eq {s : State} (on : s.receiverOn = true) (due : s.issued 1000000 s.pos.tick = true) (l : List ChanObs) :
    ∃ f, s.trackingTick l = (l.foldl f s.tickStarted).tickCounted ∧
      (∀ u c, c.ch < 96 → u.tickMissed 6 (c.ch / 48) = false → ∃ lost, f u c = u.channelTaken c lost) ∧
      ∀ u c, u.tickMissed 6 (c.ch / 48) = true → f u c = u := by
  have go : ¬((!s.receiverOn || !s.issued 1000000 s.pos.tick) = true) := by rw [on, due]; decide
  refine ⟨_, if_neg go, fun u c few heard => ⟨_, if_neg ?_⟩, fun u c lost => if_pos ?_⟩
  · rw [heard]
    simpa using few
  · rw [lost]
    simp

theorem tickCounted_pos (s : State) : s.tickCounted.pos = s.pos := State.tickOver_pos ..

/-- The count of the channels leaves what the registers of a channel show. -/
theorem tickCounted_get (s : State) {f : Fld} (k : Nat) (hk : k < 96) (hf : f ∈ [F.GNS_CH_STAT_STATE_L1, F.GNS_CH_STAT_STATE_L5, F.GNS_CH_STAT_CN0_L1,
    F.GNS_CH_STAT_CN0_L5]) : s.tickCounted.get (f.at k) = s.get (f.at k) := by
  have key : (f.at k).key = (f.addr + k * f.s1) * 32 + f.lo := Fld.at_key ..
  have all : ∀ g ∈ [F.GNS_CH_STAT_STATE_L1, F.GNS_CH_STAT_STATE_L5, F.GNS_CH_STAT_CN0_L1, F.GNS_CH_STAT_CN0_L5],
      g.addr = 0xB0404 ∧ g.s1 = 8 ∧ g.lo < 32 ∧ F.GNS_STAT_TRACK.key < g.key ∧ F.GNS_STAT_DUAL.key < g.key := by decide
  obtain ⟨addr, step, lo, track, dual⟩ := all f hf
  rw [addr, step] at key
  unfold State.tickCounted
  rw [tickOver_get _ (by rw [key]; show _ ≠ (F.FRM_DCLS_CONSEC_CONSEC.at 6).key; rw [Fld.at_key]; show _ ≠ (0x40104 + 6 * 16) * 32 + 0; omega)
    (by rw [Fld.inLog, key]; simp; omega), State.get_put_below _ _ _ dual, State.get_put_below _ _ _ track]

theorem keepEphem_get (s : State) (c : ChanObs) (f : Fld) : (s.keepEphem c).get f = s.get f := by
  unfold State.keepEphem
  split <;> rfl

/-- What the registers of a channel show. -/
theorem showChan_get (s : State) (c : ChanObs) :
    (s.showChan c).get (F.GNS_CH_STAT_STATE_L1.at c.ch) = (if c.sat = 0 then 0 else min 5 (max 1 c.stA)) ∧
    (s.showChan c).get (F.GNS_CH_STAT_STATE_L5.at c.ch) = (if c.sat = 0 then 0 else min 5 (max 1 c.stB)) ∧
    (s.showChan c).get (F.GNS_CH_STAT_CN0_L1.at c.ch) = (if c.sat = 0 then 0 else min 255 c.cn0A) ∧
    (s.showChan c).get (F.GNS_CH_STAT_CN0_L5.at c.ch) = (if c.sat = 0 then 0 else min 255 c.cn0B) := by
  have state : ∀ n, (if c.sat = 0 then 0 else min 5 (max 1 n)) % 2 ^ 4 = if c.sat = 0 then 0 else min 5 (max 1 n) := fun n => by
    split <;> omega
  have level : ∀ n, (if c.sat = 0 then 0 else min 255 n) % 2 ^ 8 = if c.sat = 0 then 0 else min 255 n := fun n => by
    split <;> omega
  unfold State.showChan
  dsimp only
  refine ⟨?_, ?_, ?_, ?_⟩ <;> simp (disch := decide) only [State.get_put_at_ne, State.get_put_self]
  · exact state _
  · exact state _
  · exact level _
  · exact level _

theorem trackingTick_takes (s : State) (c : ChanObs) (on : s.receiverOn = true) (due : s.issued 1000000 s.pos.tick = true) (few : c.ch < 96) :
    (s.tickMissed 6 (c.ch / 48) = false →
      ∃ t, exec (.trackingTick [c]) s = .next t ∧ t.pos.tick = s.pos.tick + 1 ∧ SMap.get? t.pos.chans c.ch = some c ∧
        t.get (F.GNS_CH_STAT_STATE_L1.at c.ch) = (if c.sat = 0 then 0 else min 5 (max 1 c.stA)) ∧
        t.get (F.GNS_CH_STAT_STATE_L5.at c.ch) = (if c.sat = 0 then 0 else min 5 (max 1 c.stB)) ∧
        t.get (F.GNS_CH_STAT_CN0_L1.at c.ch) = (if c.sat = 0 then 0 else min 255 c.cn0A) ∧
        t.get (F.GNS_CH_STAT_CN0_L5.at c.ch) = (if c.sat = 0 then 0 else min 255 c.cn0B) ∧
        (c.ephem = true → c.lockA = true ∨ c.lockB = true → c.sat ≠ 0 → SMap.get? t.pos.ephem c.sat = some s.rtc.t.secs)) ∧
    (s.tickMissed 6 (c.ch / 48) = true →
      ∃ t, exec (.trackingTick [c]) s = .next t ∧ t.pos = { s.pos with tick := s.pos.tick + 1 }) := by
  obtain ⟨f, eq, take, skip⟩ := trackingTick_eq (s := s.begin) on due [c]
  constructor
  · intro heard
    obtain ⟨lost, taken⟩ := take s.begin.tickStarted c few heard
    rw [List.foldl_cons, List.foldl_nil, taken] at eq
    have pos : (s.begin.tickStarted.channelTaken c lost).tickCounted.pos = (s.begin.tickStarted.channelTaken c lost).pos := tickCounted_pos _
    have chans : (s.begin.tickStarted.channelTaken c lost).pos.tick = s.pos.tick + 1 ∧
        (s.begin.tickStarted.channelTaken c lost).pos.chans = SMap.insert s.pos.chans c.ch c := by
      unfold State.channelTaken State.keepEphem
      split <;> exact ⟨rfl, rfl⟩
    have get : ∀ f ∈ [F.GNS_CH_STAT_STATE_L1, F.GNS_CH_STAT_STATE_L5, F.GNS_CH_STAT_CN0_L1, F.GNS_CH_STAT_CN0_L5],
        (s.begin.tickStarted.channelTaken c lost).tickCounted.get (f.at c.ch) =
          ((s.begin.tickStarted.modPos fun p => { p with chans := SMap.insert p.chans c.ch c, lost := lost }).showChan c).get (f.at c.ch) :=
      fun f hf => (tickCounted_get _ c.ch few hf).trans (keepEphem_get ..)
    obtain ⟨l1, l5, n1, n5⟩ := showChan_get (s.begin.tickStarted.modPos fun p => { p with chans := SMap.insert p.chans c.ch c, lost := lost }) c
    refine ⟨_, congrArg (fun u => Host.Outcome.next (s.after u)) eq, ?_, ?_, (get _ (by decide)).trans l1, (get _ (by decide)).trans l5,
      (get _ (by decide)).trans n1, (get _ (by decide)).trans n5, fun ephem lock sat => ?_⟩
    · exact (congrArg Positioning.tick pos).trans chans.1
    · rw [State.after_pos, pos, chans.2]
      exact SMap.get?_insert_self ..
    · rw [State.after_pos, pos]
      unfold State.channelTaken State.keepEphem
      rw [if_pos (by rcases lock with h | h <;> simp [ephem, h, sat])]
      exact SMap.get?_insert_self ..
  · intro missed
    rw [List.foldl_cons, List.foldl_nil, skip _ _ (show s.begin.tickStarted.tickMissed 6 (c.ch / 48) = true from missed)] at eq
    exact ⟨_, congrArg (fun u => Host.Outcome.next (s.after u)) eq, tickCounted_pos _⟩

/-! ### Observations (R362 to R367) -/

theorem Within.now {D : List Part} {s t : State} (h : Within D s t) (hf : .frame ∉ D := by decide) (ho : .offset ∉ D := by decide) :
    t.now = s.now := by
  unfold State.now
  rw [h.frame_proj Frame.start (fun _ => rfl) hf, h.offset ho]

theorem Within.curEpoch {D : List Part} {s t : State} (h : Within D s t) (hf : .frame ∉ D := by decide) : t.curEpoch = s.curEpoch := by
  unfold State.curEpoch
  rw [h.num hf]

theorem Within.obsEpoch {D : List Part} {s t : State} (h : Within D s t) (m : RtcmMsg) (hf : .frame ∉ D := by decide)
    (ho : .offset ∉ D := by decide) : t.obsEpoch m = s.obsEpoch m := by
  unfold State.obsEpoch
  rw [h.now hf ho]

theorem State.rovPos_of_pos {s t : State} (h : t.pos = s.pos) (r : Nat) : t.rovPos r = s.rovPos r := by rw [State.rovPos, h, ← State.rovPos]

theorem State.rovPos_setRovPos (s : State) (r : Nat) (p : RovPos) : (s.setRovPos r p).rovPos r = p := by
  unfold State.rovPos State.setRovPos
  exact SMap.getD_put_self ..

/-- An envelope of a rover that is heard is taken by its session; its message is then judged. -/
theorem obsEnvelope_acts {s : State} {r q : Nat} (m : RtcmMsg) (hr : r < 64) (hears : s.hears r q) (noBasic : s.mode ≠ .basic)
    (noRecovery : s.mode ≠ .recovery) (keyed : s.keys.zeroised = false) :
    ∃ u, Within [.sessions, .out] s u ∧ exec (.obsEnvelope r ⟨q, [m], false⟩) s = .next (s.after (u.rtcm r m)) := by
  obtain ⟨live, c, x, hc, hx, open_, fresh⟩ := hears
  have ctx : (s.begin.rovPos r).ctx = some c := hc
  have session : s.begin.session c = some x := hx
  have go : ¬((!s.begin.live || decide (s.begin.mode = .basic) || decide (s.begin.mode = .recovery) || s.begin.keys.zeroised) = true) := by
    have live : s.begin.live = true := live
    simp [live, noBasic, noRecovery, keyed]
  let u := s.begin.setSession c ((x.accept (q % 2 ^ 32)).complete (q % 2 ^ 32) [])
  have eq : s.begin.obsEnvelope r ⟨q, [m], false⟩ = (if u.role = .lead then u.emitNow .obsForward [(r : Int), (q % 2 ^ 32 : Nat)] else u).rtcm r m := by
    unfold State.obsEnvelope
    dsimp only
    rw [if_neg go, if_neg (by simp), ctx]
    dsimp only
    rw [session]
    dsimp only
    rw [if_neg (by simp [open_]), fresh]
    rfl
  have start : Within [.sessions, .out] s s.begin := within_begin _ (by decide)
  have taken : Within [.sessions, .out] s.begin u := within_setSession _ _ _ (by decide)
  refine ⟨_, (start.trans taken).trans ?_, congrArg (fun u => Host.Outcome.next (s.after u)) ((if_pos (decide_eq_true hr)).trans eq)⟩
  split
  · exact within_emitNow _ _ _ (by decide)
  · exact .refl ..

section Message
variable {s : State} {r : Nat} {m : RtcmMsg}

theorem rtcm_broken (h : m.preamble ≠ 0xD3 ∨ m.reserved ≠ 0 ∨ m.crcOk = false ∨ m.lenOk = false) : s.rtcm r m = s.inc F.GNS_CNT1_CRC_FAIL :=
  if_pos (by rcases h with h | h | h | h <;> simp [h])

theorem rtcm_known (typ : m.typ = 1077 ∨ m.typ = 1097 ∨ m.typ = 1117 ∨ m.typ = 1127) :
    ¬((decide (m.typ ≠ 1077) && decide (m.typ ≠ 1097) && decide (m.typ ≠ 1117) && decide (m.typ ≠ 1127)) = true) := by
  rcases typ with h | h | h | h <;> simp [h]

variable (pre : m.preamble = 0xD3) (res : m.reserved = 0) (crc : m.crcOk = true) (len : m.lenOk = true)
include pre res crc len

theorem rtcm_whole : ¬((decide (m.preamble ≠ 0xD3) || decide (m.reserved ≠ 0) || !m.crcOk || !m.lenOk) = true) := by
  simp [pre, res, crc, len]

theorem rtcm_unsupported (h : m.typ ≠ 1077 ∧ m.typ ≠ 1097 ∧ m.typ ≠ 1117 ∧ m.typ ≠ 1127) : s.rtcm r m = s.inc F.GNS_CNT2_UNSUPPORTED :=
  (if_neg (rtcm_whole pre res crc len)).trans (if_pos (by simp [h]))

variable (typ : m.typ = 1077 ∨ m.typ = 1097 ∨ m.typ = 1117 ∨ m.typ = 1127)
include typ

theorem rtcm_rejected (h : m.station ≠ s.get (F.GNS_RV_CFG_STATION.at r) ∨ s.obsEpoch m % 100 ≠ 0 ∨ (s.curEpoch : Int) * 10 < s.obsEpoch m) :
    s.rtcm r m = s.inc F.GNS_CNT2_REJECTED := by
  refine (if_neg (rtcm_whole pre res crc len)).trans ((if_neg (rtcm_known typ)).trans ?_)
  split
  · rfl
  · next station => exact if_pos (by rcases h with h | h | h; exacts [absurd h station, by simp [h], by simp [h]])

theorem rtcm_late (station : m.station = s.get (F.GNS_RV_CFG_STATION.at r)) (whole : s.obsEpoch m % 100 = 0)
    (h : s.obsEpoch m < (s.curEpoch : Int) * 10 ∨ (s.obsEpoch m = (s.curEpoch : Int) * 10 ∧ (s.rovPos r).closed = true)) :
    s.rtcm r m = (s.inc F.GNS_CNT1_LATE_OBS).inc (F.GNS_RV_CNT1_LATE.at r) := by
  refine (if_neg (rtcm_whole pre res crc len)).trans ((if_neg (rtcm_known typ)).trans ((if_neg (not_not.2 station)).trans
    ((if_neg ?_).trans (if_pos ?_))))
  · simp [whole]
    omega
  · rcases h with h | ⟨-, h⟩ <;> simp [h]

theorem rtcm_accepted (station : m.station = s.get (F.GNS_RV_CFG_STATION.at r)) (now : s.obsEpoch m = (s.curEpoch : Int) * 10)
    (whole : s.obsEpoch m % 100 = 0) (open_ : (s.rovPos r).closed = false) :
    s.rtcm r m = if m.more then s.setRovPos r { s.rovPos r with accepted := true, obs := (s.rovPos r).obs ++ [m] }
      else (s.setRovPos r { s.rovPos r with accepted := true, obs := (s.rovPos r).obs ++ [m] }).closeEpoch r := by
  refine (if_neg (rtcm_whole pre res crc len)).trans ((if_neg (rtcm_known typ)).trans ((if_neg (not_not.2 station)).trans
    ((if_neg ?_).trans (if_neg ?_))))
  · rw [whole, now]
    simp
  · simp [open_, now]

end Message

/-- The rover's part of a closed epoch. -/
theorem closeEpoch_rovPos (s : State) (r : Nat) : ((s.closeEpoch r).rovPos r).closed = true ∧
    ((s.closeEpoch r).rovPos r).accepted = (s.rovPos r).accepted ∧ ((s.closeEpoch r).rovPos r).obs = (s.rovPos r).obs ∧
    ((s.closeEpoch r).rovPos r).ctx = (s.rovPos r).ctx := by
  unfold State.closeEpoch
  extract_lets p cells gap slip n locks ms p' u
  split
  · next h => exact ⟨h, rfl, rfl, rfl⟩
  · have hu : u.rovPos r = p' := s.rovPos_setRovPos r p'
    have hp : p'.closed = true ∧ p'.accepted = p.accepted ∧ p'.obs = p.obs ∧ p'.ctx = p.ctx := by
      show (ite _ _ _ : RovPos).closed = true ∧ (ite _ _ _ : RovPos).accepted = _ ∧ (ite _ _ _ : RovPos).obs = _ ∧ (ite _ _ _ : RovPos).ctx = _
      split <;> exact ⟨rfl, rfl, rfl, rfl⟩
    have keeps : ∀ v : State, v.pos = u.pos → (v.rovPos r).closed = true ∧ (v.rovPos r).accepted = p.accepted ∧
        (v.rovPos r).obs = p.obs ∧ (v.rovPos r).ctx = p.ctx := fun v hv => by
      rw [State.rovPos_of_pos hv, hu]
      exact hp
    split
    · exact keeps _ rfl
    · exact keeps _ rfl

/-- A count that an envelope adds to, once its session has taken it. -/
theorem envelope_counts {s u : State} (w : Within [.sessions, .out] s u) {v : State} {f : Fld} (hv : v = u.inc f) (hmax : f.max = 65535)
    (hw : f.width = 16) : (s.after v).pos = s.pos ∧ (s.after v).get f = min 65535 (s.get f + 1) := by
  subst hv
  refine ⟨w.pos, ?_⟩
  rw [State.after_get, State.get_inc_word _ hmax hw, State.get, w.regs, ← State.get]

theorem obsEnvelope_judged (s : State) (r : Nat) (q : Nat) (m : RtcmMsg) (hr : r < 64) (hears : s.hears r q) (noBasic : s.mode ≠ .basic)
    (noRecovery : s.mode ≠ .recovery) (keyed : s.keys.zeroised = false) :
    (m.preamble ≠ 0xD3 ∨ m.reserved ≠ 0 ∨ m.crcOk = false ∨ m.lenOk = false →
      ∃ t, exec (.obsEnvelope r ⟨q, [m], false⟩) s = .next t ∧ t.pos = s.pos ∧
        t.get F.GNS_CNT1_CRC_FAIL = min 65535 (s.get F.GNS_CNT1_CRC_FAIL + 1)) ∧
    (m.preamble = 0xD3 → m.reserved = 0 → m.crcOk = true → m.lenOk = true →
      (m.typ ≠ 1077 → m.typ ≠ 1097 → m.typ ≠ 1117 → m.typ ≠ 1127 →
        ∃ t, exec (.obsEnvelope r ⟨q, [m], false⟩) s = .next t ∧ t.pos = s.pos ∧
          t.get F.GNS_CNT2_UNSUPPORTED = min 65535 (s.get F.GNS_CNT2_UNSUPPORTED + 1)) ∧
      (m.typ = 1077 ∨ m.typ = 1097 ∨ m.typ = 1117 ∨ m.typ = 1127 →
        (m.station ≠ s.get (F.GNS_RV_CFG_STATION.at r) ∨ s.obsEpoch m % 100 ≠ 0 ∨ (s.curEpoch : Int) * 10 < s.obsEpoch m →
          ∃ t, exec (.obsEnvelope r ⟨q, [m], false⟩) s = .next t ∧ t.pos = s.pos ∧
            t.get F.GNS_CNT2_REJECTED = min 65535 (s.get F.GNS_CNT2_REJECTED + 1)) ∧
        (m.station = s.get (F.GNS_RV_CFG_STATION.at r) → s.obsEpoch m % 100 = 0 →
          (s.obsEpoch m < (s.curEpoch : Int) * 10 ∨ (s.obsEpoch m = (s.curEpoch : Int) * 10 ∧ (s.rovPos r).closed = true) →
            ∃ t, exec (.obsEnvelope r ⟨q, [m], false⟩) s = .next t ∧ t.pos = s.pos ∧
              t.get F.GNS_CNT1_LATE_OBS = min 65535 (s.get F.GNS_CNT1_LATE_OBS + 1) ∧
              t.get (F.GNS_RV_CNT1_LATE.at r) = min 65535 (s.get (F.GNS_RV_CNT1_LATE.at r) + 1)) ∧
          (s.obsEpoch m = (s.curEpoch : Int) * 10 → (s.rovPos r).closed = false →
            ∃ t, exec (.obsEnvelope r ⟨q, [m], false⟩) s = .next t ∧ (t.rovPos r).accepted = true ∧
              (t.rovPos r).obs = (s.rovPos r).obs ++ [m] ∧ (t.rovPos r).closed = !m.more)))) := by
  obtain ⟨u, w, run⟩ := obsEnvelope_acts m hr hears noBasic noRecovery keyed
  have get : ∀ f : Fld, u.get f = s.get f := fun f => by rw [State.get, w.regs, ← State.get]
  refine ⟨fun h => ⟨_, run, envelope_counts w (rtcm_broken h) rfl rfl⟩, fun pre res crc len => ⟨fun h1 h2 h3 h4 =>
    ⟨_, run, envelope_counts w (rtcm_unsupported pre res crc len ⟨h1, h2, h3, h4⟩) rfl rfl⟩, fun typ => ⟨fun h => ?_, fun station whole =>
    ⟨fun h => ?_, fun now open_ => ?_⟩⟩⟩⟩
  · rw [← get, ← w.obsEpoch, ← w.curEpoch] at h
    exact ⟨_, run, envelope_counts w (rtcm_rejected pre res crc len typ h) rfl rfl⟩
  · rw [← get] at station
    rw [← w.obsEpoch] at whole
    rw [← w.obsEpoch, ← w.curEpoch, ← State.rovPos_of_pos w.pos] at h
    rw [rtcm_late pre res crc len typ station whole h] at run
    refine ⟨_, run, w.pos, ?_, ?_⟩
    · rw [State.after_get, State.inc_eq (u.inc _), State.get_put_above _ _ _ (by decide), State.get_inc_word _ rfl rfl, get]
    · rw [State.after_get, State.get_inc_word _ rfl rfl, State.inc_eq, State.get_put_below _ _ _ (by decide), get]
  · rw [← get] at station
    rw [← w.obsEpoch] at whole
    rw [← w.obsEpoch, ← w.curEpoch] at now
    rw [← State.rovPos_of_pos w.pos] at open_
    rw [rtcm_accepted pre res crc len typ station now whole open_, State.rovPos_of_pos w.pos] at run
    rw [State.rovPos_of_pos w.pos] at open_
    have self := u.rovPos_setRovPos r { s.rovPos r with accepted := true, obs := (s.rovPos r).obs ++ [m] }
    cases more : m.more with
    | true =>
      rw [more, if_pos rfl] at run
      refine ⟨_, run, ?_, ?_, ?_⟩ <;> rw [State.rovPos_of_pos (State.after_pos ..), self]
      exact open_
    | false =>
      rw [more, if_neg Bool.false_ne_true] at run
      obtain ⟨closed, accepted, obs, -⟩ := closeEpoch_rovPos (u.setRovPos r { s.rovPos r with accepted := true, obs := (s.rovPos r).obs ++ [m] }) r
      refine ⟨_, run, ?_, ?_, ?_⟩ <;> rw [State.rovPos_of_pos (State.after_pos ..)]
      · rw [accepted, self]
      · rw [obs, self]
      · exact closed

theorem obsEnvelope_discarded (s : State) (r : Nat) (e : ObsEnv) (hr : r < 64) (live : s.live = true) (noBasic : s.mode ≠ .basic)
    (noRecovery : s.mode ≠ .recovery) (keyed : s.keys.zeroised = false) (h : e.bad = true ∨ e.msgs = [] ∨ 8 < e.msgs.length) :
    ∃ t, exec (.obsEnvelope r e) s = .next t ∧ t.pos = s.pos ∧
      t.get (F.GNS_RV_CNT1_DISCARDED.at r) = min 65535 (s.get (F.GNS_RV_CNT1_DISCARDED.at r) + 1) := by
  have go : ¬((!s.begin.live || decide (s.begin.mode = .basic) || decide (s.begin.mode = .recovery) || s.begin.keys.zeroised) = true) := by
    have live : s.begin.live = true := live
    simp [live, noBasic, noRecovery, keyed]
  have eq : s.begin.obsEnvelope r e = s.begin.inc (F.GNS_RV_CNT1_DISCARDED.at r) :=
    (if_neg go).trans (if_pos (by rcases h with h | h | h <;> simp [h]))
  exact ⟨_, congrArg (fun u => Host.Outcome.next (s.after u)) ((if_pos (decide_eq_true hr)).trans eq), rfl, State.get_inc_word s.begin rfl rfl⟩

/-! ### The cutoff of an epoch (R367) and its solutions (R370) -/

/-- The close of another rover's epoch. -/
theorem closeEpoch_rest (s : State) (r : Nat) : (s.closeEpoch r).pos.cutAt = s.pos.cutAt ∧ (s.closeEpoch r).pos.lost = s.pos.lost ∧
    ∀ q, q ≠ r → (s.closeEpoch r).rovPos q = s.rovPos q := by
  unfold State.closeEpoch
  extract_lets p cells gap slip n locks ms p' u
  split
  · exact ⟨rfl, rfl, fun _ _ => rfl⟩
  · have other : ∀ q, q ≠ r → u.rovPos q = s.rovPos q := fun q hq => by
      show SMap.getD (SMap.put {} s.pos.rovers r p') q {} = SMap.getD s.pos.rovers q {}
      rw [SMap.getD, SMap.getD, SMap.get?_put_ne _ _ _ _ _ hq]
    have keeps : ∀ v : State, v.pos = u.pos → v.pos.cutAt = s.pos.cutAt ∧ v.pos.lost = s.pos.lost ∧ ∀ q, q ≠ r → v.rovPos q = s.rovPos q :=
      fun v hv => ⟨by rw [hv]; rfl, by rw [hv]; rfl, fun q hq => (State.rovPos_of_pos hv q).trans (other q hq)⟩
    split
    · exact keeps _ rfl
    · exact keeps _ rfl

theorem closeEpochs_close (l : List Nat) (s : State) : (l.foldl (fun s r => s.closeEpoch r) s).pos.cutAt = s.pos.cutAt ∧
    (l.foldl (fun s r => s.closeEpoch r) s).pos.lost = s.pos.lost ∧
    ∀ r, (s.rovPos r).closed = true ∨ r ∈ l → ((l.foldl (fun s r => s.closeEpoch r) s).rovPos r).closed = true := by
  induction l generalizing s with
  | nil => exact ⟨rfl, rfl, fun r h => h.resolve_right (List.not_mem_nil)⟩
  | cons a l ih =>
    obtain ⟨cut, lost, closed⟩ := ih (s.closeEpoch a)
    obtain ⟨cut', lost', other⟩ := closeEpoch_rest s a
    refine ⟨cut.trans cut', lost.trans lost', fun r h => closed r ?_⟩
    by_cases e : r = a
    · exact .inl (e ▸ (closeEpoch_rovPos s a).1)
    · rw [other r e]
      exact h.imp_right fun m => (List.mem_cons.1 m).resolve_left e

theorem State.utcEval_pos (s : State) : s.utcEval.pos = s.pos := rfl

theorem epochCutoff_closes (s : State) (res : Nat) (off : Int) (nav : Option (Nat × Nat)) (on : s.receiverOn = true)
    (first : s.pos.cutAt ≠ s.curEpoch + 1) (due : s.get F.GNS_RTK_CUTOFF * 1000000 ≤ s.num % 10 * 10000000 + 10000000) :
    ∃ t, exec (.epochCutoff res off nav) s = .next t ∧ t.pos.cutAt = s.curEpoch + 1 ∧ t.pos.lost = s.pos.lost ∧
      (∀ r, r < 64 → (s.rovPos r).ctx.isSome = true → (t.rovPos r).closed = true) := by
  let u : State := (s.begin.atNs (s.begin.get F.GNS_RTK_CUTOFF * 1000000 - s.begin.num % 10 * 10000000)).modPos fun p =>
    { p with cutAt := s.begin.curEpoch + 1 }
  let v : State := (roverIds.filter fun r => (u.rovPos r).ctx.isSome).foldl (fun s r => s.closeEpoch r) u
  obtain ⟨cut, lost, closed⟩ := closeEpochs_close (roverIds.filter fun r => (u.rovPos r).ctx.isSome) u
  have go : ¬((!s.begin.receiverOn || decide (s.begin.pos.cutAt = s.begin.curEpoch + 1) ||
      decide (s.begin.num % 10 * 10000000 + s.begin.frame.off - s.begin.frame.off + 10000000 < s.begin.get F.GNS_RTK_CUTOFF * 1000000)) = true) := by
    have on : s.begin.receiverOn = true := on
    have first : s.begin.pos.cutAt ≠ s.begin.curEpoch + 1 := first
    have due : s.begin.get F.GNS_RTK_CUTOFF * 1000000 ≤ s.begin.num % 10 * 10000000 + 10000000 := due
    rw [on, decide_eq_false first, decide_eq_false (by omega)]
    decide
  obtain ⟨w, eq, pos⟩ : ∃ w, s.begin.epochCutoff res off nav = w ∧ w.pos = v.pos := by
    refine ⟨_, if_neg go, ?_⟩
    show (if v.get F.GNS_STAT_RX < 2 then _ else _ : State).pos = v.pos
    split <;> rfl
  refine ⟨_, congrArg (fun u => Host.Outcome.next (s.after u)) eq, ?_, ?_, fun r hr ctx => ?_⟩
  · rw [State.after_pos, pos]
    exact cut
  · rw [State.after_pos, pos]
    exact lost
  · rw [State.rovPos_of_pos (State.after_pos ..), State.rovPos_of_pos pos]
    exact closed r (.inr (List.mem_filter.2 ⟨List.mem_range.2 hr, ctx⟩))

theorem epochCutoff_idle (s : State) (res : Nat) (off : Int) (nav : Option (Nat × Nat))
    (h : s.receiverOn = false ∨ s.pos.cutAt = s.curEpoch + 1 ∨ s.num % 10 * 10000000 + 10000000 < s.get F.GNS_RTK_CUTOFF * 1000000) :
    s.idle (.epochCutoff res off nav) := by
  refine State.idle_of (f := fun s => s.epochCutoff res off nav) rfl (if_pos ?_)
  have h : s.begin.receiverOn = false ∨ s.begin.pos.cutAt = s.begin.curEpoch + 1 ∨
      s.begin.num % 10 * 10000000 + 10000000 < s.begin.get F.GNS_RTK_CUTOFF * 1000000 := h
  rcases h with h | h | h
  · rw [h]
    rfl
  · rw [decide_eq_true h, Bool.or_true, Bool.true_or]
  · rw [Bool.or_eq_true]
    exact .inr (decide_eq_true (by omega))

theorem roverSolution_counts (s : State) (r : Nat) (x : SolIn) (hr : r < 64) :
    (s.epochCounts = true → (s.rovPos r).closed = true → (s.rovPos r).accepted = true → s.num % 10 < 8 →
      ∃ t, exec (.roverSolution r x) s = .next t ∧ t.rovPos r = { s.rovPos r with sol := some x }) ∧
    (s.epochCounts = false ∨ (s.rovPos r).closed = false ∨ (s.rovPos r).accepted = false ∨ 8 ≤ s.num % 10 →
      s.idle (.roverSolution r x)) := by
  have near : ∀ f : State → State, s.begin.when (decide (r < 64)) f = f s.begin := fun f => if_pos (decide_eq_true hr)
  constructor
  · intro counts closed accepted early
    have eq : s.begin.roverSolution r x = s.begin.setRovPos r { s.rovPos r with sol := some x } := by
      refine if_pos ?_
      have counts : s.begin.epochCounts = true := counts
      have closed : (s.begin.rovPos r).closed = true := closed
      have accepted : (s.begin.rovPos r).accepted = true := accepted
      have early : decide (s.begin.num % 10 < 8) = true := decide_eq_true early
      simp only [counts, closed, accepted, early, Bool.and_self]
    exact ⟨_, congrArg (fun u => Host.Outcome.next (s.after u)) ((near _).trans eq), s.begin.rovPos_setRovPos r _⟩
  · intro h
    refine State.idle_of (f := fun s => s.when (decide (r < 64)) fun s => s.roverSolution r x) rfl ((near _).trans (if_neg ?_))
    have h : s.begin.epochCounts = false ∨ (s.begin.rovPos r).closed = false ∨ (s.begin.rovPos r).accepted = false ∨
        decide (s.begin.num % 10 < 8) = false := h.imp_right (Or.imp_right (Or.imp_right fun h => decide_eq_false (not_lt.2 h)))
    rcases h with h | h | h | h <;> rw [h] <;> simp

/-! ### The antenna (R355) and the fix words (R382, R386) -/

theorem antStateChange_state (s : State) (mA : Nat) (lim : Bool) : ∃ t, exec (.antStateChange mA lim) s = .next t ∧
    t.get F.GNS_ANT_STATE = (if s.get F.GNS_ANT_BIAS_EN = 0 then 3 else if lim = true then 2 else if mA < 2 then 1 else 0) := by
  refine ⟨s.after (s.begin.antState mA lim), rfl, ?_⟩
  rw [State.after_get]
  unfold State.antState
  extract_lets on st old u v
  have fits : st % 2 ^ 2 = st := by
    have : st < 4 := by
      show ite _ _ (ite _ _ (ite _ _ _)) < 4
      split
      · decide
      · split
        · decide
        · split <;> decide
    omega
  have logged : (if (decide (st ≠ old) && (decide (st = 1) || decide (st = 2))) = true then v.log Sev.warning 0 F.GNS_ANT_STATE [] else v).get
      F.GNS_ANT_STATE = v.get F.GNS_ANT_STATE := by
    split
    · exact State.log_get _ _ _ _ _ (by decide)
    · rfl
  rw [logged, show v.get F.GNS_ANT_STATE = u.get F.GNS_ANT_STATE from State.get_put_ne _ _ _ _ (by decide),
    show u.get F.GNS_ANT_STATE = st % 2 ^ 2 from State.get_put_self .., fits]
  show (if (!decide (s.get F.GNS_ANT_BIAS_EN ≠ 0)) = true then 3 else _) = _
  by_cases h : s.get F.GNS_ANT_BIAS_EN = 0
  · simp [h]
  · simp [h]

theorem gnsFsel_selects (s : State) (who : Requester) (w : Word) (may : s.mayWrite who) :
    ∃ t, exec (.gnsFsel who w) s = .next t ∧ t.get F.GNS_FSEL_ROVER = w.toNat % 64 ∧
      t.out = [⟨.value, [(who.key : Int), St.done]⟩] := by
  refine ⟨_, congrArg (fun u => Host.Outcome.next (s.after u)) (State.gate_open may _), ?_, State.reply_out ..⟩
  rw [State.after_get, State.reply_get]
  show ((s.begin.put F.GNS_FSEL_ROVER (w.toNat % 64)).get F.GNS_FSEL_ROVER) = _
  rw [State.get_put_self]
  exact Nat.mod_mod ..

theorem roverStatus_answers (s : State) (o : Origin) (a : SvcArgs) (may : s.canCall o 0x0B0001) :
    (64 ≤ a.wa.toNat → ∃ t, exec (.roverStatus o a) s = .next t ∧ t.told o St.badArg [] ∧ t.pos = s.pos) ∧
    (a.wa.toNat < 64 → ∃ t l, exec (.roverStatus o a) s = .next t ∧ t.told o St.done ((s.fixWords a.wa.toNat).take 11 ++ l) ∧
      t.pos = s.pos) := by
  constructor
  · intro far
    obtain ⟨t, run, told, w⟩ := State.act_callSvc (f := svcRoverStatus) may rfl (if_pos far) (.refl [] _)
    exact ⟨t, run, told, w.pos⟩
  · intro near
    obtain ⟨t, run, told, w⟩ := State.act_callSvc (f := svcRoverStatus) may rfl (if_neg (not_le.2 near)) (.refl [] _)
    exact ⟨t, _, run, told, w.pos⟩

/-! ### The reference position (R356, R357) -/

theorem State.refPos_of_get {s t : State} (h : ∀ f ∈ [F.GNS_REF_X_LO_POS, F.GNS_REF_X_HI_POS, F.GNS_REF_Y_LO_POS, F.GNS_REF_Y_HI_POS,
    F.GNS_REF_Z_LO_POS, F.GNS_REF_Z_HI_POS], t.get f = s.get f) : t.refPos = s.refPos := by
  unfold State.refPos State.refCoord
  rw [h _ (by decide), h _ (by decide), h _ (by decide), h _ (by decide), h _ (by decide), h _ (by decide)]

theorem SMap.get?_mapVals {α β : Type} (m : SMap α) (g : α → β) (i : Nat) :
    SMap.get? (m.map fun p => (p.1, g p.2)) i = (SMap.get? m i).map g := by
  induction m with
  | nil => rfl
  | cons p m ih =>
    obtain ⟨k, v⟩ := p
    show (if k = i then some (g v) else SMap.get? (m.map fun p => (p.1, g p.2)) i) = (if k = i then some v else SMap.get? m i).map g
    split
    · rfl
    · exact ih

theorem filtersIdle_filter (s : State) (r : Nat) : (s.filtersIdle.rovPos r).filter = 0 := by
  show (SMap.getD (s.pos.rovers.map fun (q : Nat × RovPos) => (q.1, q.2.idle)) r {}).filter = 0
  rw [SMap.getD, SMap.get?_mapVals]
  cases SMap.get? s.pos.rovers r <;> rfl

theorem refGo_answers {s : State} {who : Requester} {w : Word} {u : State} {st : Nat} (may : s.mayWrite who)
    (h : s.begin.refWrite w.toNat = (u, st)) : exec (.refGo who w) s = .next (s.after (u.reply who st)) := by
  refine congrArg (fun u => Host.Outcome.next (s.after u)) ((State.gate_open may _).trans ?_)
  rw [h]

/-- GNS_REF_CFG as a write stores it. -/
def State.refStored (s : State) (mode minutes : Nat) : State := (s.put F.GNS_REF_CFG_MODE mode).put F.GNS_REF_CFG_SURVEY_MIN minutes

/-- The reference as GO leaves it. -/
def State.refStarted (s : State) (mode : Nat) : State :=
  if mode = 0 then s.putRefState 0
  else if mode = 1 then ((s.putRefState 2).put F.GNS_REF_STAT_SOURCE 0).put F.GNS_REF_STAT_SIGMA 0
  else ((s.modPos fun p => { p with
    surveyFrom := s.mono, surveyN := 0, surveyEpochs := 0, surveySum := (0, 0, 0), surveySq := 0 }).putRefState 1).put F.GNS_REF_STAT_PROGRESS 0

section RefWrite
variable {s : State} {w mode minutes : Nat} (hmode : mode = bits w 31 30) (hmin : minutes = bits w 15 0) (stop : s.mode = .stop)
  (known : mode ≠ 3) (long : 10 ≤ minutes) (short : minutes ≤ 1440)
include hmode hmin stop known long short

theorem refWrite_eq : s.refWrite w = if bit w 29 && mode = 1 && s.refImplausible then (s, St.refImplausible)
    else if !bit w 29 then (if mode = 0 then (s.refStored mode minutes).putRefState 0 else s.refStored mode minutes, St.done)
    else (((s.refStored mode minutes).refStarted mode).filtersIdle.log Sev.info 3 F.GNS_REF_STAT_STATE [], St.done) := by
  subst hmode hmin
  have args : ¬((decide (bits w 31 30 = 3) || decide (bits w 15 0 < 10) || decide (1440 < bits w 15 0)) = true) := by
    simp [known]
    omega
  exact (if_neg (not_not.2 stop)).trans (if_neg args)

end RefWrite

/-- The log and the filters leave what GO stored. -/
theorem refLogged_get (s : State) {f : Fld} (hf : f.inLog = false) :
    (s.filtersIdle.log Sev.info 3 F.GNS_REF_STAT_STATE []).get f = s.get f := State.log_get _ _ _ _ _ hf

theorem refLogged_pos (s : State) : (s.filtersIdle.log Sev.info 3 F.GNS_REF_STAT_STATE []).pos = s.filtersIdle.pos :=
  (within_log _ _ _ _ _ (D := logParts) (by decide)).pos

/-- The fields of the reference position. -/
abbrev refPosFields : List Fld := [F.GNS_REF_X_LO_POS, F.GNS_REF_X_HI_POS, F.GNS_REF_Y_LO_POS, F.GNS_REF_Y_HI_POS, F.GNS_REF_Z_LO_POS,
  F.GNS_REF_Z_HI_POS]

theorem refPos_inLog {f : Fld} (hf : f ∈ refPosFields) : f.inLog = false := by
  revert f
  decide

theorem refPos_key {f g : Fld} (hf : f ∈ refPosFields) (hg : ∀ f ∈ refPosFields, f.key ≠ g.key) : f.key ≠ g.key := hg f hf

theorem refStored_pos (s : State) (mode minutes : Nat) {f : Fld} (hf : f ∈ refPosFields) : (s.refStored mode minutes).get f = s.get f := by
  unfold State.refStored
  rw [State.get_put_ne _ _ _ _ (refPos_key hf (by decide)), State.get_put_ne _ _ _ _ (refPos_key hf (by decide))]

theorem refStored_mode (s : State) {mode : Nat} (h : mode < 4) (minutes : Nat) : (s.refStored mode minutes).get F.GNS_REF_CFG_MODE = mode := by
  unfold State.refStored
  rw [State.get_put_ne _ _ _ _ (by decide), State.get_put_self]
  exact Nat.mod_eq_of_lt h

theorem refStored_minutes (s : State) (mode : Nat) {minutes : Nat} (h : minutes < 65536) :
    (s.refStored mode minutes).get F.GNS_REF_CFG_SURVEY_MIN = minutes := by
  unfold State.refStored
  rw [State.get_put_self]
  exact Nat.mod_eq_of_lt h

theorem refState_pos (s : State) (st : Nat) {f : Fld} (hf : f ∈ refPosFields) : (s.putRefState st).get f = s.get f := by
  unfold State.putRefState State.putB
  rw [State.get_put_ne _ _ _ _ (refPos_key hf (by decide)), State.get_put_ne _ _ _ _ (refPos_key hf (by decide))]

theorem refState_get (s : State) (st : Nat) : (s.putRefState st).get F.GNS_REF_STAT_STATE = st % 4 := by
  unfold State.putRefState State.putB
  rw [State.get_put_ne _ _ _ _ (by decide), State.get_put_self]
  rfl

theorem refState_ok (s : State) (st : Nat) : (s.putRefState st).get F.GNS_STAT_REF_OK = b2n (decide (st = 2)) % 2 := by
  unfold State.putRefState State.putB
  rw [State.get_put_self]
  rfl

theorem refGo_judged (s : State) (who : Requester) (w : Word) (mode minutes : Nat) (may : s.mayWrite who) (hmode : mode = bits w.toNat 31 30)
    (hmin : minutes = bits w.toNat 15 0) :
    (s.mode ≠ .stop → ∃ t, exec (.refGo who w) s = .next t ∧ t.out = [⟨.value, [(who.key : Int), St.mode]⟩] ∧
      { t with out := s.out } = s) ∧
    (s.mode = .stop → mode = 3 ∨ minutes < 10 ∨ 1440 < minutes →
      ∃ t, exec (.refGo who w) s = .next t ∧ t.out = [⟨.value, [(who.key : Int), St.badArg]⟩] ∧ { t with out := s.out } = s) ∧
    (s.mode = .stop → mode = 0 → 10 ≤ minutes → minutes ≤ 1440 →
      ∃ t, exec (.refGo who w) s = .next t ∧ t.get F.GNS_REF_STAT_STATE = 0 ∧ t.get F.GNS_STAT_REF_OK = 0 ∧ t.refPos = s.refPos) ∧
    (s.mode = .stop → mode = 1 ∨ mode = 2 → 10 ≤ minutes → minutes ≤ 1440 → bit w.toNat 29 = false →
      ∃ t, exec (.refGo who w) s = .next t ∧ t.get F.GNS_REF_CFG_MODE = mode ∧ t.get F.GNS_REF_CFG_SURVEY_MIN = minutes ∧
        t.get F.GNS_REF_STAT_STATE = s.get F.GNS_REF_STAT_STATE ∧ t.pos = s.pos) ∧
    (s.mode = .stop → mode = 1 → 10 ≤ minutes → minutes ≤ 1440 → bit w.toNat 29 = true →
      (s.refImplausible = true → ∃ t, exec (.refGo who w) s = .next t ∧
        t.out = [⟨.value, [(who.key : Int), 0x0B02]⟩] ∧ { t with out := s.out } = s) ∧
      (s.refImplausible = false → ∃ t, exec (.refGo who w) s = .next t ∧ t.get F.GNS_REF_STAT_STATE = 2 ∧
        t.get F.GNS_STAT_REF_OK = 1 ∧ t.get F.GNS_REF_STAT_SOURCE = 0 ∧ t.refPos = s.refPos ∧
        (∀ r, (t.rovPos r).filter = 0))) ∧
    (s.mode = .stop → mode = 2 → 10 ≤ minutes → minutes ≤ 1440 → bit w.toNat 29 = true →
      ∃ t, exec (.refGo who w) s = .next t ∧ t.get F.GNS_REF_STAT_STATE = 1 ∧ t.get F.GNS_REF_CFG_SURVEY_MIN = minutes ∧
        t.pos.surveyFrom = s.mono ∧ t.pos.surveyN = 0 ∧ t.pos.surveyEpochs = 0) := by
  have refused : ∀ {st : Nat}, s.begin.refWrite w.toNat = (s.begin, st) → ∃ t, exec (.refGo who w) s = .next t ∧
      t.out = [⟨.value, [(who.key : Int), st]⟩] ∧ { t with out := s.out } = s := fun {st} h => by
    refine ⟨_, refGo_answers may h, State.reply_out .., ?_⟩
    rw [State.reply_eq]
    cases s
    rfl
  have done : ∀ {u : State}, s.begin.refWrite w.toNat = (u, St.done) → ∃ t, exec (.refGo who w) s = .next t ∧
      (∀ f, t.get f = u.get f) ∧ t.pos = u.pos := fun {u} h => by
    refine ⟨_, refGo_answers may h, fun f => ?_, ?_⟩
    · rw [State.after_get, State.reply_get]
    · rw [State.after_pos, State.reply_pos]
  refine ⟨fun mode_ => refused (if_pos mode_), fun stop args => refused ((if_neg (not_not.2 stop)).trans (if_pos ?_)),
    fun stop zero long short => ?_, fun stop which long short store => ?_, fun stop one long short go => ⟨fun far => ?_, fun near => ?_⟩,
    fun stop two long short go => ?_⟩
  · rw [← hmode, ← hmin]
    rcases args with h | h | h <;> simp [h]
  · have eq := refWrite_eq (s := s.begin) hmode hmin stop (by omega) long short
    rw [if_neg (by simp [zero])] at eq
    cases go : bit w.toNat 29 with
    | false =>
      rw [go, if_pos (by decide), if_pos zero] at eq
      obtain ⟨t, run, get, -⟩ := done eq
      refine ⟨t, run, (get _).trans ?_, (get _).trans ?_, State.refPos_of_get fun f hf => (get f).trans ?_⟩
      · exact refState_get _ 0
      · exact refState_ok _ 0
      · rw [refState_pos _ _ hf, refStored_pos _ _ _ hf, State.begin_get]
    | true =>
      rw [go, if_neg (by decide), State.refStarted, if_pos zero] at eq
      obtain ⟨t, run, get, -⟩ := done eq
      refine ⟨t, run, (get _).trans ?_, (get _).trans ?_, State.refPos_of_get fun f hf => (get f).trans ?_⟩
      · rw [refLogged_get _ (by decide)]
        exact refState_get _ 0
      · rw [refLogged_get _ (by decide)]
        exact refState_ok _ 0
      · rw [refLogged_get _ (refPos_inLog hf), refState_pos _ _ hf, refStored_pos _ _ _ hf, State.begin_get]
  · have eq := refWrite_eq (s := s.begin) hmode hmin stop (by omega) long short
    rw [store, if_neg (by simp), if_pos (by decide), if_neg (by omega)] at eq
    obtain ⟨t, run, get, pos⟩ := done eq
    refine ⟨t, run, (get _).trans ?_, (get _).trans ?_, (get _).trans ?_, pos⟩
    · exact refStored_mode _ (by omega) _
    · exact refStored_minutes _ _ (by omega)
    · unfold State.refStored
      simp (disch := decide) only [State.get_put_ne]
      rfl
  · have eq := refWrite_eq (s := s.begin) hmode hmin stop (by omega) long short
    have far : s.begin.refImplausible = true := far
    rw [if_pos (by rw [go, one, far]; decide)] at eq
    exact refused eq
  · have eq := refWrite_eq (s := s.begin) hmode hmin stop (by omega) long short
    have near : s.begin.refImplausible = false := near
    rw [if_neg (by rw [near]; simp), go, if_neg (by decide), State.refStarted, if_neg (by omega), if_pos one] at eq
    obtain ⟨t, run, get, pos⟩ := done eq
    refine ⟨t, run, (get _).trans ?_, (get _).trans ?_, (get _).trans ?_, State.refPos_of_get fun f hf => (get f).trans ?_, fun r => ?_⟩
    · rw [refLogged_get _ (by decide)]
      simp (disch := decide) only [State.get_put_ne]
      exact refState_get _ 2
    · rw [refLogged_get _ (by decide)]
      simp (disch := decide) only [State.get_put_ne]
      exact refState_ok _ 2
    · rw [refLogged_get _ (by decide)]
      simp (disch := decide) only [State.get_put_ne, State.get_put_self]
      rfl
    · rw [refLogged_get _ (refPos_inLog hf), State.get_put_ne _ _ _ _ (refPos_key hf (by decide)),
        State.get_put_ne _ _ _ _ (refPos_key hf (by decide)), refState_pos _ _ hf, refStored_pos _ _ _ hf, State.begin_get]
    · rw [State.rovPos_of_pos (pos.trans (refLogged_pos _))]
      exact filtersIdle_filter _ r
  · have eq := refWrite_eq (s := s.begin) hmode hmin stop (by omega) long short
    rw [if_neg (by simp [two]), go, if_neg (by decide), State.refStarted, if_neg (by omega), if_neg (by omega)] at eq
    obtain ⟨t, run, get, pos⟩ := done eq
    refine ⟨t, run, (get _).trans ?_, (get _).trans ?_, ?_, ?_, ?_⟩
    · rw [refLogged_get _ (by decide), State.get_put_ne _ _ _ _ (by decide)]
      exact refState_get _ 1
    · rw [refLogged_get _ (by decide), State.get_put_ne _ _ _ _ (by decide)]
      unfold State.putRefState State.putB
      simp (disch := decide) only [State.get_put_ne]
      exact refStored_minutes _ _ (by omega)
    all_goals rw [pos, refLogged_pos]; rfl

theorem surveyComplete_completes (s : State) (surveying : s.get F.GNS_REF_STAT_STATE = 1) (some_ : s.pos.surveyN ≠ 0)
    (late : s.pos.surveyFrom + s.get F.GNS_REF_CFG_SURVEY_MIN * 60000000000 ≤ s.mono) (most : 9 * s.pos.surveyEpochs ≤ 10 * s.pos.surveyN) :
    ∃ t, exec .surveyComplete s = .next t ∧ t.get F.GNS_REF_STAT_STATE = 2 ∧ t.get F.GNS_REF_STAT_SOURCE = 1 ∧
      (∀ r, (t.rovPos r).filter = 0) := by
  have surveying : s.begin.surveying = true := decide_eq_true surveying
  have some_ : decide ((s.begin.pos.surveyN : Int) = 0) = false := decide_eq_false (by exact_mod_cast some_)
  have late : decide (s.begin.mono < s.begin.pos.surveyFrom + s.begin.get F.GNS_REF_CFG_SURVEY_MIN * 60000000000) = false :=
    decide_eq_false (not_lt.2 late)
  have most : decide (10 * s.begin.pos.surveyN < 9 * s.begin.pos.surveyEpochs) = false := decide_eq_false (not_lt.2 most)
  obtain ⟨u, sigma, eq⟩ : ∃ (u : State) (sigma : Nat), s.begin.surveyComplete =
      (((u.putRefState 2).put F.GNS_REF_STAT_SOURCE 1).put F.GNS_REF_STAT_SIGMA sigma).filtersIdle.log Sev.info 3 F.GNS_REF_STAT_STATE [] := by
    refine ⟨_, _, if_neg ?_⟩
    rw [surveying, some_, late, most]
    decide
  refine ⟨_, congrArg (fun u => Host.Outcome.next (s.after u)) eq, ?_, ?_, fun r => ?_⟩
  · rw [State.after_get, refLogged_get _ (by decide)]
    simp (disch := decide) only [State.get_put_ne]
    exact refState_get _ 2
  · rw [State.after_get, refLogged_get _ (by decide)]
    simp (disch := decide) only [State.get_put_ne, State.get_put_self]
    rfl
  · rw [State.rovPos_of_pos (State.after_pos ..), State.rovPos_of_pos (refLogged_pos _)]
    exact filtersIdle_filter _ r

theorem surveyComplete_idle (s : State) (h : s.get F.GNS_REF_STAT_STATE ≠ 1 ∨
    s.mono < s.pos.surveyFrom + s.get F.GNS_REF_CFG_SURVEY_MIN * 60000000000 ∨ 10 * s.pos.surveyN < 9 * s.pos.surveyEpochs) :
    s.idle .surveyComplete := by
  refine State.idle_of (f := State.surveyComplete) rfl (if_pos ?_)
  have h : s.begin.surveying = false ∨
      decide (s.begin.mono < s.begin.pos.surveyFrom + s.begin.get F.GNS_REF_CFG_SURVEY_MIN * 60000000000) = true ∨
      decide (10 * s.begin.pos.surveyN < 9 * s.begin.pos.surveyEpochs) = true := h.imp decide_eq_false (Or.imp decide_eq_true decide_eq_true)
  rcases h with h | h | h <;> simp only [h, Bool.not_false, Bool.true_or, Bool.or_true]

/-! ### A rover's session (R359) -/

theorem roverSessionOpen_unknown (s : State) (cert slot : Nat)
    (none_ : ∀ r, r < 64 → s.get (F.GNS_RV_CFG_EN.at r) ≠ 0 → s.get (F.GNS_RV_CFG_CERT.at r) ≠ cert) :
    ∃ t, exec (.roverSessionOpen cert slot) s = .next t ∧ t.out = [⟨.value, [(Requester.sid0.key : Int), 0x0B01]⟩] ∧
      { t with out := s.out } = s := by
  have find : (roverIds.find? fun r => s.begin.flag (F.GNS_RV_CFG_EN.at r) && decide (s.begin.get (F.GNS_RV_CFG_CERT.at r) = cert)) = none := by
    rw [List.find?_eq_none]
    intro r hr named
    obtain ⟨en, named⟩ := Bool.and_eq_true_iff.1 named
    exact none_ r (List.mem_range.1 hr) (of_decide_eq_true en) (of_decide_eq_true named)
  have eq : s.begin.roverOpen cert slot = s.begin.reply .sid0 St.roverUnknown := by
    unfold State.roverOpen
    dsimp only
    rw [find]
  rw [State.reply_eq] at eq
  exact ⟨_, congrArg (fun u => Host.Outcome.next (s.after u)) eq, rfl, by cases s; rfl⟩

theorem openSession_some {s : State} {x : Session} {n : Nat} (h : (s.openSession x).2 = some n) :
    ∃ v, s.openSession x = (v, some n) ∧ v.pos = s.pos := by
  unfold State.openSession at h ⊢
  split at h
  · next quota =>
    rw [if_pos quota]
    refine ⟨s.setSession s.freeContext { x with lastAt := s.mono }, ?_, rfl⟩
    exact congrArg (Prod.mk _) h
  · cases h

theorem openSession_begin (s : State) (x : Session) : (s.begin.openSession x).2 = (s.openSession x).2 := by
  unfold State.openSession
  rw [show s.begin.quotaOk x.typ = s.quotaOk x.typ from rfl, show s.begin.freeContext = s.freeContext from rfl]
  split <;> rfl

theorem within_fleetOpened (s : State) (r : Nat) : Within roverParts s (s.fleetOpened r) := by
  unfold State.fleetOpened
  dsimp only
  split <;> simp (disch := decide) [State.sendConfig, State.holdMsg]

theorem roverSessionOpen_opens (s : State) (cert slot r n : Nat) (hr : r < 64) (en : s.get (F.GNS_RV_CFG_EN.at r) ≠ 0)
    (named : s.get (F.GNS_RV_CFG_CERT.at r) = cert)
    (first : ∀ q, q < r → s.get (F.GNS_RV_CFG_EN.at q) ≠ 0 → s.get (F.GNS_RV_CFG_CERT.at q) ≠ cert) (frames : s.framesOn = true)
    (running : s.phase = .running) (role : s.role ≠ .follower) (keyed : s.keys.zeroised = false) (ctx : (s.rovPos r).ctx = none)
    (opens : (s.openSession { typ := 1, peer := r, slot := slot, width := 32 }).2 = some n) :
    ∃ t, exec (.roverSessionOpen cert slot) s = .next t ∧ (t.rovPos r).ctx = some n ∧ (t.rovPos r).txSeq = 0 ∧
      (t.rovPos r).filter = (s.rovPos r).filter ∧ ⟨.value, [(Requester.sid0.key : Int), St.done, n]⟩ ∈ t.out := by
  have find : (roverIds.find? fun r => s.begin.flag (F.GNS_RV_CFG_EN.at r) && decide (s.begin.get (F.GNS_RV_CFG_CERT.at r) = cert)) = some r := by
    refine find_first hr ?_ fun q hq => ?_
    · exact Bool.and_eq_true_iff.2 ⟨decide_eq_true en, decide_eq_true named⟩
    · refine Bool.eq_false_iff.2 fun h => ?_
      obtain ⟨en, named⟩ := Bool.and_eq_true_iff.1 h
      exact first q hq (of_decide_eq_true en) (of_decide_eq_true named)
  have ok : (s.begin.framesOn && decide (s.begin.phase = .running) && decide (s.begin.role ≠ .follower) && !s.begin.keys.zeroised) = true := by
    have frames : s.begin.framesOn = true := frames
    simp [frames, running, role, keyed]
  obtain ⟨v, hv, pos⟩ := openSession_some ((openSession_begin ..).trans opens)
  have eq : s.begin.roverOpen cert slot = ((v.setRovPos r { v.rovPos r with ctx := some n, txSeq := 0 }).fleetOpened r).reply .sid0 St.done [n] := by
    unfold State.roverOpen
    dsimp only
    rw [find]
    dsimp only
    rw [ok, if_neg (by decide), show (s.begin.rovPos r).ctx = none from ctx]
    dsimp only
    rw [hv]
  have hp : v.rovPos r = s.rovPos r := State.rovPos_of_pos pos r
  have rover : (((v.setRovPos r { v.rovPos r with ctx := some n, txSeq := 0 }).fleetOpened r).reply .sid0 St.done [n]).rovPos r =
      { s.rovPos r with ctx := some n, txSeq := 0 } := by
    rw [State.rovPos_of_pos (State.reply_pos ..), State.rovPos_of_pos (within_fleetOpened ..).pos, State.rovPos_setRovPos, hp]
  refine ⟨_, congrArg (fun u => Host.Outcome.next (s.after u)) eq, ?_, ?_, ?_, ?_⟩
  · rw [State.rovPos_of_pos (State.after_pos ..), rover]
  · rw [State.rovPos_of_pos (State.after_pos ..), rover]
  · rw [State.rovPos_of_pos (State.after_pos ..), rover]
  · rw [State.after_out, State.reply_out]
    exact List.mem_append_right _ (List.mem_singleton.2 rfl)

/-- Settles O39: the channels of a tick, the judgement of an observation, the epoch's close, the reference, and a rover's session. -/
theorem positioningFollowsItsEpochs : Obligations.PositioningFollowsItsEpochs := by
  unfold Obligations.PositioningFollowsItsEpochs
  refine ⟨trackingTick_takes, fun s l h => ?_, obsEnvelope_judged, obsEnvelope_discarded, epochCutoff_closes, epochCutoff_idle,
    roverSolution_counts, antStateChange_state, refGo_judged, surveyComplete_completes, surveyComplete_idle, roverSessionOpen_unknown,
    roverSessionOpen_opens, gnsFsel_selects, roverStatus_answers⟩
  refine State.idle_of (f := fun s => s.trackingTick l) rfl (if_pos ?_)
  have h : s.begin.receiverOn = false ∨ s.begin.issued 1000000 s.begin.pos.tick = false := h
  rcases h with h | h <;> simp only [h, Bool.not_false, Bool.true_or, Bool.or_true]

end Sys2Proof.Machine

/-! ### Rovers and their tasks (O40) -/
namespace Sys2Proof.Machine

/-- A command that leaves the state in which its turn begins is idle. -/
theorem State.idle_run {s u : State} {c : Instr} (run : exec c s = .next (s.after u)) (h : u = s.begin) : s.idle c :=
  ⟨_, run, by rw [h]; rfl⟩

/-! ### The fleet's parts -/

theorem Within.mono_eq {D : List Part} {s t : State} (h : Within D s t) (hf : .frame ∉ D := by decide) (ho : .offset ∉ D := by decide)
    (ht : .time ∉ D := by decide) : t.mono = s.mono := by
  unfold State.mono
  rw [h.now hf ho, h.time ht]


theorem State.rover_of_fleet {s t : State} (h : t.fleet = s.fleet) (r : Nat) : t.rover r = s.rover r := by rw [State.rover, h, ← State.rover]

theorem State.task_of_fleet {s t : State} (h : t.fleet = s.fleet) (k : Nat) : t.task k = s.task k := by rw [State.task, h, ← State.task]

theorem State.rover_setRover (s : State) (r : Nat) (v : RovFleet) : (s.setRover r v).rover r = v := by
  unfold State.rover State.setRover
  exact SMap.getD_put_self ..

theorem State.rover_setRover_ne (s : State) {r j : Nat} (v : RovFleet) (h : j ≠ r) : (s.setRover r v).rover j = s.rover j := by
  show SMap.getD (SMap.put {} s.fleet.rovers r v) j {} = SMap.getD s.fleet.rovers j {}
  rw [SMap.getD, SMap.getD, SMap.get?_put_ne _ _ _ _ _ h]

@[simp] theorem State.task_setRover (s : State) (r : Nat) (v : RovFleet) (k : Nat) : (s.setRover r v).task k = s.task k := rfl

theorem State.task_setTask (s : State) (k : Nat) (x : Task) : (s.setTask k x).task k = some x := SMap.get?_insert_self ..

@[simp] theorem State.rover_setTask (s : State) (k : Nat) (x : Task) (r : Nat) : (s.setTask k x).rover r = s.rover r := rfl

theorem within_setTask (s : State) (k : Nat) (x : Task) : Within [.fleet] s (s.setTask k x) := by
  simp [State.setTask]

theorem roverEmit_fleet (s : State) (k : OutKind) (r : Nat) (l : List Nat) : (s.roverEmit k r l).fleet = s.fleet := by
  have emit : ∀ u : State, (u.emit k ((r :: l).map Int.ofNat)).fleet = u.fleet := fun u =>
    (within_emit u k _ (D := emitParts) (by decide)).fleet
  unfold State.roverEmit
  dsimp only
  rw [emit]
  split
  · split <;> rfl
  · rfl

/-- What messages to a rover leave of the fleet: everything but the rover's number and what waits for its ACK. -/
def State.SentTo (r : Nat) (s t : State) : Prop :=
  t.fleet.tasks = s.fleet.tasks ∧ (∃ q l, t.rover r = { s.rover r with seqOut := q, unacked := l }) ∧ ∀ j, j ≠ r → t.rover j = s.rover j

theorem State.sentTo_setRover (s : State) (r q : Nat) (l : List RovMsg) :
    s.SentTo r (s.setRover r { s.rover r with seqOut := q, unacked := l }) :=
  ⟨rfl, ⟨q, l, State.rover_setRover ..⟩, fun _ hj => State.rover_setRover_ne _ _ hj⟩

theorem State.SentTo.trans {r : Nat} {s t u : State} (h : s.SentTo r t) (k : t.SentTo r u) : s.SentTo r u := by
  obtain ⟨tasks, ⟨q, l, self⟩, other⟩ := h
  obtain ⟨tasks', ⟨q', l', self'⟩, other'⟩ := k
  exact ⟨tasks'.trans tasks, ⟨q', l', by rw [self', self]⟩, fun j hj => (other' j hj).trans (other j hj)⟩

theorem State.SentTo.of_fleet {r : Nat} {s t u : State} (h : s.SentTo r t) (fleet : u.fleet = t.fleet) : s.SentTo r u := by
  obtain ⟨tasks, ⟨q, l, self⟩, other⟩ := h
  exact ⟨(congrArg Fleet.tasks fleet).trans tasks, ⟨q, l, (State.rover_of_fleet fleet r).trans self⟩,
    fun j hj => (State.rover_of_fleet fleet j).trans (other j hj)⟩

theorem roverSend_sentTo (s : State) (r kind : Nat) (body : List Nat) : s.SentTo r (s.roverSend r kind body).1 := by
  unfold State.roverSend
  split
  · exact (s.sentTo_setRover r ((s.rover r).seqOut + 1) (s.rover r).unacked).of_fleet (roverEmit_fleet ..)
  · exact ⟨rfl, ⟨_, _, rfl⟩, fun _ _ => rfl⟩

theorem roverSendAcked_sentTo (s : State) (r kind : Nat) (body : List Nat) : s.SentTo r (s.roverSendAcked r kind body) := by
  have sent := roverSend_sentTo s r kind body
  unfold State.roverSendAcked
  dsimp only
  split
  · exact sent
  · exact sent.trans (State.sentTo_setRover _ r _ _)

/-- The hold of a rover takes the causes that are given. -/
theorem setHold_causes (s : State) (r causes : Nat) (paused : Bool) : ((s.setHold r causes paused).rover r).causes = causes ∧
    ((s.setHold r causes paused).rover r).resv = (s.rover r).resv := by
  unfold State.setHold
  dsimp only
  split
  · next h =>
    obtain ⟨same, -⟩ := Bool.and_eq_true_iff.1 h
    exact ⟨of_decide_eq_true same, rfl⟩
  · unfold State.holdMsg
    dsimp only
    obtain ⟨-, ⟨q, l, self⟩, -⟩ := roverSendAcked_sentTo (s.setRover r { s.rover r with causes := causes, paused := paused }) r Msg.hold
      [((s.setRover r { s.rover r with causes := causes, paused := paused }).rover r).level,
        ((s.setRover r { s.rover r with causes := causes, paused := paused }).rover r).causes]
    have causes : ∀ v : RovFleet, v = { s.rover r with causes := causes, paused := paused } →
        ({ v with seqOut := q, unacked := l } : RovFleet).causes = causes ∧ ({ v with seqOut := q, unacked := l } : RovFleet).resv = (s.rover r).resv := by
      rintro v rfl
      exact ⟨rfl, rfl⟩
    rw [self]
    exact causes _ (State.rover_setRover ..)

/-! ### Tasks that end -/

theorem endTask_eq {s : State} {k : Nat} {x : Task} (h : s.task k = some x) (st code cancelSt : Nat) :
    ∃ u, s.endTask k st code cancelSt = u ∧
      u.task k = some { x with st := st, code := code, finalAt := s.mono, assignBy := none, cancelBy := none } := by
  refine ⟨_, rfl, ?_⟩
  unfold State.endTask
  rw [h]
  dsimp only
  have ended : ∀ (u : State) (l : List Origin) (n : Nat), (u.finishAll l n).task k = u.task k := fun u l n =>
    State.task_of_fleet (within_finishAll u l n (D := finishParts) (by decide)).fleet k
  rw [ended, ended, State.task_setTask]
  rfl

/-- A message about a task that the rover no longer has. -/
theorem lateTask_counts (s : State) (r k : Nat) : (s.lateTask r k).fleet.tasks = s.fleet.tasks ∧
    (s.lateTask r k).get F.FLT_CNT1_LATE = min 65535 (s.get F.FLT_CNT1_LATE + 1) := by
  refine ⟨(roverSendAcked_sentTo ..).1, ?_⟩
  rw [State.get, State.lateTask, State.sendTaskCancel, (within_roverSendAcked _ r Msg.taskCancel (leBytes 2 k)).regs, ← State.get,
    State.get_inc_word s rfl rfl]

/-! ### The envelopes of a rover that is heard -/

/-- An envelope of a rover that is heard is taken by its session, which stays open; what it carries then acts. -/
theorem fromRover_heard {s : State} {r q : Nat} (h : s.hears r q) : ∃ u, Within [.sessions] s.begin u ∧
    (∀ k, s.begin.fromRover r q k = k u) ∧ ∀ o, s.awaits o → u.awaits o := by
  obtain ⟨live, c, x, hc, hx, open_, fresh⟩ := h
  have ctx : (s.begin.rovPos r).ctx = some c := hc
  have session : s.begin.session c = some x := hx
  have live : s.begin.live = true := live
  have stays : ((x.accept (q % 2 ^ 32)).complete (q % 2 ^ 32) []).state = 2 := by
    have taken : (x.accept (q % 2 ^ 32)).state = 2 := by
      unfold Session.accept
      dsimp only
      split <;> exact open_
    refine Eq.trans ?_ taken
    unfold Session.complete
    split <;> rfl
  refine ⟨s.begin.setSession c ((x.accept (q % 2 ^ 32)).complete (q % 2 ^ 32) []), within_setSession _ _ _ (by decide), fun k => ?_, fun o waits => ?_⟩
  · unfold State.fromRover
    rw [ctx]
    dsimp only
    rw [session]
    dsimp only
    rw [if_neg (by simp [live, open_]), fresh]
  · cases o with
    | quiet | command a => exact waits
    | program i j n => exact waits
    | host d n =>
      obtain ⟨y, hy, stands⟩ := waits
      by_cases e : d = c
      · subst e
        exact ⟨_, State.session_setSession_self .., by rw [stays]; decide⟩
      · exact ⟨y, (State.session_setSession_ne _ _ e).trans hy, stands⟩

theorem fromRover_unheard {s : State} {r q : Nat} (h : ¬s.hears r q) (k : State → State) : s.begin.fromRover r q k = s.begin := by
  unfold State.fromRover
  split
  · rfl
  · next c hc =>
    split
    · rfl
    · next x hx =>
      split
      · rfl
      · next go =>
        split
        · next fresh =>
          simp only [Bool.or_eq_true, Bool.not_eq_true', decide_eq_true_eq, not_or, Bool.not_eq_false, not_not] at go
          exact absurd ⟨go.1, c, x, hc, hx, go.2, fresh⟩ h
        · rfl

section Heard
variable {s : State} {r q : Nat} (h : s.hears r q) (on : s.fleetOn = true)
include h on

/-- What a command of a heard rover does: its effect on the state in which the session has taken the envelope. -/
theorem heard_acts : ∃ u, Within [.sessions] s.begin u ∧ (∀ o, s.awaits o → u.awaits o) ∧ ∀ f : State → State,
    s.act (fun s => s.fromRover r q fun s => s.when s.fleetOn f) = .next (s.after (f u)) := by
  obtain ⟨u, w, run, waits⟩ := fromRover_heard h
  have on : u.fleetOn = true := by
    have on : s.begin.fleetOn = true := on
    rw [← on]
    unfold State.fleetOn State.live
    rw [w.phase, w.mode, w.keys]
  exact ⟨u, w, waits, fun f => congrArg (fun u => Host.Outcome.next (s.after u)) ((run _).trans (if_pos on))⟩

theorem status_kept (b : StatusBody) : ∃ t, exec (.status r q b) s = .next t ∧
    t.rover r = { s.rover r with arrived := (s.rover r).arrived ++ [b], stAt := s.mono, lost := false } ∧
    (∀ j, j ≠ r → t.rover j = s.rover j) ∧ t.regs = s.regs := by
  obtain ⟨u, w, -, run⟩ := heard_acts h on
  have rover : ∀ j, u.rover j = s.rover j := State.rover_of_fleet w.fleet
  refine ⟨_, run _, (State.rover_setRover ..).trans ?_, fun j hj => (State.rover_setRover_ne _ _ hj).trans (rover j), w.regs⟩
  rw [rover, w.mono_eq]
  rfl

theorem routeReq_kept (d : Nat) : ∃ t, exec (.routeReq r q d) s = .next t ∧
    t.rover r = { s.rover r with routeReq := some (d, s.num) } ∧ (∀ j, j ≠ r → t.rover j = s.rover j) ∧ t.regs = s.regs := by
  obtain ⟨u, w, -, run⟩ := heard_acts h on
  have rover : ∀ j, u.rover j = s.rover j := State.rover_of_fleet w.fleet
  refine ⟨_, run _, (State.rover_setRover ..).trans ?_, fun j hj => (State.rover_setRover_ne _ _ hj).trans (rover j), w.regs⟩
  rw [rover, w.num]
  rfl

theorem releaseReq_kept : ∃ t, exec (.releaseReq r q) s = .next t ∧ t.rover r = { s.rover r with releaseArr := true } ∧ t.regs = s.regs := by
  obtain ⟨u, w, -, run⟩ := heard_acts h on
  refine ⟨_, run _, (State.rover_setRover ..).trans ?_, w.regs⟩
  rw [State.rover_of_fleet w.fleet]
  rfl

theorem taskAck_offered {k : Nat} {x : Task} (task : s.task k = some x) (mine : x.rover = r) (st : x.st = 2) :
    (∃ t, exec (.taskAck r q k false) s = .next t ∧ t.task k = some { x with st := 3, assignBy := none } ∧
      (t.rover r).routeReq = some (x.dest, s.num) ∧ ∀ o, x.assignBy = some o → s.awaits o → t.ended o St.done [r]) ∧
    (∃ t, exec (.taskAck r q k true) s = .next t ∧ t.task k = some { x with st := 1, rover := 0, assignBy := none } ∧
      ∀ o, x.assignBy = some o → s.awaits o → t.ended o St.taskRefused []) := by
  obtain ⟨u, w, waits, run⟩ := heard_acts h on
  have task : u.task k = some x := (State.task_of_fleet w.fleet k).trans task
  have offered : (decide (x.rover = r) && decide (x.st = 2)) = true := by simp [mine, st]
  constructor
  · let v := (u.setTask k { x with st := 3, assignBy := none }).setRover r { u.rover r with routeReq := some (x.dest, u.num) }
    have eq : u.taskAck r k false = x.assignBy.toList.foldl (fun s o => s.finish o St.done [r]) v := by
      unfold State.taskAck
      rw [task]
      exact (if_pos offered).trans (if_neg (by decide))
    have fleet : (x.assignBy.toList.foldl (fun s o => s.finish o St.done [r]) v).fleet = v.fleet :=
      (Within.foldl (.refl finishParts v) fun u o _ => within_finish u o St.done [r] (by decide)).fleet
    refine ⟨_, (run _).trans (congrArg (fun u => Host.Outcome.next (s.after u)) eq), ?_, ?_, fun o caller awaits => ?_⟩
    · exact (State.task_of_fleet (State.after_fleet ..) k).trans ((State.task_of_fleet fleet k).trans (State.task_setTask ..))
    · rw [State.rover_of_fleet (State.after_fleet ..), State.rover_of_fleet fleet, State.rover_setRover, w.num]
      rfl
    · rw [caller, State.after_ended]
      refine State.finish_ended _ _ (Within.awaits (D := [.fleet]) ?_ (waits o awaits))
      exact (within_setTask ..).trans (within_setRover ..)
  · have eq : u.taskAck r k true = (u.setTask k { x with st := 1, rover := 0, assignBy := none }).finishAll x.assignBy.toList St.taskRefused := by
      unfold State.taskAck
      rw [task]
      exact (if_pos offered).trans (if_pos rfl)
    refine ⟨_, (run _).trans (congrArg (fun u => Host.Outcome.next (s.after u)) eq), ?_, fun o caller awaits => ?_⟩
    · exact (State.task_of_fleet (State.after_fleet ..) k).trans
        ((State.task_of_fleet (within_finishAll _ _ _ (D := finishParts) (by decide)).fleet k).trans (State.task_setTask ..))
    · rw [caller, State.after_ended]
      exact State.finish_ended _ _ ((within_setTask ..).awaits (waits o awaits))

theorem taskEnd_active {k : Nat} {x : Task} (code : Nat) (failed : Bool) (task : s.task k = some x) (mine : x.rover = r) (st : x.st = 3) :
    ∃ t, exec (.taskEnd r q k failed code) s = .next t ∧ t.task k = some { x with
      st := if failed = true then 5 else 4, code := code, finalAt := s.mono, assignBy := none, cancelBy := none } := by
  obtain ⟨u, w, -, run⟩ := heard_acts h on
  have task : u.task k = some x := (State.task_of_fleet w.fleet k).trans task
  obtain ⟨v, eq, ended⟩ := endTask_eq task (if failed = true then 5 else 4) code St.taskFinal
  have act : u.taskEnd r k failed code = v := by
    unfold State.taskEnd
    rw [task]
    exact (if_pos (by simp [mine, st])).trans eq
  refine ⟨_, (run _).trans (congrArg (fun u => Host.Outcome.next (s.after u)) act), (State.task_of_fleet (State.after_fleet ..) k).trans (ended.trans ?_)⟩
  rw [w.mono_eq]
  rfl

theorem taskLate {k : Nat} (none_ : ∀ x, s.task k = some x → x.rover ≠ r ∨ (x.st ≠ 2 ∧ x.st ≠ 3)) :
    (∀ f, ∃ t, exec (.taskAck r q k f) s = .next t ∧ t.fleet.tasks = s.fleet.tasks ∧
      t.get F.FLT_CNT1_LATE = min 65535 (s.get F.FLT_CNT1_LATE + 1)) ∧
    (∀ f code, ∃ t, exec (.taskEnd r q k f code) s = .next t ∧ t.fleet.tasks = s.fleet.tasks ∧
      t.get F.FLT_CNT1_LATE = min 65535 (s.get F.FLT_CNT1_LATE + 1)) := by
  obtain ⟨u, w, -, run⟩ := heard_acts h on
  have none_ : ∀ x, u.task k = some x → x.rover ≠ r ∨ (x.st ≠ 2 ∧ x.st ≠ 3) := fun x hx =>
    none_ x ((State.task_of_fleet w.fleet k).symm.trans hx)
  obtain ⟨tasks, late⟩ := lateTask_counts u r k
  have counted : ∀ v, v = u.lateTask r k → (s.after v).fleet.tasks = s.fleet.tasks ∧
      (s.after v).get F.FLT_CNT1_LATE = min 65535 (s.get F.FLT_CNT1_LATE + 1) := by
    rintro v rfl
    refine ⟨?_, ?_⟩
    · rw [State.after_fleet, tasks, w.fleet]
      rfl
    · rw [State.after_get, late, State.get, w.regs]
      rfl
  refine ⟨fun f => ⟨_, run _, counted _ ?_⟩, fun f code => ⟨_, run _, counted _ ?_⟩⟩
  · unfold State.taskAck
    split
    · next x hx =>
      rw [if_neg, if_neg] <;> · rcases none_ x hx with h | ⟨h2, h3⟩ <;> simp [*]
    · rfl
  · unfold State.taskEnd
    split
    · next x hx =>
      rw [if_neg, if_neg] <;> · rcases none_ x hx with h | ⟨h2, h3⟩ <;> simp [*]
    · rfl

theorem roverAck_taken {m : RovMsg} (waiting : (s.rover r).unacked.find? (fun x => x.seq = m.seq) = some m) :
    ∃ t, exec (.roverAck r q m.seq) s = .next t ∧
      (t.rover r).unacked = (s.rover r).unacked.filter (fun x => x.seq ≠ m.seq) ∧
      (∀ x, m.kind = Msg.taskCancel → s.task (u16 m.body 0) = some x → x.st = 3 → x.rover = r → x.cancelBy.isSome = true →
        t.task (u16 m.body 0) = some { x with st := 6, finalAt := s.mono, assignBy := none, cancelBy := none }) := by
  obtain ⟨u, w, -, run⟩ := heard_acts h on
  have waiting : (u.rover r).unacked.find? (fun x => x.seq = m.seq) = some m := by rw [State.rover_of_fleet w.fleet]; exact waiting
  refine ⟨_, run _, ?_⟩
  unfold State.roverAcked
  dsimp only
  rw [waiting]
  dsimp only
  generalize config : (if m.kind = Msg.config then
    !((u.rover r).unacked.filter (fun x => decide (x.seq ≠ m.seq))).any (fun x => decide (x.kind = Msg.config)) else (u.rover r).configAcked) = acked
  let v := u.setRover r { u.rover r with
    unacked := (u.rover r).unacked.filter (fun x => decide (x.seq ≠ m.seq)), configAcked := acked }
  have left : (v.rover r).unacked = (s.rover r).unacked.filter (fun x => x.seq ≠ m.seq) := by
    rw [State.rover_setRover, State.rover_of_fleet w.fleet]
    rfl
  have task : ∀ k, v.task k = s.task k := State.task_of_fleet (s := s.begin) (t := u) w.fleet
  have mono : v.mono = s.mono := by
    show u.mono = s.begin.mono
    exact w.mono_eq
  have rovers : ∀ (k st code cancelSt : Nat), (v.endTask k st code cancelSt).fleet.rovers = v.fleet.rovers := fun k st code cancelSt => by
    unfold State.endTask
    split
    · rfl
    · dsimp only
      rw [(within_finishAll _ _ _ (D := finishParts) (by decide)).fleet, (within_finishAll _ _ _ (D := finishParts) (by decide)).fleet]
      rfl
  have kept : ∀ t : State, t.fleet.rovers = v.fleet.rovers → ((s.after t).rover r).unacked = (s.rover r).unacked.filter (fun x => x.seq ≠ m.seq) :=
    fun t ht => by rw [← left, State.rover, State.after_fleet, ht, ← State.rover]
  show ((s.after (if m.kind = Msg.taskCancel then _ else v)).rover r).unacked = _ ∧ ∀ x, m.kind = Msg.taskCancel → _ →
    _ → _ → _ → (s.after (if m.kind = Msg.taskCancel then _ else v)).task (u16 m.body 0) = _
  split
  · next cancel =>
    refine ⟨kept _ ?_, fun x _ hx active mine asked => ?_⟩
    · split
      · split
        · exact rovers ..
        · rfl
      · rfl
    · have hx : v.task (u16 m.body 0) = some x := (task _).trans hx
      obtain ⟨t, eq, ended⟩ := endTask_eq hx 6 x.code St.done
      rw [mono] at ended
      refine (State.task_of_fleet (State.after_fleet ..) _).trans (Eq.trans ?_ ended)
      rw [← eq]
      split
      · next y hy =>
        have : y = x := Option.some.inj (hy.symm.trans hx)
        subst this
        rw [if_pos (by simp [active, mine, asked])]
      · next no => exact absurd hx (by simp [show v.task (u16 m.body 0) = none from no])
  · next other => exact ⟨kept _ rfl, fun x cancel => absurd cancel other⟩

end Heard

theorem unheard_idle (s : State) (r q : Nat) (h : ¬s.hears r q) :
    (∀ b, s.idle (.status r q b)) ∧ (∀ d, s.idle (.routeReq r q d)) ∧ s.idle (.releaseReq r q) ∧
      (∀ k f, s.idle (.taskAck r q k f)) ∧ (∀ k f code, s.idle (.taskEnd r q k f code)) ∧ ∀ a, s.idle (.roverAck r q a) :=
  ⟨fun _ => State.idle_of (f := fun s => s.fromRover r q _) rfl (fromRover_unheard h _),
    fun _ => State.idle_of (f := fun s => s.fromRover r q _) rfl (fromRover_unheard h _),
    State.idle_of (f := fun s => s.fromRover r q _) rfl (fromRover_unheard h _),
    fun _ _ => State.idle_of (f := fun s => s.fromRover r q _) rfl (fromRover_unheard h _),
    fun _ _ _ => State.idle_of (f := fun s => s.fromRover r q _) rfl (fromRover_unheard h _),
    fun _ => State.idle_of (f := fun s => s.fromRover r q _) rfl (fromRover_unheard h _)⟩

/-! ### Repeats and silence (R393, R414) -/

theorem roverEmit_sent (s : State) (k : OutKind) (r : Nat) (l : List Nat) : (s.roverEmit k r l).sent k ((r :: l).map Int.ofNat) :=
  State.emit_sent ..

theorem fleetResend_repeats (s : State) (r : Nat) (m : RovMsg)
    (waiting : (s.rover r).unacked.find? (fun x => x.seq = m.seq) = some m) (on : s.fleetOn = true) (open_ : s.rovOpen r = true) :
    (s.past (m.at_ + s.get F.FLT_TMO_RESEND * 10000000) = true →
      ∃ t, exec (.fleetResend r m.seq) s = .next t ∧
        t.sent .rover ((r :: envelope m.kind m.seq m.body).map Int.ofNat) ∧
        (t.rover r).unacked = (s.rover r).unacked.map (fun x => if x.seq = m.seq then { x with at_ := s.mono } else x) ∧
        t.regs = s.regs) ∧
    (s.past (m.at_ + s.get F.FLT_TMO_RESEND * 10000000) = false → s.idle (.fleetResend r m.seq)) := by
  have waiting : (s.begin.rover r).unacked.find? (fun x => x.seq = m.seq) = some m := waiting
  have on : s.begin.fleetOn = true := on
  have open_ : s.begin.rovOpen r = true := open_
  constructor
  · intro due
    have due : s.begin.past (m.at_ + s.begin.get F.FLT_TMO_RESEND * frameNs) = true := due
    let v := s.begin.setRover r { s.rover r with
      unacked := (s.rover r).unacked.map (fun x => if x.seq = m.seq then { x with at_ := s.mono } else x) }
    have eq : s.begin.fleetResend r m.seq = v.roverEmit .rover r (envelope m.kind m.seq m.body) := by
      unfold State.fleetResend
      dsimp only
      rw [waiting]
      exact if_pos (by rw [on, open_, due]; rfl)
    refine ⟨_, congrArg (fun u => Host.Outcome.next (s.after u)) eq, (State.after_sent ..).2 (roverEmit_sent ..), ?_, ?_⟩
    · rw [State.rover_of_fleet (State.after_fleet ..), State.rover_of_fleet (roverEmit_fleet ..), State.rover_setRover]
    · rw [State.after_regs, (within_roverEmit ..).regs]
      rfl
  · intro early
    have early : s.begin.past (m.at_ + s.begin.get F.FLT_TMO_RESEND * frameNs) = false := early
    refine State.idle_of (f := fun s => s.fleetResend r m.seq) rfl ?_
    unfold State.fleetResend
    dsimp only
    rw [waiting]
    exact if_neg (by rw [early]; simp)

theorem roverLost_judged (s : State) (r : Nat) (on : s.fleetOn = true) (known : (s.rover r).st.isSome = true) (heard : (s.rover r).lost = false) :
    (s.past ((s.rover r).stAt + s.get F.FLT_TMO_STATUS_TMO * 100000000) = true →
      ∃ t, exec (.roverLost r) s = .next t ∧ t.rover r = { s.rover r with lost := true } ∧
        { t with fleet := s.fleet, out := s.out } = s) ∧
    (s.past ((s.rover r).stAt + s.get F.FLT_TMO_STATUS_TMO * 100000000) = false → s.idle (.roverLost r)) := by
  have on : s.begin.fleetOn = true := on
  have known : (s.begin.rover r).st.isSome = true := known
  have heard : (s.begin.rover r).lost = false := heard
  constructor
  · intro late
    have late : s.begin.past ((s.begin.rover r).stAt + s.begin.get F.FLT_TMO_STATUS_TMO * superNs) = true := late
    exact ⟨_, congrArg (fun u => Host.Outcome.next (s.after u)) (if_pos (by simp only [on, known, heard, late]; decide)),
      State.rover_setRover .., by cases s; rfl⟩
  · intro early
    have early : s.begin.past ((s.begin.rover r).stAt + s.begin.get F.FLT_TMO_STATUS_TMO * superNs) = false := early
    refine State.idle_of (f := fun s => s.when (s.fleetOn && (s.rover r).st.isSome && !(s.rover r).lost &&
      s.past ((s.rover r).stAt + s.get F.FLT_TMO_STATUS_TMO * superNs)) fun s => s.setRover r { s.rover r with lost := true }) rfl (if_neg ?_)
    rw [early]
    simp

/-! ### Times of a task (R408 to R410) -/

theorem taskTimes (s : State) (k : Nat) (x : Task) (task : s.task k = some x) :
    (s.fleetOn = true → x.st = 2 → s.past (x.offeredAt + s.get F.FLT_TMO_TASK_TMO * 100000000) = true →
      ∃ t, exec (.taskOfferTimeout k) s = .next t ∧ t.task k = some { x with st := 1, rover := 0, assignBy := none } ∧
        ∀ o, x.assignBy = some o → s.awaits o → t.ended o St.timeout []) ∧
    (x.st ≠ 2 → s.idle (.taskOfferTimeout k)) ∧
    (x.st ≤ 3 → x.deadline ≠ 0 → s.past (x.queuedAt + x.deadline * 1000000000) = true →
      ∃ t, exec (.taskDeadline k) s = .next t ∧
        t.task k = some { x with st := 5, code := 0xFFFF, finalAt := s.mono, assignBy := none, cancelBy := none }) ∧
    (4 ≤ x.st ∨ x.deadline = 0 → s.idle (.taskDeadline k)) ∧
    (4 ≤ x.st → s.past (x.finalAt + s.get F.FLT_CFG_KEEP * 100000000) = true →
      ∃ t, exec (.taskFree k) s = .next t ∧ t.fleet = { s.fleet with tasks := SMap.erase s.fleet.tasks k } ∧
        { t with fleet := s.fleet, out := s.out } = s) ∧
    (x.st < 4 → s.idle (.taskFree k)) := by
  have here : s.begin.task k = some x := task
  refine ⟨fun on st due => ?_, fun st => ?_, fun st limit due => ?_, fun h => ?_, fun st due => ?_, fun st => ?_⟩
  · have on : s.begin.fleetOn = true := on
    have due : s.begin.past (x.offeredAt + s.begin.get F.FLT_TMO_TASK_TMO * superNs) = true := due
    obtain ⟨u, eq, hu⟩ : ∃ u, exec (.taskOfferTimeout k) s = .next (s.after u) ∧
        u = (s.begin.setTask k { x with st := 1, rover := 0, assignBy := none }).finishAll x.assignBy.toList St.timeout := by
      refine ⟨_, rfl, ?_⟩
      dsimp only
      rw [here]
      exact if_pos (by simp only [on, st, due]; decide)
    subst hu
    refine ⟨_, eq, ?_, fun o caller awaits => ?_⟩
    · exact (State.task_of_fleet (State.after_fleet ..) k).trans
        ((State.task_of_fleet (within_finishAll _ _ _ (D := finishParts) (by decide)).fleet k).trans (State.task_setTask ..))
    · rw [caller, State.after_ended]
      exact State.finish_ended _ _ (Within.awaits (D := [.out, .fleet])
        ((within_begin s (by decide)).trans ((within_setTask s.begin k _).mono (by decide))) awaits)
  · refine State.idle_run rfl ?_
    dsimp only
    rw [here]
    exact if_neg (by simp [st])
  · have st : decide (x.st ≤ 3) = true := decide_eq_true st
    have limit : decide (x.deadline ≠ 0) = true := decide_eq_true limit
    have due : s.begin.past (x.queuedAt + x.deadline * 1000000000) = true := due
    obtain ⟨v, ended, final⟩ := endTask_eq here 5 0xFFFF St.taskFinal
    obtain ⟨u, eq, hu⟩ : ∃ u, exec (.taskDeadline k) s = .next (s.after u) ∧ u = if x.st = 3 then v.sendTaskCancel x.rover k else v := by
      refine ⟨_, rfl, ?_⟩
      dsimp only
      rw [here]
      rw [← ended]
      exact if_pos (by rw [st, limit, due]; rfl)
    have same : u.task k = v.task k := by
      rw [hu]
      split
      · exact congrArg (SMap.get? · k) (roverSendAcked_sentTo ..).1
      · rfl
    exact ⟨_, eq, (State.task_of_fleet (State.after_fleet ..) k).trans (same.trans final)⟩
  · refine State.idle_run rfl ?_
    dsimp only
    rw [here]
    refine if_neg ?_
    rcases h with h | h
    · rw [decide_eq_false (by omega)]
      simp
    · simp [h]
  · have st : decide (4 ≤ x.st) = true := decide_eq_true st
    have due : s.begin.past (x.finalAt + s.begin.get F.FLT_CFG_KEEP * superNs) = true := due
    obtain ⟨u, eq, hu⟩ : ∃ u, exec (.taskFree k) s = .next (s.after u) ∧
        u = s.begin.modFleet fun f => { f with tasks := SMap.erase f.tasks k } := by
      refine ⟨_, rfl, ?_⟩
      dsimp only
      rw [here]
      exact if_pos (by rw [st, due]; rfl)
    subst hu
    exact ⟨_, eq, rfl, by cases s; rfl⟩
  · refine State.idle_run rfl ?_
    dsimp only
    rw [here]
    refine if_neg ?_
    rw [decide_eq_false (by omega)]
    simp

theorem backoffExpiry_judged (s : State) (r : Nat) (waits : (s.rover r).backoffSegs ≠ []) :
    (s.past (s.rover r).backoffEnd = true → ∃ t, exec (.backoffExpiry r) s = .next t ∧
      t.rover r = { s.rover r with backoffSegs := [], backoffEnd := 0 } ∧ { t with fleet := s.fleet, out := s.out } = s) ∧
    (s.past (s.rover r).backoffEnd = false → s.idle (.backoffExpiry r)) := by
  have waits : decide ((s.begin.rover r).backoffSegs ≠ []) = true := decide_eq_true waits
  constructor
  · intro due
    have due : s.begin.past (s.begin.rover r).backoffEnd = true := due
    exact ⟨_, congrArg (fun u => Host.Outcome.next (s.after u)) (if_pos (by rw [waits, due]; rfl)), State.rover_setRover .., by cases s; rfl⟩
  · intro early
    have early : s.begin.past (s.begin.rover r).backoffEnd = false := early
    refine State.idle_of (f := fun s => s.when (decide ((s.rover r).backoffSegs ≠ []) && s.past (s.rover r).backoffEnd) fun s =>
      s.setRover r { s.rover r with backoffSegs := [], backoffEnd := 0 }) rfl (if_neg ?_)
    rw [early]
    simp

/-! ### The host's commands to a rover (R393, R411) -/

/-- A rover of which nothing is known and that holds nothing. -/
def RovFleet.forgotten (v : RovFleet) : RovFleet :=
  { v with st := none, extra := none, resv := [], revs := [], route := [], inbox := [], waitsFor := none }

theorem forgetRover_known {s : State} {r confirm : Nat} (h : confirm = confirmValue) (known : (s.rover r).lost = false) :
    s.forgetRover r confirm = (s, St.badArg) := (if_neg (not_not.2 h)).trans (if_pos (by rw [known]; rfl))

theorem forgetRover_lost {s : State} {r confirm : Nat} (h : confirm = confirmValue) (lost : (s.rover r).lost = true) :
    s.forgetRover r confirm = (s.setRover r (s.rover r).forgotten, St.done) :=
  (if_neg (not_not.2 h)).trans (if_neg (by rw [lost]; decide))

theorem roverCommands (s : State) (who : Requester) (r : Nat) (may : s.mayWrite who) :
    (∃ t, exec (.roverCmdHold who r) s = .next t ∧ (t.rover r).causes = withBit (s.rover r).causes Cause.host true ∧
      (t.rover r).resv = (s.rover r).resv ∧ ⟨.value, [(who.key : Int), St.done]⟩ ∈ t.out) ∧
    (∃ t, exec (.roverCmdRelease who r) s = .next t ∧ ⟨.value, [(who.key : Int), St.done]⟩ ∈ t.out ∧
      (t.rover r).causes = ([Cause.host, Cause.knot, Cause.intrusion] ++
        (if s.get F.STP_STAT_DECLARED ≠ 0 then [] else [Cause.lanyard])).foldl (fun c b => withBit c b false) (s.rover r).causes) ∧
    (∀ confirm, confirm ≠ 0x5AFE → ∃ t, exec (.forget who r confirm) s = .next t ∧
      t.out = [⟨.value, [(who.key : Int), St.confirm]⟩] ∧ { t with out := s.out } = s) ∧
    ((s.rover r).lost = false → ∃ t, exec (.forget who r 0x5AFE) s = .next t ∧
      t.out = [⟨.value, [(who.key : Int), St.badArg]⟩] ∧ { t with out := s.out } = s) ∧
    ((s.rover r).lost = true → ∃ t, exec (.forget who r 0x5AFE) s = .next t ∧ (t.rover r).resv = [] ∧ (t.rover r).revs = [] ∧
      (t.rover r).st = none ∧ (∀ j, j ≠ r → t.rover j = s.rover j) ∧ t.out = [⟨.value, [(who.key : Int), St.done]⟩]) := by
  have answered : ∀ u : State, ⟨.value, [(who.key : Int), St.done]⟩ ∈ (s.after (u.reply who St.done)).out := fun u => by
    rw [State.after_out, State.reply_eq]
    exact List.mem_append_right _ (List.mem_singleton_self _)
  have rover : ∀ (u : State) (st : Nat) (j : Nat), (s.after (u.reply who st)).rover j = u.rover j := fun u st j => by
    rw [State.reply_eq]
    rfl
  have forget : ∀ (confirm : Nat) (u : State) (st : Nat), s.begin.forgetRover r confirm = (u, st) →
      exec (.forget who r confirm) s = .next (s.after (u.reply who st)) := fun confirm u st h => by
    refine congrArg (fun u => Host.Outcome.next (s.after u)) ((State.gate_open may _).trans ?_)
    rw [h]
  have refused : ∀ (confirm : Nat) (st : Nat), s.begin.forgetRover r confirm = (s.begin, st) →
      ∃ t, exec (.forget who r confirm) s = .next t ∧ t.out = [⟨.value, [(who.key : Int), st]⟩] ∧ { t with out := s.out } = s :=
    fun confirm st h => by
      have eq := forget _ _ _ h
      rw [State.reply_eq] at eq
      exact ⟨_, eq, rfl, by cases s; rfl⟩
  refine ⟨?_, ?_, fun confirm h => refused _ _ (if_pos h), fun known => refused _ _ ?_, fun lost => ?_⟩
  · obtain ⟨causes, resv⟩ := setHold_causes s.begin r (withBit (s.rover r).causes Cause.host true) (s.rover r).paused
    refine ⟨_, congrArg (fun u => Host.Outcome.next (s.after u)) (State.gate_open may _), ?_, ?_, answered _⟩ <;> rw [rover]
    · exact causes
    · exact resv
  · refine ⟨_, congrArg (fun u => Host.Outcome.next (s.after u)) (State.gate_open may _), answered _, ?_⟩
    rw [rover]
    unfold State.roverReleaseCmd State.clearCauses
    refine (setHold_causes ..).1.trans ?_
    show List.foldl _ _ (_ ++ if s.flag F.STP_STAT_DECLARED = true then _ else _) = _
    simp only [State.flag, decide_eq_true_eq]
    rfl
  · have known : (s.begin.rover r).lost = false := known
    exact forgetRover_known rfl known
  · have lost : (s.begin.rover r).lost = true := lost
    have eq := forget 0x5AFE _ _ (forgetRover_lost rfl lost)
    refine ⟨_, eq, ?_, ?_, ?_, fun j hj => (rover ..).trans (State.rover_setRover_ne _ _ hj), State.reply_out ..⟩ <;>
      rw [rover, State.rover_setRover] <;> rfl

/-- Settles O40: an accepted envelope acts on the state in which its session has taken it, and one that is not accepted acts on nothing. -/
theorem roversAndTheirTasksAreKept : Obligations.RoversAndTheirTasksAreKept :=
  ⟨fun _ _ _ h on => ⟨status_kept h on, routeReq_kept h on, releaseReq_kept h on, fun _ _ task mine st => taskAck_offered h on task mine st,
      fun _ _ code failed task mine st => taskEnd_active h on code failed task mine st, fun _ none_ => taskLate h on none_,
      fun _ waiting => roverAck_taken h on waiting⟩,
    unheard_idle, fleetResend_repeats, roverLost_judged, taskTimes, backoffExpiry_judged, roverCommands⟩

end Sys2Proof.Machine

/-! ### A task with bad arguments on a full queue (O41) -/
namespace Sys2Proof.Machine

/-- A task of the lowest priority. -/
def plainTask : Task := { prio := 0, auto_ := false, cls := 0, dest := 0, action := 0 }

/-- A module in Run whose task queue is full, and whose first section has issued a call from its slot 0. -/
def fullQueue : State :=
  { phase := .running, mode := .run
    prog := { sects := [{ slots := [(0, { st := .issued })] }] }
    fleet := { tasks := (List.range 1024).map fun k => (k, plainTask) } }

/-- The arguments of a task with a reserved bit set in its first word. -/
def reservedTask : SvcArgs := { wa := 0, wb := 0, d := [0x800] }

theorem fullQueue_canCall : fullQueue.canCall (.program 0 0 0) 0x0C0001 :=
  ⟨by decide, nofun, by decide, by decide, rfl, rfl⟩

theorem fullQueue_full : 1024 ≤ fullQueue.fleet.tasks.length := by
  unfold fullQueue
  rw [List.length_map, List.length_range]

/-- The arguments are judged before the room in the queue. -/
theorem fullQueue_badArg : svcTaskQueue fullQueue.begin (.program 0 0 0) reservedTask = (fullQueue.begin, St.badArg, []) := by
  unfold svcTaskQueue
  exact if_pos (by decide)

/-- Refutes O41: the clause of the full queue does not ask for good arguments. On `fullQueue` a task with a reserved bit set is answered
BAD_ARG and not QUEUE_FULL. -/
theorem not_fleetCallsWaitForTheirFrame : ¬ Obligations.FleetCallsWaitForTheirFrame := by
  unfold Obligations.FleetCallsWaitForTheirFrame
  rintro ⟨-, full, -⟩
  obtain ⟨t, run, told, -⟩ := full fullQueue (.program 0 0 0) reservedTask fullQueue_canCall fullQueue_full
  obtain ⟨u, run', told', -⟩ := State.act_callSvc fullQueue_canCall rfl fullQueue_badArg (.refl [] _)
  have same : u = t := Host.Outcome.next.inj (run'.symm.trans run)
  subst same
  exact absurd (congrArg Slot.status (Eq.trans told'.symm told)) (by decide)

end Sys2Proof.Machine

/-! ### A declaration that ends its own caller (O42) -/
namespace Sys2Proof.Machine

/-- A module in Run with Stop not declared. Its hoist axis 0, which the Lanyard stops, moves for the call that the first section has
issued from its slot 0. -/
def ownMove : State :=
  let s : State :=
    { phase := .running, mode := .run
      prog := { sects := [{ slots := [(0, { st := .issued })] }] }
      drv := { axes := [(0, { st := .moving, moveBy := some (.program 0 0 0) })] } }
  (s.put F.STP_STAT_DECLARED 0).put (F.LOP_AX_CFG_LANYARD_STOP.at 0) 1

/-- The call of slot 0, as a declaration of Stop. -/
def noArgs : SvcArgs := { wa := 0, wb := 0, d := [] }

theorem ownMove_canCall : ownMove.canCall (.program 0 0 0) 0x0D0001 := ⟨by decide, nofun, by decide, by decide, rfl, rfl⟩

set_option maxRecDepth 8000 in
/-- The declaration stops the axis, which ends the call of slot 0. -/
theorem ownMove_ends : ∃ u, exec (.declareStop (.program 0 0 0) noArgs) ownMove = .next u ∧
    (SMap.getD (u.sect 0).slots 0 {}).st = .final := ⟨_, rfl, rfl⟩

/-- Refutes O42: on `ownMove` the declaration of Stop ends the movement, and with it the call itself, before the call is answered PENDING. -/
theorem not_stopIsDeclaredByItsCauses : ¬ Obligations.StopIsDeclaredByItsCauses := by
  unfold Obligations.StopIsDeclaredByItsCauses
  rintro ⟨-, -, -, -, -, -, -, -, -, -, -, -, -, -, -, -, declare⟩
  obtain ⟨t, run, told, -⟩ := declare ownMove (.program 0 0 0) noArgs ownMove_canCall
  obtain ⟨u, run', final⟩ := ownMove_ends
  have same : u = t := Host.Outcome.next.inj (run'.symm.trans run)
  subst same
  have active : (SMap.getD (u.sect 0).slots 0 {}).st = .active := told.2
  rw [final] at active
  cases active

end Sys2Proof.Machine

/-! ### STP_CMD and the stop key (O43) -/
namespace Sys2Proof.Machine

/-! ### Bits -/

theorem bit_eq_testBit (v i : Nat) : bit v i = v.testBit i := by
  rw [bit, Nat.testBit_eq_decide_div_mod_eq]

theorem bit_mod {v w i : Nat} (h : i < w) : bit (v % 2 ^ w) i = bit v i := by
  rw [bit_eq_testBit, bit_eq_testBit, Nat.testBit_mod_two_pow, decide_eq_true h, Bool.true_and]

theorem bit_withBit (v i : Nat) (b : Bool) : bit (withBit v i b) i = b := by
  unfold withBit
  split
  · next same => exact same
  · next other =>
    cases b with
    | true =>
      rw [if_pos rfl, bit_eq_testBit, Nat.add_comm, Nat.testBit_two_pow_add_eq, ← bit_eq_testBit]
      simpa using other
    | false =>
      have set : v / 2 ^ i % 2 = 1 := by simpa [bit] using other
      have pos := Nat.two_pow_pos i
      have split_ : v = 2 ^ i * (v / 2 ^ i) + v % 2 ^ i := (Nat.div_add_mod v (2 ^ i)).symm
      rw [if_neg (by decide), bit, decide_eq_false_iff_not]
      have quotient : (v - 2 ^ i) / 2 ^ i = v / 2 ^ i - 1 := by
        have := Nat.sub_mul_div v (2 ^ i) 1
        rwa [Nat.mul_one] at this
      rw [quotient]
      omega

/-! ### A declaration of Stop (R415) -/

/-- What a declaration writes of the STP registers. -/
def State.declaredNow (s : State) : State :=
  ((((s.put F.STP_STAT_DECLARED 1).lanyardOuts false).inc F.STP_CNT_STOPS).put F.STP_LAST_LO_FRAME (s.num % 2 ^ 32)).put
    F.STP_LAST_HI_FRAME (s.num / 2 ^ 32)

/-- What else a declaration changes: the STP registers stand. -/
abbrev stoppedParts : List Part :=
  [.regs, .block 0x19, .recs, .stp, .fleet, .drv, .light, .sessions, .slots, .cmdStat, .out, .held, .asked]

theorem declare_eq {s : State} (h : s.declared = false) : Within stoppedParts s.declaredNow s.declare := by
  unfold State.declare
  rw [h, if_neg Bool.false_ne_true]
  show Within stoppedParts s.declaredNow (((s.declaredNow.addCauseAll Cause.lanyard).axesLanyard.planeLanyardOn.vitTrigger (some 2) 3).extraBeat)
  simp (disch := decide)

/-- The fields that a declaration writes. -/
abbrev declareFields : List Fld :=
  [F.STP_STAT_DECLARED, F.STP_STAT_OUT_A, F.STP_STAT_OUT_B, F.STP_CNT_STOPS, F.STP_LAST_LO_FRAME, F.STP_LAST_HI_FRAME]

theorem declare_get (s : State) {f : Fld} (part : f.part ∉ stoppedParts) (other : ∀ g ∈ declareFields, f.key ≠ g.key) :
    s.declare.get f = s.get f := by
  cases h : s.declared with
  | true =>
    unfold State.declare
    rw [h, if_pos rfl]
  | false =>
    rw [(declare_eq h).get part]
    unfold State.declaredNow State.lanyardOuts State.putB
    have ne : ∀ g ∈ declareFields, ∀ (u : State) v, (u.put g v).get f = u.get f := fun g hg u v => u.get_put_ne _ _ _ (other g hg)
    rw [ne _ (by simp), ne _ (by simp), State.inc_eq, ne _ (by simp), State.emitNow_get, ne _ (by simp), ne _ (by simp), ne _ (by simp)]

theorem declare_declared (s : State) : s.declare.get F.STP_STAT_DECLARED ≠ 0 := by
  cases h : s.declared with
  | true =>
    unfold State.declare
    rw [h, if_pos rfl]
    exact of_decide_eq_true h
  | false =>
    rw [(declare_eq h).get]
    unfold State.declaredNow State.lanyardOuts State.putB
    simp (disch := decide) only [State.get_put_ne, State.get_put_self, State.inc_eq, State.emitNow_get]
    decide

theorem stopCause_declared (s : State) (b : Nat) (hold : Bool) : (s.stopCause b hold).get F.STP_STAT_DECLARED ≠ 0 := declare_declared _

theorem stopCause_latched (s : State) {b : Nat} (hold : Bool) (h : b < 9) : bit ((s.stopCause b hold).get F.STP_CAUSE_LATCHED) b = true := by
  have latched : bit ((s.put F.STP_CAUSE_LATCHED (withBit (s.get F.STP_CAUSE_LATCHED) b true)).get F.STP_CAUSE_LATCHED) b = true := by
    rw [State.get_put_self, show F.STP_CAUSE_LATCHED.width = 9 from rfl, bit_mod h, bit_withBit]
  unfold State.stopCause
  dsimp only
  rw [declare_get _ (by decide) (by decide)]
  split
  · rw [State.stopActive, State.get_put_ne _ _ _ _ (by decide)]
    exact latched
  · exact latched

/-- A cause that does not persist leaves the other STP registers. -/
theorem stopCause_get (s : State) (b : Nat) {f : Fld} (part : f.part ∉ stoppedParts) (other : ∀ g ∈ declareFields, f.key ≠ g.key)
    (latched : f.key ≠ F.STP_CAUSE_LATCHED.key) : (s.stopCause b false).get f = s.get f :=
  (declare_get _ part other).trans (State.get_put_ne _ _ _ _ latched)

/-! ### STP_CMD (R424, R425, Table 09.15) -/

/-- A requester with the role that a register asks for passes its gate. -/
theorem State.gate_pass {s : State} {who : Requester} {n : Nat} (role : n ≤ s.roleOf who) (serves : s.mode = .recovery → ∃ e, who = .engine e)
    (f : State → State) : s.begin.gate who n f = f s.begin := by
  unfold State.gate
  rw [if_neg (show ¬s.begin.roleOf who < n from not_lt.2 role)]
  cases who with
  | engine e => rfl
  | session c | sid0 =>
    have serves : s.mode ≠ .recovery := fun h => by obtain ⟨e, he⟩ := serves h; cases he
    exact if_neg (by show ¬((s.live && decide (s.mode = .recovery)) = true); simp [serves])

theorem State.gate_refuses {s : State} {who : Requester} {n : Nat} (role : s.roleOf who < n) (f : State → State) :
    s.begin.gate who n f = s.begin.reply who St.access := if_pos role

/-- STP_CMD_STAT after a command. -/
theorem stpStat_code (s : State) (code st : Nat) : (s.cmdStat F.STP_CMD_STAT_CODE F.STP_CMD_STAT_STATUS code st).get F.STP_CMD_STAT_CODE =
    code % 256 := by
  rw [State.cmdStat, State.get_put_ne _ _ _ _ (by decide), State.get_put_self]
  rfl

theorem stpStat_status (s : State) (code st : Nat) : (s.cmdStat F.STP_CMD_STAT_CODE F.STP_CMD_STAT_STATUS code st).get F.STP_CMD_STAT_STATUS =
    st % 65536 := by
  rw [State.cmdStat, State.get_put_self]
  rfl

theorem stpStat_get (s : State) (code st : Nat) {f : Fld} (h : f.key ≠ F.STP_CMD_STAT_CODE.key) (h' : f.key ≠ F.STP_CMD_STAT_STATUS.key) :
    (s.cmdStat F.STP_CMD_STAT_CODE F.STP_CMD_STAT_STATUS code st).get f = s.get f := by
  rw [State.cmdStat, State.get_put_ne _ _ _ _ h', State.get_put_ne _ _ _ _ h]

section Command
variable {s : State} {who : Requester} {c : Nat} (role : 2 ≤ s.roleOf who) (serves : s.mode = .recovery → ∃ e, who = .engine e)
include role serves

theorem stpDeclare_answers {u : State} {st : Nat} (h : s.begin.stpCmd who 1 c = (u, st)) :
    exec (.stpDeclare who c) s = .next (s.after (u.reply who st)) := by
  refine congrArg (fun u => Host.Outcome.next (s.after u)) ((State.gate_pass role serves _).trans ?_)
  rw [h]

theorem stpReset_answers {u : State} {st : Nat} (h : s.begin.stpCmd who 2 c = (u, st)) :
    exec (.stpReset who c) s = .next (s.after (u.reply who st)) := by
  refine congrArg (fun u => Host.Outcome.next (s.after u)) ((State.gate_pass role serves _).trans ?_)
  rw [h]

/-- A reset that is refused shows its status, and leaves the rest of the STP registers. -/
theorem stpReset_refused {st : Nat} (fits : st < 65536)
    (h : s.begin.stpCmd who 2 c = (s.begin.cmdStat F.STP_CMD_STAT_CODE F.STP_CMD_STAT_STATUS 2 st, st)) :
    ∃ t, exec (.stpReset who c) s = .next t ∧ t.get F.STP_CMD_STAT_STATUS = st ∧ t.get F.STP_STAT_DECLARED = s.get F.STP_STAT_DECLARED ∧
      t.get F.STP_CAUSE_LATCHED = s.get F.STP_CAUSE_LATCHED ∧ t.stp = s.stp := by
  refine ⟨_, stpReset_answers role serves h, ?_, ?_, ?_, ?_⟩
  · rw [State.after_get, State.reply_get, stpStat_status, Nat.mod_eq_of_lt fits]
  · rw [State.after_get, State.reply_get, stpStat_get _ _ _ (by decide) (by decide), State.begin_get]
  · rw [State.after_get, State.reply_get, stpStat_get _ _ _ (by decide) (by decide), State.begin_get]
  · rw [State.after_stp, State.reply_stp]
    rfl

end Command

theorem stpDeclare_declares (s : State) (who : Requester) (c : Nat) (role : 2 ≤ s.roleOf who) (may : s.mayWrite who) :
    ∃ t, exec (.stpDeclare who c) s = .next t ∧ bit (t.get F.STP_CAUSE_LATCHED) 6 = true ∧ t.get F.STP_STAT_DECLARED ≠ 0 ∧
      t.get F.STP_CAUSE_ACTIVE = s.get F.STP_CAUSE_ACTIVE ∧ t.get F.STP_CMD_STAT_CODE = 1 ∧ t.get F.STP_CMD_STAT_STATUS = St.done ∧
      ⟨.value, [(who.key : Int), St.done]⟩ ∈ t.out := by
  obtain ⟨u, hu⟩ : ∃ u, u = s.begin.stopCause StopBit.host false := ⟨_, rfl⟩
  have eq : s.begin.stpCmd who 1 c = (u.cmdStat F.STP_CMD_STAT_CODE F.STP_CMD_STAT_STATUS 1 St.done, St.done) := by
    rw [hu]
    rfl
  refine ⟨_, stpDeclare_answers role may.2 eq, ?_, ?_, ?_, ?_, ?_, ?_⟩
  · rw [State.after_get, State.reply_get, stpStat_get _ _ _ (by decide) (by decide), hu]
    exact stopCause_latched _ _ (by decide)
  · rw [State.after_get, State.reply_get, stpStat_get _ _ _ (by decide) (by decide), hu]
    exact stopCause_declared _ _ _
  · rw [State.after_get, State.reply_get, stpStat_get _ _ _ (by decide) (by decide), hu,
      stopCause_get _ _ (by decide) (by decide) (by decide), State.begin_get]
  · rw [State.after_get, State.reply_get, stpStat_code]
  · rw [State.after_get, State.reply_get, stpStat_status]
    rfl
  · rw [State.after_out, State.reply_out]
    exact List.mem_append_right _ (List.mem_singleton_self _)

theorem stpCmd_noAccess (s : State) (who : Requester) (c : Nat) (role : s.roleOf who < 2) :
    (∃ t, exec (.stpDeclare who c) s = .next t ∧ t.out = [⟨.value, [(who.key : Int), St.access]⟩] ∧ { t with out := s.out } = s) ∧
    (∃ t, exec (.stpReset who c) s = .next t ∧ t.out = [⟨.value, [(who.key : Int), St.access]⟩] ∧ { t with out := s.out } = s) := by
  have refused : ∀ f : State → State, ∃ t, (s.act fun s => s.gate who 2 f) = .next t ∧ t.out = [⟨.value, [(who.key : Int), St.access]⟩] ∧
      { t with out := s.out } = s := fun f => by
    have eq : (s.act fun s => s.gate who 2 f) = .next (s.after (s.begin.reply who St.access)) :=
      congrArg (fun u => Host.Outcome.next (s.after u)) (State.gate_refuses role f)
    rw [State.reply_eq] at eq
    exact ⟨_, eq, rfl, by cases s; rfl⟩
  exact ⟨refused _, refused _⟩

theorem extraBeat_grows (s : State) : State.Grows s s.extraBeat := by
  unfold State.extraBeat State.heartbeat
  split
  · split
    · exact .refl _
    · exact ⟨fun _ h => List.mem_append_left _ h, fun _ h => h⟩
  · exact .refl _

/-- The registers of a reset. -/
def State.permitted (s : State) : State := (((s.put F.STP_CAUSE_LATCHED 0).put F.STP_STAT_DECLARED 0).lanyardOuts true).inc F.STP_CNT_RESETS

theorem permit_eq (s : State) : Within [.light, .stp, .out] s.permitted s.permit ∧ State.Grows s.permitted s.permit := by
  have off : Within [.light] s.permitted s.permitted.planeLanyardOff := by
    unfold State.planeLanyardOff
    split
    · exact .refl ..
    · refine .foldl (.refl ..) fun v g _ => ?_
      split
      · exact within_changeAt ..
      · exact .refl ..
  have eq : s.permit = if s.declared = true then s.permitted.planeLanyardOff.extraBeat else s.permitted.planeLanyardOff := rfl
  rw [eq]
  split
  · exact ⟨(off.mono (by decide)).trans ((within_extraBeat _).mono (by decide)), off.grows.trans (extraBeat_grows _)⟩
  · exact ⟨off.mono (by decide), off.grows⟩

/-- The reset of the host: Y0 permits (R424). -/
theorem permit_resets (s : State) : s.permit.get F.STP_CAUSE_LATCHED = 0 ∧ s.permit.get F.STP_STAT_DECLARED = 0 ∧
    s.permit.get F.STP_STAT_OUT_A = 1 ∧ s.permit.get F.STP_STAT_OUT_B = 1 ∧
    s.permit.get F.STP_CNT_RESETS = min 255 (s.get F.STP_CNT_RESETS + 1) ∧ s.permit.fleet = s.fleet ∧ s.permit.role = s.role ∧
    ⟨.lanyardOut, [1, 1]⟩ ∈ s.permit.out := by
  obtain ⟨w, grows⟩ := permit_eq s
  have get : ∀ f, s.permit.get f = s.permitted.get f := fun f => by rw [State.get, w.regs, ← State.get]
  refine ⟨?_, ?_, ?_, ?_, ?_, w.fleet, w.role, grows.1 _ (List.mem_append_right _ (List.mem_singleton_self _))⟩
  case refine_5 =>
    rw [get, State.permitted, State.get_inc_byte _ rfl rfl, State.lanyardOuts, State.putB, State.putB]
    simp (disch := decide) only [State.get_put_ne, State.emitNow_get]
  all_goals
    rw [get, State.permitted, State.inc_eq, State.lanyardOuts, State.putB, State.putB]
    simp (disch := decide) only [State.get_put_ne, State.get_put_self, State.emitNow_get]
    decide

section HostReset
variable {s : State} {n : Nat} (role : 2 ≤ s.roleOf (.session n)) (serves : s.mode ≠ .recovery)
include role serves

theorem stpReset_unconfirmed (c : Nat) (h : c ≠ 0x5AFE) : ∃ t, exec (.stpReset (.session n) c) s = .next t ∧
    t.get F.STP_CMD_STAT_STATUS = St.confirm ∧ t.get F.STP_STAT_DECLARED = s.get F.STP_STAT_DECLARED ∧ t.stp = s.stp := by
  have eq : s.begin.stpCmd (.session n) 2 c = (s.begin.cmdStat F.STP_CMD_STAT_CODE F.STP_CMD_STAT_STATUS 2 St.confirm, St.confirm) := by
    unfold State.stpCmd
    dsimp only
    rw [if_neg (by decide), if_neg (by decide), if_pos (show c ≠ confirmValue from h)]
  obtain ⟨t, run, status, declared, -, stp⟩ := stpReset_refused role (fun h => absurd h serves) (by decide) eq
  exact ⟨t, run, status, declared, stp⟩

theorem stpReset_judged {st : Nat} (fits : st < 65536) (h : s.begin.resetRefusal = some st) : ∃ t, exec (.stpReset (.session n) 0x5AFE) s = .next t ∧
    t.get F.STP_CMD_STAT_STATUS = st ∧ t.get F.STP_STAT_DECLARED = s.get F.STP_STAT_DECLARED ∧
    t.get F.STP_CAUSE_LATCHED = s.get F.STP_CAUSE_LATCHED := by
  have eq : s.begin.stpCmd (.session n) 2 0x5AFE = (s.begin.cmdStat F.STP_CMD_STAT_CODE F.STP_CMD_STAT_STATUS 2 st, st) := by
    unfold State.stpCmd
    dsimp only
    rw [h, if_neg (by decide), if_neg (by decide), if_neg (by decide)]
  obtain ⟨t, run, status, declared, latched, -⟩ := stpReset_refused role (fun h => absurd h serves) fits eq
  exact ⟨t, run, status, declared, latched⟩

theorem stpReset_unhealthy (h : s.get F.STP_STAT_IN_A = 0 ∨ s.get F.STP_STAT_IN_B = 0 ∨ bit (s.get F.STP_CAUSE_ACTIVE) 2 = true) :
    ∃ t, exec (.stpReset (.session n) 0x5AFE) s = .next t ∧ t.get F.STP_CMD_STAT_STATUS = St.notHealthy ∧
      t.get F.STP_STAT_DECLARED = s.get F.STP_STAT_DECLARED ∧ t.get F.STP_CAUSE_LATCHED = s.get F.STP_CAUSE_LATCHED := by
  refine stpReset_judged role serves (by decide) (if_pos ?_)
  show (!decide (s.get F.STP_STAT_IN_A ≠ 0) || !decide (s.get F.STP_STAT_IN_B ≠ 0) || bit (s.get F.STP_CAUSE_ACTIVE) 2) = true
  rcases h with h | h | h <;> simp [h]

variable (inA : s.get F.STP_STAT_IN_A ≠ 0) (inB : s.get F.STP_STAT_IN_B ≠ 0) (agree : bit (s.get F.STP_CAUSE_ACTIVE) 2 = false)
include inA inB agree

omit role serves in
theorem reset_healthy : ¬((!s.begin.flag F.STP_STAT_IN_A || !s.begin.flag F.STP_STAT_IN_B ||
    bit (s.begin.get F.STP_CAUSE_ACTIVE) StopBit.discrepancy) = true) := by
  show ¬((!decide (s.get F.STP_STAT_IN_A ≠ 0) || !decide (s.get F.STP_STAT_IN_B ≠ 0) || bit (s.get F.STP_CAUSE_ACTIVE) 2) = true)
  simp [inA, inB, agree]

theorem stpReset_persists (h : s.get F.STP_CAUSE_ACTIVE ≠ 0 ∨ s.mode = .basic ∨ s.phase ≠ .running) :
    ∃ t, exec (.stpReset (.session n) 0x5AFE) s = .next t ∧
      t.get F.STP_CMD_STAT_STATUS = St.causePersists ∧ t.get F.STP_STAT_DECLARED = s.get F.STP_STAT_DECLARED := by
  have refused : s.begin.resetRefusal = some St.causePersists := by
    refine (if_neg (reset_healthy inA inB agree)).trans (if_pos ?_)
    show (decide (s.get F.STP_CAUSE_ACTIVE ≠ 0) || !(decide (s.mode = .stop) || decide (s.mode = .run) || decide (s.mode = .hold) ||
      decide (s.mode = .shadow)) || decide (s.phase ≠ .running)) = true
    rcases h with h | h | h <;> simp [h]
  obtain ⟨t, run, status, declared, -⟩ := stpReset_judged role serves (by decide) refused
  exact ⟨t, run, status, declared⟩

theorem stpReset_resets (none_ : s.get F.STP_CAUSE_ACTIVE = 0) (mode : s.mode = .stop ∨ s.mode = .run ∨ s.mode = .hold ∨ s.mode = .shadow)
    (phase : s.phase = .running) :
    ∃ t, exec (.stpReset (.session n) 0x5AFE) s = .next t ∧ t.get F.STP_CAUSE_LATCHED = 0 ∧ t.get F.STP_STAT_DECLARED = 0 ∧
      t.get F.STP_STAT_OUT_A = 1 ∧ t.get F.STP_STAT_OUT_B = 1 ∧
      t.get F.STP_CNT_RESETS = min 255 (s.get F.STP_CNT_RESETS + 1) ∧ t.get F.STP_CMD_STAT_CODE = 2 ∧
      t.get F.STP_CMD_STAT_STATUS = St.done ∧ t.fleet = s.fleet ∧ ⟨.lanyardOut, [1, 1]⟩ ∈ t.out ∧
      (s.role = .lead → ⟨.copyRecord, [0, 1]⟩ ∈ t.out) := by
  have permits : s.begin.resetRefusal = none := by
    refine (if_neg (reset_healthy inA inB agree)).trans (if_neg ?_)
    show ¬((decide (s.get F.STP_CAUSE_ACTIVE ≠ 0) || !(decide (s.mode = .stop) || decide (s.mode = .run) || decide (s.mode = .hold) ||
      decide (s.mode = .shadow)) || decide (s.phase ≠ .running)) = true)
    rcases mode with h | h | h | h <;> simp [h, none_, phase]
  obtain ⟨latched, declared, outA, outB, resets, fleet, role_, outs⟩ := permit_resets s.begin
  let u := if s.begin.permit.role = .lead then s.begin.permit.emitNow .copyRecord [(0 : Int), 1] else s.begin.permit
  have eq : s.begin.stpCmd (.session n) 2 0x5AFE = (u.cmdStat F.STP_CMD_STAT_CODE F.STP_CMD_STAT_STATUS 2 St.done, St.done) := by
    unfold State.stpCmd
    dsimp only
    rw [permits, if_neg (by decide), if_neg (by decide), if_neg (by decide)]
  have get : ∀ f, u.get f = s.begin.permit.get f := fun f => by
    show (ite _ _ _ : State).get f = _
    split <;> rfl
  have out : (⟨.lanyardOut, [1, 1]⟩ : Out) ∈ u.out := by
    show _ ∈ (ite _ _ _ : State).out
    split
    · exact List.mem_append_left _ outs
    · exact outs
  have kept : ∀ o, o ∈ u.out →
      o ∈ (s.after ((u.cmdStat F.STP_CMD_STAT_CODE F.STP_CMD_STAT_STATUS 2 St.done).reply (.session n) St.done)).out := fun o h => by
    rw [State.after_out, State.reply_out]
    exact List.mem_append_left _ h
  refine ⟨_, stpReset_answers role (fun h => absurd h serves) eq, ?_, ?_, ?_, ?_, ?_, ?_, ?_, ?_, kept _ out, fun lead => kept _ ?_⟩
  case refine_6 => rw [State.after_get, State.reply_get, stpStat_code]
  case refine_7 => rw [State.after_get, State.reply_get, stpStat_status]; rfl
  case refine_8 =>
    rw [State.after_fleet, State.reply_fleet]
    show (ite _ _ _ : State).fleet = s.fleet
    split <;> exact fleet
  case refine_9 =>
    have lead : s.begin.permit.role = .lead := role_.trans lead
    show _ ∈ (if s.begin.permit.role = .lead then s.begin.permit.emitNow .copyRecord [(0 : Int), 1] else s.begin.permit).out
    rw [if_pos lead]
    exact List.mem_append_right _ (List.mem_singleton_self _)
  all_goals rw [State.after_get, State.reply_get, stpStat_get _ _ _ (by decide) (by decide), get]; assumption

end HostReset

theorem stpReset_engine (s : State) (e c : Nat) : ∃ t, exec (.stpReset (.engine e) c) s = .next t ∧ t.get F.STP_CMD_STAT_STATUS = St.access ∧
    t.get F.STP_STAT_DECLARED = s.get F.STP_STAT_DECLARED ∧ t.get F.STP_CAUSE_LATCHED = s.get F.STP_CAUSE_LATCHED := by
  have eq : s.begin.stpCmd (.engine e) 2 c = (s.begin.cmdStat F.STP_CMD_STAT_CODE F.STP_CMD_STAT_STATUS 2 St.access, St.access) := rfl
  obtain ⟨t, run, status, declared, latched, -⟩ := stpReset_refused (le_refl 2) (fun _ => ⟨e, rfl⟩) (by decide) eq
  exact ⟨t, run, status, declared, latched⟩

/-! ### The stop key (R421) -/

theorem stopKeySwitch_switches (s : State) (k : Nat) (new : s.stp.newKey = some k) (start : s.num % 10 = 0)
    (ready : (∀ r, r < 64 → s.rovOpen r = true → (s.rover r).configAcked = true) ∨ s.past (s.stp.newKeyAt + 60000000000) = true) :
    ∃ t, exec .stopKeySwitch s = .next t ∧ t.get F.STP_STAT_KEYID = k % 256 ∧ t.stp.prevKey = s.get F.STP_STAT_KEYID ∧
      t.stp.prevKeyOctets = s.stp.key ∧ t.stp.key = s.workingKey k ∧ t.stp.newKey = none := by
  have new : s.begin.stp.newKey = some k := new
  have ready : (roverIds.all (fun r => !s.begin.rovOpen r || (s.begin.rover r).configAcked) ||
      s.begin.past (s.begin.stp.newKeyAt + 600 * superNs)) = true := by
    rcases ready with acked | late
    · rw [Bool.or_eq_true, List.all_eq_true]
      refine .inl fun r hr => ?_
      have acked : s.begin.rovOpen r = true → (s.begin.rover r).configAcked = true := acked r (List.mem_range.1 hr)
      cases open_ : s.begin.rovOpen r with
      | false => rfl
      | true => exact acked open_
    · have late : s.begin.past (s.begin.stp.newKeyAt + 600 * superNs) = true := late
      rw [late, Bool.or_true]
  have start : decide (s.begin.num % 10 = 0) = true := decide_eq_true start
  obtain ⟨u, run, hu⟩ : ∃ u, exec .stopKeySwitch s = .next (s.after u) ∧ u = (s.begin.put F.STP_STAT_KEYID k).modStp fun x => { x with
      prevKey := s.get F.STP_STAT_KEYID, prevKeyOctets := x.key, newKey := none, key := s.begin.workingKey k } := by
    refine ⟨_, rfl, ?_⟩
    unfold State.stopKeySwitch
    rw [new]
    exact if_pos (by rw [start, ready]; rfl)
  subst hu
  refine ⟨_, run, ?_, rfl, rfl, rfl, rfl⟩
  rw [State.after_get, State.modStp_get, State.get_put_self]
  rfl

theorem stopKeySwitch_idle (s : State) (h : s.stp.newKey = none ∨ s.num % 10 ≠ 0) : s.idle .stopKeySwitch := by
  refine State.idle_of (f := State.stopKeySwitch) rfl ?_
  unfold State.stopKeySwitch
  split
  · rfl
  · next k hk =>
    refine if_neg ?_
    have later : decide (s.begin.num % 10 = 0) = false := decide_eq_false (h.resolve_left fun none_ => by
      rw [show s.begin.stp.newKey = s.stp.newKey from rfl, none_] at hk
      cases hk)
    rw [later]
    simp

/-- Settles O43: a command writes the STP registers before anything else acts, and what acts on them after it is known field by field. -/
theorem stopIsResetByTheHostAlone : Obligations.StopIsResetByTheHostAlone := by
  refine ⟨stpDeclare_declares, stpCmd_noAccess, stpReset_engine, ?_, stopKeySwitch_switches, stopKeySwitch_idle⟩
  rintro s n who rfl role serves
  exact ⟨stpReset_unconfirmed role serves, stpReset_unhealthy role serves, fun inA inB agree =>
    ⟨stpReset_persists role serves inA inB agree, stpReset_resets role serves inA inB agree⟩⟩

end Sys2Proof.Machine

/-! ### Time and its sources (O44) -/
namespace Sys2Proof.Machine

/-! ### What the evaluation of time writes -/

/-- The fields that the evaluation of time writes. -/
abbrev timeFields : List Fld :=
  [F.TIM_STAT_STATE, F.TIM_STAT_SRC, F.TIM_STAT_DISCORDANT, F.TIM_STAT_STEPS, F.TIM_UNC_U, F.TIM_SRCOFF_LO_OFF, F.TIM_SRCOFF_HI_OFF,
    F.TIM_RATE_FREQ, F.TIM_SERVO_SLEW, F.TIM_CNT_SRC_CHANGES, F.TIM_CNT_DISCORD, F.TIM_CNT_HOLDOVERS, F.TIM_UTC_LSRC, F.TIM_UTC_LEAP,
    F.TIM_UTC_PENDING]

/-- States that agree on the program and on every register but those of the fields `l` and of the log. -/
def State.AgreeBut (l : List Fld) (s t : State) : Prop :=
  t.prog = s.prog ∧ ∀ f : Fld, f.inLog = false → (∀ g ∈ l, f.key ≠ g.key) → t.get f = s.get f

theorem State.AgreeBut.refl (l : List Fld) (s : State) : s.AgreeBut l s := ⟨rfl, fun _ _ _ => rfl⟩

theorem State.AgreeBut.trans {l : List Fld} {s t u : State} (h : s.AgreeBut l t) (k : t.AgreeBut l u) : s.AgreeBut l u :=
  ⟨k.1.trans h.1, fun f hf hl => (k.2 f hf hl).trans (h.2 f hf hl)⟩

theorem State.agreeBut_of_regs {l : List Fld} {s t : State} (prog : t.prog = s.prog) (regs : t.regs = s.regs) : s.AgreeBut l t :=
  ⟨prog, fun f _ _ => by rw [State.get, regs, ← State.get]⟩

theorem State.agreeBut_put {l : List Fld} (s : State) {g : Fld} (v : Nat) (h : g ∈ l) : s.AgreeBut l (s.put g v) :=
  ⟨rfl, fun _ _ hl => s.get_put_ne _ _ _ (hl g h)⟩

theorem State.agreeBut_inc {l : List Fld} (s : State) {g : Fld} (h : g ∈ l) : s.AgreeBut l (s.inc g) := s.agreeBut_put _ h

theorem State.agreeBut_log {l : List Fld} (s : State) (sev kind : Nat) (g : Fld) (vals : List Nat) : s.AgreeBut l (s.log sev kind g vals) :=
  ⟨s.log_prog .., fun _ hf _ => s.log_get _ _ _ _ hf⟩

/-- A source newly discordant (R437). -/
def State.discordRise (s : State) (now old : Bool) : State :=
  if now && !old then (s.inc F.TIM_CNT_DISCORD).log Sev.error 0 F.TIM_STAT_STATE [] else s

theorem discordRise_agrees (s : State) (now old : Bool) : s.AgreeBut timeFields (s.discordRise now old) := by
  unfold State.discordRise
  split
  · exact (s.agreeBut_inc (by simp)).trans (State.agreeBut_log ..)
  · exact .refl ..

theorem discordRise_time (s : State) (now old : Bool) : (s.discordRise now old).time = s.time ∧ (s.discordRise now old).frame = s.frame := by
  unfold State.discordRise
  split
  · exact ⟨State.log_time .., State.log_frame ..⟩
  · exact ⟨rfl, rfl⟩

theorem discordEval_eq (s : State) : s.discordEval =
    (((s.modTime fun t => { t with discG := s.discordant 1, discP := s.discordant 2 }).putB F.TIM_STAT_DISCORDANT
      (s.discordant 1 || s.discordant 2)).discordRise (s.discordant 1) s.time.discG).discordRise (s.discordant 2) s.time.discP := rfl

theorem discordEval_agrees (s : State) : s.AgreeBut timeFields s.discordEval := by
  rw [discordEval_eq]
  refine .trans (.trans (.trans ?_ (State.agreeBut_put _ _ (by simp))) (discordRise_agrees ..)) (discordRise_agrees ..)
  exact State.agreeBut_of_regs rfl rfl

theorem discordEval_frame (s : State) : s.discordEval.frame = s.frame := by
  rw [discordEval_eq]
  exact (discordRise_time ..).2.trans (discordRise_time ..).2

/-- A fact of the time that is no mark of discordance. -/
theorem discordEval_proj {α : Type} (p : TimeSt → α) (hp : ∀ x g h, p { x with discG := g, discP := h } = p x) (s : State) :
    p s.discordEval.time = p s.time := by
  rw [discordEval_eq, (discordRise_time ..).1, (discordRise_time ..).1]
  exact hp ..

/-- The fields that the judgement of discordance writes. -/
theorem discordEval_get (s : State) {f : Fld} (hf : f.inLog = false) (hd : f.key ≠ F.TIM_STAT_DISCORDANT.key) (hc : f.key ≠ F.TIM_CNT_DISCORD.key) :
    s.discordEval.get f = s.get f := by
  have rise : ∀ (u : State) (now old : Bool), (u.discordRise now old).get f = u.get f := fun u now old => by
    unfold State.discordRise
    split
    · rw [State.log_get _ _ _ _ _ hf, State.inc_eq, State.get_put_ne _ _ _ _ hc]
    · rfl
  rw [discordEval_eq, rise, rise, State.putB, State.get_put_ne _ _ _ _ hd, State.modTime_get]

theorem timeMark_agrees (l : List Fld) (s : State) : s.AgreeBut l s.timeMark := by
  unfold State.timeMark
  exact ⟨State.logRec_prog .., fun f hf _ => (State.logRec_get _ _ _ _ _ hf).trans rfl⟩

theorem timeMark_time (s : State) : s.timeMark.time = s.time ∧ s.timeMark.frame = s.frame := by
  unfold State.timeMark
  exact ⟨State.logRec_time .., State.logRec_frame ..⟩

/-- What a step of module time does to the frame and to the time (R439). -/
def State.stepped (s : State) (start : Nat) (d : Int) : State :=
  (s.modFrame fun f => { f with
    start := start, realign := some ((start + s.frame.off + 2000000 + 9999999) / 10000000), transitional := true }).modTime fun x => { x with
      stepSum := x.stepSum + d, stepped := true, offG := x.offG - d, offP := x.offP - d, tBase := ((x.tBase : Int) + d).toNat
      trigs := x.trigs.map (fun p => (p.1, if p.2.valid then { p.2 with stepped := true } else p.2)) }

theorem stepTime_eq (s : State) (d : Int) : ∃ vals, s.stepTime d =
    (((s.stepped ((s.frame.start : Int) + d).toNat ((((s.frame.start : Int) + d).toNat : Int) - s.frame.start)).inc F.TIM_STAT_STEPS).log
      Sev.info 3 F.TIM_STAT_STATE vals).timeMark := ⟨_, rfl⟩

theorem stepTime_agrees (s : State) (d : Int) : s.AgreeBut timeFields (s.stepTime d) := by
  obtain ⟨vals, eq⟩ := stepTime_eq s d
  rw [eq]
  refine .trans (.trans (.trans ?_ (State.agreeBut_inc _ (by simp))) (State.agreeBut_log ..)) (timeMark_agrees ..)
  exact State.agreeBut_of_regs rfl rfl

theorem select_agrees (s : State) (src : Nat) : s.AgreeBut timeFields (s.select src) := by
  unfold State.select
  dsimp only
  split
  · exact State.agreeBut_put _ _ (by simp)
  · exact (State.agreeBut_inc _ (by simp)).trans (State.agreeBut_put _ _ (by simp))

theorem select_time (s : State) (src : Nat) : (s.select src).time = s.time ∧ (s.select src).frame = s.frame := by
  unfold State.select
  dsimp only
  split <;> exact ⟨rfl, rfl⟩

theorem select_src (s : State) (src : Nat) : (s.select src).get F.TIM_STAT_SRC = src % 4 := State.get_put_self ..

theorem select_get (s : State) (src : Nat) {f : Fld} (hs : f.key ≠ F.TIM_STAT_SRC.key) (hc : f.key ≠ F.TIM_CNT_SRC_CHANGES.key) :
    (s.select src).get f = s.get f := by
  unfold State.select
  dsimp only
  rw [State.get_put_ne _ _ _ _ hs]
  split
  · rfl
  · exact State.get_put_ne _ _ _ _ hc

theorem setRates_agrees (s : State) (f sl : Int) : s.AgreeBut timeFields (s.setRates f sl) := by
  unfold State.setRates State.putI
  refine .trans (.trans ?_ (State.agreeBut_put _ _ (by simp))) (State.agreeBut_put _ _ (by simp))
  exact State.agreeBut_of_regs rfl rfl

/-! ### LEAP (R447) -/

theorem utcEval_agrees (s : State) : s.AgreeBut timeFields s.utcEval := by
  unfold State.utcEval
  exact .trans (.trans (State.agreeBut_put _ _ (by simp)) (State.agreeBut_put _ _ (by simp))) (State.agreeBut_put _ _ (by simp))

theorem utcEval_time (s : State) : s.utcEval.time = s.time ∧ s.utcEval.frame = s.frame := by
  exact ⟨rfl, rfl⟩

theorem utcEval_get (s : State) {f : Fld} (h : f.key ≠ F.TIM_UTC_LSRC.key) (h' : f.key ≠ F.TIM_UTC_LEAP.key) (h'' : f.key ≠ F.TIM_UTC_PENDING.key) :
    s.utcEval.get f = s.get f := by
  unfold State.utcEval
  rw [State.get_put_ne _ _ _ _ h'', State.get_put_ne _ _ _ _ h', State.get_put_ne _ _ _ _ h]

/-- The leap seconds of the receiver, while it is qualified. -/
theorem utcEval_gnss {s : State} {l p : Nat} (q : s.get F.TIM_STAT_GNSS_Q ≠ 0) (leap : s.time.leapG = some (l, p)) :
    s.utcEval.get F.TIM_UTC_LEAP = l % 256 ∧ s.utcEval.get F.TIM_UTC_PENDING = p % 4 ∧ s.utcEval.get F.TIM_UTC_LSRC = 1 := by
  have flag : s.flag F.TIM_STAT_GNSS_Q = true := decide_eq_true q
  unfold State.utcEval
  rw [flag, leap]
  refine ⟨?_, ?_, ?_⟩ <;> simp (disch := decide) only [State.get_put_ne, State.get_put_self] <;> rfl

/-! ### The evaluation of time (Table 10.2) -/

/-- What the registers show once a source has been selected. -/
def State.timeShown (s : State) : State :=
  let off := match s.bestQualified with | some k => ofInt 64 (s.offset k) | none => 0
  let s := (s.put F.TIM_SRCOFF_LO_OFF (off % 2 ^ 32)).put F.TIM_SRCOFF_HI_OFF (off / 2 ^ 32)
  (s.put F.TIM_UNC_U s.uncertainty).utcEval

theorem timeShown_agrees (s : State) : s.AgreeBut timeFields s.timeShown := by
  unfold State.timeShown
  exact .trans (.trans (.trans (State.agreeBut_put _ _ (by simp)) (State.agreeBut_put _ _ (by simp))) (State.agreeBut_put _ _ (by simp)))
    (utcEval_agrees _)

theorem timeShown_time (s : State) : s.timeShown.time = s.time ∧ s.timeShown.frame = s.frame := by
  unfold State.timeShown
  exact utcEval_time _

/-- The fields that a selection sets stand. -/
theorem timeShown_get (s : State) {f : Fld} (h : f ∈ [F.TIM_STAT_STATE, F.TIM_STAT_SRC, F.TIM_STAT_STEPS, F.TIM_CNT_HOLDOVERS]) :
    s.timeShown.get f = s.get f := by
  have ne : ∀ g ∈ [F.TIM_UTC_LSRC, F.TIM_UTC_LEAP, F.TIM_UTC_PENDING, F.TIM_UNC_U, F.TIM_SRCOFF_HI_OFF, F.TIM_SRCOFF_LO_OFF], f.key ≠ g.key := by
    revert f
    decide
  unfold State.timeShown
  dsimp only
  rw [utcEval_get _ (ne _ (by simp)) (ne _ (by simp)) (ne _ (by simp)), State.get_put_ne _ _ _ _ (ne _ (by simp)),
    State.get_put_ne _ _ _ _ (ne _ (by simp)), State.get_put_ne _ _ _ _ (ne _ (by simp))]

theorem timeEval_agrees (s : State) : s.AgreeBut timeFields s.timeEval := by
  have start := discordEval_agrees s
  have put : ∀ (u : State) (n : Nat), u.AgreeBut timeFields (u.put F.TIM_STAT_STATE n) := fun u n => State.agreeBut_put _ _ (by simp)
  show s.AgreeBut timeFields (State.timeShown _)
  refine .trans (start.trans ?_) (timeShown_agrees _)
  split
  · exact .trans (.trans (.trans (stepTime_agrees ..) (put ..)) (select_agrees ..)) (discordEval_agrees _)
  · exact .refl ..
  · exact select_agrees ..
  · refine .trans (.trans (.trans (.trans ?_ (State.agreeBut_inc _ (by simp))) (setRates_agrees ..)) (put ..)) (select_agrees ..)
    exact State.agreeBut_of_regs rfl rfl
  · exact .trans (put ..) (select_agrees ..)
  · exact .refl ..

/-- The first step of a start. -/
theorem timeEval_first {s : State} {src : Nat} (st : s.discordEval.get F.TIM_STAT_STATE = 0) (best : s.discordEval.bestSource = some src) :
    s.timeEval = ((((s.discordEval.stepTime (s.discordEval.offset src)).put F.TIM_STAT_STATE 1).select src).discordEval).timeShown := by
  show State.timeShown _ = State.timeShown _
  refine congrArg State.timeShown ?_
  rw [st, best]
  rfl

/-- The last source is gone. -/
theorem timeEval_holdover {s : State} (st : s.discordEval.get F.TIM_STAT_STATE = 1) (best : s.discordEval.bestSource = none) :
    ∃ u, s.timeEval = ((((((s.discordEval.modTime fun t => { t with u0 := u, holdFrom := s.discordEval.mono }).inc F.TIM_CNT_HOLDOVERS).setRates
      s.discordEval.time.rhoF 0).put F.TIM_STAT_STATE 2).select 0).timeShown) := by
  refine ⟨s.discordEval.uncertainty, ?_⟩
  show State.timeShown _ = State.timeShown _
  refine congrArg State.timeShown ?_
  rw [st, best]
  rfl

/-! ### Sources (Table 10.1) -/

theorem timeFields_gnss : ∀ g ∈ timeFields, F.TIM_STAT_GNSS_Q.key ≠ g.key := by decide

theorem timeFields_ptp : ∀ g ∈ timeFields, F.TIM_STAT_PTP_Q.key ≠ g.key := by decide

theorem State.qualified_one (s : State) : s.qualified 1 = decide (s.get F.TIM_STAT_GNSS_Q ≠ 0) := if_pos rfl

theorem State.qualified_two (s : State) : s.qualified 2 = decide (s.get F.TIM_STAT_PTP_Q ≠ 0) := if_neg (by decide)

/-- The first source of a start steps module time by its offset, and is selected. -/
theorem timeEval_steps {s : State} (st : s.get F.TIM_STAT_STATE = 0) (q : s.get F.TIM_STAT_GNSS_Q ≠ 0) (src : s.get F.TIM_CFG_GNSS_SRC ≠ 0)
    (first : s.time.stepped = false) (pos : 0 ≤ (s.frame.start : Int) + s.time.offG) :
    s.timeEval.get F.TIM_STAT_STATE = 1 ∧ s.timeEval.get F.TIM_STAT_SRC = 1 ∧ s.timeEval.time.offG = 0 ∧ s.timeEval.time.stepped = true ∧
      (s.timeEval.frame.start : Int) = s.frame.start + s.time.offG ∧ s.timeEval.frame.transitional = true ∧ s.timeEval.mono = s.mono ∧
      s.timeEval.get F.TIM_STAT_STEPS = min 255 (s.get F.TIM_STAT_STEPS + 1) := by
  have frame := discordEval_frame s
  have get : ∀ (u : State) (f : Fld), f ∈ [F.TIM_STAT_STATE, F.TIM_STAT_SRC, F.TIM_STAT_STEPS, F.TIM_STAT_GNSS_Q, F.TIM_CFG_GNSS_SRC] →
      u.discordEval.get f = u.get f := fun u f hf => by
    obtain ⟨inLog, hd, hc⟩ : f.inLog = false ∧ f.key ≠ F.TIM_STAT_DISCORDANT.key ∧ f.key ≠ F.TIM_CNT_DISCORD.key := by
      revert f
      decide
    exact discordEval_get u inLog hd hc
  have best : s.discordEval.bestSource = some 1 := by
    have ok : (s.discordEval.qualified 1 && s.discordEval.admitted 1 && !s.discordEval.discordant 1) = true := by
      have qual : s.discordEval.qualified 1 = true := by
        rw [State.qualified_one, get _ _ (by simp)]
        exact decide_eq_true q
      have adm : s.discordEval.admitted 1 = true := by
        refine (if_pos rfl).trans (decide_eq_true ?_)
        rw [get _ _ (by simp)]
        exact src
      have disc : s.discordEval.discordant 1 = false := by
        unfold State.discordant
        rw [discordEval_proj TimeSt.stepped (fun _ _ _ => rfl), first]
        simp
      rw [qual, adm, disc]
      rfl
    unfold State.bestSource
    rw [List.find?_cons, ok]
  have eq := timeEval_first ((get s _ (by simp)).trans st) best
  obtain ⟨vals, step⟩ := stepTime_eq s.discordEval (s.discordEval.offset 1)
  have off : s.discordEval.offset 1 = s.time.offG := (if_pos rfl).trans (discordEval_proj TimeSt.offG (fun _ _ _ => rfl) s)
  rw [off, frame] at step
  rw [off] at eq
  obtain ⟨n, hn⟩ : ∃ n : Nat, (n : Int) = s.frame.start + s.time.offG := Int.eq_ofNat_of_zero_le pos |>.imp fun _ => Eq.symm
  rw [← hn, Int.toNat_natCast, show (n : Int) - s.frame.start = s.time.offG by omega] at step
  have shown : s.timeEval.frame = (s.discordEval.stepped n s.time.offG).frame ∧
      ∀ {α : Type} (p : TimeSt → α), (∀ x g h, p { x with discG := g, discP := h } = p x) →
        p s.timeEval.time = p (s.discordEval.stepped n s.time.offG).time := by
    have steps : (s.discordEval.stepTime s.time.offG).frame = (s.discordEval.stepped n s.time.offG).frame ∧
        (s.discordEval.stepTime s.time.offG).time = (s.discordEval.stepped n s.time.offG).time := by
      rw [step]
      exact ⟨(timeMark_time _).2.trans (State.log_frame ..), (timeMark_time _).1.trans (State.log_time ..)⟩
    rw [eq]
    refine ⟨?_, fun p hp => ?_⟩
    · rw [(timeShown_time _).2, discordEval_frame, (select_time ..).2]
      exact steps.1
    · rw [(timeShown_time _).1, discordEval_proj p hp, (select_time ..).1]
      exact congrArg p steps.2
  obtain ⟨shownFrame, shownTime⟩ := shown
  refine ⟨?_, ?_, ?_, ?_, ?_, ?_, ?_, ?_⟩
  · rw [eq, timeShown_get _ (by simp), get _ _ (by simp), select_get _ _ (by decide) (by decide), State.get_put_self]
    rfl
  · rw [eq, timeShown_get _ (by simp), get _ _ (by simp), select_src]
  · rw [shownTime TimeSt.offG fun _ _ _ => rfl]
    show s.discordEval.time.offG - s.time.offG = 0
    rw [discordEval_proj TimeSt.offG fun _ _ _ => rfl]
    exact sub_self _
  · rw [shownTime TimeSt.stepped fun _ _ _ => rfl]
    rfl
  · rw [shownFrame]
    exact hn
  · rw [shownFrame]
    rfl
  · rw [State.mono, State.now, shownFrame, shownTime TimeSt.stepSum fun _ _ _ => rfl]
    show ((Int.ofNat (n + s.discordEval.frame.off)) - (s.discordEval.time.stepSum + s.time.offG)).toNat = s.mono
    rw [frame, discordEval_proj TimeSt.stepSum fun _ _ _ => rfl, State.mono, State.now]
    simp only [Int.ofNat_eq_natCast, Nat.cast_add, hn]
    congr 1
    omega
  · rw [eq, timeShown_get _ (by simp), get _ _ (by simp), select_get _ _ (by decide) (by decide), State.get_put_ne _ _ _ _ (by decide), step]
    have mark : ∀ u : State, u.timeMark.get F.TIM_STAT_STEPS = u.get F.TIM_STAT_STEPS := fun u =>
      (timeMark_agrees [] u).2 _ (by decide) (by simp)
    rw [mark, State.log_get _ _ _ _ _ (by decide), State.get_inc_byte _ rfl rfl]
    show min 255 (s.discordEval.get F.TIM_STAT_STEPS + 1) = _
    rw [get _ _ (by simp)]

/-- Without a source the module holds over. -/
theorem timeEval_holds {s : State} (st : s.get F.TIM_STAT_STATE = 1) (gnss : s.get F.TIM_STAT_GNSS_Q = 0) (ptp : s.get F.TIM_STAT_PTP_Q = 0) :
    s.timeEval.get F.TIM_STAT_STATE = 2 ∧ s.timeEval.get F.TIM_STAT_SRC = 0 ∧ s.timeEval.time.holdFrom = s.mono ∧ s.timeEval.time.rhoS = 0 ∧
      s.timeEval.time.rhoF = s.time.rhoF ∧ s.timeEval.get F.TIM_CNT_HOLDOVERS = min 255 (s.get F.TIM_CNT_HOLDOVERS + 1) := by
  have frame := discordEval_frame s
  have get : ∀ f : Fld, f ∈ [F.TIM_STAT_STATE, F.TIM_STAT_GNSS_Q, F.TIM_STAT_PTP_Q, F.TIM_CNT_HOLDOVERS] →
      s.discordEval.get f = s.get f := fun f hf => by
    obtain ⟨inLog, hd, hc⟩ : f.inLog = false ∧ f.key ≠ F.TIM_STAT_DISCORDANT.key ∧ f.key ≠ F.TIM_CNT_DISCORD.key := by
      revert f
      decide
    exact discordEval_get s inLog hd hc
  have best : s.discordEval.bestSource = none := by
    have one : s.discordEval.qualified 1 = false := by
      rw [State.qualified_one, get _ (by simp), gnss]
      rfl
    have two : s.discordEval.qualified 2 = false := by
      rw [State.qualified_two, get _ (by simp), ptp]
      rfl
    unfold State.bestSource
    simp only [List.find?_cons, List.find?_nil, one, two, Bool.false_and]
  have mono : s.discordEval.mono = s.mono := by
    rw [State.mono, State.now, frame, discordEval_proj TimeSt.stepSum fun _ _ _ => rfl]
    rfl
  obtain ⟨u, eq⟩ := timeEval_holdover ((get _ (by simp)).trans st) best
  refine ⟨?_, ?_, ?_, ?_, ?_, ?_⟩
  · rw [eq, timeShown_get _ (by simp), select_get _ _ (by decide) (by decide), State.get_put_self]
    rfl
  · rw [eq, timeShown_get _ (by simp), select_src]
  · rw [eq, (timeShown_time _).1, (select_time ..).1, ← mono]
    rfl
  · rw [eq, (timeShown_time _).1, (select_time ..).1]
    rfl
  · rw [eq, (timeShown_time _).1, (select_time ..).1]
    exact discordEval_proj TimeSt.rhoF (fun _ _ _ => rfl) s
  · rw [eq, timeShown_get _ (by simp), select_get _ _ (by decide) (by decide), State.setRates, State.putI, State.putI]
    simp (disch := decide) only [State.get_put_ne, State.modTime_get]
    rw [State.get_inc_byte _ rfl rfl, State.modTime_get, get _ (by simp)]

theorem gnssQualifies (s : State) (on : s.framesOn = true) (q : s.get F.TIM_STAT_GNSS_Q = 0) :
    (10 ≤ s.time.gnssGood → ∃ t, exec (.sourceQualify 1) s = .next t ∧ t.get F.TIM_STAT_GNSS_Q = 1 ∧ t.prog = s.prog ∧
      (s.get F.TIM_STAT_STATE = 0 → s.get F.TIM_CFG_GNSS_SRC ≠ 0 → s.time.stepped = false →
        0 ≤ (s.frame.start : Int) + s.time.offG →
        t.get F.TIM_STAT_STATE = 1 ∧ t.get F.TIM_STAT_SRC = 1 ∧ t.time.offG = 0 ∧ t.time.stepped = true ∧
          (t.frame.start : Int) = s.frame.start + s.time.offG ∧ t.frame.transitional = true ∧ t.mono = s.mono ∧
          t.get F.TIM_STAT_STEPS = min 255 (s.get F.TIM_STAT_STEPS + 1))) ∧
    (s.time.gnssGood < 10 → s.idle (.sourceQualify 1)) := by
  have go : ¬((!s.begin.framesOn || s.begin.qualified 1) = true) := by
    have on : s.begin.framesOn = true := on
    have q : s.begin.get F.TIM_STAT_GNSS_Q = 0 := q
    rw [State.qualified_one, on, q]
    decide
  constructor
  · intro good
    have eq : s.begin.sourceQualify 1 = (s.begin.put F.TIM_STAT_GNSS_Q 1).timeEval :=
      (if_neg go).trans ((if_pos rfl).trans (if_pos good))
    obtain ⟨prog, get⟩ := timeEval_agrees (s.begin.put F.TIM_STAT_GNSS_Q 1)
    have self : (s.begin.put F.TIM_STAT_GNSS_Q 1).get F.TIM_STAT_GNSS_Q = 1 := State.get_put_self ..
    have other : ∀ f : Fld, f.key ≠ F.TIM_STAT_GNSS_Q.key → (s.begin.put F.TIM_STAT_GNSS_Q 1).get f = s.get f := fun f h =>
      State.get_put_ne _ _ _ _ h
    have steps := fun st src first pos => timeEval_steps (s := s.begin.put F.TIM_STAT_GNSS_Q 1) ((other _ (by decide)).trans st)
      (by rw [self]; decide) (by rw [other _ (by decide)]; exact src) first pos
    generalize (s.begin.put F.TIM_STAT_GNSS_Q 1).timeEval = u at eq prog get steps
    refine ⟨_, congrArg (fun u => Host.Outcome.next (s.after u)) eq, ?_, prog, fun st src first pos => ?_⟩
    · rw [State.after_get, get _ (by decide) timeFields_gnss, self]
    · have steps := steps st src first pos
      rw [other _ (by decide)] at steps
      exact steps
  · intro few
    exact State.idle_of (f := fun s => s.sourceQualify 1) rfl ((if_neg go).trans ((if_pos rfl).trans (if_neg (not_le.2 few))))

theorem sourceQualify_idle (s : State) (src : Nat) (h : s.framesOn = false ∨ s.qualified src = true) : s.idle (.sourceQualify src) := by
  refine State.idle_of (f := fun s => s.sourceQualify src) rfl (if_pos ?_)
  have h : s.begin.framesOn = false ∨ s.begin.qualified src = true := h
  rcases h with h | h <;> rw [h]
  · rfl
  · rw [Bool.or_true]

/-- The span of a list whose members lie near each other. -/
theorem span_small {l : List Int} {n : Int} (h : ∀ x ∈ l, ∀ y ∈ l, x - y ≤ n) (some_ : l ≠ []) :
    l.foldl max (l.headD 0) - l.foldl min (l.headD 0) ≤ n := by
  obtain ⟨a, l, rfl⟩ := List.exists_cons_of_ne_nil some_
  have most : ∀ (l : List Int) (a : Int), l.foldl max a = a ∨ l.foldl max a ∈ l := fun l => by
    induction l with
    | nil => exact fun a => .inl rfl
    | cons b l ih =>
      intro a
      rw [List.foldl_cons]
      rcases ih (max a b) with e | e
      · rw [e]
        exact (max_choice a b).imp id fun m => by rw [m]; exact List.mem_cons_self
      · exact .inr (List.mem_cons_of_mem _ e)
  have least : ∀ (l : List Int) (a : Int), l.foldl min a = a ∨ l.foldl min a ∈ l := fun l => by
    induction l with
    | nil => exact fun a => .inl rfl
    | cons b l ih =>
      intro a
      rw [List.foldl_cons]
      rcases ih (min a b) with e | e
      · rw [e]
        exact (min_choice a b).imp id fun m => by rw [m]; exact List.mem_cons_self
      · exact .inr (List.mem_cons_of_mem _ e)
  have mem : ∀ {z : Int}, z = a ∨ z ∈ a :: l → z ∈ a :: l := fun h => h.elim (fun e => e ▸ List.mem_cons_self) id
  exact h _ (mem (most (a :: l) a)) _ (mem (least (a :: l) a))

theorem ptpQualifies (s : State) (a : Announce) (on : s.framesOn = true) (q : s.get F.TIM_STAT_PTP_Q = 0) (parent : s.time.ptp.parent = some a)
    (port : s.get F.TIM_PTP_STAT_PORT = 9) (scale : a.ptpTimescale = true) (cls : a.cls ≤ s.get F.TIM_PTP_PRI_MAXCLASS)
    (many : 16 ≤ s.time.ptp.offs.length) (near : ∀ x ∈ s.time.ptp.offs, ∀ y ∈ s.time.ptp.offs, x - y ≤ 1000) :
    ∃ t, exec (.sourceQualify 2) s = .next t ∧ t.get F.TIM_STAT_PTP_Q = 1 ∧ t.prog = s.prog := by
  have go : ¬((!s.begin.framesOn || s.begin.qualified 2) = true) := by
    have on : s.begin.framesOn = true := on
    have q : s.begin.get F.TIM_STAT_PTP_Q = 0 := q
    rw [State.qualified_two, on, q]
    decide
  have parent : s.begin.time.ptp.parent = some a := parent
  have port : decide (s.begin.get F.TIM_PTP_STAT_PORT = 9) = true := decide_eq_true port
  have cls : decide (a.cls ≤ s.begin.get F.TIM_PTP_PRI_MAXCLASS) = true := decide_eq_true cls
  have long : decide (16 ≤ s.begin.time.ptp.offs.length) = true := decide_eq_true many
  have span : decide (s.begin.time.ptp.offs.foldl max (s.begin.time.ptp.offs.headD 0) -
      s.begin.time.ptp.offs.foldl min (s.begin.time.ptp.offs.headD 0) ≤ 1000) = true :=
    decide_eq_true (span_small near (List.ne_nil_of_length_pos (lt_of_lt_of_le (by decide : 0 < 16) many)))
  have eq : s.begin.sourceQualify 2 = (s.begin.put F.TIM_STAT_PTP_Q 1).timeEval := by
    refine (if_neg go).trans ((if_neg (by decide)).trans ((if_pos rfl).trans ?_))
    rw [parent]
    exact if_pos (by rw [port, scale, cls, long, span]; rfl)
  obtain ⟨prog, get⟩ := timeEval_agrees (s.begin.put F.TIM_STAT_PTP_Q 1)
  refine ⟨_, congrArg (fun u => Host.Outcome.next (s.after u)) eq, ?_, prog⟩
  rw [State.after_get, get _ (by decide) timeFields_ptp, State.get_put_self]
  rfl

theorem ptpQualify_idle (s : State) (_ : s.get F.TIM_STAT_PTP_Q = 0)
    (h : s.time.ptp.parent = none ∨ s.get F.TIM_PTP_STAT_PORT ≠ 9 ∨ s.time.ptp.offs.length < 16) : s.idle (.sourceQualify 2) := by
  refine State.idle_of (f := fun s => s.sourceQualify 2) rfl ?_
  unfold State.sourceQualify
  split
  · rfl
  · rw [if_neg (by decide), if_pos rfl]
    dsimp only
    split
    · next a parent =>
      refine if_neg ?_
      have h : decide (s.begin.get F.TIM_PTP_STAT_PORT = 9) = false ∨ decide (16 ≤ s.begin.time.ptp.offs.length) = false :=
        (h.resolve_left fun none_ => by rw [show s.begin.time.ptp.parent = s.time.ptp.parent from rfl, none_] at parent; cases parent).imp
          decide_eq_false fun few => decide_eq_false (not_le.2 few)
      rcases h with h | h <;> rw [h] <;> simp
    · rfl

theorem gnssDisqualifies (s : State) (on : s.framesOn = true) (q : s.get F.TIM_STAT_GNSS_Q ≠ 0) :
    (30 ≤ s.time.gnssBad ∨ 10 ≤ s.time.resBad → ∃ t, exec (.sourceDisqualify 1) s = .next t ∧ t.get F.TIM_STAT_GNSS_Q = 0 ∧
      (s.get F.TIM_STAT_STATE = 1 → s.get F.TIM_STAT_PTP_Q = 0 → t.get F.TIM_STAT_STATE = 2 ∧ t.get F.TIM_STAT_SRC = 0 ∧
        t.time.holdFrom = s.mono ∧ t.time.rhoS = 0 ∧ t.time.rhoF = s.time.rhoF ∧
        t.get F.TIM_CNT_HOLDOVERS = min 255 (s.get F.TIM_CNT_HOLDOVERS + 1))) ∧
    (s.time.gnssBad < 30 → s.time.resBad < 10 → s.idle (.sourceDisqualify 1)) := by
  have go : ¬((!s.begin.framesOn || !s.begin.qualified 1) = true) := by
    have on : s.begin.framesOn = true := on
    have q : decide (s.begin.get F.TIM_STAT_GNSS_Q ≠ 0) = true := decide_eq_true q
    rw [State.qualified_one, on, q]
    decide
  constructor
  · intro bad
    have eq : s.begin.sourceDisqualify 1 = (s.begin.put F.TIM_STAT_GNSS_Q 0).timeEval := by
      refine (if_neg go).trans ((if_pos rfl).trans (if_pos ?_))
      exact Bool.or_eq_true_iff.2 (bad.imp decide_eq_true decide_eq_true)
    obtain ⟨-, get⟩ := timeEval_agrees (s.begin.put F.TIM_STAT_GNSS_Q 0)
    have self : (s.begin.put F.TIM_STAT_GNSS_Q 0).get F.TIM_STAT_GNSS_Q = 0 := State.get_put_self ..
    have other : ∀ f : Fld, f.key ≠ F.TIM_STAT_GNSS_Q.key → (s.begin.put F.TIM_STAT_GNSS_Q 0).get f = s.get f := fun f h =>
      State.get_put_ne _ _ _ _ h
    have holds := fun st ptp => timeEval_holds (s := s.begin.put F.TIM_STAT_GNSS_Q 0) ((other _ (by decide)).trans st) self
      ((other _ (by decide)).trans ptp)
    generalize (s.begin.put F.TIM_STAT_GNSS_Q 0).timeEval = u at eq get holds
    refine ⟨_, congrArg (fun u => Host.Outcome.next (s.after u)) eq, ?_, fun st ptp => ?_⟩
    · rw [State.after_get, get _ (by decide) timeFields_gnss, self]
    · have holds := holds st ptp
      rw [other _ (by decide)] at holds
      exact holds
  · intro good small
    refine State.idle_of (f := fun s => s.sourceDisqualify 1) rfl ((if_neg go).trans ((if_pos rfl).trans (if_neg ?_)))
    have good : decide (30 ≤ s.begin.time.gnssBad) = false := decide_eq_false (not_le.2 good)
    have small : decide (10 ≤ s.begin.time.resBad) = false := decide_eq_false (not_le.2 small)
    rw [good, small]
    decide

theorem ptpDisqualifies (s : State) (on : s.framesOn = true) (q : s.get F.TIM_STAT_PTP_Q ≠ 0) :
    (s.get F.TIM_PTP_STAT_PORT ≠ 9 ∨ s.time.ptp.parent = none ∨ s.past (s.time.ptp.lastExch + 2000000000) = true →
      ∃ t, exec (.sourceDisqualify 2) s = .next t ∧ t.get F.TIM_STAT_PTP_Q = 0) ∧
    (∀ a, s.get F.TIM_PTP_STAT_PORT = 9 → s.time.ptp.parent = some a → a.ptpTimescale = true →
      a.cls ≤ s.get F.TIM_PTP_PRI_MAXCLASS → s.past (s.time.ptp.lastExch + 2000000000) = false → s.idle (.sourceDisqualify 2)) := by
  have go : ¬((!s.begin.framesOn || !s.begin.qualified 2) = true) := by
    have on : s.begin.framesOn = true := on
    have q : decide (s.begin.get F.TIM_STAT_PTP_Q ≠ 0) = true := decide_eq_true q
    rw [State.qualified_two, on, q]
    decide
  constructor
  · intro bad
    have eq : s.begin.sourceDisqualify 2 = (s.begin.put F.TIM_STAT_PTP_Q 0).timeEval := by
      refine (if_neg go).trans ((if_neg (by decide)).trans (if_pos ?_))
      rcases bad with port | none_ | late
      · have port : s.begin.get F.TIM_PTP_STAT_PORT ≠ 9 := port
        rw [decide_eq_true port, Bool.true_or, Bool.true_or]
      · have none_ : s.begin.time.ptp.parent = none := none_
        rw [none_, Bool.or_true, Bool.true_or]
      · have late : s.begin.past (s.begin.time.ptp.lastExch + 2000000000) = true := late
        rw [late, Bool.or_true]
    obtain ⟨-, get⟩ := timeEval_agrees (s.begin.put F.TIM_STAT_PTP_Q 0)
    refine ⟨_, congrArg (fun u => Host.Outcome.next (s.after u)) eq, ?_⟩
    rw [State.after_get, get _ (by decide) timeFields_ptp, State.get_put_self]
    rfl
  · intro a port parent scale cls early
    refine State.idle_of (f := fun s => s.sourceDisqualify 2) rfl ((if_neg go).trans ((if_neg (by decide)).trans (if_neg ?_)))
    have port : s.begin.get F.TIM_PTP_STAT_PORT = 9 := port
    have parent : s.begin.time.ptp.parent = some a := parent
    have early : s.begin.past (s.begin.time.ptp.lastExch + 2000000000) = false := early
    have cls : decide (s.begin.get F.TIM_PTP_PRI_MAXCLASS < a.cls) = false := decide_eq_false (not_lt.2 cls)
    rw [port, parent, early]
    dsimp only
    rw [scale, cls]
    decide

end Sys2Proof.Machine

/-! ### RESTEP, TIME_PPS and leap seconds (O44) -/
namespace Sys2Proof.Machine

/-! ### RESTEP (R441) -/

/-- A RESTEP that waits for its boundary. -/
def State.restepAsked (s : State) : State := s.modTime fun t => { t with restep := some (.command F.TIM_CMD_STAT_STATUS.addr) }

/-- What a RESTEP does before its status is shown. -/
def State.restepOutcome (s : State) (confirm : Nat) : State × Nat :=
  if confirm ≠ confirmValue then (s, St.confirm)
  else if s.mode ≠ .stop || s.phase ≠ .running then (s, St.mode)
  else if s.time.restep.isSome then (s, St.busy)
  else if s.bestQualified.isNone then (s, St.noSource)
  else (s.restepAsked, St.pending)

theorem timCmd_restep {s u : State} {c st : Nat} (h : s.restepOutcome c = (u, st)) :
    s.timCmd 1 c = (u.cmdStat F.TIM_CMD_STAT_CODE F.TIM_CMD_STAT_STATUS 1 st, st) := by
  have eq : s.timCmd 1 c = ((s.restepOutcome c).1.cmdStat F.TIM_CMD_STAT_CODE F.TIM_CMD_STAT_STATUS 1 (s.restepOutcome c).2,
      (s.restepOutcome c).2) := rfl
  rw [eq, h]

section Outcome
variable {s : State} {c : Nat} (confirmed : c = confirmValue)
include confirmed

theorem restepOutcome_mode (mode : decide (s.mode ≠ .stop) = true) : s.restepOutcome c = (s, St.mode) :=
  (if_neg (not_not.2 confirmed)).trans (if_pos (by rw [mode, Bool.true_or]))

variable (stop : decide (s.mode ≠ .stop) = false) (running : decide (s.phase ≠ .running) = false) (free : s.time.restep = none)
include stop running free

theorem restepOutcome_judged : s.restepOutcome c = if s.bestQualified.isNone then (s, St.noSource) else (s.restepAsked, St.pending) :=
  (if_neg (not_not.2 confirmed)).trans ((if_neg (by rw [stop, running]; decide)).trans (if_neg (by rw [free]; decide)))

end Outcome

section Restep
variable {s : State} {who : Requester} (role : 2 ≤ s.roleOf who) (may : s.mayWrite who)
include role may

theorem restep_answers {c : Nat} {u : State} {st : Nat} (h : s.begin.timCmd 1 c = (u, st)) :
    exec (.restep who c) s = .next (s.after (u.reply who st)) := by
  refine congrArg (fun u => Host.Outcome.next (s.after u)) ((State.gate_pass role may.2 _).trans ?_)
  rw [h]

/-- A command that is refused, or that waits, shows its status. -/
theorem restep_shows {c : Nat} {u : State} {st : Nat} (fits : st < 65536)
    (h : s.begin.timCmd 1 c = (u.cmdStat F.TIM_CMD_STAT_CODE F.TIM_CMD_STAT_STATUS 1 st, st)) :
    ∃ t, exec (.restep who c) s = .next t ∧ t.get F.TIM_CMD_STAT_STATUS = st ∧ t.get F.TIM_CMD_STAT_CODE = 1 ∧ t.time = u.time ∧
      t.out = u.out ++ [⟨.value, [(who.key : Int), st]⟩] := by
  refine ⟨_, restep_answers role may h, ?_, ?_, ?_, ?_⟩
  · rw [State.after_get, State.reply_get, State.cmdStat, State.get_put_self]
    exact Nat.mod_eq_of_lt fits
  · rw [State.after_get, State.reply_get, State.cmdStat, State.get_put_ne _ _ _ _ (by decide), State.get_put_self]
    rfl
  · rw [State.after_time, State.reply_time]
    rfl
  · rw [State.after_out, State.reply_out]
    rfl

theorem restep_judged :
    (∀ c, c ≠ 0x5AFE → ∃ t, exec (.restep who c) s = .next t ∧ t.get F.TIM_CMD_STAT_STATUS = St.confirm ∧ t.time = s.time) ∧
    (s.mode ≠ .stop → ∃ t, exec (.restep who 0x5AFE) s = .next t ∧ t.get F.TIM_CMD_STAT_STATUS = St.mode ∧ t.time = s.time) ∧
    (s.mode = .stop → s.phase = .running → s.time.restep = none →
      (s.bestQualified = none → ∃ t, exec (.restep who 0x5AFE) s = .next t ∧ t.get F.TIM_CMD_STAT_STATUS = St.noSource ∧
        t.time = s.time) ∧
      (s.bestQualified.isSome = true → ∃ t, exec (.restep who 0x5AFE) s = .next t ∧ t.get F.TIM_CMD_STAT_STATUS = St.pending ∧
        t.get F.TIM_CMD_STAT_CODE = 1 ∧ t.time.restep.isSome = true ∧
        t.out = [⟨.value, [(who.key : Int), St.pending]⟩])) := by
  have refused : ∀ {c st : Nat}, st < 65536 → s.begin.restepOutcome c = (s.begin, st) →
      ∃ t, exec (.restep who c) s = .next t ∧ t.get F.TIM_CMD_STAT_STATUS = st ∧ t.time = s.time := fun fits h => by
    obtain ⟨t, run, status, -, time, -⟩ := restep_shows role may fits (timCmd_restep h)
    exact ⟨t, run, status, time⟩
  refine ⟨fun c h => refused (by decide) (if_pos h), fun mode => refused (by decide) (restepOutcome_mode rfl (decide_eq_true mode)),
    fun stop running free => ?_⟩
  have judged := restepOutcome_judged (s := s.begin) (c := 0x5AFE) rfl (decide_eq_false (not_not.2 stop))
    (decide_eq_false (not_not.2 running)) free
  refine ⟨fun none_ => refused (by decide) (judged.trans (if_pos ?_)), fun some_ => ?_⟩
  · have none_ : s.begin.bestQualified = none := none_
    rw [none_]
    rfl
  · obtain ⟨k, hk⟩ := Option.isSome_iff_exists.1 some_
    have hk : s.begin.bestQualified = some k := hk
    obtain ⟨t, run, status, code, time, out⟩ := restep_shows role may (by decide)
      (timCmd_restep (judged.trans (if_neg (by rw [hk]; exact Bool.false_ne_true))))
    exact ⟨t, run, status, code, by rw [time]; rfl, out⟩

end Restep

/-! ### TIME_PPS (R445, R446) -/

theorem ppsPulse_pulses (s : State) (wm : Nat) (on : s.framesOn = true) (phase : s.phase = .running ∨ s.phase = .shutdown)
    (en : s.get F.TIM_PPS_EN ≠ 0) (aligned : s.aligned = true ∨ s.get F.TIM_PPS_UNALIGNED ≠ 0) (within : s.wholeSecond < s.frameEnd)
    (hwm : wm = ((s.wholeSecond : Int) - s.time.stepSum).toNat) (due : s.time.lastPps = 0 ∨ s.time.lastPps + 500000000 ≤ wm) :
    ∃ t c, exec .ppsPulse s = .next t ∧ t.out = [⟨.pps, [(s.wholeSecond : Int), s.get F.TIM_PPS_WIDTH, s.get F.TIM_PPS_POL, c]⟩] ∧
      t.time.lastPps = wm ∧ (s.time.ppsEnd + 1000000 ≤ wm → c = s.time.ppsEnd) ∧ t.regs = s.regs := by
  have ppsOn : s.begin.ppsOn = true := by
    show (s.framesOn && (decide (s.phase = .running) || decide (s.phase = .shutdown)) && decide (s.get F.TIM_PPS_EN ≠ 0) &&
      (s.aligned || decide (s.get F.TIM_PPS_UNALIGNED ≠ 0))) = true
    rw [on, decide_eq_true en]
    rcases phase with h | h <;> rcases aligned with g | g <;> simp [h, g]
  have within : decide (s.begin.wholeSecond < s.begin.frameEnd) = true := decide_eq_true within
  have due : (decide (s.begin.time.lastPps = 0) ||
      decide (s.begin.time.lastPps + 500000000 ≤ (Int.ofNat s.begin.wholeSecond - s.begin.time.stepSum).toNat)) = true := by
    rw [Bool.or_eq_true]
    exact due.imp decide_eq_true fun h => decide_eq_true (show _ ≤ ((s.wholeSecond : Int) - s.time.stepSum).toNat from hwm ▸ h)
  refine ⟨_, pulseEnd s.time.ppsEnd wm 1000000, congrArg (fun u => Host.Outcome.next (s.after u)) (if_pos (by rw [ppsOn, within, due]; rfl)), ?_, ?_,
    fun late => congrArg Nat.cast (if_neg (not_lt.2 late)), rfl⟩
  · rw [hwm]
    rfl
  · rw [hwm]
    rfl

theorem ppsPulse_idle (s : State) (h : s.framesOn = false ∨ (s.phase ≠ .running ∧ s.phase ≠ .shutdown) ∨ s.get F.TIM_PPS_EN = 0 ∨
    s.frameEnd ≤ s.wholeSecond ∨ (s.aligned = false ∧ s.get F.TIM_PPS_UNALIGNED = 0)) : s.idle .ppsPulse := by
  refine State.idle_of (f := State.ppsPulse) rfl (if_neg ?_)
  have late : s.frameEnd ≤ s.wholeSecond → decide (s.begin.wholeSecond < s.begin.frameEnd) = false := fun h => decide_eq_false (not_lt.2 h)
  have off : s.framesOn = false ∨ (s.phase ≠ .running ∧ s.phase ≠ .shutdown) ∨ s.get F.TIM_PPS_EN = 0 ∨
      (s.aligned = false ∧ s.get F.TIM_PPS_UNALIGNED = 0) → s.begin.ppsOn = false := fun h => by
    show (s.framesOn && (decide (s.phase = .running) || decide (s.phase = .shutdown)) && decide (s.get F.TIM_PPS_EN ≠ 0) &&
      (s.aligned || decide (s.get F.TIM_PPS_UNALIGNED ≠ 0))) = false
    rcases h with h | ⟨h, g⟩ | h | ⟨h, g⟩ <;> simp [*]
  rcases h with h | h | h | h | h
  · rw [off (.inl h)]; simp
  · rw [off (.inr (.inl h))]; simp
  · rw [off (.inr (.inr (.inl h)))]; simp
  · rw [late h]; simp
  · rw [off (.inr (.inr (.inr h)))]; simp

/-! ### Leap seconds (R448) -/

/-- An inserted second begins at `t`. -/
def State.leapFrom (s : State) (t : Nat) : State := s.modTime fun x => { x with insFrom := some t }

/-- A second is deleted: LEAP of each source decreases. -/
def State.leapDown (s : State) : State :=
  s.modTime fun t => { t with leapG := t.leapG.map fun p => (p.1 - 1, 0), leapP := t.leapP.map fun p => (p.1 - 1, 0) }

theorem leapSecond_judged (s : State) (day : Nat) (on : s.framesOn = true) (free : s.time.insFrom = none)
    (hday : (day : Int) = s.utcMs ((s.frame.start / 1000000 : Nat) : Int) % 86400000) :
    (s.get F.TIM_UTC_PENDING = 0 → s.idle .leapSecond) ∧
    (s.get F.TIM_UTC_PENDING = 1 → day < 10 → ∃ t, exec .leapSecond s = .next t ∧
      t.time.insFrom = some (s.frame.start / 1000000 - day) ∧ { t with time := s.time, out := s.out } = s) ∧
    (s.get F.TIM_UTC_PENDING = 1 → 86399990 ≤ day → ∃ t, exec .leapSecond s = .next t ∧
      t.time.insFrom = some (s.frame.start / 1000000 + (86400000 - day)) ∧ { t with time := s.time, out := s.out } = s) ∧
    (∀ l p, s.get F.TIM_UTC_PENDING = 2 → 86398990 ≤ day → day < 86399010 → s.get F.TIM_STAT_GNSS_Q ≠ 0 →
      s.time.leapG = some (l, p) → ∃ t, exec .leapSecond s = .next t ∧ t.get F.TIM_UTC_LEAP = (l - 1) % 256 ∧
        t.get F.TIM_UTC_PENDING = 0 ∧ t.get F.TIM_UTC_LSRC = 1) := by
  have hd : (s.begin.utcMs ((s.begin.frame.start / 1000000 : Nat) : Int) % (dayMs : Int)).toNat = day := by
    rw [show s.begin.utcMs ((s.begin.frame.start / 1000000 : Nat) : Int) % (dayMs : Int) = (day : Int) from hday.symm]
    exact Int.toNat_natCast _
  have go : ¬((!s.begin.framesOn || s.begin.time.insFrom.isSome) = true) := by
    have on : s.begin.framesOn = true := on
    have free : s.begin.time.insFrom = none := free
    rw [on, free]
    decide
  obtain ⟨u, run, eq⟩ : ∃ u, exec .leapSecond s = .next (s.after u) ∧
      u = if s.begin.get F.TIM_UTC_PENDING = 1 && (day < 10 || dayMs - 10 ≤ day) then
          s.begin.leapFrom (if day < 10 then s.begin.frame.start / 1000000 - day else s.begin.frame.start / 1000000 + (dayMs - day))
        else if s.begin.get F.TIM_UTC_PENDING = 2 && decide (dayMs - 1010 ≤ day) && decide (day < dayMs - 990) then
          s.begin.leapDown.utcEval
        else s.begin := by
    refine ⟨s.begin.leapSecond, rfl, (if_neg go).trans ?_⟩
    rw [hd]
    rfl
  have dayMs_ : dayMs = 86400000 := rfl
  refine ⟨fun none_ => ?_, fun one early => ?_, fun one late => ?_, fun l p two from_ to_ q leap => ?_⟩
  · have none_ : s.begin.get F.TIM_UTC_PENDING = 0 := none_
    refine State.idle_run run ?_
    rw [eq, none_, if_neg (by simp), if_neg (by simp)]
  · have one : s.begin.get F.TIM_UTC_PENDING = 1 := one
    rw [one, if_pos (by simp [early]), if_pos early] at eq
    subst eq
    exact ⟨_, run, rfl, by cases s; rfl⟩
  · have one : s.begin.get F.TIM_UTC_PENDING = 1 := one
    rw [one, if_pos (by simp [dayMs_]; omega), if_neg (by omega)] at eq
    subst eq
    exact ⟨_, run, rfl, by cases s; rfl⟩
  · have two : s.begin.get F.TIM_UTC_PENDING = 2 := two
    have leap : s.begin.time.leapG = some (l, p) := leap
    rw [two, if_neg (by simp), if_pos (by simp [dayMs_]; omega)] at eq
    obtain ⟨leapNow, pending, source⟩ := utcEval_gnss (l := l - 1) (p := 0) (s := s.begin.leapDown) q (by
        show s.begin.time.leapG.map _ = _
        rw [leap]
        rfl)
    rw [← eq] at leapNow pending source
    exact ⟨_, run, leapNow, pending, source⟩

/-- Settles O44: the evaluation of time writes fifteen fields; where it takes a source or loses the last one, the outcome is written out. -/
theorem timeFollowsItsSources : Obligations.TimeFollowsItsSources :=
  ⟨gnssQualifies, sourceQualify_idle, ptpQualifies, ptpQualify_idle, gnssDisqualifies, ptpDisqualifies,
    fun _ _ role may => restep_judged role may, ppsPulse_pulses, ppsPulse_idle, leapSecond_judged⟩

end Sys2Proof.Machine

/-! ### Trigger lands and transmit stamps (O45) -/
namespace Sys2Proof.Machine

theorem State.trig_of_time {s t : State} (h : t.time = s.time) (k : Nat) : t.trig k = s.trig k := by rw [State.trig, h, ← State.trig]

theorem State.trig_setTrig (s : State) (k : Nat) (x : Trig) : (s.setTrig k x).trig k = x := by
  unfold State.trig State.setTrig
  exact SMap.getD_put_self ..

theorem State.trig_setTrig_ne (s : State) {k j : Nat} (x : Trig) (h : j ≠ k) : (s.setTrig k x).trig j = s.trig j := by
  show SMap.getD (SMap.put {} s.time.trigs k x) j {} = SMap.getD s.time.trigs j {}
  rw [SMap.getD, SMap.getD, SMap.get?_put_ne _ _ _ _ _ h]

theorem within_setTrig (s : State) (k : Nat) (x : Trig) : Within [.time] s (s.setTrig k x) := by
  simp [State.setTrig]

/-! ### Captures and emissions (R455 to R458) -/

theorem trigCapture_captures (s : State) (k a : Nat) (f : Bool) (_ : k < 4) (on : s.framesOn = true) (mode : s.get (F.TIM_TRIG_CFG_MODE.at k) = 1)
    (edge : s.get (F.TIM_TRIG_CFG_EDGE.at k) = 2 ∨ s.get (F.TIM_TRIG_CFG_EDGE.at k) = b2n f) :
    ∃ t, exec (.trigCapture k f a) s = .next t ∧ t.trig k = { s.trig k with
        valid := true, falling := f, stepped := false, cap := s.frame.start + a
        progCount := min 65535 ((s.trig k).progCount + 1) } ∧
      t.get (F.TIM_TRIG_STAT_COUNT.at k) = min 255 (s.get (F.TIM_TRIG_STAT_COUNT.at k) + 1) ∧
      (∀ j, j ≠ k → t.trig j = s.trig j) := by
  have on : s.begin.framesOn = true := on
  have mode : decide (s.begin.get (F.TIM_TRIG_CFG_MODE.at k) = 1) = true := decide_eq_true mode
  have edge : (decide (s.begin.get (F.TIM_TRIG_CFG_EDGE.at k) = 2) || decide (s.begin.get (F.TIM_TRIG_CFG_EDGE.at k) = b2n f)) = true := by
    rw [Bool.or_eq_true]
    exact edge.imp decide_eq_true decide_eq_true
  let u := (s.begin.atNs a).setTrig k { s.trig k with
    valid := true, falling := f, stepped := false, cap := s.frame.start + a, progCount := min 65535 ((s.trig k).progCount + 1) }
  have eq : s.begin.trigCapture k f a = u.inc (F.TIM_TRIG_STAT_COUNT.at k) := if_pos (by rw [on, mode, edge]; rfl)
  refine ⟨_, congrArg (fun u => Host.Outcome.next (s.after u)) eq, State.trig_setTrig (s.begin.atNs a) k _, ?_,
    fun j hj => State.trig_setTrig_ne (s.begin.atNs a) _ hj⟩
  rw [State.after_get, State.get_inc_byte _ rfl rfl]
  rfl

theorem trigCapture_idle (s : State) (k a : Nat) (f : Bool) (h : s.framesOn = false ∨ s.get (F.TIM_TRIG_CFG_MODE.at k) ≠ 1 ∨
    (s.get (F.TIM_TRIG_CFG_EDGE.at k) ≠ 2 ∧ s.get (F.TIM_TRIG_CFG_EDGE.at k) ≠ b2n f)) : s.idle (.trigCapture k f a) := by
  refine State.idle_of (f := fun s => s.trigCapture k f a) rfl (if_neg ?_)
  have h : s.begin.framesOn = false ∨ decide (s.begin.get (F.TIM_TRIG_CFG_MODE.at k) = 1) = false ∨
      (decide (s.begin.get (F.TIM_TRIG_CFG_EDGE.at k) = 2) || decide (s.begin.get (F.TIM_TRIG_CFG_EDGE.at k) = b2n f)) = false :=
    h.imp_right (Or.imp decide_eq_false fun ⟨h, g⟩ => by
      have h : decide (s.begin.get (F.TIM_TRIG_CFG_EDGE.at k) = 2) = false := decide_eq_false h
      have g : decide (s.begin.get (F.TIM_TRIG_CFG_EDGE.at k) = b2n f) = false := decide_eq_false g
      rw [h, g]
      rfl)
  rcases h with h | h | h <;> rw [h] <;> simp

/-- The end of an operation takes nothing back. -/
theorem sessionDone_grows (s : State) (c q st : Nat) (body : List Nat) : State.Grows s (s.sessionDone c q st body) := by
  unfold State.sessionDone
  split
  · exact .refl _
  · dsimp only
    split
    · exact State.Grows.trans (State.grows_of_eq (s := s) (t := s.setSession c _) rfl rfl) (State.grows_hostSend ..)
    · split <;> exact State.grows_of_eq rfl rfl

theorem finish_grows (s : State) (o : Origin) (st : Nat) (res : List Nat) : State.Grows s (s.finish o st res) := by
  cases o with
  | quiet => exact .refl _
  | host c q => exact sessionDone_grows ..
  | program k j n => exact State.grows_of_eq rfl rfl
  | command a =>
    refine .trans (State.grows_of_eq ?_ ?_) (State.grows_foldl (fun u p => sessionDone_grows ..) _ _)
    · show (s.cmdFinal a st).out = s.out
      unfold State.cmdFinal
      split <;> rfl
    · show (s.cmdFinal a st).spl.held = s.spl.held
      unfold State.cmdFinal
      split <;> rfl

theorem trigEmission_judged (s : State) (k a : Nat) (o : Origin) (pend : (s.trig k).pend = some (a, o)) (on : s.framesOn = true) :
    (a < s.frameEnd → ∃ t, exec (.trigEmission k) s = .next t ∧
      t.trig k = { s.trig k with pend := none, emitEnd := a + 1000 * s.get (F.TIM_TRIG_CFG_WIDTH.at k) } ∧
      ⟨.trigPulse, [(k : Int), a, s.get (F.TIM_TRIG_CFG_WIDTH.at k), s.get (F.TIM_TRIG_CFG_POL.at k)]⟩ ∈ t.out ∧
      (s.awaits o → t.ended o St.done [])) ∧
    (s.frameEnd ≤ a → s.idle (.trigEmission k)) := by
  have pend : (s.begin.trig k).pend = some (a, o) := pend
  have on : s.begin.framesOn = true := on
  constructor
  · intro due
    have due : decide (a < s.begin.frameEnd) = true := decide_eq_true due
    let v := (s.begin.atNs (a - s.frame.start)).setTrig k
      { s.trig k with pend := none, emitEnd := a + 1000 * s.get (F.TIM_TRIG_CFG_WIDTH.at k) }
    let u := v.emitNow .trigPulse [(k : Int), a, s.get (F.TIM_TRIG_CFG_WIDTH.at k), s.get (F.TIM_TRIG_CFG_POL.at k)]
    have eq : s.begin.trigEmission k = u.finish o St.done [] := by
      unfold State.trigEmission
      dsimp only
      rw [pend]
      exact if_pos (by rw [on, due]; rfl)
    have w : Within finishParts u (u.finish o St.done []) := within_finish _ _ _ _ (by decide)
    have whole : Within [.offset, .time, .out] s u :=
      .trans (within_begin s (by decide)) (.trans (.trans (within_atNs _ _ (by decide)) ((within_setTrig ..).mono (by decide)))
        (within_emitNow _ _ _ (by decide)))
    refine ⟨_, congrArg (fun u => Host.Outcome.next (s.after u)) eq, ?_, ?_, fun waits => ?_⟩
    · rw [State.trig_of_time (State.after_time ..), State.trig_of_time w.time]
      exact State.trig_setTrig ..
    · exact (finish_grows u o St.done []).1 _ (List.mem_append_right _ (List.mem_singleton_self _))
    · exact (State.after_ended ..).2 (State.finish_ended _ _ (whole.awaits waits))
  · intro later
    refine State.idle_of (f := fun s => s.trigEmission k) rfl ?_
    have later : decide (a < s.begin.frameEnd) = false := decide_eq_false (not_lt.2 later)
    unfold State.trigEmission
    dsimp only
    rw [pend]
    exact if_neg (by rw [later]; simp)

theorem trigEmission_idle (s : State) (k : Nat) (none_ : (s.trig k).pend = none) : s.idle (.trigEmission k) := by
  have none_ : (s.begin.trig k).pend = none := none_
  refine State.idle_of (f := fun s => s.trigEmission k) rfl ?_
  unfold State.trigEmission
  dsimp only
  rw [none_]

/-! ### The time services (R456, R457) -/

section Service
variable {s : State} {o : Origin} {code : Nat} {f : State → Origin → SvcArgs → SvcRes} {b : SvcArgs} (may : s.canCall o code)
  (hf : svcOf code = some f)
include may hf

/-- A service that answers and changes nothing. -/
theorem timeService_answers {st : Nat} {res : List Nat} (h : f s.begin o b = (s.begin, st, res)) :
    ∃ t, (s.act fun s => s.callSvc o code b) = .next t ∧ t.told o st res ∧ t.time = s.time ∧ t.regs = s.regs := by
  obtain ⟨t, run, told, w⟩ := State.act_callSvc may hf h (.refl [] _)
  exact ⟨t, run, told, w.time, w.regs⟩

theorem timeService_refuses {st : Nat} (h : f s.begin o b = (s.begin, st, [])) :
    ∃ t, (s.act fun s => s.callSvc o code b) = .next t ∧ t.told o st [] ∧ t.time = s.time := by
  obtain ⟨t, run, told, time, -⟩ := timeService_answers may hf h
  exact ⟨t, run, told, time⟩

/-- A service that sets a land. -/
theorem timeService_sets {st k : Nat} {res : List Nat} {x : Trig} (h : f s.begin o b = (s.begin.setTrig k x, st, res)) :
    ∃ t, (s.act fun s => s.callSvc o code b) = .next t ∧ t.told o st res ∧ t.trig k = x ∧ t.regs = s.regs := by
  obtain ⟨t, run, told, w⟩ := State.act_callSvc may hf h (within_setTrig ..)
  exact ⟨t, run, told, (State.trig_of_time w.time k).trans (State.trig_setTrig ..), w.regs⟩

end Service

section Land
variable {s : State} {o : Origin} {b : SvcArgs} {k : Nat} (hk : k = b.wa.toNat)
include hk

theorem trigServices_unknown (far : 4 ≤ k) :
    (s.canCall o 0x0E0001 → ∃ t, exec (.trigArm o b) s = .next t ∧ t.told o St.badArg [] ∧ t.regs = s.regs) ∧
    (s.canCall o 0x0E0002 → ∃ t, exec (.trigEmit o b) s = .next t ∧ t.told o St.badArg [] ∧ t.time = s.time) ∧
    (s.canCall o 0x0E0003 → ∃ t, exec (.trigRead o b) s = .next t ∧ t.told o St.badArg [] ∧ t.time = s.time) := by
  subst hk
  refine ⟨fun may => ?_, fun may => timeService_refuses may rfl (if_pos (by simp [far])), fun may => timeService_refuses may rfl (if_pos far)⟩
  obtain ⟨t, run, told, -, regs⟩ := timeService_answers (f := svcTrigArm) (b := b) may rfl (if_pos (by simp [far]))
  exact ⟨t, run, told, regs⟩

variable (near : k < 4)
include near

theorem trigArm_judged (may : s.canCall o 0x0E0001) (edge : b.wb.toNat < 4) :
    (s.get (F.TIM_TRIG_CFG_MODE.at k) ≠ 1 → ∃ t, exec (.trigArm o b) s = .next t ∧ t.told o St.trigMode [] ∧ t.regs = s.regs) ∧
    (s.get (F.TIM_TRIG_CFG_MODE.at k) = 1 → ∃ t, exec (.trigArm o b) s = .next t ∧ t.told o St.done [] ∧
      t.get (F.TIM_TRIG_CFG_EDGE.at k) = b.wb.toNat) := by
  subst hk
  have good : ¬((decide (4 ≤ b.wa.toNat) || decide (4 ≤ b.wb.toNat)) = true) := by
    rw [decide_eq_false (not_le.2 near), decide_eq_false (not_le.2 edge)]
    decide
  refine ⟨fun mode => ?_, fun mode => ?_⟩
  · obtain ⟨t, run, told, -, regs⟩ := timeService_answers (f := svcTrigArm) (b := b) may rfl ((if_neg good).trans (if_pos mode))
    exact ⟨t, run, told, regs⟩
  · obtain ⟨t, run, told, w⟩ := State.act_callSvc (f := svcTrigArm) (a := b) (D := [.regs, .wild]) may rfl
      ((if_neg good).trans (if_neg (not_not.2 mode))) (within_put_wild _ _ _ (by decide) (by decide))
    refine ⟨t, run, told, ?_⟩
    rw [State.get, w.regs, ← State.get, State.get_put_self]
    exact Nat.mod_eq_of_lt edge

theorem trigEmit_judged (at_ : Nat) (may : s.canCall o 0x0E0002) (ns : (b.d.getD 2 0).toNat < 1000000000)
    (hat : at_ = ((b.d.getD 0 0).toNat + 2 ^ 32 * (b.d.getD 1 0).toNat) * 1000000000 + (b.d.getD 2 0).toNat) :
    (s.get (F.TIM_TRIG_CFG_MODE.at k) ≠ 2 → ∃ t, exec (.trigEmit o b) s = .next t ∧ t.told o St.trigMode [] ∧ t.time = s.time) ∧
    (s.get (F.TIM_TRIG_CFG_MODE.at k) = 2 →
      ((s.trig k).pend.isSome = true → ∃ t, exec (.trigEmit o b) s = .next t ∧ t.told o St.busy [] ∧ t.time = s.time) ∧
      ((s.trig k).pend = none → at_ < (s.trig k).emitEnd → s.now < (s.trig k).emitEnd →
        ∃ t, exec (.trigEmit o b) s = .next t ∧ t.told o St.busy [] ∧ t.time = s.time) ∧
      ((s.trig k).pend = none → (s.trig k).emitEnd ≤ s.now ∨ (s.trig k).emitEnd ≤ at_ →
        (at_ < s.now + 1000000 → ∃ t, exec (.trigEmit o b) s = .next t ∧ t.told o St.tooLate [] ∧ t.time = s.time) ∧
        (s.now + 1000000 ≤ at_ → ∃ t, exec (.trigEmit o b) s = .next t ∧ t.told o St.pending [] ∧
          t.trig k = { s.trig k with pend := some (at_, o) } ∧ t.regs = s.regs))) := by
  subst hk hat
  have good : ¬((decide (4 ≤ b.wa.toNat) || decide (1000000000 ≤ (b.d.getD 2 0).toNat)) = true) := by
    rw [decide_eq_false (not_le.2 near), decide_eq_false (not_le.2 ns)]
    decide
  refine ⟨fun mode => timeService_refuses may rfl ((if_neg good).trans (if_pos mode)), fun mode => ?_⟩
  have mode : ¬(s.begin.get (F.TIM_TRIG_CFG_MODE.at b.wa.toNat) ≠ 2) := not_not.2 mode
  refine ⟨fun pend => timeService_refuses may rfl ((if_neg good).trans ((if_neg mode).trans (if_pos ?_))),
    fun free before now => timeService_refuses may rfl ((if_neg good).trans ((if_neg mode).trans (if_pos ?_))), fun free passed => ?_⟩
  · have pend : (s.begin.trig b.wa.toNat).pend.isSome = true := pend
    rw [pend, Bool.true_or]
  · rw [Bool.or_eq_true, decide_eq_true_eq, Bool.and_eq_true]
    exact .inr ⟨decide_eq_true before, decide_eq_true now⟩
  · have idle : ¬((s.begin.trig b.wa.toNat).pend.isSome || decide ((decide (((b.d.getD 0 0).toNat + 2 ^ 32 * (b.d.getD 1 0).toNat) * 1000000000 +
        (b.d.getD 2 0).toNat < (s.begin.trig b.wa.toNat).emitEnd) && decide (s.begin.now < (s.begin.trig b.wa.toNat).emitEnd)) = true)) = true := by
      have free : (s.begin.trig b.wa.toNat).pend = none := free
      rw [free, Option.isSome_none, Bool.false_or, decide_eq_true_eq, Bool.and_eq_true]
      rintro ⟨before, now⟩
      exact passed.elim (fun h => absurd (of_decide_eq_true now) (not_lt.2 h)) fun h => absurd (of_decide_eq_true before) (not_lt.2 h)
    exact ⟨fun late => timeService_refuses may rfl ((if_neg good).trans ((if_neg mode).trans ((if_neg idle).trans (if_pos late)))),
      fun soon => timeService_sets may rfl ((if_neg good).trans ((if_neg mode).trans ((if_neg idle).trans (if_neg (not_lt.2 soon)))))⟩

theorem trigRead_judged (may : s.canCall o 0x0E0003) :
    (s.get (F.TIM_TRIG_CFG_MODE.at k) ≠ 1 → ∃ t, exec (.trigRead o b) s = .next t ∧ t.told o St.trigMode [] ∧ t.time = s.time) ∧
    (s.get (F.TIM_TRIG_CFG_MODE.at k) = 1 → ∃ t, exec (.trigRead o b) s = .next t ∧
      t.told o St.done [(s.trig k).cap / 1000000000 % 2 ^ 32, (s.trig k).cap / 1000000000 / 2 ^ 32 % 2 ^ 16,
        (s.trig k).cap % 1000000000, (s.trig k).progCount * 65536 + 4 * b2n (s.trig k).falling + 2 * b2n (s.trig k).stepped +
          b2n (s.trig k).valid] ∧
      t.trig k = { s.trig k with progCount := 0 }) := by
  subst hk
  refine ⟨fun mode => timeService_refuses may rfl ((if_neg (not_le.2 near)).trans (if_pos mode)), fun mode => ?_⟩
  obtain ⟨t, run, told, set, -⟩ := timeService_sets (f := svcTrigRead) (b := b) may rfl ((if_neg (not_le.2 near)).trans (if_neg (not_not.2 mode)))
  exact ⟨t, run, told, set⟩

end Land

/-! ### Reads that latch (R433, R455) -/

theorem timTrigStatRead_latches (s : State) (who : Requester) (k : Nat) (_ : k < 4) : ∃ t, exec (.timTrigStatRead who k) s = .next t ∧
    t.get (F.TIM_TRIG_STAT_COUNT.at k) = 0 ∧ t.trig k = s.trig k ∧
    t.latched (Win.trig k) who.key = [(s.trig k).cap / 1000000000 % 2 ^ 32, (s.trig k).cap % 1000000000] := by
  refine ⟨_, rfl, ?_, ?_, ?_⟩
  · rw [State.after_get, State.reply_get]
    exact (State.get_put_self s.begin (F.TIM_TRIG_STAT_COUNT.at k) 0).trans (Nat.zero_mod _)
  · rw [State.trig_of_time (State.after_time ..), State.trig_of_time (State.reply_time ..)]
    rfl
  · rw [State.latched_of_latch (State.after_latch ..), State.latched_of_latch (State.reply_latch ..)]
    exact State.latched_setLatch_self ..

theorem timNowNsRead_latches (s : State) (who : Requester) (a : Nat) (ahead : s.frame.off ≤ a) : ∃ t, exec (.timNowNsRead who a) s = .next t ∧
    t.out = [⟨.value, [(who.key : Int), St.done, ((s.frame.start + a) % 1000000000 : Nat)]⟩] ∧
    t.latched Win.sec who.key = [(s.frame.start + a) / 1000000000 % 2 ^ 32, (s.frame.start + a) / 1000000000 / 2 ^ 32 % 2 ^ 16] ∧
    t.regs = s.regs := by
  have now : (s.begin.atNs a).now = s.frame.start + a := by
    show s.frame.start + Nat.max s.frame.off a = _
    exact congrArg _ (Nat.max_eq_right ahead)
  refine ⟨_, rfl, ?_, ?_, ?_⟩
  · rw [State.after_out, State.reply_out]
    have read : ((s.begin.atNs a).readNow who.key).2 = (s.frame.start + a) % 1000000000 := by
      show (s.begin.atNs a).now % 1000000000 = _
      rw [now]
    show [] ++ [(⟨.value, ([who.key, St.done] ++ [((s.begin.atNs a).readNow who.key).2]).map Int.ofNat⟩ : Out)] = _
    rw [read]
    rfl
  · rw [State.latched_of_latch (State.after_latch ..), State.latched_of_latch (State.reply_latch ..)]
    refine (State.latched_setLatch_self ..).trans ?_
    rw [now]
  · rw [State.after_regs, State.reply_regs]
    rfl

/-! ### The transmit timestamp queue (R459) -/

/-- A queue with a new stamp. -/
def State.withStamp (s : State) (id port at_ : Nat) : State := s.modTime fun t => { t with txq := t.txq ++ [⟨id % 65536, port, at_⟩] }

theorem pushStamp_room {s : State} (room : s.time.txq.length < 32) (id port at_ : Nat) :
    s.pushStamp id port at_ = (s.withStamp id port at_, true) := if_neg (not_le.2 room)

theorem pushStamp_full {s : State} (full : 32 ≤ s.time.txq.length) (id port at_ : Nat) :
    s.pushStamp id port at_ = (s.inc F.TIM_TXQ_OVERFLOW, false) := if_pos full

/-- A queue whose oldest stamp has been given out. -/
def State.popped (s : State) (x : Stamp) (l : List Stamp) : State :=
  (s.modTime fun t => { t with txq := l }).emitNow .value
    [(0 : Int), 0, x.id, x.port, (x.at_ / 1000000000 % 2 ^ 48 : Nat), (x.at_ % 1000000000 : Nat)]

theorem popStamp_some {s : State} {x : Stamp} {l : List Stamp} (h : s.time.txq = x :: l) : s.popStamp = s.popped x l := by
  unfold State.popStamp
  rw [h]
  exact State.emit_of_not_held _ _ rfl

theorem txTimestamp_stamps (s : State) (id port a : Nat) :
    (s.time.txq.length < 32 → ∃ t, exec (.txTimestamp id port a false) s = .next t ∧
      t.time = { s.time with txq := s.time.txq ++ [⟨id % 65536, port, s.frame.start + a⟩] } ∧ t.regs = s.regs ∧ t.out = []) ∧
    (32 ≤ s.time.txq.length → ∃ t, exec (.txTimestamp id port a false) s = .next t ∧ t.time = s.time ∧
      t.get F.TIM_TXQ_OVERFLOW = min 65535 (s.get F.TIM_TXQ_OVERFLOW + 1)) ∧
    (∀ x l, s.time.txq = x :: l → l.length < 32 → ∃ t, exec (.txTimestamp id port a true) s = .next t ∧
      t.time = { s.time with txq := l ++ [⟨id % 65536, port, s.frame.start + a⟩] } ∧ t.regs = s.regs ∧
      t.out = [⟨.value, [0, 0, (x.id : Int), x.port, (x.at_ / 1000000000 % 2 ^ 48 : Nat), (x.at_ % 1000000000 : Nat)]⟩]) := by
  refine ⟨fun room => ?_, fun full => ?_, fun x l hx room => ?_⟩
  · have eq := congrArg Prod.fst (pushStamp_room (s := s.begin.atNs a) room id port (s.begin.frame.start + a))
    exact ⟨_, congrArg (fun u => Host.Outcome.next (s.after u)) eq, rfl, rfl, rfl⟩
  · have eq := congrArg Prod.fst (pushStamp_full (s := s.begin.atNs a) full id port (s.begin.frame.start + a))
    exact ⟨_, congrArg (fun u => Host.Outcome.next (s.after u)) eq, rfl, State.get_inc_word (s.begin.atNs a) rfl rfl⟩
  · have pop : (s.begin.atNs a).when true State.popStamp = (s.begin.atNs a).popped x l := (if_pos rfl).trans (popStamp_some hx)
    have eq : (((s.begin.atNs a).when true State.popStamp).pushStamp id port (s.begin.frame.start + a)).1 =
        ((s.begin.atNs a).popped x l).withStamp id port (s.begin.frame.start + a) := by
      rw [pop, pushStamp_room room]
    exact ⟨_, congrArg (fun u => Host.Outcome.next (s.after u)) eq, rfl, rfl, rfl⟩

theorem txqPop_oldest (s : State) (x : Stamp) (l : List Stamp) (h : s.time.txq = x :: l) : ∃ t, exec .txqPop s = .next t ∧
    t.time = { s.time with txq := l } ∧ t.out = [⟨.value, [0, 0, (x.id : Int), x.port, (x.at_ / 1000000000 % 2 ^ 48 : Nat),
      (x.at_ % 1000000000 : Nat)]⟩] ∧ { t with time := s.time, out := s.out } = s :=
  ⟨_, congrArg (fun u => Host.Outcome.next (s.after u)) (popStamp_some (s := s.begin) h), rfl, rfl, by cases s; rfl⟩

theorem txqPop_idle (s : State) (h : s.time.txq = []) : s.idle .txqPop := by
  have h : s.begin.time.txq = [] := h
  refine State.idle_of (f := State.popStamp) rfl ?_
  unfold State.popStamp
  rw [h]

/-- Settles O45: each command and each service sets one land, the queue of stamps, or one latch. -/
theorem triggersAndStampsAreKept : Obligations.TriggersAndStampsAreKept :=
  ⟨trigCapture_captures, trigCapture_idle, trigEmission_judged, trigEmission_idle,
    fun _ _ _ _ hk => ⟨trigServices_unknown hk, fun near may edge => trigArm_judged hk near may edge,
      fun at_ near may ns hat => trigEmit_judged hk near at_ may ns hat, fun near may => (trigRead_judged hk near may).1,
      fun near may => (trigRead_judged hk near may).2⟩,
    timTrigStatRead_latches, timNowNsRead_latches, txTimestamp_stamps, txqPop_oldest, txqPop_idle⟩

end Sys2Proof.Machine

/-! ### PTP (O46) -/
namespace Sys2Proof.Machine

/-! ### The slave (R450, R460) -/

/-- A complete exchange of the clock. -/
def State.measured (s : State) (off : Int) : State := s.modTime fun t => { t with
  offP := off, ptp := { t.ptp with t3 := none, offs := (t.ptp.offs ++ [off]).drop (t.ptp.offs.length - 15), lastExch := s.mono } }

section Slave
variable {s : State} {gm : Nat} (slave : s.ptpSlave = true) (mine : s.fromParent gm = true)
include slave mine

theorem ptpSync_taken (q : Nat) (t1 t2 c : Int) :
    (∃ t, exec (.ptpSyncRx q gm t1 t2 c true) s = .next t ∧ t.time = { s.time with
      ptp := { s.time.ptp with syncSeq := some (q, t2, c) } } ∧ { t with time := s.time, out := s.out } = s) ∧
    (∃ t, exec (.ptpSyncRx q gm t1 t2 c false) s = .next t ∧ t.time = { s.time with ptp := { s.time.ptp with
      syncSeq := none, t1 := t1, t2 := t2, syncCorr := c, haveSync := true } } ∧ { t with time := s.time, out := s.out } = s) := by
  have slave : s.begin.ptpSlave = true := slave
  have mine : s.begin.fromParent gm = true := mine
  have go : ¬((!s.begin.ptpSlave || !s.begin.fromParent gm) = true) := by rw [slave, mine]; decide
  constructor
  · exact ⟨_, congrArg (fun u => Host.Outcome.next (s.after u)) ((if_neg go).trans (if_pos rfl)), rfl, by cases s; rfl⟩
  · exact ⟨_, congrArg (fun u => Host.Outcome.next (s.after u)) ((if_neg go).trans (if_neg Bool.false_ne_true)), rfl, by cases s; rfl⟩

theorem ptpFollowUp_taken (q : Nat) (t1 t2 c c0 : Int) (sync : s.time.ptp.syncSeq = some (q, t2, c0)) :
    ∃ t, exec (.ptpFollowUpRx q gm t1 c) s = .next t ∧ t.time = { s.time with ptp := { s.time.ptp with
        syncSeq := none, t1 := t1, t2 := t2, syncCorr := c0 + c, haveSync := true } } ∧ { t with time := s.time, out := s.out } = s := by
  have slave : s.begin.ptpSlave = true := slave
  have mine : s.begin.fromParent gm = true := mine
  have sync : s.begin.time.ptp.syncSeq = some (q, t2, c0) := sync
  obtain ⟨u, run, hu⟩ : ∃ u, exec (.ptpFollowUpRx q gm t1 c) s = .next (s.after u) ∧ u = s.begin.modPtp fun p =>
      { p with syncSeq := none, t1 := t1, t2 := t2, syncCorr := c0 + c, haveSync := true } := by
    refine ⟨_, rfl, ?_⟩
    unfold State.ptpFollowUp
    dsimp only
    rw [slave, mine, if_neg (by decide), sync]
    exact if_pos rfl
  subst hu
  exact ⟨_, run, rfl, by cases s; rfl⟩

theorem ptpDelayResp_measures (q : Nat) (t3 t4 c down up : Int) (sent : s.time.ptp.t3 = some t3) (seq : s.time.ptp.reqSeq = q)
    (sync : s.time.ptp.haveSync = true) (hdown : down = s.time.ptp.t2 - s.time.ptp.t1 - s.time.ptp.syncCorr) (hup : up = t4 - t3 - c) :
    ∃ t, exec (.ptpDelayRespRx q gm t4 c) s = .next t ∧ t.get F.TIM_PTP_STAT_PORT = 9 ∧
      t.get F.TIM_PTP_DELAY_DELAY = min (2 ^ 32 - 1) ((down + up) / 2).toNat ∧ t.time.offP = (down + up) / 2 - down ∧
      t.time.ptp.t3 = none ∧ t.time.ptp.lastExch = s.mono := by
  have slave : s.begin.ptpSlave = true := slave
  have mine : s.begin.fromParent gm = true := mine
  have sent : s.begin.time.ptp.t3 = some t3 := sent
  have seq : s.begin.time.ptp.reqSeq = q := seq
  have sync : s.begin.time.ptp.haveSync = true := sync
  obtain ⟨u, run, hu⟩ : ∃ u, exec (.ptpDelayRespRx q gm t4 c) s = .next (s.after u) ∧
      u = ((s.begin.measured (-(down - (down + up) / 2))).put F.TIM_PTP_STAT_PORT 9).put F.TIM_PTP_DELAY_DELAY
        (min (2 ^ 32 - 1) ((down + up) / 2).toNat) := by
    refine ⟨_, rfl, ?_⟩
    unfold State.ptpDelayResp
    dsimp only
    rw [sent]
    dsimp only
    rw [if_neg (by rw [slave, mine, decide_eq_false (not_not.2 seq), sync]; decide), hdown, hup]
    rfl
  subst hu
  refine ⟨_, run, ?_, ?_, ?_, rfl, rfl⟩
  · rw [State.after_get, State.get_put_ne _ _ _ _ (by decide), State.get_put_self]
    rfl
  · rw [State.after_get, State.get_put_self]
    exact Nat.mod_eq_of_lt (lt_of_le_of_lt (min_le_left ..) (by decide))
  · show -(down - (down + up) / 2) = _
    omega

end Slave

theorem ptpSlave_idle (s : State) (q gm : Nat) (t1 t2 c : Int) (two : Bool) (h : s.ptpSlave = false ∨ s.fromParent gm = false) :
    s.idle (.ptpSyncRx q gm t1 t2 c two) ∧ s.idle (.ptpFollowUpRx q gm t1 c) ∧ s.idle (.ptpDelayRespRx q gm t1 c) := by
  have stop : (!s.begin.ptpSlave || !s.begin.fromParent gm) = true := by
    have h : s.begin.ptpSlave = false ∨ s.begin.fromParent gm = false := h
    rcases h with h | h <;> rw [h] <;> simp
  refine ⟨State.idle_of (f := fun s => s.ptpSync q gm t1 t2 c two) rfl (if_pos stop),
    State.idle_of (f := fun s => s.ptpFollowUp q gm t1 c) rfl (if_pos stop),
    State.idle_of (f := fun s => s.ptpDelayResp q gm t1 c) rfl ?_⟩
  unfold State.ptpDelayResp
  dsimp only
  split
  · exact if_pos (by rw [stop, Bool.true_or, Bool.true_or])
  · rfl

theorem ptpDelayReq_sends (s : State) (t3 : Int) (q : Nat) (slave : s.ptpSlave = true) (sync : s.time.ptp.haveSync = true)
    (hq : q = (s.time.ptp.reqSeq + 1) % 65536) :
    ∃ t, exec (.ptpDelayReqTx t3) s = .next t ∧ t.time.ptp.reqSeq = q ∧ t.out = [⟨.ptp, [Ptp.delayReq, (q : Int)]⟩] ∧
      t.time.ptp.t3 = if s.time.txq.length < 32 then some t3 else none := by
  have slave : s.begin.ptpSlave = true := slave
  have sync : s.begin.time.ptp.haveSync = true := sync
  have go : ¬((!s.begin.ptpSlave || !s.begin.time.ptp.haveSync) = true) := by rw [slave, sync]; decide
  by_cases room : s.time.txq.length < 32
  · have push := pushStamp_room (s := s.begin) room ((s.begin.time.ptp.reqSeq + 1) % 65536) 0 t3.toNat
    obtain ⟨u, run, hu⟩ : ∃ u, exec (.ptpDelayReqTx t3) s = .next (s.after u) ∧ u =
        ((s.begin.withStamp q 0 t3.toNat).modPtp fun p => { p with reqSeq := q, t3 := some t3 }).emitNow .ptp [Ptp.delayReq, q] := by
      refine ⟨_, rfl, (if_neg go).trans ?_⟩
      dsimp only
      rw [push, hq]
      rfl
    subst hu
    exact ⟨_, run, rfl, rfl, (if_pos room).symm⟩
  · have push := pushStamp_full (s := s.begin) (not_lt.1 room) ((s.begin.time.ptp.reqSeq + 1) % 65536) 0 t3.toNat
    obtain ⟨u, run, hu⟩ : ∃ u, exec (.ptpDelayReqTx t3) s = .next (s.after u) ∧ u =
        ((s.begin.inc F.TIM_TXQ_OVERFLOW).modPtp fun p => { p with reqSeq := q, t3 := none }).emitNow .ptp [Ptp.delayReq, q] := by
      refine ⟨_, rfl, (if_neg go).trans ?_⟩
      dsimp only
      rw [push, hq]
      rfl
    subst hu
    exact ⟨_, run, rfl, rfl, (if_neg room).symm⟩

theorem ptpDelayReq_idle (s : State) (t3 : Int) (h : s.ptpSlave = false ∨ s.time.ptp.haveSync = false) : s.idle (.ptpDelayReqTx t3) := by
  refine State.idle_of (f := fun s => s.ptpDelayReq t3) rfl (if_pos ?_)
  have h : s.begin.ptpSlave = false ∨ s.begin.time.ptp.haveSync = false := h
  rcases h with h | h <;> rw [h] <;> simp

/-! ### The best master (R451) -/

theorem ptpShow_time (s : State) : s.ptpShow.time = s.time := by
  unfold State.ptpShow
  split <;> rfl

theorem ptpShow_port (s : State) : s.ptpShow.get F.TIM_PTP_STAT_PORT = s.get F.TIM_PTP_STAT_PORT := by
  unfold State.ptpShow
  split <;> simp (disch := decide) only [State.get_put_ne]

theorem ptpShow_gm {s : State} {a : Announce} (h : s.time.ptp.parent = some a) : s.ptpShow.get F.TIM_PTP_GM_LO_ID = a.gm % 2 ^ 32 := by
  unfold State.ptpShow
  rw [h]
  dsimp only
  rw [State.get_put_ne _ _ _ _ (by decide), State.get_put_self]
  exact Nat.mod_mod ..

/-- The parent as an Announce leaves it; a new parent is measured afresh. -/
def State.followed (s : State) (a : Announce) (same : Bool) : State :=
  let s := s.modTime fun t => { t with
    ptpAcc := a.acc, leapP := a.utcOffset.map fun u => (u, if a.leap61 then 1 else if a.leap59 then 2 else 0) }
  s.modPtp fun p =>
    if same then { p with parent := some a, parentAt := s.mono }
    else { p with parent := some a, parentAt := s.mono, haveSync := false, syncSeq := none, t3 := none, offs := [] }

section Announce
variable {s : State} {a : Announce} (on : s.ptpOn = true) (domain : a.domain = s.get F.TIM_PTP_CFG_DOMAIN) (other : a.gm ≠ s.ownClock)
  (noMaster : s.get F.TIM_PTP_CFG_MASTER = 0)
include on domain other noMaster

theorem ptpAnnounce_go : ¬((!s.begin.ptpOn || decide (a.domain ≠ s.begin.get F.TIM_PTP_CFG_DOMAIN) || decide (a.gm = s.begin.ownClock)) = true) ∧
    ¬((s.begin.flag F.TIM_PTP_CFG_MASTER && s.begin.ownAnnounce.better a) = true) := by
  constructor
  · have on : s.begin.ptpOn = true := on
    have domain : decide (a.domain ≠ s.begin.get F.TIM_PTP_CFG_DOMAIN) = false := decide_eq_false (not_not.2 domain)
    have other : decide (a.gm = s.begin.ownClock) = false := decide_eq_false other
    rw [on, domain, other]
    decide
  · have noMaster : s.begin.flag F.TIM_PTP_CFG_MASTER = false := decide_eq_false (not_not.2 noMaster)
    rw [noMaster]
    simp

theorem ptpAnnounce_first (none_ : s.time.ptp.parent = none) : ∃ t, exec (.ptpAnnounceRx a) s = .next t ∧ t.time.ptp.parent = some a ∧
    t.get F.TIM_PTP_STAT_PORT = 8 ∧ t.time.ptp.offs = [] ∧ t.time.ptp.parentAt = s.mono ∧
    t.get F.TIM_PTP_GM_LO_ID = a.gm % 2 ^ 32 := by
  obtain ⟨go, own⟩ := ptpAnnounce_go on domain other noMaster
  have none_ : s.begin.time.ptp.parent = none := none_
  have stranger : s.begin.fromParent a.sender = false := by
    unfold State.fromParent
    rw [none_]
  have eq : s.begin.ptpAnnounce a = ((s.begin.followed a false).put F.TIM_PTP_STAT_PORT 8).ptpShow.utcEval := by
    unfold State.ptpAnnounce
    rw [if_neg go]
    dsimp only
    rw [if_neg own, none_, stranger]
    exact (if_pos rfl).trans rfl
  have time : ((s.begin.followed a false).put F.TIM_PTP_STAT_PORT 8).ptpShow.utcEval.time = (s.begin.followed a false).time :=
    (utcEval_time _).1.trans (ptpShow_time _)
  refine ⟨_, congrArg (fun u => Host.Outcome.next (s.after u)) eq, ?_, ?_, ?_, ?_, ?_⟩
  · rw [State.after_time, time]; rfl
  · rw [State.after_get, utcEval_get _ (by decide) (by decide) (by decide), ptpShow_port, State.get_put_self]
    rfl
  · rw [State.after_time, time]; rfl
  · rw [State.after_time, time]; rfl
  · rw [State.after_get, utcEval_get _ (by decide) (by decide) (by decide)]
    exact ptpShow_gm rfl

theorem ptpAnnounce_again (p : Announce) (parent : s.time.ptp.parent = some p) (same : p.sender = a.sender) :
    ∃ t, exec (.ptpAnnounceRx a) s = .next t ∧ t.time.ptp.parent = some a ∧ t.get F.TIM_PTP_STAT_PORT = s.get F.TIM_PTP_STAT_PORT ∧
      t.time.ptp.offs = s.time.ptp.offs ∧ t.time.ptpAcc = a.acc := by
  obtain ⟨go, own⟩ := ptpAnnounce_go on domain other noMaster
  have parent : s.begin.time.ptp.parent = some p := parent
  have known : s.begin.fromParent a.sender = true := by
    unfold State.fromParent
    rw [parent]
    exact decide_eq_true same
  have eq : s.begin.ptpAnnounce a = (s.begin.followed a true).ptpShow.utcEval := by
    unfold State.ptpAnnounce
    rw [if_neg go]
    dsimp only
    rw [if_neg own, known, if_pos (Bool.true_or _)]
    rfl
  have time : (s.begin.followed a true).ptpShow.utcEval.time = (s.begin.followed a true).time := (utcEval_time _).1.trans (ptpShow_time _)
  refine ⟨_, congrArg (fun u => Host.Outcome.next (s.after u)) eq, ?_, ?_, ?_, ?_⟩
  · rw [State.after_time, time]; rfl
  · rw [State.after_get, utcEval_get _ (by decide) (by decide) (by decide), ptpShow_port]
    rfl
  · rw [State.after_time, time]; rfl
  · rw [State.after_time, time]; rfl

theorem ptpAnnounce_worse (p : Announce) (parent : s.time.ptp.parent = some p) (stranger : p.sender ≠ a.sender) (worse : a.better p = false) :
    s.idle (.ptpAnnounceRx a) := by
  obtain ⟨go, own⟩ := ptpAnnounce_go on domain other noMaster
  have parent : s.begin.time.ptp.parent = some p := parent
  have unknown : s.begin.fromParent a.sender = false := by
    unfold State.fromParent
    rw [parent]
    exact decide_eq_false stranger
  refine State.idle_of (f := fun s => s.ptpAnnounce a) rfl ?_
  unfold State.ptpAnnounce
  rw [if_neg go]
  dsimp only
  rw [if_neg own, parent, unknown, if_neg (by dsimp only; rw [worse]; decide)]

end Announce

theorem ptpAnnounce_idle (s : State) (a : Announce) (h : s.ptpOn = false ∨ a.domain ≠ s.get F.TIM_PTP_CFG_DOMAIN ∨ a.gm = s.ownClock) :
    s.idle (.ptpAnnounceRx a) := by
  refine State.idle_of (f := fun s => s.ptpAnnounce a) rfl (if_pos ?_)
  have h : s.begin.ptpOn = false ∨ decide (a.domain ≠ s.begin.get F.TIM_PTP_CFG_DOMAIN) = true ∨ decide (a.gm = s.begin.ownClock) = true :=
    h.imp_right (Or.imp decide_eq_true decide_eq_true)
  rcases h with h | h | h <;> rw [h] <;> simp

theorem ptpAnnTimeout_ends (s : State) (on : s.ptpOn = true) (port : s.ptpPort ≠ 6)
    (late : s.past (s.time.ptp.parentAt + s.get F.TIM_PTP_CFG_ANN_TMO * 2 ^ s.get F.TIM_PTP_CFG_LOG_ANN * 1000000000) = true) :
    ∃ t, exec .ptpAnnounceTimeout s = .next t ∧ t.time.ptp.parent = none ∧ t.time.leapP = none ∧
      t.get F.TIM_PTP_STAT_PORT = if s.get F.TIM_PTP_CFG_MASTER ≠ 0 then 6 else 4 := by
  have on : s.begin.ptpOn = true := on
  have port : decide (s.begin.ptpPort ≠ 6) = true := decide_eq_true port
  have late : s.begin.past (s.begin.time.ptp.parentAt +
      s.begin.get F.TIM_PTP_CFG_ANN_TMO * 2 ^ s.begin.get F.TIM_PTP_CFG_LOG_ANN * 1000000000) = true := late
  obtain ⟨u, w, eq, hw, hm⟩ : ∃ u w : State, s.begin.ptpAnnTimeout = u ∧
      u = (w.put F.TIM_PTP_STAT_PORT (if w.flag F.TIM_PTP_CFG_MASTER then 6 else 4)).ptpShow.utcEval ∧
      w.time.ptp.parent = none ∧ w.time.leapP = none ∧ w.regs = s.regs := by
    refine ⟨_, _, if_pos (by rw [on, port, late]; rfl), rfl, rfl, rfl, rfl⟩
  obtain ⟨leap, regs⟩ := hm.2
  have time : u.time = w.time := by
    rw [hw, (utcEval_time _).1, ptpShow_time]
    rfl
  refine ⟨_, congrArg (fun u => Host.Outcome.next (s.after u)) eq, ?_, ?_, ?_⟩
  · rw [State.after_time, time]; exact hm.1
  · rw [State.after_time, time]; exact leap
  · rw [State.after_get, hw, utcEval_get _ (by decide) (by decide) (by decide), ptpShow_port, State.get_put_self, State.flag_eq, State.get, regs,
      ← State.get]
    simp only [decide_eq_true_eq]
    split <;> rfl

theorem ptpAnnTimeout_idle (s : State) (h : s.ptpOn = false ∨ s.ptpPort = 6) : s.idle .ptpAnnounceTimeout := by
  refine State.idle_of (f := State.ptpAnnTimeout) rfl (if_neg ?_)
  have h : s.begin.ptpOn = false ∨ decide (s.begin.ptpPort ≠ 6) = false := h.imp_right fun h => decide_eq_false (not_not.2 h)
  rcases h with h | h <;> rw [h] <;> simp

/-! ### The master (R451, R460) -/

theorem ptpMaster_sends (s : State) (q : Nat) (on : s.ptpOn = true) (port : s.ptpPort = 6) :
    (q = (s.time.ptp.txSyncSeq + 1) % 65536 → s.time.txq.length < 32 → ∃ t, exec .ptpSyncTx s = .next t ∧
      t.time.ptp.txSyncSeq = q ∧ t.out = [⟨.ptp, [Ptp.sync, (q : Int)]⟩, ⟨.ptp, [Ptp.followUp, (q : Int), s.now]⟩]) ∧
    (q = (s.time.ptp.txSyncSeq + 1) % 65536 → 32 ≤ s.time.txq.length → ∃ t, exec .ptpSyncTx s = .next t ∧
      t.out = [⟨.ptp, [Ptp.sync, (q : Int)]⟩]) ∧
    (q = (s.time.ptp.txAnnSeq + 1) % 65536 → ∃ t l, exec .ptpAnnounceTx s = .next t ∧ t.time.ptp.txAnnSeq = q ∧
      t.out = [⟨.ptp, [Ptp.announce, (q : Int), s.masterClass.1, s.masterClass.2.1, s.masterClass.2.2] ++ l⟩]) ∧
    (∀ src t4, ∃ t, exec (.ptpDelayReqRx q src t4) s = .next t ∧ t.out = [⟨.ptp, [Ptp.delayResp, (q : Int), src, t4]⟩] ∧
      { t with out := s.out } = s) := by
  have on : s.begin.ptpOn = true := on
  have master : decide (s.begin.ptpPort ≠ 6) = false := decide_eq_false (not_not.2 port)
  have go : ¬((!s.begin.ptpOn || decide (s.begin.ptpPort ≠ 6)) = true) := by rw [on, master]; decide
  refine ⟨fun hq room => ?_, fun hq full => ?_, fun hq => ?_, fun src t4 => ?_⟩
  · have push := pushStamp_room (s := s.begin.modPtp fun p => { p with txSyncSeq := q }) room q 0 s.begin.now
    obtain ⟨u, run, hu⟩ : ∃ u, exec .ptpSyncTx s = .next (s.after u) ∧ u =
        (((s.begin.modPtp fun p => { p with txSyncSeq := q }).withStamp q 0 s.begin.now).emitNow .ptp [Ptp.sync, q]).emitNow .ptp
          [Ptp.followUp, q, s.now] := by
      refine ⟨_, rfl, (if_neg go).trans ?_⟩
      dsimp only
      rw [show (s.begin.time.ptp.txSyncSeq + 1) % 65536 = q from hq.symm, push]
      rfl
    subst hu
    exact ⟨_, run, rfl, rfl⟩
  · have push := pushStamp_full (s := s.begin.modPtp fun p => { p with txSyncSeq := q }) full q 0 s.begin.now
    obtain ⟨u, run, hu⟩ : ∃ u, exec .ptpSyncTx s = .next (s.after u) ∧ u =
        ((s.begin.modPtp fun p => { p with txSyncSeq := q }).inc F.TIM_TXQ_OVERFLOW).emitNow .ptp [Ptp.sync, q] := by
      refine ⟨_, rfl, (if_neg go).trans ?_⟩
      dsimp only
      rw [show (s.begin.time.ptp.txSyncSeq + 1) % 65536 = q from hq.symm, push]
      rfl
    subst hu
    exact ⟨_, run, rfl⟩
  · refine ⟨_, [(s.get F.TIM_PTP_PRI_PRIORITY1 : Int), s.get F.TIM_PTP_PRI_PRIORITY2, s.get F.TIM_PTP_CFG_DOMAIN, s.get F.TIM_UTC_LEAP,
      s.get F.TIM_STAT_TOD, s.get F.TIM_UTC_PENDING], congrArg (fun u => Host.Outcome.next (s.after u)) (if_neg go), hq.symm, ?_⟩
    rw [hq]
    rfl
  · have port : decide (s.begin.ptpPort = 6) = true := decide_eq_true port
    exact ⟨_, congrArg (fun u => Host.Outcome.next (s.after u)) (if_pos (by rw [on, port]; rfl)), rfl, by cases s; rfl⟩

theorem ptpMaster_idle (s : State) (q src : Nat) (t4 : Int) (h : s.ptpOn = false ∨ s.ptpPort ≠ 6) :
    s.idle .ptpSyncTx ∧ s.idle .ptpAnnounceTx ∧ s.idle (.ptpDelayReqRx q src t4) := by
  have stop : (!s.begin.ptpOn || decide (s.begin.ptpPort ≠ 6)) = true := by
    have h : s.begin.ptpOn = false ∨ decide (s.begin.ptpPort ≠ 6) = true := h.imp_right decide_eq_true
    rcases h with h | h <;> rw [h] <;> simp
  refine ⟨State.idle_of (f := State.ptpSyncTx) rfl (if_pos stop), State.idle_of (f := State.ptpAnnounceTx) rfl (if_pos stop),
    State.idle_of (f := fun s => s.when (s.ptpOn && s.ptpPort = 6) fun s => s.emitNow .ptp [Ptp.delayResp, q, src, t4]) rfl (if_neg ?_)⟩
  have h : s.begin.ptpOn = false ∨ decide (s.begin.ptpPort = 6) = false := h.imp_right fun h => decide_eq_false h
  rcases h with h | h <;> rw [h] <;> simp

/-! ### The transparent clock (R452) -/

theorem ptpTcForward_judged (s : State) (typ : Nat) (two b : Bool) (c r : Int) :
    (s.framesOn = true → s.get F.TIM_PTP_CFG_TC_EN ≠ 0 →
      ((typ = 0 ∧ two = false) ∨ typ = 1 ∨ typ = 8 → ∃ t, exec (.ptpTcForward typ two b c r) s = .next t ∧
        t.out = [⟨.ptp, [(typ : Int), 1, (b2n b : Int), c + r]⟩] ∧ { t with out := s.out } = s) ∧
      ((typ = 0 ∧ two = true) ∨ (typ ≠ 0 ∧ typ ≠ 1 ∧ typ ≠ 8) → ∃ t, exec (.ptpTcForward typ two b c r) s = .next t ∧
        t.out = [⟨.ptp, [(typ : Int), 1, (b2n b : Int), c]⟩] ∧ { t with out := s.out } = s)) ∧
    (s.framesOn = false ∨ s.get F.TIM_PTP_CFG_TC_EN = 0 → s.idle (.ptpTcForward typ two b c r)) := by
  refine ⟨fun on en => ?_, fun h => State.idle_run rfl (if_neg ?_)⟩
  · have on : s.begin.framesOn = true := on
    have en : s.begin.flag F.TIM_PTP_CFG_TC_EN = true := decide_eq_true en
    obtain ⟨u, run, hu⟩ : ∃ u, exec (.ptpTcForward typ two b c r) s = .next (s.after u) ∧ u = s.begin.emitNow .ptp
        [(typ : Int), 1, b2n b, if (decide (typ = 0) && !two || decide (typ = 1) || decide (typ = 8)) = true then c + r else c] :=
      ⟨_, rfl, if_pos (by rw [on, en]; rfl)⟩
    subst hu
    constructor
    · intro adds
      rw [if_pos (by rcases adds with ⟨h, g⟩ | h | h <;> simp [*])] at run
      exact ⟨_, run, rfl, by cases s; rfl⟩
    · intro keeps
      rw [if_neg (by rcases keeps with ⟨h, g⟩ | ⟨h, g, k⟩ <;> simp [*])] at run
      exact ⟨_, run, rfl, by cases s; rfl⟩
  · have h : s.begin.framesOn = false ∨ s.begin.flag F.TIM_PTP_CFG_TC_EN = false := h.imp_right fun h => decide_eq_false (not_not.2 h)
    rcases h with h | h <;> rw [h] <;> simp

/-- Settles O46: each message is judged by its port and parent first, and then sets the exchange of the clock. -/
theorem ptpFollowsItsMaster : Obligations.PtpFollowsItsMaster :=
  ⟨fun _ q _ t1 t2 c slave mine => ⟨(ptpSync_taken slave mine q t1 t2 c).1, (ptpSync_taken slave mine q t1 t2 c).2,
      fun c0 sync => ptpFollowUp_taken slave mine q t1 t2 c c0 sync,
      fun t3 t4 down up sent seq sync hdown hup => ptpDelayResp_measures slave mine q t3 t4 c down up sent seq sync hdown hup⟩,
    ptpSlave_idle, ptpDelayReq_sends, ptpDelayReq_idle,
    fun _ _ on domain other noMaster => ⟨ptpAnnounce_first on domain other noMaster, ptpAnnounce_again on domain other noMaster,
      ptpAnnounce_worse on domain other noMaster⟩,
    ptpAnnounce_idle, ptpAnnTimeout_ends, ptpAnnTimeout_idle, ptpMaster_sends, ptpMaster_idle, ptpTcForward_judged⟩

end Sys2Proof.Machine

/-! ### The real-time clock (O47) -/
namespace Sys2Proof.Machine

theorem toInt_ofInt_eleven {z : Int} (low : -1024 ≤ z) (high : z ≤ 1023) : toInt 11 (ofInt 11 z % 2 ^ 11) = z := by
  unfold toInt ofInt
  split <;> omega

theorem State.flag_off {s : State} {f : Fld} (h : s.get f = 0) : s.flag f = false := decide_eq_false (not_not.2 h)

theorem clampI_between {lo hi : Int} (h : lo ≤ hi) (z : Int) : lo ≤ clampI lo hi z ∧ clampI lo hi z ≤ hi := by
  unfold clampI
  split
  · exact ⟨le_refl _, h⟩
  · split <;> constructor <;> omega

/-! ### Commits (R462, R463) -/

section Commit
variable {s : State} {who : Requester} (may : s.mayWrite who)
include may

/-- A commit replies with its status on what it leaves. -/
theorem rtcCommit_run {u : State} {st : Nat} (h : s.begin.rtcCommit = (u, st)) : exec (.rtcCommit who) s = .next (s.after (u.reply who st)) := by
  refine congrArg (fun u => Host.Outcome.next (s.after u)) ((State.gate_open may _).trans ?_)
  rw [h]

theorem rtcCommit_refused {st : Nat} (h : s.begin.rtcCommit = (s.begin, st)) : ∃ t, exec (.rtcCommit who) s = .next t ∧
    t.out = [⟨.value, [(who.key : Int), st]⟩] ∧ { t with out := s.out } = s := by
  have run := rtcCommit_run may h
  rw [State.reply_eq] at run
  exact ⟨_, run, rfl, by cases s; rfl⟩

theorem rtcCommit_busy (locked : s.get F.RTC_STAT_LOCKOUT ≠ 0) : ∃ t, exec (.rtcCommit who) s = .next t ∧
    t.out = [⟨.value, [(who.key : Int), St.busy]⟩] ∧ { t with out := s.out } = s :=
  rtcCommit_refused may (if_pos (decide_eq_true locked))

theorem rtcCommit_disciplined (free : s.get F.RTC_STAT_LOCKOUT = 0) (disc : s.disciplined = true) : ∃ t, exec (.rtcCommit who) s = .next t ∧
    t.out = [⟨.value, [(who.key : Int), St.disciplined]⟩] ∧ { t with out := s.out } = s := by
  have free : ¬s.begin.flag F.RTC_STAT_LOCKOUT = true := by rw [State.flag_off (s := s.begin) free]; decide
  exact rtcCommit_refused may ((if_neg free).trans (if_pos disc))

theorem rtcCommit_bad_date (free : s.get F.RTC_STAT_LOCKOUT = 0) (disc : s.disciplined = false) (bad : s.stagedValid = false) :
    ∃ t, exec (.rtcCommit who) s = .next t ∧ t.get F.RTC_STAT_BAD_DATE = 1 ∧ t.rtc = s.rtc ∧
      t.out = [⟨.value, [(who.key : Int), St.badDate]⟩] := by
  have free : ¬s.begin.flag F.RTC_STAT_LOCKOUT = true := by rw [State.flag_off (s := s.begin) free]; decide
  have disc : ¬s.begin.disciplined = true := Bool.not_eq_true _ ▸ disc
  have bad : (!s.begin.stagedValid) = true := by rw [show s.begin.stagedValid = false from bad]; rfl
  have run := rtcCommit_run may ((if_neg free).trans ((if_neg disc).trans (if_pos bad)))
  rw [State.reply_eq] at run
  exact ⟨_, run, State.get_put_self s.begin F.RTC_STAT_BAD_DATE 1, rfl, rfl⟩

theorem rtcCommit_set (free : s.get F.RTC_STAT_LOCKOUT = 0) (disc : s.disciplined = false) (good : s.stagedValid = true) :
    ∃ t, exec (.rtcCommit who) s = .next t ∧
      t.rtc.t = ⟨secsOf (s.get F.RTC_W_YEAR_VAL) (s.get F.RTC_W_MONTH_VAL) (s.get F.RTC_W_DAY_VAL)
        (s.get F.RTC_W_HOUR_VAL) (s.get F.RTC_W_MIN_VAL) (s.get F.RTC_W_SEC_VAL), false, 0⟩ ∧ t.get F.RTC_STAT_OSF = 0 ∧
      t.rtc.trim = s.getI F.RTC_TRIM_PULSES ∧ t.rtc.shadows = s.rtc.shadows ∧ t.out = [⟨.value, [(who.key : Int), St.done]⟩] := by
  have free : ¬s.begin.flag F.RTC_STAT_LOCKOUT = true := by rw [State.flag_off (s := s.begin) free]; decide
  have disc : ¬s.begin.disciplined = true := Bool.not_eq_true _ ▸ disc
  have good : ¬(!s.begin.stagedValid) = true := by rw [show s.begin.stagedValid = true from good]; decide
  have run := rtcCommit_run may ((if_neg free).trans ((if_neg disc).trans (if_neg good)))
  rw [State.reply_eq] at run
  exact ⟨_, run, rfl, State.get_put_self (s.begin.modRtc _) F.RTC_STAT_OSF 0, rfl, rfl, rfl⟩

end Commit

/-! ### Reads (R461, R469) -/

theorem rtcSubsecRead_freezes (s : State) (who : Requester) :
    ∃ t, exec (.rtcSubsecRead who) s = .next t ∧ t.out = [⟨.value, [(who.key : Int), St.done, ((s.rtc.lockT.getD s.rtc.t).sub : Int)]⟩] ∧
      SMap.get? t.rtc.shadows who.key = some ⟨s.rtc.lockT.getD s.rtc.t, s.mono + 1000000000⟩ ∧
      (∀ k, k ≠ who.key → SMap.get? t.rtc.shadows k = SMap.get? s.rtc.shadows k) ∧ { t with rtc := s.rtc, out := s.out } = s := by
  have run : exec (.rtcSubsecRead who) s = .next (s.after ((s.begin.readSubsec who.key).1.reply who St.done
    [(s.rtc.lockT.getD s.rtc.t).sub])) := rfl
  rw [State.reply_eq] at run
  exact ⟨_, run, rfl, SMap.get?_insert_self .., fun k hk => SMap.get?_insert_ne _ _ _ _ hk, by cases s; rfl⟩

theorem rtcYearRead_thaws (s : State) (who : Requester) :
    ∃ t, exec (.rtcYearRead who) s = .next t ∧ t.out = [⟨.value, [(who.key : Int), St.done, ((s.rtcSeen who.key).civil.year : Int)]⟩] ∧
      t.rtc.shadows = SMap.erase s.rtc.shadows who.key ∧ { t with rtc := s.rtc, out := s.out } = s := by
  have run : exec (.rtcYearRead who) s = .next (s.after ((s.begin.readYear who.key).1.reply who St.done [(s.rtcSeen who.key).civil.year])) := rfl
  rw [State.reply_eq] at run
  exact ⟨_, run, rfl, rfl, by cases s; rfl⟩

section Freeze
variable {s : State} {who : Requester} {x : RtcShadow} (frozen : SMap.get? s.rtc.shadows who.key = some x)
include frozen

theorem rtcFreezeExpiry_run : exec (.rtcFreezeExpiry who) s = .next (s.after (s.begin.when (s.past x.untilMono) fun s =>
    s.modRtc fun r => { r with shadows := SMap.erase r.shadows who.key })) := by
  have frozen : SMap.get? s.begin.rtc.shadows who.key = some x := frozen
  refine (show exec (.rtcFreezeExpiry who) s = .next (s.after _) from rfl).trans (congrArg (fun u => Host.Outcome.next (s.after u)) ?_)
  dsimp only
  rw [frozen]
  rfl

theorem rtcFreezeExpiry_expires (due : s.past x.untilMono = true) : ∃ t, exec (.rtcFreezeExpiry who) s = .next t ∧
    t.rtc = { s.rtc with shadows := SMap.erase s.rtc.shadows who.key } ∧ { t with rtc := s.rtc, out := s.out } = s := by
  have run := rtcFreezeExpiry_run frozen
  rw [due] at run
  exact ⟨_, run, rfl, by cases s; rfl⟩

theorem rtcFreezeExpiry_waits (early : s.past x.untilMono = false) : s.idle (.rtcFreezeExpiry who) :=
  State.idle_run (rtcFreezeExpiry_run frozen) (by rw [early]; rfl)

end Freeze

theorem calRead_shows {s : State} {o : Origin} (a : SvcArgs) {c : Civil} (may : s.canCall o 0x0F0001) (hc : c = (s.rtc.lockT.getD s.rtc.t).civil) :
    ∃ t l, exec (.calRead o a) s = .next t ∧ t.rtc = s.rtc ∧
      t.told o St.done ([(s.rtc.lockT.getD s.rtc.t).sub, c.sec, c.min, c.hour, 256 * c.weekday + c.day, c.month, c.year] ++ l) := by
  subst hc
  obtain ⟨t, run, told, w⟩ := State.act_callSvc (f := svcCalRead) (u := s.begin) (D := []) (a := a) may rfl rfl (Within.refl ..)
  exact ⟨t, _, run, w.rtc, told⟩

/-! ### Trim, leap second and the end of the count (R463 to R465) -/

theorem rtcTrimWindow_trims {s : State} (due : s.rtc.t.secs % 64 = 0) (plain : s.rtc.t.in60 = false) : ∃ t, exec .rtcTrimWindow s = .next t ∧
    t.rtc = { s.rtc with trim := s.getI F.RTC_TRIM_PULSES } ∧ { t with rtc := s.rtc, out := s.out } = s := by
  have go : (decide (s.begin.rtc.t.secs % 64 = 0) && !s.begin.rtc.t.in60) = true := by
    rw [show s.begin.rtc.t.in60 = false from plain, decide_eq_true (show s.begin.rtc.t.secs % 64 = 0 from due)]
    rfl
  exact ⟨_, congrArg (fun u => Host.Outcome.next (s.after u)) (if_pos go), rfl, by cases s; rfl⟩

theorem rtcTrimWindow_waits {s : State} (early : s.rtc.t.secs % 64 ≠ 0) : s.idle .rtcTrimWindow := by
  refine State.idle_of (f := State.rtcTrimWindow) rfl (if_neg ?_)
  rw [decide_eq_false (show ¬s.begin.rtc.t.secs % 64 = 0 from early)]
  exact Bool.false_ne_true

/-- The leap second that is due at the end of the second in progress. -/
theorem rtcLeapDue_eq {s : State} (plain : s.rtc.t.in60 = false) : s.rtcLeapDue =
    ((decide (s.get F.RTC_LEAP_MODE = 1) && monthEnd s.rtc.t.secs 86399) || (decide (s.get F.RTC_LEAP_MODE = 2) && monthEnd s.rtc.t.secs 86398)) := by
  unfold State.rtcLeapDue
  dsimp only
  rw [plain]
  rfl

section Leap
variable {s : State} (plain : s.rtc.t.in60 = false) (ends : 32767 ≤ s.rtc.t.sub + 400)
include plain ends

theorem rtcLeapAct_inserts (mode : s.get F.RTC_LEAP_MODE = 1) (month : monthEnd s.rtc.t.secs 86399 = true) :
    ∃ t, exec .rtcLeapAct s = .next t ∧ t.rtc.t = ⟨s.rtc.t.secs, true, 0⟩ ∧ t.get F.RTC_LEAP_MODE = 0 := by
  have due : s.begin.rtcLeapDue = true := (rtcLeapDue_eq (s := s) plain).trans (by rw [mode, month]; rfl)
  have ends : s.begin.rtcSecondEnds = true := decide_eq_true ends
  have eq : s.begin.rtcLeapAct = (s.begin.put F.RTC_LEAP_MODE 0).modRtc fun r => { r with t := ⟨r.t.secs, true, 0⟩ } := by
    unfold State.rtcLeapAct
    rw [due, ends, if_neg (by decide)]
    exact if_pos mode
  exact ⟨_, congrArg (fun u => Host.Outcome.next (s.after u)) eq, rfl, State.get_put_self s.begin F.RTC_LEAP_MODE 0⟩

theorem rtcLeapAct_deletes (mode : s.get F.RTC_LEAP_MODE = 2) (month : monthEnd s.rtc.t.secs 86398 = true)
    (room : s.rtc.t.secs + 2 ≤ rtcLast) :
    ∃ t, exec .rtcLeapAct s = .next t ∧ t.rtc.t = ⟨s.rtc.t.secs + 2, false, 0⟩ ∧ t.get F.RTC_LEAP_MODE = 0 := by
  have due : s.begin.rtcLeapDue = true := (rtcLeapDue_eq (s := s) plain).trans (by rw [mode, month]; rfl)
  have ends : s.begin.rtcSecondEnds = true := decide_eq_true ends
  have eq : s.begin.rtcLeapAct = (s.begin.put F.RTC_LEAP_MODE 0).modRtc fun r => { r with t := ⟨s.rtc.t.secs + 2, false, 0⟩ } := by
    unfold State.rtcLeapAct
    rw [due, ends, if_neg (by decide)]
    refine (if_neg ?_).trans (if_neg (not_lt.2 room))
    show ¬s.get F.RTC_LEAP_MODE = 1
    rw [mode]
    decide
  exact ⟨_, congrArg (fun u => Host.Outcome.next (s.after u)) eq, rfl, State.get_put_self s.begin F.RTC_LEAP_MODE 0⟩

omit ends in
theorem rtcLeapDue_off (mode : s.get F.RTC_LEAP_MODE = 0) : s.rtcLeapDue = false := by
  rw [rtcLeapDue_eq plain, mode]
  rfl

omit ends in
theorem rtcLeapAct_off (mode : s.get F.RTC_LEAP_MODE = 0) : s.idle .rtcLeapAct := by
  refine State.idle_of (f := State.rtcLeapAct) rfl (if_pos ?_)
  rw [show s.begin.rtcLeapDue = false from rtcLeapDue_off plain mode]
  rfl

theorem rtcRollover_rolls (mode : s.get F.RTC_LEAP_MODE = 0) (last : s.rtc.t.secs = rtcLast) :
    ∃ t, exec .rtcRollover s = .next t ∧ t.rtc.t = ⟨0, false, 0⟩ ∧ t.get F.RTC_STAT_OSF = 1 := by
  have due : s.begin.rtcRollDue = true := by
    unfold State.rtcRollDue
    rw [show s.begin.rtcLeapDue = false from rtcLeapDue_off plain mode]
    exact decide_eq_true last
  have ends : s.begin.rtcSecondEnds = true := decide_eq_true ends
  refine ⟨_, congrArg (fun u => Host.Outcome.next (s.after u)) (if_pos (show (_ && _) = true by rw [due, ends]; rfl)), rfl,
    State.get_put_self (s.begin.modRtc _) F.RTC_STAT_OSF 1⟩

end Leap

theorem rtcRollover_waits {s : State} (h : s.rtc.t.secs ≠ rtcLast) : s.idle .rtcRollover := by
  refine State.idle_of (f := State.rtcRollover) rfl (if_neg ?_)
  unfold State.rtcRollDue
  rw [decide_eq_false (show ¬s.begin.rtc.t.secs = rtcLast from h), Bool.and_false, Bool.false_and]
  exact Bool.false_ne_true

/-! ### Discipline and the oscillator (R466, R467) -/

theorem rtcDiscipline_compares {s : State} (disc : s.disciplined = true) (due : s.past (s.rtc.lastDisc + 60000000000) = true) :
    ∃ t, exec .rtcDiscipline s = .next t ∧ t.rtc.lastDisc = s.mono ∧ t.rtc.lastDiff = s.rtcDiff ∧ t.rtc.t = s.rtc.t ∧
      t.get F.RTC_LEAP_MODE = s.get F.TIM_UTC_PENDING % 4 ∧ (t.rtc.ownCommit.isSome = true ↔ 500 < s.rtcDiff.natAbs) ∧
      -1023 ≤ t.getI F.RTC_TRIM_PULSES ∧ t.getI F.RTC_TRIM_PULSES ≤ 1023 := by
  have go : ¬(!s.begin.disciplined || !s.begin.past (s.begin.rtc.lastDisc + 60000000000)) = true := by
    rw [show s.begin.disciplined = true from disc, show s.begin.past (s.begin.rtc.lastDisc + 60000000000) = true from due]
    decide
  obtain ⟨u, run, trim, own, between, howns, hu⟩ : ∃ u, exec .rtcDiscipline s = .next (s.after u) ∧ ∃ (trim : Int) (own : Option Nat),
      (-1023 ≤ trim ∧ trim ≤ 1023) ∧ (own.isSome = true ↔ 500 < s.rtcDiff.natAbs) ∧
      u = ((s.begin.putI F.RTC_TRIM_PULSES trim).put F.RTC_LEAP_MODE (s.get F.TIM_UTC_PENDING)).modRtc fun r =>
        { r with lastDisc := s.mono, lastDiff := s.rtcDiff, ownCommit := own } :=
    ⟨_, congrArg (fun u => Host.Outcome.next (s.after u)) (if_neg go), _, _, clampI_between (by decide) _, by
      show Option.isSome (if 500 < s.rtcDiff.natAbs then some _ else none) = true ↔ _
      split <;> simp [*], rfl⟩
  subst hu
  have shown : (s.after (((s.begin.putI F.RTC_TRIM_PULSES trim).put F.RTC_LEAP_MODE (s.get F.TIM_UTC_PENDING)).modRtc fun r =>
      { r with lastDisc := s.mono, lastDiff := s.rtcDiff, ownCommit := own })).getI F.RTC_TRIM_PULSES = trim := by
    have read : ((s.begin.putI F.RTC_TRIM_PULSES trim).put F.RTC_LEAP_MODE (s.get F.TIM_UTC_PENDING)).get F.RTC_TRIM_PULSES =
        ofInt 11 trim % 2 ^ 11 := (State.get_put_ne _ _ _ _ (by decide)).trans (State.get_put_self ..)
    refine Eq.trans ?_ (toInt_ofInt_eleven (by omega) between.2)
    exact congrArg (toInt 11) read
  exact ⟨_, run, rfl, rfl, rfl, State.get_put_self (s.begin.putI _ _) .., howns, shown.symm ▸ between⟩

theorem rtcDiscipline_waits {s : State} (h : s.disciplined = false ∨ s.past (s.rtc.lastDisc + 60000000000) = false) : s.idle .rtcDiscipline := by
  refine State.idle_of (f := State.rtcDiscipline) rfl (if_pos ?_)
  have h : s.begin.disciplined = false ∨ s.begin.past (s.begin.rtc.lastDisc + 60000000000) = false := h
  rcases h with h | h <;> rw [h] <;> simp

theorem rtcOscillatorStop_shows (s : State) :
    (∃ t, exec (.rtcOscillatorStop false) s = .next t ∧ t.get F.RTC_STAT_OSF = 1 ∧ t.rtc = s.rtc) ∧
    (∃ t, exec (.rtcOscillatorStop true) s = .next t ∧ t.get F.RTC_STAT_OSF = 1 ∧ t.rtc.t = ⟨0, false, 0⟩) :=
  ⟨⟨_, rfl, State.get_put_self s.begin F.RTC_STAT_OSF 1, rfl⟩, ⟨_, rfl, State.get_put_self s.begin F.RTC_STAT_OSF 1, rfl⟩⟩

/-- Settles O47: the commands of the real-time clock one by one; the trim of a discipline stays within the pulses its field holds. -/
theorem theRtcKeepsItsDate : Obligations.TheRtcKeepsItsDate := by
  unfold Obligations.TheRtcKeepsItsDate
  exact ⟨fun s who may => ⟨rtcCommit_busy may, rtcCommit_disciplined may, rtcCommit_bad_date may, rtcCommit_set may⟩,
    fun s who => ⟨rtcSubsecRead_freezes s who, rtcYearRead_thaws s who, fun x hx => ⟨rtcFreezeExpiry_expires hx, rtcFreezeExpiry_waits hx⟩⟩,
    fun s => ⟨rtcTrimWindow_trims, rtcTrimWindow_waits⟩,
    fun s plain ends => ⟨rtcLeapAct_inserts plain ends, rtcLeapAct_deletes plain ends,
      fun off => ⟨rtcLeapAct_off plain off, rtcRollover_rolls plain ends off⟩, rtcRollover_waits⟩,
    fun s => rtcDiscipline_compares, fun s => rtcDiscipline_waits, rtcOscillatorStop_shows, fun s o a c => calRead_shows a⟩

end Sys2Proof.Machine

/-! ### Metering (O48) -/
namespace Sys2Proof.Machine

/-! ### What the work on one feeder leaves (R486, R487, R491, R494) -/

/-- Work of metering that leaves everything of the meter but its feeders, what is enabled, and the count of estimated frames. -/
structure Metered (s t : State) : Prop where
  within : Within meterParts s t
  meter : t.meter = { s.meter with feeders := t.meter.feeders }
  length : t.meter.feeders.length = s.meter.feeders.length
  enabled : t.get F.MTR_CFG_FD_EN = s.get F.MTR_CFG_FD_EN
  estimated : t.get F.MTR_CNT_EST_FRAMES = s.get F.MTR_CNT_EST_FRAMES

theorem Metered.refl (s : State) : Metered s s := ⟨.refl _ _, rfl, rfl, rfl, rfl⟩

theorem Metered.trans {s t u : State} (h : Metered s t) (k : Metered t u) : Metered s u :=
  ⟨h.within.trans k.within, by rw [k.meter, h.meter], k.length.trans h.length, k.enabled.trans h.enabled, k.estimated.trans h.estimated⟩

theorem Metered.feederOn {s t : State} (h : Metered s t) (f : Nat) : t.feederOn f = s.feederOn f := congrArg (bit · f) h.enabled

theorem Metered.mono {s t : State} (h : Metered s t) : t.mono = s.mono := h.within.mono_eq

theorem Metered.feederGood {s t : State} (h : Metered s t) (f : Nat) : t.feederGood f = s.feederGood f := by
  unfold State.feederGood State.bad
  rw [h.within.bst]

/-- Work on feeder f alone. -/
structure MeteredAt (f : Nat) (s t : State) : Prop extends Metered s t where
  others : ∀ g, g ≠ f → t.feeder g = s.feeder g

theorem MeteredAt.refl (f : Nat) (s : State) : MeteredAt f s s := ⟨.refl s, fun _ _ => rfl⟩

theorem MeteredAt.trans {f : Nat} {s t u : State} (h : MeteredAt f s t) (k : MeteredAt f t u) : MeteredAt f s u :=
  ⟨h.toMetered.trans k.toMetered, fun g hg => (k.others g hg).trans (h.others g hg)⟩

theorem meteredAt_setFeeder (s : State) (f : Nat) (x : Feeder) : MeteredAt f s (s.setFeeder f x) where
  within := (within_setFeeder s f x).mono (by decide)
  meter := rfl
  length := by simp [State.setFeeder, setAt_eq_set]
  enabled := rfl
  estimated := rfl
  others g hg := by simp [State.feeder, State.setFeeder, setAt_eq_set, List.getD_eq_getElem?_getD, hg.symm]

theorem feeder_setFeeder (s : State) {f : Nat} (x : Feeder) (h : f < s.meter.feeders.length) : (s.setFeeder f x).feeder f = x := by
  simp [State.feeder, State.setFeeder, setAt_eq_set, List.getD_eq_getElem?_getD, h]

theorem feeder_put (s : State) (g : Fld) (v f : Nat) : (s.put g v).feeder f = s.feeder f := rfl

/-- A field of a feeder's maximum demand. -/
theorem meteredAt_put (s : State) {f : Nat} (hf : f < 4) {g : Fld} (v : Nat)
    (hg : g ∈ [F.MTR_FD_MAXDEM_W, F.MTR_FD_MAXT_LO_SEC, F.MTR_FD_MAXT_HI_SEC]) : MeteredAt f s (s.put (g.at f) v) := by
  have apart : ∀ g ∈ [F.MTR_FD_MAXDEM_W, F.MTR_FD_MAXT_LO_SEC, F.MTR_FD_MAXT_HI_SEC], ∀ f < 4, (g.at f).part = .block 0x10 ∧
      F.MTR_CFG_FD_EN.key ≠ (g.at f).key ∧ F.MTR_CNT_EST_FRAMES.key ≠ (g.at f).key := by decide
  obtain ⟨part, cfg, cnt⟩ := apart g hg f hf
  exact ⟨⟨within_put _ _ (by decide) (by rw [part]; decide), rfl, rfl, s.get_put_ne _ _ _ cfg, s.get_put_ne _ _ _ cnt⟩, fun _ _ => rfl⟩

theorem account_eq (s : State) (f : Nat) (m : MFrame) (ph : List (Option Int)) (q : Int) (sv : Nat) : ∃ e t h,
    s.account f m ph q sv = s.setFeeder f { addIncrements (s.feeder f) (increments ph q sv m.len) with sumE := e, sumT := t, hist := h } :=
  ⟨_, _, _, rfl⟩

theorem accountFrame_eq (s : State) (f : Nat) (m : MFrame) (w : MeterWin) : ∃ q sv,
    s.accountFrame f m w = s.account f m (m.energy.getD f []) q sv := ⟨_, _, rfl⟩

/-- What a feeder counts. -/
def Feeder.counts (x : Feeder) : List Nat × List Nat := (x.acc, x.frac)

section Feeder
variable (s : State) {f : Nat} (m : MFrame)

theorem harmonics_metered (w : MeterWin) : MeteredAt f s (s.harmonics f m w) := by
  unfold State.harmonics
  split
  · split
    · exact meteredAt_setFeeder ..
    · exact .refl ..
  · exact .refl ..

theorem harmonics_counts (w : MeterWin) (h : f < s.meter.feeders.length) : ((s.harmonics f m w).feeder f).counts = (s.feeder f).counts := by
  unfold State.harmonics
  split
  · split
    · dsimp only
      rw [feeder_setFeeder s _ h]
      rfl
    · rfl
  · rfl

theorem demandFrame_metered (hf : f < 4) (bad : Bool) : MeteredAt f s (s.demandFrame f m bad) := by
  unfold State.demandFrame
  extract_lets x d min_ bad ends a w t sec
  split
  · exact meteredAt_setFeeder ..
  · have ht : MeteredAt f s t := meteredAt_setFeeder ..
    split
    · exact ((ht.trans (meteredAt_put _ hf _ (by simp))).trans (meteredAt_put _ hf _ (by simp))).trans (meteredAt_put _ hf _ (by simp))
    · exact ht

theorem demandFrame_counts (bad : Bool) (h : f < s.meter.feeders.length) :
    ((s.demandFrame f m bad).feeder f).counts = (s.feeder f).counts := by
  unfold State.demandFrame
  extract_lets x d min_ bad ends a w t sec
  split
  · rw [feeder_setFeeder s _ h]
    rfl
  · have ht : (t.feeder f).counts = (s.feeder f).counts := by
      show ((s.setFeeder f _).feeder f).counts = _
      rw [feeder_setFeeder s _ h]
      rfl
    split
    · rw [feeder_put, feeder_put, feeder_put]
      exact ht
    · exact ht

theorem publishFeeder_on (w : MeterWin) (on : s.feederOn f = true) : ∃ b p q v, s.publishFeeder f m w =
    (((s.accountFrame f m (s.winInService f w)).harmonics f m (s.winInService f w)).demandFrame f m false).setFeeder f
      { (((s.accountFrame f m (s.winInService f w)).harmonics f m (s.winInService f w)).demandFrame f m false).feeder f with
        block := b, powers := p, lastQ := q, lastS := v
        valid := (((s.accountFrame f m (s.winInService f w)).harmonics f m (s.winInService f w)).demandFrame f m false).feederGood f
        pubAt := (((s.accountFrame f m (s.winInService f w)).harmonics f m (s.winInService f w)).demandFrame f m false).mono } :=
  ⟨_, _, _, _, if_neg (by rw [on]; decide)⟩

theorem publishFeeder_off (w : MeterWin) (off : s.feederOn f = false) :
    s.publishFeeder f m w = s.setFeeder f { s.feeder f with block := [], valid := false } := if_pos (by rw [off]; rfl)

/-- What a feeder shows after the publication of a frame. -/
def Published (s : State) (f : Nat) (m : MFrame) (y : Feeder) : Prop :=
  (s.feederOn f = false → y.valid = false ∧ y.block = []) ∧
  (s.feederOn f = true → y.valid = s.feederGood f ∧ y.pubAt = s.mono ∧
    ∀ a r al rl e, (s.feeder f).acc = a :: al → (s.feeder f).frac = r :: rl → e = sumI ((m.energy.getD f []).map fun z => z.getD 0) →
      y.acc.head? = some ((a + (r + e.toNat) / mwhUnit) % accMod) ∧ y.frac.head? = some ((r + e.toNat) % mwhUnit))

theorem accounted_counts {s t : State} {q : Int} {sv : Nat}
    (h : (t.feeder f).counts = (addIncrements (s.feeder f) (increments (m.energy.getD f []) q sv m.len)).counts) :
    ∀ a r al rl e, (s.feeder f).acc = a :: al → (s.feeder f).frac = r :: rl → e = sumI ((m.energy.getD f []).map fun z => z.getD 0) →
      (t.feeder f).acc.head? = some ((a + (r + e.toNat) / mwhUnit) % accMod) ∧ (t.feeder f).frac.head? = some ((r + e.toNat) % mwhUnit) := by
  intro a r al rl e hacc hfrac he
  subst he
  have acc : (t.feeder f).acc = _ := congrArg Prod.fst h
  have frac : (t.feeder f).frac = _ := congrArg Prod.snd h
  rw [acc, frac]
  unfold Feeder.counts addIncrements increments
  rw [hacc, hfrac]
  exact ⟨rfl, rfl⟩

theorem publishFeeder_published (w : MeterWin) (hf : f < 4) (h : f < s.meter.feeders.length) :
    MeteredAt f s (s.publishFeeder f m w) ∧ Published s f m ((s.publishFeeder f m w).feeder f) := by
  cases on : s.feederOn f with
  | false =>
    rw [publishFeeder_off s m w on]
    refine ⟨meteredAt_setFeeder .., fun _ => ?_, fun h => Bool.noConfusion (on.symm.trans h)⟩
    rw [feeder_setFeeder _ _ h]
    exact ⟨rfl, rfl⟩
  | true =>
    obtain ⟨b, p, pq, ps, eq⟩ := publishFeeder_on s m w on
    rw [eq]
    generalize s.winInService f w = w
    obtain ⟨q, sv, counted⟩ := accountFrame_eq s f m w
    obtain ⟨e, n, hist, set⟩ := account_eq s f m (m.energy.getD f []) q sv
    have h1 : MeteredAt f s (s.accountFrame f m w) := by
      rw [counted, set]
      exact meteredAt_setFeeder ..
    have c1 : ((s.accountFrame f m w).feeder f).counts = (addIncrements (s.feeder f) (increments (m.energy.getD f []) q sv m.len)).counts := by
      rw [counted, set, feeder_setFeeder _ _ h]
      rfl
    generalize s.accountFrame f m w = t1 at h1 c1 ⊢
    have h2 : MeteredAt f s (t1.harmonics f m w) := h1.trans (harmonics_metered t1 m w)
    have c2 := (harmonics_counts t1 m w (h1.length.symm ▸ h)).trans c1
    generalize t1.harmonics f m w = t2 at h2 c2 ⊢
    have h3 : MeteredAt f s (t2.demandFrame f m false) := h2.trans (demandFrame_metered t2 m hf false)
    have c3 := (demandFrame_counts t2 m false (h2.length.symm ▸ h)).trans c2
    generalize t2.demandFrame f m false = t3 at h3 c3 ⊢
    refine ⟨h3.trans (meteredAt_setFeeder ..), fun off => Bool.noConfusion (on.symm.trans off), fun _ => ?_⟩
    have counts := accounted_counts (f := f) m (t := t3) c3
    rw [feeder_setFeeder _ _ (h3.length.symm ▸ h)]
    exact ⟨h3.feederGood f, h3.mono, counts⟩

theorem estimateFeeder_metered (hf : f < 4) (h : f < s.meter.feeders.length) :
    MeteredAt f s (s.estimateFeeder f m) ∧ (s.feederOn f = true → ((s.estimateFeeder f m).feeder f).valid = false) := by
  unfold State.estimateFeeder
  split
  · next off => exact ⟨.refl .., fun on => absurd on (by simpa using off)⟩
  · extract_lets x ph t st b
    have ht : MeteredAt f s t := by
      obtain ⟨e, n, hist, set⟩ := account_eq s f m ph (sumI x.lastQ) x.lastS
      refine .trans ?_ (demandFrame_metered _ m hf true)
      rw [set]
      exact meteredAt_setFeeder ..
    refine ⟨ht.trans (meteredAt_setFeeder ..), fun _ => ?_⟩
    rw [feeder_setFeeder _ _ (ht.length.symm ▸ h)]

end Feeder

/-- The four feeders one after another: what the work on each does to it, it does in the whole. -/
theorem feeders_each {s : State} {step : State → Nat → State} {Q : Nat → Feeder → Prop}
    (hstep : ∀ u f, f < 4 → Metered s u → MeteredAt f u (step u f))
    (hQ : ∀ u f, f < 4 → Metered s u → u.feeder f = s.feeder f → Q f ((step u f).feeder f)) (n : Nat) (hn : n ≤ 4) :
    Metered s ((List.range n).foldl step s) ∧ (∀ f, f < n → Q f (((List.range n).foldl step s).feeder f)) ∧
      (∀ f, n ≤ f → ((List.range n).foldl step s).feeder f = s.feeder f) := by
  induction n with
  | zero => exact ⟨.refl s, fun f hf => absurd hf (Nat.not_lt_zero f), fun _ _ => rfl⟩
  | succ n ih =>
    obtain ⟨metered, done, rest⟩ := ih (by omega)
    rw [List.range_succ, List.foldl_append, List.foldl_cons, List.foldl_nil]
    generalize (List.range n).foldl step s = u at metered done rest ⊢
    have now := hstep u n (by omega) metered
    refine ⟨metered.trans now.toMetered, fun f hf => ?_, fun f hf => (now.others f (by omega)).trans (rest f (by omega))⟩
    rcases Nat.lt_succ_iff_lt_or_eq.1 hf with hf | rfl
    · rw [now.others f (by omega)]
      exact done f hf
    · exact hQ u f (by omega) metered (rest f (le_refl f))

theorem publish_feeders (s : State) (m : MFrame) (four : s.meter.feeders.length = 4) :
    Metered s ((List.range 4).foldl (fun s f => s.publishFeeder f m (m.wins.getD f {})) s) ∧
      ∀ f, f < 4 → Published s f m (((List.range 4).foldl (fun s f => s.publishFeeder f m (m.wins.getD f {})) s).feeder f) := by
  have each := feeders_each (s := s) (step := fun s f => s.publishFeeder f m (m.wins.getD f {})) (Q := fun f y => Published s f m y)
    (fun u f hf hu => (publishFeeder_published u m _ hf (by rw [hu.length, four]; exact hf)).1)
    (fun u f hf hu same => ?_) 4 (le_refl 4)
  · exact ⟨each.1, each.2.1⟩
  · have shown := (publishFeeder_published u m (m.wins.getD f {}) hf (by rw [hu.length, four]; exact hf)).2
    unfold Published at shown ⊢
    rwa [hu.feederOn, hu.feederGood, hu.mono, same] at shown

theorem estimate_feeders (s : State) (m : MFrame) (four : s.meter.feeders.length = 4) :
    Metered s ((List.range 4).foldl (fun s f => s.estimateFeeder f m) s) ∧
      ∀ f, f < 4 → s.feederOn f = true → (((List.range 4).foldl (fun s f => s.estimateFeeder f m) s).feeder f).valid = false := by
  have each := feeders_each (s := s) (step := fun s f => s.estimateFeeder f m) (Q := fun f y => s.feederOn f = true → y.valid = false)
    (fun u f hf hu => (estimateFeeder_metered u m hf (by rw [hu.length, four]; exact hf)).1)
    (fun u f hf hu _ on => (estimateFeeder_metered u m hf (by rw [hu.length, four]; exact hf)).2 ((hu.feederOn f).trans on)) 4 (le_refl 4)
  exact ⟨each.1, each.2.1⟩

/-! ### The end of a publication (R493, R497) -/

/-- What the end of a publication changes. -/
abbrev pubParts : List Part := meterParts ++ finishParts ++ logParts

/-- What the end of a publication leaves of a feeder. -/
def Feeder.shown (x : Feeder) : Bool × List Nat × Nat := (x.valid, x.block, x.pubAt)

/-- The end of a publication keeps the frames, what accounts, and what is shown of each feeder. -/
structure PubKept (s t : State) : Prop where
  within : Within pubParts s t
  queue : t.meter.queue = s.meter.queue
  accTo : t.meter.accTo = s.meter.accTo
  accNum : t.meter.accNum = s.meter.accNum
  feeders : ∀ f, (t.feeder f).shown = (s.feeder f).shown
  estimated : t.get F.MTR_CNT_EST_FRAMES = s.get F.MTR_CNT_EST_FRAMES

theorem PubKept.refl (s : State) : PubKept s s := ⟨.refl _ _, rfl, rfl, rfl, fun _ => rfl, rfl⟩

theorem PubKept.trans {s t u : State} (h : PubKept s t) (k : PubKept t u) : PubKept s u :=
  ⟨h.within.trans k.within, k.queue.trans h.queue, k.accTo.trans h.accTo, k.accNum.trans h.accNum,
    fun f => (k.feeders f).trans (h.feeders f), k.estimated.trans h.estimated⟩

theorem PubKept.of_meter {s t : State} (w : Within pubParts s t) (h : t.meter = s.meter)
    (est : t.get F.MTR_CNT_EST_FRAMES = s.get F.MTR_CNT_EST_FRAMES) : PubKept s t :=
  ⟨w, by rw [h], by rw [h], by rw [h], fun f => by rw [State.feeder, h, ← State.feeder], est⟩

theorem pubKept_put (s : State) {f : Fld} (v : Nat) (part : f.part = .block 0x10) (ne : F.MTR_CNT_EST_FRAMES.key ≠ f.key) :
    PubKept s (s.put f v) :=
  .of_meter (within_put _ _ (by decide) (by rw [part]; decide)) rfl (s.get_put_ne _ _ _ ne)

theorem pulStat_apart : ∀ p < 8, F.MTR_CNT_EST_FRAMES.key ≠ (F.MTR_PUL_STAT_PENDING.at p).key ∧
    F.MTR_CNT_EST_FRAMES.key ≠ (F.MTR_PUL_STAT_OVERFLOW.at p).key := by decide

/-- Pulses leave the meter but for themselves. -/
theorem pulseAdd_meter (s : State) (p : Nat) (before : List Feeder) :
    (s.pulseAdd p before).meter = { s.meter with pulses := (s.pulseAdd p before).meter.pulses } := by
  unfold State.pulseAdd
  split <;> rfl

theorem pulseAdd_kept (s : State) {p : Nat} (hp : p < 8) (before : List Feeder) : PubKept s (s.pulseAdd p before) := by
  obtain ⟨pending, lost⟩ := pulStat_apart p hp
  refine ⟨(within_pulseAdd s before hp).mono (by decide), by rw [pulseAdd_meter], by rw [pulseAdd_meter], by rw [pulseAdd_meter], fun f => ?_, ?_⟩
  · rw [State.feeder, pulseAdd_meter, ← State.feeder]
  · unfold State.pulseAdd
    split
    · rfl
    · exact (State.get_put_ne _ _ _ _ lost).trans (State.get_put_ne _ _ _ _ pending)

theorem pubKept_foldl {α : Type} {f : State → α → State} {l : List α} (hf : ∀ u x, x ∈ l → PubKept u (f u x)) (s : State) :
    PubKept s (l.foldl f s) := by
  induction l generalizing s with
  | nil => exact .refl s
  | cons x l ih => exact (hf s x (List.mem_cons_self ..)).trans (ih (fun u y hy => hf u y (List.mem_cons_of_mem _ hy)) _)

/-- A feeder after CLEAR_ALL. -/
def Feeder.cleared (x : Feeder) : Feeder :=
  { x with acc := ({} : Feeder).acc, frac := ({} : Feeder).frac, dem := { x.dem with aimp := 0 }, hist := [] }

/-- What the meter counts is cleared (R493). -/
def State.countsCleared (s : State) : State := s.modMeter fun m => { m with
  clearBy := none, feeders := m.feeders.map Feeder.cleared, pulses := m.pulses.map fun (x : Pulse) => { x with residue := 0 } }

theorem countsCleared_kept (s : State) : PubKept s s.countsCleared :=
  ⟨within_modMeter _ _ (by decide), rfl, rfl, rfl, fun f => by
    show ((s.meter.feeders.map Feeder.cleared).getD f (Feeder.cleared {})).shown = _
    rw [List.getD_map]
    rfl, rfl⟩

/-- The registers of what CLEAR_ALL clears. -/
def State.maximaCleared (s : State) : State :=
  (List.range 8).foldl (fun (s : State) p => s.put (F.MTR_PUL_STAT_PENDING.at p) 0)
    ((List.range 4).foldl (fun (s : State) f => ((s.put (F.MTR_FD_MAXDEM_W.at f) 0).put (F.MTR_FD_MAXT_LO_SEC.at f) 0).put
      (F.MTR_FD_MAXT_HI_SEC.at f) 0) s)

theorem maximaCleared_meter (s : State) : s.maximaCleared.meter = s.meter := by
  unfold State.maximaCleared
  rw [foldl_keeps (fun s => State.meter s) _ (by intros; rfl), foldl_keeps (fun s => State.meter s) _ (by intros; rfl)]

theorem maximaCleared_kept (s : State) : PubKept s s.maximaCleared := by
  refine (pubKept_foldl (fun u f hf => ?_) s).trans (pubKept_foldl (fun u p hp => ?_) _)
  · have put : ∀ v, ∀ g ∈ [F.MTR_FD_MAXDEM_W, F.MTR_FD_MAXT_LO_SEC, F.MTR_FD_MAXT_HI_SEC], PubKept v (v.put (g.at f) 0) := fun v g hg => by
      have h := meteredAt_put v (List.mem_range.1 hf) 0 hg
      exact .of_meter (h.within.mono (by decide)) rfl h.estimated
    exact ((put _ _ (by simp)).trans (put _ _ (by simp))).trans (put _ _ (by simp))
  · have hp := List.mem_range.1 hp
    exact pubKept_put _ _ (mtrPulStat_part hp).1 (pulStat_apart p hp).1

/-- A CLEAR_ALL that is due, at the end of a publication. -/
def State.clearDue (s : State) : State :=
  match s.meter.clearBy with
  | none => s
  | some o => (s.countsCleared.maximaCleared.finish o St.done []).log Sev.warning 3 F.MTR_CMD_STAT_STATUS []

theorem clearDue_none {s : State} (h : s.meter.clearBy = none) : s.clearDue = s := by
  unfold State.clearDue
  rw [h]

theorem clearDue_some {s : State} {o : Origin} (h : s.meter.clearBy = some o) :
    s.clearDue = (s.countsCleared.maximaCleared.finish o St.done []).log Sev.warning 3 F.MTR_CMD_STAT_STATUS [] := by
  unfold State.clearDue
  rw [h]

theorem clearDue_kept (s : State) : PubKept s s.clearDue ∧ s.clearDue.meter.clearBy = none := by
  cases h : s.meter.clearBy with
  | none => rw [clearDue_none h]; exact ⟨.refl s, h⟩
  | some o =>
    rw [clearDue_some h]
    have cleared := (countsCleared_kept s).trans (maximaCleared_kept _)
    have none_ : s.countsCleared.maximaCleared.meter.clearBy = none := by rw [maximaCleared_meter]; rfl
    generalize s.countsCleared.maximaCleared = u at cleared none_ ⊢
    have told : Within (finishParts ++ logParts) u ((u.finish o St.done []).log Sev.warning 3 F.MTR_CMD_STAT_STATUS []) :=
      (within_finish (D := finishParts ++ logParts) u o _ _ (by decide)).trans (within_log _ _ _ _ _ (by decide))
    have meter : ((u.finish o St.done []).log Sev.warning 3 F.MTR_CMD_STAT_STATUS []).meter = u.meter := told.meter
    refine ⟨cleared.trans (.of_meter (told.mono (by decide)) meter ?_), by rw [meter, none_]⟩
    rw [State.log_get _ _ _ _ _ (by decide), State.finish_get _ _ _ _ _ (by decide)]

/-- What is published is shown (R488). -/
def State.pubShown (s : State) : State :=
  let t := s.put F.MTR_STAT_VALID (sumN ((List.range 4).map fun f => b2n ((s.feeder f).valid) * 2 ^ f))
  t.modMeter fun m => { m with pubStat := t.word 0 F.MTR_STAT_RUN.addr, pubSave := t.word 0 F.MTR_SAVE_AGE.addr, pubAt := t.mono }

theorem pubShown_kept (s : State) : PubKept s s.pubShown := by
  unfold State.pubShown
  extract_lets t
  have put : PubKept s t := pubKept_put s _ rfl (by decide)
  exact put.trans ⟨within_modMeter (D := pubParts) _ _ (by decide), rfl, rfl, rfl, fun _ => rfl, rfl⟩

theorem pubShown_feeder (s : State) (f : Nat) : s.pubShown.feeder f = s.feeder f := rfl

theorem pubEnd_eq (s : State) (before : List Feeder) :
    s.pubEnd before = ((List.range 8).foldl (fun s p => s.pulseAdd p before) s).clearDue.pubShown := by
  unfold State.pubEnd State.clearDue State.countsCleared State.maximaCleared State.pubShown
  generalize (List.range 8).foldl (fun s p => s.pulseAdd p before) s = u
  dsimp only
  generalize u.meter.clearBy = c
  cases c <;> rfl

theorem pubEnd_kept (s : State) (before : List Feeder) : PubKept s (s.pubEnd before) ∧ (s.pubEnd before).meter.clearBy = none := by
  rw [pubEnd_eq]
  have pulses := pubKept_foldl (f := fun s p => s.pulseAdd p before) (fun u p hp => pulseAdd_kept u (List.mem_range.1 hp) before) s
  generalize (List.range 8).foldl (fun s p => s.pulseAdd p before) s = u at pulses ⊢
  obtain ⟨cleared, none_⟩ := clearDue_kept u
  exact ⟨(pulses.trans cleared).trans (pubShown_kept _), none_⟩

/-- Where no CLEAR_ALL is due the end of a publication leaves the feeders. -/
theorem pubEnd_feeder (s : State) (before : List Feeder) (h : s.meter.clearBy = none) (f : Nat) : (s.pubEnd before).feeder f = s.feeder f := by
  rw [pubEnd_eq]
  have meter : ((List.range 8).foldl (fun s p => s.pulseAdd p before) s).meter =
      { s.meter with pulses := ((List.range 8).foldl (fun s p => s.pulseAdd p before) s).meter.pulses } :=
    List.foldlRecOn (motive := fun u : State => u.meter = { s.meter with pulses := u.meter.pulses }) _ _ rfl
      fun u hu p _ => by rw [pulseAdd_meter, hu]
  generalize (List.range 8).foldl (fun s p => s.pulseAdd p before) s = u at meter ⊢
  rw [clearDue_none (by rw [meter]; exact h), pubShown_feeder, State.feeder, meter, ← State.feeder]

end Sys2Proof.Machine

namespace Sys2Proof.Machine

/-! ### Publications and estimates (R486, R487) -/

theorem State.feeder_of_meter {s t : State} (h : t.meter = s.meter) (f : Nat) : t.feeder f = s.feeder f := by
  rw [State.feeder, h, ← State.feeder]

theorem accounted_one (s : State) (m : MFrame) : s.accounted [m] = s.modMeter fun x => { x with accTo := m.tai, accNum := m.num } := rfl

/-- The one frame that waits leaves the queue. -/
theorem unqueue_one {s : State} {m : MFrame} (h : s.meter.queue = [m]) :
    (s.modMeter fun x => { x with queue := x.queue.filter fun x => !([m] : List MFrame).contains x }) = s.modMeter fun x => { x with queue := [] } := by
  refine congrArg (fun q => s.modMeter fun x => { x with queue := q }) ?_
  rw [h]
  simp

section Publication
variable {s : State} {m : MFrame} (runs : s.meter.running = true) (waits : s.meter.queue = [m]) (four : s.meter.feeders.length = 4)
include runs waits four

theorem meterPublication_publishes {d : Nat} (young : m.age < 3) (inTime : 8 ∉ s.frame.late) (early : s.frame.off ≤ 2000000) (done : d ≤ 2000000) :
    ∃ t, exec (.meterPublication d) s = .next t ∧ t.meter.queue = [] ∧ t.frame.off = 2000000 ∧ t.meter.clearBy = none ∧
      t.meter.accTo = m.tai ∧ t.meter.accNum = m.num ∧
      ∀ f, f < 4 →
        (s.feederOn f = false → (t.feeder f).valid = false ∧ (t.feeder f).block = []) ∧
        (s.feederOn f = true → (t.feeder f).valid = s.feederGood f ∧ (t.feeder f).pubAt = t.mono ∧
          ∀ a r al rl e, s.meter.clearBy = none → (s.feeder f).acc = a :: al → (s.feeder f).frac = r :: rl →
            e = sumI ((m.energy.getD f []).map fun z => z.getD 0) →
            (t.feeder f).acc.head? = some ((a + (r + e.toNat) / mwhUnit) % accMod) ∧
              (t.feeder f).frac.head? = some ((r + e.toNat) % mwhUnit)) := by
  let u := (s.begin.atNs 2000000).modMeter fun x => { x with queue := [] }
  have published : [m].filter (fun m => decide (m.age < 3)) = [m] := by simp [young]
  have eq : s.begin.meterPublication d =
      (((List.range 4).foldl (fun s f => s.publishFeeder f m (m.wins.getD f {})) u).accounted [m]).pubEnd s.meter.feeders := by
    have waits : s.begin.meter.queue = [m] := waits
    have runs : s.begin.meter.running = true := runs
    have inTime : s.begin.frame.late.contains 8 = false := by simpa using inTime
    unfold State.meterPublication
    dsimp only
    rw [waits, published, runs, inTime, decide_eq_false (show ¬2000000 < s.begin.frame.off from not_lt.2 early), decide_eq_false (not_lt.2 done)]
    refine (if_neg (by simp)).trans ?_
    rw [unqueue_one (s := s.begin.atNs 2000000) waits]
    rfl
  obtain ⟨metered, shown⟩ := publish_feeders u m four
  have off : u.frame.off = 2000000 := max_eq_right early
  have clear : u.meter.clearBy = s.meter.clearBy := rfl
  have queue : u.meter.queue = [] := rfl
  have same : ∀ f, u.feeder f = s.feeder f := fun _ => rfl
  have same' : ∀ f, u.feederOn f = s.feederOn f ∧ u.feederGood f = s.feederGood f := fun _ => ⟨rfl, rfl⟩
  clear_value u
  refine ⟨_, congrArg (fun u => Host.Outcome.next (s.after u)) eq, ?_⟩
  generalize (List.range 4).foldl (fun s f => s.publishFeeder f m (m.wins.getD f {})) u = v at metered shown ⊢
  obtain ⟨kept, none_⟩ := pubEnd_kept (v.accounted [m]) s.meter.feeders
  have feeders := pubEnd_feeder (v.accounted [m]) s.meter.feeders
  generalize (v.accounted [m]).pubEnd s.meter.feeders = t at kept none_ feeders ⊢
  rw [accounted_one] at kept feeders
  have mono : t.mono = u.mono := (kept.within.mono_eq : t.mono = v.mono).trans metered.mono
  refine ⟨?_, ?_, none_, kept.accTo, kept.accNum, fun f hf => ?_⟩
  · refine kept.queue.trans ?_
    show v.meter.queue = []
    rw [metered.meter]
    exact queue
  · show t.frame.off = _
    exact ((kept.within.offset : t.frame.off = v.frame.off).trans metered.within.offset).trans off
  · have kf : (t.feeder f).shown = (v.feeder f).shown := kept.feeders f
    have valid : (t.feeder f).valid = (v.feeder f).valid := congrArg Prod.fst kf
    have block : (t.feeder f).block = (v.feeder f).block := congrArg (fun p => p.2.1) kf
    have at_ : (t.feeder f).pubAt = (v.feeder f).pubAt := congrArg (fun p => p.2.2) kf
    have hf := shown f hf
    unfold Published at hf
    rw [(same' f).1, (same' f).2, same f] at hf
    show (s.feederOn f = false → (t.feeder f).valid = false ∧ (t.feeder f).block = []) ∧ (s.feederOn f = true → _ ∧ (t.feeder f).pubAt = t.mono ∧ _)
    rw [block, at_, mono]
    refine ⟨fun o => ⟨valid.trans (hf.1 o).1, (hf.1 o).2⟩, fun o => ?_⟩
    obtain ⟨good, pub, counts⟩ := hf.2 o
    refine ⟨valid.trans good, pub, fun a r al rl e none_ ha hr he => ?_⟩
    have none_ : (v.modMeter fun x => { x with accTo := m.tai, accNum := m.num }).meter.clearBy = none := by
      show v.meter.clearBy = none
      rw [metered.meter]
      exact clear.trans none_
    show (t.feeder f).acc.head? = _ ∧ (t.feeder f).frac.head? = _
    rw [feeders none_ f]
    exact counts a r al rl e ha hr he

theorem meterEstimate_estimates (old : 3 ≤ m.age) :
    ∃ t, exec .meterEstimate s = .next t ∧ t.meter.queue = [] ∧ t.get F.MTR_CNT_EST_FRAMES = min 65535 (s.get F.MTR_CNT_EST_FRAMES + 1) ∧
      ∀ f, f < 4 → s.feederOn f = true → (t.feeder f).valid = false := by
  let u := s.begin.modMeter fun x => { x with queue := [] }
  have estimated : [m].filter (fun m => decide (3 ≤ m.age)) = [m] := by simp [old]
  have eq : s.begin.meterEstimate = (((((List.range 4).foldl (fun s f => s.estimateFeeder f m) u).inc F.MTR_CNT_EST_FRAMES).log
      Sev.warning 3 F.MTR_CNT_EST_FRAMES []).accounted [m]).pubEnd s.meter.feeders := by
    have waits : s.begin.meter.queue = [m] := waits
    have runs : s.begin.meter.running = true := runs
    unfold State.meterEstimate
    dsimp only
    rw [waits, estimated, runs]
    refine (if_neg (by simp)).trans ?_
    rw [unqueue_one waits]
    rfl
  obtain ⟨metered, shown⟩ := estimate_feeders u m four
  have queue : u.meter.queue = [] := rfl
  have on : ∀ f, u.feederOn f = s.feederOn f := fun _ => rfl
  have count : u.get F.MTR_CNT_EST_FRAMES = s.get F.MTR_CNT_EST_FRAMES := rfl
  clear_value u
  refine ⟨_, congrArg (fun u => Host.Outcome.next (s.after u)) eq, ?_⟩
  generalize (List.range 4).foldl (fun s f => s.estimateFeeder f m) u = v at metered shown ⊢
  have logged : Within (logParts ++ [.block 0x10]) v ((v.inc F.MTR_CNT_EST_FRAMES).log Sev.warning 3 F.MTR_CNT_EST_FRAMES []) :=
    (within_inc _ (by decide) (by decide)).trans (within_log _ _ _ _ _ (by decide))
  have counted : ((v.inc F.MTR_CNT_EST_FRAMES).log Sev.warning 3 F.MTR_CNT_EST_FRAMES []).get F.MTR_CNT_EST_FRAMES =
      min 65535 (s.get F.MTR_CNT_EST_FRAMES + 1) := by
    rw [State.log_get _ _ _ _ _ (by decide), State.get_inc_word _ rfl rfl, metered.estimated, count]
  generalize (v.inc F.MTR_CNT_EST_FRAMES).log Sev.warning 3 F.MTR_CNT_EST_FRAMES [] = w at logged counted ⊢
  obtain ⟨kept, -⟩ := pubEnd_kept (w.accounted [m]) s.meter.feeders
  generalize (w.accounted [m]).pubEnd s.meter.feeders = t at kept ⊢
  rw [accounted_one] at kept
  have meter : w.meter = v.meter := logged.meter
  refine ⟨?_, kept.estimated.trans counted, fun f hf o => ?_⟩
  · refine kept.queue.trans ?_
    show w.meter.queue = []
    rw [meter, metered.meter]
    exact queue
  · have valid : (t.feeder f).valid = (w.feeder f).valid := congrArg Prod.fst (kept.feeders f)
    show (t.feeder f).valid = false
    rw [valid, State.feeder_of_meter meter]
    exact shown f hf ((on f).trans o)

end Publication

theorem meterPublication_waits (s : State) (d : Nat) (h : s.meter.running = false ∨ (∀ m ∈ s.meter.queue, 3 ≤ m.age) ∨ 8 ∈ s.frame.late ∨
    2000000 < s.frame.off ∨ 2000000 < d) : s.idle (.meterPublication d) := by
  refine State.idle_of (f := fun s => s.meterPublication d) rfl (if_pos ?_)
  have early : decide (2000000 < s.begin.frame.off) = decide (2000000 < s.frame.off) := rfl
  rw [early]
  simpa [or_assoc] using h

theorem meterEstimate_waits (s : State) (h : s.meter.running = false ∨ (∀ m ∈ s.meter.queue, m.age < 3)) : s.idle .meterEstimate := by
  refine State.idle_of (f := State.meterEstimate) rfl (if_pos ?_)
  simpa using h

/-! ### Saves (R501) -/

theorem meterSave_saves (s : State) (copy kind : Nat) : ∃ c : SaveCopy, (s.meterSave copy kind).meter.lastSave = s.mono ∧ c.valid = true ∧
    c.at_ = (if s.meter.accTo = 0 then s.frame.start else s.meter.accTo) ∧ c.frame = (if s.meter.accTo = 0 then s.num else s.meter.accNum) ∧
    c.counter = Nat.max s.meter.copy0.counter s.meter.copy1.counter + 1 ∧ c.acc = s.meter.feeders.map Feeder.acc ∧
    (if copy = 0 then (s.meterSave copy kind).meter.copy0 = c ∧ (s.meterSave copy kind).meter.copy1 = s.meter.copy1
      else (s.meterSave copy kind).meter.copy1 = c ∧ (s.meterSave copy kind).meter.copy0 = s.meter.copy0) := by
  unfold State.meterSave
  extract_lets mean c t u
  refine ⟨c, ?_, rfl, rfl, rfl, rfl, rfl, ?_⟩
  · show u.meter.lastSave = _
    show (if copy = 0 then _ else _ : State).meter.lastSave = _
    split <;> rfl
  · split
    · next h =>
      show u.meter.copy0 = c ∧ u.meter.copy1 = _
      rw [show u = _ from if_pos h]
      exact ⟨rfl, rfl⟩
    · next h =>
      show u.meter.copy1 = c ∧ u.meter.copy0 = _
      rw [show u = _ from if_neg h]
      exact ⟨rfl, rfl⟩

theorem meterPeriodicSave_saves (s : State) (runs : s.meter.running = true) (on : s.get F.MTR_STAT_SUSPENDED = 0)
    (due : s.meter.lastSave + 60000000000 ≤ s.meter.pubAt) :
    ∃ t c, exec .meterPeriodicSave s = .next t ∧ t.meter.lastSave = s.mono ∧ c.valid = true ∧
      c.at_ = (if s.meter.accTo = 0 then s.frame.start else s.meter.accTo) ∧
      c.frame = (if s.meter.accTo = 0 then s.num else s.meter.accNum) ∧
      c.counter = Nat.max s.meter.copy0.counter s.meter.copy1.counter + 1 ∧ c.acc = s.meter.feeders.map Feeder.acc ∧
      (if s.olderCopy = 0 then t.meter.copy0 = c ∧ t.meter.copy1 = s.meter.copy1
        else t.meter.copy1 = c ∧ t.meter.copy0 = s.meter.copy0) := by
  have eq : s.begin.periodicSave = s.begin.meterSave s.olderCopy 0 := by
    refine if_pos ?_
    rw [show s.begin.meter.running = true from runs, State.flag_off (s := s.begin) on, decide_eq_true (show s.begin.meter.lastSave + 60000000000 ≤ s.begin.meter.pubAt from due)]
    rfl
  obtain ⟨c, saved⟩ := meterSave_saves s.begin s.olderCopy 0
  exact ⟨_, c, congrArg (fun u => Host.Outcome.next (s.after u)) eq, saved⟩

theorem State.flag_on {s : State} {f : Fld} (h : s.get f ≠ 0) : s.flag f = true := decide_eq_true h

theorem meterPeriodicSave_waits (s : State) (h : s.meter.running = false ∨ s.get F.MTR_STAT_SUSPENDED ≠ 0 ∨
    s.meter.pubAt < s.meter.lastSave + 60000000000) : s.idle .meterPeriodicSave := by
  refine State.idle_of (f := State.periodicSave) rfl (if_neg ?_)
  have h : s.begin.meter.running = false ∨ s.begin.flag F.MTR_STAT_SUSPENDED = true ∨
      decide (s.begin.meter.lastSave + 60000000000 ≤ s.begin.meter.pubAt) = false :=
    h.imp_right (Or.imp State.flag_on fun h => decide_eq_false (not_le.2 h))
  rcases h with h | h | h <;> rw [h] <;> simp

/-! ### Gain (R477) -/

theorem setGain_counts (s : State) {ch : Nat} (g low : Nat) :
    (s.setGain ch g low).get (F.MTR_CH_STAT_GAIN.at ch) = g % 4 ∧
      (s.setGain ch g low).get F.MTR_CNT_GAIN_SW = min 65535 (s.get F.MTR_CNT_GAIN_SW + 1) := by
  have key : (F.MTR_CH_STAT_GAIN.at ch).key = (0x10020C + ch * 16) * 32 + 30 := Fld.at_key ..
  have count : F.MTR_CNT_GAIN_SW.key = 0x10002C * 32 := rfl
  constructor
  · refine (State.get_put_ne (s.put (F.MTR_CH_STAT_GAIN.at ch) g) _ _ _ (by omega)).trans ?_
    exact s.get_put_self ..
  · refine (State.get_inc_word (s.put (F.MTR_CH_STAT_GAIN.at ch) g) rfl rfl).trans ?_
    rw [s.get_put_ne _ _ _ (by omega)]

section Gain
variable {s : State} {ch g : Nat} {l : List Int} (auto : s.autoGain ch = true) (hg : g = s.get (F.MTR_CH_STAT_GAIN.at ch))
include auto hg

theorem gainDown_lowers (high : 0 < g) (enough : s.get F.MTR_AGS_GLITCH ≤ l.length) (full : ∀ x ∈ l, 9 * fullCode ≤ 10 * x.natAbs) :
    ∃ t, exec (.gainDown ch l) s = .next t ∧ t.get (F.MTR_CH_STAT_GAIN.at ch) = (g - 1) % 4 ∧
      t.get F.MTR_CNT_GAIN_SW = min 65535 (s.get F.MTR_CNT_GAIN_SW + 1) := by
  subst hg
  have run : (l.reverse.take (s.begin.get F.MTR_AGS_GLITCH)).all (fun x => decide (9 * fullCode ≤ 10 * x.natAbs)) = true :=
    List.all_eq_true.2 fun x hx => decide_eq_true (full x (List.mem_reverse.1 (List.mem_of_mem_take hx)))
  have eq : s.begin.gainDown ch l = s.begin.setGain ch (s.get (F.MTR_CH_STAT_GAIN.at ch) - 1) 0 := by
    refine if_pos ?_
    rw [run, show s.begin.autoGain ch = true from auto, decide_eq_true (show s.begin.get F.MTR_AGS_GLITCH ≤ _ from enough),
      decide_eq_true (show 0 < s.begin.get (F.MTR_CH_STAT_GAIN.at ch) from high)]
    rfl
  exact ⟨_, congrArg (fun u => Host.Outcome.next (s.after u)) eq, setGain_counts s.begin ..⟩

omit auto in
theorem gainDown_waits (h : g = 0 ∨ l.length < s.get F.MTR_AGS_GLITCH) : s.idle (.gainDown ch l) := by
  subst hg
  refine State.idle_of (f := fun s => s.gainDown ch l) rfl (if_neg ?_)
  have h : decide (0 < s.begin.get (F.MTR_CH_STAT_GAIN.at ch)) = false ∨ decide (s.begin.get F.MTR_AGS_GLITCH ≤ l.length) = false :=
    h.imp (fun h => decide_eq_false (by rw [show s.begin.get (F.MTR_CH_STAT_GAIN.at ch) = 0 from h]; decide))
      (fun h => decide_eq_false (not_le.2 h))
  rcases h with h | h <;> rw [h] <;> simp

theorem gainUp_raises (low : g < 3) (long : s.get F.MTR_AGS_UPHOLD ≤ (SMap.getD s.meter.chans ch {}).lowFrames) :
    ∃ t, exec (.gainUp ch) s = .next t ∧ t.get (F.MTR_CH_STAT_GAIN.at ch) = g + 1 ∧
      t.get F.MTR_CNT_GAIN_SW = min 65535 (s.get F.MTR_CNT_GAIN_SW + 1) := by
  have eq : s.begin.gainUp ch = s.begin.setGain ch (g + 1) (SMap.getD s.meter.chans ch {}).lowFrames := by
    subst hg
    refine if_pos ?_
    rw [show s.begin.autoGain ch = true from auto, decide_eq_true (show s.begin.get F.MTR_AGS_UPHOLD ≤ (SMap.getD s.begin.meter.chans ch {}).lowFrames from long),
      decide_eq_true (show s.begin.get (F.MTR_CH_STAT_GAIN.at ch) < 3 from low)]
    rfl
  obtain ⟨gain, count⟩ := setGain_counts s.begin (g + 1) (SMap.getD s.meter.chans ch {}).lowFrames
  exact ⟨_, congrArg (fun u => Host.Outcome.next (s.after u)) eq, gain.trans (Nat.mod_eq_of_lt (by omega)), count⟩

omit auto in
theorem gainUp_waits (h : 3 ≤ g ∨ (SMap.getD s.meter.chans ch {}).lowFrames < s.get F.MTR_AGS_UPHOLD) : s.idle (.gainUp ch) := by
  subst hg
  refine State.idle_of (f := fun s => s.gainUp ch) rfl (if_neg ?_)
  have h : decide (s.begin.get (F.MTR_CH_STAT_GAIN.at ch) < 3) = false ∨
      decide (s.begin.get F.MTR_AGS_UPHOLD ≤ (SMap.getD s.begin.meter.chans ch {}).lowFrames) = false :=
    h.imp (fun h => decide_eq_false (not_lt.2 h)) (fun h => decide_eq_false (not_le.2 h))
  rcases h with h | h <;> rw [h] <;> simp

end Gain

theorem gain_fixed (s : State) (ch : Nat) (l : List Int) (fixed : s.autoGain ch = false) : s.idle (.gainDown ch l) ∧ s.idle (.gainUp ch) := by
  have fixed : s.begin.autoGain ch = false := fixed
  exact ⟨State.idle_of (f := fun s => s.gainDown ch l) rfl (if_neg (by rw [fixed]; simp)),
    State.idle_of (f := fun s => s.gainUp ch) rfl (if_neg (by rw [fixed]; simp))⟩

end Sys2Proof.Machine

namespace Sys2Proof.Machine

/-! ### Pulses (R497) -/

/-- The ms on which the next pulse of an output may start. -/
def State.pulseStart (s : State) (p : Nat) : Nat :=
  ((if (s.meter.pulses.getD p {}).endAt = 0 then s.now else
    Nat.max s.now ((((s.meter.pulses.getD p {}).endAt + s.get (F.MTR_PUL_CFG_WIDTH.at p) * 1000000 : Nat) : Int) + s.time.stepSum).toNat)
    + 999999) / 1000000 * 1000000

/-- A pulse of an output that starts at an instant is counted. -/
def State.pulsed (s : State) (p stop start : Nat) : State :=
  ((s.atNs (start - s.frame.start)).modMeter fun m => { m with pulses := setAt m.pulses p { s.meter.pulses.getD p {} with endAt := stop } }).put
    (F.MTR_PUL_STAT_PENDING.at p) (s.get (F.MTR_PUL_STAT_PENDING.at p) - 1)

/-- An output has no pulse to emit. -/
def State.pulseStays (s : State) (p : Nat) : Bool :=
  8 ≤ p || !s.meter.running || s.flag F.MTR_STAT_SUSPENDED || !s.flag (F.MTR_PUL_CFG_EN.at p) || s.mode = .recovery
    || s.get (F.MTR_PUL_STAT_PENDING.at p) = 0 || s.frameEnd ≤ s.pulseStart p

theorem pulseEmit_eq (s : State) (p : Nat) : ∃ stop, s.pulseEmit p = if s.pulseStays p then s else
    (s.pulsed p stop (s.pulseStart p)).emitNow .meterPulse [(p : Int), s.pulseStart p, s.get (F.MTR_PUL_CFG_WIDTH.at p),
      (s.pulsed p stop (s.pulseStart p)).get (F.MTR_PUL_CFG_POL.at p)] := ⟨_, rfl⟩

section Pulse
variable {s : State} {p start : Nat} (hp : p < 8) (hstart : start = s.pulseStart p) (runs : s.meter.running = true)
  (on : s.get F.MTR_STAT_SUSPENDED = 0) (enabled : s.get (F.MTR_PUL_CFG_EN.at p) ≠ 0) (mode : s.mode ≠ .recovery)
include hp hstart runs on enabled mode

theorem pulseStays_eq : s.pulseStays p = (decide (s.get (F.MTR_PUL_STAT_PENDING.at p) = 0) || decide (s.frameEnd ≤ start)) := by
  subst hstart
  unfold State.pulseStays
  rw [decide_eq_false (not_le.2 hp), runs, State.flag_off on, State.flag_on enabled, decide_eq_false mode]
  rfl

theorem pulseEmit_emits (pending : s.get (F.MTR_PUL_STAT_PENDING.at p) ≠ 0) (within_ : start < s.frameEnd) :
    ∃ t, exec (.pulseEmit p) s = .next t ∧
      t.get (F.MTR_PUL_STAT_PENDING.at p) = (s.get (F.MTR_PUL_STAT_PENDING.at p) - 1) % 65536 ∧
      t.out = [⟨.meterPulse, [(p : Int), start, s.get (F.MTR_PUL_CFG_WIDTH.at p), s.get (F.MTR_PUL_CFG_POL.at p)]⟩] := by
  obtain ⟨stop, eq⟩ := pulseEmit_eq s.begin p
  have goes : s.begin.pulseStays p = false := (pulseStays_eq hp hstart runs on enabled mode).trans (by
    rw [decide_eq_false pending, decide_eq_false (not_le.2 within_)]
    rfl)
  rw [goes, if_neg Bool.false_ne_true] at eq
  subst hstart
  have pol : (s.begin.pulsed p stop (s.begin.pulseStart p)).get (F.MTR_PUL_CFG_POL.at p) = s.get (F.MTR_PUL_CFG_POL.at p) :=
    State.get_put_at_ne ((s.begin.atNs _).modMeter _) _ _ rfl (by decide)
  rw [pol] at eq
  refine ⟨_, congrArg (fun u => Host.Outcome.next (s.after u)) eq, ?_, rfl⟩
  exact State.get_put_self ((s.begin.atNs _).modMeter _) (F.MTR_PUL_STAT_PENDING.at p) (s.get (F.MTR_PUL_STAT_PENDING.at p) - 1)

theorem pulseEmit_waits (h : s.get (F.MTR_PUL_STAT_PENDING.at p) = 0 ∨ s.frameEnd ≤ start) : s.idle (.pulseEmit p) := by
  obtain ⟨stop, eq⟩ := pulseEmit_eq s.begin p
  have stays : s.begin.pulseStays p = true := (pulseStays_eq hp hstart runs on enabled mode).trans (by
    rcases h with h | h <;> rw [decide_eq_true h] <;> simp)
  rw [stays, if_pos rfl] at eq
  exact State.idle_of (f := fun s => s.pulseEmit p) rfl eq

end Pulse

/-! ### CLEAR_ALL (R493) -/

section ClearAll
variable {s : State} {who : Requester} {confirm : Nat} (role : 2 ≤ s.roleOf who) (may : s.mayWrite who)
include role may

/-- CLEAR_ALL leaves its status on what it does. -/
theorem clearAll_run {u : State} {st : Nat} (h : s.begin.mtrCmd 1 confirm = (u.cmdStat F.MTR_CMD_STAT_CODE F.MTR_CMD_STAT_STATUS 1 st, st)) :
    ∃ t, exec (.clearAll who confirm) s = .next t ∧ t.get F.MTR_CMD_STAT_STATUS = st % 65536 ∧ t.meter = u.meter := by
  have run : exec (.clearAll who confirm) s =
      .next (s.after ((u.cmdStat F.MTR_CMD_STAT_CODE F.MTR_CMD_STAT_STATUS 1 st).reply who st)) := by
    refine congrArg (fun u => Host.Outcome.next (s.after u)) ((State.gate_pass role may.2 _).trans ?_)
    rw [h]
  rw [State.reply_eq] at run
  exact ⟨_, run, State.get_put_self (u.put F.MTR_CMD_STAT_CODE 1) F.MTR_CMD_STAT_STATUS st, rfl⟩

theorem clearAll_unconfirmed (c : Nat) (h : c ≠ 0x5AFE) : ∃ t, exec (.clearAll who c) s = .next t ∧
    t.get F.MTR_CMD_STAT_STATUS = St.confirm ∧ t.meter = s.meter :=
  clearAll_run (u := s.begin) role may (by
    unfold State.mtrCmd
    rw [if_neg (by decide), if_pos (show c ≠ confirmValue from h)])

variable (confirmed : confirm = confirmValue)
include confirmed

theorem clearAll_of_life (blank : s.keys.life ≠ .blank) (prov : s.keys.life ≠ .provisioned) : ∃ t, exec (.clearAll who confirm) s = .next t ∧
    t.get F.MTR_CMD_STAT_STATUS = St.lifecycle ∧ t.meter = s.meter :=
  clearAll_run (u := s.begin) role may (by
    have refused : (decide (s.begin.keys.life ≠ .blank) && decide (s.begin.keys.life ≠ .provisioned)) = true := by
      rw [decide_eq_true (show s.begin.keys.life ≠ .blank from blank), decide_eq_true (show s.begin.keys.life ≠ .provisioned from prov)]
      rfl
    unfold State.mtrCmd
    rw [if_neg (by decide), if_neg (not_not.2 confirmed), if_pos refused])

variable (life : s.keys.life = .blank ∨ s.keys.life = .provisioned)
include life

omit role may confirmed in
theorem clearAll_life : ¬(decide (s.begin.keys.life ≠ .blank) && decide (s.begin.keys.life ≠ .provisioned)) = true := by
  have life : s.begin.keys.life = .blank ∨ s.begin.keys.life = .provisioned := life
  rcases life with h | h <;> rw [h] <;> decide

theorem clearAll_of_mode (mode : s.mode ≠ .stop) : ∃ t, exec (.clearAll who confirm) s = .next t ∧
    t.get F.MTR_CMD_STAT_STATUS = St.mode ∧ t.meter = s.meter :=
  clearAll_run (u := s.begin) role may (by
    have mode : (decide (s.begin.mode ≠ .stop) || decide (s.begin.phase ≠ .running)) = true := by
      rw [decide_eq_true (show s.begin.mode ≠ .stop from mode)]
      rfl
    unfold State.mtrCmd
    rw [if_neg (by decide), if_neg (not_not.2 confirmed), if_neg (clearAll_life life), if_pos mode])

theorem clearAll_pending (mode : s.mode = .stop) (phase : s.phase = .running) : ∃ t, exec (.clearAll who confirm) s = .next t ∧
    t.get F.MTR_CMD_STAT_STATUS = St.pending ∧ t.meter.clearBy.isSome = true ∧ t.meter.feeders = s.meter.feeders := by
  obtain ⟨t, run, st, meter⟩ := clearAll_run (confirm := confirm) (st := St.pending)
    (u := s.begin.modMeter fun m => { m with clearBy := some (.command F.MTR_CMD_STAT_STATUS.addr) }) role may (by
      have open_ : ¬(decide (s.begin.mode ≠ .stop) || decide (s.begin.phase ≠ .running)) = true := by
        rw [show s.begin.mode = .stop from mode, show s.begin.phase = .running from phase]
        decide
      unfold State.mtrCmd
      rw [if_neg (by decide), if_neg (not_not.2 confirmed), if_neg (clearAll_life life), if_neg open_])
  exact ⟨t, run, st, by rw [meter]; rfl, by rw [meter]; rfl⟩

end ClearAll

/-! ### Reads and services (R485, R489, R492, R495) -/

theorem mtrAccLoRead_latches (s : State) (who : Requester) (f q : Nat) : ∃ t, exec (.mtrAccLoRead who f q) s = .next t ∧
    t.out = [⟨.value, [(who.key : Int), St.done, ((s.feeder f).acc.getD q 0 % 2 ^ 32 : Nat)]⟩] ∧
    t.latched (Win.acc f q) who.key = [(s.feeder f).acc.getD q 0 / 2 ^ 32] ∧ t.meter = s.meter := by
  have run : exec (.mtrAccLoRead who f q) s = .next (s.after ((s.begin.setLatch (Win.acc f q) who.key [(s.feeder f).acc.getD q 0 / 2 ^ 32]).reply
    who St.done [(s.feeder f).acc.getD q 0 % 2 ^ 32])) := rfl
  rw [State.reply_eq] at run
  refine ⟨_, run, rfl, ?_, rfl⟩
  show (s.begin.setLatch (Win.acc f q) who.key [(s.feeder f).acc.getD q 0 / 2 ^ 32]).latched _ _ = _
  exact State.setLatch_latched _ _ _ (by simp)

theorem mtrEsel_latches (s : State) (who : Requester) (w : Word) (may : s.mayWrite who) : ∃ t, exec (.mtrEsel who w) s = .next t ∧
    t.get F.MTR_ESEL_FEEDER = w.toNat % 4 ∧ t.out = [⟨.value, [(who.key : Int), St.done]⟩] ∧ t.meter = s.meter ∧
    t.latched Win.meter who.key = (List.range 64).map fun k => (s.feeder (w.toNat % 4)).block.getD k 0 := by
  have run : exec (.mtrEsel who w) s = .next (s.after (((s.begin.put F.MTR_ESEL_FEEDER (w.toNat % 4)).setLatch Win.meter who.key
      ((List.range 64).map fun k => (s.feeder (w.toNat % 4 % 4)).block.getD k 0)).reply who St.done)) :=
    congrArg (fun u => Host.Outcome.next (s.after u)) (State.gate_open may _)
  rw [State.reply_eq, Nat.mod_mod] at run
  refine ⟨_, run, ?_, rfl, rfl, ?_⟩
  · exact (State.get_put_self s.begin F.MTR_ESEL_FEEDER (w.toNat % 4)).trans (Nat.mod_mod ..)
  · show ((s.begin.put F.MTR_ESEL_FEEDER (w.toNat % 4)).setLatch Win.meter who.key
      ((List.range 64).map fun k => (s.feeder (w.toNat % 4)).block.getD k 0)).latched _ _ = _
    exact State.setLatch_latched _ _ _ (by simp)

section Harm
variable {s : State} {o : Origin} {a : SvcArgs} {f c : Nat} (may : s.canCall o 0x100001) (hf : f = a.wa.toNat) (hc : c = a.wb.toNat)
include may hf hc

omit hf hc in
/-- A read of harmonics answers on the state as it is. -/
theorem harmRead_answers {st : Nat} {l : List Nat} (h : svcHarmRead s.begin o a = (s.begin, st, l)) :
    ∃ t, exec (.harmRead o a) s = .next t ∧ t.meter = s.meter ∧ t.told o st l := by
  obtain ⟨t, run, told, w⟩ := State.act_callSvc (f := svcHarmRead) (D := []) may rfl h (Within.refl ..)
  exact ⟨t, run, w.meter, told⟩

theorem harmRead_bad (h : 4 ≤ f ∨ 7 ≤ c) : ∃ t, exec (.harmRead o a) s = .next t ∧ t.told o St.badArg [] := by
  subst hf hc
  have bad : (decide (4 ≤ a.wa.toNat) || decide (7 ≤ a.wb.toNat)) = true := by rcases h with h | h <;> simp [h]
  obtain ⟨t, run, -, told⟩ := harmRead_answers may (if_pos bad)
  exact ⟨t, run, told⟩

variable (feeder : f < 4) (chan : c < 7)
include feeder chan

omit may in
theorem harmRead_args : ¬(decide (4 ≤ a.wa.toNat) || decide (7 ≤ a.wb.toNat)) = true := by
  subst hf hc
  rw [decide_eq_false (not_le.2 feeder), decide_eq_false (not_le.2 chan)]
  decide

theorem harmRead_off (off : s.feederOn f = false) : ∃ t, exec (.harmRead o a) s = .next t ∧ t.told o St.feederOff [] := by
  have args := harmRead_args hf hc feeder chan
  subst hf
  have off : (!s.begin.feederOn a.wa.toNat) = true := by rw [show s.begin.feederOn a.wa.toNat = false from off]; rfl
  obtain ⟨t, run, -, told⟩ := harmRead_answers may ((if_neg args).trans (if_pos off))
  exact ⟨t, run, told⟩

variable (on : s.feederOn f = true)
include on

omit may in
/-- A read of harmonics of a feeder whose windows never completed. -/
theorem svcHarmRead_none (h : (s.feeder f).harmAt = none) : svcHarmRead s.begin o a = (s.begin, St.noHarmonics, []) := by
  have args := harmRead_args hf hc feeder chan
  subst hf
  have enabled : ¬(!s.begin.feederOn a.wa.toNat) = true := by rw [show s.begin.feederOn a.wa.toNat = true from on]; decide
  have h : (s.begin.feeder a.wa.toNat).harmAt = none := h
  unfold svcHarmRead
  dsimp only
  rw [if_neg args, if_neg enabled, h]

omit may in
/-- A read of harmonics of a feeder whose windows completed at k. -/
theorem svcHarmRead_some {k : Nat} (h : (s.feeder f).harmAt = some k) : svcHarmRead s.begin o a =
    if k + 1000000000 < s.mono then (s.begin, St.noHarmonics, [])
    else (s.begin, St.done, (s.feeder f).thd.getD c 0 :: (List.range 63).map fun n => ((s.feeder f).harm.getD c []).getD n 0) := by
  have args := harmRead_args hf hc feeder chan
  subst hf hc
  have enabled : ¬(!s.begin.feederOn a.wa.toNat) = true := by rw [show s.begin.feederOn a.wa.toNat = true from on]; decide
  have h : (s.begin.feeder a.wa.toNat).harmAt = some k := h
  unfold svcHarmRead
  dsimp only
  rw [if_neg args, if_neg enabled, h]
  rfl

theorem harmRead_none (h : (s.feeder f).harmAt = none ∨ (∃ k, (s.feeder f).harmAt = some k ∧ k + 1000000000 < s.mono)) :
    ∃ t, exec (.harmRead o a) s = .next t ∧ t.told o St.noHarmonics [] := by
  have none_ : svcHarmRead s.begin o a = (s.begin, St.noHarmonics, []) := by
    rcases h with h | ⟨k, h, old⟩
    · exact svcHarmRead_none hf hc feeder chan on h
    · exact (svcHarmRead_some hf hc feeder chan on h).trans (if_pos old)
  obtain ⟨t, run, -, told⟩ := harmRead_answers may none_
  exact ⟨t, run, told⟩

theorem harmRead_shows (k : Nat) (h : (s.feeder f).harmAt = some k) (fresh : s.mono ≤ k + 1000000000) :
    ∃ t, exec (.harmRead o a) s = .next t ∧ t.meter = s.meter ∧
      t.told o St.done ((s.feeder f).thd.getD c 0 :: (List.range 63).map fun n => ((s.feeder f).harm.getD c []).getD n 0) :=
  harmRead_answers may ((svcHarmRead_some hf hc feeder chan on h).trans (if_neg (not_lt.2 fresh)))

end Harm

theorem maxima_part : ∀ f < 4, (F.MTR_FD_MAXDEM_W.at f).part = .block 0x10 ∧ (F.MTR_FD_MAXT_LO_SEC.at f).part = .block 0x10 ∧
    (F.MTR_FD_MAXT_HI_SEC.at f).part = .block 0x10 := by decide

section Demand
variable {s : State} {o : Origin} {a : SvcArgs} {f : Nat} (may : s.canCall o 0x100002) (hf : f = a.wa.toNat)
include may hf

theorem demandReset_bad (h : 4 ≤ f) : ∃ t, exec (.demandReset o a) s = .next t ∧ t.told o St.badArg [] ∧ t.regs = s.regs := by
  subst hf
  obtain ⟨t, run, told, w⟩ := State.act_callSvc (f := svcDemandReset) (D := []) may rfl (if_pos h) (Within.refl ..)
  exact ⟨t, run, told, w.regs⟩

theorem demandReset_off (feeder : f < 4) (off : s.feederOn f = false) :
    ∃ t, exec (.demandReset o a) s = .next t ∧ t.told o St.feederOff [] ∧ t.regs = s.regs := by
  subst hf
  have off : (!s.begin.feederOn a.wa.toNat) = true := by rw [show s.begin.feederOn a.wa.toNat = false from off]; rfl
  obtain ⟨t, run, told, w⟩ := State.act_callSvc (f := svcDemandReset) (D := []) may rfl ((if_neg (not_le.2 feeder)).trans (if_pos off))
    (Within.refl ..)
  exact ⟨t, run, told, w.regs⟩

theorem demandReset_resets (feeder : f < 4) (on : s.feederOn f = true) : ∃ t, exec (.demandReset o a) s = .next t ∧ t.told o St.done [] ∧
    t.get (F.MTR_FD_MAXDEM_W.at f) = 0 ∧ t.get (F.MTR_FD_MAXT_LO_SEC.at f) = 0 ∧ t.get (F.MTR_FD_MAXT_HI_SEC.at f) = 0 ∧
    t.meter = s.meter := by
  have enabled : ¬(!s.begin.feederOn a.wa.toNat) = true := by rw [show s.begin.feederOn a.wa.toNat = true from hf ▸ on]; decide
  have args : ¬4 ≤ a.wa.toNat := not_le.2 (hf ▸ feeder)
  have apart : ∀ f < 4, (F.MTR_FD_MAXDEM_W.at f).key ≠ (F.MTR_FD_MAXT_LO_SEC.at f).key ∧
      (F.MTR_FD_MAXDEM_W.at f).key ≠ (F.MTR_FD_MAXT_HI_SEC.at f).key ∧
      (F.MTR_FD_MAXT_LO_SEC.at f).key ≠ (F.MTR_FD_MAXT_HI_SEC.at f).key := by decide
  obtain ⟨dl, dh, lh⟩ := apart f feeder
  obtain ⟨u, hu, kept, dem, lo, hi⟩ : ∃ u, svcDemandReset s.begin o a = (u, St.done, []) ∧ Within [.regs, .block 0x10] s.begin u ∧
      u.get (F.MTR_FD_MAXDEM_W.at f) = 0 ∧ u.get (F.MTR_FD_MAXT_LO_SEC.at f) = 0 ∧ u.get (F.MTR_FD_MAXT_HI_SEC.at f) = 0 := by
    refine ⟨((s.begin.put (F.MTR_FD_MAXDEM_W.at f) 0).put (F.MTR_FD_MAXT_LO_SEC.at f) 0).put (F.MTR_FD_MAXT_HI_SEC.at f) 0, ?_, ?_, ?_, ?_, ?_⟩
    · subst hf
      exact (if_neg args).trans (if_neg enabled)
    · obtain ⟨pd, pl, ph⟩ := maxima_part f feeder
      exact ((within_put _ _ (by decide) (by rw [pd]; decide)).trans (within_put _ _ (by decide) (by rw [pl]; decide))).trans
        (within_put _ _ (by decide) (by rw [ph]; decide))
    · rw [State.get_put_ne _ _ _ _ dh, State.get_put_ne _ _ _ _ dl, State.get_put_self, Nat.zero_mod]
    · rw [State.get_put_ne _ _ _ _ lh, State.get_put_self, Nat.zero_mod]
    · rw [State.get_put_self, Nat.zero_mod]
  obtain ⟨t, run, told, w⟩ := State.act_callSvc (f := svcDemandReset) (D := [.regs, .block 0x10]) may rfl hu kept
  have regs : t.regs = u.regs := w.regs
  refine ⟨t, run, told, ?_, ?_, ?_, ?_⟩
  · rw [State.get, regs]; exact dem
  · rw [State.get, regs]; exact lo
  · rw [State.get, regs]; exact hi
  · exact w.meter.trans kept.meter

end Demand

/-- Settles O48: the end of a publication keeps what the four feeders show, whether a CLEAR_ALL is due or not; the rest is one command each. -/
theorem meteringAccountsItsFrames : Obligations.MeteringAccountsItsFrames := by
  unfold Obligations.MeteringAccountsItsFrames
  refine ⟨fun s m d runs waits young inTime early done four => meterPublication_publishes runs waits four young inTime early done,
    meterPublication_waits, fun s m runs waits old four => meterEstimate_estimates runs waits four old, meterEstimate_waits,
    meterPeriodicSave_saves, meterPeriodicSave_waits,
    fun s ch g l auto hg => ⟨gainDown_lowers auto hg, gainDown_waits hg, gainUp_raises auto hg, gainUp_waits hg⟩, gain_fixed, ?_,
    fun s who role may => ⟨clearAll_unconfirmed role may, clearAll_of_life role may rfl,
      fun life => ⟨clearAll_of_mode role may rfl life, clearAll_pending role may rfl life⟩⟩,
    mtrAccLoRead_latches, mtrEsel_latches,
    fun s o a f c may hf hc => ⟨harmRead_bad may hf hc, harmRead_off may hf hc, harmRead_none may hf hc,
      fun k feeder chan on => harmRead_shows may hf hc feeder chan on k⟩,
    fun s o a f may hf => ⟨demandReset_bad may hf, demandReset_off may hf, demandReset_resets may hf⟩⟩
  intro s p w start x hp hx hw hstart runs on enabled mode
  subst hx hw
  exact ⟨pulseEmit_emits hp hstart runs on enabled mode, pulseEmit_waits hp hstart runs on enabled mode⟩

end Sys2Proof.Machine

/-! ### A refused call of a client on the host port (O49) -/
namespace Sys2Proof.Machine

/-- A module in Stop, with context 5 open for a client on the host port; every DALI line is disabled, as after reset. -/
def spiClient : State :=
  { phase := .running, mode := .stop, gal := { sessions := [(5, { typ := 3, role := 1 })] } }

/-- The arguments of an arc power level for short address 0 on line 0. -/
def arcArgs : SvcArgs := { wa := 0, wb := 0, d := [] }

theorem spiClient_canCall : spiClient.canCall (.host 5 1) 0x120001 :=
  ⟨by decide, nofun, by decide, _, rfl, rfl, le_refl 1⟩

/-- The refusal is the port's next response, and SPI_RDY rises. -/
theorem daliArc_spiClient : ∃ u, exec (.daliArc (.host 5 1) arcArgs) spiClient = .next u ∧ u.wired.spiRdy = true := ⟨_, rfl, rfl⟩

/-- Refutes O49: a call to a line that is disabled does not leave all of the wired ports as they were. On `spiClient` the answer goes to a client
on the host port, and with it SPI_RDY rises. -/
theorem not_wiredPortsCarryTheirFrames : ¬ Obligations.WiredPortsCarryTheirFrames := by
  unfold Obligations.WiredPortsCarryTheirFrames
  rintro ⟨-, -, -, -, -, -, dali, -⟩
  obtain ⟨off, -⟩ := (dali spiClient (.host 5 1) arcArgs 0 0 rfl rfl rfl (by decide) rfl).1 spiClient_canCall
  obtain ⟨t, run, -, same⟩ := off rfl
  obtain ⟨u, run', rises⟩ := daliArc_spiClient
  rw [run] at run'
  cases run'
  rw [same] at rises
  cases rises

end Sys2Proof.Machine

/-! ### The Accession log and the Vitrine (O55) -/
namespace Sys2Proof.Machine

/-! ### Records in MRAM (R598, R635) -/

/-- The record that leaves the queue. -/
def State.dequeued (s : State) (l : List LogRec) : State := s.modRecs fun x => { x with queue := l }

/-- The lowest severity of the log. -/
def State.lowest (s : State) : Nat := (s.recs.held.map LogRec.sev).foldl min 3

section Write
variable {s : State} {r : LogRec} {l : List LogRec} (waits : s.recs.queue = r :: l)
include waits

theorem recordWrite_eq (torn : Bool) : s.begin.recordWrite torn =
    if s.recs.held.length < logSlots then
      (if torn then (s.begin.dequeued l).modRecs fun x => { x with torn := x.torn + 1 }
       else (s.begin.dequeued l).modRecs fun x => { x with held := x.held ++ [r] })
    else if s.lowest ≤ r.sev then
      (if torn then (s.begin.dequeued l).modRecs fun x => { x with held := dropOldest s.lowest s.recs.held, torn := x.torn + 1 }
       else (s.begin.dequeued l).modRecs fun x => { x with held := dropOldest s.lowest s.recs.held ++ [r] })
    else (s.begin.dequeued l).inc F.LOG_CNT_DROPPED := by
  have waits : s.begin.recs.queue = r :: l := waits
  unfold State.recordWrite
  rw [waits]
  rfl

theorem logRecordWrite_room (room : s.recs.held.length < 65536) :
    (∃ t, exec (.logRecordWrite false) s = .next t ∧ t.recs = { s.recs with queue := l, held := s.recs.held ++ [r] } ∧
      { t with recs := s.recs, out := s.out } = s) ∧
    (∃ t, exec (.logRecordWrite true) s = .next t ∧ t.recs = { s.recs with queue := l, torn := s.recs.torn + 1 }) :=
  ⟨⟨_, congrArg (fun u => Host.Outcome.next (s.after u)) ((recordWrite_eq waits false).trans (if_pos room)), rfl, by cases s; rfl⟩,
    ⟨_, congrArg (fun u => Host.Outcome.next (s.after u)) ((recordWrite_eq waits true).trans (if_pos room)), rfl⟩⟩

end Write

theorem foldl_min_eq {l : List Nat} {a m : Nat} (le : ∀ x ∈ l, m ≤ x) (ha : m ≤ a) (mem : m = a ∨ m ∈ l) : l.foldl min a = m := by
  induction l generalizing a with
  | nil => simpa using mem.elim Eq.symm fun h => absurd h (List.not_mem_nil)
  | cons x l ih =>
    have hx := le x (List.mem_cons_self ..)
    refine ih (fun y hy => le y (List.mem_cons_of_mem _ hy)) (le_min ha hx) ?_
    rcases mem with rfl | h
    · exact .inl (min_eq_left hx).symm
    · rcases List.mem_cons.1 h with rfl | h
      · exact .inl (min_eq_right ha).symm
      · exact .inr h

theorem State.lowest_eq {s : State} {x : LogRec} (mem : x ∈ s.recs.held) (le : ∀ y ∈ s.recs.held, x.sev ≤ y.sev) (sev : x.sev ≤ 3) :
    s.lowest = x.sev := by
  refine foldl_min_eq (fun n hn => ?_) sev (.inr (List.mem_map_of_mem mem))
  obtain ⟨y, hy, rfl⟩ := List.mem_map.1 hn
  exact le y hy

/-- One record is left out where one has the severity. -/
theorem dropOldest_length {l : List LogRec} {x : LogRec} (h : x ∈ l) : (dropOldest x.sev l).length + 1 = l.length := by
  induction l with
  | nil => exact absurd h List.not_mem_nil
  | cons r l ih =>
    unfold dropOldest
    split
    · rfl
    · next hr =>
      rcases List.mem_cons.1 h with rfl | h
      · exact absurd rfl hr
      · exact congrArg (· + 1) (ih h)

section Full
variable {s : State} {r x : LogRec} {l : List LogRec} (waits : s.recs.queue = r :: l) (full : 65536 ≤ s.recs.held.length)
  (mem : x ∈ s.recs.held) (le : ∀ y ∈ s.recs.held, x.sev ≤ y.sev) (sev : x.sev ≤ 3)
include waits full mem le sev

theorem logRecordWrite_drops (low : r.sev < x.sev) : ∃ t, exec (.logRecordWrite false) s = .next t ∧ t.recs = { s.recs with queue := l } ∧
    t.get F.LOG_CNT_DROPPED = min 65535 (s.get F.LOG_CNT_DROPPED + 1) := by
  have eq := (recordWrite_eq waits false).trans (if_neg (not_lt.2 full))
  rw [State.lowest_eq mem le sev, if_neg (not_le.2 low)] at eq
  refine ⟨_, congrArg (fun u => Host.Outcome.next (s.after u)) eq, rfl, ?_⟩
  rw [State.after_get, State.get_inc_word _ rfl rfl]
  rfl

theorem logRecordWrite_replaces (high : x.sev ≤ r.sev) : ∃ t, exec (.logRecordWrite false) s = .next t ∧ t.regs = s.regs ∧
    t.recs = { s.recs with queue := l, held := dropOldest x.sev s.recs.held ++ [r] } ∧ t.recs.held.length = s.recs.held.length := by
  have eq := (recordWrite_eq waits false).trans (if_neg (not_lt.2 full))
  rw [State.lowest_eq mem le sev, if_pos high] at eq
  refine ⟨_, congrArg (fun u => Host.Outcome.next (s.after u)) eq, rfl, rfl, ?_⟩
  show (dropOldest x.sev s.recs.held ++ [r]).length = _
  rw [List.length_append, ← dropOldest_length mem]
  rfl

theorem logRecordWrite_tears (high : x.sev ≤ r.sev) : ∃ t, exec (.logRecordWrite true) s = .next t ∧ t.regs = s.regs ∧
    t.recs = { s.recs with queue := l, held := dropOldest x.sev s.recs.held, torn := s.recs.torn + 1 } := by
  have eq := (recordWrite_eq waits true).trans (if_neg (not_lt.2 full))
  rw [State.lowest_eq mem le sev, if_pos high] at eq
  exact ⟨_, congrArg (fun u => Host.Outcome.next (s.after u)) eq, rfl, rfl⟩

end Full

theorem logRecordWrite_idle (s : State) (torn : Bool) (h : s.recs.queue = []) : s.idle (.logRecordWrite torn) := by
  refine State.idle_of (f := fun s => s.recordWrite torn) rfl ?_
  have h : s.begin.recs.queue = [] := h
  unfold State.recordWrite
  rw [h]

/-! ### Selections and OPTIME (R595, R599) -/

theorem State.logFrom_put_sel (s : State) (v first n : Nat) : (s.put F.LOG_SEL_ACC v).logFrom first n = s.logFrom first n := by
  unfold State.logFrom State.age
  rw [s.get_put_ne _ _ _ (by decide)]
  rfl

theorem writeLogSel_eq (s : State) (rk n : Nat) : ∃ w, s.writeLogSel rk n = (s.put F.LOG_SEL_ACC n).setLatch Win.log rk w ∧
    ∀ r m, s.logFrom n 1 = ([r], m) → w = (List.range 16).map fun k => wordAt r.octets k := by
  refine ⟨_, rfl, fun r m h => ?_⟩
  rw [State.logFrom_put_sel, h]

theorem logSel_latches (s : State) (who : Requester) (w : Word) (may : s.mayWrite who) : ∃ t, exec (.logSel who w) s = .next t ∧
    t.get F.LOG_SEL_ACC = w.toNat ∧ t.out = [⟨.value, [(who.key : Int), St.done]⟩] ∧ t.recs = s.recs ∧
    (∀ r m, s.logFrom w.toNat 1 = ([r], m) → t.latched Win.log who.key = (List.range 16).map fun k => wordAt r.octets k) := by
  obtain ⟨l, eq, shows⟩ := writeLogSel_eq s.begin who.key w.toNat
  have run : exec (.logSel who w) s = .next (s.after (((s.begin.put F.LOG_SEL_ACC w.toNat).setLatch Win.log who.key l).reply who St.done)) :=
    congrArg (fun u => Host.Outcome.next (s.after u)) ((State.gate_open may _).trans (congrArg (fun u : State => u.reply who St.done) eq))
  rw [State.reply_eq] at run
  refine ⟨_, run, ?_, rfl, rfl, fun r m h => ?_⟩
  · exact (State.get_put_self s.begin F.LOG_SEL_ACC w.toNat).trans (Nat.mod_eq_of_lt w.isLt)
  · have h := shows r m h
    show ((s.begin.put F.LOG_SEL_ACC w.toNat).setLatch Win.log who.key l).latched _ _ = _
    rw [State.setLatch_latched _ _ _ (by rw [h]; simp), h]

theorem logOptimeLoRead_latches (s : State) (who : Requester) : ∃ t, exec (.logOptimeLoRead who) s = .next t ∧
    t.out = [⟨.value, [(who.key : Int), St.done, (s.recs.optime % 2 ^ 32 : Nat)]⟩] ∧
    t.latched Win.optime who.key = [s.recs.optime / 2 ^ 32 % 2 ^ 16] ∧ { t with latch := s.latch, out := s.out } = s := by
  have run : exec (.logOptimeLoRead who) s = .next (s.after ((s.begin.setLatch Win.optime who.key [s.recs.optime / 2 ^ 32 % 2 ^ 16]).reply
    who St.done [s.recs.optime % 2 ^ 32])) := rfl
  rw [State.reply_eq] at run
  refine ⟨_, run, rfl, ?_, by cases s; rfl⟩
  show (s.begin.setLatch Win.optime who.key [s.recs.optime / 2 ^ 32 % 2 ^ 16]).latched _ _ = _
  exact State.setLatch_latched _ _ _ (by simp)

/-! ### Time marks (R600) -/

/-- A record below Critical enters a queue that has room. -/
theorem logRec_queued (s : State) {sev : Nat} (src code : Nat) (p : List Nat) (room : s.recs.queue.length < 256) (low : sev ≠ 3) :
    ∃ r n first, (s.logRec sev src code p).recs = { s.recs with queue := s.recs.queue ++ [r], nrec := n, firstAcc := first } ∧ r.sev = sev ∧
      r.source = src ∧ r.code = code ∧ r.optime = s.recs.optime := by
  unfold State.logRec
  rw [if_neg (not_le.2 room)]
  dsimp only
  rw [if_neg low]
  exact ⟨_, _, _, rfl, rfl, rfl, rfl, rfl⟩

theorem timeMark_marks (s : State) (frames : s.framesOn = true) (state : s.get F.TIM_STAT_STATE ≠ 0)
    (due : s.recs.markAt + 3600000 ≤ s.recs.optime) (room : s.recs.queue.length < 256) :
    ∃ t r, exec .timeMark s = .next t ∧ t.recs.markAt = s.recs.optime ∧ t.recs.queue = s.recs.queue ++ [r] ∧ r.sev = 0 ∧
      r.source = 0x0E ∧ r.code = 0xC004 ∧ r.optime = s.recs.optime := by
  have goes : (s.begin.framesOn && decide (s.begin.get F.TIM_STAT_STATE ≠ 0) && decide (s.begin.recs.markAt + 3600000 ≤ s.begin.recs.optime)) =
      true := by
    rw [show s.begin.framesOn = true from frames, decide_eq_true (show s.begin.get F.TIM_STAT_STATE ≠ 0 from state),
      decide_eq_true (show s.begin.recs.markAt + 3600000 ≤ s.begin.recs.optime from due)]
    rfl
  have eq : exec .timeMark s = .next (s.after s.begin.timeMark) := congrArg (fun u => Host.Outcome.next (s.after u)) (if_pos goes)
  obtain ⟨r, n, first, recs, sev, source, code, optime⟩ := logRec_queued (s.begin.modRecs fun r => { r with markAt := r.optime }) (sev := Sev.info)
    0x0E 0xC004 (leBytes 4 (s.now % 1000000000) ++ leBytes 6 (s.now / 1000000000) ++ leBytes 4 (s.now % 1000000000)) room (by decide)
  have recs : s.begin.timeMark.recs = _ := recs
  refine ⟨_, r, eq, ?_, ?_, sev, source, code, optime⟩
  · exact congrArg Records.markAt recs
  · exact congrArg Records.queue recs

theorem timeMark_waits (s : State) (h : s.framesOn = false ∨ s.get F.TIM_STAT_STATE = 0 ∨ s.recs.optime < s.recs.markAt + 3600000) :
    s.idle .timeMark := by
  refine State.idle_run rfl (if_neg ?_)
  have h : s.begin.framesOn = false ∨ decide (s.begin.get F.TIM_STAT_STATE ≠ 0) = false ∨
      decide (s.begin.recs.markAt + 3600000 ≤ s.begin.recs.optime) = false :=
    h.imp_right (Or.imp (fun h => decide_eq_false (not_not.2 h)) fun h => decide_eq_false (not_le.2 h))
  rcases h with h | h | h <;> rw [h] <;> simp

/-! ### The Vitrine (R601, R602) -/

theorem vitrineFreeze_freezes (s : State) (left : s.recs.left = some 0) (trig : s.recs.trigNow = false) : ∃ t, exec .vitrineFreeze s = .next t ∧
    t.get F.LOG_VIT_STAT_FROZEN = 1 ∧ t.recs = { s.recs with left := none } := by
  have goes : (decide (s.begin.recs.left = some 0) && !s.begin.recs.trigNow) = true := by
    rw [show s.begin.recs.left = some 0 from left, show s.begin.recs.trigNow = false from trig]
    rfl
  exact ⟨_, congrArg (fun u => Host.Outcome.next (s.after u)) (if_pos goes), State.get_put_self (s.begin.modRecs _) F.LOG_VIT_STAT_FROZEN 1, rfl⟩

theorem vitrineFreeze_waits (s : State) (h : s.recs.left ≠ some 0 ∨ s.recs.trigNow = true) : s.idle .vitrineFreeze := by
  refine State.idle_run rfl (if_neg ?_)
  have h : decide (s.begin.recs.left = some 0) = false ∨ s.begin.recs.trigNow = true := h.imp_left decide_eq_false
  rcases h with h | h <;> rw [h] <;> simp

theorem vitTrigger_frozen (s : State) (c : Nat) (frozen : s.get F.LOG_VIT_STAT_FROZEN ≠ 0) :
    s.vitTrigger none c = s.inc F.LOG_VIT_STAT_MISSED := by
  unfold State.vitTrigger
  exact (if_neg Bool.false_ne_true).trans (if_pos (State.flag_on frozen))

/-- The frame of a trigger is noted. -/
def State.trigAt (s : State) (c : Nat) : State :=
  ((s.put F.LOG_VIT_STAT_TRIGGER c).put F.LOG_VIT_FRAME_LO_FRAME (s.num % 2 ^ 32)).put F.LOG_VIT_FRAME_HI_FRAME (s.num / 2 ^ 32)

theorem vitTrigger_runs (s : State) (c : Nat) (frozen : s.get F.LOG_VIT_STAT_FROZEN = 0) (left : s.recs.left = none) :
    s.vitTrigger none c = (s.trigAt c).modRecs fun x => { x with left := some ((s.trigAt c).get F.LOG_VIT_CFG_POST), trigNow := true } := by
  unfold State.vitTrigger
  refine (if_neg Bool.false_ne_true).trans ((if_neg (by rw [State.flag_off frozen]; decide)).trans (if_neg ?_))
  rw [left]
  decide

theorem trigAt_get (s : State) (c : Nat) : (s.trigAt c).get F.LOG_VIT_CFG_POST = s.get F.LOG_VIT_CFG_POST ∧
    (s.trigAt c).get F.LOG_VIT_STAT_TRIGGER = c % 8 ∧ (s.trigAt c).get F.LOG_VIT_FRAME_LO_FRAME = s.num % 2 ^ 32 := by
  unfold State.trigAt
  refine ⟨?_, ?_, ?_⟩
  · rw [State.get_put_ne _ _ _ _ (by decide), State.get_put_ne _ _ _ _ (by decide), State.get_put_ne _ _ _ _ (by decide)]
  · rw [State.get_put_ne _ _ _ _ (by decide), State.get_put_ne _ _ _ _ (by decide), State.get_put_self]
    rfl
  · rw [State.get_put_ne _ _ _ _ (by decide), State.get_put_self]
    exact Nat.mod_mod ..

/-- A record below Critical counts in its numbers alone. -/
theorem logRec_get_low (s : State) {sev : Nat} (src code : Nat) (p : List Nat) (low : sev ≠ 3) {f : Fld} (acc : f.key ≠ F.LOG_NEWEST_ACC.key)
    (drop : f.key ≠ F.LOG_CNT_QDROP.key) : (s.logRec sev src code p).get f = s.get f := by
  unfold State.logRec
  split
  · exact s.get_put_ne _ _ _ drop
  · extract_lets n fr r t
    exact s.get_put_ne _ _ _ acc

section VitCmd
variable (s : State) (who : Requester) (may : s.mayWrite who)
include may

theorem freeze_run : exec (.freeze who) s = .next (s.after ((s.begin.vitTrigger none 6).reply who St.done)) :=
  congrArg (fun u => Host.Outcome.next (s.after u)) (State.gate_open may _)

theorem freeze_triggers (frozen : s.get F.LOG_VIT_STAT_FROZEN = 0) (left : s.recs.left = none) : ∃ t, exec (.freeze who) s = .next t ∧
    t.recs = { s.recs with left := some (s.get F.LOG_VIT_CFG_POST), trigNow := true } ∧ t.get F.LOG_VIT_STAT_TRIGGER = 6 ∧
    t.get F.LOG_VIT_FRAME_LO_FRAME = s.num % 2 ^ 32 ∧ t.out = [⟨.value, [(who.key : Int), St.done]⟩] := by
  have run := freeze_run s who may
  obtain ⟨post, trigger, frame⟩ := trigAt_get s.begin 6
  rw [vitTrigger_runs s.begin _ frozen left, State.reply_eq, post] at run
  exact ⟨_, run, rfl, trigger, frame, rfl⟩

theorem freeze_missed (frozen : s.get F.LOG_VIT_STAT_FROZEN ≠ 0) : ∃ t, exec (.freeze who) s = .next t ∧ t.recs = s.recs ∧
    t.out = [⟨.value, [(who.key : Int), St.done]⟩] := by
  have run := freeze_run s who may
  rw [vitTrigger_frozen s.begin _ frozen, State.reply_eq] at run
  exact ⟨_, run, rfl, rfl⟩

theorem unfreeze_thaws : ∃ t, exec (.unfreeze who) s = .next t ∧ t.get F.LOG_VIT_STAT_FROZEN = 0 ∧
    t.out = [⟨.value, [(who.key : Int), St.done]⟩] := by
  have run : exec (.unfreeze who) s = .next (s.after (((s.begin.put F.LOG_VIT_STAT_FROZEN 0).log Sev.info 1 F.LOG_VIT_STAT_FROZEN []).reply
    who St.done)) := congrArg (fun u => Host.Outcome.next (s.after u)) (State.gate_open may _)
  refine ⟨_, run, ?_, ?_⟩
  · rw [State.after_get, State.reply_get, State.log, logRec_get_low _ _ _ _ (by decide) (by decide) (by decide)]
    exact State.get_put_self s.begin F.LOG_VIT_STAT_FROZEN 0
  · rw [State.after_out, State.reply_out, State.log_out]
    rfl

end VitCmd

/-- Settles O55: the record that leaves the queue, the selections, the marks and the Vitrine, each by its own rule. -/
theorem recordsAreWrittenInOrder : Obligations.RecordsAreWrittenInOrder := by
  unfold Obligations.RecordsAreWrittenInOrder
  exact ⟨fun s r l waits => ⟨logRecordWrite_room waits, fun full x mem le sev => ⟨logRecordWrite_drops waits full mem le sev,
      logRecordWrite_replaces waits full mem le sev, logRecordWrite_tears waits full mem le sev⟩⟩,
    logRecordWrite_idle, logSel_latches, logOptimeLoRead_latches, fun s => ⟨timeMark_marks s, timeMark_waits s⟩,
    fun s => ⟨vitrineFreeze_freezes s, vitrineFreeze_waits s⟩,
    fun s who may => ⟨freeze_triggers s who may, freeze_missed s who may, unfreeze_thaws s who may⟩⟩

end Sys2Proof.Machine

/-! ### The Keeper, the self-test commands and the observation lands (O54) -/
namespace Sys2Proof.Machine

/-! ### The checks of R586 -/

section Check
variable {s : State} {e slot op : Nat} {sec : Bool} {k : KeySlot} (hk : k = s.keySlot slot)
include hk

/-- The order of the checks. -/
theorem keeperCheck_eq : s.keeperCheck e sec slot op =
    if k.kind = 0 then some St.slotEmpty
    else if (!bit k.life s.keys.life.code || decide (s.rootNow = 0) || decide (s.rootNow ≠ k.root)) = true then some St.lifecycle
    else if (!bit k.world (if sec = true then 0 else 1)) = true then some St.access
    else if (!(decide (e = k.master) || (k.paircore && decide (k.master < 2) && decide (e < 2)))) = true then some St.access
    else if (!bit k.use_ op) = true then some St.access
    else if (decide (k.fallback = 1) && decide (k.uses = 0) || decide (k.kind = 5)) = true then some St.keyExhausted
    else none := by
  subst hk
  unfold State.keeperCheck
  cases sec <;> rfl

theorem keeperCheck_empty (kind : k.kind = 0) : s.keeperCheck e sec slot op = some St.slotEmpty :=
  (keeperCheck_eq hk).trans (if_pos kind)

theorem keeperCheck_life (kind : k.kind ≠ 0) (h : bit k.life s.keys.life.code = false ∨ s.rootNow = 0 ∨ s.rootNow ≠ k.root) :
    s.keeperCheck e sec slot op = some St.lifecycle := by
  refine (keeperCheck_eq hk).trans ((if_neg kind).trans (if_pos ?_))
  rcases h with h | h | h <;> simp [h]

variable (kind : k.kind ≠ 0) (life : bit k.life s.keys.life.code = true) (root : s.rootNow ≠ 0) (own : s.rootNow = k.root)
include kind life root own

/-- The checks behind those of the life cycle. -/
theorem keeperCheck_living : s.keeperCheck e sec slot op =
    if (!bit k.world (if sec = true then 0 else 1)) = true then some St.access
    else if (!(decide (e = k.master) || (k.paircore && decide (k.master < 2) && decide (e < 2)))) = true then some St.access
    else if (!bit k.use_ op) = true then some St.access
    else if (decide (k.fallback = 1) && decide (k.uses = 0) || decide (k.kind = 5)) = true then some St.keyExhausted
    else none := by
  refine (keeperCheck_eq hk).trans ((if_neg kind).trans (if_neg ?_))
  rw [life, decide_eq_false root, decide_eq_false (not_not.2 own)]
  decide

theorem keeperCheck_access (h : bit k.world (if sec = true then 0 else 1) = false ∨ (e ≠ k.master ∧ (k.paircore = false ∨ 2 ≤ e)) ∨
    bit k.use_ op = false) : s.keeperCheck e sec slot op = some St.access := by
  rw [keeperCheck_living hk kind life root own]
  rcases h with world | ⟨master, pair⟩ | use_
  · exact if_pos (by rw [world]; rfl)
  · have other : (!(decide (e = k.master) || (k.paircore && decide (k.master < 2) && decide (e < 2)))) = true := by
      rw [decide_eq_false master]
      rcases pair with h | h
      · rw [h]; rfl
      · rw [decide_eq_false (not_lt.2 h), Bool.and_false]; rfl
    rw [if_pos other, ite_self]
  · rw [if_pos (show (!bit k.use_ op) = true by rw [use_]; rfl), ite_self, ite_self]

variable (world : bit k.world (if sec = true then 0 else 1) = true) (use_ : bit k.use_ op = true)
include world use_

/-- The last check, of a master that may use the slot. -/
theorem keeperCheck_used (master : (decide (e = k.master) || (k.paircore && decide (k.master < 2) && decide (e < 2))) = true) :
    s.keeperCheck e sec slot op =
      if (decide (k.fallback = 1) && decide (k.uses = 0) || decide (k.kind = 5)) = true then some St.keyExhausted else none := by
  rw [keeperCheck_living hk kind life root own, world, master, use_]
  rfl

theorem keeperCheck_exhausted (master : e = k.master) (h : k.kind = 5 ∨ (k.fallback = 1 ∧ k.uses = 0)) :
    s.keeperCheck e sec slot op = some St.keyExhausted := by
  rw [keeperCheck_used hk kind life root own world use_ (by simp [master])]
  refine if_pos ?_
  rcases h with h | ⟨h, g⟩
  · rw [decide_eq_true h, Bool.or_true]
  · rw [decide_eq_true h, decide_eq_true g]
    rfl

theorem keeperCheck_passes (master : e = k.master ∨ (k.paircore = true ∧ k.master < 2 ∧ e < 2)) (five : k.kind ≠ 5)
    (left : k.fallback ≠ 1 ∨ k.uses ≠ 0) : s.keeperCheck e sec slot op = none := by
  have serves : (decide (e = k.master) || (k.paircore && decide (k.master < 2) && decide (e < 2))) = true := by
    rcases master with h | ⟨h, g, l⟩
    · rw [decide_eq_true h, Bool.true_or]
    · rw [h, decide_eq_true g, decide_eq_true l, Bool.or_eq_true]
      exact .inr rfl
  rw [keeperCheck_used hk kind life root own world use_ serves]
  refine if_neg ?_
  rw [decide_eq_false five]
  rcases left with h | h <;> rw [decide_eq_false h] <;> simp

end Check

/-- What a check that passes shows of the slot. -/
theorem keeperCheck_none {s : State} {e slot op : Nat} {sec : Bool} (h : s.keeperCheck e sec slot op = none) :
    (s.keySlot slot).kind ≠ 5 ∧ ((s.keySlot slot).fallback = 1 → (s.keySlot slot).uses ≠ 0) := by
  rw [keeperCheck_eq rfl] at h
  by_cases spent : (decide ((s.keySlot slot).fallback = 1) && decide ((s.keySlot slot).uses = 0) || decide ((s.keySlot slot).kind = 5)) = true
  · rw [if_pos spent] at h
    split_ifs at h
  · rw [Bool.or_eq_true, decide_eq_true_eq, Bool.and_eq_true, decide_eq_true_eq, decide_eq_true_eq, not_or, not_and] at spent
    exact spent.symm

/-! ### Requests and their completion (R586 to R588) -/

theorem State.awake_of {s : State} {e : Nat} (h : e ∉ s.gal.masked) : s.awake e = true := by simpa [State.awake] using h

theorem keeperRequest_served (s : State) (e slot op : Nat) (sec : Bool) (k0 : 22 ∉ s.gal.masked) (he : e ∉ s.gal.masked) :
    (∀ st, s.keeperCheck e sec slot op = some st → ∃ t, exec (.keeperRequest e sec slot op) s = .next t ∧
      t.out = [⟨.keeper, [(e : Int), slot, op, st]⟩] ∧ { t with out := s.out } = s) ∧
    (s.keeperCheck e sec slot op = none → ∃ t, exec (.keeperRequest e sec slot op) s = .next t ∧
      t.keys = { s.keys with queue := s.keys.queue ++ [⟨e, sec, slot, op⟩] } ∧ { t with keys := s.keys, out := s.out } = s) := by
  have up : ¬(!s.begin.awake 22 || !s.begin.awake e) = true := by
    rw [show s.begin.awake 22 = true from State.awake_of k0, show s.begin.awake e = true from State.awake_of he]
    decide
  refine ⟨fun st check => ?_, fun check => ?_⟩
  · have check : s.begin.keeperCheck e sec slot op = some st := check
    have eq : s.begin.keeperRequest e sec slot op = s.begin.keeperOut e slot op st := by
      unfold State.keeperRequest
      rw [if_neg up, check]
    exact ⟨_, congrArg (fun u => Host.Outcome.next (s.after u)) eq, rfl, by cases s; rfl⟩
  · have check : s.begin.keeperCheck e sec slot op = none := check
    have eq : s.begin.keeperRequest e sec slot op = s.begin.modKeys fun k => { k with queue := k.queue ++ [⟨e, sec, slot, op⟩] } := by
      unfold State.keeperRequest
      rw [if_neg up, check]
    exact ⟨_, congrArg (fun u => Host.Outcome.next (s.after u)) eq, rfl, by cases s; rfl⟩

theorem keeperRequest_asleep (s : State) (e slot op : Nat) (sec : Bool) (h : 22 ∈ s.gal.masked ∨ e ∈ s.gal.masked) :
    s.idle (.keeperRequest e sec slot op) := by
  refine State.idle_of (f := fun s => s.keeperRequest e sec slot op) rfl (if_pos ?_)
  have h : s.begin.awake 22 = false ∨ s.begin.awake e = false := h.imp (fun h => by simp [State.awake, h]) fun h => by simp [State.awake, h]
  rcases h with h | h <;> rw [h] <;> simp

theorem keySlot_setSlot (s : State) (k : Nat) (x : KeySlot) : (s.setSlot k x).keySlot k = x := SMap.getD_put_self ..

theorem keySlot_setSlot_ne (s : State) {k j : Nat} (x : KeySlot) (h : j ≠ k) : (s.setSlot k x).keySlot j = s.keySlot j := by
  show SMap.getD (SMap.put {} s.keys.slots k x) j {} = SMap.getD s.keys.slots j {}
  rw [SMap.getD, SMap.getD, SMap.get?_put_ne _ _ _ _ _ h]

theorem keySlot_uncache (s : State) (k j : Nat) : (s.uncache k).keySlot j = s.keySlot j := rfl

/-- The keys after a use of a slot, with its working copy in the cache. -/
def State.keyTaken (s : State) (slot : Nat) : State :=
  let t := (s.cacheKey slot).keyUsed slot
  if (t.keySlot slot).kind = 5 then t.uncache slot else t

theorem keyTaken_kept (s : State) (slot : Nat) (five : (s.keySlot slot).kind ≠ 5) (free_ : (s.keySlot slot).fallback ≠ 1) :
    s.keyTaken slot = s.cacheKey slot := by
  have used : (s.cacheKey slot).keyUsed slot = s.cacheKey slot := if_neg free_
  unfold State.keyTaken
  dsimp only
  rw [used]
  exact if_neg five

theorem keyTaken_counts (s : State) (slot : Nat) (five : (s.keySlot slot).kind ≠ 5) (counts : (s.keySlot slot).fallback = 1)
    (_ : (s.keySlot slot).uses ≠ 0) : (s.keyTaken slot).keys.queue = s.keys.queue ∧
      ((s.keyTaken slot).keySlot slot).uses = (s.keySlot slot).uses - 1 ∧
      ((s.keySlot slot).uses = 1 → ((s.keyTaken slot).keySlot slot).kind = 5 ∧ ∀ p ∈ (s.keyTaken slot).keys.cache, p.1 ≠ slot) := by
  by_cases last : (s.keySlot slot).uses ≤ 1
  · have used : (s.cacheKey slot).keyUsed slot = (s.cacheKey slot).setSlot slot { s.keySlot slot with uses := 0, kind := 5, mat := .none_ } :=
      (if_pos counts).trans (if_pos last)
    have eq : s.keyTaken slot = ((s.cacheKey slot).setSlot slot { s.keySlot slot with uses := 0, kind := 5, mat := .none_ }).uncache slot := by
      unfold State.keyTaken
      dsimp only
      rw [used]
      exact if_pos (by rw [keySlot_setSlot])
    rw [eq]
    refine ⟨rfl, ?_, fun _ => ⟨?_, fun p hp => ?_⟩⟩
    · rw [keySlot_uncache, keySlot_setSlot]
      show 0 = _
      omega
    · rw [keySlot_uncache, keySlot_setSlot]
    · exact of_decide_eq_true (List.mem_filter.1 hp).2
  · have used : (s.cacheKey slot).keyUsed slot = (s.cacheKey slot).setSlot slot { s.keySlot slot with uses := (s.keySlot slot).uses - 1 } :=
      (if_pos counts).trans (if_neg last)
    have eq : s.keyTaken slot = (s.cacheKey slot).setSlot slot { s.keySlot slot with uses := (s.keySlot slot).uses - 1 } := by
      unfold State.keyTaken
      dsimp only
      rw [used]
      exact if_neg (by rw [keySlot_setSlot]; exact five)
    rw [eq]
    exact ⟨rfl, by rw [keySlot_setSlot], fun h => absurd (Nat.le_of_eq h) last⟩

/-- What is left of the Keeper's requests. -/
def State.keysLeft (s : State) (l : List KeeperOp) : State := s.modKeys fun k => { k with queue := l }

/-- The requests that wait say nothing of a key. -/
theorem slotKey_keysLeft (s : State) (l : List KeeperOp) (n slot : Nat) : (s.keysLeft l).slotKey n slot = s.slotKey n slot := by
  induction n generalizing slot with
  | zero => rfl
  | succ n ih =>
    unfold State.slotKey
    dsimp only
    rw [ih]
    rfl

section Complete
variable {s : State} {q : KeeperOp} {l : List KeeperOp} (waits : s.keys.queue = q :: l) (k0 : 22 ∉ s.gal.masked)
include waits k0

theorem keeperComplete_refused {st : Nat} (check : s.keeperCheck q.engine q.secure q.slot q.op = some st) :
    s.begin.keeperComplete = (s.begin.keysLeft l).keeperOut q.engine q.slot q.op st := by
  have waits : s.begin.keys.queue = q :: l := waits
  have check : (s.begin.keysLeft l).keeperCheck q.engine q.secure q.slot q.op = some st := check
  have up : ¬(!s.begin.awake 22) = true := by rw [show s.begin.awake 22 = true from State.awake_of k0]; decide
  unfold State.keeperComplete
  rw [waits]
  dsimp only
  rw [if_neg up]
  unfold State.keysLeft at check ⊢
  rw [check]

theorem keeperComplete_performed (check : s.keeperCheck q.engine q.secure q.slot q.op = none) :
    s.begin.keeperComplete = ((s.begin.keysLeft l).keyTaken q.slot).keeperOut q.engine q.slot q.op St.done := by
  have waits : s.begin.keys.queue = q :: l := waits
  have check : (s.begin.keysLeft l).keeperCheck q.engine q.secure q.slot q.op = none := check
  have up : ¬(!s.begin.awake 22) = true := by rw [show s.begin.awake 22 = true from State.awake_of k0]; decide
  unfold State.keeperComplete
  rw [waits]
  dsimp only
  rw [if_neg up]
  unfold State.keysLeft at check ⊢
  rw [check]
  rfl

theorem keeperOpComplete_refuses (st : Nat) (check : s.keeperCheck q.engine q.secure q.slot q.op = some st) :
    ∃ t, exec .keeperOpComplete s = .next t ∧ t.keys = { s.keys with queue := l } ∧
      t.out = [⟨.keeper, [(q.engine : Int), q.slot, q.op, st]⟩] := by
  exact ⟨_, congrArg (fun u => Host.Outcome.next (s.after u)) (keeperComplete_refused waits k0 check), rfl, rfl⟩

variable (check : s.keeperCheck q.engine q.secure q.slot q.op = none)
include check

theorem keeperOpComplete_keeps (free_ : (s.keySlot q.slot).fallback ≠ 1) :
    ∃ t, exec .keeperOpComplete s = .next t ∧ t.keys.queue = l ∧ t.keys.slots = s.keys.slots ∧
      t.keys.cache.head? = some (q.slot, s.workingKey q.slot) ∧ t.out = [⟨.keeper, [(q.engine : Int), q.slot, q.op, St.done]⟩] := by
  have eq := keeperComplete_performed waits k0 check
  rw [keyTaken_kept (s.begin.keysLeft l) q.slot (keeperCheck_none check).1 free_] at eq
  refine ⟨_, congrArg (fun u => Host.Outcome.next (s.after u)) eq, rfl, rfl, ?_, rfl⟩
  show some (q.slot, (s.begin.keysLeft l).workingKey q.slot) = _
  rw [State.workingKey, slotKey_keysLeft]
  rfl

theorem keeperOpComplete_counts (counts : (s.keySlot q.slot).fallback = 1) :
    ∃ t, exec .keeperOpComplete s = .next t ∧ t.keys.queue = l ∧ (t.keySlot q.slot).uses = (s.keySlot q.slot).uses - 1 ∧
      ((s.keySlot q.slot).uses = 1 → (t.keySlot q.slot).kind = 5 ∧ ∀ p ∈ t.keys.cache, p.1 ≠ q.slot) := by
  obtain ⟨five, left⟩ := keeperCheck_none check
  have eq := keeperComplete_performed waits k0 check
  have counted := keyTaken_counts (s.begin.keysLeft l) q.slot five counts (left counts)
  generalize (s.begin.keysLeft l).keyTaken q.slot = v at eq counted
  exact ⟨_, congrArg (fun u => Host.Outcome.next (s.after u)) eq, counted⟩

end Complete

theorem keeperOpComplete_waits (s : State) (h : s.keys.queue = [] ∨ 22 ∈ s.gal.masked) : s.idle .keeperOpComplete := by
  refine State.idle_of (f := State.keeperComplete) rfl ?_
  unfold State.keeperComplete
  split
  · rfl
  · next q l waits =>
    have asleep : 22 ∈ s.gal.masked := h.resolve_left fun empty => absurd (waits.symm.trans empty) (List.cons_ne_nil _ _)
    exact if_pos (by simp [State.awake, asleep])

theorem tamperLatch_latches (s : State) :
    (s.phase = .reset → ∃ t, exec .tamperLatch s = .next t ∧ t.get F.KEY_STAT_LATCH = 1 ∧ { t with regs := s.regs, out := s.out } = s) ∧
    (s.phase ≠ .reset → s.idle .tamperLatch) := by
  refine ⟨fun h => ?_, fun h => State.idle_run rfl (if_neg (show ¬decide (s.begin.phase = .reset) = true from fun e => h (of_decide_eq_true e)))⟩
  have goes : decide (s.begin.phase = .reset) = true := decide_eq_true h
  exact ⟨_, congrArg (fun u => Host.Outcome.next (s.after u)) (if_pos goes), State.get_put_self s.begin F.KEY_STAT_LATCH 1, by cases s; rfl⟩

end Sys2Proof.Machine

namespace Sys2Proof.Machine

/-! ### Self-test commands (R609, R610) -/

/-- Fusing spends entries, as many as there are, and nothing of the keys. -/
structure Fused (s t : State) : Prop where
  more : s.bst.fuseEntries ≤ t.bst.fuseEntries
  most : s.bst.fuseEntries ≤ Config.fuseCapacity → t.bst.fuseEntries ≤ Config.fuseCapacity
  keys : t.keys = s.keys

theorem Fused.refl (s : State) : Fused s s := ⟨le_refl _, id, rfl⟩

theorem Fused.trans {s t u : State} (h : Fused s t) (k : Fused t u) : Fused s u :=
  ⟨h.more.trans k.more, fun c => k.most (h.most c), k.keys.trans h.keys⟩

theorem fuseOne_fused (s : State) (f : Fld) (want : Nat) : Fused s (s.fuseOne f want).1 := by
  unfold State.fuseOne
  dsimp only
  split
  · exact .refl s
  · refine ⟨Nat.le_add_right .., fun c => ?_, rfl⟩
    show s.bst.fuseEntries + min _ (Config.fuseCapacity - s.bst.fuseEntries) ≤ _
    omega

theorem fuseList_fused (l : List (Fld × Nat)) (p : State × Bool) : Fused p.1 (l.foldl (fun (p : State × Bool) q =>
    let (s, o) := p.1.fuseOne q.1 q.2
    (s, p.2 && o)) p).1 := by
  induction l generalizing p with
  | nil => exact .refl _
  | cons q l ih => exact (fuseOne_fused p.1 q.1 q.2).trans (ih ((p.1.fuseOne q.1 q.2).1, p.2 && (p.1.fuseOne q.1 q.2).2))

theorem fuseAll_fused (s : State) : Fused s s.fuseAll.1 ∧ (s.fuseAll.2 = St.done ∨ s.fuseAll.2 = St.fuseFull) := by
  unfold State.fuseAll
  extract_lets l
  have fused := fuseList_fused l (s, true)
  generalize l.foldl _ (s, true) = r at fused ⊢
  refine ⟨fused, ?_⟩
  show (if r.2 = true then St.done else St.fuseFull) = _ ∨ (if r.2 = true then St.done else St.fuseFull) = _
  split
  · exact .inl rfl
  · exact .inr rfl

/-- A cause that persists is active. -/
theorem stopCause_active (s : State) {b : Nat} (h : b < 9) : bit ((s.stopCause b true).get F.STP_CAUSE_ACTIVE) b = true := by
  unfold State.stopCause State.stopActive
  dsimp only
  rw [declare_get _ (by decide) (by decide), if_pos rfl, State.get_put_self, show F.STP_CAUSE_ACTIVE.width = 9 from rfl, bit_mod h, bit_withBit]

section Bst
variable {s : State} {who : Requester} {confirm : Nat} (may : s.mayWrite who)
include may

theorem fuseRepair_run {u : State} {st : Nat} (h : s.begin.bstCmd 1 confirm = (u.cmdStat F.BST_CMD_STAT_CODE F.BST_CMD_STAT_STATUS 1 st, st)) :
    ∃ t, exec (.fuseRepair who confirm) s = .next t ∧ t.get F.BST_CMD_STAT_STATUS = st % 65536 ∧ t.bst = u.bst ∧ t.keys = u.keys := by
  have run : exec (.fuseRepair who confirm) s =
      .next (s.after ((u.cmdStat F.BST_CMD_STAT_CODE F.BST_CMD_STAT_STATUS 1 st).reply who st)) := by
    refine congrArg (fun u => Host.Outcome.next (s.after u)) ((State.gate_open may _).trans ?_)
    rw [h]
  rw [State.reply_eq] at run
  exact ⟨_, run, State.get_put_self (u.put F.BST_CMD_STAT_CODE 1) F.BST_CMD_STAT_STATUS st, rfl, rfl⟩

theorem scanEnable_run {u : State} {st : Nat} (h : s.begin.bstCmd 2 confirm = (u.cmdStat F.BST_CMD_STAT_CODE F.BST_CMD_STAT_STATUS 2 st, st)) :
    ∃ t, exec (.scanEnable who confirm) s = .next t ∧ t.get F.BST_CMD_STAT_STATUS = st % 65536 ∧ t.keys = u.keys ∧
      (∀ f : Fld, f.key ≠ F.BST_CMD_STAT_CODE.key → f.key ≠ F.BST_CMD_STAT_STATUS.key → t.get f = u.get f) := by
  have run : exec (.scanEnable who confirm) s =
      .next (s.after ((u.cmdStat F.BST_CMD_STAT_CODE F.BST_CMD_STAT_STATUS 2 st).reply who st)) := by
    refine congrArg (fun u => Host.Outcome.next (s.after u)) ((State.gate_open may _).trans ?_)
    rw [h]
  rw [State.reply_eq] at run
  exact ⟨_, run, State.get_put_self (u.put F.BST_CMD_STAT_CODE 2) F.BST_CMD_STAT_STATUS st, rfl,
    fun f code status => (State.get_put_ne (u.put F.BST_CMD_STAT_CODE 2) _ _ _ status).trans (u.get_put_ne _ _ _ code)⟩

theorem selfTest_unconfirmed (c : Nat) (h : c ≠ 0x5AFE) :
    (∃ t, exec (.fuseRepair who c) s = .next t ∧ t.get F.BST_CMD_STAT_STATUS = St.confirm ∧ t.bst = s.bst) ∧
    (∃ t, exec (.scanEnable who c) s = .next t ∧ t.get F.BST_CMD_STAT_STATUS = St.confirm ∧ t.keys = s.keys) := by
  have h : c ≠ confirmValue := h
  have fuse : s.begin.bstCmd 1 c = (s.begin.cmdStat F.BST_CMD_STAT_CODE F.BST_CMD_STAT_STATUS 1 St.confirm, St.confirm) := by
    unfold State.bstCmd
    dsimp only
    rw [if_neg (by decide), if_pos h]
  have scan : s.begin.bstCmd 2 c = (s.begin.cmdStat F.BST_CMD_STAT_CODE F.BST_CMD_STAT_STATUS 2 St.confirm, St.confirm) := by
    unfold State.bstCmd
    dsimp only
    rw [if_neg (by decide), if_pos h]
  obtain ⟨t, run, st, bst, -⟩ := fuseRepair_run may fuse
  obtain ⟨u, run', st', keys, -⟩ := scanEnable_run may scan
  exact ⟨⟨t, run, st, bst⟩, u, run', st', keys⟩

variable (confirmed : confirm = confirmValue)
include confirmed

theorem fuseRepair_of_life (life : s.keys.life ≠ .returned) : ∃ t, exec (.fuseRepair who confirm) s = .next t ∧
    t.get F.BST_CMD_STAT_STATUS = St.lifecycle ∧ t.bst = s.bst := by
  have eq : s.begin.bstCmd 1 confirm = (s.begin.cmdStat F.BST_CMD_STAT_CODE F.BST_CMD_STAT_STATUS 1 St.lifecycle, St.lifecycle) := by
    unfold State.bstCmd
    dsimp only
    rw [if_neg (by decide), if_neg (not_not.2 confirmed), if_pos rfl, if_pos (show s.begin.keys.life ≠ .returned from life)]
  obtain ⟨t, run, st, bst, -⟩ := fuseRepair_run may eq
  exact ⟨t, run, st, bst⟩

theorem fuseRepair_of_mode (life : s.keys.life = .returned) (mode : s.mode ≠ .stop) : ∃ t, exec (.fuseRepair who confirm) s = .next t ∧
    t.get F.BST_CMD_STAT_STATUS = St.mode ∧ t.bst = s.bst := by
  have mode : (decide (s.begin.mode ≠ .stop) || decide (s.begin.phase ≠ .running)) = true := by
    rw [decide_eq_true (show s.begin.mode ≠ .stop from mode)]
    rfl
  have eq : s.begin.bstCmd 1 confirm = (s.begin.cmdStat F.BST_CMD_STAT_CODE F.BST_CMD_STAT_STATUS 1 St.mode, St.mode) := by
    unfold State.bstCmd
    dsimp only
    rw [if_neg (by decide), if_neg (not_not.2 confirmed), if_pos rfl, if_neg (not_not.2 (show s.begin.keys.life = .returned from life)), if_pos mode]
  obtain ⟨t, run, st, bst, -⟩ := fuseRepair_run may eq
  exact ⟨t, run, st, bst⟩

theorem fuseRepair_fuses (life : s.keys.life = .returned) (mode : s.mode = .stop) (phase : s.phase = .running)
    (left : s.bst.fuseEntries ≤ Config.fuseCapacity) :
    ∃ t, exec (.fuseRepair who confirm) s = .next t ∧ s.bst.fuseEntries ≤ t.bst.fuseEntries ∧
      t.bst.fuseEntries ≤ Config.fuseCapacity ∧ t.keys = s.keys ∧
      (t.get F.BST_CMD_STAT_STATUS = St.done ∨ t.get F.BST_CMD_STAT_STATUS = St.fuseFull) := by
  have open_ : ¬(decide (s.begin.mode ≠ .stop) || decide (s.begin.phase ≠ .running)) = true := by
    rw [show s.begin.mode = .stop from mode, show s.begin.phase = .running from phase]
    decide
  have eq : s.begin.bstCmd 1 confirm = (s.begin.fuseAll.1.cmdStat F.BST_CMD_STAT_CODE F.BST_CMD_STAT_STATUS 1 s.begin.fuseAll.2,
      s.begin.fuseAll.2) := by
    unfold State.bstCmd
    dsimp only
    rw [if_neg (by decide), if_neg (not_not.2 confirmed), if_pos rfl, if_neg (not_not.2 (show s.begin.keys.life = .returned from life)), if_neg open_]
  obtain ⟨fused, done⟩ := fuseAll_fused s.begin
  obtain ⟨t, run, st, bst, keys⟩ := fuseRepair_run may eq
  refine ⟨t, run, ?_, ?_, keys.trans fused.keys, ?_⟩
  · rw [bst]; exact fused.more
  · rw [bst]; exact fused.most left
  · rw [st]
    rcases done with h | h <;> rw [h]
    · exact .inl rfl
    · exact .inr rfl

theorem scanEnable_of_life (blank : s.keys.life ≠ .blank) (ret : s.keys.life ≠ .returned) : ∃ t, exec (.scanEnable who confirm) s = .next t ∧
    t.get F.BST_CMD_STAT_STATUS = St.lifecycle ∧ t.keys = s.keys := by
  have life : (decide (s.begin.keys.life ≠ .blank) && decide (s.begin.keys.life ≠ .returned)) = true := by
    rw [decide_eq_true (show s.begin.keys.life ≠ .blank from blank), decide_eq_true (show s.begin.keys.life ≠ .returned from ret)]
    rfl
  have eq : s.begin.bstCmd 2 confirm = (s.begin.cmdStat F.BST_CMD_STAT_CODE F.BST_CMD_STAT_STATUS 2 St.lifecycle, St.lifecycle) := by
    unfold State.bstCmd
    dsimp only
    rw [if_neg (by decide), if_neg (not_not.2 confirmed), if_neg (by decide), if_pos life]
  obtain ⟨t, run, st, keys, -⟩ := scanEnable_run may eq
  exact ⟨t, run, st, keys⟩

/-- The keys that scan access leaves. -/
def State.scanOpen (s : State) : State :=
  ((s.zeroise.modKeys fun k => { k with dsec := if k.dsec = 1 then 2 else k.dsec, scan := true }).stopCause StopBit.mode true).modFrame
    fun f => { f with orderlyFlag := false }

omit may confirmed in
theorem scanOpen_parts (s : State) : s.scanOpen.keys.scan = true ∧ s.scanOpen.keys.zeroised = true ∧ s.scanOpen.keys.queue = [] ∧
    s.scanOpen.keys.cache = [] ∧ s.scanOpen.get F.STP_STAT_DECLARED ≠ 0 ∧ bit (s.scanOpen.get F.STP_CAUSE_ACTIVE) 7 = true := by
  let u := s.zeroise.modKeys fun k => { k with dsec := if k.dsec = 1 then 2 else k.dsec, scan := true }
  have keys : s.scanOpen.keys = u.keys := (within_stopCause u StopBit.mode true).keys
  have zeroised : u.keys.zeroised = true ∧ u.keys.queue = [] ∧ u.keys.cache = [] := by
    show s.zeroise.keys.zeroised = true ∧ s.zeroise.keys.queue = [] ∧ s.zeroise.keys.cache = []
    rw [State.zeroise_keys]
    exact ⟨rfl, rfl, rfl⟩
  refine ⟨by rw [keys]; rfl, keys ▸ zeroised.1, keys ▸ zeroised.2.1, keys ▸ zeroised.2.2, stopCause_declared u _ _, ?_⟩
  exact stopCause_active u (b := 7) (by decide)

theorem scanEnable_opens (life : s.keys.life = .blank ∨ s.keys.life = .returned) (mode : s.mode = .stop ∨ s.mode = .basic)
    (phase : s.phase = .running) : ∃ t, exec (.scanEnable who confirm) s = .next t ∧ t.get F.BST_CMD_STAT_STATUS = St.done ∧ t.keys.scan = true ∧
      t.keys.zeroised = true ∧ t.keys.queue = [] ∧ t.keys.cache = [] ∧ t.get F.STP_STAT_DECLARED ≠ 0 ∧
      bit (t.get F.STP_CAUSE_ACTIVE) 7 = true := by
  have life : ¬(decide (s.begin.keys.life ≠ .blank) && decide (s.begin.keys.life ≠ .returned)) = true := by
    have life : s.begin.keys.life = .blank ∨ s.begin.keys.life = .returned := life
    rcases life with h | h <;> rw [h] <;> decide
  have open_ : ¬(decide (s.begin.mode ≠ .stop) && decide (s.begin.mode ≠ .basic) || decide (s.begin.phase ≠ .running)) = true := by
    have mode : s.begin.mode = .stop ∨ s.begin.mode = .basic := mode
    rw [show s.begin.phase = .running from phase]
    rcases mode with h | h <;> rw [h] <;> decide
  have eq : s.begin.bstCmd 2 confirm = (s.begin.scanOpen.cmdStat F.BST_CMD_STAT_CODE F.BST_CMD_STAT_STATUS 2 St.done, St.done) := by
    unfold State.bstCmd
    dsimp only
    rw [if_neg (by decide), if_neg (not_not.2 confirmed), if_neg (by decide), if_neg life, if_neg open_]
    rfl
  obtain ⟨scan, zeroised, queue, cache, declared, active⟩ := scanOpen_parts s.begin
  obtain ⟨t, run, st, keys, get⟩ := scanEnable_run may eq
  exact ⟨t, run, st, keys ▸ scan, keys ▸ zeroised, keys ▸ queue, keys ▸ cache, by rw [get _ (by decide) (by decide)]; exact declared,
    by rw [get _ (by decide) (by decide)]; exact active⟩

end Bst

/-! ### Observation lands (R535, R536) -/

/-- Before a SECRET selection the working copies are cleared. -/
def State.secretCleared (s : State) (g : Nat) : State :=
  if (decide (12 ≤ g) && !s.wired.secretClean) = true then
    ((s.modWired fun x => { x with secretClean := true }).modKeys fun x => { x with cache := [], rootGone := true }).put F.KEY_STAT_ROOT 0
  else s

/-- A land selects a signal. -/
def State.obsSelected (s : State) (k w : Nat) : State :=
  (((s.secretCleared (bits w 8 5)).put (F.OBS_SEL_EN.at k) (bits w 31 31)).put (F.OBS_SEL_GROUP.at k) (bits w 8 5)).put (F.OBS_SEL_SIGNAL.at k)
    (bits w 4 0)

theorem obsWrite_eq (s : State) (k w : Nat) : s.obsWrite k w =
    if (!obsPermitted (bits w 8 5) s.keys.life) = true then (s, St.lifecycle) else (s.obsSelected k w, St.done) := rfl

theorem bits_lt (v hi lo : Nat) : bits v hi lo < 2 ^ (hi - lo + 1) := Nat.mod_lt _ (Nat.two_pow_pos _)

theorem obsSelected_get (s : State) (k w : Nat) : (s.obsSelected k w).get (F.OBS_SEL_EN.at k) = bits w 31 31 ∧
    (s.obsSelected k w).get (F.OBS_SEL_GROUP.at k) = bits w 8 5 ∧ (s.obsSelected k w).get (F.OBS_SEL_SIGNAL.at k) = bits w 4 0 := by
  unfold State.obsSelected
  have ne {f g : Fld} (hs : f.s1 = g.s1) (hk : f.key ≠ g.key) (u : State) (v : Nat) : (u.put (g.at k) v).get (f.at k) = u.get (f.at k) :=
    u.get_put_at_ne k v hs hk
  refine ⟨?_, ?_, ?_⟩
  · rw [ne (f := F.OBS_SEL_EN) (g := F.OBS_SEL_SIGNAL) rfl (by decide), ne (f := F.OBS_SEL_EN) (g := F.OBS_SEL_GROUP) rfl (by decide),
      State.get_put_self]
    exact Nat.mod_eq_of_lt (bits_lt w 31 31)
  · rw [ne (f := F.OBS_SEL_GROUP) (g := F.OBS_SEL_SIGNAL) rfl (by decide), State.get_put_self]
    exact Nat.mod_eq_of_lt (bits_lt w 8 5)
  · rw [State.get_put_self]
    exact Nat.mod_eq_of_lt (bits_lt w 4 0)

theorem obsSelected_clears (s : State) {k w : Nat} (hk : k < 8) (secret : 12 ≤ bits w 8 5) (stale : s.wired.secretClean = false) :
    (s.obsSelected k w).keys.cache = [] ∧ (s.obsSelected k w).keys.rootGone = true ∧ (s.obsSelected k w).rootNow = 0 ∧
      (s.obsSelected k w).get F.KEY_STAT_ROOT = 0 ∧ (s.obsSelected k w).wired.secretClean = true := by
  have cleared : s.secretCleared (bits w 8 5) =
      ((s.modWired fun x => { x with secretClean := true }).modKeys fun x => { x with cache := [], rootGone := true }).put F.KEY_STAT_ROOT 0 :=
    if_pos (by rw [decide_eq_true secret, stale]; rfl)
  have apart : ∀ k < 8, F.KEY_STAT_ROOT.key ≠ (F.OBS_SEL_EN.at k).key ∧ F.KEY_STAT_ROOT.key ≠ (F.OBS_SEL_GROUP.at k).key ∧
      F.KEY_STAT_ROOT.key ≠ (F.OBS_SEL_SIGNAL.at k).key := by decide
  obtain ⟨en, group, signal⟩ := apart k hk
  unfold State.obsSelected
  rw [cleared]
  refine ⟨rfl, rfl, if_pos ?_, ?_, rfl⟩
  · show (s.keys.zeroised || true) = true
    exact Bool.or_true _
  · rw [State.get_put_ne _ _ _ _ signal, State.get_put_ne _ _ _ _ group, State.get_put_ne _ _ _ _ en, State.get_put_self]
    rfl

section Obs
variable (s : State) (who : Requester) (k : Nat) (w : Word) (may : s.mayWrite who)
include may

theorem obsSelWrite_refused (h : 8 ≤ k) : ∃ t, exec (.obsSelWrite who k w) s = .next t ∧ t.out = [⟨.value, [(who.key : Int), St.badArg]⟩] ∧
    { t with out := s.out } = s := by
  have run : exec (.obsSelWrite who k w) s = .next (s.after (s.begin.reply who St.badArg)) :=
    congrArg (fun u => Host.Outcome.next (s.after u)) ((State.gate_open may _).trans (if_pos h))
  rw [State.reply_eq] at run
  exact ⟨_, run, rfl, by cases s; rfl⟩

variable (h : k < 8)
include h

theorem obsSelWrite_run {u : State} {st : Nat} (eq : s.begin.obsWrite k w.toNat = (u, st)) :
    exec (.obsSelWrite who k w) s = .next (s.after (u.reply who st)) := by
  refine congrArg (fun u => Host.Outcome.next (s.after u)) ((State.gate_open may _).trans ((if_neg (not_le.2 h)).trans ?_))
  rw [eq]

theorem obsSelWrite_of_life (life : obsPermitted (bits w.toNat 8 5) s.keys.life = false) : ∃ t, exec (.obsSelWrite who k w) s = .next t ∧
    t.out = [⟨.value, [(who.key : Int), St.lifecycle]⟩] ∧ { t with out := s.out } = s := by
  have run := obsSelWrite_run s who k w may h ((obsWrite_eq ..).trans (if_pos (by
    rw [show obsPermitted (bits w.toNat 8 5) s.begin.keys.life = false from life]; rfl)))
  rw [State.reply_eq] at run
  exact ⟨_, run, rfl, by cases s; rfl⟩

theorem obsSelWrite_selects (life : obsPermitted (bits w.toNat 8 5) s.keys.life = true) : ∃ t, exec (.obsSelWrite who k w) s = .next t ∧
    t.get (F.OBS_SEL_EN.at k) = bits w.toNat 31 31 ∧ t.get (F.OBS_SEL_GROUP.at k) = bits w.toNat 8 5 ∧
    t.get (F.OBS_SEL_SIGNAL.at k) = bits w.toNat 4 0 ∧ t.out = [⟨.value, [(who.key : Int), St.done]⟩] ∧
    (12 ≤ bits w.toNat 8 5 → s.wired.secretClean = false → t.keys.cache = [] ∧ t.keys.rootGone = true ∧ t.rootNow = 0 ∧
      t.get F.KEY_STAT_ROOT = 0 ∧ t.wired.secretClean = true) := by
  have run := obsSelWrite_run s who k w may h ((obsWrite_eq ..).trans (if_neg (by
    rw [show obsPermitted (bits w.toNat 8 5) s.begin.keys.life = true from life]; decide)))
  obtain ⟨en, group, signal⟩ := obsSelected_get s.begin k w.toNat
  have cleared := obsSelected_clears s.begin (k := k) (w := w.toNat) h
  have out : (s.begin.obsSelected k w.toNat).out = [] := by
    unfold State.obsSelected State.secretCleared
    split <;> rfl
  generalize s.begin.obsSelected k w.toNat = u at run en group signal cleared out
  rw [State.reply_eq] at run
  refine ⟨_, run, en, group, signal, ?_, cleared⟩
  show u.out ++ _ = _
  rw [out]
  rfl

end Obs

/-- Settles O54: the checks of R586 in their order, and the commands that use them or stand beside them. -/
theorem theKeeperServesWhatItMay : Obligations.TheKeeperServesWhatItMay := by
  unfold Obligations.TheKeeperServesWhatItMay
  exact ⟨keeperRequest_served, keeperRequest_asleep,
    fun s e slot op sec k hk => ⟨keeperCheck_empty hk, keeperCheck_life hk, fun kind life root own => ⟨keeperCheck_access hk kind life root own,
      fun world master use_ => keeperCheck_exhausted hk kind life root own world use_ master,
      fun world master use_ => keeperCheck_passes hk kind life root own world use_ master⟩⟩,
    fun s q l waits k0 => ⟨keeperOpComplete_refuses waits k0, keeperOpComplete_keeps waits k0, keeperOpComplete_counts waits k0⟩,
    keeperOpComplete_waits, tamperLatch_latches,
    fun s who may => ⟨selfTest_unconfirmed may, fuseRepair_of_life may rfl, fuseRepair_of_mode may rfl, fuseRepair_fuses may rfl,
      scanEnable_of_life may rfl, scanEnable_opens may rfl⟩,
    fun s who k w may => ⟨obsSelWrite_refused s who k w may, obsSelWrite_of_life s who k w may, obsSelWrite_selects s who k w may⟩⟩

end Sys2Proof.Machine

/-! ### KEY_CMD (O53) -/
namespace Sys2Proof.Machine

/-! ### What a KEY_CMD answers -/

/-- What a KEY_CMD does, before KEY_IN is cleared and the answer shown. -/
def State.keyAct (s : State) (code confirm : Nat) : State × Nat :=
  if (decide (code = 0) || (decide (4 < code) && decide (code < 0x10)) || decide (0x14 < code)) = true then (s, St.badArg)
  else if (decide (0x10 ≤ code) && decide (code ≤ 0x13) && s.slotReserved (s.get F.KEY_ARG_SLOT) code) = true then (s, St.access)
  else if (!(!(decide (code ≤ 4) || decide (code = 0x13)) || decide (confirm = confirmValue))) = true then (s, St.confirm)
  else if code ≤ 4 then s.lifeCmd code
  else if s.rootNow = 0 then (s, St.lifecycle)
  else if code = 0x10 then s.keyInstall (s.get F.KEY_ARG_SLOT)
  else if code = 0x11 then s.keyGenerate (s.get F.KEY_ARG_SLOT)
  else if code = 0x12 then s.keyDerive (s.get F.KEY_ARG_SLOT)
  else if code = 0x13 then s.keyErase (s.get F.KEY_ARG_SLOT)
  else s.identityCsr

theorem keyCmd_eq (s : State) (code confirm : Nat) : s.keyCmd code confirm =
    ((s.keyAct code confirm).1.clearKeyIn.cmdStat F.KEY_CMD_STAT_CODE F.KEY_CMD_STAT_STATUS code (s.keyAct code confirm).2,
      (s.keyAct code confirm).2) := rfl

theorem slotReserved_eq (s : State) (slot code : Nat) : s.slotReserved slot code =
    (decide (slot = 0) || decide (slot = 1) || decide (slot = 3) || decide (slot = 4) ||
      (decide (slot = 2) && !(decide (code = 0x10) && !s.keys.installed2))) := rfl

section Act
variable {s : State} {code confirm : Nat}

theorem keyAct_reserved (named : 0x10 ≤ code ∧ code ≤ 0x13) (h : s.slotReserved (s.get F.KEY_ARG_SLOT) code = true) :
    s.keyAct code confirm = (s, St.access) := by
  unfold State.keyAct
  rw [if_neg (by simp; omega), if_pos (by simp [named, h])]

theorem keyAct_unconfirmed (named : (1 ≤ code ∧ code ≤ 4) ∨ (code = 0x13 ∧ s.slotReserved (s.get F.KEY_ARG_SLOT) code = false))
    (h : confirm ≠ confirmValue) : s.keyAct code confirm = (s, St.confirm) := by
  unfold State.keyAct
  rw [if_neg (by simp; omega), if_neg, if_pos]
  · rcases named with n | ⟨n, -⟩ <;> simp [n, h]
  · rcases named with n | ⟨n, r⟩
    · simp; omega
    · simp [r]

theorem keyAct_life (named : 1 ≤ code ∧ code ≤ 4) (h : confirm = confirmValue) : s.keyAct code confirm = s.lifeCmd code := by
  unfold State.keyAct
  rw [if_neg (by simp; omega), if_neg (by simp; omega), if_neg (by simp [h]), if_pos named.2]

/-- A command of the Strongroom passes the checks of all. -/
theorem keyAct_open (named : 0x10 ≤ code ∧ code ≤ 0x14) (free_ : code = 0x14 ∨ s.slotReserved (s.get F.KEY_ARG_SLOT) code = false)
    (h : code ≠ 0x13 ∨ confirm = confirmValue) : s.keyAct code confirm =
    if s.rootNow = 0 then (s, St.lifecycle)
    else if code = 0x10 then s.keyInstall (s.get F.KEY_ARG_SLOT)
    else if code = 0x11 then s.keyGenerate (s.get F.KEY_ARG_SLOT)
    else if code = 0x12 then s.keyDerive (s.get F.KEY_ARG_SLOT)
    else if code = 0x13 then s.keyErase (s.get F.KEY_ARG_SLOT)
    else s.identityCsr := by
  unfold State.keyAct
  rw [if_neg (by simp; omega), if_neg, if_neg, if_neg (by omega)]
  · by_cases e : code = 0x13
    · simp [h.resolve_left (not_not.2 e)]
    · have : ¬code ≤ 4 := by omega
      simp [e, this]
  · rcases free_ with f | f
    · simp [f]
    · simp [f]

end Act

theorem slotReserved_fixed (s : State) {slot : Nat} (code : Nat) (h : slot = 0 ∨ slot = 1 ∨ slot = 3 ∨ slot = 4) :
    s.slotReserved slot code = true := by
  rw [slotReserved_eq]
  rcases h with rfl | rfl | rfl | rfl <;> rfl

theorem slotReserved_above (s : State) {slot : Nat} (code : Nat) (h : 4 < slot) : s.slotReserved slot code = false := by
  rw [slotReserved_eq]
  simp
  omega

theorem slotReserved_two (s : State) (code : Nat) : s.slotReserved 2 code = !(decide (code = 0x10) && !s.keys.installed2) := rfl

section Run
variable {s : State} {who : Requester} {code confirm : Nat} {i : Instr} (role : 2 ≤ s.roleOf who) (may : s.mayWrite who)
  (hi : exec i s = s.act fun s => s.keyCommand who code confirm)
include role may hi

/-- A KEY_CMD shows its answer, and KEY_IN is cleared (R611). -/
theorem keyCommand_run {u : State} {st : Nat} (h : s.begin.keyAct code confirm = (u, st)) (small : st < 65536) :
    ∃ t, exec i s = .next t ∧ t.get F.KEY_CMD_STAT_STATUS = st ∧ t.keys = { u.keys with inp := [], label := [] } ∧ t.free = u.free := by
  have run : exec i s = .next (s.after ((u.clearKeyIn.cmdStat F.KEY_CMD_STAT_CODE F.KEY_CMD_STAT_STATUS code st).reply who st)) := by
    refine hi.trans (congrArg (fun u => Host.Outcome.next (s.after u)) ((State.gate_pass role may.2 _).trans ?_))
    rw [keyCmd_eq, h]
  rw [State.reply_eq] at run
  refine ⟨_, run, ?_, rfl, rfl⟩
  refine (State.get_put_self (u.clearKeyIn.put F.KEY_CMD_STAT_CODE code) F.KEY_CMD_STAT_STATUS st).trans ?_
  exact Nat.mod_eq_of_lt small

/-- A KEY_CMD that is refused leaves the keys. -/
theorem keyCommand_refused {st : Nat} (h : s.begin.keyAct code confirm = (s.begin, st)) (small : st < 65536) :
    ∃ t, exec i s = .next t ∧ t.get F.KEY_CMD_STAT_STATUS = st ∧ t.keys = { s.keys with inp := [], label := [] } := by
  obtain ⟨t, run, status, keys, -⟩ := keyCommand_run role may hi h small
  exact ⟨t, run, status, keys⟩

end Run

/-- A KEY_CMD wants ENGINEERING. -/
theorem keyCommand_of_role {s : State} {who : Requester} {code confirm : Nat} {i : Instr} (role : s.roleOf who < 2)
    (hi : exec i s = s.act fun s => s.keyCommand who code confirm) :
    ∃ t, exec i s = .next t ∧ t.out = [⟨.value, [(who.key : Int), St.access]⟩] ∧ { t with out := s.out } = s := by
  have run := hi.trans (congrArg (fun u => Host.Outcome.next (s.after u)) (State.gate_refuses role _))
  rw [State.reply_eq] at run
  exact ⟨_, run, rfl, by cases s; rfl⟩

theorem keyCommands_of_role (s : State) (who : Requester) (c : Nat) (i : Instr) (role : s.roleOf who < 2)
    (hi : i ∈ [.provision who c, .deploy who c, .keyReturn who c, .scrap who c, .keyInstall who c, .keyGenerate who c, .keyDerive who c,
      .keyErase who c, .identityCsr who c]) :
    ∃ t, exec i s = .next t ∧ t.out = [⟨.value, [(who.key : Int), St.access]⟩] ∧ { t with out := s.out } = s := by
  fin_cases hi
  all_goals exact keyCommand_of_role role rfl

theorem keyCommands_unconfirmed (s : State) (who : Requester) (c : Nat) (i : Instr) (role : 2 ≤ s.roleOf who) (may : s.mayWrite who)
    (hc : c ≠ 0x5AFE) (hi : i ∈ [.provision who c, .deploy who c, .keyReturn who c, .scrap who c] ∨
      (i = .keyErase who c ∧ 4 < s.get F.KEY_ARG_SLOT)) :
    ∃ t, exec i s = .next t ∧ t.get F.KEY_CMD_STAT_STATUS = St.confirm ∧ t.keys.slots = s.keys.slots ∧ t.keys.fuse = s.keys.fuse ∧
      t.keys.inp = [] := by
  have refused (code : Nat) (named : (1 ≤ code ∧ code ≤ 4) ∨ (code = 0x13 ∧ s.begin.slotReserved (s.begin.get F.KEY_ARG_SLOT) code = false))
      (hi : exec i s = s.act fun s => s.keyCommand who code c) : ∃ t, exec i s = .next t ∧ t.get F.KEY_CMD_STAT_STATUS = St.confirm ∧
      t.keys.slots = s.keys.slots ∧ t.keys.fuse = s.keys.fuse ∧ t.keys.inp = [] := by
    obtain ⟨t, run, status, keys⟩ := keyCommand_refused role may hi (keyAct_unconfirmed named hc) (by decide)
    exact ⟨t, run, status, by rw [keys], by rw [keys], by rw [keys]⟩
  rcases hi with hi | ⟨rfl, above⟩
  · simp only [List.mem_cons, List.not_mem_nil, or_false] at hi
    rcases hi with rfl | rfl | rfl | rfl
    · exact refused 1 (.inl (by decide)) rfl
    · exact refused 2 (.inl (by decide)) rfl
    · exact refused 3 (.inl (by decide)) rfl
    · exact refused 4 (.inl (by decide)) rfl
  · exact refused 0x13 (.inr ⟨rfl, slotReserved_above s.begin _ above⟩) rfl

/-! ### The life-cycle commands (Table 14.1, R578) -/

/-- A refusal of a life-cycle command is a status of 16 bits. -/
def SmallStatus (x : Life ⊕ Nat) : Prop := ∀ st, x = .inr st → st < 65536

theorem smallStatus_ite {c : Prop} [Decidable c] {x y : Life ⊕ Nat} (hx : SmallStatus x) (hy : SmallStatus y) : SmallStatus (if c then x else y) := by
  split
  · exact hx
  · exact hy

theorem smallStatus_inr {n : Nat} (h : n < 65536) : SmallStatus (.inr n) := fun _ e => Sum.inr.inj e ▸ h

theorem smallStatus_inl (l : Life) : SmallStatus (.inl l) := fun _ e => nomatch e

theorem lifeTarget_small (s : State) (code : Nat) : SmallStatus (s.lifeTarget code) := by
  have refused {n : Nat} {y : Life ⊕ Nat} {c : Prop} [Decidable c] (h : n < 65536) (hy : SmallStatus y) : SmallStatus (if c then .inr n else y) :=
    smallStatus_ite (smallStatus_inr h) hy
  refine smallStatus_ite ?_ (smallStatus_ite ?_ (smallStatus_ite ?_ ?_))
  · exact refused (by decide) (refused (by decide) (refused (by decide) (refused (by decide) (smallStatus_inl _))))
  · exact refused (by decide) (refused (by decide) (smallStatus_inl _))
  · exact refused (by decide) (refused (by decide) (refused (by decide) (smallStatus_inl _)))
  · exact refused (by decide) (refused (by decide) (smallStatus_inl _))

/-- Fuse programming towards a life-cycle state begins. -/
def State.fuseBegun (s : State) (code : Nat) (l : Life) : State :=
  (if code = 1 then { s with free := s.free + 8 } else s).modKeys fun k => { k with
    fuse := some l
    fuseBy := .command F.KEY_CMD_STAT_STATUS.addr
    newRow := if code = 1 then
        some { entropy := (wordsOctets s.keys.inp 64).take 32, random := s.free, pkg := ((wordsOctets s.keys.inp 64).drop 32).take 96,
               recovery := ((wordsOctets s.keys.inp 64).drop 128).take 96 }
      else none }

section Life
variable {s : State} {code : Nat} (phase : s.phase = .running)
include phase

theorem lifeCmd_refused {st : Nat} (h : s.lifeTarget code = .inr st) : s.lifeCmd code = (s, st) := by
  unfold State.lifeCmd
  rw [if_neg (not_not.2 phase), h]

theorem lifeCmd_busy {l : Life} (h : s.lifeTarget code = .inl l) (fuse : s.keys.fuse ≠ none) : s.lifeCmd code = (s, St.busy) := by
  unfold State.lifeCmd
  rw [if_neg (not_not.2 phase), h]
  exact if_pos (Option.isSome_iff_ne_none.2 fuse)

theorem lifeCmd_begins {l : Life} (h : s.lifeTarget code = .inl l) (fuse : s.keys.fuse = none) :
    s.lifeCmd code = (s.fuseBegun code l, St.pending) := by
  unfold State.lifeCmd
  rw [if_neg (not_not.2 phase), h]
  exact if_neg (by rw [fuse]; decide)

end Life

theorem fuseBegun_keys (s : State) (code : Nat) (l : Life) : (s.fuseBegun code l).keys.fuse = some l ∧
    (s.fuseBegun code l).keys.life = s.keys.life ∧ ((s.fuseBegun code l).keys.newRow.isSome = true ↔ code = 1) := by
  unfold State.fuseBegun
  by_cases h : code = 1
  · rw [if_pos h, if_pos h]
    exact ⟨rfl, rfl, fun _ => h, fun _ => rfl⟩
  · rw [if_neg h, if_neg h]
    exact ⟨rfl, rfl, fun k => absurd k Bool.false_ne_true, fun k => absurd k h⟩

section LifeRun
variable {s : State} {who : Requester} {n confirm : Nat} {i : Instr} (role : 2 ≤ s.roleOf who) (may : s.mayWrite who) (phase : s.phase = .running)
  (named : 1 ≤ n ∧ n ≤ 4) (confirmed : confirm = confirmValue) (hi : exec i s = s.act fun s => s.keyCommand who n confirm)
include role may phase named confirmed hi

theorem lifeCommand_run : (∀ st, s.lifeTarget n = .inr st → ∃ t, exec i s = .next t ∧ t.get F.KEY_CMD_STAT_STATUS = st % 65536 ∧
      t.keys.fuse = s.keys.fuse ∧ t.keys.life = s.keys.life) ∧
    (∀ l, s.lifeTarget n = .inl l → s.keys.fuse ≠ none → ∃ t, exec i s = .next t ∧ t.get F.KEY_CMD_STAT_STATUS = St.busy ∧
      t.keys.fuse = s.keys.fuse) ∧
    (∀ l, s.lifeTarget n = .inl l → s.keys.fuse = none → ∃ t, exec i s = .next t ∧ t.get F.KEY_CMD_STAT_STATUS = St.pending ∧
      t.keys.fuse = some l ∧ t.keys.life = s.keys.life ∧ (t.keys.newRow.isSome = true ↔ n = 1)) := by
  have act := keyAct_life (s := s.begin) named confirmed
  refine ⟨fun st h => ?_, fun l h fuse => ?_, fun l h fuse => ?_⟩
  · have small := lifeTarget_small s n st h
    obtain ⟨t, run, status, keys⟩ := keyCommand_refused role may hi (act.trans (lifeCmd_refused (s := s.begin) phase h)) small
    exact ⟨t, run, status.trans (Nat.mod_eq_of_lt small).symm, by rw [keys], by rw [keys]⟩
  · obtain ⟨t, run, status, keys⟩ := keyCommand_refused role may hi (act.trans (lifeCmd_busy (s := s.begin) phase h fuse)) (by decide)
    exact ⟨t, run, status, by rw [keys]⟩
  · obtain ⟨t, run, status, keys, -⟩ := keyCommand_run role may hi (act.trans (lifeCmd_begins (s := s.begin) phase h fuse)) (by decide)
    obtain ⟨set_, life, row⟩ := fuseBegun_keys s.begin n l
    exact ⟨t, run, status, by rw [keys]; exact set_, by rw [keys]; exact life, by rw [keys]; exact row⟩

end LifeRun

theorem lifeCommands_run (s : State) (who : Requester) (n confirm : Nat) (i : Instr) (role : 2 ≤ s.roleOf who) (may : s.mayWrite who)
    (phase : s.phase = .running) (confirmed : confirm = confirmValue)
    (hi : (n, i) ∈ [(1, .provision who confirm), (2, .deploy who confirm), (3, .keyReturn who confirm), (4, Instr.scrap who confirm)]) :
    (∀ st, s.lifeTarget n = .inr st → ∃ t, exec i s = .next t ∧ t.get F.KEY_CMD_STAT_STATUS = st % 65536 ∧
      t.keys.fuse = s.keys.fuse ∧ t.keys.life = s.keys.life) ∧
    (∀ l, s.lifeTarget n = .inl l → s.keys.fuse ≠ none → ∃ t, exec i s = .next t ∧ t.get F.KEY_CMD_STAT_STATUS = St.busy ∧
      t.keys.fuse = s.keys.fuse) ∧
    (∀ l, s.lifeTarget n = .inl l → s.keys.fuse = none → ∃ t, exec i s = .next t ∧ t.get F.KEY_CMD_STAT_STATUS = St.pending ∧
      t.keys.fuse = some l ∧ t.keys.life = s.keys.life ∧ (t.keys.newRow.isSome = true ↔ n = 1)) := by
  simp only [List.mem_cons, Prod.mk.injEq, List.not_mem_nil, or_false] at hi
  rcases hi with ⟨rfl, rfl⟩ | ⟨rfl, rfl⟩ | ⟨rfl, rfl⟩ | ⟨rfl, rfl⟩
  all_goals exact lifeCommand_run role may phase (by decide) confirmed rfl

/-! ### The states that a life-cycle command reaches -/

theorem lifeTarget_provision (s : State) : s.lifeTarget 1 = .inl .provisioned ↔ (s.keys.life = .blank ∨ s.keys.life = .returned) ∧
    s.mode = .stop ∧ s.role = .solo ∧ s.keys.killed = false ∧ s.keys.rows.length < 3 := by
  have eq : s.lifeTarget 1 = if (decide (s.keys.life ≠ .blank) && decide (s.keys.life ≠ .returned)) = true then .inr St.lifecycle
      else if (!decide (s.mode = .stop) || !decide (s.role = .solo)) = true then .inr St.mode
      else if s.keys.killed = true then .inr St.killed
      else if 3 ≤ s.keys.rows.length then .inr St.noProvisionRow
      else .inl .provisioned := rfl
  rw [eq]
  split_ifs with life mode killed rows
  all_goals clear eq; simp_all
  · intro _ stop solo
    exact absurd solo (mode.resolve_left (not_not.2 stop))
  · exact Decidable.or_iff_not_imp_left.2 life

theorem lifeTarget_deploy (s : State) : s.lifeTarget 2 = .inl .deployed ↔ s.keys.life = .provisioned ∧ s.mode = .stop := by
  have eq : s.lifeTarget 2 = if s.keys.life ≠ .provisioned then .inr St.lifecycle
      else if (!decide (s.mode = .stop)) = true then .inr St.mode else .inl .deployed := rfl
  rw [eq]
  split_ifs with life mode
  all_goals simp_all

theorem lifeTarget_unowned (s : State) (h : s.keys.life = .blank ∨ s.keys.life = .returned) :
    s.lifeTarget 2 = .inr St.lifecycle ∧ s.lifeTarget 3 = .inr St.lifecycle ∧
      (s.mode = .stop ∨ s.mode = .basic → s.lifeTarget 4 = .inl .scrapped) := by
  refine ⟨?_, ?_, fun mode => ?_⟩
  · unfold State.lifeTarget
    rcases h with h | h <;> rw [h] <;> rfl
  · unfold State.lifeTarget
    rcases h with h | h <;> rw [h] <;> rfl
  · unfold State.lifeTarget
    rcases h with h | h <;> rcases mode with m | m <;> rw [h, m] <;> rfl

theorem lifeTarget_owned (s : State) (h : s.keys.life = .provisioned ∨ s.keys.life = .deployed) :
    s.lifeTarget 1 = .inr St.lifecycle ∧ s.lifeTarget 4 = .inr St.lifecycle ∧
      (s.mode = .stop → s.role = .solo → s.keys.killed = false → s.lifeTarget 3 = .inl .returned) := by
  refine ⟨?_, ?_, fun mode role killed => ?_⟩
  · unfold State.lifeTarget
    rcases h with h | h <;> rw [h] <;> rfl
  · unfold State.lifeTarget
    rcases h with h | h <;> rw [h] <;> rfl
  · unfold State.lifeTarget
    rcases h with h | h <;> rw [h, mode, role, killed] <;> rfl

end Sys2Proof.Machine

namespace Sys2Proof.Machine

/-! ### The keys of the Strongroom (R589) -/

theorem within_configAll (s : State) : Within roverParts s s.configAll := by
  refine Within.foldl (Within.refl _ _) fun t r _ => ?_
  unfold State.sendConfig
  simp (disch := decide)

/-- A stop key that is set anew leaves the keys. -/
theorem slotSet_keeps (s : State) (slot : Nat) : (s.slotSet slot).keys = s.keys ∧ (s.slotSet slot).free = s.free := by
  unfold State.slotSet State.stopKeyNew
  split
  · have w := within_configAll (s.modStp fun x => { x with newKey := some slot, newKeyAt := s.mono })
    exact ⟨w.keys, w.free⟩
  · exact ⟨rfl, rfl⟩

section Act
variable {s : State} {slot : Nat}

theorem keyInstall_occupied (h : (s.keySlot slot).kind ≠ 0) : s.keyInstall slot = (s, St.slotOccupied) := if_pos h

/-- The network master as INSTALL gives it. -/
def State.newMaster (s : State) : KeySlot :=
  { kind := 1, paircore := true, world := 1, life := 31, use_ := 2 ^ KeyOp.derive, size := 0,
    mat := .octets ((wordsOctets s.keys.inp 4).take 16), root := s.rootNow }

/-- INSTALL puts it into slot 2. -/
def State.masterInstalled (s : State) : State := (s.setSlot 2 s.newMaster).modKeys fun k => { k with installed2 := true }

theorem masterInstalled_slot (s : State) : s.masterInstalled.keySlot 2 = s.newMaster := keySlot_setSlot s 2 s.newMaster

theorem keyInstall_master (h : (s.keySlot 2).kind = 0) : s.keyInstall 2 = (s.masterInstalled, St.done) :=
  (if_neg (not_not.2 h)).trans (if_pos rfl)

theorem keyInstall_done {k : KeySlot} (h : (s.keySlot slot).kind = 0) (two : slot ≠ 2) (new : s.newSlot true = some k) :
    s.keyInstall slot = ((s.setSlot slot { k with
      kind := if k.size = 3 then 4 else 1, mat := .octets ((wordsOctets s.keys.inp 64).take (keySize k.size)) }).slotSet slot, St.done) := by
  unfold State.keyInstall
  rw [if_neg (not_not.2 h), if_neg two, new]

theorem keyGenerate_occupied (h : (s.keySlot slot).kind ≠ 0) : s.keyGenerate slot = (s, St.slotOccupied) := if_pos h

theorem keyGenerate_badArg (h : (s.keySlot slot).kind = 0) (new : s.newSlot false = none) : s.keyGenerate slot = (s, St.badArg) := by
  unfold State.keyGenerate
  rw [if_neg (not_not.2 h), new]

theorem keyGenerate_done {k : KeySlot} (h : (s.keySlot slot).kind = 0) (new : s.newSlot false = some k) : s.keyGenerate slot =
    (({ s.setSlot slot { k with kind := 2, mat := .random s.free } with free := s.free + 12 } : State).slotSet slot, St.done) := by
  unfold State.keyGenerate
  rw [if_neg (not_not.2 h), new]

/-- What R586 says of the parent of a DERIVE: nothing where it is the root. -/
def State.parentCheck (s : State) : Option Nat :=
  if s.flag F.KEY_ARG_FROM_ROOT then none else s.keeperCheck 0 true (s.get F.KEY_ARG_PARENT) KeyOp.derive

theorem parentCheck_root (h : s.get F.KEY_ARG_FROM_ROOT ≠ 0) : s.parentCheck = none := if_pos (State.flag_on h)

theorem parentCheck_slot (h : s.get F.KEY_ARG_FROM_ROOT = 0) :
    s.parentCheck = s.keeperCheck 0 true (s.get F.KEY_ARG_PARENT) KeyOp.derive := if_neg (by rw [State.flag_off h]; decide)

theorem keyDerive_first {st : Nat} (h : s.parentCheck = some st) (first : st = St.access ∨ st = St.lifecycle) :
    s.keyDerive slot = (s, st) := by
  have h : (if s.flag F.KEY_ARG_FROM_ROOT then none else s.keeperCheck 0 true (s.get F.KEY_ARG_PARENT) KeyOp.derive) = some st := h
  unfold State.keyDerive
  dsimp only
  rw [h]
  rcases first with rfl | rfl <;> rfl

section Later
variable (later : s.parentCheck ≠ some St.access ∧ s.parentCheck ≠ some St.lifecycle)
include later

theorem parentCheck_later : ¬(decide (s.parentCheck = some St.access) || decide (s.parentCheck = some St.lifecycle)) = true := by
  rw [decide_eq_false later.1, decide_eq_false later.2]
  decide

theorem keyDerive_occupied (h : (s.keySlot slot).kind ≠ 0) : s.keyDerive slot = (s, St.slotOccupied) :=
  (if_neg (parentCheck_later later)).trans (if_pos h)

variable {k : KeySlot} (h : (s.keySlot slot).kind = 0) (new : s.newSlot false = some k)
include h new

theorem keyDerive_parent {st : Nat} (check : s.parentCheck = some st) : s.keyDerive slot = (s, st) := by
  have check' : (if s.flag F.KEY_ARG_FROM_ROOT then none else s.keeperCheck 0 true (s.get F.KEY_ARG_PARENT) KeyOp.derive) = some st := check
  refine (if_neg (parentCheck_later later)).trans ((if_neg (not_not.2 h)).trans ?_)
  dsimp only
  rw [new, check']

omit later in
/-- A DERIVE whose parent serves. -/
theorem keyDerive_served (check : s.parentCheck = none) : s.keyDerive slot =
    if 8 < (if s.flag F.KEY_ARG_FROM_ROOT then 1 else (s.keySlot (s.get F.KEY_ARG_PARENT)).depth + 1) then (s, St.depthExceeded)
    else ((((if s.flag F.KEY_ARG_FROM_ROOT then s else s.keyUsed (s.get F.KEY_ARG_PARENT)).setSlot slot { k with
      kind := 3
      depth := if s.flag F.KEY_ARG_FROM_ROOT then 1 else (s.keySlot (s.get F.KEY_ARG_PARENT)).depth + 1
      rooted := s.flag F.KEY_ARG_FROM_ROOT
      parent := if s.flag F.KEY_ARG_FROM_ROOT then 0 else s.get F.KEY_ARG_PARENT
      mat := .derived (wordsOctets (if s.flag F.KEY_ARG_FROM_ROOT then s else s.keyUsed (s.get F.KEY_ARG_PARENT)).keys.label 8) }).slotSet slot),
      St.done) := by
  have later : s.parentCheck ≠ some St.access ∧ s.parentCheck ≠ some St.lifecycle := by rw [check]; exact ⟨nofun, nofun⟩
  have check' : (if s.flag F.KEY_ARG_FROM_ROOT then none else s.keeperCheck 0 true (s.get F.KEY_ARG_PARENT) KeyOp.derive) = none := check
  refine (if_neg (parentCheck_later later)).trans ((if_neg (not_not.2 h)).trans ?_)
  dsimp only
  rw [new, check']

end Later

theorem keyUsed_label (s : State) (slot : Nat) : (s.keyUsed slot).keys.label = s.keys.label := by
  unfold State.keyUsed
  dsimp only
  split
  · split <;> rfl
  · rfl

theorem keyErase_inUse (h : ∃ p ∈ s.keys.slots, p.2.kind = 3 ∧ p.2.rooted = false ∧ p.2.parent = slot) :
    s.keyErase slot = (s, St.parentInUse) := by
  obtain ⟨p, hp, kind, rooted, parent⟩ := h
  exact if_pos (List.any_eq_true.2 ⟨p, hp, by simp [kind, rooted, parent]⟩)

theorem keyErase_done (h : ∀ p ∈ s.keys.slots, p.2.kind = 3 → p.2.rooted = true ∨ p.2.parent ≠ slot) :
    s.keyErase slot = ((s.setSlot slot {}).uncache slot, St.done) := by
  refine if_neg fun any => ?_
  obtain ⟨p, hp, use_⟩ := List.any_eq_true.1 any
  simp only [Bool.and_eq_true, decide_eq_true_eq, Bool.not_eq_true'] at use_
  rcases h p hp use_.1.1 with g | g
  · exact absurd (g.symm.trans use_.1.2) (by decide)
  · exact g use_.2

theorem identityCsr_done (h : (s.keySlot 0).kind ≠ 0) : ∃ u, s.identityCsr = (u, St.done) ∧ u.keys.out.length = 192 ∧ u.keys.slots = s.keys.slots := by
  refine ⟨_, if_neg h, ?_, rfl⟩
  show (List.map _ (List.range 96) ++ List.map _ (List.range 96)).length = 192
  rw [List.length_append, List.length_map, List.length_map, List.length_range]

end Act

/-! ### The commands of the Strongroom -/

section Slots
variable {s : State} {who : Requester} {slot : Nat} (role : 2 ≤ s.roleOf who) (may : s.mayWrite who) (named : slot = s.get F.KEY_ARG_SLOT)
include role may named

/-- A command that names a slot it may not. -/
theorem keyCommand_reserved {code confirm : Nat} {i : Instr} (hi : exec i s = s.act fun s => s.keyCommand who code confirm)
    (codes : 0x10 ≤ code ∧ code ≤ 0x13) (h : s.slotReserved slot code = true) :
    ∃ t, exec i s = .next t ∧ t.get F.KEY_CMD_STAT_STATUS = St.access ∧ t.keys.slots = s.keys.slots := by
  subst named
  obtain ⟨t, run, status, keys⟩ := keyCommand_refused role may hi (keyAct_reserved (s := s.begin) codes h) (by decide)
  exact ⟨t, run, status, by rw [keys]⟩

/-- A command without a root. -/
theorem keyCommand_rootless {code confirm : Nat} {i : Instr} (hi : exec i s = s.act fun s => s.keyCommand who code confirm)
    (codes : 0x10 ≤ code ∧ code ≤ 0x14) (free_ : code = 0x14 ∨ s.slotReserved slot code = false) (confirmed : code ≠ 0x13 ∨ confirm = confirmValue)
    (root : s.rootNow = 0) :
    ∃ t, exec i s = .next t ∧ t.get F.KEY_CMD_STAT_STATUS = St.lifecycle ∧ t.keys.slots = s.keys.slots := by
  subst named
  obtain ⟨t, run, status, keys⟩ := keyCommand_refused role may hi
    ((keyAct_open (s := s.begin) codes free_ confirmed).trans (if_pos root)) (by decide)
  exact ⟨t, run, status, by rw [keys]⟩

theorem keyCommands_reserved (c : Nat) (h : slot = 0 ∨ slot = 1 ∨ slot = 3 ∨ slot = 4) :
    (∃ t, exec (.keyInstall who c) s = .next t ∧ t.get F.KEY_CMD_STAT_STATUS = St.access ∧ t.keys.slots = s.keys.slots) ∧
    (∃ t, exec (.keyGenerate who c) s = .next t ∧ t.get F.KEY_CMD_STAT_STATUS = St.access ∧ t.keys.slots = s.keys.slots) ∧
    (∃ t, exec (.keyDerive who c) s = .next t ∧ t.get F.KEY_CMD_STAT_STATUS = St.access ∧ t.keys.slots = s.keys.slots) ∧
    (∃ t, exec (.keyErase who c) s = .next t ∧ t.get F.KEY_CMD_STAT_STATUS = St.access ∧ t.keys.slots = s.keys.slots) :=
  ⟨keyCommand_reserved role may named rfl (by decide) (slotReserved_fixed s _ h),
    keyCommand_reserved role may named rfl (by decide) (slotReserved_fixed s _ h),
    keyCommand_reserved role may named rfl (by decide) (slotReserved_fixed s _ h),
    keyCommand_reserved role may named rfl (by decide) (slotReserved_fixed s _ h)⟩

theorem keyInstall_rootless (c : Nat) (root : s.rootNow = 0) (h : slot = 2 ∧ s.keys.installed2 = false ∨ 4 < slot) :
    ∃ t, exec (.keyInstall who c) s = .next t ∧ t.get F.KEY_CMD_STAT_STATUS = St.lifecycle ∧ t.keys.slots = s.keys.slots := by
  refine keyCommand_rootless (code := 0x10) (confirm := c) role may named rfl (by decide) (.inr ?_) (.inl (by decide)) root
  rcases h with ⟨rfl, first⟩ | above
  · rw [slotReserved_two, first]
    rfl
  · exact slotReserved_above s _ above

theorem keyCommands_rootless (c confirm : Nat) (confirmed : confirm = confirmValue) (root : s.rootNow = 0) (above : 4 < slot) :
    ∀ i ∈ [Instr.keyGenerate who c, .keyDerive who c, .keyErase who confirm, .identityCsr who c], ∃ t, exec i s = .next t ∧
      t.get F.KEY_CMD_STAT_STATUS = St.lifecycle ∧ t.keys.slots = s.keys.slots := by
  intro i hi
  simp only [List.mem_cons, List.not_mem_nil, or_false] at hi
  rcases hi with rfl | rfl | rfl | rfl
  · exact keyCommand_rootless role may named rfl (by decide) (.inr (slotReserved_above s 0x11 above)) (.inl (by decide)) root
  · exact keyCommand_rootless role may named rfl (by decide) (.inr (slotReserved_above s 0x12 above)) (.inl (by decide)) root
  · exact keyCommand_rootless role may named rfl (by decide) (.inr (slotReserved_above s 0x13 above)) (.inr confirmed) root
  · exact keyCommand_rootless (code := 0x14) role may named rfl (by decide) (.inl rfl) (.inl (by decide)) root

end Slots

section Rooted
variable {s : State} {who : Requester} {slot : Nat} (role : 2 ≤ s.roleOf who) (may : s.mayWrite who) (named : slot = s.get F.KEY_ARG_SLOT)
  (root : s.rootNow ≠ 0)
include role may named root

/-- A command with a root runs. -/
theorem keyCommand_rooted {code confirm : Nat} {i : Instr} (hi : exec i s = s.act fun s => s.keyCommand who code confirm)
    (codes : 0x10 ≤ code ∧ code ≤ 0x14) (free_ : code = 0x14 ∨ s.slotReserved slot code = false) (confirmed : code ≠ 0x13 ∨ confirm = confirmValue)
    {u : State} {st : Nat} (small : st < 65536)
    (eq : (if code = 0x10 then s.begin.keyInstall slot else if code = 0x11 then s.begin.keyGenerate slot
      else if code = 0x12 then s.begin.keyDerive slot else if code = 0x13 then s.begin.keyErase slot else s.begin.identityCsr) = (u, st)) :
    ∃ t, exec i s = .next t ∧ t.get F.KEY_CMD_STAT_STATUS = st ∧ t.keys = { u.keys with inp := [], label := [] } ∧ t.free = u.free := by
  subst named
  exact keyCommand_run role may hi ((keyAct_open (s := s.begin) codes free_ confirmed).trans ((if_neg root).trans eq)) small

omit role may named root in
theorem keySlot_shown {t u : State} (keys : t.keys = { u.keys with inp := [], label := [] }) (j : Nat) : t.keySlot j = u.keySlot j := by
  unfold State.keySlot
  rw [keys]

theorem keyCommands_master (c : Nat) (two : slot = 2) :
    (∃ t, exec (.keyDerive who c) s = .next t ∧ t.get F.KEY_CMD_STAT_STATUS = St.access ∧ t.keys.slots = s.keys.slots) ∧
    (∃ t, exec (.keyErase who c) s = .next t ∧ t.get F.KEY_CMD_STAT_STATUS = St.access ∧ t.keys.slots = s.keys.slots) ∧
    (∃ t, exec (.keyGenerate who c) s = .next t ∧ t.get F.KEY_CMD_STAT_STATUS = St.access ∧ t.keys.slots = s.keys.slots) ∧
    (s.keys.installed2 = true → ∃ t, exec (.keyInstall who c) s = .next t ∧ t.get F.KEY_CMD_STAT_STATUS = St.access ∧
      t.keys.slots = s.keys.slots) ∧
    (s.keys.installed2 = false → (s.keySlot 2).kind = 0 → ∃ t, exec (.keyInstall who c) s = .next t ∧
      t.get F.KEY_CMD_STAT_STATUS = St.done ∧ t.keys.installed2 = true ∧ (t.keySlot 2).use_ = 2 ^ KeyOp.derive ∧ (t.keySlot 2).root = s.rootNow ∧
      (t.keySlot 2).mat = .octets ((wordsOctets s.keys.inp 4).take 16)) := by
  have reserved (code : Nat) (h : code ≠ 0x10) : s.slotReserved slot code = true := by rw [two, slotReserved_two, decide_eq_false h]; rfl
  refine ⟨keyCommand_reserved role may named rfl (by decide) (reserved 0x12 (by decide)),
    keyCommand_reserved role may named rfl (by decide) (reserved 0x13 (by decide)),
    keyCommand_reserved role may named rfl (by decide) (reserved 0x11 (by decide)), fun again => ?_, fun first empty => ?_⟩
  · refine keyCommand_reserved role may named rfl (by decide) (show s.slotReserved slot 0x10 = true from ?_)
    rw [two, slotReserved_two, again]
    rfl
  · have free_ : s.slotReserved slot 0x10 = false := by rw [two, slotReserved_two, first]; rfl
    obtain ⟨t, run, status, keys, -⟩ := keyCommand_rooted (code := 0x10) (i := .keyInstall who c) (confirm := c) role may named root rfl (by decide)
      (.inr free_)
      (.inl (by decide)) (by decide) ((if_pos rfl).trans (two ▸ keyInstall_master (s := s.begin) empty))
    have shown := (keySlot_shown keys 2).trans (masterInstalled_slot s.begin)
    exact ⟨t, run, status, by rw [keys]; rfl, by rw [shown]; rfl, by rw [shown]; rfl, by rw [shown]; rfl⟩

theorem identityCsr_answers (c : Nat) (h : (s.keySlot 0).kind ≠ 0) : ∃ t, exec (.identityCsr who c) s = .next t ∧
    t.get F.KEY_CMD_STAT_STATUS = St.done ∧ t.keys.out.length = 192 ∧ t.keys.slots = s.keys.slots := by
  obtain ⟨u, eq, out, slots⟩ := identityCsr_done (s := s.begin) h
  obtain ⟨t, run, status, keys, -⟩ := keyCommand_rooted (confirm := c) (i := .identityCsr who c) (code := 0x14) role may named root rfl (by decide) (.inl rfl)
    (.inl (by decide)) (by decide) eq
  exact ⟨t, run, status, by rw [keys]; exact out, by rw [keys]; exact slots⟩

section Above
variable (above : 4 < slot)
include above

/-- A command that names a slot above the reserved ones. -/
theorem keyCommand_above {code confirm : Nat} {i : Instr} (hi : exec i s = s.act fun s => s.keyCommand who code confirm)
    (codes : 0x10 ≤ code ∧ code ≤ 0x14) (confirmed : code ≠ 0x13 ∨ confirm = confirmValue) {u : State} {st : Nat} (small : st < 65536)
    (eq : (if code = 0x10 then s.begin.keyInstall slot else if code = 0x11 then s.begin.keyGenerate slot
      else if code = 0x12 then s.begin.keyDerive slot else if code = 0x13 then s.begin.keyErase slot else s.begin.identityCsr) = (u, st)) :
    ∃ t, exec i s = .next t ∧ t.get F.KEY_CMD_STAT_STATUS = st ∧ t.keys = { u.keys with inp := [], label := [] } ∧ t.free = u.free :=
  keyCommand_rooted role may named root hi codes (.inr (slotReserved_above s code above)) confirmed small eq

theorem keyCommand_leaves {code confirm : Nat} {i : Instr} (hi : exec i s = s.act fun s => s.keyCommand who code confirm)
    (codes : 0x10 ≤ code ∧ code ≤ 0x14) (confirmed : code ≠ 0x13 ∨ confirm = confirmValue) {st : Nat} (small : st < 65536)
    (eq : (if code = 0x10 then s.begin.keyInstall slot else if code = 0x11 then s.begin.keyGenerate slot
      else if code = 0x12 then s.begin.keyDerive slot else if code = 0x13 then s.begin.keyErase slot else s.begin.identityCsr) = (s.begin, st)) :
    ∃ t, exec i s = .next t ∧ t.get F.KEY_CMD_STAT_STATUS = st ∧ t.keys.slots = s.keys.slots := by
  obtain ⟨t, run, status, keys, -⟩ := keyCommand_above role may named root above hi codes confirmed small eq
  exact ⟨t, run, status, by rw [keys]; rfl⟩

theorem keyCommands_occupied (c : Nat) (h : (s.keySlot slot).kind ≠ 0) :
    (∃ t, exec (.keyInstall who c) s = .next t ∧ t.get F.KEY_CMD_STAT_STATUS = St.slotOccupied ∧ t.keys.slots = s.keys.slots) ∧
    (∃ t, exec (.keyGenerate who c) s = .next t ∧ t.get F.KEY_CMD_STAT_STATUS = St.slotOccupied ∧ t.keys.slots = s.keys.slots) ∧
    (s.get F.KEY_ARG_FROM_ROOT ≠ 0 ∨ s.keeperCheck 0 true (s.get F.KEY_ARG_PARENT) KeyOp.derive ∉ [some St.access, some St.lifecycle] →
      ∃ t, exec (.keyDerive who c) s = .next t ∧ t.get F.KEY_CMD_STAT_STATUS = St.slotOccupied ∧ t.keys.slots = s.keys.slots) := by
  refine ⟨keyCommand_leaves (code := 0x10) role may named root above rfl (by decide) (.inl (by decide)) (by decide) (keyInstall_occupied h),
    keyCommand_leaves (code := 0x11) role may named root above rfl (by decide) (.inl (by decide)) (by decide) (keyGenerate_occupied h), fun parent =>
    keyCommand_leaves (code := 0x12) role may named root above rfl (by decide) (.inl (by decide)) (by decide) (keyDerive_occupied ?_ h)⟩
  have later : s.parentCheck ≠ some St.access ∧ s.parentCheck ≠ some St.lifecycle := by
    by_cases from_ : s.get F.KEY_ARG_FROM_ROOT = 0
    · rw [parentCheck_slot from_]
      simpa using parent.resolve_left (not_not.2 from_)
    · rw [parentCheck_root from_]
      exact ⟨nofun, nofun⟩
  exact later

omit role may named root above in
theorem keeperCheck_small {e op st slot : Nat} {sec : Bool} (h : s.keeperCheck e sec slot op = some st) : st < 65536 := by
  rw [keeperCheck_eq rfl] at h
  split_ifs at h <;> cases h <;> decide

theorem keyDerive_of_parent (c st : Nat) (from_ : s.get F.KEY_ARG_FROM_ROOT = 0)
    (check : s.keeperCheck 0 true (s.get F.KEY_ARG_PARENT) KeyOp.derive = some st)
    (h : st = St.access ∨ st = St.lifecycle ∨ ((s.keySlot slot).kind = 0 ∧ s.newSlot false ≠ none)) :
    ∃ t, exec (.keyDerive who c) s = .next t ∧ t.get F.KEY_CMD_STAT_STATUS = st ∧ t.keys.slots = s.keys.slots := by
  have parent : s.begin.parentCheck = some st := (parentCheck_slot (s := s.begin) from_).trans check
  refine keyCommand_leaves (code := 0x12) role may named root above rfl (by decide) (.inl (by decide)) (keeperCheck_small check) ?_
  by_cases first : st = St.access ∨ st = St.lifecycle
  · exact keyDerive_first (s := s.begin) parent first
  · obtain ⟨empty, new⟩ := (or_assoc.2 h).resolve_left first
    obtain ⟨k, new⟩ := Option.ne_none_iff_exists'.1 new
    rw [not_or] at first
    refine keyDerive_parent (s := s.begin) (k := k) ⟨?_, ?_⟩ empty new parent
    · rw [parent]; exact fun e => first.1 (Option.some.inj e)
    · rw [parent]; exact fun e => first.2 (Option.some.inj e)

section Empty
variable (empty : (s.keySlot slot).kind = 0)
include empty

theorem keyInstall_installs (c : Nat) (k : KeySlot) (new : s.newSlot true = some k) : ∃ t, exec (.keyInstall who c) s = .next t ∧
    t.get F.KEY_CMD_STAT_STATUS = St.done ∧ t.keySlot slot = { k with
      kind := if k.size = 3 then 4 else 1, mat := .octets ((wordsOctets s.keys.inp 64).take (keySize k.size)) } ∧ t.keys.inp = [] := by
  obtain ⟨t, run, status, keys, -⟩ := keyCommand_above (confirm := c) (code := 0x10) (i := .keyInstall who c) role may named root above rfl (by decide)
    (.inl (by decide)) (by decide) (keyInstall_done (s := s.begin) empty (by omega) new)
  rw [(slotSet_keeps _ _).1] at keys
  exact ⟨t, run, status, (keySlot_shown keys slot).trans (keySlot_setSlot ..), by rw [keys]⟩

theorem keyGenerate_generates (c : Nat) (k : KeySlot) (new : s.newSlot false = some k) : ∃ t, exec (.keyGenerate who c) s = .next t ∧
    t.get F.KEY_CMD_STAT_STATUS = St.done ∧ t.keySlot slot = { k with kind := 2, mat := .random s.free } ∧ t.free = s.free + 12 := by
  obtain ⟨t, run, status, keys, free_⟩ := keyCommand_above (confirm := c) (code := 0x11) (i := .keyGenerate who c) role may named root above rfl (by decide)
    (.inl (by decide)) (by decide) (keyGenerate_done (s := s.begin) empty new)
  rw [(slotSet_keeps _ _).1] at keys
  rw [(slotSet_keeps _ _).2] at free_
  exact ⟨t, run, status, (keySlot_shown keys slot).trans (keySlot_setSlot s.begin slot _), free_⟩

theorem keyGenerate_of_attributes (c : Nat) (new : s.newSlot false = none) : ∃ t, exec (.keyGenerate who c) s = .next t ∧
    t.get F.KEY_CMD_STAT_STATUS = St.badArg ∧ t.keys.slots = s.keys.slots :=
  keyCommand_leaves (code := 0x11) role may named root above rfl (by decide) (.inl (by decide)) (by decide) (keyGenerate_badArg (s := s.begin) empty new)

omit empty in
/-- A DERIVE that is done. -/
theorem keyDerive_run (c : Nat) {u : State} {x : KeySlot} (eq : s.begin.keyDerive slot = ((u.setSlot slot x).slotSet slot, St.done)) :
    ∃ t, exec (.keyDerive who c) s = .next t ∧ t.get F.KEY_CMD_STAT_STATUS = St.done ∧ t.keySlot slot = x := by
  obtain ⟨t, run, status, keys, -⟩ := keyCommand_above (confirm := c) (code := 0x12) (i := .keyDerive who c) role may named root above rfl (by decide)
    (.inl (by decide)) (by decide) eq
  rw [(slotSet_keeps _ _).1] at keys
  exact ⟨t, run, status, (keySlot_shown keys slot).trans (keySlot_setSlot ..)⟩

theorem keyDerive_of_root (c : Nat) (k : KeySlot) (new : s.newSlot false = some k) (from_ : s.get F.KEY_ARG_FROM_ROOT ≠ 0) :
    ∃ t, exec (.keyDerive who c) s = .next t ∧ t.get F.KEY_CMD_STAT_STATUS = St.done ∧ t.keySlot slot = { k with
      kind := 3, depth := 1, rooted := true, parent := 0, mat := .derived (wordsOctets s.keys.label 8) } := by
  have eq := keyDerive_served (s := s.begin) empty new (parentCheck_root (s := s.begin) from_)
  rw [State.flag_on (show s.begin.get F.KEY_ARG_FROM_ROOT ≠ 0 from from_), if_pos rfl, if_pos rfl, if_pos rfl, if_neg (by decide)] at eq
  exact keyDerive_run role may named root above c eq

theorem keyDerive_of_slot (c : Nat) (k : KeySlot) (q : Nat) (new : s.newSlot false = some k) (from_ : s.get F.KEY_ARG_FROM_ROOT = 0)
    (hq : q = s.get F.KEY_ARG_PARENT) (check : s.keeperCheck 0 true q KeyOp.derive = none) :
    ((s.keySlot q).depth < 8 → ∃ t, exec (.keyDerive who c) s = .next t ∧ t.get F.KEY_CMD_STAT_STATUS = St.done ∧
      t.keySlot slot = { k with kind := 3, depth := (s.keySlot q).depth + 1, rooted := false, parent := q,
                                mat := .derived (wordsOctets s.keys.label 8) }) ∧
    (8 ≤ (s.keySlot q).depth → ∃ t, exec (.keyDerive who c) s = .next t ∧ t.get F.KEY_CMD_STAT_STATUS = St.depthExceeded ∧
      t.keys.slots = s.keys.slots) := by
  subst hq
  have eq := keyDerive_served (s := s.begin) empty new ((parentCheck_slot (s := s.begin) from_).trans check)
  rw [State.flag_off (show s.begin.get F.KEY_ARG_FROM_ROOT = 0 from from_), if_neg Bool.false_ne_true, if_neg Bool.false_ne_true,
    if_neg Bool.false_ne_true, keyUsed_label] at eq
  refine ⟨fun low => ?_, fun deep => ?_⟩
  · refine keyDerive_run role may named root above c (eq.trans (if_neg (not_lt.2 ?_)))
    exact low
  · refine keyCommand_leaves (code := 0x12) role may named root above rfl (by decide) (.inl (by decide)) (by decide) (eq.trans (if_pos ?_))
    exact Nat.lt_succ_of_le deep

end Empty

theorem keyErase_of_parent (confirm : Nat) (confirmed : confirm = confirmValue)
    (h : ∃ p ∈ s.keys.slots, p.2.kind = 3 ∧ p.2.rooted = false ∧ p.2.parent = slot) : ∃ t, exec (.keyErase who confirm) s = .next t ∧
      t.get F.KEY_CMD_STAT_STATUS = St.parentInUse ∧ t.keys.slots = s.keys.slots :=
  keyCommand_leaves (code := 0x13) role may named root above rfl (by decide) (.inr confirmed) (by decide) (keyErase_inUse h)

theorem keyErase_erases (confirm : Nat) (confirmed : confirm = confirmValue)
    (h : ∀ p ∈ s.keys.slots, p.2.kind = 3 → p.2.rooted = true ∨ p.2.parent ≠ slot) : ∃ t, exec (.keyErase who confirm) s = .next t ∧
      t.get F.KEY_CMD_STAT_STATUS = St.done ∧ t.keySlot slot = {} ∧ (∀ p ∈ t.keys.cache, p.1 ≠ slot) ∧
      (∀ j, j ≠ slot → t.keySlot j = s.keySlot j) := by
  obtain ⟨t, run, status, keys, -⟩ := keyCommand_above (code := 0x13) (i := .keyErase who confirm) role may named root above rfl (by decide)
    (.inr confirmed) (by decide) (keyErase_done (s := s.begin) h)
  refine ⟨t, run, status, (keySlot_shown keys slot).trans ((keySlot_uncache ..).trans (keySlot_setSlot ..)), fun p hp => ?_, fun j hj => ?_⟩
  · rw [keys] at hp
    exact of_decide_eq_true (List.mem_filter.1 hp).2
  · exact (keySlot_shown keys j).trans ((keySlot_uncache ..).trans (keySlot_setSlot_ne _ _ hj))

end Above

end Rooted

/-- Settles O53: the checks of every KEY_CMD in their order, and what the command does once it passes them. -/
theorem keyCommandsFollowTheirTables : Obligations.KeyCommandsFollowTheirTables := by
  unfold Obligations.KeyCommandsFollowTheirTables
  refine ⟨keyCommands_of_role, keyCommands_unconfirmed, fun s who n i role may phase hi => lifeCommands_run s who n 0x5AFE i role may phase rfl hi,
    fun s => ⟨lifeTarget_provision s, lifeTarget_deploy s, lifeTarget_unowned s, lifeTarget_owned s⟩, fun s who c slot role may named => ?_⟩
  refine ⟨keyCommands_reserved role may named c, keyInstall_rootless role may named c, keyCommands_rootless role may named c 0x5AFE rfl,
    fun two root => keyCommands_master role may named root c two, fun above root => ?_, fun root => identityCsr_answers role may named root c⟩
  exact ⟨keyCommands_occupied role may named root above c, keyDerive_of_parent role may named root above c,
    fun empty => ⟨keyInstall_installs role may named root above empty c, keyGenerate_generates role may named root above empty c,
      keyDerive_of_root role may named root above empty c, keyDerive_of_slot role may named root above empty c,
      keyGenerate_of_attributes role may named root above empty c⟩,
    keyErase_of_parent role may named root above 0x5AFE rfl, keyErase_erases role may named root above 0x5AFE rfl⟩

end Sys2Proof.Machine

/-! ### Firmware images and UPD_CMD (O52) -/
namespace Sys2Proof.Machine

/-! ### Banks -/

theorem bank_setBank_self {s : State} {b : Nat} (x : Bank) (h : b < s.upd.banks.length) : (s.setBank b x).bank b = x := by
  show (setAt s.upd.banks b x).getD b {} = x
  rw [setAt_eq_set, List.getD_eq_getElem?_getD, List.getElem?_set_self h]
  rfl

theorem bank_setBank_ne {s : State} {b c : Nat} (x : Bank) (h : c ≠ b) : (s.setBank b x).bank c = s.bank c := by
  show (setAt s.upd.banks b x).getD c {} = s.upd.banks.getD c {}
  rw [setAt_eq_set, List.getD_eq_getElem?_getD, List.getElem?_set_ne h.symm, ← List.getD_eq_getElem?_getD]

theorem banks_setBank (s : State) (b : Nat) (x : Bank) : (s.setBank b x).upd.banks.length = s.upd.banks.length := by
  show (setAt s.upd.banks b x).length = s.upd.banks.length
  rw [setAt_eq_set, List.length_set]

theorem bank_of_upd {s t : State} (h : t.upd = s.upd) (b : Nat) : t.bank b = s.bank b := congrArg (fun u : Update => u.banks.getD b {}) h

theorem updState_state (s : State) {st : Nat} (status : Nat) (h : st < 16) : (s.updState st status).get F.UPD_STAT_STATE = st := by
  unfold State.updState
  rw [State.get_put_ne _ _ _ _ (by decide), State.get_put_self]
  exact Nat.mod_eq_of_lt h

theorem updState_status (s : State) (st : Nat) {status : Nat} (h : status < 65536) : (s.updState st status).get F.UPD_STAT_STATUS = status := by
  unfold State.updState
  rw [State.get_put_self]
  exact Nat.mod_eq_of_lt h

theorem updState_upd (s : State) (st status : Nat) : (s.updState st status).upd = s.upd := rfl

section Inactive
variable {s : State} (two : s.upd.banks.length = 2)
include two

theorem inactiveBank_lt : s.inactiveBank < s.upd.banks.length := by
  unfold State.inactiveBank
  omega

theorem activeBank_lt (h : s.upd.active < 2) : s.upd.active < s.upd.banks.length := by omega

end Inactive

theorem inactiveBank_ne {s : State} (h : s.upd.active < 2) : s.inactiveBank ≠ s.upd.active := by
  unfold State.inactiveBank
  omega

/-! ### The verdict on an image (R563) -/

/-- The image is judged. -/
def State.imageJudged (s : State) (b v : Nat) : State :=
  if v = 0 then (s.setBank b { s.bank b with st := 1 }).updState 3 St.done else (s.setBank b { gen := (s.bank b).gen }).updState 0 v

section Image
variable {s : State} {bk sg : Bool} {b : Nat} {x : Bank}

theorem imageVerdict_small : s.imageVerdict x bk sg < 65536 := by
  unfold State.imageVerdict
  split
  · decide
  · split <;> decide

/-- The image verified ends the transfer for its caller. -/
theorem imageVerified_run (verifying : s.get F.UPD_STAT_STATE = 2) : exec (.imageVerified bk sg) s = .next (s.after
    ((((s.begin.modUpd fun u => { u with imgBy := .quiet }).imageJudged s.inactiveBank (s.imageVerdict (s.bank s.inactiveBank) bk sg)).finish
      s.upd.imgBy (s.imageVerdict (s.bank s.inactiveBank) bk sg) []))) := by
  refine congrArg (fun u => Host.Outcome.next (s.after u)) ((if_neg (not_not.2 ?_)).trans ?_)
  · exact verifying
  · unfold State.imageJudged
    rfl

theorem imageJudged_bank {v : Nat} (hb : b < s.upd.banks.length) :
    (s.imageJudged b v).bank b = if v = 0 then { s.bank b with st := 1 } else { gen := (s.bank b).gen } := by
  unfold State.imageJudged
  split
  · exact bank_setBank_self _ hb
  · exact bank_setBank_self _ hb

theorem imageJudged_state {v : Nat} : (s.imageJudged b v).get F.UPD_STAT_STATE = if v = 0 then 3 else 0 := by
  unfold State.imageJudged
  split
  · exact updState_state _ _ (by decide)
  · exact updState_state _ _ (by decide)

theorem imageJudged_within (v : Nat) : Within [.upd, .regs, .block 0x17] s (s.imageJudged b v) := by
  unfold State.imageJudged State.updState State.setBank
  split <;> simp (disch := decide)

variable (two : s.upd.banks.length = 2) (hb : b = s.inactiveBank) (hx : x = s.bank b) (verifying : s.get F.UPD_STAT_STATE = 2)
include two hb hx verifying

theorem imageVerified_judges : ∃ t, exec (.imageVerified bk sg) s = .next t ∧
    t.bank b = (if s.imageVerdict x bk sg = 0 then { x with st := 1 } else { gen := x.gen }) ∧
    t.get F.UPD_STAT_STATE = (if s.imageVerdict x bk sg = 0 then 3 else 0) ∧ t.upd.imgBy = .quiet ∧
    (s.awaits s.upd.imgBy → t.ended s.upd.imgBy (s.imageVerdict x bk sg) []) := by
  subst hb hx
  have run := imageVerified_run (bk := bk) (sg := sg) verifying
  generalize s.imageVerdict (s.bank s.inactiveBank) bk sg = v at run ⊢
  let u := s.begin.modUpd fun u => { u with imgBy := .quiet }
  have fin := (within_finish (D := finishParts) (u.imageJudged s.inactiveBank v) s.upd.imgBy v [] fun _ h => h).upd
  have awaits (h : s.awaits s.upd.imgBy) : (u.imageJudged s.inactiveBank v).awaits s.upd.imgBy := by
    have w : Within [.upd, .regs, .block 0x17, .out] s (u.imageJudged s.inactiveBank v) :=
      (show Within [.upd, .regs, .block 0x17, .out] s u by simp [u]).trans ((imageJudged_within v).mono (by decide))
    exact w.awaits h
  have quiet : (u.imageJudged s.inactiveBank v).upd.imgBy = .quiet := by
    unfold State.imageJudged
    split <;> rfl
  have bank := imageJudged_bank (s := u) (v := v) (inactiveBank_lt (s := s) two)
  have state := imageJudged_state (s := u) (b := s.inactiveBank) (v := v)
  have get := State.finish_get (u.imageJudged s.inactiveBank v) s.upd.imgBy v [] F.UPD_STAT_STATE (by decide)
  generalize u.imageJudged s.inactiveBank v = w at run fin awaits quiet bank state get
  refine ⟨_, run, (bank_of_upd fin _).trans bank, get.trans state, (congrArg Update.imgBy fin).trans quiet, fun h => ?_⟩
  rw [State.after_ended]
  exact State.finish_ended v [] (awaits h)

theorem imageVerified_ready (good : s.imageVerdict x bk sg = 0) : ∃ t, exec (.imageVerified bk sg) s = .next t ∧ t.bank b = { x with st := 1 } ∧
    t.get F.UPD_STAT_STATE = 3 ∧ t.upd.imgBy = .quiet ∧ (s.awaits s.upd.imgBy → t.ended s.upd.imgBy St.done []) := by
  have judged := imageVerified_judges two hb hx verifying (bk := bk) (sg := sg)
  rw [if_pos good, if_pos good, good] at judged
  exact judged

theorem imageVerified_drops (bad : s.imageVerdict x bk sg ≠ 0) : ∃ t, exec (.imageVerified bk sg) s = .next t ∧ t.bank b = { gen := x.gen } ∧
    t.get F.UPD_STAT_STATE = 0 ∧ t.upd.imgBy = .quiet ∧ (s.awaits s.upd.imgBy → t.ended s.upd.imgBy (s.imageVerdict x bk sg) []) := by
  have judged := imageVerified_judges two hb hx verifying (bk := bk) (sg := sg)
  rw [if_neg bad, if_neg bad] at judged
  exact judged

end Image

theorem imageVerified_idle (s : State) (bk sg : Bool) (h : s.get F.UPD_STAT_STATE ≠ 2) : s.idle (.imageVerified bk sg) :=
  State.idle_run rfl (if_pos h)

/-! ### UPD_CMD (R568 to R572) -/

section Cmd
variable {s : State} {who : Requester} {confirm code : Nat}

theorem updCmd_unconfirmed (codes : 1 ≤ code ∧ code ≤ 5) (four : code ≠ 4) (h : confirm ≠ confirmValue) : s.updCmd code confirm = (s, St.confirm) := by
  unfold State.updCmd
  dsimp only
  rw [if_neg (by simp; omega), if_pos (by simp [four, h])]

section Live
variable (live : s.live = true)
include live

section Frames
variable (frames : s.mode = .stop ∨ s.mode = .run ∨ s.mode = .hold) (confirmed : confirm = confirmValue)
include frames confirmed

omit live confirmed in
theorem updCmd_frames : (decide (s.mode = .stop) || decide (s.mode = .run) || decide (s.mode = .hold)) = true := by
  rcases frames with h | h | h <;> rw [h] <;> decide

theorem updCmd_hitless_refused {st : Nat} (h : s.activateRefusal true = some st) : s.updCmd 1 confirm = (s, st) := by
  unfold State.updCmd
  dsimp only
  rw [if_neg (by decide), if_neg (by simp [confirmed]), if_neg (by simp [live]), if_neg (by rw [updCmd_frames frames]; decide), h]
  rfl

theorem updCmd_hitless (h : s.activateRefusal true = none) : s.updCmd 1 confirm = (s.beginUpdate 1, St.pending) := by
  unfold State.updCmd
  dsimp only
  rw [if_neg (by decide), if_neg (by simp [confirmed]), if_neg (by simp [live]), if_neg (by rw [updCmd_frames frames]; decide), h]
  rfl

theorem updCmd_unpaired (role : s.role ≠ .lead) : s.updCmd 3 confirm = (s, St.notPaired) := by
  unfold State.updCmd
  dsimp only
  rw [if_neg (by decide), if_neg (by simp [confirmed]), if_neg (by simp [live])]
  exact (if_neg (by rw [updCmd_frames frames]; decide)).trans (if_pos role)

theorem updCmd_pair (role : s.role = .lead) (h : s.activateRefusal true = none) : s.updCmd 3 confirm =
    if (!s.partnerEligible) = true then (s, St.notEligible) else ((s.beginUpdate 3).emit .spliceImage [], St.pending) := by
  unfold State.updCmd
  dsimp only
  rw [if_neg (by decide), if_neg (by simp [confirmed]), if_neg (by simp [live])]
  refine (if_neg (by rw [updCmd_frames frames]; decide)).trans ((if_neg (not_not.2 role)).trans ?_)
  rw [h]

end Frames

theorem updCmd_restart_refused {st : Nat} (confirmed : confirm = confirmValue) (h : s.activateRefusal false = some st) :
    s.updCmd 2 confirm = (s, st) := by
  unfold State.updCmd
  dsimp only
  rw [if_neg (by decide), if_neg (by simp [confirmed]), if_neg (by simp [live]), h]
  rfl

theorem updCmd_restart (confirmed : confirm = confirmValue) (h : s.activateRefusal false = none) :
    s.updCmd 2 confirm = ((s.beginUpdate 2).modeReq (.shutdown false) .quiet, St.pending) := by
  unfold State.updCmd
  dsimp only
  rw [if_neg (by decide), if_neg (by simp [confirmed]), if_neg (by simp [live]), h]
  rfl

theorem updCmd_commit : s.updCmd 4 confirm =
    if (s.bank s.upd.active).st ≠ 3 then (s, St.notReady) else (s.bankGood s.upd.active, St.done) := by
  unfold State.updCmd
  dsimp only
  rw [if_neg (by decide), if_neg (by simp), if_neg (by simp [live])]
  rfl

/-- ERASE drops the image of the inactive bank. -/
def State.imageErased (s : State) : State :=
  let u := (s.modUpd fun u => { u with imgBy := .quiet }).finish s.upd.imgBy St.aborted []
  (u.setBank u.inactiveBank { gen := (u.bank u.inactiveBank).gen }).updState 0 St.done

theorem updCmd_erase (confirmed : confirm = confirmValue) :
    s.updCmd 5 confirm = if s.upd.kind ≠ 0 then (s, St.updateActive) else (s.imageErased, St.done) := by
  unfold State.updCmd
  dsimp only
  rw [if_neg (by decide), if_neg (by simp [confirmed]), if_neg (by simp [live])]
  rfl

end Live

theorem activateRefusal_small {same : Bool} {st : Nat} (h : s.activateRefusal same = some st) : st < 65536 := by
  unfold State.activateRefusal at h
  split_ifs at h <;> cases h <;> decide

theorem imageErased_upd : s.imageErased.upd = { s.upd with
    imgBy := .quiet, banks := setAt s.upd.banks s.inactiveBank { gen := (s.bank s.inactiveBank).gen } } := by
  have fin := (within_finish (D := finishParts) (s.modUpd fun u => { u with imgBy := .quiet }) s.upd.imgBy St.aborted [] fun _ h => h).upd
  unfold State.imageErased
  dsimp only
  generalize (s.modUpd fun u => { u with imgBy := .quiet }).finish s.upd.imgBy St.aborted [] = u at fin
  show { u.upd with banks := setAt u.upd.banks u.inactiveBank { gen := (u.bank u.inactiveBank).gen } } = _
  unfold State.inactiveBank State.bank
  rw [fin]
  rfl

theorem bankGood_upd (b : Nat) : (s.bankGood b).upd = (s.setBank b { s.bank b with st := 4, good := true }).upd := by
  unfold State.bankGood
  extract_lets x u v y
  split
  · exact (within_log v _ _ _ _ fun _ h => h).upd
  · rfl

theorem bankGood_secver (b : Nat) :
    (s.bankGood b).get F.UPD_SECVER_SECVER = Nat.max (s.get F.UPD_SECVER_SECVER) (s.bank b).secver % 256 := by
  have shown : ((s.setBank b { s.bank b with st := BankSt.good, good := true }).put F.UPD_SECVER_SECVER
      (Nat.max (s.get F.UPD_SECVER_SECVER) (s.bank b).secver)).get F.UPD_SECVER_SECVER = _ := State.get_put_self ..
  unfold State.bankGood
  dsimp only
  split
  · rw [State.log_get _ _ _ _ _ (by decide)]
    exact shown
  · exact shown

/-- An activation under way shows ACTIVATING. -/
theorem beginUpdate_state (u : State) (kind : Nat) : (u.beginUpdate kind).get F.UPD_STAT_STATE = 4 := updState_state u St.pending (by decide)

/-! ### The commands as they are given -/

section Run
variable (may : s.mayWrite who) {i : Instr}
  (hi : exec i s = s.act fun s => s.gate who 1 fun s => let (s, st) := s.updCommand code confirm; s.reply who st)
include may hi

theorem updCommand_run {u : State} {st : Nat} (h : s.begin.updCmd code confirm = (u, st)) :
    ∃ t, exec i s = .next t ∧ t.get F.UPD_CMD_STAT_STATUS = st % 65536 ∧ t.upd = u.upd ∧ t.frame = u.frame ∧
      (∀ f : Fld, f.key ≠ F.UPD_CMD_STAT_CODE.key → f.key ≠ F.UPD_CMD_STAT_STATUS.key → t.get f = u.get f) ∧
      (∀ k l, u.sent k l → t.sent k l) := by
  have run : exec i s = .next (s.after ((u.cmdStat F.UPD_CMD_STAT_CODE F.UPD_CMD_STAT_STATUS code st).reply who st)) := by
    refine hi.trans (congrArg (fun u => Host.Outcome.next (s.after u)) ((State.gate_open may _).trans ?_))
    unfold State.updCommand
    rw [h]
  rw [State.reply_eq] at run
  refine ⟨_, run, State.get_put_self (u.put F.UPD_CMD_STAT_CODE code) F.UPD_CMD_STAT_STATUS st, rfl, rfl,
    fun f c k => (State.get_put_ne (u.put F.UPD_CMD_STAT_CODE code) _ _ _ k).trans (u.get_put_ne _ _ _ c), fun k l sent => ?_⟩
  exact sent.imp (fun h => List.mem_append_left _ h) id

theorem updCommand_refused {st : Nat} (h : s.begin.updCmd code confirm = (s.begin, st)) :
    ∃ t, exec i s = .next t ∧ t.get F.UPD_CMD_STAT_STATUS = st % 65536 ∧ t.upd = s.upd := by
  obtain ⟨t, run, status, upd, -⟩ := updCommand_run may hi h
  exact ⟨t, run, status, upd⟩

end Run

variable (may : s.mayWrite who)
include may

theorem updCommands_unconfirmed (c : Nat) (hc : c ≠ 0x5AFE) :
    (∃ t, exec (.activateHitless who c) s = .next t ∧ t.get F.UPD_CMD_STAT_STATUS = St.confirm ∧ t.upd = s.upd) ∧
    (∃ t, exec (.activateRestart who c) s = .next t ∧ t.get F.UPD_CMD_STAT_STATUS = St.confirm ∧ t.upd = s.upd) ∧
    (∃ t, exec (.pairUpdate who c) s = .next t ∧ t.get F.UPD_CMD_STAT_STATUS = St.confirm ∧ t.upd = s.upd) ∧
    (∃ t, exec (.updErase who c) s = .next t ∧ t.get F.UPD_CMD_STAT_STATUS = St.confirm ∧ t.upd = s.upd) :=
  ⟨updCommand_refused may (code := 1) rfl (updCmd_unconfirmed (by decide) (by decide) hc),
    updCommand_refused may (code := 2) rfl (updCmd_unconfirmed (by decide) (by decide) hc),
    updCommand_refused may (code := 3) rfl (updCmd_unconfirmed (by decide) (by decide) hc),
    updCommand_refused may (code := 5) rfl (updCmd_unconfirmed (by decide) (by decide) hc)⟩

variable (live : s.live = true) (confirmed : confirm = confirmValue)
include live confirmed

theorem activations_in_frames (frames : s.mode = .stop ∨ s.mode = .run ∨ s.mode = .hold) :
    (∀ st, s.activateRefusal true = some st →
      ∃ t, exec (.activateHitless who confirm) s = .next t ∧ t.get F.UPD_CMD_STAT_STATUS = st % 65536 ∧ t.upd = s.upd) ∧
    (s.activateRefusal true = none →
      (∃ t, exec (.activateHitless who confirm) s = .next t ∧ t.get F.UPD_CMD_STAT_STATUS = St.pending ∧
        t.get F.UPD_STAT_STATE = 4 ∧ t.upd.kind = 1 ∧ t.upd.stage = 1 ∧ t.upd.banks = s.upd.banks) ∧
      (s.role = .lead → s.partnerEligible = true → ∃ t, exec (.pairUpdate who confirm) s = .next t ∧
        t.get F.UPD_CMD_STAT_STATUS = St.pending ∧ t.upd.kind = 3 ∧ t.get F.UPD_STAT_STATE = 4 ∧ t.sent .spliceImage []) ∧
      (s.role = .lead → s.partnerEligible = false → ∃ t, exec (.pairUpdate who confirm) s = .next t ∧
        t.get F.UPD_CMD_STAT_STATUS = St.notEligible ∧ t.upd = s.upd)) ∧
    (s.role ≠ .lead → ∃ t, exec (.pairUpdate who confirm) s = .next t ∧ t.get F.UPD_CMD_STAT_STATUS = St.notPaired ∧ t.upd = s.upd) := by
  refine ⟨fun st h => updCommand_refused may (code := 1) rfl (updCmd_hitless_refused (s := s.begin) live frames confirmed h),
    fun h => ⟨?_, fun role eligible => ?_, fun role eligible => ?_⟩,
    fun role => updCommand_refused may (code := 3) rfl (updCmd_unpaired (s := s.begin) live frames confirmed role)⟩
  · obtain ⟨t, run, status, upd, -, get, -⟩ := updCommand_run (code := 1) (i := .activateHitless who confirm) may rfl
      (updCmd_hitless (s := s.begin) live frames confirmed h)
    exact ⟨t, run, status, (get _ (by decide) (by decide)).trans (beginUpdate_state ..), by rw [upd]; rfl, by rw [upd]; rfl, by rw [upd]; rfl⟩
  · have eligible : s.begin.partnerEligible = true := eligible
    obtain ⟨t, run, status, upd, -, get, sent⟩ := updCommand_run (code := 3) (i := .pairUpdate who confirm) may rfl
      ((updCmd_pair (s := s.begin) live frames confirmed role h).trans (if_neg (by rw [eligible]; decide)))
    have w := within_emit (D := emitParts) (s.begin.beginUpdate 3) .spliceImage [] fun _ h => h
    refine ⟨t, run, status, by rw [upd, w.upd]; rfl, ?_, sent _ _ (State.emit_sent ..)⟩
    rw [get _ (by decide) (by decide), w.get (by decide) (by decide)]
    exact beginUpdate_state ..
  · have eligible : s.begin.partnerEligible = false := eligible
    exact updCommand_refused may (code := 3) rfl
      ((updCmd_pair (s := s.begin) live frames confirmed role h).trans (if_pos (by rw [eligible]; rfl)))

theorem activateRestart_refused (st : Nat) (h : s.activateRefusal false = some st) : ∃ t, exec (.activateRestart who confirm) s = .next t ∧
    t.get F.UPD_CMD_STAT_STATUS = st % 65536 ∧ t.upd = s.upd :=
  updCommand_refused may (code := 2) rfl (updCmd_restart_refused (s := s.begin) live confirmed h)

theorem activateRestart_asks (h : s.activateRefusal false = none) :
    ∃ t, exec (.activateRestart who confirm) s = .next t ∧ t.get F.UPD_CMD_STAT_STATUS = St.pending ∧ t.upd.kind = 2 ∧
      t.get F.UPD_STAT_STATE = 4 ∧ t.upd.banks = s.upd.banks ∧
      t.frame.modeReqs = s.frame.modeReqs ++ [{ ev := .shutdown false, by_ := .quiet, at_ := s.num }] := by
  obtain ⟨t, run, status, upd, frame, get, -⟩ := updCommand_run (code := 2) (i := .activateRestart who confirm) may rfl
    (updCmd_restart (s := s.begin) live confirmed h)
  exact ⟨t, run, status, by rw [upd]; rfl, (get _ (by decide) (by decide)).trans (beginUpdate_state s.begin 2), by rw [upd]; rfl,
    by rw [frame]; rfl⟩

omit confirmed in
theorem updCommit_unready (c : Nat) (h : (s.bank s.upd.active).st ≠ 3) : ∃ t, exec (.updCommit who c) s = .next t ∧
    t.get F.UPD_CMD_STAT_STATUS = St.notReady ∧ t.upd = s.upd :=
  updCommand_refused may (code := 4) (confirm := c) rfl ((updCmd_commit (s := s.begin) live).trans (if_pos h))

omit confirmed in
theorem updCommit_commits (c : Nat) (two : s.upd.banks.length = 2) (active : s.upd.active < 2) (h : (s.bank s.upd.active).st = 3) :
    ∃ t, exec (.updCommit who c) s = .next t ∧
      t.get F.UPD_CMD_STAT_STATUS = St.done ∧ t.bank s.upd.active = { s.bank s.upd.active with st := 4, good := true } ∧
      t.get F.UPD_SECVER_SECVER = Nat.max (s.get F.UPD_SECVER_SECVER) (s.bank s.upd.active).secver % 256 := by
  obtain ⟨t, run, status, upd, -, get, -⟩ := updCommand_run (code := 4) (i := .updCommit who c) may rfl
    ((updCmd_commit (s := s.begin) (confirm := c) live).trans (if_neg (not_not.2 h)))
  refine ⟨t, run, status, ?_, (get _ (by decide) (by decide)).trans (bankGood_secver ..)⟩
  exact (bank_of_upd (upd.trans (bankGood_upd _)) _).trans (bank_setBank_self _ (activeBank_lt (s := s) two active))

theorem updErase_active (h : s.upd.kind ≠ 0) : ∃ t, exec (.updErase who confirm) s = .next t ∧
    t.get F.UPD_CMD_STAT_STATUS = St.updateActive ∧ t.upd = s.upd :=
  updCommand_refused may (code := 5) rfl ((updCmd_erase (s := s.begin) live confirmed).trans (if_pos h))

theorem updErase_erases (h : s.upd.kind = 0) (two : s.upd.banks.length = 2) : ∃ t, exec (.updErase who confirm) s = .next t ∧
      t.get F.UPD_CMD_STAT_STATUS = St.done ∧ t.bank s.inactiveBank = { gen := (s.bank s.inactiveBank).gen } ∧
      t.get F.UPD_STAT_STATE = 0 := by
  obtain ⟨t, run, status, upd, -, get, -⟩ := updCommand_run (code := 5) (i := .updErase who confirm) may rfl
    ((updCmd_erase (s := s.begin) live confirmed).trans (if_neg (not_not.2 h)))
  refine ⟨t, run, status, ?_, (get _ (by decide) (by decide)).trans (updState_state _ _ (by decide))⟩
  rw [imageErased_upd] at upd
  exact (bank_of_upd (t := t) (s := s.begin.setBank s.inactiveBank { gen := (s.bank s.inactiveBank).gen } |>.modUpd fun u => { u with imgBy := .quiet })
    upd _).trans (bank_setBank_self _ (inactiveBank_lt (s := s) two))

end Cmd

end Sys2Proof.Machine

namespace Sys2Proof.Machine

/-! ### The in-place update (Table 13.6) -/

section Step
variable {s : State}

theorem c1Ready_idle (ok : Bool) (h : s.upd.kind ≠ 1 ∨ s.upd.stage ≠ 2) : s.idle (.updateC1Ready ok) := by
  refine State.idle_run rfl (if_pos ?_)
  have h : s.begin.upd.kind ≠ 1 ∨ s.begin.upd.stage ≠ 2 := h
  rcases h with h | h <;> rw [decide_eq_true h] <;> simp

theorem updSwitch_idle (h : s.upd.kind ≠ 1 ∨ s.upd.stage ≠ 4 ∨ s.frame.off ≠ 0) : s.idle .updateSwitchBoundary := by
  refine State.idle_run rfl (if_pos ?_)
  have h : s.begin.upd.kind ≠ 1 ∨ s.begin.upd.stage ≠ 4 ∨ s.begin.frame.off ≠ 0 := h
  rcases h with h | h | h <;> rw [decide_eq_true h] <;> simp

/-- An activation that ends without its commit. -/
theorem updEnd_upd (st bankSt : Nat) : (s.updEnd st bankSt).upd = { s.upd with
    banks := setAt s.upd.banks s.inactiveBank { s.bank s.inactiveBank with st := bankSt, pkgs := [none, none], newest := 0 }
    kind := 0, stage := 0, by_ := .quiet, c1Ready := false } := by
  unfold State.updEnd
  extract_lets o b u bank v w
  have kept : u.upd = s.upd := by
    unfold u
    split
    · exact (within_c1Runs (s.sideband 1)).upd.trans (within_sideband s 1).upd
    · rfl
  have fin := (within_finish (D := finishParts) w o st [] fun _ h => h).upd
  rw [fin]
  show { u.upd with banks := setAt u.upd.banks b { u.bank b with st := bankSt, pkgs := [none, none], newest := 0 }
                    kind := 0, stage := 0, by_ := .quiet, c1Ready := false } = _
  rw [bank_of_upd kept, kept]

theorem updEnd_shown (st bankSt : Nat) : (s.updEnd st bankSt).get F.UPD_STAT_STATE = (if bankSt = 1 then 3 else 0) ∧
    (s.updEnd st bankSt).get F.UPD_STAT_STATUS = st % 65536 := by
  unfold State.updEnd
  extract_lets o b u bank v w
  rw [State.finish_get w o st [] _ (by decide), State.finish_get w o st [] _ (by decide)]
  refine ⟨?_, State.get_put_self (v.put F.UPD_STAT_STATE _) F.UPD_STAT_STATUS st⟩
  refine (updState_state v st (st := if bankSt = BankSt.written then UpdSt.ready else UpdSt.idle) ?_)
  split <;> decide

section Ready
variable (kind : s.upd.kind = 1) (stage : s.upd.stage = 2) (two : s.upd.banks.length = 2) (active : s.upd.active < 2)
include kind stage two active

omit two active in
theorem c1Ready_goes : ¬(decide (s.begin.upd.kind ≠ 1) || decide (s.begin.upd.stage ≠ 2)) = true := by
  rw [show s.begin.upd.kind = 1 from kind, show s.begin.upd.stage = 2 from stage]
  decide

theorem updateC1Ready_good : ∃ t, exec (.updateC1Ready true) s = .next t ∧ t.upd.stage = 4 ∧ t.upd.c1Ready = true ∧ t.upd.active = s.upd.active ∧
    t.bank s.inactiveBank = { s.bank s.inactiveBank with pkgs := [(s.bank s.upd.active).newestPkg, none], newest := 0 } := by
  have eq : s.begin.c1Ready true = (s.begin.c1Runs.copyPackages s.inactiveBank).modUpd fun u => { u with stage := 4, c1Ready := true } :=
    (if_neg (c1Ready_goes kind stage)).trans (if_neg (by decide))
  have kept := (within_c1Runs s.begin).upd
  have bank (b : Nat) : s.begin.c1Runs.bank b = s.bank b := bank_of_upd kept b
  have copied : (s.begin.c1Runs.copyPackages s.inactiveBank).bank s.inactiveBank =
      { s.bank s.inactiveBank with pkgs := [(s.bank s.upd.active).newestPkg, none], newest := 0 } := by
    unfold State.copyPackages
    rw [bank, bank, bank_setBank_self _ (by rw [kept]; exact inactiveBank_lt (s := s) two)]
    have other : 1 - s.inactiveBank = s.upd.active := by unfold State.inactiveBank; omega
    rw [other]
  exact ⟨_, congrArg (fun u => Host.Outcome.next (s.after u)) eq, rfl, rfl, rfl, copied⟩

omit active in
theorem updateC1Ready_bad : ∃ t, exec (.updateC1Ready false) s = .next t ∧ t.upd.kind = 0 ∧ (t.bank s.inactiveBank).st = 5 ∧
    t.get F.UPD_STAT_STATUS = St.imageInvalid ∧ t.get F.UPD_STAT_STATE = 0 ∧ t.upd.active = s.upd.active := by
  have eq : s.begin.c1Ready false = s.begin.updEnd St.imageInvalid BankSt.rejected :=
    (if_neg (c1Ready_goes kind stage)).trans (if_pos rfl)
  obtain ⟨state, status⟩ := updEnd_shown (s := s.begin) St.imageInvalid BankSt.rejected
  have upd := updEnd_upd (s := s.begin) St.imageInvalid BankSt.rejected
  generalize s.begin.updEnd St.imageInvalid BankSt.rejected = u at eq state status upd
  refine ⟨_, congrArg (fun u => Host.Outcome.next (s.after u)) eq, (congrArg Update.kind upd : _), ?_, status, state,
    (congrArg Update.active upd : u.upd.active = _)⟩
  have bank : u.bank s.inactiveBank = _ := (congrArg (fun x : Update => x.banks.getD s.inactiveBank {}) upd).trans
    (bank_setBank_self (s := s) _ (inactiveBank_lt (s := s) two))
  exact congrArg Bank.st bank

end Ready

/-- The switch boundary before its caller is told. -/
def State.updSwitched (s : State) : State :=
  let u := (s.setBank s.inactiveBank { s.bank s.inactiveBank with st := BankSt.tried, gen := s.highGen + 1 }).modUpd fun u =>
    { u with active := s.inactiveBank, stage := 5, by_ := .quiet, since := some s.mono }
  let v := (u.sideband 0).modFrame fun f => { f with c0 := { f.c0 with running := false, ready := false, faultAt := u.mono } }
  v.put F.UPD_STAT_STATUS St.done

/-- A caller that is the status of UPD_CMD sees it. -/
theorem finish_updStat (u : State) (st : Nat) (res : List Nat) : (u.finish (.command updStat) st res).get F.UPD_CMD_STAT_STATUS = st % 65536 := by
  have shown : (u.cmdFinal updStat st).get F.UPD_CMD_STAT_STATUS = st % 65536 := State.get_put_self u F.UPD_CMD_STAT_STATUS st
  refine Eq.trans ?_ shown
  simp only [State.finish]
  refine (Within.get (D := [.sessions, .out, .held, .asked]) (.foldl (.refl _ _) fun x p _ =>
    within_sessionDone x _ _ _ _ (by decide) (by decide)) (by decide) (by decide)).trans rfl

theorem updateSwitchBoundary_switches (kind : s.upd.kind = 1) (stage : s.upd.stage = 4) (off : s.frame.off = 0) (two : s.upd.banks.length = 2) :
    ∃ t, exec .updateSwitchBoundary s = .next t ∧ t.upd.active = s.inactiveBank ∧ t.upd.stage = 5 ∧
      (t.bank s.inactiveBank).st = 3 ∧ (t.bank s.inactiveBank).gen = s.highGen + 1 ∧ t.frame.c0.running = false ∧
      (s.upd.by_ = .command updStat → t.get F.UPD_CMD_STAT_STATUS = St.done) := by
  have goes : ¬(decide (s.begin.upd.kind ≠ 1) || decide (s.begin.upd.stage ≠ 4) || decide (s.begin.frame.off ≠ 0)) = true := by
    rw [show s.begin.upd.kind = 1 from kind, show s.begin.upd.stage = 4 from stage, show s.begin.frame.off = 0 from off]
    decide
  have eq : s.begin.updSwitch = s.begin.updSwitched.finish s.upd.by_ St.done [] := if_neg goes
  let x : Bank := { s.bank s.inactiveBank with st := BankSt.tried, gen := s.highGen + 1 }
  have upd : s.begin.updSwitched.upd = { s.upd with
      banks := setAt s.upd.banks s.inactiveBank x, active := s.inactiveBank, stage := 5, by_ := .quiet, since := some s.mono } :=
    (within_sideband ((s.begin.setBank s.inactiveBank x).modUpd fun u =>
      { u with active := s.inactiveBank, stage := 5, by_ := .quiet, since := some s.mono }) 0).upd
  have halted : s.begin.updSwitched.frame.c0.running = false := rfl
  have w := within_finish (D := finishParts) s.begin.updSwitched s.upd.by_ St.done [] fun _ h => h
  have told : s.upd.by_ = .command updStat → (s.begin.updSwitched.finish s.upd.by_ St.done []).get F.UPD_CMD_STAT_STATUS = St.done :=
    fun by_ => by_ ▸ finish_updStat ..
  generalize s.begin.updSwitched = u at eq upd halted w told
  generalize u.finish s.upd.by_ St.done [] = v at eq w told
  have bank : v.bank s.inactiveBank = x := (congrArg (fun x : Update => x.banks.getD s.inactiveBank {}) (w.upd.trans upd)).trans
    (bank_setBank_self (s := s) x (inactiveBank_lt (s := s) two))
  refine ⟨_, congrArg (fun u => Host.Outcome.next (s.after u)) eq, congrArg Update.active (w.upd.trans upd), congrArg Update.stage (w.upd.trans upd),
    congrArg Bank.st bank, congrArg Bank.gen bank, ?_, told⟩
  rw [← halted]
  exact congrArg CoreSt.running w.cores.1

/-! ### A tried bank becomes good (R572) -/

section Confirm
variable {k : Nat} (since : s.upd.since = some k)
include since

theorem bankConfirm_eq : s.begin.bankConfirm = if (decide ((s.bank s.upd.active).st = 3) && s.live &&
    (decide (s.mode = .stop) || decide (s.mode = .run) || decide (s.mode = .hold) || decide (s.mode = .shadow)) &&
    s.past (k + s.get F.UPD_CFG_CONFIRM * 1000000000)) = true then s.begin.bankGood s.upd.active else s.begin := by
  have since : s.begin.upd.since = some k := since
  unfold State.bankConfirm
  rw [since]
  rfl

theorem bankConfirmTimeout_good (two : s.upd.banks.length = 2) (active : s.upd.active < 2) (tried : (s.bank s.upd.active).st = 3)
    (live : s.live = true) (mode : s.mode = .stop ∨ s.mode = .run ∨ s.mode = .hold ∨ s.mode = .shadow)
    (past : s.past (k + s.get F.UPD_CFG_CONFIRM * 1000000000) = true) : ∃ t, exec .bankConfirmTimeout s = .next t ∧
      t.bank s.upd.active = { s.bank s.upd.active with st := 4, good := true } := by
  have frames : (decide (s.mode = .stop) || decide (s.mode = .run) || decide (s.mode = .hold) || decide (s.mode = .shadow)) = true := by
    rcases mode with h | h | h | h <;> rw [h] <;> decide
  have eq := (bankConfirm_eq since).trans (if_pos (by rw [decide_eq_true tried, live, frames, past]; rfl))
  refine ⟨_, congrArg (fun u => Host.Outcome.next (s.after u)) eq, ?_⟩
  exact (bank_of_upd (bankGood_upd (s := s.begin) s.upd.active) _).trans (bank_setBank_self _ (activeBank_lt (s := s) two active))

theorem bankConfirmTimeout_idle (h : (s.bank s.upd.active).st ≠ 3 ∨ s.past (k + s.get F.UPD_CFG_CONFIRM * 1000000000) = false) :
    s.idle .bankConfirmTimeout := by
  refine State.idle_run rfl ((bankConfirm_eq since).trans (if_neg ?_))
  rcases h with h | h
  · rw [decide_eq_false h]
    simp
  · rw [h]
    simp

end Confirm

end Step

/-! ### Recovery (R573, R574) -/

section Recovery
variable {s : State} {off : Nat} {l : List Nat} {bk sg : Bool} {b : Nat}

theorem recoveryBank_lt (two : s.upd.banks.length = 2) : s.recoveryBank < s.upd.banks.length := by
  unfold State.recoveryBank
  rw [two]
  split <;> decide

/-- The answer to an IMAGE part in Recovery. -/
theorem recoveryImagePart_run {u : State} {st : Nat} (h : s.begin.recoveryImage off l bk sg = (u, st)) :
    exec (.recoveryImagePart off l bk sg) s = .next (s.after (u.emit .value [(st : Int)])) :=
  congrArg (fun u => Host.Outcome.next (s.after u)) (congrArg (fun r : State × Nat => r.1.emit .value [(r.2 : Int)]) h)

theorem recoveryImagePart_answers {u : State} {st : Nat} (h : s.begin.recoveryImage off l bk sg = (u, st)) (out : u.out = []) :
    ∃ t, exec (.recoveryImagePart off l bk sg) s = .next t ∧ t.out = [⟨.value, [(st : Int)]⟩] ∧ t.upd = u.upd := by
  have run := recoveryImagePart_run h
  rw [State.emit_of_not_held _ _ rfl] at run
  refine ⟨_, run, ?_, rfl⟩
  show u.out ++ _ = _
  rw [out]
  rfl

theorem recoveryImagePart_refused {st : Nat} (h : s.begin.recoveryImage off l bk sg = (s.begin, st)) :
    ∃ t, exec (.recoveryImagePart off l bk sg) s = .next t ∧ t.out = [⟨.value, [(st : Int)]⟩] ∧ { t with out := s.out } = s := by
  have run := recoveryImagePart_run h
  rw [State.emit_of_not_held _ _ rfl] at run
  exact ⟨_, run, rfl, by cases s; rfl⟩

theorem recoveryImagePart_of_mode (mode : s.mode ≠ .recovery) : ∃ t, exec (.recoveryImagePart off l bk sg) s = .next t ∧
    t.out = [⟨.value, [(St.mode : Int)]⟩] ∧ { t with out := s.out } = s := by
  refine recoveryImagePart_refused (if_pos ?_)
  rw [decide_eq_true (show s.begin.mode ≠ .recovery from mode)]
  rfl

section Open
variable (mode : s.mode = .recovery) (live : s.live = true) (due : s.upd.resetDue = false) (life : s.keys.killed = false ∨ s.keys.life = .returned)
include mode live due life

theorem recoveryImage_open : ¬(decide (s.begin.mode ≠ .recovery) || !s.begin.live || s.begin.upd.resetDue ||
    (s.begin.keys.killed && decide (s.begin.keys.life ≠ .returned))) = true := by
  rw [show s.begin.mode = .recovery from mode, show s.begin.live = true from live, show s.begin.upd.resetDue = false from due]
  have life : s.begin.keys.killed = false ∨ s.begin.keys.life = .returned := life
  rcases life with h | h <;> rw [h] <;> simp

theorem recoveryImagePart_tooLong (long : 1024 < l.length) : ∃ t, exec (.recoveryImagePart off l bk sg) s = .next t ∧
    t.out = [⟨.value, [(St.badArg : Int)]⟩] ∧ { t with out := s.out } = s :=
  recoveryImagePart_refused ((if_neg (recoveryImage_open mode live due life)).trans (if_pos long))

variable (short : l.length ≤ 1024)
include short

theorem recoveryImagePart_first (hb : b = s.recoveryBank) (two : s.upd.banks.length = 2) (first : off = 0) (some_ : l ≠ []) :
    ∃ t, exec (.recoveryImagePart off l bk sg) s = .next t ∧
      t.out = [⟨.value, [(St.done : Int)]⟩] ∧ t.bank b = Bank.write { gen := (s.bank b).gen } l ∧ t.upd.next = l.length := by
  subst hb
  have eq : s.begin.recoveryImage off l bk sg = ((s.begin.setBank s.recoveryBank (Bank.write { gen := (s.bank s.recoveryBank).gen } l)).modUpd
      fun u => { u with next := l.length }, St.done) :=
    (if_neg (recoveryImage_open mode live due life)).trans ((if_neg (not_lt.2 short)).trans (if_pos (by simp [first, some_])))
  obtain ⟨t, run, out, upd⟩ := recoveryImagePart_answers eq rfl
  exact ⟨t, run, out, (bank_of_upd upd _).trans (bank_setBank_self (s := s) _ (recoveryBank_lt two)), by rw [upd]; rfl⟩

/-- A part that is not the next one is refused. -/
theorem recoveryImagePart_outOfOrder (h : off ≠ s.upd.next ∨ s.upd.next = 0) (notFirst : off ≠ 0 ∨ l = []) :
    ∃ t, exec (.recoveryImagePart off l bk sg) s = .next t ∧ t.out = [⟨.value, [(St.badArg : Int)]⟩] ∧ { t with out := s.out } = s := by
  refine recoveryImagePart_refused ((if_neg (recoveryImage_open mode live due life)).trans ((if_neg (not_lt.2 short)).trans
    ((if_neg ?_).trans (if_pos ?_))))
  · rcases notFirst with g | g <;> simp [g]
  · have h : off ≠ s.begin.upd.next ∨ s.begin.upd.next = 0 := h
    rcases h with g | g <;> rw [decide_eq_true g] <;> simp

section Next
variable (notFirst : off ≠ 0) (next : off = s.upd.next)
include notFirst next

/-- The part that is awaited. -/
theorem recoveryImage_next : s.begin.recoveryImage off l bk sg =
    if l ≠ [] then ((s.begin.setBank s.recoveryBank ((s.bank s.recoveryBank).write l)).modUpd fun u => { u with next := off + l.length }, St.done)
    else if s.imageVerdict (s.bank s.recoveryBank) bk sg ≠ 0 then
      ((s.begin.modUpd fun u => { u with next := 0 }).setBank s.recoveryBank { gen := (s.bank s.recoveryBank).gen },
        s.imageVerdict (s.bank s.recoveryBank) bk sg)
    else (((s.begin.modUpd fun u => { u with next := 0 }).setBank s.recoveryBank
      { s.bank s.recoveryBank with st := BankSt.trial, gen := s.highGen + 1, pkgs := [none, none], newest := 0 }).modUpd
        fun u => { u with resetDue := true }, St.done) := by
  refine (if_neg (recoveryImage_open mode live due life)).trans ((if_neg (not_lt.2 short)).trans ((if_neg ?_).trans ((if_neg ?_).trans ?_)))
  · simp [notFirst]
  · have next : off = s.begin.upd.next := next
    rw [← next]
    simp [notFirst]
  · rfl

variable (hb : b = s.recoveryBank) (two : s.upd.banks.length = 2)
include hb two

theorem recoveryImagePart_next (some_ : l ≠ []) : ∃ t, exec (.recoveryImagePart off l bk sg) s = .next t ∧
    t.out = [⟨.value, [(St.done : Int)]⟩] ∧ t.bank b = (s.bank b).write l ∧ t.upd.next = off + l.length := by
  subst hb
  obtain ⟨t, run, out, upd⟩ := recoveryImagePart_answers
    ((recoveryImage_next mode live due life short notFirst next (bk := bk) (sg := sg)).trans (if_pos some_)) rfl
  exact ⟨t, run, out, (bank_of_upd upd _).trans (bank_setBank_self (s := s) _ (recoveryBank_lt two)), by rw [upd]; rfl⟩

variable (end_ : l = [])
include end_

theorem recoveryImagePart_good (good : s.imageVerdict (s.bank b) bk sg = 0) : ∃ t, exec (.recoveryImagePart off l bk sg) s = .next t ∧
    t.out = [⟨.value, [(St.done : Int)]⟩] ∧ (t.bank b).st = 2 ∧ (t.bank b).gen = s.highGen + 1 ∧
    (t.bank b).pkgs = [none, none] ∧ t.upd.resetDue = true := by
  subst hb
  obtain ⟨t, run, out, upd⟩ := recoveryImagePart_answers ((recoveryImage_next mode live due life short notFirst next (bk := bk) (sg := sg)).trans
    ((if_neg (not_not.2 end_)).trans (if_neg (not_not.2 good)))) rfl
  have bank := (bank_of_upd upd s.recoveryBank).trans (bank_setBank_self (s := s) _ (recoveryBank_lt two))
  exact ⟨t, run, out, congrArg Bank.st bank, congrArg Bank.gen bank, congrArg Bank.pkgs bank, by rw [upd]; rfl⟩

theorem recoveryImagePart_bad (bad : s.imageVerdict (s.bank b) bk sg ≠ 0) : ∃ t, exec (.recoveryImagePart off l bk sg) s = .next t ∧
    t.out = [⟨.value, [(s.imageVerdict (s.bank b) bk sg : Int)]⟩] ∧ t.bank b = { gen := (s.bank b).gen } ∧ t.upd.resetDue = false := by
  subst hb
  obtain ⟨t, run, out, upd⟩ := recoveryImagePart_answers ((recoveryImage_next mode live due life short notFirst next (bk := bk) (sg := sg)).trans
    ((if_neg (not_not.2 end_)).trans (if_pos bad))) rfl
  exact ⟨t, run, out, (bank_of_upd upd _).trans (bank_setBank_self (s := s) _ (recoveryBank_lt two)), by rw [upd]; exact due⟩

end Next

end Open

end Recovery

/-- Settles O52: the image, the commands of UPD_CMD, the in-place update, the confirmation and Recovery, each by its own rule. -/
theorem firmwareIsReceivedAndActivated : Obligations.FirmwareIsReceivedAndActivated := by
  unfold Obligations.FirmwareIsReceivedAndActivated
  refine ⟨fun s bk sg b x two active hb hx verifying => ⟨imageVerified_ready two hb hx verifying, imageVerified_drops two hb hx verifying⟩,
    imageVerified_idle, fun s who may live => ?_, fun s => ?_, fun s k since two active => ⟨bankConfirmTimeout_good since two active,
      bankConfirmTimeout_idle since⟩, fun s off l bk sg b hb two => ⟨recoveryImagePart_of_mode, fun mode live due life => ?_⟩⟩
  · exact ⟨updCommands_unconfirmed may, activations_in_frames may live rfl, activateRestart_refused may live rfl, activateRestart_asks may live rfl,
      updCommit_unready may live, updCommit_commits may live, updErase_active may live rfl,
      fun kind two _ => updErase_erases may live rfl kind two⟩
  · exact ⟨fun kind stage two active => ⟨updateC1Ready_good kind stage two active, updateC1Ready_bad kind stage two⟩, c1Ready_idle,
      fun kind stage off two _ => updateSwitchBoundary_switches kind stage off two, updSwitch_idle⟩
  · exact ⟨recoveryImagePart_tooLong mode live due life, fun first some_ short => recoveryImagePart_first mode live due life short hb two first some_,
      recoveryImagePart_outOfOrder mode live due life,
      fun notFirst next some_ short => recoveryImagePart_next mode live due life short notFirst next hb two some_,
      fun notFirst next end_ => ⟨recoveryImagePart_good mode live due life (by rw [end_]; decide) notFirst next hb two end_,
        recoveryImagePart_bad mode live due life (by rw [end_]; decide) notFirst next hb two end_⟩⟩

end Sys2Proof.Machine

/-! ### The copy of the Lead's state (R546, R547, Table 13.2) -/
namespace Sys2Proof.Machine

/-- What an item of the copy changes. -/
abbrev applyParts : List Part :=
  [.prog, .net, .pos, .spl, .meter, .wired, .keys, .upd, .gal, .wild, .block 2, .block 3] ++ declareParts

/-- An item of the copy is applied; what still waits to be applied stands. -/
structure Applied (s t : State) : Prop where
  within : Within applyParts s t
  recs : t.spl.recs = s.spl.recs
  writes : t.spl.writes = s.spl.writes

namespace Applied

theorem refl (s : State) : Applied s s := ⟨.refl _ _, rfl, rfl⟩

theorem trans {s t u : State} (h : Applied s t) (k : Applied t u) : Applied s u :=
  ⟨h.within.trans k.within, k.recs.trans h.recs, k.writes.trans h.writes⟩

theorem foldl {α : Type} {f : State → α → State} (hf : ∀ u x, Applied u (f u x)) : ∀ (l : List α) (s : State), Applied s (l.foldl f s)
  | [], s => .refl s
  | x :: l, s => (hf s x).trans (foldl hf l (f s x))

theorem of_within {D : List Part} {s t : State} (h : Within D s t) (sub : ∀ c ∈ D, c ∈ applyParts := by decide) (spl : .spl ∉ D := by decide) :
    Applied s t :=
  ⟨h.mono sub, h.spl_proj Splice.recs (fun _ => rfl) spl, h.spl_proj Splice.writes (fun _ => rfl) spl⟩

theorem ite {s t u : State} {c : Prop} [Decidable c] (h : Applied s t) (k : Applied s u) : Applied s (if c then t else u) := by
  split
  · exact h
  · exact k

end Applied

theorem applied_modProg (s : State) (g : Prog → Prog) : Applied s (s.modProg g) :=
  .of_within (within_modProg (D := [.prog, .slots]) s g (by decide) (by decide))

theorem applied_modDrv (s : State) (g : DriveSt → DriveSt) : Applied s (s.modDrv g) :=
  .of_within (within_modDrv (D := [.drv]) s g (by decide))

theorem applied_modWired (s : State) (g : Wired → Wired) : Applied s (s.modWired g) :=
  .of_within (within_modWired (D := [.wired, .asked]) s g (by decide) (by decide))

theorem applied_modUpd (s : State) (g : Update → Update) : Applied s (s.modUpd g) := .of_within (within_modUpd (D := [.upd]) s g (by decide))

theorem applied_modSpl (s : State) {g : Splice → Splice} (recs : (g s.spl).recs = s.spl.recs) (writes : (g s.spl).writes = s.spl.writes) :
    Applied s (s.modSpl g) := ⟨within_modSpl s g (by decide) (by decide), recs, writes⟩

theorem permit_applied (s : State) : Applied s s.permit := by
  have first : Within [.regs, .block 0x0D, .out] s s.permitted := by
    unfold State.permitted
    simp (disch := decide)
  exact (Applied.of_within first).trans (.of_within (permit_eq _).1)

theorem storePackage_applied (s : State) (p : Package) : Applied s (s.storePackage p) := by
  unfold State.storePackage State.setBank
  exact applied_modUpd s _

theorem copyProg_applied (s : State) (p : Prog) : Applied s (s.copyProg p) := by
  unfold State.copyProg
  extract_lets latch u v
  have stored : Applied s u := by
    unfold u
    split
    · exact .ite (.refl s) (storePackage_applied s _)
    · exact .refl s
  have taken : Applied u v := by
    unfold v
    exact (applied_modSpl u (g := fun x => { x with leadLatch := p.lastLatch }) rfl rfl).trans (applied_modProg _ _)
  exact (stored.trans taken).trans (.of_within (within_maskPlinth v))

theorem adoptMeter_applied (s : State) (n : Nat) (fs : List Feeder) (ps : List Pulse) : Applied s (s.adoptMeter n fs ps) :=
  .ite (.refl s) (.of_within (within_modMeter (D := [.meter]) s _ (by decide)))

theorem copySession_applied (s : State) (c : Nat) (x : Session) : Applied s (s.copySession c x) := by
  have set_ : Applied s (s.setSession c x) := .of_within (within_setSession (D := [.sessions]) s c x (by decide))
  exact .ite (.refl s) (.ite (set_.trans (.of_within (within_modPos (D := [.pos]) _ _ (by decide)))) set_)

theorem putKey_applied (s : State) (key v : Nat) : Applied s (putKey s key v) := by
  unfold putKey
  split
  · split
    · exact .of_within (within_put_wild (D := [.regs, .wild]) s _ v (by decide) (by decide))
    · exact .refl s
  · exact .refl s

theorem lanyard_applied (s : State) (was latched : Nat) (l : List Nat) :
    Applied s (l.foldl (fun (s : State) b => if bit latched b && !bit was b then s.stopCause b false else s) s) :=
  .foldl (fun u b => .ite (.of_within (within_stopCause u b false)) (.refl u)) l s

theorem applyItem_applied (s : State) (i : CopyItem) : Applied s (s.applyItem i) := by
  cases i with
  | write _ key v => unfold State.applyItem State.putAreas; exact applied_modProg s _
  | prog p => exact copyProg_applied s p
  | light l => exact .of_within (within_modLight (D := [.light]) s (fun _ => l) (by decide))
  | net n => exact .of_within (within_modNet (D := [.net]) s (fun _ => n) (by decide))
  | drive d => unfold State.applyItem; exact applied_modDrv s _
  | fleet f => exact .of_within (within_modFleet (D := [.fleet]) s (fun _ => f) (by decide))
  | lanyard _ latched => exact lanyard_applied s _ latched _
  | lanyardReset => exact .ite (permit_applied s) (.refl s)
  | meter n fs ps => exact adoptMeter_applied s n fs ps
  | session c x => exact copySession_applied s c x
  | mode m => exact .ite (applied_modSpl s rfl rfl) (.refl s)
  | regs l =>
    refine .foldl (fun u q => ?_) l s
    exact .ite (.refl u) (putKey_applied u q.1 q.2)
  | dali l => unfold State.applyItem; exact applied_modWired s _
  | keySlot k x => exact .ite (.of_within (within_modKeys (D := [.keys]) s _ (by decide))) (.refl s)

theorem applyItems_applied (l : List CopyItem) (s : State) : Applied s (l.foldl State.applyItem s) := .foldl applyItem_applied l s

/-- The records of the frame are applied, and none waits. -/
theorem applyRecs_applied (s : State) : Applied (s.modSpl fun x => { x with recs := [] }) s.applyRecs := applyItems_applied _ _

/-! ### What reaches a Follower -/

section Copy
variable {s : State} (role : s.role = .follower) (link : s.linkUp = true)
include role link

theorem copyRx_open : ¬(decide (s.begin.role ≠ .follower) || !s.begin.linkUp) = true := by
  rw [show s.begin.role = .follower from role, show s.begin.linkUp = true from link]
  decide

theorem copyRx_acknowledged (n : Nat) (f : State → State) : s.begin.copyRx n true f = (f s.begin).emitNow .copyAck [(n : Int)] :=
  (if_neg (copyRx_open role link)).trans (if_neg (by decide))

theorem copyRecordRx_unauthentic (n : Nat) (x : CopyItem) : ∃ t, exec (.copyRecordRx n false x) s = .next t ∧ t.spl = s.spl ∧ t.out = [] ∧
    t.get F.SPL_CNT_AUTH_FAIL = min 255 (s.get F.SPL_CNT_AUTH_FAIL + 1) := by
  have eq : s.begin.copyRecord n false x = s.begin.inc F.SPL_CNT_AUTH_FAIL := (if_neg (copyRx_open role link)).trans (if_pos rfl)
  exact ⟨_, congrArg (fun u => Host.Outcome.next (s.after u)) eq, rfl, rfl, State.get_inc_byte s.begin rfl rfl⟩

omit role link in
/-- What is no write of a section waits for the frame mark. -/
theorem copyRecord_record (u : State) (n : Nat) {x : CopyItem} (no : ∀ a k v, x ≠ .write a k v) :
    u.copyRecord n true x = u.copyRx n true fun s => s.modSpl fun y => { y with recs := y.recs ++ [x] } := by
  cases x with
  | write a k v => exact absurd rfl (no a k v)
  | _ => rfl

theorem copyRecordRx_run {n : Nat} {x : CopyItem} {f : State → State} (eq : s.begin.copyRecord n true x = s.begin.copyRx n true f) :
    exec (.copyRecordRx n true x) s = .next (s.after ((f s.begin).emitNow .copyAck [(n : Int)])) :=
  congrArg (fun u => Host.Outcome.next (s.after u)) (eq.trans (copyRx_acknowledged role link n f))

theorem copyRecordRx_waits (n : Nat) (x : CopyItem) : ∃ t, exec (.copyRecordRx n true x) s = .next t ∧ t.out = [⟨.copyAck, [(n : Int)]⟩] ∧
    t.prog = s.prog ∧ t.regs = s.regs ∧
    ((∃ a k v, x = .write a k v) → t.spl = { s.spl with writes := s.spl.writes ++ [x] }) ∧
    ((∀ a k v, x ≠ .write a k v) → t.spl = { s.spl with recs := s.spl.recs ++ [x] }) := by
  by_cases write : ∃ a k v, x = .write a k v
  · obtain ⟨a, k, v, rfl⟩ := write
    exact ⟨_, copyRecordRx_run role link (f := fun s => s.modSpl fun y => { y with writes := y.writes ++ [.write a k v] }) rfl, rfl, rfl, rfl,
      fun _ => rfl, fun no => absurd rfl (no a k v)⟩
  · have no : ∀ a k v, x ≠ .write a k v := fun a k v h => write ⟨a, k, v, h⟩
    exact ⟨_, copyRecordRx_run role link (copyRecord_record s.begin n no), rfl, rfl, rfl, fun h => absurd h write, fun _ => rfl⟩

theorem commitMarkRx_applies (n : Nat) : ∃ t, exec (.commitMarkRx n) s = .next t ∧ t.spl.writes = [] ∧ ⟨.copyAck, [(n : Int)]⟩ ∈ t.out := by
  have eq : s.begin.commitMark n = _ := copyRx_acknowledged role link n _
  refine ⟨_, congrArg (fun u => Host.Outcome.next (s.after u)) eq, ?_, List.mem_append_right _ (List.mem_singleton_self _)⟩
  exact (applyItems_applied s.spl.writes (s.begin.modSpl fun x => { x with writes := [] })).writes

omit role link in
/-- SYNCED is left. -/
theorem toStale_sync {u : State} (h : u.get F.SPL_STAT_SYNC = 2) : u.toStale.get F.SPL_STAT_SYNC = 3 := by
  unfold State.toStale
  rw [if_neg (not_not.2 h), State.log_get _ _ _ _ _ (by decide), State.get_put_self]
  rfl

omit role link in
theorem within_toStale (u : State) : Within (.block 0x16 :: logParts) u u.toStale := by
  unfold State.toStale
  split
  · exact .refl _ _
  · exact (within_put u 3 (by decide) (by decide)).trans (within_log _ _ _ _ _ (by decide))

theorem frameMarkRx_marks (n num : Nat) (prot : Bool) (none_ : s.spl.recs = []) (sync : s.get F.SPL_STAT_SYNC = 2) :
    ∃ t, exec (.frameMarkRx n num prot) s = .next t ∧ t.spl.leadLast = num ∧ ⟨.copyAck, [(n : Int)]⟩ ∈ t.out ∧
      t.get F.SPL_STAT_SYNC = if num = s.num ∧ prot = true then 2 else 3 := by
  let u := s.begin.applyRecs.modSpl fun x => { x with leadLast := num }
  have eq : s.begin.frameMark n num prot = (if (decide (num ≠ u.num) || !prot) = true then u.toStale else u).emitNow .copyAck [(n : Int)] :=
    copyRx_acknowledged role link n _
  have applied : s.begin.applyRecs = s.begin.modSpl fun x => { x with recs := [] } := by
    have none_ : s.begin.spl.recs = [] := none_
    unfold State.applyRecs
    rw [none_]
    rfl
  have hnum : u.num = s.num := by unfold u; rw [applied]; rfl
  have hsync : u.get F.SPL_STAT_SYNC = 2 := by unfold u; rw [applied]; exact sync
  have hlast : u.spl.leadLast = num := rfl
  generalize u = u at eq hnum hsync hlast
  by_cases same : num = s.num ∧ prot = true
  · rw [if_neg (by rw [hnum]; simp [same])] at eq
    refine ⟨_, congrArg (fun u => Host.Outcome.next (s.after u)) eq, hlast, List.mem_append_right _ (List.mem_singleton_self _), ?_⟩
    rw [if_pos same]
    exact hsync
  · rw [if_pos (by rw [hnum]; cases prot <;> simp_all)] at eq
    refine ⟨_, congrArg (fun u => Host.Outcome.next (s.after u)) eq, ?_, List.mem_append_right _ (List.mem_singleton_self _), ?_⟩
    · exact ((within_toStale u).spl_proj Splice.leadLast (fun _ => rfl)).trans hlast
    · rw [if_neg same]
      exact toStale_sync hsync

end Copy

theorem copies_idle (s : State) (n num : Nat) (a p : Bool) (x : CopyItem) (h : s.role ≠ .follower ∨ s.linkUp = false) :
    s.idle (.copyRecordRx n a x) ∧ s.idle (.commitMarkRx n) ∧ s.idle (.frameMarkRx n num p) := by
  have closed : (decide (s.begin.role ≠ .follower) || !s.begin.linkUp) = true := by
    have h : s.begin.role ≠ .follower ∨ s.begin.linkUp = false := h
    rcases h with h | h
    · rw [decide_eq_true h]; rfl
    · rw [h]; simp
  exact ⟨State.idle_run rfl (if_pos closed), State.idle_run rfl (if_pos closed), State.idle_run rfl (if_pos closed)⟩

theorem fullStateApplied_syncs {s : State} (role : s.role = .follower) (sync : s.get F.SPL_STAT_SYNC = 1) :
    ∃ t, exec .fullStateApplied s = .next t ∧ t.get F.SPL_STAT_SYNC = 2 ∧ t.spl.recs = [] := by
  have eq : s.begin.fullState = (s.begin.applyRecs.put F.SPL_STAT_SYNC 2).log Sev.info 0 F.SPL_STAT_SYNC [] := by
    refine if_pos ?_
    rw [show s.begin.role = .follower from role, show s.begin.get F.SPL_STAT_SYNC = 1 from sync]
    rfl
  have recs : s.begin.applyRecs.spl.recs = [] := (applyRecs_applied s.begin).recs
  generalize s.begin.applyRecs = u at eq recs
  refine ⟨_, congrArg (fun u => Host.Outcome.next (s.after u)) eq, ?_, ?_⟩
  · show ((u.put F.SPL_STAT_SYNC 2).log Sev.info 0 F.SPL_STAT_SYNC []).get F.SPL_STAT_SYNC = 2
    rw [State.log_get _ _ _ _ _ (by decide), State.get_put_self]
    rfl
  · exact ((within_log (D := logParts) (u.put F.SPL_STAT_SYNC 2) _ _ _ _ fun _ h => h).spl_proj Splice.recs (fun _ => rfl)).trans recs

theorem fullStateApplied_idle {s : State} (h : s.role ≠ .follower ∨ s.get F.SPL_STAT_SYNC ≠ 1) : s.idle .fullStateApplied := by
  refine State.idle_run rfl (if_neg ?_)
  have h : s.begin.role ≠ .follower ∨ s.begin.get F.SPL_STAT_SYNC ≠ 1 := h
  rcases h with h | h <;> rw [decide_eq_false h] <;> simp

/-! ### Held effects (R548 to R550) -/

theorem within_spiReady (s : State) (l : List Int) : Within [.out, .asked] s (s.spiReady l) :=
  (within_modWired_asked s (g := fun w => { w with spiResp := some l, spiRdy := true }) (fun _ => rfl) (by decide)).trans
    (within_emitNow _ _ _ (by decide))

/-- A held effect leaves. -/
def State.letGo (s : State) (h : HeldOut) : State :=
  if s.tooOld h then s
  else if h.out.kind = .spiReply then s.spiReady h.out.args
  else s.emitNow h.out.kind h.out.args

theorem within_letGo (s : State) (h : HeldOut) : Within [.out, .asked] s (s.letGo h) := by
  unfold State.letGo
  split
  · exact .refl _ _
  · split
    · exact within_spiReady s _
    · exact within_emitNow s _ _ (by decide)

theorem release_eq (s : State) (ok : HeldOut → Bool) : s.release ok =
    (s.spl.held.filter ok).foldl State.letGo (s.modSpl fun x => { x with held := x.held.filter fun h => !ok h }) := rfl

theorem within_modSpl_held {D : List Part} (s : State) {g : Splice → Splice} (hg : ∀ x : Splice, { g x with held := [] } = { x with held := [] })
    (h : .held ∈ D) : Within D s (s.modSpl g) := by
  refine .of_same rfl fun c hc => ?_
  cases c with
  | held => exact absurd h hc
  | spl => exact hg s.spl
  | asked => exact ⟨rfl, rfl, rfl⟩
  | cores => exact ⟨rfl, rfl⟩
  | cmdStat | block _ | wild => trivial
  | _ => rfl

theorem within_release (s : State) (ok : HeldOut → Bool) : Within sendParts s (s.release ok) := by
  rw [release_eq]
  exact .foldl (within_modSpl_held s (fun _ => rfl) (by decide)) fun u h _ => (within_letGo u h).mono (by decide)

theorem release_held (s : State) (ok : HeldOut → Bool) : (s.release ok).spl.held = s.spl.held.filter fun h => !ok h := by
  rw [release_eq]
  exact (Within.foldl (D := [.out, .asked]) (.refl _ _) fun u h _ => within_letGo u h).same .held (by decide)

/-- A held effect whose instant has not passed leaves as it was decided. -/
theorem letGo_emits {s : State} {h : HeldOut} (w : State) (kind : h.out.kind ≠ .spiReply) (young : s.tooOld h = false) (now : w.now = s.now) :
    w.letGo h = w.emitNow h.out.kind h.out.args := by
  have young : w.tooOld h = false := by
    unfold State.tooOld at young ⊢
    rw [now]
    exact young
  unfold State.letGo
  rw [young, if_neg Bool.false_ne_true, if_neg kind]

theorem copyAckRx_releases (s : State) (n : Nat) (h : HeldOut) (role : s.role = .lead) (held : s.spl.held = [h])
    (known : (s.spl.unacked.filter (fun u => decide (n < u))).all (fun u => decide (h.need < u)) = true) (young : s.tooOld h = false)
    (kind : h.out.kind ≠ .spiReply) : ∃ t, exec (.copyAckRx n) s = .next t ∧ t.out = [h.out] ∧ t.spl.held = [] ∧
      t.spl.unacked = s.spl.unacked.filter (fun u => decide (n < u)) ∧ t.regs = s.regs := by
  let left := s.spl.unacked.filter fun u => decide (n < u)
  let ok : HeldOut → Bool := fun h => left.all fun u => decide (h.need < u)
  let u := s.begin.modSpl fun x => { x with unacked := left }
  have goes : u.spl.held.filter ok = [h] := by
    show s.spl.held.filter ok = [h]
    rw [held]
    exact List.filter_cons_of_pos known
  have stays : (u.spl.held.filter fun h => !ok h) = [] := by
    show (s.spl.held.filter fun h => !ok h) = []
    rw [held]
    exact List.filter_cons_of_neg (by rw [show ok h = true from known]; decide)
  let w := u.modSpl fun x => { x with held := x.held.filter fun h => !ok h }
  have eq : s.begin.copyAck n = w.emitNow h.out.kind h.out.args := by
    refine (if_neg (not_not.2 role)).trans ((release_eq u ok).trans ?_)
    rw [goes]
    exact letGo_emits w kind young rfl
  have held : w.spl.held = [] := stays
  have unacked : w.spl.unacked = left := rfl
  have regs : w.regs = s.regs := rfl
  have out : w.out = [] := rfl
  generalize w = w at eq held unacked regs out
  refine ⟨_, congrArg (fun u => Host.Outcome.next (s.after u)) eq, ?_, held, unacked, regs⟩
  show w.out ++ [h.out] = [h.out]
  rw [out]
  rfl

theorem copyAcks_idle (s : State) (n : Nat) (role : s.role ≠ .lead) : s.idle (.copyAckRx n) ∧ s.idle .copyAckTimeout := by
  refine ⟨State.idle_run rfl (if_pos role), State.idle_run rfl (if_neg ?_)⟩
  rw [decide_eq_false (show ¬s.begin.role = .lead from role)]
  exact Bool.false_ne_true

/-- PROTECTED has fallen. -/
theorem unprotect_falls {s : State} (h : s.get F.SPL_STAT_PROTECTED ≠ 0) :
    s.unprotect.get F.SPL_STAT_PROTECTED = 0 ∧ s.unprotect.spl.unacked = [] ∧ s.unprotect.spl.held = [] := by
  let u := (s.put F.SPL_STAT_PROTECTED 0).modSpl fun x => { x with unacked := [] }
  have eq : s.unprotect = (u.release fun _ => true).log Sev.error 0 F.SPL_STAT_PROTECTED [] := if_neg (by rw [State.flag_on h]; decide)
  have log := within_log (D := logParts) (u.release fun _ => true) Sev.error 0 F.SPL_STAT_PROTECTED [] fun _ h => h
  have rel := within_release u fun _ => true
  rw [eq]
  refine ⟨?_, ?_, ?_⟩
  · rw [log.get, rel.get]
    exact State.get_put_self s F.SPL_STAT_PROTECTED 0
  · exact (log.spl_proj Splice.unacked (fun _ => rfl)).trans (rel.spl_proj Splice.unacked (fun _ => rfl))
  · refine (log.same .held (by decide)).trans ((release_held u _).trans ?_)
    exact List.filter_false _

theorem unprotect_stays {s : State} (h : s.get F.SPL_STAT_PROTECTED = 0) : s.unprotect = s := if_pos (by rw [State.flag_off h]; rfl)

theorem within_unprotect (s : State) : Within ([.spl, .block 0x16] ++ sendParts ++ logParts) s s.unprotect := by
  unfold State.unprotect
  split
  · exact .refl _ _
  · have first : Within ([.spl, .block 0x16] ++ sendParts ++ logParts) s ((s.put F.SPL_STAT_PROTECTED 0).modSpl fun x => { x with unacked := [] }) :=
      (within_put s 0 (by decide) (by decide)).trans (within_modSpl _ _ (by decide) (by decide))
    exact (first.trans ((within_release _ _).mono (by decide))).trans (within_log _ _ _ _ _ (by decide))

theorem unprotect_get {s : State} {f : Fld} (part : f.part ∉ logParts) (h : f.key ≠ F.SPL_STAT_PROTECTED.key) : s.unprotect.get f = s.get f := by
  unfold State.unprotect
  split
  · rfl
  · let u := (s.put F.SPL_STAT_PROTECTED 0).modSpl fun x => { x with unacked := [] }
    have log := within_log (D := logParts) (u.release fun _ => true) Sev.error 0 F.SPL_STAT_PROTECTED [] fun _ h => h
    have rel : (u.release fun _ => true).get f = u.get f := by
      rw [State.get, (within_release u fun _ => true).regs, ← State.get]
    exact (log.get part).trans (rel.trans (State.get_put_ne s F.SPL_STAT_PROTECTED f 0 h))

theorem copyAckTimeout_unprotects {s : State} (role : s.role = .lead) (waits : s.spl.unacked ≠ []) (h : s.get F.SPL_STAT_PROTECTED ≠ 0) :
    ∃ t, exec .copyAckTimeout s = .next t ∧ t.get F.SPL_STAT_PROTECTED = 0 ∧ t.spl.unacked = [] ∧ t.spl.held = [] := by
  have eq : (s.begin.when (decide (s.begin.role = .lead) && decide (s.begin.spl.unacked ≠ [])) State.unprotect) = s.begin.unprotect := by
    refine if_pos ?_
    rw [show s.begin.role = .lead from role, decide_eq_true (show s.begin.spl.unacked ≠ [] from waits)]
    rfl
  exact ⟨_, congrArg (fun u => Host.Outcome.next (s.after u)) eq, unprotect_falls (s := s.begin) h⟩

theorem copyAckTimeout_idle {s : State} (h : s.get F.SPL_STAT_PROTECTED = 0) : s.idle .copyAckTimeout := by
  refine State.idle_run rfl ?_
  show s.begin.when _ State.unprotect = s.begin
  unfold State.when
  rw [unprotect_stays (s := s.begin) h, ite_self]

end Sys2Proof.Machine

/-! ### Heartbeats and synchronism (R542, R551; O50) -/
namespace Sys2Proof.Machine

theorem spliceHeartbeatTx_beats (s : State) (link : s.linkUp = true) : ∃ t l, exec .spliceHeartbeatTx s = .next t ∧
    t.out = [⟨.spliceHeartbeat, [(s.mode.code : Int), s.role.code, s.keys.life.code, s.num] ++ l⟩] ∧ { t with out := s.out } = s := by
  have eq : s.begin.splHeartbeat = _ := if_neg (by rw [show s.begin.linkUp = true from link]; decide)
  exact ⟨_, _, congrArg (fun u => Host.Outcome.next (s.after u)) eq, rfl, by cases s; rfl⟩

theorem heartbeats_idle (s : State) (b : Heartbeat) (link : s.linkUp = false) : s.idle .spliceHeartbeatTx ∧ s.idle (.spliceHeartbeatRx b) := by
  have down : (!s.begin.linkUp) = true := by rw [show s.begin.linkUp = false from link]; rfl
  exact ⟨State.idle_run rfl (if_pos down), State.idle_run rfl (if_pos down)⟩

theorem spliceHeartbeatRx_unauthentic (s : State) (b : Heartbeat) (link : s.linkUp = true) (auth : b.auth = false) :
    ∃ t, exec (.spliceHeartbeatRx b) s = .next t ∧ t.spl = s.spl ∧ t.get F.SPL_CNT_AUTH_FAIL = min 255 (s.get F.SPL_CNT_AUTH_FAIL + 1) := by
  have eq : s.begin.splHeartbeatRx b = s.begin.inc F.SPL_CNT_AUTH_FAIL :=
    (if_neg (by rw [show s.begin.linkUp = true from link]; decide)).trans (if_pos (by rw [auth]; rfl))
  exact ⟨_, congrArg (fun u => Host.Outcome.next (s.after u)) eq, rfl, State.get_inc_byte s.begin rfl rfl⟩

/-! ### What a heartbeat shows of the partner -/

/-- The registers that a heartbeat writes. -/
def State.beatFields (s : State) (b : Heartbeat) : State :=
  (((((s.put F.SPL_STAT_PARTNER_HB 1).put F.SPL_STAT_LINK 2).put F.SPL_PEER_MODE b.mode.code).put F.SPL_PEER_ROLE b.role.code).put
    F.SPL_PEER_LIFE b.life.code).put F.SPL_PEER_COPYFMT b.copyfmt

/-- A heartbeat of the partner is shown. -/
def State.beatShown (s : State) (b : Heartbeat) : State :=
  let u := (s.beatFields b).modSpl fun x => { x with hbSync := b.sync, partnerLead := b.role = .lead, hbAt := (s.beatFields b).mono }
  let v := if (decide (b.role = .lead) && decide (b.mode ≠ .basic)) = true then u.put F.SPL_STAT_ROLE_IN 1 else u
  if b.role = .lead then v.modSpl fun x => { x with takeAt := if x.relinquished then x.takeAt else none } else v

theorem splHeartbeatRx_eq {s : State} {b : Heartbeat} (link : s.linkUp = true) (auth : b.auth = true) : s.splHeartbeatRx b =
    if (decide ((s.beatShown b).role = .follower) && decide (b.role = .lead) && (s.beatShown b).live) = true then (s.beatShown b).leadHeartbeat b
    else if (decide ((s.beatShown b).role = .lead) && decide (b.role = .follower) && (s.beatShown b).live) = true then
      (s.beatShown b).followerHeartbeat b s.spl.hbSync
    else s.beatShown b := by
  refine (if_neg (by rw [link]; decide)).trans ((if_neg (by rw [auth]; decide)).trans ?_)
  rfl

section Shown
variable {s : State} {b : Heartbeat}

theorem within_beatShown : Within [.spl, .held, .regs, .block 0x16] s (s.beatShown b) := by
  have fields : Within [.spl, .held, .regs, .block 0x16] s (s.beatFields b) := by
    unfold State.beatFields
    simp (disch := decide)
  unfold State.beatShown
  extract_lets u v
  have hu : Within [.spl, .held, .regs, .block 0x16] s u := fields.trans (within_modSpl _ _ (by decide) (by decide))
  have hv : Within [.spl, .held, .regs, .block 0x16] s v := by
    unfold v
    split
    · exact hu.trans (within_put _ _ (by decide) (by decide))
    · exact hu
  split
  · exact hv.trans (within_modSpl _ _ (by decide) (by decide))
  · exact hv

theorem beatShown_hbSync : (s.beatShown b).spl.hbSync = b.sync := by
  unfold State.beatShown
  extract_lets u v
  have hv : v.spl.hbSync = b.sync := by
    unfold v
    split <;> rfl
  split <;> exact hv

/-- A field that is not ROLE_IN is as the heartbeat wrote it. -/
theorem beatShown_get {f : Fld} (h : f.key ≠ F.SPL_STAT_ROLE_IN.key) : (s.beatShown b).get f = (s.beatFields b).get f := by
  unfold State.beatShown
  extract_lets u v
  have hv : v.get f = (s.beatFields b).get f := by
    unfold v
    split
    · exact State.get_put_ne u _ _ _ h
    · rfl
  split <;> exact hv

/-- The other fields stand. -/
theorem beatFields_get {f : Fld} (h : ∀ g ∈ [F.SPL_STAT_PARTNER_HB, F.SPL_STAT_LINK, F.SPL_PEER_MODE, F.SPL_PEER_ROLE, F.SPL_PEER_LIFE,
    F.SPL_PEER_COPYFMT], f.key ≠ g.key) : (s.beatFields b).get f = s.get f := by
  have ne : ∀ g ∈ [F.SPL_STAT_PARTNER_HB, F.SPL_STAT_LINK, F.SPL_PEER_MODE, F.SPL_PEER_ROLE, F.SPL_PEER_LIFE, F.SPL_PEER_COPYFMT],
    ∀ (u : State) v, (u.put g v).get f = u.get f := fun g hg u v => u.get_put_ne _ _ _ (h g hg)
  unfold State.beatFields
  rw [ne _ (by simp), ne _ (by simp), ne _ (by simp), ne _ (by simp), ne _ (by simp), ne _ (by simp)]

theorem beatFields_partner : (s.beatFields b).get F.SPL_STAT_PARTNER_HB = 1 ∧ (s.beatFields b).get F.SPL_PEER_MODE = b.mode.code % 8 ∧
    (s.beatFields b).get F.SPL_PEER_LIFE = b.life.code % 8 := by
  unfold State.beatFields
  simp (disch := decide) only [State.get_put_ne, State.get_put_self]
  exact ⟨rfl, rfl, rfl⟩

theorem beatShown_sync : (s.beatShown b).get F.SPL_STAT_SYNC = s.get F.SPL_STAT_SYNC :=
  (beatShown_get (by decide)).trans (beatFields_get (by decide))

theorem beatShown_live : (s.beatShown b).live = s.live := by
  have w := within_beatShown (s := s) (b := b)
  unfold State.live
  rw [w.phase, w.keys]

/-- What a Follower checks is not what the heartbeat writes. -/
theorem hbReason_beatShown : (s.beatShown b).hbReason b = s.hbReason b := by
  have w := within_beatShown (s := s) (b := b)
  have unit : (s.beatShown b).get F.SPL_CFG_UNIT = s.get F.SPL_CFG_UNIT := (beatShown_get (by decide)).trans (beatFields_get (by decide))
  have pkg : (s.beatShown b).ownPkg = s.ownPkg := by
    unfold State.ownPkg
    rw [w.prog_proj Prog.pkg fun _ => rfl]
  have fmt : (s.beatShown b).ownFmt = s.ownFmt := by
    unfold State.ownFmt State.bank
    rw [w.upd]
  have aligned : (s.beatShown b).aligned = s.aligned := by
    unfold State.aligned State.flag
    rw [w.get]
  unfold State.hbReason
  rw [unit, pkg, fmt, aligned, w.keys, w.num]

end Shown

/-! ### A Lead's heartbeat at a Follower (Table 13.3) -/

section Lead
variable {s : State} {b : Heartbeat}

theorem hbReason_small : s.hbReason b < 256 := by
  unfold State.hbReason
  dsimp only
  split_ifs <;> decide

theorem leadHeartbeat_synced (sync : s.get F.SPL_STAT_SYNC = 2) : (s.leadHeartbeat b).get F.SPL_STAT_SYNC = if b.prot = true then 2 else 3 := by
  unfold State.leadHeartbeat
  rw [sync]
  show (if b.prot = true then s else s.toStale).get F.SPL_STAT_SYNC = _
  split
  · exact sync
  · exact toStale_sync sync

theorem leadHeartbeat_unsynced (sync : s.get F.SPL_STAT_SYNC = 0 ∨ s.get F.SPL_STAT_SYNC = 3) : s.leadHeartbeat b =
    if (decide (s.hbReason b = 0) && b.vipOk) = true then
      ((s.put F.SPL_STAT_SYNC 1).put F.SPL_STAT_REASON 0).modSpl fun x => { x with recs := [], writes := [], relinquished := false }
    else (s.put F.SPL_STAT_SYNC 0).put F.SPL_STAT_REASON (s.hbReason b) := by
  unfold State.leadHeartbeat
  rcases sync with h | h
  · rw [h]
    rfl
  · rw [h]
    rfl

theorem within_leadHeartbeat : Within ([.spl, .held, .block 0x16] ++ logParts) s (s.leadHeartbeat b) := by
  unfold State.leadHeartbeat
  split
  · split
    · exact .refl _ _
    · exact (within_toStale s).mono (by decide)
  · exact .refl _ _
  · dsimp only
    split <;> simp (disch := decide)

theorem leadHeartbeat_get {f : Fld} (part : f.part ∉ logParts) (sync : f.key ≠ F.SPL_STAT_SYNC.key) (reason : f.key ≠ F.SPL_STAT_REASON.key) :
    (s.leadHeartbeat b).get f = s.get f := by
  unfold State.leadHeartbeat
  split
  · split
    · rfl
    · unfold State.toStale
      split
      · rfl
      · rw [(within_log (D := logParts) (s.put F.SPL_STAT_SYNC 3) _ _ _ _ fun _ h => h).get part, State.get_put_ne _ _ _ _ sync]
  · rfl
  · dsimp only
    split
    · exact (State.get_put_ne (s.put F.SPL_STAT_SYNC 1) F.SPL_STAT_REASON f 0 reason).trans (State.get_put_ne s F.SPL_STAT_SYNC f 1 sync)
    · rw [State.get_put_ne _ _ _ _ reason, State.get_put_ne _ _ _ _ sync]

theorem leadHeartbeat_hbSync : (s.leadHeartbeat b).spl.hbSync = s.spl.hbSync := by
  unfold State.leadHeartbeat
  split
  · split
    · rfl
    · exact (within_toStale s).spl_proj Splice.hbSync fun _ => rfl
  · rfl
  · dsimp only
    split <;> rfl

end Lead

/-! ### A Follower's heartbeat at its Lead (R550, R561, R571) -/

/-- What follows a Follower that is no longer eligible, or eligible again. -/
abbrev partnerParts : List Part := .spl :: updParts

/-- The heartbeat last taken stands. -/
theorem swapAborted_hbSync (s : State) : s.swapAborted.spl.hbSync = s.spl.hbSync := by
  unfold State.swapAborted
  split
  · rfl
  · extract_lets o u
    have hu : u.spl.hbSync = s.spl.hbSync := (within_finish (D := finishParts) (s.modSpl fun x => { x with swapAt := none, swapBy := .quiet }) o
      St.aborted [] fun _ h => h).spl_proj Splice.hbSync fun _ => rfl
    split
    · have off : u.pairUpdateOff.spl.hbSync = u.spl.hbSync :=
        (within_emit (D := emitParts) (u.modSpl fun x => { x with swapAt := none }) .spliceImage [0] fun _ h => h).spl_proj Splice.hbSync fun _ => rfl
      exact ((within_updEnd u.pairUpdateOff _ _).spl_proj Splice.hbSync fun _ => rfl).trans (off.trans hu)
    · exact hu

theorem followPartner_kept (s : State) : Within partnerParts s s.followPartner ∧ s.followPartner.spl.hbSync = s.spl.hbSync := by
  unfold State.followPartner
  dsimp only
  split
  · split
    · split
      · exact ⟨.refl _ _, rfl⟩
      · exact ⟨within_modUpd s _ (by decide), rfl⟩
    · split
      · exact ⟨(within_modUpd s _ (by decide)).trans (within_modSpl _ _ (by decide) (by decide)), rfl⟩
      · exact ⟨.refl _ _, rfl⟩
  · split
    · exact ⟨within_swapAborted s, swapAborted_hbSync s⟩
    · exact ⟨.refl _ _, rfl⟩

/-- SYNC as the Follower reports it, and PROTECTED with it. -/
def State.reported (s : State) (b : Heartbeat) (old : Nat) : State :=
  let u := s.put F.SPL_STAT_SYNC b.sync
  let v := if (decide (b.sync = 2) && decide (old ≠ 2)) = true then u.put F.SPL_STAT_PROTECTED 1 else u
  if (decide (b.sync = 1) && decide (old ≠ 1)) = true then v.modSpl fun x => { x with formed := true } else v

section Follower
variable {s : State} {b : Heartbeat} {old : Nat}

theorem followerHeartbeat_eq : s.followerHeartbeat b old = (s.reported b old).followPartner := rfl

theorem reported_hbSync : (s.reported b old).spl.hbSync = s.spl.hbSync := by
  unfold State.reported
  extract_lets u v
  have hv : v.spl.hbSync = s.spl.hbSync := by
    unfold v
    split <;> rfl
  split <;> exact hv

theorem reported_get {f : Fld} (sync : f.key ≠ F.SPL_STAT_SYNC.key) (prot : f.key ≠ F.SPL_STAT_PROTECTED.key) :
    (s.reported b old).get f = s.get f := by
  unfold State.reported
  extract_lets u v
  have hv : v.get f = s.get f := by
    unfold v
    split
    · exact (u.get_put_ne _ _ _ prot).trans (s.get_put_ne _ _ _ sync)
    · exact s.get_put_ne _ _ _ sync
  split <;> exact hv

theorem reported_sync : (s.reported b old).get F.SPL_STAT_SYNC = b.sync % 4 := by
  unfold State.reported
  extract_lets u v
  have hu : u.get F.SPL_STAT_SYNC = b.sync % 4 := State.get_put_self s F.SPL_STAT_SYNC b.sync
  have hv : v.get F.SPL_STAT_SYNC = b.sync % 4 := by
    unfold v
    split
    · exact (u.get_put_ne _ _ _ (by decide)).trans hu
    · exact hu
  split <;> exact hv

theorem reported_protected (sync : b.sync = 2) (new : old ≠ 2) : (s.reported b old).get F.SPL_STAT_PROTECTED = 1 := by
  unfold State.reported
  extract_lets u v
  have hv : v.get F.SPL_STAT_PROTECTED = 1 := by
    unfold v
    rw [if_pos (by simp [sync, new])]
    exact State.get_put_self u F.SPL_STAT_PROTECTED 1
  split <;> exact hv

end Follower

section Rx
variable {s : State} {b : Heartbeat} (link : s.linkUp = true) (auth : b.auth = true)
include link auth

theorem spliceHeartbeatRx_of_lead (role : s.role = .follower) (lead : b.role = .lead) (live : s.live = true) :
    exec (.spliceHeartbeatRx b) s = .next (s.after ((s.begin.beatShown b).leadHeartbeat b)) := by
  refine congrArg (fun u => Host.Outcome.next (s.after u)) ((splHeartbeatRx_eq (s := s.begin) link auth).trans (if_pos ?_))
  rw [(within_beatShown (s := s.begin) (b := b)).role, beatShown_live, show s.begin.role = .follower from role, lead,
    show s.begin.live = true from live]
  rfl

theorem spliceHeartbeatRx_of_follower (role : s.role = .lead) (follower : b.role = .follower) (live : s.live = true) :
    exec (.spliceHeartbeatRx b) s = .next (s.after ((s.begin.beatShown b).followerHeartbeat b s.spl.hbSync)) := by
  refine congrArg (fun u => Host.Outcome.next (s.after u)) ((splHeartbeatRx_eq (s := s.begin) link auth).trans ((if_neg ?_).trans (if_pos ?_)))
  · rw [follower]
    simp
  · rw [(within_beatShown (s := s.begin) (b := b)).role, beatShown_live, show s.begin.role = .lead from role, follower,
      show s.begin.live = true from live]
    rfl

/-- What every heartbeat of the partner shows. -/
theorem spliceHeartbeatRx_shows : ∃ t, exec (.spliceHeartbeatRx b) s = .next t ∧ t.get F.SPL_STAT_PARTNER_HB = 1 ∧
    t.get F.SPL_PEER_MODE = b.mode.code % 8 ∧ t.get F.SPL_PEER_LIFE = b.life.code % 8 ∧ t.spl.hbSync = b.sync := by
  have eq := splHeartbeatRx_eq (s := s.begin) link auth
  have sync := beatShown_hbSync (s := s.begin) (b := b)
  obtain ⟨hb, mode, life⟩ := beatFields_partner (s := s.begin) (b := b)
  rw [← beatShown_get (by decide)] at hb mode life
  generalize s.begin.beatShown b = u at eq sync hb mode life
  refine ⟨_, congrArg (fun u => Host.Outcome.next (s.after u)) eq, ?_⟩
  split
  · have get {f : Fld} := leadHeartbeat_get (s := u) (b := b) (f := f)
    exact ⟨(get (by decide) (by decide) (by decide)).trans hb, (get (by decide) (by decide) (by decide)).trans mode,
      (get (by decide) (by decide) (by decide)).trans life, leadHeartbeat_hbSync.trans sync⟩
  · split
    · obtain ⟨w, kept⟩ := followPartner_kept (u.reported b s.spl.hbSync)
      have get {f : Fld} (part : f.part ∉ partnerParts) (sync : f.key ≠ F.SPL_STAT_SYNC.key) (prot : f.key ≠ F.SPL_STAT_PROTECTED.key) :
        (u.reported b s.spl.hbSync).followPartner.get f = u.get f := (w.get part).trans (reported_get sync prot)
      exact ⟨(get (by decide) (by decide) (by decide)).trans hb, (get (by decide) (by decide) (by decide)).trans mode,
        (get (by decide) (by decide) (by decide)).trans life, kept.trans (reported_hbSync.trans sync)⟩
    · exact ⟨hb, mode, life, sync⟩

theorem spliceHeartbeatRx_synced (role : s.role = .follower) (lead : b.role = .lead) (live : s.live = true) (sync : s.get F.SPL_STAT_SYNC = 2) :
    ∃ t, exec (.spliceHeartbeatRx b) s = .next t ∧ t.get F.SPL_STAT_SYNC = if b.prot = true then 2 else 3 :=
  ⟨_, spliceHeartbeatRx_of_lead link auth role lead live, leadHeartbeat_synced (beatShown_sync.trans sync)⟩

section Unsynced
variable (role : s.role = .follower) (lead : b.role = .lead) (live : s.live = true) (sync : s.get F.SPL_STAT_SYNC = 0 ∨ s.get F.SPL_STAT_SYNC = 3)
include sync

omit link auth in
theorem leadHeartbeat_shown : (s.begin.beatShown b).leadHeartbeat b = if (decide (s.hbReason b = 0) && b.vipOk) = true then
      (((s.begin.beatShown b).put F.SPL_STAT_SYNC 1).put F.SPL_STAT_REASON 0).modSpl fun x => { x with recs := [], writes := [], relinquished := false }
    else ((s.begin.beatShown b).put F.SPL_STAT_SYNC 0).put F.SPL_STAT_REASON (s.hbReason b) := by
  have sync : (s.begin.beatShown b).get F.SPL_STAT_SYNC = 0 ∨ (s.begin.beatShown b).get F.SPL_STAT_SYNC = 3 := by
    rw [beatShown_sync]
    exact sync
  rw [leadHeartbeat_unsynced sync, hbReason_beatShown]
  rfl

include role lead live

theorem spliceHeartbeatRx_starts (reason : s.hbReason b = 0) (vip : b.vipOk = true) : ∃ t, exec (.spliceHeartbeatRx b) s = .next t ∧
    t.get F.SPL_STAT_SYNC = 1 ∧ t.get F.SPL_STAT_REASON = 0 ∧ t.spl.recs = [] ∧ t.spl.writes = [] := by
  have run := spliceHeartbeatRx_of_lead link auth role lead live
  rw [leadHeartbeat_shown sync, if_pos (by rw [decide_eq_true reason, vip]; rfl)] at run
  generalize s.begin.beatShown b = u at run
  refine ⟨_, run, ?_, State.get_put_self (u.put F.SPL_STAT_SYNC 1) F.SPL_STAT_REASON 0, rfl, rfl⟩
  exact (State.get_put_ne (u.put F.SPL_STAT_SYNC 1) F.SPL_STAT_REASON F.SPL_STAT_SYNC 0 (by decide)).trans (State.get_put_self u F.SPL_STAT_SYNC 1)

theorem spliceHeartbeatRx_refuses (reason : s.hbReason b ≠ 0) : ∃ t, exec (.spliceHeartbeatRx b) s = .next t ∧
    t.get F.SPL_STAT_SYNC = 0 ∧ t.get F.SPL_STAT_REASON = s.hbReason b := by
  have run := spliceHeartbeatRx_of_lead link auth role lead live
  rw [leadHeartbeat_shown sync, if_neg (by rw [decide_eq_false reason]; simp)] at run
  generalize s.begin.beatShown b = u at run
  refine ⟨_, run, ?_, ?_⟩
  · exact (State.get_put_ne (u.put F.SPL_STAT_SYNC 0) F.SPL_STAT_REASON F.SPL_STAT_SYNC (s.hbReason b) (by decide)).trans (State.get_put_self u F.SPL_STAT_SYNC 0)
  · exact (State.get_put_self (u.put F.SPL_STAT_SYNC 0) F.SPL_STAT_REASON (s.hbReason b)).trans (Nat.mod_eq_of_lt hbReason_small)

end Unsynced

theorem spliceHeartbeatRx_reports (role : s.role = .lead) (follower : b.role = .follower) (live : s.live = true) :
    ∃ t, exec (.spliceHeartbeatRx b) s = .next t ∧ t.get F.SPL_STAT_SYNC = b.sync % 4 ∧
      (b.sync = 2 → s.spl.hbSync ≠ 2 → t.get F.SPL_STAT_PROTECTED = 1) := by
  have w := (followPartner_kept ((s.begin.beatShown b).reported b s.spl.hbSync)).1
  exact ⟨_, spliceHeartbeatRx_of_follower link auth role follower live, w.get.trans reported_sync,
    fun sync new => w.get.trans (reported_protected sync new)⟩

end Rx

/-! ### The loss of the heartbeat (R542) -/

section Lost
variable {s : State}

theorem spliceHeartbeatLost_falls (shown : s.get F.SPL_STAT_PARTNER_HB ≠ 0)
    (past : s.past (s.spl.hbAt + s.get F.SPL_CFG_HBMISS * 100000) = true) : ∃ t, exec .spliceHeartbeatLost s = .next t ∧
    t.get F.SPL_STAT_PARTNER_HB = 0 ∧ t.get F.SPL_CNT_HB_LOSS = min 255 (s.get F.SPL_CNT_HB_LOSS + 1) ∧
    (s.role = .lead → t.get F.SPL_STAT_PROTECTED = 0) := by
  let u := (s.begin.put F.SPL_STAT_PARTNER_HB 0).inc F.SPL_CNT_HB_LOSS
  have eq : s.begin.splHeartbeatLost = if u.role = .lead then u.unprotect.followPartner else u := by
    refine if_neg ?_
    rw [State.flag_on (show s.begin.get F.SPL_STAT_PARTNER_HB ≠ 0 from shown),
      show s.begin.past (s.begin.spl.hbAt + s.begin.get F.SPL_CFG_HBMISS * 100000) = true from past]
    decide
  have hb : u.get F.SPL_STAT_PARTNER_HB = 0 :=
    ((s.begin.put F.SPL_STAT_PARTNER_HB 0).get_put_ne _ _ _ (by decide)).trans (State.get_put_self s.begin F.SPL_STAT_PARTNER_HB 0)
  have lost : u.get F.SPL_CNT_HB_LOSS = min 255 (s.get F.SPL_CNT_HB_LOSS + 1) :=
    (State.get_inc_byte (s.begin.put F.SPL_STAT_PARTNER_HB 0) rfl rfl).trans (by rw [State.get_put_ne _ _ _ _ (by decide)]; rfl)
  have role : u.role = s.role := rfl
  generalize u = u at eq hb lost role
  refine ⟨_, congrArg (fun u => Host.Outcome.next (s.after u)) eq, ?_⟩
  by_cases lead : u.role = .lead
  · rw [if_pos lead]
    have w := (followPartner_kept u.unprotect).1
    have falls : u.unprotect.get F.SPL_STAT_PROTECTED = 0 := by
      by_cases h : u.get F.SPL_STAT_PROTECTED = 0
      · rw [unprotect_stays h]
        exact h
      · exact (unprotect_falls h).1
    exact ⟨w.get.trans ((unprotect_get (by decide) (by decide)).trans hb), w.get.trans ((unprotect_get (by decide) (by decide)).trans lost),
      fun _ => w.get.trans falls⟩
  · rw [if_neg lead]
    exact ⟨hb, lost, fun h => absurd (role.trans h) lead⟩

theorem spliceHeartbeatLost_idle (h : s.get F.SPL_STAT_PARTNER_HB = 0 ∨ s.past (s.spl.hbAt + s.get F.SPL_CFG_HBMISS * 100000) = false) :
    s.idle .spliceHeartbeatLost := by
  refine State.idle_run rfl (if_pos ?_)
  rcases h with h | h
  · rw [State.flag_off (show s.begin.get F.SPL_STAT_PARTNER_HB = 0 from h)]
    rfl
  · rw [show s.begin.past (s.begin.spl.hbAt + s.begin.get F.SPL_CFG_HBMISS * 100000) = false from h]
    simp

end Lost

/-- Settles O50: beats and what they show, synchronism, the copy, and the effects that wait for its acknowledgement. -/
theorem pairsFollowTheirLink : Obligations.PairsFollowTheirLink := by
  unfold Obligations.PairsFollowTheirLink
  exact ⟨spliceHeartbeatTx_beats, heartbeats_idle, spliceHeartbeatRx_unauthentic,
    fun s b link auth => ⟨spliceHeartbeatRx_shows link auth, fun role lead live => ⟨spliceHeartbeatRx_synced link auth role lead live,
      fun sync => ⟨spliceHeartbeatRx_starts link auth role lead live sync, spliceHeartbeatRx_refuses link auth role lead live sync⟩⟩,
      spliceHeartbeatRx_reports link auth⟩,
    fun s => spliceHeartbeatLost_falls, fun s => spliceHeartbeatLost_idle,
    fun s n x role link => ⟨copyRecordRx_unauthentic role link n x, copyRecordRx_waits role link n x, commitMarkRx_applies role link n,
      frameMarkRx_marks role link n⟩,
    copies_idle, fun s => ⟨fullStateApplied_syncs, fullStateApplied_idle⟩, copyAckRx_releases, copyAcks_idle,
    fun s role waits => ⟨copyAckTimeout_unprotects role waits, copyAckTimeout_idle⟩⟩

end Sys2Proof.Machine

/-! ### The LFSR of the Gallery (R34) -/
namespace Sys2Proof.Machine

/-- A linear map of 32-bit words. -/
structure Linear32 (g : Nat → Nat) : Prop where
  xor : ∀ a b, g (a ^^^ b) = g a ^^^ g b
  low : ∀ v, g (v % 2 ^ 32) = g v

namespace Linear32

theorem comp {g : Nat → Nat} (h : Linear32 g) : Linear32 (g ∘ g) :=
  ⟨fun a b => by simp [h.xor], fun v => congrArg g (h.low v)⟩

end Linear32

/-- The columns of a map, over the words of k bits, give its image. -/
theorem lfsrApply_columns (k : Nat) : ∀ {g : Nat → Nat} (_ : ∀ a b, g (a ^^^ b) = g a ^^^ g b) (v : Nat),
    lfsrApply ((List.range k).map fun i => g (2 ^ i)) v = g (v % 2 ^ k) := by
  have zero {g : Nat → Nat} (h : ∀ a b, g (a ^^^ b) = g a ^^^ g b) : g 0 = 0 := by
    have := h 0 0
    rwa [Nat.xor_self, Nat.xor_self] at this
  induction k with
  | zero =>
    intro g h v
    rw [pow_zero, Nat.mod_one, zero h]
    rfl
  | succ k ih =>
    intro g h v
    have double (a b : Nat) : 2 * (a ^^^ b) = 2 * a ^^^ 2 * b := by
      rw [Nat.mul_comm, Nat.mul_comm 2 a, Nat.mul_comm 2 b]
      simpa [Nat.shiftLeft_eq] using Nat.shiftLeft_xor_distrib (a := a) (b := b) (i := 1)
    have rest := ih (g := fun x => g (2 * x)) (fun a b => by rw [double, h]) (v / 2)
    rw [List.range_succ_eq_map, List.map_cons, List.map_map]
    show (if v % 2 = 1 then g (2 ^ 0) else 0) ^^^ lfsrApply ((List.range k).map fun i => g (2 ^ (i + 1))) (v / 2) = _
    have columns : ((List.range k).map fun i => g (2 ^ (i + 1))) = (List.range k).map fun i => g (2 * 2 ^ i) :=
      List.map_congr_left fun i _ => by rw [pow_succ, Nat.mul_comm]
    have split_ : v % 2 ^ (k + 1) = v % 2 ^^^ 2 * (v / 2 % 2 ^ k) := by
      have sum : v % 2 ^ (k + 1) = v % 2 + 2 * (v / 2 % 2 ^ k) := by rw [pow_succ, Nat.mul_comm, Nat.mod_mul]
      rw [sum]
      rcases Nat.mod_two_eq_zero_or_one v with even | odd
      · rw [even, Nat.zero_xor, Nat.zero_add]
      · rw [odd, Nat.xor_comm, Nat.xor_one_of_even (even_two_mul _), Nat.add_comm]
    rw [columns, rest, split_, h]
    rcases Nat.mod_two_eq_zero_or_one v with even | odd
    · rw [even, if_neg (by decide), zero h]
    · rw [odd, if_pos rfl, pow_zero]

/-- The feedback bit. -/
def lfsrParity (v : Nat) : Bool := ((v.testBit 31 ^^ v.testBit 21) ^^ v.testBit 1) ^^ v.testBit 0

theorem lfsrNext_eq (v : Nat) : lfsrNext v = Nat.bit (lfsrParity v) (v % 2 ^ 31) := by
  have fb : (b2n (bit v 31) + b2n (bit v 21) + b2n (bit v 1) + b2n (bit v 0)) % 2 = (lfsrParity v).toNat := by
    rw [bit_eq_testBit, bit_eq_testBit, bit_eq_testBit, bit_eq_testBit]
    unfold lfsrParity
    cases v.testBit 31 <;> cases v.testBit 21 <;> cases v.testBit 1 <;> cases v.testBit 0 <;> rfl
  unfold lfsrNext
  rw [fb, Nat.bit_val]
  show 2 * v % 2 ^ 32 + (lfsrParity v).toNat = _
  rw [show 2 ^ 32 = 2 * 2 ^ 31 from rfl, Nat.mul_mod_mul_left]

theorem lfsrNext_linear : Linear32 lfsrNext where
  xor a b := by
    have paired : ∀ a b c d e f g h : Bool, ((((a ^^ b) ^^ (c ^^ d)) ^^ (e ^^ f)) ^^ (g ^^ h)) = ((((a ^^ c) ^^ e) ^^ g) ^^ (((b ^^ d) ^^ f) ^^ h)) := by
      decide
    have parity : lfsrParity (a ^^^ b) = (lfsrParity a ^^ lfsrParity b) := by
      unfold lfsrParity
      simp only [Nat.testBit_xor]
      exact paired _ _ _ _ _ _ _ _
    rw [lfsrNext_eq, lfsrNext_eq, lfsrNext_eq, Nat.xor_bit, parity, Nat.xor_mod_two_pow]
  low v := by
    have parity : lfsrParity (v % 2 ^ 32) = lfsrParity v := by
      unfold lfsrParity
      simp only [Nat.testBit_mod_two_pow]
      rfl
    rw [lfsrNext_eq, lfsrNext_eq, parity, Nat.mod_mod_of_dvd _ (pow_dvd_pow 2 (by decide))]

theorem iter_comp {α : Type} (g : α → α) (n : Nat) (a : α) : iter (g ∘ g) (n / 2) (if n % 2 = 1 then g a else a) = iter g n a := by
  have twice : ∀ (n : Nat) (a : α), iter (g ∘ g) n a = iter g (2 * n) a := by
    intro n
    induction n with
    | zero => exact fun _ => rfl
    | succ n ih => exact fun a => ih (g (g a))
  rw [twice]
  rcases Nat.mod_two_eq_zero_or_one n with even | odd
  · rw [even, if_neg (by decide), Nat.mul_div_cancel' (Nat.dvd_of_mod_eq_zero even)]
  · rw [odd, if_pos rfl]
    have n_eq : n = 2 * (n / 2) + 1 := by omega
    exact congrArg (fun m => iter g m a) n_eq.symm

theorem lfsrJumpBy_eq (k : Nat) : ∀ {g : Nat → Nat} (_ : Linear32 g) (n v : Nat), n < 2 ^ k →
    lfsrJumpBy k ((List.range 32).map fun i => g (2 ^ i)) n v = iter g n v := by
  induction k with
  | zero =>
    intro g _ n v h
    obtain rfl : n = 0 := by omega
    rfl
  | succ k ih =>
    intro g h n v hn
    have image (x : Nat) : lfsrApply ((List.range 32).map fun i => g (2 ^ i)) x = g x := (lfsrApply_columns 32 h.xor x).trans (h.low x)
    have squared : ((List.range 32).map fun i => g (2 ^ i)).map (lfsrApply ((List.range 32).map fun i => g (2 ^ i))) =
        (List.range 32).map fun i => (g ∘ g) (2 ^ i) := by
      rw [List.map_map]
      exact List.map_congr_left fun i _ => image _
    unfold lfsrJumpBy
    rw [squared, image, ih h.comp _ _ (by omega), iter_comp]
    split
    · next zero => rw [zero]; rfl
    · rfl

/-- The jump is as many steps. -/
theorem lfsrJump_eq (n v : Nat) : lfsrJump n v = iter lfsrNext n v :=
  lfsrJumpBy_eq _ lfsrNext_linear n v Nat.lt_log2_self

end Sys2Proof.Machine

/-! ### Octets of memory and of the D words, and DMA descriptors (R26, R28, R31, R35; O4) -/
namespace Sys2Proof.Machine

/-! ### What the addresses hold -/

/-- Two octets of one D word stand in the same word of the Gallery. -/
theorem State.dWordAt_inj {s : State} {a x o : Nat} (ha : s.dWordAt a = some o) (hx : s.dWordAt x = some o) : a / 4 = x / 4 ∧ o < 2 ^ 18 := by
  have inGallery {y : Nat} (h : s.dWordAt y = some o) : 0x10000000 ≤ y ∧ ∃ p b, s.prog.pkg = some p ∧ b = (y - 0x10000000) / 0x80000 ∧
      ((b = p.dBanks.1 ∧ o = y % 0x80000 / 4) ∨ (b ≠ p.dBanks.1 ∧ b = p.dBanks.2 ∧ o = 0x20000 + y % 0x80000 / 4)) := by
    unfold State.dWordAt at h
    split at h
    · next b p hb hp =>
      unfold galleryBank at hb
      split at hb
      · next range =>
        have low : 0x10000000 ≤ y := by simp at range; exact range.1
        refine ⟨low, p, b, hp, (Option.some.inj hb).symm, ?_⟩
        dsimp only at h
        split_ifs at h with first second
        · exact .inl ⟨first, (Option.some.inj h).symm⟩
        · exact .inr ⟨first, second, (Option.some.inj h).symm⟩
      · cases hb
    · cases h
  obtain ⟨la, p, b, hp, hb, ca⟩ := inGallery ha
  obtain ⟨lx, q, c, hq, hc, cx⟩ := inGallery hx
  obtain rfl : p = q := Option.some.inj (hp.symm.trans hq)
  rcases ca with ⟨a1, a2⟩ | ⟨a1, a2, a3⟩ <;> rcases cx with ⟨x1, x2⟩ | ⟨x1, x2, x3⟩ <;> omega

/-- An octet of a word is replaced: it reads back, and the other octets stand. -/
theorem octet_replaced (w v : Nat) {i j : Nat} (hi : i < 4) (hj : j < 4) :
    (w - w / 2 ^ (8 * i) % 256 * 2 ^ (8 * i) + v % 256 * 2 ^ (8 * i)) / 2 ^ (8 * j) % 256 = if j = i then v % 256 else w / 2 ^ (8 * j) % 256 := by
  interval_cases i <;> interval_cases j <;> simp only [Nat.reduceMul, Nat.reducePow, Nat.reduceEqDiff, if_true, if_false, Nat.one_ne_zero,
    Nat.zero_ne_one, OfNat.ofNat_ne_zero, OfNat.zero_ne_ofNat] <;> omega

theorem State.octetAt_word {s : State} {a o : Nat} (h : s.dWordAt a = some o) :
    s.octetAt a = SMap.getD s.prog.areas (areaKey 5 o) 0 / 2 ^ (8 * (a % 4)) % 256 := by
  unfold State.octetAt
  rw [h]

theorem State.octetAt_mem {s : State} {a : Nat} (h : s.dWordAt a = none) : s.octetAt a = (memGet s.mem a).toNat := by
  unfold State.octetAt
  rw [h]

theorem State.octetAt_eq {s t : State} (mem : t.mem = s.mem) (prog : t.prog = s.prog) (a : Nat) : t.octetAt a = s.octetAt a := by
  unfold State.octetAt State.dWordAt
  rw [mem, prog]

/-- Every octet is one. -/
theorem State.octetAt_lt (s : State) (a : Nat) : s.octetAt a < 256 := by
  unfold State.octetAt
  split
  · exact Nat.mod_lt _ (by decide)
  · exact (memGet s.mem a).isLt

/-- A D word with one octet put. -/
theorem State.putOctet_word {s : State} {a o : Nat} (v : Nat) (h : s.dWordAt a = some o) :
    SMap.getD (s.putOctet a v).prog.areas (areaKey 5 o) 0 = SMap.getD s.prog.areas (areaKey 5 o) 0 -
      SMap.getD s.prog.areas (areaKey 5 o) 0 / 2 ^ (8 * (a % 4)) % 256 * 2 ^ (8 * (a % 4)) + v % 256 * 2 ^ (8 * (a % 4)) := by
  unfold State.putOctet
  rw [h]
  exact SMap.getD_put_self ..

/-- An octet that is put reads back, and every other octet stands (R35). -/
theorem State.octetAt_putOctet {s : State} (ok : s.memOk) (a v x : Nat) :
    (s.putOctet a v).octetAt x = if x = a then v % 256 else s.octetAt x := by
  cases hx : s.dWordAt x with
  | none =>
    split
    · next same => subst same; exact s.octetAt_putOctet_self x v ok hx
    · next other => exact s.octetAt_putOctet_ne a v x other hx
  | some o =>
    rw [State.octetAt_word hx, State.octetAt_word (s := s.putOctet a v) ((State.putOctet_dWordAt ..).trans hx)]
    by_cases word : s.dWordAt a = some o
    · obtain ⟨quot, -⟩ := State.dWordAt_inj word hx
      have same : x % 4 = a % 4 ↔ x = a := by omega
      rw [State.putOctet_word v word, octet_replaced _ _ (Nat.mod_lt _ (by decide)) (Nat.mod_lt _ (by decide))]
      simp only [same]
    · have other : x ≠ a := fun e => word (e ▸ hx)
      rw [if_neg other]
      have stands : SMap.getD (s.putOctet a v).prog.areas (areaKey 5 o) 0 = SMap.getD s.prog.areas (areaKey 5 o) 0 := by
        unfold State.putOctet
        split
        · next o' ha =>
          have ne : areaKey 5 o ≠ areaKey 5 o' := fun e => by
            have := (State.dWordAt_inj hx hx).2
            have := (State.dWordAt_inj ha ha).2
            obtain ⟨-, rfl⟩ := areaKey_inj (by omega) (by omega) e
            exact word ha
          show SMap.getD (SMap.put 0 s.prog.areas (areaKey 5 o') _) (areaKey 5 o) 0 = _
          rw [SMap.getD, SMap.get?_put_ne _ _ _ _ _ ne]
          rfl
        · rfl
      rw [stands]

/-! ### What storing octets leaves -/

/-- Octets are stored: nothing else of the state changes. -/
def Stored (s t : State) : Prop := ∃ m l, t = { s with mem := m, prog := { s.prog with areas := l } }

namespace Stored

theorem refl (s : State) : Stored s s := ⟨s.mem, s.prog.areas, rfl⟩

theorem trans {s t u : State} (h : Stored s t) (k : Stored t u) : Stored s u := by
  obtain ⟨m, l, rfl⟩ := h
  obtain ⟨n, k, rfl⟩ := k
  exact ⟨n, k, rfl⟩

/-- What is told of an operation that stores octets. -/
theorem frame {s t : State} (h : Stored s t) : { t with mem := s.mem, prog := { t.prog with areas := s.prog.areas } } = s := by
  obtain ⟨m, l, rfl⟩ := h
  cases s
  rfl

theorem regs {s t : State} (h : Stored s t) : t.regs = s.regs := by
  obtain ⟨m, l, rfl⟩ := h
  rfl

theorem tickets {s t : State} (h : Stored s t) (b d : Nat) : t.tickets b d = s.tickets b d := by
  obtain ⟨m, l, rfl⟩ := h
  rfl

end Stored

theorem State.putOctet_stored (s : State) (a v : Nat) : Stored s (s.putOctet a v) := by
  unfold State.putOctet
  split
  · exact ⟨_, _, rfl⟩
  · exact ⟨_, s.prog.areas, rfl⟩

theorem State.putOctets_stored : ∀ (l : List Nat) (s : State) (a : Nat), Stored s (s.putOctets a l)
  | [], s, _ => .refl s
  | v :: l, s, a => (s.putOctet_stored a v).trans (putOctets_stored l _ _)

/-- Octets that are put read back, and every other octet stands. -/
theorem State.octetAt_putOctets (l : List Nat) : ∀ {s : State} (_ : s.memOk) (a x : Nat),
    (s.putOctets a l).octetAt x = if a ≤ x ∧ x < a + l.length then l.getD (x - a) 0 % 256 else s.octetAt x := by
  induction l with
  | nil =>
    intro s _ a x
    rw [if_neg (by simp)]
    rfl
  | cons v l ih =>
    intro s ok a x
    show ((s.putOctet a v).putOctets (a + 1) l).octetAt x = _
    rw [ih (s.wf_putOctet a v ok), State.octetAt_putOctet ok, List.length_cons]
    by_cases first : x = a
    · subst first
      rw [if_neg (by omega), if_pos rfl, if_pos (by omega), Nat.sub_self]
      rfl
    · rw [if_neg first]
      by_cases inside : a + 1 ≤ x ∧ x < a + 1 + l.length
      · rw [if_pos inside, if_pos (by omega)]
        have step : x - a = (x - (a + 1)) + 1 := by omega
        rw [step]
        rfl
      · rw [if_neg inside, if_neg (by omega)]

theorem State.length_octetsAt (s : State) (a n : Nat) : (s.octetsAt a n).length = n := by
  unfold State.octetsAt
  rw [List.length_map, List.length_range]

theorem State.getD_octetsAt (s : State) (a : Nat) {n i : Nat} (h : i < n) : (s.octetsAt a n).getD i 0 = s.octetAt (a + i) := by
  unfold State.octetsAt
  rw [List.getD_eq_getElem?_getD, List.getElem?_map, List.getElem?_range h]
  rfl

/-- The octets of a stretch are copied. -/
theorem State.octetAt_copied {s : State} (ok : s.memOk) (src dst n x : Nat) :
    (s.putOctets dst (s.octetsAt src n)).octetAt x = if dst ≤ x ∧ x < dst + n then s.octetAt (src + (x - dst)) else s.octetAt x := by
  rw [State.octetAt_putOctets _ ok, s.length_octetsAt]
  split
  · next inside =>
    rw [s.getD_octetsAt src (by omega)]
    exact Nat.mod_eq_of_lt (s.octetAt_lt _)
  · rfl

/-! ### What a DMA requester may access (R31, R36) -/

section May
variable {s : State} {d a op : Nat}

theorem State.dmaMay_gallery {b : Nat} (h : galleryBank a = some b) : s.dmaMay d a op ↔ s.tickets b d ≠ 0 := by
  unfold State.dmaMay
  rw [h]

theorem State.dmaMay_direct (h : galleryBank a = none) : s.dmaMay d a op ↔ directAllowed d a op = true := by
  unfold State.dmaMay
  rw [h]

/-- The octets of a 64-bit word lie in the Gallery or outside it together. -/
theorem galleryBank_word {n : Nat} (h : galleryBank a = none) (hn : 1 ≤ n) (word : n ≤ 8 - a % 8) : galleryBank (a + (n - 1)) = none := by
  unfold galleryBank at h ⊢
  split at h
  · cases h
  · next out =>
    refine if_neg ?_
    simp only [Bool.and_eq_true, decide_eq_true_eq] at out ⊢
    omega

/-- A piece of a word whose octets a requester may access is not refused. -/
theorem State.dmaRefused_none {n : Nat} (hn : 1 ≤ n) (word : n ≤ 8 - a % 8) (may : ∀ i, i < n → s.dmaMay d (a + i) op) :
    s.dmaRefused d a n op = none := by
  have first : s.dmaMay d a op := may 0 hn
  unfold State.dmaRefused
  cases h : galleryBank a with
  | some b => exact if_neg ((State.dmaMay_gallery h).1 first)
  | none =>
    have last := (State.dmaMay_direct (galleryBank_word h hn word)).1 (may (n - 1) (by omega))
    refine if_pos ?_
    unfold spanAllowed
    rw [(State.dmaMay_direct h).1 first, last]
    rfl

end May

theorem Stored.dmaMay {s t : State} (h : Stored s t) {d a op : Nat} (may : s.dmaMay d a op) : t.dmaMay d a op := by
  cases hb : galleryBank a with
  | some b =>
    rw [State.dmaMay_gallery hb] at may ⊢
    rw [h.tickets]
    exact may
  | none =>
    rw [State.dmaMay_direct hb] at may ⊢
    exact may

/-! ### The copy -/

/-- One piece of a copy in which the code finds nothing. -/
theorem State.dmaCopy_piece {s : State} {d base k src dst len n : Nat} (hn : n = min len (min (8 - src % 8) (8 - dst % 8))) (some_ : 0 < len)
    (read : s.dmaRefused d src n 0 = none) (write : s.dmaRefused d dst n 1 = none) :
    s.dmaCopy d base [] (k + 1) src dst len = (s.putOctets dst (s.octetsAt src n)).dmaCopy d base [] k (src + n) (dst + n) (len - n) := by
  obtain ⟨m, rfl⟩ := Nat.exists_eq_succ_of_ne_zero (Nat.pos_iff_ne_zero.1 some_)
  subst hn
  have clean (a : Nat) : s.eccWord d a 0 = s := rfl
  rw [State.dmaCopy]
  · simp only [read, List.getD_nil, ite_self, clean, write]
    rfl
  · exact Nat.succ_ne_zero m

/-- A copy between stretches that a requester may read and write, and that do not overlap. -/
theorem State.dmaCopy_copies (d base : Nat) (k : Nat) : ∀ {s : State} {src dst len : Nat}, len ≤ k → s.memOk →
    (∀ i, i < len → s.dmaMay d (src + i) 0) → (∀ i, i < len → s.dmaMay d (dst + i) 1) → src + len ≤ dst ∨ dst + len ≤ src →
    Stored s (s.dmaCopy d base [] k src dst len) ∧ ∀ a, (s.dmaCopy d base [] k src dst len).octetAt a =
      if dst ≤ a ∧ a < dst + len then s.octetAt (src + (a - dst)) else s.octetAt a := by
  induction k with
  | zero =>
    intro s src dst len hk _ _ _ _
    obtain rfl : len = 0 := by omega
    refine ⟨.refl s, fun a => ?_⟩
    rw [if_neg (by omega)]
    rfl
  | succ k ih =>
    intro s src dst len hk ok read write apart
    by_cases none_ : len = 0
    · subst none_
      refine ⟨.refl s, fun a => ?_⟩
      rw [if_neg (by omega)]
      rfl
    · obtain ⟨n, hn⟩ : ∃ n, n = min len (min (8 - src % 8) (8 - dst % 8)) := ⟨_, rfl⟩
      have one : 1 ≤ n := by omega
      have le : n ≤ len := by omega
      rw [State.dmaCopy_piece hn (by omega) (State.dmaRefused_none one (by omega) fun i hi => read i (by omega))
        (State.dmaRefused_none one (by omega) fun i hi => write i (by omega))]
      have piece := State.octetAt_copied ok src dst n
      have stored := State.putOctets_stored (s.octetsAt src n) s dst
      have ok' : (s.putOctets dst (s.octetsAt src n)).memOk := State.wf_putOctets _ _ _ ok
      generalize s.putOctets dst (s.octetsAt src n) = u at piece stored ok'
      obtain ⟨rest, octets⟩ := ih (s := u) (src := src + n) (dst := dst + n) (len := len - n) (by omega) ok'
        (fun i hi => stored.dmaMay (by rw [Nat.add_assoc]; exact read _ (by omega)))
        (fun i hi => stored.dmaMay (by rw [Nat.add_assoc]; exact write _ (by omega))) (by omega)
      refine ⟨stored.trans rest, fun a => ?_⟩
      rw [octets, piece, piece]
      by_cases later : dst + n ≤ a ∧ a < dst + n + (len - n)
      · rw [if_pos later, if_neg (by omega), if_pos (by omega)]
        congr 1
        omega
      · rw [if_neg later]
        by_cases now : dst ≤ a ∧ a < dst + n
        · rw [if_pos now, if_pos (by omega)]
        · rw [if_neg now, if_neg (by omega)]

/-! ### Descriptors (R26) -/

section Dma
variable {s : State} {e d src dst len : Nat}

theorem dmaDescriptor_run {ecc : List Nat} {u : State} (h : s.begin.dma e d src dst len ecc = u) :
    exec (.dmaDescriptor e d src dst len ecc) s = .next (s.afterMem u) := h ▸ rfl

/-- A Curator core's descriptor for a DMA requester that is awake. -/
theorem State.dma_curator {ecc : List Nat} (core : e < 2) (up : s.awake e = true) (lo : 24 ≤ d) (hi : d ≤ 27) (dup : s.awake d = true) :
    s.dma e d src dst len ecc = s.dmaCopy d src ecc len src dst len := by
  unfold State.dma
  rw [if_neg (by rw [up]; decide), if_neg (not_le.2 core), if_neg]
  rw [dup]
  simp
  omega

theorem dmaDescriptor_copies (core : e < 2) (up : s.awake e = true) (lo : 24 ≤ d) (hi : d ≤ 27) (dup : s.awake d = true) (ok : s.memOk)
    (read : ∀ i, i < len → s.dmaMay d (src + i) 0) (write : ∀ i, i < len → s.dmaMay d (dst + i) 1) (apart : src + len ≤ dst ∨ dst + len ≤ src) :
    ∃ t, exec (.dmaDescriptor e d src dst len []) s = .next t ∧
      (∀ a, t.octetAt a = if dst ≤ a ∧ a < dst + len then s.octetAt (src + (a - dst)) else s.octetAt a) ∧ t.out = [] ∧
      { t with mem := s.mem, prog := { t.prog with areas := s.prog.areas }, out := s.out } = s := by
  have run := dmaDescriptor_run (State.dma_curator (s := s.begin) (src := src) (dst := dst) (len := len) (ecc := []) core up lo hi dup)
  obtain ⟨stored, octets⟩ := State.dmaCopy_copies d src len (s := s.begin) (le_refl len) ok read write apart
  generalize s.begin.dmaCopy d src [] len src dst len = u at run stored octets
  refine ⟨_, run, octets, ?_, ?_⟩
  · obtain ⟨m, l, rfl⟩ := stored
    rfl
  · obtain ⟨m, l, rfl⟩ := stored
    cases s
    rfl

theorem dmaDescriptor_uncorrectable (ecc : List Nat) (core : e < 2) (up : s.awake e = true) (lo : 24 ≤ d) (hi : d ≤ 27) (dup : s.awake d = true)
    (read : s.dmaMay d src 0) (bank : (galleryBank src).isSome = true) (some_ : 0 < len) :
    ∃ t, exec (.dmaDescriptor e d src dst len (2 :: ecc)) s = .next t ∧
      t.get F.GAL_ECC_UNCORR = satAdd F.GAL_ECC_UNCORR.max (s.get F.GAL_ECC_UNCORR) 1 % 2 ^ F.GAL_ECC_UNCORR.width ∧
      t.sent .fault [(d : Int), src] ∧ ∀ a, t.octetAt a = s.octetAt a := by
  have run := dmaDescriptor_run (State.dma_curator (s := s.begin) (src := src) (dst := dst) (len := len) (ecc := 2 :: ecc) core up lo hi dup)
  obtain ⟨b, hb⟩ := Option.isSome_iff_exists.1 bank
  have allowed (n : Nat) : s.begin.dmaRefused d src n 0 = none := by
    unfold State.dmaRefused
    rw [hb]
    exact if_neg ((State.dmaMay_gallery hb).1 read)
  let v := (s.begin.inc F.GAL_ECC_UNCORR).log Sev.error 0 F.GAL_ECC_UNCORR (leBytes 4 (src / 8 * 8) ++ [d])
  have eq : s.begin.dmaCopy d src (2 :: ecc) len src dst len = v.accessFault d src := by
    obtain ⟨m, rfl⟩ := Nat.exists_eq_succ_of_ne_zero (Nat.pos_iff_ne_zero.1 some_)
    rw [State.dmaCopy]
    · simp only [allowed, bank, Bool.true_or, if_true, Nat.sub_self, List.getD_cons_zero, decide_true]
      rfl
    · exact Nat.succ_ne_zero m
  rw [eq, State.accessFault, State.emit_of_not_held _ _ rfl] at run
  have log := within_log (D := logParts) (s.begin.inc F.GAL_ECC_UNCORR) Sev.error 0 F.GAL_ECC_UNCORR (leBytes 4 (src / 8 * 8) ++ [d]) fun _ h => h
  have got : v.get F.GAL_ECC_UNCORR = _ := log.get.trans (State.get_put_self s.begin F.GAL_ECC_UNCORR _)
  have mem : v.mem = s.mem := log.mem
  have prog : v.prog = s.prog := State.log_prog ..
  generalize v = v at run got mem prog
  exact ⟨_, run, got, .inl (List.mem_append_right _ (List.mem_singleton_self _)), fun a => State.octetAt_eq mem prog a⟩

theorem dmaDescriptor_refused (ecc : List Nat) (other : 2 ≤ e) (up : s.awake e = true) :
    ∃ t, exec (.dmaDescriptor e d src dst len ecc) s = .next t ∧
      t.get F.GAL_ECC_DMA_REFUSED = satAdd F.GAL_ECC_DMA_REFUSED.max (s.get F.GAL_ECC_DMA_REFUSED) 1 % 2 ^ F.GAL_ECC_DMA_REFUSED.width ∧
      (∀ f : Fld, f.key ≠ F.GAL_ECC_DMA_REFUSED.key → t.get f = s.get f) ∧ { t with regs := s.regs, out := s.out } = s := by
  have eq : s.begin.dma e d src dst len ecc = s.begin.inc F.GAL_ECC_DMA_REFUSED :=
    (if_neg (by rw [show s.begin.awake e = true from up]; decide)).trans (if_pos other)
  exact ⟨_, dmaDescriptor_run eq, State.get_put_self s.begin F.GAL_ECC_DMA_REFUSED _, fun f h => s.begin.get_put_ne _ _ _ h, by cases s; rfl⟩

theorem dmaDescriptor_idle (ecc : List Nat) (core : e < 2) (h : d < 24 ∨ 27 < d ∨ s.awake d = false) :
    s.idle (.dmaDescriptor e d src dst len ecc) := by
  have eq : s.begin.dma e d src dst len ecc = s.begin := by
    unfold State.dma
    split
    · rfl
    · rw [if_neg (not_le.2 core)]
      refine if_pos ?_
      have h : d < 24 ∨ 27 < d ∨ s.begin.awake d = false := h
      rcases h with h | h | h
      · rw [decide_eq_true h]; rfl
      · rw [decide_eq_true h]; simp
      · rw [h]; simp
  exact ⟨_, dmaDescriptor_run eq, by cases s; rfl⟩

end Dma

/-- Settles O4: a copy is a chain of pieces, each stored as `octetAt_putOctets` says. -/
theorem dmaCopiesForCuratorsOnly : Obligations.DmaCopiesForCuratorsOnly := by
  unfold Obligations.DmaCopiesForCuratorsOnly
  exact ⟨fun s e d src dst len => dmaDescriptor_copies,
    fun s e d src dst len ecc core up lo hi dup read bank _ some_ => dmaDescriptor_uncorrectable ecc core up lo hi dup read bank some_,
    fun s e d src dst len ecc => dmaDescriptor_refused ecc, fun s e d src dst len ecc => dmaDescriptor_idle ecc⟩

end Sys2Proof.Machine

/-! ### The draw of the Gallery (R33 to R36; O3) -/
namespace Sys2Proof.Machine

/-! ### An access in whose words the code finds nothing -/

theorem State.eccRead_clean (s : State) (r a n op : Nat) : s.eccRead r a n op [] = (s, true) := by
  unfold State.eccRead
  split
  · rfl
  · have clean : (fun (s : State) k => s.eccWord r (a / 8 * 8 + 8 * k) (([] : List Nat).getD k 0)) = fun s _ => s := by
      funext s k
      rw [List.getD_nil]
      rfl
    dsimp only
    rw [clean, List.foldl_fixed]
    simp

section Access
variable {s : State} {q : GalReq} {beats : Nat} (clean : q.ecc = [])
include clean

theorem State.access_writes (op : q.op ≠ 0) : s.access q beats = s.putOctets q.addr (q.data.take (q.octs beats)) := by
  unfold State.access
  dsimp only
  rw [clean, State.eccRead_clean]
  exact (if_neg Bool.false_ne_true).trans (if_neg op)

theorem State.access_reads (op : q.op = 0) : s.access q beats =
    s.emit .value ([(q.req : Int), 0, q.addr] ++ (s.octetsAt q.addr (q.octs beats)).map Int.ofNat) := by
  unfold State.access
  dsimp only
  rw [clean, State.eccRead_clean]
  exact (if_neg Bool.false_ne_true).trans (if_pos op)

end Access

/-! ### The winner of a draw -/

/-- A rotated word is one of 32 bits. -/
theorem rotl32_lt (v n : Nat) : rotl32 v n < 2 ^ 32 := by
  unfold rotl32
  dsimp only
  have hk : n % 32 < 32 := Nat.mod_lt _ (by decide)
  generalize n % 32 = k at hk
  have low : v / 2 ^ (32 - k) % 2 ^ k < 2 ^ k := Nat.mod_lt _ (Nat.two_pow_pos k)
  have split_ : 2 ^ 32 = 2 ^ (32 - k) * 2 ^ k := by rw [← pow_add]; congr 1; omega
  have high : v * 2 ^ k % 2 ^ 32 = v % 2 ^ (32 - k) * 2 ^ k := by rw [split_, Nat.mul_mod_mul_right]
  have less : v % 2 ^ (32 - k) + 1 ≤ 2 ^ (32 - k) := Nat.mod_lt _ (Nat.two_pow_pos _)
  calc v * 2 ^ k % 2 ^ 32 + v / 2 ^ (32 - k) % 2 ^ k < v % 2 ^ (32 - k) * 2 ^ k + 2 ^ k := by rw [high]; omega
    _ = (v % 2 ^ (32 - k) + 1) * 2 ^ k := by ring
    _ ≤ 2 ^ (32 - k) * 2 ^ k := Nat.mul_le_mul_right _ less
    _ = 2 ^ 32 := split_.symm

theorem State.lottery_alone (s : State) {b v r : Nat} (h : 0 < s.tickets b r) : s.lottery b v [r] = some r := by
  have drawn : rotl32 v (2 * b) * s.tickets b r / 2 ^ 32 < s.tickets b r := by
    rw [Nat.div_lt_iff_lt_mul (by decide), Nat.mul_comm]
    exact Nat.mul_lt_mul_of_pos_left (rotl32_lt v (2 * b)) h
  unfold State.lottery drawWinner
  have sum : sumN ([r].map (s.tickets b)) = s.tickets b r := Nat.zero_add _
  dsimp only
  rw [sum, Nat.zero_add]
  exact if_pos drawn

theorem range_filter_one {n k : Nat} {p : Nat → Bool} (hk : k < n) (h : ∀ r, p r = true ↔ r = k) : (List.range n).filter p = [k] := by
  induction n with
  | zero => omega
  | succ n ih =>
    rw [List.range_succ, List.filter_append]
    by_cases last : k = n
    · subst last
      have none_ : (List.range k).filter p = [] := List.filter_eq_nil_iff.2 fun r hr e => by
        have := (h r).1 e
        have := List.mem_range.1 hr
        omega
      rw [none_, List.filter_singleton, (h k).2 rfl]
      rfl
    · rw [ih (by omega), List.filter_singleton, Bool.eq_false_iff.2 fun e => last ((h n).1 e).symm]
      rfl

/-! ### The stages, of a draw with one request -/

section Stage
variable {s : State} {b clocks beats : Nat} {q : GalReq}

/-- The tickets are not what the LFSR's step writes. -/
theorem State.tickets_drawClock (s : State) (clocks r b : Nat) : (s.drawClock clocks).tickets b r = s.tickets b r := by
  have get {f : Fld} (h : f.addr = 0x10100) : (s.drawClock clocks).get (f.at2 b (r / 4)) = s.get (f.at2 b (r / 4)) := by
    refine s.get_put_ne _ _ _ ?_
    show (f.addr + b * f.s1 + r / 4 * f.s2) * 32 + f.lo ≠ 0x10000 * 32 + 0
    omega
  unfold State.tickets
  dsimp only
  split
  · exact get rfl
  · exact get rfl
  · exact get rfl
  · exact get rfl

theorem ddrServe_none (s : State) (n : Nat) : s.ddrServe n [] = s := by
  cases n <;> rfl

/-- A request at a bank is nothing for the LPDDR4X controller. -/
theorem State.drawArrivals_bank (bank : galleryBank q.addr = some b) : s.drawArrivals [q] = s.arrive q := by
  have no : s.ddrTakes q = false := by
    unfold State.ddrTakes
    have : inDdr q.addr = false := by
      unfold galleryBank at bank
      split at bank
      · next h =>
        unfold inDdr
        simp at h ⊢
        omega
      · cases bank
    rw [this, Bool.and_false]
  unfold State.drawArrivals
  rw [List.filter_singleton, no]
  exact ddrServe_none ..

/-- Where no request has lost its tickets, none is refused. -/
theorem State.drawDenials_none (h : ∀ p ∈ s.gal.pending, s.tickets b p.req.req ≠ 0) : s.drawDenials b = s := by
  have none_ : (s.gal.pending.filter fun p => decide (p.bank = b) && decide (s.tickets b p.req.req = 0)) = [] :=
    List.filter_eq_nil_iff.2 fun p hp => by simp [h p hp]
  have all_ : (s.gal.pending.filter fun p => !(decide (p.bank = b) && decide (s.tickets b p.req.req = 0))) = s.gal.pending :=
    List.filter_eq_self.2 fun p hp => by simp [h p hp]
  unfold State.drawDenials
  dsimp only
  rw [none_]
  show (s.modGal fun g => { g with pending := g.pending.filter fun p => !(decide (p.bank = b) && decide (s.tickets b p.req.req = 0)) }) = s
  unfold State.modGal
  dsimp only
  rw [all_]

theorem State.drawWin_nobody (none_ : s.gal.pending = []) (v : Nat) : s.drawWin b v beats = s := by
  have nobody : s.waiting b = [] := by
    unfold State.waiting
    rw [none_]
    exact List.filter_eq_nil_iff.2 fun _ _ => Bool.false_ne_true
  unfold State.drawWin
  rw [nobody]
  rfl

/-- The request of a sole requester. -/
def GalReq.alone (q : GalReq) (b : Nat) : PendingReq := { req := q, bank := b }

theorem State.drawWin_alone (one : s.gal.pending = [q.alone b]) (hq : q.req < 28) (tickets : 0 < s.tickets b q.req) (v : Nat) :
    s.drawWin b v beats = (s.drawTake b q.req (q.alone b)).access q beats := by
  have who : s.waiting b = [q.req] := by
    unfold State.waiting
    rw [one]
    refine range_filter_one hq fun r => ?_
    simp [GalReq.alone, eq_comm]
  unfold State.drawWin
  rw [who, s.lottery_alone tickets, one]
  simp [GalReq.alone]

variable (pending : s.gal.pending = []) (awake : s.awake q.req = true) (bank : galleryBank q.addr = some b) (whole : q.whole = true)
  (y0 : y0Allowed q.req b q.op = true)
include pending awake bank whole y0

theorem State.arrive_bank : (s.drawClock clocks).arrive q = if s.tickets b q.req = 0 then (s.drawClock clocks).deny b q.req q.addr
    else (s.drawClock clocks).modGal fun g => { g with pending := [q.alone b] } := by
  have none_ : (s.drawClock clocks).gal.pending = [] := by
    show s.gal.pending.map _ = []
    rw [pending]
    rfl
  unfold State.arrive
  rw [if_neg (by rw [show (s.drawClock clocks).awake q.req = true from awake]; decide), if_neg (by rw [whole]; decide), bank]
  dsimp only
  rw [if_neg (by rw [y0]; decide), s.tickets_drawClock]
  unfold State.modGal
  dsimp only
  rw [none_]
  rfl

end Stage

/-! ### The draw of a sole requester -/

/-- The Gallery clock of a draw. -/
def State.drawAt (s : State) (clocks : Nat) : Nat := Nat.max s.galClock s.gal.lfsrAt + clocks

/-- The sole requester has won. -/
def State.drawWon (s : State) (b clocks : Nat) (q : GalReq) : State :=
  ((s.drawClock clocks).modGal fun g => { g with pending := [q.alone b] }).drawTake b q.req (q.alone b)

/-- The LFSR after a draw (R34). -/
theorem State.drawClock_lfsr (s : State) (clocks : Nat) : (s.drawClock clocks).get F.GAL_LFSR_STATE =
    iter lfsrNext (Nat.max s.galClock s.gal.lfsrAt + clocks - s.gal.lfsrAt) (s.get F.GAL_LFSR_STATE) % 2 ^ 32 := by
  refine (State.get_put_self s F.GAL_LFSR_STATE _).trans ?_
  unfold State.lfsrAtClock
  rw [lfsrJump_eq]
  rfl

section Won
variable {s : State} {b clocks : Nat} {q : GalReq}

theorem State.drawTake_get (u : State) (r : Nat) (p : PendingReq) {f : Fld} (bank : f.key ≠ (F.GAL_BSTAT_MAXWAIT.at b).key)
    (req : f.key ≠ (F.GAL_WAITMAX_MAXWAIT.at r).key) : (u.drawTake b r p).get f = u.get f := by
  unfold State.drawTake
  dsimp only
  rw [State.get_put_ne _ _ _ _ req, State.get_put_ne _ _ _ _ bank]
  rfl

theorem State.drawWon_get {f : Fld} (lfsr : f.key ≠ F.GAL_LFSR_STATE.key) (bank : f.key ≠ (F.GAL_BSTAT_MAXWAIT.at b).key)
    (req : f.key ≠ (F.GAL_WAITMAX_MAXWAIT.at q.req).key) : (s.drawWon b clocks q).get f = s.get f :=
  (State.drawTake_get _ _ _ bank req).trans (s.get_put_ne _ _ _ lfsr)

theorem State.drawWon_lfsr (hb : b < 16) (hq : q.req < 28) : (s.drawWon b clocks q).get F.GAL_LFSR_STATE =
    iter lfsrNext (Nat.max s.galClock s.gal.lfsrAt + clocks - s.gal.lfsrAt) (s.get F.GAL_LFSR_STATE) % 2 ^ 32 := by
  have bank : ∀ b < 16, F.GAL_LFSR_STATE.key ≠ (F.GAL_BSTAT_MAXWAIT.at b).key := by decide
  have req : ∀ r < 28, F.GAL_LFSR_STATE.key ≠ (F.GAL_WAITMAX_MAXWAIT.at r).key := by decide
  exact (State.drawTake_get _ _ _ (bank b hb) (req _ hq)).trans (s.drawClock_lfsr clocks)

/-- A Gallery in which nothing waits, at another clock. -/
theorem Gallery.nothing_waits {g : Gallery} (h : g.pending = []) (c : Nat) : { g with lfsrAt := c, pending := [] } = { g with lfsrAt := c } := by
  cases g
  cases h
  rfl

theorem State.drawTake_eq (u : State) (b r : Nat) (p : PendingReq) :
    ∃ l, u.drawTake b r p = { u with regs := l, gal := { u.gal with pending := u.gal.pending.erase p } } := ⟨_, rfl⟩

variable (pending : s.gal.pending = [])
include pending

theorem State.drawClock_eq : ∃ l, s.drawClock clocks = { s with regs := l, gal := { s.gal with lfsrAt := s.drawAt clocks } } := by
  obtain ⟨l, h⟩ : ∃ l, s.drawClock clocks = { s with regs := l, gal := { s.gal with lfsrAt := s.drawAt clocks, pending := s.gal.pending.map fun p =>
    { p with wait := p.wait + (Nat.max s.galClock s.gal.lfsrAt + clocks - s.gal.lfsrAt) } } } := ⟨_, rfl⟩
  refine ⟨l, h.trans ?_⟩
  rw [pending, List.map_nil, Gallery.nothing_waits pending]

theorem State.drawWon_eq : ∃ l, s.drawWon b clocks q = { s with regs := l, gal := { s.gal with lfsrAt := s.drawAt clocks } } := by
  let u := (s.drawClock clocks).modGal fun g => { g with pending := [q.alone b] }
  have hu : ∃ l, u = { s with regs := l, gal := { s.gal with lfsrAt := s.drawAt clocks, pending := [q.alone b] } } := ⟨_, rfl⟩
  have erased : [q.alone b].erase (q.alone b) = [] := List.erase_cons_head ..
  obtain ⟨l, hu⟩ := hu
  obtain ⟨k, taken⟩ := u.drawTake_eq b q.req (q.alone b)
  refine ⟨k, taken.trans ?_⟩
  rw [hu]
  show { s with regs := k, gal := { s.gal with lfsrAt := s.drawAt clocks, pending := [q.alone b].erase (q.alone b) } } = _
  rw [erased, Gallery.nothing_waits pending]

variable (awake : s.awake q.req = true) (bank : galleryBank q.addr = some b) (whole : q.whole = true) (y0 : y0Allowed q.req b q.op = true)
include awake bank whole y0

theorem State.gallery_alone {beats : Nat} (hq : q.req < 28) (tickets : 0 < s.tickets b q.req) :
    s.gallery b clocks [q] beats = (s.drawWon b clocks q).access q beats := by
  let u := (s.drawClock clocks).modGal fun g => { g with pending := [q.alone b] }
  have one : u.gal.pending = [q.alone b] := rfl
  have held : u.tickets b q.req = s.tickets b q.req := s.tickets_drawClock clocks q.req b
  have arrived : (s.drawClock clocks).drawArrivals [q] = u :=
    (State.drawArrivals_bank bank).trans ((State.arrive_bank pending awake bank whole y0).trans (if_neg (Nat.pos_iff_ne_zero.1 tickets)))
  have kept : u.drawDenials b = u := State.drawDenials_none fun p hp => by
    obtain rfl : p = q.alone b := List.mem_singleton.1 hp
    show u.tickets b q.req ≠ 0
    rw [held]
    exact Nat.pos_iff_ne_zero.1 tickets
  rw [State.gallery_eq, arrived, kept]
  exact State.drawWin_alone one hq (held ▸ tickets) _

theorem State.gallery_denied {beats : Nat} (tickets : s.tickets b q.req = 0) :
    s.gallery b clocks [q] beats = (s.drawClock clocks).deny b q.req q.addr := by
  have arrived : (s.drawClock clocks).drawArrivals [q] = (s.drawClock clocks).deny b q.req q.addr :=
    (State.drawArrivals_bank bank).trans ((State.arrive_bank pending awake bank whole y0).trans (if_pos tickets))
  have none_ : ((s.drawClock clocks).deny b q.req q.addr).gal.pending = [] := by
    unfold State.deny State.accessFault
    rw [State.emit_of_not_held _ _ rfl]
    show s.gal.pending.map _ = []
    rw [pending]
    rfl
  rw [State.gallery_eq, arrived, State.drawDenials_none (fun p hp => by rw [none_] at hp; cases hp)]
  exact State.drawWin_nobody none_ _

end Won

/-! ### What the command does -/

section Serve
variable {s : State} {b clocks beats : Nat} {q : GalReq} (hb : b < 16) (pending : s.gal.pending = []) (awake : s.awake q.req = true)
  (bank : galleryBank q.addr = some b) (whole : q.whole = true) (hq : q.req < 28) (y0 : y0Allowed q.req b q.op = true)
include pending awake bank whole hq y0

omit pending awake bank whole hq y0 in
theorem galleryAccess_run {u : State} (h : s.begin.gallery b clocks [q] beats = u) :
    exec (.galleryAccess b clocks [q] beats []) s = .next (s.afterMem u) := h ▸ rfl

include hb in
theorem galleryAccess_writes (ok : s.memOk) (tickets : 0 < s.tickets b q.req) (op : q.op ≠ 0) (len : q.len ≤ q.data.length) (clean : q.ecc = []) :
    ∃ t, exec (.galleryAccess b clocks [q] beats []) s = .next t ∧
      (∀ a, t.octetAt a = if q.addr ≤ a ∧ a < q.addr + q.octs beats then q.data.getD (a - q.addr) 0 % 256 else s.octetAt a) ∧
      t.get F.GAL_LFSR_STATE =
        iter lfsrNext (Nat.max s.galClock s.gal.lfsrAt + clocks - s.gal.lfsrAt) (s.get F.GAL_LFSR_STATE) % 2 ^ 32 ∧
      (∀ f : Fld, f.key ≠ F.GAL_LFSR_STATE.key → f.key ≠ (F.GAL_BSTAT_MAXWAIT.at b).key →
        f.key ≠ (F.GAL_WAITMAX_MAXWAIT.at q.req).key → t.get f = s.get f) ∧
      { t with
        mem := s.mem, prog := { t.prog with areas := s.prog.areas }, gal := { t.gal with lfsrAt := s.gal.lfsrAt }
        regs := s.regs, out := s.out } = s := by
  have eq := (State.gallery_alone (s := s.begin) (clocks := clocks) (beats := beats) pending awake bank whole y0 hq tickets).trans
    (State.access_writes clean op)
  have lfsr := State.drawWon_lfsr (s := s.begin) (clocks := clocks) hb hq
  have get {f : Fld} := State.drawWon_get (s := s.begin) (b := b) (clocks := clocks) (q := q) (f := f)
  obtain ⟨l, won⟩ := State.drawWon_eq (s := s.begin) (b := b) (clocks := clocks) (q := q) pending
  generalize s.begin.drawWon b clocks q = u at eq lfsr get won
  have octets := State.octetAt_putOctets (q.data.take (q.octs beats)) (s := u) (by rw [won]; exact ok) q.addr
  have stored := State.putOctets_stored (q.data.take (q.octs beats)) u q.addr
  have short : q.octs beats ≤ q.data.length := Nat.le_trans (Nat.min_le_left ..) len
  generalize u.putOctets q.addr (q.data.take (q.octs beats)) = t at eq octets stored
  have regs : t.regs = u.regs := stored.regs
  refine ⟨_, galleryAccess_run eq, fun a => ?_, ?_, fun f h1 h2 h3 => ?_, ?_⟩
  · refine (octets a).trans ?_
    rw [List.length_take, Nat.min_eq_left short]
    split
    · next inside => rw [List.getD_eq_getElem?_getD, List.getElem?_take_of_lt (by omega), ← List.getD_eq_getElem?_getD]
    · rw [won]
      rfl
  · refine Eq.trans ?_ lfsr
    exact congrArg (fun l : SMap Nat => (SMap.get? l F.GAL_LFSR_STATE.key).getD _) regs
  · rw [show s.get f = s.begin.get f from rfl, ← get h1 h2 h3]
    exact congrArg (fun l : SMap Nat => (SMap.get? l f.key).getD _) regs
  · obtain ⟨m, k, rfl⟩ := stored
    subst won
    cases s
    rfl

theorem galleryAccess_reads (tickets : 0 < s.tickets b q.req) (op : q.op = 0) (clean : q.ecc = []) :
    ∃ t, exec (.galleryAccess b clocks [q] beats []) s = .next t ∧
      t.out = [⟨.value, [(q.req : Int), 0, q.addr] ++ (s.octetsAt q.addr (q.octs beats)).map Int.ofNat⟩] ∧
      { t with gal := { t.gal with lfsrAt := s.gal.lfsrAt }, regs := s.regs, out := s.out } = s := by
  have eq := (State.gallery_alone (s := s.begin) (clocks := clocks) (beats := beats) pending awake bank whole y0 hq tickets).trans
    (State.access_reads clean op)
  rw [State.emit_of_not_held _ _ rfl] at eq
  obtain ⟨l, won⟩ := State.drawWon_eq (s := s.begin) (b := b) (clocks := clocks) (q := q) pending
  rw [won] at eq
  exact ⟨_, galleryAccess_run eq, rfl, by cases s; rfl⟩

include hb in
omit hq in
theorem galleryAccess_denies (tickets : s.tickets b q.req = 0) :
    ∃ t, exec (.galleryAccess b clocks [q] beats []) s = .next t ∧ t.out = [⟨.fault, [(q.req : Int), q.addr]⟩] ∧
      t.get (F.GAL_BSTAT_DENIED.at b) =
        satAdd F.GAL_BSTAT_DENIED.max (s.get (F.GAL_BSTAT_DENIED.at b)) 1 % 2 ^ F.GAL_BSTAT_DENIED.width ∧
      { t with gal := { t.gal with lfsrAt := s.gal.lfsrAt }, regs := s.regs, out := s.out } = s := by
  have eq := State.gallery_denied (s := s.begin) (clocks := clocks) (beats := beats) pending awake bank whole y0 tickets
  unfold State.deny State.accessFault at eq
  rw [State.emit_of_not_held _ _ rfl] at eq
  have apart : ∀ b < 16, (F.GAL_BSTAT_DENIED.at b).key ≠ F.GAL_LFSR_STATE.key := by decide
  have before : (s.begin.drawClock clocks).get (F.GAL_BSTAT_DENIED.at b) = s.get (F.GAL_BSTAT_DENIED.at b) :=
    s.begin.get_put_ne _ _ _ (apart b hb)
  obtain ⟨l, clock⟩ := State.drawClock_eq (s := s.begin) (clocks := clocks) pending
  generalize s.begin.drawClock clocks = u at eq before clock
  refine ⟨_, galleryAccess_run eq, ?_, ?_, ?_⟩
  · rw [clock]
    rfl
  · refine (State.get_put_self u (F.GAL_BSTAT_DENIED.at b) _).trans ?_
    rw [before]
    rfl
  · rw [clock]
    cases s
    rfl

end Serve

/-- Settles O3: of one request the draw has one winner, whatever the LFSR gives (`lottery_alone`). -/
theorem galleryServesTheWinner : Obligations.GalleryServesTheWinner := by
  unfold Obligations.GalleryServesTheWinner
  exact ⟨fun s b clocks beats q hb ok pending awake bank whole hq y0 tickets op len clean =>
      galleryAccess_writes hb pending awake bank whole hq y0 ok tickets op len clean,
    fun s b clocks beats q _ pending awake bank whole hq y0 tickets op clean => galleryAccess_reads pending awake bank whole hq y0 tickets op clean,
    fun s b clocks beats q hb pending awake bank whole _ y0 tickets => galleryAccess_denies hb pending awake bank whole y0 tickets⟩

end Sys2Proof.Machine

/-! ### Loss of the Lead, conflict of roles and planned swap (R545, R552 to R562; O51) -/
namespace Sys2Proof.Machine

/-! ### Loss of the Lead (R555) -/

section Loss
variable {s : State} (role : s.role = .follower) (mode : s.mode = .shadow) (live : s.live = true)
include role mode live

theorem leadLoss_open (us : Nat) (waits : s.spl.takeAt = none)
    (lost : s.get F.SPL_STAT_PARTNER_HB = 0 ∨ s.spl.relinquished = true) : s.leadLoss us =
    if ((s.atNs (1000 * us)).put F.SPL_STAT_ROLE_IN 0).eligible = true then
      ((s.atNs (1000 * us)).put F.SPL_STAT_ROLE_IN 0).modSpl fun x => { x with takeAt := some (if us < 9000 then s.num + 1 else s.num + 2) }
    else ((s.atNs (1000 * us)).put F.SPL_STAT_ROLE_IN 0).log Sev.critical 0 F.SPL_STAT_ROLE_IN [] := by
  refine if_neg ?_
  rw [role, mode, live, waits]
  rcases lost with h | h
  · rw [State.flag_off h]; simp
  · rw [h]; simp

omit role mode live in
/-- ROLE_IN and the clock have no part in eligibility. -/
theorem eligible_roleIn (us : Nat) : ((s.atNs (1000 * us)).put F.SPL_STAT_ROLE_IN 0).eligible = s.eligible := by
  unfold State.eligible State.aligned State.flag
  rw [State.get_put_ne _ _ _ _ (by decide), State.get_put_ne _ _ _ _ (by decide)]
  rfl

theorem leadLossDetect_found (us : Nat) (waits : s.spl.takeAt = none)
    (lost : s.get F.SPL_STAT_PARTNER_HB = 0 ∨ s.spl.relinquished = true) : ∃ t, exec (.leadLossDetect us) s = .next t ∧
      t.get F.SPL_STAT_ROLE_IN = 0 ∧ t.role = .follower ∧
      t.spl.takeAt = if s.eligible = true then some (if us < 9000 then s.num + 1 else s.num + 2) else none := by
  have eq := leadLoss_open (s := s.begin) role mode live us waits lost
  rw [eligible_roleIn, show s.begin.eligible = s.eligible from rfl] at eq
  have low : ((s.begin.atNs (1000 * us)).put F.SPL_STAT_ROLE_IN 0).get F.SPL_STAT_ROLE_IN = 0 := State.get_put_self _ _ 0
  split at eq
  next able =>
    refine ⟨_, congrArg (fun u => Host.Outcome.next (s.after u)) eq, low, role, ?_⟩
    rw [if_pos able]
    rfl
  next unable =>
    have kept := within_log (D := logParts) ((s.begin.atNs (1000 * us)).put F.SPL_STAT_ROLE_IN 0) Sev.critical 0 F.SPL_STAT_ROLE_IN [] fun _ h => h
    refine ⟨_, congrArg (fun u => Host.Outcome.next (s.after u)) eq, (kept.get (by decide) (by decide)).trans low, kept.role.trans role, ?_⟩
    rw [if_neg unable]
    exact (kept.spl_proj Splice.takeAt (fun _ => rfl)).trans waits

end Loss

theorem leadLossDetect_idle (s : State) (us : Nat) (h : s.role ≠ .follower ∨ s.mode ≠ .shadow ∨ s.live = false ∨ s.spl.takeAt.isSome = true ∨
    (s.get F.SPL_STAT_PARTNER_HB ≠ 0 ∧ s.spl.relinquished = false)) : s.idle (.leadLossDetect us) := by
  refine State.idle_run rfl (if_pos ?_)
  have h : s.begin.role ≠ .follower ∨ s.begin.mode ≠ .shadow ∨ s.begin.live = false ∨ s.begin.spl.takeAt.isSome = true ∨
    (s.begin.flag F.SPL_STAT_PARTNER_HB = true ∧ s.begin.spl.relinquished = false) :=
    h.imp id (.imp id (.imp id (.imp id (.imp State.flag_on id))))
  rcases h with h | h | h | h | ⟨h, k⟩
  · rw [decide_eq_true h]; simp
  · rw [decide_eq_true h]; simp
  · rw [h]; simp
  · rw [h]; simp
  · rw [h, k]; simp

theorem takeover_idle (s : State) (h : s.role ≠ .follower ∨ s.mode ≠ .shadow ∨ s.spl.takeAt = none ∨ s.get F.SPL_STAT_ROLE_IN ≠ 0 ∨
    s.live = false ∨ (s.get F.SPL_STAT_PARTNER_HB ≠ 0 ∧ s.spl.relinquished = false)) : s.idle .takeover := by
  refine State.idle_run rfl (if_pos ?_)
  have h : s.begin.takeDue = false ∨ s.begin.flag F.SPL_STAT_ROLE_IN = true ∨ s.begin.live = false ∨
      (s.begin.flag F.SPL_STAT_PARTNER_HB = true ∧ s.begin.spl.relinquished = false) := by
    rcases h with h | h | h | h | h | ⟨h, k⟩
    · left; unfold State.takeDue; rw [show s.begin.role = s.role from rfl, decide_eq_false h]; rfl
    · left; unfold State.takeDue; rw [show s.begin.mode = s.mode from rfl, decide_eq_false h]; simp
    · left; unfold State.takeDue; rw [show s.begin.spl = s.spl from rfl, h]; simp
    · exact .inr (.inl (State.flag_on h))
    · exact .inr (.inr (.inl h))
    · exact .inr (.inr (.inr ⟨State.flag_on h, k⟩))
  rcases h with h | h | h | ⟨h, k⟩
  · rw [h]; rfl
  · rw [h]; simp
  · rw [h]; simp
  · rw [h, k]; simp

theorem relinquish_taken (s : State) : (s.role = .follower → s.linkUp = true → ∃ t, exec .relinquish s = .next t ∧
      t.spl = { s.spl with relinquished := true } ∧ { t with spl := s.spl, out := s.out } = s) ∧
    (s.role ≠ .follower ∨ s.linkUp = false → s.idle .relinquish) := by
  refine ⟨fun role link => ?_, fun h => State.idle_run rfl (if_neg ?_)⟩
  · have eq : s.begin.when (decide (s.begin.role = .follower) && s.begin.linkUp) (fun s => s.modSpl fun x => { x with relinquished := true }) =
        s.begin.modSpl fun x => { x with relinquished := true } := by
      refine if_pos ?_
      rw [show s.begin.role = .follower from role, show s.begin.linkUp = true from link]
      rfl
    exact ⟨_, congrArg (fun u => Host.Outcome.next (s.after u)) eq, rfl, by cases s; rfl⟩
  · have h : s.begin.role ≠ .follower ∨ s.begin.linkUp = false := h
    rcases h with h | h
    · rw [decide_eq_false h]; simp
    · rw [h]; simp

/-! ### Conflict of roles (R545, R559) -/

theorem leadConflict_basic (s : State) : (s.role = .lead → s.get F.SPL_CFG_UNIT = 1 → s.live = true → s.mode.active = true →
      ∃ t, exec .leadConflict s = .next t ∧ t.get F.SPL_STAT_ROLE_IN = 1 ∧
        t.frame.modeReqs = s.frame.modeReqs ++ [{ ev := .enterBasic, by_ := .quiet, at_ := s.num }]) ∧
    (s.role ≠ .lead ∨ s.get F.SPL_CFG_UNIT ≠ 1 ∨ s.mode.active = false ∨ s.live = false → s.idle .leadConflict) := by
  refine ⟨fun role unit live active => ?_, fun h => State.idle_run rfl (if_pos ?_)⟩
  · have eq : s.begin.leadConflict =
        ((s.begin.put F.SPL_STAT_ROLE_IN 1).modeReq .enterBasic .quiet).log Sev.critical 0 F.SPL_STAT_ROLE_IN [] := by
      refine if_neg ?_
      rw [show s.begin.role = .lead from role, show s.begin.get F.SPL_CFG_UNIT = 1 from unit, show s.begin.live = true from live,
        show s.begin.mode.active = true from active]
      decide
    have kept := within_log (D := logParts) ((s.begin.put F.SPL_STAT_ROLE_IN 1).modeReq .enterBasic .quiet) Sev.critical 0 F.SPL_STAT_ROLE_IN []
      fun _ h => h
    exact ⟨_, congrArg (fun u => Host.Outcome.next (s.after u)) eq,
      (kept.get (by decide) (by decide)).trans (State.get_put_self s.begin F.SPL_STAT_ROLE_IN 1), kept.modeReqs⟩
  · have h : s.begin.role ≠ .lead ∨ s.begin.get F.SPL_CFG_UNIT ≠ 1 ∨ s.begin.mode.active = false ∨ s.begin.live = false := h
    rcases h with h | h | h | h
    · rw [decide_eq_true h]; simp
    · rw [decide_eq_true h]; simp
    · rw [h]; simp
    · rw [h]; simp

theorem roleInRise_follows (s : State) : (s.role = .lead → s.mode = .basic → s.live = true → ∃ t, exec .roleInRise s = .next t ∧ t.role = .follower ∧
      t.get F.SPL_STAT_ROLE_IN = 1 ∧ t.get F.SPL_STAT_SYNC = 0) ∧
    (s.role ≠ .lead ∨ s.mode ≠ .basic ∨ s.live = false → ∃ t, exec .roleInRise s = .next t ∧ t.get F.SPL_STAT_ROLE_IN = 1 ∧
      { t with regs := s.regs, out := s.out } = s) := by
  let u := s.begin.put F.SPL_STAT_ROLE_IN 1
  have high : u.get F.SPL_STAT_ROLE_IN = 1 := State.get_put_self s.begin F.SPL_STAT_ROLE_IN 1
  refine ⟨fun role mode live => ?_, fun h => ?_⟩
  · have eq : s.begin.roleInRise = ({ u with role := .follower } : State).put F.SPL_STAT_SYNC 0 := by
      refine if_pos ?_
      rw [show u.role = .lead from role, show u.mode = .basic from mode, show u.live = true from live]
      rfl
    exact ⟨_, congrArg (fun u => Host.Outcome.next (s.after u)) eq, rfl,
      (State.get_put_ne ({ u with role := .follower } : State) F.SPL_STAT_SYNC F.SPL_STAT_ROLE_IN 0 (by decide)).trans high,
      State.get_put_self ({ u with role := .follower } : State) F.SPL_STAT_SYNC 0⟩
  · have eq : s.begin.roleInRise = u := by
      refine if_neg ?_
      have h : u.role ≠ .lead ∨ u.mode ≠ .basic ∨ u.live = false := h
      rcases h with h | h | h
      · rw [decide_eq_false h]; simp
      · rw [decide_eq_false h]; simp
      · rw [h]; simp
    exact ⟨_, congrArg (fun u => Host.Outcome.next (s.after u)) eq, high, by cases s; rfl⟩

/-! ### The command of a planned swap (R561) -/

theorem cycLen_pos (s : State) : 0 < s.cycLen := by
  unfold State.cycLen
  split
  · exact lt_of_lt_of_le Nat.zero_lt_one (Nat.le_max_left ..)
  · exact Nat.zero_lt_one

/-- The first multiple of l at or above a. -/
theorem first_multiple (a : Nat) {l : Nat} (h : 0 < l) : a ≤ (a + l - 1) / l * l ∧ (a + l - 1) / l * l % l = 0 ∧
    ∀ m, a ≤ m → m % l = 0 → (a + l - 1) / l * l ≤ m := by
  refine ⟨?_, Nat.mul_mod_left .., fun m le mul => ?_⟩
  · have rest := Nat.div_add_mod' (a + l - 1) l
    have small := Nat.mod_lt (a + l - 1) h
    omega
  · obtain ⟨q, rfl⟩ := Nat.dvd_of_mod_eq_zero mul
    rw [Nat.mul_comm l q]
    refine Nat.mul_le_mul_right l (Nat.lt_succ_iff.1 ((Nat.div_lt_iff_lt_mul h).2 ?_))
    rw [Nat.succ_mul, Nat.mul_comm q l]
    omega

theorem swapFrame_first (s : State) : s.num + (if s.frame.off = 0 then 2 else 3) ≤ s.swapFrame ∧ s.swapFrame % s.cycLen = 0 ∧
    ∀ m, s.num + (if s.frame.off = 0 then 2 else 3) ≤ m → m % s.cycLen = 0 → s.swapFrame ≤ m := first_multiple _ (cycLen_pos s)

section Swap
variable {s : State} {who : Requester} {confirm : Nat}

theorem splCmd_unconfirmed (h : confirm ≠ confirmValue) : s.splCmd 1 confirm = (s, St.confirm) := (if_neg (by decide)).trans (if_pos h)

section Confirmed
variable (confirmed : confirm = confirmValue)
include confirmed

theorem splCmd_confirmed : s.splCmd 1 confirm =
    if (!s.live || !s.mode.active) = true then (s, St.mode)
    else if s.role ≠ .lead then (s, St.notPaired)
    else if (!s.partnerEligible) = true then (s, St.notEligible)
    else if s.drv.axes.any (fun p => p.2.st.active) = true then (s, St.axesActive)
    else if s.spl.swapAt.isSome = true then (s, St.busy)
    else (s.modSpl fun x => { x with swapAt := some s.swapFrame, swapBy := .command splStat }, St.pending) :=
  (if_neg (by decide)).trans (if_neg (not_not.2 confirmed))

theorem splCmd_mode (h : s.mode.active = false ∨ s.live = false) : s.splCmd 1 confirm = (s, St.mode) := by
  rw [splCmd_confirmed confirmed, if_pos (by rcases h with h | h <;> rw [h] <;> simp)]

variable (active : s.mode.active = true) (live : s.live = true)
include active live

theorem splCmd_active : s.splCmd 1 confirm =
    if s.role ≠ .lead then (s, St.notPaired)
    else if (!s.partnerEligible) = true then (s, St.notEligible)
    else if s.drv.axes.any (fun p => p.2.st.active) = true then (s, St.axesActive)
    else if s.spl.swapAt.isSome = true then (s, St.busy)
    else (s.modSpl fun x => { x with swapAt := some s.swapFrame, swapBy := .command splStat }, St.pending) :=
  (splCmd_confirmed confirmed).trans (if_neg (by rw [active, live]; decide))

theorem splCmd_unpaired (role : s.role ≠ .lead) : s.splCmd 1 confirm = (s, St.notPaired) := (splCmd_active confirmed active live).trans (if_pos role)

variable (role : s.role = .lead)
include role

theorem splCmd_ineligible (able : s.partnerEligible = false) : s.splCmd 1 confirm = (s, St.notEligible) := by
  rw [splCmd_active confirmed active live, if_neg (not_not.2 role), if_pos (by rw [able]; rfl)]

variable (able : s.partnerEligible = true)
include able

theorem splCmd_axes (axes : ∃ p ∈ s.drv.axes, p.2.st.active = true) : s.splCmd 1 confirm = (s, St.axesActive) := by
  rw [splCmd_active confirmed active live, if_neg (not_not.2 role), if_neg (by rw [able]; decide), if_pos (List.any_eq_true.2 axes)]

variable (rest : ∀ p ∈ s.drv.axes, p.2.st.active = false)
include rest

theorem splCmd_rest : s.splCmd 1 confirm = if s.spl.swapAt.isSome = true then (s, St.busy)
    else (s.modSpl fun x => { x with swapAt := some s.swapFrame, swapBy := .command splStat }, St.pending) := by
  rw [splCmd_active confirmed active live, if_neg (not_not.2 role), if_neg (by rw [able]; decide), if_neg ?_]
  rw [List.any_eq_true]
  rintro ⟨p, hp, on⟩
  exact Bool.false_ne_true ((rest p hp).symm.trans on)

theorem splCmd_busy (waits : s.spl.swapAt.isSome = true) : s.splCmd 1 confirm = (s, St.busy) :=
  (splCmd_rest confirmed active live role able rest).trans (if_pos waits)

theorem splCmd_pending (none_ : s.spl.swapAt = none) : s.splCmd 1 confirm =
    (s.modSpl fun x => { x with swapAt := some s.swapFrame, swapBy := .command splStat }, St.pending) :=
  (splCmd_rest confirmed active live role able rest).trans (if_neg (by rw [none_]; exact Bool.false_ne_true))

end Confirmed

variable (may : s.mayWrite who)
include may

/-- SWAP answers, and shows, what SPL_CMD decides. -/
theorem swap_run {u : State} {st : Nat} (h : s.begin.splCmd 1 confirm = (u, st)) :
    ∃ t, exec (.swap who confirm) s = .next t ∧ t.get F.SPL_CMD_STAT_STATUS = st % 65536 ∧ t.spl = u.spl := by
  have run : exec (.swap who confirm) s = .next (s.after ((u.cmdStat F.SPL_CMD_STAT_CODE F.SPL_CMD_STAT_STATUS 1 st).reply who st)) := by
    refine congrArg (fun u => Host.Outcome.next (s.after u)) ((State.gate_open may _).trans ?_)
    unfold State.splCommand
    rw [h]
  rw [State.reply_eq] at run
  exact ⟨_, run, State.get_put_self (u.put F.SPL_CMD_STAT_CODE 1) F.SPL_CMD_STAT_STATUS st, rfl⟩

theorem swap_refused {st : Nat} (h : s.begin.splCmd 1 confirm = (s.begin, st)) :
    ∃ t, exec (.swap who confirm) s = .next t ∧ t.get F.SPL_CMD_STAT_STATUS = st % 65536 ∧ t.spl = s.spl :=
  swap_run (s := s) (u := s.begin) may h

theorem swap_waits (confirmed : confirm = confirmValue) (active : s.mode.active = true) (live : s.live = true) (role : s.role = .lead)
    (able : s.partnerEligible = true) (rest : ∀ p ∈ s.drv.axes, p.2.st.active = false) (none_ : s.spl.swapAt = none) :
    ∃ t n k, exec (.swap who confirm) s = .next t ∧ t.get F.SPL_CMD_STAT_STATUS = St.pending ∧
      t.spl = { s.spl with swapAt := some n, swapBy := .command splStat } ∧ k = (if s.frame.off = 0 then 2 else 3) ∧
      s.num + k ≤ n ∧ n % s.cycLen = 0 ∧ ∀ m, s.num + k ≤ m → m % s.cycLen = 0 → n ≤ m := by
  obtain ⟨t, run, status, spl⟩ := swap_run may (splCmd_pending (s := s.begin) confirmed active live role able rest none_)
  exact ⟨t, s.swapFrame, _, run, status, spl, rfl, swapFrame_first s⟩

end Swap

theorem swap_decided (s : State) (who : Requester) (may : s.mayWrite who) :
    (∀ c, c ≠ 0x5AFE → ∃ t, exec (.swap who c) s = .next t ∧ t.get F.SPL_CMD_STAT_STATUS = St.confirm ∧ t.spl = s.spl) ∧
    (s.mode.active = false ∨ s.live = false → ∃ t, exec (.swap who 0x5AFE) s = .next t ∧ t.get F.SPL_CMD_STAT_STATUS = St.mode ∧ t.spl = s.spl) ∧
    (s.mode.active = true → s.live = true →
      (s.role ≠ .lead → ∃ t, exec (.swap who 0x5AFE) s = .next t ∧ t.get F.SPL_CMD_STAT_STATUS = St.notPaired ∧ t.spl = s.spl) ∧
      (s.role = .lead →
        (s.partnerEligible = false → ∃ t, exec (.swap who 0x5AFE) s = .next t ∧ t.get F.SPL_CMD_STAT_STATUS = St.notEligible ∧
          t.spl = s.spl) ∧
        (s.partnerEligible = true → (∃ p ∈ s.drv.axes, p.2.st.active = true) → ∃ t, exec (.swap who 0x5AFE) s = .next t ∧
          t.get F.SPL_CMD_STAT_STATUS = St.axesActive ∧ t.spl = s.spl) ∧
        (s.partnerEligible = true → (∀ p ∈ s.drv.axes, p.2.st.active = false) → s.spl.swapAt.isSome = true →
          ∃ t, exec (.swap who 0x5AFE) s = .next t ∧ t.get F.SPL_CMD_STAT_STATUS = St.busy ∧ t.spl = s.spl) ∧
        (s.partnerEligible = true → (∀ p ∈ s.drv.axes, p.2.st.active = false) → s.spl.swapAt = none →
          ∃ t n k, exec (.swap who 0x5AFE) s = .next t ∧ t.get F.SPL_CMD_STAT_STATUS = St.pending ∧
            t.spl = { s.spl with swapAt := some n, swapBy := .command splStat } ∧ k = (if s.frame.off = 0 then 2 else 3) ∧
            s.num + k ≤ n ∧ n % s.cycLen = 0 ∧ ∀ m, s.num + k ≤ m → m % s.cycLen = 0 → n ≤ m))) :=
  ⟨fun _ h => swap_refused may (splCmd_unconfirmed h), fun h => swap_refused may (splCmd_mode (s := s.begin) rfl h),
    fun active live => ⟨fun role => swap_refused may (splCmd_unpaired (s := s.begin) rfl active live role),
      fun role => ⟨fun able => swap_refused may (splCmd_ineligible (s := s.begin) rfl active live role able),
        fun able axes => swap_refused may (splCmd_axes (s := s.begin) rfl active live role able axes),
        fun able rest waits => swap_refused may (splCmd_busy (s := s.begin) rfl active live role able rest waits),
        fun able rest none_ => swap_waits may rfl active live role able rest none_⟩⟩⟩

end Sys2Proof.Machine

/-! ### A Follower becomes Lead (R552 to R560; O51) -/
namespace Sys2Proof.Machine

/-- The role, the mode, the frame's number and the pair's own state stand, held effects apart. -/
structure Steady (s t : State) : Prop where
  role : t.role = s.role
  mode : t.mode = s.mode
  num : t.num = s.num
  spl : { t.spl with held := [] } = { s.spl with held := [] }

namespace Steady

@[simp] theorem refl (s : State) : Steady s s := ⟨rfl, rfl, rfl, rfl⟩

theorem trans {s t u : State} (h : Steady s t) (k : Steady t u) : Steady s u :=
  ⟨k.role.trans h.role, k.mode.trans h.mode, k.num.trans h.num, k.spl.trans h.spl⟩

theorem of_within {D : List Part} {s t : State} (h : Within D s t) (role : .role ∉ D := by decide) (mode : .mode ∉ D := by decide)
    (frame : .frame ∉ D := by decide) (spl : .spl ∉ D := by decide) : Steady s t :=
  ⟨h.role role, h.mode mode, h.num frame, h.same .spl spl⟩

theorem foldl {α : Type} {f : State → α → State} (hf : ∀ u x, Steady u (f u x)) : ∀ (l : List α) (s : State), Steady s (l.foldl f s)
  | [], s => .refl s
  | x :: l, s => (hf s x).trans (foldl hf l (f s x))

theorem ite {s t u : State} {c : Prop} [Decidable c] (h : Steady s t) (k : Steady s u) : Steady s (if c then t else u) := by
  split
  · exact h
  · exact k

theorem takeAt {s t : State} (h : Steady s t) : t.spl.takeAt = s.spl.takeAt := (congrArg Splice.takeAt h.spl :)

end Steady

section Parts
variable (s : State)

theorem steady_put (f : Fld) (v : Nat) : Steady s (s.put f v) := ⟨rfl, rfl, rfl, rfl⟩

theorem steady_modGal (g : Gallery → Gallery) : Steady s (s.modGal g) := ⟨rfl, rfl, rfl, rfl⟩

theorem steady_modWired (g : Wired → Wired) : Steady s (s.modWired g) := ⟨rfl, rfl, rfl, rfl⟩

theorem steady_modLight (g : Light → Light) : Steady s (s.modLight g) := ⟨rfl, rfl, rfl, rfl⟩

theorem steady_modNet (g : Network → Network) : Steady s (s.modNet g) := ⟨rfl, rfl, rfl, rfl⟩

theorem steady_modDrv (g : DriveSt → DriveSt) : Steady s (s.modDrv g) := ⟨rfl, rfl, rfl, rfl⟩

theorem steady_modFleet (g : Fleet → Fleet) : Steady s (s.modFleet g) := ⟨rfl, rfl, rfl, rfl⟩

theorem steady_modPos (g : Positioning → Positioning) : Steady s (s.modPos g) := ⟨rfl, rfl, rfl, rfl⟩

theorem steady_modProg (g : Prog → Prog) : Steady s (s.modProg g) := ⟨rfl, rfl, rfl, rfl⟩

theorem steady_modRadio (r : Nat) (g : Radio → Radio) : Steady s (s.modRadio r g) := ⟨rfl, rfl, rfl, rfl⟩

theorem steady_setNode (i : Nat) (x : Node) : Steady s (s.setNode i x) := ⟨rfl, rfl, rfl, rfl⟩

end Parts

theorem steady_finish (s : State) (o : Origin) (st : Nat) (r : List Nat) : Steady s (s.finish o st r) :=
  .of_within (within_finish (D := finishParts) s o st r fun _ h => h)

theorem steady_finishAll (s : State) (l : List Origin) (st : Nat) : Steady s (s.finishAll l st) :=
  .of_within (within_finishAll (D := finishParts) s l st fun _ h => h)

/-! ### What the new Lead ends and takes over (R206, R552, R553) -/

theorem steady_axesTaken (s : State) : Steady s s.axesTaken :=
  .foldl (fun u a => .ite (.refl u) ((Steady.of_within (within_endCalls u a St.aborted)).trans (.of_within (within_setAxis _ a _)))) _ s

theorem steady_fleetTaken (s : State) : Steady s s.fleetTaken := by
  unfold State.fleetTaken
  exact (steady_modFleet s _).trans (steady_finishAll ..)

theorem steady_freeSession (s : State) (c : Nat) : Steady s (s.freeSession c) := by
  unfold State.freeSession
  split
  · exact .refl s
  · exact .ite ⟨rfl, rfl, rfl, rfl⟩ ⟨rfl, rfl, rfl, rfl⟩

theorem steady_campaignEnd (s : State) (r st : Nat) : Steady s (s.campaignEnd r st) := by
  unfold State.campaignEnd
  have ended := Steady.of_within (within_setCampaign s r
    { s.campaign r with st := 4, image := [], todo := [], missing := [], by_ := .quiet })
  have shown (u : State) : Steady u (u.put (F.NET_UPD_STATUS.at r) st) := ⟨rfl, rfl, rfl, rfl⟩
  exact ((ended.trans (shown _)).trans (steady_freeSession ..)).trans (steady_finish ..)

theorem steady_abortCampaign {s t : State} {o : Origin} {st : Nat} (h : s.abortCampaign o = some (t, st)) : Steady s t := by
  unfold State.abortCampaign at h
  split at h
  · exact absurd h (by simp)
  next r _ =>
    have e := congrArg Prod.fst (Option.some.inj h)
    subst e
    exact ((steady_modRadio s r _).trans (.of_within (within_campaignAll ..))).trans (steady_campaignEnd ..)

theorem steady_campaigns (l : List Origin) (s : State) : Steady s (l.foldl (fun (s : State) o =>
    if o = .quiet then s else match s.abortCampaign o with | some (t, _) => t | none => s) s) := by
  refine .foldl (fun u o => .ite (.refl u) ?_) l s
  split
  · next h => exact steady_abortCampaign h
  · exact .refl u

theorem steady_takenOps (s : State) : Steady s s.takenOps := by
  unfold State.takenOps
  extract_lets s1 s2 s3 s4 s5 s6 s7 s8 s9 s10
  have one : Steady s s4 := (((steady_modGal s _).trans (steady_modWired ..)).trans (steady_modLight ..)).trans (steady_put ..)
  have two : Steady s4 s5 := (((steady_axesTaken s4).trans (steady_fleetTaken _)).trans (steady_modNet ..)).trans (steady_modDrv ..)
  have three : Steady s5 s7 := (steady_campaigns _ s5).trans (steady_modProg ..)
  have four : Steady s7 s8 := (Steady.of_within (within_switchAborted s7)).trans (steady_put ..)
  have five : Steady s8 s9 := .ite (((steady_put ..).trans (steady_put ..)).trans (steady_modProg ..)) (.refl s8)
  have six : Steady s9 s10 := steady_modWired ..
  exact (((((one.trans two).trans three).trans four).trans five).trans six).trans (steady_modProg ..)

/-- Rover envelopes and loops go on from the copied numbers. -/
theorem steady_takenRovers (s : State) : Steady s s.takenRovers := by
  unfold State.takenRovers
  exact ((steady_modGal s _).trans (steady_modFleet ..)).trans (steady_modPos ..)

theorem steady_taken (s : State) : Steady s s.abandonCycle.takenOps.takenRovers.loopsTaken :=
  ((Steady.of_within (within_abandonCycle s)).trans (steady_takenOps _)).trans ((steady_takenRovers _).trans (steady_modDrv ..))

/-! ### The lighting plane of the new Lead (R562) -/

theorem steady_localFade (s : State) (slot k : Nat) (tg : List Entry) (drive : Nat) : Steady s (s.localFade slot k tg drive) := by
  unfold State.localFade
  dsimp only
  split
  · exact ⟨rfl, rfl, rfl, rfl⟩
  · exact .refl s

theorem steady_commitNode (s : State) (t i : Nat) (x : Node) : Steady s (s.commitNode t i x) := by
  unfold State.commitNode
  dsimp only
  refine .ite (steady_setNode ..) ?_
  split
  · exact steady_setNode ..
  · exact (steady_setNode ..).trans (.foldl (fun u k => steady_localFade ..) _ _)

theorem steady_commitTag (s : State) (t : Nat) : Steady s (s.commitTag t) := by
  unfold State.commitTag
  exact ((steady_modLight s _).trans (.foldl (fun u p => steady_commitNode ..) _ _)).trans (steady_finishAll ..)

theorem steady_judgeTags (s : State) (onTime : Bool) (n : Nat) : Steady s (s.judgeTags onTime n) := by
  unfold State.judgeTags
  extract_lets g eff nDef u v
  have counted : Steady s v := ⟨rfl, rfl, rfl, rfl⟩
  exact counted.trans (.foldl steady_commitTag _ v)

theorem steady_confirmNode (s : State) (i : Nat) (x : Node) : Steady s (s.confirmNode i x) := by
  unfold State.confirmNode
  split
  · exact .refl s
  · dsimp only
    split
    · exact steady_setNode ..
    · exact steady_setNode ..
    · refine (steady_setNode s i _).trans (.ite (.of_within (within_setDisc _ i)) (.ite (.of_within (within_catchUp _ i)) (.refl _)))

theorem steady_confirmAll (s : State) : Steady s s.confirmAll := by
  unfold State.confirmAll
  exact .foldl (fun (u : State) (p : Nat × Node) => steady_confirmNode u p.1 ((u.node p.1).getD p.2)) s.light.nodes s

theorem steady_planeLanyardSync (s : State) (g : Nat) : Steady s (s.planeLanyardSync g) := by
  have change (n : Nat) (k : LayerKind) : Steady s (s.changeAt n false k 0 .quiet) := .of_within (within_changeAt s n false k 0 .quiet none)
  unfold State.planeLanyardSync State.planeLanyardGroup
  refine .ite (.ite (.refl s) ?_) (.ite (change _ _) (.refl s))
  split
  · exact change _ _
  · exact .ite (change _ _) (.refl s)

theorem steady_planeOn (s : State) : Steady s s.planeOn := by
  refine .ite (.refl s) ?_
  unfold State.planeStart
  extract_lets t u
  have started : Steady s u := ⟨rfl, rfl, rfl, rfl⟩
  exact started.trans (.foldl steady_planeLanyardSync _ u)

theorem steady_restage (s : State) : Steady s s.restage := by
  have rest : { s.restage with light := s.light } = s := (stages_stageAll 0 s (s.plansOf s.light.nodes none) (SMap.keys s.light.nodes)).rest
  generalize s.restage = t at rest ⊢
  rw [← rest]
  exact ⟨rfl, rfl, rfl, rfl⟩

theorem steady_fleetRun (s : State) : Steady s s.fleetRun := .foldl (fun u r => .of_within (within_setHold u r _ _)) _ s

end Sys2Proof.Machine

/-! ### Takeover and the new Lead of a swap (R552 to R562; O51) -/
namespace Sys2Proof.Machine

section Become
variable (s : State) (swap : Bool)

/-- The registers of the pair show the new Lead. -/
def State.leadShown : State :=
  ((((s.put F.SPL_STAT_SYNC 0).put F.SPL_STAT_PROTECTED 0).put F.SPL_LAST_LO_FRAME (s.num % 2 ^ 32)).put F.SPL_LAST_HI_FRAME (s.num / 2 ^ 32))

theorem leadShown_protected : s.leadShown.get F.SPL_STAT_PROTECTED = 0 := by
  unfold State.leadShown
  rw [State.get_put_ne _ _ _ _ (by decide), State.get_put_ne _ _ _ _ (by decide), State.get_put_self]
  rfl

theorem leadShown_sync : s.leadShown.get F.SPL_STAT_SYNC = 0 := by
  unfold State.leadShown
  rw [State.get_put_ne _ _ _ _ (by decide), State.get_put_ne _ _ _ _ (by decide), State.get_put_ne _ _ _ _ (by decide), State.get_put_self]
  rfl

theorem leadShown_last : s.leadShown.get F.SPL_LAST_LO_FRAME = s.num % 2 ^ 32 := by
  unfold State.leadShown
  rw [State.get_put_ne _ _ _ _ (by decide), State.get_put_self]
  exact Nat.mod_mod ..

/-- A state that leads, as the registers of the pair show it. -/
structure Leads (t : State) (m : Mode) (num : Nat) : Prop where
  role : t.role = .lead
  mode : t.mode = m
  takeAt : t.spl.takeAt = none
  prot : t.get F.SPL_STAT_PROTECTED = 0
  sync : t.get F.SPL_STAT_SYNC = 0
  last : t.get F.SPL_LAST_LO_FRAME = num % 2 ^ 32
  arp : ∃ v, ⟨.gratuitousArp, [v]⟩ ∈ t.out

theorem Leads.within {D : List Part} {t u : State} {m : Mode} {num : Nat} (h : Leads t m num) (w : Within D t u)
    (sub : ∀ c ∈ D, c ∈ [.prog, .slots, .block 0x16, .regs, .recs, .block 0x19]) 
    (prot : u.get F.SPL_STAT_PROTECTED = t.get F.SPL_STAT_PROTECTED) (sync : u.get F.SPL_STAT_SYNC = t.get F.SPL_STAT_SYNC)
    (last : u.get F.SPL_LAST_LO_FRAME = t.get F.SPL_LAST_LO_FRAME) : Leads u m num := by
  have w := w.mono sub
  exact ⟨w.role.trans h.role, w.mode.trans h.mode, (w.spl_proj Splice.takeAt fun _ => rfl).trans h.takeAt, prot.trans h.prot, sync.trans h.sync,
    last.trans h.last, by rw [w.out]; exact h.arp⟩

/-- The new Lead's lighting plane, at a swap and at a takeover (R562). -/
theorem steady_planeOfLead (u : State) : Steady u ((if swap then (u.judgeTags true u.num).confirmAll else u.planeTaken).planeOn).restage := by
  have judged : Steady u (if swap then (u.judgeTags true u.num).confirmAll else u.planeTaken) := by
    split
    · exact (steady_judgeTags u true u.num).trans (steady_confirmAll _)
    · exact steady_modLight u _
  exact (judged.trans (steady_planeOn _)).trans (steady_restage _)

/-- One announcement of the segment's address. -/
def State.announced : State := s.emitNow .gratuitousArp [(s.get F.SPL_VIP_ADDR : Int)]

theorem within_announced : Within [.out] s s.announced := within_emitNow s _ _ (by decide)

theorem announced_sent : ∃ v, ⟨.gratuitousArp, [v]⟩ ∈ s.announced.out := ⟨_, List.mem_append_right _ (List.mem_singleton_self _)⟩

/-- The role and the number of the pair's state as the new Lead sets them. -/
theorem leads_shown {u : State} {m : Mode} {num last : Nat} (role : u.role = .lead) (mode : u.mode = m) (takeAt : u.spl.takeAt = none)
    (hnum : u.num = num) : Leads (u.leadShown.announced.announced.announced.log Sev.error 3 F.SPL_LAST_LO_FRAME (leBytes 6 last)) m num := by
  have low := leadShown_last u
  rw [hnum] at low
  have prot := leadShown_protected u
  have sync := leadShown_sync u
  have role : u.leadShown.role = .lead := role
  have mode : u.leadShown.mode = m := mode
  have takeAt : u.leadShown.spl.takeAt = none := takeAt
  generalize u.leadShown = v at role mode takeAt prot sync low ⊢
  have within := ((within_announced v).trans (within_announced _)).trans (within_announced _)
  have arp := announced_sent v.announced.announced
  generalize v.announced.announced.announced = w at within arp ⊢
  have leads : Leads w m num := ⟨within.role.trans role, within.mode.trans mode, (within.spl_proj Splice.takeAt fun _ => rfl).trans takeAt,
    within.get.trans prot, within.get.trans sync, within.get.trans low, arp⟩
  exact leads.within (within_log (D := logParts) w _ _ _ _ fun _ h => h) (by decide) (State.log_get _ _ _ _ _ (by decide))
    (State.log_get _ _ _ _ _ (by decide)) (State.log_get _ _ _ _ _ (by decide))

theorem becomeLead_leads : Leads (s.becomeLead swap) s.spl.copied s.num := by
  unfold State.becomeLead
  extract_lets m last s1 s2 s3 s4 s5 s6 s7 s8 s9 s10 s11 s12
  have applied : s1.num = s.num := (applyRecs_applied s).within.num
  have taken : s3.num = s1.num := (steady_taken s1).num
  clear_value s1 s3
  have role : s5.role = .lead := rfl
  have num : s5.num = s3.num := rfl
  have takeAt : s5.spl.takeAt = none := rfl
  clear_value s5
  obtain ⟨mode, -, within⟩ := s5.setMode_mode m
  have plane : Steady s6 s7 := steady_planeOfLead swap s6
  have started : Steady s7 s9 := (steady_modProg s7 _).trans (.ite (steady_fleetRun s8) (.refl s8))
  have steady := plane.trans started
  have shown : s11 = s9.leadShown := rfl
  clear_value s9 s11
  subst shown
  exact leads_shown (u := s9) ((steady.role.trans within.role).trans role) (steady.mode.trans mode)
    ((steady.takeAt.trans (within.spl_proj Splice.takeAt fun _ => rfl)).trans takeAt)
    (((steady.num.trans within.num).trans num).trans (taken.trans applied))

theorem leads_inc {t : State} {m : Mode} {num : Nat} (h : Leads t m num) {f : Fld} (part : f.part = .block 0x16)
    (prot : F.SPL_STAT_PROTECTED.key ≠ f.key) (sync : F.SPL_STAT_SYNC.key ≠ f.key) (last : F.SPL_LAST_LO_FRAME.key ≠ f.key) : Leads (t.inc f) m num :=
  h.within (within_inc (D := [.regs, .block 0x16]) t (by decide) (by rw [part]; decide)) (by decide) (State.get_put_ne _ _ _ _ prot)
    (State.get_put_ne _ _ _ _ sync) (State.get_put_ne _ _ _ _ last)

end Become

theorem takeover_due {s : State} {b : Nat} (role : s.role = .follower) (mode : s.mode = .shadow) (live : s.live = true)
    (at_ : s.spl.takeAt = some b) (due : b ≤ s.num) (low : s.get F.SPL_STAT_ROLE_IN = 0)
    (lost : s.get F.SPL_STAT_PARTNER_HB = 0 ∨ s.spl.relinquished = true) :
    s.takeover = ((s.becomeLead false).inc F.SPL_CNT_TAKEOVERS).vitTrigger (some 3) 4 := by
  have takeDue : s.takeDue = true := by
    unfold State.takeDue
    rw [role, mode, at_]
    exact decide_eq_true due
  unfold State.takeover
  rw [if_neg]
  rw [takeDue, live, State.flag_off low]
  rcases lost with h | h
  · rw [State.flag_off h]; simp
  · rw [h]; simp

/-- TAKEOVER at its boundary. -/
theorem takeover_leads {s : State} {b : Nat} (role : s.role = .follower) (mode : s.mode = .shadow) (live : s.live = true)
    (at_ : s.spl.takeAt = some b) (due : b ≤ s.num) (low : s.get F.SPL_STAT_ROLE_IN = 0)
    (lost : s.get F.SPL_STAT_PARTNER_HB = 0 ∨ s.spl.relinquished = true) : ∃ t, exec .takeover s = .next t ∧ t.role = .lead ∧ t.mode = s.spl.copied ∧
      t.get F.SPL_STAT_PROTECTED = 0 ∧ t.get F.SPL_STAT_SYNC = 0 ∧ t.get F.SPL_LAST_LO_FRAME = s.num % 2 ^ 32 ∧ t.spl.takeAt = none ∧
      ∃ v, ⟨.gratuitousArp, [v]⟩ ∈ t.out := by
  have eq := takeover_due (s := s.begin) role mode live at_ due low lost
  have counted := leads_inc (becomeLead_leads s.begin false) (f := F.SPL_CNT_TAKEOVERS) (by decide) (by decide) (by decide) (by decide)
  generalize (s.begin.becomeLead false).inc F.SPL_CNT_TAKEOVERS = u at eq counted
  have within := within_vitTrigger (D := logParts) u (some 3) 4 fun _ h => h
  have leads := counted.within within (by decide) (within.get (by decide) (by decide)) (within.get (by decide) (by decide))
    (within.get (by decide) (by decide))
  generalize u.vitTrigger (some 3) 4 = v at eq leads
  exact ⟨_, congrArg (fun u => Host.Outcome.next (s.after u)) eq, leads.role, leads.mode, leads.prot, leads.sync, leads.last, leads.takeAt, leads.arp⟩

/-- The inputs and timers of a cycle that starts are the program's alone. -/
theorem within_startCycle (s : State) (short committed : Bool) : Within [.prog, .slots] s (s.startCycle short committed) := by
  unfold State.startCycle State.advanceTimers
  simp (disch := decide)

theorem swapIn_leads (s : State) : Leads s.swapIn s.spl.copied s.num := by
  have counted := leads_inc (becomeLead_leads (s.put F.SPL_STAT_ROLE_IN 0) true) (f := F.SPL_CNT_SWAPS) (by decide) (by decide) (by decide) (by decide)
  unfold State.swapIn
  extract_lets u
  have counted : Leads u s.spl.copied s.num := counted
  clear_value u
  split
  · have within := within_startCycle u false true
    exact counted.within within (by decide) within.get within.get within.get
  · exact counted

/-- SWAP_BOUNDARY at the module that becomes Lead. -/
theorem swapBoundary_leads {s : State} (role : s.role ≠ .lead) (able : s.eligible = true) (live : s.live = true)
    (gone : s.spl.relinquished = true) : ∃ t, exec .swapBoundary s = .next t ∧ t.role = .lead ∧ t.mode = s.spl.copied ∧ t.get F.SPL_STAT_SYNC = 0 := by
  have eq : s.begin.swapBoundary = s.begin.swapIn := by
    unfold State.swapBoundary
    rw [if_neg, if_neg (show s.begin.role ≠ .lead from role), if_pos]
    · rw [show s.begin.eligible = true from able, show s.begin.spl.relinquished = true from gone]; rfl
    · rw [show s.begin.live = true from live]; decide
  have leads : Leads s.begin.swapIn s.spl.copied s.num := swapIn_leads s.begin
  generalize s.begin.swapIn = u at eq leads
  exact ⟨_, congrArg (fun u => Host.Outcome.next (s.after u)) eq, leads.role, leads.mode, leads.sync⟩

theorem swapBoundary_waits {s : State} (role : s.role ≠ .lead) (gone : s.spl.relinquished = false) : s.idle .swapBoundary := by
  refine State.idle_of (f := State.swapBoundary) rfl ?_
  unfold State.swapBoundary
  split
  · rfl
  · rw [if_neg (show s.begin.role ≠ .lead from role), if_neg ?_]
    rw [show s.begin.spl.relinquished = false from gone, Bool.and_false]
    exact Bool.false_ne_true

end Sys2Proof.Machine

/-! ### The old Lead at the boundary of a swap (R561, R562; O51) -/
namespace Sys2Proof.Machine

/-! ### What has been sent stays sent while a mode is left -/

theorem finishAll_grows (s : State) (l : List Origin) (st : Nat) : State.Grows s (s.finishAll l st) :=
  State.grows_foldl (fun u o => finish_grows u o st []) l s

theorem setAxis_grows (s : State) (a : Nat) (x : Axis) : State.Grows s (s.setAxis a x) := State.grows_of_eq rfl rfl

theorem axisEngage_grows (s : State) (a : Nat) : State.Grows s (s.axisEngage a) := by
  unfold State.axisEngage State.endCalls
  split
  · split
    · exact setAxis_grows ..
    · exact .refl s
  · exact ((setAxis_grows s a _).trans (finishAll_grows ..)).trans (setAxis_grows ..)

theorem leaveMode_grows (s : State) (m : Mode) : State.Grows s (s.leaveMode m) := by
  unfold State.leaveMode
  extract_lets u v
  have one : State.Grows s u := by
    unfold u
    split
    · exact State.grows_of_eq rfl rfl
    · exact .refl s
  have two : State.Grows u v := by
    unfold v
    split
    · exact State.grows_foldl axisEngage_grows _ u
    · exact .refl u
  refine (one.trans two).trans ?_
  split
  · exact .refl v
  · exact (within_abandonCycle v).grows

/-- A module that runs in Shadow declares no Stop for its mode. -/
theorem modeCause_grows {s : State} (phase : s.phase = .running) (mode : s.mode = .shadow) : State.Grows s s.modeCause := by
  unfold State.modeCause
  split
  · exact .refl s
  · extract_lets u
    rw [if_pos (by rw [show u.phase = .running from phase, show u.mode = .shadow from mode]; decide)]
    exact State.grows_of_eq rfl rfl

theorem roleOut_grows (s : State) : State.Grows s s.roleOut := by
  unfold State.roleOut
  extract_lets w
  split
  · exact .refl s
  · have shown : State.Grows s (s.putB F.SPL_STAT_ROLE_OUT w) := State.grows_of_eq rfl rfl
    exact shown.trans (State.grows_emitNow ..)

theorem setMode_shadow_grows (s : State) : State.Grows s (s.setMode .shadow) := by
  unfold State.setMode
  extract_lets u v
  have one : State.Grows s v := by
    have prev : State.Grows s u := by
      unfold u
      split
      · exact State.grows_of_eq rfl rfl
      · exact .refl s
    exact prev.trans (State.grows_of_eq rfl rfl)
  exact (one.trans (modeCause_grows (s := v) rfl rfl)).trans (roleOut_grows _)

/-- What Shadow changes in a module that enters it. -/
theorem enterMode_shadow (s : State) : (s.enterMode .shadow).mode = .shadow ∧ Within (leaveParts ++ setModeParts) s (s.enterMode .shadow) ∧
    State.Grows s (s.enterMode .shadow) := by
  unfold State.enterMode
  extract_lets old was plane u v
  have left : Within (leaveParts ++ setModeParts) s (if was then s.leaveMode .shadow else s) ∧
      State.Grows s (if was then s.leaveMode .shadow else s) := by
    split
    · exact ⟨(within_leaveMode s .shadow).mono (by decide), leaveMode_grows s .shadow⟩
    · exact ⟨.refl _ _, .refl s⟩
  obtain ⟨within, grows⟩ := left
  obtain ⟨mode, -, set_⟩ := State.setMode_mode (if was then s.leaveMode .shadow else s) .shadow
  exact ⟨mode, within.trans (set_.mono (by decide)), grows.trans (setMode_shadow_grows _)⟩

/-! ### The old Lead -/

/-- The old Lead follows, as the registers of the pair show it. -/
structure Yields (t : State) (num : Nat) : Prop where
  role : t.role = .follower
  mode : t.mode = .shadow
  swapAt : t.spl.swapAt = none
  prot : t.get F.SPL_STAT_PROTECTED = 0
  last : t.get F.SPL_LAST_LO_FRAME = num % 2 ^ 32
  told : ⟨.relinquish, []⟩ ∈ t.out

theorem Yields.step {t u : State} {num : Nat} (h : Yields t num) (w : Within (.upd :: .modeReqs :: .block 0x17 :: finishParts) t u)
    (g : State.Grows t u) : Yields u num :=
  ⟨w.role.trans h.role, w.mode.trans h.mode, (w.spl_proj Splice.swapAt fun _ => rfl).trans h.swapAt, w.get.trans h.prot,
    w.get.trans h.last, g.out _ h.told⟩

theorem Yields.finish {t : State} {num : Nat} (h : Yields t num) (o : Origin) (st : Nat) : Yields (t.finish o st []) num :=
  h.step (within_finish t o st [] (by decide)) (finish_grows ..)

/-- A pair update goes on with the restart of the old Lead (Table 13.7). -/
theorem Yields.update {t : State} {num : Nat} (h : Yields t num) (g : Update → Update) : Yields ((((t.put F.UPD_STAT_STATUS St.done).finish
    t.upd.by_ St.done []).modUpd g).modeReq (.shutdown false) .quiet) num := by
  have shown : Yields (t.put F.UPD_STAT_STATUS St.done) num := h.step (within_put t _ (by decide) (by decide)) (State.grows_put ..)
  have told := shown.finish t.upd.by_ St.done
  refine (told.step (within_modUpd _ g (by decide)) (State.grows_of_eq rfl rfl)).step ?_ (State.grows_of_eq rfl rfl)
  exact (within_modeReq _ _ _).mono (by decide)

/-- The registers of the pair show the old Lead. -/
theorem yields_shown {u v : State} {num : Nat} (hv : v = ((u.put F.SPL_STAT_SYNC 0).put F.SPL_STAT_PROTECTED 0).inc F.SPL_CNT_SWAPS)
    (role : u.role = .follower) (mode : u.mode = .shadow) (swapAt : u.spl.swapAt = none) (told : ⟨.relinquish, []⟩ ∈ u.out)
    (hnum : u.num = num) : Yields ((v.put F.SPL_LAST_LO_FRAME (v.num % 2 ^ 32)).put F.SPL_LAST_HI_FRAME (v.num / 2 ^ 32)) num := by
  have prot : v.get F.SPL_STAT_PROTECTED = 0 := by
    rw [hv, State.inc, State.add, State.get_put_ne _ _ _ _ (by decide), State.get_put_self]
    rfl
  have hnum : v.num = num := by
    rw [hv]
    exact hnum
  have role : v.role = .follower := hv ▸ role
  have mode : v.mode = .shadow := hv ▸ mode
  have swapAt : v.spl.swapAt = none := hv ▸ swapAt
  have told : ⟨.relinquish, []⟩ ∈ v.out := hv ▸ told
  clear hv
  refine ⟨role, mode, swapAt, ?_, ?_, told⟩
  · rw [State.get_put_ne _ _ _ _ (by decide), State.get_put_ne _ _ _ _ (by decide), prot]
  · rw [State.get_put_ne _ _ _ _ (by decide), State.get_put_self, hnum]
    exact Nat.mod_mod ..

theorem swapOut_yields (s : State) : Yields s.swapOut s.num := by
  unfold State.swapOut
  extract_lets o s1 s2 s3 s4 s5 s6 s7 by_ s8
  have released : s3.num = s.num := (within_release s fun _ => true).num
  have follows : s3.role = .follower ∧ s3.spl.swapAt = none := ⟨rfl, rfl⟩
  clear_value s3
  obtain ⟨role, swapAt⟩ := follows
  have sent : Within [.regs, .block 0x16, .out] s3 (s3.roleOut.emitNow .relinquish []) := (within_roleOut s3).trans (within_emitNow _ _ _ (by decide))
  obtain ⟨mode, entered, grows⟩ := enterMode_shadow (s3.roleOut.emitNow .relinquish [])
  have within : Within (leaveParts ++ setModeParts) s3 s4 := (sent.mono (by decide)).trans entered
  have told : ⟨.relinquish, []⟩ ∈ s4.out := grows.out _ (List.mem_append_right _ (List.mem_singleton_self _))
  have mode : s4.mode = .shadow := mode
  have hv : s5 = ((s4.put F.SPL_STAT_SYNC 0).put F.SPL_STAT_PROTECTED 0).inc F.SPL_CNT_SWAPS := rfl
  clear_value s4 s5
  have shown : Yields s6 s.num := yields_shown hv (within.role.trans role) mode ((within.spl_proj Splice.swapAt fun _ => rfl).trans swapAt) told
    (within.num.trans released)
  have ended : Yields s7 s.num := shown.finish o St.done
  clear_value s6 s7
  split
  · exact ended.update _
  · exact ended

/-- SWAP_BOUNDARY at the Lead. -/
theorem swapBoundary_yields {s : State} {n : Nat} (role : s.role = .lead) (active : s.mode.active = true) (live : s.live = true)
    (at_ : s.spl.swapAt = some n) : (n ≤ s.num → ∃ t, exec .swapBoundary s = .next t ∧ t.role = .follower ∧ t.mode = .shadow ∧
      t.spl.swapAt = none ∧ t.get F.SPL_STAT_PROTECTED = 0 ∧ t.get F.SPL_LAST_LO_FRAME = s.num % 2 ^ 32 ∧ ⟨.relinquish, []⟩ ∈ t.out) ∧
    (s.num < n → s.idle .swapBoundary) := by
  have due : s.begin.swapDue = decide (n ≤ s.num) := by
    unfold State.swapDue
    rw [show s.begin.role = .lead from role, show s.begin.mode.active = true from active, show s.begin.spl.swapAt = some n from at_]
    rfl
  have lead : s.begin.swapBoundary = if s.begin.swapDue = true then s.begin.swapOut else s.begin := by
    refine (if_neg ?_).trans (if_pos role)
    rw [show s.begin.live = true from live]
    decide
  rw [due] at lead
  refine ⟨fun le => ?_, fun lt => State.idle_run rfl (lead.trans (if_neg ?_))⟩
  · have yields := swapOut_yields s.begin
    rw [if_pos (decide_eq_true le)] at lead
    exact ⟨_, congrArg (fun u => Host.Outcome.next (s.after u)) lead, yields.role, yields.mode, yields.swapAt, yields.prot, yields.last, yields.told⟩
  · rw [decide_eq_false (not_le.2 lt)]
    exact Bool.false_ne_true

/-- Settles O51: the loss of the Lead, the takeover and both sides of a swap leave the role, the mode and the pair's state as the chapter
says; what a new Lead ends and takes over leaves these alone. -/
theorem leadsAreTakenOverAndSwapped : Obligations.LeadsAreTakenOverAndSwapped :=
  ⟨fun _ us role mode live waits lost => leadLossDetect_found role mode live us waits lost, leadLossDetect_idle,
    fun _ _ role mode live at_ due low lost => takeover_leads role mode live at_ due low lost, takeover_idle, relinquish_taken,
    leadConflict_basic, roleInRise_follows, swap_decided,
    fun _ _ role active live at_ => swapBoundary_yields role active live at_,
    fun _ role able live => ⟨swapBoundary_leads role able live, swapBoundary_waits role⟩⟩

end Sys2Proof.Machine

end
